-- ==== Sys2Proof/Word.lean ====
section
/-!
DEFINITION. The words of the unit: 16-bit register values and bytes, and the plainest arithmetic on them (R8, R10).
-/

namespace Sys2Proof

/-- A register value: every register of the unit is 16 bits wide (R416). -/
abbrev Word := BitVec 16

/-- A byte of a record, a frame or a memory. -/
abbrev Byte := BitVec 8

end Sys2Proof
end

