-- ==== Sys2Proof/Types.lean ====
section
/-!
DEFINITION. The operand types of the commands: who asks, which source, which bank, what a verify or a measurement
showed. One inductive or structure for each, named as the spec names it.
-/

namespace Sys2Proof

/-- The two part numbers (R1, R2). -/
inductive Part where
  | qtl6410 | qtl6412
  deriving DecidableEq, Repr

/-- Who reaches the registers (R415): Port H, Bunilia on its three transports, the policy firmware.  The codes 0 to 4
of R292 are in this order. -/
inductive Requester where
  | portH | usb | uart | optical | firmware
  deriving DecidableEq, Repr

/-- The requester codes of R292. -/
def Requester.code : Requester → Nat
  | .portH => 0 | .usb => 1 | .uart => 2 | .optical => 3 | .firmware => 4

/-- The transports of a Bunilia command (R370). -/
inductive Transport where
  | usb | uart | optical
  deriving DecidableEq, Repr

/-- A transport as a requester (R415). -/
def Transport.req : Transport → Requester
  | .usb => .usb | .uart => .uart | .optical => .optical

/-- The transport codes of R389. -/
def Transport.code : Transport → Nat
  | .usb => 0 | .uart => 1 | .optical => 2

/-- The four sources; the codes of R292 are 1 to 4 in this order. -/
inductive Source where
  | vin | vbus | vpv | tether
  deriving DecidableEq, Repr

/-- The source codes of R292. -/
def Source.code : Source → Nat
  | .vin => 1 | .vbus => 2 | .vpv => 3 | .tether => 4

/-- The two alarm channels (R32). -/
inductive Channel where
  | alma | almb
  deriving DecidableEq, Repr

/-- The causes of a charge suspension (R167). -/
inductive SuspCause where
  | alarm | proof | sweep | source | temperature
  deriving DecidableEq, Repr

/-- The two ferroelectric banks (R288). -/
inductive Bank where
  | a | b
  deriving DecidableEq, Repr

/-- How the verifies of one array operation went (R302): all passed; slot write `j` of a bank failed once and passed
when repeated; slot write `j` of a bank failed twice. -/
inductive Verify where
  | ok
  | retried (bank : Bank) (j : Nat)
  | failed (bank : Bank) (j : Nat)
  deriving DecidableEq, Repr

/-- The two image copies, and the two firmware slots, A and B (R77, R96). -/
inductive AB where
  | a | b
  deriving DecidableEq, Repr

/-- What the CC1 and CC2 pins present (R333): the dead-battery clamp, the switched Rd, the BIST carrier (R351), or, on the
QTL6412, which has no such pins, nothing. -/
inductive CcEnd where
  | clamp | rd | carrier | absent
  deriving DecidableEq, Repr

/-- What an SBU pin is (R359): high impedance, or a line of the service UART. -/
inductive SbuEnd where
  | highZ
  | transmit
  | receive
  deriving DecidableEq, Repr

/-- The other of the two. -/
def AB.other : AB → AB
  | .a => .b | .b => .a

/-- The codes 0 for A and 1 for B (R87, R490). -/
def AB.code : AB → Nat
  | .a => 0 | .b => 1

/-- What the receiver measured of an accepted frame (R225): carrier amplitude and mean interframe envelope, in mV. -/
structure Carrier where
  amp : Nat
  noise : Nat
  deriving DecidableEq, Repr

/-- Errors a receiver finds in a frame (R234). -/
inductive RxError where
  | stuff | crc | form
  deriving DecidableEq, Repr

/-- Why an own frame did not count as sent (R234, R251): a dominant ACK slot; a bit error; a bit error in the data while
another frame with the same identifier won the bits. -/
inductive TxFail where
  | refused | bitError | beaten
  deriving DecidableEq, Repr

/-- A Tether frame (R227): class, sender address, subtype, data bytes. -/
structure Frame where
  cls : Nat
  addr : Nat
  sub : Nat
  data : List Byte
  deriving DecidableEq, Repr

/-- What the Weighbridge has integrated since it was last asked (R175, R177): the shunt's voltage in pV s, charging positive; the
energy in mJ through VIN, VBUS, VPV, in from VTET, out to VTET; BAT times the shunt's voltage in 10⁻⁹ V² s, into the cell and out
of it. The shunt's value makes current, charge and the cell's energy of them (R190). -/
structure WbMeter where
  dv : Int
  de : List Nat
  deriving DecidableEq, Repr

/-- The three temperatures of a record in 0.01 °C (R176, R196), none for an open or shorted thermistor. -/
structure WbTemps where
  ntca : Option Int
  ntcb : Option Int
  ds6 : Int
  deriving DecidableEq, Repr

/-- What SNAP measured over its 250 ms (R196): BAT in 100 µV and the shunt's voltage in nV with their least and greatest values, and
the temperatures. -/
structure SnapMeasure where
  bat : Nat
  batMin : Nat
  batMax : Nat
  v : Int
  vMin : Int
  vMax : Int
  temps : WbTemps
  deriving DecidableEq, Repr

/-- One point of a sweep as measured (R186, R187): the ratio of BAT's to the shunt's alternating voltage in 0.005, which is 50 µΩ
at a shunt of 10.0 mΩ; phase in 0.01°; whether it was clipped. -/
structure SweepPoint where
  ratio : Nat
  phase : Int
  clipped : Bool
  deriving DecidableEq, Repr

/-- What CAPACITY measured (R189): both open-circuit voltages and the least BAT in 100 µV; out of the cell, the shunt's voltage
integrated in pV s, and multiplied by BAT in 10⁻⁹ V² s; the greatest shunt voltage in nV discharging and charging; the readings of
NTCA and NTCB in 0.01 °C (none for an open or shorted one). -/
structure CapMeasure where
  ocvBegin : Nat
  ocvEnd : Nat
  dv : Nat
  de : Nat
  minBat : Nat
  maxOut : Nat
  maxIn : Nat
  temps : List (Option Int × Option Int)
  deriving DecidableEq, Repr

/-- How a register access reaches the unit (R394, R415): a Port H transaction at this two-wire address, or the policy
firmware. Bunilia reaches the registers through REG_READ and REG_WRITE. -/
inductive Via where
  | portH (addr : Nat)
  | firmware
  deriving DecidableEq, Repr

/-- A Bunilia frame around its command (R370, R373): transport, whether it is of generation 2, tag. -/
structure Bun where
  transport : Transport
  gen2 : Bool
  tag : Nat
  deriving DecidableEq, Repr

/-- The header of a received PD message (R350, R351): revision 0 for 1.0, 1 for 2.0, 2 for 3.x; MessageID. -/
structure PdHeader where
  rev : Nat
  id : Nat
  deriving DecidableEq, Repr

end Sys2Proof
end

