-- ==== Sys2Proof/Syntax.lean ====
section
/-!
DEFINITION. The commands: one constructor for each row of the opcode table, with the operands the command brings. Those
with operands stand first, since Lean compiles no constructor with fields beyond its 244th; each part is in the table's order.
-/

namespace Sys2Proof

/-- The commands of the block: its events, register accesses and protocol operations. -/
inductive Instr where
  /-- VDD18 and VREG5 become valid and a cold start begins, running the AON, SYS, VAUX and strap steps. The strap
  readings in 10 Ω, BAT in mV, a source in range. -/
  | powerOnResetRelease (chemR addrR bat : Nat) (source : Bool)
  /-- Both copy headers have been read, and the copy to read in full first is chosen. Copy A's header; what lay at the
  places probed for copy B. -/
  | imageHeadersRead (a : Option (List Byte)) (oneByte : Bool) (probes : List (Option (List Byte)))
  /-- The body read of a copy completes and the copy is checked; an invalid copy leads to reading the other copy. -/
  | imageBodyReadDone (body : List Byte)
  /-- A Port C attempt fails; the bus is recovered and the read is retried, up to three attempts per device. The
  device; lines low and freed, or faulted. -/
  | portcAttemptFail (dev : Nat) (freed : Option Bool)
  /-- The background check of the copy not loaded completes, and a degraded copy is recorded. None where its device
  did not answer. -/
  | backgroundCopyCheckDone (body : Option (List Byte))
  /-- A warm reset restores Warm and Core registers, resets the core and interfaces, re-reads the straps and
  re-applies the image. The cause of R473. -/
  | warmReset (cause : Nat)
  /-- A core reset restores Core registers and repeats secure start without re-reading the image. The cause of R473.
  -/
  | coreReset (cause : Nat)
  /-- The keyed pair of 0x0001 to SYS_RESET causes a warm reset. The second write of the pair. -/
  | sysResetWarm (via : Via)
  /-- The keyed pair of 0x0002 to SYS_RESET causes a core reset. The second write of the pair. -/
  | sysResetCore (via : Via)
  /-- A keyed SYS_RESET value other than 0x0001 or 0x0002 is ignored and tallied. The second write of the pair; the
  value of the first. -/
  | resetRefused (via : Via) (v : Word)
  /-- The keyed SYS_SHIP pair makes a ship request, which is refused or starts the 1.000 s delay. The second write of
  the pair. -/
  | sysShip (via : Via)
  /-- WAKE held high in SHIP ends SHIP and starts a cold start. -/
  | shipExitWake (ms : Nat) (source : Bool) (bat : Nat) (ends : Bool)
  /-- A latched-enabled source qualifies at the ship-exit detector, and a cold start follows. -/
  | shipExitSource (x : Source) (mv ms : Nat) (attached : Bool) (bat : Nat)
  /-- VHORN reaches 90 % of its target, and HSW closes for a local alarm or as the remote rules allow. VHORN in mV. -/
  | hornReady (vhorn : Nat)
  /-- Horn-ready is not reached within 3 ms, and HORN_FAIL is set and recorded. VHORN and VSYS in mV. -/
  | hornFail (vhorn vsys : Nat)
  /-- A disagreement ends before N samples, is ignored and is counted in ALM_GLITCHCNT. The number of disagreeing
  samples. -/
  | discGlitch (samples : Nat)
  /-- A disagreement reaches N samples, and the unit enters alarm-ready. The channel asserted alone, and the number of
  disagreeing samples. -/
  | discFault (c : Channel) (samples : Nat)
  /-- A valid ALARM frame from a peer sets its origin and starts the remote alarm actions. -/
  | alarmFrameRx (addr kind : Nat) (data : List Byte) (c : Carrier)
  /-- A CLEAR frame from an origin ends its remote alarm. -/
  | clearFrameRx (addr : Nat) (data : List Byte) (c : Carrier)
  /-- No ALARM from an origin for 5.000 s ends its remote alarm. -/
  | remoteTimeout (addr : Nat)
  /-- A write of 1 to ALM_CTRL.HUSH acts as one press. -/
  | almCtrlHush (via : Via)
  /-- A received HUSH frame copies the active origins to the hush set and starts the hush timer. -/
  | hushFrameRx (addr : Nat) (data : List Byte) (c : Carrier)
  /-- VAUX falls below 90 % for 50 µs, nRSTO is asserted and the alarm-channel hold begins. -/
  | vauxUndervoltage (vaux : Nat)
  /-- nRSTO is released 10 ms after VAUX has returned within its setting. -/
  | nrstoRelease (vaux : Nat)
  /-- A source has met its qualification conditions for its hold time, and becomes qualified. -/
  | sourceQualify (x : Source) (mv ticks : Nat)
  /-- An input falls below its collapse threshold, its switch opens and the source is lost. -/
  | inputCollapseTrip (x : Source) (mv : Nat)
  /-- VMUX exceeds an input by 30 mV for 1 µs, and that switch opens. -/
  | reverseTrip (x : Source) (mv vmux : Nat)
  /-- An input exceeds its over-voltage threshold, and its switch opens. -/
  | inputOvTrip (x : Source) (mv : Nat)
  /-- VSYS exceeds 18.5 V, both converters stop and BATFET becomes an ideal diode. -/
  | vsysOvTrip (vsys : Nat)
  /-- VTET falls below 19.5 V, or below 18.0 V during an alarm, and every draw ends within 100 µs. -/
  | tetSinkCutoff (vtet : Nat)
  /-- VPV delivers below 5 mW for 60 s and is lost. -/
  | vpvLowPowerLoss (mv uw ticks : Nat)
  /-- VMUX meets the safe-low rule, the discharge stops and the switch begins to close. -/
  | vmuxSafe (vmux src : Nat)
  /-- R112 still fails after 20 ms of discharge, and the closure is refused. -/
  | safelowTimeout (vmux : Nat)
  /-- VMUX reaches 90 % of the new source, the converter restarts and the new limits are in force. -/
  | changeoverComplete (vmux us : Nat)
  /-- VSYS falls 100 mV below BAT, and BATFET conducts as an ideal diode within 5 µs. -/
  | idealDiodeConduct (vsys bat ma : Nat)
  /-- Discharge over-current or VSYS below 2.0 V for 100 µs opens BATFET. -/
  | batfetTrip (ma vsys : Nat)
  /-- BAT reaches PATH_VSYSMIN − 0.2 V and linear BATFET mode ends. -/
  | linearEnd (bat : Nat)
  /-- At each 2 Hz step, perturb-and-observe tracking moves the VPV target. -/
  | vpvPoStep (up : Bool)
  /-- The 20 ms check ends, SRC_VPV_VOC is stored and tracking restarts. -/
  | vpvOcCheckEnd (mv : Nat)
  /-- A write to SRC_EN, which forces a changeover if it clears the active source. -/
  | srcEnWrite (via : Via) (v : Word)
  /-- A write to SRC_RANK, which starts a planned changeover if the first source changes. -/
  | srcRankWrite (via : Via) (v : Word)
  /-- The VMUX to VSYS ratio crosses a threshold, and the main converter changes region. -/
  | mainRegionChange (vmux : Nat)
  /-- VTET below 18.0 V in SOURCE folds the source current back to 0.2 A. -/
  | tetSourceFoldback (vtet : Nat)
  /-- VTET stays below 12.0 V for 10 ms in SOURCE, and sourcing stops. -/
  | tetShort (vtet ma : Nat)
  /-- The HSW current limit acts for 1 ms, and HSW opens for 100 ms. -/
  | hswOcp (vhorn ma : Nat)
  /-- VAUX below 50 % for 1 ms stops the buck. -/
  | auxShort (vaux : Nat)
  /-- VSYS falls below 2.6 V and VAUX turns off; it turns on again at 2.8 V. -/
  | vauxOff (vsys : Nat)
  /-- A changed VAUX setting holds nRSTO, moves VAUX at 1 V/ms and stores the value. -/
  | convAuxWrite (via : Via) (v : Word)
  /-- BAT falls below 1.8 V, KEEP turns off and its latch clears. -/
  | keepLatchClear (bat : Nat)
  /-- VSYS falls below 3.0 V, Tether sourcing stops and the horn current limit folds back. -/
  | vsysLadder (vsys : Nat)
  /-- The detect test ends, and the charger enters ABSENT or the phase chosen by R158. -/
  | chgDetectDone (bat peak : Nat)
  /-- BAT reaches n × (V_PRE + 0.10 V) and the charger passes to CC. -/
  | chgPreconditionDone (bat : Nat)
  /-- BAT reaches n × VREG in CC and the charger passes to CV. -/
  | chgCvEntry (bat : Nat)
  /-- The current stays below CHG_ITERM for 60 s in CV, and termination as FULL follows. -/
  | chgTermCurrent (bat : Nat)
  /-- The top-up condition holds in REST and TOP-UP begins. -/
  | chgTopupStart (bat : Nat)
  /-- A suspension cause arises, the charge current goes to zero and the timers pause. -/
  | chgSuspend (c : SuspCause)
  /-- The last suspension cause ends, and R158 chooses the next phase. -/
  | chgResume (bat : Nat)
  /-- BAT exceeds n × (CHG_VREG + 0.10 V) for 1 ms, and the charger enters FAULT. -/
  | chgBatOv (bat : Nat)
  /-- A timeout or BAT_OV fault clears 24 h after entry. -/
  | chgFaultAutoclear (bat : Nat)
  /-- A write of 1 to CHG_CTRL.CLRFAULT clears a fault. -/
  | chgClrfault (via : Via)
  /-- A write of 1 to CHG_CTRL.FULL requests one full charge. -/
  | chgFullRequest (via : Via)
  /-- Every 100 ms, the charger reads the thermistors and sets the zone used. -/
  | ntcReading (a b : Option Int)
  /-- The policy firmware writes CHG_SOC; a write with VALID set ends LIMITED operation. -/
  | chgSocWrite (soc : Nat) (valid : Bool)
  /-- The Weighbridge starts: ROM and calibration CRC checks, checkpoint load and WB_RESET record. -/
  | wbStart (romOk calOk refOk : Bool)
  /-- VWB brownout causes a Weighbridge reset. -/
  | vwbBrownout (duringRelease : Bool)
  /-- VWB falls below its early-warning threshold and a clean checkpoint is written. -/
  | vwbEarlyWarning (m : WbMeter)
  /-- Every 1.000 s of WB time, the counters are written to the checkpoint store. -/
  | wbCheckpoint (m : WbMeter)
  /-- The periodic interval ends, and a WB_PERIODIC record is built or deferred. -/
  | wbPeriodicDue (m : WbMeter) (bat : Nat) (v : Int) (t : WbTemps)
  /-- Every 10 s, WBO is checked against AON. -/
  | wbWboCheck (bad : Bool)
  /-- Daily, the main and check references are compared. -/
  | wbReferenceCheck (bad : Bool)
  /-- The Ledger accepts a queued Weighbridge record and a place frees in the outbound queue. -/
  | wbRecordAccepted (v : Verify)
  /-- The mailbox command SNAPSHOT triggers a SNAP sequence. -/
  | snapshot (req : Requester)
  /-- The mailbox command SWEEP triggers an impedance sweep. -/
  | sweep (req : Requester)
  /-- The mailbox command CAP_BEGIN triggers the CAPACITY sequence. -/
  | capBegin (req : Requester)
  /-- The mailbox command CAP_END ends the discharge part of CAPACITY. -/
  | capEnd (req : Requester)
  /-- The mailbox command SET_PERIOD sets the periodic record interval. -/
  | setPeriod (req : Requester)
  /-- The mailbox command SET_CELL sets the rated capacity and I_X. -/
  | setCell (req : Requester)
  /-- The mailbox command IDENT releases a WB_IDENT record. -/
  | wbMailboxIdent (req : Requester)
  /-- The mailbox command CALIBRATE triggers the one-time shunt calibration. -/
  | calibrate (req : Requester)
  /-- The mailbox command RESET with ARG0 = 0x5742 from the policy core resets the Weighbridge. -/
  | wbMailboxReset (req : Requester)
  /-- A write to WB_CMD with an unknown code, or while CMDBUSY is set, gets result 5 or 6. -/
  | wbCmdUnknown (code : Nat)
  /-- The 250 ms SNAP sequence ends and WB_SNAP is released. -/
  | snapDone (m : WbMeter) (x : SnapMeasure)
  /-- The sweep ends at 61.1 s, the reference returns to the charger and WB_SWEEP is released. -/
  | sweepDone (points : List SweepPoint) (peak : Nat) (ntca ntcb : Option Int)
  /-- The 600 s relaxation ends, the capacity is estimated and WB_CAPACITY is released. -/
  | capRelaxDone (m : CapMeasure)
  /-- The 10 s calibration ends, the shunt value is written if in band, and WB_CAL is released. -/
  | calDone (v : Nat)
  /-- A write to WB_RDSEL copies the latest record of that type into the read buffer. -/
  | wbRdselWrite (via : Via) (v : Word)
  /-- A plain read of WB_RDDATA returns two bytes and advances the buffer. How many words. -/
  | wbRddataRead (via : Via) (n : Nat)
  /-- A plain read of VDT_NOTE pops the head entry. How many words. -/
  | vdtNoteRead (via : Via) (n : Nat)
  /-- The first stop condition ends the discharge, the load goes off and CAP_END is issued. -/
  | proofDischargeEnd (bat : Nat)
  /-- A write of 1 to VDT_CTRL.PROOFREQ requests a proof test. -/
  | proofreq (via : Via)
  /-- An own frame ends with a recessive ACK slot and counts as sent. The pending frame that was sent. -/
  | tetFrameSent (f : Frame)
  /-- An own frame is refused or has a bit error; it stays pending, or is dropped after 16 attempts. -/
  | tetFrameRefused (f : Frame) (x : TxFail)
  /-- A transmitter reads dominant in the arbitrated bits and becomes a receiver. -/
  | tetArbLost (f : Frame)
  /-- A receiver finds a stuff, CRC or form error and refuses the frame where the rules require. -/
  | tetRxError (bits : List Bool) (carrier : Bool)
  /-- VTET moves the link between DOWN, LOW and IN RANGE. VTET in mV. -/
  | linkConditionChange (vtet : Nat)
  /-- The bus guardian disconnects TXC and silences the transmitter. Cause 1 or 2 of the TET_GUARD record. -/
  | guardTrip (cause : Nat)
  /-- An accepted HEARTBEAT updates the peer's Stall entry and peer bit. -/
  | heartbeatRx (addr : Nat) (data : List Byte) (c : Carrier)
  /-- No heartbeat from a peer for 95 s marks it missing and voids its market state. -/
  | peerMissing (addr : Nat)
  /-- A write of 1 to TET_CTRL.CENSUS sends a CENSUS request. -/
  | census (via : Via)
  /-- An accepted CENSUS request schedules one extra heartbeat. -/
  | censusRequestRx (addr : Nat) (c : Carrier)
  /-- A CLAIM for the unit's address makes it yield, re-claim or answer with a heartbeat. -/
  | claimRx (addr : Nat) (uid : BitVec 64) (c : Carrier)
  /-- A FAULT frame from a peer is accepted; code 0x30 withdraws that peer's offer and bids. -/
  | faultFrameRx (addr : Nat) (data : List Byte) (c : Carrier)
  /-- A write of 1 to TET_CTRL.READDR erases the stored address and restarts assignment. -/
  | readdr (via : Via)
  /-- A write of 1 to TET_CTRL.LINKTEST sends a LINK_TEST without data. -/
  | linktest (via : Via)
  /-- A received LINK_TEST makes the unit post LINK_ECHO with the same data. -/
  | linkTestRx (addr : Nat) (data : List Byte) (c : Carrier)
  /-- A LINK_ECHO is accepted into the RX queue. -/
  | linkEchoRx (addr : Nat) (data : List Byte) (c : Carrier)
  /-- An accepted OFFER, BID, FIRM or WITHDRAW is checked by generation against the sender's Stall entry and acted on.
  -/
  | marketFrameRx (f : Frame) (c : Carrier)
  /-- The firmware posts an OFFER, open or tentative, with its generation written through first. Powers in 10 mW. -/
  | offerPost (tent : Bool) (pOff left : Nat)
  /-- The firmware posts a BID for needed power. Power in 10 mW. -/
  | bidPost (addr req : Nat)
  /-- An offerer answers a BID with a FIRM granting power in rank order. Powers in 10 mW. -/
  | firmSend (grant left : Nat)
  /-- A WITHDRAW of an offer, bid or grant is sent, and the offerer holds ISRC for 50 ms. Kind as MKT_WITHDRAW codes
  it. -/
  | withdrawSend (kind addr : Nat)
  /-- An offer or bid not refreshed for 75 s lapses, as a WITHDRAW. -/
  | mktLapse (addr : Nat) (isBid : Bool)
  /-- A write to MKT_CFG; clearing an enable makes the firmware withdraw within 1 s. -/
  | mktCfgWrite (via : Via) (v : Word)
  /-- A write to MKT_STALLSEL copies the selected entry into the window. -/
  | mktStallselWrite (via : Via) (v : Word)
  /-- A write to MKT_STALLTAG writes the HOSTTAG of the selected entry through. -/
  | mktStalltagWrite (via : Via) (v : Word)
  /-- A write of 1 to MKT_CTRL.CLRCNT clears bytes 42–51 of the selected entry. -/
  | clrcnt (via : Via)
  /-- The intake writes and verifies a record's slots in both banks of the spool and gives it a sequence. -/
  | ledgerRecordAccept (v : Verify)
  /-- The commit engine moves the oldest spool record to its ring, with keep and pointer writes. -/
  | ledgerCommit (v : Verify)
  /-- A write of 1 to LGR_CTRL.FLUSH builds the TALLY of every open accumulator. -/
  | flush (via : Via)
  /-- An LGR_RDCTRL write in mode EXACT sets up a read of that sequence. -/
  | lgrReadExact (via : Via)
  /-- An LGR_RDCTRL write in mode NEXT sets up a read of the next retained record. -/
  | lgrReadNext (via : Via)
  /-- An LGR_RDCTRL write in mode NEXTPIN sets up a read of the next pinned record. -/
  | lgrReadNextpin (via : Via)
  /-- A plain read of LGR_RDDATA returns two bytes and advances. How many words. -/
  | lgrRddataRead (via : Via) (n : Nat)
  /-- A write to LGR_HPOST posts a HOST_RECORD, checked for duplicate tag. The value of LGR_HPOST. -/
  | lgrHostPost (via : Via) (v : Word)
  /-- A lasting command's journal record is accepted, and the command may execute. -/
  | cmdAccept (v : Verify)
  /-- A command finds the command queue full and is refused. None for Port H. -/
  | cmdBusy (b : Option Bun) (code : Nat)
  /-- VSYS stays low with the converter switching, and the input switch opens as a trip. -/
  | mainConverterFault (vsys mv : Nat)
  /-- Rp held for tCCDebounce with VBUS present enters Attached.SNK. Active pin 0 or 1, advertisement code, VBUS in
  mV. -/
  | tcAttach (pin adv vbus : Nat) (low : Bool) (ticks : Nat)
  /-- Both CC pins show Rp for tCCDebounce and DebugAccessory.SNK is entered. -/
  | debugAccessoryAttach (vbus : Nat) (low : Bool) (ticks : Nat)
  /-- The active CC falls below 0.2 V for tPDDebounce, and detach clears the contract and service mode. -/
  | tcDetach (vbus ticks : Nat)
  /-- A new Rp advertisement holds for tRpValueChange and sets the no-contract limit. -/
  | advertisementChange (adv ticks : Nat)
  /-- Detection ends with SDP, CDP or DCP, or without result, and DP and DM are released. -/
  | bc12Done (result : Nat)
  /-- A Source_Capabilities message arrives and the owning engine requests an object. Objects as 32-bit numbers. -/
  | sourceCapabilitiesRx (h : PdHeader) (objs : List Nat) (posted : Bool)
  /-- Accept arrives and the sink enters standby at the reduced limit. -/
  | acceptRx (h : PdHeader)
  /-- PS_RDY arrives and the new contract current is ramped in. -/
  | psRdyRx (h : PdHeader)
  /-- Wait or Reject answers a Request and counts as one refusal of the object. -/
  | waitRejectRx (h : PdHeader)
  /-- Get_Sink_Cap is answered with Sink_Capabilities. -/
  | getSinkCapRx (h : PdHeader)
  /-- Soft_Reset is accepted and the contract is re-made from the next capabilities. -/
  | softResetRx (h : PdHeader)
  /-- Get_Revision is answered with Revision 3.2. -/
  | getRevisionRx (h : PdHeader)
  /-- An Alert is answered with Get_Status when the firmware owns the port. -/
  | alertRx (h : PdHeader)
  /-- A BIST message starts carrier or test-data mode within a 5 V contract. -/
  | bistRx (h : PdHeader) (mode : Nat)
  /-- DR_Swap, PR_Swap or VCONN_Swap is answered Reject. -/
  | swapRequestRx (h : PdHeader)
  /-- An unsupported, extended or unknown message is answered Not_Supported, Reject or ignored. -/
  | unsupportedMessageRx (h : PdHeader) (kind svid pos cmd : Nat)
  /-- The structured VDM Discover Identity is answered ACK or NAK. -/
  | discoverIdentity (h : PdHeader)
  /-- The structured VDM Discover SVIDs is answered with PD_SVID or NAK. -/
  | discoverSvids (h : PdHeader)
  /-- The structured VDM Discover Modes is answered with the mode VDO or NAK. -/
  | discoverModes (h : PdHeader) (svid : Nat)
  /-- Enter Mode for PD_SVID position 1 is ACKed and service mode begins on SBU. -/
  | enterMode (h : PdHeader) (svid pos : Nat)
  /-- Exit Mode is ACKed and service mode ends. -/
  | exitMode (h : PdHeader) (svid pos : Nat)
  /-- A write to PD_CTRL.TAKE hands the port to the firmware, or returns it to the fallback engine. -/
  | take (on : Bool)
  /-- A write of 1 to PD_CTRL.RENEG clears refusals and sends Get_Source_Cap. -/
  | reneg (via : Via)
  /-- A write of 1 to PD_CTRL.GETCAPS sends Get_Source_Cap. -/
  | getcaps (via : Via)
  /-- A write of 1 to PD_CTRL.EXITSVC ends service mode. -/
  | exitsvc (via : Via)
  /-- SE0 of 2.5 µs resets the device function and discards partial transfers. Whether a control transfer, and an
  FW_CHUNK frame, was in progress. -/
  | usbBusReset (setup chunk : Bool)
  /-- Bus activity ends suspend and the limit returns. The frame number, where the activity is a start-of-frame
  packet. -/
  | usbResume (sof : Option Nat)
  /-- The standard request GET_STATUS is answered. Recipient 0 device, 1 interface, 2 endpoint. -/
  | getStatus (recip ep : Nat)
  /-- The standard request GET_DESCRIPTOR returns the device, configuration or string descriptor. -/
  | getDescriptor (typ idx lang len : Nat)
  /-- The standard request SET_ADDRESS sets the device address. -/
  | setAddress (a : Nat)
  /-- The standard request SET_CONFIGURATION with 0 or 1 configures the device. -/
  | setConfiguration (n : Nat)
  /-- CLEAR_FEATURE of ENDPOINT_HALT on a bulk endpoint is answered. Endpoint 0x81, or 0x01. -/
  | clearFeature (inEp : Bool)
  /-- SET_FEATURE of ENDPOINT_HALT on a bulk endpoint is answered. Endpoint 0x81, or 0x01. -/
  | setFeature (inEp : Bool)
  /-- The Bunilia command OPEN checks the access code and opens a session. -/
  | openSession (b : Bun) (code : Nat)
  /-- The Bunilia command CLOSE closes the session. -/
  | closeSession (b : Bun)
  /-- The Bunilia command IDENT returns the identity of parts, slots, seal and image. -/
  | buniliaIdent (b : Bun)
  /-- The Bunilia command REG_READ returns register words as a Port H read. -/
  | regRead (b : Bun) (addr n : Nat)
  /-- The Bunilia command REG_WRITE writes a register, keyed if asked, bound as a host write. -/
  | regWrite (b : Bun) (addr : Nat) (v : Word) (keyed : Bool)
  /-- The Bunilia command LGR_READ reads Ledger records on its own read path. -/
  | lgrRead (b : Bun) (seq mode n : Nat)
  /-- The Bunilia command STALL_READ returns one Stall entry through the cache. -/
  | stallRead (b : Bun) (addr : Nat)
  /-- The Bunilia command WB_READ returns the latest Weighbridge record of a type. -/
  | wbRead (b : Bun) (typ : Nat)
  /-- The Bunilia command WB_SNAPSHOT issues SNAPSHOT to the mailbox. -/
  | wbSnapshot (b : Bun)
  /-- The Bunilia command WB_CALIBRATE issues CALIBRATE through the policy core. -/
  | wbCalibrate (b : Bun) (ma : Nat)
  /-- The Bunilia command IMG_STAGE stages image bytes in the 64 KiB area. -/
  | imgStage (b : Bun) (offset : Nat) (data : List Byte)
  /-- The Bunilia command IMG_WRITE starts an image write, with reset after if asked. -/
  | imgWrite (b : Bun) (resetAfter : Bool)
  /-- The Bunilia command FW_BEGIN sets the total length and clears staging. -/
  | fwBegin (b : Bun) (total : Nat)
  /-- The Bunilia command FW_CHUNK stages one 512-byte chunk. -/
  | fwChunk (b : Bun) (offset : Nat) (data : List Byte)
  /-- The Bunilia command FW_WRITE writes the staged window into the target slot. -/
  | fwWrite (b : Bun)
  /-- The Bunilia command FW_ACTIVATE verifies the target slot and, once PROOF and ALARM are clear, activates it. -/
  | fwActivate (b : Bun) (slot : Nat) (raiseFloor : Bool)
  /-- The Bunilia command RESET causes a warm or a Weighbridge reset. -/
  | buniliaReset (b : Bun) (target : Nat)
  /-- The Bunilia command SHIP makes a ship request on the optical port, or arms ship-on-detach over USB or UART. -/
  | buniliaShip (b : Bun)
  /-- The Bunilia command CELL_NEW declares a new cell, resets LIFE and erases the baseline. -/
  | cellNew (b : Bun)
  /-- The Bunilia command PROOF_REQ requests a proof test. -/
  | proofReq (b : Bun)
  /-- A Bunilia frame with an unlisted code is answered UNKNOWN. -/
  | buniliaUnknown (b : Bun) (code : Nat)
  /-- A write of 1 to SVC_CTRL.CLOSE closes the session. -/
  | svcCtrlClose (via : Via)
  /-- 8 valid preamble bits in STANDBY switch the receiver to continuous listening. The ambient level in 10 nA. -/
  | optPreambleDetect (amb : Nat)
  /-- Saturation or a fast ambient change declares a flood and discards the frame. The ambient level in 10 nA. -/
  | optFlood (amb : Nat)
  /-- The ambient stays within ±10 % for 50 ms and preamble hunting resumes. The ambient level in 10 nA. -/
  | optSettleEnd (amb : Nat)
  /-- A plain read of OPT_ANSDATA returns two answer bytes and advances. How many words. -/
  | optAnsdataRead (via : Via) (n : Nat)
  /-- An address match with SYS stopped requests SYS and is stretched or NACKed by mode. The seven-bit address on Port
  H. -/
  | twbAddressWake (addr : Nat)
  /-- SCLH low for 30.0 ms abandons the transaction. AON ticks for which SCLH has been low. -/
  | twbClockLowTimeout (ticks : Nat)
  /-- SDAH driven low with no SCLH edge for 35.0 ms is released. AON ticks without an edge of SCLH while SDAH is
  driven low. -/
  | twbSdaRelease (ticks : Nat)
  /-- A PEC-protected write is applied only when its PEC byte is correct. -/
  | twbPecWrite (addr ptr : Nat) (data : List Word) (pec : Byte)
  /-- With the bus free and the gap passed, the pending push is sent. None: the lines are free; else whether SDAH was
  freed within nine clocks. -/
  | twbPushStart (freed : Option Bool)
  /-- The keyed CFG_WRITE of 0x0001 starts writing the staged image to the EEPROM. The second write of the pair. -/
  | cfgWriteStart (via : Via)
  /-- The keyed CFG_WRITE of 0x0003 writes the image and then requests a warm reset. The second write of the pair. -/
  | cfgWriteReset (via : Via)
  /-- Read-back and CRC check end the image write, with a verified or failed result. The bytes read back. -/
  | imageWriteDone (back : List Byte)
  /-- A write to CFG_STGADDR sets the staging offset; an odd value is refused. -/
  | cfgStgaddrWrite (via : Via) (v : Word)
  /-- A plain read or write of CFG_STGDATA moves two staged bytes and advances the offset by 2. The word written, or
  none for a read of so many words. -/
  | cfgStgdataAccess (via : Via) (v : Option Word) (n : Nat)
  /-- A plain write to a register without its own row is applied, or refused for reserved bits, range or permission.
  The pointer, the words from it on, and a byte left over. -/
  | registerWrite (via : Via) (ptr : Nat) (data : List Word) (half : Option Byte)
  /-- A write to the set alias ORs the value into the register. -/
  | setAliasWrite (via : Via) (a : Nat) (v : Word)
  /-- A write to the clear alias clears the given bits, including captured RC bits. -/
  | clearAliasWrite (via : Via) (a : Nat) (v : Word)
  /-- A write to the toggle alias XORs the value into the register. -/
  | toggleAliasWrite (via : Via) (a : Nat) (v : Word)
  /-- A plain read of an RC register clears exactly the bits that were captured. Reads of every other register are
  this command too: the pointer, none for the stored one; how many words; event bits that come between capture and
  transfer. -/
  | rcRegisterRead (via : Via) (ptr : Option Nat) (n : Nat) (late : Word)
  /-- The first write of a keyed pair arms the key on its path. -/
  | keyArm (via : Via) (a : Nat) (v : Word)
  /-- The keyed CFG_COMMIT of 0x0001 sets CFG_REF, refreshes the shadow and clears PEND. The second write of the pair.
  -/
  | cfgCommit (via : Via)
  /-- The keyed CFG_COMMIT of 0x0002 reverts every configuration register to its shadow. The second write of the pair.
  -/
  | cfgDiscard (via : Via)
  /-- The keyed CFG_LOCK of 0x0001 freezes configuration writes, unless writes are pending. The second write of the
  pair. -/
  | cfgLock (via : Via)
  /-- Every 10 ms, the configuration CRC is compared with CFG_REF, and a repeated mismatch is a SAFE cause.
  Configuration register bits that a disturbance has inverted since the last pass. -/
  | cfgCheckPass (upsets : List (Nat × Word))
  /-- A write to PAGESEL changes the compact page at once, also within a burst. -/
  | pageselWrite (via : Via) (v : Word)
  /-- A write of 1 to SNAP_CTRL.TAKE copies the counters and time at one SYS edge. Whether a Port H transaction reads
  page 0x11 at the time. -/
  | snapTake (via : Via) (reading : Bool)
  /-- The crystal has not matched within 2.0 s of power-on-reset release and is faulty. Cause 1 no edge, 2 frequency;
  the deviation measured, in ppm. -/
  | xtalStartTimeout (cause : Nat) (ppm : Int)
  /-- An oscillator shows no edge or a frequency error, and its fall-back takes over. 0 crystal, 1 LFO, 2 HFO, 3 WDO;
  cause 1 no edge, 2 frequency; deviation in ppm. -/
  | oscFault (osc cause : Nat) (ppm : Int)
  /-- A faulty oscillator is retried at its interval, and a return produces CLK_RECOVER. Whether the retried
  oscillator has proved good. -/
  | oscRetry (osc : Nat) (good : Bool)
  /-- Every 1.000 s, the oscillators are checked against one another and HFO2 is trimmed. Deviations in ppm. -/
  | oscCrossCheck (xtal lfo hfo wdo : Int)
  /-- A group write of CLK_TIMESET sets system time by a step or a slew. -/
  | clkTimesetWrite (via : Via) (hi mid lo : Word)
  /-- An accepted SYNC frame corrects system time under the source rules. The frame's time in 1/65,536 s; AON ticks
  since its SOF. -/
  | syncRx (addr time ago : Nat) (c : Carrier)
  /-- A write of 0xA55A to CLK_HWDKICK starts a new first period. -/
  | hwdKick (via : Via) (v : Word)
  /-- A write to CLK_HWDCFG that enables or changes E starts a new first period. -/
  | hwdConfigWrite (via : Via) (v : Word)
  /-- The policy core writes 0x5AA5 to CLK_PWDKICK and services the watchdog. -/
  | pwdKick (v : Word)
  /-- The hardware ends a core event wait after 30.000 s and the watchdog counts again. How long the core has waited.
  -/
  | pwdWaitEnd (ticks : Nat)
  /-- The die sensors are read, broken sensors are found and the throttle factor is applied. Seven counts in 0.25 °C,
  none out of band; the die is quiet. -/
  | thmReading (l : List (Option Int))
  /-- A confirmed reading at 150 °C stops the converters, opens the switches and holds the core. Sensor, and its
  confirmed reading in 0.25 °C. -/
  | thmShutdown (i : Nat) (reading : Int)
  /-- VDD18 or VREG5 falls below its power-on-reset threshold and the unit stops until the next power-on-reset
  release. The slot writes made of an acceptance and of a commit under way. -/
  | powerLoss (intake commit : Nat)
  /-- WAKE rises or falls outside SHIP, so SYS is kept running or released and TWB_STATUS.WAKEPIN follows. -/
  | wakePinChange (high : Bool)
  /-- A Bunilia frame with a wrong CRC, length or generation is answered BADFRAME, where SOF and GEN were read. -/
  | buniliaBadframe (t : Transport) (frame : List Byte)
  /-- The answer to the Get_Status sent after an Alert arrives and is recorded. -/
  | statusMessageRx (h : PdHeader) (data : List Byte)
  /-- Both CC pins stay low for tPDDebounce in AttachWait.SNK and the machine returns to Unattached.SNK. -/
  | attachwaitAbandon (ticks : Nat)
  /-- A complete optical frame with a good CRC delivers its Bunilia command. -/
  | optFrameRx (half : List Bool)
  /-- A coding, length or CRC error discards the optical frame. -/
  | optFrameError (half : List Bool)
  /-- After VBUS has been seen below 0.8 V, Rp held on the same CC pin for tCCDebounce completes the fresh attach that
  lets VBUS qualify again. -/
  | freshAttachDebounce (ticks : Nat)
  /-- 2.000 s after its CLAIM, an unyielded candidate becomes the held address and is stored. -/
  | addrHold (v : Verify)
  /-- Every 10.000 s, dirty diagnostic tallies are written back to the Stall region. -/
  | stallWriteback (v : Verify)
  /-- The supply early warning trips; no new slot write or commit begins. The slot writes done of the record being
  accepted, and of the one being committed. -/
  | supplyEarlyWarning (n m : Nat)
  /-- An activated slot with RAISE_FLOOR runs 1 h without a watchdog reset and the rollback floor is raised. -/
  | floorRaise (v : Verify)
  /-- The firmware recomputes the Ballast and writes CHG_TGT and the Ballast registers. -/
  | ballastRecompute
  /-- Replay ends, the sequence counter resumes, READY is set and a RECOVERY record is accepted first. -/
  | ledgerReplayComplete
  /-- After a failed attempt and the 1 ms wait, the Port C read is tried again. -/
  | portcRetry
  /-- The active slot and then the other slot are verified; the first that verifies is started, or else the hardware
  fallback policy takes effect. -/
  | secureStart
  /-- After 1.000 s with the ship conditions true throughout, the ship-entry record is accepted and SHIP is entered.
  -/
  | shipDelayExpiry
  /-- An armed ship-on-detach request is dropped after 60.0 s without a detach. -/
  | shipArmExpiry
  /-- A raw assertion of ALMA or ALMB requests the SYS clock. -/
  | alarmPinEdge
  /-- With no alarm or discrepancy 1 ms after a raw pin edge, the SYS clock request is withdrawn. -/
  | sysClockRequestWithdraw
  /-- Both filtered channels are sampled asserted, and the alarm start acts in parallel: charge suspension, horn
  boost, alarm slot, overlay and record. -/
  | localAlarmStart
  /-- An ALARM copy falls due at 0, 20 or 40 ms or at each 1.000 s, and replaces any waiting copy in the alarm slot.
  -/
  | alarmCopyDue
  /-- After t_DISC2 of persisting disagreement, one FAULT frame with code 0x10 is sent. -/
  | discBroadcast
  /-- The channels agree for 1.000 s and the discrepancy fault ends. -/
  | discClear
  /-- Both filtered channels are deasserted, and the alarm slot stops and CLEAR frames are posted. -/
  | localAlarmEnd
  /-- After 5.0 s of hold, VHORN is released and the charge suspension ends. -/
  | hornRelease
  /-- HUSH high for 50 ms counts as a press, and sends HUSH frames if ALARM is set. -/
  | hushPress
  /-- The hush timer expires, the hush set empties and HSW closes again for any remaining origin. -/
  | hushTimerExpiry
  /-- After 60.0 s of hold, both channels are taken as deasserted and an active local alarm ends. -/
  | vauxHoldExpiry
  /-- The converters restart 10 ms after a VSYS over-voltage trip. -/
  | vsysOvRestart
  /-- A higher-ranked source is qualified and no alarm or sweep runs, so the planned changeover begins. -/
  | plannedChangeoverBegin
  /-- A refused closure is retried 100 ms later while the source stays qualified. -/
  | safelowRetry
  /-- The cell begins to supplement VSYS, and Tether sourcing guards fail. -/
  | supplementStart
  /-- The cell stops supplementing VSYS. -/
  | supplementEnd
  /-- BATFET is retried for 1 ms every 1.000 s after a trip. -/
  | batfetRetry
  /-- Every 10 min, the draw from VPV is stopped for 20 ms to measure its open-circuit voltage. -/
  | vpvOcCheck
  /-- A write to CONV_TET_CTRL or a guard change moves the Tether converter between SINK, LISTEN and SOURCE through at
  least 1 ms of LISTEN. -/
  | tetModeChange
  /-- SOURCE is retried for 10 ms every 1.000 s after a short. -/
  | tetSourceRetry
  /-- After the 100 ms, HSW closes again while its closing condition holds. -/
  | hswReclose
  /-- The VAUX buck restarts every 100 ms after a short. -/
  | auxRestart
  /-- The charger leaves OFF or FAULT, or retries from ABSENT, and tests for a cell. -/
  | chgDetect
  /-- DETECT is retried every 60 s while the cell is absent. -/
  | chgAbsentRetry
  /-- CHG_SOC reaches CHG_TGT in partial mode, and termination follows. -/
  | chgTargetReached
  /-- A TPRE, TSAFE or TTOPUP timer expires, and the charger enters FAULT. -/
  | chgTimeoutFault
  /-- The thermistors differ by more than 5 °C for 60 s, and the charger enters FAULT. -/
  | ntcDisagree
  /-- CHG_SOC has not been written for 10 s, and LIMITED operation begins. -/
  | chgSocStale
  /-- No recomputation is written within 1 s of PROOF clearing, and the charger resumes against the CHG_TGT it held.
  -/
  | chgResumeTimeout
  /-- The Weighbridge watchdog expires and a Weighbridge reset follows. -/
  | wbWatchdogExpiry
  /-- The current channel is over-range for more than 1 s, which is fault code 0x05. -/
  | wbCurrentOverrange
  /-- A record is released under the next WB sequence number, after a checkpoint. -/
  | wbRecordRelease
  /-- The 30 min holdoff expires and acts as a SWEEP trigger. -/
  | sweepHoldoffExpiry
  /-- The discharge part of CAPACITY reaches 4 h and relaxation begins. -/
  | capDischargeTimeout
  /-- Every 60 s, the RESERVE verdict is formed from E_C and E_V. -/
  | reserveForm
  /-- The curfew ends or local time becomes valid, and held notes enter the FIFO. -/
  | curfewEnd
  /-- 24 h before a scheduled proof test, CHG_TGT is raised for the dose. -/
  | proofLift
  /-- At T0, the checks run; the test is started, deferred or skipped. -/
  | proofChecks
  /-- 30 min after the ALARM overlay clears, a deferred proof test is checked again. -/
  | proofDeferExpiry
  /-- At T0 + 15 min, CAP_BEGIN is issued. -/
  | proofCapacityBegin
  /-- 1.1 s after the capacity begins, the proof load is switched on and the source draw is set to zero. -/
  | proofDischargeStart
  /-- WB_CAPACITY arrives, PROOF clears, the outcome is set and the verdicts are formed. -/
  | proofEnd
  /-- After 60 s without an accepted frame, the receive threshold returns to 120 mV. -/
  | tetThresholdReset
  /-- A silence ends, the pending ALARM copy is sent and a FAULT 0x21 frame follows. -/
  | guardSilenceEnd
  /-- The unit's offset in the 30 s period arrives and a HEARTBEAT is posted. -/
  | heartbeatDue
  /-- Address × 20 ms after the request, the extra HEARTBEAT is sent. -/
  | censusAnswerDue
  /-- The 35 s listening window ends, and a candidate is chosen and CLAIMed. -/
  | addrListenEnd
  /-- 10 min after finding no free address, the unit listens again. -/
  | addrRelisten
  /-- In level mode, TET+ at or above 4.5 V for 100 ms raises a level alarm. -/
  | levelAlarmStart
  /-- In level mode, TET+ below 2.0 V for 1.000 s ends the level alarm. -/
  | levelAlarmEnd
  /-- An offer or bid is re-posted at least every 60 s. -/
  | mktRefreshDue
  /-- No FIRM within 5 s re-posts the BID; after three repeats it is treated as refused. -/
  | bidRetry
  /-- A tentative offer not firmed within MKT_TENTMAX is withdrawn. -/
  | tentmaxExpiry
  /-- 50 ms after a withdrawal or lowering, the offerer lowers CONV_TET_ISRC. -/
  | isrcHoldEnd
  /-- After requalification and the address × 16 ms wait, MKT_DRAWCAP ramps back over 1.000 s. -/
  | cutoffReturn
  /-- An accumulator's TWIN elapses and its TALLY record is built. -/
  | tallyWindowExpiry
  /-- A read setup completes with FOUND, GONE or NOTYET. -/
  | lgrReadDone
  /-- After a start, the firmware re-executes journalled commands without CMD_DONE. -/
  | cmdReplay
  /-- A CC pin rises above 0.2 V and the Type-C machine enters AttachWait.SNK. -/
  | ccRpDetect
  /-- 10 ms after VBUS qualifies, Battery Charging 1.2 detection begins. -/
  | bc12Start
  /-- tSinkRequest after a refusal, the same Request is sent again. -/
  | pdRequestRetry
  /-- 10 min after a third refusal, the refused object may be requested again. -/
  | pdRefusalExpiry
  /-- tBISTContMode ends BIST carrier mode. -/
  | bistCarrierEnd
  /-- A Hard Reset is received and the PD state returns to the no-contract limit. -/
  | hardResetRx
  /-- tSenderResponse expires after a Request and a Hard Reset follows. -/
  | pdSenderResponseTimeout
  /-- tSinkWaitCap expires without Source_Capabilities and a Hard Reset follows. -/
  | pdSinkWaitCapTimeout
  /-- tPSTransition expires without PS_RDY and a Hard Reset follows. -/
  | pdPsTransitionTimeout
  /-- No GoodCRC within tReceive, and the message is retried or escalated. -/
  | pdReceiveTimeout
  /-- tNoResponse expires after a Hard Reset, and the partner is taken as non-PD. -/
  | pdNoResponse
  /-- VBUS has not fallen below 0.8 V within 685 ms of a Hard Reset, and the unit continues at the no-contract limit.
  -/
  | pdHardResetVbusTimeout
  /-- Every 8 s under a PPS or AVS contract, the Request is repeated. -/
  | ppsKeepalive
  /-- The firmware posts no Request within 12 ms, and the fallback engine requests. -/
  | fallbackRequest
  /-- The conditions hold and the D+ pull-up is connected, or removed when one fails. -/
  | usbConnect
  /-- No bus reset within 1.000 s of the pull-up, which is then removed until the next attach. -/
  | usbNohost
  /-- 3 ms without bus activity suspends the device function. -/
  | usbSuspend
  /-- The standard request GET_CONFIGURATION is answered. -/
  | getConfiguration
  /-- The standard request GET_INTERFACE is answered. -/
  | getInterface
  /-- The standard request SET_INTERFACE with alternate 0 is answered. -/
  | setInterface
  /-- Every other standard request is stalled. -/
  | usbStalledRequest
  /-- The vendor request GET_INFO returns eight bytes without the policy core. -/
  | getInfo
  /-- The vendor request ABORT discards a partial OUT frame and any unread answer. -/
  | abort
  /-- A gap of more than 10 ms inside an SBU UART frame discards it. -/
  | uartFrameGap
  /-- A verified activation waiting on PROOF or ALARM proceeds once both clear. -/
  | fwActivateResume
  /-- SVC_CFG.TIMEOUT passes without a valid frame and the session closes. -/
  | sessionTimeout
  /-- 10 min after five wrong codes, OPEN is served again. -/
  | svcLockoutExpiry
  /-- 10 s after the last accepted frame, continuous listening ends. -/
  | optListenTimeout
  /-- TWB_AWAKE after the last STOP, AWAKE clears and SYS may stop. -/
  | twbAwakeExpiry
  /-- A bit of the nINT summary rises and a push falls due. -/
  | twbPushDue
  /-- A push completes with every byte acknowledged. -/
  | twbPushDone
  /-- A push is NACKed, lost or late and is retried, or dropped after three retries. -/
  | twbPushFail
  /-- The unit loses arbitration during a push and releases the lines. -/
  | twbArbLost
  /-- Acknowledge polling finds a page written and the next page is sent. -/
  | eepromPageAck
  /-- A page not acknowledged within 10 ms fails the write and releases CFGWP. -/
  | eepromPageTimeout
  /-- A held group write with no write to the last register for 1 ms is discarded. -/
  | groupWriteHoldTimeout
  /-- The second write of a keyed pair does not come within 1.000 ms and the key is lost. -/
  | keyTimeout
  /-- The 1.000 s hold ends without a commit and the configuration reverts. -/
  | cfgHoldExpiry
  /-- An always-on write reaches the AON domain at the third AON edge and the shadow empties. -/
  | aonWriteApply
  /-- A snapshot taken during a page 0x11 read is shown at that transaction's STOP. -/
  | snapUpdateAtStop
  /-- The crystal matches the LFO for 1.000 s and AON changes to it at a tick boundary. -/
  | xtalSwitch
  /-- At its offset in the 600 s period, or after a host setting, a locally timed unit sends SYNC. -/
  | syncTxDue
  /-- The first host-watchdog period ends and a warning is raised. -/
  | hwdWarn
  /-- The second period ends, nRSTO is pulsed and, with UNITRST, a warm reset is taken. -/
  | hwdExpire
  /-- 1.000 s after the last service, the policy watchdog raises its warning. -/
  | pwdWarn
  /-- The policy watchdog expires, a core reset follows and consecutive resets are counted. -/
  | pwdExpire
  /-- A slot that runs 60.000 s clears the consecutive-reset count. -/
  | pwdSlotStable
  /-- Every 100 ms, a rising throttle factor moves up by at most 1 point. -/
  | thmFactorRise
  /-- All readings below 130 °C, or 110 °C after a third shutdown, for 1.000 s lead to a warm restart. -/
  | thmRestart
  /-- 20 ms after the first HUSH or CLEAR frame, its second copy is posted. -/
  | hushClearRepeat
  /-- tSinkTx after SinkTxOK is seen, a held sink-initiated PD exchange may begin. -/
  | tsinktxExpiry
  /-- tChunkingNotSupported after the first chunk of a chunked extended message, Not_Supported is sent. -/
  | chunkingNotSupportedExpiry
  /-- A VBUS collapse not followed by a detach within 685 ms is treated as a Hard Reset that drops VBUS. -/
  | collapseDetachTimeout
  deriving DecidableEq, Repr

end Sys2Proof
end

