-- ==== Sys2Proof/Config.lean ====
section
/-!
DEFINITION. What the spec leaves to the die, or leaves open: constants without a body. No proof can see a value of one,
so a claim holds whatever it is. Each is named in the assumption log.
-/

namespace Sys2Proof.Config

/-- FREE VALUE: the `n`-th value the spec leaves open, 64 bits wide; a meaning takes it with the counter `State.free`. -/
opaque freeValue : Nat → BitVec 64

/-- FREE VALUE: what stands in a field of `w` bits where the number that belongs there does not fit it and no rule says what
is shown or recorded instead. -/
opaque beyond (w : Nat) (x : Int) : Nat

/-- FREE VALUE: what a measuring register shows at a tick, and the status bits that follow currents and voltages no command
reports: by register and tick. -/
opaque measured (reg tick : Nat) : BitVec 16

/-- The type code under which CMD_BUSY is tallied (R325 names the event and no rule gives its code). -/
opaque cmdBusyType : BitVec 8

/-- The type code under which ignored disagreements are tallied (R37 names the tally and no rule gives its code). -/
opaque glitchType : BitVec 8

/-- The Weighbridge's identity WB_UID, unique to each die (R199). -/
opaque wbUid : BitVec 64

/-- K_WB, written into each die at final test and readable by nothing outside the Weighbridge (R197). -/
opaque kWb : BitVec 256

/-- The two key digests in the one-time memory (R97). -/
opaque keyDigest : Bool → BitVec 256

/-- WB_CALID for a state of the end-product section (R199): the CRC-32 of a memory whose layout no rule gives. -/
opaque calId : Option (Nat × Nat × Nat) → BitVec 32

/-- The mask-ROM table of R189: state of charge in 0.1 % for a CHEM code, an open-circuit voltage in 100 µV and a cell
temperature in 0.01 °C. -/
opaque ocvTable : Nat → Nat → Int → BitVec 10

end Sys2Proof.Config
end

