-- ==== Sys2Proof/Machine/Bits.lean ====
section
/-!
DEFINITION. Bytes and checks: big-endian byte strings, the CRC-32 of R14, the CRC-16 of R15, the packet error code of
the two-wire ports (R403), and the rounding helpers every family uses.
-/

namespace Sys2Proof.Machine

/-- The low `n` bytes of `x`, high byte first. -/
def lowBytes : Nat → Nat → List Byte
  | 0, _ => []
  | n + 1, x => BitVec.ofNat 8 (x / 256 ^ n) :: lowBytes n x

/-- A number for a field of `w` bits: itself where it fits, else a free value. -/
def fit (w x : Nat) : Nat := if x < 2 ^ w then x else Config.beyond w x

/-- `x` as `n` bytes, high byte first (R79, R289). -/
def beBytes (n x : Nat) : List Byte := lowBytes n (fit (8 * n) x)

/-- `x` as `n` bytes, two's complement, high byte first (R196, R292). -/
def beSigned (n : Nat) (x : Int) : List Byte :=
  lowBytes n (if -(256 ^ n : Int) ≤ 2 * x ∧ 2 * x < 256 ^ n then (x % (256 ^ n : Nat)).toNat else Config.beyond (8 * n) x)

/-- The number a byte string spells, high byte first. -/
def beNat (l : List Byte) : Nat := l.foldl (fun a b => a * 256 + b.toNat) 0

/-- One byte of a number. -/
def byte (x : Nat) : Byte := BitVec.ofNat 8 x

/-- A Boolean as a byte of 0 or 1. -/
def boolByte (b : Bool) : Byte := if b then 1 else 0

/-- `l` cut or padded with zero bytes to exactly `n` bytes. -/
def padTo (n : Nat) (l : List Byte) : List Byte := (l ++ List.replicate n 0).take n

/-- Byte `i` of a byte string, 0x00 beyond its end. -/
def byteAt (l : List Byte) (i : Nat) : Byte := l.getD i 0

/-- Bytes `i .. i + n - 1` as a number, high byte first. -/
def natAt (l : List Byte) (i n : Nat) : Nat := beNat (padTo n (l.drop i))

/-- One bit step of the reflected CRC-32 (R14). -/
def crc32Bit (c : Nat) : Nat := if c % 2 = 1 then (c / 2) ^^^ 0xEDB88320 else c / 2

/-- One byte of the CRC-32 (R14). -/
def crc32Byte (c : Nat) (b : Byte) : Nat :=
  crc32Bit (crc32Bit (crc32Bit (crc32Bit (crc32Bit (crc32Bit (crc32Bit (crc32Bit (c ^^^ b.toNat))))))))

/-- The CRC-32 of R14: polynomial 0x04C11DB7, reflected, initial value and final XOR 0xFFFFFFFF. -/
def crc32 (l : List Byte) : Nat := (l.foldl crc32Byte 0xFFFFFFFF) ^^^ 0xFFFFFFFF

/-- One bit step of the CRC-16 (R15). -/
def crc16Bit (c : Nat) : Nat := if 0x8000 ≤ c then (c * 2 % 0x10000) ^^^ 0x1021 else c * 2

/-- One byte of the CRC-16 (R15). -/
def crc16Byte (c : Nat) (b : Byte) : Nat :=
  crc16Bit (crc16Bit (crc16Bit (crc16Bit (crc16Bit (crc16Bit (crc16Bit (crc16Bit (c ^^^ (b.toNat * 256)))))))))

/-- The CRC-16 of R15: polynomial 0x1021, initial value 0xFFFF, no reflection, no final XOR. -/
def crc16 (l : List Byte) : Nat := l.foldl crc16Byte 0xFFFF

/-- One bit step of the packet error code, polynomial x^8 + x^2 + x + 1 (R403). -/
def crc8Bit (c : Nat) : Nat := if 0x80 ≤ c then (c * 2 % 0x100) ^^^ 0x07 else c * 2

/-- The packet error code over a byte string, initial value 0 (R403). -/
def crc8 (l : List Byte) : Nat :=
  l.foldl (fun c b =>
    crc8Bit (crc8Bit (crc8Bit (crc8Bit (crc8Bit (crc8Bit (crc8Bit (crc8Bit (c ^^^ b.toNat))))))))) 0

/-- The quotient rounded up. -/
def ceilDiv (a b : Nat) : Nat := (a + b - 1) / b

/-- The fewest whole AON ticks of 1/32,768 s that last at least `ms` milliseconds (R37: `⌈ms × 32.768⌉`). -/
def msTicks (ms : Nat) : Nat := ceilDiv (ms * 4096) 125

/-- Whole seconds in AON ticks. -/
def secTicks (sec : Nat) : Nat := sec * 32768

/-- A number read as a signed 16-bit value. -/
def toSigned16 (x : Word) : Int := x.toInt

/-- An integer as a 16-bit two's-complement register value. -/
def ofSigned16 (x : Int) : Word := BitVec.ofInt 16 x

/-- A number as a register of 16 bits shows it. -/
def word16 (x : Nat) : Word := BitVec.ofNat 16 (fit 16 x)

/-- A count that stops at 0xFFFF. -/
def sat16 (x : Nat) : Word := BitVec.ofNat 16 (min x 0xFFFF)

/-- A value kept between two bounds. -/
def clampNat (lo hi x : Nat) : Nat := max lo (min hi x)

end Sys2Proof.Machine
end

