-- ==== Sys2Proof/Machine/RegMap.lean ====
section
/-!
DEFINITION. The register map: every register of chapter 18 with its address, access, reset value, restoring reset,
class codes, reserved bits and field Ranges (R469 to R493, and the page table of each block's chapter).
-/

namespace Sys2Proof.Machine

/-- Access codes of R10. -/
inductive Access where
  | rw | ro | rc | wo | rk
  deriving DecidableEq, Repr

/-- The reset that restores a register (R10); `none_` is the table's dash. -/
inductive Restore where
  | cold | warm | core | wb | none_
  deriving DecidableEq, Repr

/-- A field of a register with the Range its chapter gives: bits `lo .. lo + width - 1`, least and greatest value. -/
structure FieldRange where
  lo : Nat
  width : Nat
  least : Nat
  most : Nat
  deriving DecidableEq, Repr

/-- One row of the register map (R469 for the class codes). -/
structure RegInfo where
  addr : Nat
  access : Access
  reset : Nat
  restore : Restore
  cfg : Bool
  key : Bool
  pol : Bool
  aon : Bool
  /-- Bits outside every named field: reserved (R427). -/
  reserved : Nat
  ranges : List FieldRange
  deriving DecidableEq, Repr

/-! ## Register addresses (R470 to R493) -/

namespace R

@[simp] abbrev SYS_ID : Nat := 0x0000
@[simp] abbrev SYS_REV : Nat := 0x0001
@[simp] abbrev SYS_STATE : Nat := 0x0002
@[simp] abbrev SYS_RSTCAUSE : Nat := 0x0003
@[simp] abbrev SYS_BOOT : Nat := 0x0004
@[simp] abbrev SYS_SAFECAUSE : Nat := 0x0005
@[simp] abbrev SYS_EVENT : Nat := 0x0006
@[simp] abbrev SYS_IRQEN : Nat := 0x0007
@[simp] abbrev SYS_INTSUM : Nat := 0x0008
@[simp] abbrev SYS_INTMASK : Nat := 0x0009
@[simp] abbrev SYS_KEYERRCNT : Nat := 0x000A
@[simp] abbrev SYS_RESET : Nat := 0x0010
@[simp] abbrev SYS_RESET_N : Nat := 0x0011
@[simp] abbrev SYS_SHIP : Nat := 0x0012
@[simp] abbrev SYS_SHIP_N : Nat := 0x0013
@[simp] abbrev PAGESEL : Nat := 0x007F
@[simp] abbrev SRC_STATUS : Nat := 0x0100
@[simp] abbrev SRC_EVENT : Nat := 0x0101
@[simp] abbrev SRC_IRQEN : Nat := 0x0102
@[simp] abbrev SRC_EN : Nat := 0x0103
@[simp] abbrev SRC_RANK : Nat := 0x0104
@[simp] abbrev SRC_VIN_ILIM : Nat := 0x0105
@[simp] abbrev SRC_VIN_FLOOR : Nat := 0x0106
@[simp] abbrev SRC_VBUS_ILIM : Nat := 0x0107
@[simp] abbrev SRC_VBUS_FLOOR : Nat := 0x0108
@[simp] abbrev SRC_VPV_ILIM : Nat := 0x0109
@[simp] abbrev SRC_VPV_CFG : Nat := 0x010A
@[simp] abbrev SRC_VPV_VSET : Nat := 0x010B
@[simp] abbrev SRC_TET_ILIM : Nat := 0x010C
@[simp] abbrev SRC_TQUAL : Nat := 0x010D
@[simp] abbrev SRC_VIN_V : Nat := 0x0110
@[simp] abbrev SRC_VBUS_V : Nat := 0x0111
@[simp] abbrev SRC_VPV_V : Nat := 0x0112
@[simp] abbrev SRC_VTET_V : Nat := 0x0113
@[simp] abbrev SRC_IIN : Nat := 0x0114
@[simp] abbrev SRC_VPV_VOC : Nat := 0x0115
@[simp] abbrev SRC_TRIPCNT : Nat := 0x0116
@[simp] abbrev SRC_COLLCNT : Nat := 0x0117
@[simp] abbrev SRC_CHGOVRCNT : Nat := 0x0118
@[simp] abbrev PATH_STATUS : Nat := 0x0200
@[simp] abbrev PATH_EVENT : Nat := 0x0201
@[simp] abbrev PATH_IRQEN : Nat := 0x0202
@[simp] abbrev PATH_VSYSMIN : Nat := 0x0203
@[simp] abbrev PATH_BATOCP : Nat := 0x0204
@[simp] abbrev PATH_CFG : Nat := 0x0205
@[simp] abbrev PATH_VSYS : Nat := 0x0210
@[simp] abbrev PATH_VMUX : Nat := 0x0211
@[simp] abbrev CHG_STATUS : Nat := 0x0300
@[simp] abbrev CHG_EVENT : Nat := 0x0301
@[simp] abbrev CHG_IRQEN : Nat := 0x0302
@[simp] abbrev CHG_CFG : Nat := 0x0303
@[simp] abbrev CHG_CTRL : Nat := 0x0304
@[simp] abbrev CHG_VREG : Nat := 0x0305
@[simp] abbrev CHG_ICHG : Nat := 0x0306
@[simp] abbrev CHG_IPRE : Nat := 0x0307
@[simp] abbrev CHG_ITERM : Nat := 0x0308
@[simp] abbrev CHG_TIMERS : Nat := 0x0309
@[simp] abbrev CHG_HWVREG : Nat := 0x030A
@[simp] abbrev CHG_HWILIM : Nat := 0x030B
@[simp] abbrev CHG_HYST : Nat := 0x030C
@[simp] abbrev CHG_TGTMIN : Nat := 0x030D
@[simp] abbrev CHG_BAL_TSTBY : Nat := 0x0310
@[simp] abbrev CHG_BAL_TALM : Nat := 0x0311
@[simp] abbrev CHG_BAL_PSTBY : Nat := 0x0312
@[simp] abbrev CHG_BAL_PALM : Nat := 0x0313
@[simp] abbrev CHG_BAL_MARGIN : Nat := 0x0314
@[simp] abbrev CHG_BAL_WINDOW : Nat := 0x0315
@[simp] abbrev CHG_TGT : Nat := 0x0318
@[simp] abbrev CHG_BALSOC : Nat := 0x0319
@[simp] abbrev CHG_SOC : Nat := 0x031A
@[simp] abbrev CHG_BALLAST_H : Nat := 0x031B
@[simp] abbrev CHG_BALLAST_L : Nat := 0x031C
@[simp] abbrev CHG_TWORST : Nat := 0x031D
@[simp] abbrev CHG_ZONE : Nat := 0x031E
@[simp] abbrev CHG_IBAT : Nat := 0x031F
@[simp] abbrev CHG_ELAPSED : Nat := 0x0320
@[simp] abbrev CHG_FAULTCNT : Nat := 0x0321
@[simp] abbrev CONV_STATUS : Nat := 0x0400
@[simp] abbrev CONV_EVENT : Nat := 0x0401
@[simp] abbrev CONV_IRQEN : Nat := 0x0402
@[simp] abbrev CONV_MAIN_CFG : Nat := 0x0403
@[simp] abbrev CONV_MAIN_IPK : Nat := 0x0404
@[simp] abbrev CONV_TET_CTRL : Nat := 0x0405
@[simp] abbrev CONV_TET_ISET : Nat := 0x0406
@[simp] abbrev CONV_TET_ISRC : Nat := 0x0407
@[simp] abbrev CONV_TET_VNL : Nat := 0x0408
@[simp] abbrev CONV_TET_DROOP : Nat := 0x0409
@[simp] abbrev CONV_HORN_V : Nat := 0x040A
@[simp] abbrev CONV_AUX : Nat := 0x040B
@[simp] abbrev CONV_KEEP : Nat := 0x040C
@[simp] abbrev CONV_HORN_MEAS : Nat := 0x040D
@[simp] abbrev CONV_TET_I : Nat := 0x040E
@[simp] abbrev CONV_SHEDCNT : Nat := 0x040F
@[simp] abbrev TET_STATUS : Nat := 0x0500
@[simp] abbrev TET_EVENT : Nat := 0x0501
@[simp] abbrev TET_IRQEN : Nat := 0x0502
@[simp] abbrev TET_CFG : Nat := 0x0503
@[simp] abbrev TET_ADDR : Nat := 0x0504
@[simp] abbrev TET_RXTHR : Nat := 0x0505
@[simp] abbrev TET_SIGAMP : Nat := 0x0506
@[simp] abbrev TET_NOISE : Nat := 0x0507
@[simp] abbrev TET_TEC : Nat := 0x0508
@[simp] abbrev TET_REC : Nat := 0x0509
@[simp] abbrev TET_ERRCNT0 : Nat := 0x0510
@[simp] abbrev TET_ERRCNT1 : Nat := 0x0511
@[simp] abbrev TET_ERRCNT2 : Nat := 0x0512
@[simp] abbrev TET_ERRCNT3 : Nat := 0x0513
@[simp] abbrev TET_ERRCNT4 : Nat := 0x0514
@[simp] abbrev TET_ERRCNT5 : Nat := 0x0515
@[simp] abbrev TET_GUARDCNT : Nat := 0x0516
@[simp] abbrev TET_TXCNT : Nat := 0x0517
@[simp] abbrev TET_RXCNT : Nat := 0x0518
@[simp] abbrev TET_PEERS0 : Nat := 0x0520
@[simp] abbrev TET_PEERS1 : Nat := 0x0521
@[simp] abbrev TET_PEERS2 : Nat := 0x0522
@[simp] abbrev TET_PEERS3 : Nat := 0x0523
@[simp] abbrev TET_CTRL : Nat := 0x0530
@[simp] abbrev MKT_STATUS : Nat := 0x0600
@[simp] abbrev MKT_EVENT : Nat := 0x0601
@[simp] abbrev MKT_IRQEN : Nat := 0x0602
@[simp] abbrev MKT_CFG : Nat := 0x0603
@[simp] abbrev MKT_ALMCAP : Nat := 0x0604
@[simp] abbrev MKT_TENTMAX : Nat := 0x0605
@[simp] abbrev MKT_OWNGEN : Nat := 0x0606
@[simp] abbrev MKT_OFFER_P : Nat := 0x0607
@[simp] abbrev MKT_OFFER_FREE : Nat := 0x0608
@[simp] abbrev MKT_DRAWCAP : Nat := 0x0609
@[simp] abbrev MKT_DRAW0 : Nat := 0x0610
@[simp] abbrev MKT_DRAW1 : Nat := 0x0611
@[simp] abbrev MKT_DRAW2 : Nat := 0x0612
@[simp] abbrev MKT_DRAW3 : Nat := 0x0613
@[simp] abbrev MKT_DRAWG0 : Nat := 0x0614
@[simp] abbrev MKT_DRAWG1 : Nat := 0x0615
@[simp] abbrev MKT_DRAWG2 : Nat := 0x0616
@[simp] abbrev MKT_DRAWG3 : Nat := 0x0617
@[simp] abbrev MKT_STALLSEL : Nat := 0x0620
@[simp] abbrev MKT_STALLTAG : Nat := 0x0621
@[simp] abbrev MKT_CTRL : Nat := 0x0622
@[simp] abbrev MKT_CACHE : Nat := 0x0623
@[simp] abbrev MKT_CUTCNT : Nat := 0x0624
@[simp] abbrev MKT_STALECNT : Nat := 0x0625
@[simp] abbrev MKT_LAPSECNT : Nat := 0x0626
@[simp] abbrev MKT_STALLW0 : Nat := 0x0640
@[simp] abbrev MKT_STALLW1 : Nat := 0x0641
@[simp] abbrev MKT_STALLW2 : Nat := 0x0642
@[simp] abbrev MKT_STALLW3 : Nat := 0x0643
@[simp] abbrev MKT_STALLW4 : Nat := 0x0644
@[simp] abbrev MKT_STALLW5 : Nat := 0x0645
@[simp] abbrev MKT_STALLW6 : Nat := 0x0646
@[simp] abbrev MKT_STALLW7 : Nat := 0x0647
@[simp] abbrev MKT_STALLW8 : Nat := 0x0648
@[simp] abbrev MKT_STALLW9 : Nat := 0x0649
@[simp] abbrev MKT_STALLW10 : Nat := 0x064A
@[simp] abbrev MKT_STALLW11 : Nat := 0x064B
@[simp] abbrev MKT_STALLW12 : Nat := 0x064C
@[simp] abbrev MKT_STALLW13 : Nat := 0x064D
@[simp] abbrev MKT_STALLW14 : Nat := 0x064E
@[simp] abbrev MKT_STALLW15 : Nat := 0x064F
@[simp] abbrev MKT_STALLW16 : Nat := 0x0650
@[simp] abbrev MKT_STALLW17 : Nat := 0x0651
@[simp] abbrev MKT_STALLW18 : Nat := 0x0652
@[simp] abbrev MKT_STALLW19 : Nat := 0x0653
@[simp] abbrev MKT_STALLW20 : Nat := 0x0654
@[simp] abbrev MKT_STALLW21 : Nat := 0x0655
@[simp] abbrev MKT_STALLW22 : Nat := 0x0656
@[simp] abbrev MKT_STALLW23 : Nat := 0x0657
@[simp] abbrev MKT_STALLW24 : Nat := 0x0658
@[simp] abbrev MKT_STALLW25 : Nat := 0x0659
@[simp] abbrev MKT_STALLW26 : Nat := 0x065A
@[simp] abbrev MKT_STALLW27 : Nat := 0x065B
@[simp] abbrev MKT_STALLW28 : Nat := 0x065C
@[simp] abbrev MKT_STALLW29 : Nat := 0x065D
@[simp] abbrev MKT_STALLW30 : Nat := 0x065E
@[simp] abbrev MKT_STALLW31 : Nat := 0x065F
@[simp] abbrev ALM_STATUS : Nat := 0x0700
@[simp] abbrev ALM_EVENT : Nat := 0x0701
@[simp] abbrev ALM_IRQEN : Nat := 0x0702
@[simp] abbrev ALM_CFG : Nat := 0x0703
@[simp] abbrev ALM_TDISC : Nat := 0x0704
@[simp] abbrev ALM_TDISC2 : Nat := 0x0705
@[simp] abbrev ALM_THUSH : Nat := 0x0706
@[simp] abbrev ALM_GLITCHCNT : Nat := 0x0707
@[simp] abbrev ALM_ORIGIN0 : Nat := 0x0708
@[simp] abbrev ALM_ORIGIN1 : Nat := 0x0709
@[simp] abbrev ALM_ORIGIN2 : Nat := 0x070A
@[simp] abbrev ALM_ORIGIN3 : Nat := 0x070B
@[simp] abbrev ALM_HUSHSET0 : Nat := 0x070C
@[simp] abbrev ALM_HUSHSET1 : Nat := 0x070D
@[simp] abbrev ALM_HUSHSET2 : Nat := 0x070E
@[simp] abbrev ALM_HUSHSET3 : Nat := 0x070F
@[simp] abbrev ALM_LASTORG : Nat := 0x0710
@[simp] abbrev ALM_CTRL : Nat := 0x0711
@[simp] abbrev WB_STATUS : Nat := 0x0800
@[simp] abbrev WB_EVENT : Nat := 0x0801
@[simp] abbrev WB_IRQEN : Nat := 0x0802
@[simp] abbrev WB_CMD : Nat := 0x0803
@[simp] abbrev WB_ARG0 : Nat := 0x0804
@[simp] abbrev WB_ARG1 : Nat := 0x0805
@[simp] abbrev WB_CMDRES : Nat := 0x0806
@[simp] abbrev WB_OVRCNT : Nat := 0x0807
@[simp] abbrev WB_SEAL_H : Nat := 0x0808
@[simp] abbrev WB_SEAL_L : Nat := 0x0809
@[simp] abbrev WB_CALID_H : Nat := 0x080A
@[simp] abbrev WB_CALID_L : Nat := 0x080B
@[simp] abbrev WB_UID0 : Nat := 0x080C
@[simp] abbrev WB_UID1 : Nat := 0x080D
@[simp] abbrev WB_UID2 : Nat := 0x080E
@[simp] abbrev WB_UID3 : Nat := 0x080F
@[simp] abbrev WB_RDSEL : Nat := 0x0810
@[simp] abbrev WB_RDLEN : Nat := 0x0811
@[simp] abbrev WB_RDDATA : Nat := 0x0812
@[simp] abbrev WB_OUTQ : Nat := 0x0813
@[simp] abbrev WB_SEQNUM_H : Nat := 0x0814
@[simp] abbrev WB_SEQNUM_L : Nat := 0x0815
@[simp] abbrev WB_HOLDOFF : Nat := 0x0816
@[simp] abbrev WB_PERIOD : Nat := 0x0817
@[simp] abbrev VDT_STATUS : Nat := 0x0900
@[simp] abbrev VDT_EVENT : Nat := 0x0901
@[simp] abbrev VDT_IRQEN : Nat := 0x0902
@[simp] abbrev VDT_NOTE : Nat := 0x0903
@[simp] abbrev VDT_NOTECNT : Nat := 0x0904
@[simp] abbrev VDT_CURFEW : Nat := 0x0905
@[simp] abbrev VDT_PROOFCFG : Nat := 0x0906
@[simp] abbrev VDT_DOSE : Nat := 0x0907
@[simp] abbrev VDT_PLOAD : Nat := 0x0908
@[simp] abbrev VDT_LIFE_NEAR : Nat := 0x0909
@[simp] abbrev VDT_ZLIM : Nat := 0x090A
@[simp] abbrev VDT_PROOF : Nat := 0x090B
@[simp] abbrev VDT_NEXT : Nat := 0x090C
@[simp] abbrev VDT_EC : Nat := 0x090D
@[simp] abbrev VDT_EV : Nat := 0x090E
@[simp] abbrev VDT_EA : Nat := 0x090F
@[simp] abbrev VDT_ZBASE : Nat := 0x0910
@[simp] abbrev VDT_ZNOW : Nat := 0x0911
@[simp] abbrev VDT_CEST : Nat := 0x0912
@[simp] abbrev VDT_CTRL : Nat := 0x0913
@[simp] abbrev VDT_SKIPCNT : Nat := 0x0914
@[simp] abbrev LGR_STATUS : Nat := 0x0A00
@[simp] abbrev LGR_EVENT : Nat := 0x0A01
@[simp] abbrev LGR_IRQEN : Nat := 0x0A02
@[simp] abbrev LGR_CFG : Nat := 0x0A03
@[simp] abbrev LGR_SPOOLUSE : Nat := 0x0A04
@[simp] abbrev LGR_SPOOLMAX : Nat := 0x0A05
@[simp] abbrev LGR_NEXTSEQ2 : Nat := 0x0A06
@[simp] abbrev LGR_NEXTSEQ1 : Nat := 0x0A07
@[simp] abbrev LGR_NEXTSEQ0 : Nat := 0x0A08
@[simp] abbrev LGR_CSEQ2 : Nat := 0x0A09
@[simp] abbrev LGR_CSEQ1 : Nat := 0x0A0A
@[simp] abbrev LGR_CSEQ0 : Nat := 0x0A0B
@[simp] abbrev LGR_RINGOLD2 : Nat := 0x0A0C
@[simp] abbrev LGR_RINGOLD1 : Nat := 0x0A0D
@[simp] abbrev LGR_RINGOLD0 : Nat := 0x0A0E
@[simp] abbrev LGR_PINOLD2 : Nat := 0x0A0F
@[simp] abbrev LGR_PINOLD1 : Nat := 0x0A10
@[simp] abbrev LGR_PINOLD0 : Nat := 0x0A11
@[simp] abbrev LGR_RDSEQ2 : Nat := 0x0A12
@[simp] abbrev LGR_RDSEQ1 : Nat := 0x0A13
@[simp] abbrev LGR_RDSEQ0 : Nat := 0x0A14
@[simp] abbrev LGR_RDCTRL : Nat := 0x0A15
@[simp] abbrev LGR_RDSTAT : Nat := 0x0A16
@[simp] abbrev LGR_RDLEN : Nat := 0x0A17
@[simp] abbrev LGR_RDDATA : Nat := 0x0A18
@[simp] abbrev LGR_HBUF0 : Nat := 0x0A20
@[simp] abbrev LGR_HBUF1 : Nat := 0x0A21
@[simp] abbrev LGR_HBUF2 : Nat := 0x0A22
@[simp] abbrev LGR_HBUF3 : Nat := 0x0A23
@[simp] abbrev LGR_HBUF4 : Nat := 0x0A24
@[simp] abbrev LGR_HBUF5 : Nat := 0x0A25
@[simp] abbrev LGR_HTAG : Nat := 0x0A26
@[simp] abbrev LGR_HPOST : Nat := 0x0A27
@[simp] abbrev LGR_HRES : Nat := 0x0A28
@[simp] abbrev LGR_HSEQ2 : Nat := 0x0A29
@[simp] abbrev LGR_HSEQ1 : Nat := 0x0A2A
@[simp] abbrev LGR_HSEQ0 : Nat := 0x0A2B
@[simp] abbrev LGR_TALLYOPEN : Nat := 0x0A30
@[simp] abbrev LGR_HOLDCNT : Nat := 0x0A31
@[simp] abbrev LGR_COALCNT : Nat := 0x0A32
@[simp] abbrev LGR_VFYERR_A : Nat := 0x0A33
@[simp] abbrev LGR_VFYERR_B : Nat := 0x0A34
@[simp] abbrev LGR_CTRL : Nat := 0x0A35
@[simp] abbrev TC_STATUS : Nat := 0x0B00
@[simp] abbrev PD_STATUS : Nat := 0x0B01
@[simp] abbrev PD_EVENT : Nat := 0x0B02
@[simp] abbrev PD_IRQEN : Nat := 0x0B03
@[simp] abbrev PD_CFG : Nat := 0x0B04
@[simp] abbrev PD_VMAX : Nat := 0x0B05
@[simp] abbrev PD_PMAX : Nat := 0x0B06
@[simp] abbrev PD_IMAX : Nat := 0x0B07
@[simp] abbrev PD_FB_VMAX : Nat := 0x0B08
@[simp] abbrev PD_PPS_V : Nat := 0x0B09
@[simp] abbrev PD_AVS_V : Nat := 0x0B0A
@[simp] abbrev PD_VID : Nat := 0x0B0B
@[simp] abbrev PD_PID : Nat := 0x0B0C
@[simp] abbrev PD_SVID : Nat := 0x0B0D
@[simp] abbrev PD_XID_H : Nat := 0x0B0E
@[simp] abbrev PD_XID_L : Nat := 0x0B0F
@[simp] abbrev PD_MODEVDO_H : Nat := 0x0B10
@[simp] abbrev PD_MODEVDO_L : Nat := 0x0B11
@[simp] abbrev PD_CTRL : Nat := 0x0B12
@[simp] abbrev PD_CONTRACT_V : Nat := 0x0B14
@[simp] abbrev PD_CONTRACT_I : Nat := 0x0B15
@[simp] abbrev PD_RDO_H : Nat := 0x0B16
@[simp] abbrev PD_RDO_L : Nat := 0x0B17
@[simp] abbrev PD_LIMIT : Nat := 0x0B18
@[simp] abbrev PD_SRCPDO0 : Nat := 0x0B20
@[simp] abbrev PD_SRCPDO1 : Nat := 0x0B21
@[simp] abbrev PD_SRCPDO2 : Nat := 0x0B22
@[simp] abbrev PD_SRCPDO3 : Nat := 0x0B23
@[simp] abbrev PD_SRCPDO4 : Nat := 0x0B24
@[simp] abbrev PD_SRCPDO5 : Nat := 0x0B25
@[simp] abbrev PD_SRCPDO6 : Nat := 0x0B26
@[simp] abbrev PD_SRCPDO7 : Nat := 0x0B27
@[simp] abbrev PD_SRCPDO8 : Nat := 0x0B28
@[simp] abbrev PD_SRCPDO9 : Nat := 0x0B29
@[simp] abbrev PD_SRCPDO10 : Nat := 0x0B2A
@[simp] abbrev PD_SRCPDO11 : Nat := 0x0B2B
@[simp] abbrev PD_SRCPDO12 : Nat := 0x0B2C
@[simp] abbrev PD_SRCPDO13 : Nat := 0x0B2D
@[simp] abbrev PD_SRCPDOCNT : Nat := 0x0B2E
@[simp] abbrev PD_HRCNT : Nat := 0x0B30
@[simp] abbrev PD_RETRYFAIL : Nat := 0x0B31
@[simp] abbrev PD_REFCNT : Nat := 0x0B32
@[simp] abbrev PD_ATTCNT : Nat := 0x0B33
@[simp] abbrev USB_STATUS : Nat := 0x0C00
@[simp] abbrev USB_EVENT : Nat := 0x0C01
@[simp] abbrev USB_IRQEN : Nat := 0x0C02
@[simp] abbrev USB_CFG : Nat := 0x0C03
@[simp] abbrev USB_VID : Nat := 0x0C04
@[simp] abbrev USB_PID : Nat := 0x0C05
@[simp] abbrev USB_ADDR : Nat := 0x0C06
@[simp] abbrev USB_FRAME : Nat := 0x0C07
@[simp] abbrev USB_RSTCNT : Nat := 0x0C08
@[simp] abbrev OPT_STATUS : Nat := 0x0C20
@[simp] abbrev OPT_EVENT : Nat := 0x0C21
@[simp] abbrev OPT_IRQEN : Nat := 0x0C22
@[simp] abbrev OPT_CFG : Nat := 0x0C23
@[simp] abbrev OPT_AMB : Nat := 0x0C24
@[simp] abbrev OPT_ANSLEN : Nat := 0x0C25
@[simp] abbrev OPT_ANSDATA : Nat := 0x0C26
@[simp] abbrev OPT_FLOODCNT : Nat := 0x0C27
@[simp] abbrev OPT_ERRCNT : Nat := 0x0C28
@[simp] abbrev OPT_RXCNT : Nat := 0x0C29
@[simp] abbrev SVC_STATUS : Nat := 0x0C30
@[simp] abbrev SVC_CFG : Nat := 0x0C31
@[simp] abbrev SVC_CODE_H : Nat := 0x0C32
@[simp] abbrev SVC_CODE_L : Nat := 0x0C33
@[simp] abbrev SVC_FWSTAGE : Nat := 0x0C34
@[simp] abbrev SVC_CTRL : Nat := 0x0C35
@[simp] abbrev TWB_STATUS : Nat := 0x0D00
@[simp] abbrev TWB_EVENT : Nat := 0x0D01
@[simp] abbrev TWB_IRQEN : Nat := 0x0D02
@[simp] abbrev TWB_CFG : Nat := 0x0D03
@[simp] abbrev TWB_ADDR1 : Nat := 0x0D04
@[simp] abbrev TWB_ADDR2 : Nat := 0x0D05
@[simp] abbrev TWB_ADDR3 : Nat := 0x0D06
@[simp] abbrev TWB_AMASK : Nat := 0x0D07
@[simp] abbrev TWB_AWAKE : Nat := 0x0D08
@[simp] abbrev TWB_CTL_CFG : Nat := 0x0D09
@[simp] abbrev TWB_CTL_ADDR : Nat := 0x0D0A
@[simp] abbrev TWB_CTL_PTR : Nat := 0x0D0B
@[simp] abbrev TWB_CTL_GAP : Nat := 0x0D0C
@[simp] abbrev TWB_PUSH : Nat := 0x0D0D
@[simp] abbrev TWB_TOCNT : Nat := 0x0D10
@[simp] abbrev TWB_PECCNT : Nat := 0x0D11
@[simp] abbrev TWB_REFCNT : Nat := 0x0D12
@[simp] abbrev TWB_ARBCNT : Nat := 0x0D13
@[simp] abbrev TWB_PUSHFAIL : Nat := 0x0D14
@[simp] abbrev TWB_RECCNT : Nat := 0x0D15
@[simp] abbrev TWB_PORTC : Nat := 0x0D18
@[simp] abbrev CLK_STATUS : Nat := 0x0E00
@[simp] abbrev CLK_EVENT : Nat := 0x0E01
@[simp] abbrev CLK_IRQEN : Nat := 0x0E02
@[simp] abbrev CLK_CFG : Nat := 0x0E03
@[simp] abbrev CLK_TZ : Nat := 0x0E04
@[simp] abbrev CLK_TIME2 : Nat := 0x0E05
@[simp] abbrev CLK_TIME1 : Nat := 0x0E06
@[simp] abbrev CLK_TIME0 : Nat := 0x0E07
@[simp] abbrev CLK_TIMESET2 : Nat := 0x0E08
@[simp] abbrev CLK_TIMESET1 : Nat := 0x0E09
@[simp] abbrev CLK_TIMESET0 : Nat := 0x0E0A
@[simp] abbrev CLK_LOCAL : Nat := 0x0E0B
@[simp] abbrev CLK_OFFSET : Nat := 0x0E0C
@[simp] abbrev CLK_SYNCSRC : Nat := 0x0E0D
@[simp] abbrev CLK_HWDCFG : Nat := 0x0E10
@[simp] abbrev CLK_HWDKICK : Nat := 0x0E11
@[simp] abbrev CLK_HWDLEFT : Nat := 0x0E12
@[simp] abbrev CLK_PWDKICK : Nat := 0x0E13
@[simp] abbrev CLK_PWD : Nat := 0x0E14
@[simp] abbrev CLK_FAULTCNT : Nat := 0x0E15
@[simp] abbrev CLK_HWDCNT : Nat := 0x0E16
@[simp] abbrev CLK_PWDCNT : Nat := 0x0E17
@[simp] abbrev CLK_SYNCCNT : Nat := 0x0E18
@[simp] abbrev THM_STATUS : Nat := 0x0F00
@[simp] abbrev THM_EVENT : Nat := 0x0F01
@[simp] abbrev THM_IRQEN : Nat := 0x0F02
@[simp] abbrev THM_CFG : Nat := 0x0F03
@[simp] abbrev THM_DS0 : Nat := 0x0F10
@[simp] abbrev THM_DS1 : Nat := 0x0F11
@[simp] abbrev THM_DS2 : Nat := 0x0F12
@[simp] abbrev THM_DS3 : Nat := 0x0F13
@[simp] abbrev THM_DS4 : Nat := 0x0F14
@[simp] abbrev THM_DS5 : Nat := 0x0F15
@[simp] abbrev THM_DS6 : Nat := 0x0F16
@[simp] abbrev THM_FACTOR : Nat := 0x0F17
@[simp] abbrev THM_TM : Nat := 0x0F18
@[simp] abbrev THM_PEAK : Nat := 0x0F19
@[simp] abbrev THM_SDCNT : Nat := 0x0F1A
@[simp] abbrev THM_THRCNT : Nat := 0x0F1B
@[simp] abbrev CFG_STATUS : Nat := 0x1000
@[simp] abbrev CFG_EVENT : Nat := 0x1001
@[simp] abbrev CFG_IRQEN : Nat := 0x1002
@[simp] abbrev CFG_INFO : Nat := 0x1003
@[simp] abbrev CFG_COMMIT : Nat := 0x1004
@[simp] abbrev CFG_COMMIT_N : Nat := 0x1005
@[simp] abbrev CFG_LOCK : Nat := 0x1006
@[simp] abbrev CFG_LOCK_N : Nat := 0x1007
@[simp] abbrev CFG_WRITE : Nat := 0x1008
@[simp] abbrev CFG_WRITE_N : Nat := 0x1009
@[simp] abbrev CFG_GEN_H : Nat := 0x100A
@[simp] abbrev CFG_GEN_L : Nat := 0x100B
@[simp] abbrev CFG_CRC_H : Nat := 0x100C
@[simp] abbrev CFG_CRC_L : Nat := 0x100D
@[simp] abbrev CFG_REF_H : Nat := 0x100E
@[simp] abbrev CFG_REF_L : Nat := 0x100F
@[simp] abbrev CFG_STGADDR : Nat := 0x1010
@[simp] abbrev CFG_STGDATA : Nat := 0x1011
@[simp] abbrev CFG_USER0 : Nat := 0x1018
@[simp] abbrev CFG_USER1 : Nat := 0x1019
@[simp] abbrev CFG_USER2 : Nat := 0x101A
@[simp] abbrev CFG_USER3 : Nat := 0x101B
@[simp] abbrev SNAP_CTRL : Nat := 0x1100
@[simp] abbrev SNAP_STATUS : Nat := 0x1101
@[simp] abbrev SNAP_TIME2 : Nat := 0x1102
@[simp] abbrev SNAP_TIME1 : Nat := 0x1103
@[simp] abbrev SNAP_TIME0 : Nat := 0x1104
@[simp] abbrev SNAP_COPY : Nat := 0x1110

end R

/-- The registers of page 0x00 (R472). -/
def page00 : List RegInfo :=
  [ ⟨R.SYS_ID, .ro, 0x6410, .none_, false, false, false, false, 0x0000, []⟩,
    ⟨R.SYS_REV, .ro, 0x00B1, .none_, false, false, false, false, 0x0000, []⟩,
    ⟨R.SYS_STATE, .ro, 0x0001, .cold, false, false, false, true, 0x0000, []⟩,
    ⟨R.SYS_RSTCAUSE, .ro, 0x0000, .none_, false, false, false, false, 0x0000, []⟩,
    ⟨R.SYS_BOOT, .ro, 0x0000, .warm, false, false, false, false, 0x0000, []⟩,
    ⟨R.SYS_SAFECAUSE, .ro, 0x0000, .warm, false, false, false, false, 0x0000, []⟩,
    ⟨R.SYS_EVENT, .rc, 0x0000, .warm, false, false, false, false, 0x0000, []⟩,
    ⟨R.SYS_IRQEN, .rw, 0x007F, .warm, false, false, false, false, 0xFF80, []⟩,
    ⟨R.SYS_INTSUM, .ro, 0x0000, .warm, false, false, false, false, 0x0000, []⟩,
    ⟨R.SYS_INTMASK, .rw, 0xFFFF, .warm, false, false, false, false, 0x0000, []⟩,
    ⟨R.SYS_KEYERRCNT, .ro, 0x0000, .cold, false, false, false, false, 0x0000, []⟩,
    ⟨R.SYS_RESET, .rk, 0x0000, .none_, false, true, false, false, 0x0000, []⟩,
    ⟨R.SYS_RESET_N, .rk, 0xFFFF, .none_, false, true, false, false, 0x0000, []⟩,
    ⟨R.SYS_SHIP, .rk, 0x0000, .none_, false, true, false, false, 0x0000, []⟩,
    ⟨R.SYS_SHIP_N, .rk, 0xFFFF, .none_, false, true, false, false, 0x0000, []⟩,
    ⟨R.PAGESEL, .rw, 0x0000, .warm, false, false, false, false, 0xFFE0, [⟨0, 5, 0, 17⟩]⟩ ]

/-- The registers of page 0x01 (R475). -/
def page01 : List RegInfo :=
  [ ⟨R.SRC_STATUS, .ro, 0x0000, .warm, false, false, false, false, 0x0000, []⟩,
    ⟨R.SRC_EVENT, .rc, 0x0000, .warm, false, false, false, false, 0x0000, []⟩,
    ⟨R.SRC_IRQEN, .rw, 0x07FF, .warm, false, false, false, false, 0xF800, []⟩,
    ⟨R.SRC_EN, .rw, 0x000F, .warm, true, false, false, false, 0xFFF0, []⟩,
    ⟨R.SRC_RANK, .rw, 0x0039, .warm, true, false, false, false, 0xFFC0, []⟩,
    ⟨R.SRC_VIN_ILIM, .rw, 0x0032, .warm, true, false, false, false, 0xFE00, [⟨0, 9, 10, 300⟩]⟩,
    ⟨R.SRC_VIN_FLOOR, .rw, 0x002B, .warm, true, false, false, false, 0xFE00, [⟨0, 9, 40, 270⟩]⟩,
    ⟨R.SRC_VBUS_ILIM, .rw, 0x012C, .warm, true, false, false, false, 0xFE00, [⟨0, 9, 10, 300⟩]⟩,
    ⟨R.SRC_VBUS_FLOOR, .rw, 0x002C, .warm, true, false, false, false, 0xFE00, [⟨0, 9, 38, 200⟩]⟩,
    ⟨R.SRC_VPV_ILIM, .rw, 0x001E, .warm, true, false, false, false, 0xFE00, [⟨0, 9, 10, 150⟩]⟩,
    ⟨R.SRC_VPV_CFG, .rw, 0x00CC, .warm, true, false, false, false, 0xFE00, [⟨0, 7, 60, 90⟩]⟩,
    ⟨R.SRC_VPV_VSET, .rw, 0x0032, .warm, true, false, false, false, 0xFF00, [⟨0, 8, 25, 180⟩]⟩,
    ⟨R.SRC_TET_ILIM, .rw, 0x0005, .warm, true, false, false, false, 0xFF00, [⟨0, 8, 5, 200⟩]⟩,
    ⟨R.SRC_TQUAL, .rw, 0x0A14, .warm, true, false, false, false, 0x0000, [⟨0, 8, 1, 250⟩, ⟨8, 8, 1, 100⟩]⟩,
    ⟨R.SRC_VIN_V, .ro, 0x0000, .warm, false, false, false, false, 0x0000, []⟩,
    ⟨R.SRC_VBUS_V, .ro, 0x0000, .warm, false, false, false, false, 0x0000, []⟩,
    ⟨R.SRC_VPV_V, .ro, 0x0000, .warm, false, false, false, false, 0x0000, []⟩,
    ⟨R.SRC_VTET_V, .ro, 0x0000, .warm, false, false, false, false, 0x0000, []⟩,
    ⟨R.SRC_IIN, .ro, 0x0000, .warm, false, false, false, false, 0x0000, []⟩,
    ⟨R.SRC_VPV_VOC, .ro, 0x0000, .warm, false, false, false, false, 0x0000, []⟩,
    ⟨R.SRC_TRIPCNT, .ro, 0x0000, .cold, false, false, false, false, 0x0000, []⟩,
    ⟨R.SRC_COLLCNT, .ro, 0x0000, .cold, false, false, false, false, 0x0000, []⟩,
    ⟨R.SRC_CHGOVRCNT, .ro, 0x0000, .cold, false, false, false, false, 0x0000, []⟩ ]

/-- The registers of page 0x02 (R476). -/
def page02 : List RegInfo :=
  [ ⟨R.PATH_STATUS, .ro, 0x0000, .warm, false, false, false, false, 0x0000, []⟩,
    ⟨R.PATH_EVENT, .rc, 0x0000, .warm, false, false, false, false, 0x0000, []⟩,
    ⟨R.PATH_IRQEN, .rw, 0x003F, .warm, false, false, false, false, 0xFFC0, []⟩,
    ⟨R.PATH_VSYSMIN, .rw, 0x0025, .warm, true, false, false, false, 0xFF00, [⟨0, 8, 30, 150⟩]⟩,
    ⟨R.PATH_BATOCP, .rw, 0x0010, .warm, true, false, false, false, 0xFFE0, [⟨0, 5, 4, 19⟩]⟩,
    ⟨R.PATH_CFG, .rw, 0x0000, .warm, true, false, false, false, 0xFFFE, []⟩,
    ⟨R.PATH_VSYS, .ro, 0x0000, .warm, false, false, false, false, 0x0000, []⟩,
    ⟨R.PATH_VMUX, .ro, 0x0000, .warm, false, false, false, false, 0x0000, []⟩ ]

/-- The registers of page 0x03 (R477). -/
def page03 : List RegInfo :=
  [ ⟨R.CHG_STATUS, .ro, 0x0000, .warm, false, false, false, false, 0x0000, []⟩,
    ⟨R.CHG_EVENT, .rc, 0x0000, .warm, false, false, false, false, 0x0000, []⟩,
    ⟨R.CHG_IRQEN, .rw, 0x0FFF, .warm, false, false, false, false, 0xF000, []⟩,
    ⟨R.CHG_CFG, .rw, 0x0003, .warm, true, false, false, false, 0xFFFC, []⟩,
    ⟨R.CHG_CTRL, .wo, 0x0000, .none_, false, false, false, false, 0xFFFC, []⟩,
    ⟨R.CHG_VREG, .rw, 0x015E, .warm, true, false, false, false, 0xFE00, [⟨0, 9, 0, 511⟩]⟩,
    ⟨R.CHG_ICHG, .rw, 0x0014, .warm, true, false, false, false, 0xFF00, [⟨0, 8, 1, 180⟩]⟩,
    ⟨R.CHG_IPRE, .rw, 0x0005, .warm, true, false, false, false, 0xFF00, [⟨0, 8, 1, 100⟩]⟩,
    ⟨R.CHG_ITERM, .rw, 0x0002, .warm, true, false, false, false, 0xFFC0, [⟨0, 6, 1, 50⟩]⟩,
    ⟨R.CHG_TIMERS, .rw, 0x0C8A, .warm, true, false, false, false, 0xC000, [⟨0, 5, 1, 20⟩, ⟨5, 5, 1, 16⟩, ⟨10, 4, 1, 8⟩]⟩,
    ⟨R.CHG_HWVREG, .rw, 0x0154, .warm, true, false, false, false, 0xFE00, [⟨0, 9, 0, 511⟩]⟩,
    ⟨R.CHG_HWILIM, .rw, 0x000A, .warm, true, false, false, false, 0xFF00, [⟨0, 8, 1, 180⟩]⟩,
    ⟨R.CHG_HYST, .rw, 0x001E, .warm, true, false, false, false, 0xFF80, [⟨0, 7, 10, 100⟩]⟩,
    ⟨R.CHG_TGTMIN, .rw, 0x012C, .warm, true, false, false, false, 0xFC00, [⟨0, 10, 100, 1000⟩]⟩,
    ⟨R.CHG_BAL_TSTBY, .rw, 0x0048, .warm, true, false, false, false, 0xFC00, [⟨0, 10, 24, 720⟩]⟩,
    ⟨R.CHG_BAL_TALM, .rw, 0x000A, .warm, true, false, false, false, 0xFF00, [⟨0, 8, 4, 60⟩]⟩,
    ⟨R.CHG_BAL_PSTBY, .rw, 0x0064, .warm, true, false, false, false, 0x0000, [⟨0, 16, 1, 50000⟩]⟩,
    ⟨R.CHG_BAL_PALM, .rw, 0x0BB8, .warm, true, false, false, false, 0x0000, [⟨0, 16, 100, 30000⟩]⟩,
    ⟨R.CHG_BAL_MARGIN, .rw, 0x000F, .warm, true, false, false, false, 0xFFC0, [⟨0, 6, 0, 50⟩]⟩,
    ⟨R.CHG_BAL_WINDOW, .rw, 0x0007, .warm, true, false, false, false, 0xFFE0, [⟨0, 5, 1, 30⟩]⟩,
    ⟨R.CHG_TGT, .ro, 0x03E8, .core, false, false, true, false, 0xFC00, []⟩,
    ⟨R.CHG_BALSOC, .ro, 0x0000, .core, false, false, true, false, 0xFC00, []⟩,
    ⟨R.CHG_SOC, .ro, 0x0000, .core, false, false, true, false, 0x7C00, []⟩,
    ⟨R.CHG_BALLAST_H, .ro, 0x0000, .core, false, false, true, false, 0x0000, []⟩ ] ++
  [ ⟨R.CHG_BALLAST_L, .ro, 0x0000, .core, false, false, true, false, 0x0000, []⟩,
    ⟨R.CHG_TWORST, .ro, 0x0000, .core, false, false, true, false, 0xFF00, []⟩,
    ⟨R.CHG_ZONE, .ro, 0x0000, .warm, false, false, false, false, 0x0000, []⟩,
    ⟨R.CHG_IBAT, .ro, 0x0000, .warm, false, false, false, false, 0x0000, []⟩,
    ⟨R.CHG_ELAPSED, .ro, 0x0000, .warm, false, false, false, false, 0x0000, []⟩,
    ⟨R.CHG_FAULTCNT, .ro, 0x0000, .cold, false, false, false, false, 0x0000, []⟩ ]

/-- The registers of page 0x04 (R478). -/
def page04 : List RegInfo :=
  [ ⟨R.CONV_STATUS, .ro, 0x0000, .warm, false, false, false, false, 0x0000, []⟩,
    ⟨R.CONV_EVENT, .rc, 0x0000, .warm, false, false, false, false, 0x0000, []⟩,
    ⟨R.CONV_IRQEN, .rw, 0x03FF, .warm, false, false, false, false, 0xFC00, []⟩,
    ⟨R.CONV_MAIN_CFG, .rw, 0x0002, .warm, true, false, false, false, 0xFFF0, []⟩,
    ⟨R.CONV_MAIN_IPK, .rw, 0x0010, .warm, true, false, false, false, 0xFFE0, [⟨0, 5, 4, 16⟩]⟩,
    ⟨R.CONV_TET_CTRL, .rw, 0x0000, .core, false, false, true, false, 0xFFFC, []⟩,
    ⟨R.CONV_TET_ISET, .rw, 0x0005, .core, false, false, true, false, 0xFF00, [⟨0, 8, 0, 200⟩]⟩,
    ⟨R.CONV_TET_ISRC, .rw, 0x0000, .core, false, false, true, false, 0xFF00, [⟨0, 8, 0, 200⟩]⟩,
    ⟨R.CONV_TET_VNL, .rw, 0x00F0, .warm, true, false, false, false, 0xFE00, [⟨0, 9, 220, 264⟩]⟩,
    ⟨R.CONV_TET_DROOP, .rw, 0x0005, .warm, true, false, false, false, 0xFFE0, [⟨0, 5, 1, 20⟩]⟩,
    ⟨R.CONV_HORN_V, .rw, 0x005A, .warm, true, false, false, false, 0xFF00, [⟨0, 8, 60, 200⟩]⟩,
    ⟨R.CONV_AUX, .rw, 0x0000, .warm, true, false, false, false, 0xFFFC, []⟩,
    ⟨R.CONV_KEEP, .rw, 0x0000, .none_, true, false, false, false, 0xFF80, [⟨0, 6, 0, 54⟩]⟩,
    ⟨R.CONV_HORN_MEAS, .ro, 0x0000, .warm, false, false, false, false, 0x0000, []⟩,
    ⟨R.CONV_TET_I, .ro, 0x0000, .warm, false, false, false, false, 0x0000, []⟩,
    ⟨R.CONV_SHEDCNT, .ro, 0x0000, .cold, false, false, false, false, 0x0000, []⟩ ]

/-- The registers of page 0x05 (R479). -/
def page05 : List RegInfo :=
  [ ⟨R.TET_STATUS, .ro, 0x0000, .warm, false, false, false, false, 0x0000, []⟩,
    ⟨R.TET_EVENT, .rc, 0x0000, .warm, false, false, false, false, 0x0000, []⟩,
    ⟨R.TET_IRQEN, .rw, 0x1FFC, .warm, false, false, false, false, 0xE000, []⟩,
    ⟨R.TET_CFG, .rw, 0x0002, .warm, true, false, false, false, 0xFFFC, []⟩,
    ⟨R.TET_ADDR, .ro, 0x0000, .cold, false, false, false, true, 0x0000, []⟩,
    ⟨R.TET_RXTHR, .ro, 0x0078, .warm, false, false, false, false, 0x0000, []⟩,
    ⟨R.TET_SIGAMP, .ro, 0x0000, .warm, false, false, false, false, 0x0000, []⟩,
    ⟨R.TET_NOISE, .ro, 0x0000, .warm, false, false, false, false, 0x0000, []⟩,
    ⟨R.TET_TEC, .ro, 0x0000, .warm, false, false, false, false, 0x0000, []⟩,
    ⟨R.TET_REC, .ro, 0x0000, .warm, false, false, false, false, 0x0000, []⟩,
    ⟨R.TET_ERRCNT0, .ro, 0x0000, .cold, false, false, false, false, 0x0000, []⟩,
    ⟨R.TET_ERRCNT1, .ro, 0x0000, .cold, false, false, false, false, 0x0000, []⟩,
    ⟨R.TET_ERRCNT2, .ro, 0x0000, .cold, false, false, false, false, 0x0000, []⟩,
    ⟨R.TET_ERRCNT3, .ro, 0x0000, .cold, false, false, false, false, 0x0000, []⟩,
    ⟨R.TET_ERRCNT4, .ro, 0x0000, .cold, false, false, false, false, 0x0000, []⟩,
    ⟨R.TET_ERRCNT5, .ro, 0x0000, .cold, false, false, false, false, 0x0000, []⟩,
    ⟨R.TET_GUARDCNT, .ro, 0x0000, .cold, false, false, false, false, 0x0000, []⟩,
    ⟨R.TET_TXCNT, .ro, 0x0000, .cold, false, false, false, false, 0x0000, []⟩,
    ⟨R.TET_RXCNT, .ro, 0x0000, .cold, false, false, false, false, 0x0000, []⟩,
    ⟨R.TET_PEERS0, .ro, 0x0000, .warm, false, false, false, false, 0x0000, []⟩,
    ⟨R.TET_PEERS1, .ro, 0x0000, .warm, false, false, false, false, 0x0000, []⟩,
    ⟨R.TET_PEERS2, .ro, 0x0000, .warm, false, false, false, false, 0x0000, []⟩,
    ⟨R.TET_PEERS3, .ro, 0x0000, .warm, false, false, false, false, 0x0000, []⟩,
    ⟨R.TET_CTRL, .wo, 0x0000, .none_, false, false, false, false, 0xFFF8, []⟩ ]

/-- The registers of page 0x06 (R480). -/
def page06 : List RegInfo :=
  [ ⟨R.MKT_STATUS, .ro, 0x0000, .warm, false, false, false, false, 0x0000, []⟩,
    ⟨R.MKT_EVENT, .rc, 0x0000, .warm, false, false, false, false, 0x0000, []⟩,
    ⟨R.MKT_IRQEN, .rw, 0x01BC, .warm, false, false, false, false, 0xFE00, []⟩,
    ⟨R.MKT_CFG, .rw, 0x000F, .warm, true, false, false, false, 0xFFF0, []⟩,
    ⟨R.MKT_ALMCAP, .rw, 0x000A, .warm, true, false, false, false, 0xFF00, [⟨0, 8, 5, 200⟩]⟩,
    ⟨R.MKT_TENTMAX, .rw, 0x000A, .warm, true, false, false, false, 0xFFC0, [⟨0, 6, 1, 60⟩]⟩,
    ⟨R.MKT_OWNGEN, .ro, 0x0000, .none_, false, false, false, false, 0x0000, []⟩,
    ⟨R.MKT_OFFER_P, .ro, 0x0000, .core, false, false, true, false, 0x0000, []⟩,
    ⟨R.MKT_OFFER_FREE, .ro, 0x0000, .core, false, false, true, false, 0x0000, []⟩,
    ⟨R.MKT_DRAWCAP, .ro, 0x0005, .warm, false, false, false, false, 0x0000, []⟩,
    ⟨R.MKT_DRAW0, .ro, 0x0000, .core, false, false, true, false, 0x0000, []⟩,
    ⟨R.MKT_DRAW1, .ro, 0x0000, .core, false, false, true, false, 0x0000, []⟩,
    ⟨R.MKT_DRAW2, .ro, 0x0000, .core, false, false, true, false, 0x0000, []⟩,
    ⟨R.MKT_DRAW3, .ro, 0x0000, .core, false, false, true, false, 0x0000, []⟩,
    ⟨R.MKT_DRAWG0, .ro, 0x0000, .core, false, false, true, false, 0x0000, []⟩,
    ⟨R.MKT_DRAWG1, .ro, 0x0000, .core, false, false, true, false, 0x0000, []⟩,
    ⟨R.MKT_DRAWG2, .ro, 0x0000, .core, false, false, true, false, 0x0000, []⟩,
    ⟨R.MKT_DRAWG3, .ro, 0x0000, .core, false, false, true, false, 0x0000, []⟩,
    ⟨R.MKT_STALLSEL, .rw, 0x0000, .warm, false, false, false, false, 0xFFC0, []⟩,
    ⟨R.MKT_STALLTAG, .rw, 0x0000, .none_, false, false, false, false, 0x0000, []⟩,
    ⟨R.MKT_CTRL, .wo, 0x0000, .none_, false, false, false, false, 0xFFFE, []⟩,
    ⟨R.MKT_CACHE, .ro, 0x0001, .warm, false, false, false, false, 0x0000, []⟩,
    ⟨R.MKT_CUTCNT, .ro, 0x0000, .cold, false, false, false, false, 0x0000, []⟩,
    ⟨R.MKT_STALECNT, .ro, 0x0000, .cold, false, false, false, false, 0x0000, []⟩ ] ++
  [ ⟨R.MKT_LAPSECNT, .ro, 0x0000, .cold, false, false, false, false, 0x0000, []⟩,
    ⟨R.MKT_STALLW0, .ro, 0x0000, .warm, false, false, false, false, 0x0000, []⟩,
    ⟨R.MKT_STALLW1, .ro, 0x0000, .warm, false, false, false, false, 0x0000, []⟩,
    ⟨R.MKT_STALLW2, .ro, 0x0000, .warm, false, false, false, false, 0x0000, []⟩,
    ⟨R.MKT_STALLW3, .ro, 0x0000, .warm, false, false, false, false, 0x0000, []⟩,
    ⟨R.MKT_STALLW4, .ro, 0x0000, .warm, false, false, false, false, 0x0000, []⟩,
    ⟨R.MKT_STALLW5, .ro, 0x0000, .warm, false, false, false, false, 0x0000, []⟩,
    ⟨R.MKT_STALLW6, .ro, 0x0000, .warm, false, false, false, false, 0x0000, []⟩,
    ⟨R.MKT_STALLW7, .ro, 0x0000, .warm, false, false, false, false, 0x0000, []⟩,
    ⟨R.MKT_STALLW8, .ro, 0x0000, .warm, false, false, false, false, 0x0000, []⟩,
    ⟨R.MKT_STALLW9, .ro, 0x0000, .warm, false, false, false, false, 0x0000, []⟩,
    ⟨R.MKT_STALLW10, .ro, 0x0000, .warm, false, false, false, false, 0x0000, []⟩,
    ⟨R.MKT_STALLW11, .ro, 0x0000, .warm, false, false, false, false, 0x0000, []⟩,
    ⟨R.MKT_STALLW12, .ro, 0x0000, .warm, false, false, false, false, 0x0000, []⟩,
    ⟨R.MKT_STALLW13, .ro, 0x0000, .warm, false, false, false, false, 0x0000, []⟩,
    ⟨R.MKT_STALLW14, .ro, 0x0000, .warm, false, false, false, false, 0x0000, []⟩,
    ⟨R.MKT_STALLW15, .ro, 0x0000, .warm, false, false, false, false, 0x0000, []⟩,
    ⟨R.MKT_STALLW16, .ro, 0x0000, .warm, false, false, false, false, 0x0000, []⟩,
    ⟨R.MKT_STALLW17, .ro, 0x0000, .warm, false, false, false, false, 0x0000, []⟩,
    ⟨R.MKT_STALLW18, .ro, 0x0000, .warm, false, false, false, false, 0x0000, []⟩,
    ⟨R.MKT_STALLW19, .ro, 0x0000, .warm, false, false, false, false, 0x0000, []⟩,
    ⟨R.MKT_STALLW20, .ro, 0x0000, .warm, false, false, false, false, 0x0000, []⟩,
    ⟨R.MKT_STALLW21, .ro, 0x0000, .warm, false, false, false, false, 0x0000, []⟩,
    ⟨R.MKT_STALLW22, .ro, 0x0000, .warm, false, false, false, false, 0x0000, []⟩ ] ++
  [ ⟨R.MKT_STALLW23, .ro, 0x0000, .warm, false, false, false, false, 0x0000, []⟩,
    ⟨R.MKT_STALLW24, .ro, 0x0000, .warm, false, false, false, false, 0x0000, []⟩,
    ⟨R.MKT_STALLW25, .ro, 0x0000, .warm, false, false, false, false, 0x0000, []⟩,
    ⟨R.MKT_STALLW26, .ro, 0x0000, .warm, false, false, false, false, 0x0000, []⟩,
    ⟨R.MKT_STALLW27, .ro, 0x0000, .warm, false, false, false, false, 0x0000, []⟩,
    ⟨R.MKT_STALLW28, .ro, 0x0000, .warm, false, false, false, false, 0x0000, []⟩,
    ⟨R.MKT_STALLW29, .ro, 0x0000, .warm, false, false, false, false, 0x0000, []⟩,
    ⟨R.MKT_STALLW30, .ro, 0x0000, .warm, false, false, false, false, 0x0000, []⟩,
    ⟨R.MKT_STALLW31, .ro, 0x0000, .warm, false, false, false, false, 0x0000, []⟩ ]

/-- The registers of page 0x07 (R481). -/
def page07 : List RegInfo :=
  [ ⟨R.ALM_STATUS, .ro, 0x0000, .cold, false, false, false, true, 0x0000, []⟩,
    ⟨R.ALM_EVENT, .rc, 0x0000, .cold, false, false, false, true, 0x0000, []⟩,
    ⟨R.ALM_IRQEN, .rw, 0x03FF, .warm, false, false, false, false, 0xFC00, []⟩,
    ⟨R.ALM_CFG, .rw, 0x0008, .warm, true, false, false, false, 0xFFF0, []⟩,
    ⟨R.ALM_TDISC, .rw, 0x0032, .warm, true, false, false, false, 0xFE00, [⟨0, 9, 5, 500⟩]⟩,
    ⟨R.ALM_TDISC2, .rw, 0x000A, .warm, true, false, false, false, 0xFFC0, [⟨0, 6, 1, 60⟩]⟩,
    ⟨R.ALM_THUSH, .rw, 0x000A, .warm, true, false, false, false, 0xFFF0, [⟨0, 4, 1, 15⟩]⟩,
    ⟨R.ALM_GLITCHCNT, .ro, 0x0000, .cold, false, false, false, true, 0x0000, []⟩,
    ⟨R.ALM_ORIGIN0, .ro, 0x0000, .cold, false, false, false, true, 0x0000, []⟩,
    ⟨R.ALM_ORIGIN1, .ro, 0x0000, .cold, false, false, false, true, 0x0000, []⟩,
    ⟨R.ALM_ORIGIN2, .ro, 0x0000, .cold, false, false, false, true, 0x0000, []⟩,
    ⟨R.ALM_ORIGIN3, .ro, 0x0000, .cold, false, false, false, true, 0x0000, []⟩,
    ⟨R.ALM_HUSHSET0, .ro, 0x0000, .cold, false, false, false, true, 0x0000, []⟩,
    ⟨R.ALM_HUSHSET1, .ro, 0x0000, .cold, false, false, false, true, 0x0000, []⟩,
    ⟨R.ALM_HUSHSET2, .ro, 0x0000, .cold, false, false, false, true, 0x0000, []⟩,
    ⟨R.ALM_HUSHSET3, .ro, 0x0000, .cold, false, false, false, true, 0x0000, []⟩,
    ⟨R.ALM_LASTORG, .ro, 0x0000, .cold, false, false, false, true, 0x0000, []⟩,
    ⟨R.ALM_CTRL, .wo, 0x0000, .none_, false, false, false, false, 0xFFFE, []⟩ ]

/-- The registers of page 0x08 (R482). -/
def page08 : List RegInfo :=
  [ ⟨R.WB_STATUS, .ro, 0x0000, .wb, false, false, false, false, 0x0000, []⟩,
    ⟨R.WB_EVENT, .rc, 0x0000, .warm, false, false, false, false, 0x0000, []⟩,
    ⟨R.WB_IRQEN, .rw, 0x007E, .warm, false, false, false, false, 0xFF80, []⟩,
    ⟨R.WB_CMD, .wo, 0x0000, .none_, false, false, false, false, 0xFF00, []⟩,
    ⟨R.WB_ARG0, .rw, 0x0000, .warm, false, false, false, false, 0x0000, []⟩,
    ⟨R.WB_ARG1, .rw, 0x0000, .warm, false, false, false, false, 0x0000, []⟩,
    ⟨R.WB_CMDRES, .ro, 0x0000, .wb, false, false, false, false, 0x0000, []⟩,
    ⟨R.WB_OVRCNT, .ro, 0x0000, .wb, false, false, false, false, 0x0000, []⟩,
    ⟨R.WB_SEAL_H, .ro, 0x7A3C, .none_, false, false, false, false, 0x0000, []⟩,
    ⟨R.WB_SEAL_L, .ro, 0x19E5, .none_, false, false, false, false, 0x0000, []⟩,
    ⟨R.WB_CALID_H, .ro, 0x0000, .wb, false, false, false, false, 0x0000, []⟩,
    ⟨R.WB_CALID_L, .ro, 0x0000, .wb, false, false, false, false, 0x0000, []⟩,
    ⟨R.WB_UID0, .ro, 0x0000, .none_, false, false, false, false, 0x0000, []⟩,
    ⟨R.WB_UID1, .ro, 0x0000, .none_, false, false, false, false, 0x0000, []⟩,
    ⟨R.WB_UID2, .ro, 0x0000, .none_, false, false, false, false, 0x0000, []⟩,
    ⟨R.WB_UID3, .ro, 0x0000, .none_, false, false, false, false, 0x0000, []⟩,
    ⟨R.WB_RDSEL, .rw, 0x0000, .warm, false, false, false, false, 0xFFF0, []⟩,
    ⟨R.WB_RDLEN, .ro, 0x0000, .warm, false, false, false, false, 0x0000, []⟩,
    ⟨R.WB_RDDATA, .ro, 0x0000, .warm, false, false, false, false, 0x0000, []⟩,
    ⟨R.WB_OUTQ, .ro, 0x0000, .wb, false, false, false, false, 0x0000, []⟩,
    ⟨R.WB_SEQNUM_H, .ro, 0x0000, .wb, false, false, false, false, 0x0000, []⟩,
    ⟨R.WB_SEQNUM_L, .ro, 0x0000, .wb, false, false, false, false, 0x0000, []⟩,
    ⟨R.WB_HOLDOFF, .ro, 0x0000, .wb, false, false, false, false, 0x0000, []⟩,
    ⟨R.WB_PERIOD, .ro, 0x000F, .wb, false, false, false, false, 0x0000, []⟩ ]

/-- The registers of page 0x09 (R483). -/
def page09 : List RegInfo :=
  [ ⟨R.VDT_STATUS, .ro, 0x0000, .warm, false, false, true, false, 0xFC00, []⟩,
    ⟨R.VDT_EVENT, .rc, 0x0000, .warm, false, false, false, false, 0x0000, []⟩,
    ⟨R.VDT_IRQEN, .rw, 0x003F, .warm, false, false, false, false, 0xFFC0, []⟩,
    ⟨R.VDT_NOTE, .rc, 0x0000, .warm, false, false, false, false, 0x0000, []⟩,
    ⟨R.VDT_NOTECNT, .ro, 0x0000, .warm, false, false, false, false, 0x0000, []⟩,
    ⟨R.VDT_CURFEW, .rw, 0x3084, .warm, true, false, false, false, 0x0000, [⟨0, 8, 0, 143⟩, ⟨8, 8, 0, 143⟩]⟩,
    ⟨R.VDT_PROOFCFG, .rw, 0x00B9, .warm, true, false, false, false, 0x8000, [⟨0, 3, 0, 6⟩, ⟨4, 5, 0, 23⟩, ⟨9, 6, 0, 59⟩]⟩,
    ⟨R.VDT_DOSE, .rw, 0x000A, .warm, true, false, false, false, 0xFFC0, [⟨0, 6, 2, 30⟩]⟩,
    ⟨R.VDT_PLOAD, .rw, 0x0032, .warm, true, false, false, false, 0xFF00, [⟨0, 8, 10, 200⟩]⟩,
    ⟨R.VDT_LIFE_NEAR, .rw, 0x0050, .warm, true, false, false, false, 0xFF80, [⟨0, 7, 50, 95⟩]⟩,
    ⟨R.VDT_ZLIM, .rw, 0x140F, .warm, true, false, false, false, 0x0000, [⟨0, 8, 11, 30⟩, ⟨8, 8, 12, 40⟩]⟩,
    ⟨R.VDT_PROOF, .ro, 0x0000, .warm, false, false, true, false, 0xF800, []⟩,
    ⟨R.VDT_NEXT, .ro, 0xFFFF, .warm, false, false, true, false, 0x0000, []⟩,
    ⟨R.VDT_EC, .ro, 0x0000, .warm, false, false, true, false, 0x0000, []⟩,
    ⟨R.VDT_EV, .ro, 0x0000, .warm, false, false, true, false, 0x0000, []⟩,
    ⟨R.VDT_EA, .ro, 0x0000, .warm, false, false, true, false, 0x0000, []⟩,
    ⟨R.VDT_ZBASE, .ro, 0x0000, .warm, false, false, true, false, 0x0000, []⟩,
    ⟨R.VDT_ZNOW, .ro, 0x0000, .warm, false, false, true, false, 0x0000, []⟩,
    ⟨R.VDT_CEST, .ro, 0x0000, .warm, false, false, true, false, 0x0000, []⟩,
    ⟨R.VDT_CTRL, .wo, 0x0000, .none_, false, false, false, false, 0xFFFE, []⟩,
    ⟨R.VDT_SKIPCNT, .ro, 0x0000, .cold, false, false, false, false, 0x0000, []⟩ ]

/-- The registers of page 0x0A (R484). -/
def page0A : List RegInfo :=
  [ ⟨R.LGR_STATUS, .ro, 0x0000, .cold, false, false, false, false, 0x0000, []⟩,
    ⟨R.LGR_EVENT, .rc, 0x0000, .warm, false, false, false, false, 0x0000, []⟩,
    ⟨R.LGR_IRQEN, .rw, 0x008E, .warm, false, false, false, false, 0xFF00, []⟩,
    ⟨R.LGR_CFG, .rw, 0x6006, .warm, true, false, false, false, 0x80C0, [⟨0, 6, 1, 60⟩, ⟨8, 7, 16, 127⟩]⟩,
    ⟨R.LGR_SPOOLUSE, .ro, 0x0000, .cold, false, false, false, false, 0x0000, []⟩,
    ⟨R.LGR_SPOOLMAX, .ro, 0x0000, .cold, false, false, false, false, 0x0000, []⟩,
    ⟨R.LGR_NEXTSEQ2, .ro, 0x0000, .cold, false, false, false, false, 0x0000, []⟩,
    ⟨R.LGR_NEXTSEQ1, .ro, 0x0000, .cold, false, false, false, false, 0x0000, []⟩,
    ⟨R.LGR_NEXTSEQ0, .ro, 0x0000, .cold, false, false, false, false, 0x0000, []⟩,
    ⟨R.LGR_CSEQ2, .ro, 0x0000, .cold, false, false, false, false, 0x0000, []⟩,
    ⟨R.LGR_CSEQ1, .ro, 0x0000, .cold, false, false, false, false, 0x0000, []⟩,
    ⟨R.LGR_CSEQ0, .ro, 0x0000, .cold, false, false, false, false, 0x0000, []⟩,
    ⟨R.LGR_RINGOLD2, .ro, 0x0000, .cold, false, false, false, false, 0x0000, []⟩,
    ⟨R.LGR_RINGOLD1, .ro, 0x0000, .cold, false, false, false, false, 0x0000, []⟩,
    ⟨R.LGR_RINGOLD0, .ro, 0x0000, .cold, false, false, false, false, 0x0000, []⟩,
    ⟨R.LGR_PINOLD2, .ro, 0x0000, .cold, false, false, false, false, 0x0000, []⟩,
    ⟨R.LGR_PINOLD1, .ro, 0x0000, .cold, false, false, false, false, 0x0000, []⟩,
    ⟨R.LGR_PINOLD0, .ro, 0x0000, .cold, false, false, false, false, 0x0000, []⟩,
    ⟨R.LGR_RDSEQ2, .rw, 0x0000, .warm, false, false, false, false, 0x0000, []⟩,
    ⟨R.LGR_RDSEQ1, .rw, 0x0000, .warm, false, false, false, false, 0x0000, []⟩,
    ⟨R.LGR_RDSEQ0, .rw, 0x0000, .warm, false, false, false, false, 0x0000, []⟩,
    ⟨R.LGR_RDCTRL, .wo, 0x0000, .none_, false, false, false, false, 0xFFFC, []⟩,
    ⟨R.LGR_RDSTAT, .ro, 0x0000, .warm, false, false, false, false, 0x0000, []⟩,
    ⟨R.LGR_RDLEN, .ro, 0x0000, .warm, false, false, false, false, 0x0000, []⟩ ] ++
  [ ⟨R.LGR_RDDATA, .ro, 0x0000, .warm, false, false, false, false, 0x0000, []⟩,
    ⟨R.LGR_HBUF0, .rw, 0x0000, .warm, false, false, false, false, 0x0000, []⟩,
    ⟨R.LGR_HBUF1, .rw, 0x0000, .warm, false, false, false, false, 0x0000, []⟩,
    ⟨R.LGR_HBUF2, .rw, 0x0000, .warm, false, false, false, false, 0x0000, []⟩,
    ⟨R.LGR_HBUF3, .rw, 0x0000, .warm, false, false, false, false, 0x0000, []⟩,
    ⟨R.LGR_HBUF4, .rw, 0x0000, .warm, false, false, false, false, 0x0000, []⟩,
    ⟨R.LGR_HBUF5, .rw, 0x0000, .warm, false, false, false, false, 0x0000, []⟩,
    ⟨R.LGR_HTAG, .rw, 0x0000, .warm, false, false, false, false, 0x0000, []⟩,
    ⟨R.LGR_HPOST, .wo, 0x0000, .none_, false, false, false, false, 0xFF00, []⟩,
    ⟨R.LGR_HRES, .ro, 0x0000, .warm, false, false, false, false, 0x0000, []⟩,
    ⟨R.LGR_HSEQ2, .ro, 0x0000, .warm, false, false, false, false, 0x0000, []⟩,
    ⟨R.LGR_HSEQ1, .ro, 0x0000, .warm, false, false, false, false, 0x0000, []⟩,
    ⟨R.LGR_HSEQ0, .ro, 0x0000, .warm, false, false, false, false, 0x0000, []⟩,
    ⟨R.LGR_TALLYOPEN, .ro, 0x0000, .cold, false, false, false, false, 0x0000, []⟩,
    ⟨R.LGR_HOLDCNT, .ro, 0x0000, .cold, false, false, false, false, 0x0000, []⟩,
    ⟨R.LGR_COALCNT, .ro, 0x0000, .cold, false, false, false, false, 0x0000, []⟩,
    ⟨R.LGR_VFYERR_A, .ro, 0x0000, .cold, false, false, false, false, 0x0000, []⟩,
    ⟨R.LGR_VFYERR_B, .ro, 0x0000, .cold, false, false, false, false, 0x0000, []⟩,
    ⟨R.LGR_CTRL, .wo, 0x0000, .none_, false, false, false, false, 0xFFFE, []⟩ ]

/-- The registers of page 0x0B (R485). -/
def page0B : List RegInfo :=
  [ ⟨R.TC_STATUS, .ro, 0x0000, .cold, false, false, false, false, 0x0000, []⟩,
    ⟨R.PD_STATUS, .ro, 0x0000, .warm, false, false, false, false, 0x0000, []⟩,
    ⟨R.PD_EVENT, .rc, 0x0000, .warm, false, false, false, false, 0x0000, []⟩,
    ⟨R.PD_IRQEN, .rw, 0x3FFF, .warm, false, false, false, false, 0xC000, []⟩,
    ⟨R.PD_CFG, .rw, 0x0029, .warm, true, false, false, false, 0xFFC0, []⟩,
    ⟨R.PD_VMAX, .rw, 0x00C8, .warm, true, false, false, false, 0xFF00, [⟨0, 8, 50, 200⟩]⟩,
    ⟨R.PD_PMAX, .rw, 0x0258, .warm, true, false, false, false, 0xFC00, [⟨0, 10, 25, 650⟩]⟩,
    ⟨R.PD_IMAX, .rw, 0x012C, .warm, true, false, false, false, 0xFE00, [⟨0, 9, 50, 300⟩]⟩,
    ⟨R.PD_FB_VMAX, .rw, 0x0032, .warm, true, false, false, false, 0xFF00, [⟨0, 8, 50, 200⟩]⟩,
    ⟨R.PD_PPS_V, .rw, 0x01C2, .warm, true, false, false, false, 0xFC00, [⟨0, 10, 200, 1050⟩]⟩,
    ⟨R.PD_AVS_V, .rw, 0x0096, .warm, true, false, false, false, 0xFF00, [⟨0, 8, 90, 200⟩]⟩,
    ⟨R.PD_VID, .rw, 0x0000, .warm, true, false, false, false, 0x0000, []⟩,
    ⟨R.PD_PID, .rw, 0x0000, .warm, true, false, false, false, 0x0000, []⟩,
    ⟨R.PD_SVID, .rw, 0x0000, .warm, true, false, false, false, 0x0000, []⟩,
    ⟨R.PD_XID_H, .rw, 0x0000, .warm, true, false, false, false, 0x0000, []⟩,
    ⟨R.PD_XID_L, .rw, 0x0000, .warm, true, false, false, false, 0x0000, []⟩,
    ⟨R.PD_MODEVDO_H, .rw, 0x0000, .warm, true, false, false, false, 0x0000, []⟩,
    ⟨R.PD_MODEVDO_L, .rw, 0x0001, .warm, true, false, false, false, 0x0000, []⟩,
    ⟨R.PD_CTRL, .rw, 0x0000, .core, false, false, false, false, 0xFFF0, []⟩,
    ⟨R.PD_CONTRACT_V, .ro, 0x0000, .cold, false, false, false, false, 0x0000, []⟩,
    ⟨R.PD_CONTRACT_I, .ro, 0x0000, .cold, false, false, false, false, 0x0000, []⟩,
    ⟨R.PD_RDO_H, .ro, 0x0000, .cold, false, false, false, false, 0x0000, []⟩,
    ⟨R.PD_RDO_L, .ro, 0x0000, .cold, false, false, false, false, 0x0000, []⟩,
    ⟨R.PD_LIMIT, .ro, 0x0000, .cold, false, false, false, false, 0x0000, []⟩ ] ++
  [ ⟨R.PD_SRCPDO0, .ro, 0x0000, .warm, false, false, false, false, 0x0000, []⟩,
    ⟨R.PD_SRCPDO1, .ro, 0x0000, .warm, false, false, false, false, 0x0000, []⟩,
    ⟨R.PD_SRCPDO2, .ro, 0x0000, .warm, false, false, false, false, 0x0000, []⟩,
    ⟨R.PD_SRCPDO3, .ro, 0x0000, .warm, false, false, false, false, 0x0000, []⟩,
    ⟨R.PD_SRCPDO4, .ro, 0x0000, .warm, false, false, false, false, 0x0000, []⟩,
    ⟨R.PD_SRCPDO5, .ro, 0x0000, .warm, false, false, false, false, 0x0000, []⟩,
    ⟨R.PD_SRCPDO6, .ro, 0x0000, .warm, false, false, false, false, 0x0000, []⟩,
    ⟨R.PD_SRCPDO7, .ro, 0x0000, .warm, false, false, false, false, 0x0000, []⟩,
    ⟨R.PD_SRCPDO8, .ro, 0x0000, .warm, false, false, false, false, 0x0000, []⟩,
    ⟨R.PD_SRCPDO9, .ro, 0x0000, .warm, false, false, false, false, 0x0000, []⟩,
    ⟨R.PD_SRCPDO10, .ro, 0x0000, .warm, false, false, false, false, 0x0000, []⟩,
    ⟨R.PD_SRCPDO11, .ro, 0x0000, .warm, false, false, false, false, 0x0000, []⟩,
    ⟨R.PD_SRCPDO12, .ro, 0x0000, .warm, false, false, false, false, 0x0000, []⟩,
    ⟨R.PD_SRCPDO13, .ro, 0x0000, .warm, false, false, false, false, 0x0000, []⟩,
    ⟨R.PD_SRCPDOCNT, .ro, 0x0000, .warm, false, false, false, false, 0x0000, []⟩,
    ⟨R.PD_HRCNT, .ro, 0x0000, .cold, false, false, false, false, 0x0000, []⟩,
    ⟨R.PD_RETRYFAIL, .ro, 0x0000, .cold, false, false, false, false, 0x0000, []⟩,
    ⟨R.PD_REFCNT, .ro, 0x0000, .cold, false, false, false, false, 0x0000, []⟩,
    ⟨R.PD_ATTCNT, .ro, 0x0000, .cold, false, false, false, false, 0x0000, []⟩ ]

/-- The registers of page 0x0C (R486). -/
def page0C : List RegInfo :=
  [ ⟨R.USB_STATUS, .ro, 0x0000, .warm, false, false, false, false, 0x0000, []⟩,
    ⟨R.USB_EVENT, .rc, 0x0000, .warm, false, false, false, false, 0x0000, []⟩,
    ⟨R.USB_IRQEN, .rw, 0x003F, .warm, false, false, false, false, 0xFFC0, []⟩,
    ⟨R.USB_CFG, .rw, 0x0002, .warm, true, false, false, false, 0xFFFC, []⟩,
    ⟨R.USB_VID, .rw, 0x0000, .warm, true, false, false, false, 0x0000, []⟩,
    ⟨R.USB_PID, .rw, 0x0000, .warm, true, false, false, false, 0x0000, []⟩,
    ⟨R.USB_ADDR, .ro, 0x0000, .warm, false, false, false, false, 0x0000, []⟩,
    ⟨R.USB_FRAME, .ro, 0x0000, .warm, false, false, false, false, 0x0000, []⟩,
    ⟨R.USB_RSTCNT, .ro, 0x0000, .cold, false, false, false, false, 0x0000, []⟩,
    ⟨R.OPT_STATUS, .ro, 0x0000, .warm, false, false, false, false, 0x0000, []⟩,
    ⟨R.OPT_EVENT, .rc, 0x0000, .warm, false, false, false, false, 0x0000, []⟩,
    ⟨R.OPT_IRQEN, .rw, 0x0018, .warm, false, false, false, false, 0xFFE0, []⟩,
    ⟨R.OPT_CFG, .rw, 0x0001, .warm, true, false, false, false, 0xFFFC, []⟩,
    ⟨R.OPT_AMB, .ro, 0x0000, .warm, false, false, false, false, 0x0000, []⟩,
    ⟨R.OPT_ANSLEN, .ro, 0x0000, .warm, false, false, false, false, 0x0000, []⟩,
    ⟨R.OPT_ANSDATA, .ro, 0x0000, .warm, false, false, false, false, 0x0000, []⟩,
    ⟨R.OPT_FLOODCNT, .ro, 0x0000, .cold, false, false, false, false, 0x0000, []⟩,
    ⟨R.OPT_ERRCNT, .ro, 0x0000, .cold, false, false, false, false, 0x0000, []⟩,
    ⟨R.OPT_RXCNT, .ro, 0x0000, .cold, false, false, false, false, 0x0000, []⟩,
    ⟨R.SVC_STATUS, .ro, 0x0000, .warm, false, false, false, false, 0x0000, []⟩,
    ⟨R.SVC_CFG, .rw, 0x003C, .warm, true, false, false, false, 0xFC00, [⟨0, 10, 10, 600⟩]⟩,
    ⟨R.SVC_CODE_H, .wo, 0x0000, .warm, true, false, false, false, 0x0000, []⟩,
    ⟨R.SVC_CODE_L, .wo, 0x0000, .warm, true, false, false, false, 0x0000, []⟩,
    ⟨R.SVC_FWSTAGE, .ro, 0x0000, .core, false, false, false, false, 0x0000, []⟩ ] ++
  [ ⟨R.SVC_CTRL, .wo, 0x0000, .none_, false, false, false, false, 0xFFFE, []⟩ ]

/-- The registers of page 0x0D (R487). -/
def page0D : List RegInfo :=
  [ ⟨R.TWB_STATUS, .ro, 0x0000, .warm, false, false, false, false, 0x0000, []⟩,
    ⟨R.TWB_EVENT, .rc, 0x0000, .warm, false, false, false, false, 0x0000, []⟩,
    ⟨R.TWB_IRQEN, .rw, 0x075F, .warm, false, false, false, false, 0xF800, []⟩,
    ⟨R.TWB_CFG, .rw, 0x0100, .warm, true, false, false, false, 0xE080, [⟨8, 5, 1, 16⟩]⟩,
    ⟨R.TWB_ADDR1, .rw, 0x0000, .warm, true, false, false, false, 0xFE00, []⟩,
    ⟨R.TWB_ADDR2, .rw, 0x0000, .warm, true, false, false, false, 0xFE00, []⟩,
    ⟨R.TWB_ADDR3, .rw, 0x0000, .warm, true, false, false, false, 0xFE00, []⟩,
    ⟨R.TWB_AMASK, .rw, 0x0000, .warm, true, false, false, false, 0xFFE0, []⟩,
    ⟨R.TWB_AWAKE, .rw, 0x0014, .warm, true, false, false, false, 0xFF00, [⟨0, 8, 1, 255⟩]⟩,
    ⟨R.TWB_CTL_CFG, .rw, 0x0002, .warm, true, false, false, false, 0xFFC0, []⟩,
    ⟨R.TWB_CTL_ADDR, .rw, 0x0000, .warm, true, false, false, false, 0xFF80, [⟨0, 7, 8, 119⟩]⟩,
    ⟨R.TWB_CTL_PTR, .rw, 0x0000, .warm, true, false, false, false, 0x0000, []⟩,
    ⟨R.TWB_CTL_GAP, .rw, 0x000A, .warm, true, false, false, false, 0xFF00, [⟨0, 8, 1, 255⟩]⟩,
    ⟨R.TWB_PUSH, .ro, 0x0000, .warm, false, false, false, false, 0x0000, []⟩,
    ⟨R.TWB_TOCNT, .ro, 0x0000, .cold, false, false, false, false, 0x0000, []⟩,
    ⟨R.TWB_PECCNT, .ro, 0x0000, .cold, false, false, false, false, 0x0000, []⟩,
    ⟨R.TWB_REFCNT, .ro, 0x0000, .cold, false, false, false, false, 0x0000, []⟩,
    ⟨R.TWB_ARBCNT, .ro, 0x0000, .cold, false, false, false, false, 0x0000, []⟩,
    ⟨R.TWB_PUSHFAIL, .ro, 0x0000, .cold, false, false, false, false, 0x0000, []⟩,
    ⟨R.TWB_RECCNT, .ro, 0x0000, .cold, false, false, false, false, 0x0000, []⟩,
    ⟨R.TWB_PORTC, .ro, 0x0000, .warm, false, false, false, false, 0x0000, []⟩ ]

/-- The registers of page 0x0E (R488). -/
def page0E : List RegInfo :=
  [ ⟨R.CLK_STATUS, .ro, 0x0000, .cold, false, false, false, true, 0x0000, []⟩,
    ⟨R.CLK_EVENT, .rc, 0x0000, .cold, false, false, false, true, 0x0000, []⟩,
    ⟨R.CLK_IRQEN, .rw, 0x07FF, .warm, false, false, false, true, 0xF000, []⟩,
    ⟨R.CLK_CFG, .rw, 0x000E, .cold, true, false, false, true, 0xFFC0, [⟨4, 2, 0, 2⟩]⟩,
    ⟨R.CLK_TZ, .rw, 0x0000, .cold, true, false, false, true, 0xFF00, []⟩,
    ⟨R.CLK_TIME2, .ro, 0x0000, .cold, false, false, false, true, 0x0000, []⟩,
    ⟨R.CLK_TIME1, .ro, 0x0000, .cold, false, false, false, true, 0x0000, []⟩,
    ⟨R.CLK_TIME0, .ro, 0x0000, .cold, false, false, false, true, 0x0000, []⟩,
    ⟨R.CLK_TIMESET2, .rw, 0x0000, .cold, false, false, false, true, 0x0000, []⟩,
    ⟨R.CLK_TIMESET1, .rw, 0x0000, .cold, false, false, false, true, 0x0000, []⟩,
    ⟨R.CLK_TIMESET0, .rw, 0x0000, .cold, false, false, false, true, 0x0000, []⟩,
    ⟨R.CLK_LOCAL, .ro, 0x0000, .cold, false, false, false, true, 0x0000, []⟩,
    ⟨R.CLK_OFFSET, .ro, 0x0000, .cold, false, false, false, true, 0x0000, []⟩,
    ⟨R.CLK_SYNCSRC, .ro, 0xFFFF, .cold, false, false, false, true, 0x0000, []⟩,
    ⟨R.CLK_HWDCFG, .rw, 0x000A, .cold, true, false, false, true, 0xFFC0, [⟨1, 4, 0, 8⟩]⟩,
    ⟨R.CLK_HWDKICK, .wo, 0x0000, .none_, false, false, false, true, 0x0000, []⟩,
    ⟨R.CLK_HWDLEFT, .ro, 0x0000, .cold, false, false, false, true, 0x0000, []⟩,
    ⟨R.CLK_PWDKICK, .wo, 0x0000, .none_, false, false, true, true, 0x0000, []⟩,
    ⟨R.CLK_PWD, .ro, 0x0000, .cold, false, false, false, true, 0x0000, []⟩,
    ⟨R.CLK_FAULTCNT, .ro, 0x0000, .cold, false, false, false, true, 0x0000, []⟩,
    ⟨R.CLK_HWDCNT, .ro, 0x0000, .cold, false, false, false, true, 0x0000, []⟩,
    ⟨R.CLK_PWDCNT, .ro, 0x0000, .cold, false, false, false, true, 0x0000, []⟩,
    ⟨R.CLK_SYNCCNT, .ro, 0x0000, .cold, false, false, false, true, 0x0000, []⟩ ]

/-- The registers of page 0x0F (R489). -/
def page0F : List RegInfo :=
  [ ⟨R.THM_STATUS, .ro, 0x0000, .cold, false, false, false, false, 0x0000, []⟩,
    ⟨R.THM_EVENT, .rc, 0x0000, .cold, false, false, false, false, 0x0000, []⟩,
    ⟨R.THM_IRQEN, .rw, 0x001D, .warm, false, false, false, false, 0xFFE0, []⟩,
    ⟨R.THM_CFG, .rw, 0x0473, .warm, true, false, false, false, 0xF000, [⟨0, 7, 95, 125⟩, ⟨7, 5, 2, 16⟩]⟩,
    ⟨R.THM_DS0, .ro, 0x0000, .warm, false, false, false, false, 0x0000, []⟩,
    ⟨R.THM_DS1, .ro, 0x0000, .warm, false, false, false, false, 0x0000, []⟩,
    ⟨R.THM_DS2, .ro, 0x0000, .warm, false, false, false, false, 0x0000, []⟩,
    ⟨R.THM_DS3, .ro, 0x0000, .warm, false, false, false, false, 0x0000, []⟩,
    ⟨R.THM_DS4, .ro, 0x0000, .warm, false, false, false, false, 0x0000, []⟩,
    ⟨R.THM_DS5, .ro, 0x0000, .warm, false, false, false, false, 0x0000, []⟩,
    ⟨R.THM_DS6, .ro, 0x0000, .warm, false, false, false, false, 0x0000, []⟩,
    ⟨R.THM_FACTOR, .ro, 0x0064, .warm, false, false, false, false, 0x0000, []⟩,
    ⟨R.THM_TM, .ro, 0x0000, .warm, false, false, false, false, 0x0000, []⟩,
    ⟨R.THM_PEAK, .ro, 0x0000, .cold, false, false, false, false, 0x0000, []⟩,
    ⟨R.THM_SDCNT, .ro, 0x0000, .cold, false, false, false, false, 0x0000, []⟩,
    ⟨R.THM_THRCNT, .ro, 0x0000, .cold, false, false, false, false, 0x0000, []⟩ ]

/-- The registers of page 0x10 (R490). -/
def page10 : List RegInfo :=
  [ ⟨R.CFG_STATUS, .ro, 0x0000, .warm, false, false, false, false, 0x0000, []⟩,
    ⟨R.CFG_EVENT, .rc, 0x0000, .warm, false, false, false, false, 0x0000, []⟩,
    ⟨R.CFG_IRQEN, .rw, 0x007F, .warm, false, false, false, false, 0xFF80, []⟩,
    ⟨R.CFG_INFO, .ro, 0x0000, .warm, false, false, false, false, 0x0000, []⟩,
    ⟨R.CFG_COMMIT, .rk, 0x0000, .none_, false, true, false, false, 0x0000, []⟩,
    ⟨R.CFG_COMMIT_N, .rk, 0xFFFF, .none_, false, true, false, false, 0x0000, []⟩,
    ⟨R.CFG_LOCK, .rk, 0x0000, .warm, false, true, false, false, 0x0000, []⟩,
    ⟨R.CFG_LOCK_N, .rk, 0xFFFF, .warm, false, true, false, false, 0x0000, []⟩,
    ⟨R.CFG_WRITE, .rk, 0x0000, .none_, false, true, false, false, 0x0000, []⟩,
    ⟨R.CFG_WRITE_N, .rk, 0xFFFF, .none_, false, true, false, false, 0x0000, []⟩,
    ⟨R.CFG_GEN_H, .ro, 0x0000, .warm, false, false, false, false, 0x0000, []⟩,
    ⟨R.CFG_GEN_L, .ro, 0x0000, .warm, false, false, false, false, 0x0000, []⟩,
    ⟨R.CFG_CRC_H, .ro, 0x0000, .warm, false, false, false, false, 0x0000, []⟩,
    ⟨R.CFG_CRC_L, .ro, 0x0000, .warm, false, false, false, false, 0x0000, []⟩,
    ⟨R.CFG_REF_H, .ro, 0x0000, .warm, false, false, false, false, 0x0000, []⟩,
    ⟨R.CFG_REF_L, .ro, 0x0000, .warm, false, false, false, false, 0x0000, []⟩,
    ⟨R.CFG_STGADDR, .rw, 0x0000, .warm, false, false, false, false, 0x0000, []⟩,
    ⟨R.CFG_STGDATA, .rw, 0x0000, .warm, false, false, false, false, 0x0000, []⟩,
    ⟨R.CFG_USER0, .rw, 0x0000, .warm, true, false, false, false, 0x0000, []⟩,
    ⟨R.CFG_USER1, .rw, 0x0000, .warm, true, false, false, false, 0x0000, []⟩,
    ⟨R.CFG_USER2, .rw, 0x0000, .warm, true, false, false, false, 0x0000, []⟩,
    ⟨R.CFG_USER3, .rw, 0x0000, .warm, true, false, false, false, 0x0000, []⟩ ]

/-- The registers of page 0x11 (R492). -/
def page11 : List RegInfo :=
  [ ⟨R.SNAP_CTRL, .wo, 0x0000, .none_, false, false, false, false, 0xFFFE, []⟩,
    ⟨R.SNAP_STATUS, .ro, 0x0000, .warm, false, false, false, false, 0x0000, []⟩,
    ⟨R.SNAP_TIME2, .ro, 0x0000, .warm, false, false, false, false, 0x0000, []⟩,
    ⟨R.SNAP_TIME1, .ro, 0x0000, .warm, false, false, false, false, 0x0000, []⟩,
    ⟨R.SNAP_TIME0, .ro, 0x0000, .warm, false, false, false, false, 0x0000, []⟩ ]

/-- The snapshot copies of R493 are fifty read-only registers restored by a warm reset. -/
def page11Copies : List RegInfo :=
  (List.range 50).map fun k => ⟨R.SNAP_COPY + k, .ro, 0, .warm, false, false, false, false, 0, []⟩

/-- The rows of one page (R470). -/
def pageRegs : Nat → List RegInfo
  | 0x00 => page00
  | 0x01 => page01
  | 0x02 => page02
  | 0x03 => page03
  | 0x04 => page04
  | 0x05 => page05
  | 0x06 => page06
  | 0x07 => page07
  | 0x08 => page08
  | 0x09 => page09
  | 0x0A => page0A
  | 0x0B => page0B
  | 0x0C => page0C
  | 0x0D => page0D
  | 0x0E => page0E
  | 0x0F => page0F
  | 0x10 => page10
  | 0x11 => page11 ++ page11Copies
  | _ => []

/-- The row of a register by its 14-bit address; `none` for a reserved address (R471). -/
def regInfo (a : Nat) : Option RegInfo := (pageRegs (a / 256)).find? (fun r => r.addr == a)

/-- Every row of the map, in ascending address order. -/
def allRegs : List RegInfo := (List.range 18).flatMap pageRegs

/-- The value an unlisted register reads as: its reset value from the map. -/
def resetVal (a : Nat) : Word :=
  match regInfo a with
  | some r => BitVec.ofNat 16 r.reset
  | none => 0

end Sys2Proof.Machine
end

