-- ==== Sys2Proof/Machine/Flags.lean ====
section
/-!
DEFINITION. The flags and fields of the registers by name: one constant for each single bit and each bit range the
page tables name (R25, R58, R128, R129, R152, R171, R202, R220, R256, R286, R313, R361, R390, R413, R465, R467, R472,
R490), and the bit arithmetic that reads and writes one of them in a register value.
-/

namespace Sys2Proof.Machine

/-- One bit of one register. -/
structure Flag where
  reg : Nat
  bit : Nat
  deriving DecidableEq, Repr

/-- A bit range of one register: bits `lo .. lo + width - 1`. -/
structure Field where
  reg : Nat
  lo : Nat
  width : Nat
  deriving DecidableEq, Repr

/-- Bit `b` of a register value. -/
def bitOf (v : Word) (b : Nat) : Bool := v.getLsbD b

/-- A register value with bit `b` set to `x`. -/
def setBitOf (v : Word) (b : Nat) (x : Bool) : Word :=
  if x then v ||| (1#16 <<< b) else v &&& ~~~(1#16 <<< b)

/-- The number in bits `lo .. lo + width - 1` of a register value. -/
def fieldOf (v : Word) (lo width : Nat) : Nat := v.toNat / 2 ^ lo % 2 ^ width

/-- A register value with the number `x` put into bits `lo .. lo + width - 1` (modulo the field's size). -/
def putFieldOf (v : Word) (lo width x : Nat) : Word :=
  (v &&& ~~~(BitVec.ofNat 16 (2 ^ width - 1) <<< lo)) ||| (BitVec.ofNat 16 (x % 2 ^ width) <<< lo)

/-! ## The named bits and fields -/

namespace F

@[simp] abbrev SYS_STATE_PSTATE : Field := ⟨R.SYS_STATE, 0, 3⟩
@[simp] abbrev SYS_STATE_FEED : Flag := ⟨R.SYS_STATE, 3⟩
@[simp] abbrev SYS_STATE_ALARM : Flag := ⟨R.SYS_STATE, 4⟩
@[simp] abbrev SYS_STATE_PROOF : Flag := ⟨R.SYS_STATE, 5⟩
@[simp] abbrev SYS_STATE_SERVICE : Flag := ⟨R.SYS_STATE, 6⟩
@[simp] abbrev SYS_RSTCAUSE_KIND : Field := ⟨R.SYS_RSTCAUSE, 0, 2⟩
@[simp] abbrev SYS_RSTCAUSE_CAUSE : Field := ⟨R.SYS_RSTCAUSE, 2, 6⟩
@[simp] abbrev SYS_BOOT_DONE : Flag := ⟨R.SYS_BOOT, 0⟩
@[simp] abbrev SYS_BOOT_ACTIVE : Flag := ⟨R.SYS_BOOT, 1⟩
@[simp] abbrev SYS_BOOT_RUNNING : Flag := ⟨R.SYS_BOOT, 2⟩
@[simp] abbrev SYS_BOOT_FALLBACK : Flag := ⟨R.SYS_BOOT, 3⟩
@[simp] abbrev SYS_SAFECAUSE_NOIMAGE : Flag := ⟨R.SYS_SAFECAUSE, 0⟩
@[simp] abbrev SYS_SAFECAUSE_CHEM : Flag := ⟨R.SYS_SAFECAUSE, 1⟩
@[simp] abbrev SYS_SAFECAUSE_FALLBACK : Flag := ⟨R.SYS_SAFECAUSE, 2⟩
@[simp] abbrev SYS_SAFECAUSE_CFGCRC : Flag := ⟨R.SYS_SAFECAUSE, 3⟩
@[simp] abbrev SYS_EVENT_START : Flag := ⟨R.SYS_EVENT, 0⟩
@[simp] abbrev SYS_EVENT_STATE_CHG : Flag := ⟨R.SYS_EVENT, 1⟩
@[simp] abbrev SYS_EVENT_SAFE : Flag := ⟨R.SYS_EVENT, 2⟩
@[simp] abbrev SYS_EVENT_BADWRITE : Flag := ⟨R.SYS_EVENT, 3⟩
@[simp] abbrev SYS_EVENT_KEYERR : Flag := ⟨R.SYS_EVENT, 4⟩
@[simp] abbrev SYS_EVENT_RESET : Flag := ⟨R.SYS_EVENT, 5⟩
@[simp] abbrev SYS_EVENT_SHIP_REFUSED : Flag := ⟨R.SYS_EVENT, 6⟩
@[simp] abbrev PAGESEL_PAGE : Field := ⟨R.PAGESEL, 0, 5⟩
@[simp] abbrev SRC_STATUS_VIN_Q : Flag := ⟨R.SRC_STATUS, 0⟩
@[simp] abbrev SRC_STATUS_VBUS_Q : Flag := ⟨R.SRC_STATUS, 1⟩
@[simp] abbrev SRC_STATUS_VPV_Q : Flag := ⟨R.SRC_STATUS, 2⟩
@[simp] abbrev SRC_STATUS_TET_Q : Flag := ⟨R.SRC_STATUS, 3⟩
@[simp] abbrev SRC_STATUS_ACTIVE : Field := ⟨R.SRC_STATUS, 4, 2⟩
@[simp] abbrev SRC_STATUS_TET_SINK : Flag := ⟨R.SRC_STATUS, 6⟩
@[simp] abbrev SRC_STATUS_DISCH : Flag := ⟨R.SRC_STATUS, 7⟩
@[simp] abbrev SRC_STATUS_ILIM : Flag := ⟨R.SRC_STATUS, 8⟩
@[simp] abbrev SRC_STATUS_VFLOOR : Flag := ⟨R.SRC_STATUS, 9⟩
@[simp] abbrev SRC_STATUS_TRACK : Flag := ⟨R.SRC_STATUS, 10⟩
@[simp] abbrev SRC_STATUS_PENDING : Flag := ⟨R.SRC_STATUS, 11⟩
@[simp] abbrev SRC_EVENT_VIN_ARR : Flag := ⟨R.SRC_EVENT, 0⟩
@[simp] abbrev SRC_EVENT_VIN_LOSS : Flag := ⟨R.SRC_EVENT, 1⟩
@[simp] abbrev SRC_EVENT_VBUS_ARR : Flag := ⟨R.SRC_EVENT, 2⟩
@[simp] abbrev SRC_EVENT_VBUS_LOSS : Flag := ⟨R.SRC_EVENT, 3⟩
@[simp] abbrev SRC_EVENT_VPV_ARR : Flag := ⟨R.SRC_EVENT, 4⟩
@[simp] abbrev SRC_EVENT_VPV_LOSS : Flag := ⟨R.SRC_EVENT, 5⟩
@[simp] abbrev SRC_EVENT_TET_ARR : Flag := ⟨R.SRC_EVENT, 6⟩
@[simp] abbrev SRC_EVENT_TET_LOSS : Flag := ⟨R.SRC_EVENT, 7⟩
@[simp] abbrev SRC_EVENT_TRIP : Flag := ⟨R.SRC_EVENT, 8⟩
@[simp] abbrev SRC_EVENT_CHANGEOVER : Flag := ⟨R.SRC_EVENT, 9⟩
@[simp] abbrev SRC_EVENT_SAFELOW_TIMEOUT : Flag := ⟨R.SRC_EVENT, 10⟩
@[simp] abbrev SRC_EN_VIN_EN : Flag := ⟨R.SRC_EN, 0⟩
@[simp] abbrev SRC_EN_VBUS_EN : Flag := ⟨R.SRC_EN, 1⟩
@[simp] abbrev SRC_EN_VPV_EN : Flag := ⟨R.SRC_EN, 2⟩
@[simp] abbrev SRC_EN_TET_EN : Flag := ⟨R.SRC_EN, 3⟩
@[simp] abbrev SRC_RANK_FIRST : Field := ⟨R.SRC_RANK, 0, 2⟩
@[simp] abbrev SRC_RANK_SECOND : Field := ⟨R.SRC_RANK, 2, 2⟩
@[simp] abbrev SRC_RANK_THIRD : Field := ⟨R.SRC_RANK, 4, 2⟩
@[simp] abbrev SRC_VPV_CFG_FRAC : Field := ⟨R.SRC_VPV_CFG, 0, 7⟩
@[simp] abbrev SRC_VPV_CFG_MODE : Field := ⟨R.SRC_VPV_CFG, 7, 2⟩
@[simp] abbrev SRC_TQUAL_VIN : Field := ⟨R.SRC_TQUAL, 0, 8⟩
@[simp] abbrev SRC_TQUAL_VPV : Field := ⟨R.SRC_TQUAL, 8, 8⟩
@[simp] abbrev PATH_STATUS_BATON : Flag := ⟨R.PATH_STATUS, 0⟩
@[simp] abbrev PATH_STATUS_IDEAL : Flag := ⟨R.PATH_STATUS, 1⟩
@[simp] abbrev PATH_STATUS_SUPPLEMENT : Flag := ⟨R.PATH_STATUS, 2⟩
@[simp] abbrev PATH_STATUS_LINEAR : Flag := ⟨R.PATH_STATUS, 3⟩
@[simp] abbrev PATH_STATUS_HOLD : Flag := ⟨R.PATH_STATUS, 4⟩
@[simp] abbrev PATH_STATUS_VMUX_LOW : Flag := ⟨R.PATH_STATUS, 5⟩
@[simp] abbrev PATH_STATUS_BATOPEN : Flag := ⟨R.PATH_STATUS, 6⟩
@[simp] abbrev PATH_STATUS_BAT_LOW : Flag := ⟨R.PATH_STATUS, 7⟩
@[simp] abbrev PATH_STATUS_SYS_OVP : Flag := ⟨R.PATH_STATUS, 8⟩
@[simp] abbrev PATH_EVENT_SUPP_START : Flag := ⟨R.PATH_EVENT, 0⟩
@[simp] abbrev PATH_EVENT_SUPP_END : Flag := ⟨R.PATH_EVENT, 1⟩
@[simp] abbrev PATH_EVENT_BATOCP : Flag := ⟨R.PATH_EVENT, 2⟩
@[simp] abbrev PATH_EVENT_SYS_SHORT : Flag := ⟨R.PATH_EVENT, 3⟩
@[simp] abbrev PATH_EVENT_SYS_OVP : Flag := ⟨R.PATH_EVENT, 4⟩
@[simp] abbrev PATH_EVENT_LINEAR_END : Flag := ⟨R.PATH_EVENT, 5⟩
@[simp] abbrev PATH_CFG_KEEP_SHIP : Flag := ⟨R.PATH_CFG, 0⟩
@[simp] abbrev CHG_STATUS_PHASE : Field := ⟨R.CHG_STATUS, 0, 4⟩
@[simp] abbrev CHG_STATUS_PARTIAL : Flag := ⟨R.CHG_STATUS, 4⟩
@[simp] abbrev CHG_STATUS_LIMITED : Flag := ⟨R.CHG_STATUS, 5⟩
@[simp] abbrev CHG_STATUS_CVSUB : Flag := ⟨R.CHG_STATUS, 6⟩
@[simp] abbrev CHG_STATUS_SUSP_ALM : Flag := ⟨R.CHG_STATUS, 7⟩
@[simp] abbrev CHG_STATUS_SUSP_PROOF : Flag := ⟨R.CHG_STATUS, 8⟩
@[simp] abbrev CHG_STATUS_SUSP_SWEEP : Flag := ⟨R.CHG_STATUS, 9⟩
@[simp] abbrev CHG_STATUS_SUSP_SRC : Flag := ⟨R.CHG_STATUS, 10⟩
@[simp] abbrev CHG_STATUS_SUSP_TEMP : Flag := ⟨R.CHG_STATUS, 11⟩
@[simp] abbrev CHG_STATUS_REDUCED : Flag := ⟨R.CHG_STATUS, 12⟩
@[simp] abbrev CHG_STATUS_BELOW_BALLAST : Flag := ⟨R.CHG_STATUS, 13⟩
@[simp] abbrev CHG_STATUS_FULLREQ : Flag := ⟨R.CHG_STATUS, 14⟩
@[simp] abbrev CHG_EVENT_PHASE_CHG : Flag := ⟨R.CHG_EVENT, 0⟩
@[simp] abbrev CHG_EVENT_FULL : Flag := ⟨R.CHG_EVENT, 1⟩
@[simp] abbrev CHG_EVENT_TGT_REACHED : Flag := ⟨R.CHG_EVENT, 2⟩
@[simp] abbrev CHG_EVENT_TOPUP : Flag := ⟨R.CHG_EVENT, 3⟩
@[simp] abbrev CHG_EVENT_SUSPEND : Flag := ⟨R.CHG_EVENT, 4⟩
@[simp] abbrev CHG_EVENT_RESUME : Flag := ⟨R.CHG_EVENT, 5⟩
@[simp] abbrev CHG_EVENT_ZONE_CHG : Flag := ⟨R.CHG_EVENT, 6⟩
@[simp] abbrev CHG_EVENT_FAULT : Flag := ⟨R.CHG_EVENT, 7⟩
@[simp] abbrev CHG_EVENT_ABSENT : Flag := ⟨R.CHG_EVENT, 8⟩
@[simp] abbrev CHG_EVENT_LIMITED : Flag := ⟨R.CHG_EVENT, 9⟩
@[simp] abbrev CHG_EVENT_TGT_CHG : Flag := ⟨R.CHG_EVENT, 10⟩
@[simp] abbrev CHG_EVENT_BALLAST_SHORT : Flag := ⟨R.CHG_EVENT, 11⟩
@[simp] abbrev CHG_CFG_EN : Flag := ⟨R.CHG_CFG, 0⟩
@[simp] abbrev CHG_CFG_NTCB_EN : Flag := ⟨R.CHG_CFG, 1⟩
@[simp] abbrev CHG_CTRL_CLRFAULT : Flag := ⟨R.CHG_CTRL, 0⟩
@[simp] abbrev CHG_CTRL_FULL : Flag := ⟨R.CHG_CTRL, 1⟩
@[simp] abbrev CHG_TIMERS_TSAFE : Field := ⟨R.CHG_TIMERS, 0, 5⟩
@[simp] abbrev CHG_TIMERS_TPRE : Field := ⟨R.CHG_TIMERS, 5, 5⟩
@[simp] abbrev CHG_TIMERS_TTOPUP : Field := ⟨R.CHG_TIMERS, 10, 4⟩
@[simp] abbrev CHG_TGT_S_T : Field := ⟨R.CHG_TGT, 0, 10⟩
@[simp] abbrev CHG_BALSOC_S_B : Field := ⟨R.CHG_BALSOC, 0, 10⟩
@[simp] abbrev CHG_SOC_SOC : Field := ⟨R.CHG_SOC, 0, 10⟩
@[simp] abbrev CHG_SOC_VALID : Flag := ⟨R.CHG_SOC, 15⟩
@[simp] abbrev CHG_ZONE_A : Field := ⟨R.CHG_ZONE, 0, 3⟩
@[simp] abbrev CHG_ZONE_B : Field := ⟨R.CHG_ZONE, 3, 3⟩
@[simp] abbrev CHG_ZONE_USED : Field := ⟨R.CHG_ZONE, 6, 3⟩
@[simp] abbrev CONV_STATUS_MAIN_ON : Flag := ⟨R.CONV_STATUS, 0⟩
@[simp] abbrev CONV_STATUS_MAIN_REGION : Field := ⟨R.CONV_STATUS, 1, 2⟩
@[simp] abbrev CONV_STATUS_MAIN_SKIP : Flag := ⟨R.CONV_STATUS, 3⟩
@[simp] abbrev CONV_STATUS_TET_MODE : Field := ⟨R.CONV_STATUS, 4, 2⟩
@[simp] abbrev CONV_STATUS_TET_ILIM : Flag := ⟨R.CONV_STATUS, 6⟩
@[simp] abbrev CONV_STATUS_HORN_ON : Flag := ⟨R.CONV_STATUS, 7⟩
@[simp] abbrev CONV_STATUS_HORN_OK : Flag := ⟨R.CONV_STATUS, 8⟩
@[simp] abbrev CONV_STATUS_HORN_PASS : Flag := ⟨R.CONV_STATUS, 9⟩
@[simp] abbrev CONV_STATUS_AUX_OK : Flag := ⟨R.CONV_STATUS, 10⟩
@[simp] abbrev CONV_STATUS_KEEP_OK : Flag := ⟨R.CONV_STATUS, 11⟩
@[simp] abbrev CONV_STATUS_EXC : Flag := ⟨R.CONV_STATUS, 12⟩
@[simp] abbrev CONV_STATUS_FIXEDF : Flag := ⟨R.CONV_STATUS, 13⟩
@[simp] abbrev CONV_STATUS_HORN_FOLD : Flag := ⟨R.CONV_STATUS, 14⟩
@[simp] abbrev CONV_EVENT_MAIN_ILIM : Flag := ⟨R.CONV_EVENT, 0⟩
@[simp] abbrev CONV_EVENT_TET_FOLD : Flag := ⟨R.CONV_EVENT, 1⟩
@[simp] abbrev CONV_EVENT_TET_SHORT : Flag := ⟨R.CONV_EVENT, 2⟩
@[simp] abbrev CONV_EVENT_HORN_ILIM : Flag := ⟨R.CONV_EVENT, 3⟩
@[simp] abbrev CONV_EVENT_HSW_OCP : Flag := ⟨R.CONV_EVENT, 4⟩
@[simp] abbrev CONV_EVENT_AUX_UV : Flag := ⟨R.CONV_EVENT, 5⟩
@[simp] abbrev CONV_EVENT_AUX_SHORT : Flag := ⟨R.CONV_EVENT, 6⟩
@[simp] abbrev CONV_EVENT_KEEP_UV : Flag := ⟨R.CONV_EVENT, 7⟩
@[simp] abbrev CONV_EVENT_EXC_CLIP : Flag := ⟨R.CONV_EVENT, 8⟩
@[simp] abbrev CONV_EVENT_SHED : Flag := ⟨R.CONV_EVENT, 9⟩
@[simp] abbrev CONV_MAIN_CFG_FREQ : Flag := ⟨R.CONV_MAIN_CFG, 0⟩
@[simp] abbrev CONV_MAIN_CFG_SS : Field := ⟨R.CONV_MAIN_CFG, 1, 2⟩
@[simp] abbrev CONV_MAIN_CFG_FPWM : Flag := ⟨R.CONV_MAIN_CFG, 3⟩
@[simp] abbrev CONV_TET_CTRL_SRC : Flag := ⟨R.CONV_TET_CTRL, 0⟩
@[simp] abbrev CONV_TET_CTRL_CELLOK : Flag := ⟨R.CONV_TET_CTRL, 1⟩
@[simp] abbrev CONV_TET_VNL_V_NL : Field := ⟨R.CONV_TET_VNL, 0, 9⟩
@[simp] abbrev CONV_TET_DROOP_R_DROOP : Field := ⟨R.CONV_TET_DROOP, 0, 5⟩
@[simp] abbrev CONV_AUX_VSEL : Field := ⟨R.CONV_AUX, 0, 2⟩
@[simp] abbrev CONV_KEEP_CODE : Field := ⟨R.CONV_KEEP, 0, 6⟩
@[simp] abbrev CONV_KEEP_EN : Flag := ⟨R.CONV_KEEP, 6⟩
@[simp] abbrev TET_STATUS_UP : Flag := ⟨R.TET_STATUS, 0⟩
@[simp] abbrev TET_STATUS_INRANGE : Flag := ⟨R.TET_STATUS, 1⟩
@[simp] abbrev TET_STATUS_HELD : Flag := ⟨R.TET_STATUS, 2⟩
@[simp] abbrev TET_STATUS_AUTO : Flag := ⟨R.TET_STATUS, 3⟩
@[simp] abbrev TET_STATUS_CONFLICT : Flag := ⟨R.TET_STATUS, 4⟩
@[simp] abbrev TET_STATUS_RESTRAINED : Flag := ⟨R.TET_STATUS, 5⟩
@[simp] abbrev TET_STATUS_RXPASSIVE : Flag := ⟨R.TET_STATUS, 6⟩
@[simp] abbrev TET_STATUS_SILENCED : Flag := ⟨R.TET_STATUS, 7⟩
@[simp] abbrev TET_STATUS_GUARDHOLD : Flag := ⟨R.TET_STATUS, 8⟩
@[simp] abbrev TET_STATUS_LEVEL : Flag := ⟨R.TET_STATUS, 9⟩
@[simp] abbrev TET_STATUS_LVL_IN : Flag := ⟨R.TET_STATUS, 10⟩
@[simp] abbrev TET_STATUS_LVL_OUT : Flag := ⟨R.TET_STATUS, 11⟩
@[simp] abbrev TET_STATUS_LISTENWIN : Flag := ⟨R.TET_STATUS, 12⟩
@[simp] abbrev TET_EVENT_RX : Flag := ⟨R.TET_EVENT, 0⟩
@[simp] abbrev TET_EVENT_TX_DONE : Flag := ⟨R.TET_EVENT, 1⟩
@[simp] abbrev TET_EVENT_TX_DROP : Flag := ⟨R.TET_EVENT, 2⟩
@[simp] abbrev TET_EVENT_ERR : Flag := ⟨R.TET_EVENT, 3⟩
@[simp] abbrev TET_EVENT_RXOVF : Flag := ⟨R.TET_EVENT, 4⟩
@[simp] abbrev TET_EVENT_GUARD : Flag := ⟨R.TET_EVENT, 5⟩
@[simp] abbrev TET_EVENT_CONFLICT : Flag := ⟨R.TET_EVENT, 6⟩
@[simp] abbrev TET_EVENT_ADDR_CHG : Flag := ⟨R.TET_EVENT, 7⟩
@[simp] abbrev TET_EVENT_PEER_MISS : Flag := ⟨R.TET_EVENT, 8⟩
@[simp] abbrev TET_EVENT_PEER_BACK : Flag := ⟨R.TET_EVENT, 9⟩
@[simp] abbrev TET_EVENT_RESTRAIN : Flag := ⟨R.TET_EVENT, 10⟩
@[simp] abbrev TET_EVENT_LINK_CHG : Flag := ⟨R.TET_EVENT, 11⟩
@[simp] abbrev TET_EVENT_TX_FULL : Flag := ⟨R.TET_EVENT, 12⟩
@[simp] abbrev TET_CFG_MODE : Flag := ⟨R.TET_CFG, 0⟩
@[simp] abbrev TET_CFG_CENSUS_START : Flag := ⟨R.TET_CFG, 1⟩
@[simp] abbrev TET_ADDR_ADDR : Field := ⟨R.TET_ADDR, 0, 6⟩
@[simp] abbrev TET_ADDR_AUTO : Flag := ⟨R.TET_ADDR, 6⟩
@[simp] abbrev TET_ADDR_HELD : Flag := ⟨R.TET_ADDR, 7⟩
@[simp] abbrev TET_CTRL_CENSUS : Flag := ⟨R.TET_CTRL, 0⟩
@[simp] abbrev TET_CTRL_LINKTEST : Flag := ⟨R.TET_CTRL, 1⟩
@[simp] abbrev TET_CTRL_READDR : Flag := ⟨R.TET_CTRL, 2⟩
@[simp] abbrev MKT_STATUS_OFFERING : Flag := ⟨R.MKT_STATUS, 0⟩
@[simp] abbrev MKT_STATUS_TENT : Flag := ⟨R.MKT_STATUS, 1⟩
@[simp] abbrev MKT_STATUS_BIDDING : Flag := ⟨R.MKT_STATUS, 2⟩
@[simp] abbrev MKT_STATUS_DRAWING : Flag := ⟨R.MKT_STATUS, 3⟩
@[simp] abbrev MKT_STATUS_ALMEXC : Flag := ⟨R.MKT_STATUS, 4⟩
@[simp] abbrev MKT_STATUS_CUTOFF : Flag := ⟨R.MKT_STATUS, 5⟩
@[simp] abbrev MKT_STATUS_RAMP : Flag := ⟨R.MKT_STATUS, 6⟩
@[simp] abbrev MKT_STATUS_ACTIVE : Flag := ⟨R.MKT_STATUS, 7⟩
@[simp] abbrev MKT_EVENT_OFFER_RX : Flag := ⟨R.MKT_EVENT, 0⟩
@[simp] abbrev MKT_EVENT_BID_RX : Flag := ⟨R.MKT_EVENT, 1⟩
@[simp] abbrev MKT_EVENT_FIRM_RX : Flag := ⟨R.MKT_EVENT, 2⟩
@[simp] abbrev MKT_EVENT_WD_RX : Flag := ⟨R.MKT_EVENT, 3⟩
@[simp] abbrev MKT_EVENT_LAPSE : Flag := ⟨R.MKT_EVENT, 4⟩
@[simp] abbrev MKT_EVENT_CUTOFF : Flag := ⟨R.MKT_EVENT, 5⟩
@[simp] abbrev MKT_EVENT_STALE : Flag := ⟨R.MKT_EVENT, 6⟩
@[simp] abbrev MKT_EVENT_DRAW_CHG : Flag := ⟨R.MKT_EVENT, 7⟩
@[simp] abbrev MKT_EVENT_REFUSED : Flag := ⟨R.MKT_EVENT, 8⟩
@[simp] abbrev MKT_CFG_EN : Flag := ⟨R.MKT_CFG, 0⟩
@[simp] abbrev MKT_CFG_OFFER_EN : Flag := ⟨R.MKT_CFG, 1⟩
@[simp] abbrev MKT_CFG_BID_EN : Flag := ⟨R.MKT_CFG, 2⟩
@[simp] abbrev MKT_CFG_CELL_EN : Flag := ⟨R.MKT_CFG, 3⟩
@[simp] abbrev MKT_OWNGEN_OFFER : Field := ⟨R.MKT_OWNGEN, 0, 8⟩
@[simp] abbrev MKT_OWNGEN_BID : Field := ⟨R.MKT_OWNGEN, 8, 8⟩
@[simp] abbrev MKT_DRAW0_ADDR : Field := ⟨R.MKT_DRAW0, 0, 6⟩
@[simp] abbrev MKT_DRAW0_TENT : Flag := ⟨R.MKT_DRAW0, 6⟩
@[simp] abbrev MKT_DRAW0_VALID : Flag := ⟨R.MKT_DRAW0, 7⟩
@[simp] abbrev MKT_DRAW0_CUR : Field := ⟨R.MKT_DRAW0, 8, 8⟩
@[simp] abbrev MKT_DRAW1_ADDR : Field := ⟨R.MKT_DRAW1, 0, 6⟩
@[simp] abbrev MKT_DRAW1_TENT : Flag := ⟨R.MKT_DRAW1, 6⟩
@[simp] abbrev MKT_DRAW1_VALID : Flag := ⟨R.MKT_DRAW1, 7⟩
@[simp] abbrev MKT_DRAW1_CUR : Field := ⟨R.MKT_DRAW1, 8, 8⟩
@[simp] abbrev MKT_DRAW2_ADDR : Field := ⟨R.MKT_DRAW2, 0, 6⟩
@[simp] abbrev MKT_DRAW2_TENT : Flag := ⟨R.MKT_DRAW2, 6⟩
@[simp] abbrev MKT_DRAW2_VALID : Flag := ⟨R.MKT_DRAW2, 7⟩
@[simp] abbrev MKT_DRAW2_CUR : Field := ⟨R.MKT_DRAW2, 8, 8⟩
@[simp] abbrev MKT_DRAW3_ADDR : Field := ⟨R.MKT_DRAW3, 0, 6⟩
@[simp] abbrev MKT_DRAW3_TENT : Flag := ⟨R.MKT_DRAW3, 6⟩
@[simp] abbrev MKT_DRAW3_VALID : Flag := ⟨R.MKT_DRAW3, 7⟩
@[simp] abbrev MKT_DRAW3_CUR : Field := ⟨R.MKT_DRAW3, 8, 8⟩
@[simp] abbrev MKT_DRAWG0_OFFER : Field := ⟨R.MKT_DRAWG0, 0, 8⟩
@[simp] abbrev MKT_DRAWG0_BID : Field := ⟨R.MKT_DRAWG0, 8, 8⟩
@[simp] abbrev MKT_DRAWG1_OFFER : Field := ⟨R.MKT_DRAWG1, 0, 8⟩
@[simp] abbrev MKT_DRAWG1_BID : Field := ⟨R.MKT_DRAWG1, 8, 8⟩
@[simp] abbrev MKT_DRAWG2_OFFER : Field := ⟨R.MKT_DRAWG2, 0, 8⟩
@[simp] abbrev MKT_DRAWG2_BID : Field := ⟨R.MKT_DRAWG2, 8, 8⟩
@[simp] abbrev MKT_DRAWG3_OFFER : Field := ⟨R.MKT_DRAWG3, 0, 8⟩
@[simp] abbrev MKT_DRAWG3_BID : Field := ⟨R.MKT_DRAWG3, 8, 8⟩
@[simp] abbrev MKT_STALLSEL_ADDR : Field := ⟨R.MKT_STALLSEL, 0, 6⟩
@[simp] abbrev MKT_CTRL_CLRCNT : Flag := ⟨R.MKT_CTRL, 0⟩
@[simp] abbrev MKT_CACHE_RES : Field := ⟨R.MKT_CACHE, 0, 4⟩
@[simp] abbrev MKT_CACHE_DIRTY : Field := ⟨R.MKT_CACHE, 4, 4⟩
@[simp] abbrev MKT_CACHE_WINRDY : Flag := ⟨R.MKT_CACHE, 8⟩
@[simp] abbrev ALM_STATUS_LOCAL : Flag := ⟨R.ALM_STATUS, 0⟩
@[simp] abbrev ALM_STATUS_REMOTE : Flag := ⟨R.ALM_STATUS, 1⟩
@[simp] abbrev ALM_STATUS_READY : Flag := ⟨R.ALM_STATUS, 2⟩
@[simp] abbrev ALM_STATUS_DISCF : Flag := ⟨R.ALM_STATUS, 3⟩
@[simp] abbrev ALM_STATUS_HUSHED : Flag := ⟨R.ALM_STATUS, 4⟩
@[simp] abbrev ALM_STATUS_HORN_OK : Flag := ⟨R.ALM_STATUS, 5⟩
@[simp] abbrev ALM_STATUS_HSW : Flag := ⟨R.ALM_STATUS, 6⟩
@[simp] abbrev ALM_STATUS_CHG_SUSP : Flag := ⟨R.ALM_STATUS, 7⟩
@[simp] abbrev ALM_STATUS_DISCB : Flag := ⟨R.ALM_STATUS, 8⟩
@[simp] abbrev ALM_STATUS_KIND : Field := ⟨R.ALM_STATUS, 9, 2⟩
@[simp] abbrev ALM_STATUS_ALMA : Flag := ⟨R.ALM_STATUS, 11⟩
@[simp] abbrev ALM_STATUS_ALMB : Flag := ⟨R.ALM_STATUS, 12⟩
@[simp] abbrev ALM_STATUS_VAUXHOLD : Flag := ⟨R.ALM_STATUS, 13⟩
@[simp] abbrev ALM_EVENT_LOCAL_START : Flag := ⟨R.ALM_EVENT, 0⟩
@[simp] abbrev ALM_EVENT_LOCAL_END : Flag := ⟨R.ALM_EVENT, 1⟩
@[simp] abbrev ALM_EVENT_REMOTE_START : Flag := ⟨R.ALM_EVENT, 2⟩
@[simp] abbrev ALM_EVENT_REMOTE_END : Flag := ⟨R.ALM_EVENT, 3⟩
@[simp] abbrev ALM_EVENT_DISC_FAULT : Flag := ⟨R.ALM_EVENT, 4⟩
@[simp] abbrev ALM_EVENT_DISC_BCAST : Flag := ⟨R.ALM_EVENT, 5⟩
@[simp] abbrev ALM_EVENT_HUSH_IN : Flag := ⟨R.ALM_EVENT, 6⟩
@[simp] abbrev ALM_EVENT_HUSH_RX : Flag := ⟨R.ALM_EVENT, 7⟩
@[simp] abbrev ALM_EVENT_CLEAR_RX : Flag := ⟨R.ALM_EVENT, 8⟩
@[simp] abbrev ALM_EVENT_HORN_FAIL : Flag := ⟨R.ALM_EVENT, 9⟩
@[simp] abbrev ALM_CFG_KIND : Field := ⟨R.ALM_CFG, 0, 2⟩
@[simp] abbrev ALM_CFG_TEST : Flag := ⟨R.ALM_CFG, 2⟩
@[simp] abbrev ALM_CFG_HSW_REMOTE : Flag := ⟨R.ALM_CFG, 3⟩
@[simp] abbrev ALM_LASTORG_ADDR : Field := ⟨R.ALM_LASTORG, 0, 6⟩
@[simp] abbrev ALM_LASTORG_KIND : Field := ⟨R.ALM_LASTORG, 6, 2⟩
@[simp] abbrev ALM_LASTORG_TEST : Flag := ⟨R.ALM_LASTORG, 8⟩
@[simp] abbrev ALM_CTRL_HUSH : Flag := ⟨R.ALM_CTRL, 0⟩
@[simp] abbrev WB_STATUS_RUN : Flag := ⟨R.WB_STATUS, 0⟩
@[simp] abbrev WB_STATUS_BUSY : Flag := ⟨R.WB_STATUS, 1⟩
@[simp] abbrev WB_STATUS_SEQ : Field := ⟨R.WB_STATUS, 2, 3⟩
@[simp] abbrev WB_STATUS_PENDING : Flag := ⟨R.WB_STATUS, 5⟩
@[simp] abbrev WB_STATUS_PSEQ : Field := ⟨R.WB_STATUS, 6, 3⟩
@[simp] abbrev WB_STATUS_UNCAL : Flag := ⟨R.WB_STATUS, 9⟩
@[simp] abbrev WB_STATUS_FAULT : Flag := ⟨R.WB_STATUS, 10⟩
@[simp] abbrev WB_STATUS_OUTFULL : Flag := ⟨R.WB_STATUS, 11⟩
@[simp] abbrev WB_STATUS_HOLDOFF : Flag := ⟨R.WB_STATUS, 12⟩
@[simp] abbrev WB_STATUS_CMDBUSY : Flag := ⟨R.WB_STATUS, 13⟩
@[simp] abbrev WB_EVENT_RECORD : Flag := ⟨R.WB_EVENT, 0⟩
@[simp] abbrev WB_EVENT_SEQ_DONE : Flag := ⟨R.WB_EVENT, 1⟩
@[simp] abbrev WB_EVENT_SWEEP_ABORT : Flag := ⟨R.WB_EVENT, 2⟩
@[simp] abbrev WB_EVENT_CMD_REJECT : Flag := ⟨R.WB_EVENT, 3⟩
@[simp] abbrev WB_EVENT_RESUMED : Flag := ⟨R.WB_EVENT, 4⟩
@[simp] abbrev WB_EVENT_FAULT : Flag := ⟨R.WB_EVENT, 5⟩
@[simp] abbrev WB_EVENT_NOTICE : Flag := ⟨R.WB_EVENT, 6⟩
@[simp] abbrev WB_CMD_CODE : Field := ⟨R.WB_CMD, 0, 8⟩
@[simp] abbrev WB_CMDRES_CODE : Field := ⟨R.WB_CMDRES, 0, 8⟩
@[simp] abbrev WB_CMDRES_RESULT : Field := ⟨R.WB_CMDRES, 8, 3⟩
@[simp] abbrev VDT_STATUS_RESERVE : Field := ⟨R.VDT_STATUS, 0, 2⟩
@[simp] abbrev VDT_STATUS_LIFE : Field := ⟨R.VDT_STATUS, 2, 2⟩
@[simp] abbrev VDT_STATUS_CELL : Flag := ⟨R.VDT_STATUS, 4⟩
@[simp] abbrev VDT_STATUS_CHAIN : Flag := ⟨R.VDT_STATUS, 5⟩
@[simp] abbrev VDT_STATUS_HELD : Flag := ⟨R.VDT_STATUS, 6⟩
@[simp] abbrev VDT_STATUS_CURFEW : Flag := ⟨R.VDT_STATUS, 7⟩
@[simp] abbrev VDT_STATUS_TIMEVALID : Flag := ⟨R.VDT_STATUS, 8⟩
@[simp] abbrev VDT_STATUS_PROOF_DEFERRED : Flag := ⟨R.VDT_STATUS, 9⟩
@[simp] abbrev VDT_EVENT_NOTE : Flag := ⟨R.VDT_EVENT, 0⟩
@[simp] abbrev VDT_EVENT_VERDICT_CHG : Flag := ⟨R.VDT_EVENT, 1⟩
@[simp] abbrev VDT_EVENT_PROOF_START : Flag := ⟨R.VDT_EVENT, 2⟩
@[simp] abbrev VDT_EVENT_PROOF_END : Flag := ⟨R.VDT_EVENT, 3⟩
@[simp] abbrev VDT_EVENT_PROOF_SKIP : Flag := ⟨R.VDT_EVENT, 4⟩
@[simp] abbrev VDT_EVENT_RELEASE : Flag := ⟨R.VDT_EVENT, 5⟩
@[simp] abbrev VDT_NOTE_CODE : Field := ⟨R.VDT_NOTE, 0, 8⟩
@[simp] abbrev VDT_NOTE_AUDIBLE : Flag := ⟨R.VDT_NOTE, 8⟩
@[simp] abbrev VDT_NOTE_HELD : Flag := ⟨R.VDT_NOTE, 9⟩
@[simp] abbrev VDT_NOTE_SUBJECT : Field := ⟨R.VDT_NOTE, 10, 6⟩
@[simp] abbrev VDT_CURFEW_START : Field := ⟨R.VDT_CURFEW, 0, 8⟩
@[simp] abbrev VDT_CURFEW_END : Field := ⟨R.VDT_CURFEW, 8, 8⟩
@[simp] abbrev VDT_PROOFCFG_DAY : Field := ⟨R.VDT_PROOFCFG, 0, 3⟩
@[simp] abbrev VDT_PROOFCFG_EN : Flag := ⟨R.VDT_PROOFCFG, 3⟩
@[simp] abbrev VDT_PROOFCFG_HOUR : Field := ⟨R.VDT_PROOFCFG, 4, 5⟩
@[simp] abbrev VDT_PROOFCFG_MIN : Field := ⟨R.VDT_PROOFCFG, 9, 6⟩
@[simp] abbrev VDT_ZLIM_ZNEAR : Field := ⟨R.VDT_ZLIM, 0, 8⟩
@[simp] abbrev VDT_ZLIM_ZEND : Field := ⟨R.VDT_ZLIM, 8, 8⟩
@[simp] abbrev VDT_PROOF_OUTCOME : Field := ⟨R.VDT_PROOF, 0, 3⟩
@[simp] abbrev VDT_PROOF_CAP_VALID : Flag := ⟨R.VDT_PROOF, 3⟩
@[simp] abbrev VDT_PROOF_CAP : Field := ⟨R.VDT_PROOF, 4, 2⟩
@[simp] abbrev VDT_PROOF_Z_VALID : Flag := ⟨R.VDT_PROOF, 6⟩
@[simp] abbrev VDT_PROOF_Z : Field := ⟨R.VDT_PROOF, 7, 2⟩
@[simp] abbrev VDT_PROOF_LOW : Flag := ⟨R.VDT_PROOF, 9⟩
@[simp] abbrev VDT_PROOF_COUNTED : Flag := ⟨R.VDT_PROOF, 10⟩
@[simp] abbrev VDT_CTRL_PROOFREQ : Flag := ⟨R.VDT_CTRL, 0⟩
@[simp] abbrev LGR_STATUS_READY : Flag := ⟨R.LGR_STATUS, 0⟩
@[simp] abbrev LGR_STATUS_BACKB : Flag := ⟨R.LGR_STATUS, 1⟩
@[simp] abbrev LGR_STATUS_BACKC : Flag := ⟨R.LGR_STATUS, 2⟩
@[simp] abbrev LGR_STATUS_SINGLE : Flag := ⟨R.LGR_STATUS, 3⟩
@[simp] abbrev LGR_STATUS_BANKA_BAD : Flag := ⟨R.LGR_STATUS, 4⟩
@[simp] abbrev LGR_STATUS_BANKB_BAD : Flag := ⟨R.LGR_STATUS, 5⟩
@[simp] abbrev LGR_STATUS_EXHAUSTED : Flag := ⟨R.LGR_STATUS, 6⟩
@[simp] abbrev LGR_STATUS_RDBUSY : Flag := ⟨R.LGR_STATUS, 7⟩
@[simp] abbrev LGR_STATUS_HPEND : Flag := ⟨R.LGR_STATUS, 8⟩
@[simp] abbrev LGR_EVENT_SPOOL_HIGH : Flag := ⟨R.LGR_EVENT, 0⟩
@[simp] abbrev LGR_EVENT_BACKPRESSURE : Flag := ⟨R.LGR_EVENT, 1⟩
@[simp] abbrev LGR_EVENT_BANK_FAULT : Flag := ⟨R.LGR_EVENT, 2⟩
@[simp] abbrev LGR_EVENT_RECOVERED : Flag := ⟨R.LGR_EVENT, 3⟩
@[simp] abbrev LGR_EVENT_HOST_DONE : Flag := ⟨R.LGR_EVENT, 4⟩
@[simp] abbrev LGR_EVENT_READ_DONE : Flag := ⟨R.LGR_EVENT, 5⟩
@[simp] abbrev LGR_EVENT_TALLY_OTHER : Flag := ⟨R.LGR_EVENT, 6⟩
@[simp] abbrev LGR_EVENT_EXHAUSTED : Flag := ⟨R.LGR_EVENT, 7⟩
@[simp] abbrev LGR_CFG_TWIN : Field := ⟨R.LGR_CFG, 0, 6⟩
@[simp] abbrev LGR_CFG_HWM : Field := ⟨R.LGR_CFG, 8, 7⟩
@[simp] abbrev LGR_RDCTRL_MODE : Field := ⟨R.LGR_RDCTRL, 0, 2⟩
@[simp] abbrev LGR_RDSTAT_STAT : Field := ⟨R.LGR_RDSTAT, 0, 3⟩
@[simp] abbrev LGR_RDSTAT_LOST : Flag := ⟨R.LGR_RDSTAT, 3⟩
@[simp] abbrev LGR_HPOST_TYPE : Field := ⟨R.LGR_HPOST, 0, 4⟩
@[simp] abbrev LGR_HPOST_LENGTH : Field := ⟨R.LGR_HPOST, 4, 4⟩
@[simp] abbrev LGR_HRES_RES : Field := ⟨R.LGR_HRES, 0, 3⟩
@[simp] abbrev LGR_TALLYOPEN_COUNT : Field := ⟨R.LGR_TALLYOPEN, 0, 5⟩
@[simp] abbrev LGR_TALLYOPEN_OTHER : Flag := ⟨R.LGR_TALLYOPEN, 5⟩
@[simp] abbrev LGR_CTRL_FLUSH : Flag := ⟨R.LGR_CTRL, 0⟩
@[simp] abbrev TC_STATUS_TCSTATE : Field := ⟨R.TC_STATUS, 0, 2⟩
@[simp] abbrev TC_STATUS_ORIENT : Flag := ⟨R.TC_STATUS, 2⟩
@[simp] abbrev TC_STATUS_ADV : Field := ⟨R.TC_STATUS, 3, 2⟩
@[simp] abbrev TC_STATUS_BC12 : Field := ⟨R.TC_STATUS, 5, 2⟩
@[simp] abbrev TC_STATUS_BC12_BUSY : Flag := ⟨R.TC_STATUS, 7⟩
@[simp] abbrev TC_STATUS_VBUS_LOW : Flag := ⟨R.TC_STATUS, 8⟩
@[simp] abbrev TC_STATUS_DEBOUNCE_OK : Flag := ⟨R.TC_STATUS, 9⟩
@[simp] abbrev TC_STATUS_SUSPLIM : Flag := ⟨R.TC_STATUS, 10⟩
@[simp] abbrev PD_STATUS_PARTNER : Flag := ⟨R.PD_STATUS, 0⟩
@[simp] abbrev PD_STATUS_CONTRACT : Flag := ⟨R.PD_STATUS, 1⟩
@[simp] abbrev PD_STATUS_OBJTYPE : Field := ⟨R.PD_STATUS, 2, 2⟩
@[simp] abbrev PD_STATUS_OWNER : Flag := ⟨R.PD_STATUS, 4⟩
@[simp] abbrev PD_STATUS_REV : Field := ⟨R.PD_STATUS, 5, 2⟩
@[simp] abbrev PD_STATUS_TRANSITION : Flag := ⟨R.PD_STATUS, 7⟩
@[simp] abbrev PD_STATUS_NONPD : Flag := ⟨R.PD_STATUS, 8⟩
@[simp] abbrev PD_STATUS_SVCMODE : Flag := ⟨R.PD_STATUS, 9⟩
@[simp] abbrev PD_STATUS_SINKTXOK : Flag := ⟨R.PD_STATUS, 10⟩
@[simp] abbrev PD_EVENT_ATTACH : Flag := ⟨R.PD_EVENT, 0⟩
@[simp] abbrev PD_EVENT_DETACH : Flag := ⟨R.PD_EVENT, 1⟩
@[simp] abbrev PD_EVENT_ADV_CHG : Flag := ⟨R.PD_EVENT, 2⟩
@[simp] abbrev PD_EVENT_BC12_DONE : Flag := ⟨R.PD_EVENT, 3⟩
@[simp] abbrev PD_EVENT_SRCCAP : Flag := ⟨R.PD_EVENT, 4⟩
@[simp] abbrev PD_EVENT_CONTRACT : Flag := ⟨R.PD_EVENT, 5⟩
@[simp] abbrev PD_EVENT_REFUSED : Flag := ⟨R.PD_EVENT, 6⟩
@[simp] abbrev PD_EVENT_HARDRESET : Flag := ⟨R.PD_EVENT, 7⟩
@[simp] abbrev PD_EVENT_SOFTRESET : Flag := ⟨R.PD_EVENT, 8⟩
@[simp] abbrev PD_EVENT_NONPD : Flag := ⟨R.PD_EVENT, 9⟩
@[simp] abbrev PD_EVENT_SVC_ENTER : Flag := ⟨R.PD_EVENT, 10⟩
@[simp] abbrev PD_EVENT_SVC_EXIT : Flag := ⟨R.PD_EVENT, 11⟩
@[simp] abbrev PD_EVENT_ALERT_RX : Flag := ⟨R.PD_EVENT, 12⟩
@[simp] abbrev PD_EVENT_OWNER_CHG : Flag := ⟨R.PD_EVENT, 13⟩
@[simp] abbrev PD_CFG_PD_EN : Flag := ⟨R.PD_CFG, 0⟩
@[simp] abbrev PD_CFG_PPS_EN : Flag := ⟨R.PD_CFG, 1⟩
@[simp] abbrev PD_CFG_AVS_EN : Flag := ⟨R.PD_CFG, 2⟩
@[simp] abbrev PD_CFG_BC12_EN : Flag := ⟨R.PD_CFG, 3⟩
@[simp] abbrev PD_CFG_SVC_EN : Flag := ⟨R.PD_CFG, 4⟩
@[simp] abbrev PD_CFG_REV3_EN : Flag := ⟨R.PD_CFG, 5⟩
@[simp] abbrev PD_CTRL_TAKE : Flag := ⟨R.PD_CTRL, 0⟩
@[simp] abbrev PD_CTRL_RENEG : Flag := ⟨R.PD_CTRL, 1⟩
@[simp] abbrev PD_CTRL_GETCAPS : Flag := ⟨R.PD_CTRL, 2⟩
@[simp] abbrev PD_CTRL_EXITSVC : Flag := ⟨R.PD_CTRL, 3⟩
@[simp] abbrev USB_STATUS_PULLUP : Flag := ⟨R.USB_STATUS, 0⟩
@[simp] abbrev USB_STATUS_STATE : Field := ⟨R.USB_STATUS, 1, 2⟩
@[simp] abbrev USB_STATUS_SUSPENDED : Flag := ⟨R.USB_STATUS, 3⟩
@[simp] abbrev USB_STATUS_NOHOST : Flag := ⟨R.USB_STATUS, 4⟩
@[simp] abbrev USB_STATUS_SOFLOCK : Flag := ⟨R.USB_STATUS, 5⟩
@[simp] abbrev USB_EVENT_BUSRESET : Flag := ⟨R.USB_EVENT, 0⟩
@[simp] abbrev USB_EVENT_CONFIGURED : Flag := ⟨R.USB_EVENT, 1⟩
@[simp] abbrev USB_EVENT_SUSPEND : Flag := ⟨R.USB_EVENT, 2⟩
@[simp] abbrev USB_EVENT_RESUME : Flag := ⟨R.USB_EVENT, 3⟩
@[simp] abbrev USB_EVENT_SETUP_ABORT : Flag := ⟨R.USB_EVENT, 4⟩
@[simp] abbrev USB_EVENT_CHUNK_LOST : Flag := ⟨R.USB_EVENT, 5⟩
@[simp] abbrev USB_CFG_EN : Flag := ⟨R.USB_CFG, 0⟩
@[simp] abbrev USB_CFG_SELFPWR : Flag := ⟨R.USB_CFG, 1⟩
@[simp] abbrev OPT_STATUS_CONT : Flag := ⟨R.OPT_STATUS, 0⟩
@[simp] abbrev OPT_STATUS_HUNT : Flag := ⟨R.OPT_STATUS, 1⟩
@[simp] abbrev OPT_STATUS_RX : Flag := ⟨R.OPT_STATUS, 2⟩
@[simp] abbrev OPT_STATUS_FLOOD : Flag := ⟨R.OPT_STATUS, 3⟩
@[simp] abbrev OPT_STATUS_SETTLING : Flag := ⟨R.OPT_STATUS, 4⟩
@[simp] abbrev OPT_STATUS_ANSPEND : Flag := ⟨R.OPT_STATUS, 5⟩
@[simp] abbrev OPT_EVENT_FRAME_OK : Flag := ⟨R.OPT_EVENT, 0⟩
@[simp] abbrev OPT_EVENT_FRAME_ERR : Flag := ⟨R.OPT_EVENT, 1⟩
@[simp] abbrev OPT_EVENT_FLOOD : Flag := ⟨R.OPT_EVENT, 2⟩
@[simp] abbrev OPT_EVENT_ANSWER : Flag := ⟨R.OPT_EVENT, 3⟩
@[simp] abbrev OPT_EVENT_ANS_LOST : Flag := ⟨R.OPT_EVENT, 4⟩
@[simp] abbrev OPT_CFG_EN : Flag := ⟨R.OPT_CFG, 0⟩
@[simp] abbrev OPT_CFG_WRITE_EN : Flag := ⟨R.OPT_CFG, 1⟩
@[simp] abbrev SVC_STATUS_OPEN : Flag := ⟨R.SVC_STATUS, 0⟩
@[simp] abbrev SVC_STATUS_TRANSPORT : Field := ⟨R.SVC_STATUS, 1, 2⟩
@[simp] abbrev SVC_STATUS_GEN2 : Flag := ⟨R.SVC_STATUS, 3⟩
@[simp] abbrev SVC_STATUS_BOOTROM : Flag := ⟨R.SVC_STATUS, 4⟩
@[simp] abbrev SVC_STATUS_IMGSTAGED : Flag := ⟨R.SVC_STATUS, 5⟩
@[simp] abbrev SVC_STATUS_LOCKOUT : Flag := ⟨R.SVC_STATUS, 6⟩
@[simp] abbrev SVC_CFG_TIMEOUT : Field := ⟨R.SVC_CFG, 0, 10⟩
@[simp] abbrev SVC_CTRL_CLOSE : Flag := ⟨R.SVC_CTRL, 0⟩
@[simp] abbrev TWB_STATUS_AWAKE : Flag := ⟨R.TWB_STATUS, 0⟩
@[simp] abbrev TWB_STATUS_HBUSY : Flag := ⟨R.TWB_STATUS, 1⟩
@[simp] abbrev TWB_STATUS_CTL : Flag := ⟨R.TWB_STATUS, 2⟩
@[simp] abbrev TWB_STATUS_PRE : Flag := ⟨R.TWB_STATUS, 3⟩
@[simp] abbrev TWB_STATUS_SHADOW : Flag := ⟨R.TWB_STATUS, 4⟩
@[simp] abbrev TWB_STATUS_BUSFAULT_H : Flag := ⟨R.TWB_STATUS, 5⟩
@[simp] abbrev TWB_STATUS_BUSFAULT_C : Flag := ⟨R.TWB_STATUS, 6⟩
@[simp] abbrev TWB_STATUS_WAKEPIN : Flag := ⟨R.TWB_STATUS, 7⟩
@[simp] abbrev TWB_EVENT_TIMEOUT : Flag := ⟨R.TWB_EVENT, 0⟩
@[simp] abbrev TWB_EVENT_SDA_RELEASE : Flag := ⟨R.TWB_EVENT, 1⟩
@[simp] abbrev TWB_EVENT_PEC_ERR : Flag := ⟨R.TWB_EVENT, 2⟩
@[simp] abbrev TWB_EVENT_PARTIAL : Flag := ⟨R.TWB_EVENT, 3⟩
@[simp] abbrev TWB_EVENT_BUSY_NACK : Flag := ⟨R.TWB_EVENT, 4⟩
@[simp] abbrev TWB_EVENT_WAKE_REFUSE : Flag := ⟨R.TWB_EVENT, 5⟩
@[simp] abbrev TWB_EVENT_ARB_LOST : Flag := ⟨R.TWB_EVENT, 6⟩
@[simp] abbrev TWB_EVENT_PUSH_DONE : Flag := ⟨R.TWB_EVENT, 7⟩
@[simp] abbrev TWB_EVENT_PUSH_FAIL : Flag := ⟨R.TWB_EVENT, 8⟩
@[simp] abbrev TWB_EVENT_RECOVER : Flag := ⟨R.TWB_EVENT, 9⟩
@[simp] abbrev TWB_EVENT_PORTC_FAIL : Flag := ⟨R.TWB_EVENT, 10⟩
@[simp] abbrev TWB_CFG_STRETCH : Flag := ⟨R.TWB_CFG, 0⟩
@[simp] abbrev TWB_CFG_SMBUS : Flag := ⟨R.TWB_CFG, 1⟩
@[simp] abbrev TWB_CFG_PEC : Flag := ⟨R.TWB_CFG, 2⟩
@[simp] abbrev TWB_CFG_FMPLUS : Flag := ⟨R.TWB_CFG, 3⟩
@[simp] abbrev TWB_CFG_BASECOMPACT : Flag := ⟨R.TWB_CFG, 4⟩
@[simp] abbrev TWB_CFG_MASKMODE : Flag := ⟨R.TWB_CFG, 5⟩
@[simp] abbrev TWB_CFG_TOUT_EN : Flag := ⟨R.TWB_CFG, 6⟩
@[simp] abbrev TWB_CFG_PECW : Field := ⟨R.TWB_CFG, 8, 5⟩
@[simp] abbrev TWB_ADDR1_ADDR : Field := ⟨R.TWB_ADDR1, 0, 7⟩
@[simp] abbrev TWB_ADDR1_EN : Flag := ⟨R.TWB_ADDR1, 7⟩
@[simp] abbrev TWB_ADDR1_COMPACT : Flag := ⟨R.TWB_ADDR1, 8⟩
@[simp] abbrev TWB_ADDR2_ADDR : Field := ⟨R.TWB_ADDR2, 0, 7⟩
@[simp] abbrev TWB_ADDR2_EN : Flag := ⟨R.TWB_ADDR2, 7⟩
@[simp] abbrev TWB_ADDR2_COMPACT : Flag := ⟨R.TWB_ADDR2, 8⟩
@[simp] abbrev TWB_ADDR3_ADDR : Field := ⟨R.TWB_ADDR3, 0, 7⟩
@[simp] abbrev TWB_ADDR3_EN : Flag := ⟨R.TWB_ADDR3, 7⟩
@[simp] abbrev TWB_ADDR3_COMPACT : Flag := ⟨R.TWB_ADDR3, 8⟩
@[simp] abbrev TWB_CTL_CFG_EN : Flag := ⟨R.TWB_CTL_CFG, 0⟩
@[simp] abbrev TWB_CTL_CFG_SPEED : Field := ⟨R.TWB_CTL_CFG, 1, 2⟩
@[simp] abbrev TWB_CTL_CFG_PTRLEN : Field := ⟨R.TWB_CTL_CFG, 3, 2⟩
@[simp] abbrev TWB_CTL_CFG_PUSHPEC : Flag := ⟨R.TWB_CTL_CFG, 5⟩
@[simp] abbrev TWB_PUSH_SEQ : Field := ⟨R.TWB_PUSH, 0, 8⟩
@[simp] abbrev TWB_PUSH_PENDING : Flag := ⟨R.TWB_PUSH, 8⟩
@[simp] abbrev TWB_PUSH_RETRIES : Field := ⟨R.TWB_PUSH, 9, 2⟩
@[simp] abbrev TWB_PORTC_BUSY : Flag := ⟨R.TWB_PORTC, 0⟩
@[simp] abbrev TWB_PORTC_TWODEV : Flag := ⟨R.TWB_PORTC, 1⟩
@[simp] abbrev TWB_PORTC_ONEBYTE : Flag := ⟨R.TWB_PORTC, 2⟩
@[simp] abbrev TWB_PORTC_SIZE : Field := ⟨R.TWB_PORTC, 3, 3⟩
@[simp] abbrev TWB_PORTC_DEV0_FAIL : Flag := ⟨R.TWB_PORTC, 6⟩
@[simp] abbrev TWB_PORTC_DEV1_FAIL : Flag := ⟨R.TWB_PORTC, 7⟩
@[simp] abbrev TWB_PORTC_WPLOW : Flag := ⟨R.TWB_PORTC, 8⟩
@[simp] abbrev CLK_STATUS_AONSRC : Field := ⟨R.CLK_STATUS, 0, 2⟩
@[simp] abbrev CLK_STATUS_XTAL_RUN : Flag := ⟨R.CLK_STATUS, 2⟩
@[simp] abbrev CLK_STATUS_HFO2 : Flag := ⟨R.CLK_STATUS, 3⟩
@[simp] abbrev CLK_STATUS_USBLOCK : Flag := ⟨R.CLK_STATUS, 4⟩
@[simp] abbrev CLK_STATUS_WDOFAIL : Flag := ⟨R.CLK_STATUS, 5⟩
@[simp] abbrev CLK_STATUS_TIMEVALID : Flag := ⟨R.CLK_STATUS, 6⟩
@[simp] abbrev CLK_STATUS_TSRC : Field := ⟨R.CLK_STATUS, 7, 2⟩
@[simp] abbrev CLK_STATUS_SLEW : Flag := ⟨R.CLK_STATUS, 9⟩
@[simp] abbrev CLK_STATUS_DST : Flag := ⟨R.CLK_STATUS, 10⟩
@[simp] abbrev CLK_STATUS_HWD_RUN : Flag := ⟨R.CLK_STATUS, 11⟩
@[simp] abbrev CLK_STATUS_HWD_SECOND : Flag := ⟨R.CLK_STATUS, 12⟩
@[simp] abbrev CLK_STATUS_PWD_RUN : Flag := ⟨R.CLK_STATUS, 13⟩
@[simp] abbrev CLK_STATUS_FALLBACK : Flag := ⟨R.CLK_STATUS, 14⟩
@[simp] abbrev CLK_EVENT_XTAL_FAIL : Flag := ⟨R.CLK_EVENT, 0⟩
@[simp] abbrev CLK_EVENT_LFO_FAIL : Flag := ⟨R.CLK_EVENT, 1⟩
@[simp] abbrev CLK_EVENT_HFO_FAIL : Flag := ⟨R.CLK_EVENT, 2⟩
@[simp] abbrev CLK_EVENT_WDO_FAIL : Flag := ⟨R.CLK_EVENT, 3⟩
@[simp] abbrev CLK_EVENT_RECOVER : Flag := ⟨R.CLK_EVENT, 4⟩
@[simp] abbrev CLK_EVENT_TIME_VALID : Flag := ⟨R.CLK_EVENT, 5⟩
@[simp] abbrev CLK_EVENT_TIME_STEP : Flag := ⟨R.CLK_EVENT, 6⟩
@[simp] abbrev CLK_EVENT_HWD_WARN : Flag := ⟨R.CLK_EVENT, 7⟩
@[simp] abbrev CLK_EVENT_HWD_EXPIRE : Flag := ⟨R.CLK_EVENT, 8⟩
@[simp] abbrev CLK_EVENT_PWD_WARN : Flag := ⟨R.CLK_EVENT, 9⟩
@[simp] abbrev CLK_EVENT_SLOT_FALLBACK : Flag := ⟨R.CLK_EVENT, 10⟩
@[simp] abbrev CLK_EVENT_SYNC_RX : Flag := ⟨R.CLK_EVENT, 11⟩
@[simp] abbrev CLK_CFG_XTAL : Flag := ⟨R.CLK_CFG, 0⟩
@[simp] abbrev CLK_CFG_USBLOCK_EN : Flag := ⟨R.CLK_CFG, 1⟩
@[simp] abbrev CLK_CFG_SYNC_TX : Flag := ⟨R.CLK_CFG, 2⟩
@[simp] abbrev CLK_CFG_SYNC_RX : Flag := ⟨R.CLK_CFG, 3⟩
@[simp] abbrev CLK_CFG_DST : Field := ⟨R.CLK_CFG, 4, 2⟩
@[simp] abbrev CLK_LOCAL_MIN : Field := ⟨R.CLK_LOCAL, 0, 11⟩
@[simp] abbrev CLK_LOCAL_DAY : Field := ⟨R.CLK_LOCAL, 11, 3⟩
@[simp] abbrev CLK_LOCAL_DST : Flag := ⟨R.CLK_LOCAL, 14⟩
@[simp] abbrev CLK_LOCAL_VALID : Flag := ⟨R.CLK_LOCAL, 15⟩
@[simp] abbrev CLK_SYNCSRC_ADDR : Field := ⟨R.CLK_SYNCSRC, 0, 8⟩
@[simp] abbrev CLK_SYNCSRC_MIN : Field := ⟨R.CLK_SYNCSRC, 8, 8⟩
@[simp] abbrev CLK_HWDCFG_EN : Flag := ⟨R.CLK_HWDCFG, 0⟩
@[simp] abbrev CLK_HWDCFG_E : Field := ⟨R.CLK_HWDCFG, 1, 4⟩
@[simp] abbrev CLK_HWDCFG_UNITRST : Flag := ⟨R.CLK_HWDCFG, 5⟩
@[simp] abbrev CLK_HWDLEFT_SEC : Field := ⟨R.CLK_HWDLEFT, 0, 9⟩
@[simp] abbrev CLK_HWDLEFT_SECOND : Flag := ⟨R.CLK_HWDLEFT, 15⟩
@[simp] abbrev CLK_PWD_RESETS : Field := ⟨R.CLK_PWD, 0, 2⟩
@[simp] abbrev CLK_PWD_OTHERFIRST : Flag := ⟨R.CLK_PWD, 2⟩
@[simp] abbrev CLK_PWD_FALLBACK : Flag := ⟨R.CLK_PWD, 3⟩
@[simp] abbrev THM_STATUS_BAND : Field := ⟨R.THM_STATUS, 0, 3⟩
@[simp] abbrev THM_STATUS_COOLING : Flag := ⟨R.THM_STATUS, 3⟩
@[simp] abbrev THM_STATUS_BROKEN : Field := ⟨R.THM_STATUS, 4, 7⟩
@[simp] abbrev THM_STATUS_HOLD110 : Flag := ⟨R.THM_STATUS, 11⟩
@[simp] abbrev THM_EVENT_BAND_UP : Flag := ⟨R.THM_EVENT, 0⟩
@[simp] abbrev THM_EVENT_BAND_DOWN : Flag := ⟨R.THM_EVENT, 1⟩
@[simp] abbrev THM_EVENT_BROKEN : Flag := ⟨R.THM_EVENT, 2⟩
@[simp] abbrev THM_EVENT_SHUTDOWN : Flag := ⟨R.THM_EVENT, 3⟩
@[simp] abbrev THM_EVENT_RESTART : Flag := ⟨R.THM_EVENT, 4⟩
@[simp] abbrev THM_CFG_TTHR : Field := ⟨R.THM_CFG, 0, 7⟩
@[simp] abbrev THM_CFG_SLOPE : Field := ⟨R.THM_CFG, 7, 5⟩
@[simp] abbrev THM_FACTOR_F : Field := ⟨R.THM_FACTOR, 0, 7⟩
@[simp] abbrev THM_FACTOR_SENSOR : Field := ⟨R.THM_FACTOR, 7, 3⟩
@[simp] abbrev CFG_STATUS_LOADED : Flag := ⟨R.CFG_STATUS, 0⟩
@[simp] abbrev CFG_STATUS_DEGRADED : Flag := ⟨R.CFG_STATUS, 1⟩
@[simp] abbrev CFG_STATUS_DENIED : Flag := ⟨R.CFG_STATUS, 2⟩
@[simp] abbrev CFG_STATUS_WRBUSY : Flag := ⟨R.CFG_STATUS, 3⟩
@[simp] abbrev CFG_STATUS_WRFAIL : Flag := ⟨R.CFG_STATUS, 4⟩
@[simp] abbrev CFG_STATUS_PEND : Flag := ⟨R.CFG_STATUS, 5⟩
@[simp] abbrev CFG_STATUS_MISMATCH : Flag := ⟨R.CFG_STATUS, 6⟩
@[simp] abbrev CFG_STATUS_LOCKED : Flag := ⟨R.CFG_STATUS, 7⟩
@[simp] abbrev CFG_STATUS_HOSTIMG : Flag := ⟨R.CFG_STATUS, 8⟩
@[simp] abbrev CFG_EVENT_COMMIT : Flag := ⟨R.CFG_EVENT, 0⟩
@[simp] abbrev CFG_EVENT_REVERT : Flag := ⟨R.CFG_EVENT, 1⟩
@[simp] abbrev CFG_EVENT_DENIED : Flag := ⟨R.CFG_EVENT, 2⟩
@[simp] abbrev CFG_EVENT_WRDONE : Flag := ⟨R.CFG_EVENT, 3⟩
@[simp] abbrev CFG_EVENT_WRFAIL : Flag := ⟨R.CFG_EVENT, 4⟩
@[simp] abbrev CFG_EVENT_DEGRADED : Flag := ⟨R.CFG_EVENT, 5⟩
@[simp] abbrev CFG_EVENT_MISMATCH : Flag := ⟨R.CFG_EVENT, 6⟩
@[simp] abbrev CFG_INFO_COPY : Flag := ⟨R.CFG_INFO, 0⟩
@[simp] abbrev CFG_INFO_FORMAT : Flag := ⟨R.CFG_INFO, 1⟩
@[simp] abbrev CFG_INFO_CHEM : Field := ⟨R.CFG_INFO, 2, 4⟩
@[simp] abbrev CFG_INFO_ADDR : Field := ⟨R.CFG_INFO, 6, 2⟩
@[simp] abbrev CFG_INFO_NONE : Flag := ⟨R.CFG_INFO, 8⟩
@[simp] abbrev SNAP_CTRL_TAKE : Flag := ⟨R.SNAP_CTRL, 0⟩

end F

end Sys2Proof.Machine
end

