-- ==== Sys2Proof/Machine/Kinds.lean ====
section
/-!
DEFINITION. The record kinds of the Ledger: class, producer and type of every record and tallied event (R196, R291,
R292, R300, R302, R308, R320, R389, R464).
-/

namespace Sys2Proof.Machine

/-- A record kind: class 1 A, 2 B, 3 C (counted only); producer; type. -/
structure Kind where
  cls : Nat
  prod : Nat
  typ : Nat
  deriving DecidableEq, Repr

/-- The class/type word of a head slot: class in bits 15:14, producer in 12:8, type in 7:0 (R289). -/
def classType (cls prod typ : Nat) : Nat := cls * 0x4000 + prod * 0x100 + typ

namespace K

/-! Producer 0x00, the Ledger (R300, R302, R308, R294). -/
abbrev TALLY : Kind := ⟨3, 0x00, 0x01⟩
abbrev BANK_FAULT : Kind := ⟨1, 0x00, 0x02⟩
abbrev RECOVERY : Kind := ⟨2, 0x00, 0x03⟩
abbrev TIME_STEP : Kind := ⟨2, 0x00, 0x04⟩
/-! Producer 0x01, the alarm sequencer (R292). -/
abbrev ALARM_START : Kind := ⟨1, 0x01, 0x01⟩
abbrev ALARM_REMOTE : Kind := ⟨1, 0x01, 0x02⟩
abbrev REMOTE_END : Kind := ⟨1, 0x01, 0x03⟩
abbrev ALARM_END : Kind := ⟨1, 0x01, 0x04⟩
abbrev DISC_FAULT : Kind := ⟨1, 0x01, 0x05⟩
abbrev DISC_CLEAR : Kind := ⟨1, 0x01, 0x06⟩
abbrev HUSH : Kind := ⟨1, 0x01, 0x07⟩
abbrev HORN_FAIL : Kind := ⟨1, 0x01, 0x08⟩
/-- The tally of ignored disagreements (R37); no rule gives its type code. -/
abbrev GLITCH : Kind := ⟨3, 0x01, Config.glitchType.toNat⟩
/-! Producer 0x02, the system. -/
abbrev START : Kind := ⟨2, 0x02, 0x01⟩
abbrev STATE_CHANGE : Kind := ⟨2, 0x02, 0x02⟩
abbrev SAFE_ENTRY : Kind := ⟨1, 0x02, 0x03⟩
abbrev RESET : Kind := ⟨1, 0x02, 0x04⟩
abbrev RESET_REFUSED : Kind := ⟨3, 0x02, 0x05⟩
abbrev SHIP_ENTRY : Kind := ⟨1, 0x02, 0x06⟩
abbrev SHIP_REFUSED : Kind := ⟨2, 0x02, 0x07⟩
abbrev STRAP_FAULT : Kind := ⟨1, 0x02, 0x08⟩
abbrev COPY_TIE : Kind := ⟨2, 0x02, 0x09⟩
abbrev COPY_DEGRADED : Kind := ⟨2, 0x02, 0x0A⟩
abbrev IMAGE_REFUSED : Kind := ⟨2, 0x02, 0x0B⟩
abbrev IMAGE_WRITE : Kind := ⟨2, 0x02, 0x0C⟩
abbrev SLOT_INVALID : Kind := ⟨2, 0x02, 0x0D⟩
abbrev CFG_DENIED : Kind := ⟨3, 0x02, 0x0E⟩
/-! Producer 0x03, power path and converters. -/
abbrev SRC_ARRIVE : Kind := ⟨2, 0x03, 0x01⟩
abbrev SRC_LOSS : Kind := ⟨2, 0x03, 0x02⟩
abbrev INPUT_TRIP : Kind := ⟨1, 0x03, 0x03⟩
abbrev SAFELOW_TIMEOUT : Kind := ⟨2, 0x03, 0x04⟩
abbrev CHANGEOVER : Kind := ⟨2, 0x03, 0x05⟩
abbrev SYS_SHORT : Kind := ⟨1, 0x03, 0x06⟩
abbrev SYS_OVP : Kind := ⟨1, 0x03, 0x07⟩
abbrev TET_SHORT : Kind := ⟨2, 0x03, 0x08⟩
abbrev AUX_FAULT : Kind := ⟨1, 0x03, 0x09⟩
abbrev HSW_OCP : Kind := ⟨1, 0x03, 0x0A⟩
abbrev SHED : Kind := ⟨3, 0x03, 0x0B⟩
/-! Producer 0x04, the charger. -/
abbrev CELL_ABSENT : Kind := ⟨1, 0x04, 0x01⟩
abbrev CHG_FULL : Kind := ⟨2, 0x04, 0x02⟩
abbrev CHG_TARGET : Kind := ⟨2, 0x04, 0x03⟩
abbrev CHG_LIMITED : Kind := ⟨2, 0x04, 0x04⟩
abbrev CHG_SUSPEND : Kind := ⟨3, 0x04, 0x05⟩
abbrev CHG_FAULT : Kind := ⟨1, 0x04, 0x06⟩
abbrev NTC_FAULT : Kind := ⟨1, 0x04, 0x07⟩
/-! Producer 0x05, the Weighbridge (R196). -/
abbrev WB_PERIODIC : Kind := ⟨2, 0x05, 0x01⟩
abbrev WB_SNAP : Kind := ⟨2, 0x05, 0x02⟩
abbrev WB_SWEEP : Kind := ⟨2, 0x05, 0x03⟩
abbrev SWEEP_ABORT : Kind := ⟨2, 0x05, 0x04⟩
abbrev WB_CAPACITY : Kind := ⟨2, 0x05, 0x05⟩
abbrev WB_CAL : Kind := ⟨2, 0x05, 0x06⟩
abbrev WB_IDENT : Kind := ⟨2, 0x05, 0x07⟩
abbrev WB_RESET : Kind := ⟨1, 0x05, 0x08⟩
abbrev WB_FAULT : Kind := ⟨1, 0x05, 0x09⟩
abbrev WB_NOTICE : Kind := ⟨2, 0x05, 0x0A⟩
/-! Producer 0x06, the verdict engine. -/
abbrev VERDICT : Kind := ⟨2, 0x06, 0x01⟩
abbrev VERDICT_CRITICAL : Kind := ⟨1, 0x06, 0x01⟩
abbrev Z_BASELINE : Kind := ⟨2, 0x06, 0x02⟩
abbrev PROOF_START : Kind := ⟨2, 0x06, 0x03⟩
abbrev PROOF_END : Kind := ⟨2, 0x06, 0x04⟩
abbrev PROOF_ABORT : Kind := ⟨2, 0x06, 0x05⟩
abbrev PROOF_SKIP : Kind := ⟨2, 0x06, 0x06⟩
abbrev NOTE_DROP : Kind := ⟨3, 0x06, 0x07⟩
abbrev CELL_NEW : Kind := ⟨2, 0x06, 0x08⟩
/-! Producer 0x07, the Tether link. -/
abbrev LINK_CHG : Kind := ⟨2, 0x07, 0x01⟩
abbrev RXOVF : Kind := ⟨3, 0x07, 0x02⟩
abbrev TX_DROP : Kind := ⟨3, 0x07, 0x03⟩
abbrev TET_ERR : Kind := ⟨3, 0x07, 0x04⟩
abbrev TET_RESTRAIN : Kind := ⟨2, 0x07, 0x05⟩
abbrev TET_GUARD : Kind := ⟨1, 0x07, 0x06⟩
abbrev PEER_LOSS : Kind := ⟨2, 0x07, 0x07⟩
abbrev PEER_BACK : Kind := ⟨2, 0x07, 0x08⟩
abbrev ADDR_CHG : Kind := ⟨2, 0x07, 0x09⟩
abbrev ADDR_FULL : Kind := ⟨1, 0x07, 0x0A⟩
abbrev ADDR_CONFLICT : Kind := ⟨1, 0x07, 0x0B⟩
abbrev TET_CUTOFF : Kind := ⟨2, 0x07, 0x0C⟩
/-! Producer 0x08, market and Stall. -/
abbrev MKT_OFFER : Kind := ⟨2, 0x08, 0x01⟩
abbrev MKT_GRANT : Kind := ⟨2, 0x08, 0x02⟩
abbrev MKT_WITHDRAW : Kind := ⟨2, 0x08, 0x03⟩
abbrev MKT_LAPSE : Kind := ⟨2, 0x08, 0x04⟩
abbrev MKT_GRANT_END : Kind := ⟨2, 0x08, 0x05⟩
abbrev MKT_STALE : Kind := ⟨3, 0x08, 0x06⟩
abbrev STALL_REPAIR : Kind := ⟨1, 0x08, 0x07⟩
/-! Producer 0x09, the host and the command journal (R312, R320). -/
abbrev CMD_ACCEPT : Kind := ⟨2, 0x09, 0x10⟩
abbrev CMD_DONE : Kind := ⟨2, 0x09, 0x11⟩
/-- The tally of refused commands (R325), whose type code no rule gives. -/
abbrev CMD_BUSY : Kind := ⟨3, 0x09, Config.cmdBusyType.toNat⟩
/-! Producer 0x0A, service (R360, R389). -/
abbrev TC_ATTACH : Kind := ⟨2, 0x0A, 0x01⟩
abbrev TC_DETACH : Kind := ⟨2, 0x0A, 0x02⟩
abbrev PD_CONTRACT : Kind := ⟨2, 0x0A, 0x03⟩
abbrev PD_REFUSED : Kind := ⟨3, 0x0A, 0x04⟩
abbrev PD_HARDRESET : Kind := ⟨2, 0x0A, 0x05⟩
abbrev PD_NONPD : Kind := ⟨2, 0x0A, 0x06⟩
abbrev PD_OWNER : Kind := ⟨2, 0x0A, 0x07⟩
abbrev PD_SVCMODE : Kind := ⟨2, 0x0A, 0x08⟩
abbrev SVC_OPEN : Kind := ⟨2, 0x0A, 0x10⟩
abbrev SVC_CLOSE : Kind := ⟨2, 0x0A, 0x11⟩
abbrev SVC_DENIED : Kind := ⟨2, 0x0A, 0x12⟩
abbrev FW_WRITE : Kind := ⟨2, 0x0A, 0x13⟩
abbrev SLOT_ACTIVATE : Kind := ⟨2, 0x0A, 0x14⟩
abbrev FLOOR_RAISE : Kind := ⟨2, 0x0A, 0x15⟩
abbrev USB_CONFIG : Kind := ⟨2, 0x0A, 0x16⟩
abbrev USB_BUSRESET : Kind := ⟨3, 0x0A, 0x17⟩
abbrev OPT_FLOOD : Kind := ⟨3, 0x0A, 0x18⟩
abbrev OPT_ERR : Kind := ⟨3, 0x0A, 0x19⟩
/-! Producer 0x0B, clocks and heat (R464). -/
abbrev CLK_FAULT : Kind := ⟨1, 0x0B, 0x01⟩
abbrev CLK_RECOVER : Kind := ⟨2, 0x0B, 0x02⟩
abbrev HWD_WARN : Kind := ⟨1, 0x0B, 0x03⟩
abbrev HWD_EXPIRE : Kind := ⟨1, 0x0B, 0x04⟩
abbrev PWD_WARN : Kind := ⟨1, 0x0B, 0x05⟩
abbrev SLOT_FALLBACK : Kind := ⟨1, 0x0B, 0x06⟩
abbrev TIME_SET : Kind := ⟨2, 0x0B, 0x07⟩
abbrev THM_SENSOR : Kind := ⟨1, 0x0B, 0x08⟩
abbrev THM_SHUTDOWN : Kind := ⟨1, 0x0B, 0x09⟩
abbrev THM_RESTART : Kind := ⟨2, 0x0B, 0x0A⟩
abbrev THM_BAND : Kind := ⟨3, 0x0B, 0x0B⟩

end K

end Sys2Proof.Machine
end

