-- ==== Sys2Proof/Machine/State.lean ====
section
/-!
DEFINITION. The state of the unit as plain data: every register, queue, buffer, counter, mode and pin the spec gives it,
the queue of waiting commands, and the state right after reset. INVENTORY.md lists every field with the rule that names it.
-/

namespace Sys2Proof.Machine

/-! ## Records and the Ledger (R288 to R318) -/

/-- A record as a producer hands it over (R289, R291): class 1 A, 2 B, 3 C; producer and type codes; payload. -/
structure Rec where
  cls : Nat
  prod : Nat
  typ : Nat
  payload : List Byte
  deriving DecidableEq, Repr

/-- One 32-byte slot of a bank, by its index 0 to 65,535 (R288). -/
abbrev SlotCell := Nat × List Byte

/-- An accepted record that still lies in the spool: sequence, first slot, slots. -/
structure SpoolEntry where
  seq : Nat
  idx : Nat
  slots : Nat
  deriving DecidableEq, Repr

/-- A tally accumulator (R299): counted class/type, count, seconds of the first and last event, the tick it opened,
whether its window has ended and the record still waits for room. -/
structure Acc where
  ct : Nat
  count : Nat
  firstSec : Nat
  lastSec : Nat
  due : Nat
  deriving DecidableEq, Repr

/-- What the replay found (R308), held until LEDGER_REPLAY_COMPLETE builds the RECOVERY record from it. -/
structure Replay where
  cseq : Nat
  replayed : Nat
  restored : Nat
  fromA : Bool
  discarded : Bool
  badPointers : Nat
  deriving DecidableEq, Repr

/-- A keep-table entry (R306): which condition, the record's sequence and first slot. -/
structure KeepEntry where
  entry : Nat
  seq : Nat
  idx : Nat
  deriving DecidableEq, Repr

/-- The Ledger: both banks, the engine's pointers, the producers' FIFOs and the tally accumulators. -/
structure Ledger where
  /-- Bank A and bank B: slots in rising index order, none equal to thirty-two zero bytes. -/
  bankA : List SlotCell
  bankB : List SlotCell
  /-- The producers' FIFOs of R315 as one list in handing-over order. -/
  waiting : List Rec
  /-- Records the policy firmware keeps back until its FIFO has room (R298). -/
  fwWait : List Rec
  /-- The producer the intake served last (R296). -/
  lastProd : Nat
  /-- Records accepted and not yet committed, oldest first. -/
  spool : List SpoolEntry
  /-- The next spool slot to write (R288, R301). -/
  spoolHead : Nat
  /-- The sequence the next accepted record takes (R293), and the last committed one (R301). -/
  nextSeq : Nat
  cseq : Nat
  /-- The write positions of the main ring and of the pinned ring (R305). -/
  mainPos : Nat
  pinPos : Nat
  /-- The lowest sequences still held in the main ring and in the pinned ring (R305, R313). -/
  ringOld : Nat
  pinOld : Nat
  keep : List KeepEntry
  accs : List Acc
  other : Option Acc
  /-- The last sequence a drain must commit, while one runs (R317). -/
  drain : Option Nat
  /-- The tick the last class A record was accepted at, for the pacing of R317. -/
  lastA : Option Nat
  replay : Option Replay
  /-- The supply early warning has tripped (R310). -/
  warned : Bool
  /-- The read being set up: mode, sequence, and whether a setup written meanwhile was discarded (R311, R314). -/
  rdSetup : Option (Nat × Nat × Bool)
  /-- The read buffer and the next byte of it (R311). -/
  rdBuf : List Byte
  rdPos : Nat
  /-- The host post that waits: tag and payload bytes (R312). -/
  hostTag : Nat
  deriving DecidableEq, Repr

/-- A part whose Ledger has never accepted a record: sequences start at 1 (R293). -/
def Ledger.reset : Ledger :=
  { bankA := [], bankB := [], waiting := [], fwWait := [], lastProd := 0, spool := [], spoolHead := 416, nextSeq := 1,
    cseq := 0, mainPos := 5536, pinPos := 1440, ringOld := 0, pinOld := 0, keep := [], accs := [], other := none,
    drain := none, lastA := none, replay := none, warned := false, rdSetup := none, rdBuf := [], rdPos := 0,
    hostTag := 0 }

/-! ## How the registers are reached (R415 to R440) -/

/-- A key armed on one path (R428): who armed it, the keyed register's address, the value, the tick it was armed at. -/
structure ArmedKey where
  req : Requester
  addr : Nat
  value : Word
  tick : Nat
  deriving DecidableEq, Repr

/-- The parts of one group write that are held (R425): the group's first address, the parts, the tick of the last. -/
structure GroupHold where
  first : Nat
  parts : List (Nat × Word)
  tick : Nat
  deriving DecidableEq, Repr

/-- An always-on write on its way to the AON domain (R436): address, the value the AON domain still holds, the value
written, the tick edge at which it arrives, and whether it lies in the one-deep shadow of NOSTRETCH. -/
structure AonShadow where
  addr : Nat
  old : Word
  new : Word
  due : Nat
  shadowed : Bool
  deriving DecidableEq, Repr

/-- A HOSTLIM record of the loaded image (R81, R88). -/
structure HostLim where
  addr : Nat
  mask : Word
  least : Word
  most : Word
  deriving DecidableEq, Repr

/-- What the register logic holds beside the registers themselves. -/
structure RegLogic where
  keys : List ArmedKey
  /-- Group latches of R425, for each requester: the latched parts still to be read. -/
  latched : List (Requester × Nat × Word)
  holds : List GroupHold
  aonWrite : Option AonShadow
  /-- The shadow copy of the configuration-class registers (R432), in the form of the register file. -/
  shadow : List (Nat × Word)
  /-- Configuration-class registers written since the reference was set (R433). -/
  written : List Nat
  /-- The tick at which the hold of R433 ends. -/
  holdDue : Option Nat
  /-- CFG_REF has been set since the last start (R432). -/
  refSet : Bool
  /-- The HOSTLIM windows of the loaded image (R81, R88). -/
  hostLims : List HostLim
  /-- A snapshot taken while page 0x11 was being read, waiting for that transaction's STOP (R438). -/
  snapWait : Option (List (Nat × Word))
  /-- The words the last read returned, and whether the last transaction was answered by NACK. -/
  readData : List Word
  nack : Bool
  deriving DecidableEq, Repr

def RegLogic.reset : RegLogic :=
  { keys := [], latched := [], holds := [], aonWrite := none, shadow := [], written := [], holdDue := none,
    refSet := false, hostLims := [], snapWait := none, readData := [], nack := false }

/-! ## Frames of the Tether (R227) and the alarm path (R32 to R60) -/

/-- What the sequencer keeps of one active remote origin: the ticks of its start and of its last ALARM frame. -/
structure Remote where
  addr : Nat
  since : Nat
  last : Nat
  deriving DecidableEq, Repr

/-- The discrepancy fault that stands: the tick it was entered at, the t_DISC2 it runs with in ticks (R59), the tick since which
the present disagreement has lasted beyond its threshold, none once it is known to have ended, and the tick of the last sample
known to disagree (R39, R40). -/
structure Disc where
  entry : Nat
  len : Nat
  since : Option Nat
  last : Nat
  deriving DecidableEq, Repr

/-- The hardware alarm sequencer, in the AON domain (R56). -/
structure Alarm where
  /-- The tick of the local alarm's start, while one is active (R35). -/
  start : Option Nat
  /-- ALM_CFG.TEST as it stood at the alarm start (R45, R59). -/
  test : Bool
  /-- ALARM frames sent in this local alarm (R292). -/
  sent : Nat
  /-- Copies posted so far and the tick at which the next falls due (R46). -/
  copies : Nat
  copyDue : Option Nat
  remotes : List Remote
  /-- The level alarm of R254 that stands, by its start tick. -/
  level : Option Nat
  /-- The hush timer's end (R50). -/
  hushDue : Option Nat
  /-- The end of the 5.0 s hold of VHORN (R52). -/
  hornHold : Option Nat
  /-- The tick the horn boost started at (R58: 3 ms to horn-ready). -/
  hornFrom : Option Nat
  disc : Option Disc
  /-- Earlier values of ALM_TDISC, newest first: the tick each was replaced at, and the value (R59). -/
  tdiscLog : List (Nat × Word)
  /-- The tick the hold of R34 began, and whether its 60.0 s have passed. -/
  vauxHold : Option Nat
  vauxLost : Bool
  /-- The end of the SYS clock request of R36. -/
  sysReq : Option Nat
  /-- Second copies of HUSH (subtype 0) and CLEAR (subtype 1) frames and the ticks they fall due (R49, R51). -/
  repeats : List (Nat × Nat)
  /-- HSW opened by its current limit until this tick (R144). -/
  hswOpenDue : Option Nat
  deriving DecidableEq, Repr

def Alarm.reset : Alarm :=
  { start := none, test := false, sent := 0, copies := 0, copyDue := none, remotes := [], level := none,
    hushDue := none, hornHold := none, hornFrom := none, disc := none, tdiscLog := [], vauxHold := none, vauxLost := false,
    sysReq := none, repeats := [], hswOpenDue := none }

/-! ## Pins, start-up, image and policy slots (R61 to R98) -/

/-- The pins the unit drives or senses beside the buses, and the strap resistors soldered to it. -/
structure Pins where
  /-- Strap resistances in 10 Ω, 0xFFFF above range (R75, R292). -/
  chemR : Nat
  addrR : Nat
  /-- nRSTO released, that is high (R145). -/
  nrsto : Bool
  /-- CFGWP high: the EEPROM is protected (R91). -/
  cfgwp : Bool
  /-- The WAKE pin is high (R29, R400). -/
  wake : Bool
  /-- What CC1 and CC2 present (R333). -/
  cc1 : CcEnd
  cc2 : CcEnd
  /-- What SBU1 and SBU2 are (R359). -/
  sbu1 : SbuEnd
  sbu2 : SbuEnd
  deriving DecidableEq, Repr

def Pins.reset : Pins :=
  { chemR := 0, addrR := 0, nrsto := false, cfgwp := true, wake := false, cc1 := .clamp, cc2 := .clamp,
    sbu1 := .highZ, sbu2 := .highZ }

/-- The records of the loaded image that are not registers (R81): CELL and UNIT, the header's minimum firmware. -/
structure ImageInfo where
  cellChem : Nat
  ratedMah : Nat
  fade : Nat
  unitType : Nat
  tetAddr : Nat
  hostImg : Bool
  lock : Bool
  minFw : Nat
  deriving DecidableEq, Repr

/-- What start-up knows of one copy of the image: the header as read, its counter, and whether the copy is valid once
that is known (R82, R83). -/
structure CopyInfo where
  header : Option (List Byte)
  valid : Option Bool
  deriving DecidableEq, Repr

/-- An image write in progress (R94): target copy, pages still to be acknowledged, whether a warm reset follows, who
asked, and the tick the present page was sent at. -/
structure ImageWrite where
  target : AB
  pages : List (Nat × List Byte)
  resetAfter : Bool
  req : Requester
  sentAt : Nat
  /-- The generation counter and body length of the image written (R292). -/
  counter : Nat
  len : Nat
  deriving DecidableEq, Repr

/-- Start-up, image and policy core. -/
structure Boot where
  /-- The strap codes as latched, and whether CHEM read as a fault (R75, R76, R77). -/
  chem : Nat
  addr : Nat
  strapBad : Bool
  copyA : CopyInfo
  copyB : CopyInfo
  /-- The copy whose body is being read, and the copies already tried (R83). -/
  reading : Option AB
  tried : List AB
  /-- Failed attempts on each device, and the retry that waits for its 1 ms (R85, R410). -/
  fails0 : Nat
  fails1 : Nat
  retryDue : Option Nat
  /-- The copy whose configuration is loaded (R83). -/
  loaded : Option AB
  image : Option ImageInfo
  /-- The copy the background check still has to read (R84). -/
  checking : Option AB
  /-- The image step is done: the image is applied, or there is none (R70). -/
  applied : Bool
  /-- The two slots of the policy store, as bytes (R96). -/
  slotA : List Byte
  slotB : List Byte
  /-- The slot that runs, none under the fallback policy (R98). -/
  running : Option AB
  /-- The policy core runs (R98). -/
  core : Bool
  /-- Secure start is still to be made (R61, R74). -/
  secureDue : Bool
  /-- The tick the running slot was started at (R382, R455). -/
  startedAt : Nat
  /-- The image staging area of R92: bytes in rising address order, none 0x00. -/
  stage : List Host.Cell
  write : Option ImageWrite
  /-- The ship request that runs its 1.000 s, and the request armed for the detach: end tick and requester (R27, R28). -/
  shipDue : Option (Nat × Requester)
  shipArmed : Option (Nat × Requester)
  deriving DecidableEq, Repr

def Boot.reset : Boot :=
  { chem := 0, addr := 0, strapBad := false, copyA := ⟨none, none⟩, copyB := ⟨none, none⟩, reading := none,
    tried := [], fails0 := 0, fails1 := 0, retryDue := none, loaded := none, image := none, checking := none,
    applied := false, slotA := [], slotB := [], running := none, core := false, secureDue := false, startedAt := 0, stage := [],
    write := none, shipDue := none, shipArmed := none }

/-! ## The power path (R99 to R130) -/

structure Path where
  /-- The input switch that is closed (R99: at most one). -/
  closed : Option Source
  /-- The changeover in progress: the source whose switch is to close, the source it replaces, and whether planned. -/
  target : Option Source
  old : Option Source
  planned : Bool
  /-- The new switch has begun to close (R112, R114). -/
  closing : Bool
  /-- The end of the planned changeover's 1.0 ms ramp (R116). -/
  rampDue : Option Nat
  /-- The end of the 20 ms of VMUX discharge (R113), and the retry of a refused closure. -/
  dischDue : Option Nat
  retryDue : Option Nat
  /-- A SAFELOW_TIMEOUT has been recorded for the closure that is still refused (R113). -/
  refused : Bool
  /-- Ticks of the last loss and of the last qualification of each source (R102, R292). -/
  lostAt : List (Source × Nat)
  qualAt : List (Source × Nat)
  /-- VBUS may not qualify until it has been seen below 0.8 V and a new attach has been debounced (R103). -/
  vbusBlocked : Bool
  /-- V_REF of the VBUS collapse comparator in mV: the lower of the present and pending contract voltages (R123). -/
  vref : Nat
  /-- BATFET opened by R121: the next retry, and the tick of the last one, none before the first trip of a fault. -/
  batRetry : Option Nat
  batTry : Option Nat
  /-- The end of the 10 ms after a VSYS over-voltage trip (R123). -/
  ovDue : Option Nat
  /-- The end of the 20 ms open-circuit check, the tick of the next one, and the tracking target in mV (R110). -/
  ocDue : Option Nat
  ocNext : Option Nat
  vpvTarget : Nat
  /-- Ticks of main-converter trips, and the converter held off until a reset (R328). -/
  mainTrips : List Nat
  mainOff : Bool
  /-- SRC_EN as latched for the ship-exit detector (R126). -/
  latchedEn : Word
  /-- Through a warm reset, until the image has been re-applied: the settings the power stage holds, by register (R64, R65). -/
  held : List (Nat × Word)
  /-- The last open-circuit voltage of VPV in mV, which tracking works with (R110). -/
  voc : Nat
  /-- The discharge current of the cell in mA, as last measured (R119). -/
  outMa : Nat
  /-- PATH_CFG.KEEP_SHIP and BATFET's being open, as SHIP was entered with (R126). -/
  keepShip : Bool
  shipOpen : Bool
  deriving DecidableEq, Repr

def Path.reset : Path :=
  { closed := none, target := none, old := none, planned := false, closing := false, rampDue := none, dischDue := none,
    retryDue := none, refused := false, lostAt := [], qualAt := [], vbusBlocked := false, batRetry := none,
    batTry := none, vref := 5000, ovDue := none, ocDue := none, ocNext := none, vpvTarget := 0, mainTrips := [], mainOff := false,
    latchedEn := 0, held := [], voc := 0, outMa := 0, keepShip := false, shipOpen := false }

/-! ## The converters (R131 to R153) -/

structure Conv where
  /-- The end of the 1 ms of LISTEN between SINK and SOURCE (R141). -/
  listenDue : Option Nat
  /-- Sourcing stopped by a short: the next retry, and the tick of the last one (R140). -/
  shortRetry : Option Nat
  shortTry : Option Nat
  /-- The VAUX buck stopped by a short: its restart, and the tick of the last one (R145). -/
  auxRetry : Option Nat
  auxTry : Option Nat
  /-- The tick nRSTO may be released at, once VAUX is back within its setting (R145, R146). -/
  nrstDue : Option Nat
  /-- An HSW opening has been recorded in this alarm (R144). -/
  hswOcp : Bool
  /-- VSYS lies below 3.0 V: no sourcing, the horn folds back (R150). -/
  vsysLow : Bool
  /-- Source current reduced to the 0.2 A of the foldback (R140). -/
  folded : Bool
  /-- How far energy is short, as last measured (R148): 0 not at all, 1 charging is reduced, 2 Tether sourcing too, 3 the
  sweep's excitation too. -/
  short : Nat
  /-- The excitation of the running sweep has been clipped (R148, R151). -/
  clipped : Bool
  /-- Tether sourcing is being reduced, and any demand above charging is (R148). -/
  cut : Bool
  shedding : Bool
  /-- KEEP's latch is cleared: KEEP stays off until an image application sets it (R147). -/
  keepOff : Bool
  /-- KEEP's output in mV, as last measured (R147). -/
  keepMv : Nat
  /-- The tick of the horn boost's HORN_FAIL, while it stands (R244). -/
  hornFailed : Bool
  /-- VAUX is off for want of VSYS (R145). -/
  auxOff : Bool
  deriving DecidableEq, Repr

def Conv.reset : Conv :=
  { listenDue := none, shortRetry := none, shortTry := none, auxRetry := none, auxTry := none, nrstDue := none,
    hswOcp := false, vsysLow := false, folded := false, short := 0, clipped := false, cut := false, shedding := false, keepOff := true,
    keepMv := 0, hornFailed := false, auxOff := false }

/-! ## The charger (R154 to R172) -/

structure Chg where
  /-- The cell's voltage as last measured, in mV. -/
  bat : Nat
  /-- The charge current in mA that shedding leaves, while energy is short (R109, R148). -/
  left : Option Nat
  /-- The phase before the suspension (R167), as its code. -/
  prior : Nat
  /-- The timed phases' count: half ticks gathered up to `mark`, and the limit latched at entry, in ticks (R166, R172). -/
  acc : Nat
  mark : Nat
  limit : Nat
  /-- The phase that count belongs to, as its code: 2 PRECONDITION, 3 CC and CV, 7 TOP-UP; 0 none. -/
  timed : Nat
  /-- A present cell was found before, so the next absence is recorded (R155). -/
  cellSeen : Bool
  /-- The next retry of ABSENT (R155, R156). -/
  absentDue : Option Nat
  /-- The tick FAULT was entered at and its cause code of R292. -/
  faultAt : Option Nat
  fault : Nat
  /-- CHG_TGT has been raised since REST was entered (R163). -/
  tgtRaised : Bool
  /-- The tick of the last write of CHG_SOC (R159). -/
  socAt : Option Nat
  /-- The tick CC began at (R292). -/
  ccFrom : Nat
  /-- Charging waits for the recomputation after a proof test until this tick (R168). -/
  recalcDue : Option Nat
  /-- Thermistor readings in 0.1 °C, none for an open or shorted one. -/
  ntca : Option Int
  ntcb : Option Int
  /-- Since when the two readings differ by more than 5 °C (R165). -/
  ntcDiffFrom : Option Nat
  /-- Since when the two readings agree again within 5 °C, while NTC_DISAGREE stands (R169). -/
  ntcAgreeFrom : Option Nat
  /-- Causes of NTC_FAULT that stand: 1 NTCA, 2 NTCB open or shorted, 3 disagreement (R165, R169). -/
  ntcFault : List Nat
  deriving DecidableEq, Repr

def Chg.reset : Chg :=
  { bat := 0, left := none, prior := 0, acc := 0, mark := 0, limit := 0, timed := 0, cellSeen := true, absentDue := none,
    faultAt := none, fault := 0, tgtRaised := false, socAt := none, ccFrom := 0, recalcDue := none, ntca := none,
    ntcb := none, ntcDiffFrom := none, ntcAgreeFrom := none, ntcFault := [] }

/-! ## The Weighbridge (R173 to R203) -/

/-- The counters no command resets (R177): Q in µC, and the seven energy counters in mJ in the order of R177. -/
structure WbCounters where
  q : Int
  e : List Nat
  deriving DecidableEq, Repr

/-- A sequence that runs (R182): its SEQ code, the tick of its start, its argument, whether the alarm suspension was raised
in it, and the tick the relaxation of CAPACITY began at. Of CAPACITY, what it has by now (R189): Q and E_CELL_OUT at its start; BAT
summed over its first second in mV, and how often; the least BAT in 100 µV and the greatest discharge current in 10 µA; the
least and the greatest cell temperature in 0.01 °C; charge and energy out of the cell once the discharge has ended. -/
structure WbSeq where
  kind : Nat
  start : Nat
  arg : Nat
  susp : Bool
  relaxFrom : Option Nat
  q0 : Int
  e0 : Nat
  ocvSum : Nat
  ocvN : Nat
  least : Option (Nat × Nat)
  temps : Option (Int × Int)
  out : Option (Nat × Nat)
  deriving DecidableEq, Repr

/-- A record that waits inside the Weighbridge for a place (R193): type, flags of R195 beyond the standing ones, body. -/
structure WbHeld where
  typ : Nat
  flags : Nat
  body : List Byte
  deriving DecidableEq, Repr

structure Wb where
  /-- The Weighbridge runs, that is between a start and a stop (R178, R179). -/
  run : Bool
  /-- The cause code the next start reports (R196). -/
  cause : Nat
  counters : WbCounters
  /-- WB time at the tick `timeFrom` (R177). -/
  timeBase : Nat
  timeFrom : Nat
  /-- The next WB sequence number, and the starts so far. -/
  seqNum : Nat
  starts : Nat
  /-- The checkpoint store: counters, WB time, next sequence number, and its kind: 0 timed, 1 early warning, 2 before a
  release (R178). -/
  ckCounters : WbCounters
  ckTime : Nat
  ckSeq : Nat
  ckKind : Nat
  /-- The next record is the first since a start (R195). -/
  resumed : Bool
  /-- Codes of R181 recorded since the last start, and the failed checks of WBO in a row. -/
  faults : List Nat
  wboFails : Nat
  /-- The last sequence number has been given (R177). -/
  ended : Bool
  /-- The rated capacity of SET_CELL in mAh (R191). -/
  cell : Option Nat
  seq : Option WbSeq
  /-- The pending trigger: SEQ code and argument (R183). -/
  pend : Option (Nat × Nat)
  held : List WbHeld
  /-- A periodic record waits for a place: the means and temperatures of its period (R193). -/
  deferred : Option (List Byte)
  /-- The holdoff waits for the release of the suspension, or runs to its end (R188). -/
  holdArmed : Bool
  holdDue : Option Nat
  /-- The periodic interval in minutes, and when the next WB_PERIODIC falls due (R191, R196). -/
  period : Nat
  periodDue : Option Nat
  /-- The suspension was raised in the present period (R195). -/
  suspSeen : Bool
  /-- The end-product section of the calibration memory: R_shunt in 0.1 µΩ, reference in mA, seconds (R190). -/
  calib : Option (Nat × Nat × Nat)
  /-- Shunt charge in 10⁻¹ pV s that Q does not show yet, less than its unit (R175). -/
  rest : Int
  /-- A command is being taken until this tick (R192). -/
  cmdDue : Option Nat
  /-- The outbound queue of released records (R193). -/
  outq : List Rec
  /-- The most recent accepted record of each type (R194). -/
  accepted : List (Nat × List Byte)
  /-- The WB_RD window: the record copied into it, and the next byte (R194). -/
  rdBuf : List Byte
  rdPos : Nat
  deriving DecidableEq, Repr

def Wb.reset : Wb :=
  { run := false, cause := 1, counters := ⟨0, [0, 0, 0, 0, 0, 0, 0]⟩, timeBase := 0, timeFrom := 0, seqNum := 1,
    starts := 0, ckCounters := ⟨0, [0, 0, 0, 0, 0, 0, 0]⟩, ckTime := 0, ckSeq := 1, ckKind := 0, resumed := false,
    faults := [], wboFails := 0, ended := false, cell := none, seq := none, pend := none, held := [],
    deferred := none, holdArmed := false, holdDue := none, period := 15, periodDue := none, suspSeen := false,
    calib := none, rest := 0, cmdDue := none, outq := [], accepted := [], rdBuf := [], rdPos := 0 }

/-! ## The verdict engine and the proof test (R204 to R221) -/

/-- A notification (R213): code, AUDIBLE, HELD, subject, and whether it is critical. -/
structure Note where
  code : Nat
  audible : Bool
  held : Bool
  subject : Nat
  critical : Bool
  deriving DecidableEq, Repr

/-- A test that counted (R211, R212): the tick it began at in this power cycle, else the seconds of its PROOF_END record's stamp, and
its severity. -/
structure CountedTest where
  tick : Option Nat
  sec : Nat
  severity : Nat
  deriving DecidableEq, Repr

/-- A proof test that runs (R216): the last step reached, the tick T0, whether it was requested, the dose and proof load it
began with, the limits for its opinions, whether RESERVE was LOW at the checks, the next WB sequence number at its start,
Q at CAP_BEGIN in µC, the tick the capacity began at, whether the load is on and the cell collapsed. -/
structure Proof where
  step : Nat
  t0 : Nat
  requested : Bool
  dose : Nat
  pload : Nat
  lifeNear : Nat
  zlim : Word
  low : Bool
  wbSeq : Nat
  q0 : Option Int
  capAt : Option Nat
  load : Bool
  collapse : Bool
  deriving DecidableEq, Repr

structure Vdt where
  /-- The note FIFO, notes held by the curfew, and non-critical notes that wait for a place (R213, R215). -/
  fifo : List Note
  held : List Note
  waiting : List Note
  /-- The curfew in force, as VDT_CURFEW stood at the last minute boundary (R221). -/
  curfew : Word
  /-- The two estimates in µWh (R205). -/
  ec : Nat
  ev : Nat
  /-- Since when the estimates have stood as R207 asks: below E_A, below E_B, at or above 1.10 × E_A. -/
  critFrom : Option Nat
  lowFrom : Option Nat
  clearFrom : Option Nat
  /-- What the records hold of earlier tests has been read since the cold start (R209 to R212, R306). -/
  known : Bool
  /-- Capacity as energy in µWh by the last passed test (R161). -/
  cNow : Option Nat
  /-- |Z(0.1 Hz)| at 25 °C of the latest valid sweep, in 50 µΩ (R205). -/
  z01 : Option Nat
  /-- The first sweeps with result 0: |Z(1 Hz)| at 25 °C in 50 µΩ and WB sequence number (R209). -/
  sweeps : List (Nat × Nat)
  /-- Z_BASE in 50 µΩ once it is formed (R209). -/
  zbase : Option Nat
  /-- The last counted test (R211, R212). -/
  counted : Option CountedTest
  /-- Whether RESERVE was LOW, and CELL FAULT, at the last two counted tests, newest first (R208, R210). -/
  lows : List Bool
  faults : List Bool
  /-- The most recent test with outcome PASS or FAIL had FAIL (R210). -/
  lastFail : Bool
  proof : Option Proof
  /-- A request that waits for its checks (R216). -/
  requested : Bool
  /-- A deferred test: requested or not, the tick it was first deferred at, and the tick it is checked again at (R217). -/
  deferred : Option (Bool × Nat)
  deferDue : Option Nat
  /-- The last start: its tick and calendar day (R216, R217); the scheduled start that has been lifted for. -/
  lastStart : Option Nat
  lastDay : Option Nat
  lifted : Bool
  /-- The tick of the last scheduled check (R216). -/
  checkedAt : Option Nat
  deriving DecidableEq, Repr

def Vdt.reset : Vdt :=
  { fifo := [], held := [], waiting := [], curfew := 0x3084, ec := 0, ev := 0, critFrom := none, lowFrom := none,
    clearFrom := none, known := false, cNow := none, z01 := none, sweeps := [], zbase := none, counted := none, lows := [],
    faults := [], lastFail := false, proof := none, requested := false, deferred := none, deferDue := none,
    lastStart := none, lastDay := none, lifted := false, checkedAt := none }

/-! ## The Tether link (R222 to R257) -/

/-- A pending frame, the attempts made for it, and the tick it was posted at (R232, R236). -/
structure TxFrame where
  frame : Frame
  tries : Nat
  posted : Nat
  deriving DecidableEq, Repr

/-- What the link keeps of a peer's heartbeats: the tick of the last accepted one, its stamp in seconds, and the tick it
was found missing at (R246). -/
structure PeerTrack where
  addr : Nat
  last : Nat
  lastSec : Nat
  missing : Option Nat
  deriving DecidableEq, Repr

structure Link where
  /-- Tether transmission has begun under the image (R70, R86). -/
  txOn : Bool
  /-- Alarm and hush frames may be sent: as from then on, and through a warm reset (R86, R253). -/
  alarmOn : Bool
  /-- The address of the UNIT record has been read since the cold start (R248, R253). -/
  addrRead : Bool
  /-- A TET_CFG.MODE written before a warm reset, which takes effect at its start (R257). -/
  modeWish : Option Bool
  alarmSlot : Option TxFrame
  hushSlot : List TxFrame
  statusSlot : List TxFrame
  txq : List TxFrame
  /-- The RX queue (R233, R315). -/
  rxq : List Frame
  /-- The candidate address of auto-assignment, how it was come by (R249's codes 0, 1, 2), and when its CLAIM was sent. -/
  cand : Option Nat
  how : Nat
  claimAt : Option Nat
  /-- The tick the last own CLAIM was sent at (R250). -/
  claimSent : Option Nat
  /-- The address held last, for the ADDR_CHG record (R249). -/
  prevAddr : Option Nat
  /-- Addresses heard in the listening window or taken since (R249, R250). -/
  heard : List Nat
  /-- The ends of the listening window at the first start and of one made again (R249). -/
  listenDue : Option Nat
  relistenDue : Option Nat
  peers : List PeerTrack
  /-- The tick transmission began at, and the 30 s period in which the last regular heartbeat was posted (R245). -/
  txFrom : Nat
  hbPeriod : Option Nat
  /-- The last CENSUS request and answer, the answer that is due, and whether the start's own request is still to be decided, once
  an address is held (R247). -/
  censusAt : Option Nat
  censusAnsAt : Option Nat
  censusDue : Option Nat
  censusWanted : Bool
  /-- Guardian: ticks of its trips, the end of a silence, the starts of frames of classes 2 to 7 (R240, R241). -/
  trips : List Nat
  silenceDue : Option Nat
  starts : List Nat
  /-- Amplitude and interframe envelope of the last 16 accepted frames, newest first (R225). -/
  carriers : List Carrier
  acceptAt : Nat
  /-- The tick of the last LINK_CHG record (R224). -/
  chgRecAt : Option Nat
  deriving DecidableEq, Repr

def Link.reset : Link :=
  { txOn := false, alarmOn := false, addrRead := false, modeWish := none, alarmSlot := none, hushSlot := [], statusSlot := [], txq := [], rxq := [], cand := none, how := 0,
    claimAt := none, claimSent := none, prevAddr := none, heard := [], listenDue := none, relistenDue := none, peers := [], txFrom := 0,
    hbPeriod := none, censusAt := none, censusAnsAt := none, censusDue := none, censusWanted := false, trips := [],
    silenceDue := none, starts := [], carriers := [], acceptAt := 0, chgRecAt := none }

/-! ## The Stall cache and the market (R258 to R287) -/

/-- A resident Stall entry: address, its 64 bytes, and whether tallies wait to be written back (R280, R282). -/
structure StallCell where
  addr : Nat
  bytes : List Byte
  dirty : Bool
  deriving DecidableEq, Repr

/-- A bid of this unit (R267): offerer, offer generation, bid generation, requested power, flags, the tick of its last
post, the tick it was sent at while no FIRM has come, and the repeats made. -/
structure OwnBid where
  addr : Nat
  offGen : Nat
  gen : Nat
  req : Nat
  flags : Byte
  postedAt : Nat
  sentAt : Option Nat
  repeats : Nat
  deriving DecidableEq, Repr

/-- When a peer's offer and bid were last refreshed, in ticks (R264). -/
structure PeerMarket where
  addr : Nat
  offerAt : Option Nat
  bidAt : Option Nat
  deriving DecidableEq, Repr

/-- The beginning of a draw entry: index, tick, the E_TET_IN counter in mJ, the granted power in 10 mW (R279). -/
structure DrawStart where
  idx : Nat
  tick : Nat
  energy : Nat
  power : Nat
  deriving DecidableEq, Repr

structure Mkt where
  /-- Resident entries, most recently used first (R282). -/
  cache : List StallCell
  /-- The tick of the last post of the own offer, and the end of MKT_TENTMAX (R264, R270). -/
  offerAt : Option Nat
  tentDue : Option Nat
  bids : List OwnBid
  /-- Bidders whose bids wait for a FIRM, in order of acceptance; bidders with grants, the newest last (R266). -/
  waiting : List Nat
  granted : List Nat
  peers : List PeerMarket
  draws : List DrawStart
  /-- The end of the 50 ms for which CONV_TET_ISRC is held (R272). -/
  isrcDue : Option Nat
  /-- After a cut-off: the end of the address × 16 ms wait, and the tick the 1.000 s rise began at (R274). -/
  cutDue : Option Nat
  rampFrom : Option Nat
  /-- The tick of the last TET_CUTOFF record (R274). -/
  cutRecAt : Option Nat
  /-- A clearing of MKT_CFG enables that the firmware must answer by this tick (R287). -/
  cfgDue : Option Nat
  /-- What the firmware does with the stored market state once it runs and an address is held (R278): 0 nothing, 1 withdraw
  after a cold start, 2 post again after a warm or core start, 3 the offer still to be posted once the unit is in SOURCE. -/
  restart : Nat
  /-- The tick of the last write-back of tallies (R283). -/
  backAt : Nat
  deriving DecidableEq, Repr

def Mkt.reset : Mkt :=
  { cache := [], offerAt := none, tentDue := none, bids := [], waiting := [], granted := [], peers := [], draws := [],
    isrcDue := none, cutDue := none, rampFrom := none, cutRecAt := none, cfgDue := none, restart := 0, backAt := 0 }

/-! ## The command queue (R315, R319 to R325) -/

/-- A command that waits in the queue, as its CMD_ACCEPT will name it (R320): source, command code, tag, arguments; and
whether its Bunilia frame is of generation 2 (R373). -/
structure QueuedCmd where
  src : Nat
  code : Nat
  tag : Nat
  args : List Byte
  gen2 : Bool
  deriving DecidableEq, Repr

/-- What follows the acceptance of a CMD_DONE that comes before its command's act (R321, R381): an answer only (R28), or a
reset with its cause. -/
inductive AfterDone where
  | nothing
  | warm (cause : Nat)
  | core (cause : Nat)
  deriving DecidableEq, Repr

/-- A command whose CMD_DONE must be accepted before its answer and its act: sequence, command and re-execution mark, status
and body of the answer, and the act. -/
structure Finish where
  run : Nat × QueuedCmd × Bool
  status : Nat
  body : List Byte
  act : AfterDone
  deriving DecidableEq, Repr

structure Cmd where
  queue : List QueuedCmd
  /-- Accepted requests for a proof test, whose CMD_DONE waits for PROOF_START or PROOF_SKIP (R324): the CMD_ACCEPT's
  sequence, the command, and whether it is a re-execution. -/
  awaiting : List (Nat × QueuedCmd × Bool)
  /-- Ship requests whose CMD_DONE comes before SHIP_ENTRY, or at the refusal (R321). -/
  shipping : List (Nat × QueuedCmd × Bool)
  /-- The image write that runs for a command, whose CMD_DONE comes at its end (R321). -/
  writing : Option (Nat × QueuedCmd × Bool)
  /-- Commands whose CMD_DONE is on its way to the Ledger and precedes their answer and act (R28, R321, R381). -/
  finishing : List Finish
  /-- The re-execution of R323 is still to be made. -/
  replayDue : Bool
  deriving DecidableEq, Repr

def Cmd.reset : Cmd :=
  { queue := [], awaiting := [], shipping := [], writing := none, finishing := [], replayDue := false }

/-! ## USB Type-C and Power Delivery (R333 to R361) -/

/-- A message the unit sends (R351): objects as 32-bit numbers, a structured VDM with its header first. -/
inductive PdMsg where
  | request (rdo : Nat)
  | sinkCapabilities (objs : List Nat)
  | vdm (objs : List Nat)
  | revision (rmdo : Nat)
  | accept | reject | notSupported | getSourceCap | getStatus | softReset | hardReset
  deriving DecidableEq, Repr

/-- A Request and what it asks for (R343): object position, object, RDO, voltage in mV, current in 10 mA, type 0 fixed, 1
PPS, 2 AVS, and whether the fallback engine makes it. -/
structure PdReq where
  pos : Nat
  pdo : Nat
  rdo : Nat
  mv : Nat
  ma : Nat
  typ : Nat
  fallback : Bool
  deriving DecidableEq, Repr

/-- Refusals of one object (R346): their count and, after the third, the end of the 10 min. -/
structure PdRefusal where
  pos : Nat
  count : Nat
  until_ : Option Nat
  deriving DecidableEq, Repr

structure Pd where
  /-- The message last sent, the tick it was sent at, and the repeats made for want of a GoodCRC (R350). -/
  sent : Option PdMsg
  sentAt : Nat
  tries : Nat
  /-- The MessageID counter for transmission and the last received MessageID (R350). -/
  txId : Nat
  rxId : Option Nat
  /-- The Request that waits for its answer or, once accepted, for PS_RDY; the ticks it was sent and accepted at (R344). -/
  req : Option PdReq
  reqAt : Nat
  acceptAt : Option Nat
  /-- An exchange of the unit's own that waits for its answer, and since when: Soft_Reset, Get_Source_Cap or Get_Status. -/
  ask : Option (PdMsg × Nat)
  /-- Messages of its own that wait for SinkTxOK and tSinkTx (R350). -/
  held : List PdMsg
  /-- The tick SinkTxOK was seen at. -/
  sinkTxAt : Option Nat
  /-- The Request that is sent again tSinkRequest after a refusal, and when (R346). -/
  retry : Option (PdReq × Nat)
  refusals : List PdRefusal
  /-- Source_Capabilities for which the firmware has posted no Request yet, since when (R340). -/
  capsAt : Option Nat
  /-- The contract's object, the Request that made it, and its next keep-alive (R347). -/
  contract : Option PdReq
  keepDue : Option Nat
  /-- Source_Capabilities have come since the attach or the last Hard Reset; the tick tSinkWaitCap runs from after a Hard
  Reset (R349). -/
  capsSeen : Bool
  waitFrom : Nat
  /-- Hard Resets in this attach, and those sent without Source_Capabilities between (R350). -/
  hrCount : Nat
  hrRow : Nat
  /-- The ends of tNoResponse, of the 685 ms after a Hard Reset and of those after a collapse (R352, R354, R356). -/
  noRespDue : Option Nat
  hrDue : Option Nat
  collapseDue : Option Nat
  /-- A PD message has been received in this attach; Battery Charging detection has run (R338). -/
  seen : Bool
  bcRan : Bool
  /-- BIST: 0 none, 1 carrier mode, 2 test data; the end of carrier mode (R351). -/
  bist : Nat
  bistDue : Option Nat
  /-- The end of tChunkingNotSupported (R351). -/
  chunkDue : Option Nat
  /-- PD_CFG as latched at the attach (R362). -/
  cfg : Word
  /-- After a warm reset: the latched object and its voltage, until it is requested again (R357). -/
  latch : Option PdReq
  /-- The data of the last Status message (R351). -/
  status : List Byte
  deriving DecidableEq, Repr

def Pd.reset : Pd :=
  { sent := none, sentAt := 0, tries := 0, txId := 0, rxId := none, req := none, reqAt := 0, acceptAt := none, ask := none, held := [],
    sinkTxAt := none, retry := none, refusals := [], capsAt := none, contract := none, keepDue := none, capsSeen := false,
    waitFrom := 0, hrCount := 0, hrRow := 0, noRespDue := none, hrDue := none, collapseDue := none, seen := false,
    bcRan := false, bist := 0, bistDue := none, chunkDue := none, cfg := 0x0029, latch := none, status := [] }

/-! ## Service access: Bunilia, USB device, optical window (R363 to R391) -/

/-- An answer frame (R370, R371): code, tag, generation 2, status, CMD_ACCEPT sequence, body. -/
structure Answer where
  code : Nat
  tag : Nat
  gen2 : Bool
  status : Nat
  seq : Nat
  body : List Byte
  deriving DecidableEq, Repr

/-- The open session (R374 to R376): its transport, generation, and the tick it times out at. -/
structure Session where
  transport : Transport
  gen2 : Bool
  due : Nat
  deriving DecidableEq, Repr

/-- A verified activation (R381): slot, RAISE_FLOOR, and its command's CMD_ACCEPT sequence, frame and REPLAYED mark. -/
structure Activation where
  slot : AB
  raise : Bool
  seq : Nat
  transport : Transport
  tag : Nat
  gen2 : Bool
  replayed : Bool
  deriving DecidableEq, Repr

structure Svc where
  session : Option Session
  /-- Ticks of the wrong access codes of the last 10 min, and the end of the lockout (R374). -/
  wrong : List Nat
  lockDue : Option Nat
  /-- The firmware update: total length, write position, staged chunks by offset (R379, R380). -/
  fwTotal : Option Nat
  fwPos : Nat
  chunks : List (Nat × List Byte)
  /-- A verified activation that waits for PROOF and ALARM to clear (R381). -/
  activation : Option Activation
  /-- The slot whose version becomes the floor once it has run for 1 h, since when it counts (R382). -/
  floorFrom : Option (AB × Nat)
  /-- The answers on USB and on the SBU UART (R372). -/
  usbAns : Option Answer
  uartAns : Option Answer
  deriving DecidableEq, Repr

def Svc.reset : Svc :=
  { session := none, wrong := [], lockDue := none, fwTotal := none, fwPos := 0, chunks := [], activation := none,
    floorFrom := none, usbAns := none, uartAns := none }

structure Usb where
  /-- The tick the pull-up was connected at, until a bus reset is seen (R364). -/
  pullAt : Option Nat
  /-- ENDPOINT_HALT of endpoints 0x01 and 0x81 (R366). -/
  haltOut : Bool
  haltIn : Bool
  /-- The data stage of the last control request, none for a STALL. -/
  reply : Option (List Byte)
  /-- USB_CFG, USB_VID and USB_PID as they stood when the pull-up was connected (R391). -/
  cfg : Word
  vid : Word
  pid : Word
  /-- The tick of the last bus activity (R368). -/
  activeAt : Nat
  /-- The tick of the last start-of-frame packet (R441). -/
  sofAt : Nat
  deriving DecidableEq, Repr

def Usb.reset : Usb :=
  { pullAt := none, haltOut := false, haltIn := false, reply := none, cfg := 2, vid := 0, pid := 0,
    activeAt := 0, sofAt := 0 }

structure Opt where
  /-- The end of continuous listening, 10 s after the last accepted frame (R385). -/
  listenDue : Option Nat
  /-- The payload of an accepted frame, one Bunilia frame, that has not been served yet; empty without one (R386). -/
  frame : List Byte
  /-- The answer buffer and the next byte of it (R388). -/
  buf : List Byte
  pos : Nat
  /-- The tick of the last flood, while the receiver settles (R387). -/
  floodAt : Option Nat
  deriving DecidableEq, Repr

def Opt.reset : Opt := { listenDue := none, frame := [], buf := [], pos := 0, floodAt := none }

/-! ## The two-wire ports (R392 to R414) -/

/-- A command write that Port H holds by clock stretching while the command queue is full (R325, R397): the register and value
of the command, the pointer kind and pointer it was written at, the words still to come, what ends the transaction (a lone
high byte, a byte too many under packet error checking, whether the pointer is kept), and the tick the hold ends at. -/
structure HeldWrite where
  reg : Nat
  value : Word
  compact : Bool
  ptr : Nat
  rest : List Word
  half : Bool
  excess : Bool
  keepPtr : Bool
  due : Nat
  deriving DecidableEq, Repr

structure Twb where
  /-- The FULL and the COMPACT pointer (R396). -/
  full : Nat
  compact : Nat
  /-- TWB_CFG, TWB_ADDR1 to 3, TWB_AMASK and TWB_AWAKE as in force since the last STOP (R414). -/
  cfg : Word
  addr1 : Word
  addr2 : Word
  addr3 : Word
  amask : Word
  awake : Word
  /-- The end of TWB_AWAKE after the last STOP (R398). -/
  awakeDue : Option Nat
  /-- A push that has fallen due and since when, the tick the last push was started at, the push being sent, the tick its
  next start is allowed at, and the summary word as last seen (R407, R408). -/
  pushDue : Option Nat
  pushAt : Option Nat
  sending : Option (List Byte)
  /-- The pending push has its sequence number (R408). -/
  numbered : Bool
  /-- The tick a failed push may be tried again at, and the summary word as last seen (R407, R408). -/
  retryAt : Nat
  summary : Word
  /-- The write held by clock stretching (R325). -/
  held : Option HeldWrite
  deriving DecidableEq, Repr

def Twb.reset : Twb :=
  { full := 0, compact := 0, cfg := 0x0100, addr1 := 0, addr2 := 0, addr3 := 0, amask := 0, awake := 0x0014,
    awakeDue := none, pushDue := none, pushAt := none, sending := none, numbered := false, retryAt := 0, summary := 0,
    held := none }

/-! ## Clocks, watchdogs and heat (R441 to R468) -/

/-- A faulty oscillator (R444): 0 crystal, 1 LFO, 2 HFO, 3 WDO; since when, and the tick it is next retried at. -/
structure OscFault where
  osc : Nat
  since : Nat
  next : Nat
  deriving DecidableEq, Repr

structure Clk where
  /-- System time in 1/65,536 s (R447), and the correction still to be slewed, in the same unit (R448). -/
  time : Nat
  slew : Int
  /-- CLK_TZ and CLK_CFG.DST as they stood at the last minute boundary (R449, R466). -/
  tz : Int
  dst : Nat
  /-- The tick CLK_CFG.XTAL was set at, and the oscillators in fault (R443, R444). -/
  xtalFrom : Nat
  faults : List OscFault
  /-- Start and length in ticks of the running HWD period (R452). -/
  hwdFrom : Nat
  /-- The end of the 10 ms pulse of nRSTO (R452). -/
  pulseDue : Option Nat
  /-- The tick from which the PWD counts, and whether it has warned (R454). -/
  pwdFrom : Nat
  pwdWarned : Bool
  /-- The 600 s period in which a SYNC of a lower address was last adopted, the tick of the last adoption, the second for
  which a SYNC was last posted, the tick of a host setting that calls for one, and of the last one posted for that (R450,
  R451). -/
  lowerSync : Option Nat
  syncAt : Option Nat
  syncSec : Option Nat
  hostSet : Option Nat
  hostSync : Option Nat
  deriving DecidableEq, Repr

def Clk.reset : Clk :=
  { time := 0, slew := 0, tz := 0, dst := 0, xtalFrom := 0, faults := [], hwdFrom := 0,
    pulseDue := none, pwdFrom := 0, pwdWarned := false, lowerSync := none, syncAt := none, syncSec := none,
    hostSet := none, hostSync := none }

/-- One die sensor (R457, R458): its last reading in 0.25 °C, none without a valid count; readings out of band in a row;
since when it has differed from both neighbours on a quiet die. -/
structure Sensor where
  reading : Option Int
  badCount : Nat
  oddFrom : Option Nat
  deriving DecidableEq, Repr

structure Thm where
  sensors : List Sensor
  /-- The tick F last rose at (R461). -/
  roseAt : Nat
  /-- The ticks of the shutdowns of the last hour, the start of the present one, and since when every effective reading
  has been below the limit (R462, R463). -/
  shutdowns : List Nat
  shutFrom : Option Nat
  coolFrom : Option Nat
  /-- The highest effective reading of the present shutdown (R464). -/
  shutPeak : Int
  /-- The horn boost and VAUX buck are stopped by DS2 (R462). -/
  railsOff : Bool
  /-- The tick the die was last seen not to be quiet at: the horn boost on, or a converter at 0.5 W or more (R458). -/
  loudAt : Nat
  deriving DecidableEq, Repr

def Thm.reset : Thm :=
  { sensors := List.replicate 7 ⟨none, 0, none⟩, roseAt := 0, shutdowns := [], shutFrom := none, coolFrom := none, shutPeak := 0,
    railsOff := false, loudAt := 0 }

/-! ## The whole state -/

/-- Where the unit stands between its resets: no supply and in power-on reset, in SHIP, starting up before its image is
applied, or running (R22, R26, R70). -/
inductive Phase where
  | off | ship | startup | run
  deriving DecidableEq, Repr

structure State where
  part : Part
  phase : Phase
  /-- AON ticks of 1/32,768 s since the last cold start. -/
  now : Nat
  /-- MODEL FIELD: how many free values have been taken. -/
  free : Nat
  /-- The register file: address and value, addresses rising, no entry at its reset value. -/
  regs : List (Nat × Word)
  ra : RegLogic
  pins : Pins
  boot : Boot
  alm : Alarm
  path : Path
  conv : Conv
  chg : Chg
  link : Link
  mkt : Mkt
  vdt : Vdt
  cmd : Cmd
  thm : Thm
  lgr : Ledger
  clk : Clk
  wb : Wb
  pd : Pd
  svc : Svc
  usb : Usb
  opt : Opt
  twb : Twb
  pending : List Instr
  deriving DecidableEq, Repr

/-- The faults of the model: none, since the spec gives every command an effect. -/
inductive Fault where
  /-- Never raised; kept so that the type is inhabited. Safe: a model that raises it nowhere allows nothing more. -/
  | unused
  deriving DecidableEq, Repr

/-- The refusals of the model. -/
inductive Refusal where
  /-- Raised by an arm of `exec` whose command has no meaning yet. Safe: the model stops where the unit goes on. -/
  | notModelled (mnemonic : String)
  deriving DecidableEq, Repr

/-- Right after reset: the supplies are not yet valid, so the unit is held in power-on reset with every register at its
reset value; POWER_ON_RESET_RELEASE begins the cold start (R61, R70). -/
def State.reset : State :=
  { part := .qtl6410, phase := .off, now := 0, free := 0, regs := [], ra := RegLogic.reset, pins := Pins.reset,
    boot := Boot.reset, alm := Alarm.reset, path := Path.reset, conv := Conv.reset, chg := Chg.reset,
    link := Link.reset, mkt := Mkt.reset, vdt := Vdt.reset, cmd := Cmd.reset, thm := Thm.reset, lgr := Ledger.reset,
    clk := Clk.reset, wb := Wb.reset, pd := Pd.reset, svc := Svc.reset, usb := Usb.reset,
    opt := Opt.reset, twb := Twb.reset, pending := [] }

end Sys2Proof.Machine
end

