-- ==== Sys2Proof/Machine/Ops.lean ====
section
/-!
DEFINITION. The named operations over the register file, the flags and the timers; every meaning is written over them.
-/

namespace Sys2Proof.Machine

/-- What a command answers. -/
abbrev Out := Host.Outcome State Fault Refusal

/-! ## The register file -/

/-- The value of a register in a register file; an unlisted register reads as its reset value. -/
def regGet (l : List (Nat × Word)) (a : Nat) : Word :=
  match l.find? (fun p => p.1 == a) with
  | some p => p.2
  | none => resetVal a

/-- An entry put in its place by address. -/
def regInsert (a : Nat) (v : Word) : List (Nat × Word) → List (Nat × Word)
  | [] => [(a, v)]
  | p :: l => if a < p.1 then (a, v) :: p :: l else p :: regInsert a v l

/-- A register file with one register given a value; the reset value takes its entry away. -/
def regPut (l : List (Nat × Word)) (a : Nat) (v : Word) : List (Nat × Word) :=
  let l' := l.filter (fun p => p.1 != a)
  if v = resetVal a then l' else regInsert a v l'

/-- The canonical form of a register file: addresses strictly rising, no entry at its reset value. -/
def regsWf : List (Nat × Word) → Bool
  | [] => true
  | p :: l => p.2 != resetVal p.1 && l.all (fun q => decide (p.1 < q.1)) && regsWf l

/-- The stored value of a register. -/
def State.reg (s : State) (a : Nat) : Word := regGet s.regs a

/-- The state with one register written by the unit itself. -/
def State.setReg (s : State) (a : Nat) (v : Word) : State := { s with regs := regPut s.regs a v }

/-- A register as the AON domain holds it: the old value while a write is on its way there (R436). -/
def State.aonReg (s : State) (a : Nat) : Word :=
  match s.ra.aonWrite with
  | some w => if w.addr = a then w.old else s.reg a
  | none => s.reg a

/-- The number a register holds. -/
def State.regN (s : State) (a : Nat) : Nat := (s.reg a).toNat

/-- One bit of a register. -/
def State.flag (s : State) (f : Flag) : Bool := bitOf (s.reg f.reg) f.bit

/-- The state with one bit of a register set or cleared by the unit itself. -/
def State.setFlag (s : State) (f : Flag) (x : Bool) : State := s.setReg f.reg (setBitOf (s.reg f.reg) f.bit x)

/-- One field of a register. -/
def State.field (s : State) (f : Field) : Nat := fieldOf (s.reg f.reg) f.lo f.width

/-- The state with one field of a register replaced by the unit itself. -/
def State.setField (s : State) (f : Field) (x : Nat) : State := s.setReg f.reg (putFieldOf (s.reg f.reg) f.lo f.width x)

/-- An event: its EVENT bit is set (R439, R440). -/
def State.event (s : State) (f : Flag) : State := s.setFlag f true

/-- A counter that saturates at 0xFFFF goes up by `n`. -/
def State.bump (s : State) (a : Nat) (n : Nat) : State := s.setReg a (sat16 (s.regN a + n))

/-- Several registers written in turn, from address `a` on. -/
def State.setRegs (s : State) : Nat → List Word → State
  | _, [] => s
  | a, v :: l => (s.setReg a v).setRegs (a + 1) l

/-- A number of `n` words written into a group, high word first (R425). -/
def State.setGroup (s : State) (a : Nat) : Nat → Nat → State
  | 0, _ => s
  | n + 1, x => (s.setReg a (BitVec.ofNat 16 (x / 65536 ^ n))).setGroup (a + 1) n x

/-- The number a group of `n` words holds, high word first. -/
def State.group (s : State) (a n : Nat) : Nat :=
  (List.range n).foldl (fun x k => x * 65536 + s.regN (a + k)) 0

/-- The registers that a reset of the given kinds restores go back to their reset values (R10, R61). -/
def State.restore (s : State) (kinds : List Restore) : State :=
  { s with regs := s.regs.filter fun p =>
      match regInfo p.1 with
      | some r => !kinds.contains r.restore
      | none => false }

/-! ## Bitmaps of sixty-four addresses in four registers (R58, R256) -/

/-- The bit of an address in a bitmap that begins at register `a`. -/
def State.mapBit (s : State) (a addr : Nat) : Bool := bitOf (s.reg (a + addr % 64 / 16)) (addr % 16)

/-- The bitmap with one address's bit set or cleared. -/
def State.setMapBit (s : State) (a addr : Nat) (x : Bool) : State :=
  s.setReg (a + addr % 64 / 16) (setBitOf (s.reg (a + addr % 64 / 16)) (addr % 16) x)

/-- The bitmap empty. -/
def State.clearMap (s : State) (a : Nat) : State := s.setRegs a [0, 0, 0, 0]

/-- No address is in the bitmap. -/
def State.mapEmpty (s : State) (a : Nat) : Bool :=
  s.reg a == 0 && s.reg (a + 1) == 0 && s.reg (a + 2) == 0 && s.reg (a + 3) == 0

/-! ## Time -/

/-- A timer that ends `ticks` AON ticks from now. -/
def State.timer (s : State) (ticks : Nat) : Option Nat := some (s.now + ticks)

/-- A timer that runs and has come to its end. -/
def State.elapsed (s : State) (t : Option Nat) : Bool :=
  match t with
  | some d => decide (d ≤ s.now)
  | none => false

/-- The unit is powered and out of SHIP: its blocks run (R22). -/
def State.live (s : State) : Bool := s.phase == .startup || s.phase == .run

/-- A step of a running unit; in SHIP or without supply nothing but its own exits happens (R22, R29). -/
def State.whenLive (s : State) (f : State → State) : State := if s.live then f s else s

/-- A step of a unit whose image has been applied (R70). -/
def State.whenRun (s : State) (f : State → State) : State := if s.phase == .run then f s else s

/-- An event whose condition the state shows; without it there is no event and nothing changes. -/
def State.when (s : State) (c : Bool) (f : State → State) : State := if c then f s else s

/-- The next free value, and the state that has taken it. -/
def State.fresh (s : State) : BitVec 64 × State := (Config.freeValue s.free, { s with free := s.free + 1 })

/-- Whole seconds and 1/65,536 s fraction of a time stamp (R294): system time once it is valid, otherwise 0x80000000
plus the seconds counted in AON since the last cold start. -/
def State.stamp (s : State) : Nat × Nat :=
  if s.flag F.CLK_STATUS_TIMEVALID then (s.clk.time / 65536, s.clk.time % 65536)
  else (0x80000000 + s.now / 32768, s.now % 32768 * 2)

/-- The seconds of a time stamp. -/
def State.stampSec (s : State) : Nat := s.stamp.1

/-- A time stamp as six bytes (R294). -/
def State.stampBytes (s : State) : List Byte := beBytes 4 s.stamp.1 ++ beBytes 2 s.stamp.2

/-! ## Handing records to the Ledger (R298, R299, R315) -/

/-- Both banks are bad: nothing is accepted and the firmware discards what it would post (R331). -/
def State.ledgerDead (s : State) : Bool := s.flag F.LGR_STATUS_BANKA_BAD && s.flag F.LGR_STATUS_BANKB_BAD

/-- The depth of a producer's FIFO of one class (R315); `none` for a queue that no rule bounds. -/
def fifoDepth : Nat → Nat → Option Nat
  | 1, 0x00 => some 2
  | 1, 0x01 => some 16
  | 1, 0x02 => some 8
  | 1, 0x03 => some 8
  | 1, 0x04 => some 4
  | 1, 0x06 => some 2
  | 1, 0x07 => some 4
  | 1, 0x08 => some 2
  | 1, 0x0B => some 4
  | 2, 0x00 => some 2
  | 2, 0x02 => some 8
  | 2, 0x03 => some 8
  | 2, 0x04 => some 8
  | 2, 0x06 => some 16
  | 2, 0x07 => some 8
  | 2, 0x08 => some 16
  | 2, 0x0A => some 8
  | 2, 0x0B => some 4
  | _, _ => none

/-- The producers whose class B records the policy firmware hands over: it waits for room (R298, R315). -/
def firmwareProducer (p : Nat) : Bool := p == 0x06 || p == 0x08 || p == 0x0A

/-- The producer's FIFO has room for one more record of this class. -/
def Ledger.hasRoom (l : Ledger) (cls prod : Nat) : Bool :=
  match fifoDepth cls prod with
  | some d => (l.waiting.filter (fun r => r.cls == cls && r.prod == prod)).length < d
  | none => true

/-- One more event in an accumulator (R299, R300): the count saturates at 0xFFFFFFFF. -/
def Acc.count1 (a : Acc) (sec : Nat) : Acc := { a with count := min (a.count + 1) 0xFFFFFFFF, lastSec := sec }

/-- The time an accumulator stays open, in ticks (R299: LGR_CFG.TWIN in 10 s). -/
def State.twin (s : State) : Nat := secTicks (10 * s.field F.LGR_CFG_TWIN)

/-- An event counted into the tally accumulators (R299): its own accumulator, a new one while fewer than 24 are open,
or OTHER, whose counted class/type is 0xFFFF. -/
def State.tallyCt (s : State) (ct : Nat) : State :=
  let sec := s.stampSec
  let new : Acc := ⟨ct, 1, sec, sec, s.now + s.twin⟩
  let s := s.bump R.LGR_COALCNT 1
  if s.lgr.accs.any (fun a => a.ct == ct) then
    { s with lgr := { s.lgr with accs := s.lgr.accs.map fun a => if a.ct == ct then a.count1 sec else a } }
  else if s.lgr.accs.length < 24 then
    { s with lgr := { s.lgr with accs := s.lgr.accs ++ [new] } }
  else
    let o : Acc := match s.lgr.other with
      | some a => a.count1 sec
      | none => { new with ct := 0xFFFF }
    ({ s with lgr := { s.lgr with other := some o } }).event F.LGR_EVENT_TALLY_OTHER

/-- A class C event, counted and never recorded alone (R299). -/
def State.tally (s : State) (k : Kind) : State := s.tallyCt (classType k.cls k.prod k.typ)

/-- A repeated event of a recorded kind, coalesced into a class C tally of its producer and type (R299). -/
def State.coalesce (s : State) (k : Kind) : State := s.tallyCt (classType 3 k.prod k.typ)

/-- A trip that comes within `ms` of the last retry belongs to the fault already on record (R121, R140, R145). -/
def State.sameFault (s : State) (lastTry : Option Nat) (ms : Nat) : Bool :=
  match lastTry with
  | some t => decide (s.now ≤ t + msTicks ms)
  | none => false

/-- A record handed to the Ledger (R298, R315): into its producer's FIFO; a full hardware FIFO coalesces the event into a
tally of its class; the firmware keeps a class B record back until there is room. -/
def State.post (s : State) (k : Kind) (payload : List Byte) : State :=
  let r : Rec := ⟨k.cls, k.prod, k.typ, payload⟩
  if s.ledgerDead && firmwareProducer k.prod then s
  else if !s.ledgerDead && s.lgr.hasRoom k.cls k.prod then
    { s with lgr := { s.lgr with waiting := s.lgr.waiting ++ [r] } }
  else if firmwareProducer k.prod && k.cls == 2 then
    { s with lgr := { s.lgr with fwWait := s.lgr.fwWait ++ [r] } }
  else s.tallyCt (classType k.cls k.prod k.typ)

end Sys2Proof.Machine
end

