-- ==== Sys2Proof/Machine/Ledger.lean ====
section
/-!
DEFINITION. The Ledger (R288 to R314): slots and records, the intake and its order, the commit engine with its rings and
keep table, the stored settings, recovery replay, tallies, readout and host posts.
-/

namespace Sys2Proof.Machine

/-! ## Slots of a bank (R288) -/

/-- What a slot that nothing has written holds: thirty-two zero bytes. -/
def emptySlot : List Byte := List.replicate 32 0

/-- A slot of a bank. -/
def slotGet (bank : List SlotCell) (i : Nat) : List Byte :=
  match bank.find? (fun c => c.1 == i) with
  | some c => c.2
  | none => emptySlot

/-- A slot put in its place by index. -/
def slotInsert (i : Nat) (b : List Byte) : List SlotCell → List SlotCell
  | [] => [(i, b)]
  | c :: l => if i < c.1 then (i, b) :: c :: l else c :: slotInsert i b l

/-- A bank with one slot written: a slot's index has 16 bits, and it has 32 bytes (R288). -/
def slotPut (bank : List SlotCell) (i : Nat) (b : List Byte) : List SlotCell :=
  let l := bank.filter (fun c => c.1 != i % 65536)
  if padTo 32 b = emptySlot then l else slotInsert (i % 65536) (padTo 32 b) l

/-- A slot that a bank may list: its index in range, its thirty-two bytes, and not what an unlisted slot holds. -/
def slotOk (c : SlotCell) : Bool := decide (c.1 < 65536) && c.2.length == 32 && c.2 != emptySlot

/-- The canonical form of a bank: indices strictly rising, every slot one that may be listed. -/
def bankWf : List SlotCell → Bool
  | [] => true
  | c :: l => slotOk c && l.all (fun d => decide (c.1 < d.1)) && bankWf l

/-- One slot write to one bank (R288). -/
structure SlotWrite where
  bank : Bank
  idx : Nat
  bytes : List Byte
  deriving DecidableEq, Repr

/-- A bank that has been marked bad is written no more (R302). -/
def State.bankBad (s : State) : Bank → Bool
  | .a => s.flag F.LGR_STATUS_BANKA_BAD
  | .b => s.flag F.LGR_STATUS_BANKB_BAD

/-- A slot as a bank holds it. -/
def State.slot (s : State) : Bank → Nat → List Byte
  | .a, i => slotGet s.lgr.bankA i
  | .b, i => slotGet s.lgr.bankB i

/-- One slot write done, on a bank that is still good. -/
def State.writeSlot (s : State) (w : SlotWrite) : State :=
  if s.bankBad w.bank then s
  else match w.bank with
    | .a => { s with lgr := { s.lgr with bankA := slotPut s.lgr.bankA w.idx w.bytes } }
    | .b => { s with lgr := { s.lgr with bankB := slotPut s.lgr.bankB w.idx w.bytes } }

/-- Several slot writes in order. -/
def State.writeSlots (s : State) : List SlotWrite → State
  | [] => s
  | w :: l => (s.writeSlot w).writeSlots l

/-- Consecutive slots written to bank A first and then to bank B (R288). -/
def mirrorWrites (idx : Nat) (slots : List (List Byte)) : List SlotWrite :=
  (slots.zipIdx.map fun p => ⟨.a, idx + p.2, p.1⟩) ++ (slots.zipIdx.map fun p => ⟨.b, idx + p.2, p.1⟩)

/-! ## Records as slots (R289, R290) -/

/-- Bytes 0 to 27 of a slot followed by their CRC-32. -/
def sealSlot (l : List Byte) : List Byte := padTo 28 l ++ beBytes 4 (crc32 (padTo 28 l))

/-- The slots a payload of `n` bytes takes (R290). -/
def slotsFor (n : Nat) : Nat := if n ≤ 14 then 1 else 1 + ceilDiv (n - 14) 26

/-- The slots of a record (R289, R290). -/
def recSlots (seq sec frac : Nat) (r : Rec) : List (List Byte) :=
  let head := sealSlot (beBytes 5 seq ++ beBytes 4 sec ++ beBytes 2 frac ++
    beBytes 2 (classType r.cls r.prod r.typ) ++ [byte r.payload.length] ++ padTo 14 (r.payload.take 14))
  let cont (j : Nat) : List Byte :=
    let body := [byte j, byte seq] ++ padTo 26 ((r.payload.drop (14 + 26 * (j - 1))).take 26)
    body ++ beBytes 4 (crc32 (head.take 5 ++ body))
  head :: (List.range (slotsFor r.payload.length - 1)).map fun j => cont (j + 1)

/-- A slot is a valid head: its CRC is right, its class is not 0b00, its length is at most 92 (R289). -/
def headValid (b : List Byte) : Bool :=
  b.length == 32 && natAt b 28 4 == crc32 (b.take 28) && natAt b 11 2 / 0x4000 != 0 && natAt b 13 1 ≤ 92

/-- The sequence of a head slot. -/
def headSeq (b : List Byte) : Nat := natAt b 0 5

/-- The class/type of a head slot. -/
def headCt (b : List Byte) : Nat := natAt b 11 2

/-- The payload length of a head slot. -/
def headLen (b : List Byte) : Nat := natAt b 13 1

/-- A slot is continuation `j` of a head (R290). -/
def contValid (head : List Byte) (j : Nat) (b : List Byte) : Bool :=
  b.length == 32 && natAt b 0 1 == j && natAt b 28 4 == crc32 (head.take 5 ++ b.take 28)

/-- Slot `j` of the record whose head is given, as one bank holds it: whether it is valid. -/
def State.recSlotValid (s : State) (bank : Bank) (head : List Byte) (idx j : Nat) : Bool :=
  !s.bankBad bank && (if j = 0 then s.slot bank idx == head else contValid head j (s.slot bank (idx + j)))

/-- The head at a slot index, from bank A, or from bank B where bank A's copy is not valid (R301). -/
def State.headAt (s : State) (idx : Nat) : Option (List Byte) :=
  if !s.bankBad .a && headValid (s.slot .a idx) then some (s.slot .a idx)
  else if !s.bankBad .b && headValid (s.slot .b idx) then some (s.slot .b idx)
  else none

/-- The slots of the record at an index, each from bank A or, failing its CRC there, from bank B; `none` when a slot is
valid in neither bank (R301, R307). -/
def State.gather (s : State) (idx : Nat) : Option (List (List Byte)) :=
  match s.headAt idx with
  | none => none
  | some h =>
    (List.range (slotsFor (headLen h))).mapM fun j =>
      if s.recSlotValid .a h idx j then some (s.slot .a (idx + j))
      else if s.recSlotValid .b h idx j then some (s.slot .b (idx + j))
      else none

/-- Every slot of the record at an index is valid in this bank. -/
def State.completeIn (s : State) (bank : Bank) (idx : Nat) : Bool :=
  match s.headAt idx with
  | none => false
  | some h => (List.range (slotsFor (headLen h))).all fun j => s.recSlotValid bank h idx j

/-- The bytes readout returns of a record: bytes 0 to 13 of the head, then the payload (R311). -/
def recBytes (slots : List (List Byte)) : List Byte :=
  match slots with
  | [] => []
  | h :: cs => h.take 14 ++ (((h.drop 14).take 14 ++ cs.flatMap fun c => (c.drop 2).take 26).take (headLen h))

/-- The payload of a record. -/
def recPayload (slots : List (List Byte)) : List Byte := (recBytes slots).drop 14

/-! ## The spool (R295, R296) -/

/-- Spool slots in use, those passed over at its end counted (R296). -/
def Ledger.used (l : Ledger) : Nat :=
  match l.spool with
  | [] => 0
  | e :: _ =>
    let d := (l.spoolHead + 1024 - e.idx) % 1024
    if d = 0 then 1024 else d

/-- Where a record of `k` slots goes: at the head, or at the first slot where it would cross the spool's end (R290). -/
def Ledger.place (l : Ledger) (k : Nat) : Nat :=
  let h := if 1440 ≤ l.spoolHead then 416 else l.spoolHead
  if h + k ≤ 1440 then h else 416

/-- The spool slots a record of `k` slots consumes, those it passes over included. -/
def Ledger.cost (l : Ledger) (k : Nat) : Nat :=
  let h := if 1440 ≤ l.spoolHead then 416 else l.spoolHead
  if h + k ≤ 1440 then k else k + (1440 - h)

/-- Free spool slots (R296). -/
def Ledger.freeSlots (l : Ledger) : Nat := 1024 - l.used

/-- The rule of R296 for one record: class A down to the last slot, class B to 32 free, class C to 256 free. -/
def Ledger.fits (l : Ledger) (cls k : Nat) : Bool :=
  let c := l.cost k
  if cls = 1 then c ≤ l.freeSlots
  else if cls = 2 then c + 32 ≤ l.freeSlots
  else c + 256 ≤ l.freeSlots

/-- The oldest waiting record of each producer, in handing-over order (R296). -/
def firstPerProd : List Rec → List Nat → List Rec
  | [], _ => []
  | r :: l, seen => if seen.contains r.prod then firstPerProd l seen else r :: firstPerProd l (r.prod :: seen)

/-- The records the intake may choose from: each producer's oldest, the Weighbridge's queue among them (R193, R296). -/
def State.candidates (s : State) : List Rec := firstPerProd (s.lgr.waiting ++ s.wb.outq.take 1) []

/-- How far behind the producer served last a producer stands in the turn (R296). -/
def turnOf (last p : Nat) : Nat := (p + 32 - last - 1) % 32

/-- The candidate of one class whose producer is next in turn (R296). -/
def nextOfClass (cands : List Rec) (last cls : Nat) : Option Rec :=
  (cands.filter (fun r => r.cls == cls)).foldl
    (fun best r => match best with
      | none => some r
      | some x => if turnOf last r.prod < turnOf last x.prod then some r else some x) none

/-- The record the intake takes next: class A before B before C, producers of a class in turn (R296). -/
def State.nextRec (s : State) : Option Rec :=
  let c := s.candidates
  match nextOfClass c s.lgr.lastProd 1 with
  | some r => some r
  | none => match nextOfClass c s.lgr.lastProd 2 with
    | some r => some r
    | none => nextOfClass c s.lgr.lastProd 3

/-- A record taken off the front of its producer's queue. -/
def dropRec (r : Rec) : List Rec → List Rec
  | [] => []
  | x :: l => if x = r then l else x :: dropRec r l

/-! ## Verifies (R302) -/

/-- The stored Ledger state of metadata slot 71: write count, format, bank state, first-use marker (R303). -/
def State.metaSlot (s : State) (i : Nat) : List Byte :=
  let sa := s.slot .a i
  let sb := s.slot .b i
  let okA := !s.bankBad .a && natAt sa 28 4 == crc32 (sa.take 28)
  let okB := !s.bankBad .b && natAt sb 28 4 == crc32 (sb.take 28)
  if okA && okB then (if natAt sa 0 4 < natAt sb 0 4 then sb else sa)
  else if okA then sa
  else if okB then sb
  else emptySlot

/-- A stored setting was ever written: its slot has a valid copy (R303). -/
def State.metaSet (s : State) (i : Nat) : Bool := s.metaSlot i != emptySlot

/-- A metadata slot 68 to 71 written in both banks with the next write count (R303). -/
def State.putMeta (s : State) (i : Nat) (content : List Byte) : State :=
  s.writeSlots (mirrorWrites i [sealSlot (beBytes 4 (natAt (s.metaSlot i) 0 4 + 1) ++ content)])

/-- SYS_BOOT.ACTIVE as metadata slot 68 stores it: slot A until an activation (R303, R381). -/
def State.storedActive (s : State) : AB := if natAt (s.metaSlot 68) 4 1 = 1 then .b else .a

/-- The rollback floor of metadata slot 68 (R97, R382). -/
def State.storedFloor (s : State) : Nat := natAt (s.metaSlot 68) 5 4

/-- Metadata slot 68 written: the active slot and the rollback floor (R303). -/
def State.storeBoot (s : State) (active : AB) (floor : Nat) : State :=
  s.putMeta 68 ([byte active.code] ++ beBytes 4 floor)

/-- The Tether address of metadata slot 69, none when 0xFF or never written (R249, R303). -/
def State.storedTetAddr (s : State) : Option Nat :=
  if s.metaSet 69 && natAt (s.metaSlot 69) 4 1 < 64 then some (natAt (s.metaSlot 69) 4 1) else none

/-- Metadata slot 69 written; `none` erases the address (R249, R252). -/
def State.storeTetAddr (s : State) (a : Option Nat) : State := s.putMeta 69 [byte (a.getD 0xFF)]

/-- The VAUX setting of metadata slot 70: 1.8 V on a part that has applied no image (R146, R303). -/
def State.storedVaux (s : State) : Nat := natAt (s.metaSlot 70) 4 1 % 4

/-- Metadata slot 70 written (R146). -/
def State.storeVaux (s : State) (vsel : Nat) : State := s.putMeta 70 [byte vsel]

/-- The counter of verify failures of a bank (R302, R313). -/
def vfyCounter : Bank → Nat
  | .a => R.LGR_VFYERR_A
  | .b => R.LGR_VFYERR_B

/-- What a failed verify does (R302, R331): the first failure is counted; a second at the same slot marks the bank bad,
records it, and leaves the Ledger on the other bank alone, or, with both banks bad, not ready. `op` is the operation
code of the BANK_FAULT payload and `slotOf j` the slot index of write `j`. -/
def State.verified (s : State) (v : Verify) (op : Nat) (slotOf : Nat → Nat) : State :=
  match v with
  | .ok => s
  | .retried k _ => if s.bankBad k then s else s.bump (vfyCounter k) 1
  | .failed k j =>
    if s.bankBad k then s else
      let s := s.bump (vfyCounter k) 2
      let s := match k with
        | .a => s.setFlag F.LGR_STATUS_BANKA_BAD true
        | .b => s.setFlag F.LGR_STATUS_BANKB_BAD true
      let s := if s.ledgerDead then (s.setFlag F.LGR_STATUS_SINGLE false).setFlag F.LGR_STATUS_READY false
        else s.setFlag F.LGR_STATUS_SINGLE true
      let s := s.event F.LGR_EVENT_BANK_FAULT
      let s := s.putMeta 71 [1, byte ((if s.bankBad .a then 1 else 0) + (if s.bankBad .b then 2 else 0)), 1]
      s.post K.BANK_FAULT
        ([byte (match k with | .a => 0 | .b => 1)] ++ beBytes 2 (slotOf j) ++ [byte op] ++
          beBytes 4 (s.regN (vfyCounter k)))

/-! ## Backpressure and use (R298, R313, R317) -/

/-- A waiting class B record cannot be accepted under R296. -/
def State.heldB (s : State) : Bool :=
  s.lgr.drain.isSome ||
    s.candidates.any fun r => r.cls == 2 && !s.lgr.fits 2 (slotsFor r.payload.length)

/-- A waiting class C record cannot be accepted under R296. -/
def State.heldC (s : State) : Bool :=
  s.lgr.drain.isSome ||
    s.candidates.any (fun r => r.cls == 3 && !s.lgr.fits 3 (slotsFor r.payload.length)) ||
    s.lgr.accs.any (fun a => a.due ≤ s.now && !s.lgr.fits 3 1)

/-- The holdback bits follow the queues; each class B episode is an event and counted (R298). -/
def State.refreshBack (s : State) : State :=
  let was := s.flag F.LGR_STATUS_BACKB
  let s := if s.heldB && !was then (s.event F.LGR_EVENT_BACKPRESSURE).bump R.LGR_HOLDCNT 1 else s
  (s.setFlag F.LGR_STATUS_BACKB s.heldB).setFlag F.LGR_STATUS_BACKC s.heldC

/-- Firmware records move up as their FIFOs have room (R298). -/
def State.refillFirmware (s : State) : State :=
  match s.lgr.fwWait with
  | [] => s
  | r :: l =>
    if s.lgr.hasRoom r.cls r.prod then
      { s with lgr := { s.lgr with waiting := s.lgr.waiting ++ [r], fwWait := l } }
    else s

/-- SPOOLUSE and SPOOLMAX follow the spool; SPOOL_HIGH is set when the use reaches HWM × 8 (R313). -/
def State.refreshUse (s : State) (before : Nat) : State :=
  let u := s.lgr.used
  let s := if s.regN R.LGR_SPOOLMAX < u then s.setReg R.LGR_SPOOLMAX (BitVec.ofNat 16 u) else s
  let h := s.field F.LGR_CFG_HWM * 8
  if before < h && h ≤ u then s.event F.LGR_EVENT_SPOOL_HIGH else s

/-! ## Acceptance (R293 to R297) -/

/-- The sequence space is used up: 0xFF_FFFF_FFFF has been given (R293). -/
def Ledger.exhausted (l : Ledger) : Bool := decide (0xFFFFFFFFFF < l.nextSeq)

/-- The intake may write: replay is over, no early warning has tripped, a bank is good, sequences are left (R293, R310,
R311, R331). -/
def State.intakeOpen (s : State) : Bool :=
  s.flag F.LGR_STATUS_READY && !s.lgr.warned && !s.ledgerDead && !s.lgr.exhausted

/-- During a drain a class A record reaches the head of the intake no sooner than 500 µs, 16 whole ticks, after the one
before it, and no class B or C record is accepted (R317). -/
def State.drainAllows (s : State) (cls : Nat) : Bool :=
  match s.lgr.drain with
  | none => true
  | some _ => cls == 1 && (match s.lgr.lastA with | some t => t + 16 ≤ s.now | none => true)

/-- The intake may accept this record now (R296, R317). -/
def State.mayAccept (s : State) (r : Rec) : Bool :=
  s.intakeOpen && s.drainAllows r.cls && s.lgr.fits r.cls (slotsFor r.payload.length)

/-- What the acceptance of a HOST_RECORD shows the host (R312). -/
def State.hostAccepted (s : State) (r : Rec) (seq : Nat) : State :=
  if r.prod == 0x09 && decide (1 ≤ r.typ ∧ r.typ ≤ 0x0F) then
    let s := (s.setReg R.LGR_HRES 2).setGroup R.LGR_HSEQ2 3 seq
    (s.setFlag F.LGR_STATUS_HPEND false).event F.LGR_EVENT_HOST_DONE
  else s

/-- A drain begins when fewer than 36 spool slots are free; it ends when every record then in the spool has been
committed (R317). -/
def State.drainStart (s : State) : State :=
  if s.lgr.drain.isNone && decide (s.lgr.freeSlots < 36) then
    { s with lgr := { s.lgr with drain := some (s.lgr.nextSeq - 1) } }
  else s

/-- The writes that put a record into the spool (R295). -/
def State.acceptWrites (s : State) (r : Rec) : List SlotWrite :=
  mirrorWrites (s.lgr.place (slotsFor r.payload.length)) (recSlots s.lgr.nextSeq s.stamp.1 s.stamp.2 r)

/-- A record is accepted (R293, R295): its slots are written and verified in bank A and then in bank B, and it is given
the next sequence. With the last good bank failing it is not accepted (R331). -/
def State.acceptRec (s : State) (r : Rec) (v : Verify) : State :=
  let k := slotsFor r.payload.length
  let idx := s.lgr.place k
  let seq := s.lgr.nextSeq
  let before := s.lgr.used
  let s := s.writeSlots (s.acceptWrites r)
  let s := s.verified v 0 (fun j => idx + j % k)
  if s.ledgerDead then s else
    let s := { s with lgr := { s.lgr with
      spool := s.lgr.spool ++ [SpoolEntry.mk seq idx k], spoolHead := idx + k, nextSeq := seq + 1, lastProd := r.prod,
      lastA := if r.cls = 1 then some s.now else s.lgr.lastA } }
    let s := s.hostAccepted r seq
    let s := if s.lgr.exhausted then (s.setFlag F.LGR_STATUS_EXHAUSTED true).event F.LGR_EVENT_EXHAUSTED else s
    (s.refreshUse before).drainStart

/-- What stands in the spool of the record whose acceptance the early warning cuts short: its first `n` slot writes, never
all of them (R295, R307, R310). -/
def State.tornAccept (s : State) (n : Nat) : State :=
  match s.nextRec with
  | none => s
  | some r =>
    if s.mayAccept r then s.writeSlots ((s.acceptWrites r).take (min n (2 * slotsFor r.payload.length - 1))) else s

/-- The record leaves its producer's queue as the intake starts it. -/
def State.takeRec (s : State) (r : Rec) : State :=
  if s.lgr.waiting.contains r then
    { s with lgr := { s.lgr with waiting := dropRec r s.lgr.waiting } }
  else { s with wb := { s.wb with outq := s.wb.outq.drop 1,
                                  accepted := s.wb.accepted.filter (fun x => x.1 != r.typ) ++ [(r.typ, r.payload)] } }

/-- One turn of the intake: the next record is accepted if the rules let it (R295 to R298). -/
def State.intake (s : State) (v : Verify) : State :=
  match s.nextRec with
  | none => s
  | some r =>
    if s.mayAccept r then (((s.takeRec r).acceptRec r v).refillFirmware).refreshBack else s.refreshBack

/-! ## Pointer blocks and the keep table (R303, R304, R306) -/

/-- The pointer block of a commit (R304). -/
def pointerBlock (cseq tail main pin ringOld pinOld : Nat) : List Byte :=
  sealSlot (beBytes 5 cseq ++ beBytes 2 tail ++ beBytes 2 main ++ beBytes 2 pin ++ beBytes 5 ringOld ++ beBytes 5 pinOld)

/-- The record types of the pinned region (R291). -/
def pinnedCt (prod typ : Nat) : Bool :=
  (prod == 0x01 && (typ == 0x01 || typ == 0x02 || typ == 0x04)) ||
    (prod == 0x06 && (typ == 0x02 || typ == 0x08))

/-- The keep condition a record meets (R306, R320). -/
def keepEntryOf (prod typ : Nat) (payload : List Byte) : Option Nat :=
  if prod = 0x06 then
    if typ = 0x01 then some 0 else if typ = 0x04 then some 8 else if typ = 0x02 then some 10
    else if typ = 0x08 then some 11 else none
  else if prod = 0x05 then
    if typ = 0x05 then (if byteAt payload 16 = 0 then some 1 else none)
    else if typ = 0x06 then (if byteAt payload 16 = 0 then some 2 else none)
    else if typ = 0x07 then some 3 else none
  else if prod = 0x08 then
    if typ = 0x01 then some 4 else if typ = 0x03 then some 5 else none
  else if prod = 0x09 then
    if 1 ≤ typ ∧ typ ≤ 0x0F then some 6
    else if typ = 0x10 then (if natAt payload 0 1 < 4 then some (12 + natAt payload 0 1) else none) else none
  else if prod = 0x02 then (if typ = 0x0C then some 7 else none)
  else if prod = 0x04 then (if typ = 0x03 then some 9 else none)
  else none

/-- A keep entry by number. -/
def keepGet (keep : List KeepEntry) (e : Nat) : Option KeepEntry := keep.find? (fun k => k.entry == e)

/-- A keep entry replaced. -/
def keepPut (keep : List KeepEntry) (k : KeepEntry) : List KeepEntry :=
  keep.filter (fun x => x.entry != k.entry) ++ [k]

/-- The seven bytes of one keep entry: sequence and slot index, zeros for none (R303). -/
def keepBytes (keep : List KeepEntry) (e : Nat) : List Byte :=
  match keepGet keep e with
  | some k => beBytes 5 k.seq ++ beBytes 2 k.idx
  | none => List.replicate 7 0

/-- The keep-table slot that holds an entry, as it stands with the given table (R303: four entries a slot). -/
def keepSlot (keep : List KeepEntry) (e : Nat) : List Byte :=
  sealSlot ((List.range 4).flatMap fun j => keepBytes keep (e / 4 * 4 + j))

/-! ## The rings (R305, R306) -/

/-- The slots of the record whose head stands at an index, one where there is none. -/
def State.slotsAt (s : State) (idx : Nat) : Nat :=
  match s.headAt idx with
  | some h => slotsFor (headLen h)
  | none => 1

/-- The kept record that a write of `k` slots at `p` would touch, if any: its first slot and its slots. -/
def State.keptIn (s : State) (p k : Nat) : Option (Nat × Nat) :=
  let hit := s.lgr.keep.filter fun e => e.seq ≤ s.lgr.cseq && e.idx < p + k && p < e.idx + s.slotsAt e.idx
  match hit with
  | [] => none
  | e :: _ => some (e.idx, s.slotsAt e.idx)

/-- The write position of a record of `k` slots in the ring `lo .. hi - 1`: forward from `p`, back to the first slot at
the ring's end, past every kept record (R305, R306). The fuel covers the sixteen kept records and one wrap. -/
def State.ringPlace (s : State) (lo hi k : Nat) : Nat → Nat → Nat
  | 0, p => p
  | fuel + 1, p =>
    let p := if p + k ≤ hi then p else lo
    match s.keptIn p k with
    | none => p
    | some (i, n) => s.ringPlace lo hi k fuel (i + n)

/-- The heads of a region: index and head bytes (R305). -/
def State.heads (s : State) (lo hi : Nat) : List (Nat × List Byte) :=
  let idxs := ((s.lgr.bankA ++ s.lgr.bankB).map (·.1)).filter fun i => lo ≤ i && i < hi
  idxs.dedup.filterMap fun i => (s.headAt i).map fun h => (i, h)

/-- The slot lies among those a ring write from `p` to `p'` with `k` slots passes over or overwrites. -/
def passed (lo hi p p' k i : Nat) : Bool :=
  if p ≤ p' then p ≤ i && i < p' + k
  else (p ≤ i && i < hi) || (lo ≤ i && i < p' + k)

/-- The oldest retained sequence of a ring after a write (R305): past every record passed over or overwritten. -/
def State.oldest (s : State) (lo hi p p' k old new : Nat) : Nat :=
  let kept := fun i => s.lgr.keep.any (fun e => e.idx == i)
  let hs := (s.heads lo hi).filter fun x => !kept x.1 && old ≤ headSeq x.2 && headSeq x.2 < new
  let gone := hs.filter fun x => passed lo hi p p' k x.1
  let stay := hs.filter fun x => !passed lo hi p p' k x.1
  if gone.isEmpty then (if stay.isEmpty then new else stay.foldl (fun m x => min m (headSeq x.2)) new)
  else
    let top := gone.foldl (fun m x => max m (headSeq x.2)) 0
    (stay.filter fun x => top < headSeq x.2).foldl (fun m x => min m (headSeq x.2)) new

/-! ## Commit (R301) -/

/-- What committing a record writes, step by step, and the engine's pointers after it. -/
structure CommitPlan where
  writes : List SlotWrite
  target : Nat
  slots : Nat
  mainPos : Nat
  pinPos : Nat
  ringOld : Nat
  pinOld : Nat
  keep : List KeepEntry
  deriving DecidableEq, Repr

/-- The plan of one commit (R301): the target in its region, the keep entry of a keep type, the pointer block. -/
def State.commitPlan (s : State) (e : SpoolEntry) (slots : List (List Byte)) : CommitPlan :=
  let ct := headCt (slots.headD [])
  let prod := ct / 256 % 32
  let typ := ct % 256
  let pinned := pinnedCt prod typ
  let k := e.slots
  let lo := if pinned then 1440 else 5536
  let hi := if pinned then 5536 else 65536
  let p := if pinned then s.lgr.pinPos else s.lgr.mainPos
  let entry := keepEntryOf prod typ (recPayload slots)
  let t := s.ringPlace lo hi k 40 p
  let old := s.oldest lo hi p t k (if pinned then s.lgr.pinOld else s.lgr.ringOld) e.seq
  let keep := match entry with
    | some n => keepPut s.lgr.keep ⟨n, e.seq, t⟩
    | none => s.lgr.keep
  let mainPos := if pinned then s.lgr.mainPos else t + k
  let pinPos := if pinned then t + k else s.lgr.pinPos
  let ringOld := if pinned then s.lgr.ringOld else old
  let pinOld := if pinned then old else s.lgr.pinOld
  let keepW := match entry with
    | some n => mirrorWrites (64 + n / 4) [keepSlot keep n]
    | none => []
  let ptr := mirrorWrites (e.seq % 64) [pointerBlock e.seq (e.idx + k) mainPos pinPos ringOld pinOld]
  { writes := mirrorWrites t slots ++ keepW ++ ptr, target := t, slots := k, mainPos := mainPos, pinPos := pinPos,
    ringOld := ringOld, pinOld := pinOld, keep := keep }

/-- The engine's pointers after a commit; the record's spool slots are free (R301 step 6). -/
def State.committed (s : State) (e : SpoolEntry) (p : CommitPlan) : State :=
  { s with lgr := { s.lgr with
    spool := s.lgr.spool.filter (fun x => x.seq != e.seq), cseq := e.seq, mainPos := p.mainPos, pinPos := p.pinPos,
    ringOld := p.ringOld, pinOld := p.pinOld, keep := p.keep,
    drain := match s.lgr.drain with
      | some d => if d ≤ e.seq then none else some d
      | none => none } }

/-- A record that neither bank holds whole any more is lost, and the commit moves past it: a pointer block only (R330). -/
def State.lostPlan (s : State) (e : SpoolEntry) : CommitPlan :=
  { writes := mirrorWrites (e.seq % 64)
      [pointerBlock e.seq (e.idx + e.slots) s.lgr.mainPos s.lgr.pinPos s.lgr.ringOld s.lgr.pinOld],
    target := e.idx, slots := e.slots, mainPos := s.lgr.mainPos, pinPos := s.lgr.pinPos, ringOld := s.lgr.ringOld,
    pinOld := s.lgr.pinOld, keep := s.lgr.keep }

/-- The plan for the record at the spool tail. -/
def State.planFor (s : State) (e : SpoolEntry) : CommitPlan :=
  match s.gather e.idx with
  | some slots => s.commitPlan e slots
  | none => s.lostPlan e

/-- The bank in which a lost record's content was found wrong counts a failure (R330). -/
def State.countLost (s : State) (e : SpoolEntry) : State :=
  if (s.gather e.idx).isNone && s.flag F.LGR_STATUS_SINGLE then
    s.bump (if s.bankBad .a then R.LGR_VFYERR_B else R.LGR_VFYERR_A) 1
  else s

/-- One record committed (R301). -/
def State.commitOne (s : State) (e : SpoolEntry) (v : Verify) : State :=
  let p := s.planFor e
  let s := s.countLost e
  let s := s.writeSlots p.writes
  let s := s.verified v 1 (fun j => ((p.writes[j]?).map SlotWrite.idx).getD p.target)
  if s.ledgerDead then s else s.committed e p

/-- The commit engine takes the oldest accepted record, unless the supply early warning has tripped (R301, R310). -/
def State.commitNext (s : State) (v : Verify) : State :=
  if s.lgr.warned || s.ledgerDead then s
  else match s.lgr.spool with
    | [] => s
    | e :: _ => ((s.commitOne e v).refillFirmware).refreshBack

/-- What stands in the banks of a commit that a power loss cuts short after the early warning: its first `m` writes, never
all of them (R301, R310). -/
def State.tornCommit (s : State) (m : Nat) : State :=
  if s.ledgerDead then s
  else match s.lgr.spool with
    | [] => s
    | e :: _ => let w := (s.planFor e).writes; s.writeSlots (w.take (min m (w.length - 1)))

/-! ## Recovery replay (R307, R308) -/

/-- A pointer block is valid: its CRC is right and it has been written (R304). -/
def pointerValid (b : List Byte) : Bool := b.length == 32 && b != emptySlot && natAt b 28 4 == crc32 (b.take 28)

/-- The valid copies of the 64 pointer blocks (R307 step 1). -/
def State.pointers (s : State) : List (List Byte) :=
  (List.range 64).flatMap fun i =>
    (if !s.bankBad .a && pointerValid (s.slot .a i) then [s.slot .a i] else []) ++
      (if !s.bankBad .b && pointerValid (s.slot .b i) then [s.slot .b i] else [])

/-- The newest pointer block: the highest CSEQ (R304). -/
def State.newestPointer (s : State) : Option (List Byte) :=
  s.pointers.foldl
    (fun best b => match best with
      | none => some b
      | some x => if natAt x 0 5 < natAt b 0 5 then some b else some x) none

/-- Pointer blocks that are written and valid in neither bank, for the RECOVERY payload (R308). -/
def State.badPointers (s : State) : Nat :=
  ((List.range 64).filter fun i =>
    (s.slot .a i != emptySlot || s.slot .b i != emptySlot) &&
      !pointerValid (s.slot .a i) && !pointerValid (s.slot .b i)).length

/-- The keep table as a bank or its mirror holds it (R307 step 2). -/
def State.loadKeep (s : State) : List KeepEntry :=
  (List.range 16).filterMap fun e =>
    let b := let a := s.slot .a (64 + e / 4)
      if !s.bankBad .a && pointerValid a then a else s.slot .b (64 + e / 4)
    let seq := natAt b (e % 4 * 7) 5
    if pointerValid b && seq != 0 then some ⟨e, seq, natAt b (e % 4 * 7 + 5) 2⟩ else none

/-- A record's slots restored in the bank where they were not valid; how many (R307). -/
def State.restoreSlots (s : State) (idx : Nat) (slots : List (List Byte)) : State × Nat :=
  let bad := (mirrorWrites idx slots).filter fun w => !s.bankBad w.bank && s.slot w.bank w.idx != w.bytes
  (s.writeSlots bad, bad.length)

/-- The replay's run through the spool (R307 steps 3 and 4), from slot `p`, with what it has found so far. -/
def State.replayRun : Nat → Nat → State → Replay → State × Replay
  | 0, _, s, r => (s, r)
  | fuel + 1, p, s, r =>
    let p := if 1440 ≤ p then 416 else p
    match s.headAt p with
    | none => if 1436 < p then State.replayRun fuel 1440 s r else (s, r)
    | some h =>
      let k := slotsFor (headLen h)
      if headSeq h ≤ s.lgr.cseq then State.replayRun fuel (p + k) s r
      else if headSeq h != s.lgr.cseq + 1 then (s, r)
      else match s.gather p with
        | none => (s, { r with discarded := true })
        | some slots =>
          let fromA := s.completeIn .a p && !s.completeIn .b p && !s.bankBad .b
          let (s, n) := s.restoreSlots p slots
          let e : SpoolEntry := ⟨headSeq h, p, k⟩
          let s := s.writeSlots (s.planFor e).writes |>.committed e (s.planFor e)
          State.replayRun fuel (p + k) s
            { r with replayed := r.replayed + 1, restored := r.restored + n, fromA := fromA }

/-- The Ledger's engine begins anew; the banks stay. -/
def State.ledgerNew (s : State) : State :=
  { s with lgr := { Ledger.reset with bankA := s.lgr.bankA, bankB := s.lgr.bankB } }

/-- The stored bank faults and the keep table are read (R307, R331). -/
def State.ledgerStored (s : State) : State :=
  let bits := natAt (s.metaSlot 71) 5 1
  let s := (s.setFlag F.LGR_STATUS_BANKA_BAD (bits % 2 == 1)).setFlag F.LGR_STATUS_BANKB_BAD (bits / 2 % 2 == 1)
  let s := s.setFlag F.LGR_STATUS_SINGLE (bits % 4 == 1 || bits % 4 == 2)
  { s with lgr := { s.lgr with keep := s.loadKeep } }

/-- The pointers of the newest valid pointer block (R304, R307). -/
def State.ledgerPointers (s : State) : State :=
  match s.newestPointer with
  | none => s
  | some b => { s with lgr := { s.lgr with cseq := natAt b 0 5, mainPos := natAt b 7 2, pinPos := natAt b 9 2,
                                           ringOld := natAt b 11 5, pinOld := natAt b 16 5 } }

/-- The spool slot that the newest pointer block names as the oldest; the first slot of the spool without one (R307). -/
def State.spoolTail (s : State) : Nat :=
  match s.newestPointer with
  | none => 416
  | some b => natAt b 5 2

/-- What the replay found is kept, and the sequence goes on after the last committed record (R308). -/
def State.replayKept (s : State) (r : Replay) : State :=
  { s with lgr := { s.lgr with nextSeq := s.lgr.cseq + 1, replay := some r, spool := [], spoolHead := s.spoolTail } }

/-- The Ledger at a cold start: volatile queues empty, pointers and stored settings read, the spool replayed (R307). -/
def State.replay (s : State) : State :=
  let s := ((s.ledgerNew).ledgerStored).ledgerPointers
  let (s, r) := State.replayRun 1100 s.spoolTail s ⟨s.lgr.cseq, 0, 0, false, false, s.badPointers⟩
  s.replayKept r

/-- The RECOVERY payload (R308). -/
def recoveryPayload (r : Replay) : List Byte :=
  beBytes 5 r.cseq ++ beBytes 2 r.replayed ++ beBytes 2 r.restored ++
    [boolByte r.fromA, boolByte r.discarded, byte r.badPointers]

/-- Replay ends: READY is set and the RECOVERY record goes ahead of every waiting record (R308). -/
def State.replayDone (s : State) : State :=
  match s.lgr.replay with
  | none => s
  | some r =>
    if s.ledgerDead then { s with lgr := { s.lgr with replay := none } } else
      let s := { s with lgr := { s.lgr with replay := none } }
      let s := (s.setFlag F.LGR_STATUS_READY true).event F.LGR_EVENT_RECOVERED
      s.acceptRec ⟨2, 0x00, 0x03, recoveryPayload r⟩ .ok

/-! ## Tallies (R299, R300) -/

/-- The payload of a TALLY record (R300). -/
def tallyPayload (a : Acc) : List Byte :=
  beBytes 2 a.ct ++ beBytes 4 a.count ++ beBytes 4 a.firstSec ++ beBytes 4 a.lastSec

/-- An accumulator's TALLY record is built and handed over, and the accumulator closes. -/
def State.closeAcc (s : State) (a : Acc) : State :=
  let s := if s.lgr.accs.contains a then
      { s with lgr := { s.lgr with accs := s.lgr.accs.filter (fun x => x.ct != a.ct) } }
    else { s with lgr := { s.lgr with other := none } }
  { s with lgr := { s.lgr with waiting := s.lgr.waiting ++ [Rec.mk 3 0x00 0x01 (tallyPayload a)] } }

/-- An accumulator closes if its TALLY record can be accepted under R296; otherwise it stays open (R299). -/
def State.tryClose (s : State) (a : Acc) : State :=
  if s.lgr.fits 3 1 && !s.ledgerDead then s.closeAcc a else s

/-- Every open accumulator's TALLY record is built (R299). -/
def State.flushAccs (s : State) : State :=
  (s.lgr.accs ++ s.lgr.other.toList).foldl State.tryClose s

/-! ## Readout (R311) and host posts (R312) -/

/-- Every retained record: sequence, first slot, and whether it lies in the pinned region (R305, R311). -/
def State.retained (s : State) : List (Nat × Nat × Bool) :=
  let kept := fun i q => s.lgr.keep.any (fun e => e.idx == i && e.seq == q)
  let region := fun lo hi old pin => (s.heads lo hi).filterMap fun x =>
    if (old ≤ headSeq x.2 && headSeq x.2 ≤ s.lgr.cseq && old != 0) || kept x.1 (headSeq x.2)
    then some (headSeq x.2, x.1, pin) else none
  s.lgr.spool.map (fun e => (e.seq, e.idx, false)) ++
    region 5536 65536 s.lgr.ringOld false ++ region 1440 5536 s.lgr.pinOld true

/-- The record a read finds: the given sequence, the lowest at or above it, or the same among pinned records (R311). -/
def State.findRec (s : State) (mode seq : Nat) : Option (Nat × Nat) :=
  let all := s.retained.filter fun x => (mode != 2 || x.2.2) && (if mode = 0 then x.1 == seq else seq ≤ x.1)
  all.foldl (fun best x => match best with
    | none => some (x.1, x.2.1)
    | some b => if x.1 < b.1 then some (x.1, x.2.1) else some b) none

/-- The result of a read: status code of LGR_RDSTAT and the bytes (R311). -/
def State.readRec (s : State) (mode seq : Nat) : Nat × List Byte :=
  if s.lgr.nextSeq ≤ seq then (4, [])
  else match s.findRec mode seq with
    | none => (3, [])
    | some (_, idx) => match s.gather idx with
      | some slots => (2, recBytes slots)
      | none => (3, [])

/-- Two bytes of a read buffer, high byte first; 0x0000 beyond its end (R311, R194). -/
def wordAt (buf : List Byte) (pos : Nat) : Word :=
  BitVec.ofNat 16 ((byteAt buf pos).toNat * 256 + (byteAt buf (pos + 1)).toNat)

end Sys2Proof.Machine
end

