-- ==== Sys2Proof/Machine/CmdOps.lean ====
section
/-!
DEFINITION. The command journal (R320, R321), the answers of Bunilia commands (R370 to R373, R388), and the commands whose
CMD_DONE waits for an event (R321, R324).
-/

namespace Sys2Proof.Machine

/-! ## Answers (R370 to R373) -/

/-- The status codes of R371. -/
abbrev stOk : Nat := 0x00
abbrev stBusy : Nat := 0x01
abbrev stRunning : Nat := 0x02
abbrev stDenied : Nat := 0x03
abbrev stBadarg : Nat := 0x04
abbrev stBadframe : Nat := 0x05
abbrev stUnknown : Nat := 0x06
abbrev stRefused : Nat := 0x07
abbrev stLost : Nat := 0x08

/-- An answer as its frame's bytes (R370). -/
def Answer.bytes (a : Answer) : List Byte :=
  let body := byte a.status :: (if a.gen2 then beBytes 5 a.seq else []) ++ a.body
  let l := [byte (if a.gen2 then 2 else 1)] ++ beBytes 2 body.length ++ [byte a.code] ++
    (if a.gen2 then beBytes 2 a.tag else []) ++ body
  0xB6 :: l ++ beBytes 2 (crc16 l)

/-- A command frame's bytes (R370): SOF, generation, length, code, tag in generation 2, body, CRC. -/
def bunFrame (gen2 : Bool) (code tag : Nat) (body : List Byte) : List Byte :=
  let l := [byte (if gen2 then 2 else 1)] ++ beBytes 2 body.length ++ [byte code] ++ (if gen2 then beBytes 2 tag else []) ++
    body
  0xB5 :: l ++ beBytes 2 (crc16 l)

/-- The bytes of a frame's header by its generation (R370): SOF, GEN, LEN, CODE, and TAG in generation 2. -/
def bunHead (l : List Byte) : Nat := if byteAt l 1 = 2 then 7 else 5

/-- Bytes that begin as a command frame, with SOF and GEN read (R371). -/
def bunBegun (l : List Byte) : Bool := decide (2 ≤ l.length) && byteAt l 0 == 0xB5

/-- A frame's generation, length and CRC are right (R370, R371). -/
def bunRight (l : List Byte) : Bool :=
  (byteAt l 1 == 1 || byteAt l 1 == 2) && decide (natAt l 2 2 ≤ 520) &&
    l.length == bunHead l + natAt l 2 2 + 2 && natAt l (l.length - 2) 2 == crc16 ((l.take (l.length - 2)).drop 1)

/-- An answer placed in the buffer the host reads (R388). -/
def State.optAnswer (s : State) (l : List Byte) : State :=
  let s := if s.flag F.OPT_STATUS_ANSPEND then s.event F.OPT_EVENT_ANS_LOST else s
  let s := (s.setFlag F.OPT_STATUS_ANSPEND true).setReg R.OPT_ANSLEN (BitVec.ofNat 16 (l.length % 128))
  { s.event F.OPT_EVENT_ANSWER with opt := { s.opt with buf := l, pos := 0 } }

/-- An answer given on its transport (R372). -/
def State.answer (s : State) (t : Transport) (a : Answer) : State :=
  match t with
  | .usb => { s with svc := { s.svc with usbAns := some a } }
  | .uart => { s with svc := { s.svc with uartAns := some a } }
  | .optical => s.optAnswer a.bytes

/-! ## The journal (R320, R321) -/

/-- The results of CMD_DONE (R320). -/
abbrev resDone : Nat := 0
abbrev resRefused : Nat := 1
abbrev resStagingLost : Nat := 2

/-- The sources of R320. -/
abbrev srcPortH : Nat := 0

/-- The source code of a transport (R320). -/
def Transport.src : Transport → Nat
  | .usb => 1 | .uart => 2 | .optical => 3

/-- The transport of a journalled command's source; none for Port H. -/
def srcTransport : Nat → Option Transport
  | 1 => some .usb
  | 2 => some .uart
  | 3 => some .optical
  | _ => none

/-- The requester of a journalled command's source. -/
def srcRequester : Nat → Requester
  | 1 => .usb
  | 2 => .uart
  | 3 => .optical
  | _ => .portH

/-- The CMD_DONE of an accepted command (R320). -/
def cmdDonePayload (seq result : Nat) (replayed : Bool) (code : Nat) : List Byte :=
  beBytes 5 seq ++ [byte result, boolByte replayed] ++ beBytes 2 code

/-- A record of the journal handed to the Ledger (R320, R321): its queue has no bound of its own. -/
def State.postDone (s : State) (seq result : Nat) (replayed : Bool) (code : Nat) : State :=
  if s.ledgerDead then s
  else { s with lgr := { s.lgr with waiting := s.lgr.waiting ++ [⟨2, 0x09, 0x11, cmdDonePayload seq result replayed code⟩] } }

/-- An executed command: its sequence, itself, and whether it is a re-execution (R323). -/
abbrev Run := Nat × QueuedCmd × Bool

/-- The answer of an executed Bunilia command on its session; a command re-executed after a start has nobody to answer. -/
def State.cmdAnswer (s : State) (r : Run) (status : Nat) (body : List Byte) : State :=
  match srcTransport r.2.1.src with
  | some t => if r.2.2 then s else s.answer t ⟨r.2.1.code, r.2.1.tag, r.2.1.gen2, status, r.1, body⟩
  | none => s

/-- A command's effect is complete: CMD_DONE, and the answer (R321, R372). -/
def State.cmdFinish (s : State) (r : Run) (result status : Nat) (body : List Byte) : State :=
  (s.postDone r.1 result r.2.2 r.2.1.code).cmdAnswer r status body

/-- The proof-test requests that waited are done: PROOF_START or PROOF_SKIP has been made (R324). -/
def State.proofRequestsDone (s : State) : State :=
  { s.cmd.awaiting.foldl (fun (t : State) (a : Run) => t.cmdFinish a resDone stOk []) s with
    cmd := { s.cmd with awaiting := [] } }

/-- The ship requests that waited have their CMD_DONE (R321): with SHIP_ENTRY, or refused with the cause. -/
def State.shipRequestsDone (s : State) (result status : Nat) (body : List Byte) : State :=
  { s.cmd.shipping.foldl (fun (t : State) (a : Run) => t.cmdFinish a result status body) s with
    cmd := { s.cmd with shipping := [] } }

end Sys2Proof.Machine
end

