-- ==== Sys2Proof/Machine/PowerOps.lean ====
section
/-!
DEFINITION. What the power states, the charger, BATFET, the Tether converter and the horn rail share: the operations that
more than one family's meaning calls (R22 to R31, R118, R137 to R144, R154 to R170).
-/

namespace Sys2Proof.Machine

/-! ## The settings the power stage holds (R64, R65) -/

/-- The settings that a warm reset leaves in force until the image has been re-applied. -/
def heldRegs : List Nat :=
  [R.SRC_EN, R.SRC_RANK, R.SRC_VIN_ILIM, R.SRC_VIN_FLOOR, R.SRC_VBUS_ILIM, R.SRC_VBUS_FLOOR, R.SRC_VPV_ILIM,
   R.SRC_VPV_CFG, R.SRC_VPV_VSET, R.SRC_TET_ILIM, R.PATH_VSYSMIN, R.PATH_BATOCP, R.CONV_MAIN_CFG, R.CONV_MAIN_IPK,
   R.CONV_TET_CTRL, R.CONV_TET_ISET, R.CONV_TET_ISRC, R.CONV_TET_VNL, R.CONV_TET_DROOP, R.CONV_HORN_V, R.PD_LIMIT]

/-- The state as the power stage takes its settings from it: the registers, or, between a warm reset and the image step, what
they held before (R64, R65). -/
def State.power (s : State) : State :=
  { s with regs := s.path.held.foldl (fun (l : List (Nat × Word)) (p : Nat × Word) => regPut l p.1 p.2) s.regs }

/-- SRC_EN as it counts: on the QTL6412 VBUS_EN is 0 whatever was written (R100). -/
def State.srcEn (s : State) : Word :=
  if s.part == .qtl6412 then s.reg R.SRC_EN &&& ~~~2#16 else s.reg R.SRC_EN

/-! ## Power state and overlays (R22 to R30) -/

/-- The code of SYS_STATE.PSTATE for SAFE (R25). -/
abbrev pstateSafe : Nat := 3

/-- The source that carries VSYS, as R292 codes it: the closed input switch's, the Tether's while it sinks, or 0. -/
def State.carrier (s : State) : Nat :=
  match s.path.closed with
  | some x => x.code
  | none => if s.field F.CONV_STATUS_TET_MODE = 2 then 4 else 0

/-- A change of SYS_STATE.PSTATE: shown, an event, and a STATE_CHANGE record (R25, R292, R474). -/
def State.setPstate (s : State) (new : Nat) : State :=
  let old := s.field F.SYS_STATE_PSTATE
  if old = new then s else
    let s := (s.setField F.SYS_STATE_PSTATE new).event F.SYS_EVENT_STATE_CHG
    s.post K.STATE_CHANGE [byte old, byte new, byte (s.regN R.SYS_STATE % 256), byte s.carrier]

/-- A deferred proof test is checked again 30 min after the ALARM overlay clears (R217). -/
def State.deferTimer (s : State) (f : Flag) (x : Bool) : State :=
  if f = F.SYS_STATE_ALARM then
    { s with vdt := { s.vdt with deferDue := if !x && s.vdt.deferred.isSome then s.timer (secTicks 1800) else none } }
  else s

/-- An overlay bit of SYS_STATE takes a value; a change is an event (R30, R474). -/
def State.setOverlay (s : State) (f : Flag) (x : Bool) : State :=
  if s.flag f = x then s else ((s.setFlag f x).event F.SYS_EVENT_STATE_CHG).deferTimer f x

/-- The unit is in SAFE. -/
def State.inSafe (s : State) : Bool := s.field F.SYS_STATE_PSTATE == pstateSafe

/-- An image has been applied since the last start; until then, and without a valid one, the start-up limits hold (R66, R111). -/
def State.imaged (s : State) : Bool := s.boot.applied && s.boot.loaded.isSome

/-! ## Chemistry (R76, R157) -/

/-- The three chemistries: 0 LiFePO4, 1 lithium titanate, 2 NMC (R76). -/
def chemKind (c : Nat) : Nat := if c < 4 then 0 else if c < 10 then 1 else 2

/-- Series cells of a CHEM code (R76). -/
def chemSeries (c : Nat) : Nat := if c < 4 then c + 1 else if c < 10 then c - 3 else if c < 14 then c - 9 else 1

/-- The precondition threshold V_PRE per cell, in mV (R157). -/
def chemVpre (c : Nat) : Nat := match chemKind c with | 0 => 2800 | 1 => 1800 | _ => 3000

/-- The recharge offset V_RCH per cell, in mV (R157). -/
def chemVrch (c : Nat) : Nat := match chemKind c with | 0 => 100 | 1 => 80 | _ => 100

/-- The nominal voltage per cell, in mV (R157). -/
def chemNominal (c : Nat) : Nat := match chemKind c with | 0 => 3200 | 1 => 2400 | _ => 3650

/-- The Range of CHG_VREG and CHG_HWVREG in 10 mV (R157). -/
def chemVregRange (c : Nat) : Nat × Nat :=
  match chemKind c with | 0 => (340, 365) | 1 => (255, 285) | _ => (400, 420)

/-- The Default of CHG_VREG in 10 mV (R157, R477). -/
def chemVreg (c : Nat) : Nat := match chemKind c with | 0 => 0x15E | 1 => 0x10E | _ => 0x19A

/-- The Default of CHG_HWVREG in 10 mV (R157, R477). -/
def chemHwvreg (c : Nat) : Nat := match chemKind c with | 0 => 0x154 | 1 => 0xFF | _ => 0x190

/-- The latched CHEM code; the LiFePO4 values stand with a strap fault (R75, R477). -/
def State.chem (s : State) : Nat := if s.boot.strapBad then 0 else s.boot.chem

/-- Series cells of the latched code. -/
def State.series (s : State) : Nat := chemSeries s.chem

/-! ## The charger's modes and figures (R156 to R166) -/

abbrev phOff : Nat := 0
abbrev phDetect : Nat := 1
abbrev phPre : Nat := 2
abbrev phCC : Nat := 3
abbrev phCV : Nat := 4
abbrev phTerm : Nat := 5
abbrev phRest : Nat := 6
abbrev phTopup : Nat := 7
abbrev phSusp : Nat := 8
abbrev phFault : Nat := 9
abbrev phAbsent : Nat := 10

/-- The charger's phase (R156). -/
def State.phaseN (s : State) : Nat := s.field F.CHG_STATUS_PHASE

/-- Milliamperes of a CHG_ICHG code (R171). -/
def ichgMa (code : Nat) : Nat := if code ≤ 100 then code * 10 else 1000 + (code - 100) * 50

/-- The zone used (R165). -/
def State.zone (s : State) : Nat := s.field F.CHG_ZONE_USED

/-- The current factor of a zone in percent (R165). -/
def zoneFactor (chem zone : Nat) : Nat :=
  match zone with
  | 1 => if chemKind chem = 2 then 30 else 50
  | 2 => 100
  | 3 => 50
  | _ => 0

/-- The VREG offset of a zone per cell, in mV (R165). -/
def zoneOffset (chem zone : Nat) : Nat :=
  if zone = 3 then (match chemKind chem with | 0 => 0 | 1 => 50 | _ => 100) else 0

/-- VREG per cell in mV: CHG_VREG, the lower of it and CHG_HWVREG in LIMITED operation, less the zone offset (R159,
R165). -/
def State.vreg (s : State) : Nat :=
  let v := s.regN R.CHG_VREG * 10
  let w := if s.flag F.CHG_STATUS_LIMITED then min v (s.regN R.CHG_HWVREG * 10) else v
  w - zoneOffset s.chem s.zone

/-- The charge current in mA that CC allows: CHG_ICHG, or the lower of it and CHG_HWILIM in LIMITED operation; the zone
factor × CHG_ICHG; and what throttling leaves, clamp(2F − 1, 0, 1), rounded down to 10 mA (R165, R461). -/
def State.chargeLimit (s : State) : Nat :=
  let i := ichgMa (s.regN R.CHG_ICHG)
  let base := if s.flag F.CHG_STATUS_LIMITED then min i (ichgMa (s.regN R.CHG_HWILIM)) else i
  let zoned := min base (i * zoneFactor s.chem s.zone / 100)
  let f := s.field F.THM_FACTOR_F
  zoned * (2 * f - 100) / 100 / 10 * 10

/-- The current in mA that the present phase demands (R156). -/
def State.phaseDemand (s : State) : Nat :=
  match s.phaseN with
  | 2 => min (ichgMa (s.regN R.CHG_IPRE)) s.chargeLimit
  | 3 => s.chargeLimit
  | 4 => s.chargeLimit
  | 7 => s.chargeLimit
  | _ => 0

/-- That demand, or what shedding leaves of it (R109, R165). -/
def State.phaseLeft (s : State) : Nat :=
  match s.chg.left with
  | some l => min s.phaseDemand l
  | none => s.phaseDemand

/-- The current in mA that flows into the cell at most: in linear mode also 1.0 W divided by VSYS − BAT (R124, R156). -/
def State.phaseCurrent (s : State) : Nat :=
  if s.flag F.PATH_STATUS_LINEAR then min s.phaseLeft (1000000 / (s.power.regN R.PATH_VSYSMIN * 100 - s.chg.bat))
  else s.phaseLeft

/-- The current limit in mA of the present phase, before throttling and the zone factor (R156, R165). -/
def State.phaseLimit (s : State) : Nat :=
  let i := ichgMa (s.regN R.CHG_ICHG)
  let base := if s.flag F.CHG_STATUS_LIMITED then min i (ichgMa (s.regN R.CHG_HWILIM)) else i
  if s.phaseN = phPre then min (ichgMa (s.regN R.CHG_IPRE)) base else base

/-- Less than half of the phase's current limit is left by throttling, the zone factor or shedding (R166). -/
def State.halfRate (s : State) : Bool := s.phaseLeft * 2 < s.phaseLimit

/-- The phases whose time is counted, by the timer they count on: 2 TPRE, 3 TSAFE, 7 TTOPUP (R156). -/
def timerOf : Nat → Nat
  | 2 => 2 | 3 => 3 | 4 => 3 | 7 => 7 | _ => 0

/-- The half ticks counted in the present timed phase: full rate, or half rate while REDUCED is set (R166). -/
def State.chgElapsed2 (s : State) : Nat :=
  if timerOf s.phaseN = 0 then s.chg.acc
  else s.chg.acc + (s.now - s.chg.mark) * (if s.flag F.CHG_STATUS_REDUCED then 1 else 2)

/-- The count brought up to the present tick. -/
def State.chgSettle (s : State) : State := { s with chg := { s.chg with acc := s.chgElapsed2, mark := s.now } }

/-- The limit of a timer in ticks, as CHG_TIMERS gives it now (R156, R171, R172). -/
def State.timerLimit (s : State) (t : Nat) : Nat :=
  match t with
  | 2 => secTicks (900 * s.field F.CHG_TIMERS_TPRE)
  | 3 => secTicks (3600 * s.field F.CHG_TIMERS_TSAFE)
  | 7 => secTicks (3600 * s.field F.CHG_TIMERS_TTOPUP)
  | _ => 0

/-- The present phase has lasted its timer (R169). -/
def State.timerExpired (s : State) : Bool :=
  timerOf s.phaseN != 0 && 2 * s.chg.limit ≤ s.chgElapsed2

/-- REDUCED follows the current left (R166); the count is settled first, since its rate changes. -/
def State.refreshReduced (s : State) : State :=
  (s.chgSettle).setFlag F.CHG_STATUS_REDUCED (s.halfRate && timerOf s.phaseN != 0)

/-- The most that CHG_IBAT can show, in 10 mA: the current the phase regulates, or the 10 mA of DETECT's test (R155, R171). -/
def State.ibatMost (s : State) : Nat := if s.phaseN = phDetect then 1 else s.phaseCurrent / 10

/-- The charge current falls with its limit at once; a higher limit shows at the next refresh (R135, R171). -/
def State.refreshIbat (s : State) : State :=
  if s.flag F.CONV_STATUS_EXC || s.regN R.CHG_IBAT ≤ s.ibatMost then s
  else s.setReg R.CHG_IBAT (BitVec.ofNat 16 s.ibatMost)

/-- BATFET conducts as an ideal diode whatever the cell: without a source, while the cell supplements, after a VSYS
over-voltage trip and under a proof test's load (R118, R119, R120, R123, R216). -/
def State.batfetDiode (s : State) : Bool :=
  !s.flag F.SYS_STATE_FEED || s.flag F.PATH_STATUS_SUPPLEMENT || s.flag F.PATH_STATUS_SYS_OVP ||
    (match s.vdt.proof with | some p => p.load | none => false)

/-- BATFET's mode follows the cell and the charger (R118, R119, R124): linear on a deeply discharged or absent cell, fully on
while charging and in ideal conduction above 1.7 A, an ideal diode otherwise; open after R121. -/
def State.refreshBatfet (s : State) : State :=
  let opened := s.flag F.PATH_STATUS_BATOPEN
  let diode := s.batfetDiode
  let m := s.power.regN R.PATH_VSYSMIN * 100
  let low := decide (s.chg.bat + 300 < m) || (s.flag F.PATH_STATUS_LINEAR && decide (s.chg.bat + 200 < m)) ||
    s.phaseN == phAbsent
  let charging := 0 < s.phaseLeft
  let s := s.setFlag F.PATH_STATUS_LINEAR (!opened && !diode && low)
  let s := s.setFlag F.PATH_STATUS_BATON (!opened && ((!diode && !low && charging) || (diode && decide (1700 < s.path.outMa))))
  let s := s.setFlag F.PATH_STATUS_HOLD (!opened && !diode && !low && !charging)
  let s := s.setFlag F.PATH_STATUS_IDEAL (!opened && (diode || (!low && !charging)))
  s.setFlag F.PATH_STATUS_BAT_LOW (s.chg.bat < 2800)

/-! ## Shedding (R148, R150, R151) -/

/-- Tether sourcing is being reduced: for want of energy, by the throttle below one half, or because VSYS is low. -/
def State.sourceCut (s : State) : Bool :=
  (s.field F.CONV_STATUS_TET_MODE == 3 && (decide (2 ≤ s.conv.short) || decide (s.field F.THM_FACTOR_F < 50))) ||
    (s.conv.vsysLow && s.power.flag F.CONV_TET_CTRL_SRC)

/-- A demand above charging is being reduced: sourcing, the horn on the ladder of R150, or a sweep's excitation. -/
def State.shedHolds (s : State) : Bool := s.sourceCut || s.flag F.CONV_STATUS_HORN_FOLD || s.conv.clipped

/-- An episode of R148 begins or ends: SHED is set when sourcing begins to be reduced, the episode counted and tallied once. -/
def State.refreshShed (s : State) : State :=
  let s := if s.sourceCut && !s.conv.cut then s.event F.CONV_EVENT_SHED else s
  let s := { s with conv := { s.conv with cut := s.sourceCut } }
  let s := if s.shedHolds && !s.conv.shedding then (s.bump R.CONV_SHEDCNT 1).tally K.SHED else s
  { s with conv := { s.conv with shedding := s.shedHolds } }

/-- The excitation of a running sweep is clipped (R148, R151). -/
def State.excClip (s : State) : State :=
  if s.flag F.CONV_STATUS_EXC then
    ({ s with conv := { s.conv with clipped := true } }.event F.CONV_EVENT_EXC_CLIP).refreshShed
  else s

/-- The excitation ends, and with it its clipping. -/
def State.excEnd (s : State) : State :=
  { s.setFlag F.CONV_STATUS_EXC false with conv := { s.conv with clipped := false } }.refreshShed

/-- The horn's place on the ladder of R150: folded back while it runs on a VSYS below 3.0 V. -/
def State.refreshFold (s : State) : State :=
  let fold := s.conv.vsysLow && s.flag F.CONV_STATUS_HORN_ON
  let s := if fold && !s.flag F.CONV_STATUS_HORN_FOLD then s.event F.CONV_EVENT_HORN_ILIM else s
  (s.setFlag F.CONV_STATUS_HORN_FOLD fold).refreshShed

/-- A phase entered (R156): its code, an event on a change, its timer begun or, when resumed, continued (R158);
CHG_TIMERS as it stands at the entry gives its limit (R172). -/
def State.enterPhase (s : State) (p : Nat) : State :=
  let s := s.chgSettle
  let t := timerOf p
  let s := if s.phaseN = p then s else (s.setField F.CHG_STATUS_PHASE p).event F.CHG_EVENT_PHASE_CHG
  let s := if p = phSusp then s
    else if t != 0 && t = s.chg.timed then { s with chg := { s.chg with limit := s.timerLimit t } }
    else { s with chg := { s.chg with timed := t, acc := 0, limit := s.timerLimit t,
                                      ccFrom := if p = phCC || p = phTopup then s.now else s.chg.ccFrom } }
  let s := if p = phRest then { s with chg := { s.chg with tgtRaised := false } } else s
  let s := s.setFlag F.CHG_STATUS_CVSUB false
  (s.refreshReduced.refreshIbat).refreshBatfet

/-- The timers forget what they counted: the next timed phase begins afresh. -/
def State.forgetTimers (s : State) : State := { s with chg := { s.chg with timed := 0, acc := 0, mark := s.now } }

/-- The present mode is partial (R162, R164). -/
def State.partialMode (s : State) : Bool :=
  decide (s.regN R.CHG_TGT < 1000) && !s.flag F.CHG_STATUS_LIMITED && !s.flag F.CHG_STATUS_FULLREQ

/-- The firmware holds CONV_TET_CTRL.CELLOK at 0 while BELOW_BALLAST is 1 and through a proof test (R170, R216). -/
def State.holdCellok (s : State) : State :=
  if s.flag F.CHG_STATUS_BELOW_BALLAST || s.flag F.SYS_STATE_PROOF then s.setFlag F.CONV_TET_CTRL_CELLOK false else s

/-- PARTIAL and BELOW_BALLAST follow the figures the firmware wrote, and CELLOK is held (R162, R170). -/
def State.refreshPartial (s : State) : State :=
  let s := s.setFlag F.CHG_STATUS_PARTIAL s.partialMode
  (s.setFlag F.CHG_STATUS_BELOW_BALLAST
    (s.flag F.CHG_STATUS_LIMITED || decide (s.field F.CHG_SOC_SOC < s.regN R.CHG_BALSOC))).holdCellok

/-- The top-up condition (R163). -/
def State.topupHolds (s : State) : Bool :=
  let soc := s.field F.CHG_SOC_SOC
  let tgt := s.regN R.CHG_TGT
  let hyst := s.regN R.CHG_HYST
  (s.partialMode && decide (soc + hyst < tgt)) ||
    (!s.partialMode && decide (s.chg.bat < s.series * (s.vreg - chemVrch s.chem))) ||
    (!s.flag F.CHG_STATUS_LIMITED && s.chg.tgtRaised && decide (soc + hyst ≤ tgt))

/-- The next phase after DETECT or SUSPENDED (R158). -/
def State.nextPhase (s : State) : Nat :=
  if s.chg.bat < s.series * chemVpre s.chem then phPre
  else if !s.topupHolds then phRest
  else if s.chg.prior = phRest || s.chg.prior = phTopup then phTopup
  else phCC

/-- The charger may run at all: image applied, CHEM matching, enabled, no SAFE cause but the fallback policy (R154). -/
def State.chgAllowed (s : State) : Bool :=
  s.boot.applied && s.flag F.CHG_CFG_EN && !s.flag F.SYS_SAFECAUSE_NOIMAGE && !s.flag F.SYS_SAFECAUSE_CHEM &&
    !s.flag F.SYS_SAFECAUSE_CFGCRC

/-- Any cause of R167 holds. -/
def State.chgHeld (s : State) : Bool :=
  s.flag F.CHG_STATUS_SUSP_ALM || s.flag F.CHG_STATUS_SUSP_PROOF || s.flag F.CHG_STATUS_SUSP_SWEEP ||
    s.flag F.CHG_STATUS_SUSP_SRC || s.flag F.CHG_STATUS_SUSP_TEMP

/-- A cause of R167 begins: its bit, zero current, timers paused, the phase before it kept. An alarm or thermal
suspension is tallied (R167). -/
def State.chgSuspend (s : State) (bit : Flag) : State :=
  if s.flag bit then s else
    let s := s.setFlag bit true
    let s := if bit = F.CHG_STATUS_SUSP_ALM || bit = F.CHG_STATUS_SUSP_TEMP then s.tally K.CHG_SUSPEND else s
    if s.phaseN = phOff || s.phaseN = phSusp || s.phaseN = phFault || s.phaseN = phAbsent then s
    else
      let s := { s with chg := { s.chg with prior := s.phaseN } }
      (s.enterPhase phSusp).event F.CHG_EVENT_SUSPEND

/-- A cause of R167 ends; CHG_RESUME follows once none is left. -/
def State.chgRelease (s : State) (bit : Flag) : State := s.setFlag bit false

/-- The charger goes OFF where R154 fails. -/
def State.chgOff (s : State) : State :=
  if s.phaseN = phOff then s else ((s.enterPhase phOff).forgetTimers)

/-- OFF is entered as soon as R154 fails other than by FEED. -/
def State.refreshChgOff (s : State) : State := if s.chgAllowed then s else s.chgOff

/-- The suspension bit SUSP_SRC follows SYS_STATE.FEED (R154, R167). -/
def State.refreshSusSrc (s : State) : State :=
  if s.flag F.SYS_STATE_FEED then s.chgRelease F.CHG_STATUS_SUSP_SRC else s.chgSuspend F.CHG_STATUS_SUSP_SRC

/-- The cause code of LIMITED operation that holds (R159, R292): 1 core not running, 2 fallback policy, 3 VALID clear,
4 CHG_SOC not written for 10 s; 0 none. -/
def State.limitedCause (s : State) : Nat :=
  if s.flag F.SYS_BOOT_FALLBACK then 2
  else if !s.boot.core then 1
  else if !s.flag F.CHG_SOC_VALID then 3
  else if s.elapsed (s.chg.socAt.map (· + secTicks 10)) then 4
  else 0

/-- At the end of LIMITED operation the charger chooses its phase anew by R158, the phase it is in taken as the one before. DEDUCED
(log 105): CV is kept where R158 names CC, since the present phase is kept across the change. -/
def State.chgRechoose (s : State) : State :=
  if s.phaseN = phPre || s.phaseN = phCC || s.phaseN = phCV || s.phaseN = phRest || s.phaseN = phTopup then
    let s := { s with chg := { s.chg with prior := s.phaseN } }
    let p := s.nextPhase
    if p = s.phaseN || (p = phCC && s.phaseN = phCV) then s else s.enterPhase p
  else s

/-- LIMITED operation begins or ends (R159); its entry is recorded. -/
def State.refreshLimited (s : State) : State :=
  let c := s.limitedCause
  if c = 0 then
    if s.flag F.CHG_STATUS_LIMITED then
      (((s.setFlag F.CHG_STATUS_LIMITED false).refreshPartial).refreshIbat).chgRechoose
    else s.refreshPartial
  else if s.flag F.CHG_STATUS_LIMITED then s.refreshPartial
  else
    let s := ((s.setFlag F.CHG_STATUS_LIMITED true).event F.CHG_EVENT_LIMITED).post K.CHG_LIMITED [byte c]
    (s.refreshPartial).refreshIbat

/-! ## KEEP (R126, R147) -/

/-- KEEP's setting in mV (R147). -/
def State.keepSet (s : State) : Nat := 600 + 50 * (s.regN R.CONV_KEEP % 64)

/-- KEEP is on: enabled, its latch set by an image application, and in SHIP only with KEEP_SHIP (R126, R147). -/
def State.keepOn (s : State) : Bool :=
  s.flag F.CONV_KEEP_EN && !s.conv.keepOff && (s.phase != .ship || s.path.keepShip)

/-- KEEP stands within 5 % of its setting (R147). -/
def State.keepOk (s : State) : Bool :=
  s.keepOn && decide (20 * s.conv.keepMv ≤ 21 * s.keepSet ∧ 19 * s.keepSet ≤ 20 * s.conv.keepMv)
/-! ## The horn rail and HSW (R43, R47, R50, R142 to R144) -/

/-- The horn boost starts toward CONV_HORN_V; one that already runs keeps running, and a hold before release ends. -/
def State.hornStart (s : State) : State :=
  let s := { s with alm := { s.alm with hornHold := none } }
  if s.flag F.CONV_STATUS_HORN_ON || s.thm.railsOff then s
  else { s.setFlag F.CONV_STATUS_HORN_ON true with
         alm := { s.alm with hornFrom := some s.now }, conv := { s.conv with hswOcp := false } }.refreshFold

/-- Some active remote origin is not hushed, or a level alarm stands unhushed (R47, R50, R255). -/
def State.remoteSounds (s : State) : Bool :=
  s.alm.remotes.any (fun r => !s.mapBit R.ALM_HUSHSET0 r.addr) ||
    (s.alm.level.isSome && !s.flag F.ALM_STATUS_HUSHED)

/-- HSW is to be closed: a local alarm, or an unhushed remote one while ALM_CFG.HSW_REMOTE is 1 (R43, R47, R50). -/
def State.hswWanted (s : State) : Bool :=
  s.flag F.ALM_STATUS_LOCAL || (s.flag F.ALM_CFG_HSW_REMOTE && s.remoteSounds)

/-- HSW closes at horn-ready and follows its closing condition, unless its current limit has opened it (R43, R144). -/
def State.refreshHsw (s : State) : State :=
  s.setFlag F.ALM_STATUS_HSW (s.flag F.ALM_STATUS_HORN_OK && s.hswWanted && s.alm.hswOpenDue.isNone)

/-- VHORN is released: the boost is off and HSW open (R52, R142). -/
def State.hornOff (s : State) : State :=
  let s := (s.setFlag F.CONV_STATUS_HORN_ON false).setFlag F.CONV_STATUS_HORN_OK false
  let s := ((s.setFlag F.ALM_STATUS_HORN_OK false).setReg R.CONV_HORN_MEAS 0).refreshFold
  { s.setFlag F.ALM_STATUS_HSW false with
    alm := { s.alm with hornHold := none, hornFrom := none, hswOpenDue := none },
    conv := { s.conv with hornFailed := false, hswOcp := false } }

/-! ## The Tether converter's mode (R137 to R141) -/

/-- The guards of R140: a source carries VSYS or CELLOK is set (BAT_OV excepted, R169), no supplement, VSYS not low
(R150). -/
def State.sourceGuards (s : State) : Bool :=
  (s.flag F.SYS_STATE_FEED || (s.power.flag F.CONV_TET_CTRL_CELLOK && s.chg.fault != 4)) &&
    !s.flag F.PATH_STATUS_SUPPLEMENT && !s.conv.vsysLow

/-- The Tether converter may transfer no power: in a thermal shutdown (R462), and after a VSYS over-voltage trip (R123). -/
def State.tetStopped (s : State) : Bool := s.flag F.THM_STATUS_COOLING || s.flag F.PATH_STATUS_SYS_OVP

/-- The mode that R137 selects, VTET taken from the link's condition (R224); OFF in level mode (R254). -/
def State.tetWanted (s : State) : Nat :=
  let src := s.power.flag F.CONV_TET_CTRL_SRC
  if s.flag F.TET_STATUS_LEVEL then 0
  else if !s.tetStopped && src && s.sourceGuards && s.conv.shortRetry.isNone then 3
  else if !s.flag F.TET_STATUS_UP then 0
  else if !s.tetStopped && s.flag F.SRC_STATUS_TET_Q && s.power.flag F.SRC_EN_TET_EN && !src then 2
  else 1

/-- The mode the converter goes to next: between SINK and SOURCE it passes through at least 1 ms of LISTEN (R141). -/
def State.tetNext (s : State) : Nat :=
  let m := s.field F.CONV_STATUS_TET_MODE
  let w := s.tetWanted
  if m = w then m
  else if m = 1 && (w = 2 || w = 3) && s.conv.listenDue.isSome && !s.elapsed s.conv.listenDue then 1
  else if (m = 2 && w = 3) || (m = 3 && w = 2) then 1
  else w

/-- The Tether converter in a mode: shown, with TET_SINK; the stay in LISTEN timed from its entry out of SINK or SOURCE. -/
def State.setTetMode (s : State) (m : Nat) : State :=
  let old := s.field F.CONV_STATUS_TET_MODE
  let s := s.setField F.CONV_STATUS_TET_MODE m
  let s := s.setFlag F.SRC_STATUS_TET_SINK (m == 2)
  let due := if m = 1 && (old = 2 || old = 3) then s.timer (msTicks 1) else if m = 1 then s.conv.listenDue else none
  let s := if m = old then s else s.setReg R.CONV_TET_I 0
  { s with conv := { s.conv with listenDue := due, folded := s.conv.folded && m == 3 } }.refreshShed

/-! ## FEED and what follows it (R22, R25, R154) -/

/-- A source carries VSYS: an input switch is closed, or the Tether converter sinks (R22). -/
def State.fedNow (s : State) : Bool := s.path.closed.isSome || s.field F.CONV_STATUS_TET_MODE == 2

/-- FEED and the power state follow the sources (R22, R25, R26); in SAFE only FEED does. The charger's SUSP_SRC and
BATFET follow FEED, and without a source a sweep's excitation is clipped (R151). -/
def State.refreshFeed (s : State) : State :=
  let fed := s.fedNow
  let s := if s.flag F.SYS_STATE_FEED = fed then s else s.setFlag F.SYS_STATE_FEED fed
  let s := if s.inSafe then s else s.setPstate (if fed then 2 else 1)
  let s := (s.refreshSusSrc).refreshBatfet
  if fed then s else s.excClip

/-- One move of the Tether converter toward the mode R137 selects, with FEED after it (R141). -/
def State.tetMove (s : State) : State :=
  if s.tetNext = s.field F.CONV_STATUS_TET_MODE then s else (s.setTetMode s.tetNext).refreshFeed

/-! ## Ship requests (R27, R28) -/

/-- The first ship condition of R27 that fails, as R292 codes it; 0 when all hold. -/
def State.shipBlock (s : State) : Nat :=
  if s.field F.SYS_STATE_PSTATE != 1 then 1
  else if s.flag F.SRC_STATUS_VIN_Q || s.flag F.SRC_STATUS_VBUS_Q || s.flag F.SRC_STATUS_VPV_Q ||
      s.flag F.SRC_STATUS_TET_Q then 2
  else if s.flag F.TET_STATUS_INRANGE then 3
  else if s.flag F.SYS_STATE_ALARM then 4
  else if s.flag F.SYS_STATE_PROOF then 5
  else if s.flag F.ALM_STATUS_READY then 6
  else 0

/-- A ship request is refused or cancelled: the event and the record with its cause (R27, R474). -/
def State.shipRefuse (s : State) (cause : Nat) (req : Requester) : State :=
  ((s.event F.SYS_EVENT_SHIP_REFUSED).post K.SHIP_REFUSED [byte cause, byte req.code]).shipRequestsDone resRefused
    stRefused [byte cause]

/-- A ship request: refused where a condition fails, otherwise its 1.000 s begins; one that runs goes on (R26, R27). -/
def State.shipRequest (s : State) (req : Requester) : State :=
  if s.shipBlock = 0 then
    if s.boot.shipDue.isSome then s
    else { s with boot := { s.boot with shipDue := some (s.now + secTicks 1, req), shipArmed := none } }
  else s.shipRefuse s.shipBlock req

/-- A ship condition that fails during the 1.000 s cancels the request (R27). -/
def State.shipCheck (s : State) : State :=
  match s.boot.shipDue with
  | none => s
  | some (_, req) =>
    if s.shipBlock = 0 then s
    else { s with boot := { s.boot with shipDue := none } }.shipRefuse 7 req

/-- An armed request is dropped (R28). -/
def State.shipDrop (s : State) : State :=
  match s.boot.shipArmed with
  | none => s
  | some (_, req) => { s with boot := { s.boot with shipArmed := none } }.shipRefuse 8 req

/-- Source power changed: the Tether converter moves, FEED follows, a ship request is checked again. -/
def State.powerChanged (s : State) : State := ((s.refreshFeed).tetMove).shipCheck

end Sys2Proof.Machine
end

