-- ==== Sys2Proof/Machine/StallOps.lean ====
section
/-!
DEFINITION. The Stall table (R280 to R285): its entries in the Stall region of both banks, the cache of eight in front of
them, write-through and write-back.
-/

namespace Sys2Proof.Machine

/-- An entry that has been cleared. -/
def emptyStall : List Byte := List.replicate 64 0

/-- An entry's CRC is right, or nothing has ever been written there (R280). -/
def stallValid (b : List Byte) : Bool := b == emptyStall || natAt b 60 4 == crc32 (b.take 60)

/-- Both slots of an entry as one bank holds them (R281). -/
def State.stallCopy (s : State) (bank : Bank) (addr : Nat) : List Byte :=
  s.slot bank (288 + 2 * addr) ++ s.slot bank (288 + 2 * addr + 1)

/-- The entry as the region gives it: the copy whose CRC is right, the one with more UPDATES where both are; `none` when
both fail (R281). -/
def State.stallRegion (s : State) (addr : Nat) : Option (List Byte) :=
  let a := s.stallCopy .a addr
  let b := s.stallCopy .b addr
  let okA := !s.bankBad .a && stallValid a
  let okB := !s.bankBad .b && stallValid b
  if okA && okB then (if natAt a 52 4 < natAt b 52 4 then some b else some a)
  else if okA then some a
  else if okB then some b
  else none

/-- An entry written to the region: one more in UPDATES, its CRC anew, bank A and then bank B (R280, R281). -/
def stallSeal (b : List Byte) : List Byte :=
  let body := b.take 52 ++ beBytes 4 (natAt b 52 4 + 1) ++ (b.drop 56).take 4
  body ++ beBytes 4 (crc32 body)

/-- The slot writes of an entry. -/
def State.stallStore (s : State) (addr : Nat) (b : List Byte) : State :=
  s.writeSlots (mirrorWrites (288 + 2 * addr) [b.take 32, (b.drop 32).take 32])

/-- Bytes `i ..` of an entry replaced by `x`. -/
def setBytes (b : List Byte) (i : Nat) (x : List Byte) : List Byte := b.take i ++ x ++ b.drop (i + x.length)

/-- The retained records of a producer and type: sequence, seconds of the stamp, payload (R289, R305). -/
def State.recsOf (s : State) (prod typ : Nat) : List (Nat × Nat × List Byte) :=
  s.retained.filterMap fun x => match s.gather x.2.1 with
    | some slots =>
      if headCt (slots.headD []) % 0x2000 = prod * 256 + typ then
        some (x.1, natAt (slots.headD []) 5 4, recPayload slots)
      else none
    | none => none

/-- The record of the highest sequence. -/
def newestRec (l : List (Nat × Nat × List Byte)) : Option (Nat × Nat × List Byte) :=
  l.foldl (fun best x => match best with
    | none => some x
    | some b => if b.1 < x.1 then some x else some b) none

/-- The payload of the record a keep entry names, if it can still be read (R281, R306). -/
def State.keptPayload (s : State) (e : Nat) : Option (Nat × List Byte) :=
  match keepGet s.lgr.keep e with
  | none => none
  | some k => (s.gather k.idx).map fun sl => (k.seq, recPayload sl)

/-- The generations carried by the newer of the newest MKT_OFFER and the newest MKT_WITHDRAW record (R281). -/
def State.postedGens (s : State) : Nat × Nat :=
  match s.keptPayload 4, s.keptPayload 5 with
  | some (q, p), some (q', p') => if q < q' then (natAt p' 1 1, natAt p' 2 1) else (natAt p 1 1, natAt p 2 1)
  | some (_, p), none => (natAt p 1 1, natAt p 2 1)
  | none, some (_, p') => (natAt p' 1 1, natAt p' 2 1)
  | none, none => (0, 0)

/-- An entry whose two copies both fail is cleared but for SELF and HOSTTAG; an own entry takes generations 0x40 ahead of
those last posted (R281). -/
def State.stallRepair (s : State) (addr : Nat) : State :=
  match s.stallRegion addr with
  | some _ => s
  | none =>
    if s.ledgerDead then s else
      let old := if s.bankBad .a then s.stallCopy .b addr else s.stallCopy .a addr
      let self := bitOf (BitVec.ofNat 16 (natAt old 0 1)) 2
      let g := s.postedGens
      let og := (g.1 + 0x40) % 256
      let bg := (g.2 + 0x40) % 256
      let e := setBytes emptyStall 0 [if self then 4 else 0]
      let e := setBytes e 56 ((old.drop 56).take 2)
      let e := if self then setBytes (setBytes e 13 [byte og]) 35 [byte bg] else e
      (s.stallStore addr (stallSeal e)).post K.STALL_REPAIR
        [byte addr, boolByte self, if self then byte og else 0, if self then byte bg else 0]

/-- The unit's own held Tether address (R248, R249). -/
def State.ownAddr (s : State) : Option Nat :=
  if s.flag F.TET_ADDR_HELD then some (s.field F.TET_ADDR_ADDR) else none

/-- A resident entry. -/
def State.stallCached (s : State) (addr : Nat) : Option StallCell := s.mkt.cache.find? (fun c => c.addr == addr)

/-- The value of an entry that every reader sees (R284). -/
def State.stall (s : State) (addr : Nat) : List Byte :=
  match s.stallCached addr with
  | some c => c.bytes
  | none => (s.stallRegion addr).getD emptyStall

/-- A dirty entry written back (R283). -/
def State.writeBack (s : State) (c : StallCell) : State := s.stallStore c.addr (stallSeal c.bytes)

/-- The place to be reused: the least recently used clean entry, or the least recently used dirty one; never the own
entry (R282). -/
def State.victim (s : State) : Option StallCell :=
  let may := (s.mkt.cache.filter fun c => some c.addr != s.ownAddr).reverse
  match may.find? (fun c => !c.dirty) with
  | some c => some c
  | none => may.head?

/-- Room for one more entry: with eight resident a place is freed, a dirty victim written back first (R282). -/
def State.stallRoom (s : State) : State :=
  if s.mkt.cache.length < 8 then s
  else match s.victim with
    | none => s
    | some c =>
      let s := if c.dirty then s.writeBack c else s
      { s with mkt := { s.mkt with cache := s.mkt.cache.filter (fun x => x.addr != c.addr) } }

/-- An entry brought into the cache, or used again (R282). -/
def State.stallLoad (s : State) (addr : Nat) : State :=
  match s.stallCached addr with
  | some c => { s with mkt := { s.mkt with cache := c :: s.mkt.cache.filter (fun x => x.addr != addr) } }
  | none =>
    let s := (s.stallRoom).stallRepair addr
    { s with mkt := { s.mkt with cache := ⟨addr, (s.stallRegion addr).getD emptyStall, false⟩ :: s.mkt.cache } }

/-- The entry's new bytes put into the cache. -/
def State.stallPut (s : State) (addr : Nat) (b : List Byte) (dirty : Bool) : State :=
  { s with mkt := { s.mkt with cache := s.mkt.cache.map fun c => if c.addr = addr then ⟨addr, b, dirty⟩ else c } }

/-- The bytes of an entry whose change is written through (R283). -/
def marketBytes (b : List Byte) : List Byte := b.take 42 ++ (b.drop 56).take 2

/-- An entry changed by the link, the firmware or R285: a change of a market field is written through, a change of the
tallies waits for the write-back (R283). -/
def State.stallSet (s : State) (addr : Nat) (new : List Byte) : State :=
  let s := s.stallLoad addr
  let old := s.stall addr
  if new = old then s
  else if marketBytes new = marketBytes old then s.stallPut addr new true
  else
    let b := stallSeal new
    (s.stallStore addr b).stallPut addr b false

/-- Bytes `i ..` of an entry set (R283). -/
def State.stallBytes (s : State) (addr i : Nat) (x : List Byte) : State :=
  (s.stallLoad addr).stallSet addr (setBytes ((s.stallLoad addr).stall addr) i x)

/-- A number of `n` bytes at byte `i` of an entry. -/
def State.stallN (s : State) (addr i n : Nat) : Nat := natAt (s.stall addr) i n

/-- A tally of `n` bytes at byte `i` of an entry goes up by one, up to its largest value (R239, R262). -/
def State.stallCount (s : State) (addr i n : Nat) : State :=
  s.stallBytes addr i (beBytes n (min (s.stallN addr i n + 1) (256 ^ n - 1)))

/-- Every dirty entry written back (R283). -/
def State.writeBackAll (s : State) : State :=
  (s.mkt.cache.filter (·.dirty)).foldl (fun s c => (s.writeBack c).stallPut c.addr (stallSeal c.bytes) false) s

/-- The slot that write `j` of a write-back of these entries is to: two slots of each in bank A, then in bank B (R280,
R288). -/
def stallSlot (l : List StallCell) (j : Nat) : Nat :=
  match l[j / 4 % l.length]? with
  | some c => 288 + 2 * c.addr + j % 2
  | none => 288

/-- The timed write-back, and how its verifies went (R283, R302). -/
def State.writeBackTimed (s : State) (v : Verify) : State :=
  let l := s.mkt.cache.filter (·.dirty)
  if l.isEmpty then s else s.writeBackAll.verified v 3 (stallSlot l)

/-- The cache begun anew from the Stall region, the own entry resident (R282, R332). -/
def State.stallRebuild (s : State) : State :=
  let s := { s with mkt := { s.mkt with cache := [] } }
  match s.ownAddr with
  | some a => s.stallLoad a
  | none => s

/-- One bit of the FLAGS byte of an entry (R280). -/
def State.stallFlag (s : State) (addr bit : Nat) : Bool := bitOf (BitVec.ofNat 16 (s.stallN addr 0 1)) bit

/-- The FLAGS byte with one bit changed. -/
def State.setStallFlag (s : State) (addr bit : Nat) (x : Bool) : State :=
  s.stallBytes addr 0 [BitVec.ofNat 8 (setBitOf (BitVec.ofNat 16 (s.stallN addr 0 1)) bit x).toNat]

/-- The time fields of an entry: system seconds, or 0 while local time was not valid (R280). -/
def State.stallTime (s : State) : List Byte :=
  if s.flag F.CLK_STATUS_TIMEVALID then beBytes 4 (s.clk.time / 65536) else [0, 0, 0, 0]

end Sys2Proof.Machine
end

