-- ==== Sys2Proof/Machine/LinkOps.lean ====
section
/-!
DEFINITION. The Tether link's shared operations: the places of pending frames (R232), the frames the link builds itself
(R243, R244), acceptance and its counters (R225, R237 to R239), the address and its assignment (R248 to R252).
-/

namespace Sys2Proof.Machine

/-! ## Pending frames (R227, R230, R232) -/

/-- A frame's identifier: class, address, subtype (R227). -/
def frameIdent (f : Frame) : Nat := f.cls * 256 + f.addr * 4 + f.sub

/-! ## A frame's bits (R227 to R229), true for a recessive 1 -/

/-- The lowest `n` bits of a number, most significant first. -/
def bitsOf (n x : Nat) : List Bool := (List.range n).map fun k => x.testBit (n - 1 - k)

/-- The number that bits spell, most significant first. -/
def ofBits (l : List Bool) : Nat := l.foldl (fun a b => 2 * a + (if b then 1 else 0)) 0

/-- H: the identifier × 16 + the length code (R229). -/
def frameH (f : Frame) : Nat := frameIdent f * 16 + f.data.length

/-- The CRC-16 of a frame, over H and the data (R229). -/
def frameCrc (f : Frame) : Nat := crc16 (beBytes 2 (frameH f) ++ f.data)

/-- The stuffed fields of a frame before stuffing: SOF, identifier, length, data, CRC (R227). -/
def frameBits (f : Frame) : List Bool :=
  false :: (bitsOf 15 (frameH f) ++ f.data.flatMap (fun b => bitsOf 8 b.toNat) ++ bitsOf 16 (frameCrc f))

/-- Stuffing (R228): after `run` bits equal to `last`, an opposite one follows every fifth of a run. -/
def stuffFrom (last : Bool) (run : Nat) : List Bool → List Bool
  | [] => if run = 5 then [!last] else []
  | b :: l =>
    if run = 5 then (!last) :: b :: stuffFrom b (if b = !last then 2 else 1) l
    else b :: stuffFrom b (if b = last then run + 1 else 1) l

/-- The stuffed fields as sent (R228). -/
def stuff (l : List Bool) : List Bool := stuffFrom true 0 l

/-- Stuff bits removed; false with six equal bits in a row, at which the list ends (R228). -/
def unstuffFrom (last : Bool) (run : Nat) : List Bool → List Bool × Bool
  | [] => ([], true)
  | b :: l =>
    if run = 5 then (if b = last then ([], false) else unstuffFrom b 1 l)
    else
      let r := unstuffFrom b (if b = last then run + 1 else 1) l
      (b :: r.1, r.2)

/-- The fields that received bits spell, and whether their stuffing is right (R228). -/
def unstuff (l : List Bool) : List Bool × Bool := unstuffFrom true 0 l

/-- A field of received bits: `n` bits from place `i` on, SOF at place 0 (R227). -/
def rxField (l : List Bool) (i n : Nat) : Nat := ofBits (((unstuff l).1.drop i).take n)

/-- A valid length code has been decoded (R235). -/
def rxLengthOk (l : List Bool) : Bool := decide (16 ≤ (unstuff l).1.length) && decide (rxField l 12 4 ≤ 8)

/-- The bytes that the CRC of received bits covers (R229). -/
def rxBytes (l : List Bool) : List Byte :=
  beBytes 2 (rxField l 1 15) ++ (List.range (rxField l 12 4)).map fun k => byte (rxField l (16 + 8 * k) 8)

/-- The error in received bits (R234); none where they are a good frame, or end too early to tell. -/
def rxError (l : List Bool) (carrier : Bool) : Option RxError :=
  let n := rxField l 12 4
  let u := unstuff l
  if 16 ≤ u.1.length ∧ 8 < n then some .form
  else if !u.2 then some .stuff
  else if decide (32 + 8 * n ≤ u.1.length) && crc16 (rxBytes l) != rxField l (16 + 8 * n) 16 then some .crc
  else if carrier then some .form
  else none

/-! ## Places -/

/-- The unit works in frames mode: level mode sends and decodes nothing (R254). -/
def State.framesMode (s : State) : Bool := !s.flag F.TET_STATUS_LEVEL

/-- The unit is under auto-assignment (R248). -/
def State.autoAddr (s : State) : Bool := s.flag F.TET_ADDR_AUTO

/-- The address of ALARM, HUSH and CLEAR frames: the held one, the candidate, or WB_UID modulo 64 (R252). -/
def State.alarmAddr (s : State) : Nat :=
  match s.ownAddr with
  | some a => a
  | none => match s.link.cand with
    | some a => a
    | none => Config.wbUid.toNat % 64

/-- The alarm slot takes an ALARM copy, which replaces a waiting one (R46, R232). -/
def State.postAlarm (s : State) (sub : Nat) (data : Byte) : State :=
  if s.framesMode then
    { s with link := { s.link with alarmSlot := some ⟨⟨0, s.alarmAddr, sub, [data]⟩, 0, s.now⟩ } }
  else s

/-- The last `n` of a list with one more at its end. -/
def pushLast (n : Nat) (l : List TxFrame) (f : TxFrame) : List TxFrame :=
  let l := l ++ [f]
  l.drop (l.length - n)

/-- The hush slot takes a HUSH (subtype 0) or CLEAR (subtype 1); the oldest of a full slot is replaced (R232). -/
def State.postHush (s : State) (sub : Nat) : State :=
  if s.framesMode then
    { s with link := { s.link with hushSlot := pushLast 2 s.link.hushSlot ⟨⟨1, s.alarmAddr, sub, []⟩, 0, s.now⟩ } }
  else s

/-- A heartbeat (R242). -/
def isHeartbeat (f : Frame) : Bool := f.cls == 6 && f.sub == 1

/-- A CLAIM: the identifier of a census request with eight data bytes (R242). -/
def isClaim (f : Frame) : Bool := f.cls == 6 && f.sub == 2 && f.data.length == 8

/-- The status slot takes a frame the link built; a newer heartbeat replaces a waiting one (R232). -/
def State.postStatus (s : State) (f : Frame) : State :=
  if s.framesMode then
    let l := if isHeartbeat f then s.link.statusSlot.filter (fun x => !isHeartbeat x.frame) else s.link.statusSlot
    { s with link := { s.link with statusSlot := pushLast 2 l ⟨f, 0, s.now⟩ } }
  else s

/-- The TX queue has room for one more frame (R232). -/
def State.txRoom (s : State) : Bool := decide (s.link.txq.length < 16)

/-- The firmware posts a frame; a post into a full queue is refused (R232). -/
def State.postTx (s : State) (cls sub : Nat) (data : List Byte) : State :=
  match s.ownAddr with
  | none => s
  | some a =>
    if !s.framesMode || !s.link.txOn then s
    else if s.txRoom then { s with link := { s.link with txq := s.link.txq ++ [⟨⟨cls, a, sub, data⟩, 0, s.now⟩] } }
    else s.event F.TET_EVENT_TX_FULL

/-- Every pending frame, place by place. -/
def State.pendingFrames (s : State) : List TxFrame :=
  s.link.alarmSlot.toList ++ s.link.hushSlot ++ s.link.statusSlot ++ s.link.txq

/-- The first pending frame equal to `f` taken out of a list. -/
def dropFrame (f : Frame) : List TxFrame → List TxFrame
  | [] => []
  | x :: l => if x.frame = f then l else x :: dropFrame f l

/-- A frame leaves the place it waits in. -/
def State.unpend (s : State) (f : Frame) : State :=
  let l := s.link
  if (l.alarmSlot.map TxFrame.frame) = some f then { s with link := { l with alarmSlot := none } }
  else if l.hushSlot.any (fun x => x.frame == f) then { s with link := { l with hushSlot := dropFrame f l.hushSlot } }
  else if l.statusSlot.any (fun x => x.frame == f) then
    { s with link := { l with statusSlot := dropFrame f l.statusSlot } }
  else { s with link := { l with txq := dropFrame f l.txq } }

/-- The attempts of the first pending frame equal to `f`, in a list. -/
def retry (f : Frame) : List TxFrame → List TxFrame
  | [] => []
  | x :: l => if x.frame = f then { x with tries := x.tries + 1 } :: l else x :: retry f l

/-- One more attempt of a pending frame has failed (R236). -/
def State.retryFrame (s : State) (f : Frame) : State :=
  let l := s.link
  if (l.alarmSlot.map TxFrame.frame) = some f then
    { s with link := { l with alarmSlot := l.alarmSlot.map fun x => { x with tries := x.tries + 1 } } }
  else if l.hushSlot.any (fun x => x.frame == f) then { s with link := { l with hushSlot := retry f l.hushSlot } }
  else if l.statusSlot.any (fun x => x.frame == f) then
    { s with link := { l with statusSlot := retry f l.statusSlot } }
  else { s with link := { l with txq := retry f l.txq } }

/-- The attempts made so far for a pending frame. -/
def State.triesOf (s : State) (f : Frame) : Nat :=
  match s.pendingFrames.find? (fun x => x.frame == f) with
  | some x => x.tries
  | none => 0

/-- Starts of frames of classes 2 to 7 in the last 1.000 s (R240). -/
def State.recentStarts (s : State) : List Nat := s.link.starts.filter fun t => s.now < t + secTicks 1

/-- The address lets a pending frame go: alarms and hush frames always; the others under the address held, and a CLAIM for the
candidate (R252). -/
def State.addrLets (s : State) (f : Frame) : Bool :=
  decide (f.cls < 2) || s.ownAddr == some f.addr || (isClaim f && s.link.cand == some f.addr)

/-- A pending frame may start now: the link is up and not silenced; transmission has begun, for alarm and hush frames also through a
warm reset; a restrained unit starts only classes 0, 1 and 6; in SAFE only alarms, heartbeats and faults are sent; without the
policy core no market frame; the guardian lets 24 frames of classes 2 to 7 start in any second (R21, R23, R224, R238, R240, R241,
R253). -/
def State.mayStart (s : State) (f : Frame) : Bool :=
  s.live && s.framesMode && (if f.cls < 2 then s.link.alarmOn else s.link.txOn) && s.flag F.TET_STATUS_UP &&
    !s.flag F.TET_STATUS_SILENCED && s.addrLets f &&
    (!s.flag F.TET_STATUS_RESTRAINED || f.cls == 0 || f.cls == 1 || f.cls == 6) &&
    (!s.inSafe || decide (f.cls < 2) || (f.cls == 6 && (f.sub == 1 || f.sub == 3))) &&
    (s.boot.core || !decide (2 ≤ f.cls ∧ f.cls ≤ 5)) &&
    (decide (f.cls < 2) || decide (s.recentStarts.length < 24))

/-- The earlier of two pending frames: the lower identifier, then the earlier posting (R232). -/
def firstFrame (a b : TxFrame) : TxFrame :=
  if frameIdent b.frame < frameIdent a.frame || (frameIdent b.frame == frameIdent a.frame && decide (b.posted < a.posted))
  then b else a

/-- The pending frame that the unit sends next (R232). -/
def State.nextFrame (s : State) : Option Frame :=
  match s.pendingFrames.filter fun x => s.mayStart x.frame with
  | [] => none
  | x :: l => some (l.foldl firstFrame x).frame

/-- A SYNC (R242). -/
def isSync (f : Frame) : Bool := f.cls == 6 && f.sub == 0

/-- A frame on the bus is the pending one: the same, but that a SYNC takes the time of its own SOF, at most a longest frame ago,
5.08 ms or 333 units of 1/65,536 s (R229, R242). -/
def State.isSending (s : State) (p f : Frame) : Bool :=
  if isSync p then
    isSync f && p.addr == f.addr && f.data.length == 6 &&
      decide (natAt f.data 0 6 ≤ s.clk.time ∧ s.clk.time ≤ natAt f.data 0 6 + 333)
  else p == f

/-- The pending frame that a frame on the bus is, where it is the one to be sent next (R232, R242). -/
def State.sending (s : State) (f : Frame) : Option Frame := s.nextFrame.filter fun p => s.isSending p f

/-- A frame has started: one of classes 2 to 7 counts against the guardian's budget (R240). -/
def State.countStart (s : State) (f : Frame) : State :=
  if 2 ≤ f.cls then { s with link := { s.link with starts := s.recentStarts ++ [s.now] } } else s

/-! ## The frames the link builds itself (R243, R244) -/

/-- The guardian's trips of the last hour (R241, R244). -/
def State.tripsInHour (s : State) : Nat := (s.link.trips.filter fun t => decide (s.now < t + secTicks 3600)).length

/-- The lowest fault code of R244 in force, 0x00 for none. -/
def State.faultCode (s : State) : Nat :=
  if s.flag F.ALM_STATUS_DISCB then 0x10
  else if s.conv.hornFailed then 0x11
  else if s.flag F.TET_STATUS_CONFLICT then 0x20
  else if 0 < s.tripsInHour then 0x21
  else if s.link.relistenDue.isSome then 0x22
  else if s.inSafe then 0x30
  else 0x00

/-- Eight flags as a byte, bit 0 first. -/
def flagsByte (l : List Bool) : Byte := byte (l.zipIdx.foldl (fun a p => if p.1 then a + 2 ^ p.2 else a) 0)

/-- The four bytes of a heartbeat, from live status (R243). -/
def State.heartbeatData (s : State) : List Byte :=
  [flagsByte [s.flag F.SYS_STATE_ALARM, s.flag F.SYS_STATE_PROOF, s.inSafe, s.flag F.SYS_STATE_FEED,
     s.field F.CONV_STATUS_TET_MODE == 3, s.field F.CONV_STATUS_TET_MODE == 2, s.flag F.TET_STATUS_RESTRAINED,
     s.autoAddr],
   byte s.faultCode,
   byte (s.field F.VDT_STATUS_RESERVE + 4 * s.field F.VDT_STATUS_LIFE +
     16 * (if s.flag F.VDT_STATUS_CELL then 1 else 0) + 32 * ((s.boot.image.map ImageInfo.unitType).getD 0 % 4)),
   boolByte (s.part == .qtl6412)]

/-- A heartbeat posted by a unit that holds an address (R243, R245). -/
def State.postHeartbeat (s : State) : State :=
  match s.ownAddr with
  | some a => s.postStatus ⟨6, a, 1, s.heartbeatData⟩
  | none => s

/-- A FAULT frame posted by a unit that holds an address (R244, R252). -/
def State.postFault (s : State) (code detail : Nat) : State :=
  match s.ownAddr with
  | some a => s.postStatus ⟨6, a, 3, [byte code, byte detail]⟩
  | none => s

/-- A silence of the guardian ends (R241): the transmitter works again, and a FAULT frame tells of the trips. -/
def State.silenceOver (s : State) : State :=
  let s := { s with link := { s.link with silenceDue := none } }.setFlag F.TET_STATUS_SILENCED false
  s.postFault 0x21 s.tripsInHour

/-- A CLAIM posted for an address (R249). -/
def State.postClaim (s : State) (a : Nat) : State :=
  ({ s with link := { s.link with claimAt := none } }).postStatus ⟨6, a, 2, beBytes 8 Config.wbUid.toNat⟩

/-! ## Error counters (R237, R238) -/

/-- TET_REC takes a value; receive-passive from 96 until below 64 (R238). -/
def State.setRec (s : State) (x : Nat) : State :=
  let s := s.setReg R.TET_REC (BitVec.ofNat 16 (min x 255))
  if 96 ≤ x then s.setFlag F.TET_STATUS_RXPASSIVE true
  else if x < 64 then s.setFlag F.TET_STATUS_RXPASSIVE false
  else s

/-- TET_TEC takes a value; restrained from 128 until below 96, its entry recorded (R238). -/
def State.setTec (s : State) (x : Nat) : State :=
  let s := s.setReg R.TET_TEC (BitVec.ofNat 16 (min x 255))
  if 128 ≤ x then
    if s.flag F.TET_STATUS_RESTRAINED then s
    else ((s.setFlag F.TET_STATUS_RESTRAINED true).event F.TET_EVENT_RESTRAIN).post K.TET_RESTRAIN
      [byte (min x 255), byte (s.regN R.TET_REC)]
  else if x < 96 then s.setFlag F.TET_STATUS_RESTRAINED false
  else s

/-- An error counted in TET_ERRCNT0 to 4, as an event and into the TET_ERR tally (R239). -/
def State.linkError (s : State) (cnt : Nat) : State := ((s.bump cnt 1).event F.TET_EVENT_ERR).tally K.TET_ERR

/-! ## The receive threshold (R225) -/

/-- The target of the threshold from the last 16 accepted frames, in mV. -/
def thresholdTarget (l : List Carrier) : Nat :=
  let amp := l.foldl (fun m c => min m c.amp) 0xFFFF
  let noise := l.foldl (fun t c => t + c.noise) 0 / max 1 l.length
  clampNat 60 300 (max (35 * amp / 100) (2 * noise))

/-- A value moved toward another by at most 20. -/
def stepToward (x target : Nat) : Nat :=
  if x < target then min target (x + 20) else max target (x - 20)

/-- What an accepted frame does to the threshold and the figures shown of it (R225, R256). -/
def State.acceptCarrier (s : State) (c : Carrier) : State :=
  let l := (c :: s.link.carriers).take 16
  let s := { s with link := { s.link with carriers := l, acceptAt := s.now } }
  let s := s.setReg R.TET_RXTHR (BitVec.ofNat 16 (stepToward (s.regN R.TET_RXTHR) (thresholdTarget l)))
  let s := s.setReg R.TET_SIGAMP (BitVec.ofNat 16 (fit 12 (l.foldl (fun m c => min m c.amp) (l.headD ⟨0, 0⟩).amp) % 4096))
  s.setReg R.TET_NOISE (BitVec.ofNat 16 (fit 9 (l.foldl (fun t c => t + c.noise) 0 / max 1 l.length) % 512))

/-- The threshold back at 120 mV (R225); the next 60 s count from now. -/
def State.resetThreshold (s : State) : State :=
  ({ s with link := { s.link with acceptAt := s.now } }).setReg R.TET_RXTHR 120

/-! ## Address assignment (R248 to R252) -/

/-- Pending alarm and hush frames carry the address now in use, and so do queued frames once one is held (R252). -/
def State.retarget (s : State) : State :=
  let re := fun a (x : TxFrame) => { x with frame := { x.frame with addr := a } }
  let l := { s.link with alarmSlot := s.link.alarmSlot.map (re s.alarmAddr),
                         hushSlot := s.link.hushSlot.map (re s.alarmAddr) }
  { s with link := match s.ownAddr with
    | some a => { l with txq := l.txq.map (re a) }
    | none => l }

/-- The HELD bit in TET_ADDR and TET_STATUS. -/
def State.setHeld (s : State) (x : Bool) : State := (s.setFlag F.TET_ADDR_HELD x).setFlag F.TET_STATUS_HELD x

/-- The lowest address not heard, searching upward from WB_UID modulo 64 and wrapping past 63 (R249). -/
def State.freeAddr (s : State) : Option Nat :=
  ((List.range 64).map fun k => (Config.wbUid.toNat + k) % 64).find? fun a => !s.link.heard.contains a

/-- A candidate is taken and claimed; with every address heard the unit holds none, and listens again after 10 min
(R249). -/
def State.chooseCand (s : State) (how : Nat) : State :=
  match s.freeAddr with
  | some a => ((({ s with link := { s.link with cand := some a, how := how } }).setField F.TET_ADDR_ADDR a).retarget).postClaim a
  | none => (({ s with link := { s.link with cand := none, relistenDue := s.timer (secTicks 600) } }).retarget).post
      K.ADDR_FULL []

/-- The unit yields an address: it marks it as taken and chooses a new candidate without listening (R250). -/
def State.yieldAddr (s : State) (a : Nat) : State :=
  let s := if s.ownAddr = some a then { s with link := { s.link with prevAddr := some a } }.setHeld false else s
  let l := { s.link with heard := a :: s.link.heard, cand := none, claimAt := none, statusSlot := [] }
  { s with link := l }.chooseCand 2

/-- Listening for 35 s, with nothing heard yet (R249). -/
def State.startListening (s : State) : State :=
  { s with link := { s.link with heard := [], cand := none, claimAt := none, relistenDue := none,
                                 listenDue := s.timer (secTicks 35) } }.setFlag F.TET_STATUS_LISTENWIN true

/-- An address becomes the own one: shown, its entry marked SELF and resident, with the generations the unit has used
(R248, R261, R280, R282). -/
def State.holdAddr (s : State) (a : Nat) : State :=
  let s := (s.setField F.TET_ADDR_ADDR a).setHeld true
  let gens := match s.link.prevAddr with
    | some p => if p = a then none else some (s.stallN p 13 1, s.stallN p 35 1)
    | none => none
  let s := match s.link.prevAddr with
    | some p => if p = a then s else s.setStallFlag p 2 false
    | none => s
  let s := match gens with
    | some g => (s.stallBytes a 13 [byte g.1]).stallBytes a 35 [byte g.2]
    | none => s
  let s := (s.setStallFlag a 2 true).setStallFlag a 3 s.autoAddr
  ({ s with link := { s.link with prevAddr := some a, cand := none, claimAt := none } }).retarget

/-- An address conflict at a fixed address (R251): reported once, the address kept. -/
def State.fixedConflict (s : State) (f : Frame) : State :=
  if s.autoAddr || s.ownAddr != some f.addr || s.flag F.TET_STATUS_CONFLICT then s
  else
    let s := ((s.setFlag F.TET_STATUS_CONFLICT true).event F.TET_EVENT_CONFLICT).post K.ADDR_CONFLICT
      [byte f.addr, byte (f.cls * 4 + f.sub)]
    s.postFault 0x20 f.addr

/-- Conflicts found in an accepted frame (R251): under auto-assignment the unit yields; at a fixed address it reports the
conflict. -/
def State.addrConflict (s : State) (f : Frame) : State :=
  if s.autoAddr then
    if s.ownAddr = some f.addr || s.link.cand = some f.addr then s.yieldAddr f.addr else s
  else s.fixedConflict f

/-- A frame heard while the unit looks for an address is noted (R249). -/
def State.noteHeard (s : State) (f : Frame) : State :=
  if s.flag F.TET_STATUS_LISTENWIN && !s.link.heard.contains f.addr then
    { s with link := { s.link with heard := f.addr :: s.link.heard } }
  else s

/-! ## Acceptance (R225, R235, R237, R239) -/

/-- A receiver works: the link is up in frames mode (R224, R254). -/
def State.receives (s : State) : Bool := s.live && s.framesMode && s.flag F.TET_STATUS_UP

/-- What every accepted frame does: it is counted, TET_REC falls, the threshold follows, the sender's entry tallies it,
and an address in it is noted (R225, R237, R239, R249). -/
def State.acceptFrame (s : State) (f : Frame) (c : Carrier) : State :=
  let s := (s.bump R.TET_RXCNT 1).setRec (s.regN R.TET_REC - 1)
  let s := (s.acceptCarrier c).stallCount f.addr 42 4
  let s := (s.setStallFlag f.addr 0 true).noteHeard f
  s.event F.TET_EVENT_RX

/-- A frame whose length does not match its identifier is discarded after acceptance and counts in TET_ERRCNT2 (R242). -/
def State.discardFrame (s : State) : State := s.bump R.TET_ERRCNT2 1

/-! ## Peers (R246) -/

/-- The track kept of a peer. -/
def State.peerTrack (s : State) (a : Nat) : Option PeerTrack := s.link.peers.find? (fun p => p.addr == a)

/-- A peer's track replaced. -/
def State.setPeerTrack (s : State) (p : PeerTrack) : State :=
  { s with link := { s.link with peers := s.link.peers.filter (fun x => x.addr != p.addr) ++ [p] } }

end Sys2Proof.Machine
end

