-- ==== Sys2Proof/Machine/ClkOps.lean ====
section
/-!
DEFINITION. System time and local time (R447 to R449), how system time is set (R448), and what changes its source.
-/

namespace Sys2Proof.Machine

/-! ## The calendar (R447, R449) -/

/-- The weekday of a day counted from 2000-01-01, a Saturday: 0 Monday to 6 Sunday. -/
def weekday (d : Nat) : Nat := (d + 5) % 7

/-- The year, counted from 2000, in which a day lies: every fourth year is a leap year through 2068. -/
def yearOf (d : Nat) : Nat :=
  let r := d % 1461
  4 * (d / 1461) + (if r < 366 then 0 else 1 + (r - 366) / 365)

/-- The first day of a year. -/
def yearStart (y : Nat) : Nat := y / 4 * 1461 + (if y % 4 = 0 then 0 else 366 + (y % 4 - 1) * 365)

/-- One more day from 1 March on in a leap year. -/
def leapDay (y : Nat) : Nat := if y % 4 = 0 then 1 else 0

/-- The last Sunday at or before a day. -/
def sundayBefore (d : Nat) : Nat := d - (weekday d + 1) % 7

/-- The first Sunday at or after a day. -/
def sundayFrom (d : Nat) : Nat := d + (6 - weekday d) % 7

/-- Daylight saving is in force (R449): rule 0b01 European, 0b10 North American; `utc` in seconds, `tz` in seconds. -/
def dstInForce (rule utc : Nat) (tz : Int) : Bool :=
  let y := yearOf (utc / 86400)
  let j := yearStart y + leapDay y
  match rule with
  | 1 => decide (sundayBefore (j + 89) * 86400 + 3600 ≤ utc ∧ utc < sundayBefore (j + 303) * 86400 + 3600)
  | 2 =>
    let l : Int := utc + tz
    decide (((sundayFrom (j + 59) + 7) * 86400 + 7200 : Int) ≤ l ∧ l < (sundayFrom (j + 304) * 86400 + 3600 : Int))
  | _ => false

/-- System time is valid, and with it local time (R447, R449). -/
def State.timeValid (s : State) : Bool := s.flag F.CLK_STATUS_TIMEVALID

/-- Daylight saving in force now. -/
def State.dstNow (s : State) : Bool := dstInForce s.clk.dst (s.clk.time / 65536) (s.clk.tz * 900)

/-- Local time in seconds at a second of system time (R449), counted from 1999-12-25 00:00, a whole week before the origin of
system time, so that no offset makes it negative. -/
def State.localOf (s : State) (sec : Nat) : Nat :=
  ((sec : Int) + 604800 + s.clk.tz * 900 + (if dstInForce s.clk.dst sec (s.clk.tz * 900) then 3600 else 0)).toNat

/-- Local time now. -/
def State.localSec (s : State) : Nat := s.localOf (s.clk.time / 65536)

/-- The calendar day of local time at a second of system time. -/
def State.dayOf (s : State) (sec : Nat) : Nat := s.localOf sec / 86400

/-- The calendar day of local time. -/
def State.localDay (s : State) : Nat := s.localSec / 86400

/-- Minutes since local midnight. -/
def State.localMin (s : State) : Nat := s.localSec % 86400 / 60

/-- The CLK_LOCAL word (R465). -/
def State.clkLocal (s : State) : Word :=
  if s.timeValid then
    BitVec.ofNat 16 (s.localMin + 2048 * weekday s.localDay + (if s.dstNow then 16384 else 0) + 32768)
  else 0

/-! ## Setting the time (R448, R450) -/

/-- The source of system time (R465): 0 none, 1 local, 2 SYNC. -/
def State.tsrc (s : State) : Nat := s.field F.CLK_STATUS_TSRC

/-- An integer kept within the range of `n` bytes, two's complement (R465: CLK_OFFSET saturates). -/
def clampSigned (n : Nat) (x : Int) : Int := max (-(2 ^ (8 * n - 1))) (min (2 ^ (8 * n - 1) - 1) x)

/-- System time stepped (R448): the Ledger is handed TIME_STEP with the old and the new stamp (R294). -/
def State.stepTime (s : State) (t : Nat) : State :=
  let old := s.stampBytes
  let s := if s.timeValid then s else (s.setFlag F.CLK_STATUS_TIMEVALID true).event F.CLK_EVENT_TIME_VALID
  let s := { s with clk := { s.clk with time := t, slew := 0 } }
  ((s.setFlag F.CLK_STATUS_SLEW false).event F.CLK_EVENT_TIME_STEP).post K.TIME_STEP (old ++ s.stampBytes)

/-- System time set to `t`, in 1/65,536 s (R448): a step when it was not valid or differs by more than 1 s, otherwise a
slew; an exact agreement changes nothing. -/
def State.setTime (s : State) (t : Nat) : State :=
  let d : Int := (t : Int) - s.clk.time
  if !s.timeValid || d > 65536 || d < -65536 then s.stepTime t
  else { s with clk := { s.clk with slew := d } }.setFlag F.CLK_STATUS_SLEW (d != 0)

/-- A change of TSRC is recorded with the offset in ms (R464). -/
def State.setTsrc (s : State) (src sender : Nat) (offset : Int) : State :=
  if s.tsrc = src then s
  else (s.setField F.CLK_STATUS_TSRC src).post K.TIME_SET ([byte src, byte sender] ++ beSigned 4 offset)

/-- The difference in ms between a time to be set and the present one, as shown (R447, R464). -/
def State.offsetMs (s : State) (t : Nat) : Int :=
  let shown : Int := if s.timeValid then s.clk.time else 0x800000000000 + s.now * 2
  ((t : Int) - shown) * 1000 / 65536

/-! ## The tick (R447, R448, R449) -/

/-- What one AON tick adds to system time: two, one more or less where a slew moves it, at 1 ms in each second (R448). -/
def State.timeStep (s : State) : Nat × Int :=
  if s.now % 500 = 0 then
    if 0 < s.clk.slew then (3, s.clk.slew - 1)
    else if s.clk.slew < 0 then (1, s.clk.slew + 1)
    else (2, 0)
  else (2, s.clk.slew)

/-- CLK_TZ, CLK_CFG.DST and VDT_CURFEW come into force at a minute boundary of local time, or at once without valid time
(R221, R449, R466). -/
def State.minuteBoundary (s : State) : State :=
  let tz := (BitVec.ofNat 8 (s.aonReg R.CLK_TZ).toNat).toInt
  { s with clk := { s.clk with tz := tz, dst := fieldOf (s.aonReg R.CLK_CFG) 4 2 },
           vdt := { s.vdt with curfew := s.reg R.VDT_CURFEW } }

/-- One AON tick passes: the tick count, system time and a running slew (R447, R448). -/
def State.tick (s : State) : State :=
  let s := { s with now := s.now + 1 }
  let (d, slew) := s.timeStep
  let before := s.clk.time
  let s := { s with clk := { s.clk with time := before + d, slew := slew } }
  let s := if slew = 0 then s.setFlag F.CLK_STATUS_SLEW false else s
  if !s.timeValid || before / 65536 / 60 != s.clk.time / 65536 / 60 then s.minuteBoundary else s

end Sys2Proof.Machine
end

