-- ==== Sys2Proof/Machine/Sha.lean ====
section
/-!
DEFINITION. SHA-256 and HMAC-SHA-256, as FIPS 180-4 and R197 name them: the tag of a Weighbridge record and the digests
of R97.
-/

namespace Sys2Proof.Machine

/-- A 32-bit word of SHA-256. -/
abbrev W32 := BitVec 32

/-- The primes up to 311, of which there are sixty-four. -/
def firstPrimes : List Nat :=
  (List.range 312).filter fun p => decide (2 ≤ p) && [2, 3, 5, 7, 11, 13, 17].all fun d => p == d || p % d != 0

/-- The greatest number below `r + 2 ^ bits` whose `k`-th power is at most `n`, where that of `r` is. -/
def rootFrom (k n : Nat) : Nat → Nat → Nat
  | 0, r => r
  | bits + 1, r => rootFrom k n bits (if (r + 2 ^ bits) ^ k ≤ n then r + 2 ^ bits else r)

/-- The first thirty-two bits of the fractional part of the `k`-th root of a prime, whose whole part is below eight. -/
def rootWord (k p : Nat) : W32 := BitVec.ofNat 32 (rootFrom k (p * 2 ^ (32 * k)) 35 0)

/-- The round constants: the cube roots of the first sixty-four primes, PRESUMED from FIPS 180-4, to which R197 refers. -/
def shaK : List W32 := firstPrimes.map (rootWord 3)

/-- The eight words of a hash in progress. -/
structure ShaState where
  a : W32
  b : W32
  c : W32
  d : W32
  e : W32
  f : W32
  g : W32
  h : W32
  deriving DecidableEq, Repr

/-- Eight words as a hash in progress. -/
def shaOf (l : List W32) : ShaState :=
  ⟨l.getD 0 0, l.getD 1 0, l.getD 2 0, l.getD 3 0, l.getD 4 0, l.getD 5 0, l.getD 6 0, l.getD 7 0⟩

/-- The initial hash value: the square roots of the first eight primes, PRESUMED from FIPS 180-4. -/
def shaInit : ShaState := shaOf ((firstPrimes.take 8).map (rootWord 2))

/-- The message schedule, newest word first: sixteen words of the block extended by `n` more. -/
def shaSchedule : Nat → List W32 → List W32
  | 0, w => w
  | n + 1, w =>
    let w15 := w.getD 14 0
    let w2 := w.getD 1 0
    let s0 := w15.rotateRight 7 ^^^ w15.rotateRight 18 ^^^ (w15 >>> 3)
    let s1 := w2.rotateRight 17 ^^^ w2.rotateRight 19 ^^^ (w2 >>> 10)
    shaSchedule n ((w.getD 15 0 + s0 + w.getD 6 0 + s1) :: w)

/-- One round. -/
def shaRound (s : ShaState) (kw : W32) : ShaState :=
  let s1 := s.e.rotateRight 6 ^^^ s.e.rotateRight 11 ^^^ s.e.rotateRight 25
  let ch := (s.e &&& s.f) ^^^ (~~~s.e &&& s.g)
  let t1 := s.h + s1 + ch + kw
  let s0 := s.a.rotateRight 2 ^^^ s.a.rotateRight 13 ^^^ s.a.rotateRight 22
  let maj := (s.a &&& s.b) ^^^ (s.a &&& s.c) ^^^ (s.b &&& s.c)
  ⟨t1 + s0 + maj, s.a, s.b, s.c, s.d + t1, s.e, s.f, s.g⟩

/-- The sixteen words of a 64-byte block. -/
def blockWords (b : List Byte) : List W32 := (List.range 16).map fun i => BitVec.ofNat 32 (natAt b (4 * i) 4)

/-- One block taken into the hash. -/
def shaBlock (s : ShaState) (b : List Byte) : ShaState :=
  let w := (shaSchedule 48 (blockWords b).reverse).reverse
  let t := (shaK.zip w).foldl (fun s kw => shaRound s (kw.1 + kw.2)) s
  ⟨s.a + t.a, s.b + t.b, s.c + t.c, s.d + t.d, s.e + t.e, s.f + t.f, s.g + t.g, s.h + t.h⟩

/-- The padded message of a byte string. -/
def shaPad (m : List Byte) : List Byte :=
  let z := (119 - m.length % 64) % 64
  m ++ [0x80] ++ List.replicate z 0 ++ beBytes 8 (8 * m.length)

/-- The blocks of a padded message taken in turn. -/
def shaBlocks : Nat → List Byte → ShaState → ShaState
  | 0, _, s => s
  | n + 1, m, s => shaBlocks n (m.drop 64) (shaBlock s (m.take 64))

/-- SHA-256 of a byte string, 32 bytes. -/
def sha256 (m : List Byte) : List Byte :=
  let p := shaPad m
  let s := shaBlocks (p.length / 64) p shaInit
  [s.a, s.b, s.c, s.d, s.e, s.f, s.g, s.h].flatMap fun w => beBytes 4 w.toNat

/-- HMAC-SHA-256 with a key of at most 64 bytes (R197). -/
def hmacSha256 (key m : List Byte) : List Byte :=
  let k := padTo 64 key
  sha256 ((k.map (· ^^^ 0x5C)) ++ sha256 ((k.map (· ^^^ 0x36)) ++ m))

end Sys2Proof.Machine
end

