-- ==== Sys2Proof/Machine/WbOps.lean ====
section
/-!
DEFINITION. The Weighbridge's shared operations (R173 to R202): counters and checkpoints, records and their release, faults,
the four sequences and how triggers meet them, the holdoff.
-/

namespace Sys2Proof.Machine

/-! ## Time, counters, checkpoints (R177, R178) -/

/-- WB time in 1/1,024 s, modulo 2^40 (R177). -/
def State.wbTime (s : State) : Nat :=
  (s.wb.timeBase + (if s.wb.run then (s.now - s.wb.timeFrom) / 32 else 0)) % 2 ^ 40

/-- The end-product section of the calibration memory is written (R190). -/
def State.calibrated (s : State) : Bool := s.wb.calib.isSome

/-- The shunt's value in 0.1 µΩ that current-derived quantities use: the calibrated one, 10.0 mΩ until there is one (R190). -/
def State.shunt (s : State) : Nat := max 1 ((s.wb.calib.map (·.1)).getD 100000)

/-- A current in 10 µA from the shunt's voltage in nV (R190, R196). -/
def State.amps (s : State) (v : Int) : Int := v * 1000 / s.shunt

/-- What was integrated added to the counters, each wrapping modulo 2^48 (R175, R177): Q by `dq` µC, the cell's energies by the
shunt's value. -/
def WbCounters.add (c : WbCounters) (dq : Int) (shunt : Nat) (m : WbMeter) : WbCounters :=
  { q := (c.q + dq + 2 ^ 47) % 2 ^ 48 - 2 ^ 47,
    e := c.e.zipIdx.map fun p =>
      (p.1 + (if p.2 < 5 then m.de.getD p.2 0 else m.de.getD p.2 0 * 10 / shunt)) % 2 ^ 48 }

/-- The meter read: its increments enter the counters; what is left below 1 µC waits for the next (R175). -/
def State.wbMeter (s : State) (m : WbMeter) : State :=
  let x := s.wb.rest + m.dv * 10
  let r : Int := s.shunt
  { s with wb := { s.wb with counters := s.wb.counters.add (x / r) s.shunt m, rest := x % r } }

/-- The cell temperature in 0.01 °C (R176): the mean of both readings while they differ by no more than 5 °C, the hotter, or the
single valid one. -/
def cellTemp (a b : Option Int) : Option Int :=
  match a, b with
  | some x, some y => some (if (x - y).natAbs ≤ 500 then (x + y) / 2 else max x y)
  | some x, none => some x
  | none, y => y

/-- Every counter written to the checkpoint store (R178): kind 0 timed, 1 early warning, 2 before a release. -/
def State.wbCheckpoint (s : State) (kind seq : Nat) : State :=
  { s with wb := { s.wb with ckCounters := s.wb.counters, ckTime := s.wbTime, ckSeq := seq, ckKind := kind } }

/-! ## Records (R193, R195 to R197) -/

/-- The alarm charge suspension line (R173, R188). -/
def State.suspLine (s : State) : Bool := s.flag F.CHG_STATUS_SUSP_ALM

/-- The flags byte of a record: RESUMED, UNCAL, WBFAULT as they stand, ALARM while the suspension is raised, and those the
record brings (R195). -/
def State.wbFlags (s : State) (extra : Nat) : Nat :=
  (if s.wb.resumed then 1 else 0) ||| (if s.calibrated then 0 else 4) ||| (if s.wb.faults.isEmpty then 0 else 8) |||
    (if s.suspLine then 64 else 0) ||| extra

/-- Header and body of a record under a sequence number (R195). -/
def State.wbRecord (s : State) (seq typ extra : Nat) (body : List Byte) : List Byte :=
  [byte typ, byte (s.wbFlags extra)] ++ beBytes 4 seq ++ beBytes 5 s.wbTime ++ beBytes 4 (s.clk.time / 65536) ++
    [byte (s.chem % 16 + 16)] ++ body

/-- The tag of a record (R197). -/
def wbTag (r : List Byte) : List Byte :=
  (hmacSha256 (beBytes 32 Config.kWb.toNat) (beBytes 8 Config.wbUid.toNat ++ r)).take 8

/-- The Ledger class of a record type: A for WB_RESET and WB_FAULT (R196). -/
def wbClass (typ : Nat) : Nat := if typ = 8 || typ = 9 then 1 else 2

/-- A record released under the next sequence number after a checkpoint (R177, R178, R195). -/
def State.wbEmit (s : State) (typ extra : Nat) (body : List Byte) : State :=
  let n := s.wb.seqNum
  let s := s.wbCheckpoint 2 (n + 1)
  let r := s.wbRecord n typ extra body
  let s := { s with wb := { s.wb with outq := s.wb.outq ++ [Rec.mk (wbClass typ) 0x05 typ (r ++ wbTag r)],
                                      seqNum := n + 1, resumed := false } }
  s.event F.WB_EVENT_RECORD

/-- The last number is due: a WB_FAULT with code 0x06 takes it, and no record follows (R177, R181). -/
def State.wbLast (s : State) : State :=
  let (v, s) := s.fresh
  let s := { s with wb := { s.wb with faults := s.wb.faults ++ [6], ended := true } }
  (s.wbEmit 9 0 ([6] ++ beBytes 4 (v.toNat % 2 ^ 32))).event F.WB_EVENT_FAULT

/-- The outbound queue has a place (R193). -/
def State.wbRoom (s : State) : Bool := decide (s.wb.outq.length < 16)

/-- A record is released, or held inside the Weighbridge while the outbound queue is full; none follows the last number
(R177, R193). DESIGN CHOICE (log 110): a WB_IDENT, WB_NOTICE or WB_FAULT is held as a sequence's result is, in the order released. -/
def State.wbRelease (s : State) (typ extra : Nat) (body : List Byte) : State :=
  if s.wb.ended then s
  else if s.wbRoom && s.wb.held.isEmpty then
    if s.wb.seqNum = 0xFFFFFFFF then s.wbLast else s.wbEmit typ extra body
  else { s with wb := { s.wb with held := s.wb.held ++ [⟨typ, extra, body⟩] } }

/-! ## Faults (R181) -/

/-- A failed check: one WB_FAULT record for each code until the next start (R181). -/
def State.wbFault (s : State) (code : Nat) : State :=
  if s.wb.faults.contains code then s
  else
    let (v, s) := s.fresh
    let s := { s with wb := { s.wb with faults := s.wb.faults ++ [code] } }
    (s.wbRelease 9 0 ([byte code] ++ beBytes 4 (v.toNat % 2 ^ 32))).event F.WB_EVENT_FAULT

/-! ## Sequences (R182 to R190) -/

abbrev seqSnap : Nat := 1
abbrev seqSweep : Nat := 2
abbrev seqCap : Nat := 3
abbrev seqCal : Nat := 4

/-- The record types that are a sequence's result (R182). -/
def isResult (typ : Nat) : Bool := decide (2 ≤ typ ∧ typ ≤ 6)

/-- A sequence runs, or its result still waits for a place (R183, R193). -/
def State.wbBusy (s : State) : Bool := s.wb.seq.isSome || s.wb.held.any fun h => isResult h.typ

/-- A WB_NOTICE: reason, command code, WB time (R184, R196). -/
def State.wbNotice (s : State) (reason code : Nat) : State :=
  (s.wbRelease 0x0A 0 ([byte reason, byte code] ++ beBytes 3 (s.wbTime % 2 ^ 24))).event F.WB_EVENT_NOTICE

/-- The sweep current I_X in 0.1 mA: 0.05 C, at most 500 mA (R185). -/
def State.sweepIx (s : State) : Nat := min ((s.wb.cell.getD 0) / 2) 5000

/-- The excitation begins: charging gives way to it, and without a converter that can follow it clips (R151, R185). -/
def State.sweepOn (s : State) : State :=
  let s := (s.setFlag F.CONV_STATUS_EXC true).chgSuspend F.CHG_STATUS_SUSP_SWEEP
  if s.fedNow then s else s.excClip

/-- The excitation is removed and the reference returned to the charger (R186, R188). -/
def State.sweepOff (s : State) : State :=
  (s.excEnd).chgRelease F.CHG_STATUS_SUSP_SWEEP

/-- The holdoff that a suspension in force leaves behind: 30 min from its release (R188). -/
def State.holdArm (s : State) : State := { s with wb := { s.wb with holdArmed := true, holdDue := none } }

/-- A sequence begins (R182, R188). -/
def State.seqBegin (s : State) (kind arg : Nat) : State :=
  let s := { s with wb := { s.wb with seq := some ⟨kind, s.now, arg, s.suspLine, none, s.wb.counters.q, s.wb.counters.e.getD 6 0, 0, 0,
    none, none, none⟩ } }
  if kind = seqSweep then { s with wb := { s.wb with holdArmed := false, holdDue := none } }.sweepOn else s

/-- A trigger at its start time: the sequence begins, or the trigger is dropped with a notice, or a sweep under the
suspension becomes a holdoff (R184). A CAL that finds the section written by now does not run (R190). DESIGN CHOICE (log 111): of
several reasons the suspension counts before FEED, FEED before SET_CELL. -/
def State.seqStart (s : State) (kind arg : Nat) : State :=
  if kind = seqSweep then
    if s.suspLine then s.holdArm
    else if !s.flag F.SYS_STATE_FEED then s.wbNotice 1 0x02
    else if s.wb.cell.isNone then s.wbNotice 2 0x02
    else s.seqBegin kind arg
  else if kind = seqCap && !s.flag F.SYS_STATE_PROOF then s.wbNotice 3 0x03
  else if kind = seqCal && !s.flag F.SYS_STATE_SERVICE then s.wbNotice 4 0x08
  else if kind = seqCal && s.calibrated then s
  else s.seqBegin kind arg

/-- A trigger (R183): its sequence starts, or it is latched as pending, or it is counted in WB_OVRCNT. The second
component is the result of R192: 0, 1 or 2. DESIGN CHOICE (log 114): 0 stands also for a trigger that WB_NOTICE drops or that becomes
the holdoff. -/
def State.wbTrigger (s : State) (kind arg : Nat) : State × Nat :=
  if !s.wbBusy then (s.seqStart kind arg, 0)
  else if s.wb.pend.isNone then ({ s with wb := { s.wb with pend := some (kind, arg) } }, 1)
  else (s.bump R.WB_OVRCNT 1, 2)

/-- The pending trigger starts once nothing runs and no result waits (R183, R193). -/
def State.startPending (s : State) : State :=
  match s.wb.pend with
  | none => s
  | some p => if s.wbBusy then s else { s with wb := { s.wb with pend := none } }.seqStart p.1 p.2

/-- A sequence ends: its result is released, the pending trigger starts (R182, R183). -/
def State.seqEnd (s : State) (typ extra : Nat) (body : List Byte) : State :=
  let s := { s with wb := { s.wb with seq := none } }
  ((s.wbRelease typ extra body).event F.WB_EVENT_SEQ_DONE).startPending

/-- The ALARM flag of a sequence's record: the suspension was raised in it (R195). -/
def seqAlarm (q : WbSeq) : Nat := if q.susp then 64 else 0

/-- Points completed when a sweep has lasted `t` ticks (R186). -/
def pointsDone (t : Nat) : Nat :=
  ([31, 41, 46, 50, 53, 56, 59, 61].filter fun e => secTicks e ≤ t).length

/-- A sweep is aborted by the alarm charge suspension (R188). -/
def State.sweepAbort (s : State) : State :=
  match s.wb.seq with
  | some q =>
    if q.kind = seqSweep then
      let t := s.now - q.start
      let s := { s.sweepOff with wb := { s.wb with seq := none } }.sweepOff
      let s := s.wbRelease 4 (32 + 64) ([byte (pointsDone t), 1] ++ beBytes 3 (t / 32 % 2 ^ 24))
      ((s.event F.WB_EVENT_SWEEP_ABORT).holdArm).startPending
    else { s with wb := { s.wb with seq := some { q with susp := true } } }
  | none => s

/-- The suspension line rises: a sweep is aborted, a running holdoff waits again for the release (R188). -/
def State.wbSuspended (s : State) : State :=
  if !s.wb.run then s
  else
    let s := { s with wb := { s.wb with suspSeen := true } }
    let s := if s.wb.holdDue.isSome then s.holdArm else s
    s.sweepAbort

/-- The suspension line falls: the 30 min of the holdoff begin (R188). -/
def State.wbReleased (s : State) : State :=
  if s.wb.run && s.wb.holdArmed then
    { s with wb := { s.wb with holdArmed := false, holdDue := s.timer (secTicks 1800) } }
  else s

/-- The least and the greatest of cell temperatures. -/
def tempSpan : List Int → Option (Int × Int)
  | [] => none
  | x :: l => some (l.foldl min x, l.foldl max x)

/-- The least and greatest cell temperature over CAPACITY, none where some reading had no valid thermistor (R176, R189). -/
def capSpan (m : CapMeasure) : Option (Int × Int) :=
  (m.temps.mapM fun p => cellTemp p.1 p.2).bind tempSpan

/-- A temperature of 0.01 °C in a body, 0x8000 for none (R176). -/
def tempOr (x : Option Int) : List Byte := match x with | some y => beSigned 2 y | none => [0x80, 0x00]

/-- The seconds of CAPACITY's discharge part (R189). -/
def State.capSeconds (s : State) (q : WbSeq) : Nat := (q.relaxFrom.getD s.now - q.start) / 32768

/-- The body of a WB_CAPACITY record (R196): SOCs through the mask-ROM table, and C_est in 0.1 mAh with result 0 alone.
With another result, equal SOCs or a quotient beyond three bytes no rule gives it, and it is a free value. -/
def State.capBody (s : State) (wq : WbSeq) (m : CapMeasure) (result : Nat) : List Byte × State :=
  let t : Int := match capSpan m with | some p => (p.1 + p.2) / 2 | none => 0
  let dq := m.dv * 10 / s.shunt
  let sb := (Config.ocvTable s.chem m.ocvBegin t).toNat
  let se := (Config.ocvTable s.chem m.ocvEnd t).toNat
  let (v, s) := s.fresh
  let q := if se < sb then dq * 1000 / (360000 * (sb - se)) else 2 ^ 24
  let est := if result = 0 ∧ q < 2 ^ 24 then q else v.toNat
  ([byte result] ++ beBytes 3 m.ocvBegin ++ beBytes 3 m.ocvEnd ++ beBytes 2 sb ++ beBytes 2 se ++ beBytes 6 dq ++
    beBytes 6 (m.de * 10 / s.shunt) ++ beBytes 3 m.minBat ++ beSigned 3 (s.amps m.maxOut) ++ tempOr ((capSpan m).map (·.1)) ++
    tempOr ((capSpan m).map (·.2)) ++ beBytes 4 (s.capSeconds wq) ++ beBytes 3 (est % 2 ^ 24), s)

/-- `n` free bytes. -/
def State.freshBytes (s : State) : Nat → List Byte × State
  | 0 => ([], s)
  | n + 1 =>
    let (v, s) := s.fresh
    let (l, s) := s.freshBytes n
    (BitVec.ofNat 8 v.toNat :: l, s)

/-- Charge in µC and energy in mJ out of the cell since CAPACITY began, until its discharge ended (R177, R189). -/
def State.capOut (s : State) (q : WbSeq) : Nat × Nat :=
  q.out.getD (((q.q0 - s.wb.counters.q) % 2 ^ 48).toNat, (s.wb.counters.e.getD 6 0 + 2 ^ 48 - q.e0) % 2 ^ 48)

/-- The bytes of a value, free where there is none. -/
def State.orFreeBytes (s : State) (n : Nat) (x : Option Nat) : List Byte × State :=
  match x with
  | some v => (beBytes n v, s)
  | none => s.freshBytes n

/-- The body of an ABANDONED WB_CAPACITY (R189, R196): what CAPACITY has by now. What it has not come to, OCV_end and with it both
states of charge and C_est, and OCV_begin, least BAT and greatest current where nothing was measured, no rule gives: free values. -/
def State.abandonBody (s : State) (q : WbSeq) : List Byte × State :=
  let (ob, s) := s.orFreeBytes 3 (if q.ocvN = 0 then none else some (q.ocvSum * 10 / q.ocvN))
  let (oe, s) := s.freshBytes 7
  let (mb, s) := s.orFreeBytes 3 (q.least.map (·.1))
  let (mi, s) := s.orFreeBytes 3 (q.least.map (·.2))
  let (ce, s) := s.freshBytes 3
  ([2] ++ ob ++ oe ++ beBytes 6 (s.capOut q).1 ++ beBytes 6 (s.capOut q).2 ++ mb ++ mi ++ tempOr (q.temps.map (·.1)) ++
    tempOr (q.temps.map (·.2)) ++ beBytes 4 (s.capSeconds q) ++ ce, s)

/-- PROOF clears before the relaxation ends: CAPACITY ends at once as ABANDONED (R189). -/
def State.capAbandon (s : State) : State :=
  match s.wb.seq with
  | some q =>
    if s.wb.run && q.kind = seqCap then
      let (l, s) := s.abandonBody q
      s.seqEnd 5 (32 + seqAlarm q) l
    else s
  | none => s

/-- A cell temperature that CAPACITY takes note of (R189). -/
def State.capTemp (s : State) (x : Option Int) : State :=
  match s.wb.seq, x with
  | some q, some t =>
    if q.kind = seqCap then
      { s with wb := { s.wb with seq := some { q with temps := some (match q.temps with
          | some p => (min p.1 t, max p.2 t)
          | none => (t, t)) } } }
    else s
  | _, _ => s

/-- BAT in mV and the discharge current in mA as CAPACITY follows them: OCV_begin over its first second, the least BAT and the
greatest current over its discharge part (R189). -/
def State.capTrack (s : State) (bat out : Nat) : State :=
  match s.wb.seq with
  | some q =>
    if q.kind = seqCap && q.relaxFrom.isNone then
      let first := decide (s.now ≤ q.start + secTicks 1)
      { s with wb := { s.wb with seq := some { q with
          ocvSum := if first then q.ocvSum + bat else q.ocvSum, ocvN := if first then q.ocvN + 1 else q.ocvN,
          least := some (match q.least with
            | some p => (min p.1 (bat * 10), max p.2 (out * 100))
            | none => (bat * 10, out * 100)) } } }
    else s
  | none => s

/-! ## The mailbox (R191, R192) -/

/-- A taken command leaves its code and result in WB_CMDRES; results 3 to 7 are an event (R192). -/
def State.cmdResult (s : State) (code result : Nat) : State :=
  let s := (s.setField F.WB_CMDRES_CODE code).setField F.WB_CMDRES_RESULT result
  if 3 ≤ result then s.event F.WB_EVENT_CMD_REJECT else s

/-- The mailbox takes a command while the Weighbridge runs (R192). -/
def State.mailbox (s : State) (f : State → State) : State := if s.live && s.wb.run then f s else s

/-- The mailbox is still taking a command (R192). -/
def State.mailBusy (s : State) : Bool := match s.wb.cmdDue with | some t => decide (s.now < t) | none => false

/-- A write to WB_CMD (R192): not taken while CMDBUSY is set, result 6; else `f` takes it, and CMDBUSY is set for what of the
100 µs, four ticks at most, no rule says: a free value. -/
def State.mailWrite (s : State) (f : State → State) : State :=
  s.mailbox fun s =>
    if s.mailBusy then (s.setField F.WB_CMDRES_RESULT 6).event F.WB_EVENT_CMD_REJECT
    else
      let (v, s) := s.fresh
      let s := f s
      if s.wb.run then { s with wb := { s.wb with cmdDue := some (s.now + v.toNat % 5) } } else s

/-- A command that triggers a sequence, its result shown (R183, R192). -/
def State.cmdTrigger (s : State) (code kind arg : Nat) : State :=
  let r := s.wbTrigger kind arg
  r.1.cmdResult code r.2

/-- Whether a requester is one of the policy core, Port H and USB, to which SNAPSHOT and IDENT are open (R191). -/
def openRequester (r : Requester) : Bool := r == .firmware || r == .portH || r == .usb

/-! ## Start and stop (R180) -/

/-- The Weighbridge stops where it stands: what lies in its own memory is lost, the checkpoint store and the outbound queue
stay (R178, R180, R198). -/
def State.wbStop (s : State) (cause : Nat) : State :=
  let exc := match s.wb.seq with | some q => q.kind == seqSweep | none => false
  let s := if exc then s.sweepOff else s
  let s := s.restore [.wb]
  { s with wb := { s.wb with run := false, cause := cause, timeBase := s.wbTime, timeFrom := s.now, resumed := false,
                             wboFails := 0, cell := none, seq := none, pend := none, held := [],
                             deferred := none, holdArmed := false, holdDue := none, period := 15, periodDue := none,
                             suspSeen := false, cmdDue := none } }

/-- The Weighbridge loses its supply (R178, R179): as a stop, and the read window is lost. DESIGN CHOICE (log 112): the released
records of its queue keep, as the checkpoint does, for R198 allows no other gap in their numbers than R178's. -/
def State.wbPowerOff (s : State) : State :=
  let s := s.wbStop 1
  { s with wb := { s.wb with accepted := [], rdBuf := [], rdPos := 0 } }

/-- The WB_STATUS word from the live Weighbridge (R202). -/
def State.wbStatus (s : State) : Word :=
  let q := (s.wb.seq.map WbSeq.kind).getD 0
  let p := (s.wb.pend.map (·.1)).getD 0
  BitVec.ofNat 16 ((if s.wb.run then 1 else 0) + (if s.wbBusy then 2 else 0) + 4 * q +
    (if s.wb.pend.isSome then 32 else 0) + 64 * p + (if s.wb.run && !s.calibrated then 512 else 0) +
    (if s.wb.run && !s.wb.faults.isEmpty then 1024 else 0) + (if s.wbRoom then 0 else 2048) +
    (if s.wb.holdArmed || s.wb.holdDue.isSome then 4096 else 0) + (if s.mailBusy then 8192 else 0))

/-- Minutes of the holdoff that remain, rounded up (R188, R202). DESIGN CHOICE (log 113): 30 while the suspension has not yet been
released. -/
def State.wbHoldoffMin (s : State) : Nat :=
  if s.wb.holdArmed then 30
  else match s.wb.holdDue with
    | some d => ceilDiv (d - s.now) (secTicks 60)
    | none => 0

end Sys2Proof.Machine
end

