-- ==== Sys2Proof/Machine/VdtOps.lean ====
section
/-!
DEFINITION. The verdict engine's shared operations (R204 to R219): the Ballast terms, the two estimates, notifications and
the curfew, the verdicts, and the end of a proof test before its time.
-/

namespace Sys2Proof.Machine

/-! ## Capacity and Ballast (R160, R161, R205) -/

/-- The derating factor k_T in percent (R161), for the chemistry and the worst recent temperature in °C. -/
def kT (chem : Nat) (t : Int) : Nat :=
  match chemKind chem with
  | 0 => if 20 ≤ t then 100 else if 0 ≤ t then 90 else if -10 ≤ t then 80 else if -20 ≤ t then 65 else 50
  | 1 => if 20 ≤ t then 100 else if 0 ≤ t then 97 else if -10 ≤ t then 94 else if -20 ≤ t then 90 else 85
  | _ => if 20 ≤ t then 100 else if 0 ≤ t then 92 else if -10 ≤ t then 85 else if -20 ≤ t then 72 else 55

/-- The worst recent temperature as CHG_TWORST holds it, in °C (R171). -/
def State.tworst (s : State) : Int := (BitVec.ofNat 8 (s.regN R.CHG_TWORST)).toInt

/-- The rated capacity in mAh of the CELL record (R161). -/
def State.ratedMah (s : State) : Nat := (s.boot.image.map ImageInfo.ratedMah).getD 0

/-- Capacity as energy in µWh at the nominal voltage, the capacity in 10⁻⁷ mAh (R157, R161). -/
def State.asEnergy (s : State) (c : Nat) : Nat := c * s.series * chemNominal s.chem / 10000000

/-- C_now in µWh: by the last passed proof test, or the rated capacity (R161). -/
def State.cNow (s : State) : Nat :=
  match s.vdt.cNow with
  | some c => c
  | none => s.asEnergy (s.ratedMah * 10000000)

/-- E_B in mWh, as CHG_BALLAST holds it (R160). -/
def State.eB (s : State) : Nat := s.group R.CHG_BALLAST_H 2

/-- E_A in µWh: P_ALM × t_ALM / k_T (R205). -/
def State.eA (s : State) : Nat :=
  s.regN R.CHG_BAL_PALM * s.regN R.CHG_BAL_TALM * 100000 / (60 * kT s.chem s.tworst)

/-- The latest accepted record of a Weighbridge type, header, body and tag (R194, R195). -/
def State.wbLatest (s : State) (typ : Nat) : Option (List Byte) :=
  (s.wb.accepted.find? (fun x => x.1 == typ)).map (·.2)

/-- E_TET_IN in mJ, as the latest WB_PERIODIC reports it (R196, R279). -/
def State.tetEnergy (s : State) : Nat := ((s.wbLatest 1).map fun r => natAt r 40 6).getD 0

/-- The WB sequence number of a record (R195). -/
def wbSeqOf (r : List Byte) : Nat := natAt r 2 4

/-- A signed number of `n` bytes. -/
def intAt (l : List Byte) (i n : Nat) : Int :=
  let x := natAt l i n
  if 256 ^ n / 2 ≤ x then (x : Int) - 256 ^ n else x

/-! ## Correcting for temperature (R206) -/

/-- ΔT_Z in 0.01 °C. -/
def dTz (chem : Nat) : Nat := match chemKind chem with | 0 => 1800 | 1 => 3000 | _ => 2200

/-- α_C in 0.01 % per °C. -/
def alphaC (chem : Nat) : Nat := match chemKind chem with | 0 => 30 | 1 => 15 | _ => 25

/-- The greatest `x` below `2 ^ n` with `x ^ b ≤ t`, found bit by bit. -/
def rootBits (b t : Nat) : Nat → Nat → Nat
  | 0, x => x
  | n + 1, x => rootBits b t n (if (x + 2 ^ n) ^ b ≤ t then x + 2 ^ n else x)

/-- `z × 2^(a / b)`, rounded down, for a signed `a` (R206). -/
def scalePow2 (z : Nat) (a : Int) (b : Nat) : Nat :=
  if 0 ≤ a then rootBits b (z ^ b * 2 ^ a.toNat) 24 0 else rootBits b (z ^ b / 2 ^ (-a).toNat) 24 0

/-- An impedance corrected to 25 °C, the temperature in 0.01 °C (R206). -/
def zAt25 (chem z : Nat) (t : Int) : Nat := scalePow2 z (t - 2500) (dTz chem)

/-- An impedance at 25 °C brought to a temperature (R205, R206). -/
def zAtT (chem z25 : Nat) (t : Int) : Nat := scalePow2 z25 (2500 - t) (dTz chem)

/-- Impedance is valid from −10 to +45 °C (R206). -/
def zValidT (t : Int) : Bool := decide (-1000 ≤ t ∧ t ≤ 4500)

/-- C_25 in 10⁻⁷ mAh from C_est in 0.1 mAh, without rounding (R206). -/
def cAt25 (chem c : Nat) (t : Int) : Nat := ((c : Int) * (1000000 + alphaC chem * (2500 - t))).toNat

/-- C_25 in 10⁻⁷ mAh from a WB_CAPACITY record with result 0 (R206, R209). DESIGN CHOICE (log 107): its mean temperature, which the
record does not carry, is taken midway between the least and the greatest. -/
def capC25 (chem : Nat) (r : List Byte) : Option Nat :=
  if natAt r 16 1 = 0 then some (cAt25 chem (natAt r 53 3) ((intAt r 45 2 + intAt r 47 2) / 2)) else none

/-! ## The two estimates (R205) -/

/-- Magnitude of point `i` in a WB_SWEEP record, none when clipped or when the sweep is invalid (R187, R196). -/
def sweepMag (r : List Byte) (i : Nat) : Option Nat :=
  let m := natAt r (16 + 8 + 4 * i) 2
  if natAt r 16 1 ≤ 1 && m != 0xFFFF then some m else none

/-- The mean cell temperature of a WB_SWEEP record in 0.01 °C (R196). -/
def sweepTemp (r : List Byte) : Int := intAt r (16 + 6) 2

/-- |Z(0.1 Hz)| at 25 °C of a valid sweep with that point unclipped, at a valid temperature (R205, R206). -/
def sweepZ01 (chem : Nat) (r : List Byte) : Option Nat :=
  if zValidT (sweepTemp r) then (sweepMag r 0).map fun z => zAt25 chem z (sweepTemp r) else none

/-- A temperature in a record, none for 0x8000 (R176). -/
def tempAt (r : List Byte) (i : Nat) : Option Int := if intAt r i 2 = -32768 then none else some (intAt r i 2)

/-- Mean BAT in 100 µV, mean cell current in 10 µA and the cell temperature in 0.01 °C of the later of the latest
WB_PERIODIC and WB_SNAP (R176, R196, R205). -/
def State.wbMeans (s : State) : Option (Nat × Int × Option Int) :=
  let p := (s.wbLatest 1).map fun r => (wbSeqOf r, natAt r 64 3, intAt r 67 3, cellTemp (tempAt r 70) (tempAt r 72))
  let q := (s.wbLatest 2).map fun r => (wbSeqOf r, natAt r 16 3, intAt r 19 3, cellTemp (tempAt r 34) (tempAt r 36))
  match p, q with
  | some x, some y => if x.1 < y.1 then some y.2 else some x.2
  | some x, none => some x.2
  | none, some y => some y.2
  | none, none => none

/-- State of charge in 0.1 % from an estimated open-circuit voltage: through the open-circuit table, and where its slope
is below 5 mV per 10 % and cell, the highest state of charge within ±10 mV per cell (R205). -/
def State.socOf (s : State) (ocv : Nat) (t : Int) : Nat :=
  let n := s.series
  let f := fun v : Nat => (Config.ocvTable s.chem v t).toNat
  if f (ocv - 25 * n) + 100 < f (ocv + 25 * n) then f (ocv + 100 * n) else f ocv

/-- E_C in µWh (R205). -/
def State.estEc (s : State) : Nat := s.field F.CHG_SOC_SOC * s.cNow / 1000

/-- E_V in µWh; the last value is kept while the cell current exceeds 0.2 C or nothing has been measured (R205). -/
def State.estEv (s : State) : Nat :=
  match s.wbMeans, s.vdt.z01 with
  | some (bat, i, some t), some z =>
    if (20000 * s.ratedMah : Int) < i.natAbs * 1000 then s.vdt.ev
    else
      let drop : Int := i * (zAtT s.chem z t * 5 : Nat) / 1000000
      s.socOf ((bat : Int) - drop).toNat t * s.cNow / 1000
  | _, _ => s.vdt.ev

/-- Both estimates formed anew and shown with E_A, in 10 mWh (R205, R220). -/
def State.formEstimates (s : State) : State :=
  let ec := s.estEc
  let ev := s.estEv
  let s := { s with vdt := { s.vdt with ec := ec, ev := ev } }
  ((s.setReg R.VDT_EC (word16 (ec / 10000))).setReg R.VDT_EV (word16 (ev / 10000))).setReg R.VDT_EA (word16 (s.eA / 10000))

/-! ## Notifications and the curfew (R213, R215) -/

/-- The present time of day lies in the curfew; equal bounds mean none (R215). -/
def State.inCurfew (s : State) : Bool :=
  let a := fieldOf s.vdt.curfew 0 8 * 10
  let b := fieldOf s.vdt.curfew 8 8 * 10
  let m := s.localMin
  s.timeValid && (if a < b then decide (a ≤ m ∧ m < b) else if b < a then decide (a ≤ m ∨ m < b) else false)

/-- A note enters the FIFO; the passage from empty to non-empty is an event (R213). -/
def State.notePush (s : State) (n : Note) : State :=
  let s := if s.vdt.fifo.isEmpty then s.event F.VDT_EVENT_NOTE else s
  { s with vdt := { s.vdt with fifo := s.vdt.fifo ++ [n] } }

/-- The FIFO without its oldest non-critical entry. -/
def dropOldest : List Note → List Note
  | [] => []
  | n :: l => if n.critical then n :: dropOldest l else l

/-- A critical note enters at once: in place of an equal critical one, in a free place, or displacing the oldest
non-critical entry, which is tallied (R215). -/
def State.noteCritical (s : State) (n : Note) : State :=
  let same := fun m : Note => m.critical && m.code == n.code && m.subject == n.subject
  if s.vdt.fifo.any same then
    { s with vdt := { s.vdt with fifo := s.vdt.fifo.map fun m => if same m then n else m } }
  else if s.vdt.fifo.length < 16 then s.notePush n
  else ({ s with vdt := { s.vdt with fifo := dropOldest s.vdt.fifo } }.tally K.NOTE_DROP).notePush n

/-- A non-critical note enters, or waits for a place (R215). -/
def State.noteEnter (s : State) (n : Note) : State :=
  if s.vdt.fifo.length < 16 && s.vdt.waiting.isEmpty then s.notePush n
  else { s with vdt := { s.vdt with waiting := s.vdt.waiting ++ [n] } }

/-- A note is held: it replaces a held one of the same code and subject (R215). -/
def State.noteHold (s : State) (n : Note) : State :=
  let l := s.vdt.held.filter fun m => !(m.code == n.code && m.subject == n.subject)
  { s with vdt := { s.vdt with held := l ++ [n] } }.setFlag F.VDT_STATUS_HELD true

/-- A notification raised by the verdict engine (R213, R215), which is policy firmware. -/
def State.note (s : State) (code : Nat) (critical audible : Bool) (subject : Nat) : State :=
  let n : Note := ⟨code, audible, false, subject, critical⟩
  if !s.boot.core then s
  else if critical then s.noteCritical n
  else if !s.timeValid || s.inCurfew then s.noteHold n
  else s.noteEnter n

/-- Held notes enter in the order raised, with HELD set (R215). -/
def State.releaseHeld (s : State) : State :=
  let l := s.vdt.held
  let s := { s with vdt := { s.vdt with held := [] } }.setFlag F.VDT_STATUS_HELD false
  (l.foldl (fun s n => s.noteEnter { n with held := true }) s).event F.VDT_EVENT_RELEASE

/-- A waiting note enters as a place frees (R215). -/
def State.noteRefill (s : State) : State :=
  match s.vdt.waiting with
  | [] => s
  | n :: l => { s with vdt := { s.vdt with waiting := l } }.notePush n

/-- The word of a note at VDT_NOTE (R220). -/
def noteWord (n : Note) : Word :=
  BitVec.ofNat 16 (n.code % 256 + (if n.audible then 256 else 0) + (if n.held then 512 else 0) + n.subject % 64 * 1024)

/-! ## Verdicts (R204, R207 to R212) -/

/-- A VERDICT record with the verdicts as they now stand (R204, R292): class A on entry to CRITICAL. -/
def State.postVerdict (s : State) (critical : Bool) (cause : Nat) : State :=
  let p := [byte (s.field F.VDT_STATUS_RESERVE), byte (s.field F.VDT_STATUS_LIFE), boolByte (s.flag F.VDT_STATUS_CELL),
    boolByte (s.flag F.VDT_STATUS_CHAIN), byte cause] ++ beBytes 2 (s.regN R.VDT_EC) ++ beBytes 2 (s.regN R.VDT_EV) ++
    beBytes 2 (s.regN R.VDT_EA)
  (s.post (if critical then K.VERDICT_CRITICAL else K.VERDICT) p).event F.VDT_EVENT_VERDICT_CHG

/-- The last two counted tests both showed it (R208, R210). -/
def twice : List Bool → Bool
  | a :: b :: _ => a && b
  | _ => false

/-- RESERVE takes a value: recorded and notified on a change; with CRITICAL a CELL FAULT that stands is audible at once
(R204, R208, R210, R213). -/
def State.setReserve (s : State) (v cause : Nat) : State :=
  if s.field F.VDT_STATUS_RESERVE = v then s
  else
    let s := (s.setField F.VDT_STATUS_RESERVE v).postVerdict (v == 2) cause
    match v with
    | 0 => s.note 0x03 false false 0
    | 1 => s.note 0x01 false (twice s.vdt.lows) 0
    | _ =>
      let s := s.note 0x02 true true 0
      if s.flag F.VDT_STATUS_CELL then s.note 0x06 true true 0 else s

/-- A condition's tick of beginning, kept while it lasts. -/
def State.sinceWhen (s : State) (c : Bool) (t : Option Nat) : Option Nat :=
  if c then (match t with | some x => some x | none => some s.now) else none

/-- A condition has lasted `sec` seconds. -/
def State.lasted (s : State) (t : Option Nat) (sec : Nat) : Bool :=
  match t with
  | some x => decide (x + secTicks sec ≤ s.now)
  | none => false

/-- CRITICAL at once (R207): the charger in ABSENT, or BAT below n × V_PRE without FEED. -/
def State.criticalNow (s : State) : Bool :=
  s.phaseN == phAbsent || (decide (s.chg.bat < s.series * chemVpre s.chem) && !s.flag F.SYS_STATE_FEED)

/-- RESERVE as R207 forms it from the estimates and the times they have stood. -/
def State.reserveNext (s : State) : Nat :=
  let v := s.vdt
  let old := s.field F.VDT_STATUS_RESERVE
  let lo := min v.ec v.ev
  let low := s.lasted v.lowFrom 600
  if s.criticalNow || s.lasted v.critFrom 60 then 2
  else if old = 2 then (if s.lasted v.clearFrom 60 then (if low then 1 else 0) else 2)
  else if low then 1
  else if old = 1 then (if s.eB * 105000 ≤ lo * 100 then 0 else 1)
  else 0

/-- RESERVE formed: estimates, times, verdict (R205, R207). -/
def State.formReserve (s : State) : State :=
  let s := s.formEstimates
  let hi := max s.vdt.ec s.vdt.ev
  let lo := min s.vdt.ec s.vdt.ev
  let s := { s with vdt := { s.vdt with
    critFrom := s.sinceWhen (decide (hi < s.eA)) s.vdt.critFrom,
    lowFrom := s.sinceWhen (decide (hi < s.eB * 1000)) s.vdt.lowFrom,
    clearFrom := s.sinceWhen (decide (s.eA * 110 ≤ lo * 100)) s.vdt.clearFrom } }
  s.setReserve s.reserveNext 1

/-- A condition of R210 holds; a CELL_ABSENT stands until a present cell is found (R155). -/
def State.cellFaulty (s : State) : Bool :=
  !s.chg.cellSeen || s.chg.fault == 4 || !s.chg.ntcFault.isEmpty || s.wb.faults.contains 5 || s.vdt.lastFail

/-- CELL follows R210; a change is recorded, an entry into FAULT notified (R204, R210). -/
def State.refreshCell (s : State) (cause : Nat) : State :=
  if !s.boot.core || s.flag F.VDT_STATUS_CELL = s.cellFaulty then s
  else
    let crit := s.field F.VDT_STATUS_RESERVE == 2
    let x := s.cellFaulty
    let s := (s.setFlag F.VDT_STATUS_CELL x).postVerdict false cause
    if x then s.note 0x06 crit (crit || twice s.vdt.faults) 0 else s

/-- The verdicts that a change of the charger, of BAT or of FEED can move at once (R207, R210). -/
def State.chgVerdict (s : State) : State :=
  let s := s.refreshCell 3
  if s.boot.core && s.criticalNow then s.setReserve 2 1 else s

/-! ## The target (R160, R162, R216) -/

/-- A CHG_TARGET record with the Ballast terms (R292): cause 0 recomputation, 1 lift, 2 partial target reached. -/
def State.postTarget (s : State) (cause old new : Nat) : State :=
  s.post K.CHG_TARGET ([byte cause] ++ beBytes 2 old ++ beBytes 2 new ++ beBytes 3 s.eB ++
    beBytes 2 (s.regN R.CHG_BALSOC) ++ [byte (kT s.chem s.tworst)] ++ beSigned 1 s.tworst)

/-- The charger regulates into the cell. -/
def State.charging (s : State) : Bool := s.phaseN == phCC || s.phaseN == phCV || s.phaseN == phTopup

/-- TERMINATION and, its ramp to zero done, REST (R156). -/
def State.chgTerminate (s : State) : State := (s.enterPhase phTerm).enterPhase phRest

/-- The partial target is reached (R162). -/
def State.targetReached (s : State) : Bool := s.partialMode && decide (s.regN R.CHG_TGT ≤ s.field F.CHG_SOC_SOC)

/-- Charging ends at the partial target, with its event and its record (R156, R162). -/
def State.targetEnd (s : State) : State :=
  ((s.event F.CHG_EVENT_TGT_REACHED).postTarget 2 (s.regN R.CHG_TGT) (s.regN R.CHG_TGT)).chgTerminate

/-- A target lowered below CHG_SOC is reached at once (R163). -/
def State.targetLowered (s : State) : State :=
  if s.charging && s.partialMode && decide (s.regN R.CHG_TGT < s.field F.CHG_SOC_SOC) then s.targetEnd else s

/-- CHG_TGT takes a value (R162): an event and a CHG_TARGET record on a change; a raise is remembered for R163, and a charge
that a lowered one ends, ends. -/
def State.setTarget (s : State) (new cause : Nat) : State :=
  let old := s.regN R.CHG_TGT
  if new = old then s
  else
    let up := decide (old < new ∧ s.field F.CHG_SOC_SOC + s.regN R.CHG_HYST ≤ new)
    let s := (s.setReg R.CHG_TGT (BitVec.ofNat 16 new)).event F.CHG_EVENT_TGT_CHG
    let s := { s with chg := { s.chg with tgtRaised := s.chg.tgtRaised || up } }
    ((s.postTarget cause old new).refreshPartial).targetLowered

/-- A reset restores CHG_TGT to 1,000, which is a change of it (R162, R171). DESIGN CHOICE (log 106): its record carries the terms as
they stood, and cause 0, since no cause of R292 names a reset. -/
def State.targetRestored (s : State) : State := s.setTarget 1000 0

/-! ## The proof test (R216 to R219) -/

/-- PROOF clears: the load is off, the suspension is released, CAPACITY ends with it (R189, R216). -/
def State.proofClear (s : State) : State :=
  let s := { s with vdt := { s.vdt with proof := none, lifted := false } }
  (((s.setOverlay F.SYS_STATE_PROOF false).capAbandon).chgRelease F.CHG_STATUS_SUSP_PROOF).refreshBatfet

/-- The outcome of a test shown in VDT_PROOF without opinions (R219, R220). -/
def State.showOutcome (s : State) (code : Nat) (low : Bool) : State :=
  (s.setReg R.VDT_PROOF 0).setReg R.VDT_PROOF (BitVec.ofNat 16 (code + (if low then 512 else 0)))

/-- The rest follows the sweep step (R216). -/
def State.proofRest (s : State) : State :=
  match s.vdt.proof with
  | some p => if p.step = 2 then { s with vdt := { s.vdt with proof := some { p with step := 3 } } } else s
  | none => s

/-- A test is abandoned (R30, R219): PROOF_ABORT with its cause, 1 alarm, 2 reset, 3 new cell, 4 otherwise, and the last
step reached. -/
def State.proofAbandon (s : State) (cause : Nat) : State :=
  match s.vdt.proof with
  | none => s
  | some p =>
    let s := (s.proofClear).showOutcome 4 p.low
    (s.event F.VDT_EVENT_PROOF_END).post K.PROOF_ABORT [byte cause, byte p.step]

/-- Both estimates lie below E_B (R208). -/
def State.lowNow (s : State) : Bool := decide (max s.vdt.ec s.vdt.ev < s.eB * 1000)

/-- A test is skipped (R217). -/
def State.proofSkip (s : State) (cause : Nat) : State :=
  let s := (s.bump R.VDT_SKIPCNT 1).showOutcome 5 s.lowNow
  let s := (s.event F.VDT_EVENT_PROOF_SKIP).setFlag F.VDT_STATUS_PROOF_DEFERRED false
  let s := { s with vdt := { s.vdt with deferred := none, deferDue := none, requested := false,
                                        lifted := false } }
  (s.post K.PROOF_SKIP [byte cause]).proofRequestsDone

end Sys2Proof.Machine
end

