-- ==== Sys2Proof/Machine/AlarmOps.lean ====
section
/-!
DEFINITION. The alarm sequencer's shared operations (R42 to R56): local and remote alarms and their ends, hush, the overlay,
the discrepancy fault and what a reset re-derives.
-/

namespace Sys2Proof.Machine

/-- ALM_STATUS as read: the stored bits with CHG_SUSP from the charger (R58). -/
def State.almStatus (s : State) : Word := setBitOf (s.reg R.ALM_STATUS) 7 (s.flag F.CHG_STATUS_SUSP_ALM)

/-- The cases in which the main converter runs at fixed frequency whatever its load (R134). -/
def State.fixedFreq (s : State) : Bool :=
  s.flag F.CONV_MAIN_CFG_FPWM || s.flag F.SYS_STATE_ALARM || s.flag F.ALM_STATUS_READY || s.flag F.CONV_STATUS_EXC

/-- The horn boost passes VSYS through: VSYS stands above CONV_HORN_V − 0.5 V (R143). -/
def State.hornPass (s : State) : Bool :=
  s.flag F.CONV_STATUS_HORN_ON && decide (s.power.regN R.CONV_HORN_V * 100 < s.regN R.PATH_VSYS * 20 + 500)

/-- CONV_STATUS as read: pulse skipping never at fixed frequency, FIXEDF for the cases of R134, HORN_PASS by VSYS, KEEP_OK by
KEEP's output (R134, R143, R147). -/
def State.convStatus (s : State) : Word :=
  let w := setBitOf (s.reg R.CONV_STATUS) 13 s.fixedFreq
  let w := setBitOf w 3 (s.flag F.CONV_STATUS_MAIN_SKIP && !s.fixedFreq)
  let w := setBitOf w 9 s.hornPass
  setBitOf w 11 s.keepOk

/-- The horn's switches follow: HSW, and in level mode the level switch from horn-ready on (R43, R254). -/
def State.refreshHorn (s : State) : State :=
  let s := s.refreshHsw
  s.setFlag F.TET_STATUS_LVL_OUT (s.flag F.TET_STATUS_LEVEL && s.flag F.ALM_STATUS_LOCAL && s.flag F.ALM_STATUS_HORN_OK)

/-- The alarm charge suspension is raised (R38, R42, R47): charging stops, a sweep is aborted. -/
def State.alarmSuspend (s : State) : State :=
  if s.suspLine then s else (s.chgSuspend F.CHG_STATUS_SUSP_ALM).wbSuspended

/-- The alarm charge suspension is released (R52). -/
def State.alarmRelease (s : State) : State :=
  if s.suspLine then (s.chgRelease F.CHG_STATUS_SUSP_ALM).wbReleased else s

/-- What every alarm start does (R42, R47): suspension, horn boost, overlay; a proof test is abandoned and a ship request
cancelled (R27, R30). -/
def State.alarmOn (s : State) : State :=
  let s := if s.flag F.SYS_STATE_ALARM then s else { s with conv := { s.conv with hswOcp := false } }
  let s := ((s.alarmSuspend).hornStart).setOverlay F.SYS_STATE_ALARM true
  ((s.proofAbandon 1).shipCheck).refreshHorn

/-- The data byte of an ALARM copy (R45). -/
def State.alarmData (s : State) (start : Nat) : Byte :=
  byte ((if s.alm.test then 128 else 0) + min 127 ((s.now - start) / 32768))

/-- The tick at which copy `n` falls due, the first being copy 0 (R46). -/
def copyTick (start n : Nat) : Nat :=
  match n with
  | 0 => start
  | 1 => start + msTicks 20
  | 2 => start + msTicks 40
  | k + 3 => start + secTicks (k + 1)

/-- An ALARM copy posted, and the next one's time (R45, R46). -/
def State.alarmCopy (s : State) (start : Nat) : State :=
  let n := s.alm.copies
  let s := s.postAlarm (s.field F.ALM_STATUS_KIND) (s.alarmData start)
  { s with alm := { s.alm with copies := n + 1, copyDue := some (copyTick start (n + 1)) } }

/-- The ALARM_START record (R292): start 0 from the pins, 1 re-derived after a reset. DESIGN CHOICE (log 103): 1 stands in the
record of an alarm that a warm or core reset finds active; the start that follows a cold reset is a new alarm start (R57) and
carries 0. -/
def State.postAlarmStart (s : State) (rederived : Bool) : State :=
  s.post K.ALARM_START ([byte (s.field F.ALM_STATUS_KIND), boolByte s.alm.test, boolByte rederived] ++
    beBytes 2 s.almStatus.toNat)

/-- The filtered channels as sampled, `a` and `b` for asserted: ALMA is asserted high, ALMB low (R32, R33, R58). -/
def State.setChannels (s : State) (a b : Bool) : State :=
  (s.setFlag F.ALM_STATUS_ALMA a).setFlag F.ALM_STATUS_ALMB !b

/-- The alarm start (R42): everything the sequencer does in parallel. -/
def State.localStart (s : State) (rederived : Bool) : State :=
  let s := { s with alm := { s.alm with
    start := some s.now, test := s.flag F.ALM_CFG_TEST, sent := 0, copies := 0 } }
  let s := (s.setField F.ALM_STATUS_KIND (s.field F.ALM_CFG_KIND)).setFlag F.ALM_STATUS_LOCAL true
  let s := s.setChannels true true
  let s := (s.alarmOn).alarmCopy s.now
  (s.event F.ALM_EVENT_LOCAL_START).postAlarmStart rederived

/-- An alarm of any kind stands (R52). -/
def State.anyAlarm (s : State) : Bool := s.flag F.ALM_STATUS_LOCAL || !s.alm.remotes.isEmpty || s.alm.level.isSome

/-- The hush ends: its set and timer are empty (R50, R52). -/
def State.hushEnd (s : State) : State :=
  ({ s.clearMap R.ALM_HUSHSET0 with alm := { s.alm with hushDue := none } }.setFlag F.ALM_STATUS_HUSHED false).refreshHorn

/-- VHORN is held for 5.0 s before its release, unless an alarm or alarm-ready holds it (R40, R52). -/
def State.hornHoldStart (s : State) : State :=
  if s.anyAlarm || s.flag F.ALM_STATUS_READY then s
  else { s with alm := { s.alm with hornHold := s.timer (secTicks 5) } }

/-- The overlay clears when no local and no remote alarm remains (R52). -/
def State.alarmCheck (s : State) : State :=
  if s.anyAlarm then s.refreshHorn
  else ((s.setOverlay F.SYS_STATE_ALARM false).hushEnd).hornHoldStart

/-- A local alarm ends (R51): cause 0 pins released, 1 VAUX lost. -/
def State.localEnd (s : State) (cause : Nat) : State :=
  match s.alm.start with
  | none => s
  | some t =>
    let kind := s.field F.ALM_STATUS_KIND
    let sent := s.alm.sent
    let s := (s.setFlag F.ALM_STATUS_LOCAL false).event F.ALM_EVENT_LOCAL_END
    let s := s.setChannels false false
    let s := { s with alm := { s.alm with start := none, copyDue := none,
                                          repeats := s.alm.repeats ++ [(1, s.now + msTicks 20)] },
                      link := { s.link with alarmSlot := none } }
    let s := (s.postHush 1).post K.ALARM_END
      ([byte kind, byte cause] ++ beBytes 4 ((s.now - t) / 32768) ++ beBytes 2 sent)
    s.alarmCheck

/-- The REMOTE bit follows the origins and the level alarm (R47, R255). -/
def State.refreshRemote (s : State) : State :=
  s.setFlag F.ALM_STATUS_REMOTE (!s.alm.remotes.isEmpty || s.alm.level.isSome)

/-- An ALARM frame from a peer (R47): its subtype and data byte. DESIGN CHOICE (log 104): ALM_LASTORG, "most recent remote start"
in R58, and the event that feeds nINT follow the start of a remote alarm, that is a frame from an origin whose bit was clear; a
further frame of the same origin only restarts its 5.000 s. -/
def State.remoteAlarm (s : State) (addr kind : Nat) (data : Byte) : State :=
  if s.mapBit R.ALM_ORIGIN0 addr then
    ({ s with alm := { s.alm with remotes := s.alm.remotes.map fun r : Remote =>
        if r.addr = addr then { r with last := s.now } else r } }.alarmOn)
  else
    let test := 128 ≤ data.toNat
    let s := (s.setMapBit R.ALM_ORIGIN0 addr true).setMapBit R.ALM_HUSHSET0 addr false
    let s := ({ s with alm := { s.alm with remotes := s.alm.remotes ++ [Remote.mk addr s.now s.now] } }).refreshRemote
    let s := s.setReg R.ALM_LASTORG (BitVec.ofNat 16 (addr + 64 * kind + (if test then 256 else 0)))
    let s := (s.alarmOn).event F.ALM_EVENT_REMOTE_START
    s.post K.ALARM_REMOTE [byte addr, byte kind, boolByte test, data]

/-- A remote alarm from one origin ends (R48): cause 0 CLEAR, 1 timeout. -/
def State.remoteEnd (s : State) (addr cause : Nat) : State :=
  match s.alm.remotes.find? (fun r => r.addr == addr) with
  | none => s
  | some r =>
    let s := { s.setMapBit R.ALM_ORIGIN0 addr false with
               alm := { s.alm with remotes := s.alm.remotes.filter (fun x => x.addr != addr) } }
    let s := (s.refreshRemote).event F.ALM_EVENT_REMOTE_END
    let s := s.post K.REMOTE_END ([byte addr, byte cause] ++ beBytes 2 ((s.now - r.since) / 32768))
    s.alarmCheck

/-- A hush is applied (R50): the active origins are copied and the timer starts at t_HUSH. -/
def State.applyHush (s : State) : State :=
  let s := s.setRegs R.ALM_HUSHSET0
    [s.reg R.ALM_ORIGIN0, s.reg R.ALM_ORIGIN1, s.reg R.ALM_ORIGIN2, s.reg R.ALM_ORIGIN3]
  let s := { s with alm := { s.alm with hushDue := s.timer (secTicks (60 * s.regN R.ALM_THUSH)) } }
  (s.setFlag F.ALM_STATUS_HUSHED true).refreshHorn

/-- The HUSH record of a frame sent (0) or received (1) (R50, R292). -/
def State.postHushRecord (s : State) (dir sender : Nat) : State :=
  s.post K.HUSH [byte dir, byte sender, byte s.alm.remotes.length, byte (s.regN R.ALM_THUSH)]

/-- A press of hush (R49, R255). -/
def State.hushPress (s : State) : State :=
  let s := s.event F.ALM_EVENT_HUSH_IN
  if s.flag F.SYS_STATE_ALARM then
    let s := { s.postHush 0 with alm := { s.alm with
      repeats := if s.framesMode then s.alm.repeats ++ [(0, s.now + msTicks 20)] else s.alm.repeats } }
    s.applyHush
  else s

/-- ALM_TDISC as it stood at a tick: a running disagreement keeps the value it began with (R59). -/
def State.tdiscAt (s : State) (t : Nat) : Nat :=
  ((s.alm.tdiscLog.filter fun p : Nat × Word => t < p.1).getLast?.map fun p : Nat × Word => p.2.toNat).getD
    (s.regN R.ALM_TDISC)

/-- N of R37 for a disagreement whose `samples`-th disagreeing sample is taken now. -/
def State.discThreshold (s : State) (samples : Nat) : Nat := msTicks (s.tdiscAt (s.now + 1 - samples))

/-- The discrepancy fault is entered or, while it stands, the disagreement that has reached N again is timed for R39
(R38, R40): `c` is the channel that is asserted alone. -/
def State.discFault (s : State) (c : Channel) (tdisc : Nat) : State :=
  let s := s.setChannels (c == .alma) (c == .almb)
  match s.alm.disc with
  | some d => { s with alm := { s.alm with disc := some { d with since := some s.now, last := s.now } } }
  | none =>
    let s := (s.setFlag F.ALM_STATUS_DISCF true).setFlag F.ALM_STATUS_READY true
    let s := { s with alm := { s.alm with disc := some ⟨s.now, secTicks (s.regN R.ALM_TDISC2), some s.now, s.now⟩ } }
    let s := ((s.alarmSuspend).hornStart).event F.ALM_EVENT_DISC_FAULT
    let s := s.post K.DISC_FAULT ([byte (match c with | .alma => 0 | .almb => 1)] ++ beBytes 2 tdisc)
    (s.shipCheck).refreshHorn

/-- While the fault stands, the disagreement behind it is known to have ended by this sample (R39, R40). -/
def State.discAgreed (s : State) : State :=
  { s with alm := { s.alm with disc := s.alm.disc.map fun d : Disc => { d with since := none, last := s.now - 1 } } }

/-- The channels have agreed for 1.000 s, 32,768 ticks (R40). -/
def State.discOver (s : State) : Bool :=
  match s.alm.disc with
  | some d => decide (d.last + 32768 ≤ s.now)
  | none => false

/-- The discrepancy fault ends (R40). DESIGN CHOICE (log 103): alarm-ready ends and DISC_CLEAR is recorded at every end of the
fault, also while an alarm is active or the channels agree asserted, of which R40 does not speak; VHORN is then held by the
alarm. -/
def State.discEnd (s : State) : State :=
  match s.alm.disc with
  | none => s
  | some d =>
    let sent := s.flag F.ALM_STATUS_DISCB
    let s := ((s.setFlag F.ALM_STATUS_DISCF false).setFlag F.ALM_STATUS_READY false).setFlag F.ALM_STATUS_DISCB false
    let s := { s with alm := { s.alm with disc := none } }
    (s.post K.DISC_CLEAR (beBytes 4 ((s.now - d.entry) / 32768) ++ [boolByte sent])).hornHoldStart

/-- After a warm or core reset the alarm is re-derived from the pins, and one still active is recorded again (R56). -/
def State.alarmRederive (s : State) : State :=
  let s := s.setFlag F.SYS_STATE_ALARM s.anyAlarm
  if s.flag F.ALM_STATUS_LOCAL then s.postAlarmStart true else s

end Sys2Proof.Machine
end

