-- ==== Sys2Proof/Machine/MarketOps.lean ====
section
/-!
DEFINITION. The market's shared operations (R258 to R279): generations, draw entries and the cap they form, the market
filter, what each market frame does at a peer, the unit's own offer, bids and grants, and the RX queue's consumer.
-/

namespace Sys2Proof.Machine

/-! ## Who takes part and with which generations (R258, R261) -/

/-- Market frames may be sent (R258, R331). -/
def State.marketActive (s : State) : Bool :=
  s.flag F.MKT_CFG_EN && s.framesMode && s.ownAddr.isSome && !s.inSafe && s.boot.core && !s.ledgerDead

/-- TET_EN is the only source enable set (R17, R258). -/
def State.tetOnly (s : State) : Bool :=
  let e := fun x : Flag => bitOf s.srcEn x.bit
  e F.SRC_EN_TET_EN && !e F.SRC_EN_VIN_EN && !e F.SRC_EN_VBUS_EN && !e F.SRC_EN_VPV_EN

/-- The firmware may send a withdrawal: the market is active, or an enable has just been cleared (R258, R287). -/
def State.mayWithdraw (s : State) : Bool :=
  s.live && (s.marketActive || (s.mkt.cfgDue.isSome && s.framesMode && s.ownAddr.isSome && !s.inSafe && s.boot.core &&
    !s.ledgerDead))

/-- So many more frames fit into the TX queue (R232). -/
def State.txFits (s : State) (n : Nat) : Bool := decide (s.link.txq.length + n ≤ 16)

/-- Serial-number comparison of generations (R261): `a` is newer than `b`. -/
def newer (a b : Nat) : Bool := decide (1 ≤ (a + 256 - b) % 256 ∧ (a + 256 - b) % 256 ≤ 127)

/-- The unit's own address, 0 while it has none. -/
def State.selfAddr (s : State) : Nat := s.ownAddr.getD 0

/-- The own offer generation and bid generation (R261, R280). -/
def State.offGen (s : State) : Nat := s.stallN s.selfAddr 13 1
def State.bidGen (s : State) : Nat := s.stallN s.selfAddr 35 1

/-- The states of an offer or a bid in a Stall entry (R280). -/
abbrev stNone : Nat := 0
abbrev stTent : Nat := 1
abbrev stOpen : Nat := 2
abbrev stWithdrawn : Nat := 3
abbrev stLapsed : Nat := 4
abbrev bidOpen : Nat := 1
abbrev bidGranted : Nat := 2

/-- The state of the offer a peer's entry holds, or of the own offer in the own entry. -/
def State.offState (s : State) (a : Nat) : Nat := s.stallN a 14 1

/-- An offer stands: tentative or open. -/
def State.offerStands (s : State) (a : Nat) : Bool := s.offState a == stTent || s.offState a == stOpen

/-- The own offer stands. -/
def State.offering (s : State) : Bool := s.ownAddr.isSome && s.offerStands s.selfAddr

/-- P_OFF and P_FREE of the own offer, as the own entry keeps them through every reset (R261, R278, R280). -/
def State.ownOff (s : State) : Nat := s.stallN s.selfAddr 16 2
def State.ownFree (s : State) : Nat := s.stallN s.selfAddr 18 2

/-- The own offer includes cell energy, as its flags say (R260). -/
def State.ownCell (s : State) : Bool := bitOf (BitVec.ofNat 16 (s.stallN s.selfAddr 15 1)) 0

/-- The unit may offer cell energy (R170, R263). -/
def State.cellMay (s : State) : Bool := s.flag F.MKT_CFG_CELL_EN && s.flag F.CONV_TET_CTRL_CELLOK

/-- P_CELL in 10 mW (R263): what the lower of the two estimates exceeds E_B × (1 + m) by, spent in an hour. DEDUCED (log 116): the
margin is taken from that lower one, since P_CELL is the energy above the Ballast whichever estimate is right. -/
def State.pCell (s : State) : Nat :=
  if s.cellMay then (min s.vdt.ec s.vdt.ev - s.group R.CHG_BALLAST_H 2 * (100 + s.regN R.CHG_BAL_MARGIN) * 10) / 10000 else 0

/-- The own offer may stand (R170, R258, R263): offers are enabled, the Tether converter is in SOURCE, the Tether is not the only
source, and an offer with cell energy finds some to give. -/
def State.offerKept (s : State) : Bool :=
  s.flag F.MKT_CFG_EN && s.flag F.MKT_CFG_OFFER_EN && s.field F.CONV_STATUS_TET_MODE == 3 && !s.tetOnly &&
    (!s.ownCell || s.cellMay)

/-- Bids may stand (R258). -/
def State.bidsKept (s : State) : Bool := s.flag F.MKT_CFG_EN && s.flag F.MKT_CFG_BID_EN

/-! ## Draw entries (R268, R269, R274) -/

/-- The registers of a draw entry and of its generations; there are four of each. -/
def drawReg (i : Nat) : Nat := R.MKT_DRAW0 + i % 4
def drawGReg (i : Nat) : Nat := R.MKT_DRAWG0 + i % 4

/-- A draw entry and its generations. -/
def State.draw (s : State) (i : Nat) : Word := s.reg (drawReg i)
def State.drawG (s : State) (i : Nat) : Word := s.reg (drawGReg i)

/-- The fields of a draw entry (R286). -/
def drawValid (w : Word) : Bool := bitOf w 7
def drawTent (w : Word) : Bool := bitOf w 6
def drawAddr (w : Word) : Nat := fieldOf w 0 6
def drawCur (w : Word) : Nat := fieldOf w 8 8

/-- A power in 10 mW as the current in 10 mA that it is at 24.0 V, rounded down (R268). -/
def drawCurrent (power : Nat) : Nat := power / 24

/-- The sum of the currents of the valid entries, in 10 mA: tentative ones together at most 20 mA (R268, R269). -/
def State.drawSum (s : State) : Nat :=
  let ws := (List.range 4).map s.draw
  let sum := fun t => (ws.filter fun w => drawValid w && drawTent w == t).foldl (fun a w => a + drawCur w) 0
  sum false + min 2 (sum true)

/-- MKT_DRAWCAP in 10 mA (R268, R274): 50 mA and the entries; 50 mA alone after a cut-off, then rising over 1.000 s. -/
def State.drawCap (s : State) : Nat :=
  if s.flag F.MKT_STATUS_CUTOFF || s.mkt.cutDue.isSome then 5
  else match s.mkt.rampFrom with
    | some t => 5 + s.drawSum * min 32768 (s.now - t) / 32768
    | none => 5 + s.drawSum

/-- The alarm exception acts (R275): the overlay is set, and VTET stands below 19.5 V and at or above 18.0 V. -/
def State.almExc (s : State) : Bool :=
  s.flag F.SYS_STATE_ALARM && s.flag F.SRC_STATUS_TET_Q && decide (900 ≤ s.regN R.SRC_VTET_V ∧ s.regN R.SRC_VTET_V < 975)

/-- MKT_STATUS as read (R286). -/
def State.mktStatus (s : State) : Word :=
  let w := s.reg R.MKT_STATUS
  let w := setBitOf w 0 s.offering
  let w := setBitOf w 1 (s.offering && s.offState s.selfAddr == stTent)
  let w := setBitOf w 2 (!s.mkt.bids.isEmpty)
  let w := setBitOf w 3 ((List.range 4).any fun i => drawValid (s.draw i))
  let w := setBitOf w 4 s.almExc
  setBitOf w 7 s.marketActive

/-- The DRAW byte of the offerer's entry (R280). -/
def State.noteDraw (s : State) (a i : Nat) (tent valid : Bool) : State :=
  s.stallBytes a 41 [byte (i + (if tent then 4 else 0) + (if valid then 8 else 0))]

/-- A draw entry written by the firmware (R268): its start is kept for MKT_GRANT_END. -/
def State.setDraw (s : State) (i a : Nat) (tent : Bool) (power offG bidG : Nat) : State :=
  let w := BitVec.ofNat 16 (a % 64 + (if tent then 64 else 0) + 128 + 256 * (fit 8 (drawCurrent power) % 256))
  let g := BitVec.ofNat 16 (offG % 256 + 256 * (bidG % 256))
  let s := (s.setReg (drawReg i) w).setReg (drawGReg i) g
  let d := (s.mkt.draws.filter fun x => x.idx != i) ++ [DrawStart.mk i s.now s.tetEnergy power]
  ({ s with mkt := { s.mkt with draws := d } }.noteDraw a i tent true).event F.MKT_EVENT_DRAW_CHG

/-- A draw entry cleared, with its MKT_GRANT_END record (R271, R279). -/
def State.clearDraw (s : State) (i : Nat) : State :=
  let w := s.draw i
  let g := s.drawG i
  if !drawValid w then s
  else
    let d := (s.mkt.draws.find? fun x => x.idx == i).getD ⟨i, s.now, s.tetEnergy, 0⟩
    let s := (s.setReg (drawReg i) 0).setReg (drawGReg i) 0
    let s := { s with mkt := { s.mkt with draws := s.mkt.draws.filter fun x => x.idx != i } }
    let s := (s.noteDraw (drawAddr w) i false false).event F.MKT_EVENT_DRAW_CHG
    s.post K.MKT_GRANT_END ([byte (drawAddr w), byte (g.toNat % 256), byte (g.toNat / 256)] ++ beBytes 2 d.power ++
      beBytes 4 ((s.now - d.tick) / 32768) ++ beBytes 4 ((s.tetEnergy + 2 ^ 48 - d.energy) % 2 ^ 48 % 2 ^ 32))

/-- The indices of the valid draw entries on one offerer. -/
def State.drawsOn (s : State) (a : Nat) : List Nat :=
  (List.range 4).filter fun i => drawValid (s.draw i) && drawAddr (s.draw i) == a

/-- Every draw on one offerer cleared. -/
def State.clearDraws (s : State) (a : Nat) : State := (s.drawsOn a).foldl State.clearDraw s

/-- The market filter (R271): which valid entries of a frame's sender the frame clears. -/
def State.filterHits (s : State) (f : Frame) : List Nat :=
  (s.drawsOn f.addr).filter fun i =>
    let og := (s.drawG i).toNat % 256
    let bg := (s.drawG i).toNat / 256
    let d := fun k => natAt f.data k 1
    match f.cls, f.sub with
    | 2, 0 => d 0 == og || newer (d 0) og
    | 2, 2 => some (d 0) == s.ownAddr && d 2 == bg
    | 5, _ => newer (d 0) og
    | 6, 3 => d 0 == 0x30
    | 6, 1 => bitOf (BitVec.ofNat 16 (d 0)) 2 || !bitOf (BitVec.ofNat 16 (d 0)) 4
    | _, _ => false

/-- A FIRM with a lower grant lowers the entry of the bid it names (R271). -/
def State.filterLower (s : State) (f : Frame) : State :=
  if f.cls = 3 ∧ some (natAt f.data 0 1) = s.ownAddr then
    (s.drawsOn f.addr).foldl (fun s i =>
      let w := s.draw i
      let c := drawCurrent (natAt f.data 3 2)
      if c < drawCur w then
        (s.setReg (drawReg i) (putFieldOf w 8 8 c)).event F.MKT_EVENT_DRAW_CHG
      else s) s
  else s

/-- The market filter on an accepted frame, before the RX queue (R271). -/
def State.marketFilter (s : State) (f : Frame) : State :=
  let s := (s.filterHits f).foldl (fun s i => (s.clearDraw i).event F.MKT_EVENT_WD_RX) s
  s.filterLower f

/-! ## Refresh times (R264) -/

/-- When a peer's offer and bid were last refreshed. -/
def State.peerMarket (s : State) (a : Nat) : PeerMarket :=
  (s.mkt.peers.find? fun p => p.addr == a).getD ⟨a, none, none⟩

/-- The refresh times of a peer replaced. -/
def State.setPeerMarket (s : State) (p : PeerMarket) : State :=
  { s with mkt := { s.mkt with peers := (s.mkt.peers.filter fun x => x.addr != p.addr) ++ [p] } }

/-! ## Own bids and grants -/

/-- The own bid on one offerer. -/
def State.bidOn (s : State) (a : Nat) : Option OwnBid := s.mkt.bids.find? fun b => b.addr == a

/-- The own bid on an offerer replaced. -/
def State.setBid (s : State) (x : OwnBid) : State :=
  { s with mkt := { s.mkt with bids := (s.mkt.bids.filter fun y => y.addr != x.addr) ++ [x] } }

/-- The own bid on an offerer is void, in a state of R280. -/
def State.dropBid (s : State) (a st : Nat) : State :=
  match s.bidOn a with
  | none => s
  | some _ =>
    ({ s with mkt := { s.mkt with bids := s.mkt.bids.filter fun y => y.addr != a } }.stallBytes a 36 [byte st]).stallBytes
      a 39 [0, 0]

/-- The power this unit has granted in all, in 10 mW. -/
def State.grantedSum (s : State) : Nat := s.mkt.granted.foldl (fun t a => t + s.stallN a 29 2) 0

/-- The own offer's power and what is not yet granted of it, shown and stored (R260, R280, R286). -/
def State.setOffer (s : State) (pOff pFree : Nat) : State :=
  let s := (s.setReg R.MKT_OFFER_P (word16 pOff)).setReg R.MKT_OFFER_FREE (word16 pFree)
  s.stallBytes s.selfAddr 16 (beBytes 2 pOff ++ beBytes 2 pFree)

/-- P_FREE follows the grants. -/
def State.refreshFree (s : State) : State := if s.offering then s.setOffer s.ownOff (s.ownOff - s.grantedSum) else s

/-- A bidder's bid and grant at this unit are void, in a state of R280 (R264, R277). -/
def State.dropInbid (s : State) (a st : Nat) : State :=
  if s.stallN a 25 1 = bidOpen ∨ s.stallN a 25 1 = bidGranted then
    let s := { s with mkt := { s.mkt with waiting := s.mkt.waiting.filter (· != a),
                                          granted := s.mkt.granted.filter (· != a) } }
    ((s.stallBytes a 25 [byte st]).stallBytes a 29 [0, 0]).refreshFree
  else s

/-- The allowance of a tentative draw on an offer, in 10 mW (R269). -/
def tentAllowance (pOff : Nat) : Nat := min (pOff / 10) 50

/-- CONV_TET_ISRC as R265 asks: 1.25 × the currents of the grants and of the tentative allowances on the own offer,
rounded up to 10 mA, at most 2.0 A. -/
def State.isrcNeeded (s : State) : Nat :=
  let g := s.mkt.granted.foldl (fun t a => t + drawCurrent (s.stallN a 29 2)) 0
  let t := if s.offState s.selfAddr = stTent then
      s.mkt.waiting.length * drawCurrent (tentAllowance s.ownOff) else 0
  min 200 (ceilDiv (5 * (g + t)) 4)

/-- The firmware raises CONV_TET_ISRC at once; lowering waits for the hold of R272. -/
def State.raiseIsrc (s : State) : State :=
  if s.regN R.CONV_TET_ISRC < s.isrcNeeded then s.setReg R.CONV_TET_ISRC (word16 s.isrcNeeded) else s

/-! ## Withdrawals, lapses, silence at this unit (R264, R273, R277) -/

/-- A peer's offer ends at this unit in a state of R280: P_FREE cleared, the own bid on it void, draws on it cleared
(R264, R273, R277). -/
def State.peerOfferEnd (s : State) (a st : Nat) : State :=
  let s := if s.offerStands a then (s.stallBytes a 14 [byte st]).stallBytes a 18 [0, 0] else s
  let s := s.setPeerMarket { s.peerMarket a with offerAt := none }
  (s.dropBid a st).clearDraws a

/-- A peer's bid ends at this unit in a state of R280. -/
def State.peerBidEnd (s : State) (a st : Nat) : State :=
  (s.dropInbid a st).setPeerMarket { s.peerMarket a with bidAt := none }

/-- A peer in SAFE: as a WITHDRAW of its offer and of its bids (R277). -/
def State.peerSafe (s : State) (a : Nat) : State := (s.peerOfferEnd a stWithdrawn).peerBidEnd a stWithdrawn

/-! ## Market frames received (R262) -/

/-- A stale frame: discarded and counted (R262). -/
def State.staleFrame (s : State) (a : Nat) : State :=
  (((s.stallCount a 48 2).bump R.MKT_STALECNT 1).event F.MKT_EVENT_STALE).tally K.MKT_STALE

/-- The entry is marked missing, or holds no offer yet, so that its offer generation is unknown (R262). -/
def State.offUnknown (s : State) (a : Nat) : Bool := s.stallFlag a 1 || s.offState a == stNone

/-- An offer generation is older than the one the peer's entry holds, or 128 from it (R262). -/
def State.offOlder (s : State) (a gen : Nat) : Bool :=
  !s.offUnknown a && gen != s.stallN a 13 1 && !newer gen (s.stallN a 13 1)

/-- An OFFER or a FIRM is stale: of an older generation, or of one that has been withdrawn (R262, R273). -/
def State.offerStale (s : State) (a gen : Nat) : Bool :=
  s.offOlder a gen || (!s.offUnknown a && gen == s.stallN a 13 1 && s.offState a == stWithdrawn)

/-- The 5 s in which a FIRM is to come begin for a bid that still waits (R267). DEDUCED (log 115): they count while the offer is open,
since only then a FIRM is due within 1 s (R266), and a bid on a tentative offer waits for as long as the offer stays so. -/
def State.bidClock (s : State) (a : Nat) : State :=
  match s.bidOn a with
  | some x => if s.offState a = stOpen && s.stallN a 36 1 = bidOpen then s.setBid { x with sentAt := some s.now } else s
  | none => s

/-- An OFFER taken into the sender's entry (R262, R264, R280). -/
def State.takeOffer (s : State) (f : Frame) : State :=
  let a := f.addr
  let gen := natAt f.data 0 1
  let opens := s.offState a == stTent && f.sub == 0
  let s := if s.offerStands a && gen != s.stallN a 13 1 then s.peerOfferEnd a stWithdrawn else s
  let s := s.stallBytes a 13 ([byte gen, byte (if f.sub = 1 then stTent else stOpen), byteAt f.data 5] ++
    (f.data.drop 1).take 4 ++ s.stallTime)
  let s := if opens then s.bidClock a else s
  (s.setPeerMarket { s.peerMarket a with offerAt := some s.now }).event F.MKT_EVENT_OFFER_RX

/-- The entry is marked missing, or holds no bid yet, so that its bid generation is unknown (R262). -/
def State.bidUnknown (s : State) (a : Nat) : Bool := s.stallFlag a 1 || (((s.stall a).drop 24).take 11).all (· == 0)

/-- A bid generation is older than the one the bidder's entry holds, or 128 from it (R262). -/
def State.inbidOlder (s : State) (a gen : Nat) : Bool :=
  !s.bidUnknown a && gen != s.stallN a 24 1 && !newer gen (s.stallN a 24 1)

/-- A BID to this unit is stale: on an offer that does not stand, of an older generation, or withdrawn (R262, R273). -/
def State.bidStale (s : State) (f : Frame) : Bool :=
  let a := f.addr
  let bg := natAt f.data 2 1
  !s.offering || natAt f.data 1 1 != s.offGen || s.inbidOlder a bg ||
    (!s.bidUnknown a && bg == s.stallN a 24 1 && s.stallN a 25 1 == stWithdrawn)

/-- A BID taken (R262, R266): a new one waits for its FIRM in order of acceptance; a repeated one keeps its turn, and one that has
been answered, also by a refusal, is answered again. -/
def State.takeBid (s : State) (f : Frame) : State :=
  let a := f.addr
  let bg := natAt f.data 2 1
  let same := !s.bidUnknown a && bg == s.stallN a 24 1 && s.stallN a 25 1 != stLapsed
  let s := if same then s.stallBytes a 26 ([byteAt f.data 5] ++ (f.data.drop 3).take 2)
    else
      let s := s.dropInbid a stNone
      s.stallBytes a 24 ([byte bg, byte bidOpen, byteAt f.data 5] ++ (f.data.drop 3).take 2)
  let s := s.stallBytes a 31 s.stallTime
  let s := if s.mkt.waiting.contains a then s else { s with mkt := { s.mkt with waiting := s.mkt.waiting ++ [a] } }
  (((s.setPeerMarket { s.peerMarket a with bidAt := some s.now }).raiseIsrc).event F.MKT_EVENT_BID_RX)

/-- A FIRM to this unit names a standing offer and the present bid. -/
def State.firmCurrent (s : State) (f : Frame) : Bool :=
  s.offerStands f.addr && natAt f.data 1 1 == s.stallN f.addr 13 1 && (s.bidOn f.addr).isSome &&
    natAt f.data 2 1 == s.stallN f.addr 35 1

/-- A frame to this unit names, under the standing offer, a bid generation older than the own bid's (R262). -/
def State.bidOlder (s : State) (a og bg : Nat) : Bool :=
  s.offerStands a && og == s.stallN a 13 1 && (s.bidOn a).isSome && bg != s.stallN a 35 1 && !newer bg (s.stallN a 35 1)

/-- The draw entry for an offerer: the one it has, or a free one. -/
def State.drawSlot (s : State) (a : Nat) : Option Nat :=
  match s.drawsOn a with
  | i :: _ => some i
  | [] => (List.range 4).find? fun i => !drawValid (s.draw i)

/-- A FIRM taken (R267, R268): a grant of 0 ends the bid; another becomes the draw entry. -/
def State.takeFirm (s : State) (f : Frame) : State :=
  let a := f.addr
  let p := natAt f.data 3 2
  let s := s.event F.MKT_EVENT_FIRM_RX
  match s.bidOn a with
  | none => s
  | some x =>
    if p = 0 then (s.dropBid a stNone).clearDraws a
    else if s.stallN a 36 1 = bidGranted && s.stallN a 39 2 = p && (s.drawsOn a).any (fun i => !drawTent (s.draw i)) then
      s.setBid { x with sentAt := none }
    else
      let s := (s.setBid { x with sentAt := none, repeats := 0 }).stallBytes a 36 [byte bidGranted]
      let s := s.stallBytes a 39 (beBytes 2 p)
      match s.drawSlot a with
      | some i => s.setDraw i a false p (natAt f.data 1 1) (natAt f.data 2 1)
      | none => s

/-- A WITHDRAW frame taken (R273): of an offer, of a bid to this unit, of a grant to this unit. -/
def State.takeWithdraw (s : State) (f : Frame) : State :=
  let a := f.addr
  let d := fun k => natAt f.data k 1
  let s := s.stallCount a 50 2
  match f.sub with
  | 0 =>
    if s.offOlder a (d 0) then s.staleFrame a
    else
      let s := s.peerOfferEnd a stWithdrawn
      s.stallBytes a 13 [byte (d 0), byte stWithdrawn]
  | 1 =>
    if some (d 0) != s.ownAddr then s
    else if s.inbidOlder a (d 1) then s.staleFrame a
    else (s.peerBidEnd a stWithdrawn).stallBytes a 24 [byte (d 1), byte stWithdrawn]
  | _ =>
    let mine := some (d 0) == s.ownAddr
    if s.offOlder a (d 1) || (mine && s.bidOlder a (d 1) (d 2)) then s.staleFrame a
    else if !mine || !s.firmCurrent f then s
    else (s.dropBid a stWithdrawn).clearDraws a

/-- An accepted market frame against its sender's entry (R262). -/
def State.marketFrame (s : State) (f : Frame) : State :=
  let a := f.addr
  match f.cls with
  | 5 => if s.offerStale a (natAt f.data 0 1) then s.staleFrame a else s.takeOffer f
  | 4 =>
    if some (natAt f.data 0 1) != s.ownAddr then s
    else if s.bidStale f then s.staleFrame a
    else s.takeBid f
  | 3 =>
    let mine := some (natAt f.data 0 1) == s.ownAddr
    if s.offerStale a (natAt f.data 1 1) || (mine && s.bidOlder a (natAt f.data 1 1) (natAt f.data 2 1)) then s.staleFrame a
    else if mine && s.firmCurrent f then s.takeFirm f
    else s
  | 2 => s.takeWithdraw f
  | _ => s

/-- The length and subtype a frame of R242 and R260 must have. -/
def frameFits (f : Frame) : Bool :=
  let n := f.data.length
  match f.cls, f.sub with
  | 0, _ => n == 1
  | 1, 0 => n == 0
  | 1, 1 => n == 0
  | 2, 0 => n == 1
  | 2, 1 => n == 2
  | 2, 2 => n == 3
  | 3, 0 => n == 5
  | 4, 0 => n == 6
  | 5, 0 => n == 6
  | 5, 1 => n == 6
  | 6, 0 => n == 6
  | 6, 1 => n == 4
  | 6, 2 => n == 0 || n == 8
  | 6, 3 => n == 2
  | 7, 0 => n ≤ 8
  | 7, 1 => n ≤ 8
  | _, _ => false

/-- A frame's class and subtype are not reserved (R242, R259). -/
def frameKnown (f : Frame) : Bool :=
  match f.cls with
  | 0 => true
  | 1 => decide (f.sub < 2)
  | 2 => decide (f.sub < 3)
  | 3 => f.sub == 0
  | 4 => f.sub == 0
  | 5 => decide (f.sub < 2)
  | 6 => true
  | _ => decide (f.sub < 2)

/-- A frame heard with a good CRC (R235, R242): it is accepted, held against the own address, and has its effect if its
length and subtype fit; a reserved subtype is discarded. -/
def State.receive (s : State) (f : Frame) (c : Carrier) (effect : State → State) : State :=
  if s.receives then
    let s := (s.acceptFrame f c).addrConflict f
    if frameFits f then effect s else if frameKnown f then s.discardFrame else s
  else s

/-! ## The RX queue and its consumer (R232, R233, R242, R277) -/

/-- What the firmware does with a frame it reads from the RX queue. -/
def State.firmwareFrame (s : State) (f : Frame) : State :=
  let d := fun k => natAt f.data k 1
  match f.cls, f.sub with
  | 6, 1 =>
    if bitOf (BitVec.ofNat 16 (d 0)) 2 then s.peerSafe f.addr
    else if !bitOf (BitVec.ofNat 16 (d 0)) 4 && s.offerStands f.addr then s.peerOfferEnd f.addr stWithdrawn
    else s
  | 6, 3 => if d 0 = 0x30 then s.peerSafe f.addr else s
  | 7, 0 => s.postTx 7 1 f.data
  | _, _ => if f.cls ≤ 5 then s.marketFrame f else s

/-- The firmware reads the RX queue: the core runs and waits on no FIFO (R298, R315). -/
def State.reads (s : State) : Bool := s.boot.core && s.lgr.fwWait.isEmpty

/-- The frames that wait in the RX queue are read in turn while the firmware reads. -/
def State.drainRx (s : State) : State :=
  s.link.rxq.foldl (fun s f =>
    if s.reads then { s with link := { s.link with rxq := s.link.rxq.drop 1 } }.firmwareFrame f else s) s

/-- An accepted frame of classes 2 to 7: the market filter, then the RX queue or its overflow (R233, R271). -/
def State.rxEnter (s : State) (f : Frame) : State :=
  let s := s.marketFilter f
  if 32 ≤ s.link.rxq.length then
    ((s.bump R.TET_ERRCNT5 1).event F.TET_EVENT_RXOVF).tally K.RXOVF
  else { s with link := { s.link with rxq := s.link.rxq ++ [f] } }.drainRx

/-! ## What the unit sends (R259 to R272) -/

/-- The flags byte of the own OFFER (R260). -/
def State.offerFlags (s : State) (cell : Bool) : Byte := flagsByte [cell, s.flag F.SYS_STATE_ALARM]

/-- The flags byte of the own BID (R260). -/
def State.bidFlags (s : State) : Byte :=
  flagsByte [s.flag F.SYS_STATE_ALARM, s.flag F.CHG_STATUS_BELOW_BALLAST,
    !s.flag F.SRC_STATUS_VIN_Q && !s.flag F.SRC_STATUS_VBUS_Q && !s.flag F.SRC_STATUS_VPV_Q]

/-- The own OFFER frame posted as the own entry holds it, the registers with it (R260, R264); the link refuses every OFFER of a unit
whose only source is the Tether (R258). -/
def State.sendOffer (s : State) : State :=
  if s.tetOnly then s.event F.MKT_EVENT_REFUSED
  else
    let s := s.setOffer s.ownOff s.ownFree
    let d := [byte s.offGen] ++ beBytes 2 s.ownOff ++ beBytes 2 s.ownFree ++ [flagsByte [s.ownCell, s.flag F.SYS_STATE_ALARM]]
    let s := s.postTx 5 (if s.offState s.selfAddr == stTent then 1 else 0) d
    { s with mkt := { s.mkt with offerAt := some s.now } }

/-- An own BID frame posted (R260, R267). -/
def State.sendBid (s : State) (x : OwnBid) : State :=
  (s.postTx 4 0 ([byte x.addr, byte x.offGen, byte x.gen] ++ beBytes 2 x.req ++ [x.flags])).setBid
    { x with postedAt := s.now, sentAt := none }

/-- MKT_OFFER (R279, R292). -/
def State.postMktOffer (s : State) (kind p pFree : Nat) (flags : Byte) (party : Nat) : State :=
  s.post K.MKT_OFFER ([byte kind, byte s.offGen, byte s.bidGen] ++ beBytes 2 p ++ beBytes 2 pFree ++ [flags, byte party])

/-- MKT_WITHDRAW (R279, R292). -/
def State.postMktWithdraw (s : State) (kind party : Nat) : State :=
  s.post K.MKT_WITHDRAW [byte kind, byte s.offGen, byte s.bidGen, byte party]

/-- The own offer withdrawn by frame (R270, R273): grants on it are void. -/
def State.withdrawOffer (s : State) (kind : Nat) : State :=
  if !s.offering then s
  else
    let a := s.selfAddr
    let s := s.postTx 2 0 [byte s.offGen]
    let s := s.postMktWithdraw kind 0xFF
    let s := (s.mkt.granted ++ s.mkt.waiting).foldl (fun s b => s.dropInbid b stWithdrawn) s
    let s := { s with mkt := { s.mkt with offerAt := none, tentDue := none, waiting := [], granted := [] } }
    (((s.stallBytes a 14 [byte stWithdrawn]).stallBytes a 18 [0, 0]).setReg R.MKT_OFFER_P 0).setReg R.MKT_OFFER_FREE 0

/-- An own bid withdrawn by frame (R259, R273). -/
def State.withdrawBid (s : State) (kind a : Nat) : State :=
  match s.bidOn a with
  | none => s
  | some x =>
    let s := s.postTx 2 1 [byte a, byte x.gen]
    ((s.postMktWithdraw kind a).dropBid a stWithdrawn).clearDraws a

/-- Every own bid withdrawn. -/
def State.withdrawBids (s : State) (kind : Nat) : State :=
  (s.mkt.bids.map OwnBid.addr).foldl (fun s a => s.withdrawBid kind a) s

/-- One grant withdrawn by frame (R260, R273). -/
def State.withdrawGrant (s : State) (a : Nat) : State :=
  if s.mkt.granted.contains a then
    let s := s.postTx 2 2 [byte a, byte s.offGen, byte (s.stallN a 24 1)]
    (s.postMktWithdraw 2 a).dropInbid a stWithdrawn
  else s

/-- Rank of a bid by its flags (R266): 1 ALARM, 2 BELOW_BALLAST, 3 NOSOURCE, 4 the others. -/
def bidRank (flags : Nat) : Nat :=
  if flags % 2 = 1 then 1 else if flags / 2 % 2 = 1 then 2 else if flags / 4 % 2 = 1 then 3 else 4

/-- The bid to be answered next: by rank, then in order of acceptance (R266). -/
def State.nextBid (s : State) : Option Nat :=
  s.mkt.waiting.foldl (fun best a => match best with
    | none => some a
    | some b => if bidRank (s.stallN a 26 1) < bidRank (s.stallN b 26 1) then some a else some b) none

/-- A FIRM posted, with its MKT_GRANT record on a grant or a lowered one (R266, R279). -/
def State.sendFirm (s : State) (a power : Nat) : State :=
  let old := s.stallN a 29 2
  let again := s.stallN a 25 1 != bidOpen && old == power
  let bg := s.stallN a 24 1
  let s := s.postTx 3 0 ([byte a, byte s.offGen, byte bg] ++ beBytes 2 power)
  let s := { s with mkt := { s.mkt with waiting := s.mkt.waiting.filter (· != a) } }
  if again then s.raiseIsrc
  else
    let s := if 0 < power || power < old then
        s.post K.MKT_GRANT ([byte a, byte s.offGen, byte bg] ++ beBytes 2 power ++ beBytes 2 old)
      else s
    if power = 0 then
      let s := { s with mkt := { s.mkt with granted := s.mkt.granted.filter (· != a) } }
      ((s.stallBytes a 25 [byte stNone]).stallBytes a 29 [0, 0]).refreshFree
    else
      let s := { s with mkt := { s.mkt with granted := (s.mkt.granted.filter (· != a)) ++ [a] } }
      (((s.stallBytes a 25 [byte bidGranted]).stallBytes a 29 (beBytes 2 power)).refreshFree).raiseIsrc

/-- Grants of lower rank lowered by FIRM, the newest first, until `need` more is free (R266). -/
def State.displace (s : State) (need : Nat) : List Nat → State
  | [] => s
  | a :: l =>
    let free := s.ownFree
    if need ≤ free || bidRank (s.stallN a 26 1) = 1 then s.displace need l
    else
      let g := s.stallN a 29 2
      (s.sendFirm a (g - min g (need - free))).displace need l

/-- A bid that the own entry of a peer keeps from before a cold start and that was not withdrawn (R278). -/
def State.oldBid (s : State) (a : Nat) : Bool :=
  let st := s.stallN a 36 1
  some a != s.ownAddr && (st == bidOpen || st == bidGranted || st == stLapsed)

/-- After a cold start the WITHDRAW of one stored bid, with its stored generation (R278). -/
def State.oldBidWithdraw (s : State) (a : Nat) : State :=
  if s.oldBid a && s.txFits 1 then
    ((s.postTx 2 1 [byte a, byte (s.stallN a 35 1)]).postMktWithdraw 3 a).stallBytes a 36 [byte stWithdrawn]
  else s

/-- After a cold start the WITHDRAW of every stored offer and bid, as far as the TX queue has room (R278); what was bid on the offer
is void. -/
def State.coldWithdraw (s : State) : State :=
  let s := if s.offering && s.txFits 1 then
      let s := (s.withdrawOffer 3)
      (List.range 64).foldl (fun (t : State) (a : Nat) => t.dropInbid a stWithdrawn) s
    else s
  let s := (List.range 64).foldl State.oldBidWithdraw s
  if s.offering || (List.range 64).any s.oldBid then s else { s with mkt := { s.mkt with restart := 0 } }

/-- After a core or warm start the offer again with its generation, once the unit is in SOURCE; an offer that cannot be posted
within 1 s of the start is withdrawn (R263, R278). -/
def State.offerAgain (s : State) : State :=
  if s.offering && s.offerKept then
    (if s.txFits 1 then { s with mkt := { s.mkt with restart := 0 } }.sendOffer.raiseIsrc else s)
  else if s.offering && decide (s.now < s.boot.startedAt + secTicks 1) then s
  else { s with mkt := { s.mkt with restart := 0 } }

/-- What the firmware does with its stored market state once it runs, holds an address and may send (R258, R278). -/
def State.marketRestart (s : State) : State :=
  if s.mkt.restart = 0 || !s.marketActive then s
  else if s.mkt.restart = 1 then s.coldWithdraw
  else if s.mkt.restart = 2 then
    if s.txFits s.mkt.bids.length then
      let s := { s with mkt := { s.mkt with restart := 3 } }
      (if s.bidsKept then s.mkt.bids.foldl State.sendBid s else s).offerAgain
    else s
  else s.offerAgain

/-- What must no longer stand is withdrawn (R17, R170, R258, R263, R287): an offer outside SOURCE or of a Tether-only unit, one with
cell energy that may not be given, and offers and bids whose enable is clear. -/
def State.marketKeep (s : State) : State :=
  if !s.mayWithdraw then s
  else
    let s := if s.offering && s.mkt.restart = 0 && !s.offerKept && s.txFits 1 then s.withdrawOffer 0 else s
    let s := if !s.bidsKept && s.txFits s.mkt.bids.length then s.withdrawBids 1 else s
    if (s.offering && !s.offerKept) || (!s.bidsKept && !s.mkt.bids.isEmpty) then s
    else { s with mkt := { s.mkt with cfgDue := none } }

/-- What the firmware does of its own accord for the market, at every tick. -/
def State.marketTurn (s : State) : State := (s.marketRestart).marketKeep

end Sys2Proof.Machine
end

