-- ==== Sys2Proof/Machine/PortOps.lean ====
section
/-!
DEFINITION. What the power path and the service ports share: the end of a Bunilia session (R376), of service mode (R359), the
USB pull-up (R363), the VBUS limit of R337, and what a loss of VBUS does at the ports.
-/

namespace Sys2Proof.Machine

/-- The codes of SVC_CLOSE (R389). -/
abbrev closeByCmd : Nat := 0
abbrev closeTimeout : Nat := 1
abbrev closeDetach : Nat := 2
abbrev closeSvcMode : Nat := 3
abbrev closeReset : Nat := 4
abbrev closeHost : Nat := 5

/-- The open session closes (R376): the overlay clears, the staging areas are released, the cause is recorded. -/
def State.svcClose (s : State) (cause : Nat) : State :=
  match s.svc.session with
  | none => s
  | some x =>
    let s := { s with svc := { s.svc with session := none, chunks := [] }, boot := { s.boot with stage := [] } }
    let s := ((s.setFlag F.SVC_STATUS_OPEN false).setField F.SVC_STATUS_TRANSPORT 0).setFlag F.SVC_STATUS_GEN2 false
    let s := ((s.setFlag F.SVC_STATUS_IMGSTAGED false).setReg R.SVC_FWSTAGE 0).setOverlay F.SYS_STATE_SERVICE false
    s.post K.SVC_CLOSE [byte x.transport.code, byte cause]

/-- The session closes if it is carried by one of these transports. -/
def State.svcCloseOn (s : State) (on : Transport → Bool) (cause : Nat) : State :=
  match s.svc.session with
  | some x => if on x.transport then s.svcClose cause else s
  | none => s

/-! ## The USB pull-up (R363, R369) -/

/-- The Type-C state (R334). -/
def State.tcState (s : State) : Nat := s.field F.TC_STATUS_TCSTATE

/-- The conditions of R363; a written USB_VID counts from the next connection of the pull-up on (R391). -/
def State.usbMay (s : State) : Bool :=
  s.part == .qtl6410 && s.live && s.flag F.USB_CFG_EN && (s.flag F.USB_STATUS_PULLUP || s.regN R.USB_VID != 0) && s.flag F.SRC_STATUS_VBUS_Q &&
    decide (2 ≤ s.tcState) && !s.flag F.TC_STATUS_BC12_BUSY && s.field F.TC_STATUS_BC12 != 3

/-- PD_LIMIT without a contract (R337), in 10 mA; until an image is applied the Type-C advertisement alone counts (R66). -/
def State.noContractLimit (s : State) : Nat :=
  let default := if s.flag F.USB_STATUS_SUSPENDED && s.imaged then 0 else 50
  match s.tcState with
  | 3 => default
  | 2 =>
    match s.field F.TC_STATUS_ADV with
    | 1 => if 2 ≤ s.field F.TC_STATUS_BC12 && s.imaged then 150 else default
    | 2 => 150
    | 3 => 300
    | _ => 0
  | _ => 0

/-- Suspend holds the limit at 0 (R339, R361). -/
def State.suspLim (s : State) : Bool :=
  s.flag F.USB_STATUS_SUSPENDED && s.pd.contract.isNone &&
    (s.tcState == 3 || (s.tcState == 2 && s.field F.TC_STATUS_ADV == 1 && s.field F.TC_STATUS_BC12 ≤ 1))

/-- PD_LIMIT and SUSPLIM follow the port while no contract stands; a contract sets its own limit. -/
def State.refreshLimit (s : State) : State :=
  let s := s.setFlag F.TC_STATUS_SUSPLIM s.suspLim
  match s.pd.contract with
  | some _ => s
  | none => s.setReg R.PD_LIMIT (BitVec.ofNat 16 s.noContractLimit)

/-- The lock of SYS to the start-of-frame packets (R441). -/
def State.usbLock (s : State) (x : Bool) : State := (s.setFlag F.USB_STATUS_SOFLOCK x).setFlag F.CLK_STATUS_USBLOCK x

/-- The lock ends once no start-of-frame packet has come for 3 ms, or it is no longer enabled (R441). -/
def State.usbUnlock (s : State) : State :=
  if s.flag F.USB_STATUS_SOFLOCK && (!s.flag F.CLK_CFG_USBLOCK_EN || decide (s.usb.sofAt + msTicks 3 < s.now)) then s.usbLock false
  else s

/-- The device function in its default state, unhalted, with no answer left to read (R369). -/
def State.usbDefault (s : State) : State :=
  { (s.setReg R.USB_ADDR 0).setField F.USB_STATUS_STATE 1 with
    svc := { s.svc with usbAns := none },
    usb := { s.usb with haltOut := false, haltIn := false, reply := none, pullAt := none } }

/-- The pull-up is removed (R363): the function is detached. -/
def State.usbOff (s : State) : State :=
  if s.flag F.USB_STATUS_PULLUP then
    let s := ((s.usbDefault).setFlag F.USB_STATUS_PULLUP false).setField F.USB_STATUS_STATE 0
    ((s.setFlag F.USB_STATUS_SUSPENDED false).usbLock false).refreshLimit
  else s

/-- A condition of R363 has failed. -/
def State.usbRefresh (s : State) : State := if s.usbMay then s else s.usbOff

/-! ## The pins of the port (R333, R335, R359) -/

/-- What CC1 and CC2 present once VDD18 is valid: Rd, but in BIST carrier mode the carrier on the active pin (R333, R335, R351); the
QTL6412 has no such pins (R3). -/
def State.refreshCc (s : State) : State :=
  let end_ := fun pin : Bool =>
    if s.part == .qtl6412 then CcEnd.absent
    else if s.pd.bist == 1 && s.flag F.TC_STATUS_ORIENT == pin then CcEnd.carrier else CcEnd.rd
  { s with pins := { s.pins with cc1 := end_ false, cc2 := end_ true } }

/-- SBU1 and SBU2: the lines of the UART in service mode, exchanged where CC2 is active, else high impedance (R359). -/
def State.refreshSbu (s : State) : State :=
  let line := fun sbu2 : Bool =>
    if !s.flag F.PD_STATUS_SVCMODE then SbuEnd.highZ
    else if s.flag F.TC_STATUS_ORIENT == sbu2 then SbuEnd.transmit else SbuEnd.receive
  { s with pins := { s.pins with sbu1 := line false, sbu2 := line true } }

/-! ## Service mode (R359) -/

/-- Service mode ends: causes 1 Exit Mode, 2 detach, 3 Hard Reset, 4 reset, 5 EXITSVC, 6 SVC_EN cleared. -/
def State.svcModeEnd (s : State) (cause : Nat) : State :=
  if s.flag F.PD_STATUS_SVCMODE then
    let s := (((s.setFlag F.PD_STATUS_SVCMODE false).refreshSbu).event F.PD_EVENT_SVC_EXIT).post K.PD_SVCMODE [0, byte cause]
    s.svcCloseOn (fun t : Transport => t == .uart) (if cause = 2 then closeDetach else if cause = 4 then closeReset else closeSvcMode)
  else s

/-! ## A loss of VBUS at the ports (R103, R117, R356, R363, R376) -/

/-- VBUS is lost: a new attach must be debounced, the device function and a wired session end, a Power Delivery exchange in
progress is abandoned, and the 685 ms for a detach begin. -/
def State.vbusGone (s : State) : State :=
  let s := (s.setFlag F.TC_STATUS_VBUS_LOW false).setFlag F.TC_STATUS_DEBOUNCE_OK false
  let due := if s.tcState = 2 && s.pd.hrDue.isNone then s.timer (msTicks 685) else s.pd.collapseDue
  let s := { s with path := { s.path with vbusBlocked := true },
                    pd := { s.pd with req := none, acceptAt := none, ask := none, retry := none, capsAt := none,
                                      collapseDue := due } }
  let s := s.setFlag F.PD_STATUS_TRANSITION false
  (s.svcCloseOn (fun t : Transport => t != .optical) closeDetach).usbRefresh

/-- Bus activity ends suspend, and the limit of R337 returns (R368). -/
def State.usbActive (s : State) : State :=
  let s := { s with usb := { s.usb with activeAt := s.now } }
  if s.flag F.USB_STATUS_SUSPENDED then
    ((s.setFlag F.USB_STATUS_SUSPENDED false).event F.USB_EVENT_RESUME).refreshLimit
  else s

end Sys2Proof.Machine
end

