-- ==== Sys2Proof/Machine/PathOps.lean ====
section
/-!
DEFINITION. The power path's shared operations (R99 to R130): qualification and loss of a source, which source is to carry
VMUX, the VMUX safe-low rule, and the steps of a changeover.
-/

namespace Sys2Proof.Machine

/-! ## The sources' bits and registers (R100, R128) -/

/-- The qualified bit of a source. -/
def qFlag : Source → Flag
  | .vin => F.SRC_STATUS_VIN_Q | .vbus => F.SRC_STATUS_VBUS_Q | .vpv => F.SRC_STATUS_VPV_Q | .tether => F.SRC_STATUS_TET_Q

/-- The enable of a source. -/
def enFlag : Source → Flag
  | .vin => F.SRC_EN_VIN_EN | .vbus => F.SRC_EN_VBUS_EN | .vpv => F.SRC_EN_VPV_EN | .tether => F.SRC_EN_TET_EN

/-- The arrival event of a source. -/
def arrFlag : Source → Flag
  | .vin => F.SRC_EVENT_VIN_ARR | .vbus => F.SRC_EVENT_VBUS_ARR | .vpv => F.SRC_EVENT_VPV_ARR | .tether => F.SRC_EVENT_TET_ARR

/-- The loss event of a source. -/
def lossFlag : Source → Flag
  | .vin => F.SRC_EVENT_VIN_LOSS | .vbus => F.SRC_EVENT_VBUS_LOSS | .vpv => F.SRC_EVENT_VPV_LOSS
  | .tether => F.SRC_EVENT_TET_LOSS

/-- The register that shows a source's voltage. -/
def voltReg : Source → Nat
  | .vin => R.SRC_VIN_V | .vbus => R.SRC_VBUS_V | .vpv => R.SRC_VPV_V | .tether => R.SRC_VTET_V

/-- A voltage in mV as a register or record shows it, in 20 mV. -/
def volt20 (mv : Nat) : Nat := mv / 20

/-- A source's voltage measured and shown. -/
def State.setVolt (s : State) (x : Source) (mv : Nat) : State := s.setReg (voltReg x) (word16 (volt20 mv))

/-- The source is qualified (R101). -/
def State.qualified (s : State) (x : Source) : Bool := s.flag (qFlag x)

/-- The source's bit in SRC_EN is set; VBUS_EN reads 0 on the QTL6412 (R100). -/
def State.enabled (s : State) (x : Source) : Bool := bitOf s.power.srcEn (enFlag x).bit

/-- The collapse threshold of an input in mV (R123). -/
def State.collapseAt (s : State) : Source → Nat
  | .vin => 4000
  | .vbus => max 3600 (s.path.vref * 3 / 4)
  | .vpv => 2200
  | .tether => 0

/-- The over-voltage threshold of an input in mV (R123). -/
def overAt : Source → Nat
  | .vin => 28500
  | .vbus => 23000
  | .vpv => 19000
  | .tether => 0

/-! ## Rank (R105) -/

/-- The source a SRC_RANK code names. -/
def rankSource : Nat → Option Source
  | 1 => some .vin | 2 => some .vbus | 3 => some .vpv | _ => none

/-- The ranked sources, first to third. -/
def State.rank (s : State) : List Source :=
  ([s.power.field F.SRC_RANK_FIRST, s.power.field F.SRC_RANK_SECOND, s.power.field F.SRC_RANK_THIRD]).filterMap rankSource

/-- The first source in SRC_RANK that is enabled and qualified; none while the main converter is held off or the die cools
(R105, R328, R462). -/
def State.bestSource (s : State) : Option Source :=
  if s.path.mainOff || s.flag F.THM_STATUS_COOLING then none else s.rank.find? fun x => s.enabled x && s.qualified x

/-- A planned changeover waits while the ALARM overlay is set or a sweep runs (R106). -/
def State.plannedWaits (s : State) : Bool := s.flag F.SYS_STATE_ALARM || s.flag F.CONV_STATUS_EXC

/-! ## The VMUX safe-low rule (R112, R113) -/

/-- R112 for a VMUX and an incoming source, both in mV: at or below 0.8 V, or at least 0.2 V below. -/
def safeLow (vmux src : Nat) : Bool := decide (vmux ≤ 800) || decide (vmux + 200 ≤ src)

/-- A voltage in mV as its register shows it. -/
def State.shownMv (s : State) (a : Nat) : Nat := s.regN a * 20

/-- VMUX measured and shown (R129). -/
def State.setVmux (s : State) (mv : Nat) : State := s.setReg R.PATH_VMUX (word16 (volt20 mv))

/-- PATH_STATUS as read: VMUX_LOW says whether VMUX, as last measured, stands at or below 0.8 V (R129). -/
def State.pathStatus (s : State) : Word := setBitOf (s.reg R.PATH_STATUS) 5 (decide (s.regN R.PATH_VMUX ≤ 40))

/-- The VMUX discharge on for at most 20 ms (R113). -/
def State.dischOn (s : State) : State :=
  { s.setFlag F.SRC_STATUS_DISCH true with path := { s.path with dischDue := s.timer (msTicks 20) } }

/-- The discharge turned on where R112 fails for the target, as VMUX and the source were last measured (R113). -/
def State.dischStart (s : State) : State :=
  match s.path.target with
  | none => s
  | some x => if safeLow (s.shownMv R.PATH_VMUX) (s.shownMv (voltReg x)) then s else s.dischOn

/-- The discharge off. -/
def State.dischStop (s : State) : State :=
  { s.setFlag F.SRC_STATUS_DISCH false with path := { s.path with dischDue := none } }

/-! ## Changeover (R115, R116) -/

/-- The main converter stops with its input switch open (R136). -/
def State.mainStop (s : State) : State :=
  let s := (s.setFlag F.CONV_STATUS_MAIN_ON false).setFlag F.SRC_STATUS_TRACK false
  let s := (s.setFlag F.SRC_STATUS_ILIM false).setFlag F.SRC_STATUS_VFLOOR false
  (s.setFlag F.CONV_STATUS_MAIN_SKIP false).setReg R.SRC_IIN 0

/-- No closure is under way. -/
def State.noTarget (s : State) : State :=
  { s.dischStop with path := { s.path with target := none, old := none, planned := false, closing := false, rampDue := none,
                                           dischDue := none, retryDue := none, refused := false } }

/-- The switch of a source is to close: the target of a changeover from `old` (R113, R115, R116). -/
def State.aim (s : State) (x : Source) (old : Option Source) (planned : Bool) : State :=
  ({ s.noTarget with path := { s.noTarget.path with target := some x, old := old, planned := planned } }).dischStart

/-- The active input switch opens (R115, R116). -/
def State.openSwitch (s : State) : State :=
  { (s.mainStop).setField F.SRC_STATUS_ACTIVE 0 with
    path := { s.path with closed := none, ocDue := none, ocNext := none } }

/-- The next source is chosen by R105: its switch is prepared, or none is. DESIGN CHOICE (log entry 97): a changeover that
began as planned keeps that kind when its new source is lost after the old switch has opened. -/
def State.choose (s : State) (old : Option Source) (planned : Bool) : State :=
  match s.bestSource with
  | some x => s.aim x old planned
  | none => s.noTarget

/-- A source of higher rank than the active one is qualified: PENDING shows the planned changeover that waits (R106). -/
def State.refreshPending (s : State) : State :=
  s.setFlag F.SRC_STATUS_PENDING (match s.path.closed, s.bestSource with
    | some c, some b => s.path.target.isNone && s.path.rampDue.isNone && c != b
    | _, _ => false)

/-- The target while the old switch is still closed: the best source, or none when that is the old one itself (R116). -/
def State.retargetPlanned (s : State) : State :=
  match s.bestSource with
  | some b => if s.path.closed = some b then s.noTarget else { s with path := { s.path with target := some b } }
  | none => s.noTarget

/-- The selection after a change of sources: with no switch closed the best source is chosen, before the new switch begins
to close the target follows the rank, and with one closed a better one waits as planned (R105, R106, R116). -/
def State.reselect (s : State) : State :=
  let s :=
    if s.path.closing then s
    else match s.path.target with
      | none => if s.path.closed.isSome then s else s.choose none false
      | some x =>
        if s.bestSource = some x then s
        else if s.path.closed.isSome then s.retargetPlanned
        else s.choose s.path.old s.path.planned
  s.refreshPending

/-! ## Qualification and loss (R101 to R104) -/

/-- Since when a source has been qualified. -/
def State.qualAt (s : State) (x : Source) : Nat := ((s.path.qualAt.find? fun p => p.1 == x).map (·.2)).getD s.now

/-- The hold time of a source in AON ticks (R101). -/
def State.holdTicks (s : State) (x : Source) : Nat :=
  match x with
  | .vin => msTicks (s.field F.SRC_TQUAL_VIN)
  | .vpv => msTicks (100 * s.field F.SRC_TQUAL_VPV)
  | _ => msTicks 10

/-- The 100 ms after a loss have passed, and after them the hold time (R101, R102). -/
def State.rested (s : State) (x : Source) : Bool :=
  match s.path.lostAt.find? fun p => p.1 == x with
  | some p => decide (p.2 + msTicks 100 + s.holdTicks x ≤ s.now)
  | none => true

/-- A source qualifies (R101, R104). -/
def State.qualify (s : State) (x : Source) (mv : Nat) : State :=
  let s := (((s.setVolt x mv).setFlag (qFlag x) true).event (arrFlag x)).post K.SRC_ARRIVE
    ([byte x.code] ++ beBytes 2 (volt20 mv))
  let s := { s with path := { s.path with qualAt := (s.path.qualAt.filter fun p : Source × Nat => p.1 != x) ++ [(x, s.now)] } }
  (s.reselect).powerChanged

/-- The SRC_LOSS event and record (R104, R292). -/
def State.postLoss (s : State) (x : Source) (cause mv : Nat) : State :=
  (s.event (lossFlag x)).post K.SRC_LOSS
    ([byte x.code, byte cause] ++ beBytes 2 (volt20 mv) ++ beBytes 4 ((s.now - s.qualAt x) / 32768))

/-- The switch of a source opens, whether closed or about to close, and the next source is chosen (R115, R116). -/
def State.dropSwitch (s : State) (x : Source) : State :=
  if s.path.closed = some x then (s.openSwitch).choose (some x) false
  else if s.path.target = some x then
    (if s.path.closed.isSome then s.retargetPlanned else s.choose s.path.old s.path.planned)
  else s

/-- A ship request armed for the detach is dropped once VBUS has been lost while the unit is not in STANDBY with no input
qualified (R28). -/
def State.shipArmCheck (s : State) : State :=
  if s.shipBlock = 1 || s.shipBlock = 2 then s.shipDrop else s

/-- A source is lost (R101, R102, R104): cause 1 collapse, 2 over-voltage, 3 reverse, 4 detach, 5 low power, 6 Tether
cut-off, 8 converter fault. -/
def State.lose (s : State) (x : Source) (cause mv : Nat) : State :=
  if !s.qualified x then s
  else
    let s := ((s.setVolt x mv).postLoss x cause mv).setFlag (qFlag x) false
    let s := { s with path := { s.path with
      lostAt := (s.path.lostAt.filter fun p : Source × Nat => p.1 != x) ++ [(x, s.now)] } }
    let s := if x = .vbus then s.vbusGone else s
    let s := (((s.dropSwitch x).refreshPending).powerChanged).chgVerdict
    if x = .vbus then s.shipArmCheck else s

/-! ## The Tether's sink cut-off (R123, R274, R275) -/

/-- The sink cut-off in mV: 19.5 V, or 18.0 V while the ALARM overlay is set (R274, R275). -/
def State.cutoffAt (s : State) : Nat := if s.flag F.SYS_STATE_ALARM then 18000 else 19500

/-- A TET_CUTOFF record, or, within 10 s of the last one, its tally (R274). -/
def State.postCutoff (s : State) (vtet cap : Nat) : State :=
  let recent := match s.mkt.cutRecAt with
    | some t => decide (s.now < t + secTicks 10)
    | none => false
  if recent then s.coalesce K.TET_CUTOFF
  else { s.post K.TET_CUTOFF (beBytes 2 (volt20 vtet) ++ [byte (fit 8 cap)]) with
         mkt := { s.mkt with cutRecAt := some s.now } }

/-- Every draw ends (R274). -/
def State.cutOff (s : State) (vtet : Nat) : State :=
  let cap := s.drawCap
  let s := (s.setFlag F.MKT_STATUS_CUTOFF true).setFlag F.MKT_STATUS_RAMP false
  let s := { s with mkt := { s.mkt with cutDue := none, rampFrom := none } }
  ((s.event F.MKT_EVENT_CUTOFF).bump R.MKT_CUTCNT 1).postCutoff vtet cap

/-- VTET stands below the cut-off in force: every draw ends and the Tether is lost with cause 6 (R123, R274). -/
def State.sinkCutoff (s : State) (vtet : Nat) : State :=
  if s.cutoffAt ≤ vtet || !s.qualified .tether then s
  else
    let s := if s.field F.CONV_STATUS_TET_MODE = 2 then s.cutOff vtet else s
    ((s.event F.SRC_EVENT_TRIP).bump R.SRC_TRIPCNT 1).lose .tether 6 vtet

/-- As the overlay clears, the 19.5 V cut-off applies again at once to VTET as last measured (R275). -/
def State.cutoffAgain (s : State) : State := s.sinkCutoff (s.shownMv R.SRC_VTET_V)

/-- A comparator trips at an input (R104, R123): counted, recorded, the source lost. `cmp`: 1 collapse, 2 reverse, 3
over-voltage, 4 converter; `cause` as SRC_LOSS codes it. -/
def State.trip (s : State) (x : Source) (cmp cause mv : Nat) : State :=
  if !s.qualified x then s
  else
    let s := (s.event F.SRC_EVENT_TRIP).bump R.SRC_TRIPCNT 1
    let s := if cmp = 1 || cmp = 2 then s.bump R.SRC_COLLCNT 1 else s
    (s.post K.INPUT_TRIP ([byte x.code, byte cmp] ++ beBytes 2 (volt20 mv))).lose x cause mv

/-- The 1.0 ms in which the input current is ramped to zero end (R116, R130): a disabled source is left by a forced changeover,
and in a planned one the old switch opens and VMUX is made safe. -/
def State.rampEnd (s : State) : State :=
  let t := { s with path := { s.path with rampDue := none } }
  match s.path.closed with
  | none => t
  | some x =>
    if s.enabled x then (if s.path.target.isSome then (t.openSwitch).dischStart else t)
    else (((t.postLoss x 7 (s.shownMv (voltReg x))).openSwitch).choose (some x) false).refreshPending

/-- That end comes at a tick; FEED follows (R22). -/
def State.rampTick (s : State) : State :=
  if s.elapsed s.path.rampDue then ((s.rampEnd).powerChanged).chgVerdict else s

/-! ## Writes to SRC_EN and SRC_RANK (R69, R130) -/

/-- The enables have changed: a disabled source that is active is left once its current has been ramped to zero over 1.0 ms, one
that was only prepared at once; the Tether converter follows TET_EN (R69, R100, R130). -/
def State.enablesChanged (s : State) : State :=
  let off := fun (x : Option Source) => match x with | some y => !s.enabled y | none => false
  let s := if off s.path.closed then
      (if s.path.rampDue.isSome then s else { s with path := { s.path with rampDue := s.timer (msTicks 1) } })
    else
      let s := if s.path.closed.isSome && s.path.target.isNone then { s with path := { s.path with rampDue := none } } else s
      match s.path.target with
      | some x => if off (some x) then (s.postLoss x 7 (s.shownMv (voltReg x))).dropSwitch x else s
      | none => s
  (s.reselect).powerChanged

/-! ## VPV tracking (R110) -/

/-- The tracking mode in force: 0b11 counts as 0b01. -/
def State.vpvMode (s : State) : Nat := s.power.field F.SRC_VPV_CFG_MODE

/-- The open-circuit voltage of VPV measured, stored and shown. -/
def State.setVoc (s : State) (mv : Nat) : State :=
  { s.setReg R.SRC_VPV_VOC (word16 (volt20 mv)) with path := { s.path with voc := mv } }

/-- FRAC × the open-circuit voltage in mV. -/
def State.fracVoc (s : State) : Nat := s.path.voc * s.power.field F.SRC_VPV_CFG_FRAC / 100

/-- The target that tracking starts from: SRC_VPV_VSET in mode 0b10, else the fraction of the open-circuit voltage. -/
def State.vpvStart (s : State) : Nat :=
  if s.vpvMode = 2 then s.power.regN R.SRC_VPV_VSET * 100 else s.fracVoc

/-- Tracking starts with VPV active: the target, TRACK, and the next open-circuit check in 10 min. -/
def State.trackStart (s : State) : State :=
  if s.path.closed = some .vpv then
    { s.setFlag F.SRC_STATUS_TRACK (s.flag F.CONV_STATUS_MAIN_ON) with
      path := { s.path with vpvTarget := s.vpvStart, ocDue := none,
                            ocNext := if s.vpvMode = 2 then none else s.timer (secTicks 600) } }
  else s

/-- The mode, the fraction or the set voltage of tracking has changed: the target follows, a check that runs ends where the new
mode makes none, and one is scheduled where it makes them (R110). -/
def State.trackChange (s : State) : State :=
  if s.path.closed != some .vpv then s
  else if s.vpvMode = 2 then s.trackStart
  else
    { s with path := { s.path with
      vpvTarget := s.vpvStart,
      ocNext := if s.path.ocDue.isSome || s.path.ocNext.isSome then s.path.ocNext else s.timer (secTicks 600) } }

/-! ## The main converter (R132, R136) -/

/-- The VSYS target in mV (R118): PATH_VSYSMIN on a deeply discharged cell, BAT plus 200 mV while holding, while charging BAT
plus what the charge current drops over the 12 mΩ of BATFET; at least PATH_VSYSMIN, never above 18.0 V. -/
def State.vsysTarget (s : State) : Nat :=
  let m := s.power.regN R.PATH_VSYSMIN * 100
  min 18000
    (if s.flag F.PATH_STATUS_LINEAR then m
     else if s.flag F.PATH_STATUS_HOLD then max m (s.chg.bat + 200)
     else max m (s.chg.bat + s.phaseCurrent * 12 / 1000))

/-- The region of the main converter from VMUX and the VSYS target, with the hysteresis of R132. -/
def mainRegion (old vmux vsys : Nat) : Nat :=
  if 115 * vsys < 100 * vmux then 0
  else if 100 * vmux < 85 * vsys then 2
  else if old = 0 && 110 * vsys ≤ 100 * vmux then 0
  else if old = 2 && 100 * vmux ≤ 90 * vsys then 2
  else 1

/-- The new source carries VMUX: the main converter restarts, the changeover is recorded and counted (R115, R116). `us` is
the time the cell carried VSYS. -/
def State.changeoverDone (s : State) (x : Source) (vmux us : Nat) : State :=
  let old := (s.path.old.map Source.code).getD 0
  let planned := s.path.planned
  let s := (s.noTarget).setVmux vmux
  let s := { s.setField F.SRC_STATUS_ACTIVE x.code with path := { s.path with closed := some x } }
  let s := s.setFlag F.CONV_STATUS_MAIN_ON !s.flag F.PATH_STATUS_SYS_OVP
  let s := s.setField F.CONV_STATUS_MAIN_REGION (mainRegion 3 vmux s.vsysTarget)
  let s := ((s.bump R.SRC_CHGOVRCNT 1).event F.SRC_EVENT_CHANGEOVER).post K.CHANGEOVER
    ([byte old, byte x.code, boolByte planned] ++ beBytes 4 us)
  ((s.trackStart).refreshPending).powerChanged

end Sys2Proof.Machine
end

