-- ==== Sys2Proof/Machine/Alarm.lean ====
section
/-!
DEFINITION. The alarm path's commands (R32 to R60): the channels, local and remote alarms, hush, the horn's progress.
-/

namespace Sys2Proof.Machine

/-- ALARM_PIN_EDGE (R36). -/
def execAlarmPinEdge (s : State) : Out :=
  .next (s.whenLive fun s => { s with alm := { s.alm with sysReq := s.timer (msTicks 1) } })

/-- SYS_CLOCK_REQUEST_WITHDRAW (R36). -/
def execSysClockRequestWithdraw (s : State) : Out :=
  .next (s.when (s.live && s.elapsed s.alm.sysReq && !s.flag F.ALM_STATUS_LOCAL && !s.flag F.ALM_STATUS_DISCF) fun s =>
    { s with alm := { s.alm with sysReq := none } })

/-- LOCAL_ALARM_START (R35, R42): both filtered channels are sampled asserted, outside the hold of R34. -/
def execLocalAlarmStart (s : State) : Out :=
  .next (s.when (s.live && !s.flag F.ALM_STATUS_LOCAL && !s.flag F.ALM_STATUS_VAUXHOLD) fun s =>
    { s.localStart false with alm := { (s.localStart false).alm with sysReq := none } })

/-- VHORN in mV stands at or above 90 % of CONV_HORN_V (R43). -/
def State.hornReady (s : State) (vhorn : Nat) : Bool := decide (90 * s.power.regN R.CONV_HORN_V ≤ vhorn)

/-- HORN_READY (R43): VHORN, in mV, has reached 90 % of its target. -/
def execHornReady (vhorn : Nat) (s : State) : Out :=
  .next (s.when (s.live && s.flag F.CONV_STATUS_HORN_ON && s.hornReady vhorn) fun s =>
    let s := s.setReg R.CONV_HORN_MEAS (word16 (vhorn / 20))
    let s := (s.setFlag F.CONV_STATUS_HORN_OK true).setFlag F.ALM_STATUS_HORN_OK true
    { s with alm := { s.alm with hornFrom := none }, conv := { s.conv with hornFailed := false } }.refreshHorn)

/-- HORN_FAIL (R58, R244): 3 ms after its start the boost has not reached horn-ready; VHORN and VSYS in mV. -/
def execHornFail (vhorn vsys : Nat) (s : State) : Out :=
  .next (s.when (s.live && s.flag F.CONV_STATUS_HORN_ON && !s.flag F.ALM_STATUS_HORN_OK &&
      s.elapsed (s.alm.hornFrom.map (· + msTicks 3))) fun s =>
    let s := (s.setReg R.CONV_HORN_MEAS (word16 (vhorn / 20))).setReg R.PATH_VSYS (word16 (vsys / 20))
    let s := { s with alm := { s.alm with hornFrom := none }, conv := { s.conv with hornFailed := true } }
    let s := s.event F.ALM_EVENT_HORN_FAIL
    (s.post K.HORN_FAIL (beBytes 2 (s.regN R.CONV_HORN_MEAS) ++ beBytes 2 (s.regN R.PATH_VSYS) ++
      beBytes 2 s.convStatus.toNat)).postFault 0x11 0)

/-- ALARM_COPY_DUE (R46). -/
def execAlarmCopyDue (s : State) : Out :=
  .next (s.when (s.live && s.elapsed s.alm.copyDue) fun s =>
    match s.alm.start with
    | some t => s.alarmCopy t
    | none => s)

/-- DISC_GLITCH (R37): a disagreement of `samples` disagreeing samples has ended below its threshold. -/
def execDiscGlitch (samples : Nat) (s : State) : Out :=
  .next (s.when (s.live && !s.flag F.ALM_STATUS_VAUXHOLD && decide (1 ≤ samples ∧ samples < s.discThreshold samples)) fun s =>
    let x := s.flag F.ALM_STATUS_LOCAL
    let s := (s.setChannels x x).discAgreed
    (s.bump R.ALM_GLITCHCNT 1).tally K.GLITCH)

/-- DISC_FAULT (R38, R41): the `samples`-th disagreeing sample reaches the threshold; `c` is the channel asserted alone. -/
def execDiscFault (c : Channel) (samples : Nat) (s : State) : Out :=
  .next (s.when (s.live && !s.flag F.ALM_STATUS_VAUXHOLD && decide (s.discThreshold samples ≤ samples)) fun s =>
    s.discFault c (s.tdiscAt (s.now + 1 - samples)))

/-- The disagreement behind the fault has lasted t_DISC2 and has not been told to the peers (R39). -/
def State.bcastDue (s : State) : Bool :=
  match s.alm.disc with
  | some d => s.elapsed (d.since.map (· + d.len)) && !s.flag F.ALM_STATUS_DISCB
  | none => false

/-- DISC_BROADCAST (R39). -/
def execDiscBroadcast (s : State) : Out :=
  .next (s.when (s.live && s.bcastDue) fun s =>
    (((s.setChannels (s.flag F.ALM_STATUS_ALMA) !s.flag F.ALM_STATUS_ALMA).setFlag F.ALM_STATUS_DISCB true).event F.ALM_EVENT_DISC_BCAST).postFault 0x10 0)

/-- DISC_CLEAR (R40): the channels have agreed for 1.000 s. -/
def execDiscClear (s : State) : Out :=
  .next (s.when (s.live && s.flag F.ALM_STATUS_DISCF && s.discOver && (!s.flag F.ALM_STATUS_VAUXHOLD || s.alm.vauxLost)) fun s =>
    let x := s.flag F.ALM_STATUS_LOCAL
    (s.setChannels x x).discEnd)

/-- LOCAL_ALARM_END (R51): both filtered channels are sampled deasserted, outside the hold of R34. -/
def execLocalAlarmEnd (s : State) : Out :=
  .next (s.when (s.live && s.flag F.ALM_STATUS_LOCAL && !s.flag F.ALM_STATUS_VAUXHOLD) fun s => (s.localEnd 0).cutoffAgain)

/-- HORN_RELEASE (R52): the 5.0 s hold of VHORN ends, and with it the charge suspension. -/
def execHornRelease (s : State) : Out :=
  .next (s.when (s.live && s.elapsed s.alm.hornHold) fun s => (s.hornOff).alarmRelease)

/-- ALARM_FRAME_RX (R47): from a peer; the unit's own address is no peer's. -/
def execAlarmFrameRx (addr kind : Nat) (data : List Byte) (c : Carrier) (s : State) : Out :=
  .next (s.receive ⟨0, addr, kind, data⟩ c fun s =>
    if s.ownAddr = some addr then s else s.remoteAlarm addr kind (byteAt data 0))

/-- CLEAR_FRAME_RX (R48). -/
def execClearFrameRx (addr : Nat) (data : List Byte) (c : Carrier) (s : State) : Out :=
  .next (s.receive ⟨1, addr, 1, data⟩ c fun s => ((s.event F.ALM_EVENT_CLEAR_RX).remoteEnd addr 0).cutoffAgain)

/-- REMOTE_TIMEOUT (R48): the origin has sent no ALARM for 5.000 s. -/
def execRemoteTimeout (addr : Nat) (s : State) : Out :=
  .next (s.when (s.live && s.alm.remotes.any fun r : Remote => r.addr == addr && decide (r.last + secTicks 5 ≤ s.now)) fun s =>
    (s.remoteEnd addr 1).cutoffAgain)

/-- HUSH_PRESS (R49): HUSH has been high for 50 ms. -/
def execHushPress (s : State) : Out := .next (s.whenLive State.hushPress)

/-- HUSH_FRAME_RX (R50). -/
def execHushFrameRx (addr : Nat) (data : List Byte) (c : Carrier) (s : State) : Out :=
  .next (s.receive ⟨1, addr, 0, data⟩ c fun s => ((s.event F.ALM_EVENT_HUSH_RX).applyHush).postHushRecord 1 addr)

/-- HUSH_TIMER_EXPIRY (R50). -/
def execHushTimerExpiry (s : State) : Out := .next (s.when (s.live && s.elapsed s.alm.hushDue) State.hushEnd)

/-- HUSH_CLEAR_REPEAT (R49, R51): the second copy of a HUSH or CLEAR frame falls due. -/
def execHushClearRepeat (s : State) : Out :=
  .next (s.whenLive fun s =>
    match s.alm.repeats.find? fun r : Nat × Nat => decide (r.2 ≤ s.now) with
    | some r => { s with alm := { s.alm with repeats := s.alm.repeats.erase r } }.postHush r.1
    | none => s)

/-- VAUX_HOLD_EXPIRY (R34): after 60.0 s of hold both channels count as deasserted. -/
def execVauxHoldExpiry (s : State) : Out :=
  .next (s.when (s.live && s.flag F.ALM_STATUS_VAUXHOLD && !s.alm.vauxLost &&
      s.elapsed (s.alm.vauxHold.map (· + secTicks 60))) fun s =>
    ((({ s.setChannels false false with alm := { s.alm with vauxLost := true } }).discAgreed).localEnd 1).cutoffAgain)

end Sys2Proof.Machine
end

