-- ==== Sys2Proof/Machine/CfgFields.lean ====
section
/-!
DEFINITION. The fields of the configuration-class registers, as the page tables give them: register, lowest bit, width
(R82: a HOSTLIM names one of them).
-/

namespace Sys2Proof.Machine

/-- Part 1 of the fields. -/
def cfgFields0 : List (Nat × Nat × Nat) :=
  [(R.SRC_EN, 0, 1), (R.SRC_EN, 1, 1), (R.SRC_EN, 2, 1), (R.SRC_EN, 3, 1), (R.SRC_RANK, 0, 2), (R.SRC_RANK, 2, 2),
   (R.SRC_RANK, 4, 2), (R.SRC_VIN_ILIM, 0, 9), (R.SRC_VIN_FLOOR, 0, 9), (R.SRC_VBUS_ILIM, 0, 9),
   (R.SRC_VBUS_FLOOR, 0, 9), (R.SRC_VPV_ILIM, 0, 9), (R.SRC_VPV_CFG, 0, 7), (R.SRC_VPV_CFG, 7, 2),
   (R.SRC_VPV_VSET, 0, 8), (R.SRC_TET_ILIM, 0, 8), (R.SRC_TQUAL, 0, 8), (R.SRC_TQUAL, 8, 8),
   (R.PATH_VSYSMIN, 0, 8), (R.PATH_BATOCP, 0, 5), (R.PATH_CFG, 0, 1), (R.CHG_CFG, 0, 1), (R.CHG_CFG, 1, 1),
   (R.CHG_VREG, 0, 9), (R.CHG_ICHG, 0, 8), (R.CHG_IPRE, 0, 8), (R.CHG_ITERM, 0, 6), (R.CHG_TIMERS, 0, 5),
   (R.CHG_TIMERS, 5, 5), (R.CHG_TIMERS, 10, 4), (R.CHG_HWVREG, 0, 9), (R.CHG_HWILIM, 0, 8), (R.CHG_HYST, 0, 7),
   (R.CHG_TGTMIN, 0, 10), (R.CHG_BAL_TSTBY, 0, 10), (R.CHG_BAL_TALM, 0, 8), (R.CHG_BAL_PSTBY, 0, 16),
   (R.CHG_BAL_PALM, 0, 16), (R.CHG_BAL_MARGIN, 0, 6), (R.CHG_BAL_WINDOW, 0, 5)]

/-- Part 2 of the fields. -/
def cfgFields1 : List (Nat × Nat × Nat) :=
  [(R.CONV_MAIN_CFG, 0, 1), (R.CONV_MAIN_CFG, 1, 2), (R.CONV_MAIN_CFG, 3, 1), (R.CONV_MAIN_IPK, 0, 5),
   (R.CONV_TET_VNL, 0, 9), (R.CONV_TET_DROOP, 0, 5), (R.CONV_HORN_V, 0, 8), (R.CONV_AUX, 0, 2),
   (R.CONV_KEEP, 0, 6), (R.CONV_KEEP, 6, 1), (R.TET_CFG, 0, 1), (R.TET_CFG, 1, 1), (R.MKT_CFG, 0, 1),
   (R.MKT_CFG, 1, 1), (R.MKT_CFG, 2, 1), (R.MKT_CFG, 3, 1), (R.MKT_ALMCAP, 0, 8), (R.MKT_TENTMAX, 0, 6),
   (R.ALM_CFG, 0, 2), (R.ALM_CFG, 2, 1), (R.ALM_CFG, 3, 1), (R.ALM_TDISC, 0, 9), (R.ALM_TDISC2, 0, 6),
   (R.ALM_THUSH, 0, 4), (R.VDT_CURFEW, 0, 8), (R.VDT_CURFEW, 8, 8), (R.VDT_PROOFCFG, 0, 3),
   (R.VDT_PROOFCFG, 3, 1), (R.VDT_PROOFCFG, 4, 5), (R.VDT_PROOFCFG, 9, 6), (R.VDT_DOSE, 0, 6),
   (R.VDT_PLOAD, 0, 8), (R.VDT_LIFE_NEAR, 0, 7), (R.VDT_ZLIM, 0, 8), (R.VDT_ZLIM, 8, 8), (R.LGR_CFG, 0, 6),
   (R.LGR_CFG, 8, 7), (R.PD_CFG, 0, 1), (R.PD_CFG, 1, 1), (R.PD_CFG, 2, 1), (R.PD_CFG, 3, 1), (R.PD_CFG, 4, 1),
   (R.PD_CFG, 5, 1)]

/-- Part 3 of the fields. -/
def cfgFields2 : List (Nat × Nat × Nat) :=
  [(R.PD_VMAX, 0, 8), (R.PD_PMAX, 0, 10), (R.PD_IMAX, 0, 9), (R.PD_FB_VMAX, 0, 8), (R.PD_PPS_V, 0, 10),
   (R.PD_AVS_V, 0, 8), (R.PD_VID, 0, 16), (R.PD_PID, 0, 16), (R.PD_SVID, 0, 16), (R.PD_XID_H, 0, 16),
   (R.PD_XID_L, 0, 16), (R.PD_MODEVDO_H, 0, 16), (R.PD_MODEVDO_L, 0, 16), (R.USB_CFG, 0, 1), (R.USB_CFG, 1, 1),
   (R.USB_VID, 0, 16), (R.USB_PID, 0, 16), (R.OPT_CFG, 0, 1), (R.OPT_CFG, 1, 1), (R.SVC_CFG, 0, 10),
   (R.SVC_CODE_H, 0, 16), (R.SVC_CODE_L, 0, 16), (R.TWB_CFG, 0, 1), (R.TWB_CFG, 1, 1), (R.TWB_CFG, 2, 1),
   (R.TWB_CFG, 3, 1), (R.TWB_CFG, 4, 1), (R.TWB_CFG, 5, 1), (R.TWB_CFG, 6, 1), (R.TWB_CFG, 8, 5),
   (R.TWB_ADDR1, 0, 7), (R.TWB_ADDR1, 7, 1), (R.TWB_ADDR1, 8, 1), (R.TWB_ADDR2, 0, 7), (R.TWB_ADDR2, 7, 1),
   (R.TWB_ADDR2, 8, 1), (R.TWB_ADDR3, 0, 7), (R.TWB_ADDR3, 7, 1), (R.TWB_ADDR3, 8, 1), (R.TWB_AMASK, 0, 5)]

/-- Part 4 of the fields. -/
def cfgFields3 : List (Nat × Nat × Nat) :=
  [(R.TWB_AWAKE, 0, 8), (R.TWB_CTL_CFG, 0, 1), (R.TWB_CTL_CFG, 1, 2), (R.TWB_CTL_CFG, 3, 2),
   (R.TWB_CTL_CFG, 5, 1), (R.TWB_CTL_ADDR, 0, 7), (R.TWB_CTL_PTR, 0, 16), (R.TWB_CTL_GAP, 0, 8),
   (R.CLK_CFG, 0, 1), (R.CLK_CFG, 1, 1), (R.CLK_CFG, 2, 1), (R.CLK_CFG, 3, 1), (R.CLK_CFG, 4, 2),
   (R.CLK_TZ, 0, 8), (R.CLK_HWDCFG, 0, 1), (R.CLK_HWDCFG, 1, 4), (R.CLK_HWDCFG, 5, 1), (R.THM_CFG, 0, 7),
   (R.THM_CFG, 7, 5), (R.CFG_USER0, 0, 16), (R.CFG_USER1, 0, 16), (R.CFG_USER2, 0, 16), (R.CFG_USER3, 0, 16)]

/-- Every field of a configuration-class register. -/
def cfgFields : List (Nat × Nat × Nat) :=
  cfgFields0 ++ cfgFields1 ++ cfgFields2 ++ cfgFields3

end Sys2Proof.Machine
end

