-- ==== Sys2Proof/Machine/LinkActs.lean ====
section
/-!
DEFINITION. What the Tether link does with its frames (R235 to R252): a frame sent, refused or beaten, heartbeats and the
peers they show, the census, claims, and the link's condition.
-/

namespace Sys2Proof.Machine

/-! ## The heartbeat's schedule (R245) -/

/-- The present 30 s period, as a number of its own for each of the two ways of counting, and whether the unit's offset in
it has been reached: system time while it is valid, AON from the start of transmission otherwise. -/
def State.hbNow (s : State) (addr : Nat) : Nat × Bool :=
  if s.timeValid then
    (2 * (s.clk.time / (30 * 65536)) + 1, decide (addr * 30720 ≤ s.clk.time % (30 * 65536)))
  else
    let t := s.now - s.link.txFrom
    (2 * (t / secTicks 30), decide (addr * 15360 ≤ t % secTicks 30))

/-- The heartbeat of the present period falls due. -/
def State.hbDue (s : State) : Bool :=
  match s.ownAddr with
  | some a => s.link.txOn && (s.hbNow a).2 && s.link.hbPeriod != some (s.hbNow a).1
  | none => false

/-- A period whose offset has already passed has no regular heartbeat (R245, R253). -/
def State.hbMark (s : State) : State :=
  match s.ownAddr with
  | some a => if (s.hbNow a).2 then { s with link := { s.link with hbPeriod := some (s.hbNow a).1 } } else s
  | none => s

/-- A CENSUS request posted, at most one in 60 s (R247). -/
def State.postCensus (s : State) : State :=
  let recent := match s.link.censusAt with
    | some t => decide (s.now < t + secTicks 60)
    | none => false
  if recent then s
  else
    let t := s.postTx 6 2 []
    if t.link.txq.length = s.link.txq.length then t else { t with link := { t.link with censusAt := some s.now } }

/-- The start-up request, once an address is held, by TET_CFG.CENSUS_START as it then stands (R247, R257). -/
def State.censusStart (s : State) : State :=
  if s.link.censusWanted && s.ownAddr.isSome then
    let s := { s with link := { s.link with censusWanted := false } }
    if s.flag F.TET_CFG_CENSUS_START then s.postCensus else s
  else s

/-- Tether transmission begins under the image (R70, R248, R249, R253). -/
def State.txBegin (s : State) : State :=
  let s := { s with link := { s.link with txOn := true, alarmOn := true, txFrom := s.now, hbPeriod := none,
                                          censusWanted := true } }
  let s := s.hbMark
  if s.autoAddr && s.ownAddr.isNone then
    match s.link.cand with
    | some a => s.postClaim a
    | none => match s.storedTetAddr with
      | some a => ((({ s with link := { s.link with cand := some a, how := 0 } }).setField F.TET_ADDR_ADDR a).retarget).postClaim a
      | none => s.startListening
  else s.censusStart

/-! ## Frames sent (R235 to R240) -/

/-- A tentative draw is held once the BID on a tentative offer has been sent (R269). -/
def State.bidTentDraw (s : State) (x : OwnBid) : State :=
  if s.offState x.addr = stTent ∧ (s.drawsOn x.addr).isEmpty then
    match s.drawSlot x.addr with
    | some i => s.setDraw i x.addr true (tentAllowance (s.stallN x.addr 16 2)) x.offGen x.gen
    | none => s
  else s

/-- What follows from an own frame's content once it has been sent: hush (R50), claim (R249, R250), BID (R267,
R269), and the hold of R272. -/
def State.sentEffect (s : State) (f : Frame) : State :=
  match f.cls, f.sub with
  | 0, _ => { s with alm := { s.alm with sent := s.alm.sent + 1 } }
  | 1, 0 => (s.applyHush).postHushRecord 0 f.addr
  | 2, 0 => { s with mkt := { s.mkt with isrcDue := s.timer (msTicks 50) } }
  | 2, 2 => { s with mkt := { s.mkt with isrcDue := s.timer (msTicks 50) } }
  | 3, _ =>
    if s.isrcNeeded < s.regN R.CONV_TET_ISRC then { s with mkt := { s.mkt with isrcDue := s.timer (msTicks 50) } } else s
  | 4, _ =>
    match s.bidOn (natAt f.data 0 1) with
    | some x => if x.gen = natAt f.data 2 1 then (s.bidClock x.addr).bidTentDraw x else s
    | none => s
  | 6, 2 =>
    if isClaim f then
      let first := s.link.cand == some f.addr && s.link.claimAt.isNone
      { s with link := { s.link with claimSent := some s.now,
                                     claimAt := if first then some s.now else s.link.claimAt } }
    else s
  | _, _ => s

/-- An own frame counts as sent (R235, R237, R256). -/
def State.frameSent (s : State) (f : Frame) : State :=
  let s := (s.unpend f).countStart f
  let s := s.setTec (s.regN R.TET_TEC - 1)
  ((s.bump R.TET_TXCNT 1).event F.TET_EVENT_TX_DONE).sentEffect f

/-- After 16 attempts a frame other than an ALARM is dropped (R236); a candidate's CLAIM is posted anew. -/
def State.dropTried (s : State) (f : Frame) : State :=
  if f.cls = 0 || decide (s.triesOf f < 16) then s
  else
    let s := ((s.unpend f).event F.TET_EVENT_TX_DROP).tally K.TX_DROP
    if isClaim f && s.link.cand == some f.addr then s.postStatus f else s

/-- An own frame is refused or has a bit error: it stays pending, or is dropped after 16 attempts (R234, R236, R237). -/
def State.frameFailed (s : State) (f : Frame) (x : TxFail) : State :=
  let s := s.countStart f
  let s := s.linkError (match x with | .refused => R.TET_ERRCNT4 | _ => R.TET_ERRCNT3)
  let s := ((s.setTec (s.regN R.TET_TEC + 8)).retryFrame f).dropTried f
  match x with
  | .beaten => s.fixedConflict f
  | _ => s

/-! ## The link's condition (R224, R225) -/

/-- The condition of a VTET in mV: 0 DOWN, 1 LOW, 2 IN RANGE. -/
def linkCond (vtet : Nat) : Nat := if vtet < 12000 then 0 else if vtet < 18000 then 1 else 2

/-- The condition that TET_STATUS shows. -/
def State.linkCondNow (s : State) : Nat :=
  if s.flag F.TET_STATUS_INRANGE then 2 else if s.flag F.TET_STATUS_UP then 1 else 0

/-- A LINK_CHG record, or, within 10 s of the last one, its tally (R224). -/
def State.postLinkChg (s : State) (old new vtet : Nat) : State :=
  let recent := match s.link.chgRecAt with
    | some t => decide (s.now < t + secTicks 10)
    | none => false
  if recent then s.coalesce K.LINK_CHG
  else { s.post K.LINK_CHG ([byte old, byte new] ++ beBytes 2 (volt20 vtet)) with
         link := { s.link with chgRecAt := some s.now } }

/-- The link's condition changes (R224). -/
def State.linkChanged (s : State) (vtet : Nat) : State :=
  let old := s.linkCondNow
  let new := linkCond vtet
  let s := ((s.setVolt .tether vtet).setFlag F.TET_STATUS_UP (decide (1 ≤ new))).setFlag F.TET_STATUS_INRANGE (decide (new = 2))
  let s := (s.event F.TET_EVENT_LINK_CHG).postLinkChg old new vtet
  let s := if old = 0 then s.resetThreshold else s
  let s := if new = 2 then { s with conv := { s.conv with folded := false } } else s
  s.powerChanged

/-! ## Heartbeats and peers (R246, R277) -/

/-- A peer's heartbeat: its track, its bit, its Stall entry; a missing peer is back (R246, R280). -/
def State.heartbeat (s : State) (f : Frame) : State :=
  let a := f.addr
  let missing := (s.peerTrack a).bind PeerTrack.missing
  let s := (s.setPeerTrack ⟨a, s.now, s.stampSec, none⟩).setMapBit R.TET_PEERS0 a true
  let s := (s.stallBytes a 1 (f.data.take 4 ++ s.stallTime)).setStallFlag a 3 (bitOf (BitVec.ofNat 16 (natAt f.data 0 1)) 7)
  let s := if s.stallFlag a 1 then (s.setStallFlag a 1 false).stallBytes a 9 s.stallTime else s
  match missing with
  | some t =>
    let s := (s.event F.TET_EVENT_PEER_BACK).post K.PEER_BACK ([byte a] ++ beBytes 4 ((s.now - t) / 32768))
    s.note 0x09 false false a
  | none => s

/-- A peer is found missing (R246, R277): its offer lapses, its bids and grants are void, draws on it are cleared. -/
def State.peerMissing (s : State) (p : PeerTrack) : State :=
  let a := p.addr
  let s := (s.setPeerTrack { p with missing := some s.now }).setMapBit R.TET_PEERS0 a false
  let s := (s.event F.TET_EVENT_PEER_MISS).post K.PEER_LOSS ([byte a] ++ beBytes 4 p.lastSec)
  let s := (s.setStallFlag a 1 true).stallBytes a 9 s.stallTime
  ((s.peerOfferEnd a stLapsed).peerBidEnd a stLapsed).note 0x08 false false a

/-! ## Claims (R249, R250) -/

/-- A CLAIM of another unit for this unit's held or candidate address (R250, R251). -/
def State.claimHeard (s : State) (addr uid : Nat) : State :=
  let own := Config.wbUid.toNat
  if s.autoAddr then
    if s.ownAddr = some addr || s.link.cand = some addr then
      if uid < own then s.yieldAddr addr
      else
        let recent := match s.link.claimSent with
          | some t => decide (s.now < t + secTicks 1)
          | none => false
        if own < uid && !recent then s.postStatus ⟨6, addr, 2, beBytes 8 own⟩ else s
    else s
  else if s.ownAddr = some addr then s.postHeartbeat
  else s

/-- The candidate becomes the held address, is stored in metadata slot 69, whose verifies go as `v` says, and told (R247,
R249, R278, R302). -/
def State.candHeld (s : State) (a : Nat) (v : Verify) : State :=
  let old := s.link.prevAddr
  let how := s.link.how
  let s := ((s.holdAddr a).storeTetAddr (some a)).verified v 2 fun _ => 69
  let s := (s.event F.TET_EVENT_ADDR_CHG).post K.ADDR_CHG [byte (old.getD 0xFF), byte a, byte how]
  ((s.hbMark).censusStart).marketRestart

/-! ## Level alarms (R254, R255) -/

/-- A level alarm begins: a remote alarm without an address. No rule gives its kind, its TEST bit and the data byte of a
frame that was never sent: free values. -/
def State.levelStart (s : State) : State :=
  let (v, s) := s.fresh
  let w := v.toNat
  let s := { s with alm := { s.alm with level := some s.now } }
  let s := ((s.setFlag F.TET_STATUS_LVL_IN true).refreshRemote).setReg R.ALM_LASTORG (BitVec.ofNat 16 (w % 512))
  let s := (s.alarmOn).event F.ALM_EVENT_REMOTE_START
  s.post K.ALARM_REMOTE [0xFF, byte (w / 64 % 4), byte (w / 256 % 2), byte (w / 512 % 256)]

/-- The level alarm ends (R254, R255). -/
def State.levelEnd (s : State) (t : Nat) : State :=
  let s := { s with alm := { s.alm with level := none } }
  let s := ((s.setFlag F.TET_STATUS_LVL_IN false).refreshRemote).event F.ALM_EVENT_REMOTE_END
  (s.post K.REMOTE_END ([0xFF, 2] ++ beBytes 2 ((s.now - t) / 32768))).alarmCheck

end Sys2Proof.Machine
end

