-- ==== Sys2Proof/Machine/Path.lean ====
section
/-!
DEFINITION. The power path's commands (R99 to R130, R328): sources, comparators, changeover, BATFET, VPV tracking. Voltages
are operands in mV, currents in mA.
-/

namespace Sys2Proof.Machine

/-! ## Sources (R101, R123) -/

/-- The Type-C machine is attached and VBUS is not held back by R103. -/
def State.vbusAttached (s : State) : Bool :=
  s.part == .qtl6410 && decide (2 ≤ s.field F.TC_STATUS_TCSTATE) && !s.path.vbusBlocked

/-- The qualification window of a source (R101), narrowed to the operating range of R66 until an image has been applied. PRESUMED
(log entry 98): vSafe5V is 4.75 V to 5.5 V, as USB Power Delivery has it. -/
def State.inWindow (s : State) (x : Source) (mv : Nat) : Bool :=
  match x with
  | .vin => decide (4500 ≤ mv ∧ mv ≤ if s.imaged then 28500 else 28000)
  | .vbus => (if s.imaged then decide (4000 ≤ mv ∧ mv ≤ 23000) else decide (4750 ≤ mv ∧ mv ≤ 5500)) && s.vbusAttached
  | .vpv => decide (2500 ≤ mv ∧ mv ≤ if s.imaged then 19000 else 18000)
  | .tether => decide (19500 ≤ mv)

/-- The Tether back after a cut-off waits its address × 16 ms (R274). -/
def State.cutoffWait (s : State) (x : Source) : State :=
  if x = .tether && s.flag F.MKT_STATUS_CUTOFF then
    { s with mkt := { s.mkt with cutDue := s.timer (msTicks (16 * s.selfAddr)) } }
  else s

/-- SOURCE_QUALIFY (R101, R102, R103): the source has met its conditions for `ticks` AON ticks without a break, at least its hold
time. -/
def execSourceQualify (x : Source) (mv ticks : Nat) (s : State) : Out :=
  .next (s.when (s.live && !s.qualified x && s.rested x && s.inWindow x mv && decide (s.holdTicks x ≤ ticks)) fun s =>
    (s.cutoffWait x).qualify x mv)

/-- INPUT_COLLAPSE_TRIP (R123). -/
def execInputCollapseTrip (x : Source) (mv : Nat) (s : State) : Out :=
  .next (s.when (s.live && x != .tether && decide (mv < s.collapseAt x)) fun s => s.trip x 1 1 mv)

/-- REVERSE_TRIP (R123): VMUX exceeds the input of a switch that is closed or about to close. -/
def execReverseTrip (x : Source) (mv vmux : Nat) (s : State) : Out :=
  .next (s.when (s.live && x != .tether && decide (mv + 30 < vmux) &&
      (s.path.closed == some x || s.path.target == some x)) fun s => (s.setVmux vmux).trip x 2 3 mv)

/-- INPUT_OV_TRIP (R123). -/
def execInputOvTrip (x : Source) (mv : Nat) (s : State) : Out :=
  .next (s.when (s.live && x != .tether && decide (overAt x < mv)) fun s => s.trip x 3 2 mv)

/-- BATFET conducts as an ideal diode, whatever else it was doing (R119, R123). -/
def State.batfetIdeal (s : State) : State :=
  (((s.setFlag F.PATH_STATUS_IDEAL true).setFlag F.PATH_STATUS_BATON false).setFlag F.PATH_STATUS_HOLD false).setFlag
    F.PATH_STATUS_LINEAR false

/-- VSYS measured and shown (R129). -/
def State.setVsys (s : State) (mv : Nat) : State := s.setReg R.PATH_VSYS (word16 (volt20 mv))

/-- VSYS_OV_TRIP (R123): both converters stop switching. -/
def execVsysOvTrip (vsys : Nat) (s : State) : Out :=
  .next (s.when (s.live && decide (18500 < vsys)) fun s =>
    let fed := s.carrier
    let s := (((s.setVsys vsys).event F.PATH_EVENT_SYS_OVP).setFlag F.PATH_STATUS_SYS_OVP true).event F.SRC_EVENT_TRIP
    let s := ((s.bump R.SRC_TRIPCNT 1).mainStop).post K.SYS_OVP (beBytes 2 (volt20 vsys) ++ [byte fed])
    (({ s with path := { s.path with ovDue := s.timer (msTicks 10) } }).tetMove).batfetIdeal)

/-- VSYS_OV_RESTART (R123). -/
def execVsysOvRestart (s : State) : Out :=
  .next (s.when (s.live && s.elapsed s.path.ovDue) fun s =>
    let s := { s.setFlag F.PATH_STATUS_SYS_OVP false with path := { s.path with ovDue := none } }
    (((s.setFlag F.CONV_STATUS_MAIN_ON s.path.closed.isSome).trackStart).refreshBatfet).tetMove)

/-- VPV_LOW_POWER_LOSS (R101): VPV carries VMUX and has delivered at most `uw` µW, below 5 mW, for `ticks` AON ticks, at least
60 s. -/
def execVpvLowPowerLoss (mv uw ticks : Nat) (s : State) : Out :=
  .next (s.when (s.live && s.path.closed == some .vpv && decide (uw < 5000 ∧ secTicks 60 ≤ ticks)) fun s => s.lose .vpv 5 mv)

/-! ## Changeover (R106, R112 to R116) -/

/-- A better source than the active one may take over now (R106). -/
def State.planTarget (s : State) : Option (Source × Source) :=
  match s.path.closed, s.bestSource with
  | some c, some b => if c != b && s.path.target.isNone && s.path.rampDue.isNone && !s.plannedWaits then some (c, b) else none
  | _, _ => none

/-- PLANNED_CHANGEOVER_BEGIN (R116): the input current begins its 1.0 ms ramp to zero. -/
def execPlannedChangeoverBegin (s : State) : Out :=
  .next (s.whenLive fun s =>
    match s.planTarget with
    | some (c, b) =>
      let s := s.noTarget
      ({ s with path := { s.path with target := some b, old := some c, planned := true,
                                      rampDue := s.timer (msTicks 1) } }).refreshPending
    | none => s)

/-- VMUX_SAFE (R112, R113, R114): VMUX and the incoming source as measured; where R112 holds for them the target's switch begins
to close, and where it fails the discharge is on. -/
def execVmuxSafe (vmux src : Nat) (s : State) : Out :=
  .next (s.whenLive fun s =>
    match s.path.target with
    | none => s
    | some x =>
      if s.path.closing || s.path.rampDue.isSome || s.path.retryDue.isSome then s
      else
        let s := (s.setVmux vmux).setVolt x src
        if safeLow vmux src then
          let s := if x = .vpv then s.setVoc src else s
          { s.dischStop with path := { s.dischStop.path with closing := true, refused := false } }
        else if s.path.dischDue.isSome then s
        else s.dischOn)

/-- SAFELOW_TIMEOUT (R113): after 20 ms of discharge R112 still fails, and the closure is refused. -/
def execSafelowTimeout (vmux : Nat) (s : State) : Out :=
  .next (s.when (s.live && s.elapsed s.path.dischDue && !s.path.closing) fun s =>
    match s.path.target with
    | none => s
    | some x =>
      let s := (s.setVmux vmux)
      if safeLow vmux (s.shownMv (voltReg x)) then s
      else
        let s := (s.dischStop).event F.SRC_EVENT_SAFELOW_TIMEOUT
        let s := if s.path.refused then s.coalesce K.SAFELOW_TIMEOUT
          else s.post K.SAFELOW_TIMEOUT ([byte x.code] ++ beBytes 2 (volt20 vmux))
        { s with path := { s.path with refused := true, retryDue := s.timer (msTicks 100) } })

/-- SAFELOW_RETRY (R113): each retry repeats the discharge. -/
def execSafelowRetry (s : State) : Out :=
  .next (s.when (s.live && s.elapsed s.path.retryDue) fun s =>
    { s with path := { s.path with retryDue := none } }.dischStart)

/-- CHANGEOVER_COMPLETE (R115): VMUX has reached 90 % of the new source; `us` is the time the cell carried VSYS. -/
def execChangeoverComplete (vmux us : Nat) (s : State) : Out :=
  .next (s.whenLive fun s =>
    match s.path.target with
    | none => s
    | some x =>
      if s.path.closing && decide (9 * (s.regN (voltReg x) * 20) ≤ 10 * vmux) then s.changeoverDone x vmux us else s)

/-- MAIN_CONVERTER_FAULT (R328): VSYS stays low with the converter switching; the third trip within 60 s holds the converter
off. `mv` is the input's voltage. -/
def execMainConverterFault (vsys mv : Nat) (s : State) : Out :=
  .next (s.when (s.live && s.flag F.CONV_STATUS_MAIN_ON && decide (vsys + 300 < s.power.regN R.PATH_VSYSMIN * 100)) fun s =>
    match s.path.closed with
    | none => s
    | some x =>
      let l := (s.path.mainTrips.filter fun t => decide (s.now < t + secTicks 60)) ++ [s.now]
      ({ s.setVsys vsys with path := { s.path with mainTrips := l, mainOff := decide (3 ≤ l.length) } }).trip x 4 8 mv)

/-! ## BATFET (R119 to R124) -/

/-- IDEAL_DIODE_CONDUCT (R119): VSYS has fallen 100 mV below BAT; `ma` is the current the cell then gives, above 1.7 A through a
fully-on BATFET. -/
def execIdealDiodeConduct (vsys bat ma : Nat) (s : State) : Out :=
  .next (s.when (s.live && !s.flag F.PATH_STATUS_BATOPEN && decide (vsys + 100 ≤ bat)) fun s =>
    let s := (s.setVsys vsys).batfetIdeal
    { s.setFlag F.PATH_STATUS_BATON (decide (1700 < ma)) with
      chg := { s.chg with bat := bat }, path := { s.path with outMa := ma } })

/-- SUPPLEMENT_START (R109, R120, R140): the charge current has been reduced to zero and the cell helps the source; a sourcing guard
fails. -/
def execSupplementStart (s : State) : Out :=
  .next (s.when (s.live && s.flag F.SYS_STATE_FEED && !s.flag F.PATH_STATUS_SUPPLEMENT) fun s =>
    let s := { s with chg := { s.chg with left := some 0 } }
    let s := ((s.setFlag F.PATH_STATUS_SUPPLEMENT true).event F.PATH_EVENT_SUPP_START).batfetIdeal
    ((s.refreshReduced).refreshIbat).tetMove)

/-- SUPPLEMENT_END (R120). -/
def execSupplementEnd (s : State) : Out :=
  .next (s.when (s.live && s.flag F.PATH_STATUS_SUPPLEMENT) fun s =>
    (((s.setFlag F.PATH_STATUS_SUPPLEMENT false).event F.PATH_EVENT_SUPP_END).refreshBatfet).tetMove)

/-- Which case of R121 holds: 1 discharge over-current, 2 VSYS below 2.0 V, 0 neither. -/
def State.batTripCause (s : State) (ma vsys : Nat) : Nat :=
  if s.power.regN R.PATH_BATOCP * 500 < ma then 1 else if vsys < 2000 then 2 else 0

/-- BATFET_TRIP (R121): `ma` is the discharge current. -/
def execBatfetTrip (ma vsys : Nat) (s : State) : Out :=
  .next (s.when (s.live && !s.flag F.PATH_STATUS_BATOPEN && s.batTripCause ma vsys != 0) fun s =>
    let cause := s.batTripCause ma vsys
    let s := ((s.setVsys vsys).setFlag F.PATH_STATUS_BATOPEN true).event
      (if cause = 1 then F.PATH_EVENT_BATOCP else F.PATH_EVENT_SYS_SHORT)
    let s := if s.sameFault s.path.batTry 1 then s.coalesce K.SYS_SHORT
      else s.post K.SYS_SHORT ([byte cause] ++ beSigned 2 (-((ma / 10 : Nat) : Int)) ++ beBytes 2 (volt20 vsys))
    ({ s with path := { s.path with batRetry := s.timer (secTicks 1) } }).refreshBatfet)

/-- BATFET_RETRY (R121). -/
def execBatfetRetry (s : State) : Out :=
  .next (s.when (s.live && s.elapsed s.path.batRetry) fun s =>
    ({ s.setFlag F.PATH_STATUS_BATOPEN false with
       path := { s.path with batRetry := none, batTry := some s.now } }).refreshBatfet)

/-- LINEAR_END (R124): BAT has reached PATH_VSYSMIN − 0.2 V. -/
def execLinearEnd (bat : Nat) (s : State) : Out :=
  .next (s.when (s.live && s.flag F.PATH_STATUS_LINEAR && s.phaseN != phAbsent &&
      decide (s.power.regN R.PATH_VSYSMIN * 100 ≤ bat + 200)) fun s =>
    ({ s with chg := { s.chg with bat := bat } }.event F.PATH_EVENT_LINEAR_END).refreshBatfet)

/-! ## VPV tracking (R110) -/

/-- VPV_PO_STEP (R110): the target moves by 1 % of the last open-circuit voltage, up or down as the observation says, within
±10 % of FRAC × that voltage. -/
def execVpvPoStep (up : Bool) (s : State) : Out :=
  .next (s.when (s.live && s.flag F.SRC_STATUS_TRACK && s.vpvMode == 0) fun s =>
    let d := s.path.voc / 100
    let t := if up then s.path.vpvTarget + d else s.path.vpvTarget - d
    { s with path := { s.path with vpvTarget := clampNat (s.fracVoc * 90 / 100) (s.fracVoc * 110 / 100) t } })

/-- VPV_OC_CHECK (R110): deferred while the ALARM overlay is set or a sweep runs. -/
def execVpvOcCheck (s : State) : Out :=
  .next (s.when (s.live && s.path.closed == some .vpv && s.elapsed s.path.ocNext && !s.plannedWaits) fun s =>
    { s.setFlag F.SRC_STATUS_TRACK false with path := { s.path with ocNext := none, ocDue := s.timer (msTicks 20) } })

/-- VPV_OC_CHECK_END (R110): the settled VPV is stored. -/
def execVpvOcCheckEnd (mv : Nat) (s : State) : Out :=
  .next (s.when (s.live && s.elapsed s.path.ocDue) fun s =>
    (s.setVoc mv).trackStart)

end Sys2Proof.Machine
end

