-- ==== Sys2Proof/Machine/Opt.lean ====
section
/-!
DEFINITION. The optical receiver (R384 to R387), and the expiry of the lockout of R374.
-/

namespace Sys2Proof.Machine

/-- An event of the optical receiver: enabled, with SYS to decode for it. -/
def State.onOpt (s : State) (f : State → State) : State := s.when (s.live && s.flag F.OPT_CFG_EN) f

/-- The ambient level as the tracker shows it, in 10 nA (R384). -/
def State.ambient (s : State) (amb : Nat) : State := s.setReg R.OPT_AMB (word16 amb)

/-- An optical session is open. -/
def State.optSession (s : State) : Bool :=
  match s.svc.session with
  | some x => x.transport == .optical
  | none => false

/-- SUPPLIED and SAFE listen continuously (R385). -/
def State.optAlways (s : State) : Bool := s.field F.SYS_STATE_PSTATE == 2 || s.inSafe

/-- The receiver listens continuously (R385). -/
def State.optCont (s : State) : Bool :=
  s.flag F.OPT_CFG_EN && (s.optAlways || s.opt.listenDue.isSome || s.optSession)

/-- OPT_PREAMBLE_DETECT (R385): a frame comes in; a unit in STANDBY listens continuously from now on. -/
def execOptPreambleDetect (amb : Nat) (s : State) : Out :=
  .next (s.onOpt fun s => s.when (!s.flag F.OPT_STATUS_SETTLING) fun s =>
    let s := (s.ambient amb).setFlag F.OPT_STATUS_RX true
    if s.optCont then s else { s with opt := { s.opt with listenDue := s.timer (secTicks 10) } })

/-- OPT_LISTEN_TIMEOUT (R385). -/
def execOptListenTimeout (s : State) : Out :=
  .next (s.when (s.live && s.elapsed s.opt.listenDue && !s.optSession) fun s =>
    { s with opt := { s.opt with listenDue := none } })

/-- The bits of a stretch of Manchester half-bits, light on as true: 1 is low then high, 0 high then low; none where a bit has
no transition (R386). -/
def manchester : List Bool → Option (List Bool)
  | [] => some []
  | [_] => none
  | a :: b :: l => if a = b then none else (manchester l).map fun r => b :: r

/-- Bits as bytes, the most significant first. -/
def bitBytes (l : List Bool) : List Byte :=
  (List.range (l.length / 8)).map fun k => byte (ofBits ((l.drop (8 * k)).take 8))

/-- The payload that the half-bits after the sync word carry: length 1 to 64, payload, and the CRC-16 over both (R386). -/
def optPayload (half : List Bool) : Option (List Byte) :=
  (manchester half).bind fun l =>
    let b := bitBytes l
    let n := natAt b 0 1
    if l.length % 8 = 0 && 1 ≤ n && n ≤ 64 && b.length == n + 3 && natAt b (n + 1) 2 == crc16 (b.take (n + 1)) then
      some ((b.drop 1).take n)
    else none

/-- OPT_FRAME_RX (R386): the half-bits after a sync word make an accepted frame; its payload, one Bunilia command, comes
next. A unit in STANDBY hears none before it has seen a preamble (R385). -/
def execOptFrameRx (half : List Bool) (s : State) : Out :=
  .next (s.onOpt fun s => s.when (s.optCont && !s.flag F.OPT_STATUS_SETTLING) fun s =>
    match optPayload half with
    | none => s
    | some p =>
      let s := ((s.setFlag F.OPT_STATUS_RX false).event F.OPT_EVENT_FRAME_OK).bump R.OPT_RXCNT 1
      { s with opt := { s.opt with listenDue := s.timer (secTicks 10), frame := p } })

/-- OPT_FRAME_ERROR (R386): the half-bits after a sync word lack a transition, or their length or CRC is bad. -/
def execOptFrameError (half : List Bool) (s : State) : Out :=
  .next (s.onOpt fun s => s.when (s.optCont && !s.flag F.OPT_STATUS_SETTLING && (optPayload half).isNone) fun s =>
    (((s.setFlag F.OPT_STATUS_RX false).event F.OPT_EVENT_FRAME_ERR).bump R.OPT_ERRCNT 1).tally K.OPT_ERR)

/-- OPT_FLOOD (R387): the frame in progress is discarded, and the receiver settles. -/
def execOptFlood (amb : Nat) (s : State) : Out :=
  .next (s.onOpt fun s =>
    let s := (s.ambient amb).setFlag F.OPT_STATUS_RX false
    let s := (s.setFlag F.OPT_STATUS_FLOOD true).setFlag F.OPT_STATUS_SETTLING true
    let s := { s with opt := { s.opt with floodAt := some s.now } }
    ((s.event F.OPT_EVENT_FLOOD).bump R.OPT_FLOODCNT 1).tally K.OPT_FLOOD)

/-- OPT_SETTLE_END (R387): the ambient level has stayed within ±10 % for 50 ms, counted in AON. -/
def execOptSettleEnd (amb : Nat) (s : State) : Out :=
  .next (s.onOpt fun s => s.when (s.elapsed (s.opt.floodAt.map (· + msTicks 50))) fun s =>
    let s := ((s.ambient amb).setFlag F.OPT_STATUS_FLOOD false).setFlag F.OPT_STATUS_SETTLING false
    { s with opt := { s.opt with floodAt := none } })

/-- SVC_LOCKOUT_EXPIRY (R374). -/
def execSvcLockoutExpiry (s : State) : Out :=
  .next (s.when (s.live && s.elapsed s.svc.lockDue) fun s =>
    { s.setFlag F.SVC_STATUS_LOCKOUT false with svc := { s.svc with lockDue := none } })

end Sys2Proof.Machine
end

