-- ==== Sys2Proof/Machine/ConvOps.lean ====
section
/-!
DEFINITION. The converters' shared operations: VAUX with nRSTO and the hold of R34 (R34, R145, R146), what the inputs and the
Tether converter may carry (R107 to R110, R138 to R140).
-/

namespace Sys2Proof.Machine

/-- The VAUX setting of a VSEL code in mV (R146). -/
def vauxMv (vsel : Nat) : Nat := match vsel % 4 with | 0 => 1800 | 1 => 2500 | 2 => 3000 | _ => 3300

/-- The VAUX setting in force, in mV. -/
def State.vauxSet (s : State) : Nat := vauxMv (s.field F.CONV_AUX_VSEL)

/-- VAUX is out of regulation: nRSTO is asserted and both alarm channels are held from now on (R34, R145). -/
def State.vauxLow (s : State) : State :=
  let s := { (s.setFlag F.CONV_STATUS_AUX_OK false).event F.CONV_EVENT_AUX_UV with
             pins := { s.pins with nrsto := false }, conv := { s.conv with nrstDue := none } }
  if s.flag F.ALM_STATUS_VAUXHOLD then s
  else { s.setFlag F.ALM_STATUS_VAUXHOLD true with alm := { s.alm with vauxHold := some s.now, vauxLost := false } }

/-- nRSTO may be released: VAUX is on, no pulse of the host watchdog and no wait after a change of setting runs (R145, R146,
R452). -/
def State.nrstFree (s : State) : Bool :=
  let past := fun t : Option Nat => match t with | some d => decide (d ≤ s.now) | none => true
  !s.conv.auxOff && !s.thm.railsOff && s.conv.auxRetry.isNone && past s.conv.nrstDue && past s.clk.pulseDue

/-- nRSTO released: the hold of R34 ends and the pins count again (R34, R145). -/
def State.nrstRelease (s : State) : State :=
  let s := (s.setFlag F.CONV_STATUS_AUX_OK true).setFlag F.ALM_STATUS_VAUXHOLD false
  { s with pins := { s.pins with nrsto := true }, conv := { s.conv with nrstDue := none },
           clk := { s.clk with pulseDue := none }, alm := { s.alm with vauxHold := none, vauxLost := false } }

/-- An applied VAUX setting that differs from the stored one (R146): nRSTO is held over the move at 1 V/ms and 10 ms more, and
the new value is stored. -/
def State.vauxApply (s : State) : State :=
  let new := s.field F.CONV_AUX_VSEL
  let old := s.storedVaux
  if new = old then s
  else
    let d := (vauxMv new - vauxMv old) + (vauxMv old - vauxMv new)
    { s.storeVaux new with pins := { s.pins with nrsto := false },
                           conv := { s.conv with nrstDue := s.timer (ceilDiv (d * 32768) 1000000 + msTicks 10) } }

/-! ## How much each source may give, and what the Tether converter may carry (R107 to R110, R138 to R140) -/

/-- A proof test's load is on: the unit draws nothing from its sources (R216). -/
def State.proofLoad (s : State) : Bool := match s.vdt.proof with | some p => p.load | none => false

/-- The proof load in mA: VDT_PLOAD as the test began with it, at most 1.0 W at VSYS (R216, R220). -/
def State.proofMa (s : State) : Nat :=
  match s.vdt.proof with
  | some p => if p.load then min p.pload (1000000 / max 1 (s.shownMv R.PATH_VSYS)) else 0
  | none => 0

/-- The current limit in force at the closed input switch, in mA (R108). -/
def State.inputLimit (s : State) : Nat :=
  match s.path.closed with
  | some .vin => s.power.regN R.SRC_VIN_ILIM * 10
  | some .vbus => min (s.power.regN R.SRC_VBUS_ILIM) (s.power.regN R.PD_LIMIT) * 10
  | some .vpv => s.power.regN R.SRC_VPV_ILIM * 10
  | _ => 0

/-- The voltage floor in force at the closed input switch, in mV; VPV's is the tracking target (R108, R110). -/
def State.inputFloor (s : State) : Nat :=
  match s.path.closed with
  | some .vin => s.power.regN R.SRC_VIN_FLOOR * 100
  | some .vbus => s.power.regN R.SRC_VBUS_FLOOR * 100
  | some .vpv => s.path.vpvTarget
  | _ => 0

/-- The most that the main converter draws from its input, in mA: nothing while it is off, during an open-circuit check and under
a proof test's load (R109, R110, R216). -/
def State.inputMost (s : State) : Nat :=
  if s.flag F.CONV_STATUS_MAIN_ON && s.path.ocDue.isNone && !s.proofLoad then s.inputLimit else 0

/-- The closed input's voltage stands at its floor. -/
def State.atFloor (s : State) : Bool :=
  match s.path.closed with
  | some x => decide (s.shownMv (voltReg x) ≤ s.inputFloor)
  | none => false

/-- The main converter holds its input at the limit or the floor: the current never above the limit, ILIM and VFLOOR for the
constraint that acts (R109). -/
def State.holdInput (s : State) : State :=
  let most := s.inputMost / 10
  let s := if most < s.regN R.SRC_IIN then s.setReg R.SRC_IIN (BitVec.ofNat 16 most) else s
  (s.setFlag F.SRC_STATUS_ILIM (decide (0 < most ∧ s.regN R.SRC_IIN = most))).setFlag F.SRC_STATUS_VFLOOR
    (decide (0 < most) && s.atFloor)

/-- The most that SINK draws from VTET, in 10 mA: the lowest of SRC_TET_ILIM, CONV_TET_ISET and the draw the market allows
(R107, R138), in the alarm exception also MKT_ALMCAP (R275); nothing under a proof test's load (R216). -/
def State.sinkMost (s : State) : Nat :=
  if s.proofLoad then 0
  else
    min (min (s.power.regN R.SRC_TET_ILIM) (s.power.regN R.CONV_TET_ISET))
      (if s.almExc then min s.drawCap (s.regN R.MKT_ALMCAP) else s.drawCap)

/-- The most that SOURCE delivers into VTET, in 10 mA: the lower of CONV_TET_ISRC and 2.0 A and what 48 W allow at VTET, times
clamp(2F, 0, 1); 0.2 A while folded back (R139, R140, R461). -/
def State.sourceMost (s : State) : Nat :=
  let i := min (min (s.power.regN R.CONV_TET_ISRC) 200) (4800000 / max 1 (s.shownMv R.SRC_VTET_V))
  let i := i * min 100 (2 * s.field F.THM_FACTOR_F) / 100
  if s.conv.folded then min 20 i else i

/-- The Tether converter's current, signed in 10 mA and positive when sourcing, kept within what its mode allows at once where the
allowance falls; TET_ILIM while it stands at its limit (R135, R138, R139). -/
def State.tetHold (s : State) : State :=
  let m := s.field F.CONV_STATUS_TET_MODE
  let i := toSigned16 (s.reg R.CONV_TET_I)
  let j : Int := if m = 2 then max i (-(s.sinkMost : Int)) else if m = 3 then min i (s.sourceMost : Int) else 0
  (s.setReg R.CONV_TET_I (ofSigned16 j)).setFlag F.CONV_STATUS_TET_ILIM
    ((m == 2 && decide (j = -(s.sinkMost : Int))) || (m == 3 && decide (j = (s.sourceMost : Int))))

/-- VSYS stands below 3.0 V or no longer (R150): sourcing stops and the horn folds back, or both may return. -/
def State.ladder (s : State) (low : Bool) : State :=
  ({ s with conv := { s.conv with vsysLow := low } }.refreshFold).tetMove

end Sys2Proof.Machine
end

