-- ==== Sys2Proof/Machine/ChgOps.lean ====
section
/-!
DEFINITION. The charger's shared operations (R154 to R172): detection, faults and their clearing, termination, zones, the
Ballast.
-/

namespace Sys2Proof.Machine

/-! ## Detection, resumption, termination (R155, R156, R158) -/

/-- BAT measured, in mV. -/
def State.setBat (s : State) (bat : Nat) : State := { s with chg := { s.chg with bat := bat } }.refreshBatfet.chgVerdict

/-- DETECT begins, or waits as a suspension while a cause of R167 holds; where R154 fails the charger stays OFF. The phase
before DETECT is kept for CELL_ABSENT. -/
def State.chgDetect (s : State) : State :=
  if !s.chgAllowed then s.chgOff
  else
    let s := { s with chg := { s.chg with absentDue := none } }
    if s.chgHeld then { s with chg := { s.chg with prior := phDetect } }.enterPhase phSusp
    else { s with chg := { s.chg with prior := s.phaseN } }.enterPhase phDetect

/-- The cell is absent (R155): the first absence after a present cell is recorded. -/
def State.cellAbsent (s : State) : State :=
  let before := s.chg.prior
  let s := (s.enterPhase phAbsent).event F.CHG_EVENT_ABSENT
  let s := if s.chg.cellSeen then s.post K.CELL_ABSENT (beBytes 2 (volt20 s.chg.bat) ++ [byte before]) else s
  ({ s with chg := { s.chg with cellSeen := false, absentDue := s.timer (secTicks 60) } }).chgVerdict

/-- The last suspension cause has ended: the next phase by R158, whatever the phase before it was (R167). -/
def State.chgResume (s : State) : State :=
  if s.phaseN != phSusp || s.chgHeld then s
  else (s.event F.CHG_EVENT_RESUME).enterPhase s.nextPhase

/-- A lowered VREG below BAT passes through TERMINATION to REST (R172). -/
def State.vregCheck (s : State) : State :=
  if s.charging && decide (s.series * s.vreg < s.chg.bat) then s.chgTerminate else s

/-- The figures the charger follows have changed: current, REDUCED, VREG (R165, R166, R172). -/
def State.chgFigures (s : State) : State := (((s.refreshReduced).refreshIbat).refreshBatfet).vregCheck

/-- CHG_SOC is written (R159, R163): LIMITED operation may end. -/
def State.setSoc (s : State) (v : Word) : State :=
  (((({ s.setReg R.CHG_SOC v with chg := { s.chg with socAt := some s.now } }).refreshLimited).chgFigures).tetMove)

/-! ## Faults (R169) -/

/-- FAULT entered (R169): counted, recorded, Tether sourcing with CELLOK stopped by BAT_OV. -/
def State.chgFault (s : State) (cause : Nat) : State :=
  let before := s.phaseN
  let s := (s.enterPhase phFault).event F.CHG_EVENT_FAULT
  let s := { s with chg := { s.chg with faultAt := some s.now, fault := cause } }.bump R.CHG_FAULTCNT 1
  let s := s.post K.CHG_FAULT ([byte cause, byte before] ++ beBytes 2 (volt20 s.chg.bat) ++
    beBytes 2 (s.regN R.CHG_FAULTCNT))
  (s.tetMove).chgVerdict

/-- A fault is cleared; DETECT follows (R169). -/
def State.chgUnfault (s : State) : State :=
  let s := { s with chg := { s.chg with faultAt := none, fault := 0 } }
  let s := if s.phaseN = phFault then s.chgDetect else s
  (s.tetMove).refreshCell 3

/-- A clearing event (R169): it clears a timeout, and BAT_OV once BAT is below n × CHG_VREG. -/
def State.chgClear (s : State) : State :=
  if s.chg.fault = 1 || s.chg.fault = 2 || s.chg.fault = 3 ||
      (s.chg.fault = 4 && decide (s.chg.bat < s.series * (s.regN R.CHG_VREG * 10))) then s.chgUnfault
  else s

/-- One full charge requested (R164). -/
def State.chgFullRequest (s : State) : State :=
  if s.flag F.CHG_STATUS_FULLREQ then s else (s.setFlag F.CHG_STATUS_FULLREQ true).refreshPartial

/-- A temperature as a record shows it, in 0.1 °C; an open or shorted thermistor as 0x8000 (R196). -/
def tempBytes (t : Option Int) : List Byte := match t with | some x => beSigned 2 x | none => [0x80, 0x00]

/-- A cause of NTC_FAULT stands: recorded once (R165, R169). -/
def State.ntcFaultOn (s : State) (cause : Nat) : State :=
  if s.chg.ntcFault.contains cause then s
  else
    let s := { s with chg := { s.chg with ntcFault := s.chg.ntcFault ++ [cause] } }
    (s.post K.NTC_FAULT ([byte cause] ++ tempBytes s.chg.ntca ++ tempBytes s.chg.ntcb)).chgVerdict

/-- A cause of NTC_FAULT has ended. -/
def State.ntcFaultOff (s : State) (cause : Nat) : State :=
  if s.chg.ntcFault.contains cause then
    { s with chg := { s.chg with ntcFault := s.chg.ntcFault.filter (· != cause) } }.refreshCell 3
  else s

/-! ## Zones (R165) -/

/-- The bounds between the five zones, in 0.1 °C. -/
def zoneBounds (chem : Nat) : Int × Int × Int × Int :=
  match chemKind chem with
  | 0 => (0, 100, 400, 450)
  | 1 => (-200, 0, 450, 550)
  | _ => (0, 100, 350, 450)

/-- The zone a temperature falls in, with `k` units of it to 0.1 °C. -/
def zoneIn (chem : Nat) (k t : Int) : Nat :=
  let b := zoneBounds chem
  if t < b.1 * k then 0 else if t < b.2.1 * k then 1 else if t ≤ b.2.2.1 * k then 2 else if t ≤ b.2.2.2 * k then 3 else 4

/-- The zone a temperature in 0.1 °C falls in. -/
def rawZone (chem : Nat) (t : Int) : Nat := zoneIn chem 1 t

/-- How restrictive a zone is. -/
def zoneRank (z : Nat) : Nat := match z with | 2 => 0 | 1 => 1 | 3 => 1 | 5 => 3 | _ => 2

/-- The more restrictive of two zones. -/
def worseZone (a b : Nat) : Nat := if zoneRank a < zoneRank b then b else a

/-- The zone of a reading, given its zone before, none before the first reading: toward a less restrictive zone only 2 °C inside it
(R165). From SENSOR, which lies on no side, 2 °C count from both bounds. -/
def zoneOf (chem : Nat) (old : Option Nat) (t : Option Int) : Nat :=
  match t, old with
  | none, _ => 5
  | some x, none => rawZone chem x
  | some x, some o =>
    let raw := rawZone chem x
    if zoneRank raw < zoneRank o then
      if o = 5 then worseZone (rawZone chem (x - 20)) (rawZone chem (x + 20))
      else worseZone raw (rawZone chem (if raw < o then x + 20 else x - 20))
    else raw

/-- The zone a reading had before; before the first reading there is none, and no hysteresis applies. -/
def oldZone (t : Option Int) (z : Nat) : Option Nat := if t.isNone && z == 0 then none else some z

/-- The zone used of two readings and their zones (R165). -/
def zoneUsed (ntcb : Bool) (a b : Option Int) (za zb : Nat) : Nat :=
  if !ntcb then za
  else match a, b with
    | some x, some y =>
      if (x - y).natAbs ≤ 50 then (if zoneRank za < zoneRank zb then zb else za) else if x < y then zb else za
    | _, _ => 5

/-- The zone used changes: an event, the suspension for temperature, the current and VREG (R165, R167). -/
def State.setZone (s : State) (z : Nat) : State :=
  let s := if s.zone = z then s else (s.setField F.CHG_ZONE_USED z).event F.CHG_EVENT_ZONE_CHG
  let s := if z = 0 || z = 4 || z = 5 then s.chgSuspend F.CHG_STATUS_SUSP_TEMP else s.chgRelease F.CHG_STATUS_SUSP_TEMP
  s.chgFigures

/-- The times of agreement and disagreement of the two readings (R165, R169). -/
def State.ntcTimes (s : State) (differ : Bool) : State :=
  { s with chg := { s.chg with
      ntcDiffFrom := if differ then some (s.chg.ntcDiffFrom.getD s.now) else none,
      ntcAgreeFrom := if differ then none else some (s.chg.ntcAgreeFrom.getD s.now) } }

/-- The two readings differ by more than 5 °C (R165). -/
def ntcDiffer (a b : Option Int) : Bool :=
  match a, b with
  | some x, some y => decide (50 < (x - y).natAbs)
  | _, _ => false

/-- The faults of the two sensors follow their zones (R165). -/
def State.ntcSensors (s : State) (two : Bool) (za zb : Nat) : State :=
  let s := if za = 5 then s.ntcFaultOn 1 else s.ntcFaultOff 1
  if two && zb = 5 then s.ntcFaultOn 2 else s.ntcFaultOff 2

/-- NTC_DISAGREE ends after 60 s of agreement (R169). -/
def State.ntcAgree (s : State) : State :=
  if s.chg.ntcFault.contains 3 && s.elapsed (s.chg.ntcAgreeFrom.map (· + secTicks 60)) then
    let s := s.ntcFaultOff 3
    if s.chg.fault = 5 then s.chgUnfault else s
  else s

/-- Both thermistors read (R165). -/
def State.ntcRead (s : State) (a b : Option Int) : State :=
  let two := s.flag F.CHG_CFG_NTCB_EN
  let za := zoneOf s.chem (oldZone s.chg.ntca (s.field F.CHG_ZONE_A)) a
  let zb := if two then zoneOf s.chem (oldZone s.chg.ntcb (s.field F.CHG_ZONE_B)) b else s.field F.CHG_ZONE_B
  let s := { s with chg := { s.chg with ntca := a, ntcb := if two then b else s.chg.ntcb } }
  let s := (s.setField F.CHG_ZONE_A za).setField F.CHG_ZONE_B zb
  let s := (s.ntcSensors two za zb).ntcTimes (two && ntcDiffer a b)
  (s.setZone (zoneUsed two a b za zb)).ntcAgree

/-! ## The Ballast (R160, R162) -/

/-- E_B as a quotient of mWh (R160). -/
def State.ballastNum (s : State) : Nat :=
  (s.regN R.CHG_BAL_PSTBY * 600 * s.regN R.CHG_BAL_TSTBY + s.regN R.CHG_BAL_PALM * 1000 * s.regN R.CHG_BAL_TALM) * 100
def State.ballastDen (s : State) (worst : Int) : Nat := 60000 * kT s.chem worst

/-- The capacity fade allowance of the CELL record in ‰ per year (R81). -/
def State.fade (s : State) : Nat := (s.boot.image.map ImageInfo.fade).getD 0

/-- A state of charge in 0.1 %, rounded up: E_B / C_eff with `m` % added, none without capacity (R160). -/
def State.ballastSoc (s : State) (worst : Int) (m : Nat) : Option Nat :=
  let d := s.ballastDen worst * s.cNow * (1000 - s.fade) * 100
  if d = 0 then none else some (ceilDiv (s.ballastNum * 1000000000 * (100 + m)) d)

/-- S_B as CHG_BALSOC shows it. No rule says what the ten bits hold beyond 1,023: a free value (R160, R171). -/
def State.shownSoc (s : State) (x : Option Nat) : Nat × State :=
  match x with
  | some n => if n < 1024 then (n, s) else let (v, s) := s.fresh; (v.toNat % 1024, s)
  | none => let (v, s) := s.fresh; (v.toNat % 1024, s)

/-- The cell temperature that a Weighbridge record carries, in 0.01 °C: of WB_PERIODIC, WB_SNAP, WB_SWEEP and WB_CAPACITY (R176,
R196). -/
def recTemp (typ : Nat) (r : List Byte) : Option Int :=
  match typ with
  | 1 => cellTemp (tempAt r 70) (tempAt r 72)
  | 2 => cellTemp (tempAt r 34) (tempAt r 36)
  | 3 => tempAt r 22
  | 5 => tempAt r 45
  | _ => none

/-- The cell temperatures in the Weighbridge records of the last CHG_BAL_WINDOW days (R161). DESIGN CHOICE (log 109): a record
whose stamp is not in the present form of time, whose age is therefore not known, is left out. -/
def State.recentTemps (s : State) : List Int :=
  let now := s.stampSec
  let recent := fun sec : Nat => decide (sec / 0x80000000 = now / 0x80000000) &&
    decide (now ≤ sec + s.regN R.CHG_BAL_WINDOW * 86400)
  [1, 2, 3, 5].flatMap fun typ => (s.recsOf 0x05 typ).filterMap fun x => if recent x.2.1 then recTemp typ x.2.2 else none

/-- The lowest of temperatures, in whole °C, rounded down; none of none. -/
def lowestTemp : List Int → Option Int
  | [] => none
  | x :: l => some (max (-128) (min 127 ((l.foldl min x) / 100)))

/-- The worst recent temperature in °C (R161). Where no record gives one, no rule says what it is: a free value (log 109). -/
def State.worstTemp (s : State) : Int × State :=
  match lowestTemp s.recentTemps with
  | some t => (t, s)
  | none => let (v, s) := s.fresh; ((BitVec.ofNat 8 v.toNat).toInt, s)

/-- The recomputation of the Ballast (R160, R162): E_B, S_B, S_T and the worst recent temperature. -/
def State.recompute (s : State) : State :=
  let (worst, s) := s.worstTemp
  let m := s.regN R.CHG_BAL_MARGIN
  let st := s.ballastSoc worst m
  let tgt := max (s.regN R.CHG_TGTMIN) (min 1000 (st.getD 1000))
  let s := s.setReg R.CHG_TWORST (BitVec.ofNat 16 (worst % 256).toNat)
  let s := s.setGroup R.CHG_BALLAST_H 2 (ceilDiv s.ballastNum (s.ballastDen worst))
  let (sb, s) := s.shownSoc (s.ballastSoc worst 0)
  let s := s.setReg R.CHG_BALSOC (BitVec.ofNat 16 sb)
  let s := if 1000 < st.getD 1001 then s.event F.CHG_EVENT_BALLAST_SHORT else s
  let s := ((s.setTarget tgt 0).refreshPartial).tetMove
  { s with chg := { s.chg with recalcDue := none } }

end Sys2Proof.Machine
end

