-- ==== Sys2Proof/Machine/RecordOps.lean ====
section
/-!
DEFINITION. What follows the acceptance of a record: a place that frees in the Weighbridge's queue, and what the firmware
reads from a Weighbridge record as it is accepted (R193, R206, R209, R210).
-/

namespace Sys2Proof.Machine

/-- The oldest record held inside the Weighbridge, or else the deferred periodic one, is released into a free place; the
pending trigger follows (R183, R193). -/
def State.wbUnhold (s : State) : State :=
  if !s.wb.run || !s.wbRoom || s.wb.ended then s
  else match s.wb.held with
    | h :: l =>
      let s := { s with wb := { s.wb with held := l } }
      (if s.wb.seqNum = 0xFFFFFFFF then s.wbLast else s.wbEmit h.typ h.flags h.body).startPending
    | [] => match s.wb.deferred with
      | some tail =>
        let susp := if s.wb.suspSeen then 64 else 0
        let s := { s with wb := { s.wb with deferred := none, suspSeen := s.suspLine } }
        if s.wb.seqNum = 0xFFFFFFFF then s.wbLast
        else s.wbEmit 1 (2 + susp) (beSigned 6 s.wb.counters.q ++ s.wb.counters.e.flatMap (beBytes 6) ++ tail)
      | none => s

/-- The impedance at 1 Hz and 25 °C of a sweep record with result 0 (R206, R209). -/
def State.sweepBase (s : State) (r : List Byte) : Option Nat :=
  if natAt r 16 1 = 0 ∧ zValidT (sweepTemp r) then (sweepMag r 2).map fun z => zAt25 s.chem z (sweepTemp r) else none

/-- VDT_ZNOW takes |Z(1 Hz)| at 25 °C of a valid sweep (R206, R220). -/
def State.showZ (s : State) (r : List Byte) : State :=
  match (if zValidT (sweepTemp r) then sweepMag r 2 else none) with
  | some z => s.setReg R.VDT_ZNOW (word16 (zAt25 s.chem z (sweepTemp r)))
  | none => s

/-- The latest valid sweep gives |Z(0.1 Hz)| for E_V (R205); one that gives none leaves the last. -/
def State.keepZ01 (s : State) (r : List Byte) : State :=
  match sweepZ01 s.chem r with
  | some z => { s with vdt := { s.vdt with z01 := some z } }
  | none => s

/-- The baseline from the first three sweeps with result 0 (R209). -/
def State.noteSweep (s : State) (r : List Byte) : State :=
  let s := (s.showZ r).keepZ01 r
  if s.vdt.zbase.isSome then s
  else match s.sweepBase r with
    | none => s
    | some z =>
      let l := s.vdt.sweeps ++ [(z, wbSeqOf r)]
      let s := { s with vdt := { s.vdt with sweeps := l } }
      if l.length < 3 then s
      else
        let zb := (l.foldl (fun t p => t + p.1) 0) / 3
        let s := { s with vdt := { s.vdt with zbase := some zb } }.setReg R.VDT_ZBASE (word16 zb)
        s.post K.Z_BASELINE (beBytes 2 zb ++ l.flatMap fun p => beBytes 4 p.2)

/-- What follows a Weighbridge record's acceptance. -/
def State.wbAccepted (s : State) (r : Rec) : State :=
  let s := s.wbUnhold
  if s.boot.core then
    if r.typ = 3 then s.noteSweep r.payload
    else if r.typ = 9 then s.refreshCell 3
    else s
  else s

/-- One turn of the intake with what follows from the record it takes (R193, R295). -/
def State.intakeTurn (s : State) (v : Verify) : State :=
  match s.nextRec with
  | none => s
  | some r =>
    if s.mayAccept r && r.prod == 0x05 then (s.intake v).wbAccepted r else s.intake v

/-- The intake takes everything that waits, as far as the rules let it. -/
def State.intakeAll (s : State) : State :=
  (List.range (s.lgr.waiting.length + s.lgr.fwWait.length + s.wb.outq.length)).foldl
    (fun (t : State) (_ : Nat) => t.intakeTurn .ok) s

end Sys2Proof.Machine
end

