-- ==== Sys2Proof/Machine/MailOps.lean ====
section
/-!
DEFINITION. The commands of the Weighbridge's inbound mailbox (R191, R192).
-/

namespace Sys2Proof.Machine

/-! ## The mailbox (R191, R192) -/

/-- A mailbox command that the policy core alone may give, with the range of its argument; `act` where it is taken. -/
def State.coreCommand (s : State) (req : Requester) (code : Nat) (inRange : Bool) (act : State → State) : State :=
  s.mailbox fun s =>
    if req != .firmware then s.cmdResult code 4
    else if !inRange then s.cmdResult code 3
    else act s

/-- The first argument. -/
def State.arg0 (s : State) : Nat := s.regN R.WB_ARG0

/-- The mask-ROM check has failed: sweep, capacity and calibration are refused (R181). -/
def State.romBad (s : State) : Bool := s.wb.faults.contains 1

/-- The command SNAPSHOT (R191). -/
def State.mbSnapshot (s : State) (req : Requester) : State :=
  s.mailbox fun s => if openRequester req then s.cmdTrigger 1 seqSnap 0 else s.cmdResult 1 4

/-- The command SWEEP (R191). -/
def State.mbSweep (s : State) (req : Requester) : State :=
  s.coreCommand req 2 true fun s => if s.romBad then s.cmdResult 2 7 else s.cmdTrigger 2 seqSweep 0

/-- The command CAP_BEGIN (R191). -/
def State.mbCapBegin (s : State) (req : Requester) : State :=
  s.coreCommand req 3 true fun s => if s.romBad then s.cmdResult 3 7 else s.cmdTrigger 3 seqCap 0

/-- The discharge part of CAPACITY ends and its relaxation begins (R189); whether one ran. -/
def State.capEnd (s : State) : State × Bool :=
  match s.wb.seq with
  | some q =>
    if q.kind = seqCap ∧ q.relaxFrom = none then
      ({ s with wb := { s.wb with seq := some { q with relaxFrom := some s.now, out := some (s.capOut q) } } }, true)
    else (s, false)
  | none => (s, false)

/-- The command CAP_END (R189, R191). -/
def State.mbCapEnd (s : State) (req : Requester) : State :=
  s.coreCommand req 4 true fun s => s.capEnd.1.cmdResult 4 (if s.capEnd.2 then 0 else 7)

/-- The command SET_PERIOD (R191): from the next period boundary. -/
def State.mbSetPeriod (s : State) (req : Requester) : State :=
  s.coreCommand req 5 (decide (1 ≤ s.arg0 ∧ s.arg0 ≤ 60)) fun s =>
    { s with wb := { s.wb with period := s.arg0 } }.cmdResult 5 0

/-- The command SET_CELL (R191): once in each start. -/
def State.mbSetCell (s : State) (req : Requester) : State :=
  s.coreCommand req 6 (decide (10 ≤ s.arg0) && s.wb.cell.isNone) fun s =>
    { s with wb := { s.wb with cell := some s.arg0 } }.cmdResult 6 0

/-- The body of WB_IDENT (R196, R199). -/
def State.identBody (s : State) : List Byte :=
  beBytes 8 Config.wbUid.toNat ++ beBytes 4 0x7A3C19E5 ++ beBytes 4 0x01020000 ++
    beBytes 4 (Config.calId s.wb.calib).toNat ++ beBytes 4 (s.wb.starts % 2 ^ 32) ++ [boolByte s.calibrated]

/-- The command IDENT (R191). -/
def State.mbWbMailboxIdent (s : State) (req : Requester) : State :=
  s.mailbox fun s =>
    if openRequester req then (s.wbRelease 7 0 s.identBody).cmdResult 7 0 else s.cmdResult 7 4

/-- The command CALIBRATE (R190, R191). -/
def State.mbCalibrate (s : State) (req : Requester) : State :=
  s.coreCommand req 8 (decide (500 ≤ s.arg0 ∧ s.arg0 ≤ 2000)) fun s =>
    if s.romBad || s.calibrated then s.cmdResult 8 7 else s.cmdTrigger 8 seqCal s.arg0

/-- The command RESET (R62, R191). -/
def State.mbWbMailboxReset (s : State) (req : Requester) : State :=
  s.coreCommand req 9 (s.arg0 == 0x5742) fun s => s.wbStop 4

/-- A code that no command has (R192). -/
def State.mbUnknown (s : State) (code : Nat) : State :=
  s.mailbox fun s => if 1 ≤ code ∧ code ≤ 9 then s else s.cmdResult (code % 256) 5

/-- The command that a code names (R191). -/
def State.mbCommand (s : State) (req : Requester) (code : Nat) : State :=
  match code with
  | 1 => s.mbSnapshot req
  | 2 => s.mbSweep req
  | 3 => s.mbCapBegin req
  | 4 => s.mbCapEnd req
  | 5 => s.mbSetPeriod req
  | 6 => s.mbSetCell req
  | 7 => s.mbWbMailboxIdent req
  | 8 => s.mbCalibrate req
  | 9 => s.mbWbMailboxReset req
  | c => s.mbUnknown c

/-- A write to WB_CMD (R191, R192). -/
def State.wbCommand (s : State) (req : Requester) (code : Nat) : State := s.mailWrite fun s => s.mbCommand req code

end Sys2Proof.Machine
end

