-- ==== Sys2Proof/Machine/Weigh.lean ====
section
/-!
DEFINITION. The Weighbridge's commands (R173 to R201): its starts and stops, checkpoints and checks, the mailbox, and the
ends of its four sequences. What it measured between two commands is the commands' operand.
-/

namespace Sys2Proof.Machine

/-! ## Start, stop, checkpoints, checks (R178, R180, R181) -/

/-- The counters resume from the checkpoint, and the volatile settings take their values at a start (R178, R180, R191). The fault of the last number stays (R177). -/
def State.wbLoad (s : State) : State :=
  { s with wb := { s.wb with
      run := true, counters := s.wb.ckCounters, timeBase := s.wb.ckTime, timeFrom := s.now, seqNum := s.wb.ckSeq,
      starts := s.wb.starts + 1, resumed := true, faults := if s.wb.ended then [6] else [], wboFails := 0, period := 15,
      periodDue := s.timer (secTicks 900), suspSeen := s.suspLine } }

/-- WB_RESET: cause, checkpoint flags, time of the last checkpoint, start count (R178, R196). -/
def State.wbResetBody (s : State) : List Byte :=
  [byte s.wb.cause, byte ((if s.wb.ckKind = 1 then 1 else 0) + (if s.wb.ckKind = 2 then 2 else 0))] ++
    beBytes 5 s.wb.ckTime ++ beBytes 4 (s.wb.starts % 2 ^ 32)

/-- The code's fault stands from the start on, its record still to come. -/
def State.wbMark (s : State) (bad : Bool) (code : Nat) : State :=
  if bad then { s with wb := { s.wb with faults := s.wb.faults ++ [code] } } else s

/-- The WB_FAULT record of a check failed at the start (R181). -/
def State.wbMarkRecord (s : State) (bad : Bool) (code : Nat) : State :=
  if bad then
    let (v, s) := s.fresh
    (s.wbRelease 9 0 ([byte code] ++ beBytes 4 (v.toNat % 2 ^ 32))).event F.WB_EVENT_FAULT
  else s

/-- WB_START (R180): VWB is valid; whether the mask ROM, the calibration memory and the reference pass their checks. -/
def execWbStart (romOk calOk refOk : Bool) (s : State) : Out :=
  .next (s.when (s.live && !s.wb.run) fun s =>
    let body := { s with wb := { s.wb with starts := s.wb.starts + 1 } }.wbResetBody
    let s := (((s.wbLoad).wbMark (!romOk) 1).wbMark (!calOk) 2).wbMark (!refOk) 4
    let s := (s.wbRelease 8 0 body).event F.WB_EVENT_RESUMED
    ((s.wbMarkRecord (!romOk) 1).wbMarkRecord (!calOk) 2).wbMarkRecord (!refOk) 4)

/-- WB_WATCHDOG_EXPIRY (R180): a Weighbridge reset with cause 3. -/
def execWbWatchdogExpiry (s : State) : Out := .next (s.when (s.live && s.wb.run) fun s => s.wbStop 3)

/-- VWB_BROWNOUT (R61, R178): a Weighbridge reset with cause 2; one that falls between the checkpoint of a release and the
release skips that number. -/
def execVwbBrownout (duringRelease : Bool) (s : State) : Out :=
  .next (s.when (s.live && s.wb.run) fun s =>
    (if duringRelease then s.wbCheckpoint 2 (s.wb.seqNum + 1) else s).wbStop 2)

/-- VWB_EARLY_WARNING (R178). -/
def execVwbEarlyWarning (m : WbMeter) (s : State) : Out :=
  .next (s.when (s.live && s.wb.run) fun s => (s.wbMeter m).wbCheckpoint 1 s.wb.seqNum)

/-- WB_CHECKPOINT (R178). -/
def execWbCheckpoint (m : WbMeter) (s : State) : Out :=
  .next (s.when (s.live && s.wb.run) fun s => (s.wbMeter m).wbCheckpoint 0 s.wb.seqNum)

/-- Three temperatures as a body carries them (R176, R196). -/
def tempsBytes (t : WbTemps) : List Byte := tempBytes t.ntca ++ tempBytes t.ntcb ++ beSigned 2 t.ds6

/-- WB_PERIODIC_DUE (R193, R196): mean BAT in 100 µV, mean shunt voltage in nV. -/
def execWbPeriodicDue (m : WbMeter) (bat : Nat) (v : Int) (t : WbTemps) (s : State) : Out :=
  .next (s.when (s.live && s.wb.run && s.elapsed s.wb.periodDue) fun s =>
    let s := (s.wbMeter m).capTemp (cellTemp t.ntca t.ntcb)
    let tail := beBytes 3 bat ++ beSigned 3 (s.amps v) ++ tempsBytes t
    let susp := if s.wb.suspSeen then 64 else 0
    let s := { s with wb := { s.wb with periodDue := s.timer (secTicks (60 * s.wb.period)) } }
    if s.wbRoom && s.wb.held.isEmpty then
      { s with wb := { s.wb with suspSeen := s.suspLine } }.wbRelease 1 susp (beSigned 6 s.wb.counters.q ++ s.wb.counters.e.flatMap (beBytes 6) ++ tail)
    else { s with wb := { s.wb with deferred := some tail } })

/-- WB_WBO_CHECK (R181): ten failed checks in a row are a fault. -/
def execWbWboCheck (bad : Bool) (s : State) : Out :=
  .next (s.when (s.live && s.wb.run) fun s =>
    let n := if bad then s.wb.wboFails + 1 else 0
    let s := { s with wb := { s.wb with wboFails := n } }
    if 10 ≤ n then s.wbFault 3 else s)

/-- WB_REFERENCE_CHECK (R181). -/
def execWbReferenceCheck (bad : Bool) (s : State) : Out :=
  .next (s.when (s.live && s.wb.run && bad) fun s => s.wbFault 4)

/-- WB_CURRENT_OVERRANGE (R181). -/
def execWbCurrentOverrange (s : State) : Out := .next (s.when (s.live && s.wb.run) fun s => s.wbFault 5)

/-- WB_RECORD_RELEASE (R177, R193): what is held, or else the deferred periodic record, is released as a place is free. -/
def execWbRecordRelease (s : State) : Out := .next (s.whenLive State.wbUnhold)

/-! ## The mailbox (R191, R192) -/

/-- SNAPSHOT (R191). -/
def execSnapshot (req : Requester) (s : State) : Out := .next (s.mailWrite fun s => s.mbSnapshot req)

/-- SWEEP (R191). -/
def execSweep (req : Requester) (s : State) : Out := .next (s.mailWrite fun s => s.mbSweep req)

/-- CAP_BEGIN (R191). -/
def execCapBegin (req : Requester) (s : State) : Out := .next (s.mailWrite fun s => s.mbCapBegin req)

/-- CAP_END (R189, R191). -/
def execCapEnd (req : Requester) (s : State) : Out := .next (s.mailWrite fun s => s.mbCapEnd req)

/-- SET_PERIOD (R191): from the next period boundary. -/
def execSetPeriod (req : Requester) (s : State) : Out := .next (s.mailWrite fun s => s.mbSetPeriod req)

/-- SET_CELL (R191): once in each start. -/
def execSetCell (req : Requester) (s : State) : Out := .next (s.mailWrite fun s => s.mbSetCell req)

/-- WB_MAILBOX_IDENT (R191). -/
def execWbMailboxIdent (req : Requester) (s : State) : Out := .next (s.mailWrite fun s => s.mbWbMailboxIdent req)

/-- CALIBRATE (R190, R191). -/
def execCalibrate (req : Requester) (s : State) : Out := .next (s.mailWrite fun s => s.mbCalibrate req)

/-- RESET (R62, R191). -/
def execWbMailboxReset (req : Requester) (s : State) : Out := .next (s.mailWrite fun s => s.mbWbMailboxReset req)

/-- WB_CMD_UNKNOWN (R192): an unknown code. -/
def execWbCmdUnknown (code : Nat) (s : State) : Out := .next (s.mailWrite fun s => s.mbUnknown code)

/-! ## The ends of the sequences (R182 to R190) -/

/-- A sequence of one kind has run for at least so many ticks. -/
def State.seqAt (s : State) (kind ticks : Nat) : Option WbSeq :=
  match s.wb.seq with
  | some q => if s.live && s.wb.run && q.kind == kind && decide (q.start + ticks ≤ s.now) then some q else none
  | none => none

/-- SNAP_DONE (R182, R196). -/
def execSnapDone (m : WbMeter) (x : SnapMeasure) (s : State) : Out :=
  .next (match s.seqAt seqSnap (msTicks 250) with
    | none => s
    | some q =>
      let s := s.wbMeter m
      s.seqEnd 2 (seqAlarm q) (beBytes 3 x.bat ++ beSigned 3 (s.amps x.v) ++ beBytes 3 x.batMin ++ beBytes 3 x.batMax ++
        beSigned 3 (s.amps x.vMin) ++ beSigned 3 (s.amps x.vMax) ++ tempsBytes x.temps ++ beSigned 6 s.wb.counters.q))

/-- The result of a sweep from its clipped points (R187). -/
def sweepResult (clipped : Nat) : Nat := if clipped = 0 then 0 else if clipped ≤ 2 then 1 else 2

/-- The magnitude of a point in 50 µΩ by the shunt's value, 0xFFFF for a clipped one (R187, R190). -/
def State.pointMag (s : State) (p : SweepPoint) : Nat := if p.clipped then 0xFFFF else min 0xFFFE (p.ratio * s.shunt / 100000)

/-- SWEEP_DONE (R186, R187, R196): the eight points, the peak of the shunt's voltage in nV, the mean readings of NTCA and NTCB. A
clipped point is signalled by CONV_EVENT.EXC_CLIP. -/
def execSweepDone (points : List SweepPoint) (peak : Nat) (ntca ntcb : Option Int) (s : State) : Out :=
  .next (match s.seqAt seqSweep (msTicks 61100) with
    | none => s
    | some q =>
      let ps := (List.range 8).map fun i => (points[i]?).getD ⟨0, 0, true⟩
      let n := (ps.filter SweepPoint.clipped).length
      let body := [byte (sweepResult n), flagsByte (ps.map SweepPoint.clipped)] ++ beBytes 2 s.sweepIx ++
        beBytes 2 (peak * 100 / s.shunt) ++ tempOr (cellTemp ntca ntcb) ++
        ps.flatMap fun p => beBytes 2 (s.pointMag p) ++ beSigned 2 p.phase
      let s := if n = 0 then s else s.excClip
      ((s.sweepOff).proofRest).seqEnd 3 (seqAlarm q + (if n = 0 then 0 else 16)) body)

/-- SWEEP_HOLDOFF_EXPIRY (R188): as a SWEEP trigger. -/
def execSweepHoldoffExpiry (s : State) : Out :=
  .next (s.when (s.live && s.wb.run && s.elapsed s.wb.holdDue) fun s =>
    ({ s with wb := { s.wb with holdDue := none } }.wbTrigger seqSweep 0).1)

/-- CAP_DISCHARGE_TIMEOUT (R189): the discharge part has lasted 4 h. -/
def execCapDischargeTimeout (s : State) : Out :=
  .next (match s.seqAt seqCap (secTicks 14400) with
    | none => s
    | some _ => s.capEnd.1)

/-- The result of CAPACITY (R189), the first that applies in the order listed; 0.01 C of the capacity of SET_CELL in mAh is as many
10 µA. -/
def State.capResult (s : State) (m : CapMeasure) : Nat :=
  let d := (m.ocvBegin - m.ocvEnd) + (m.ocvEnd - m.ocvBegin)
  if d < s.series * 200 then 1
  else if (s.wb.cell.getD 0 : Int) < s.amps m.maxIn then 3
  else match capSpan m with
    | none => 5
    | some t => if zoneIn s.chem 10 t.1 = 2 ∧ zoneIn s.chem 10 t.2 = 2 then 0 else 4

/-- CAP_RELAX_DONE (R189). -/
def execCapRelaxDone (m : CapMeasure) (s : State) : Out :=
  .next (match s.seqAt seqCap 0 with
    | none => s
    | some q => s.when (s.elapsed (q.relaxFrom.map (· + secTicks 600))) fun s =>
      let (b, s) := s.capBody q m (s.capResult m)
      s.seqEnd 5 (seqAlarm q) b)

/-- CAL_DONE (R190): the shunt's voltage in nV, averaged over 8 s; R_shunt is that voltage divided by the reference current of ARG0. -/
def execCalDone (v : Nat) (s : State) : Out :=
  .next (match s.seqAt seqCal (secTicks 10) with
    | none => s
    | some q =>
      let rshunt := v * 10 / q.arg
      let result := if q.susp then 2 else if 4500 * q.arg ≤ v ∧ v ≤ 22000 * q.arg then 0 else 1
      let s := if result = 0 then
          { s with wb := { s.wb with calib := some (rshunt, q.arg, s.clk.time / 65536) } } else s
      s.seqEnd 6 (seqAlarm q) ([byte result] ++ beBytes 2 q.arg ++ beBytes 3 rshunt ++
        beBytes 4 (Config.calId s.wb.calib).toNat))

end Sys2Proof.Machine
end

