-- ==== Sys2Proof/Machine/VerdictActs.lean ====
section
/-!
DEFINITION. What the proof test does (R209 to R219): when it falls due, its checks and start, the opinions it gives and what
follows from them.
-/

namespace Sys2Proof.Machine

/-! ## When a test is due (R216, R217) -/

/-- A week in seconds. -/
abbrev weekSec : Nat := 604800

/-- The scheduled start as seconds from Monday 00:00 of local time: VDT_PROOFCFG plus the Tether address × 90 s. -/
def State.proofAt (s : State) : Nat :=
  (s.field F.VDT_PROOFCFG_DAY * 86400 + s.field F.VDT_PROOFCFG_HOUR * 3600 + s.field F.VDT_PROOFCFG_MIN * 60 +
    s.selfAddr * 90) % weekSec

/-- Seconds since the last scheduled start of the week, by local time. -/
def State.sincePlan (s : State) : Nat :=
  (weekday s.localDay * 86400 + s.localSec % 86400 + weekSec - s.proofAt) % weekSec

/-- Without valid time: the tick of the next scheduled start, 168 h after the previous one. -/
def State.nextByAon (s : State) : Option Nat :=
  (max s.vdt.lastStart s.vdt.checkedAt).map (· + secTicks weekSec)

/-- Seconds to the next scheduled start, none when it is not known (R220). -/
def State.untilPlan (s : State) : Option Nat :=
  if !s.flag F.VDT_PROOFCFG_EN then none
  else if s.timeValid then some ((weekSec - s.sincePlan) % weekSec)
  else s.nextByAon.map fun t => (t - s.now) / 32768

/-- The scheduled start has come, once in its hour. -/
def State.planDue (s : State) : Bool :=
  let fresh := match s.vdt.checkedAt with
    | some t => decide (t + secTicks 3600 ≤ s.now)
    | none => true
  s.flag F.VDT_PROOFCFG_EN && fresh &&
    (if s.timeValid then decide (s.sincePlan < 60) else s.elapsed s.nextByAon)

/-- A test has started on the present calendar day of local time (R217). -/
def State.ranToday (s : State) : Bool := s.timeValid && s.vdt.lastDay == some s.localDay

/-- VDT_NEXT as read: minutes to the next scheduled start (R220). -/
def State.vdtNext (s : State) : Word :=
  match s.untilPlan with
  | some t => BitVec.ofNat 16 (min 0xFFFE (t / 60))
  | none => 0xFFFF

/-! ## The checks and the start (R208, R216, R217) -/

/-- The dose as a state of charge in 0.1 %. -/
def doseSoc (d : Nat) : Nat := d * 10

/-- The start (R216): PROOF is set, charging suspended, CELLOK held 0, the record made, the period set to one minute and the
sweep asked for. -/
def State.proofStart (s : State) (requested low : Bool) : State :=
  let d := s.regN R.VDT_DOSE
  let p : Proof := ⟨2, s.now, requested, d, s.regN R.VDT_PLOAD, s.regN R.VDT_LIFE_NEAR, s.reg R.VDT_ZLIM, low,
    s.wb.seqNum, none, none, false, false⟩
  let s := { s with vdt := { s.vdt with
    proof := some p, requested := false, deferred := none, deferDue := none, lastStart := some s.now,
    lastDay := if s.timeValid then some s.localDay else s.vdt.lastDay } }
  let s := (s.setFlag F.VDT_STATUS_PROOF_DEFERRED false).setOverlay F.SYS_STATE_PROOF true
  let s := (s.chgSuspend F.CHG_STATUS_SUSP_PROOF).event F.VDT_EVENT_PROOF_START
  let s := s.post K.PROOF_START ([boolByte requested] ++ beBytes 2 (s.field F.CHG_SOC_SOC) ++
    beBytes 2 (s.regN R.CHG_BALSOC) ++ [byte d])
  let s := s.proofRequestsDone
  let s := ((s.holdCellok).powerChanged)
  let s := ((s.setReg R.WB_ARG0 1).mbSetPeriod .firmware).mbSweep .firmware
  if s.wb.seq.any fun q : WbSeq => q.kind == seqSweep then s else s.proofRest

/-- The test is deferred (R217): from the first time on. -/
def State.proofDefer (s : State) (requested : Bool) : State :=
  let t := match s.vdt.deferred with
    | some (_, t) => t
    | none => s.now
  { s with vdt := { s.vdt with deferred := some (requested, t), deferDue := none, requested := false } }.setFlag
    F.VDT_STATUS_PROOF_DEFERRED true

/-- The checks (R217): the test is started, deferred or skipped; RESERVE is formed for R208. -/
def State.proofChecks (s : State) (requested : Bool) : State :=
  let s := s.formReserve
  let late := match s.vdt.deferred with
    | some (_, t) => decide (t + secTicks 86400 < s.now)
    | none => false
  if late then s.proofSkip 3
  else if s.flag F.SYS_STATE_ALARM then s.proofDefer requested
  else if s.inSafe then s.proofSkip 1
  else if s.phaseN = phAbsent then s.proofSkip 2
  else if s.field F.CHG_SOC_SOC < s.regN R.CHG_BALSOC + doseSoc (s.regN R.VDT_DOSE) then s.proofSkip 4
  else s.proofStart requested s.lowNow

/-! ## The discharge (R216, R218) -/

/-- Q of the latest WB_PERIODIC record accepted since the test began, in µC (R196, R218). -/
def State.lastQ (s : State) (p : Proof) : Option Int :=
  match s.wbLatest 1 with
  | some r => if p.wbSeq ≤ wbSeqOf r then some (intAt r 16 6) else none
  | none => none

/-- The dose has been drawn since CAP_BEGIN (R218): d of the rated capacity, 3,600,000 µC to the mAh. -/
def State.doseDrawn (s : State) (p : Proof) : Bool :=
  match p.q0, s.lastQ p with
  | some q0, some q => decide ((p.dose * s.ratedMah * 36000 : Nat) ≤ q0 - q)
  | _, _ => false

/-- The cell has collapsed (R218). -/
def State.collapsed (s : State) (bat : Nat) : Bool := decide (bat < s.series * chemVpre s.chem)

/-- A stop condition of R218 holds. -/
def State.dischargeEnds (s : State) (p : Proof) (bat : Nat) : Bool :=
  s.doseDrawn p || s.elapsed (p.capAt.map (· + msTicks 1100 + secTicks 12600)) || s.collapsed bat ||
    decide (s.estEc ≤ s.eB * 1000)

/-! ## The opinions (R206, R209) -/

/-- The record of a type accepted since the test began. -/
def State.testRecord (s : State) (p : Proof) (typ : Nat) : Option (List Byte) :=
  match s.wbLatest typ with
  | some r => if p.wbSeq ≤ wbSeqOf r then some r else none
  | none => none

/-- The capacity opinion: 0 OK, 1 NEAR, 2 END, with C_25 in 10⁻⁷ mAh (R209). ρ_C = E_B × (1 + m) / C_T is compared exactly: C_T is
`ct` / 10¹³ mWh, and E_B × (1 + m) is `need` / 10¹³. -/
def State.capOpinion (s : State) (p : Proof) (c25 : Nat) : Nat :=
  let ct := c25 * s.series * chemNominal s.chem * (1000 - s.fade)
  let need := s.eB * (100 + s.regN R.CHG_BAL_MARGIN) * 10 ^ 11
  if ct ≤ need then 2 else if ct * p.lifeNear ≤ need * 100 then 1 else 0

/-- |Z(1 Hz)| at 25 °C of a sweep with result 0 or 1 at a valid temperature (R206, R209). -/
def State.sweepZ1 (s : State) (r : List Byte) : Option Nat :=
  if zValidT (sweepTemp r) then (sweepMag r 2).map fun z => zAt25 s.chem z (sweepTemp r) else none

/-- The cell could not carry the alarm from its nominal voltage (R209), with |Z(0.1 Hz)| at 25 °C in 50 µΩ. -/
def State.sags (s : State) (r : List Byte) : Bool :=
  match sweepMag r 0 with
  | some z =>
    let z := zAt25 s.chem z (sweepTemp r)
    let v := s.series * chemNominal s.chem
    decide (20 * v * v < s.regN R.CHG_BAL_PALM * z + 20 * v * (s.series * chemVpre s.chem))
  | none => false

/-- The impedance opinion (R209). -/
def State.zOpinion (s : State) (p : Proof) (r : List Byte) : Option Nat :=
  match s.sweepZ1 r, s.vdt.zbase with
  | some z, some zb =>
    let near := fieldOf p.zlim 0 8
    let far := fieldOf p.zlim 8 8
    some (if far * zb ≤ 10 * z || s.sags r then 2 else if near * zb ≤ 10 * z then 1 else 0)
  | _, _ => none

/-! ## The end (R210 to R212, R219) -/

/-- What a test found: outcome, opinions, C_25 in 10⁻⁷ mAh, |Z(1 Hz)| at 25 °C in 50 µΩ, whether it counts. -/
structure TestResult where
  outcome : Nat
  cap : Option Nat
  z : Option Nat
  c25 : Option Nat
  z1 : Option Nat
  counted : Bool
  deriving DecidableEq, Repr

/-- At least 6 days lie between a counted test and the tick a test began at (R211). Of a test before the last power-up, the seconds of
system time tell it, or the ticks since then (log 108). -/
def State.sixDays (s : State) (c : CountedTest) (t0 : Nat) : Bool :=
  match c.tick with
  | some t => decide (t + secTicks 518400 ≤ t0)
  | none => decide (secTicks 518400 ≤ t0) ||
      (s.timeValid && decide (c.sec < 0x80000000 ∧ c.sec + 518400 ≤ s.stampSec - (s.now - t0) / 32768))

/-- The result of the test from the records accepted since it began (R209, R211, R219). -/
def State.testResult (s : State) (p : Proof) (r : List Byte) : TestResult :=
  let c25 := capC25 s.chem r
  let cap := c25.map (s.capOpinion p)
  let sweep := s.testRecord p 3
  let z := sweep.bind (s.zOpinion p)
  let far := match s.vdt.counted with
    | some c => s.sixDays c p.t0
    | none => true
  ⟨if p.collapse then 2 else if c25.isSome then 1 else 3, cap, z, c25, sweep.bind s.sweepZ1,
    cap.isSome && z.isSome && (!p.requested || far)⟩

/-- VDT_PROOF, and the figures that this test gives (R220). -/
def State.showResult (s : State) (p : Proof) (x : TestResult) : State :=
  let w := x.outcome + (match x.cap with | some c => 8 + 16 * c | none => 0) +
    (match x.z with | some z => 64 + 128 * z | none => 0) + (if p.low then 512 else 0) + (if x.counted then 1024 else 0)
  let s := s.setReg R.VDT_PROOF (BitVec.ofNat 16 w)
  let s := match x.c25 with
    | some c => s.setReg R.VDT_CEST (word16 (c / 10000000))
    | none => s
  let s := match x.z1 with
    | some z => s.setReg R.VDT_ZNOW (word16 z)
    | none => s
  match s.vdt.zbase with
  | some z => s.setReg R.VDT_ZBASE (word16 z)
  | none => s

/-- A RESERVE LOW or a CELL FAULT that now stands at its second counted test running is notified audibly (R208, R210). -/
def State.noteTwice (s : State) (lows faults : List Bool) : State :=
  let s := if s.field F.VDT_STATUS_RESERVE = 1 && twice s.vdt.lows && !twice lows then s.note 0x01 false true 0 else s
  if s.flag F.VDT_STATUS_CELL && twice s.vdt.faults && !twice faults then
    s.note 0x06 (s.field F.VDT_STATUS_RESERVE == 2) true 0
  else s

/-- LIFE and CHAIN by a counted test (R209, R212): LIFE takes the confirmed severity when that is higher. -/
def State.countTest (s : State) (p : Proof) (x : TestResult) : State :=
  let lows := s.vdt.lows
  let faults := s.vdt.faults
  let sev := min (x.cap.getD 0) (x.z.getD 0)
  let life := s.field F.VDT_STATUS_LIFE
  let confirmed := min sev ((s.vdt.counted.map CountedTest.severity).getD 0)
  let s := s.setFlag F.VDT_STATUS_CHAIN (decide (life < sev))
  let s := { s with vdt := { s.vdt with
    counted := some ⟨some p.t0, 0, sev⟩, lows := (p.low :: s.vdt.lows).take 2, faults := (s.cellFaulty :: s.vdt.faults).take 2 } }
  let s := s.noteTwice lows faults
  if life < confirmed then
    ((s.setField F.VDT_STATUS_LIFE confirmed).postVerdict false 2).note (if confirmed = 2 then 5 else 4) false true 0
  else s

/-- The bytes of a value the test did not give: no rule says what they hold. -/
def State.orFree (s : State) (x : Option Nat) : List Byte × State :=
  match x with
  | some v => (beBytes 2 v, s)
  | none => s.freshBytes 2

/-- The PROOF_END record (R292). -/
def State.postProofEnd (s : State) (x : TestResult) (r : List Byte) : State :=
  let (c, s) := s.orFree (x.c25.map (· / 10000000))
  let (z, s) := s.orFree x.z1
  s.post K.PROOF_END ([byte x.outcome, byte (x.cap.getD 0xFF), byte (x.z.getD 0xFF), boolByte x.counted] ++ c ++ z ++
    beBytes 4 (wbSeqOf r))

/-- The test ends on its WB_CAPACITY record (R168, R216, R219). -/
def State.proofEnd (s : State) (p : Proof) (r : List Byte) : State :=
  let x := s.testResult p r
  let s := s.proofClear
  let s := { s with chg := { s.chg with recalcDue := s.timer (secTicks 1) },
                    vdt := { s.vdt with
                      cNow := if x.outcome = 1 then x.c25.map s.asEnergy else s.vdt.cNow
                      lastFail := if x.outcome = 2 then true else if x.outcome = 1 then false else s.vdt.lastFail } }
  let s := s.showResult p x
  let s := if x.counted then s.countTest p x else s
  let s := ((s.event F.VDT_EVENT_PROOF_END).postProofEnd x r).note 0x07 false false x.outcome
  (s.refreshCell 2).formReserve

end Sys2Proof.Machine
end

