-- ==== Sys2Proof/Machine/BusOps.lean ====
section
/-!
DEFINITION. How the registers are reached (R394 to R401, R415 to R440): addresses and pointers of Port H, what a register
reads as, group latches and holds, when a value is legal and a write permitted, keys, and the nINT summary.
-/

namespace Sys2Proof.Machine

/-! ## Port H (R392 to R401) -/

/-- The base address (R77). -/
def State.baseAddr (s : State) : Nat := 0x58 + s.boot.addr

/-- One of TWB_ADDR1 to 3: the pointer kind where it names this address (R394); true for COMPACT. -/
def extraKind (v : Word) (a : Nat) : Option Bool :=
  if bitOf v 7 && fieldOf v 0 7 == a then some (bitOf v 8) else none

/-- The pointer kind under which Port H answers an address, none where it does not (R71, R394, R395). -/
def State.pointerKind (s : State) (a : Nat) : Option Bool :=
  if !s.boot.applied then (if a = s.baseAddr then some false else none)
  else if a = s.baseAddr then some (bitOf s.twb.cfg 4)
  else if bitOf s.twb.cfg 5 then
    if (BitVec.ofNat 16 (a ^^^ s.baseAddr)) &&& ~~~(s.twb.amask &&& 0x1F) = 0 then some (bitOf s.twb.cfg 4) else none
  else (extraKind s.twb.addr1 a).or ((extraKind s.twb.addr2 a).or (extraKind s.twb.addr3 a))

/-- The SYS clock runs (R36, R398, R400, R441): always but in STANDBY, and there while something requests it. -/
def State.sysRuns (s : State) : Bool :=
  s.field F.SYS_STATE_PSTATE != 1 || s.phase == .startup || s.flag F.TWB_STATUS_AWAKE || s.pins.wake ||
    s.alm.sysReq.isSome || s.anyAlarm || s.flag F.ALM_STATUS_READY || s.flag F.SYS_STATE_PROOF ||
    s.field F.CLK_STATUS_AONSRC == 2 || s.flag F.THM_STATUS_COOLING

/-- Port H stretches (R397); before the image is applied it never does (R71). -/
def State.stretches (s : State) : Bool := s.boot.applied && bitOf s.twb.cfg 0

/-- The TWB settings come into force (R401, R414). -/
def State.twbLatch (s : State) : State :=
  { s with twb := { s.twb with cfg := s.reg R.TWB_CFG, addr1 := s.reg R.TWB_ADDR1, addr2 := s.reg R.TWB_ADDR2,
                               addr3 := s.reg R.TWB_ADDR3, amask := s.reg R.TWB_AMASK, awake := s.reg R.TWB_AWAKE } }

/-- A captured snapshot is shown (R438). -/
def State.snapShow (s : State) : State :=
  match s.ra.snapWait with
  | some l => { l.foldl (fun (t : State) (p : Nat × Word) => t.setReg p.1 p.2) s with
      ra := { s.ra with snapWait := none } }
  | none => s

/-- The STOP of a transaction addressed to the unit (R398, R414, R438). -/
def State.busStop (s : State) : State :=
  let s := if s.boot.applied then s.twbLatch else s
  let s := s.snapShow
  if s.flag F.TWB_STATUS_AWAKE then
    { s with twb := { s.twb with awakeDue := s.timer (msTicks s.twb.awake.toNat) } }
  else s

/-- A NACK for a cause of R397. -/
def State.busRefuse (s : State) (f : Flag) : State := (s.event f).bump R.TWB_REFCNT 1

/-- The last transaction's answer: words read, and whether it ended in a NACK. -/
def State.busAnswer (s : State) (data : List Word) (nack : Bool) : State :=
  { s with ra := { s.ra with readData := data, nack := nack } }

/-- VAUX supplies the pins of Port H (R392). -/
def State.portHPins (s : State) : Bool :=
  s.live && !s.conv.auxOff && !s.thm.railsOff && s.conv.auxRetry.isNone

/-- Port H is there for a transaction: its pins are supplied, and it holds no other by clock stretching (R392, R397). -/
def State.portHOn (s : State) : Bool := s.portHPins && s.twb.held.isNone

/-- A transaction begins with this address: the pointer kind it is served with, or none after its NACK (R398, R399). -/
def State.busStart (s : State) (a : Nat) : State × Option Bool :=
  if s.twb.held.isSome then (s, none)
  else if !s.portHOn then (s.busAnswer [] true, none)
  else match s.pointerKind a with
    | none => (s.busAnswer [] true, none)
    | some k =>
      if s.sysRuns then (s, some k)
      else
        let w := s.setFlag F.TWB_STATUS_AWAKE true
        if s.stretches then (w, some k)
        else (((w.busRefuse F.TWB_EVENT_WAKE_REFUSE).busStop).busAnswer [] true, none)

/-! ## What a register reads as -/

/-- The registers the QTL6412 lacks: the PD page and the USB group (R3, R416). -/
def State.absent (s : State) (a : Nat) : Bool :=
  s.part == .qtl6412 && (a / 256 == 0x0B || (0x0C00 ≤ a && a ≤ 0x0C1F))

/-- A register's row, where the part has it. PAGESEL lies at offset 0x7F of every page, that of the PD page included, on both
parts (R3, R419). -/
def State.info (s : State) (a : Nat) : Option RegInfo :=
  if a % 256 = 0x7F && a / 256 ≤ 0x11 then regInfo R.PAGESEL
  else if s.absent a then none
  else regInfo a

/-- Word `i` of a number held in `n` registers, high word first. -/
def wordOf (x n i : Nat) : Word := BitVec.ofNat 16 (x / 65536 ^ (n - 1 - i))

/-- An EVENT register and its IRQEN register hold a common bit (R439). -/
def State.irq (s : State) (ev en : Nat) : Bool := s.reg ev &&& s.reg en != 0

/-- The EVENT and IRQEN registers of each page (R439). -/
def irqPairs : Nat → List (Nat × Nat)
  | 0 => [(R.SYS_EVENT, R.SYS_IRQEN), (R.CFG_EVENT, R.CFG_IRQEN)]
  | 1 => [(R.SRC_EVENT, R.SRC_IRQEN)]
  | 2 => [(R.PATH_EVENT, R.PATH_IRQEN)]
  | 3 => [(R.CHG_EVENT, R.CHG_IRQEN)]
  | 4 => [(R.CONV_EVENT, R.CONV_IRQEN)]
  | 5 => [(R.TET_EVENT, R.TET_IRQEN)]
  | 6 => [(R.MKT_EVENT, R.MKT_IRQEN)]
  | 7 => [(R.ALM_EVENT, R.ALM_IRQEN)]
  | 8 => [(R.WB_EVENT, R.WB_IRQEN)]
  | 9 => [(R.VDT_EVENT, R.VDT_IRQEN)]
  | 10 => [(R.LGR_EVENT, R.LGR_IRQEN)]
  | 11 => [(R.PD_EVENT, R.PD_IRQEN)]
  | 12 => [(R.USB_EVENT, R.USB_IRQEN), (R.OPT_EVENT, R.OPT_IRQEN)]
  | 13 => [(R.TWB_EVENT, R.TWB_IRQEN)]
  | 14 => [(R.CLK_EVENT, R.CLK_IRQEN)]
  | 15 => [(R.THM_EVENT, R.THM_IRQEN)]
  | _ => []

/-- The nINT summary word (R439). -/
def State.intsum (s : State) : Word :=
  (List.range 16).foldl (fun w n => setBitOf w n ((irqPairs n).any fun p => s.irq p.1 p.2)) 0

/-- nINT is driven low (R439). -/
def State.nint (s : State) : Bool := s.intsum &&& s.reg R.SYS_INTMASK != 0

/-- The head of the note FIFO, 0x0000 when it is empty (R213). -/
def State.noteHead (s : State) : Word :=
  match s.vdt.fifo with
  | n :: _ => noteWord n
  | [] => 0

/-- Length in ticks of a HWD period (R452). -/
def State.hwdTicks (s : State) : Nat := secTicks (2 ^ fieldOf (s.aonReg R.CLK_HWDCFG) 1 4)

/-- The host watchdog runs (R452). -/
def State.hwdRuns (s : State) : Bool := bitOf (s.aonReg R.CLK_HWDCFG) 0

/-- CLK_HWDLEFT: whole seconds left of the running period, rounded up (R465). -/
def State.hwdLeft (s : State) : Word :=
  if s.hwdRuns then
    putFieldOf (setBitOf 0 15 (s.flag F.CLK_STATUS_HWD_SECOND)) 0 9
      (ceilDiv (s.clk.hwdFrom + s.hwdTicks - s.now) 32768)
  else 0

/-- CLK_SYNCSRC: the sender last adopted and the minutes since (R465). -/
def State.syncSrc (s : State) : Word :=
  match s.clk.syncAt with
  | some t => BitVec.ofNat 16 (s.regN R.CLK_SYNCSRC % 256 + 256 * min 255 ((s.now - t) / secTicks 60))
  | none => 0xFFFF

/-- The keyed registers' value addresses (R429). -/
def keyedRegs : List Nat := [R.SYS_RESET, R.SYS_SHIP, R.CFG_COMMIT, R.CFG_LOCK, R.CFG_WRITE]

/-- CFG_LOCK is set (R430). -/
def State.locked (s : State) : Bool := s.flag F.CFG_STATUS_LOCKED

/-- A two-byte piece of the staging area (R491). -/
def State.stageByte (s : State) (i : Nat) : Byte :=
  match s.boot.stage.find? (fun c => c.1 == i) with
  | some c => c.2
  | none => 0

/-- The staging word at CFG_STGADDR. -/
def State.stageWord (s : State) : Word :=
  let i := s.regN R.CFG_STGADDR
  BitVec.ofNat 16 ((s.stageByte i).toNat * 256 + (s.stageByte (i + 1)).toNat)

/-- What the registers that follow other state read as, pages 0x00 to 0x06. -/
def State.shownLow (s : State) (a : Nat) : Option Word :=
  if a = R.SYS_ID then some (if s.part == .qtl6410 then 0x6410 else 0x6412)
  else if a = R.SYS_BOOT then some (setBitOf (s.reg a) 1 (s.storedActive == .b))
  else if a = R.SYS_INTSUM then some s.intsum
  else if a = R.SRC_EN then some s.srcEn
  else if a = R.PATH_STATUS then some s.pathStatus
  else if a = R.CHG_ELAPSED then some (if s.chg.timed = 0 then 0 else word16 (s.chgElapsed2 / 2 / secTicks 60))
  else if a = R.CONV_STATUS then some s.convStatus
  else if a = R.TET_STATUS then some (setBitOf (s.reg a) 3 (s.flag F.TET_ADDR_AUTO))
  else if a = R.MKT_STATUS then some s.mktStatus
  else if a = R.MKT_DRAWCAP then some (BitVec.ofNat 16 (fit 8 s.drawCap % 256))
  else if a = R.MKT_OWNGEN then some (BitVec.ofNat 16 (s.offGen % 256 + 256 * (s.bidGen % 256)))
  else if a = R.MKT_STALLTAG then some (BitVec.ofNat 16 (s.stallN (s.regN R.MKT_STALLSEL) 56 2))
  else if a = R.MKT_CACHE then
    some (BitVec.ofNat 16 (s.mkt.cache.length % 16 +
      16 * ((s.mkt.cache.filter fun c : StallCell => c.dirty).length % 16) + 256 * (s.regN a / 256 % 2)))
  else none

/-- The same, pages 0x07 to 0x0A. -/
def State.shownMid (s : State) (a : Nat) : Option Word :=
  if a = R.ALM_STATUS then some s.almStatus
  else if a = R.WB_STATUS then some s.wbStatus
  else if a = R.WB_CALID_H then some (wordOf (Config.calId s.wb.calib).toNat 2 0)
  else if a = R.WB_CALID_L then some (wordOf (Config.calId s.wb.calib).toNat 2 1)
  else if R.WB_UID0 ≤ a && a ≤ R.WB_UID3 then some (wordOf Config.wbUid.toNat 4 (a - R.WB_UID0))
  else if a = R.WB_RDDATA then some (wordAt s.wb.rdBuf s.wb.rdPos)
  else if a = R.WB_OUTQ then some (BitVec.ofNat 16 s.wb.outq.length)
  else if a = R.WB_SEQNUM_H then some (wordOf s.wb.seqNum 2 0)
  else if a = R.WB_SEQNUM_L then some (wordOf s.wb.seqNum 2 1)
  else if a = R.WB_HOLDOFF then some (BitVec.ofNat 16 s.wbHoldoffMin)
  else if a = R.WB_PERIOD then some (BitVec.ofNat 16 s.wb.period)
  else if a = R.VDT_STATUS then some (setBitOf (setBitOf (s.reg a) 7 s.inCurfew) 8 s.timeValid)
  else if a = R.VDT_NOTE then some s.noteHead
  else if a = R.VDT_NOTECNT then some (BitVec.ofNat 16 s.vdt.fifo.length)
  else if a = R.VDT_NEXT then some s.vdtNext
  else if a = R.LGR_SPOOLUSE then some (BitVec.ofNat 16 s.lgr.used)
  else if R.LGR_NEXTSEQ2 ≤ a && a ≤ R.LGR_NEXTSEQ0 then some (wordOf s.lgr.nextSeq 3 (a - R.LGR_NEXTSEQ2))
  else if R.LGR_CSEQ2 ≤ a && a ≤ R.LGR_CSEQ0 then some (wordOf s.lgr.cseq 3 (a - R.LGR_CSEQ2))
  else if R.LGR_RINGOLD2 ≤ a && a ≤ R.LGR_RINGOLD0 then some (wordOf s.lgr.ringOld 3 (a - R.LGR_RINGOLD2))
  else if R.LGR_PINOLD2 ≤ a && a ≤ R.LGR_PINOLD0 then some (wordOf s.lgr.pinOld 3 (a - R.LGR_PINOLD2))
  else if a = R.LGR_RDDATA then some (wordAt s.lgr.rdBuf s.lgr.rdPos)
  else if a = R.LGR_TALLYOPEN then
    some (BitVec.ofNat 16 (s.lgr.accs.length % 32 + if s.lgr.other.isSome then 32 else 0))
  else none

/-- The same, pages 0x0C to 0x11; `viaH` for a read over Port H, whose own transaction HBUSY shows. -/
def State.shownHigh (s : State) (viaH : Bool) (a : Nat) : Option Word :=
  if a = R.OPT_STATUS then
    some (setBitOf (setBitOf (s.reg a) 0 s.optCont) 1 (s.live && s.flag F.OPT_CFG_EN && !s.flag F.OPT_STATUS_SETTLING &&
      !s.flag F.OPT_STATUS_RX))
  else if a = R.OPT_ANSDATA then some (wordAt s.opt.buf s.opt.pos)
  else if a = R.SVC_FWSTAGE then some (BitVec.ofNat 16 (s.svc.chunks.length % 256))
  else if a = R.TWB_STATUS then
    let w := setBitOf (setBitOf (s.reg a) 1 (viaH || s.twb.held.isSome)) 2 s.twb.sending.isSome
    let w := setBitOf (setBitOf w 3 (s.live && !s.boot.applied)) 4 (match s.ra.aonWrite with | some x => x.shadowed | none => false)
    some (setBitOf w 7 s.pins.wake)
  else if a = R.TWB_PORTC then some (setBitOf (s.reg a) 8 !s.pins.cfgwp)
  else if a = R.TWB_PUSH then some (setBitOf (s.reg a) 8 (s.twb.pushDue.isSome && s.twb.sending.isNone))
  else if a = R.CLK_STATUS then
    let w := setBitOf (setBitOf (s.reg a) 10 (s.timeValid && s.dstNow)) 11 s.hwdRuns
    some (setBitOf w 13 s.boot.core)
  else if a = R.CLK_TIME2 then some (wordOf s.stamp.1 2 0)
  else if a = R.CLK_TIME1 then some (wordOf s.stamp.1 2 1)
  else if a = R.CLK_TIME0 then some (BitVec.ofNat 16 s.stamp.2)
  else if a = R.CLK_LOCAL then some s.clkLocal
  else if a = R.CLK_SYNCSRC then some s.syncSrc
  else if a = R.CLK_HWDLEFT then some s.hwdLeft
  else if a = R.CFG_LOCK then some (if s.locked then 1 else 0)
  else if a = R.CFG_LOCK_N then some (if s.locked then 0xFFFE else 0xFFFF)
  else if a = R.CFG_STGDATA then some s.stageWord
  else none

/-- The value of a register, without any effect of a read (R423). -/
def State.shown (s : State) (viaH : Bool) (a : Nat) : Word :=
  match s.info a with
  | none => 0
  | some r =>
    if r.access = .wo then 0
    else ((s.shownLow r.addr).or ((s.shownMid r.addr).or (s.shownHigh viaH r.addr))).getD (s.reg r.addr)

/-! ## Groups (R425) -/

/-- The groups: first register and number of registers. -/
def regGroups : List (Nat × Nat) :=
  [(R.CHG_BALLAST_H, 2), (R.TET_PEERS0, 4), (R.ALM_ORIGIN0, 4), (R.ALM_HUSHSET0, 4), (R.WB_SEAL_H, 2),
   (R.WB_CALID_H, 2), (R.WB_UID0, 4), (R.WB_SEQNUM_H, 2), (R.LGR_NEXTSEQ2, 3), (R.LGR_CSEQ2, 3), (R.LGR_RINGOLD2, 3),
   (R.LGR_PINOLD2, 3), (R.LGR_RDSEQ2, 3), (R.LGR_HSEQ2, 3), (R.PD_RDO_H, 2), (R.PD_XID_H, 2), (R.PD_MODEVDO_H, 2),
   (R.SVC_CODE_H, 2), (R.CLK_TIME2, 3), (R.CLK_TIMESET2, 3), (R.CFG_GEN_H, 2), (R.CFG_CRC_H, 2), (R.CFG_REF_H, 2),
   (R.SNAP_TIME2, 3), (R.SNAP_COPY + 20, 2), (R.SNAP_COPY + 23, 3)]

/-- The group a register belongs to. -/
def groupOf (a : Nat) : Option (Nat × Nat) := regGroups.find? fun g => decide (g.1 ≤ a ∧ a < g.1 + g.2)

/-- The latched part a later register of a group returns, and the latches left. -/
def takeLatch (l : List (Requester × Nat × Word)) (req : Requester) (a : Nat) :
    Option Word × List (Requester × Nat × Word) :=
  ((l.find? fun x => x.1 == req && x.2.1 == a).map (·.2.2), l.filter fun x => !(x.1 == req && x.2.1 == a))

/-- A plain read of a register in a group (R425). -/
def State.groupRead (s : State) (req : Requester) (viaH : Bool) (a : Nat) : Word × State :=
  match groupOf a with
  | none => (s.shown viaH a, s)
  | some (first, n) =>
    if a = first then
      let rest := (List.range (n - 1)).map fun k => (req, first + 1 + k, s.shown viaH (first + 1 + k))
      let old := s.ra.latched.filter fun x => !(x.1 == req && first ≤ x.2.1 && decide (x.2.1 < first + n))
      (s.shown viaH a, { s with ra := { s.ra with latched := old ++ rest } })
    else
      let r := takeLatch s.ra.latched req a
      (r.1.getD (s.shown viaH a), { s with ra := { s.ra with latched := r.2 } })

/-! ## When a value is legal (R427) -/

/-- The Range of a register's field as this unit has it: VREG follows the chemistry (R157). -/
def State.fieldOk (s : State) (a : Nat) (v : Word) (f : FieldRange) : Bool :=
  let x := fieldOf v f.lo f.width
  if a = R.CHG_VREG || a = R.CHG_HWVREG then
    decide ((chemVregRange s.chem).1 ≤ x ∧ x ≤ (chemVregRange s.chem).2)
  else decide (f.least ≤ x ∧ x ≤ f.most)

/-- A rule that a register's chapter states for the register as a whole. -/
def wholeOk (a : Nat) (v : Word) : Bool :=
  if a = R.SRC_RANK then
    let r := [fieldOf v 0 2, fieldOf v 2 2, fieldOf v 4 2]
    r.all (fun x => 1 ≤ x) && decide r.Nodup
  else if a = R.CLK_TZ then
    let t := (BitVec.ofNat 8 v.toNat).toInt
    decide (-48 ≤ t ∧ t ≤ 56)
  else if a = R.PD_SVID then v != 0xFF00 && v != 0xFF01
  else if a = R.VDT_ZLIM then decide (fieldOf v 0 8 < fieldOf v 8 8)
  else if a = R.VDT_PROOFCFG then decide (fieldOf v 0 3 ≤ 6 ∧ fieldOf v 4 5 ≤ 23 ∧ fieldOf v 9 6 ≤ 59)
  else if a = R.TWB_ADDR1 || a = R.TWB_ADDR2 || a = R.TWB_ADDR3 then
    !bitOf v 7 || decide (0x08 ≤ fieldOf v 0 7 ∧ fieldOf v 0 7 ≤ 0x77)
  else if a = R.TWB_CFG then !bitOf v 2 || bitOf v 1
  else if a = R.CFG_STGADDR then !bitOf v 0
  else if a = R.CLK_HWDKICK then v == 0xA55A
  else true

/-- A value that R427 does not refuse. -/
def State.legal (s : State) (r : RegInfo) (v : Word) : Bool :=
  v &&& BitVec.ofNat 16 r.reserved == 0 && r.ranges.all (s.fieldOk r.addr v) && wholeOk r.addr v

/-! ## What the host may change (R88 to R90, R430) -/

/-- The bits R88 leaves free: ALM_CFG.KIND and TEST. -/
def freeBits (a : Nat) : Word := if a = R.ALM_CFG then 7 else 0

/-- The lowest bit of a mask. -/
def lowBit (m : Word) : Nat := ((List.range 16).find? fun k => bitOf m k).getD 0

/-- A value clamped into a HOSTLIM window (R89); the offset of CLK_TZ is signed. -/
def clampLim (v : Word) (h : HostLim) : Word :=
  let lo := lowBit h.mask
  let x := (v &&& h.mask).toNat / 2 ^ lo
  let y := if h.addr = R.CLK_TZ then
      let sgn := fun w : Nat => (BitVec.ofNat 8 w).toInt
      let t := max (sgn h.least.toNat) (min (sgn h.most.toNat) (sgn x))
      (BitVec.ofInt 8 t).toNat
    else clampNat h.least.toNat h.most.toNat x
  (v &&& ~~~h.mask) ||| (BitVec.ofNat 16 (y * 2 ^ lo) &&& h.mask)

/-- The outcome of a write to a register that is not keyed. -/
inductive Judged where
  | ok (v : Word)
  | bad
  | denied
  deriving DecidableEq, Repr

/-- A configuration-class write judged under R88 to R90 and R430; then R427. DESIGN CHOICE: where two HOSTLIM records cover the
same field, the value is clamped through each in the order of the body (R89; log entry 119). -/
def State.judgeCfg (s : State) (req : Requester) (r : RegInfo) (old v : Word) : Judged :=
  let changed := (old ^^^ v) &&& ~~~(freeBits r.addr) &&& ~~~(BitVec.ofNat 16 r.reserved)
  let lims := s.ra.hostLims.filter fun h => h.addr == r.addr && h.mask &&& changed != 0
  let open_ := lims.foldl (fun (m : Word) h => m ||| h.mask) 0
  if changed != 0 && s.locked then .denied
  else if req != .firmware && changed &&& ~~~open_ != 0 then .denied
  else
    let w := if req = .firmware then v else lims.foldl clampLim v
    if s.legal r w then .ok w else .bad

/-- A write judged (R427): `old` and `v` whole register values. -/
def State.judge (s : State) (req : Requester) (r : RegInfo) (old v : Word) : Judged :=
  if r.cfg then s.judgeCfg req r old v
  else if s.legal r v then .ok v else .bad

/-- A refused write (R427). -/
def State.badWrite (s : State) : State := s.event F.SYS_EVENT_BADWRITE

/-- A bit of CFG_STATUS follows its condition, and its event the rising edge (R491). -/
def State.cfgBit (s : State) (f ev : Flag) (x : Bool) : State :=
  let s := if x && !s.flag f then s.event ev else s
  s.setFlag f x

/-- A configuration write that is not permitted (R89). -/
def State.cfgDenied (s : State) : State :=
  (s.cfgBit F.CFG_STATUS_DENIED F.CFG_EVENT_DENIED true).tally K.CFG_DENIED

/-- A permitted configuration write has taken effect (R433, R491). -/
def State.cfgWritten (s : State) (a : Nat) : State :=
  let s := s.setFlag F.CFG_STATUS_DENIED false
  if s.ra.refSet then
    let s := { s with ra := { s.ra with written := if s.ra.written.contains a then s.ra.written else s.ra.written ++ [a] } }
    if s.flag F.CFG_STATUS_PEND then s
    else { s.setFlag F.CFG_STATUS_PEND true with ra := { s.ra with holdDue := s.timer (secTicks 1) } }
  else s

/-! ## Keys (R428) -/

/-- The key armed on a path. -/
def State.key (s : State) (req : Requester) : Option ArmedKey := s.ra.keys.find? fun k => k.req == req

/-- A path's key forgotten. -/
def State.dropKey (s : State) (req : Requester) : State :=
  { s with ra := { s.ra with keys := s.ra.keys.filter fun k => k.req != req } }

/-- A path's key is lost: KEYERR, and the count. -/
def State.loseKey (s : State) (req : Requester) : State :=
  match s.key req with
  | some _ => ((s.dropKey req).event F.SYS_EVENT_KEYERR).bump R.SYS_KEYERRCNT 1
  | none => s

/-- A key armed on a path (R428). -/
def State.armKey (s : State) (req : Requester) (a : Nat) (v : Word) : State :=
  let s := s.loseKey req
  { s with ra := { s.ra with keys := s.ra.keys ++ [⟨req, a, v, s.now⟩] } }

/-- The 1.000 ms between the two writes of a pair have passed. -/
def State.keyLate (s : State) (k : ArmedKey) : Bool := decide (k.tick + 32 < s.now)

/-! ## The configuration CRC (R431, R432) -/

/-- A configuration-class register as the check counts it. -/
def State.cfgValue (s : State) (get : Nat → Word) (r : RegInfo) : Word :=
  if s.absent r.addr then 0
  else if s.part == .qtl6412 && r.addr == R.SRC_EN then get r.addr &&& 0xD
  else get r.addr &&& ~~~(BitVec.ofNat 16 r.reserved) &&& ~~~(freeBits r.addr)

/-- The configuration-class registers, in ascending address order. -/
def cfgRegs : List RegInfo := allRegs.filter fun r => r.cfg

/-- The configuration CRC over a register file (R431). -/
def State.cfgCrc (s : State) (l : List (Nat × Word)) : Nat :=
  crc32 (cfgRegs.flatMap fun r => beBytes 2 (s.cfgValue (regGet l) r).toNat)

/-- CFG_REF is set to the configuration CRC, and the shadow taken (R432). -/
def State.setRef (s : State) : State :=
  let crc := s.cfgCrc s.regs
  let sh := s.regs.filter fun p => match regInfo p.1 with | some r => r.cfg | none => false
  let s := { s with ra := { s.ra with shadow := sh, written := [], holdDue := none, refSet := true } }
  ((s.setGroup R.CFG_REF_H 2 crc).setGroup R.CFG_CRC_H 2 crc).setFlag F.CFG_STATUS_PEND false

end Sys2Proof.Machine
end

