-- ==== Sys2Proof/Machine/EccOps.lean ====
section
/-!
DEFINITION. ECDSA over P-256 with SHA-256, as FIPS 186 defines it (R97): arithmetic modulo the field prime and the group
order, points in affine form, and the verification of a signature.
-/

namespace Sys2Proof.Machine

/-- The field prime of P-256. -/
def eccP : Nat := 0xFFFFFFFF00000001000000000000000000000000FFFFFFFFFFFFFFFFFFFFFFFF

/-- The order of the base point. -/
def eccN : Nat := 0xFFFFFFFF00000000FFFFFFFFFFFFFFFFBCE6FAADA7179E84F3B9CAC2FC632551

/-- The coefficient b of the curve y² = x³ − 3x + b. -/
def eccB : Nat := 0x5AC635D8AA3A93E7B3EBBD55769886BC651D06B0CC53B0F63BCE3C3E27D2604B

/-- The base point. -/
def eccG : Nat × Nat :=
  (0x6B17D1F2E12C4247F8BCE6E563A440F277037D812DEB33A0F4A13945D898C296,
   0x4FE342E2FE1A7F9B8EE7EB4A7C0F9E162BCE33576B315ECECBB6406837BF51F5)

/-- `b ^ e` modulo `m`, over the low `k` bits of `e`. -/
def powModBits (m b e : Nat) : Nat → Nat
  | 0 => 1
  | k + 1 =>
    let r := powModBits m b (e / 2) k
    r * r % m * (if e % 2 = 1 then b % m else 1) % m

/-- The inverse modulo a prime. -/
def invMod (m x : Nat) : Nat := powModBits m x (m - 2) 256

/-- The difference modulo `m` of two numbers below it. -/
def subMod (m a b : Nat) : Nat := (a + (m - b % m)) % m

/-- A point of the curve; none is the point at infinity. -/
abbrev EccPoint := Option (Nat × Nat)

/-- The third point of a chord or tangent with this slope. -/
def eccChord (p q : Nat × Nat) (l : Nat) : EccPoint :=
  let x := subMod eccP (subMod eccP (l * l % eccP) p.1) q.1
  some (x, subMod eccP (l * subMod eccP p.1 x % eccP) p.2)

/-- The sum of two points. -/
def eccAdd : EccPoint → EccPoint → EccPoint
  | none, q => q
  | p, none => p
  | some p, some q =>
    if p.1 = q.1 then
      if p.2 = q.2 && p.2 != 0 then
        eccChord p q ((3 * p.1 * p.1 + 3 * (eccP - 1)) % eccP * invMod eccP (2 * p.2 % eccP) % eccP)
      else none
    else eccChord p q (subMod eccP q.2 p.2 * invMod eccP (subMod eccP q.1 p.1) % eccP)

/-- A multiple of a point, over the low `k` bits of `e`. -/
def eccMul (p : EccPoint) (e : Nat) : Nat → EccPoint
  | 0 => none
  | k + 1 =>
    let r := eccMul p (e / 2) k
    let d := eccAdd r r
    if e % 2 = 1 then eccAdd d p else d

/-- A point of the curve with both coordinates in the field. -/
def eccOn (p : Nat × Nat) : Bool :=
  decide (p.1 < eccP) && decide (p.2 < eccP) &&
    (p.2 * p.2 % eccP == (p.1 * p.1 % eccP * p.1 + (eccP - 3) * p.1 + eccB) % eccP)

/-- A signature (r, s) of a hash verifies under a public key. -/
def ecdsaVerify (key : Nat × Nat) (r sg hash : Nat) : Bool :=
  if 1 ≤ r && r < eccN && 1 ≤ sg && sg < eccN && eccOn key then
    let w := invMod eccN sg
    match eccAdd (eccMul (some eccG) (hash * w % eccN) 256) (eccMul (some key) (r * w % eccN) 256) with
    | some p => p.1 % eccN == r
    | none => false
  else false

end Sys2Proof.Machine
end

