-- ==== Sys2Proof/Machine/ImageOps.lean ====
section
/-!
DEFINITION. The configuration image and the policy slots as bytes (R79 to R82, R96, R97): the header, the records, when a
copy is valid, where the copies lie, and which check of a slot fails first.
-/

namespace Sys2Proof.Machine

/-! ## The header (R79) -/

/-- The magic "QTLC". -/
def hdrMagic (h : List Byte) : Bool := h.length == 32 && h.take 4 == [0x51, 0x54, 0x4C, 0x43]

/-- The format generation. -/
def hdrGen (h : List Byte) : Nat := natAt h 4 1

/-- The size code c and the two-device flag. -/
def hdrSize (h : List Byte) : Nat := natAt h 5 1 % 128

def hdrTwo (h : List Byte) : Bool := decide (128 ≤ natAt h 5 1)

/-- The page size code p. -/
def hdrPage (h : List Byte) : Nat := natAt h 6 1

/-- The body length L, the generation counter and the minimum firmware. -/
def hdrLen (h : List Byte) : Nat := natAt h 8 4

def hdrCounter (h : List Byte) : Nat := natAt h 12 4

def hdrMinFw (h : List Byte) : Nat := natAt h 16 4

/-- Half the configuration space in KiB. -/
def hdrHalf (h : List Byte) : Nat := if hdrTwo h then 2 ^ hdrSize h else 2 ^ (hdrSize h - 1)

/-- A size byte that names a device: c from 1 to 6, and one device of 2 KiB only. -/
def hdrSizeOk (h : List Byte) : Bool :=
  1 ≤ hdrSize h && hdrSize h ≤ 6 && !(hdrTwo h && hdrSize h == 1)

/-- A header that conforms to R79, its CRC-32 aside. -/
def hdrOk (h : List Byte) : Bool :=
  hdrMagic h && (hdrGen h == 2 || hdrGen h == 3) && hdrSizeOk h && 3 ≤ hdrPage h && hdrPage h ≤ 7 &&
    natAt h 7 1 == 0 && decide (32 + hdrLen h ≤ hdrHalf h * 1024) && (hdrGen h == 3 || hdrMinFw h == 0) &&
    natAt h 20 8 == 0

/-- Where copy B lies by a header's size byte: device, offset in KiB (R78). -/
def hdrPlaceB (h : List Byte) : Nat × Nat := if hdrTwo h then (1, 0) else (0, hdrHalf h)

/-- The places copy B is looked for in when copy A carries no magic, in order (R83). -/
def probePlaces : List (Nat × Nat) := [(1, 0), (0, 1), (0, 2), (0, 4), (0, 8), (0, 16), (0, 32)]

/-- Copy B's header among what the probes found (R83): the first that places copy B where it was found. -/
def findB (a : Option (List Byte)) (probes : List (Option (List Byte))) : Option (List Byte) :=
  match a with
  | some h =>
    if hdrMagic h && hdrSizeOk h then
      match probes with
      | some b :: _ => if hdrSize b == hdrSize h && hdrTwo b == hdrTwo h then some b else none
      | _ => none
    else none
  | none => none

/-- The same without a copy A to go by. -/
def searchB (probes : List (Option (List Byte))) : Option (List Byte) :=
  ((probePlaces.zip probes).filterMap fun (p : (Nat × Nat) × Option (List Byte)) =>
    match p.2 with
    | some b => if hdrMagic b && hdrSizeOk b && hdrPlaceB b == p.1 then some b else none
    | none => none).head?

/-! ## The body (R80 to R82) -/

/-- A record of the body: type, CRIT, value. -/
structure ImgRec where
  typ : Nat
  crit : Bool
  value : List Byte
  deriving DecidableEq, Repr

/-- The records of a body, none where one does not lie wholly within it (R80); `n` bounds their number. -/
def imgRecs (gen : Nat) : Nat → List Byte → Option (List ImgRec)
  | _, [] => some []
  | 0, _ => none
  | n + 1, l =>
    let hd := if gen = 2 then 2 else 4
    let len := if gen = 2 then natAt l 1 1 else natAt l 2 2
    let flags := if gen = 2 then 0 else natAt l 1 1
    if l.length < hd || l.length < hd + len || 2 ≤ flags then none
    else (imgRecs gen n (l.drop (hd + len))).map fun rs => ⟨natAt l 0 1, flags == 1, (l.drop hd).take len⟩ :: rs

/-- The triples of a PAGELOAD: register address and value (R81). -/
def pageTriples (page : Nat) : List Byte → List (Nat × Word)
  | o :: h :: l :: rest => (page * 256 + o.toNat, BitVec.ofNat 16 (h.toNat * 256 + l.toNat)) :: pageTriples page rest
  | _ => []

/-- The register writes of a record. -/
def recLoads (r : ImgRec) : List (Nat × Word) :=
  if r.typ = 0x10 then pageTriples (natAt r.value 0 1) (r.value.drop 1) else []

/-- The HOSTLIM of a record. -/
def recLim (r : ImgRec) : Option HostLim :=
  if r.typ = 0x20 then
    let w := fun i => BitVec.ofNat 16 (natAt r.value i 2)
    some ⟨natAt r.value 0 1 * 256 + natAt r.value 1 1, w 2, w 4, w 6⟩
  else none

/-- A PAGELOAD that names configuration-class registers with values in Range (R82); what it loads into registers the QTL6412 lacks is
judged by its form alone (R4). -/
def State.loadOk (s : State) (r : ImgRec) : Bool :=
  4 ≤ r.value.length && (r.value.length - 1) % 3 == 0 &&
    (recLoads r).all fun p =>
      s.absent p.1 || match regInfo p.1 with
      | some i => i.cfg && p.1 / 256 != 0x08 && s.legal i p.2
      | none => false

/-- The configuration-class field a mask names. -/
def limField (h : HostLim) : Option (Nat × Nat × Nat) :=
  cfgFields.find? fun f => f.1 == h.addr && BitVec.ofNat 16 ((2 ^ f.2.2 - 1) * 2 ^ f.2.1) == h.mask

/-- The least and the greatest value of a HOSTLIM, in order; CLK_TZ is signed. -/
def limOrdered (h : HostLim) : Bool :=
  if h.addr = R.CLK_TZ then
    decide ((BitVec.ofNat 8 h.least.toNat).toInt ≤ (BitVec.ofNat 8 h.most.toNat).toInt)
  else decide (h.least.toNat ≤ h.most.toNat)

/-- A bound that lies within its field's Range. -/
def State.limBound (s : State) (a lo width : Nat) (x : Word) : Bool :=
  decide (x.toNat < 2 ^ width) &&
    match regInfo a with
    | some i =>
      let v := BitVec.ofNat 16 (x.toNat * 2 ^ lo)
      (i.ranges.all fun f => f.lo != lo || s.fieldOk a v f) && (a != R.CLK_TZ || wholeOk a v)
    | none => false

/-- A HOSTLIM that R82 admits; one for a register the QTL6412 lacks by its form alone (R4). -/
def State.limOk (s : State) (r : ImgRec) : Bool :=
  r.value.length == 8 &&
    match recLim r with
    | some h => s.absent h.addr || match limField h with
      | some f => limOrdered h && s.limBound f.1 f.2.1 f.2.2 h.least && s.limBound f.1 f.2.1 f.2.2 h.most
      | none => false
    | none => false

/-- A record that R82 admits. -/
def State.recOk (s : State) (gen : Nat) (r : ImgRec) : Bool :=
  match r.typ with
  | 0x01 => r.value.length == 4
  | 0x02 => r.value.length == 3 && natAt r.value 0 1 < 4 && (natAt r.value 1 1 < 64 || natAt r.value 1 1 == 0xFF) &&
      natAt r.value 2 1 < 4
  | 0x10 => s.loadOk r
  | 0x20 => gen == 3 && s.limOk r
  | 0x30 => true
  | _ => gen == 3 && !r.crit

/-- Why a copy is not valid: 2 CRC, 3 records; none for a valid copy (R82, R292). -/
def State.copyFault (s : State) (h body : List Byte) : Option Nat :=
  if !hdrOk h || body.length != hdrLen h then some 1
  else if natAt h 28 4 != crc32 (h.take 28 ++ body) then some 2
  else match imgRecs (hdrGen h) (body.length + 1) body with
    | none => some 3
    | some rs =>
      let once := fun t => (rs.filter fun r : ImgRec => r.typ == t).length == 1
      if once 0x01 && once 0x02 && rs.all (s.recOk (hdrGen h)) then none else some 3

/-- The records of a valid copy. -/
def bodyRecs (h body : List Byte) : List ImgRec := (imgRecs (hdrGen h) (body.length + 1) body).getD []

/-- CELL and UNIT of a valid copy (R81). -/
def imgInfo (h : List Byte) (rs : List ImgRec) : ImageInfo :=
  let v := fun t => ((rs.find? fun r : ImgRec => r.typ == t).map ImgRec.value).getD []
  { cellChem := natAt (v 1) 0 1, ratedMah := natAt (v 1) 1 2, fade := natAt (v 1) 3 1, unitType := natAt (v 2) 0 1,
    tetAddr := natAt (v 2) 1 1, hostImg := natAt (v 2) 2 1 % 2 == 1, lock := natAt (v 2) 2 1 / 2 % 2 == 1,
    minFw := hdrMinFw h }

/-! ## The policy slots (R96, R97) -/

/-- The version of a slot, and its code length. -/
def slotVersion (b : List Byte) : Nat := natAt b 8 4

def slotCodeLen (b : List Byte) : Nat := natAt b 12 4

/-- The bytes of a slot. -/
def State.slotBytes (s : State) : AB → List Byte
  | .a => s.boot.slotA
  | .b => s.boot.slotB

/-- The first check of R97 that a slot fails, by its code of R292; none when it verifies. -/
def State.slotFault (s : State) (x : AB) : Option Nat :=
  let b := s.slotBytes x
  let len := slotCodeLen b
  let key := (b.drop 64).take 64
  let minFw := (s.boot.image.map ImageInfo.minFw).getD 0
  if b.take 4 != [0x4F, 0x52, 0x56, 0x44] || natAt b 4 1 != 1 || natAt b 5 3 != 0 || natAt b 20 44 != 0 ||
      natAt b 192 64 != 0 then some 1
  else if 524032 < len || b.length < 256 + len || len ≤ natAt b 16 4 then some 2
  else if beNat (sha256 key) != (Config.keyDigest false).toNat && beNat (sha256 key) != (Config.keyDigest true).toNat then
    some 3
  else if slotVersion b < s.storedFloor then some 4
  else if slotVersion b < minFw then some 5
  else if ecdsaVerify (natAt b 64 32, natAt b 96 32) (natAt b 128 32) (natAt b 160 32)
      (beNat (sha256 (b.take 64 ++ (b.drop 256).take len))) then none
  else some 6

/-! ## Strap codes (R501, R502) -/

/-- The CHEM bands in 10 Ω, by code. -/
def chemBands : List (Nat × Nat) :=
  [(92, 108), (126, 148), (168, 196), (230, 268), (306, 358), (417, 489), (556, 652), (759, 891), (1012, 1188),
   (1380, 1620), (1840, 2160), (2521, 2959), (3358, 3942), (4591, 5389)]

/-- The CHEM code of a reading in 10 Ω; none is a strap fault (R75, R501). -/
def chemCode (r : Nat) : Option Nat := chemBands.findIdx? fun b => decide (b.1 ≤ r ∧ r ≤ b.2)

/-- The ADDR code of a reading in 10 Ω; none is a strap fault (R75, R502). -/
def addrCode (r : Nat) : Option Nat :=
  if r < 40 then some 0
  else if 417 ≤ r && r ≤ 489 then some 1
  else if 1840 ≤ r && r ≤ 2160 then some 2
  else if 20000 < r then some 3
  else none

end Sys2Proof.Machine
end

