-- ==== Sys2Proof/Machine/PdOps.lean ====
section
/-!
DEFINITION. The Power Delivery engines' shared operations (R340 to R359): objects and Requests, the contract and its latch,
refusals, exchanges of the unit's own, Hard and Soft Reset, structured vendor-defined messages.
-/

namespace Sys2Proof.Machine

/-! ## Sending and exchanges (R349 to R351) -/

/-- A message handed to the physical layer (R350). -/
def State.pdSend (s : State) (m : PdMsg) : State :=
  { s with pd := { s.pd with sent := some m, sentAt := s.now, tries := 0, txId := (s.pd.txId + 1) % 8 } }

/-- An exchange is in progress: a Request without PS_RDY, or an exchange of the unit's own. -/
def State.pdBusy (s : State) : Bool := s.pd.req.isSome || s.pd.ask.isSome

/-- The revision in use (R361): 1 for 2.0, 2 for 3.x. -/
def State.pdRev (s : State) : Nat := s.field F.PD_STATUS_REV

/-- The unit may begin an exchange of its own (R350): under Revision 3.x tSinkTx after SinkTxOK was seen. -/
def State.pdMayBegin (s : State) : Bool :=
  !s.pdBusy && (s.pdRev != 2 || (s.field F.TC_STATUS_ADV == 3 && s.elapsed (s.pd.sinkTxAt.map (· + msTicks 18))))

/-- An exchange of the unit's own begins, or is held (R350). -/
def State.pdAsk (s : State) (m : PdMsg) : State :=
  if s.pdMayBegin then
    let s := s.pdSend m
    { s with pd := { s.pd with ask := some (m, s.now) } }
  else { s with pd := { s.pd with held := s.pd.held.filter (· != m) ++ [m] } }

/-- A Request is sent (R344). -/
def State.pdRequest (s : State) (r : PdReq) : State :=
  let s := s.pdSend (.request r.rdo)
  { s with pd := { s.pd with req := some r, reqAt := s.now, acceptAt := none, retry := none, capsAt := none } }

/-- A Request on the unit's own initiative: sent, or kept until it may be (R350). -/
def State.pdOwnRequest (s : State) (r : PdReq) : State :=
  if s.pdMayBegin then s.pdRequest r else { s with pd := { s.pd with retry := some (r, s.now) } }

/-! ## Objects and Requests (R341 to R343, R347) -/

/-- Object `i` of the last Source_Capabilities (R361). -/
def State.srcPdo (s : State) (i : Nat) : Nat :=
  s.regN (R.PD_SRCPDO0 + 2 * i) * 65536 + s.regN (R.PD_SRCPDO0 + 2 * i + 1)

/-- How many objects the source offers. -/
def State.srcCount (s : State) : Nat := s.regN R.PD_SRCPDOCNT

/-- Bits `lo .. lo + n - 1` of an object. -/
def objBits (x lo n : Nat) : Nat := x / 2 ^ lo % 2 ^ n

/-- The firmware owns the port (R340). -/
def State.fwOwns (s : State) : Bool := s.flag F.PD_STATUS_OWNER

/-- PD_IMAX and SRC_VBUS_ILIM, whichever is lower, in 10 mA. -/
def State.pdImax (s : State) : Nat := min (s.regN R.PD_IMAX) (s.regN R.SRC_VBUS_ILIM)

/-- The RDO of R343: position, USB Communications Capable, No USB Suspend; the rest by type. -/
def State.rdo (s : State) (pos typ mv ma : Nat) : Nat :=
  let base := pos * 2 ^ 28 + (if s.flag F.USB_CFG_EN then 2 ^ 25 else 0) + 2 ^ 24
  match typ with
  | 0 => base + ma * 1024 + ma
  | 1 => base + mv / 20 * 512 + ma / 5
  | _ => base + mv / 100 * 4 * 512 + ma / 5

/-- A Request for an object at a voltage and a current. -/
def State.mkReq (s : State) (fallback : Bool) (i typ mv ma : Nat) : PdReq :=
  let ma := if typ = 0 then ma else ma / 5 * 5
  ⟨i + 1, s.srcPdo i, s.rdo (i + 1) typ mv ma, mv, ma, typ, fallback⟩

/-- The fixed object at index `i`, requested under R341 or R342. -/
def State.fixedReq (s : State) (fallback : Bool) (i : Nat) : Option PdReq :=
  let p := s.srcPdo i
  if objBits p 30 2 = 0 then some (s.mkReq fallback i 0 (objBits p 10 10 * 50) (min s.pdImax (objBits p 0 10))) else none

/-- The most current an object gives at a voltage, in 10 mA (R342, R347). -/
def objMost (pdo typ mv : Nat) : Nat :=
  match typ with
  | 0 => objBits pdo 0 10
  | 1 => objBits pdo 0 7 * 5
  | _ => if mv ≤ 15000 then objBits pdo 10 10 else objBits pdo 0 10

/-- The candidate that the object at index `i` gives the firmware (R342, R347). -/
def State.candidate (s : State) (i : Nat) : Option PdReq :=
  let p := s.srcPdo i
  match objBits p 28 4 with
  | 12 =>
    let mv := s.regN R.PD_PPS_V * 20
    if s.flag F.PD_CFG_PPS_EN && decide (objBits p 8 8 * 100 ≤ mv ∧ mv ≤ objBits p 17 8 * 100) then
      some (s.mkReq false i 1 mv (min s.pdImax (objMost p 1 mv)))
    else none
  | 14 =>
    let mv := s.regN R.PD_AVS_V * 100
    let top := if objBits p 0 10 = 0 then 15000 else 20000
    if s.flag F.PD_CFG_AVS_EN && decide (9000 ≤ mv ∧ mv ≤ top) then
      some (s.mkReq false i 2 mv (min s.pdImax (objMost p 2 mv)))
    else none
  | _ =>
    match s.fixedReq false i with
    | some r => if r.mv ≤ s.regN R.PD_VMAX * 100 then some r else none
    | none => none

/-- The object has been refused three times (R346). -/
def State.pdRefused (s : State) (pos : Nat) : Bool :=
  s.pd.refusals.any fun r : PdRefusal => r.pos == pos && decide (3 ≤ r.count)

/-- Selection power: min(P, PD_PMAX), in 10 µW, with I as it is before a Request rounds it down (R342, R343). -/
def State.selPower (s : State) (r : PdReq) : Nat :=
  min (r.mv * min s.pdImax (objMost r.pdo r.typ r.mv)) (s.regN R.PD_PMAX * 10000)

/-- The first of two candidates in the firmware's order (R342). -/
def State.before (s : State) (a b : PdReq) : Bool :=
  if s.selPower a != s.selPower b then decide (s.selPower b < s.selPower a)
  else if a.typ != b.typ then decide (a.typ < b.typ)
  else decide (a.mv ≤ b.mv)

/-- The best of some Requests by an order. -/
def bestReq (first : PdReq → PdReq → Bool) : List PdReq → Option PdReq
  | [] => none
  | r :: l => match bestReq first l with
    | some x => if first r x then some r else some x
    | none => some r

/-- The firmware's choice (R342). -/
def State.fwChoice (s : State) : Option PdReq :=
  bestReq s.before (((List.range s.srcCount).filterMap s.candidate).filter fun r => !s.pdRefused r.pos)

/-- The fallback engine's choice under a ceiling in mV (R341): the highest voltage. -/
def State.fbChoice (s : State) (ceiling : Nat) : Option PdReq :=
  bestReq (fun a b => decide (b.mv ≤ a.mv)) (((List.range s.srcCount).filterMap (s.fixedReq true)).filter fun r =>
    decide (r.mv ≤ ceiling) && !s.pdRefused r.pos)

/-- The present voltage: the contract's, or 5.0 V. -/
def State.pdVolt (s : State) : Nat := (s.pd.contract.map PdReq.mv).getD 5000

/-- No change of voltage is asked for on the engine's own initiative (R348). -/
def State.pdHoldsVolt (s : State) : Bool := s.flag F.SYS_STATE_ALARM || s.flag F.CONV_STATUS_EXC

/-- The object that keeps the present voltage, if one is offered (R348). -/
def State.sameVolt (s : State) (fallback : Bool) : Option PdReq :=
  let l := (List.range s.srcCount).filterMap (s.fixedReq fallback) ++
    (if fallback then [] else (List.range s.srcCount).filterMap s.candidate)
  bestReq s.before (l.filter fun r => r.mv == s.pdVolt)

/-- With SRC_EN.VBUS_EN clear: the 5 V object at 10 mA (R343). -/
def State.idleChoice (s : State) (fallback : Bool) : Option PdReq :=
  ((List.range s.srcCount).find? fun i => (s.fixedReq fallback i).any fun r => r.mv == 5000).map fun i =>
    s.mkReq fallback i 0 5000 1

/-- After a warm reset: the latched object if offered unchanged, otherwise a choice below its voltage (R357). -/
def State.latchChoice (s : State) (r : PdReq) : Option PdReq :=
  if s.srcPdo (r.pos - 1) = r.pdo ∧ r.pos ≤ s.srcCount then some { r with fallback := true } else s.fbChoice r.mv

/-- The Request an engine makes of the objects offered (R341 to R343, R348, R357). -/
def State.pdChoice (s : State) (fallback : Bool) : Option PdReq :=
  if !s.flag F.SRC_EN_VBUS_EN then s.idleChoice fallback
  else match s.pd.latch with
    | some r => s.latchChoice r
    | none =>
      let free := if fallback then s.fbChoice (s.regN R.PD_FB_VMAX * 100) else s.fwChoice
      if s.pdHoldsVolt then (match s.sameVolt fallback with | some r => some r | none => free) else free

/-- An engine answers Source_Capabilities with its Request. -/
def State.pdAnswerCaps (s : State) (fallback : Bool) : State :=
  match s.pdChoice fallback with
  | some r => s.pdRequest r
  | none => { s with pd := { s.pd with capsAt := none } }

/-- The firmware re-evaluates its choice (R342, R348, R362). -/
def State.pdReeval (s : State) : State :=
  if s.fwOwns && s.pd.capsSeen && !s.pdBusy && s.boot.core then
    match s.pdChoice false with
    | some r =>
      if some r.rdo = s.pd.contract.map PdReq.rdo || (s.pdHoldsVolt && r.mv != s.pdVolt) then s else s.pdOwnRequest r
    | none => s
  else s

/-! ## The contract (R344, R345) -/

/-- The limit in sink standby in 10 mA (R345): the present one, or 2.5 W at the lower voltage. -/
def State.standby (s : State) (mv : Nat) : Nat := min (s.regN R.PD_LIMIT) (250000 / min s.pdVolt mv)

/-- Accept (R344): standby, or at the same voltage the lowered current at once. -/
def State.pdAccepted (s : State) (r : PdReq) : State :=
  let s := { s with pd := { s.pd with acceptAt := some s.now } }
  if r.mv = s.pdVolt then
    if r.ma < s.regN R.PD_LIMIT then s.setReg R.PD_LIMIT (BitVec.ofNat 16 r.ma) else s
  else
    let s := (s.setReg R.PD_LIMIT (BitVec.ofNat 16 (s.standby r.mv))).setFlag F.PD_STATUS_TRANSITION true
    { s with path := { s.path with vref := min s.pdVolt r.mv } }

/-- The contract latch shown (R357, R361). -/
def State.showContract (s : State) (r : PdReq) : State :=
  let s := (s.setReg R.PD_CONTRACT_V (BitVec.ofNat 16 (r.mv / 20))).setReg R.PD_CONTRACT_I (BitVec.ofNat 16 r.ma)
  let s := (s.setGroup R.PD_RDO_H 2 r.rdo).setReg R.PD_LIMIT (BitVec.ofNat 16 r.ma)
  ((s.setFlag F.PD_STATUS_CONTRACT true).setField F.PD_STATUS_OBJTYPE r.typ).setFlag F.PD_STATUS_TRANSITION false

/-- The PD_CONTRACT record (R360). -/
def State.postContract (s : State) (r : PdReq) : State :=
  s.post K.PD_CONTRACT (beBytes 4 r.rdo ++ beBytes 4 r.pdo ++ beBytes 2 (r.mv / 20) ++ beBytes 2 r.ma ++
    [boolByte (!r.fallback), byte s.pdRev])

/-- PS_RDY (R344, R347): the contract stands; one that differs from the one before is recorded. -/
def State.pdContract (s : State) (r : PdReq) : State :=
  let changed := s.pd.contract != some r
  let s := { s with pd := { s.pd with req := none, acceptAt := none, contract := some r, latch := none,
                                      keepDue := if r.typ = 0 then none else s.timer (secTicks 8) },
                    path := { s.path with vref := r.mv } }
  let s := (s.showContract r).refreshLimit
  if changed then (s.event F.PD_EVENT_CONTRACT).postContract r else s

/-- The contract is gone: the limit of R337 and V_REF 5.0 V (R352, R356). -/
def State.contractClear (s : State) : State :=
  let s := { s with pd := { s.pd with req := none, acceptAt := none, ask := none, held := [], retry := none, capsAt := none,
                                      contract := none, keepDue := none, latch := none, chunkDue := none },
                    path := { s.path with vref := 5000 } }
  let s := ((s.setReg R.PD_CONTRACT_V 0).setReg R.PD_CONTRACT_I 0).setGroup R.PD_RDO_H 2 0
  (((s.setFlag F.PD_STATUS_CONTRACT false).setField F.PD_STATUS_OBJTYPE 0).setFlag F.PD_STATUS_TRANSITION false).refreshLimit

/-! ## Refusals (R346) -/

/-- One more refusal of an object. -/
def countRefusal (now pos : Nat) : List PdRefusal → List PdRefusal
  | [] => [⟨pos, 1, none⟩]
  | r :: l =>
    if r.pos = pos then
      ⟨pos, r.count + 1, if 3 ≤ r.count + 1 then some (now + secTicks 600) else none⟩ :: l
    else r :: countRefusal now pos l

/-- Wait or Reject in answer to a Request (R346). -/
def State.pdRefusal (s : State) (r : PdReq) : State :=
  let s := ((s.bump R.PD_REFCNT 1).event F.PD_EVENT_REFUSED).tally K.PD_REFUSED
  let s := { s with pd := { s.pd with req := none, refusals := countRefusal s.now r.pos s.pd.refusals } }
  if s.pdRefused r.pos then
    match s.pdChoice r.fallback with
    | some x => s.pdRequest x
    | none => s
  else { s with pd := { s.pd with retry := some (r, s.now + msTicks 100) } }

/-! ## Resets of the protocol (R352 to R355) -/

/-- The partner is taken as non-PD (R354). -/
def State.pdNonPd (s : State) : State :=
  if s.flag F.PD_STATUS_NONPD then s
  else
    let s := { s with pd := { s.pd with noRespDue := none } }
    ((s.setFlag F.PD_STATUS_NONPD true).event F.PD_EVENT_NONPD).post K.PD_NONPD [byte s.pd.hrRow]

/-- The protocol layer after a Hard Reset, or a collapse taken as one (R352, R356). -/
def State.pdProtocolReset (s : State) : State :=
  let s := (s.contractClear).svcModeEnd 3
  { s with pd := { s.pd with sent := none, tries := 0, txId := 0, rxId := none, capsSeen := false, bist := 0, bistDue := none,
                             waitFrom := s.now + msTicks 5 } }.refreshCc

/-- What a Hard Reset does (R352): originator 0 the unit, 1 the source. -/
def State.pdHardReset (s : State) (orig : Nat) (cause : Byte) : State :=
  let s := s.pdProtocolReset
  let s := { s with pd := { s.pd with
    sent := if orig = 0 then some .hardReset else none, hrCount := s.pd.hrCount + 1,
    hrRow := if orig = 0 then s.pd.hrRow + 1 else s.pd.hrRow,
    noRespDue := s.timer (secTicks 5), hrDue := s.timer (msTicks 685) } }
  ((s.event F.PD_EVENT_HARDRESET).bump R.PD_HRCNT 1).post K.PD_HARDRESET [byte orig, cause, byte s.pd.hrCount]

/-- The unit sends Hard Reset, at most two in a row without Source_Capabilities; then the partner is non-PD (R350, R353,
R354). -/
def State.pdSendHardReset (s : State) (cause : Nat) : State :=
  if 2 ≤ s.pd.hrRow then s.pdNonPd else s.pdHardReset 0 (byte cause)

/-- The unit sends Soft_Reset (R350, R357). -/
def State.pdSoftReset (s : State) : State :=
  let s := { s with pd := { s.pd with req := none, acceptAt := none, retry := none, capsAt := none, txId := 0, rxId := none } }
  let s := (s.setFlag F.PD_STATUS_TRANSITION false).pdSend .softReset
  { s with pd := { s.pd with ask := some (.softReset, s.now) } }

/-! ## Receiving (R350, R351, R353) -/

/-- Power Delivery runs on the port: attached, and enabled when it was (R335, R362). -/
def State.pdOn (s : State) : Bool :=
  s.part == .qtl6410 && s.live && s.tcState == 2 && bitOf s.pd.cfg 0 && s.pd.bist != 1

/-- A message arrives (R350, R351): one of Revision 1.0 makes the partner non-PD; a repeat is discarded; in BIST test-data
mode every message is. -/
def State.pdReceive (s : State) (h : PdHeader) (f : State → State) : State :=
  if !s.pdOn then s
  else if h.rev = 0 then s.pdNonPd
  else
    let s := { s with pd := { s.pd with seen := true } }.setFlag F.PD_STATUS_PARTNER true
    if s.pd.bist = 2 || s.pd.rxId == some h.id then s
    else f { s with pd := { s.pd with rxId := some h.id } }

/-- A message that starts an exchange: inside another one it does not belong, and Hard Reset follows (R353). -/
def State.pdIncoming (s : State) (h : PdHeader) (f : State → State) : State :=
  s.pdReceive h fun s => if s.pdBusy then s.pdSendHardReset 5 else f s

/-! ## Ownership (R340, R341) -/

/-- The engine takes ownership with a contract it may not keep: within 1 s it asks for the objects anew (R341). -/
def State.fbReview (s : State) : State :=
  match s.pd.contract with
  | some r => if r.typ = 0 ∧ r.mv ≤ s.regN R.PD_FB_VMAX * 100 then s else s.pdAsk .getSourceCap
  | none => s

/-- The port changes its owner (R340): causes 0 TAKE, 1 core reset, 2 watchdog warning, 3 release. -/
def State.pdOwner (s : State) (fw : Bool) (cause : Nat) : State :=
  if s.fwOwns = fw then s
  else
    let s := ((s.setFlag F.PD_STATUS_OWNER fw).event F.PD_EVENT_OWNER_CHG).post K.PD_OWNER [boolByte fw, byte cause]
    if fw then s else (s.setFlag F.PD_CTRL_TAKE false).fbReview

/-! ## Answers (R343, R351, R358) -/

/-- The objects of Sink_Capabilities (R343). -/
def State.sinkCaps (s : State) : List Nat :=
  let i := min (s.regN R.PD_IMAX) 300
  let v := s.regN R.PD_VMAX * 100
  let first := 5000 / 50 * 1024 + i + (if 5000 < v then 2 ^ 28 else 0) + (if s.flag F.USB_CFG_EN then 2 ^ 26 else 0)
  [first] ++ ([9000, 15000, 20000].filter (· ≤ v)).map (fun mv => mv / 50 * 1024 + i) ++
    (if s.flag F.PD_CFG_PPS_EN then [12 * 2 ^ 28 + 210 * 2 ^ 17 + 40 * 256 + i / 5] else []) ++
    (if s.flag F.PD_CFG_AVS_EN then [14 * 2 ^ 28 + i * 1024 + i] else [])

/-- A structured VDM header (R358): SVDM version 2.0 under Revision 3.x, 1.0 under 2.0. -/
def State.vdmHeader (s : State) (svid pos cmd : Nat) (ack : Bool) : Nat :=
  svid * 65536 + 0x8000 + (if s.pdRev = 2 then 0x2000 else 0) + pos * 256 + (if ack then 0x40 else 0x80) + cmd

/-- An answer to a structured VDM. -/
def State.vdmAnswer (s : State) (svid pos cmd : Nat) (ack : Bool) (objs : List Nat) : State :=
  s.pdSend (.vdm (s.vdmHeader svid pos cmd ack :: objs))

/-- Service mode is offered (R358). -/
def State.svcOffered (s : State) (svid : Nat) : Bool :=
  s.flag F.PD_CFG_SVC_EN && s.regN R.PD_SVID != 0 && svid == s.regN R.PD_SVID

/-- The objects of Discover Identity (R358). -/
def State.identityObjs (s : State) : List Nat :=
  [(if s.flag F.USB_CFG_EN then 2 ^ 30 else 0) + 2 * 2 ^ 27 + (if s.flag F.PD_CFG_SVC_EN then 2 ^ 26 else 0) + s.regN R.PD_VID,
   s.group R.PD_XID_H 2, s.regN R.PD_PID * 65536 + 0x00B1] ++ (if s.pdRev = 2 then [0x61000000] else [])

/-- Service mode begins (R359). -/
def State.svcModeStart (s : State) : State :=
  if s.flag F.PD_STATUS_SVCMODE then s
  else (((s.setFlag F.PD_STATUS_SVCMODE true).refreshSbu).event F.PD_EVENT_SVC_ENTER).post K.PD_SVCMODE [1, 0]

end Sys2Proof.Machine
end

