-- ==== Sys2Proof/Machine/BootOps.lean ====
section
/-!
DEFINITION. The resets and starts (R61 to R98, R126): SAFE, cold start, warm and core reset, image application, secure
start.
-/

namespace Sys2Proof.Machine

/-! ## SAFE (R23, R24) -/

/-- Every offer and bid of the unit is withdrawn without a frame, and no market frame is sent (R24). -/
def State.safeMarket (s : State) : State :=
  let a := s.selfAddr
  let s := if s.offering then
      let s := (s.mkt.granted ++ s.mkt.waiting).foldl (fun (s : State) (b : Nat) => s.dropInbid b stWithdrawn) s
      (((s.stallBytes a 14 [byte stWithdrawn]).stallBytes a 18 [0, 0]).setReg R.MKT_OFFER_P 0).setReg R.MKT_OFFER_FREE 0
    else s
  let s := (s.mkt.bids.map OwnBid.addr).foldl (fun (s : State) (b : Nat) => (s.dropBid b stWithdrawn).clearDraws b) s
  { s with mkt := { s.mkt with offerAt := none, tentDue := none, waiting := [], granted := [], cfgDue := none },
           link := { s.link with txq := s.link.txq.filter fun f : TxFrame => !(2 ≤ f.frame.cls && f.frame.cls ≤ 5) } }

/-- A SAFE cause is found: its bit, SAFE, a SAFE_ENTRY record with the cause of R23; a proof test is abandoned and a FAULT frame
posted, which without a valid image stays unsent (R23, R30, R244, R474). -/
def State.enterSafe (s : State) (f : Flag) (cause : Nat) : State :=
  if s.flag f then s
  else
    let s := (s.setFlag f true).setPstate pstateSafe
    let s := (s.event F.SYS_EVENT_SAFE).post K.SAFE_ENTRY ([byte cause] ++ beBytes 2 (s.regN R.SYS_SAFECAUSE))
    ((((s.proofAbandon 4).safeMarket).refreshChgOff).powerChanged).postFault 0x30 cause

/-- A start that finds no SAFE cause leaves SAFE (R24, R26). -/
def State.leaveSafe (s : State) : State :=
  if s.inSafe && s.reg R.SYS_SAFECAUSE == 0 then (s.setPstate 1).refreshFeed else s

/-! ## What every reset does -/

/-- SYS_RSTCAUSE and the RESET record (R63, R473): kinds 1 cold, 2 warm, 3 core. -/
def State.resetRecord (s : State) (kind cause : Nat) (alarm proof : Bool) : State :=
  let s := s.setReg R.SYS_RSTCAUSE (BitVec.ofNat 16 (kind + 4 * cause))
  s.post K.RESET (beBytes 2 (s.regN R.SYS_RSTCAUSE) ++ [boolByte alarm, boolByte proof])

/-- The VREG reset values follow the latched chemistry (R157, R477). -/
def State.chemDefaults (s : State) : State :=
  (s.setReg R.CHG_VREG (BitVec.ofNat 16 (chemVreg s.chem))).setReg R.CHG_HWVREG (BitVec.ofNat 16 (chemHwvreg s.chem))

/-- The code latched for a CHEM reading in 10 Ω: 14 and 15 are the open ends of R501, below 0.40 kΩ and above the bands. DESIGN
CHOICE (log entry 100): 15 also for a reading between two bands, to which no rule gives a code. -/
def chemLatch (r : Nat) : Nat := (chemCode r).getD (if r < 40 then 14 else 15)

/-- The straps are measured and latched; a reading outside the bands is a strap fault (STRAP_READ, R75, R503). -/
def State.strapRead (s : State) : State :=
  let c := chemCode s.pins.chemR
  let a := addrCode s.pins.addrR
  let s := { s with boot := { s.boot with chem := chemLatch s.pins.chemR, addr := a.getD 0, strapBad := c.isNone || a.isNone } }
  let s := if c.isNone then s.post K.STRAP_FAULT ([0] ++ beBytes 2 (min s.pins.chemR 0xFFFF)) else s
  let s := if a.isNone then s.post K.STRAP_FAULT ([1] ++ beBytes 2 (min s.pins.addrR 0xFFFF)) else s
  s.chemDefaults

/-- A ship request that runs or is armed ends with a reset (R27, R28). -/
def State.shipReset (s : State) : State :=
  let s := match s.boot.shipDue with
    | some (_, req) => { s with boot := { s.boot with shipDue := none } }.shipRefuse 7 req
    | none => s
  s.shipDrop

/-- An image write that runs is abandoned: its pages are gone with the SRAM, and the EEPROM is protected again (R64, R95). -/
def State.writeLost (s : State) : State :=
  match s.boot.write with
  | none => s
  | some _ =>
    ({ s with boot := { s.boot with write := none }, pins := { s.pins with cfgwp := true } }.setFlag
      F.CFG_STATUS_WRBUSY false).setFlag F.TWB_PORTC_BUSY false

/-- Firmware work that its SRAM held is gone; the stores of the Ledger stay (R64, R327). -/
def State.firmwareLost (s : State) : State :=
  let s := s.writeLost
  { s with cmd := Cmd.reset,
           boot := { s.boot with core := false, running := none, stage := [] },
           lgr := { s.lgr with fwWait := [] },
           svc := { s.svc with fwTotal := none, fwPos := 0, chunks := [], activation := none },
           vdt := { s.vdt with fifo := [], held := [], waiting := [], requested := false, deferred := none,
                               deferDue := none, lifted := false, critFrom := none, lowFrom := none, clearFrom := none },
           chg := { s.chg with recalcDue := none },
           mkt := { s.mkt with draws := [], isrcDue := none, cfgDue := none, restart := 2 },
           clk := { s.clk with pwdWarned := false } }

/-! ## Cold start (R61, R70) -/

/-- What outlives every supply: the ferroelectric banks, the policy store, one-time memories, the KEEP latch on BAT. -/
def State.coldBase (s : State) (chemR addrR : Nat) : State :=
  let b := { State.reset with part := s.part, free := s.free, pending := s.pending, wb := s.wb,
                              pins := { Pins.reset with chemR := chemR, addrR := addrR, wake := s.pins.wake,
                                                        cc1 := if s.part == Part.qtl6410 then CcEnd.clamp else CcEnd.absent,
                                                        cc2 := if s.part == Part.qtl6410 then CcEnd.clamp else CcEnd.absent },
                              boot := { Boot.reset with slotA := s.boot.slotA, slotB := s.boot.slotB },
                              lgr := { Ledger.reset with bankA := s.lgr.bankA, bankB := s.lgr.bankB } }
  { b.setReg R.CONV_KEEP (s.reg R.CONV_KEEP) with
    conv := { b.conv with keepOff := s.conv.keepOff, keepMv := s.conv.keepMv } }

/-- The peer offers and bids that the Stall region keeps standing count as refreshed now, since AON counts from the start: they lapse
75 s on unless they are refreshed (R264, R278). -/
def State.peersFound (s : State) : State :=
  let peer := fun a : Nat =>
    let p := PeerMarket.mk a (if s.offerStands a then some s.now else none)
      (if s.stallN a 25 1 = bidOpen ∨ s.stallN a 25 1 = bidGranted then some s.now else none)
    if !s.stallFlag a 2 && (p.offerAt.isSome || p.bidAt.isSome) then some p else none
  { s with mkt := { s.mkt with peers := (List.range 64).filterMap peer } }

/-- A cold start up to the step "Straps latched": the Ledger replays, damaged Stall entries are repaired, VAUX comes up at
the stored value, BAT and both CC pins as found (R70, R146, R281, R307, R333). -/
def State.coldStart (s : State) (cause chemR addrR bat : Nat) : State :=
  let s := ({ s.coldBase chemR addrR with phase := .startup }.setChannels false false).replay
  let s := ({ s with chg := { s.chg with bat := bat } }.refreshCc).refreshBatfet
  let s := s.setField F.CONV_AUX_VSEL s.storedVaux
  let s := ((List.range 64).foldl (fun (t : State) (a : Nat) => t.stallRepair a) s).peersFound
  let s := s.strapRead
  let s := { s with conv := { s.conv with nrstDue := s.timer (msTicks 10) }, mkt := { s.mkt with restart := 1 } }
  s.resetRecord 1 cause false false

/-! ## Warm reset (R61, R64, R65, R74, R253, R357) -/

/-- What a warm reset leaves of the Tether link: the address in use, the alarm and hush slots, the guardian's history. -/
def Link.warm (l : Link) : Link :=
  { Link.reset with alarmOn := l.alarmOn, addrRead := l.addrRead, carriers := l.carriers, alarmSlot := l.alarmSlot, hushSlot := l.hushSlot, prevAddr := l.prevAddr, trips := l.trips,
                    starts := l.starts, silenceDue := l.silenceDue, acceptAt := l.acceptAt, chgRecAt := l.chgRecAt, txFrom := l.txFrom }

/-- The port after a warm reset: Type-C state and contract latch kept; within 1 ms the fallback engine sends Soft_Reset
(R357). -/
def State.pdWarm (s : State) : State :=
  let s := s.svcModeEnd 4
  let latch := s.pd.contract
  let p := { Pd.reset with contract := latch, latch := latch, cfg := s.pd.cfg, seen := s.pd.seen, bcRan := true,
                           hrCount := s.pd.hrCount, capsSeen := s.pd.capsSeen, waitFrom := s.now }
  let s := s.pdOwner false 1
  let s := { s with pd := p }
  if latch.isSome || s.pd.seen then s.pdSoftReset else s

/-- The register logic after a warm reset: keys lost, holds and latches gone (R425, R428). -/
def State.logicWarm (s : State) : State :=
  let lost := s.ra.keys.map ArmedKey.req
  let s := lost.foldl (fun (t : State) (q : Requester) => t.loseKey q) s
  { s with ra := RegLogic.reset }

/-- Image, Port C and start-up after a warm reset; the straps are read again. -/
def Boot.warm (b : Boot) : Boot :=
  { Boot.reset with chem := b.chem, addr := b.addr, strapBad := b.strapBad, slotA := b.slotA, slotB := b.slotB,
                    startedAt := b.startedAt }

/-- The status and measurement registers of the blocks a warm reset leaves running: their next refresh shows the same
(R64, R65). -/
def warmMirrors : List Nat :=
  [R.SRC_STATUS, R.SRC_VIN_V, R.SRC_VBUS_V, R.SRC_VPV_V, R.SRC_VTET_V, R.SRC_IIN, R.PATH_STATUS, R.PATH_VSYS, R.PATH_VMUX, R.CONV_STATUS, R.CONV_HORN_MEAS, R.CONV_TET_I, R.CHG_STATUS, R.CHG_ZONE, R.PD_STATUS,
   R.TET_STATUS]

/-- ALM_TDISC changes: a disagreement that runs keeps the value it started with (R59). -/
def State.tdiscChange (s : State) (old : Word) : State :=
  if s.reg R.ALM_TDISC = old then s
  else { s with alm := { s.alm with tdiscLog := (s.now, old) :: s.alm.tdiscLog } }

/-- The registers a warm reset restores, with those mirrors as before: of TET_STATUS the conflict, the error states, the guardian's
hold and the listening window clear, of CHG_STATUS the full request; CONV_AUX holds the stored setting, and a disagreement that runs
keeps its t_DISC (R59, R146, R164, R241, R253). -/
def State.warmRegs (s : State) : State :=
  let t := warmMirrors.foldl (fun (t : State) (a : Nat) => t.setReg a (s.reg a)) (s.restore [.warm, .core])
  let t := (t.setReg R.TET_STATUS (t.reg R.TET_STATUS &&& 0xEE0F)).setFlag F.CHG_STATUS_FULLREQ false
  (t.setField F.CONV_AUX_VSEL s.storedVaux).tdiscChange (s.reg R.ALM_TDISC)

/-- The settings that the power stage holds from a warm reset until the image has been re-applied (R64, R65); a second warm reset
before that changes nothing of them. -/
def State.powerHeld (s : State) : List (Nat × Word) := heldRegs.map fun a => (a, s.power.reg a)

/-- A warm reset with its cause of R473, up to the header reads of its start. -/
def State.warmReset (s : State) (cause : Nat) : State :=
  let alarm := s.flag F.SYS_STATE_ALARM
  let proof := s.flag F.SYS_STATE_PROOF
  let s := ((s.proofAbandon 2).svcClose closeReset).shipReset
  let s := (s.usbOff).pdWarm
  let s := ((s.writeBackAll).firmwareLost).targetRestored
  let held := s.powerHeld
  let wish := if s.flag F.TET_CFG_MODE = s.flag F.TET_STATUS_LEVEL then none else some (s.flag F.TET_CFG_MODE)
  let silenced := s.flag F.TET_STATUS_SILENCED
  let s := s.warmRegs
  let s := s.logicWarm
  let s := { s with phase := .startup, boot := s.boot.warm, link := { s.link.warm with modeWish := wish }, usb := Usb.reset, opt := Opt.reset,
                    svc := { Svc.reset with floorFrom := s.svc.floorFrom }, twb := Twb.reset,
                    path := { s.path with mainOff := false, held := held },
                    chg := { s.chg with fault := 0, faultAt := none },
                    wb := { s.wb with rdBuf := [], rdPos := 0 },
                    lgr := { s.lgr with rdSetup := none, rdBuf := [], rdPos := 0 },
                    pins := { s.pins with cfgwp := true } }
  let s := (s.setFlag F.LGR_STATUS_RDBUSY false).setReg R.CLK_PWD 0
  let s := (((s.strapRead).refreshCc).stallRebuild).chgOff
  let s := if silenced then s.silenceOver else s
  (s.resetRecord 2 cause alarm proof).alarmRederive

/-! ## Core reset (R61, R64, R141, R278, R357) -/

/-- The commands whose warm reset still waits for their CMD_DONE: a core reset takes their answer only (R326). -/
def State.warmDue (s : State) : List Finish :=
  s.cmd.finishing.filterMap fun f => match f.act with
    | .warm c => some ⟨(f.run.1, f.run.2.1, true), f.status, f.body, .warm c⟩
    | _ => none

/-- The core stops: what it held is lost and the registers marked Core are restored (R61, R64, R141, R340). -/
def State.coreStop (s : State) : State :=
  let s := ((s.proofAbandon 2).svcClose closeReset).shipReset
  let due := s.warmDue
  let s := ((s.pdOwner false 1).firmwareLost).targetRestored
  let s := { s with cmd := { s.cmd with finishing := due } }
  let s := (s.restore [.core]).dropKey .firmware
  ((s.refreshLimited).powerChanged).chgFigures

/-- A core reset with its cause of R473; secure start follows. -/
def State.coreReset (s : State) (cause : Nat) : State :=
  let alarm := s.flag F.SYS_STATE_ALARM
  let proof := s.flag F.SYS_STATE_PROOF
  let s := s.coreStop
  let s := { s with boot := { s.boot with secureDue := true } }
  (s.resetRecord 3 cause alarm proof).alarmRederive

/-! ## The image (R80 to R90) -/

/-- A copy's header, and whether the copy is valid once known. -/
def State.copy (s : State) : AB → CopyInfo
  | .a => s.boot.copyA
  | .b => s.boot.copyB

def State.setCopy (s : State) (x : AB) (c : CopyInfo) : State :=
  match x with
  | .a => { s with boot := { s.boot with copyA := c } }
  | .b => { s with boot := { s.boot with copyB := c } }

/-- The configuration space is two devices. -/
def State.twoDevices (s : State) : Bool := s.flag F.TWB_PORTC_TWODEV

/-- The device that holds a copy (R77). -/
def State.copyDevice (s : State) (x : AB) : Nat := if x = .b && s.twoDevices then 1 else 0

/-- Failed attempts on a device (R85). -/
def State.portcFails (s : State) (d : Nat) : Nat := if d = 0 then s.boot.fails0 else s.boot.fails1

/-- A copy found invalid (R83, R84): COPY_DEGRADED, and the flag. -/
def State.copyDegraded (s : State) (x : AB) (why : Nat) : State :=
  let s := s.setCopy x { s.copy x with valid := some false }
  (s.cfgBit F.CFG_STATUS_DEGRADED F.CFG_EVENT_DEGRADED true).post K.COPY_DEGRADED
    [byte x.code, byte why, byte (0x50 + s.copyDevice x)]

/-- An image write ends: CFGWP high, WRBUSY clear, the IMAGE_WRITE record with its result 0 verified, 1 page not
acknowledged, 2 read-back failed (R94, R95, R292). -/
def State.imageEnd (s : State) (w : ImageWrite) (result : Nat) : State :=
  let s := { s with boot := { s.boot with write := none }, pins := { s.pins with cfgwp := true } }
  let s := ((s.setFlag F.CFG_STATUS_WRBUSY false).setFlag F.TWB_PORTC_BUSY false).post K.IMAGE_WRITE
    ([byte result, byte w.target.code] ++ beBytes 4 w.counter ++ beBytes 4 w.len)
  if result = 0 then s.event F.CFG_EVENT_WRDONE
  else s.cfgBit F.CFG_STATUS_WRFAIL F.CFG_EVENT_WRFAIL true

/-- CFG_INFO as a start leaves it (R75, R490, R503). -/
def State.cfgInfo (s : State) (x : Option AB) (gen : Nat) : Word :=
  BitVec.ofNat 16 ((match x with | some c => c.code | none => 0) + (if gen = 3 then 2 else 0) + 4 * s.boot.chem +
    64 * s.boot.addr + (if x.isNone then 256 else 0))

/-- A host watchdog that application or a write starts, or whose period changes, begins a new first period (R453). -/
def State.hwdChange (s : State) (old : Word) : State :=
  let new := s.reg R.CLK_HWDCFG
  if bitOf new 0 && (!bitOf old 0 || fieldOf new 1 4 != fieldOf old 1 4) then
    { s.setFlag F.CLK_STATUS_HWD_SECOND false with clk := { s.clk with hwdFrom := s.now } }
  else if bitOf new 0 then s
  else s.setFlag F.CLK_STATUS_HWD_SECOND false

/-- CLK_CFG.XTAL set starts the crystal; cleared, AON returns to the LFO (R443, R466). -/
def State.xtalChange (s : State) (old : Word) : State :=
  let xt := s.flag F.CLK_CFG_XTAL
  if xt && !bitOf old 0 then { s with clk := { s.clk with xtalFrom := s.now } }
  else if !xt && bitOf old 0 then
    let s := s.setFlag F.CLK_STATUS_XTAL_RUN false
    if s.field F.CLK_STATUS_AONSRC = 1 then
      s.setField F.CLK_STATUS_AONSRC (if s.clk.faults.any fun f : OscFault => f.osc == 1 then 2 else 0)
    else s
  else s

/-- What follows the registers of the configuration once they have changed together: limits, enables, charger, horn. -/
def State.configMoved (s : State) : State :=
  let s := ((s.refreshHsw).refreshHorn).enablesChanged
  let s := ((s.refreshLimited).chgFigures).refreshChgOff
  (s.usbRefresh).refreshLimit

/-- The end of the image step, with an image or without: Port H is open, and secure start follows (R70, R401). -/
def State.imageStepDone (s : State) : State :=
  let s := { s with phase := .run, boot := { s.boot with applied := true, reading := none, secureDue := true } }
  let s := s.setFlag F.TWB_PORTC_BUSY false
  (s.setRef).twbLatch

/-- The configuration-class registers at their reset values, the KEEP latch aside (R64, R88). -/
def State.configCleared (s : State) : State :=
  { s with regs := s.regs.filter fun p : Nat × Word => match regInfo p.1 with
    | some r => !r.cfg || r.addr == R.CONV_KEEP
    | none => true }

/-- The configuration-class registers begin from their reset values, the KEEP latch and the stored VAUX aside (R64, R88). -/
def State.configDefaults (s : State) : State :=
  let s := s.configCleared
  (s.setField F.CONV_AUX_VSEL s.storedVaux).chemDefaults

/-- Level mode is taken from TET_CFG.MODE at a start (R254, R257). DESIGN CHOICE (log entry 101): a MODE written since the last start
takes effect at a warm start although its register then holds the image's value again. -/
def State.levelLatch (s : State) : State :=
  { s.setFlag F.TET_STATUS_LEVEL (s.link.modeWish.getD (s.flag F.TET_CFG_MODE)) with
    link := { s.link with modeWish := none } }

/-- The address of the UNIT record comes into use (R248); one in use survives a warm reset (R253). -/
def State.imageAddr (s : State) (a : Nat) : State :=
  if s.link.addrRead then s
  else
  let s := { s with link := { s.link with addrRead := true } }
  if a < 64 then (s.setFlag F.TET_ADDR_AUTO false).holdAddr a else s.setFlag F.TET_ADDR_AUTO true

/-- The records of a valid copy are applied (IMAGE_APPLY, R80, R81, R90). -/
def State.imageApply (s : State) (x : AB) (h body : List Byte) : State :=
  let rs := bodyRecs h body
  let info := imgInfo h rs
  let hwd := s.reg R.CLK_HWDCFG
  let tdisc := s.reg R.ALM_TDISC
  let clk := s.reg R.CLK_CFG
  let s := s.setCopy x { s.copy x with valid := some true }
  let s := s.configDefaults
  let s := { s with
    path := { s.path with held := [] }, conv := { s.conv with keepOff := false },
    boot := { s.boot with loaded := some x, image := some info,
                          checking := if (s.copy x.other).valid = some false then none else some x.other } }
  let loads := (rs.flatMap recLoads).filter fun p : Nat × Word => !s.absent p.1
  let s := loads.foldl (fun (t : State) (p : Nat × Word) => t.setReg p.1 p.2) s
  let s := { s with ra := { s.ra with hostLims := rs.filterMap recLim } }
  let s := (s.setFlag F.CFG_STATUS_LOADED true).setFlag F.CFG_STATUS_HOSTIMG info.hostImg
  let s := (s.setReg R.CFG_INFO (s.cfgInfo (some x) (hdrGen h))).setGroup R.CFG_GEN_H 2 (hdrCounter h)
  let s := (s.imageStepDone).setFlag F.CFG_STATUS_LOCKED info.lock
  let s := ((s.hwdChange hwd).tdiscChange tdisc).xtalChange clk
  let s := if s.boot.strapBad || info.cellChem != s.boot.chem then s.enterSafe F.SYS_SAFECAUSE_CHEM 2 else s
  let s := s.levelLatch
  let s := (s.vauxApply).imageAddr info.tetAddr
  let s := ((s.configMoved).chgDetect).txBegin
  if s.inSafe then s.postFault 0x30 2 else s

/-- Why a copy that was not read in full is invalid: its device has been given up, or its header does not conform (R83, R85). -/
def State.copyWhy (s : State) (x : AB) : Nat := if s.portcFails (s.copyDevice x) < 3 then 1 else 4

/-- A copy that no record has called invalid yet is found so (R83). -/
def State.copyNamed (s : State) (x : AB) : State :=
  if (s.copy x).valid = some false then s else s.copyDegraded x (s.copyWhy x)

/-- A copy on a device given up is invalid (R85). -/
def State.copyLost (s : State) (d : Nat) (x : AB) : State :=
  if s.copyDevice x = d && (s.copy x).valid != some false then s.copyDegraded x 4 else s

/-- Every copy on a device counts as invalid once the device is given up (R85). -/
def State.deviceLost (s : State) (d : Nat) : State := (s.copyLost d .a).copyLost d .b

/-- No valid copy (NO_VALID_IMAGE, R83, R86): each copy not yet named is recorded as invalid; reset values, SAFE; the host may stage
an image. -/
def State.noValidImage (s : State) : State :=
  let s := (s.copyNamed .a).copyNamed .b
  let s := s.configDefaults
  let s := { s with boot := { s.boot with loaded := none, image := none, checking := none },
                    path := { s.path with held := [] }, link := { s.link with alarmOn := false } }
  let s := (s.setFlag F.CFG_STATUS_LOADED false).setFlag F.CFG_STATUS_HOSTIMG true
  let s := (s.setReg R.CFG_INFO (s.cfgInfo none 0)).setGroup R.CFG_GEN_H 2 0
  let s := (s.imageStepDone.levelLatch).enterSafe F.SYS_SAFECAUSE_NOIMAGE 1
  let s := if s.boot.strapBad then s.enterSafe F.SYS_SAFECAUSE_CHEM 2 else s
  s.configMoved

/-- A copy is read in full (R83). -/
def State.startRead (s : State) (x : AB) : State :=
  { s with boot := { s.boot with reading := some x, tried := s.boot.tried ++ [x] } }.setFlag F.TWB_PORTC_BUSY true

/-- The other copy is tried, or there is no valid image (R83). -/
def State.tryOther (s : State) (x : AB) : State :=
  let y := x.other
  if (s.copy y).header.isSome && !s.boot.tried.contains y && s.portcFails (s.copyDevice y) < 3 then s.startRead y
  else s.noValidImage

/-- The copy read is not valid (R83). -/
def State.copyFailed (s : State) (x : AB) (why : Nat) : State := (s.copyDegraded x why).tryOther x

/-- The copies are chosen once both headers have been read (R83). -/
def State.chooseCopy (s : State) : State :=
  match s.boot.copyA.header, s.boot.copyB.header with
  | some a, some b => s.startRead (if hdrCounter a < hdrCounter b then .b else .a)
  | some _, none => s.startRead .a
  | none, some _ => s.startRead .b
  | none, none => s.noValidImage

/-! ## Secure start (R87, R97, R98, R455) -/

/-- The order in which the slots are tried. -/
def State.slotOrder (s : State) : List AB :=
  let x := s.storedActive
  if s.flag F.CLK_PWD_FALLBACK then []
  else if s.flag F.CLK_PWD_OTHERFIRST then [x.other, x] else [x, x.other]

/-- The first slot that verifies, with a SLOT_INVALID record for each one that fails. -/
def State.trySlots (s : State) : List AB → State × Option AB
  | [] => (s, none)
  | x :: l =>
    match s.slotFault x with
    | none => (s, some x)
    | some c =>
      (s.post K.SLOT_INVALID ([byte x.code, byte c] ++ beBytes 4 (slotVersion (s.slotBytes x)))).trySlots l

/-- The START record (R87). DESIGN CHOICE (log entry 102): with the hardware fallback policy in force its slot version reads 0. -/
def State.postStart (s : State) (slot : Option AB) : State :=
  let h := match s.boot.loaded with
    | some x => ((s.copy x).header).getD []
    | none => []
  let l := match s.boot.loaded with | some x => x.code | none => 0xFF
  let v := match slot with | some x => slotVersion (s.slotBytes x) | none => 0
  s.post K.START ([byte l] ++ beBytes 4 (s.group R.CFG_GEN_H 2) ++
    [byte (hdrGen h), byte s.boot.chem, byte s.boot.addr, byte (match slot with | some x => x.code | none => 0xFF)] ++
    beBytes 4 v ++ [byte (s.regN R.SYS_RSTCAUSE)])

/-- Newer than the last declared cell (R209, R306). -/
def State.sinceNewCell (s : State) (x : Nat × List Byte) : Option (List Byte) :=
  if ((s.keptPayload 11).map (·.1)).getD 0 < x.1 then some x.2 else none

/-- Z_BASE from its record (R209). -/
def State.baseFound (s : State) : Option Nat := ((s.keptPayload 10).bind s.sinceNewCell).map fun p => natAt p 0 2

/-- C_now in µWh from the kept WB_CAPACITY record with result 0 (R161, R306). -/
def State.capFound (s : State) : Option Nat := ((s.keptPayload 1).bind fun x => capC25 s.chem x.2).map s.asEnergy

/-- The sweeps with result 0 that count toward a baseline still to be formed, oldest first (R209). -/
def State.sweepsFound (s : State) : List (Nat × Nat) :=
  let l := (s.recsOf 0x05 3).filterMap fun x => (s.sinceNewCell (x.1, x.2.2)).bind fun r =>
    (s.sweepBase r).map fun z => (x.1, z, wbSeqOf r)
  ((l.mergeSort fun a b => decide (a.1 ≤ b.1)).map (·.2)).take 2

/-- |Z(0.1 Hz)| at 25 °C of the latest valid sweep on record (R205). -/
def State.z01Found (s : State) : Option Nat :=
  (newestRec ((s.recsOf 0x05 3).filter fun x => (sweepZ01 s.chem x.2.2).isSome)).bind fun x => sweepZ01 s.chem x.2.2

/-- The last counted test, by its PROOF_END record (R211, R212): its severity is the less severe of its opinions. -/
def State.countedFound (s : State) : Option CountedTest :=
  (newestRec ((s.recsOf 0x06 4).filter fun x => natAt x.2.2 3 1 == 1)).map fun x =>
    ⟨none, x.2.1, min (natAt x.2.2 1 1) (natAt x.2.2 2 1)⟩

/-- The last test with outcome PASS or FAIL had FAIL (R210). -/
def State.failFound (s : State) : Bool :=
  match newestRec ((s.recsOf 0x06 4).filter fun x => natAt x.2.2 0 1 == 1 || natAt x.2.2 0 1 == 2) with
  | some x => natAt x.2.2 0 1 == 2
  | none => false

/-- The calendar day of the last start, by its PROOF_START record, where that carries valid time (R217). -/
def State.dayFound (s : State) : Option Nat :=
  (newestRec (s.recsOf 0x06 3)).bind fun x => if x.2.1 < 0x80000000 then some (s.dayOf x.2.1) else none

/-- After a cold start the firmware reads what the records hold of sweeps and proof tests (R161, R205, R209 to R212, R217). DESIGN
CHOICE (log 108): the 168 h of an unset clock then run from the cold start, since AON counts from it. -/
def State.testsRestore (s : State) : State :=
  let base := s.baseFound
  { s with vdt := { s.vdt with
      known := true, cNow := s.capFound, zbase := base, sweeps := if base.isSome then [] else s.sweepsFound,
      z01 := s.z01Found, counted := s.countedFound, lastFail := s.failFound, lastDay := s.dayFound,
      lastStart := if (s.recsOf 0x06 3).isEmpty then none else some 0 } }

/-- The verdicts that the records hold are shown again (R209, R220). -/
def State.verdictRestore (s : State) : State :=
  let s := match s.keptPayload 0 with
    | some (_, p) =>
      ((s.setField F.VDT_STATUS_LIFE (natAt p 1 1)).setFlag F.VDT_STATUS_CELL (natAt p 2 1 == 1)).setFlag
        F.VDT_STATUS_CHAIN (natAt p 3 1 == 1)
    | none => s
  let s := ((s.setFlag F.VDT_STATUS_HELD (!s.vdt.held.isEmpty)).setFlag F.VDT_STATUS_PROOF_DEFERRED
    s.vdt.deferred.isSome)
  let s := if s.vdt.known then s else s.testsRestore
  match s.vdt.zbase with
  | some z => s.setReg R.VDT_ZBASE (BitVec.ofNat 16 z)
  | none => s

/-- What the firmware does first once it runs (R86, R278, R323, R332): the verdicts, the notes a start calls for, the
market. -/
def State.firmwareStart (s : State) : State :=
  let s := s.verdictRestore
  let s := if s.boot.loaded.isNone then s.note 0x0B true false 0 else s
  let s := if s.flag F.CFG_STATUS_DEGRADED then s.note 0x0A false false 0 else s
  let s := if s.timeValid then s else s.note 0x0C false false 0
  s.marketRestart

/-- A slot is started at its entry (R98, R454). -/
def State.startSlot (s : State) (x : AB) : State :=
  let s := { s with boot := { s.boot with core := true, running := some x, startedAt := s.now },
                    clk := { s.clk with pwdFrom := s.now, pwdWarned := false },
                    svc := { s.svc with floorFrom := match s.svc.floorFrom with
                                          | some (y, _) => if y = x then some (x, s.now) else none
                                          | none => none } }
  let s := (s.setFlag F.SYS_BOOT_RUNNING (x == .b)).setFlag F.SYS_BOOT_FALLBACK false
  (s.setFlag F.SVC_STATUS_BOOTROM false).setFlag F.CLK_STATUS_FALLBACK false

/-- The hardware fallback policy takes effect (R98, R383). -/
def State.startFallback (s : State) : State :=
  let s := ((s.setFlag F.SYS_BOOT_RUNNING false).setFlag F.SYS_BOOT_FALLBACK true).setFlag F.CLK_STATUS_FALLBACK true
  (s.setFlag F.SVC_STATUS_BOOTROM (s.part == .qtl6410)).enterSafe F.SYS_SAFECAUSE_FALLBACK 3

/-- Secure start, with its START record, and the end of the start (R87, R98, R474). -/
def State.secureStart (s : State) : State :=
  let (s, x) := s.trySlots s.slotOrder
  let s := { s with boot := { s.boot with secureDue := false }, cmd := { s.cmd with replayDue := true } }
  let s := match x with
    | some y => s.startSlot y
    | none => (s.startFallback).refreshLimited
  let s := if s.flag F.SYS_BOOT_DONE then s else (s.setFlag F.SYS_BOOT_DONE true).event F.SYS_EVENT_START
  let s := ((s.event F.SYS_EVENT_RESET).leaveSafe).postStart x
  s.firmwareStart

/-! ## SHIP (R126) -/

/-- SHIP is entered: SRC_EN is latched, both converters ramp to zero, BATFET opens, the VMUX discharge is on for 20 ms; VSYS and VAUX
decay, and KEEP_SHIP decides on KEEP (R126). -/
def State.enterShip (s : State) : State :=
  let s := s.wbPowerOff
  let b := s.coldBase s.pins.chemR s.pins.addrR
  let t := { b with phase := .ship, now := s.now, path := { Path.reset with
    latchedEn := s.srcEn, keepShip := s.flag F.PATH_CFG_KEEP_SHIP, shipOpen := true } }
  let t := t.dischOn
  { t with conv := { t.conv with keepMv := if t.keepOn then t.conv.keepMv else 0 } }

/-- In SHIP the count goes on to the end of the 20 ms of VMUX discharge (R126). -/
def State.shipTick (s : State) : State :=
  let s := { s with now := s.now + 1 }
  if s.elapsed s.path.dischDue then s.dischStop else s

end Sys2Proof.Machine
end

