-- ==== Sys2Proof/Machine/Boot.lean ====
section
/-!
DEFINITION. Commands of first power, the image, secure start, resets and SHIP (R26 to R29, R61 to R98, R127).
-/

namespace Sys2Proof.Machine

/-! ## Power (R61, R66, R68) -/

/-- POWER_ON_RESET_RELEASE (R70): the strap readings in 10 Ω, BAT in mV, and whether a source lies within its operating
range; from the cell alone a cold start needs 2.8 V (R68). -/
def execPowerOnResetRelease (chemR addrR bat : Nat) (source : Bool) (s : State) : Out :=
  .next (s.when (s.phase == .off && (source || decide (2800 ≤ bat))) fun s => s.coldStart 1 chemR addrR bat)

/-- What a record acceptance and a commit under way had written when the supply went (R307): the first slots of each. -/
def State.tornWrites (s : State) (intake commit : Nat) : State :=
  if s.lgr.warned then s
  else
    let w := match s.nextRec with
      | some r => if s.mayAccept r then (s.acceptWrites r).take intake else []
      | none => []
    let c := match s.lgr.spool with
      | e :: _ => ((s.planFor e).writes).take commit
      | [] => []
    (s.writeSlots w).writeSlots c

/-- POWER_LOSS (R61): how many slot writes of an acceptance and of a commit under way were made. -/
def execPowerLoss (intake commit : Nat) (s : State) : Out :=
  .next (s.when (s.phase != .off) fun s =>
    let s := if s.live then (s.tornWrites intake commit).wbPowerOff else s
    s.coldBase s.pins.chemR s.pins.addrR)

/-! ## The image (R82 to R85, R410) -/

/-- The headers as the devices that still answer gave them. -/
def State.answered (s : State) (d : Nat) (h : Option (List Byte)) : Option (List Byte) :=
  if s.portcFails d < 3 then h else none

/-- Whether the configuration space is read with one-byte addressing (R78): its size code denotes 2 KiB, or two-byte addressing found
no magic at offset 0 (`oneByte`), unless copy B, found elsewhere, names a larger device. -/
def usesOneByte (oneByte : Bool) (x found : Option (List Byte)) : Bool :=
  match x, found with
  | some g, _ => oneByte || hdrSize g == 1
  | none, some g => hdrSize g == 1
  | none, none => true

/-- IMAGE_HEADERS_READ (R78, R83): copy A's header as read, whether only one-byte addressing found its magic, and what lay at the
places probed for copy B: the one place copy A's size byte names, or, without magic in copy A, the seven places of R83 in
order. -/
def execImageHeadersRead (a : Option (List Byte)) (oneByte : Bool) (probes : List (Option (List Byte))) (s : State) : Out :=
  .next (s.when (s.phase == .startup && s.boot.reading.isNone) fun s =>
    let h := s.answered 0 a
    let l := (probePlaces.zip probes).map fun p : (Nat × Nat) × Option (List Byte) => s.answered p.1.1 p.2
    let x := h.filter hdrMagic
    let b := match x with
      | some g => findB (some g) (match probes with
          | p :: _ => [s.answered (if hdrTwo g then 1 else 0) p]
          | [] => [])
      | none => searchB l
    let s := { s with boot := { s.boot with copyA := ⟨h.filter hdrOk, none⟩, copyB := ⟨b.filter hdrOk, none⟩ } }
    let found := (x.filter hdrSizeOk).or b
    let s := s.setFlag F.TWB_PORTC_ONEBYTE (usesOneByte oneByte (x.filter hdrSizeOk) found)
    let s := match found with
      | some g => (s.setFlag F.TWB_PORTC_TWODEV (hdrTwo g)).setField F.TWB_PORTC_SIZE (hdrSize g)
      | none => s
    s.chooseCopy)

/-- IMAGE_BODY_READ_DONE (R82): the body of the copy being read. -/
def execImageBodyReadDone (body : List Byte) (s : State) : Out :=
  .next (s.when (s.phase == .startup) fun s =>
    match s.boot.reading with
    | none => s
    | some x =>
      let h := ((s.copy x).header).getD []
      match s.copyFault h body with
      | none => s.imageApply x h body
      | some why => s.copyFailed x why)

/-- A device is being read: at start-up, or in the background check of a copy it holds (R84, R85). -/
def State.portcReads (s : State) (dev : Nat) : Bool :=
  match s.phase, s.boot.checking with
  | .startup, _ => true
  | .run, some x => s.copyDevice x == dev
  | _, _ => false

/-- PORTC_ATTEMPT_FAIL (R85, R406, R410): the device, and how the lines were found: as they should be; low and freed within
nine clocks; or faulted. After the third failure the device is given up, at start-up and in the background check alike, and every
copy on it counts as invalid. -/
def execPortcAttemptFail (dev : Nat) (freed : Option Bool) (s : State) : Out :=
  .next (s.when (s.portcReads dev && s.portcFails dev < 3) fun s =>
    let s := s.event F.TWB_EVENT_PORTC_FAIL
    let s := match freed with
      | some true => (s.event F.TWB_EVENT_RECOVER).bump R.TWB_RECCNT 1
      | some false => s.setFlag F.TWB_STATUS_BUSFAULT_C true
      | none => s
    let n := s.portcFails dev + 1
    let s := if dev = 0 then { s with boot := { s.boot with fails0 := n } } else { s with boot := { s.boot with fails1 := n } }
    if n < 3 then { s with boot := { s.boot with retryDue := s.timer (msTicks 1) } }
    else
      let s := s.setFlag (if dev = 0 then F.TWB_PORTC_DEV0_FAIL else F.TWB_PORTC_DEV1_FAIL) true
      match s.boot.reading, s.boot.checking with
      | some x, _ => if s.copyDevice x = dev then (s.deviceLost dev).tryOther x else s
      | none, some _ =>
        ({ s with boot := { s.boot with checking := none } }.deviceLost dev).note 0x0A false false 0
      | none, none => s)

/-- PORTC_RETRY (R410): the read is made again. -/
def execPortcRetry (s : State) : Out :=
  .next (s.when (s.live && s.elapsed s.boot.retryDue) fun s =>
    { s with boot := { s.boot with retryDue := none } }.setFlag F.TWB_STATUS_BUSFAULT_C false)

/-- BACKGROUND_COPY_CHECK_DONE (R83, R84): the body of the copy not loaded, none where its device did not answer. -/
def execBackgroundCopyCheckDone (body : Option (List Byte)) (s : State) : Out :=
  .next (s.whenRun fun s =>
    match s.boot.checking with
    | none => s
    | some x =>
      let s := { s with boot := { s.boot with checking := none } }
      let bad := match (s.copy x).header, body with
        | none, _ => some (if s.portcFails (s.copyDevice x) < 3 then 1 else 4)
        | some _, none => some 4
        | some h, some b => s.copyFault h b
      match bad with
      | some why => (s.copyDegraded x why).note 0x0A false false 0
      | none =>
        let s := s.setCopy x { s.copy x with valid := some true }
        let c := fun y => ((s.copy y).header.map hdrCounter).getD 0
        if s.boot.loaded == some .a && c .a == c .b then s.post K.COPY_TIE (beBytes 4 (c .b)) else s)

/-! ## Secure start and resets (R61, R98) -/

/-- SECURE_START (R98). -/
def execSecureStart (s : State) : Out := .next (s.when (s.phase == .run && s.boot.secureDue) State.secureStart)

/-- WARM_RESET (R61), with its cause of R473. -/
def execWarmReset (cause : Nat) (s : State) : Out := .next (s.whenLive fun s => s.warmReset cause)

/-- CORE_RESET (R61), with its cause of R473. -/
def execCoreReset (cause : Nat) (s : State) : Out := .next (s.whenRun fun s => s.coreReset cause)

/-! ## SHIP (R26 to R29, R126, R127) -/

/-- An image write that SHIP cuts short is recorded as failed (R95); which of the two failures its record names is open. -/
def State.shipWrite (s : State) : State :=
  match s.boot.write with
  | none => s
  | some w => let (v, s) := s.fresh; s.imageEnd w (1 + v.toNat % 2)

/-- SHIP_ENTRY goes last into the FIFOs, and everything that waits is taken in (R27, R126). -/
def State.shipTaken (s : State) (req : Requester) : State :=
  let s := s.shipWrite
  let s := s.shipRequestsDone resDone stOk []
  let s := s.post K.SHIP_ENTRY ([byte s.srcEn.toNat, boolByte (s.flag F.PATH_CFG_KEEP_SHIP)] ++
    beBytes 2 s.chg.bat ++ [byte req.code])
  s.intakeAll

/-- The state in which SHIP_ENTRY is accepted, if the Ledger can take it now. -/
def State.shipAccept (s : State) (req : Requester) : Option State :=
  let t := s.shipTaken req
  if t.lgr.waiting.isEmpty && !t.ledgerDead then some t else none

/-- SHIP_DELAY_EXPIRY (R27, R321): SHIP is entered once its record is accepted. -/
def execShipDelayExpiry (s : State) : Out :=
  .next (s.whenRun fun s =>
    match s.boot.shipDue with
    | none => s
    | some (t, req) =>
      if s.now < t then s
      else if s.shipBlock ≠ 0 then s.shipCheck
      else match s.shipAccept req with
        | some s' => s'.enterShip
        | none => s)

/-- SHIP_ARM_EXPIRY (R28). -/
def execShipArmExpiry (s : State) : Out :=
  .next (s.whenRun fun s => s.when (s.elapsed (s.boot.shipArmed.map (·.1))) State.shipDrop)

/-- A cold start out of SHIP; with no source in range it needs 2.8 V of the cell (R68). -/
def State.shipExit (s : State) (source : Bool) (bat : Nat) : State :=
  if source || decide (2800 ≤ bat) then s.coldStart 2 s.pins.chemR s.pins.addrR bat
  else { s with phase := .off }

/-- SHIP_EXIT_WAKE (R29, R68): how long WAKE was held high in ms, what the count made of it between 400 and 600 ms, whether a source
lies within its operating range, BAT in mV. -/
def execShipExitWake (ms : Nat) (source : Bool) (bat : Nat) (ends : Bool) (s : State) : Out :=
  .next (s.when (s.phase == .ship && (decide (600 ≤ ms) || (decide (400 ≤ ms) && ends))) fun s => s.shipExit source bat)

/-- The windows of the ship-exit detector in mV (R127). -/
def shipWindow : Source → Nat → Bool
  | .vin, v => 4500 ≤ v && v ≤ 28500
  | .vbus, v => 4000 ≤ v && v ≤ 23000
  | .vpv, v => 2500 ≤ v && v ≤ 19000
  | .tether, v => 19500 ≤ v

/-- The source's bit as latched at the ship entry (R126). -/
def State.latchedOn (s : State) (x : Source) : Bool :=
  bitOf s.path.latchedEn (enFlag x).bit && (x != .vbus || s.part == .qtl6410)

/-- SHIP_EXIT_SOURCE (R127): a latched source has been within its window for `ms` on WDO, at least 20 ms, VBUS with its attach
debounced; BAT in mV. -/
def execShipExitSource (x : Source) (mv ms : Nat) (attached : Bool) (bat : Nat) (s : State) : Out :=
  .next (s.when (s.phase == .ship && s.latchedOn x && shipWindow x mv && decide (20 ≤ ms) && (x != .vbus || attached))
    fun s => s.shipExit true bat)

/-- WAKE_PIN_CHANGE (R400): outside SHIP a high WAKE keeps SYS running, and TWB_STATUS.WAKEPIN follows the pin. -/
def execWakePinChange (high : Bool) (s : State) : Out := .next { s with pins := { s.pins with wake := high } }

end Sys2Proof.Machine
end

