-- ==== Sys2Proof/Machine/Chg.lean ====
section
/-!
DEFINITION. The charger's commands (R154 to R172). Voltages are operands in mV, temperatures in 0.1 °C.
-/

namespace Sys2Proof.Machine

/-- CHG_DETECT (R155): the charger leaves OFF or FAULT's clearing has been asked for, or ABSENT is retried. -/
def execChgDetect (s : State) : Out :=
  .next (s.when (s.live && s.chgAllowed &&
      (s.phaseN == phOff || (s.phaseN == phFault && s.chg.fault == 0) ||
        (s.phaseN == phAbsent && s.elapsed s.chg.absentDue))) State.chgDetect)

/-- CHG_DETECT_DONE (R155, R158): BAT at the end of the test, and its greatest value while the 10 mA were applied, 0 if they
were not. -/
def execChgDetectDone (bat peak : Nat) (s : State) : Out :=
  .next (s.when (s.live && s.phaseN == phDetect) fun s =>
    let s := s.setBat bat
    if bat < s.series * 500 || s.series * (s.regN R.CHG_VREG * 10 + 200) < peak then s.cellAbsent
    else ({ s with chg := { s.chg with cellSeen := true } }.enterPhase s.nextPhase).refreshCell 3)

/-- CHG_ABSENT_RETRY (R155). -/
def execChgAbsentRetry (s : State) : Out :=
  .next (s.when (s.live && s.phaseN == phAbsent && s.elapsed s.chg.absentDue) State.chgDetect)

/-- CHG_PRECONDITION_DONE (R156). -/
def execChgPreconditionDone (bat : Nat) (s : State) : Out :=
  .next (s.when (s.live && s.phaseN == phPre && decide (s.series * (chemVpre s.chem + 100) ≤ bat)) fun s =>
    (s.setBat bat).enterPhase phCC)

/-- CHG_CV_ENTRY (R156): BAT has reached n × VREG; in TOP-UP the voltage part begins. -/
def execChgCvEntry (bat : Nat) (s : State) : Out :=
  .next (s.when (s.live && decide (s.series * s.vreg ≤ bat)) fun s =>
    if s.phaseN = phCC then (s.setBat bat).enterPhase phCV
    else if s.phaseN = phTopup then (s.setBat bat).setFlag F.CHG_STATUS_CVSUB true
    else s)

/-- CHG_TERM_CURRENT (R156, R164): the current has stayed below CHG_ITERM for 60 s in the voltage part. -/
def execChgTermCurrent (bat : Nat) (s : State) : Out :=
  .next (s.when (s.live && (s.phaseN == phCV || (s.phaseN == phTopup && s.flag F.CHG_STATUS_CVSUB))) fun s =>
    let s := (s.setBat bat).event F.CHG_EVENT_FULL
    let s := s.post K.CHG_FULL (beBytes 2 (volt20 bat) ++ beBytes 2 (s.regN R.CHG_SOC) ++
      beBytes 2 ((s.now - s.chg.ccFrom) / secTicks 60) ++ [boolByte (s.flag F.CHG_STATUS_FULLREQ)])
    ((s.setFlag F.CHG_STATUS_FULLREQ false).chgTerminate).refreshPartial)

/-- CHG_TARGET_REACHED (R156, R162). -/
def execChgTargetReached (s : State) : Out :=
  .next (s.when (s.live && s.charging && s.targetReached) State.targetEnd)

/-- CHG_TOPUP_START (R163). -/
def execChgTopupStart (bat : Nat) (s : State) : Out :=
  .next (s.when (s.live && s.phaseN == phRest) fun s =>
    let s := s.setBat bat
    if s.topupHolds then (s.event F.CHG_EVENT_TOPUP).enterPhase phTopup else s)

/-- The status bit of a suspension cause (R167). -/
def suspFlag : SuspCause → Flag
  | .alarm => F.CHG_STATUS_SUSP_ALM | .proof => F.CHG_STATUS_SUSP_PROOF | .sweep => F.CHG_STATUS_SUSP_SWEEP
  | .source => F.CHG_STATUS_SUSP_SRC | .temperature => F.CHG_STATUS_SUSP_TEMP

/-- A suspension cause holds (R167). -/
def State.suspHolds (s : State) : SuspCause → Bool
  | .alarm => s.flag F.SYS_STATE_ALARM || s.flag F.ALM_STATUS_READY
  | .proof => s.flag F.SYS_STATE_PROOF
  | .sweep => s.flag F.CONV_STATUS_EXC
  | .source => !s.flag F.SYS_STATE_FEED
  | .temperature => s.zone == 0 || s.zone == 4 || s.zone == 5

/-- CHG_SUSPEND (R167). -/
def execChgSuspend (c : SuspCause) (s : State) : Out :=
  .next (s.when (s.live && s.suspHolds c) fun s =>
    if c = .alarm then s.alarmSuspend else s.chgSuspend (suspFlag c))

/-- CHG_RESUME (R158, R167): no cause is left, and no recomputation after a proof test is awaited (R168). -/
def execChgResume (bat : Nat) (s : State) : Out :=
  .next (s.when (s.live && s.phaseN == phSusp && !s.chgHeld && (s.chg.recalcDue.isNone || s.elapsed s.chg.recalcDue)) fun s =>
    (s.setBat bat).chgResume)

/-- CHG_TIMEOUT_FAULT (R169). -/
def execChgTimeoutFault (s : State) : Out :=
  .next (s.when (s.live && s.timerExpired) fun s =>
    s.chgFault (match timerOf s.phaseN with | 2 => 1 | 3 => 2 | _ => 3))

/-- CHG_BAT_OV (R169): not judged before a cell has been found. -/
def execChgBatOv (bat : Nat) (s : State) : Out :=
  .next (s.when (s.live && decide (s.series * (s.regN R.CHG_VREG * 10 + 100) < bat) && s.phaseN != phOff &&
      s.phaseN != phDetect && s.phaseN != phAbsent && s.phaseN != phFault) fun s => (s.setBat bat).chgFault 4)

/-- NTC_DISAGREE (R165, R169). -/
def execNtcDisagree (s : State) : Out :=
  .next (s.when (s.live && s.flag F.CHG_CFG_NTCB_EN && s.elapsed (s.chg.ntcDiffFrom.map (· + secTicks 60))) fun s =>
    let s := s.ntcFaultOn 3
    if s.phaseN = phOff || s.phaseN = phFault then s else s.chgFault 5)

/-- CHG_FAULT_AUTOCLEAR (R169): 24 h after entry. -/
def execChgFaultAutoclear (bat : Nat) (s : State) : Out :=
  .next (s.when (s.live && s.elapsed (s.chg.faultAt.map (· + secTicks 86400))) fun s => (s.setBat bat).chgClear)

/-- NTC_READING (R165): both thermistors in 0.1 °C, none for an open or shorted one. -/
def execNtcReading (a b : Option Int) (s : State) : Out := .next (s.whenRun fun s => s.ntcRead a b)

/-- CHG_SOC_STALE (R159): CHG_SOC has not been written for 10 s. -/
def execChgSocStale (s : State) : Out :=
  .next (s.when (s.live && s.elapsed (s.chg.socAt.map (· + secTicks 10))) fun s => ((s.refreshLimited).chgFigures).tetMove)

/-- CHG_SOC_WRITE (R159, R163): the policy firmware writes CHG_SOC, in 0.1 %. -/
def execChgSocWrite (soc : Nat) (valid : Bool) (s : State) : Out :=
  .next (s.when (s.live && s.boot.core) fun s =>
    s.setSoc (BitVec.ofNat 16 (soc % 1024 + (if valid then 0x8000 else 0))))

/-- BALLAST_RECOMPUTE (R160, R162, R168): the firmware's recomputation; a charger that waited for it resumes. -/
def execBallastRecompute (s : State) : Out :=
  .next (s.when (s.live && s.boot.core) fun s =>
    let waited := s.chg.recalcDue.isSome
    let s := s.recompute
    if waited then s.chgResume else s)

/-- CHG_RESUME_TIMEOUT (R168). -/
def execChgResumeTimeout (s : State) : Out :=
  .next (s.when (s.live && s.elapsed s.chg.recalcDue) fun s =>
    { s with chg := { s.chg with recalcDue := none } }.chgResume)

end Sys2Proof.Machine
end

