-- ==== Sys2Proof/Machine/Clk.lean ====
section
/-!
DEFINITION. Commands of the clocks, of time shared over the Tether, and of the two watchdogs (R443 to R456).
-/

namespace Sys2Proof.Machine

/-! ## Oscillators (R443, R444) -/

/-- An oscillator is in fault. -/
def State.oscFaulty (s : State) (osc : Nat) : Bool := s.clk.faults.any fun f : OscFault => f.osc == osc

/-- The retry interval of an oscillator in ticks (R444). -/
def oscInterval (osc : Nat) : Nat := if osc = 2 then secTicks 60 else secTicks 600

/-- The deviation in ppm beyond which an oscillator is in fault (R444). -/
def oscLimit (osc : Nat) : Int := if osc = 3 then 300000 else 30000

/-- The event bit of a fault. -/
def oscEvent (osc : Nat) : Flag :=
  match osc with
  | 0 => F.CLK_EVENT_XTAL_FAIL | 1 => F.CLK_EVENT_LFO_FAIL | 2 => F.CLK_EVENT_HFO_FAIL | _ => F.CLK_EVENT_WDO_FAIL

/-- AON takes its source: the crystal while it runs, then the LFO, then SYS (R443). -/
def State.aonSource (s : State) : State :=
  s.setField F.CLK_STATUS_AONSRC (if s.flag F.CLK_STATUS_XTAL_RUN then 1 else if s.oscFaulty 1 then 2 else 0)

/-- What takes over from a faulty oscillator, or gives way to a repaired one (R444). -/
def State.oscShow (s : State) (osc : Nat) (bad : Bool) : State :=
  match osc with
  | 0 => (s.setFlag F.CLK_STATUS_XTAL_RUN (!bad)).aonSource
  | 1 => s.aonSource
  | 2 => s.setFlag F.CLK_STATUS_HFO2 bad
  | _ => s.setFlag F.CLK_STATUS_WDOFAIL bad

/-- An oscillator fault (R444): cause 1 no edge, 2 frequency; the ratio measured, in ppm. -/
def State.oscFail (s : State) (osc cause : Nat) (ppm : Int) : State :=
  if s.oscFaulty osc then s
  else
    let s := { s with clk := { s.clk with faults := s.clk.faults ++ [OscFault.mk osc s.now (s.now + oscInterval osc)] } }
    let s := ((s.event (oscEvent osc)).bump R.CLK_FAULTCNT 1).post K.CLK_FAULT ([byte osc, byte cause] ++ beSigned 4 ppm)
    s.oscShow osc true

/-- The oscillator is in use, so that a fault of it is found: the crystal only while it runs. -/
def State.oscUsed (s : State) (osc : Nat) : Bool := osc != 0 || s.flag F.CLK_STATUS_XTAL_RUN

/-- XTAL_SWITCH (R443): the crystal has matched the LFO for 1.000 s. -/
def execXtalSwitch (s : State) : Out :=
  .next (s.when (s.live && s.flag F.CLK_CFG_XTAL && !s.flag F.CLK_STATUS_XTAL_RUN && !s.oscFaulty 0 && !s.oscFaulty 1 &&
      decide (s.clk.xtalFrom + secTicks 1 ≤ s.now)) fun s => s.oscShow 0 false)

/-- XTAL_START_TIMEOUT (R443): 2.0 s from power-on-reset release, or from a later setting of XTAL. -/
def execXtalStartTimeout (cause : Nat) (ppm : Int) (s : State) : Out :=
  let from_ := if s.clk.xtalFrom < secTicks 2 then 0 else s.clk.xtalFrom
  .next (s.when (s.live && s.flag F.CLK_CFG_XTAL && !s.flag F.CLK_STATUS_XTAL_RUN &&
      decide (from_ + secTicks 2 ≤ s.now)) fun s => s.oscFail 0 cause ppm)

/-- OSC_FAULT (R444): oscillator 0 crystal, 1 LFO, 2 HFO, 3 WDO; cause 1 no edge, 2 frequency; deviation in ppm. -/
def execOscFault (osc cause : Nat) (ppm : Int) (s : State) : Out :=
  .next (s.when (s.live && s.oscUsed osc && (cause == 1 || decide (oscLimit osc < |ppm|))) fun s => s.oscFail osc cause ppm)

/-- A retry of a faulty oscillator (R444). -/
def State.oscRetry (s : State) (f : OscFault) (good : Bool) : State :=
  let rest := s.clk.faults.filter fun x : OscFault => x.osc != f.osc
  if good then
    let s := { s with clk := { s.clk with faults := rest } }
    ((s.event F.CLK_EVENT_RECOVER).post K.CLK_RECOVER ([byte f.osc] ++ beBytes 4 ((s.now - f.since) / 32768))).oscShow f.osc
      false
  else { s with clk := { s.clk with faults := rest ++ [{ f with next := s.now + oscInterval f.osc }] } }

/-- The time a retried oscillator must hold before it is taken back, in ticks (R444). -/
def oscHold (osc : Nat) : Nat := if osc = 3 then 0 else secTicks 10

/-- OSC_RETRY (R444): the retry of an oscillator has shown it good, or not. -/
def execOscRetry (osc : Nat) (good : Bool) (s : State) : Out :=
  .next (s.whenLive fun s =>
    match s.clk.faults.find? fun f : OscFault => f.osc == osc with
    | none => s
    | some f =>
      if (osc = 0 && !s.flag F.CLK_CFG_XTAL) || s.now < f.next + (if good then oscHold osc else 0) then s
      else s.oscRetry f good)

/-- One oscillator of the cross-check: its number and its deviation (R444). -/
def State.oscCheck (s : State) (p : Nat × Int) : State :=
  if s.oscUsed p.1 && (p.1 != 1 || s.sysRuns) && decide (oscLimit p.1 < |p.2|) then s.oscFail p.1 2 p.2 else s

/-- OSC_CROSS_CHECK (R444): the deviations found, in ppm, of the crystal from the LFO, the LFO from SYS, the HFO from AON
and the WDO from 32 kHz. -/
def execOscCrossCheck (xtal lfo hfo wdo : Int) (s : State) : Out :=
  .next (s.whenLive fun s =>
    [(0, xtal), (1, lfo), (2, hfo), (3, wdo)].foldl State.oscCheck s)

/-! ## SYNC (R450, R451) -/

/-- A time from the Tether is adopted (R450). -/
def State.adoptSync (s : State) (addr t : Nat) : State :=
  let off := s.offsetMs t
  let lower := match s.ownAddr with
    | some a => decide (addr < a)
    | none => false
  let s := s.setTime t
  let s := if s.tsrc = 1 then s else s.setTsrc 2 addr off
  let s := (s.setReg R.CLK_OFFSET (ofSigned16 (clampSigned 2 off))).setField F.CLK_SYNCSRC_ADDR addr
  let s := { s with clk := { s.clk with syncAt := some s.now,
                                        lowerSync := if lower then some (s.clk.time / 65536 / 600) else s.clk.lowerSync } }
  (s.bump R.CLK_SYNCCNT 1).event F.CLK_EVENT_SYNC_RX

/-- The unit takes its time from a sender (R450). -/
def State.syncFrom (s : State) (addr : Nat) : Bool :=
  s.flag F.CLK_CFG_SYNC_RX &&
    (s.tsrc != 1 || (match s.ownAddr with | some a => decide (addr < a) | none => false))

/-- SYNC_RX (R450): the sender, its time in 1/65,536 s, and the AON ticks since the carrier-on edge of the frame's SOF. -/
def execSyncRx (addr time ago : Nat) (c : Carrier) (s : State) : Out :=
  let f : Frame := ⟨6, addr, 0, beBytes 6 time⟩
  .next (s.receive f c fun s =>
    let t := time + 1 + 2 * ago
    (if s.syncFrom addr && decide (t < 0x80000000 * 65536) then s.adoptSync addr t else s).rxEnter f)

/-- A SYNC posted; its six bytes take the time of its own SOF as it is sent (R242, R451). -/
def State.postSync (s : State) : State := s.postTx 6 0 (beBytes 6 0)

/-- SYNC_TX_DUE (R451). -/
def execSyncTxDue (s : State) : Out :=
  .next (s.when (s.live && s.boot.core && !s.inSafe && s.tsrc == 1 && s.flag F.CLK_CFG_SYNC_TX && s.txRoom) fun s =>
    match s.ownAddr with
    | none => s
    | some a =>
      let sec := s.clk.time / 65536
      let asked := match s.clk.hostSet with
        | some t => decide (s.now ≤ t + secTicks 10)
        | none => false
      let rested := match s.clk.hostSync with
        | some t => decide (t + secTicks 60 ≤ s.now)
        | none => true
      if sec % 600 = 4 * a && s.clk.syncSec != some sec && s.clk.lowerSync != some (sec / 600) then
        { s.postSync with clk := { s.clk with syncSec := some sec } }
      else if asked && rested then { s.postSync with clk := { s.clk with hostSet := none, hostSync := some s.now } }
      else s)

/-! ## The host watchdog (R452) -/

/-- The running period may have ended: WDO counts within ±20 %, AON exactly (R452, R456). -/
def State.hwdOver (s : State) : Bool :=
  s.hwdRuns && decide (s.clk.hwdFrom + (if s.oscFaulty 3 then s.hwdTicks else s.hwdTicks * 5 / 6) ≤ s.now)

/-- The E field of the watchdog. -/
def State.hwdE (s : State) : Nat := fieldOf (s.aonReg R.CLK_HWDCFG) 1 4

/-- HWD_WARN (R452). -/
def execHwdWarn (s : State) : Out :=
  .next (s.when (s.live && s.hwdOver && !s.flag F.CLK_STATUS_HWD_SECOND) fun s =>
    let s := ((s.event F.CLK_EVENT_HWD_WARN).setFlag F.CLK_STATUS_HWD_SECOND true).post K.HWD_WARN [byte s.hwdE]
    { s with clk := { s.clk with hwdFrom := s.now } })

/-- HWD_EXPIRE (R452): nRSTO is pulsed low for 10 ms, and with UNITRST a warm reset follows. -/
def execHwdExpire (s : State) : Out :=
  .next (s.when (s.live && s.hwdOver && s.flag F.CLK_STATUS_HWD_SECOND) fun s =>
    let rst := bitOf (s.aonReg R.CLK_HWDCFG) 5
    let s := (s.event F.CLK_EVENT_HWD_EXPIRE).setFlag F.CLK_STATUS_HWD_SECOND false
    let s := (s.bump R.CLK_HWDCNT 1).post K.HWD_EXPIRE [byte s.hwdE, boolByte rst]
    let s := { s with clk := { s.clk with hwdFrom := s.now, pulseDue := s.timer (msTicks 10) },
                      pins := { s.pins with nrsto := false } }
    if rst then s.warmReset 5 else s)

/-! ## The policy watchdog (R454, R455) -/

/-- The PWD has counted this many seconds: nominal on WDO, which may run 20 % fast. -/
def State.pwdCounted (s : State) (sec : Nat) : Bool :=
  s.boot.core && decide (s.clk.pwdFrom + (if s.oscFaulty 3 then secTicks sec else secTicks sec * 5 / 6) ≤ s.now)

/-- The code of the running slot. -/
def State.runCode (s : State) : Nat := match s.boot.running with | some x => x.code | none => 0

/-- R141: the core's Tether settings take their reset values. -/
def State.tetCoreReset (s : State) : State :=
  [R.CONV_TET_CTRL, R.CONV_TET_ISET, R.CONV_TET_ISRC].foldl (fun (t : State) (a : Nat) => t.setReg a (resetVal a)) s

/-- PWD_WARN (R454): the core's program counter in the record is no state of the unit, so it is a free value. -/
def execPwdWarn (s : State) : Out :=
  .next (s.when (s.pwdCounted 1 && !s.clk.pwdWarned) fun s =>
    let (pc, s) := s.fresh
    let s := (s.tetCoreReset).pdOwner false 2
    let s := (s.event F.CLK_EVENT_PWD_WARN).post K.PWD_WARN ([byte s.runCode] ++ beBytes 4 (pc.toNat % 0x100000000))
    { s with clk := { s.clk with pwdWarned := true } }.powerChanged)

/-- The third consecutive reset of a slot (R455). -/
def State.slotFallback (s : State) : State :=
  let dest := if s.flag F.CLK_PWD_OTHERFIRST then 0xFF else 1 - s.storedActive.code
  let s := (s.event F.CLK_EVENT_SLOT_FALLBACK).post K.SLOT_FALLBACK [byte s.runCode, byte dest]
  let s := s.setField F.CLK_PWD_RESETS 0
  if s.flag F.CLK_PWD_OTHERFIRST then s.setFlag F.CLK_PWD_FALLBACK true else s.setFlag F.CLK_PWD_OTHERFIRST true

/-- A core reset by the watchdog is counted (R455): consecutive when the slot ran for less than 60.000 s. -/
def State.countPwd (s : State) : State :=
  let n := if s.now < s.boot.startedAt + secTicks 60 then s.field F.CLK_PWD_RESETS + 1 else 1
  let s := (s.bump R.CLK_PWDCNT 1).setField F.CLK_PWD_RESETS n
  if n < 3 then s else s.slotFallback

/-- PWD_EXPIRE (R454, R455): a core reset follows. -/
def execPwdExpire (s : State) : Out :=
  .next (s.when (s.pwdCounted 2 && s.clk.pwdWarned) fun s =>
    let s := { s with svc := { s.svc with floorFrom := none } }
    (s.countPwd).coreReset 8)

/-- PWD_WAIT_END (R454): a wait of the core has ended after this many AON ticks, 30.000 s at most; the PWD paused meanwhile. -/
def execPwdWaitEnd (ticks : Nat) (s : State) : Out :=
  .next (s.when (s.live && s.boot.core) fun s =>
    { s with clk := { s.clk with pwdFrom := min s.now (s.clk.pwdFrom + min ticks (secTicks 30)) } })

/-- PWD_SLOT_STABLE (R455). -/
def execPwdSlotStable (s : State) : Out :=
  .next (s.when (s.live && s.boot.core && decide (s.boot.startedAt + secTicks 60 ≤ s.now)) fun s =>
    s.setField F.CLK_PWD_RESETS 0)

end Sys2Proof.Machine
end

