-- ==== Sys2Proof/Machine/TwbOps.lean ====
section
/-!
DEFINITION. Notification pushes of Port H (R406 to R409).
-/

namespace Sys2Proof.Machine

/-- No push is pending any more. -/
def State.pushDrop (s : State) : State :=
  { s with twb := { s.twb with pushDue := none, sending := none, numbered := false } }

/-- Bits of the summary that have fallen are forgotten, so that their next rise counts; a summary of zero cancels a pending
push (R407). -/
def State.sumFall (s : State) : State :=
  let s := { s with twb := { s.twb with summary := s.twb.summary &&& s.intsum } }
  if s.intsum = 0 && s.twb.sending.isNone then s.pushDrop else s

/-- A push falls due, or merges with the one that is pending or being sent (R407). -/
def State.pushRise (s : State) : State :=
  let rise := s.intsum &&& ~~~s.twb.summary
  let s := { s with twb := { s.twb with summary := s.intsum } }
  if rise = 0 || !s.flag F.TWB_CTL_CFG_EN || !s.boot.applied || s.twb.pushDue.isSome then s
  else { s.setField F.TWB_PUSH_RETRIES 0 with twb := { s.twb with pushDue := some s.now, numbered := false } }

/-- TWB_CTL_GAP in ticks. -/
def State.pushGap (s : State) : Nat := msTicks (s.regN R.TWB_CTL_GAP)

/-- The gap since the start of the previous push has passed (R407). -/
def State.gapPassed (s : State) : Bool :=
  match s.twb.pushAt with
  | some t => decide (t + s.pushGap ≤ s.now)
  | none => true

/-- The bytes of a push after its address byte (R408). -/
def State.pushBytes (s : State) : List Byte :=
  let n := min 2 (s.field F.TWB_CTL_CFG_PTRLEN)
  let b := beBytes n (s.regN R.TWB_CTL_PTR) ++ [byte s.baseAddr, byte (s.field F.TWB_PUSH_SEQ)] ++
    beBytes 2 s.intsum.toNat ++ beBytes 2 (s.regN R.SYS_STATE) ++ beBytes 2 s.noteHead.toNat
  if s.flag F.TWB_CTL_CFG_PUSHPEC then b ++ [byte (crc8 (byte (2 * s.regN R.TWB_CTL_ADDR) :: b))] else b

/-- SYS runs for a push as for a transaction (R398, R407). -/
def State.pushAwake (s : State) : State := if s.sysRuns then s else s.setFlag F.TWB_STATUS_AWAKE true

/-- The push's transaction has ended. -/
def State.pushEnd (s : State) : State :=
  let s := { s with twb := { s.twb with sending := none } }
  if s.flag F.TWB_STATUS_AWAKE then { s with twb := { s.twb with awakeDue := s.timer (msTicks s.twb.awake.toNat) } }
  else s

/-- The first byte of a push is built: a new one takes the next sequence number, a retry keeps its own (R408). -/
def State.pushBuild (s : State) : State :=
  let s := if s.twb.numbered then s
    else s.setField F.TWB_PUSH_SEQ ((s.field F.TWB_PUSH_SEQ + 1) % 256)
  { s with twb := { s.twb with sending := some s.pushBytes, numbered := true, pushAt := some s.now } }

/-- An attempt at the push has failed: it is tried again after the gap, three times at most (R407). -/
def State.pushFailed (s : State) : State :=
  let s := s.pushEnd
  let n := s.field F.TWB_PUSH_RETRIES
  if n < 3 then
    let s := s.setField F.TWB_PUSH_RETRIES (n + 1)
    { s with twb := { s.twb with pushDue := some s.now, retryAt := s.now + s.pushGap } }
  else (((s.pushDrop).event F.TWB_EVENT_PUSH_FAIL).bump R.TWB_PUSHFAIL 1)

end Sys2Proof.Machine
end

