-- ==== Sys2Proof/Machine/RegActs.lean ====
section
/-!
DEFINITION. What follows from a register's new value, and what a write to an acting register does: reads of the Ledger, host
posts, snapshots, watchdog kicks, the time setting, the command bits of CHG, TET, MKT, PD and LGR.
-/

namespace Sys2Proof.Machine

/-! ## Registers that take effect through more than their value -/

/-- The window of the Stall table takes the selected entry (R285). -/
def State.stallWindow (s : State) : State :=
  let a := s.regN R.MKT_STALLSEL
  let s := s.stallLoad a
  let b := s.stall a
  (s.setRegs R.MKT_STALLW0 ((List.range 32).map fun k => BitVec.ofNat 16 (natAt b (2 * k) 2))).setFlag F.MKT_CACHE_WINRDY true

/-- The HOSTTAG of the selected entry written through (R283, R285). -/
def State.hostTag (s : State) (v : Word) : State := s.stallBytes (s.regN R.MKT_STALLSEL) 56 (beBytes 2 v.toNat)

/-- The most recent accepted Weighbridge record of a type copied into the read buffer (R194). -/
def State.wbSelect (s : State) : State :=
  let b := (s.wbLatest (s.regN R.WB_RDSEL)).getD []
  { s with wb := { s.wb with rdBuf := b, rdPos := 0 } }.setReg R.WB_RDLEN (BitVec.ofNat 16 b.length)

/-- Clearing an enable of MKT_CFG: the firmware withdraws within 1 s (R287). -/
def State.marketEnables (s : State) (old : Word) : State :=
  if old &&& ~~~s.reg R.MKT_CFG &&& 7 != 0 then { s with mkt := { s.mkt with cfgDue := s.timer (secTicks 1) } } else s

/-- OPT_CFG.EN cleared ends listening and discards a frame in progress (R391). -/
def State.optEnable (s : State) : State :=
  if s.flag F.OPT_CFG_EN then s
  else { s.setFlag F.OPT_STATUS_RX false with opt := { s.opt with listenDue := none, frame := [] } }

/-- TWB_CTL_CFG.EN set begins to watch the summary anew; cleared, it cancels pending pushes (R407, R414). -/
def State.pushEnable (s : State) (old : Word) : State :=
  let en := s.flag F.TWB_CTL_CFG_EN
  if en && !bitOf old 0 then { s with twb := { s.twb with summary := s.intsum } }
  else if !en && bitOf old 0 && s.twb.sending.isNone then s.pushDrop
  else s

/-- CLK_TIMESET takes effect (R447, R448): the host has set system time. -/
def State.timeSet (s : State) : State :=
  let sec := s.regN R.CLK_TIMESET2 * 65536 + s.regN R.CLK_TIMESET1
  let t := sec * 65536 + s.regN R.CLK_TIMESET0
  let off := s.offsetMs t
  { (s.setTime t).setTsrc 1 0xFF off with clk := { ((s.setTime t).setTsrc 1 0xFF off).clk with hostSet := some s.now } }

/-- What follows a new value on pages 0x01 to 0x04 (R130, R146, R153, R162, R172). -/
def State.hookLow (s : State) (a : Nat) : State :=
  if a = R.SRC_EN then (s.enablesChanged).pdReeval
  else if a = R.SRC_RANK then s.reselect
  else if a = R.SRC_VBUS_ILIM then (s.holdInput).pdReeval
  else if a = R.SRC_VIN_ILIM || a = R.SRC_VPV_ILIM || a = R.SRC_VIN_FLOOR || a = R.SRC_VBUS_FLOOR then s.holdInput
  else if a = R.SRC_VPV_CFG || a = R.SRC_VPV_VSET then s.trackChange
  else if a = R.SRC_TET_ILIM || a = R.CONV_TET_ISET || a = R.CONV_TET_ISRC then s.tetHold
  else if a = R.PATH_VSYSMIN then s.refreshBatfet
  else if a = R.CHG_CFG then (if s.phaseN = phOff then s.chgDetect else s.refreshChgOff)
  else if a / 256 = 3 then ((s.refreshPartial).chgFigures).tetMove
  else if a = R.CONV_AUX then s.vauxApply
  else if a = R.CONV_TET_CTRL then (s.holdCellok).powerChanged
  else if a = R.CONV_HORN_V then s.refreshHorn
  else s

/-- What follows a new value on pages 0x06 to 0x0C (R194, R285, R287, R314, R362, R391). -/
def State.hookMid (s : State) (a : Nat) (old : Word) : State :=
  if a = R.MKT_CFG then s.marketEnables old
  else if a = R.MKT_ALMCAP then s.tetHold
  else if a = R.MKT_STALLSEL then s.stallWindow
  else if a = R.ALM_CFG then s.refreshHsw
  else if a = R.ALM_TDISC then s.tdiscChange old
  else if a = R.WB_RDSEL then s.wbSelect
  else if a = R.LGR_CFG then s.refreshBack
  else if a = R.PD_CFG then (if s.flag F.PD_CFG_SVC_EN then s.pdReeval else (s.svcModeEnd 6).pdReeval)
  else if a = R.PD_VMAX || a = R.PD_PMAX || a = R.PD_IMAX || a = R.PD_PPS_V || a = R.PD_AVS_V then s.pdReeval
  else if a = R.USB_CFG then s.usbRefresh
  else if a = R.OPT_CFG then s.optEnable
  else s

/-- What follows a new value on pages 0x0D and 0x0E (R414, R448, R453, R466). -/
def State.hookHigh (s : State) (a : Nat) (old : Word) : State :=
  if a = R.TWB_CTL_CFG then s.pushEnable old
  else if a = R.CLK_CFG then (s.xtalChange old).usbUnlock
  else if a = R.CLK_HWDCFG then s.hwdChange old
  else if a = R.CLK_TIMESET0 then s.timeSet
  else s

/-- What follows from a register's new value; `old` is the value before. -/
def State.hook (s : State) (a : Nat) (old : Word) : State :=
  if a / 256 ≤ 4 then s.hookLow a
  else if a / 256 ≤ 12 then s.hookMid a old
  else s.hookHigh a old

/-! ## The Ledger's windows (R311, R312, R314) -/

/-- A write of LGR_RDCTRL: a read is set up; while one is BUSY it is discarded, and mode 0b11 is ignored. -/
def State.ledgerSetup (s : State) (mode : Nat) : State :=
  match s.lgr.rdSetup with
  | some (m, q, _) => { s with lgr := { s.lgr with rdSetup := some (m, q, true) } }
  | none =>
    if mode = 3 then s
    else
      let s := { s with lgr := { s.lgr with rdSetup := some (mode, s.group R.LGR_RDSEQ2 3, false) } }
      ((s.setReg R.LGR_RDSTAT 1).setReg R.LGR_RDLEN 0).setFlag F.LGR_STATUS_RDBUSY true

/-- The newest HOST_RECORD: its sequence and its tag; one that waits has none yet (R306, R312). -/
def State.newestPost (s : State) : Option (Nat × Nat) :=
  let l := s.retained.filterMap fun x => match s.gather x.2.1 with
    | some slots =>
      let ct := headCt (slots.headD [])
      if ct / 256 = 0x89 && decide (1 ≤ ct % 256 ∧ ct % 256 ≤ 0x0F) then some (x.1, natAt (recPayload slots) 0 2) else none
    | none => none
  l.foldl (fun best x => match best with
    | none => some x
    | some b => if b.1 < x.1 then some x else some b) none

/-- A write of LGR_HPOST (R312): a HOST_RECORD is handed to the Ledger, refused, or known already. -/
def State.hostPost (s : State) (typ len : Nat) : State :=
  let tag := s.regN R.LGR_HTAG
  if s.flag F.LGR_STATUS_HPEND || typ = 0 || decide (12 < len) then s.setReg R.LGR_HRES 4
  else
    match (if tag = 0 then none else s.newestPost.filter fun x => x.2 == tag) with
    | some (seq, _) => (s.setReg R.LGR_HRES 3).setGroup R.LGR_HSEQ2 3 seq
    | none =>
      let data := ((List.range 6).flatMap fun k => beBytes 2 (s.regN (R.LGR_HBUF0 + k))).take len
      let s := (s.setReg R.LGR_HRES 1).setFlag F.LGR_STATUS_HPEND true
      { s with lgr := { s.lgr with waiting := s.lgr.waiting ++ [Rec.mk 2 0x09 typ (beBytes 2 tag ++ data)] } }

/-! ## Snapshots (R437, R438, R493) -/

/-- The source registers of the copies at 0x1110 to 0x1141, in order. -/
def snapSources : List Nat :=
  [R.SYS_KEYERRCNT, R.SRC_TRIPCNT, R.SRC_COLLCNT, R.SRC_CHGOVRCNT, R.CHG_FAULTCNT, R.CONV_SHEDCNT, R.TET_ERRCNT0,
   R.TET_ERRCNT1, R.TET_ERRCNT2, R.TET_ERRCNT3, R.TET_ERRCNT4, R.TET_ERRCNT5, R.TET_GUARDCNT, R.TET_TXCNT, R.TET_RXCNT,
   R.MKT_CUTCNT, R.MKT_STALECNT, R.MKT_LAPSECNT, R.ALM_GLITCHCNT, R.WB_OVRCNT, R.WB_SEQNUM_H, R.WB_SEQNUM_L,
   R.VDT_SKIPCNT] ++
  [R.LGR_NEXTSEQ2, R.LGR_NEXTSEQ1, R.LGR_NEXTSEQ0, R.LGR_HOLDCNT, R.LGR_COALCNT, R.LGR_VFYERR_A, R.LGR_VFYERR_B,
   R.PD_HRCNT, R.PD_RETRYFAIL, R.PD_REFCNT, R.PD_ATTCNT, R.USB_RSTCNT, R.OPT_FLOODCNT, R.OPT_ERRCNT, R.OPT_RXCNT,
   R.TWB_TOCNT, R.TWB_PECCNT, R.TWB_REFCNT, R.TWB_ARBCNT, R.TWB_PUSHFAIL, R.TWB_RECCNT, R.CLK_FAULTCNT, R.CLK_HWDCNT,
   R.CLK_PWDCNT, R.CLK_SYNCCNT, R.THM_SDCNT, R.THM_THRCNT]

/-- The words of a snapshot taken now, with the registers they go into. -/
def State.snapCapture (s : State) : List (Nat × Word) :=
  [(R.SNAP_STATUS, sat16 (s.regN R.SNAP_STATUS + 1)), (R.SNAP_TIME2, wordOf s.stamp.1 2 0),
   (R.SNAP_TIME1, wordOf s.stamp.1 2 1), (R.SNAP_TIME0, BitVec.ofNat 16 s.stamp.2)] ++
    snapSources.zipIdx.map fun p => (R.SNAP_COPY + p.2, s.shown false p.1)

/-- A snapshot is taken (R437): shown at once, or at the STOP of a transaction that reads page 0x11 (R438). -/
def State.snapTake (s : State) (reading : Bool) : State :=
  let s' := { s with ra := { s.ra with snapWait := some s.snapCapture } }
  if reading then s' else s'.snapShow

/-! ## Watchdogs, Power Delivery, the service session -/

/-- A write of 0xA55A to CLK_HWDKICK: a new first period (R452). -/
def State.hwdKick (s : State) : State :=
  let s := s.setFlag F.CLK_STATUS_HWD_SECOND false
  if s.hwdRuns then { s with clk := { s.clk with hwdFrom := s.now } } else s

/-- A write of CLK_PWDKICK by the policy core (R454). -/
def State.pwdKick (s : State) (v : Word) : State :=
  if v = 0x5AA5 && s.boot.core then { s with clk := { s.clk with pwdFrom := s.now, pwdWarned := false } } else s

/-- PD_CTRL (R340, R361, R362): TAKE by the firmware alone; the other bits act and read 0. -/
def State.pdCtrl (s : State) (req : Requester) (v : Word) : State :=
  let s := if req = .firmware && bitOf v 0 != s.flag F.PD_CTRL_TAKE then
      (s.setFlag F.PD_CTRL_TAKE (bitOf v 0)).pdOwner (bitOf v 0) (if bitOf v 0 then 0 else 3)
    else s
  let s := if bitOf v 1 then { s with pd := { s.pd with refusals := [] } }.pdAsk .getSourceCap else s
  let s := if bitOf v 2 then s.pdAsk .getSourceCap else s
  if bitOf v 3 then s.svcModeEnd 5 else s

/-! ## Command bits (R164, R169, R216, R247, R252, R256, R285, R299) -/

/-- CHG_CTRL: CLRFAULT and FULL. -/
def State.chgCtrl (s : State) (v : Word) : State :=
  let s := if bitOf v 0 then s.chgClear else s
  if bitOf v 1 then s.chgFullRequest else s

/-- TET_CTRL.READDR: a unit under auto-assignment erases its address and listens anew (R252). -/
def State.readdress (s : State) : State :=
  if s.autoAddr then
    let s := ((s.storeTetAddr none).setHeld false).startListening
    { s with link := { s.link with statusSlot := [] } }.retarget
  else s

/-- A LINK_TEST without data (R256). -/
def State.linkTest (s : State) : State := s.postTx 7 0 []

/-- TET_CTRL: CENSUS, LINKTEST and READDR. -/
def State.tetCtrl (s : State) (v : Word) : State :=
  let s := if bitOf v 0 then s.postCensus else s
  let s := if bitOf v 1 then s.linkTest else s
  if bitOf v 2 then s.readdress else s

/-- MKT_CTRL.CLRCNT: bytes 42 to 51 of the selected entry are cleared (R285). -/
def State.clearCounts (s : State) : State := s.stallBytes (s.regN R.MKT_STALLSEL) 42 (List.replicate 10 0)

/-- VDT_CTRL.PROOFREQ: a proof test is requested (R216). -/
def State.proofRequest (s : State) : State := { s with vdt := { s.vdt with requested := true } }

/-- LGR_CTRL.FLUSH: the TALLY of every open accumulator is built (R299). -/
def State.ledgerFlush (s : State) : State := (s.flushAccs).refreshBack

end Sys2Proof.Machine
end

