-- ==== Sys2Proof/Machine/RegWrite.lean ====
section
/-!
DEFINITION. The write of a register by any requester (R415 to R428): access codes, aliases, groups, refusals, always-on
writes, keys, the commit and the revert of the configuration, and the side effects of reads (R421 to R423).
-/

namespace Sys2Proof.Machine

/-! ## Always-on writes (R436) -/

/-- An always-on write on its way reaches the AON domain: what follows from the value happens now. -/
def State.aonApply (s : State) : State :=
  match s.ra.aonWrite with
  | some w => { s with ra := { s.ra with aonWrite := none } }.hook w.addr w.old
  | none => s

/-- A register takes a value and what follows from it happens: at once, or, where an always-on write is shadowed, at the
third AON edge. -/
def State.putReg (s : State) (r : RegInfo) (v : Word) (shadow : Bool) : State :=
  let old := s.reg r.addr
  if r.aon && shadow then
    { s.setReg r.addr v with ra := { s.ra with aonWrite := some ⟨r.addr, old, v, s.now + 3, true⟩ } }
  else ((if r.aon then s.aonApply else s).setReg r.addr v).hook r.addr old

/-! ## The staging window (R92, R491) -/

/-- A byte of the staging area. -/
def stagePut (l : List Host.Cell) (i : Nat) (b : Byte) : List Host.Cell :=
  let l' := l.filter fun c => c.1 != i
  if b = 0 then l' else (l'.takeWhile fun c => decide (c.1 < i)) ++ (i, b) :: (l'.dropWhile fun c => decide (c.1 < i))

/-- Bytes staged from an offset on. -/
def State.stageBytes (s : State) (i : Nat) (l : List Byte) : State :=
  let s := { s with boot := { s.boot with
    stage := (l.zipIdx.foldl (fun (m : List Host.Cell) (p : Byte × Nat) => stagePut m (i + p.2) p.1) s.boot.stage) } }
  s.setFlag F.SVC_STATUS_IMGSTAGED (s.svc.session.isSome && !s.boot.stage.isEmpty)

/-- CFG_STGADDR advances by two (R491). -/
def State.stageStep (s : State) : State :=
  s.setReg R.CFG_STGADDR (BitVec.ofNat 16 ((s.regN R.CFG_STGADDR + 2) % 65536))

/-- A write of CFG_STGDATA; refused to the host, and to a REG_WRITE as to the host, while HOSTIMG is 0 (R415, R491). -/
def State.stageWrite (s : State) (req : Requester) (v : Word) : State :=
  if s.flag F.CFG_STATUS_HOSTIMG || req == .firmware then (s.stageBytes (s.regN R.CFG_STGADDR) (beBytes 2 v.toNat)).stageStep
  else s.badWrite

/-! ## Plain values -/

/-- The bits of a configuration-class register that a write changes and that R88 does not leave free. -/
def cfgChange (r : RegInfo) (old v : Word) : Word := (old ^^^ v) &&& ~~~(freeBits r.addr)

/-- A judged value put into its register (R89, R427, R433). -/
def State.writeJudged (s : State) (req : Requester) (r : RegInfo) (old v : Word) (shadow : Bool) : State :=
  match s.judge req r old v with
  | .bad => s.badWrite
  | .denied => s.cfgDenied
  | .ok w =>
    let s := s.putReg r w shadow
    if !r.cfg then s
    else if cfgChange r old v = 0 then s.setFlag F.CFG_STATUS_DENIED false
    else s.cfgWritten r.addr

/-! ## Groups (R425) -/

/-- The groups of RW registers. -/
def rwGroup (a : Nat) : Option (Nat × Nat) :=
  match groupOf a with
  | some g => if a ∈ [R.LGR_RDSEQ2, R.LGR_RDSEQ1, R.LGR_RDSEQ0, R.PD_XID_H, R.PD_XID_L, R.PD_MODEVDO_H, R.PD_MODEVDO_L,
      R.CLK_TIMESET2, R.CLK_TIMESET1, R.CLK_TIMESET0] then some g else none
  | none => none

/-- The hold of a group, while its 1 ms lasts. -/
def State.hold (s : State) (first : Nat) : Option GroupHold :=
  s.ra.holds.find? fun h => h.first == first && decide (s.now ≤ h.tick + 33)

/-- A hold forgotten. -/
def State.dropHold (s : State) (first : Nat) : State :=
  { s with ra := { s.ra with holds := s.ra.holds.filter fun h => h.first != first } }

/-- A part held: with the parts already held, or alone where the same register is written again. -/
def State.holdPart (s : State) (first a : Nat) (v : Word) : State :=
  let parts := match s.hold first with
    | some h => if h.parts.any (fun p => p.1 == a) then [] else h.parts
    | none => []
  { s.dropHold first with ra := { (s.dropHold first).ra with
    holds := (s.dropHold first).ra.holds ++ [⟨first, parts ++ [(a, v)], s.now⟩] } }

/-- A part of a group as it will be written: held, or as it stands. -/
def State.groupPart (s : State) (first a : Nat) : Word :=
  match s.hold first with
  | some h => ((h.parts.find? fun p => p.1 == a).map (·.2)).getD (s.reg a)
  | none => s.reg a

/-- The system time a CLK_TIMESET group would set is in range (R448). -/
def timeSetOk (parts : List (Nat × Word)) : Bool :=
  parts.all fun p => p.1 != R.CLK_TIMESET2 || p.2.toNat < 0x8000

/-- The refusal of a group's part. -/
def State.partRefusal (s : State) (req : Requester) (p : Nat × Word) : Judged :=
  match s.info p.1 with
  | some r => s.judge req r (s.reg p.1) p.2
  | none => .bad

/-- A group's parts put in turn; the last one's write is the group's (R425). -/
def State.putParts (s : State) (shadow : Bool) (last : Nat) (parts : List (Nat × Word)) : State :=
  parts.foldl (fun (t : State) (p : Nat × Word) =>
    match t.info p.1 with
    | some r => if p.1 = last then t.putReg r p.2 shadow else t.setReg p.1 p.2
    | none => t) s

/-- The whole group takes its new value, or none of it (R425, R427). -/
def State.writeGroup (s : State) (req : Requester) (g : Nat × Nat) (v : Word) (shadow : Bool) : State :=
  let last := g.1 + g.2 - 1
  let parts := (List.range (g.2 - 1)).map (fun k => (g.1 + k, s.groupPart g.1 (g.1 + k))) ++ [(last, v)]
  let changed := parts.filter fun p => s.reg p.1 != p.2
  let s := s.dropHold g.1
  let js := parts.map (s.partRefusal req)
  if js.contains .denied then s.cfgDenied
  else if js.contains .bad || !timeSetOk parts then s.badWrite
  else
    let t := s.putParts shadow last (parts.map fun p => match s.partRefusal req p with
      | .ok w => (p.1, w)
      | _ => p)
    match t.info last with
    | some r => if r.cfg then changed.foldl (fun (u : State) (p : Nat × Word) => u.cfgWritten p.1) t else t
    | none => t

/-! ## One write -/

/-- The value a write through an access form gives (R424). -/
def aliased (form : Nat) (old v : Word) : Word :=
  match form with
  | 1 => old ||| v
  | 2 => old &&& ~~~v
  | 3 => old ^^^ v
  | _ => v

/-- What a written value counts as: SRC_EN.VBUS_EN of the QTL6412 ignores writes (R100). -/
def State.kept (s : State) (a : Nat) (w : Word) : Word :=
  if s.part == .qtl6412 && a == R.SRC_EN then w &&& ~~~2#16 else w

/-- A write-only register that acts, on a value that R427 does not refuse. -/
def State.actReg (s : State) (req : Requester) (a : Nat) (v : Word) : State :=
  if a = R.CHG_CTRL then s.chgCtrl v
  else if a = R.TET_CTRL then s.tetCtrl v
  else if a = R.MKT_CTRL then (if bitOf v 0 then s.clearCounts else s)
  else if a = R.ALM_CTRL then (if bitOf v 0 then s.hushPress else s)
  else if a = R.WB_CMD then s.wbCommand req v.toNat
  else if a = R.VDT_CTRL then (if bitOf v 0 then s.proofRequest else s)
  else if a = R.LGR_RDCTRL then s.ledgerSetup (fieldOf v 0 2)
  else if a = R.LGR_HPOST then s.hostPost (fieldOf v 0 4) (fieldOf v 4 4)
  else if a = R.LGR_CTRL then (if bitOf v 0 then s.ledgerFlush else s)
  else if a = R.SVC_CTRL then (if bitOf v 0 then s.svcClose closeHost else s)
  else if a = R.CLK_HWDKICK then s.hwdKick
  else if a = R.CLK_PWDKICK then s.pwdKick v
  else if a = R.SNAP_CTRL then (if bitOf v 0 then s.snapTake false else s)
  else s

/-- A register the policy firmware alone writes takes a value; one that sets a reserved bit is refused (R171, R172, R220, R286, R427).
-/
def State.polReg (s : State) (r : RegInfo) (v : Word) : State :=
  if !s.legal r v then s.badWrite
  else if r.addr = R.CHG_SOC then s.setSoc v
  else if r.addr = R.CHG_TGT then (s.setTarget v.toNat 0).tetMove
  else
    let s := s.setReg r.addr v
    if r.addr / 256 = 3 then (s.refreshPartial).tetMove else s

/-- A write to a register that is not keyed, by access code (R423 to R427). -/
def State.regWrite (s : State) (req : Requester) (form a : Nat) (v : Word) (shadow : Bool) : State :=
  match s.info a with
  | none => s
  | some r =>
    match r.access with
    | .ro => if r.pol && req == .firmware && form == 0 then s.polReg r v else s
    | .rc => if form = 2 && r.addr != R.VDT_NOTE then s.setReg r.addr (s.reg r.addr &&& ~~~v) else s
    | .rk => s
    | .wo =>
      if form ≠ 0 || (r.pol && req != .firmware) then s
      else if r.cfg then s.writeJudged req r (s.reg r.addr) v false
      else if s.legal r v then s.actReg req r.addr v
      else s.badWrite
    | .rw =>
      let w := s.kept r.addr (aliased form (s.shown false r.addr) v)
      if r.pol && req != .firmware then s
      else if r.addr = R.CFG_STGDATA then s.stageWrite req w
      else if r.addr = R.MKT_STALLTAG then s.hostTag w
      else if r.addr = R.PD_CTRL then (if s.legal r w then s.pdCtrl req w else s.badWrite)
      else match rwGroup r.addr with
        | some g =>
          if r.addr = g.1 + g.2 - 1 then s.writeGroup req g w shadow
          else s.holdPart g.1 r.addr w
        | none => s.writeJudged req r (s.shown false r.addr) w shadow

/-! ## Commit and revert (R430, R432, R433) -/

/-- The keyed CFG_COMMIT of 0x0001. -/
def State.cfgCommit (s : State) : State :=
  if s.flag F.CFG_STATUS_PEND then (s.setRef).event F.CFG_EVENT_COMMIT else s

/-- One configuration-class register goes back to its shadow; ALM_CFG's free bits stay as they are (R88, R433). -/
def State.revertReg (s : State) (r : RegInfo) : State :=
  let old := s.reg r.addr
  let v := (regGet s.ra.shadow r.addr &&& ~~~(freeBits r.addr)) ||| (old &&& freeBits r.addr)
  if old = v then s else (s.setReg r.addr v).hook r.addr old

/-- The revert of R433. -/
def State.cfgRevert (s : State) : State :=
  if s.flag F.CFG_STATUS_PEND then
    let s := cfgRegs.foldl State.revertReg s
    let s := { s with ra := { s.ra with written := [], holdDue := none } }
    (s.setFlag F.CFG_STATUS_PEND false).event F.CFG_EVENT_REVERT
  else s

/-- The keyed CFG_LOCK of 0x0001 (R430). -/
def State.cfgLock (s : State) : State :=
  if s.flag F.CFG_STATUS_PEND then s.badWrite else s.setFlag F.CFG_STATUS_LOCKED true

/-- A keyed SYS_RESET of a value that is none of R62's. -/
def State.resetRefused (s : State) : State := s.tally K.RESET_REFUSED

/-- What a completed keyed pair does, SYS_SHIP and CFG_WRITE aside (R429). -/
def State.keyedAct (s : State) (a : Nat) (v : Word) : State :=
  if a = R.SYS_RESET then
    (if v = 1 then s.warmReset 3 else if v = 2 then s.coreReset 7 else s.resetRefused)
  else if a = R.CFG_COMMIT then (if v = 1 then s.cfgCommit else if v = 2 then s.cfgRevert else s)
  else if a = R.CFG_LOCK then (if v = 1 then s.cfgLock else s)
  else s

/-! ## Reads with their side effects (R417, R421 to R423) -/

/-- The bits an EVENT register has: those its IRQEN register has (R439). -/
def eventBits (a : Nat) : Word :=
  match ((List.range 16).flatMap irqPairs).find? fun p => p.1 == a with
  | some p => ~~~((regInfo p.2).elim 0 fun r => BitVec.ofNat 16 r.reserved)
  | none => 0

/-- The side effect of a plain read, once the low byte has been transferred; `w` is the value captured, `late` the events that
came after the capture (R421, R422). -/
def State.readEffect (s : State) (a : Nat) (w late : Word) : State :=
  match s.info a with
  | none => s
  | some r =>
    if r.addr = R.VDT_NOTE then
      (match s.vdt.fifo with
      | [] => s
      | _ :: l =>
        let t := { s with vdt := { s.vdt with fifo := l } }.noteRefill
        t)
    else if r.access = .rc then s.setReg r.addr ((s.reg r.addr &&& ~~~w) ||| (late &&& eventBits r.addr))
    else if r.addr = R.LGR_RDDATA then { s with lgr := { s.lgr with rdPos := s.lgr.rdPos + 2 } }
    else if r.addr = R.WB_RDDATA then { s with wb := { s.wb with rdPos := s.wb.rdPos + 2 } }
    else if r.addr = R.OPT_ANSDATA then
      (let t := { s with opt := { s.opt with pos := s.opt.pos + 2 } }
       if t.opt.buf.length ≤ t.opt.pos then t.setFlag F.OPT_STATUS_ANSPEND false else t)
    else if r.addr = R.CFG_STGDATA then s.stageStep
    else s

/-- One word read over a path; an alias read returns the plain value and does nothing (R423). -/
def State.readWord (s : State) (req : Requester) (viaH : Bool) (form a : Nat) (late : Word) : Word × State :=
  if form = 0 then
    let r := s.groupRead req viaH a
    (r.1, r.2.readEffect a r.1 late)
  else (s.shown viaH a, s)

end Sys2Proof.Machine
end

