-- ==== Sys2Proof/Machine/CmdRun.lean ====
section
/-!
DEFINITION. The execution of lasting commands (R319 to R325, R377): the image write (R93 to R95), firmware slots (R380 to
R382), ship requests, a new cell, register writes, and the journal around them.
-/

namespace Sys2Proof.Machine

/-! ## CMD_DONE ahead of a reset (R321) -/

/-- The CMD_DONE of a command has been accepted, or none can be (R321, R331). -/
def State.doneAccepted (s : State) (seq : Nat) : Bool :=
  s.ledgerDead || !s.lgr.waiting.any fun x => x.prod == 0x09 && x.typ == 0x11 && natAt x.payload 0 5 == seq

/-- A command whose CMD_DONE has been accepted is answered, and its act follows. -/
def State.finish (s : State) (f : Finish) : State :=
  let s := s.cmdAnswer f.run f.status f.body
  match f.act with
  | .nothing => s
  | .warm c => s.warmReset c
  | .core c => s.coreReset c

/-- CMD_DONE before the answer and the act: the intake takes it behind what waits before it, at once where the rules of the
Ledger let it; otherwise answer and act wait for its acceptance. -/
def State.doneFirst (s : State) (r : Run) (status : Nat) (body : List Byte) (act : AfterDone) : State :=
  let t := (s.postDone r.1 resDone r.2.2 r.2.1.code).intakeAll
  let f : Finish := ⟨r, status, body, act⟩
  if t.doneAccepted r.1 then t.finish f
  else { t with cmd := { t.cmd with finishing := t.cmd.finishing ++ [f] } }

/-- A waiting command finishes once its CMD_DONE has been accepted. -/
def State.finishOne (s : State) (f : Finish) : State :=
  if s.cmd.finishing.contains f && s.doneAccepted f.run.1 then
    { s with cmd := { s.cmd with finishing := s.cmd.finishing.erase f } }.finish f
  else s

/-- Every waiting command whose CMD_DONE has been accepted finishes, in order. -/
def State.finishDue (s : State) : State := s.cmd.finishing.foldl State.finishOne s

/-- A reset waits for its CMD_DONE. -/
def State.actPending (s : State) : Bool := s.cmd.finishing.any fun f => f.act != .nothing

/-! ## The image write (R93, R94) -/

/-- The staged header and body. -/
def State.staged (s : State) (i n : Nat) : List Byte := (List.range n).map fun k => s.stageByte (i + k)

/-- A header of the EEPROM as start-up found it. -/
def State.foundHeader (s : State) : Option (List Byte) := s.boot.copyA.header.or s.boot.copyB.header

/-- The staged geometry is the one found at start-up; with none found there is nothing to differ from (R93). -/
def State.sameGeometry (s : State) (h : List Byte) : Bool :=
  s.field F.TWB_PORTC_SIZE == 0 ||
    (hdrSize h == s.field F.TWB_PORTC_SIZE && hdrTwo h == s.twoDevices &&
      (match s.foundHeader with | some g => hdrPage g == hdrPage h | none => true))

/-- A valid copy, or one whose check is still to come, carries a counter the staged one must exceed (R93). -/
def CopyInfo.blocks (c : CopyInfo) (counter : Nat) : Bool :=
  match c.header with
  | some g => c.valid != some false && decide (counter ≤ hdrCounter g)
  | none => false

/-- Why an image write is refused, as IMAGE_REFUSED codes it (R93, R292); 0 when it is accepted. -/
def State.imageRefusal (s : State) : Nat :=
  let h := s.staged 0 32
  if (s.copyFault h (s.staged 32 (min (hdrLen h) 65504))).isSome then 1
  else if !s.sameGeometry h then 2
  else if s.boot.copyA.blocks (hdrCounter h) || s.boot.copyB.blocks (hdrCounter h) then 3
  else if s.flag F.SYS_STATE_ALARM then 4
  else 0

/-- Bytes cut into the pages of a device, none across a page boundary: offset in the copy and bytes (R94). -/
def pageCuts (page : Nat) : Nat → Nat → List Byte → List (Nat × List Byte)
  | 0, _, _ => []
  | fuel + 1, o, l =>
    if l.isEmpty then [] else
      let n := page - o % page
      (o, l.take n) :: pageCuts page fuel (o + n) (l.drop n)

/-- The pages of a write in order: the magic bytes zeroed, the body, the header (R94). -/
def writePages (h body : List Byte) : List (Nat × List Byte) :=
  let page := 2 ^ hdrPage h
  (0, [0, 0, 0, 0]) :: (pageCuts page (body.length + 1) 32 body ++ pageCuts page 33 0 h)

/-- An image write begins: WRBUSY set and CFGWP low; the target is the copy not loaded, or copy B (R94). -/
def State.imageBegin (s : State) (req : Requester) (resetAfter : Bool) : State :=
  let h := s.staged 0 32
  let x := match s.boot.loaded with | some y => y.other | none => .b
  let w : ImageWrite := ⟨x, writePages h (s.staged 32 (hdrLen h)), resetAfter, req, s.now, hdrCounter h, hdrLen h⟩
  let s := s.setCopy x ⟨none, some false⟩
  let s := { s with boot := { s.boot with write := some w, checking := if s.boot.checking = some x then none else s.boot.checking },
                    pins := { s.pins with cfgwp := false } }
  ((s.setFlag F.CFG_STATUS_WRFAIL false).setFlag F.CFG_STATUS_WRBUSY true).setFlag F.TWB_PORTC_BUSY true

/-- A refused image write: WRFAIL, and IMAGE_REFUSED with its reason (R93). -/
def State.imageRefused (s : State) (why : Nat) (req : Requester) : State :=
  (s.cfgBit F.CFG_STATUS_WRFAIL F.CFG_EVENT_WRFAIL true).post K.IMAGE_REFUSED [byte why, byte req.code]

/-- The body of an IMG_WRITE answer. -/
def State.cfgStatusBytes (s : State) : List Byte := beBytes 2 (s.regN R.CFG_STATUS)

/-- CFG_WRITE and IMG_WRITE executed (R93, R324): re-executed they find their staging lost; a request while a write runs
has no effect. -/
def State.runImageWrite (s : State) (r : Run) (req : Requester) (resetAfter : Bool) : State :=
  if r.2.2 then s.cmdFinish r resStagingLost stLost s.cfgStatusBytes
  else if s.boot.write.isSome then s.cmdFinish r resRefused stRefused s.cfgStatusBytes
  else
    let why := s.imageRefusal
    if why = 0 then { s.imageBegin req resetAfter with cmd := { s.cmd with writing := some r } }
    else
      let s := s.imageRefused why req
      s.cmdFinish r resRefused stRefused s.cfgStatusBytes

/-- The command whose image write has ended is done; with RESET_AFTER a verified write is followed by a warm reset (R93,
R321). -/
def State.imageDone (s : State) (w : ImageWrite) (result : Nat) : State :=
  let t := s.imageEnd w result
  let run := t.cmd.writing
  let t := { t with cmd := { t.cmd with writing := none } }
  let body := t.cfgStatusBytes
  if result = 0 && w.resetAfter then
    match run with
    | some r => t.doneFirst r stOk body (.warm 3)
    | none => t.warmReset 3
  else match run with
    | some r => if result = 0 then t.cmdFinish r resDone stOk body else t.cmdFinish r resRefused stRefused body
    | none => t

/-! ## Firmware slots (R379 to R382) -/

/-- The slot an update writes: the one SYS_BOOT.RUNNING does not show. -/
def State.fwTarget (s : State) : AB := if s.flag F.SYS_BOOT_RUNNING then .a else .b

/-- A slot's bytes replaced. -/
def State.setSlot (s : State) (x : AB) (b : List Byte) : State :=
  match x with
  | .a => { s with boot := { s.boot with slotA := b } }
  | .b => { s with boot := { s.boot with slotB := b } }

/-- The chunk offsets of the staged window from W. -/
def State.fwWindow (s : State) (total : Nat) : List Nat :=
  (List.range (ceilDiv (min (s.svc.fwPos + 65536) total - s.svc.fwPos) 512)).map fun k => s.svc.fwPos + 512 * k

/-- A staged chunk. -/
def State.fwChunk (s : State) (o : Nat) : Option (List Byte) := (s.svc.chunks.find? fun c => c.1 == o).map (·.2)

/-- FW_WRITE executed (R380): the staged window into the target slot, or the lowest missing offset. -/
def State.runFwWrite (s : State) (r : Run) : State :=
  if r.2.2 then s.cmdFinish r resStagingLost stLost (beBytes 4 s.svc.fwPos)
  else match s.svc.fwTotal with
    | none => s.cmdFinish r resRefused stRefused (beBytes 4 s.svc.fwPos)
    | some total =>
      let win := s.fwWindow total
      match win.find? fun o => (s.fwChunk o).isNone with
      | some o => s.cmdFinish r resRefused stRefused (beBytes 4 o)
      | none =>
        let data := win.flatMap fun o => (s.fwChunk o).getD []
        let x := s.fwTarget
        let w := s.svc.fwPos
        let s := s.setSlot x (setBytes (padTo (max w (s.slotBytes x).length) (s.slotBytes x)) w data)
        let s := { s with svc := { s.svc with fwPos := w + data.length, chunks := [] } }
        let s := s.post K.FW_WRITE ([byte x.code] ++ beBytes 4 w ++ beBytes 4 data.length)
        s.cmdFinish r resDone stOk (beBytes 4 s.svc.fwPos)

/-- A verified activation proceeds (R381): ACTIVE, SLOT_ACTIVATE, CMD_DONE, core reset; RAISE_FLOOR begins its hour. -/
def State.activate (s : State) (r : Run) (x : AB) (raise_ : Bool) : State :=
  let v := slotVersion (s.slotBytes x)
  let floor := s.storedFloor
  let s := (s.storeBoot x floor).post K.SLOT_ACTIVATE ([byte x.code] ++ beBytes 4 v ++ beBytes 4 floor)
  let s := { s with svc := { s.svc with activation := none, floorFrom := if raise_ then some (x, s.now) else none } }
  s.doneFirst r stOk (beBytes 4 v) (.core 9)

/-- FW_ACTIVATE has nothing to do (R381): it is a repeat that finds ACTIVE naming the slot, or the slot runs already. -/
def State.activeAlready (s : State) (r : Run) (x : AB) : Bool :=
  s.storedActive == x && (r.2.2 || s.boot.running == some x)

/-- FW_ACTIVATE executed (R381). -/
def State.runActivate (s : State) (r : Run) (x : AB) (raise_ : Bool) : State :=
  let v := beBytes 4 (slotVersion (s.slotBytes x))
  if s.activeAlready r x then s.cmdFinish r resDone stOk v
  else if s.svc.fwTotal ≠ some s.svc.fwPos then
    let f := s.fresh
    f.2.cmdFinish r resRefused stRefused [byte f.1.toNat]
  else match s.slotFault x with
    | some c => s.cmdFinish r resRefused stRefused [byte c]
    | none =>
      if s.flag F.SYS_STATE_PROOF || s.flag F.SYS_STATE_ALARM then
        let t := (srcTransport r.2.1.src).getD .usb
        { s with svc := { s.svc with activation := some ⟨x, raise_, r.1, t, r.2.1.tag, r.2.1.gen2, r.2.2⟩ } }
      else s.activate r x raise_

/-- The command of a waiting activation. -/
def Activation.run (a : Activation) : Run := (a.seq, ⟨Transport.src a.transport, 0x43, a.tag, [], a.gen2⟩, a.replayed)

/-! ## SHIP, CELL_NEW, PROOFREQ (R27, R28, R209, R216) -/

/-- A ship request of a command, whose CMD_DONE comes with SHIP_ENTRY or the refusal (R321). -/
def State.runShip (s : State) (r : Run) (req : Requester) : State :=
  { s with cmd := { s.cmd with shipping := s.cmd.shipping ++ [r] } }.shipRequest req

/-- The first condition of R28 for arming that fails, as R292 codes it; 0 when all hold. -/
def State.armBlock (s : State) : Nat :=
  if s.flag F.SRC_STATUS_VIN_Q || s.flag F.SRC_STATUS_VPV_Q || s.flag F.SRC_STATUS_TET_Q then 2
  else if s.flag F.TET_STATUS_INRANGE then 3
  else if s.flag F.SYS_STATE_ALARM then 4
  else if s.flag F.SYS_STATE_PROOF then 5
  else if s.flag F.ALM_STATUS_READY then 6
  else 0

/-- A SHIP command over USB or the SBU UART: ship-on-detach is armed for 60.0 s, or refused (R28). -/
def State.runShipArm (s : State) (r : Run) (req : Requester) : State :=
  let why := s.armBlock
  if why = 0 then
    { s with boot := { s.boot with shipArmed := some (s.now + secTicks 60, req) } }.doneFirst r stOk [] .nothing
  else
    ((s.event F.SYS_EVENT_SHIP_REFUSED).post K.SHIP_REFUSED [byte why, byte req.code]).cmdFinish r resRefused stRefused
      [byte why]

/-- A CELL_NEW record with this CMD_ACCEPT sequence is there already (R324). -/
def State.cellNewKnown (s : State) (seq : Nat) : Bool :=
  (s.lgr.waiting ++ s.lgr.fwWait).any (fun x => x.prod == 0x06 && x.typ == 0x08 && natAt x.payload 0 5 == seq) ||
    s.retained.any fun x => match s.gather x.2.1 with
      | some slots => headCt (slots.headD []) % 0x2000 == 0x0608 && natAt (recPayload slots) 0 5 == seq
      | none => false

/-- The baseline is erased (R209). -/
def State.eraseBaseline (s : State) : State :=
  { s with vdt := { s.vdt with zbase := none, sweeps := [] } }.setReg R.VDT_ZBASE 0

/-- LIFE returns to OK (R204, R209). -/
def State.lifeOk (s : State) : State :=
  if s.field F.VDT_STATUS_LIFE = 0 then s else (s.setField F.VDT_STATUS_LIFE 0).postVerdict false 4

/-- A new cell is declared (R209, R219): a running test is abandoned, LIFE returns to OK, the baseline is erased. -/
def State.newCell (s : State) (seq : Nat) : State :=
  (((s.proofAbandon 3).post K.CELL_NEW (beBytes 5 seq ++ beBytes 2 s.ratedMah)).eraseBaseline).lifeOk

/-- CELL_NEW executed; a repeat that finds its record does nothing (R324). -/
def State.runCellNew (s : State) (r : Run) : State :=
  (if s.cellNewKnown r.1 then s else s.newCell r.1).cmdFinish r resDone stOk []

/-- A requested proof test, whose CMD_DONE comes with PROOF_START or PROOF_SKIP (R216, R324). -/
def State.runProof (s : State) (r : Run) : State :=
  { s.proofRequest with cmd := { s.cmd with awaiting := s.cmd.awaiting ++ [r] } }

/-! ## Register writes as commands (R319, R377) -/

/-- The LINK_TEST of a command finds no room, or no address to send under (R232, R256). -/
def State.linkTestRefused (s : State) : Bool := s.framesMode && s.link.txOn && s.ownAddr.isSome && !s.txRoom

/-- How a register write goes, by its trace: 0 done, 1 refused under R427, 2 not permitted under R89. -/
def State.writeOutcome (s : State) (req : Requester) (form a : Nat) (v : Word) : Nat :=
  let t := ((s.setFlag F.SYS_EVENT_BADWRITE false).setFlag F.CFG_STATUS_DENIED false).regWrite req form a v false
  if t.flag F.CFG_STATUS_DENIED then 2 else if t.flag F.SYS_EVENT_BADWRITE then 1 else 0

/-- A command register's write executed, its value legal (R319, R324). -/
def State.runControl (s : State) (r : Run) (req : Requester) (a : Nat) (v : Word) : State :=
  if a = R.SYS_SHIP then (if v = 1 then s.runShip r req else s.cmdFinish r resDone stOk [])
  else if a = R.CFG_WRITE then
    (if v = 1 || v = 3 then s.runImageWrite r req (v == 3) else s.cmdFinish r resDone stOk [])
  else if a = R.VDT_CTRL then (if bitOf v 0 then s.runProof r else s.cmdFinish r resDone stOk [])
  else if a = R.TET_CTRL && (bitOf v 0 || bitOf v 1) && s.linkTestRefused then
    (s.tetCtrl v).cmdFinish r resRefused stRefused []
  else if a = R.MKT_STALLTAG then (s.hostTag v).cmdFinish r resDone stOk []
  else (s.actReg req a v).cmdFinish r resDone stOk []

/-- The command registers that are written plainly (R319). -/
def plainCommands : List Nat := [R.CHG_CTRL, R.VDT_CTRL, R.TET_CTRL, R.MKT_CTRL, R.MKT_STALLTAG, R.LGR_CTRL]

/-- A keyed pair made by one command (R377, R428): a reset follows its CMD_DONE. -/
def State.runKeyed (s : State) (r : Run) (req : Requester) (a : Nat) (v : Word) : State :=
  if a = R.SYS_SHIP || a = R.CFG_WRITE then s.runControl r req a v
  else if keyedRegs.contains a then
    (if a = R.SYS_RESET && (v = 1 || v = 2) then s.doneFirst r stOk [] (if v = 1 then .warm 3 else .core 7)
     else (s.keyedAct a v).cmdFinish r resDone stOk [])
  else ((s.regWrite req 0 a v false).regWrite req 0 (a + 1) (~~~v) false).cmdFinish r resDone stOk []

/-- One half of a keyed pair written singly over a path (R428); `together` for both halves in one transaction. Answers the
completed pair, and whether the complement's byte is NACKed. -/
def State.keyHalf (s : State) (req : Requester) (a : Nat) (v : Word) (together : Bool) :
    State × Option (Nat × Word) × Bool :=
  if keyedRegs.contains a then (s.armKey req a v, none, false)
  else match s.key req with
    | none => (s, none, false)
    | some k =>
      if s.keyLate k then (s.loseKey req, none, false)
      else if k.addr + 1 = a && k.value = ~~~v && !together then (s.dropKey req, some (k.addr, k.value), false)
      else (s.loseKey req, none, true)

/-- REG_WRITE executed (R377): bound as a Port H write. -/
def State.runRegWrite (s : State) (r : Run) (req : Requester) (addr : Nat) (v : Word) (keyed : Bool) : State :=
  let a := addr % 16384
  let form := addr / 16384
  if keyed && form = 0 then s.runKeyed r req a v
  else if form = 0 && (keyedRegs.contains a || keyedRegs.contains (a - 1)) then
    let h := s.keyHalf req a v false
    match h.2.1 with
    | some (b, w) => h.1.runKeyed r req b w
    | none => h.1.cmdFinish r (if h.2.2 then resRefused else resDone) (if h.2.2 then stRefused else stOk) []
  else match s.writeOutcome req form a v with
    | 0 =>
      if form = 0 && plainCommands.contains a then s.runControl r req a v
      else (s.regWrite req form a v false).cmdFinish r resDone stOk []
    | 1 => (s.regWrite req form a v false).cmdFinish r resRefused stBadarg []
    | _ => (s.regWrite req form a v false).cmdFinish r resRefused stDenied []

/-! ## Execution (R321, R377) -/

/-- The body of WB_CMDRES in an answer. -/
def State.cmdResBytes (s : State) : List Byte := beBytes 2 (s.regN R.WB_CMDRES)

/-- WB_CALIBRATE executed through the policy core (R190, R377). -/
def State.runCalibrate (s : State) (r : Run) (ma : Nat) : State :=
  let s := (s.setReg R.WB_ARG0 (BitVec.ofNat 16 ma)).mbCalibrate .firmware
  s.cmdFinish r (if s.field F.WB_CMDRES_RESULT < 3 then resDone else resRefused) stOk s.cmdResBytes

/-- RESET executed: target 1 a warm reset, target 2 the Weighbridge's (R61, R191, R377). -/
def State.runReset (s : State) (r : Run) (target : Nat) : State :=
  if target = 1 then s.doneFirst r stOk [] (.warm 4)
  else ((s.setReg R.WB_ARG0 0x5742).mbWbMailboxReset .firmware).cmdFinish r resDone stOk []

/-- The lasting Bunilia commands by their codes (R377). -/
def State.runBunilia (s : State) (r : Run) : State :=
  let c := r.2.1
  let req := srcRequester c.src
  match c.code with
  | 0x11 => s.runRegWrite r req (natAt c.args 0 2) (BitVec.ofNat 16 (natAt c.args 2 2)) (natAt c.args 4 1 % 2 == 1)
  | 0x24 => s.runCalibrate r (natAt c.args 0 2)
  | 0x31 => s.runImageWrite r req (natAt c.args 0 1 % 2 == 1)
  | 0x42 => s.runFwWrite r
  | 0x43 => s.runActivate r (if natAt c.args 0 1 = 1 then .b else .a) (natAt c.args 1 1 % 2 == 1)
  | 0x50 => s.runReset r (natAt c.args 0 1)
  | 0x51 => if c.src = 3 then s.runShip r req else s.runShipArm r req
  | 0x52 => s.runCellNew r
  | 0x53 => s.runProof r
  | _ => s

/-- A command executed (R321). -/
def State.runCmd (s : State) (r : Run) : State :=
  if r.2.1.src = srcPortH then s.runControl r .portH r.2.1.code (BitVec.ofNat 16 (natAt r.2.1.args 0 2))
  else s.runBunilia r

/-! ## Acceptance (R320 to R322) -/

/-- Commands are taken: the policy core runs, or the fallback policy stands, nothing is left to re-execute, no image write is
under way, and no reset waits for its CMD_DONE. -/
def State.cmdReady (s : State) : Bool :=
  s.phase == .run && (s.boot.core || s.flag F.SYS_BOOT_FALLBACK) && !s.cmd.replayDue && s.cmd.writing.isNone && !s.actPending

/-- Sequences of CMD_ACCEPTs whose CMD_DONE is not accepted yet. -/
def State.undone (s : State) : List Nat :=
  (s.cmd.awaiting ++ s.cmd.shipping ++ s.cmd.writing.toList).map (fun r : Run => r.1) ++
    (s.svc.activation.map fun a : Activation => a.seq).toList ++
    s.lgr.waiting.filterMap fun x => if x.prod = 0x09 ∧ x.typ = 0x11 then some (natAt x.payload 0 5) else none

/-- The CMD_ACCEPT payload (R320). -/
def State.acceptPayload (s : State) (c : QueuedCmd) : List Byte :=
  let low := s.undone.foldl min s.lgr.nextSeq
  [byte c.src] ++ beBytes 2 c.code ++ beBytes 2 c.tag ++ beBytes 5 low ++ padTo 10 c.args

/-- The CMD_ACCEPT record of a command. -/
def State.acceptOf (s : State) (c : QueuedCmd) : Rec := ⟨2, 0x09, 0x10, s.acceptPayload c⟩

/-- A command accepted and executed; with both banks bad it is executed without a journal (R321, R331). -/
def State.acceptCmd (s : State) (c : QueuedCmd) (v : Verify) : State :=
  if s.ledgerDead then s.runCmd (0, c, false)
  else
    let seq := s.lgr.nextSeq
    let t := s.acceptRec (s.acceptOf c) v
    if t.ledgerDead then t.runCmd (0, c, false) else (t.refreshBack).runCmd (seq, c, false)

/-- The retained journal records of a class/type word: sequence and payload. -/
def State.journal (s : State) (typ : Nat) : List (Nat × List Byte) :=
  s.retained.filterMap fun x => match s.gather x.2.1 with
    | some slots => if headCt (slots.headD []) = classType 2 0x09 typ then some (x.1, recPayload slots) else none
    | none => none

/-- The record with the highest sequence. -/
def newestOf (l : List (Nat × List Byte)) : Option (Nat × List Byte) :=
  l.foldl (fun best x => match best with
    | none => some x
    | some b => if b.1 < x.1 then some x else some b) none

/-- The newest CMD_ACCEPT of a source (R322). -/
def State.newestAccept (s : State) (src : Nat) : Option (Nat × List Byte) :=
  newestOf ((s.journal 0x10).filter fun x => natAt x.2 0 1 == src)

/-- The result of a CMD_ACCEPT's CMD_DONE, accepted or on its way. -/
def State.resultOf (s : State) (seq : Nat) : Option Nat :=
  let w := s.lgr.waiting.filterMap fun x => if x.prod = 0x09 ∧ x.typ = 0x11 then some x.payload else none
  (((s.journal 0x11).map (·.2) ++ w).find? fun p => natAt p 0 5 == seq).map fun p => natAt p 5 1

/-- A command whose tag repeats its source's newest CMD_ACCEPT: that one's sequence (R322). -/
def State.repeated (s : State) (c : QueuedCmd) : Option Nat :=
  if c.tag = 0 || s.ledgerDead then none
  else match s.newestAccept c.src with
    | some (q, p) => if natAt p 3 2 = c.tag then some q else none
    | none => none

/-- The status a repeat is answered with (R322, R371). -/
def repeatStatus : Option Nat → Nat
  | none => stRunning
  | some 0 => stOk
  | some 1 => stRefused
  | some _ => stLost

/-- A refusal for a full queue is coalesced into the CMD_BUSY tally (R325). -/
def State.cmdBusy (s : State) : State := s.tally K.CMD_BUSY

/-- A lasting command arrives (R321, R322, R325): known by its tag, accepted and executed at once, queued, or refused for
want of a place. Answers the state and whether it was refused. -/
def State.command (s : State) (c : QueuedCmd) : State × Bool :=
  match s.repeated c with
  | some q => (match srcTransport c.src with
    | some t => s.answer t ⟨c.code, c.tag, c.gen2, repeatStatus (s.resultOf q), q, []⟩
    | none => s, false)
  | none =>
    if s.cmdReady && s.cmd.queue.isEmpty && (s.ledgerDead || (s.lgr.waiting.isEmpty && s.mayAccept (s.acceptOf c))) then
      (s.acceptCmd c .ok, false)
    else if s.cmd.queue.length < 8 then
      ({ s with cmd := { s.cmd with queue := s.cmd.queue ++ [c] } }, false)
    else (s.cmdBusy, true)

/-- The oldest queued command is accepted and executed (R321). -/
def State.acceptNext (s : State) (v : Verify) : State :=
  match s.cmd.queue with
  | [] => s
  | c :: l =>
    if s.cmdReady && (s.ledgerDead || s.mayAccept (s.acceptOf c)) then
      { s with cmd := { s.cmd with queue := l } }.acceptCmd c v
    else s

/-! ## Re-execution after a start (R323) -/

/-- The journalled commands to be executed again, in sequence order: from the low-water sequence of the newest CMD_ACCEPT
that keep entries 12 to 15 name, each without a CMD_DONE. -/
def State.toReplay (s : State) : List (Nat × List Byte) :=
  let kept := [12, 13, 14, 15].filterMap fun e => s.keptPayload e
  match newestOf (kept ++ s.journal 0x10) with
  | none => []
  | some (_, p) =>
    let low := natAt p 5 5
    ((s.journal 0x10).filter fun x => decide (low ≤ x.1) && (s.resultOf x.1).isNone).mergeSort fun a b => decide (a.1 ≤ b.1)

/-- The command a CMD_ACCEPT payload names. -/
def acceptCommand (p : List Byte) : QueuedCmd := ⟨natAt p 0 1, natAt p 1 2, natAt p 3 2, (p.drop 10).take 10, true⟩

/-- R323: each in turn, until one of them resets the unit or enters SHIP. -/
def State.replayCmds (s : State) : State :=
  let t := s.toReplay.foldl (fun (t : State) (x : Nat × List Byte) =>
    if t.phase == .run && !t.boot.secureDue && !t.actPending then t.runCmd (x.1, acceptCommand x.2, true) else t) s
  if t.phase == .run && !t.boot.secureDue && !t.actPending then { t with cmd := { t.cmd with replayDue := false } } else t

end Sys2Proof.Machine
end

