-- ==== Sys2Proof/Machine/HostPort.lean ====
section
/-!
DEFINITION. Register transactions on Port H (R71, R394 to R403, R417 to R420): the pointer, one word written or read in turn,
NACKs, packet error checking, and the same access by the policy firmware.
-/

namespace Sys2Proof.Machine

/-! ## Pointers (R396, R417, R420) -/

/-- The registers whose pointer does not advance (R417). -/
def windowRegs : List Nat := [R.VDT_NOTE, R.LGR_RDDATA, R.WB_RDDATA, R.OPT_ANSDATA, R.CFG_STGDATA]

/-- Access form and register address a pointer stands for: 0 plain, 1 set, 2 clear, 3 toggle (R416, R420). -/
def State.pointed (s : State) (compact : Bool) (ptr : Nat) : Nat × Nat :=
  if compact then (0, (s.regN R.PAGESEL % 32) * 256 + ptr % 128) else (ptr / 16384 % 4, ptr % 16384)

/-- The pointer after a register's two bytes (R417, R420). -/
def State.nextPtr (s : State) (compact : Bool) (ptr : Nat) : Nat :=
  if windowRegs.contains (s.pointed compact ptr).2 then ptr
  else if compact then ptr / 128 * 128 + (ptr + 1) % 128
  else ptr / 16384 * 16384 + (ptr + 1) % 16384

/-- A pointer stored for the next transaction of its kind (R396). -/
def State.storePtr (s : State) (compact : Bool) (ptr : Nat) : State :=
  if compact then { s with twb := { s.twb with compact := ptr } } else { s with twb := { s.twb with full := ptr } }

/-- The stored pointer of a kind. -/
def State.storedPtr (s : State) (compact : Bool) : Nat := if compact then s.twb.compact else s.twb.full

/-- The bytes of a pointer: two for FULL, one for COMPACT (R396). -/
def ptrBytes (compact : Bool) (ptr : Nat) : List Byte := beBytes (if compact then 1 else 2) ptr

/-! ## One word written (R325, R397, R427, R428, R436) -/

/-- An always-on write still completes and Port H does not stretch (R436). -/
def State.aonBusy (s : State) (a : Nat) : Bool := a / 256 == 0x0E && !s.stretches && s.ra.aonWrite.isSome

/-- A command write is held by clock stretching, for 2 ms at most (R325, R397). -/
def State.holdWrite (s : State) (a : Nat) (v : Word) : State :=
  { s with twb := { s.twb with held := some ⟨a, v, false, 0, [], false, false, false, s.now + msTicks 2⟩,
                               awakeDue := none } }

/-- A command register's write handed to the command queue; with the queue full it is held where Port H stretches, and its
byte is NACKed otherwise (R325, R397). -/
def State.hostCommand (s : State) (a : Nat) (v : Word) : State × Bool :=
  let r := s.command ⟨srcPortH, a, 0, beBytes 2 v.toNat, true⟩
  if !r.2 then (r.1, false)
  else if s.stretches then (s.holdWrite a v, false)
  else (r.1.busRefuse F.TWB_EVENT_BUSY_NACK, true)

/-- A keyed register's half over Port H; a completed pair acts, or becomes a command (R319, R428). -/
def State.hostKey (s : State) (a : Nat) (v : Word) (together : Bool) : State × Bool :=
  let h := s.keyHalf .portH a v together
  match h.2.1 with
  | none => (h.1, h.2.2)
  | some (b, w) =>
    if b = R.SYS_SHIP && w = 1 || b = R.CFG_WRITE && (w = 1 || w = 3) then h.1.hostCommand b w
    else (h.1.keyedAct b w, false)

/-- A command register written plainly over Port H: refused under R427, or handed to the command queue. -/
def State.hostControl (s : State) (form a : Nat) (v : Word) : State × Bool :=
  match s.info a with
  | none => (s, false)
  | some r =>
    if r.access = .wo && form ≠ 0 then (s, false)
    else
      let w := aliased form (s.shown true a) v
      if s.legal r w then s.hostCommand a w else (s.badWrite, false)

/-- One word written over Port H; answers whether a byte of it was NACKed, which leaves it without effect (R397). -/
def State.hostWord (s : State) (form a : Nat) (v : Word) (together : Bool) : State × Bool :=
  if !s.boot.applied then (s, true)
  else if s.aonBusy a then (s.busRefuse F.TWB_EVENT_BUSY_NACK, true)
  else if form = 0 && (keyedRegs.contains a || keyedRegs.contains (a - 1)) then s.hostKey a v together
  else if plainCommands.contains a then s.hostControl form a v
  else (s.regWrite .portH form a v (!s.stretches), false)

/-- A key that this transaction's first word may complete stays; any other is lost (R428). -/
def State.keyPassed (s : State) (req : Requester) (target : Option Nat) : State :=
  match s.key req with
  | some k => if target = some (k.addr + 1) then s else s.loseKey req
  | none => s

/-- A held write keeps the place it was written at and the words that follow it. -/
def State.heldRest (s : State) (compact : Bool) (ptr : Nat) (rest : List Word) : State :=
  { s with twb := { s.twb with held := s.twb.held.map fun h => { h with compact := compact, ptr := ptr, rest := rest } } }

/-- Words written from a pointer on, until one is NACKed or held: the state, the pointer, and whether one was NACKed. A reset on
the way abandons the rest; what follows a held word is kept with it. -/
def State.hostBurst (compact : Bool) : List Word → State → Nat → Bool → State × Nat × Bool
  | [], s, ptr, _ => (s, ptr, false)
  | v :: l, s, ptr, together =>
    let x := s.pointed compact ptr
    let r := s.hostWord x.1 x.2 v together
    if r.2 || (s.boot.applied && !r.1.boot.applied) then (r.1, ptr, r.2)
    else if r.1.twb.held.isSome then (r.1.heldRest compact ptr l, ptr, false)
    else State.hostBurst compact l r.1 (r.1.nextPtr compact ptr) (x.1 == 0 && keyedRegs.contains x.2)

/-- The end of a transaction: the pointer is stored, STOP, and the answer; after a reset on the way the ports stand as it
left them. -/
def State.hostEnd (s : State) (before : Bool) (compact : Bool) (ptr : Option Nat) (data : List Word) (nack : Bool) : State :=
  if before && !s.boot.applied then s.busAnswer data nack
  else
    let s := match ptr with | some p => s.storePtr compact p | none => s
    ((s.busStop).sumFall).busAnswer data nack

/-- The end of a write: a held one waits; else a lone high byte is PARTIAL, `excess` a byte too many, and the pointer is kept or
not. -/
def State.writeEnd (s : State) (before compact : Bool) (ptr : Nat) (nack half excess keepPtr : Bool) : State :=
  if s.twb.held.isSome then
    { s with twb := { s.twb with held := s.twb.held.map fun h => { h with half := half, excess := excess, keepPtr := keepPtr } } }
  else
    let t := if half && !nack && before then s.event F.TWB_EVENT_PARTIAL else s
    t.hostEnd before compact (if keepPtr then some ptr else none) [] (nack || excess)

/-- The held write goes on: the queue has a place again. -/
def State.heldResume (s : State) (h : HeldWrite) : State :=
  let t := { s with twb := { s.twb with held := none } }.hostCommand h.reg h.value
  if t.2 || !t.1.boot.applied then t.1.writeEnd true h.compact h.ptr t.2 h.half h.excess h.keepPtr
  else
    let r := State.hostBurst h.compact h.rest t.1 (t.1.nextPtr h.compact h.ptr) false
    r.1.writeEnd true h.compact r.2.1 r.2.2 h.half h.excess h.keepPtr

/-- The held write's last byte is NACKed: the queue is still full after 2 ms (R325). -/
def State.heldRefuse (s : State) (h : HeldWrite) : State :=
  ((({ s with twb := { s.twb with held := none } }).cmdBusy).busRefuse F.TWB_EVENT_BUSY_NACK).writeEnd true h.compact h.ptr true
    h.half h.excess h.keepPtr

/-- A held write goes on as the queue has a place, and is refused after 2 ms; without VAUX it is gone (R325, R392). -/
def State.heldStep (s : State) : State :=
  match s.twb.held with
  | none => s
  | some h =>
    if !s.portHPins then { s with twb := { s.twb with held := none } }
    else if s.cmd.queue.length < 8 then s.heldResume h
    else if h.due ≤ s.now then s.heldRefuse h
    else s

/-! ## Write transactions (R396, R403) -/

/-- Pairs of bytes as words; a byte left over is dropped. -/
def wordsOf : List Byte → List Word
  | a :: b :: l => BitVec.ofNat 16 (a.toNat * 256 + b.toNat) :: wordsOf l
  | _ => []

/-- The address a write's first word goes to in plain form, if it has one. -/
def State.firstTarget (s : State) (compact : Bool) (ptr : Nat) (bytes : List Byte) : Option Nat :=
  let x := s.pointed compact ptr
  if 2 ≤ bytes.length && x.1 = 0 then some x.2 else none

/-- Packet error checking is on (R403). -/
def State.pecOn (s : State) : Bool := s.boot.applied && bitOf s.twb.cfg 2

/-- TWB_CFG.PECW in force. -/
def State.pecWords (s : State) : Nat := fieldOf s.twb.cfg 8 5

/-- A write's data bytes without packet error checking (R396). -/
def State.hostPlain (s : State) (compact : Bool) (ptr : Nat) (bytes : List Byte) : State :=
  let before := s.boot.applied
  let r := State.hostBurst compact (wordsOf bytes) s ptr false
  r.1.writeEnd before compact r.2.1 r.2.2 (decide (bytes.length % 2 = 1)) (!before && !bytes.isEmpty) true

/-- A write's bytes under packet error checking: nothing is written before the PEC byte, and only if it is right (R403). -/
def State.hostPec (s : State) (addr : Nat) (compact : Bool) (ptr : Nat) (bytes : List Byte) : State :=
  let before := s.boot.applied
  let n := 2 * s.pecWords
  match bytes[n]? with
  | none => s.hostEnd before compact none [] false
  | some pec =>
    if pec.toNat = crc8 (byte (2 * addr) :: ptrBytes compact ptr ++ bytes.take n) then
      let r := State.hostBurst compact (wordsOf (bytes.take n)) s ptr false
      r.1.writeEnd before compact r.2.1 r.2.2 false (decide (n + 1 < bytes.length)) false
    else ((s.event F.TWB_EVENT_PEC_ERR).bump R.TWB_PECCNT 1).hostEnd before compact none [] true

/-- A write transaction on Port H: address, pointer, data bytes (R396, R398, R403). -/
def State.hostWrite (s : State) (addr ptr : Nat) (bytes : List Byte) : State :=
  match s.busStart addr with
  | (t, none) => t
  | (t, some compact) =>
    let p := if compact then ptr % 256 else ptr % 65536
    let t := t.keyPassed .portH (t.firstTarget compact p bytes)
    if t.pecOn then t.hostPec addr compact p bytes else t.hostPlain compact p bytes

/-! ## Read transactions (R396, R403, R421, R422) -/

/-- Words read from a pointer on: what they were, the state, the pointer. -/
def State.readBurst (compact : Bool) (late : Word) : Nat → State → Nat → List Word × State × Nat
  | 0, s, ptr => ([], s, ptr)
  | n + 1, s, ptr =>
    let x := s.pointed compact ptr
    let r := s.readWord .portH true x.1 x.2 late
    let q := State.readBurst compact late n r.2 (r.2.nextPtr compact ptr)
    (r.1 :: q.1, q.2)

/-- The bytes of words. -/
def wordBytes (l : List Word) : List Byte := l.flatMap fun w => beBytes 2 w.toNat

/-- What the unit sends under packet error checking: PECW registers, the PEC byte, then 0xFF (R403). -/
def pecAnswer (addr : Nat) (compact : Bool) (ptr : Option Nat) (n : Nat) (data : List Word) : List Word :=
  let head := match ptr with | some p => byte (2 * addr) :: ptrBytes compact p | none => []
  let pec := crc8 (head ++ [byte (2 * addr + 1)] ++ wordBytes data)
  (data ++ [BitVec.ofNat 16 (pec * 256 + 0xFF)] ++ List.replicate n 0xFFFF).take n

/-- A read transaction on Port H: the pointer given or stored, `n` words, and whether the host ended it after one more high
byte; `late` are the events that come between a capture and its low byte (R396, R403, R421, R422, R436). -/
def State.hostRead (s : State) (addr : Nat) (ptr : Option Nat) (n : Nat) (late : Word) : State :=
  match s.busStart addr with
  | (t, none) => t
  | (t, some compact) =>
    let before := t.boot.applied
    let t := t.keyPassed .portH none
    let p := match ptr with
      | some x => if compact then x % 256 else x % 65536
      | none => t.storedPtr compact
    if before && t.aonBusy (t.pointed compact p).2 then
      (t.busRefuse F.TWB_EVENT_BUSY_NACK).hostEnd before compact none [] true
    else
      let k := if t.pecOn then min n t.pecWords else n
      let r := State.readBurst compact late k t p
      let data := if t.pecOn && k < n then pecAnswer addr compact (ptr.map fun _ => p) n r.1 else r.1
      r.2.1.hostEnd before compact (some r.2.2) data false

/-! ## One register, by either path -/

/-- The pointer by which an address reaches a register in an access form: any under FULL; under COMPACT only the plain form
on the page PAGESEL names (R420). -/
def State.ptrFor (s : State) (compact : Bool) (form a : Nat) : Option Nat :=
  if !compact then some (form * 16384 + a)
  else if form = 0 && (a % 256 < 128 && (a / 256 == s.regN R.PAGESEL % 32 || a % 256 == 127)) then some (a % 256) else none

/-- The pointer for a transaction at this address; none where the address is not the unit's or cannot reach the register. -/
def State.reach (s : State) (addr form a : Nat) : Option Nat :=
  match s.pointerKind addr with
  | some compact => s.ptrFor compact form a
  | none => none

/-- A write by the policy firmware: it waits for completion (R436). -/
def State.firmwareWrite (s : State) (form a : Nat) (v : Word) : State :=
  if !s.boot.core then s
  else
    let s := s.keyPassed .firmware (if form = 0 then some a else none)
    if form = 0 && (keyedRegs.contains a || keyedRegs.contains (a - 1)) then
      let h := s.keyHalf .firmware a v false
      match h.2.1 with
      | none => h.1
      | some (b, w) =>
        if b = R.SYS_SHIP then (if w = 1 then h.1.shipRequest .firmware else h.1)
        else if b = R.CFG_WRITE then
          (if (w = 1 || w = 3) && h.1.boot.write.isNone then
            (if h.1.imageRefusal = 0 then h.1.imageBegin .firmware (w == 3) else h.1.imageRefused h.1.imageRefusal .firmware)
          else h.1)
        else h.1.keyedAct b w
    else (s.regWrite .firmware form a v false).sumFall

/-- One register written over a path. -/
def State.oneWrite (s : State) (via : Via) (form a : Nat) (v : Word) : State :=
  match via with
  | .firmware => s.firmwareWrite form a v
  | .portH addr => match s.reach addr form a with
    | some p => s.hostWrite addr p (beBytes 2 v.toNat)
    | none => s

/-- One register read over a path. -/
def State.oneRead (s : State) (via : Via) (form a n : Nat) (late : Word) : State :=
  match via with
  | .firmware =>
    if !s.boot.core then s
    else
      let r := (s.keyPassed .firmware none).readWord .firmware false form a late
      { r.2 with ra := { r.2.ra with readData := [r.1] } }.sumFall
  | .portH addr => match s.reach addr form a with
    | some p => s.hostRead addr (some p) n late
    | none => s

end Sys2Proof.Machine
end

