-- ==== Sys2Proof/Machine/SvcOps.lean ====
section
/-!
DEFINITION. Bunilia (R370 to R383): which commands a transport carries, sessions and access codes, the volatile commands, and
how a lasting one reaches the command queue.
-/

namespace Sys2Proof.Machine

/-! ## Frames and their service (R370 to R373, R383) -/

/-- A transport carries these bytes as a frame now: over the configured device function, the SBU UART of service mode, or as
the payload of an accepted optical frame (R366, R359, R386). -/
def State.carries (s : State) (t : Transport) (l : List Byte) : Bool :=
  s.phase == .run && (match t with
    | .usb => s.part == .qtl6410 && s.field F.USB_STATUS_STATE == 3 && !s.usb.haltOut
    | .uart => s.part == .qtl6410 && s.flag F.PD_STATUS_SVCMODE
    | .optical => s.flag F.OPT_CFG_EN && s.opt.frame == l)

/-- The frame of a command with this code and body (R370, R373). -/
def frameOf (b : Bun) (code : Nat) (args : List Byte) : List Byte := bunFrame b.gen2 code b.tag args

/-- A command frame comes in now. -/
def State.hears (s : State) (b : Bun) (code : Nat) (args : List Byte) : Bool :=
  s.carries b.transport (frameOf b code args)

/-- The optical frame that carried a command is used up; a frame over USB is bus activity (R368). -/
def State.frameTaken (s : State) (t : Transport) : State :=
  match t with
  | .optical => { s with opt := { s.opt with frame := [] } }
  | .usb => s.usbActive
  | .uart => s

/-- The codes of R377: lasting ones. -/
def lastingCodes : List Nat := [0x11, 0x24, 0x31, 0x42, 0x43, 0x50, 0x51, 0x52, 0x53]

/-- The codes of R377: volatile ones. -/
def volatileCodes : List Nat := [0x01, 0x02, 0x03, 0x10, 0x20, 0x21, 0x22, 0x23, 0x30, 0x40, 0x41]

/-- The codes the service handler in boot ROM serves (R383). -/
def bootRomCodes : List Nat := [0x01, 0x02, 0x03, 0x10, 0x20, 0x30, 0x31, 0x40, 0x41, 0x42, 0x43, 0x50]

/-- The boot ROM serves Bunilia: the fallback policy stands (R383). -/
def State.bootRom (s : State) : Bool := s.flag F.SYS_BOOT_FALLBACK

/-- Somebody serves commands: the policy core or the boot ROM. -/
def State.served (s : State) : Bool := s.boot.core || s.bootRom

/-- A queued Bunilia command's transport. -/
def QueuedCmd.transport (c : QueuedCmd) : Transport := (srcTransport c.src).getD .usb

/-- A Bunilia command's answer, without a CMD_ACCEPT. -/
def State.bunAnswer (s : State) (c : QueuedCmd) (status : Nat) (body : List Byte) : State :=
  s.answer c.transport ⟨c.code, c.tag, c.gen2, status, 0, body⟩

/-- A valid frame on the session's transport restarts its timeout (R376, R391). -/
def State.sessionSeen (s : State) (t : Transport) : State :=
  match s.svc.session with
  | some x =>
    if x.transport = t then
      { s with svc := { s.svc with session := some { x with due := s.now + secTicks (s.field F.SVC_CFG_TIMEOUT) } } }
    else s
  | none => s

/-! ## Sessions (R374, R375) -/

/-- The access code of an OPEN is right. -/
def State.codeRight (s : State) (code : Nat) : Bool :=
  s.group R.SVC_CODE_H 2 == 0 || s.group R.SVC_CODE_H 2 == code

/-- A session opens (R374). -/
def State.sessionOpen (s : State) (t : Transport) (gen2 : Bool) : State :=
  let s := { s with svc := { s.svc with session := some ⟨t, gen2, s.now + secTicks (s.field F.SVC_CFG_TIMEOUT)⟩ } }
  let s := ((s.setFlag F.SVC_STATUS_OPEN true).setField F.SVC_STATUS_TRANSPORT t.code).setFlag F.SVC_STATUS_GEN2 gen2
  (s.setOverlay F.SYS_STATE_SERVICE true).post K.SVC_OPEN [byte t.code, if gen2 then 2 else 1]

/-- A wrong access code: SVC_DENIED with the wrong codes of the last 10 min; the fifth locks every transport out for 10 min
(R374). -/
def State.wrongCode (s : State) (t : Transport) : State :=
  let l := (s.svc.wrong.filter fun x => decide (s.now < x + secTicks 600)) ++ [s.now]
  let s := { s with svc := { s.svc with wrong := l } }.post K.SVC_DENIED [byte t.code, byte l.length]
  if l.length < 5 then s
  else { s.setFlag F.SVC_STATUS_LOCKOUT true with svc := { s.svc with wrong := [], lockDue := s.timer (secTicks 600) } }

/-- The generations supported, a bit each as GET_INFO shows them (R367, R377): the boot ROM serves generation 2 only (R383).
DEDUCED: log entry 118. -/
def State.generations (s : State) : Byte := if s.bootRom then 2 else 3

/-- OPEN (R374, R377). -/
def State.serveOpen (s : State) (c : QueuedCmd) : State :=
  if s.svc.lockDue.isSome then s.bunAnswer c stDenied []
  else if s.codeRight (natAt c.args 0 4) then
    let t := if s.svc.session.isSome then s else s.sessionOpen c.transport c.gen2
    t.bunAnswer c stOk [t.generations]
  else (s.wrongCode c.transport).bunAnswer c stDenied []

/-! ## The volatile commands (R377 to R379) -/

/-- The IDENT body (R377). -/
def State.identAnswer (s : State) : List Byte :=
  beBytes 2 (s.shown false R.SYS_ID).toNat ++ beBytes 2 (s.shown false R.SYS_REV).toNat ++
    [byte (match s.boot.running with | some x => x.code | none => 0xFF)] ++
    beBytes 4 (slotVersion s.boot.slotA) ++ beBytes 4 (slotVersion s.boot.slotB) ++
    beBytes 4 (s.group R.WB_SEAL_H 2) ++ beBytes 4 (Config.calId s.wb.calib).toNat ++
    beBytes 8 Config.wbUid.toNat ++ beBytes 4 (s.group R.CFG_GEN_H 2)

/-- Registers read from an address on as a Port H read with a full pointer. -/
def State.regRead (s : State) (req : Requester) : Nat → Nat → List Word × State
  | 0, _ => ([], s)
  | n + 1, ptr =>
    let r := s.readWord req false (ptr / 16384) (ptr % 16384) 0
    let q := State.regRead r.2 req n (r.2.nextPtr false ptr)
    (r.1 :: q.1, q.2)

/-- REG_READ: 1 to 32 words, 16 on optical. -/
def State.serveRegRead (s : State) (c : QueuedCmd) : State :=
  let n := natAt c.args 2 1
  if n = 0 || decide ((if c.src = 3 then 16 else 32) < n) then s.bunAnswer c stBadarg []
  else
    let r := s.regRead (srcRequester c.src) n (natAt c.args 0 2)
    r.2.bunAnswer c stOk (wordBytes r.1)

/-- Ledger records from a sequence on (R378): BUSY before READY; each found one continues from the next above it. -/
def State.ledgerRead (s : State) (mode : Nat) : Nat → Nat → List Byte
  | 0, _ => []
  | n + 1, seq =>
    if !s.flag F.LGR_STATUS_READY then [1]
    else
      let r := s.readRec mode seq
      if r.1 = 2 && mode ≠ 0 then byte r.1 :: r.2 ++ s.ledgerRead mode n (natAt r.2 0 5 + 1)
      else byte r.1 :: r.2

/-- LGR_READ. -/
def State.serveLgrRead (s : State) (c : QueuedCmd) : State :=
  let mode := natAt c.args 5 1
  let n := natAt c.args 6 1
  if 2 < mode || n = 0 || 4 < n then s.bunAnswer c stBadarg []
  else s.bunAnswer c stOk (s.ledgerRead mode n (natAt c.args 0 5))

/-- STALL_READ, through the cache (R284, R378). -/
def State.serveStallRead (s : State) (c : QueuedCmd) : State :=
  let a := natAt c.args 0 1
  if 63 < a then s.bunAnswer c stBadarg [] else (s.stallLoad a).bunAnswer c stOk (s.stall a)

/-- WB_READ (R194, R377). -/
def State.serveWbRead (s : State) (c : QueuedCmd) : State :=
  let b := (s.wbLatest (natAt c.args 0 1)).getD []
  s.bunAnswer c stOk (byte b.length :: b)

/-- WB_SNAPSHOT: USB reaches the mailbox itself, the others through the policy core (R377). -/
def State.serveWbSnapshot (s : State) (c : QueuedCmd) : State :=
  let s := s.mailWrite fun s => s.mbSnapshot (if c.src = 1 then .usb else .firmware)
  s.bunAnswer c stOk s.cmdResBytes

/-- IMG_STAGE. -/
def State.serveImgStage (s : State) (c : QueuedCmd) : State :=
  let data := c.args.drop 2
  if data.isEmpty || decide (512 < data.length) || decide (65536 < natAt c.args 0 2 + data.length) then
    s.bunAnswer c stBadarg []
  else (s.stageBytes (natAt c.args 0 2) data).bunAnswer c stOk []

/-- FW_BEGIN (R379). -/
def State.serveFwBegin (s : State) (c : QueuedCmd) : State :=
  let total := natAt c.args 0 4
  if total % 4 ≠ 0 || decide (total < 512) || decide (524288 < total) then s.bunAnswer c stBadarg []
  else
    { s with svc := { s.svc with fwTotal := some total, fwPos := 0, chunks := [] } }.bunAnswer c stOk [byte s.fwTarget.code]

/-- FW_CHUNK (R379); without an update begun the unit's state refuses it. -/
def State.serveFwChunk (s : State) (c : QueuedCmd) : State :=
  match s.svc.fwTotal with
  | none =>
    let f := s.fresh
    f.2.bunAnswer c stRefused [byte f.1.toNat]
  | some total =>
    let o := natAt c.args 0 4
    let data := c.args.drop 4
    if o % 512 ≠ 0 || decide (o < s.svc.fwPos) || decide (s.svc.fwPos + 65536 ≤ o) ||
        !(decide (data.length = 512 ∧ o + 512 ≤ total) || decide (data.length < 512 ∧ o + data.length = total ∧ 0 < data.length)) then
      s.bunAnswer c stBadarg []
    else
      { s with svc := { s.svc with chunks := (s.svc.chunks.filter fun x : Nat × List Byte => x.1 != o) ++ [(o, data)] } }.bunAnswer c stOk []

/-- A volatile command served. -/
def State.serveVolatile (s : State) (c : QueuedCmd) : State :=
  match c.code with
  | 0x01 => s.serveOpen c
  | 0x02 => (s.svcClose closeByCmd).bunAnswer c stOk []
  | 0x03 => s.bunAnswer c stOk s.identAnswer
  | 0x10 => s.serveRegRead c
  | 0x20 => s.serveLgrRead c
  | 0x21 => s.serveStallRead c
  | 0x22 => s.serveWbRead c
  | 0x23 => s.serveWbSnapshot c
  | 0x30 => s.serveImgStage c
  | 0x40 => s.serveFwBegin c
  | 0x41 => s.serveFwChunk c
  | _ => s.bunAnswer c stUnknown []

/-! ## Permission (R371, R373, R375, R377, R383) -/

/-- A code that is not served: unlisted, of the wrong generation, or not among those of the boot ROM. -/
def State.codeUnknown (s : State) (c : QueuedCmd) : Bool :=
  !(lastingCodes ++ volatileCodes).contains c.code || (!c.gen2 && decide (0x2F < c.code)) ||
    (s.bootRom && !bootRomCodes.contains c.code)

/-- A code this transport does not carry (R377). -/
def State.notCarried (s : State) (c : QueuedCmd) : Bool :=
  c.src == 3 && ([0x20, 0x21, 0x22, 0x24, 0x30, 0x31, 0x40, 0x41, 0x42, 0x43].contains c.code ||
    ([0x11, 0x51, 0x52, 0x53].contains c.code && !s.flag F.OPT_CFG_WRITE_EN))

/-- The session lets a command through: 0; it is DENIED without one, and BUSY where another transport holds it (R375). -/
def State.sessionBar (s : State) (c : QueuedCmd) : Nat :=
  match s.svc.session with
  | none => if c.code = 0x01 || c.code = 0x03 then stOk else stDenied
  | some x => if x.transport = c.transport || c.code = 0x03 then stOk else stBusy

/-- Arguments of lasting commands that lie outside their range (R377). -/
def badArgs (c : QueuedCmd) : Bool :=
  (c.code == 0x43 && decide (1 < natAt c.args 0 1)) || (c.code == 0x50 && natAt c.args 0 1 != 1 && natAt c.args 0 1 != 2)

/-- The key of a Bunilia path is lost to any command but the write that completes it (R428). -/
def State.bunKey (s : State) (c : QueuedCmd) : State :=
  s.keyPassed (srcRequester c.src)
    (if c.code = 0x11 && natAt c.args 4 1 % 2 = 0 && natAt c.args 0 2 < 16384 then some (natAt c.args 0 2) else none)

/-- A command served, or answered with the reason why not. -/
def State.serve (s : State) (c : QueuedCmd) : State :=
  if s.bootRom && (c.src == 3 || s.part == .qtl6412) then s
  else if s.bootRom && !c.gen2 then s.bunAnswer c stBadframe []
  else if s.codeUnknown c then s.bunAnswer c stUnknown []
  else if s.sessionBar c ≠ stOk then s.bunAnswer c (s.sessionBar c) []
  else if s.notCarried c then s.bunAnswer c stDenied []
  else if badArgs c then s.bunAnswer c stBadarg []
  else
    let s := s.bunKey c
    if lastingCodes.contains c.code then
      let r := s.command c
      if r.2 then r.1.bunAnswer c stBusy [] else r.1
    else s.serveVolatile c

/-- A command that finds nobody to serve it waits in the command queue (R325, R383). -/
def State.bunWait (s : State) (c : QueuedCmd) : State :=
  if s.cmd.queue.length < 8 then { s with cmd := { s.cmd with queue := s.cmd.queue ++ [c] } }
  else (s.cmdBusy).bunAnswer c stBusy []

/-- A Bunilia command frame comes in (R370 to R376). -/
def State.bunilia (s : State) (b : Bun) (code : Nat) (args : List Byte) : State :=
  if s.hears b code args then
    let s := (s.frameTaken b.transport).sessionSeen b.transport
    let c : QueuedCmd := ⟨Transport.src b.transport, code, if b.gen2 then b.tag else 0, args, b.gen2⟩
    (if s.served then s.serve c else s.bunWait c).sumFall
  else s

/-- The oldest queued command is taken once somebody serves it: a volatile or waiting one is served, a lasting one that was
already let through is accepted (R321, R325). -/
def State.queueNext (s : State) (v : Verify) : State :=
  match s.cmd.queue with
  | [] => s
  | c :: l =>
    if c.src ≠ srcPortH && !lastingCodes.contains c.code then
      (if s.cmdReady then { s with cmd := { s.cmd with queue := l } }.serve c else s)
    else s.acceptNext v

end Sys2Proof.Machine
end

