-- ==== Sys2Proof/Machine/Commands.lean ====
section
/-!
DEFINITION. Commands: the command queue (R321 to R325) and Bunilia (R370 to R383).
-/

namespace Sys2Proof.Machine

/-! ## The command queue -/

/-- CMD_ACCEPT (R321): the oldest queued command is taken. -/
def execCmdAccept (v : Verify) (s : State) : Out := .next ((s.queueNext v).heldStep)

/-- CMD_REPLAY (R323): once the Ledger is READY, or both banks are bad. -/
def execCmdReplay (s : State) : Out :=
  .next (s.when (s.phase == .run && s.served && s.cmd.replayDue && (s.ledgerDead || s.flag F.LGR_STATUS_READY)) fun s =>
    s.replayCmds)

/-- CMD_BUSY (R325): over Port H the byte is NACKed, where it stretches once the write has been held for 2 ms; a Bunilia
command is answered BUSY. -/
def execCmdBusy (b : Option Bun) (code : Nat) (s : State) : Out :=
  .next (s.when (s.phase == .run && decide (8 ≤ s.cmd.queue.length)) fun s =>
    match b with
    | none => if s.stretches then s.heldStep else ((s.cmdBusy).busRefuse F.TWB_EVENT_BUSY_NACK).busAnswer [] true
    | some f => (s.cmdBusy).bunAnswer ⟨Transport.src f.transport, code, if f.gen2 then f.tag else 0, [], f.gen2⟩ stBusy [])

/-! ## Sessions and volatile commands -/

/-- OPEN (R374). -/
def execOpenSession (b : Bun) (code : Nat) (s : State) : Out := .next (s.bunilia b 0x01 (beBytes 4 code))

/-- CLOSE (R376). -/
def execCloseSession (b : Bun) (s : State) : Out := .next (s.bunilia b 0x02 [])

/-- IDENT (R377). -/
def execBuniliaIdent (b : Bun) (s : State) : Out := .next (s.bunilia b 0x03 [])

/-- REG_READ (R377). -/
def execRegRead (b : Bun) (addr n : Nat) (s : State) : Out := .next (s.bunilia b 0x10 (beBytes 2 addr ++ [byte n]))

/-- LGR_READ (R378). -/
def execLgrRead (b : Bun) (seq mode n : Nat) (s : State) : Out :=
  .next (s.bunilia b 0x20 (beBytes 5 seq ++ [byte mode, byte n]))

/-- STALL_READ (R378). -/
def execStallRead (b : Bun) (addr : Nat) (s : State) : Out := .next (s.bunilia b 0x21 [byte addr])

/-- WB_READ (R377). -/
def execWbRead (b : Bun) (typ : Nat) (s : State) : Out := .next (s.bunilia b 0x22 [byte typ])

/-- WB_SNAPSHOT (R377). -/
def execWbSnapshot (b : Bun) (s : State) : Out := .next (s.bunilia b 0x23 [])

/-- IMG_STAGE (R377). -/
def execImgStage (b : Bun) (offset : Nat) (data : List Byte) (s : State) : Out :=
  .next (s.bunilia b 0x30 (beBytes 2 offset ++ data))

/-- FW_BEGIN (R379). -/
def execFwBegin (b : Bun) (total : Nat) (s : State) : Out := .next (s.bunilia b 0x40 (beBytes 4 total))

/-- FW_CHUNK (R379). -/
def execFwChunk (b : Bun) (offset : Nat) (data : List Byte) (s : State) : Out :=
  .next (s.bunilia b 0x41 (beBytes 4 offset ++ data))

/-! ## Lasting commands -/

/-- REG_WRITE (R377). -/
def execRegWrite (b : Bun) (addr : Nat) (v : Word) (keyed : Bool) (s : State) : Out :=
  .next (s.bunilia b 0x11 (beBytes 2 addr ++ beBytes 2 v.toNat ++ [boolByte keyed]))

/-- WB_CALIBRATE (R377). -/
def execWbCalibrate (b : Bun) (ma : Nat) (s : State) : Out := .next (s.bunilia b 0x24 (beBytes 2 ma))

/-- IMG_WRITE (R377). -/
def execImgWrite (b : Bun) (resetAfter : Bool) (s : State) : Out := .next (s.bunilia b 0x31 [boolByte resetAfter])

/-- FW_WRITE (R380). -/
def execFwWrite (b : Bun) (s : State) : Out := .next (s.bunilia b 0x42 [])

/-- FW_ACTIVATE (R381). -/
def execFwActivate (b : Bun) (slot : Nat) (raiseFloor : Bool) (s : State) : Out :=
  .next (s.bunilia b 0x43 [byte slot, boolByte raiseFloor])

/-- FW_ACTIVATE_RESUME (R381). -/
def execFwActivateResume (s : State) : Out :=
  .next (s.when (s.phase == .run && s.served && !s.flag F.SYS_STATE_PROOF && !s.flag F.SYS_STATE_ALARM) fun s =>
    match s.svc.activation with
    | some a => s.activate a.run a.slot a.raise
    | none => s)

/-- RESET (R61, R191, R377). -/
def execBuniliaReset (b : Bun) (target : Nat) (s : State) : Out := .next (s.bunilia b 0x50 [byte target])

/-- SHIP (R27, R28). -/
def execBuniliaShip (b : Bun) (s : State) : Out := .next (s.bunilia b 0x51 [])

/-- CELL_NEW (R209, R324). -/
def execCellNew (b : Bun) (s : State) : Out := .next (s.bunilia b 0x52 [])

/-- PROOF_REQ (R216, R377). -/
def execProofReq (b : Bun) (s : State) : Out := .next (s.bunilia b 0x53 [])

/-! ## Frames that are no command, and what time does to a session and a slot -/

/-- BUNILIA_UNKNOWN (R377). -/
def execBuniliaUnknown (b : Bun) (code : Nat) (s : State) : Out :=
  .next (s.when (!(lastingCodes ++ volatileCodes).contains code) fun s => s.bunilia b code [])

/-- What a bad frame's answer echoes: the code and the tag where they were read; an unread one is free (R370, R371). -/
def State.badEcho (s : State) (t : Transport) (l : List Byte) : QueuedCmd × State :=
  let gen2 := byteAt l 1 == 2
  let (v, s) := s.fresh
  let (w, s) := s.fresh
  (⟨Transport.src t, if 5 ≤ l.length then (byteAt l 4).toNat else v.toNat % 256,
    if !gen2 then 0 else if 7 ≤ l.length then natAt l 5 2 else w.toNat, [], gen2⟩, s)

/-- BUNILIA_BADFRAME (R371): a frame whose SOF and GEN were read and whose CRC, length or generation is wrong; the session's
timeout goes on. -/
def execBuniliaBadframe (t : Transport) (l : List Byte) (s : State) : Out :=
  .next (s.when (s.carries t l && s.served && bunBegun l && !bunRight l) fun s =>
    let s := s.frameTaken t
    if s.bootRom && (t == .optical || s.part == .qtl6412) then s
    else
      let (c, s) := s.badEcho t l
      s.bunAnswer c stBadframe [])

/-- SESSION_TIMEOUT (R376). -/
def execSessionTimeout (s : State) : Out :=
  .next (s.when (s.live && s.elapsed (s.svc.session.map fun x : Session => x.due)) fun s => s.svcClose closeTimeout)

/-- The floor raised to a slot's version and stored in metadata slot 68, whose verifies go as `v` says; it is never lowered
(R302, R382). -/
def State.floorRaise (s : State) (x : AB) (v : Verify) : State :=
  let old := s.storedFloor
  let new := max old (slotVersion (s.slotBytes x))
  let s := (s.storeBoot s.storedActive new).verified v 2 fun _ => 68
  { s.post K.FLOOR_RAISE (beBytes 4 old ++ beBytes 4 new) with
    svc := { s.svc with floorFrom := none } }

/-- FLOOR_RAISE (R382): the activated slot has run for 1 h. -/
def execFloorRaise (v : Verify) (s : State) : Out :=
  .next (s.whenLive fun s =>
    match s.svc.floorFrom with
    | some (x, t) =>
      if s.boot.core && s.boot.running = some x && decide (t + secTicks 3600 ≤ s.now) then s.floorRaise x v else s
    | none => s)

end Sys2Proof.Machine
end

