-- ==== Sys2Proof/Machine/Conv.lean ====
section
/-!
DEFINITION. The converters' commands (R131 to R153). Voltages are operands in mV, currents in mA.
-/

namespace Sys2Proof.Machine

/-- VAUX_UNDERVOLTAGE (R34, R145): VAUX has been below 90 % of its setting for 50 µs. -/
def execVauxUndervoltage (vaux : Nat) (s : State) : Out :=
  .next (s.when (s.live && decide (10 * vaux < 9 * s.vauxSet)) State.vauxLow)

/-- NRSTO_RELEASE (R34, R145): 10 ms after VAUX has returned within its setting. DESIGN CHOICE (log entry 99): VAUX counts as back
within its setting from 90 % of it on, where its undervoltage ends, whatever it reads above. -/
def execNrstoRelease (vaux : Nat) (s : State) : Out :=
  .next (s.when (s.live && !s.pins.nrsto && s.nrstFree && decide (9 * s.vauxSet ≤ 10 * vaux)) State.nrstRelease)

/-- MAIN_REGION_CHANGE (R132). -/
def execMainRegionChange (vmux : Nat) (s : State) : Out :=
  .next (s.when (s.live && s.flag F.CONV_STATUS_MAIN_ON) fun s =>
    (s.setVmux vmux).setField F.CONV_STATUS_MAIN_REGION
      (mainRegion (s.field F.CONV_STATUS_MAIN_REGION) vmux s.vsysTarget))

/-- TET_MODE_CHANGE (R137, R141): one move toward the mode that R137 selects. -/
def execTetModeChange (s : State) : Out := .next (s.whenLive State.tetMove)

/-- The Tether converter sources. -/
def State.sourcing (s : State) : Bool := s.field F.CONV_STATUS_TET_MODE == 3

/-- TET_SOURCE_FOLDBACK (R140). -/
def execTetSourceFoldback (vtet : Nat) (s : State) : Out :=
  .next (s.when (s.live && s.sourcing && decide (vtet < 18000)) fun s =>
    let s := (s.setVolt .tether vtet).event F.CONV_EVENT_TET_FOLD
    { s with conv := { s.conv with folded := true } }.tetHold)

/-- TET_SHORT (R140): `ma` is the source current. -/
def execTetShort (vtet ma : Nat) (s : State) : Out :=
  .next (s.when (s.live && s.sourcing && decide (vtet < 12000)) fun s =>
    let again := s.sameFault s.conv.shortTry 10
    let s := (s.setVolt .tether vtet).event F.CONV_EVENT_TET_SHORT
    let s := if again then s.coalesce K.TET_SHORT
      else s.post K.TET_SHORT (beBytes 2 (volt20 vtet) ++ beSigned 2 (ma / 10 : Nat))
    ({ s with conv := { s.conv with shortRetry := s.timer (secTicks 1) } }).tetMove)

/-- TET_SOURCE_RETRY (R140). -/
def execTetSourceRetry (s : State) : Out :=
  .next (s.when (s.live && s.elapsed s.conv.shortRetry) fun s =>
    { s with conv := { s.conv with shortRetry := none, shortTry := some s.now } }.tetMove)

/-- HSW_OCP (R144): the limit of HSW has acted for 1 ms; `ma` is its current. -/
def execHswOcp (vhorn ma : Nat) (s : State) : Out :=
  .next (s.when (s.live && s.flag F.ALM_STATUS_HSW) fun s =>
    let s := if s.conv.hswOcp then s.coalesce K.HSW_OCP
      else ({ s with conv := { s.conv with hswOcp := true } }.event F.CONV_EVENT_HSW_OCP).post K.HSW_OCP
        (beBytes 2 (volt20 vhorn) ++ beSigned 2 (ma / 10 : Nat))
    { s with alm := { s.alm with hswOpenDue := s.timer (msTicks 100) } }.refreshHsw)

/-- HSW_RECLOSE (R144): HSW closes again while its closing condition holds. -/
def execHswReclose (s : State) : Out :=
  .next (s.when (s.live && s.elapsed s.alm.hswOpenDue) fun s =>
    { s with alm := { s.alm with hswOpenDue := none } }.refreshHsw)

/-- AUX_SHORT (R145): VAUX has been below 50 % of its setting for 1 ms, and the buck stops. -/
def execAuxShort (vaux : Nat) (s : State) : Out :=
  .next (s.when (s.live && s.conv.auxRetry.isNone && !s.conv.auxOff && decide (2 * vaux < s.vauxSet)) fun s =>
    let again := s.sameFault s.conv.auxTry 1
    let s := (s.vauxLow).event F.CONV_EVENT_AUX_SHORT
    let s := if again then s.coalesce K.AUX_FAULT
      else s.post K.AUX_FAULT (beBytes 2 (volt20 vaux) ++ [byte (s.field F.CONV_AUX_VSEL)])
    { s with conv := { s.conv with auxRetry := s.timer (msTicks 100) } })

/-- AUX_RESTART (R145). -/
def execAuxRestart (s : State) : Out :=
  .next (s.when (s.live && s.elapsed s.conv.auxRetry) fun s =>
    { s with conv := { s.conv with auxRetry := none, auxTry := some s.now } })

/-- VAUX_OFF (R145): VAUX is off below 2.6 V at VSYS and on again from 2.8 V. -/
def execVauxOff (vsys : Nat) (s : State) : Out :=
  .next (s.whenLive fun s =>
    if vsys < 2600 then
      let s := (s.vauxLow).setReg R.PATH_VSYS (word16 (vsys / 20))
      { s with conv := { s.conv with auxOff := true } }
    else if 2800 ≤ vsys then
      { s.setReg R.PATH_VSYS (word16 (vsys / 20)) with conv := { s.conv with auxOff := false } }
    else s)

/-- KEEP_LATCH_CLEAR (R147): BAT below 1.8 V; KEEP is off until an image application sets it, whatever is written meanwhile. -/
def execKeepLatchClear (bat : Nat) (s : State) : Out :=
  .next (s.when (decide (bat < 1800)) fun s =>
    let on := s.flag F.CONV_KEEP_EN
    let s := { s with chg := { s.chg with bat := bat }, conv := { s.conv with keepOff := true, keepMv := 0 } }.setReg
      R.CONV_KEEP 0
    if s.live then
      (if on then s.event F.CONV_EVENT_KEEP_UV else s).refreshBatfet
    else s)

/-- VSYS_LADDER (R150): below 3.0 V sourcing stops and the horn folds back; above it both may return. -/
def execVsysLadder (vsys : Nat) (s : State) : Out :=
  .next (s.whenLive fun s =>
    (s.setReg R.PATH_VSYS (word16 (vsys / 20))).ladder (decide (vsys < 3000)))

end Sys2Proof.Machine
end

