-- ==== Sys2Proof/Machine/Heat.lean ====
section
/-!
DEFINITION. Commands of the die sensors: readings, throttling, thermal shutdown and restart (R457 to R463).
-/

namespace Sys2Proof.Machine

/-! ## Sensors (R457 to R459) -/

/-- The two neighbours of a sensor in the ring DS0–DS3–DS4–DS5–DS6–DS2–DS1–DS0 (R457). -/
def neighbours (i : Nat) : List Nat :=
  match i with
  | 0 => [1, 3] | 1 => [2, 0] | 2 => [6, 1] | 3 => [0, 4] | 4 => [3, 5] | 5 => [4, 6] | _ => [5, 2]

/-- A sensor has been found broken. -/
def State.dsBroken (s : State) (i : Nat) : Bool := bitOf (s.reg R.THM_STATUS) (4 + i)

/-- A sensor of the list. -/
def State.sensor (s : State) (i : Nat) : Sensor := s.thm.sensors.getD i ⟨none, 0, none⟩

/-- A sensor's own reading, while it is valid. -/
def State.dsValid (s : State) (i : Nat) : Option Int := if s.dsBroken i then none else (s.sensor i).reading

/-- The highest of some readings. -/
def hottest (l : List (Option Int)) : Option Int :=
  l.foldl (fun m x => match m, x with | none, y => y | y, none => y | some a, some b => some (max a b)) none

/-- The effective reading of a sensor in 0.25 °C (R459). -/
def State.dsEff (s : State) (i : Nat) : Option Int :=
  match s.dsValid i with
  | some x => some x
  | none =>
    ((hottest ((neighbours i).map s.dsValid)).or (hottest ((List.range 7).map s.dsValid))).map (· + 40)

/-- Valid sensors. -/
def State.dsCount (s : State) : Nat := ((List.range 7).filter fun i => (s.dsValid i).isSome).length

/-- The highest effective reading Tm, and the first sensor that gives it. -/
def State.thmTm (s : State) : Option (Int × Nat) :=
  (List.range 7).foldl (fun (m : Option (Int × Nat)) i =>
    match m, s.dsEff i with
    | none, some x => some (x, i)
    | some a, some x => if a.1 < x then some (x, i) else some a
    | _, none => m) none

/-- A sensor differs by more than 10 °C from both neighbours (R458). -/
def State.dsOdd (s : State) (i : Nat) : Bool :=
  match s.dsValid i with
  | none => false
  | some x => (neighbours i).all fun j => match s.dsValid j with
    | some y => decide (40 < |x - y|)
    | none => false

/-- A reading as its register shows it (R467). -/
def dsWord (x : Option Int) : Word := match x with | some y => ofSigned16 y | none => 0x8000

/-- The counts of the seven sensors, none out of band (R457, R458). -/
def State.takeCounts (s : State) (l : List (Option Int)) : State :=
  let one := fun i => let d := s.sensor i
    let r := (l.getD i none)
    { d with reading := r, badCount := if r.isNone then d.badCount + 1 else 0 }
  let s := { s with thm := { s.thm with sensors := (List.range 7).map one } }
  s.setRegs R.THM_DS0 ((List.range 7).map fun i => dsWord (s.sensor i).reading)

/-- Since when each sensor has differed from both neighbours on a quiet die. -/
def State.markOdd (s : State) (quiet : Bool) : State :=
  let one := fun i => let d := s.sensor i
    { d with oddFrom := if quiet && s.dsOdd i then d.oddFrom.or (some s.now) else none }
  { s with thm := { s.thm with sensors := (List.range 7).map one } }

/-- A sensor found broken (R458): cause 1 band, 2 neighbours. -/
def State.dsBreak (s : State) (i : Nat) : State :=
  let d := s.sensor i
  let cause := if 2 ≤ d.badCount then 1 else if s.elapsed (d.oddFrom.map (· + secTicks 10)) then 2 else 0
  if cause = 0 || s.dsBroken i then s
  else
    let s := s.setFlag ⟨R.THM_STATUS, 4 + i⟩ true
    (s.event F.THM_EVENT_BROKEN).post K.THM_SENSOR ([byte i, byte cause] ++ beBytes 2 (dsWord d.reading).toNat)

/-! ## The throttle factor (R461) -/

/-- The factor in percent that the readings call for. -/
def State.factorTarget (s : State) : Nat :=
  if s.dsCount < 4 then 0
  else match s.thmTm with
    | none => 0
    | some (tm, _) =>
      let d := (tm - 4 * (s.field F.THM_CFG_TTHR : Int)).toNat
      100 - ceilDiv (s.field F.THM_CFG_SLOPE * d) 4

/-- The band of a factor. -/
def bandOf (f : Nat) : Nat := if 100 ≤ f then 0 else if 50 ≤ f then 1 else if 0 < f then 2 else 3

/-- THM_STATUS.BAND takes a value, with its events and counts (R461). -/
def State.setBand (s : State) (b : Nat) : State :=
  let old := s.field F.THM_STATUS_BAND
  if b = old then s
  else
    let s := (s.setField F.THM_STATUS_BAND b).event (if old < b then F.THM_EVENT_BAND_UP else F.THM_EVENT_BAND_DOWN)
    let s := if old = 0 then s.bump R.THM_THRCNT 1 else s
    s.tally K.THM_BAND

/-- The factor takes a value: its band, the charge current, and sourcing that is reduced (R148, R461). -/
def State.setFactor (s : State) (f : Nat) : State :=
  let s := s.setField F.THM_FACTOR_F f
  let s := if s.flag F.THM_STATUS_COOLING then s else s.setBand (bandOf f)
  let s := ((s.refreshReduced).refreshIbat).refreshBatfet
  ((s.tetHold).refreshShed)

/-- Tm, its sensor and the peak follow the readings (R459, R463); `first` for the first reading since the cold start. -/
def State.showTm (s : State) (first : Bool) : State :=
  match s.thmTm with
  | none => s
  | some (tm, i) =>
    let s := (s.setReg R.THM_TM (ofSigned16 tm)).setField F.THM_FACTOR_SENSOR i
    let s := { s with thm := { s.thm with shutPeak := max s.thm.shutPeak tm } }
    if first || toSigned16 (s.reg R.THM_PEAK) < tm then s.setReg R.THM_PEAK (ofSigned16 tm) else s

/-! ## Shutdown (R462, R463) -/

/-- In a shutdown the horn boost and VAUX stop while DS2 is at 150 °C, and start again below 130 °C. -/
def State.railsFollow (s : State) : State :=
  match s.thm.shutFrom, s.dsEff 2 with
  | some _, some x =>
    if 600 ≤ x && !s.thm.railsOff then { (s.hornOff).vauxLow with thm := { s.thm with railsOff := true } }
    else if x < 520 && s.thm.railsOff then
      let s := { s with thm := { s.thm with railsOff := false } }
      if s.anyAlarm || s.flag F.ALM_STATUS_READY then s.hornStart else s
    else s
  | _, _ => s

/-- Since when every effective reading has been below the limit that ends the shutdown. -/
def State.coolFollow (s : State) : State :=
  let lim : Int := if s.flag F.THM_STATUS_HOLD110 then 440 else 520
  let cool := (List.range 7).all fun i => match s.dsEff i with | some x => decide (x < lim) | none => false
  { s with thm := { s.thm with coolFrom := if s.thm.shutFrom.isSome && cool then s.thm.coolFrom.or (some s.now) else none } }

/-- The die has been quiet for 60 s (R458). -/
def State.dieQuiet (s : State) : Bool := !s.flag F.CONV_STATUS_HORN_ON && decide (s.thm.loudAt + secTicks 60 ≤ s.now)

/-- THM_READING (R457 to R461): the seven counts in 0.25 °C, none out of band. -/
def execThmReading (l : List (Option Int)) (s : State) : Out :=
  .next (s.whenLive fun s =>
    let first := s.thm.sensors.all fun d : Sensor => d.reading.isNone
    let s := (s.takeCounts l).markOdd s.dieQuiet
    let s := (List.range 7).foldl (fun (t : State) (i : Nat) => t.dsBreak i) s
    let s := s.showTm first
    let f := s.field F.THM_FACTOR_F
    let s := s.setFactor (min f s.factorTarget)
    let s := if s.field F.THM_FACTOR_F < f then { s with thm := { s.thm with roseAt := s.now } } else s
    (s.railsFollow).coolFollow)

/-- THM_FACTOR_RISE (R461): 1 point at most in 100 ms. -/
def execThmFactorRise (s : State) : Out :=
  .next (s.when (s.live && decide (s.field F.THM_FACTOR_F < s.factorTarget) &&
      decide (s.thm.roseAt + msTicks 100 ≤ s.now)) fun s =>
    let s := s.setFactor (s.field F.THM_FACTOR_F + 1)
    { s with thm := { s.thm with roseAt := s.now } })

/-- The converters stop and the switches open, the sources staying qualified; the core is held in reset (R462). -/
def State.heatStop (s : State) : State :=
  let s := (s.setFlag F.THM_STATUS_COOLING true).setBand 4
  let s := ((s.openSwitch).noTarget).refreshPending
  let s := (s.setTetMode 0).powerChanged
  s.coreStop

/-- THM_SHUTDOWN (R462, R463): a sensor whose reading, in 0.25 °C, an immediate re-read has confirmed; of a broken one the
substituted reading counts. -/
def execThmShutdown (i : Nat) (own : Int) (s : State) : Out :=
  let reading := if s.dsBroken i then (s.dsEff i).getD own else own
  .next (s.when (s.live && s.thm.shutFrom.isNone && decide (600 ≤ reading)) fun s =>
    let l := (s.thm.shutdowns.filter fun t => decide (s.now < t + secTicks 3600)) ++ [s.now]
    let take := fun j => let d := s.sensor j
      if j = i && !s.dsBroken j then { d with reading := some reading } else d
    let s := { s with thm := { s.thm with sensors := (List.range 7).map take, shutdowns := l, shutFrom := some s.now,
                                          coolFrom := none, shutPeak := reading } }
    let s := (s.bump R.THM_SDCNT 1).setFlag F.THM_STATUS_HOLD110 (decide (3 ≤ l.length))
    let s := (s.event F.THM_EVENT_SHUTDOWN).post K.THM_SHUTDOWN
      ([byte i] ++ beBytes 2 (ofSigned16 reading).toNat ++ [byte (fit 8 l.length)])
    ((s.showTm false).heatStop).railsFollow)

/-- THM_RESTART (R462, R463): the effective readings have been below the limit for 1.000 s. -/
def execThmRestart (s : State) : Out :=
  .next (s.when (s.live && s.elapsed (s.thm.coolFrom.map (· + secTicks 1))) fun s =>
    match s.thm.shutFrom with
    | none => s
    | some t =>
      let s := (s.setFlag F.THM_STATUS_COOLING false).setFlag F.THM_STATUS_HOLD110 false
      let s := (s.event F.THM_EVENT_RESTART).post K.THM_RESTART
        (beBytes 4 ((s.now - t) / 32768) ++ beBytes 2 (ofSigned16 s.thm.shutPeak).toNat)
      let s := { s with thm := { s.thm with shutFrom := none, coolFrom := none, railsOff := false } }
      let s := ((s.setBand (bandOf (s.field F.THM_FACTOR_F))).reselect).powerChanged
      s.warmReset 6)

end Sys2Proof.Machine
end

