-- ==== Sys2Proof/Machine/HostRows.lean ====
section
/-!
DEFINITION. Commands: register accesses that have a row of their own, and the general ones (R416 to R428, R436 to R438).
-/

namespace Sys2Proof.Machine

/-- One register written over a path, while the unit is powered and out of SHIP. -/
def State.rowWrite (s : State) (via : Via) (form a : Nat) (v : Word) : State := s.whenLive fun s => s.oneWrite via form a v

/-- Words of one register read over a path. -/
def State.rowRead (s : State) (via : Via) (a n : Nat) (late : Word) : State :=
  s.whenLive fun s => s.oneRead via 0 a n late

/-- Registers written in turn from an address on: in one transaction over Port H, one after the other by the firmware. -/
def State.wordsWrite (s : State) (via : Via) (ptr : Nat) (data : List Word) (half : Option Byte) : State :=
  match via with
  | .portH addr => s.hostWrite addr ptr (wordBytes data ++ half.toList)
  | .firmware => data.zipIdx.foldl (fun (t : State) (p : Word × Nat) =>
      t.firmwareWrite (ptr / 16384 % 4) ((ptr + p.2) % 16384) p.1) s

/-! ## The general accesses -/

/-- REGISTER_WRITE (R396, R397, R424 to R427). -/
def execRegisterWrite (via : Via) (ptr : Nat) (data : List Word) (half : Option Byte) (s : State) : Out :=
  .next (s.whenLive fun s => s.wordsWrite via ptr data half)

/-- SET_ALIAS_WRITE (R424). -/
def execSetAliasWrite (via : Via) (a : Nat) (v : Word) (s : State) : Out := .next (s.rowWrite via 1 a v)

/-- CLEAR_ALIAS_WRITE (R424). -/
def execClearAliasWrite (via : Via) (a : Nat) (v : Word) (s : State) : Out := .next (s.rowWrite via 2 a v)

/-- TOGGLE_ALIAS_WRITE (R424). -/
def execToggleAliasWrite (via : Via) (a : Nat) (v : Word) (s : State) : Out := .next (s.rowWrite via 3 a v)

/-- RC_REGISTER_READ (R417, R421 to R425): words read from a pointer on, of these and of every other register. -/
def execRcRegisterRead (via : Via) (ptr : Option Nat) (n : Nat) (late : Word) (s : State) : Out :=
  .next (s.whenLive fun s =>
    match via with
    | .portH addr => s.hostRead addr ptr n late
    | .firmware => match ptr with
      | some p => s.oneRead .firmware (p / 16384 % 4) (p % 16384) n late
      | none => s)

/-- TWB_PEC_WRITE (R403). -/
def execTwbPecWrite (addr ptr : Nat) (data : List Word) (pec : Byte) (s : State) : Out :=
  .next (s.whenLive fun s => s.hostWrite addr ptr (wordBytes data ++ [pec]))

/-- GROUP_WRITE_HOLD_TIMEOUT (R425). -/
def execGroupWriteHoldTimeout (s : State) : Out :=
  .next (s.whenLive fun s =>
    { s with ra := { s.ra with holds := s.ra.holds.filter fun h : GroupHold => decide (s.now ≤ h.tick + 33) } })

/-- AON_WRITE_APPLY (R436). -/
def execAonWriteApply (s : State) : Out :=
  .next (s.when (s.live && s.elapsed (s.ra.aonWrite.map fun w : AonShadow => w.due)) State.aonApply)

/-- PAGESEL_WRITE (R420). -/
def execPageselWrite (via : Via) (v : Word) (s : State) : Out := .next (s.rowWrite via 0 R.PAGESEL v)

/-! ## Power (R49, R130, R146, R164, R169) -/

/-- ALM_CTRL_HUSH (R49). -/
def execAlmCtrlHush (via : Via) (s : State) : Out := .next (s.rowWrite via 0 R.ALM_CTRL 1)

/-- SRC_EN_WRITE (R130). -/
def execSrcEnWrite (via : Via) (v : Word) (s : State) : Out := .next (s.rowWrite via 0 R.SRC_EN v)

/-- SRC_RANK_WRITE (R130). -/
def execSrcRankWrite (via : Via) (v : Word) (s : State) : Out := .next (s.rowWrite via 0 R.SRC_RANK v)

/-- CONV_AUX_WRITE (R146). -/
def execConvAuxWrite (via : Via) (v : Word) (s : State) : Out := .next (s.rowWrite via 0 R.CONV_AUX v)

/-- CHG_CLRFAULT (R169). -/
def execChgClrfault (via : Via) (s : State) : Out := .next (s.rowWrite via 0 R.CHG_CTRL 1)

/-- CHG_FULL_REQUEST (R164). -/
def execChgFullRequest (via : Via) (s : State) : Out := .next (s.rowWrite via 0 R.CHG_CTRL 2)

/-! ## The Weighbridge, verdicts, the Tether, the market (R194, R213, R216, R247, R252, R256, R285, R287) -/

/-- WB_RDSEL_WRITE (R194). -/
def execWbRdselWrite (via : Via) (v : Word) (s : State) : Out := .next (s.rowWrite via 0 R.WB_RDSEL v)

/-- WB_RDDATA_READ (R194). -/
def execWbRddataRead (via : Via) (n : Nat) (s : State) : Out := .next (s.rowRead via R.WB_RDDATA n 0)

/-- VDT_NOTE_READ (R213). -/
def execVdtNoteRead (via : Via) (n : Nat) (s : State) : Out := .next (s.rowRead via R.VDT_NOTE n 0)

/-- PROOFREQ (R216). -/
def execProofreq (via : Via) (s : State) : Out := .next (s.rowWrite via 0 R.VDT_CTRL 1)

/-- CENSUS (R247). -/
def execCensus (via : Via) (s : State) : Out := .next (s.rowWrite via 0 R.TET_CTRL 1)

/-- LINKTEST (R256). -/
def execLinktest (via : Via) (s : State) : Out := .next (s.rowWrite via 0 R.TET_CTRL 2)

/-- READDR (R252). -/
def execReaddr (via : Via) (s : State) : Out := .next (s.rowWrite via 0 R.TET_CTRL 4)

/-- MKT_CFG_WRITE (R287). -/
def execMktCfgWrite (via : Via) (v : Word) (s : State) : Out := .next (s.rowWrite via 0 R.MKT_CFG v)

/-- MKT_STALLSEL_WRITE (R285). -/
def execMktStallselWrite (via : Via) (v : Word) (s : State) : Out := .next (s.rowWrite via 0 R.MKT_STALLSEL v)

/-- MKT_STALLTAG_WRITE (R283, R285). -/
def execMktStalltagWrite (via : Via) (v : Word) (s : State) : Out := .next (s.rowWrite via 0 R.MKT_STALLTAG v)

/-- CLRCNT (R285). -/
def execClrcnt (via : Via) (s : State) : Out := .next (s.rowWrite via 0 R.MKT_CTRL 1)

/-! ## The Ledger (R299, R311, R312) -/

/-- FLUSH (R299). -/
def execFlush (via : Via) (s : State) : Out := .next (s.rowWrite via 0 R.LGR_CTRL 1)

/-- LGR_READ_EXACT (R311). -/
def execLgrReadExact (via : Via) (s : State) : Out := .next (s.rowWrite via 0 R.LGR_RDCTRL 0)

/-- LGR_READ_NEXT (R311). -/
def execLgrReadNext (via : Via) (s : State) : Out := .next (s.rowWrite via 0 R.LGR_RDCTRL 1)

/-- LGR_READ_NEXTPIN (R311). -/
def execLgrReadNextpin (via : Via) (s : State) : Out := .next (s.rowWrite via 0 R.LGR_RDCTRL 2)

/-- LGR_RDDATA_READ (R311). -/
def execLgrRddataRead (via : Via) (n : Nat) (s : State) : Out := .next (s.rowRead via R.LGR_RDDATA n 0)

/-- LGR_HOST_POST (R312). -/
def execLgrHostPost (via : Via) (v : Word) (s : State) : Out := .next (s.rowWrite via 0 R.LGR_HPOST v)

/-! ## Ports and service (R340, R359, R361, R362, R376, R388) -/

/-- TAKE (R340): PD_CTRL.TAKE as the policy firmware writes it. -/
def execTake (on : Bool) (s : State) : Out := .next (s.rowWrite .firmware 0 R.PD_CTRL (if on then 1 else 0))

/-- PD_CTRL written with an acting bit, TAKE as it stands. -/
def State.portAct (s : State) (via : Via) (bit : Word) : State :=
  s.rowWrite via 0 R.PD_CTRL ((s.reg R.PD_CTRL &&& 1) ||| bit)

/-- RENEG (R362). -/
def execReneg (via : Via) (s : State) : Out := .next (s.portAct via 2)

/-- GETCAPS (R361). -/
def execGetcaps (via : Via) (s : State) : Out := .next (s.portAct via 4)

/-- EXITSVC (R359). -/
def execExitsvc (via : Via) (s : State) : Out := .next (s.portAct via 8)

/-- SVC_CTRL_CLOSE (R376). -/
def execSvcCtrlClose (via : Via) (s : State) : Out := .next (s.rowWrite via 0 R.SVC_CTRL 1)

/-- OPT_ANSDATA_READ (R388). -/
def execOptAnsdataRead (via : Via) (n : Nat) (s : State) : Out := .next (s.rowRead via R.OPT_ANSDATA n 0)

/-! ## The staging area (R491) -/

/-- CFG_STGADDR_WRITE (R491). -/
def execCfgStgaddrWrite (via : Via) (v : Word) (s : State) : Out := .next (s.rowWrite via 0 R.CFG_STGADDR v)

/-- CFG_STGDATA_ACCESS (R491): a word written, or words read. -/
def execCfgStgdataAccess (via : Via) (v : Option Word) (n : Nat) (s : State) : Out :=
  .next (match v with
    | some w => s.rowWrite via 0 R.CFG_STGDATA w
    | none => s.rowRead via R.CFG_STGDATA n 0)

/-! ## Snapshots, time and watchdogs (R437, R438, R448, R452 to R454) -/

/-- SNAP_TAKE (R437, R438): by the firmware also while a Port H transaction reads page 0x11. -/
def execSnapTake (via : Via) (reading : Bool) (s : State) : Out :=
  .next (s.whenLive fun s =>
    if via = .firmware && reading then (if s.boot.core then (s.loseKey .firmware).snapTake true else s)
    else s.oneWrite via 0 R.SNAP_CTRL 1)

/-- SNAP_UPDATE_AT_STOP (R438). -/
def execSnapUpdateAtStop (s : State) : Out := .next (s.whenLive State.snapShow)

/-- The pointer a path reaches a register by; the firmware has no pointer of its own. -/
def State.pathPtr (s : State) (via : Via) (a : Nat) : Option Nat :=
  match via with
  | .portH addr => s.reach addr 0 a
  | .firmware => some a

/-- CLK_TIMESET_WRITE (R425, R448): the three registers of the group in order. -/
def execClkTimesetWrite (via : Via) (hi mid lo : Word) (s : State) : Out :=
  .next (s.whenLive fun s =>
    match s.pathPtr via R.CLK_TIMESET2 with
    | some p => s.wordsWrite via p [hi, mid, lo] none
    | none => s)

/-- HWD_KICK (R452). -/
def execHwdKick (via : Via) (v : Word) (s : State) : Out := .next (s.rowWrite via 0 R.CLK_HWDKICK v)

/-- HWD_CONFIG_WRITE (R453). -/
def execHwdConfigWrite (via : Via) (v : Word) (s : State) : Out := .next (s.rowWrite via 0 R.CLK_HWDCFG v)

/-- PWD_KICK (R454). -/
def execPwdKick (v : Word) (s : State) : Out := .next (s.rowWrite .firmware 0 R.CLK_PWDKICK v)

end Sys2Proof.Machine
end

