-- ==== Sys2Proof/Machine/KeyRows.lean ====
section
/-!
DEFINITION. Commands: keyed registers (R428, R429), the running configuration check (R431 to R434), and the image write
(R93 to R95, R411).
-/

namespace Sys2Proof.Machine

/-- The second write of a keyed pair: the complement to the next address (R428). -/
def State.keySecond (s : State) (via : Via) (a : Nat) (v : Word) : State :=
  s.whenLive fun s => s.oneWrite via 0 (a + 1) (~~~v)

/-- KEY_ARM (R428): the first write of a pair. -/
def execKeyArm (via : Via) (a : Nat) (v : Word) (s : State) : Out :=
  .next (s.when (s.live && keyedRegs.contains a) fun s => s.oneWrite via 0 a v)

/-- KEY_TIMEOUT (R428). -/
def execKeyTimeout (s : State) : Out :=
  .next (s.whenLive fun s =>
    ((s.ra.keys.filter s.keyLate).map ArmedKey.req).foldl (fun (t : State) (q : Requester) => t.loseKey q) s)

/-- SYS_RESET_WARM (R62). -/
def execSysResetWarm (via : Via) (s : State) : Out := .next (s.keySecond via R.SYS_RESET 1)

/-- SYS_RESET_CORE (R62). -/
def execSysResetCore (via : Via) (s : State) : Out := .next (s.keySecond via R.SYS_RESET 2)

/-- RESET_REFUSED (R62). -/
def execResetRefused (via : Via) (v : Word) (s : State) : Out := .next (s.keySecond via R.SYS_RESET v)

/-- SYS_SHIP (R27). -/
def execSysShip (via : Via) (s : State) : Out := .next (s.keySecond via R.SYS_SHIP 1)

/-- CFG_COMMIT (R433). -/
def execCfgCommit (via : Via) (s : State) : Out := .next (s.keySecond via R.CFG_COMMIT 1)

/-- CFG_DISCARD (R433). -/
def execCfgDiscard (via : Via) (s : State) : Out := .next (s.keySecond via R.CFG_COMMIT 2)

/-- CFG_LOCK (R430). -/
def execCfgLock (via : Via) (s : State) : Out := .next (s.keySecond via R.CFG_LOCK 1)

/-- CFG_WRITE_START (R93). -/
def execCfgWriteStart (via : Via) (s : State) : Out := .next (s.keySecond via R.CFG_WRITE 1)

/-- CFG_WRITE_RESET (R93). -/
def execCfgWriteReset (via : Via) (s : State) : Out := .next (s.keySecond via R.CFG_WRITE 3)

/-- CFG_HOLD_EXPIRY (R433). -/
def execCfgHoldExpiry (s : State) : Out := .next (s.when (s.live && s.elapsed s.ra.holdDue) State.cfgRevert)

/-! ## The running check (R431, R432, R434) -/

/-- Register bits found disturbed: they are inverted in place. -/
def State.upset (s : State) (l : List (Nat × Word)) : State :=
  l.foldl (fun (t : State) (p : Nat × Word) => t.setReg p.1 (t.reg p.1 ^^^ p.2)) s

/-- A pass finds a mismatch (R432, R433). -/
def State.cfgMismatch (s : State) : Bool :=
  let ref := s.group R.CFG_REF_H 2
  if s.flag F.CFG_STATUS_PEND then
    s.cfgCrc s.ra.shadow != ref ||
      cfgRegs.any fun r => !s.ra.written.contains r.addr &&
        s.cfgValue s.reg r != s.cfgValue (regGet s.ra.shadow) r
  else s.cfgCrc s.regs != ref

/-- One pass, with its result shown; a mismatch, which the repeat finds too, is a SAFE cause. -/
def State.cfgCheck (s : State) : State :=
  let s := s.setGroup R.CFG_CRC_H 2 (s.cfgCrc s.regs)
  if s.ra.refSet && s.cfgMismatch then
    (s.cfgBit F.CFG_STATUS_MISMATCH F.CFG_EVENT_MISMATCH true).enterSafe F.SYS_SAFECAUSE_CFGCRC 4
  else s

/-- CFG_CHECK_PASS (R432, R434): `upsets` are configuration bits that a disturbance has inverted since the last pass. -/
def execCfgCheckPass (upsets : List (Nat × Word)) (s : State) : Out :=
  .next (s.whenLive fun s => (s.upset upsets).cfgCheck)

/-! ## The image write (R94, R411) -/

/-- The next page is sent; after the last one CFGWP is released. -/
def State.pageDone (s : State) (w : ImageWrite) : State :=
  let l := w.pages.drop 1
  { s with boot := { s.boot with write := some { w with pages := l, sentAt := s.now } },
           pins := { s.pins with cfgwp := s.pins.cfgwp || l.isEmpty } }

/-- EEPROM_PAGE_ACK (R411). -/
def execEepromPageAck (s : State) : Out :=
  .next (s.whenLive fun s =>
    match s.boot.write with
    | some w => if w.pages.isEmpty then s else s.pageDone w
    | none => s)

/-- EEPROM_PAGE_TIMEOUT (R411). -/
def execEepromPageTimeout (s : State) : Out :=
  .next (s.whenLive fun s =>
    match s.boot.write with
    | some w => if !w.pages.isEmpty && decide (w.sentAt + msTicks 10 ≤ s.now) then s.imageDone w 1 else s
    | none => s)

/-- IMAGE_WRITE_DONE (R94): the bytes read back, header and body. -/
def execImageWriteDone (back : List Byte) (s : State) : Out :=
  .next (s.whenLive fun s =>
    match s.boot.write with
    | some w =>
      if !w.pages.isEmpty then s
      else if (s.copyFault (back.take 32) (back.drop 32)).isNone then
        (s.setCopy w.target ⟨some (back.take 32), some true⟩).imageDone w 0
      else s.imageDone w 2
    | none => s)

end Sys2Proof.Machine
end

