-- ==== Sys2Proof/Machine/LedgerRows.lean ====
section
/-!
DEFINITION. The Ledger's commands (R288 to R314): replay, intake, commit, tally windows, the end of a read, the early
warning.
-/

namespace Sys2Proof.Machine

/-- LEDGER_REPLAY_COMPLETE (R308). -/
def execLedgerReplayComplete (s : State) : Out := .next (s.whenLive State.replayDone)

/-- LEDGER_RECORD_ACCEPT (R295): one turn of the intake, and how its verifies went; a command that waits for its CMD_DONE goes
on (R321). -/
def execLedgerRecordAccept (v : Verify) (s : State) : Out := .next (s.whenLive fun s => (s.intakeTurn v).finishDue)

/-- WB_RECORD_ACCEPTED (R193): the intake's turn is the Weighbridge's, and its queue's oldest record is accepted. -/
def execWbRecordAccepted (v : Verify) (s : State) : Out :=
  .next (s.whenLive fun s =>
    match s.nextRec with
    | some r => if r.prod = 0x05 then (s.intakeTurn v).finishDue else s
    | none => s)

/-- LEDGER_COMMIT (R301): the oldest spool record is committed, and how the verifies went. -/
def execLedgerCommit (v : Verify) (s : State) : Out := .next (s.whenLive fun s => (s.commitNext v).finishDue)

/-- TALLY_WINDOW_EXPIRY (R299): every accumulator whose window has ended closes if its record can be accepted. -/
def execTallyWindowExpiry (s : State) : Out :=
  .next (s.whenLive fun s =>
    (((s.lgr.accs ++ s.lgr.other.toList).filter fun a : Acc => decide (a.due ≤ s.now)).foldl State.tryClose s).refreshBack)

/-- LGR_READ_DONE (R311): a read set up completes once READY is set. -/
def execLgrReadDone (s : State) : Out :=
  .next (s.when (s.live && s.flag F.LGR_STATUS_READY) fun s =>
    match s.lgr.rdSetup with
    | none => s
    | some (mode, seq, lost) =>
      let (stat, bytes) := s.readRec mode seq
      let s := { s with lgr := { s.lgr with rdSetup := none, rdBuf := bytes, rdPos := 0 } }
      let s := s.setReg R.LGR_RDSTAT (BitVec.ofNat 16 (stat + if lost then 8 else 0))
      let s := (s.setReg R.LGR_RDLEN (BitVec.ofNat 16 bytes.length)).setFlag F.LGR_STATUS_RDBUSY false
      s.event F.LGR_EVENT_READ_DONE)

/-- SUPPLY_EARLY_WARNING (R310): no slot write and no commit begins from here on. Of the record being accepted `n` slot
writes stand, of the one being committed `m`, and a replay finds them (R307). -/
def execSupplyEarlyWarning (n m : Nat) (s : State) : Out :=
  .next (s.whenLive fun s =>
    if s.lgr.warned then s
    else let t := (s.tornCommit m).tornAccept n; { t with lgr := { t.lgr with warned := true } })

end Sys2Proof.Machine
end

