-- ==== Sys2Proof/Machine/Link.lean ====
section
/-!
DEFINITION. The Tether link's commands (R222 to R257): own frames sent and refused, the link's condition, the guardian,
heartbeats and peers, addresses, link tests, level alarms.
-/

namespace Sys2Proof.Machine

/-- TET_FRAME_SENT (R232, R235): `f` has been sent with a recessive ACK slot; it is the pending frame that is sent next. -/
def execTetFrameSent (f : Frame) (s : State) : Out :=
  .next (match s.sending f with
    | some p => s.frameSent p
    | none => s)

/-- TET_FRAME_REFUSED (R234, R236). -/
def execTetFrameRefused (f : Frame) (x : TxFail) (s : State) : Out :=
  .next (match s.sending f with
    | some p => s.frameFailed p x
    | none => s)

/-- TET_ARB_LOST (R231): the frame stays pending, and the loss is no attempt. -/
def execTetArbLost (f : Frame) (s : State) : Out :=
  .next (match s.sending f with
    | some p => s.countStart p
    | none => s)

/-- The counter of an error a receiver finds (R256). -/
def rxErrReg : RxError → Nat
  | .stuff => R.TET_ERRCNT0 | .crc => R.TET_ERRCNT1 | .form => R.TET_ERRCNT2

/-- TET_RX_ERROR (R228, R229, R234, R235, R237 to R239): the bits of the stuffed fields as sampled, up to the first error or the end
of the CRC; whether carrier stood in an EOF bit or in the first interframe bit. Bits without an error are no error. -/
def execTetRxError (bits : List Bool) (carrier : Bool) (s : State) : Out :=
  .next (s.when s.receives fun s =>
    match rxError bits carrier with
    | none => s
    | some x =>
      let refuses := x != .form && rxLengthOk bits && !s.flag F.TET_STATUS_RXPASSIVE
      let s := (s.linkError (rxErrReg x)).setRec (s.regN R.TET_REC + 1)
      if refuses then s.stallCount (rxField bits 4 6) 46 2 else s)

/-- LINK_CONDITION_CHANGE (R224): VTET in mV. -/
def execLinkConditionChange (vtet : Nat) (s : State) : Out :=
  .next (s.when (s.live && linkCond vtet != s.linkCondNow) fun s => s.linkChanged vtet)

/-- TET_THRESHOLD_RESET (R225). -/
def execTetThresholdReset (s : State) : Out :=
  .next (s.when (s.live && decide (s.link.acceptAt + secTicks 60 ≤ s.now)) State.resetThreshold)

/-- GUARD_TRIP (R240, R241): cause 1 carrier beyond 240 µs, 2 carrier that was not commanded. -/
def execGuardTrip (cause : Nat) (s : State) : Out :=
  .next (s.when (s.live && s.framesMode) fun s =>
    let near := s.link.trips.any fun t => decide (s.now < t + secTicks 60)
    let s := { s with link := { s.link with
      trips := (s.link.trips.filter fun t => decide (s.now < t + secTicks 3600)) ++ [s.now] } }
    let held := s.flag F.TET_STATUS_GUARDHOLD || decide (3 ≤ s.tripsInHour)
    let silence := if held then 3 else if near then 2 else 1
    let s := (s.setFlag F.TET_STATUS_SILENCED true).setFlag F.TET_STATUS_GUARDHOLD held
    let s := { s with link := { s.link with
      silenceDue := if held then none else s.timer (secTicks (if near then 60 else 1)) } }
    ((s.event F.TET_EVENT_GUARD).bump R.TET_GUARDCNT 1).post K.TET_GUARD [byte cause, byte silence, byte s.tripsInHour])

/-- GUARD_SILENCE_END (R241): the transmitter works again, and a FAULT frame tells of the trips. -/
def execGuardSilenceEnd (s : State) : Out :=
  .next (s.when (s.live && s.elapsed s.link.silenceDue) fun s =>
    s.silenceOver)

/-- HEARTBEAT_DUE (R245). -/
def execHeartbeatDue (s : State) : Out :=
  .next (s.when (s.live && s.hbDue) fun s => (s.hbMark).postHeartbeat)

/-- HEARTBEAT_RX (R246): a heartbeat under this unit's own address is no peer's (R251). -/
def execHeartbeatRx (addr : Nat) (data : List Byte) (c : Carrier) (s : State) : Out :=
  .next (s.receive ⟨6, addr, 1, data⟩ c fun s =>
    let f : Frame := ⟨6, addr, 1, data⟩
    (if s.ownAddr = some addr then s else s.heartbeat f).rxEnter f)

/-- PEER_MISSING (R246): no heartbeat from the address for 95 s. -/
def execPeerMissing (addr : Nat) (s : State) : Out :=
  .next (s.whenLive fun s =>
    match s.peerTrack addr with
    | some p => if p.missing.isNone && decide (p.last + secTicks 95 ≤ s.now) then s.peerMissing p else s
    | none => s)

/-- CENSUS_REQUEST_RX (R247): answered at the address × 20 ms, one request in 10 s. -/
def execCensusRequestRx (addr : Nat) (c : Carrier) (s : State) : Out :=
  .next (s.receive ⟨6, addr, 2, []⟩ c fun s =>
    let recent := match s.link.censusAnsAt with
      | some t => decide (s.now < t + secTicks 10)
      | none => false
    let s := match s.ownAddr with
      | some a =>
        if recent then s
        else { s with link := { s.link with censusAnsAt := some s.now, censusDue := s.timer (msTicks (20 * a)) } }
      | none => s
    s.rxEnter ⟨6, addr, 2, []⟩)

/-- CENSUS_ANSWER_DUE (R247). -/
def execCensusAnswerDue (s : State) : Out :=
  .next (s.when (s.live && s.elapsed s.link.censusDue) fun s =>
    { s with link := { s.link with censusDue := none } }.postHeartbeat)

/-- CLAIM_RX (R249 to R251): `uid` is the sender's WB_UID. -/
def execClaimRx (addr : Nat) (uid : BitVec 64) (c : Carrier) (s : State) : Out :=
  .next (s.when s.receives fun s =>
    let f : Frame := ⟨6, addr, 2, beBytes 8 uid.toNat⟩
    ((s.acceptFrame f c).claimHeard addr uid.toNat).rxEnter f)

/-- FAULT_FRAME_RX (R244, R271, R277). -/
def execFaultFrameRx (addr : Nat) (data : List Byte) (c : Carrier) (s : State) : Out :=
  .next (s.receive ⟨6, addr, 3, data⟩ c fun s => s.rxEnter ⟨6, addr, 3, data⟩)

/-- ADDR_LISTEN_END (R249). -/
def execAddrListenEnd (s : State) : Out :=
  .next (s.when (s.live && s.elapsed s.link.listenDue) fun s =>
    ({ s with link := { s.link with listenDue := none } }.setFlag F.TET_STATUS_LISTENWIN false).chooseCand 1)

/-- ADDR_HOLD (R249): 2.000 s have passed since the candidate's CLAIM was sent. -/
def execAddrHold (v : Verify) (s : State) : Out :=
  .next (s.when (s.live && s.elapsed (s.link.claimAt.map (· + secTicks 2))) fun s =>
    match s.link.cand with
    | some a => s.candHeld a v
    | none => s)

/-- ADDR_RELISTEN (R249). -/
def execAddrRelisten (s : State) : Out :=
  .next (s.when (s.live && s.elapsed s.link.relistenDue) State.startListening)

/-- LINK_TEST_RX (R242): the firmware answers with LINK_ECHO as it reads the frame. -/
def execLinkTestRx (addr : Nat) (data : List Byte) (c : Carrier) (s : State) : Out :=
  .next (s.receive ⟨7, addr, 0, data⟩ c fun s => s.rxEnter ⟨7, addr, 0, data⟩)

/-- LINK_ECHO_RX (R242). -/
def execLinkEchoRx (addr : Nat) (data : List Byte) (c : Carrier) (s : State) : Out :=
  .next (s.receive ⟨7, addr, 1, data⟩ c fun s => s.rxEnter ⟨7, addr, 1, data⟩)

/-- LEVEL_ALARM_START (R254, R255): judged while the own level switch is open. -/
def execLevelAlarmStart (s : State) : Out :=
  .next (s.when (s.live && s.flag F.TET_STATUS_LEVEL && !s.flag F.TET_STATUS_LVL_OUT && s.alm.level.isNone) State.levelStart)

/-- LEVEL_ALARM_END (R254, R255). -/
def execLevelAlarmEnd (s : State) : Out :=
  .next (s.whenLive fun s =>
    match s.alm.level with
    | some t => (s.levelEnd t).cutoffAgain
    | none => s)

end Sys2Proof.Machine
end

