-- ==== Sys2Proof/Machine/Market.lean ====
section
/-!
DEFINITION. The market's commands (R258 to R287) and the sink cut-off: frames received, the firmware's offers, bids, grants
and withdrawals, refreshes and lapses, the return after a cut-off, the write-back.
-/

namespace Sys2Proof.Machine

/-- MARKET_FRAME_RX (R262, R271): a frame of classes 2 to 5. -/
def execMarketFrameRx (f : Frame) (c : Carrier) (s : State) : Out :=
  .next (s.when (decide (2 ≤ f.cls ∧ f.cls ≤ 5)) fun s => s.receive f c fun s => s.rxEnter f)

/-- The firmware posts so many frames, or finds the TX queue without room for them: TX_FULL, and nothing else happens
(R232). -/
def State.withTx (s : State) (n : Nat) (f : State → State) : State :=
  if s.txFits n then f s else s.event F.TET_EVENT_TX_FULL

/-! ## Offers (R258 to R263, R270) -/

/-- The posted offer is a new one, or reduces P_OFF (R261). -/
def State.offerIsNew (s : State) (tent : Bool) (pOff : Nat) : Bool :=
  !s.offering || decide (pOff < s.ownOff) || (tent && s.offState s.selfAddr == stOpen)

/-- The offer's generation advances, written through first; grants under the old one are void (R261, R262). -/
def State.offerAdvance (s : State) : State :=
  let s := (s.mkt.granted ++ s.mkt.waiting).foldl (fun s b => s.dropInbid b stWithdrawn) s
  s.stallBytes s.selfAddr 13 [byte (s.offGen + 1)]

/-- The own offer posted (R259 to R263, R279). -/
def State.offerPost (s : State) (tent : Bool) (pOff : Nat) (cell : Bool) : State :=
  let s := s.withdrawBids 1
  if s.tetOnly then s.event F.MKT_EVENT_REFUSED
  else
    let new := s.offerIsNew tent pOff
    let opened := !new && !tent && s.offState s.selfAddr == stTent
    let a := s.selfAddr
    let s := if new then s.offerAdvance else s
    let s := s.stallBytes a 14 ([byte (if tent then stTent else stOpen), s.offerFlags cell])
    let s := (s.setOffer pOff (pOff - s.grantedSum)).stallBytes a 20 s.stallTime
    let due := if !tent then none
      else if new then s.timer (secTicks (60 * s.regN R.MKT_TENTMAX)) else s.mkt.tentDue
    let s := { s with mkt := { s.mkt with tentDue := due } }
    let s := if new then s.postMktOffer (if tent then 1 else 0) pOff s.ownFree (s.offerFlags cell) 0xFF
      else if opened then s.postMktOffer 2 pOff s.ownFree (s.offerFlags cell) 0xFF
      else s
    s.sendOffer

/-- P_SRC in 10 mW (R263): what the firmware has measured as left of the input's power, the least favourable of the last 10 s, and so
never above 0.85 × the limit in force × the voltage at the active input. -/
def State.pSrc (s : State) (left : Nat) : Nat :=
  match s.path.closed with
  | some x => min left (85 * s.inputLimit * s.shownMv (voltReg x) / 1000000)
  | none => 0

/-- OFFER_POST (R258, R263): `left` is what of the input's power VSYS and the charger leave, in 10 mW. DEDUCED (log 117): an offer
includes cell energy where P_OFF exceeds P_SRC. -/
def execOfferPost (tent : Bool) (pOff left : Nat) (s : State) : Out :=
  .next (s.when (s.live && s.marketActive && s.flag F.MKT_CFG_OFFER_EN && (s.tetOnly ||
      (s.field F.CONV_STATUS_TET_MODE == 3 && decide (pOff ≤ min (s.pSrc left + s.pCell) 4800)))) fun s =>
    s.withTx (s.mkt.bids.length + 1) fun s => s.offerPost tent pOff (decide (s.pSrc left < pOff)))

/-! ## Bids (R259, R261, R267) -/

/-- What the other bids ask for together, in 10 mW. -/
def State.otherBids (s : State) (a : Nat) : Nat :=
  (s.mkt.bids.filter fun b : OwnBid => b.addr != a).foldl (fun t b => t + b.req) 0

/-- The bid is a new one: none stands on this offer, its power changes, or the alarm begins (R261, R276). -/
def State.bidIsNew (s : State) (a req : Nat) : Bool :=
  match s.bidOn a with
  | some x => x.req != req || x.offGen != s.stallN a 13 1 || (s.flag F.SYS_STATE_ALARM && x.flags.toNat % 2 == 0)
  | none => true

/-- An own bid posted: a new one under the next bid generation, written through first (R261, R267, R279). -/
def State.bidPost (s : State) (a req : Nat) : State :=
  let s := s.withdrawOffer 0
  if s.bidIsNew a req then
    let s := s.stallBytes s.selfAddr 35 [byte (s.bidGen + 1)]
    let x : OwnBid := ⟨a, s.stallN a 13 1, s.bidGen, req, s.bidFlags, s.now, none, 0⟩
    let s := s.stallBytes a 35 ([byte x.gen, byte bidOpen] ++ beBytes 2 req)
    (s.postMktOffer 3 req 0 x.flags a).sendBid x
  else match s.bidOn a with
    | some x => s.sendBid x
    | none => s

/-- BID_POST (R267): a bid on a peer's standing offer. -/
def execBidPost (addr req : Nat) (s : State) : Out :=
  .next (s.when (s.live && s.marketActive && s.flag F.MKT_CFG_BID_EN && some addr != s.ownAddr && s.offerStands addr &&
      decide (s.otherBids addr + req ≤ s.regN R.SRC_TET_ILIM * 24) &&
      ((s.bidOn addr).isSome || decide (s.mkt.bids.length < 4))) fun s =>
    s.withTx (if s.offering then 2 else 1) fun s => s.bidPost addr req)

/-! ## Grants (R265, R266, R270) -/

/-- Grants of lower rank, the newest first. -/
def State.displaceable (s : State) : List Nat := s.mkt.granted.reverse

/-- A FIRM on the bid that is next in turn; an alarm bid that finds P_FREE short displaces others; a first grant on a
tentative offer makes it open (R266, R270). -/
def State.firm (s : State) (a grant : Nat) : State :=
  if s.stallN a 25 1 != bidOpen then s.sendFirm a (s.stallN a 29 2)
  else
    let tent := s.offState s.selfAddr == stTent
    let want := min grant (s.stallN a 27 2)
    let s := if bidRank (s.stallN a 26 1) = 1 && s.ownFree < want then s.displace want s.displaceable else s
    let g := min want s.ownFree
    let s := s.sendFirm a g
    if tent && 0 < g then
      let s := { s.stallBytes s.selfAddr 14 [byte stOpen] with mkt := { s.mkt with tentDue := none } }
      (s.postMktOffer 2 s.ownOff s.ownFree (s.offerFlags s.ownCell) 0xFF).sendOffer
    else s

/-- FIRM_SEND (R266, R270): the bid next in turn is answered; on a tentative offer only when the measured surplus, of which `left`
comes from the input, covers the grant and every earlier one. With no bid to answer the newest grant is lowered to `grant` (R263). -/
def execFirmSend (grant left : Nat) (s : State) : Out :=
  .next (s.when (s.live && s.marketActive && s.offering && s.offerKept) fun s =>
    match s.nextBid with
    | some a =>
      if s.offState s.selfAddr == stTent && s.stallN a 25 1 == bidOpen && 0 < grant &&
          decide (s.pSrc left + s.pCell < s.grantedSum + grant) then s
      else s.withTx (s.mkt.granted.length + 2) fun s => s.firm a grant
    | none => match s.mkt.granted.getLast? with
      | some a => if grant < s.stallN a 29 2 then s.withTx 1 fun s => s.sendFirm a grant else s
      | none => s)

/-- WITHDRAW_SEND (R259, R272, R273): kind 0 the offer, 1 the bid on `addr`, 2 the grant of `addr`. -/
def execWithdrawSend (kind addr : Nat) (s : State) : Out :=
  .next (s.when s.mayWithdraw fun s => s.withTx 1 fun s =>
    match kind with
    | 0 => s.withdrawOffer 0
    | 1 => s.withdrawBid 1 addr
    | _ => s.withdrawGrant addr)

/-! ## Refreshes, lapses, repeats (R264, R267, R270) -/

/-- A post older than a minute is due for its refresh (R264). -/
def State.refreshAge (s : State) (t : Nat) : Bool := decide (t + secTicks 60 ≤ s.now)

/-- MKT_REFRESH_DUE (R264). -/
def execMktRefreshDue (s : State) : Out :=
  .next (s.when (s.live && s.marketActive) fun s =>
    let s := match s.mkt.offerAt with
      | some t =>
        if s.offering && s.offerKept && s.refreshAge t then s.withTx 1 fun s => s.sendOffer.stallBytes s.selfAddr 20 s.stallTime
        else s
      | none => s
    (s.mkt.bids.filter fun x : OwnBid => s.bidsKept && s.refreshAge x.postedAt).foldl
      (fun s x => s.withTx 1 fun s => s.sendBid x) s)

/-- MKT_LAPSE (R264): a peer's offer or bid has not been refreshed for 75 s. -/
def execMktLapse (addr : Nat) (isBid : Bool) (s : State) : Out :=
  .next (s.when (s.live && s.boot.core) fun s =>
    let p := s.peerMarket addr
    if !s.elapsed ((if isBid then p.bidAt else p.offerAt).map (· + secTicks 75)) then s
    else
      let gen := s.stallN addr (if isBid then 24 else 13) 1
      let s := if isBid then s.peerBidEnd addr stLapsed else s.peerOfferEnd addr stLapsed
      ((s.event F.MKT_EVENT_LAPSE).bump R.MKT_LAPSECNT 1).post K.MKT_LAPSE [byte addr, boolByte isBid, byte gen])

/-- One bid repeated, or after three repeats taken as refused (R267). -/
def State.bidRetry (s : State) (x : OwnBid) : State :=
  if x.repeats < 3 then s.withTx 1 fun s => s.sendBid { x with repeats := x.repeats + 1 }
  else (s.dropBid x.addr stNone).clearDraws x.addr

/-- BID_RETRY (R267): 5 s without a FIRM since the BID was sent. -/
def execBidRetry (s : State) : Out :=
  .next (s.when (s.live && s.marketActive && s.bidsKept) fun s =>
    (s.mkt.bids.filter fun x : OwnBid => s.elapsed (x.sentAt.map (· + secTicks 5))).foldl State.bidRetry s)

/-- TENTMAX_EXPIRY (R270). -/
def execTentmaxExpiry (s : State) : Out :=
  .next (s.when (s.mayWithdraw && s.elapsed s.mkt.tentDue) fun s => s.withTx 1 fun s => s.withdrawOffer 0)

/-- ISRC_HOLD_END (R265, R272): the firmware lowers CONV_TET_ISRC to what the grants need. -/
def execIsrcHoldEnd (s : State) : Out :=
  .next (s.when (s.live && s.boot.core && s.elapsed s.mkt.isrcDue) fun s =>
    ({ s with mkt := { s.mkt with isrcDue := none } }).setReg R.CONV_TET_ISRC (word16 s.isrcNeeded))

/-! ## The cut-off (R123, R274, R275) -/

/-- TET_SINK_CUTOFF (R123, R274): VTET in mV; the Tether is lost with cause 6. -/
def execTetSinkCutoff (vtet : Nat) (s : State) : Out := .next (s.whenLive fun s => s.sinkCutoff vtet)

/-- CUTOFF_RETURN (R274): the wait is over, and MKT_DRAWCAP rises over 1.000 s. -/
def execCutoffReturn (s : State) : Out :=
  .next (s.when (s.live && s.elapsed s.mkt.cutDue) fun s =>
    let s := { s with mkt := { s.mkt with cutDue := none, rampFrom := some s.now } }
    (s.setFlag F.MKT_STATUS_CUTOFF false).setFlag F.MKT_STATUS_RAMP true)

/-- STALL_WRITEBACK (R283): every 10.000 s. -/
def execStallWriteback (v : Verify) (s : State) : Out :=
  .next (s.when (s.live && decide (s.mkt.backAt + secTicks 10 ≤ s.now)) fun s =>
    { s with mkt := { s.mkt with backAt := s.now } }.writeBackTimed v)

end Sys2Proof.Machine
end

