-- ==== Sys2Proof/Machine/Pd.lean ====
section
/-!
DEFINITION. USB Type-C and Power Delivery commands (R333 to R361): attach and detach, Battery Charging detection, the
messages received and the timers that expire. On the QTL6412 there is no port, and none of them happens.
-/

namespace Sys2Proof.Machine

/-- An event of the Type-C port of a QTL6410 in a Type-C state (R334). -/
def State.atPort (s : State) (states : List Nat) (f : State → State) : State :=
  s.when (s.live && s.part == .qtl6410 && states.contains s.tcState) f

/-! ## The Type-C machine (R334 to R338) -/

/-- CC_RP_DETECT (R334). -/
def execCcRpDetect (s : State) : Out := .next (s.atPort [0] fun s => s.setField F.TC_STATUS_TCSTATE 1)

/-- The advertisement shown, and SinkTxOK with it (R337, R350). -/
def State.setAdv (s : State) (adv : Nat) : State :=
  let s := (s.setField F.TC_STATUS_ADV adv).setFlag F.PD_STATUS_SINKTXOK (adv == 3)
  { s with pd := { s.pd with sinkTxAt := if adv = 3 then some s.now else none } }

/-- An attach (R334, R335, R361): Power Delivery begins afresh. -/
def State.attached (s : State) (state orient adv : Nat) : State :=
  let s := { s with pd := { Pd.reset with cfg := s.reg R.PD_CFG } }.refreshCc
  let s := ((s.setField F.TC_STATUS_TCSTATE state).setFlag F.TC_STATUS_ORIENT (orient == 1)).setAdv adv
  let s := (s.setField F.TC_STATUS_BC12 0).setFlag F.TC_STATUS_BC12_BUSY false
  let s := ((s.setFlag F.PD_STATUS_PARTNER false).setFlag F.PD_STATUS_NONPD false).setField F.PD_STATUS_REV 0
  let s := ((s.event F.PD_EVENT_ATTACH).bump R.PD_ATTCNT 1).post K.TC_ATTACH [byte state, byte orient, byte adv]
  s.refreshLimit

/-- A fresh attach after VBUS was seen below 0.8 V lets VBUS qualify again (R103, R336). -/
def State.vbusFresh (s : State) : State :=
  if s.path.vbusBlocked then
    { (s.setFlag F.TC_STATUS_VBUS_LOW true).setFlag F.TC_STATUS_DEBOUNCE_OK true with
      path := { s.path with vbusBlocked := false }, pd := { s.pd with collapseDue := none } }
  else s

/-- tCCDebounce, tPDDebounce and tRpValueChange have passed without a break, in AON ticks (R349). -/
def ccHeld (ticks : Nat) : Bool := decide (msTicks 150 ≤ ticks)
def pdHeld (ticks : Nat) : Bool := decide (msTicks 15 ≤ ticks)

/-- TC_ATTACH (R334): the pin that shows Rp, its advertisement, VBUS in mV, whether VBUS has been seen below 0.8 V since it was lost,
and for how many ticks Rp has been held. -/
def execTcAttach (pin adv vbus : Nat) (low : Bool) (ticks : Nat) (s : State) : Out :=
  .next (s.atPort [1] fun s => s.when (decide (4000 ≤ vbus) && ccHeld ticks) fun s =>
    let s := (s.setVolt .vbus vbus).attached 2 pin adv
    if low then s.vbusFresh else s)

/-- DEBUG_ACCESSORY_ATTACH (R335): both pins show Rp; the Default advertisement counts. -/
def execDebugAccessoryAttach (vbus : Nat) (low : Bool) (ticks : Nat) (s : State) : Out :=
  .next (s.atPort [1] fun s => s.when (decide (4000 ≤ vbus) && ccHeld ticks) fun s =>
    let s := (s.setVolt .vbus vbus).attached 3 0 1
    if low then s.vbusFresh else s)

/-- A detach (R334, R356): contract, objects, refusals and service mode are cleared. -/
def State.detached (s : State) : State :=
  let cause := if 0 < s.pd.hrCount && !s.pd.capsSeen then 1 else 0
  let v := s.regN R.PD_CONTRACT_V
  let s := ((s.event F.PD_EVENT_DETACH).post K.TC_DETACH (beBytes 2 v ++ [byte cause])).svcModeEnd 2
  let s := (s.setField F.TC_STATUS_TCSTATE 0).setAdv 0
  let s := (s.setField F.TC_STATUS_BC12 0).setFlag F.TC_STATUS_BC12_BUSY false
  let s := { s.contractClear with pd := Pd.reset }.refreshCc
  let s := (s.setRegs R.PD_SRCPDO0 (List.replicate 14 0)).setReg R.PD_SRCPDOCNT 0
  let s := ((s.setFlag F.PD_STATUS_PARTNER false).setFlag F.PD_STATUS_NONPD false).setField F.PD_STATUS_REV 0
  let s := (s.svcCloseOn (fun t : Transport => t != .optical) closeDetach).usbOff
  (s.setFlag F.USB_STATUS_NOHOST false).refreshLimit

/-- An armed ship request becomes a request as VBUS is lost through the detach (R28). -/
def State.shipOnDetach (s : State) : State :=
  match s.boot.shipArmed with
  | some (_, req) => { s with boot := { s.boot with shipArmed := none } }.shipRequest req
  | none => s

/-- TC_DETACH (R334, R356): VBUS in mV, and for how many ticks the pins have been below 0.2 V. -/
def execTcDetach (vbus ticks : Nat) (s : State) : Out :=
  .next (s.atPort [2, 3] fun s => s.when (pdHeld ticks) fun s =>
    let s := s.detached.lose .vbus 4 vbus
    { s.shipOnDetach with pd := { s.shipOnDetach.pd with collapseDue := none } })

/-- ATTACHWAIT_ABANDON (R334). -/
def execAttachwaitAbandon (ticks : Nat) (s : State) : Out :=
  .next (s.atPort [1] fun s => s.when (pdHeld ticks) fun s => s.setField F.TC_STATUS_TCSTATE 0)

/-- ADVERTISEMENT_CHANGE (R337): held for tRpValueChange. -/
def execAdvertisementChange (adv ticks : Nat) (s : State) : Out :=
  .next (s.atPort [2] fun s => s.when (adv != s.field F.TC_STATUS_ADV && pdHeld ticks) fun s =>
    ((s.setAdv adv).event F.PD_EVENT_ADV_CHG).refreshLimit)

/-- FRESH_ATTACH_DEBOUNCE (R336): for how many ticks Rp has been held on the same pin since VBUS was seen below 0.8 V. -/
def execFreshAttachDebounce (ticks : Nat) (s : State) : Out :=
  .next (s.atPort [2, 3] fun s => s.when (ccHeld ticks) State.vbusFresh)

/-- BC12_START (R338): 10 ms after VBUS qualified, once in each attach. -/
def execBc12Start (s : State) : Out :=
  .next (s.atPort [2] fun s =>
    s.when (bitOf s.pd.cfg 3 && s.field F.TC_STATUS_ADV == 1 && !s.pd.seen && !s.pd.bcRan && s.qualified .vbus &&
        decide (s.qualAt .vbus + msTicks 10 ≤ s.now)) fun s =>
      ({ s with pd := { s.pd with bcRan := true } }.setFlag F.TC_STATUS_BC12_BUSY true).usbOff)

/-- BC12_DONE (R338): 1 SDP, 2 CDP, 3 DCP, 0 without result. -/
def execBc12Done (result : Nat) (s : State) : Out :=
  .next (s.atPort [2] fun s => s.when (s.flag F.TC_STATUS_BC12_BUSY) fun s =>
    let s := (s.setFlag F.TC_STATUS_BC12_BUSY false).setField F.TC_STATUS_BC12 result
    ((s.event F.PD_EVENT_BC12_DONE).usbRefresh).refreshLimit)

/-! ## Contracts (R340 to R347) -/

/-- Source_Capabilities put into PD_SRCPDO (R361). -/
def State.setSrcPdos (s : State) (l : List Nat) : State :=
  let l := l.take 7
  let s := (s.setRegs R.PD_SRCPDO0 (List.replicate 14 0)).setReg R.PD_SRCPDOCNT (BitVec.ofNat 16 l.length)
  s.setRegs R.PD_SRCPDO0 (l.flatMap fun p => [BitVec.ofNat 16 (p / 65536), BitVec.ofNat 16 p])

/-- New Source_Capabilities (R338, R340, R344, R351, R354). -/
def State.capsArrive (s : State) (rev : Nat) (l : List Nat) (posted : Bool) : State :=
  let s := if s.pdRev = 0 then s.setField F.PD_STATUS_REV (if bitOf s.pd.cfg 5 then min 2 rev else 1) else s
  let s := (s.setSrcPdos l).event F.PD_EVENT_SRCCAP
  let s := (s.setFlag F.TC_STATUS_BC12_BUSY false).setFlag F.PD_STATUS_NONPD false
  let s := { s with pd := { s.pd with capsSeen := true, hrRow := 0, noRespDue := none, hrDue := none, refusals := [], ask := none,
                                      retry := none, held := s.pd.held.filter (· != PdMsg.getSourceCap) } }
  if !s.fwOwns then s.pdAnswerCaps true
  else if posted && s.boot.core then s.pdAnswerCaps false
  else { s with pd := { s.pd with capsAt := some s.now } }

/-- The exchange in progress is one that Source_Capabilities belong to. -/
def State.awaitsCaps (s : State) : Bool :=
  s.pd.req.isNone && (match s.pd.ask with | some (m, _) => m == .getSourceCap | none => true)

/-- SOURCE_CAPABILITIES_RX (R344): the objects; whether the firmware, where it owns the port, posts its Request in time. -/
def execSourceCapabilitiesRx (h : PdHeader) (objs : List Nat) (posted : Bool) (s : State) : Out :=
  .next (s.pdReceive h fun s =>
    if s.awaitsCaps then s.capsArrive h.rev objs posted else s.pdSendHardReset 5)

/-- ACCEPT_RX (R344, R355): of a Request or of Soft_Reset; ignored outside an exchange. -/
def execAcceptRx (h : PdHeader) (s : State) : Out :=
  .next (s.pdReceive h fun s =>
    match s.pd.req with
    | some r => if s.pd.acceptAt.isNone then s.pdAccepted r else s
    | none => match s.pd.ask with
      | some (.softReset, _) => { s with pd := { s.pd with ask := none } }
      | _ => s)

/-- PS_RDY_RX (R344). -/
def execPsRdyRx (h : PdHeader) (s : State) : Out :=
  .next (s.pdReceive h fun s =>
    match s.pd.req with
    | some r => if s.pd.acceptAt.isSome then s.pdContract r else s
    | none => s)

/-- WAIT_REJECT_RX (R346). -/
def execWaitRejectRx (h : PdHeader) (s : State) : Out :=
  .next (s.pdReceive h fun s =>
    match s.pd.req with
    | some r => if s.pd.acceptAt.isNone then s.pdRefusal r else s
    | none => s)

/-- PD_REQUEST_RETRY (R346, R348, R350): tSinkRequest has passed, and the exchange may begin; one that would change the voltage waits
while an alarm stands or a sweep runs. -/
def execPdRequestRetry (s : State) : Out :=
  .next (s.when (s.pdOn && s.pdMayBegin) fun s =>
    match s.pd.retry with
    | some (r, due) => if s.now < due || (s.pdHoldsVolt && r.mv != s.pdVolt) then s else s.pdRequest r
    | none => s)

/-- PD_REFUSAL_EXPIRY (R346). -/
def execPdRefusalExpiry (s : State) : Out :=
  .next (s.whenLive fun s =>
    { s with pd := { s.pd with refusals := s.pd.refusals.filter fun r : PdRefusal => !s.elapsed r.until_ } })

/-- PPS_KEEPALIVE (R347): every 8 s the same Request again. -/
def execPpsKeepalive (s : State) : Out :=
  .next (s.when (s.pdOn && s.elapsed s.pd.keepDue && s.pdMayBegin) fun s =>
    match s.pd.contract with
    | some r => { s with pd := { s.pd with keepDue := s.timer (secTicks 8) } }.pdRequest r
    | none => s)

/-- FALLBACK_REQUEST (R340): 12 ms without a Request of the firmware. -/
def execFallbackRequest (s : State) : Out :=
  .next (s.when (s.pdOn && s.elapsed (s.pd.capsAt.map (· + msTicks 12))) fun s => s.pdAnswerCaps true)

/-! ## Other messages (R351, R355) -/

/-- GET_SINK_CAP_RX (R343). -/
def execGetSinkCapRx (h : PdHeader) (s : State) : Out :=
  .next (s.pdIncoming h fun s => s.pdSend (.sinkCapabilities s.sinkCaps))

/-- SOFT_RESET_RX (R351, R355): Accept; the exchange is over, VBUS, limit and V_REF stay. -/
def execSoftResetRx (h : PdHeader) (s : State) : Out :=
  .next (s.when (s.pdOn && s.pd.bist != 2) fun s =>
    if h.rev = 0 then s.pdNonPd
    else
      let s := { s with pd := { s.pd with seen := true, req := none, acceptAt := none, ask := none, retry := none,
                                          capsAt := none, txId := 0, rxId := some h.id } }
      let s := (s.setFlag F.PD_STATUS_PARTNER true).setFlag F.PD_STATUS_TRANSITION false
      (s.event F.PD_EVENT_SOFTRESET).pdSend .accept)

/-- GET_REVISION_RX (R351): Revision 3.2, version 1.0, under Revision 3.x only. -/
def execGetRevisionRx (h : PdHeader) (s : State) : Out :=
  .next (s.pdIncoming h fun s => if s.pdRev = 2 then s.pdSend (.revision 0x32100000) else s)

/-- A message that R351 has ignored changes nothing, inside an exchange either; others belong to none (R351, R353). -/
def State.pdUnless (s : State) (h : PdHeader) (ignored : State → Bool) (f : State → State) : State :=
  if ignored s then s.pdReceive h fun s => s else s.pdIncoming h f

/-- ALERT_RX (R351): ignored where the fallback engine owns the port, and under Revision 2.0, which has no Alert. -/
def execAlertRx (h : PdHeader) (s : State) : Out :=
  .next (s.pdUnless h (fun s => s.pdRev != 2 || !s.fwOwns) fun s => (s.event F.PD_EVENT_ALERT_RX).pdAsk .getStatus)

/-- STATUS_MESSAGE_RX (R351): the answer to Get_Status is recorded. -/
def execStatusMessageRx (h : PdHeader) (data : List Byte) (s : State) : Out :=
  .next (s.pdReceive h fun s =>
    match s.pd.ask with
    | some (.getStatus, _) => { s with pd := { s.pd with ask := none, status := data } }
    | _ =>
      if s.pdBusy then s.pdSendHardReset 5
      else if s.pdRev = 2 then { s with pd := { s.pd with chunkDue := s.timer (msTicks 45) } }
      else s)

/-- A contract at 5 V stands (R351). -/
def State.at5V (s : State) : Bool := s.pd.contract.any fun r : PdReq => r.mv == 5000

/-- BIST_RX (R351): mode 0 carrier, 1 test data, 2 shared capacity. -/
def execBistRx (h : PdHeader) (mode : Nat) (s : State) : Out :=
  .next (s.pdUnless h (fun s => decide (2 ≤ mode) || !s.at5V) fun s =>
    match mode with
    | 0 => { s with pd := { s.pd with bist := 1, bistDue := s.timer (msTicks 45) } }.refreshCc
    | 1 => { s with pd := { s.pd with bist := 2 } }
    | _ => s)

/-- BIST_CARRIER_END (R349). -/
def execBistCarrierEnd (s : State) : Out :=
  .next (s.when (s.live && s.elapsed s.pd.bistDue) fun s =>
    { s with pd := { s.pd with bist := 0, bistDue := none } }.refreshCc)

/-- SWAP_REQUEST_RX (R351). -/
def execSwapRequestRx (h : PdHeader) (s : State) : Out := .next (s.pdIncoming h fun s => s.pdSend .reject)

/-- UNSUPPORTED_MESSAGE_RX (R351): kind 0 a message for which Revision 2.0 defines Reject, 1 another unsupported one, 2 an
extended one, 3 Ping, 4 reserved or unknown, 5 an unstructured VDM, 6 another structured VDM command of SVID `svid`, code
`cmd` and object position `pos`. -/
def execUnsupportedMessageRx (h : PdHeader) (kind svid pos cmd : Nat) (s : State) : Out :=
  .next (s.pdUnless h (fun s => kind == 3 || (s.pdRev != 2 && (1 ≤ kind && kind ≤ 5))) fun s =>
    let three := s.pdRev == 2
    match kind with
    | 0 => s.pdSend (if three then .notSupported else .reject)
    | 1 => if three then s.pdSend .notSupported else s
    | 2 => if three then { s with pd := { s.pd with chunkDue := s.timer (msTicks 45) } } else s
    | 3 => s
    | 4 => if three then s.pdSend .notSupported else s
    | 5 => if three then s.pdSend .notSupported else s
    | _ => s.vdmAnswer svid pos cmd false [])

/-- CHUNKING_NOT_SUPPORTED_EXPIRY (R351). -/
def execChunkingNotSupportedExpiry (s : State) : Out :=
  .next (s.when (s.pdOn && s.elapsed s.pd.chunkDue) fun s =>
    { s with pd := { s.pd with chunkDue := none } }.pdSend .notSupported)

/-- TSINKTX_EXPIRY (R350): a held exchange of the unit's own begins. -/
def execTsinktxExpiry (s : State) : Out :=
  .next (s.when (s.pdOn && s.pdMayBegin) fun s =>
    match s.pd.held with
    | m :: l => { s with pd := { s.pd with held := l } }.pdAsk m
    | [] => s)

/-! ## Structured vendor-defined messages (R358, R359) -/

/-- DISCOVER_IDENTITY (R358). -/
def execDiscoverIdentity (h : PdHeader) (s : State) : Out :=
  .next (s.pdIncoming h fun s =>
    let ack := s.regN R.PD_VID != 0
    s.vdmAnswer 0xFF00 0 1 ack (if ack then s.identityObjs else []))

/-- DISCOVER_SVIDS (R358). -/
def execDiscoverSvids (h : PdHeader) (s : State) : Out :=
  .next (s.pdIncoming h fun s =>
    let ack := s.svcOffered (s.regN R.PD_SVID)
    s.vdmAnswer 0xFF00 0 2 ack (if ack then [s.regN R.PD_SVID * 65536] else []))

/-- DISCOVER_MODES (R358). -/
def execDiscoverModes (h : PdHeader) (svid : Nat) (s : State) : Out :=
  .next (s.pdIncoming h fun s =>
    let ack := s.svcOffered svid
    s.vdmAnswer svid 0 3 ack (if ack then [s.group R.PD_MODEVDO_H 2] else []))

/-- ENTER_MODE (R358, R359). -/
def execEnterMode (h : PdHeader) (svid pos : Nat) (s : State) : Out :=
  .next (s.pdIncoming h fun s =>
    let ack := s.svcOffered svid && pos == 1
    let s := s.vdmAnswer svid pos 4 ack []
    if ack then s.svcModeStart else s)

/-- EXIT_MODE (R358, R359). -/
def execExitMode (h : PdHeader) (svid pos : Nat) (s : State) : Out :=
  .next (s.pdIncoming h fun s =>
    let ack := s.svcOffered svid && pos == 1
    let s := s.vdmAnswer svid pos 5 ack []
    if ack then s.svcModeEnd 1 else s)

/-! ## When the exchange goes wrong (R350 to R354, R356) -/

/-- HARD_RESET_RX (R352): no cause of R353 applies to a Hard Reset of the source, so that byte of the record is a free
value. -/
def execHardResetRx (s : State) : Out :=
  .next (s.when s.pdOn fun s =>
    let (v, s) := s.fresh
    s.pdHardReset 1 (byte v.toNat))

/-- PD_SENDER_RESPONSE_TIMEOUT (R349, R353): after a Request Hard Reset follows; another exchange is given up. -/
def execPdSenderResponseTimeout (s : State) : Out :=
  .next (s.when s.pdOn fun s =>
    match s.pd.req with
    | some _ => if s.pd.acceptAt.isNone && decide (s.pd.reqAt + msTicks 30 ≤ s.now) then s.pdSendHardReset 2 else s
    | none => match s.pd.ask with
      | some (_, t) => if t + msTicks 30 ≤ s.now then { s with pd := { s.pd with ask := none } } else s
      | none => s)

/-- The tick tSinkWaitCap runs from: VBUS qualifying, or a Hard Reset ending (R349). -/
def State.capsFrom (s : State) : Nat := max (s.qualAt .vbus) s.pd.waitFrom

/-- PD_SINK_WAIT_CAP_TIMEOUT (R353). -/
def execPdSinkWaitCapTimeout (s : State) : Out :=
  .next (s.when (s.pdOn && s.qualified .vbus && !s.pd.capsSeen && !s.flag F.PD_STATUS_NONPD &&
      decide (s.capsFrom + msTicks 465 ≤ s.now)) fun s => s.pdSendHardReset 1)

/-- PD_PS_TRANSITION_TIMEOUT (R353). -/
def execPdPsTransitionTimeout (s : State) : Out :=
  .next (s.when (s.pdOn && s.pd.req.isSome && s.elapsed (s.pd.acceptAt.map (· + msTicks 500))) fun s => s.pdSendHardReset 3)

/-- No GoodCRC for a message (R350): sent again, or exhausted. -/
def State.pdUnanswered (s : State) (m : PdMsg) : State :=
  if s.pd.tries < (if s.pdRev = 2 then 2 else 3) then { s with pd := { s.pd with tries := s.pd.tries + 1, sentAt := s.now } }
  else
    let s := s.bump R.PD_RETRYFAIL 1
    if m = .softReset then s.pdSendHardReset 4 else s.pdSoftReset

/-- PD_RECEIVE_TIMEOUT (R350): no GoodCRC for tReceive. -/
def execPdReceiveTimeout (s : State) : Out :=
  .next (s.when (s.pdOn && decide (s.pd.sentAt + msTicks 1 ≤ s.now)) fun s =>
    match s.pd.sent with
    | some m => if m = .hardReset then s else s.pdUnanswered m
    | none => s)

/-- PD_NO_RESPONSE (R354). -/
def execPdNoResponse (s : State) : Out :=
  .next (s.when (s.pdOn && s.elapsed s.pd.noRespDue) State.pdNonPd)

/-- PD_HARD_RESET_VBUS_TIMEOUT (R352): VBUS has stayed; the unit goes on at R337. -/
def execPdHardResetVbusTimeout (s : State) : Out :=
  .next (s.when (s.pdOn && s.elapsed s.pd.hrDue && s.qualified .vbus) fun s =>
    { s with pd := { s.pd with hrDue := none } }.refreshLimit)

/-- COLLAPSE_DETACH_TIMEOUT (R356): a collapse without a detach is treated as a Hard Reset that drops VBUS. -/
def execCollapseDetachTimeout (s : State) : Out :=
  .next (s.when (s.live && s.elapsed s.pd.collapseDue) fun s =>
    { s with pd := { s.pd with collapseDue := none } }.pdProtocolReset)

end Sys2Proof.Machine
end

