-- ==== Sys2Proof/Machine/Twb.lean ====
section
/-!
DEFINITION. Commands of Port H beside the register accesses: the wake, the timeouts and the pushes (R398 to R409).
-/

namespace Sys2Proof.Machine

/-- TWB_ADDRESS_WAKE (R398, R399): a transaction that carries this address alone, with the SYS clock stopped. -/
def execTwbAddressWake (addr : Nat) (s : State) : Out :=
  .next (s.when (s.portHOn && (s.pointerKind addr).isSome && !s.sysRuns) fun s =>
    match s.busStart addr with
    | (s, some _) => ((s.loseKey .portH).busStop).busAnswer [] false
    | (s, none) => s)

/-- TWB_AWAKE_EXPIRY (R398): AWAKE clears, and SYS may stop. -/
def execTwbAwakeExpiry (s : State) : Out :=
  .next (s.when (s.live && s.elapsed s.twb.awakeDue) fun s =>
    { s.setFlag F.TWB_STATUS_AWAKE false with twb := { s.twb with awakeDue := none } })

/-- TWB_CLOCK_LOW_TIMEOUT (R404): how many AON ticks SCLH has been low. -/
def execTwbClockLowTimeout (ticks : Nat) (s : State) : Out :=
  .next (s.when (s.portHOn && decide (983 ≤ ticks) && (bitOf s.twb.cfg 1 || bitOf s.twb.cfg 6)) fun s =>
    let s := (s.event F.TWB_EVENT_TIMEOUT).bump R.TWB_TOCNT 1
    if s.twb.sending.isSome then s.pushFailed else s)

/-- TWB_SDA_RELEASE (R405): how many AON ticks the unit has driven SDAH low without an edge of SCLH. -/
def execTwbSdaRelease (ticks : Nat) (s : State) : Out :=
  .next (s.when (s.portHOn && decide (1147 ≤ ticks)) fun s => (s.event F.TWB_EVENT_SDA_RELEASE).bump R.TWB_TOCNT 1)

/-- TWB_PUSH_DUE (R407). -/
def execTwbPushDue (s : State) : Out := .next (s.whenLive State.pushRise)

/-- TWB_PUSH_START (R406 to R409): the bus is free; how the lines were found before the START: as they should be; SDA low
and freed within nine clocks; or faulted, and the push fails. -/
def execTwbPushStart (freed : Option Bool) (s : State) : Out :=
  .next (s.when (s.portHOn && s.boot.applied && s.twb.pushDue.isSome && s.twb.sending.isNone && s.gapPassed &&
      decide (s.twb.retryAt ≤ s.now)) fun s =>
    if s.intsum = 0 then s.pushDrop
    else
      let s := s.pushAwake
      match freed with
      | some false => (s.setFlag F.TWB_STATUS_BUSFAULT_H true).pushFailed
      | some true => (((s.setFlag F.TWB_STATUS_BUSFAULT_H false).event F.TWB_EVENT_RECOVER).bump R.TWB_RECCNT 1).pushBuild
      | none => (s.setFlag F.TWB_STATUS_BUSFAULT_H false).pushBuild)

/-- TWB_PUSH_DONE (R407). -/
def execTwbPushDone (s : State) : Out :=
  .next (s.when s.twb.sending.isSome fun s => ((s.pushEnd).pushDrop).event F.TWB_EVENT_PUSH_DONE)

/-- TWB_PUSH_FAIL (R407): a push that is NACKed or lost; or one that could not start within 1 s of falling due. -/
def execTwbPushFail (s : State) : Out :=
  .next (s.when (s.twb.sending.isSome || s.elapsed (s.twb.pushDue.map (· + secTicks 1))) State.pushFailed)

/-- TWB_ARB_LOST (R409): the lines are released and the push stays pending; it starts again as soon as the bus is free. -/
def execTwbArbLost (s : State) : Out :=
  .next (s.when s.twb.sending.isSome fun s =>
    let s := ((s.pushEnd).event F.TWB_EVENT_ARB_LOST).bump R.TWB_ARBCNT 1
    { s with twb := { s.twb with pushAt := none } })

end Sys2Proof.Machine
end

