-- ==== Sys2Proof/Machine/Usb.lean ====
section
/-!
DEFINITION. The USB device function of the QTL6410 (R363 to R369), and the gap inside an SBU UART frame (R372).
-/

namespace Sys2Proof.Machine

/-- An event of the device function while its pull-up is connected. -/
def State.onUsb (s : State) (f : State → State) : State := s.when (s.live && s.flag F.USB_STATUS_PULLUP) f

/-- USB_CONNECT (R363, R364): the pull-up is connected once all conditions hold, and removed when one fails. -/
def execUsbConnect (s : State) : Out :=
  .next (s.when s.live fun s =>
    if s.flag F.USB_STATUS_PULLUP then s.usbRefresh
    else s.when (s.usbMay && !s.flag F.USB_STATUS_NOHOST) fun s =>
      { s.setFlag F.USB_STATUS_PULLUP true with
        usb := { s.usb with pullAt := some s.now, cfg := s.reg R.USB_CFG, vid := s.reg R.USB_VID,
                            pid := s.reg R.USB_PID, activeAt := s.now } })

/-- USB_NOHOST (R364). -/
def execUsbNohost (s : State) : Out :=
  .next (s.onUsb fun s => s.when (s.elapsed (s.usb.pullAt.map (· + secTicks 1))) fun s =>
    (s.usbOff).setFlag F.USB_STATUS_NOHOST true)

/-- USB_BUS_RESET (R369): whether a control transfer, and whether an FW_CHUNK frame, was in progress. -/
def execUsbBusReset (setup chunk : Bool) (s : State) : Out :=
  .next (s.onUsb fun s =>
    let s := (s.usbActive).usbDefault
    let s := if setup then s.event F.USB_EVENT_SETUP_ABORT else s
    let s := if chunk then s.event F.USB_EVENT_CHUNK_LOST else s
    ((s.event F.USB_EVENT_BUSRESET).bump R.USB_RSTCNT 1).tally K.USB_BUSRESET)

/-- USB_SUSPEND (R368, R339): no bus activity for 3 ms; start-of-frame packets have stopped too. -/
def execUsbSuspend (s : State) : Out :=
  .next (s.onUsb fun s => s.when (!s.flag F.USB_STATUS_SUSPENDED && decide (s.usb.activeAt + msTicks 3 ≤ s.now)) fun s =>
    (((s.setFlag F.USB_STATUS_SUSPENDED true).event F.USB_EVENT_SUSPEND).usbLock false).refreshLimit)

/-- USB_RESUME (R368): bus activity, and the frame number it brings where it is a start-of-frame packet. -/
def execUsbResume (sof : Option Nat) (s : State) : Out :=
  .next (s.onUsb fun s =>
    let s := s.usbActive
    match sof with
    | some n =>
      { (s.setReg R.USB_FRAME (BitVec.ofNat 16 (n % 2048))).usbLock (s.flag F.CLK_CFG_USBLOCK_EN) with
        usb := { s.usb with sofAt := s.now } }
    | none => s)

/-! ## Requests on endpoint 0 (R365 to R367) -/

/-- A request: its data stage, or none for a STALL. -/
def State.usbReply (s : State) (r : Option (List Byte)) : State := { s with usb := { s.usb with reply := r } }

/-- A number low byte first, as the bus carries it. -/
def leWord (x : Nat) : List Byte := [byte x, byte (x / 256)]

/-- The device descriptor (R365). -/
def State.deviceDesc (s : State) : List Byte :=
  [18, 1, 0x00, 0x02, 0, 0, 0, 64] ++ leWord s.usb.vid.toNat ++ leWord s.usb.pid.toNat ++ [0xB1, 0x00, 0, 0, 3, 1]

/-- The configuration, its interface and its two endpoints (R365). -/
def State.configDesc (s : State) : List Byte :=
  [9, 2, 32, 0, 1, 1, 0, if bitOf s.usb.cfg 1 then 0xC0 else 0x80, 0xFA] ++ [9, 4, 0, 0, 2, 0xFF, 0x51, 0x02, 0] ++
    [7, 5, 0x01, 2, 64, 0, 0] ++ [7, 5, 0x81, 2, 64, 0, 0]

/-- An uppercase hexadecimal digit. -/
def hexDigit (x : Nat) : Byte := byte (if x < 10 then 48 + x else 55 + x)

/-- String 3: WB_UID as sixteen digits, WB_UID0 first (R365). -/
def uidString : List Byte :=
  [34, 3] ++ (List.range 16).flatMap fun i => [hexDigit (Config.wbUid.toNat / 16 ^ (15 - i) % 16), 0]

/-- A descriptor of R365 by its type, index and language; every other one is stalled. -/
def State.descriptor (s : State) (typ idx lang : Nat) : Option (List Byte) :=
  match typ, idx with
  | 1, 0 => some s.deviceDesc
  | 2, 0 => some s.configDesc
  | 3, 0 => some [4, 3, 0x09, 0x04]
  | 3, 3 => if lang = 0x0409 then some uidString else none
  | _, _ => none

/-- GET_STATUS (R366): recipient 0 device, 1 interface 0, 2 endpoint by its address. -/
def execGetStatus (recip ep : Nat) (s : State) : Out :=
  .next (s.onUsb fun s => s.usbActive.usbReply (match recip with
    | 0 => some [boolByte (bitOf s.usb.cfg 1), 0]
    | 1 => some [0, 0]
    | _ => match ep with
      | 0x00 => some [0, 0]
      | 0x80 => some [0, 0]
      | 0x01 => some [boolByte s.usb.haltOut, 0]
      | 0x81 => some [boolByte s.usb.haltIn, 0]
      | _ => none))

/-- GET_DESCRIPTOR (R366): at most the bytes asked for. -/
def execGetDescriptor (typ idx lang len : Nat) (s : State) : Out :=
  .next (s.onUsb fun s => s.usbActive.usbReply ((s.descriptor typ idx lang).map (List.take len)))

/-- SET_ADDRESS (R366). -/
def execSetAddress (a : Nat) (s : State) : Out :=
  .next (s.onUsb fun s =>
    let s := (s.usbActive.usbReply (some [])).setReg R.USB_ADDR (BitVec.ofNat 16 (a % 128))
    if s.field F.USB_STATUS_STATE = 3 then s else s.setField F.USB_STATUS_STATE (if a % 128 = 0 then 1 else 2))

/-- Both bulk endpoints are unhalted, as a configuration or an alternate setting leaves them. -/
def State.usbUnhalt (s : State) : State := { s with usb := { s.usb with haltOut := false, haltIn := false } }

/-- The end of a SET_CONFIGURATION that is not stalled (R366): endpoints unhalted, an empty answer, USB_CONFIG. -/
def State.usbConfigured (s : State) (n : Nat) : State :=
  ((s.usbUnhalt).usbReply (some [])).post K.USB_CONFIG [byte (s.regN R.USB_ADDR), byte n]

/-- SET_CONFIGURATION (R366, R389): 1 configures the function, 0 takes the configuration back, others are stalled. -/
def execSetConfiguration (n : Nat) (s : State) : Out :=
  .next (s.onUsb fun s =>
    let s := s.usbActive
    match n with
    | 0 => (s.setField F.USB_STATUS_STATE (if s.regN R.USB_ADDR = 0 then 1 else 2)).usbConfigured n
    | 1 => ((s.setField F.USB_STATUS_STATE 3).event F.USB_EVENT_CONFIGURED).usbConfigured n
    | _ => s.usbReply none)

/-- GET_CONFIGURATION (R366). -/
def execGetConfiguration (s : State) : Out :=
  .next (s.onUsb fun s => s.usbActive.usbReply (some [boolByte (s.field F.USB_STATUS_STATE == 3)]))

/-- GET_INTERFACE (R366): interface 0 has the alternate 0 only. -/
def execGetInterface (s : State) : Out := .next (s.onUsb fun s => s.usbActive.usbReply (some [0]))

/-- SET_INTERFACE with alternate 0 (R366). -/
def execSetInterface (s : State) : Out := .next (s.onUsb fun s => (s.usbActive.usbUnhalt).usbReply (some []))

/-- ENDPOINT_HALT of endpoint 0x81, or of 0x01, set or cleared (R366). -/
def State.usbHalt (s : State) (inEp x : Bool) : State :=
  let s := s.usbActive.usbReply (some [])
  if inEp then { s with usb := { s.usb with haltIn := x } } else { s with usb := { s.usb with haltOut := x } }

/-- CLEAR_FEATURE of ENDPOINT_HALT (R366). -/
def execClearFeature (inEp : Bool) (s : State) : Out := .next (s.onUsb fun s => s.usbHalt inEp false)

/-- SET_FEATURE of ENDPOINT_HALT (R366). -/
def execSetFeature (inEp : Bool) (s : State) : Out := .next (s.onUsb fun s => s.usbHalt inEp true)

/-- USB_STALLED_REQUEST (R366). -/
def execUsbStalledRequest (s : State) : Out := .next (s.onUsb fun s => s.usbActive.usbReply none)

/-- The eight bytes of GET_INFO (R367). -/
def State.infoBytes (s : State) : List Byte :=
  let (o, t) := match s.svc.session with
    | some x => (1, x.transport.code)
    | none => (0, 0)
  [0x03] ++ beBytes 2 529 ++ [byte o, byte t] ++ beBytes 2 s.svc.chunks.length ++ [0x00]

/-- GET_INFO (R367): answered without the policy core. -/
def execGetInfo (s : State) : Out := .next (s.onUsb fun s => s.usbActive.usbReply (some s.infoBytes))

/-- ABORT (R367): an unread answer is discarded; an accepted command goes on. -/
def execAbort (s : State) : Out :=
  .next (s.onUsb fun s =>
    let s := s.usbActive.usbReply (some [])
    { s with svc := { s.svc with usbAns := none } })

/-- UART_FRAME_GAP (R372): the partial frame is discarded, and a command counts only when its frame is whole. -/
def execUartFrameGap (s : State) : Out := .next s

end Sys2Proof.Machine
end

