-- ==== Sys2Proof/Machine/Verdict.lean ====
section
/-!
DEFINITION. The verdict engine's commands (R204 to R219): RESERVE, the curfew's end, and the steps of a proof test.
-/

namespace Sys2Proof.Machine

/-- RESERVE_FORM (R205, R207): every 60 s, by the policy core. -/
def execReserveForm (s : State) : Out := .next (s.when (s.live && s.boot.core) State.formReserve)

/-- CURFEW_END (R215): the curfew is over, or local time has become valid outside it. -/
def execCurfewEnd (s : State) : Out :=
  .next (s.when (s.live && s.boot.core && s.timeValid && !s.inCurfew && !s.vdt.held.isEmpty) State.releaseHeld)

/-- The scheduled start lies less than 24 h ahead. -/
def State.liftDue (s : State) : Bool :=
  match s.untilPlan with
  | some t => decide (t ≤ 86400) && !s.vdt.lifted && s.vdt.proof.isNone
  | none => false

/-- PROOF_LIFT (R216): CHG_TGT becomes max(S_T, S_B + d + 3.0 %). -/
def execProofLift (s : State) : Out :=
  .next (s.when (s.live && s.boot.core && s.liftDue) fun s =>
    { s with vdt := { s.vdt with lifted := true } }.setTarget
      (min 1000 (max (s.regN R.CHG_TGT) (s.regN R.CHG_BALSOC + doseSoc (s.regN R.VDT_DOSE) + 30))) 1)

/-- PROOF_CHECKS (R216, R217): at the scheduled start, or for a request; never twice on one calendar day. -/
def execProofChecks (s : State) : Out :=
  .next (s.when (s.live && s.boot.core && s.vdt.proof.isNone && !s.ranToday) fun s =>
    if s.vdt.requested then s.proofChecks true
    else if s.planDue then { s with vdt := { s.vdt with checkedAt := some s.now } }.proofChecks false
    else s)

/-- PROOF_DEFER_EXPIRY (R217): 30 min after the ALARM overlay has cleared. -/
def execProofDeferExpiry (s : State) : Out :=
  .next (s.when (s.live && s.boot.core && s.vdt.proof.isNone && s.elapsed s.vdt.deferDue && !s.ranToday) fun s =>
    match s.vdt.deferred with
    | some (req, _) => s.proofChecks req
    | none => s)

/-- PROOF_CAPACITY_BEGIN (R216): at T0 + 15 min; Q as the 1-minute records give it (R218). -/
def execProofCapacityBegin (s : State) : Out :=
  .next (s.when (s.live && s.boot.core) fun s =>
    match s.vdt.proof with
    | none => s
    | some p =>
      if p.step < 4 && decide (p.t0 + secTicks 900 ≤ s.now) then
        let s := { s with vdt := { s.vdt with
          proof := some { p with step := 4, q0 := s.lastQ p, capAt := some s.now } } }
        s.mbCapBegin .firmware
      else s)

/-- PROOF_DISCHARGE_START (R216): 1.1 s after the capacity began the load is on and the source draw zero; the cell carries
VSYS. -/
def execProofDischargeStart (s : State) : Out :=
  .next (s.when (s.live && s.boot.core) fun s =>
    match s.vdt.proof with
    | none => s
    | some p =>
      if p.step = 4 && s.elapsed (p.capAt.map (· + msTicks 1100)) then
        { s with vdt := { s.vdt with proof := some { p with step := 5, load := true } } }.batfetIdeal.holdInput.tetHold
      else s)

/-- PROOF_DISCHARGE_END (R216, R218): the first stop condition; BAT in mV. -/
def execProofDischargeEnd (bat : Nat) (s : State) : Out :=
  .next (s.when (s.live && s.boot.core) fun s =>
    match s.vdt.proof with
    | none => s
    | some p =>
      if p.load && s.dischargeEnds p bat then
        let s := { s with vdt := { s.vdt with
          proof := some { p with step := 8, load := false, collapse := s.collapsed bat } } }
        (s.setBat bat).mbCapEnd .firmware
      else s)

/-- PROOF_END (R216, R219): WB_CAPACITY has been accepted. -/
def execProofEnd (s : State) : Out :=
  .next (s.when (s.live && s.boot.core) fun s =>
    match s.vdt.proof with
    | none => s
    | some p =>
      if 4 ≤ p.step then
        match s.testRecord p 5 with
        | some r => s.proofEnd p r
        | none => s
      else s)

end Sys2Proof.Machine
end

