-- ==== Sys2Proof/Machine/Dispatch.lean ====
section
/-!
DEFINITION. One arm per command: each calls its meaning.
-/

namespace Sys2Proof.Machine

def exec (i : Instr) (s : State) : Host.Outcome State Fault Refusal :=
  match i with
  | .powerOnResetRelease chemR addrR bat source => Sys2Proof.Machine.execPowerOnResetRelease chemR addrR bat source s
  | .imageHeadersRead a oneByte probes => Sys2Proof.Machine.execImageHeadersRead a oneByte probes s
  | .imageBodyReadDone body => Sys2Proof.Machine.execImageBodyReadDone body s
  | .portcAttemptFail dev freed => Sys2Proof.Machine.execPortcAttemptFail dev freed s
  | .backgroundCopyCheckDone body => Sys2Proof.Machine.execBackgroundCopyCheckDone body s
  | .warmReset cause => Sys2Proof.Machine.execWarmReset cause s
  | .coreReset cause => Sys2Proof.Machine.execCoreReset cause s
  | .sysResetWarm via => Sys2Proof.Machine.execSysResetWarm via s
  | .sysResetCore via => Sys2Proof.Machine.execSysResetCore via s
  | .resetRefused via v => Sys2Proof.Machine.execResetRefused via v s
  | .sysShip via => Sys2Proof.Machine.execSysShip via s
  | .shipExitWake ms source bat ends => Sys2Proof.Machine.execShipExitWake ms source bat ends s
  | .shipExitSource x mv ms attached bat => Sys2Proof.Machine.execShipExitSource x mv ms attached bat s
  | .hornReady vhorn => Sys2Proof.Machine.execHornReady vhorn s
  | .hornFail vhorn vsys => Sys2Proof.Machine.execHornFail vhorn vsys s
  | .discGlitch samples => Sys2Proof.Machine.execDiscGlitch samples s
  | .discFault c samples => Sys2Proof.Machine.execDiscFault c samples s
  | .alarmFrameRx addr kind data c => Sys2Proof.Machine.execAlarmFrameRx addr kind data c s
  | .clearFrameRx addr data c => Sys2Proof.Machine.execClearFrameRx addr data c s
  | .remoteTimeout addr => Sys2Proof.Machine.execRemoteTimeout addr s
  | .almCtrlHush via => Sys2Proof.Machine.execAlmCtrlHush via s
  | .hushFrameRx addr data c => Sys2Proof.Machine.execHushFrameRx addr data c s
  | .vauxUndervoltage vaux => Sys2Proof.Machine.execVauxUndervoltage vaux s
  | .nrstoRelease vaux => Sys2Proof.Machine.execNrstoRelease vaux s
  | .sourceQualify x mv ticks => Sys2Proof.Machine.execSourceQualify x mv ticks s
  | .inputCollapseTrip x mv => Sys2Proof.Machine.execInputCollapseTrip x mv s
  | .reverseTrip x mv vmux => Sys2Proof.Machine.execReverseTrip x mv vmux s
  | .inputOvTrip x mv => Sys2Proof.Machine.execInputOvTrip x mv s
  | .vsysOvTrip vsys => Sys2Proof.Machine.execVsysOvTrip vsys s
  | .tetSinkCutoff vtet => Sys2Proof.Machine.execTetSinkCutoff vtet s
  | .vpvLowPowerLoss mv uw ticks => Sys2Proof.Machine.execVpvLowPowerLoss mv uw ticks s
  | .vmuxSafe vmux src => Sys2Proof.Machine.execVmuxSafe vmux src s
  | .safelowTimeout vmux => Sys2Proof.Machine.execSafelowTimeout vmux s
  | .changeoverComplete vmux us => Sys2Proof.Machine.execChangeoverComplete vmux us s
  | .idealDiodeConduct vsys bat ma => Sys2Proof.Machine.execIdealDiodeConduct vsys bat ma s
  | .batfetTrip ma vsys => Sys2Proof.Machine.execBatfetTrip ma vsys s
  | .linearEnd bat => Sys2Proof.Machine.execLinearEnd bat s
  | .vpvPoStep up => Sys2Proof.Machine.execVpvPoStep up s
  | .vpvOcCheckEnd mv => Sys2Proof.Machine.execVpvOcCheckEnd mv s
  | .srcEnWrite via v => Sys2Proof.Machine.execSrcEnWrite via v s
  | .srcRankWrite via v => Sys2Proof.Machine.execSrcRankWrite via v s
  | .mainRegionChange vmux => Sys2Proof.Machine.execMainRegionChange vmux s
  | .tetSourceFoldback vtet => Sys2Proof.Machine.execTetSourceFoldback vtet s
  | .tetShort vtet ma => Sys2Proof.Machine.execTetShort vtet ma s
  | .hswOcp vhorn ma => Sys2Proof.Machine.execHswOcp vhorn ma s
  | .auxShort vaux => Sys2Proof.Machine.execAuxShort vaux s
  | .vauxOff vsys => Sys2Proof.Machine.execVauxOff vsys s
  | .convAuxWrite via v => Sys2Proof.Machine.execConvAuxWrite via v s
  | .keepLatchClear bat => Sys2Proof.Machine.execKeepLatchClear bat s
  | .vsysLadder vsys => Sys2Proof.Machine.execVsysLadder vsys s
  | .chgDetectDone bat peak => Sys2Proof.Machine.execChgDetectDone bat peak s
  | .chgPreconditionDone bat => Sys2Proof.Machine.execChgPreconditionDone bat s
  | .chgCvEntry bat => Sys2Proof.Machine.execChgCvEntry bat s
  | .chgTermCurrent bat => Sys2Proof.Machine.execChgTermCurrent bat s
  | .chgTopupStart bat => Sys2Proof.Machine.execChgTopupStart bat s
  | .chgSuspend c => Sys2Proof.Machine.execChgSuspend c s
  | .chgResume bat => Sys2Proof.Machine.execChgResume bat s
  | .chgBatOv bat => Sys2Proof.Machine.execChgBatOv bat s
  | .chgFaultAutoclear bat => Sys2Proof.Machine.execChgFaultAutoclear bat s
  | .chgClrfault via => Sys2Proof.Machine.execChgClrfault via s
  | .chgFullRequest via => Sys2Proof.Machine.execChgFullRequest via s
  | .ntcReading a b => Sys2Proof.Machine.execNtcReading a b s
  | .chgSocWrite soc valid => Sys2Proof.Machine.execChgSocWrite soc valid s
  | .ballastRecompute => Sys2Proof.Machine.execBallastRecompute s
  | .wbStart romOk calOk refOk => Sys2Proof.Machine.execWbStart romOk calOk refOk s
  | .vwbBrownout duringRelease => Sys2Proof.Machine.execVwbBrownout duringRelease s
  | .vwbEarlyWarning m => Sys2Proof.Machine.execVwbEarlyWarning m s
  | .wbCheckpoint m => Sys2Proof.Machine.execWbCheckpoint m s
  | .wbPeriodicDue m bat amps t => Sys2Proof.Machine.execWbPeriodicDue m bat amps t s
  | .wbWboCheck bad => Sys2Proof.Machine.execWbWboCheck bad s
  | .wbReferenceCheck bad => Sys2Proof.Machine.execWbReferenceCheck bad s
  | .wbRecordAccepted v => Sys2Proof.Machine.execWbRecordAccepted v s
  | .snapshot req => Sys2Proof.Machine.execSnapshot req s
  | .sweep req => Sys2Proof.Machine.execSweep req s
  | .capBegin req => Sys2Proof.Machine.execCapBegin req s
  | .capEnd req => Sys2Proof.Machine.execCapEnd req s
  | .setPeriod req => Sys2Proof.Machine.execSetPeriod req s
  | .setCell req => Sys2Proof.Machine.execSetCell req s
  | .wbMailboxIdent req => Sys2Proof.Machine.execWbMailboxIdent req s
  | .calibrate req => Sys2Proof.Machine.execCalibrate req s
  | .wbMailboxReset req => Sys2Proof.Machine.execWbMailboxReset req s
  | .wbCmdUnknown code => Sys2Proof.Machine.execWbCmdUnknown code s
  | .snapDone m x => Sys2Proof.Machine.execSnapDone m x s
  | .sweepDone points peak ntca ntcb => Sys2Proof.Machine.execSweepDone points peak ntca ntcb s
  | .capRelaxDone m => Sys2Proof.Machine.execCapRelaxDone m s
  | .calDone v => Sys2Proof.Machine.execCalDone v s
  | .wbRdselWrite via v => Sys2Proof.Machine.execWbRdselWrite via v s
  | .wbRddataRead via n => Sys2Proof.Machine.execWbRddataRead via n s
  | .vdtNoteRead via n => Sys2Proof.Machine.execVdtNoteRead via n s
  | .proofDischargeEnd bat => Sys2Proof.Machine.execProofDischargeEnd bat s
  | .proofreq via => Sys2Proof.Machine.execProofreq via s
  | .tetFrameSent f => Sys2Proof.Machine.execTetFrameSent f s
  | .tetFrameRefused f x => Sys2Proof.Machine.execTetFrameRefused f x s
  | .tetArbLost f => Sys2Proof.Machine.execTetArbLost f s
  | .tetRxError bits carrier => Sys2Proof.Machine.execTetRxError bits carrier s
  | .linkConditionChange vtet => Sys2Proof.Machine.execLinkConditionChange vtet s
  | .guardTrip cause => Sys2Proof.Machine.execGuardTrip cause s
  | .heartbeatRx addr data c => Sys2Proof.Machine.execHeartbeatRx addr data c s
  | .peerMissing addr => Sys2Proof.Machine.execPeerMissing addr s
  | .census via => Sys2Proof.Machine.execCensus via s
  | .censusRequestRx addr c => Sys2Proof.Machine.execCensusRequestRx addr c s
  | .claimRx addr uid c => Sys2Proof.Machine.execClaimRx addr uid c s
  | .faultFrameRx addr data c => Sys2Proof.Machine.execFaultFrameRx addr data c s
  | .readdr via => Sys2Proof.Machine.execReaddr via s
  | .linktest via => Sys2Proof.Machine.execLinktest via s
  | .linkTestRx addr data c => Sys2Proof.Machine.execLinkTestRx addr data c s
  | .linkEchoRx addr data c => Sys2Proof.Machine.execLinkEchoRx addr data c s
  | .marketFrameRx f c => Sys2Proof.Machine.execMarketFrameRx f c s
  | .offerPost tent pOff left => Sys2Proof.Machine.execOfferPost tent pOff left s
  | .bidPost addr req => Sys2Proof.Machine.execBidPost addr req s
  | .firmSend grant left => Sys2Proof.Machine.execFirmSend grant left s
  | .withdrawSend kind addr => Sys2Proof.Machine.execWithdrawSend kind addr s
  | .mktLapse addr isBid => Sys2Proof.Machine.execMktLapse addr isBid s
  | .mktCfgWrite via v => Sys2Proof.Machine.execMktCfgWrite via v s
  | .mktStallselWrite via v => Sys2Proof.Machine.execMktStallselWrite via v s
  | .mktStalltagWrite via v => Sys2Proof.Machine.execMktStalltagWrite via v s
  | .clrcnt via => Sys2Proof.Machine.execClrcnt via s
  | .ledgerRecordAccept v => Sys2Proof.Machine.execLedgerRecordAccept v s
  | .ledgerCommit v => Sys2Proof.Machine.execLedgerCommit v s
  | .flush via => Sys2Proof.Machine.execFlush via s
  | .lgrReadExact via => Sys2Proof.Machine.execLgrReadExact via s
  | .lgrReadNext via => Sys2Proof.Machine.execLgrReadNext via s
  | .lgrReadNextpin via => Sys2Proof.Machine.execLgrReadNextpin via s
  | .lgrRddataRead via n => Sys2Proof.Machine.execLgrRddataRead via n s
  | .lgrHostPost via v => Sys2Proof.Machine.execLgrHostPost via v s
  | .cmdAccept v => Sys2Proof.Machine.execCmdAccept v s
  | .cmdBusy b code => Sys2Proof.Machine.execCmdBusy b code s
  | .mainConverterFault vsys mv => Sys2Proof.Machine.execMainConverterFault vsys mv s
  | .tcAttach pin adv vbus low ticks => Sys2Proof.Machine.execTcAttach pin adv vbus low ticks s
  | .debugAccessoryAttach vbus low ticks => Sys2Proof.Machine.execDebugAccessoryAttach vbus low ticks s
  | .tcDetach vbus ticks => Sys2Proof.Machine.execTcDetach vbus ticks s
  | .advertisementChange adv ticks => Sys2Proof.Machine.execAdvertisementChange adv ticks s
  | .bc12Done result => Sys2Proof.Machine.execBc12Done result s
  | .sourceCapabilitiesRx h objs posted => Sys2Proof.Machine.execSourceCapabilitiesRx h objs posted s
  | .acceptRx h => Sys2Proof.Machine.execAcceptRx h s
  | .psRdyRx h => Sys2Proof.Machine.execPsRdyRx h s
  | .waitRejectRx h => Sys2Proof.Machine.execWaitRejectRx h s
  | .getSinkCapRx h => Sys2Proof.Machine.execGetSinkCapRx h s
  | .softResetRx h => Sys2Proof.Machine.execSoftResetRx h s
  | .getRevisionRx h => Sys2Proof.Machine.execGetRevisionRx h s
  | .alertRx h => Sys2Proof.Machine.execAlertRx h s
  | .bistRx h mode => Sys2Proof.Machine.execBistRx h mode s
  | .swapRequestRx h => Sys2Proof.Machine.execSwapRequestRx h s
  | .unsupportedMessageRx h kind svid pos cmd => Sys2Proof.Machine.execUnsupportedMessageRx h kind svid pos cmd s
  | .discoverIdentity h => Sys2Proof.Machine.execDiscoverIdentity h s
  | .discoverSvids h => Sys2Proof.Machine.execDiscoverSvids h s
  | .discoverModes h svid => Sys2Proof.Machine.execDiscoverModes h svid s
  | .enterMode h svid pos => Sys2Proof.Machine.execEnterMode h svid pos s
  | .exitMode h svid pos => Sys2Proof.Machine.execExitMode h svid pos s
  | .take on => Sys2Proof.Machine.execTake on s
  | .reneg via => Sys2Proof.Machine.execReneg via s
  | .getcaps via => Sys2Proof.Machine.execGetcaps via s
  | .exitsvc via => Sys2Proof.Machine.execExitsvc via s
  | .usbBusReset setup chunk => Sys2Proof.Machine.execUsbBusReset setup chunk s
  | .usbResume sof => Sys2Proof.Machine.execUsbResume sof s
  | .getStatus recip ep => Sys2Proof.Machine.execGetStatus recip ep s
  | .getDescriptor typ idx lang len => Sys2Proof.Machine.execGetDescriptor typ idx lang len s
  | .setAddress a => Sys2Proof.Machine.execSetAddress a s
  | .setConfiguration n => Sys2Proof.Machine.execSetConfiguration n s
  | .clearFeature inEp => Sys2Proof.Machine.execClearFeature inEp s
  | .setFeature inEp => Sys2Proof.Machine.execSetFeature inEp s
  | .openSession b code => Sys2Proof.Machine.execOpenSession b code s
  | .closeSession b => Sys2Proof.Machine.execCloseSession b s
  | .buniliaIdent b => Sys2Proof.Machine.execBuniliaIdent b s
  | .regRead b addr n => Sys2Proof.Machine.execRegRead b addr n s
  | .regWrite b addr v keyed => Sys2Proof.Machine.execRegWrite b addr v keyed s
  | .lgrRead b seq mode n => Sys2Proof.Machine.execLgrRead b seq mode n s
  | .stallRead b addr => Sys2Proof.Machine.execStallRead b addr s
  | .wbRead b typ => Sys2Proof.Machine.execWbRead b typ s
  | .wbSnapshot b => Sys2Proof.Machine.execWbSnapshot b s
  | .wbCalibrate b ma => Sys2Proof.Machine.execWbCalibrate b ma s
  | .imgStage b offset data => Sys2Proof.Machine.execImgStage b offset data s
  | .imgWrite b resetAfter => Sys2Proof.Machine.execImgWrite b resetAfter s
  | .fwBegin b total => Sys2Proof.Machine.execFwBegin b total s
  | .fwChunk b offset data => Sys2Proof.Machine.execFwChunk b offset data s
  | .fwWrite b => Sys2Proof.Machine.execFwWrite b s
  | .fwActivate b slot raiseFloor => Sys2Proof.Machine.execFwActivate b slot raiseFloor s
  | .buniliaReset b target => Sys2Proof.Machine.execBuniliaReset b target s
  | .buniliaShip b => Sys2Proof.Machine.execBuniliaShip b s
  | .cellNew b => Sys2Proof.Machine.execCellNew b s
  | .proofReq b => Sys2Proof.Machine.execProofReq b s
  | .buniliaUnknown b code => Sys2Proof.Machine.execBuniliaUnknown b code s
  | .svcCtrlClose via => Sys2Proof.Machine.execSvcCtrlClose via s
  | .optPreambleDetect amb => Sys2Proof.Machine.execOptPreambleDetect amb s
  | .optFlood amb => Sys2Proof.Machine.execOptFlood amb s
  | .optSettleEnd amb => Sys2Proof.Machine.execOptSettleEnd amb s
  | .optAnsdataRead via n => Sys2Proof.Machine.execOptAnsdataRead via n s
  | .twbAddressWake addr => Sys2Proof.Machine.execTwbAddressWake addr s
  | .twbClockLowTimeout ticks => Sys2Proof.Machine.execTwbClockLowTimeout ticks s
  | .twbSdaRelease ticks => Sys2Proof.Machine.execTwbSdaRelease ticks s
  | .twbPecWrite addr ptr data pec => Sys2Proof.Machine.execTwbPecWrite addr ptr data pec s
  | .twbPushStart freed => Sys2Proof.Machine.execTwbPushStart freed s
  | .cfgWriteStart via => Sys2Proof.Machine.execCfgWriteStart via s
  | .cfgWriteReset via => Sys2Proof.Machine.execCfgWriteReset via s
  | .imageWriteDone back => Sys2Proof.Machine.execImageWriteDone back s
  | .cfgStgaddrWrite via v => Sys2Proof.Machine.execCfgStgaddrWrite via v s
  | .cfgStgdataAccess via v n => Sys2Proof.Machine.execCfgStgdataAccess via v n s
  | .registerWrite via ptr data half => Sys2Proof.Machine.execRegisterWrite via ptr data half s
  | .setAliasWrite via a v => Sys2Proof.Machine.execSetAliasWrite via a v s
  | .clearAliasWrite via a v => Sys2Proof.Machine.execClearAliasWrite via a v s
  | .toggleAliasWrite via a v => Sys2Proof.Machine.execToggleAliasWrite via a v s
  | .rcRegisterRead via ptr n late => Sys2Proof.Machine.execRcRegisterRead via ptr n late s
  | .keyArm via a v => Sys2Proof.Machine.execKeyArm via a v s
  | .cfgCommit via => Sys2Proof.Machine.execCfgCommit via s
  | .cfgDiscard via => Sys2Proof.Machine.execCfgDiscard via s
  | .cfgLock via => Sys2Proof.Machine.execCfgLock via s
  | .cfgCheckPass upsets => Sys2Proof.Machine.execCfgCheckPass upsets s
  | .pageselWrite via v => Sys2Proof.Machine.execPageselWrite via v s
  | .snapTake via reading => Sys2Proof.Machine.execSnapTake via reading s
  | .xtalStartTimeout cause ppm => Sys2Proof.Machine.execXtalStartTimeout cause ppm s
  | .oscFault osc cause ppm => Sys2Proof.Machine.execOscFault osc cause ppm s
  | .oscRetry osc good => Sys2Proof.Machine.execOscRetry osc good s
  | .oscCrossCheck xtal lfo hfo wdo => Sys2Proof.Machine.execOscCrossCheck xtal lfo hfo wdo s
  | .clkTimesetWrite via hi mid lo => Sys2Proof.Machine.execClkTimesetWrite via hi mid lo s
  | .syncRx addr time ago c => Sys2Proof.Machine.execSyncRx addr time ago c s
  | .hwdKick via v => Sys2Proof.Machine.execHwdKick via v s
  | .hwdConfigWrite via v => Sys2Proof.Machine.execHwdConfigWrite via v s
  | .pwdKick v => Sys2Proof.Machine.execPwdKick v s
  | .pwdWaitEnd ticks => Sys2Proof.Machine.execPwdWaitEnd ticks s
  | .thmReading l => Sys2Proof.Machine.execThmReading l s
  | .thmShutdown idx reading => Sys2Proof.Machine.execThmShutdown idx reading s
  | .powerLoss intake commit => Sys2Proof.Machine.execPowerLoss intake commit s
  | .wakePinChange high => Sys2Proof.Machine.execWakePinChange high s
  | .buniliaBadframe t frame => Sys2Proof.Machine.execBuniliaBadframe t frame s
  | .statusMessageRx h data => Sys2Proof.Machine.execStatusMessageRx h data s
  | .ledgerReplayComplete => Sys2Proof.Machine.execLedgerReplayComplete s
  | .portcRetry => Sys2Proof.Machine.execPortcRetry s
  | .secureStart => Sys2Proof.Machine.execSecureStart s
  | .shipDelayExpiry => Sys2Proof.Machine.execShipDelayExpiry s
  | .shipArmExpiry => Sys2Proof.Machine.execShipArmExpiry s
  | .alarmPinEdge => Sys2Proof.Machine.execAlarmPinEdge s
  | .sysClockRequestWithdraw => Sys2Proof.Machine.execSysClockRequestWithdraw s
  | .localAlarmStart => Sys2Proof.Machine.execLocalAlarmStart s
  | .alarmCopyDue => Sys2Proof.Machine.execAlarmCopyDue s
  | .discBroadcast => Sys2Proof.Machine.execDiscBroadcast s
  | .discClear => Sys2Proof.Machine.execDiscClear s
  | .localAlarmEnd => Sys2Proof.Machine.execLocalAlarmEnd s
  | .hornRelease => Sys2Proof.Machine.execHornRelease s
  | .hushPress => Sys2Proof.Machine.execHushPress s
  | .hushTimerExpiry => Sys2Proof.Machine.execHushTimerExpiry s
  | .vauxHoldExpiry => Sys2Proof.Machine.execVauxHoldExpiry s
  | .vsysOvRestart => Sys2Proof.Machine.execVsysOvRestart s
  | .plannedChangeoverBegin => Sys2Proof.Machine.execPlannedChangeoverBegin s
  | .safelowRetry => Sys2Proof.Machine.execSafelowRetry s
  | .supplementStart => Sys2Proof.Machine.execSupplementStart s
  | .supplementEnd => Sys2Proof.Machine.execSupplementEnd s
  | .batfetRetry => Sys2Proof.Machine.execBatfetRetry s
  | .vpvOcCheck => Sys2Proof.Machine.execVpvOcCheck s
  | .tetModeChange => Sys2Proof.Machine.execTetModeChange s
  | .tetSourceRetry => Sys2Proof.Machine.execTetSourceRetry s
  | .hswReclose => Sys2Proof.Machine.execHswReclose s
  | .auxRestart => Sys2Proof.Machine.execAuxRestart s
  | .chgDetect => Sys2Proof.Machine.execChgDetect s
  | .chgAbsentRetry => Sys2Proof.Machine.execChgAbsentRetry s
  | .chgTargetReached => Sys2Proof.Machine.execChgTargetReached s
  | .chgTimeoutFault => Sys2Proof.Machine.execChgTimeoutFault s
  | .ntcDisagree => Sys2Proof.Machine.execNtcDisagree s
  | .chgSocStale => Sys2Proof.Machine.execChgSocStale s
  | .chgResumeTimeout => Sys2Proof.Machine.execChgResumeTimeout s
  | .wbWatchdogExpiry => Sys2Proof.Machine.execWbWatchdogExpiry s
  | .wbCurrentOverrange => Sys2Proof.Machine.execWbCurrentOverrange s
  | .wbRecordRelease => Sys2Proof.Machine.execWbRecordRelease s
  | .sweepHoldoffExpiry => Sys2Proof.Machine.execSweepHoldoffExpiry s
  | .capDischargeTimeout => Sys2Proof.Machine.execCapDischargeTimeout s
  | .reserveForm => Sys2Proof.Machine.execReserveForm s
  | .curfewEnd => Sys2Proof.Machine.execCurfewEnd s
  | .proofLift => Sys2Proof.Machine.execProofLift s
  | .proofChecks => Sys2Proof.Machine.execProofChecks s
  | .proofDeferExpiry => Sys2Proof.Machine.execProofDeferExpiry s
  | .proofCapacityBegin => Sys2Proof.Machine.execProofCapacityBegin s
  | .proofDischargeStart => Sys2Proof.Machine.execProofDischargeStart s
  | .proofEnd => Sys2Proof.Machine.execProofEnd s
  | .tetThresholdReset => Sys2Proof.Machine.execTetThresholdReset s
  | .guardSilenceEnd => Sys2Proof.Machine.execGuardSilenceEnd s
  | .heartbeatDue => Sys2Proof.Machine.execHeartbeatDue s
  | .censusAnswerDue => Sys2Proof.Machine.execCensusAnswerDue s
  | .addrListenEnd => Sys2Proof.Machine.execAddrListenEnd s
  | .addrHold v => Sys2Proof.Machine.execAddrHold v s
  | .addrRelisten => Sys2Proof.Machine.execAddrRelisten s
  | .levelAlarmStart => Sys2Proof.Machine.execLevelAlarmStart s
  | .levelAlarmEnd => Sys2Proof.Machine.execLevelAlarmEnd s
  | .mktRefreshDue => Sys2Proof.Machine.execMktRefreshDue s
  | .bidRetry => Sys2Proof.Machine.execBidRetry s
  | .tentmaxExpiry => Sys2Proof.Machine.execTentmaxExpiry s
  | .isrcHoldEnd => Sys2Proof.Machine.execIsrcHoldEnd s
  | .cutoffReturn => Sys2Proof.Machine.execCutoffReturn s
  | .stallWriteback v => Sys2Proof.Machine.execStallWriteback v s
  | .tallyWindowExpiry => Sys2Proof.Machine.execTallyWindowExpiry s
  | .lgrReadDone => Sys2Proof.Machine.execLgrReadDone s
  | .supplyEarlyWarning n m => Sys2Proof.Machine.execSupplyEarlyWarning n m s
  | .cmdReplay => Sys2Proof.Machine.execCmdReplay s
  | .ccRpDetect => Sys2Proof.Machine.execCcRpDetect s
  | .attachwaitAbandon ticks => Sys2Proof.Machine.execAttachwaitAbandon ticks s
  | .bc12Start => Sys2Proof.Machine.execBc12Start s
  | .pdRequestRetry => Sys2Proof.Machine.execPdRequestRetry s
  | .pdRefusalExpiry => Sys2Proof.Machine.execPdRefusalExpiry s
  | .bistCarrierEnd => Sys2Proof.Machine.execBistCarrierEnd s
  | .hardResetRx => Sys2Proof.Machine.execHardResetRx s
  | .pdSenderResponseTimeout => Sys2Proof.Machine.execPdSenderResponseTimeout s
  | .pdSinkWaitCapTimeout => Sys2Proof.Machine.execPdSinkWaitCapTimeout s
  | .pdPsTransitionTimeout => Sys2Proof.Machine.execPdPsTransitionTimeout s
  | .pdReceiveTimeout => Sys2Proof.Machine.execPdReceiveTimeout s
  | .pdNoResponse => Sys2Proof.Machine.execPdNoResponse s
  | .pdHardResetVbusTimeout => Sys2Proof.Machine.execPdHardResetVbusTimeout s
  | .ppsKeepalive => Sys2Proof.Machine.execPpsKeepalive s
  | .fallbackRequest => Sys2Proof.Machine.execFallbackRequest s
  | .usbConnect => Sys2Proof.Machine.execUsbConnect s
  | .usbNohost => Sys2Proof.Machine.execUsbNohost s
  | .usbSuspend => Sys2Proof.Machine.execUsbSuspend s
  | .getConfiguration => Sys2Proof.Machine.execGetConfiguration s
  | .getInterface => Sys2Proof.Machine.execGetInterface s
  | .setInterface => Sys2Proof.Machine.execSetInterface s
  | .usbStalledRequest => Sys2Proof.Machine.execUsbStalledRequest s
  | .getInfo => Sys2Proof.Machine.execGetInfo s
  | .abort => Sys2Proof.Machine.execAbort s
  | .uartFrameGap => Sys2Proof.Machine.execUartFrameGap s
  | .fwActivateResume => Sys2Proof.Machine.execFwActivateResume s
  | .sessionTimeout => Sys2Proof.Machine.execSessionTimeout s
  | .svcLockoutExpiry => Sys2Proof.Machine.execSvcLockoutExpiry s
  | .floorRaise v => Sys2Proof.Machine.execFloorRaise v s
  | .optListenTimeout => Sys2Proof.Machine.execOptListenTimeout s
  | .optFrameRx half => Sys2Proof.Machine.execOptFrameRx half s
  | .optFrameError half => Sys2Proof.Machine.execOptFrameError half s
  | .twbAwakeExpiry => Sys2Proof.Machine.execTwbAwakeExpiry s
  | .twbPushDue => Sys2Proof.Machine.execTwbPushDue s
  | .twbPushDone => Sys2Proof.Machine.execTwbPushDone s
  | .twbPushFail => Sys2Proof.Machine.execTwbPushFail s
  | .twbArbLost => Sys2Proof.Machine.execTwbArbLost s
  | .eepromPageAck => Sys2Proof.Machine.execEepromPageAck s
  | .eepromPageTimeout => Sys2Proof.Machine.execEepromPageTimeout s
  | .groupWriteHoldTimeout => Sys2Proof.Machine.execGroupWriteHoldTimeout s
  | .keyTimeout => Sys2Proof.Machine.execKeyTimeout s
  | .cfgHoldExpiry => Sys2Proof.Machine.execCfgHoldExpiry s
  | .aonWriteApply => Sys2Proof.Machine.execAonWriteApply s
  | .snapUpdateAtStop => Sys2Proof.Machine.execSnapUpdateAtStop s
  | .xtalSwitch => Sys2Proof.Machine.execXtalSwitch s
  | .syncTxDue => Sys2Proof.Machine.execSyncTxDue s
  | .hwdWarn => Sys2Proof.Machine.execHwdWarn s
  | .hwdExpire => Sys2Proof.Machine.execHwdExpire s
  | .pwdWarn => Sys2Proof.Machine.execPwdWarn s
  | .pwdExpire => Sys2Proof.Machine.execPwdExpire s
  | .pwdSlotStable => Sys2Proof.Machine.execPwdSlotStable s
  | .thmFactorRise => Sys2Proof.Machine.execThmFactorRise s
  | .thmRestart => Sys2Proof.Machine.execThmRestart s
  | .hushClearRepeat => Sys2Proof.Machine.execHushClearRepeat s
  | .tsinktxExpiry => Sys2Proof.Machine.execTsinktxExpiry s
  | .chunkingNotSupportedExpiry => Sys2Proof.Machine.execChunkingNotSupportedExpiry s
  | .collapseDetachTimeout => Sys2Proof.Machine.execCollapseDetachTimeout s
  | .freshAttachDebounce ticks => Sys2Proof.Machine.execFreshAttachDebounce ticks s

end Sys2Proof.Machine
end

