-- ==== Sys2Proof/Machine/Measure.lean ====
section
/-!
DEFINITION. What the unit measures every millisecond, whatever is commanded (R128, R129, R152, R171): voltages and currents that
the world decides, each a free value within the bounds that the comparators, the limits and the modes set, and what follows from
them at once: ILIM, VFLOOR, pulse skipping, shedding, BATFET's mode (R109, R119, R134, R136, R148).
-/

namespace Sys2Proof.Machine

/-- The number measured under a key at this tick: a register's address, or a key beyond the register map. -/
def State.meas (s : State) (key : Nat) : Nat := (Config.measured key s.now).toNat

/-- The keys beyond the register map: BAT in mV, the main converter's average inductor current in mA, whether its peak and its
power limit act, how far energy is short, the charge current left, the cell's discharge current in mA, KEEP in mV, the alarm pins,
the power the main converter delivers, in mW. -/
abbrev keyBat : Nat := 0x10000
abbrev keyCoil : Nat := 0x10001
abbrev keyPeak : Nat := 0x10002
abbrev keyShort : Nat := 0x10003
abbrev keyLeft : Nat := 0x10004
abbrev keyOut : Nat := 0x10005
abbrev keyKeep : Nat := 0x10006
abbrev keyPins : Nat := 0x10007
abbrev keyMain : Nat := 0x10008

/-- VTET in 20 mV: within the link's condition (R224), and while the Tether is qualified at or above the cut-off, 18.0 V during an
alarm (R123, R274). -/
def State.measVtet (s : State) : Nat :=
  let up := s.flag F.TET_STATUS_UP
  let inRange := s.flag F.TET_STATUS_INRANGE
  let least := if s.flag F.SRC_STATUS_TET_Q then (if s.flag F.SYS_STATE_ALARM then 900 else 975)
    else if !up then 0 else if inRange then 900 else 600
  clampNat least (if !up then 599 else if inRange then 0xFFFF else 899) (s.meas R.SRC_VTET_V)

/-- A source's voltage as its register shows it, in 20 mV: while it is qualified between the thresholds of the comparators, whose
trips the commands report (R123). -/
def State.measVolt (s : State) (x : Source) : Nat :=
  if x = .tether then s.measVtet
  else if s.qualified x then clampNat (ceilDiv (s.collapseAt x) 20) (overAt x / 20) (s.meas (voltReg x))
  else s.meas (voltReg x)

/-- VMUX in 20 mV: with a switch closed at most 30 mV above its input (R123). -/
def State.measVmux (s : State) : Nat :=
  match s.path.closed with
  | some x => min (s.meas R.PATH_VMUX) (s.regN (voltReg x) + 1)
  | none => s.meas R.PATH_VMUX

/-- VSYS in 20 mV: on the rung of the ladder that the commands have reported, no more than 100 mV below BAT while BATFET can
conduct, never above 18.0 V while a source carries it, nor above the comparator's 18.5 V (R118, R119, R123, R145, R150). -/
def State.measVsys (s : State) : Nat :=
  let m := s.meas R.PATH_VSYS
  if s.conv.auxOff then clampNat 0 139 m
  else if s.conv.vsysLow then clampNat 130 149 m
  else
    clampNat (max 150 (if s.flag F.PATH_STATUS_BATOPEN then 0 else ceilDiv (s.chg.bat - 100) 20))
      (if s.flag F.SYS_STATE_FEED && !s.flag F.PATH_STATUS_SYS_OVP then 900 else 925) m

/-- BAT in mV: within its 17.4 V, and at or above the 1.8 V of the KEEP latch while that is kept (R147). -/
def State.measBat (s : State) : Nat := clampNat (if s.conv.keepOff then 0 else 1800) 17400 (s.meas keyBat)

/-- The voltages measured: the sources, with VBUS seen below 0.8 V since it was lost (R336), BAT, VMUX, VSYS, VHORN, which is 0 V while the boost is off, and KEEP,
which never stands above BAT (R131, R147). -/
def State.measureVolts (s : State) : State :=
  let s := [Source.vin, .vbus, .vpv, .tether].foldl
    (fun (t : State) (x : Source) => t.setReg (voltReg x) (BitVec.ofNat 16 (t.measVolt x))) s
  let s := if s.path.vbusBlocked && decide (s.regN R.SRC_VBUS_V < 40) then s.setFlag F.TC_STATUS_VBUS_LOW true else s
  let s := { s with chg := { s.chg with bat := s.measBat } }
  let s := s.setReg R.PATH_VMUX (BitVec.ofNat 16 s.measVmux)
  let s := s.setReg R.PATH_VSYS (BitVec.ofNat 16 s.measVsys)
  let s := s.setReg R.CONV_HORN_MEAS
    (if s.flag F.CONV_STATUS_HORN_ON then BitVec.ofNat 16 (min 1000 (s.meas R.CONV_HORN_MEAS)) else 0)
  { s with conv := { s.conv with keepMv := if s.keepOn then min s.chg.bat (s.meas keyKeep) else 0 } }

/-- Pulse skipping in automatic mode: below 200 mA of average inductor current, until above 300 mA (R134). -/
def State.skips (s : State) : Bool :=
  s.flag F.CONV_STATUS_MAIN_ON && !s.fixedFreq &&
    (decide (s.meas keyCoil < 200) || (decide (s.meas keyCoil ≤ 300) && s.flag F.CONV_STATUS_MAIN_SKIP))

/-- The currents of the main and the Tether converter measured, each held at its limit (R108, R109, R134, R136, R138, R139). -/
def State.measureConv (s : State) : State :=
  let s := (s.setReg R.SRC_IIN (BitVec.ofNat 16 (s.meas R.SRC_IIN % (s.inputMost / 10 + 1)))).holdInput
  let s := s.setFlag F.CONV_STATUS_MAIN_SKIP s.skips
  let s := if s.flag F.CONV_STATUS_MAIN_ON && bitOf (BitVec.ofNat 16 (s.meas keyPeak)) 0 then s.event F.CONV_EVENT_MAIN_ILIM else s
  let m := s.field F.CONV_STATUS_TET_MODE
  let x := s.meas R.CONV_TET_I
  let i : Int := if m = 2 then -((x % (s.sinkMost + 1) : Nat) : Int)
    else if m = 3 && s.conv.short < 3 then ((x % (s.sourceMost + 1) : Nat) : Int) else 0
  (s.setReg R.CONV_TET_I (ofSigned16 i)).tetHold

/-- The die is not quiet now: the horn boost is on, or the main or the Tether converter delivers 0.5 W or more (R458). -/
def State.loud (s : State) : Bool :=
  s.flag F.CONV_STATUS_HORN_ON || (s.flag F.CONV_STATUS_MAIN_ON && decide (500 ≤ s.meas keyMain)) ||
    decide (500000 ≤ (toSigned16 (s.reg R.CONV_TET_I)).natAbs * 10 * (s.regN R.SRC_VTET_V * 20))

/-- Since when the die has been quiet. -/
def State.measureDie (s : State) : State := if s.loud then { s with thm := { s.thm with loudAt := s.now } } else s

/-- Energy is short (R136, R148): the active source stands at its limit or floor, or the main converter at its peak or 65 W limit;
throttling reduces by itself. -/
def State.isShort (s : State) : Bool :=
  s.flag F.SRC_STATUS_ILIM || s.flag F.SRC_STATUS_VFLOOR ||
    (s.flag F.CONV_STATUS_MAIN_ON && s.meas keyPeak % 4 != 0) ||
    (s.path.closed.isNone && s.field F.CONV_STATUS_TET_MODE == 2 && s.flag F.CONV_STATUS_TET_ILIM) ||
    s.flag F.PATH_STATUS_SUPPLEMENT

/-- What is shed (R148): first charging, then sourcing, then the excitation; how far it must go the loads decide, a free value. A
demand is reduced only once the one below it is zero. -/
def State.measureShed (s : State) : State :=
  let n := if s.isShort then 1 + s.meas keyShort % 3 else 0
  let n := if s.flag F.PATH_STATUS_SUPPLEMENT then 3 else n
  let left := if n = 0 then none else if n = 1 then some (s.meas keyLeft % (s.phaseDemand + 1)) else some 0
  let s := { s with conv := { s.conv with short := n }, chg := { s.chg with left := left } }
  let s := if n = 3 || (s.path.closed.isNone && s.field F.CONV_STATUS_TET_MODE == 2 && s.flag F.CONV_STATUS_TET_ILIM)
    then s.excClip else s
  s.refreshShed

/-- The cell's currents measured: into it, at most what the phase regulates, with the excitation of a sweep free, and out of it
while BATFET conducts as a diode, at most PATH_BATOCP and at least a proof test's load (R121, R171, R216). -/
def State.measureCell (s : State) : State :=
  let s := s.setReg R.CHG_IBAT (BitVec.ofNat 16
    (if s.flag F.CONV_STATUS_EXC then s.meas R.CHG_IBAT else s.meas R.CHG_IBAT % (s.ibatMost + 1)))
  let most := s.power.regN R.PATH_BATOCP * 500
  let out := if s.batfetDiode && !s.flag F.PATH_STATUS_BATOPEN then clampNat (min most s.proofMa) most (s.meas keyOut) else 0
  { s with path := { s.path with outMa := out } }.capTrack s.chg.bat out

/-- The filtered channels at this tick's sample (R58): what the pins hold is free within what the alarm start and end fix, for both
asserted starts a local alarm and both deasserted ends one (R35, R51); while the hold of R34 lasts they stay. -/
def State.sampleChannels (s : State) : State :=
  if s.flag F.ALM_STATUS_VAUXHOLD then s
  else
    let m := s.meas keyPins % 3
    if s.flag F.ALM_STATUS_LOCAL then s.setChannels (m != 1) (m != 2) else s.setChannels (m == 1) (m == 2)

/-- Everything measured, and what follows from it at once: REDUCED, BATFET's mode, a CRITICAL reserve (R166, R118, R207). -/
def State.measure (s : State) : State :=
  let s := ((((s.measureVolts).measureConv).measureDie).measureShed).measureCell
  ((s.refreshReduced).refreshBatfet).chgVerdict

/-- The measurement falls due every millisecond. -/
def State.measureDue (s : State) : State := if s.now % 33 = 0 then s.measure else s

end Sys2Proof.Machine
end

