-- ==== Sys2Proof/Machine/Tick.lean ====
section
/-!
DEFINITION. What the unit does when no command waits: one AON tick passes, and what follows from time alone happens.
-/

namespace Sys2Proof.Machine

/-- The rise of MKT_DRAWCAP after a cut-off ends after 1.000 s (R274). -/
def State.drawRamp (s : State) : State :=
  match s.mkt.rampFrom with
  | some t =>
    if t + secTicks 1 ≤ s.now then { s.setFlag F.MKT_STATUS_RAMP false with mkt := { s.mkt with rampFrom := none } } else s
  | none => s

/-- DESIGN CHOICE: a step that finds no command lets one AON tick pass; in SHIP only the VMUX discharge of its entry ends, and
without supply nothing happens. -/
def State.idle (s : State) : State :=
  if s.phase = .ship then s.shipTick
  else s.whenLive fun s => (((((((((s.tick).rampTick).drawRamp).sampleChannels).measureDue).marketTurn).heldStep).usbUnlock).pushRise).sumFall

end Sys2Proof.Machine
end

