-- ==== Sys2Proof/Safety.lean ====
section
/-!
DEFINITION. What a state of the unit must be: its stores in canonical form, and what no step may change; and the terms in
which statements about commands are made.
-/

namespace Sys2Proof

/-- Who accesses registers over a path. -/
def Via.req : Via → Requester
  | .firmware => .firmware
  | .portH _ => .portH

/-- How many words a read of `n` words over a path returns: the firmware reads one. -/
def Via.count (via : Via) (n : Nat) : Nat :=
  match via with
  | .firmware => 1
  | .portH _ => n

end Sys2Proof

namespace Sys2Proof.Machine

/-- The staging area lists its bytes by rising offset, and no byte 0x00 (R92). -/
def stageWf : List Host.Cell → Bool
  | [] => true
  | c :: l => c.2 != 0 && l.all (fun d => decide (c.1 < d.1)) && stageWf l

/-- Every store of the state is in its canonical form: the register file, both ferroelectric banks, the staging area. -/
def State.canonical (s : State) : Bool :=
  regsWf s.regs && bankWf s.lgr.bankA && bankWf s.lgr.bankB && stageWf s.boot.stage

/-- The pair of states that a command leads from and to keeps what nothing inside the unit can change: the part, and the
commands that wait. -/
def State.sameUnit (s t : State) : Prop := t.part = s.part ∧ t.pending = s.pending

/-! ## The terms of statements about commands -/

/-- The command is carried out in `s` with a next state, and of that state `P` holds. -/
def Gives (c : Instr) (s : State) (P : State → Prop) : Prop := ∃ t, exec c s = .next t ∧ P t

/-- Every register but those listed reads in `t` as it read in `s`. -/
def State.regsKept (s t : State) (l : List Nat) : Prop := ∀ a, a ∉ l → t.reg a = s.reg a

/-- Both ferroelectric banks hold in `t` what they held in `s`. -/
def State.banksKept (s t : State) : Prop := t.lgr.bankA = s.lgr.bankA ∧ t.lgr.bankB = s.lgr.bankB

/-- The Ledger of `t` is that of `s` after exactly one record was handed over to it (R298, R299, R315). -/
def State.hands (s t : State) (k : Kind) (payload : List Byte) : Prop := t.lgr = (s.post k payload).lgr

/-- A record waits in its producer's FIFO. -/
def State.holds (s : State) (k : Kind) (payload : List Byte) : Prop := (⟨k.cls, k.prod, k.typ, payload⟩ : Rec) ∈ s.lgr.waiting

/-- A record of this kind would find room in its producer's FIFO (R315). -/
abbrev State.roomFor (s : State) (k : Kind) : Prop := s.ledgerDead = false ∧ s.lgr.hasRoom k.cls k.prod = true

/-- At most these registers change, where no snapshot waits for the end of a Port H transaction (R438). -/
def State.onlyRegs (s t : State) (l : List Nat) : Prop := s.ra.snapWait = none → s.regsKept t l

/-! ## The Weighbridge -/

/-- The Weighbridge runs, nothing of its own waits, and its queue and its numbers have room (R178, R193, R195). -/
abbrev State.wbFree (s : State) : Prop :=
  s.wb.run = true ∧ s.wb.ended = false ∧ s.wb.held = [] ∧ s.wb.outq.length < 16 ∧ s.wb.seqNum ≠ 0xFFFFFFFF

/-- From `s` to `t` the Weighbridge has released one record of this type: numbered, sealed, last in its queue (R195, R196). -/
def State.releases (s t : State) (typ extra : Nat) (body : List Byte) : Prop :=
  t.wb.seqNum = s.wb.seqNum + 1 ∧
    t.wb.outq = s.wb.outq ++ [Rec.mk (wbClass typ) 0x05 typ
      (s.wbRecord s.wb.seqNum typ extra body ++ wbTag (s.wbRecord s.wb.seqNum typ extra body))]

/-! ## Bunilia and the command queue -/

/-- A Bunilia frame's command as the queue holds it (R319, R370). -/
def bunCmd (b : Bun) (code : Nat) (args : List Byte) : QueuedCmd :=
  ⟨Transport.src b.transport, code, if b.gen2 then b.tag else 0, args, b.gen2⟩

/-- A frame with this command comes in now and somebody serves it: the policy core, or the boot ROM in its place, which serves
generation 2 over the ports of the QTL6410 (R370 to R373, R383). -/
abbrev State.listens (s : State) (b : Bun) (code : Nat) (args : List Byte) : Prop :=
  s.hears b code args = true ∧ s.served = true ∧
    (s.bootRom = true → b.gen2 = true ∧ b.transport ≠ .optical ∧ s.part = .qtl6410)

/-- The frame's command is let through: in a session on its transport, known and carried there (R371 to R377). -/
abbrev State.serves (s : State) (b : Bun) (code : Nat) (args : List Byte) : Prop :=
  s.listens b code args ∧ (code = 0x03 ∨ s.svc.session.map Session.transport = some b.transport) ∧
    s.codeUnknown (bunCmd b code []) = false ∧ s.notCarried (bunCmd b code []) = false

/-- `t` holds this answer to the frame, on the frame's transport (R371, R388). -/
def State.replied (t : State) (b : Bun) (code status seq : Nat) (body : List Byte) : Prop :=
  (b.transport = .usb → t.svc.usbAns = some ⟨code, if b.gen2 then b.tag else 0, b.gen2, status, seq, body⟩) ∧
  (b.transport = .uart → t.svc.uartAns = some ⟨code, if b.gen2 then b.tag else 0, b.gen2, status, seq, body⟩) ∧
  (b.transport = .optical →
    t.opt.buf = Answer.bytes ⟨code, if b.gen2 then b.tag else 0, b.gen2, status, seq, body⟩ ∧ t.opt.pos = 0 ∧
      t.flag F.OPT_STATUS_ANSPEND = true)

/-- A lasting command that arrives now is executed at once: accepted by the Ledger, or with both banks bad without a journal
(R321, R322, R331). -/
abbrev State.takes (s : State) (c : QueuedCmd) : Prop :=
  s.repeated c = none ∧ s.cmdReady = true ∧ s.cmd.queue = [] ∧
    (s.ledgerDead = true ∨ (s.lgr.waiting = [] ∧ s.mayAccept (s.acceptOf c) = true))

/-- A lasting command that arrives now is new and has to wait for its turn (R321, R322). -/
abbrev State.waits (s : State) (c : QueuedCmd) : Prop := s.repeated c = none ∧ ¬s.takes c

/-- The half-bits after the sync word of an optical frame with this payload: the length, the payload and the CRC-16 over both, the most
significant bit of each byte first, 1 low then high and 0 high then low (R386). -/
def optHalves (p : List Byte) : List Bool :=
  (byte p.length :: p ++ beBytes 2 (crc16 (byte p.length :: p))).flatMap fun b : Byte =>
    (List.range 8).flatMap fun i => [!b.getLsbD (7 - i), b.getLsbD (7 - i)]

/-- The sequence a command taken now is given: that of its CMD_ACCEPT, 0 without a journal (R321, R331). -/
def State.seqGiven (s : State) : Nat := if s.ledgerDead then 0 else s.lgr.nextSeq

/-- A write of this value to a command register over this path acts now: the firmware's always, Port H's where its command is
accepted as it arrives (R319, R321). -/
abbrev State.actsNow (s : State) (via : Via) (a : Nat) (v : Word) : Prop :=
  via = .firmware ∨ s.takes ⟨srcPortH, a, 0, beBytes 2 v.toNat, true⟩

/-! ## Power Delivery -/

/-- A message with this header is taken: the port runs, it is no repeat, and no test discards it (R350, R351). -/
abbrev State.pdHears (s : State) (h : PdHeader) : Prop :=
  s.pdOn = true ∧ h.rev ≠ 0 ∧ s.pd.bist ≠ 2 ∧ s.pd.rxId ≠ some h.id

/-! ## Paths to the registers -/

/-- A one-register transaction over this path is served: the core runs; or Port H answers the address, awake, without packet
error checking and with no always-on write on its way (R395 to R403, R436). -/
def State.pathTo (s : State) (via : Via) (form a : Nat) : Bool :=
  match via with
  | .firmware => s.boot.core
  | .portH addr => s.boot.applied && s.portHOn && s.sysRuns && (s.reach addr form a).isSome && !s.pecOn && !s.aonBusy a

/-- The same, with no key armed on the path (R428). -/
def State.reaches (s : State) (via : Via) (form a : Nat) : Bool := s.pathTo via form a && (s.key via.req).isNone

/-- The first write of the pair `a`, `v` has been made on this path within 1.000 ms, and the second can be (R428). -/
def State.armed (s : State) (via : Via) (a : Nat) (v : Word) : Bool :=
  s.pathTo via 0 (a + 1) && (s.key via.req).any fun k => k.addr == a && k.value == v && !s.keyLate k

/-- The requester may give this read-write register this value, and the value is in Range (R88 to R90, R427, R430). -/
def State.permits (s : State) (via : Via) (a : Nat) (v : Word) : Bool :=
  match s.info a with
  | some r => r.access == .rw && s.judge via.req r (s.shown false a) v == .ok v
  | none => false

/-- A read-write register that this path may write and that keeps the value it is given: no part of a group, none whose write acts
instead, and none that only the policy firmware writes, unless it is the one (R415, R424, R425). -/
def State.plain (s : State) (via : Via) (a : Nat) : Bool :=
  match s.info a with
  | some r => r.access == .rw && (!r.pol || via == .firmware) && (rwGroup a).isNone &&
      !([R.CONV_TET_CTRL, R.MKT_STALLTAG, R.PD_CTRL, R.CFG_STGDATA].contains a)
  | none => false

/-- The IRQEN registers: plain read-write registers of every page (R439). -/
def irqEnables : List Nat := (List.range 16).flatMap fun n => (irqPairs n).map (·.2)

end Sys2Proof.Machine
end

