-- ==== Sys2Proof/Frames.lean ====
section
/-!
DEFINITION. What each command may change at most: the parts of the state, and for every command that reaches registers by
name the registers. What a command's rules do not name stands in none of its lists.
-/

namespace Sys2Proof

open Machine

/-- The parts of the state beside the registers, each a field of State; the ferroelectric banks and the staging area apart. -/
inductive Facet where
  | phase | now | free | ra | pins | boot | alm | path | conv | chg | link | mkt | vdt | cmd | thm | lgr | clk | wb | pd | svc
  | usb | opt | twb | banks | stage
  deriving DecidableEq, Repr

namespace Machine

/-- The part of `t` is that of `s`. -/
def State.keeps (s t : State) : Facet → Prop
  | .phase => t.phase = s.phase
  | .now => t.now = s.now
  | .free => t.free = s.free
  | .ra => t.ra = s.ra
  | .pins => t.pins = s.pins
  | .boot => t.boot = s.boot
  | .alm => t.alm = s.alm
  | .path => t.path = s.path
  | .conv => t.conv = s.conv
  | .chg => t.chg = s.chg
  | .link => t.link = s.link
  | .mkt => t.mkt = s.mkt
  | .vdt => t.vdt = s.vdt
  | .cmd => t.cmd = s.cmd
  | .thm => t.thm = s.thm
  | .lgr => t.lgr = s.lgr
  | .clk => t.clk = s.clk
  | .wb => t.wb = s.wb
  | .pd => t.pd = s.pd
  | .svc => t.svc = s.svc
  | .usb => t.usb = s.usb
  | .opt => t.opt = s.opt
  | .twb => t.twb = s.twb
  | .banks => s.banksKept t
  | .stage => t.boot.stage = s.boot.stage

end Machine

/-! ## Registers that change together -/

/-- A record handed over sets BACKPRESSURE or counts a coalesced event (R298, R325). -/
abbrev Regs.posting : List Nat :=
  [R.LGR_EVENT, R.LGR_COALCNT]

/-- The Stall window and its cache status (R285). -/
abbrev Regs.window : List Nat :=
  [R.MKT_CACHE, R.MKT_STALLW0, R.MKT_STALLW1, R.MKT_STALLW2, R.MKT_STALLW3, R.MKT_STALLW4, R.MKT_STALLW5,
   R.MKT_STALLW6, R.MKT_STALLW7, R.MKT_STALLW8, R.MKT_STALLW9, R.MKT_STALLW10, R.MKT_STALLW11, R.MKT_STALLW12,
   R.MKT_STALLW13, R.MKT_STALLW14, R.MKT_STALLW15, R.MKT_STALLW16, R.MKT_STALLW17, R.MKT_STALLW18, R.MKT_STALLW19,
   R.MKT_STALLW20, R.MKT_STALLW21, R.MKT_STALLW22, R.MKT_STALLW23, R.MKT_STALLW24, R.MKT_STALLW25, R.MKT_STALLW26,
   R.MKT_STALLW27, R.MKT_STALLW28, R.MKT_STALLW29, R.MKT_STALLW30, R.MKT_STALLW31]

/-- The draws of every address (R286). -/
abbrev Regs.draws : List Nat :=
  [R.MKT_DRAW0, R.MKT_DRAW1, R.MKT_DRAW2, R.MKT_DRAW3, R.MKT_DRAWG0, R.MKT_DRAWG1, R.MKT_DRAWG2, R.MKT_DRAWG3]

/-- The offer as shown (R286). -/
abbrev Regs.offering : List Nat :=
  [R.MKT_EVENT, R.MKT_OFFER_P, R.MKT_OFFER_FREE]

/-- The charger as shown (R174). -/
abbrev Regs.charging : List Nat :=
  [R.CHG_STATUS, R.CHG_EVENT, R.CHG_IBAT]

/-- The optical answer buffer as shown (R391). -/
abbrev Regs.optical : List Nat :=
  [R.OPT_STATUS, R.OPT_EVENT, R.OPT_ANSLEN]

/-- The state word and its change (R21). -/
abbrev Regs.mode : List Nat :=
  [R.SYS_STATE, R.SYS_EVENT]

/-- The input voltages as measured (R129). -/
abbrev Regs.inputs : List Nat :=
  [R.SRC_VIN_V, R.SRC_VBUS_V, R.SRC_VPV_V, R.SRC_VTET_V]

/-- The session and the staged firmware as shown (R391). -/
abbrev Regs.service : List Nat :=
  [R.SVC_STATUS, R.SVC_FWSTAGE]

/-- The objects of the source (R361). -/
abbrev Regs.objects : List Nat :=
  [R.PD_SRCPDO0, R.PD_SRCPDO1, R.PD_SRCPDO2, R.PD_SRCPDO3, R.PD_SRCPDO4, R.PD_SRCPDO5, R.PD_SRCPDO6, R.PD_SRCPDO7,
   R.PD_SRCPDO8, R.PD_SRCPDO9, R.PD_SRCPDO10, R.PD_SRCPDO11, R.PD_SRCPDO12, R.PD_SRCPDO13]

/-- The contract as shown (R361). -/
abbrev Regs.contract : List Nat :=
  [R.PD_CONTRACT_V, R.PD_CONTRACT_I, R.PD_RDO_H, R.PD_RDO_L]

/-- The receiver as an accepted frame leaves it (R225, R237). -/
abbrev Regs.frames : List Nat :=
  [R.TET_RXTHR, R.TET_SIGAMP, R.TET_NOISE, R.TET_REC, R.TET_RXCNT]

/-- The alarm origins (R48). -/
abbrev Regs.origins : List Nat :=
  [R.ALM_ORIGIN0, R.ALM_ORIGIN1, R.ALM_ORIGIN2, R.ALM_ORIGIN3]

/-- The hushed origins (R50). -/
abbrev Regs.hushes : List Nat :=
  [R.ALM_HUSHSET0, R.ALM_HUSHSET1, R.ALM_HUSHSET2, R.ALM_HUSHSET3]

/-! ## The frame of each command -/

/-- The parts of the state that a command may change. -/
def Instr.facets : Instr → List Facet
  | .powerOnResetRelease .. | .shipExitWake .. | .shipExitSource .. | .powerLoss .. | .shipDelayExpiry .. =>
    [.phase, .now, .free, .ra, .pins, .boot, .alm, .path, .conv, .chg, .link, .mkt, .vdt, .cmd, .thm, .lgr, .clk,
    .wb, .pd, .svc, .usb, .opt, .twb, .banks, .stage]
  | .imageHeadersRead .. | .portcAttemptFail .. => [.phase, .free, .ra, .boot, .path, .conv, .chg, .link, .mkt,
    .vdt, .cmd, .lgr, .wb, .svc, .usb, .opt, .twb, .banks]
  | .imageBodyReadDone .. => [.phase, .free, .ra, .pins, .boot, .alm, .path, .conv, .chg, .link, .mkt, .vdt, .cmd,
    .lgr, .clk, .wb, .svc, .usb, .opt, .twb, .banks]
  | .backgroundCopyCheckDone .. => [.boot, .vdt, .lgr]
  | .warmReset .. | .sysResetWarm .. | .sysResetCore .. | .resetRefused .. | .sysShip .. | .almCtrlHush .. |
    .srcEnWrite .. | .srcRankWrite .. | .convAuxWrite .. | .chgClrfault .. | .chgFullRequest .. | .wbRecordAccepted
    .. | .wbRdselWrite .. | .proofreq .. | .census .. | .readdr .. | .linktest .. | .mktCfgWrite .. |
    .mktStallselWrite .. | .mktStalltagWrite .. | .clrcnt .. | .ledgerRecordAccept .. | .ledgerCommit .. | .flush ..
    | .lgrReadExact .. | .lgrReadNext .. | .lgrReadNextpin .. | .lgrHostPost .. | .cmdAccept .. | .cmdBusy .. |
    .take .. | .reneg .. | .getcaps .. | .exitsvc .. | .openSession .. | .closeSession .. | .buniliaIdent .. |
    .regRead .. | .regWrite .. | .lgrRead .. | .stallRead .. | .wbRead .. | .wbSnapshot .. | .wbCalibrate .. |
    .imgStage .. | .imgWrite .. | .fwBegin .. | .fwChunk .. | .fwWrite .. | .fwActivate .. | .buniliaReset .. |
    .buniliaShip .. | .cellNew .. | .proofReq .. | .buniliaUnknown .. | .svcCtrlClose .. | .twbPecWrite .. |
    .cfgWriteStart .. | .cfgWriteReset .. | .imageWriteDone .. | .cfgStgaddrWrite .. | .cfgStgdataAccess .. |
    .registerWrite .. | .setAliasWrite .. | .clearAliasWrite .. | .toggleAliasWrite .. | .keyArm .. | .cfgCommit ..
    | .cfgDiscard .. | .cfgLock .. | .pageselWrite .. | .snapTake .. | .clkTimesetWrite .. | .hwdKick .. |
    .hwdConfigWrite .. | .pwdKick .. | .cmdReplay .. | .fwActivateResume .. | .eepromPageTimeout .. | .hwdExpire ..
    => [.phase, .free, .ra, .pins, .boot, .alm, .path, .conv, .chg, .link, .mkt, .vdt, .cmd, .lgr, .clk, .wb, .pd,
    .svc, .usb, .opt, .twb, .banks, .stage]
  | .coreReset .. | .pwdExpire .. => [.free, .ra, .pins, .boot, .conv, .chg, .mkt, .vdt, .cmd, .lgr, .clk, .wb, .pd,
    .svc, .opt, .stage]
  | .hornReady .. => [.alm, .conv]
  | .hornFail .. => [.alm, .conv, .link, .lgr]
  | .discGlitch .. | .discClear .. => [.alm, .lgr]
  | .discFault .. => [.free, .boot, .alm, .conv, .chg, .cmd, .lgr, .wb, .svc, .opt]
  | .alarmFrameRx .. => [.free, .boot, .alm, .conv, .chg, .link, .mkt, .vdt, .cmd, .lgr, .wb, .svc, .opt, .banks]
  | .clearFrameRx .. => [.boot, .alm, .path, .conv, .chg, .link, .mkt, .vdt, .cmd, .lgr, .pd, .svc, .usb, .opt,
    .banks, .stage]
  | .remoteTimeout .. | .levelAlarmEnd .. => [.boot, .alm, .path, .conv, .chg, .mkt, .vdt, .cmd, .lgr, .pd, .svc,
    .usb, .opt, .stage]
  | .hushFrameRx .. | .tetFrameSent .. => [.alm, .link, .mkt, .lgr, .banks]
  | .vauxUndervoltage .. | .vauxOff .. => [.pins, .alm, .conv]
  | .nrstoRelease .. => [.pins, .alm, .conv, .clk]
  | .sourceQualify .. => [.boot, .path, .conv, .chg, .mkt, .cmd, .lgr, .svc, .opt]
  | .inputCollapseTrip .. | .reverseTrip .. | .inputOvTrip .. | .vpvLowPowerLoss .. | .mainConverterFault .. =>
    [.boot, .path, .conv, .chg, .vdt, .cmd, .lgr, .pd, .svc, .usb, .opt, .stage]
  | .vsysOvTrip .. | .vsysOvRestart .. => [.path, .conv, .chg, .lgr]
  | .tetSinkCutoff .. => [.boot, .path, .conv, .chg, .mkt, .vdt, .cmd, .lgr, .pd, .svc, .usb, .opt, .stage]
  | .vmuxSafe .. | .vpvPoStep .. | .vpvOcCheckEnd .. | .plannedChangeoverBegin .. | .safelowRetry .. | .batfetRetry
    .. | .vpvOcCheck .. => [.path]
  | .safelowTimeout .. | .batfetTrip .. => [.path, .lgr]
  | .changeoverComplete .. => [.boot, .path, .conv, .chg, .cmd, .lgr, .svc, .opt]
  | .idealDiodeConduct .. => [.path, .chg]
  | .linearEnd .. | .chgDetect .. | .chgAbsentRetry .. | .chgResumeTimeout .. => [.chg]
  | .mainRegionChange .. | .twbSdaRelease .. | .attachwaitAbandon .. | .ccRpDetect .. | .usbSuspend .. |
    .uartFrameGap .. | .xtalSwitch .. | .pwdSlotStable .. => []
  | .tetSourceFoldback .. | .auxRestart .. => [.conv]
  | .tetShort .. | .vsysLadder .. | .chgSocWrite .. | .supplementStart .. | .supplementEnd .. | .tetModeChange .. |
    .tetSourceRetry .. | .chgSocStale .. => [.conv, .chg, .lgr]
  | .hswOcp .. => [.alm, .conv, .lgr]
  | .auxShort .. => [.pins, .alm, .conv, .lgr]
  | .keepLatchClear .. => [.conv, .chg]
  | .chgDetectDone .. | .chgPreconditionDone .. | .chgCvEntry .. | .chgTermCurrent .. | .chgTopupStart .. |
    .chgResume .. | .proofLift .. => [.chg, .vdt, .lgr]
  | .chgSuspend .. | .snapshot .. | .sweep .. | .capBegin .. | .calibrate .. | .snapDone .. | .capRelaxDone .. |
    .calDone .. | .wbRecordRelease .. | .sweepHoldoffExpiry .. => [.free, .conv, .chg, .lgr, .wb]
  | .chgBatOv .. | .chgFaultAutoclear .. | .ntcReading .. | .chgTimeoutFault .. | .ntcDisagree .. => [.conv, .chg,
    .vdt, .lgr]
  | .wbStart .. | .wbPeriodicDue .. | .wbWboCheck .. | .wbReferenceCheck .. | .capEnd .. | .setPeriod .. | .setCell
    .. | .wbMailboxIdent .. | .wbCmdUnknown .. | .wbCurrentOverrange .. => [.free, .wb]
  | .vwbBrownout .. | .wbWatchdogExpiry .. => [.conv, .lgr, .wb]
  | .vwbEarlyWarning .. | .wbCheckpoint .. | .capDischargeTimeout .. => [.wb]
  | .wbMailboxReset .. => [.free, .conv, .lgr, .wb]
  | .sweepDone .. | .proofCapacityBegin .. | .proofEnd .. => [.free, .conv, .chg, .vdt, .lgr, .wb]
  | .wbRddataRead .. | .vdtNoteRead .. | .lgrRddataRead .. | .optAnsdataRead .. | .rcRegisterRead .. => [.ra, .vdt,
    .lgr, .wb, .opt, .twb]
  | .proofDischargeEnd .. => [.chg, .vdt, .lgr, .wb]
  | .tetFrameRefused .. | .guardTrip .. | .addrListenEnd .. => [.link, .lgr]
  | .tetArbLost .. | .discBroadcast .. | .tetThresholdReset .. | .guardSilenceEnd .. | .heartbeatDue .. |
    .censusAnswerDue .. | .addrRelisten .. => [.link]
  | .tetRxError .. | .mktLapse .. | .stallWriteback .. => [.mkt, .lgr, .banks]
  | .linkConditionChange .. => [.boot, .conv, .chg, .link, .cmd, .lgr, .svc, .opt]
  | .heartbeatRx .. | .peerMissing .. => [.link, .mkt, .vdt, .lgr, .banks]
  | .censusRequestRx .. | .claimRx .. | .faultFrameRx .. | .linkTestRx .. | .linkEchoRx .. | .marketFrameRx .. |
    .offerPost .. | .bidPost .. | .firmSend .. | .withdrawSend .. | .addrHold .. | .mktRefreshDue .. | .bidRetry ..
    | .tentmaxExpiry .. => [.link, .mkt, .lgr, .banks]
  | .tcAttach .. | .debugAccessoryAttach .. => [.pins, .path, .lgr, .pd]
  | .tcDetach .. => [.pins, .boot, .path, .conv, .chg, .vdt, .cmd, .lgr, .pd, .svc, .usb, .opt, .stage]
  | .advertisementChange .. | .pdRequestRetry .. | .pdRefusalExpiry .. | .pdHardResetVbusTimeout .. | .ppsKeepalive
    .. | .fallbackRequest .. | .tsinktxExpiry .. | .chunkingNotSupportedExpiry .. => [.pd]
  | .bc12Done .. | .usbConnect .. | .usbNohost .. | .abort .. => [.svc, .usb]
  | .sourceCapabilitiesRx .. | .getSinkCapRx .. | .getRevisionRx .. | .alertRx .. | .bistRx .. | .swapRequestRx .. |
    .unsupportedMessageRx .. | .discoverIdentity .. | .discoverSvids .. | .discoverModes .. | .enterMode .. |
    .exitMode .. | .statusMessageRx .. | .pdSenderResponseTimeout .. | .pdSinkWaitCapTimeout .. |
    .pdPsTransitionTimeout .. | .pdReceiveTimeout .. | .collapseDetachTimeout .. => [.pins, .boot, .path, .vdt,
    .lgr, .pd, .svc, .stage]
  | .acceptRx .. | .psRdyRx .. => [.path, .lgr, .pd]
  | .waitRejectRx .. | .softResetRx .. | .pdNoResponse .. => [.lgr, .pd]
  | .usbBusReset .. => [.lgr, .svc, .usb]
  | .usbResume .. | .getStatus .. | .getDescriptor .. | .setAddress .. | .clearFeature .. | .setFeature .. |
    .getConfiguration .. | .getInterface .. | .setInterface .. | .usbStalledRequest .. | .getInfo .. => [.usb]
  | .setConfiguration .. => [.lgr, .usb]
  | .optPreambleDetect .. | .optSettleEnd .. | .optFrameRx .. | .optListenTimeout .. => [.opt]
  | .optFlood .. => [.lgr, .opt]
  | .twbAddressWake .. => [.ra, .twb]
  | .twbClockLowTimeout .. | .twbPushStart .. | .twbAwakeExpiry .. | .twbPushDue .. | .twbPushDone .. | .twbPushFail
    .. | .twbArbLost .. => [.twb]
  | .cfgCheckPass .. => [.free, .boot, .conv, .chg, .link, .mkt, .vdt, .cmd, .lgr, .wb, .svc, .opt, .banks]
  | .xtalStartTimeout .. | .oscFault .. | .oscRetry .. | .oscCrossCheck .. | .hwdWarn .. => [.lgr, .clk]
  | .syncRx .. => [.link, .mkt, .lgr, .clk, .banks]
  | .pwdWaitEnd .. => [.clk]
  | .thmReading .. => [.pins, .alm, .conv, .chg, .thm, .lgr]
  | .thmShutdown .. => [.free, .ra, .pins, .boot, .alm, .path, .conv, .chg, .mkt, .vdt, .cmd, .thm, .lgr, .clk, .wb,
    .pd, .svc, .opt, .stage]
  | .wakePinChange .. => [.pins]
  | .buniliaBadframe .. => [.free, .svc, .usb, .opt]
  | .optFrameError .. | .tallyWindowExpiry .. | .lgrReadDone .. => [.lgr]
  | .freshAttachDebounce .. => [.path, .pd]
  | .supplyEarlyWarning .. | .ledgerReplayComplete .. => [.lgr, .banks]
  | .floorRaise .. => [.lgr, .svc, .banks]
  | .ballastRecompute .. => [.free, .conv, .chg, .lgr]
  | .portcRetry .. => [.boot]
  | .secureStart .. => [.free, .boot, .conv, .chg, .link, .mkt, .vdt, .cmd, .lgr, .clk, .wb, .svc, .opt, .banks]
  | .shipArmExpiry .. => [.boot, .cmd, .lgr, .svc, .opt]
  | .alarmPinEdge .. | .sysClockRequestWithdraw .. | .hushTimerExpiry .. | .hswReclose .. => [.alm]
  | .localAlarmStart .. => [.free, .boot, .alm, .conv, .chg, .link, .vdt, .cmd, .lgr, .wb, .svc, .opt]
  | .alarmCopyDue .. | .hushPress .. | .hushClearRepeat .. => [.alm, .link]
  | .localAlarmEnd .. | .vauxHoldExpiry .. => [.boot, .alm, .path, .conv, .chg, .link, .mkt, .vdt, .cmd, .lgr, .pd,
    .svc, .usb, .opt, .stage]
  | .hornRelease .. => [.alm, .conv, .lgr, .wb]
  | .chgTargetReached .. => [.chg, .lgr]
  | .reserveForm .. => [.vdt, .lgr]
  | .curfewEnd .. | .proofDischargeStart .. => [.vdt]
  | .proofChecks .. | .proofDeferExpiry .. => [.free, .boot, .conv, .chg, .vdt, .cmd, .lgr, .wb, .svc, .opt]
  | .levelAlarmStart .. => [.free, .boot, .alm, .conv, .chg, .vdt, .cmd, .lgr, .wb, .svc, .opt]
  | .isrcHoldEnd .. | .cutoffReturn .. => [.mkt]
  | .bc12Start .. => [.pd, .svc, .usb]
  | .bistCarrierEnd .. => [.pins, .pd]
  | .hardResetRx .. => [.free, .pins, .boot, .path, .vdt, .lgr, .pd, .svc, .stage]
  | .sessionTimeout .. => [.boot, .vdt, .lgr, .svc, .stage]
  | .svcLockoutExpiry .. => [.svc]
  | .eepromPageAck .. => [.pins, .boot]
  | .groupWriteHoldTimeout .. | .keyTimeout .. | .snapUpdateAtStop .. => [.ra]
  | .cfgHoldExpiry .. | .aonWriteApply .. => [.ra, .pins, .boot, .alm, .path, .conv, .chg, .mkt, .vdt, .cmd, .lgr,
    .clk, .wb, .pd, .svc, .usb, .opt, .twb, .banks, .stage]
  | .syncTxDue .. => [.link, .clk]
  | .pwdWarn .. => [.free, .boot, .conv, .chg, .cmd, .lgr, .clk, .pd, .svc, .opt]
  | .thmFactorRise .. => [.conv, .chg, .thm, .lgr]
  | .thmRestart .. => [.phase, .free, .ra, .pins, .boot, .alm, .path, .conv, .chg, .link, .mkt, .vdt, .cmd, .thm,
    .lgr, .clk, .wb, .pd, .svc, .usb, .opt, .twb, .banks, .stage]

/-- The registers that a command may change; none where it reaches registers by an address it is given, or restores them. -/
def Instr.registers : Instr → Option (List Nat)
  | .powerOnResetRelease .. | .imageHeadersRead .. | .imageBodyReadDone .. | .portcAttemptFail .. | .warmReset .. |
    .coreReset .. | .sysResetWarm .. | .sysResetCore .. | .resetRefused .. | .sysShip .. | .shipExitWake .. |
    .shipExitSource .. | .almCtrlHush .. | .srcEnWrite .. | .srcRankWrite .. | .convAuxWrite .. | .chgClrfault .. |
    .chgFullRequest .. | .vwbBrownout .. | .wbRecordAccepted .. | .wbMailboxReset .. | .wbRdselWrite .. |
    .wbRddataRead .. | .vdtNoteRead .. | .proofreq .. | .census .. | .readdr .. | .linktest .. | .mktCfgWrite .. |
    .mktStallselWrite .. | .mktStalltagWrite .. | .clrcnt .. | .ledgerRecordAccept .. | .ledgerCommit .. | .flush ..
    | .lgrReadExact .. | .lgrReadNext .. | .lgrReadNextpin .. | .lgrRddataRead .. | .lgrHostPost .. | .cmdAccept ..
    | .cmdBusy .. | .take .. | .reneg .. | .getcaps .. | .exitsvc .. | .openSession .. | .closeSession .. |
    .buniliaIdent .. | .regRead .. | .regWrite .. | .lgrRead .. | .stallRead .. | .wbRead .. | .wbSnapshot .. |
    .wbCalibrate .. | .imgStage .. | .imgWrite .. | .fwBegin .. | .fwChunk .. | .fwWrite .. | .fwActivate .. |
    .buniliaReset .. | .buniliaShip .. | .cellNew .. | .proofReq .. | .buniliaUnknown .. | .svcCtrlClose .. |
    .optAnsdataRead .. | .twbAddressWake .. | .twbPecWrite .. | .cfgWriteStart .. | .cfgWriteReset .. |
    .imageWriteDone .. | .cfgStgaddrWrite .. | .cfgStgdataAccess .. | .registerWrite .. | .setAliasWrite .. |
    .clearAliasWrite .. | .toggleAliasWrite .. | .rcRegisterRead .. | .keyArm .. | .cfgCommit .. | .cfgDiscard .. |
    .cfgLock .. | .cfgCheckPass .. | .pageselWrite .. | .snapTake .. | .clkTimesetWrite .. | .hwdKick .. |
    .hwdConfigWrite .. | .pwdKick .. | .thmShutdown .. | .powerLoss .. | .shipDelayExpiry .. | .wbWatchdogExpiry ..
    | .cmdReplay .. | .fwActivateResume .. | .eepromPageTimeout .. | .cfgHoldExpiry .. | .snapUpdateAtStop .. |
    .hwdExpire .. | .pwdWarn .. | .pwdExpire .. | .thmRestart .. => none
  | .backgroundCopyCheckDone .. => some ([R.VDT_STATUS, R.VDT_EVENT, R.CFG_STATUS, R.CFG_EVENT] ++ Regs.posting)
  | .hornReady .. => some ([R.CONV_STATUS, R.CONV_HORN_MEAS, R.TET_STATUS, R.ALM_STATUS])
  | .hornFail .. => some ([R.PATH_VSYS, R.CONV_HORN_MEAS, R.ALM_EVENT] ++ Regs.posting)
  | .discGlitch .. => some ([R.ALM_STATUS, R.ALM_GLITCHCNT] ++ Regs.posting)
  | .discFault .. => some ([R.SYS_EVENT, R.PATH_STATUS, R.CONV_STATUS, R.CONV_EVENT, R.CONV_SHEDCNT, R.TET_STATUS,
    R.ALM_STATUS, R.ALM_EVENT, R.WB_EVENT] ++ Regs.posting ++ Regs.charging ++ Regs.optical)
  | .alarmFrameRx .. => some ([R.PATH_STATUS, R.CONV_STATUS, R.CONV_EVENT, R.CONV_SHEDCNT, R.TET_STATUS,
    R.TET_EVENT, R.TET_ADDR, R.TET_ERRCNT2, R.ALM_STATUS, R.ALM_EVENT, R.ALM_LASTORG, R.WB_EVENT, R.VDT_EVENT,
    R.VDT_PROOF] ++ Regs.posting ++ Regs.charging ++ Regs.optical ++ Regs.mode ++ Regs.frames ++ Regs.origins ++
    Regs.hushes)
  | .clearFrameRx .. => some ([R.SRC_STATUS, R.SRC_EVENT, R.SRC_IIN, R.SRC_TRIPCNT, R.PATH_STATUS, R.CONV_STATUS,
    R.CONV_EVENT, R.CONV_TET_I, R.CONV_SHEDCNT, R.TET_STATUS, R.TET_EVENT, R.TET_ADDR, R.TET_ERRCNT2, R.MKT_STATUS,
    R.MKT_EVENT, R.MKT_CUTCNT, R.ALM_STATUS, R.ALM_EVENT, R.VDT_STATUS, R.VDT_EVENT, R.TC_STATUS, R.PD_STATUS,
    R.PD_LIMIT, R.USB_STATUS, R.USB_ADDR, R.CLK_STATUS] ++ Regs.posting ++ Regs.charging ++ Regs.optical ++
    Regs.mode ++ Regs.inputs ++ Regs.service ++ Regs.frames ++ Regs.origins ++ Regs.hushes)
  | .remoteTimeout .. => some ([R.SRC_STATUS, R.SRC_EVENT, R.SRC_IIN, R.SRC_TRIPCNT, R.PATH_STATUS, R.CONV_STATUS,
    R.CONV_EVENT, R.CONV_TET_I, R.CONV_SHEDCNT, R.TET_STATUS, R.MKT_STATUS, R.MKT_EVENT, R.MKT_CUTCNT, R.ALM_STATUS,
    R.ALM_EVENT, R.VDT_STATUS, R.VDT_EVENT, R.TC_STATUS, R.PD_STATUS, R.PD_LIMIT, R.USB_STATUS, R.USB_ADDR,
    R.CLK_STATUS] ++ Regs.posting ++ Regs.charging ++ Regs.optical ++ Regs.mode ++ Regs.inputs ++ Regs.service ++
    Regs.origins ++ Regs.hushes)
  | .hushFrameRx .. => some ([R.TET_STATUS, R.TET_EVENT, R.TET_ADDR, R.TET_ERRCNT2, R.ALM_STATUS, R.ALM_EVENT] ++
    Regs.posting ++ Regs.frames ++ Regs.hushes)
  | .vauxUndervoltage .. => some ([R.CONV_STATUS, R.CONV_EVENT, R.ALM_STATUS])
  | .nrstoRelease .. => some ([R.CONV_STATUS, R.ALM_STATUS])
  | .sourceQualify .. => some ([R.SRC_STATUS, R.SRC_EVENT, R.PATH_STATUS, R.CONV_STATUS, R.CONV_EVENT, R.CONV_TET_I,
    R.CONV_SHEDCNT] ++ Regs.posting ++ Regs.charging ++ Regs.optical ++ Regs.mode ++ Regs.inputs)
  | .inputCollapseTrip .. | .inputOvTrip .. => some ([R.SRC_STATUS, R.SRC_EVENT, R.SRC_IIN, R.SRC_TRIPCNT,
    R.SRC_COLLCNT, R.PATH_STATUS, R.CONV_STATUS, R.CONV_EVENT, R.CONV_TET_I, R.CONV_SHEDCNT, R.VDT_STATUS,
    R.VDT_EVENT, R.TC_STATUS, R.PD_STATUS, R.PD_LIMIT, R.USB_STATUS, R.USB_ADDR, R.CLK_STATUS] ++ Regs.posting ++
    Regs.charging ++ Regs.optical ++ Regs.mode ++ Regs.inputs ++ Regs.service)
  | .reverseTrip .. => some ([R.SRC_STATUS, R.SRC_EVENT, R.SRC_IIN, R.SRC_TRIPCNT, R.SRC_COLLCNT, R.PATH_STATUS,
    R.PATH_VMUX, R.CONV_STATUS, R.CONV_EVENT, R.CONV_TET_I, R.CONV_SHEDCNT, R.VDT_STATUS, R.VDT_EVENT, R.TC_STATUS,
    R.PD_STATUS, R.PD_LIMIT, R.USB_STATUS, R.USB_ADDR, R.CLK_STATUS] ++ Regs.posting ++ Regs.charging ++
    Regs.optical ++ Regs.mode ++ Regs.inputs ++ Regs.service)
  | .vsysOvTrip .. => some ([R.SRC_STATUS, R.SRC_EVENT, R.SRC_IIN, R.SRC_TRIPCNT, R.PATH_STATUS, R.PATH_EVENT,
    R.PATH_VSYS, R.CONV_STATUS, R.CONV_EVENT, R.CONV_TET_I, R.CONV_SHEDCNT] ++ Regs.posting ++ Regs.charging ++
    Regs.mode)
  | .tetSinkCutoff .. => some ([R.SRC_STATUS, R.SRC_EVENT, R.SRC_IIN, R.SRC_TRIPCNT, R.PATH_STATUS, R.CONV_STATUS,
    R.CONV_EVENT, R.CONV_TET_I, R.CONV_SHEDCNT, R.MKT_STATUS, R.MKT_EVENT, R.MKT_CUTCNT, R.VDT_STATUS, R.VDT_EVENT,
    R.TC_STATUS, R.PD_STATUS, R.PD_LIMIT, R.USB_STATUS, R.USB_ADDR, R.CLK_STATUS] ++ Regs.posting ++ Regs.charging
    ++ Regs.optical ++ Regs.mode ++ Regs.inputs ++ Regs.service)
  | .vpvLowPowerLoss .. => some ([R.SRC_STATUS, R.SRC_EVENT, R.SRC_IIN, R.PATH_STATUS, R.CONV_STATUS, R.CONV_EVENT,
    R.CONV_TET_I, R.CONV_SHEDCNT, R.VDT_STATUS, R.VDT_EVENT, R.TC_STATUS, R.PD_STATUS, R.PD_LIMIT, R.USB_STATUS,
    R.USB_ADDR, R.CLK_STATUS] ++ Regs.posting ++ Regs.charging ++ Regs.optical ++ Regs.mode ++ Regs.inputs ++
    Regs.service)
  | .vmuxSafe .. => some ([R.SRC_STATUS, R.SRC_VPV_VOC, R.PATH_VMUX] ++ Regs.inputs)
  | .safelowTimeout .. => some ([R.SRC_STATUS, R.SRC_EVENT, R.PATH_VMUX] ++ Regs.posting)
  | .changeoverComplete .. => some ([R.SRC_STATUS, R.SRC_EVENT, R.SRC_CHGOVRCNT, R.PATH_STATUS, R.PATH_VMUX,
    R.CONV_STATUS, R.CONV_EVENT, R.CONV_TET_I, R.CONV_SHEDCNT] ++ Regs.posting ++ Regs.charging ++ Regs.optical ++
    Regs.mode)
  | .idealDiodeConduct .. => some ([R.PATH_STATUS, R.PATH_VSYS])
  | .batfetTrip .. => some ([R.PATH_STATUS, R.PATH_EVENT, R.PATH_VSYS] ++ Regs.posting)
  | .linearEnd .. => some ([R.PATH_STATUS, R.PATH_EVENT])
  | .vpvPoStep .. | .vwbEarlyWarning .. | .wbCheckpoint .. | .tetArbLost .. | .pwdWaitEnd .. | .wakePinChange .. |
    .supplyEarlyWarning .. | .alarmPinEdge .. | .sysClockRequestWithdraw .. | .alarmCopyDue .. | .auxRestart .. |
    .capDischargeTimeout .. | .heartbeatDue .. | .censusAnswerDue .. | .pdRequestRetry .. | .pdRefusalExpiry .. |
    .bistCarrierEnd .. | .ppsKeepalive .. | .fallbackRequest .. | .uartFrameGap .. | .optListenTimeout .. |
    .eepromPageAck .. | .groupWriteHoldTimeout .. | .hushClearRepeat .. | .tsinktxExpiry .. |
    .chunkingNotSupportedExpiry .. => some ([])
  | .vpvOcCheckEnd .. => some ([R.SRC_STATUS, R.SRC_VPV_VOC])
  | .mainRegionChange .. => some ([R.PATH_VMUX, R.CONV_STATUS])
  | .tetSourceFoldback .. => some ([R.CONV_STATUS, R.CONV_EVENT, R.CONV_TET_I] ++ Regs.inputs)
  | .tetShort .. => some ([R.SRC_STATUS, R.PATH_STATUS, R.CONV_STATUS, R.CONV_EVENT, R.CONV_TET_I, R.CONV_SHEDCNT]
    ++ Regs.posting ++ Regs.charging ++ Regs.mode ++ Regs.inputs)
  | .hswOcp .. => some ([R.CONV_EVENT, R.ALM_STATUS] ++ Regs.posting)
  | .auxShort .. => some ([R.CONV_STATUS, R.CONV_EVENT, R.ALM_STATUS] ++ Regs.posting)
  | .vauxOff .. => some ([R.PATH_VSYS, R.CONV_STATUS, R.CONV_EVENT, R.ALM_STATUS])
  | .keepLatchClear .. => some ([R.PATH_STATUS, R.CONV_EVENT, R.CONV_KEEP])
  | .vsysLadder .. => some ([R.SRC_STATUS, R.PATH_STATUS, R.PATH_VSYS, R.CONV_STATUS, R.CONV_EVENT, R.CONV_TET_I,
    R.CONV_SHEDCNT] ++ Regs.posting ++ Regs.charging ++ Regs.mode)
  | .chgDetectDone .. | .chgPreconditionDone .. | .chgCvEntry .. | .chgTopupStart .. | .chgResume .. => some
    ([R.PATH_STATUS, R.VDT_STATUS, R.VDT_EVENT] ++ Regs.posting ++ Regs.charging)
  | .chgTermCurrent .. => some ([R.PATH_STATUS, R.CONV_TET_CTRL, R.VDT_STATUS, R.VDT_EVENT] ++ Regs.posting ++
    Regs.charging)
  | .chgSuspend .. | .snapDone .. | .sweepDone .. | .capRelaxDone .. | .calDone .. | .wbRecordRelease .. => some
    ([R.PATH_STATUS, R.CONV_STATUS, R.CONV_EVENT, R.CONV_SHEDCNT, R.WB_EVENT] ++ Regs.posting ++ Regs.charging)
  | .chgBatOv .. | .chgTimeoutFault .. | .ntcDisagree .. => some ([R.SRC_STATUS, R.PATH_STATUS, R.CHG_FAULTCNT,
    R.CONV_STATUS, R.CONV_EVENT, R.CONV_TET_I, R.CONV_SHEDCNT, R.VDT_STATUS, R.VDT_EVENT] ++ Regs.posting ++
    Regs.charging ++ Regs.mode)
  | .chgFaultAutoclear .. => some ([R.SRC_STATUS, R.PATH_STATUS, R.CONV_STATUS, R.CONV_EVENT, R.CONV_TET_I,
    R.CONV_SHEDCNT, R.VDT_STATUS, R.VDT_EVENT] ++ Regs.posting ++ Regs.charging ++ Regs.mode)
  | .ntcReading .. => some ([R.SRC_STATUS, R.PATH_STATUS, R.CHG_ZONE, R.CONV_STATUS, R.CONV_EVENT, R.CONV_TET_I,
    R.CONV_SHEDCNT, R.VDT_STATUS, R.VDT_EVENT] ++ Regs.posting ++ Regs.charging ++ Regs.mode)
  | .chgSocWrite .. => some ([R.SRC_STATUS, R.PATH_STATUS, R.CHG_SOC, R.CONV_STATUS, R.CONV_EVENT, R.CONV_TET_CTRL,
    R.CONV_TET_I, R.CONV_SHEDCNT] ++ Regs.posting ++ Regs.charging ++ Regs.mode)
  | .wbStart .. | .wbPeriodicDue .. | .wbWboCheck .. | .wbReferenceCheck .. | .wbCurrentOverrange .. => some
    ([R.WB_EVENT])
  | .snapshot .. | .sweep .. | .capBegin .. | .calibrate .. | .proofCapacityBegin .. => some ([R.PATH_STATUS,
    R.CONV_STATUS, R.CONV_EVENT, R.CONV_SHEDCNT, R.WB_EVENT, R.WB_CMDRES, R.WB_OVRCNT] ++ Regs.posting ++
    Regs.charging)
  | .capEnd .. | .setPeriod .. | .setCell .. | .wbMailboxIdent .. | .wbCmdUnknown .. => some ([R.WB_EVENT,
    R.WB_CMDRES])
  | .proofDischargeEnd .. => some ([R.PATH_STATUS, R.WB_EVENT, R.WB_CMDRES, R.VDT_STATUS, R.VDT_EVENT] ++
    Regs.posting)
  | .tetFrameSent .. => some ([R.TET_STATUS, R.TET_EVENT, R.TET_TEC, R.TET_TXCNT, R.MKT_EVENT, R.ALM_STATUS] ++
    Regs.posting ++ Regs.draws ++ Regs.hushes)
  | .tetFrameRefused .. => some ([R.TET_STATUS, R.TET_EVENT, R.TET_TEC, R.TET_ERRCNT3, R.TET_ERRCNT4] ++
    Regs.posting)
  | .tetRxError .. => some ([R.TET_STATUS, R.TET_EVENT, R.TET_REC, R.TET_ERRCNT0, R.TET_ERRCNT1, R.TET_ERRCNT2] ++
    Regs.posting)
  | .linkConditionChange .. => some ([R.SRC_STATUS, R.PATH_STATUS, R.CONV_STATUS, R.CONV_EVENT, R.CONV_TET_I,
    R.CONV_SHEDCNT, R.TET_STATUS, R.TET_EVENT, R.TET_RXTHR] ++ Regs.posting ++ Regs.charging ++ Regs.optical ++
    Regs.mode ++ Regs.inputs)
  | .guardTrip .. => some ([R.TET_STATUS, R.TET_EVENT, R.TET_GUARDCNT] ++ Regs.posting)
  | .heartbeatRx .. => some ([R.CONV_TET_ISRC, R.TET_STATUS, R.TET_EVENT, R.TET_ADDR, R.TET_ERRCNT2, R.TET_ERRCNT5,
    R.TET_PEERS0, R.TET_PEERS1, R.TET_PEERS2, R.TET_PEERS3, R.MKT_STALECNT, R.VDT_STATUS, R.VDT_EVENT] ++
    Regs.posting ++ Regs.draws ++ Regs.offering ++ Regs.frames)
  | .peerMissing .. => some ([R.TET_EVENT, R.TET_PEERS0, R.TET_PEERS1, R.TET_PEERS2, R.TET_PEERS3, R.VDT_STATUS,
    R.VDT_EVENT] ++ Regs.posting ++ Regs.draws ++ Regs.offering)
  | .censusRequestRx .. | .faultFrameRx .. | .linkTestRx .. | .linkEchoRx .. | .marketFrameRx .. => some
    ([R.CONV_TET_ISRC, R.TET_STATUS, R.TET_EVENT, R.TET_ADDR, R.TET_ERRCNT2, R.TET_ERRCNT5, R.MKT_STALECNT] ++
    Regs.posting ++ Regs.draws ++ Regs.offering ++ Regs.frames)
  | .claimRx .. => some ([R.CONV_TET_ISRC, R.TET_STATUS, R.TET_EVENT, R.TET_ADDR, R.TET_ERRCNT5, R.MKT_STALECNT] ++
    Regs.posting ++ Regs.draws ++ Regs.offering ++ Regs.frames)
  | .offerPost .. | .withdrawSend .. => some ([R.TET_EVENT] ++ Regs.posting ++ Regs.draws ++ Regs.offering)
  | .bidPost .. | .tentmaxExpiry .. => some ([R.TET_EVENT, R.MKT_OFFER_P, R.MKT_OFFER_FREE] ++ Regs.posting)
  | .firmSend .. => some ([R.CONV_TET_ISRC, R.TET_EVENT] ++ Regs.posting ++ Regs.offering)
  | .mktLapse .. => some ([R.MKT_LAPSECNT] ++ Regs.posting ++ Regs.draws ++ Regs.offering)
  | .mainConverterFault .. => some ([R.SRC_STATUS, R.SRC_EVENT, R.SRC_IIN, R.SRC_TRIPCNT, R.SRC_COLLCNT,
    R.PATH_STATUS, R.PATH_VSYS, R.CONV_STATUS, R.CONV_EVENT, R.CONV_TET_I, R.CONV_SHEDCNT, R.VDT_STATUS,
    R.VDT_EVENT, R.TC_STATUS, R.PD_STATUS, R.PD_LIMIT, R.USB_STATUS, R.USB_ADDR, R.CLK_STATUS] ++ Regs.posting ++
    Regs.charging ++ Regs.optical ++ Regs.mode ++ Regs.inputs ++ Regs.service)
  | .tcAttach .. | .debugAccessoryAttach .. => some ([R.TC_STATUS, R.PD_STATUS, R.PD_EVENT, R.PD_LIMIT, R.PD_ATTCNT]
    ++ Regs.posting ++ Regs.inputs)
  | .tcDetach .. => some ([R.SRC_STATUS, R.SRC_EVENT, R.SRC_IIN, R.PATH_STATUS, R.CONV_STATUS, R.CONV_EVENT,
    R.CONV_TET_I, R.CONV_SHEDCNT, R.VDT_STATUS, R.VDT_EVENT, R.TC_STATUS, R.PD_STATUS, R.PD_EVENT, R.PD_LIMIT,
    R.PD_SRCPDOCNT, R.USB_STATUS, R.USB_ADDR, R.CLK_STATUS] ++ Regs.posting ++ Regs.charging ++ Regs.optical ++
    Regs.mode ++ Regs.inputs ++ Regs.service ++ Regs.objects ++ Regs.contract)
  | .advertisementChange .. => some ([R.TC_STATUS, R.PD_STATUS, R.PD_EVENT, R.PD_LIMIT])
  | .bc12Done .. => some ([R.TC_STATUS, R.PD_EVENT, R.PD_LIMIT, R.USB_STATUS, R.USB_ADDR, R.CLK_STATUS])
  | .sourceCapabilitiesRx .. => some ([R.TC_STATUS, R.PD_STATUS, R.PD_EVENT, R.PD_LIMIT, R.PD_SRCPDOCNT, R.PD_HRCNT]
    ++ Regs.posting ++ Regs.mode ++ Regs.service ++ Regs.objects ++ Regs.contract)
  | .acceptRx .. => some ([R.PD_STATUS, R.PD_EVENT, R.PD_LIMIT] ++ Regs.posting)
  | .psRdyRx .. => some ([R.TC_STATUS, R.PD_STATUS, R.PD_EVENT, R.PD_LIMIT] ++ Regs.posting ++ Regs.contract)
  | .waitRejectRx .. => some ([R.PD_STATUS, R.PD_EVENT, R.PD_REFCNT] ++ Regs.posting)
  | .getSinkCapRx .. | .getRevisionRx .. | .alertRx .. | .bistRx .. | .swapRequestRx .. | .unsupportedMessageRx .. |
    .discoverIdentity .. | .discoverSvids .. | .discoverModes .. | .enterMode .. | .exitMode .. | .statusMessageRx
    .. | .hardResetRx .. | .pdSenderResponseTimeout .. | .pdSinkWaitCapTimeout .. | .pdPsTransitionTimeout .. =>
    some ([R.TC_STATUS, R.PD_STATUS, R.PD_EVENT, R.PD_LIMIT, R.PD_HRCNT] ++ Regs.posting ++ Regs.mode ++
    Regs.service ++ Regs.contract)
  | .softResetRx .. | .pdNoResponse .. => some ([R.PD_STATUS, R.PD_EVENT] ++ Regs.posting)
  | .usbBusReset .. => some ([R.TC_STATUS, R.PD_LIMIT, R.USB_STATUS, R.USB_EVENT, R.USB_ADDR, R.USB_RSTCNT] ++
    Regs.posting)
  | .usbResume .. => some ([R.TC_STATUS, R.PD_LIMIT, R.USB_STATUS, R.USB_EVENT, R.USB_FRAME, R.CLK_STATUS])
  | .getStatus .. | .getDescriptor .. | .clearFeature .. | .setFeature .. | .getConfiguration .. | .getInterface ..
    | .setInterface .. | .usbStalledRequest .. | .getInfo .. | .abort .. => some ([R.TC_STATUS, R.PD_LIMIT,
    R.USB_STATUS, R.USB_EVENT])
  | .setAddress .. => some ([R.TC_STATUS, R.PD_LIMIT, R.USB_STATUS, R.USB_EVENT, R.USB_ADDR])
  | .setConfiguration .. => some ([R.TC_STATUS, R.PD_LIMIT, R.USB_STATUS, R.USB_EVENT] ++ Regs.posting)
  | .optPreambleDetect .. | .optSettleEnd .. => some ([R.OPT_STATUS, R.OPT_AMB])
  | .optFlood .. => some ([R.OPT_STATUS, R.OPT_EVENT, R.OPT_AMB, R.OPT_FLOODCNT] ++ Regs.posting)
  | .twbClockLowTimeout .. => some ([R.TWB_EVENT, R.TWB_PUSH, R.TWB_TOCNT, R.TWB_PUSHFAIL])
  | .twbSdaRelease .. => some ([R.TWB_EVENT, R.TWB_TOCNT])
  | .twbPushStart .. => some ([R.TWB_STATUS, R.TWB_EVENT, R.TWB_PUSH, R.TWB_PUSHFAIL, R.TWB_RECCNT])
  | .xtalStartTimeout .. | .oscFault .. | .oscCrossCheck .. => some ([R.CLK_STATUS, R.CLK_EVENT, R.CLK_FAULTCNT] ++
    Regs.posting)
  | .oscRetry .. | .hwdWarn .. => some ([R.CLK_STATUS, R.CLK_EVENT] ++ Regs.posting)
  | .syncRx .. => some ([R.CONV_TET_ISRC, R.TET_STATUS, R.TET_EVENT, R.TET_ADDR, R.TET_ERRCNT2, R.TET_ERRCNT5,
    R.MKT_STALECNT, R.CLK_STATUS, R.CLK_EVENT, R.CLK_OFFSET, R.CLK_SYNCSRC, R.CLK_SYNCCNT] ++ Regs.posting ++
    Regs.draws ++ Regs.offering ++ Regs.frames)
  | .thmReading .. => some ([R.PATH_STATUS, R.CHG_STATUS, R.CHG_IBAT, R.CONV_STATUS, R.CONV_EVENT, R.CONV_HORN_MEAS,
    R.CONV_TET_I, R.CONV_SHEDCNT, R.ALM_STATUS, R.THM_STATUS, R.THM_EVENT, R.THM_DS0, R.THM_DS1, R.THM_DS2,
    R.THM_DS3, R.THM_DS4, R.THM_DS5, R.THM_DS6, R.THM_FACTOR, R.THM_TM, R.THM_PEAK, R.THM_THRCNT] ++ Regs.posting)
  | .buniliaBadframe .. => some ([R.TC_STATUS, R.PD_LIMIT, R.USB_STATUS, R.USB_EVENT] ++ Regs.optical)
  | .attachwaitAbandon .. | .freshAttachDebounce .. | .ccRpDetect .. => some ([R.TC_STATUS])
  | .optFrameRx .. => some ([R.OPT_STATUS, R.OPT_EVENT, R.OPT_RXCNT])
  | .optFrameError .. => some ([R.OPT_STATUS, R.OPT_EVENT, R.OPT_ERRCNT] ++ Regs.posting)
  | .addrHold .. => some ([R.CONV_TET_ISRC, R.TET_STATUS, R.TET_EVENT, R.TET_ADDR, R.LGR_STATUS, R.LGR_VFYERR_A,
    R.LGR_VFYERR_B] ++ Regs.posting ++ Regs.offering)
  | .stallWriteback .. | .floorRaise .. => some ([R.LGR_STATUS, R.LGR_VFYERR_A, R.LGR_VFYERR_B] ++ Regs.posting)
  | .ballastRecompute .. => some ([R.SRC_STATUS, R.PATH_STATUS, R.CHG_TGT, R.CHG_BALSOC, R.CHG_BALLAST_H,
    R.CHG_BALLAST_L, R.CHG_TWORST, R.CONV_STATUS, R.CONV_EVENT, R.CONV_TET_CTRL, R.CONV_TET_I, R.CONV_SHEDCNT] ++
    Regs.posting ++ Regs.charging ++ Regs.mode)
  | .ledgerReplayComplete .. => some ([R.LGR_STATUS, R.LGR_SPOOLMAX, R.LGR_HRES, R.LGR_HSEQ2, R.LGR_HSEQ1,
    R.LGR_HSEQ0, R.LGR_VFYERR_A, R.LGR_VFYERR_B] ++ Regs.posting)
  | .portcRetry .. | .twbAwakeExpiry .. => some ([R.TWB_STATUS])
  | .secureStart .. => some ([R.SYS_BOOT, R.SYS_SAFECAUSE, R.SRC_STATUS, R.PATH_STATUS, R.CONV_STATUS, R.CONV_EVENT,
    R.CONV_TET_CTRL, R.CONV_TET_ISRC, R.CONV_TET_I, R.CONV_SHEDCNT, R.TET_EVENT, R.WB_EVENT, R.VDT_STATUS,
    R.VDT_EVENT, R.VDT_PROOF, R.VDT_ZBASE, R.SVC_STATUS, R.CLK_STATUS] ++ Regs.posting ++ Regs.draws ++
    Regs.offering ++ Regs.charging ++ Regs.optical ++ Regs.mode)
  | .shipArmExpiry .. => some ([R.SYS_EVENT] ++ Regs.posting ++ Regs.optical)
  | .localAlarmStart .. => some ([R.PATH_STATUS, R.CONV_STATUS, R.CONV_EVENT, R.CONV_SHEDCNT, R.TET_STATUS,
    R.ALM_STATUS, R.ALM_EVENT, R.WB_EVENT, R.VDT_EVENT, R.VDT_PROOF] ++ Regs.posting ++ Regs.charging ++
    Regs.optical ++ Regs.mode)
  | .discBroadcast .. => some ([R.ALM_STATUS, R.ALM_EVENT])
  | .discClear .. => some ([R.ALM_STATUS] ++ Regs.posting)
  | .localAlarmEnd .. | .vauxHoldExpiry .. | .levelAlarmEnd .. => some ([R.SRC_STATUS, R.SRC_EVENT, R.SRC_IIN,
    R.SRC_TRIPCNT, R.PATH_STATUS, R.CONV_STATUS, R.CONV_EVENT, R.CONV_TET_I, R.CONV_SHEDCNT, R.TET_STATUS,
    R.MKT_STATUS, R.MKT_EVENT, R.MKT_CUTCNT, R.ALM_STATUS, R.ALM_EVENT, R.VDT_STATUS, R.VDT_EVENT, R.TC_STATUS,
    R.PD_STATUS, R.PD_LIMIT, R.USB_STATUS, R.USB_ADDR, R.CLK_STATUS] ++ Regs.posting ++ Regs.charging ++
    Regs.optical ++ Regs.mode ++ Regs.inputs ++ Regs.service ++ Regs.hushes)
  | .hornRelease .. => some ([R.CHG_STATUS, R.CONV_STATUS, R.CONV_EVENT, R.CONV_HORN_MEAS, R.CONV_SHEDCNT,
    R.ALM_STATUS] ++ Regs.posting)
  | .hushPress .. => some ([R.TET_STATUS, R.ALM_STATUS, R.ALM_EVENT] ++ Regs.hushes)
  | .hushTimerExpiry .. => some ([R.TET_STATUS, R.ALM_STATUS] ++ Regs.hushes)
  | .vsysOvRestart .. | .tetModeChange .. | .tetSourceRetry .. => some ([R.SRC_STATUS, R.PATH_STATUS, R.CONV_STATUS,
    R.CONV_EVENT, R.CONV_TET_I, R.CONV_SHEDCNT] ++ Regs.posting ++ Regs.charging ++ Regs.mode)
  | .plannedChangeoverBegin .. | .safelowRetry .. | .vpvOcCheck .. => some ([R.SRC_STATUS])
  | .supplementStart .. | .supplementEnd .. => some ([R.SRC_STATUS, R.PATH_STATUS, R.PATH_EVENT, R.CONV_STATUS,
    R.CONV_EVENT, R.CONV_TET_I, R.CONV_SHEDCNT] ++ Regs.posting ++ Regs.charging ++ Regs.mode)
  | .batfetRetry .. => some ([R.PATH_STATUS])
  | .hswReclose .. => some ([R.ALM_STATUS])
  | .chgDetect .. | .chgAbsentRetry .. | .chgResumeTimeout .. => some ([R.PATH_STATUS] ++ Regs.charging)
  | .chgTargetReached .. => some ([R.PATH_STATUS] ++ Regs.posting ++ Regs.charging)
  | .chgSocStale .. => some ([R.SRC_STATUS, R.PATH_STATUS, R.CONV_STATUS, R.CONV_EVENT, R.CONV_TET_CTRL,
    R.CONV_TET_I, R.CONV_SHEDCNT] ++ Regs.posting ++ Regs.charging ++ Regs.mode)
  | .sweepHoldoffExpiry .. => some ([R.PATH_STATUS, R.CONV_STATUS, R.CONV_EVENT, R.CONV_SHEDCNT, R.WB_EVENT,
    R.WB_OVRCNT] ++ Regs.posting ++ Regs.charging)
  | .reserveForm .. => some ([R.VDT_STATUS, R.VDT_EVENT, R.VDT_EC, R.VDT_EV, R.VDT_EA] ++ Regs.posting)
  | .curfewEnd .. => some ([R.VDT_STATUS, R.VDT_EVENT])
  | .proofLift .. => some ([R.PATH_STATUS, R.CHG_TGT, R.CONV_TET_CTRL] ++ Regs.posting ++ Regs.charging)
  | .proofChecks .. | .proofDeferExpiry .. => some ([R.SRC_STATUS, R.PATH_STATUS, R.CONV_STATUS, R.CONV_EVENT,
    R.CONV_TET_CTRL, R.CONV_TET_I, R.CONV_SHEDCNT, R.WB_EVENT, R.WB_ARG0, R.WB_CMDRES, R.WB_OVRCNT, R.VDT_STATUS,
    R.VDT_EVENT, R.VDT_PROOF, R.VDT_EC, R.VDT_EV, R.VDT_EA, R.VDT_SKIPCNT] ++ Regs.posting ++ Regs.charging ++
    Regs.optical ++ Regs.mode)
  | .proofDischargeStart .. => some ([R.SRC_STATUS, R.SRC_IIN, R.PATH_STATUS, R.CONV_STATUS, R.CONV_TET_I])
  | .proofEnd .. => some ([R.PATH_STATUS, R.CONV_STATUS, R.CONV_EVENT, R.CONV_SHEDCNT, R.WB_EVENT, R.VDT_STATUS,
    R.VDT_EVENT, R.VDT_PROOF, R.VDT_EC, R.VDT_EV, R.VDT_EA, R.VDT_ZBASE, R.VDT_ZNOW, R.VDT_CEST] ++ Regs.posting ++
    Regs.charging ++ Regs.mode)
  | .tetThresholdReset .. => some ([R.TET_RXTHR])
  | .guardSilenceEnd .. | .addrRelisten .. => some ([R.TET_STATUS])
  | .addrListenEnd .. => some ([R.TET_STATUS, R.TET_ADDR] ++ Regs.posting)
  | .levelAlarmStart .. => some ([R.PATH_STATUS, R.CONV_STATUS, R.CONV_EVENT, R.CONV_SHEDCNT, R.TET_STATUS,
    R.ALM_STATUS, R.ALM_EVENT, R.ALM_LASTORG, R.WB_EVENT, R.VDT_EVENT, R.VDT_PROOF] ++ Regs.posting ++ Regs.charging
    ++ Regs.optical ++ Regs.mode)
  | .mktRefreshDue .. => some ([R.TET_EVENT] ++ Regs.posting ++ Regs.offering)
  | .bidRetry .. => some ([R.TET_EVENT, R.MKT_EVENT] ++ Regs.posting ++ Regs.draws)
  | .isrcHoldEnd .. => some ([R.CONV_TET_ISRC])
  | .cutoffReturn .. => some ([R.MKT_STATUS])
  | .tallyWindowExpiry .. => some ([R.LGR_STATUS, R.LGR_EVENT, R.LGR_HOLDCNT])
  | .lgrReadDone .. => some ([R.LGR_STATUS, R.LGR_EVENT, R.LGR_RDSTAT, R.LGR_RDLEN])
  | .bc12Start .. | .usbConnect .. | .usbNohost .. => some ([R.TC_STATUS, R.PD_LIMIT, R.USB_STATUS, R.USB_ADDR,
    R.CLK_STATUS])
  | .pdReceiveTimeout .. => some ([R.TC_STATUS, R.PD_STATUS, R.PD_EVENT, R.PD_LIMIT, R.PD_HRCNT, R.PD_RETRYFAIL] ++
    Regs.posting ++ Regs.mode ++ Regs.service ++ Regs.contract)
  | .pdHardResetVbusTimeout .. => some ([R.TC_STATUS, R.PD_LIMIT])
  | .usbSuspend .. => some ([R.TC_STATUS, R.PD_LIMIT, R.USB_STATUS, R.USB_EVENT, R.CLK_STATUS])
  | .sessionTimeout .. => some (Regs.posting ++ Regs.mode ++ Regs.service)
  | .svcLockoutExpiry .. => some ([R.SVC_STATUS])
  | .twbPushDue .. => some ([R.TWB_PUSH])
  | .twbPushDone .. => some ([R.TWB_EVENT])
  | .twbPushFail .. => some ([R.TWB_EVENT, R.TWB_PUSH, R.TWB_PUSHFAIL])
  | .twbArbLost .. => some ([R.TWB_EVENT, R.TWB_ARBCNT])
  | .keyTimeout .. => some ([R.SYS_EVENT, R.SYS_KEYERRCNT])
  | .aonWriteApply .. => some ([R.SRC_STATUS, R.SRC_EVENT, R.SRC_IIN, R.PATH_STATUS, R.CONV_STATUS, R.CONV_EVENT,
    R.CONV_TET_CTRL, R.CONV_TET_I, R.CONV_SHEDCNT, R.TET_STATUS, R.ALM_STATUS, R.WB_RDLEN, R.LGR_STATUS,
    R.LGR_HOLDCNT, R.TC_STATUS, R.PD_STATUS, R.PD_EVENT, R.PD_LIMIT, R.USB_STATUS, R.USB_ADDR, R.CLK_STATUS,
    R.CLK_EVENT] ++ Regs.posting ++ Regs.window ++ Regs.charging ++ Regs.optical ++ Regs.mode ++ Regs.service)
  | .xtalSwitch .. => some ([R.CLK_STATUS])
  | .syncTxDue .. => some ([R.TET_EVENT])
  | .pwdSlotStable .. => some ([R.CLK_PWD])
  | .thmFactorRise .. => some ([R.PATH_STATUS, R.CHG_STATUS, R.CHG_IBAT, R.CONV_STATUS, R.CONV_EVENT, R.CONV_TET_I,
    R.CONV_SHEDCNT, R.THM_STATUS, R.THM_EVENT, R.THM_FACTOR, R.THM_THRCNT] ++ Regs.posting)
  | .collapseDetachTimeout .. => some ([R.TC_STATUS, R.PD_STATUS, R.PD_EVENT, R.PD_LIMIT] ++ Regs.posting ++
    Regs.mode ++ Regs.service ++ Regs.contract)

end Sys2Proof
end

