-- ==== Sys2Proof/Certificates/Slice0/Obligations.lean ====
section
/-!
DEFINITION. The obligations of this row: what the commands do, by the numbered rules of the spec. In every clause `s` is
the state before the command and `t` the state after it.
-/

-- proofs are elaborated one after another: many at once ask for more threads than a memory limit allows
set_option Elab.async false

open Sys2Proof Sys2Proof.Machine

/-- A step carries out the command at the front of the queue, or lets a tick pass. For every command c and state s,
step of s with c at the front of its queue is exec of c on s with the queue's rest. With an empty queue a step lets
one AON tick pass while the unit is supplied, and leaves a unit without supply as it is: that second half is the
model's own choice (log entry 2); a tick keeps the part and sends no command. (95_what_each_step_holds.md) -/
def Obligations.StepRunsFront : Prop :=
  (∀ (s : State) (c : Instr) (l : List Instr), s.pending = c :: l → step s = exec c { s with pending := l }) ∧
  (∀ s : State, s.pending = [] → ∃ t, step s = .next t ∧ t.pending = [] ∧ t.part = s.part ∧ (s.phase = .off → t = s) ∧
    (s.phase ≠ .off → t.now = s.now + 1))

/-- The unit without supply, before its first start. The state State.reset holds no supply, an empty queue, erased
ferroelectric banks, every store in its canonical form, and registers at the reset values of chapter 18; the part,
the free-value counter, empty pins and banks are the model's choice (log entries 5 to 9). (R20, R61, R64, R472,
R475, R477, R480, R481, R482, R484, R490, 03_first_power.md) -/
def Obligations.ResetState : Prop :=
  (State.reset.phase = .off ∧ State.reset.pending = [] ∧ State.reset.canonical = true ∧ State.reset.boot.core = false ∧
    State.reset.boot.applied = false ∧ State.reset.svc.session = none) ∧
  (State.reset.reg R.SYS_INTMASK = 0xFFFF ∧ State.reset.reg R.SRC_EN = 0x000F ∧ State.reset.reg R.SRC_RANK = 0x0039 ∧
    State.reset.reg R.ALM_TDISC = 0x0032 ∧ State.reset.reg R.ALM_TDISC2 = 0x000A ∧ State.reset.reg R.TET_IRQEN = 0x1FFC
    ∧ State.reset.reg R.TET_CFG = 0x0002 ∧ State.reset.reg R.TET_RXTHR = 0x0078 ∧ State.reset.reg R.MKT_CFG = 0x000F ∧
    State.reset.reg R.CLK_HWDCFG = 0x000A ∧ State.reset.reg R.PAGESEL = 0)

/-- Every step keeps the stores in their canonical form. Whatever the state and the command at the front: a state
whose register file, ferroelectric banks and staging area are in their canonical form (addresses rising, nothing
listed that reads as the default) steps to one whose stores are, so that equal contents are equal data. (R92, R283,
R304, R305, R415, 11_ledger.md) -/
def Obligations.CanonicalKept : Prop :=
  ∀ s t : State, s.canonical = true → step s = .next t → t.canonical = true

/-- No command stops the block, changes the part or sends another command. Every step of every state answers a next
state, of the same part, with the front command gone from the queue and nothing else. (R1,
95_what_each_step_holds.md) -/
def Obligations.UnitKept : Prop :=
  ∀ s : State, ∃ t, step s = .next t ∧ t.part = s.part ∧ t.pending = s.pending.tail

/-- What each command leaves unchanged. For every command: each part of the state that Instr.facets does not list,
and each register that Instr.registers does not list, is after the command as it was before; the ferroelectric
banks and the staging area are parts of their own. Commands that reach registers by address, or restore them, have
no list of registers: their own statements say what else they keep. (R415, R416, R64, R295, R298, R439,
18_register_map.md) -/
def Obligations.FramesKept : Prop :=
  ∀ (c : Instr) (s t : State), exec c s = .next t → (∀ f, f ∉ c.facets → s.keeps t f) ∧ (∀ l, c.registers = some l →
    s.regsKept t l)

/-- A record handed to the Ledger. With room in its producer's FIFO it waits last there; without room the firmware
keeps a class B record back, and any other event is counted into the tally of its class and type: its own
accumulator, a new one while fewer than 24 are open, or OTHER. What stays open of the event's time is no part of
this. (R298, R299, R315, R331) -/
def Obligations.Posting : Prop :=
  (∀ (s : State) (k : Kind) (p : List Byte), s.roomFor k → s.post k p =
    { s with lgr := { s.lgr with waiting := s.lgr.waiting ++ [⟨k.cls, k.prod, k.typ, p⟩] } }) ∧
  (∀ (s : State) (k : Kind) (p : List Byte), s.ledgerDead = false → s.lgr.hasRoom k.cls k.prod = false →
    firmwareProducer k.prod = true → k.cls = 2 → s.post k p =
    { s with lgr := { s.lgr with fwWait := s.lgr.fwWait ++ [⟨k.cls, k.prod, k.typ, p⟩] } }) ∧
  (∀ (s : State) (k : Kind) (p : List Byte), s.ledgerDead = false → s.lgr.hasRoom k.cls k.prod = false →
    (firmwareProducer k.prod && k.cls == 2) = false → (s.post k p).lgr.waiting = s.lgr.waiting ∧ (s.post k p).regN
    R.LGR_COALCNT = min (s.regN R.LGR_COALCNT + 1) 0xFFFF ∧ ((∀ a ∈ s.lgr.accs, a.ct ≠ classType k.cls k.prod k.typ) →
    s.lgr.accs.length < 24 → (s.post k p).lgr.accs.map (fun a => (a.ct, a.count)) = s.lgr.accs.map (fun a => (a.ct,
    a.count)) ++ [(classType k.cls k.prod k.typ, 1)]) ∧ ((∀ a ∈ s.lgr.accs, a.ct ≠ classType k.cls k.prod k.typ) → 24 ≤
    s.lgr.accs.length → (s.post k p).lgr.accs = s.lgr.accs ∧ (s.post k p).flag F.LGR_EVENT_TALLY_OTHER = true) ∧ ∀ a ∈
    s.lgr.accs, a.ct = classType k.cls k.prod k.typ → a.count1 s.stampSec ∈ (s.post k p).lgr.accs)

/-- The ADDR strap codes and the Port H base address they give. The code of a strap reading r, in 10 Ω, by the bands
of R502's table, the nominal straps within them, and the Port H base address that each code gives once a cold start
has latched it. (R502) -/
def Obligations.AddressStrap : Prop :=
  (∀ r : Nat, (addrCode r = some 0 ↔ r < 40) ∧ (addrCode r = some 1 ↔ 417 ≤ r ∧ r ≤ 489) ∧ (addrCode r = some 2 ↔ 1840 ≤
    r ∧ r ≤ 2160) ∧ (addrCode r = some 3 ↔ 20000 < r)) ∧
  (addrCode 0 = some 0 ∧ addrCode 453 = some 1 ∧ addrCode 2000 = some 2) ∧
  (∀ (s : State) (chemR addrR bat : Nat) (source : Bool), s.phase = .off → (source ∨ 2800 ≤ bat) →
    Gives (.powerOnResetRelease chemR addrR bat source) s fun t =>
      (∀ k ∈ addrCode addrR, t.baseAddr = [0x58, 0x59, 0x5A, 0x5B].getD k 0))

/-- PAGESEL. The 18 addresses with offset 0x7F name one register; its only field is the page of bits 4 to 0 with
Range 0x00 to 0x11 and Default 0x00, the other bits reserved; it is not configuration-class; every compact pointer
of Port H goes through it; warm and cold resets restore it. (R419) -/
def Obligations.PageSelect : Prop :=
  (∀ (s : State) (p : Nat), p ≤ 0x11 → s.info (p * 256 + 0x7F) = regInfo R.PAGESEL) ∧
  (∃ r, regInfo R.PAGESEL = some r ∧ r.access = .rw ∧ r.cfg = false ∧ r.reset = 0 ∧ ∀ (s : State) (v : Word), s.legal r
    v = decide (v.toNat ≤ 0x11)) ∧
  (∀ (s : State) (p : Nat), s.regN R.PAGESEL ≤ 0x11 → s.pointed true p = (0, s.regN R.PAGESEL * 256 + p % 128)) ∧
  (∀ (s : State) (cause : Nat), s.live → Gives (.warmReset cause) s fun t =>
      t.reg R.PAGESEL = 0) ∧
  (∀ (s : State) (chemR addrR bat : Nat) (source : Bool), s.phase = .off → (source ∨ 2800 ≤ bat) →
    Gives (.powerOnResetRelease chemR addrR bat source) s fun t =>
      t.reg R.PAGESEL = 0)

/-- Reads of an alias, and of a write-only register. A read through any alias returns what the plain register shows
and changes no register and no part of the state that a register stands for, whichever alias it is; a write-only
register reads 0x0000 in every form. The premise on group latches only shuts out latches that no read leaves: of a
write-only register they hold 0. (R423) -/
def Obligations.AliasReads : Prop :=
  (∀ (s : State) (via : Via) (ptr : Option Nat) (n : Nat) (late : Word) (form a : Nat), s.live → 1 ≤ form → form ≤ 3 →
    a < 16384 → ptr = some (form * 16384 + a) → s.reaches via form a → n = 1 → s.ra.snapWait = none →
    Gives (.rcRegisterRead via ptr n late) s fun t =>
      t.ra.readData = [s.shown (via.req == .portH) a] ∧ t.regs = s.regs ∧ t.lgr = s.lgr ∧ t.vdt = s.vdt ∧ t.wb = s.wb ∧
      t.opt = s.opt ∧ t.boot = s.boot ∧ t.ra.latched = s.ra.latched) ∧
  (∀ (s : State) (via : Via) (ptr : Option Nat) (n : Nat) (late : Word) (form a : Nat), s.live → form ≤ 3 → a < 16384 →
    ptr = some (form * 16384 + a) → s.reaches via form a → n = 1 → (∃ r ∈ s.info a, r.access = .wo) →
    (∀ x ∈ s.ra.latched, x.2.1 = a → x.2.2 = 0) → Gives (.rcRegisterRead via ptr n late) s fun t =>
      t.ra.readData = [0])

/-- Writes without effect. A write to a read-only register, to a policy-core register from any other requester, or to
a reserved or unnamed address changes no register and no part of the state, is acknowledged, and raises no event.
(R426) -/
def Obligations.IneffectiveWrites : Prop :=
  ∀ (s : State) (via : Via) (ptr : Nat) (data : List Word) (half : Option Byte), s.live → ptr < 16384 →
    s.reaches via 0 ptr → data.length = 1 → half = none → s.ra.snapWait = none →
    ((s.info ptr = none ∧ ptr ∉ keyedRegs ∧ ptr - 1 ∉ keyedRegs) ∨ (∃ r ∈ s.info ptr, r.access = .ro ∧ r.pol = false) ∨ (∃
      r ∈ s.info ptr, r.pol ∧ via.req ≠ .firmware)) →
    Gives (.registerWrite via ptr data half) s fun t =>
      t.regs = s.regs ∧ t.lgr = s.lgr ∧ t.cmd = s.cmd ∧ t.boot = s.boot ∧ t.path = s.path ∧ t.mkt = s.mkt ∧
      t.pins = s.pins ∧ (via.req = .portH → t.ra.nack = false)

/-- What the filtered alarm channels bring about short of an alarm. ALARM_PIN_EDGE requests the SYS clock for 1 ms
and nothing else; the withdrawal takes the request back. A disagreement that ends below its threshold is counted;
one that reaches it enters alarm-ready with the record's channel; the broadcast is made once; agreement for 1.000 s
ends the fault and is recorded; that alarm-ready ends with it in every state is the model's choice (log entry 103).
(R36, R37, R38, R39, R40, R59) -/
def Obligations.AlarmChannels : Prop :=
  (∀ (s : State), s.live → Gives (.alarmPinEdge) s fun t =>
      t = { s with alm := { s.alm with sysReq := some (s.now + msTicks 1) } }) ∧
  (∀ (s : State), s.live → s.elapsed s.alm.sysReq → s.flag F.ALM_STATUS_LOCAL = false →
    s.flag F.ALM_STATUS_DISCF = false → Gives (.sysClockRequestWithdraw) s fun t =>
      t = { s with alm := { s.alm with sysReq := none } }) ∧
  (∀ (s : State) (samples : Nat), s.live → s.flag F.ALM_STATUS_VAUXHOLD = false → 1 ≤ samples →
    samples < s.discThreshold samples → Gives (.discGlitch samples) s fun t =>
      t.regN R.ALM_GLITCHCNT = min (s.regN R.ALM_GLITCHCNT + 1) 0xFFFF ∧
      t.flag F.ALM_STATUS_ALMA = s.flag F.ALM_STATUS_LOCAL ∧ t.flag F.ALM_STATUS_ALMB = !s.flag F.ALM_STATUS_LOCAL) ∧
  (∀ (s : State) (ch : Channel) (samples : Nat), s.live → s.flag F.ALM_STATUS_VAUXHOLD = false →
    s.discThreshold samples ≤ samples → s.alm.disc = none → Gives (.discFault ch samples) s fun t =>
      t.flag F.ALM_STATUS_DISCF ∧ t.flag F.ALM_STATUS_READY ∧ t.flag F.ALM_STATUS_ALMA = (ch == .alma) ∧
      t.flag F.ALM_STATUS_ALMB = !(ch == .almb) ∧ t.flag F.CHG_STATUS_SUSP_ALM ∧ t.flag F.ALM_EVENT_DISC_FAULT ∧
      t.alm.disc = some ⟨s.now, secTicks (s.regN R.ALM_TDISC2), some s.now, s.now⟩ ∧
      (s.thm.railsOff = false → t.flag F.CONV_STATUS_HORN_ON)) ∧
  (∀ (s : State) (ch : Channel) (samples : Nat) (d : Disc), s.live → s.flag F.ALM_STATUS_VAUXHOLD = false →
    s.discThreshold samples ≤ samples → s.alm.disc = some d → Gives (.discFault ch samples) s fun t =>
      t.alm.disc = some { d with since := some s.now, last := s.now } ∧ t.lgr = s.lgr ∧ s.regsKept t [R.ALM_STATUS]) ∧
  (∀ (s : State), s.live → s.bcastDue → Gives (.discBroadcast) s fun t =>
      t.flag F.ALM_STATUS_DISCB ∧ t.flag F.ALM_EVENT_DISC_BCAST ∧ t.lgr = s.lgr ∧
      s.regsKept t [R.ALM_STATUS, R.ALM_EVENT]) ∧
  (∀ (s : State) (d : Disc), s.live → s.flag F.ALM_STATUS_DISCF →
    (s.flag F.ALM_STATUS_VAUXHOLD = false ∨ s.alm.vauxLost) → s.alm.disc = some d → d.last + 32768 ≤ s.now →
    Gives (.discClear) s fun t =>
      t.flag F.ALM_STATUS_DISCF = false ∧ t.flag F.ALM_STATUS_READY = false ∧ t.flag F.ALM_STATUS_DISCB = false ∧
      t.alm.disc = none ∧
      s.hands t K.DISC_CLEAR (beBytes 4 ((s.now - d.entry) / 32768) ++ [boolByte (s.flag F.ALM_STATUS_DISCB)]) ∧
      s.regsKept t [R.ALM_STATUS, R.LGR_COALCNT, R.LGR_EVENT])

/-- A local alarm from its start to the release of the horn. The start acts in parallel: overlay, suspension, horn
boost, the first ALARM copy with an age of 0. Horn-ready closes HSW for a local alarm. The end stops the alarm
slot, records the length in seconds and the ALARM copies sent, and posts CLEAR. The release turns the boost off.
(R34, R42, R43, R45, R46, R51, R52, R58) -/
def Obligations.LocalAlarm : Prop :=
  (∀ (s : State), s.live → s.flag F.ALM_STATUS_LOCAL = false → s.flag F.ALM_STATUS_VAUXHOLD = false →
    Gives (.localAlarmStart) s fun t =>
      t.flag F.ALM_STATUS_LOCAL ∧ t.flag F.SYS_STATE_ALARM ∧ t.field F.ALM_STATUS_KIND = s.field F.ALM_CFG_KIND ∧
      t.flag F.ALM_STATUS_ALMA ∧ t.flag F.ALM_STATUS_ALMB = false ∧ t.flag F.ALM_EVENT_LOCAL_START ∧
      t.flag F.CHG_STATUS_SUSP_ALM ∧ t.alm.start = some s.now ∧ t.alm.copies = 1 ∧
      t.alm.copyDue = some (s.now + msTicks 20) ∧ (s.thm.railsOff = false → t.flag F.CONV_STATUS_HORN_ON) ∧
      (s.framesMode → t.link.alarmSlot = some ⟨⟨0, s.alarmAddr, s.field F.ALM_CFG_KIND, [byte (if s.flag F.ALM_CFG_TEST
        then 128 else 0)]⟩, 0, s.now⟩)) ∧
  (∀ (s : State) (vhorn : Nat), s.live → s.flag F.CONV_STATUS_HORN_ON → 90 * s.power.regN R.CONV_HORN_V ≤ vhorn →
    Gives (.hornReady vhorn) s fun t =>
      t.flag F.CONV_STATUS_HORN_OK ∧ t.flag F.ALM_STATUS_HORN_OK ∧ t.reg R.CONV_HORN_MEAS = word16 (vhorn / 20) ∧
      (t.flag F.ALM_STATUS_HSW = (s.hswWanted && s.alm.hswOpenDue.isNone)) ∧ t.lgr = s.lgr ∧
      s.regsKept t [R.CONV_HORN_MEAS, R.CONV_STATUS, R.ALM_STATUS, R.TET_STATUS]) ∧
  (∀ (s : State) (vhorn vsys : Nat) (from_ : Nat), s.live → s.flag F.CONV_STATUS_HORN_ON →
    s.flag F.ALM_STATUS_HORN_OK = false → s.alm.hornFrom = some from_ → from_ + msTicks 3 ≤ s.now →
    Gives (.hornFail vhorn vsys) s fun t =>
      t.flag F.ALM_EVENT_HORN_FAIL ∧ t.reg R.CONV_HORN_MEAS = word16 (vhorn / 20) ∧
      t.reg R.PATH_VSYS = word16 (vsys / 20) ∧ t.alm.hornFrom = none ∧ t.conv.hornFailed ∧
      s.hands t K.HORN_FAIL (beBytes 2 (word16 (vhorn / 20)).toNat ++ beBytes 2 (word16 (vsys / 20)).toNat ++ beBytes 2
        t.convStatus.toNat)) ∧
  (∀ (s : State) (start : Nat), s.live → s.elapsed s.alm.copyDue → s.alm.start = some start →
    Gives (.alarmCopyDue) s fun t =>
      t.alm.copies = s.alm.copies + 1 ∧ t.alm.copyDue = some (copyTick start (s.alm.copies + 1)) ∧
      (s.framesMode → t.link.alarmSlot = some ⟨⟨0, s.alarmAddr, s.field F.ALM_STATUS_KIND, [s.alarmData start]⟩, 0,
        s.now⟩) ∧
      t.regs = s.regs ∧ t.lgr = s.lgr) ∧
  (∀ (s : State) (start : Nat), s.live → s.flag F.ALM_STATUS_LOCAL → s.flag F.ALM_STATUS_VAUXHOLD = false →
    s.alm.start = some start → Gives (.localAlarmEnd) s fun t =>
      t.flag F.ALM_STATUS_LOCAL = false ∧ t.flag F.ALM_EVENT_LOCAL_END ∧ t.alm.start = none ∧ t.alm.copyDue = none ∧
      t.link.alarmSlot = none ∧
      (s.framesMode → t.link.hushSlot = pushLast 2 s.link.hushSlot ⟨⟨1, s.alarmAddr, 1, []⟩, 0, s.now⟩) ∧
      (s.alm.remotes = [] → s.alm.level = none → t.flag F.SYS_STATE_ALARM = false) ∧
      ((19500 ≤ s.shownMv R.SRC_VTET_V ∨ s.qualified .tether = false) → s.hands t K.ALARM_END ([byte (s.field
        F.ALM_STATUS_KIND), 0] ++ beBytes 4 ((s.now - start) / 32768) ++ beBytes 2 (min s.alm.sent 0xFFFF)))) ∧
  (∀ (s : State), s.live → s.elapsed s.alm.hornHold → Gives (.hornRelease) s fun t =>
      t.flag F.CONV_STATUS_HORN_ON = false ∧ t.flag F.CONV_STATUS_HORN_OK = false ∧
      t.flag F.ALM_STATUS_HORN_OK = false ∧ t.flag F.ALM_STATUS_HSW = false ∧ t.flag F.CHG_STATUS_SUSP_ALM = false ∧
      t.alm.hornHold = none) ∧
  (∀ (s : State) (from_ : Nat), s.live → s.flag F.ALM_STATUS_VAUXHOLD → s.alm.vauxLost = false →
    s.alm.vauxHold = some from_ → from_ + secTicks 60 ≤ s.now → Gives (.vauxHoldExpiry) s fun t =>
      t.alm.vauxLost ∧ t.alm.start = none ∧ (s.alm.start.isSome → t.flag F.ALM_STATUS_LOCAL = false) ∧
      t.flag F.ALM_STATUS_ALMA = false ∧ t.flag F.ALM_STATUS_ALMB)

/-- Remote alarms and the hush. An ALARM frame from a new origin sets its bit, its hush bit cleared, and raises the
overlay; CLEAR and the timeout of 5.000 s take the origin away; a press and a HUSH frame copy the active origins to
the hush set and start the timer; its expiry empties the set; a second copy is posted when it falls due. (R47, R48,
R49, R50, R51) -/
def Obligations.RemoteAlarm : Prop :=
  (∀ (s : State) (addr kind : Nat) (data : List Byte) (c : Carrier), s.receives → addr < 64 → data.length = 1 →
    kind < 3 → s.ownAddr ≠ some addr → s.link.cand ≠ some addr → Gives (.alarmFrameRx addr kind data c) s fun t =>
      t.flag F.SYS_STATE_ALARM ∧ t.flag F.CHG_STATUS_SUSP_ALM ∧ t.mapBit R.ALM_ORIGIN0 addr ∧
      t.regN R.TET_RXCNT = min (s.regN R.TET_RXCNT + 1) 0xFFFF ∧
      (s.mapBit R.ALM_ORIGIN0 addr = false → t.flag F.ALM_EVENT_REMOTE_START ∧ t.flag F.ALM_STATUS_REMOTE ∧ t.mapBit
        R.ALM_HUSHSET0 addr = false ∧ t.reg R.ALM_LASTORG = BitVec.ofNat 16 (addr + 64 * kind + (if 128 ≤ (byteAt data
        0).toNat then 256 else 0)))) ∧
  (∀ (s : State) (addr : Nat) (data : List Byte) (c : Carrier), s.receives → addr < 64 → data.length = 0 →
    Gives (.clearFrameRx addr data c) s fun t =>
      t.flag F.ALM_EVENT_CLEAR_RX ∧ (t.alm.remotes.any (fun r : Remote => r.addr == addr) = false) ∧
      (s.alm.remotes.any (fun r : Remote => r.addr == addr) → t.flag F.ALM_EVENT_REMOTE_END ∧ t.mapBit R.ALM_ORIGIN0
        addr = false)) ∧
  (∀ (s : State) (addr : Nat) (r : Remote), s.live → (s.alm.remotes.find? (fun r : Remote => r.addr == addr) = some r) →
    r.last + secTicks 5 ≤ s.now → addr < 64 → Gives (.remoteTimeout addr) s fun t =>
      t.flag F.ALM_EVENT_REMOTE_END ∧ t.mapBit R.ALM_ORIGIN0 addr = false ∧
      (t.alm.remotes = s.alm.remotes.filter (fun x => x.addr != addr)) ∧
      ((19500 ≤ s.shownMv R.SRC_VTET_V ∨ s.qualified .tether = false) → s.hands t K.REMOTE_END ([byte addr, 1] ++
        beBytes 2 ((s.now - r.since) / 32768)))) ∧
  (∀ (s : State), s.live → Gives (.hushPress) s fun t =>
      t.flag F.ALM_EVENT_HUSH_IN ∧
      (s.flag F.SYS_STATE_ALARM → t.flag F.ALM_STATUS_HUSHED ∧ t.alm.hushDue = some (s.now + secTicks (60 * s.regN
        R.ALM_THUSH)) ∧ t.reg R.ALM_HUSHSET0 = s.reg R.ALM_ORIGIN0 ∧ t.reg R.ALM_HUSHSET1 = s.reg R.ALM_ORIGIN1 ∧ t.reg
        R.ALM_HUSHSET2 = s.reg R.ALM_ORIGIN2 ∧ t.reg R.ALM_HUSHSET3 = s.reg R.ALM_ORIGIN3) ∧
      (s.flag F.SYS_STATE_ALARM → s.framesMode → t.link.hushSlot = pushLast 2 s.link.hushSlot ⟨⟨1, s.alarmAddr, 0, []⟩,
        0, s.now⟩ ∧ t.alm.repeats = s.alm.repeats ++ [(0, s.now + msTicks 20)]) ∧
      (s.flag F.SYS_STATE_ALARM = false → s.regsKept t [R.ALM_EVENT])) ∧
  (∀ (s : State) (addr : Nat) (data : List Byte) (c : Carrier), s.receives → addr < 64 → data.length = 0 →
    Gives (.hushFrameRx addr data c) s fun t =>
      t.flag F.ALM_EVENT_HUSH_RX ∧ t.flag F.ALM_STATUS_HUSHED ∧ t.reg R.ALM_HUSHSET0 = s.reg R.ALM_ORIGIN0 ∧
      t.reg R.ALM_HUSHSET1 = s.reg R.ALM_ORIGIN1 ∧ t.reg R.ALM_HUSHSET2 = s.reg R.ALM_ORIGIN2 ∧
      t.reg R.ALM_HUSHSET3 = s.reg R.ALM_ORIGIN3 ∧ t.alm.hushDue = some (s.now + secTicks (60 * s.regN R.ALM_THUSH))) ∧
  (∀ (s : State), s.live → s.elapsed s.alm.hushDue → Gives (.hushTimerExpiry) s fun t =>
      t.mapEmpty R.ALM_HUSHSET0 ∧ t.flag F.ALM_STATUS_HUSHED = false ∧ t.alm.hushDue = none ∧ t.lgr = s.lgr ∧
      s.regsKept t [R.ALM_HUSHSET0, R.ALM_HUSHSET1, R.ALM_HUSHSET2, R.ALM_HUSHSET3, R.ALM_STATUS, R.TET_STATUS]) ∧
  (∀ (s : State) (sub due : Nat), s.live →
    (s.alm.repeats.find? (fun r : Nat × Nat => decide (r.2 ≤ s.now)) = some (sub, due)) →
    Gives (.hushClearRepeat) s fun t =>
      t.alm.repeats = s.alm.repeats.erase (sub, due) ∧
      (s.framesMode → t.link.hushSlot = pushLast 2 s.link.hushSlot ⟨⟨1, s.alarmAddr, sub, []⟩, 0, s.now⟩) ∧
      t.regs = s.regs ∧ t.lgr = s.lgr)

/-- The converters: main region, Tether converter, horn switch, VAUX with nRSTO and the KEEP latch. The region of the
main converter follows VMUX and VSYS; the Tether converter moves one step toward the mode R137 selects, through
LISTEN between SINK and SOURCE; below 18 V it folds back to at most 0.2 A, below 12 V it stops sourcing for 1.000
s; the limit of HSW opens it for 100 ms; below 3.0 V at VSYS nothing is sourced and the horn folds back. Below 90 %
of its setting VAUX asserts nRSTO and begins the hold of the alarm channels; 10 ms after its return nRSTO is
released and the hold ends; below 50 % the buck stops for 100 ms and a new fault is recorded; VAUX goes off below
2.6 V at VSYS and comes back from 2.8 V; below 1.8 V at BAT the KEEP latch clears. (R34, R118, R132, R137, R140,
R141, R142, R144, R145, R146, R147, R150) -/
def Obligations.ConverterTether : Prop :=
  (∀ (s : State) (vmux : Nat), s.live → s.flag F.CONV_STATUS_MAIN_ON → Gives (.mainRegionChange vmux) s fun t =>
      t.field F.CONV_STATUS_MAIN_REGION = mainRegion (s.field F.CONV_STATUS_MAIN_REGION) vmux s.vsysTarget ∧
      t.lgr = s.lgr ∧ s.regsKept t [R.PATH_VMUX, R.PATH_STATUS, R.CONV_STATUS]) ∧
  (∀ (s : State), s.live → Gives (.tetModeChange) s fun t =>
      t.field F.CONV_STATUS_TET_MODE = s.tetNext ∧
      (s.field F.CONV_STATUS_TET_MODE = 2 → t.field F.CONV_STATUS_TET_MODE ≠ 3) ∧
      (s.field F.CONV_STATUS_TET_MODE = 3 → t.field F.CONV_STATUS_TET_MODE ≠ 2) ∧
      (s.tetNext = s.field F.CONV_STATUS_TET_MODE → t = s)) ∧
  (∀ (s : State) (vtet : Nat), s.live → s.field F.CONV_STATUS_TET_MODE = 3 → vtet < 18000 →
    Gives (.tetSourceFoldback vtet) s fun t =>
      t.flag F.CONV_EVENT_TET_FOLD ∧ t.conv.folded ∧ t.reg R.SRC_VTET_V = word16 (vtet / 20) ∧
      toSigned16 (t.reg R.CONV_TET_I) ≤ 20 ∧ t.lgr = s.lgr ∧
      s.regsKept t [R.SRC_VTET_V, R.CONV_EVENT, R.CONV_TET_I, R.CONV_STATUS]) ∧
  (∀ (s : State) (vtet ma : Nat), s.live → s.field F.CONV_STATUS_TET_MODE = 3 → vtet < 12000 →
    Gives (.tetShort vtet ma) s fun t =>
      t.flag F.CONV_EVENT_TET_SHORT ∧ t.conv.shortRetry = some (s.now + secTicks 1) ∧
      t.field F.CONV_STATUS_TET_MODE ≠ 3 ∧ t.reg R.SRC_VTET_V = word16 (vtet / 20) ∧
      (s.conv.shortTry = none → s.roomFor K.TET_SHORT → t.holds K.TET_SHORT (beBytes 2 (volt20 vtet) ++ beSigned 2 (ma /
        10 : Nat)))) ∧
  (∀ (s : State), s.live → s.elapsed s.conv.shortRetry → Gives (.tetSourceRetry) s fun t =>
      t.conv.shortRetry = none ∧ t.conv.shortTry = some s.now ∧ t.now = s.now) ∧
  (∀ (s : State) (vhorn ma : Nat), s.live → s.flag F.ALM_STATUS_HSW → Gives (.hswOcp vhorn ma) s fun t =>
      t.flag F.ALM_STATUS_HSW = false ∧ t.alm.hswOpenDue = some (s.now + msTicks 100) ∧
      (s.conv.hswOcp = false → t.flag F.CONV_EVENT_HSW_OCP ∧ t.conv.hswOcp) ∧
      (s.conv.hswOcp = false → s.hands t K.HSW_OCP (beBytes 2 (volt20 vhorn) ++ beSigned 2 (ma / 10 : Nat)))) ∧
  (∀ (s : State), s.live → s.elapsed s.alm.hswOpenDue → Gives (.hswReclose) s fun t =>
      t.alm.hswOpenDue = none ∧ (t.flag F.ALM_STATUS_HSW = (s.flag F.ALM_STATUS_HORN_OK && s.hswWanted)) ∧
      t.lgr = s.lgr ∧ s.regsKept t [R.ALM_STATUS]) ∧
  (∀ (s : State) (vsys : Nat), s.live → Gives (.vsysLadder vsys) s fun t =>
      t.reg R.PATH_VSYS = word16 (vsys / 20) ∧ t.conv.vsysLow = decide (vsys < 3000) ∧
      (t.flag F.CONV_STATUS_HORN_FOLD = (decide (vsys < 3000) && s.flag F.CONV_STATUS_HORN_ON)) ∧
      (vsys < 3000 → t.field F.CONV_STATUS_TET_MODE ≠ 3) ∧
      (vsys < 3000 → s.flag F.CONV_STATUS_HORN_ON → s.flag F.CONV_STATUS_HORN_FOLD = false → t.flag
        F.CONV_EVENT_HORN_ILIM)) ∧
  (∀ (s : State) (vaux : Nat), s.live → 10 * vaux < 9 * s.vauxSet → Gives (.vauxUndervoltage vaux) s fun t =>
      t.flag F.CONV_STATUS_AUX_OK = false ∧ t.flag F.CONV_EVENT_AUX_UV ∧ t.pins.nrsto = false ∧
      t.flag F.ALM_STATUS_VAUXHOLD ∧
      (s.flag F.ALM_STATUS_VAUXHOLD = false → t.alm.vauxHold = some s.now ∧ t.alm.vauxLost = false) ∧ t.lgr = s.lgr ∧
      s.regsKept t [R.CONV_STATUS, R.CONV_EVENT, R.ALM_STATUS]) ∧
  (∀ (s : State) (vaux : Nat), s.live → s.pins.nrsto = false → s.nrstFree → 9 * s.vauxSet ≤ 10 * vaux →
    Gives (.nrstoRelease vaux) s fun t =>
      t.pins.nrsto ∧ t.flag F.CONV_STATUS_AUX_OK ∧ t.flag F.ALM_STATUS_VAUXHOLD = false ∧ t.alm.vauxHold = none ∧
      t.lgr = s.lgr ∧ s.regsKept t [R.CONV_STATUS, R.ALM_STATUS]) ∧
  (∀ (s : State) (vaux : Nat), s.live → s.conv.auxRetry = none → s.conv.auxOff = false → 2 * vaux < s.vauxSet →
    Gives (.auxShort vaux) s fun t =>
      t.flag F.CONV_EVENT_AUX_SHORT ∧ t.conv.auxRetry = some (s.now + msTicks 100) ∧ t.pins.nrsto = false ∧
      (s.conv.auxTry = none → s.hands t K.AUX_FAULT (beBytes 2 (volt20 vaux) ++ [byte (s.field F.CONV_AUX_VSEL)]))) ∧
  (∀ (s : State), s.live → s.elapsed s.conv.auxRetry → Gives (.auxRestart) s fun t =>
      t = { s with conv := { s.conv with auxRetry := none, auxTry := some s.now } }) ∧
  (∀ (s : State) (vsys : Nat), s.live → Gives (.vauxOff vsys) s fun t =>
      (vsys < 2600 → t.conv.auxOff ∧ t.pins.nrsto = false ∧ t.flag F.ALM_STATUS_VAUXHOLD ∧ t.reg R.PATH_VSYS = word16
        (vsys / 20)) ∧
      (2800 ≤ vsys → t.conv.auxOff = false ∧ s.regsKept t [R.PATH_VSYS] ∧ t.reg R.PATH_VSYS = word16 (vsys / 20)) ∧
      (2600 ≤ vsys → vsys < 2800 → t = s) ∧ t.lgr = s.lgr) ∧
  (∀ (s : State) (bat : Nat), bat < 1800 → Gives (.keepLatchClear bat) s fun t =>
      t.reg R.CONV_KEEP = 0 ∧ t.chg.bat = bat ∧ t.conv.keepOff ∧ bitOf t.convStatus F.CONV_STATUS_KEEP_OK.bit = false ∧
      (s.live → s.flag F.CONV_KEEP_EN → t.flag F.CONV_EVENT_KEEP_UV) ∧ t.lgr = s.lgr)

/-- A source qualifies. A source whose voltage lies in its window for its hold time, and that has rested 100 ms since
a loss, becomes qualified: voltage shown, arrival event, SRC_ARRIVE record with the source and its voltage in 20
mV; with no switch closed or prepared, the best source is prepared at once. (R101, R102, R104, R105) -/
def Obligations.SourceQualifies : Prop :=
  ∀ (s : State) (x : Source) (mv ticks : Nat), s.live → s.qualified x = false → s.rested x → s.inWindow x mv →
    s.holdTicks x ≤ ticks → Gives (.sourceQualify x mv ticks) s fun t =>
      t.qualified x ∧ t.reg (voltReg x) = word16 (volt20 mv) ∧ t.flag (arrFlag x) ∧ (x, s.now) ∈ t.path.qualAt ∧
      (s.roomFor K.SRC_ARRIVE → t.holds K.SRC_ARRIVE ([byte x.code] ++ beBytes 2 (volt20 mv))) ∧
      (s.path.closed = none → s.path.target = none → s.path.closing = false → t.path.target = t.bestSource)

/-- The comparators of an input. A collapse, reverse or over-voltage trip of a qualified source sets the trip event,
posts INPUT_TRIP with its comparator code, and the source is no longer qualified, with its loss noted for the 100
ms rest; VPV below 5 mW for 60 s is lost without a trip; the third converter fault within 60 s holds the main
converter off. (R101, R102, R104, R123, R328) -/
def Obligations.SourceLost : Prop :=
  (∀ (s : State) (x : Source) (mv : Nat), s.live → x ≠ .tether → s.qualified x → mv < s.collapseAt x →
    Gives (.inputCollapseTrip x mv) s fun t =>
      t.qualified x = false ∧ (x, s.now) ∈ t.path.lostAt ∧ t.reg (voltReg x) = word16 (volt20 mv) ∧
      t.flag F.SRC_EVENT_TRIP ∧ t.flag (lossFlag x) ∧
      (s.roomFor K.INPUT_TRIP → t.holds K.INPUT_TRIP ([byte x.code, 1] ++ beBytes 2 (volt20 mv)))) ∧
  (∀ (s : State) (x : Source) (mv vmux : Nat), s.live → x ≠ .tether → s.qualified x → mv + 30 < vmux →
    (s.path.closed = some x ∨ s.path.target = some x) → Gives (.reverseTrip x mv vmux) s fun t =>
      t.qualified x = false ∧ (x, s.now) ∈ t.path.lostAt ∧ t.path.closed ≠ some x ∧ t.flag F.SRC_EVENT_TRIP ∧
      t.reg R.PATH_VMUX = word16 (volt20 vmux) ∧
      (s.roomFor K.INPUT_TRIP → t.holds K.INPUT_TRIP ([byte x.code, 2] ++ beBytes 2 (volt20 mv)))) ∧
  (∀ (s : State) (x : Source) (mv : Nat), s.live → x ≠ .tether → s.qualified x → overAt x < mv →
    Gives (.inputOvTrip x mv) s fun t =>
      t.qualified x = false ∧ (x, s.now) ∈ t.path.lostAt ∧ t.flag F.SRC_EVENT_TRIP ∧
      (s.roomFor K.INPUT_TRIP → t.holds K.INPUT_TRIP ([byte x.code, 3] ++ beBytes 2 (volt20 mv)))) ∧
  (∀ (s : State) (mv uw ticks : Nat), s.live → uw < 5000 → secTicks 60 ≤ ticks → s.path.closed = some .vpv →
    s.qualified .vpv → Gives (.vpvLowPowerLoss mv uw ticks) s fun t =>
      t.qualified .vpv = false ∧ t.path.closed ≠ some .vpv ∧ (Source.vpv, s.now) ∈ t.path.lostAt ∧
      t.flag F.SRC_EVENT_VPV_LOSS ∧ t.reg R.SRC_TRIPCNT = s.reg R.SRC_TRIPCNT) ∧
  (∀ (s : State) (vsys mv : Nat) (x : Source), s.live → s.flag F.CONV_STATUS_MAIN_ON →
    vsys + 300 < s.power.regN R.PATH_VSYSMIN * 100 → s.path.closed = some x → s.qualified x →
    Gives (.mainConverterFault vsys mv) s fun t =>
      t.qualified x = false ∧ t.path.closed ≠ some x ∧
      (t.path.mainTrips = (s.path.mainTrips.filter fun d => decide (s.now < d + secTicks 60)) ++ [s.now]) ∧
      t.path.mainOff = decide (3 ≤ t.path.mainTrips.length) ∧
      (s.roomFor K.INPUT_TRIP → t.holds K.INPUT_TRIP ([byte x.code, 4] ++ beBytes 2 (volt20 mv))))

/-- A changeover and the VMUX safe-low rule. A planned changeover begins with a 1 ms ramp; a switch begins to close
only while VMUX is at most 0.8 V or at least 0.2 V below the source; otherwise VMUX is discharged; after 20 ms of
discharge the closure is refused and retried 100 ms later; with VMUX at 90 % of the source the switch is closed,
the main converter runs, and the changeover is counted. (R106, R112, R113, R115, R116) -/
def Obligations.Changeover : Prop :=
  (∀ (s : State) (y : Source × Source), s.live → s.planTarget = some y → Gives (.plannedChangeoverBegin) s fun t =>
      t.path.target = some y.2 ∧ t.path.old = some y.1 ∧ t.path.planned ∧ t.path.rampDue = some (s.now + msTicks 1) ∧
      t.path.closed = s.path.closed ∧ t.lgr = s.lgr ∧ s.regsKept t [R.SRC_STATUS]) ∧
  (∀ (s : State) (vmux src : Nat) (x : Source), s.live → s.path.target = some x → s.path.closing = false →
    s.path.rampDue = none → s.path.retryDue = none → safeLow vmux src → Gives (.vmuxSafe vmux src) s fun t =>
      t.path.closing ∧ t.path.target = some x ∧ t.path.dischDue = none ∧ t.flag F.SRC_STATUS_DISCH = false ∧
      t.reg R.PATH_VMUX = word16 (volt20 vmux) ∧ (vmux ≤ 800 → bitOf t.pathStatus F.PATH_STATUS_VMUX_LOW.bit) ∧
      (820 ≤ vmux → bitOf t.pathStatus F.PATH_STATUS_VMUX_LOW.bit = false) ∧ t.reg (voltReg x) = word16 (volt20 src) ∧
      (x = .vpv → t.reg R.SRC_VPV_VOC = word16 (volt20 src)) ∧ t.lgr = s.lgr) ∧
  (∀ (s : State) (vmux src : Nat) (x : Source), s.live → s.path.target = some x → s.path.closing = false →
    s.path.rampDue = none → s.path.retryDue = none → safeLow vmux src = false → Gives (.vmuxSafe vmux src) s fun t =>
      (t.flag F.SRC_STATUS_DISCH = (s.path.dischDue.isNone || s.flag F.SRC_STATUS_DISCH)) ∧
      t.path = { s.path with dischDue := some (s.path.dischDue.getD (s.now + msTicks 20)) } ∧
      t.reg R.PATH_VMUX = word16 (volt20 vmux) ∧ t.reg (voltReg x) = word16 (volt20 src) ∧ t.lgr = s.lgr ∧
      s.regsKept t [R.PATH_VMUX, voltReg x, R.SRC_STATUS]) ∧
  (∀ (s : State) (vmux src : Nat),
    (s.path.target = none ∨ s.path.closing ∨ s.path.rampDue ≠ none ∨ s.path.retryDue ≠ none) →
    Gives (.vmuxSafe vmux src) s fun t =>
      t = s) ∧
  (∀ (s : State) (vmux : Nat) (x : Source), s.live → s.elapsed s.path.dischDue → s.path.closing = false →
    s.path.target = some x → safeLow vmux (s.shownMv (voltReg x)) = false → Gives (.safelowTimeout vmux) s fun t =>
      t.path.refused ∧ t.path.retryDue = some (s.now + msTicks 100) ∧ t.path.dischDue = none ∧ t.path.closing = false ∧
      t.flag F.SRC_STATUS_DISCH = false ∧ t.flag F.SRC_EVENT_SAFELOW_TIMEOUT ∧
      (s.path.refused = false → s.hands t K.SAFELOW_TIMEOUT ([byte x.code] ++ beBytes 2 (volt20 vmux)))) ∧
  (∀ (s : State) (x : Source), s.live → s.elapsed s.path.retryDue → s.path.target = some x →
    Gives (.safelowRetry) s fun t =>
      t.path.retryDue = none ∧
      (safeLow (s.shownMv R.PATH_VMUX) (s.shownMv (voltReg x)) = false → t.flag F.SRC_STATUS_DISCH ∧ t.path.dischDue =
        some (s.now + msTicks 20)) ∧
      t.path.target = some x ∧ t.lgr = s.lgr ∧ s.regsKept t [R.SRC_STATUS]) ∧
  (∀ (s : State) (vmux us : Nat) (x : Source), s.live → s.path.target = some x → s.path.closing →
    9 * (s.regN (voltReg x) * 20) ≤ 10 * vmux → s.flag F.PATH_STATUS_SYS_OVP = false →
    Gives (.changeoverComplete vmux us) s fun t =>
      t.path.closed = some x ∧ t.path.target = none ∧ t.path.closing = false ∧ t.field F.SRC_STATUS_ACTIVE = x.code ∧
      t.flag F.CONV_STATUS_MAIN_ON ∧ t.regN R.SRC_CHGOVRCNT = min (s.regN R.SRC_CHGOVRCNT + 1) 0xFFFF ∧
      t.flag F.SRC_EVENT_CHANGEOVER ∧
      (s.roomFor K.CHANGEOVER → t.holds K.CHANGEOVER ([byte ((s.path.old.map Source.code).getD 0), byte x.code, boolByte
        s.path.planned] ++ beBytes 4 us)))

/-- BATFET and the VSYS comparators; perturb and observe on VPV. 100 mV below BAT the BATFET conducts as an ideal
diode, fully on above 1.7 A; supplement sets and clears its status and event; discharge over-current or VSYS below
2.0 V opens BATFET for 1.000 s; VSYS over 18.5 V stops the converter for 10 ms; linear mode ends at PATH_VSYSMIN −
0.2 V. A step moves the target by 1 % of the last open-circuit voltage within ±10 % of FRAC of it; the open-circuit
check stops the draw for 20 ms and stores what it measured. (R110, R119, R120, R121, R123, R124) -/
def Obligations.BatteryPath : Prop :=
  (∀ (s : State) (vsys bat ma : Nat), s.live → s.flag F.PATH_STATUS_BATOPEN = false → vsys + 100 ≤ bat →
    Gives (.idealDiodeConduct vsys bat ma) s fun t =>
      t.flag F.PATH_STATUS_IDEAL ∧ t.flag F.PATH_STATUS_BATON = decide (1700 < ma) ∧ t.chg.bat = bat ∧
      t.flag F.PATH_STATUS_HOLD = false ∧ t.flag F.PATH_STATUS_LINEAR = false ∧
      t.reg R.PATH_VSYS = word16 (volt20 vsys) ∧ t.lgr = s.lgr ∧ s.regsKept t [R.PATH_VSYS, R.PATH_STATUS]) ∧
  (∀ (s : State), s.live → s.flag F.SYS_STATE_FEED → s.flag F.PATH_STATUS_SUPPLEMENT = false →
    Gives (.supplementStart) s fun t =>
      t.flag F.PATH_STATUS_SUPPLEMENT ∧ (s.flag F.PATH_STATUS_BATOPEN = false → t.flag F.PATH_STATUS_IDEAL) ∧
      t.flag F.PATH_EVENT_SUPP_START ∧ (s.field F.CONV_STATUS_TET_MODE = 3 → t.field F.CONV_STATUS_TET_MODE ≠ 3) ∧
      (t.field F.CONV_STATUS_TET_MODE = s.field F.CONV_STATUS_TET_MODE → t.lgr = s.lgr ∧ s.regsKept t [R.PATH_STATUS,
        R.PATH_EVENT, R.CHG_STATUS, R.CHG_IBAT])) ∧
  (∀ (s : State), s.live → s.flag F.PATH_STATUS_SUPPLEMENT → Gives (.supplementEnd) s fun t =>
      t.flag F.PATH_STATUS_SUPPLEMENT = false ∧ t.flag F.PATH_EVENT_SUPP_END ∧
      (t.field F.CONV_STATUS_TET_MODE = s.field F.CONV_STATUS_TET_MODE → t.lgr = s.lgr ∧ s.regsKept t [R.PATH_STATUS,
        R.PATH_EVENT])) ∧
  (∀ (s : State) (ma vsys : Nat), s.live → s.flag F.PATH_STATUS_BATOPEN = false →
    (s.power.regN R.PATH_BATOCP * 500 < ma ∨ vsys < 2000) → Gives (.batfetTrip ma vsys) s fun t =>
      t.flag F.PATH_STATUS_BATOPEN ∧ t.path.batRetry = some (s.now + secTicks 1) ∧
      t.reg R.PATH_VSYS = word16 (volt20 vsys) ∧ (s.power.regN R.PATH_BATOCP * 500 < ma → t.flag F.PATH_EVENT_BATOCP) ∧
      (ma ≤ s.power.regN R.PATH_BATOCP * 500 → t.flag F.PATH_EVENT_SYS_SHORT) ∧
      (s.path.batTry = none → s.hands t K.SYS_SHORT ([byte (s.batTripCause ma vsys)] ++ beSigned 2 (-((ma / 10 : Nat) :
        Int)) ++ beBytes 2 (volt20 vsys)))) ∧
  (∀ (s : State), s.live → s.elapsed s.path.batRetry → Gives (.batfetRetry) s fun t =>
      t.flag F.PATH_STATUS_BATOPEN = false ∧ t.path.batRetry = none ∧ t.path.batTry = some s.now ∧ t.lgr = s.lgr ∧
      s.regsKept t [R.PATH_STATUS]) ∧
  (∀ (s : State) (vsys : Nat), s.live → 18500 < vsys → Gives (.vsysOvTrip vsys) s fun t =>
      t.flag F.PATH_STATUS_SYS_OVP ∧ t.flag F.PATH_EVENT_SYS_OVP ∧ t.flag F.CONV_STATUS_MAIN_ON = false ∧
      t.flag F.PATH_STATUS_IDEAL ∧ t.path.ovDue = some (s.now + msTicks 10) ∧
      (s.roomFor K.SYS_OVP → t.holds K.SYS_OVP (beBytes 2 (volt20 vsys) ++ [byte s.carrier])) ∧
      (t.field F.CONV_STATUS_TET_MODE = s.field F.CONV_STATUS_TET_MODE → s.hands t K.SYS_OVP (beBytes 2 (volt20 vsys) ++
        [byte s.carrier]))) ∧
  (∀ (s : State), s.live → s.elapsed s.path.ovDue → Gives (.vsysOvRestart) s fun t =>
      t.flag F.PATH_STATUS_SYS_OVP = false ∧ t.path.ovDue = none ∧ t.flag F.CONV_STATUS_MAIN_ON = s.path.closed.isSome ∧
      s.banksKept t) ∧
  (∀ (s : State) (bat : Nat), s.live → s.flag F.PATH_STATUS_LINEAR → s.phaseN ≠ phAbsent →
    s.power.regN R.PATH_VSYSMIN * 100 ≤ bat + 200 → Gives (.linearEnd bat) s fun t =>
      t.flag F.PATH_EVENT_LINEAR_END ∧ t.chg.bat = bat ∧ t.lgr = s.lgr ∧ s.regsKept t [R.PATH_STATUS, R.PATH_EVENT]) ∧
  (∀ (s : State) (up : Bool), s.live → s.flag F.SRC_STATUS_TRACK → s.vpvMode = 0 → Gives (.vpvPoStep up) s fun t =>
      t = { s with path := { s.path with vpvTarget := t.path.vpvTarget } } ∧
      t.path.vpvTarget ≤ max (s.fracVoc * 90 / 100) (s.fracVoc * 110 / 100) ∧ s.fracVoc * 90 / 100 ≤ t.path.vpvTarget ∧
      (up → s.path.vpvTarget + s.path.voc / 100 ≤ s.fracVoc * 110 / 100 → s.fracVoc * 90 / 100 ≤ s.path.vpvTarget →
        t.path.vpvTarget = s.path.vpvTarget + s.path.voc / 100)) ∧
  (∀ (s : State), s.live → s.path.closed = some .vpv → s.elapsed s.path.ocNext → s.plannedWaits = false →
    Gives (.vpvOcCheck) s fun t =>
      t.flag F.SRC_STATUS_TRACK = false ∧ t.path.ocNext = none ∧ t.path.ocDue = some (s.now + msTicks 20) ∧
      t.lgr = s.lgr ∧ s.regsKept t [R.SRC_STATUS]) ∧
  (∀ (s : State) (mv : Nat), s.live → s.elapsed s.path.ocDue → s.path.closed = some .vpv →
    Gives (.vpvOcCheckEnd mv) s fun t =>
      t.reg R.SRC_VPV_VOC = word16 (volt20 mv) ∧ t.flag F.SRC_STATUS_TRACK = s.flag F.CONV_STATUS_MAIN_ON ∧
      t.path.voc = mv ∧ t.path.ocDue = none ∧ (s.vpvMode ≠ 2 → t.path.ocNext = some (s.now + secTicks 600)) ∧
      (s.vpvMode ≠ 2 → t.path.vpvTarget = mv * s.power.field F.SRC_VPV_CFG_FRAC / 100) ∧ t.lgr = s.lgr)

/-- Detection of the cell and the phase that follows. DETECT is entered from OFF, from a cleared fault or after 60 s
of absence, or waits as SUSPENDED while a cause of R167 holds; a BAT below n × 0.5 V or a peak above n × (VREG +
0.2 V) means no cell; otherwise the phase is the one R158 chooses. (R154, R155, R156, R158) -/
def Obligations.ChargerDetection : Prop :=
  (∀ (s : State), s.live → s.chgAllowed →
    (s.phaseN = phOff ∨ (s.phaseN = phFault ∧ s.chg.fault = 0) ∨ (s.phaseN = phAbsent ∧ s.elapsed s.chg.absentDue)) →
    Gives (.chgDetect) s fun t =>
      (t.phaseN = (if s.chgHeld then phSusp else phDetect)) ∧ t.flag F.CHG_EVENT_PHASE_CHG ∧ t.chg.absentDue = none ∧
      t.lgr = s.lgr) ∧
  (∀ (s : State) (bat peak : Nat), s.live → s.phaseN = phDetect →
    (bat < s.series * 500 ∨ s.series * (s.regN R.CHG_VREG * 10 + 200) < peak) → Gives (.chgDetectDone bat peak) s fun t =>
      t.phaseN = phAbsent ∧ t.flag F.CHG_EVENT_ABSENT ∧ t.chg.bat = bat ∧ t.chg.cellSeen = false ∧
      t.chg.absentDue = some (s.now + secTicks 60) ∧
      (s.chg.cellSeen → s.roomFor K.CELL_ABSENT → t.holds K.CELL_ABSENT (beBytes 2 (volt20 bat) ++ [byte s.chg.prior])))
        ∧
  (∀ (s : State) (bat peak : Nat), s.live → s.phaseN = phDetect → s.series * 500 ≤ bat →
    peak ≤ s.series * (s.regN R.CHG_VREG * 10 + 200) → Gives (.chgDetectDone bat peak) s fun t =>
      (t.phaseN = (if bat < s.series * chemVpre s.chem then phPre else if (s.setBat bat).topupHolds then (if s.chg.prior
        = phRest ∨ s.chg.prior = phTopup then phTopup else phCC) else phRest)) ∧
      t.chg.cellSeen ∧ t.chg.bat = bat ∧ t.flag F.CHG_EVENT_PHASE_CHG) ∧
  (∀ (s : State), s.live → s.chgAllowed → s.phaseN = phAbsent → s.elapsed s.chg.absentDue →
    Gives (.chgAbsentRetry) s fun t =>
      (t.phaseN = (if s.chgHeld then phSusp else phDetect)) ∧ t.chg.absentDue = none ∧ t.lgr = s.lgr)

/-- The charger's phases. PRECONDITION passes to CC at n × (V_PRE + 0.10 V), CC to CV at n × VREG; termination
current ends CV with FULL and the CHG_FULL record; the partial target ends charging with TGT_REACHED; REST passes
to TOP-UP when the top-up condition holds; a recomputation or its 1 s limit lets a charger that waited for it go
on. (R156, R158, R162, R163, R164, R168) -/
def Obligations.ChargerPhases : Prop :=
  (∀ (s : State) (bat : Nat), s.live → s.phaseN = phPre → s.series * (chemVpre s.chem + 100) ≤ bat →
    Gives (.chgPreconditionDone bat) s fun t =>
      t.phaseN = phCC ∧ t.chg.bat = bat ∧ t.chg.timed = 3 ∧ t.chg.limit = secTicks (3600 * s.field F.CHG_TIMERS_TSAFE) ∧
      t.flag F.CHG_EVENT_PHASE_CHG ∧ (t.reg R.VDT_STATUS = s.reg R.VDT_STATUS → t.lgr = s.lgr)) ∧
  (∀ (s : State) (bat : Nat), s.live → s.series * s.vreg ≤ bat → Gives (.chgCvEntry bat) s fun t =>
      (s.phaseN = phCC → t.phaseN = phCV) ∧ (s.phaseN = phTopup → t.phaseN = phTopup ∧ t.flag F.CHG_STATUS_CVSUB) ∧
      (s.phaseN ≠ phCC → s.phaseN ≠ phTopup → t = s) ∧ (t.reg R.VDT_STATUS = s.reg R.VDT_STATUS → t.lgr = s.lgr)) ∧
  (∀ (s : State) (bat : Nat), s.live → (s.phaseN = phCV ∨ (s.phaseN = phTopup ∧ s.flag F.CHG_STATUS_CVSUB)) →
    Gives (.chgTermCurrent bat) s fun t =>
      t.phaseN = phRest ∧ t.flag F.CHG_EVENT_FULL ∧ t.flag F.CHG_STATUS_FULLREQ = false ∧ t.chg.bat = bat ∧
      (t.reg R.VDT_STATUS = s.reg R.VDT_STATUS → s.hands t K.CHG_FULL (beBytes 2 (volt20 bat) ++ beBytes 2 (s.regN
        R.CHG_SOC) ++ beBytes 2 ((s.now - s.chg.ccFrom) / secTicks 60) ++ [boolByte (s.flag F.CHG_STATUS_FULLREQ)]))) ∧
  (∀ (s : State), s.live → s.charging → s.targetReached → Gives (.chgTargetReached) s fun t =>
      t.phaseN = phRest ∧ t.flag F.CHG_EVENT_TGT_REACHED ∧
      s.hands t K.CHG_TARGET ([2] ++ beBytes 2 (s.regN R.CHG_TGT) ++ beBytes 2 (s.regN R.CHG_TGT) ++ beBytes 3 s.eB ++
        beBytes 2 (s.regN R.CHG_BALSOC) ++ [byte (kT s.chem s.tworst)] ++ beSigned 1 s.tworst)) ∧
  (∀ (s : State) (bat : Nat), s.live → s.phaseN = phRest → Gives (.chgTopupStart bat) s fun t =>
      (t.phaseN = (if (s.setBat bat).topupHolds then phTopup else phRest)) ∧
      ((s.setBat bat).topupHolds → t.flag F.CHG_EVENT_TOPUP) ∧ t.chg.bat = bat ∧
      (t.reg R.VDT_STATUS = s.reg R.VDT_STATUS → t.lgr = s.lgr)) ∧
  (∀ (s : State) (soc : Nat) (valid : Bool), s.live → s.boot.core → Gives (.chgSocWrite soc valid) s fun t =>
      (t.reg R.CHG_SOC = BitVec.ofNat 16 (soc % 1024 + (if valid then 0x8000 else 0))) ∧ t.chg.socAt = some s.now ∧
      (valid → s.flag F.SYS_BOOT_FALLBACK = false → t.flag F.CHG_STATUS_LIMITED = false) ∧
      (valid = false → t.flag F.CHG_STATUS_LIMITED)) ∧
  (∀ (s : State) (d : Nat), s.live → s.chg.socAt = some d → d + secTicks 10 ≤ s.now → Gives (.chgSocStale) s fun t =>
      t.flag F.CHG_STATUS_LIMITED ∧ (s.flag F.CHG_STATUS_LIMITED = false → t.flag F.CHG_EVENT_LIMITED)) ∧
  (∀ (s : State), s.live → s.boot.core → Gives (.ballastRecompute) s fun t =>
      t.reg R.CHG_TWORST = BitVec.ofNat 16 (s.worstTemp.1 % 256).toNat ∧
      t.group R.CHG_BALLAST_H 2 = ceilDiv s.ballastNum (s.ballastDen s.worstTemp.1) % 65536 ^ 2 ∧
      t.regN R.CHG_TGT = max (s.regN R.CHG_TGTMIN) (min 1000 ((s.ballastSoc s.worstTemp.1 (s.regN
        R.CHG_BAL_MARGIN)).getD 1000)) ∧
      t.chg.recalcDue = none ∧
      (1000 < (s.ballastSoc s.worstTemp.1 (s.regN R.CHG_BAL_MARGIN)).getD 1001 → t.flag F.CHG_EVENT_BALLAST_SHORT)) ∧
  (∀ (s : State), s.live → s.elapsed s.chg.recalcDue → Gives (.chgResumeTimeout) s fun t =>
      t.chg.recalcDue = none ∧ t.lgr = s.lgr ∧ (s.phaseN = phSusp → s.chgHeld = false → t.flag F.CHG_EVENT_RESUME) ∧
      (s.phaseN = phSusp → s.chgHeld = false → t.phaseN = s.nextPhase))

/-- Suspension and faults of the charger. A cause that holds sets its bit and suspends a running charger; with no
cause left R158 chooses the next phase; an expired timer, BAT over n × (CHG_VREG + 0.10 V) and disagreeing
thermistors put the charger in FAULT and count it; each reading gives its thermistor's zone, and with two enabled
the zone used is that of R165; 24 h clear a timeout, and BAT_OV once BAT is below n × CHG_VREG. (R165, R167, R169)
-/
def Obligations.ChargerFaults : Prop :=
  (∀ (s : State) (x : SuspCause), s.live → s.suspHolds x → x ≠ .alarm → Gives (.chgSuspend x) s fun t =>
      t.flag (suspFlag x) ∧
      (s.flag (suspFlag x) = false → s.charging → t.phaseN = phSusp ∧ t.chg.prior = s.phaseN ∧ t.flag
        F.CHG_EVENT_SUSPEND) ∧
      (s.flag (suspFlag x) → t = s)) ∧
  (∀ (s : State) (x : SuspCause), s.live → s.suspHolds x → x = .alarm → Gives (.chgSuspend x) s fun t =>
      t.flag F.CHG_STATUS_SUSP_ALM ∧
      (s.flag F.CHG_STATUS_SUSP_ALM = false → s.charging → t.phaseN = phSusp ∧ t.flag F.CHG_EVENT_SUSPEND)) ∧
  (∀ (s : State) (bat : Nat), s.live → s.phaseN = phSusp → s.chgHeld = false →
    (s.chg.recalcDue = none ∨ s.elapsed s.chg.recalcDue) → Gives (.chgResume bat) s fun t =>
      t.flag F.CHG_EVENT_RESUME ∧ t.chg.bat = bat ∧ t.phaseN = (s.setBat bat).nextPhase ∧
      (t.reg R.VDT_STATUS = s.reg R.VDT_STATUS → t.lgr = s.lgr)) ∧
  (∀ (s : State), s.live → s.timerExpired → Gives (.chgTimeoutFault) s fun t =>
      t.phaseN = phFault ∧ (t.chg.fault = (match timerOf s.phaseN with | 2 => 1 | 3 => 2 | _ => 3)) ∧
      t.chg.faultAt = some s.now ∧ t.regN R.CHG_FAULTCNT = min (s.regN R.CHG_FAULTCNT + 1) 0xFFFF ∧
      t.flag F.CHG_EVENT_FAULT ∧
      (s.roomFor K.CHG_FAULT → t.holds K.CHG_FAULT ([byte t.chg.fault, byte s.phaseN] ++ beBytes 2 (volt20 s.chg.bat) ++
        beBytes 2 (min (s.regN R.CHG_FAULTCNT + 1) 0xFFFF)))) ∧
  (∀ (s : State) (bat : Nat), s.live → s.series * (s.regN R.CHG_VREG * 10 + 100) < bat → s.phaseN ≠ phOff →
    s.phaseN ≠ phDetect → s.phaseN ≠ phAbsent → s.phaseN ≠ phFault → Gives (.chgBatOv bat) s fun t =>
      t.phaseN = phFault ∧ t.chg.fault = 4 ∧ t.chg.bat = bat ∧ t.flag F.CHG_EVENT_FAULT ∧
      t.regN R.CHG_FAULTCNT = min (s.regN R.CHG_FAULTCNT + 1) 0xFFFF) ∧
  (∀ (s : State) (d : Nat), s.live → s.flag F.CHG_CFG_NTCB_EN → s.chg.ntcDiffFrom = some d → d + secTicks 60 ≤ s.now →
    Gives (.ntcDisagree) s fun t =>
      3 ∈ t.chg.ntcFault ∧ (s.phaseN ≠ phOff → s.phaseN ≠ phFault → t.phaseN = phFault ∧ t.chg.fault = 5) ∧
      (3 ∉ s.chg.ntcFault → s.roomFor K.NTC_FAULT → t.holds K.NTC_FAULT ([3] ++ tempBytes s.chg.ntca ++ tempBytes
        s.chg.ntcb))) ∧
  (∀ (s : State) (bat d : Nat), s.live → s.chg.faultAt = some d → d + secTicks 86400 ≤ s.now →
    (s.chg.fault = 1 ∨ s.chg.fault = 2 ∨ s.chg.fault = 3 ∨ (s.chg.fault = 4 ∧ bat < s.series * (s.regN R.CHG_VREG * 10)))
      →
    Gives (.chgFaultAutoclear bat) s fun t =>
      t.chg.fault = 0 ∧ t.chg.faultAt = none ∧
      (s.phaseN = phFault → s.chgAllowed → t.field F.CONV_STATUS_TET_MODE = s.field F.CONV_STATUS_TET_MODE → t.phaseN =
        (if s.chgHeld then phSusp else phDetect))) ∧
  (∀ (s : State) (a nb : Option Int), s.phase = .run → s.flag F.CHG_CFG_NTCB_EN = false →
    Gives (.ntcReading a nb) s fun t =>
      t.chg.ntca = a ∧ t.field F.CHG_ZONE_A = zoneOf s.chem (oldZone s.chg.ntca (s.field F.CHG_ZONE_A)) a ∧
      t.zone = t.field F.CHG_ZONE_A ∧ (a = none → 1 ∈ t.chg.ntcFault) ∧ (t.zone = 4 → t.flag F.CHG_STATUS_SUSP_TEMP) ∧
      (t.zone = 2 → t.flag F.CHG_STATUS_SUSP_TEMP = false)) ∧
  (∀ (s : State) (a nb : Option Int), s.phase = .run → s.flag F.CHG_CFG_NTCB_EN → Gives (.ntcReading a nb) s fun t =>
      t.chg.ntca = a ∧ t.chg.ntcb = nb ∧
      t.field F.CHG_ZONE_A = zoneOf s.chem (oldZone s.chg.ntca (s.field F.CHG_ZONE_A)) a ∧
      t.field F.CHG_ZONE_B = zoneOf s.chem (oldZone s.chg.ntcb (s.field F.CHG_ZONE_B)) nb ∧
      t.zone = zoneUsed true a nb (t.field F.CHG_ZONE_A) (t.field F.CHG_ZONE_B) ∧ (a = none → 1 ∈ t.chg.ntcFault) ∧
      (nb = none → 2 ∈ t.chg.ntcFault) ∧ (t.zone = 4 → t.flag F.CHG_STATUS_SUSP_TEMP) ∧
      (t.zone = 2 → t.flag F.CHG_STATUS_SUSP_TEMP = false))

/-- The Weighbridge's starts, stops, checkpoints and checks. A start loads the checkpoint and runs; watchdog and
brownout stop it with causes 3 and 2 and keep the checkpoint; the early warning and the timed checkpoint store
every counter; each failed check of R181 is recorded as one fault until the next start. (R61, R177, R178, R180,
R181, R193) -/
def Obligations.WeighbridgeLife : Prop :=
  (∀ (s : State) (romOk calOk refOk : Bool), s.live → s.wb.run = false → Gives (.wbStart romOk calOk refOk) s fun t =>
      t.wb.run ∧ t.wb.counters = s.wb.ckCounters ∧ t.wb.timeBase = s.wb.ckTime ∧ t.wb.starts = s.wb.starts + 1 ∧
      t.wb.period = 15 ∧ t.flag F.WB_EVENT_RESUMED ∧ (1 ∈ t.wb.faults ↔ romOk = false) ∧
      (2 ∈ t.wb.faults ↔ calOk = false) ∧ (4 ∈ t.wb.faults ↔ refOk = false) ∧
      (s.wb.ended = false → s.wb.outq.length < 16 → s.wb.held = [] → t.wb.resumed = false)) ∧
  (∀ (s : State), s.live → s.wb.run → Gives (.wbWatchdogExpiry) s fun t =>
      t.wb.run = false ∧ t.wb.cause = 3 ∧ t.wb.seq = none ∧ t.wb.held = [] ∧ t.wb.ckCounters = s.wb.ckCounters ∧
      t.wb.ckSeq = s.wb.ckSeq ∧ t.wb.outq = s.wb.outq) ∧
  (∀ (s : State) (mid : Bool), s.live → s.wb.run → Gives (.vwbBrownout mid) s fun t =>
      t.wb.run = false ∧ t.wb.cause = 2 ∧ t.wb.seq = none ∧
      (mid = false → t.wb.ckSeq = s.wb.ckSeq ∧ t.wb.ckCounters = s.wb.ckCounters) ∧
      (mid → t.wb.ckSeq = s.wb.seqNum + 1 ∧ t.wb.ckKind = 2) ∧ t.wb.outq = s.wb.outq) ∧
  (∀ (s : State) (m : WbMeter), s.live → s.wb.run → Gives (.vwbEarlyWarning m) s fun t =>
      t = (s.wbMeter m).wbCheckpoint 1 s.wb.seqNum ∧
      t.wb.ckCounters = s.wb.counters.add ((s.wb.rest + m.dv * 10) / (s.shunt : Int)) s.shunt m ∧ t.wb.ckKind = 1) ∧
  (∀ (s : State) (m : WbMeter), s.live → s.wb.run → Gives (.wbCheckpoint m) s fun t =>
      t = (s.wbMeter m).wbCheckpoint 0 s.wb.seqNum ∧
      t.wb.ckCounters = s.wb.counters.add ((s.wb.rest + m.dv * 10) / (s.shunt : Int)) s.shunt m ∧
      t.wb.ckTime = s.wbTime) ∧
  (∀ (s : State) (bad : Bool), s.live → s.wb.run → Gives (.wbWboCheck bad) s fun t =>
      (t.wb.wboFails = (if bad then s.wb.wboFails + 1 else 0)) ∧ (9 ≤ s.wb.wboFails → bad → 3 ∈ t.wb.faults) ∧
      (s.wb.wboFails < 9 → t.wb.faults = s.wb.faults) ∧ t.lgr = s.lgr ∧ s.regsKept t [R.WB_EVENT]) ∧
  (∀ (s : State) (bad : Bool), s.live → s.wb.run → bad = true → Gives (.wbReferenceCheck bad) s fun t =>
      4 ∈ t.wb.faults ∧ (4 ∉ s.wb.faults → t.flag F.WB_EVENT_FAULT) ∧ (4 ∈ s.wb.faults → t = s) ∧ t.lgr = s.lgr ∧
      s.regsKept t [R.WB_EVENT]) ∧
  (∀ (s : State), s.live → s.wb.run → Gives (.wbCurrentOverrange) s fun t =>
      5 ∈ t.wb.faults ∧ (5 ∉ s.wb.faults → t.flag F.WB_EVENT_FAULT) ∧ (5 ∈ s.wb.faults → t = s) ∧ t.lgr = s.lgr ∧
      s.regsKept t [R.WB_EVENT])

/-- Release of Weighbridge records. A record that finds a place takes the next sequence number after a checkpoint
that holds it, and ends with its tag; a periodic record adds what was metered; the last number is taken by a
WB_FAULT of code 6, and none follows it; a held record, or else the deferred one, is released as a place frees;
acceptance moves the oldest record out of the queue. (R177, R178, R193, R195, R196, R197) -/
def Obligations.WeighbridgeRecords : Prop :=
  (∀ (s : State) (m : WbMeter) (bat : Nat) (v : Int) (x : WbTemps), s.live → s.wbFree → s.elapsed s.wb.periodDue →
    Gives (.wbPeriodicDue m bat v x) s fun t =>
      (s.releases t 1 (if s.wb.suspSeen then 64 else 0) (beSigned 6 (s.wb.counters.add ((s.wb.rest + m.dv * 10) /
        (s.shunt : Int)) s.shunt m).q ++ (s.wb.counters.add ((s.wb.rest + m.dv * 10) / (s.shunt : Int)) s.shunt
        m).e.flatMap (beBytes 6) ++ (beBytes 3 bat ++ beSigned 3 (s.amps v) ++ tempsBytes x))) ∧
      t.wb.counters = s.wb.counters.add ((s.wb.rest + m.dv * 10) / (s.shunt : Int)) s.shunt m ∧
      t.wb.ckCounters = t.wb.counters ∧ t.wb.ckSeq = t.wb.seqNum ∧
      t.wb.periodDue = some (s.now + secTicks (60 * s.wb.period)) ∧ t.flag F.WB_EVENT_RECORD ∧ t.lgr = s.lgr) ∧
  (∀ (s : State) (m : WbMeter) (bat : Nat) (v : Int) (x : WbTemps), s.live → s.wb.run → s.elapsed s.wb.periodDue →
    (16 ≤ s.wb.outq.length ∨ s.wb.held ≠ []) → Gives (.wbPeriodicDue m bat v x) s fun t =>
      t.wb.deferred = some (beBytes 3 bat ++ beSigned 3 (s.amps v) ++ tempsBytes x) ∧ t.wb.outq = s.wb.outq ∧
      t.wb.seqNum = s.wb.seqNum ∧
      t.wb.counters = s.wb.counters.add ((s.wb.rest + m.dv * 10) / (s.shunt : Int)) s.shunt m) ∧
  (∀ (s : State) (m : WbMeter) (bat : Nat) (v : Int) (x : WbTemps), s.live → s.wb.run → s.elapsed s.wb.periodDue →
    s.wb.outq.length < 16 → s.wb.held = [] → (s.wb.ended ∨ s.wb.seqNum = 0xFFFFFFFF) →
    Gives (.wbPeriodicDue m bat v x) s fun t =>
      (s.wb.ended → t.wb.outq = s.wb.outq ∧ t.wb.seqNum = s.wb.seqNum) ∧
      (s.wb.ended = false → t.wb.ended ∧ 6 ∈ t.wb.faults ∧ t.wb.seqNum = 0x100000000 ∧ t.wb.outq.map Rec.typ =
        s.wb.outq.map Rec.typ ++ [9]) ∧
      t.wb.periodDue = some (s.now + secTicks (60 * s.wb.period))) ∧
  (∀ (s : State) (r : WbHeld) (l : List WbHeld), s.live → s.wb.run → s.wbRoom → s.wb.ended = false →
    s.wb.seqNum ≠ 0xFFFFFFFF → s.wb.held = r :: l → s.wb.pend = none → Gives (.wbRecordRelease) s fun t =>
      t.wb.held = l ∧ s.releases t r.typ r.flags r.body ∧ t.lgr = s.lgr ∧ s.regsKept t [R.WB_EVENT]) ∧
  (∀ (s : State) (l : List Byte), s.live → s.wbFree → s.wb.deferred = some l → Gives (.wbRecordRelease) s fun t =>
      t.wb.deferred = none ∧
      (s.releases t 1 (2 + (if s.wb.suspSeen then 64 else 0)) (beSigned 6 s.wb.counters.q ++ s.wb.counters.e.flatMap
        (beBytes 6) ++ l)) ∧
      t.lgr = s.lgr ∧ s.regsKept t [R.WB_EVENT]) ∧
  (∀ (s : State) (v : Verify) (r : Rec), s.live → s.nextRec = some r → r.prod = 0x05 → s.mayAccept r →
    s.lgr.waiting.contains r = false → v = .ok → s.cmd.finishing = [] → Gives (.wbRecordAccepted v) s fun t =>
      t.wb.outq.take (s.wb.outq.length - 1) = s.wb.outq.drop 1 ∧ (r.typ, r.payload) ∈ t.wb.accepted ∧
      t.lgr.nextSeq = s.lgr.nextSeq + 1 ∧
      t.lgr.spool = s.lgr.spool ++ [⟨s.lgr.nextSeq, s.lgr.place (slotsFor r.payload.length), slotsFor
        r.payload.length⟩]) ∧
  (∀ (s : State) (v : Verify) (r : Rec), s.live → s.nextRec = some r → r.prod ≠ 0x05 →
    Gives (.wbRecordAccepted v) s fun t =>
      t = s)

/-- The mailbox commands: the triggers of a sequence, and the others. To a mailbox that is not busy: each of the four
triggers starts its sequence with result 0 while the Weighbridge is at rest and the conditions of R184 and R190
hold; where they fail it is dropped with its WB_NOTICE or, under the suspension, becomes the holdoff; while a
sequence runs or its result waits, the first trigger is latched with result 1 and a further one counted with result
2. Result 0 for a dropped trigger is the model's choice (log entry 114). A requester without the right is answered
4, an argument out of range 3; a failed mask ROM, a second calibration and a CAP_END without CAPACITY 7; an unknown
code 5; any write while the mailbox is busy 6. SET_PERIOD takes 1 to 60 minutes, SET_CELL at least 10 mAh once in
each start, IDENT releases WB_IDENT or holds it while the queue is full (the model's choice, log entry 110), RESET
with 0x5742 stops the Weighbridge with cause 4. (R62, R181, R183, R184, R188, R190, R191, R192, R196, R199) -/
def Obligations.WeighbridgeTriggers : Prop :=
  (∀ (s : State) (req : Requester), s.live → s.wb.run → s.mailBusy = false → openRequester req → s.wbBusy = false →
    Gives (.snapshot req) s fun t =>
      t.wb.seq = some ⟨seqSnap, s.now, 0, s.suspLine, none, s.wb.counters.q, s.wb.counters.e.getD 6 0, 0, 0, none, none,
        none⟩ ∧
      t.field F.WB_CMDRES_CODE = 1 ∧ t.field F.WB_CMDRES_RESULT = 0 ∧ t.lgr = s.lgr ∧ s.regsKept t [R.WB_CMDRES]) ∧
  (∀ (s : State) (req : Requester), s.live → s.wb.run → s.mailBusy = false → req = .firmware → s.romBad = false →
    s.wbBusy = false → s.suspLine = false → s.flag F.SYS_STATE_FEED → s.wb.cell ≠ none → Gives (.sweep req) s fun t =>
      t.wb.seq = some ⟨seqSweep, s.now, 0, false, none, s.wb.counters.q, s.wb.counters.e.getD 6 0, 0, 0, none, none,
        none⟩ ∧
      t.flag F.CONV_STATUS_EXC ∧ t.flag F.CHG_STATUS_SUSP_SWEEP ∧ t.field F.WB_CMDRES_CODE = 2 ∧
      t.field F.WB_CMDRES_RESULT = 0) ∧
  (∀ (s : State) (req : Requester), s.live → s.wb.run → s.mailBusy = false → req = .firmware → s.romBad = false →
    s.wbBusy = false → s.flag F.SYS_STATE_PROOF → Gives (.capBegin req) s fun t =>
      t.wb.seq = some ⟨seqCap, s.now, 0, s.suspLine, none, s.wb.counters.q, s.wb.counters.e.getD 6 0, 0, 0, none, none,
        none⟩ ∧
      t.field F.WB_CMDRES_CODE = 3 ∧ t.field F.WB_CMDRES_RESULT = 0 ∧ t.lgr = s.lgr ∧ s.regsKept t [R.WB_CMDRES]) ∧
  (∀ (s : State) (req : Requester), s.live → s.wb.run → s.mailBusy = false → req = .firmware → 500 ≤ s.regN R.WB_ARG0 →
    s.regN R.WB_ARG0 ≤ 2000 → s.romBad = false → s.calibrated = false → s.wbBusy = false → s.flag F.SYS_STATE_SERVICE →
    Gives (.calibrate req) s fun t =>
      t.wb.seq = some ⟨seqCal, s.now, s.regN R.WB_ARG0, s.suspLine, none, s.wb.counters.q, s.wb.counters.e.getD 6 0, 0,
        0, none, none, none⟩ ∧
      t.field F.WB_CMDRES_CODE = 8 ∧ t.field F.WB_CMDRES_RESULT = 0 ∧ t.lgr = s.lgr ∧ s.regsKept t [R.WB_CMDRES]) ∧
  (∀ (s : State) (c : Instr) (req : Requester) (kind code arg : Nat), s.live → s.wb.run → s.mailBusy = false →
    ((c = .snapshot req ∧ openRequester req ∧ kind = 1 ∧ code = 1 ∧ arg = 0) ∨ (c = .sweep .firmware ∧ s.romBad = false ∧
      kind = 2 ∧ code = 2 ∧ arg = 0) ∨ (c = .capBegin .firmware ∧ s.romBad = false ∧ kind = 3 ∧ code = 3 ∧ arg = 0) ∨ (c =
      .calibrate .firmware ∧ 500 ≤ s.regN R.WB_ARG0 ∧ s.regN R.WB_ARG0 ≤ 2000 ∧ s.romBad = false ∧ s.calibrated = false ∧
      kind = 4 ∧ code = 8 ∧ arg = s.regN R.WB_ARG0)) →
    s.wbBusy → Gives (c) s fun t =>
      t.wb.seq = s.wb.seq ∧ t.wb.outq = s.wb.outq ∧ t.field F.WB_CMDRES_CODE = code ∧
      (s.wb.pend = none → t.wb.pend = some (kind, arg) ∧ t.field F.WB_CMDRES_RESULT = 1 ∧ t.reg R.WB_OVRCNT = s.reg
        R.WB_OVRCNT) ∧
      (s.wb.pend ≠ none → t.wb.pend = s.wb.pend ∧ t.regN R.WB_OVRCNT = min (s.regN R.WB_OVRCNT + 1) 0xFFFF ∧ t.field
        F.WB_CMDRES_RESULT = 2) ∧
      t.lgr = s.lgr ∧ s.regsKept t [R.WB_CMDRES, R.WB_OVRCNT]) ∧
  (∀ (s : State) (c : Instr) (reason code : Nat), s.live → s.wbFree → s.mailBusy = false → s.wb.seq = none →
    s.romBad = false →
    ((c = .sweep .firmware ∧ s.suspLine = false ∧ s.flag F.SYS_STATE_FEED = false ∧ reason = 1 ∧ code = 2) ∨ (c = .sweep
      .firmware ∧ s.suspLine = false ∧ s.flag F.SYS_STATE_FEED ∧ s.wb.cell = none ∧ reason = 2 ∧ code = 2) ∨ (c =
      .capBegin .firmware ∧ s.flag F.SYS_STATE_PROOF = false ∧ reason = 3 ∧ code = 3) ∨ (c = .calibrate .firmware ∧ 500 ≤
      s.regN R.WB_ARG0 ∧ s.regN R.WB_ARG0 ≤ 2000 ∧ s.calibrated = false ∧ s.flag F.SYS_STATE_SERVICE = false ∧ reason = 4
      ∧ code = 8)) →
    Gives (c) s fun t =>
      t.wb.seq = none ∧ s.releases t 0x0A 0 ([byte reason, byte code] ++ beBytes 3 (s.wbTime % 2 ^ 24)) ∧
      t.flag F.WB_EVENT_NOTICE ∧ t.field F.WB_CMDRES_CODE = code ∧ t.field F.WB_CMDRES_RESULT = 0 ∧ t.lgr = s.lgr ∧
      s.regsKept t [R.WB_CMDRES, R.WB_EVENT]) ∧
  (∀ (s : State) (req : Requester), s.live → s.wb.run → s.mailBusy = false → req = .firmware → s.romBad = false →
    s.wbBusy = false → s.suspLine → Gives (.sweep req) s fun t =>
      t.wb.holdArmed ∧ t.wb.holdDue = none ∧ t.wb.seq = s.wb.seq ∧ t.wb.outq = s.wb.outq ∧
      t.field F.WB_CMDRES_CODE = 2 ∧ t.field F.WB_CMDRES_RESULT = 0 ∧ t.lgr = s.lgr ∧ s.regsKept t [R.WB_CMDRES]) ∧
  (∀ (s : State) (c : Instr) (req : Requester) (code result : Nat), s.live → s.wb.run → s.mailBusy = false →
    (((c = .snapshot req ∧ code = 1 ∨ c = .wbMailboxIdent req ∧ code = 7) ∧ openRequester req = false ∧ result = 4) ∨ ((c
      = .sweep req ∧ code = 2 ∨ c = .capBegin req ∧ code = 3 ∨ c = .capEnd req ∧ code = 4 ∨ c = .setPeriod req ∧ code = 5
      ∨ c = .setCell req ∧ code = 6 ∨ c = .calibrate req ∧ code = 8 ∨ c = .wbMailboxReset req ∧ code = 9) ∧ req ≠
      .firmware ∧ result = 4) ∨ (req = .firmware ∧ ((c = .setPeriod req ∧ code = 5 ∧ (s.regN R.WB_ARG0 = 0 ∨ 60 < s.regN
      R.WB_ARG0) ∨ c = .setCell req ∧ code = 6 ∧ (s.regN R.WB_ARG0 < 10 ∨ s.wb.cell ≠ none) ∨ c = .calibrate req ∧ code =
      8 ∧ (s.regN R.WB_ARG0 < 500 ∨ 2000 < s.regN R.WB_ARG0) ∨ c = .wbMailboxReset req ∧ code = 9 ∧ s.regN R.WB_ARG0 ≠
      0x5742) ∧ result = 3 ∨ (c = .sweep req ∧ code = 2 ∧ s.romBad ∨ c = .capBegin req ∧ code = 3 ∧ s.romBad ∨ c =
      .calibrate req ∧ code = 8 ∧ 500 ≤ s.regN R.WB_ARG0 ∧ s.regN R.WB_ARG0 ≤ 2000 ∧ (s.romBad ∨ s.calibrated) ∨ c =
      .capEnd req ∧ code = 4 ∧ s.wb.seq.all (fun q : WbSeq => q.kind != seqCap || q.relaxFrom.isSome)) ∧ result = 7)) ∨
      ((code = 0 ∨ 10 ≤ code) ∧ code < 256 ∧ c = .wbCmdUnknown code ∧ result = 5)) →
    Gives (c) s fun t =>
      t.field F.WB_CMDRES_CODE = code ∧ t.field F.WB_CMDRES_RESULT = result ∧ t.flag F.WB_EVENT_CMD_REJECT ∧
      t = { s with regs := t.regs, free := t.free, wb := { s.wb with cmdDue := t.wb.cmdDue } } ∧
      s.regsKept t [R.WB_CMDRES, R.WB_EVENT]) ∧
  (∀ (s : State) (code : Nat), s.live → s.wb.run → s.mailBusy = false → (code = 0 ∨ 10 ≤ code) →
    Gives (.wbCmdUnknown code) s fun t =>
      t.field F.WB_CMDRES_CODE = code % 256 ∧ t.field F.WB_CMDRES_RESULT = 5 ∧ t.flag F.WB_EVENT_CMD_REJECT ∧
      s.regsKept t [R.WB_CMDRES, R.WB_EVENT] ∧ t.lgr = s.lgr) ∧
  (∀ (s : State) (c : Instr) (req : Requester) (code : Nat), s.live → s.wb.run → s.mailBusy →
    c ∈ [Instr.snapshot req, .sweep req, .capBegin req, .capEnd req, .setPeriod req, .setCell req, .wbMailboxIdent req,
      .calibrate req, .wbMailboxReset req, .wbCmdUnknown code] →
    Gives (c) s fun t =>
      t.field F.WB_CMDRES_RESULT = 6 ∧ t.flag F.WB_EVENT_CMD_REJECT ∧ t = { s with regs := t.regs } ∧
      s.regsKept t [R.WB_CMDRES, R.WB_EVENT]) ∧
  (∀ (s : State) (req : Requester) (q : WbSeq), s.live → s.wb.run → s.mailBusy = false → req = .firmware →
    s.wb.seq = some q → q.kind = seqCap → q.relaxFrom = none → Gives (.capEnd req) s fun t =>
      t.wb.seq = some { q with relaxFrom := some s.now, out := some (s.capOut q) } ∧ t.field F.WB_CMDRES_CODE = 4 ∧
      t.field F.WB_CMDRES_RESULT = 0 ∧ t.lgr = s.lgr ∧ s.regsKept t [R.WB_CMDRES]) ∧
  (∀ (s : State) (req : Requester), s.live → s.wb.run → s.mailBusy = false → req = .firmware → 1 ≤ s.regN R.WB_ARG0 →
    s.regN R.WB_ARG0 ≤ 60 → Gives (.setPeriod req) s fun t =>
      t.wb = { s.wb with period := s.regN R.WB_ARG0, cmdDue := t.wb.cmdDue } ∧ t.field F.WB_CMDRES_CODE = 5 ∧
      t.field F.WB_CMDRES_RESULT = 0 ∧ t.lgr = s.lgr ∧ s.regsKept t [R.WB_CMDRES]) ∧
  (∀ (s : State) (req : Requester), s.live → s.wb.run → s.mailBusy = false → req = .firmware → 10 ≤ s.regN R.WB_ARG0 →
    s.wb.cell = none → Gives (.setCell req) s fun t =>
      t.wb = { s.wb with cell := some (s.regN R.WB_ARG0), cmdDue := t.wb.cmdDue } ∧ t.field F.WB_CMDRES_CODE = 6 ∧
      t.field F.WB_CMDRES_RESULT = 0 ∧ t.lgr = s.lgr ∧ s.regsKept t [R.WB_CMDRES]) ∧
  (∀ (s : State) (req : Requester), s.live → s.wb.run → s.mailBusy = false → openRequester req →
    Gives (.wbMailboxIdent req) s fun t =>
      (s.wbFree → s.releases t 7 0 (beBytes 8 Config.wbUid.toNat ++ beBytes 4 0x7A3C19E5 ++ beBytes 4 0x01020000 ++
        beBytes 4 (Config.calId s.wb.calib).toNat ++ beBytes 4 (s.wb.starts % 2 ^ 32) ++ [boolByte s.calibrated])) ∧
      ((s.wb.ended = false ∧ (16 ≤ s.wb.outq.length ∨ s.wb.held ≠ [])) → t.wb.outq = s.wb.outq ∧ t.wb.held = s.wb.held
        ++ [⟨7, 0, s.identBody⟩]) ∧
      t.field F.WB_CMDRES_CODE = 7 ∧ t.field F.WB_CMDRES_RESULT = 0 ∧ t.lgr = s.lgr ∧
      s.regsKept t [R.WB_CMDRES, R.WB_EVENT]) ∧
  (∀ (s : State) (req : Requester), s.live → s.wb.run → s.mailBusy = false → req = .firmware →
    s.regN R.WB_ARG0 = 0x5742 → Gives (.wbMailboxReset req) s fun t =>
      t.wb.run = false ∧ t.wb.cause = 4 ∧ t.wb.seq = none ∧ t.wb.ckSeq = s.wb.ckSeq ∧
      t.wb.ckCounters = s.wb.ckCounters ∧ t.wb.outq = s.wb.outq)

/-- The ends of the Weighbridge's sequences. SNAP ends after 250 ms, a sweep after 61.1 s with eight points and its
result by the clipped ones, the relaxation of CAPACITY after 600 s, CAL after 10 s with the shunt stored when in
band; each releases its record and then starts a pending trigger, or, while the queue is full, holds the record and
starts nothing. The holdoff's end acts as a SWEEP trigger. (R182, R185, R186, R187, R188, R189, R190, R196) -/
def Obligations.WeighbridgeSequences : Prop :=
  (∀ (s : State) (m : WbMeter) (x : SnapMeasure) (q : WbSeq), s.live → s.wb.run → s.wb.seq = some q → q.kind = seqSnap →
    q.start + msTicks 250 ≤ s.now → Gives (.snapDone m x) s fun t =>
      (s.wbFree → s.wb.pend = none → t.wb.seq = none ∧ s.releases t 2 (if q.susp then 64 else 0) (beBytes 3 x.bat ++
        beSigned 3 (s.amps x.v) ++ beBytes 3 x.batMin ++ beBytes 3 x.batMax ++ beSigned 3 (s.amps x.vMin) ++ beSigned 3
        (s.amps x.vMax) ++ tempsBytes x.temps ++ beSigned 6 (s.wb.counters.add ((s.wb.rest + m.dv * 10) / (s.shunt :
        Int)) s.shunt m).q)) ∧
      (s.wb.ended = false → 16 ≤ s.wb.outq.length ∨ s.wb.held ≠ [] → t.wb.held = s.wb.held ++ [⟨2, if q.susp then 64
        else 0, beBytes 3 x.bat ++ beSigned 3 (s.amps x.v) ++ beBytes 3 x.batMin ++ beBytes 3 x.batMax ++ beSigned 3
        (s.amps x.vMin) ++ beSigned 3 (s.amps x.vMax) ++ tempsBytes x.temps ++ beSigned 6 (s.wb.counters.add ((s.wb.rest
        + m.dv * 10) / (s.shunt : Int)) s.shunt m).q⟩] ∧ t.wb.outq = s.wb.outq ∧ t.wb.seq = none ∧ t.wb.pend =
        s.wb.pend) ∧
      (s.wbFree → s.wb.pend = some (seqSnap, 0) → t.wb.seq.map (fun x => (x.kind, x.start)) = some (seqSnap, s.now) ∧
        t.wb.pend = none) ∧
      t.flag F.WB_EVENT_SEQ_DONE ∧ (s.wb.pend = none → t.lgr = s.lgr)) ∧
  (∀ (s : State) (points : List SweepPoint) (peak : Nat) (ntca ntcb : Option Int) (q : WbSeq), s.live → s.wb.run →
    s.wb.seq = some q → q.kind = seqSweep → q.start + msTicks 61100 ≤ s.now → points.length = 8 →
    Gives (.sweepDone points peak ntca ntcb) s fun t =>
      (t.wb.seq.all (fun x : WbSeq => x.kind != seqSweep) → t.flag F.CONV_STATUS_EXC = false ∧ t.flag
        F.CHG_STATUS_SUSP_SWEEP = false) ∧
      t.flag F.WB_EVENT_SEQ_DONE ∧
      (s.wb.ended = false → 16 ≤ s.wb.outq.length ∨ s.wb.held ≠ [] → t.wb.held.map WbHeld.typ = s.wb.held.map WbHeld.typ
        ++ [3] ∧ t.wb.outq = s.wb.outq ∧ t.wb.seq = none ∧ t.wb.pend = s.wb.pend) ∧
      (s.wbFree → s.wb.pend = some (seqSnap, 0) → t.wb.seq.map (fun x => (x.kind, x.start)) = some (seqSnap, s.now) ∧
        t.wb.pend = none) ∧
      (s.wbFree → s.wb.pend = none → t.wb.seq = none ∧ t.wb.seqNum = s.wb.seqNum + 1 ∧ t.wb.outq.map (fun r => natAt
        r.payload 16 1) = s.wb.outq.map (fun r => natAt r.payload 16 1) ++ [if (points.filter SweepPoint.clipped).length
        = 0 then 0 else if (points.filter SweepPoint.clipped).length ≤ 2 then 1 else 2])) ∧
  (∀ (s : State), s.live → s.wb.run → s.elapsed s.wb.holdDue → s.wbBusy → Gives (.sweepHoldoffExpiry) s fun t =>
      t.wb.holdDue = none ∧ t.wb.seq = s.wb.seq ∧ (s.wb.pend = none → t.wb.pend = some (seqSweep, 0)) ∧
      (s.wb.pend ≠ none → t.wb.pend = s.wb.pend ∧ t.regN R.WB_OVRCNT = min (s.regN R.WB_OVRCNT + 1) 0xFFFF)) ∧
  (∀ (s : State), s.live → s.wb.run → s.elapsed s.wb.holdDue → s.wbBusy = false → s.suspLine = false →
    s.flag F.SYS_STATE_FEED → s.wb.cell ≠ none → Gives (.sweepHoldoffExpiry) s fun t =>
      t.wb.holdDue = none ∧
      t.wb.seq = some ⟨seqSweep, s.now, 0, false, none, s.wb.counters.q, s.wb.counters.e.getD 6 0, 0, 0, none, none,
        none⟩ ∧
      t.flag F.CONV_STATUS_EXC ∧ t.flag F.CHG_STATUS_SUSP_SWEEP) ∧
  (∀ (s : State) (q : WbSeq), s.live → s.wb.run → s.wb.seq = some q → q.kind = seqCap →
    q.start + secTicks 14400 ≤ s.now → q.relaxFrom = none → Gives (.capDischargeTimeout) s fun t =>
      t = { s with wb := { s.wb with seq := some { q with relaxFrom := some s.now, out := some (s.capOut q) } } }) ∧
  (∀ (s : State) (m : CapMeasure) (q : WbSeq) (d : Nat), s.live → s.wb.run → s.wb.seq = some q → q.kind = seqCap →
    q.relaxFrom = some d → q.start ≤ s.now → d + secTicks 600 ≤ s.now → Gives (.capRelaxDone m) s fun t =>
      (s.wb.ended = false → 16 ≤ s.wb.outq.length ∨ s.wb.held ≠ [] → t.wb.held.map WbHeld.typ = s.wb.held.map WbHeld.typ
        ++ [5] ∧ t.wb.outq = s.wb.outq ∧ t.wb.seq = none ∧ t.wb.pend = s.wb.pend) ∧
      (s.wbFree → s.wb.pend = some (seqSnap, 0) → t.wb.seq.map (fun x => (x.kind, x.start)) = some (seqSnap, s.now) ∧
        t.wb.pend = none) ∧
      (s.wbFree → s.wb.pend = none → t.wb.seq = none ∧ t.wb.seqNum = s.wb.seqNum + 1 ∧ t.wb.outq.map (fun r => natAt
        r.payload 16 1) = s.wb.outq.map (fun r => natAt r.payload 16 1) ++ [s.capResult m]) ∧
      t.flag F.WB_EVENT_SEQ_DONE ∧ (s.wb.pend = none → t.lgr = s.lgr)) ∧
  (∀ (s : State) (v : Nat) (q : WbSeq), s.live → s.wb.run → s.wb.seq = some q → q.kind = seqCal →
    q.start + secTicks 10 ≤ s.now → Gives (.calDone v) s fun t =>
      (q.susp = false → 4500 * q.arg ≤ v → v ≤ 22000 * q.arg → t.wb.calib = some (v * 10 / q.arg, q.arg, s.clk.time /
        65536)) ∧
      (q.susp ∨ v < 4500 * q.arg ∨ 22000 * q.arg < v → t.wb.calib = s.wb.calib) ∧
      (s.wbFree → s.wb.pend = none → t.wb.seq = none ∧ t.wb.seqNum = s.wb.seqNum + 1 ∧ t.wb.outq.map (fun r => natAt
        r.payload 16 1) = s.wb.outq.map (fun r => natAt r.payload 16 1) ++ [if q.susp then 2 else if 4500 * q.arg ≤ v ∧
        v ≤ 22000 * q.arg then 0 else 1]) ∧
      (s.wb.ended = false → 16 ≤ s.wb.outq.length ∨ s.wb.held ≠ [] → t.wb.held.map WbHeld.typ = s.wb.held.map WbHeld.typ
        ++ [6] ∧ t.wb.outq = s.wb.outq ∧ t.wb.seq = none ∧ t.wb.pend = s.wb.pend) ∧
      (s.wbFree → s.wb.pend = some (seqSnap, 0) → t.wb.seq.map (fun x => (x.kind, x.start)) = some (seqSnap, s.now) ∧
        t.wb.pend = none) ∧
      t.flag F.WB_EVENT_SEQ_DONE ∧ (s.wb.pend = none → t.lgr = s.lgr))

/-- RESERVE and the curfew's notes. RESERVE_FORM forms both estimates and shows them, times how long they have stood,
and chooses RESERVE by R207; an absent charger, or a cell below n × V_PRE without FEED, is CRITICAL at once; the
end of the curfew releases every held note with its HELD bit. (R204, R205, R207, R213, R215) -/
def Obligations.ReserveAndNotes : Prop :=
  (∀ (s : State), s.live → s.boot.core → Gives (.reserveForm) s fun t =>
      t.vdt.ec = s.estEc ∧ t.vdt.ev = s.estEv ∧ t.reg R.VDT_EC = word16 (t.vdt.ec / 10000) ∧
      t.reg R.VDT_EV = word16 (t.vdt.ev / 10000) ∧ t.reg R.VDT_EA = word16 (s.eA / 10000) ∧
      t.field F.VDT_STATUS_RESERVE = { s with vdt := t.vdt }.reserveNext ∧
      (s.criticalNow → t.field F.VDT_STATUS_RESERVE = 2) ∧
      (s.criticalNow → s.field F.VDT_STATUS_RESERVE ≠ 2 → t.flag F.VDT_EVENT_VERDICT_CHG) ∧
      (s.criticalNow = false → s.vdt.critFrom = none → s.field F.VDT_STATUS_RESERVE ≠ 2 → t.field F.VDT_STATUS_RESERVE ≠
        2) ∧
      (max t.vdt.ec t.vdt.ev < s.eB * 1000 → t.vdt.lowFrom = some (s.vdt.lowFrom.getD s.now)) ∧
      (t.vdt.critFrom ≠ none ↔ max t.vdt.ec t.vdt.ev < s.eA)) ∧
  (∀ (s : State), s.live → s.boot.core → s.timeValid → s.inCurfew = false → s.vdt.held ≠ [] →
    Gives (.curfewEnd) s fun t =>
      t.vdt.held = [] ∧ t.flag F.VDT_STATUS_HELD = false ∧ t.flag F.VDT_EVENT_RELEASE ∧
      (t.vdt.fifo ++ t.vdt.waiting = s.vdt.fifo ++ s.vdt.waiting ++ s.vdt.held.map fun n => { n with held := true }) ∧
      t.lgr = s.lgr ∧ s.regsKept t [R.VDT_STATUS, R.VDT_EVENT])

/-- The proof test. 24 h before its start CHG_TGT is raised for the dose; the checks, for a request or at the
scheduled start, start the test, defer it under the ALARM overlay, or skip it with a cause; CAP_BEGIN at T0 + 15
min, the load 1.1 s later, its end at the first stop condition of R218 with CAP_END; with WB_CAPACITY accepted
PROOF clears and the outcome is 2 after a collapse, 1 with a capacity, else 3. (R168, R189, R216, R217, R218, R219)
-/
def Obligations.ProofTest : Prop :=
  (∀ (s : State), s.live → s.boot.core → s.liftDue → Gives (.proofLift) s fun t =>
      t.vdt.lifted ∧
      (t.regN R.CHG_TGT = min 1000 (max (s.regN R.CHG_TGT) (s.regN R.CHG_BALSOC + 10 * s.regN R.VDT_DOSE + 30)) ∨ t.reg
        R.CHG_TGT = s.reg R.CHG_TGT) ∧
      (s.regN R.CHG_TGT < min 1000 (s.regN R.CHG_BALSOC + 10 * s.regN R.VDT_DOSE + 30) → t.regN R.CHG_TGT = min 1000
        (s.regN R.CHG_BALSOC + 10 * s.regN R.VDT_DOSE + 30) ∧ t.flag F.CHG_EVENT_TGT_CHG)) ∧
  (∀ (s : State), s.live → s.boot.core → s.vdt.proof = none → s.ranToday = false → (s.vdt.requested ∨ s.planDue) →
    (s.vdt.deferred.all (fun x : Bool × Nat => decide (s.now ≤ x.2 + secTicks 86400))) →
    s.flag F.SYS_STATE_ALARM = false → s.inSafe = false → s.phaseN ≠ phAbsent →
    s.regN R.CHG_BALSOC + 10 * s.regN R.VDT_DOSE ≤ s.field F.CHG_SOC_SOC → Gives (.proofChecks) s fun t =>
      t.flag F.SYS_STATE_PROOF ∧ t.flag F.CHG_STATUS_SUSP_PROOF ∧ t.flag F.VDT_EVENT_PROOF_START ∧
      t.flag F.CONV_TET_CTRL_CELLOK = false ∧ t.vdt.proof.map Proof.t0 = some s.now ∧
      t.vdt.proof.map Proof.requested = some s.vdt.requested ∧ t.vdt.requested = false ∧ t.vdt.deferred = none ∧
      t.vdt.lastStart = some s.now ∧ (s.wb.run → t.wb.period = 1)) ∧
  (∀ (s : State), s.live → s.boot.core → s.vdt.proof = none → s.ranToday = false → (s.vdt.requested ∨ s.planDue) →
    (s.vdt.deferred.all (fun x : Bool × Nat => decide (s.now ≤ x.2 + secTicks 86400))) → s.flag F.SYS_STATE_ALARM →
    Gives (.proofChecks) s fun t =>
      (t.vdt.deferred = some (s.vdt.requested, (s.vdt.deferred.map fun x : Bool × Nat => x.2).getD s.now)) ∧
      t.flag F.VDT_STATUS_PROOF_DEFERRED ∧ t.vdt.proof = none ∧ t.vdt.requested = false) ∧
  (∀ (s : State), s.live → s.boot.core → s.vdt.proof = none → s.ranToday = false → (s.vdt.requested ∨ s.planDue) →
    (s.vdt.deferred.any (fun x : Bool × Nat => decide (x.2 + secTicks 86400 < s.now)) ∨ (s.flag F.SYS_STATE_ALARM = false
      ∧ (s.inSafe ∨ s.phaseN = phAbsent ∨ s.field F.CHG_SOC_SOC < s.regN R.CHG_BALSOC + 10 * s.regN R.VDT_DOSE))) →
    Gives (.proofChecks) s fun t =>
      t.vdt.proof = none ∧ t.regN R.VDT_SKIPCNT = min (s.regN R.VDT_SKIPCNT + 1) 0xFFFF ∧ t.regN R.VDT_PROOF % 8 = 5 ∧
      t.flag F.VDT_EVENT_PROOF_SKIP ∧ t.flag F.VDT_STATUS_PROOF_DEFERRED = false ∧ t.vdt.deferred = none ∧
      t.vdt.requested = false ∧
      (t.reg R.VDT_STATUS = (s.setFlag F.VDT_STATUS_PROOF_DEFERRED false).reg R.VDT_STATUS → s.hands t K.PROOF_SKIP [if
        s.vdt.deferred.any (fun x : Bool × Nat => decide (x.2 + secTicks 86400 < s.now)) then 3 else if s.inSafe then 1
        else if s.phaseN = phAbsent then 2 else 4])) ∧
  (∀ (s : State) (req : Bool) (d : Nat), s.live → s.boot.core → s.vdt.proof = none → s.ranToday = false →
    s.elapsed s.vdt.deferDue → s.vdt.deferred = some (req, d) → Gives (.proofDeferExpiry) s fun t =>
      (d + secTicks 86400 < s.now → t.vdt.proof = none ∧ t.regN R.VDT_SKIPCNT = min (s.regN R.VDT_SKIPCNT + 1) 0xFFFF ∧
        t.flag F.VDT_EVENT_PROOF_SKIP ∧ t.vdt.deferred = none) ∧
      (s.now ≤ d + secTicks 86400 → s.flag F.SYS_STATE_ALARM → t.vdt.deferred = some (req, d) ∧ t.vdt.deferDue = none) ∧
      (s.now ≤ d + secTicks 86400 → s.flag F.SYS_STATE_ALARM = false → s.inSafe = false → s.phaseN ≠ phAbsent → s.regN
        R.CHG_BALSOC + 10 * s.regN R.VDT_DOSE ≤ s.field F.CHG_SOC_SOC → t.flag F.SYS_STATE_PROOF ∧ t.vdt.deferred = none
        ∧ t.vdt.proof.map Proof.requested = some req)) ∧
  (∀ (s : State) (q : Proof), s.live → s.boot.core → s.vdt.proof = some q → q.step < 4 → q.t0 + secTicks 900 ≤ s.now →
    Gives (.proofCapacityBegin) s fun t =>
      t.vdt.proof = some { q with step := 4, q0 := s.lastQ q, capAt := some s.now } ∧
      (s.wb.run → s.romBad = false → s.wbBusy = false → s.flag F.SYS_STATE_PROOF → t.wb.seq.map WbSeq.kind = some
        seqCap) ∧
      t.lgr = s.lgr) ∧
  (∀ (s : State) (q : Proof) (d : Nat), s.live → s.boot.core → s.vdt.proof = some q → q.step = 4 → q.capAt = some d →
    d + msTicks 1100 ≤ s.now → Gives (.proofDischargeStart) s fun t =>
      t.vdt.proof = some { q with step := 5, load := true } ∧ t.flag F.PATH_STATUS_IDEAL ∧ t.reg R.SRC_IIN = 0 ∧
      (s.field F.CONV_STATUS_TET_MODE = 2 → 0 ≤ toSigned16 (t.reg R.CONV_TET_I)) ∧ t.lgr = s.lgr ∧
      s.regsKept t [R.PATH_STATUS, R.SRC_IIN, R.SRC_STATUS, R.CONV_TET_I, R.CONV_STATUS]) ∧
  (∀ (s : State) (bat : Nat) (q : Proof), s.live → s.boot.core → s.vdt.proof = some q → q.load →
    (s.doseDrawn q ∨ q.capAt.any (fun d : Nat => decide (d + msTicks 1100 + secTicks 12600 ≤ s.now)) ∨ bat < s.series *
      chemVpre s.chem ∨ s.estEc ≤ s.eB * 1000) →
    Gives (.proofDischargeEnd bat) s fun t =>
      t.vdt.proof = some { q with step := 8, load := false, collapse := decide (bat < s.series * chemVpre s.chem) } ∧
      t.chg.bat = bat ∧
      (s.wb.run → s.wb.seq.any (fun x : WbSeq => x.kind == seqCap && x.relaxFrom.isNone) → t.wb.seq.map WbSeq.relaxFrom
        = some (some s.now)) ∧
      (t.reg R.VDT_STATUS = s.reg R.VDT_STATUS → t.lgr = s.lgr)) ∧
  (∀ (s : State) (q : Proof) (r : List Byte), s.live → s.boot.core → s.vdt.proof = some q → 4 ≤ q.step →
    s.testRecord q 5 = some r → Gives (.proofEnd) s fun t =>
      t.vdt.proof = none ∧ t.flag F.SYS_STATE_PROOF = false ∧ t.flag F.CHG_STATUS_SUSP_PROOF = false ∧
      t.chg.recalcDue = some (s.now + secTicks 1) ∧ t.flag F.VDT_EVENT_PROOF_END ∧
      (t.regN R.VDT_PROOF % 8 = (if q.collapse then 2 else if (capC25 s.chem r).isSome then 1 else 3)) ∧
      (t.vdt.lastFail = (if q.collapse then true else if (capC25 s.chem r).isSome then false else s.vdt.lastFail)))

/-- Own frames: which goes next, sent, refused, beaten; bit stuffing. The frame that is sent is a pending one that
may start, with the lowest identifier, and of those the one posted first. Sent, it leaves its place, TET_TEC falls
by one and it is counted; refused or spoilt, it stays with one more attempt, TET_TEC rises by eight, the error is
counted, the unit is restrained from 128 on, and after 16 attempts the frame is dropped unless it is an ALARM;
beaten by its own identifier at a fixed address, it shows a conflict; a lost arbitration is no attempt. Removing
the stuff bits of stuffed bits gives them back and finds no error. (R228, R231, R232, R235, R236, R237, R239, R240,
R251, R256) -/
def Obligations.FramesSent : Prop :=
  (∀ (s : State) (f p : Frame), s.sending f = some p → ∃ y ∈ s.pendingFrames, y.frame = p ∧ s.mayStart p ∧ ∀ x ∈
    s.pendingFrames, s.mayStart x.frame → frameIdent p < frameIdent x.frame ∨ (frameIdent p = frameIdent x.frame ∧
    y.posted ≤ x.posted)) ∧
  (∀ l : List Bool, unstuff (stuff l) = (l, true)) ∧
  (∀ (s : State) (f p : Frame), s.sending f = some p → Gives (.tetFrameSent f) s fun t =>
      t.regN R.TET_TXCNT = min (s.regN R.TET_TXCNT + 1) 0xFFFF ∧ t.regN R.TET_TEC = min (s.regN R.TET_TEC - 1) 255 ∧
      t.flag F.TET_EVENT_TX_DONE ∧ t.pendingFrames.length + 1 = s.pendingFrames.length ∧
      (p.cls = 0 → t.alm.sent = s.alm.sent + 1 ∧ t.link.starts = s.link.starts) ∧
      (2 ≤ p.cls → t.link.starts = s.recentStarts ++ [s.now]) ∧ (isClaim p → t.link.claimSent = some s.now)) ∧
  (∀ (s : State) (f p : Frame) (x : TxFail), s.sending f = some p → Gives (.tetFrameRefused f x) s fun t =>
      t.regN R.TET_TEC = min (s.regN R.TET_TEC + 8) 255 ∧
      (t.regN (if x = .refused then R.TET_ERRCNT4 else R.TET_ERRCNT3) = min (s.regN (if x = .refused then R.TET_ERRCNT4
        else R.TET_ERRCNT3) + 1) 0xFFFF) ∧
      t.flag F.TET_EVENT_ERR ∧
      (s.regN R.TET_TEC < 120 → s.flag F.TET_STATUS_RESTRAINED = false → t.flag F.TET_STATUS_RESTRAINED = false) ∧
      (120 ≤ s.regN R.TET_TEC → t.flag F.TET_STATUS_RESTRAINED) ∧
      (p.cls ≠ 0 → 15 ≤ s.triesOf p → t.flag F.TET_EVENT_TX_DROP) ∧
      (x ≠ .beaten → p.cls = 0 ∨ s.triesOf p < 15 → t.pendingFrames.length = s.pendingFrames.length ∧ t.triesOf p =
        s.triesOf p + 1) ∧
      (x ≠ .beaten → p.cls ≠ 0 → isClaim p = false → 15 ≤ s.triesOf p → t.pendingFrames.length + 1 =
        s.pendingFrames.length) ∧
      (x = .beaten → s.autoAddr = false → s.ownAddr = some p.addr → t.flag F.TET_STATUS_CONFLICT) ∧
      (x = .beaten → s.autoAddr → t.ownAddr = s.ownAddr ∧ t.link.cand = s.link.cand)) ∧
  (∀ (s : State) (f p : Frame), s.sending f = some p → Gives (.tetArbLost f) s fun t =>
      (t = (if 2 ≤ p.cls then { s with link := { s.link with starts := s.recentStarts ++ [s.now] } } else s)))

/-- Errors, condition and guardian of the link. Bits with a stuff, CRC or form error are counted under it and raise
TET_REC by one, receive-passive from 96 on; bits without one change nothing; the condition follows VTET at 12 V and
18 V; 60 s after the last accepted frame the threshold returns to 120 mV and nothing else does; a guardian trip
silences for 1 s, for 60 s when a trip lies within the last 60 s, and until released from the third in an hour on;
the end of a silence tells of it in a FAULT frame. (R224, R225, R228, R229, R234, R237, R238, R239, R240, R241,
R244) -/
def Obligations.LinkHealth : Prop :=
  (∀ (s : State) (bits : List Bool) (carrier : Bool) (x : RxError), s.receives → rxError bits carrier = some x →
    Gives (.tetRxError bits carrier) s fun t =>
      t.regN (rxErrReg x) = min (s.regN (rxErrReg x) + 1) 0xFFFF ∧ t.regN R.TET_REC = min (s.regN R.TET_REC + 1) 255 ∧
      t.flag F.TET_EVENT_ERR ∧ (95 ≤ s.regN R.TET_REC → t.flag F.TET_STATUS_RXPASSIVE) ∧
      (s.regN R.TET_REC < 95 → s.flag F.TET_STATUS_RXPASSIVE = false → t.flag F.TET_STATUS_RXPASSIVE = false)) ∧
  (∀ (s : State) (bits : List Bool) (carrier : Bool), s.receives → rxError bits carrier = none →
    Gives (.tetRxError bits carrier) s fun t =>
      t = s) ∧
  (∀ (s : State) (vtet : Nat), s.live → linkCond vtet ≠ s.linkCondNow → Gives (.linkConditionChange vtet) s fun t =>
      t.linkCondNow = linkCond vtet ∧ t.reg R.SRC_VTET_V = word16 (volt20 vtet) ∧ t.flag F.TET_EVENT_LINK_CHG ∧
      (s.linkCondNow = 0 → t.reg R.TET_RXTHR = 120) ∧
      ((∀ d ∈ s.link.chgRecAt, d + secTicks 10 ≤ s.now) → s.roomFor K.LINK_CHG → t.holds K.LINK_CHG ([byte
        s.linkCondNow, byte (linkCond vtet)] ++ beBytes 2 (volt20 vtet)))) ∧
  (∀ (s : State), s.live → s.link.acceptAt + secTicks 60 ≤ s.now → Gives (.tetThresholdReset) s fun t =>
      t.reg R.TET_RXTHR = 120 ∧ t.link = { s.link with acceptAt := s.now } ∧ t.lgr = s.lgr ∧
      s.regsKept t [R.TET_RXTHR]) ∧
  (∀ (s : State) (cause : Nat), s.live → s.framesMode → Gives (.guardTrip cause) s fun t =>
      t.flag F.TET_STATUS_SILENCED ∧
      (t.link.trips = (s.link.trips.filter fun d => decide (s.now < d + secTicks 3600)) ++ [s.now]) ∧
      (t.flag F.TET_STATUS_GUARDHOLD = (s.flag F.TET_STATUS_GUARDHOLD || decide (3 ≤ t.link.trips.length))) ∧
      (t.link.silenceDue = (if t.flag F.TET_STATUS_GUARDHOLD then none else some (s.now + secTicks (if ∃ d ∈
        s.link.trips, s.now < d + secTicks 60 then 60 else 1)))) ∧
      t.regN R.TET_GUARDCNT = min (s.regN R.TET_GUARDCNT + 1) 0xFFFF ∧ t.flag F.TET_EVENT_GUARD) ∧
  (∀ (s : State), s.live → s.elapsed s.link.silenceDue → Gives (.guardSilenceEnd) s fun t =>
      t.flag F.TET_STATUS_SILENCED = false ∧ t.link.silenceDue = none ∧
      (s.framesMode → ∀ a ∈ s.ownAddr, (⟨⟨6, a, 3, [0x21, byte s.tripsInHour]⟩, 0, s.now⟩ : TxFrame) ∈
        t.link.statusSlot) ∧
      t.lgr = s.lgr ∧ s.regsKept t [R.TET_STATUS])

/-- Frames received, heartbeats, peers and the census. Every accepted frame of these commands is counted, lowers
TET_REC, renews the figures of the carrier, and waits in the RX queue until the firmware reads it: with 32 waiting
it overflows, and one whose length does not fit its identifier is discarded. The heartbeat of a period is posted
once, with the four bytes of R243; a peer's heartbeat renews its track and its bit, and a missing peer is back; 95
s without one mark it missing, with its offer, its bid and the draws on it gone; a census request is answered at
the address × 20 ms, one in 10 s; a FAULT frame of code 0x30 ends the sender's part in the market; a LINK_TEST read
is answered by a LINK_ECHO. (R225, R233, R235, R237, R242, R243, R244, R245, R246, R247, R277, R280) -/
def Obligations.HeartbeatsAndPeers : Prop :=
  (∀ (s : State) (c : Instr) (f : Frame) (x : Carrier) (uid : BitVec 64), s.receives → f.addr < 64 →
    ((c = .heartbeatRx f.addr f.data x ∧ f = ⟨6, f.addr, 1, f.data⟩) ∨ (c = .censusRequestRx f.addr x ∧ f = ⟨6, f.addr, 2,
      []⟩) ∨ (c = .claimRx f.addr uid x ∧ f = ⟨6, f.addr, 2, beBytes 8 uid.toNat⟩) ∨ (c = .faultFrameRx f.addr f.data x ∧
      f = ⟨6, f.addr, 3, f.data⟩) ∨ (c = .linkTestRx f.addr f.data x ∧ f = ⟨7, f.addr, 0, f.data⟩) ∨ (c = .linkEchoRx
      f.addr f.data x ∧ f = ⟨7, f.addr, 1, f.data⟩) ∨ (c = .marketFrameRx f x ∧ 2 ≤ f.cls ∧ f.cls ≤ 5)) →
    Gives (c) s fun t =>
      t.regN R.TET_RXCNT = min (s.regN R.TET_RXCNT + 1) 0xFFFF ∧ t.regN R.TET_REC = min (s.regN R.TET_REC - 1) 255 ∧
      t.flag F.TET_EVENT_RX ∧ t.link.acceptAt = s.now ∧ t.link.carriers = (x :: s.link.carriers).take 16 ∧
      (frameFits f → s.link.rxq.length < 32 → s.reads = false → t.link.rxq = s.link.rxq ++ [f]) ∧
      (frameFits f → s.link.rxq.length < 32 → s.reads → t.reads → t.link.rxq = []) ∧
      (frameFits f → 32 ≤ s.link.rxq.length → t.link.rxq = s.link.rxq ∧ t.regN R.TET_ERRCNT5 = min (s.regN R.TET_ERRCNT5
        + 1) 0xFFFF ∧ t.flag F.TET_EVENT_RXOVF) ∧
      (frameFits f = false → t.link.rxq = s.link.rxq ∧ (frameKnown f → t.regN R.TET_ERRCNT2 = min (s.regN R.TET_ERRCNT2
        + 1) 0xFFFF))) ∧
  (∀ (s : State) (a : Nat), s.live → s.hbDue → s.ownAddr = some a → Gives (.heartbeatDue) s fun t =>
      (s.framesMode → (⟨⟨6, a, 1, s.heartbeatData⟩, 0, s.now⟩ : TxFrame) ∈ t.link.statusSlot) ∧
      t.link.hbPeriod = some (s.hbNow a).1 ∧ t.hbDue = false ∧ t.lgr = s.lgr ∧ t.regs = s.regs) ∧
  (∀ (s : State) (addr : Nat) (data : List Byte) (x : Carrier), s.receives → addr < 64 → data.length = 4 →
    Gives (.heartbeatRx addr data x) s fun t =>
      (s.ownAddr ≠ some addr ∨ s.autoAddr → t.mapBit R.TET_PEERS0 addr ∧ t.peerTrack addr = some ⟨addr, s.now,
        s.stampSec, none⟩ ∧ ((s.peerTrack addr).bind PeerTrack.missing ≠ none → t.flag F.TET_EVENT_PEER_BACK)) ∧
      (s.ownAddr = some addr → s.autoAddr = false → t.link.peers = s.link.peers ∧ t.flag F.TET_STATUS_CONFLICT)) ∧
  (∀ (s : State) (addr : Nat) (p : PeerTrack), s.live → s.peerTrack addr = some p → p.missing = none →
    p.last + secTicks 95 ≤ s.now → Gives (.peerMissing addr) s fun t =>
      t.mapBit R.TET_PEERS0 p.addr = false ∧ t.flag F.TET_EVENT_PEER_MISS ∧
      t.peerTrack p.addr = some { p with missing := some s.now } ∧ (t.peerMarket p.addr).offerAt = none ∧
      (t.peerMarket p.addr).bidAt = none ∧ t.bidOn p.addr = none ∧ t.drawsOn p.addr = [] ∧
      (s.roomFor K.PEER_LOSS → t.holds K.PEER_LOSS ([byte p.addr] ++ beBytes 4 p.lastSec))) ∧
  (∀ (s : State) (addr : Nat) (x : Carrier), s.receives → addr < 64 → Gives (.censusRequestRx addr x) s fun t =>
      ((∀ d ∈ s.link.censusAnsAt, d + secTicks 10 ≤ s.now) → ∀ a ∈ s.ownAddr, (addr ≠ a ∧ s.link.cand ≠ some addr) ∨
        s.autoAddr = false → t.link.censusAnsAt = some s.now ∧ t.link.censusDue = some (s.now + msTicks (20 * a))) ∧
      (s.ownAddr = none ∨ (∃ d ∈ s.link.censusAnsAt, s.now < d + secTicks 10) → t.link.censusAnsAt = s.link.censusAnsAt
        ∧ t.link.censusDue = s.link.censusDue)) ∧
  (∀ (s : State), s.live → s.elapsed s.link.censusDue → Gives (.censusAnswerDue) s fun t =>
      t.link.censusDue = none ∧
      (s.framesMode → ∀ a ∈ s.ownAddr, (⟨⟨6, a, 1, s.heartbeatData⟩, 0, s.now⟩ : TxFrame) ∈ t.link.statusSlot) ∧
      t.lgr = s.lgr ∧ t.regs = s.regs) ∧
  (∀ (s : State) (addr : Nat) (data : List Byte) (x : Carrier), s.receives → addr < 64 → data.length = 2 →
    natAt data 0 1 = 0x30 → Gives (.faultFrameRx addr data x) s fun t =>
      (s.reads = false ∨ t.reads → t.drawsOn addr = []) ∧
      (s.link.rxq.length < 32 → s.reads → t.reads → (t.peerMarket addr).offerAt = none ∧ (t.peerMarket addr).bidAt =
        none ∧ t.bidOn addr = none)) ∧
  (∀ (s : State) (addr : Nat) (data : List Byte) (x : Carrier) (a : Nat), s.receives → addr < 64 → data.length ≤ 8 →
    s.ownAddr = some a → ((addr ≠ a ∧ s.link.cand ≠ some addr) ∨ s.autoAddr = false) → s.link.rxq.length < 32 → s.reads →
    s.link.txOn → Gives (.linkTestRx addr data x) s fun t =>
      (t.reads → t.txRoom → (⟨⟨7, a, 1, data⟩, 0, s.now⟩ : TxFrame) ∈ t.link.txq) ∧
      (t.reads → 16 ≤ s.link.txq.length → t.flag F.TET_EVENT_TX_FULL) ∧
      (s.link.rxq = [] → s.txRoom → t.link.txq = s.link.txq ++ [⟨⟨7, a, 1, data⟩, 0, s.now⟩])) ∧
  (∀ (s : State) (addr : Nat) (data : List Byte) (x : Carrier), s.receives → addr < 64 → data.length ≤ 8 →
    s.link.rxq = [] → s.ownAddr ≠ some addr → s.link.cand ≠ some addr → Gives (.linkEchoRx addr data x) s fun t =>
      t.link.txq = s.link.txq ∧ t.mkt.bids = s.mkt.bids)

/-- Claiming an address. After listening the lowest address not heard from WB_UID modulo 64 on becomes the candidate
and is claimed, or with none free the unit is to listen again in ten minutes; 2.000 s after its CLAIM it is held; a
smaller WB_UID on the own address makes a unit under auto-assignment yield and mark the address as taken, a larger
one makes it claim again at most once a second, and a unit at a fixed address answers by a heartbeat; when the ten
minutes are over it listens for 35 s. (R248, R249, R250, R251, R252) -/
def Obligations.AddressAssignment : Prop :=
  (∀ (s : State), s.live → s.elapsed s.link.listenDue → Gives (.addrListenEnd) s fun t =>
      t.flag F.TET_STATUS_LISTENWIN = false ∧ t.link.listenDue = none ∧ t.link.cand = s.freeAddr ∧
      (s.freeAddr = none → t.link.relistenDue = some (s.now + secTicks 600) ∧ (s.roomFor K.ADDR_FULL → t.holds
        K.ADDR_FULL [])) ∧
      (s.framesMode → ∀ a ∈ s.freeAddr, (⟨⟨6, a, 2, beBytes 8 Config.wbUid.toNat⟩, 0, s.now⟩ : TxFrame) ∈
        t.link.statusSlot)) ∧
  (∀ (s : State) (v : Verify) (a d : Nat), s.live → s.link.claimAt = some d → d + secTicks 2 ≤ s.now →
    s.link.cand = some a → a < 64 → Gives (.addrHold v) s fun t =>
      t.ownAddr = some a ∧ t.link.cand = none ∧ t.link.claimAt = none ∧ t.link.prevAddr = some a ∧
      t.flag F.TET_EVENT_ADDR_CHG ∧ t.flag F.TET_STATUS_HELD) ∧
  (∀ (s : State) (addr : Nat) (uid : BitVec 64) (x : Carrier), s.receives → addr < 64 →
    Gives (.claimRx addr uid x) s fun t =>
      (s.autoAddr → s.ownAddr = some addr ∨ s.link.cand = some addr → uid.toNat < Config.wbUid.toNat → addr ∈
        t.link.heard ∧ t.ownAddr ≠ some addr ∧ t.link.cand ≠ some addr) ∧
      (s.autoAddr = false ∨ (s.ownAddr ≠ some addr ∧ s.link.cand ≠ some addr) ∨ Config.wbUid.toNat ≤ uid.toNat →
        t.ownAddr = s.ownAddr ∧ t.link.cand = s.link.cand) ∧
      (s.autoAddr → s.ownAddr = some addr ∨ s.link.cand = some addr → Config.wbUid.toNat < uid.toNat → (∀ d ∈
        s.link.claimSent, d + secTicks 1 ≤ s.now) → (⟨⟨6, addr, 2, beBytes 8 Config.wbUid.toNat⟩, 0, s.now⟩ : TxFrame) ∈
        t.link.statusSlot) ∧
      (s.autoAddr → Config.wbUid.toNat < uid.toNat → (∃ d ∈ s.link.claimSent, s.now < d + secTicks 1) →
        t.link.statusSlot = s.link.statusSlot) ∧
      (s.autoAddr = false → s.ownAddr = some addr → (⟨⟨6, addr, 1, s.heartbeatData⟩, 0, s.now⟩ : TxFrame) ∈
        t.link.statusSlot) ∧
      (s.ownAddr ≠ some addr → s.link.cand ≠ some addr → s.flag F.TET_STATUS_LISTENWIN → addr ∈ t.link.heard)) ∧
  (∀ (s : State), s.live → s.elapsed s.link.relistenDue → Gives (.addrRelisten) s fun t =>
      t.flag F.TET_STATUS_LISTENWIN ∧ t.link.relistenDue = none ∧ t.link.heard = [] ∧
      t.link.listenDue = some (s.now + secTicks 35) ∧ t.lgr = s.lgr ∧ s.regsKept t [R.TET_STATUS])

/-- Level alarms. In level mode, with the own level switch open, a raised level begins a remote alarm without an
address, recorded as 0xFF; its end is recorded with the seconds it lasted. The kind, TEST and data byte it shows
are free values and nothing is stated of them. (R47, R254, R255) -/
def Obligations.LevelAlarms : Prop :=
  (∀ (s : State), s.live → s.flag F.TET_STATUS_LEVEL → s.flag F.TET_STATUS_LVL_OUT = false → s.alm.level = none →
    Gives (.levelAlarmStart) s fun t =>
      t.alm.level = some s.now ∧ t.flag F.TET_STATUS_LVL_IN ∧ t.flag F.ALM_EVENT_REMOTE_START ∧
      t.flag F.SYS_STATE_ALARM) ∧
  (∀ (s : State) (d : Nat), s.live → s.alm.level = some d → Gives (.levelAlarmEnd) s fun t =>
      t.alm.level = none ∧ t.flag F.TET_STATUS_LVL_IN = false ∧ t.flag F.ALM_EVENT_REMOTE_END ∧
      (s.roomFor K.REMOTE_END → t.holds K.REMOTE_END ([0xFF, 2] ++ beBytes 2 ((s.now - d) / 32768))))

/-- Market frames, lapses and the sink cut-off. Every accepted market frame is counted. The filter clears at once
every draw entry on its sender that is named by a WITHDRAW of that or a newer offer, by a WITHDRAW of its grant, or
by an OFFER of a newer generation, and a FIRM with a lower grant lowers the entry. Read by the firmware with
nothing waiting before it: an OFFER that is not stale is taken into its sender's entry; a BID on the standing own
offer waits for its FIRM, and one to another unit changes no bid; a FIRM on the own bid makes the draw entry firm
at its grant or, with 0, ends the bid; a WITHDRAW ends the offer, the bid or the grant; a stale frame is counted.
An offer or bid not refreshed for 75 s lapses with an event and its count; below the sink cut-off the Tether is
lost, and in SINK the cap falls to 50 mA; after the wait the cap rises by a ramp; CONV_TET_ISRC is lowered after
its hold; every dirty entry is written back every 10 s. (R233, R259, R260, R262, R264, R265, R267, R268, R271,
R273, R274, R283) -/
def Obligations.MarketFrames : Prop :=
  (∀ (s : State) (f : Frame) (x : Carrier), s.receives → 2 ≤ f.cls → f.cls ≤ 5 → f.addr < 64 →
    Gives (.marketFrameRx f x) s fun t =>
      t.regN R.TET_RXCNT = min (s.regN R.TET_RXCNT + 1) 0xFFFF ∧ t.flag F.TET_EVENT_RX ∧
      (frameFits f → s.link.rxq.length < 32 → s.reads = false → t.link.rxq = s.link.rxq ++ [f]) ∧
      (frameFits f → s.reads = false ∨ s.link.rxq = [] → ∀ i ∈ List.range 4, drawValid (s.draw i) → drawAddr (s.draw i)
        = f.addr → (f.cls = 2 ∧ f.sub = 0 ∧ (natAt f.data 0 1 = (s.drawG i).toNat % 256 ∨ newer (natAt f.data 0 1)
        ((s.drawG i).toNat % 256))) ∨ (f.cls = 2 ∧ f.sub = 2 ∧ some (natAt f.data 0 1) = s.ownAddr ∧ s.autoAddr = false
        ∧ natAt f.data 2 1 = (s.drawG i).toNat / 256) ∨ (f.cls = 5 ∧ newer (natAt f.data 0 1) ((s.drawG i).toNat % 256))
        → drawValid (t.draw i) = false ∧ t.flag F.MKT_EVENT_WD_RX ∧ t.flag F.MKT_EVENT_DRAW_CHG) ∧
      (frameFits f → s.reads = false → s.autoAddr = false → f.cls = 3 → some (natAt f.data 0 1) = s.ownAddr → ∀ i ∈
        List.range 4, drawValid (s.draw i) → drawTent (s.draw i) = false → drawAddr (s.draw i) = f.addr → (s.drawG
        i).toNat = natAt f.data 1 1 + 256 * natAt f.data 2 1 → drawCur (t.draw i) = min (drawCur (s.draw i))
        (drawCurrent (natAt f.data 3 2)))) ∧
  (∀ (s : State) (f : Frame) (x : Carrier), s.receives → s.reads → s.link.rxq = [] → s.ownAddr ≠ some f.addr →
    s.link.cand ≠ some f.addr → f.addr < 64 → f.cls = 5 → frameFits f → (s.stall f.addr).length = 64 →
    Gives (.marketFrameRx f x) s fun t =>
      (s.offerStale f.addr (natAt f.data 0 1) = false → t.flag F.MKT_EVENT_OFFER_RX ∧ t.stallN f.addr 13 1 = natAt
        f.data 0 1 ∧ t.offState f.addr = (if f.sub = 1 then stTent else stOpen) ∧ t.stallN f.addr 16 2 = natAt f.data 1
        2 ∧ t.stallN f.addr 18 2 = natAt f.data 3 2 ∧ (t.peerMarket f.addr).offerAt = some s.now) ∧
      (s.offerStale f.addr (natAt f.data 0 1) → t.flag F.MKT_EVENT_STALE ∧ t.regN R.MKT_STALECNT = min (s.regN
        R.MKT_STALECNT + 1) 0xFFFF ∧ t.offState f.addr = s.offState f.addr ∧ t.stallN f.addr 16 4 = s.stallN f.addr 16
        4)) ∧
  (∀ (s : State) (f : Frame) (x : Carrier), s.receives → s.reads → s.link.rxq = [] → s.ownAddr ≠ some f.addr →
    s.link.cand ≠ some f.addr → f.addr < 64 → f.cls = 4 → frameFits f → (s.stall f.addr).length = 64 →
    Gives (.marketFrameRx f x) s fun t =>
      (some (natAt f.data 0 1) ≠ s.ownAddr → t.mkt.waiting = s.mkt.waiting ∧ t.mkt.granted = s.mkt.granted ∧ t.mkt.peers
        = s.mkt.peers) ∧
      (some (natAt f.data 0 1) = s.ownAddr → s.bidStale f = false → f.addr ∈ t.mkt.waiting ∧ (t.peerMarket f.addr).bidAt
        = some s.now ∧ t.flag F.MKT_EVENT_BID_RX ∧ t.stallN f.addr 24 1 = natAt f.data 2 1 ∧ t.stallN f.addr 27 2 =
        natAt f.data 3 2) ∧
      (some (natAt f.data 0 1) = s.ownAddr → s.bidStale f → t.flag F.MKT_EVENT_STALE ∧ t.regN R.MKT_STALECNT = min
        (s.regN R.MKT_STALECNT + 1) 0xFFFF ∧ t.mkt.waiting = s.mkt.waiting)) ∧
  (∀ (s : State) (f : Frame) (x : Carrier) (b : OwnBid), s.receives → s.reads → s.link.rxq = [] →
    s.ownAddr ≠ some f.addr → s.link.cand ≠ some f.addr → f.addr < 64 → f.cls = 3 → frameFits f →
    (s.stall f.addr).length = 64 → some (natAt f.data 0 1) = s.ownAddr → s.bidOn f.addr = some b → s.offerStands f.addr →
    natAt f.data 1 1 = s.stallN f.addr 13 1 → natAt f.data 2 1 = s.stallN f.addr 35 1 →
    Gives (.marketFrameRx f x) s fun t =>
      t.flag F.MKT_EVENT_FIRM_RX ∧ (natAt f.data 3 2 = 0 → t.bidOn f.addr = none ∧ t.drawsOn f.addr = []) ∧
      (0 < natAt f.data 3 2 → (t.bidOn f.addr).map (fun y => (y.sentAt, y.gen, y.req)) = some (none, b.gen, b.req) ∧
        t.stallN f.addr 36 1 = bidGranted ∧ t.stallN f.addr 39 2 = natAt f.data 3 2) ∧
      (0 < natAt f.data 3 2 → s.drawsOn f.addr ≠ [] ∨ (∃ i ∈ List.range 4, drawValid (s.draw i) = false) → ∃ i ∈
        t.drawsOn f.addr, drawTent (t.draw i) = false) ∧
      (0 < natAt f.data 3 2 → s.stallN f.addr 36 1 ≠ bidGranted → s.drawsOn f.addr ≠ [] ∨ (∃ i ∈ List.range 4, drawValid
        (s.draw i) = false) → ∃ i ∈ t.drawsOn f.addr, drawTent (t.draw i) = false ∧ drawCur (t.draw i) = fit 8
        (drawCurrent (natAt f.data 3 2)) % 256 ∧ (t.drawG i).toNat = natAt f.data 1 1 + 256 * natAt f.data 2 1)) ∧
  (∀ (s : State) (f : Frame) (x : Carrier), s.receives → s.reads → s.link.rxq = [] → s.ownAddr ≠ some f.addr →
    s.link.cand ≠ some f.addr → f.addr < 64 → f.cls = 2 → frameFits f → (s.stall f.addr).length = 64 →
    Gives (.marketFrameRx f x) s fun t =>
      (f.sub = 0 → s.offOlder f.addr (natAt f.data 0 1) = false → (t.peerMarket f.addr).offerAt = none ∧ t.offState
        f.addr = stWithdrawn ∧ t.stallN f.addr 13 1 = natAt f.data 0 1 ∧ t.bidOn f.addr = none ∧ t.drawsOn f.addr = [])
        ∧
      (f.sub = 1 → some (natAt f.data 0 1) = s.ownAddr → s.inbidOlder f.addr (natAt f.data 1 1) = false → (t.peerMarket
        f.addr).bidAt = none ∧ t.stallN f.addr 24 1 = natAt f.data 1 1 ∧ t.stallN f.addr 25 1 = stWithdrawn) ∧
      (f.sub = 2 → some (natAt f.data 0 1) = s.ownAddr → s.firmCurrent f → t.bidOn f.addr = none ∧ t.drawsOn f.addr =
        []) ∧
      (f.sub = 0 → s.offOlder f.addr (natAt f.data 0 1) → t.flag F.MKT_EVENT_STALE ∧ t.regN R.MKT_STALECNT = min (s.regN
        R.MKT_STALECNT + 1) 0xFFFF) ∧
      (f.sub = 1 → some (natAt f.data 0 1) = s.ownAddr → s.inbidOlder f.addr (natAt f.data 1 1) → t.flag
        F.MKT_EVENT_STALE) ∧
      (f.sub = 2 → s.offOlder f.addr (natAt f.data 1 1) → t.flag F.MKT_EVENT_STALE)) ∧
  (∀ (s : State) (addr : Nat) (isBid : Bool) (d : Nat), s.live → s.boot.core →
    ((if isBid then (s.peerMarket addr).bidAt else (s.peerMarket addr).offerAt) = some d) → d + secTicks 75 ≤ s.now →
    Gives (.mktLapse addr isBid) s fun t =>
      t.flag F.MKT_EVENT_LAPSE ∧ t.regN R.MKT_LAPSECNT = min (s.regN R.MKT_LAPSECNT + 1) 0xFFFF ∧
      ((if isBid then (t.peerMarket addr).bidAt else (t.peerMarket addr).offerAt) = none) ∧
      (isBid = false → t.bidOn addr = none ∧ t.drawsOn addr = []) ∧ (isBid → t.mkt.bids = s.mkt.bids)) ∧
  (∀ (s : State) (vtet : Nat), s.live → vtet < s.cutoffAt → s.qualified .tether → Gives (.tetSinkCutoff vtet) s fun t =>
      t.qualified .tether = false ∧ t.flag F.SRC_EVENT_TRIP ∧ t.flag F.SRC_EVENT_TET_LOSS ∧
      t.regN R.SRC_TRIPCNT = min (s.regN R.SRC_TRIPCNT + 1) 0xFFFF ∧
      (s.field F.CONV_STATUS_TET_MODE = 2 → t.flag F.MKT_STATUS_CUTOFF ∧ t.drawCap = 5 ∧ t.flag F.MKT_EVENT_CUTOFF ∧
        t.regN R.MKT_CUTCNT = min (s.regN R.MKT_CUTCNT + 1) 0xFFFF) ∧
      (s.field F.CONV_STATUS_TET_MODE ≠ 2 → t.mkt.cutDue = s.mkt.cutDue ∧ t.regN R.MKT_CUTCNT = s.regN R.MKT_CUTCNT)) ∧
  (∀ (s : State), s.live → s.elapsed s.mkt.cutDue → Gives (.cutoffReturn) s fun t =>
      t.mkt.cutDue = none ∧ t.mkt.rampFrom = some s.now ∧ t.flag F.MKT_STATUS_CUTOFF = false ∧
      t.flag F.MKT_STATUS_RAMP ∧ t.drawCap = 5 ∧ t.lgr = s.lgr ∧ s.regsKept t [R.MKT_STATUS]) ∧
  (∀ (s : State), s.live → s.boot.core → s.elapsed s.mkt.isrcDue → Gives (.isrcHoldEnd) s fun t =>
      t.mkt.isrcDue = none ∧ t.regN R.CONV_TET_ISRC = s.isrcNeeded ∧ s.regsKept t [R.CONV_TET_ISRC] ∧ t.lgr = s.lgr) ∧
  (∀ (s : State) (v : Verify), s.live → s.mkt.backAt + secTicks 10 ≤ s.now → Gives (.stallWriteback v) s fun t =>
      t.mkt.backAt = s.now ∧ (v = .ok → t.regs = s.regs) ∧
      ((s.mkt.cache.filter StallCell.dirty) ≠ [] → v = .failed .a 0 → s.bankBad .a = false → t.bankBad .a ∧ t.flag
        F.LGR_EVENT_BANK_FAULT) ∧
      ((s.mkt.cache.filter StallCell.dirty) = [] → t = { s with mkt := { s.mkt with backAt := s.now } }) ∧
      t.mkt.cache.map StallCell.addr = s.mkt.cache.map StallCell.addr ∧ (t.mkt.cache.filter StallCell.dirty) = [])

/-- The unit's own offers and grants. An offer withdraws the own bids and posts an OFFER with its power, what of it
is not granted, and its flags; a new one first advances its generation in the own entry; a unit whose only source
is the Tether sends none and raises REFUSED. The bid next in turn is answered by a FIRM with the grant, at most
what was asked and is free, on a tentative offer only where the measured surplus covers it; an answered bid is
answered as before; with no bid to answer the newest grant can be lowered. A withdrawal posts a WITHDRAW and ends
the offer, the bid or the grant; a tentative offer is withdrawn at its limit. Without room in the TX queue TX_FULL
is set and nothing else happens. That an offer includes cell energy where it exceeds P_SRC is the model's reading
(log entry 117). (R232, R258, R259, R260, R261, R263, R266, R267, R270, R273, R279) -/
def Obligations.OffersAndGrants : Prop :=
  (∀ (s : State) (tent : Bool) (pOff left : Nat) (e : StallCell), s.live → s.marketActive → s.flag F.MKT_CFG_OFFER_EN →
    s.field F.CONV_STATUS_TET_MODE = 3 → pOff ≤ min (s.pSrc left + s.pCell) 4800 → s.tetOnly = false →
    s.txFits (s.mkt.bids.length + 1) → s.link.txOn → s.stallCached s.selfAddr = some e → e.bytes.length = 64 →
    Gives (.offerPost tent pOff left) s fun t =>
      t.mkt.bids = [] ∧ (s.offerIsNew tent pOff → t.offGen = (s.offGen + 1) % 256) ∧
      (s.offerIsNew tent pOff = false → t.offGen = s.offGen) ∧ t.regN R.MKT_OFFER_P = pOff ∧
      t.regN R.MKT_OFFER_FREE = pOff - t.grantedSum ∧ (s.mkt.granted = [] → t.regN R.MKT_OFFER_FREE = pOff) ∧
      (t.offState t.selfAddr = (if tent then stTent else stOpen)) ∧
      (t.link.txq.getLast? = some ⟨⟨5, s.selfAddr, if tent then 1 else 0, [byte t.offGen] ++ beBytes 2 pOff ++ beBytes 2
        (pOff - t.grantedSum) ++ [flagsByte [decide (s.pSrc left < pOff), s.flag F.SYS_STATE_ALARM]]⟩, 0, s.now⟩) ∧
      (t.mkt.tentDue = (if tent then (if s.offerIsNew tent pOff then some (s.now + secTicks (60 * s.regN R.MKT_TENTMAX))
        else s.mkt.tentDue) else none)) ∧
      t.mkt.offerAt = some s.now) ∧
  (∀ (s : State) (tent : Bool) (pOff left : Nat), s.live → s.marketActive → s.flag F.MKT_CFG_OFFER_EN → s.tetOnly →
    s.txFits (s.mkt.bids.length + 1) → Gives (.offerPost tent pOff left) s fun t =>
      t.flag F.MKT_EVENT_REFUSED ∧ t.mkt.bids = [] ∧ t.mkt.offerAt = s.mkt.offerAt ∧
      t.regN R.MKT_OFFER_P = s.regN R.MKT_OFFER_P) ∧
  (∀ (s : State) (tent : Bool) (pOff left : Nat), s.live → s.marketActive → s.flag F.MKT_CFG_OFFER_EN →
    (s.tetOnly ∨ (s.field F.CONV_STATUS_TET_MODE = 3 ∧ pOff ≤ min (s.pSrc left + s.pCell) 4800)) →
    s.txFits (s.mkt.bids.length + 1) = false → Gives (.offerPost tent pOff left) s fun t =>
      t = s.event F.TET_EVENT_TX_FULL) ∧
  (∀ (s : State) (grant left : Nat) (a : Nat), s.live → s.marketActive → s.offering → s.offerKept → s.nextBid = some a →
    s.stallN a 25 1 = bidOpen → s.txFits (s.mkt.granted.length + 2) → s.link.txOn →
    (s.offState s.selfAddr = stOpen ∨ grant = 0 ∨ s.grantedSum + grant ≤ s.pSrc left + s.pCell) →
    Gives (.firmSend grant left) s fun t =>
      t.mkt.waiting = s.mkt.waiting.filter (· != a) ∧
      (bidRank (s.stallN a 26 1) ≠ 1 ∨ min grant (s.stallN a 27 2) ≤ s.ownFree → (⟨⟨3, s.selfAddr, 0, [byte a, byte
        s.offGen, byte (s.stallN a 24 1)] ++ beBytes 2 (min (min grant (s.stallN a 27 2)) s.ownFree)⟩, 0, s.now⟩ :
        TxFrame) ∈ t.link.txq) ∧
      (0 < grant → 0 < s.stallN a 27 2 → 0 < s.ownFree → a ∈ t.mkt.granted) ∧ (grant = 0 → a ∉ t.mkt.granted)) ∧
  (∀ (s : State) (grant left : Nat) (a : Nat), s.live → s.marketActive → s.offering → s.offerKept → s.nextBid = some a →
    s.stallN a 25 1 ≠ bidOpen → s.txFits (s.mkt.granted.length + 2) → s.link.txOn →
    Gives (.firmSend grant left) s fun t =>
      t.link.txq = s.link.txq ++ [⟨⟨3, s.selfAddr, 0, [byte a, byte s.offGen, byte (s.stallN a 24 1)] ++ beBytes 2
        (s.stallN a 29 2)⟩, 0, s.now⟩] ∧
      t.mkt.waiting = s.mkt.waiting.filter (· != a) ∧ t.mkt.granted = s.mkt.granted ∧ t.lgr = s.lgr) ∧
  (∀ (s : State) (grant left : Nat) (a : Nat), s.live → s.marketActive → s.offering → s.offerKept → s.nextBid = some a →
    s.stallN a 25 1 = bidOpen → s.offState s.selfAddr = stTent → 0 < grant →
    s.pSrc left + s.pCell < s.grantedSum + grant → Gives (.firmSend grant left) s fun t =>
      t = s) ∧
  (∀ (s : State) (grant left : Nat) (a : Nat), s.live → s.marketActive → s.offering → s.offerKept → s.nextBid = none →
    s.mkt.granted.getLast? = some a → grant < s.stallN a 29 2 → s.txFits 1 → s.link.txOn →
    Gives (.firmSend grant left) s fun t =>
      t.link.txq = s.link.txq ++ [⟨⟨3, s.selfAddr, 0, [byte a, byte s.offGen, byte (s.stallN a 24 1)] ++ beBytes 2
        grant⟩, 0, s.now⟩] ∧
      (s.stallN a 25 1 ≠ bidOpen → 0 < grant → a ∈ t.mkt.granted) ∧ (grant = 0 → a ∉ t.mkt.granted)) ∧
  (∀ (s : State) (kind addr : Nat), s.mayWithdraw → s.txFits 1 → s.link.txOn →
    Gives (.withdrawSend kind addr) s fun t =>
      (kind = 0 → s.offering → t.link.txq = s.link.txq ++ [⟨⟨2, s.selfAddr, 0, [byte s.offGen]⟩, 0, s.now⟩] ∧ t.regN
        R.MKT_OFFER_P = 0 ∧ t.regN R.MKT_OFFER_FREE = 0 ∧ t.mkt.offerAt = none ∧ t.mkt.granted = [] ∧ t.mkt.waiting =
        []) ∧
      (kind = 1 → ∀ x ∈ s.bidOn addr, t.link.txq = s.link.txq ++ [⟨⟨2, s.selfAddr, 1, [byte addr, byte x.gen]⟩, 0,
        s.now⟩] ∧ t.bidOn addr = none ∧ t.drawsOn addr = []) ∧
      (2 ≤ kind → addr ∈ s.mkt.granted → t.link.txq = s.link.txq ++ [⟨⟨2, s.selfAddr, 2, [byte addr, byte s.offGen, byte
        (s.stallN addr 24 1)]⟩, 0, s.now⟩]) ∧
      (2 ≤ kind → addr ∈ s.mkt.granted → s.stallN addr 25 1 = bidGranted → addr ∉ t.mkt.granted) ∧
      ((kind = 0 ∧ s.offering = false) ∨ (kind = 1 ∧ s.bidOn addr = none) ∨ (2 ≤ kind ∧ addr ∉ s.mkt.granted) → t = s))
        ∧
  (∀ (s : State) (kind addr : Nat), s.mayWithdraw → s.txFits 1 = false → Gives (.withdrawSend kind addr) s fun t =>
      t = s.event F.TET_EVENT_TX_FULL) ∧
  (∀ (s : State), s.mayWithdraw → s.elapsed s.mkt.tentDue → s.offering → s.txFits 1 → Gives (.tentmaxExpiry) s fun t =>
      (s.link.txOn → t.link.txq = s.link.txq ++ [⟨⟨2, s.selfAddr, 0, [byte s.offGen]⟩, 0, s.now⟩]) ∧
      t.regN R.MKT_OFFER_P = 0 ∧ t.mkt.tentDue = none ∧ t.mkt.offerAt = none)

/-- The unit's own bids, refreshes and repeats. A bid withdraws the own offer and posts a BID; a new one first
advances the bid generation in the own entry, a repeated one keeps it. The offer and each bid are posted again when
a minute old, and nothing else is. A bid without a FIRM for 5 s is repeated, and after three repeats dropped with
its draws. (R258, R259, R261, R264, R267, R268) -/
def Obligations.BidsAndRefresh : Prop :=
  (∀ (s : State) (addr req : Nat) (e : StallCell), s.live → s.marketActive → s.flag F.MKT_CFG_BID_EN →
    s.ownAddr ≠ some addr → s.offerStands addr → s.otherBids addr + req ≤ s.regN R.SRC_TET_ILIM * 24 →
    ((s.bidOn addr).isSome ∨ s.mkt.bids.length < 4) → (s.txFits (if s.offering then 2 else 1)) → s.link.txOn →
    s.stallCached s.selfAddr = some e → e.bytes.length = 64 → Gives (.bidPost addr req) s fun t =>
      t.offering = false ∧ (s.bidIsNew addr req → t.bidGen = (s.bidGen + 1) % 256) ∧
      (s.bidIsNew addr req = false → t.bidGen = s.bidGen) ∧
      ((t.bidOn addr).map (fun x => (x.addr, x.req, x.postedAt, x.sentAt)) = some (addr, req, s.now, none)) ∧
      (s.bidIsNew addr req → (t.bidOn addr).map (fun x => (x.gen, x.offGen, x.repeats)) = some ((s.bidGen + 1) % 256,
        s.stallN addr 13 1, 0)) ∧
      (t.link.txq.getLast?.map (fun x => (x.frame.cls, x.frame.addr, x.frame.sub, x.frame.data.take 2, x.posted)) = some
        (4, s.selfAddr, 0, [byte addr, byte (s.stallN addr 13 1)], s.now)) ∧
      (t.link.txq.getLast?.map (fun x => (x.frame.data.drop 3).take 2) = some (beBytes 2 req))) ∧
  (∀ (s : State) (addr req : Nat), s.live → s.marketActive → s.flag F.MKT_CFG_BID_EN → s.ownAddr ≠ some addr →
    s.offerStands addr → s.otherBids addr + req ≤ s.regN R.SRC_TET_ILIM * 24 →
    ((s.bidOn addr).isSome ∨ s.mkt.bids.length < 4) → (s.txFits (if s.offering then 2 else 1) = false) →
    Gives (.bidPost addr req) s fun t =>
      t = s.event F.TET_EVENT_TX_FULL) ∧
  (∀ (s : State), s.live → s.marketActive → s.txFits (s.mkt.bids.length + 1) → s.link.txOn →
    Gives (.mktRefreshDue) s fun t =>
      (∀ d ∈ s.mkt.offerAt, s.offering → s.offerKept → d + secTicks 60 ≤ s.now → t.mkt.offerAt = some s.now ∧ (5,
        s.selfAddr) ∈ t.link.txq.map (fun x => (x.frame.cls, x.frame.addr))) ∧
      (s.bidsKept → ∀ x ∈ s.mkt.bids, x.postedAt + secTicks 60 ≤ s.now → (⟨⟨4, s.selfAddr, 0, [byte x.addr, byte
        x.offGen, byte x.gen] ++ beBytes 2 x.req ++ [x.flags]⟩, 0, s.now⟩ : TxFrame) ∈ t.link.txq ∧ ((∀ y ∈ s.mkt.bids,
        y.addr = x.addr → y = x) → t.bidOn x.addr = some { x with postedAt := s.now, sentAt := none })) ∧
      ((∀ d ∈ s.mkt.offerAt, s.now < d + secTicks 60) → (∀ x ∈ s.mkt.bids, s.now < x.postedAt + secTicks 60) → t = s)) ∧
  (∀ (s : State), s.live → s.marketActive → s.mkt.bids = [] → s.offering → s.offerKept →
    (∀ d ∈ s.mkt.offerAt, d + secTicks 60 ≤ s.now) → s.mkt.offerAt ≠ none → s.txFits 1 = false →
    Gives (.mktRefreshDue) s fun t =>
      t = s.event F.TET_EVENT_TX_FULL) ∧
  (∀ (s : State), s.live → s.marketActive → s.bidsKept → s.txFits s.mkt.bids.length → s.link.txOn →
    Gives (.bidRetry) s fun t =>
      (∀ x ∈ s.mkt.bids, (∀ y ∈ s.mkt.bids, y.addr = x.addr → y = x) → s.elapsed (x.sentAt.map (· + secTicks 5)) →
        x.repeats < 3 → t.bidOn x.addr = some { x with repeats := x.repeats + 1, postedAt := s.now, sentAt := none } ∧
        (⟨⟨4, s.selfAddr, 0, [byte x.addr, byte x.offGen, byte x.gen] ++ beBytes 2 x.req ++ [x.flags]⟩, 0, s.now⟩ :
        TxFrame) ∈ t.link.txq) ∧
      (∀ x ∈ s.mkt.bids, (∀ y ∈ s.mkt.bids, y.addr = x.addr → y = x) → s.elapsed (x.sentAt.map (· + secTicks 5)) → 3 ≤
        x.repeats → t.bidOn x.addr = none ∧ t.drawsOn x.addr = []) ∧
      ((∀ x ∈ s.mkt.bids, s.elapsed (x.sentAt.map (· + secTicks 5)) = false) → t = s))

/-- The Ledger's intake and replay. The next record in the intake's order is accepted when the rules let it: its head
goes into the spool slot in each good bank, sealed with its CRC, it takes the next sequence and leaves its queue,
the Weighbridge's or another producer's; a verify that fails once is counted, one that fails again marks its bank
bad, and with the last bank gone nothing is accepted; an accepted post of the host is shown with its sequence; a
record that the rules hold back changes no bank. These hold while no command waits for its CMD_DONE. Replay ends
with READY and the RECOVERY record; after the early warning nothing is accepted, and of the record and the commit
under way only their first slot writes stand. (R288, R289, R293, R295, R296, R302, R308, R310, R312, R331) -/
def Obligations.LedgerIntake : Prop :=
  (∀ (s : State) (v : Verify) (r : Rec) (k : Bank) (j : Nat), s.live → s.nextRec = some r → s.mayAccept r →
    s.cmd.finishing = [] → (v = .ok ∨ v = .retried k j ∨ (v = .failed k j ∧ s.bankBad k)) →
    Gives (.ledgerRecordAccept v) s fun t =>
      t.lgr.nextSeq = s.lgr.nextSeq + 1 ∧
      (r ∈ s.lgr.waiting → s.lgr.fwWait = [] → t.lgr.waiting = dropRec r s.lgr.waiting) ∧
      (r ∉ s.lgr.waiting → t.wb.outq = s.wb.outq.drop 1) ∧
      t.lgr.spool = s.lgr.spool ++ [⟨s.lgr.nextSeq, s.lgr.place (slotsFor r.payload.length), slotsFor r.payload.length⟩]
        ∧
      t.lgr.lastProd = r.prod ∧
      (s.bankBad .a = false → t.slot .a (s.lgr.place (slotsFor r.payload.length)) = (recSlots s.lgr.nextSeq s.stamp.1
        s.stamp.2 r).headD []) ∧
      (s.bankBad .b = false → t.slot .b (s.lgr.place (slotsFor r.payload.length)) = (recSlots s.lgr.nextSeq s.stamp.1
        s.stamp.2 r).headD []) ∧
      (r.prod = 0x09 → 1 ≤ r.typ → r.typ ≤ 0x0F → t.reg R.LGR_HRES = 2 ∧ t.group R.LGR_HSEQ2 3 = s.lgr.nextSeq % 256 ^ 5
        ∧ t.flag F.LGR_STATUS_HPEND = false) ∧
      (v = .retried k j → s.bankBad k = false → t.regN (vfyCounter k) = min (s.regN (vfyCounter k) + 1) 0xFFFF)) ∧
  (∀ (s : State) (v : Verify) (r : Rec) (k : Bank) (j : Nat), s.live → s.nextRec = some r → s.mayAccept r →
    s.cmd.finishing = [] → v = .failed k j → s.bankBad k = false → Gives (.ledgerRecordAccept v) s fun t =>
      t.bankBad k ∧ t.flag F.LGR_EVENT_BANK_FAULT ∧ (t.ledgerDead = (s.bankBad .a || s.bankBad .b)) ∧
      (t.flag F.LGR_STATUS_SINGLE = !(s.bankBad .a || s.bankBad .b)) ∧
      (s.bankBad .a ∨ s.bankBad .b → t.flag F.LGR_STATUS_READY = false ∧ t.lgr.nextSeq = s.lgr.nextSeq) ∧
      (s.bankBad .a = false → s.bankBad .b = false → t.lgr.nextSeq = s.lgr.nextSeq + 1)) ∧
  (∀ (s : State) (v : Verify), s.live → s.cmd.finishing = [] → (∀ r ∈ s.nextRec, s.mayAccept r = false) →
    Gives (.ledgerRecordAccept v) s fun t =>
      t.lgr.nextSeq = s.lgr.nextSeq ∧ t.lgr.waiting = s.lgr.waiting ∧ t.lgr.spool = s.lgr.spool ∧ s.banksKept t) ∧
  (∀ (s : State) (r : Replay), s.live → s.lgr.replay = some r → Gives (.ledgerReplayComplete) s fun t =>
      t.lgr.replay = none ∧ (s.ledgerDead → t = { s with lgr := { s.lgr with replay := none } }) ∧
      (s.ledgerDead = false → t.flag F.LGR_STATUS_READY ∧ t.flag F.LGR_EVENT_RECOVERED ∧ t.lgr.nextSeq = s.lgr.nextSeq +
        1 ∧ t.lgr.spool = s.lgr.spool ++ [⟨s.lgr.nextSeq, s.lgr.place 1, 1⟩]) ∧
      (s.bankBad .a = false → ((t.slot .a (s.lgr.place 1)).drop 14).take 12 = recoveryPayload r) ∧
      (s.bankBad .b = false → ((t.slot .b (s.lgr.place 1)).drop 14).take 12 = recoveryPayload r)) ∧
  (∀ (s : State) (n m : Nat), s.live → Gives (.supplyEarlyWarning n m) s fun t =>
      t = { s with lgr := { s.lgr with warned := true, bankA := t.lgr.bankA, bankB := t.lgr.bankB } } ∧
      (s.lgr.warned → t = s) ∧ (n = 0 → m = 0 → s.banksKept t) ∧
      (m = 0 → s.lgr.warned = false → ∀ r ∈ s.nextRec, s.mayAccept r → s.bankBad .a = false → 0 < n → t.slot .a
        (s.lgr.place (slotsFor r.payload.length)) = (recSlots s.lgr.nextSeq s.stamp.1 s.stamp.2 r).headD []) ∧
      (m = 0 → ∀ r ∈ s.nextRec, n ≤ slotsFor r.payload.length → t.lgr.bankB = s.lgr.bankB))

/-- Commit, tallies and readout. The oldest spool record is committed under its own sequence, its pointer block in
the slot CSEQ modulo 64 of each good bank, while no command waits for its CMD_DONE and a bank is left; an
accumulator whose window has ended becomes a TALLY record where the spool has room for one, and stays open where it
has none; a read set up completes with FOUND, GONE or NOTYET and its bytes. (R299, R300, R301, R302, R304, R311) -/
def Obligations.LedgerCommitAndRead : Prop :=
  (∀ (s : State) (v : Verify) (e : SpoolEntry) (l : List SpoolEntry), s.live → s.lgr.warned = false →
    s.ledgerDead = false → s.lgr.spool = e :: l → s.cmd.finishing = [] → Gives (.ledgerCommit v) s fun t =>
      (t.ledgerDead = false → t.lgr.cseq = e.seq ∧ t.lgr.spool = l.filter fun x => x.seq != e.seq) ∧
      (t.bankBad .a = false → natAt (t.slot .a (e.seq % 64)) 0 5 = e.seq % 256 ^ 5) ∧
      (t.bankBad .b = false → natAt (t.slot .b (e.seq % 64)) 0 5 = e.seq % 256 ^ 5) ∧ (v = .ok → t.ledgerDead = false) ∧
      (t.ledgerDead → t.lgr.spool = s.lgr.spool) ∧ t.lgr.nextSeq = s.lgr.nextSeq ∧
      (v = .ok → s.lgr.fwWait = [] → t.lgr.waiting = s.lgr.waiting)) ∧
  (∀ (s : State), s.live → Gives (.tallyWindowExpiry) s fun t =>
      (s.lgr.fits 3 1 → s.ledgerDead = false → (∀ a ∈ s.lgr.accs, ∀ b ∈ s.lgr.accs, a.ct = b.ct → a = b) → (∀ a ∈
        t.lgr.accs, s.now < a.due) ∧ (∀ a ∈ s.lgr.accs, s.now < a.due → a ∈ t.lgr.accs)) ∧
      (s.lgr.fits 3 1 → s.ledgerDead = false → t.lgr.waiting = s.lgr.waiting ++ ((s.lgr.accs ++
        s.lgr.other.toList).filter fun a : Acc => decide (a.due ≤ s.now)).map fun a => ⟨3, 0, 1, beBytes 2 a.ct ++
        beBytes 4 a.count ++ beBytes 4 a.firstSec ++ beBytes 4 a.lastSec⟩) ∧
      (s.lgr.fits 3 1 = false ∨ s.ledgerDead → t.lgr = s.lgr) ∧ s.banksKept t) ∧
  (∀ (s : State) (x : Nat × Nat × Bool), s.live → s.flag F.LGR_STATUS_READY → s.lgr.rdSetup = some x →
    Gives (.lgrReadDone) s fun t =>
      t.lgr.rdSetup = none ∧ t.lgr.rdBuf = (s.readRec x.1 x.2.1).2 ∧ t.lgr.rdPos = 0 ∧
      (t.regN R.LGR_RDSTAT = (s.readRec x.1 x.2.1).1 + (if x.2.2 then 8 else 0)) ∧
      (s.lgr.nextSeq ≤ x.2.1 → t.regN R.LGR_RDSTAT % 8 = 4 ∧ t.lgr.rdBuf = []) ∧ t.flag F.LGR_STATUS_RDBUSY = false ∧
      t.flag F.LGR_EVENT_READ_DONE ∧ s.banksKept t)

/-- The Ledger's registers. FLUSH, where it acts now and the spool has room, turns every open accumulator into its
TALLY; a write of LGR_RDCTRL sets up a read of the sequence in LGR_RDSEQ, or with one under way is discarded and
noted; two bytes are read at a time; a host post waits as a HOST_RECORD with its tag, is shown as DUPLICATE where
its tag is that of the newest one, or is refused with 4. (R299, R311, R312, R319, R321) -/
def Obligations.LedgerWindows : Prop :=
  (∀ (s : State) (via : Via), s.live → s.reaches via 0 R.LGR_CTRL → s.actsNow via R.LGR_CTRL 1 →
    Gives (.flush via) s fun t =>
      (via = .firmware → s.ledgerDead = false → s.lgr.fits 3 1 → t.lgr.accs = [] ∧ t.lgr.other = none ∧ t.lgr.waiting =
        s.lgr.waiting ++ (s.lgr.accs ++ s.lgr.other.toList).map fun a => ⟨3, 0, 1, tallyPayload a⟩) ∧
      (via ≠ .firmware → s.ledgerDead = false → t.lgr.fits 3 1 → t.lgr.accs = [] ∧ t.lgr.other = none ∧ t.lgr.nextSeq =
        s.lgr.nextSeq + 1 ∧ t.lgr.waiting = ((s.lgr.accs ++ s.lgr.other.toList).map fun a => ⟨3, 0, 1, tallyPayload a⟩)
        ++ [⟨2, 0x09, 0x11, cmdDonePayload s.lgr.nextSeq 0 false R.LGR_CTRL⟩]) ∧
      (via = .firmware → s.lgr.fits 3 1 = false → t.lgr = s.lgr)) ∧
  (∀ (s : State) (via : Via), s.live → s.reaches via 0 R.LGR_RDCTRL → Gives (.lgrReadExact via) s fun t =>
      (s.lgr.rdSetup = none → t.lgr.rdSetup = some (0, s.group R.LGR_RDSEQ2 3, false) ∧ t.reg R.LGR_RDSTAT = 1 ∧ t.reg
        R.LGR_RDLEN = 0 ∧ t.flag F.LGR_STATUS_RDBUSY) ∧
      (∀ x ∈ s.lgr.rdSetup, t.lgr.rdSetup = some (x.1, x.2.1, true)) ∧ t.lgr.waiting = s.lgr.waiting ∧ s.banksKept t ∧
      s.onlyRegs t [R.LGR_RDSTAT, R.LGR_RDLEN, R.LGR_STATUS]) ∧
  (∀ (s : State) (via : Via), s.live → s.reaches via 0 R.LGR_RDCTRL → Gives (.lgrReadNext via) s fun t =>
      (s.lgr.rdSetup = none → t.lgr.rdSetup = some (1, s.group R.LGR_RDSEQ2 3, false) ∧ t.reg R.LGR_RDSTAT = 1 ∧ t.flag
        F.LGR_STATUS_RDBUSY) ∧
      (∀ x ∈ s.lgr.rdSetup, t.lgr.rdSetup = some (x.1, x.2.1, true)) ∧ s.banksKept t ∧
      s.onlyRegs t [R.LGR_RDSTAT, R.LGR_RDLEN, R.LGR_STATUS]) ∧
  (∀ (s : State) (via : Via), s.live → s.reaches via 0 R.LGR_RDCTRL → Gives (.lgrReadNextpin via) s fun t =>
      (s.lgr.rdSetup = none → t.lgr.rdSetup = some (2, s.group R.LGR_RDSEQ2 3, false) ∧ t.reg R.LGR_RDSTAT = 1 ∧ t.flag
        F.LGR_STATUS_RDBUSY) ∧
      (∀ x ∈ s.lgr.rdSetup, t.lgr.rdSetup = some (x.1, x.2.1, true)) ∧ s.banksKept t ∧
      s.onlyRegs t [R.LGR_RDSTAT, R.LGR_RDLEN, R.LGR_STATUS]) ∧
  (∀ (s : State) (via : Via) (n : Nat), s.live → s.reaches via 0 R.LGR_RDDATA → Gives (.lgrRddataRead via n) s fun t =>
      (t.ra.readData = (List.range (via.count n)).map fun i => wordAt s.lgr.rdBuf (s.lgr.rdPos + 2 * i)) ∧
      t.lgr = { s.lgr with rdPos := s.lgr.rdPos + 2 * via.count n } ∧ s.onlyRegs t []) ∧
  (∀ (s : State) (via : Via) (v : Word), s.live → s.reaches via 0 R.LGR_HPOST → fieldOf v 8 8 = 0 →
    s.flag F.LGR_STATUS_HPEND = false → 1 ≤ fieldOf v 0 4 → fieldOf v 4 4 ≤ 12 → Gives (.lgrHostPost via v) s fun t =>
      ((s.reg R.LGR_HTAG = 0 ∨ s.newestPost.map (·.2) ≠ some (s.regN R.LGR_HTAG)) → t.lgr.waiting = s.lgr.waiting ++
        [⟨2, 0x09, fieldOf v 0 4, beBytes 2 (s.regN R.LGR_HTAG) ++ ((List.range 6).flatMap fun k => beBytes 2 (s.regN
        (R.LGR_HBUF0 + k))).take (fieldOf v 4 4)⟩] ∧ t.reg R.LGR_HRES = 1 ∧ t.flag F.LGR_STATUS_HPEND) ∧
      (s.reg R.LGR_HTAG ≠ 0 → ∀ x ∈ s.newestPost, x.2 = s.regN R.LGR_HTAG → t.lgr = s.lgr ∧ t.reg R.LGR_HRES = 3 ∧
        t.group R.LGR_HSEQ2 3 = x.1 % 256 ^ 5) ∧
      s.banksKept t ∧ s.onlyRegs t [R.LGR_HRES, R.LGR_STATUS, R.LGR_HSEQ2, R.LGR_HSEQ1, R.LGR_HSEQ0]) ∧
  (∀ (s : State) (via : Via) (v : Word), s.live → s.reaches via 0 R.LGR_HPOST → fieldOf v 8 8 = 0 →
    (s.flag F.LGR_STATUS_HPEND ∨ fieldOf v 0 4 = 0 ∨ 12 < fieldOf v 4 4) → Gives (.lgrHostPost via v) s fun t =>
      t.reg R.LGR_HRES = 4 ∧ t.lgr = s.lgr ∧ s.onlyRegs t [R.LGR_HRES, R.LGR_STATUS])

/-- The command queue. The oldest queued lasting command is taken and executed as its CMD_ACCEPT is accepted; while
none can be taken it stays. After a start the commands without a CMD_DONE are executed again in turn, until one of
them resets the unit. With eight waiting, a further one is refused: BUSY to a Bunilia host, a NACK over Port H,
where a stretched write is refused after its 2 ms. (R319, R321, R322, R323, R325, R331, R397) -/
def Obligations.CommandQueue : Prop :=
  (∀ (s : State) (v : Verify) (x : QueuedCmd) (l : List QueuedCmd), s.live → s.cmd.queue = x :: l → x.src = srcPortH →
    x.code = R.VDT_CTRL → natAt x.args 0 2 = 1 → s.cmdReady → (s.ledgerDead ∨ s.mayAccept (s.acceptOf x)) →
    Gives (.cmdAccept v) s fun t =>
      (s.twb.held = none → t.cmd.queue = l) ∧ t.vdt.requested ∧
      (v = .ok → s.ledgerDead = false → s.twb.held = none → t.lgr.nextSeq = s.lgr.nextSeq + 1) ∧
      (v = .ok → s.twb.held = none → t.cmd.awaiting = s.cmd.awaiting ++ [(s.seqGiven, x, false)])) ∧
  (∀ (s : State) (v : Verify) (x : QueuedCmd) (l : List QueuedCmd), s.cmd.queue = x :: l →
    (lastingCodes.contains x.code ∨ x.src = srcPortH) → s.cmdReady → (s.ledgerDead ∨ s.mayAccept (s.acceptOf x)) →
    s.twb.held = none → Gives (.cmdAccept v) s fun t =>
      (x ∉ l → x ∉ t.cmd.queue) ∧ (v = .ok → s.ledgerDead = false → s.lgr.nextSeq < t.lgr.nextSeq)) ∧
  (∀ (s : State) (v : Verify) (x : QueuedCmd) (l : List QueuedCmd), s.cmd.queue = x :: l → s.cmdReady = false →
    s.twb.held = none → Gives (.cmdAccept v) s fun t =>
      t = s) ∧
  (∀ (s : State), s.phase = .run → s.served → s.cmd.replayDue → (s.ledgerDead ∨ s.flag F.LGR_STATUS_READY) →
    s.boot.secureDue = false → s.actPending = false → Gives (.cmdReplay) s fun t =>
      (t.cmd.replayDue = false ∨ t.phase ≠ .run ∨ t.boot.secureDue ∨ t.actPending) ∧
      (s.toReplay = [] → t = { s with cmd := { s.cmd with replayDue := false } })) ∧
  (∀ (s : State) (x : Nat × List Byte), s.phase = .run → s.served → s.cmd.replayDue →
    (s.ledgerDead ∨ s.flag F.LGR_STATUS_READY) → s.boot.secureDue = false → s.actPending = false → s.toReplay = [x] →
    (acceptCommand x.2).src = srcPortH → (acceptCommand x.2).code = R.VDT_CTRL → natAt (acceptCommand x.2).args 0 2 = 1 →
    Gives (.cmdReplay) s fun t =>
      t.cmd.replayDue = false ∧ t.vdt.requested ∧ t.cmd.awaiting = s.cmd.awaiting ++ [(x.1, acceptCommand x.2, true)]) ∧
  (∀ (s : State) (f : Option Bun) (code : Nat), s.phase = .run → 8 ≤ s.cmd.queue.length →
    Gives (.cmdBusy f code) s fun t =>
      (f = none → s.stretches = false → t.ra.nack ∧ t.flag F.TWB_EVENT_BUSY_NACK ∧ t.regN R.TWB_REFCNT = min (s.regN
        R.TWB_REFCNT + 1) 0xFFFF) ∧
      (f = none → s.stretches → s.portHPins → ∀ x ∈ s.twb.held, x.due ≤ s.now → t.twb.held = none ∧ t.ra.nack ∧ t.flag
        F.TWB_EVENT_BUSY_NACK ∧ t.regN R.LGR_COALCNT = min (s.regN R.LGR_COALCNT + 1) 0xFFFF) ∧
      (f = none → s.stretches → s.portHPins → ∀ x ∈ s.twb.held, s.now < x.due → t = s) ∧
      (∀ b ∈ f, t.replied b code stBusy 0 []) ∧ t.cmd.queue = s.cmd.queue ∧
      (f ≠ none ∨ s.stretches = false → t.regN R.LGR_COALCNT = min (s.regN R.LGR_COALCNT + 1) 0xFFFF))

/-- Sessions and frames that are no command. OPEN with the right code opens a session and the SERVICE overlay, and on
a transport that has one confirms it; a wrong code is denied and recorded, the fifth within 10 min locks out, and
during the lockout every OPEN is denied; CLOSE, the timeout and the firmware end it; an unlisted code is answered
UNKNOWN, a damaged frame BADFRAME; a command without a session is DENIED, and BUSY where another transport holds
it. (R370, R371, R373, R374, R375, R376, R377, R383) -/
def Obligations.Sessions : Prop :=
  (∀ (s : State) (b : Bun) (code : Nat), s.listens b 0x01 (beBytes 4 code) → s.svc.session = none →
    s.svc.lockDue = none → s.codeRight (code % 4294967296) → Gives (.openSession b code) s fun t =>
      t.svc.session = some ⟨b.transport, b.gen2, s.now + secTicks (s.field F.SVC_CFG_TIMEOUT)⟩ ∧
      t.flag F.SVC_STATUS_OPEN ∧ t.flag F.SYS_STATE_SERVICE ∧ t.field F.SVC_STATUS_TRANSPORT = b.transport.code ∧
      t.flag F.SVC_STATUS_GEN2 = b.gen2 ∧
      (s.roomFor K.SVC_OPEN → t.holds K.SVC_OPEN [byte b.transport.code, if b.gen2 then 2 else 1]) ∧
      t.replied b 1 stOk 0 [t.generations]) ∧
  (∀ (s : State) (b : Bun) (code : Nat) (x : Session), s.listens b 0x01 (beBytes 4 code) → s.svc.session = some x →
    s.svc.lockDue = none → s.codeRight (code % 4294967296) → Gives (.openSession b code) s fun t =>
      (x.transport = b.transport → t.svc.session = some { x with due := s.now + secTicks (s.field F.SVC_CFG_TIMEOUT) } ∧
        t.replied b 1 stOk 0 [t.generations]) ∧
      (x.transport ≠ b.transport → t.svc.session = some x ∧ t.replied b 1 stBusy 0 [])) ∧
  (∀ (s : State) (b : Bun) (code : Nat), s.listens b 0x01 (beBytes 4 code) → s.svc.session = none →
    Gives (.openSession b code) s fun t =>
      (s.svc.lockDue = none → s.codeRight (code % 4294967296) = false → t.svc.session = none ∧ t.replied b 1 stDenied 0
        [] ∧ ((s.svc.wrong.filter fun x => decide (s.now < x + secTicks 600)).length = 4 → t.flag F.SVC_STATUS_LOCKOUT ∧
        t.svc.lockDue = some (s.now + secTicks 600))) ∧
      (s.svc.lockDue ≠ none → t.svc.session = none ∧ t.replied b 1 stDenied 0 [] ∧ t.svc.lockDue = s.svc.lockDue)) ∧
  (∀ (s : State) (b : Bun), s.serves b 0x02 [] → Gives (.closeSession b) s fun t =>
      t.svc.session = none ∧ t.flag F.SVC_STATUS_OPEN = false ∧ t.flag F.SYS_STATE_SERVICE = false ∧
      t.replied b 2 stOk 0 []) ∧
  (∀ (s : State) (x : Session), s.live → s.svc.session = some x → x.due ≤ s.now → Gives (.sessionTimeout) s fun t =>
      t.svc.session = none ∧ t.flag F.SVC_STATUS_OPEN = false ∧ t.flag F.SYS_STATE_SERVICE = false) ∧
  (∀ (s : State) (via : Via), s.live → s.reaches via 0 R.SVC_CTRL → Gives (.svcCtrlClose via) s fun t =>
      t.svc.session = none ∧
      (s.svc.session ≠ none → t.flag F.SVC_STATUS_OPEN = false ∧ t.flag F.SYS_STATE_SERVICE = false) ∧
      s.onlyRegs t [R.SVC_STATUS, R.SVC_FWSTAGE, R.SYS_STATE, R.SYS_EVENT, R.LGR_EVENT, R.LGR_COALCNT]) ∧
  (∀ (s : State), s.live → s.elapsed s.svc.lockDue → Gives (.svcLockoutExpiry) s fun t =>
      t.svc.lockDue = none ∧ t.flag F.SVC_STATUS_LOCKOUT = false ∧ t.lgr = s.lgr ∧ s.regsKept t [R.SVC_STATUS]) ∧
  (∀ (s : State) (b : Bun) (code : Nat), s.listens b code [] → code ∉ lastingCodes ++ volatileCodes →
    Gives (.buniliaUnknown b code) s fun t =>
      t.replied b code stUnknown 0 [] ∧ t.lgr = s.lgr ∧
      s.onlyRegs t [R.OPT_STATUS, R.OPT_EVENT, R.OPT_ANSLEN, R.USB_STATUS, R.USB_EVENT, R.PD_LIMIT, R.TC_STATUS]) ∧
  (∀ (s : State) (tr : Transport) (l : List Byte), s.carries tr l → s.served →
    (s.bootRom → tr ≠ .optical ∧ s.part = .qtl6410) → bunBegun l → bunRight l = false →
    Gives (.buniliaBadframe tr l) s fun t =>
      (7 ≤ l.length ∨ (5 ≤ l.length ∧ byteAt l 1 ≠ 2) → t.replied ⟨tr, byteAt l 1 == 2, natAt l 5 2⟩ (byteAt l 4).toNat
        stBadframe 0 []) ∧
      (tr = .usb → t.svc.usbAns.map (fun a => (a.status, a.seq, a.body)) = some (stBadframe, 0, [])) ∧
      (tr = .uart → t.svc.uartAns.map (fun a => (a.status, a.seq, a.body)) = some (stBadframe, 0, [])) ∧
      (tr = .optical → t.flag F.OPT_STATUS_ANSPEND ∧ t.opt.pos = 0) ∧ t.lgr = s.lgr ∧ t.svc.session = s.svc.session ∧
      s.onlyRegs t [R.OPT_STATUS, R.OPT_EVENT, R.OPT_ANSLEN, R.USB_STATUS, R.USB_EVENT, R.PD_LIMIT, R.TC_STATUS]) ∧
  (∀ (s : State) (c : Instr) (b : Bun) (code : Nat) (args : List Byte) (x y : Nat) (f : Bool) (v : Word),
    ((c = .closeSession b ∧ code = 0x02 ∧ args = []) ∨ (c = .regRead b x y ∧ code = 0x10 ∧ args = beBytes 2 x ++ [byte y])
      ∨ (c = .lgrRead b x y 1 ∧ code = 0x20 ∧ args = beBytes 5 x ++ [byte y, 1]) ∨ (c = .stallRead b x ∧ code = 0x21 ∧
      args = [byte x]) ∨ (c = .wbRead b x ∧ code = 0x22 ∧ args = [byte x]) ∨ (c = .wbSnapshot b ∧ code = 0x23 ∧ args = [])
      ∨ (c = .fwBegin b x ∧ code = 0x40 ∧ args = beBytes 4 x) ∨ (c = .regWrite b x v f ∧ code = 0x11 ∧ args = beBytes 2 x
      ++ beBytes 2 v.toNat ++ [boolByte f]) ∨ (c = .wbCalibrate b x ∧ code = 0x24 ∧ args = beBytes 2 x) ∨ (c = .imgWrite b
      f ∧ code = 0x31 ∧ args = [boolByte f]) ∨ (c = .fwWrite b ∧ code = 0x42 ∧ args = []) ∨ (c = .fwActivate b x f ∧ code
      = 0x43 ∧ args = [byte x, boolByte f]) ∨ (c = .buniliaReset b x ∧ code = 0x50 ∧ args = [byte x]) ∨ (c = .buniliaShip
      b ∧ code = 0x51 ∧ args = []) ∨ (c = .cellNew b ∧ code = 0x52 ∧ args = []) ∨ (c = .proofReq b ∧ code = 0x53 ∧ args =
      [])) →
    s.listens b code args → s.codeUnknown (bunCmd b code []) = false →
    s.svc.session.map Session.transport ≠ some b.transport → Gives (c) s fun t =>
      (s.svc.session = none → t.replied b code stDenied 0 []) ∧ (s.svc.session ≠ none → t.replied b code stBusy 0 []) ∧
      t.lgr = s.lgr ∧ t.svc.session = s.svc.session)

/-- The volatile Bunilia commands. Each is answered on its transport with OK and what it reads, within its ranges,
and with BADARG outside them; IMG_STAGE puts its bytes into the staging area, FW_BEGIN sets the length and clears
what was staged, FW_CHUNK stages a chunk. (R194, R284, R371, R373, R375, R377, R378, R379) -/
def Obligations.VolatileCommands : Prop :=
  (∀ (s : State) (b : Bun), s.serves b 0x03 [] → Gives (.buniliaIdent b) s fun t =>
      t.replied b 3 stOk 0 (t.identAnswer) ∧ t.lgr = s.lgr ∧
      s.onlyRegs t [R.OPT_STATUS, R.OPT_EVENT, R.OPT_ANSLEN, R.USB_STATUS, R.USB_EVENT, R.PD_LIMIT, R.TC_STATUS]) ∧
  (∀ (s : State) (b : Bun) (addr n : Nat), s.serves b 0x10 (beBytes 2 addr ++ [byte n]) → n < 256 →
    Gives (.regRead b addr n) s fun t =>
      (1 ≤ n → n ≤ (if b.transport = .optical then 16 else 32) → (b.transport = .usb → t.svc.usbAns.map (fun a =>
        (a.code, a.status, a.body.length)) = some (0x10, stOk, 2 * n)) ∧ (b.transport = .uart → t.svc.uartAns.map (fun a
        => (a.code, a.status, a.body.length)) = some (0x10, stOk, 2 * n)) ∧ (b.transport = .optical → t.flag
        F.OPT_STATUS_ANSPEND)) ∧
      (n = 1 → addr < 65536 → s.info (addr % 16384) ≠ none → groupOf (addr % 16384) = none → s.ra.latched = [] →
        t.replied b 0x10 stOk 0 (beBytes 2 (s.shown false (addr % 16384)).toNat)) ∧
      (n = 0 ∨ (if b.transport = .optical then 16 else 32) < n → t.replied b 0x10 stBadarg 0 []) ∧
      t.lgr.waiting = s.lgr.waiting) ∧
  (∀ (s : State) (b : Bun) (seq mode n : Nat), s.serves b 0x20 (beBytes 5 seq ++ [byte mode, byte n]) → mode < 256 →
    n < 256 → Gives (.lgrRead b seq mode n) s fun t =>
      (mode ≤ 2 → 1 ≤ n → n ≤ 4 → t.replied b 0x20 stOk 0 (s.ledgerRead mode n (seq % 256 ^ 5))) ∧
      (2 < mode ∨ n = 0 ∨ 4 < n → t.replied b 0x20 stBadarg 0 []) ∧ t.lgr = s.lgr ∧
      s.onlyRegs t [R.OPT_STATUS, R.OPT_EVENT, R.OPT_ANSLEN, R.USB_STATUS, R.USB_EVENT, R.PD_LIMIT, R.TC_STATUS]) ∧
  (∀ (s : State) (b : Bun) (addr : Nat), s.serves b 0x21 [byte addr] → addr < 256 → Gives (.stallRead b addr) s fun t =>
      (addr ≤ 63 → t.replied b 0x21 stOk 0 (s.stall addr) ∧ (t.stallCached addr).isSome) ∧
      (63 < addr → t.replied b 0x21 stBadarg 0 [] ∧ t.mkt = s.mkt) ∧
      (addr ≤ 63 → (s.stallCached addr).isSome → t.lgr = s.lgr)) ∧
  (∀ (s : State) (b : Bun) (typ : Nat), s.serves b 0x22 [byte typ] → typ < 256 → Gives (.wbRead b typ) s fun t =>
      t.replied b 0x22 stOk 0 (byte ((s.wbLatest typ).getD []).length :: (s.wbLatest typ).getD []) ∧ t.wb = s.wb ∧
      s.onlyRegs t [R.OPT_STATUS, R.OPT_EVENT, R.OPT_ANSLEN, R.USB_STATUS, R.USB_EVENT, R.PD_LIMIT, R.TC_STATUS]) ∧
  (∀ (s : State) (b : Bun), s.serves b 0x23 [] → Gives (.wbSnapshot b) s fun t =>
      t.replied b 0x23 stOk 0 (beBytes 2 (t.regN R.WB_CMDRES)) ∧
      (s.mailBusy = false → s.wb.run → s.wbBusy = false → t.field F.WB_CMDRES_RESULT = 0 ∧ t.field F.WB_CMDRES_CODE = 1)
        ∧
      (s.mailBusy = false → s.wb.run → s.wbBusy = false → t.wb.seq.map WbSeq.kind = some seqSnap)) ∧
  (∀ (s : State) (b : Bun) (offset : Nat) (data : List Byte), s.serves b 0x30 (beBytes 2 offset ++ data) →
    offset < 65536 → Gives (.imgStage b offset data) s fun t =>
      (data ≠ [] → data.length ≤ 512 → offset + data.length ≤ 65536 → t.replied b 0x30 stOk 0 [] ∧ t.stageByte offset =
        data.headD 0 ∧ t.stageByte (offset + data.length) = s.stageByte (offset + data.length)) ∧
      (data = [] ∨ 512 < data.length ∨ 65536 < offset + data.length → t.replied b 0x30 stBadarg 0 [] ∧ t.boot = s.boot)
        ∧
      s.onlyRegs t [R.OPT_STATUS, R.OPT_EVENT, R.OPT_ANSLEN, R.USB_STATUS, R.USB_EVENT, R.PD_LIMIT, R.TC_STATUS,
        R.SVC_STATUS]) ∧
  (∀ (s : State) (b : Bun) (total : Nat), s.serves b 0x40 (beBytes 4 total) → total < 4294967296 →
    Gives (.fwBegin b total) s fun t =>
      (total % 4 = 0 → 512 ≤ total → total ≤ 524288 → t.svc.fwTotal = some total ∧ t.svc.fwPos = 0 ∧ t.svc.chunks = [] ∧
        t.replied b 0x40 stOk 0 [byte s.fwTarget.code]) ∧
      (total % 4 ≠ 0 ∨ total < 512 ∨ 524288 < total → t.replied b 0x40 stBadarg 0 [] ∧ t.svc.fwTotal = s.svc.fwTotal) ∧
      s.onlyRegs t [R.OPT_STATUS, R.OPT_EVENT, R.OPT_ANSLEN, R.USB_STATUS, R.USB_EVENT, R.PD_LIMIT, R.TC_STATUS,
        R.SVC_STATUS, R.SVC_FWSTAGE]) ∧
  (∀ (s : State) (b : Bun) (offset : Nat) (data : List Byte), s.serves b 0x41 (beBytes 4 offset ++ data) →
    offset < 4294967296 → Gives (.fwChunk b offset data) s fun t =>
      (∀ total ∈ s.svc.fwTotal, offset % 512 = 0 ∧ s.svc.fwPos ≤ offset ∧ offset < s.svc.fwPos + 65536 ∧ ((data.length =
        512 ∧ offset + 512 ≤ total) ∨ (data.length < 512 ∧ 0 < data.length ∧ offset + data.length = total)) → (offset,
        data) ∈ t.svc.chunks ∧ t.svc.fwPos = s.svc.fwPos ∧ t.replied b 0x41 stOk 0 []) ∧
      (∀ total ∈ s.svc.fwTotal, ¬(offset % 512 = 0 ∧ s.svc.fwPos ≤ offset ∧ offset < s.svc.fwPos + 65536 ∧ ((data.length
        = 512 ∧ offset + 512 ≤ total) ∨ (data.length < 512 ∧ 0 < data.length ∧ offset + data.length = total))) →
        t.replied b 0x41 stBadarg 0 [] ∧ t.svc.chunks = s.svc.chunks) ∧
      (s.svc.fwTotal = none → b.transport = .usb → t.svc.usbAns.map Answer.status = some stRefused) ∧
      s.onlyRegs t [R.OPT_STATUS, R.OPT_EVENT, R.OPT_ANSLEN, R.USB_STATUS, R.USB_EVENT, R.PD_LIMIT, R.TC_STATUS,
        R.SVC_STATUS, R.SVC_FWSTAGE])

/-- The lasting Bunilia commands. One that cannot be taken at once waits in the queue, or is answered BUSY with eight
waiting. Taken, it is given the sequence of its CMD_ACCEPT, has its effect and is answered with that sequence: a
register written, or refused as over Port H; a calibration begun; an image write begun or refused; a window of
firmware written, or the first chunk that is missing; a slot activated, or already active; the Weighbridge reset;
ship armed, or refused with its cause; a cell declared; a proof test asked for. Where a reset follows, or ship is
armed, answer and act come once CMD_DONE has been accepted. (R28, R93, R190, R209, R319, R321, R322, R325, R371,
R377, R380, R381) -/
def Obligations.LastingCommands : Prop :=
  (∀ (s : State) (c : Instr) (b : Bun) (code : Nat) (args : List Byte) (x : Nat) (f : Bool) (v : Word),
    ((c = .regWrite b x v f ∧ code = 0x11 ∧ args = beBytes 2 x ++ beBytes 2 v.toNat ++ [boolByte f]) ∨ (c = .wbCalibrate b
      x ∧ code = 0x24 ∧ args = beBytes 2 x) ∨ (c = .imgWrite b f ∧ code = 0x31 ∧ args = [boolByte f]) ∨ (c = .fwWrite b ∧
      code = 0x42 ∧ args = []) ∨ (c = .fwActivate b x f ∧ code = 0x43 ∧ x ≤ 1 ∧ args = [byte x, boolByte f]) ∨ (c =
      .buniliaReset b x ∧ code = 0x50 ∧ (x = 1 ∨ x = 2) ∧ args = [byte x]) ∨ (c = .buniliaShip b ∧ code = 0x51 ∧ args =
      []) ∨ (c = .cellNew b ∧ code = 0x52 ∧ args = []) ∨ (c = .proofReq b ∧ code = 0x53 ∧ args = [])) →
    s.serves b code args → s.waits (bunCmd b code args) → Gives (c) s fun t =>
      (s.cmd.queue.length < 8 → t.cmd.queue = s.cmd.queue ++ [bunCmd b code args] ∧ t.lgr = s.lgr) ∧
      (8 ≤ s.cmd.queue.length → t.cmd.queue = s.cmd.queue ∧ t.replied b code stBusy 0 [])) ∧
  (∀ (s : State) (b : Bun) (addr : Nat) (v : Word) (keyed : Bool),
    s.serves b 0x11 (beBytes 2 addr ++ beBytes 2 v.toNat ++ [boolByte keyed]) →
    s.takes (bunCmd b 0x11 (beBytes 2 addr ++ beBytes 2 v.toNat ++ [boolByte keyed])) → keyed = false →
    addr ∈ R.SYS_INTMASK :: irqEnables → Gives (.regWrite b addr v keyed) s fun t =>
      ((∃ r ∈ s.info addr, s.legal r v) → s.reg addr = v ∨ s.permits (.portH 0) addr v → t.reg addr = v ∧ t.replied b
        0x11 stOk s.seqGiven []) ∧
      ((∃ r ∈ s.info addr, s.legal r v = false) → t.reg addr = s.reg addr ∧ t.replied b 0x11 stBadarg s.seqGiven []) ∧
      (s.ledgerDead = false → t.lgr.nextSeq = s.lgr.nextSeq + 1)) ∧
  (∀ (s : State) (b : Bun) (addr : Nat) (v : Word) (keyed : Bool),
    s.serves b 0x11 (beBytes 2 addr ++ beBytes 2 v.toNat ++ [boolByte keyed]) →
    s.takes (bunCmd b 0x11 (beBytes 2 addr ++ beBytes 2 v.toNat ++ [boolByte keyed])) → keyed →
    Gives (.regWrite b addr v keyed) s fun t =>
      (addr = R.CFG_LOCK → v = 1 → s.flag F.CFG_STATUS_PEND = false → t.flag F.CFG_STATUS_LOCKED ∧ t.replied b 0x11 stOk
        s.seqGiven []) ∧
      (addr = R.SYS_RESET → v = 2 → t.boot.core = false ∨ s.cmd.finishing.length < t.cmd.finishing.length) ∧
      (addr = R.SYS_RESET → v = 1 → t.phase = .startup ∨ s.cmd.finishing.length < t.cmd.finishing.length) ∧
      (addr = R.SYS_SHIP → v = 1 → t.cmd.shipping = s.cmd.shipping ++ [(s.seqGiven, bunCmd b 0x11 (beBytes 2 addr ++
        beBytes 2 v.toNat ++ [boolByte keyed]), false)] ∨ t.flag F.SYS_EVENT_SHIP_REFUSED)) ∧
  (∀ (s : State) (b : Bun) (ma : Nat), s.serves b 0x24 (beBytes 2 ma) → s.takes (bunCmd b 0x24 (beBytes 2 ma)) →
    ma < 65536 → Gives (.wbCalibrate b ma) s fun t =>
      t.replied b 0x24 stOk s.seqGiven (beBytes 2 (t.regN R.WB_CMDRES)) ∧
      (s.wb.run → ma < 500 ∨ 2000 < ma → t.field F.WB_CMDRES_RESULT = 3 ∧ t.wb.seq = s.wb.seq) ∧
      (s.wb.run → 500 ≤ ma → ma ≤ 2000 → s.romBad ∨ s.calibrated → t.field F.WB_CMDRES_RESULT = 7 ∧ t.wb.seq = s.wb.seq)
        ∧
      (s.wb.run → 500 ≤ ma → ma ≤ 2000 → s.romBad = false → s.calibrated = false → s.wbBusy = false → s.flag
        F.SYS_STATE_SERVICE → t.field F.WB_CMDRES_RESULT = 0) ∧
      (s.wb.run → 500 ≤ ma → ma ≤ 2000 → s.romBad = false → s.calibrated = false → s.wbBusy = false → s.flag
        F.SYS_STATE_SERVICE → t.wb.seq.map (fun q => (q.kind, q.arg)) = some (seqCal, ma))) ∧
  (∀ (s : State) (b : Bun) (resetAfter : Bool), s.serves b 0x31 [boolByte resetAfter] →
    s.takes (bunCmd b 0x31 [boolByte resetAfter]) → Gives (.imgWrite b resetAfter) s fun t =>
      (s.boot.write = none → s.imageRefusal = 0 → t.flag F.CFG_STATUS_WRBUSY ∧ t.pins.cfgwp = false ∧ t.boot.write.map
        ImageWrite.resetAfter = some resetAfter ∧ t.cmd.writing.isSome) ∧
      (s.boot.write = none → s.imageRefusal ≠ 0 → t.flag F.CFG_STATUS_WRFAIL ∧ t.boot.write = none ∧ t.replied b 0x31
        stRefused s.seqGiven (beBytes 2 (t.regN R.CFG_STATUS))) ∧
      (s.boot.write ≠ none → t.boot.write = s.boot.write ∧ t.replied b 0x31 stRefused s.seqGiven (beBytes 2 (t.regN
        R.CFG_STATUS))) ∧
      t.boot.stage = s.boot.stage) ∧
  (∀ (s : State) (b : Bun) (win : List Nat), s.serves b 0x42 [] → s.takes (bunCmd b 0x42 []) →
    win = (s.svc.fwTotal.map s.fwWindow).getD [] → Gives (.fwWrite b) s fun t =>
      (s.svc.fwTotal = none → t.replied b 0x42 stRefused s.seqGiven (beBytes 4 s.svc.fwPos)) ∧
      (∀ o ∈ win.find? (fun o => (s.fwChunk o).isNone), t.replied b 0x42 stRefused s.seqGiven (beBytes 4 o) ∧
        t.boot.slotA = s.boot.slotA ∧ t.boot.slotB = s.boot.slotB) ∧
      (s.svc.fwTotal ≠ none → (∀ o ∈ win, (s.fwChunk o).isSome) → t.slotBytes s.fwTarget = setBytes (padTo (max
        s.svc.fwPos (s.slotBytes s.fwTarget).length) (s.slotBytes s.fwTarget)) s.svc.fwPos (win.flatMap fun o =>
        (s.fwChunk o).getD []) ∧ t.svc.fwPos = s.svc.fwPos + (win.flatMap fun o => (s.fwChunk o).getD []).length ∧
        t.svc.chunks = [] ∧ t.replied b 0x42 stOk s.seqGiven (beBytes 4 t.svc.fwPos)) ∧
      t.slotBytes s.fwTarget.other = s.slotBytes s.fwTarget.other) ∧
  (∀ (s : State) (b : Bun) (slot : Nat) (raiseFloor : Bool) (x : AB), s.serves b 0x43 [byte slot, boolByte raiseFloor] →
    s.takes (bunCmd b 0x43 [byte slot, boolByte raiseFloor]) → slot ≤ 1 → (x = (if slot = 1 then .b else .a)) →
    (s.ledgerDead = false → (s.acceptRec (s.acceptOf (bunCmd b 0x43 [byte slot, boolByte raiseFloor])) .ok).storedActive =
      s.storedActive) →
    Gives (.fwActivate b slot raiseFloor) s fun t =>
      (s.storedActive = x → s.boot.running = some x → t.replied b 0x43 stOk s.seqGiven (beBytes 4 (slotVersion
        (s.slotBytes x))) ∧ t.svc.activation = s.svc.activation) ∧
      (s.storedActive ≠ x ∨ s.boot.running ≠ some x → s.svc.fwTotal = some s.svc.fwPos → ∀ e ∈ s.slotFault x, t.replied
        b 0x43 stRefused s.seqGiven [byte e] ∧ t.svc.activation = s.svc.activation) ∧
      (s.storedActive ≠ x ∨ s.boot.running ≠ some x → s.svc.fwTotal ≠ some s.svc.fwPos → t.svc.activation =
        s.svc.activation ∧ t.boot.core = s.boot.core) ∧
      (s.storedActive ≠ x ∨ s.boot.running ≠ some x → s.svc.fwTotal = some s.svc.fwPos → s.slotFault x = none → s.flag
        F.SYS_STATE_PROOF ∨ s.flag F.SYS_STATE_ALARM → t.svc.activation.map (fun a => (a.slot, a.raise, a.seq)) = some
        (x, raiseFloor, s.seqGiven)) ∧
      (s.storedActive ≠ x ∨ s.boot.running ≠ some x → s.svc.fwTotal = some s.svc.fwPos → s.slotFault x = none → s.flag
        F.SYS_STATE_PROOF = false → s.flag F.SYS_STATE_ALARM = false → t.svc.activation = none ∧ (t.boot.secureDue ∨
        s.cmd.finishing.length < t.cmd.finishing.length)) ∧
      t.boot.slotA = s.boot.slotA ∧ t.boot.slotB = s.boot.slotB) ∧
  (∀ (s : State) (b : Bun) (target : Nat), s.serves b 0x50 [byte target] → s.takes (bunCmd b 0x50 [byte target]) →
    target < 256 → Gives (.buniliaReset b target) s fun t =>
      (target = 2 → t.replied b 0x50 stOk s.seqGiven [] ∧ (s.wb.run → t.wb.run = false ∧ t.wb.cause = 4)) ∧
      (target = 1 → (t.phase = .startup ∧ t.boot.applied = false ∧ t.reg R.SYS_INTMASK = 0xFFFF ∧ t.svc.session = none)
        ∨ s.cmd.finishing.length < t.cmd.finishing.length) ∧
      (target ≠ 1 → target ≠ 2 → t.replied b 0x50 stBadarg 0 [] ∧ t.lgr = s.lgr)) ∧
  (∀ (s : State) (b : Bun), s.serves b 0x51 [] → s.takes (bunCmd b 0x51 []) → Gives (.buniliaShip b) s fun t =>
      (b.transport ≠ .optical → s.armBlock = 0 → t.boot.shipArmed = some (s.now + secTicks 60, srcRequester
        (Transport.src b.transport)) ∧ (t.replied b 0x51 stOk s.seqGiven [] ∨ s.cmd.finishing.length <
        t.cmd.finishing.length)) ∧
      (b.transport ≠ .optical → s.armBlock ≠ 0 → t.boot.shipArmed = s.boot.shipArmed ∧ t.flag F.SYS_EVENT_SHIP_REFUSED ∧
        t.replied b 0x51 stRefused s.seqGiven [byte s.armBlock]) ∧
      (b.transport = .optical → s.shipBlock = 0 → s.boot.shipDue = none → t.boot.shipDue = some (s.now + secTicks 1,
        .optical))) ∧
  (∀ (s : State) (b : Bun), s.serves b 0x52 [] → s.takes (bunCmd b 0x52 []) → Gives (.cellNew b) s fun t =>
      t.replied b 0x52 stOk s.seqGiven [] ∧
      ((if s.ledgerDead then s.cellNewKnown 0 else (s.acceptRec (s.acceptOf (bunCmd b 0x52 [])) .ok).cellNewKnown
        s.lgr.nextSeq) = false → t.field F.VDT_STATUS_LIFE = 0 ∧ t.reg R.VDT_ZBASE = 0 ∧ t.vdt.zbase = none ∧
        t.vdt.proof = none)) ∧
  (∀ (s : State) (b : Bun), s.serves b 0x53 [] → s.takes (bunCmd b 0x53 []) → Gives (.proofReq b) s fun t =>
      t.vdt.requested ∧ t.cmd.awaiting = s.cmd.awaiting ++ [(s.seqGiven, bunCmd b 0x53 [], false)] ∧
      (s.ledgerDead = false → t.lgr.nextSeq = s.lgr.nextSeq + 1))

/-- Activation and the rollback floor. A verified activation that waited proceeds once PROOF and ALARM are clear, and
a core reset follows once its CMD_DONE has been accepted; the floor is raised to the version of the slot once it
has run for 1 h and is never lowered. (R381, R382) -/
def Obligations.SlotsAndFloor : Prop :=
  (∀ (s : State) (a : Activation), s.phase = .run → s.served → s.flag F.SYS_STATE_PROOF = false →
    s.flag F.SYS_STATE_ALARM = false → s.svc.activation = some a → Gives (.fwActivateResume) s fun t =>
      t.svc.activation = none ∧ (t.svc.floorFrom = (if a.raise then some (a.slot, s.now) else none)) ∧
      ((t.boot.secureDue ∧ t.boot.core = false) ∨ s.cmd.finishing.length < t.cmd.finishing.length) ∧
      (s.bankBad .a = false → natAt (t.slot .a 68) 4 1 = a.slot.code) ∧
      (s.bankBad .b = false → natAt (t.slot .b 68) 4 1 = a.slot.code)) ∧
  (∀ (s : State) (v : Verify) (x : AB) (d : Nat), s.live → s.boot.core → s.boot.running = some x →
    s.svc.floorFrom = some (x, d) → d + secTicks 3600 ≤ s.now → Gives (.floorRaise v) s fun t =>
      t.svc.floorFrom = none ∧
      (s.bankBad .a = false → natAt (t.slot .a 68) 5 4 = max s.storedFloor (slotVersion (s.slotBytes x)) % 256 ^ 4) ∧
      (v = .failed .a 0 → s.bankBad .a = false → t.bankBad .a) ∧
      (v = .ok → s.roomFor K.FLOOR_RAISE → t.holds K.FLOOR_RAISE (beBytes 4 s.storedFloor ++ beBytes 4 (max
        s.storedFloor (slotVersion (s.slotBytes x))))) ∧
      (v = .ok → t.regs = s.regs))

/-- The USB Type-C port. Rp seen; attach with the limit the advertisement gives; detach, which ends contract and
wired session and takes the limit to 0; the advertisement; Battery Charging detection, whose result counts once an
image has been applied; the fresh attach, which lets VBUS qualify again. Each holds once the debounce of R349 has
passed. (R334, R335, R336, R66, R103, R336, R337, R338, R339, R361) -/
def Obligations.TypeCPort : Prop :=
  (∀ (s : State), s.live → s.part = .qtl6410 → s.tcState = 0 → Gives (.ccRpDetect) s fun t =>
      t.tcState = 1 ∧ s.regsKept t [R.TC_STATUS] ∧ t.lgr = s.lgr ∧ t.pd = s.pd) ∧
  (∀ (s : State) (pin adv vbus : Nat) (low : Bool) (ticks : Nat), s.live → s.part = .qtl6410 → s.tcState = 1 → pin ≤ 1 →
    adv ≤ 3 → 4000 ≤ vbus → msTicks 150 ≤ ticks → Gives (.tcAttach pin adv vbus low ticks) s fun t =>
      t.tcState = 2 ∧ t.flag F.TC_STATUS_ORIENT = (pin == 1) ∧ t.field F.TC_STATUS_ADV = adv ∧
      t.flag F.PD_STATUS_SINKTXOK = (adv == 3) ∧ t.flag F.PD_EVENT_ATTACH ∧
      t.regN R.PD_ATTCNT = min (s.regN R.PD_ATTCNT + 1) 0xFFFF ∧ (adv = 2 → t.regN R.PD_LIMIT = 150) ∧
      (adv = 3 → t.regN R.PD_LIMIT = 300) ∧ (adv = 1 → s.flag F.USB_STATUS_SUSPENDED = false → t.regN R.PD_LIMIT = 50) ∧
      t.field F.TC_STATUS_BC12 = 0 ∧ s.hands t K.TC_ATTACH [2, byte pin, byte adv] ∧
      (low → t.path.vbusBlocked = false) ∧ (low = false → t.path.vbusBlocked = s.path.vbusBlocked)) ∧
  (∀ (s : State) (vbus : Nat) (low : Bool) (ticks : Nat), s.live → s.part = .qtl6410 → s.tcState = 1 → 4000 ≤ vbus →
    msTicks 150 ≤ ticks → Gives (.debugAccessoryAttach vbus low ticks) s fun t =>
      t.tcState = 3 ∧ t.flag F.PD_EVENT_ATTACH ∧ (s.flag F.USB_STATUS_SUSPENDED = false → t.regN R.PD_LIMIT = 50) ∧
      s.hands t K.TC_ATTACH [3, 0, 1] ∧ (low → t.path.vbusBlocked = false)) ∧
  (∀ (s : State) (vbus ticks : Nat), s.live → s.part = .qtl6410 → (s.tcState = 2 ∨ s.tcState = 3) → msTicks 15 ≤ ticks →
    Gives (.tcDetach vbus ticks) s fun t =>
      t.tcState = 0 ∧ t.flag F.PD_EVENT_DETACH ∧ t.flag F.PD_STATUS_CONTRACT = false ∧ t.pd.contract = none ∧
      t.regN R.PD_SRCPDOCNT = 0 ∧ t.regN R.PD_LIMIT = 0 ∧ t.regN R.PD_CONTRACT_V = 0 ∧
      t.flag F.PD_STATUS_SVCMODE = false ∧ (∀ x ∈ t.svc.session, x.transport = .optical) ∧ t.boot.shipArmed = none ∧
      (s.boot.shipArmed = none → t.boot.shipDue = s.boot.shipDue)) ∧
  (∀ (s : State) (ticks : Nat), msTicks 15 ≤ ticks → s.live → s.part = .qtl6410 → s.tcState = 1 →
    Gives (.attachwaitAbandon ticks) s fun t =>
      t.tcState = 0 ∧ s.regsKept t [R.TC_STATUS] ∧ t.lgr = s.lgr) ∧
  (∀ (s : State) (adv ticks : Nat), msTicks 15 ≤ ticks → s.live → s.part = .qtl6410 → s.tcState = 2 → adv ≤ 3 →
    adv ≠ s.field F.TC_STATUS_ADV → Gives (.advertisementChange adv ticks) s fun t =>
      t.field F.TC_STATUS_ADV = adv ∧ t.flag F.PD_STATUS_SINKTXOK = (adv == 3) ∧ t.flag F.PD_EVENT_ADV_CHG ∧
      (s.pd.contract = none → adv = 2 → t.regN R.PD_LIMIT = 150) ∧
      (∀ r ∈ s.pd.contract, t.reg R.PD_LIMIT = s.reg R.PD_LIMIT) ∧ t.lgr = s.lgr) ∧
  (∀ (s : State) (ticks : Nat), msTicks 150 ≤ ticks → s.live → s.part = .qtl6410 → (s.tcState = 2 ∨ s.tcState = 3) →
    Gives (.freshAttachDebounce ticks) s fun t =>
      (s.path.vbusBlocked → t.flag F.TC_STATUS_VBUS_LOW ∧ t.flag F.TC_STATUS_DEBOUNCE_OK ∧ t.path.vbusBlocked = false ∧
        t.pd.collapseDue = none) ∧
      (s.path.vbusBlocked = false → t = s)) ∧
  (∀ (s : State), s.live → s.part = .qtl6410 → s.tcState = 2 → bitOf s.pd.cfg 3 → s.field F.TC_STATUS_ADV = 1 →
    s.pd.seen = false → s.pd.bcRan = false → s.qualified .vbus → s.qualAt .vbus + msTicks 10 ≤ s.now →
    Gives (.bc12Start) s fun t =>
      t.flag F.TC_STATUS_BC12_BUSY ∧ t.pd.bcRan ∧ t.flag F.USB_STATUS_PULLUP = false) ∧
  (∀ (s : State) (result : Nat), s.live → s.part = .qtl6410 → s.tcState = 2 → s.flag F.TC_STATUS_BC12_BUSY →
    result ≤ 3 → Gives (.bc12Done result) s fun t =>
      t.flag F.TC_STATUS_BC12_BUSY = false ∧ t.field F.TC_STATUS_BC12 = result ∧ t.flag F.PD_EVENT_BC12_DONE ∧
      (s.imaged → s.pd.contract = none → s.field F.TC_STATUS_ADV = 1 → 2 ≤ result → t.regN R.PD_LIMIT = 150) ∧
      (s.imaged = false → s.pd.contract = none → s.field F.TC_STATUS_ADV = 1 → t.regN R.PD_LIMIT = 50) ∧
      (result = 3 → t.flag F.USB_STATUS_PULLUP = false))

/-- The Power Delivery contract. Source_Capabilities answered by the engine that owns the port with its choice, also
without VBUS_EN, under a latched contract, and while the voltage is held, and answered with Hard Reset inside
another exchange; Accept lowers the limit or enters sink standby; PS_RDY makes the contract, shows and records it;
Accept, PS_RDY, Wait and Reject where none is expected change nothing but that a partner is seen; a refusal is
counted, and the Request retried or, at the third, replaced by the next choice; the keep-alive; TAKE, RENEG,
GETCAPS. (R340, R341, R342, R344, R345, R346, R347, R348, R353, R357, R360, R361) -/
def Obligations.PowerContract : Prop :=
  (∀ (s : State) (h : PdHeader) (objs : List Nat) (posted : Bool), s.pdHears h → s.awaitsCaps → objs.length ≤ 7 →
    Gives (.sourceCapabilitiesRx h objs posted) s fun t =>
      t.regN R.PD_SRCPDOCNT = objs.length ∧ t.flag F.PD_EVENT_SRCCAP ∧ t.flag F.PD_STATUS_PARTNER ∧ t.pd.capsSeen ∧
      t.pd.noRespDue = none ∧
      (s.flag F.SRC_EN_VBUS_EN → s.pd.latch = none → s.pdHoldsVolt = false → s.fwOwns = false → t.pd.req = t.fbChoice
        (t.regN R.PD_FB_VMAX * 100)) ∧
      (s.flag F.SRC_EN_VBUS_EN → s.pd.latch = none → s.pdHoldsVolt = false → s.fwOwns → posted → s.boot.core → t.pd.req
        = t.fwChoice) ∧
      (s.flag F.SRC_EN_VBUS_EN = false → s.fwOwns = false → t.pd.req = t.idleChoice true) ∧
      (s.flag F.SRC_EN_VBUS_EN → s.fwOwns = false → ∀ r ∈ s.pd.latch, t.pd.req = t.latchChoice r) ∧
      (s.flag F.SRC_EN_VBUS_EN → s.pd.latch = none → s.pdHoldsVolt → s.fwOwns = false → ∀ r ∈ t.sameVolt true, t.pd.req
        = some r) ∧
      (s.fwOwns → ¬(posted ∧ s.boot.core) → t.pd.req = none ∧ t.pd.capsAt = some s.now) ∧
      (t.pd.req ≠ none → t.pd.sent = t.pd.req.map fun r => PdMsg.request r.rdo)) ∧
  (∀ (s : State) (h : PdHeader) (objs : List Nat) (posted : Bool), s.pdHears h → s.awaitsCaps = false →
    Gives (.sourceCapabilitiesRx h objs posted) s fun t =>
      (s.pd.hrRow < 2 → t.pd.sent = some .hardReset ∧ t.pd.contract = none ∧ t.pd.req = none) ∧
      (2 ≤ s.pd.hrRow → t.flag F.PD_STATUS_NONPD ∧ t.pd.contract = s.pd.contract) ∧
      t.regN R.PD_SRCPDOCNT = s.regN R.PD_SRCPDOCNT) ∧
  (∀ (s : State) (h : PdHeader), s.pdHears h → (s.pd.req = none ∨ s.pd.acceptAt ≠ none) → Gives (.acceptRx h) s fun t =>
      (t.pd.ask = (if s.pd.req = none ∧ s.pd.ask.any (fun x => x.1 == .softReset) then none else s.pd.ask)) ∧
      t.pd.req = s.pd.req ∧ t.pd.acceptAt = s.pd.acceptAt ∧ s.regsKept t [R.PD_STATUS] ∧ t.lgr = s.lgr ∧
      t.path = s.path) ∧
  (∀ (s : State) (h : PdHeader) (r : PdReq), s.pdHears h → s.pd.req = some r → s.pd.acceptAt = none →
    Gives (.acceptRx h) s fun t =>
      t.pd.acceptAt = some s.now ∧
      (r.mv = s.pdVolt → t.regN R.PD_LIMIT = min r.ma (s.regN R.PD_LIMIT) ∧ t.path = s.path) ∧
      (r.mv ≠ s.pdVolt → t.flag F.PD_STATUS_TRANSITION ∧ t.regN R.PD_LIMIT = min (s.regN R.PD_LIMIT) (250000 / min
        s.pdVolt r.mv) ∧ t.path.vref = min s.pdVolt r.mv) ∧
      t.lgr = s.lgr) ∧
  (∀ (s : State) (h : PdHeader) (r : PdReq), s.pdHears h → s.pd.req = some r → s.pd.acceptAt ≠ none → r.mv ≤ 48000 →
    r.ma ≤ 500 → r.typ ≤ 2 → Gives (.psRdyRx h) s fun t =>
      t.pd.contract = some r ∧ t.flag F.PD_STATUS_CONTRACT ∧ t.field F.PD_STATUS_OBJTYPE = r.typ ∧
      t.flag F.PD_STATUS_TRANSITION = false ∧ t.regN R.PD_CONTRACT_V = r.mv / 20 ∧ t.regN R.PD_CONTRACT_I = r.ma ∧
      t.regN R.PD_LIMIT = r.ma ∧ t.path.vref = r.mv ∧ (r.typ ≠ 0 → t.pd.keepDue = s.timer (secTicks 8)) ∧
      (s.pd.contract ≠ some r → t.flag F.PD_EVENT_CONTRACT ∧ s.hands t K.PD_CONTRACT (beBytes 4 r.rdo ++ beBytes 4 r.pdo
        ++ beBytes 2 (r.mv / 20) ++ beBytes 2 r.ma ++ [boolByte (!r.fallback), byte s.pdRev]))) ∧
  (∀ (s : State) (c : Instr) (h : PdHeader), c ∈ [.psRdyRx h, .waitRejectRx h] → s.pdHears h →
    (s.pd.req = none ∨ (c = .psRdyRx h ∧ s.pd.acceptAt = none) ∨ (c = .waitRejectRx h ∧ s.pd.acceptAt ≠ none)) →
    Gives (c) s fun t =>
      s.regsKept t [R.PD_STATUS] ∧ t.flag F.PD_STATUS_CONTRACT = s.flag F.PD_STATUS_CONTRACT ∧ t.pd.req = s.pd.req ∧
      t.pd.contract = s.pd.contract ∧ t.lgr = s.lgr ∧ t.path = s.path) ∧
  (∀ (s : State) (h : PdHeader) (r : PdReq), s.pdHears h → s.pd.req = some r → s.pd.acceptAt = none →
    Gives (.waitRejectRx h) s fun t =>
      ((∀ x ∈ s.pd.refusals, x.pos = r.pos → x.count < 2) → t.pd.req = none ∧ t.pd.retry = some (r, s.now + msTicks
        100)) ∧
      ((∀ x ∈ t.pd.refusals, x.pos = r.pos → 3 ≤ x.count) → t.pd.req = t.pdChoice r.fallback ∧ ∀ x ∈ t.pd.req, t.pd.sent
        = some (.request x.rdo)) ∧
      t.pd.refusals = countRefusal s.now r.pos s.pd.refusals ∧
      t.regN R.PD_REFCNT = min (s.regN R.PD_REFCNT + 1) 0xFFFF ∧ t.flag F.PD_EVENT_REFUSED ∧
      t.reg R.PD_LIMIT = s.reg R.PD_LIMIT) ∧
  (∀ (s : State) (r : PdReq) (due : Nat), s.pdOn → s.pdMayBegin → s.pd.retry = some (r, due) → due ≤ s.now →
    (s.pdHoldsVolt = false ∨ r.mv = s.pdVolt) → Gives (.pdRequestRetry) s fun t =>
      t.pd.sent = some (.request r.rdo) ∧ t.pd.req = some r ∧ t.pd.retry = none ∧ t.pd.reqAt = s.now) ∧
  (∀ (s : State), s.live → Gives (.pdRefusalExpiry) s fun t =>
      (t.pd.refusals = s.pd.refusals.filter fun r : PdRefusal => !s.elapsed r.until_) ∧ t.pd.contract = s.pd.contract ∧
      t.regs = s.regs ∧ t.lgr = s.lgr) ∧
  (∀ (s : State) (r : PdReq), s.pdOn → s.elapsed s.pd.keepDue → s.pdMayBegin → s.pd.contract = some r →
    Gives (.ppsKeepalive) s fun t =>
      t.pd.sent = some (.request r.rdo) ∧ t.pd.req = some r ∧ t.pd.keepDue = s.timer (secTicks 8) ∧
      t.pd.contract = s.pd.contract) ∧
  (∀ (s : State) (n : Nat) (r : PdReq), s.pdOn → s.pd.capsAt = some n → n + msTicks 12 ≤ s.now →
    s.pdChoice true = some r → Gives (.fallbackRequest) s fun t =>
      t.pd.sent = some (.request r.rdo) ∧ t.pd.req = some r ∧ t.pd.capsAt = none ∧ t.pd.reqAt = s.now) ∧
  (∀ (s : State) (n : Nat), s.pdOn → s.pd.capsAt = some n → n + msTicks 12 ≤ s.now → s.pdChoice true = none →
    Gives (.fallbackRequest) s fun t =>
      t.pd.capsAt = none ∧ t.pd.req = s.pd.req ∧ t.regs = s.regs ∧ t.lgr = s.lgr) ∧
  (∀ (s : State) (on : Bool), s.live → s.boot.core → s.part = .qtl6410 → s.flag F.PD_CTRL_TAKE ≠ on →
    Gives (.take on) s fun t =>
      t.fwOwns = on ∧ t.flag F.PD_CTRL_TAKE = on ∧
      (s.fwOwns ≠ on → t.flag F.PD_EVENT_OWNER_CHG ∧ s.hands t K.PD_OWNER [boolByte on, if on then 0 else 3]) ∧
      (s.fwOwns = on → t.lgr = s.lgr) ∧
      (s.key .firmware = none → s.onlyRegs t [R.PD_STATUS, R.PD_EVENT, R.PD_CTRL, R.LGR_EVENT, R.LGR_COALCNT])) ∧
  (∀ (s : State) (via : Via), s.live → s.part = .qtl6410 → s.reaches via 0 R.PD_CTRL → Gives (.reneg via) s fun t =>
      t.pd.refusals = [] ∧ (s.pdMayBegin → t.pd.sent = some .getSourceCap) ∧
      (s.pdMayBegin = false → PdMsg.getSourceCap ∈ t.pd.held) ∧ t.reg R.PD_CTRL = s.reg R.PD_CTRL ∧ s.onlyRegs t []) ∧
  (∀ (s : State) (via : Via), s.live → s.part = .qtl6410 → s.reaches via 0 R.PD_CTRL → Gives (.getcaps via) s fun t =>
      t.pd.refusals = s.pd.refusals ∧ (s.pdMayBegin → t.pd.sent = some .getSourceCap) ∧
      (s.pdMayBegin = false → PdMsg.getSourceCap ∈ t.pd.held) ∧ s.onlyRegs t [])

/-- The Power Delivery messages that make no contract. Each message has the answer its rule gives it:
Sink_Capabilities, Accept, the revision, Get_Status, BIST, Reject, Not_Supported, the structured vendor-defined
messages; service mode is entered and left, with its lines on SBU1 and SBU2. Inside an exchange it does not belong
to, a message that starts one brings Hard Reset with cause 5, or the partner is taken as non-PD after two in a row;
one that the rule has ignored changes nothing there either. A repeat, and every message in BIST test-data mode, is
discarded; one of Revision 1.0 makes the partner non-PD; where Power Delivery does not run nothing changes. (R343,
R350, R351, R353, R354, R355, R358, R359) -/
def Obligations.PowerMessages : Prop :=
  (∀ (s : State) (h : PdHeader), s.pdHears h → s.pdBusy = false → Gives (.getSinkCapRx h) s fun t =>
      t.pd.sent = some (.sinkCapabilities s.sinkCaps) ∧ t.flag F.PD_STATUS_PARTNER ∧ t.lgr = s.lgr) ∧
  (∀ (s : State) (h : PdHeader), s.pdOn → s.pd.bist ≠ 2 → Gives (.softResetRx h) s fun t =>
      (h.rev = 0 → t.flag F.PD_STATUS_NONPD ∧ t.pd.req = s.pd.req) ∧
      (h.rev ≠ 0 → t.pd.sent = some .accept ∧ t.pd.req = none ∧ t.pd.ask = none ∧ t.flag F.PD_EVENT_SOFTRESET ∧
        t.pd.txId = 1 ∧ t.pd.rxId = some h.id) ∧
      t.reg R.PD_LIMIT = s.reg R.PD_LIMIT ∧ t.path = s.path ∧ t.pd.contract = s.pd.contract) ∧
  (∀ (s : State) (h : PdHeader), s.pdHears h → s.pdBusy = false → Gives (.getRevisionRx h) s fun t =>
      (s.pdRev = 2 → t.pd.sent = some (.revision 0x32100000)) ∧ (s.pdRev ≠ 2 → t.pd.sent = s.pd.sent)) ∧
  (∀ (s : State) (h : PdHeader), s.pdHears h → Gives (.alertRx h) s fun t =>
      (s.pdRev = 2 → s.fwOwns → s.pdBusy = false → t.flag F.PD_EVENT_ALERT_RX) ∧
      (s.pdRev = 2 → s.fwOwns → s.pdMayBegin → t.pd.sent = some .getStatus) ∧
      (s.pdRev = 2 → s.fwOwns → s.pdBusy = false → s.pdMayBegin = false → PdMsg.getStatus ∈ t.pd.held) ∧
      (s.pdRev ≠ 2 ∨ s.fwOwns = false → t.pd.sent = s.pd.sent ∧ t.pd.req = s.pd.req ∧ t.flag F.PD_EVENT_ALERT_RX =
        s.flag F.PD_EVENT_ALERT_RX ∧ t.lgr = s.lgr)) ∧
  (∀ (s : State) (h : PdHeader) (data : List Byte) (n : Nat), s.pdHears h → s.pd.ask = some (.getStatus, n) →
    Gives (.statusMessageRx h data) s fun t =>
      t.pd.status = data ∧ t.pd.ask = none ∧ t.lgr = s.lgr) ∧
  (∀ (s : State) (h : PdHeader) (data : List Byte), s.pdHears h → s.pdBusy = false →
    Gives (.statusMessageRx h data) s fun t =>
      t.pd.status = s.pd.status ∧ t.pd.sent = s.pd.sent ∧ (s.pdRev = 2 → t.pd.chunkDue = s.timer (msTicks 45)) ∧
      (s.pdRev ≠ 2 → t.pd.chunkDue = s.pd.chunkDue) ∧ s.regsKept t [R.PD_STATUS]) ∧
  (∀ (s : State) (h : PdHeader) (mode : Nat), s.pdHears h → (s.pdBusy = false ∨ s.at5V = false ∨ 2 ≤ mode) →
    Gives (.bistRx h mode) s fun t =>
      (s.at5V → mode = 0 → t.pd.bist = 1 ∧ t.pd.bistDue = s.timer (msTicks 45) ∧ t.pins.cc1 = (if s.flag
        F.TC_STATUS_ORIENT then .rd else .carrier) ∧ t.pins.cc2 = (if s.flag F.TC_STATUS_ORIENT then .carrier else .rd))
        ∧
      (s.at5V → mode = 1 → t.pd.bist = 2) ∧ (s.at5V = false ∨ 2 ≤ mode → t.pd.bist = s.pd.bist ∧ t.pd.req = s.pd.req) ∧
      t.pd.sent = s.pd.sent) ∧
  (∀ (s : State) (h : PdHeader), s.pdHears h → s.pdBusy = false → Gives (.swapRequestRx h) s fun t =>
      t.pd.sent = some .reject ∧ t.pd.contract = s.pd.contract) ∧
  (∀ (s : State) (h : PdHeader) (kind svid pos cmd : Nat), s.pdHears h →
    Gives (.unsupportedMessageRx h kind svid pos cmd) s fun t =>
      (s.pdBusy = false → s.pdRev = 2 → kind ∈ [0, 1, 4, 5] → t.pd.sent = some .notSupported) ∧
      (s.pdBusy = false → s.pdRev = 2 → kind = 2 → t.pd.chunkDue = s.timer (msTicks 45)) ∧
      (s.pdBusy = false → s.pdRev ≠ 2 → kind = 0 → t.pd.sent = some .reject) ∧
      (s.pdRev ≠ 2 → kind ∈ [1, 2, 4, 5] → t.pd.sent = s.pd.sent ∧ t.pd.req = s.pd.req ∧ t.lgr = s.lgr) ∧
      (kind = 3 → t.pd.sent = s.pd.sent ∧ t.pd.req = s.pd.req ∧ t.lgr = s.lgr) ∧
      (s.pdBusy = false → 6 ≤ kind → t.pd.sent = some (.vdm [s.vdmHeader svid pos cmd false]))) ∧
  (∀ (s : State) (h : PdHeader), s.pdHears h → s.pdBusy = false → Gives (.discoverIdentity h) s fun t =>
      (s.regN R.PD_VID ≠ 0 → t.pd.sent = some (.vdm (s.vdmHeader 0xFF00 0 1 true :: s.identityObjs))) ∧
      (s.regN R.PD_VID = 0 → t.pd.sent = some (.vdm [s.vdmHeader 0xFF00 0 1 false]))) ∧
  (∀ (s : State) (h : PdHeader), s.pdHears h → s.pdBusy = false → Gives (.discoverSvids h) s fun t =>
      (s.flag F.PD_CFG_SVC_EN → s.regN R.PD_SVID ≠ 0 → t.pd.sent = some (.vdm [s.vdmHeader 0xFF00 0 2 true, s.regN
        R.PD_SVID * 65536])) ∧
      (s.flag F.PD_CFG_SVC_EN = false ∨ s.regN R.PD_SVID = 0 → t.pd.sent = some (.vdm [s.vdmHeader 0xFF00 0 2 false])))
        ∧
  (∀ (s : State) (h : PdHeader) (svid : Nat), s.pdHears h → s.pdBusy = false → Gives (.discoverModes h svid) s fun t =>
      (s.svcOffered svid → t.pd.sent = some (.vdm [s.vdmHeader svid 0 3 true, s.group R.PD_MODEVDO_H 2])) ∧
      (s.svcOffered svid = false → t.pd.sent = some (.vdm [s.vdmHeader svid 0 3 false]))) ∧
  (∀ (s : State) (h : PdHeader) (svid pos : Nat), s.pdHears h → s.pdBusy = false →
    Gives (.enterMode h svid pos) s fun t =>
      (s.svcOffered svid → pos = 1 → t.pd.sent = some (.vdm [s.vdmHeader svid pos 4 true]) ∧ t.flag F.PD_STATUS_SVCMODE)
        ∧
      (s.svcOffered svid → pos = 1 → s.flag F.PD_STATUS_SVCMODE = false → t.flag F.PD_EVENT_SVC_ENTER ∧ s.hands t
        K.PD_SVCMODE [1, 0]) ∧
      (s.svcOffered svid → pos = 1 → s.flag F.PD_STATUS_SVCMODE = false → s.flag F.TC_STATUS_ORIENT = false →
        t.pins.sbu1 = .transmit ∧ t.pins.sbu2 = .receive) ∧
      (s.svcOffered svid = false ∨ pos ≠ 1 → t.pd.sent = some (.vdm [s.vdmHeader svid pos 4 false]) ∧ t.flag
        F.PD_STATUS_SVCMODE = s.flag F.PD_STATUS_SVCMODE ∧ t.lgr = s.lgr)) ∧
  (∀ (s : State) (h : PdHeader) (svid pos : Nat), s.pdHears h → s.pdBusy = false →
    Gives (.exitMode h svid pos) s fun t =>
      (s.svcOffered svid → pos = 1 → t.pd.sent = some (.vdm [s.vdmHeader svid pos 5 true]) ∧ t.flag F.PD_STATUS_SVCMODE
        = false) ∧
      (s.svcOffered svid → pos = 1 → s.flag F.PD_STATUS_SVCMODE → t.flag F.PD_EVENT_SVC_EXIT ∧ (∀ x ∈ t.svc.session,
        x.transport ≠ .uart) ∧ t.pins.sbu1 = .highZ ∧ t.pins.sbu2 = .highZ) ∧
      (s.svcOffered svid = false ∨ pos ≠ 1 → t.pd.sent = some (.vdm [s.vdmHeader svid pos 5 false]) ∧ t.flag
        F.PD_STATUS_SVCMODE = s.flag F.PD_STATUS_SVCMODE ∧ t.lgr = s.lgr)) ∧
  (∀ (s : State) (c : Instr) (h : PdHeader) (n : Nat) (l : List Byte),
    (c ∈ [.getSinkCapRx h, .getRevisionRx h, .swapRequestRx h, .unsupportedMessageRx h 0 n n n, .discoverIdentity h,
      .discoverSvids h, .discoverModes h n, .enterMode h n n, .exitMode h n n] ∨ (s.pdRev = 2 ∧ (c = .unsupportedMessageRx
      h 1 n n n ∨ (c = .alertRx h ∧ s.fwOwns))) ∨ (c = .bistRx h (n % 2) ∧ s.at5V) ∨ (c = .statusMessageRx h l ∧
      s.pd.ask.all fun x => x.1 != .getStatus)) →
    s.pdHears h → s.pdBusy → Gives (c) s fun t =>
      (s.pd.hrRow < 2 → t.pd.sent = some .hardReset ∧ t.pd.contract = none ∧ t.pd.req = none ∧ t.flag
        F.PD_EVENT_HARDRESET ∧ t.path.vref = 5000) ∧
      (s.pd.hrRow < 2 → s.flag F.PD_STATUS_SVCMODE = false → s.hands t K.PD_HARDRESET [0, 5, byte (s.pd.hrCount + 1)]) ∧
      (2 ≤ s.pd.hrRow → t.flag F.PD_STATUS_NONPD ∧ t.pd.contract = s.pd.contract)) ∧
  (∀ (s : State) (c : Instr) (h : PdHeader) (n : Nat) (b : Bool) (l : List Nat) (d : List Byte),
    c ∈ [.sourceCapabilitiesRx h l b, .acceptRx h, .psRdyRx h, .waitRejectRx h, .getSinkCapRx h, .getRevisionRx h,
      .alertRx h, .statusMessageRx h d, .bistRx h n, .swapRequestRx h, .unsupportedMessageRx h n n n n, .discoverIdentity
      h, .discoverSvids h, .discoverModes h n, .enterMode h n n, .exitMode h n n] →
    (¬s.pdHears h) → Gives (c) s fun t =>
      (s.pdOn = false → t = s) ∧ (s.pdOn → h.rev = 0 → t.flag F.PD_STATUS_NONPD ∧ t.pd.contract = s.pd.contract) ∧
      (s.pdOn → h.rev ≠ 0 → t.pd = { s.pd with seen := true } ∧ t.lgr = s.lgr ∧ s.regsKept t [R.PD_STATUS])) ∧
  (∀ (s : State) (via : Via), s.live → s.part = .qtl6410 → s.reaches via 0 R.PD_CTRL → Gives (.exitsvc via) s fun t =>
      (s.flag F.PD_STATUS_SVCMODE = false → s.onlyRegs t [] ∧ t.svc = s.svc ∧ t.lgr = s.lgr) ∧
      t.flag F.PD_STATUS_SVCMODE = false ∧
      (s.flag F.PD_STATUS_SVCMODE → t.flag F.PD_EVENT_SVC_EXIT ∧ ∀ x ∈ t.svc.session, x.transport ≠ .uart) ∧
      s.onlyRegs t [R.PD_STATUS, R.PD_EVENT, R.SVC_STATUS, R.SVC_FWSTAGE, R.SYS_STATE, R.SYS_EVENT, R.LGR_EVENT,
        R.LGR_COALCNT])

/-- The Power Delivery timers and resets. Each timer at its end: Hard Reset with the cause R353 gives, an exchange
given up, a message repeated and after its repeats Soft_Reset, the partner taken as non-PD, the answers held back;
Hard Reset ends contract and service mode with V_REF at 5.0 V and is counted and recorded, and a third in a row
without Source_Capabilities is not sent: the partner is taken as non-PD. The cause byte recorded for a Hard Reset
of the source is a free value: R353 names no cause for it. (R349, R350, R351, R352, R353, R354, R356) -/
def Obligations.PowerTimers : Prop :=
  (∀ (s : State), s.pdOn → Gives (.hardResetRx) s fun t =>
      t.pd.contract = none ∧ t.pd.req = none ∧ t.flag F.PD_STATUS_CONTRACT = false ∧ t.regN R.PD_CONTRACT_V = 0 ∧
      t.path.vref = 5000 ∧ t.regN R.PD_HRCNT = min (s.regN R.PD_HRCNT + 1) 0xFFFF ∧ t.flag F.PD_EVENT_HARDRESET ∧
      t.pd.noRespDue = s.timer (secTicks 5) ∧ t.pd.hrDue = s.timer (msTicks 685) ∧ t.flag F.PD_STATUS_SVCMODE = false ∧
      (∃ v < 256, s.flag F.PD_STATUS_SVCMODE = false → s.hands t K.PD_HARDRESET [1, byte v, byte (s.pd.hrCount + 1)])) ∧
  (∀ (s : State) (r : PdReq), s.pdOn → s.pd.req = some r → s.pd.acceptAt = none → s.pd.reqAt + msTicks 30 ≤ s.now →
    Gives (.pdSenderResponseTimeout) s fun t =>
      (s.pd.hrRow < 2 → t.pd.sent = some .hardReset ∧ t.pd.req = none ∧ t.path.vref = 5000 ∧ t.pd.hrRow = s.pd.hrRow +
        1) ∧
      (s.pd.hrRow < 2 → s.flag F.PD_STATUS_SVCMODE = false → s.hands t K.PD_HARDRESET [0, 2, byte (s.pd.hrCount + 1)]) ∧
      (2 ≤ s.pd.hrRow → t.flag F.PD_STATUS_NONPD ∧ t.pd.sent = s.pd.sent)) ∧
  (∀ (s : State) (m : PdMsg) (n : Nat), s.pdOn → s.pd.req = none → s.pd.ask = some (m, n) → n + msTicks 30 ≤ s.now →
    Gives (.pdSenderResponseTimeout) s fun t =>
      t.pd.ask = none ∧ t.regs = s.regs ∧ t.lgr = s.lgr) ∧
  (∀ (s : State), s.pdOn → s.qualified .vbus → s.pd.capsSeen = false → s.flag F.PD_STATUS_NONPD = false →
    s.capsFrom + msTicks 465 ≤ s.now → Gives (.pdSinkWaitCapTimeout) s fun t =>
      (s.pd.hrRow < 2 → t.pd.sent = some .hardReset ∧ (s.flag F.PD_STATUS_SVCMODE = false → s.hands t K.PD_HARDRESET [0,
        1, byte (s.pd.hrCount + 1)])) ∧
      (2 ≤ s.pd.hrRow → t.flag F.PD_STATUS_NONPD ∧ t.flag F.PD_EVENT_NONPD ∧ s.hands t K.PD_NONPD [byte s.pd.hrRow])) ∧
  (∀ (s : State) (n : Nat), s.pdOn → s.pd.req ≠ none → s.pd.acceptAt = some n → n + msTicks 500 ≤ s.now →
    Gives (.pdPsTransitionTimeout) s fun t =>
      (s.pd.hrRow < 2 → t.pd.sent = some .hardReset ∧ t.pd.contract = none ∧ (s.flag F.PD_STATUS_SVCMODE = false →
        s.hands t K.PD_HARDRESET [0, 3, byte (s.pd.hrCount + 1)])) ∧
      (2 ≤ s.pd.hrRow → t.flag F.PD_STATUS_NONPD ∧ t.pd.sent = s.pd.sent)) ∧
  (∀ (s : State) (m : PdMsg), s.pdOn → s.pd.sentAt + msTicks 1 ≤ s.now → s.pd.sent = some m → m ≠ .hardReset →
    Gives (.pdReceiveTimeout) s fun t =>
      (s.pd.tries < (if s.pdRev = 2 then 2 else 3) → t.pd.tries = s.pd.tries + 1 ∧ t.pd.sent = some m ∧ t.regs = s.regs)
        ∧
      ((if s.pdRev = 2 then 2 else 3) ≤ s.pd.tries → t.regN R.PD_RETRYFAIL = min (s.regN R.PD_RETRYFAIL + 1) 0xFFFF) ∧
      ((if s.pdRev = 2 then 2 else 3) ≤ s.pd.tries → m ≠ .softReset → t.pd.sent = some .softReset ∧ t.pd.req = none) ∧
      ((if s.pdRev = 2 then 2 else 3) ≤ s.pd.tries → m = .softReset → s.pd.hrRow < 2 → t.pd.sent = some .hardReset ∧
        t.pd.contract = none) ∧
      ((if s.pdRev = 2 then 2 else 3) ≤ s.pd.tries → m = .softReset → 2 ≤ s.pd.hrRow → t.flag F.PD_STATUS_NONPD)) ∧
  (∀ (s : State), s.pdOn → s.pd.sentAt + msTicks 1 ≤ s.now → s.pd.sent = some .accept → 3 ≤ s.pd.tries →
    Gives (.pdReceiveTimeout) s fun t =>
      t.pd.sent = some .softReset ∧ t.pd.ask = some (.softReset, s.now) ∧ t.pd.txId = 1) ∧
  (∀ (s : State), s.pdOn → s.elapsed s.pd.noRespDue → s.flag F.PD_STATUS_NONPD = false →
    Gives (.pdNoResponse) s fun t =>
      t.flag F.PD_STATUS_NONPD ∧ t.flag F.PD_EVENT_NONPD ∧ t.pd.noRespDue = none ∧
      s.hands t K.PD_NONPD [byte s.pd.hrRow]) ∧
  (∀ (s : State), s.pdOn → s.elapsed s.pd.hrDue → s.qualified .vbus → Gives (.pdHardResetVbusTimeout) s fun t =>
      t.pd.hrDue = none ∧ (s.pd.contract = none → s.field F.TC_STATUS_ADV = 3 → t.regN R.PD_LIMIT = 300) ∧
      t.lgr = s.lgr) ∧
  (∀ (s : State), s.live → s.elapsed s.pd.collapseDue → Gives (.collapseDetachTimeout) s fun t =>
      t.pd.collapseDue = none ∧ t.pd.contract = none ∧ t.pd.capsSeen = false ∧ t.path.vref = 5000 ∧
      t.flag F.PD_STATUS_CONTRACT = false) ∧
  (∀ (s : State), s.live → s.elapsed s.pd.bistDue → Gives (.bistCarrierEnd) s fun t =>
      t.pd.bist = 0 ∧ t.pd.bistDue = none ∧ t.regs = s.regs) ∧
  (∀ (s : State), s.pdOn → s.elapsed s.pd.chunkDue → Gives (.chunkingNotSupportedExpiry) s fun t =>
      t.pd.sent = some .notSupported ∧ t.pd.chunkDue = none ∧ t.regs = s.regs) ∧
  (∀ (s : State) (m : PdMsg) (l : List PdMsg), s.pdOn → s.pdMayBegin → s.pd.held = m :: l →
    Gives (.tsinktxExpiry) s fun t =>
      t.pd.sent = some m ∧ t.pd.held = l ∧ t.pd.ask = some (m, s.now) ∧ t.regs = s.regs)

/-- The USB device function. Connection and disconnection, bus reset, suspend and resume, and the answer of each
control request while the pull-up is connected; without it nothing happens; a gap in a UART frame changes nothing.
(R363, R364, R365, R366, R367, R368, R369, R339, R372) -/
def Obligations.UsbDevice : Prop :=
  (∀ (s : State), s.live → s.flag F.USB_STATUS_PULLUP = false → s.flag F.USB_STATUS_NOHOST = false → s.usbMay →
    Gives (.usbConnect) s fun t =>
      t.flag F.USB_STATUS_PULLUP ∧ t.usb.pullAt = some s.now ∧ t.usb.cfg = s.reg R.USB_CFG ∧
      t.usb.vid = s.reg R.USB_VID ∧ t.usb.pid = s.reg R.USB_PID ∧ t.lgr = s.lgr) ∧
  (∀ (s : State), s.flag F.USB_STATUS_PULLUP = false →
    (s.live = false ∨ s.flag F.USB_STATUS_NOHOST ∨ s.usbMay = false) → Gives (.usbConnect) s fun t =>
      t = s) ∧
  (∀ (s : State) (c : Instr) (n : Nat) (b : Bool) (o : Option Nat),
    c ∈ [.usbNohost, .usbBusReset b b, .usbSuspend, .usbResume o, .getStatus n n, .getDescriptor n n n n, .setAddress n,
      .setConfiguration n, .getConfiguration, .getInterface, .setInterface, .clearFeature b, .setFeature b,
      .usbStalledRequest, .getInfo, .abort] →
    (s.live = false ∨ s.flag F.USB_STATUS_PULLUP = false) → Gives (c) s fun t =>
      t = s) ∧
  (∀ (s : State), s.live → s.flag F.USB_STATUS_PULLUP → Gives (.usbConnect) s fun t =>
      (s.usbMay → t = s) ∧
      (s.usbMay = false → t.flag F.USB_STATUS_PULLUP = false ∧ t.field F.USB_STATUS_STATE = 0 ∧ t.regN R.USB_ADDR = 0))
        ∧
  (∀ (s : State) (n : Nat), s.live → s.flag F.USB_STATUS_PULLUP → s.usb.pullAt = some n → n + secTicks 1 ≤ s.now →
    Gives (.usbNohost) s fun t =>
      t.flag F.USB_STATUS_NOHOST ∧ t.flag F.USB_STATUS_PULLUP = false ∧ t.usb.pullAt = none) ∧
  (∀ (s : State) (setup chunk : Bool), s.live → s.flag F.USB_STATUS_PULLUP → Gives (.usbBusReset setup chunk) s fun t =>
      t.field F.USB_STATUS_STATE = 1 ∧ t.regN R.USB_ADDR = 0 ∧ t.flag F.USB_EVENT_BUSRESET ∧
      t.regN R.USB_RSTCNT = min (s.regN R.USB_RSTCNT + 1) 0xFFFF ∧ (setup → t.flag F.USB_EVENT_SETUP_ABORT) ∧
      (chunk → t.flag F.USB_EVENT_CHUNK_LOST) ∧ t.usb.haltOut = false ∧ t.usb.haltIn = false ∧ t.svc.usbAns = none ∧
      t.svc.session = s.svc.session ∧ t.svc.chunks = s.svc.chunks) ∧
  (∀ (s : State), s.live → s.flag F.USB_STATUS_PULLUP → s.flag F.USB_STATUS_SUSPENDED = false →
    s.usb.activeAt + msTicks 3 ≤ s.now → Gives (.usbSuspend) s fun t =>
      t.flag F.USB_STATUS_SUSPENDED ∧ t.flag F.USB_EVENT_SUSPEND ∧ t.flag F.USB_STATUS_SOFLOCK = false ∧
      (s.pd.contract = none → s.tcState = 2 → s.field F.TC_STATUS_ADV = 1 → s.field F.TC_STATUS_BC12 ≤ 1 → s.imaged →
        t.regN R.PD_LIMIT = 0 ∧ t.flag F.TC_STATUS_SUSPLIM) ∧
      (s.pd.contract = none → s.tcState = 2 → s.field F.TC_STATUS_ADV = 3 → t.regN R.PD_LIMIT = 300)) ∧
  (∀ (s : State) (sof : Option Nat), s.live → s.flag F.USB_STATUS_PULLUP → Gives (.usbResume sof) s fun t =>
      t.flag F.USB_STATUS_SUSPENDED = false ∧ (s.flag F.USB_STATUS_SUSPENDED → t.flag F.USB_EVENT_RESUME) ∧
      (s.flag F.USB_STATUS_SUSPENDED → s.pd.contract = none → s.tcState = 2 → s.field F.TC_STATUS_ADV = 1 → s.field
        F.TC_STATUS_BC12 ≤ 1 → t.regN R.PD_LIMIT = 50) ∧
      (∀ n ∈ sof, t.regN R.USB_FRAME = n % 2048 ∧ t.flag F.USB_STATUS_SOFLOCK = s.flag F.CLK_CFG_USBLOCK_EN)) ∧
  (∀ (s : State) (recip ep : Nat), s.live → s.flag F.USB_STATUS_PULLUP → Gives (.getStatus recip ep) s fun t =>
      (recip = 0 → t.usb.reply = some [boolByte (bitOf s.usb.cfg 1), 0]) ∧ (recip = 1 → t.usb.reply = some [0, 0]) ∧
      (2 ≤ recip → ep = 0x01 → t.usb.reply = some [boolByte s.usb.haltOut, 0]) ∧
      (2 ≤ recip → ep = 0x81 → t.usb.reply = some [boolByte s.usb.haltIn, 0]) ∧
      (2 ≤ recip → ep ∉ [0, 0x80, 1, 0x81] → t.usb.reply = none)) ∧
  (∀ (s : State) (typ idx lang len : Nat), s.live → s.flag F.USB_STATUS_PULLUP →
    Gives (.getDescriptor typ idx lang len) s fun t =>
      (typ = 1 → idx = 0 → t.usb.reply = some (s.deviceDesc.take len)) ∧
      (typ = 2 → idx = 0 → t.usb.reply = some (s.configDesc.take len)) ∧
      (typ = 3 → idx = 3 → lang = 0x0409 → t.usb.reply = some (uidString.take len)) ∧
      (typ ∉ [1, 2, 3] → t.usb.reply = none) ∧ t.lgr = s.lgr) ∧
  (∀ (s : State) (a : Nat), s.live → s.flag F.USB_STATUS_PULLUP → a < 128 → Gives (.setAddress a) s fun t =>
      t.regN R.USB_ADDR = a ∧ (s.field F.USB_STATUS_STATE ≠ 3 → t.field F.USB_STATUS_STATE = (if a = 0 then 1 else 2)) ∧
      t.usb.reply = some []) ∧
  (∀ (s : State) (n : Nat), s.live → s.flag F.USB_STATUS_PULLUP → Gives (.setConfiguration n) s fun t =>
      (n = 1 → t.field F.USB_STATUS_STATE = 3 ∧ t.flag F.USB_EVENT_CONFIGURED) ∧
      (n = 0 → t.field F.USB_STATUS_STATE = (if s.regN R.USB_ADDR = 0 then 1 else 2)) ∧
      (n ≤ 1 → t.usb.reply = some [] ∧ s.hands t K.USB_CONFIG [byte (s.regN R.USB_ADDR), byte n]) ∧
      (2 ≤ n → t.usb.reply = none ∧ t.lgr = s.lgr ∧ t.field F.USB_STATUS_STATE = s.field F.USB_STATUS_STATE)) ∧
  (∀ (s : State), s.live → s.flag F.USB_STATUS_PULLUP → Gives (.getConfiguration) s fun t =>
      t.usb.reply = some [boolByte (s.field F.USB_STATUS_STATE == 3)] ∧ t.lgr = s.lgr) ∧
  (∀ (s : State), s.live → s.flag F.USB_STATUS_PULLUP → Gives (.getInterface) s fun t =>
      t.usb.reply = some [0] ∧ t.lgr = s.lgr) ∧
  (∀ (s : State), s.live → s.flag F.USB_STATUS_PULLUP → Gives (.setInterface) s fun t =>
      t.usb.reply = some [] ∧ t.usb.haltOut = false ∧ t.usb.haltIn = false) ∧
  (∀ (s : State) (inEp : Bool), s.live → s.flag F.USB_STATUS_PULLUP → Gives (.clearFeature inEp) s fun t =>
      ((if inEp then t.usb.haltIn else t.usb.haltOut) = false) ∧
      ((if inEp then t.usb.haltOut else t.usb.haltIn) = (if inEp then s.usb.haltOut else s.usb.haltIn)) ∧
      t.usb.reply = some []) ∧
  (∀ (s : State) (inEp : Bool), s.live → s.flag F.USB_STATUS_PULLUP → Gives (.setFeature inEp) s fun t =>
      ((if inEp then t.usb.haltIn else t.usb.haltOut) = true) ∧
      ((if inEp then t.usb.haltOut else t.usb.haltIn) = (if inEp then s.usb.haltOut else s.usb.haltIn)) ∧
      t.usb.reply = some []) ∧
  (∀ (s : State), s.live → s.flag F.USB_STATUS_PULLUP → Gives (.usbStalledRequest) s fun t =>
      t.usb.reply = none ∧ t.lgr = s.lgr ∧ t.svc = s.svc) ∧
  (∀ (s : State), s.live → s.flag F.USB_STATUS_PULLUP → Gives (.getInfo) s fun t =>
      t.usb.reply = some s.infoBytes ∧ t.svc = s.svc ∧ t.lgr = s.lgr) ∧
  (∀ (s : State), s.live → s.flag F.USB_STATUS_PULLUP → Gives (.abort) s fun t =>
      t.svc.usbAns = none ∧ t.usb.reply = some [] ∧ t.cmd = s.cmd ∧ t.svc.session = s.svc.session) ∧
  (∀ (s : State), s.live → Gives (.uartFrameGap) s fun t =>
      t = s)

/-- The optical window. A preamble begins a frame, and from STANDBY 10 s of listening; the half-bits of each payload
of 1 to 64 bytes decode to it; accepted and damaged frames and floods are counted, and nothing happens with the
receiver off or settling; after a flood the receiver settles; the answer buffer is read word by word. (R384, R385,
R386, R387, R388) -/
def Obligations.OpticalReceiver : Prop :=
  (∀ p : List Byte, 1 ≤ p.length → p.length ≤ 64 → optPayload (optHalves p) = some p) ∧
  (∀ (s : State) (amb : Nat), s.live → s.flag F.OPT_CFG_EN → s.flag F.OPT_STATUS_SETTLING = false →
    Gives (.optPreambleDetect amb) s fun t =>
      t.flag F.OPT_STATUS_RX ∧ t.regN R.OPT_AMB = min amb 0xFFFF ∧
      (s.optCont = false → t.opt.listenDue = s.timer (secTicks 10)) ∧ (s.optCont → t.opt = s.opt)) ∧
  (∀ (s : State), s.live → s.elapsed s.opt.listenDue → s.optSession = false → Gives (.optListenTimeout) s fun t =>
      t.opt.listenDue = none ∧ t.regs = s.regs ∧ t.lgr = s.lgr) ∧
  (∀ (s : State) (half : List Bool) (p : List Byte), s.live → s.flag F.OPT_CFG_EN → s.optCont →
    s.flag F.OPT_STATUS_SETTLING = false → optPayload half = some p → Gives (.optFrameRx half) s fun t =>
      t.opt.frame = p ∧ t.opt.listenDue = s.timer (secTicks 10) ∧ t.flag F.OPT_STATUS_RX = false ∧
      t.flag F.OPT_EVENT_FRAME_OK ∧ t.regN R.OPT_RXCNT = min (s.regN R.OPT_RXCNT + 1) 0xFFFF ∧ t.lgr = s.lgr) ∧
  (∀ (s : State) (half : List Bool), optPayload half = none → s.live → s.optCont →
    s.flag F.OPT_STATUS_SETTLING = false → Gives (.optFrameError half) s fun t =>
      t.flag F.OPT_STATUS_RX = false ∧ t.flag F.OPT_EVENT_FRAME_ERR ∧
      t.regN R.OPT_ERRCNT = min (s.regN R.OPT_ERRCNT + 1) 0xFFFF ∧ t.opt = s.opt) ∧
  (∀ (s : State) (c : Instr) (half : List Bool) (n : Nat),
    c ∈ [.optPreambleDetect n, .optFrameRx half, .optFrameError half, .optFlood n, .optSettleEnd n] →
    (s.flag F.OPT_CFG_EN = false ∨ s.live = false ∨ (s.optCont = false ∧ c ∈ [.optFrameRx half, .optFrameError half]) ∨
      (s.flag F.OPT_STATUS_SETTLING ∧ c ∈ [.optPreambleDetect n, .optFrameRx half, .optFrameError half]) ∨ (c =
      .optFrameRx half ∧ optPayload half = none) ∨ (c = .optFrameError half ∧ optPayload half ≠ none)) →
    Gives (c) s fun t =>
      t = s) ∧
  (∀ (s : State) (amb : Nat), s.live → s.flag F.OPT_CFG_EN → Gives (.optFlood amb) s fun t =>
      t.flag F.OPT_STATUS_FLOOD ∧ t.flag F.OPT_STATUS_SETTLING ∧ t.flag F.OPT_STATUS_RX = false ∧
      t.opt.floodAt = some s.now ∧ t.flag F.OPT_EVENT_FLOOD ∧
      t.regN R.OPT_FLOODCNT = min (s.regN R.OPT_FLOODCNT + 1) 0xFFFF) ∧
  (∀ (s : State) (amb n : Nat), s.live → s.flag F.OPT_CFG_EN → s.opt.floodAt = some n → n + msTicks 50 ≤ s.now →
    Gives (.optSettleEnd amb) s fun t =>
      t.flag F.OPT_STATUS_FLOOD = false ∧ t.flag F.OPT_STATUS_SETTLING = false ∧ t.opt.floodAt = none ∧ t.lgr = s.lgr) ∧
  (∀ (s : State) (via : Via) (n : Nat), s.live → s.reaches via 0 R.OPT_ANSDATA →
    Gives (.optAnsdataRead via n) s fun t =>
      (t.ra.readData = (List.range (via.count n)).map fun i => wordAt s.opt.buf (s.opt.pos + 2 * i)) ∧
      t.opt.pos = s.opt.pos + 2 * via.count n ∧
      (s.opt.buf.length ≤ s.opt.pos + 2 * via.count n → 1 ≤ via.count n → t.flag F.OPT_STATUS_ANSPEND = false) ∧
      t.opt.buf = s.opt.buf ∧ s.onlyRegs t [R.OPT_STATUS])

/-- Port H beside the register accesses. A wake is served or refused as R398 says, AWAKE expires; a clock held low
and SDA held low count as timeouts; a write under packet error checking takes effect only with the right PEC byte
(any enable register, one word); a push falls due where pushes are enabled and none is pending, is sent with its
bytes under a new number, or its own when it is a retry, is dropped with nothing left to tell, done, retried three
times and then failed, or lost to another controller. (R398, R403, R404, R405, R406, R407, R408, R409) -/
def Obligations.PortH : Prop :=
  (∀ (s : State) (addr : Nat), s.portHOn → s.pointerKind addr ≠ none → s.sysRuns = false →
    Gives (.twbAddressWake addr) s fun t =>
      t.flag F.TWB_STATUS_AWAKE ∧ t.ra.nack = !s.stretches ∧
      (s.stretches = false → t.flag F.TWB_EVENT_WAKE_REFUSE ∧ t.regN R.TWB_REFCNT = min (s.regN R.TWB_REFCNT + 1)
        0xFFFF) ∧
      t.lgr = s.lgr ∧ s.onlyRegs t [R.TWB_STATUS, R.TWB_EVENT, R.TWB_REFCNT, R.SYS_EVENT, R.SYS_KEYERRCNT]) ∧
  (∀ (s : State), s.live → s.elapsed s.twb.awakeDue → Gives (.twbAwakeExpiry) s fun t =>
      t.flag F.TWB_STATUS_AWAKE = false ∧ t.twb.awakeDue = none ∧ s.regsKept t [R.TWB_STATUS] ∧ t.lgr = s.lgr) ∧
  (∀ (s : State) (ticks : Nat), s.portHOn → 983 ≤ ticks → (bitOf s.twb.cfg 1 ∨ bitOf s.twb.cfg 6) →
    Gives (.twbClockLowTimeout ticks) s fun t =>
      t.flag F.TWB_EVENT_TIMEOUT ∧ t.regN R.TWB_TOCNT = min (s.regN R.TWB_TOCNT + 1) 0xFFFF ∧ t.twb.sending = none ∧
      (s.twb.sending ≠ none → s.field F.TWB_PUSH_RETRIES < 3 → t.field F.TWB_PUSH_RETRIES = s.field F.TWB_PUSH_RETRIES +
        1 ∧ t.twb.pushDue = some s.now)) ∧
  (∀ (s : State) (ticks : Nat), s.portHOn → 1147 ≤ ticks → Gives (.twbSdaRelease ticks) s fun t =>
      t.flag F.TWB_EVENT_SDA_RELEASE ∧ t.regN R.TWB_TOCNT = min (s.regN R.TWB_TOCNT + 1) 0xFFFF ∧ t.twb = s.twb) ∧
  (∀ (s : State) (addr ptr : Nat) (data : List Word) (pec : Byte), s.portHOn → s.sysRuns →
    s.pointerKind addr = some false → s.pecOn → s.pecWords = 1 → ptr ∈ irqEnables → data.length = 1 →
    s.key .portH = none → s.permits (.portH addr) ptr (data.headD 0) → Gives (.twbPecWrite addr ptr data pec) s fun t =>
      (pec.toNat = crc8 (byte (2 * addr) :: beBytes 2 ptr ++ wordBytes data) → t.reg ptr = data.headD 0 ∧ t.ra.nack =
        false ∧ s.onlyRegs t [ptr]) ∧
      (pec.toNat ≠ crc8 (byte (2 * addr) :: beBytes 2 ptr ++ wordBytes data) → t.reg ptr = s.reg ptr ∧ t.ra.nack ∧
        t.flag F.TWB_EVENT_PEC_ERR ∧ t.regN R.TWB_PECCNT = min (s.regN R.TWB_PECCNT + 1) 0xFFFF)) ∧
  (∀ (s : State), s.live → Gives (.twbPushDue) s fun t =>
      t.twb.summary = s.intsum ∧
      (s.boot.applied → s.flag F.TWB_CTL_CFG_EN → s.twb.pushDue = none → s.intsum &&& ~~~s.twb.summary ≠ 0 →
        t.twb.pushDue = some s.now ∧ t.twb.numbered = false ∧ t.field F.TWB_PUSH_RETRIES = 0 ∧ s.regsKept t
        [R.TWB_PUSH]) ∧
      (s.intsum &&& ~~~s.twb.summary = 0 ∨ s.flag F.TWB_CTL_CFG_EN = false ∨ s.boot.applied = false ∨ s.twb.pushDue ≠
        none → t.twb.pushDue = s.twb.pushDue ∧ t.twb.sending = s.twb.sending ∧ t.regs = s.regs) ∧
      t.lgr = s.lgr) ∧
  (∀ (s : State) (freed : Option Bool), s.portHOn → s.boot.applied → s.twb.pushDue ≠ none → s.twb.sending = none →
    s.gapPassed → s.twb.retryAt ≤ s.now → s.intsum ≠ 0 → freed ≠ some false → Gives (.twbPushStart freed) s fun t =>
      (freed = none → t.twb.sending = some (t.pushBytes)) ∧ t.twb.numbered ∧
      (t.field F.TWB_PUSH_SEQ = (if s.twb.numbered then s.field F.TWB_PUSH_SEQ else (s.field F.TWB_PUSH_SEQ + 1) % 256))
        ∧
      t.field F.TWB_PUSH_RETRIES = s.field F.TWB_PUSH_RETRIES ∧ t.twb.pushAt = some s.now ∧
      t.flag F.TWB_STATUS_BUSFAULT_H = false ∧
      (freed = some true → t.flag F.TWB_EVENT_RECOVER ∧ t.regN R.TWB_RECCNT = min (s.regN R.TWB_RECCNT + 1) 0xFFFF ∧
        t.twb.sending ≠ none)) ∧
  (∀ (s : State) (freed : Option Bool), s.portHOn → s.boot.applied → s.twb.pushDue ≠ none → s.twb.sending = none →
    s.gapPassed → s.twb.retryAt ≤ s.now → s.intsum ≠ 0 → freed = some false → Gives (.twbPushStart freed) s fun t =>
      t.flag F.TWB_STATUS_BUSFAULT_H ∧ t.twb.sending = none ∧ t.twb.pushAt = s.twb.pushAt ∧
      t.field F.TWB_PUSH_SEQ = s.field F.TWB_PUSH_SEQ ∧
      (s.field F.TWB_PUSH_RETRIES < 3 → t.field F.TWB_PUSH_RETRIES = s.field F.TWB_PUSH_RETRIES + 1 ∧ t.twb.pushDue =
        some s.now ∧ t.twb.retryAt = s.now + s.pushGap) ∧
      (s.field F.TWB_PUSH_RETRIES = 3 → t.twb.pushDue = none ∧ t.flag F.TWB_EVENT_PUSH_FAIL ∧ t.regN R.TWB_PUSHFAIL =
        min (s.regN R.TWB_PUSHFAIL + 1) 0xFFFF)) ∧
  (∀ (s : State) (freed : Option Bool), s.portHOn → s.boot.applied → s.twb.pushDue ≠ none → s.twb.sending = none →
    s.gapPassed → s.twb.retryAt ≤ s.now → s.intsum = 0 → Gives (.twbPushStart freed) s fun t =>
      t.twb.pushDue = none ∧ t.regs = s.regs ∧ t.lgr = s.lgr) ∧
  (∀ (s : State), s.twb.sending ≠ none → Gives (.twbPushDone) s fun t =>
      t.twb.sending = none ∧ t.twb.pushDue = none ∧ t.flag F.TWB_EVENT_PUSH_DONE ∧ s.regsKept t [R.TWB_EVENT]) ∧
  (∀ (s : State), (s.twb.sending ≠ none ∨ s.elapsed (s.twb.pushDue.map fun d => d + secTicks 1)) →
    s.field F.TWB_PUSH_RETRIES < 3 → Gives (.twbPushFail) s fun t =>
      t.twb.sending = none ∧ t.twb.pushDue = some s.now ∧ t.twb.retryAt = s.now + s.pushGap ∧
      t.field F.TWB_PUSH_RETRIES = s.field F.TWB_PUSH_RETRIES + 1 ∧ t.regN R.TWB_PUSHFAIL = s.regN R.TWB_PUSHFAIL) ∧
  (∀ (s : State), (s.twb.sending ≠ none ∨ s.elapsed (s.twb.pushDue.map fun d => d + secTicks 1)) →
    s.field F.TWB_PUSH_RETRIES = 3 → Gives (.twbPushFail) s fun t =>
      t.twb.sending = none ∧ t.twb.pushDue = none ∧ t.flag F.TWB_EVENT_PUSH_FAIL ∧
      t.regN R.TWB_PUSHFAIL = min (s.regN R.TWB_PUSHFAIL + 1) 0xFFFF) ∧
  (∀ (s : State), s.twb.sending ≠ none → Gives (.twbArbLost) s fun t =>
      t.twb.sending = none ∧ t.twb.pushDue = s.twb.pushDue ∧ t.twb.pushAt = none ∧
      t.field F.TWB_PUSH_RETRIES = s.field F.TWB_PUSH_RETRIES ∧ t.flag F.TWB_EVENT_ARB_LOST ∧
      t.regN R.TWB_ARBCNT = min (s.regN R.TWB_ARBCNT + 1) 0xFFFF)

/-- Register accesses over either path. A permitted write of a plain register, or through an alias, gives it the
value, and of a configuration-class register clears DENIED and starts the pending change; words written in turn go
to the addresses that follow; a read of an event register returns it and clears what was read, of any other
register it returns what is shown and changes nothing; PAGESEL; a refused value sets BADWRITE. Configuration:
outside a host window the nearer bound is written, and a write under lock, or by the host with no window, sets
DENIED and changes nothing. Keys are armed and expire, group holds end after 1 ms, and an always-on write reaches
its domain. (R89, R90, R396, R397, R417, R420, R422, R423, R424, R427, R428) -/
def Obligations.RegisterAccess : Prop :=
  (∀ (s : State) (via : Via) (ptr : Nat) (data : List Word) (half : Option Byte), s.live → ptr < 16384 →
    s.reaches via 0 ptr → s.plain via ptr → data.length = 1 → s.permits via ptr (data.headD 0) →
    Gives (.registerWrite via ptr data half) s fun t =>
      t.reg ptr = data.headD 0 ∧
      (∀ r ∈ s.info ptr, r.cfg → t.flag F.CFG_STATUS_DENIED = false ∧ (s.ra.refSet → cfgChange r (s.shown false ptr)
        (data.headD 0) ≠ 0 → t.flag F.CFG_STATUS_PEND ∧ ptr ∈ t.ra.written)) ∧
      (ptr ∈ irqEnables → s.onlyRegs t [ptr, R.TWB_EVENT] ∧ t.lgr = s.lgr) ∧
      (via ≠ .firmware → half ≠ none → t.flag F.TWB_EVENT_PARTIAL) ∧ (via ≠ .firmware → t.ra.nack = false)) ∧
  (∀ (s : State) (via : Via) (ptr : Nat) (data : List Word) (half : Option Byte), s.live → s.reaches via 0 ptr →
    ptr = R.LGR_HBUF0 → data.length ≤ 6 → Gives (.registerWrite via ptr data half) s fun t =>
      (∀ i < data.length, t.reg (R.LGR_HBUF0 + i) = data.getD i 0) ∧
      (s.onlyRegs t ([R.TWB_EVENT] ++ (List.range data.length).map fun i => R.LGR_HBUF0 + i))) ∧
  (∀ (s : State) (via : Via) (ptr : Nat) (data : List Word) (half : Option Byte), s.live → ptr < 16384 →
    s.reaches via 0 ptr → s.plain via ptr → data.length = 1 →
    (∃ r ∈ s.info ptr, r.cfg = false ∧ s.legal r (s.kept ptr (data.headD 0)) = false) →
    Gives (.registerWrite via ptr data half) s fun t =>
      t.flag F.SYS_EVENT_BADWRITE ∧ (ptr ≠ R.SYS_EVENT → t.reg ptr = s.reg ptr) ∧ t.lgr = s.lgr) ∧
  (∀ (s : State) (via : Via) (a : Nat) (v : Word), s.live → a < 16384 → s.reaches via 1 a → s.plain via a →
    (s.permits via a (s.shown false a ||| v)) → a ≠ R.SRC_EN → Gives (.setAliasWrite via a v) s fun t =>
      (t.reg a = s.shown false a ||| v) ∧ (a ∈ irqEnables → t.lgr = s.lgr ∧ s.onlyRegs t [a])) ∧
  (∀ (s : State) (via : Via) (a : Nat) (v : Word), s.live → a < 16384 → s.reaches via 2 a → s.plain via a →
    (s.permits via a (s.shown false a &&& ~~~v)) → a ≠ R.SRC_EN → Gives (.clearAliasWrite via a v) s fun t =>
      (t.reg a = s.shown false a &&& ~~~v) ∧ (a ∈ irqEnables → t.lgr = s.lgr ∧ s.onlyRegs t [a])) ∧
  (∀ (s : State) (via : Via) (a : Nat) (v : Word), s.live → a < 16384 → s.reaches via 3 a → s.plain via a →
    s.permits via a (s.shown false a ^^^ v) → a ≠ R.SRC_EN → Gives (.toggleAliasWrite via a v) s fun t =>
      t.reg a = s.shown false a ^^^ v ∧ (a ∈ irqEnables → t.lgr = s.lgr ∧ s.onlyRegs t [a])) ∧
  (∀ (s : State) (via : Via) (ptr : Option Nat) (n : Nat) (late : Word) (a : Nat), s.live → ptr = some a →
    (a ∈ (List.range 16).flatMap fun k => (irqPairs k).map (·.1)) → s.reaches via 0 a → s.info a ≠ none → n = 1 →
    Gives (.rcRegisterRead via ptr n late) s fun t =>
      t.ra.readData = [s.reg a] ∧ (t.reg a &&& ~~~late = 0) ∧ t.lgr = s.lgr ∧ s.onlyRegs t [a]) ∧
  (∀ (s : State) (via : Via) (ptr : Nat) (data : List Word) (half : Option Byte), s.live → ptr < 16384 →
    s.reaches via 0 ptr → data.length = 1 →
    (∃ r ∈ s.info ptr, r.access = .rw ∧ r.cfg ∧ ((s.shown false ptr ^^^ data.headD 0) &&& ~~~(freeBits ptr) &&&
      ~~~(BitVec.ofNat 16 r.reserved)) ≠ 0) →
    (s.locked ∨ (via.req ≠ .firmware ∧ s.ra.hostLims = [] ∧ freeBits ptr = 0)) →
    Gives (.registerWrite via ptr data half) s fun t =>
      t.flag F.CFG_STATUS_DENIED ∧ t.reg ptr = s.reg ptr ∧
      (s.flag F.CFG_STATUS_DENIED = false → t.flag F.CFG_EVENT_DENIED) ∧ t.lgr.waiting = s.lgr.waiting ∧
      t.pins = s.pins ∧ (via.req = .portH → t.ra.nack = false)) ∧
  (∀ (s : State) (via : Via) (ptr : Nat) (data : List Word) (half : Option Byte) (least most : Nat), s.live →
    ptr ∈ [R.SRC_RANK, R.SRC_VIN_ILIM, R.PATH_VSYSMIN, R.CHG_BAL_TSTBY, R.CONV_MAIN_IPK, R.MKT_TENTMAX, R.ALM_TDISC,
      R.ALM_TDISC2, R.VDT_DOSE] →
    s.reaches via 0 ptr → data.length = 1 → s.locked = false → via.req = .portH →
    s.ra.hostLims = [⟨ptr, 0xFFFF, BitVec.ofNat 16 least, BitVec.ofNat 16 most⟩] → least ≤ most → most < 65536 →
    (∃ r ∈ s.info ptr, s.legal r (data.headD 0) ∧ s.legal r (BitVec.ofNat 16 least) ∧ s.legal r (BitVec.ofNat 16 most)) →
    Gives (.registerWrite via ptr data half) s fun t =>
      t.reg ptr = BitVec.ofNat 16 (max least (min most (data.headD 0).toNat)) ∧ t.flag F.CFG_STATUS_DENIED = false ∧
      t.lgr = s.lgr) ∧
  (∀ (s : State) (via : Via) (ptr : Option Nat) (n : Nat) (late : Word) (a : Nat), s.live → ptr = some a → a < 16384 →
    s.reaches via 0 a → groupOf a = none → a ∉ windowRegs → (∃ r ∈ s.info a, r.access = .ro ∨ r.access = .rw) → n = 1 →
    Gives (.rcRegisterRead via ptr n late) s fun t =>
      t.ra.readData = [s.shown (via != .firmware) a] ∧ t.lgr = s.lgr ∧ s.onlyRegs t []) ∧
  (∀ (s : State) (via : Via) (v : Word), s.live → s.reaches via 0 R.PAGESEL → v.toNat ≤ 0x11 →
    Gives (.pageselWrite via v) s fun t =>
      t.reg R.PAGESEL = v ∧ t.lgr = s.lgr ∧ s.onlyRegs t [R.PAGESEL]) ∧
  (∀ (s : State) (via : Via) (a : Nat) (v : Word), s.live → a ∈ keyedRegs → s.reaches via 0 a →
    Gives (.keyArm via a v) s fun t =>
      t.key via.req = some ⟨via.req, a, v, s.now⟩ ∧ t.lgr = s.lgr ∧ s.onlyRegs t []) ∧
  (∀ (s : State), s.live → (s.ra.keys.map ArmedKey.req).Nodup → Gives (.keyTimeout) s fun t =>
      (∀ k ∈ s.ra.keys, k ∈ t.ra.keys ↔ s.keyLate k = false) ∧
      ((∃ k ∈ s.ra.keys, s.keyLate k) → t.flag F.SYS_EVENT_KEYERR) ∧
      t.regN R.SYS_KEYERRCNT = min (s.regN R.SYS_KEYERRCNT + (s.ra.keys.filter s.keyLate).length) 0xFFFF ∧
      s.regsKept t [R.SYS_EVENT, R.SYS_KEYERRCNT] ∧ t.lgr = s.lgr) ∧
  (∀ (s : State), s.live → Gives (.groupWriteHoldTimeout) s fun t =>
      (∀ h ∈ s.ra.holds, h ∈ t.ra.holds ↔ s.now ≤ h.tick + 33) ∧ t.regs = s.regs) ∧
  (∀ (s : State) (w : AonShadow), s.live → s.ra.aonWrite = some w → w.due ≤ s.now → Gives (.aonWriteApply) s fun t =>
      t.ra.aonWrite = none ∧
      (w.addr = R.CLK_HWDCFG → s.flag F.CLK_HWDCFG_EN → bitOf w.old 0 = false → t.clk.hwdFrom = s.now) ∧
      (w.addr = R.CLK_HWDCFG → t.reg R.CLK_HWDCFG = s.reg R.CLK_HWDCFG) ∧
      (w.addr = R.CLK_TIMESET0 → s.timeValid = false → t.clk.time = s.group R.CLK_TIMESET2 3 ∧ t.timeValid ∧ t.tsrc = 1)
        ∧
      (w.addr ∈ [R.CLK_CFG, R.CLK_IRQEN, R.CLK_TZ] → t.reg w.addr = s.reg w.addr))

/-- Registers of the power path, the charger and the ports. HUSH, the source enables and ranks, VAUX, the charger's
acting bits, the Weighbridge's read window, the notes, PROOFREQ, the Tether's and the market's acting bits. A
command register acts at once where the firmware writes it, and over Port H where its command is accepted as it
arrives; a lost value of an enable opens the switch with a ramp of 1 ms. (R49, R130, R146, R164, R169, R287, R391,
R453) -/
def Obligations.PowerRegisters : Prop :=
  (∀ (s : State) (via : Via), s.live → s.reaches via 0 R.ALM_CTRL → Gives (.almCtrlHush via) s fun t =>
      t.flag F.ALM_EVENT_HUSH_IN ∧ (s.flag F.SYS_STATE_ALARM → t.flag F.ALM_STATUS_HUSHED) ∧
      (s.flag F.SYS_STATE_ALARM = false → t.lgr = s.lgr ∧ t.alm = s.alm)) ∧
  (∀ (s : State) (via : Via) (v : Word), s.live → s.reaches via 0 R.SRC_EN → s.permits via R.SRC_EN v →
    Gives (.srcEnWrite via v) s fun t =>
      t.reg R.SRC_EN = v ∧
      (∀ x ∈ s.path.closed, t.enabled x = false → s.path.rampDue = none → t.path.rampDue = s.timer (msTicks 1))) ∧
  (∀ (s : State) (via : Via) (v : Word), s.live → s.reaches via 0 R.SRC_RANK → s.permits via R.SRC_RANK v →
    Gives (.srcRankWrite via v) s fun t =>
      t.reg R.SRC_RANK = v ∧ t.reg R.SRC_EN = s.reg R.SRC_EN) ∧
  (∀ (s : State) (via : Via) (v : Word), s.live → s.reaches via 0 R.CONV_AUX → s.permits via R.CONV_AUX v →
    Gives (.convAuxWrite via v) s fun t =>
      t.reg R.CONV_AUX = v ∧
      (v.toNat ≠ s.storedVaux → t.pins.nrsto = false ∧ (s.flag F.LGR_STATUS_BANKA_BAD = false → s.flag
        F.LGR_STATUS_BANKB_BAD = false → t.storedVaux = v.toNat)) ∧
      (v.toNat = s.storedVaux → t.pins = s.pins) ∧ s.onlyRegs t [R.CONV_AUX, R.CFG_STATUS]) ∧
  (∀ (s : State) (via : Via), s.live → s.reaches via 0 R.CHG_CTRL → s.actsNow via R.CHG_CTRL 1 →
    Gives (.chgClrfault via) s fun t =>
      (s.chg.fault = 1 ∨ s.chg.fault = 2 ∨ s.chg.fault = 3 ∨ (s.chg.fault = 4 ∧ s.chg.bat < s.series * (s.regN
        R.CHG_VREG * 10)) → t.chg.fault = 0 ∧ t.phaseN ≠ phFault) ∧
      ((s.chg.fault = 4 ∧ s.series * (s.regN R.CHG_VREG * 10) ≤ s.chg.bat) ∨ 5 ≤ s.chg.fault → t.chg = s.chg ∧ t.reg
        R.CHG_STATUS = s.reg R.CHG_STATUS)) ∧
  (∀ (s : State) (via : Via), s.live → s.reaches via 0 R.CHG_CTRL → s.actsNow via R.CHG_CTRL 2 →
    Gives (.chgFullRequest via) s fun t =>
      t.flag F.CHG_STATUS_FULLREQ ∧ (via = .firmware → t.lgr = s.lgr) ∧
      (via = .firmware → s.onlyRegs t [R.CHG_STATUS, R.CONV_TET_CTRL])) ∧
  (∀ (s : State) (via : Via) (v : Word), s.live → s.reaches via 0 R.WB_RDSEL → s.permits via R.WB_RDSEL v →
    Gives (.wbRdselWrite via v) s fun t =>
      t.wb.rdBuf = (s.wbLatest v.toNat).getD [] ∧ t.wb.rdPos = 0 ∧
      t.regN R.WB_RDLEN = ((s.wbLatest v.toNat).getD []).length % 65536 ∧ t.reg R.WB_RDSEL = v ∧
      s.onlyRegs t [R.WB_RDSEL, R.WB_RDLEN]) ∧
  (∀ (s : State) (via : Via) (n : Nat), s.live → s.reaches via 0 R.WB_RDDATA → Gives (.wbRddataRead via n) s fun t =>
      (t.ra.readData = (List.range (via.count n)).map fun i => wordAt s.wb.rdBuf (s.wb.rdPos + 2 * i)) ∧
      t.wb.rdPos = s.wb.rdPos + 2 * via.count n ∧ s.onlyRegs t []) ∧
  (∀ (s : State) (via : Via) (n : Nat), s.live → s.reaches via 0 R.VDT_NOTE → Gives (.vdtNoteRead via n) s fun t =>
      t.ra.readData.length = via.count n ∧ (1 ≤ via.count n → t.ra.readData.headD 0 = s.noteHead) ∧
      (s.vdt.waiting = [] → t.vdt.fifo = s.vdt.fifo.drop (via.count n)) ∧
      (via.count n = 1 → s.vdt.fifo ≠ [] → t.vdt.waiting = s.vdt.waiting.drop 1) ∧ s.onlyRegs t [R.VDT_EVENT]) ∧
  (∀ (s : State) (via : Via), s.live → s.reaches via 0 R.VDT_CTRL → s.actsNow via R.VDT_CTRL 1 →
    Gives (.proofreq via) s fun t =>
      t.vdt.requested ∧ (via = .firmware → t.regs = s.regs) ∧ (via = .firmware → t.lgr = s.lgr)) ∧
  (∀ (s : State) (via : Via), s.live → s.reaches via 0 R.TET_CTRL → s.actsNow via R.TET_CTRL 1 →
    Gives (.census via) s fun t =>
      ((∀ d ∈ s.link.censusAt, d + secTicks 60 ≤ s.now) → s.framesMode → s.link.txOn → s.txRoom → ∀ a ∈ s.ownAddr,
        t.link.txq = s.link.txq ++ [⟨⟨6, a, 2, []⟩, 0, s.now⟩] ∧ t.link.censusAt = some s.now) ∧
      ((∃ d ∈ s.link.censusAt, s.now < d + secTicks 60) ∨ s.framesMode = false ∨ s.link.txOn = false ∨ s.txRoom = false
        ∨ s.ownAddr = none → t.link.txq = s.link.txq ∧ t.link.censusAt = s.link.censusAt) ∧
      (s.txRoom = false → s.link.censusAt = none → s.framesMode → s.link.txOn → s.ownAddr ≠ none → t.flag
        F.TET_EVENT_TX_FULL) ∧
      (via = .firmware → s.onlyRegs t [R.TET_EVENT])) ∧
  (∀ (s : State) (via : Via), s.live → s.reaches via 0 R.TET_CTRL → s.actsNow via R.TET_CTRL 2 →
    Gives (.linktest via) s fun t =>
      (s.framesMode → s.link.txOn → s.txRoom → ∀ a ∈ s.ownAddr, t.link.txq = s.link.txq ++ [⟨⟨7, a, 0, []⟩, 0, s.now⟩])
        ∧
      (s.framesMode = false ∨ s.link.txOn = false ∨ s.txRoom = false ∨ s.ownAddr = none → t.link.txq = s.link.txq) ∧
      (via = .firmware → s.onlyRegs t [R.TET_EVENT])) ∧
  (∀ (s : State) (via : Via), s.live → s.reaches via 0 R.TET_CTRL → s.actsNow via R.TET_CTRL 4 →
    Gives (.readdr via) s fun t =>
      (s.autoAddr → t.ownAddr = none ∧ t.flag F.TET_ADDR_HELD = false ∧ t.flag F.TET_STATUS_LISTENWIN ∧ t.link.listenDue
        = s.timer (secTicks 35) ∧ t.link.cand = none) ∧
      (s.autoAddr = false → t.ownAddr = s.ownAddr ∧ t.link.listenDue = s.link.listenDue)) ∧
  (∀ (s : State) (via : Via) (v : Word), s.live → s.reaches via 0 R.MKT_CFG → s.permits via R.MKT_CFG v →
    Gives (.mktCfgWrite via v) s fun t =>
      t.reg R.MKT_CFG = v ∧ (s.reg R.MKT_CFG &&& ~~~v &&& 7 ≠ 0 → t.mkt.cfgDue = s.timer (secTicks 1)) ∧
      (s.reg R.MKT_CFG &&& ~~~v &&& 7 = 0 → t.mkt = s.mkt) ∧ s.onlyRegs t [R.MKT_CFG, R.CFG_STATUS]) ∧
  (∀ (s : State) (via : Via) (v : Word), s.live → s.reaches via 0 R.MKT_STALLSEL → v.toNat < 64 →
    (s.stall v.toNat).length = 64 → Gives (.mktStallselWrite via v) s fun t =>
      t.reg R.MKT_STALLSEL = v ∧ t.flag F.MKT_CACHE_WINRDY ∧
      (∀ k ∈ List.range 32, t.regN (R.MKT_STALLW0 + k) = natAt (s.stall v.toNat) (2 * k) 2) ∧
      s.onlyRegs t ([R.MKT_STALLSEL, R.MKT_CACHE] ++ (List.range 32).map (R.MKT_STALLW0 + ·))) ∧
  (∀ (s : State) (via : Via) (v : Word), s.live → s.reaches via 0 R.MKT_STALLTAG → s.actsNow via R.MKT_STALLTAG v →
    (s.stall (s.regN R.MKT_STALLSEL)).length = 64 → Gives (.mktStalltagWrite via v) s fun t =>
      natAt (t.stall (s.regN R.MKT_STALLSEL)) 56 2 = v.toNat ∧ t.reg R.MKT_STALLSEL = s.reg R.MKT_STALLSEL ∧
      (via = .firmware → s.onlyRegs t [])) ∧
  (∀ (s : State) (via : Via), s.live → s.reaches via 0 R.MKT_CTRL → s.actsNow via R.MKT_CTRL 1 →
    (s.stall (s.regN R.MKT_STALLSEL)).length = 64 → Gives (.clrcnt via) s fun t =>
      ((t.stall (s.regN R.MKT_STALLSEL)).drop 42).take 10 = List.replicate 10 0 ∧ (via = .firmware → s.onlyRegs t []))

/-- Commands that come as Port H writes. Each of these rows, written over Port H, becomes a lasting command: while it
cannot be accepted it waits in the queue; with eight waiting its byte is NACKed, or the write is held for 2 ms
where Port H stretches; accepted as it arrives, its acceptance takes the next sequence and its byte is ACKed.
(R319, R321, R325, R331, R397) -/
def Obligations.HostCommands : Prop :=
  (∀ (s : State) (c : Instr) (addr a : Nat) (v : Word),
    (c, a, v) ∈ [(Instr.chgClrfault (.portH addr), R.CHG_CTRL, (1 : Word)), (Instr.chgFullRequest (.portH addr),
      R.CHG_CTRL, 2), (Instr.proofreq (.portH addr), R.VDT_CTRL, 1), (Instr.census (.portH addr), R.TET_CTRL, 1),
      (Instr.linktest (.portH addr), R.TET_CTRL, 2), (Instr.readdr (.portH addr), R.TET_CTRL, 4), (Instr.clrcnt (.portH
      addr), R.MKT_CTRL, 1), (Instr.flush (.portH addr), R.LGR_CTRL, 1), (Instr.mktStalltagWrite (.portH addr) v,
      R.MKT_STALLTAG, v)] →
    s.live → s.reaches (.portH addr) 0 a → s.waits ⟨srcPortH, a, 0, beBytes 2 v.toNat, true⟩ → Gives (c) s fun t =>
      (s.cmd.queue.length < 8 → t.cmd.queue = s.cmd.queue ++ [⟨srcPortH, a, 0, beBytes 2 v.toNat, true⟩] ∧ t.ra.nack =
        false) ∧
      (8 ≤ s.cmd.queue.length → s.stretches = false → t.cmd.queue = s.cmd.queue ∧ t.ra.nack ∧ t.flag
        F.TWB_EVENT_BUSY_NACK) ∧
      (8 ≤ s.cmd.queue.length → s.stretches → t.cmd.queue = s.cmd.queue ∧ t.twb.held.map (fun h => (h.reg, h.value,
        h.due)) = some (a, v, s.now + msTicks 2)) ∧
      (s.cmd.queue.length < 8 → t.lgr = s.lgr)) ∧
  (∀ (s : State) (c : Instr) (addr a : Nat) (v : Word),
    (c, a, v) ∈ [(Instr.chgClrfault (.portH addr), R.CHG_CTRL, (1 : Word)), (Instr.chgFullRequest (.portH addr),
      R.CHG_CTRL, 2), (Instr.proofreq (.portH addr), R.VDT_CTRL, 1), (Instr.census (.portH addr), R.TET_CTRL, 1),
      (Instr.linktest (.portH addr), R.TET_CTRL, 2), (Instr.readdr (.portH addr), R.TET_CTRL, 4), (Instr.clrcnt (.portH
      addr), R.MKT_CTRL, 1), (Instr.flush (.portH addr), R.LGR_CTRL, 1), (Instr.mktStalltagWrite (.portH addr) v,
      R.MKT_STALLTAG, v)] →
    s.live → s.reaches (.portH addr) 0 a → s.takes ⟨srcPortH, a, 0, beBytes 2 v.toNat, true⟩ → Gives (c) s fun t =>
      (s.ledgerDead = false → t.lgr.nextSeq = s.lgr.nextSeq + 1) ∧ t.cmd.queue = [] ∧ t.ra.nack = false ∧
      t.twb.held = none)

/-- Keyed registers and the image write. The second write of a pair acts, over either path: resets with their cause,
another SYS_RESET value tallied, commit, revert and lock of the configuration; the ship delay and the image write,
which over Port H are lasting commands: taken as they arrive they act for Port H, else they wait or are NACKed;
refused, already due or already running they change nothing but what says so. The image write's pages, its end, its
failures, and the warm reset that follows a write with that request, or waits for its CMD_DONE. (R27, R62, R93,
R94, R95, R411, R428, R430, R433) -/
def Obligations.KeyedRegisters : Prop :=
  (∀ (s : State) (via : Via), s.live → s.armed via R.SYS_RESET 1 → Gives (.sysResetWarm via) s fun t =>
      t.phase = .startup ∧ t.boot.core = false ∧ t.boot.applied = false ∧ t.regN R.SYS_RSTCAUSE = 14 ∧ t.ra.keys = []) ∧
  (∀ (s : State) (via : Via), s.live → s.armed via R.SYS_RESET 2 → Gives (.sysResetCore via) s fun t =>
      t.phase = s.phase ∧ t.boot.core = false ∧ t.boot.secureDue ∧ t.boot.applied = s.boot.applied ∧
      t.regN R.SYS_RSTCAUSE = 31) ∧
  (∀ (s : State) (via : Via) (v : Word), s.live → s.armed via R.SYS_RESET v → v ≠ 1 → v ≠ 2 →
    Gives (.resetRefused via v) s fun t =>
      t.lgr = (s.tally K.RESET_REFUSED).lgr ∧ t.phase = s.phase ∧ t.boot.core = s.boot.core ∧ t.key via.req = none ∧
      s.onlyRegs t [R.LGR_EVENT, R.LGR_COALCNT]) ∧
  (∀ (s : State) (via : Via), s.live → s.armed via R.SYS_SHIP 1 → s.actsNow via R.SYS_SHIP 1 →
    Gives (.sysShip via) s fun t =>
      (s.shipBlock = 0 → s.boot.shipDue = none → t.boot.shipDue = some (s.now + secTicks 1, via.req)) ∧
      (s.shipBlock = 0 → ∀ d ∈ s.boot.shipDue, t.boot.shipDue = some d) ∧
      (s.shipBlock ≠ 0 → t.boot.shipDue = s.boot.shipDue ∧ t.flag F.SYS_EVENT_SHIP_REFUSED) ∧ t.phase = s.phase ∧
      (via = .firmware → s.shipBlock = 0 → t.lgr = s.lgr ∧ s.onlyRegs t [])) ∧
  (∀ (s : State) (via : Via), s.live → s.armed via R.SYS_SHIP 1 → via ≠ .firmware →
    s.takes ⟨srcPortH, R.SYS_SHIP, 0, [0, 1], true⟩ → Gives (.sysShip via) s fun t =>
      (s.shipBlock = 0 → s.boot.shipDue = none → t.boot.shipDue = some (s.now + secTicks 1, .portH)) ∧
      (s.ledgerDead = false → t.lgr.nextSeq = s.lgr.nextSeq + 1)) ∧
  (∀ (s : State) (c : Instr) (addr a : Nat) (v : Word),
    (c, a, v) ∈ [(Instr.sysShip (.portH addr), R.SYS_SHIP, (1 : Word)), (Instr.cfgWriteStart (.portH addr), R.CFG_WRITE,
      1), (Instr.cfgWriteReset (.portH addr), R.CFG_WRITE, 3)] →
    s.live → s.armed (.portH addr) a v → s.waits ⟨srcPortH, a, 0, beBytes 2 v.toNat, true⟩ → Gives (c) s fun t =>
      t.key .portH = none ∧
      (s.cmd.queue.length < 8 → t.cmd.queue = s.cmd.queue ++ [⟨srcPortH, a, 0, beBytes 2 v.toNat, true⟩] ∧ t.ra.nack =
        false) ∧
      (8 ≤ s.cmd.queue.length → s.stretches = false → t.cmd.queue = s.cmd.queue ∧ t.ra.nack ∧ t.flag
        F.TWB_EVENT_BUSY_NACK) ∧
      t.boot = s.boot) ∧
  (∀ (s : State) (via : Via), s.live → s.armed via R.CFG_COMMIT 1 → Gives (.cfgCommit via) s fun t =>
      (s.flag F.CFG_STATUS_PEND → t.flag F.CFG_STATUS_PEND = false ∧ t.flag F.CFG_EVENT_COMMIT ∧ t.group R.CFG_REF_H 2 =
        t.cfgCrc t.regs ∧ t.ra.refSet) ∧
      (s.flag F.CFG_STATUS_PEND = false → s.onlyRegs t []) ∧
      s.onlyRegs t [R.CFG_STATUS, R.CFG_EVENT, R.CFG_REF_H, R.CFG_REF_L, R.CFG_CRC_H, R.CFG_CRC_L]) ∧
  (∀ (s : State) (via : Via), s.live → s.armed via R.CFG_COMMIT 2 → Gives (.cfgDiscard via) s fun t =>
      (s.flag F.CFG_STATUS_PEND → t.flag F.CFG_STATUS_PEND = false ∧ t.flag F.CFG_EVENT_REVERT ∧ t.ra.written = [] ∧
        t.ra.holdDue = none ∧ t.reg R.ALM_TDISC = regGet s.ra.shadow R.ALM_TDISC) ∧
      (s.flag F.CFG_STATUS_PEND = false → s.onlyRegs t [])) ∧
  (∀ (s : State) (via : Via), s.live → s.armed via R.CFG_LOCK 1 → Gives (.cfgLock via) s fun t =>
      (s.flag F.CFG_STATUS_PEND = false → t.flag F.CFG_STATUS_LOCKED) ∧
      (s.flag F.CFG_STATUS_PEND → t.flag F.SYS_EVENT_BADWRITE ∧ t.flag F.CFG_STATUS_LOCKED = s.flag F.CFG_STATUS_LOCKED)
        ∧
      t.lgr = s.lgr ∧ s.onlyRegs t [R.SYS_EVENT, R.CFG_STATUS]) ∧
  (∀ (s : State) (via : Via), s.live → s.armed via R.CFG_WRITE 1 → s.actsNow via R.CFG_WRITE 1 → s.boot.write = none →
    Gives (.cfgWriteStart via) s fun t =>
      (s.imageRefusal = 0 → t.flag F.CFG_STATUS_WRBUSY ∧ t.flag F.TWB_PORTC_BUSY ∧ t.pins.cfgwp = false ∧
        t.boot.write.map (fun w => (w.resetAfter, w.req, w.target)) = some (false, via.req, (s.boot.loaded.map
        AB.other).getD .b)) ∧
      (s.imageRefusal ≠ 0 → t.flag F.CFG_STATUS_WRFAIL ∧ t.boot.write = none) ∧
      (via = .firmware → s.imageRefusal ≠ 0 → s.hands t K.IMAGE_REFUSED [byte s.imageRefusal, byte
        Requester.firmware.code]) ∧
      (via = .firmware → s.onlyRegs t [R.CFG_STATUS, R.CFG_EVENT, R.TWB_PORTC, R.LGR_EVENT, R.LGR_COALCNT])) ∧
  (∀ (s : State) (via : Via), s.live → s.armed via R.CFG_WRITE 3 → s.actsNow via R.CFG_WRITE 3 → s.boot.write = none →
    Gives (.cfgWriteReset via) s fun t =>
      (s.imageRefusal = 0 → t.flag F.CFG_STATUS_WRBUSY ∧ t.flag F.TWB_PORTC_BUSY ∧ t.pins.cfgwp = false ∧
        t.boot.write.map (fun w => (w.resetAfter, w.req, w.target)) = some (true, via.req, (s.boot.loaded.map
        AB.other).getD .b)) ∧
      (s.imageRefusal ≠ 0 → t.flag F.CFG_STATUS_WRFAIL ∧ t.boot.write = none) ∧
      (via = .firmware → s.imageRefusal ≠ 0 → s.hands t K.IMAGE_REFUSED [byte s.imageRefusal, byte
        Requester.firmware.code]) ∧
      (via = .firmware → s.onlyRegs t [R.CFG_STATUS, R.CFG_EVENT, R.TWB_PORTC, R.LGR_EVENT, R.LGR_COALCNT])) ∧
  (∀ (s : State) (c : Instr) (via : Via) (x : Bool),
    (c, x) ∈ [(Instr.cfgWriteStart via, false), (Instr.cfgWriteReset via, true)] → s.live →
    (s.armed via R.CFG_WRITE (if x then 3 else 1)) → (s.actsNow via R.CFG_WRITE (if x then 3 else 1)) →
    s.boot.write ≠ none → Gives (c) s fun t =>
      t.boot.write = s.boot.write ∧ (via = .firmware → t.lgr = s.lgr ∧ s.onlyRegs t [])) ∧
  (∀ (s : State) (w : ImageWrite), s.live → s.boot.write = some w → w.pages ≠ [] → Gives (.eepromPageAck) s fun t =>
      t.boot.write = some { w with pages := w.pages.drop 1, sentAt := s.now } ∧
      (t.pins.cfgwp = (s.pins.cfgwp || (w.pages.drop 1).isEmpty)) ∧ t.regs = s.regs) ∧
  (∀ (s : State) (w : ImageWrite), s.live → s.boot.write = some w → w.pages ≠ [] → w.sentAt + msTicks 10 ≤ s.now →
    Gives (.eepromPageTimeout) s fun t =>
      t.boot.write = none ∧ t.flag F.CFG_STATUS_WRBUSY = false ∧ t.flag F.CFG_STATUS_WRFAIL ∧ t.pins.cfgwp ∧
      t.phase = s.phase ∧
      (s.cmd.writing = none → s.hands t K.IMAGE_WRITE ([1, byte w.target.code] ++ beBytes 4 w.counter ++ beBytes 4
        w.len))) ∧
  (∀ (s : State) (back : List Byte) (w : ImageWrite), s.live → s.boot.write = some w → w.pages = [] →
    Gives (.imageWriteDone back) s fun t =>
      t.boot.write = none ∧ t.flag F.CFG_STATUS_WRBUSY = false ∧ t.pins.cfgwp ∧
      (s.copyFault (back.take 32) (back.drop 32) = none → w.resetAfter = false → t.flag F.CFG_EVENT_WRDONE ∧ t.copy
        w.target = ⟨some (back.take 32), some true⟩ ∧ (s.cmd.writing = none → s.hands t K.IMAGE_WRITE ([0, byte
        w.target.code] ++ beBytes 4 w.counter ++ beBytes 4 w.len))) ∧
      (s.copyFault (back.take 32) (back.drop 32) = none → w.resetAfter → (t.phase = .startup ∧ t.boot.applied = false ∧
        t.regN R.SYS_RSTCAUSE = 14) ∨ s.cmd.finishing.length < t.cmd.finishing.length) ∧
      (s.copyFault (back.take 32) (back.drop 32) ≠ none → t.phase = s.phase ∧ t.flag F.CFG_STATUS_WRFAIL ∧
        (s.cmd.writing = none → s.hands t K.IMAGE_WRITE ([2, byte w.target.code] ++ beBytes 4 w.counter ++ beBytes 4
        w.len))))

/-- The configuration check, staging, snapshots, time and watchdog kicks. A pass of the check shows the CRC of the
registers as disturbances left them and finds a mismatch, which enters SAFE; without a reference it records
nothing; an uncommitted configuration reverts; the staging window advances by two; a snapshot copies every counter;
the time is set, at once or once the always-on write applies, or refused out of range; the watchdogs' kicks and
settings. (R432, R433, R434, R437, R438, R448, R452, R453, R454, R491) -/
def Obligations.ConfigAndSnapshots : Prop :=
  (∀ (s : State) (upsets : List (Nat × Word)), s.live → s.ra.refSet → s.flag F.CFG_STATUS_PEND = false →
    Gives (.cfgCheckPass upsets) s fun t =>
      ((s.upset upsets).cfgCrc (s.upset upsets).regs = (s.upset upsets).group R.CFG_REF_H 2 → t.group R.CFG_CRC_H 2 =
        (s.upset upsets).cfgCrc (s.upset upsets).regs ∧ t.lgr = s.lgr ∧ t.flag F.CFG_STATUS_MISMATCH = (s.upset
        upsets).flag F.CFG_STATUS_MISMATCH) ∧
      ((s.upset upsets).cfgCrc (s.upset upsets).regs ≠ (s.upset upsets).group R.CFG_REF_H 2 → t.flag
        F.CFG_STATUS_MISMATCH ∧ t.flag F.SYS_SAFECAUSE_CFGCRC ∧ ((s.upset upsets).flag F.SYS_SAFECAUSE_CFGCRC = false →
        t.inSafe))) ∧
  (∀ (s : State) (upsets : List (Nat × Word)), s.live → s.ra.refSet = false → Gives (.cfgCheckPass upsets) s fun t =>
      t.lgr = s.lgr ∧ s.regsKept t ([R.CFG_CRC_H, R.CFG_CRC_L] ++ upsets.map (·.1))) ∧
  (∀ (s : State), s.live → s.elapsed s.ra.holdDue → s.flag F.CFG_STATUS_PEND → Gives (.cfgHoldExpiry) s fun t =>
      t.flag F.CFG_STATUS_PEND = false ∧ t.flag F.CFG_EVENT_REVERT ∧ t.ra.holdDue = none ∧ t.ra.written = []) ∧
  (∀ (s : State) (via : Via) (v : Word), s.live → s.reaches via 0 R.CFG_STGADDR → v.toNat % 2 = 0 →
    Gives (.cfgStgaddrWrite via v) s fun t =>
      t.reg R.CFG_STGADDR = v ∧ t.boot = s.boot ∧ s.onlyRegs t [R.CFG_STGADDR]) ∧
  (∀ (s : State) (via : Via) (v : Option Word) (n : Nat) (w : Word), s.live → s.reaches via 0 R.CFG_STGDATA →
    v = some w → (via = .firmware ∨ s.flag F.CFG_STATUS_HOSTIMG) → Gives (.cfgStgdataAccess via v n) s fun t =>
      t.stageByte (s.regN R.CFG_STGADDR) = byte (w.toNat / 256) ∧
      t.stageByte (s.regN R.CFG_STGADDR + 1) = byte w.toNat ∧
      t.stageByte (s.regN R.CFG_STGADDR + 2) = s.stageByte (s.regN R.CFG_STGADDR + 2) ∧
      t.regN R.CFG_STGADDR = (s.regN R.CFG_STGADDR + 2) % 65536 ∧ s.onlyRegs t [R.CFG_STGADDR, R.SVC_STATUS]) ∧
  (∀ (s : State) (via : Via) (v : Option Word) (n : Nat), s.live → s.reaches via 0 R.CFG_STGDATA → v = none → n = 1 →
    Gives (.cfgStgdataAccess via v n) s fun t =>
      t.ra.readData = [s.stageWord] ∧ t.regN R.CFG_STGADDR = (s.regN R.CFG_STGADDR + 2) % 65536 ∧ t.boot = s.boot ∧
      s.onlyRegs t [R.CFG_STGADDR, R.SVC_STATUS]) ∧
  (∀ (s : State) (via : Via) (reading : Bool), s.live → s.reaches via 0 R.SNAP_CTRL →
    (via = .firmware → reading = false) → Gives (.snapTake via reading) s fun t =>
      t.regN R.SNAP_STATUS = min (s.regN R.SNAP_STATUS + 1) 0xFFFF ∧ t.regN R.SNAP_TIME0 = s.stamp.2 % 65536 ∧
      (∀ p ∈ snapSources.zipIdx, t.reg (R.SNAP_COPY + p.2) = s.shown false p.1) ∧ t.ra.snapWait = none) ∧
  (∀ (s : State) (via : Via) (reading : Bool), s.live → s.reaches via 0 R.SNAP_CTRL → via = .firmware → reading →
    Gives (.snapTake via reading) s fun t =>
      t.ra.snapWait = some s.snapCapture ∧ t.regs = s.regs) ∧
  (∀ (s : State) (l : List (Nat × Word)), s.live → s.ra.snapWait = some l → (l.map (·.1)).Nodup →
    Gives (.snapUpdateAtStop) s fun t =>
      (∀ p ∈ l, t.reg p.1 = p.2) ∧ t.ra.snapWait = none ∧ s.regsKept t (l.map (·.1))) ∧
  (∀ (s : State) (via : Via) (hi mid lo : Word), s.live → s.reaches via 0 R.CLK_TIMESET2 →
    (via = .firmware ∨ s.stretches ∧ s.pathPtr via R.CLK_TIMESET2 = some R.CLK_TIMESET2) → hi.toNat < 0x8000 →
    s.timeValid = false → (s.ra.aonWrite.all fun w => w.addr != R.CLK_TIMESET0) →
    Gives (.clkTimesetWrite via hi mid lo) s fun t =>
      t.clk.time = (hi.toNat * 65536 + mid.toNat) * 65536 + lo.toNat ∧ t.timeValid ∧ t.tsrc = 1 ∧
      t.flag F.CLK_EVENT_TIME_VALID ∧ t.flag F.CLK_EVENT_TIME_STEP ∧ t.clk.hostSet = some s.now ∧
      s.onlyRegs t [R.CLK_TIMESET2, R.CLK_TIMESET1, R.CLK_TIMESET0, R.CLK_STATUS, R.CLK_EVENT, R.LGR_EVENT,
        R.LGR_COALCNT]) ∧
  (∀ (s : State) (via : Via) (hi mid lo : Word), s.live → s.reaches via 0 R.CLK_TIMESET2 → 0x8000 ≤ hi.toNat →
    (via = .firmware ∨ s.pathPtr via R.CLK_TIMESET2 = some R.CLK_TIMESET2) →
    Gives (.clkTimesetWrite via hi mid lo) s fun t =>
      t.clk.time = s.clk.time ∧ t.flag F.SYS_EVENT_BADWRITE ∧ t.tsrc = s.tsrc) ∧
  (∀ (s : State) (via : Via) (v : Word), s.live → s.reaches via 0 R.CLK_HWDKICK → v = 0xA55A →
    Gives (.hwdKick via v) s fun t =>
      t.flag F.CLK_STATUS_HWD_SECOND = false ∧ (s.hwdRuns → t.clk.hwdFrom = s.now) ∧
      (s.hwdRuns = false → t.clk = s.clk) ∧ s.onlyRegs t [R.CLK_STATUS, R.SYS_EVENT]) ∧
  (∀ (s : State) (via : Via) (v : Word), s.live → s.reaches via 0 R.CLK_HWDKICK → v ≠ 0xA55A →
    Gives (.hwdKick via v) s fun t =>
      t.flag F.SYS_EVENT_BADWRITE ∧ t.clk = s.clk ∧ s.onlyRegs t [R.CLK_STATUS, R.SYS_EVENT]) ∧
  (∀ (s : State) (via : Via) (v : Word), s.live → s.reaches via 0 R.CLK_HWDCFG → s.permits via R.CLK_HWDCFG v →
    Gives (.hwdConfigWrite via v) s fun t =>
      t.reg R.CLK_HWDCFG = v ∧
      (via ≠ .firmware → s.stretches = false → t.ra.aonWrite = some ⟨R.CLK_HWDCFG, s.reg R.CLK_HWDCFG, v, s.now + 3,
        true⟩ ∧ t.clk = s.clk) ∧
      (via = .firmware ∨ s.stretches → t.ra.aonWrite = none) ∧
      (via = .firmware ∨ s.stretches → s.ra.aonWrite = none → bitOf v 0 → s.flag F.CLK_HWDCFG_EN = false → t.clk.hwdFrom
        = s.now ∧ t.flag F.CLK_STATUS_HWD_SECOND = false) ∧
      (via = .firmware ∨ s.stretches → s.ra.aonWrite = none → bitOf v 0 = false → t.flag F.CLK_STATUS_HWD_SECOND =
        false) ∧
      (s.ra.aonWrite = none → s.onlyRegs t [R.CLK_HWDCFG, R.CLK_STATUS, R.CFG_STATUS])) ∧
  (∀ (s : State) (v : Word), s.live → s.boot.core → s.key .firmware = none → Gives (.pwdKick v) s fun t =>
      (v = 0x5AA5 → t.clk.pwdFrom = s.now ∧ t.clk.pwdWarned = false) ∧ (v ≠ 0x5AA5 → t.clk = s.clk) ∧ t.lgr = s.lgr ∧
      s.onlyRegs t [])

/-- The oscillators and the time shared over the Tether. The crystal takes over; a fault is recorded and its
replacement used, of each oscillator the cross-check finds beyond its limit; a retry brings an oscillator back, or
is put off; a SYNC taken from its sender steps the time where it was not valid or is more than 1 s off and slews it
otherwise, and one that is not taken leaves the time alone; one is posted in the unit's second of each 600 s and
after the host set the time, by a unit that has it from its host. (R443, R444, R450, R451) -/
def Obligations.ClocksAndTime : Prop :=
  (∀ (s : State), s.live → s.flag F.CLK_CFG_XTAL → s.flag F.CLK_STATUS_XTAL_RUN = false → s.oscFaulty 0 = false →
    s.oscFaulty 1 = false → s.clk.xtalFrom + secTicks 1 ≤ s.now → Gives (.xtalSwitch) s fun t =>
      t.flag F.CLK_STATUS_XTAL_RUN ∧ t.field F.CLK_STATUS_AONSRC = 1 ∧ s.regsKept t [R.CLK_STATUS] ∧ t.lgr = s.lgr) ∧
  (∀ (s : State) (cause : Nat) (ppm : Int), s.live → s.flag F.CLK_CFG_XTAL → s.flag F.CLK_STATUS_XTAL_RUN = false →
    s.oscFaulty 0 = false → ((if s.clk.xtalFrom < secTicks 2 then 0 else s.clk.xtalFrom) + secTicks 2 ≤ s.now) →
    Gives (.xtalStartTimeout cause ppm) s fun t =>
      t.flag F.CLK_EVENT_XTAL_FAIL ∧ t.regN R.CLK_FAULTCNT = min (s.regN R.CLK_FAULTCNT + 1) 0xFFFF ∧ t.oscFaulty 0 ∧
      t.flag F.CLK_STATUS_XTAL_RUN = false ∧ s.hands t K.CLK_FAULT ([0, byte cause] ++ beSigned 4 ppm)) ∧
  (∀ (s : State) (osc cause : Nat) (ppm : Int), s.live → osc ≤ 3 → s.oscUsed osc → (cause = 1 ∨ oscLimit osc < |ppm|) →
    s.oscFaulty osc = false → Gives (.oscFault osc cause ppm) s fun t =>
      t.oscFaulty osc ∧ t.flag (oscEvent osc) ∧ t.regN R.CLK_FAULTCNT = min (s.regN R.CLK_FAULTCNT + 1) 0xFFFF ∧
      (osc = 1 → s.flag F.CLK_STATUS_XTAL_RUN = false → t.field F.CLK_STATUS_AONSRC = 2) ∧
      (osc = 2 → t.flag F.CLK_STATUS_HFO2) ∧ (osc = 3 → t.flag F.CLK_STATUS_WDOFAIL) ∧
      s.hands t K.CLK_FAULT ([byte osc, byte cause] ++ beSigned 4 ppm)) ∧
  (∀ (s : State) (osc : Nat) (good : Bool) (f : OscFault), s.live →
    (s.clk.faults.find? (fun x : OscFault => x.osc == osc) = some f) → (osc ≠ 0 ∨ s.flag F.CLK_CFG_XTAL) →
    (f.next + (if good then oscHold osc else 0) ≤ s.now) → Gives (.oscRetry osc good) s fun t =>
      (good → t.clk.faults = (s.clk.faults.filter fun x : OscFault => x.osc != osc) ∧ t.flag F.CLK_EVENT_RECOVER ∧
        s.hands t K.CLK_RECOVER ([byte osc] ++ beBytes 4 ((s.now - f.since) / 32768))) ∧
      (good = false → t.clk.faults = (s.clk.faults.filter fun x : OscFault => x.osc != osc) ++
        [{ f with next := s.now + oscInterval osc }] ∧ t.regs = s.regs) ∧
      (good → osc = 2 → t.flag F.CLK_STATUS_HFO2 = false)) ∧
  (∀ (s : State) (xtal lfo hfo wdo : Int), s.live → Gives (.oscCrossCheck xtal lfo hfo wdo) s fun t =>
      (t.oscFaulty 0 = (s.oscFaulty 0 || (s.flag F.CLK_STATUS_XTAL_RUN && decide (30000 < |xtal|)))) ∧
      (t.oscFaulty 1 = (s.oscFaulty 1 || (s.sysRuns && decide (30000 < |lfo|)))) ∧
      (t.oscFaulty 2 = (s.oscFaulty 2 || decide (30000 < |hfo|))) ∧
      (t.oscFaulty 3 = (s.oscFaulty 3 || decide (300000 < |wdo|))) ∧
      (|xtal| ≤ 30000 → |lfo| ≤ 30000 → |wdo| ≤ 300000 → 30000 < |hfo| → s.oscFaulty 2 = false → t.flag
        F.CLK_STATUS_HFO2 ∧ t.flag F.CLK_EVENT_HFO_FAIL ∧ s.hands t K.CLK_FAULT ([2, 2] ++ beSigned 4 hfo)) ∧
      (|xtal| ≤ 30000 → |lfo| ≤ 30000 → |wdo| ≤ 300000 → |hfo| ≤ 30000 → t = s)) ∧
  (∀ (s : State) (addr time ago : Nat) (x : Carrier), s.receives → s.ownAddr ≠ some addr → s.link.cand ≠ some addr →
    s.syncFrom addr → addr < 64 → time + 1 + 2 * ago < 0x80000000 * 65536 → Gives (.syncRx addr time ago x) s fun t =>
      (s.timeValid = false ∨ 65536 < |((time + 1 + 2 * ago : Nat) : Int) - s.clk.time| → t.clk.time = time + 1 + 2 * ago
        ∧ t.timeValid ∧ t.clk.slew = 0 ∧ t.flag F.CLK_EVENT_TIME_STEP) ∧
      (s.timeValid → |((time + 1 + 2 * ago : Nat) : Int) - s.clk.time| ≤ 65536 → t.clk.time = s.clk.time ∧ t.clk.slew =
        ((time + 1 + 2 * ago : Nat) : Int) - s.clk.time) ∧
      (s.tsrc ≠ 1 → t.tsrc = 2) ∧ (s.tsrc = 1 → t.tsrc = 1) ∧ t.flag F.CLK_EVENT_SYNC_RX ∧ t.clk.syncAt = some s.now ∧
      t.field F.CLK_SYNCSRC_ADDR = addr) ∧
  (∀ (s : State) (addr time ago : Nat) (x : Carrier), s.receives → s.syncFrom addr = false →
    Gives (.syncRx addr time ago x) s fun t =>
      t.clk = s.clk ∧ t.timeValid = s.timeValid ∧ t.tsrc = s.tsrc) ∧
  (∀ (s : State) (a : Nat), s.live → s.boot.core → s.inSafe = false → s.tsrc = 1 → s.flag F.CLK_CFG_SYNC_TX →
    s.framesMode → s.link.txOn → s.txRoom → s.ownAddr = some a → s.clk.time / 65536 % 600 = 4 * a →
    s.clk.syncSec ≠ some (s.clk.time / 65536) → s.clk.lowerSync ≠ some (s.clk.time / 65536 / 600) →
    Gives (.syncTxDue) s fun t =>
      t.link.txq = s.link.txq ++ [⟨⟨6, a, 0, beBytes 6 0⟩, 0, s.now⟩] ∧ t.clk.syncSec = some (s.clk.time / 65536) ∧
      t.regs = s.regs) ∧
  (∀ (s : State) (a d : Nat), s.live → s.boot.core → s.inSafe = false → s.tsrc = 1 → s.flag F.CLK_CFG_SYNC_TX →
    s.framesMode → s.link.txOn → s.txRoom → s.ownAddr = some a → s.clk.time / 65536 % 600 ≠ 4 * a →
    s.clk.hostSet = some d → s.now ≤ d + secTicks 10 → (∀ e ∈ s.clk.hostSync, e + secTicks 60 ≤ s.now) →
    Gives (.syncTxDue) s fun t =>
      t.link.txq = s.link.txq ++ [⟨⟨6, a, 0, beBytes 6 0⟩, 0, s.now⟩] ∧ t.clk.hostSet = none ∧
      t.clk.hostSync = some s.now ∧ t.regs = s.regs) ∧
  (∀ (s : State), (s.boot.core = false ∨ s.inSafe ∨ s.tsrc ≠ 1 ∨ s.flag F.CLK_CFG_SYNC_TX = false ∨ s.ownAddr = none) →
    Gives (.syncTxDue) s fun t =>
      t = s)

/-- The host and the policy watchdog. The host watchdog warns, then pulses nRSTO or resets the unit; the policy
watchdog warns, takes back what R141 says, and resets the core; three resets in a row change the slot. (R452, R454,
R455) -/
def Obligations.Watchdogs : Prop :=
  (∀ (s : State), s.live → s.hwdOver → s.flag F.CLK_STATUS_HWD_SECOND = false → Gives (.hwdWarn) s fun t =>
      t.flag F.CLK_EVENT_HWD_WARN ∧ t.flag F.CLK_STATUS_HWD_SECOND ∧ t.clk.hwdFrom = s.now ∧
      s.hands t K.HWD_WARN [byte s.hwdE]) ∧
  (∀ (s : State), s.live → s.hwdOver → s.flag F.CLK_STATUS_HWD_SECOND → bitOf (s.aonReg R.CLK_HWDCFG) 5 = false →
    Gives (.hwdExpire) s fun t =>
      t.flag F.CLK_EVENT_HWD_EXPIRE ∧ t.flag F.CLK_STATUS_HWD_SECOND = false ∧ t.pins.nrsto = false ∧
      t.clk.pulseDue = s.timer (msTicks 10) ∧ t.regN R.CLK_HWDCNT = min (s.regN R.CLK_HWDCNT + 1) 0xFFFF ∧
      t.phase = s.phase ∧ s.hands t K.HWD_EXPIRE [byte s.hwdE, 0]) ∧
  (∀ (s : State), s.live → s.hwdOver → s.flag F.CLK_STATUS_HWD_SECOND → bitOf (s.aonReg R.CLK_HWDCFG) 5 →
    Gives (.hwdExpire) s fun t =>
      t.phase = .startup ∧ t.regN R.SYS_RSTCAUSE = 22 ∧ t.pins.nrsto = false ∧ t.boot.core = false) ∧
  (∀ (s : State), s.pwdCounted 1 → s.clk.pwdWarned = false → Gives (.pwdWarn) s fun t =>
      t.clk.pwdWarned ∧ t.flag F.CLK_EVENT_PWD_WARN ∧ t.fwOwns = false ∧
      t.reg R.CONV_TET_CTRL = resetVal R.CONV_TET_CTRL ∧ t.reg R.CONV_TET_ISET = resetVal R.CONV_TET_ISET ∧
      t.boot.core = s.boot.core) ∧
  (∀ (s : State), s.pwdCounted 2 → s.clk.pwdWarned → Gives (.pwdExpire) s fun t =>
      t.boot.core = false ∧ t.boot.secureDue ∧ t.regN R.SYS_RSTCAUSE = 35 ∧
      t.regN R.CLK_PWDCNT = min (s.regN R.CLK_PWDCNT + 1) 0xFFFF ∧
      (s.boot.startedAt + secTicks 60 ≤ s.now → t.field F.CLK_PWD_RESETS = 1) ∧
      (s.now < s.boot.startedAt + secTicks 60 → s.field F.CLK_PWD_RESETS < 2 → t.field F.CLK_PWD_RESETS = s.field
        F.CLK_PWD_RESETS + 1) ∧
      (s.now < s.boot.startedAt + secTicks 60 → s.field F.CLK_PWD_RESETS = 2 → s.flag F.CLK_PWD_OTHERFIRST = false →
        t.flag F.CLK_PWD_OTHERFIRST ∧ t.field F.CLK_PWD_RESETS = 0) ∧
      (s.now < s.boot.startedAt + secTicks 60 → s.field F.CLK_PWD_RESETS = 2 → s.flag F.CLK_PWD_OTHERFIRST → t.flag
        F.CLK_PWD_FALLBACK) ∧
      t.svc.floorFrom = none) ∧
  (∀ (s : State), s.pwdCounted 2 → s.clk.pwdWarned → s.now < s.boot.startedAt + secTicks 60 →
    s.field F.CLK_PWD_RESETS = 2 → s.flag F.CLK_PWD_OTHERFIRST = false → Gives (.pwdExpire) s fun t =>
      t.flag F.CLK_EVENT_SLOT_FALLBACK ∧ t.flag F.CLK_PWD_OTHERFIRST) ∧
  (∀ (s : State) (ticks : Nat), s.live → s.boot.core → Gives (.pwdWaitEnd ticks) s fun t =>
      t.clk.pwdFrom = min s.now (s.clk.pwdFrom + min ticks (secTicks 30)) ∧ t.regs = s.regs ∧ t.lgr = s.lgr) ∧
  (∀ (s : State), s.live → s.boot.core → s.boot.startedAt + secTicks 60 ≤ s.now → Gives (.pwdSlotStable) s fun t =>
      t.field F.CLK_PWD_RESETS = 0 ∧ s.regsKept t [R.CLK_PWD] ∧ t.lgr = s.lgr)

/-- The die sensors. The readings are shown, the hottest sets Tm and the throttle factor falls with it at once and
rises a point at a time; a sensor out of band twice in a row is broken; a confirmed 150 °C stops the converters,
with the Tether OFF or in LISTEN, and holds the core, and a restart follows. (R457, R459, R461, R462, R463, R467)
-/
def Obligations.DieHeat : Prop :=
  (∀ (s : State) (l : List (Option Int)), s.live → l.length = 7 → (∀ i ∈ List.range 7, (s.sensor i).oddFrom = none) →
    (∀ x ∈ l, ∃ y ∈ x, -400 ≤ y ∧ y ≤ 700) → (∀ i ∈ List.range 7, s.dsBroken i = false) → Gives (.thmReading l) s fun t =>
      (∀ i ∈ List.range 7, t.reg (R.THM_DS0 + i) = dsWord (l.getD i none)) ∧ some (toSigned16 (t.reg R.THM_TM)) ∈ l ∧
      (∀ i ∈ List.range 7, ∀ y ∈ l.getD i none, y ≤ toSigned16 (t.reg R.THM_TM)) ∧
      t.field F.THM_FACTOR_F = min (s.field F.THM_FACTOR_F) (100 - ceilDiv (s.field F.THM_CFG_SLOPE * (toSigned16 (t.reg
        R.THM_TM) - 4 * (s.field F.THM_CFG_TTHR : Int)).toNat) 4)) ∧
  (∀ (s : State) (l : List (Option Int)) (i : Nat), s.live → i < 7 → l.getD i none = none → 1 ≤ (s.sensor i).badCount →
    Gives (.thmReading l) s fun t =>
      (s.dsBroken i = false → t.dsBroken i ∧ t.flag F.THM_EVENT_BROKEN) ∧ t.reg (R.THM_DS0 + i) = 0x8000) ∧
  (∀ (s : State), s.live → s.field F.THM_FACTOR_F < s.factorTarget → s.thm.roseAt + msTicks 100 ≤ s.now →
    Gives (.thmFactorRise) s fun t =>
      t.field F.THM_FACTOR_F = s.field F.THM_FACTOR_F + 1 ∧ t.thm.roseAt = s.now) ∧
  (∀ (s : State) (i : Nat) (reading : Int), s.live → s.thm.shutFrom = none →
    (600 ≤ (if s.dsBroken i then (s.dsEff i).getD reading else reading)) → Gives (.thmShutdown i reading) s fun t =>
      t.flag F.THM_STATUS_COOLING ∧ t.field F.THM_STATUS_BAND = 4 ∧
      t.regN R.THM_SDCNT = min (s.regN R.THM_SDCNT + 1) 0xFFFF ∧ t.thm.shutFrom = some s.now ∧ t.boot.core = false ∧
      t.path.closed = none ∧ t.field F.CONV_STATUS_TET_MODE ≤ 1 ∧
      (t.flag F.THM_STATUS_HOLD110 = decide (2 ≤ (s.thm.shutdowns.filter fun x => decide (s.now < x + secTicks
        3600)).length))) ∧
  (∀ (s : State) (n m : Nat), s.live → s.thm.shutFrom = some n → s.thm.coolFrom = some m → m + secTicks 1 ≤ s.now →
    Gives (.thmRestart) s fun t =>
      t.flag F.THM_STATUS_COOLING = false ∧ t.thm.shutFrom = none ∧ t.phase = .startup ∧ t.regN R.SYS_RSTCAUSE = 26)

/-- Cold start, the image, secure start. A cold start latches the straps (a reading between the bands as code 15: the
model's choice, log entry 100) and records itself; the newer valid copy is read in full and applied; failed reads
are repeated three times, at start-up and in the background check alike, and then the device is given up; without a
valid copy the unit is in SAFE; secure start starts the first slot that verifies, or the fallback policy. (R61,
R68, R70, R75, R82, R83, R84, R85, R86, R98, R410) -/
def Obligations.StartAndImage : Prop :=
  (∀ (s : State) (chemR addrR bat : Nat) (source : Bool), s.phase = .off → (source ∨ 2800 ≤ bat) →
    Gives (.powerOnResetRelease chemR addrR bat source) s fun t =>
      t.phase = .startup ∧ t.regN R.SYS_RSTCAUSE = 5 ∧
      (∀ k ∈ chemCode chemR, t.boot.chem = k ∧ t.boot.strapBad = (addrCode addrR).isNone) ∧
      (chemCode chemR = none → t.boot.strapBad ∧ t.boot.chem = (if chemR < 40 then 14 else 15)) ∧
      t.boot.addr = (addrCode addrR).getD 0 ∧ t.boot.applied = false ∧ t.boot.core = false ∧
      t.conv.nrstDue = some (msTicks 10) ∧ t.pins.nrsto = false ∧ t.boot.slotA = s.boot.slotA ∧ t.svc.session = none) ∧
  (∀ (s : State) (a : Option (List Byte)) (oneByte : Bool) (probes : List (Option (List Byte))), s.phase = .startup →
    s.boot.reading = none → s.boot.fails0 < 3 → a.map hdrOk = some true → probes = [] →
    Gives (.imageHeadersRead a oneByte probes) s fun t =>
      t.boot.reading = some .a ∧ t.boot.copyA.header = a ∧ t.boot.copyB.header = none ∧ t.flag F.TWB_PORTC_BUSY ∧
      t.phase = .startup) ∧
  (∀ (s : State) (a : Option (List Byte)) (oneByte : Bool) (probes : List (Option (List Byte))) (x y : List Byte),
    s.phase = .startup → s.boot.reading = none → s.boot.fails0 < 3 → a = some x → probes = [some y] → hdrOk x → hdrOk y →
    hdrTwo x = false → hdrTwo y = false → hdrSize y = hdrSize x → Gives (.imageHeadersRead a oneByte probes) s fun t =>
      (t.boot.reading = some (if hdrCounter x < hdrCounter y then .b else .a)) ∧ t.boot.copyA.header = some x ∧
      t.boot.copyB.header = some y ∧ t.field F.TWB_PORTC_SIZE = hdrSize x) ∧
  (∀ (s : State) (a : Option (List Byte)) (oneByte : Bool) (probes : List (Option (List Byte))), s.phase = .startup →
    s.boot.reading = none → a = none → (∀ x ∈ probes, x = none) → Gives (.imageHeadersRead a oneByte probes) s fun t =>
      t.phase = .run ∧ t.flag F.SYS_SAFECAUSE_NOIMAGE ∧ (s.flag F.SYS_SAFECAUSE_NOIMAGE = false → t.inSafe) ∧
      t.flag F.CFG_STATUS_HOSTIMG ∧ t.flag F.CFG_STATUS_LOADED = false ∧ t.boot.loaded = none ∧ t.boot.secureDue) ∧
  (∀ (s : State) (body : List Byte) (x : AB), s.phase = .startup → s.boot.reading = some x →
    s.copyFault ((s.copy x).header.getD []) body = none → Gives (.imageBodyReadDone body) s fun t =>
      t.phase = .run ∧ t.boot.applied ∧ t.boot.loaded = some x ∧ t.flag F.CFG_STATUS_LOADED ∧ t.boot.reading = none ∧
      t.boot.secureDue ∧ t.group R.CFG_GEN_H 2 = hdrCounter ((s.copy x).header.getD []) % 4294967296 ∧ t.ra.refSet) ∧
  (∀ (s : State) (body : List Byte) (x : AB), s.phase = .startup → s.boot.reading = some x →
    s.copyFault ((s.copy x).header.getD []) body ≠ none → s.boot.fails0 = 0 → s.boot.fails1 = 0 →
    Gives (.imageBodyReadDone body) s fun t =>
      t.flag F.CFG_STATUS_DEGRADED ∧ (t.flag F.CFG_EVENT_DEGRADED ∨ s.flag F.CFG_STATUS_DEGRADED) ∧
      ((s.copy x.other).header ≠ none → s.boot.tried.contains x.other = false → t.boot.reading = some x.other ∧ t.phase
        = .startup) ∧
      ((s.copy x.other).header = none → t.phase = .run ∧ t.flag F.SYS_SAFECAUSE_NOIMAGE)) ∧
  (∀ (s : State) (dev : Nat) (freed : Option Bool), s.portcReads dev → dev ≤ 1 → s.portcFails dev < 2 →
    Gives (.portcAttemptFail dev freed) s fun t =>
      t.portcFails dev = s.portcFails dev + 1 ∧ t.boot.retryDue = s.timer (msTicks 1) ∧ t.flag F.TWB_EVENT_PORTC_FAIL ∧
      (freed = some true → t.flag F.TWB_EVENT_RECOVER) ∧ (freed = some false → t.flag F.TWB_STATUS_BUSFAULT_C)) ∧
  (∀ (s : State) (dev : Nat) (freed : Option Bool), s.portcReads dev → s.portcFails dev = 2 → dev ≤ 1 →
    Gives (.portcAttemptFail dev freed) s fun t =>
      t.portcFails dev = 3 ∧ (dev = 0 → t.flag F.TWB_PORTC_DEV0_FAIL) ∧ (dev = 1 → t.flag F.TWB_PORTC_DEV1_FAIL) ∧
      (s.boot.reading = none → t.phase = s.phase) ∧ (s.phase = .run → t.boot.checking = none ∨ s.boot.reading ≠ none) ∧
      (s.phase = .run → s.boot.reading = none → ∀ x ∈ s.boot.checking, (t.copy x).valid = some false ∧ t.flag
        F.CFG_STATUS_DEGRADED) ∧
      (s.phase = .startup → ∀ x ∈ s.boot.reading, s.copyDevice x = dev → (s.copyDevice x.other = dev ∨ (s.copy
        x.other).header = none ∨ s.boot.tried.contains x.other) → t.phase = .run ∧ t.flag F.SYS_SAFECAUSE_NOIMAGE)) ∧
  (∀ (s : State) (dev : Nat) (freed : Option Bool), s.portcReads dev → s.portcFails dev = 2 → dev = 0 → s.phase = .run →
    s.boot.reading = none → Gives (.portcAttemptFail dev freed) s fun t =>
      t.flag F.TWB_PORTC_DEV0_FAIL ∧ t.boot.checking = none ∧ t.phase = .run) ∧
  (∀ (s : State), s.live → s.elapsed s.boot.retryDue → Gives (.portcRetry) s fun t =>
      t.boot.retryDue = none ∧ t.flag F.TWB_STATUS_BUSFAULT_C = false ∧ t.lgr = s.lgr ∧ s.regsKept t [R.TWB_STATUS]) ∧
  (∀ (s : State) (body : Option (List Byte)) (x : AB), s.phase = .run → s.boot.checking = some x →
    Gives (.backgroundCopyCheckDone body) s fun t =>
      t.boot.checking = none ∧
      ((s.copy x).header = none ∨ body = none → (t.copy x).valid = some false ∧ t.flag F.CFG_STATUS_DEGRADED) ∧
      (∀ h ∈ (s.copy x).header, ∀ b ∈ body, s.copyFault h b = none → (t.copy x).valid = some true ∧ t.flag
        F.CFG_STATUS_DEGRADED = s.flag F.CFG_STATUS_DEGRADED)) ∧
  (∀ (s : State), s.phase = .run → s.boot.secureDue → Gives (.secureStart) s fun t =>
      t.boot.secureDue = false ∧ t.flag F.SYS_BOOT_DONE ∧ t.cmd.replayDue ∧
      (∀ x ∈ s.slotOrder.find? fun y => (s.slotFault y).isNone, t.boot.core ∧ t.boot.running = some x ∧ t.flag
        F.SYS_BOOT_FALLBACK = false ∧ t.boot.startedAt = s.now) ∧
      ((∀ x ∈ s.slotOrder, s.slotFault x ≠ none) → t.flag F.SYS_BOOT_FALLBACK ∧ t.flag F.SYS_SAFECAUSE_FALLBACK ∧
        (s.flag F.SYS_SAFECAUSE_FALLBACK = false → t.inSafe)))

/-- Resets, loss of power and SHIP. A warm reset goes back to the image step, a core reset to secure start, each with
its cause; without supply only the non-volatile stores stay; SHIP is entered once its record is accepted and left
by WAKE, to a cold start or, without a source and with less than 2.8 V of the cell, to the unit without supply, or
by a latched source within its window for 20 ms, VBUS with its attach debounced. (R27, R28, R29, R61, R64, R68,
R126, R127, R400) -/
def Obligations.ResetsAndShip : Prop :=
  (∀ (s : State) (cause : Nat), s.live → cause < 16 → Gives (.warmReset cause) s fun t =>
      t.phase = .startup ∧ t.regN R.SYS_RSTCAUSE = 2 + 4 * cause ∧ t.boot.core = false ∧ t.boot.applied = false ∧
      t.svc.session = none ∧ t.pins.cfgwp ∧ t.cmd.queue = [] ∧
      t.regN R.SYS_KEYERRCNT = min (s.regN R.SYS_KEYERRCNT + s.ra.keys.length) 0xFFFF) ∧
  (∀ (s : State) (cause : Nat), s.phase = .run → cause < 16 → Gives (.coreReset cause) s fun t =>
      t.phase = .run ∧ t.regN R.SYS_RSTCAUSE = 3 + 4 * cause ∧ t.boot.core = false ∧ t.boot.secureDue ∧
      t.boot.applied = s.boot.applied ∧ t.svc.session = none ∧ t.fwOwns = false) ∧
  (∀ (s : State) (intake commit : Nat), s.phase ≠ .off → Gives (.powerLoss intake commit) s fun t =>
      t.phase = .off ∧ t.now = 0 ∧ t.boot.slotA = s.boot.slotA ∧ t.reg R.CONV_KEEP = s.reg R.CONV_KEEP ∧
      (s.lgr.warned → s.banksKept t) ∧ t.svc.session = none) ∧
  (∀ (s : State) (n : Nat) (req : Requester) (u : State), s.phase = .run → s.boot.shipDue = some (n, req) → n ≤ s.now →
    s.shipBlock = 0 → s.shipAccept req = some u → Gives (.shipDelayExpiry) s fun t =>
      t.phase = .ship ∧ t.path.latchedEn = s.srcEn ∧ t.reg R.CONV_KEEP = s.reg R.CONV_KEEP ∧ t.lgr.bankA = u.lgr.bankA ∧
      t.lgr.bankB = u.lgr.bankB ∧ t.boot.core = false) ∧
  (∀ (s : State) (n : Nat) (req : Requester), s.phase = .run → s.boot.shipArmed = some (n, req) → n ≤ s.now →
    s.cmd.shipping = [] → Gives (.shipArmExpiry) s fun t =>
      t.boot.shipArmed = none ∧ t.flag F.SYS_EVENT_SHIP_REFUSED ∧ s.hands t K.SHIP_REFUSED [8, byte req.code]) ∧
  (∀ (s : State) (ms : Nat) (source : Bool) (bat : Nat) (ends : Bool), s.phase = .ship →
    Gives (.shipExitWake ms source bat ends) s fun t =>
      ((600 ≤ ms ∨ 400 ≤ ms ∧ ends) → (source ∨ 2800 ≤ bat) → t.phase = .startup ∧ t.regN R.SYS_RSTCAUSE = 9) ∧
      ((600 ≤ ms ∨ 400 ≤ ms ∧ ends) → source = false → bat < 2800 → t.phase = .off) ∧
      ((ms < 400 ∨ (ms < 600 ∧ ends = false)) → t = s) ∧ t.boot.slotA = s.boot.slotA) ∧
  (∀ (s : State) (x : Source) (mv ms : Nat) (attached : Bool) (bat : Nat), s.phase = .ship → s.latchedOn x →
    shipWindow x mv → 20 ≤ ms → (x = .vbus → attached) → Gives (.shipExitSource x mv ms attached bat) s fun t =>
      t.phase = .startup ∧ t.regN R.SYS_RSTCAUSE = 9 ∧ t.boot.slotA = s.boot.slotA) ∧
  (∀ (s : State) (x : Source) (mv ms : Nat) (attached : Bool) (bat : Nat), s.phase = .ship →
    (s.latchedOn x = false ∨ shipWindow x mv = false ∨ ms < 20 ∨ (x = .vbus ∧ attached = false)) →
    Gives (.shipExitSource x mv ms attached bat) s fun t =>
      t = s) ∧
  (∀ (s : State) (high : Bool), Gives (.wakePinChange high) s fun t =>
      t.pins = { s.pins with wake := high } ∧ t.regs = s.regs ∧ t.lgr = s.lgr ∧ t.phase = s.phase)
end

