-- ==== Sys2Proof/Laws/State.lean ====
section
/-!
SUPPORT. What the writers of the register file leave alone: every other field of the state, by rfl.
-/

-- proofs are elaborated one after another: many at once ask for more threads than a memory limit allows
set_option Elab.async false

namespace Sys2Proof.Machine

variable (s : State)

@[simp] theorem State.setReg_part (a : Nat) (v : Word) : (s.setReg a v).part = s.part := rfl
@[simp] theorem State.setReg_phase (a : Nat) (v : Word) : (s.setReg a v).phase = s.phase := rfl
@[simp] theorem State.setReg_now (a : Nat) (v : Word) : (s.setReg a v).now = s.now := rfl
@[simp] theorem State.setReg_free (a : Nat) (v : Word) : (s.setReg a v).free = s.free := rfl
@[simp] theorem State.setReg_ra (a : Nat) (v : Word) : (s.setReg a v).ra = s.ra := rfl
@[simp] theorem State.setReg_pins (a : Nat) (v : Word) : (s.setReg a v).pins = s.pins := rfl
@[simp] theorem State.setReg_boot (a : Nat) (v : Word) : (s.setReg a v).boot = s.boot := rfl
@[simp] theorem State.setReg_alm (a : Nat) (v : Word) : (s.setReg a v).alm = s.alm := rfl
@[simp] theorem State.setReg_path (a : Nat) (v : Word) : (s.setReg a v).path = s.path := rfl
@[simp] theorem State.setReg_conv (a : Nat) (v : Word) : (s.setReg a v).conv = s.conv := rfl
@[simp] theorem State.setReg_chg (a : Nat) (v : Word) : (s.setReg a v).chg = s.chg := rfl
@[simp] theorem State.setReg_link (a : Nat) (v : Word) : (s.setReg a v).link = s.link := rfl
@[simp] theorem State.setReg_mkt (a : Nat) (v : Word) : (s.setReg a v).mkt = s.mkt := rfl
@[simp] theorem State.setReg_vdt (a : Nat) (v : Word) : (s.setReg a v).vdt = s.vdt := rfl
@[simp] theorem State.setReg_cmd (a : Nat) (v : Word) : (s.setReg a v).cmd = s.cmd := rfl
@[simp] theorem State.setReg_thm (a : Nat) (v : Word) : (s.setReg a v).thm = s.thm := rfl
@[simp] theorem State.setReg_lgr (a : Nat) (v : Word) : (s.setReg a v).lgr = s.lgr := rfl
@[simp] theorem State.setReg_clk (a : Nat) (v : Word) : (s.setReg a v).clk = s.clk := rfl
@[simp] theorem State.setReg_wb (a : Nat) (v : Word) : (s.setReg a v).wb = s.wb := rfl
@[simp] theorem State.setReg_pd (a : Nat) (v : Word) : (s.setReg a v).pd = s.pd := rfl
@[simp] theorem State.setReg_svc (a : Nat) (v : Word) : (s.setReg a v).svc = s.svc := rfl
@[simp] theorem State.setReg_usb (a : Nat) (v : Word) : (s.setReg a v).usb = s.usb := rfl
@[simp] theorem State.setReg_opt (a : Nat) (v : Word) : (s.setReg a v).opt = s.opt := rfl
@[simp] theorem State.setReg_twb (a : Nat) (v : Word) : (s.setReg a v).twb = s.twb := rfl
@[simp] theorem State.setReg_pending (a : Nat) (v : Word) : (s.setReg a v).pending = s.pending := rfl

@[simp] theorem State.setFlag_part (f : Flag) (x : Bool) : (s.setFlag f x).part = s.part := rfl
@[simp] theorem State.setFlag_phase (f : Flag) (x : Bool) : (s.setFlag f x).phase = s.phase := rfl
@[simp] theorem State.setFlag_now (f : Flag) (x : Bool) : (s.setFlag f x).now = s.now := rfl
@[simp] theorem State.setFlag_free (f : Flag) (x : Bool) : (s.setFlag f x).free = s.free := rfl
@[simp] theorem State.setFlag_ra (f : Flag) (x : Bool) : (s.setFlag f x).ra = s.ra := rfl
@[simp] theorem State.setFlag_pins (f : Flag) (x : Bool) : (s.setFlag f x).pins = s.pins := rfl
@[simp] theorem State.setFlag_boot (f : Flag) (x : Bool) : (s.setFlag f x).boot = s.boot := rfl
@[simp] theorem State.setFlag_alm (f : Flag) (x : Bool) : (s.setFlag f x).alm = s.alm := rfl
@[simp] theorem State.setFlag_path (f : Flag) (x : Bool) : (s.setFlag f x).path = s.path := rfl
@[simp] theorem State.setFlag_conv (f : Flag) (x : Bool) : (s.setFlag f x).conv = s.conv := rfl
@[simp] theorem State.setFlag_chg (f : Flag) (x : Bool) : (s.setFlag f x).chg = s.chg := rfl
@[simp] theorem State.setFlag_link (f : Flag) (x : Bool) : (s.setFlag f x).link = s.link := rfl
@[simp] theorem State.setFlag_mkt (f : Flag) (x : Bool) : (s.setFlag f x).mkt = s.mkt := rfl
@[simp] theorem State.setFlag_vdt (f : Flag) (x : Bool) : (s.setFlag f x).vdt = s.vdt := rfl
@[simp] theorem State.setFlag_cmd (f : Flag) (x : Bool) : (s.setFlag f x).cmd = s.cmd := rfl
@[simp] theorem State.setFlag_thm (f : Flag) (x : Bool) : (s.setFlag f x).thm = s.thm := rfl
@[simp] theorem State.setFlag_lgr (f : Flag) (x : Bool) : (s.setFlag f x).lgr = s.lgr := rfl
@[simp] theorem State.setFlag_clk (f : Flag) (x : Bool) : (s.setFlag f x).clk = s.clk := rfl
@[simp] theorem State.setFlag_wb (f : Flag) (x : Bool) : (s.setFlag f x).wb = s.wb := rfl
@[simp] theorem State.setFlag_pd (f : Flag) (x : Bool) : (s.setFlag f x).pd = s.pd := rfl
@[simp] theorem State.setFlag_svc (f : Flag) (x : Bool) : (s.setFlag f x).svc = s.svc := rfl
@[simp] theorem State.setFlag_usb (f : Flag) (x : Bool) : (s.setFlag f x).usb = s.usb := rfl
@[simp] theorem State.setFlag_opt (f : Flag) (x : Bool) : (s.setFlag f x).opt = s.opt := rfl
@[simp] theorem State.setFlag_twb (f : Flag) (x : Bool) : (s.setFlag f x).twb = s.twb := rfl
@[simp] theorem State.setFlag_pending (f : Flag) (x : Bool) : (s.setFlag f x).pending = s.pending := rfl

@[simp] theorem State.setField_part (f : Field) (x : Nat) : (s.setField f x).part = s.part := rfl
@[simp] theorem State.setField_phase (f : Field) (x : Nat) : (s.setField f x).phase = s.phase := rfl
@[simp] theorem State.setField_now (f : Field) (x : Nat) : (s.setField f x).now = s.now := rfl
@[simp] theorem State.setField_free (f : Field) (x : Nat) : (s.setField f x).free = s.free := rfl
@[simp] theorem State.setField_ra (f : Field) (x : Nat) : (s.setField f x).ra = s.ra := rfl
@[simp] theorem State.setField_pins (f : Field) (x : Nat) : (s.setField f x).pins = s.pins := rfl
@[simp] theorem State.setField_boot (f : Field) (x : Nat) : (s.setField f x).boot = s.boot := rfl
@[simp] theorem State.setField_alm (f : Field) (x : Nat) : (s.setField f x).alm = s.alm := rfl
@[simp] theorem State.setField_path (f : Field) (x : Nat) : (s.setField f x).path = s.path := rfl
@[simp] theorem State.setField_conv (f : Field) (x : Nat) : (s.setField f x).conv = s.conv := rfl
@[simp] theorem State.setField_chg (f : Field) (x : Nat) : (s.setField f x).chg = s.chg := rfl
@[simp] theorem State.setField_link (f : Field) (x : Nat) : (s.setField f x).link = s.link := rfl
@[simp] theorem State.setField_mkt (f : Field) (x : Nat) : (s.setField f x).mkt = s.mkt := rfl
@[simp] theorem State.setField_vdt (f : Field) (x : Nat) : (s.setField f x).vdt = s.vdt := rfl
@[simp] theorem State.setField_cmd (f : Field) (x : Nat) : (s.setField f x).cmd = s.cmd := rfl
@[simp] theorem State.setField_thm (f : Field) (x : Nat) : (s.setField f x).thm = s.thm := rfl
@[simp] theorem State.setField_lgr (f : Field) (x : Nat) : (s.setField f x).lgr = s.lgr := rfl
@[simp] theorem State.setField_clk (f : Field) (x : Nat) : (s.setField f x).clk = s.clk := rfl
@[simp] theorem State.setField_wb (f : Field) (x : Nat) : (s.setField f x).wb = s.wb := rfl
@[simp] theorem State.setField_pd (f : Field) (x : Nat) : (s.setField f x).pd = s.pd := rfl
@[simp] theorem State.setField_svc (f : Field) (x : Nat) : (s.setField f x).svc = s.svc := rfl
@[simp] theorem State.setField_usb (f : Field) (x : Nat) : (s.setField f x).usb = s.usb := rfl
@[simp] theorem State.setField_opt (f : Field) (x : Nat) : (s.setField f x).opt = s.opt := rfl
@[simp] theorem State.setField_twb (f : Field) (x : Nat) : (s.setField f x).twb = s.twb := rfl
@[simp] theorem State.setField_pending (f : Field) (x : Nat) : (s.setField f x).pending = s.pending := rfl

@[simp] theorem State.event_part (f : Flag) : (s.event f).part = s.part := rfl
@[simp] theorem State.event_phase (f : Flag) : (s.event f).phase = s.phase := rfl
@[simp] theorem State.event_now (f : Flag) : (s.event f).now = s.now := rfl
@[simp] theorem State.event_free (f : Flag) : (s.event f).free = s.free := rfl
@[simp] theorem State.event_ra (f : Flag) : (s.event f).ra = s.ra := rfl
@[simp] theorem State.event_pins (f : Flag) : (s.event f).pins = s.pins := rfl
@[simp] theorem State.event_boot (f : Flag) : (s.event f).boot = s.boot := rfl
@[simp] theorem State.event_alm (f : Flag) : (s.event f).alm = s.alm := rfl
@[simp] theorem State.event_path (f : Flag) : (s.event f).path = s.path := rfl
@[simp] theorem State.event_conv (f : Flag) : (s.event f).conv = s.conv := rfl
@[simp] theorem State.event_chg (f : Flag) : (s.event f).chg = s.chg := rfl
@[simp] theorem State.event_link (f : Flag) : (s.event f).link = s.link := rfl
@[simp] theorem State.event_mkt (f : Flag) : (s.event f).mkt = s.mkt := rfl
@[simp] theorem State.event_vdt (f : Flag) : (s.event f).vdt = s.vdt := rfl
@[simp] theorem State.event_cmd (f : Flag) : (s.event f).cmd = s.cmd := rfl
@[simp] theorem State.event_thm (f : Flag) : (s.event f).thm = s.thm := rfl
@[simp] theorem State.event_lgr (f : Flag) : (s.event f).lgr = s.lgr := rfl
@[simp] theorem State.event_clk (f : Flag) : (s.event f).clk = s.clk := rfl
@[simp] theorem State.event_wb (f : Flag) : (s.event f).wb = s.wb := rfl
@[simp] theorem State.event_pd (f : Flag) : (s.event f).pd = s.pd := rfl
@[simp] theorem State.event_svc (f : Flag) : (s.event f).svc = s.svc := rfl
@[simp] theorem State.event_usb (f : Flag) : (s.event f).usb = s.usb := rfl
@[simp] theorem State.event_opt (f : Flag) : (s.event f).opt = s.opt := rfl
@[simp] theorem State.event_twb (f : Flag) : (s.event f).twb = s.twb := rfl
@[simp] theorem State.event_pending (f : Flag) : (s.event f).pending = s.pending := rfl

@[simp] theorem State.bump_part (a n : Nat) : (s.bump a n).part = s.part := rfl
@[simp] theorem State.bump_phase (a n : Nat) : (s.bump a n).phase = s.phase := rfl
@[simp] theorem State.bump_now (a n : Nat) : (s.bump a n).now = s.now := rfl
@[simp] theorem State.bump_free (a n : Nat) : (s.bump a n).free = s.free := rfl
@[simp] theorem State.bump_ra (a n : Nat) : (s.bump a n).ra = s.ra := rfl
@[simp] theorem State.bump_pins (a n : Nat) : (s.bump a n).pins = s.pins := rfl
@[simp] theorem State.bump_boot (a n : Nat) : (s.bump a n).boot = s.boot := rfl
@[simp] theorem State.bump_alm (a n : Nat) : (s.bump a n).alm = s.alm := rfl
@[simp] theorem State.bump_path (a n : Nat) : (s.bump a n).path = s.path := rfl
@[simp] theorem State.bump_conv (a n : Nat) : (s.bump a n).conv = s.conv := rfl
@[simp] theorem State.bump_chg (a n : Nat) : (s.bump a n).chg = s.chg := rfl
@[simp] theorem State.bump_link (a n : Nat) : (s.bump a n).link = s.link := rfl
@[simp] theorem State.bump_mkt (a n : Nat) : (s.bump a n).mkt = s.mkt := rfl
@[simp] theorem State.bump_vdt (a n : Nat) : (s.bump a n).vdt = s.vdt := rfl
@[simp] theorem State.bump_cmd (a n : Nat) : (s.bump a n).cmd = s.cmd := rfl
@[simp] theorem State.bump_thm (a n : Nat) : (s.bump a n).thm = s.thm := rfl
@[simp] theorem State.bump_lgr (a n : Nat) : (s.bump a n).lgr = s.lgr := rfl
@[simp] theorem State.bump_clk (a n : Nat) : (s.bump a n).clk = s.clk := rfl
@[simp] theorem State.bump_wb (a n : Nat) : (s.bump a n).wb = s.wb := rfl
@[simp] theorem State.bump_pd (a n : Nat) : (s.bump a n).pd = s.pd := rfl
@[simp] theorem State.bump_svc (a n : Nat) : (s.bump a n).svc = s.svc := rfl
@[simp] theorem State.bump_usb (a n : Nat) : (s.bump a n).usb = s.usb := rfl
@[simp] theorem State.bump_opt (a n : Nat) : (s.bump a n).opt = s.opt := rfl
@[simp] theorem State.bump_twb (a n : Nat) : (s.bump a n).twb = s.twb := rfl
@[simp] theorem State.bump_pending (a n : Nat) : (s.bump a n).pending = s.pending := rfl

@[simp] theorem State.setMapBit_part (a addr : Nat) (x : Bool) : (s.setMapBit a addr x).part = s.part := rfl
@[simp] theorem State.setMapBit_phase (a addr : Nat) (x : Bool) : (s.setMapBit a addr x).phase = s.phase := rfl
@[simp] theorem State.setMapBit_now (a addr : Nat) (x : Bool) : (s.setMapBit a addr x).now = s.now := rfl
@[simp] theorem State.setMapBit_free (a addr : Nat) (x : Bool) : (s.setMapBit a addr x).free = s.free := rfl
@[simp] theorem State.setMapBit_ra (a addr : Nat) (x : Bool) : (s.setMapBit a addr x).ra = s.ra := rfl
@[simp] theorem State.setMapBit_pins (a addr : Nat) (x : Bool) : (s.setMapBit a addr x).pins = s.pins := rfl
@[simp] theorem State.setMapBit_boot (a addr : Nat) (x : Bool) : (s.setMapBit a addr x).boot = s.boot := rfl
@[simp] theorem State.setMapBit_alm (a addr : Nat) (x : Bool) : (s.setMapBit a addr x).alm = s.alm := rfl
@[simp] theorem State.setMapBit_path (a addr : Nat) (x : Bool) : (s.setMapBit a addr x).path = s.path := rfl
@[simp] theorem State.setMapBit_conv (a addr : Nat) (x : Bool) : (s.setMapBit a addr x).conv = s.conv := rfl
@[simp] theorem State.setMapBit_chg (a addr : Nat) (x : Bool) : (s.setMapBit a addr x).chg = s.chg := rfl
@[simp] theorem State.setMapBit_link (a addr : Nat) (x : Bool) : (s.setMapBit a addr x).link = s.link := rfl
@[simp] theorem State.setMapBit_mkt (a addr : Nat) (x : Bool) : (s.setMapBit a addr x).mkt = s.mkt := rfl
@[simp] theorem State.setMapBit_vdt (a addr : Nat) (x : Bool) : (s.setMapBit a addr x).vdt = s.vdt := rfl
@[simp] theorem State.setMapBit_cmd (a addr : Nat) (x : Bool) : (s.setMapBit a addr x).cmd = s.cmd := rfl
@[simp] theorem State.setMapBit_thm (a addr : Nat) (x : Bool) : (s.setMapBit a addr x).thm = s.thm := rfl
@[simp] theorem State.setMapBit_lgr (a addr : Nat) (x : Bool) : (s.setMapBit a addr x).lgr = s.lgr := rfl
@[simp] theorem State.setMapBit_clk (a addr : Nat) (x : Bool) : (s.setMapBit a addr x).clk = s.clk := rfl
@[simp] theorem State.setMapBit_wb (a addr : Nat) (x : Bool) : (s.setMapBit a addr x).wb = s.wb := rfl
@[simp] theorem State.setMapBit_pd (a addr : Nat) (x : Bool) : (s.setMapBit a addr x).pd = s.pd := rfl
@[simp] theorem State.setMapBit_svc (a addr : Nat) (x : Bool) : (s.setMapBit a addr x).svc = s.svc := rfl
@[simp] theorem State.setMapBit_usb (a addr : Nat) (x : Bool) : (s.setMapBit a addr x).usb = s.usb := rfl
@[simp] theorem State.setMapBit_opt (a addr : Nat) (x : Bool) : (s.setMapBit a addr x).opt = s.opt := rfl
@[simp] theorem State.setMapBit_twb (a addr : Nat) (x : Bool) : (s.setMapBit a addr x).twb = s.twb := rfl
@[simp] theorem State.setMapBit_pending (a addr : Nat) (x : Bool) : (s.setMapBit a addr x).pending = s.pending := rfl

end Sys2Proof.Machine
end

