-- ==== Sys2Proof/Laws/Regs.lean ====
section
/-!
SUPPORT. The register file: what a register, a flag or a field reads as after one of them has been written, and that every
write keeps the canonical form.
-/

-- proofs are elaborated one after another: many at once ask for more threads than a memory limit allows
set_option Elab.async false

namespace Sys2Proof.Machine

/-! ## Read after write -/

theorem regGet_regInsert (a : Nat) (v : Word) (b : Nat) (l : List (Nat × Word)) (h : ∀ p ∈ l, p.1 ≠ a) :
    regGet (regInsert a v l) b = if b = a then v else regGet l b := by
  induction l with
  | nil =>
    by_cases hb : b = a
    · simp [regInsert, regGet, hb]
    · simp [regInsert, regGet, hb, Ne.symm hb]
  | cons p l ih =>
    have hp : p.1 ≠ a := h p (by simp)
    have hl := ih fun q hq => h q (by simp [hq])
    unfold regInsert
    split
    · by_cases hb : b = a
      · simp [regGet, hb]
      · simp [regGet, hb, Ne.symm hb]
    · by_cases hpb : p.1 = b
      · have hba : b ≠ a := fun e => hp (hpb.trans e)
        simp [regGet, hpb, hba]
      · have : (p.1 == b) = false := by simpa using hpb
        simp only [regGet, List.find?_cons, this] at hl ⊢
        exact hl

theorem regGet_filter (a b : Nat) (l : List (Nat × Word)) (h : b ≠ a) :
    regGet (l.filter fun p => p.1 != a) b = regGet l b := by
  induction l with
  | nil => rfl
  | cons p l ih =>
    by_cases hp : p.1 = a
    · have hb : (p.1 == b) = false := by simp [hp, Ne.symm h]
      rw [List.filter_cons_of_neg (by simp [hp])]
      simpa [regGet, hb] using ih
    · rw [List.filter_cons_of_pos (by simp [hp])]
      by_cases hb : p.1 = b
      · simp [regGet, hb]
      · have hb' : (p.1 == b) = false := by simpa using hb
        simpa [regGet, hb'] using ih

/-- A register after a write: the value where it is the one written, what it was elsewhere. -/
theorem regGet_regPut (l : List (Nat × Word)) (a : Nat) (v : Word) (b : Nat) :
    regGet (regPut l a v) b = if b = a then v else regGet l b := by
  have hno : ∀ p ∈ l.filter (fun p => p.1 != a), p.1 ≠ a := fun p hp => by simpa using (List.mem_filter.1 hp).2
  unfold regPut
  split
  · rename_i hv
    by_cases hb : b = a
    · have : (l.filter fun p => p.1 != a).find? (fun p => p.1 == b) = none := by
        rw [List.find?_eq_none]
        intro p hp
        simpa [hb] using hno p hp
      unfold regGet
      rw [this]
      simp [hb, hv]
    · simp [regGet_filter a b l hb, hb]
  · rw [regGet_regInsert a v b _ hno]
    by_cases hb : b = a
    · simp [hb]
    · simp [hb, regGet_filter a b l hb]

variable (s : State)

/-- A register after a write. -/
theorem State.reg_setReg (a : Nat) (v : Word) (b : Nat) :
    (s.setReg a v).reg b = if b = a then v else s.reg b := regGet_regPut s.regs a v b

@[simp] theorem State.reg_setReg_same (a : Nat) (v : Word) : (s.setReg a v).reg a = v := by simp [State.reg_setReg]

/-- A write leaves every other register alone. -/
theorem State.reg_setReg_ne (a : Nat) (v : Word) {b : Nat} (h : b ≠ a) : (s.setReg a v).reg b = s.reg b := by
  simp [State.reg_setReg, h]

theorem State.reg_setFlag (f : Flag) (x : Bool) (b : Nat) :
    (s.setFlag f x).reg b = if b = f.reg then setBitOf (s.reg f.reg) f.bit x else s.reg b := s.reg_setReg _ _ _

theorem State.reg_setField (f : Field) (x b : Nat) :
    (s.setField f x).reg b = if b = f.reg then putFieldOf (s.reg f.reg) f.lo f.width x else s.reg b := s.reg_setReg _ _ _

theorem State.reg_event (f : Flag) (b : Nat) :
    (s.event f).reg b = if b = f.reg then setBitOf (s.reg f.reg) f.bit true else s.reg b := s.reg_setFlag f true b

theorem State.reg_bump (a n b : Nat) :
    (s.bump a n).reg b = if b = a then sat16 (s.regN a + n) else s.reg b := s.reg_setReg _ _ _

/-! ## Bits of a register value -/

theorem bitOf_setBitOf (v : Word) (b : Nat) (x : Bool) (c : Nat) (hb : b < 16) :
    bitOf (setBitOf v b x) c = if c = b then x else bitOf v c := by
  unfold bitOf setBitOf
  have h1 : (1#16 <<< b).getLsbD c = decide (c = b) := by
    by_cases h : c = b
    · subst h; simp [hb]
    · by_cases h' : c < b
      · simp [h, h']
      · have : c - b ≠ 0 := by omega
        simp [h, this]
  cases x
  · simp only [Bool.false_eq_true, if_false, BitVec.getLsbD_and, BitVec.getLsbD_not, h1]
    by_cases h : c = b
    · simp [h]
    · by_cases hc : c < 16
      · simp [h, hc]
      · simp [h, BitVec.getLsbD_of_ge v c (by omega)]
  · simp only [if_true, BitVec.getLsbD_or, h1]
    by_cases h : c = b <;> simp [h]

/-- A flag after a flag has been written. -/
theorem State.flag_setFlag (f : Flag) (x : Bool) (g : Flag) (hf : f.bit < 16) :
    (s.setFlag f x).flag g = if g = f then x else s.flag g := by
  unfold State.flag
  rw [State.reg_setFlag]
  by_cases hr : g.reg = f.reg
  · by_cases hb : g.bit = f.bit
    · have : g = f := by cases f; cases g; simp_all
      simp [this, bitOf_setBitOf _ _ _ _ hf]
    · have : g ≠ f := fun e => hb (by rw [e])
      simp [hr, this, bitOf_setBitOf _ _ _ _ hf, hb]
  · have : g ≠ f := fun e => hr (by rw [e])
    simp [hr, this]

/-- A flag after an event. -/
theorem State.flag_event (f g : Flag) (hf : f.bit < 16) :
    (s.event f).flag g = if g = f then true else s.flag g := s.flag_setFlag f true g hf

/-- A flag after another register has been written. -/
theorem State.flag_setReg_ne (a : Nat) (v : Word) (g : Flag) (h : g.reg ≠ a) : (s.setReg a v).flag g = s.flag g := by
  simp [State.flag, State.reg_setReg, h]

/-- A number put into a field is the field's number, as far as it fits. -/
theorem fieldOf_putFieldOf (v : Word) (lo width x : Nat) (h : lo + width ≤ 16) :
    fieldOf (putFieldOf v lo width x) lo width = x % 2 ^ width := by
  unfold fieldOf putFieldOf
  apply Nat.eq_of_testBit_eq
  intro i
  rw [Nat.testBit_mod_two_pow, Nat.testBit_mod_two_pow]
  by_cases hi : i < width
  · have h16 : i + lo < 16 := by omega
    simp only [hi, decide_true, Bool.true_and, Nat.testBit_div_two_pow, BitVec.testBit_toNat, BitVec.getLsbD_or,
      BitVec.getLsbD_and, BitVec.getLsbD_not, BitVec.getLsbD_shiftLeft, BitVec.getLsbD_ofNat]
    have e1 : i + lo - lo = i := by omega
    have e2 : i < 16 := by omega
    simp [h16, e1, e2, Nat.testBit_mod_two_pow, hi, Nat.testBit_two_pow_sub_one]
  · simp [hi]

/-- A field after it has been written. -/
theorem State.field_setField (f : Field) (x : Nat) (h : f.lo + f.width ≤ 16) :
    (s.setField f x).field f = x % 2 ^ f.width := by
  simp [State.field, State.reg_setField, fieldOf_putFieldOf _ _ _ _ h]

/-- A field after another register has been written. -/
theorem State.field_setReg_ne (a : Nat) (v : Word) (g : Field) (h : g.reg ≠ a) :
    (s.setReg a v).field g = s.field g := by
  simp [State.field, State.reg_setReg, h]

/-! ## The canonical form -/

theorem regsWf_filter (p : Nat × Word → Bool) (l : List (Nat × Word)) (h : regsWf l = true) :
    regsWf (l.filter p) = true := by
  induction l with
  | nil => rfl
  | cons q l ih =>
    simp only [regsWf, Bool.and_eq_true, List.all_eq_true] at h
    have hl := ih h.2
    by_cases hq : p q
    · rw [List.filter_cons_of_pos hq]
      simp only [regsWf, Bool.and_eq_true, List.all_eq_true]
      exact ⟨⟨h.1.1, fun r hr => h.1.2 r (List.mem_filter.1 hr).1⟩, hl⟩
    · rw [List.filter_cons_of_neg hq]; exact hl

theorem mem_regInsert (a : Nat) (v : Word) (l : List (Nat × Word)) (q : Nat × Word) (h : q ∈ regInsert a v l) :
    q = (a, v) ∨ q ∈ l := by
  induction l with
  | nil => simpa [regInsert] using h
  | cons p l ih =>
    unfold regInsert at h
    split at h
    · simpa using h
    · rcases List.mem_cons.1 h with e | e
      · exact .inr (by simp [e])
      · rcases ih e with e | e
        · exact .inl e
        · exact .inr (by simp [e])

theorem regsWf_regInsert (a : Nat) (v : Word) (l : List (Nat × Word)) (hl : regsWf l = true)
    (hn : ∀ p ∈ l, p.1 ≠ a) (hv : v ≠ resetVal a) : regsWf (regInsert a v l) = true := by
  induction l with
  | nil => simp [regInsert, regsWf, hv]
  | cons p l ih =>
    have hp := hn p (by simp)
    have hl' := hl
    simp only [regsWf, Bool.and_eq_true, List.all_eq_true, decide_eq_true_eq] at hl'
    unfold regInsert
    split
    · rename_i hlt
      simp only [regsWf, Bool.and_eq_true, List.all_eq_true, decide_eq_true_eq, bne_iff_ne]
      refine ⟨⟨hv, fun q hq => ?_⟩, ⟨⟨by simpa using hl'.1.1, hl'.1.2⟩, hl'.2⟩⟩
      rcases List.mem_cons.1 hq with e | e
      · simpa [e] using hlt
      · exact Nat.lt_trans hlt (hl'.1.2 q e)
    · rename_i hge
      simp only [regsWf, Bool.and_eq_true, List.all_eq_true, decide_eq_true_eq]
      refine ⟨⟨hl'.1.1, fun q hq => ?_⟩, ih hl'.2 fun q hq => hn q (by simp [hq])⟩
      rcases mem_regInsert a v l q hq with e | e
      · subst e; show p.1 < a; omega
      · exact hl'.1.2 q e

/-- A write keeps the canonical form of the register file. -/
theorem regsWf_regPut (l : List (Nat × Word)) (a : Nat) (v : Word) (h : regsWf l = true) :
    regsWf (regPut l a v) = true := by
  unfold regPut
  split
  · exact regsWf_filter _ l h
  · rename_i hv
    exact regsWf_regInsert a v _ (regsWf_filter _ l h) (fun p hp => by simpa using (List.mem_filter.1 hp).2) hv

end Sys2Proof.Machine
end

