-- ==== Sys2Proof/Laws/Stores.lean ====
section
/-!
SUPPORT. The stores: a slot write keeps a bank's canonical form, and a byte put into the staging area keeps its form.
-/

-- proofs are elaborated one after another: many at once ask for more threads than a memory limit allows
set_option Elab.async false

namespace Sys2Proof.Machine

/-! ## The banks -/

theorem bankWf_filter (p : SlotCell → Bool) (l : List SlotCell) (h : bankWf l = true) : bankWf (l.filter p) = true := by
  induction l with
  | nil => rfl
  | cons q l ih =>
    simp only [bankWf, Bool.and_eq_true, List.all_eq_true] at h
    by_cases hq : p q
    · rw [List.filter_cons_of_pos hq]
      simp only [bankWf, Bool.and_eq_true, List.all_eq_true]
      exact ⟨⟨h.1.1, fun r hr => h.1.2 r (List.mem_filter.1 hr).1⟩, ih h.2⟩
    · rw [List.filter_cons_of_neg hq]; exact ih h.2

theorem mem_slotInsert (i : Nat) (b : List Byte) (l : List SlotCell) (q : SlotCell) (h : q ∈ slotInsert i b l) :
    q = (i, b) ∨ q ∈ l := by
  induction l with
  | nil => simpa [slotInsert] using h
  | cons p l ih =>
    unfold slotInsert at h
    split at h
    · simpa using h
    · rcases List.mem_cons.1 h with e | e
      · exact .inr (by simp [e])
      · rcases ih e with e | e
        · exact .inl e
        · exact .inr (by simp [e])

theorem bankWf_slotInsert (i : Nat) (b : List Byte) (l : List SlotCell) (hl : bankWf l = true)
    (hn : ∀ p ∈ l, p.1 ≠ i) (hv : slotOk (i, b) = true) : bankWf (slotInsert i b l) = true := by
  induction l with
  | nil => simp [slotInsert, bankWf, hv]
  | cons p l ih =>
    have hp := hn p (by simp)
    have hl' := hl
    simp only [bankWf, Bool.and_eq_true, List.all_eq_true, decide_eq_true_eq] at hl'
    unfold slotInsert
    split
    · rename_i hlt
      simp only [bankWf, Bool.and_eq_true, List.all_eq_true, decide_eq_true_eq]
      refine ⟨⟨hv, fun q hq => ?_⟩, ⟨⟨hl'.1.1, hl'.1.2⟩, hl'.2⟩⟩
      rcases List.mem_cons.1 hq with e | e
      · simpa [e] using hlt
      · exact Nat.lt_trans hlt (hl'.1.2 q e)
    · rename_i hge
      simp only [bankWf, Bool.and_eq_true, List.all_eq_true, decide_eq_true_eq]
      refine ⟨⟨hl'.1.1, fun q hq => ?_⟩, ih hl'.2 fun q hq => hn q (by simp [hq])⟩
      rcases mem_slotInsert i b l q hq with e | e
      · subst e; show p.1 < i; omega
      · exact hl'.1.2 q e

theorem padTo_length (n : Nat) (l : List Byte) : (padTo n l).length = n := by simp [padTo]

/-- A slot write keeps a bank's canonical form. -/
theorem bankWf_slotPut (l : List SlotCell) (i : Nat) (b : List Byte) (h : bankWf l = true) :
    bankWf (slotPut l i b) = true := by
  unfold slotPut
  extract_lets
  split
  · exact bankWf_filter _ _ h
  · rename_i hv
    exact bankWf_slotInsert _ _ _ (bankWf_filter _ _ h) (fun p hp => by simpa using (List.mem_filter.1 hp).2)
      (by simp [slotOk, padTo_length, hv, Nat.mod_lt])

/-! ## The staging area -/

/-- Every byte put into the staging area keeps its canonical form. -/
theorem stageWf_stagePut (l : List Host.Cell) (i : Nat) (b : Byte) (h : stageWf l = true) :
    stageWf (stagePut l i b) = true := by
  have hf : ∀ (p : Host.Cell → Bool) (l : List Host.Cell), stageWf l = true → stageWf (l.filter p) = true := by
    intro p l
    induction l with
    | nil => intro _; rfl
    | cons q l ih =>
      intro h
      simp only [stageWf, Bool.and_eq_true, List.all_eq_true] at h
      by_cases hq : p q
      · rw [List.filter_cons_of_pos hq]
        simp only [stageWf, Bool.and_eq_true, List.all_eq_true]
        exact ⟨⟨h.1.1, fun r hr => h.1.2 r (List.mem_filter.1 hr).1⟩, ih h.2⟩
      · rw [List.filter_cons_of_neg hq]; exact ih h.2
  have hins : ∀ l : List Host.Cell, stageWf l = true → (∀ q ∈ l, q.1 ≠ i) → b ≠ 0 →
      stageWf ((l.takeWhile fun c => decide (c.1 < i)) ++ (i, b) :: (l.dropWhile fun c => decide (c.1 < i))) = true := by
    intro l
    induction l with
    | nil => intro _ _ hb; simpa [stageWf] using hb
    | cons q l ih =>
      intro h hn hb
      have h' := h
      simp only [stageWf, Bool.and_eq_true, List.all_eq_true, decide_eq_true_eq] at h'
      by_cases hq : q.1 < i
      · simp only [List.takeWhile_cons, List.dropWhile_cons, hq, decide_true, if_true, List.cons_append, stageWf,
          Bool.and_eq_true, List.all_eq_true, decide_eq_true_eq]
        refine ⟨⟨h'.1.1, fun r hr => ?_⟩, ih h'.2 (fun r hr => hn r (by simp [hr])) hb⟩
        rcases List.mem_append.1 hr with e | e
        · exact h'.1.2 r ((List.takeWhile_sublist _).subset e)
        · rcases List.mem_cons.1 e with e | e
          · simpa [e] using hq
          · exact h'.1.2 r ((List.dropWhile_sublist _).subset e)
      · have hlt : i < q.1 := by have := hn q (by simp); omega
        simp only [List.takeWhile_cons, List.dropWhile_cons, hq, decide_false, Bool.false_eq_true, if_false,
          List.nil_append]
        simp only [stageWf, Bool.and_eq_true, List.all_eq_true, decide_eq_true_eq] at h ⊢
        refine ⟨⟨by simpa using hb, fun r hr => ?_⟩, h⟩
        rcases List.mem_cons.1 hr with e | e
        · simpa [e] using hlt
        · exact Nat.lt_trans hlt (h'.1.2 r e)
  unfold stagePut
  extract_lets
  split
  · exact hf _ l h
  · rename_i hb
    exact hins _ (hf _ l h) (fun q hq => by simpa using (List.mem_filter.1 hq).2) hb

end Sys2Proof.Machine
end

