-- ==== Sys2Proof/Laws/Touch.lean ====
section
/-!
SUPPORT. What an operation can do, said once for each: `Touch l s t` lists the registers and the parts of the state in which
`t` may differ from `s`, and says that the unit, its queue and the form of its stores are kept. Registers are listed by
address, parts of the state by a code from 0x1400 on; the code 0x1430 stands for any register at all. This file has the
relation and its rules for each way a state is built; the files Touch* carry one lemma for each operation.
-/

-- proofs are elaborated one after another: many at once ask for more threads than a memory limit allows
set_option Elab.async false

namespace Sys2Proof.Machine

/-- `t` is the unit `s`, differing at most in what `l` lists, with its stores in canonical form if those of `s` are. -/
structure Touch (l : List Nat) (s t : State) : Prop where
  part : t.part = s.part
  pending : t.pending = s.pending
  reg : ∀ a, a ∉ l → 0x1430 ∉ l → t.reg a = s.reg a
  phase : 0x1400 ∉ l → t.phase = s.phase
  now : 0x1401 ∉ l → t.now = s.now
  free : 0x1402 ∉ l → t.free = s.free
  ra : 0x1403 ∉ l → t.ra = s.ra
  pins : 0x1404 ∉ l → t.pins = s.pins
  boot : 0x1405 ∉ l → t.boot = s.boot
  alm : 0x1406 ∉ l → t.alm = s.alm
  path : 0x1407 ∉ l → t.path = s.path
  conv : 0x1408 ∉ l → t.conv = s.conv
  chg : 0x1409 ∉ l → t.chg = s.chg
  link : 0x140a ∉ l → t.link = s.link
  mkt : 0x140b ∉ l → t.mkt = s.mkt
  vdt : 0x140c ∉ l → t.vdt = s.vdt
  cmd : 0x140d ∉ l → t.cmd = s.cmd
  thm : 0x140e ∉ l → t.thm = s.thm
  lgr : 0x140f ∉ l → t.lgr = s.lgr
  clk : 0x1410 ∉ l → t.clk = s.clk
  wb : 0x1411 ∉ l → t.wb = s.wb
  pd : 0x1412 ∉ l → t.pd = s.pd
  svc : 0x1413 ∉ l → t.svc = s.svc
  usb : 0x1414 ∉ l → t.usb = s.usb
  opt : 0x1415 ∉ l → t.opt = s.opt
  twb : 0x1416 ∉ l → t.twb = s.twb
  banks : 0x1417 ∉ l → t.lgr.bankA = s.lgr.bankA ∧ t.lgr.bankB = s.lgr.bankB
  stage : 0x1418 ∉ l → t.boot.stage = s.boot.stage
  canon : s.canonical = true → t.canonical = true

/-! ## Lists of what is touched -/

/-- A list as a number with the bits of its entries set, so that inclusion is one operation on numbers. -/
def maskOf : List Nat → Nat
  | [] => 0
  | a :: l => Nat.lor (Nat.shiftLeft 1 a) (maskOf l)

/-- Everything `a` lists, `b` lists. -/
def Sub (a b : List Nat) : Prop := ∀ x ∈ a, x ∈ b

theorem testBit_maskOf (l : List Nat) (x : Nat) : (maskOf l).testBit x = true ↔ x ∈ l := by
  induction l with
  | nil => simp [maskOf]
  | cons a l ih =>
    have : maskOf (a :: l) = 2 ^ a ||| maskOf l := by rw [← Nat.one_shiftLeft]; rfl
    rw [this, Nat.testBit_or, Bool.or_eq_true, ih, Nat.testBit_two_pow, List.mem_cons, decide_eq_true_eq, eq_comm]

theorem Sub.of {a b : List Nat} (hb : Nat.beq (Nat.land (maskOf a) (maskOf b)) (maskOf a) = true) : Sub a b := fun x hx => by
  have h : maskOf a &&& maskOf b = maskOf a := Nat.eq_of_beq_eq_true hb
  have h1 := (testBit_maskOf a x).2 hx
  rw [← h, Nat.testBit_and, Bool.and_eq_true] at h1
  exact (testBit_maskOf b x).1 h1.2

theorem Sub.trans {a b c : List Nat} (h : Sub a b) (h' : Sub b c) : Sub a c := fun x hx => h' x (h x hx)

theorem Sub.refl (a : List Nat) : Sub a a := fun _ hx => hx

theorem Sub.mem {a b : List Nat} {x : Nat} (h : Sub a b) (hx : Nat.beq (Nat.land (Nat.shiftRight (maskOf a) x) 1) 1 = true) : x ∈ b := by
  refine h x ((testBit_maskOf a x).1 ?_)
  have e : maskOf a >>> x &&& 1 = 1 := Nat.eq_of_beq_eq_true hx
  rw [Nat.testBit, Nat.and_comm, e]
  rfl

/-- The register `a` may be written. -/
def Writes (l : List Nat) (a : Nat) : Prop := a ∈ l ∨ 0x1430 ∈ l

theorem Writes.four {W : List Nat} {a i : Nat} (h0 : Writes W a) (h1 : Writes W (a + 1)) (h2 : Writes W (a + 2))
    (h3 : Writes W (a + 3)) : Writes W (a + i % 4) := by
  have : i % 4 < 4 := by omega
  generalize i % 4 = k at this
  match k, this with
  | 0, _ => exact h0
  | 1, _ => exact h1
  | 2, _ => exact h2
  | 3, _ => exact h3

/-! ## How a state is built -/

theorem Touch.refl (l : List Nat) (s : State) : Touch l s s := by
  constructor <;> intros <;> first | rfl | exact ⟨rfl, rfl⟩ | assumption

theorem Touch.mono {l m : List Nat} {s t : State} (h : Touch l s t) (hlm : Sub l m) : Touch m s t where
  part := h.part
  pending := h.pending
  reg a ha hn := h.reg a (fun e => ha (hlm a e)) (fun e => hn (hlm _ e))
  phase hn := h.phase fun e => hn (hlm _ e)
  now hn := h.now fun e => hn (hlm _ e)
  free hn := h.free fun e => hn (hlm _ e)
  ra hn := h.ra fun e => hn (hlm _ e)
  pins hn := h.pins fun e => hn (hlm _ e)
  boot hn := h.boot fun e => hn (hlm _ e)
  alm hn := h.alm fun e => hn (hlm _ e)
  path hn := h.path fun e => hn (hlm _ e)
  conv hn := h.conv fun e => hn (hlm _ e)
  chg hn := h.chg fun e => hn (hlm _ e)
  link hn := h.link fun e => hn (hlm _ e)
  mkt hn := h.mkt fun e => hn (hlm _ e)
  vdt hn := h.vdt fun e => hn (hlm _ e)
  cmd hn := h.cmd fun e => hn (hlm _ e)
  thm hn := h.thm fun e => hn (hlm _ e)
  lgr hn := h.lgr fun e => hn (hlm _ e)
  clk hn := h.clk fun e => hn (hlm _ e)
  wb hn := h.wb fun e => hn (hlm _ e)
  pd hn := h.pd fun e => hn (hlm _ e)
  svc hn := h.svc fun e => hn (hlm _ e)
  usb hn := h.usb fun e => hn (hlm _ e)
  opt hn := h.opt fun e => hn (hlm _ e)
  twb hn := h.twb fun e => hn (hlm _ e)
  banks hn := h.banks fun e => hn (hlm _ e)
  stage hn := h.stage fun e => hn (hlm _ e)
  canon := h.canon

theorem Touch.trans {l : List Nat} {s t u : State} (h : Touch l s t) (h' : Touch l t u) : Touch l s u where
  part := h'.part.trans h.part
  pending := h'.pending.trans h.pending
  reg a ha hn := (h'.reg a ha hn).trans (h.reg a ha hn)
  phase hn := (h'.phase hn).trans (h.phase hn)
  now hn := (h'.now hn).trans (h.now hn)
  free hn := (h'.free hn).trans (h.free hn)
  ra hn := (h'.ra hn).trans (h.ra hn)
  pins hn := (h'.pins hn).trans (h.pins hn)
  boot hn := (h'.boot hn).trans (h.boot hn)
  alm hn := (h'.alm hn).trans (h.alm hn)
  path hn := (h'.path hn).trans (h.path hn)
  conv hn := (h'.conv hn).trans (h.conv hn)
  chg hn := (h'.chg hn).trans (h.chg hn)
  link hn := (h'.link hn).trans (h.link hn)
  mkt hn := (h'.mkt hn).trans (h.mkt hn)
  vdt hn := (h'.vdt hn).trans (h.vdt hn)
  cmd hn := (h'.cmd hn).trans (h.cmd hn)
  thm hn := (h'.thm hn).trans (h.thm hn)
  lgr hn := (h'.lgr hn).trans (h.lgr hn)
  clk hn := (h'.clk hn).trans (h.clk hn)
  wb hn := (h'.wb hn).trans (h.wb hn)
  pd hn := (h'.pd hn).trans (h.pd hn)
  svc hn := (h'.svc hn).trans (h.svc hn)
  usb hn := (h'.usb hn).trans (h.usb hn)
  opt hn := (h'.opt hn).trans (h.opt hn)
  twb hn := (h'.twb hn).trans (h.twb hn)
  stage hn := (h'.stage hn).trans (h.stage hn)
  banks hn := ⟨(h'.banks hn).1.trans (h.banks hn).1, (h'.banks hn).2.trans (h.banks hn).2⟩
  canon hc := h'.canon (h.canon hc)

/-- A state of which only the register file is another, still in canonical form. -/
theorem Touch.regs {W : List Nat} {s0 s : State} (h : Touch W s0 s) {l : List (Nat × Word)}
    (hr : ∀ a, a ∉ W → 0x1430 ∉ W → regGet l a = regGet s.regs a) (hl : regsWf s.regs = true → regsWf l = true) :
    Touch W s0 { s with regs := l } :=
  { h with
    reg := fun a ha hn => (hr a ha hn).trans (h.reg a ha hn)
    canon := fun h0 => by
      have hc := h.canon h0
      simp only [State.canonical, Bool.and_eq_true] at hc ⊢
      exact ⟨⟨⟨hl hc.1.1.1, hc.1.1.2⟩, hc.1.2⟩, hc.2⟩ }

/-- A record update: every part is as it was, or listed; the banks are as they were; the staging area too, or emptied. -/
theorem Touch.update {W : List Nat} {s0 s : State} (h : Touch W s0 s) {phase : Phase} {now : Nat} {free : Nat} {ra : RegLogic} {pins : Pins} {boot : Boot} {alm : Alarm} {path : Path} {conv : Conv} {chg : Chg} {link : Link} {mkt : Mkt} {vdt : Vdt} {cmd : Cmd} {thm : Thm} {lgr : Ledger} {clk : Clk} {wb : Wb} {pd : Pd} {svc : Svc} {usb : Usb} {opt : Opt} {twb : Twb}
    (h_phase : phase = s.phase ∨ 0x1400 ∈ W := by first | exact Or.inl rfl | exact Or.inr (by assumption))
    (h_now : now = s.now ∨ 0x1401 ∈ W := by first | exact Or.inl rfl | exact Or.inr (by assumption))
    (h_free : free = s.free ∨ 0x1402 ∈ W := by first | exact Or.inl rfl | exact Or.inr (by assumption))
    (h_ra : ra = s.ra ∨ 0x1403 ∈ W := by first | exact Or.inl rfl | exact Or.inr (by assumption))
    (h_pins : pins = s.pins ∨ 0x1404 ∈ W := by first | exact Or.inl rfl | exact Or.inr (by assumption))
    (h_boot : boot = s.boot ∨ 0x1405 ∈ W := by first | exact Or.inl rfl | exact Or.inr (by assumption))
    (h_alm : alm = s.alm ∨ 0x1406 ∈ W := by first | exact Or.inl rfl | exact Or.inr (by assumption))
    (h_path : path = s.path ∨ 0x1407 ∈ W := by first | exact Or.inl rfl | exact Or.inr (by assumption))
    (h_conv : conv = s.conv ∨ 0x1408 ∈ W := by first | exact Or.inl rfl | exact Or.inr (by assumption))
    (h_chg : chg = s.chg ∨ 0x1409 ∈ W := by first | exact Or.inl rfl | exact Or.inr (by assumption))
    (h_link : link = s.link ∨ 0x140a ∈ W := by first | exact Or.inl rfl | exact Or.inr (by assumption))
    (h_mkt : mkt = s.mkt ∨ 0x140b ∈ W := by first | exact Or.inl rfl | exact Or.inr (by assumption))
    (h_vdt : vdt = s.vdt ∨ 0x140c ∈ W := by first | exact Or.inl rfl | exact Or.inr (by assumption))
    (h_cmd : cmd = s.cmd ∨ 0x140d ∈ W := by first | exact Or.inl rfl | exact Or.inr (by assumption))
    (h_thm : thm = s.thm ∨ 0x140e ∈ W := by first | exact Or.inl rfl | exact Or.inr (by assumption))
    (h_lgr : lgr = s.lgr ∨ 0x140f ∈ W := by first | exact Or.inl rfl | exact Or.inr (by assumption))
    (h_clk : clk = s.clk ∨ 0x1410 ∈ W := by first | exact Or.inl rfl | exact Or.inr (by assumption))
    (h_wb : wb = s.wb ∨ 0x1411 ∈ W := by first | exact Or.inl rfl | exact Or.inr (by assumption))
    (h_pd : pd = s.pd ∨ 0x1412 ∈ W := by first | exact Or.inl rfl | exact Or.inr (by assumption))
    (h_svc : svc = s.svc ∨ 0x1413 ∈ W := by first | exact Or.inl rfl | exact Or.inr (by assumption))
    (h_usb : usb = s.usb ∨ 0x1414 ∈ W := by first | exact Or.inl rfl | exact Or.inr (by assumption))
    (h_opt : opt = s.opt ∨ 0x1415 ∈ W := by first | exact Or.inl rfl | exact Or.inr (by assumption))
    (h_twb : twb = s.twb ∨ 0x1416 ∈ W := by first | exact Or.inl rfl | exact Or.inr (by assumption))
    (h_banks : lgr.bankA = s.lgr.bankA ∧ lgr.bankB = s.lgr.bankB := by exact ⟨rfl, rfl⟩)
    (h_stage : boot.stage = s.boot.stage ∨ boot.stage = [] ∧ 0x1418 ∈ W := by
      first | exact Or.inl rfl | exact Or.inr ⟨rfl, by assumption⟩) :
    Touch W s0 (State.mk s.part phase now free s.regs ra pins boot alm path conv chg link mkt vdt cmd thm lgr clk wb pd svc
      usb opt twb s.pending) where
  part := h.part
  pending := h.pending
  reg := h.reg
  phase hn := (h_phase.resolve_right hn).trans (h.phase hn)
  now hn := (h_now.resolve_right hn).trans (h.now hn)
  free hn := (h_free.resolve_right hn).trans (h.free hn)
  ra hn := (h_ra.resolve_right hn).trans (h.ra hn)
  pins hn := (h_pins.resolve_right hn).trans (h.pins hn)
  boot hn := (h_boot.resolve_right hn).trans (h.boot hn)
  alm hn := (h_alm.resolve_right hn).trans (h.alm hn)
  path hn := (h_path.resolve_right hn).trans (h.path hn)
  conv hn := (h_conv.resolve_right hn).trans (h.conv hn)
  chg hn := (h_chg.resolve_right hn).trans (h.chg hn)
  link hn := (h_link.resolve_right hn).trans (h.link hn)
  mkt hn := (h_mkt.resolve_right hn).trans (h.mkt hn)
  vdt hn := (h_vdt.resolve_right hn).trans (h.vdt hn)
  cmd hn := (h_cmd.resolve_right hn).trans (h.cmd hn)
  thm hn := (h_thm.resolve_right hn).trans (h.thm hn)
  lgr hn := (h_lgr.resolve_right hn).trans (h.lgr hn)
  clk hn := (h_clk.resolve_right hn).trans (h.clk hn)
  wb hn := (h_wb.resolve_right hn).trans (h.wb hn)
  pd hn := (h_pd.resolve_right hn).trans (h.pd hn)
  svc hn := (h_svc.resolve_right hn).trans (h.svc hn)
  usb hn := (h_usb.resolve_right hn).trans (h.usb hn)
  opt hn := (h_opt.resolve_right hn).trans (h.opt hn)
  twb hn := (h_twb.resolve_right hn).trans (h.twb hn)
  banks hn := ⟨h_banks.1.trans (h.banks hn).1, h_banks.2.trans (h.banks hn).2⟩
  stage hn := (h_stage.resolve_right fun e => hn e.2).trans (h.stage hn)
  canon h0 := by
    have hc := h.canon h0
    simp only [State.canonical, Bool.and_eq_true] at hc ⊢
    refine ⟨⟨⟨hc.1.1.1, h_banks.1 ▸ hc.1.1.2⟩, h_banks.2 ▸ hc.1.2⟩, ?_⟩
    rcases h_stage with e | e
    · exact e ▸ hc.2
    · simp [e.1, stageWf]

/-- Every register and every part of the state. -/
def allCells : List Nat := (List.range 25).map (0x1400 + ·) ++ [0x1430]

/-- A state built anew: the unit and its queue are kept, its stores canonical; anything else may differ. -/
theorem Touch.all {W : List Nat} {s0 s t : State} (h : Touch W s0 s) (hW : Sub allCells W) (hp : t.part = s.part)
    (hq : t.pending = s.pending) (hc : s.canonical = true → t.canonical = true) : Touch W s0 t := by
  have m : ∀ x, Nat.beq (Nat.land (Nat.shiftRight (maskOf allCells) x) 1) 1 = true → x ∈ W := fun x hx => hW.mem hx
  constructor
  · exact hp.trans h.part
  · exact hq.trans h.pending
  · exact fun a _ hn => absurd (m _ rfl) hn
  all_goals first | exact fun hn => absurd (m _ rfl) hn | exact fun h0 => hc (h.canon h0)

/-- Banks put in place, in canonical form. -/
theorem Touch.banked {W : List Nat} {s0 s : State} (h : Touch W s0 s) {l : Ledger} (h1 : 0x140f ∈ W) (h2 : 0x1417 ∈ W)
    (hc : bankWf s.lgr.bankA = true → bankWf s.lgr.bankB = true → bankWf l.bankA = true ∧ bankWf l.bankB = true) :
    Touch W s0 { s with lgr := l } :=
  { h with
    lgr := fun hn => absurd h1 hn
    banks := fun hn => absurd h2 hn
    canon := fun h0 => by
      have e := h.canon h0
      simp only [State.canonical, Bool.and_eq_true] at e ⊢
      exact ⟨⟨⟨e.1.1.1, (hc e.1.1.2 e.1.2).1⟩, (hc e.1.1.2 e.1.2).2⟩, e.2⟩ }

/-- The staging area put in place, in canonical form. -/
theorem Touch.staged {W : List Nat} {s0 s : State} (h : Touch W s0 s) {l : List Host.Cell} (h1 : 0x1405 ∈ W) (h2 : 0x1418 ∈ W)
    (hc : stageWf s.boot.stage = true → stageWf l = true) :
    Touch W s0 { s with boot := { s.boot with stage := l } } :=
  { h with
    boot := fun hn => absurd h1 hn
    stage := fun hn => absurd h2 hn
    canon := fun h0 => by
      have e := h.canon h0
      simp only [State.canonical, Bool.and_eq_true] at e ⊢
      exact ⟨e.1, hc e.2⟩ }

/-- A state proved step by step: what is shown of an intermediate state is used of the whole. -/
theorem Touch.cut {W : List Nat} {s0 x t : State} (hx : Touch W s0 x) (k : Touch W s0 x → Touch W s0 t) : Touch W s0 t := k hx

theorem Touch.foldl {α : Type} {W : List Nat} {s0 s : State} (h : Touch W s0 s) {f : State → α → State} {l : List α}
    (hf : ∀ t x, Touch W s0 t → Touch W s0 (f t x)) : Touch W s0 (l.foldl f s) := by
  induction l generalizing s with
  | nil => exact h
  | cons x l ih => exact ih (hf s x h)

theorem Touch.ite {W : List Nat} {s0 a b : State} {c : Prop} [Decidable c] (ha : Touch W s0 a) (hb : Touch W s0 b) :
    Touch W s0 (if c then a else b) := by
  split
  · exact ha
  · exact hb

/-- The same of a command's outcome, if it answers a next state. -/
def TouchOut (W : List Nat) (s0 : State) (o : Out) : Prop := ∀ t, o = .next t → Touch W s0 t

theorem TouchOut.next {W : List Nat} {s0 t : State} (h : Touch W s0 t) : TouchOut W s0 (.next t) := fun u e => by
  injection e with e; exact e ▸ h

theorem TouchOut.cut {W : List Nat} {s0 x : State} {o : Out} (hx : Touch W s0 x) (k : Touch W s0 x → TouchOut W s0 o) :
    TouchOut W s0 o := k hx

/-! ## The named operations over registers, flags and fields -/

section
variable {W : List Nat} {s0 s : State} (h : Touch W s0 s)
include h

theorem State.setReg_touch (a : Nat) (v : Word) (ha : Writes W a) : Touch W s0 (s.setReg a v) :=
  h.regs (fun b hb hn => by
    rw [regGet_regPut, if_neg]
    rintro rfl
    exact ha.elim hb hn) (fun hl => regsWf_regPut _ a v hl)

theorem State.setFlag_touch (f : Flag) (x : Bool) (ha : Writes W f.reg) : Touch W s0 (s.setFlag f x) :=
  State.setReg_touch h _ _ ha

theorem State.setField_touch (f : Field) (x : Nat) (ha : Writes W f.reg) : Touch W s0 (s.setField f x) :=
  State.setReg_touch h _ _ ha

theorem State.event_touch (f : Flag) (ha : Writes W f.reg) : Touch W s0 (s.event f) := State.setReg_touch h _ _ ha

theorem State.bump_touch (a n : Nat) (ha : Writes W a) : Touch W s0 (s.bump a n) := State.setReg_touch h _ _ ha

omit h in
theorem State.setRegs_touch (l : List Word) : ∀ (s : State) (a : Nat), Touch W s0 s →
    (∀ k, k < l.length → Writes W (a + k)) → Touch W s0 (s.setRegs a l) := by
  induction l with
  | nil => intro s a h _; exact h
  | cons v l ih =>
    intro s a h hw
    refine ih (s.setReg a v) (a + 1) (State.setReg_touch h _ _ (by simpa using hw 0 (by simp))) fun k hk => ?_
    have := hw (k + 1) (by simpa using hk)
    simpa [Nat.add_assoc, Nat.add_comm 1 k] using this

omit h in
theorem State.setGroup_touch (x n : Nat) : ∀ (s : State) (a : Nat), Touch W s0 s →
    (∀ k, k < n → Writes W (a + k)) → Touch W s0 (s.setGroup a n x) := by
  induction n with
  | zero => intro s a h _; exact h
  | succ n ih =>
    intro s a h hw
    refine ih (s.setReg a _) (a + 1) (State.setReg_touch h _ _ (by simpa using hw 0 (by simp))) fun k hk => ?_
    have := hw (k + 1) (by simpa using hk)
    simpa [Nat.add_assoc, Nat.add_comm 1 k] using this

theorem State.setMapBit_touch (a addr : Nat) (x : Bool) (h0 : Writes W a) (h1 : Writes W (a + 1)) (h2 : Writes W (a + 2))
    (h3 : Writes W (a + 3)) : Touch W s0 (s.setMapBit a addr x) := by
  refine State.setReg_touch h _ _ ?_
  have : addr % 64 / 16 < 4 := by omega
  generalize addr % 64 / 16 = k at this
  match k, this with
  | 0, _ => exact h0
  | 1, _ => exact h1
  | 2, _ => exact h2
  | 3, _ => exact h3

theorem State.clearMap_touch (a : Nat) (h0 : Writes W a) (h1 : Writes W (a + 1)) (h2 : Writes W (a + 2))
    (h3 : Writes W (a + 3)) : Touch W s0 (s.clearMap a) :=
  State.setReg_touch (State.setReg_touch (State.setReg_touch (State.setReg_touch h _ _ h0) _ _ h1) _ _ h2) _ _ h3

theorem State.restore_touch (kinds : List Restore) (ha : 0x1430 ∈ W) : Touch W s0 (s.restore kinds) :=
  h.regs (fun _ _ hn => absurd ha hn) (fun hl => regsWf_filter _ _ hl)

theorem State.whenLive_touch (f : State → State) (hf : ∀ t, Touch W s0 t → Touch W s0 (f t)) :
    Touch W s0 (s.whenLive f) := by
  unfold State.whenLive
  split
  · exact hf s h
  · exact h

theorem State.whenRun_touch (f : State → State) (hf : ∀ t, Touch W s0 t → Touch W s0 (f t)) :
    Touch W s0 (s.whenRun f) := by
  unfold State.whenRun
  split
  · exact hf s h
  · exact h

theorem State.when_touch (c : Bool) (f : State → State) (hf : ∀ t, Touch W s0 t → Touch W s0 (f t)) :
    Touch W s0 (s.when c f) := by
  unfold State.when
  split
  · exact hf s h
  · exact h

end

end Sys2Proof.Machine
end

