-- ==== Sys2Proof/Laws/TouchOps.lean ====
section
/-!
SUPPORT. What each operation of Machine/Ops.lean can do: the registers and parts of the state it may write, and nothing
else; the unit, its queue and the form of its stores are kept.
-/

-- proofs are elaborated one after another: many at once ask for more threads than a memory limit allows
set_option Elab.async false

set_option linter.unusedTactic false
set_option linter.unusedVariables false
set_option linter.unusedSimpArgs false
set_option linter.unreachableTactic false
set_option linter.tactic.unusedName false

namespace Sys2Proof.Machine

def State.fresh_cells : List Nat :=
  [0x1402]

theorem State.fresh_touch {W0 : List Nat} {s0 s : State} (h0 : Touch W0 s0 s) (hW : Sub State.fresh_cells W0) :
    Touch W0 s0 (State.fresh s).2 := by
  have w1402 : 0x1402 ∈ W0 := hW.mem rfl
  unfold State.fresh
  repeat' first
    | with_reducible assumption
    | dsimp only
    | with_reducible refine Touch.update ?_

theorem State.fresh_touch_eq {W0 : List Nat} {s0 s : State} {u0 : BitVec 64} {sOut : State} (h0 : Touch W0 s0 s) (hW : Sub State.fresh_cells W0)
    (e : (State.fresh s) = (u0, sOut)) : Touch W0 s0 sOut := by
  have := State.fresh_touch h0 hW 
  rwa [e] at this

def State.tallyCt_cells : List Nat :=
  [0xa01, 0xa32, 0x140f]

theorem State.tallyCt_touch {W0 : List Nat} {s0 s : State} (h0 : Touch W0 s0 s) (hW : Sub State.tallyCt_cells W0) (ct : Nat) :
    Touch W0 s0 (State.tallyCt s ct) := by
  have wa01 : Writes W0 R.LGR_EVENT := Or.inl (hW.mem rfl)
  have wa32 : Writes W0 R.LGR_COALCNT := Or.inl (hW.mem rfl)
  have w140f : 0x140f ∈ W0 := hW.mem rfl
  unfold State.tallyCt
  repeat' first
    | with_reducible assumption
    | (extract_lets +onlyGivenNames xx; guard_hyp xx : State := _; refine Touch.cut (x := xx) ?_ ?_; (on_goal 2 => (intro hh; (try clear_value xx); revert xx; intro _ _)); any_goals (revert xx; intro _))
    | (extract_lets +onlyGivenNames xx; guard_hyp xx : (Ledger) := _; revert xx; intro _)
    | (extract_lets +onlyGivenNames xx; (try clear_value xx); revert xx; intro _)
    | with_reducible refine State.bump_touch ?_ _ _ ?_
    | with_reducible refine State.event_touch ?_ _ ?_
    | with_reducible refine Touch.ite ?_ ?_
    | with_reducible refine Touch.update ?_

def State.tally_cells : List Nat :=
  [0xa01, 0xa32, 0x140f]

theorem State.tally_touch {W0 : List Nat} {s0 s : State} (h0 : Touch W0 s0 s) (hW : Sub State.tally_cells W0) (k : Kind) :
    Touch W0 s0 (State.tally s k) := by
  have c_State_tallyCt : Sub State.tallyCt_cells W0 := Sub.trans (Sub.of rfl) hW
  unfold State.tally
  repeat' first
    | with_reducible assumption
    | with_reducible refine State.tallyCt_touch ?_ c_State_tallyCt _

def State.coalesce_cells : List Nat :=
  [0xa01, 0xa32, 0x140f]

theorem State.coalesce_touch {W0 : List Nat} {s0 s : State} (h0 : Touch W0 s0 s) (hW : Sub State.coalesce_cells W0) (k : Kind) :
    Touch W0 s0 (State.coalesce s k) := by
  have c_State_tallyCt : Sub State.tallyCt_cells W0 := Sub.trans (Sub.of rfl) hW
  unfold State.coalesce
  repeat' first
    | with_reducible assumption
    | with_reducible refine State.tallyCt_touch ?_ c_State_tallyCt _

def State.post_cells : List Nat :=
  [0xa01, 0xa32, 0x140f]

theorem State.post_touch {W0 : List Nat} {s0 s : State} (h0 : Touch W0 s0 s) (hW : Sub State.post_cells W0) (k : Kind) (payload : List Byte) :
    Touch W0 s0 (State.post s k payload) := by
  have c_State_tallyCt : Sub State.tallyCt_cells W0 := Sub.trans (Sub.of rfl) hW
  have w140f : 0x140f ∈ W0 := hW.mem rfl
  unfold State.post
  repeat' first
    | with_reducible assumption
    | (extract_lets +onlyGivenNames xx; guard_hyp xx : (Ledger) := _; revert xx; intro _)
    | (extract_lets +onlyGivenNames xx; (try clear_value xx); revert xx; intro _)
    | with_reducible refine State.tallyCt_touch ?_ c_State_tallyCt _
    | with_reducible refine Touch.ite ?_ ?_
    | with_reducible refine Touch.update ?_

end Sys2Proof.Machine
end

