-- ==== Sys2Proof/Laws/TouchLedger.lean ====
section
/-!
SUPPORT. What each operation of Machine/Ledger.lean can do: the registers and parts of the state it may write, and nothing
else; the unit, its queue and the form of its stores are kept.
-/

-- proofs are elaborated one after another: many at once ask for more threads than a memory limit allows
set_option Elab.async false

set_option linter.unusedTactic false
set_option linter.unusedVariables false
set_option linter.unusedSimpArgs false
set_option linter.unreachableTactic false
set_option linter.tactic.unusedName false

namespace Sys2Proof.Machine

def State.writeSlot_cells : List Nat :=
  [0x140f, 0x1417]

theorem State.writeSlot_touch {W0 : List Nat} {s0 s : State} (h0 : Touch W0 s0 s) (hW : Sub State.writeSlot_cells W0)
    (w : SlotWrite) : Touch W0 s0 (s.writeSlot w) := by
  unfold State.writeSlot
  split
  · exact h0
  · split <;> refine h0.banked (hW.mem rfl) (hW.mem rfl) fun ha hb => ?_
    · exact ⟨bankWf_slotPut _ _ _ ha, hb⟩
    · exact ⟨ha, bankWf_slotPut _ _ _ hb⟩

def State.writeSlots_cells : List Nat :=
  [0x140f, 0x1417]

theorem State.writeSlots_touch {W0 : List Nat} {s0 s : State} (h0 : Touch W0 s0 s) (hW : Sub State.writeSlots_cells W0)
    (l : List SlotWrite) : Touch W0 s0 (s.writeSlots l) := by
  induction l generalizing s with
  | nil => exact h0
  | cons w l ih => exact ih (State.writeSlot_touch h0 hW w)

def State.putMeta_cells : List Nat :=
  [0x140f, 0x1417]

theorem State.putMeta_touch {W0 : List Nat} {s0 s : State} (h0 : Touch W0 s0 s) (hW : Sub State.putMeta_cells W0) (i : Nat) (content : List Byte) :
    Touch W0 s0 (State.putMeta s i content) := by
  have c_State_writeSlots : Sub State.writeSlots_cells W0 := Sub.trans (Sub.of rfl) hW
  unfold State.putMeta
  repeat' first
    | with_reducible assumption
    | with_reducible refine State.writeSlots_touch ?_ c_State_writeSlots _

def State.storeBoot_cells : List Nat :=
  [0x140f, 0x1417]

theorem State.storeBoot_touch {W0 : List Nat} {s0 s : State} (h0 : Touch W0 s0 s) (hW : Sub State.storeBoot_cells W0) (active : AB) (floor : Nat) :
    Touch W0 s0 (State.storeBoot s active floor) := by
  have c_State_putMeta : Sub State.putMeta_cells W0 := Sub.trans (Sub.of rfl) hW
  unfold State.storeBoot
  repeat' first
    | with_reducible assumption
    | with_reducible refine State.putMeta_touch ?_ c_State_putMeta _ _

def State.storeTetAddr_cells : List Nat :=
  [0x140f, 0x1417]

theorem State.storeTetAddr_touch {W0 : List Nat} {s0 s : State} (h0 : Touch W0 s0 s) (hW : Sub State.storeTetAddr_cells W0) (a : Option Nat) :
    Touch W0 s0 (State.storeTetAddr s a) := by
  have c_State_putMeta : Sub State.putMeta_cells W0 := Sub.trans (Sub.of rfl) hW
  unfold State.storeTetAddr
  repeat' first
    | with_reducible assumption
    | with_reducible refine State.putMeta_touch ?_ c_State_putMeta _ _

def State.storeVaux_cells : List Nat :=
  [0x140f, 0x1417]

theorem State.storeVaux_touch {W0 : List Nat} {s0 s : State} (h0 : Touch W0 s0 s) (hW : Sub State.storeVaux_cells W0) (vsel : Nat) :
    Touch W0 s0 (State.storeVaux s vsel) := by
  have c_State_putMeta : Sub State.putMeta_cells W0 := Sub.trans (Sub.of rfl) hW
  unfold State.storeVaux
  repeat' first
    | with_reducible assumption
    | with_reducible refine State.putMeta_touch ?_ c_State_putMeta _ _

def State.verified_cells : List Nat :=
  [0xa00, 0xa01, 0xa32, 0xa33, 0xa34, 0x140f, 0x1417]

theorem State.verified_touch {W0 : List Nat} {s0 s : State} (h0 : Touch W0 s0 s) (hW : Sub State.verified_cells W0) (v : Verify) (op : Nat) (slotOf : Nat → Nat) :
    Touch W0 s0 (State.verified s v op slotOf) := by
  have c_State_putMeta : Sub State.putMeta_cells W0 := Sub.trans (Sub.of rfl) hW
  have c_State_post : Sub State.post_cells W0 := Sub.trans (Sub.of rfl) hW
  have wa00 : Writes W0 R.LGR_STATUS := Or.inl (hW.mem rfl)
  have wa01 : Writes W0 R.LGR_EVENT := Or.inl (hW.mem rfl)
  have wa33 : Writes W0 R.LGR_VFYERR_A := Or.inl (hW.mem rfl)
  have wa34 : Writes W0 R.LGR_VFYERR_B := Or.inl (hW.mem rfl)
  unfold State.verified
  repeat' first
    | with_reducible assumption
    | (extract_lets +onlyGivenNames xx; guard_hyp xx : State := _; refine Touch.cut (x := xx) ?_ ?_; (on_goal 2 => (intro hh; (try clear_value xx); revert xx; intro _ _)); any_goals (revert xx; intro _))
    | with_reducible refine State.putMeta_touch ?_ c_State_putMeta _ _
    | with_reducible refine State.post_touch ?_ c_State_post _ _
    | with_reducible refine State.bump_touch ?_ _ _ ?_
    | with_reducible refine State.event_touch ?_ _ ?_
    | with_reducible refine State.setFlag_touch ?_ _ _ ?_
    | with_reducible refine Touch.ite ?_ ?_
    | split
    | (unfold vfyCounter; split <;> with_reducible assumption)
    | with_reducible refine Touch.update ?_

def State.refreshBack_cells : List Nat :=
  [0xa00, 0xa01, 0xa31]

theorem State.refreshBack_touch {W0 : List Nat} {s0 s : State} (h0 : Touch W0 s0 s) (hW : Sub State.refreshBack_cells W0) :
    Touch W0 s0 (State.refreshBack s) := by
  have wa00 : Writes W0 R.LGR_STATUS := Or.inl (hW.mem rfl)
  have wa01 : Writes W0 R.LGR_EVENT := Or.inl (hW.mem rfl)
  have wa31 : Writes W0 R.LGR_HOLDCNT := Or.inl (hW.mem rfl)
  unfold State.refreshBack
  repeat' first
    | with_reducible assumption
    | (extract_lets +onlyGivenNames xx; guard_hyp xx : State := _; refine Touch.cut (x := xx) ?_ ?_; (on_goal 2 => (intro hh; (try clear_value xx); revert xx; intro _ _)); any_goals (revert xx; intro _))
    | (extract_lets +onlyGivenNames xx; (try clear_value xx); revert xx; intro _)
    | with_reducible refine State.bump_touch ?_ _ _ ?_
    | with_reducible refine State.event_touch ?_ _ ?_
    | with_reducible refine State.setFlag_touch ?_ _ _ ?_
    | with_reducible refine Touch.ite ?_ ?_

def State.refillFirmware_cells : List Nat :=
  [0x140f]

theorem State.refillFirmware_touch {W0 : List Nat} {s0 s : State} (h0 : Touch W0 s0 s) (hW : Sub State.refillFirmware_cells W0) :
    Touch W0 s0 (State.refillFirmware s) := by
  have w140f : 0x140f ∈ W0 := hW.mem rfl
  unfold State.refillFirmware
  repeat' first
    | with_reducible assumption
    | (extract_lets +onlyGivenNames xx; guard_hyp xx : (Ledger) := _; revert xx; intro _)
    | with_reducible refine Touch.ite ?_ ?_
    | split
    | with_reducible refine Touch.update ?_

def State.refreshUse_cells : List Nat :=
  [0xa01, 0xa05]

theorem State.refreshUse_touch {W0 : List Nat} {s0 s : State} (h0 : Touch W0 s0 s) (hW : Sub State.refreshUse_cells W0) (before : Nat) :
    Touch W0 s0 (State.refreshUse s before) := by
  have wa01 : Writes W0 R.LGR_EVENT := Or.inl (hW.mem rfl)
  have wa05 : Writes W0 R.LGR_SPOOLMAX := Or.inl (hW.mem rfl)
  unfold State.refreshUse
  repeat' first
    | with_reducible assumption
    | (extract_lets +onlyGivenNames xx; guard_hyp xx : State := _; refine Touch.cut (x := xx) ?_ ?_; (on_goal 2 => (intro hh; (try clear_value xx); revert xx; intro _ _)); any_goals (revert xx; intro _))
    | (extract_lets +onlyGivenNames xx; (try clear_value xx); revert xx; intro _)
    | with_reducible refine State.event_touch ?_ _ ?_
    | with_reducible refine State.setReg_touch ?_ _ _ ?_
    | with_reducible refine Touch.ite ?_ ?_

def State.hostAccepted_cells : List Nat :=
  [0xa00, 0xa01, 0xa28, 0xa29, 0xa2a, 0xa2b]

theorem State.hostAccepted_touch {W0 : List Nat} {s0 s : State} (h0 : Touch W0 s0 s) (hW : Sub State.hostAccepted_cells W0) (r : Rec) (seq : Nat) :
    Touch W0 s0 (State.hostAccepted s r seq) := by
  have wa00 : Writes W0 R.LGR_STATUS := Or.inl (hW.mem rfl)
  have wa01 : Writes W0 R.LGR_EVENT := Or.inl (hW.mem rfl)
  have wa28 : Writes W0 R.LGR_HRES := Or.inl (hW.mem rfl)
  have wa29 : Writes W0 R.LGR_HSEQ2 := Or.inl (hW.mem rfl)
  have wa2a : Writes W0 R.LGR_HSEQ1 := Or.inl (hW.mem rfl)
  have wa2b : Writes W0 R.LGR_HSEQ0 := Or.inl (hW.mem rfl)
  unfold State.hostAccepted
  repeat' first
    | with_reducible assumption
    | (extract_lets +onlyGivenNames xx; guard_hyp xx : State := _; refine Touch.cut (x := xx) ?_ ?_; (on_goal 2 => (intro hh; (try clear_value xx); revert xx; intro _ _)); any_goals (revert xx; intro _))
    | with_reducible refine State.event_touch ?_ _ ?_
    | with_reducible refine State.setFlag_touch ?_ _ _ ?_
    | with_reducible refine State.setReg_touch ?_ _ _ ?_
    | with_reducible refine Touch.ite ?_ ?_
    | (with_reducible intro k hk; (try simp only [List.length_cons, List.length_nil, List.length_map, List.length_range, List.length_replicate] at hk); interval_cases k)
    | with_reducible refine State.setGroup_touch _ _ _ _ ?_ ?_

def State.drainStart_cells : List Nat :=
  [0x140f]

theorem State.drainStart_touch {W0 : List Nat} {s0 s : State} (h0 : Touch W0 s0 s) (hW : Sub State.drainStart_cells W0) :
    Touch W0 s0 (State.drainStart s) := by
  have w140f : 0x140f ∈ W0 := hW.mem rfl
  unfold State.drainStart
  repeat' first
    | with_reducible assumption
    | (extract_lets +onlyGivenNames xx; guard_hyp xx : (Ledger) := _; revert xx; intro _)
    | with_reducible refine Touch.ite ?_ ?_
    | with_reducible refine Touch.update ?_

def State.acceptRec_cells : List Nat :=
  [0xa00, 0xa01, 0xa05, 0xa28, 0xa29, 0xa2a, 0xa2b, 0xa32, 0xa33, 0xa34, 0x140f, 0x1417]

theorem State.acceptRec_touch {W0 : List Nat} {s0 s : State} (h0 : Touch W0 s0 s) (hW : Sub State.acceptRec_cells W0) (r : Rec) (v : Verify) :
    Touch W0 s0 (State.acceptRec s r v) := by
  have c_State_writeSlots : Sub State.writeSlots_cells W0 := Sub.trans (Sub.of rfl) hW
  have c_State_verified : Sub State.verified_cells W0 := Sub.trans (Sub.of rfl) hW
  have c_State_hostAccepted : Sub State.hostAccepted_cells W0 := Sub.trans (Sub.of rfl) hW
  have c_State_refreshUse : Sub State.refreshUse_cells W0 := Sub.trans (Sub.of rfl) hW
  have c_State_drainStart : Sub State.drainStart_cells W0 := Sub.trans (Sub.of rfl) hW
  have wa00 : Writes W0 R.LGR_STATUS := Or.inl (hW.mem rfl)
  have wa01 : Writes W0 R.LGR_EVENT := Or.inl (hW.mem rfl)
  have w140f : 0x140f ∈ W0 := hW.mem rfl
  unfold State.acceptRec
  repeat' first
    | with_reducible assumption
    | (extract_lets +onlyGivenNames xx; guard_hyp xx : State := _; refine Touch.cut (x := xx) ?_ ?_; (on_goal 2 => (intro hh; (try clear_value xx); revert xx; intro _ _)); any_goals (revert xx; intro _))
    | (extract_lets +onlyGivenNames xx; guard_hyp xx : (Ledger) := _; revert xx; intro _)
    | (extract_lets +onlyGivenNames xx; (try clear_value xx); revert xx; intro _)
    | with_reducible refine State.writeSlots_touch ?_ c_State_writeSlots _
    | with_reducible refine State.verified_touch ?_ c_State_verified _ _ _
    | with_reducible refine State.hostAccepted_touch ?_ c_State_hostAccepted _ _
    | with_reducible refine State.refreshUse_touch ?_ c_State_refreshUse _
    | with_reducible refine State.drainStart_touch ?_ c_State_drainStart
    | with_reducible refine State.event_touch ?_ _ ?_
    | with_reducible refine State.setFlag_touch ?_ _ _ ?_
    | with_reducible refine Touch.ite ?_ ?_
    | with_reducible refine Touch.update ?_

def State.tornAccept_cells : List Nat :=
  [0x140f, 0x1417]

theorem State.tornAccept_touch {W0 : List Nat} {s0 s : State} (h0 : Touch W0 s0 s) (hW : Sub State.tornAccept_cells W0) (n : Nat) :
    Touch W0 s0 (State.tornAccept s n) := by
  have c_State_writeSlots : Sub State.writeSlots_cells W0 := Sub.trans (Sub.of rfl) hW
  unfold State.tornAccept
  repeat' first
    | with_reducible assumption
    | with_reducible refine State.writeSlots_touch ?_ c_State_writeSlots _
    | with_reducible refine Touch.ite ?_ ?_
    | split

def State.takeRec_cells : List Nat :=
  [0x140f, 0x1411]

theorem State.takeRec_touch {W0 : List Nat} {s0 s : State} (h0 : Touch W0 s0 s) (hW : Sub State.takeRec_cells W0) (r : Rec) :
    Touch W0 s0 (State.takeRec s r) := by
  have w140f : 0x140f ∈ W0 := hW.mem rfl
  have w1411 : 0x1411 ∈ W0 := hW.mem rfl
  unfold State.takeRec
  repeat' first
    | with_reducible assumption
    | (extract_lets +onlyGivenNames xx; guard_hyp xx : (Ledger) := _; revert xx; intro _)
    | (extract_lets +onlyGivenNames xx; (try clear_value xx); revert xx; intro _)
    | with_reducible refine Touch.ite ?_ ?_
    | with_reducible refine Touch.update ?_

def State.intake_cells : List Nat :=
  [0xa00, 0xa01, 0xa05, 0xa28, 0xa29, 0xa2a, 0xa2b, 0xa31, 0xa32, 0xa33, 0xa34, 0x140f, 0x1411, 0x1417]

theorem State.intake_touch {W0 : List Nat} {s0 s : State} (h0 : Touch W0 s0 s) (hW : Sub State.intake_cells W0) (v : Verify) :
    Touch W0 s0 (State.intake s v) := by
  have c_State_takeRec : Sub State.takeRec_cells W0 := Sub.trans (Sub.of rfl) hW
  have c_State_acceptRec : Sub State.acceptRec_cells W0 := Sub.trans (Sub.of rfl) hW
  have c_State_refillFirmware : Sub State.refillFirmware_cells W0 := Sub.trans (Sub.of rfl) hW
  have c_State_refreshBack : Sub State.refreshBack_cells W0 := Sub.trans (Sub.of rfl) hW
  unfold State.intake
  repeat' first
    | with_reducible assumption
    | with_reducible refine State.takeRec_touch ?_ c_State_takeRec _
    | with_reducible refine State.acceptRec_touch ?_ c_State_acceptRec _ _
    | with_reducible refine State.refillFirmware_touch ?_ c_State_refillFirmware
    | with_reducible refine State.refreshBack_touch ?_ c_State_refreshBack
    | with_reducible refine Touch.ite ?_ ?_
    | split

def State.committed_cells : List Nat :=
  [0x140f]

theorem State.committed_touch {W0 : List Nat} {s0 s : State} (h0 : Touch W0 s0 s) (hW : Sub State.committed_cells W0) (e : SpoolEntry) (p : CommitPlan) :
    Touch W0 s0 (State.committed s e p) := by
  have w140f : 0x140f ∈ W0 := hW.mem rfl
  unfold State.committed
  repeat' first
    | with_reducible assumption
    | (extract_lets +onlyGivenNames xx; guard_hyp xx : (Ledger) := _; revert xx; intro _)
    | split
    | with_reducible refine Touch.update ?_

def State.countLost_cells : List Nat :=
  [0xa33, 0xa34]

theorem State.countLost_touch {W0 : List Nat} {s0 s : State} (h0 : Touch W0 s0 s) (hW : Sub State.countLost_cells W0) (e : SpoolEntry) :
    Touch W0 s0 (State.countLost s e) := by
  have wa33 : Writes W0 R.LGR_VFYERR_A := Or.inl (hW.mem rfl)
  have wa34 : Writes W0 R.LGR_VFYERR_B := Or.inl (hW.mem rfl)
  unfold State.countLost
  repeat' first
    | with_reducible assumption
    | with_reducible refine State.bump_touch ?_ _ _ ?_
    | with_reducible refine Touch.ite ?_ ?_
    | split

def State.commitOne_cells : List Nat :=
  [0xa00, 0xa01, 0xa32, 0xa33, 0xa34, 0x140f, 0x1417]

theorem State.commitOne_touch {W0 : List Nat} {s0 s : State} (h0 : Touch W0 s0 s) (hW : Sub State.commitOne_cells W0) (e : SpoolEntry) (v : Verify) :
    Touch W0 s0 (State.commitOne s e v) := by
  have c_State_countLost : Sub State.countLost_cells W0 := Sub.trans (Sub.of rfl) hW
  have c_State_writeSlots : Sub State.writeSlots_cells W0 := Sub.trans (Sub.of rfl) hW
  have c_State_verified : Sub State.verified_cells W0 := Sub.trans (Sub.of rfl) hW
  have c_State_committed : Sub State.committed_cells W0 := Sub.trans (Sub.of rfl) hW
  unfold State.commitOne
  repeat' first
    | with_reducible assumption
    | (extract_lets +onlyGivenNames xx; guard_hyp xx : State := _; refine Touch.cut (x := xx) ?_ ?_; (on_goal 2 => (intro hh; (try clear_value xx); revert xx; intro _ _)); any_goals (revert xx; intro _))
    | (extract_lets +onlyGivenNames xx; (try clear_value xx); revert xx; intro _)
    | with_reducible refine State.countLost_touch ?_ c_State_countLost _
    | with_reducible refine State.writeSlots_touch ?_ c_State_writeSlots _
    | with_reducible refine State.verified_touch ?_ c_State_verified _ _ _
    | with_reducible refine State.committed_touch ?_ c_State_committed _ _
    | with_reducible refine Touch.ite ?_ ?_

def State.commitNext_cells : List Nat :=
  [0xa00, 0xa01, 0xa31, 0xa32, 0xa33, 0xa34, 0x140f, 0x1417]

theorem State.commitNext_touch {W0 : List Nat} {s0 s : State} (h0 : Touch W0 s0 s) (hW : Sub State.commitNext_cells W0) (v : Verify) :
    Touch W0 s0 (State.commitNext s v) := by
  have c_State_commitOne : Sub State.commitOne_cells W0 := Sub.trans (Sub.of rfl) hW
  have c_State_refillFirmware : Sub State.refillFirmware_cells W0 := Sub.trans (Sub.of rfl) hW
  have c_State_refreshBack : Sub State.refreshBack_cells W0 := Sub.trans (Sub.of rfl) hW
  unfold State.commitNext
  repeat' first
    | with_reducible assumption
    | with_reducible refine State.commitOne_touch ?_ c_State_commitOne _ _
    | with_reducible refine State.refillFirmware_touch ?_ c_State_refillFirmware
    | with_reducible refine State.refreshBack_touch ?_ c_State_refreshBack
    | with_reducible refine Touch.ite ?_ ?_
    | split

def State.tornCommit_cells : List Nat :=
  [0x140f, 0x1417]

theorem State.tornCommit_touch {W0 : List Nat} {s0 s : State} (h0 : Touch W0 s0 s) (hW : Sub State.tornCommit_cells W0) (m : Nat) :
    Touch W0 s0 (State.tornCommit s m) := by
  have c_State_writeSlots : Sub State.writeSlots_cells W0 := Sub.trans (Sub.of rfl) hW
  unfold State.tornCommit
  repeat' first
    | with_reducible assumption
    | (extract_lets +onlyGivenNames xx; (try clear_value xx); revert xx; intro _)
    | with_reducible refine State.writeSlots_touch ?_ c_State_writeSlots _
    | with_reducible refine Touch.ite ?_ ?_
    | split

def State.restoreSlots_cells : List Nat :=
  [0x140f, 0x1417]

theorem State.restoreSlots_touch {W0 : List Nat} {s0 s : State} (h0 : Touch W0 s0 s) (hW : Sub State.restoreSlots_cells W0) (idx : Nat) (slots : List (List Byte)) :
    Touch W0 s0 (State.restoreSlots s idx slots).1 := by
  have c_State_writeSlots : Sub State.writeSlots_cells W0 := Sub.trans (Sub.of rfl) hW
  unfold State.restoreSlots
  repeat' first
    | with_reducible assumption
    | (extract_lets +onlyGivenNames xx; (try clear_value xx); revert xx; intro _)
    | with_reducible refine State.writeSlots_touch ?_ c_State_writeSlots _

theorem State.restoreSlots_touch_eq {W0 : List Nat} {s0 s : State} {sOut : State} {u1 : Nat} (h0 : Touch W0 s0 s) (hW : Sub State.restoreSlots_cells W0) (idx : Nat) (slots : List (List Byte))
    (e : (State.restoreSlots s idx slots) = (sOut, u1)) : Touch W0 s0 sOut := by
  have := State.restoreSlots_touch h0 hW idx slots
  rwa [e] at this

def State.replayRun_cells : List Nat :=
  [0x140f, 0x1417]

theorem State.replayRun_touch {W0 : List Nat} {s0 : State} (hW : Sub State.replayRun_cells W0) (n : Nat) :
    ∀ (p : Nat) (s : State) (r : Replay), Touch W0 s0 s → Touch W0 s0 (State.replayRun n p s r).1 := by
  induction n with
  | zero => intro p s r h; exact h
  | succ n ih =>
    intro p s r h
    unfold State.replayRun
    have c1 : Sub State.restoreSlots_cells W0 := Sub.trans (Sub.of rfl) hW
    have c2 : Sub State.writeSlots_cells W0 := Sub.trans (Sub.of rfl) hW
    have c3 : Sub State.committed_cells W0 := Sub.trans (Sub.of rfl) hW
    repeat' first
      | with_reducible assumption
      | exact ih _ _ _ h
      | fail_if_no_progress extract_lets +onlyGivenNames x
      | exact ih _ _ _ (State.committed_touch (State.writeSlots_touch (State.restoreSlots_touch h c1 _ _) c2 _) c3 _ _)
      | split

def State.ledgerNew_cells : List Nat :=
  [0x140f, 0x1417]

theorem State.ledgerNew_touch {W0 : List Nat} {s0 s : State} (h0 : Touch W0 s0 s) (hW : Sub State.ledgerNew_cells W0) :
    Touch W0 s0 s.ledgerNew := h0.banked (hW.mem rfl) (hW.mem rfl) fun a b => ⟨a, b⟩

def State.ledgerStored_cells : List Nat :=
  [0xa00, 0x140f]

theorem State.ledgerStored_touch {W0 : List Nat} {s0 s : State} (h0 : Touch W0 s0 s) (hW : Sub State.ledgerStored_cells W0) :
    Touch W0 s0 (State.ledgerStored s) := by
  have wa00 : Writes W0 R.LGR_STATUS := Or.inl (hW.mem rfl)
  have w140f : 0x140f ∈ W0 := hW.mem rfl
  unfold State.ledgerStored
  repeat' first
    | with_reducible assumption
    | (extract_lets +onlyGivenNames xx; guard_hyp xx : State := _; refine Touch.cut (x := xx) ?_ ?_; (on_goal 2 => (intro hh; (try clear_value xx); revert xx; intro _ _)); any_goals (revert xx; intro _))
    | (extract_lets +onlyGivenNames xx; guard_hyp xx : (Ledger) := _; revert xx; intro _)
    | (extract_lets +onlyGivenNames xx; (try clear_value xx); revert xx; intro _)
    | with_reducible refine State.setFlag_touch ?_ _ _ ?_
    | with_reducible refine Touch.update ?_

def State.ledgerPointers_cells : List Nat :=
  [0x140f]

theorem State.ledgerPointers_touch {W0 : List Nat} {s0 s : State} (h0 : Touch W0 s0 s) (hW : Sub State.ledgerPointers_cells W0) :
    Touch W0 s0 (State.ledgerPointers s) := by
  have w140f : 0x140f ∈ W0 := hW.mem rfl
  unfold State.ledgerPointers
  repeat' first
    | with_reducible assumption
    | (extract_lets +onlyGivenNames xx; guard_hyp xx : (Ledger) := _; revert xx; intro _)
    | split
    | with_reducible refine Touch.update ?_

def State.replayKept_cells : List Nat :=
  [0x140f]

theorem State.replayKept_touch {W0 : List Nat} {s0 s : State} (h0 : Touch W0 s0 s) (hW : Sub State.replayKept_cells W0) (r : Replay) :
    Touch W0 s0 (State.replayKept s r) := by
  have w140f : 0x140f ∈ W0 := hW.mem rfl
  unfold State.replayKept
  repeat' first
    | with_reducible assumption
    | (extract_lets +onlyGivenNames xx; guard_hyp xx : (Ledger) := _; revert xx; intro _)
    | with_reducible refine Touch.update ?_

def State.replay_cells : List Nat :=
  [0xa00, 0x140f, 0x1417]

theorem State.replay_touch {W0 : List Nat} {s0 s : State} (h0 : Touch W0 s0 s) (hW : Sub State.replay_cells W0) :
    Touch W0 s0 s.replay := by
  have h1 := State.ledgerPointers_touch (State.ledgerStored_touch (State.ledgerNew_touch h0
    (Sub.trans (Sub.of rfl) hW)) (Sub.trans (Sub.of rfl) hW)) (Sub.trans (Sub.of rfl) hW)
  have h2 := State.replayRun_touch (Sub.trans (Sub.of rfl) hW) 1100
    (s.ledgerNew.ledgerStored.ledgerPointers).spoolTail _
    ⟨(s.ledgerNew.ledgerStored.ledgerPointers).lgr.cseq, 0, 0, false, false,
      (s.ledgerNew.ledgerStored.ledgerPointers).badPointers⟩ h1
  exact State.replayKept_touch h2 (Sub.trans (Sub.of rfl) hW) _

def State.replayDone_cells : List Nat :=
  [0xa00, 0xa01, 0xa05, 0xa28, 0xa29, 0xa2a, 0xa2b, 0xa32, 0xa33, 0xa34, 0x140f, 0x1417]

theorem State.replayDone_touch {W0 : List Nat} {s0 s : State} (h0 : Touch W0 s0 s) (hW : Sub State.replayDone_cells W0) :
    Touch W0 s0 (State.replayDone s) := by
  have c_State_acceptRec : Sub State.acceptRec_cells W0 := Sub.trans (Sub.of rfl) hW
  have wa00 : Writes W0 R.LGR_STATUS := Or.inl (hW.mem rfl)
  have wa01 : Writes W0 R.LGR_EVENT := Or.inl (hW.mem rfl)
  have w140f : 0x140f ∈ W0 := hW.mem rfl
  unfold State.replayDone
  repeat' first
    | with_reducible assumption
    | (extract_lets +onlyGivenNames xx; guard_hyp xx : State := _; refine Touch.cut (x := xx) ?_ ?_; (on_goal 2 => (intro hh; (try clear_value xx); revert xx; intro _ _)); any_goals (revert xx; intro _))
    | (extract_lets +onlyGivenNames xx; guard_hyp xx : (Ledger) := _; revert xx; intro _)
    | with_reducible refine State.acceptRec_touch ?_ c_State_acceptRec _ _
    | with_reducible refine State.event_touch ?_ _ ?_
    | with_reducible refine State.setFlag_touch ?_ _ _ ?_
    | with_reducible refine Touch.ite ?_ ?_
    | split
    | with_reducible refine Touch.update ?_

def State.closeAcc_cells : List Nat :=
  [0x140f]

theorem State.closeAcc_touch {W0 : List Nat} {s0 s : State} (h0 : Touch W0 s0 s) (hW : Sub State.closeAcc_cells W0) (a : Acc) :
    Touch W0 s0 (State.closeAcc s a) := by
  have w140f : 0x140f ∈ W0 := hW.mem rfl
  unfold State.closeAcc
  repeat' first
    | with_reducible assumption
    | (extract_lets +onlyGivenNames xx; guard_hyp xx : State := _; refine Touch.cut (x := xx) ?_ ?_; (on_goal 2 => (intro hh; (try clear_value xx); revert xx; intro _ _)); any_goals (revert xx; intro _))
    | (extract_lets +onlyGivenNames xx; guard_hyp xx : (Ledger) := _; revert xx; intro _)
    | with_reducible refine Touch.ite ?_ ?_
    | with_reducible refine Touch.update ?_

def State.tryClose_cells : List Nat :=
  [0x140f]

theorem State.tryClose_touch {W0 : List Nat} {s0 s : State} (h0 : Touch W0 s0 s) (hW : Sub State.tryClose_cells W0) (a : Acc) :
    Touch W0 s0 (State.tryClose s a) := by
  have c_State_closeAcc : Sub State.closeAcc_cells W0 := Sub.trans (Sub.of rfl) hW
  unfold State.tryClose
  repeat' first
    | with_reducible assumption
    | with_reducible refine State.closeAcc_touch ?_ c_State_closeAcc _
    | with_reducible refine Touch.ite ?_ ?_

def State.flushAccs_cells : List Nat :=
  [0x140f]

theorem State.flushAccs_touch {W0 : List Nat} {s0 s : State} (h0 : Touch W0 s0 s) (hW : Sub State.flushAccs_cells W0) :
    Touch W0 s0 (State.flushAccs s) := by
  have c_State_tryClose : Sub State.tryClose_cells W0 := Sub.trans (Sub.of rfl) hW
  unfold State.flushAccs
  repeat' first
    | with_reducible assumption
    | with_reducible refine State.tryClose_touch ?_ c_State_tryClose _
    | with_reducible refine Touch.foldl ?_ ?_
    | with_reducible intro _ _
    | with_reducible intro _

end Sys2Proof.Machine
end

