-- ==== Sys2Proof/Laws/TouchCmdOps.lean ====
section
/-!
SUPPORT. What each operation of Machine/CmdOps.lean can do: the registers and parts of the state it may write, and nothing
else; the unit, its queue and the form of its stores are kept.
-/

-- proofs are elaborated one after another: many at once ask for more threads than a memory limit allows
set_option Elab.async false

set_option linter.unusedTactic false
set_option linter.unusedVariables false
set_option linter.unusedSimpArgs false
set_option linter.unreachableTactic false
set_option linter.tactic.unusedName false

namespace Sys2Proof.Machine

def State.optAnswer_cells : List Nat :=
  [0xc20, 0xc21, 0xc25, 0x1415]

theorem State.optAnswer_touch {W0 : List Nat} {s0 s : State} (h0 : Touch W0 s0 s) (hW : Sub State.optAnswer_cells W0) (l : List Byte) :
    Touch W0 s0 (State.optAnswer s l) := by
  have wc20 : Writes W0 R.OPT_STATUS := Or.inl (hW.mem rfl)
  have wc21 : Writes W0 R.OPT_EVENT := Or.inl (hW.mem rfl)
  have wc25 : Writes W0 R.OPT_ANSLEN := Or.inl (hW.mem rfl)
  have w1415 : 0x1415 ∈ W0 := hW.mem rfl
  unfold State.optAnswer
  repeat' first
    | with_reducible assumption
    | (extract_lets +onlyGivenNames xx; guard_hyp xx : State := _; refine Touch.cut (x := xx) ?_ ?_; (on_goal 2 => (intro hh; (try clear_value xx); revert xx; intro _ _)); any_goals (revert xx; intro _))
    | (extract_lets +onlyGivenNames xx; (try clear_value xx); revert xx; intro _)
    | with_reducible refine State.event_touch ?_ _ ?_
    | with_reducible refine State.setFlag_touch ?_ _ _ ?_
    | with_reducible refine State.setReg_touch ?_ _ _ ?_
    | with_reducible refine Touch.ite ?_ ?_
    | with_reducible refine Touch.update ?_

def State.answer_cells : List Nat :=
  [0xc20, 0xc21, 0xc25, 0x1413, 0x1415]

theorem State.answer_touch {W0 : List Nat} {s0 s : State} (h0 : Touch W0 s0 s) (hW : Sub State.answer_cells W0) (t : Transport) (a : Answer) :
    Touch W0 s0 (State.answer s t a) := by
  have c_State_optAnswer : Sub State.optAnswer_cells W0 := Sub.trans (Sub.of rfl) hW
  have w1413 : 0x1413 ∈ W0 := hW.mem rfl
  unfold State.answer
  repeat' first
    | with_reducible assumption
    | (extract_lets +onlyGivenNames xx; (try clear_value xx); revert xx; intro _)
    | with_reducible refine State.optAnswer_touch ?_ c_State_optAnswer _
    | split
    | with_reducible refine Touch.update ?_

def State.postDone_cells : List Nat :=
  [0x140f]

theorem State.postDone_touch {W0 : List Nat} {s0 s : State} (h0 : Touch W0 s0 s) (hW : Sub State.postDone_cells W0) (seq : Nat) (result : Nat) (replayed : Bool) (code : Nat) :
    Touch W0 s0 (State.postDone s seq result replayed code) := by
  have w140f : 0x140f ∈ W0 := hW.mem rfl
  unfold State.postDone
  repeat' first
    | with_reducible assumption
    | (extract_lets +onlyGivenNames xx; guard_hyp xx : (Ledger) := _; revert xx; intro _)
    | with_reducible refine Touch.ite ?_ ?_
    | with_reducible refine Touch.update ?_

def State.cmdAnswer_cells : List Nat :=
  [0xc20, 0xc21, 0xc25, 0x1413, 0x1415]

theorem State.cmdAnswer_touch {W0 : List Nat} {s0 s : State} (h0 : Touch W0 s0 s) (hW : Sub State.cmdAnswer_cells W0) (r : Run) (status : Nat) (body : List Byte) :
    Touch W0 s0 (State.cmdAnswer s r status body) := by
  have c_State_answer : Sub State.answer_cells W0 := Sub.trans (Sub.of rfl) hW
  unfold State.cmdAnswer
  repeat' first
    | with_reducible assumption
    | with_reducible refine State.answer_touch ?_ c_State_answer _ _
    | with_reducible refine Touch.ite ?_ ?_
    | split

def State.cmdFinish_cells : List Nat :=
  [0xc20, 0xc21, 0xc25, 0x140f, 0x1413, 0x1415]

theorem State.cmdFinish_touch {W0 : List Nat} {s0 s : State} (h0 : Touch W0 s0 s) (hW : Sub State.cmdFinish_cells W0) (r : Run) (result : Nat) (status : Nat) (body : List Byte) :
    Touch W0 s0 (State.cmdFinish s r result status body) := by
  have c_State_postDone : Sub State.postDone_cells W0 := Sub.trans (Sub.of rfl) hW
  have c_State_cmdAnswer : Sub State.cmdAnswer_cells W0 := Sub.trans (Sub.of rfl) hW
  unfold State.cmdFinish
  repeat' first
    | with_reducible assumption
    | with_reducible refine State.postDone_touch ?_ c_State_postDone _ _ _ _
    | with_reducible refine State.cmdAnswer_touch ?_ c_State_cmdAnswer _ _ _

def State.proofRequestsDone_cells : List Nat :=
  [0xc20, 0xc21, 0xc25, 0x140d, 0x140f, 0x1413, 0x1415]

theorem State.proofRequestsDone_touch {W0 : List Nat} {s0 s : State} (h0 : Touch W0 s0 s) (hW : Sub State.proofRequestsDone_cells W0) :
    Touch W0 s0 (State.proofRequestsDone s) := by
  have c_State_cmdFinish : Sub State.cmdFinish_cells W0 := Sub.trans (Sub.of rfl) hW
  have w140d : 0x140d ∈ W0 := hW.mem rfl
  unfold State.proofRequestsDone
  repeat' first
    | with_reducible assumption
    | (extract_lets +onlyGivenNames xx; guard_hyp xx : State := _; refine Touch.cut (x := xx) ?_ ?_; (on_goal 2 => (intro hh; (try clear_value xx); revert xx; intro _ _)); any_goals (revert xx; intro _))
    | (extract_lets +onlyGivenNames xx; (try clear_value xx); revert xx; intro _)
    | with_reducible refine State.cmdFinish_touch ?_ c_State_cmdFinish _ _ _ _
    | with_reducible refine Touch.foldl ?_ ?_
    | with_reducible intro _ _
    | with_reducible intro _
    | with_reducible refine Touch.update ?_

def State.shipRequestsDone_cells : List Nat :=
  [0xc20, 0xc21, 0xc25, 0x140d, 0x140f, 0x1413, 0x1415]

theorem State.shipRequestsDone_touch {W0 : List Nat} {s0 s : State} (h0 : Touch W0 s0 s) (hW : Sub State.shipRequestsDone_cells W0) (result : Nat) (status : Nat) (body : List Byte) :
    Touch W0 s0 (State.shipRequestsDone s result status body) := by
  have c_State_cmdFinish : Sub State.cmdFinish_cells W0 := Sub.trans (Sub.of rfl) hW
  have w140d : 0x140d ∈ W0 := hW.mem rfl
  unfold State.shipRequestsDone
  repeat' first
    | with_reducible assumption
    | (extract_lets +onlyGivenNames xx; guard_hyp xx : State := _; refine Touch.cut (x := xx) ?_ ?_; (on_goal 2 => (intro hh; (try clear_value xx); revert xx; intro _ _)); any_goals (revert xx; intro _))
    | (extract_lets +onlyGivenNames xx; (try clear_value xx); revert xx; intro _)
    | with_reducible refine State.cmdFinish_touch ?_ c_State_cmdFinish _ _ _ _
    | with_reducible refine Touch.foldl ?_ ?_
    | with_reducible intro _ _
    | with_reducible intro _
    | with_reducible refine Touch.update ?_

end Sys2Proof.Machine
end

