-- ==== Sys2Proof/Laws/TouchPowerOps.lean ====
section
/-!
SUPPORT. What each operation of Machine/PowerOps.lean can do: the registers and parts of the state it may write, and nothing
else; the unit, its queue and the form of its stores are kept.
-/

-- proofs are elaborated one after another: many at once ask for more threads than a memory limit allows
set_option Elab.async false

set_option linter.unusedTactic false
set_option linter.unusedVariables false
set_option linter.unusedSimpArgs false
set_option linter.unreachableTactic false
set_option linter.tactic.unusedName false

namespace Sys2Proof.Machine

def State.setPstate_cells : List Nat :=
  [0x2, 0x6, 0xa01, 0xa32, 0x140f]

theorem State.setPstate_touch {W0 : List Nat} {s0 s : State} (h0 : Touch W0 s0 s) (hW : Sub State.setPstate_cells W0) (new : Nat) :
    Touch W0 s0 (State.setPstate s new) := by
  have c_State_post : Sub State.post_cells W0 := Sub.trans (Sub.of rfl) hW
  have w2 : Writes W0 R.SYS_STATE := Or.inl (hW.mem rfl)
  have w6 : Writes W0 R.SYS_EVENT := Or.inl (hW.mem rfl)
  unfold State.setPstate
  repeat' first
    | with_reducible assumption
    | (extract_lets +onlyGivenNames xx; guard_hyp xx : State := _; refine Touch.cut (x := xx) ?_ ?_; (on_goal 2 => (intro hh; (try clear_value xx); revert xx; intro _ _)); any_goals (revert xx; intro _))
    | (extract_lets +onlyGivenNames xx; (try clear_value xx); revert xx; intro _)
    | with_reducible refine State.post_touch ?_ c_State_post _ _
    | with_reducible refine State.event_touch ?_ _ ?_
    | with_reducible refine State.setField_touch ?_ _ _ ?_
    | with_reducible refine Touch.ite ?_ ?_

def State.deferTimer_cells : List Nat :=
  [0x140c]

theorem State.deferTimer_touch {W0 : List Nat} {s0 s : State} (h0 : Touch W0 s0 s) (hW : Sub State.deferTimer_cells W0) (f : Flag) (x : Bool) :
    Touch W0 s0 (State.deferTimer s f x) := by
  have w140c : 0x140c ∈ W0 := hW.mem rfl
  unfold State.deferTimer
  repeat' first
    | with_reducible assumption
    | (extract_lets +onlyGivenNames xx; (try clear_value xx); revert xx; intro _)
    | with_reducible refine Touch.ite ?_ ?_
    | split
    | with_reducible refine Touch.update ?_

def State.setOverlay_cells : List Nat :=
  [0x6, 0x140c]

theorem State.setOverlay_touch {W0 : List Nat} {s0 s : State} (h0 : Touch W0 s0 s) (hW : Sub State.setOverlay_cells W0) (f : Flag) (x : Bool) (w_f : Writes W0 f.reg) :
    Touch W0 s0 (State.setOverlay s f x) := by
  have c_State_deferTimer : Sub State.deferTimer_cells W0 := Sub.trans (Sub.of rfl) hW
  have w6 : Writes W0 R.SYS_EVENT := Or.inl (hW.mem rfl)
  unfold State.setOverlay
  repeat' first
    | with_reducible assumption
    | with_reducible refine State.deferTimer_touch ?_ c_State_deferTimer _ _
    | with_reducible refine State.event_touch ?_ _ ?_
    | with_reducible refine State.setFlag_touch ?_ _ _ ?_
    | with_reducible refine Touch.ite ?_ ?_

def State.chgSettle_cells : List Nat :=
  [0x1409]

theorem State.chgSettle_touch {W0 : List Nat} {s0 s : State} (h0 : Touch W0 s0 s) (hW : Sub State.chgSettle_cells W0) :
    Touch W0 s0 (State.chgSettle s) := by
  have w1409 : 0x1409 ∈ W0 := hW.mem rfl
  unfold State.chgSettle
  repeat' first
    | with_reducible assumption
    | (extract_lets +onlyGivenNames xx; (try clear_value xx); revert xx; intro _)
    | with_reducible refine Touch.update ?_

def State.refreshReduced_cells : List Nat :=
  [0x300, 0x1409]

theorem State.refreshReduced_touch {W0 : List Nat} {s0 s : State} (h0 : Touch W0 s0 s) (hW : Sub State.refreshReduced_cells W0) :
    Touch W0 s0 (State.refreshReduced s) := by
  have c_State_chgSettle : Sub State.chgSettle_cells W0 := Sub.trans (Sub.of rfl) hW
  have w300 : Writes W0 R.CHG_STATUS := Or.inl (hW.mem rfl)
  unfold State.refreshReduced
  repeat' first
    | with_reducible assumption
    | with_reducible refine State.chgSettle_touch ?_ c_State_chgSettle
    | with_reducible refine State.setFlag_touch ?_ _ _ ?_

def State.refreshIbat_cells : List Nat :=
  [0x31f]

theorem State.refreshIbat_touch {W0 : List Nat} {s0 s : State} (h0 : Touch W0 s0 s) (hW : Sub State.refreshIbat_cells W0) :
    Touch W0 s0 (State.refreshIbat s) := by
  have w31f : Writes W0 R.CHG_IBAT := Or.inl (hW.mem rfl)
  unfold State.refreshIbat
  repeat' first
    | with_reducible assumption
    | with_reducible refine State.setReg_touch ?_ _ _ ?_
    | with_reducible refine Touch.ite ?_ ?_

def State.refreshBatfet_cells : List Nat :=
  [0x200]

theorem State.refreshBatfet_touch {W0 : List Nat} {s0 s : State} (h0 : Touch W0 s0 s) (hW : Sub State.refreshBatfet_cells W0) :
    Touch W0 s0 (State.refreshBatfet s) := by
  have w200 : Writes W0 R.PATH_STATUS := Or.inl (hW.mem rfl)
  unfold State.refreshBatfet
  repeat' first
    | with_reducible assumption
    | (extract_lets +onlyGivenNames xx; guard_hyp xx : State := _; refine Touch.cut (x := xx) ?_ ?_; (on_goal 2 => (intro hh; (try clear_value xx); revert xx; intro _ _)); any_goals (revert xx; intro _))
    | (extract_lets +onlyGivenNames xx; (try clear_value xx); revert xx; intro _)
    | with_reducible refine State.setFlag_touch ?_ _ _ ?_

def State.refreshShed_cells : List Nat :=
  [0x401, 0x40f, 0xa01, 0xa32, 0x1408, 0x140f]

theorem State.refreshShed_touch {W0 : List Nat} {s0 s : State} (h0 : Touch W0 s0 s) (hW : Sub State.refreshShed_cells W0) :
    Touch W0 s0 (State.refreshShed s) := by
  have c_State_tally : Sub State.tally_cells W0 := Sub.trans (Sub.of rfl) hW
  have w401 : Writes W0 R.CONV_EVENT := Or.inl (hW.mem rfl)
  have w40f : Writes W0 R.CONV_SHEDCNT := Or.inl (hW.mem rfl)
  have w1408 : 0x1408 ∈ W0 := hW.mem rfl
  unfold State.refreshShed
  repeat' first
    | with_reducible assumption
    | (extract_lets +onlyGivenNames xx; guard_hyp xx : State := _; refine Touch.cut (x := xx) ?_ ?_; (on_goal 2 => (intro hh; (try clear_value xx); revert xx; intro _ _)); any_goals (revert xx; intro _))
    | (extract_lets +onlyGivenNames xx; (try clear_value xx); revert xx; intro _)
    | with_reducible refine State.tally_touch ?_ c_State_tally _
    | with_reducible refine State.bump_touch ?_ _ _ ?_
    | with_reducible refine State.event_touch ?_ _ ?_
    | with_reducible refine Touch.ite ?_ ?_
    | with_reducible refine Touch.update ?_

def State.excClip_cells : List Nat :=
  [0x401, 0x40f, 0xa01, 0xa32, 0x1408, 0x140f]

theorem State.excClip_touch {W0 : List Nat} {s0 s : State} (h0 : Touch W0 s0 s) (hW : Sub State.excClip_cells W0) :
    Touch W0 s0 (State.excClip s) := by
  have c_State_refreshShed : Sub State.refreshShed_cells W0 := Sub.trans (Sub.of rfl) hW
  have w401 : Writes W0 R.CONV_EVENT := Or.inl (hW.mem rfl)
  have w1408 : 0x1408 ∈ W0 := hW.mem rfl
  unfold State.excClip
  repeat' first
    | with_reducible assumption
    | (extract_lets +onlyGivenNames xx; (try clear_value xx); revert xx; intro _)
    | with_reducible refine State.refreshShed_touch ?_ c_State_refreshShed
    | with_reducible refine State.event_touch ?_ _ ?_
    | with_reducible refine Touch.ite ?_ ?_
    | with_reducible refine Touch.update ?_

def State.excEnd_cells : List Nat :=
  [0x400, 0x401, 0x40f, 0xa01, 0xa32, 0x1408, 0x140f]

theorem State.excEnd_touch {W0 : List Nat} {s0 s : State} (h0 : Touch W0 s0 s) (hW : Sub State.excEnd_cells W0) :
    Touch W0 s0 (State.excEnd s) := by
  have c_State_refreshShed : Sub State.refreshShed_cells W0 := Sub.trans (Sub.of rfl) hW
  have w400 : Writes W0 R.CONV_STATUS := Or.inl (hW.mem rfl)
  have w1408 : 0x1408 ∈ W0 := hW.mem rfl
  unfold State.excEnd
  repeat' first
    | with_reducible assumption
    | (extract_lets +onlyGivenNames xx; guard_hyp xx : State := _; refine Touch.cut (x := xx) ?_ ?_; (on_goal 2 => (intro hh; (try clear_value xx); revert xx; intro _ _)); any_goals (revert xx; intro _))
    | (extract_lets +onlyGivenNames xx; (try clear_value xx); revert xx; intro _)
    | with_reducible refine State.refreshShed_touch ?_ c_State_refreshShed
    | with_reducible refine State.setFlag_touch ?_ _ _ ?_
    | with_reducible refine Touch.update ?_

def State.refreshFold_cells : List Nat :=
  [0x400, 0x401, 0x40f, 0xa01, 0xa32, 0x1408, 0x140f]

theorem State.refreshFold_touch {W0 : List Nat} {s0 s : State} (h0 : Touch W0 s0 s) (hW : Sub State.refreshFold_cells W0) :
    Touch W0 s0 (State.refreshFold s) := by
  have c_State_refreshShed : Sub State.refreshShed_cells W0 := Sub.trans (Sub.of rfl) hW
  have w400 : Writes W0 R.CONV_STATUS := Or.inl (hW.mem rfl)
  have w401 : Writes W0 R.CONV_EVENT := Or.inl (hW.mem rfl)
  unfold State.refreshFold
  repeat' first
    | with_reducible assumption
    | (extract_lets +onlyGivenNames xx; guard_hyp xx : State := _; refine Touch.cut (x := xx) ?_ ?_; (on_goal 2 => (intro hh; (try clear_value xx); revert xx; intro _ _)); any_goals (revert xx; intro _))
    | (extract_lets +onlyGivenNames xx; (try clear_value xx); revert xx; intro _)
    | with_reducible refine State.refreshShed_touch ?_ c_State_refreshShed
    | with_reducible refine State.event_touch ?_ _ ?_
    | with_reducible refine State.setFlag_touch ?_ _ _ ?_
    | with_reducible refine Touch.ite ?_ ?_

def State.enterPhase_cells : List Nat :=
  [0x200, 0x300, 0x301, 0x31f, 0x1409]

theorem State.enterPhase_touch {W0 : List Nat} {s0 s : State} (h0 : Touch W0 s0 s) (hW : Sub State.enterPhase_cells W0) (p : Nat) :
    Touch W0 s0 (State.enterPhase s p) := by
  have c_State_chgSettle : Sub State.chgSettle_cells W0 := Sub.trans (Sub.of rfl) hW
  have c_State_refreshReduced : Sub State.refreshReduced_cells W0 := Sub.trans (Sub.of rfl) hW
  have c_State_refreshIbat : Sub State.refreshIbat_cells W0 := Sub.trans (Sub.of rfl) hW
  have c_State_refreshBatfet : Sub State.refreshBatfet_cells W0 := Sub.trans (Sub.of rfl) hW
  have w300 : Writes W0 R.CHG_STATUS := Or.inl (hW.mem rfl)
  have w301 : Writes W0 R.CHG_EVENT := Or.inl (hW.mem rfl)
  have w1409 : 0x1409 ∈ W0 := hW.mem rfl
  unfold State.enterPhase
  repeat' first
    | with_reducible assumption
    | (extract_lets +onlyGivenNames xx; guard_hyp xx : State := _; refine Touch.cut (x := xx) ?_ ?_; (on_goal 2 => (intro hh; (try clear_value xx); revert xx; intro _ _)); any_goals (revert xx; intro _))
    | (extract_lets +onlyGivenNames xx; (try clear_value xx); revert xx; intro _)
    | with_reducible refine State.chgSettle_touch ?_ c_State_chgSettle
    | with_reducible refine State.refreshReduced_touch ?_ c_State_refreshReduced
    | with_reducible refine State.refreshIbat_touch ?_ c_State_refreshIbat
    | with_reducible refine State.refreshBatfet_touch ?_ c_State_refreshBatfet
    | with_reducible refine State.event_touch ?_ _ ?_
    | with_reducible refine State.setField_touch ?_ _ _ ?_
    | with_reducible refine State.setFlag_touch ?_ _ _ ?_
    | with_reducible refine Touch.ite ?_ ?_
    | split
    | with_reducible refine Touch.update ?_

def State.forgetTimers_cells : List Nat :=
  [0x1409]

theorem State.forgetTimers_touch {W0 : List Nat} {s0 s : State} (h0 : Touch W0 s0 s) (hW : Sub State.forgetTimers_cells W0) :
    Touch W0 s0 (State.forgetTimers s) := by
  have w1409 : 0x1409 ∈ W0 := hW.mem rfl
  unfold State.forgetTimers
  repeat' first
    | with_reducible assumption
    | (extract_lets +onlyGivenNames xx; (try clear_value xx); revert xx; intro _)
    | with_reducible refine Touch.update ?_

def State.holdCellok_cells : List Nat :=
  [0x405]

theorem State.holdCellok_touch {W0 : List Nat} {s0 s : State} (h0 : Touch W0 s0 s) (hW : Sub State.holdCellok_cells W0) :
    Touch W0 s0 (State.holdCellok s) := by
  have w405 : Writes W0 R.CONV_TET_CTRL := Or.inl (hW.mem rfl)
  unfold State.holdCellok
  repeat' first
    | with_reducible assumption
    | with_reducible refine State.setFlag_touch ?_ _ _ ?_
    | with_reducible refine Touch.ite ?_ ?_

def State.refreshPartial_cells : List Nat :=
  [0x300, 0x405]

theorem State.refreshPartial_touch {W0 : List Nat} {s0 s : State} (h0 : Touch W0 s0 s) (hW : Sub State.refreshPartial_cells W0) :
    Touch W0 s0 (State.refreshPartial s) := by
  have c_State_holdCellok : Sub State.holdCellok_cells W0 := Sub.trans (Sub.of rfl) hW
  have w300 : Writes W0 R.CHG_STATUS := Or.inl (hW.mem rfl)
  unfold State.refreshPartial
  repeat' first
    | with_reducible assumption
    | (extract_lets +onlyGivenNames xx; guard_hyp xx : State := _; refine Touch.cut (x := xx) ?_ ?_; (on_goal 2 => (intro hh; (try clear_value xx); revert xx; intro _ _)); any_goals (revert xx; intro _))
    | with_reducible refine State.holdCellok_touch ?_ c_State_holdCellok
    | with_reducible refine State.setFlag_touch ?_ _ _ ?_

def State.chgSuspend_cells : List Nat :=
  [0x200, 0x300, 0x301, 0x31f, 0xa01, 0xa32, 0x1409, 0x140f]

theorem State.chgSuspend_touch {W0 : List Nat} {s0 s : State} (h0 : Touch W0 s0 s) (hW : Sub State.chgSuspend_cells W0) (bit : Flag) (w_bit : Writes W0 bit.reg) :
    Touch W0 s0 (State.chgSuspend s bit) := by
  have c_State_tally : Sub State.tally_cells W0 := Sub.trans (Sub.of rfl) hW
  have c_State_enterPhase : Sub State.enterPhase_cells W0 := Sub.trans (Sub.of rfl) hW
  have w301 : Writes W0 R.CHG_EVENT := Or.inl (hW.mem rfl)
  have w1409 : 0x1409 ∈ W0 := hW.mem rfl
  unfold State.chgSuspend
  repeat' first
    | with_reducible assumption
    | (extract_lets +onlyGivenNames xx; guard_hyp xx : State := _; refine Touch.cut (x := xx) ?_ ?_; (on_goal 2 => (intro hh; (try clear_value xx); revert xx; intro _ _)); any_goals (revert xx; intro _))
    | (extract_lets +onlyGivenNames xx; (try clear_value xx); revert xx; intro _)
    | with_reducible refine State.tally_touch ?_ c_State_tally _
    | with_reducible refine State.enterPhase_touch ?_ c_State_enterPhase _
    | with_reducible refine State.event_touch ?_ _ ?_
    | with_reducible refine State.setFlag_touch ?_ _ _ ?_
    | with_reducible refine Touch.ite ?_ ?_
    | with_reducible refine Touch.update ?_

def State.chgRelease_cells : List Nat :=
  []

theorem State.chgRelease_touch {W0 : List Nat} {s0 s : State} (h0 : Touch W0 s0 s) (hW : Sub State.chgRelease_cells W0) (bit : Flag) (w_bit : Writes W0 bit.reg) :
    Touch W0 s0 (State.chgRelease s bit) := by
  unfold State.chgRelease
  repeat' first
    | with_reducible assumption
    | with_reducible refine State.setFlag_touch ?_ _ _ ?_

def State.chgOff_cells : List Nat :=
  [0x200, 0x300, 0x301, 0x31f, 0x1409]

theorem State.chgOff_touch {W0 : List Nat} {s0 s : State} (h0 : Touch W0 s0 s) (hW : Sub State.chgOff_cells W0) :
    Touch W0 s0 (State.chgOff s) := by
  have c_State_enterPhase : Sub State.enterPhase_cells W0 := Sub.trans (Sub.of rfl) hW
  have c_State_forgetTimers : Sub State.forgetTimers_cells W0 := Sub.trans (Sub.of rfl) hW
  unfold State.chgOff
  repeat' first
    | with_reducible assumption
    | with_reducible refine State.enterPhase_touch ?_ c_State_enterPhase _
    | with_reducible refine State.forgetTimers_touch ?_ c_State_forgetTimers
    | with_reducible refine Touch.ite ?_ ?_

def State.refreshChgOff_cells : List Nat :=
  [0x200, 0x300, 0x301, 0x31f, 0x1409]

theorem State.refreshChgOff_touch {W0 : List Nat} {s0 s : State} (h0 : Touch W0 s0 s) (hW : Sub State.refreshChgOff_cells W0) :
    Touch W0 s0 (State.refreshChgOff s) := by
  have c_State_chgOff : Sub State.chgOff_cells W0 := Sub.trans (Sub.of rfl) hW
  unfold State.refreshChgOff
  repeat' first
    | with_reducible assumption
    | with_reducible refine State.chgOff_touch ?_ c_State_chgOff
    | with_reducible refine Touch.ite ?_ ?_

def State.refreshSusSrc_cells : List Nat :=
  [0x200, 0x300, 0x301, 0x31f, 0xa01, 0xa32, 0x1409, 0x140f]

theorem State.refreshSusSrc_touch {W0 : List Nat} {s0 s : State} (h0 : Touch W0 s0 s) (hW : Sub State.refreshSusSrc_cells W0) :
    Touch W0 s0 (State.refreshSusSrc s) := by
  have c_State_chgRelease : Sub State.chgRelease_cells W0 := fun _ h => nomatch h
  have c_State_chgSuspend : Sub State.chgSuspend_cells W0 := Sub.trans (Sub.of rfl) hW
  have w300 : Writes W0 R.CHG_STATUS := Or.inl (hW.mem rfl)
  unfold State.refreshSusSrc
  repeat' first
    | with_reducible assumption
    | with_reducible refine State.chgRelease_touch ?_ c_State_chgRelease _ ?_
    | with_reducible refine State.chgSuspend_touch ?_ c_State_chgSuspend _ ?_
    | with_reducible refine Touch.ite ?_ ?_

def State.chgRechoose_cells : List Nat :=
  [0x200, 0x300, 0x301, 0x31f, 0x1409]

theorem State.chgRechoose_touch {W0 : List Nat} {s0 s : State} (h0 : Touch W0 s0 s) (hW : Sub State.chgRechoose_cells W0) :
    Touch W0 s0 (State.chgRechoose s) := by
  have c_State_enterPhase : Sub State.enterPhase_cells W0 := Sub.trans (Sub.of rfl) hW
  have w1409 : 0x1409 ∈ W0 := hW.mem rfl
  unfold State.chgRechoose
  repeat' first
    | with_reducible assumption
    | (extract_lets +onlyGivenNames xx; guard_hyp xx : State := _; refine Touch.cut (x := xx) ?_ ?_; (on_goal 2 => (intro hh; (try clear_value xx); revert xx; intro _ _)); any_goals (revert xx; intro _))
    | (extract_lets +onlyGivenNames xx; (try clear_value xx); revert xx; intro _)
    | with_reducible refine State.enterPhase_touch ?_ c_State_enterPhase _
    | with_reducible refine Touch.ite ?_ ?_
    | with_reducible refine Touch.update ?_

def State.refreshLimited_cells : List Nat :=
  [0x200, 0x300, 0x301, 0x31f, 0x405, 0xa01, 0xa32, 0x1409, 0x140f]

theorem State.refreshLimited_touch {W0 : List Nat} {s0 s : State} (h0 : Touch W0 s0 s) (hW : Sub State.refreshLimited_cells W0) :
    Touch W0 s0 (State.refreshLimited s) := by
  have c_State_refreshPartial : Sub State.refreshPartial_cells W0 := Sub.trans (Sub.of rfl) hW
  have c_State_refreshIbat : Sub State.refreshIbat_cells W0 := Sub.trans (Sub.of rfl) hW
  have c_State_chgRechoose : Sub State.chgRechoose_cells W0 := Sub.trans (Sub.of rfl) hW
  have c_State_post : Sub State.post_cells W0 := Sub.trans (Sub.of rfl) hW
  have w300 : Writes W0 R.CHG_STATUS := Or.inl (hW.mem rfl)
  have w301 : Writes W0 R.CHG_EVENT := Or.inl (hW.mem rfl)
  unfold State.refreshLimited
  repeat' first
    | with_reducible assumption
    | (extract_lets +onlyGivenNames xx; guard_hyp xx : State := _; refine Touch.cut (x := xx) ?_ ?_; (on_goal 2 => (intro hh; (try clear_value xx); revert xx; intro _ _)); any_goals (revert xx; intro _))
    | (extract_lets +onlyGivenNames xx; (try clear_value xx); revert xx; intro _)
    | with_reducible refine State.refreshPartial_touch ?_ c_State_refreshPartial
    | with_reducible refine State.refreshIbat_touch ?_ c_State_refreshIbat
    | with_reducible refine State.chgRechoose_touch ?_ c_State_chgRechoose
    | with_reducible refine State.post_touch ?_ c_State_post _ _
    | with_reducible refine State.event_touch ?_ _ ?_
    | with_reducible refine State.setFlag_touch ?_ _ _ ?_
    | with_reducible refine Touch.ite ?_ ?_

def State.hornStart_cells : List Nat :=
  [0x400, 0x401, 0x40f, 0xa01, 0xa32, 0x1406, 0x1408, 0x140f]

theorem State.hornStart_touch {W0 : List Nat} {s0 s : State} (h0 : Touch W0 s0 s) (hW : Sub State.hornStart_cells W0) :
    Touch W0 s0 (State.hornStart s) := by
  have c_State_refreshFold : Sub State.refreshFold_cells W0 := Sub.trans (Sub.of rfl) hW
  have w400 : Writes W0 R.CONV_STATUS := Or.inl (hW.mem rfl)
  have w1406 : 0x1406 ∈ W0 := hW.mem rfl
  have w1408 : 0x1408 ∈ W0 := hW.mem rfl
  unfold State.hornStart
  repeat' first
    | with_reducible assumption
    | (extract_lets +onlyGivenNames xx; guard_hyp xx : State := _; refine Touch.cut (x := xx) ?_ ?_; (on_goal 2 => (intro hh; (try clear_value xx); revert xx; intro _ _)); any_goals (revert xx; intro _))
    | (extract_lets +onlyGivenNames xx; (try clear_value xx); revert xx; intro _)
    | with_reducible refine State.refreshFold_touch ?_ c_State_refreshFold
    | with_reducible refine State.setFlag_touch ?_ _ _ ?_
    | with_reducible refine Touch.ite ?_ ?_
    | with_reducible refine Touch.update ?_

def State.refreshHsw_cells : List Nat :=
  [0x700]

theorem State.refreshHsw_touch {W0 : List Nat} {s0 s : State} (h0 : Touch W0 s0 s) (hW : Sub State.refreshHsw_cells W0) :
    Touch W0 s0 (State.refreshHsw s) := by
  have w700 : Writes W0 R.ALM_STATUS := Or.inl (hW.mem rfl)
  unfold State.refreshHsw
  repeat' first
    | with_reducible assumption
    | with_reducible refine State.setFlag_touch ?_ _ _ ?_

def State.hornOff_cells : List Nat :=
  [0x400, 0x401, 0x40d, 0x40f, 0x700, 0xa01, 0xa32, 0x1406, 0x1408, 0x140f]

theorem State.hornOff_touch {W0 : List Nat} {s0 s : State} (h0 : Touch W0 s0 s) (hW : Sub State.hornOff_cells W0) :
    Touch W0 s0 (State.hornOff s) := by
  have c_State_refreshFold : Sub State.refreshFold_cells W0 := Sub.trans (Sub.of rfl) hW
  have w400 : Writes W0 R.CONV_STATUS := Or.inl (hW.mem rfl)
  have w40d : Writes W0 R.CONV_HORN_MEAS := Or.inl (hW.mem rfl)
  have w700 : Writes W0 R.ALM_STATUS := Or.inl (hW.mem rfl)
  have w1406 : 0x1406 ∈ W0 := hW.mem rfl
  have w1408 : 0x1408 ∈ W0 := hW.mem rfl
  unfold State.hornOff
  repeat' first
    | with_reducible assumption
    | (extract_lets +onlyGivenNames xx; guard_hyp xx : State := _; refine Touch.cut (x := xx) ?_ ?_; (on_goal 2 => (intro hh; (try clear_value xx); revert xx; intro _ _)); any_goals (revert xx; intro _))
    | (extract_lets +onlyGivenNames xx; (try clear_value xx); revert xx; intro _)
    | with_reducible refine State.refreshFold_touch ?_ c_State_refreshFold
    | with_reducible refine State.setFlag_touch ?_ _ _ ?_
    | with_reducible refine State.setReg_touch ?_ _ _ ?_
    | with_reducible refine Touch.update ?_

def State.setTetMode_cells : List Nat :=
  [0x100, 0x400, 0x401, 0x40e, 0x40f, 0xa01, 0xa32, 0x1408, 0x140f]

theorem State.setTetMode_touch {W0 : List Nat} {s0 s : State} (h0 : Touch W0 s0 s) (hW : Sub State.setTetMode_cells W0) (m : Nat) :
    Touch W0 s0 (State.setTetMode s m) := by
  have c_State_refreshShed : Sub State.refreshShed_cells W0 := Sub.trans (Sub.of rfl) hW
  have w100 : Writes W0 R.SRC_STATUS := Or.inl (hW.mem rfl)
  have w400 : Writes W0 R.CONV_STATUS := Or.inl (hW.mem rfl)
  have w40e : Writes W0 R.CONV_TET_I := Or.inl (hW.mem rfl)
  have w1408 : 0x1408 ∈ W0 := hW.mem rfl
  unfold State.setTetMode
  repeat' first
    | with_reducible assumption
    | (extract_lets +onlyGivenNames xx; guard_hyp xx : State := _; refine Touch.cut (x := xx) ?_ ?_; (on_goal 2 => (intro hh; (try clear_value xx); revert xx; intro _ _)); any_goals (revert xx; intro _))
    | (extract_lets +onlyGivenNames xx; (try clear_value xx); revert xx; intro _)
    | with_reducible refine State.refreshShed_touch ?_ c_State_refreshShed
    | with_reducible refine State.setField_touch ?_ _ _ ?_
    | with_reducible refine State.setFlag_touch ?_ _ _ ?_
    | with_reducible refine State.setReg_touch ?_ _ _ ?_
    | with_reducible refine Touch.ite ?_ ?_
    | with_reducible refine Touch.update ?_

def State.refreshFeed_cells : List Nat :=
  [0x2, 0x6, 0x200, 0x300, 0x301, 0x31f, 0x401, 0x40f, 0xa01, 0xa32, 0x1408, 0x1409, 0x140f]

theorem State.refreshFeed_touch {W0 : List Nat} {s0 s : State} (h0 : Touch W0 s0 s) (hW : Sub State.refreshFeed_cells W0) :
    Touch W0 s0 (State.refreshFeed s) := by
  have c_State_setPstate : Sub State.setPstate_cells W0 := Sub.trans (Sub.of rfl) hW
  have c_State_refreshSusSrc : Sub State.refreshSusSrc_cells W0 := Sub.trans (Sub.of rfl) hW
  have c_State_refreshBatfet : Sub State.refreshBatfet_cells W0 := Sub.trans (Sub.of rfl) hW
  have c_State_excClip : Sub State.excClip_cells W0 := Sub.trans (Sub.of rfl) hW
  have w2 : Writes W0 R.SYS_STATE := Or.inl (hW.mem rfl)
  unfold State.refreshFeed
  repeat' first
    | with_reducible assumption
    | (extract_lets +onlyGivenNames xx; guard_hyp xx : State := _; refine Touch.cut (x := xx) ?_ ?_; (on_goal 2 => (intro hh; (try clear_value xx); revert xx; intro _ _)); any_goals (revert xx; intro _))
    | (extract_lets +onlyGivenNames xx; (try clear_value xx); revert xx; intro _)
    | with_reducible refine State.setPstate_touch ?_ c_State_setPstate _
    | with_reducible refine State.refreshSusSrc_touch ?_ c_State_refreshSusSrc
    | with_reducible refine State.refreshBatfet_touch ?_ c_State_refreshBatfet
    | with_reducible refine State.excClip_touch ?_ c_State_excClip
    | with_reducible refine State.setFlag_touch ?_ _ _ ?_
    | with_reducible refine Touch.ite ?_ ?_

def State.tetMove_cells : List Nat :=
  [0x2, 0x6, 0x100, 0x200, 0x300, 0x301, 0x31f, 0x400, 0x401, 0x40e, 0x40f, 0xa01, 0xa32, 0x1408, 0x1409, 0x140f]

theorem State.tetMove_touch {W0 : List Nat} {s0 s : State} (h0 : Touch W0 s0 s) (hW : Sub State.tetMove_cells W0) :
    Touch W0 s0 (State.tetMove s) := by
  have c_State_setTetMode : Sub State.setTetMode_cells W0 := Sub.trans (Sub.of rfl) hW
  have c_State_refreshFeed : Sub State.refreshFeed_cells W0 := Sub.trans (Sub.of rfl) hW
  unfold State.tetMove
  repeat' first
    | with_reducible assumption
    | with_reducible refine State.setTetMode_touch ?_ c_State_setTetMode _
    | with_reducible refine State.refreshFeed_touch ?_ c_State_refreshFeed
    | with_reducible refine Touch.ite ?_ ?_

def State.shipRefuse_cells : List Nat :=
  [0x6, 0xa01, 0xa32, 0xc20, 0xc21, 0xc25, 0x140d, 0x140f, 0x1413, 0x1415]

theorem State.shipRefuse_touch {W0 : List Nat} {s0 s : State} (h0 : Touch W0 s0 s) (hW : Sub State.shipRefuse_cells W0) (cause : Nat) (req : Requester) :
    Touch W0 s0 (State.shipRefuse s cause req) := by
  have c_State_post : Sub State.post_cells W0 := Sub.trans (Sub.of rfl) hW
  have c_State_shipRequestsDone : Sub State.shipRequestsDone_cells W0 := Sub.trans (Sub.of rfl) hW
  have w6 : Writes W0 R.SYS_EVENT := Or.inl (hW.mem rfl)
  unfold State.shipRefuse
  repeat' first
    | with_reducible assumption
    | with_reducible refine State.post_touch ?_ c_State_post _ _
    | with_reducible refine State.shipRequestsDone_touch ?_ c_State_shipRequestsDone _ _ _
    | with_reducible refine State.event_touch ?_ _ ?_

def State.shipRequest_cells : List Nat :=
  [0x6, 0xa01, 0xa32, 0xc20, 0xc21, 0xc25, 0x1405, 0x140d, 0x140f, 0x1413, 0x1415]

theorem State.shipRequest_touch {W0 : List Nat} {s0 s : State} (h0 : Touch W0 s0 s) (hW : Sub State.shipRequest_cells W0) (req : Requester) :
    Touch W0 s0 (State.shipRequest s req) := by
  have c_State_shipRefuse : Sub State.shipRefuse_cells W0 := Sub.trans (Sub.of rfl) hW
  have w1405 : 0x1405 ∈ W0 := hW.mem rfl
  unfold State.shipRequest
  repeat' first
    | with_reducible assumption
    | (extract_lets +onlyGivenNames xx; guard_hyp xx : (Boot) := _; revert xx; intro _)
    | with_reducible refine State.shipRefuse_touch ?_ c_State_shipRefuse _ _
    | with_reducible refine Touch.ite ?_ ?_
    | with_reducible refine Touch.update ?_

def State.shipCheck_cells : List Nat :=
  [0x6, 0xa01, 0xa32, 0xc20, 0xc21, 0xc25, 0x1405, 0x140d, 0x140f, 0x1413, 0x1415]

theorem State.shipCheck_touch {W0 : List Nat} {s0 s : State} (h0 : Touch W0 s0 s) (hW : Sub State.shipCheck_cells W0) :
    Touch W0 s0 (State.shipCheck s) := by
  have c_State_shipRefuse : Sub State.shipRefuse_cells W0 := Sub.trans (Sub.of rfl) hW
  have w1405 : 0x1405 ∈ W0 := hW.mem rfl
  unfold State.shipCheck
  repeat' first
    | with_reducible assumption
    | (extract_lets +onlyGivenNames xx; guard_hyp xx : (Boot) := _; revert xx; intro _)
    | with_reducible refine State.shipRefuse_touch ?_ c_State_shipRefuse _ _
    | with_reducible refine Touch.ite ?_ ?_
    | split
    | with_reducible refine Touch.update ?_

def State.shipDrop_cells : List Nat :=
  [0x6, 0xa01, 0xa32, 0xc20, 0xc21, 0xc25, 0x1405, 0x140d, 0x140f, 0x1413, 0x1415]

theorem State.shipDrop_touch {W0 : List Nat} {s0 s : State} (h0 : Touch W0 s0 s) (hW : Sub State.shipDrop_cells W0) :
    Touch W0 s0 (State.shipDrop s) := by
  have c_State_shipRefuse : Sub State.shipRefuse_cells W0 := Sub.trans (Sub.of rfl) hW
  have w1405 : 0x1405 ∈ W0 := hW.mem rfl
  unfold State.shipDrop
  repeat' first
    | with_reducible assumption
    | (extract_lets +onlyGivenNames xx; guard_hyp xx : (Boot) := _; revert xx; intro _)
    | with_reducible refine State.shipRefuse_touch ?_ c_State_shipRefuse _ _
    | split
    | with_reducible refine Touch.update ?_

def State.powerChanged_cells : List Nat :=
  [0x2, 0x6, 0x100, 0x200, 0x300, 0x301, 0x31f, 0x400, 0x401, 0x40e, 0x40f, 0xa01, 0xa32, 0xc20, 0xc21, 0xc25, 0x1405,
   0x1408, 0x1409, 0x140d, 0x140f, 0x1413, 0x1415]

theorem State.powerChanged_touch {W0 : List Nat} {s0 s : State} (h0 : Touch W0 s0 s) (hW : Sub State.powerChanged_cells W0) :
    Touch W0 s0 (State.powerChanged s) := by
  have c_State_refreshFeed : Sub State.refreshFeed_cells W0 := Sub.trans (Sub.of rfl) hW
  have c_State_tetMove : Sub State.tetMove_cells W0 := Sub.trans (Sub.of rfl) hW
  have c_State_shipCheck : Sub State.shipCheck_cells W0 := Sub.trans (Sub.of rfl) hW
  unfold State.powerChanged
  repeat' first
    | with_reducible assumption
    | with_reducible refine State.refreshFeed_touch ?_ c_State_refreshFeed
    | with_reducible refine State.tetMove_touch ?_ c_State_tetMove
    | with_reducible refine State.shipCheck_touch ?_ c_State_shipCheck

end Sys2Proof.Machine
end

