-- ==== Sys2Proof/Laws/TouchStallOps.lean ====
section
/-!
SUPPORT. What each operation of Machine/StallOps.lean can do: the registers and parts of the state it may write, and nothing
else; the unit, its queue and the form of its stores are kept.
-/

-- proofs are elaborated one after another: many at once ask for more threads than a memory limit allows
set_option Elab.async false

set_option linter.unusedTactic false
set_option linter.unusedVariables false
set_option linter.unusedSimpArgs false
set_option linter.unreachableTactic false
set_option linter.tactic.unusedName false

namespace Sys2Proof.Machine

def State.stallStore_cells : List Nat :=
  [0x140f, 0x1417]

theorem State.stallStore_touch {W0 : List Nat} {s0 s : State} (h0 : Touch W0 s0 s) (hW : Sub State.stallStore_cells W0) (addr : Nat) (b : List Byte) :
    Touch W0 s0 (State.stallStore s addr b) := by
  have c_State_writeSlots : Sub State.writeSlots_cells W0 := Sub.trans (Sub.of rfl) hW
  unfold State.stallStore
  repeat' first
    | with_reducible assumption
    | with_reducible refine State.writeSlots_touch ?_ c_State_writeSlots _

def State.stallRepair_cells : List Nat :=
  [0xa01, 0xa32, 0x140f, 0x1417]

theorem State.stallRepair_touch {W0 : List Nat} {s0 s : State} (h0 : Touch W0 s0 s) (hW : Sub State.stallRepair_cells W0) (addr : Nat) :
    Touch W0 s0 (State.stallRepair s addr) := by
  have c_State_stallStore : Sub State.stallStore_cells W0 := Sub.trans (Sub.of rfl) hW
  have c_State_post : Sub State.post_cells W0 := Sub.trans (Sub.of rfl) hW
  unfold State.stallRepair
  repeat' first
    | with_reducible assumption
    | (extract_lets +onlyGivenNames xx; (try clear_value xx); revert xx; intro _)
    | with_reducible refine State.stallStore_touch ?_ c_State_stallStore _ _
    | with_reducible refine State.post_touch ?_ c_State_post _ _
    | with_reducible refine Touch.ite ?_ ?_
    | split

def State.writeBack_cells : List Nat :=
  [0x140f, 0x1417]

theorem State.writeBack_touch {W0 : List Nat} {s0 s : State} (h0 : Touch W0 s0 s) (hW : Sub State.writeBack_cells W0) (c : StallCell) :
    Touch W0 s0 (State.writeBack s c) := by
  have c_State_stallStore : Sub State.stallStore_cells W0 := Sub.trans (Sub.of rfl) hW
  unfold State.writeBack
  repeat' first
    | with_reducible assumption
    | with_reducible refine State.stallStore_touch ?_ c_State_stallStore _ _

def State.stallRoom_cells : List Nat :=
  [0x140b, 0x140f, 0x1417]

theorem State.stallRoom_touch {W0 : List Nat} {s0 s : State} (h0 : Touch W0 s0 s) (hW : Sub State.stallRoom_cells W0) :
    Touch W0 s0 (State.stallRoom s) := by
  have c_State_writeBack : Sub State.writeBack_cells W0 := Sub.trans (Sub.of rfl) hW
  have w140b : 0x140b ∈ W0 := hW.mem rfl
  unfold State.stallRoom
  repeat' first
    | with_reducible assumption
    | (extract_lets +onlyGivenNames xx; guard_hyp xx : State := _; refine Touch.cut (x := xx) ?_ ?_; (on_goal 2 => (intro hh; (try clear_value xx); revert xx; intro _ _)); any_goals (revert xx; intro _))
    | (extract_lets +onlyGivenNames xx; (try clear_value xx); revert xx; intro _)
    | with_reducible refine State.writeBack_touch ?_ c_State_writeBack _
    | with_reducible refine Touch.ite ?_ ?_
    | split
    | with_reducible refine Touch.update ?_

def State.stallLoad_cells : List Nat :=
  [0xa01, 0xa32, 0x140b, 0x140f, 0x1417]

theorem State.stallLoad_touch {W0 : List Nat} {s0 s : State} (h0 : Touch W0 s0 s) (hW : Sub State.stallLoad_cells W0) (addr : Nat) :
    Touch W0 s0 (State.stallLoad s addr) := by
  have c_State_stallRoom : Sub State.stallRoom_cells W0 := Sub.trans (Sub.of rfl) hW
  have c_State_stallRepair : Sub State.stallRepair_cells W0 := Sub.trans (Sub.of rfl) hW
  have w140b : 0x140b ∈ W0 := hW.mem rfl
  unfold State.stallLoad
  repeat' first
    | with_reducible assumption
    | (extract_lets +onlyGivenNames xx; guard_hyp xx : State := _; refine Touch.cut (x := xx) ?_ ?_; (on_goal 2 => (intro hh; (try clear_value xx); revert xx; intro _ _)); any_goals (revert xx; intro _))
    | (extract_lets +onlyGivenNames xx; (try clear_value xx); revert xx; intro _)
    | with_reducible refine State.stallRoom_touch ?_ c_State_stallRoom
    | with_reducible refine State.stallRepair_touch ?_ c_State_stallRepair _
    | split
    | with_reducible refine Touch.update ?_

def State.stallPut_cells : List Nat :=
  [0x140b]

theorem State.stallPut_touch {W0 : List Nat} {s0 s : State} (h0 : Touch W0 s0 s) (hW : Sub State.stallPut_cells W0) (addr : Nat) (b : List Byte) (dirty : Bool) :
    Touch W0 s0 (State.stallPut s addr b dirty) := by
  have w140b : 0x140b ∈ W0 := hW.mem rfl
  unfold State.stallPut
  repeat' first
    | with_reducible assumption
    | (extract_lets +onlyGivenNames xx; (try clear_value xx); revert xx; intro _)
    | with_reducible refine Touch.update ?_

def State.stallSet_cells : List Nat :=
  [0xa01, 0xa32, 0x140b, 0x140f, 0x1417]

theorem State.stallSet_touch {W0 : List Nat} {s0 s : State} (h0 : Touch W0 s0 s) (hW : Sub State.stallSet_cells W0) (addr : Nat) (new : List Byte) :
    Touch W0 s0 (State.stallSet s addr new) := by
  have c_State_stallLoad : Sub State.stallLoad_cells W0 := Sub.trans (Sub.of rfl) hW
  have c_State_stallPut : Sub State.stallPut_cells W0 := Sub.trans (Sub.of rfl) hW
  have c_State_stallStore : Sub State.stallStore_cells W0 := Sub.trans (Sub.of rfl) hW
  unfold State.stallSet
  repeat' first
    | with_reducible assumption
    | (extract_lets +onlyGivenNames xx; guard_hyp xx : State := _; refine Touch.cut (x := xx) ?_ ?_; (on_goal 2 => (intro hh; (try clear_value xx); revert xx; intro _ _)); any_goals (revert xx; intro _))
    | (extract_lets +onlyGivenNames xx; (try clear_value xx); revert xx; intro _)
    | with_reducible refine State.stallLoad_touch ?_ c_State_stallLoad _
    | with_reducible refine State.stallPut_touch ?_ c_State_stallPut _ _ _
    | with_reducible refine State.stallStore_touch ?_ c_State_stallStore _ _
    | with_reducible refine Touch.ite ?_ ?_

def State.stallBytes_cells : List Nat :=
  [0xa01, 0xa32, 0x140b, 0x140f, 0x1417]

theorem State.stallBytes_touch {W0 : List Nat} {s0 s : State} (h0 : Touch W0 s0 s) (hW : Sub State.stallBytes_cells W0) (addr : Nat) (i : Nat) (x : List Byte) :
    Touch W0 s0 (State.stallBytes s addr i x) := by
  have c_State_stallLoad : Sub State.stallLoad_cells W0 := Sub.trans (Sub.of rfl) hW
  have c_State_stallSet : Sub State.stallSet_cells W0 := Sub.trans (Sub.of rfl) hW
  unfold State.stallBytes
  repeat' first
    | with_reducible assumption
    | with_reducible refine State.stallLoad_touch ?_ c_State_stallLoad _
    | with_reducible refine State.stallSet_touch ?_ c_State_stallSet _ _

def State.stallCount_cells : List Nat :=
  [0xa01, 0xa32, 0x140b, 0x140f, 0x1417]

theorem State.stallCount_touch {W0 : List Nat} {s0 s : State} (h0 : Touch W0 s0 s) (hW : Sub State.stallCount_cells W0) (addr : Nat) (i : Nat) (n : Nat) :
    Touch W0 s0 (State.stallCount s addr i n) := by
  have c_State_stallBytes : Sub State.stallBytes_cells W0 := Sub.trans (Sub.of rfl) hW
  unfold State.stallCount
  repeat' first
    | with_reducible assumption
    | with_reducible refine State.stallBytes_touch ?_ c_State_stallBytes _ _ _

def State.writeBackAll_cells : List Nat :=
  [0x140b, 0x140f, 0x1417]

theorem State.writeBackAll_touch {W0 : List Nat} {s0 s : State} (h0 : Touch W0 s0 s) (hW : Sub State.writeBackAll_cells W0) :
    Touch W0 s0 (State.writeBackAll s) := by
  have c_State_writeBack : Sub State.writeBack_cells W0 := Sub.trans (Sub.of rfl) hW
  have c_State_stallPut : Sub State.stallPut_cells W0 := Sub.trans (Sub.of rfl) hW
  unfold State.writeBackAll
  repeat' first
    | with_reducible assumption
    | with_reducible refine State.writeBack_touch ?_ c_State_writeBack _
    | with_reducible refine State.stallPut_touch ?_ c_State_stallPut _ _ _
    | with_reducible refine Touch.foldl ?_ ?_
    | with_reducible intro _ _
    | with_reducible intro _

def State.writeBackTimed_cells : List Nat :=
  [0xa00, 0xa01, 0xa32, 0xa33, 0xa34, 0x140b, 0x140f, 0x1417]

theorem State.writeBackTimed_touch {W0 : List Nat} {s0 s : State} (h0 : Touch W0 s0 s) (hW : Sub State.writeBackTimed_cells W0) (v : Verify) :
    Touch W0 s0 (State.writeBackTimed s v) := by
  have c_State_writeBackAll : Sub State.writeBackAll_cells W0 := Sub.trans (Sub.of rfl) hW
  have c_State_verified : Sub State.verified_cells W0 := Sub.trans (Sub.of rfl) hW
  unfold State.writeBackTimed
  repeat' first
    | with_reducible assumption
    | (extract_lets +onlyGivenNames xx; (try clear_value xx); revert xx; intro _)
    | with_reducible refine State.writeBackAll_touch ?_ c_State_writeBackAll
    | with_reducible refine State.verified_touch ?_ c_State_verified _ _ _
    | with_reducible refine Touch.ite ?_ ?_

def State.stallRebuild_cells : List Nat :=
  [0xa01, 0xa32, 0x140b, 0x140f, 0x1417]

theorem State.stallRebuild_touch {W0 : List Nat} {s0 s : State} (h0 : Touch W0 s0 s) (hW : Sub State.stallRebuild_cells W0) :
    Touch W0 s0 (State.stallRebuild s) := by
  have c_State_stallLoad : Sub State.stallLoad_cells W0 := Sub.trans (Sub.of rfl) hW
  have w140b : 0x140b ∈ W0 := hW.mem rfl
  unfold State.stallRebuild
  repeat' first
    | with_reducible assumption
    | (extract_lets +onlyGivenNames xx; guard_hyp xx : State := _; refine Touch.cut (x := xx) ?_ ?_; (on_goal 2 => (intro hh; (try clear_value xx); revert xx; intro _ _)); any_goals (revert xx; intro _))
    | (extract_lets +onlyGivenNames xx; (try clear_value xx); revert xx; intro _)
    | with_reducible refine State.stallLoad_touch ?_ c_State_stallLoad _
    | split
    | with_reducible refine Touch.update ?_

def State.setStallFlag_cells : List Nat :=
  [0xa01, 0xa32, 0x140b, 0x140f, 0x1417]

theorem State.setStallFlag_touch {W0 : List Nat} {s0 s : State} (h0 : Touch W0 s0 s) (hW : Sub State.setStallFlag_cells W0) (addr : Nat) (bit : Nat) (x : Bool) :
    Touch W0 s0 (State.setStallFlag s addr bit x) := by
  have c_State_stallBytes : Sub State.stallBytes_cells W0 := Sub.trans (Sub.of rfl) hW
  unfold State.setStallFlag
  repeat' first
    | with_reducible assumption
    | with_reducible refine State.stallBytes_touch ?_ c_State_stallBytes _ _ _

end Sys2Proof.Machine
end

