-- ==== Sys2Proof/Laws/TouchLinkOps.lean ====
section
/-!
SUPPORT. What each operation of Machine/LinkOps.lean can do: the registers and parts of the state it may write, and nothing
else; the unit, its queue and the form of its stores are kept.
-/

-- proofs are elaborated one after another: many at once ask for more threads than a memory limit allows
set_option Elab.async false

set_option linter.unusedTactic false
set_option linter.unusedVariables false
set_option linter.unusedSimpArgs false
set_option linter.unreachableTactic false
set_option linter.tactic.unusedName false

namespace Sys2Proof.Machine

def State.postAlarm_cells : List Nat :=
  [0x140a]

theorem State.postAlarm_touch {W0 : List Nat} {s0 s : State} (h0 : Touch W0 s0 s) (hW : Sub State.postAlarm_cells W0) (sub : Nat) (data : Byte) :
    Touch W0 s0 (State.postAlarm s sub data) := by
  have w140a : 0x140a ∈ W0 := hW.mem rfl
  unfold State.postAlarm
  repeat' first
    | with_reducible assumption
    | (extract_lets +onlyGivenNames xx; (try clear_value xx); revert xx; intro _)
    | with_reducible refine Touch.ite ?_ ?_
    | with_reducible refine Touch.update ?_

def State.postHush_cells : List Nat :=
  [0x140a]

theorem State.postHush_touch {W0 : List Nat} {s0 s : State} (h0 : Touch W0 s0 s) (hW : Sub State.postHush_cells W0) (sub : Nat) :
    Touch W0 s0 (State.postHush s sub) := by
  have w140a : 0x140a ∈ W0 := hW.mem rfl
  unfold State.postHush
  repeat' first
    | with_reducible assumption
    | (extract_lets +onlyGivenNames xx; (try clear_value xx); revert xx; intro _)
    | with_reducible refine Touch.ite ?_ ?_
    | with_reducible refine Touch.update ?_

def State.postStatus_cells : List Nat :=
  [0x140a]

theorem State.postStatus_touch {W0 : List Nat} {s0 s : State} (h0 : Touch W0 s0 s) (hW : Sub State.postStatus_cells W0) (f : Frame) :
    Touch W0 s0 (State.postStatus s f) := by
  have w140a : 0x140a ∈ W0 := hW.mem rfl
  unfold State.postStatus
  repeat' first
    | with_reducible assumption
    | (extract_lets +onlyGivenNames xx; (try clear_value xx); revert xx; intro _)
    | with_reducible refine Touch.ite ?_ ?_
    | with_reducible refine Touch.update ?_

def State.postTx_cells : List Nat :=
  [0x501, 0x140a]

theorem State.postTx_touch {W0 : List Nat} {s0 s : State} (h0 : Touch W0 s0 s) (hW : Sub State.postTx_cells W0) (cls : Nat) (sub : Nat) (data : List Byte) :
    Touch W0 s0 (State.postTx s cls sub data) := by
  have w501 : Writes W0 R.TET_EVENT := Or.inl (hW.mem rfl)
  have w140a : 0x140a ∈ W0 := hW.mem rfl
  unfold State.postTx
  repeat' first
    | with_reducible assumption
    | (extract_lets +onlyGivenNames xx; (try clear_value xx); revert xx; intro _)
    | with_reducible refine State.event_touch ?_ _ ?_
    | with_reducible refine Touch.ite ?_ ?_
    | split
    | with_reducible refine Touch.update ?_

def State.unpend_cells : List Nat :=
  [0x140a]

theorem State.unpend_touch {W0 : List Nat} {s0 s : State} (h0 : Touch W0 s0 s) (hW : Sub State.unpend_cells W0) (f : Frame) :
    Touch W0 s0 (State.unpend s f) := by
  have w140a : 0x140a ∈ W0 := hW.mem rfl
  unfold State.unpend
  repeat' first
    | with_reducible assumption
    | (extract_lets +onlyGivenNames xx; (try clear_value xx); revert xx; intro _)
    | with_reducible refine Touch.ite ?_ ?_
    | with_reducible refine Touch.update ?_

def State.retryFrame_cells : List Nat :=
  [0x140a]

theorem State.retryFrame_touch {W0 : List Nat} {s0 s : State} (h0 : Touch W0 s0 s) (hW : Sub State.retryFrame_cells W0) (f : Frame) :
    Touch W0 s0 (State.retryFrame s f) := by
  have w140a : 0x140a ∈ W0 := hW.mem rfl
  unfold State.retryFrame
  repeat' first
    | with_reducible assumption
    | (extract_lets +onlyGivenNames xx; (try clear_value xx); revert xx; intro _)
    | with_reducible refine Touch.ite ?_ ?_
    | with_reducible refine Touch.update ?_

def State.countStart_cells : List Nat :=
  [0x140a]

theorem State.countStart_touch {W0 : List Nat} {s0 s : State} (h0 : Touch W0 s0 s) (hW : Sub State.countStart_cells W0) (f : Frame) :
    Touch W0 s0 (State.countStart s f) := by
  have w140a : 0x140a ∈ W0 := hW.mem rfl
  unfold State.countStart
  repeat' first
    | with_reducible assumption
    | (extract_lets +onlyGivenNames xx; (try clear_value xx); revert xx; intro _)
    | with_reducible refine Touch.ite ?_ ?_
    | with_reducible refine Touch.update ?_

def State.postHeartbeat_cells : List Nat :=
  [0x140a]

theorem State.postHeartbeat_touch {W0 : List Nat} {s0 s : State} (h0 : Touch W0 s0 s) (hW : Sub State.postHeartbeat_cells W0) :
    Touch W0 s0 (State.postHeartbeat s) := by
  have c_State_postStatus : Sub State.postStatus_cells W0 := Sub.trans (Sub.of rfl) hW
  unfold State.postHeartbeat
  repeat' first
    | with_reducible assumption
    | with_reducible refine State.postStatus_touch ?_ c_State_postStatus _
    | split

def State.postFault_cells : List Nat :=
  [0x140a]

theorem State.postFault_touch {W0 : List Nat} {s0 s : State} (h0 : Touch W0 s0 s) (hW : Sub State.postFault_cells W0) (code : Nat) (detail : Nat) :
    Touch W0 s0 (State.postFault s code detail) := by
  have c_State_postStatus : Sub State.postStatus_cells W0 := Sub.trans (Sub.of rfl) hW
  unfold State.postFault
  repeat' first
    | with_reducible assumption
    | with_reducible refine State.postStatus_touch ?_ c_State_postStatus _
    | split

def State.silenceOver_cells : List Nat :=
  [0x500, 0x140a]

theorem State.silenceOver_touch {W0 : List Nat} {s0 s : State} (h0 : Touch W0 s0 s) (hW : Sub State.silenceOver_cells W0) :
    Touch W0 s0 (State.silenceOver s) := by
  have c_State_postFault : Sub State.postFault_cells W0 := Sub.trans (Sub.of rfl) hW
  have w500 : Writes W0 R.TET_STATUS := Or.inl (hW.mem rfl)
  have w140a : 0x140a ∈ W0 := hW.mem rfl
  unfold State.silenceOver
  repeat' first
    | with_reducible assumption
    | (extract_lets +onlyGivenNames xx; guard_hyp xx : State := _; refine Touch.cut (x := xx) ?_ ?_; (on_goal 2 => (intro hh; (try clear_value xx); revert xx; intro _ _)); any_goals (revert xx; intro _))
    | (extract_lets +onlyGivenNames xx; (try clear_value xx); revert xx; intro _)
    | with_reducible refine State.postFault_touch ?_ c_State_postFault _ _
    | with_reducible refine State.setFlag_touch ?_ _ _ ?_
    | with_reducible refine Touch.update ?_

def State.postClaim_cells : List Nat :=
  [0x140a]

theorem State.postClaim_touch {W0 : List Nat} {s0 s : State} (h0 : Touch W0 s0 s) (hW : Sub State.postClaim_cells W0) (a : Nat) :
    Touch W0 s0 (State.postClaim s a) := by
  have c_State_postStatus : Sub State.postStatus_cells W0 := Sub.trans (Sub.of rfl) hW
  have w140a : 0x140a ∈ W0 := hW.mem rfl
  unfold State.postClaim
  repeat' first
    | with_reducible assumption
    | (extract_lets +onlyGivenNames xx; (try clear_value xx); revert xx; intro _)
    | with_reducible refine State.postStatus_touch ?_ c_State_postStatus _
    | with_reducible refine Touch.update ?_

def State.setRec_cells : List Nat :=
  [0x500, 0x509]

theorem State.setRec_touch {W0 : List Nat} {s0 s : State} (h0 : Touch W0 s0 s) (hW : Sub State.setRec_cells W0) (x : Nat) :
    Touch W0 s0 (State.setRec s x) := by
  have w500 : Writes W0 R.TET_STATUS := Or.inl (hW.mem rfl)
  have w509 : Writes W0 R.TET_REC := Or.inl (hW.mem rfl)
  unfold State.setRec
  repeat' first
    | with_reducible assumption
    | (extract_lets +onlyGivenNames xx; guard_hyp xx : State := _; refine Touch.cut (x := xx) ?_ ?_; (on_goal 2 => (intro hh; (try clear_value xx); revert xx; intro _ _)); any_goals (revert xx; intro _))
    | with_reducible refine State.setFlag_touch ?_ _ _ ?_
    | with_reducible refine State.setReg_touch ?_ _ _ ?_
    | with_reducible refine Touch.ite ?_ ?_

def State.setTec_cells : List Nat :=
  [0x500, 0x501, 0x508, 0xa01, 0xa32, 0x140f]

theorem State.setTec_touch {W0 : List Nat} {s0 s : State} (h0 : Touch W0 s0 s) (hW : Sub State.setTec_cells W0) (x : Nat) :
    Touch W0 s0 (State.setTec s x) := by
  have c_State_post : Sub State.post_cells W0 := Sub.trans (Sub.of rfl) hW
  have w500 : Writes W0 R.TET_STATUS := Or.inl (hW.mem rfl)
  have w501 : Writes W0 R.TET_EVENT := Or.inl (hW.mem rfl)
  have w508 : Writes W0 R.TET_TEC := Or.inl (hW.mem rfl)
  unfold State.setTec
  repeat' first
    | with_reducible assumption
    | (extract_lets +onlyGivenNames xx; guard_hyp xx : State := _; refine Touch.cut (x := xx) ?_ ?_; (on_goal 2 => (intro hh; (try clear_value xx); revert xx; intro _ _)); any_goals (revert xx; intro _))
    | with_reducible refine State.post_touch ?_ c_State_post _ _
    | with_reducible refine State.event_touch ?_ _ ?_
    | with_reducible refine State.setFlag_touch ?_ _ _ ?_
    | with_reducible refine State.setReg_touch ?_ _ _ ?_
    | with_reducible refine Touch.ite ?_ ?_

def State.linkError_cells : List Nat :=
  [0x501, 0xa01, 0xa32, 0x140f]

theorem State.linkError_touch {W0 : List Nat} {s0 s : State} (h0 : Touch W0 s0 s) (hW : Sub State.linkError_cells W0) (cnt : Nat) (w_cnt : Writes W0 cnt) :
    Touch W0 s0 (State.linkError s cnt) := by
  have c_State_tally : Sub State.tally_cells W0 := Sub.trans (Sub.of rfl) hW
  have w501 : Writes W0 R.TET_EVENT := Or.inl (hW.mem rfl)
  unfold State.linkError
  repeat' first
    | with_reducible assumption
    | with_reducible refine State.tally_touch ?_ c_State_tally _
    | with_reducible refine State.bump_touch ?_ _ _ ?_
    | with_reducible refine State.event_touch ?_ _ ?_

def State.acceptCarrier_cells : List Nat :=
  [0x505, 0x506, 0x507, 0x140a]

theorem State.acceptCarrier_touch {W0 : List Nat} {s0 s : State} (h0 : Touch W0 s0 s) (hW : Sub State.acceptCarrier_cells W0) (c : Carrier) :
    Touch W0 s0 (State.acceptCarrier s c) := by
  have w505 : Writes W0 R.TET_RXTHR := Or.inl (hW.mem rfl)
  have w506 : Writes W0 R.TET_SIGAMP := Or.inl (hW.mem rfl)
  have w507 : Writes W0 R.TET_NOISE := Or.inl (hW.mem rfl)
  have w140a : 0x140a ∈ W0 := hW.mem rfl
  unfold State.acceptCarrier
  repeat' first
    | with_reducible assumption
    | (extract_lets +onlyGivenNames xx; guard_hyp xx : State := _; refine Touch.cut (x := xx) ?_ ?_; (on_goal 2 => (intro hh; (try clear_value xx); revert xx; intro _ _)); any_goals (revert xx; intro _))
    | (extract_lets +onlyGivenNames xx; (try clear_value xx); revert xx; intro _)
    | with_reducible refine State.setReg_touch ?_ _ _ ?_
    | with_reducible refine Touch.update ?_

def State.resetThreshold_cells : List Nat :=
  [0x505, 0x140a]

theorem State.resetThreshold_touch {W0 : List Nat} {s0 s : State} (h0 : Touch W0 s0 s) (hW : Sub State.resetThreshold_cells W0) :
    Touch W0 s0 (State.resetThreshold s) := by
  have w505 : Writes W0 R.TET_RXTHR := Or.inl (hW.mem rfl)
  have w140a : 0x140a ∈ W0 := hW.mem rfl
  unfold State.resetThreshold
  repeat' first
    | with_reducible assumption
    | (extract_lets +onlyGivenNames xx; (try clear_value xx); revert xx; intro _)
    | with_reducible refine State.setReg_touch ?_ _ _ ?_
    | with_reducible refine Touch.update ?_

def State.retarget_cells : List Nat :=
  [0x140a]

theorem State.retarget_touch {W0 : List Nat} {s0 s : State} (h0 : Touch W0 s0 s) (hW : Sub State.retarget_cells W0) :
    Touch W0 s0 (State.retarget s) := by
  have w140a : 0x140a ∈ W0 := hW.mem rfl
  unfold State.retarget
  repeat' first
    | with_reducible assumption
    | (extract_lets +onlyGivenNames xx; (try clear_value xx); revert xx; intro _)
    | split
    | with_reducible refine Touch.update ?_

def State.setHeld_cells : List Nat :=
  [0x500, 0x504]

theorem State.setHeld_touch {W0 : List Nat} {s0 s : State} (h0 : Touch W0 s0 s) (hW : Sub State.setHeld_cells W0) (x : Bool) :
    Touch W0 s0 (State.setHeld s x) := by
  have w500 : Writes W0 R.TET_STATUS := Or.inl (hW.mem rfl)
  have w504 : Writes W0 R.TET_ADDR := Or.inl (hW.mem rfl)
  unfold State.setHeld
  repeat' first
    | with_reducible assumption
    | with_reducible refine State.setFlag_touch ?_ _ _ ?_

def State.chooseCand_cells : List Nat :=
  [0x504, 0xa01, 0xa32, 0x140a, 0x140f]

theorem State.chooseCand_touch {W0 : List Nat} {s0 s : State} (h0 : Touch W0 s0 s) (hW : Sub State.chooseCand_cells W0) (how : Nat) :
    Touch W0 s0 (State.chooseCand s how) := by
  have c_State_retarget : Sub State.retarget_cells W0 := Sub.trans (Sub.of rfl) hW
  have c_State_postClaim : Sub State.postClaim_cells W0 := Sub.trans (Sub.of rfl) hW
  have c_State_post : Sub State.post_cells W0 := Sub.trans (Sub.of rfl) hW
  have w504 : Writes W0 R.TET_ADDR := Or.inl (hW.mem rfl)
  have w140a : 0x140a ∈ W0 := hW.mem rfl
  unfold State.chooseCand
  repeat' first
    | with_reducible assumption
    | (extract_lets +onlyGivenNames xx; (try clear_value xx); revert xx; intro _)
    | with_reducible refine State.retarget_touch ?_ c_State_retarget
    | with_reducible refine State.postClaim_touch ?_ c_State_postClaim _
    | with_reducible refine State.post_touch ?_ c_State_post _ _
    | with_reducible refine State.setField_touch ?_ _ _ ?_
    | split
    | with_reducible refine Touch.update ?_

def State.yieldAddr_cells : List Nat :=
  [0x500, 0x504, 0xa01, 0xa32, 0x140a, 0x140f]

theorem State.yieldAddr_touch {W0 : List Nat} {s0 s : State} (h0 : Touch W0 s0 s) (hW : Sub State.yieldAddr_cells W0) (a : Nat) :
    Touch W0 s0 (State.yieldAddr s a) := by
  have c_State_setHeld : Sub State.setHeld_cells W0 := Sub.trans (Sub.of rfl) hW
  have c_State_chooseCand : Sub State.chooseCand_cells W0 := Sub.trans (Sub.of rfl) hW
  have w140a : 0x140a ∈ W0 := hW.mem rfl
  unfold State.yieldAddr
  repeat' first
    | with_reducible assumption
    | (extract_lets +onlyGivenNames xx; guard_hyp xx : State := _; refine Touch.cut (x := xx) ?_ ?_; (on_goal 2 => (intro hh; (try clear_value xx); revert xx; intro _ _)); any_goals (revert xx; intro _))
    | (extract_lets +onlyGivenNames xx; (try clear_value xx); revert xx; intro _)
    | with_reducible refine State.setHeld_touch ?_ c_State_setHeld _
    | with_reducible refine State.chooseCand_touch ?_ c_State_chooseCand _
    | with_reducible refine Touch.ite ?_ ?_
    | with_reducible refine Touch.update ?_

def State.startListening_cells : List Nat :=
  [0x500, 0x140a]

theorem State.startListening_touch {W0 : List Nat} {s0 s : State} (h0 : Touch W0 s0 s) (hW : Sub State.startListening_cells W0) :
    Touch W0 s0 (State.startListening s) := by
  have w500 : Writes W0 R.TET_STATUS := Or.inl (hW.mem rfl)
  have w140a : 0x140a ∈ W0 := hW.mem rfl
  unfold State.startListening
  repeat' first
    | with_reducible assumption
    | (extract_lets +onlyGivenNames xx; (try clear_value xx); revert xx; intro _)
    | with_reducible refine State.setFlag_touch ?_ _ _ ?_
    | with_reducible refine Touch.update ?_

def State.holdAddr_cells : List Nat :=
  [0x500, 0x504, 0xa01, 0xa32, 0x140a, 0x140b, 0x140f, 0x1417]

theorem State.holdAddr_touch {W0 : List Nat} {s0 s : State} (h0 : Touch W0 s0 s) (hW : Sub State.holdAddr_cells W0) (a : Nat) :
    Touch W0 s0 (State.holdAddr s a) := by
  have c_State_setHeld : Sub State.setHeld_cells W0 := Sub.trans (Sub.of rfl) hW
  have c_State_setStallFlag : Sub State.setStallFlag_cells W0 := Sub.trans (Sub.of rfl) hW
  have c_State_stallBytes : Sub State.stallBytes_cells W0 := Sub.trans (Sub.of rfl) hW
  have c_State_retarget : Sub State.retarget_cells W0 := Sub.trans (Sub.of rfl) hW
  have w504 : Writes W0 R.TET_ADDR := Or.inl (hW.mem rfl)
  have w140a : 0x140a ∈ W0 := hW.mem rfl
  unfold State.holdAddr
  repeat' first
    | with_reducible assumption
    | (extract_lets +onlyGivenNames xx; guard_hyp xx : State := _; refine Touch.cut (x := xx) ?_ ?_; (on_goal 2 => (intro hh; (try clear_value xx); revert xx; intro _ _)); any_goals (revert xx; intro _))
    | (extract_lets +onlyGivenNames xx; (try clear_value xx); revert xx; intro _)
    | with_reducible refine State.setHeld_touch ?_ c_State_setHeld _
    | with_reducible refine State.setStallFlag_touch ?_ c_State_setStallFlag _ _ _
    | with_reducible refine State.stallBytes_touch ?_ c_State_stallBytes _ _ _
    | with_reducible refine State.retarget_touch ?_ c_State_retarget
    | with_reducible refine State.setField_touch ?_ _ _ ?_
    | with_reducible refine Touch.ite ?_ ?_
    | split
    | with_reducible refine Touch.update ?_

def State.fixedConflict_cells : List Nat :=
  [0x500, 0x501, 0xa01, 0xa32, 0x140a, 0x140f]

theorem State.fixedConflict_touch {W0 : List Nat} {s0 s : State} (h0 : Touch W0 s0 s) (hW : Sub State.fixedConflict_cells W0) (f : Frame) :
    Touch W0 s0 (State.fixedConflict s f) := by
  have c_State_post : Sub State.post_cells W0 := Sub.trans (Sub.of rfl) hW
  have c_State_postFault : Sub State.postFault_cells W0 := Sub.trans (Sub.of rfl) hW
  have w500 : Writes W0 R.TET_STATUS := Or.inl (hW.mem rfl)
  have w501 : Writes W0 R.TET_EVENT := Or.inl (hW.mem rfl)
  unfold State.fixedConflict
  repeat' first
    | with_reducible assumption
    | (extract_lets +onlyGivenNames xx; guard_hyp xx : State := _; refine Touch.cut (x := xx) ?_ ?_; (on_goal 2 => (intro hh; (try clear_value xx); revert xx; intro _ _)); any_goals (revert xx; intro _))
    | with_reducible refine State.post_touch ?_ c_State_post _ _
    | with_reducible refine State.postFault_touch ?_ c_State_postFault _ _
    | with_reducible refine State.event_touch ?_ _ ?_
    | with_reducible refine State.setFlag_touch ?_ _ _ ?_
    | with_reducible refine Touch.ite ?_ ?_

def State.addrConflict_cells : List Nat :=
  [0x500, 0x501, 0x504, 0xa01, 0xa32, 0x140a, 0x140f]

theorem State.addrConflict_touch {W0 : List Nat} {s0 s : State} (h0 : Touch W0 s0 s) (hW : Sub State.addrConflict_cells W0) (f : Frame) :
    Touch W0 s0 (State.addrConflict s f) := by
  have c_State_yieldAddr : Sub State.yieldAddr_cells W0 := Sub.trans (Sub.of rfl) hW
  have c_State_fixedConflict : Sub State.fixedConflict_cells W0 := Sub.trans (Sub.of rfl) hW
  unfold State.addrConflict
  repeat' first
    | with_reducible assumption
    | with_reducible refine State.yieldAddr_touch ?_ c_State_yieldAddr _
    | with_reducible refine State.fixedConflict_touch ?_ c_State_fixedConflict _
    | with_reducible refine Touch.ite ?_ ?_

def State.noteHeard_cells : List Nat :=
  [0x140a]

theorem State.noteHeard_touch {W0 : List Nat} {s0 s : State} (h0 : Touch W0 s0 s) (hW : Sub State.noteHeard_cells W0) (f : Frame) :
    Touch W0 s0 (State.noteHeard s f) := by
  have w140a : 0x140a ∈ W0 := hW.mem rfl
  unfold State.noteHeard
  repeat' first
    | with_reducible assumption
    | (extract_lets +onlyGivenNames xx; (try clear_value xx); revert xx; intro _)
    | with_reducible refine Touch.ite ?_ ?_
    | with_reducible refine Touch.update ?_

def State.acceptFrame_cells : List Nat :=
  [0x500, 0x501, 0x505, 0x506, 0x507, 0x509, 0x518, 0xa01, 0xa32, 0x140a, 0x140b, 0x140f, 0x1417]

theorem State.acceptFrame_touch {W0 : List Nat} {s0 s : State} (h0 : Touch W0 s0 s) (hW : Sub State.acceptFrame_cells W0) (f : Frame) (c : Carrier) :
    Touch W0 s0 (State.acceptFrame s f c) := by
  have c_State_setRec : Sub State.setRec_cells W0 := Sub.trans (Sub.of rfl) hW
  have c_State_acceptCarrier : Sub State.acceptCarrier_cells W0 := Sub.trans (Sub.of rfl) hW
  have c_State_stallCount : Sub State.stallCount_cells W0 := Sub.trans (Sub.of rfl) hW
  have c_State_setStallFlag : Sub State.setStallFlag_cells W0 := Sub.trans (Sub.of rfl) hW
  have c_State_noteHeard : Sub State.noteHeard_cells W0 := Sub.trans (Sub.of rfl) hW
  have w501 : Writes W0 R.TET_EVENT := Or.inl (hW.mem rfl)
  have w518 : Writes W0 R.TET_RXCNT := Or.inl (hW.mem rfl)
  unfold State.acceptFrame
  repeat' first
    | with_reducible assumption
    | (extract_lets +onlyGivenNames xx; guard_hyp xx : State := _; refine Touch.cut (x := xx) ?_ ?_; (on_goal 2 => (intro hh; (try clear_value xx); revert xx; intro _ _)); any_goals (revert xx; intro _))
    | with_reducible refine State.setRec_touch ?_ c_State_setRec _
    | with_reducible refine State.acceptCarrier_touch ?_ c_State_acceptCarrier _
    | with_reducible refine State.stallCount_touch ?_ c_State_stallCount _ _ _
    | with_reducible refine State.setStallFlag_touch ?_ c_State_setStallFlag _ _ _
    | with_reducible refine State.noteHeard_touch ?_ c_State_noteHeard _
    | with_reducible refine State.bump_touch ?_ _ _ ?_
    | with_reducible refine State.event_touch ?_ _ ?_

def State.discardFrame_cells : List Nat :=
  [0x512]

theorem State.discardFrame_touch {W0 : List Nat} {s0 s : State} (h0 : Touch W0 s0 s) (hW : Sub State.discardFrame_cells W0) :
    Touch W0 s0 (State.discardFrame s) := by
  have w512 : Writes W0 R.TET_ERRCNT2 := Or.inl (hW.mem rfl)
  unfold State.discardFrame
  repeat' first
    | with_reducible assumption
    | with_reducible refine State.bump_touch ?_ _ _ ?_

def State.setPeerTrack_cells : List Nat :=
  [0x140a]

theorem State.setPeerTrack_touch {W0 : List Nat} {s0 s : State} (h0 : Touch W0 s0 s) (hW : Sub State.setPeerTrack_cells W0) (p : PeerTrack) :
    Touch W0 s0 (State.setPeerTrack s p) := by
  have w140a : 0x140a ∈ W0 := hW.mem rfl
  unfold State.setPeerTrack
  repeat' first
    | with_reducible assumption
    | (extract_lets +onlyGivenNames xx; (try clear_value xx); revert xx; intro _)
    | with_reducible refine Touch.update ?_

end Sys2Proof.Machine
end

