-- ==== Sys2Proof/Laws/TouchClkOps.lean ====
section
/-!
SUPPORT. What each operation of Machine/ClkOps.lean can do: the registers and parts of the state it may write, and nothing
else; the unit, its queue and the form of its stores are kept.
-/

-- proofs are elaborated one after another: many at once ask for more threads than a memory limit allows
set_option Elab.async false

set_option linter.unusedTactic false
set_option linter.unusedVariables false
set_option linter.unusedSimpArgs false
set_option linter.unreachableTactic false
set_option linter.tactic.unusedName false

namespace Sys2Proof.Machine

def State.stepTime_cells : List Nat :=
  [0xa01, 0xa32, 0xe00, 0xe01, 0x140f, 0x1410]

theorem State.stepTime_touch {W0 : List Nat} {s0 s : State} (h0 : Touch W0 s0 s) (hW : Sub State.stepTime_cells W0) (t : Nat) :
    Touch W0 s0 (State.stepTime s t) := by
  have c_State_post : Sub State.post_cells W0 := Sub.trans (Sub.of rfl) hW
  have we00 : Writes W0 R.CLK_STATUS := Or.inl (hW.mem rfl)
  have we01 : Writes W0 R.CLK_EVENT := Or.inl (hW.mem rfl)
  have w1410 : 0x1410 ∈ W0 := hW.mem rfl
  unfold State.stepTime
  repeat' first
    | with_reducible assumption
    | (extract_lets +onlyGivenNames xx; guard_hyp xx : State := _; refine Touch.cut (x := xx) ?_ ?_; (on_goal 2 => (intro hh; (try clear_value xx); revert xx; intro _ _)); any_goals (revert xx; intro _))
    | (extract_lets +onlyGivenNames xx; (try clear_value xx); revert xx; intro _)
    | with_reducible refine State.post_touch ?_ c_State_post _ _
    | with_reducible refine State.event_touch ?_ _ ?_
    | with_reducible refine State.setFlag_touch ?_ _ _ ?_
    | with_reducible refine Touch.ite ?_ ?_
    | with_reducible refine Touch.update ?_

def State.setTime_cells : List Nat :=
  [0xa01, 0xa32, 0xe00, 0xe01, 0x140f, 0x1410]

theorem State.setTime_touch {W0 : List Nat} {s0 s : State} (h0 : Touch W0 s0 s) (hW : Sub State.setTime_cells W0) (t : Nat) :
    Touch W0 s0 (State.setTime s t) := by
  have c_State_stepTime : Sub State.stepTime_cells W0 := Sub.trans (Sub.of rfl) hW
  have we00 : Writes W0 R.CLK_STATUS := Or.inl (hW.mem rfl)
  have w1410 : 0x1410 ∈ W0 := hW.mem rfl
  unfold State.setTime
  repeat' first
    | with_reducible assumption
    | (extract_lets +onlyGivenNames xx; (try clear_value xx); revert xx; intro _)
    | with_reducible refine State.stepTime_touch ?_ c_State_stepTime _
    | with_reducible refine State.setFlag_touch ?_ _ _ ?_
    | with_reducible refine Touch.ite ?_ ?_
    | with_reducible refine Touch.update ?_

def State.setTsrc_cells : List Nat :=
  [0xa01, 0xa32, 0xe00, 0x140f]

theorem State.setTsrc_touch {W0 : List Nat} {s0 s : State} (h0 : Touch W0 s0 s) (hW : Sub State.setTsrc_cells W0) (src : Nat) (sender : Nat) (offset : Int) :
    Touch W0 s0 (State.setTsrc s src sender offset) := by
  have c_State_post : Sub State.post_cells W0 := Sub.trans (Sub.of rfl) hW
  have we00 : Writes W0 R.CLK_STATUS := Or.inl (hW.mem rfl)
  unfold State.setTsrc
  repeat' first
    | with_reducible assumption
    | with_reducible refine State.post_touch ?_ c_State_post _ _
    | with_reducible refine State.setField_touch ?_ _ _ ?_
    | with_reducible refine Touch.ite ?_ ?_

def State.minuteBoundary_cells : List Nat :=
  [0x140c, 0x1410]

theorem State.minuteBoundary_touch {W0 : List Nat} {s0 s : State} (h0 : Touch W0 s0 s) (hW : Sub State.minuteBoundary_cells W0) :
    Touch W0 s0 (State.minuteBoundary s) := by
  have w140c : 0x140c ∈ W0 := hW.mem rfl
  have w1410 : 0x1410 ∈ W0 := hW.mem rfl
  unfold State.minuteBoundary
  repeat' first
    | with_reducible assumption
    | (extract_lets +onlyGivenNames xx; (try clear_value xx); revert xx; intro _)
    | with_reducible refine Touch.update ?_

def State.tick_cells : List Nat :=
  [0xe00, 0x1401, 0x140c, 0x1410]

theorem State.tick_touch {W0 : List Nat} {s0 s : State} (h0 : Touch W0 s0 s) (hW : Sub State.tick_cells W0) :
    Touch W0 s0 (State.tick s) := by
  have c_State_minuteBoundary : Sub State.minuteBoundary_cells W0 := Sub.trans (Sub.of rfl) hW
  have we00 : Writes W0 R.CLK_STATUS := Or.inl (hW.mem rfl)
  have w1401 : 0x1401 ∈ W0 := hW.mem rfl
  have w1410 : 0x1410 ∈ W0 := hW.mem rfl
  unfold State.tick
  repeat' first
    | with_reducible assumption
    | (extract_lets +onlyGivenNames xx; guard_hyp xx : State := _; refine Touch.cut (x := xx) ?_ ?_; (on_goal 2 => (intro hh; (try clear_value xx); revert xx; intro _ _)); any_goals (revert xx; intro _))
    | (extract_lets +onlyGivenNames xx; (try clear_value xx); revert xx; intro _)
    | with_reducible refine State.minuteBoundary_touch ?_ c_State_minuteBoundary
    | with_reducible refine State.setFlag_touch ?_ _ _ ?_
    | with_reducible refine Touch.ite ?_ ?_
    | with_reducible refine Touch.update ?_

end Sys2Proof.Machine
end

