-- ==== Sys2Proof/Laws/TouchWbOps.lean ====
section
/-!
SUPPORT. What each operation of Machine/WbOps.lean can do: the registers and parts of the state it may write, and nothing
else; the unit, its queue and the form of its stores are kept.
-/

-- proofs are elaborated one after another: many at once ask for more threads than a memory limit allows
set_option Elab.async false

set_option linter.unusedTactic false
set_option linter.unusedVariables false
set_option linter.unusedSimpArgs false
set_option linter.unreachableTactic false
set_option linter.tactic.unusedName false

namespace Sys2Proof.Machine

def State.wbMeter_cells : List Nat :=
  [0x1411]

theorem State.wbMeter_touch {W0 : List Nat} {s0 s : State} (h0 : Touch W0 s0 s) (hW : Sub State.wbMeter_cells W0) (m : WbMeter) :
    Touch W0 s0 (State.wbMeter s m) := by
  have w1411 : 0x1411 ∈ W0 := hW.mem rfl
  unfold State.wbMeter
  repeat' first
    | with_reducible assumption
    | (extract_lets +onlyGivenNames xx; (try clear_value xx); revert xx; intro _)
    | with_reducible refine Touch.update ?_

def State.wbCheckpoint_cells : List Nat :=
  [0x1411]

theorem State.wbCheckpoint_touch {W0 : List Nat} {s0 s : State} (h0 : Touch W0 s0 s) (hW : Sub State.wbCheckpoint_cells W0) (kind : Nat) (seq : Nat) :
    Touch W0 s0 (State.wbCheckpoint s kind seq) := by
  have w1411 : 0x1411 ∈ W0 := hW.mem rfl
  unfold State.wbCheckpoint
  repeat' first
    | with_reducible assumption
    | (extract_lets +onlyGivenNames xx; (try clear_value xx); revert xx; intro _)
    | with_reducible refine Touch.update ?_

def State.wbEmit_cells : List Nat :=
  [0x801, 0x1411]

theorem State.wbEmit_touch {W0 : List Nat} {s0 s : State} (h0 : Touch W0 s0 s) (hW : Sub State.wbEmit_cells W0) (typ : Nat) (extra : Nat) (body : List Byte) :
    Touch W0 s0 (State.wbEmit s typ extra body) := by
  have c_State_wbCheckpoint : Sub State.wbCheckpoint_cells W0 := Sub.trans (Sub.of rfl) hW
  have w801 : Writes W0 R.WB_EVENT := Or.inl (hW.mem rfl)
  have w1411 : 0x1411 ∈ W0 := hW.mem rfl
  unfold State.wbEmit
  repeat' first
    | with_reducible assumption
    | (extract_lets +onlyGivenNames xx; guard_hyp xx : State := _; refine Touch.cut (x := xx) ?_ ?_; (on_goal 2 => (intro hh; (try clear_value xx); revert xx; intro _ _)); any_goals (revert xx; intro _))
    | (extract_lets +onlyGivenNames xx; (try clear_value xx); revert xx; intro _)
    | with_reducible refine State.wbCheckpoint_touch ?_ c_State_wbCheckpoint _ _
    | with_reducible refine State.event_touch ?_ _ ?_
    | with_reducible refine Touch.update ?_

def State.wbLast_cells : List Nat :=
  [0x801, 0x1402, 0x1411]

theorem State.wbLast_touch {W0 : List Nat} {s0 s : State} (h0 : Touch W0 s0 s) (hW : Sub State.wbLast_cells W0) :
    Touch W0 s0 (State.wbLast s) := by
  have c_State_fresh : Sub State.fresh_cells W0 := Sub.trans (Sub.of rfl) hW
  have c_State_wbEmit : Sub State.wbEmit_cells W0 := Sub.trans (Sub.of rfl) hW
  have w801 : Writes W0 R.WB_EVENT := Or.inl (hW.mem rfl)
  have w1411 : 0x1411 ∈ W0 := hW.mem rfl
  unfold State.wbLast
  repeat' first
    | with_reducible assumption
    | (extract_lets +onlyGivenNames xx; (try clear_value xx); revert xx; intro _)
    | with_reducible refine State.fresh_touch ?_ c_State_fresh
    | with_reducible refine State.wbEmit_touch ?_ c_State_wbEmit _ _ _
    | with_reducible refine State.event_touch ?_ _ ?_
    | with_reducible refine Touch.update ?_

def State.wbRelease_cells : List Nat :=
  [0x801, 0x1402, 0x1411]

theorem State.wbRelease_touch {W0 : List Nat} {s0 s : State} (h0 : Touch W0 s0 s) (hW : Sub State.wbRelease_cells W0) (typ : Nat) (extra : Nat) (body : List Byte) :
    Touch W0 s0 (State.wbRelease s typ extra body) := by
  have c_State_wbLast : Sub State.wbLast_cells W0 := Sub.trans (Sub.of rfl) hW
  have c_State_wbEmit : Sub State.wbEmit_cells W0 := Sub.trans (Sub.of rfl) hW
  have w1411 : 0x1411 ∈ W0 := hW.mem rfl
  unfold State.wbRelease
  repeat' first
    | with_reducible assumption
    | (extract_lets +onlyGivenNames xx; (try clear_value xx); revert xx; intro _)
    | with_reducible refine State.wbLast_touch ?_ c_State_wbLast
    | with_reducible refine State.wbEmit_touch ?_ c_State_wbEmit _ _ _
    | with_reducible refine Touch.ite ?_ ?_
    | with_reducible refine Touch.update ?_

def State.wbFault_cells : List Nat :=
  [0x801, 0x1402, 0x1411]

theorem State.wbFault_touch {W0 : List Nat} {s0 s : State} (h0 : Touch W0 s0 s) (hW : Sub State.wbFault_cells W0) (code : Nat) :
    Touch W0 s0 (State.wbFault s code) := by
  have c_State_fresh : Sub State.fresh_cells W0 := Sub.trans (Sub.of rfl) hW
  have c_State_wbRelease : Sub State.wbRelease_cells W0 := Sub.trans (Sub.of rfl) hW
  have w801 : Writes W0 R.WB_EVENT := Or.inl (hW.mem rfl)
  have w1411 : 0x1411 ∈ W0 := hW.mem rfl
  unfold State.wbFault
  repeat' first
    | with_reducible assumption
    | (extract_lets +onlyGivenNames xx; (try clear_value xx); revert xx; intro _)
    | with_reducible refine State.fresh_touch ?_ c_State_fresh
    | with_reducible refine State.wbRelease_touch ?_ c_State_wbRelease _ _ _
    | with_reducible refine State.event_touch ?_ _ ?_
    | with_reducible refine Touch.ite ?_ ?_
    | with_reducible refine Touch.update ?_

def State.wbNotice_cells : List Nat :=
  [0x801, 0x1402, 0x1411]

theorem State.wbNotice_touch {W0 : List Nat} {s0 s : State} (h0 : Touch W0 s0 s) (hW : Sub State.wbNotice_cells W0) (reason : Nat) (code : Nat) :
    Touch W0 s0 (State.wbNotice s reason code) := by
  have c_State_wbRelease : Sub State.wbRelease_cells W0 := Sub.trans (Sub.of rfl) hW
  have w801 : Writes W0 R.WB_EVENT := Or.inl (hW.mem rfl)
  unfold State.wbNotice
  repeat' first
    | with_reducible assumption
    | with_reducible refine State.wbRelease_touch ?_ c_State_wbRelease _ _ _
    | with_reducible refine State.event_touch ?_ _ ?_

def State.sweepOn_cells : List Nat :=
  [0x200, 0x300, 0x301, 0x31f, 0x400, 0x401, 0x40f, 0xa01, 0xa32, 0x1408, 0x1409, 0x140f]

theorem State.sweepOn_touch {W0 : List Nat} {s0 s : State} (h0 : Touch W0 s0 s) (hW : Sub State.sweepOn_cells W0) :
    Touch W0 s0 (State.sweepOn s) := by
  have c_State_chgSuspend : Sub State.chgSuspend_cells W0 := Sub.trans (Sub.of rfl) hW
  have c_State_excClip : Sub State.excClip_cells W0 := Sub.trans (Sub.of rfl) hW
  have w300 : Writes W0 R.CHG_STATUS := Or.inl (hW.mem rfl)
  have w400 : Writes W0 R.CONV_STATUS := Or.inl (hW.mem rfl)
  unfold State.sweepOn
  repeat' first
    | with_reducible assumption
    | (extract_lets +onlyGivenNames xx; guard_hyp xx : State := _; refine Touch.cut (x := xx) ?_ ?_; (on_goal 2 => (intro hh; (try clear_value xx); revert xx; intro _ _)); any_goals (revert xx; intro _))
    | with_reducible refine State.chgSuspend_touch ?_ c_State_chgSuspend _ ?_
    | with_reducible refine State.excClip_touch ?_ c_State_excClip
    | with_reducible refine State.setFlag_touch ?_ _ _ ?_
    | with_reducible refine Touch.ite ?_ ?_

def State.sweepOff_cells : List Nat :=
  [0x300, 0x400, 0x401, 0x40f, 0xa01, 0xa32, 0x1408, 0x140f]

theorem State.sweepOff_touch {W0 : List Nat} {s0 s : State} (h0 : Touch W0 s0 s) (hW : Sub State.sweepOff_cells W0) :
    Touch W0 s0 (State.sweepOff s) := by
  have c_State_excEnd : Sub State.excEnd_cells W0 := Sub.trans (Sub.of rfl) hW
  have c_State_chgRelease : Sub State.chgRelease_cells W0 := fun _ h => nomatch h
  have w300 : Writes W0 R.CHG_STATUS := Or.inl (hW.mem rfl)
  unfold State.sweepOff
  repeat' first
    | with_reducible assumption
    | with_reducible refine State.excEnd_touch ?_ c_State_excEnd
    | with_reducible refine State.chgRelease_touch ?_ c_State_chgRelease _ ?_

def State.holdArm_cells : List Nat :=
  [0x1411]

theorem State.holdArm_touch {W0 : List Nat} {s0 s : State} (h0 : Touch W0 s0 s) (hW : Sub State.holdArm_cells W0) :
    Touch W0 s0 (State.holdArm s) := by
  have w1411 : 0x1411 ∈ W0 := hW.mem rfl
  unfold State.holdArm
  repeat' first
    | with_reducible assumption
    | (extract_lets +onlyGivenNames xx; (try clear_value xx); revert xx; intro _)
    | with_reducible refine Touch.update ?_

def State.seqBegin_cells : List Nat :=
  [0x200, 0x300, 0x301, 0x31f, 0x400, 0x401, 0x40f, 0xa01, 0xa32, 0x1408, 0x1409, 0x140f, 0x1411]

theorem State.seqBegin_touch {W0 : List Nat} {s0 s : State} (h0 : Touch W0 s0 s) (hW : Sub State.seqBegin_cells W0) (kind : Nat) (arg : Nat) :
    Touch W0 s0 (State.seqBegin s kind arg) := by
  have c_State_sweepOn : Sub State.sweepOn_cells W0 := Sub.trans (Sub.of rfl) hW
  have w1411 : 0x1411 ∈ W0 := hW.mem rfl
  unfold State.seqBegin
  repeat' first
    | with_reducible assumption
    | (extract_lets +onlyGivenNames xx; guard_hyp xx : State := _; refine Touch.cut (x := xx) ?_ ?_; (on_goal 2 => (intro hh; (try clear_value xx); revert xx; intro _ _)); any_goals (revert xx; intro _))
    | (extract_lets +onlyGivenNames xx; (try clear_value xx); revert xx; intro _)
    | with_reducible refine State.sweepOn_touch ?_ c_State_sweepOn
    | with_reducible refine Touch.ite ?_ ?_
    | with_reducible refine Touch.update ?_

def State.seqStart_cells : List Nat :=
  [0x200, 0x300, 0x301, 0x31f, 0x400, 0x401, 0x40f, 0x801, 0xa01, 0xa32, 0x1402, 0x1408, 0x1409, 0x140f, 0x1411]

theorem State.seqStart_touch {W0 : List Nat} {s0 s : State} (h0 : Touch W0 s0 s) (hW : Sub State.seqStart_cells W0) (kind : Nat) (arg : Nat) :
    Touch W0 s0 (State.seqStart s kind arg) := by
  have c_State_holdArm : Sub State.holdArm_cells W0 := Sub.trans (Sub.of rfl) hW
  have c_State_wbNotice : Sub State.wbNotice_cells W0 := Sub.trans (Sub.of rfl) hW
  have c_State_seqBegin : Sub State.seqBegin_cells W0 := Sub.trans (Sub.of rfl) hW
  unfold State.seqStart
  repeat' first
    | with_reducible assumption
    | with_reducible refine State.holdArm_touch ?_ c_State_holdArm
    | with_reducible refine State.wbNotice_touch ?_ c_State_wbNotice _ _
    | with_reducible refine State.seqBegin_touch ?_ c_State_seqBegin _ _
    | with_reducible refine Touch.ite ?_ ?_

def State.wbTrigger_cells : List Nat :=
  [0x200, 0x300, 0x301, 0x31f, 0x400, 0x401, 0x40f, 0x801, 0x807, 0xa01, 0xa32, 0x1402, 0x1408, 0x1409, 0x140f, 0x1411]

theorem State.wbTrigger_touch {W0 : List Nat} {s0 s : State} (h0 : Touch W0 s0 s) (hW : Sub State.wbTrigger_cells W0) (kind : Nat) (arg : Nat) :
    Touch W0 s0 (State.wbTrigger s kind arg).1 := by
  have c_State_seqStart : Sub State.seqStart_cells W0 := Sub.trans (Sub.of rfl) hW
  have w807 : Writes W0 R.WB_OVRCNT := Or.inl (hW.mem rfl)
  have w1411 : 0x1411 ∈ W0 := hW.mem rfl
  unfold State.wbTrigger
  repeat' first
    | with_reducible assumption
    | (extract_lets +onlyGivenNames xx; (try clear_value xx); revert xx; intro _)
    | with_reducible refine State.seqStart_touch ?_ c_State_seqStart _ _
    | with_reducible refine State.bump_touch ?_ _ _ ?_
    | split
    | dsimp only
    | with_reducible refine Touch.update ?_

theorem State.wbTrigger_touch_eq {W0 : List Nat} {s0 s : State} {sOut : State} {u1 : Nat} (h0 : Touch W0 s0 s) (hW : Sub State.wbTrigger_cells W0) (kind : Nat) (arg : Nat)
    (e : (State.wbTrigger s kind arg) = (sOut, u1)) : Touch W0 s0 sOut := by
  have := State.wbTrigger_touch h0 hW kind arg
  rwa [e] at this

def State.startPending_cells : List Nat :=
  [0x200, 0x300, 0x301, 0x31f, 0x400, 0x401, 0x40f, 0x801, 0xa01, 0xa32, 0x1402, 0x1408, 0x1409, 0x140f, 0x1411]

theorem State.startPending_touch {W0 : List Nat} {s0 s : State} (h0 : Touch W0 s0 s) (hW : Sub State.startPending_cells W0) :
    Touch W0 s0 (State.startPending s) := by
  have c_State_seqStart : Sub State.seqStart_cells W0 := Sub.trans (Sub.of rfl) hW
  have w1411 : 0x1411 ∈ W0 := hW.mem rfl
  unfold State.startPending
  repeat' first
    | with_reducible assumption
    | (extract_lets +onlyGivenNames xx; (try clear_value xx); revert xx; intro _)
    | with_reducible refine State.seqStart_touch ?_ c_State_seqStart _ _
    | with_reducible refine Touch.ite ?_ ?_
    | split
    | with_reducible refine Touch.update ?_

def State.seqEnd_cells : List Nat :=
  [0x200, 0x300, 0x301, 0x31f, 0x400, 0x401, 0x40f, 0x801, 0xa01, 0xa32, 0x1402, 0x1408, 0x1409, 0x140f, 0x1411]

theorem State.seqEnd_touch {W0 : List Nat} {s0 s : State} (h0 : Touch W0 s0 s) (hW : Sub State.seqEnd_cells W0) (typ : Nat) (extra : Nat) (body : List Byte) :
    Touch W0 s0 (State.seqEnd s typ extra body) := by
  have c_State_wbRelease : Sub State.wbRelease_cells W0 := Sub.trans (Sub.of rfl) hW
  have c_State_startPending : Sub State.startPending_cells W0 := Sub.trans (Sub.of rfl) hW
  have w801 : Writes W0 R.WB_EVENT := Or.inl (hW.mem rfl)
  have w1411 : 0x1411 ∈ W0 := hW.mem rfl
  unfold State.seqEnd
  repeat' first
    | with_reducible assumption
    | (extract_lets +onlyGivenNames xx; guard_hyp xx : State := _; refine Touch.cut (x := xx) ?_ ?_; (on_goal 2 => (intro hh; (try clear_value xx); revert xx; intro _ _)); any_goals (revert xx; intro _))
    | (extract_lets +onlyGivenNames xx; (try clear_value xx); revert xx; intro _)
    | with_reducible refine State.wbRelease_touch ?_ c_State_wbRelease _ _ _
    | with_reducible refine State.startPending_touch ?_ c_State_startPending
    | with_reducible refine State.event_touch ?_ _ ?_
    | with_reducible refine Touch.update ?_

def State.sweepAbort_cells : List Nat :=
  [0x200, 0x300, 0x301, 0x31f, 0x400, 0x401, 0x40f, 0x801, 0xa01, 0xa32, 0x1402, 0x1408, 0x1409, 0x140f, 0x1411]

theorem State.sweepAbort_touch {W0 : List Nat} {s0 s : State} (h0 : Touch W0 s0 s) (hW : Sub State.sweepAbort_cells W0) :
    Touch W0 s0 (State.sweepAbort s) := by
  have c_State_sweepOff : Sub State.sweepOff_cells W0 := Sub.trans (Sub.of rfl) hW
  have c_State_wbRelease : Sub State.wbRelease_cells W0 := Sub.trans (Sub.of rfl) hW
  have c_State_holdArm : Sub State.holdArm_cells W0 := Sub.trans (Sub.of rfl) hW
  have c_State_startPending : Sub State.startPending_cells W0 := Sub.trans (Sub.of rfl) hW
  have w801 : Writes W0 R.WB_EVENT := Or.inl (hW.mem rfl)
  have w1411 : 0x1411 ∈ W0 := hW.mem rfl
  unfold State.sweepAbort
  repeat' first
    | with_reducible assumption
    | (extract_lets +onlyGivenNames xx; guard_hyp xx : State := _; refine Touch.cut (x := xx) ?_ ?_; (on_goal 2 => (intro hh; (try clear_value xx); revert xx; intro _ _)); any_goals (revert xx; intro _))
    | (extract_lets +onlyGivenNames xx; (try clear_value xx); revert xx; intro _)
    | with_reducible refine State.sweepOff_touch ?_ c_State_sweepOff
    | with_reducible refine State.wbRelease_touch ?_ c_State_wbRelease _ _ _
    | with_reducible refine State.holdArm_touch ?_ c_State_holdArm
    | with_reducible refine State.startPending_touch ?_ c_State_startPending
    | with_reducible refine State.event_touch ?_ _ ?_
    | with_reducible refine Touch.ite ?_ ?_
    | split
    | with_reducible refine Touch.update ?_

def State.wbSuspended_cells : List Nat :=
  [0x200, 0x300, 0x301, 0x31f, 0x400, 0x401, 0x40f, 0x801, 0xa01, 0xa32, 0x1402, 0x1408, 0x1409, 0x140f, 0x1411]

theorem State.wbSuspended_touch {W0 : List Nat} {s0 s : State} (h0 : Touch W0 s0 s) (hW : Sub State.wbSuspended_cells W0) :
    Touch W0 s0 (State.wbSuspended s) := by
  have c_State_holdArm : Sub State.holdArm_cells W0 := Sub.trans (Sub.of rfl) hW
  have c_State_sweepAbort : Sub State.sweepAbort_cells W0 := Sub.trans (Sub.of rfl) hW
  have w1411 : 0x1411 ∈ W0 := hW.mem rfl
  unfold State.wbSuspended
  repeat' first
    | with_reducible assumption
    | (extract_lets +onlyGivenNames xx; guard_hyp xx : State := _; refine Touch.cut (x := xx) ?_ ?_; (on_goal 2 => (intro hh; (try clear_value xx); revert xx; intro _ _)); any_goals (revert xx; intro _))
    | (extract_lets +onlyGivenNames xx; (try clear_value xx); revert xx; intro _)
    | with_reducible refine State.holdArm_touch ?_ c_State_holdArm
    | with_reducible refine State.sweepAbort_touch ?_ c_State_sweepAbort
    | with_reducible refine Touch.ite ?_ ?_
    | with_reducible refine Touch.update ?_

def State.wbReleased_cells : List Nat :=
  [0x1411]

theorem State.wbReleased_touch {W0 : List Nat} {s0 s : State} (h0 : Touch W0 s0 s) (hW : Sub State.wbReleased_cells W0) :
    Touch W0 s0 (State.wbReleased s) := by
  have w1411 : 0x1411 ∈ W0 := hW.mem rfl
  unfold State.wbReleased
  repeat' first
    | with_reducible assumption
    | (extract_lets +onlyGivenNames xx; (try clear_value xx); revert xx; intro _)
    | with_reducible refine Touch.ite ?_ ?_
    | with_reducible refine Touch.update ?_

def State.capBody_cells : List Nat :=
  [0x1402]

theorem State.capBody_touch {W0 : List Nat} {s0 s : State} (h0 : Touch W0 s0 s) (hW : Sub State.capBody_cells W0) (wq : WbSeq) (m : CapMeasure) (result : Nat) :
    Touch W0 s0 (State.capBody s wq m result).2 := by
  have c_State_fresh : Sub State.fresh_cells W0 := Sub.trans (Sub.of rfl) hW
  unfold State.capBody
  repeat' first
    | with_reducible assumption
    | (extract_lets +onlyGivenNames xx; (try clear_value xx); revert xx; intro _)
    | with_reducible refine State.fresh_touch ?_ c_State_fresh

theorem State.capBody_touch_eq {W0 : List Nat} {s0 s : State} {u0 : List Byte} {sOut : State} (h0 : Touch W0 s0 s) (hW : Sub State.capBody_cells W0) (wq : WbSeq) (m : CapMeasure) (result : Nat)
    (e : (State.capBody s wq m result) = (u0, sOut)) : Touch W0 s0 sOut := by
  have := State.capBody_touch h0 hW wq m result
  rwa [e] at this

def State.freshBytes_cells : List Nat :=
  [0x1402]

theorem State.freshBytes_touch {W0 : List Nat} {s0 s : State} (h0 : Touch W0 s0 s) (hW : Sub State.freshBytes_cells W0)
    (n : Nat) : Touch W0 s0 (s.freshBytes n).2 := by
  induction n generalizing s with
  | zero => exact h0
  | succ n ih => exact ih (State.fresh_touch h0 (Sub.trans (Sub.of rfl) hW))

theorem State.freshBytes_touch_eq {W0 : List Nat} {s0 s : State} {a : List Byte} {t : State} (h0 : Touch W0 s0 s)
    (hW : Sub State.freshBytes_cells W0) (n : Nat) (e : s.freshBytes n = (a, t)) : Touch W0 s0 t := by
  have := State.freshBytes_touch h0 hW n
  rwa [e] at this

def State.orFreeBytes_cells : List Nat :=
  [0x1402]

theorem State.orFreeBytes_touch {W0 : List Nat} {s0 s : State} (h0 : Touch W0 s0 s) (hW : Sub State.orFreeBytes_cells W0) (n : Nat) (x : Option Nat) :
    Touch W0 s0 (State.orFreeBytes s n x).2 := by
  have c_State_freshBytes : Sub State.freshBytes_cells W0 := Sub.trans (Sub.of rfl) hW
  unfold State.orFreeBytes
  repeat' first
    | with_reducible assumption
    | with_reducible refine State.freshBytes_touch ?_ c_State_freshBytes _
    | split

theorem State.orFreeBytes_touch_eq {W0 : List Nat} {s0 s : State} {u0 : List Byte} {sOut : State} (h0 : Touch W0 s0 s) (hW : Sub State.orFreeBytes_cells W0) (n : Nat) (x : Option Nat)
    (e : (State.orFreeBytes s n x) = (u0, sOut)) : Touch W0 s0 sOut := by
  have := State.orFreeBytes_touch h0 hW n x
  rwa [e] at this

def State.abandonBody_cells : List Nat :=
  [0x1402]

theorem State.abandonBody_touch {W0 : List Nat} {s0 s : State} (h0 : Touch W0 s0 s) (hW : Sub State.abandonBody_cells W0) (q : WbSeq) :
    Touch W0 s0 (State.abandonBody s q).2 := by
  have c_State_orFreeBytes : Sub State.orFreeBytes_cells W0 := Sub.trans (Sub.of rfl) hW
  have c_State_freshBytes : Sub State.freshBytes_cells W0 := Sub.trans (Sub.of rfl) hW
  unfold State.abandonBody
  repeat' first
    | with_reducible assumption
    | with_reducible refine State.orFreeBytes_touch ?_ c_State_orFreeBytes _ _
    | with_reducible refine State.freshBytes_touch ?_ c_State_freshBytes _

theorem State.abandonBody_touch_eq {W0 : List Nat} {s0 s : State} {u0 : List Byte} {sOut : State} (h0 : Touch W0 s0 s) (hW : Sub State.abandonBody_cells W0) (q : WbSeq)
    (e : (State.abandonBody s q) = (u0, sOut)) : Touch W0 s0 sOut := by
  have := State.abandonBody_touch h0 hW q
  rwa [e] at this

def State.capAbandon_cells : List Nat :=
  [0x200, 0x300, 0x301, 0x31f, 0x400, 0x401, 0x40f, 0x801, 0xa01, 0xa32, 0x1402, 0x1408, 0x1409, 0x140f, 0x1411]

theorem State.capAbandon_touch {W0 : List Nat} {s0 s : State} (h0 : Touch W0 s0 s) (hW : Sub State.capAbandon_cells W0) :
    Touch W0 s0 (State.capAbandon s) := by
  have c_State_abandonBody : Sub State.abandonBody_cells W0 := Sub.trans (Sub.of rfl) hW
  have c_State_seqEnd : Sub State.seqEnd_cells W0 := Sub.trans (Sub.of rfl) hW
  unfold State.capAbandon
  repeat' first
    | with_reducible assumption
    | with_reducible refine State.abandonBody_touch ?_ c_State_abandonBody _
    | with_reducible refine State.seqEnd_touch ?_ c_State_seqEnd _ _ _
    | with_reducible refine Touch.ite ?_ ?_
    | split

def State.capTemp_cells : List Nat :=
  [0x1411]

theorem State.capTemp_touch {W0 : List Nat} {s0 s : State} (h0 : Touch W0 s0 s) (hW : Sub State.capTemp_cells W0) (x : Option Int) :
    Touch W0 s0 (State.capTemp s x) := by
  have w1411 : 0x1411 ∈ W0 := hW.mem rfl
  unfold State.capTemp
  repeat' first
    | with_reducible assumption
    | (extract_lets +onlyGivenNames xx; (try clear_value xx); revert xx; intro _)
    | with_reducible refine Touch.ite ?_ ?_
    | split
    | with_reducible refine Touch.update ?_

def State.capTrack_cells : List Nat :=
  [0x1411]

theorem State.capTrack_touch {W0 : List Nat} {s0 s : State} (h0 : Touch W0 s0 s) (hW : Sub State.capTrack_cells W0) (bat : Nat) (out : Nat) :
    Touch W0 s0 (State.capTrack s bat out) := by
  have w1411 : 0x1411 ∈ W0 := hW.mem rfl
  unfold State.capTrack
  repeat' first
    | with_reducible assumption
    | (extract_lets +onlyGivenNames xx; (try clear_value xx); revert xx; intro _)
    | with_reducible refine Touch.ite ?_ ?_
    | split
    | with_reducible refine Touch.update ?_

def State.cmdResult_cells : List Nat :=
  [0x801, 0x806]

theorem State.cmdResult_touch {W0 : List Nat} {s0 s : State} (h0 : Touch W0 s0 s) (hW : Sub State.cmdResult_cells W0) (code : Nat) (result : Nat) :
    Touch W0 s0 (State.cmdResult s code result) := by
  have w801 : Writes W0 R.WB_EVENT := Or.inl (hW.mem rfl)
  have w806 : Writes W0 R.WB_CMDRES := Or.inl (hW.mem rfl)
  unfold State.cmdResult
  repeat' first
    | with_reducible assumption
    | (extract_lets +onlyGivenNames xx; guard_hyp xx : State := _; refine Touch.cut (x := xx) ?_ ?_; (on_goal 2 => (intro hh; (try clear_value xx); revert xx; intro _ _)); any_goals (revert xx; intro _))
    | with_reducible refine State.event_touch ?_ _ ?_
    | with_reducible refine State.setField_touch ?_ _ _ ?_
    | with_reducible refine Touch.ite ?_ ?_

def State.mailbox_cells : List Nat :=
  []

theorem State.mailbox_touch {W0 : List Nat} {s0 s : State} (h0 : Touch W0 s0 s) (hW : Sub State.mailbox_cells W0) (f : State → State) (hf : ∀ t, Touch W0 s0 t → Touch W0 s0 (f t)) :
    Touch W0 s0 (State.mailbox s f) := by
  unfold State.mailbox
  repeat' first
    | with_reducible assumption
    | with_reducible refine Touch.ite ?_ ?_
    | refine hf _ ?_

def State.mailWrite_cells : List Nat :=
  [0x801, 0x806, 0x1402, 0x1411]

theorem State.mailWrite_touch {W0 : List Nat} {s0 s : State} (h0 : Touch W0 s0 s) (hW : Sub State.mailWrite_cells W0) (f : State → State) (hf : ∀ t, Touch W0 s0 t → Touch W0 s0 (f t)) :
    Touch W0 s0 (State.mailWrite s f) := by
  have c_State_mailbox : Sub State.mailbox_cells W0 := fun _ h => nomatch h
  have c_State_fresh : Sub State.fresh_cells W0 := Sub.trans (Sub.of rfl) hW
  have w801 : Writes W0 R.WB_EVENT := Or.inl (hW.mem rfl)
  have w806 : Writes W0 R.WB_CMDRES := Or.inl (hW.mem rfl)
  have w1411 : 0x1411 ∈ W0 := hW.mem rfl
  unfold State.mailWrite
  repeat' first
    | with_reducible assumption
    | (extract_lets +onlyGivenNames xx; (try clear_value xx); revert xx; intro _)
    | with_reducible refine State.mailbox_touch ?_ c_State_mailbox _ ?_
    | with_reducible refine State.fresh_touch ?_ c_State_fresh
    | with_reducible refine State.event_touch ?_ _ ?_
    | with_reducible refine State.setField_touch ?_ _ _ ?_
    | with_reducible refine Touch.ite ?_ ?_
    | with_reducible intro _ _
    | refine hf _ ?_
    | with_reducible refine Touch.update ?_

def State.cmdTrigger_cells : List Nat :=
  [0x200, 0x300, 0x301, 0x31f, 0x400, 0x401, 0x40f, 0x801, 0x806, 0x807, 0xa01, 0xa32, 0x1402, 0x1408, 0x1409, 0x140f,
   0x1411]

theorem State.cmdTrigger_touch {W0 : List Nat} {s0 s : State} (h0 : Touch W0 s0 s) (hW : Sub State.cmdTrigger_cells W0) (code : Nat) (kind : Nat) (arg : Nat) :
    Touch W0 s0 (State.cmdTrigger s code kind arg) := by
  have c_State_wbTrigger : Sub State.wbTrigger_cells W0 := Sub.trans (Sub.of rfl) hW
  have c_State_cmdResult : Sub State.cmdResult_cells W0 := Sub.trans (Sub.of rfl) hW
  unfold State.cmdTrigger
  repeat' first
    | with_reducible assumption
    | (extract_lets +onlyGivenNames xx; guard_hyp xx : (State × Nat) := _; revert xx; intro _)
    | with_reducible refine State.wbTrigger_touch ?_ c_State_wbTrigger _ _
    | with_reducible refine State.cmdResult_touch ?_ c_State_cmdResult _ _

def State.wbStop_cells : List Nat :=
  [0x300, 0x400, 0x401, 0x40f, 0xa01, 0xa32, 0x1408, 0x140f, 0x1411, 0x1430]

theorem State.wbStop_touch {W0 : List Nat} {s0 s : State} (h0 : Touch W0 s0 s) (hW : Sub State.wbStop_cells W0) (cause : Nat) :
    Touch W0 s0 (State.wbStop s cause) := by
  have c_State_sweepOff : Sub State.sweepOff_cells W0 := Sub.trans (Sub.of rfl) hW
  have w1411 : 0x1411 ∈ W0 := hW.mem rfl
  have w1430 : 0x1430 ∈ W0 := hW.mem rfl
  unfold State.wbStop
  repeat' first
    | with_reducible assumption
    | (extract_lets +onlyGivenNames xx; guard_hyp xx : State := _; refine Touch.cut (x := xx) ?_ ?_; (on_goal 2 => (intro hh; (try clear_value xx); revert xx; intro _ _)); any_goals (revert xx; intro _))
    | (extract_lets +onlyGivenNames xx; (try clear_value xx); revert xx; intro _)
    | with_reducible refine State.sweepOff_touch ?_ c_State_sweepOff
    | with_reducible refine State.restore_touch ?_ _ ?_
    | with_reducible refine Touch.ite ?_ ?_
    | with_reducible refine Touch.update ?_

def State.wbPowerOff_cells : List Nat :=
  [0x300, 0x400, 0x401, 0x40f, 0xa01, 0xa32, 0x1408, 0x140f, 0x1411, 0x1430]

theorem State.wbPowerOff_touch {W0 : List Nat} {s0 s : State} (h0 : Touch W0 s0 s) (hW : Sub State.wbPowerOff_cells W0) :
    Touch W0 s0 (State.wbPowerOff s) := by
  have c_State_wbStop : Sub State.wbStop_cells W0 := Sub.trans (Sub.of rfl) hW
  have w1411 : 0x1411 ∈ W0 := hW.mem rfl
  unfold State.wbPowerOff
  repeat' first
    | with_reducible assumption
    | (extract_lets +onlyGivenNames xx; guard_hyp xx : State := _; refine Touch.cut (x := xx) ?_ ?_; (on_goal 2 => (intro hh; (try clear_value xx); revert xx; intro _ _)); any_goals (revert xx; intro _))
    | (extract_lets +onlyGivenNames xx; (try clear_value xx); revert xx; intro _)
    | with_reducible refine State.wbStop_touch ?_ c_State_wbStop _
    | with_reducible refine Touch.update ?_

end Sys2Proof.Machine
end

