-- ==== Sys2Proof/Laws/TouchVdtOps.lean ====
section
/-!
SUPPORT. What each operation of Machine/VdtOps.lean can do: the registers and parts of the state it may write, and nothing
else; the unit, its queue and the form of its stores are kept.
-/

-- proofs are elaborated one after another: many at once ask for more threads than a memory limit allows
set_option Elab.async false

set_option linter.unusedTactic false
set_option linter.unusedVariables false
set_option linter.unusedSimpArgs false
set_option linter.unreachableTactic false
set_option linter.tactic.unusedName false

namespace Sys2Proof.Machine

def State.formEstimates_cells : List Nat :=
  [0x90d, 0x90e, 0x90f, 0x140c]

theorem State.formEstimates_touch {W0 : List Nat} {s0 s : State} (h0 : Touch W0 s0 s) (hW : Sub State.formEstimates_cells W0) :
    Touch W0 s0 (State.formEstimates s) := by
  have w90d : Writes W0 R.VDT_EC := Or.inl (hW.mem rfl)
  have w90e : Writes W0 R.VDT_EV := Or.inl (hW.mem rfl)
  have w90f : Writes W0 R.VDT_EA := Or.inl (hW.mem rfl)
  have w140c : 0x140c ∈ W0 := hW.mem rfl
  unfold State.formEstimates
  repeat' first
    | with_reducible assumption
    | (extract_lets +onlyGivenNames xx; guard_hyp xx : State := _; refine Touch.cut (x := xx) ?_ ?_; (on_goal 2 => (intro hh; (try clear_value xx); revert xx; intro _ _)); any_goals (revert xx; intro _))
    | (extract_lets +onlyGivenNames xx; (try clear_value xx); revert xx; intro _)
    | with_reducible refine State.setReg_touch ?_ _ _ ?_
    | with_reducible refine Touch.update ?_

def State.notePush_cells : List Nat :=
  [0x901, 0x140c]

theorem State.notePush_touch {W0 : List Nat} {s0 s : State} (h0 : Touch W0 s0 s) (hW : Sub State.notePush_cells W0) (n : Note) :
    Touch W0 s0 (State.notePush s n) := by
  have w901 : Writes W0 R.VDT_EVENT := Or.inl (hW.mem rfl)
  have w140c : 0x140c ∈ W0 := hW.mem rfl
  unfold State.notePush
  repeat' first
    | with_reducible assumption
    | (extract_lets +onlyGivenNames xx; guard_hyp xx : State := _; refine Touch.cut (x := xx) ?_ ?_; (on_goal 2 => (intro hh; (try clear_value xx); revert xx; intro _ _)); any_goals (revert xx; intro _))
    | (extract_lets +onlyGivenNames xx; (try clear_value xx); revert xx; intro _)
    | with_reducible refine State.event_touch ?_ _ ?_
    | with_reducible refine Touch.ite ?_ ?_
    | with_reducible refine Touch.update ?_

def State.noteCritical_cells : List Nat :=
  [0x901, 0xa01, 0xa32, 0x140c, 0x140f]

theorem State.noteCritical_touch {W0 : List Nat} {s0 s : State} (h0 : Touch W0 s0 s) (hW : Sub State.noteCritical_cells W0) (n : Note) :
    Touch W0 s0 (State.noteCritical s n) := by
  have c_State_notePush : Sub State.notePush_cells W0 := Sub.trans (Sub.of rfl) hW
  have c_State_tally : Sub State.tally_cells W0 := Sub.trans (Sub.of rfl) hW
  have w140c : 0x140c ∈ W0 := hW.mem rfl
  unfold State.noteCritical
  repeat' first
    | with_reducible assumption
    | (extract_lets +onlyGivenNames xx; (try clear_value xx); revert xx; intro _)
    | with_reducible refine State.notePush_touch ?_ c_State_notePush _
    | with_reducible refine State.tally_touch ?_ c_State_tally _
    | with_reducible refine Touch.ite ?_ ?_
    | with_reducible refine Touch.update ?_

def State.noteEnter_cells : List Nat :=
  [0x901, 0x140c]

theorem State.noteEnter_touch {W0 : List Nat} {s0 s : State} (h0 : Touch W0 s0 s) (hW : Sub State.noteEnter_cells W0) (n : Note) :
    Touch W0 s0 (State.noteEnter s n) := by
  have c_State_notePush : Sub State.notePush_cells W0 := Sub.trans (Sub.of rfl) hW
  have w140c : 0x140c ∈ W0 := hW.mem rfl
  unfold State.noteEnter
  repeat' first
    | with_reducible assumption
    | (extract_lets +onlyGivenNames xx; (try clear_value xx); revert xx; intro _)
    | with_reducible refine State.notePush_touch ?_ c_State_notePush _
    | with_reducible refine Touch.ite ?_ ?_
    | with_reducible refine Touch.update ?_

def State.noteHold_cells : List Nat :=
  [0x900, 0x140c]

theorem State.noteHold_touch {W0 : List Nat} {s0 s : State} (h0 : Touch W0 s0 s) (hW : Sub State.noteHold_cells W0) (n : Note) :
    Touch W0 s0 (State.noteHold s n) := by
  have w900 : Writes W0 R.VDT_STATUS := Or.inl (hW.mem rfl)
  have w140c : 0x140c ∈ W0 := hW.mem rfl
  unfold State.noteHold
  repeat' first
    | with_reducible assumption
    | (extract_lets +onlyGivenNames xx; (try clear_value xx); revert xx; intro _)
    | with_reducible refine State.setFlag_touch ?_ _ _ ?_
    | with_reducible refine Touch.update ?_

def State.note_cells : List Nat :=
  [0x900, 0x901, 0xa01, 0xa32, 0x140c, 0x140f]

theorem State.note_touch {W0 : List Nat} {s0 s : State} (h0 : Touch W0 s0 s) (hW : Sub State.note_cells W0) (code : Nat) (critical : Bool) (audible : Bool) (subject : Nat) :
    Touch W0 s0 (State.note s code critical audible subject) := by
  have c_State_noteCritical : Sub State.noteCritical_cells W0 := Sub.trans (Sub.of rfl) hW
  have c_State_noteHold : Sub State.noteHold_cells W0 := Sub.trans (Sub.of rfl) hW
  have c_State_noteEnter : Sub State.noteEnter_cells W0 := Sub.trans (Sub.of rfl) hW
  unfold State.note
  repeat' first
    | with_reducible assumption
    | (extract_lets +onlyGivenNames xx; (try clear_value xx); revert xx; intro _)
    | with_reducible refine State.noteCritical_touch ?_ c_State_noteCritical _
    | with_reducible refine State.noteHold_touch ?_ c_State_noteHold _
    | with_reducible refine State.noteEnter_touch ?_ c_State_noteEnter _
    | with_reducible refine Touch.ite ?_ ?_

def State.releaseHeld_cells : List Nat :=
  [0x900, 0x901, 0x140c]

theorem State.releaseHeld_touch {W0 : List Nat} {s0 s : State} (h0 : Touch W0 s0 s) (hW : Sub State.releaseHeld_cells W0) :
    Touch W0 s0 (State.releaseHeld s) := by
  have c_State_noteEnter : Sub State.noteEnter_cells W0 := Sub.trans (Sub.of rfl) hW
  have w900 : Writes W0 R.VDT_STATUS := Or.inl (hW.mem rfl)
  have w901 : Writes W0 R.VDT_EVENT := Or.inl (hW.mem rfl)
  have w140c : 0x140c ∈ W0 := hW.mem rfl
  unfold State.releaseHeld
  repeat' first
    | with_reducible assumption
    | (extract_lets +onlyGivenNames xx; guard_hyp xx : State := _; refine Touch.cut (x := xx) ?_ ?_; (on_goal 2 => (intro hh; (try clear_value xx); revert xx; intro _ _)); any_goals (revert xx; intro _))
    | (extract_lets +onlyGivenNames xx; (try clear_value xx); revert xx; intro _)
    | with_reducible refine State.noteEnter_touch ?_ c_State_noteEnter _
    | with_reducible refine State.event_touch ?_ _ ?_
    | with_reducible refine State.setFlag_touch ?_ _ _ ?_
    | with_reducible refine Touch.foldl ?_ ?_
    | with_reducible intro _ _
    | with_reducible intro _
    | with_reducible refine Touch.update ?_

def State.noteRefill_cells : List Nat :=
  [0x901, 0x140c]

theorem State.noteRefill_touch {W0 : List Nat} {s0 s : State} (h0 : Touch W0 s0 s) (hW : Sub State.noteRefill_cells W0) :
    Touch W0 s0 (State.noteRefill s) := by
  have c_State_notePush : Sub State.notePush_cells W0 := Sub.trans (Sub.of rfl) hW
  have w140c : 0x140c ∈ W0 := hW.mem rfl
  unfold State.noteRefill
  repeat' first
    | with_reducible assumption
    | (extract_lets +onlyGivenNames xx; (try clear_value xx); revert xx; intro _)
    | with_reducible refine State.notePush_touch ?_ c_State_notePush _
    | split
    | with_reducible refine Touch.update ?_

def State.postVerdict_cells : List Nat :=
  [0x901, 0xa01, 0xa32, 0x140f]

theorem State.postVerdict_touch {W0 : List Nat} {s0 s : State} (h0 : Touch W0 s0 s) (hW : Sub State.postVerdict_cells W0) (critical : Bool) (cause : Nat) :
    Touch W0 s0 (State.postVerdict s critical cause) := by
  have c_State_post : Sub State.post_cells W0 := Sub.trans (Sub.of rfl) hW
  have w901 : Writes W0 R.VDT_EVENT := Or.inl (hW.mem rfl)
  unfold State.postVerdict
  repeat' first
    | with_reducible assumption
    | (extract_lets +onlyGivenNames xx; (try clear_value xx); revert xx; intro _)
    | with_reducible refine State.post_touch ?_ c_State_post _ _
    | with_reducible refine State.event_touch ?_ _ ?_

def State.setReserve_cells : List Nat :=
  [0x900, 0x901, 0xa01, 0xa32, 0x140c, 0x140f]

theorem State.setReserve_touch {W0 : List Nat} {s0 s : State} (h0 : Touch W0 s0 s) (hW : Sub State.setReserve_cells W0) (v : Nat) (cause : Nat) :
    Touch W0 s0 (State.setReserve s v cause) := by
  have c_State_postVerdict : Sub State.postVerdict_cells W0 := Sub.trans (Sub.of rfl) hW
  have c_State_note : Sub State.note_cells W0 := Sub.trans (Sub.of rfl) hW
  have w900 : Writes W0 R.VDT_STATUS := Or.inl (hW.mem rfl)
  unfold State.setReserve
  repeat' first
    | with_reducible assumption
    | (extract_lets +onlyGivenNames xx; guard_hyp xx : State := _; refine Touch.cut (x := xx) ?_ ?_; (on_goal 2 => (intro hh; (try clear_value xx); revert xx; intro _ _)); any_goals (revert xx; intro _))
    | with_reducible refine State.postVerdict_touch ?_ c_State_postVerdict _ _
    | with_reducible refine State.note_touch ?_ c_State_note _ _ _ _
    | with_reducible refine State.setField_touch ?_ _ _ ?_
    | with_reducible refine Touch.ite ?_ ?_
    | split

def State.formReserve_cells : List Nat :=
  [0x900, 0x901, 0x90d, 0x90e, 0x90f, 0xa01, 0xa32, 0x140c, 0x140f]

theorem State.formReserve_touch {W0 : List Nat} {s0 s : State} (h0 : Touch W0 s0 s) (hW : Sub State.formReserve_cells W0) :
    Touch W0 s0 (State.formReserve s) := by
  have c_State_formEstimates : Sub State.formEstimates_cells W0 := Sub.trans (Sub.of rfl) hW
  have c_State_setReserve : Sub State.setReserve_cells W0 := Sub.trans (Sub.of rfl) hW
  have w140c : 0x140c ∈ W0 := hW.mem rfl
  unfold State.formReserve
  repeat' first
    | with_reducible assumption
    | (extract_lets +onlyGivenNames xx; guard_hyp xx : State := _; refine Touch.cut (x := xx) ?_ ?_; (on_goal 2 => (intro hh; (try clear_value xx); revert xx; intro _ _)); any_goals (revert xx; intro _))
    | (extract_lets +onlyGivenNames xx; (try clear_value xx); revert xx; intro _)
    | with_reducible refine State.formEstimates_touch ?_ c_State_formEstimates
    | with_reducible refine State.setReserve_touch ?_ c_State_setReserve _ _
    | with_reducible refine Touch.update ?_

def State.refreshCell_cells : List Nat :=
  [0x900, 0x901, 0xa01, 0xa32, 0x140c, 0x140f]

theorem State.refreshCell_touch {W0 : List Nat} {s0 s : State} (h0 : Touch W0 s0 s) (hW : Sub State.refreshCell_cells W0) (cause : Nat) :
    Touch W0 s0 (State.refreshCell s cause) := by
  have c_State_postVerdict : Sub State.postVerdict_cells W0 := Sub.trans (Sub.of rfl) hW
  have c_State_note : Sub State.note_cells W0 := Sub.trans (Sub.of rfl) hW
  have w900 : Writes W0 R.VDT_STATUS := Or.inl (hW.mem rfl)
  unfold State.refreshCell
  repeat' first
    | with_reducible assumption
    | (extract_lets +onlyGivenNames xx; guard_hyp xx : State := _; refine Touch.cut (x := xx) ?_ ?_; (on_goal 2 => (intro hh; (try clear_value xx); revert xx; intro _ _)); any_goals (revert xx; intro _))
    | (extract_lets +onlyGivenNames xx; (try clear_value xx); revert xx; intro _)
    | with_reducible refine State.postVerdict_touch ?_ c_State_postVerdict _ _
    | with_reducible refine State.note_touch ?_ c_State_note _ _ _ _
    | with_reducible refine State.setFlag_touch ?_ _ _ ?_
    | with_reducible refine Touch.ite ?_ ?_

def State.chgVerdict_cells : List Nat :=
  [0x900, 0x901, 0xa01, 0xa32, 0x140c, 0x140f]

theorem State.chgVerdict_touch {W0 : List Nat} {s0 s : State} (h0 : Touch W0 s0 s) (hW : Sub State.chgVerdict_cells W0) :
    Touch W0 s0 (State.chgVerdict s) := by
  have c_State_refreshCell : Sub State.refreshCell_cells W0 := Sub.trans (Sub.of rfl) hW
  have c_State_setReserve : Sub State.setReserve_cells W0 := Sub.trans (Sub.of rfl) hW
  unfold State.chgVerdict
  repeat' first
    | with_reducible assumption
    | (extract_lets +onlyGivenNames xx; guard_hyp xx : State := _; refine Touch.cut (x := xx) ?_ ?_; (on_goal 2 => (intro hh; (try clear_value xx); revert xx; intro _ _)); any_goals (revert xx; intro _))
    | with_reducible refine State.refreshCell_touch ?_ c_State_refreshCell _
    | with_reducible refine State.setReserve_touch ?_ c_State_setReserve _ _
    | with_reducible refine Touch.ite ?_ ?_

def State.postTarget_cells : List Nat :=
  [0xa01, 0xa32, 0x140f]

theorem State.postTarget_touch {W0 : List Nat} {s0 s : State} (h0 : Touch W0 s0 s) (hW : Sub State.postTarget_cells W0) (cause : Nat) (old : Nat) (new : Nat) :
    Touch W0 s0 (State.postTarget s cause old new) := by
  have c_State_post : Sub State.post_cells W0 := Sub.trans (Sub.of rfl) hW
  unfold State.postTarget
  repeat' first
    | with_reducible assumption
    | with_reducible refine State.post_touch ?_ c_State_post _ _

def State.chgTerminate_cells : List Nat :=
  [0x200, 0x300, 0x301, 0x31f, 0x1409]

theorem State.chgTerminate_touch {W0 : List Nat} {s0 s : State} (h0 : Touch W0 s0 s) (hW : Sub State.chgTerminate_cells W0) :
    Touch W0 s0 (State.chgTerminate s) := by
  have c_State_enterPhase : Sub State.enterPhase_cells W0 := Sub.trans (Sub.of rfl) hW
  unfold State.chgTerminate
  repeat' first
    | with_reducible assumption
    | with_reducible refine State.enterPhase_touch ?_ c_State_enterPhase _

def State.targetEnd_cells : List Nat :=
  [0x200, 0x300, 0x301, 0x31f, 0xa01, 0xa32, 0x1409, 0x140f]

theorem State.targetEnd_touch {W0 : List Nat} {s0 s : State} (h0 : Touch W0 s0 s) (hW : Sub State.targetEnd_cells W0) :
    Touch W0 s0 (State.targetEnd s) := by
  have c_State_postTarget : Sub State.postTarget_cells W0 := Sub.trans (Sub.of rfl) hW
  have c_State_chgTerminate : Sub State.chgTerminate_cells W0 := Sub.trans (Sub.of rfl) hW
  have w301 : Writes W0 R.CHG_EVENT := Or.inl (hW.mem rfl)
  unfold State.targetEnd
  repeat' first
    | with_reducible assumption
    | with_reducible refine State.postTarget_touch ?_ c_State_postTarget _ _ _
    | with_reducible refine State.chgTerminate_touch ?_ c_State_chgTerminate
    | with_reducible refine State.event_touch ?_ _ ?_

def State.targetLowered_cells : List Nat :=
  [0x200, 0x300, 0x301, 0x31f, 0xa01, 0xa32, 0x1409, 0x140f]

theorem State.targetLowered_touch {W0 : List Nat} {s0 s : State} (h0 : Touch W0 s0 s) (hW : Sub State.targetLowered_cells W0) :
    Touch W0 s0 (State.targetLowered s) := by
  have c_State_targetEnd : Sub State.targetEnd_cells W0 := Sub.trans (Sub.of rfl) hW
  unfold State.targetLowered
  repeat' first
    | with_reducible assumption
    | with_reducible refine State.targetEnd_touch ?_ c_State_targetEnd
    | with_reducible refine Touch.ite ?_ ?_

def State.setTarget_cells : List Nat :=
  [0x200, 0x300, 0x301, 0x318, 0x31f, 0x405, 0xa01, 0xa32, 0x1409, 0x140f]

theorem State.setTarget_touch {W0 : List Nat} {s0 s : State} (h0 : Touch W0 s0 s) (hW : Sub State.setTarget_cells W0) (new : Nat) (cause : Nat) :
    Touch W0 s0 (State.setTarget s new cause) := by
  have c_State_postTarget : Sub State.postTarget_cells W0 := Sub.trans (Sub.of rfl) hW
  have c_State_refreshPartial : Sub State.refreshPartial_cells W0 := Sub.trans (Sub.of rfl) hW
  have c_State_targetLowered : Sub State.targetLowered_cells W0 := Sub.trans (Sub.of rfl) hW
  have w301 : Writes W0 R.CHG_EVENT := Or.inl (hW.mem rfl)
  have w318 : Writes W0 R.CHG_TGT := Or.inl (hW.mem rfl)
  have w1409 : 0x1409 ∈ W0 := hW.mem rfl
  unfold State.setTarget
  repeat' first
    | with_reducible assumption
    | (extract_lets +onlyGivenNames xx; guard_hyp xx : State := _; refine Touch.cut (x := xx) ?_ ?_; (on_goal 2 => (intro hh; (try clear_value xx); revert xx; intro _ _)); any_goals (revert xx; intro _))
    | (extract_lets +onlyGivenNames xx; (try clear_value xx); revert xx; intro _)
    | with_reducible refine State.postTarget_touch ?_ c_State_postTarget _ _ _
    | with_reducible refine State.refreshPartial_touch ?_ c_State_refreshPartial
    | with_reducible refine State.targetLowered_touch ?_ c_State_targetLowered
    | with_reducible refine State.event_touch ?_ _ ?_
    | with_reducible refine State.setReg_touch ?_ _ _ ?_
    | with_reducible refine Touch.ite ?_ ?_
    | with_reducible refine Touch.update ?_

def State.targetRestored_cells : List Nat :=
  [0x200, 0x300, 0x301, 0x318, 0x31f, 0x405, 0xa01, 0xa32, 0x1409, 0x140f]

theorem State.targetRestored_touch {W0 : List Nat} {s0 s : State} (h0 : Touch W0 s0 s) (hW : Sub State.targetRestored_cells W0) :
    Touch W0 s0 (State.targetRestored s) := by
  have c_State_setTarget : Sub State.setTarget_cells W0 := Sub.trans (Sub.of rfl) hW
  unfold State.targetRestored
  repeat' first
    | with_reducible assumption
    | with_reducible refine State.setTarget_touch ?_ c_State_setTarget _ _

def State.proofClear_cells : List Nat :=
  [0x2, 0x6, 0x200, 0x300, 0x301, 0x31f, 0x400, 0x401, 0x40f, 0x801, 0xa01, 0xa32, 0x1402, 0x1408, 0x1409, 0x140c,
   0x140f, 0x1411]

theorem State.proofClear_touch {W0 : List Nat} {s0 s : State} (h0 : Touch W0 s0 s) (hW : Sub State.proofClear_cells W0) :
    Touch W0 s0 (State.proofClear s) := by
  have c_State_setOverlay : Sub State.setOverlay_cells W0 := Sub.trans (Sub.of rfl) hW
  have c_State_capAbandon : Sub State.capAbandon_cells W0 := Sub.trans (Sub.of rfl) hW
  have c_State_chgRelease : Sub State.chgRelease_cells W0 := fun _ h => nomatch h
  have c_State_refreshBatfet : Sub State.refreshBatfet_cells W0 := Sub.trans (Sub.of rfl) hW
  have w2 : Writes W0 R.SYS_STATE := Or.inl (hW.mem rfl)
  have w300 : Writes W0 R.CHG_STATUS := Or.inl (hW.mem rfl)
  have w140c : 0x140c ∈ W0 := hW.mem rfl
  unfold State.proofClear
  repeat' first
    | with_reducible assumption
    | (extract_lets +onlyGivenNames xx; guard_hyp xx : State := _; refine Touch.cut (x := xx) ?_ ?_; (on_goal 2 => (intro hh; (try clear_value xx); revert xx; intro _ _)); any_goals (revert xx; intro _))
    | (extract_lets +onlyGivenNames xx; (try clear_value xx); revert xx; intro _)
    | with_reducible refine State.setOverlay_touch ?_ c_State_setOverlay _ _ ?_
    | with_reducible refine State.capAbandon_touch ?_ c_State_capAbandon
    | with_reducible refine State.chgRelease_touch ?_ c_State_chgRelease _ ?_
    | with_reducible refine State.refreshBatfet_touch ?_ c_State_refreshBatfet
    | with_reducible refine Touch.update ?_

def State.showOutcome_cells : List Nat :=
  [0x90b]

theorem State.showOutcome_touch {W0 : List Nat} {s0 s : State} (h0 : Touch W0 s0 s) (hW : Sub State.showOutcome_cells W0) (code : Nat) (low : Bool) :
    Touch W0 s0 (State.showOutcome s code low) := by
  have w90b : Writes W0 R.VDT_PROOF := Or.inl (hW.mem rfl)
  unfold State.showOutcome
  repeat' first
    | with_reducible assumption
    | with_reducible refine State.setReg_touch ?_ _ _ ?_

def State.proofRest_cells : List Nat :=
  [0x140c]

theorem State.proofRest_touch {W0 : List Nat} {s0 s : State} (h0 : Touch W0 s0 s) (hW : Sub State.proofRest_cells W0) :
    Touch W0 s0 (State.proofRest s) := by
  have w140c : 0x140c ∈ W0 := hW.mem rfl
  unfold State.proofRest
  repeat' first
    | with_reducible assumption
    | (extract_lets +onlyGivenNames xx; (try clear_value xx); revert xx; intro _)
    | with_reducible refine Touch.ite ?_ ?_
    | split
    | with_reducible refine Touch.update ?_

def State.proofAbandon_cells : List Nat :=
  [0x2, 0x6, 0x200, 0x300, 0x301, 0x31f, 0x400, 0x401, 0x40f, 0x801, 0x901, 0x90b, 0xa01, 0xa32, 0x1402, 0x1408,
   0x1409, 0x140c, 0x140f, 0x1411]

theorem State.proofAbandon_touch {W0 : List Nat} {s0 s : State} (h0 : Touch W0 s0 s) (hW : Sub State.proofAbandon_cells W0) (cause : Nat) :
    Touch W0 s0 (State.proofAbandon s cause) := by
  have c_State_proofClear : Sub State.proofClear_cells W0 := Sub.trans (Sub.of rfl) hW
  have c_State_showOutcome : Sub State.showOutcome_cells W0 := Sub.trans (Sub.of rfl) hW
  have c_State_post : Sub State.post_cells W0 := Sub.trans (Sub.of rfl) hW
  have w901 : Writes W0 R.VDT_EVENT := Or.inl (hW.mem rfl)
  unfold State.proofAbandon
  repeat' first
    | with_reducible assumption
    | (extract_lets +onlyGivenNames xx; guard_hyp xx : State := _; refine Touch.cut (x := xx) ?_ ?_; (on_goal 2 => (intro hh; (try clear_value xx); revert xx; intro _ _)); any_goals (revert xx; intro _))
    | with_reducible refine State.proofClear_touch ?_ c_State_proofClear
    | with_reducible refine State.showOutcome_touch ?_ c_State_showOutcome _ _
    | with_reducible refine State.post_touch ?_ c_State_post _ _
    | with_reducible refine State.event_touch ?_ _ ?_
    | split

def State.proofSkip_cells : List Nat :=
  [0x900, 0x901, 0x90b, 0x914, 0xa01, 0xa32, 0xc20, 0xc21, 0xc25, 0x140c, 0x140d, 0x140f, 0x1413, 0x1415]

theorem State.proofSkip_touch {W0 : List Nat} {s0 s : State} (h0 : Touch W0 s0 s) (hW : Sub State.proofSkip_cells W0) (cause : Nat) :
    Touch W0 s0 (State.proofSkip s cause) := by
  have c_State_showOutcome : Sub State.showOutcome_cells W0 := Sub.trans (Sub.of rfl) hW
  have c_State_post : Sub State.post_cells W0 := Sub.trans (Sub.of rfl) hW
  have c_State_proofRequestsDone : Sub State.proofRequestsDone_cells W0 := Sub.trans (Sub.of rfl) hW
  have w900 : Writes W0 R.VDT_STATUS := Or.inl (hW.mem rfl)
  have w901 : Writes W0 R.VDT_EVENT := Or.inl (hW.mem rfl)
  have w914 : Writes W0 R.VDT_SKIPCNT := Or.inl (hW.mem rfl)
  have w140c : 0x140c ∈ W0 := hW.mem rfl
  unfold State.proofSkip
  repeat' first
    | with_reducible assumption
    | (extract_lets +onlyGivenNames xx; guard_hyp xx : State := _; refine Touch.cut (x := xx) ?_ ?_; (on_goal 2 => (intro hh; (try clear_value xx); revert xx; intro _ _)); any_goals (revert xx; intro _))
    | (extract_lets +onlyGivenNames xx; (try clear_value xx); revert xx; intro _)
    | with_reducible refine State.showOutcome_touch ?_ c_State_showOutcome _ _
    | with_reducible refine State.post_touch ?_ c_State_post _ _
    | with_reducible refine State.proofRequestsDone_touch ?_ c_State_proofRequestsDone
    | with_reducible refine State.bump_touch ?_ _ _ ?_
    | with_reducible refine State.event_touch ?_ _ ?_
    | with_reducible refine State.setFlag_touch ?_ _ _ ?_
    | with_reducible refine Touch.update ?_

end Sys2Proof.Machine
end

