-- ==== Sys2Proof/Laws/TouchAlarmOps.lean ====
section
/-!
SUPPORT. What each operation of Machine/AlarmOps.lean can do: the registers and parts of the state it may write, and nothing
else; the unit, its queue and the form of its stores are kept.
-/

-- proofs are elaborated one after another: many at once ask for more threads than a memory limit allows
set_option Elab.async false

set_option linter.unusedTactic false
set_option linter.unusedVariables false
set_option linter.unusedSimpArgs false
set_option linter.unreachableTactic false
set_option linter.tactic.unusedName false

namespace Sys2Proof.Machine

def State.refreshHorn_cells : List Nat :=
  [0x500, 0x700]

theorem State.refreshHorn_touch {W0 : List Nat} {s0 s : State} (h0 : Touch W0 s0 s) (hW : Sub State.refreshHorn_cells W0) :
    Touch W0 s0 (State.refreshHorn s) := by
  have c_State_refreshHsw : Sub State.refreshHsw_cells W0 := Sub.trans (Sub.of rfl) hW
  have w500 : Writes W0 R.TET_STATUS := Or.inl (hW.mem rfl)
  unfold State.refreshHorn
  repeat' first
    | with_reducible assumption
    | (extract_lets +onlyGivenNames xx; guard_hyp xx : State := _; refine Touch.cut (x := xx) ?_ ?_; (on_goal 2 => (intro hh; (try clear_value xx); revert xx; intro _ _)); any_goals (revert xx; intro _))
    | with_reducible refine State.refreshHsw_touch ?_ c_State_refreshHsw
    | with_reducible refine State.setFlag_touch ?_ _ _ ?_

def State.alarmSuspend_cells : List Nat :=
  [0x200, 0x300, 0x301, 0x31f, 0x400, 0x401, 0x40f, 0x801, 0xa01, 0xa32, 0x1402, 0x1408, 0x1409, 0x140f, 0x1411]

theorem State.alarmSuspend_touch {W0 : List Nat} {s0 s : State} (h0 : Touch W0 s0 s) (hW : Sub State.alarmSuspend_cells W0) :
    Touch W0 s0 (State.alarmSuspend s) := by
  have c_State_chgSuspend : Sub State.chgSuspend_cells W0 := Sub.trans (Sub.of rfl) hW
  have c_State_wbSuspended : Sub State.wbSuspended_cells W0 := Sub.trans (Sub.of rfl) hW
  have w300 : Writes W0 R.CHG_STATUS := Or.inl (hW.mem rfl)
  unfold State.alarmSuspend
  repeat' first
    | with_reducible assumption
    | with_reducible refine State.chgSuspend_touch ?_ c_State_chgSuspend _ ?_
    | with_reducible refine State.wbSuspended_touch ?_ c_State_wbSuspended
    | with_reducible refine Touch.ite ?_ ?_

def State.alarmRelease_cells : List Nat :=
  [0x300, 0x1411]

theorem State.alarmRelease_touch {W0 : List Nat} {s0 s : State} (h0 : Touch W0 s0 s) (hW : Sub State.alarmRelease_cells W0) :
    Touch W0 s0 (State.alarmRelease s) := by
  have c_State_chgRelease : Sub State.chgRelease_cells W0 := fun _ h => nomatch h
  have c_State_wbReleased : Sub State.wbReleased_cells W0 := Sub.trans (Sub.of rfl) hW
  have w300 : Writes W0 R.CHG_STATUS := Or.inl (hW.mem rfl)
  unfold State.alarmRelease
  repeat' first
    | with_reducible assumption
    | with_reducible refine State.chgRelease_touch ?_ c_State_chgRelease _ ?_
    | with_reducible refine State.wbReleased_touch ?_ c_State_wbReleased
    | with_reducible refine Touch.ite ?_ ?_

def State.alarmOn_cells : List Nat :=
  [0x2, 0x6, 0x200, 0x300, 0x301, 0x31f, 0x400, 0x401, 0x40f, 0x500, 0x700, 0x801, 0x901, 0x90b, 0xa01, 0xa32, 0xc20,
   0xc21, 0xc25, 0x1402, 0x1405, 0x1406, 0x1408, 0x1409, 0x140c, 0x140d, 0x140f, 0x1411, 0x1413, 0x1415]

theorem State.alarmOn_touch {W0 : List Nat} {s0 s : State} (h0 : Touch W0 s0 s) (hW : Sub State.alarmOn_cells W0) :
    Touch W0 s0 (State.alarmOn s) := by
  have c_State_alarmSuspend : Sub State.alarmSuspend_cells W0 := Sub.trans (Sub.of rfl) hW
  have c_State_hornStart : Sub State.hornStart_cells W0 := Sub.trans (Sub.of rfl) hW
  have c_State_setOverlay : Sub State.setOverlay_cells W0 := Sub.trans (Sub.of rfl) hW
  have c_State_proofAbandon : Sub State.proofAbandon_cells W0 := Sub.trans (Sub.of rfl) hW
  have c_State_shipCheck : Sub State.shipCheck_cells W0 := Sub.trans (Sub.of rfl) hW
  have c_State_refreshHorn : Sub State.refreshHorn_cells W0 := Sub.trans (Sub.of rfl) hW
  have w2 : Writes W0 R.SYS_STATE := Or.inl (hW.mem rfl)
  have w1408 : 0x1408 ∈ W0 := hW.mem rfl
  unfold State.alarmOn
  repeat' first
    | with_reducible assumption
    | (extract_lets +onlyGivenNames xx; guard_hyp xx : State := _; refine Touch.cut (x := xx) ?_ ?_; (on_goal 2 => (intro hh; (try clear_value xx); revert xx; intro _ _)); any_goals (revert xx; intro _))
    | (extract_lets +onlyGivenNames xx; (try clear_value xx); revert xx; intro _)
    | with_reducible refine State.alarmSuspend_touch ?_ c_State_alarmSuspend
    | with_reducible refine State.hornStart_touch ?_ c_State_hornStart
    | with_reducible refine State.setOverlay_touch ?_ c_State_setOverlay _ _ ?_
    | with_reducible refine State.proofAbandon_touch ?_ c_State_proofAbandon _
    | with_reducible refine State.shipCheck_touch ?_ c_State_shipCheck
    | with_reducible refine State.refreshHorn_touch ?_ c_State_refreshHorn
    | with_reducible refine Touch.ite ?_ ?_
    | with_reducible refine Touch.update ?_

def State.alarmCopy_cells : List Nat :=
  [0x1406, 0x140a]

theorem State.alarmCopy_touch {W0 : List Nat} {s0 s : State} (h0 : Touch W0 s0 s) (hW : Sub State.alarmCopy_cells W0) (start : Nat) :
    Touch W0 s0 (State.alarmCopy s start) := by
  have c_State_postAlarm : Sub State.postAlarm_cells W0 := Sub.trans (Sub.of rfl) hW
  have w1406 : 0x1406 ∈ W0 := hW.mem rfl
  unfold State.alarmCopy
  repeat' first
    | with_reducible assumption
    | (extract_lets +onlyGivenNames xx; guard_hyp xx : State := _; refine Touch.cut (x := xx) ?_ ?_; (on_goal 2 => (intro hh; (try clear_value xx); revert xx; intro _ _)); any_goals (revert xx; intro _))
    | (extract_lets +onlyGivenNames xx; (try clear_value xx); revert xx; intro _)
    | with_reducible refine State.postAlarm_touch ?_ c_State_postAlarm _ _
    | with_reducible refine Touch.update ?_

def State.postAlarmStart_cells : List Nat :=
  [0xa01, 0xa32, 0x140f]

theorem State.postAlarmStart_touch {W0 : List Nat} {s0 s : State} (h0 : Touch W0 s0 s) (hW : Sub State.postAlarmStart_cells W0) (rederived : Bool) :
    Touch W0 s0 (State.postAlarmStart s rederived) := by
  have c_State_post : Sub State.post_cells W0 := Sub.trans (Sub.of rfl) hW
  unfold State.postAlarmStart
  repeat' first
    | with_reducible assumption
    | with_reducible refine State.post_touch ?_ c_State_post _ _

def State.setChannels_cells : List Nat :=
  [0x700]

theorem State.setChannels_touch {W0 : List Nat} {s0 s : State} (h0 : Touch W0 s0 s) (hW : Sub State.setChannels_cells W0) (a : Bool) (b : Bool) :
    Touch W0 s0 (State.setChannels s a b) := by
  have w700 : Writes W0 R.ALM_STATUS := Or.inl (hW.mem rfl)
  unfold State.setChannels
  repeat' first
    | with_reducible assumption
    | with_reducible refine State.setFlag_touch ?_ _ _ ?_

def State.localStart_cells : List Nat :=
  [0x2, 0x6, 0x200, 0x300, 0x301, 0x31f, 0x400, 0x401, 0x40f, 0x500, 0x700, 0x701, 0x801, 0x901, 0x90b, 0xa01, 0xa32,
   0xc20, 0xc21, 0xc25, 0x1402, 0x1405, 0x1406, 0x1408, 0x1409, 0x140a, 0x140c, 0x140d, 0x140f, 0x1411, 0x1413, 0x1415]

theorem State.localStart_touch {W0 : List Nat} {s0 s : State} (h0 : Touch W0 s0 s) (hW : Sub State.localStart_cells W0) (rederived : Bool) :
    Touch W0 s0 (State.localStart s rederived) := by
  have c_State_setChannels : Sub State.setChannels_cells W0 := Sub.trans (Sub.of rfl) hW
  have c_State_alarmOn : Sub State.alarmOn_cells W0 := Sub.trans (Sub.of rfl) hW
  have c_State_alarmCopy : Sub State.alarmCopy_cells W0 := Sub.trans (Sub.of rfl) hW
  have c_State_postAlarmStart : Sub State.postAlarmStart_cells W0 := Sub.trans (Sub.of rfl) hW
  have w700 : Writes W0 R.ALM_STATUS := Or.inl (hW.mem rfl)
  have w701 : Writes W0 R.ALM_EVENT := Or.inl (hW.mem rfl)
  have w1406 : 0x1406 ∈ W0 := hW.mem rfl
  unfold State.localStart
  repeat' first
    | with_reducible assumption
    | (extract_lets +onlyGivenNames xx; guard_hyp xx : State := _; refine Touch.cut (x := xx) ?_ ?_; (on_goal 2 => (intro hh; (try clear_value xx); revert xx; intro _ _)); any_goals (revert xx; intro _))
    | (extract_lets +onlyGivenNames xx; (try clear_value xx); revert xx; intro _)
    | with_reducible refine State.setChannels_touch ?_ c_State_setChannels _ _
    | with_reducible refine State.alarmOn_touch ?_ c_State_alarmOn
    | with_reducible refine State.alarmCopy_touch ?_ c_State_alarmCopy _
    | with_reducible refine State.postAlarmStart_touch ?_ c_State_postAlarmStart _
    | with_reducible refine State.event_touch ?_ _ ?_
    | with_reducible refine State.setField_touch ?_ _ _ ?_
    | with_reducible refine State.setFlag_touch ?_ _ _ ?_
    | with_reducible refine Touch.update ?_

def State.hushEnd_cells : List Nat :=
  [0x500, 0x700, 0x70c, 0x70d, 0x70e, 0x70f, 0x1406]

theorem State.hushEnd_touch {W0 : List Nat} {s0 s : State} (h0 : Touch W0 s0 s) (hW : Sub State.hushEnd_cells W0) :
    Touch W0 s0 (State.hushEnd s) := by
  have c_State_refreshHorn : Sub State.refreshHorn_cells W0 := Sub.trans (Sub.of rfl) hW
  have w700 : Writes W0 R.ALM_STATUS := Or.inl (hW.mem rfl)
  have w70c : Writes W0 R.ALM_HUSHSET0 := Or.inl (hW.mem rfl)
  have w70d : Writes W0 R.ALM_HUSHSET1 := Or.inl (hW.mem rfl)
  have w70e : Writes W0 R.ALM_HUSHSET2 := Or.inl (hW.mem rfl)
  have w70f : Writes W0 R.ALM_HUSHSET3 := Or.inl (hW.mem rfl)
  have w1406 : 0x1406 ∈ W0 := hW.mem rfl
  unfold State.hushEnd
  repeat' first
    | with_reducible assumption
    | (extract_lets +onlyGivenNames xx; guard_hyp xx : State := _; refine Touch.cut (x := xx) ?_ ?_; (on_goal 2 => (intro hh; (try clear_value xx); revert xx; intro _ _)); any_goals (revert xx; intro _))
    | (extract_lets +onlyGivenNames xx; (try clear_value xx); revert xx; intro _)
    | with_reducible refine State.refreshHorn_touch ?_ c_State_refreshHorn
    | with_reducible refine State.clearMap_touch ?_ _ ?_ ?_ ?_ ?_
    | with_reducible refine State.setFlag_touch ?_ _ _ ?_
    | with_reducible refine Touch.update ?_

def State.hornHoldStart_cells : List Nat :=
  [0x1406]

theorem State.hornHoldStart_touch {W0 : List Nat} {s0 s : State} (h0 : Touch W0 s0 s) (hW : Sub State.hornHoldStart_cells W0) :
    Touch W0 s0 (State.hornHoldStart s) := by
  have w1406 : 0x1406 ∈ W0 := hW.mem rfl
  unfold State.hornHoldStart
  repeat' first
    | with_reducible assumption
    | (extract_lets +onlyGivenNames xx; (try clear_value xx); revert xx; intro _)
    | with_reducible refine Touch.ite ?_ ?_
    | with_reducible refine Touch.update ?_

def State.alarmCheck_cells : List Nat :=
  [0x2, 0x6, 0x500, 0x700, 0x70c, 0x70d, 0x70e, 0x70f, 0x1406, 0x140c]

theorem State.alarmCheck_touch {W0 : List Nat} {s0 s : State} (h0 : Touch W0 s0 s) (hW : Sub State.alarmCheck_cells W0) :
    Touch W0 s0 (State.alarmCheck s) := by
  have c_State_refreshHorn : Sub State.refreshHorn_cells W0 := Sub.trans (Sub.of rfl) hW
  have c_State_setOverlay : Sub State.setOverlay_cells W0 := Sub.trans (Sub.of rfl) hW
  have c_State_hushEnd : Sub State.hushEnd_cells W0 := Sub.trans (Sub.of rfl) hW
  have c_State_hornHoldStart : Sub State.hornHoldStart_cells W0 := Sub.trans (Sub.of rfl) hW
  have w2 : Writes W0 R.SYS_STATE := Or.inl (hW.mem rfl)
  unfold State.alarmCheck
  repeat' first
    | with_reducible assumption
    | with_reducible refine State.refreshHorn_touch ?_ c_State_refreshHorn
    | with_reducible refine State.setOverlay_touch ?_ c_State_setOverlay _ _ ?_
    | with_reducible refine State.hushEnd_touch ?_ c_State_hushEnd
    | with_reducible refine State.hornHoldStart_touch ?_ c_State_hornHoldStart
    | with_reducible refine Touch.ite ?_ ?_

def State.localEnd_cells : List Nat :=
  [0x2, 0x6, 0x500, 0x700, 0x701, 0x70c, 0x70d, 0x70e, 0x70f, 0xa01, 0xa32, 0x1406, 0x140a, 0x140c, 0x140f]

theorem State.localEnd_touch {W0 : List Nat} {s0 s : State} (h0 : Touch W0 s0 s) (hW : Sub State.localEnd_cells W0) (cause : Nat) :
    Touch W0 s0 (State.localEnd s cause) := by
  have c_State_setChannels : Sub State.setChannels_cells W0 := Sub.trans (Sub.of rfl) hW
  have c_State_postHush : Sub State.postHush_cells W0 := Sub.trans (Sub.of rfl) hW
  have c_State_post : Sub State.post_cells W0 := Sub.trans (Sub.of rfl) hW
  have c_State_alarmCheck : Sub State.alarmCheck_cells W0 := Sub.trans (Sub.of rfl) hW
  have w700 : Writes W0 R.ALM_STATUS := Or.inl (hW.mem rfl)
  have w701 : Writes W0 R.ALM_EVENT := Or.inl (hW.mem rfl)
  have w1406 : 0x1406 ∈ W0 := hW.mem rfl
  have w140a : 0x140a ∈ W0 := hW.mem rfl
  unfold State.localEnd
  repeat' first
    | with_reducible assumption
    | (extract_lets +onlyGivenNames xx; guard_hyp xx : State := _; refine Touch.cut (x := xx) ?_ ?_; (on_goal 2 => (intro hh; (try clear_value xx); revert xx; intro _ _)); any_goals (revert xx; intro _))
    | (extract_lets +onlyGivenNames xx; (try clear_value xx); revert xx; intro _)
    | with_reducible refine State.setChannels_touch ?_ c_State_setChannels _ _
    | with_reducible refine State.postHush_touch ?_ c_State_postHush _
    | with_reducible refine State.post_touch ?_ c_State_post _ _
    | with_reducible refine State.alarmCheck_touch ?_ c_State_alarmCheck
    | with_reducible refine State.event_touch ?_ _ ?_
    | with_reducible refine State.setFlag_touch ?_ _ _ ?_
    | split
    | with_reducible refine Touch.update ?_

def State.refreshRemote_cells : List Nat :=
  [0x700]

theorem State.refreshRemote_touch {W0 : List Nat} {s0 s : State} (h0 : Touch W0 s0 s) (hW : Sub State.refreshRemote_cells W0) :
    Touch W0 s0 (State.refreshRemote s) := by
  have w700 : Writes W0 R.ALM_STATUS := Or.inl (hW.mem rfl)
  unfold State.refreshRemote
  repeat' first
    | with_reducible assumption
    | with_reducible refine State.setFlag_touch ?_ _ _ ?_

def State.remoteAlarm_cells : List Nat :=
  [0x2, 0x6, 0x200, 0x300, 0x301, 0x31f, 0x400, 0x401, 0x40f, 0x500, 0x700, 0x701, 0x708, 0x709, 0x70a, 0x70b, 0x70c,
   0x70d, 0x70e, 0x70f, 0x710, 0x801, 0x901, 0x90b, 0xa01, 0xa32, 0xc20, 0xc21, 0xc25, 0x1402, 0x1405, 0x1406, 0x1408,
   0x1409, 0x140c, 0x140d, 0x140f, 0x1411, 0x1413, 0x1415]

theorem State.remoteAlarm_touch {W0 : List Nat} {s0 s : State} (h0 : Touch W0 s0 s) (hW : Sub State.remoteAlarm_cells W0) (addr : Nat) (kind : Nat) (data : Byte) :
    Touch W0 s0 (State.remoteAlarm s addr kind data) := by
  have c_State_alarmOn : Sub State.alarmOn_cells W0 := Sub.trans (Sub.of rfl) hW
  have c_State_refreshRemote : Sub State.refreshRemote_cells W0 := Sub.trans (Sub.of rfl) hW
  have c_State_post : Sub State.post_cells W0 := Sub.trans (Sub.of rfl) hW
  have w701 : Writes W0 R.ALM_EVENT := Or.inl (hW.mem rfl)
  have w708 : Writes W0 R.ALM_ORIGIN0 := Or.inl (hW.mem rfl)
  have w709 : Writes W0 R.ALM_ORIGIN1 := Or.inl (hW.mem rfl)
  have w70a : Writes W0 R.ALM_ORIGIN2 := Or.inl (hW.mem rfl)
  have w70b : Writes W0 R.ALM_ORIGIN3 := Or.inl (hW.mem rfl)
  have w70c : Writes W0 R.ALM_HUSHSET0 := Or.inl (hW.mem rfl)
  have w70d : Writes W0 R.ALM_HUSHSET1 := Or.inl (hW.mem rfl)
  have w70e : Writes W0 R.ALM_HUSHSET2 := Or.inl (hW.mem rfl)
  have w70f : Writes W0 R.ALM_HUSHSET3 := Or.inl (hW.mem rfl)
  have w710 : Writes W0 R.ALM_LASTORG := Or.inl (hW.mem rfl)
  have w1406 : 0x1406 ∈ W0 := hW.mem rfl
  unfold State.remoteAlarm
  repeat' first
    | with_reducible assumption
    | (extract_lets +onlyGivenNames xx; guard_hyp xx : State := _; refine Touch.cut (x := xx) ?_ ?_; (on_goal 2 => (intro hh; (try clear_value xx); revert xx; intro _ _)); any_goals (revert xx; intro _))
    | (extract_lets +onlyGivenNames xx; (try clear_value xx); revert xx; intro _)
    | with_reducible refine State.alarmOn_touch ?_ c_State_alarmOn
    | with_reducible refine State.refreshRemote_touch ?_ c_State_refreshRemote
    | with_reducible refine State.post_touch ?_ c_State_post _ _
    | with_reducible refine State.event_touch ?_ _ ?_
    | with_reducible refine State.setMapBit_touch ?_ _ _ _ ?_ ?_ ?_ ?_
    | with_reducible refine State.setReg_touch ?_ _ _ ?_
    | with_reducible refine Touch.ite ?_ ?_
    | with_reducible refine Touch.update ?_

def State.remoteEnd_cells : List Nat :=
  [0x2, 0x6, 0x500, 0x700, 0x701, 0x708, 0x709, 0x70a, 0x70b, 0x70c, 0x70d, 0x70e, 0x70f, 0xa01, 0xa32, 0x1406,
   0x140c, 0x140f]

theorem State.remoteEnd_touch {W0 : List Nat} {s0 s : State} (h0 : Touch W0 s0 s) (hW : Sub State.remoteEnd_cells W0) (addr : Nat) (cause : Nat) :
    Touch W0 s0 (State.remoteEnd s addr cause) := by
  have c_State_refreshRemote : Sub State.refreshRemote_cells W0 := Sub.trans (Sub.of rfl) hW
  have c_State_post : Sub State.post_cells W0 := Sub.trans (Sub.of rfl) hW
  have c_State_alarmCheck : Sub State.alarmCheck_cells W0 := Sub.trans (Sub.of rfl) hW
  have w701 : Writes W0 R.ALM_EVENT := Or.inl (hW.mem rfl)
  have w708 : Writes W0 R.ALM_ORIGIN0 := Or.inl (hW.mem rfl)
  have w709 : Writes W0 R.ALM_ORIGIN1 := Or.inl (hW.mem rfl)
  have w70a : Writes W0 R.ALM_ORIGIN2 := Or.inl (hW.mem rfl)
  have w70b : Writes W0 R.ALM_ORIGIN3 := Or.inl (hW.mem rfl)
  have w1406 : 0x1406 ∈ W0 := hW.mem rfl
  unfold State.remoteEnd
  repeat' first
    | with_reducible assumption
    | (extract_lets +onlyGivenNames xx; guard_hyp xx : State := _; refine Touch.cut (x := xx) ?_ ?_; (on_goal 2 => (intro hh; (try clear_value xx); revert xx; intro _ _)); any_goals (revert xx; intro _))
    | (extract_lets +onlyGivenNames xx; (try clear_value xx); revert xx; intro _)
    | with_reducible refine State.refreshRemote_touch ?_ c_State_refreshRemote
    | with_reducible refine State.post_touch ?_ c_State_post _ _
    | with_reducible refine State.alarmCheck_touch ?_ c_State_alarmCheck
    | with_reducible refine State.event_touch ?_ _ ?_
    | with_reducible refine State.setMapBit_touch ?_ _ _ _ ?_ ?_ ?_ ?_
    | split
    | with_reducible refine Touch.update ?_

def State.applyHush_cells : List Nat :=
  [0x500, 0x700, 0x70c, 0x70d, 0x70e, 0x70f, 0x1406]

theorem State.applyHush_touch {W0 : List Nat} {s0 s : State} (h0 : Touch W0 s0 s) (hW : Sub State.applyHush_cells W0) :
    Touch W0 s0 (State.applyHush s) := by
  have c_State_refreshHorn : Sub State.refreshHorn_cells W0 := Sub.trans (Sub.of rfl) hW
  have w700 : Writes W0 R.ALM_STATUS := Or.inl (hW.mem rfl)
  have w70c : Writes W0 R.ALM_HUSHSET0 := Or.inl (hW.mem rfl)
  have w70d : Writes W0 R.ALM_HUSHSET1 := Or.inl (hW.mem rfl)
  have w70e : Writes W0 R.ALM_HUSHSET2 := Or.inl (hW.mem rfl)
  have w70f : Writes W0 R.ALM_HUSHSET3 := Or.inl (hW.mem rfl)
  have w1406 : 0x1406 ∈ W0 := hW.mem rfl
  unfold State.applyHush
  repeat' first
    | with_reducible assumption
    | (extract_lets +onlyGivenNames xx; guard_hyp xx : State := _; refine Touch.cut (x := xx) ?_ ?_; (on_goal 2 => (intro hh; (try clear_value xx); revert xx; intro _ _)); any_goals (revert xx; intro _))
    | (extract_lets +onlyGivenNames xx; (try clear_value xx); revert xx; intro _)
    | with_reducible refine State.refreshHorn_touch ?_ c_State_refreshHorn
    | with_reducible refine State.setFlag_touch ?_ _ _ ?_
    | (with_reducible intro k hk; (try simp only [List.length_cons, List.length_nil, List.length_map, List.length_range, List.length_replicate] at hk); interval_cases k)
    | with_reducible refine State.setRegs_touch _ _ _ ?_ ?_
    | with_reducible refine Touch.update ?_

def State.postHushRecord_cells : List Nat :=
  [0xa01, 0xa32, 0x140f]

theorem State.postHushRecord_touch {W0 : List Nat} {s0 s : State} (h0 : Touch W0 s0 s) (hW : Sub State.postHushRecord_cells W0) (dir : Nat) (sender : Nat) :
    Touch W0 s0 (State.postHushRecord s dir sender) := by
  have c_State_post : Sub State.post_cells W0 := Sub.trans (Sub.of rfl) hW
  unfold State.postHushRecord
  repeat' first
    | with_reducible assumption
    | with_reducible refine State.post_touch ?_ c_State_post _ _

def State.hushPress_cells : List Nat :=
  [0x500, 0x700, 0x701, 0x70c, 0x70d, 0x70e, 0x70f, 0x1406, 0x140a]

theorem State.hushPress_touch {W0 : List Nat} {s0 s : State} (h0 : Touch W0 s0 s) (hW : Sub State.hushPress_cells W0) :
    Touch W0 s0 (State.hushPress s) := by
  have c_State_postHush : Sub State.postHush_cells W0 := Sub.trans (Sub.of rfl) hW
  have c_State_applyHush : Sub State.applyHush_cells W0 := Sub.trans (Sub.of rfl) hW
  have w701 : Writes W0 R.ALM_EVENT := Or.inl (hW.mem rfl)
  have w1406 : 0x1406 ∈ W0 := hW.mem rfl
  unfold State.hushPress
  repeat' first
    | with_reducible assumption
    | (extract_lets +onlyGivenNames xx; guard_hyp xx : State := _; refine Touch.cut (x := xx) ?_ ?_; (on_goal 2 => (intro hh; (try clear_value xx); revert xx; intro _ _)); any_goals (revert xx; intro _))
    | (extract_lets +onlyGivenNames xx; (try clear_value xx); revert xx; intro _)
    | with_reducible refine State.postHush_touch ?_ c_State_postHush _
    | with_reducible refine State.applyHush_touch ?_ c_State_applyHush
    | with_reducible refine State.event_touch ?_ _ ?_
    | with_reducible refine Touch.ite ?_ ?_
    | with_reducible refine Touch.update ?_

def State.discFault_cells : List Nat :=
  [0x6, 0x200, 0x300, 0x301, 0x31f, 0x400, 0x401, 0x40f, 0x500, 0x700, 0x701, 0x801, 0xa01, 0xa32, 0xc20, 0xc21,
   0xc25, 0x1402, 0x1405, 0x1406, 0x1408, 0x1409, 0x140d, 0x140f, 0x1411, 0x1413, 0x1415]

theorem State.discFault_touch {W0 : List Nat} {s0 s : State} (h0 : Touch W0 s0 s) (hW : Sub State.discFault_cells W0) (c : Channel) (tdisc : Nat) :
    Touch W0 s0 (State.discFault s c tdisc) := by
  have c_State_setChannels : Sub State.setChannels_cells W0 := Sub.trans (Sub.of rfl) hW
  have c_State_alarmSuspend : Sub State.alarmSuspend_cells W0 := Sub.trans (Sub.of rfl) hW
  have c_State_hornStart : Sub State.hornStart_cells W0 := Sub.trans (Sub.of rfl) hW
  have c_State_post : Sub State.post_cells W0 := Sub.trans (Sub.of rfl) hW
  have c_State_shipCheck : Sub State.shipCheck_cells W0 := Sub.trans (Sub.of rfl) hW
  have c_State_refreshHorn : Sub State.refreshHorn_cells W0 := Sub.trans (Sub.of rfl) hW
  have w700 : Writes W0 R.ALM_STATUS := Or.inl (hW.mem rfl)
  have w701 : Writes W0 R.ALM_EVENT := Or.inl (hW.mem rfl)
  have w1406 : 0x1406 ∈ W0 := hW.mem rfl
  unfold State.discFault
  repeat' first
    | with_reducible assumption
    | (extract_lets +onlyGivenNames xx; guard_hyp xx : State := _; refine Touch.cut (x := xx) ?_ ?_; (on_goal 2 => (intro hh; (try clear_value xx); revert xx; intro _ _)); any_goals (revert xx; intro _))
    | (extract_lets +onlyGivenNames xx; (try clear_value xx); revert xx; intro _)
    | with_reducible refine State.setChannels_touch ?_ c_State_setChannels _ _
    | with_reducible refine State.alarmSuspend_touch ?_ c_State_alarmSuspend
    | with_reducible refine State.hornStart_touch ?_ c_State_hornStart
    | with_reducible refine State.post_touch ?_ c_State_post _ _
    | with_reducible refine State.shipCheck_touch ?_ c_State_shipCheck
    | with_reducible refine State.refreshHorn_touch ?_ c_State_refreshHorn
    | with_reducible refine State.event_touch ?_ _ ?_
    | with_reducible refine State.setFlag_touch ?_ _ _ ?_
    | split
    | with_reducible refine Touch.update ?_

def State.discAgreed_cells : List Nat :=
  [0x1406]

theorem State.discAgreed_touch {W0 : List Nat} {s0 s : State} (h0 : Touch W0 s0 s) (hW : Sub State.discAgreed_cells W0) :
    Touch W0 s0 (State.discAgreed s) := by
  have w1406 : 0x1406 ∈ W0 := hW.mem rfl
  unfold State.discAgreed
  repeat' first
    | with_reducible assumption
    | (extract_lets +onlyGivenNames xx; (try clear_value xx); revert xx; intro _)
    | with_reducible refine Touch.update ?_

def State.discEnd_cells : List Nat :=
  [0x700, 0xa01, 0xa32, 0x1406, 0x140f]

theorem State.discEnd_touch {W0 : List Nat} {s0 s : State} (h0 : Touch W0 s0 s) (hW : Sub State.discEnd_cells W0) :
    Touch W0 s0 (State.discEnd s) := by
  have c_State_post : Sub State.post_cells W0 := Sub.trans (Sub.of rfl) hW
  have c_State_hornHoldStart : Sub State.hornHoldStart_cells W0 := Sub.trans (Sub.of rfl) hW
  have w700 : Writes W0 R.ALM_STATUS := Or.inl (hW.mem rfl)
  have w1406 : 0x1406 ∈ W0 := hW.mem rfl
  unfold State.discEnd
  repeat' first
    | with_reducible assumption
    | (extract_lets +onlyGivenNames xx; guard_hyp xx : State := _; refine Touch.cut (x := xx) ?_ ?_; (on_goal 2 => (intro hh; (try clear_value xx); revert xx; intro _ _)); any_goals (revert xx; intro _))
    | (extract_lets +onlyGivenNames xx; (try clear_value xx); revert xx; intro _)
    | with_reducible refine State.post_touch ?_ c_State_post _ _
    | with_reducible refine State.hornHoldStart_touch ?_ c_State_hornHoldStart
    | with_reducible refine State.setFlag_touch ?_ _ _ ?_
    | split
    | with_reducible refine Touch.update ?_

def State.alarmRederive_cells : List Nat :=
  [0x2, 0xa01, 0xa32, 0x140f]

theorem State.alarmRederive_touch {W0 : List Nat} {s0 s : State} (h0 : Touch W0 s0 s) (hW : Sub State.alarmRederive_cells W0) :
    Touch W0 s0 (State.alarmRederive s) := by
  have c_State_postAlarmStart : Sub State.postAlarmStart_cells W0 := Sub.trans (Sub.of rfl) hW
  have w2 : Writes W0 R.SYS_STATE := Or.inl (hW.mem rfl)
  unfold State.alarmRederive
  repeat' first
    | with_reducible assumption
    | (extract_lets +onlyGivenNames xx; guard_hyp xx : State := _; refine Touch.cut (x := xx) ?_ ?_; (on_goal 2 => (intro hh; (try clear_value xx); revert xx; intro _ _)); any_goals (revert xx; intro _))
    | with_reducible refine State.postAlarmStart_touch ?_ c_State_postAlarmStart _
    | with_reducible refine State.setFlag_touch ?_ _ _ ?_
    | with_reducible refine Touch.ite ?_ ?_

end Sys2Proof.Machine
end

