-- ==== Sys2Proof/Laws/TouchMarketOps.lean ====
section
/-!
SUPPORT. What each operation of Machine/MarketOps.lean can do: the registers and parts of the state it may write, and nothing
else; the unit, its queue and the form of its stores are kept.
-/

-- proofs are elaborated one after another: many at once ask for more threads than a memory limit allows
set_option Elab.async false

set_option linter.unusedTactic false
set_option linter.unusedVariables false
set_option linter.unusedSimpArgs false
set_option linter.unreachableTactic false
set_option linter.tactic.unusedName false

namespace Sys2Proof.Machine

def State.noteDraw_cells : List Nat :=
  [0xa01, 0xa32, 0x140b, 0x140f, 0x1417]

theorem State.noteDraw_touch {W0 : List Nat} {s0 s : State} (h0 : Touch W0 s0 s) (hW : Sub State.noteDraw_cells W0) (a : Nat) (i : Nat) (tent : Bool) (valid : Bool) :
    Touch W0 s0 (State.noteDraw s a i tent valid) := by
  have c_State_stallBytes : Sub State.stallBytes_cells W0 := Sub.trans (Sub.of rfl) hW
  unfold State.noteDraw
  repeat' first
    | with_reducible assumption
    | with_reducible refine State.stallBytes_touch ?_ c_State_stallBytes _ _ _

def State.setDraw_cells : List Nat :=
  [0x601, 0x610, 0x611, 0x612, 0x613, 0x614, 0x615, 0x616, 0x617, 0xa01, 0xa32, 0x140b, 0x140f, 0x1417]

theorem State.setDraw_touch {W0 : List Nat} {s0 s : State} (h0 : Touch W0 s0 s) (hW : Sub State.setDraw_cells W0) (i : Nat) (a : Nat) (tent : Bool) (power : Nat) (offG : Nat) (bidG : Nat) :
    Touch W0 s0 (State.setDraw s i a tent power offG bidG) := by
  have c_State_noteDraw : Sub State.noteDraw_cells W0 := Sub.trans (Sub.of rfl) hW
  have w601 : Writes W0 R.MKT_EVENT := Or.inl (hW.mem rfl)
  have w610 : Writes W0 R.MKT_DRAW0 := Or.inl (hW.mem rfl)
  have w611 : Writes W0 R.MKT_DRAW1 := Or.inl (hW.mem rfl)
  have w612 : Writes W0 R.MKT_DRAW2 := Or.inl (hW.mem rfl)
  have w613 : Writes W0 R.MKT_DRAW3 := Or.inl (hW.mem rfl)
  have w614 : Writes W0 R.MKT_DRAWG0 := Or.inl (hW.mem rfl)
  have w615 : Writes W0 R.MKT_DRAWG1 := Or.inl (hW.mem rfl)
  have w616 : Writes W0 R.MKT_DRAWG2 := Or.inl (hW.mem rfl)
  have w617 : Writes W0 R.MKT_DRAWG3 := Or.inl (hW.mem rfl)
  have w140b : 0x140b ∈ W0 := hW.mem rfl
  unfold State.setDraw
  repeat' first
    | with_reducible assumption
    | (extract_lets +onlyGivenNames xx; guard_hyp xx : State := _; refine Touch.cut (x := xx) ?_ ?_; (on_goal 2 => (intro hh; (try clear_value xx); revert xx; intro _ _)); any_goals (revert xx; intro _))
    | (extract_lets +onlyGivenNames xx; (try clear_value xx); revert xx; intro _)
    | with_reducible refine State.noteDraw_touch ?_ c_State_noteDraw _ _ _ _
    | with_reducible refine State.event_touch ?_ _ ?_
    | with_reducible refine State.setReg_touch ?_ _ _ ?_
    | (unfold drawGReg; refine Writes.four ?_ ?_ ?_ ?_)
    | (unfold drawReg; refine Writes.four ?_ ?_ ?_ ?_)
    | with_reducible refine Touch.update ?_

def State.clearDraw_cells : List Nat :=
  [0x601, 0x610, 0x611, 0x612, 0x613, 0x614, 0x615, 0x616, 0x617, 0xa01, 0xa32, 0x140b, 0x140f, 0x1417]

theorem State.clearDraw_touch {W0 : List Nat} {s0 s : State} (h0 : Touch W0 s0 s) (hW : Sub State.clearDraw_cells W0) (i : Nat) :
    Touch W0 s0 (State.clearDraw s i) := by
  have c_State_noteDraw : Sub State.noteDraw_cells W0 := Sub.trans (Sub.of rfl) hW
  have c_State_post : Sub State.post_cells W0 := Sub.trans (Sub.of rfl) hW
  have w601 : Writes W0 R.MKT_EVENT := Or.inl (hW.mem rfl)
  have w610 : Writes W0 R.MKT_DRAW0 := Or.inl (hW.mem rfl)
  have w611 : Writes W0 R.MKT_DRAW1 := Or.inl (hW.mem rfl)
  have w612 : Writes W0 R.MKT_DRAW2 := Or.inl (hW.mem rfl)
  have w613 : Writes W0 R.MKT_DRAW3 := Or.inl (hW.mem rfl)
  have w614 : Writes W0 R.MKT_DRAWG0 := Or.inl (hW.mem rfl)
  have w615 : Writes W0 R.MKT_DRAWG1 := Or.inl (hW.mem rfl)
  have w616 : Writes W0 R.MKT_DRAWG2 := Or.inl (hW.mem rfl)
  have w617 : Writes W0 R.MKT_DRAWG3 := Or.inl (hW.mem rfl)
  have w140b : 0x140b ∈ W0 := hW.mem rfl
  unfold State.clearDraw
  repeat' first
    | with_reducible assumption
    | (extract_lets +onlyGivenNames xx; guard_hyp xx : State := _; refine Touch.cut (x := xx) ?_ ?_; (on_goal 2 => (intro hh; (try clear_value xx); revert xx; intro _ _)); any_goals (revert xx; intro _))
    | (extract_lets +onlyGivenNames xx; (try clear_value xx); revert xx; intro _)
    | with_reducible refine State.noteDraw_touch ?_ c_State_noteDraw _ _ _ _
    | with_reducible refine State.post_touch ?_ c_State_post _ _
    | with_reducible refine State.event_touch ?_ _ ?_
    | with_reducible refine State.setReg_touch ?_ _ _ ?_
    | with_reducible refine Touch.ite ?_ ?_
    | (unfold drawGReg; refine Writes.four ?_ ?_ ?_ ?_)
    | (unfold drawReg; refine Writes.four ?_ ?_ ?_ ?_)
    | with_reducible refine Touch.update ?_

def State.clearDraws_cells : List Nat :=
  [0x601, 0x610, 0x611, 0x612, 0x613, 0x614, 0x615, 0x616, 0x617, 0xa01, 0xa32, 0x140b, 0x140f, 0x1417]

theorem State.clearDraws_touch {W0 : List Nat} {s0 s : State} (h0 : Touch W0 s0 s) (hW : Sub State.clearDraws_cells W0) (a : Nat) :
    Touch W0 s0 (State.clearDraws s a) := by
  have c_State_clearDraw : Sub State.clearDraw_cells W0 := Sub.trans (Sub.of rfl) hW
  unfold State.clearDraws
  repeat' first
    | with_reducible assumption
    | with_reducible refine State.clearDraw_touch ?_ c_State_clearDraw _
    | with_reducible refine Touch.foldl ?_ ?_
    | with_reducible intro _ _
    | with_reducible intro _

def State.filterLower_cells : List Nat :=
  [0x601, 0x610, 0x611, 0x612, 0x613]

theorem State.filterLower_touch {W0 : List Nat} {s0 s : State} (h0 : Touch W0 s0 s) (hW : Sub State.filterLower_cells W0) (f : Frame) :
    Touch W0 s0 (State.filterLower s f) := by
  have w601 : Writes W0 R.MKT_EVENT := Or.inl (hW.mem rfl)
  have w610 : Writes W0 R.MKT_DRAW0 := Or.inl (hW.mem rfl)
  have w611 : Writes W0 R.MKT_DRAW1 := Or.inl (hW.mem rfl)
  have w612 : Writes W0 R.MKT_DRAW2 := Or.inl (hW.mem rfl)
  have w613 : Writes W0 R.MKT_DRAW3 := Or.inl (hW.mem rfl)
  unfold State.filterLower
  repeat' first
    | with_reducible assumption
    | (extract_lets +onlyGivenNames xx; (try clear_value xx); revert xx; intro _)
    | with_reducible refine State.event_touch ?_ _ ?_
    | with_reducible refine State.setReg_touch ?_ _ _ ?_
    | with_reducible refine Touch.foldl ?_ ?_
    | with_reducible refine Touch.ite ?_ ?_
    | with_reducible intro _ _
    | with_reducible intro _
    | (unfold drawReg; refine Writes.four ?_ ?_ ?_ ?_)

def State.marketFilter_cells : List Nat :=
  [0x601, 0x610, 0x611, 0x612, 0x613, 0x614, 0x615, 0x616, 0x617, 0xa01, 0xa32, 0x140b, 0x140f, 0x1417]

theorem State.marketFilter_touch {W0 : List Nat} {s0 s : State} (h0 : Touch W0 s0 s) (hW : Sub State.marketFilter_cells W0) (f : Frame) :
    Touch W0 s0 (State.marketFilter s f) := by
  have c_State_clearDraw : Sub State.clearDraw_cells W0 := Sub.trans (Sub.of rfl) hW
  have c_State_filterLower : Sub State.filterLower_cells W0 := Sub.trans (Sub.of rfl) hW
  have w601 : Writes W0 R.MKT_EVENT := Or.inl (hW.mem rfl)
  unfold State.marketFilter
  repeat' first
    | with_reducible assumption
    | (extract_lets +onlyGivenNames xx; guard_hyp xx : State := _; refine Touch.cut (x := xx) ?_ ?_; (on_goal 2 => (intro hh; (try clear_value xx); revert xx; intro _ _)); any_goals (revert xx; intro _))
    | with_reducible refine State.clearDraw_touch ?_ c_State_clearDraw _
    | with_reducible refine State.filterLower_touch ?_ c_State_filterLower _
    | with_reducible refine State.event_touch ?_ _ ?_
    | with_reducible refine Touch.foldl ?_ ?_
    | with_reducible intro _ _
    | with_reducible intro _

def State.setPeerMarket_cells : List Nat :=
  [0x140b]

theorem State.setPeerMarket_touch {W0 : List Nat} {s0 s : State} (h0 : Touch W0 s0 s) (hW : Sub State.setPeerMarket_cells W0) (p : PeerMarket) :
    Touch W0 s0 (State.setPeerMarket s p) := by
  have w140b : 0x140b ∈ W0 := hW.mem rfl
  unfold State.setPeerMarket
  repeat' first
    | with_reducible assumption
    | (extract_lets +onlyGivenNames xx; (try clear_value xx); revert xx; intro _)
    | with_reducible refine Touch.update ?_

def State.setBid_cells : List Nat :=
  [0x140b]

theorem State.setBid_touch {W0 : List Nat} {s0 s : State} (h0 : Touch W0 s0 s) (hW : Sub State.setBid_cells W0) (x : OwnBid) :
    Touch W0 s0 (State.setBid s x) := by
  have w140b : 0x140b ∈ W0 := hW.mem rfl
  unfold State.setBid
  repeat' first
    | with_reducible assumption
    | (extract_lets +onlyGivenNames xx; (try clear_value xx); revert xx; intro _)
    | with_reducible refine Touch.update ?_

def State.dropBid_cells : List Nat :=
  [0xa01, 0xa32, 0x140b, 0x140f, 0x1417]

theorem State.dropBid_touch {W0 : List Nat} {s0 s : State} (h0 : Touch W0 s0 s) (hW : Sub State.dropBid_cells W0) (a : Nat) (st : Nat) :
    Touch W0 s0 (State.dropBid s a st) := by
  have c_State_stallBytes : Sub State.stallBytes_cells W0 := Sub.trans (Sub.of rfl) hW
  have w140b : 0x140b ∈ W0 := hW.mem rfl
  unfold State.dropBid
  repeat' first
    | with_reducible assumption
    | (extract_lets +onlyGivenNames xx; (try clear_value xx); revert xx; intro _)
    | with_reducible refine State.stallBytes_touch ?_ c_State_stallBytes _ _ _
    | split
    | with_reducible refine Touch.update ?_

def State.setOffer_cells : List Nat :=
  [0x607, 0x608, 0xa01, 0xa32, 0x140b, 0x140f, 0x1417]

theorem State.setOffer_touch {W0 : List Nat} {s0 s : State} (h0 : Touch W0 s0 s) (hW : Sub State.setOffer_cells W0) (pOff : Nat) (pFree : Nat) :
    Touch W0 s0 (State.setOffer s pOff pFree) := by
  have c_State_stallBytes : Sub State.stallBytes_cells W0 := Sub.trans (Sub.of rfl) hW
  have w607 : Writes W0 R.MKT_OFFER_P := Or.inl (hW.mem rfl)
  have w608 : Writes W0 R.MKT_OFFER_FREE := Or.inl (hW.mem rfl)
  unfold State.setOffer
  repeat' first
    | with_reducible assumption
    | (extract_lets +onlyGivenNames xx; guard_hyp xx : State := _; refine Touch.cut (x := xx) ?_ ?_; (on_goal 2 => (intro hh; (try clear_value xx); revert xx; intro _ _)); any_goals (revert xx; intro _))
    | with_reducible refine State.stallBytes_touch ?_ c_State_stallBytes _ _ _
    | with_reducible refine State.setReg_touch ?_ _ _ ?_

def State.refreshFree_cells : List Nat :=
  [0x607, 0x608, 0xa01, 0xa32, 0x140b, 0x140f, 0x1417]

theorem State.refreshFree_touch {W0 : List Nat} {s0 s : State} (h0 : Touch W0 s0 s) (hW : Sub State.refreshFree_cells W0) :
    Touch W0 s0 (State.refreshFree s) := by
  have c_State_setOffer : Sub State.setOffer_cells W0 := Sub.trans (Sub.of rfl) hW
  unfold State.refreshFree
  repeat' first
    | with_reducible assumption
    | with_reducible refine State.setOffer_touch ?_ c_State_setOffer _ _
    | with_reducible refine Touch.ite ?_ ?_

def State.dropInbid_cells : List Nat :=
  [0x607, 0x608, 0xa01, 0xa32, 0x140b, 0x140f, 0x1417]

theorem State.dropInbid_touch {W0 : List Nat} {s0 s : State} (h0 : Touch W0 s0 s) (hW : Sub State.dropInbid_cells W0) (a : Nat) (st : Nat) :
    Touch W0 s0 (State.dropInbid s a st) := by
  have c_State_stallBytes : Sub State.stallBytes_cells W0 := Sub.trans (Sub.of rfl) hW
  have c_State_refreshFree : Sub State.refreshFree_cells W0 := Sub.trans (Sub.of rfl) hW
  have w140b : 0x140b ∈ W0 := hW.mem rfl
  unfold State.dropInbid
  repeat' first
    | with_reducible assumption
    | (extract_lets +onlyGivenNames xx; guard_hyp xx : State := _; refine Touch.cut (x := xx) ?_ ?_; (on_goal 2 => (intro hh; (try clear_value xx); revert xx; intro _ _)); any_goals (revert xx; intro _))
    | (extract_lets +onlyGivenNames xx; (try clear_value xx); revert xx; intro _)
    | with_reducible refine State.stallBytes_touch ?_ c_State_stallBytes _ _ _
    | with_reducible refine State.refreshFree_touch ?_ c_State_refreshFree
    | with_reducible refine Touch.ite ?_ ?_
    | with_reducible refine Touch.update ?_

def State.raiseIsrc_cells : List Nat :=
  [0x407]

theorem State.raiseIsrc_touch {W0 : List Nat} {s0 s : State} (h0 : Touch W0 s0 s) (hW : Sub State.raiseIsrc_cells W0) :
    Touch W0 s0 (State.raiseIsrc s) := by
  have w407 : Writes W0 R.CONV_TET_ISRC := Or.inl (hW.mem rfl)
  unfold State.raiseIsrc
  repeat' first
    | with_reducible assumption
    | with_reducible refine State.setReg_touch ?_ _ _ ?_
    | with_reducible refine Touch.ite ?_ ?_

def State.peerOfferEnd_cells : List Nat :=
  [0x601, 0x610, 0x611, 0x612, 0x613, 0x614, 0x615, 0x616, 0x617, 0xa01, 0xa32, 0x140b, 0x140f, 0x1417]

theorem State.peerOfferEnd_touch {W0 : List Nat} {s0 s : State} (h0 : Touch W0 s0 s) (hW : Sub State.peerOfferEnd_cells W0) (a : Nat) (st : Nat) :
    Touch W0 s0 (State.peerOfferEnd s a st) := by
  have c_State_stallBytes : Sub State.stallBytes_cells W0 := Sub.trans (Sub.of rfl) hW
  have c_State_setPeerMarket : Sub State.setPeerMarket_cells W0 := Sub.trans (Sub.of rfl) hW
  have c_State_dropBid : Sub State.dropBid_cells W0 := Sub.trans (Sub.of rfl) hW
  have c_State_clearDraws : Sub State.clearDraws_cells W0 := Sub.trans (Sub.of rfl) hW
  unfold State.peerOfferEnd
  repeat' first
    | with_reducible assumption
    | (extract_lets +onlyGivenNames xx; guard_hyp xx : State := _; refine Touch.cut (x := xx) ?_ ?_; (on_goal 2 => (intro hh; (try clear_value xx); revert xx; intro _ _)); any_goals (revert xx; intro _))
    | (extract_lets +onlyGivenNames xx; (try clear_value xx); revert xx; intro _)
    | with_reducible refine State.stallBytes_touch ?_ c_State_stallBytes _ _ _
    | with_reducible refine State.setPeerMarket_touch ?_ c_State_setPeerMarket _
    | with_reducible refine State.dropBid_touch ?_ c_State_dropBid _ _
    | with_reducible refine State.clearDraws_touch ?_ c_State_clearDraws _
    | with_reducible refine Touch.ite ?_ ?_

def State.peerBidEnd_cells : List Nat :=
  [0x607, 0x608, 0xa01, 0xa32, 0x140b, 0x140f, 0x1417]

theorem State.peerBidEnd_touch {W0 : List Nat} {s0 s : State} (h0 : Touch W0 s0 s) (hW : Sub State.peerBidEnd_cells W0) (a : Nat) (st : Nat) :
    Touch W0 s0 (State.peerBidEnd s a st) := by
  have c_State_dropInbid : Sub State.dropInbid_cells W0 := Sub.trans (Sub.of rfl) hW
  have c_State_setPeerMarket : Sub State.setPeerMarket_cells W0 := Sub.trans (Sub.of rfl) hW
  unfold State.peerBidEnd
  repeat' first
    | with_reducible assumption
    | (extract_lets +onlyGivenNames xx; (try clear_value xx); revert xx; intro _)
    | with_reducible refine State.dropInbid_touch ?_ c_State_dropInbid _ _
    | with_reducible refine State.setPeerMarket_touch ?_ c_State_setPeerMarket _

def State.peerSafe_cells : List Nat :=
  [0x601, 0x607, 0x608, 0x610, 0x611, 0x612, 0x613, 0x614, 0x615, 0x616, 0x617, 0xa01, 0xa32, 0x140b, 0x140f, 0x1417]

theorem State.peerSafe_touch {W0 : List Nat} {s0 s : State} (h0 : Touch W0 s0 s) (hW : Sub State.peerSafe_cells W0) (a : Nat) :
    Touch W0 s0 (State.peerSafe s a) := by
  have c_State_peerOfferEnd : Sub State.peerOfferEnd_cells W0 := Sub.trans (Sub.of rfl) hW
  have c_State_peerBidEnd : Sub State.peerBidEnd_cells W0 := Sub.trans (Sub.of rfl) hW
  unfold State.peerSafe
  repeat' first
    | with_reducible assumption
    | with_reducible refine State.peerOfferEnd_touch ?_ c_State_peerOfferEnd _ _
    | with_reducible refine State.peerBidEnd_touch ?_ c_State_peerBidEnd _ _

def State.staleFrame_cells : List Nat :=
  [0x601, 0x625, 0xa01, 0xa32, 0x140b, 0x140f, 0x1417]

theorem State.staleFrame_touch {W0 : List Nat} {s0 s : State} (h0 : Touch W0 s0 s) (hW : Sub State.staleFrame_cells W0) (a : Nat) :
    Touch W0 s0 (State.staleFrame s a) := by
  have c_State_stallCount : Sub State.stallCount_cells W0 := Sub.trans (Sub.of rfl) hW
  have c_State_tally : Sub State.tally_cells W0 := Sub.trans (Sub.of rfl) hW
  have w601 : Writes W0 R.MKT_EVENT := Or.inl (hW.mem rfl)
  have w625 : Writes W0 R.MKT_STALECNT := Or.inl (hW.mem rfl)
  unfold State.staleFrame
  repeat' first
    | with_reducible assumption
    | with_reducible refine State.stallCount_touch ?_ c_State_stallCount _ _ _
    | with_reducible refine State.tally_touch ?_ c_State_tally _
    | with_reducible refine State.bump_touch ?_ _ _ ?_
    | with_reducible refine State.event_touch ?_ _ ?_

def State.bidClock_cells : List Nat :=
  [0x140b]

theorem State.bidClock_touch {W0 : List Nat} {s0 s : State} (h0 : Touch W0 s0 s) (hW : Sub State.bidClock_cells W0) (a : Nat) :
    Touch W0 s0 (State.bidClock s a) := by
  have c_State_setBid : Sub State.setBid_cells W0 := Sub.trans (Sub.of rfl) hW
  unfold State.bidClock
  repeat' first
    | with_reducible assumption
    | with_reducible refine State.setBid_touch ?_ c_State_setBid _
    | with_reducible refine Touch.ite ?_ ?_
    | split

def State.takeOffer_cells : List Nat :=
  [0x601, 0x610, 0x611, 0x612, 0x613, 0x614, 0x615, 0x616, 0x617, 0xa01, 0xa32, 0x140b, 0x140f, 0x1417]

theorem State.takeOffer_touch {W0 : List Nat} {s0 s : State} (h0 : Touch W0 s0 s) (hW : Sub State.takeOffer_cells W0) (f : Frame) :
    Touch W0 s0 (State.takeOffer s f) := by
  have c_State_peerOfferEnd : Sub State.peerOfferEnd_cells W0 := Sub.trans (Sub.of rfl) hW
  have c_State_stallBytes : Sub State.stallBytes_cells W0 := Sub.trans (Sub.of rfl) hW
  have c_State_bidClock : Sub State.bidClock_cells W0 := Sub.trans (Sub.of rfl) hW
  have c_State_setPeerMarket : Sub State.setPeerMarket_cells W0 := Sub.trans (Sub.of rfl) hW
  have w601 : Writes W0 R.MKT_EVENT := Or.inl (hW.mem rfl)
  unfold State.takeOffer
  repeat' first
    | with_reducible assumption
    | (extract_lets +onlyGivenNames xx; guard_hyp xx : State := _; refine Touch.cut (x := xx) ?_ ?_; (on_goal 2 => (intro hh; (try clear_value xx); revert xx; intro _ _)); any_goals (revert xx; intro _))
    | (extract_lets +onlyGivenNames xx; (try clear_value xx); revert xx; intro _)
    | with_reducible refine State.peerOfferEnd_touch ?_ c_State_peerOfferEnd _ _
    | with_reducible refine State.stallBytes_touch ?_ c_State_stallBytes _ _ _
    | with_reducible refine State.bidClock_touch ?_ c_State_bidClock _
    | with_reducible refine State.setPeerMarket_touch ?_ c_State_setPeerMarket _
    | with_reducible refine State.event_touch ?_ _ ?_
    | with_reducible refine Touch.ite ?_ ?_

def State.takeBid_cells : List Nat :=
  [0x407, 0x601, 0x607, 0x608, 0xa01, 0xa32, 0x140b, 0x140f, 0x1417]

theorem State.takeBid_touch {W0 : List Nat} {s0 s : State} (h0 : Touch W0 s0 s) (hW : Sub State.takeBid_cells W0) (f : Frame) :
    Touch W0 s0 (State.takeBid s f) := by
  have c_State_stallBytes : Sub State.stallBytes_cells W0 := Sub.trans (Sub.of rfl) hW
  have c_State_dropInbid : Sub State.dropInbid_cells W0 := Sub.trans (Sub.of rfl) hW
  have c_State_setPeerMarket : Sub State.setPeerMarket_cells W0 := Sub.trans (Sub.of rfl) hW
  have c_State_raiseIsrc : Sub State.raiseIsrc_cells W0 := Sub.trans (Sub.of rfl) hW
  have w601 : Writes W0 R.MKT_EVENT := Or.inl (hW.mem rfl)
  have w140b : 0x140b ∈ W0 := hW.mem rfl
  unfold State.takeBid
  repeat' first
    | with_reducible assumption
    | (extract_lets +onlyGivenNames xx; guard_hyp xx : State := _; refine Touch.cut (x := xx) ?_ ?_; (on_goal 2 => (intro hh; (try clear_value xx); revert xx; intro _ _)); any_goals (revert xx; intro _))
    | (extract_lets +onlyGivenNames xx; (try clear_value xx); revert xx; intro _)
    | with_reducible refine State.stallBytes_touch ?_ c_State_stallBytes _ _ _
    | with_reducible refine State.dropInbid_touch ?_ c_State_dropInbid _ _
    | with_reducible refine State.setPeerMarket_touch ?_ c_State_setPeerMarket _
    | with_reducible refine State.raiseIsrc_touch ?_ c_State_raiseIsrc
    | with_reducible refine State.event_touch ?_ _ ?_
    | with_reducible refine Touch.ite ?_ ?_
    | with_reducible refine Touch.update ?_

def State.takeFirm_cells : List Nat :=
  [0x601, 0x610, 0x611, 0x612, 0x613, 0x614, 0x615, 0x616, 0x617, 0xa01, 0xa32, 0x140b, 0x140f, 0x1417]

theorem State.takeFirm_touch {W0 : List Nat} {s0 s : State} (h0 : Touch W0 s0 s) (hW : Sub State.takeFirm_cells W0) (f : Frame) :
    Touch W0 s0 (State.takeFirm s f) := by
  have c_State_dropBid : Sub State.dropBid_cells W0 := Sub.trans (Sub.of rfl) hW
  have c_State_clearDraws : Sub State.clearDraws_cells W0 := Sub.trans (Sub.of rfl) hW
  have c_State_setBid : Sub State.setBid_cells W0 := Sub.trans (Sub.of rfl) hW
  have c_State_stallBytes : Sub State.stallBytes_cells W0 := Sub.trans (Sub.of rfl) hW
  have c_State_setDraw : Sub State.setDraw_cells W0 := Sub.trans (Sub.of rfl) hW
  have w601 : Writes W0 R.MKT_EVENT := Or.inl (hW.mem rfl)
  unfold State.takeFirm
  repeat' first
    | with_reducible assumption
    | (extract_lets +onlyGivenNames xx; guard_hyp xx : State := _; refine Touch.cut (x := xx) ?_ ?_; (on_goal 2 => (intro hh; (try clear_value xx); revert xx; intro _ _)); any_goals (revert xx; intro _))
    | (extract_lets +onlyGivenNames xx; (try clear_value xx); revert xx; intro _)
    | with_reducible refine State.dropBid_touch ?_ c_State_dropBid _ _
    | with_reducible refine State.clearDraws_touch ?_ c_State_clearDraws _
    | with_reducible refine State.setBid_touch ?_ c_State_setBid _
    | with_reducible refine State.stallBytes_touch ?_ c_State_stallBytes _ _ _
    | with_reducible refine State.setDraw_touch ?_ c_State_setDraw _ _ _ _ _ _
    | with_reducible refine State.event_touch ?_ _ ?_
    | with_reducible refine Touch.ite ?_ ?_
    | split

def State.takeWithdraw_cells : List Nat :=
  [0x601, 0x607, 0x608, 0x610, 0x611, 0x612, 0x613, 0x614, 0x615, 0x616, 0x617, 0x625, 0xa01, 0xa32, 0x140b, 0x140f,
   0x1417]

theorem State.takeWithdraw_touch {W0 : List Nat} {s0 s : State} (h0 : Touch W0 s0 s) (hW : Sub State.takeWithdraw_cells W0) (f : Frame) :
    Touch W0 s0 (State.takeWithdraw s f) := by
  have c_State_stallCount : Sub State.stallCount_cells W0 := Sub.trans (Sub.of rfl) hW
  have c_State_staleFrame : Sub State.staleFrame_cells W0 := Sub.trans (Sub.of rfl) hW
  have c_State_peerOfferEnd : Sub State.peerOfferEnd_cells W0 := Sub.trans (Sub.of rfl) hW
  have c_State_stallBytes : Sub State.stallBytes_cells W0 := Sub.trans (Sub.of rfl) hW
  have c_State_peerBidEnd : Sub State.peerBidEnd_cells W0 := Sub.trans (Sub.of rfl) hW
  have c_State_dropBid : Sub State.dropBid_cells W0 := Sub.trans (Sub.of rfl) hW
  have c_State_clearDraws : Sub State.clearDraws_cells W0 := Sub.trans (Sub.of rfl) hW
  unfold State.takeWithdraw
  repeat' first
    | with_reducible assumption
    | (extract_lets +onlyGivenNames xx; guard_hyp xx : State := _; refine Touch.cut (x := xx) ?_ ?_; (on_goal 2 => (intro hh; (try clear_value xx); revert xx; intro _ _)); any_goals (revert xx; intro _))
    | (extract_lets +onlyGivenNames xx; (try clear_value xx); revert xx; intro _)
    | with_reducible refine State.stallCount_touch ?_ c_State_stallCount _ _ _
    | with_reducible refine State.staleFrame_touch ?_ c_State_staleFrame _
    | with_reducible refine State.peerOfferEnd_touch ?_ c_State_peerOfferEnd _ _
    | with_reducible refine State.stallBytes_touch ?_ c_State_stallBytes _ _ _
    | with_reducible refine State.peerBidEnd_touch ?_ c_State_peerBidEnd _ _
    | with_reducible refine State.dropBid_touch ?_ c_State_dropBid _ _
    | with_reducible refine State.clearDraws_touch ?_ c_State_clearDraws _
    | with_reducible refine Touch.ite ?_ ?_
    | split

def State.marketFrame_cells : List Nat :=
  [0x407, 0x601, 0x607, 0x608, 0x610, 0x611, 0x612, 0x613, 0x614, 0x615, 0x616, 0x617, 0x625, 0xa01, 0xa32, 0x140b,
   0x140f, 0x1417]

theorem State.marketFrame_touch {W0 : List Nat} {s0 s : State} (h0 : Touch W0 s0 s) (hW : Sub State.marketFrame_cells W0) (f : Frame) :
    Touch W0 s0 (State.marketFrame s f) := by
  have c_State_staleFrame : Sub State.staleFrame_cells W0 := Sub.trans (Sub.of rfl) hW
  have c_State_takeOffer : Sub State.takeOffer_cells W0 := Sub.trans (Sub.of rfl) hW
  have c_State_takeBid : Sub State.takeBid_cells W0 := Sub.trans (Sub.of rfl) hW
  have c_State_takeFirm : Sub State.takeFirm_cells W0 := Sub.trans (Sub.of rfl) hW
  have c_State_takeWithdraw : Sub State.takeWithdraw_cells W0 := Sub.trans (Sub.of rfl) hW
  unfold State.marketFrame
  repeat' first
    | with_reducible assumption
    | (extract_lets +onlyGivenNames xx; (try clear_value xx); revert xx; intro _)
    | with_reducible refine State.staleFrame_touch ?_ c_State_staleFrame _
    | with_reducible refine State.takeOffer_touch ?_ c_State_takeOffer _
    | with_reducible refine State.takeBid_touch ?_ c_State_takeBid _
    | with_reducible refine State.takeFirm_touch ?_ c_State_takeFirm _
    | with_reducible refine State.takeWithdraw_touch ?_ c_State_takeWithdraw _
    | with_reducible refine Touch.ite ?_ ?_
    | split

def State.receive_cells : List Nat :=
  [0x500, 0x501, 0x504, 0x505, 0x506, 0x507, 0x509, 0x512, 0x518, 0xa01, 0xa32, 0x140a, 0x140b, 0x140f, 0x1417]

theorem State.receive_touch {W0 : List Nat} {s0 s : State} (h0 : Touch W0 s0 s) (hW : Sub State.receive_cells W0) (f : Frame) (c : Carrier) (effect : State → State) (hf : ∀ t, Touch W0 s0 t → Touch W0 s0 (effect t)) :
    Touch W0 s0 (State.receive s f c effect) := by
  have c_State_acceptFrame : Sub State.acceptFrame_cells W0 := Sub.trans (Sub.of rfl) hW
  have c_State_addrConflict : Sub State.addrConflict_cells W0 := Sub.trans (Sub.of rfl) hW
  have c_State_discardFrame : Sub State.discardFrame_cells W0 := Sub.trans (Sub.of rfl) hW
  unfold State.receive
  repeat' first
    | with_reducible assumption
    | (extract_lets +onlyGivenNames xx; guard_hyp xx : State := _; refine Touch.cut (x := xx) ?_ ?_; (on_goal 2 => (intro hh; (try clear_value xx); revert xx; intro _ _)); any_goals (revert xx; intro _))
    | with_reducible refine State.acceptFrame_touch ?_ c_State_acceptFrame _ _
    | with_reducible refine State.addrConflict_touch ?_ c_State_addrConflict _
    | with_reducible refine State.discardFrame_touch ?_ c_State_discardFrame
    | with_reducible refine Touch.ite ?_ ?_
    | refine hf _ ?_

def State.firmwareFrame_cells : List Nat :=
  [0x407, 0x501, 0x601, 0x607, 0x608, 0x610, 0x611, 0x612, 0x613, 0x614, 0x615, 0x616, 0x617, 0x625, 0xa01, 0xa32,
   0x140a, 0x140b, 0x140f, 0x1417]

theorem State.firmwareFrame_touch {W0 : List Nat} {s0 s : State} (h0 : Touch W0 s0 s) (hW : Sub State.firmwareFrame_cells W0) (f : Frame) :
    Touch W0 s0 (State.firmwareFrame s f) := by
  have c_State_peerSafe : Sub State.peerSafe_cells W0 := Sub.trans (Sub.of rfl) hW
  have c_State_peerOfferEnd : Sub State.peerOfferEnd_cells W0 := Sub.trans (Sub.of rfl) hW
  have c_State_postTx : Sub State.postTx_cells W0 := Sub.trans (Sub.of rfl) hW
  have c_State_marketFrame : Sub State.marketFrame_cells W0 := Sub.trans (Sub.of rfl) hW
  unfold State.firmwareFrame
  repeat' first
    | with_reducible assumption
    | (extract_lets +onlyGivenNames xx; (try clear_value xx); revert xx; intro _)
    | with_reducible refine State.peerSafe_touch ?_ c_State_peerSafe _
    | with_reducible refine State.peerOfferEnd_touch ?_ c_State_peerOfferEnd _ _
    | with_reducible refine State.postTx_touch ?_ c_State_postTx _ _ _
    | with_reducible refine State.marketFrame_touch ?_ c_State_marketFrame _
    | with_reducible refine Touch.ite ?_ ?_
    | split

def State.drainRx_cells : List Nat :=
  [0x407, 0x501, 0x601, 0x607, 0x608, 0x610, 0x611, 0x612, 0x613, 0x614, 0x615, 0x616, 0x617, 0x625, 0xa01, 0xa32,
   0x140a, 0x140b, 0x140f, 0x1417]

theorem State.drainRx_touch {W0 : List Nat} {s0 s : State} (h0 : Touch W0 s0 s) (hW : Sub State.drainRx_cells W0) :
    Touch W0 s0 (State.drainRx s) := by
  have c_State_firmwareFrame : Sub State.firmwareFrame_cells W0 := Sub.trans (Sub.of rfl) hW
  have w140a : 0x140a ∈ W0 := hW.mem rfl
  unfold State.drainRx
  repeat' first
    | with_reducible assumption
    | (extract_lets +onlyGivenNames xx; (try clear_value xx); revert xx; intro _)
    | with_reducible refine State.firmwareFrame_touch ?_ c_State_firmwareFrame _
    | with_reducible refine Touch.foldl ?_ ?_
    | with_reducible refine Touch.ite ?_ ?_
    | with_reducible intro _ _
    | with_reducible intro _
    | with_reducible refine Touch.update ?_

def State.rxEnter_cells : List Nat :=
  [0x407, 0x501, 0x515, 0x601, 0x607, 0x608, 0x610, 0x611, 0x612, 0x613, 0x614, 0x615, 0x616, 0x617, 0x625, 0xa01,
   0xa32, 0x140a, 0x140b, 0x140f, 0x1417]

theorem State.rxEnter_touch {W0 : List Nat} {s0 s : State} (h0 : Touch W0 s0 s) (hW : Sub State.rxEnter_cells W0) (f : Frame) :
    Touch W0 s0 (State.rxEnter s f) := by
  have c_State_marketFilter : Sub State.marketFilter_cells W0 := Sub.trans (Sub.of rfl) hW
  have c_State_tally : Sub State.tally_cells W0 := Sub.trans (Sub.of rfl) hW
  have c_State_drainRx : Sub State.drainRx_cells W0 := Sub.trans (Sub.of rfl) hW
  have w501 : Writes W0 R.TET_EVENT := Or.inl (hW.mem rfl)
  have w515 : Writes W0 R.TET_ERRCNT5 := Or.inl (hW.mem rfl)
  have w140a : 0x140a ∈ W0 := hW.mem rfl
  unfold State.rxEnter
  repeat' first
    | with_reducible assumption
    | (extract_lets +onlyGivenNames xx; guard_hyp xx : State := _; refine Touch.cut (x := xx) ?_ ?_; (on_goal 2 => (intro hh; (try clear_value xx); revert xx; intro _ _)); any_goals (revert xx; intro _))
    | (extract_lets +onlyGivenNames xx; (try clear_value xx); revert xx; intro _)
    | with_reducible refine State.marketFilter_touch ?_ c_State_marketFilter _
    | with_reducible refine State.tally_touch ?_ c_State_tally _
    | with_reducible refine State.drainRx_touch ?_ c_State_drainRx
    | with_reducible refine State.bump_touch ?_ _ _ ?_
    | with_reducible refine State.event_touch ?_ _ ?_
    | with_reducible refine Touch.ite ?_ ?_
    | with_reducible refine Touch.update ?_

def State.sendOffer_cells : List Nat :=
  [0x501, 0x601, 0x607, 0x608, 0xa01, 0xa32, 0x140a, 0x140b, 0x140f, 0x1417]

theorem State.sendOffer_touch {W0 : List Nat} {s0 s : State} (h0 : Touch W0 s0 s) (hW : Sub State.sendOffer_cells W0) :
    Touch W0 s0 (State.sendOffer s) := by
  have c_State_setOffer : Sub State.setOffer_cells W0 := Sub.trans (Sub.of rfl) hW
  have c_State_postTx : Sub State.postTx_cells W0 := Sub.trans (Sub.of rfl) hW
  have w601 : Writes W0 R.MKT_EVENT := Or.inl (hW.mem rfl)
  have w140b : 0x140b ∈ W0 := hW.mem rfl
  unfold State.sendOffer
  repeat' first
    | with_reducible assumption
    | (extract_lets +onlyGivenNames xx; guard_hyp xx : State := _; refine Touch.cut (x := xx) ?_ ?_; (on_goal 2 => (intro hh; (try clear_value xx); revert xx; intro _ _)); any_goals (revert xx; intro _))
    | (extract_lets +onlyGivenNames xx; (try clear_value xx); revert xx; intro _)
    | with_reducible refine State.setOffer_touch ?_ c_State_setOffer _ _
    | with_reducible refine State.postTx_touch ?_ c_State_postTx _ _ _
    | with_reducible refine State.event_touch ?_ _ ?_
    | with_reducible refine Touch.ite ?_ ?_
    | with_reducible refine Touch.update ?_

def State.sendBid_cells : List Nat :=
  [0x501, 0x140a, 0x140b]

theorem State.sendBid_touch {W0 : List Nat} {s0 s : State} (h0 : Touch W0 s0 s) (hW : Sub State.sendBid_cells W0) (x : OwnBid) :
    Touch W0 s0 (State.sendBid s x) := by
  have c_State_postTx : Sub State.postTx_cells W0 := Sub.trans (Sub.of rfl) hW
  have c_State_setBid : Sub State.setBid_cells W0 := Sub.trans (Sub.of rfl) hW
  unfold State.sendBid
  repeat' first
    | with_reducible assumption
    | with_reducible refine State.postTx_touch ?_ c_State_postTx _ _ _
    | with_reducible refine State.setBid_touch ?_ c_State_setBid _

def State.postMktOffer_cells : List Nat :=
  [0xa01, 0xa32, 0x140f]

theorem State.postMktOffer_touch {W0 : List Nat} {s0 s : State} (h0 : Touch W0 s0 s) (hW : Sub State.postMktOffer_cells W0) (kind : Nat) (p : Nat) (pFree : Nat) (flags : Byte) (party : Nat) :
    Touch W0 s0 (State.postMktOffer s kind p pFree flags party) := by
  have c_State_post : Sub State.post_cells W0 := Sub.trans (Sub.of rfl) hW
  unfold State.postMktOffer
  repeat' first
    | with_reducible assumption
    | with_reducible refine State.post_touch ?_ c_State_post _ _

def State.postMktWithdraw_cells : List Nat :=
  [0xa01, 0xa32, 0x140f]

theorem State.postMktWithdraw_touch {W0 : List Nat} {s0 s : State} (h0 : Touch W0 s0 s) (hW : Sub State.postMktWithdraw_cells W0) (kind : Nat) (party : Nat) :
    Touch W0 s0 (State.postMktWithdraw s kind party) := by
  have c_State_post : Sub State.post_cells W0 := Sub.trans (Sub.of rfl) hW
  unfold State.postMktWithdraw
  repeat' first
    | with_reducible assumption
    | with_reducible refine State.post_touch ?_ c_State_post _ _

def State.withdrawOffer_cells : List Nat :=
  [0x501, 0x607, 0x608, 0xa01, 0xa32, 0x140a, 0x140b, 0x140f, 0x1417]

theorem State.withdrawOffer_touch {W0 : List Nat} {s0 s : State} (h0 : Touch W0 s0 s) (hW : Sub State.withdrawOffer_cells W0) (kind : Nat) :
    Touch W0 s0 (State.withdrawOffer s kind) := by
  have c_State_postTx : Sub State.postTx_cells W0 := Sub.trans (Sub.of rfl) hW
  have c_State_postMktWithdraw : Sub State.postMktWithdraw_cells W0 := Sub.trans (Sub.of rfl) hW
  have c_State_dropInbid : Sub State.dropInbid_cells W0 := Sub.trans (Sub.of rfl) hW
  have c_State_stallBytes : Sub State.stallBytes_cells W0 := Sub.trans (Sub.of rfl) hW
  have w607 : Writes W0 R.MKT_OFFER_P := Or.inl (hW.mem rfl)
  have w608 : Writes W0 R.MKT_OFFER_FREE := Or.inl (hW.mem rfl)
  have w140b : 0x140b ∈ W0 := hW.mem rfl
  unfold State.withdrawOffer
  repeat' first
    | with_reducible assumption
    | (extract_lets +onlyGivenNames xx; guard_hyp xx : State := _; refine Touch.cut (x := xx) ?_ ?_; (on_goal 2 => (intro hh; (try clear_value xx); revert xx; intro _ _)); any_goals (revert xx; intro _))
    | (extract_lets +onlyGivenNames xx; (try clear_value xx); revert xx; intro _)
    | with_reducible refine State.postTx_touch ?_ c_State_postTx _ _ _
    | with_reducible refine State.postMktWithdraw_touch ?_ c_State_postMktWithdraw _ _
    | with_reducible refine State.dropInbid_touch ?_ c_State_dropInbid _ _
    | with_reducible refine State.stallBytes_touch ?_ c_State_stallBytes _ _ _
    | with_reducible refine State.setReg_touch ?_ _ _ ?_
    | with_reducible refine Touch.foldl ?_ ?_
    | with_reducible refine Touch.ite ?_ ?_
    | with_reducible intro _ _
    | with_reducible intro _
    | with_reducible refine Touch.update ?_

def State.withdrawBid_cells : List Nat :=
  [0x501, 0x601, 0x610, 0x611, 0x612, 0x613, 0x614, 0x615, 0x616, 0x617, 0xa01, 0xa32, 0x140a, 0x140b, 0x140f, 0x1417]

theorem State.withdrawBid_touch {W0 : List Nat} {s0 s : State} (h0 : Touch W0 s0 s) (hW : Sub State.withdrawBid_cells W0) (kind : Nat) (a : Nat) :
    Touch W0 s0 (State.withdrawBid s kind a) := by
  have c_State_postTx : Sub State.postTx_cells W0 := Sub.trans (Sub.of rfl) hW
  have c_State_postMktWithdraw : Sub State.postMktWithdraw_cells W0 := Sub.trans (Sub.of rfl) hW
  have c_State_dropBid : Sub State.dropBid_cells W0 := Sub.trans (Sub.of rfl) hW
  have c_State_clearDraws : Sub State.clearDraws_cells W0 := Sub.trans (Sub.of rfl) hW
  unfold State.withdrawBid
  repeat' first
    | with_reducible assumption
    | (extract_lets +onlyGivenNames xx; guard_hyp xx : State := _; refine Touch.cut (x := xx) ?_ ?_; (on_goal 2 => (intro hh; (try clear_value xx); revert xx; intro _ _)); any_goals (revert xx; intro _))
    | with_reducible refine State.postTx_touch ?_ c_State_postTx _ _ _
    | with_reducible refine State.postMktWithdraw_touch ?_ c_State_postMktWithdraw _ _
    | with_reducible refine State.dropBid_touch ?_ c_State_dropBid _ _
    | with_reducible refine State.clearDraws_touch ?_ c_State_clearDraws _
    | split

def State.withdrawBids_cells : List Nat :=
  [0x501, 0x601, 0x610, 0x611, 0x612, 0x613, 0x614, 0x615, 0x616, 0x617, 0xa01, 0xa32, 0x140a, 0x140b, 0x140f, 0x1417]

theorem State.withdrawBids_touch {W0 : List Nat} {s0 s : State} (h0 : Touch W0 s0 s) (hW : Sub State.withdrawBids_cells W0) (kind : Nat) :
    Touch W0 s0 (State.withdrawBids s kind) := by
  have c_State_withdrawBid : Sub State.withdrawBid_cells W0 := Sub.trans (Sub.of rfl) hW
  unfold State.withdrawBids
  repeat' first
    | with_reducible assumption
    | with_reducible refine State.withdrawBid_touch ?_ c_State_withdrawBid _ _
    | with_reducible refine Touch.foldl ?_ ?_
    | with_reducible intro _ _
    | with_reducible intro _

def State.withdrawGrant_cells : List Nat :=
  [0x501, 0x607, 0x608, 0xa01, 0xa32, 0x140a, 0x140b, 0x140f, 0x1417]

theorem State.withdrawGrant_touch {W0 : List Nat} {s0 s : State} (h0 : Touch W0 s0 s) (hW : Sub State.withdrawGrant_cells W0) (a : Nat) :
    Touch W0 s0 (State.withdrawGrant s a) := by
  have c_State_postTx : Sub State.postTx_cells W0 := Sub.trans (Sub.of rfl) hW
  have c_State_postMktWithdraw : Sub State.postMktWithdraw_cells W0 := Sub.trans (Sub.of rfl) hW
  have c_State_dropInbid : Sub State.dropInbid_cells W0 := Sub.trans (Sub.of rfl) hW
  unfold State.withdrawGrant
  repeat' first
    | with_reducible assumption
    | (extract_lets +onlyGivenNames xx; guard_hyp xx : State := _; refine Touch.cut (x := xx) ?_ ?_; (on_goal 2 => (intro hh; (try clear_value xx); revert xx; intro _ _)); any_goals (revert xx; intro _))
    | with_reducible refine State.postTx_touch ?_ c_State_postTx _ _ _
    | with_reducible refine State.postMktWithdraw_touch ?_ c_State_postMktWithdraw _ _
    | with_reducible refine State.dropInbid_touch ?_ c_State_dropInbid _ _
    | with_reducible refine Touch.ite ?_ ?_

def State.sendFirm_cells : List Nat :=
  [0x407, 0x501, 0x607, 0x608, 0xa01, 0xa32, 0x140a, 0x140b, 0x140f, 0x1417]

theorem State.sendFirm_touch {W0 : List Nat} {s0 s : State} (h0 : Touch W0 s0 s) (hW : Sub State.sendFirm_cells W0) (a : Nat) (power : Nat) :
    Touch W0 s0 (State.sendFirm s a power) := by
  have c_State_postTx : Sub State.postTx_cells W0 := Sub.trans (Sub.of rfl) hW
  have c_State_raiseIsrc : Sub State.raiseIsrc_cells W0 := Sub.trans (Sub.of rfl) hW
  have c_State_post : Sub State.post_cells W0 := Sub.trans (Sub.of rfl) hW
  have c_State_stallBytes : Sub State.stallBytes_cells W0 := Sub.trans (Sub.of rfl) hW
  have c_State_refreshFree : Sub State.refreshFree_cells W0 := Sub.trans (Sub.of rfl) hW
  have w140b : 0x140b ∈ W0 := hW.mem rfl
  unfold State.sendFirm
  repeat' first
    | with_reducible assumption
    | (extract_lets +onlyGivenNames xx; guard_hyp xx : State := _; refine Touch.cut (x := xx) ?_ ?_; (on_goal 2 => (intro hh; (try clear_value xx); revert xx; intro _ _)); any_goals (revert xx; intro _))
    | (extract_lets +onlyGivenNames xx; (try clear_value xx); revert xx; intro _)
    | with_reducible refine State.postTx_touch ?_ c_State_postTx _ _ _
    | with_reducible refine State.raiseIsrc_touch ?_ c_State_raiseIsrc
    | with_reducible refine State.post_touch ?_ c_State_post _ _
    | with_reducible refine State.stallBytes_touch ?_ c_State_stallBytes _ _ _
    | with_reducible refine State.refreshFree_touch ?_ c_State_refreshFree
    | with_reducible refine Touch.ite ?_ ?_
    | with_reducible refine Touch.update ?_

def State.displace_cells : List Nat :=
  [0x407, 0x501, 0x607, 0x608, 0xa01, 0xa32, 0x140a, 0x140b, 0x140f, 0x1417]

theorem State.displace_touch {W0 : List Nat} {s0 s : State} (h0 : Touch W0 s0 s) (hW : Sub State.displace_cells W0)
    (need : Nat) (l : List Nat) : Touch W0 s0 (s.displace need l) := by
  induction l generalizing s with
  | nil => exact h0
  | cons a l ih =>
    unfold State.displace
    extract_lets
    split
    · exact ih h0
    · exact ih (State.sendFirm_touch h0 (Sub.trans (Sub.of rfl) hW) _ _)

def State.oldBidWithdraw_cells : List Nat :=
  [0x501, 0xa01, 0xa32, 0x140a, 0x140b, 0x140f, 0x1417]

theorem State.oldBidWithdraw_touch {W0 : List Nat} {s0 s : State} (h0 : Touch W0 s0 s) (hW : Sub State.oldBidWithdraw_cells W0) (a : Nat) :
    Touch W0 s0 (State.oldBidWithdraw s a) := by
  have c_State_postTx : Sub State.postTx_cells W0 := Sub.trans (Sub.of rfl) hW
  have c_State_postMktWithdraw : Sub State.postMktWithdraw_cells W0 := Sub.trans (Sub.of rfl) hW
  have c_State_stallBytes : Sub State.stallBytes_cells W0 := Sub.trans (Sub.of rfl) hW
  unfold State.oldBidWithdraw
  repeat' first
    | with_reducible assumption
    | with_reducible refine State.postTx_touch ?_ c_State_postTx _ _ _
    | with_reducible refine State.postMktWithdraw_touch ?_ c_State_postMktWithdraw _ _
    | with_reducible refine State.stallBytes_touch ?_ c_State_stallBytes _ _ _
    | with_reducible refine Touch.ite ?_ ?_

def State.coldWithdraw_cells : List Nat :=
  [0x501, 0x607, 0x608, 0xa01, 0xa32, 0x140a, 0x140b, 0x140f, 0x1417]

theorem State.coldWithdraw_touch {W0 : List Nat} {s0 s : State} (h0 : Touch W0 s0 s) (hW : Sub State.coldWithdraw_cells W0) :
    Touch W0 s0 (State.coldWithdraw s) := by
  have c_State_withdrawOffer : Sub State.withdrawOffer_cells W0 := Sub.trans (Sub.of rfl) hW
  have c_State_dropInbid : Sub State.dropInbid_cells W0 := Sub.trans (Sub.of rfl) hW
  have c_State_oldBidWithdraw : Sub State.oldBidWithdraw_cells W0 := Sub.trans (Sub.of rfl) hW
  have w140b : 0x140b ∈ W0 := hW.mem rfl
  unfold State.coldWithdraw
  repeat' first
    | with_reducible assumption
    | (extract_lets +onlyGivenNames xx; guard_hyp xx : State := _; refine Touch.cut (x := xx) ?_ ?_; (on_goal 2 => (intro hh; (try clear_value xx); revert xx; intro _ _)); any_goals (revert xx; intro _))
    | (extract_lets +onlyGivenNames xx; (try clear_value xx); revert xx; intro _)
    | with_reducible refine State.withdrawOffer_touch ?_ c_State_withdrawOffer _
    | with_reducible refine State.dropInbid_touch ?_ c_State_dropInbid _ _
    | with_reducible refine State.oldBidWithdraw_touch ?_ c_State_oldBidWithdraw _
    | with_reducible refine Touch.foldl ?_ ?_
    | with_reducible refine Touch.ite ?_ ?_
    | with_reducible intro _ _
    | with_reducible intro _
    | with_reducible refine Touch.update ?_

def State.offerAgain_cells : List Nat :=
  [0x407, 0x501, 0x601, 0x607, 0x608, 0xa01, 0xa32, 0x140a, 0x140b, 0x140f, 0x1417]

theorem State.offerAgain_touch {W0 : List Nat} {s0 s : State} (h0 : Touch W0 s0 s) (hW : Sub State.offerAgain_cells W0) :
    Touch W0 s0 (State.offerAgain s) := by
  have c_State_sendOffer : Sub State.sendOffer_cells W0 := Sub.trans (Sub.of rfl) hW
  have c_State_raiseIsrc : Sub State.raiseIsrc_cells W0 := Sub.trans (Sub.of rfl) hW
  have w140b : 0x140b ∈ W0 := hW.mem rfl
  unfold State.offerAgain
  repeat' first
    | with_reducible assumption
    | (extract_lets +onlyGivenNames xx; (try clear_value xx); revert xx; intro _)
    | with_reducible refine State.sendOffer_touch ?_ c_State_sendOffer
    | with_reducible refine State.raiseIsrc_touch ?_ c_State_raiseIsrc
    | with_reducible refine Touch.ite ?_ ?_
    | with_reducible refine Touch.update ?_

def State.marketRestart_cells : List Nat :=
  [0x407, 0x501, 0x601, 0x607, 0x608, 0xa01, 0xa32, 0x140a, 0x140b, 0x140f, 0x1417]

theorem State.marketRestart_touch {W0 : List Nat} {s0 s : State} (h0 : Touch W0 s0 s) (hW : Sub State.marketRestart_cells W0) :
    Touch W0 s0 (State.marketRestart s) := by
  have c_State_coldWithdraw : Sub State.coldWithdraw_cells W0 := Sub.trans (Sub.of rfl) hW
  have c_State_sendBid : Sub State.sendBid_cells W0 := Sub.trans (Sub.of rfl) hW
  have c_State_offerAgain : Sub State.offerAgain_cells W0 := Sub.trans (Sub.of rfl) hW
  have w140b : 0x140b ∈ W0 := hW.mem rfl
  unfold State.marketRestart
  repeat' first
    | with_reducible assumption
    | (extract_lets +onlyGivenNames xx; guard_hyp xx : State := _; refine Touch.cut (x := xx) ?_ ?_; (on_goal 2 => (intro hh; (try clear_value xx); revert xx; intro _ _)); any_goals (revert xx; intro _))
    | (extract_lets +onlyGivenNames xx; (try clear_value xx); revert xx; intro _)
    | with_reducible refine State.coldWithdraw_touch ?_ c_State_coldWithdraw
    | with_reducible refine State.sendBid_touch ?_ c_State_sendBid _
    | with_reducible refine State.offerAgain_touch ?_ c_State_offerAgain
    | with_reducible refine Touch.foldl ?_ ?_
    | with_reducible refine Touch.ite ?_ ?_
    | with_reducible intro _ _
    | with_reducible intro _
    | with_reducible refine Touch.update ?_

def State.marketKeep_cells : List Nat :=
  [0x501, 0x601, 0x607, 0x608, 0x610, 0x611, 0x612, 0x613, 0x614, 0x615, 0x616, 0x617, 0xa01, 0xa32, 0x140a, 0x140b,
   0x140f, 0x1417]

theorem State.marketKeep_touch {W0 : List Nat} {s0 s : State} (h0 : Touch W0 s0 s) (hW : Sub State.marketKeep_cells W0) :
    Touch W0 s0 (State.marketKeep s) := by
  have c_State_withdrawOffer : Sub State.withdrawOffer_cells W0 := Sub.trans (Sub.of rfl) hW
  have c_State_withdrawBids : Sub State.withdrawBids_cells W0 := Sub.trans (Sub.of rfl) hW
  have w140b : 0x140b ∈ W0 := hW.mem rfl
  unfold State.marketKeep
  repeat' first
    | with_reducible assumption
    | (extract_lets +onlyGivenNames xx; guard_hyp xx : State := _; refine Touch.cut (x := xx) ?_ ?_; (on_goal 2 => (intro hh; (try clear_value xx); revert xx; intro _ _)); any_goals (revert xx; intro _))
    | (extract_lets +onlyGivenNames xx; (try clear_value xx); revert xx; intro _)
    | with_reducible refine State.withdrawOffer_touch ?_ c_State_withdrawOffer _
    | with_reducible refine State.withdrawBids_touch ?_ c_State_withdrawBids _
    | with_reducible refine Touch.ite ?_ ?_
    | with_reducible refine Touch.update ?_

def State.marketTurn_cells : List Nat :=
  [0x407, 0x501, 0x601, 0x607, 0x608, 0x610, 0x611, 0x612, 0x613, 0x614, 0x615, 0x616, 0x617, 0xa01, 0xa32, 0x140a,
   0x140b, 0x140f, 0x1417]

theorem State.marketTurn_touch {W0 : List Nat} {s0 s : State} (h0 : Touch W0 s0 s) (hW : Sub State.marketTurn_cells W0) :
    Touch W0 s0 (State.marketTurn s) := by
  have c_State_marketRestart : Sub State.marketRestart_cells W0 := Sub.trans (Sub.of rfl) hW
  have c_State_marketKeep : Sub State.marketKeep_cells W0 := Sub.trans (Sub.of rfl) hW
  unfold State.marketTurn
  repeat' first
    | with_reducible assumption
    | with_reducible refine State.marketRestart_touch ?_ c_State_marketRestart
    | with_reducible refine State.marketKeep_touch ?_ c_State_marketKeep

end Sys2Proof.Machine
end

