-- ==== Sys2Proof/Laws/TouchPortOps.lean ====
section
/-!
SUPPORT. What each operation of Machine/PortOps.lean can do: the registers and parts of the state it may write, and nothing
else; the unit, its queue and the form of its stores are kept.
-/

-- proofs are elaborated one after another: many at once ask for more threads than a memory limit allows
set_option Elab.async false

set_option linter.unusedTactic false
set_option linter.unusedVariables false
set_option linter.unusedSimpArgs false
set_option linter.unreachableTactic false
set_option linter.tactic.unusedName false

namespace Sys2Proof.Machine

def State.svcClose_cells : List Nat :=
  [0x2, 0x6, 0xa01, 0xa32, 0xc30, 0xc34, 0x1405, 0x140c, 0x140f, 0x1413, 0x1418]

theorem State.svcClose_touch {W0 : List Nat} {s0 s : State} (h0 : Touch W0 s0 s) (hW : Sub State.svcClose_cells W0) (cause : Nat) :
    Touch W0 s0 (State.svcClose s cause) := by
  have c_State_setOverlay : Sub State.setOverlay_cells W0 := Sub.trans (Sub.of rfl) hW
  have c_State_post : Sub State.post_cells W0 := Sub.trans (Sub.of rfl) hW
  have w2 : Writes W0 R.SYS_STATE := Or.inl (hW.mem rfl)
  have wc30 : Writes W0 R.SVC_STATUS := Or.inl (hW.mem rfl)
  have wc34 : Writes W0 R.SVC_FWSTAGE := Or.inl (hW.mem rfl)
  have w1405 : 0x1405 ∈ W0 := hW.mem rfl
  have w1413 : 0x1413 ∈ W0 := hW.mem rfl
  have w1418 : 0x1418 ∈ W0 := hW.mem rfl
  unfold State.svcClose
  repeat' first
    | with_reducible assumption
    | (extract_lets +onlyGivenNames xx; guard_hyp xx : State := _; refine Touch.cut (x := xx) ?_ ?_; (on_goal 2 => (intro hh; (try clear_value xx); revert xx; intro _ _)); any_goals (revert xx; intro _))
    | (extract_lets +onlyGivenNames xx; guard_hyp xx : (Boot) := _; revert xx; intro _)
    | (extract_lets +onlyGivenNames xx; (try clear_value xx); revert xx; intro _)
    | with_reducible refine State.setOverlay_touch ?_ c_State_setOverlay _ _ ?_
    | with_reducible refine State.post_touch ?_ c_State_post _ _
    | with_reducible refine State.setField_touch ?_ _ _ ?_
    | with_reducible refine State.setFlag_touch ?_ _ _ ?_
    | with_reducible refine State.setReg_touch ?_ _ _ ?_
    | split
    | with_reducible refine Touch.update ?_

def State.svcCloseOn_cells : List Nat :=
  [0x2, 0x6, 0xa01, 0xa32, 0xc30, 0xc34, 0x1405, 0x140c, 0x140f, 0x1413, 0x1418]

theorem State.svcCloseOn_touch {W0 : List Nat} {s0 s : State} (h0 : Touch W0 s0 s) (hW : Sub State.svcCloseOn_cells W0) (on : Transport → Bool) (cause : Nat) :
    Touch W0 s0 (State.svcCloseOn s on cause) := by
  have c_State_svcClose : Sub State.svcClose_cells W0 := Sub.trans (Sub.of rfl) hW
  unfold State.svcCloseOn
  repeat' first
    | with_reducible assumption
    | with_reducible refine State.svcClose_touch ?_ c_State_svcClose _
    | with_reducible refine Touch.ite ?_ ?_
    | split

def State.refreshLimit_cells : List Nat :=
  [0xb00, 0xb18]

theorem State.refreshLimit_touch {W0 : List Nat} {s0 s : State} (h0 : Touch W0 s0 s) (hW : Sub State.refreshLimit_cells W0) :
    Touch W0 s0 (State.refreshLimit s) := by
  have wb00 : Writes W0 R.TC_STATUS := Or.inl (hW.mem rfl)
  have wb18 : Writes W0 R.PD_LIMIT := Or.inl (hW.mem rfl)
  unfold State.refreshLimit
  repeat' first
    | with_reducible assumption
    | (extract_lets +onlyGivenNames xx; guard_hyp xx : State := _; refine Touch.cut (x := xx) ?_ ?_; (on_goal 2 => (intro hh; (try clear_value xx); revert xx; intro _ _)); any_goals (revert xx; intro _))
    | with_reducible refine State.setFlag_touch ?_ _ _ ?_
    | with_reducible refine State.setReg_touch ?_ _ _ ?_
    | split

def State.usbLock_cells : List Nat :=
  [0xc00, 0xe00]

theorem State.usbLock_touch {W0 : List Nat} {s0 s : State} (h0 : Touch W0 s0 s) (hW : Sub State.usbLock_cells W0) (x : Bool) :
    Touch W0 s0 (State.usbLock s x) := by
  have wc00 : Writes W0 R.USB_STATUS := Or.inl (hW.mem rfl)
  have we00 : Writes W0 R.CLK_STATUS := Or.inl (hW.mem rfl)
  unfold State.usbLock
  repeat' first
    | with_reducible assumption
    | with_reducible refine State.setFlag_touch ?_ _ _ ?_

def State.usbUnlock_cells : List Nat :=
  [0xc00, 0xe00]

theorem State.usbUnlock_touch {W0 : List Nat} {s0 s : State} (h0 : Touch W0 s0 s) (hW : Sub State.usbUnlock_cells W0) :
    Touch W0 s0 (State.usbUnlock s) := by
  have c_State_usbLock : Sub State.usbLock_cells W0 := Sub.trans (Sub.of rfl) hW
  unfold State.usbUnlock
  repeat' first
    | with_reducible assumption
    | with_reducible refine State.usbLock_touch ?_ c_State_usbLock _
    | with_reducible refine Touch.ite ?_ ?_

def State.usbDefault_cells : List Nat :=
  [0xc00, 0xc06, 0x1413, 0x1414]

theorem State.usbDefault_touch {W0 : List Nat} {s0 s : State} (h0 : Touch W0 s0 s) (hW : Sub State.usbDefault_cells W0) :
    Touch W0 s0 (State.usbDefault s) := by
  have wc00 : Writes W0 R.USB_STATUS := Or.inl (hW.mem rfl)
  have wc06 : Writes W0 R.USB_ADDR := Or.inl (hW.mem rfl)
  have w1413 : 0x1413 ∈ W0 := hW.mem rfl
  have w1414 : 0x1414 ∈ W0 := hW.mem rfl
  unfold State.usbDefault
  repeat' first
    | with_reducible assumption
    | (extract_lets +onlyGivenNames xx; guard_hyp xx : State := _; refine Touch.cut (x := xx) ?_ ?_; (on_goal 2 => (intro hh; (try clear_value xx); revert xx; intro _ _)); any_goals (revert xx; intro _))
    | (extract_lets +onlyGivenNames xx; (try clear_value xx); revert xx; intro _)
    | with_reducible refine State.setField_touch ?_ _ _ ?_
    | with_reducible refine State.setReg_touch ?_ _ _ ?_
    | with_reducible refine Touch.update ?_

def State.usbOff_cells : List Nat :=
  [0xb00, 0xb18, 0xc00, 0xc06, 0xe00, 0x1413, 0x1414]

theorem State.usbOff_touch {W0 : List Nat} {s0 s : State} (h0 : Touch W0 s0 s) (hW : Sub State.usbOff_cells W0) :
    Touch W0 s0 (State.usbOff s) := by
  have c_State_usbDefault : Sub State.usbDefault_cells W0 := Sub.trans (Sub.of rfl) hW
  have c_State_usbLock : Sub State.usbLock_cells W0 := Sub.trans (Sub.of rfl) hW
  have c_State_refreshLimit : Sub State.refreshLimit_cells W0 := Sub.trans (Sub.of rfl) hW
  have wc00 : Writes W0 R.USB_STATUS := Or.inl (hW.mem rfl)
  unfold State.usbOff
  repeat' first
    | with_reducible assumption
    | (extract_lets +onlyGivenNames xx; guard_hyp xx : State := _; refine Touch.cut (x := xx) ?_ ?_; (on_goal 2 => (intro hh; (try clear_value xx); revert xx; intro _ _)); any_goals (revert xx; intro _))
    | with_reducible refine State.usbDefault_touch ?_ c_State_usbDefault
    | with_reducible refine State.usbLock_touch ?_ c_State_usbLock _
    | with_reducible refine State.refreshLimit_touch ?_ c_State_refreshLimit
    | with_reducible refine State.setField_touch ?_ _ _ ?_
    | with_reducible refine State.setFlag_touch ?_ _ _ ?_
    | with_reducible refine Touch.ite ?_ ?_

def State.usbRefresh_cells : List Nat :=
  [0xb00, 0xb18, 0xc00, 0xc06, 0xe00, 0x1413, 0x1414]

theorem State.usbRefresh_touch {W0 : List Nat} {s0 s : State} (h0 : Touch W0 s0 s) (hW : Sub State.usbRefresh_cells W0) :
    Touch W0 s0 (State.usbRefresh s) := by
  have c_State_usbOff : Sub State.usbOff_cells W0 := Sub.trans (Sub.of rfl) hW
  unfold State.usbRefresh
  repeat' first
    | with_reducible assumption
    | with_reducible refine State.usbOff_touch ?_ c_State_usbOff
    | with_reducible refine Touch.ite ?_ ?_

def State.refreshCc_cells : List Nat :=
  [0x1404]

theorem State.refreshCc_touch {W0 : List Nat} {s0 s : State} (h0 : Touch W0 s0 s) (hW : Sub State.refreshCc_cells W0) :
    Touch W0 s0 (State.refreshCc s) := by
  have w1404 : 0x1404 ∈ W0 := hW.mem rfl
  unfold State.refreshCc
  repeat' first
    | with_reducible assumption
    | (extract_lets +onlyGivenNames xx; (try clear_value xx); revert xx; intro _)
    | with_reducible refine Touch.update ?_

def State.refreshSbu_cells : List Nat :=
  [0x1404]

theorem State.refreshSbu_touch {W0 : List Nat} {s0 s : State} (h0 : Touch W0 s0 s) (hW : Sub State.refreshSbu_cells W0) :
    Touch W0 s0 (State.refreshSbu s) := by
  have w1404 : 0x1404 ∈ W0 := hW.mem rfl
  unfold State.refreshSbu
  repeat' first
    | with_reducible assumption
    | (extract_lets +onlyGivenNames xx; (try clear_value xx); revert xx; intro _)
    | with_reducible refine Touch.update ?_

def State.svcModeEnd_cells : List Nat :=
  [0x2, 0x6, 0xa01, 0xa32, 0xb01, 0xb02, 0xc30, 0xc34, 0x1404, 0x1405, 0x140c, 0x140f, 0x1413, 0x1418]

theorem State.svcModeEnd_touch {W0 : List Nat} {s0 s : State} (h0 : Touch W0 s0 s) (hW : Sub State.svcModeEnd_cells W0) (cause : Nat) :
    Touch W0 s0 (State.svcModeEnd s cause) := by
  have c_State_refreshSbu : Sub State.refreshSbu_cells W0 := Sub.trans (Sub.of rfl) hW
  have c_State_post : Sub State.post_cells W0 := Sub.trans (Sub.of rfl) hW
  have c_State_svcCloseOn : Sub State.svcCloseOn_cells W0 := Sub.trans (Sub.of rfl) hW
  have wb01 : Writes W0 R.PD_STATUS := Or.inl (hW.mem rfl)
  have wb02 : Writes W0 R.PD_EVENT := Or.inl (hW.mem rfl)
  unfold State.svcModeEnd
  repeat' first
    | with_reducible assumption
    | (extract_lets +onlyGivenNames xx; guard_hyp xx : State := _; refine Touch.cut (x := xx) ?_ ?_; (on_goal 2 => (intro hh; (try clear_value xx); revert xx; intro _ _)); any_goals (revert xx; intro _))
    | with_reducible refine State.refreshSbu_touch ?_ c_State_refreshSbu
    | with_reducible refine State.post_touch ?_ c_State_post _ _
    | with_reducible refine State.svcCloseOn_touch ?_ c_State_svcCloseOn _ _
    | with_reducible refine State.event_touch ?_ _ ?_
    | with_reducible refine State.setFlag_touch ?_ _ _ ?_
    | with_reducible refine Touch.ite ?_ ?_

def State.vbusGone_cells : List Nat :=
  [0x2, 0x6, 0xa01, 0xa32, 0xb00, 0xb01, 0xb18, 0xc00, 0xc06, 0xc30, 0xc34, 0xe00, 0x1405, 0x1407, 0x140c, 0x140f,
   0x1412, 0x1413, 0x1414, 0x1418]

theorem State.vbusGone_touch {W0 : List Nat} {s0 s : State} (h0 : Touch W0 s0 s) (hW : Sub State.vbusGone_cells W0) :
    Touch W0 s0 (State.vbusGone s) := by
  have c_State_svcCloseOn : Sub State.svcCloseOn_cells W0 := Sub.trans (Sub.of rfl) hW
  have c_State_usbRefresh : Sub State.usbRefresh_cells W0 := Sub.trans (Sub.of rfl) hW
  have wb00 : Writes W0 R.TC_STATUS := Or.inl (hW.mem rfl)
  have wb01 : Writes W0 R.PD_STATUS := Or.inl (hW.mem rfl)
  have w1407 : 0x1407 ∈ W0 := hW.mem rfl
  have w1412 : 0x1412 ∈ W0 := hW.mem rfl
  unfold State.vbusGone
  repeat' first
    | with_reducible assumption
    | (extract_lets +onlyGivenNames xx; guard_hyp xx : State := _; refine Touch.cut (x := xx) ?_ ?_; (on_goal 2 => (intro hh; (try clear_value xx); revert xx; intro _ _)); any_goals (revert xx; intro _))
    | (extract_lets +onlyGivenNames xx; (try clear_value xx); revert xx; intro _)
    | with_reducible refine State.svcCloseOn_touch ?_ c_State_svcCloseOn _ _
    | with_reducible refine State.usbRefresh_touch ?_ c_State_usbRefresh
    | with_reducible refine State.setFlag_touch ?_ _ _ ?_
    | with_reducible refine Touch.update ?_

def State.usbActive_cells : List Nat :=
  [0xb00, 0xb18, 0xc00, 0xc01, 0x1414]

theorem State.usbActive_touch {W0 : List Nat} {s0 s : State} (h0 : Touch W0 s0 s) (hW : Sub State.usbActive_cells W0) :
    Touch W0 s0 (State.usbActive s) := by
  have c_State_refreshLimit : Sub State.refreshLimit_cells W0 := Sub.trans (Sub.of rfl) hW
  have wc00 : Writes W0 R.USB_STATUS := Or.inl (hW.mem rfl)
  have wc01 : Writes W0 R.USB_EVENT := Or.inl (hW.mem rfl)
  have w1414 : 0x1414 ∈ W0 := hW.mem rfl
  unfold State.usbActive
  repeat' first
    | with_reducible assumption
    | (extract_lets +onlyGivenNames xx; guard_hyp xx : State := _; refine Touch.cut (x := xx) ?_ ?_; (on_goal 2 => (intro hh; (try clear_value xx); revert xx; intro _ _)); any_goals (revert xx; intro _))
    | (extract_lets +onlyGivenNames xx; (try clear_value xx); revert xx; intro _)
    | with_reducible refine State.refreshLimit_touch ?_ c_State_refreshLimit
    | with_reducible refine State.event_touch ?_ _ ?_
    | with_reducible refine State.setFlag_touch ?_ _ _ ?_
    | with_reducible refine Touch.ite ?_ ?_
    | with_reducible refine Touch.update ?_

end Sys2Proof.Machine
end

