-- ==== Sys2Proof/Laws/TouchPathOps.lean ====
section
/-!
SUPPORT. What each operation of Machine/PathOps.lean can do: the registers and parts of the state it may write, and nothing
else; the unit, its queue and the form of its stores are kept.
-/

-- proofs are elaborated one after another: many at once ask for more threads than a memory limit allows
set_option Elab.async false

set_option linter.unusedTactic false
set_option linter.unusedVariables false
set_option linter.unusedSimpArgs false
set_option linter.unreachableTactic false
set_option linter.tactic.unusedName false

namespace Sys2Proof.Machine

def State.setVolt_cells : List Nat :=
  [0x110, 0x111, 0x112, 0x113]

theorem State.setVolt_touch {W0 : List Nat} {s0 s : State} (h0 : Touch W0 s0 s) (hW : Sub State.setVolt_cells W0) (x : Source) (mv : Nat) :
    Touch W0 s0 (State.setVolt s x mv) := by
  have w110 : Writes W0 R.SRC_VIN_V := Or.inl (hW.mem rfl)
  have w111 : Writes W0 R.SRC_VBUS_V := Or.inl (hW.mem rfl)
  have w112 : Writes W0 R.SRC_VPV_V := Or.inl (hW.mem rfl)
  have w113 : Writes W0 R.SRC_VTET_V := Or.inl (hW.mem rfl)
  unfold State.setVolt
  repeat' first
    | with_reducible assumption
    | with_reducible refine State.setReg_touch ?_ _ _ ?_
    | (unfold voltReg; split <;> with_reducible assumption)

def State.setVmux_cells : List Nat :=
  [0x211]

theorem State.setVmux_touch {W0 : List Nat} {s0 s : State} (h0 : Touch W0 s0 s) (hW : Sub State.setVmux_cells W0) (mv : Nat) :
    Touch W0 s0 (State.setVmux s mv) := by
  have w211 : Writes W0 R.PATH_VMUX := Or.inl (hW.mem rfl)
  unfold State.setVmux
  repeat' first
    | with_reducible assumption
    | with_reducible refine State.setReg_touch ?_ _ _ ?_

def State.dischOn_cells : List Nat :=
  [0x100, 0x1407]

theorem State.dischOn_touch {W0 : List Nat} {s0 s : State} (h0 : Touch W0 s0 s) (hW : Sub State.dischOn_cells W0) :
    Touch W0 s0 (State.dischOn s) := by
  have w100 : Writes W0 R.SRC_STATUS := Or.inl (hW.mem rfl)
  have w1407 : 0x1407 ∈ W0 := hW.mem rfl
  unfold State.dischOn
  repeat' first
    | with_reducible assumption
    | (extract_lets +onlyGivenNames xx; guard_hyp xx : State := _; refine Touch.cut (x := xx) ?_ ?_; (on_goal 2 => (intro hh; (try clear_value xx); revert xx; intro _ _)); any_goals (revert xx; intro _))
    | (extract_lets +onlyGivenNames xx; (try clear_value xx); revert xx; intro _)
    | with_reducible refine State.setFlag_touch ?_ _ _ ?_
    | with_reducible refine Touch.update ?_

def State.dischStart_cells : List Nat :=
  [0x100, 0x1407]

theorem State.dischStart_touch {W0 : List Nat} {s0 s : State} (h0 : Touch W0 s0 s) (hW : Sub State.dischStart_cells W0) :
    Touch W0 s0 (State.dischStart s) := by
  have c_State_dischOn : Sub State.dischOn_cells W0 := Sub.trans (Sub.of rfl) hW
  unfold State.dischStart
  repeat' first
    | with_reducible assumption
    | with_reducible refine State.dischOn_touch ?_ c_State_dischOn
    | with_reducible refine Touch.ite ?_ ?_
    | split

def State.dischStop_cells : List Nat :=
  [0x100, 0x1407]

theorem State.dischStop_touch {W0 : List Nat} {s0 s : State} (h0 : Touch W0 s0 s) (hW : Sub State.dischStop_cells W0) :
    Touch W0 s0 (State.dischStop s) := by
  have w100 : Writes W0 R.SRC_STATUS := Or.inl (hW.mem rfl)
  have w1407 : 0x1407 ∈ W0 := hW.mem rfl
  unfold State.dischStop
  repeat' first
    | with_reducible assumption
    | (extract_lets +onlyGivenNames xx; guard_hyp xx : State := _; refine Touch.cut (x := xx) ?_ ?_; (on_goal 2 => (intro hh; (try clear_value xx); revert xx; intro _ _)); any_goals (revert xx; intro _))
    | (extract_lets +onlyGivenNames xx; (try clear_value xx); revert xx; intro _)
    | with_reducible refine State.setFlag_touch ?_ _ _ ?_
    | with_reducible refine Touch.update ?_

def State.mainStop_cells : List Nat :=
  [0x100, 0x114, 0x400]

theorem State.mainStop_touch {W0 : List Nat} {s0 s : State} (h0 : Touch W0 s0 s) (hW : Sub State.mainStop_cells W0) :
    Touch W0 s0 (State.mainStop s) := by
  have w100 : Writes W0 R.SRC_STATUS := Or.inl (hW.mem rfl)
  have w114 : Writes W0 R.SRC_IIN := Or.inl (hW.mem rfl)
  have w400 : Writes W0 R.CONV_STATUS := Or.inl (hW.mem rfl)
  unfold State.mainStop
  repeat' first
    | with_reducible assumption
    | (extract_lets +onlyGivenNames xx; guard_hyp xx : State := _; refine Touch.cut (x := xx) ?_ ?_; (on_goal 2 => (intro hh; (try clear_value xx); revert xx; intro _ _)); any_goals (revert xx; intro _))
    | with_reducible refine State.setFlag_touch ?_ _ _ ?_
    | with_reducible refine State.setReg_touch ?_ _ _ ?_

def State.noTarget_cells : List Nat :=
  [0x100, 0x1407]

theorem State.noTarget_touch {W0 : List Nat} {s0 s : State} (h0 : Touch W0 s0 s) (hW : Sub State.noTarget_cells W0) :
    Touch W0 s0 (State.noTarget s) := by
  have c_State_dischStop : Sub State.dischStop_cells W0 := Sub.trans (Sub.of rfl) hW
  have w1407 : 0x1407 ∈ W0 := hW.mem rfl
  unfold State.noTarget
  repeat' first
    | with_reducible assumption
    | (extract_lets +onlyGivenNames xx; guard_hyp xx : State := _; refine Touch.cut (x := xx) ?_ ?_; (on_goal 2 => (intro hh; (try clear_value xx); revert xx; intro _ _)); any_goals (revert xx; intro _))
    | (extract_lets +onlyGivenNames xx; (try clear_value xx); revert xx; intro _)
    | with_reducible refine State.dischStop_touch ?_ c_State_dischStop
    | with_reducible refine Touch.update ?_

def State.aim_cells : List Nat :=
  [0x100, 0x1407]

theorem State.aim_touch {W0 : List Nat} {s0 s : State} (h0 : Touch W0 s0 s) (hW : Sub State.aim_cells W0) (x : Source) (old : Option Source) (planned : Bool) :
    Touch W0 s0 (State.aim s x old planned) := by
  have c_State_noTarget : Sub State.noTarget_cells W0 := Sub.trans (Sub.of rfl) hW
  have c_State_dischStart : Sub State.dischStart_cells W0 := Sub.trans (Sub.of rfl) hW
  have w1407 : 0x1407 ∈ W0 := hW.mem rfl
  unfold State.aim
  repeat' first
    | with_reducible assumption
    | (extract_lets +onlyGivenNames xx; guard_hyp xx : State := _; refine Touch.cut (x := xx) ?_ ?_; (on_goal 2 => (intro hh; (try clear_value xx); revert xx; intro _ _)); any_goals (revert xx; intro _))
    | (extract_lets +onlyGivenNames xx; (try clear_value xx); revert xx; intro _)
    | with_reducible refine State.noTarget_touch ?_ c_State_noTarget
    | with_reducible refine State.dischStart_touch ?_ c_State_dischStart
    | with_reducible refine Touch.update ?_

def State.openSwitch_cells : List Nat :=
  [0x100, 0x114, 0x400, 0x1407]

theorem State.openSwitch_touch {W0 : List Nat} {s0 s : State} (h0 : Touch W0 s0 s) (hW : Sub State.openSwitch_cells W0) :
    Touch W0 s0 (State.openSwitch s) := by
  have c_State_mainStop : Sub State.mainStop_cells W0 := Sub.trans (Sub.of rfl) hW
  have w100 : Writes W0 R.SRC_STATUS := Or.inl (hW.mem rfl)
  have w1407 : 0x1407 ∈ W0 := hW.mem rfl
  unfold State.openSwitch
  repeat' first
    | with_reducible assumption
    | (extract_lets +onlyGivenNames xx; guard_hyp xx : State := _; refine Touch.cut (x := xx) ?_ ?_; (on_goal 2 => (intro hh; (try clear_value xx); revert xx; intro _ _)); any_goals (revert xx; intro _))
    | (extract_lets +onlyGivenNames xx; (try clear_value xx); revert xx; intro _)
    | with_reducible refine State.mainStop_touch ?_ c_State_mainStop
    | with_reducible refine State.setField_touch ?_ _ _ ?_
    | with_reducible refine Touch.update ?_

def State.choose_cells : List Nat :=
  [0x100, 0x1407]

theorem State.choose_touch {W0 : List Nat} {s0 s : State} (h0 : Touch W0 s0 s) (hW : Sub State.choose_cells W0) (old : Option Source) (planned : Bool) :
    Touch W0 s0 (State.choose s old planned) := by
  have c_State_aim : Sub State.aim_cells W0 := Sub.trans (Sub.of rfl) hW
  have c_State_noTarget : Sub State.noTarget_cells W0 := Sub.trans (Sub.of rfl) hW
  unfold State.choose
  repeat' first
    | with_reducible assumption
    | with_reducible refine State.aim_touch ?_ c_State_aim _ _ _
    | with_reducible refine State.noTarget_touch ?_ c_State_noTarget
    | split

def State.refreshPending_cells : List Nat :=
  [0x100]

theorem State.refreshPending_touch {W0 : List Nat} {s0 s : State} (h0 : Touch W0 s0 s) (hW : Sub State.refreshPending_cells W0) :
    Touch W0 s0 (State.refreshPending s) := by
  have w100 : Writes W0 R.SRC_STATUS := Or.inl (hW.mem rfl)
  unfold State.refreshPending
  repeat' first
    | with_reducible assumption
    | with_reducible refine State.setFlag_touch ?_ _ _ ?_

def State.retargetPlanned_cells : List Nat :=
  [0x100, 0x1407]

theorem State.retargetPlanned_touch {W0 : List Nat} {s0 s : State} (h0 : Touch W0 s0 s) (hW : Sub State.retargetPlanned_cells W0) :
    Touch W0 s0 (State.retargetPlanned s) := by
  have c_State_noTarget : Sub State.noTarget_cells W0 := Sub.trans (Sub.of rfl) hW
  have w1407 : 0x1407 ∈ W0 := hW.mem rfl
  unfold State.retargetPlanned
  repeat' first
    | with_reducible assumption
    | (extract_lets +onlyGivenNames xx; (try clear_value xx); revert xx; intro _)
    | with_reducible refine State.noTarget_touch ?_ c_State_noTarget
    | with_reducible refine Touch.ite ?_ ?_
    | split
    | with_reducible refine Touch.update ?_

def State.reselect_cells : List Nat :=
  [0x100, 0x1407]

theorem State.reselect_touch {W0 : List Nat} {s0 s : State} (h0 : Touch W0 s0 s) (hW : Sub State.reselect_cells W0) :
    Touch W0 s0 (State.reselect s) := by
  have c_State_choose : Sub State.choose_cells W0 := Sub.trans (Sub.of rfl) hW
  have c_State_retargetPlanned : Sub State.retargetPlanned_cells W0 := Sub.trans (Sub.of rfl) hW
  have c_State_refreshPending : Sub State.refreshPending_cells W0 := Sub.trans (Sub.of rfl) hW
  unfold State.reselect
  repeat' first
    | with_reducible assumption
    | (extract_lets +onlyGivenNames xx; guard_hyp xx : State := _; refine Touch.cut (x := xx) ?_ ?_; (on_goal 2 => (intro hh; (try clear_value xx); revert xx; intro _ _)); any_goals (revert xx; intro _))
    | with_reducible refine State.choose_touch ?_ c_State_choose _ _
    | with_reducible refine State.retargetPlanned_touch ?_ c_State_retargetPlanned
    | with_reducible refine State.refreshPending_touch ?_ c_State_refreshPending
    | with_reducible refine Touch.ite ?_ ?_
    | split

def State.qualify_cells : List Nat :=
  [0x2, 0x6, 0x100, 0x101, 0x110, 0x111, 0x112, 0x113, 0x200, 0x300, 0x301, 0x31f, 0x400, 0x401, 0x40e, 0x40f, 0xa01,
   0xa32, 0xc20, 0xc21, 0xc25, 0x1405, 0x1407, 0x1408, 0x1409, 0x140d, 0x140f, 0x1413, 0x1415]

theorem State.qualify_touch {W0 : List Nat} {s0 s : State} (h0 : Touch W0 s0 s) (hW : Sub State.qualify_cells W0) (x : Source) (mv : Nat) :
    Touch W0 s0 (State.qualify s x mv) := by
  have c_State_setVolt : Sub State.setVolt_cells W0 := Sub.trans (Sub.of rfl) hW
  have c_State_post : Sub State.post_cells W0 := Sub.trans (Sub.of rfl) hW
  have c_State_reselect : Sub State.reselect_cells W0 := Sub.trans (Sub.of rfl) hW
  have c_State_powerChanged : Sub State.powerChanged_cells W0 := Sub.trans (Sub.of rfl) hW
  have w100 : Writes W0 R.SRC_STATUS := Or.inl (hW.mem rfl)
  have w101 : Writes W0 R.SRC_EVENT := Or.inl (hW.mem rfl)
  have w1407 : 0x1407 ∈ W0 := hW.mem rfl
  unfold State.qualify
  repeat' first
    | with_reducible assumption
    | (extract_lets +onlyGivenNames xx; guard_hyp xx : State := _; refine Touch.cut (x := xx) ?_ ?_; (on_goal 2 => (intro hh; (try clear_value xx); revert xx; intro _ _)); any_goals (revert xx; intro _))
    | (extract_lets +onlyGivenNames xx; (try clear_value xx); revert xx; intro _)
    | with_reducible refine State.setVolt_touch ?_ c_State_setVolt _ _
    | with_reducible refine State.post_touch ?_ c_State_post _ _
    | with_reducible refine State.reselect_touch ?_ c_State_reselect
    | with_reducible refine State.powerChanged_touch ?_ c_State_powerChanged
    | with_reducible refine State.event_touch ?_ _ ?_
    | with_reducible refine State.setFlag_touch ?_ _ _ ?_
    | (unfold arrFlag; split <;> with_reducible assumption)
    | (unfold qFlag; split <;> with_reducible assumption)
    | with_reducible refine Touch.update ?_

def State.postLoss_cells : List Nat :=
  [0x101, 0xa01, 0xa32, 0x140f]

theorem State.postLoss_touch {W0 : List Nat} {s0 s : State} (h0 : Touch W0 s0 s) (hW : Sub State.postLoss_cells W0) (x : Source) (cause : Nat) (mv : Nat) :
    Touch W0 s0 (State.postLoss s x cause mv) := by
  have c_State_post : Sub State.post_cells W0 := Sub.trans (Sub.of rfl) hW
  have w101 : Writes W0 R.SRC_EVENT := Or.inl (hW.mem rfl)
  unfold State.postLoss
  repeat' first
    | with_reducible assumption
    | with_reducible refine State.post_touch ?_ c_State_post _ _
    | with_reducible refine State.event_touch ?_ _ ?_
    | (unfold lossFlag; split <;> with_reducible assumption)

def State.dropSwitch_cells : List Nat :=
  [0x100, 0x114, 0x400, 0x1407]

theorem State.dropSwitch_touch {W0 : List Nat} {s0 s : State} (h0 : Touch W0 s0 s) (hW : Sub State.dropSwitch_cells W0) (x : Source) :
    Touch W0 s0 (State.dropSwitch s x) := by
  have c_State_openSwitch : Sub State.openSwitch_cells W0 := Sub.trans (Sub.of rfl) hW
  have c_State_choose : Sub State.choose_cells W0 := Sub.trans (Sub.of rfl) hW
  have c_State_retargetPlanned : Sub State.retargetPlanned_cells W0 := Sub.trans (Sub.of rfl) hW
  unfold State.dropSwitch
  repeat' first
    | with_reducible assumption
    | with_reducible refine State.openSwitch_touch ?_ c_State_openSwitch
    | with_reducible refine State.choose_touch ?_ c_State_choose _ _
    | with_reducible refine State.retargetPlanned_touch ?_ c_State_retargetPlanned
    | with_reducible refine Touch.ite ?_ ?_

def State.shipArmCheck_cells : List Nat :=
  [0x6, 0xa01, 0xa32, 0xc20, 0xc21, 0xc25, 0x1405, 0x140d, 0x140f, 0x1413, 0x1415]

theorem State.shipArmCheck_touch {W0 : List Nat} {s0 s : State} (h0 : Touch W0 s0 s) (hW : Sub State.shipArmCheck_cells W0) :
    Touch W0 s0 (State.shipArmCheck s) := by
  have c_State_shipDrop : Sub State.shipDrop_cells W0 := Sub.trans (Sub.of rfl) hW
  unfold State.shipArmCheck
  repeat' first
    | with_reducible assumption
    | with_reducible refine State.shipDrop_touch ?_ c_State_shipDrop
    | with_reducible refine Touch.ite ?_ ?_

def State.lose_cells : List Nat :=
  [0x2, 0x6, 0x100, 0x101, 0x110, 0x111, 0x112, 0x113, 0x114, 0x200, 0x300, 0x301, 0x31f, 0x400, 0x401, 0x40e, 0x40f,
   0x900, 0x901, 0xa01, 0xa32, 0xb00, 0xb01, 0xb18, 0xc00, 0xc06, 0xc20, 0xc21, 0xc25, 0xc30, 0xc34, 0xe00, 0x1405,
   0x1407, 0x1408, 0x1409, 0x140c, 0x140d, 0x140f, 0x1412, 0x1413, 0x1414, 0x1415, 0x1418]

theorem State.lose_touch {W0 : List Nat} {s0 s : State} (h0 : Touch W0 s0 s) (hW : Sub State.lose_cells W0) (x : Source) (cause : Nat) (mv : Nat) :
    Touch W0 s0 (State.lose s x cause mv) := by
  have c_State_setVolt : Sub State.setVolt_cells W0 := Sub.trans (Sub.of rfl) hW
  have c_State_postLoss : Sub State.postLoss_cells W0 := Sub.trans (Sub.of rfl) hW
  have c_State_vbusGone : Sub State.vbusGone_cells W0 := Sub.trans (Sub.of rfl) hW
  have c_State_dropSwitch : Sub State.dropSwitch_cells W0 := Sub.trans (Sub.of rfl) hW
  have c_State_refreshPending : Sub State.refreshPending_cells W0 := Sub.trans (Sub.of rfl) hW
  have c_State_powerChanged : Sub State.powerChanged_cells W0 := Sub.trans (Sub.of rfl) hW
  have c_State_chgVerdict : Sub State.chgVerdict_cells W0 := Sub.trans (Sub.of rfl) hW
  have c_State_shipArmCheck : Sub State.shipArmCheck_cells W0 := Sub.trans (Sub.of rfl) hW
  have w100 : Writes W0 R.SRC_STATUS := Or.inl (hW.mem rfl)
  have w1407 : 0x1407 ∈ W0 := hW.mem rfl
  unfold State.lose
  repeat' first
    | with_reducible assumption
    | (extract_lets +onlyGivenNames xx; guard_hyp xx : State := _; refine Touch.cut (x := xx) ?_ ?_; (on_goal 2 => (intro hh; (try clear_value xx); revert xx; intro _ _)); any_goals (revert xx; intro _))
    | (extract_lets +onlyGivenNames xx; (try clear_value xx); revert xx; intro _)
    | with_reducible refine State.setVolt_touch ?_ c_State_setVolt _ _
    | with_reducible refine State.postLoss_touch ?_ c_State_postLoss _ _ _
    | with_reducible refine State.vbusGone_touch ?_ c_State_vbusGone
    | with_reducible refine State.dropSwitch_touch ?_ c_State_dropSwitch _
    | with_reducible refine State.refreshPending_touch ?_ c_State_refreshPending
    | with_reducible refine State.powerChanged_touch ?_ c_State_powerChanged
    | with_reducible refine State.chgVerdict_touch ?_ c_State_chgVerdict
    | with_reducible refine State.shipArmCheck_touch ?_ c_State_shipArmCheck
    | with_reducible refine State.setFlag_touch ?_ _ _ ?_
    | with_reducible refine Touch.ite ?_ ?_
    | (unfold qFlag; split <;> with_reducible assumption)
    | with_reducible refine Touch.update ?_

def State.postCutoff_cells : List Nat :=
  [0xa01, 0xa32, 0x140b, 0x140f]

theorem State.postCutoff_touch {W0 : List Nat} {s0 s : State} (h0 : Touch W0 s0 s) (hW : Sub State.postCutoff_cells W0) (vtet : Nat) (cap : Nat) :
    Touch W0 s0 (State.postCutoff s vtet cap) := by
  have c_State_coalesce : Sub State.coalesce_cells W0 := Sub.trans (Sub.of rfl) hW
  have c_State_post : Sub State.post_cells W0 := Sub.trans (Sub.of rfl) hW
  have w140b : 0x140b ∈ W0 := hW.mem rfl
  unfold State.postCutoff
  repeat' first
    | with_reducible assumption
    | (extract_lets +onlyGivenNames xx; guard_hyp xx : State := _; refine Touch.cut (x := xx) ?_ ?_; (on_goal 2 => (intro hh; (try clear_value xx); revert xx; intro _ _)); any_goals (revert xx; intro _))
    | (extract_lets +onlyGivenNames xx; (try clear_value xx); revert xx; intro _)
    | with_reducible refine State.coalesce_touch ?_ c_State_coalesce _
    | with_reducible refine State.post_touch ?_ c_State_post _ _
    | with_reducible refine Touch.ite ?_ ?_
    | with_reducible refine Touch.update ?_

def State.cutOff_cells : List Nat :=
  [0x600, 0x601, 0x624, 0xa01, 0xa32, 0x140b, 0x140f]

theorem State.cutOff_touch {W0 : List Nat} {s0 s : State} (h0 : Touch W0 s0 s) (hW : Sub State.cutOff_cells W0) (vtet : Nat) :
    Touch W0 s0 (State.cutOff s vtet) := by
  have c_State_postCutoff : Sub State.postCutoff_cells W0 := Sub.trans (Sub.of rfl) hW
  have w600 : Writes W0 R.MKT_STATUS := Or.inl (hW.mem rfl)
  have w601 : Writes W0 R.MKT_EVENT := Or.inl (hW.mem rfl)
  have w624 : Writes W0 R.MKT_CUTCNT := Or.inl (hW.mem rfl)
  have w140b : 0x140b ∈ W0 := hW.mem rfl
  unfold State.cutOff
  repeat' first
    | with_reducible assumption
    | (extract_lets +onlyGivenNames xx; guard_hyp xx : State := _; refine Touch.cut (x := xx) ?_ ?_; (on_goal 2 => (intro hh; (try clear_value xx); revert xx; intro _ _)); any_goals (revert xx; intro _))
    | (extract_lets +onlyGivenNames xx; (try clear_value xx); revert xx; intro _)
    | with_reducible refine State.postCutoff_touch ?_ c_State_postCutoff _ _
    | with_reducible refine State.bump_touch ?_ _ _ ?_
    | with_reducible refine State.event_touch ?_ _ ?_
    | with_reducible refine State.setFlag_touch ?_ _ _ ?_
    | with_reducible refine Touch.update ?_

def State.sinkCutoff_cells : List Nat :=
  [0x2, 0x6, 0x100, 0x101, 0x110, 0x111, 0x112, 0x113, 0x114, 0x116, 0x200, 0x300, 0x301, 0x31f, 0x400, 0x401, 0x40e,
   0x40f, 0x600, 0x601, 0x624, 0x900, 0x901, 0xa01, 0xa32, 0xb00, 0xb01, 0xb18, 0xc00, 0xc06, 0xc20, 0xc21, 0xc25,
   0xc30, 0xc34, 0xe00, 0x1405, 0x1407, 0x1408, 0x1409, 0x140b, 0x140c, 0x140d, 0x140f, 0x1412, 0x1413, 0x1414,
   0x1415, 0x1418]

theorem State.sinkCutoff_touch {W0 : List Nat} {s0 s : State} (h0 : Touch W0 s0 s) (hW : Sub State.sinkCutoff_cells W0) (vtet : Nat) :
    Touch W0 s0 (State.sinkCutoff s vtet) := by
  have c_State_cutOff : Sub State.cutOff_cells W0 := Sub.trans (Sub.of rfl) hW
  have c_State_lose : Sub State.lose_cells W0 := Sub.trans (Sub.of rfl) hW
  have w101 : Writes W0 R.SRC_EVENT := Or.inl (hW.mem rfl)
  have w116 : Writes W0 R.SRC_TRIPCNT := Or.inl (hW.mem rfl)
  unfold State.sinkCutoff
  repeat' first
    | with_reducible assumption
    | (extract_lets +onlyGivenNames xx; guard_hyp xx : State := _; refine Touch.cut (x := xx) ?_ ?_; (on_goal 2 => (intro hh; (try clear_value xx); revert xx; intro _ _)); any_goals (revert xx; intro _))
    | with_reducible refine State.cutOff_touch ?_ c_State_cutOff _
    | with_reducible refine State.lose_touch ?_ c_State_lose _ _ _
    | with_reducible refine State.bump_touch ?_ _ _ ?_
    | with_reducible refine State.event_touch ?_ _ ?_
    | with_reducible refine Touch.ite ?_ ?_

def State.cutoffAgain_cells : List Nat :=
  [0x2, 0x6, 0x100, 0x101, 0x110, 0x111, 0x112, 0x113, 0x114, 0x116, 0x200, 0x300, 0x301, 0x31f, 0x400, 0x401, 0x40e,
   0x40f, 0x600, 0x601, 0x624, 0x900, 0x901, 0xa01, 0xa32, 0xb00, 0xb01, 0xb18, 0xc00, 0xc06, 0xc20, 0xc21, 0xc25,
   0xc30, 0xc34, 0xe00, 0x1405, 0x1407, 0x1408, 0x1409, 0x140b, 0x140c, 0x140d, 0x140f, 0x1412, 0x1413, 0x1414,
   0x1415, 0x1418]

theorem State.cutoffAgain_touch {W0 : List Nat} {s0 s : State} (h0 : Touch W0 s0 s) (hW : Sub State.cutoffAgain_cells W0) :
    Touch W0 s0 (State.cutoffAgain s) := by
  have c_State_sinkCutoff : Sub State.sinkCutoff_cells W0 := Sub.trans (Sub.of rfl) hW
  unfold State.cutoffAgain
  repeat' first
    | with_reducible assumption
    | with_reducible refine State.sinkCutoff_touch ?_ c_State_sinkCutoff _

def State.trip_cells : List Nat :=
  [0x2, 0x6, 0x100, 0x101, 0x110, 0x111, 0x112, 0x113, 0x114, 0x116, 0x117, 0x200, 0x300, 0x301, 0x31f, 0x400, 0x401,
   0x40e, 0x40f, 0x900, 0x901, 0xa01, 0xa32, 0xb00, 0xb01, 0xb18, 0xc00, 0xc06, 0xc20, 0xc21, 0xc25, 0xc30, 0xc34,
   0xe00, 0x1405, 0x1407, 0x1408, 0x1409, 0x140c, 0x140d, 0x140f, 0x1412, 0x1413, 0x1414, 0x1415, 0x1418]

theorem State.trip_touch {W0 : List Nat} {s0 s : State} (h0 : Touch W0 s0 s) (hW : Sub State.trip_cells W0) (x : Source) (cmp : Nat) (cause : Nat) (mv : Nat) :
    Touch W0 s0 (State.trip s x cmp cause mv) := by
  have c_State_post : Sub State.post_cells W0 := Sub.trans (Sub.of rfl) hW
  have c_State_lose : Sub State.lose_cells W0 := Sub.trans (Sub.of rfl) hW
  have w101 : Writes W0 R.SRC_EVENT := Or.inl (hW.mem rfl)
  have w116 : Writes W0 R.SRC_TRIPCNT := Or.inl (hW.mem rfl)
  have w117 : Writes W0 R.SRC_COLLCNT := Or.inl (hW.mem rfl)
  unfold State.trip
  repeat' first
    | with_reducible assumption
    | (extract_lets +onlyGivenNames xx; guard_hyp xx : State := _; refine Touch.cut (x := xx) ?_ ?_; (on_goal 2 => (intro hh; (try clear_value xx); revert xx; intro _ _)); any_goals (revert xx; intro _))
    | with_reducible refine State.post_touch ?_ c_State_post _ _
    | with_reducible refine State.lose_touch ?_ c_State_lose _ _ _
    | with_reducible refine State.bump_touch ?_ _ _ ?_
    | with_reducible refine State.event_touch ?_ _ ?_
    | with_reducible refine Touch.ite ?_ ?_

def State.rampEnd_cells : List Nat :=
  [0x100, 0x101, 0x114, 0x400, 0xa01, 0xa32, 0x1407, 0x140f]

theorem State.rampEnd_touch {W0 : List Nat} {s0 s : State} (h0 : Touch W0 s0 s) (hW : Sub State.rampEnd_cells W0) :
    Touch W0 s0 (State.rampEnd s) := by
  have c_State_openSwitch : Sub State.openSwitch_cells W0 := Sub.trans (Sub.of rfl) hW
  have c_State_dischStart : Sub State.dischStart_cells W0 := Sub.trans (Sub.of rfl) hW
  have c_State_postLoss : Sub State.postLoss_cells W0 := Sub.trans (Sub.of rfl) hW
  have c_State_choose : Sub State.choose_cells W0 := Sub.trans (Sub.of rfl) hW
  have c_State_refreshPending : Sub State.refreshPending_cells W0 := Sub.trans (Sub.of rfl) hW
  have w1407 : 0x1407 ∈ W0 := hW.mem rfl
  unfold State.rampEnd
  repeat' first
    | with_reducible assumption
    | (extract_lets +onlyGivenNames xx; guard_hyp xx : State := _; refine Touch.cut (x := xx) ?_ ?_; (on_goal 2 => (intro hh; (try clear_value xx); revert xx; intro _ _)); any_goals (revert xx; intro _))
    | (extract_lets +onlyGivenNames xx; (try clear_value xx); revert xx; intro _)
    | with_reducible refine State.openSwitch_touch ?_ c_State_openSwitch
    | with_reducible refine State.dischStart_touch ?_ c_State_dischStart
    | with_reducible refine State.postLoss_touch ?_ c_State_postLoss _ _ _
    | with_reducible refine State.choose_touch ?_ c_State_choose _ _
    | with_reducible refine State.refreshPending_touch ?_ c_State_refreshPending
    | with_reducible refine Touch.ite ?_ ?_
    | split
    | with_reducible refine Touch.update ?_

def State.rampTick_cells : List Nat :=
  [0x2, 0x6, 0x100, 0x101, 0x114, 0x200, 0x300, 0x301, 0x31f, 0x400, 0x401, 0x40e, 0x40f, 0x900, 0x901, 0xa01, 0xa32,
   0xc20, 0xc21, 0xc25, 0x1405, 0x1407, 0x1408, 0x1409, 0x140c, 0x140d, 0x140f, 0x1413, 0x1415]

theorem State.rampTick_touch {W0 : List Nat} {s0 s : State} (h0 : Touch W0 s0 s) (hW : Sub State.rampTick_cells W0) :
    Touch W0 s0 (State.rampTick s) := by
  have c_State_rampEnd : Sub State.rampEnd_cells W0 := Sub.trans (Sub.of rfl) hW
  have c_State_powerChanged : Sub State.powerChanged_cells W0 := Sub.trans (Sub.of rfl) hW
  have c_State_chgVerdict : Sub State.chgVerdict_cells W0 := Sub.trans (Sub.of rfl) hW
  unfold State.rampTick
  repeat' first
    | with_reducible assumption
    | with_reducible refine State.rampEnd_touch ?_ c_State_rampEnd
    | with_reducible refine State.powerChanged_touch ?_ c_State_powerChanged
    | with_reducible refine State.chgVerdict_touch ?_ c_State_chgVerdict
    | with_reducible refine Touch.ite ?_ ?_

def State.enablesChanged_cells : List Nat :=
  [0x2, 0x6, 0x100, 0x101, 0x114, 0x200, 0x300, 0x301, 0x31f, 0x400, 0x401, 0x40e, 0x40f, 0xa01, 0xa32, 0xc20, 0xc21,
   0xc25, 0x1405, 0x1407, 0x1408, 0x1409, 0x140d, 0x140f, 0x1413, 0x1415]

theorem State.enablesChanged_touch {W0 : List Nat} {s0 s : State} (h0 : Touch W0 s0 s) (hW : Sub State.enablesChanged_cells W0) :
    Touch W0 s0 (State.enablesChanged s) := by
  have c_State_postLoss : Sub State.postLoss_cells W0 := Sub.trans (Sub.of rfl) hW
  have c_State_dropSwitch : Sub State.dropSwitch_cells W0 := Sub.trans (Sub.of rfl) hW
  have c_State_reselect : Sub State.reselect_cells W0 := Sub.trans (Sub.of rfl) hW
  have c_State_powerChanged : Sub State.powerChanged_cells W0 := Sub.trans (Sub.of rfl) hW
  have w1407 : 0x1407 ∈ W0 := hW.mem rfl
  unfold State.enablesChanged
  repeat' first
    | with_reducible assumption
    | (extract_lets +onlyGivenNames xx; guard_hyp xx : State := _; refine Touch.cut (x := xx) ?_ ?_; (on_goal 2 => (intro hh; (try clear_value xx); revert xx; intro _ _)); any_goals (revert xx; intro _))
    | (extract_lets +onlyGivenNames xx; (try clear_value xx); revert xx; intro _)
    | with_reducible refine State.postLoss_touch ?_ c_State_postLoss _ _ _
    | with_reducible refine State.dropSwitch_touch ?_ c_State_dropSwitch _
    | with_reducible refine State.reselect_touch ?_ c_State_reselect
    | with_reducible refine State.powerChanged_touch ?_ c_State_powerChanged
    | with_reducible refine Touch.ite ?_ ?_
    | split
    | with_reducible refine Touch.update ?_

def State.setVoc_cells : List Nat :=
  [0x115, 0x1407]

theorem State.setVoc_touch {W0 : List Nat} {s0 s : State} (h0 : Touch W0 s0 s) (hW : Sub State.setVoc_cells W0) (mv : Nat) :
    Touch W0 s0 (State.setVoc s mv) := by
  have w115 : Writes W0 R.SRC_VPV_VOC := Or.inl (hW.mem rfl)
  have w1407 : 0x1407 ∈ W0 := hW.mem rfl
  unfold State.setVoc
  repeat' first
    | with_reducible assumption
    | (extract_lets +onlyGivenNames xx; guard_hyp xx : State := _; refine Touch.cut (x := xx) ?_ ?_; (on_goal 2 => (intro hh; (try clear_value xx); revert xx; intro _ _)); any_goals (revert xx; intro _))
    | (extract_lets +onlyGivenNames xx; (try clear_value xx); revert xx; intro _)
    | with_reducible refine State.setReg_touch ?_ _ _ ?_
    | with_reducible refine Touch.update ?_

def State.trackStart_cells : List Nat :=
  [0x100, 0x1407]

theorem State.trackStart_touch {W0 : List Nat} {s0 s : State} (h0 : Touch W0 s0 s) (hW : Sub State.trackStart_cells W0) :
    Touch W0 s0 (State.trackStart s) := by
  have w100 : Writes W0 R.SRC_STATUS := Or.inl (hW.mem rfl)
  have w1407 : 0x1407 ∈ W0 := hW.mem rfl
  unfold State.trackStart
  repeat' first
    | with_reducible assumption
    | (extract_lets +onlyGivenNames xx; guard_hyp xx : State := _; refine Touch.cut (x := xx) ?_ ?_; (on_goal 2 => (intro hh; (try clear_value xx); revert xx; intro _ _)); any_goals (revert xx; intro _))
    | (extract_lets +onlyGivenNames xx; (try clear_value xx); revert xx; intro _)
    | with_reducible refine State.setFlag_touch ?_ _ _ ?_
    | with_reducible refine Touch.ite ?_ ?_
    | split
    | with_reducible refine Touch.update ?_

def State.trackChange_cells : List Nat :=
  [0x100, 0x1407]

theorem State.trackChange_touch {W0 : List Nat} {s0 s : State} (h0 : Touch W0 s0 s) (hW : Sub State.trackChange_cells W0) :
    Touch W0 s0 (State.trackChange s) := by
  have c_State_trackStart : Sub State.trackStart_cells W0 := Sub.trans (Sub.of rfl) hW
  have w1407 : 0x1407 ∈ W0 := hW.mem rfl
  unfold State.trackChange
  repeat' first
    | with_reducible assumption
    | (extract_lets +onlyGivenNames xx; (try clear_value xx); revert xx; intro _)
    | with_reducible refine State.trackStart_touch ?_ c_State_trackStart
    | with_reducible refine Touch.ite ?_ ?_
    | split
    | with_reducible refine Touch.update ?_

def State.changeoverDone_cells : List Nat :=
  [0x2, 0x6, 0x100, 0x101, 0x118, 0x200, 0x211, 0x300, 0x301, 0x31f, 0x400, 0x401, 0x40e, 0x40f, 0xa01, 0xa32, 0xc20,
   0xc21, 0xc25, 0x1405, 0x1407, 0x1408, 0x1409, 0x140d, 0x140f, 0x1413, 0x1415]

theorem State.changeoverDone_touch {W0 : List Nat} {s0 s : State} (h0 : Touch W0 s0 s) (hW : Sub State.changeoverDone_cells W0) (x : Source) (vmux : Nat) (us : Nat) :
    Touch W0 s0 (State.changeoverDone s x vmux us) := by
  have c_State_noTarget : Sub State.noTarget_cells W0 := Sub.trans (Sub.of rfl) hW
  have c_State_setVmux : Sub State.setVmux_cells W0 := Sub.trans (Sub.of rfl) hW
  have c_State_post : Sub State.post_cells W0 := Sub.trans (Sub.of rfl) hW
  have c_State_trackStart : Sub State.trackStart_cells W0 := Sub.trans (Sub.of rfl) hW
  have c_State_refreshPending : Sub State.refreshPending_cells W0 := Sub.trans (Sub.of rfl) hW
  have c_State_powerChanged : Sub State.powerChanged_cells W0 := Sub.trans (Sub.of rfl) hW
  have w100 : Writes W0 R.SRC_STATUS := Or.inl (hW.mem rfl)
  have w101 : Writes W0 R.SRC_EVENT := Or.inl (hW.mem rfl)
  have w118 : Writes W0 R.SRC_CHGOVRCNT := Or.inl (hW.mem rfl)
  have w400 : Writes W0 R.CONV_STATUS := Or.inl (hW.mem rfl)
  have w1407 : 0x1407 ∈ W0 := hW.mem rfl
  unfold State.changeoverDone
  repeat' first
    | with_reducible assumption
    | (extract_lets +onlyGivenNames xx; guard_hyp xx : State := _; refine Touch.cut (x := xx) ?_ ?_; (on_goal 2 => (intro hh; (try clear_value xx); revert xx; intro _ _)); any_goals (revert xx; intro _))
    | (extract_lets +onlyGivenNames xx; (try clear_value xx); revert xx; intro _)
    | with_reducible refine State.noTarget_touch ?_ c_State_noTarget
    | with_reducible refine State.setVmux_touch ?_ c_State_setVmux _
    | with_reducible refine State.post_touch ?_ c_State_post _ _
    | with_reducible refine State.trackStart_touch ?_ c_State_trackStart
    | with_reducible refine State.refreshPending_touch ?_ c_State_refreshPending
    | with_reducible refine State.powerChanged_touch ?_ c_State_powerChanged
    | with_reducible refine State.bump_touch ?_ _ _ ?_
    | with_reducible refine State.event_touch ?_ _ ?_
    | with_reducible refine State.setField_touch ?_ _ _ ?_
    | with_reducible refine State.setFlag_touch ?_ _ _ ?_
    | with_reducible refine Touch.update ?_

end Sys2Proof.Machine
end

