-- ==== Sys2Proof/Laws/TouchAlarm.lean ====
section
/-!
SUPPORT. What each operation of Machine/Alarm.lean can do: the registers and parts of the state it may write, and nothing
else; the unit, its queue and the form of its stores are kept.
-/

-- proofs are elaborated one after another: many at once ask for more threads than a memory limit allows
set_option Elab.async false

set_option linter.unusedTactic false
set_option linter.unusedVariables false
set_option linter.unusedSimpArgs false
set_option linter.unreachableTactic false
set_option linter.tactic.unusedName false

namespace Sys2Proof.Machine

def execAlarmPinEdge_cells : List Nat :=
  [0x1406]

theorem execAlarmPinEdge_touch {W0 : List Nat} {s0 s : State} (h0 : Touch W0 s0 s) (hW : Sub execAlarmPinEdge_cells W0) :
    TouchOut W0 s0 (execAlarmPinEdge s) := by
  have w1406 : 0x1406 ∈ W0 := hW.mem rfl
  unfold execAlarmPinEdge
  repeat' first
    | with_reducible assumption
    | with_reducible refine TouchOut.next ?_
    | (extract_lets +onlyGivenNames xx; (try clear_value xx); revert xx; intro _)
    | with_reducible refine State.whenLive_touch ?_ _ ?_
    | with_reducible intro _ _
    | with_reducible refine Touch.update ?_

def execSysClockRequestWithdraw_cells : List Nat :=
  [0x1406]

theorem execSysClockRequestWithdraw_touch {W0 : List Nat} {s0 s : State} (h0 : Touch W0 s0 s) (hW : Sub execSysClockRequestWithdraw_cells W0) :
    TouchOut W0 s0 (execSysClockRequestWithdraw s) := by
  have w1406 : 0x1406 ∈ W0 := hW.mem rfl
  unfold execSysClockRequestWithdraw
  repeat' first
    | with_reducible assumption
    | with_reducible refine TouchOut.next ?_
    | (extract_lets +onlyGivenNames xx; (try clear_value xx); revert xx; intro _)
    | with_reducible refine State.when_touch ?_ _ _ ?_
    | with_reducible intro _ _
    | with_reducible refine Touch.update ?_

def execLocalAlarmStart_cells : List Nat :=
  [0x2, 0x6, 0x200, 0x300, 0x301, 0x31f, 0x400, 0x401, 0x40f, 0x500, 0x700, 0x701, 0x801, 0x901, 0x90b, 0xa01, 0xa32,
   0xc20, 0xc21, 0xc25, 0x1402, 0x1405, 0x1406, 0x1408, 0x1409, 0x140a, 0x140c, 0x140d, 0x140f, 0x1411, 0x1413, 0x1415]

theorem execLocalAlarmStart_touch {W0 : List Nat} {s0 s : State} (h0 : Touch W0 s0 s) (hW : Sub execLocalAlarmStart_cells W0) :
    TouchOut W0 s0 (execLocalAlarmStart s) := by
  have c_State_localStart : Sub State.localStart_cells W0 := Sub.trans (Sub.of rfl) hW
  have w1406 : 0x1406 ∈ W0 := hW.mem rfl
  unfold execLocalAlarmStart
  repeat' first
    | with_reducible assumption
    | with_reducible refine TouchOut.next ?_
    | (extract_lets +onlyGivenNames xx; guard_hyp xx : State := _; refine Touch.cut (x := xx) ?_ ?_; (on_goal 2 => (intro hh; (try clear_value xx); revert xx; intro _ _)); any_goals (revert xx; intro _))
    | (extract_lets +onlyGivenNames xx; (try clear_value xx); revert xx; intro _)
    | with_reducible refine State.localStart_touch ?_ c_State_localStart _
    | with_reducible refine State.when_touch ?_ _ _ ?_
    | with_reducible intro _ _
    | with_reducible refine Touch.update ?_

def execHornReady_cells : List Nat :=
  [0x400, 0x40d, 0x500, 0x700, 0x1406, 0x1408]

theorem execHornReady_touch {W0 : List Nat} {s0 s : State} (h0 : Touch W0 s0 s) (hW : Sub execHornReady_cells W0) (vhorn : Nat) :
    TouchOut W0 s0 (execHornReady vhorn s) := by
  have c_State_refreshHorn : Sub State.refreshHorn_cells W0 := Sub.trans (Sub.of rfl) hW
  have w400 : Writes W0 R.CONV_STATUS := Or.inl (hW.mem rfl)
  have w40d : Writes W0 R.CONV_HORN_MEAS := Or.inl (hW.mem rfl)
  have w700 : Writes W0 R.ALM_STATUS := Or.inl (hW.mem rfl)
  have w1406 : 0x1406 ∈ W0 := hW.mem rfl
  have w1408 : 0x1408 ∈ W0 := hW.mem rfl
  unfold execHornReady
  repeat' first
    | with_reducible assumption
    | with_reducible refine TouchOut.next ?_
    | (extract_lets +onlyGivenNames xx; guard_hyp xx : State := _; refine Touch.cut (x := xx) ?_ ?_; (on_goal 2 => (intro hh; (try clear_value xx); revert xx; intro _ _)); any_goals (revert xx; intro _))
    | (extract_lets +onlyGivenNames xx; (try clear_value xx); revert xx; intro _)
    | with_reducible refine State.refreshHorn_touch ?_ c_State_refreshHorn
    | with_reducible refine State.setFlag_touch ?_ _ _ ?_
    | with_reducible refine State.setReg_touch ?_ _ _ ?_
    | with_reducible refine State.when_touch ?_ _ _ ?_
    | with_reducible intro _ _
    | with_reducible refine Touch.update ?_

def execHornFail_cells : List Nat :=
  [0x210, 0x40d, 0x701, 0xa01, 0xa32, 0x1406, 0x1408, 0x140a, 0x140f]

theorem execHornFail_touch {W0 : List Nat} {s0 s : State} (h0 : Touch W0 s0 s) (hW : Sub execHornFail_cells W0) (vhorn : Nat) (vsys : Nat) :
    TouchOut W0 s0 (execHornFail vhorn vsys s) := by
  have c_State_post : Sub State.post_cells W0 := Sub.trans (Sub.of rfl) hW
  have c_State_postFault : Sub State.postFault_cells W0 := Sub.trans (Sub.of rfl) hW
  have w210 : Writes W0 R.PATH_VSYS := Or.inl (hW.mem rfl)
  have w40d : Writes W0 R.CONV_HORN_MEAS := Or.inl (hW.mem rfl)
  have w701 : Writes W0 R.ALM_EVENT := Or.inl (hW.mem rfl)
  have w1406 : 0x1406 ∈ W0 := hW.mem rfl
  have w1408 : 0x1408 ∈ W0 := hW.mem rfl
  unfold execHornFail
  repeat' first
    | with_reducible assumption
    | with_reducible refine TouchOut.next ?_
    | (extract_lets +onlyGivenNames xx; guard_hyp xx : State := _; refine Touch.cut (x := xx) ?_ ?_; (on_goal 2 => (intro hh; (try clear_value xx); revert xx; intro _ _)); any_goals (revert xx; intro _))
    | (extract_lets +onlyGivenNames xx; (try clear_value xx); revert xx; intro _)
    | with_reducible refine State.post_touch ?_ c_State_post _ _
    | with_reducible refine State.postFault_touch ?_ c_State_postFault _ _
    | with_reducible refine State.event_touch ?_ _ ?_
    | with_reducible refine State.setReg_touch ?_ _ _ ?_
    | with_reducible refine State.when_touch ?_ _ _ ?_
    | with_reducible intro _ _
    | with_reducible refine Touch.update ?_

def execAlarmCopyDue_cells : List Nat :=
  [0x1406, 0x140a]

theorem execAlarmCopyDue_touch {W0 : List Nat} {s0 s : State} (h0 : Touch W0 s0 s) (hW : Sub execAlarmCopyDue_cells W0) :
    TouchOut W0 s0 (execAlarmCopyDue s) := by
  have c_State_alarmCopy : Sub State.alarmCopy_cells W0 := Sub.trans (Sub.of rfl) hW
  unfold execAlarmCopyDue
  repeat' first
    | with_reducible assumption
    | with_reducible refine TouchOut.next ?_
    | with_reducible refine State.alarmCopy_touch ?_ c_State_alarmCopy _
    | with_reducible refine State.when_touch ?_ _ _ ?_
    | with_reducible intro _ _
    | split

def execDiscGlitch_cells : List Nat :=
  [0x700, 0x707, 0xa01, 0xa32, 0x1406, 0x140f]

theorem execDiscGlitch_touch {W0 : List Nat} {s0 s : State} (h0 : Touch W0 s0 s) (hW : Sub execDiscGlitch_cells W0) (samples : Nat) :
    TouchOut W0 s0 (execDiscGlitch samples s) := by
  have c_State_setChannels : Sub State.setChannels_cells W0 := Sub.trans (Sub.of rfl) hW
  have c_State_discAgreed : Sub State.discAgreed_cells W0 := Sub.trans (Sub.of rfl) hW
  have c_State_tally : Sub State.tally_cells W0 := Sub.trans (Sub.of rfl) hW
  have w707 : Writes W0 R.ALM_GLITCHCNT := Or.inl (hW.mem rfl)
  unfold execDiscGlitch
  repeat' first
    | with_reducible assumption
    | with_reducible refine TouchOut.next ?_
    | (extract_lets +onlyGivenNames xx; guard_hyp xx : State := _; refine Touch.cut (x := xx) ?_ ?_; (on_goal 2 => (intro hh; (try clear_value xx); revert xx; intro _ _)); any_goals (revert xx; intro _))
    | (extract_lets +onlyGivenNames xx; (try clear_value xx); revert xx; intro _)
    | with_reducible refine State.setChannels_touch ?_ c_State_setChannels _ _
    | with_reducible refine State.discAgreed_touch ?_ c_State_discAgreed
    | with_reducible refine State.tally_touch ?_ c_State_tally _
    | with_reducible refine State.bump_touch ?_ _ _ ?_
    | with_reducible refine State.when_touch ?_ _ _ ?_
    | with_reducible intro _ _

def execDiscFault_cells : List Nat :=
  [0x6, 0x200, 0x300, 0x301, 0x31f, 0x400, 0x401, 0x40f, 0x500, 0x700, 0x701, 0x801, 0xa01, 0xa32, 0xc20, 0xc21,
   0xc25, 0x1402, 0x1405, 0x1406, 0x1408, 0x1409, 0x140d, 0x140f, 0x1411, 0x1413, 0x1415]

theorem execDiscFault_touch {W0 : List Nat} {s0 s : State} (h0 : Touch W0 s0 s) (hW : Sub execDiscFault_cells W0) (c : Channel) (samples : Nat) :
    TouchOut W0 s0 (execDiscFault c samples s) := by
  have c_State_discFault : Sub State.discFault_cells W0 := Sub.trans (Sub.of rfl) hW
  unfold execDiscFault
  repeat' first
    | with_reducible assumption
    | with_reducible refine TouchOut.next ?_
    | with_reducible refine State.discFault_touch ?_ c_State_discFault _ _
    | with_reducible refine State.when_touch ?_ _ _ ?_
    | with_reducible intro _ _

def execDiscBroadcast_cells : List Nat :=
  [0x700, 0x701, 0x140a]

theorem execDiscBroadcast_touch {W0 : List Nat} {s0 s : State} (h0 : Touch W0 s0 s) (hW : Sub execDiscBroadcast_cells W0) :
    TouchOut W0 s0 (execDiscBroadcast s) := by
  have c_State_setChannels : Sub State.setChannels_cells W0 := Sub.trans (Sub.of rfl) hW
  have c_State_postFault : Sub State.postFault_cells W0 := Sub.trans (Sub.of rfl) hW
  have w700 : Writes W0 R.ALM_STATUS := Or.inl (hW.mem rfl)
  have w701 : Writes W0 R.ALM_EVENT := Or.inl (hW.mem rfl)
  unfold execDiscBroadcast
  repeat' first
    | with_reducible assumption
    | with_reducible refine TouchOut.next ?_
    | with_reducible refine State.setChannels_touch ?_ c_State_setChannels _ _
    | with_reducible refine State.postFault_touch ?_ c_State_postFault _ _
    | with_reducible refine State.event_touch ?_ _ ?_
    | with_reducible refine State.setFlag_touch ?_ _ _ ?_
    | with_reducible refine State.when_touch ?_ _ _ ?_
    | with_reducible intro _ _

def execDiscClear_cells : List Nat :=
  [0x700, 0xa01, 0xa32, 0x1406, 0x140f]

theorem execDiscClear_touch {W0 : List Nat} {s0 s : State} (h0 : Touch W0 s0 s) (hW : Sub execDiscClear_cells W0) :
    TouchOut W0 s0 (execDiscClear s) := by
  have c_State_setChannels : Sub State.setChannels_cells W0 := Sub.trans (Sub.of rfl) hW
  have c_State_discEnd : Sub State.discEnd_cells W0 := Sub.trans (Sub.of rfl) hW
  unfold execDiscClear
  repeat' first
    | with_reducible assumption
    | with_reducible refine TouchOut.next ?_
    | (extract_lets +onlyGivenNames xx; (try clear_value xx); revert xx; intro _)
    | with_reducible refine State.setChannels_touch ?_ c_State_setChannels _ _
    | with_reducible refine State.discEnd_touch ?_ c_State_discEnd
    | with_reducible refine State.when_touch ?_ _ _ ?_
    | with_reducible intro _ _

def execLocalAlarmEnd_cells : List Nat :=
  [0x2, 0x6, 0x100, 0x101, 0x110, 0x111, 0x112, 0x113, 0x114, 0x116, 0x200, 0x300, 0x301, 0x31f, 0x400, 0x401, 0x40e,
   0x40f, 0x500, 0x600, 0x601, 0x624, 0x700, 0x701, 0x70c, 0x70d, 0x70e, 0x70f, 0x900, 0x901, 0xa01, 0xa32, 0xb00,
   0xb01, 0xb18, 0xc00, 0xc06, 0xc20, 0xc21, 0xc25, 0xc30, 0xc34, 0xe00, 0x1405, 0x1406, 0x1407, 0x1408, 0x1409,
   0x140a, 0x140b, 0x140c, 0x140d, 0x140f, 0x1412, 0x1413, 0x1414, 0x1415, 0x1418]

theorem execLocalAlarmEnd_touch {W0 : List Nat} {s0 s : State} (h0 : Touch W0 s0 s) (hW : Sub execLocalAlarmEnd_cells W0) :
    TouchOut W0 s0 (execLocalAlarmEnd s) := by
  have c_State_localEnd : Sub State.localEnd_cells W0 := Sub.trans (Sub.of rfl) hW
  have c_State_cutoffAgain : Sub State.cutoffAgain_cells W0 := Sub.trans (Sub.of rfl) hW
  unfold execLocalAlarmEnd
  repeat' first
    | with_reducible assumption
    | with_reducible refine TouchOut.next ?_
    | with_reducible refine State.localEnd_touch ?_ c_State_localEnd _
    | with_reducible refine State.cutoffAgain_touch ?_ c_State_cutoffAgain
    | with_reducible refine State.when_touch ?_ _ _ ?_
    | with_reducible intro _ _

def execHornRelease_cells : List Nat :=
  [0x300, 0x400, 0x401, 0x40d, 0x40f, 0x700, 0xa01, 0xa32, 0x1406, 0x1408, 0x140f, 0x1411]

theorem execHornRelease_touch {W0 : List Nat} {s0 s : State} (h0 : Touch W0 s0 s) (hW : Sub execHornRelease_cells W0) :
    TouchOut W0 s0 (execHornRelease s) := by
  have c_State_hornOff : Sub State.hornOff_cells W0 := Sub.trans (Sub.of rfl) hW
  have c_State_alarmRelease : Sub State.alarmRelease_cells W0 := Sub.trans (Sub.of rfl) hW
  unfold execHornRelease
  repeat' first
    | with_reducible assumption
    | with_reducible refine TouchOut.next ?_
    | with_reducible refine State.hornOff_touch ?_ c_State_hornOff
    | with_reducible refine State.alarmRelease_touch ?_ c_State_alarmRelease
    | with_reducible refine State.when_touch ?_ _ _ ?_
    | with_reducible intro _ _

def execAlarmFrameRx_cells : List Nat :=
  [0x2, 0x6, 0x200, 0x300, 0x301, 0x31f, 0x400, 0x401, 0x40f, 0x500, 0x501, 0x504, 0x505, 0x506, 0x507, 0x509, 0x512,
   0x518, 0x700, 0x701, 0x708, 0x709, 0x70a, 0x70b, 0x70c, 0x70d, 0x70e, 0x70f, 0x710, 0x801, 0x901, 0x90b, 0xa01,
   0xa32, 0xc20, 0xc21, 0xc25, 0x1402, 0x1405, 0x1406, 0x1408, 0x1409, 0x140a, 0x140b, 0x140c, 0x140d, 0x140f, 0x1411,
   0x1413, 0x1415, 0x1417]

theorem execAlarmFrameRx_touch {W0 : List Nat} {s0 s : State} (h0 : Touch W0 s0 s) (hW : Sub execAlarmFrameRx_cells W0) (addr : Nat) (kind : Nat) (data : List Byte) (c : Carrier) :
    TouchOut W0 s0 (execAlarmFrameRx addr kind data c s) := by
  have c_State_receive : Sub State.receive_cells W0 := Sub.trans (Sub.of rfl) hW
  have c_State_remoteAlarm : Sub State.remoteAlarm_cells W0 := Sub.trans (Sub.of rfl) hW
  unfold execAlarmFrameRx
  repeat' first
    | with_reducible assumption
    | with_reducible refine TouchOut.next ?_
    | with_reducible refine State.receive_touch ?_ c_State_receive _ _ _ ?_
    | with_reducible refine State.remoteAlarm_touch ?_ c_State_remoteAlarm _ _ _
    | with_reducible refine Touch.ite ?_ ?_
    | with_reducible intro _ _

def execClearFrameRx_cells : List Nat :=
  [0x2, 0x6, 0x100, 0x101, 0x110, 0x111, 0x112, 0x113, 0x114, 0x116, 0x200, 0x300, 0x301, 0x31f, 0x400, 0x401, 0x40e,
   0x40f, 0x500, 0x501, 0x504, 0x505, 0x506, 0x507, 0x509, 0x512, 0x518, 0x600, 0x601, 0x624, 0x700, 0x701, 0x708,
   0x709, 0x70a, 0x70b, 0x70c, 0x70d, 0x70e, 0x70f, 0x900, 0x901, 0xa01, 0xa32, 0xb00, 0xb01, 0xb18, 0xc00, 0xc06,
   0xc20, 0xc21, 0xc25, 0xc30, 0xc34, 0xe00, 0x1405, 0x1406, 0x1407, 0x1408, 0x1409, 0x140a, 0x140b, 0x140c, 0x140d,
   0x140f, 0x1412, 0x1413, 0x1414, 0x1415, 0x1417, 0x1418]

theorem execClearFrameRx_touch {W0 : List Nat} {s0 s : State} (h0 : Touch W0 s0 s) (hW : Sub execClearFrameRx_cells W0) (addr : Nat) (data : List Byte) (c : Carrier) :
    TouchOut W0 s0 (execClearFrameRx addr data c s) := by
  have c_State_receive : Sub State.receive_cells W0 := Sub.trans (Sub.of rfl) hW
  have c_State_remoteEnd : Sub State.remoteEnd_cells W0 := Sub.trans (Sub.of rfl) hW
  have c_State_cutoffAgain : Sub State.cutoffAgain_cells W0 := Sub.trans (Sub.of rfl) hW
  have w701 : Writes W0 R.ALM_EVENT := Or.inl (hW.mem rfl)
  unfold execClearFrameRx
  repeat' first
    | with_reducible assumption
    | with_reducible refine TouchOut.next ?_
    | with_reducible refine State.receive_touch ?_ c_State_receive _ _ _ ?_
    | with_reducible refine State.remoteEnd_touch ?_ c_State_remoteEnd _ _
    | with_reducible refine State.cutoffAgain_touch ?_ c_State_cutoffAgain
    | with_reducible refine State.event_touch ?_ _ ?_
    | with_reducible intro _ _

def execRemoteTimeout_cells : List Nat :=
  [0x2, 0x6, 0x100, 0x101, 0x110, 0x111, 0x112, 0x113, 0x114, 0x116, 0x200, 0x300, 0x301, 0x31f, 0x400, 0x401, 0x40e,
   0x40f, 0x500, 0x600, 0x601, 0x624, 0x700, 0x701, 0x708, 0x709, 0x70a, 0x70b, 0x70c, 0x70d, 0x70e, 0x70f, 0x900,
   0x901, 0xa01, 0xa32, 0xb00, 0xb01, 0xb18, 0xc00, 0xc06, 0xc20, 0xc21, 0xc25, 0xc30, 0xc34, 0xe00, 0x1405, 0x1406,
   0x1407, 0x1408, 0x1409, 0x140b, 0x140c, 0x140d, 0x140f, 0x1412, 0x1413, 0x1414, 0x1415, 0x1418]

theorem execRemoteTimeout_touch {W0 : List Nat} {s0 s : State} (h0 : Touch W0 s0 s) (hW : Sub execRemoteTimeout_cells W0) (addr : Nat) :
    TouchOut W0 s0 (execRemoteTimeout addr s) := by
  have c_State_remoteEnd : Sub State.remoteEnd_cells W0 := Sub.trans (Sub.of rfl) hW
  have c_State_cutoffAgain : Sub State.cutoffAgain_cells W0 := Sub.trans (Sub.of rfl) hW
  unfold execRemoteTimeout
  repeat' first
    | with_reducible assumption
    | with_reducible refine TouchOut.next ?_
    | with_reducible refine State.remoteEnd_touch ?_ c_State_remoteEnd _ _
    | with_reducible refine State.cutoffAgain_touch ?_ c_State_cutoffAgain
    | with_reducible refine State.when_touch ?_ _ _ ?_
    | with_reducible intro _ _

def execHushPress_cells : List Nat :=
  [0x500, 0x700, 0x701, 0x70c, 0x70d, 0x70e, 0x70f, 0x1406, 0x140a]

theorem execHushPress_touch {W0 : List Nat} {s0 s : State} (h0 : Touch W0 s0 s) (hW : Sub execHushPress_cells W0) :
    TouchOut W0 s0 (execHushPress s) := by
  have c_State_hushPress : Sub State.hushPress_cells W0 := Sub.trans (Sub.of rfl) hW
  unfold execHushPress
  repeat' first
    | with_reducible assumption
    | with_reducible refine TouchOut.next ?_
    | with_reducible refine State.hushPress_touch ?_ c_State_hushPress
    | with_reducible refine State.whenLive_touch ?_ _ ?_
    | with_reducible intro _ _

def execHushFrameRx_cells : List Nat :=
  [0x500, 0x501, 0x504, 0x505, 0x506, 0x507, 0x509, 0x512, 0x518, 0x700, 0x701, 0x70c, 0x70d, 0x70e, 0x70f, 0xa01,
   0xa32, 0x1406, 0x140a, 0x140b, 0x140f, 0x1417]

theorem execHushFrameRx_touch {W0 : List Nat} {s0 s : State} (h0 : Touch W0 s0 s) (hW : Sub execHushFrameRx_cells W0) (addr : Nat) (data : List Byte) (c : Carrier) :
    TouchOut W0 s0 (execHushFrameRx addr data c s) := by
  have c_State_receive : Sub State.receive_cells W0 := Sub.trans (Sub.of rfl) hW
  have c_State_applyHush : Sub State.applyHush_cells W0 := Sub.trans (Sub.of rfl) hW
  have c_State_postHushRecord : Sub State.postHushRecord_cells W0 := Sub.trans (Sub.of rfl) hW
  have w701 : Writes W0 R.ALM_EVENT := Or.inl (hW.mem rfl)
  unfold execHushFrameRx
  repeat' first
    | with_reducible assumption
    | with_reducible refine TouchOut.next ?_
    | with_reducible refine State.receive_touch ?_ c_State_receive _ _ _ ?_
    | with_reducible refine State.applyHush_touch ?_ c_State_applyHush
    | with_reducible refine State.postHushRecord_touch ?_ c_State_postHushRecord _ _
    | with_reducible refine State.event_touch ?_ _ ?_
    | with_reducible intro _ _

def execHushTimerExpiry_cells : List Nat :=
  [0x500, 0x700, 0x70c, 0x70d, 0x70e, 0x70f, 0x1406]

theorem execHushTimerExpiry_touch {W0 : List Nat} {s0 s : State} (h0 : Touch W0 s0 s) (hW : Sub execHushTimerExpiry_cells W0) :
    TouchOut W0 s0 (execHushTimerExpiry s) := by
  have c_State_hushEnd : Sub State.hushEnd_cells W0 := Sub.trans (Sub.of rfl) hW
  unfold execHushTimerExpiry
  repeat' first
    | with_reducible assumption
    | with_reducible refine TouchOut.next ?_
    | with_reducible refine State.hushEnd_touch ?_ c_State_hushEnd
    | with_reducible refine State.when_touch ?_ _ _ ?_
    | with_reducible intro _ _

def execHushClearRepeat_cells : List Nat :=
  [0x1406, 0x140a]

theorem execHushClearRepeat_touch {W0 : List Nat} {s0 s : State} (h0 : Touch W0 s0 s) (hW : Sub execHushClearRepeat_cells W0) :
    TouchOut W0 s0 (execHushClearRepeat s) := by
  have c_State_postHush : Sub State.postHush_cells W0 := Sub.trans (Sub.of rfl) hW
  have w1406 : 0x1406 ∈ W0 := hW.mem rfl
  unfold execHushClearRepeat
  repeat' first
    | with_reducible assumption
    | with_reducible refine TouchOut.next ?_
    | (extract_lets +onlyGivenNames xx; (try clear_value xx); revert xx; intro _)
    | with_reducible refine State.postHush_touch ?_ c_State_postHush _
    | with_reducible refine State.whenLive_touch ?_ _ ?_
    | with_reducible intro _ _
    | split
    | with_reducible refine Touch.update ?_

def execVauxHoldExpiry_cells : List Nat :=
  [0x2, 0x6, 0x100, 0x101, 0x110, 0x111, 0x112, 0x113, 0x114, 0x116, 0x200, 0x300, 0x301, 0x31f, 0x400, 0x401, 0x40e,
   0x40f, 0x500, 0x600, 0x601, 0x624, 0x700, 0x701, 0x70c, 0x70d, 0x70e, 0x70f, 0x900, 0x901, 0xa01, 0xa32, 0xb00,
   0xb01, 0xb18, 0xc00, 0xc06, 0xc20, 0xc21, 0xc25, 0xc30, 0xc34, 0xe00, 0x1405, 0x1406, 0x1407, 0x1408, 0x1409,
   0x140a, 0x140b, 0x140c, 0x140d, 0x140f, 0x1412, 0x1413, 0x1414, 0x1415, 0x1418]

theorem execVauxHoldExpiry_touch {W0 : List Nat} {s0 s : State} (h0 : Touch W0 s0 s) (hW : Sub execVauxHoldExpiry_cells W0) :
    TouchOut W0 s0 (execVauxHoldExpiry s) := by
  have c_State_setChannels : Sub State.setChannels_cells W0 := Sub.trans (Sub.of rfl) hW
  have c_State_discAgreed : Sub State.discAgreed_cells W0 := Sub.trans (Sub.of rfl) hW
  have c_State_localEnd : Sub State.localEnd_cells W0 := Sub.trans (Sub.of rfl) hW
  have c_State_cutoffAgain : Sub State.cutoffAgain_cells W0 := Sub.trans (Sub.of rfl) hW
  have w1406 : 0x1406 ∈ W0 := hW.mem rfl
  unfold execVauxHoldExpiry
  repeat' first
    | with_reducible assumption
    | with_reducible refine TouchOut.next ?_
    | (extract_lets +onlyGivenNames xx; guard_hyp xx : State := _; refine Touch.cut (x := xx) ?_ ?_; (on_goal 2 => (intro hh; (try clear_value xx); revert xx; intro _ _)); any_goals (revert xx; intro _))
    | (extract_lets +onlyGivenNames xx; (try clear_value xx); revert xx; intro _)
    | with_reducible refine State.setChannels_touch ?_ c_State_setChannels _ _
    | with_reducible refine State.discAgreed_touch ?_ c_State_discAgreed
    | with_reducible refine State.localEnd_touch ?_ c_State_localEnd _
    | with_reducible refine State.cutoffAgain_touch ?_ c_State_cutoffAgain
    | with_reducible refine State.when_touch ?_ _ _ ?_
    | with_reducible intro _ _
    | with_reducible refine Touch.update ?_

end Sys2Proof.Machine
end

