-- ==== Sys2Proof/Laws/TouchLinkActs.lean ====
section
/-!
SUPPORT. What each operation of Machine/LinkActs.lean can do: the registers and parts of the state it may write, and nothing
else; the unit, its queue and the form of its stores are kept.
-/

-- proofs are elaborated one after another: many at once ask for more threads than a memory limit allows
set_option Elab.async false

set_option linter.unusedTactic false
set_option linter.unusedVariables false
set_option linter.unusedSimpArgs false
set_option linter.unreachableTactic false
set_option linter.tactic.unusedName false

namespace Sys2Proof.Machine

def State.hbMark_cells : List Nat :=
  [0x140a]

theorem State.hbMark_touch {W0 : List Nat} {s0 s : State} (h0 : Touch W0 s0 s) (hW : Sub State.hbMark_cells W0) :
    Touch W0 s0 (State.hbMark s) := by
  have w140a : 0x140a ∈ W0 := hW.mem rfl
  unfold State.hbMark
  repeat' first
    | with_reducible assumption
    | (extract_lets +onlyGivenNames xx; (try clear_value xx); revert xx; intro _)
    | with_reducible refine Touch.ite ?_ ?_
    | split
    | with_reducible refine Touch.update ?_

def State.postCensus_cells : List Nat :=
  [0x501, 0x140a]

theorem State.postCensus_touch {W0 : List Nat} {s0 s : State} (h0 : Touch W0 s0 s) (hW : Sub State.postCensus_cells W0) :
    Touch W0 s0 (State.postCensus s) := by
  have c_State_postTx : Sub State.postTx_cells W0 := Sub.trans (Sub.of rfl) hW
  have w140a : 0x140a ∈ W0 := hW.mem rfl
  unfold State.postCensus
  repeat' first
    | with_reducible assumption
    | (extract_lets +onlyGivenNames xx; guard_hyp xx : State := _; refine Touch.cut (x := xx) ?_ ?_; (on_goal 2 => (intro hh; (try clear_value xx); revert xx; intro _ _)); any_goals (revert xx; intro _))
    | (extract_lets +onlyGivenNames xx; (try clear_value xx); revert xx; intro _)
    | with_reducible refine State.postTx_touch ?_ c_State_postTx _ _ _
    | with_reducible refine Touch.ite ?_ ?_
    | with_reducible refine Touch.update ?_

def State.censusStart_cells : List Nat :=
  [0x501, 0x140a]

theorem State.censusStart_touch {W0 : List Nat} {s0 s : State} (h0 : Touch W0 s0 s) (hW : Sub State.censusStart_cells W0) :
    Touch W0 s0 (State.censusStart s) := by
  have c_State_postCensus : Sub State.postCensus_cells W0 := Sub.trans (Sub.of rfl) hW
  have w140a : 0x140a ∈ W0 := hW.mem rfl
  unfold State.censusStart
  repeat' first
    | with_reducible assumption
    | (extract_lets +onlyGivenNames xx; guard_hyp xx : State := _; refine Touch.cut (x := xx) ?_ ?_; (on_goal 2 => (intro hh; (try clear_value xx); revert xx; intro _ _)); any_goals (revert xx; intro _))
    | (extract_lets +onlyGivenNames xx; (try clear_value xx); revert xx; intro _)
    | with_reducible refine State.postCensus_touch ?_ c_State_postCensus
    | with_reducible refine Touch.ite ?_ ?_
    | with_reducible refine Touch.update ?_

def State.txBegin_cells : List Nat :=
  [0x500, 0x501, 0x504, 0x140a]

theorem State.txBegin_touch {W0 : List Nat} {s0 s : State} (h0 : Touch W0 s0 s) (hW : Sub State.txBegin_cells W0) :
    Touch W0 s0 (State.txBegin s) := by
  have c_State_hbMark : Sub State.hbMark_cells W0 := Sub.trans (Sub.of rfl) hW
  have c_State_postClaim : Sub State.postClaim_cells W0 := Sub.trans (Sub.of rfl) hW
  have c_State_retarget : Sub State.retarget_cells W0 := Sub.trans (Sub.of rfl) hW
  have c_State_startListening : Sub State.startListening_cells W0 := Sub.trans (Sub.of rfl) hW
  have c_State_censusStart : Sub State.censusStart_cells W0 := Sub.trans (Sub.of rfl) hW
  have w504 : Writes W0 R.TET_ADDR := Or.inl (hW.mem rfl)
  have w140a : 0x140a ∈ W0 := hW.mem rfl
  unfold State.txBegin
  repeat' first
    | with_reducible assumption
    | (extract_lets +onlyGivenNames xx; guard_hyp xx : State := _; refine Touch.cut (x := xx) ?_ ?_; (on_goal 2 => (intro hh; (try clear_value xx); revert xx; intro _ _)); any_goals (revert xx; intro _))
    | (extract_lets +onlyGivenNames xx; (try clear_value xx); revert xx; intro _)
    | with_reducible refine State.hbMark_touch ?_ c_State_hbMark
    | with_reducible refine State.postClaim_touch ?_ c_State_postClaim _
    | with_reducible refine State.retarget_touch ?_ c_State_retarget
    | with_reducible refine State.startListening_touch ?_ c_State_startListening
    | with_reducible refine State.censusStart_touch ?_ c_State_censusStart
    | with_reducible refine State.setField_touch ?_ _ _ ?_
    | with_reducible refine Touch.ite ?_ ?_
    | split
    | with_reducible refine Touch.update ?_

def State.bidTentDraw_cells : List Nat :=
  [0x601, 0x610, 0x611, 0x612, 0x613, 0x614, 0x615, 0x616, 0x617, 0xa01, 0xa32, 0x140b, 0x140f, 0x1417]

theorem State.bidTentDraw_touch {W0 : List Nat} {s0 s : State} (h0 : Touch W0 s0 s) (hW : Sub State.bidTentDraw_cells W0) (x : OwnBid) :
    Touch W0 s0 (State.bidTentDraw s x) := by
  have c_State_setDraw : Sub State.setDraw_cells W0 := Sub.trans (Sub.of rfl) hW
  unfold State.bidTentDraw
  repeat' first
    | with_reducible assumption
    | with_reducible refine State.setDraw_touch ?_ c_State_setDraw _ _ _ _ _ _
    | with_reducible refine Touch.ite ?_ ?_
    | split

def State.sentEffect_cells : List Nat :=
  [0x500, 0x601, 0x610, 0x611, 0x612, 0x613, 0x614, 0x615, 0x616, 0x617, 0x700, 0x70c, 0x70d, 0x70e, 0x70f, 0xa01,
   0xa32, 0x1406, 0x140a, 0x140b, 0x140f, 0x1417]

theorem State.sentEffect_touch {W0 : List Nat} {s0 s : State} (h0 : Touch W0 s0 s) (hW : Sub State.sentEffect_cells W0) (f : Frame) :
    Touch W0 s0 (State.sentEffect s f) := by
  have c_State_applyHush : Sub State.applyHush_cells W0 := Sub.trans (Sub.of rfl) hW
  have c_State_postHushRecord : Sub State.postHushRecord_cells W0 := Sub.trans (Sub.of rfl) hW
  have c_State_bidClock : Sub State.bidClock_cells W0 := Sub.trans (Sub.of rfl) hW
  have c_State_bidTentDraw : Sub State.bidTentDraw_cells W0 := Sub.trans (Sub.of rfl) hW
  have w1406 : 0x1406 ∈ W0 := hW.mem rfl
  have w140a : 0x140a ∈ W0 := hW.mem rfl
  have w140b : 0x140b ∈ W0 := hW.mem rfl
  unfold State.sentEffect
  repeat' first
    | with_reducible assumption
    | (extract_lets +onlyGivenNames xx; (try clear_value xx); revert xx; intro _)
    | with_reducible refine State.applyHush_touch ?_ c_State_applyHush
    | with_reducible refine State.postHushRecord_touch ?_ c_State_postHushRecord _ _
    | with_reducible refine State.bidClock_touch ?_ c_State_bidClock _
    | with_reducible refine State.bidTentDraw_touch ?_ c_State_bidTentDraw _
    | with_reducible refine Touch.ite ?_ ?_
    | split
    | with_reducible refine Touch.update ?_

def State.frameSent_cells : List Nat :=
  [0x500, 0x501, 0x508, 0x517, 0x601, 0x610, 0x611, 0x612, 0x613, 0x614, 0x615, 0x616, 0x617, 0x700, 0x70c, 0x70d,
   0x70e, 0x70f, 0xa01, 0xa32, 0x1406, 0x140a, 0x140b, 0x140f, 0x1417]

theorem State.frameSent_touch {W0 : List Nat} {s0 s : State} (h0 : Touch W0 s0 s) (hW : Sub State.frameSent_cells W0) (f : Frame) :
    Touch W0 s0 (State.frameSent s f) := by
  have c_State_unpend : Sub State.unpend_cells W0 := Sub.trans (Sub.of rfl) hW
  have c_State_countStart : Sub State.countStart_cells W0 := Sub.trans (Sub.of rfl) hW
  have c_State_setTec : Sub State.setTec_cells W0 := Sub.trans (Sub.of rfl) hW
  have c_State_sentEffect : Sub State.sentEffect_cells W0 := Sub.trans (Sub.of rfl) hW
  have w501 : Writes W0 R.TET_EVENT := Or.inl (hW.mem rfl)
  have w517 : Writes W0 R.TET_TXCNT := Or.inl (hW.mem rfl)
  unfold State.frameSent
  repeat' first
    | with_reducible assumption
    | (extract_lets +onlyGivenNames xx; guard_hyp xx : State := _; refine Touch.cut (x := xx) ?_ ?_; (on_goal 2 => (intro hh; (try clear_value xx); revert xx; intro _ _)); any_goals (revert xx; intro _))
    | with_reducible refine State.unpend_touch ?_ c_State_unpend _
    | with_reducible refine State.countStart_touch ?_ c_State_countStart _
    | with_reducible refine State.setTec_touch ?_ c_State_setTec _
    | with_reducible refine State.sentEffect_touch ?_ c_State_sentEffect _
    | with_reducible refine State.bump_touch ?_ _ _ ?_
    | with_reducible refine State.event_touch ?_ _ ?_

def State.dropTried_cells : List Nat :=
  [0x501, 0xa01, 0xa32, 0x140a, 0x140f]

theorem State.dropTried_touch {W0 : List Nat} {s0 s : State} (h0 : Touch W0 s0 s) (hW : Sub State.dropTried_cells W0) (f : Frame) :
    Touch W0 s0 (State.dropTried s f) := by
  have c_State_unpend : Sub State.unpend_cells W0 := Sub.trans (Sub.of rfl) hW
  have c_State_tally : Sub State.tally_cells W0 := Sub.trans (Sub.of rfl) hW
  have c_State_postStatus : Sub State.postStatus_cells W0 := Sub.trans (Sub.of rfl) hW
  have w501 : Writes W0 R.TET_EVENT := Or.inl (hW.mem rfl)
  unfold State.dropTried
  repeat' first
    | with_reducible assumption
    | (extract_lets +onlyGivenNames xx; guard_hyp xx : State := _; refine Touch.cut (x := xx) ?_ ?_; (on_goal 2 => (intro hh; (try clear_value xx); revert xx; intro _ _)); any_goals (revert xx; intro _))
    | with_reducible refine State.unpend_touch ?_ c_State_unpend _
    | with_reducible refine State.tally_touch ?_ c_State_tally _
    | with_reducible refine State.postStatus_touch ?_ c_State_postStatus _
    | with_reducible refine State.event_touch ?_ _ ?_
    | with_reducible refine Touch.ite ?_ ?_

def State.frameFailed_cells : List Nat :=
  [0x500, 0x501, 0x508, 0x513, 0x514, 0xa01, 0xa32, 0x140a, 0x140f]

theorem State.frameFailed_touch {W0 : List Nat} {s0 s : State} (h0 : Touch W0 s0 s) (hW : Sub State.frameFailed_cells W0) (f : Frame) (x : TxFail) :
    Touch W0 s0 (State.frameFailed s f x) := by
  have c_State_countStart : Sub State.countStart_cells W0 := Sub.trans (Sub.of rfl) hW
  have c_State_linkError : Sub State.linkError_cells W0 := Sub.trans (Sub.of rfl) hW
  have c_State_setTec : Sub State.setTec_cells W0 := Sub.trans (Sub.of rfl) hW
  have c_State_retryFrame : Sub State.retryFrame_cells W0 := Sub.trans (Sub.of rfl) hW
  have c_State_dropTried : Sub State.dropTried_cells W0 := Sub.trans (Sub.of rfl) hW
  have c_State_fixedConflict : Sub State.fixedConflict_cells W0 := Sub.trans (Sub.of rfl) hW
  have w513 : Writes W0 R.TET_ERRCNT3 := Or.inl (hW.mem rfl)
  have w514 : Writes W0 R.TET_ERRCNT4 := Or.inl (hW.mem rfl)
  unfold State.frameFailed
  repeat' first
    | with_reducible assumption
    | (extract_lets +onlyGivenNames xx; guard_hyp xx : State := _; refine Touch.cut (x := xx) ?_ ?_; (on_goal 2 => (intro hh; (try clear_value xx); revert xx; intro _ _)); any_goals (revert xx; intro _))
    | with_reducible refine State.countStart_touch ?_ c_State_countStart _
    | with_reducible refine State.linkError_touch ?_ c_State_linkError _ ?_
    | with_reducible refine State.setTec_touch ?_ c_State_setTec _
    | with_reducible refine State.retryFrame_touch ?_ c_State_retryFrame _
    | with_reducible refine State.dropTried_touch ?_ c_State_dropTried _
    | with_reducible refine State.fixedConflict_touch ?_ c_State_fixedConflict _
    | split

def State.postLinkChg_cells : List Nat :=
  [0xa01, 0xa32, 0x140a, 0x140f]

theorem State.postLinkChg_touch {W0 : List Nat} {s0 s : State} (h0 : Touch W0 s0 s) (hW : Sub State.postLinkChg_cells W0) (old : Nat) (new : Nat) (vtet : Nat) :
    Touch W0 s0 (State.postLinkChg s old new vtet) := by
  have c_State_coalesce : Sub State.coalesce_cells W0 := Sub.trans (Sub.of rfl) hW
  have c_State_post : Sub State.post_cells W0 := Sub.trans (Sub.of rfl) hW
  have w140a : 0x140a ∈ W0 := hW.mem rfl
  unfold State.postLinkChg
  repeat' first
    | with_reducible assumption
    | (extract_lets +onlyGivenNames xx; guard_hyp xx : State := _; refine Touch.cut (x := xx) ?_ ?_; (on_goal 2 => (intro hh; (try clear_value xx); revert xx; intro _ _)); any_goals (revert xx; intro _))
    | (extract_lets +onlyGivenNames xx; (try clear_value xx); revert xx; intro _)
    | with_reducible refine State.coalesce_touch ?_ c_State_coalesce _
    | with_reducible refine State.post_touch ?_ c_State_post _ _
    | with_reducible refine Touch.ite ?_ ?_
    | with_reducible refine Touch.update ?_

def State.linkChanged_cells : List Nat :=
  [0x2, 0x6, 0x100, 0x110, 0x111, 0x112, 0x113, 0x200, 0x300, 0x301, 0x31f, 0x400, 0x401, 0x40e, 0x40f, 0x500, 0x501,
   0x505, 0xa01, 0xa32, 0xc20, 0xc21, 0xc25, 0x1405, 0x1408, 0x1409, 0x140a, 0x140d, 0x140f, 0x1413, 0x1415]

theorem State.linkChanged_touch {W0 : List Nat} {s0 s : State} (h0 : Touch W0 s0 s) (hW : Sub State.linkChanged_cells W0) (vtet : Nat) :
    Touch W0 s0 (State.linkChanged s vtet) := by
  have c_State_setVolt : Sub State.setVolt_cells W0 := Sub.trans (Sub.of rfl) hW
  have c_State_postLinkChg : Sub State.postLinkChg_cells W0 := Sub.trans (Sub.of rfl) hW
  have c_State_resetThreshold : Sub State.resetThreshold_cells W0 := Sub.trans (Sub.of rfl) hW
  have c_State_powerChanged : Sub State.powerChanged_cells W0 := Sub.trans (Sub.of rfl) hW
  have w500 : Writes W0 R.TET_STATUS := Or.inl (hW.mem rfl)
  have w501 : Writes W0 R.TET_EVENT := Or.inl (hW.mem rfl)
  have w1408 : 0x1408 ∈ W0 := hW.mem rfl
  unfold State.linkChanged
  repeat' first
    | with_reducible assumption
    | (extract_lets +onlyGivenNames xx; guard_hyp xx : State := _; refine Touch.cut (x := xx) ?_ ?_; (on_goal 2 => (intro hh; (try clear_value xx); revert xx; intro _ _)); any_goals (revert xx; intro _))
    | (extract_lets +onlyGivenNames xx; (try clear_value xx); revert xx; intro _)
    | with_reducible refine State.setVolt_touch ?_ c_State_setVolt _ _
    | with_reducible refine State.postLinkChg_touch ?_ c_State_postLinkChg _ _ _
    | with_reducible refine State.resetThreshold_touch ?_ c_State_resetThreshold
    | with_reducible refine State.powerChanged_touch ?_ c_State_powerChanged
    | with_reducible refine State.event_touch ?_ _ ?_
    | with_reducible refine State.setFlag_touch ?_ _ _ ?_
    | with_reducible refine Touch.ite ?_ ?_
    | with_reducible refine Touch.update ?_

def State.heartbeat_cells : List Nat :=
  [0x501, 0x520, 0x521, 0x522, 0x523, 0x900, 0x901, 0xa01, 0xa32, 0x140a, 0x140b, 0x140c, 0x140f, 0x1417]

theorem State.heartbeat_touch {W0 : List Nat} {s0 s : State} (h0 : Touch W0 s0 s) (hW : Sub State.heartbeat_cells W0) (f : Frame) :
    Touch W0 s0 (State.heartbeat s f) := by
  have c_State_setPeerTrack : Sub State.setPeerTrack_cells W0 := Sub.trans (Sub.of rfl) hW
  have c_State_stallBytes : Sub State.stallBytes_cells W0 := Sub.trans (Sub.of rfl) hW
  have c_State_setStallFlag : Sub State.setStallFlag_cells W0 := Sub.trans (Sub.of rfl) hW
  have c_State_post : Sub State.post_cells W0 := Sub.trans (Sub.of rfl) hW
  have c_State_note : Sub State.note_cells W0 := Sub.trans (Sub.of rfl) hW
  have w501 : Writes W0 R.TET_EVENT := Or.inl (hW.mem rfl)
  have w520 : Writes W0 R.TET_PEERS0 := Or.inl (hW.mem rfl)
  have w521 : Writes W0 R.TET_PEERS1 := Or.inl (hW.mem rfl)
  have w522 : Writes W0 R.TET_PEERS2 := Or.inl (hW.mem rfl)
  have w523 : Writes W0 R.TET_PEERS3 := Or.inl (hW.mem rfl)
  unfold State.heartbeat
  repeat' first
    | with_reducible assumption
    | (extract_lets +onlyGivenNames xx; guard_hyp xx : State := _; refine Touch.cut (x := xx) ?_ ?_; (on_goal 2 => (intro hh; (try clear_value xx); revert xx; intro _ _)); any_goals (revert xx; intro _))
    | (extract_lets +onlyGivenNames xx; (try clear_value xx); revert xx; intro _)
    | with_reducible refine State.setPeerTrack_touch ?_ c_State_setPeerTrack _
    | with_reducible refine State.stallBytes_touch ?_ c_State_stallBytes _ _ _
    | with_reducible refine State.setStallFlag_touch ?_ c_State_setStallFlag _ _ _
    | with_reducible refine State.post_touch ?_ c_State_post _ _
    | with_reducible refine State.note_touch ?_ c_State_note _ _ _ _
    | with_reducible refine State.event_touch ?_ _ ?_
    | with_reducible refine State.setMapBit_touch ?_ _ _ _ ?_ ?_ ?_ ?_
    | with_reducible refine Touch.ite ?_ ?_
    | split

def State.peerMissing_cells : List Nat :=
  [0x501, 0x520, 0x521, 0x522, 0x523, 0x601, 0x607, 0x608, 0x610, 0x611, 0x612, 0x613, 0x614, 0x615, 0x616, 0x617,
   0x900, 0x901, 0xa01, 0xa32, 0x140a, 0x140b, 0x140c, 0x140f, 0x1417]

theorem State.peerMissing_touch {W0 : List Nat} {s0 s : State} (h0 : Touch W0 s0 s) (hW : Sub State.peerMissing_cells W0) (p : PeerTrack) :
    Touch W0 s0 (State.peerMissing s p) := by
  have c_State_setPeerTrack : Sub State.setPeerTrack_cells W0 := Sub.trans (Sub.of rfl) hW
  have c_State_post : Sub State.post_cells W0 := Sub.trans (Sub.of rfl) hW
  have c_State_setStallFlag : Sub State.setStallFlag_cells W0 := Sub.trans (Sub.of rfl) hW
  have c_State_stallBytes : Sub State.stallBytes_cells W0 := Sub.trans (Sub.of rfl) hW
  have c_State_peerOfferEnd : Sub State.peerOfferEnd_cells W0 := Sub.trans (Sub.of rfl) hW
  have c_State_peerBidEnd : Sub State.peerBidEnd_cells W0 := Sub.trans (Sub.of rfl) hW
  have c_State_note : Sub State.note_cells W0 := Sub.trans (Sub.of rfl) hW
  have w501 : Writes W0 R.TET_EVENT := Or.inl (hW.mem rfl)
  have w520 : Writes W0 R.TET_PEERS0 := Or.inl (hW.mem rfl)
  have w521 : Writes W0 R.TET_PEERS1 := Or.inl (hW.mem rfl)
  have w522 : Writes W0 R.TET_PEERS2 := Or.inl (hW.mem rfl)
  have w523 : Writes W0 R.TET_PEERS3 := Or.inl (hW.mem rfl)
  unfold State.peerMissing
  repeat' first
    | with_reducible assumption
    | (extract_lets +onlyGivenNames xx; guard_hyp xx : State := _; refine Touch.cut (x := xx) ?_ ?_; (on_goal 2 => (intro hh; (try clear_value xx); revert xx; intro _ _)); any_goals (revert xx; intro _))
    | (extract_lets +onlyGivenNames xx; (try clear_value xx); revert xx; intro _)
    | with_reducible refine State.setPeerTrack_touch ?_ c_State_setPeerTrack _
    | with_reducible refine State.post_touch ?_ c_State_post _ _
    | with_reducible refine State.setStallFlag_touch ?_ c_State_setStallFlag _ _ _
    | with_reducible refine State.stallBytes_touch ?_ c_State_stallBytes _ _ _
    | with_reducible refine State.peerOfferEnd_touch ?_ c_State_peerOfferEnd _ _
    | with_reducible refine State.peerBidEnd_touch ?_ c_State_peerBidEnd _ _
    | with_reducible refine State.note_touch ?_ c_State_note _ _ _ _
    | with_reducible refine State.event_touch ?_ _ ?_
    | with_reducible refine State.setMapBit_touch ?_ _ _ _ ?_ ?_ ?_ ?_

def State.claimHeard_cells : List Nat :=
  [0x500, 0x504, 0xa01, 0xa32, 0x140a, 0x140f]

theorem State.claimHeard_touch {W0 : List Nat} {s0 s : State} (h0 : Touch W0 s0 s) (hW : Sub State.claimHeard_cells W0) (addr : Nat) (uid : Nat) :
    Touch W0 s0 (State.claimHeard s addr uid) := by
  have c_State_yieldAddr : Sub State.yieldAddr_cells W0 := Sub.trans (Sub.of rfl) hW
  have c_State_postStatus : Sub State.postStatus_cells W0 := Sub.trans (Sub.of rfl) hW
  have c_State_postHeartbeat : Sub State.postHeartbeat_cells W0 := Sub.trans (Sub.of rfl) hW
  unfold State.claimHeard
  repeat' first
    | with_reducible assumption
    | (extract_lets +onlyGivenNames xx; (try clear_value xx); revert xx; intro _)
    | with_reducible refine State.yieldAddr_touch ?_ c_State_yieldAddr _
    | with_reducible refine State.postStatus_touch ?_ c_State_postStatus _
    | with_reducible refine State.postHeartbeat_touch ?_ c_State_postHeartbeat
    | with_reducible refine Touch.ite ?_ ?_

def State.candHeld_cells : List Nat :=
  [0x407, 0x500, 0x501, 0x504, 0x601, 0x607, 0x608, 0xa00, 0xa01, 0xa32, 0xa33, 0xa34, 0x140a, 0x140b, 0x140f, 0x1417]

theorem State.candHeld_touch {W0 : List Nat} {s0 s : State} (h0 : Touch W0 s0 s) (hW : Sub State.candHeld_cells W0) (a : Nat) (v : Verify) :
    Touch W0 s0 (State.candHeld s a v) := by
  have c_State_holdAddr : Sub State.holdAddr_cells W0 := Sub.trans (Sub.of rfl) hW
  have c_State_storeTetAddr : Sub State.storeTetAddr_cells W0 := Sub.trans (Sub.of rfl) hW
  have c_State_verified : Sub State.verified_cells W0 := Sub.trans (Sub.of rfl) hW
  have c_State_post : Sub State.post_cells W0 := Sub.trans (Sub.of rfl) hW
  have c_State_hbMark : Sub State.hbMark_cells W0 := Sub.trans (Sub.of rfl) hW
  have c_State_censusStart : Sub State.censusStart_cells W0 := Sub.trans (Sub.of rfl) hW
  have c_State_marketRestart : Sub State.marketRestart_cells W0 := Sub.trans (Sub.of rfl) hW
  have w501 : Writes W0 R.TET_EVENT := Or.inl (hW.mem rfl)
  unfold State.candHeld
  repeat' first
    | with_reducible assumption
    | (extract_lets +onlyGivenNames xx; guard_hyp xx : State := _; refine Touch.cut (x := xx) ?_ ?_; (on_goal 2 => (intro hh; (try clear_value xx); revert xx; intro _ _)); any_goals (revert xx; intro _))
    | (extract_lets +onlyGivenNames xx; (try clear_value xx); revert xx; intro _)
    | with_reducible refine State.holdAddr_touch ?_ c_State_holdAddr _
    | with_reducible refine State.storeTetAddr_touch ?_ c_State_storeTetAddr _
    | with_reducible refine State.verified_touch ?_ c_State_verified _ _ _
    | with_reducible refine State.post_touch ?_ c_State_post _ _
    | with_reducible refine State.hbMark_touch ?_ c_State_hbMark
    | with_reducible refine State.censusStart_touch ?_ c_State_censusStart
    | with_reducible refine State.marketRestart_touch ?_ c_State_marketRestart
    | with_reducible refine State.event_touch ?_ _ ?_

def State.levelStart_cells : List Nat :=
  [0x2, 0x6, 0x200, 0x300, 0x301, 0x31f, 0x400, 0x401, 0x40f, 0x500, 0x700, 0x701, 0x710, 0x801, 0x901, 0x90b, 0xa01,
   0xa32, 0xc20, 0xc21, 0xc25, 0x1402, 0x1405, 0x1406, 0x1408, 0x1409, 0x140c, 0x140d, 0x140f, 0x1411, 0x1413, 0x1415]

theorem State.levelStart_touch {W0 : List Nat} {s0 s : State} (h0 : Touch W0 s0 s) (hW : Sub State.levelStart_cells W0) :
    Touch W0 s0 (State.levelStart s) := by
  have c_State_fresh : Sub State.fresh_cells W0 := Sub.trans (Sub.of rfl) hW
  have c_State_refreshRemote : Sub State.refreshRemote_cells W0 := Sub.trans (Sub.of rfl) hW
  have c_State_alarmOn : Sub State.alarmOn_cells W0 := Sub.trans (Sub.of rfl) hW
  have c_State_post : Sub State.post_cells W0 := Sub.trans (Sub.of rfl) hW
  have w500 : Writes W0 R.TET_STATUS := Or.inl (hW.mem rfl)
  have w701 : Writes W0 R.ALM_EVENT := Or.inl (hW.mem rfl)
  have w710 : Writes W0 R.ALM_LASTORG := Or.inl (hW.mem rfl)
  have w1406 : 0x1406 ∈ W0 := hW.mem rfl
  unfold State.levelStart
  repeat' first
    | with_reducible assumption
    | (extract_lets +onlyGivenNames xx; (try clear_value xx); revert xx; intro _)
    | with_reducible refine State.fresh_touch ?_ c_State_fresh
    | with_reducible refine State.refreshRemote_touch ?_ c_State_refreshRemote
    | with_reducible refine State.alarmOn_touch ?_ c_State_alarmOn
    | with_reducible refine State.post_touch ?_ c_State_post _ _
    | with_reducible refine State.event_touch ?_ _ ?_
    | with_reducible refine State.setFlag_touch ?_ _ _ ?_
    | with_reducible refine State.setReg_touch ?_ _ _ ?_
    | with_reducible refine Touch.update ?_

def State.levelEnd_cells : List Nat :=
  [0x2, 0x6, 0x500, 0x700, 0x701, 0x70c, 0x70d, 0x70e, 0x70f, 0xa01, 0xa32, 0x1406, 0x140c, 0x140f]

theorem State.levelEnd_touch {W0 : List Nat} {s0 s : State} (h0 : Touch W0 s0 s) (hW : Sub State.levelEnd_cells W0) (t : Nat) :
    Touch W0 s0 (State.levelEnd s t) := by
  have c_State_refreshRemote : Sub State.refreshRemote_cells W0 := Sub.trans (Sub.of rfl) hW
  have c_State_post : Sub State.post_cells W0 := Sub.trans (Sub.of rfl) hW
  have c_State_alarmCheck : Sub State.alarmCheck_cells W0 := Sub.trans (Sub.of rfl) hW
  have w500 : Writes W0 R.TET_STATUS := Or.inl (hW.mem rfl)
  have w701 : Writes W0 R.ALM_EVENT := Or.inl (hW.mem rfl)
  have w1406 : 0x1406 ∈ W0 := hW.mem rfl
  unfold State.levelEnd
  repeat' first
    | with_reducible assumption
    | (extract_lets +onlyGivenNames xx; guard_hyp xx : State := _; refine Touch.cut (x := xx) ?_ ?_; (on_goal 2 => (intro hh; (try clear_value xx); revert xx; intro _ _)); any_goals (revert xx; intro _))
    | (extract_lets +onlyGivenNames xx; (try clear_value xx); revert xx; intro _)
    | with_reducible refine State.refreshRemote_touch ?_ c_State_refreshRemote
    | with_reducible refine State.post_touch ?_ c_State_post _ _
    | with_reducible refine State.alarmCheck_touch ?_ c_State_alarmCheck
    | with_reducible refine State.event_touch ?_ _ ?_
    | with_reducible refine State.setFlag_touch ?_ _ _ ?_
    | with_reducible refine Touch.update ?_

end Sys2Proof.Machine
end

