-- ==== Sys2Proof/Laws/TouchPath.lean ====
section
/-!
SUPPORT. What each operation of Machine/Path.lean can do: the registers and parts of the state it may write, and nothing
else; the unit, its queue and the form of its stores are kept.
-/

-- proofs are elaborated one after another: many at once ask for more threads than a memory limit allows
set_option Elab.async false

set_option linter.unusedTactic false
set_option linter.unusedVariables false
set_option linter.unusedSimpArgs false
set_option linter.unreachableTactic false
set_option linter.tactic.unusedName false

namespace Sys2Proof.Machine

def State.cutoffWait_cells : List Nat :=
  [0x140b]

theorem State.cutoffWait_touch {W0 : List Nat} {s0 s : State} (h0 : Touch W0 s0 s) (hW : Sub State.cutoffWait_cells W0) (x : Source) :
    Touch W0 s0 (State.cutoffWait s x) := by
  have w140b : 0x140b ∈ W0 := hW.mem rfl
  unfold State.cutoffWait
  repeat' first
    | with_reducible assumption
    | (extract_lets +onlyGivenNames xx; (try clear_value xx); revert xx; intro _)
    | with_reducible refine Touch.ite ?_ ?_
    | with_reducible refine Touch.update ?_

def execSourceQualify_cells : List Nat :=
  [0x2, 0x6, 0x100, 0x101, 0x110, 0x111, 0x112, 0x113, 0x200, 0x300, 0x301, 0x31f, 0x400, 0x401, 0x40e, 0x40f, 0xa01,
   0xa32, 0xc20, 0xc21, 0xc25, 0x1405, 0x1407, 0x1408, 0x1409, 0x140b, 0x140d, 0x140f, 0x1413, 0x1415]

theorem execSourceQualify_touch {W0 : List Nat} {s0 s : State} (h0 : Touch W0 s0 s) (hW : Sub execSourceQualify_cells W0) (x : Source) (mv : Nat) (ticks : Nat) :
    TouchOut W0 s0 (execSourceQualify x mv ticks s) := by
  have c_State_cutoffWait : Sub State.cutoffWait_cells W0 := Sub.trans (Sub.of rfl) hW
  have c_State_qualify : Sub State.qualify_cells W0 := Sub.trans (Sub.of rfl) hW
  unfold execSourceQualify
  repeat' first
    | with_reducible assumption
    | with_reducible refine TouchOut.next ?_
    | with_reducible refine State.cutoffWait_touch ?_ c_State_cutoffWait _
    | with_reducible refine State.qualify_touch ?_ c_State_qualify _ _
    | with_reducible refine State.when_touch ?_ _ _ ?_
    | with_reducible intro _ _

def execInputCollapseTrip_cells : List Nat :=
  [0x2, 0x6, 0x100, 0x101, 0x110, 0x111, 0x112, 0x113, 0x114, 0x116, 0x117, 0x200, 0x300, 0x301, 0x31f, 0x400, 0x401,
   0x40e, 0x40f, 0x900, 0x901, 0xa01, 0xa32, 0xb00, 0xb01, 0xb18, 0xc00, 0xc06, 0xc20, 0xc21, 0xc25, 0xc30, 0xc34,
   0xe00, 0x1405, 0x1407, 0x1408, 0x1409, 0x140c, 0x140d, 0x140f, 0x1412, 0x1413, 0x1414, 0x1415, 0x1418]

theorem execInputCollapseTrip_touch {W0 : List Nat} {s0 s : State} (h0 : Touch W0 s0 s) (hW : Sub execInputCollapseTrip_cells W0) (x : Source) (mv : Nat) :
    TouchOut W0 s0 (execInputCollapseTrip x mv s) := by
  have c_State_trip : Sub State.trip_cells W0 := Sub.trans (Sub.of rfl) hW
  unfold execInputCollapseTrip
  repeat' first
    | with_reducible assumption
    | with_reducible refine TouchOut.next ?_
    | with_reducible refine State.trip_touch ?_ c_State_trip _ _ _ _
    | with_reducible refine State.when_touch ?_ _ _ ?_
    | with_reducible intro _ _

def execReverseTrip_cells : List Nat :=
  [0x2, 0x6, 0x100, 0x101, 0x110, 0x111, 0x112, 0x113, 0x114, 0x116, 0x117, 0x200, 0x211, 0x300, 0x301, 0x31f, 0x400,
   0x401, 0x40e, 0x40f, 0x900, 0x901, 0xa01, 0xa32, 0xb00, 0xb01, 0xb18, 0xc00, 0xc06, 0xc20, 0xc21, 0xc25, 0xc30,
   0xc34, 0xe00, 0x1405, 0x1407, 0x1408, 0x1409, 0x140c, 0x140d, 0x140f, 0x1412, 0x1413, 0x1414, 0x1415, 0x1418]

theorem execReverseTrip_touch {W0 : List Nat} {s0 s : State} (h0 : Touch W0 s0 s) (hW : Sub execReverseTrip_cells W0) (x : Source) (mv : Nat) (vmux : Nat) :
    TouchOut W0 s0 (execReverseTrip x mv vmux s) := by
  have c_State_setVmux : Sub State.setVmux_cells W0 := Sub.trans (Sub.of rfl) hW
  have c_State_trip : Sub State.trip_cells W0 := Sub.trans (Sub.of rfl) hW
  unfold execReverseTrip
  repeat' first
    | with_reducible assumption
    | with_reducible refine TouchOut.next ?_
    | with_reducible refine State.setVmux_touch ?_ c_State_setVmux _
    | with_reducible refine State.trip_touch ?_ c_State_trip _ _ _ _
    | with_reducible refine State.when_touch ?_ _ _ ?_
    | with_reducible intro _ _

def execInputOvTrip_cells : List Nat :=
  [0x2, 0x6, 0x100, 0x101, 0x110, 0x111, 0x112, 0x113, 0x114, 0x116, 0x117, 0x200, 0x300, 0x301, 0x31f, 0x400, 0x401,
   0x40e, 0x40f, 0x900, 0x901, 0xa01, 0xa32, 0xb00, 0xb01, 0xb18, 0xc00, 0xc06, 0xc20, 0xc21, 0xc25, 0xc30, 0xc34,
   0xe00, 0x1405, 0x1407, 0x1408, 0x1409, 0x140c, 0x140d, 0x140f, 0x1412, 0x1413, 0x1414, 0x1415, 0x1418]

theorem execInputOvTrip_touch {W0 : List Nat} {s0 s : State} (h0 : Touch W0 s0 s) (hW : Sub execInputOvTrip_cells W0) (x : Source) (mv : Nat) :
    TouchOut W0 s0 (execInputOvTrip x mv s) := by
  have c_State_trip : Sub State.trip_cells W0 := Sub.trans (Sub.of rfl) hW
  unfold execInputOvTrip
  repeat' first
    | with_reducible assumption
    | with_reducible refine TouchOut.next ?_
    | with_reducible refine State.trip_touch ?_ c_State_trip _ _ _ _
    | with_reducible refine State.when_touch ?_ _ _ ?_
    | with_reducible intro _ _

def State.batfetIdeal_cells : List Nat :=
  [0x200]

theorem State.batfetIdeal_touch {W0 : List Nat} {s0 s : State} (h0 : Touch W0 s0 s) (hW : Sub State.batfetIdeal_cells W0) :
    Touch W0 s0 (State.batfetIdeal s) := by
  have w200 : Writes W0 R.PATH_STATUS := Or.inl (hW.mem rfl)
  unfold State.batfetIdeal
  repeat' first
    | with_reducible assumption
    | with_reducible refine State.setFlag_touch ?_ _ _ ?_

def State.setVsys_cells : List Nat :=
  [0x210]

theorem State.setVsys_touch {W0 : List Nat} {s0 s : State} (h0 : Touch W0 s0 s) (hW : Sub State.setVsys_cells W0) (mv : Nat) :
    Touch W0 s0 (State.setVsys s mv) := by
  have w210 : Writes W0 R.PATH_VSYS := Or.inl (hW.mem rfl)
  unfold State.setVsys
  repeat' first
    | with_reducible assumption
    | with_reducible refine State.setReg_touch ?_ _ _ ?_

def execVsysOvTrip_cells : List Nat :=
  [0x2, 0x6, 0x100, 0x101, 0x114, 0x116, 0x200, 0x201, 0x210, 0x300, 0x301, 0x31f, 0x400, 0x401, 0x40e, 0x40f, 0xa01,
   0xa32, 0x1407, 0x1408, 0x1409, 0x140f]

theorem execVsysOvTrip_touch {W0 : List Nat} {s0 s : State} (h0 : Touch W0 s0 s) (hW : Sub execVsysOvTrip_cells W0) (vsys : Nat) :
    TouchOut W0 s0 (execVsysOvTrip vsys s) := by
  have c_State_setVsys : Sub State.setVsys_cells W0 := Sub.trans (Sub.of rfl) hW
  have c_State_mainStop : Sub State.mainStop_cells W0 := Sub.trans (Sub.of rfl) hW
  have c_State_post : Sub State.post_cells W0 := Sub.trans (Sub.of rfl) hW
  have c_State_tetMove : Sub State.tetMove_cells W0 := Sub.trans (Sub.of rfl) hW
  have c_State_batfetIdeal : Sub State.batfetIdeal_cells W0 := Sub.trans (Sub.of rfl) hW
  have w101 : Writes W0 R.SRC_EVENT := Or.inl (hW.mem rfl)
  have w116 : Writes W0 R.SRC_TRIPCNT := Or.inl (hW.mem rfl)
  have w200 : Writes W0 R.PATH_STATUS := Or.inl (hW.mem rfl)
  have w201 : Writes W0 R.PATH_EVENT := Or.inl (hW.mem rfl)
  have w1407 : 0x1407 ∈ W0 := hW.mem rfl
  unfold execVsysOvTrip
  repeat' first
    | with_reducible assumption
    | with_reducible refine TouchOut.next ?_
    | (extract_lets +onlyGivenNames xx; guard_hyp xx : State := _; refine Touch.cut (x := xx) ?_ ?_; (on_goal 2 => (intro hh; (try clear_value xx); revert xx; intro _ _)); any_goals (revert xx; intro _))
    | (extract_lets +onlyGivenNames xx; (try clear_value xx); revert xx; intro _)
    | with_reducible refine State.setVsys_touch ?_ c_State_setVsys _
    | with_reducible refine State.mainStop_touch ?_ c_State_mainStop
    | with_reducible refine State.post_touch ?_ c_State_post _ _
    | with_reducible refine State.tetMove_touch ?_ c_State_tetMove
    | with_reducible refine State.batfetIdeal_touch ?_ c_State_batfetIdeal
    | with_reducible refine State.bump_touch ?_ _ _ ?_
    | with_reducible refine State.event_touch ?_ _ ?_
    | with_reducible refine State.setFlag_touch ?_ _ _ ?_
    | with_reducible refine State.when_touch ?_ _ _ ?_
    | with_reducible intro _ _
    | with_reducible refine Touch.update ?_

def execVsysOvRestart_cells : List Nat :=
  [0x2, 0x6, 0x100, 0x200, 0x300, 0x301, 0x31f, 0x400, 0x401, 0x40e, 0x40f, 0xa01, 0xa32, 0x1407, 0x1408, 0x1409,
   0x140f]

theorem execVsysOvRestart_touch {W0 : List Nat} {s0 s : State} (h0 : Touch W0 s0 s) (hW : Sub execVsysOvRestart_cells W0) :
    TouchOut W0 s0 (execVsysOvRestart s) := by
  have c_State_trackStart : Sub State.trackStart_cells W0 := Sub.trans (Sub.of rfl) hW
  have c_State_refreshBatfet : Sub State.refreshBatfet_cells W0 := Sub.trans (Sub.of rfl) hW
  have c_State_tetMove : Sub State.tetMove_cells W0 := Sub.trans (Sub.of rfl) hW
  have w200 : Writes W0 R.PATH_STATUS := Or.inl (hW.mem rfl)
  have w400 : Writes W0 R.CONV_STATUS := Or.inl (hW.mem rfl)
  have w1407 : 0x1407 ∈ W0 := hW.mem rfl
  unfold execVsysOvRestart
  repeat' first
    | with_reducible assumption
    | with_reducible refine TouchOut.next ?_
    | (extract_lets +onlyGivenNames xx; guard_hyp xx : State := _; refine Touch.cut (x := xx) ?_ ?_; (on_goal 2 => (intro hh; (try clear_value xx); revert xx; intro _ _)); any_goals (revert xx; intro _))
    | (extract_lets +onlyGivenNames xx; (try clear_value xx); revert xx; intro _)
    | with_reducible refine State.trackStart_touch ?_ c_State_trackStart
    | with_reducible refine State.refreshBatfet_touch ?_ c_State_refreshBatfet
    | with_reducible refine State.tetMove_touch ?_ c_State_tetMove
    | with_reducible refine State.setFlag_touch ?_ _ _ ?_
    | with_reducible refine State.when_touch ?_ _ _ ?_
    | with_reducible intro _ _
    | with_reducible refine Touch.update ?_

def execVpvLowPowerLoss_cells : List Nat :=
  [0x2, 0x6, 0x100, 0x101, 0x110, 0x111, 0x112, 0x113, 0x114, 0x200, 0x300, 0x301, 0x31f, 0x400, 0x401, 0x40e, 0x40f,
   0x900, 0x901, 0xa01, 0xa32, 0xb00, 0xb01, 0xb18, 0xc00, 0xc06, 0xc20, 0xc21, 0xc25, 0xc30, 0xc34, 0xe00, 0x1405,
   0x1407, 0x1408, 0x1409, 0x140c, 0x140d, 0x140f, 0x1412, 0x1413, 0x1414, 0x1415, 0x1418]

theorem execVpvLowPowerLoss_touch {W0 : List Nat} {s0 s : State} (h0 : Touch W0 s0 s) (hW : Sub execVpvLowPowerLoss_cells W0) (mv : Nat) (uw : Nat) (ticks : Nat) :
    TouchOut W0 s0 (execVpvLowPowerLoss mv uw ticks s) := by
  have c_State_lose : Sub State.lose_cells W0 := Sub.trans (Sub.of rfl) hW
  unfold execVpvLowPowerLoss
  repeat' first
    | with_reducible assumption
    | with_reducible refine TouchOut.next ?_
    | with_reducible refine State.lose_touch ?_ c_State_lose _ _ _
    | with_reducible refine State.when_touch ?_ _ _ ?_
    | with_reducible intro _ _

def execPlannedChangeoverBegin_cells : List Nat :=
  [0x100, 0x1407]

theorem execPlannedChangeoverBegin_touch {W0 : List Nat} {s0 s : State} (h0 : Touch W0 s0 s) (hW : Sub execPlannedChangeoverBegin_cells W0) :
    TouchOut W0 s0 (execPlannedChangeoverBegin s) := by
  have c_State_noTarget : Sub State.noTarget_cells W0 := Sub.trans (Sub.of rfl) hW
  have c_State_refreshPending : Sub State.refreshPending_cells W0 := Sub.trans (Sub.of rfl) hW
  have w1407 : 0x1407 ∈ W0 := hW.mem rfl
  unfold execPlannedChangeoverBegin
  repeat' first
    | with_reducible assumption
    | with_reducible refine TouchOut.next ?_
    | (extract_lets +onlyGivenNames xx; guard_hyp xx : State := _; refine Touch.cut (x := xx) ?_ ?_; (on_goal 2 => (intro hh; (try clear_value xx); revert xx; intro _ _)); any_goals (revert xx; intro _))
    | (extract_lets +onlyGivenNames xx; (try clear_value xx); revert xx; intro _)
    | with_reducible refine State.noTarget_touch ?_ c_State_noTarget
    | with_reducible refine State.refreshPending_touch ?_ c_State_refreshPending
    | with_reducible refine State.whenLive_touch ?_ _ ?_
    | with_reducible intro _ _
    | split
    | with_reducible refine Touch.update ?_

def execVmuxSafe_cells : List Nat :=
  [0x100, 0x110, 0x111, 0x112, 0x113, 0x115, 0x211, 0x1407]

theorem execVmuxSafe_touch {W0 : List Nat} {s0 s : State} (h0 : Touch W0 s0 s) (hW : Sub execVmuxSafe_cells W0) (vmux : Nat) (src : Nat) :
    TouchOut W0 s0 (execVmuxSafe vmux src s) := by
  have c_State_setVmux : Sub State.setVmux_cells W0 := Sub.trans (Sub.of rfl) hW
  have c_State_setVolt : Sub State.setVolt_cells W0 := Sub.trans (Sub.of rfl) hW
  have c_State_setVoc : Sub State.setVoc_cells W0 := Sub.trans (Sub.of rfl) hW
  have c_State_dischStop : Sub State.dischStop_cells W0 := Sub.trans (Sub.of rfl) hW
  have c_State_dischOn : Sub State.dischOn_cells W0 := Sub.trans (Sub.of rfl) hW
  have w1407 : 0x1407 ∈ W0 := hW.mem rfl
  unfold execVmuxSafe
  repeat' first
    | with_reducible assumption
    | with_reducible refine TouchOut.next ?_
    | (extract_lets +onlyGivenNames xx; guard_hyp xx : State := _; refine Touch.cut (x := xx) ?_ ?_; (on_goal 2 => (intro hh; (try clear_value xx); revert xx; intro _ _)); any_goals (revert xx; intro _))
    | (extract_lets +onlyGivenNames xx; (try clear_value xx); revert xx; intro _)
    | with_reducible refine State.setVmux_touch ?_ c_State_setVmux _
    | with_reducible refine State.setVolt_touch ?_ c_State_setVolt _ _
    | with_reducible refine State.setVoc_touch ?_ c_State_setVoc _
    | with_reducible refine State.dischStop_touch ?_ c_State_dischStop
    | with_reducible refine State.dischOn_touch ?_ c_State_dischOn
    | with_reducible refine State.whenLive_touch ?_ _ ?_
    | with_reducible refine Touch.ite ?_ ?_
    | with_reducible intro _ _
    | split
    | with_reducible refine Touch.update ?_

def execSafelowTimeout_cells : List Nat :=
  [0x100, 0x101, 0x211, 0xa01, 0xa32, 0x1407, 0x140f]

theorem execSafelowTimeout_touch {W0 : List Nat} {s0 s : State} (h0 : Touch W0 s0 s) (hW : Sub execSafelowTimeout_cells W0) (vmux : Nat) :
    TouchOut W0 s0 (execSafelowTimeout vmux s) := by
  have c_State_setVmux : Sub State.setVmux_cells W0 := Sub.trans (Sub.of rfl) hW
  have c_State_dischStop : Sub State.dischStop_cells W0 := Sub.trans (Sub.of rfl) hW
  have c_State_coalesce : Sub State.coalesce_cells W0 := Sub.trans (Sub.of rfl) hW
  have c_State_post : Sub State.post_cells W0 := Sub.trans (Sub.of rfl) hW
  have w101 : Writes W0 R.SRC_EVENT := Or.inl (hW.mem rfl)
  have w1407 : 0x1407 ∈ W0 := hW.mem rfl
  unfold execSafelowTimeout
  repeat' first
    | with_reducible assumption
    | with_reducible refine TouchOut.next ?_
    | (extract_lets +onlyGivenNames xx; guard_hyp xx : State := _; refine Touch.cut (x := xx) ?_ ?_; (on_goal 2 => (intro hh; (try clear_value xx); revert xx; intro _ _)); any_goals (revert xx; intro _))
    | (extract_lets +onlyGivenNames xx; (try clear_value xx); revert xx; intro _)
    | with_reducible refine State.setVmux_touch ?_ c_State_setVmux _
    | with_reducible refine State.dischStop_touch ?_ c_State_dischStop
    | with_reducible refine State.coalesce_touch ?_ c_State_coalesce _
    | with_reducible refine State.post_touch ?_ c_State_post _ _
    | with_reducible refine State.event_touch ?_ _ ?_
    | with_reducible refine State.when_touch ?_ _ _ ?_
    | with_reducible refine Touch.ite ?_ ?_
    | with_reducible intro _ _
    | split
    | with_reducible refine Touch.update ?_

def execSafelowRetry_cells : List Nat :=
  [0x100, 0x1407]

theorem execSafelowRetry_touch {W0 : List Nat} {s0 s : State} (h0 : Touch W0 s0 s) (hW : Sub execSafelowRetry_cells W0) :
    TouchOut W0 s0 (execSafelowRetry s) := by
  have c_State_dischStart : Sub State.dischStart_cells W0 := Sub.trans (Sub.of rfl) hW
  have w1407 : 0x1407 ∈ W0 := hW.mem rfl
  unfold execSafelowRetry
  repeat' first
    | with_reducible assumption
    | with_reducible refine TouchOut.next ?_
    | (extract_lets +onlyGivenNames xx; (try clear_value xx); revert xx; intro _)
    | with_reducible refine State.dischStart_touch ?_ c_State_dischStart
    | with_reducible refine State.when_touch ?_ _ _ ?_
    | with_reducible intro _ _
    | with_reducible refine Touch.update ?_

def execChangeoverComplete_cells : List Nat :=
  [0x2, 0x6, 0x100, 0x101, 0x118, 0x200, 0x211, 0x300, 0x301, 0x31f, 0x400, 0x401, 0x40e, 0x40f, 0xa01, 0xa32, 0xc20,
   0xc21, 0xc25, 0x1405, 0x1407, 0x1408, 0x1409, 0x140d, 0x140f, 0x1413, 0x1415]

theorem execChangeoverComplete_touch {W0 : List Nat} {s0 s : State} (h0 : Touch W0 s0 s) (hW : Sub execChangeoverComplete_cells W0) (vmux : Nat) (us : Nat) :
    TouchOut W0 s0 (execChangeoverComplete vmux us s) := by
  have c_State_changeoverDone : Sub State.changeoverDone_cells W0 := Sub.trans (Sub.of rfl) hW
  unfold execChangeoverComplete
  repeat' first
    | with_reducible assumption
    | with_reducible refine TouchOut.next ?_
    | with_reducible refine State.changeoverDone_touch ?_ c_State_changeoverDone _ _ _
    | with_reducible refine State.whenLive_touch ?_ _ ?_
    | with_reducible refine Touch.ite ?_ ?_
    | with_reducible intro _ _
    | split

def execMainConverterFault_cells : List Nat :=
  [0x2, 0x6, 0x100, 0x101, 0x110, 0x111, 0x112, 0x113, 0x114, 0x116, 0x117, 0x200, 0x210, 0x300, 0x301, 0x31f, 0x400,
   0x401, 0x40e, 0x40f, 0x900, 0x901, 0xa01, 0xa32, 0xb00, 0xb01, 0xb18, 0xc00, 0xc06, 0xc20, 0xc21, 0xc25, 0xc30,
   0xc34, 0xe00, 0x1405, 0x1407, 0x1408, 0x1409, 0x140c, 0x140d, 0x140f, 0x1412, 0x1413, 0x1414, 0x1415, 0x1418]

theorem execMainConverterFault_touch {W0 : List Nat} {s0 s : State} (h0 : Touch W0 s0 s) (hW : Sub execMainConverterFault_cells W0) (vsys : Nat) (mv : Nat) :
    TouchOut W0 s0 (execMainConverterFault vsys mv s) := by
  have c_State_setVsys : Sub State.setVsys_cells W0 := Sub.trans (Sub.of rfl) hW
  have c_State_trip : Sub State.trip_cells W0 := Sub.trans (Sub.of rfl) hW
  have w1407 : 0x1407 ∈ W0 := hW.mem rfl
  unfold execMainConverterFault
  repeat' first
    | with_reducible assumption
    | with_reducible refine TouchOut.next ?_
    | (extract_lets +onlyGivenNames xx; guard_hyp xx : State := _; refine Touch.cut (x := xx) ?_ ?_; (on_goal 2 => (intro hh; (try clear_value xx); revert xx; intro _ _)); any_goals (revert xx; intro _))
    | (extract_lets +onlyGivenNames xx; (try clear_value xx); revert xx; intro _)
    | with_reducible refine State.setVsys_touch ?_ c_State_setVsys _
    | with_reducible refine State.trip_touch ?_ c_State_trip _ _ _ _
    | with_reducible refine State.when_touch ?_ _ _ ?_
    | with_reducible intro _ _
    | split
    | with_reducible refine Touch.update ?_

def execIdealDiodeConduct_cells : List Nat :=
  [0x200, 0x210, 0x1407, 0x1409]

theorem execIdealDiodeConduct_touch {W0 : List Nat} {s0 s : State} (h0 : Touch W0 s0 s) (hW : Sub execIdealDiodeConduct_cells W0) (vsys : Nat) (bat : Nat) (ma : Nat) :
    TouchOut W0 s0 (execIdealDiodeConduct vsys bat ma s) := by
  have c_State_setVsys : Sub State.setVsys_cells W0 := Sub.trans (Sub.of rfl) hW
  have c_State_batfetIdeal : Sub State.batfetIdeal_cells W0 := Sub.trans (Sub.of rfl) hW
  have w200 : Writes W0 R.PATH_STATUS := Or.inl (hW.mem rfl)
  have w1407 : 0x1407 ∈ W0 := hW.mem rfl
  have w1409 : 0x1409 ∈ W0 := hW.mem rfl
  unfold execIdealDiodeConduct
  repeat' first
    | with_reducible assumption
    | with_reducible refine TouchOut.next ?_
    | (extract_lets +onlyGivenNames xx; guard_hyp xx : State := _; refine Touch.cut (x := xx) ?_ ?_; (on_goal 2 => (intro hh; (try clear_value xx); revert xx; intro _ _)); any_goals (revert xx; intro _))
    | (extract_lets +onlyGivenNames xx; (try clear_value xx); revert xx; intro _)
    | with_reducible refine State.setVsys_touch ?_ c_State_setVsys _
    | with_reducible refine State.batfetIdeal_touch ?_ c_State_batfetIdeal
    | with_reducible refine State.setFlag_touch ?_ _ _ ?_
    | with_reducible refine State.when_touch ?_ _ _ ?_
    | with_reducible intro _ _
    | with_reducible refine Touch.update ?_

def execSupplementStart_cells : List Nat :=
  [0x2, 0x6, 0x100, 0x200, 0x201, 0x300, 0x301, 0x31f, 0x400, 0x401, 0x40e, 0x40f, 0xa01, 0xa32, 0x1408, 0x1409,
   0x140f]

theorem execSupplementStart_touch {W0 : List Nat} {s0 s : State} (h0 : Touch W0 s0 s) (hW : Sub execSupplementStart_cells W0) :
    TouchOut W0 s0 (execSupplementStart s) := by
  have c_State_batfetIdeal : Sub State.batfetIdeal_cells W0 := Sub.trans (Sub.of rfl) hW
  have c_State_refreshReduced : Sub State.refreshReduced_cells W0 := Sub.trans (Sub.of rfl) hW
  have c_State_refreshIbat : Sub State.refreshIbat_cells W0 := Sub.trans (Sub.of rfl) hW
  have c_State_tetMove : Sub State.tetMove_cells W0 := Sub.trans (Sub.of rfl) hW
  have w200 : Writes W0 R.PATH_STATUS := Or.inl (hW.mem rfl)
  have w201 : Writes W0 R.PATH_EVENT := Or.inl (hW.mem rfl)
  have w1409 : 0x1409 ∈ W0 := hW.mem rfl
  unfold execSupplementStart
  repeat' first
    | with_reducible assumption
    | with_reducible refine TouchOut.next ?_
    | (extract_lets +onlyGivenNames xx; guard_hyp xx : State := _; refine Touch.cut (x := xx) ?_ ?_; (on_goal 2 => (intro hh; (try clear_value xx); revert xx; intro _ _)); any_goals (revert xx; intro _))
    | (extract_lets +onlyGivenNames xx; (try clear_value xx); revert xx; intro _)
    | with_reducible refine State.batfetIdeal_touch ?_ c_State_batfetIdeal
    | with_reducible refine State.refreshReduced_touch ?_ c_State_refreshReduced
    | with_reducible refine State.refreshIbat_touch ?_ c_State_refreshIbat
    | with_reducible refine State.tetMove_touch ?_ c_State_tetMove
    | with_reducible refine State.event_touch ?_ _ ?_
    | with_reducible refine State.setFlag_touch ?_ _ _ ?_
    | with_reducible refine State.when_touch ?_ _ _ ?_
    | with_reducible intro _ _
    | with_reducible refine Touch.update ?_

def execSupplementEnd_cells : List Nat :=
  [0x2, 0x6, 0x100, 0x200, 0x201, 0x300, 0x301, 0x31f, 0x400, 0x401, 0x40e, 0x40f, 0xa01, 0xa32, 0x1408, 0x1409,
   0x140f]

theorem execSupplementEnd_touch {W0 : List Nat} {s0 s : State} (h0 : Touch W0 s0 s) (hW : Sub execSupplementEnd_cells W0) :
    TouchOut W0 s0 (execSupplementEnd s) := by
  have c_State_refreshBatfet : Sub State.refreshBatfet_cells W0 := Sub.trans (Sub.of rfl) hW
  have c_State_tetMove : Sub State.tetMove_cells W0 := Sub.trans (Sub.of rfl) hW
  have w200 : Writes W0 R.PATH_STATUS := Or.inl (hW.mem rfl)
  have w201 : Writes W0 R.PATH_EVENT := Or.inl (hW.mem rfl)
  unfold execSupplementEnd
  repeat' first
    | with_reducible assumption
    | with_reducible refine TouchOut.next ?_
    | with_reducible refine State.refreshBatfet_touch ?_ c_State_refreshBatfet
    | with_reducible refine State.tetMove_touch ?_ c_State_tetMove
    | with_reducible refine State.event_touch ?_ _ ?_
    | with_reducible refine State.setFlag_touch ?_ _ _ ?_
    | with_reducible refine State.when_touch ?_ _ _ ?_
    | with_reducible intro _ _

def execBatfetTrip_cells : List Nat :=
  [0x200, 0x201, 0x210, 0xa01, 0xa32, 0x1407, 0x140f]

theorem execBatfetTrip_touch {W0 : List Nat} {s0 s : State} (h0 : Touch W0 s0 s) (hW : Sub execBatfetTrip_cells W0) (ma : Nat) (vsys : Nat) :
    TouchOut W0 s0 (execBatfetTrip ma vsys s) := by
  have c_State_setVsys : Sub State.setVsys_cells W0 := Sub.trans (Sub.of rfl) hW
  have c_State_coalesce : Sub State.coalesce_cells W0 := Sub.trans (Sub.of rfl) hW
  have c_State_post : Sub State.post_cells W0 := Sub.trans (Sub.of rfl) hW
  have c_State_refreshBatfet : Sub State.refreshBatfet_cells W0 := Sub.trans (Sub.of rfl) hW
  have w200 : Writes W0 R.PATH_STATUS := Or.inl (hW.mem rfl)
  have w201 : Writes W0 R.PATH_EVENT := Or.inl (hW.mem rfl)
  have w1407 : 0x1407 ∈ W0 := hW.mem rfl
  unfold execBatfetTrip
  repeat' first
    | with_reducible assumption
    | with_reducible refine TouchOut.next ?_
    | (extract_lets +onlyGivenNames xx; guard_hyp xx : State := _; refine Touch.cut (x := xx) ?_ ?_; (on_goal 2 => (intro hh; (try clear_value xx); revert xx; intro _ _)); any_goals (revert xx; intro _))
    | (extract_lets +onlyGivenNames xx; (try clear_value xx); revert xx; intro _)
    | with_reducible refine State.setVsys_touch ?_ c_State_setVsys _
    | with_reducible refine State.coalesce_touch ?_ c_State_coalesce _
    | with_reducible refine State.post_touch ?_ c_State_post _ _
    | with_reducible refine State.refreshBatfet_touch ?_ c_State_refreshBatfet
    | with_reducible refine State.event_touch ?_ _ ?_
    | with_reducible refine State.setFlag_touch ?_ _ _ ?_
    | with_reducible refine State.when_touch ?_ _ _ ?_
    | with_reducible refine Touch.ite ?_ ?_
    | with_reducible intro _ _
    | split
    | with_reducible refine Touch.update ?_

def execBatfetRetry_cells : List Nat :=
  [0x200, 0x1407]

theorem execBatfetRetry_touch {W0 : List Nat} {s0 s : State} (h0 : Touch W0 s0 s) (hW : Sub execBatfetRetry_cells W0) :
    TouchOut W0 s0 (execBatfetRetry s) := by
  have c_State_refreshBatfet : Sub State.refreshBatfet_cells W0 := Sub.trans (Sub.of rfl) hW
  have w200 : Writes W0 R.PATH_STATUS := Or.inl (hW.mem rfl)
  have w1407 : 0x1407 ∈ W0 := hW.mem rfl
  unfold execBatfetRetry
  repeat' first
    | with_reducible assumption
    | with_reducible refine TouchOut.next ?_
    | (extract_lets +onlyGivenNames xx; guard_hyp xx : State := _; refine Touch.cut (x := xx) ?_ ?_; (on_goal 2 => (intro hh; (try clear_value xx); revert xx; intro _ _)); any_goals (revert xx; intro _))
    | (extract_lets +onlyGivenNames xx; (try clear_value xx); revert xx; intro _)
    | with_reducible refine State.refreshBatfet_touch ?_ c_State_refreshBatfet
    | with_reducible refine State.setFlag_touch ?_ _ _ ?_
    | with_reducible refine State.when_touch ?_ _ _ ?_
    | with_reducible intro _ _
    | with_reducible refine Touch.update ?_

def execLinearEnd_cells : List Nat :=
  [0x200, 0x201, 0x1409]

theorem execLinearEnd_touch {W0 : List Nat} {s0 s : State} (h0 : Touch W0 s0 s) (hW : Sub execLinearEnd_cells W0) (bat : Nat) :
    TouchOut W0 s0 (execLinearEnd bat s) := by
  have c_State_refreshBatfet : Sub State.refreshBatfet_cells W0 := Sub.trans (Sub.of rfl) hW
  have w201 : Writes W0 R.PATH_EVENT := Or.inl (hW.mem rfl)
  have w1409 : 0x1409 ∈ W0 := hW.mem rfl
  unfold execLinearEnd
  repeat' first
    | with_reducible assumption
    | with_reducible refine TouchOut.next ?_
    | (extract_lets +onlyGivenNames xx; (try clear_value xx); revert xx; intro _)
    | with_reducible refine State.refreshBatfet_touch ?_ c_State_refreshBatfet
    | with_reducible refine State.event_touch ?_ _ ?_
    | with_reducible refine State.when_touch ?_ _ _ ?_
    | with_reducible intro _ _
    | with_reducible refine Touch.update ?_

def execVpvPoStep_cells : List Nat :=
  [0x1407]

theorem execVpvPoStep_touch {W0 : List Nat} {s0 s : State} (h0 : Touch W0 s0 s) (hW : Sub execVpvPoStep_cells W0) (up : Bool) :
    TouchOut W0 s0 (execVpvPoStep up s) := by
  have w1407 : 0x1407 ∈ W0 := hW.mem rfl
  unfold execVpvPoStep
  repeat' first
    | with_reducible assumption
    | with_reducible refine TouchOut.next ?_
    | (extract_lets +onlyGivenNames xx; (try clear_value xx); revert xx; intro _)
    | with_reducible refine State.when_touch ?_ _ _ ?_
    | with_reducible intro _ _
    | with_reducible refine Touch.update ?_

def execVpvOcCheck_cells : List Nat :=
  [0x100, 0x1407]

theorem execVpvOcCheck_touch {W0 : List Nat} {s0 s : State} (h0 : Touch W0 s0 s) (hW : Sub execVpvOcCheck_cells W0) :
    TouchOut W0 s0 (execVpvOcCheck s) := by
  have w100 : Writes W0 R.SRC_STATUS := Or.inl (hW.mem rfl)
  have w1407 : 0x1407 ∈ W0 := hW.mem rfl
  unfold execVpvOcCheck
  repeat' first
    | with_reducible assumption
    | with_reducible refine TouchOut.next ?_
    | (extract_lets +onlyGivenNames xx; guard_hyp xx : State := _; refine Touch.cut (x := xx) ?_ ?_; (on_goal 2 => (intro hh; (try clear_value xx); revert xx; intro _ _)); any_goals (revert xx; intro _))
    | (extract_lets +onlyGivenNames xx; (try clear_value xx); revert xx; intro _)
    | with_reducible refine State.setFlag_touch ?_ _ _ ?_
    | with_reducible refine State.when_touch ?_ _ _ ?_
    | with_reducible intro _ _
    | with_reducible refine Touch.update ?_

def execVpvOcCheckEnd_cells : List Nat :=
  [0x100, 0x115, 0x1407]

theorem execVpvOcCheckEnd_touch {W0 : List Nat} {s0 s : State} (h0 : Touch W0 s0 s) (hW : Sub execVpvOcCheckEnd_cells W0) (mv : Nat) :
    TouchOut W0 s0 (execVpvOcCheckEnd mv s) := by
  have c_State_setVoc : Sub State.setVoc_cells W0 := Sub.trans (Sub.of rfl) hW
  have c_State_trackStart : Sub State.trackStart_cells W0 := Sub.trans (Sub.of rfl) hW
  unfold execVpvOcCheckEnd
  repeat' first
    | with_reducible assumption
    | with_reducible refine TouchOut.next ?_
    | with_reducible refine State.setVoc_touch ?_ c_State_setVoc _
    | with_reducible refine State.trackStart_touch ?_ c_State_trackStart
    | with_reducible refine State.when_touch ?_ _ _ ?_
    | with_reducible intro _ _

end Sys2Proof.Machine
end

