-- ==== Sys2Proof/Laws/TouchOpt.lean ====
section
/-!
SUPPORT. What each operation of Machine/Opt.lean can do: the registers and parts of the state it may write, and nothing
else; the unit, its queue and the form of its stores are kept.
-/

-- proofs are elaborated one after another: many at once ask for more threads than a memory limit allows
set_option Elab.async false

set_option linter.unusedTactic false
set_option linter.unusedVariables false
set_option linter.unusedSimpArgs false
set_option linter.unreachableTactic false
set_option linter.tactic.unusedName false

namespace Sys2Proof.Machine

def State.onOpt_cells : List Nat :=
  []

theorem State.onOpt_touch {W0 : List Nat} {s0 s : State} (h0 : Touch W0 s0 s) (hW : Sub State.onOpt_cells W0) (f : State → State) (hf : ∀ t, Touch W0 s0 t → Touch W0 s0 (f t)) :
    Touch W0 s0 (State.onOpt s f) := by
  unfold State.onOpt
  repeat' first
    | with_reducible assumption
    | with_reducible refine State.when_touch ?_ _ _ ?_

def State.ambient_cells : List Nat :=
  [0xc24]

theorem State.ambient_touch {W0 : List Nat} {s0 s : State} (h0 : Touch W0 s0 s) (hW : Sub State.ambient_cells W0) (amb : Nat) :
    Touch W0 s0 (State.ambient s amb) := by
  have wc24 : Writes W0 R.OPT_AMB := Or.inl (hW.mem rfl)
  unfold State.ambient
  repeat' first
    | with_reducible assumption
    | with_reducible refine State.setReg_touch ?_ _ _ ?_

def execOptPreambleDetect_cells : List Nat :=
  [0xc20, 0xc24, 0x1415]

theorem execOptPreambleDetect_touch {W0 : List Nat} {s0 s : State} (h0 : Touch W0 s0 s) (hW : Sub execOptPreambleDetect_cells W0) (amb : Nat) :
    TouchOut W0 s0 (execOptPreambleDetect amb s) := by
  have c_State_onOpt : Sub State.onOpt_cells W0 := fun _ h => nomatch h
  have c_State_ambient : Sub State.ambient_cells W0 := Sub.trans (Sub.of rfl) hW
  have wc20 : Writes W0 R.OPT_STATUS := Or.inl (hW.mem rfl)
  have w1415 : 0x1415 ∈ W0 := hW.mem rfl
  unfold execOptPreambleDetect
  repeat' first
    | with_reducible assumption
    | with_reducible refine TouchOut.next ?_
    | (extract_lets +onlyGivenNames xx; guard_hyp xx : State := _; refine Touch.cut (x := xx) ?_ ?_; (on_goal 2 => (intro hh; (try clear_value xx); revert xx; intro _ _)); any_goals (revert xx; intro _))
    | (extract_lets +onlyGivenNames xx; (try clear_value xx); revert xx; intro _)
    | with_reducible refine State.onOpt_touch ?_ c_State_onOpt _ ?_
    | with_reducible refine State.ambient_touch ?_ c_State_ambient _
    | with_reducible refine State.setFlag_touch ?_ _ _ ?_
    | with_reducible refine State.when_touch ?_ _ _ ?_
    | with_reducible refine Touch.ite ?_ ?_
    | with_reducible intro _ _
    | with_reducible refine Touch.update ?_

def execOptListenTimeout_cells : List Nat :=
  [0x1415]

theorem execOptListenTimeout_touch {W0 : List Nat} {s0 s : State} (h0 : Touch W0 s0 s) (hW : Sub execOptListenTimeout_cells W0) :
    TouchOut W0 s0 (execOptListenTimeout s) := by
  have w1415 : 0x1415 ∈ W0 := hW.mem rfl
  unfold execOptListenTimeout
  repeat' first
    | with_reducible assumption
    | with_reducible refine TouchOut.next ?_
    | (extract_lets +onlyGivenNames xx; (try clear_value xx); revert xx; intro _)
    | with_reducible refine State.when_touch ?_ _ _ ?_
    | with_reducible intro _ _
    | with_reducible refine Touch.update ?_

def execOptFrameRx_cells : List Nat :=
  [0xc20, 0xc21, 0xc29, 0x1415]

theorem execOptFrameRx_touch {W0 : List Nat} {s0 s : State} (h0 : Touch W0 s0 s) (hW : Sub execOptFrameRx_cells W0) (half : List Bool) :
    TouchOut W0 s0 (execOptFrameRx half s) := by
  have c_State_onOpt : Sub State.onOpt_cells W0 := fun _ h => nomatch h
  have wc20 : Writes W0 R.OPT_STATUS := Or.inl (hW.mem rfl)
  have wc21 : Writes W0 R.OPT_EVENT := Or.inl (hW.mem rfl)
  have wc29 : Writes W0 R.OPT_RXCNT := Or.inl (hW.mem rfl)
  have w1415 : 0x1415 ∈ W0 := hW.mem rfl
  unfold execOptFrameRx
  repeat' first
    | with_reducible assumption
    | with_reducible refine TouchOut.next ?_
    | (extract_lets +onlyGivenNames xx; guard_hyp xx : State := _; refine Touch.cut (x := xx) ?_ ?_; (on_goal 2 => (intro hh; (try clear_value xx); revert xx; intro _ _)); any_goals (revert xx; intro _))
    | (extract_lets +onlyGivenNames xx; (try clear_value xx); revert xx; intro _)
    | with_reducible refine State.onOpt_touch ?_ c_State_onOpt _ ?_
    | with_reducible refine State.bump_touch ?_ _ _ ?_
    | with_reducible refine State.event_touch ?_ _ ?_
    | with_reducible refine State.setFlag_touch ?_ _ _ ?_
    | with_reducible refine State.when_touch ?_ _ _ ?_
    | with_reducible intro _ _
    | split
    | with_reducible refine Touch.update ?_

def execOptFrameError_cells : List Nat :=
  [0xa01, 0xa32, 0xc20, 0xc21, 0xc28, 0x140f]

theorem execOptFrameError_touch {W0 : List Nat} {s0 s : State} (h0 : Touch W0 s0 s) (hW : Sub execOptFrameError_cells W0) (half : List Bool) :
    TouchOut W0 s0 (execOptFrameError half s) := by
  have c_State_onOpt : Sub State.onOpt_cells W0 := fun _ h => nomatch h
  have c_State_tally : Sub State.tally_cells W0 := Sub.trans (Sub.of rfl) hW
  have wc20 : Writes W0 R.OPT_STATUS := Or.inl (hW.mem rfl)
  have wc21 : Writes W0 R.OPT_EVENT := Or.inl (hW.mem rfl)
  have wc28 : Writes W0 R.OPT_ERRCNT := Or.inl (hW.mem rfl)
  unfold execOptFrameError
  repeat' first
    | with_reducible assumption
    | with_reducible refine TouchOut.next ?_
    | with_reducible refine State.onOpt_touch ?_ c_State_onOpt _ ?_
    | with_reducible refine State.tally_touch ?_ c_State_tally _
    | with_reducible refine State.bump_touch ?_ _ _ ?_
    | with_reducible refine State.event_touch ?_ _ ?_
    | with_reducible refine State.setFlag_touch ?_ _ _ ?_
    | with_reducible refine State.when_touch ?_ _ _ ?_
    | with_reducible intro _ _

def execOptFlood_cells : List Nat :=
  [0xa01, 0xa32, 0xc20, 0xc21, 0xc24, 0xc27, 0x140f, 0x1415]

theorem execOptFlood_touch {W0 : List Nat} {s0 s : State} (h0 : Touch W0 s0 s) (hW : Sub execOptFlood_cells W0) (amb : Nat) :
    TouchOut W0 s0 (execOptFlood amb s) := by
  have c_State_onOpt : Sub State.onOpt_cells W0 := fun _ h => nomatch h
  have c_State_ambient : Sub State.ambient_cells W0 := Sub.trans (Sub.of rfl) hW
  have c_State_tally : Sub State.tally_cells W0 := Sub.trans (Sub.of rfl) hW
  have wc20 : Writes W0 R.OPT_STATUS := Or.inl (hW.mem rfl)
  have wc21 : Writes W0 R.OPT_EVENT := Or.inl (hW.mem rfl)
  have wc27 : Writes W0 R.OPT_FLOODCNT := Or.inl (hW.mem rfl)
  have w1415 : 0x1415 ∈ W0 := hW.mem rfl
  unfold execOptFlood
  repeat' first
    | with_reducible assumption
    | with_reducible refine TouchOut.next ?_
    | (extract_lets +onlyGivenNames xx; guard_hyp xx : State := _; refine Touch.cut (x := xx) ?_ ?_; (on_goal 2 => (intro hh; (try clear_value xx); revert xx; intro _ _)); any_goals (revert xx; intro _))
    | (extract_lets +onlyGivenNames xx; (try clear_value xx); revert xx; intro _)
    | with_reducible refine State.onOpt_touch ?_ c_State_onOpt _ ?_
    | with_reducible refine State.ambient_touch ?_ c_State_ambient _
    | with_reducible refine State.tally_touch ?_ c_State_tally _
    | with_reducible refine State.bump_touch ?_ _ _ ?_
    | with_reducible refine State.event_touch ?_ _ ?_
    | with_reducible refine State.setFlag_touch ?_ _ _ ?_
    | with_reducible intro _ _
    | with_reducible refine Touch.update ?_

def execOptSettleEnd_cells : List Nat :=
  [0xc20, 0xc24, 0x1415]

theorem execOptSettleEnd_touch {W0 : List Nat} {s0 s : State} (h0 : Touch W0 s0 s) (hW : Sub execOptSettleEnd_cells W0) (amb : Nat) :
    TouchOut W0 s0 (execOptSettleEnd amb s) := by
  have c_State_onOpt : Sub State.onOpt_cells W0 := fun _ h => nomatch h
  have c_State_ambient : Sub State.ambient_cells W0 := Sub.trans (Sub.of rfl) hW
  have wc20 : Writes W0 R.OPT_STATUS := Or.inl (hW.mem rfl)
  have w1415 : 0x1415 ∈ W0 := hW.mem rfl
  unfold execOptSettleEnd
  repeat' first
    | with_reducible assumption
    | with_reducible refine TouchOut.next ?_
    | (extract_lets +onlyGivenNames xx; guard_hyp xx : State := _; refine Touch.cut (x := xx) ?_ ?_; (on_goal 2 => (intro hh; (try clear_value xx); revert xx; intro _ _)); any_goals (revert xx; intro _))
    | (extract_lets +onlyGivenNames xx; (try clear_value xx); revert xx; intro _)
    | with_reducible refine State.onOpt_touch ?_ c_State_onOpt _ ?_
    | with_reducible refine State.ambient_touch ?_ c_State_ambient _
    | with_reducible refine State.setFlag_touch ?_ _ _ ?_
    | with_reducible refine State.when_touch ?_ _ _ ?_
    | with_reducible intro _ _
    | with_reducible refine Touch.update ?_

def execSvcLockoutExpiry_cells : List Nat :=
  [0xc30, 0x1413]

theorem execSvcLockoutExpiry_touch {W0 : List Nat} {s0 s : State} (h0 : Touch W0 s0 s) (hW : Sub execSvcLockoutExpiry_cells W0) :
    TouchOut W0 s0 (execSvcLockoutExpiry s) := by
  have wc30 : Writes W0 R.SVC_STATUS := Or.inl (hW.mem rfl)
  have w1413 : 0x1413 ∈ W0 := hW.mem rfl
  unfold execSvcLockoutExpiry
  repeat' first
    | with_reducible assumption
    | with_reducible refine TouchOut.next ?_
    | (extract_lets +onlyGivenNames xx; guard_hyp xx : State := _; refine Touch.cut (x := xx) ?_ ?_; (on_goal 2 => (intro hh; (try clear_value xx); revert xx; intro _ _)); any_goals (revert xx; intro _))
    | (extract_lets +onlyGivenNames xx; (try clear_value xx); revert xx; intro _)
    | with_reducible refine State.setFlag_touch ?_ _ _ ?_
    | with_reducible refine State.when_touch ?_ _ _ ?_
    | with_reducible intro _ _
    | with_reducible refine Touch.update ?_

end Sys2Proof.Machine
end

