-- ==== Sys2Proof/Laws/TouchConvOps.lean ====
section
/-!
SUPPORT. What each operation of Machine/ConvOps.lean can do: the registers and parts of the state it may write, and nothing
else; the unit, its queue and the form of its stores are kept.
-/

-- proofs are elaborated one after another: many at once ask for more threads than a memory limit allows
set_option Elab.async false

set_option linter.unusedTactic false
set_option linter.unusedVariables false
set_option linter.unusedSimpArgs false
set_option linter.unreachableTactic false
set_option linter.tactic.unusedName false

namespace Sys2Proof.Machine

def State.vauxLow_cells : List Nat :=
  [0x400, 0x401, 0x700, 0x1404, 0x1406, 0x1408]

theorem State.vauxLow_touch {W0 : List Nat} {s0 s : State} (h0 : Touch W0 s0 s) (hW : Sub State.vauxLow_cells W0) :
    Touch W0 s0 (State.vauxLow s) := by
  have w400 : Writes W0 R.CONV_STATUS := Or.inl (hW.mem rfl)
  have w401 : Writes W0 R.CONV_EVENT := Or.inl (hW.mem rfl)
  have w700 : Writes W0 R.ALM_STATUS := Or.inl (hW.mem rfl)
  have w1404 : 0x1404 ∈ W0 := hW.mem rfl
  have w1406 : 0x1406 ∈ W0 := hW.mem rfl
  have w1408 : 0x1408 ∈ W0 := hW.mem rfl
  unfold State.vauxLow
  repeat' first
    | with_reducible assumption
    | (extract_lets +onlyGivenNames xx; guard_hyp xx : State := _; refine Touch.cut (x := xx) ?_ ?_; (on_goal 2 => (intro hh; (try clear_value xx); revert xx; intro _ _)); any_goals (revert xx; intro _))
    | (extract_lets +onlyGivenNames xx; (try clear_value xx); revert xx; intro _)
    | with_reducible refine State.event_touch ?_ _ ?_
    | with_reducible refine State.setFlag_touch ?_ _ _ ?_
    | with_reducible refine Touch.ite ?_ ?_
    | with_reducible refine Touch.update ?_

def State.nrstRelease_cells : List Nat :=
  [0x400, 0x700, 0x1404, 0x1406, 0x1408, 0x1410]

theorem State.nrstRelease_touch {W0 : List Nat} {s0 s : State} (h0 : Touch W0 s0 s) (hW : Sub State.nrstRelease_cells W0) :
    Touch W0 s0 (State.nrstRelease s) := by
  have w400 : Writes W0 R.CONV_STATUS := Or.inl (hW.mem rfl)
  have w700 : Writes W0 R.ALM_STATUS := Or.inl (hW.mem rfl)
  have w1404 : 0x1404 ∈ W0 := hW.mem rfl
  have w1406 : 0x1406 ∈ W0 := hW.mem rfl
  have w1408 : 0x1408 ∈ W0 := hW.mem rfl
  have w1410 : 0x1410 ∈ W0 := hW.mem rfl
  unfold State.nrstRelease
  repeat' first
    | with_reducible assumption
    | (extract_lets +onlyGivenNames xx; guard_hyp xx : State := _; refine Touch.cut (x := xx) ?_ ?_; (on_goal 2 => (intro hh; (try clear_value xx); revert xx; intro _ _)); any_goals (revert xx; intro _))
    | (extract_lets +onlyGivenNames xx; (try clear_value xx); revert xx; intro _)
    | with_reducible refine State.setFlag_touch ?_ _ _ ?_
    | with_reducible refine Touch.update ?_

def State.vauxApply_cells : List Nat :=
  [0x1404, 0x1408, 0x140f, 0x1417]

theorem State.vauxApply_touch {W0 : List Nat} {s0 s : State} (h0 : Touch W0 s0 s) (hW : Sub State.vauxApply_cells W0) :
    Touch W0 s0 (State.vauxApply s) := by
  have c_State_storeVaux : Sub State.storeVaux_cells W0 := Sub.trans (Sub.of rfl) hW
  have w1404 : 0x1404 ∈ W0 := hW.mem rfl
  have w1408 : 0x1408 ∈ W0 := hW.mem rfl
  unfold State.vauxApply
  repeat' first
    | with_reducible assumption
    | (extract_lets +onlyGivenNames xx; guard_hyp xx : State := _; refine Touch.cut (x := xx) ?_ ?_; (on_goal 2 => (intro hh; (try clear_value xx); revert xx; intro _ _)); any_goals (revert xx; intro _))
    | (extract_lets +onlyGivenNames xx; (try clear_value xx); revert xx; intro _)
    | with_reducible refine State.storeVaux_touch ?_ c_State_storeVaux _
    | with_reducible refine Touch.ite ?_ ?_
    | with_reducible refine Touch.update ?_

def State.holdInput_cells : List Nat :=
  [0x100, 0x114]

theorem State.holdInput_touch {W0 : List Nat} {s0 s : State} (h0 : Touch W0 s0 s) (hW : Sub State.holdInput_cells W0) :
    Touch W0 s0 (State.holdInput s) := by
  have w100 : Writes W0 R.SRC_STATUS := Or.inl (hW.mem rfl)
  have w114 : Writes W0 R.SRC_IIN := Or.inl (hW.mem rfl)
  unfold State.holdInput
  repeat' first
    | with_reducible assumption
    | (extract_lets +onlyGivenNames xx; guard_hyp xx : State := _; refine Touch.cut (x := xx) ?_ ?_; (on_goal 2 => (intro hh; (try clear_value xx); revert xx; intro _ _)); any_goals (revert xx; intro _))
    | (extract_lets +onlyGivenNames xx; (try clear_value xx); revert xx; intro _)
    | with_reducible refine State.setFlag_touch ?_ _ _ ?_
    | with_reducible refine State.setReg_touch ?_ _ _ ?_
    | with_reducible refine Touch.ite ?_ ?_

def State.tetHold_cells : List Nat :=
  [0x400, 0x40e]

theorem State.tetHold_touch {W0 : List Nat} {s0 s : State} (h0 : Touch W0 s0 s) (hW : Sub State.tetHold_cells W0) :
    Touch W0 s0 (State.tetHold s) := by
  have w400 : Writes W0 R.CONV_STATUS := Or.inl (hW.mem rfl)
  have w40e : Writes W0 R.CONV_TET_I := Or.inl (hW.mem rfl)
  unfold State.tetHold
  repeat' first
    | with_reducible assumption
    | (extract_lets +onlyGivenNames xx; (try clear_value xx); revert xx; intro _)
    | with_reducible refine State.setFlag_touch ?_ _ _ ?_
    | with_reducible refine State.setReg_touch ?_ _ _ ?_

def State.ladder_cells : List Nat :=
  [0x2, 0x6, 0x100, 0x200, 0x300, 0x301, 0x31f, 0x400, 0x401, 0x40e, 0x40f, 0xa01, 0xa32, 0x1408, 0x1409, 0x140f]

theorem State.ladder_touch {W0 : List Nat} {s0 s : State} (h0 : Touch W0 s0 s) (hW : Sub State.ladder_cells W0) (low : Bool) :
    Touch W0 s0 (State.ladder s low) := by
  have c_State_refreshFold : Sub State.refreshFold_cells W0 := Sub.trans (Sub.of rfl) hW
  have c_State_tetMove : Sub State.tetMove_cells W0 := Sub.trans (Sub.of rfl) hW
  have w1408 : 0x1408 ∈ W0 := hW.mem rfl
  unfold State.ladder
  repeat' first
    | with_reducible assumption
    | (extract_lets +onlyGivenNames xx; (try clear_value xx); revert xx; intro _)
    | with_reducible refine State.refreshFold_touch ?_ c_State_refreshFold
    | with_reducible refine State.tetMove_touch ?_ c_State_tetMove
    | with_reducible refine Touch.update ?_

end Sys2Proof.Machine
end

