-- ==== Sys2Proof/Laws/TouchChgOps.lean ====
section
/-!
SUPPORT. What each operation of Machine/ChgOps.lean can do: the registers and parts of the state it may write, and nothing
else; the unit, its queue and the form of its stores are kept.
-/

-- proofs are elaborated one after another: many at once ask for more threads than a memory limit allows
set_option Elab.async false

set_option linter.unusedTactic false
set_option linter.unusedVariables false
set_option linter.unusedSimpArgs false
set_option linter.unreachableTactic false
set_option linter.tactic.unusedName false

namespace Sys2Proof.Machine

def State.setBat_cells : List Nat :=
  [0x200, 0x900, 0x901, 0xa01, 0xa32, 0x1409, 0x140c, 0x140f]

theorem State.setBat_touch {W0 : List Nat} {s0 s : State} (h0 : Touch W0 s0 s) (hW : Sub State.setBat_cells W0) (bat : Nat) :
    Touch W0 s0 (State.setBat s bat) := by
  have c_State_refreshBatfet : Sub State.refreshBatfet_cells W0 := Sub.trans (Sub.of rfl) hW
  have c_State_chgVerdict : Sub State.chgVerdict_cells W0 := Sub.trans (Sub.of rfl) hW
  have w1409 : 0x1409 ∈ W0 := hW.mem rfl
  unfold State.setBat
  repeat' first
    | with_reducible assumption
    | (extract_lets +onlyGivenNames xx; (try clear_value xx); revert xx; intro _)
    | with_reducible refine State.refreshBatfet_touch ?_ c_State_refreshBatfet
    | with_reducible refine State.chgVerdict_touch ?_ c_State_chgVerdict
    | with_reducible refine Touch.update ?_

def State.chgDetect_cells : List Nat :=
  [0x200, 0x300, 0x301, 0x31f, 0x1409]

theorem State.chgDetect_touch {W0 : List Nat} {s0 s : State} (h0 : Touch W0 s0 s) (hW : Sub State.chgDetect_cells W0) :
    Touch W0 s0 (State.chgDetect s) := by
  have c_State_chgOff : Sub State.chgOff_cells W0 := Sub.trans (Sub.of rfl) hW
  have c_State_enterPhase : Sub State.enterPhase_cells W0 := Sub.trans (Sub.of rfl) hW
  have w1409 : 0x1409 ∈ W0 := hW.mem rfl
  unfold State.chgDetect
  repeat' first
    | with_reducible assumption
    | (extract_lets +onlyGivenNames xx; guard_hyp xx : State := _; refine Touch.cut (x := xx) ?_ ?_; (on_goal 2 => (intro hh; (try clear_value xx); revert xx; intro _ _)); any_goals (revert xx; intro _))
    | (extract_lets +onlyGivenNames xx; (try clear_value xx); revert xx; intro _)
    | with_reducible refine State.chgOff_touch ?_ c_State_chgOff
    | with_reducible refine State.enterPhase_touch ?_ c_State_enterPhase _
    | with_reducible refine Touch.ite ?_ ?_
    | with_reducible refine Touch.update ?_

def State.cellAbsent_cells : List Nat :=
  [0x200, 0x300, 0x301, 0x31f, 0x900, 0x901, 0xa01, 0xa32, 0x1409, 0x140c, 0x140f]

theorem State.cellAbsent_touch {W0 : List Nat} {s0 s : State} (h0 : Touch W0 s0 s) (hW : Sub State.cellAbsent_cells W0) :
    Touch W0 s0 (State.cellAbsent s) := by
  have c_State_enterPhase : Sub State.enterPhase_cells W0 := Sub.trans (Sub.of rfl) hW
  have c_State_post : Sub State.post_cells W0 := Sub.trans (Sub.of rfl) hW
  have c_State_chgVerdict : Sub State.chgVerdict_cells W0 := Sub.trans (Sub.of rfl) hW
  have w301 : Writes W0 R.CHG_EVENT := Or.inl (hW.mem rfl)
  have w1409 : 0x1409 ∈ W0 := hW.mem rfl
  unfold State.cellAbsent
  repeat' first
    | with_reducible assumption
    | (extract_lets +onlyGivenNames xx; guard_hyp xx : State := _; refine Touch.cut (x := xx) ?_ ?_; (on_goal 2 => (intro hh; (try clear_value xx); revert xx; intro _ _)); any_goals (revert xx; intro _))
    | (extract_lets +onlyGivenNames xx; (try clear_value xx); revert xx; intro _)
    | with_reducible refine State.enterPhase_touch ?_ c_State_enterPhase _
    | with_reducible refine State.post_touch ?_ c_State_post _ _
    | with_reducible refine State.chgVerdict_touch ?_ c_State_chgVerdict
    | with_reducible refine State.event_touch ?_ _ ?_
    | with_reducible refine Touch.ite ?_ ?_
    | with_reducible refine Touch.update ?_

def State.chgResume_cells : List Nat :=
  [0x200, 0x300, 0x301, 0x31f, 0x1409]

theorem State.chgResume_touch {W0 : List Nat} {s0 s : State} (h0 : Touch W0 s0 s) (hW : Sub State.chgResume_cells W0) :
    Touch W0 s0 (State.chgResume s) := by
  have c_State_enterPhase : Sub State.enterPhase_cells W0 := Sub.trans (Sub.of rfl) hW
  have w301 : Writes W0 R.CHG_EVENT := Or.inl (hW.mem rfl)
  unfold State.chgResume
  repeat' first
    | with_reducible assumption
    | with_reducible refine State.enterPhase_touch ?_ c_State_enterPhase _
    | with_reducible refine State.event_touch ?_ _ ?_
    | with_reducible refine Touch.ite ?_ ?_

def State.vregCheck_cells : List Nat :=
  [0x200, 0x300, 0x301, 0x31f, 0x1409]

theorem State.vregCheck_touch {W0 : List Nat} {s0 s : State} (h0 : Touch W0 s0 s) (hW : Sub State.vregCheck_cells W0) :
    Touch W0 s0 (State.vregCheck s) := by
  have c_State_chgTerminate : Sub State.chgTerminate_cells W0 := Sub.trans (Sub.of rfl) hW
  unfold State.vregCheck
  repeat' first
    | with_reducible assumption
    | with_reducible refine State.chgTerminate_touch ?_ c_State_chgTerminate
    | with_reducible refine Touch.ite ?_ ?_

def State.chgFigures_cells : List Nat :=
  [0x200, 0x300, 0x301, 0x31f, 0x1409]

theorem State.chgFigures_touch {W0 : List Nat} {s0 s : State} (h0 : Touch W0 s0 s) (hW : Sub State.chgFigures_cells W0) :
    Touch W0 s0 (State.chgFigures s) := by
  have c_State_refreshReduced : Sub State.refreshReduced_cells W0 := Sub.trans (Sub.of rfl) hW
  have c_State_refreshIbat : Sub State.refreshIbat_cells W0 := Sub.trans (Sub.of rfl) hW
  have c_State_refreshBatfet : Sub State.refreshBatfet_cells W0 := Sub.trans (Sub.of rfl) hW
  have c_State_vregCheck : Sub State.vregCheck_cells W0 := Sub.trans (Sub.of rfl) hW
  unfold State.chgFigures
  repeat' first
    | with_reducible assumption
    | with_reducible refine State.refreshReduced_touch ?_ c_State_refreshReduced
    | with_reducible refine State.refreshIbat_touch ?_ c_State_refreshIbat
    | with_reducible refine State.refreshBatfet_touch ?_ c_State_refreshBatfet
    | with_reducible refine State.vregCheck_touch ?_ c_State_vregCheck

def State.setSoc_cells : List Nat :=
  [0x2, 0x6, 0x100, 0x200, 0x300, 0x301, 0x31a, 0x31f, 0x400, 0x401, 0x405, 0x40e, 0x40f, 0xa01, 0xa32, 0x1408,
   0x1409, 0x140f]

theorem State.setSoc_touch {W0 : List Nat} {s0 s : State} (h0 : Touch W0 s0 s) (hW : Sub State.setSoc_cells W0) (v : Word) :
    Touch W0 s0 (State.setSoc s v) := by
  have c_State_refreshLimited : Sub State.refreshLimited_cells W0 := Sub.trans (Sub.of rfl) hW
  have c_State_chgFigures : Sub State.chgFigures_cells W0 := Sub.trans (Sub.of rfl) hW
  have c_State_tetMove : Sub State.tetMove_cells W0 := Sub.trans (Sub.of rfl) hW
  have w31a : Writes W0 R.CHG_SOC := Or.inl (hW.mem rfl)
  have w1409 : 0x1409 ∈ W0 := hW.mem rfl
  unfold State.setSoc
  repeat' first
    | with_reducible assumption
    | (extract_lets +onlyGivenNames xx; guard_hyp xx : State := _; refine Touch.cut (x := xx) ?_ ?_; (on_goal 2 => (intro hh; (try clear_value xx); revert xx; intro _ _)); any_goals (revert xx; intro _))
    | (extract_lets +onlyGivenNames xx; (try clear_value xx); revert xx; intro _)
    | with_reducible refine State.refreshLimited_touch ?_ c_State_refreshLimited
    | with_reducible refine State.chgFigures_touch ?_ c_State_chgFigures
    | with_reducible refine State.tetMove_touch ?_ c_State_tetMove
    | with_reducible refine State.setReg_touch ?_ _ _ ?_
    | with_reducible refine Touch.update ?_

def State.chgFault_cells : List Nat :=
  [0x2, 0x6, 0x100, 0x200, 0x300, 0x301, 0x31f, 0x321, 0x400, 0x401, 0x40e, 0x40f, 0x900, 0x901, 0xa01, 0xa32, 0x1408,
   0x1409, 0x140c, 0x140f]

theorem State.chgFault_touch {W0 : List Nat} {s0 s : State} (h0 : Touch W0 s0 s) (hW : Sub State.chgFault_cells W0) (cause : Nat) :
    Touch W0 s0 (State.chgFault s cause) := by
  have c_State_enterPhase : Sub State.enterPhase_cells W0 := Sub.trans (Sub.of rfl) hW
  have c_State_post : Sub State.post_cells W0 := Sub.trans (Sub.of rfl) hW
  have c_State_tetMove : Sub State.tetMove_cells W0 := Sub.trans (Sub.of rfl) hW
  have c_State_chgVerdict : Sub State.chgVerdict_cells W0 := Sub.trans (Sub.of rfl) hW
  have w301 : Writes W0 R.CHG_EVENT := Or.inl (hW.mem rfl)
  have w321 : Writes W0 R.CHG_FAULTCNT := Or.inl (hW.mem rfl)
  have w1409 : 0x1409 ∈ W0 := hW.mem rfl
  unfold State.chgFault
  repeat' first
    | with_reducible assumption
    | (extract_lets +onlyGivenNames xx; guard_hyp xx : State := _; refine Touch.cut (x := xx) ?_ ?_; (on_goal 2 => (intro hh; (try clear_value xx); revert xx; intro _ _)); any_goals (revert xx; intro _))
    | (extract_lets +onlyGivenNames xx; (try clear_value xx); revert xx; intro _)
    | with_reducible refine State.enterPhase_touch ?_ c_State_enterPhase _
    | with_reducible refine State.post_touch ?_ c_State_post _ _
    | with_reducible refine State.tetMove_touch ?_ c_State_tetMove
    | with_reducible refine State.chgVerdict_touch ?_ c_State_chgVerdict
    | with_reducible refine State.bump_touch ?_ _ _ ?_
    | with_reducible refine State.event_touch ?_ _ ?_
    | with_reducible refine Touch.update ?_

def State.chgUnfault_cells : List Nat :=
  [0x2, 0x6, 0x100, 0x200, 0x300, 0x301, 0x31f, 0x400, 0x401, 0x40e, 0x40f, 0x900, 0x901, 0xa01, 0xa32, 0x1408,
   0x1409, 0x140c, 0x140f]

theorem State.chgUnfault_touch {W0 : List Nat} {s0 s : State} (h0 : Touch W0 s0 s) (hW : Sub State.chgUnfault_cells W0) :
    Touch W0 s0 (State.chgUnfault s) := by
  have c_State_chgDetect : Sub State.chgDetect_cells W0 := Sub.trans (Sub.of rfl) hW
  have c_State_tetMove : Sub State.tetMove_cells W0 := Sub.trans (Sub.of rfl) hW
  have c_State_refreshCell : Sub State.refreshCell_cells W0 := Sub.trans (Sub.of rfl) hW
  have w1409 : 0x1409 ∈ W0 := hW.mem rfl
  unfold State.chgUnfault
  repeat' first
    | with_reducible assumption
    | (extract_lets +onlyGivenNames xx; guard_hyp xx : State := _; refine Touch.cut (x := xx) ?_ ?_; (on_goal 2 => (intro hh; (try clear_value xx); revert xx; intro _ _)); any_goals (revert xx; intro _))
    | (extract_lets +onlyGivenNames xx; (try clear_value xx); revert xx; intro _)
    | with_reducible refine State.chgDetect_touch ?_ c_State_chgDetect
    | with_reducible refine State.tetMove_touch ?_ c_State_tetMove
    | with_reducible refine State.refreshCell_touch ?_ c_State_refreshCell _
    | with_reducible refine Touch.ite ?_ ?_
    | with_reducible refine Touch.update ?_

def State.chgClear_cells : List Nat :=
  [0x2, 0x6, 0x100, 0x200, 0x300, 0x301, 0x31f, 0x400, 0x401, 0x40e, 0x40f, 0x900, 0x901, 0xa01, 0xa32, 0x1408,
   0x1409, 0x140c, 0x140f]

theorem State.chgClear_touch {W0 : List Nat} {s0 s : State} (h0 : Touch W0 s0 s) (hW : Sub State.chgClear_cells W0) :
    Touch W0 s0 (State.chgClear s) := by
  have c_State_chgUnfault : Sub State.chgUnfault_cells W0 := Sub.trans (Sub.of rfl) hW
  unfold State.chgClear
  repeat' first
    | with_reducible assumption
    | with_reducible refine State.chgUnfault_touch ?_ c_State_chgUnfault
    | with_reducible refine Touch.ite ?_ ?_

def State.chgFullRequest_cells : List Nat :=
  [0x300, 0x405]

theorem State.chgFullRequest_touch {W0 : List Nat} {s0 s : State} (h0 : Touch W0 s0 s) (hW : Sub State.chgFullRequest_cells W0) :
    Touch W0 s0 (State.chgFullRequest s) := by
  have c_State_refreshPartial : Sub State.refreshPartial_cells W0 := Sub.trans (Sub.of rfl) hW
  have w300 : Writes W0 R.CHG_STATUS := Or.inl (hW.mem rfl)
  unfold State.chgFullRequest
  repeat' first
    | with_reducible assumption
    | with_reducible refine State.refreshPartial_touch ?_ c_State_refreshPartial
    | with_reducible refine State.setFlag_touch ?_ _ _ ?_
    | with_reducible refine Touch.ite ?_ ?_

def State.ntcFaultOn_cells : List Nat :=
  [0x900, 0x901, 0xa01, 0xa32, 0x1409, 0x140c, 0x140f]

theorem State.ntcFaultOn_touch {W0 : List Nat} {s0 s : State} (h0 : Touch W0 s0 s) (hW : Sub State.ntcFaultOn_cells W0) (cause : Nat) :
    Touch W0 s0 (State.ntcFaultOn s cause) := by
  have c_State_post : Sub State.post_cells W0 := Sub.trans (Sub.of rfl) hW
  have c_State_chgVerdict : Sub State.chgVerdict_cells W0 := Sub.trans (Sub.of rfl) hW
  have w1409 : 0x1409 ∈ W0 := hW.mem rfl
  unfold State.ntcFaultOn
  repeat' first
    | with_reducible assumption
    | (extract_lets +onlyGivenNames xx; guard_hyp xx : State := _; refine Touch.cut (x := xx) ?_ ?_; (on_goal 2 => (intro hh; (try clear_value xx); revert xx; intro _ _)); any_goals (revert xx; intro _))
    | (extract_lets +onlyGivenNames xx; (try clear_value xx); revert xx; intro _)
    | with_reducible refine State.post_touch ?_ c_State_post _ _
    | with_reducible refine State.chgVerdict_touch ?_ c_State_chgVerdict
    | with_reducible refine Touch.ite ?_ ?_
    | with_reducible refine Touch.update ?_

def State.ntcFaultOff_cells : List Nat :=
  [0x900, 0x901, 0xa01, 0xa32, 0x1409, 0x140c, 0x140f]

theorem State.ntcFaultOff_touch {W0 : List Nat} {s0 s : State} (h0 : Touch W0 s0 s) (hW : Sub State.ntcFaultOff_cells W0) (cause : Nat) :
    Touch W0 s0 (State.ntcFaultOff s cause) := by
  have c_State_refreshCell : Sub State.refreshCell_cells W0 := Sub.trans (Sub.of rfl) hW
  have w1409 : 0x1409 ∈ W0 := hW.mem rfl
  unfold State.ntcFaultOff
  repeat' first
    | with_reducible assumption
    | (extract_lets +onlyGivenNames xx; (try clear_value xx); revert xx; intro _)
    | with_reducible refine State.refreshCell_touch ?_ c_State_refreshCell _
    | with_reducible refine Touch.ite ?_ ?_
    | with_reducible refine Touch.update ?_

def State.setZone_cells : List Nat :=
  [0x200, 0x300, 0x301, 0x31e, 0x31f, 0xa01, 0xa32, 0x1409, 0x140f]

theorem State.setZone_touch {W0 : List Nat} {s0 s : State} (h0 : Touch W0 s0 s) (hW : Sub State.setZone_cells W0) (z : Nat) :
    Touch W0 s0 (State.setZone s z) := by
  have c_State_chgSuspend : Sub State.chgSuspend_cells W0 := Sub.trans (Sub.of rfl) hW
  have c_State_chgRelease : Sub State.chgRelease_cells W0 := fun _ h => nomatch h
  have c_State_chgFigures : Sub State.chgFigures_cells W0 := Sub.trans (Sub.of rfl) hW
  have w300 : Writes W0 R.CHG_STATUS := Or.inl (hW.mem rfl)
  have w301 : Writes W0 R.CHG_EVENT := Or.inl (hW.mem rfl)
  have w31e : Writes W0 R.CHG_ZONE := Or.inl (hW.mem rfl)
  unfold State.setZone
  repeat' first
    | with_reducible assumption
    | (extract_lets +onlyGivenNames xx; guard_hyp xx : State := _; refine Touch.cut (x := xx) ?_ ?_; (on_goal 2 => (intro hh; (try clear_value xx); revert xx; intro _ _)); any_goals (revert xx; intro _))
    | with_reducible refine State.chgSuspend_touch ?_ c_State_chgSuspend _ ?_
    | with_reducible refine State.chgRelease_touch ?_ c_State_chgRelease _ ?_
    | with_reducible refine State.chgFigures_touch ?_ c_State_chgFigures
    | with_reducible refine State.event_touch ?_ _ ?_
    | with_reducible refine State.setField_touch ?_ _ _ ?_
    | with_reducible refine Touch.ite ?_ ?_

def State.ntcTimes_cells : List Nat :=
  [0x1409]

theorem State.ntcTimes_touch {W0 : List Nat} {s0 s : State} (h0 : Touch W0 s0 s) (hW : Sub State.ntcTimes_cells W0) (differ : Bool) :
    Touch W0 s0 (State.ntcTimes s differ) := by
  have w1409 : 0x1409 ∈ W0 := hW.mem rfl
  unfold State.ntcTimes
  repeat' first
    | with_reducible assumption
    | (extract_lets +onlyGivenNames xx; (try clear_value xx); revert xx; intro _)
    | split
    | with_reducible refine Touch.update ?_

def State.ntcSensors_cells : List Nat :=
  [0x900, 0x901, 0xa01, 0xa32, 0x1409, 0x140c, 0x140f]

theorem State.ntcSensors_touch {W0 : List Nat} {s0 s : State} (h0 : Touch W0 s0 s) (hW : Sub State.ntcSensors_cells W0) (two : Bool) (za : Nat) (zb : Nat) :
    Touch W0 s0 (State.ntcSensors s two za zb) := by
  have c_State_ntcFaultOn : Sub State.ntcFaultOn_cells W0 := Sub.trans (Sub.of rfl) hW
  have c_State_ntcFaultOff : Sub State.ntcFaultOff_cells W0 := Sub.trans (Sub.of rfl) hW
  unfold State.ntcSensors
  repeat' first
    | with_reducible assumption
    | (extract_lets +onlyGivenNames xx; guard_hyp xx : State := _; refine Touch.cut (x := xx) ?_ ?_; (on_goal 2 => (intro hh; (try clear_value xx); revert xx; intro _ _)); any_goals (revert xx; intro _))
    | with_reducible refine State.ntcFaultOn_touch ?_ c_State_ntcFaultOn _
    | with_reducible refine State.ntcFaultOff_touch ?_ c_State_ntcFaultOff _
    | with_reducible refine Touch.ite ?_ ?_

def State.ntcAgree_cells : List Nat :=
  [0x2, 0x6, 0x100, 0x200, 0x300, 0x301, 0x31f, 0x400, 0x401, 0x40e, 0x40f, 0x900, 0x901, 0xa01, 0xa32, 0x1408,
   0x1409, 0x140c, 0x140f]

theorem State.ntcAgree_touch {W0 : List Nat} {s0 s : State} (h0 : Touch W0 s0 s) (hW : Sub State.ntcAgree_cells W0) :
    Touch W0 s0 (State.ntcAgree s) := by
  have c_State_ntcFaultOff : Sub State.ntcFaultOff_cells W0 := Sub.trans (Sub.of rfl) hW
  have c_State_chgUnfault : Sub State.chgUnfault_cells W0 := Sub.trans (Sub.of rfl) hW
  unfold State.ntcAgree
  repeat' first
    | with_reducible assumption
    | (extract_lets +onlyGivenNames xx; guard_hyp xx : State := _; refine Touch.cut (x := xx) ?_ ?_; (on_goal 2 => (intro hh; (try clear_value xx); revert xx; intro _ _)); any_goals (revert xx; intro _))
    | with_reducible refine State.ntcFaultOff_touch ?_ c_State_ntcFaultOff _
    | with_reducible refine State.chgUnfault_touch ?_ c_State_chgUnfault
    | with_reducible refine Touch.ite ?_ ?_

def State.ntcRead_cells : List Nat :=
  [0x2, 0x6, 0x100, 0x200, 0x300, 0x301, 0x31e, 0x31f, 0x400, 0x401, 0x40e, 0x40f, 0x900, 0x901, 0xa01, 0xa32, 0x1408,
   0x1409, 0x140c, 0x140f]

theorem State.ntcRead_touch {W0 : List Nat} {s0 s : State} (h0 : Touch W0 s0 s) (hW : Sub State.ntcRead_cells W0) (a : Option Int) (b : Option Int) :
    Touch W0 s0 (State.ntcRead s a b) := by
  have c_State_ntcSensors : Sub State.ntcSensors_cells W0 := Sub.trans (Sub.of rfl) hW
  have c_State_ntcTimes : Sub State.ntcTimes_cells W0 := Sub.trans (Sub.of rfl) hW
  have c_State_setZone : Sub State.setZone_cells W0 := Sub.trans (Sub.of rfl) hW
  have c_State_ntcAgree : Sub State.ntcAgree_cells W0 := Sub.trans (Sub.of rfl) hW
  have w31e : Writes W0 R.CHG_ZONE := Or.inl (hW.mem rfl)
  have w1409 : 0x1409 ∈ W0 := hW.mem rfl
  unfold State.ntcRead
  repeat' first
    | with_reducible assumption
    | (extract_lets +onlyGivenNames xx; guard_hyp xx : State := _; refine Touch.cut (x := xx) ?_ ?_; (on_goal 2 => (intro hh; (try clear_value xx); revert xx; intro _ _)); any_goals (revert xx; intro _))
    | (extract_lets +onlyGivenNames xx; (try clear_value xx); revert xx; intro _)
    | with_reducible refine State.ntcSensors_touch ?_ c_State_ntcSensors _ _ _
    | with_reducible refine State.ntcTimes_touch ?_ c_State_ntcTimes _
    | with_reducible refine State.setZone_touch ?_ c_State_setZone _
    | with_reducible refine State.ntcAgree_touch ?_ c_State_ntcAgree
    | with_reducible refine State.setField_touch ?_ _ _ ?_
    | with_reducible refine Touch.update ?_

def State.shownSoc_cells : List Nat :=
  [0x1402]

theorem State.shownSoc_touch {W0 : List Nat} {s0 s : State} (h0 : Touch W0 s0 s) (hW : Sub State.shownSoc_cells W0) (x : Option Nat) :
    Touch W0 s0 (State.shownSoc s x).2 := by
  have c_State_fresh : Sub State.fresh_cells W0 := Sub.trans (Sub.of rfl) hW
  unfold State.shownSoc
  repeat' first
    | with_reducible assumption
    | with_reducible refine State.fresh_touch ?_ c_State_fresh
    | split

theorem State.shownSoc_touch_eq {W0 : List Nat} {s0 s : State} {u0 : Nat} {sOut : State} (h0 : Touch W0 s0 s) (hW : Sub State.shownSoc_cells W0) (x : Option Nat)
    (e : (State.shownSoc s x) = (u0, sOut)) : Touch W0 s0 sOut := by
  have := State.shownSoc_touch h0 hW x
  rwa [e] at this

def State.worstTemp_cells : List Nat :=
  [0x1402]

theorem State.worstTemp_touch {W0 : List Nat} {s0 s : State} (h0 : Touch W0 s0 s) (hW : Sub State.worstTemp_cells W0) :
    Touch W0 s0 (State.worstTemp s).2 := by
  have c_State_fresh : Sub State.fresh_cells W0 := Sub.trans (Sub.of rfl) hW
  unfold State.worstTemp
  repeat' first
    | with_reducible assumption
    | with_reducible refine State.fresh_touch ?_ c_State_fresh
    | split

theorem State.worstTemp_touch_eq {W0 : List Nat} {s0 s : State} {u0 : Int} {sOut : State} (h0 : Touch W0 s0 s) (hW : Sub State.worstTemp_cells W0)
    (e : (State.worstTemp s) = (u0, sOut)) : Touch W0 s0 sOut := by
  have := State.worstTemp_touch h0 hW 
  rwa [e] at this

def State.recompute_cells : List Nat :=
  [0x2, 0x6, 0x100, 0x200, 0x300, 0x301, 0x318, 0x319, 0x31b, 0x31c, 0x31d, 0x31f, 0x400, 0x401, 0x405, 0x40e, 0x40f,
   0xa01, 0xa32, 0x1402, 0x1408, 0x1409, 0x140f]

theorem State.recompute_touch {W0 : List Nat} {s0 s : State} (h0 : Touch W0 s0 s) (hW : Sub State.recompute_cells W0) :
    Touch W0 s0 (State.recompute s) := by
  have c_State_worstTemp : Sub State.worstTemp_cells W0 := Sub.trans (Sub.of rfl) hW
  have c_State_shownSoc : Sub State.shownSoc_cells W0 := Sub.trans (Sub.of rfl) hW
  have c_State_setTarget : Sub State.setTarget_cells W0 := Sub.trans (Sub.of rfl) hW
  have c_State_refreshPartial : Sub State.refreshPartial_cells W0 := Sub.trans (Sub.of rfl) hW
  have c_State_tetMove : Sub State.tetMove_cells W0 := Sub.trans (Sub.of rfl) hW
  have w301 : Writes W0 R.CHG_EVENT := Or.inl (hW.mem rfl)
  have w319 : Writes W0 R.CHG_BALSOC := Or.inl (hW.mem rfl)
  have w31b : Writes W0 R.CHG_BALLAST_H := Or.inl (hW.mem rfl)
  have w31c : Writes W0 R.CHG_BALLAST_L := Or.inl (hW.mem rfl)
  have w31d : Writes W0 R.CHG_TWORST := Or.inl (hW.mem rfl)
  have w1409 : 0x1409 ∈ W0 := hW.mem rfl
  unfold State.recompute
  repeat' first
    | with_reducible assumption
    | (extract_lets +onlyGivenNames xx; guard_hyp xx : State := _; refine Touch.cut (x := xx) ?_ ?_; (on_goal 2 => (intro hh; (try clear_value xx); revert xx; intro _ _)); any_goals (revert xx; intro _))
    | (extract_lets +onlyGivenNames xx; (try clear_value xx); revert xx; intro _)
    | with_reducible refine State.setTarget_touch ?_ c_State_setTarget _ _
    | with_reducible refine State.refreshPartial_touch ?_ c_State_refreshPartial
    | with_reducible refine State.tetMove_touch ?_ c_State_tetMove
    | with_reducible refine State.event_touch ?_ _ ?_
    | with_reducible refine State.setReg_touch ?_ _ _ ?_
    | with_reducible refine Touch.ite ?_ ?_
    | (with_reducible intro k hk; (try simp only [List.length_cons, List.length_nil, List.length_map, List.length_range, List.length_replicate] at hk); interval_cases k)
    | split
    | refine State.worstTemp_touch_eq ?_ c_State_worstTemp (by assumption)
    | refine State.shownSoc_touch_eq ?_ c_State_shownSoc _ (by assumption)
    | with_reducible refine State.setGroup_touch _ _ _ _ ?_ ?_
    | with_reducible refine Touch.update ?_

end Sys2Proof.Machine
end

