-- ==== Sys2Proof/Laws/TouchRecordOps.lean ====
section
/-!
SUPPORT. What each operation of Machine/RecordOps.lean can do: the registers and parts of the state it may write, and nothing
else; the unit, its queue and the form of its stores are kept.
-/

-- proofs are elaborated one after another: many at once ask for more threads than a memory limit allows
set_option Elab.async false

set_option linter.unusedTactic false
set_option linter.unusedVariables false
set_option linter.unusedSimpArgs false
set_option linter.unreachableTactic false
set_option linter.tactic.unusedName false

namespace Sys2Proof.Machine

def State.wbUnhold_cells : List Nat :=
  [0x200, 0x300, 0x301, 0x31f, 0x400, 0x401, 0x40f, 0x801, 0xa01, 0xa32, 0x1402, 0x1408, 0x1409, 0x140f, 0x1411]

theorem State.wbUnhold_touch {W0 : List Nat} {s0 s : State} (h0 : Touch W0 s0 s) (hW : Sub State.wbUnhold_cells W0) :
    Touch W0 s0 (State.wbUnhold s) := by
  have c_State_wbLast : Sub State.wbLast_cells W0 := Sub.trans (Sub.of rfl) hW
  have c_State_wbEmit : Sub State.wbEmit_cells W0 := Sub.trans (Sub.of rfl) hW
  have c_State_startPending : Sub State.startPending_cells W0 := Sub.trans (Sub.of rfl) hW
  have w1411 : 0x1411 ∈ W0 := hW.mem rfl
  unfold State.wbUnhold
  repeat' first
    | with_reducible assumption
    | (extract_lets +onlyGivenNames xx; guard_hyp xx : State := _; refine Touch.cut (x := xx) ?_ ?_; (on_goal 2 => (intro hh; (try clear_value xx); revert xx; intro _ _)); any_goals (revert xx; intro _))
    | (extract_lets +onlyGivenNames xx; (try clear_value xx); revert xx; intro _)
    | with_reducible refine State.wbLast_touch ?_ c_State_wbLast
    | with_reducible refine State.wbEmit_touch ?_ c_State_wbEmit _ _ _
    | with_reducible refine State.startPending_touch ?_ c_State_startPending
    | with_reducible refine Touch.ite ?_ ?_
    | split
    | with_reducible refine Touch.update ?_

def State.showZ_cells : List Nat :=
  [0x911]

theorem State.showZ_touch {W0 : List Nat} {s0 s : State} (h0 : Touch W0 s0 s) (hW : Sub State.showZ_cells W0) (r : List Byte) :
    Touch W0 s0 (State.showZ s r) := by
  have w911 : Writes W0 R.VDT_ZNOW := Or.inl (hW.mem rfl)
  unfold State.showZ
  repeat' first
    | with_reducible assumption
    | with_reducible refine State.setReg_touch ?_ _ _ ?_
    | split

def State.keepZ01_cells : List Nat :=
  [0x140c]

theorem State.keepZ01_touch {W0 : List Nat} {s0 s : State} (h0 : Touch W0 s0 s) (hW : Sub State.keepZ01_cells W0) (r : List Byte) :
    Touch W0 s0 (State.keepZ01 s r) := by
  have w140c : 0x140c ∈ W0 := hW.mem rfl
  unfold State.keepZ01
  repeat' first
    | with_reducible assumption
    | (extract_lets +onlyGivenNames xx; (try clear_value xx); revert xx; intro _)
    | split
    | with_reducible refine Touch.update ?_

def State.noteSweep_cells : List Nat :=
  [0x910, 0x911, 0xa01, 0xa32, 0x140c, 0x140f]

theorem State.noteSweep_touch {W0 : List Nat} {s0 s : State} (h0 : Touch W0 s0 s) (hW : Sub State.noteSweep_cells W0) (r : List Byte) :
    Touch W0 s0 (State.noteSweep s r) := by
  have c_State_showZ : Sub State.showZ_cells W0 := Sub.trans (Sub.of rfl) hW
  have c_State_keepZ01 : Sub State.keepZ01_cells W0 := Sub.trans (Sub.of rfl) hW
  have c_State_post : Sub State.post_cells W0 := Sub.trans (Sub.of rfl) hW
  have w910 : Writes W0 R.VDT_ZBASE := Or.inl (hW.mem rfl)
  have w140c : 0x140c ∈ W0 := hW.mem rfl
  unfold State.noteSweep
  repeat' first
    | with_reducible assumption
    | (extract_lets +onlyGivenNames xx; guard_hyp xx : State := _; refine Touch.cut (x := xx) ?_ ?_; (on_goal 2 => (intro hh; (try clear_value xx); revert xx; intro _ _)); any_goals (revert xx; intro _))
    | (extract_lets +onlyGivenNames xx; (try clear_value xx); revert xx; intro _)
    | with_reducible refine State.showZ_touch ?_ c_State_showZ _
    | with_reducible refine State.keepZ01_touch ?_ c_State_keepZ01 _
    | with_reducible refine State.post_touch ?_ c_State_post _ _
    | with_reducible refine State.setReg_touch ?_ _ _ ?_
    | with_reducible refine Touch.ite ?_ ?_
    | split
    | with_reducible refine Touch.update ?_

def State.wbAccepted_cells : List Nat :=
  [0x200, 0x300, 0x301, 0x31f, 0x400, 0x401, 0x40f, 0x801, 0x900, 0x901, 0x910, 0x911, 0xa01, 0xa32, 0x1402, 0x1408,
   0x1409, 0x140c, 0x140f, 0x1411]

theorem State.wbAccepted_touch {W0 : List Nat} {s0 s : State} (h0 : Touch W0 s0 s) (hW : Sub State.wbAccepted_cells W0) (r : Rec) :
    Touch W0 s0 (State.wbAccepted s r) := by
  have c_State_wbUnhold : Sub State.wbUnhold_cells W0 := Sub.trans (Sub.of rfl) hW
  have c_State_noteSweep : Sub State.noteSweep_cells W0 := Sub.trans (Sub.of rfl) hW
  have c_State_refreshCell : Sub State.refreshCell_cells W0 := Sub.trans (Sub.of rfl) hW
  unfold State.wbAccepted
  repeat' first
    | with_reducible assumption
    | (extract_lets +onlyGivenNames xx; guard_hyp xx : State := _; refine Touch.cut (x := xx) ?_ ?_; (on_goal 2 => (intro hh; (try clear_value xx); revert xx; intro _ _)); any_goals (revert xx; intro _))
    | with_reducible refine State.wbUnhold_touch ?_ c_State_wbUnhold
    | with_reducible refine State.noteSweep_touch ?_ c_State_noteSweep _
    | with_reducible refine State.refreshCell_touch ?_ c_State_refreshCell _
    | with_reducible refine Touch.ite ?_ ?_

def State.intakeTurn_cells : List Nat :=
  [0x200, 0x300, 0x301, 0x31f, 0x400, 0x401, 0x40f, 0x801, 0x900, 0x901, 0x910, 0x911, 0xa00, 0xa01, 0xa05, 0xa28,
   0xa29, 0xa2a, 0xa2b, 0xa31, 0xa32, 0xa33, 0xa34, 0x1402, 0x1408, 0x1409, 0x140c, 0x140f, 0x1411, 0x1417]

theorem State.intakeTurn_touch {W0 : List Nat} {s0 s : State} (h0 : Touch W0 s0 s) (hW : Sub State.intakeTurn_cells W0) (v : Verify) :
    Touch W0 s0 (State.intakeTurn s v) := by
  have c_State_intake : Sub State.intake_cells W0 := Sub.trans (Sub.of rfl) hW
  have c_State_wbAccepted : Sub State.wbAccepted_cells W0 := Sub.trans (Sub.of rfl) hW
  unfold State.intakeTurn
  repeat' first
    | with_reducible assumption
    | with_reducible refine State.intake_touch ?_ c_State_intake _
    | with_reducible refine State.wbAccepted_touch ?_ c_State_wbAccepted _
    | with_reducible refine Touch.ite ?_ ?_
    | split

def State.intakeAll_cells : List Nat :=
  [0x200, 0x300, 0x301, 0x31f, 0x400, 0x401, 0x40f, 0x801, 0x900, 0x901, 0x910, 0x911, 0xa00, 0xa01, 0xa05, 0xa28,
   0xa29, 0xa2a, 0xa2b, 0xa31, 0xa32, 0xa33, 0xa34, 0x1402, 0x1408, 0x1409, 0x140c, 0x140f, 0x1411, 0x1417]

theorem State.intakeAll_touch {W0 : List Nat} {s0 s : State} (h0 : Touch W0 s0 s) (hW : Sub State.intakeAll_cells W0) :
    Touch W0 s0 (State.intakeAll s) := by
  have c_State_intakeTurn : Sub State.intakeTurn_cells W0 := Sub.trans (Sub.of rfl) hW
  unfold State.intakeAll
  repeat' first
    | with_reducible assumption
    | with_reducible refine State.intakeTurn_touch ?_ c_State_intakeTurn _
    | with_reducible refine Touch.foldl ?_ ?_
    | with_reducible intro _ _
    | with_reducible intro _

end Sys2Proof.Machine
end

