-- ==== Sys2Proof/Laws/TouchMailOps.lean ====
section
/-!
SUPPORT. What each operation of Machine/MailOps.lean can do: the registers and parts of the state it may write, and nothing
else; the unit, its queue and the form of its stores are kept.
-/

-- proofs are elaborated one after another: many at once ask for more threads than a memory limit allows
set_option Elab.async false

set_option linter.unusedTactic false
set_option linter.unusedVariables false
set_option linter.unusedSimpArgs false
set_option linter.unreachableTactic false
set_option linter.tactic.unusedName false

namespace Sys2Proof.Machine

def State.coreCommand_cells : List Nat :=
  [0x801, 0x806]

theorem State.coreCommand_touch {W0 : List Nat} {s0 s : State} (h0 : Touch W0 s0 s) (hW : Sub State.coreCommand_cells W0) (req : Requester) (code : Nat) (inRange : Bool) (act : State → State) (hf : ∀ t, Touch W0 s0 t → Touch W0 s0 (act t)) :
    Touch W0 s0 (State.coreCommand s req code inRange act) := by
  have c_State_mailbox : Sub State.mailbox_cells W0 := fun _ h => nomatch h
  have c_State_cmdResult : Sub State.cmdResult_cells W0 := Sub.trans (Sub.of rfl) hW
  unfold State.coreCommand
  repeat' first
    | with_reducible assumption
    | with_reducible refine State.mailbox_touch ?_ c_State_mailbox _ ?_
    | with_reducible refine State.cmdResult_touch ?_ c_State_cmdResult _ _
    | with_reducible refine Touch.ite ?_ ?_
    | with_reducible intro _ _
    | refine hf _ ?_

def State.mbSnapshot_cells : List Nat :=
  [0x200, 0x300, 0x301, 0x31f, 0x400, 0x401, 0x40f, 0x801, 0x806, 0x807, 0xa01, 0xa32, 0x1402, 0x1408, 0x1409, 0x140f,
   0x1411]

theorem State.mbSnapshot_touch {W0 : List Nat} {s0 s : State} (h0 : Touch W0 s0 s) (hW : Sub State.mbSnapshot_cells W0) (req : Requester) :
    Touch W0 s0 (State.mbSnapshot s req) := by
  have c_State_mailbox : Sub State.mailbox_cells W0 := fun _ h => nomatch h
  have c_State_cmdTrigger : Sub State.cmdTrigger_cells W0 := Sub.trans (Sub.of rfl) hW
  have c_State_cmdResult : Sub State.cmdResult_cells W0 := Sub.trans (Sub.of rfl) hW
  unfold State.mbSnapshot
  repeat' first
    | with_reducible assumption
    | with_reducible refine State.mailbox_touch ?_ c_State_mailbox _ ?_
    | with_reducible refine State.cmdTrigger_touch ?_ c_State_cmdTrigger _ _ _
    | with_reducible refine State.cmdResult_touch ?_ c_State_cmdResult _ _
    | with_reducible refine Touch.ite ?_ ?_
    | with_reducible intro _ _

def State.mbSweep_cells : List Nat :=
  [0x200, 0x300, 0x301, 0x31f, 0x400, 0x401, 0x40f, 0x801, 0x806, 0x807, 0xa01, 0xa32, 0x1402, 0x1408, 0x1409, 0x140f,
   0x1411]

theorem State.mbSweep_touch {W0 : List Nat} {s0 s : State} (h0 : Touch W0 s0 s) (hW : Sub State.mbSweep_cells W0) (req : Requester) :
    Touch W0 s0 (State.mbSweep s req) := by
  have c_State_coreCommand : Sub State.coreCommand_cells W0 := Sub.trans (Sub.of rfl) hW
  have c_State_cmdResult : Sub State.cmdResult_cells W0 := Sub.trans (Sub.of rfl) hW
  have c_State_cmdTrigger : Sub State.cmdTrigger_cells W0 := Sub.trans (Sub.of rfl) hW
  unfold State.mbSweep
  repeat' first
    | with_reducible assumption
    | with_reducible refine State.coreCommand_touch ?_ c_State_coreCommand _ _ _ _ ?_
    | with_reducible refine State.cmdResult_touch ?_ c_State_cmdResult _ _
    | with_reducible refine State.cmdTrigger_touch ?_ c_State_cmdTrigger _ _ _
    | with_reducible refine Touch.ite ?_ ?_
    | with_reducible intro _ _

def State.mbCapBegin_cells : List Nat :=
  [0x200, 0x300, 0x301, 0x31f, 0x400, 0x401, 0x40f, 0x801, 0x806, 0x807, 0xa01, 0xa32, 0x1402, 0x1408, 0x1409, 0x140f,
   0x1411]

theorem State.mbCapBegin_touch {W0 : List Nat} {s0 s : State} (h0 : Touch W0 s0 s) (hW : Sub State.mbCapBegin_cells W0) (req : Requester) :
    Touch W0 s0 (State.mbCapBegin s req) := by
  have c_State_coreCommand : Sub State.coreCommand_cells W0 := Sub.trans (Sub.of rfl) hW
  have c_State_cmdResult : Sub State.cmdResult_cells W0 := Sub.trans (Sub.of rfl) hW
  have c_State_cmdTrigger : Sub State.cmdTrigger_cells W0 := Sub.trans (Sub.of rfl) hW
  unfold State.mbCapBegin
  repeat' first
    | with_reducible assumption
    | with_reducible refine State.coreCommand_touch ?_ c_State_coreCommand _ _ _ _ ?_
    | with_reducible refine State.cmdResult_touch ?_ c_State_cmdResult _ _
    | with_reducible refine State.cmdTrigger_touch ?_ c_State_cmdTrigger _ _ _
    | with_reducible refine Touch.ite ?_ ?_
    | with_reducible intro _ _

def State.capEnd_cells : List Nat :=
  [0x1411]

theorem State.capEnd_touch {W0 : List Nat} {s0 s : State} (h0 : Touch W0 s0 s) (hW : Sub State.capEnd_cells W0) :
    Touch W0 s0 (State.capEnd s).1 := by
  have w1411 : 0x1411 ∈ W0 := hW.mem rfl
  unfold State.capEnd
  repeat' first
    | with_reducible assumption
    | (extract_lets +onlyGivenNames xx; (try clear_value xx); revert xx; intro _)
    | split
    | dsimp only
    | with_reducible refine Touch.update ?_

theorem State.capEnd_touch_eq {W0 : List Nat} {s0 s : State} {sOut : State} {u1 : Bool} (h0 : Touch W0 s0 s) (hW : Sub State.capEnd_cells W0)
    (e : (State.capEnd s) = (sOut, u1)) : Touch W0 s0 sOut := by
  have := State.capEnd_touch h0 hW 
  rwa [e] at this

def State.mbCapEnd_cells : List Nat :=
  [0x801, 0x806, 0x1411]

theorem State.mbCapEnd_touch {W0 : List Nat} {s0 s : State} (h0 : Touch W0 s0 s) (hW : Sub State.mbCapEnd_cells W0) (req : Requester) :
    Touch W0 s0 (State.mbCapEnd s req) := by
  have c_State_coreCommand : Sub State.coreCommand_cells W0 := Sub.trans (Sub.of rfl) hW
  have c_State_capEnd : Sub State.capEnd_cells W0 := Sub.trans (Sub.of rfl) hW
  have c_State_cmdResult : Sub State.cmdResult_cells W0 := Sub.trans (Sub.of rfl) hW
  unfold State.mbCapEnd
  repeat' first
    | with_reducible assumption
    | with_reducible refine State.coreCommand_touch ?_ c_State_coreCommand _ _ _ _ ?_
    | with_reducible refine State.capEnd_touch ?_ c_State_capEnd
    | with_reducible refine State.cmdResult_touch ?_ c_State_cmdResult _ _
    | with_reducible intro _ _

def State.mbSetPeriod_cells : List Nat :=
  [0x801, 0x806, 0x1411]

theorem State.mbSetPeriod_touch {W0 : List Nat} {s0 s : State} (h0 : Touch W0 s0 s) (hW : Sub State.mbSetPeriod_cells W0) (req : Requester) :
    Touch W0 s0 (State.mbSetPeriod s req) := by
  have c_State_coreCommand : Sub State.coreCommand_cells W0 := Sub.trans (Sub.of rfl) hW
  have c_State_cmdResult : Sub State.cmdResult_cells W0 := Sub.trans (Sub.of rfl) hW
  have w1411 : 0x1411 ∈ W0 := hW.mem rfl
  unfold State.mbSetPeriod
  repeat' first
    | with_reducible assumption
    | (extract_lets +onlyGivenNames xx; (try clear_value xx); revert xx; intro _)
    | with_reducible refine State.coreCommand_touch ?_ c_State_coreCommand _ _ _ _ ?_
    | with_reducible refine State.cmdResult_touch ?_ c_State_cmdResult _ _
    | with_reducible intro _ _
    | with_reducible refine Touch.update ?_

def State.mbSetCell_cells : List Nat :=
  [0x801, 0x806, 0x1411]

theorem State.mbSetCell_touch {W0 : List Nat} {s0 s : State} (h0 : Touch W0 s0 s) (hW : Sub State.mbSetCell_cells W0) (req : Requester) :
    Touch W0 s0 (State.mbSetCell s req) := by
  have c_State_coreCommand : Sub State.coreCommand_cells W0 := Sub.trans (Sub.of rfl) hW
  have c_State_cmdResult : Sub State.cmdResult_cells W0 := Sub.trans (Sub.of rfl) hW
  have w1411 : 0x1411 ∈ W0 := hW.mem rfl
  unfold State.mbSetCell
  repeat' first
    | with_reducible assumption
    | (extract_lets +onlyGivenNames xx; (try clear_value xx); revert xx; intro _)
    | with_reducible refine State.coreCommand_touch ?_ c_State_coreCommand _ _ _ _ ?_
    | with_reducible refine State.cmdResult_touch ?_ c_State_cmdResult _ _
    | with_reducible intro _ _
    | with_reducible refine Touch.update ?_

def State.mbWbMailboxIdent_cells : List Nat :=
  [0x801, 0x806, 0x1402, 0x1411]

theorem State.mbWbMailboxIdent_touch {W0 : List Nat} {s0 s : State} (h0 : Touch W0 s0 s) (hW : Sub State.mbWbMailboxIdent_cells W0) (req : Requester) :
    Touch W0 s0 (State.mbWbMailboxIdent s req) := by
  have c_State_mailbox : Sub State.mailbox_cells W0 := fun _ h => nomatch h
  have c_State_wbRelease : Sub State.wbRelease_cells W0 := Sub.trans (Sub.of rfl) hW
  have c_State_cmdResult : Sub State.cmdResult_cells W0 := Sub.trans (Sub.of rfl) hW
  unfold State.mbWbMailboxIdent
  repeat' first
    | with_reducible assumption
    | with_reducible refine State.mailbox_touch ?_ c_State_mailbox _ ?_
    | with_reducible refine State.wbRelease_touch ?_ c_State_wbRelease _ _ _
    | with_reducible refine State.cmdResult_touch ?_ c_State_cmdResult _ _
    | with_reducible refine Touch.ite ?_ ?_
    | with_reducible intro _ _

def State.mbCalibrate_cells : List Nat :=
  [0x200, 0x300, 0x301, 0x31f, 0x400, 0x401, 0x40f, 0x801, 0x806, 0x807, 0xa01, 0xa32, 0x1402, 0x1408, 0x1409, 0x140f,
   0x1411]

theorem State.mbCalibrate_touch {W0 : List Nat} {s0 s : State} (h0 : Touch W0 s0 s) (hW : Sub State.mbCalibrate_cells W0) (req : Requester) :
    Touch W0 s0 (State.mbCalibrate s req) := by
  have c_State_coreCommand : Sub State.coreCommand_cells W0 := Sub.trans (Sub.of rfl) hW
  have c_State_cmdResult : Sub State.cmdResult_cells W0 := Sub.trans (Sub.of rfl) hW
  have c_State_cmdTrigger : Sub State.cmdTrigger_cells W0 := Sub.trans (Sub.of rfl) hW
  unfold State.mbCalibrate
  repeat' first
    | with_reducible assumption
    | with_reducible refine State.coreCommand_touch ?_ c_State_coreCommand _ _ _ _ ?_
    | with_reducible refine State.cmdResult_touch ?_ c_State_cmdResult _ _
    | with_reducible refine State.cmdTrigger_touch ?_ c_State_cmdTrigger _ _ _
    | with_reducible refine Touch.ite ?_ ?_
    | with_reducible intro _ _

def State.mbWbMailboxReset_cells : List Nat :=
  [0x300, 0x400, 0x401, 0x40f, 0x801, 0x806, 0xa01, 0xa32, 0x1408, 0x140f, 0x1411, 0x1430]

theorem State.mbWbMailboxReset_touch {W0 : List Nat} {s0 s : State} (h0 : Touch W0 s0 s) (hW : Sub State.mbWbMailboxReset_cells W0) (req : Requester) :
    Touch W0 s0 (State.mbWbMailboxReset s req) := by
  have c_State_coreCommand : Sub State.coreCommand_cells W0 := Sub.trans (Sub.of rfl) hW
  have c_State_wbStop : Sub State.wbStop_cells W0 := Sub.trans (Sub.of rfl) hW
  unfold State.mbWbMailboxReset
  repeat' first
    | with_reducible assumption
    | with_reducible refine State.coreCommand_touch ?_ c_State_coreCommand _ _ _ _ ?_
    | with_reducible refine State.wbStop_touch ?_ c_State_wbStop _
    | with_reducible intro _ _

def State.mbUnknown_cells : List Nat :=
  [0x801, 0x806]

theorem State.mbUnknown_touch {W0 : List Nat} {s0 s : State} (h0 : Touch W0 s0 s) (hW : Sub State.mbUnknown_cells W0) (code : Nat) :
    Touch W0 s0 (State.mbUnknown s code) := by
  have c_State_mailbox : Sub State.mailbox_cells W0 := fun _ h => nomatch h
  have c_State_cmdResult : Sub State.cmdResult_cells W0 := Sub.trans (Sub.of rfl) hW
  unfold State.mbUnknown
  repeat' first
    | with_reducible assumption
    | with_reducible refine State.mailbox_touch ?_ c_State_mailbox _ ?_
    | with_reducible refine State.cmdResult_touch ?_ c_State_cmdResult _ _
    | with_reducible refine Touch.ite ?_ ?_
    | with_reducible intro _ _

def State.mbCommand_cells : List Nat :=
  [0x200, 0x300, 0x301, 0x31f, 0x400, 0x401, 0x40f, 0x801, 0x806, 0x807, 0xa01, 0xa32, 0x1402, 0x1408, 0x1409, 0x140f,
   0x1411, 0x1430]

theorem State.mbCommand_touch {W0 : List Nat} {s0 s : State} (h0 : Touch W0 s0 s) (hW : Sub State.mbCommand_cells W0) (req : Requester) (code : Nat) :
    Touch W0 s0 (State.mbCommand s req code) := by
  have c_State_mbSnapshot : Sub State.mbSnapshot_cells W0 := Sub.trans (Sub.of rfl) hW
  have c_State_mbSweep : Sub State.mbSweep_cells W0 := Sub.trans (Sub.of rfl) hW
  have c_State_mbCapBegin : Sub State.mbCapBegin_cells W0 := Sub.trans (Sub.of rfl) hW
  have c_State_mbCapEnd : Sub State.mbCapEnd_cells W0 := Sub.trans (Sub.of rfl) hW
  have c_State_mbSetPeriod : Sub State.mbSetPeriod_cells W0 := Sub.trans (Sub.of rfl) hW
  have c_State_mbSetCell : Sub State.mbSetCell_cells W0 := Sub.trans (Sub.of rfl) hW
  have c_State_mbWbMailboxIdent : Sub State.mbWbMailboxIdent_cells W0 := Sub.trans (Sub.of rfl) hW
  have c_State_mbCalibrate : Sub State.mbCalibrate_cells W0 := Sub.trans (Sub.of rfl) hW
  have c_State_mbWbMailboxReset : Sub State.mbWbMailboxReset_cells W0 := Sub.trans (Sub.of rfl) hW
  have c_State_mbUnknown : Sub State.mbUnknown_cells W0 := Sub.trans (Sub.of rfl) hW
  unfold State.mbCommand
  repeat' first
    | with_reducible assumption
    | with_reducible refine State.mbSnapshot_touch ?_ c_State_mbSnapshot _
    | with_reducible refine State.mbSweep_touch ?_ c_State_mbSweep _
    | with_reducible refine State.mbCapBegin_touch ?_ c_State_mbCapBegin _
    | with_reducible refine State.mbCapEnd_touch ?_ c_State_mbCapEnd _
    | with_reducible refine State.mbSetPeriod_touch ?_ c_State_mbSetPeriod _
    | with_reducible refine State.mbSetCell_touch ?_ c_State_mbSetCell _
    | with_reducible refine State.mbWbMailboxIdent_touch ?_ c_State_mbWbMailboxIdent _
    | with_reducible refine State.mbCalibrate_touch ?_ c_State_mbCalibrate _
    | with_reducible refine State.mbWbMailboxReset_touch ?_ c_State_mbWbMailboxReset _
    | with_reducible refine State.mbUnknown_touch ?_ c_State_mbUnknown _
    | split

def State.wbCommand_cells : List Nat :=
  [0x200, 0x300, 0x301, 0x31f, 0x400, 0x401, 0x40f, 0x801, 0x806, 0x807, 0xa01, 0xa32, 0x1402, 0x1408, 0x1409, 0x140f,
   0x1411, 0x1430]

theorem State.wbCommand_touch {W0 : List Nat} {s0 s : State} (h0 : Touch W0 s0 s) (hW : Sub State.wbCommand_cells W0) (req : Requester) (code : Nat) :
    Touch W0 s0 (State.wbCommand s req code) := by
  have c_State_mailWrite : Sub State.mailWrite_cells W0 := Sub.trans (Sub.of rfl) hW
  have c_State_mbCommand : Sub State.mbCommand_cells W0 := Sub.trans (Sub.of rfl) hW
  unfold State.wbCommand
  repeat' first
    | with_reducible assumption
    | with_reducible refine State.mailWrite_touch ?_ c_State_mailWrite _ ?_
    | with_reducible refine State.mbCommand_touch ?_ c_State_mbCommand _ _
    | with_reducible intro _ _

end Sys2Proof.Machine
end

