-- ==== Sys2Proof/Laws/TouchWeigh.lean ====
section
/-!
SUPPORT. What each operation of Machine/Weigh.lean can do: the registers and parts of the state it may write, and nothing
else; the unit, its queue and the form of its stores are kept.
-/

-- proofs are elaborated one after another: many at once ask for more threads than a memory limit allows
set_option Elab.async false

set_option linter.unusedTactic false
set_option linter.unusedVariables false
set_option linter.unusedSimpArgs false
set_option linter.unreachableTactic false
set_option linter.tactic.unusedName false

namespace Sys2Proof.Machine

def State.wbLoad_cells : List Nat :=
  [0x1411]

theorem State.wbLoad_touch {W0 : List Nat} {s0 s : State} (h0 : Touch W0 s0 s) (hW : Sub State.wbLoad_cells W0) :
    Touch W0 s0 (State.wbLoad s) := by
  have w1411 : 0x1411 ∈ W0 := hW.mem rfl
  unfold State.wbLoad
  repeat' first
    | with_reducible assumption
    | (extract_lets +onlyGivenNames xx; (try clear_value xx); revert xx; intro _)
    | split
    | with_reducible refine Touch.update ?_

def State.wbMark_cells : List Nat :=
  [0x1411]

theorem State.wbMark_touch {W0 : List Nat} {s0 s : State} (h0 : Touch W0 s0 s) (hW : Sub State.wbMark_cells W0) (bad : Bool) (code : Nat) :
    Touch W0 s0 (State.wbMark s bad code) := by
  have w1411 : 0x1411 ∈ W0 := hW.mem rfl
  unfold State.wbMark
  repeat' first
    | with_reducible assumption
    | (extract_lets +onlyGivenNames xx; (try clear_value xx); revert xx; intro _)
    | with_reducible refine Touch.ite ?_ ?_
    | with_reducible refine Touch.update ?_

def State.wbMarkRecord_cells : List Nat :=
  [0x801, 0x1402, 0x1411]

theorem State.wbMarkRecord_touch {W0 : List Nat} {s0 s : State} (h0 : Touch W0 s0 s) (hW : Sub State.wbMarkRecord_cells W0) (bad : Bool) (code : Nat) :
    Touch W0 s0 (State.wbMarkRecord s bad code) := by
  have c_State_fresh : Sub State.fresh_cells W0 := Sub.trans (Sub.of rfl) hW
  have c_State_wbRelease : Sub State.wbRelease_cells W0 := Sub.trans (Sub.of rfl) hW
  have w801 : Writes W0 R.WB_EVENT := Or.inl (hW.mem rfl)
  unfold State.wbMarkRecord
  repeat' first
    | with_reducible assumption
    | with_reducible refine State.fresh_touch ?_ c_State_fresh
    | with_reducible refine State.wbRelease_touch ?_ c_State_wbRelease _ _ _
    | with_reducible refine State.event_touch ?_ _ ?_
    | with_reducible refine Touch.ite ?_ ?_

def execWbStart_cells : List Nat :=
  [0x801, 0x1402, 0x1411]

theorem execWbStart_touch {W0 : List Nat} {s0 s : State} (h0 : Touch W0 s0 s) (hW : Sub execWbStart_cells W0) (romOk : Bool) (calOk : Bool) (refOk : Bool) :
    TouchOut W0 s0 (execWbStart romOk calOk refOk s) := by
  have c_State_wbLoad : Sub State.wbLoad_cells W0 := Sub.trans (Sub.of rfl) hW
  have c_State_wbMark : Sub State.wbMark_cells W0 := Sub.trans (Sub.of rfl) hW
  have c_State_wbRelease : Sub State.wbRelease_cells W0 := Sub.trans (Sub.of rfl) hW
  have c_State_wbMarkRecord : Sub State.wbMarkRecord_cells W0 := Sub.trans (Sub.of rfl) hW
  have w801 : Writes W0 R.WB_EVENT := Or.inl (hW.mem rfl)
  have w1411 : 0x1411 ∈ W0 := hW.mem rfl
  unfold execWbStart
  repeat' first
    | with_reducible assumption
    | with_reducible refine TouchOut.next ?_
    | (extract_lets +onlyGivenNames xx; guard_hyp xx : State := _; refine Touch.cut (x := xx) ?_ ?_; (on_goal 2 => (intro hh; (try clear_value xx); revert xx; intro _ _)); any_goals (revert xx; intro _))
    | (extract_lets +onlyGivenNames xx; (try clear_value xx); revert xx; intro _)
    | with_reducible refine State.wbLoad_touch ?_ c_State_wbLoad
    | with_reducible refine State.wbMark_touch ?_ c_State_wbMark _ _
    | with_reducible refine State.wbRelease_touch ?_ c_State_wbRelease _ _ _
    | with_reducible refine State.wbMarkRecord_touch ?_ c_State_wbMarkRecord _ _
    | with_reducible refine State.event_touch ?_ _ ?_
    | with_reducible refine State.when_touch ?_ _ _ ?_
    | with_reducible intro _ _

def execWbWatchdogExpiry_cells : List Nat :=
  [0x300, 0x400, 0x401, 0x40f, 0xa01, 0xa32, 0x1408, 0x140f, 0x1411, 0x1430]

theorem execWbWatchdogExpiry_touch {W0 : List Nat} {s0 s : State} (h0 : Touch W0 s0 s) (hW : Sub execWbWatchdogExpiry_cells W0) :
    TouchOut W0 s0 (execWbWatchdogExpiry s) := by
  have c_State_wbStop : Sub State.wbStop_cells W0 := Sub.trans (Sub.of rfl) hW
  unfold execWbWatchdogExpiry
  repeat' first
    | with_reducible assumption
    | with_reducible refine TouchOut.next ?_
    | with_reducible refine State.wbStop_touch ?_ c_State_wbStop _
    | with_reducible refine State.when_touch ?_ _ _ ?_
    | with_reducible intro _ _

def execVwbBrownout_cells : List Nat :=
  [0x300, 0x400, 0x401, 0x40f, 0xa01, 0xa32, 0x1408, 0x140f, 0x1411, 0x1430]

theorem execVwbBrownout_touch {W0 : List Nat} {s0 s : State} (h0 : Touch W0 s0 s) (hW : Sub execVwbBrownout_cells W0) (duringRelease : Bool) :
    TouchOut W0 s0 (execVwbBrownout duringRelease s) := by
  have c_State_wbCheckpoint : Sub State.wbCheckpoint_cells W0 := Sub.trans (Sub.of rfl) hW
  have c_State_wbStop : Sub State.wbStop_cells W0 := Sub.trans (Sub.of rfl) hW
  unfold execVwbBrownout
  repeat' first
    | with_reducible assumption
    | with_reducible refine TouchOut.next ?_
    | with_reducible refine State.wbCheckpoint_touch ?_ c_State_wbCheckpoint _ _
    | with_reducible refine State.wbStop_touch ?_ c_State_wbStop _
    | with_reducible refine State.when_touch ?_ _ _ ?_
    | with_reducible refine Touch.ite ?_ ?_
    | with_reducible intro _ _

def execVwbEarlyWarning_cells : List Nat :=
  [0x1411]

theorem execVwbEarlyWarning_touch {W0 : List Nat} {s0 s : State} (h0 : Touch W0 s0 s) (hW : Sub execVwbEarlyWarning_cells W0) (m : WbMeter) :
    TouchOut W0 s0 (execVwbEarlyWarning m s) := by
  have c_State_wbMeter : Sub State.wbMeter_cells W0 := Sub.trans (Sub.of rfl) hW
  have c_State_wbCheckpoint : Sub State.wbCheckpoint_cells W0 := Sub.trans (Sub.of rfl) hW
  unfold execVwbEarlyWarning
  repeat' first
    | with_reducible assumption
    | with_reducible refine TouchOut.next ?_
    | with_reducible refine State.wbMeter_touch ?_ c_State_wbMeter _
    | with_reducible refine State.wbCheckpoint_touch ?_ c_State_wbCheckpoint _ _
    | with_reducible refine State.when_touch ?_ _ _ ?_
    | with_reducible intro _ _

def execWbCheckpoint_cells : List Nat :=
  [0x1411]

theorem execWbCheckpoint_touch {W0 : List Nat} {s0 s : State} (h0 : Touch W0 s0 s) (hW : Sub execWbCheckpoint_cells W0) (m : WbMeter) :
    TouchOut W0 s0 (execWbCheckpoint m s) := by
  have c_State_wbMeter : Sub State.wbMeter_cells W0 := Sub.trans (Sub.of rfl) hW
  have c_State_wbCheckpoint : Sub State.wbCheckpoint_cells W0 := Sub.trans (Sub.of rfl) hW
  unfold execWbCheckpoint
  repeat' first
    | with_reducible assumption
    | with_reducible refine TouchOut.next ?_
    | with_reducible refine State.wbMeter_touch ?_ c_State_wbMeter _
    | with_reducible refine State.wbCheckpoint_touch ?_ c_State_wbCheckpoint _ _
    | with_reducible refine State.when_touch ?_ _ _ ?_
    | with_reducible intro _ _

def execWbPeriodicDue_cells : List Nat :=
  [0x801, 0x1402, 0x1411]

theorem execWbPeriodicDue_touch {W0 : List Nat} {s0 s : State} (h0 : Touch W0 s0 s) (hW : Sub execWbPeriodicDue_cells W0) (m : WbMeter) (bat : Nat) (v : Int) (t : WbTemps) :
    TouchOut W0 s0 (execWbPeriodicDue m bat v t s) := by
  have c_State_wbMeter : Sub State.wbMeter_cells W0 := Sub.trans (Sub.of rfl) hW
  have c_State_capTemp : Sub State.capTemp_cells W0 := Sub.trans (Sub.of rfl) hW
  have c_State_wbRelease : Sub State.wbRelease_cells W0 := Sub.trans (Sub.of rfl) hW
  have w1411 : 0x1411 ∈ W0 := hW.mem rfl
  unfold execWbPeriodicDue
  repeat' first
    | with_reducible assumption
    | with_reducible refine TouchOut.next ?_
    | (extract_lets +onlyGivenNames xx; guard_hyp xx : State := _; refine Touch.cut (x := xx) ?_ ?_; (on_goal 2 => (intro hh; (try clear_value xx); revert xx; intro _ _)); any_goals (revert xx; intro _))
    | (extract_lets +onlyGivenNames xx; (try clear_value xx); revert xx; intro _)
    | with_reducible refine State.wbMeter_touch ?_ c_State_wbMeter _
    | with_reducible refine State.capTemp_touch ?_ c_State_capTemp _
    | with_reducible refine State.wbRelease_touch ?_ c_State_wbRelease _ _ _
    | with_reducible refine State.when_touch ?_ _ _ ?_
    | with_reducible refine Touch.ite ?_ ?_
    | with_reducible intro _ _
    | with_reducible refine Touch.update ?_

def execWbWboCheck_cells : List Nat :=
  [0x801, 0x1402, 0x1411]

theorem execWbWboCheck_touch {W0 : List Nat} {s0 s : State} (h0 : Touch W0 s0 s) (hW : Sub execWbWboCheck_cells W0) (bad : Bool) :
    TouchOut W0 s0 (execWbWboCheck bad s) := by
  have c_State_wbFault : Sub State.wbFault_cells W0 := Sub.trans (Sub.of rfl) hW
  have w1411 : 0x1411 ∈ W0 := hW.mem rfl
  unfold execWbWboCheck
  repeat' first
    | with_reducible assumption
    | with_reducible refine TouchOut.next ?_
    | (extract_lets +onlyGivenNames xx; guard_hyp xx : State := _; refine Touch.cut (x := xx) ?_ ?_; (on_goal 2 => (intro hh; (try clear_value xx); revert xx; intro _ _)); any_goals (revert xx; intro _))
    | (extract_lets +onlyGivenNames xx; (try clear_value xx); revert xx; intro _)
    | with_reducible refine State.wbFault_touch ?_ c_State_wbFault _
    | with_reducible refine State.when_touch ?_ _ _ ?_
    | with_reducible refine Touch.ite ?_ ?_
    | with_reducible intro _ _
    | with_reducible refine Touch.update ?_

def execWbReferenceCheck_cells : List Nat :=
  [0x801, 0x1402, 0x1411]

theorem execWbReferenceCheck_touch {W0 : List Nat} {s0 s : State} (h0 : Touch W0 s0 s) (hW : Sub execWbReferenceCheck_cells W0) (bad : Bool) :
    TouchOut W0 s0 (execWbReferenceCheck bad s) := by
  have c_State_wbFault : Sub State.wbFault_cells W0 := Sub.trans (Sub.of rfl) hW
  unfold execWbReferenceCheck
  repeat' first
    | with_reducible assumption
    | with_reducible refine TouchOut.next ?_
    | with_reducible refine State.wbFault_touch ?_ c_State_wbFault _
    | with_reducible refine State.when_touch ?_ _ _ ?_
    | with_reducible intro _ _

def execWbCurrentOverrange_cells : List Nat :=
  [0x801, 0x1402, 0x1411]

theorem execWbCurrentOverrange_touch {W0 : List Nat} {s0 s : State} (h0 : Touch W0 s0 s) (hW : Sub execWbCurrentOverrange_cells W0) :
    TouchOut W0 s0 (execWbCurrentOverrange s) := by
  have c_State_wbFault : Sub State.wbFault_cells W0 := Sub.trans (Sub.of rfl) hW
  unfold execWbCurrentOverrange
  repeat' first
    | with_reducible assumption
    | with_reducible refine TouchOut.next ?_
    | with_reducible refine State.wbFault_touch ?_ c_State_wbFault _
    | with_reducible refine State.when_touch ?_ _ _ ?_
    | with_reducible intro _ _

def execWbRecordRelease_cells : List Nat :=
  [0x200, 0x300, 0x301, 0x31f, 0x400, 0x401, 0x40f, 0x801, 0xa01, 0xa32, 0x1402, 0x1408, 0x1409, 0x140f, 0x1411]

theorem execWbRecordRelease_touch {W0 : List Nat} {s0 s : State} (h0 : Touch W0 s0 s) (hW : Sub execWbRecordRelease_cells W0) :
    TouchOut W0 s0 (execWbRecordRelease s) := by
  have c_State_wbUnhold : Sub State.wbUnhold_cells W0 := Sub.trans (Sub.of rfl) hW
  unfold execWbRecordRelease
  repeat' first
    | with_reducible assumption
    | with_reducible refine TouchOut.next ?_
    | with_reducible refine State.wbUnhold_touch ?_ c_State_wbUnhold
    | with_reducible refine State.whenLive_touch ?_ _ ?_
    | with_reducible intro _ _

def execSnapshot_cells : List Nat :=
  [0x200, 0x300, 0x301, 0x31f, 0x400, 0x401, 0x40f, 0x801, 0x806, 0x807, 0xa01, 0xa32, 0x1402, 0x1408, 0x1409, 0x140f,
   0x1411]

theorem execSnapshot_touch {W0 : List Nat} {s0 s : State} (h0 : Touch W0 s0 s) (hW : Sub execSnapshot_cells W0) (req : Requester) :
    TouchOut W0 s0 (execSnapshot req s) := by
  have c_State_mailWrite : Sub State.mailWrite_cells W0 := Sub.trans (Sub.of rfl) hW
  have c_State_mbSnapshot : Sub State.mbSnapshot_cells W0 := Sub.trans (Sub.of rfl) hW
  unfold execSnapshot
  repeat' first
    | with_reducible assumption
    | with_reducible refine TouchOut.next ?_
    | with_reducible refine State.mailWrite_touch ?_ c_State_mailWrite _ ?_
    | with_reducible refine State.mbSnapshot_touch ?_ c_State_mbSnapshot _
    | with_reducible intro _ _

def execSweep_cells : List Nat :=
  [0x200, 0x300, 0x301, 0x31f, 0x400, 0x401, 0x40f, 0x801, 0x806, 0x807, 0xa01, 0xa32, 0x1402, 0x1408, 0x1409, 0x140f,
   0x1411]

theorem execSweep_touch {W0 : List Nat} {s0 s : State} (h0 : Touch W0 s0 s) (hW : Sub execSweep_cells W0) (req : Requester) :
    TouchOut W0 s0 (execSweep req s) := by
  have c_State_mailWrite : Sub State.mailWrite_cells W0 := Sub.trans (Sub.of rfl) hW
  have c_State_mbSweep : Sub State.mbSweep_cells W0 := Sub.trans (Sub.of rfl) hW
  unfold execSweep
  repeat' first
    | with_reducible assumption
    | with_reducible refine TouchOut.next ?_
    | with_reducible refine State.mailWrite_touch ?_ c_State_mailWrite _ ?_
    | with_reducible refine State.mbSweep_touch ?_ c_State_mbSweep _
    | with_reducible intro _ _

def execCapBegin_cells : List Nat :=
  [0x200, 0x300, 0x301, 0x31f, 0x400, 0x401, 0x40f, 0x801, 0x806, 0x807, 0xa01, 0xa32, 0x1402, 0x1408, 0x1409, 0x140f,
   0x1411]

theorem execCapBegin_touch {W0 : List Nat} {s0 s : State} (h0 : Touch W0 s0 s) (hW : Sub execCapBegin_cells W0) (req : Requester) :
    TouchOut W0 s0 (execCapBegin req s) := by
  have c_State_mailWrite : Sub State.mailWrite_cells W0 := Sub.trans (Sub.of rfl) hW
  have c_State_mbCapBegin : Sub State.mbCapBegin_cells W0 := Sub.trans (Sub.of rfl) hW
  unfold execCapBegin
  repeat' first
    | with_reducible assumption
    | with_reducible refine TouchOut.next ?_
    | with_reducible refine State.mailWrite_touch ?_ c_State_mailWrite _ ?_
    | with_reducible refine State.mbCapBegin_touch ?_ c_State_mbCapBegin _
    | with_reducible intro _ _

def execCapEnd_cells : List Nat :=
  [0x801, 0x806, 0x1402, 0x1411]

theorem execCapEnd_touch {W0 : List Nat} {s0 s : State} (h0 : Touch W0 s0 s) (hW : Sub execCapEnd_cells W0) (req : Requester) :
    TouchOut W0 s0 (execCapEnd req s) := by
  have c_State_mailWrite : Sub State.mailWrite_cells W0 := Sub.trans (Sub.of rfl) hW
  have c_State_mbCapEnd : Sub State.mbCapEnd_cells W0 := Sub.trans (Sub.of rfl) hW
  unfold execCapEnd
  repeat' first
    | with_reducible assumption
    | with_reducible refine TouchOut.next ?_
    | with_reducible refine State.mailWrite_touch ?_ c_State_mailWrite _ ?_
    | with_reducible refine State.mbCapEnd_touch ?_ c_State_mbCapEnd _
    | with_reducible intro _ _

def execSetPeriod_cells : List Nat :=
  [0x801, 0x806, 0x1402, 0x1411]

theorem execSetPeriod_touch {W0 : List Nat} {s0 s : State} (h0 : Touch W0 s0 s) (hW : Sub execSetPeriod_cells W0) (req : Requester) :
    TouchOut W0 s0 (execSetPeriod req s) := by
  have c_State_mailWrite : Sub State.mailWrite_cells W0 := Sub.trans (Sub.of rfl) hW
  have c_State_mbSetPeriod : Sub State.mbSetPeriod_cells W0 := Sub.trans (Sub.of rfl) hW
  unfold execSetPeriod
  repeat' first
    | with_reducible assumption
    | with_reducible refine TouchOut.next ?_
    | with_reducible refine State.mailWrite_touch ?_ c_State_mailWrite _ ?_
    | with_reducible refine State.mbSetPeriod_touch ?_ c_State_mbSetPeriod _
    | with_reducible intro _ _

def execSetCell_cells : List Nat :=
  [0x801, 0x806, 0x1402, 0x1411]

theorem execSetCell_touch {W0 : List Nat} {s0 s : State} (h0 : Touch W0 s0 s) (hW : Sub execSetCell_cells W0) (req : Requester) :
    TouchOut W0 s0 (execSetCell req s) := by
  have c_State_mailWrite : Sub State.mailWrite_cells W0 := Sub.trans (Sub.of rfl) hW
  have c_State_mbSetCell : Sub State.mbSetCell_cells W0 := Sub.trans (Sub.of rfl) hW
  unfold execSetCell
  repeat' first
    | with_reducible assumption
    | with_reducible refine TouchOut.next ?_
    | with_reducible refine State.mailWrite_touch ?_ c_State_mailWrite _ ?_
    | with_reducible refine State.mbSetCell_touch ?_ c_State_mbSetCell _
    | with_reducible intro _ _

def execWbMailboxIdent_cells : List Nat :=
  [0x801, 0x806, 0x1402, 0x1411]

theorem execWbMailboxIdent_touch {W0 : List Nat} {s0 s : State} (h0 : Touch W0 s0 s) (hW : Sub execWbMailboxIdent_cells W0) (req : Requester) :
    TouchOut W0 s0 (execWbMailboxIdent req s) := by
  have c_State_mailWrite : Sub State.mailWrite_cells W0 := Sub.trans (Sub.of rfl) hW
  have c_State_mbWbMailboxIdent : Sub State.mbWbMailboxIdent_cells W0 := Sub.trans (Sub.of rfl) hW
  unfold execWbMailboxIdent
  repeat' first
    | with_reducible assumption
    | with_reducible refine TouchOut.next ?_
    | with_reducible refine State.mailWrite_touch ?_ c_State_mailWrite _ ?_
    | with_reducible refine State.mbWbMailboxIdent_touch ?_ c_State_mbWbMailboxIdent _
    | with_reducible intro _ _

def execCalibrate_cells : List Nat :=
  [0x200, 0x300, 0x301, 0x31f, 0x400, 0x401, 0x40f, 0x801, 0x806, 0x807, 0xa01, 0xa32, 0x1402, 0x1408, 0x1409, 0x140f,
   0x1411]

theorem execCalibrate_touch {W0 : List Nat} {s0 s : State} (h0 : Touch W0 s0 s) (hW : Sub execCalibrate_cells W0) (req : Requester) :
    TouchOut W0 s0 (execCalibrate req s) := by
  have c_State_mailWrite : Sub State.mailWrite_cells W0 := Sub.trans (Sub.of rfl) hW
  have c_State_mbCalibrate : Sub State.mbCalibrate_cells W0 := Sub.trans (Sub.of rfl) hW
  unfold execCalibrate
  repeat' first
    | with_reducible assumption
    | with_reducible refine TouchOut.next ?_
    | with_reducible refine State.mailWrite_touch ?_ c_State_mailWrite _ ?_
    | with_reducible refine State.mbCalibrate_touch ?_ c_State_mbCalibrate _
    | with_reducible intro _ _

def execWbMailboxReset_cells : List Nat :=
  [0x300, 0x400, 0x401, 0x40f, 0x801, 0x806, 0xa01, 0xa32, 0x1402, 0x1408, 0x140f, 0x1411, 0x1430]

theorem execWbMailboxReset_touch {W0 : List Nat} {s0 s : State} (h0 : Touch W0 s0 s) (hW : Sub execWbMailboxReset_cells W0) (req : Requester) :
    TouchOut W0 s0 (execWbMailboxReset req s) := by
  have c_State_mailWrite : Sub State.mailWrite_cells W0 := Sub.trans (Sub.of rfl) hW
  have c_State_mbWbMailboxReset : Sub State.mbWbMailboxReset_cells W0 := Sub.trans (Sub.of rfl) hW
  unfold execWbMailboxReset
  repeat' first
    | with_reducible assumption
    | with_reducible refine TouchOut.next ?_
    | with_reducible refine State.mailWrite_touch ?_ c_State_mailWrite _ ?_
    | with_reducible refine State.mbWbMailboxReset_touch ?_ c_State_mbWbMailboxReset _
    | with_reducible intro _ _

def execWbCmdUnknown_cells : List Nat :=
  [0x801, 0x806, 0x1402, 0x1411]

theorem execWbCmdUnknown_touch {W0 : List Nat} {s0 s : State} (h0 : Touch W0 s0 s) (hW : Sub execWbCmdUnknown_cells W0) (code : Nat) :
    TouchOut W0 s0 (execWbCmdUnknown code s) := by
  have c_State_mailWrite : Sub State.mailWrite_cells W0 := Sub.trans (Sub.of rfl) hW
  have c_State_mbUnknown : Sub State.mbUnknown_cells W0 := Sub.trans (Sub.of rfl) hW
  unfold execWbCmdUnknown
  repeat' first
    | with_reducible assumption
    | with_reducible refine TouchOut.next ?_
    | with_reducible refine State.mailWrite_touch ?_ c_State_mailWrite _ ?_
    | with_reducible refine State.mbUnknown_touch ?_ c_State_mbUnknown _
    | with_reducible intro _ _

def execSnapDone_cells : List Nat :=
  [0x200, 0x300, 0x301, 0x31f, 0x400, 0x401, 0x40f, 0x801, 0xa01, 0xa32, 0x1402, 0x1408, 0x1409, 0x140f, 0x1411]

theorem execSnapDone_touch {W0 : List Nat} {s0 s : State} (h0 : Touch W0 s0 s) (hW : Sub execSnapDone_cells W0) (m : WbMeter) (x : SnapMeasure) :
    TouchOut W0 s0 (execSnapDone m x s) := by
  have c_State_wbMeter : Sub State.wbMeter_cells W0 := Sub.trans (Sub.of rfl) hW
  have c_State_seqEnd : Sub State.seqEnd_cells W0 := Sub.trans (Sub.of rfl) hW
  unfold execSnapDone
  repeat' first
    | with_reducible assumption
    | with_reducible refine TouchOut.next ?_
    | (extract_lets +onlyGivenNames xx; guard_hyp xx : State := _; refine Touch.cut (x := xx) ?_ ?_; (on_goal 2 => (intro hh; (try clear_value xx); revert xx; intro _ _)); any_goals (revert xx; intro _))
    | with_reducible refine State.wbMeter_touch ?_ c_State_wbMeter _
    | with_reducible refine State.seqEnd_touch ?_ c_State_seqEnd _ _ _
    | split

def execSweepDone_cells : List Nat :=
  [0x200, 0x300, 0x301, 0x31f, 0x400, 0x401, 0x40f, 0x801, 0xa01, 0xa32, 0x1402, 0x1408, 0x1409, 0x140c, 0x140f,
   0x1411]

theorem execSweepDone_touch {W0 : List Nat} {s0 s : State} (h0 : Touch W0 s0 s) (hW : Sub execSweepDone_cells W0) (points : List SweepPoint) (peak : Nat) (ntca : Option Int) (ntcb : Option Int) :
    TouchOut W0 s0 (execSweepDone points peak ntca ntcb s) := by
  have c_State_excClip : Sub State.excClip_cells W0 := Sub.trans (Sub.of rfl) hW
  have c_State_sweepOff : Sub State.sweepOff_cells W0 := Sub.trans (Sub.of rfl) hW
  have c_State_proofRest : Sub State.proofRest_cells W0 := Sub.trans (Sub.of rfl) hW
  have c_State_seqEnd : Sub State.seqEnd_cells W0 := Sub.trans (Sub.of rfl) hW
  unfold execSweepDone
  repeat' first
    | with_reducible assumption
    | with_reducible refine TouchOut.next ?_
    | (extract_lets +onlyGivenNames xx; guard_hyp xx : State := _; refine Touch.cut (x := xx) ?_ ?_; (on_goal 2 => (intro hh; (try clear_value xx); revert xx; intro _ _)); any_goals (revert xx; intro _))
    | (extract_lets +onlyGivenNames xx; (try clear_value xx); revert xx; intro _)
    | with_reducible refine State.excClip_touch ?_ c_State_excClip
    | with_reducible refine State.sweepOff_touch ?_ c_State_sweepOff
    | with_reducible refine State.proofRest_touch ?_ c_State_proofRest
    | with_reducible refine State.seqEnd_touch ?_ c_State_seqEnd _ _ _
    | with_reducible refine Touch.ite ?_ ?_
    | split

def execSweepHoldoffExpiry_cells : List Nat :=
  [0x200, 0x300, 0x301, 0x31f, 0x400, 0x401, 0x40f, 0x801, 0x807, 0xa01, 0xa32, 0x1402, 0x1408, 0x1409, 0x140f, 0x1411]

theorem execSweepHoldoffExpiry_touch {W0 : List Nat} {s0 s : State} (h0 : Touch W0 s0 s) (hW : Sub execSweepHoldoffExpiry_cells W0) :
    TouchOut W0 s0 (execSweepHoldoffExpiry s) := by
  have c_State_wbTrigger : Sub State.wbTrigger_cells W0 := Sub.trans (Sub.of rfl) hW
  have w1411 : 0x1411 ∈ W0 := hW.mem rfl
  unfold execSweepHoldoffExpiry
  repeat' first
    | with_reducible assumption
    | with_reducible refine TouchOut.next ?_
    | (extract_lets +onlyGivenNames xx; (try clear_value xx); revert xx; intro _)
    | with_reducible refine State.wbTrigger_touch ?_ c_State_wbTrigger _ _
    | with_reducible refine State.when_touch ?_ _ _ ?_
    | with_reducible intro _ _
    | with_reducible refine Touch.update ?_

def execCapDischargeTimeout_cells : List Nat :=
  [0x1411]

theorem execCapDischargeTimeout_touch {W0 : List Nat} {s0 s : State} (h0 : Touch W0 s0 s) (hW : Sub execCapDischargeTimeout_cells W0) :
    TouchOut W0 s0 (execCapDischargeTimeout s) := by
  have c_State_capEnd : Sub State.capEnd_cells W0 := Sub.trans (Sub.of rfl) hW
  unfold execCapDischargeTimeout
  repeat' first
    | with_reducible assumption
    | with_reducible refine TouchOut.next ?_
    | with_reducible refine State.capEnd_touch ?_ c_State_capEnd
    | split

def execCapRelaxDone_cells : List Nat :=
  [0x200, 0x300, 0x301, 0x31f, 0x400, 0x401, 0x40f, 0x801, 0xa01, 0xa32, 0x1402, 0x1408, 0x1409, 0x140f, 0x1411]

theorem execCapRelaxDone_touch {W0 : List Nat} {s0 s : State} (h0 : Touch W0 s0 s) (hW : Sub execCapRelaxDone_cells W0) (m : CapMeasure) :
    TouchOut W0 s0 (execCapRelaxDone m s) := by
  have c_State_capBody : Sub State.capBody_cells W0 := Sub.trans (Sub.of rfl) hW
  have c_State_seqEnd : Sub State.seqEnd_cells W0 := Sub.trans (Sub.of rfl) hW
  unfold execCapRelaxDone
  repeat' first
    | with_reducible assumption
    | with_reducible refine TouchOut.next ?_
    | with_reducible refine State.capBody_touch ?_ c_State_capBody _ _ _
    | with_reducible refine State.seqEnd_touch ?_ c_State_seqEnd _ _ _
    | with_reducible refine State.when_touch ?_ _ _ ?_
    | with_reducible intro _ _
    | split

def execCalDone_cells : List Nat :=
  [0x200, 0x300, 0x301, 0x31f, 0x400, 0x401, 0x40f, 0x801, 0xa01, 0xa32, 0x1402, 0x1408, 0x1409, 0x140f, 0x1411]

theorem execCalDone_touch {W0 : List Nat} {s0 s : State} (h0 : Touch W0 s0 s) (hW : Sub execCalDone_cells W0) (v : Nat) :
    TouchOut W0 s0 (execCalDone v s) := by
  have c_State_seqEnd : Sub State.seqEnd_cells W0 := Sub.trans (Sub.of rfl) hW
  have w1411 : 0x1411 ∈ W0 := hW.mem rfl
  unfold execCalDone
  repeat' first
    | with_reducible assumption
    | with_reducible refine TouchOut.next ?_
    | (extract_lets +onlyGivenNames xx; guard_hyp xx : State := _; refine Touch.cut (x := xx) ?_ ?_; (on_goal 2 => (intro hh; (try clear_value xx); revert xx; intro _ _)); any_goals (revert xx; intro _))
    | (extract_lets +onlyGivenNames xx; (try clear_value xx); revert xx; intro _)
    | with_reducible refine State.seqEnd_touch ?_ c_State_seqEnd _ _ _
    | with_reducible refine Touch.ite ?_ ?_
    | split
    | with_reducible refine Touch.update ?_

end Sys2Proof.Machine
end

