-- ==== Sys2Proof/Laws/TouchVerdictActs.lean ====
section
/-!
SUPPORT. What each operation of Machine/VerdictActs.lean can do: the registers and parts of the state it may write, and nothing
else; the unit, its queue and the form of its stores are kept.
-/

-- proofs are elaborated one after another: many at once ask for more threads than a memory limit allows
set_option Elab.async false

set_option linter.unusedTactic false
set_option linter.unusedVariables false
set_option linter.unusedSimpArgs false
set_option linter.unreachableTactic false
set_option linter.tactic.unusedName false

namespace Sys2Proof.Machine

def State.proofStart_cells : List Nat :=
  [0x2, 0x6, 0x100, 0x200, 0x300, 0x301, 0x31f, 0x400, 0x401, 0x405, 0x40e, 0x40f, 0x801, 0x804, 0x806, 0x807, 0x900,
   0x901, 0xa01, 0xa32, 0xc20, 0xc21, 0xc25, 0x1402, 0x1405, 0x1408, 0x1409, 0x140c, 0x140d, 0x140f, 0x1411, 0x1413,
   0x1415]

theorem State.proofStart_touch {W0 : List Nat} {s0 s : State} (h0 : Touch W0 s0 s) (hW : Sub State.proofStart_cells W0) (requested : Bool) (low : Bool) :
    Touch W0 s0 (State.proofStart s requested low) := by
  have c_State_setOverlay : Sub State.setOverlay_cells W0 := Sub.trans (Sub.of rfl) hW
  have c_State_chgSuspend : Sub State.chgSuspend_cells W0 := Sub.trans (Sub.of rfl) hW
  have c_State_post : Sub State.post_cells W0 := Sub.trans (Sub.of rfl) hW
  have c_State_proofRequestsDone : Sub State.proofRequestsDone_cells W0 := Sub.trans (Sub.of rfl) hW
  have c_State_holdCellok : Sub State.holdCellok_cells W0 := Sub.trans (Sub.of rfl) hW
  have c_State_powerChanged : Sub State.powerChanged_cells W0 := Sub.trans (Sub.of rfl) hW
  have c_State_mbSetPeriod : Sub State.mbSetPeriod_cells W0 := Sub.trans (Sub.of rfl) hW
  have c_State_mbSweep : Sub State.mbSweep_cells W0 := Sub.trans (Sub.of rfl) hW
  have c_State_proofRest : Sub State.proofRest_cells W0 := Sub.trans (Sub.of rfl) hW
  have w2 : Writes W0 R.SYS_STATE := Or.inl (hW.mem rfl)
  have w300 : Writes W0 R.CHG_STATUS := Or.inl (hW.mem rfl)
  have w804 : Writes W0 R.WB_ARG0 := Or.inl (hW.mem rfl)
  have w900 : Writes W0 R.VDT_STATUS := Or.inl (hW.mem rfl)
  have w901 : Writes W0 R.VDT_EVENT := Or.inl (hW.mem rfl)
  have w140c : 0x140c ∈ W0 := hW.mem rfl
  unfold State.proofStart
  repeat' first
    | with_reducible assumption
    | (extract_lets +onlyGivenNames xx; guard_hyp xx : State := _; refine Touch.cut (x := xx) ?_ ?_; (on_goal 2 => (intro hh; (try clear_value xx); revert xx; intro _ _)); any_goals (revert xx; intro _))
    | (extract_lets +onlyGivenNames xx; (try clear_value xx); revert xx; intro _)
    | with_reducible refine State.setOverlay_touch ?_ c_State_setOverlay _ _ ?_
    | with_reducible refine State.chgSuspend_touch ?_ c_State_chgSuspend _ ?_
    | with_reducible refine State.post_touch ?_ c_State_post _ _
    | with_reducible refine State.proofRequestsDone_touch ?_ c_State_proofRequestsDone
    | with_reducible refine State.holdCellok_touch ?_ c_State_holdCellok
    | with_reducible refine State.powerChanged_touch ?_ c_State_powerChanged
    | with_reducible refine State.mbSetPeriod_touch ?_ c_State_mbSetPeriod _
    | with_reducible refine State.mbSweep_touch ?_ c_State_mbSweep _
    | with_reducible refine State.proofRest_touch ?_ c_State_proofRest
    | with_reducible refine State.event_touch ?_ _ ?_
    | with_reducible refine State.setFlag_touch ?_ _ _ ?_
    | with_reducible refine State.setReg_touch ?_ _ _ ?_
    | with_reducible refine Touch.ite ?_ ?_
    | with_reducible refine Touch.update ?_

def State.proofDefer_cells : List Nat :=
  [0x900, 0x140c]

theorem State.proofDefer_touch {W0 : List Nat} {s0 s : State} (h0 : Touch W0 s0 s) (hW : Sub State.proofDefer_cells W0) (requested : Bool) :
    Touch W0 s0 (State.proofDefer s requested) := by
  have w900 : Writes W0 R.VDT_STATUS := Or.inl (hW.mem rfl)
  have w140c : 0x140c ∈ W0 := hW.mem rfl
  unfold State.proofDefer
  repeat' first
    | with_reducible assumption
    | (extract_lets +onlyGivenNames xx; (try clear_value xx); revert xx; intro _)
    | with_reducible refine State.setFlag_touch ?_ _ _ ?_
    | with_reducible refine Touch.update ?_

def State.proofChecks_cells : List Nat :=
  [0x2, 0x6, 0x100, 0x200, 0x300, 0x301, 0x31f, 0x400, 0x401, 0x405, 0x40e, 0x40f, 0x801, 0x804, 0x806, 0x807, 0x900,
   0x901, 0x90b, 0x90d, 0x90e, 0x90f, 0x914, 0xa01, 0xa32, 0xc20, 0xc21, 0xc25, 0x1402, 0x1405, 0x1408, 0x1409,
   0x140c, 0x140d, 0x140f, 0x1411, 0x1413, 0x1415]

theorem State.proofChecks_touch {W0 : List Nat} {s0 s : State} (h0 : Touch W0 s0 s) (hW : Sub State.proofChecks_cells W0) (requested : Bool) :
    Touch W0 s0 (State.proofChecks s requested) := by
  have c_State_formReserve : Sub State.formReserve_cells W0 := Sub.trans (Sub.of rfl) hW
  have c_State_proofSkip : Sub State.proofSkip_cells W0 := Sub.trans (Sub.of rfl) hW
  have c_State_proofDefer : Sub State.proofDefer_cells W0 := Sub.trans (Sub.of rfl) hW
  have c_State_proofStart : Sub State.proofStart_cells W0 := Sub.trans (Sub.of rfl) hW
  unfold State.proofChecks
  repeat' first
    | with_reducible assumption
    | (extract_lets +onlyGivenNames xx; guard_hyp xx : State := _; refine Touch.cut (x := xx) ?_ ?_; (on_goal 2 => (intro hh; (try clear_value xx); revert xx; intro _ _)); any_goals (revert xx; intro _))
    | (extract_lets +onlyGivenNames xx; (try clear_value xx); revert xx; intro _)
    | with_reducible refine State.formReserve_touch ?_ c_State_formReserve
    | with_reducible refine State.proofSkip_touch ?_ c_State_proofSkip _
    | with_reducible refine State.proofDefer_touch ?_ c_State_proofDefer _
    | with_reducible refine State.proofStart_touch ?_ c_State_proofStart _ _
    | with_reducible refine Touch.ite ?_ ?_

def State.showResult_cells : List Nat :=
  [0x90b, 0x910, 0x911, 0x912]

theorem State.showResult_touch {W0 : List Nat} {s0 s : State} (h0 : Touch W0 s0 s) (hW : Sub State.showResult_cells W0) (p : Proof) (x : TestResult) :
    Touch W0 s0 (State.showResult s p x) := by
  have w90b : Writes W0 R.VDT_PROOF := Or.inl (hW.mem rfl)
  have w910 : Writes W0 R.VDT_ZBASE := Or.inl (hW.mem rfl)
  have w911 : Writes W0 R.VDT_ZNOW := Or.inl (hW.mem rfl)
  have w912 : Writes W0 R.VDT_CEST := Or.inl (hW.mem rfl)
  unfold State.showResult
  repeat' first
    | with_reducible assumption
    | (extract_lets +onlyGivenNames xx; guard_hyp xx : State := _; refine Touch.cut (x := xx) ?_ ?_; (on_goal 2 => (intro hh; (try clear_value xx); revert xx; intro _ _)); any_goals (revert xx; intro _))
    | (extract_lets +onlyGivenNames xx; (try clear_value xx); revert xx; intro _)
    | with_reducible refine State.setReg_touch ?_ _ _ ?_
    | split
    | with_reducible refine Touch.update ?_

def State.noteTwice_cells : List Nat :=
  [0x900, 0x901, 0xa01, 0xa32, 0x140c, 0x140f]

theorem State.noteTwice_touch {W0 : List Nat} {s0 s : State} (h0 : Touch W0 s0 s) (hW : Sub State.noteTwice_cells W0) (lows : List Bool) (faults : List Bool) :
    Touch W0 s0 (State.noteTwice s lows faults) := by
  have c_State_note : Sub State.note_cells W0 := Sub.trans (Sub.of rfl) hW
  unfold State.noteTwice
  repeat' first
    | with_reducible assumption
    | (extract_lets +onlyGivenNames xx; guard_hyp xx : State := _; refine Touch.cut (x := xx) ?_ ?_; (on_goal 2 => (intro hh; (try clear_value xx); revert xx; intro _ _)); any_goals (revert xx; intro _))
    | with_reducible refine State.note_touch ?_ c_State_note _ _ _ _
    | with_reducible refine Touch.ite ?_ ?_

def State.countTest_cells : List Nat :=
  [0x900, 0x901, 0xa01, 0xa32, 0x140c, 0x140f]

theorem State.countTest_touch {W0 : List Nat} {s0 s : State} (h0 : Touch W0 s0 s) (hW : Sub State.countTest_cells W0) (p : Proof) (x : TestResult) :
    Touch W0 s0 (State.countTest s p x) := by
  have c_State_noteTwice : Sub State.noteTwice_cells W0 := Sub.trans (Sub.of rfl) hW
  have c_State_postVerdict : Sub State.postVerdict_cells W0 := Sub.trans (Sub.of rfl) hW
  have c_State_note : Sub State.note_cells W0 := Sub.trans (Sub.of rfl) hW
  have w900 : Writes W0 R.VDT_STATUS := Or.inl (hW.mem rfl)
  have w140c : 0x140c ∈ W0 := hW.mem rfl
  unfold State.countTest
  repeat' first
    | with_reducible assumption
    | (extract_lets +onlyGivenNames xx; guard_hyp xx : State := _; refine Touch.cut (x := xx) ?_ ?_; (on_goal 2 => (intro hh; (try clear_value xx); revert xx; intro _ _)); any_goals (revert xx; intro _))
    | (extract_lets +onlyGivenNames xx; (try clear_value xx); revert xx; intro _)
    | with_reducible refine State.noteTwice_touch ?_ c_State_noteTwice _ _
    | with_reducible refine State.postVerdict_touch ?_ c_State_postVerdict _ _
    | with_reducible refine State.note_touch ?_ c_State_note _ _ _ _
    | with_reducible refine State.setField_touch ?_ _ _ ?_
    | with_reducible refine State.setFlag_touch ?_ _ _ ?_
    | with_reducible refine Touch.ite ?_ ?_
    | with_reducible refine Touch.update ?_

def State.orFree_cells : List Nat :=
  [0x1402]

theorem State.orFree_touch {W0 : List Nat} {s0 s : State} (h0 : Touch W0 s0 s) (hW : Sub State.orFree_cells W0) (x : Option Nat) :
    Touch W0 s0 (State.orFree s x).2 := by
  have c_State_freshBytes : Sub State.freshBytes_cells W0 := Sub.trans (Sub.of rfl) hW
  unfold State.orFree
  repeat' first
    | with_reducible assumption
    | with_reducible refine State.freshBytes_touch ?_ c_State_freshBytes _
    | split

theorem State.orFree_touch_eq {W0 : List Nat} {s0 s : State} {u0 : List Byte} {sOut : State} (h0 : Touch W0 s0 s) (hW : Sub State.orFree_cells W0) (x : Option Nat)
    (e : (State.orFree s x) = (u0, sOut)) : Touch W0 s0 sOut := by
  have := State.orFree_touch h0 hW x
  rwa [e] at this

def State.postProofEnd_cells : List Nat :=
  [0xa01, 0xa32, 0x1402, 0x140f]

theorem State.postProofEnd_touch {W0 : List Nat} {s0 s : State} (h0 : Touch W0 s0 s) (hW : Sub State.postProofEnd_cells W0) (x : TestResult) (r : List Byte) :
    Touch W0 s0 (State.postProofEnd s x r) := by
  have c_State_orFree : Sub State.orFree_cells W0 := Sub.trans (Sub.of rfl) hW
  have c_State_post : Sub State.post_cells W0 := Sub.trans (Sub.of rfl) hW
  unfold State.postProofEnd
  repeat' first
    | with_reducible assumption
    | with_reducible refine State.orFree_touch ?_ c_State_orFree _
    | with_reducible refine State.post_touch ?_ c_State_post _ _

def State.proofEnd_cells : List Nat :=
  [0x2, 0x6, 0x200, 0x300, 0x301, 0x31f, 0x400, 0x401, 0x40f, 0x801, 0x900, 0x901, 0x90b, 0x90d, 0x90e, 0x90f, 0x910,
   0x911, 0x912, 0xa01, 0xa32, 0x1402, 0x1408, 0x1409, 0x140c, 0x140f, 0x1411]

theorem State.proofEnd_touch {W0 : List Nat} {s0 s : State} (h0 : Touch W0 s0 s) (hW : Sub State.proofEnd_cells W0) (p : Proof) (r : List Byte) :
    Touch W0 s0 (State.proofEnd s p r) := by
  have c_State_proofClear : Sub State.proofClear_cells W0 := Sub.trans (Sub.of rfl) hW
  have c_State_showResult : Sub State.showResult_cells W0 := Sub.trans (Sub.of rfl) hW
  have c_State_countTest : Sub State.countTest_cells W0 := Sub.trans (Sub.of rfl) hW
  have c_State_postProofEnd : Sub State.postProofEnd_cells W0 := Sub.trans (Sub.of rfl) hW
  have c_State_note : Sub State.note_cells W0 := Sub.trans (Sub.of rfl) hW
  have c_State_refreshCell : Sub State.refreshCell_cells W0 := Sub.trans (Sub.of rfl) hW
  have c_State_formReserve : Sub State.formReserve_cells W0 := Sub.trans (Sub.of rfl) hW
  have w901 : Writes W0 R.VDT_EVENT := Or.inl (hW.mem rfl)
  have w1409 : 0x1409 ∈ W0 := hW.mem rfl
  have w140c : 0x140c ∈ W0 := hW.mem rfl
  unfold State.proofEnd
  repeat' first
    | with_reducible assumption
    | (extract_lets +onlyGivenNames xx; guard_hyp xx : State := _; refine Touch.cut (x := xx) ?_ ?_; (on_goal 2 => (intro hh; (try clear_value xx); revert xx; intro _ _)); any_goals (revert xx; intro _))
    | (extract_lets +onlyGivenNames xx; (try clear_value xx); revert xx; intro _)
    | with_reducible refine State.proofClear_touch ?_ c_State_proofClear
    | with_reducible refine State.showResult_touch ?_ c_State_showResult _ _
    | with_reducible refine State.countTest_touch ?_ c_State_countTest _ _
    | with_reducible refine State.postProofEnd_touch ?_ c_State_postProofEnd _ _
    | with_reducible refine State.note_touch ?_ c_State_note _ _ _ _
    | with_reducible refine State.refreshCell_touch ?_ c_State_refreshCell _
    | with_reducible refine State.formReserve_touch ?_ c_State_formReserve
    | with_reducible refine State.event_touch ?_ _ ?_
    | with_reducible refine Touch.ite ?_ ?_
    | with_reducible refine Touch.update ?_

end Sys2Proof.Machine
end

