-- ==== Sys2Proof/Laws/TouchBusOps.lean ====
section
/-!
SUPPORT. What each operation of Machine/BusOps.lean can do: the registers and parts of the state it may write, and nothing
else; the unit, its queue and the form of its stores are kept.
-/

-- proofs are elaborated one after another: many at once ask for more threads than a memory limit allows
set_option Elab.async false

set_option linter.unusedTactic false
set_option linter.unusedVariables false
set_option linter.unusedSimpArgs false
set_option linter.unreachableTactic false
set_option linter.tactic.unusedName false

namespace Sys2Proof.Machine

def State.twbLatch_cells : List Nat :=
  [0x1416]

theorem State.twbLatch_touch {W0 : List Nat} {s0 s : State} (h0 : Touch W0 s0 s) (hW : Sub State.twbLatch_cells W0) :
    Touch W0 s0 (State.twbLatch s) := by
  have w1416 : 0x1416 ∈ W0 := hW.mem rfl
  unfold State.twbLatch
  repeat' first
    | with_reducible assumption
    | (extract_lets +onlyGivenNames xx; (try clear_value xx); revert xx; intro _)
    | with_reducible refine Touch.update ?_

def State.snapShow_cells : List Nat :=
  [0x1403, 0x1430]

theorem State.snapShow_touch {W0 : List Nat} {s0 s : State} (h0 : Touch W0 s0 s) (hW : Sub State.snapShow_cells W0) :
    Touch W0 s0 (State.snapShow s) := by
  have w1403 : 0x1403 ∈ W0 := hW.mem rfl
  have w1430 : 0x1430 ∈ W0 := hW.mem rfl
  unfold State.snapShow
  repeat' first
    | with_reducible assumption
    | (extract_lets +onlyGivenNames xx; guard_hyp xx : State := _; refine Touch.cut (x := xx) ?_ ?_; (on_goal 2 => (intro hh; (try clear_value xx); revert xx; intro _ _)); any_goals (revert xx; intro _))
    | (extract_lets +onlyGivenNames xx; (try clear_value xx); revert xx; intro _)
    | with_reducible refine State.setReg_touch ?_ _ _ ?_
    | with_reducible refine Touch.foldl ?_ ?_
    | with_reducible intro _ _
    | with_reducible intro _
    | split
    | exact Or.inr (by with_reducible assumption)
    | with_reducible refine Touch.update ?_

def State.busStop_cells : List Nat :=
  [0x1403, 0x1416, 0x1430]

theorem State.busStop_touch {W0 : List Nat} {s0 s : State} (h0 : Touch W0 s0 s) (hW : Sub State.busStop_cells W0) :
    Touch W0 s0 (State.busStop s) := by
  have c_State_twbLatch : Sub State.twbLatch_cells W0 := Sub.trans (Sub.of rfl) hW
  have c_State_snapShow : Sub State.snapShow_cells W0 := Sub.trans (Sub.of rfl) hW
  have w1416 : 0x1416 ∈ W0 := hW.mem rfl
  unfold State.busStop
  repeat' first
    | with_reducible assumption
    | (extract_lets +onlyGivenNames xx; guard_hyp xx : State := _; refine Touch.cut (x := xx) ?_ ?_; (on_goal 2 => (intro hh; (try clear_value xx); revert xx; intro _ _)); any_goals (revert xx; intro _))
    | (extract_lets +onlyGivenNames xx; (try clear_value xx); revert xx; intro _)
    | with_reducible refine State.twbLatch_touch ?_ c_State_twbLatch
    | with_reducible refine State.snapShow_touch ?_ c_State_snapShow
    | with_reducible refine Touch.ite ?_ ?_
    | with_reducible refine Touch.update ?_

def State.busRefuse_cells : List Nat :=
  [0xd12]

theorem State.busRefuse_touch {W0 : List Nat} {s0 s : State} (h0 : Touch W0 s0 s) (hW : Sub State.busRefuse_cells W0) (f : Flag) (w_f : Writes W0 f.reg) :
    Touch W0 s0 (State.busRefuse s f) := by
  have wd12 : Writes W0 R.TWB_REFCNT := Or.inl (hW.mem rfl)
  unfold State.busRefuse
  repeat' first
    | with_reducible assumption
    | with_reducible refine State.bump_touch ?_ _ _ ?_
    | with_reducible refine State.event_touch ?_ _ ?_

def State.busAnswer_cells : List Nat :=
  [0x1403]

theorem State.busAnswer_touch {W0 : List Nat} {s0 s : State} (h0 : Touch W0 s0 s) (hW : Sub State.busAnswer_cells W0) (data : List Word) (nack : Bool) :
    Touch W0 s0 (State.busAnswer s data nack) := by
  have w1403 : 0x1403 ∈ W0 := hW.mem rfl
  unfold State.busAnswer
  repeat' first
    | with_reducible assumption
    | (extract_lets +onlyGivenNames xx; (try clear_value xx); revert xx; intro _)
    | with_reducible refine Touch.update ?_

def State.busStart_cells : List Nat :=
  [0xd00, 0xd01, 0xd12, 0x1403, 0x1416, 0x1430]

theorem State.busStart_touch {W0 : List Nat} {s0 s : State} (h0 : Touch W0 s0 s) (hW : Sub State.busStart_cells W0) (a : Nat) :
    Touch W0 s0 (State.busStart s a).1 := by
  have c_State_busAnswer : Sub State.busAnswer_cells W0 := Sub.trans (Sub.of rfl) hW
  have c_State_busRefuse : Sub State.busRefuse_cells W0 := Sub.trans (Sub.of rfl) hW
  have c_State_busStop : Sub State.busStop_cells W0 := Sub.trans (Sub.of rfl) hW
  have wd00 : Writes W0 R.TWB_STATUS := Or.inl (hW.mem rfl)
  have wd01 : Writes W0 R.TWB_EVENT := Or.inl (hW.mem rfl)
  unfold State.busStart
  repeat' first
    | with_reducible assumption
    | (extract_lets +onlyGivenNames xx; guard_hyp xx : State := _; refine Touch.cut (x := xx) ?_ ?_; (on_goal 2 => (intro hh; (try clear_value xx); revert xx; intro _ _)); any_goals (revert xx; intro _))
    | with_reducible refine State.busAnswer_touch ?_ c_State_busAnswer _ _
    | with_reducible refine State.busRefuse_touch ?_ c_State_busRefuse _ ?_
    | with_reducible refine State.busStop_touch ?_ c_State_busStop
    | with_reducible refine State.setFlag_touch ?_ _ _ ?_
    | split

theorem State.busStart_touch_eq {W0 : List Nat} {s0 s : State} {sOut : State} {u1 : Option Bool} (h0 : Touch W0 s0 s) (hW : Sub State.busStart_cells W0) (a : Nat)
    (e : (State.busStart s a) = (sOut, u1)) : Touch W0 s0 sOut := by
  have := State.busStart_touch h0 hW a
  rwa [e] at this

def State.groupRead_cells : List Nat :=
  [0x1403]

theorem State.groupRead_touch {W0 : List Nat} {s0 s : State} (h0 : Touch W0 s0 s) (hW : Sub State.groupRead_cells W0) (req : Requester) (viaH : Bool) (a : Nat) :
    Touch W0 s0 (State.groupRead s req viaH a).2 := by
  have w1403 : 0x1403 ∈ W0 := hW.mem rfl
  unfold State.groupRead
  repeat' first
    | with_reducible assumption
    | (extract_lets +onlyGivenNames xx; (try clear_value xx); revert xx; intro _)
    | split
    | dsimp only
    | with_reducible refine Touch.update ?_

theorem State.groupRead_touch_eq {W0 : List Nat} {s0 s : State} {u0 : Word} {sOut : State} (h0 : Touch W0 s0 s) (hW : Sub State.groupRead_cells W0) (req : Requester) (viaH : Bool) (a : Nat)
    (e : (State.groupRead s req viaH a) = (u0, sOut)) : Touch W0 s0 sOut := by
  have := State.groupRead_touch h0 hW req viaH a
  rwa [e] at this

def State.badWrite_cells : List Nat :=
  [0x6]

theorem State.badWrite_touch {W0 : List Nat} {s0 s : State} (h0 : Touch W0 s0 s) (hW : Sub State.badWrite_cells W0) :
    Touch W0 s0 (State.badWrite s) := by
  have w6 : Writes W0 R.SYS_EVENT := Or.inl (hW.mem rfl)
  unfold State.badWrite
  repeat' first
    | with_reducible assumption
    | with_reducible refine State.event_touch ?_ _ ?_

def State.cfgBit_cells : List Nat :=
  []

theorem State.cfgBit_touch {W0 : List Nat} {s0 s : State} (h0 : Touch W0 s0 s) (hW : Sub State.cfgBit_cells W0) (f : Flag) (ev : Flag) (x : Bool) (w_f : Writes W0 f.reg) (w_ev : Writes W0 ev.reg) :
    Touch W0 s0 (State.cfgBit s f ev x) := by
  unfold State.cfgBit
  repeat' first
    | with_reducible assumption
    | (extract_lets +onlyGivenNames xx; guard_hyp xx : State := _; refine Touch.cut (x := xx) ?_ ?_; (on_goal 2 => (intro hh; (try clear_value xx); revert xx; intro _ _)); any_goals (revert xx; intro _))
    | with_reducible refine State.event_touch ?_ _ ?_
    | with_reducible refine State.setFlag_touch ?_ _ _ ?_
    | with_reducible refine Touch.ite ?_ ?_

def State.cfgDenied_cells : List Nat :=
  [0xa01, 0xa32, 0x1000, 0x1001, 0x140f]

theorem State.cfgDenied_touch {W0 : List Nat} {s0 s : State} (h0 : Touch W0 s0 s) (hW : Sub State.cfgDenied_cells W0) :
    Touch W0 s0 (State.cfgDenied s) := by
  have c_State_cfgBit : Sub State.cfgBit_cells W0 := fun _ h => nomatch h
  have c_State_tally : Sub State.tally_cells W0 := Sub.trans (Sub.of rfl) hW
  have w1000 : Writes W0 R.CFG_STATUS := Or.inl (hW.mem rfl)
  have w1001 : Writes W0 R.CFG_EVENT := Or.inl (hW.mem rfl)
  unfold State.cfgDenied
  repeat' first
    | with_reducible assumption
    | with_reducible refine State.cfgBit_touch ?_ c_State_cfgBit _ _ _ ?_ ?_
    | with_reducible refine State.tally_touch ?_ c_State_tally _

def State.cfgWritten_cells : List Nat :=
  [0x1000, 0x1403]

theorem State.cfgWritten_touch {W0 : List Nat} {s0 s : State} (h0 : Touch W0 s0 s) (hW : Sub State.cfgWritten_cells W0) (a : Nat) :
    Touch W0 s0 (State.cfgWritten s a) := by
  have w1000 : Writes W0 R.CFG_STATUS := Or.inl (hW.mem rfl)
  have w1403 : 0x1403 ∈ W0 := hW.mem rfl
  unfold State.cfgWritten
  repeat' first
    | with_reducible assumption
    | (extract_lets +onlyGivenNames xx; guard_hyp xx : State := _; refine Touch.cut (x := xx) ?_ ?_; (on_goal 2 => (intro hh; (try clear_value xx); revert xx; intro _ _)); any_goals (revert xx; intro _))
    | (extract_lets +onlyGivenNames xx; (try clear_value xx); revert xx; intro _)
    | with_reducible refine State.setFlag_touch ?_ _ _ ?_
    | with_reducible refine Touch.ite ?_ ?_
    | with_reducible refine Touch.update ?_

def State.dropKey_cells : List Nat :=
  [0x1403]

theorem State.dropKey_touch {W0 : List Nat} {s0 s : State} (h0 : Touch W0 s0 s) (hW : Sub State.dropKey_cells W0) (req : Requester) :
    Touch W0 s0 (State.dropKey s req) := by
  have w1403 : 0x1403 ∈ W0 := hW.mem rfl
  unfold State.dropKey
  repeat' first
    | with_reducible assumption
    | (extract_lets +onlyGivenNames xx; (try clear_value xx); revert xx; intro _)
    | with_reducible refine Touch.update ?_

def State.loseKey_cells : List Nat :=
  [0x6, 0xa, 0x1403]

theorem State.loseKey_touch {W0 : List Nat} {s0 s : State} (h0 : Touch W0 s0 s) (hW : Sub State.loseKey_cells W0) (req : Requester) :
    Touch W0 s0 (State.loseKey s req) := by
  have c_State_dropKey : Sub State.dropKey_cells W0 := Sub.trans (Sub.of rfl) hW
  have w6 : Writes W0 R.SYS_EVENT := Or.inl (hW.mem rfl)
  have wa : Writes W0 R.SYS_KEYERRCNT := Or.inl (hW.mem rfl)
  unfold State.loseKey
  repeat' first
    | with_reducible assumption
    | with_reducible refine State.dropKey_touch ?_ c_State_dropKey _
    | with_reducible refine State.bump_touch ?_ _ _ ?_
    | with_reducible refine State.event_touch ?_ _ ?_
    | split

def State.armKey_cells : List Nat :=
  [0x6, 0xa, 0x1403]

theorem State.armKey_touch {W0 : List Nat} {s0 s : State} (h0 : Touch W0 s0 s) (hW : Sub State.armKey_cells W0) (req : Requester) (a : Nat) (v : Word) :
    Touch W0 s0 (State.armKey s req a v) := by
  have c_State_loseKey : Sub State.loseKey_cells W0 := Sub.trans (Sub.of rfl) hW
  have w1403 : 0x1403 ∈ W0 := hW.mem rfl
  unfold State.armKey
  repeat' first
    | with_reducible assumption
    | (extract_lets +onlyGivenNames xx; guard_hyp xx : State := _; refine Touch.cut (x := xx) ?_ ?_; (on_goal 2 => (intro hh; (try clear_value xx); revert xx; intro _ _)); any_goals (revert xx; intro _))
    | (extract_lets +onlyGivenNames xx; (try clear_value xx); revert xx; intro _)
    | with_reducible refine State.loseKey_touch ?_ c_State_loseKey _
    | with_reducible refine Touch.update ?_

def State.setRef_cells : List Nat :=
  [0x1000, 0x100c, 0x100d, 0x100e, 0x100f, 0x1403]

theorem State.setRef_touch {W0 : List Nat} {s0 s : State} (h0 : Touch W0 s0 s) (hW : Sub State.setRef_cells W0) :
    Touch W0 s0 (State.setRef s) := by
  have w1000 : Writes W0 R.CFG_STATUS := Or.inl (hW.mem rfl)
  have w100c : Writes W0 R.CFG_CRC_H := Or.inl (hW.mem rfl)
  have w100d : Writes W0 R.CFG_CRC_L := Or.inl (hW.mem rfl)
  have w100e : Writes W0 R.CFG_REF_H := Or.inl (hW.mem rfl)
  have w100f : Writes W0 R.CFG_REF_L := Or.inl (hW.mem rfl)
  have w1403 : 0x1403 ∈ W0 := hW.mem rfl
  unfold State.setRef
  repeat' first
    | with_reducible assumption
    | (extract_lets +onlyGivenNames xx; guard_hyp xx : State := _; refine Touch.cut (x := xx) ?_ ?_; (on_goal 2 => (intro hh; (try clear_value xx); revert xx; intro _ _)); any_goals (revert xx; intro _))
    | (extract_lets +onlyGivenNames xx; (try clear_value xx); revert xx; intro _)
    | with_reducible refine State.setFlag_touch ?_ _ _ ?_
    | (with_reducible intro k hk; (try simp only [List.length_cons, List.length_nil, List.length_map, List.length_range, List.length_replicate] at hk); interval_cases k)
    | with_reducible refine State.setGroup_touch _ _ _ _ ?_ ?_
    | with_reducible refine Touch.update ?_

end Sys2Proof.Machine
end

