-- ==== Sys2Proof/Laws/TouchPdOps.lean ====
section
/-!
SUPPORT. What each operation of Machine/PdOps.lean can do: the registers and parts of the state it may write, and nothing
else; the unit, its queue and the form of its stores are kept.
-/

-- proofs are elaborated one after another: many at once ask for more threads than a memory limit allows
set_option Elab.async false

set_option linter.unusedTactic false
set_option linter.unusedVariables false
set_option linter.unusedSimpArgs false
set_option linter.unreachableTactic false
set_option linter.tactic.unusedName false

namespace Sys2Proof.Machine

def State.pdSend_cells : List Nat :=
  [0x1412]

theorem State.pdSend_touch {W0 : List Nat} {s0 s : State} (h0 : Touch W0 s0 s) (hW : Sub State.pdSend_cells W0) (m : PdMsg) :
    Touch W0 s0 (State.pdSend s m) := by
  have w1412 : 0x1412 ∈ W0 := hW.mem rfl
  unfold State.pdSend
  repeat' first
    | with_reducible assumption
    | (extract_lets +onlyGivenNames xx; (try clear_value xx); revert xx; intro _)
    | with_reducible refine Touch.update ?_

def State.pdAsk_cells : List Nat :=
  [0x1412]

theorem State.pdAsk_touch {W0 : List Nat} {s0 s : State} (h0 : Touch W0 s0 s) (hW : Sub State.pdAsk_cells W0) (m : PdMsg) :
    Touch W0 s0 (State.pdAsk s m) := by
  have c_State_pdSend : Sub State.pdSend_cells W0 := Sub.trans (Sub.of rfl) hW
  have w1412 : 0x1412 ∈ W0 := hW.mem rfl
  unfold State.pdAsk
  repeat' first
    | with_reducible assumption
    | (extract_lets +onlyGivenNames xx; guard_hyp xx : State := _; refine Touch.cut (x := xx) ?_ ?_; (on_goal 2 => (intro hh; (try clear_value xx); revert xx; intro _ _)); any_goals (revert xx; intro _))
    | (extract_lets +onlyGivenNames xx; (try clear_value xx); revert xx; intro _)
    | with_reducible refine State.pdSend_touch ?_ c_State_pdSend _
    | with_reducible refine Touch.ite ?_ ?_
    | with_reducible refine Touch.update ?_

def State.pdRequest_cells : List Nat :=
  [0x1412]

theorem State.pdRequest_touch {W0 : List Nat} {s0 s : State} (h0 : Touch W0 s0 s) (hW : Sub State.pdRequest_cells W0) (r : PdReq) :
    Touch W0 s0 (State.pdRequest s r) := by
  have c_State_pdSend : Sub State.pdSend_cells W0 := Sub.trans (Sub.of rfl) hW
  have w1412 : 0x1412 ∈ W0 := hW.mem rfl
  unfold State.pdRequest
  repeat' first
    | with_reducible assumption
    | (extract_lets +onlyGivenNames xx; guard_hyp xx : State := _; refine Touch.cut (x := xx) ?_ ?_; (on_goal 2 => (intro hh; (try clear_value xx); revert xx; intro _ _)); any_goals (revert xx; intro _))
    | (extract_lets +onlyGivenNames xx; (try clear_value xx); revert xx; intro _)
    | with_reducible refine State.pdSend_touch ?_ c_State_pdSend _
    | with_reducible refine Touch.update ?_

def State.pdOwnRequest_cells : List Nat :=
  [0x1412]

theorem State.pdOwnRequest_touch {W0 : List Nat} {s0 s : State} (h0 : Touch W0 s0 s) (hW : Sub State.pdOwnRequest_cells W0) (r : PdReq) :
    Touch W0 s0 (State.pdOwnRequest s r) := by
  have c_State_pdRequest : Sub State.pdRequest_cells W0 := Sub.trans (Sub.of rfl) hW
  have w1412 : 0x1412 ∈ W0 := hW.mem rfl
  unfold State.pdOwnRequest
  repeat' first
    | with_reducible assumption
    | (extract_lets +onlyGivenNames xx; (try clear_value xx); revert xx; intro _)
    | with_reducible refine State.pdRequest_touch ?_ c_State_pdRequest _
    | with_reducible refine Touch.ite ?_ ?_
    | with_reducible refine Touch.update ?_

def State.pdAnswerCaps_cells : List Nat :=
  [0x1412]

theorem State.pdAnswerCaps_touch {W0 : List Nat} {s0 s : State} (h0 : Touch W0 s0 s) (hW : Sub State.pdAnswerCaps_cells W0) (fallback : Bool) :
    Touch W0 s0 (State.pdAnswerCaps s fallback) := by
  have c_State_pdRequest : Sub State.pdRequest_cells W0 := Sub.trans (Sub.of rfl) hW
  have w1412 : 0x1412 ∈ W0 := hW.mem rfl
  unfold State.pdAnswerCaps
  repeat' first
    | with_reducible assumption
    | (extract_lets +onlyGivenNames xx; (try clear_value xx); revert xx; intro _)
    | with_reducible refine State.pdRequest_touch ?_ c_State_pdRequest _
    | split
    | with_reducible refine Touch.update ?_

def State.pdReeval_cells : List Nat :=
  [0x1412]

theorem State.pdReeval_touch {W0 : List Nat} {s0 s : State} (h0 : Touch W0 s0 s) (hW : Sub State.pdReeval_cells W0) :
    Touch W0 s0 (State.pdReeval s) := by
  have c_State_pdOwnRequest : Sub State.pdOwnRequest_cells W0 := Sub.trans (Sub.of rfl) hW
  unfold State.pdReeval
  repeat' first
    | with_reducible assumption
    | with_reducible refine State.pdOwnRequest_touch ?_ c_State_pdOwnRequest _
    | with_reducible refine Touch.ite ?_ ?_
    | split

def State.pdAccepted_cells : List Nat :=
  [0xb01, 0xb18, 0x1407, 0x1412]

theorem State.pdAccepted_touch {W0 : List Nat} {s0 s : State} (h0 : Touch W0 s0 s) (hW : Sub State.pdAccepted_cells W0) (r : PdReq) :
    Touch W0 s0 (State.pdAccepted s r) := by
  have wb01 : Writes W0 R.PD_STATUS := Or.inl (hW.mem rfl)
  have wb18 : Writes W0 R.PD_LIMIT := Or.inl (hW.mem rfl)
  have w1407 : 0x1407 ∈ W0 := hW.mem rfl
  have w1412 : 0x1412 ∈ W0 := hW.mem rfl
  unfold State.pdAccepted
  repeat' first
    | with_reducible assumption
    | (extract_lets +onlyGivenNames xx; guard_hyp xx : State := _; refine Touch.cut (x := xx) ?_ ?_; (on_goal 2 => (intro hh; (try clear_value xx); revert xx; intro _ _)); any_goals (revert xx; intro _))
    | (extract_lets +onlyGivenNames xx; (try clear_value xx); revert xx; intro _)
    | with_reducible refine State.setFlag_touch ?_ _ _ ?_
    | with_reducible refine State.setReg_touch ?_ _ _ ?_
    | with_reducible refine Touch.ite ?_ ?_
    | with_reducible refine Touch.update ?_

def State.showContract_cells : List Nat :=
  [0xb01, 0xb14, 0xb15, 0xb16, 0xb17, 0xb18]

theorem State.showContract_touch {W0 : List Nat} {s0 s : State} (h0 : Touch W0 s0 s) (hW : Sub State.showContract_cells W0) (r : PdReq) :
    Touch W0 s0 (State.showContract s r) := by
  have wb01 : Writes W0 R.PD_STATUS := Or.inl (hW.mem rfl)
  have wb14 : Writes W0 R.PD_CONTRACT_V := Or.inl (hW.mem rfl)
  have wb15 : Writes W0 R.PD_CONTRACT_I := Or.inl (hW.mem rfl)
  have wb16 : Writes W0 R.PD_RDO_H := Or.inl (hW.mem rfl)
  have wb17 : Writes W0 R.PD_RDO_L := Or.inl (hW.mem rfl)
  have wb18 : Writes W0 R.PD_LIMIT := Or.inl (hW.mem rfl)
  unfold State.showContract
  repeat' first
    | with_reducible assumption
    | (extract_lets +onlyGivenNames xx; guard_hyp xx : State := _; refine Touch.cut (x := xx) ?_ ?_; (on_goal 2 => (intro hh; (try clear_value xx); revert xx; intro _ _)); any_goals (revert xx; intro _))
    | with_reducible refine State.setField_touch ?_ _ _ ?_
    | with_reducible refine State.setFlag_touch ?_ _ _ ?_
    | with_reducible refine State.setReg_touch ?_ _ _ ?_
    | (with_reducible intro k hk; (try simp only [List.length_cons, List.length_nil, List.length_map, List.length_range, List.length_replicate] at hk); interval_cases k)
    | with_reducible refine State.setGroup_touch _ _ _ _ ?_ ?_

def State.postContract_cells : List Nat :=
  [0xa01, 0xa32, 0x140f]

theorem State.postContract_touch {W0 : List Nat} {s0 s : State} (h0 : Touch W0 s0 s) (hW : Sub State.postContract_cells W0) (r : PdReq) :
    Touch W0 s0 (State.postContract s r) := by
  have c_State_post : Sub State.post_cells W0 := Sub.trans (Sub.of rfl) hW
  unfold State.postContract
  repeat' first
    | with_reducible assumption
    | with_reducible refine State.post_touch ?_ c_State_post _ _

def State.pdContract_cells : List Nat :=
  [0xa01, 0xa32, 0xb00, 0xb01, 0xb02, 0xb14, 0xb15, 0xb16, 0xb17, 0xb18, 0x1407, 0x140f, 0x1412]

theorem State.pdContract_touch {W0 : List Nat} {s0 s : State} (h0 : Touch W0 s0 s) (hW : Sub State.pdContract_cells W0) (r : PdReq) :
    Touch W0 s0 (State.pdContract s r) := by
  have c_State_showContract : Sub State.showContract_cells W0 := Sub.trans (Sub.of rfl) hW
  have c_State_refreshLimit : Sub State.refreshLimit_cells W0 := Sub.trans (Sub.of rfl) hW
  have c_State_postContract : Sub State.postContract_cells W0 := Sub.trans (Sub.of rfl) hW
  have wb02 : Writes W0 R.PD_EVENT := Or.inl (hW.mem rfl)
  have w1407 : 0x1407 ∈ W0 := hW.mem rfl
  have w1412 : 0x1412 ∈ W0 := hW.mem rfl
  unfold State.pdContract
  repeat' first
    | with_reducible assumption
    | (extract_lets +onlyGivenNames xx; guard_hyp xx : State := _; refine Touch.cut (x := xx) ?_ ?_; (on_goal 2 => (intro hh; (try clear_value xx); revert xx; intro _ _)); any_goals (revert xx; intro _))
    | (extract_lets +onlyGivenNames xx; (try clear_value xx); revert xx; intro _)
    | with_reducible refine State.showContract_touch ?_ c_State_showContract _
    | with_reducible refine State.refreshLimit_touch ?_ c_State_refreshLimit
    | with_reducible refine State.postContract_touch ?_ c_State_postContract _
    | with_reducible refine State.event_touch ?_ _ ?_
    | with_reducible refine Touch.ite ?_ ?_
    | with_reducible refine Touch.update ?_

def State.contractClear_cells : List Nat :=
  [0xb00, 0xb01, 0xb14, 0xb15, 0xb16, 0xb17, 0xb18, 0x1407, 0x1412]

theorem State.contractClear_touch {W0 : List Nat} {s0 s : State} (h0 : Touch W0 s0 s) (hW : Sub State.contractClear_cells W0) :
    Touch W0 s0 (State.contractClear s) := by
  have c_State_refreshLimit : Sub State.refreshLimit_cells W0 := Sub.trans (Sub.of rfl) hW
  have wb01 : Writes W0 R.PD_STATUS := Or.inl (hW.mem rfl)
  have wb14 : Writes W0 R.PD_CONTRACT_V := Or.inl (hW.mem rfl)
  have wb15 : Writes W0 R.PD_CONTRACT_I := Or.inl (hW.mem rfl)
  have wb16 : Writes W0 R.PD_RDO_H := Or.inl (hW.mem rfl)
  have wb17 : Writes W0 R.PD_RDO_L := Or.inl (hW.mem rfl)
  have w1407 : 0x1407 ∈ W0 := hW.mem rfl
  have w1412 : 0x1412 ∈ W0 := hW.mem rfl
  unfold State.contractClear
  repeat' first
    | with_reducible assumption
    | (extract_lets +onlyGivenNames xx; guard_hyp xx : State := _; refine Touch.cut (x := xx) ?_ ?_; (on_goal 2 => (intro hh; (try clear_value xx); revert xx; intro _ _)); any_goals (revert xx; intro _))
    | (extract_lets +onlyGivenNames xx; (try clear_value xx); revert xx; intro _)
    | with_reducible refine State.refreshLimit_touch ?_ c_State_refreshLimit
    | with_reducible refine State.setField_touch ?_ _ _ ?_
    | with_reducible refine State.setFlag_touch ?_ _ _ ?_
    | with_reducible refine State.setReg_touch ?_ _ _ ?_
    | (with_reducible intro k hk; (try simp only [List.length_cons, List.length_nil, List.length_map, List.length_range, List.length_replicate] at hk); interval_cases k)
    | with_reducible refine State.setGroup_touch _ _ _ _ ?_ ?_
    | with_reducible refine Touch.update ?_

def State.pdRefusal_cells : List Nat :=
  [0xa01, 0xa32, 0xb02, 0xb32, 0x140f, 0x1412]

theorem State.pdRefusal_touch {W0 : List Nat} {s0 s : State} (h0 : Touch W0 s0 s) (hW : Sub State.pdRefusal_cells W0) (r : PdReq) :
    Touch W0 s0 (State.pdRefusal s r) := by
  have c_State_tally : Sub State.tally_cells W0 := Sub.trans (Sub.of rfl) hW
  have c_State_pdRequest : Sub State.pdRequest_cells W0 := Sub.trans (Sub.of rfl) hW
  have wb02 : Writes W0 R.PD_EVENT := Or.inl (hW.mem rfl)
  have wb32 : Writes W0 R.PD_REFCNT := Or.inl (hW.mem rfl)
  have w1412 : 0x1412 ∈ W0 := hW.mem rfl
  unfold State.pdRefusal
  repeat' first
    | with_reducible assumption
    | (extract_lets +onlyGivenNames xx; guard_hyp xx : State := _; refine Touch.cut (x := xx) ?_ ?_; (on_goal 2 => (intro hh; (try clear_value xx); revert xx; intro _ _)); any_goals (revert xx; intro _))
    | (extract_lets +onlyGivenNames xx; (try clear_value xx); revert xx; intro _)
    | with_reducible refine State.tally_touch ?_ c_State_tally _
    | with_reducible refine State.pdRequest_touch ?_ c_State_pdRequest _
    | with_reducible refine State.bump_touch ?_ _ _ ?_
    | with_reducible refine State.event_touch ?_ _ ?_
    | with_reducible refine Touch.ite ?_ ?_
    | split
    | with_reducible refine Touch.update ?_

def State.pdNonPd_cells : List Nat :=
  [0xa01, 0xa32, 0xb01, 0xb02, 0x140f, 0x1412]

theorem State.pdNonPd_touch {W0 : List Nat} {s0 s : State} (h0 : Touch W0 s0 s) (hW : Sub State.pdNonPd_cells W0) :
    Touch W0 s0 (State.pdNonPd s) := by
  have c_State_post : Sub State.post_cells W0 := Sub.trans (Sub.of rfl) hW
  have wb01 : Writes W0 R.PD_STATUS := Or.inl (hW.mem rfl)
  have wb02 : Writes W0 R.PD_EVENT := Or.inl (hW.mem rfl)
  have w1412 : 0x1412 ∈ W0 := hW.mem rfl
  unfold State.pdNonPd
  repeat' first
    | with_reducible assumption
    | (extract_lets +onlyGivenNames xx; guard_hyp xx : State := _; refine Touch.cut (x := xx) ?_ ?_; (on_goal 2 => (intro hh; (try clear_value xx); revert xx; intro _ _)); any_goals (revert xx; intro _))
    | (extract_lets +onlyGivenNames xx; (try clear_value xx); revert xx; intro _)
    | with_reducible refine State.post_touch ?_ c_State_post _ _
    | with_reducible refine State.event_touch ?_ _ ?_
    | with_reducible refine State.setFlag_touch ?_ _ _ ?_
    | with_reducible refine Touch.ite ?_ ?_
    | with_reducible refine Touch.update ?_

def State.pdProtocolReset_cells : List Nat :=
  [0x2, 0x6, 0xa01, 0xa32, 0xb00, 0xb01, 0xb02, 0xb14, 0xb15, 0xb16, 0xb17, 0xb18, 0xc30, 0xc34, 0x1404, 0x1405,
   0x1407, 0x140c, 0x140f, 0x1412, 0x1413, 0x1418]

theorem State.pdProtocolReset_touch {W0 : List Nat} {s0 s : State} (h0 : Touch W0 s0 s) (hW : Sub State.pdProtocolReset_cells W0) :
    Touch W0 s0 (State.pdProtocolReset s) := by
  have c_State_contractClear : Sub State.contractClear_cells W0 := Sub.trans (Sub.of rfl) hW
  have c_State_svcModeEnd : Sub State.svcModeEnd_cells W0 := Sub.trans (Sub.of rfl) hW
  have c_State_refreshCc : Sub State.refreshCc_cells W0 := Sub.trans (Sub.of rfl) hW
  have w1412 : 0x1412 ∈ W0 := hW.mem rfl
  unfold State.pdProtocolReset
  repeat' first
    | with_reducible assumption
    | (extract_lets +onlyGivenNames xx; guard_hyp xx : State := _; refine Touch.cut (x := xx) ?_ ?_; (on_goal 2 => (intro hh; (try clear_value xx); revert xx; intro _ _)); any_goals (revert xx; intro _))
    | (extract_lets +onlyGivenNames xx; (try clear_value xx); revert xx; intro _)
    | with_reducible refine State.contractClear_touch ?_ c_State_contractClear
    | with_reducible refine State.svcModeEnd_touch ?_ c_State_svcModeEnd _
    | with_reducible refine State.refreshCc_touch ?_ c_State_refreshCc
    | with_reducible refine Touch.update ?_

def State.pdHardReset_cells : List Nat :=
  [0x2, 0x6, 0xa01, 0xa32, 0xb00, 0xb01, 0xb02, 0xb14, 0xb15, 0xb16, 0xb17, 0xb18, 0xb30, 0xc30, 0xc34, 0x1404,
   0x1405, 0x1407, 0x140c, 0x140f, 0x1412, 0x1413, 0x1418]

theorem State.pdHardReset_touch {W0 : List Nat} {s0 s : State} (h0 : Touch W0 s0 s) (hW : Sub State.pdHardReset_cells W0) (orig : Nat) (cause : Byte) :
    Touch W0 s0 (State.pdHardReset s orig cause) := by
  have c_State_pdProtocolReset : Sub State.pdProtocolReset_cells W0 := Sub.trans (Sub.of rfl) hW
  have c_State_post : Sub State.post_cells W0 := Sub.trans (Sub.of rfl) hW
  have wb02 : Writes W0 R.PD_EVENT := Or.inl (hW.mem rfl)
  have wb30 : Writes W0 R.PD_HRCNT := Or.inl (hW.mem rfl)
  have w1412 : 0x1412 ∈ W0 := hW.mem rfl
  unfold State.pdHardReset
  repeat' first
    | with_reducible assumption
    | (extract_lets +onlyGivenNames xx; guard_hyp xx : State := _; refine Touch.cut (x := xx) ?_ ?_; (on_goal 2 => (intro hh; (try clear_value xx); revert xx; intro _ _)); any_goals (revert xx; intro _))
    | (extract_lets +onlyGivenNames xx; (try clear_value xx); revert xx; intro _)
    | with_reducible refine State.pdProtocolReset_touch ?_ c_State_pdProtocolReset
    | with_reducible refine State.post_touch ?_ c_State_post _ _
    | with_reducible refine State.bump_touch ?_ _ _ ?_
    | with_reducible refine State.event_touch ?_ _ ?_
    | with_reducible refine Touch.update ?_

def State.pdSendHardReset_cells : List Nat :=
  [0x2, 0x6, 0xa01, 0xa32, 0xb00, 0xb01, 0xb02, 0xb14, 0xb15, 0xb16, 0xb17, 0xb18, 0xb30, 0xc30, 0xc34, 0x1404,
   0x1405, 0x1407, 0x140c, 0x140f, 0x1412, 0x1413, 0x1418]

theorem State.pdSendHardReset_touch {W0 : List Nat} {s0 s : State} (h0 : Touch W0 s0 s) (hW : Sub State.pdSendHardReset_cells W0) (cause : Nat) :
    Touch W0 s0 (State.pdSendHardReset s cause) := by
  have c_State_pdNonPd : Sub State.pdNonPd_cells W0 := Sub.trans (Sub.of rfl) hW
  have c_State_pdHardReset : Sub State.pdHardReset_cells W0 := Sub.trans (Sub.of rfl) hW
  unfold State.pdSendHardReset
  repeat' first
    | with_reducible assumption
    | with_reducible refine State.pdNonPd_touch ?_ c_State_pdNonPd
    | with_reducible refine State.pdHardReset_touch ?_ c_State_pdHardReset _ _
    | with_reducible refine Touch.ite ?_ ?_

def State.pdSoftReset_cells : List Nat :=
  [0xb01, 0x1412]

theorem State.pdSoftReset_touch {W0 : List Nat} {s0 s : State} (h0 : Touch W0 s0 s) (hW : Sub State.pdSoftReset_cells W0) :
    Touch W0 s0 (State.pdSoftReset s) := by
  have c_State_pdSend : Sub State.pdSend_cells W0 := Sub.trans (Sub.of rfl) hW
  have wb01 : Writes W0 R.PD_STATUS := Or.inl (hW.mem rfl)
  have w1412 : 0x1412 ∈ W0 := hW.mem rfl
  unfold State.pdSoftReset
  repeat' first
    | with_reducible assumption
    | (extract_lets +onlyGivenNames xx; guard_hyp xx : State := _; refine Touch.cut (x := xx) ?_ ?_; (on_goal 2 => (intro hh; (try clear_value xx); revert xx; intro _ _)); any_goals (revert xx; intro _))
    | (extract_lets +onlyGivenNames xx; (try clear_value xx); revert xx; intro _)
    | with_reducible refine State.pdSend_touch ?_ c_State_pdSend _
    | with_reducible refine State.setFlag_touch ?_ _ _ ?_
    | with_reducible refine Touch.update ?_

def State.pdReceive_cells : List Nat :=
  [0xa01, 0xa32, 0xb01, 0xb02, 0x140f, 0x1412]

theorem State.pdReceive_touch {W0 : List Nat} {s0 s : State} (h0 : Touch W0 s0 s) (hW : Sub State.pdReceive_cells W0) (h : PdHeader) (f : State → State) (hf : ∀ t, Touch W0 s0 t → Touch W0 s0 (f t)) :
    Touch W0 s0 (State.pdReceive s h f) := by
  have c_State_pdNonPd : Sub State.pdNonPd_cells W0 := Sub.trans (Sub.of rfl) hW
  have wb01 : Writes W0 R.PD_STATUS := Or.inl (hW.mem rfl)
  have w1412 : 0x1412 ∈ W0 := hW.mem rfl
  unfold State.pdReceive
  repeat' first
    | with_reducible assumption
    | (extract_lets +onlyGivenNames xx; guard_hyp xx : State := _; refine Touch.cut (x := xx) ?_ ?_; (on_goal 2 => (intro hh; (try clear_value xx); revert xx; intro _ _)); any_goals (revert xx; intro _))
    | (extract_lets +onlyGivenNames xx; (try clear_value xx); revert xx; intro _)
    | with_reducible refine State.pdNonPd_touch ?_ c_State_pdNonPd
    | with_reducible refine State.setFlag_touch ?_ _ _ ?_
    | with_reducible refine Touch.ite ?_ ?_
    | refine hf _ ?_
    | with_reducible refine Touch.update ?_

def State.pdIncoming_cells : List Nat :=
  [0x2, 0x6, 0xa01, 0xa32, 0xb00, 0xb01, 0xb02, 0xb14, 0xb15, 0xb16, 0xb17, 0xb18, 0xb30, 0xc30, 0xc34, 0x1404,
   0x1405, 0x1407, 0x140c, 0x140f, 0x1412, 0x1413, 0x1418]

theorem State.pdIncoming_touch {W0 : List Nat} {s0 s : State} (h0 : Touch W0 s0 s) (hW : Sub State.pdIncoming_cells W0) (h : PdHeader) (f : State → State) (hf : ∀ t, Touch W0 s0 t → Touch W0 s0 (f t)) :
    Touch W0 s0 (State.pdIncoming s h f) := by
  have c_State_pdReceive : Sub State.pdReceive_cells W0 := Sub.trans (Sub.of rfl) hW
  have c_State_pdSendHardReset : Sub State.pdSendHardReset_cells W0 := Sub.trans (Sub.of rfl) hW
  unfold State.pdIncoming
  repeat' first
    | with_reducible assumption
    | with_reducible refine State.pdReceive_touch ?_ c_State_pdReceive _ _ ?_
    | with_reducible refine State.pdSendHardReset_touch ?_ c_State_pdSendHardReset _
    | with_reducible refine Touch.ite ?_ ?_
    | with_reducible intro _ _
    | refine hf _ ?_

def State.fbReview_cells : List Nat :=
  [0x1412]

theorem State.fbReview_touch {W0 : List Nat} {s0 s : State} (h0 : Touch W0 s0 s) (hW : Sub State.fbReview_cells W0) :
    Touch W0 s0 (State.fbReview s) := by
  have c_State_pdAsk : Sub State.pdAsk_cells W0 := Sub.trans (Sub.of rfl) hW
  unfold State.fbReview
  repeat' first
    | with_reducible assumption
    | with_reducible refine State.pdAsk_touch ?_ c_State_pdAsk _
    | with_reducible refine Touch.ite ?_ ?_
    | split

def State.pdOwner_cells : List Nat :=
  [0xa01, 0xa32, 0xb01, 0xb02, 0xb12, 0x140f, 0x1412]

theorem State.pdOwner_touch {W0 : List Nat} {s0 s : State} (h0 : Touch W0 s0 s) (hW : Sub State.pdOwner_cells W0) (fw : Bool) (cause : Nat) :
    Touch W0 s0 (State.pdOwner s fw cause) := by
  have c_State_post : Sub State.post_cells W0 := Sub.trans (Sub.of rfl) hW
  have c_State_fbReview : Sub State.fbReview_cells W0 := Sub.trans (Sub.of rfl) hW
  have wb01 : Writes W0 R.PD_STATUS := Or.inl (hW.mem rfl)
  have wb02 : Writes W0 R.PD_EVENT := Or.inl (hW.mem rfl)
  have wb12 : Writes W0 R.PD_CTRL := Or.inl (hW.mem rfl)
  unfold State.pdOwner
  repeat' first
    | with_reducible assumption
    | (extract_lets +onlyGivenNames xx; guard_hyp xx : State := _; refine Touch.cut (x := xx) ?_ ?_; (on_goal 2 => (intro hh; (try clear_value xx); revert xx; intro _ _)); any_goals (revert xx; intro _))
    | with_reducible refine State.post_touch ?_ c_State_post _ _
    | with_reducible refine State.fbReview_touch ?_ c_State_fbReview
    | with_reducible refine State.event_touch ?_ _ ?_
    | with_reducible refine State.setFlag_touch ?_ _ _ ?_
    | with_reducible refine Touch.ite ?_ ?_

def State.vdmAnswer_cells : List Nat :=
  [0x1412]

theorem State.vdmAnswer_touch {W0 : List Nat} {s0 s : State} (h0 : Touch W0 s0 s) (hW : Sub State.vdmAnswer_cells W0) (svid : Nat) (pos : Nat) (cmd : Nat) (ack : Bool) (objs : List Nat) :
    Touch W0 s0 (State.vdmAnswer s svid pos cmd ack objs) := by
  have c_State_pdSend : Sub State.pdSend_cells W0 := Sub.trans (Sub.of rfl) hW
  unfold State.vdmAnswer
  repeat' first
    | with_reducible assumption
    | with_reducible refine State.pdSend_touch ?_ c_State_pdSend _

def State.svcModeStart_cells : List Nat :=
  [0xa01, 0xa32, 0xb01, 0xb02, 0x1404, 0x140f]

theorem State.svcModeStart_touch {W0 : List Nat} {s0 s : State} (h0 : Touch W0 s0 s) (hW : Sub State.svcModeStart_cells W0) :
    Touch W0 s0 (State.svcModeStart s) := by
  have c_State_refreshSbu : Sub State.refreshSbu_cells W0 := Sub.trans (Sub.of rfl) hW
  have c_State_post : Sub State.post_cells W0 := Sub.trans (Sub.of rfl) hW
  have wb01 : Writes W0 R.PD_STATUS := Or.inl (hW.mem rfl)
  have wb02 : Writes W0 R.PD_EVENT := Or.inl (hW.mem rfl)
  unfold State.svcModeStart
  repeat' first
    | with_reducible assumption
    | with_reducible refine State.refreshSbu_touch ?_ c_State_refreshSbu
    | with_reducible refine State.post_touch ?_ c_State_post _ _
    | with_reducible refine State.event_touch ?_ _ ?_
    | with_reducible refine State.setFlag_touch ?_ _ _ ?_
    | with_reducible refine Touch.ite ?_ ?_

end Sys2Proof.Machine
end

