-- ==== Sys2Proof/Laws/TouchBootOps.lean ====
section
/-!
SUPPORT. What each operation of Machine/BootOps.lean can do: the registers and parts of the state it may write, and nothing
else; the unit, its queue and the form of its stores are kept.
-/

-- proofs are elaborated one after another: many at once ask for more threads than a memory limit allows
set_option Elab.async false

set_option linter.unusedTactic false
set_option linter.unusedVariables false
set_option linter.unusedSimpArgs false
set_option linter.unreachableTactic false
set_option linter.tactic.unusedName false

namespace Sys2Proof.Machine

def State.safeMarket_cells : List Nat :=
  [0x601, 0x607, 0x608, 0x610, 0x611, 0x612, 0x613, 0x614, 0x615, 0x616, 0x617, 0xa01, 0xa32, 0x140a, 0x140b, 0x140f,
   0x1417]

theorem State.safeMarket_touch {W0 : List Nat} {s0 s : State} (h0 : Touch W0 s0 s) (hW : Sub State.safeMarket_cells W0) :
    Touch W0 s0 (State.safeMarket s) := by
  have c_State_dropInbid : Sub State.dropInbid_cells W0 := Sub.trans (Sub.of rfl) hW
  have c_State_stallBytes : Sub State.stallBytes_cells W0 := Sub.trans (Sub.of rfl) hW
  have c_State_dropBid : Sub State.dropBid_cells W0 := Sub.trans (Sub.of rfl) hW
  have c_State_clearDraws : Sub State.clearDraws_cells W0 := Sub.trans (Sub.of rfl) hW
  have w607 : Writes W0 R.MKT_OFFER_P := Or.inl (hW.mem rfl)
  have w608 : Writes W0 R.MKT_OFFER_FREE := Or.inl (hW.mem rfl)
  have w140a : 0x140a ∈ W0 := hW.mem rfl
  have w140b : 0x140b ∈ W0 := hW.mem rfl
  unfold State.safeMarket
  repeat' first
    | with_reducible assumption
    | (extract_lets +onlyGivenNames xx; guard_hyp xx : State := _; refine Touch.cut (x := xx) ?_ ?_; (on_goal 2 => (intro hh; (try clear_value xx); revert xx; intro _ _)); any_goals (revert xx; intro _))
    | (extract_lets +onlyGivenNames xx; (try clear_value xx); revert xx; intro _)
    | with_reducible refine State.dropInbid_touch ?_ c_State_dropInbid _ _
    | with_reducible refine State.stallBytes_touch ?_ c_State_stallBytes _ _ _
    | with_reducible refine State.dropBid_touch ?_ c_State_dropBid _ _
    | with_reducible refine State.clearDraws_touch ?_ c_State_clearDraws _
    | with_reducible refine State.setReg_touch ?_ _ _ ?_
    | with_reducible refine Touch.foldl ?_ ?_
    | with_reducible refine Touch.ite ?_ ?_
    | with_reducible intro _ _
    | with_reducible intro _
    | with_reducible refine Touch.update ?_

def State.enterSafe_cells : List Nat :=
  [0x2, 0x6, 0x100, 0x200, 0x300, 0x301, 0x31f, 0x400, 0x401, 0x40e, 0x40f, 0x601, 0x607, 0x608, 0x610, 0x611, 0x612,
   0x613, 0x614, 0x615, 0x616, 0x617, 0x801, 0x901, 0x90b, 0xa01, 0xa32, 0xc20, 0xc21, 0xc25, 0x1402, 0x1405, 0x1408,
   0x1409, 0x140a, 0x140b, 0x140c, 0x140d, 0x140f, 0x1411, 0x1413, 0x1415, 0x1417]

theorem State.enterSafe_touch {W0 : List Nat} {s0 s : State} (h0 : Touch W0 s0 s) (hW : Sub State.enterSafe_cells W0) (f : Flag) (cause : Nat) (w_f : Writes W0 f.reg) :
    Touch W0 s0 (State.enterSafe s f cause) := by
  have c_State_setPstate : Sub State.setPstate_cells W0 := Sub.trans (Sub.of rfl) hW
  have c_State_post : Sub State.post_cells W0 := Sub.trans (Sub.of rfl) hW
  have c_State_proofAbandon : Sub State.proofAbandon_cells W0 := Sub.trans (Sub.of rfl) hW
  have c_State_safeMarket : Sub State.safeMarket_cells W0 := Sub.trans (Sub.of rfl) hW
  have c_State_refreshChgOff : Sub State.refreshChgOff_cells W0 := Sub.trans (Sub.of rfl) hW
  have c_State_powerChanged : Sub State.powerChanged_cells W0 := Sub.trans (Sub.of rfl) hW
  have c_State_postFault : Sub State.postFault_cells W0 := Sub.trans (Sub.of rfl) hW
  have w6 : Writes W0 R.SYS_EVENT := Or.inl (hW.mem rfl)
  unfold State.enterSafe
  repeat' first
    | with_reducible assumption
    | (extract_lets +onlyGivenNames xx; guard_hyp xx : State := _; refine Touch.cut (x := xx) ?_ ?_; (on_goal 2 => (intro hh; (try clear_value xx); revert xx; intro _ _)); any_goals (revert xx; intro _))
    | with_reducible refine State.setPstate_touch ?_ c_State_setPstate _
    | with_reducible refine State.post_touch ?_ c_State_post _ _
    | with_reducible refine State.proofAbandon_touch ?_ c_State_proofAbandon _
    | with_reducible refine State.safeMarket_touch ?_ c_State_safeMarket
    | with_reducible refine State.refreshChgOff_touch ?_ c_State_refreshChgOff
    | with_reducible refine State.powerChanged_touch ?_ c_State_powerChanged
    | with_reducible refine State.postFault_touch ?_ c_State_postFault _ _
    | with_reducible refine State.event_touch ?_ _ ?_
    | with_reducible refine State.setFlag_touch ?_ _ _ ?_
    | with_reducible refine Touch.ite ?_ ?_

def State.leaveSafe_cells : List Nat :=
  [0x2, 0x6, 0x200, 0x300, 0x301, 0x31f, 0x401, 0x40f, 0xa01, 0xa32, 0x1408, 0x1409, 0x140f]

theorem State.leaveSafe_touch {W0 : List Nat} {s0 s : State} (h0 : Touch W0 s0 s) (hW : Sub State.leaveSafe_cells W0) :
    Touch W0 s0 (State.leaveSafe s) := by
  have c_State_setPstate : Sub State.setPstate_cells W0 := Sub.trans (Sub.of rfl) hW
  have c_State_refreshFeed : Sub State.refreshFeed_cells W0 := Sub.trans (Sub.of rfl) hW
  unfold State.leaveSafe
  repeat' first
    | with_reducible assumption
    | with_reducible refine State.setPstate_touch ?_ c_State_setPstate _
    | with_reducible refine State.refreshFeed_touch ?_ c_State_refreshFeed
    | with_reducible refine Touch.ite ?_ ?_

def State.resetRecord_cells : List Nat :=
  [0x3, 0xa01, 0xa32, 0x140f]

theorem State.resetRecord_touch {W0 : List Nat} {s0 s : State} (h0 : Touch W0 s0 s) (hW : Sub State.resetRecord_cells W0) (kind : Nat) (cause : Nat) (alarm : Bool) (proof : Bool) :
    Touch W0 s0 (State.resetRecord s kind cause alarm proof) := by
  have c_State_post : Sub State.post_cells W0 := Sub.trans (Sub.of rfl) hW
  have w3 : Writes W0 R.SYS_RSTCAUSE := Or.inl (hW.mem rfl)
  unfold State.resetRecord
  repeat' first
    | with_reducible assumption
    | (extract_lets +onlyGivenNames xx; guard_hyp xx : State := _; refine Touch.cut (x := xx) ?_ ?_; (on_goal 2 => (intro hh; (try clear_value xx); revert xx; intro _ _)); any_goals (revert xx; intro _))
    | with_reducible refine State.post_touch ?_ c_State_post _ _
    | with_reducible refine State.setReg_touch ?_ _ _ ?_

def State.chemDefaults_cells : List Nat :=
  [0x305, 0x30a]

theorem State.chemDefaults_touch {W0 : List Nat} {s0 s : State} (h0 : Touch W0 s0 s) (hW : Sub State.chemDefaults_cells W0) :
    Touch W0 s0 (State.chemDefaults s) := by
  have w305 : Writes W0 R.CHG_VREG := Or.inl (hW.mem rfl)
  have w30a : Writes W0 R.CHG_HWVREG := Or.inl (hW.mem rfl)
  unfold State.chemDefaults
  repeat' first
    | with_reducible assumption
    | with_reducible refine State.setReg_touch ?_ _ _ ?_

def State.strapRead_cells : List Nat :=
  [0x305, 0x30a, 0xa01, 0xa32, 0x1405, 0x140f]

theorem State.strapRead_touch {W0 : List Nat} {s0 s : State} (h0 : Touch W0 s0 s) (hW : Sub State.strapRead_cells W0) :
    Touch W0 s0 (State.strapRead s) := by
  have c_State_post : Sub State.post_cells W0 := Sub.trans (Sub.of rfl) hW
  have c_State_chemDefaults : Sub State.chemDefaults_cells W0 := Sub.trans (Sub.of rfl) hW
  have w1405 : 0x1405 ∈ W0 := hW.mem rfl
  unfold State.strapRead
  repeat' first
    | with_reducible assumption
    | (extract_lets +onlyGivenNames xx; guard_hyp xx : State := _; refine Touch.cut (x := xx) ?_ ?_; (on_goal 2 => (intro hh; (try clear_value xx); revert xx; intro _ _)); any_goals (revert xx; intro _))
    | (extract_lets +onlyGivenNames xx; guard_hyp xx : (Boot) := _; revert xx; intro _)
    | (extract_lets +onlyGivenNames xx; (try clear_value xx); revert xx; intro _)
    | with_reducible refine State.post_touch ?_ c_State_post _ _
    | with_reducible refine State.chemDefaults_touch ?_ c_State_chemDefaults
    | with_reducible refine Touch.ite ?_ ?_
    | with_reducible refine Touch.update ?_

def State.shipReset_cells : List Nat :=
  [0x6, 0xa01, 0xa32, 0xc20, 0xc21, 0xc25, 0x1405, 0x140d, 0x140f, 0x1413, 0x1415]

theorem State.shipReset_touch {W0 : List Nat} {s0 s : State} (h0 : Touch W0 s0 s) (hW : Sub State.shipReset_cells W0) :
    Touch W0 s0 (State.shipReset s) := by
  have c_State_shipRefuse : Sub State.shipRefuse_cells W0 := Sub.trans (Sub.of rfl) hW
  have c_State_shipDrop : Sub State.shipDrop_cells W0 := Sub.trans (Sub.of rfl) hW
  have w1405 : 0x1405 ∈ W0 := hW.mem rfl
  unfold State.shipReset
  repeat' first
    | with_reducible assumption
    | (extract_lets +onlyGivenNames xx; guard_hyp xx : State := _; refine Touch.cut (x := xx) ?_ ?_; (on_goal 2 => (intro hh; (try clear_value xx); revert xx; intro _ _)); any_goals (revert xx; intro _))
    | (extract_lets +onlyGivenNames xx; guard_hyp xx : (Boot) := _; revert xx; intro _)
    | with_reducible refine State.shipRefuse_touch ?_ c_State_shipRefuse _ _
    | with_reducible refine State.shipDrop_touch ?_ c_State_shipDrop
    | split
    | with_reducible refine Touch.update ?_

def State.writeLost_cells : List Nat :=
  [0xd18, 0x1000, 0x1404, 0x1405]

theorem State.writeLost_touch {W0 : List Nat} {s0 s : State} (h0 : Touch W0 s0 s) (hW : Sub State.writeLost_cells W0) :
    Touch W0 s0 (State.writeLost s) := by
  have wd18 : Writes W0 R.TWB_PORTC := Or.inl (hW.mem rfl)
  have w1000 : Writes W0 R.CFG_STATUS := Or.inl (hW.mem rfl)
  have w1404 : 0x1404 ∈ W0 := hW.mem rfl
  have w1405 : 0x1405 ∈ W0 := hW.mem rfl
  unfold State.writeLost
  repeat' first
    | with_reducible assumption
    | (extract_lets +onlyGivenNames xx; guard_hyp xx : (Boot) := _; revert xx; intro _)
    | (extract_lets +onlyGivenNames xx; (try clear_value xx); revert xx; intro _)
    | with_reducible refine State.setFlag_touch ?_ _ _ ?_
    | split
    | with_reducible refine Touch.update ?_

def State.firmwareLost_cells : List Nat :=
  [0xd18, 0x1000, 0x1404, 0x1405, 0x1409, 0x140b, 0x140c, 0x140d, 0x140f, 0x1410, 0x1413, 0x1418]

theorem State.firmwareLost_touch {W0 : List Nat} {s0 s : State} (h0 : Touch W0 s0 s) (hW : Sub State.firmwareLost_cells W0) :
    Touch W0 s0 (State.firmwareLost s) := by
  have c_State_writeLost : Sub State.writeLost_cells W0 := Sub.trans (Sub.of rfl) hW
  have w1405 : 0x1405 ∈ W0 := hW.mem rfl
  have w1409 : 0x1409 ∈ W0 := hW.mem rfl
  have w140b : 0x140b ∈ W0 := hW.mem rfl
  have w140c : 0x140c ∈ W0 := hW.mem rfl
  have w140d : 0x140d ∈ W0 := hW.mem rfl
  have w140f : 0x140f ∈ W0 := hW.mem rfl
  have w1410 : 0x1410 ∈ W0 := hW.mem rfl
  have w1413 : 0x1413 ∈ W0 := hW.mem rfl
  have w1418 : 0x1418 ∈ W0 := hW.mem rfl
  unfold State.firmwareLost
  repeat' first
    | with_reducible assumption
    | (extract_lets +onlyGivenNames xx; guard_hyp xx : State := _; refine Touch.cut (x := xx) ?_ ?_; (on_goal 2 => (intro hh; (try clear_value xx); revert xx; intro _ _)); any_goals (revert xx; intro _))
    | (extract_lets +onlyGivenNames xx; guard_hyp xx : (Boot) := _; revert xx; intro _)
    | (extract_lets +onlyGivenNames xx; guard_hyp xx : (Ledger) := _; revert xx; intro _)
    | (extract_lets +onlyGivenNames xx; (try clear_value xx); revert xx; intro _)
    | with_reducible refine State.writeLost_touch ?_ c_State_writeLost
    | with_reducible refine Touch.update ?_

def State.coldBase_cells : List Nat :=
  [0x1400, 0x1401, 0x1402, 0x1403, 0x1404, 0x1405, 0x1406, 0x1407, 0x1408, 0x1409, 0x140a, 0x140b, 0x140c, 0x140d,
   0x140e, 0x140f, 0x1410, 0x1411, 0x1412, 0x1413, 0x1414, 0x1415, 0x1416, 0x1417, 0x1418, 0x1430]

theorem State.coldBase_touch {W0 : List Nat} {s0 s : State} (h0 : Touch W0 s0 s) (hW : Sub State.coldBase_cells W0)
    (chemR addrR : Nat) : Touch W0 s0 (s.coldBase chemR addrR) := by
  refine h0.all hW rfl rfl fun hc => ?_
  simp only [State.canonical, Bool.and_eq_true] at hc ⊢
  exact ⟨⟨⟨regsWf_regPut _ _ _ rfl, hc.1.1.2⟩, hc.1.2⟩, rfl⟩

def State.peersFound_cells : List Nat :=
  [0x140b]

theorem State.peersFound_touch {W0 : List Nat} {s0 s : State} (h0 : Touch W0 s0 s) (hW : Sub State.peersFound_cells W0) :
    Touch W0 s0 (State.peersFound s) := by
  have w140b : 0x140b ∈ W0 := hW.mem rfl
  unfold State.peersFound
  repeat' first
    | with_reducible assumption
    | (extract_lets +onlyGivenNames xx; (try clear_value xx); revert xx; intro _)
    | with_reducible refine Touch.update ?_

def State.coldStart_cells : List Nat :=
  [0x3, 0x200, 0x305, 0x30a, 0x40b, 0x700, 0xa00, 0xa01, 0xa32, 0x1400, 0x1401, 0x1402, 0x1403, 0x1404, 0x1405,
   0x1406, 0x1407, 0x1408, 0x1409, 0x140a, 0x140b, 0x140c, 0x140d, 0x140e, 0x140f, 0x1410, 0x1411, 0x1412, 0x1413,
   0x1414, 0x1415, 0x1416, 0x1417, 0x1418, 0x1430]

theorem State.coldStart_touch {W0 : List Nat} {s0 s : State} (h0 : Touch W0 s0 s) (hW : Sub State.coldStart_cells W0) (cause : Nat) (chemR : Nat) (addrR : Nat) (bat : Nat) :
    Touch W0 s0 (State.coldStart s cause chemR addrR bat) := by
  have c_State_coldBase : Sub State.coldBase_cells W0 := Sub.trans (Sub.of rfl) hW
  have c_State_setChannels : Sub State.setChannels_cells W0 := Sub.trans (Sub.of rfl) hW
  have c_State_replay : Sub State.replay_cells W0 := Sub.trans (Sub.of rfl) hW
  have c_State_refreshCc : Sub State.refreshCc_cells W0 := Sub.trans (Sub.of rfl) hW
  have c_State_refreshBatfet : Sub State.refreshBatfet_cells W0 := Sub.trans (Sub.of rfl) hW
  have c_State_stallRepair : Sub State.stallRepair_cells W0 := Sub.trans (Sub.of rfl) hW
  have c_State_peersFound : Sub State.peersFound_cells W0 := Sub.trans (Sub.of rfl) hW
  have c_State_strapRead : Sub State.strapRead_cells W0 := Sub.trans (Sub.of rfl) hW
  have c_State_resetRecord : Sub State.resetRecord_cells W0 := Sub.trans (Sub.of rfl) hW
  have w40b : Writes W0 R.CONV_AUX := Or.inl (hW.mem rfl)
  have w1400 : 0x1400 ∈ W0 := hW.mem rfl
  have w1408 : 0x1408 ∈ W0 := hW.mem rfl
  have w1409 : 0x1409 ∈ W0 := hW.mem rfl
  have w140b : 0x140b ∈ W0 := hW.mem rfl
  unfold State.coldStart
  repeat' first
    | with_reducible assumption
    | (extract_lets +onlyGivenNames xx; guard_hyp xx : State := _; refine Touch.cut (x := xx) ?_ ?_; (on_goal 2 => (intro hh; (try clear_value xx); revert xx; intro _ _)); any_goals (revert xx; intro _))
    | (extract_lets +onlyGivenNames xx; (try clear_value xx); revert xx; intro _)
    | with_reducible refine State.coldBase_touch ?_ c_State_coldBase _ _
    | with_reducible refine State.setChannels_touch ?_ c_State_setChannels _ _
    | with_reducible refine State.replay_touch ?_ c_State_replay
    | with_reducible refine State.refreshCc_touch ?_ c_State_refreshCc
    | with_reducible refine State.refreshBatfet_touch ?_ c_State_refreshBatfet
    | with_reducible refine State.stallRepair_touch ?_ c_State_stallRepair _
    | with_reducible refine State.peersFound_touch ?_ c_State_peersFound
    | with_reducible refine State.strapRead_touch ?_ c_State_strapRead
    | with_reducible refine State.resetRecord_touch ?_ c_State_resetRecord _ _ _ _
    | with_reducible refine State.setField_touch ?_ _ _ ?_
    | with_reducible refine Touch.foldl ?_ ?_
    | with_reducible intro _ _
    | with_reducible intro _
    | with_reducible refine Touch.update ?_

def State.pdWarm_cells : List Nat :=
  [0x2, 0x6, 0xa01, 0xa32, 0xb01, 0xb02, 0xb12, 0xc30, 0xc34, 0x1404, 0x1405, 0x140c, 0x140f, 0x1412, 0x1413, 0x1418]

theorem State.pdWarm_touch {W0 : List Nat} {s0 s : State} (h0 : Touch W0 s0 s) (hW : Sub State.pdWarm_cells W0) :
    Touch W0 s0 (State.pdWarm s) := by
  have c_State_svcModeEnd : Sub State.svcModeEnd_cells W0 := Sub.trans (Sub.of rfl) hW
  have c_State_pdOwner : Sub State.pdOwner_cells W0 := Sub.trans (Sub.of rfl) hW
  have c_State_pdSoftReset : Sub State.pdSoftReset_cells W0 := Sub.trans (Sub.of rfl) hW
  have w1412 : 0x1412 ∈ W0 := hW.mem rfl
  unfold State.pdWarm
  repeat' first
    | with_reducible assumption
    | (extract_lets +onlyGivenNames xx; guard_hyp xx : State := _; refine Touch.cut (x := xx) ?_ ?_; (on_goal 2 => (intro hh; (try clear_value xx); revert xx; intro _ _)); any_goals (revert xx; intro _))
    | (extract_lets +onlyGivenNames xx; (try clear_value xx); revert xx; intro _)
    | with_reducible refine State.svcModeEnd_touch ?_ c_State_svcModeEnd _
    | with_reducible refine State.pdOwner_touch ?_ c_State_pdOwner _ _
    | with_reducible refine State.pdSoftReset_touch ?_ c_State_pdSoftReset
    | with_reducible refine Touch.ite ?_ ?_
    | with_reducible refine Touch.update ?_

def State.logicWarm_cells : List Nat :=
  [0x6, 0xa, 0x1403]

theorem State.logicWarm_touch {W0 : List Nat} {s0 s : State} (h0 : Touch W0 s0 s) (hW : Sub State.logicWarm_cells W0) :
    Touch W0 s0 (State.logicWarm s) := by
  have c_State_loseKey : Sub State.loseKey_cells W0 := Sub.trans (Sub.of rfl) hW
  have w1403 : 0x1403 ∈ W0 := hW.mem rfl
  unfold State.logicWarm
  repeat' first
    | with_reducible assumption
    | (extract_lets +onlyGivenNames xx; guard_hyp xx : State := _; refine Touch.cut (x := xx) ?_ ?_; (on_goal 2 => (intro hh; (try clear_value xx); revert xx; intro _ _)); any_goals (revert xx; intro _))
    | (extract_lets +onlyGivenNames xx; (try clear_value xx); revert xx; intro _)
    | with_reducible refine State.loseKey_touch ?_ c_State_loseKey _
    | with_reducible refine Touch.foldl ?_ ?_
    | with_reducible intro _ _
    | with_reducible intro _
    | with_reducible refine Touch.update ?_

def State.tdiscChange_cells : List Nat :=
  [0x1406]

theorem State.tdiscChange_touch {W0 : List Nat} {s0 s : State} (h0 : Touch W0 s0 s) (hW : Sub State.tdiscChange_cells W0) (old : Word) :
    Touch W0 s0 (State.tdiscChange s old) := by
  have w1406 : 0x1406 ∈ W0 := hW.mem rfl
  unfold State.tdiscChange
  repeat' first
    | with_reducible assumption
    | (extract_lets +onlyGivenNames xx; (try clear_value xx); revert xx; intro _)
    | with_reducible refine Touch.ite ?_ ?_
    | with_reducible refine Touch.update ?_

def State.warmRegs_cells : List Nat :=
  [0x300, 0x40b, 0x500, 0x1406, 0x1430]

theorem State.warmRegs_touch {W0 : List Nat} {s0 s : State} (h0 : Touch W0 s0 s) (hW : Sub State.warmRegs_cells W0) :
    Touch W0 s0 (State.warmRegs s) := by
  have c_State_tdiscChange : Sub State.tdiscChange_cells W0 := Sub.trans (Sub.of rfl) hW
  have w300 : Writes W0 R.CHG_STATUS := Or.inl (hW.mem rfl)
  have w40b : Writes W0 R.CONV_AUX := Or.inl (hW.mem rfl)
  have w500 : Writes W0 R.TET_STATUS := Or.inl (hW.mem rfl)
  have w1430 : 0x1430 ∈ W0 := hW.mem rfl
  unfold State.warmRegs
  repeat' first
    | with_reducible assumption
    | (extract_lets +onlyGivenNames xx; guard_hyp xx : State := _; refine Touch.cut (x := xx) ?_ ?_; (on_goal 2 => (intro hh; (try clear_value xx); revert xx; intro _ _)); any_goals (revert xx; intro _))
    | with_reducible refine State.tdiscChange_touch ?_ c_State_tdiscChange _
    | with_reducible refine State.restore_touch ?_ _ ?_
    | with_reducible refine State.setField_touch ?_ _ _ ?_
    | with_reducible refine State.setFlag_touch ?_ _ _ ?_
    | with_reducible refine State.setReg_touch ?_ _ _ ?_
    | with_reducible refine Touch.foldl ?_ ?_
    | with_reducible intro _ _
    | with_reducible intro _
    | exact Or.inr (by with_reducible assumption)

def State.warmReset_cells : List Nat :=
  [0x2, 0x3, 0x6, 0xa, 0x200, 0x300, 0x301, 0x305, 0x30a, 0x318, 0x31f, 0x400, 0x401, 0x405, 0x40b, 0x40f, 0x500,
   0x801, 0x901, 0x90b, 0xa00, 0xa01, 0xa32, 0xb00, 0xb01, 0xb02, 0xb12, 0xb18, 0xc00, 0xc06, 0xc20, 0xc21, 0xc25,
   0xc30, 0xc34, 0xd18, 0xe00, 0xe14, 0x1000, 0x1400, 0x1402, 0x1403, 0x1404, 0x1405, 0x1406, 0x1407, 0x1408, 0x1409,
   0x140a, 0x140b, 0x140c, 0x140d, 0x140f, 0x1410, 0x1411, 0x1412, 0x1413, 0x1414, 0x1415, 0x1416, 0x1417, 0x1418,
   0x1430]

theorem State.warmReset_touch {W0 : List Nat} {s0 s : State} (h0 : Touch W0 s0 s) (hW : Sub State.warmReset_cells W0) (cause : Nat) :
    Touch W0 s0 (State.warmReset s cause) := by
  have c_State_proofAbandon : Sub State.proofAbandon_cells W0 := Sub.trans (Sub.of rfl) hW
  have c_State_svcClose : Sub State.svcClose_cells W0 := Sub.trans (Sub.of rfl) hW
  have c_State_shipReset : Sub State.shipReset_cells W0 := Sub.trans (Sub.of rfl) hW
  have c_State_usbOff : Sub State.usbOff_cells W0 := Sub.trans (Sub.of rfl) hW
  have c_State_pdWarm : Sub State.pdWarm_cells W0 := Sub.trans (Sub.of rfl) hW
  have c_State_writeBackAll : Sub State.writeBackAll_cells W0 := Sub.trans (Sub.of rfl) hW
  have c_State_firmwareLost : Sub State.firmwareLost_cells W0 := Sub.trans (Sub.of rfl) hW
  have c_State_targetRestored : Sub State.targetRestored_cells W0 := Sub.trans (Sub.of rfl) hW
  have c_State_warmRegs : Sub State.warmRegs_cells W0 := Sub.trans (Sub.of rfl) hW
  have c_State_logicWarm : Sub State.logicWarm_cells W0 := Sub.trans (Sub.of rfl) hW
  have c_State_strapRead : Sub State.strapRead_cells W0 := Sub.trans (Sub.of rfl) hW
  have c_State_refreshCc : Sub State.refreshCc_cells W0 := Sub.trans (Sub.of rfl) hW
  have c_State_stallRebuild : Sub State.stallRebuild_cells W0 := Sub.trans (Sub.of rfl) hW
  have c_State_chgOff : Sub State.chgOff_cells W0 := Sub.trans (Sub.of rfl) hW
  have c_State_silenceOver : Sub State.silenceOver_cells W0 := Sub.trans (Sub.of rfl) hW
  have c_State_resetRecord : Sub State.resetRecord_cells W0 := Sub.trans (Sub.of rfl) hW
  have c_State_alarmRederive : Sub State.alarmRederive_cells W0 := Sub.trans (Sub.of rfl) hW
  have wa00 : Writes W0 R.LGR_STATUS := Or.inl (hW.mem rfl)
  have we14 : Writes W0 R.CLK_PWD := Or.inl (hW.mem rfl)
  have w1400 : 0x1400 ∈ W0 := hW.mem rfl
  have w1404 : 0x1404 ∈ W0 := hW.mem rfl
  have w1405 : 0x1405 ∈ W0 := hW.mem rfl
  have w1407 : 0x1407 ∈ W0 := hW.mem rfl
  have w1409 : 0x1409 ∈ W0 := hW.mem rfl
  have w140a : 0x140a ∈ W0 := hW.mem rfl
  have w140f : 0x140f ∈ W0 := hW.mem rfl
  have w1411 : 0x1411 ∈ W0 := hW.mem rfl
  have w1413 : 0x1413 ∈ W0 := hW.mem rfl
  have w1414 : 0x1414 ∈ W0 := hW.mem rfl
  have w1415 : 0x1415 ∈ W0 := hW.mem rfl
  have w1416 : 0x1416 ∈ W0 := hW.mem rfl
  have w1418 : 0x1418 ∈ W0 := hW.mem rfl
  unfold State.warmReset
  repeat' first
    | with_reducible assumption
    | (extract_lets +onlyGivenNames xx; guard_hyp xx : State := _; refine Touch.cut (x := xx) ?_ ?_; (on_goal 2 => (intro hh; (try clear_value xx); revert xx; intro _ _)); any_goals (revert xx; intro _))
    | (extract_lets +onlyGivenNames xx; guard_hyp xx : (Ledger) := _; revert xx; intro _)
    | (extract_lets +onlyGivenNames xx; (try clear_value xx); revert xx; intro _)
    | with_reducible refine State.proofAbandon_touch ?_ c_State_proofAbandon _
    | with_reducible refine State.svcClose_touch ?_ c_State_svcClose _
    | with_reducible refine State.shipReset_touch ?_ c_State_shipReset
    | with_reducible refine State.usbOff_touch ?_ c_State_usbOff
    | with_reducible refine State.pdWarm_touch ?_ c_State_pdWarm
    | with_reducible refine State.writeBackAll_touch ?_ c_State_writeBackAll
    | with_reducible refine State.firmwareLost_touch ?_ c_State_firmwareLost
    | with_reducible refine State.targetRestored_touch ?_ c_State_targetRestored
    | with_reducible refine State.warmRegs_touch ?_ c_State_warmRegs
    | with_reducible refine State.logicWarm_touch ?_ c_State_logicWarm
    | with_reducible refine State.strapRead_touch ?_ c_State_strapRead
    | with_reducible refine State.refreshCc_touch ?_ c_State_refreshCc
    | with_reducible refine State.stallRebuild_touch ?_ c_State_stallRebuild
    | with_reducible refine State.chgOff_touch ?_ c_State_chgOff
    | with_reducible refine State.silenceOver_touch ?_ c_State_silenceOver
    | with_reducible refine State.resetRecord_touch ?_ c_State_resetRecord _ _ _ _
    | with_reducible refine State.alarmRederive_touch ?_ c_State_alarmRederive
    | with_reducible refine State.setFlag_touch ?_ _ _ ?_
    | with_reducible refine State.setReg_touch ?_ _ _ ?_
    | with_reducible refine Touch.ite ?_ ?_
    | refine Touch.update (h_stage := Or.inr ⟨rfl, by assumption⟩) ?_

def State.coreStop_cells : List Nat :=
  [0x2, 0x6, 0x100, 0x200, 0x300, 0x301, 0x318, 0x31f, 0x400, 0x401, 0x405, 0x40e, 0x40f, 0x801, 0x901, 0x90b, 0xa01,
   0xa32, 0xb01, 0xb02, 0xb12, 0xc20, 0xc21, 0xc25, 0xc30, 0xc34, 0xd18, 0x1000, 0x1402, 0x1403, 0x1404, 0x1405,
   0x1408, 0x1409, 0x140b, 0x140c, 0x140d, 0x140f, 0x1410, 0x1411, 0x1412, 0x1413, 0x1415, 0x1418, 0x1430]

theorem State.coreStop_touch {W0 : List Nat} {s0 s : State} (h0 : Touch W0 s0 s) (hW : Sub State.coreStop_cells W0) :
    Touch W0 s0 (State.coreStop s) := by
  have c_State_proofAbandon : Sub State.proofAbandon_cells W0 := Sub.trans (Sub.of rfl) hW
  have c_State_svcClose : Sub State.svcClose_cells W0 := Sub.trans (Sub.of rfl) hW
  have c_State_shipReset : Sub State.shipReset_cells W0 := Sub.trans (Sub.of rfl) hW
  have c_State_pdOwner : Sub State.pdOwner_cells W0 := Sub.trans (Sub.of rfl) hW
  have c_State_firmwareLost : Sub State.firmwareLost_cells W0 := Sub.trans (Sub.of rfl) hW
  have c_State_targetRestored : Sub State.targetRestored_cells W0 := Sub.trans (Sub.of rfl) hW
  have c_State_dropKey : Sub State.dropKey_cells W0 := Sub.trans (Sub.of rfl) hW
  have c_State_refreshLimited : Sub State.refreshLimited_cells W0 := Sub.trans (Sub.of rfl) hW
  have c_State_powerChanged : Sub State.powerChanged_cells W0 := Sub.trans (Sub.of rfl) hW
  have c_State_chgFigures : Sub State.chgFigures_cells W0 := Sub.trans (Sub.of rfl) hW
  have w140d : 0x140d ∈ W0 := hW.mem rfl
  have w1430 : 0x1430 ∈ W0 := hW.mem rfl
  unfold State.coreStop
  repeat' first
    | with_reducible assumption
    | (extract_lets +onlyGivenNames xx; guard_hyp xx : State := _; refine Touch.cut (x := xx) ?_ ?_; (on_goal 2 => (intro hh; (try clear_value xx); revert xx; intro _ _)); any_goals (revert xx; intro _))
    | (extract_lets +onlyGivenNames xx; (try clear_value xx); revert xx; intro _)
    | with_reducible refine State.proofAbandon_touch ?_ c_State_proofAbandon _
    | with_reducible refine State.svcClose_touch ?_ c_State_svcClose _
    | with_reducible refine State.shipReset_touch ?_ c_State_shipReset
    | with_reducible refine State.pdOwner_touch ?_ c_State_pdOwner _ _
    | with_reducible refine State.firmwareLost_touch ?_ c_State_firmwareLost
    | with_reducible refine State.targetRestored_touch ?_ c_State_targetRestored
    | with_reducible refine State.dropKey_touch ?_ c_State_dropKey _
    | with_reducible refine State.refreshLimited_touch ?_ c_State_refreshLimited
    | with_reducible refine State.powerChanged_touch ?_ c_State_powerChanged
    | with_reducible refine State.chgFigures_touch ?_ c_State_chgFigures
    | with_reducible refine State.restore_touch ?_ _ ?_
    | with_reducible refine Touch.update ?_

def State.coreReset_cells : List Nat :=
  [0x2, 0x3, 0x6, 0x100, 0x200, 0x300, 0x301, 0x318, 0x31f, 0x400, 0x401, 0x405, 0x40e, 0x40f, 0x801, 0x901, 0x90b,
   0xa01, 0xa32, 0xb01, 0xb02, 0xb12, 0xc20, 0xc21, 0xc25, 0xc30, 0xc34, 0xd18, 0x1000, 0x1402, 0x1403, 0x1404,
   0x1405, 0x1408, 0x1409, 0x140b, 0x140c, 0x140d, 0x140f, 0x1410, 0x1411, 0x1412, 0x1413, 0x1415, 0x1418, 0x1430]

theorem State.coreReset_touch {W0 : List Nat} {s0 s : State} (h0 : Touch W0 s0 s) (hW : Sub State.coreReset_cells W0) (cause : Nat) :
    Touch W0 s0 (State.coreReset s cause) := by
  have c_State_coreStop : Sub State.coreStop_cells W0 := Sub.trans (Sub.of rfl) hW
  have c_State_resetRecord : Sub State.resetRecord_cells W0 := Sub.trans (Sub.of rfl) hW
  have c_State_alarmRederive : Sub State.alarmRederive_cells W0 := Sub.trans (Sub.of rfl) hW
  have w1405 : 0x1405 ∈ W0 := hW.mem rfl
  unfold State.coreReset
  repeat' first
    | with_reducible assumption
    | (extract_lets +onlyGivenNames xx; guard_hyp xx : State := _; refine Touch.cut (x := xx) ?_ ?_; (on_goal 2 => (intro hh; (try clear_value xx); revert xx; intro _ _)); any_goals (revert xx; intro _))
    | (extract_lets +onlyGivenNames xx; guard_hyp xx : (Boot) := _; revert xx; intro _)
    | (extract_lets +onlyGivenNames xx; (try clear_value xx); revert xx; intro _)
    | with_reducible refine State.coreStop_touch ?_ c_State_coreStop
    | with_reducible refine State.resetRecord_touch ?_ c_State_resetRecord _ _ _ _
    | with_reducible refine State.alarmRederive_touch ?_ c_State_alarmRederive
    | with_reducible refine Touch.update ?_

def State.setCopy_cells : List Nat :=
  [0x1405]

theorem State.setCopy_touch {W0 : List Nat} {s0 s : State} (h0 : Touch W0 s0 s) (hW : Sub State.setCopy_cells W0) (x : AB) (c : CopyInfo) :
    Touch W0 s0 (State.setCopy s x c) := by
  have w1405 : 0x1405 ∈ W0 := hW.mem rfl
  unfold State.setCopy
  repeat' first
    | with_reducible assumption
    | (extract_lets +onlyGivenNames xx; guard_hyp xx : (Boot) := _; revert xx; intro _)
    | split
    | with_reducible refine Touch.update ?_

def State.copyDegraded_cells : List Nat :=
  [0xa01, 0xa32, 0x1000, 0x1001, 0x1405, 0x140f]

theorem State.copyDegraded_touch {W0 : List Nat} {s0 s : State} (h0 : Touch W0 s0 s) (hW : Sub State.copyDegraded_cells W0) (x : AB) (why : Nat) :
    Touch W0 s0 (State.copyDegraded s x why) := by
  have c_State_setCopy : Sub State.setCopy_cells W0 := Sub.trans (Sub.of rfl) hW
  have c_State_cfgBit : Sub State.cfgBit_cells W0 := fun _ h => nomatch h
  have c_State_post : Sub State.post_cells W0 := Sub.trans (Sub.of rfl) hW
  have w1000 : Writes W0 R.CFG_STATUS := Or.inl (hW.mem rfl)
  have w1001 : Writes W0 R.CFG_EVENT := Or.inl (hW.mem rfl)
  unfold State.copyDegraded
  repeat' first
    | with_reducible assumption
    | (extract_lets +onlyGivenNames xx; guard_hyp xx : State := _; refine Touch.cut (x := xx) ?_ ?_; (on_goal 2 => (intro hh; (try clear_value xx); revert xx; intro _ _)); any_goals (revert xx; intro _))
    | (extract_lets +onlyGivenNames xx; (try clear_value xx); revert xx; intro _)
    | with_reducible refine State.setCopy_touch ?_ c_State_setCopy _ _
    | with_reducible refine State.cfgBit_touch ?_ c_State_cfgBit _ _ _ ?_ ?_
    | with_reducible refine State.post_touch ?_ c_State_post _ _

def State.imageEnd_cells : List Nat :=
  [0xa01, 0xa32, 0xd18, 0x1000, 0x1001, 0x1404, 0x1405, 0x140f]

theorem State.imageEnd_touch {W0 : List Nat} {s0 s : State} (h0 : Touch W0 s0 s) (hW : Sub State.imageEnd_cells W0) (w : ImageWrite) (result : Nat) :
    Touch W0 s0 (State.imageEnd s w result) := by
  have c_State_post : Sub State.post_cells W0 := Sub.trans (Sub.of rfl) hW
  have c_State_cfgBit : Sub State.cfgBit_cells W0 := fun _ h => nomatch h
  have wd18 : Writes W0 R.TWB_PORTC := Or.inl (hW.mem rfl)
  have w1000 : Writes W0 R.CFG_STATUS := Or.inl (hW.mem rfl)
  have w1001 : Writes W0 R.CFG_EVENT := Or.inl (hW.mem rfl)
  have w1404 : 0x1404 ∈ W0 := hW.mem rfl
  have w1405 : 0x1405 ∈ W0 := hW.mem rfl
  unfold State.imageEnd
  repeat' first
    | with_reducible assumption
    | (extract_lets +onlyGivenNames xx; guard_hyp xx : State := _; refine Touch.cut (x := xx) ?_ ?_; (on_goal 2 => (intro hh; (try clear_value xx); revert xx; intro _ _)); any_goals (revert xx; intro _))
    | (extract_lets +onlyGivenNames xx; guard_hyp xx : (Boot) := _; revert xx; intro _)
    | (extract_lets +onlyGivenNames xx; (try clear_value xx); revert xx; intro _)
    | with_reducible refine State.post_touch ?_ c_State_post _ _
    | with_reducible refine State.cfgBit_touch ?_ c_State_cfgBit _ _ _ ?_ ?_
    | with_reducible refine State.event_touch ?_ _ ?_
    | with_reducible refine State.setFlag_touch ?_ _ _ ?_
    | with_reducible refine Touch.ite ?_ ?_
    | with_reducible refine Touch.update ?_

def State.hwdChange_cells : List Nat :=
  [0xe00, 0x1410]

theorem State.hwdChange_touch {W0 : List Nat} {s0 s : State} (h0 : Touch W0 s0 s) (hW : Sub State.hwdChange_cells W0) (old : Word) :
    Touch W0 s0 (State.hwdChange s old) := by
  have we00 : Writes W0 R.CLK_STATUS := Or.inl (hW.mem rfl)
  have w1410 : 0x1410 ∈ W0 := hW.mem rfl
  unfold State.hwdChange
  repeat' first
    | with_reducible assumption
    | (extract_lets +onlyGivenNames xx; guard_hyp xx : State := _; refine Touch.cut (x := xx) ?_ ?_; (on_goal 2 => (intro hh; (try clear_value xx); revert xx; intro _ _)); any_goals (revert xx; intro _))
    | (extract_lets +onlyGivenNames xx; (try clear_value xx); revert xx; intro _)
    | with_reducible refine State.setFlag_touch ?_ _ _ ?_
    | with_reducible refine Touch.ite ?_ ?_
    | with_reducible refine Touch.update ?_

def State.xtalChange_cells : List Nat :=
  [0xe00, 0x1410]

theorem State.xtalChange_touch {W0 : List Nat} {s0 s : State} (h0 : Touch W0 s0 s) (hW : Sub State.xtalChange_cells W0) (old : Word) :
    Touch W0 s0 (State.xtalChange s old) := by
  have we00 : Writes W0 R.CLK_STATUS := Or.inl (hW.mem rfl)
  have w1410 : 0x1410 ∈ W0 := hW.mem rfl
  unfold State.xtalChange
  repeat' first
    | with_reducible assumption
    | (extract_lets +onlyGivenNames xx; guard_hyp xx : State := _; refine Touch.cut (x := xx) ?_ ?_; (on_goal 2 => (intro hh; (try clear_value xx); revert xx; intro _ _)); any_goals (revert xx; intro _))
    | (extract_lets +onlyGivenNames xx; (try clear_value xx); revert xx; intro _)
    | with_reducible refine State.setField_touch ?_ _ _ ?_
    | with_reducible refine State.setFlag_touch ?_ _ _ ?_
    | with_reducible refine Touch.ite ?_ ?_
    | with_reducible refine Touch.update ?_

def State.configMoved_cells : List Nat :=
  [0x2, 0x6, 0x100, 0x101, 0x114, 0x200, 0x300, 0x301, 0x31f, 0x400, 0x401, 0x405, 0x40e, 0x40f, 0x500, 0x700, 0xa01,
   0xa32, 0xb00, 0xb18, 0xc00, 0xc06, 0xc20, 0xc21, 0xc25, 0xe00, 0x1405, 0x1407, 0x1408, 0x1409, 0x140d, 0x140f,
   0x1413, 0x1414, 0x1415]

theorem State.configMoved_touch {W0 : List Nat} {s0 s : State} (h0 : Touch W0 s0 s) (hW : Sub State.configMoved_cells W0) :
    Touch W0 s0 (State.configMoved s) := by
  have c_State_refreshHsw : Sub State.refreshHsw_cells W0 := Sub.trans (Sub.of rfl) hW
  have c_State_refreshHorn : Sub State.refreshHorn_cells W0 := Sub.trans (Sub.of rfl) hW
  have c_State_enablesChanged : Sub State.enablesChanged_cells W0 := Sub.trans (Sub.of rfl) hW
  have c_State_refreshLimited : Sub State.refreshLimited_cells W0 := Sub.trans (Sub.of rfl) hW
  have c_State_chgFigures : Sub State.chgFigures_cells W0 := Sub.trans (Sub.of rfl) hW
  have c_State_refreshChgOff : Sub State.refreshChgOff_cells W0 := Sub.trans (Sub.of rfl) hW
  have c_State_usbRefresh : Sub State.usbRefresh_cells W0 := Sub.trans (Sub.of rfl) hW
  have c_State_refreshLimit : Sub State.refreshLimit_cells W0 := Sub.trans (Sub.of rfl) hW
  unfold State.configMoved
  repeat' first
    | with_reducible assumption
    | (extract_lets +onlyGivenNames xx; guard_hyp xx : State := _; refine Touch.cut (x := xx) ?_ ?_; (on_goal 2 => (intro hh; (try clear_value xx); revert xx; intro _ _)); any_goals (revert xx; intro _))
    | with_reducible refine State.refreshHsw_touch ?_ c_State_refreshHsw
    | with_reducible refine State.refreshHorn_touch ?_ c_State_refreshHorn
    | with_reducible refine State.enablesChanged_touch ?_ c_State_enablesChanged
    | with_reducible refine State.refreshLimited_touch ?_ c_State_refreshLimited
    | with_reducible refine State.chgFigures_touch ?_ c_State_chgFigures
    | with_reducible refine State.refreshChgOff_touch ?_ c_State_refreshChgOff
    | with_reducible refine State.usbRefresh_touch ?_ c_State_usbRefresh
    | with_reducible refine State.refreshLimit_touch ?_ c_State_refreshLimit

def State.imageStepDone_cells : List Nat :=
  [0xd18, 0x1000, 0x100c, 0x100d, 0x100e, 0x100f, 0x1400, 0x1403, 0x1405, 0x1416]

theorem State.imageStepDone_touch {W0 : List Nat} {s0 s : State} (h0 : Touch W0 s0 s) (hW : Sub State.imageStepDone_cells W0) :
    Touch W0 s0 (State.imageStepDone s) := by
  have c_State_setRef : Sub State.setRef_cells W0 := Sub.trans (Sub.of rfl) hW
  have c_State_twbLatch : Sub State.twbLatch_cells W0 := Sub.trans (Sub.of rfl) hW
  have wd18 : Writes W0 R.TWB_PORTC := Or.inl (hW.mem rfl)
  have w1400 : 0x1400 ∈ W0 := hW.mem rfl
  have w1405 : 0x1405 ∈ W0 := hW.mem rfl
  unfold State.imageStepDone
  repeat' first
    | with_reducible assumption
    | (extract_lets +onlyGivenNames xx; guard_hyp xx : State := _; refine Touch.cut (x := xx) ?_ ?_; (on_goal 2 => (intro hh; (try clear_value xx); revert xx; intro _ _)); any_goals (revert xx; intro _))
    | (extract_lets +onlyGivenNames xx; guard_hyp xx : (Boot) := _; revert xx; intro _)
    | with_reducible refine State.setRef_touch ?_ c_State_setRef
    | with_reducible refine State.twbLatch_touch ?_ c_State_twbLatch
    | with_reducible refine State.setFlag_touch ?_ _ _ ?_
    | with_reducible refine Touch.update ?_

def State.configCleared_cells : List Nat :=
  [0x1430]

theorem State.configCleared_touch {W0 : List Nat} {s0 s : State} (h0 : Touch W0 s0 s) (hW : Sub State.configCleared_cells W0) :
    Touch W0 s0 s.configCleared :=
  h0.regs (fun _ _ hn => absurd (hW.mem rfl) hn) (fun hl => regsWf_filter _ _ hl)

def State.configDefaults_cells : List Nat :=
  [0x305, 0x30a, 0x40b, 0x1430]

theorem State.configDefaults_touch {W0 : List Nat} {s0 s : State} (h0 : Touch W0 s0 s) (hW : Sub State.configDefaults_cells W0) :
    Touch W0 s0 (State.configDefaults s) := by
  have c_State_configCleared : Sub State.configCleared_cells W0 := Sub.trans (Sub.of rfl) hW
  have c_State_chemDefaults : Sub State.chemDefaults_cells W0 := Sub.trans (Sub.of rfl) hW
  have w40b : Writes W0 R.CONV_AUX := Or.inl (hW.mem rfl)
  unfold State.configDefaults
  repeat' first
    | with_reducible assumption
    | (extract_lets +onlyGivenNames xx; guard_hyp xx : State := _; refine Touch.cut (x := xx) ?_ ?_; (on_goal 2 => (intro hh; (try clear_value xx); revert xx; intro _ _)); any_goals (revert xx; intro _))
    | with_reducible refine State.configCleared_touch ?_ c_State_configCleared
    | with_reducible refine State.chemDefaults_touch ?_ c_State_chemDefaults
    | with_reducible refine State.setField_touch ?_ _ _ ?_

def State.levelLatch_cells : List Nat :=
  [0x500, 0x140a]

theorem State.levelLatch_touch {W0 : List Nat} {s0 s : State} (h0 : Touch W0 s0 s) (hW : Sub State.levelLatch_cells W0) :
    Touch W0 s0 (State.levelLatch s) := by
  have w500 : Writes W0 R.TET_STATUS := Or.inl (hW.mem rfl)
  have w140a : 0x140a ∈ W0 := hW.mem rfl
  unfold State.levelLatch
  repeat' first
    | with_reducible assumption
    | (extract_lets +onlyGivenNames xx; guard_hyp xx : State := _; refine Touch.cut (x := xx) ?_ ?_; (on_goal 2 => (intro hh; (try clear_value xx); revert xx; intro _ _)); any_goals (revert xx; intro _))
    | (extract_lets +onlyGivenNames xx; (try clear_value xx); revert xx; intro _)
    | with_reducible refine State.setFlag_touch ?_ _ _ ?_
    | with_reducible refine Touch.update ?_

def State.imageAddr_cells : List Nat :=
  [0x500, 0x504, 0xa01, 0xa32, 0x140a, 0x140b, 0x140f, 0x1417]

theorem State.imageAddr_touch {W0 : List Nat} {s0 s : State} (h0 : Touch W0 s0 s) (hW : Sub State.imageAddr_cells W0) (a : Nat) :
    Touch W0 s0 (State.imageAddr s a) := by
  have c_State_holdAddr : Sub State.holdAddr_cells W0 := Sub.trans (Sub.of rfl) hW
  have w504 : Writes W0 R.TET_ADDR := Or.inl (hW.mem rfl)
  have w140a : 0x140a ∈ W0 := hW.mem rfl
  unfold State.imageAddr
  repeat' first
    | with_reducible assumption
    | (extract_lets +onlyGivenNames xx; guard_hyp xx : State := _; refine Touch.cut (x := xx) ?_ ?_; (on_goal 2 => (intro hh; (try clear_value xx); revert xx; intro _ _)); any_goals (revert xx; intro _))
    | (extract_lets +onlyGivenNames xx; (try clear_value xx); revert xx; intro _)
    | with_reducible refine State.holdAddr_touch ?_ c_State_holdAddr _
    | with_reducible refine State.setFlag_touch ?_ _ _ ?_
    | with_reducible refine Touch.ite ?_ ?_
    | with_reducible refine Touch.update ?_

def State.imageApply_cells : List Nat :=
  [0x2, 0x5, 0x6, 0x100, 0x101, 0x114, 0x200, 0x300, 0x301, 0x305, 0x30a, 0x31f, 0x400, 0x401, 0x405, 0x40b, 0x40e,
   0x40f, 0x500, 0x501, 0x504, 0x601, 0x607, 0x608, 0x610, 0x611, 0x612, 0x613, 0x614, 0x615, 0x616, 0x617, 0x700,
   0x801, 0x901, 0x90b, 0xa01, 0xa32, 0xb00, 0xb18, 0xc00, 0xc06, 0xc20, 0xc21, 0xc25, 0xd18, 0xe00, 0x1000, 0x1003,
   0x100a, 0x100b, 0x100c, 0x100d, 0x100e, 0x100f, 0x1400, 0x1402, 0x1403, 0x1404, 0x1405, 0x1406, 0x1407, 0x1408,
   0x1409, 0x140a, 0x140b, 0x140c, 0x140d, 0x140f, 0x1410, 0x1411, 0x1413, 0x1414, 0x1415, 0x1416, 0x1417, 0x1430]

theorem State.imageApply_touch {W0 : List Nat} {s0 s : State} (h0 : Touch W0 s0 s) (hW : Sub State.imageApply_cells W0) (x : AB) (h : List Byte) (body : List Byte) :
    Touch W0 s0 (State.imageApply s x h body) := by
  have c_State_setCopy : Sub State.setCopy_cells W0 := Sub.trans (Sub.of rfl) hW
  have c_State_configDefaults : Sub State.configDefaults_cells W0 := Sub.trans (Sub.of rfl) hW
  have c_State_imageStepDone : Sub State.imageStepDone_cells W0 := Sub.trans (Sub.of rfl) hW
  have c_State_hwdChange : Sub State.hwdChange_cells W0 := Sub.trans (Sub.of rfl) hW
  have c_State_tdiscChange : Sub State.tdiscChange_cells W0 := Sub.trans (Sub.of rfl) hW
  have c_State_xtalChange : Sub State.xtalChange_cells W0 := Sub.trans (Sub.of rfl) hW
  have c_State_enterSafe : Sub State.enterSafe_cells W0 := Sub.trans (Sub.of rfl) hW
  have c_State_levelLatch : Sub State.levelLatch_cells W0 := Sub.trans (Sub.of rfl) hW
  have c_State_vauxApply : Sub State.vauxApply_cells W0 := Sub.trans (Sub.of rfl) hW
  have c_State_imageAddr : Sub State.imageAddr_cells W0 := Sub.trans (Sub.of rfl) hW
  have c_State_configMoved : Sub State.configMoved_cells W0 := Sub.trans (Sub.of rfl) hW
  have c_State_chgDetect : Sub State.chgDetect_cells W0 := Sub.trans (Sub.of rfl) hW
  have c_State_txBegin : Sub State.txBegin_cells W0 := Sub.trans (Sub.of rfl) hW
  have c_State_postFault : Sub State.postFault_cells W0 := Sub.trans (Sub.of rfl) hW
  have w5 : Writes W0 R.SYS_SAFECAUSE := Or.inl (hW.mem rfl)
  have w1000 : Writes W0 R.CFG_STATUS := Or.inl (hW.mem rfl)
  have w1003 : Writes W0 R.CFG_INFO := Or.inl (hW.mem rfl)
  have w100a : Writes W0 R.CFG_GEN_H := Or.inl (hW.mem rfl)
  have w100b : Writes W0 R.CFG_GEN_L := Or.inl (hW.mem rfl)
  have w1403 : 0x1403 ∈ W0 := hW.mem rfl
  have w1405 : 0x1405 ∈ W0 := hW.mem rfl
  have w1407 : 0x1407 ∈ W0 := hW.mem rfl
  have w1408 : 0x1408 ∈ W0 := hW.mem rfl
  have w1430 : 0x1430 ∈ W0 := hW.mem rfl
  unfold State.imageApply
  repeat' first
    | with_reducible assumption
    | (extract_lets +onlyGivenNames xx; guard_hyp xx : State := _; refine Touch.cut (x := xx) ?_ ?_; (on_goal 2 => (intro hh; (try clear_value xx); revert xx; intro _ _)); any_goals (revert xx; intro _))
    | (extract_lets +onlyGivenNames xx; guard_hyp xx : (Boot) := _; revert xx; intro _)
    | (extract_lets +onlyGivenNames xx; (try clear_value xx); revert xx; intro _)
    | with_reducible refine State.setCopy_touch ?_ c_State_setCopy _ _
    | with_reducible refine State.configDefaults_touch ?_ c_State_configDefaults
    | with_reducible refine State.imageStepDone_touch ?_ c_State_imageStepDone
    | with_reducible refine State.hwdChange_touch ?_ c_State_hwdChange _
    | with_reducible refine State.tdiscChange_touch ?_ c_State_tdiscChange _
    | with_reducible refine State.xtalChange_touch ?_ c_State_xtalChange _
    | with_reducible refine State.enterSafe_touch ?_ c_State_enterSafe _ _ ?_
    | with_reducible refine State.levelLatch_touch ?_ c_State_levelLatch
    | with_reducible refine State.vauxApply_touch ?_ c_State_vauxApply
    | with_reducible refine State.imageAddr_touch ?_ c_State_imageAddr _
    | with_reducible refine State.configMoved_touch ?_ c_State_configMoved
    | with_reducible refine State.chgDetect_touch ?_ c_State_chgDetect
    | with_reducible refine State.txBegin_touch ?_ c_State_txBegin
    | with_reducible refine State.postFault_touch ?_ c_State_postFault _ _
    | with_reducible refine State.setFlag_touch ?_ _ _ ?_
    | with_reducible refine State.setReg_touch ?_ _ _ ?_
    | with_reducible refine Touch.foldl ?_ ?_
    | with_reducible refine Touch.ite ?_ ?_
    | (with_reducible intro k hk; (try simp only [List.length_cons, List.length_nil, List.length_map, List.length_range, List.length_replicate] at hk); interval_cases k)
    | with_reducible intro _ _
    | with_reducible intro _
    | exact Or.inr (by with_reducible assumption)
    | with_reducible refine State.setGroup_touch _ _ _ _ ?_ ?_
    | with_reducible refine Touch.update ?_

def State.copyNamed_cells : List Nat :=
  [0xa01, 0xa32, 0x1000, 0x1001, 0x1405, 0x140f]

theorem State.copyNamed_touch {W0 : List Nat} {s0 s : State} (h0 : Touch W0 s0 s) (hW : Sub State.copyNamed_cells W0) (x : AB) :
    Touch W0 s0 (State.copyNamed s x) := by
  have c_State_copyDegraded : Sub State.copyDegraded_cells W0 := Sub.trans (Sub.of rfl) hW
  unfold State.copyNamed
  repeat' first
    | with_reducible assumption
    | with_reducible refine State.copyDegraded_touch ?_ c_State_copyDegraded _ _
    | with_reducible refine Touch.ite ?_ ?_

def State.copyLost_cells : List Nat :=
  [0xa01, 0xa32, 0x1000, 0x1001, 0x1405, 0x140f]

theorem State.copyLost_touch {W0 : List Nat} {s0 s : State} (h0 : Touch W0 s0 s) (hW : Sub State.copyLost_cells W0) (d : Nat) (x : AB) :
    Touch W0 s0 (State.copyLost s d x) := by
  have c_State_copyDegraded : Sub State.copyDegraded_cells W0 := Sub.trans (Sub.of rfl) hW
  unfold State.copyLost
  repeat' first
    | with_reducible assumption
    | with_reducible refine State.copyDegraded_touch ?_ c_State_copyDegraded _ _
    | with_reducible refine Touch.ite ?_ ?_

def State.deviceLost_cells : List Nat :=
  [0xa01, 0xa32, 0x1000, 0x1001, 0x1405, 0x140f]

theorem State.deviceLost_touch {W0 : List Nat} {s0 s : State} (h0 : Touch W0 s0 s) (hW : Sub State.deviceLost_cells W0) (d : Nat) :
    Touch W0 s0 (State.deviceLost s d) := by
  have c_State_copyLost : Sub State.copyLost_cells W0 := Sub.trans (Sub.of rfl) hW
  unfold State.deviceLost
  repeat' first
    | with_reducible assumption
    | with_reducible refine State.copyLost_touch ?_ c_State_copyLost _ _

def State.noValidImage_cells : List Nat :=
  [0x2, 0x5, 0x6, 0x100, 0x101, 0x114, 0x200, 0x300, 0x301, 0x305, 0x30a, 0x31f, 0x400, 0x401, 0x405, 0x40b, 0x40e,
   0x40f, 0x500, 0x601, 0x607, 0x608, 0x610, 0x611, 0x612, 0x613, 0x614, 0x615, 0x616, 0x617, 0x700, 0x801, 0x901,
   0x90b, 0xa01, 0xa32, 0xb00, 0xb18, 0xc00, 0xc06, 0xc20, 0xc21, 0xc25, 0xd18, 0xe00, 0x1000, 0x1001, 0x1003, 0x100a,
   0x100b, 0x100c, 0x100d, 0x100e, 0x100f, 0x1400, 0x1402, 0x1403, 0x1405, 0x1407, 0x1408, 0x1409, 0x140a, 0x140b,
   0x140c, 0x140d, 0x140f, 0x1411, 0x1413, 0x1414, 0x1415, 0x1416, 0x1417, 0x1430]

theorem State.noValidImage_touch {W0 : List Nat} {s0 s : State} (h0 : Touch W0 s0 s) (hW : Sub State.noValidImage_cells W0) :
    Touch W0 s0 (State.noValidImage s) := by
  have c_State_copyNamed : Sub State.copyNamed_cells W0 := Sub.trans (Sub.of rfl) hW
  have c_State_configDefaults : Sub State.configDefaults_cells W0 := Sub.trans (Sub.of rfl) hW
  have c_State_imageStepDone : Sub State.imageStepDone_cells W0 := Sub.trans (Sub.of rfl) hW
  have c_State_levelLatch : Sub State.levelLatch_cells W0 := Sub.trans (Sub.of rfl) hW
  have c_State_enterSafe : Sub State.enterSafe_cells W0 := Sub.trans (Sub.of rfl) hW
  have c_State_configMoved : Sub State.configMoved_cells W0 := Sub.trans (Sub.of rfl) hW
  have w5 : Writes W0 R.SYS_SAFECAUSE := Or.inl (hW.mem rfl)
  have w1000 : Writes W0 R.CFG_STATUS := Or.inl (hW.mem rfl)
  have w1003 : Writes W0 R.CFG_INFO := Or.inl (hW.mem rfl)
  have w100a : Writes W0 R.CFG_GEN_H := Or.inl (hW.mem rfl)
  have w100b : Writes W0 R.CFG_GEN_L := Or.inl (hW.mem rfl)
  have w1405 : 0x1405 ∈ W0 := hW.mem rfl
  have w1407 : 0x1407 ∈ W0 := hW.mem rfl
  have w140a : 0x140a ∈ W0 := hW.mem rfl
  unfold State.noValidImage
  repeat' first
    | with_reducible assumption
    | (extract_lets +onlyGivenNames xx; guard_hyp xx : State := _; refine Touch.cut (x := xx) ?_ ?_; (on_goal 2 => (intro hh; (try clear_value xx); revert xx; intro _ _)); any_goals (revert xx; intro _))
    | (extract_lets +onlyGivenNames xx; guard_hyp xx : (Boot) := _; revert xx; intro _)
    | (extract_lets +onlyGivenNames xx; (try clear_value xx); revert xx; intro _)
    | with_reducible refine State.copyNamed_touch ?_ c_State_copyNamed _
    | with_reducible refine State.configDefaults_touch ?_ c_State_configDefaults
    | with_reducible refine State.imageStepDone_touch ?_ c_State_imageStepDone
    | with_reducible refine State.levelLatch_touch ?_ c_State_levelLatch
    | with_reducible refine State.enterSafe_touch ?_ c_State_enterSafe _ _ ?_
    | with_reducible refine State.configMoved_touch ?_ c_State_configMoved
    | with_reducible refine State.setFlag_touch ?_ _ _ ?_
    | with_reducible refine State.setReg_touch ?_ _ _ ?_
    | with_reducible refine Touch.ite ?_ ?_
    | (with_reducible intro k hk; (try simp only [List.length_cons, List.length_nil, List.length_map, List.length_range, List.length_replicate] at hk); interval_cases k)
    | with_reducible refine State.setGroup_touch _ _ _ _ ?_ ?_
    | with_reducible refine Touch.update ?_

def State.startRead_cells : List Nat :=
  [0xd18, 0x1405]

theorem State.startRead_touch {W0 : List Nat} {s0 s : State} (h0 : Touch W0 s0 s) (hW : Sub State.startRead_cells W0) (x : AB) :
    Touch W0 s0 (State.startRead s x) := by
  have wd18 : Writes W0 R.TWB_PORTC := Or.inl (hW.mem rfl)
  have w1405 : 0x1405 ∈ W0 := hW.mem rfl
  unfold State.startRead
  repeat' first
    | with_reducible assumption
    | (extract_lets +onlyGivenNames xx; guard_hyp xx : (Boot) := _; revert xx; intro _)
    | with_reducible refine State.setFlag_touch ?_ _ _ ?_
    | with_reducible refine Touch.update ?_

def State.tryOther_cells : List Nat :=
  [0x2, 0x5, 0x6, 0x100, 0x101, 0x114, 0x200, 0x300, 0x301, 0x305, 0x30a, 0x31f, 0x400, 0x401, 0x405, 0x40b, 0x40e,
   0x40f, 0x500, 0x601, 0x607, 0x608, 0x610, 0x611, 0x612, 0x613, 0x614, 0x615, 0x616, 0x617, 0x700, 0x801, 0x901,
   0x90b, 0xa01, 0xa32, 0xb00, 0xb18, 0xc00, 0xc06, 0xc20, 0xc21, 0xc25, 0xd18, 0xe00, 0x1000, 0x1001, 0x1003, 0x100a,
   0x100b, 0x100c, 0x100d, 0x100e, 0x100f, 0x1400, 0x1402, 0x1403, 0x1405, 0x1407, 0x1408, 0x1409, 0x140a, 0x140b,
   0x140c, 0x140d, 0x140f, 0x1411, 0x1413, 0x1414, 0x1415, 0x1416, 0x1417, 0x1430]

theorem State.tryOther_touch {W0 : List Nat} {s0 s : State} (h0 : Touch W0 s0 s) (hW : Sub State.tryOther_cells W0) (x : AB) :
    Touch W0 s0 (State.tryOther s x) := by
  have c_State_startRead : Sub State.startRead_cells W0 := Sub.trans (Sub.of rfl) hW
  have c_State_noValidImage : Sub State.noValidImage_cells W0 := Sub.trans (Sub.of rfl) hW
  unfold State.tryOther
  repeat' first
    | with_reducible assumption
    | (extract_lets +onlyGivenNames xx; (try clear_value xx); revert xx; intro _)
    | with_reducible refine State.startRead_touch ?_ c_State_startRead _
    | with_reducible refine State.noValidImage_touch ?_ c_State_noValidImage
    | with_reducible refine Touch.ite ?_ ?_

def State.copyFailed_cells : List Nat :=
  [0x2, 0x5, 0x6, 0x100, 0x101, 0x114, 0x200, 0x300, 0x301, 0x305, 0x30a, 0x31f, 0x400, 0x401, 0x405, 0x40b, 0x40e,
   0x40f, 0x500, 0x601, 0x607, 0x608, 0x610, 0x611, 0x612, 0x613, 0x614, 0x615, 0x616, 0x617, 0x700, 0x801, 0x901,
   0x90b, 0xa01, 0xa32, 0xb00, 0xb18, 0xc00, 0xc06, 0xc20, 0xc21, 0xc25, 0xd18, 0xe00, 0x1000, 0x1001, 0x1003, 0x100a,
   0x100b, 0x100c, 0x100d, 0x100e, 0x100f, 0x1400, 0x1402, 0x1403, 0x1405, 0x1407, 0x1408, 0x1409, 0x140a, 0x140b,
   0x140c, 0x140d, 0x140f, 0x1411, 0x1413, 0x1414, 0x1415, 0x1416, 0x1417, 0x1430]

theorem State.copyFailed_touch {W0 : List Nat} {s0 s : State} (h0 : Touch W0 s0 s) (hW : Sub State.copyFailed_cells W0) (x : AB) (why : Nat) :
    Touch W0 s0 (State.copyFailed s x why) := by
  have c_State_copyDegraded : Sub State.copyDegraded_cells W0 := Sub.trans (Sub.of rfl) hW
  have c_State_tryOther : Sub State.tryOther_cells W0 := Sub.trans (Sub.of rfl) hW
  unfold State.copyFailed
  repeat' first
    | with_reducible assumption
    | with_reducible refine State.copyDegraded_touch ?_ c_State_copyDegraded _ _
    | with_reducible refine State.tryOther_touch ?_ c_State_tryOther _

def State.chooseCopy_cells : List Nat :=
  [0x2, 0x5, 0x6, 0x100, 0x101, 0x114, 0x200, 0x300, 0x301, 0x305, 0x30a, 0x31f, 0x400, 0x401, 0x405, 0x40b, 0x40e,
   0x40f, 0x500, 0x601, 0x607, 0x608, 0x610, 0x611, 0x612, 0x613, 0x614, 0x615, 0x616, 0x617, 0x700, 0x801, 0x901,
   0x90b, 0xa01, 0xa32, 0xb00, 0xb18, 0xc00, 0xc06, 0xc20, 0xc21, 0xc25, 0xd18, 0xe00, 0x1000, 0x1001, 0x1003, 0x100a,
   0x100b, 0x100c, 0x100d, 0x100e, 0x100f, 0x1400, 0x1402, 0x1403, 0x1405, 0x1407, 0x1408, 0x1409, 0x140a, 0x140b,
   0x140c, 0x140d, 0x140f, 0x1411, 0x1413, 0x1414, 0x1415, 0x1416, 0x1417, 0x1430]

theorem State.chooseCopy_touch {W0 : List Nat} {s0 s : State} (h0 : Touch W0 s0 s) (hW : Sub State.chooseCopy_cells W0) :
    Touch W0 s0 (State.chooseCopy s) := by
  have c_State_startRead : Sub State.startRead_cells W0 := Sub.trans (Sub.of rfl) hW
  have c_State_noValidImage : Sub State.noValidImage_cells W0 := Sub.trans (Sub.of rfl) hW
  unfold State.chooseCopy
  repeat' first
    | with_reducible assumption
    | with_reducible refine State.startRead_touch ?_ c_State_startRead _
    | with_reducible refine State.noValidImage_touch ?_ c_State_noValidImage
    | split

def State.trySlots_cells : List Nat :=
  [0xa01, 0xa32, 0x140f]

theorem State.trySlots_touch {W0 : List Nat} {s0 s : State} (h0 : Touch W0 s0 s) (hW : Sub State.trySlots_cells W0)
    (l : List AB) : Touch W0 s0 (s.trySlots l).1 := by
  induction l generalizing s with
  | nil => exact h0
  | cons x l ih =>
    unfold State.trySlots
    split
    · exact h0
    · exact ih (State.post_touch h0 (Sub.trans (Sub.of rfl) hW) _ _)

theorem State.trySlots_touch_eq {W0 : List Nat} {s0 s t : State} {b : Option AB} (h0 : Touch W0 s0 s)
    (hW : Sub State.trySlots_cells W0) (l : List AB) (e : s.trySlots l = (t, b)) : Touch W0 s0 t := by
  have := State.trySlots_touch h0 hW l
  rwa [e] at this

def State.postStart_cells : List Nat :=
  [0xa01, 0xa32, 0x140f]

theorem State.postStart_touch {W0 : List Nat} {s0 s : State} (h0 : Touch W0 s0 s) (hW : Sub State.postStart_cells W0) (slot : Option AB) :
    Touch W0 s0 (State.postStart s slot) := by
  have c_State_post : Sub State.post_cells W0 := Sub.trans (Sub.of rfl) hW
  unfold State.postStart
  repeat' first
    | with_reducible assumption
    | (extract_lets +onlyGivenNames xx; (try clear_value xx); revert xx; intro _)
    | with_reducible refine State.post_touch ?_ c_State_post _ _

def State.testsRestore_cells : List Nat :=
  [0x140c]

theorem State.testsRestore_touch {W0 : List Nat} {s0 s : State} (h0 : Touch W0 s0 s) (hW : Sub State.testsRestore_cells W0) :
    Touch W0 s0 (State.testsRestore s) := by
  have w140c : 0x140c ∈ W0 := hW.mem rfl
  unfold State.testsRestore
  repeat' first
    | with_reducible assumption
    | (extract_lets +onlyGivenNames xx; (try clear_value xx); revert xx; intro _)
    | split
    | with_reducible refine Touch.update ?_

def State.verdictRestore_cells : List Nat :=
  [0x900, 0x910, 0x140c]

theorem State.verdictRestore_touch {W0 : List Nat} {s0 s : State} (h0 : Touch W0 s0 s) (hW : Sub State.verdictRestore_cells W0) :
    Touch W0 s0 (State.verdictRestore s) := by
  have c_State_testsRestore : Sub State.testsRestore_cells W0 := Sub.trans (Sub.of rfl) hW
  have w900 : Writes W0 R.VDT_STATUS := Or.inl (hW.mem rfl)
  have w910 : Writes W0 R.VDT_ZBASE := Or.inl (hW.mem rfl)
  unfold State.verdictRestore
  repeat' first
    | with_reducible assumption
    | (extract_lets +onlyGivenNames xx; guard_hyp xx : State := _; refine Touch.cut (x := xx) ?_ ?_; (on_goal 2 => (intro hh; (try clear_value xx); revert xx; intro _ _)); any_goals (revert xx; intro _))
    | with_reducible refine State.testsRestore_touch ?_ c_State_testsRestore
    | with_reducible refine State.setField_touch ?_ _ _ ?_
    | with_reducible refine State.setFlag_touch ?_ _ _ ?_
    | with_reducible refine State.setReg_touch ?_ _ _ ?_
    | with_reducible refine Touch.ite ?_ ?_
    | split
    | with_reducible refine Touch.update ?_

def State.firmwareStart_cells : List Nat :=
  [0x407, 0x501, 0x601, 0x607, 0x608, 0x900, 0x901, 0x910, 0xa01, 0xa32, 0x140a, 0x140b, 0x140c, 0x140f, 0x1417]

theorem State.firmwareStart_touch {W0 : List Nat} {s0 s : State} (h0 : Touch W0 s0 s) (hW : Sub State.firmwareStart_cells W0) :
    Touch W0 s0 (State.firmwareStart s) := by
  have c_State_verdictRestore : Sub State.verdictRestore_cells W0 := Sub.trans (Sub.of rfl) hW
  have c_State_note : Sub State.note_cells W0 := Sub.trans (Sub.of rfl) hW
  have c_State_marketRestart : Sub State.marketRestart_cells W0 := Sub.trans (Sub.of rfl) hW
  unfold State.firmwareStart
  repeat' first
    | with_reducible assumption
    | (extract_lets +onlyGivenNames xx; guard_hyp xx : State := _; refine Touch.cut (x := xx) ?_ ?_; (on_goal 2 => (intro hh; (try clear_value xx); revert xx; intro _ _)); any_goals (revert xx; intro _))
    | with_reducible refine State.verdictRestore_touch ?_ c_State_verdictRestore
    | with_reducible refine State.note_touch ?_ c_State_note _ _ _ _
    | with_reducible refine State.marketRestart_touch ?_ c_State_marketRestart
    | with_reducible refine Touch.ite ?_ ?_

def State.startSlot_cells : List Nat :=
  [0x4, 0xc30, 0xe00, 0x1405, 0x1410, 0x1413]

theorem State.startSlot_touch {W0 : List Nat} {s0 s : State} (h0 : Touch W0 s0 s) (hW : Sub State.startSlot_cells W0) (x : AB) :
    Touch W0 s0 (State.startSlot s x) := by
  have w4 : Writes W0 R.SYS_BOOT := Or.inl (hW.mem rfl)
  have wc30 : Writes W0 R.SVC_STATUS := Or.inl (hW.mem rfl)
  have we00 : Writes W0 R.CLK_STATUS := Or.inl (hW.mem rfl)
  have w1405 : 0x1405 ∈ W0 := hW.mem rfl
  have w1410 : 0x1410 ∈ W0 := hW.mem rfl
  have w1413 : 0x1413 ∈ W0 := hW.mem rfl
  unfold State.startSlot
  repeat' first
    | with_reducible assumption
    | (extract_lets +onlyGivenNames xx; guard_hyp xx : State := _; refine Touch.cut (x := xx) ?_ ?_; (on_goal 2 => (intro hh; (try clear_value xx); revert xx; intro _ _)); any_goals (revert xx; intro _))
    | (extract_lets +onlyGivenNames xx; guard_hyp xx : (Boot) := _; revert xx; intro _)
    | (extract_lets +onlyGivenNames xx; (try clear_value xx); revert xx; intro _)
    | with_reducible refine State.setFlag_touch ?_ _ _ ?_
    | with_reducible refine Touch.update ?_

def State.startFallback_cells : List Nat :=
  [0x2, 0x4, 0x5, 0x6, 0x100, 0x200, 0x300, 0x301, 0x31f, 0x400, 0x401, 0x40e, 0x40f, 0x601, 0x607, 0x608, 0x610,
   0x611, 0x612, 0x613, 0x614, 0x615, 0x616, 0x617, 0x801, 0x901, 0x90b, 0xa01, 0xa32, 0xc20, 0xc21, 0xc25, 0xc30,
   0xe00, 0x1402, 0x1405, 0x1408, 0x1409, 0x140a, 0x140b, 0x140c, 0x140d, 0x140f, 0x1411, 0x1413, 0x1415, 0x1417]

theorem State.startFallback_touch {W0 : List Nat} {s0 s : State} (h0 : Touch W0 s0 s) (hW : Sub State.startFallback_cells W0) :
    Touch W0 s0 (State.startFallback s) := by
  have c_State_enterSafe : Sub State.enterSafe_cells W0 := Sub.trans (Sub.of rfl) hW
  have w4 : Writes W0 R.SYS_BOOT := Or.inl (hW.mem rfl)
  have w5 : Writes W0 R.SYS_SAFECAUSE := Or.inl (hW.mem rfl)
  have wc30 : Writes W0 R.SVC_STATUS := Or.inl (hW.mem rfl)
  have we00 : Writes W0 R.CLK_STATUS := Or.inl (hW.mem rfl)
  unfold State.startFallback
  repeat' first
    | with_reducible assumption
    | (extract_lets +onlyGivenNames xx; guard_hyp xx : State := _; refine Touch.cut (x := xx) ?_ ?_; (on_goal 2 => (intro hh; (try clear_value xx); revert xx; intro _ _)); any_goals (revert xx; intro _))
    | with_reducible refine State.enterSafe_touch ?_ c_State_enterSafe _ _ ?_
    | with_reducible refine State.setFlag_touch ?_ _ _ ?_

def State.secureStart_cells : List Nat :=
  [0x2, 0x4, 0x5, 0x6, 0x100, 0x200, 0x300, 0x301, 0x31f, 0x400, 0x401, 0x405, 0x407, 0x40e, 0x40f, 0x501, 0x601,
   0x607, 0x608, 0x610, 0x611, 0x612, 0x613, 0x614, 0x615, 0x616, 0x617, 0x801, 0x900, 0x901, 0x90b, 0x910, 0xa01,
   0xa32, 0xc20, 0xc21, 0xc25, 0xc30, 0xe00, 0x1402, 0x1405, 0x1408, 0x1409, 0x140a, 0x140b, 0x140c, 0x140d, 0x140f,
   0x1410, 0x1411, 0x1413, 0x1415, 0x1417]

theorem State.secureStart_touch {W0 : List Nat} {s0 s : State} (h0 : Touch W0 s0 s) (hW : Sub State.secureStart_cells W0) :
    Touch W0 s0 (State.secureStart s) := by
  have c_State_trySlots : Sub State.trySlots_cells W0 := Sub.trans (Sub.of rfl) hW
  have c_State_startSlot : Sub State.startSlot_cells W0 := Sub.trans (Sub.of rfl) hW
  have c_State_startFallback : Sub State.startFallback_cells W0 := Sub.trans (Sub.of rfl) hW
  have c_State_refreshLimited : Sub State.refreshLimited_cells W0 := Sub.trans (Sub.of rfl) hW
  have c_State_leaveSafe : Sub State.leaveSafe_cells W0 := Sub.trans (Sub.of rfl) hW
  have c_State_postStart : Sub State.postStart_cells W0 := Sub.trans (Sub.of rfl) hW
  have c_State_firmwareStart : Sub State.firmwareStart_cells W0 := Sub.trans (Sub.of rfl) hW
  have w4 : Writes W0 R.SYS_BOOT := Or.inl (hW.mem rfl)
  have w6 : Writes W0 R.SYS_EVENT := Or.inl (hW.mem rfl)
  have w1405 : 0x1405 ∈ W0 := hW.mem rfl
  have w140d : 0x140d ∈ W0 := hW.mem rfl
  unfold State.secureStart
  split
  repeat' first
    | with_reducible assumption
    | (extract_lets +onlyGivenNames xx; guard_hyp xx : State := _; refine Touch.cut (x := xx) ?_ ?_; (on_goal 2 => (intro hh; (try clear_value xx); revert xx; intro _ _)); any_goals (revert xx; intro _))
    | (extract_lets +onlyGivenNames xx; guard_hyp xx : (Boot) := _; revert xx; intro _)
    | (extract_lets +onlyGivenNames xx; (try clear_value xx); revert xx; intro _)
    | with_reducible refine State.startSlot_touch ?_ c_State_startSlot _
    | with_reducible refine State.startFallback_touch ?_ c_State_startFallback
    | with_reducible refine State.refreshLimited_touch ?_ c_State_refreshLimited
    | with_reducible refine State.leaveSafe_touch ?_ c_State_leaveSafe
    | with_reducible refine State.postStart_touch ?_ c_State_postStart _
    | with_reducible refine State.firmwareStart_touch ?_ c_State_firmwareStart
    | with_reducible refine State.event_touch ?_ _ ?_
    | with_reducible refine State.setFlag_touch ?_ _ _ ?_
    | with_reducible refine Touch.ite ?_ ?_
    | split
    | refine State.trySlots_touch_eq ?_ c_State_trySlots _ (by assumption)
    | with_reducible refine Touch.update ?_

def State.enterShip_cells : List Nat :=
  [0x100, 0x300, 0x400, 0x401, 0x40f, 0xa01, 0xa32, 0x1400, 0x1401, 0x1402, 0x1403, 0x1404, 0x1405, 0x1406, 0x1407,
   0x1408, 0x1409, 0x140a, 0x140b, 0x140c, 0x140d, 0x140e, 0x140f, 0x1410, 0x1411, 0x1412, 0x1413, 0x1414, 0x1415,
   0x1416, 0x1417, 0x1418, 0x1430]

theorem State.enterShip_touch {W0 : List Nat} {s0 s : State} (h0 : Touch W0 s0 s) (hW : Sub State.enterShip_cells W0) :
    Touch W0 s0 (State.enterShip s) := by
  have c_State_wbPowerOff : Sub State.wbPowerOff_cells W0 := Sub.trans (Sub.of rfl) hW
  have c_State_coldBase : Sub State.coldBase_cells W0 := Sub.trans (Sub.of rfl) hW
  have c_State_dischOn : Sub State.dischOn_cells W0 := Sub.trans (Sub.of rfl) hW
  have w1400 : 0x1400 ∈ W0 := hW.mem rfl
  have w1401 : 0x1401 ∈ W0 := hW.mem rfl
  have w1407 : 0x1407 ∈ W0 := hW.mem rfl
  have w1408 : 0x1408 ∈ W0 := hW.mem rfl
  unfold State.enterShip
  repeat' first
    | with_reducible assumption
    | (extract_lets +onlyGivenNames xx; guard_hyp xx : State := _; refine Touch.cut (x := xx) ?_ ?_; (on_goal 2 => (intro hh; (try clear_value xx); revert xx; intro _ _)); any_goals (revert xx; intro _))
    | (extract_lets +onlyGivenNames xx; (try clear_value xx); revert xx; intro _)
    | with_reducible refine State.wbPowerOff_touch ?_ c_State_wbPowerOff
    | with_reducible refine State.coldBase_touch ?_ c_State_coldBase _ _
    | with_reducible refine State.dischOn_touch ?_ c_State_dischOn
    | split
    | with_reducible refine Touch.update ?_

def State.shipTick_cells : List Nat :=
  [0x100, 0x1401, 0x1407]

theorem State.shipTick_touch {W0 : List Nat} {s0 s : State} (h0 : Touch W0 s0 s) (hW : Sub State.shipTick_cells W0) :
    Touch W0 s0 (State.shipTick s) := by
  have c_State_dischStop : Sub State.dischStop_cells W0 := Sub.trans (Sub.of rfl) hW
  have w1401 : 0x1401 ∈ W0 := hW.mem rfl
  unfold State.shipTick
  repeat' first
    | with_reducible assumption
    | (extract_lets +onlyGivenNames xx; guard_hyp xx : State := _; refine Touch.cut (x := xx) ?_ ?_; (on_goal 2 => (intro hh; (try clear_value xx); revert xx; intro _ _)); any_goals (revert xx; intro _))
    | with_reducible refine State.dischStop_touch ?_ c_State_dischStop
    | with_reducible refine Touch.ite ?_ ?_
    | with_reducible refine Touch.update ?_

end Sys2Proof.Machine
end

