-- ==== Sys2Proof/Laws/TouchBoot.lean ====
section
/-!
SUPPORT. What each operation of Machine/Boot.lean can do: the registers and parts of the state it may write, and nothing
else; the unit, its queue and the form of its stores are kept.
-/

-- proofs are elaborated one after another: many at once ask for more threads than a memory limit allows
set_option Elab.async false

set_option linter.unusedTactic false
set_option linter.unusedVariables false
set_option linter.unusedSimpArgs false
set_option linter.unreachableTactic false
set_option linter.tactic.unusedName false

namespace Sys2Proof.Machine

def execPowerOnResetRelease_cells : List Nat :=
  [0x3, 0x200, 0x305, 0x30a, 0x40b, 0x700, 0xa00, 0xa01, 0xa32, 0x1400, 0x1401, 0x1402, 0x1403, 0x1404, 0x1405,
   0x1406, 0x1407, 0x1408, 0x1409, 0x140a, 0x140b, 0x140c, 0x140d, 0x140e, 0x140f, 0x1410, 0x1411, 0x1412, 0x1413,
   0x1414, 0x1415, 0x1416, 0x1417, 0x1418, 0x1430]

theorem execPowerOnResetRelease_touch {W0 : List Nat} {s0 s : State} (h0 : Touch W0 s0 s) (hW : Sub execPowerOnResetRelease_cells W0) (chemR : Nat) (addrR : Nat) (bat : Nat) (source : Bool) :
    TouchOut W0 s0 (execPowerOnResetRelease chemR addrR bat source s) := by
  have c_State_coldStart : Sub State.coldStart_cells W0 := Sub.trans (Sub.of rfl) hW
  unfold execPowerOnResetRelease
  repeat' first
    | with_reducible assumption
    | with_reducible refine TouchOut.next ?_
    | with_reducible refine State.coldStart_touch ?_ c_State_coldStart _ _ _ _
    | with_reducible refine State.when_touch ?_ _ _ ?_
    | with_reducible intro _ _

def State.tornWrites_cells : List Nat :=
  [0x140f, 0x1417]

theorem State.tornWrites_touch {W0 : List Nat} {s0 s : State} (h0 : Touch W0 s0 s) (hW : Sub State.tornWrites_cells W0) (intake : Nat) (commit : Nat) :
    Touch W0 s0 (State.tornWrites s intake commit) := by
  have c_State_writeSlots : Sub State.writeSlots_cells W0 := Sub.trans (Sub.of rfl) hW
  unfold State.tornWrites
  repeat' first
    | with_reducible assumption
    | (extract_lets +onlyGivenNames xx; (try clear_value xx); revert xx; intro _)
    | with_reducible refine State.writeSlots_touch ?_ c_State_writeSlots _
    | with_reducible refine Touch.ite ?_ ?_

def execPowerLoss_cells : List Nat :=
  [0x300, 0x400, 0x401, 0x40f, 0xa01, 0xa32, 0x1400, 0x1401, 0x1402, 0x1403, 0x1404, 0x1405, 0x1406, 0x1407, 0x1408,
   0x1409, 0x140a, 0x140b, 0x140c, 0x140d, 0x140e, 0x140f, 0x1410, 0x1411, 0x1412, 0x1413, 0x1414, 0x1415, 0x1416,
   0x1417, 0x1418, 0x1430]

theorem execPowerLoss_touch {W0 : List Nat} {s0 s : State} (h0 : Touch W0 s0 s) (hW : Sub execPowerLoss_cells W0) (intake : Nat) (commit : Nat) :
    TouchOut W0 s0 (execPowerLoss intake commit s) := by
  have c_State_tornWrites : Sub State.tornWrites_cells W0 := Sub.trans (Sub.of rfl) hW
  have c_State_wbPowerOff : Sub State.wbPowerOff_cells W0 := Sub.trans (Sub.of rfl) hW
  have c_State_coldBase : Sub State.coldBase_cells W0 := Sub.trans (Sub.of rfl) hW
  unfold execPowerLoss
  repeat' first
    | with_reducible assumption
    | with_reducible refine TouchOut.next ?_
    | (extract_lets +onlyGivenNames xx; guard_hyp xx : State := _; refine Touch.cut (x := xx) ?_ ?_; (on_goal 2 => (intro hh; (try clear_value xx); revert xx; intro _ _)); any_goals (revert xx; intro _))
    | with_reducible refine State.tornWrites_touch ?_ c_State_tornWrites _ _
    | with_reducible refine State.wbPowerOff_touch ?_ c_State_wbPowerOff
    | with_reducible refine State.coldBase_touch ?_ c_State_coldBase _ _
    | with_reducible refine State.when_touch ?_ _ _ ?_
    | with_reducible refine Touch.ite ?_ ?_
    | with_reducible intro _ _

def execImageHeadersRead_cells : List Nat :=
  [0x2, 0x5, 0x6, 0x100, 0x101, 0x114, 0x200, 0x300, 0x301, 0x305, 0x30a, 0x31f, 0x400, 0x401, 0x405, 0x40b, 0x40e,
   0x40f, 0x500, 0x601, 0x607, 0x608, 0x610, 0x611, 0x612, 0x613, 0x614, 0x615, 0x616, 0x617, 0x700, 0x801, 0x901,
   0x90b, 0xa01, 0xa32, 0xb00, 0xb18, 0xc00, 0xc06, 0xc20, 0xc21, 0xc25, 0xd18, 0xe00, 0x1000, 0x1001, 0x1003, 0x100a,
   0x100b, 0x100c, 0x100d, 0x100e, 0x100f, 0x1400, 0x1402, 0x1403, 0x1405, 0x1407, 0x1408, 0x1409, 0x140a, 0x140b,
   0x140c, 0x140d, 0x140f, 0x1411, 0x1413, 0x1414, 0x1415, 0x1416, 0x1417, 0x1430]

theorem execImageHeadersRead_touch {W0 : List Nat} {s0 s : State} (h0 : Touch W0 s0 s) (hW : Sub execImageHeadersRead_cells W0) (a : Option (List Byte)) (oneByte : Bool) (probes : List (Option (List Byte))) :
    TouchOut W0 s0 (execImageHeadersRead a oneByte probes s) := by
  have c_State_chooseCopy : Sub State.chooseCopy_cells W0 := Sub.trans (Sub.of rfl) hW
  have wd18 : Writes W0 R.TWB_PORTC := Or.inl (hW.mem rfl)
  have w1405 : 0x1405 ∈ W0 := hW.mem rfl
  unfold execImageHeadersRead
  repeat' first
    | with_reducible assumption
    | with_reducible refine TouchOut.next ?_
    | (extract_lets +onlyGivenNames xx; guard_hyp xx : State := _; refine Touch.cut (x := xx) ?_ ?_; (on_goal 2 => (intro hh; (try clear_value xx); revert xx; intro _ _)); any_goals (revert xx; intro _))
    | (extract_lets +onlyGivenNames xx; guard_hyp xx : (Boot) := _; revert xx; intro _)
    | (extract_lets +onlyGivenNames xx; (try clear_value xx); revert xx; intro _)
    | with_reducible refine State.chooseCopy_touch ?_ c_State_chooseCopy
    | with_reducible refine State.setField_touch ?_ _ _ ?_
    | with_reducible refine State.setFlag_touch ?_ _ _ ?_
    | with_reducible refine State.when_touch ?_ _ _ ?_
    | with_reducible intro _ _
    | split
    | with_reducible refine Touch.update ?_

def execImageBodyReadDone_cells : List Nat :=
  [0x2, 0x5, 0x6, 0x100, 0x101, 0x114, 0x200, 0x300, 0x301, 0x305, 0x30a, 0x31f, 0x400, 0x401, 0x405, 0x40b, 0x40e,
   0x40f, 0x500, 0x501, 0x504, 0x601, 0x607, 0x608, 0x610, 0x611, 0x612, 0x613, 0x614, 0x615, 0x616, 0x617, 0x700,
   0x801, 0x901, 0x90b, 0xa01, 0xa32, 0xb00, 0xb18, 0xc00, 0xc06, 0xc20, 0xc21, 0xc25, 0xd18, 0xe00, 0x1000, 0x1001,
   0x1003, 0x100a, 0x100b, 0x100c, 0x100d, 0x100e, 0x100f, 0x1400, 0x1402, 0x1403, 0x1404, 0x1405, 0x1406, 0x1407,
   0x1408, 0x1409, 0x140a, 0x140b, 0x140c, 0x140d, 0x140f, 0x1410, 0x1411, 0x1413, 0x1414, 0x1415, 0x1416, 0x1417,
   0x1430]

theorem execImageBodyReadDone_touch {W0 : List Nat} {s0 s : State} (h0 : Touch W0 s0 s) (hW : Sub execImageBodyReadDone_cells W0) (body : List Byte) :
    TouchOut W0 s0 (execImageBodyReadDone body s) := by
  have c_State_imageApply : Sub State.imageApply_cells W0 := Sub.trans (Sub.of rfl) hW
  have c_State_copyFailed : Sub State.copyFailed_cells W0 := Sub.trans (Sub.of rfl) hW
  unfold execImageBodyReadDone
  repeat' first
    | with_reducible assumption
    | with_reducible refine TouchOut.next ?_
    | (extract_lets +onlyGivenNames xx; (try clear_value xx); revert xx; intro _)
    | with_reducible refine State.imageApply_touch ?_ c_State_imageApply _ _ _
    | with_reducible refine State.copyFailed_touch ?_ c_State_copyFailed _ _
    | with_reducible refine State.when_touch ?_ _ _ ?_
    | with_reducible intro _ _
    | split

def execPortcAttemptFail_cells : List Nat :=
  [0x2, 0x5, 0x6, 0x100, 0x101, 0x114, 0x200, 0x300, 0x301, 0x305, 0x30a, 0x31f, 0x400, 0x401, 0x405, 0x40b, 0x40e,
   0x40f, 0x500, 0x601, 0x607, 0x608, 0x610, 0x611, 0x612, 0x613, 0x614, 0x615, 0x616, 0x617, 0x700, 0x801, 0x900,
   0x901, 0x90b, 0xa01, 0xa32, 0xb00, 0xb18, 0xc00, 0xc06, 0xc20, 0xc21, 0xc25, 0xd00, 0xd01, 0xd15, 0xd18, 0xe00,
   0x1000, 0x1001, 0x1003, 0x100a, 0x100b, 0x100c, 0x100d, 0x100e, 0x100f, 0x1400, 0x1402, 0x1403, 0x1405, 0x1407,
   0x1408, 0x1409, 0x140a, 0x140b, 0x140c, 0x140d, 0x140f, 0x1411, 0x1413, 0x1414, 0x1415, 0x1416, 0x1417, 0x1430]

theorem execPortcAttemptFail_touch {W0 : List Nat} {s0 s : State} (h0 : Touch W0 s0 s) (hW : Sub execPortcAttemptFail_cells W0) (dev : Nat) (freed : Option Bool) :
    TouchOut W0 s0 (execPortcAttemptFail dev freed s) := by
  have c_State_deviceLost : Sub State.deviceLost_cells W0 := Sub.trans (Sub.of rfl) hW
  have c_State_tryOther : Sub State.tryOther_cells W0 := Sub.trans (Sub.of rfl) hW
  have c_State_note : Sub State.note_cells W0 := Sub.trans (Sub.of rfl) hW
  have wd00 : Writes W0 R.TWB_STATUS := Or.inl (hW.mem rfl)
  have wd01 : Writes W0 R.TWB_EVENT := Or.inl (hW.mem rfl)
  have wd15 : Writes W0 R.TWB_RECCNT := Or.inl (hW.mem rfl)
  have wd18 : Writes W0 R.TWB_PORTC := Or.inl (hW.mem rfl)
  have w1405 : 0x1405 ∈ W0 := hW.mem rfl
  unfold execPortcAttemptFail
  repeat' first
    | with_reducible assumption
    | with_reducible refine TouchOut.next ?_
    | (extract_lets +onlyGivenNames xx; guard_hyp xx : State := _; refine Touch.cut (x := xx) ?_ ?_; (on_goal 2 => (intro hh; (try clear_value xx); revert xx; intro _ _)); any_goals (revert xx; intro _))
    | (extract_lets +onlyGivenNames xx; guard_hyp xx : (Boot) := _; revert xx; intro _)
    | (extract_lets +onlyGivenNames xx; (try clear_value xx); revert xx; intro _)
    | with_reducible refine State.deviceLost_touch ?_ c_State_deviceLost _
    | with_reducible refine State.tryOther_touch ?_ c_State_tryOther _
    | with_reducible refine State.note_touch ?_ c_State_note _ _ _ _
    | with_reducible refine State.bump_touch ?_ _ _ ?_
    | with_reducible refine State.event_touch ?_ _ ?_
    | with_reducible refine State.setFlag_touch ?_ _ _ ?_
    | with_reducible refine State.when_touch ?_ _ _ ?_
    | with_reducible refine Touch.ite ?_ ?_
    | with_reducible intro _ _
    | split
    | with_reducible refine Touch.update ?_

def execPortcRetry_cells : List Nat :=
  [0xd00, 0x1405]

theorem execPortcRetry_touch {W0 : List Nat} {s0 s : State} (h0 : Touch W0 s0 s) (hW : Sub execPortcRetry_cells W0) :
    TouchOut W0 s0 (execPortcRetry s) := by
  have wd00 : Writes W0 R.TWB_STATUS := Or.inl (hW.mem rfl)
  have w1405 : 0x1405 ∈ W0 := hW.mem rfl
  unfold execPortcRetry
  repeat' first
    | with_reducible assumption
    | with_reducible refine TouchOut.next ?_
    | (extract_lets +onlyGivenNames xx; guard_hyp xx : (Boot) := _; revert xx; intro _)
    | with_reducible refine State.setFlag_touch ?_ _ _ ?_
    | with_reducible refine State.when_touch ?_ _ _ ?_
    | with_reducible intro _ _
    | with_reducible refine Touch.update ?_

def execBackgroundCopyCheckDone_cells : List Nat :=
  [0x900, 0x901, 0xa01, 0xa32, 0x1000, 0x1001, 0x1405, 0x140c, 0x140f]

theorem execBackgroundCopyCheckDone_touch {W0 : List Nat} {s0 s : State} (h0 : Touch W0 s0 s) (hW : Sub execBackgroundCopyCheckDone_cells W0) (body : Option (List Byte)) :
    TouchOut W0 s0 (execBackgroundCopyCheckDone body s) := by
  have c_State_copyDegraded : Sub State.copyDegraded_cells W0 := Sub.trans (Sub.of rfl) hW
  have c_State_note : Sub State.note_cells W0 := Sub.trans (Sub.of rfl) hW
  have c_State_setCopy : Sub State.setCopy_cells W0 := Sub.trans (Sub.of rfl) hW
  have c_State_post : Sub State.post_cells W0 := Sub.trans (Sub.of rfl) hW
  have w1405 : 0x1405 ∈ W0 := hW.mem rfl
  unfold execBackgroundCopyCheckDone
  repeat' first
    | with_reducible assumption
    | with_reducible refine TouchOut.next ?_
    | (extract_lets +onlyGivenNames xx; guard_hyp xx : State := _; refine Touch.cut (x := xx) ?_ ?_; (on_goal 2 => (intro hh; (try clear_value xx); revert xx; intro _ _)); any_goals (revert xx; intro _))
    | (extract_lets +onlyGivenNames xx; guard_hyp xx : (Boot) := _; revert xx; intro _)
    | (extract_lets +onlyGivenNames xx; (try clear_value xx); revert xx; intro _)
    | with_reducible refine State.copyDegraded_touch ?_ c_State_copyDegraded _ _
    | with_reducible refine State.note_touch ?_ c_State_note _ _ _ _
    | with_reducible refine State.setCopy_touch ?_ c_State_setCopy _ _
    | with_reducible refine State.post_touch ?_ c_State_post _ _
    | with_reducible refine State.whenRun_touch ?_ _ ?_
    | with_reducible refine Touch.ite ?_ ?_
    | with_reducible intro _ _
    | split
    | with_reducible refine Touch.update ?_

def execSecureStart_cells : List Nat :=
  [0x2, 0x4, 0x5, 0x6, 0x100, 0x200, 0x300, 0x301, 0x31f, 0x400, 0x401, 0x405, 0x407, 0x40e, 0x40f, 0x501, 0x601,
   0x607, 0x608, 0x610, 0x611, 0x612, 0x613, 0x614, 0x615, 0x616, 0x617, 0x801, 0x900, 0x901, 0x90b, 0x910, 0xa01,
   0xa32, 0xc20, 0xc21, 0xc25, 0xc30, 0xe00, 0x1402, 0x1405, 0x1408, 0x1409, 0x140a, 0x140b, 0x140c, 0x140d, 0x140f,
   0x1410, 0x1411, 0x1413, 0x1415, 0x1417]

theorem execSecureStart_touch {W0 : List Nat} {s0 s : State} (h0 : Touch W0 s0 s) (hW : Sub execSecureStart_cells W0) :
    TouchOut W0 s0 (execSecureStart s) := by
  have c_State_secureStart : Sub State.secureStart_cells W0 := Sub.trans (Sub.of rfl) hW
  unfold execSecureStart
  repeat' first
    | with_reducible assumption
    | with_reducible refine TouchOut.next ?_
    | with_reducible refine State.secureStart_touch ?_ c_State_secureStart
    | with_reducible refine State.when_touch ?_ _ _ ?_
    | with_reducible intro _ _

def execWarmReset_cells : List Nat :=
  [0x2, 0x3, 0x6, 0xa, 0x200, 0x300, 0x301, 0x305, 0x30a, 0x318, 0x31f, 0x400, 0x401, 0x405, 0x40b, 0x40f, 0x500,
   0x801, 0x901, 0x90b, 0xa00, 0xa01, 0xa32, 0xb00, 0xb01, 0xb02, 0xb12, 0xb18, 0xc00, 0xc06, 0xc20, 0xc21, 0xc25,
   0xc30, 0xc34, 0xd18, 0xe00, 0xe14, 0x1000, 0x1400, 0x1402, 0x1403, 0x1404, 0x1405, 0x1406, 0x1407, 0x1408, 0x1409,
   0x140a, 0x140b, 0x140c, 0x140d, 0x140f, 0x1410, 0x1411, 0x1412, 0x1413, 0x1414, 0x1415, 0x1416, 0x1417, 0x1418,
   0x1430]

theorem execWarmReset_touch {W0 : List Nat} {s0 s : State} (h0 : Touch W0 s0 s) (hW : Sub execWarmReset_cells W0) (cause : Nat) :
    TouchOut W0 s0 (execWarmReset cause s) := by
  have c_State_warmReset : Sub State.warmReset_cells W0 := Sub.trans (Sub.of rfl) hW
  unfold execWarmReset
  repeat' first
    | with_reducible assumption
    | with_reducible refine TouchOut.next ?_
    | with_reducible refine State.warmReset_touch ?_ c_State_warmReset _
    | with_reducible refine State.whenLive_touch ?_ _ ?_
    | with_reducible intro _ _

def execCoreReset_cells : List Nat :=
  [0x2, 0x3, 0x6, 0x100, 0x200, 0x300, 0x301, 0x318, 0x31f, 0x400, 0x401, 0x405, 0x40e, 0x40f, 0x801, 0x901, 0x90b,
   0xa01, 0xa32, 0xb01, 0xb02, 0xb12, 0xc20, 0xc21, 0xc25, 0xc30, 0xc34, 0xd18, 0x1000, 0x1402, 0x1403, 0x1404,
   0x1405, 0x1408, 0x1409, 0x140b, 0x140c, 0x140d, 0x140f, 0x1410, 0x1411, 0x1412, 0x1413, 0x1415, 0x1418, 0x1430]

theorem execCoreReset_touch {W0 : List Nat} {s0 s : State} (h0 : Touch W0 s0 s) (hW : Sub execCoreReset_cells W0) (cause : Nat) :
    TouchOut W0 s0 (execCoreReset cause s) := by
  have c_State_coreReset : Sub State.coreReset_cells W0 := Sub.trans (Sub.of rfl) hW
  unfold execCoreReset
  repeat' first
    | with_reducible assumption
    | with_reducible refine TouchOut.next ?_
    | with_reducible refine State.coreReset_touch ?_ c_State_coreReset _
    | with_reducible refine State.whenRun_touch ?_ _ ?_
    | with_reducible intro _ _

def State.shipWrite_cells : List Nat :=
  [0xa01, 0xa32, 0xd18, 0x1000, 0x1001, 0x1402, 0x1404, 0x1405, 0x140f]

theorem State.shipWrite_touch {W0 : List Nat} {s0 s : State} (h0 : Touch W0 s0 s) (hW : Sub State.shipWrite_cells W0) :
    Touch W0 s0 (State.shipWrite s) := by
  have c_State_fresh : Sub State.fresh_cells W0 := Sub.trans (Sub.of rfl) hW
  have c_State_imageEnd : Sub State.imageEnd_cells W0 := Sub.trans (Sub.of rfl) hW
  unfold State.shipWrite
  repeat' first
    | with_reducible assumption
    | with_reducible refine State.fresh_touch ?_ c_State_fresh
    | with_reducible refine State.imageEnd_touch ?_ c_State_imageEnd _ _
    | split

def State.shipTaken_cells : List Nat :=
  [0x200, 0x300, 0x301, 0x31f, 0x400, 0x401, 0x40f, 0x801, 0x900, 0x901, 0x910, 0x911, 0xa00, 0xa01, 0xa05, 0xa28,
   0xa29, 0xa2a, 0xa2b, 0xa31, 0xa32, 0xa33, 0xa34, 0xc20, 0xc21, 0xc25, 0xd18, 0x1000, 0x1001, 0x1402, 0x1404,
   0x1405, 0x1408, 0x1409, 0x140c, 0x140d, 0x140f, 0x1411, 0x1413, 0x1415, 0x1417]

theorem State.shipTaken_touch {W0 : List Nat} {s0 s : State} (h0 : Touch W0 s0 s) (hW : Sub State.shipTaken_cells W0) (req : Requester) :
    Touch W0 s0 (State.shipTaken s req) := by
  have c_State_shipWrite : Sub State.shipWrite_cells W0 := Sub.trans (Sub.of rfl) hW
  have c_State_shipRequestsDone : Sub State.shipRequestsDone_cells W0 := Sub.trans (Sub.of rfl) hW
  have c_State_post : Sub State.post_cells W0 := Sub.trans (Sub.of rfl) hW
  have c_State_intakeAll : Sub State.intakeAll_cells W0 := Sub.trans (Sub.of rfl) hW
  unfold State.shipTaken
  repeat' first
    | with_reducible assumption
    | (extract_lets +onlyGivenNames xx; guard_hyp xx : State := _; refine Touch.cut (x := xx) ?_ ?_; (on_goal 2 => (intro hh; (try clear_value xx); revert xx; intro _ _)); any_goals (revert xx; intro _))
    | with_reducible refine State.shipWrite_touch ?_ c_State_shipWrite
    | with_reducible refine State.shipRequestsDone_touch ?_ c_State_shipRequestsDone _ _ _
    | with_reducible refine State.post_touch ?_ c_State_post _ _
    | with_reducible refine State.intakeAll_touch ?_ c_State_intakeAll

def State.shipAccept_cells : List Nat :=
  [0x200, 0x300, 0x301, 0x31f, 0x400, 0x401, 0x40f, 0x801, 0x900, 0x901, 0x910, 0x911, 0xa00, 0xa01, 0xa05, 0xa28,
   0xa29, 0xa2a, 0xa2b, 0xa31, 0xa32, 0xa33, 0xa34, 0xc20, 0xc21, 0xc25, 0xd18, 0x1000, 0x1001, 0x1402, 0x1404,
   0x1405, 0x1408, 0x1409, 0x140c, 0x140d, 0x140f, 0x1411, 0x1413, 0x1415, 0x1417]

theorem State.shipAccept_touch_eq {W0 : List Nat} {s0 s t : State} (h0 : Touch W0 s0 s) (hW : Sub State.shipAccept_cells W0)
    (req : Requester) (e : s.shipAccept req = some t) : Touch W0 s0 t := by
  have h := State.shipTaken_touch h0 (Sub.trans (Sub.of rfl) hW) req
  unfold State.shipAccept at e
  extract_lets at e
  split at e
  · injection e with e; exact e ▸ h
  · cases e

def execShipDelayExpiry_cells : List Nat :=
  [0x6, 0x100, 0x200, 0x300, 0x301, 0x31f, 0x400, 0x401, 0x40f, 0x801, 0x900, 0x901, 0x910, 0x911, 0xa00, 0xa01,
   0xa05, 0xa28, 0xa29, 0xa2a, 0xa2b, 0xa31, 0xa32, 0xa33, 0xa34, 0xc20, 0xc21, 0xc25, 0xd18, 0x1000, 0x1001, 0x1400,
   0x1401, 0x1402, 0x1403, 0x1404, 0x1405, 0x1406, 0x1407, 0x1408, 0x1409, 0x140a, 0x140b, 0x140c, 0x140d, 0x140e,
   0x140f, 0x1410, 0x1411, 0x1412, 0x1413, 0x1414, 0x1415, 0x1416, 0x1417, 0x1418, 0x1430]

theorem execShipDelayExpiry_touch {W0 : List Nat} {s0 s : State} (h0 : Touch W0 s0 s) (hW : Sub execShipDelayExpiry_cells W0) :
    TouchOut W0 s0 (execShipDelayExpiry s) := by
  have c_State_shipCheck : Sub State.shipCheck_cells W0 := Sub.trans (Sub.of rfl) hW
  have c_State_shipAccept : Sub State.shipAccept_cells W0 := Sub.trans (Sub.of rfl) hW
  have c_State_enterShip : Sub State.enterShip_cells W0 := Sub.trans (Sub.of rfl) hW
  unfold execShipDelayExpiry
  repeat' first
    | with_reducible assumption
    | with_reducible refine TouchOut.next ?_
    | with_reducible refine State.shipCheck_touch ?_ c_State_shipCheck
    | with_reducible refine State.enterShip_touch ?_ c_State_enterShip
    | with_reducible refine State.whenRun_touch ?_ _ ?_
    | with_reducible refine Touch.ite ?_ ?_
    | with_reducible intro _ _
    | split
    | exact State.shipAccept_touch_eq (by assumption) c_State_shipAccept _ (by assumption)

def execShipArmExpiry_cells : List Nat :=
  [0x6, 0xa01, 0xa32, 0xc20, 0xc21, 0xc25, 0x1405, 0x140d, 0x140f, 0x1413, 0x1415]

theorem execShipArmExpiry_touch {W0 : List Nat} {s0 s : State} (h0 : Touch W0 s0 s) (hW : Sub execShipArmExpiry_cells W0) :
    TouchOut W0 s0 (execShipArmExpiry s) := by
  have c_State_shipDrop : Sub State.shipDrop_cells W0 := Sub.trans (Sub.of rfl) hW
  unfold execShipArmExpiry
  repeat' first
    | with_reducible assumption
    | with_reducible refine TouchOut.next ?_
    | with_reducible refine State.shipDrop_touch ?_ c_State_shipDrop
    | with_reducible refine State.when_touch ?_ _ _ ?_
    | with_reducible refine State.whenRun_touch ?_ _ ?_
    | with_reducible intro _ _

def State.shipExit_cells : List Nat :=
  [0x3, 0x200, 0x305, 0x30a, 0x40b, 0x700, 0xa00, 0xa01, 0xa32, 0x1400, 0x1401, 0x1402, 0x1403, 0x1404, 0x1405,
   0x1406, 0x1407, 0x1408, 0x1409, 0x140a, 0x140b, 0x140c, 0x140d, 0x140e, 0x140f, 0x1410, 0x1411, 0x1412, 0x1413,
   0x1414, 0x1415, 0x1416, 0x1417, 0x1418, 0x1430]

theorem State.shipExit_touch {W0 : List Nat} {s0 s : State} (h0 : Touch W0 s0 s) (hW : Sub State.shipExit_cells W0) (source : Bool) (bat : Nat) :
    Touch W0 s0 (State.shipExit s source bat) := by
  have c_State_coldStart : Sub State.coldStart_cells W0 := Sub.trans (Sub.of rfl) hW
  have w1400 : 0x1400 ∈ W0 := hW.mem rfl
  unfold State.shipExit
  repeat' first
    | with_reducible assumption
    | with_reducible refine State.coldStart_touch ?_ c_State_coldStart _ _ _ _
    | with_reducible refine Touch.ite ?_ ?_
    | with_reducible refine Touch.update ?_

def execShipExitWake_cells : List Nat :=
  [0x3, 0x200, 0x305, 0x30a, 0x40b, 0x700, 0xa00, 0xa01, 0xa32, 0x1400, 0x1401, 0x1402, 0x1403, 0x1404, 0x1405,
   0x1406, 0x1407, 0x1408, 0x1409, 0x140a, 0x140b, 0x140c, 0x140d, 0x140e, 0x140f, 0x1410, 0x1411, 0x1412, 0x1413,
   0x1414, 0x1415, 0x1416, 0x1417, 0x1418, 0x1430]

theorem execShipExitWake_touch {W0 : List Nat} {s0 s : State} (h0 : Touch W0 s0 s) (hW : Sub execShipExitWake_cells W0) (ms : Nat) (source : Bool) (bat : Nat) (ends : Bool) :
    TouchOut W0 s0 (execShipExitWake ms source bat ends s) := by
  have c_State_shipExit : Sub State.shipExit_cells W0 := Sub.trans (Sub.of rfl) hW
  unfold execShipExitWake
  repeat' first
    | with_reducible assumption
    | with_reducible refine TouchOut.next ?_
    | with_reducible refine State.shipExit_touch ?_ c_State_shipExit _ _
    | with_reducible refine State.when_touch ?_ _ _ ?_
    | with_reducible intro _ _

def execShipExitSource_cells : List Nat :=
  [0x3, 0x200, 0x305, 0x30a, 0x40b, 0x700, 0xa00, 0xa01, 0xa32, 0x1400, 0x1401, 0x1402, 0x1403, 0x1404, 0x1405,
   0x1406, 0x1407, 0x1408, 0x1409, 0x140a, 0x140b, 0x140c, 0x140d, 0x140e, 0x140f, 0x1410, 0x1411, 0x1412, 0x1413,
   0x1414, 0x1415, 0x1416, 0x1417, 0x1418, 0x1430]

theorem execShipExitSource_touch {W0 : List Nat} {s0 s : State} (h0 : Touch W0 s0 s) (hW : Sub execShipExitSource_cells W0) (x : Source) (mv : Nat) (ms : Nat) (attached : Bool) (bat : Nat) :
    TouchOut W0 s0 (execShipExitSource x mv ms attached bat s) := by
  have c_State_shipExit : Sub State.shipExit_cells W0 := Sub.trans (Sub.of rfl) hW
  unfold execShipExitSource
  repeat' first
    | with_reducible assumption
    | with_reducible refine TouchOut.next ?_
    | with_reducible refine State.shipExit_touch ?_ c_State_shipExit _ _
    | with_reducible refine State.when_touch ?_ _ _ ?_
    | with_reducible intro _ _

def execWakePinChange_cells : List Nat :=
  [0x1404]

theorem execWakePinChange_touch {W0 : List Nat} {s0 s : State} (h0 : Touch W0 s0 s) (hW : Sub execWakePinChange_cells W0) (high : Bool) :
    TouchOut W0 s0 (execWakePinChange high s) := by
  have w1404 : 0x1404 ∈ W0 := hW.mem rfl
  unfold execWakePinChange
  repeat' first
    | with_reducible assumption
    | with_reducible refine TouchOut.next ?_
    | (extract_lets +onlyGivenNames xx; (try clear_value xx); revert xx; intro _)
    | with_reducible refine Touch.update ?_

end Sys2Proof.Machine
end

