-- ==== Sys2Proof/Laws/TouchChg.lean ====
section
/-!
SUPPORT. What each operation of Machine/Chg.lean can do: the registers and parts of the state it may write, and nothing
else; the unit, its queue and the form of its stores are kept.
-/

-- proofs are elaborated one after another: many at once ask for more threads than a memory limit allows
set_option Elab.async false

set_option linter.unusedTactic false
set_option linter.unusedVariables false
set_option linter.unusedSimpArgs false
set_option linter.unreachableTactic false
set_option linter.tactic.unusedName false

namespace Sys2Proof.Machine

def execChgDetect_cells : List Nat :=
  [0x200, 0x300, 0x301, 0x31f, 0x1409]

theorem execChgDetect_touch {W0 : List Nat} {s0 s : State} (h0 : Touch W0 s0 s) (hW : Sub execChgDetect_cells W0) :
    TouchOut W0 s0 (execChgDetect s) := by
  have c_State_chgDetect : Sub State.chgDetect_cells W0 := Sub.trans (Sub.of rfl) hW
  unfold execChgDetect
  repeat' first
    | with_reducible assumption
    | with_reducible refine TouchOut.next ?_
    | with_reducible refine State.chgDetect_touch ?_ c_State_chgDetect
    | with_reducible refine State.when_touch ?_ _ _ ?_
    | with_reducible intro _ _

def execChgDetectDone_cells : List Nat :=
  [0x200, 0x300, 0x301, 0x31f, 0x900, 0x901, 0xa01, 0xa32, 0x1409, 0x140c, 0x140f]

theorem execChgDetectDone_touch {W0 : List Nat} {s0 s : State} (h0 : Touch W0 s0 s) (hW : Sub execChgDetectDone_cells W0) (bat : Nat) (peak : Nat) :
    TouchOut W0 s0 (execChgDetectDone bat peak s) := by
  have c_State_setBat : Sub State.setBat_cells W0 := Sub.trans (Sub.of rfl) hW
  have c_State_cellAbsent : Sub State.cellAbsent_cells W0 := Sub.trans (Sub.of rfl) hW
  have c_State_enterPhase : Sub State.enterPhase_cells W0 := Sub.trans (Sub.of rfl) hW
  have c_State_refreshCell : Sub State.refreshCell_cells W0 := Sub.trans (Sub.of rfl) hW
  have w1409 : 0x1409 ∈ W0 := hW.mem rfl
  unfold execChgDetectDone
  repeat' first
    | with_reducible assumption
    | with_reducible refine TouchOut.next ?_
    | (extract_lets +onlyGivenNames xx; guard_hyp xx : State := _; refine Touch.cut (x := xx) ?_ ?_; (on_goal 2 => (intro hh; (try clear_value xx); revert xx; intro _ _)); any_goals (revert xx; intro _))
    | (extract_lets +onlyGivenNames xx; (try clear_value xx); revert xx; intro _)
    | with_reducible refine State.setBat_touch ?_ c_State_setBat _
    | with_reducible refine State.cellAbsent_touch ?_ c_State_cellAbsent
    | with_reducible refine State.enterPhase_touch ?_ c_State_enterPhase _
    | with_reducible refine State.refreshCell_touch ?_ c_State_refreshCell _
    | with_reducible refine State.when_touch ?_ _ _ ?_
    | with_reducible refine Touch.ite ?_ ?_
    | with_reducible intro _ _
    | with_reducible refine Touch.update ?_

def execChgAbsentRetry_cells : List Nat :=
  [0x200, 0x300, 0x301, 0x31f, 0x1409]

theorem execChgAbsentRetry_touch {W0 : List Nat} {s0 s : State} (h0 : Touch W0 s0 s) (hW : Sub execChgAbsentRetry_cells W0) :
    TouchOut W0 s0 (execChgAbsentRetry s) := by
  have c_State_chgDetect : Sub State.chgDetect_cells W0 := Sub.trans (Sub.of rfl) hW
  unfold execChgAbsentRetry
  repeat' first
    | with_reducible assumption
    | with_reducible refine TouchOut.next ?_
    | with_reducible refine State.chgDetect_touch ?_ c_State_chgDetect
    | with_reducible refine State.when_touch ?_ _ _ ?_
    | with_reducible intro _ _

def execChgPreconditionDone_cells : List Nat :=
  [0x200, 0x300, 0x301, 0x31f, 0x900, 0x901, 0xa01, 0xa32, 0x1409, 0x140c, 0x140f]

theorem execChgPreconditionDone_touch {W0 : List Nat} {s0 s : State} (h0 : Touch W0 s0 s) (hW : Sub execChgPreconditionDone_cells W0) (bat : Nat) :
    TouchOut W0 s0 (execChgPreconditionDone bat s) := by
  have c_State_setBat : Sub State.setBat_cells W0 := Sub.trans (Sub.of rfl) hW
  have c_State_enterPhase : Sub State.enterPhase_cells W0 := Sub.trans (Sub.of rfl) hW
  unfold execChgPreconditionDone
  repeat' first
    | with_reducible assumption
    | with_reducible refine TouchOut.next ?_
    | with_reducible refine State.setBat_touch ?_ c_State_setBat _
    | with_reducible refine State.enterPhase_touch ?_ c_State_enterPhase _
    | with_reducible refine State.when_touch ?_ _ _ ?_
    | with_reducible intro _ _

def execChgCvEntry_cells : List Nat :=
  [0x200, 0x300, 0x301, 0x31f, 0x900, 0x901, 0xa01, 0xa32, 0x1409, 0x140c, 0x140f]

theorem execChgCvEntry_touch {W0 : List Nat} {s0 s : State} (h0 : Touch W0 s0 s) (hW : Sub execChgCvEntry_cells W0) (bat : Nat) :
    TouchOut W0 s0 (execChgCvEntry bat s) := by
  have c_State_setBat : Sub State.setBat_cells W0 := Sub.trans (Sub.of rfl) hW
  have c_State_enterPhase : Sub State.enterPhase_cells W0 := Sub.trans (Sub.of rfl) hW
  have w300 : Writes W0 R.CHG_STATUS := Or.inl (hW.mem rfl)
  unfold execChgCvEntry
  repeat' first
    | with_reducible assumption
    | with_reducible refine TouchOut.next ?_
    | with_reducible refine State.setBat_touch ?_ c_State_setBat _
    | with_reducible refine State.enterPhase_touch ?_ c_State_enterPhase _
    | with_reducible refine State.setFlag_touch ?_ _ _ ?_
    | with_reducible refine State.when_touch ?_ _ _ ?_
    | with_reducible refine Touch.ite ?_ ?_
    | with_reducible intro _ _

def execChgTermCurrent_cells : List Nat :=
  [0x200, 0x300, 0x301, 0x31f, 0x405, 0x900, 0x901, 0xa01, 0xa32, 0x1409, 0x140c, 0x140f]

theorem execChgTermCurrent_touch {W0 : List Nat} {s0 s : State} (h0 : Touch W0 s0 s) (hW : Sub execChgTermCurrent_cells W0) (bat : Nat) :
    TouchOut W0 s0 (execChgTermCurrent bat s) := by
  have c_State_setBat : Sub State.setBat_cells W0 := Sub.trans (Sub.of rfl) hW
  have c_State_post : Sub State.post_cells W0 := Sub.trans (Sub.of rfl) hW
  have c_State_chgTerminate : Sub State.chgTerminate_cells W0 := Sub.trans (Sub.of rfl) hW
  have c_State_refreshPartial : Sub State.refreshPartial_cells W0 := Sub.trans (Sub.of rfl) hW
  have w300 : Writes W0 R.CHG_STATUS := Or.inl (hW.mem rfl)
  have w301 : Writes W0 R.CHG_EVENT := Or.inl (hW.mem rfl)
  unfold execChgTermCurrent
  repeat' first
    | with_reducible assumption
    | with_reducible refine TouchOut.next ?_
    | (extract_lets +onlyGivenNames xx; guard_hyp xx : State := _; refine Touch.cut (x := xx) ?_ ?_; (on_goal 2 => (intro hh; (try clear_value xx); revert xx; intro _ _)); any_goals (revert xx; intro _))
    | with_reducible refine State.setBat_touch ?_ c_State_setBat _
    | with_reducible refine State.post_touch ?_ c_State_post _ _
    | with_reducible refine State.chgTerminate_touch ?_ c_State_chgTerminate
    | with_reducible refine State.refreshPartial_touch ?_ c_State_refreshPartial
    | with_reducible refine State.event_touch ?_ _ ?_
    | with_reducible refine State.setFlag_touch ?_ _ _ ?_
    | with_reducible refine State.when_touch ?_ _ _ ?_
    | with_reducible intro _ _

def execChgTargetReached_cells : List Nat :=
  [0x200, 0x300, 0x301, 0x31f, 0xa01, 0xa32, 0x1409, 0x140f]

theorem execChgTargetReached_touch {W0 : List Nat} {s0 s : State} (h0 : Touch W0 s0 s) (hW : Sub execChgTargetReached_cells W0) :
    TouchOut W0 s0 (execChgTargetReached s) := by
  have c_State_targetEnd : Sub State.targetEnd_cells W0 := Sub.trans (Sub.of rfl) hW
  unfold execChgTargetReached
  repeat' first
    | with_reducible assumption
    | with_reducible refine TouchOut.next ?_
    | with_reducible refine State.targetEnd_touch ?_ c_State_targetEnd
    | with_reducible refine State.when_touch ?_ _ _ ?_
    | with_reducible intro _ _

def execChgTopupStart_cells : List Nat :=
  [0x200, 0x300, 0x301, 0x31f, 0x900, 0x901, 0xa01, 0xa32, 0x1409, 0x140c, 0x140f]

theorem execChgTopupStart_touch {W0 : List Nat} {s0 s : State} (h0 : Touch W0 s0 s) (hW : Sub execChgTopupStart_cells W0) (bat : Nat) :
    TouchOut W0 s0 (execChgTopupStart bat s) := by
  have c_State_setBat : Sub State.setBat_cells W0 := Sub.trans (Sub.of rfl) hW
  have c_State_enterPhase : Sub State.enterPhase_cells W0 := Sub.trans (Sub.of rfl) hW
  have w301 : Writes W0 R.CHG_EVENT := Or.inl (hW.mem rfl)
  unfold execChgTopupStart
  repeat' first
    | with_reducible assumption
    | with_reducible refine TouchOut.next ?_
    | (extract_lets +onlyGivenNames xx; guard_hyp xx : State := _; refine Touch.cut (x := xx) ?_ ?_; (on_goal 2 => (intro hh; (try clear_value xx); revert xx; intro _ _)); any_goals (revert xx; intro _))
    | with_reducible refine State.setBat_touch ?_ c_State_setBat _
    | with_reducible refine State.enterPhase_touch ?_ c_State_enterPhase _
    | with_reducible refine State.event_touch ?_ _ ?_
    | with_reducible refine State.when_touch ?_ _ _ ?_
    | with_reducible refine Touch.ite ?_ ?_
    | with_reducible intro _ _

def execChgSuspend_cells : List Nat :=
  [0x200, 0x300, 0x301, 0x31f, 0x400, 0x401, 0x40f, 0x801, 0xa01, 0xa32, 0x1402, 0x1408, 0x1409, 0x140f, 0x1411]

theorem execChgSuspend_touch {W0 : List Nat} {s0 s : State} (h0 : Touch W0 s0 s) (hW : Sub execChgSuspend_cells W0) (c : SuspCause) :
    TouchOut W0 s0 (execChgSuspend c s) := by
  have c_State_alarmSuspend : Sub State.alarmSuspend_cells W0 := Sub.trans (Sub.of rfl) hW
  have c_State_chgSuspend : Sub State.chgSuspend_cells W0 := Sub.trans (Sub.of rfl) hW
  have w300 : Writes W0 R.CHG_STATUS := Or.inl (hW.mem rfl)
  unfold execChgSuspend
  repeat' first
    | with_reducible assumption
    | with_reducible refine TouchOut.next ?_
    | with_reducible refine State.alarmSuspend_touch ?_ c_State_alarmSuspend
    | with_reducible refine State.chgSuspend_touch ?_ c_State_chgSuspend _ ?_
    | with_reducible refine State.when_touch ?_ _ _ ?_
    | with_reducible refine Touch.ite ?_ ?_
    | with_reducible intro _ _
    | (unfold suspFlag; split <;> with_reducible assumption)

def execChgResume_cells : List Nat :=
  [0x200, 0x300, 0x301, 0x31f, 0x900, 0x901, 0xa01, 0xa32, 0x1409, 0x140c, 0x140f]

theorem execChgResume_touch {W0 : List Nat} {s0 s : State} (h0 : Touch W0 s0 s) (hW : Sub execChgResume_cells W0) (bat : Nat) :
    TouchOut W0 s0 (execChgResume bat s) := by
  have c_State_setBat : Sub State.setBat_cells W0 := Sub.trans (Sub.of rfl) hW
  have c_State_chgResume : Sub State.chgResume_cells W0 := Sub.trans (Sub.of rfl) hW
  unfold execChgResume
  repeat' first
    | with_reducible assumption
    | with_reducible refine TouchOut.next ?_
    | with_reducible refine State.setBat_touch ?_ c_State_setBat _
    | with_reducible refine State.chgResume_touch ?_ c_State_chgResume
    | with_reducible refine State.when_touch ?_ _ _ ?_
    | with_reducible intro _ _

def execChgTimeoutFault_cells : List Nat :=
  [0x2, 0x6, 0x100, 0x200, 0x300, 0x301, 0x31f, 0x321, 0x400, 0x401, 0x40e, 0x40f, 0x900, 0x901, 0xa01, 0xa32, 0x1408,
   0x1409, 0x140c, 0x140f]

theorem execChgTimeoutFault_touch {W0 : List Nat} {s0 s : State} (h0 : Touch W0 s0 s) (hW : Sub execChgTimeoutFault_cells W0) :
    TouchOut W0 s0 (execChgTimeoutFault s) := by
  have c_State_chgFault : Sub State.chgFault_cells W0 := Sub.trans (Sub.of rfl) hW
  unfold execChgTimeoutFault
  repeat' first
    | with_reducible assumption
    | with_reducible refine TouchOut.next ?_
    | with_reducible refine State.chgFault_touch ?_ c_State_chgFault _
    | with_reducible refine State.when_touch ?_ _ _ ?_
    | with_reducible intro _ _

def execChgBatOv_cells : List Nat :=
  [0x2, 0x6, 0x100, 0x200, 0x300, 0x301, 0x31f, 0x321, 0x400, 0x401, 0x40e, 0x40f, 0x900, 0x901, 0xa01, 0xa32, 0x1408,
   0x1409, 0x140c, 0x140f]

theorem execChgBatOv_touch {W0 : List Nat} {s0 s : State} (h0 : Touch W0 s0 s) (hW : Sub execChgBatOv_cells W0) (bat : Nat) :
    TouchOut W0 s0 (execChgBatOv bat s) := by
  have c_State_setBat : Sub State.setBat_cells W0 := Sub.trans (Sub.of rfl) hW
  have c_State_chgFault : Sub State.chgFault_cells W0 := Sub.trans (Sub.of rfl) hW
  unfold execChgBatOv
  repeat' first
    | with_reducible assumption
    | with_reducible refine TouchOut.next ?_
    | with_reducible refine State.setBat_touch ?_ c_State_setBat _
    | with_reducible refine State.chgFault_touch ?_ c_State_chgFault _
    | with_reducible refine State.when_touch ?_ _ _ ?_
    | with_reducible intro _ _

def execNtcDisagree_cells : List Nat :=
  [0x2, 0x6, 0x100, 0x200, 0x300, 0x301, 0x31f, 0x321, 0x400, 0x401, 0x40e, 0x40f, 0x900, 0x901, 0xa01, 0xa32, 0x1408,
   0x1409, 0x140c, 0x140f]

theorem execNtcDisagree_touch {W0 : List Nat} {s0 s : State} (h0 : Touch W0 s0 s) (hW : Sub execNtcDisagree_cells W0) :
    TouchOut W0 s0 (execNtcDisagree s) := by
  have c_State_ntcFaultOn : Sub State.ntcFaultOn_cells W0 := Sub.trans (Sub.of rfl) hW
  have c_State_chgFault : Sub State.chgFault_cells W0 := Sub.trans (Sub.of rfl) hW
  unfold execNtcDisagree
  repeat' first
    | with_reducible assumption
    | with_reducible refine TouchOut.next ?_
    | (extract_lets +onlyGivenNames xx; guard_hyp xx : State := _; refine Touch.cut (x := xx) ?_ ?_; (on_goal 2 => (intro hh; (try clear_value xx); revert xx; intro _ _)); any_goals (revert xx; intro _))
    | with_reducible refine State.ntcFaultOn_touch ?_ c_State_ntcFaultOn _
    | with_reducible refine State.chgFault_touch ?_ c_State_chgFault _
    | with_reducible refine State.when_touch ?_ _ _ ?_
    | with_reducible refine Touch.ite ?_ ?_
    | with_reducible intro _ _

def execChgFaultAutoclear_cells : List Nat :=
  [0x2, 0x6, 0x100, 0x200, 0x300, 0x301, 0x31f, 0x400, 0x401, 0x40e, 0x40f, 0x900, 0x901, 0xa01, 0xa32, 0x1408,
   0x1409, 0x140c, 0x140f]

theorem execChgFaultAutoclear_touch {W0 : List Nat} {s0 s : State} (h0 : Touch W0 s0 s) (hW : Sub execChgFaultAutoclear_cells W0) (bat : Nat) :
    TouchOut W0 s0 (execChgFaultAutoclear bat s) := by
  have c_State_setBat : Sub State.setBat_cells W0 := Sub.trans (Sub.of rfl) hW
  have c_State_chgClear : Sub State.chgClear_cells W0 := Sub.trans (Sub.of rfl) hW
  unfold execChgFaultAutoclear
  repeat' first
    | with_reducible assumption
    | with_reducible refine TouchOut.next ?_
    | with_reducible refine State.setBat_touch ?_ c_State_setBat _
    | with_reducible refine State.chgClear_touch ?_ c_State_chgClear
    | with_reducible refine State.when_touch ?_ _ _ ?_
    | with_reducible intro _ _

def execNtcReading_cells : List Nat :=
  [0x2, 0x6, 0x100, 0x200, 0x300, 0x301, 0x31e, 0x31f, 0x400, 0x401, 0x40e, 0x40f, 0x900, 0x901, 0xa01, 0xa32, 0x1408,
   0x1409, 0x140c, 0x140f]

theorem execNtcReading_touch {W0 : List Nat} {s0 s : State} (h0 : Touch W0 s0 s) (hW : Sub execNtcReading_cells W0) (a : Option Int) (b : Option Int) :
    TouchOut W0 s0 (execNtcReading a b s) := by
  have c_State_ntcRead : Sub State.ntcRead_cells W0 := Sub.trans (Sub.of rfl) hW
  unfold execNtcReading
  repeat' first
    | with_reducible assumption
    | with_reducible refine TouchOut.next ?_
    | with_reducible refine State.ntcRead_touch ?_ c_State_ntcRead _ _
    | with_reducible refine State.whenRun_touch ?_ _ ?_
    | with_reducible intro _ _

def execChgSocStale_cells : List Nat :=
  [0x2, 0x6, 0x100, 0x200, 0x300, 0x301, 0x31f, 0x400, 0x401, 0x405, 0x40e, 0x40f, 0xa01, 0xa32, 0x1408, 0x1409,
   0x140f]

theorem execChgSocStale_touch {W0 : List Nat} {s0 s : State} (h0 : Touch W0 s0 s) (hW : Sub execChgSocStale_cells W0) :
    TouchOut W0 s0 (execChgSocStale s) := by
  have c_State_refreshLimited : Sub State.refreshLimited_cells W0 := Sub.trans (Sub.of rfl) hW
  have c_State_chgFigures : Sub State.chgFigures_cells W0 := Sub.trans (Sub.of rfl) hW
  have c_State_tetMove : Sub State.tetMove_cells W0 := Sub.trans (Sub.of rfl) hW
  unfold execChgSocStale
  repeat' first
    | with_reducible assumption
    | with_reducible refine TouchOut.next ?_
    | with_reducible refine State.refreshLimited_touch ?_ c_State_refreshLimited
    | with_reducible refine State.chgFigures_touch ?_ c_State_chgFigures
    | with_reducible refine State.tetMove_touch ?_ c_State_tetMove
    | with_reducible refine State.when_touch ?_ _ _ ?_
    | with_reducible intro _ _

def execChgSocWrite_cells : List Nat :=
  [0x2, 0x6, 0x100, 0x200, 0x300, 0x301, 0x31a, 0x31f, 0x400, 0x401, 0x405, 0x40e, 0x40f, 0xa01, 0xa32, 0x1408,
   0x1409, 0x140f]

theorem execChgSocWrite_touch {W0 : List Nat} {s0 s : State} (h0 : Touch W0 s0 s) (hW : Sub execChgSocWrite_cells W0) (soc : Nat) (valid : Bool) :
    TouchOut W0 s0 (execChgSocWrite soc valid s) := by
  have c_State_setSoc : Sub State.setSoc_cells W0 := Sub.trans (Sub.of rfl) hW
  unfold execChgSocWrite
  repeat' first
    | with_reducible assumption
    | with_reducible refine TouchOut.next ?_
    | with_reducible refine State.setSoc_touch ?_ c_State_setSoc _
    | with_reducible refine State.when_touch ?_ _ _ ?_
    | with_reducible intro _ _

def execBallastRecompute_cells : List Nat :=
  [0x2, 0x6, 0x100, 0x200, 0x300, 0x301, 0x318, 0x319, 0x31b, 0x31c, 0x31d, 0x31f, 0x400, 0x401, 0x405, 0x40e, 0x40f,
   0xa01, 0xa32, 0x1402, 0x1408, 0x1409, 0x140f]

theorem execBallastRecompute_touch {W0 : List Nat} {s0 s : State} (h0 : Touch W0 s0 s) (hW : Sub execBallastRecompute_cells W0) :
    TouchOut W0 s0 (execBallastRecompute s) := by
  have c_State_recompute : Sub State.recompute_cells W0 := Sub.trans (Sub.of rfl) hW
  have c_State_chgResume : Sub State.chgResume_cells W0 := Sub.trans (Sub.of rfl) hW
  unfold execBallastRecompute
  repeat' first
    | with_reducible assumption
    | with_reducible refine TouchOut.next ?_
    | (extract_lets +onlyGivenNames xx; guard_hyp xx : State := _; refine Touch.cut (x := xx) ?_ ?_; (on_goal 2 => (intro hh; (try clear_value xx); revert xx; intro _ _)); any_goals (revert xx; intro _))
    | (extract_lets +onlyGivenNames xx; (try clear_value xx); revert xx; intro _)
    | with_reducible refine State.recompute_touch ?_ c_State_recompute
    | with_reducible refine State.chgResume_touch ?_ c_State_chgResume
    | with_reducible refine State.when_touch ?_ _ _ ?_
    | with_reducible refine Touch.ite ?_ ?_
    | with_reducible intro _ _

def execChgResumeTimeout_cells : List Nat :=
  [0x200, 0x300, 0x301, 0x31f, 0x1409]

theorem execChgResumeTimeout_touch {W0 : List Nat} {s0 s : State} (h0 : Touch W0 s0 s) (hW : Sub execChgResumeTimeout_cells W0) :
    TouchOut W0 s0 (execChgResumeTimeout s) := by
  have c_State_chgResume : Sub State.chgResume_cells W0 := Sub.trans (Sub.of rfl) hW
  have w1409 : 0x1409 ∈ W0 := hW.mem rfl
  unfold execChgResumeTimeout
  repeat' first
    | with_reducible assumption
    | with_reducible refine TouchOut.next ?_
    | (extract_lets +onlyGivenNames xx; (try clear_value xx); revert xx; intro _)
    | with_reducible refine State.chgResume_touch ?_ c_State_chgResume
    | with_reducible refine State.when_touch ?_ _ _ ?_
    | with_reducible intro _ _
    | with_reducible refine Touch.update ?_

end Sys2Proof.Machine
end

