-- ==== Sys2Proof/Laws/TouchClk.lean ====
section
/-!
SUPPORT. What each operation of Machine/Clk.lean can do: the registers and parts of the state it may write, and nothing
else; the unit, its queue and the form of its stores are kept.
-/

-- proofs are elaborated one after another: many at once ask for more threads than a memory limit allows
set_option Elab.async false

set_option linter.unusedTactic false
set_option linter.unusedVariables false
set_option linter.unusedSimpArgs false
set_option linter.unreachableTactic false
set_option linter.tactic.unusedName false

namespace Sys2Proof.Machine

def State.aonSource_cells : List Nat :=
  [0xe00]

theorem State.aonSource_touch {W0 : List Nat} {s0 s : State} (h0 : Touch W0 s0 s) (hW : Sub State.aonSource_cells W0) :
    Touch W0 s0 (State.aonSource s) := by
  have we00 : Writes W0 R.CLK_STATUS := Or.inl (hW.mem rfl)
  unfold State.aonSource
  repeat' first
    | with_reducible assumption
    | with_reducible refine State.setField_touch ?_ _ _ ?_

def State.oscShow_cells : List Nat :=
  [0xe00]

theorem State.oscShow_touch {W0 : List Nat} {s0 s : State} (h0 : Touch W0 s0 s) (hW : Sub State.oscShow_cells W0) (osc : Nat) (bad : Bool) :
    Touch W0 s0 (State.oscShow s osc bad) := by
  have c_State_aonSource : Sub State.aonSource_cells W0 := Sub.trans (Sub.of rfl) hW
  have we00 : Writes W0 R.CLK_STATUS := Or.inl (hW.mem rfl)
  unfold State.oscShow
  repeat' first
    | with_reducible assumption
    | with_reducible refine State.aonSource_touch ?_ c_State_aonSource
    | with_reducible refine State.setFlag_touch ?_ _ _ ?_
    | split

def State.oscFail_cells : List Nat :=
  [0xa01, 0xa32, 0xe00, 0xe01, 0xe15, 0x140f, 0x1410]

theorem State.oscFail_touch {W0 : List Nat} {s0 s : State} (h0 : Touch W0 s0 s) (hW : Sub State.oscFail_cells W0) (osc : Nat) (cause : Nat) (ppm : Int) :
    Touch W0 s0 (State.oscFail s osc cause ppm) := by
  have c_State_post : Sub State.post_cells W0 := Sub.trans (Sub.of rfl) hW
  have c_State_oscShow : Sub State.oscShow_cells W0 := Sub.trans (Sub.of rfl) hW
  have we01 : Writes W0 R.CLK_EVENT := Or.inl (hW.mem rfl)
  have we15 : Writes W0 R.CLK_FAULTCNT := Or.inl (hW.mem rfl)
  have w1410 : 0x1410 ∈ W0 := hW.mem rfl
  unfold State.oscFail
  repeat' first
    | with_reducible assumption
    | (extract_lets +onlyGivenNames xx; guard_hyp xx : State := _; refine Touch.cut (x := xx) ?_ ?_; (on_goal 2 => (intro hh; (try clear_value xx); revert xx; intro _ _)); any_goals (revert xx; intro _))
    | (extract_lets +onlyGivenNames xx; (try clear_value xx); revert xx; intro _)
    | with_reducible refine State.post_touch ?_ c_State_post _ _
    | with_reducible refine State.oscShow_touch ?_ c_State_oscShow _ _
    | with_reducible refine State.bump_touch ?_ _ _ ?_
    | with_reducible refine State.event_touch ?_ _ ?_
    | with_reducible refine Touch.ite ?_ ?_
    | (unfold oscEvent; split <;> with_reducible assumption)
    | with_reducible refine Touch.update ?_

def execXtalSwitch_cells : List Nat :=
  [0xe00]

theorem execXtalSwitch_touch {W0 : List Nat} {s0 s : State} (h0 : Touch W0 s0 s) (hW : Sub execXtalSwitch_cells W0) :
    TouchOut W0 s0 (execXtalSwitch s) := by
  have c_State_oscShow : Sub State.oscShow_cells W0 := Sub.trans (Sub.of rfl) hW
  unfold execXtalSwitch
  repeat' first
    | with_reducible assumption
    | with_reducible refine TouchOut.next ?_
    | with_reducible refine State.oscShow_touch ?_ c_State_oscShow _ _
    | with_reducible refine State.when_touch ?_ _ _ ?_
    | with_reducible intro _ _

def execXtalStartTimeout_cells : List Nat :=
  [0xa01, 0xa32, 0xe00, 0xe01, 0xe15, 0x140f, 0x1410]

theorem execXtalStartTimeout_touch {W0 : List Nat} {s0 s : State} (h0 : Touch W0 s0 s) (hW : Sub execXtalStartTimeout_cells W0) (cause : Nat) (ppm : Int) :
    TouchOut W0 s0 (execXtalStartTimeout cause ppm s) := by
  have c_State_oscFail : Sub State.oscFail_cells W0 := Sub.trans (Sub.of rfl) hW
  unfold execXtalStartTimeout
  repeat' first
    | with_reducible assumption
    | with_reducible refine TouchOut.next ?_
    | with_reducible refine State.oscFail_touch ?_ c_State_oscFail _ _ _
    | with_reducible refine State.when_touch ?_ _ _ ?_
    | with_reducible intro _ _

def execOscFault_cells : List Nat :=
  [0xa01, 0xa32, 0xe00, 0xe01, 0xe15, 0x140f, 0x1410]

theorem execOscFault_touch {W0 : List Nat} {s0 s : State} (h0 : Touch W0 s0 s) (hW : Sub execOscFault_cells W0) (osc : Nat) (cause : Nat) (ppm : Int) :
    TouchOut W0 s0 (execOscFault osc cause ppm s) := by
  have c_State_oscFail : Sub State.oscFail_cells W0 := Sub.trans (Sub.of rfl) hW
  unfold execOscFault
  repeat' first
    | with_reducible assumption
    | with_reducible refine TouchOut.next ?_
    | with_reducible refine State.oscFail_touch ?_ c_State_oscFail _ _ _
    | with_reducible refine State.when_touch ?_ _ _ ?_
    | with_reducible intro _ _

def State.oscRetry_cells : List Nat :=
  [0xa01, 0xa32, 0xe00, 0xe01, 0x140f, 0x1410]

theorem State.oscRetry_touch {W0 : List Nat} {s0 s : State} (h0 : Touch W0 s0 s) (hW : Sub State.oscRetry_cells W0) (f : OscFault) (good : Bool) :
    Touch W0 s0 (State.oscRetry s f good) := by
  have c_State_post : Sub State.post_cells W0 := Sub.trans (Sub.of rfl) hW
  have c_State_oscShow : Sub State.oscShow_cells W0 := Sub.trans (Sub.of rfl) hW
  have we01 : Writes W0 R.CLK_EVENT := Or.inl (hW.mem rfl)
  have w1410 : 0x1410 ∈ W0 := hW.mem rfl
  unfold State.oscRetry
  repeat' first
    | with_reducible assumption
    | (extract_lets +onlyGivenNames xx; guard_hyp xx : State := _; refine Touch.cut (x := xx) ?_ ?_; (on_goal 2 => (intro hh; (try clear_value xx); revert xx; intro _ _)); any_goals (revert xx; intro _))
    | (extract_lets +onlyGivenNames xx; (try clear_value xx); revert xx; intro _)
    | with_reducible refine State.post_touch ?_ c_State_post _ _
    | with_reducible refine State.oscShow_touch ?_ c_State_oscShow _ _
    | with_reducible refine State.event_touch ?_ _ ?_
    | with_reducible refine Touch.ite ?_ ?_
    | with_reducible refine Touch.update ?_

def execOscRetry_cells : List Nat :=
  [0xa01, 0xa32, 0xe00, 0xe01, 0x140f, 0x1410]

theorem execOscRetry_touch {W0 : List Nat} {s0 s : State} (h0 : Touch W0 s0 s) (hW : Sub execOscRetry_cells W0) (osc : Nat) (good : Bool) :
    TouchOut W0 s0 (execOscRetry osc good s) := by
  have c_State_oscRetry : Sub State.oscRetry_cells W0 := Sub.trans (Sub.of rfl) hW
  unfold execOscRetry
  repeat' first
    | with_reducible assumption
    | with_reducible refine TouchOut.next ?_
    | with_reducible refine State.oscRetry_touch ?_ c_State_oscRetry _ _
    | with_reducible refine State.whenLive_touch ?_ _ ?_
    | with_reducible refine Touch.ite ?_ ?_
    | with_reducible intro _ _
    | split

def State.oscCheck_cells : List Nat :=
  [0xa01, 0xa32, 0xe00, 0xe01, 0xe15, 0x140f, 0x1410]

theorem State.oscCheck_touch {W0 : List Nat} {s0 s : State} (h0 : Touch W0 s0 s) (hW : Sub State.oscCheck_cells W0) (p : Nat × Int) :
    Touch W0 s0 (State.oscCheck s p) := by
  have c_State_oscFail : Sub State.oscFail_cells W0 := Sub.trans (Sub.of rfl) hW
  unfold State.oscCheck
  repeat' first
    | with_reducible assumption
    | with_reducible refine State.oscFail_touch ?_ c_State_oscFail _ _ _
    | with_reducible refine Touch.ite ?_ ?_

def execOscCrossCheck_cells : List Nat :=
  [0xa01, 0xa32, 0xe00, 0xe01, 0xe15, 0x140f, 0x1410]

theorem execOscCrossCheck_touch {W0 : List Nat} {s0 s : State} (h0 : Touch W0 s0 s) (hW : Sub execOscCrossCheck_cells W0) (xtal : Int) (lfo : Int) (hfo : Int) (wdo : Int) :
    TouchOut W0 s0 (execOscCrossCheck xtal lfo hfo wdo s) := by
  have c_State_oscCheck : Sub State.oscCheck_cells W0 := Sub.trans (Sub.of rfl) hW
  unfold execOscCrossCheck
  repeat' first
    | with_reducible assumption
    | with_reducible refine TouchOut.next ?_
    | with_reducible refine State.oscCheck_touch ?_ c_State_oscCheck _
    | with_reducible refine State.whenLive_touch ?_ _ ?_
    | with_reducible refine Touch.foldl ?_ ?_
    | with_reducible intro _ _
    | with_reducible intro _

def State.adoptSync_cells : List Nat :=
  [0xa01, 0xa32, 0xe00, 0xe01, 0xe0c, 0xe0d, 0xe18, 0x140f, 0x1410]

theorem State.adoptSync_touch {W0 : List Nat} {s0 s : State} (h0 : Touch W0 s0 s) (hW : Sub State.adoptSync_cells W0) (addr : Nat) (t : Nat) :
    Touch W0 s0 (State.adoptSync s addr t) := by
  have c_State_setTime : Sub State.setTime_cells W0 := Sub.trans (Sub.of rfl) hW
  have c_State_setTsrc : Sub State.setTsrc_cells W0 := Sub.trans (Sub.of rfl) hW
  have we01 : Writes W0 R.CLK_EVENT := Or.inl (hW.mem rfl)
  have we0c : Writes W0 R.CLK_OFFSET := Or.inl (hW.mem rfl)
  have we0d : Writes W0 R.CLK_SYNCSRC := Or.inl (hW.mem rfl)
  have we18 : Writes W0 R.CLK_SYNCCNT := Or.inl (hW.mem rfl)
  have w1410 : 0x1410 ∈ W0 := hW.mem rfl
  unfold State.adoptSync
  repeat' first
    | with_reducible assumption
    | (extract_lets +onlyGivenNames xx; guard_hyp xx : State := _; refine Touch.cut (x := xx) ?_ ?_; (on_goal 2 => (intro hh; (try clear_value xx); revert xx; intro _ _)); any_goals (revert xx; intro _))
    | (extract_lets +onlyGivenNames xx; (try clear_value xx); revert xx; intro _)
    | with_reducible refine State.setTime_touch ?_ c_State_setTime _
    | with_reducible refine State.setTsrc_touch ?_ c_State_setTsrc _ _ _
    | with_reducible refine State.bump_touch ?_ _ _ ?_
    | with_reducible refine State.event_touch ?_ _ ?_
    | with_reducible refine State.setField_touch ?_ _ _ ?_
    | with_reducible refine State.setReg_touch ?_ _ _ ?_
    | with_reducible refine Touch.ite ?_ ?_
    | with_reducible refine Touch.update ?_

def execSyncRx_cells : List Nat :=
  [0x407, 0x500, 0x501, 0x504, 0x505, 0x506, 0x507, 0x509, 0x512, 0x515, 0x518, 0x601, 0x607, 0x608, 0x610, 0x611,
   0x612, 0x613, 0x614, 0x615, 0x616, 0x617, 0x625, 0xa01, 0xa32, 0xe00, 0xe01, 0xe0c, 0xe0d, 0xe18, 0x140a, 0x140b,
   0x140f, 0x1410, 0x1417]

theorem execSyncRx_touch {W0 : List Nat} {s0 s : State} (h0 : Touch W0 s0 s) (hW : Sub execSyncRx_cells W0) (addr : Nat) (time : Nat) (ago : Nat) (c : Carrier) :
    TouchOut W0 s0 (execSyncRx addr time ago c s) := by
  have c_State_receive : Sub State.receive_cells W0 := Sub.trans (Sub.of rfl) hW
  have c_State_adoptSync : Sub State.adoptSync_cells W0 := Sub.trans (Sub.of rfl) hW
  have c_State_rxEnter : Sub State.rxEnter_cells W0 := Sub.trans (Sub.of rfl) hW
  unfold execSyncRx
  repeat' first
    | with_reducible assumption
    | with_reducible refine TouchOut.next ?_
    | (extract_lets +onlyGivenNames xx; (try clear_value xx); revert xx; intro _)
    | with_reducible refine State.receive_touch ?_ c_State_receive _ _ _ ?_
    | with_reducible refine State.adoptSync_touch ?_ c_State_adoptSync _ _
    | with_reducible refine State.rxEnter_touch ?_ c_State_rxEnter _
    | with_reducible refine Touch.ite ?_ ?_
    | with_reducible intro _ _

def State.postSync_cells : List Nat :=
  [0x501, 0x140a]

theorem State.postSync_touch {W0 : List Nat} {s0 s : State} (h0 : Touch W0 s0 s) (hW : Sub State.postSync_cells W0) :
    Touch W0 s0 (State.postSync s) := by
  have c_State_postTx : Sub State.postTx_cells W0 := Sub.trans (Sub.of rfl) hW
  unfold State.postSync
  repeat' first
    | with_reducible assumption
    | with_reducible refine State.postTx_touch ?_ c_State_postTx _ _ _

def execSyncTxDue_cells : List Nat :=
  [0x501, 0x140a, 0x1410]

theorem execSyncTxDue_touch {W0 : List Nat} {s0 s : State} (h0 : Touch W0 s0 s) (hW : Sub execSyncTxDue_cells W0) :
    TouchOut W0 s0 (execSyncTxDue s) := by
  have c_State_postSync : Sub State.postSync_cells W0 := Sub.trans (Sub.of rfl) hW
  have w1410 : 0x1410 ∈ W0 := hW.mem rfl
  unfold execSyncTxDue
  repeat' first
    | with_reducible assumption
    | with_reducible refine TouchOut.next ?_
    | (extract_lets +onlyGivenNames xx; guard_hyp xx : State := _; refine Touch.cut (x := xx) ?_ ?_; (on_goal 2 => (intro hh; (try clear_value xx); revert xx; intro _ _)); any_goals (revert xx; intro _))
    | (extract_lets +onlyGivenNames xx; (try clear_value xx); revert xx; intro _)
    | with_reducible refine State.postSync_touch ?_ c_State_postSync
    | with_reducible refine State.when_touch ?_ _ _ ?_
    | with_reducible refine Touch.ite ?_ ?_
    | with_reducible intro _ _
    | split
    | with_reducible refine Touch.update ?_

def execHwdWarn_cells : List Nat :=
  [0xa01, 0xa32, 0xe00, 0xe01, 0x140f, 0x1410]

theorem execHwdWarn_touch {W0 : List Nat} {s0 s : State} (h0 : Touch W0 s0 s) (hW : Sub execHwdWarn_cells W0) :
    TouchOut W0 s0 (execHwdWarn s) := by
  have c_State_post : Sub State.post_cells W0 := Sub.trans (Sub.of rfl) hW
  have we00 : Writes W0 R.CLK_STATUS := Or.inl (hW.mem rfl)
  have we01 : Writes W0 R.CLK_EVENT := Or.inl (hW.mem rfl)
  have w1410 : 0x1410 ∈ W0 := hW.mem rfl
  unfold execHwdWarn
  repeat' first
    | with_reducible assumption
    | with_reducible refine TouchOut.next ?_
    | (extract_lets +onlyGivenNames xx; guard_hyp xx : State := _; refine Touch.cut (x := xx) ?_ ?_; (on_goal 2 => (intro hh; (try clear_value xx); revert xx; intro _ _)); any_goals (revert xx; intro _))
    | (extract_lets +onlyGivenNames xx; (try clear_value xx); revert xx; intro _)
    | with_reducible refine State.post_touch ?_ c_State_post _ _
    | with_reducible refine State.event_touch ?_ _ ?_
    | with_reducible refine State.setFlag_touch ?_ _ _ ?_
    | with_reducible refine State.when_touch ?_ _ _ ?_
    | with_reducible intro _ _
    | with_reducible refine Touch.update ?_

def execHwdExpire_cells : List Nat :=
  [0x2, 0x3, 0x6, 0xa, 0x200, 0x300, 0x301, 0x305, 0x30a, 0x318, 0x31f, 0x400, 0x401, 0x405, 0x40b, 0x40f, 0x500,
   0x801, 0x901, 0x90b, 0xa00, 0xa01, 0xa32, 0xb00, 0xb01, 0xb02, 0xb12, 0xb18, 0xc00, 0xc06, 0xc20, 0xc21, 0xc25,
   0xc30, 0xc34, 0xd18, 0xe00, 0xe01, 0xe14, 0xe16, 0x1000, 0x1400, 0x1402, 0x1403, 0x1404, 0x1405, 0x1406, 0x1407,
   0x1408, 0x1409, 0x140a, 0x140b, 0x140c, 0x140d, 0x140f, 0x1410, 0x1411, 0x1412, 0x1413, 0x1414, 0x1415, 0x1416,
   0x1417, 0x1418, 0x1430]

theorem execHwdExpire_touch {W0 : List Nat} {s0 s : State} (h0 : Touch W0 s0 s) (hW : Sub execHwdExpire_cells W0) :
    TouchOut W0 s0 (execHwdExpire s) := by
  have c_State_post : Sub State.post_cells W0 := Sub.trans (Sub.of rfl) hW
  have c_State_warmReset : Sub State.warmReset_cells W0 := Sub.trans (Sub.of rfl) hW
  have we00 : Writes W0 R.CLK_STATUS := Or.inl (hW.mem rfl)
  have we01 : Writes W0 R.CLK_EVENT := Or.inl (hW.mem rfl)
  have we16 : Writes W0 R.CLK_HWDCNT := Or.inl (hW.mem rfl)
  have w1404 : 0x1404 ∈ W0 := hW.mem rfl
  have w1410 : 0x1410 ∈ W0 := hW.mem rfl
  unfold execHwdExpire
  repeat' first
    | with_reducible assumption
    | with_reducible refine TouchOut.next ?_
    | (extract_lets +onlyGivenNames xx; guard_hyp xx : State := _; refine Touch.cut (x := xx) ?_ ?_; (on_goal 2 => (intro hh; (try clear_value xx); revert xx; intro _ _)); any_goals (revert xx; intro _))
    | (extract_lets +onlyGivenNames xx; (try clear_value xx); revert xx; intro _)
    | with_reducible refine State.post_touch ?_ c_State_post _ _
    | with_reducible refine State.warmReset_touch ?_ c_State_warmReset _
    | with_reducible refine State.bump_touch ?_ _ _ ?_
    | with_reducible refine State.event_touch ?_ _ ?_
    | with_reducible refine State.setFlag_touch ?_ _ _ ?_
    | with_reducible refine State.when_touch ?_ _ _ ?_
    | with_reducible refine Touch.ite ?_ ?_
    | with_reducible intro _ _
    | with_reducible refine Touch.update ?_

def State.tetCoreReset_cells : List Nat :=
  [0x1430]

theorem State.tetCoreReset_touch {W0 : List Nat} {s0 s : State} (h0 : Touch W0 s0 s) (hW : Sub State.tetCoreReset_cells W0) :
    Touch W0 s0 (State.tetCoreReset s) := by
  have w1430 : 0x1430 ∈ W0 := hW.mem rfl
  unfold State.tetCoreReset
  repeat' first
    | with_reducible assumption
    | with_reducible refine State.setReg_touch ?_ _ _ ?_
    | with_reducible refine Touch.foldl ?_ ?_
    | with_reducible intro _ _
    | with_reducible intro _
    | exact Or.inr (by with_reducible assumption)

def execPwdWarn_cells : List Nat :=
  [0x2, 0x6, 0x100, 0x200, 0x300, 0x301, 0x31f, 0x400, 0x401, 0x40e, 0x40f, 0xa01, 0xa32, 0xb01, 0xb02, 0xb12, 0xc20,
   0xc21, 0xc25, 0xe01, 0x1402, 0x1405, 0x1408, 0x1409, 0x140d, 0x140f, 0x1410, 0x1412, 0x1413, 0x1415, 0x1430]

theorem execPwdWarn_touch {W0 : List Nat} {s0 s : State} (h0 : Touch W0 s0 s) (hW : Sub execPwdWarn_cells W0) :
    TouchOut W0 s0 (execPwdWarn s) := by
  have c_State_fresh : Sub State.fresh_cells W0 := Sub.trans (Sub.of rfl) hW
  have c_State_tetCoreReset : Sub State.tetCoreReset_cells W0 := Sub.trans (Sub.of rfl) hW
  have c_State_pdOwner : Sub State.pdOwner_cells W0 := Sub.trans (Sub.of rfl) hW
  have c_State_post : Sub State.post_cells W0 := Sub.trans (Sub.of rfl) hW
  have c_State_powerChanged : Sub State.powerChanged_cells W0 := Sub.trans (Sub.of rfl) hW
  have we01 : Writes W0 R.CLK_EVENT := Or.inl (hW.mem rfl)
  have w1410 : 0x1410 ∈ W0 := hW.mem rfl
  unfold execPwdWarn
  repeat' first
    | with_reducible assumption
    | with_reducible refine TouchOut.next ?_
    | (extract_lets +onlyGivenNames xx; (try clear_value xx); revert xx; intro _)
    | with_reducible refine State.fresh_touch ?_ c_State_fresh
    | with_reducible refine State.tetCoreReset_touch ?_ c_State_tetCoreReset
    | with_reducible refine State.pdOwner_touch ?_ c_State_pdOwner _ _
    | with_reducible refine State.post_touch ?_ c_State_post _ _
    | with_reducible refine State.powerChanged_touch ?_ c_State_powerChanged
    | with_reducible refine State.event_touch ?_ _ ?_
    | with_reducible refine State.when_touch ?_ _ _ ?_
    | with_reducible intro _ _
    | with_reducible refine Touch.update ?_

def State.slotFallback_cells : List Nat :=
  [0xa01, 0xa32, 0xe01, 0xe14, 0x140f]

theorem State.slotFallback_touch {W0 : List Nat} {s0 s : State} (h0 : Touch W0 s0 s) (hW : Sub State.slotFallback_cells W0) :
    Touch W0 s0 (State.slotFallback s) := by
  have c_State_post : Sub State.post_cells W0 := Sub.trans (Sub.of rfl) hW
  have we01 : Writes W0 R.CLK_EVENT := Or.inl (hW.mem rfl)
  have we14 : Writes W0 R.CLK_PWD := Or.inl (hW.mem rfl)
  unfold State.slotFallback
  repeat' first
    | with_reducible assumption
    | (extract_lets +onlyGivenNames xx; guard_hyp xx : State := _; refine Touch.cut (x := xx) ?_ ?_; (on_goal 2 => (intro hh; (try clear_value xx); revert xx; intro _ _)); any_goals (revert xx; intro _))
    | (extract_lets +onlyGivenNames xx; (try clear_value xx); revert xx; intro _)
    | with_reducible refine State.post_touch ?_ c_State_post _ _
    | with_reducible refine State.event_touch ?_ _ ?_
    | with_reducible refine State.setField_touch ?_ _ _ ?_
    | with_reducible refine State.setFlag_touch ?_ _ _ ?_
    | with_reducible refine Touch.ite ?_ ?_

def State.countPwd_cells : List Nat :=
  [0xa01, 0xa32, 0xe01, 0xe14, 0xe17, 0x140f]

theorem State.countPwd_touch {W0 : List Nat} {s0 s : State} (h0 : Touch W0 s0 s) (hW : Sub State.countPwd_cells W0) :
    Touch W0 s0 (State.countPwd s) := by
  have c_State_slotFallback : Sub State.slotFallback_cells W0 := Sub.trans (Sub.of rfl) hW
  have we14 : Writes W0 R.CLK_PWD := Or.inl (hW.mem rfl)
  have we17 : Writes W0 R.CLK_PWDCNT := Or.inl (hW.mem rfl)
  unfold State.countPwd
  repeat' first
    | with_reducible assumption
    | (extract_lets +onlyGivenNames xx; guard_hyp xx : State := _; refine Touch.cut (x := xx) ?_ ?_; (on_goal 2 => (intro hh; (try clear_value xx); revert xx; intro _ _)); any_goals (revert xx; intro _))
    | (extract_lets +onlyGivenNames xx; (try clear_value xx); revert xx; intro _)
    | with_reducible refine State.slotFallback_touch ?_ c_State_slotFallback
    | with_reducible refine State.bump_touch ?_ _ _ ?_
    | with_reducible refine State.setField_touch ?_ _ _ ?_
    | with_reducible refine Touch.ite ?_ ?_

def execPwdExpire_cells : List Nat :=
  [0x2, 0x3, 0x6, 0x100, 0x200, 0x300, 0x301, 0x318, 0x31f, 0x400, 0x401, 0x405, 0x40e, 0x40f, 0x801, 0x901, 0x90b,
   0xa01, 0xa32, 0xb01, 0xb02, 0xb12, 0xc20, 0xc21, 0xc25, 0xc30, 0xc34, 0xd18, 0xe01, 0xe14, 0xe17, 0x1000, 0x1402,
   0x1403, 0x1404, 0x1405, 0x1408, 0x1409, 0x140b, 0x140c, 0x140d, 0x140f, 0x1410, 0x1411, 0x1412, 0x1413, 0x1415,
   0x1418, 0x1430]

theorem execPwdExpire_touch {W0 : List Nat} {s0 s : State} (h0 : Touch W0 s0 s) (hW : Sub execPwdExpire_cells W0) :
    TouchOut W0 s0 (execPwdExpire s) := by
  have c_State_countPwd : Sub State.countPwd_cells W0 := Sub.trans (Sub.of rfl) hW
  have c_State_coreReset : Sub State.coreReset_cells W0 := Sub.trans (Sub.of rfl) hW
  have w1413 : 0x1413 ∈ W0 := hW.mem rfl
  unfold execPwdExpire
  repeat' first
    | with_reducible assumption
    | with_reducible refine TouchOut.next ?_
    | (extract_lets +onlyGivenNames xx; guard_hyp xx : State := _; refine Touch.cut (x := xx) ?_ ?_; (on_goal 2 => (intro hh; (try clear_value xx); revert xx; intro _ _)); any_goals (revert xx; intro _))
    | (extract_lets +onlyGivenNames xx; (try clear_value xx); revert xx; intro _)
    | with_reducible refine State.countPwd_touch ?_ c_State_countPwd
    | with_reducible refine State.coreReset_touch ?_ c_State_coreReset _
    | with_reducible refine State.when_touch ?_ _ _ ?_
    | with_reducible intro _ _
    | with_reducible refine Touch.update ?_

def execPwdWaitEnd_cells : List Nat :=
  [0x1410]

theorem execPwdWaitEnd_touch {W0 : List Nat} {s0 s : State} (h0 : Touch W0 s0 s) (hW : Sub execPwdWaitEnd_cells W0) (ticks : Nat) :
    TouchOut W0 s0 (execPwdWaitEnd ticks s) := by
  have w1410 : 0x1410 ∈ W0 := hW.mem rfl
  unfold execPwdWaitEnd
  repeat' first
    | with_reducible assumption
    | with_reducible refine TouchOut.next ?_
    | (extract_lets +onlyGivenNames xx; (try clear_value xx); revert xx; intro _)
    | with_reducible refine State.when_touch ?_ _ _ ?_
    | with_reducible intro _ _
    | with_reducible refine Touch.update ?_

def execPwdSlotStable_cells : List Nat :=
  [0xe14]

theorem execPwdSlotStable_touch {W0 : List Nat} {s0 s : State} (h0 : Touch W0 s0 s) (hW : Sub execPwdSlotStable_cells W0) :
    TouchOut W0 s0 (execPwdSlotStable s) := by
  have we14 : Writes W0 R.CLK_PWD := Or.inl (hW.mem rfl)
  unfold execPwdSlotStable
  repeat' first
    | with_reducible assumption
    | with_reducible refine TouchOut.next ?_
    | with_reducible refine State.setField_touch ?_ _ _ ?_
    | with_reducible refine State.when_touch ?_ _ _ ?_
    | with_reducible intro _ _

end Sys2Proof.Machine
end

