-- ==== Sys2Proof/Laws/TouchTwbOps.lean ====
section
/-!
SUPPORT. What each operation of Machine/TwbOps.lean can do: the registers and parts of the state it may write, and nothing
else; the unit, its queue and the form of its stores are kept.
-/

-- proofs are elaborated one after another: many at once ask for more threads than a memory limit allows
set_option Elab.async false

set_option linter.unusedTactic false
set_option linter.unusedVariables false
set_option linter.unusedSimpArgs false
set_option linter.unreachableTactic false
set_option linter.tactic.unusedName false

namespace Sys2Proof.Machine

def State.pushDrop_cells : List Nat :=
  [0x1416]

theorem State.pushDrop_touch {W0 : List Nat} {s0 s : State} (h0 : Touch W0 s0 s) (hW : Sub State.pushDrop_cells W0) :
    Touch W0 s0 (State.pushDrop s) := by
  have w1416 : 0x1416 ∈ W0 := hW.mem rfl
  unfold State.pushDrop
  repeat' first
    | with_reducible assumption
    | (extract_lets +onlyGivenNames xx; (try clear_value xx); revert xx; intro _)
    | with_reducible refine Touch.update ?_

def State.sumFall_cells : List Nat :=
  [0x1416]

theorem State.sumFall_touch {W0 : List Nat} {s0 s : State} (h0 : Touch W0 s0 s) (hW : Sub State.sumFall_cells W0) :
    Touch W0 s0 (State.sumFall s) := by
  have c_State_pushDrop : Sub State.pushDrop_cells W0 := Sub.trans (Sub.of rfl) hW
  have w1416 : 0x1416 ∈ W0 := hW.mem rfl
  unfold State.sumFall
  repeat' first
    | with_reducible assumption
    | (extract_lets +onlyGivenNames xx; guard_hyp xx : State := _; refine Touch.cut (x := xx) ?_ ?_; (on_goal 2 => (intro hh; (try clear_value xx); revert xx; intro _ _)); any_goals (revert xx; intro _))
    | (extract_lets +onlyGivenNames xx; (try clear_value xx); revert xx; intro _)
    | with_reducible refine State.pushDrop_touch ?_ c_State_pushDrop
    | with_reducible refine Touch.ite ?_ ?_
    | with_reducible refine Touch.update ?_

def State.pushRise_cells : List Nat :=
  [0xd0d, 0x1416]

theorem State.pushRise_touch {W0 : List Nat} {s0 s : State} (h0 : Touch W0 s0 s) (hW : Sub State.pushRise_cells W0) :
    Touch W0 s0 (State.pushRise s) := by
  have wd0d : Writes W0 R.TWB_PUSH := Or.inl (hW.mem rfl)
  have w1416 : 0x1416 ∈ W0 := hW.mem rfl
  unfold State.pushRise
  repeat' first
    | with_reducible assumption
    | (extract_lets +onlyGivenNames xx; guard_hyp xx : State := _; refine Touch.cut (x := xx) ?_ ?_; (on_goal 2 => (intro hh; (try clear_value xx); revert xx; intro _ _)); any_goals (revert xx; intro _))
    | (extract_lets +onlyGivenNames xx; (try clear_value xx); revert xx; intro _)
    | with_reducible refine State.setField_touch ?_ _ _ ?_
    | with_reducible refine Touch.ite ?_ ?_
    | with_reducible refine Touch.update ?_

def State.pushAwake_cells : List Nat :=
  [0xd00]

theorem State.pushAwake_touch {W0 : List Nat} {s0 s : State} (h0 : Touch W0 s0 s) (hW : Sub State.pushAwake_cells W0) :
    Touch W0 s0 (State.pushAwake s) := by
  have wd00 : Writes W0 R.TWB_STATUS := Or.inl (hW.mem rfl)
  unfold State.pushAwake
  repeat' first
    | with_reducible assumption
    | with_reducible refine State.setFlag_touch ?_ _ _ ?_
    | with_reducible refine Touch.ite ?_ ?_

def State.pushEnd_cells : List Nat :=
  [0x1416]

theorem State.pushEnd_touch {W0 : List Nat} {s0 s : State} (h0 : Touch W0 s0 s) (hW : Sub State.pushEnd_cells W0) :
    Touch W0 s0 (State.pushEnd s) := by
  have w1416 : 0x1416 ∈ W0 := hW.mem rfl
  unfold State.pushEnd
  repeat' first
    | with_reducible assumption
    | (extract_lets +onlyGivenNames xx; guard_hyp xx : State := _; refine Touch.cut (x := xx) ?_ ?_; (on_goal 2 => (intro hh; (try clear_value xx); revert xx; intro _ _)); any_goals (revert xx; intro _))
    | (extract_lets +onlyGivenNames xx; (try clear_value xx); revert xx; intro _)
    | with_reducible refine Touch.ite ?_ ?_
    | with_reducible refine Touch.update ?_

def State.pushBuild_cells : List Nat :=
  [0xd0d, 0x1416]

theorem State.pushBuild_touch {W0 : List Nat} {s0 s : State} (h0 : Touch W0 s0 s) (hW : Sub State.pushBuild_cells W0) :
    Touch W0 s0 (State.pushBuild s) := by
  have wd0d : Writes W0 R.TWB_PUSH := Or.inl (hW.mem rfl)
  have w1416 : 0x1416 ∈ W0 := hW.mem rfl
  unfold State.pushBuild
  repeat' first
    | with_reducible assumption
    | (extract_lets +onlyGivenNames xx; guard_hyp xx : State := _; refine Touch.cut (x := xx) ?_ ?_; (on_goal 2 => (intro hh; (try clear_value xx); revert xx; intro _ _)); any_goals (revert xx; intro _))
    | (extract_lets +onlyGivenNames xx; (try clear_value xx); revert xx; intro _)
    | with_reducible refine State.setField_touch ?_ _ _ ?_
    | with_reducible refine Touch.ite ?_ ?_
    | with_reducible refine Touch.update ?_

def State.pushFailed_cells : List Nat :=
  [0xd01, 0xd0d, 0xd14, 0x1416]

theorem State.pushFailed_touch {W0 : List Nat} {s0 s : State} (h0 : Touch W0 s0 s) (hW : Sub State.pushFailed_cells W0) :
    Touch W0 s0 (State.pushFailed s) := by
  have c_State_pushEnd : Sub State.pushEnd_cells W0 := Sub.trans (Sub.of rfl) hW
  have c_State_pushDrop : Sub State.pushDrop_cells W0 := Sub.trans (Sub.of rfl) hW
  have wd01 : Writes W0 R.TWB_EVENT := Or.inl (hW.mem rfl)
  have wd0d : Writes W0 R.TWB_PUSH := Or.inl (hW.mem rfl)
  have wd14 : Writes W0 R.TWB_PUSHFAIL := Or.inl (hW.mem rfl)
  have w1416 : 0x1416 ∈ W0 := hW.mem rfl
  unfold State.pushFailed
  repeat' first
    | with_reducible assumption
    | (extract_lets +onlyGivenNames xx; guard_hyp xx : State := _; refine Touch.cut (x := xx) ?_ ?_; (on_goal 2 => (intro hh; (try clear_value xx); revert xx; intro _ _)); any_goals (revert xx; intro _))
    | (extract_lets +onlyGivenNames xx; (try clear_value xx); revert xx; intro _)
    | with_reducible refine State.pushEnd_touch ?_ c_State_pushEnd
    | with_reducible refine State.pushDrop_touch ?_ c_State_pushDrop
    | with_reducible refine State.bump_touch ?_ _ _ ?_
    | with_reducible refine State.event_touch ?_ _ ?_
    | with_reducible refine State.setField_touch ?_ _ _ ?_
    | with_reducible refine Touch.ite ?_ ?_
    | with_reducible refine Touch.update ?_

end Sys2Proof.Machine
end

