-- ==== Sys2Proof/Laws/TouchRegActs.lean ====
section
/-!
SUPPORT. What each operation of Machine/RegActs.lean can do: the registers and parts of the state it may write, and nothing
else; the unit, its queue and the form of its stores are kept.
-/

-- proofs are elaborated one after another: many at once ask for more threads than a memory limit allows
set_option Elab.async false

set_option linter.unusedTactic false
set_option linter.unusedVariables false
set_option linter.unusedSimpArgs false
set_option linter.unreachableTactic false
set_option linter.tactic.unusedName false

namespace Sys2Proof.Machine

def State.stallWindow_cells : List Nat :=
  [0x623, 0x640, 0x641, 0x642, 0x643, 0x644, 0x645, 0x646, 0x647, 0x648, 0x649, 0x64a, 0x64b, 0x64c, 0x64d, 0x64e,
   0x64f, 0x650, 0x651, 0x652, 0x653, 0x654, 0x655, 0x656, 0x657, 0x658, 0x659, 0x65a, 0x65b, 0x65c, 0x65d, 0x65e,
   0x65f, 0xa01, 0xa32, 0x140b, 0x140f, 0x1417]

theorem State.stallWindow_touch {W0 : List Nat} {s0 s : State} (h0 : Touch W0 s0 s) (hW : Sub State.stallWindow_cells W0) :
    Touch W0 s0 (State.stallWindow s) := by
  have c_State_stallLoad : Sub State.stallLoad_cells W0 := Sub.trans (Sub.of rfl) hW
  have w623 : Writes W0 R.MKT_CACHE := Or.inl (hW.mem rfl)
  have w640 : Writes W0 R.MKT_STALLW0 := Or.inl (hW.mem rfl)
  have w641 : Writes W0 R.MKT_STALLW1 := Or.inl (hW.mem rfl)
  have w642 : Writes W0 R.MKT_STALLW2 := Or.inl (hW.mem rfl)
  have w643 : Writes W0 R.MKT_STALLW3 := Or.inl (hW.mem rfl)
  have w644 : Writes W0 R.MKT_STALLW4 := Or.inl (hW.mem rfl)
  have w645 : Writes W0 R.MKT_STALLW5 := Or.inl (hW.mem rfl)
  have w646 : Writes W0 R.MKT_STALLW6 := Or.inl (hW.mem rfl)
  have w647 : Writes W0 R.MKT_STALLW7 := Or.inl (hW.mem rfl)
  have w648 : Writes W0 R.MKT_STALLW8 := Or.inl (hW.mem rfl)
  have w649 : Writes W0 R.MKT_STALLW9 := Or.inl (hW.mem rfl)
  have w64a : Writes W0 R.MKT_STALLW10 := Or.inl (hW.mem rfl)
  have w64b : Writes W0 R.MKT_STALLW11 := Or.inl (hW.mem rfl)
  have w64c : Writes W0 R.MKT_STALLW12 := Or.inl (hW.mem rfl)
  have w64d : Writes W0 R.MKT_STALLW13 := Or.inl (hW.mem rfl)
  have w64e : Writes W0 R.MKT_STALLW14 := Or.inl (hW.mem rfl)
  have w64f : Writes W0 R.MKT_STALLW15 := Or.inl (hW.mem rfl)
  have w650 : Writes W0 R.MKT_STALLW16 := Or.inl (hW.mem rfl)
  have w651 : Writes W0 R.MKT_STALLW17 := Or.inl (hW.mem rfl)
  have w652 : Writes W0 R.MKT_STALLW18 := Or.inl (hW.mem rfl)
  have w653 : Writes W0 R.MKT_STALLW19 := Or.inl (hW.mem rfl)
  have w654 : Writes W0 R.MKT_STALLW20 := Or.inl (hW.mem rfl)
  have w655 : Writes W0 R.MKT_STALLW21 := Or.inl (hW.mem rfl)
  have w656 : Writes W0 R.MKT_STALLW22 := Or.inl (hW.mem rfl)
  have w657 : Writes W0 R.MKT_STALLW23 := Or.inl (hW.mem rfl)
  have w658 : Writes W0 R.MKT_STALLW24 := Or.inl (hW.mem rfl)
  have w659 : Writes W0 R.MKT_STALLW25 := Or.inl (hW.mem rfl)
  have w65a : Writes W0 R.MKT_STALLW26 := Or.inl (hW.mem rfl)
  have w65b : Writes W0 R.MKT_STALLW27 := Or.inl (hW.mem rfl)
  have w65c : Writes W0 R.MKT_STALLW28 := Or.inl (hW.mem rfl)
  have w65d : Writes W0 R.MKT_STALLW29 := Or.inl (hW.mem rfl)
  have w65e : Writes W0 R.MKT_STALLW30 := Or.inl (hW.mem rfl)
  have w65f : Writes W0 R.MKT_STALLW31 := Or.inl (hW.mem rfl)
  unfold State.stallWindow
  repeat' first
    | with_reducible assumption
    | (extract_lets +onlyGivenNames xx; guard_hyp xx : State := _; refine Touch.cut (x := xx) ?_ ?_; (on_goal 2 => (intro hh; (try clear_value xx); revert xx; intro _ _)); any_goals (revert xx; intro _))
    | (extract_lets +onlyGivenNames xx; (try clear_value xx); revert xx; intro _)
    | with_reducible refine State.stallLoad_touch ?_ c_State_stallLoad _
    | with_reducible refine State.setFlag_touch ?_ _ _ ?_
    | (with_reducible intro k hk; (try simp only [List.length_cons, List.length_nil, List.length_map, List.length_range, List.length_replicate] at hk); interval_cases k)
    | with_reducible refine State.setRegs_touch _ _ _ ?_ ?_

def State.hostTag_cells : List Nat :=
  [0xa01, 0xa32, 0x140b, 0x140f, 0x1417]

theorem State.hostTag_touch {W0 : List Nat} {s0 s : State} (h0 : Touch W0 s0 s) (hW : Sub State.hostTag_cells W0) (v : Word) :
    Touch W0 s0 (State.hostTag s v) := by
  have c_State_stallBytes : Sub State.stallBytes_cells W0 := Sub.trans (Sub.of rfl) hW
  unfold State.hostTag
  repeat' first
    | with_reducible assumption
    | with_reducible refine State.stallBytes_touch ?_ c_State_stallBytes _ _ _

def State.wbSelect_cells : List Nat :=
  [0x811, 0x1411]

theorem State.wbSelect_touch {W0 : List Nat} {s0 s : State} (h0 : Touch W0 s0 s) (hW : Sub State.wbSelect_cells W0) :
    Touch W0 s0 (State.wbSelect s) := by
  have w811 : Writes W0 R.WB_RDLEN := Or.inl (hW.mem rfl)
  have w1411 : 0x1411 ∈ W0 := hW.mem rfl
  unfold State.wbSelect
  repeat' first
    | with_reducible assumption
    | (extract_lets +onlyGivenNames xx; (try clear_value xx); revert xx; intro _)
    | with_reducible refine State.setReg_touch ?_ _ _ ?_
    | with_reducible refine Touch.update ?_

def State.marketEnables_cells : List Nat :=
  [0x140b]

theorem State.marketEnables_touch {W0 : List Nat} {s0 s : State} (h0 : Touch W0 s0 s) (hW : Sub State.marketEnables_cells W0) (old : Word) :
    Touch W0 s0 (State.marketEnables s old) := by
  have w140b : 0x140b ∈ W0 := hW.mem rfl
  unfold State.marketEnables
  repeat' first
    | with_reducible assumption
    | (extract_lets +onlyGivenNames xx; (try clear_value xx); revert xx; intro _)
    | with_reducible refine Touch.ite ?_ ?_
    | with_reducible refine Touch.update ?_

def State.optEnable_cells : List Nat :=
  [0xc20, 0x1415]

theorem State.optEnable_touch {W0 : List Nat} {s0 s : State} (h0 : Touch W0 s0 s) (hW : Sub State.optEnable_cells W0) :
    Touch W0 s0 (State.optEnable s) := by
  have wc20 : Writes W0 R.OPT_STATUS := Or.inl (hW.mem rfl)
  have w1415 : 0x1415 ∈ W0 := hW.mem rfl
  unfold State.optEnable
  repeat' first
    | with_reducible assumption
    | (extract_lets +onlyGivenNames xx; guard_hyp xx : State := _; refine Touch.cut (x := xx) ?_ ?_; (on_goal 2 => (intro hh; (try clear_value xx); revert xx; intro _ _)); any_goals (revert xx; intro _))
    | (extract_lets +onlyGivenNames xx; (try clear_value xx); revert xx; intro _)
    | with_reducible refine State.setFlag_touch ?_ _ _ ?_
    | with_reducible refine Touch.ite ?_ ?_
    | with_reducible refine Touch.update ?_

def State.pushEnable_cells : List Nat :=
  [0x1416]

theorem State.pushEnable_touch {W0 : List Nat} {s0 s : State} (h0 : Touch W0 s0 s) (hW : Sub State.pushEnable_cells W0) (old : Word) :
    Touch W0 s0 (State.pushEnable s old) := by
  have c_State_pushDrop : Sub State.pushDrop_cells W0 := Sub.trans (Sub.of rfl) hW
  have w1416 : 0x1416 ∈ W0 := hW.mem rfl
  unfold State.pushEnable
  repeat' first
    | with_reducible assumption
    | (extract_lets +onlyGivenNames xx; (try clear_value xx); revert xx; intro _)
    | with_reducible refine State.pushDrop_touch ?_ c_State_pushDrop
    | with_reducible refine Touch.ite ?_ ?_
    | with_reducible refine Touch.update ?_

def State.timeSet_cells : List Nat :=
  [0xa01, 0xa32, 0xe00, 0xe01, 0x140f, 0x1410]

theorem State.timeSet_touch {W0 : List Nat} {s0 s : State} (h0 : Touch W0 s0 s) (hW : Sub State.timeSet_cells W0) :
    Touch W0 s0 (State.timeSet s) := by
  have c_State_setTime : Sub State.setTime_cells W0 := Sub.trans (Sub.of rfl) hW
  have c_State_setTsrc : Sub State.setTsrc_cells W0 := Sub.trans (Sub.of rfl) hW
  have w1410 : 0x1410 ∈ W0 := hW.mem rfl
  unfold State.timeSet
  repeat' first
    | with_reducible assumption
    | (extract_lets +onlyGivenNames xx; guard_hyp xx : State := _; refine Touch.cut (x := xx) ?_ ?_; (on_goal 2 => (intro hh; (try clear_value xx); revert xx; intro _ _)); any_goals (revert xx; intro _))
    | (extract_lets +onlyGivenNames xx; (try clear_value xx); revert xx; intro _)
    | with_reducible refine State.setTime_touch ?_ c_State_setTime _
    | with_reducible refine State.setTsrc_touch ?_ c_State_setTsrc _ _ _
    | with_reducible refine Touch.update ?_

def State.hookLow_cells : List Nat :=
  [0x2, 0x6, 0x100, 0x101, 0x114, 0x200, 0x300, 0x301, 0x31f, 0x400, 0x401, 0x405, 0x40e, 0x40f, 0x500, 0x700, 0xa01,
   0xa32, 0xc20, 0xc21, 0xc25, 0x1404, 0x1405, 0x1407, 0x1408, 0x1409, 0x140d, 0x140f, 0x1412, 0x1413, 0x1415, 0x1417]

theorem State.hookLow_touch {W0 : List Nat} {s0 s : State} (h0 : Touch W0 s0 s) (hW : Sub State.hookLow_cells W0) (a : Nat) :
    Touch W0 s0 (State.hookLow s a) := by
  have c_State_enablesChanged : Sub State.enablesChanged_cells W0 := Sub.trans (Sub.of rfl) hW
  have c_State_pdReeval : Sub State.pdReeval_cells W0 := Sub.trans (Sub.of rfl) hW
  have c_State_reselect : Sub State.reselect_cells W0 := Sub.trans (Sub.of rfl) hW
  have c_State_holdInput : Sub State.holdInput_cells W0 := Sub.trans (Sub.of rfl) hW
  have c_State_trackChange : Sub State.trackChange_cells W0 := Sub.trans (Sub.of rfl) hW
  have c_State_tetHold : Sub State.tetHold_cells W0 := Sub.trans (Sub.of rfl) hW
  have c_State_refreshBatfet : Sub State.refreshBatfet_cells W0 := Sub.trans (Sub.of rfl) hW
  have c_State_chgDetect : Sub State.chgDetect_cells W0 := Sub.trans (Sub.of rfl) hW
  have c_State_refreshChgOff : Sub State.refreshChgOff_cells W0 := Sub.trans (Sub.of rfl) hW
  have c_State_refreshPartial : Sub State.refreshPartial_cells W0 := Sub.trans (Sub.of rfl) hW
  have c_State_chgFigures : Sub State.chgFigures_cells W0 := Sub.trans (Sub.of rfl) hW
  have c_State_tetMove : Sub State.tetMove_cells W0 := Sub.trans (Sub.of rfl) hW
  have c_State_vauxApply : Sub State.vauxApply_cells W0 := Sub.trans (Sub.of rfl) hW
  have c_State_holdCellok : Sub State.holdCellok_cells W0 := Sub.trans (Sub.of rfl) hW
  have c_State_powerChanged : Sub State.powerChanged_cells W0 := Sub.trans (Sub.of rfl) hW
  have c_State_refreshHorn : Sub State.refreshHorn_cells W0 := Sub.trans (Sub.of rfl) hW
  unfold State.hookLow
  repeat' first
    | with_reducible assumption
    | with_reducible refine State.enablesChanged_touch ?_ c_State_enablesChanged
    | with_reducible refine State.pdReeval_touch ?_ c_State_pdReeval
    | with_reducible refine State.reselect_touch ?_ c_State_reselect
    | with_reducible refine State.holdInput_touch ?_ c_State_holdInput
    | with_reducible refine State.trackChange_touch ?_ c_State_trackChange
    | with_reducible refine State.tetHold_touch ?_ c_State_tetHold
    | with_reducible refine State.refreshBatfet_touch ?_ c_State_refreshBatfet
    | with_reducible refine State.chgDetect_touch ?_ c_State_chgDetect
    | with_reducible refine State.refreshChgOff_touch ?_ c_State_refreshChgOff
    | with_reducible refine State.refreshPartial_touch ?_ c_State_refreshPartial
    | with_reducible refine State.chgFigures_touch ?_ c_State_chgFigures
    | with_reducible refine State.tetMove_touch ?_ c_State_tetMove
    | with_reducible refine State.vauxApply_touch ?_ c_State_vauxApply
    | with_reducible refine State.holdCellok_touch ?_ c_State_holdCellok
    | with_reducible refine State.powerChanged_touch ?_ c_State_powerChanged
    | with_reducible refine State.refreshHorn_touch ?_ c_State_refreshHorn
    | with_reducible refine Touch.ite ?_ ?_

def State.hookMid_cells : List Nat :=
  [0x2, 0x6, 0x400, 0x40e, 0x623, 0x640, 0x641, 0x642, 0x643, 0x644, 0x645, 0x646, 0x647, 0x648, 0x649, 0x64a, 0x64b,
   0x64c, 0x64d, 0x64e, 0x64f, 0x650, 0x651, 0x652, 0x653, 0x654, 0x655, 0x656, 0x657, 0x658, 0x659, 0x65a, 0x65b,
   0x65c, 0x65d, 0x65e, 0x65f, 0x700, 0x811, 0xa00, 0xa01, 0xa31, 0xa32, 0xb00, 0xb01, 0xb02, 0xb18, 0xc00, 0xc06,
   0xc20, 0xc30, 0xc34, 0xe00, 0x1404, 0x1405, 0x1406, 0x140b, 0x140c, 0x140f, 0x1411, 0x1412, 0x1413, 0x1414, 0x1415,
   0x1417, 0x1418]

theorem State.hookMid_touch {W0 : List Nat} {s0 s : State} (h0 : Touch W0 s0 s) (hW : Sub State.hookMid_cells W0) (a : Nat) (old : Word) :
    Touch W0 s0 (State.hookMid s a old) := by
  have c_State_marketEnables : Sub State.marketEnables_cells W0 := Sub.trans (Sub.of rfl) hW
  have c_State_tetHold : Sub State.tetHold_cells W0 := Sub.trans (Sub.of rfl) hW
  have c_State_stallWindow : Sub State.stallWindow_cells W0 := Sub.trans (Sub.of rfl) hW
  have c_State_refreshHsw : Sub State.refreshHsw_cells W0 := Sub.trans (Sub.of rfl) hW
  have c_State_tdiscChange : Sub State.tdiscChange_cells W0 := Sub.trans (Sub.of rfl) hW
  have c_State_wbSelect : Sub State.wbSelect_cells W0 := Sub.trans (Sub.of rfl) hW
  have c_State_refreshBack : Sub State.refreshBack_cells W0 := Sub.trans (Sub.of rfl) hW
  have c_State_pdReeval : Sub State.pdReeval_cells W0 := Sub.trans (Sub.of rfl) hW
  have c_State_svcModeEnd : Sub State.svcModeEnd_cells W0 := Sub.trans (Sub.of rfl) hW
  have c_State_usbRefresh : Sub State.usbRefresh_cells W0 := Sub.trans (Sub.of rfl) hW
  have c_State_optEnable : Sub State.optEnable_cells W0 := Sub.trans (Sub.of rfl) hW
  unfold State.hookMid
  repeat' first
    | with_reducible assumption
    | with_reducible refine State.marketEnables_touch ?_ c_State_marketEnables _
    | with_reducible refine State.tetHold_touch ?_ c_State_tetHold
    | with_reducible refine State.stallWindow_touch ?_ c_State_stallWindow
    | with_reducible refine State.refreshHsw_touch ?_ c_State_refreshHsw
    | with_reducible refine State.tdiscChange_touch ?_ c_State_tdiscChange _
    | with_reducible refine State.wbSelect_touch ?_ c_State_wbSelect
    | with_reducible refine State.refreshBack_touch ?_ c_State_refreshBack
    | with_reducible refine State.pdReeval_touch ?_ c_State_pdReeval
    | with_reducible refine State.svcModeEnd_touch ?_ c_State_svcModeEnd _
    | with_reducible refine State.usbRefresh_touch ?_ c_State_usbRefresh
    | with_reducible refine State.optEnable_touch ?_ c_State_optEnable
    | with_reducible refine Touch.ite ?_ ?_

def State.hookHigh_cells : List Nat :=
  [0xa01, 0xa32, 0xc00, 0xe00, 0xe01, 0x140f, 0x1410, 0x1416]

theorem State.hookHigh_touch {W0 : List Nat} {s0 s : State} (h0 : Touch W0 s0 s) (hW : Sub State.hookHigh_cells W0) (a : Nat) (old : Word) :
    Touch W0 s0 (State.hookHigh s a old) := by
  have c_State_pushEnable : Sub State.pushEnable_cells W0 := Sub.trans (Sub.of rfl) hW
  have c_State_xtalChange : Sub State.xtalChange_cells W0 := Sub.trans (Sub.of rfl) hW
  have c_State_usbUnlock : Sub State.usbUnlock_cells W0 := Sub.trans (Sub.of rfl) hW
  have c_State_hwdChange : Sub State.hwdChange_cells W0 := Sub.trans (Sub.of rfl) hW
  have c_State_timeSet : Sub State.timeSet_cells W0 := Sub.trans (Sub.of rfl) hW
  unfold State.hookHigh
  repeat' first
    | with_reducible assumption
    | with_reducible refine State.pushEnable_touch ?_ c_State_pushEnable _
    | with_reducible refine State.xtalChange_touch ?_ c_State_xtalChange _
    | with_reducible refine State.usbUnlock_touch ?_ c_State_usbUnlock
    | with_reducible refine State.hwdChange_touch ?_ c_State_hwdChange _
    | with_reducible refine State.timeSet_touch ?_ c_State_timeSet
    | with_reducible refine Touch.ite ?_ ?_

def State.hook_cells : List Nat :=
  [0x2, 0x6, 0x100, 0x101, 0x114, 0x200, 0x300, 0x301, 0x31f, 0x400, 0x401, 0x405, 0x40e, 0x40f, 0x500, 0x623, 0x640,
   0x641, 0x642, 0x643, 0x644, 0x645, 0x646, 0x647, 0x648, 0x649, 0x64a, 0x64b, 0x64c, 0x64d, 0x64e, 0x64f, 0x650,
   0x651, 0x652, 0x653, 0x654, 0x655, 0x656, 0x657, 0x658, 0x659, 0x65a, 0x65b, 0x65c, 0x65d, 0x65e, 0x65f, 0x700,
   0x811, 0xa00, 0xa01, 0xa31, 0xa32, 0xb00, 0xb01, 0xb02, 0xb18, 0xc00, 0xc06, 0xc20, 0xc21, 0xc25, 0xc30, 0xc34,
   0xe00, 0xe01, 0x1404, 0x1405, 0x1406, 0x1407, 0x1408, 0x1409, 0x140b, 0x140c, 0x140d, 0x140f, 0x1410, 0x1411,
   0x1412, 0x1413, 0x1414, 0x1415, 0x1416, 0x1417, 0x1418]

theorem State.hook_touch {W0 : List Nat} {s0 s : State} (h0 : Touch W0 s0 s) (hW : Sub State.hook_cells W0) (a : Nat) (old : Word) :
    Touch W0 s0 (State.hook s a old) := by
  have c_State_hookLow : Sub State.hookLow_cells W0 := Sub.trans (Sub.of rfl) hW
  have c_State_hookMid : Sub State.hookMid_cells W0 := Sub.trans (Sub.of rfl) hW
  have c_State_hookHigh : Sub State.hookHigh_cells W0 := Sub.trans (Sub.of rfl) hW
  unfold State.hook
  repeat' first
    | with_reducible assumption
    | with_reducible refine State.hookLow_touch ?_ c_State_hookLow _
    | with_reducible refine State.hookMid_touch ?_ c_State_hookMid _ _
    | with_reducible refine State.hookHigh_touch ?_ c_State_hookHigh _ _
    | with_reducible refine Touch.ite ?_ ?_

def State.ledgerSetup_cells : List Nat :=
  [0xa00, 0xa16, 0xa17, 0x140f]

theorem State.ledgerSetup_touch {W0 : List Nat} {s0 s : State} (h0 : Touch W0 s0 s) (hW : Sub State.ledgerSetup_cells W0) (mode : Nat) :
    Touch W0 s0 (State.ledgerSetup s mode) := by
  have wa00 : Writes W0 R.LGR_STATUS := Or.inl (hW.mem rfl)
  have wa16 : Writes W0 R.LGR_RDSTAT := Or.inl (hW.mem rfl)
  have wa17 : Writes W0 R.LGR_RDLEN := Or.inl (hW.mem rfl)
  have w140f : 0x140f ∈ W0 := hW.mem rfl
  unfold State.ledgerSetup
  repeat' first
    | with_reducible assumption
    | (extract_lets +onlyGivenNames xx; guard_hyp xx : State := _; refine Touch.cut (x := xx) ?_ ?_; (on_goal 2 => (intro hh; (try clear_value xx); revert xx; intro _ _)); any_goals (revert xx; intro _))
    | (extract_lets +onlyGivenNames xx; guard_hyp xx : (Ledger) := _; revert xx; intro _)
    | with_reducible refine State.setFlag_touch ?_ _ _ ?_
    | with_reducible refine State.setReg_touch ?_ _ _ ?_
    | with_reducible refine Touch.ite ?_ ?_
    | split
    | with_reducible refine Touch.update ?_

def State.hostPost_cells : List Nat :=
  [0xa00, 0xa28, 0xa29, 0xa2a, 0xa2b, 0x140f]

theorem State.hostPost_touch {W0 : List Nat} {s0 s : State} (h0 : Touch W0 s0 s) (hW : Sub State.hostPost_cells W0) (typ : Nat) (len : Nat) :
    Touch W0 s0 (State.hostPost s typ len) := by
  have wa00 : Writes W0 R.LGR_STATUS := Or.inl (hW.mem rfl)
  have wa28 : Writes W0 R.LGR_HRES := Or.inl (hW.mem rfl)
  have wa29 : Writes W0 R.LGR_HSEQ2 := Or.inl (hW.mem rfl)
  have wa2a : Writes W0 R.LGR_HSEQ1 := Or.inl (hW.mem rfl)
  have wa2b : Writes W0 R.LGR_HSEQ0 := Or.inl (hW.mem rfl)
  have w140f : 0x140f ∈ W0 := hW.mem rfl
  unfold State.hostPost
  repeat' first
    | with_reducible assumption
    | (extract_lets +onlyGivenNames xx; guard_hyp xx : State := _; refine Touch.cut (x := xx) ?_ ?_; (on_goal 2 => (intro hh; (try clear_value xx); revert xx; intro _ _)); any_goals (revert xx; intro _))
    | (extract_lets +onlyGivenNames xx; guard_hyp xx : (Ledger) := _; revert xx; intro _)
    | (extract_lets +onlyGivenNames xx; (try clear_value xx); revert xx; intro _)
    | with_reducible refine State.setFlag_touch ?_ _ _ ?_
    | with_reducible refine State.setReg_touch ?_ _ _ ?_
    | with_reducible refine Touch.ite ?_ ?_
    | (with_reducible intro k hk; (try simp only [List.length_cons, List.length_nil, List.length_map, List.length_range, List.length_replicate] at hk); interval_cases k)
    | split
    | with_reducible refine State.setGroup_touch _ _ _ _ ?_ ?_
    | with_reducible refine Touch.update ?_

def State.snapTake_cells : List Nat :=
  [0x1403, 0x1430]

theorem State.snapTake_touch {W0 : List Nat} {s0 s : State} (h0 : Touch W0 s0 s) (hW : Sub State.snapTake_cells W0) (reading : Bool) :
    Touch W0 s0 (State.snapTake s reading) := by
  have c_State_snapShow : Sub State.snapShow_cells W0 := Sub.trans (Sub.of rfl) hW
  have w1403 : 0x1403 ∈ W0 := hW.mem rfl
  unfold State.snapTake
  repeat' first
    | with_reducible assumption
    | (extract_lets +onlyGivenNames xx; guard_hyp xx : State := _; refine Touch.cut (x := xx) ?_ ?_; (on_goal 2 => (intro hh; (try clear_value xx); revert xx; intro _ _)); any_goals (revert xx; intro _))
    | (extract_lets +onlyGivenNames xx; (try clear_value xx); revert xx; intro _)
    | with_reducible refine State.snapShow_touch ?_ c_State_snapShow
    | with_reducible refine Touch.ite ?_ ?_
    | with_reducible refine Touch.update ?_

def State.hwdKick_cells : List Nat :=
  [0xe00, 0x1410]

theorem State.hwdKick_touch {W0 : List Nat} {s0 s : State} (h0 : Touch W0 s0 s) (hW : Sub State.hwdKick_cells W0) :
    Touch W0 s0 (State.hwdKick s) := by
  have we00 : Writes W0 R.CLK_STATUS := Or.inl (hW.mem rfl)
  have w1410 : 0x1410 ∈ W0 := hW.mem rfl
  unfold State.hwdKick
  repeat' first
    | with_reducible assumption
    | (extract_lets +onlyGivenNames xx; guard_hyp xx : State := _; refine Touch.cut (x := xx) ?_ ?_; (on_goal 2 => (intro hh; (try clear_value xx); revert xx; intro _ _)); any_goals (revert xx; intro _))
    | (extract_lets +onlyGivenNames xx; (try clear_value xx); revert xx; intro _)
    | with_reducible refine State.setFlag_touch ?_ _ _ ?_
    | with_reducible refine Touch.ite ?_ ?_
    | with_reducible refine Touch.update ?_

def State.pwdKick_cells : List Nat :=
  [0x1410]

theorem State.pwdKick_touch {W0 : List Nat} {s0 s : State} (h0 : Touch W0 s0 s) (hW : Sub State.pwdKick_cells W0) (v : Word) :
    Touch W0 s0 (State.pwdKick s v) := by
  have w1410 : 0x1410 ∈ W0 := hW.mem rfl
  unfold State.pwdKick
  repeat' first
    | with_reducible assumption
    | (extract_lets +onlyGivenNames xx; (try clear_value xx); revert xx; intro _)
    | with_reducible refine Touch.ite ?_ ?_
    | with_reducible refine Touch.update ?_

def State.pdCtrl_cells : List Nat :=
  [0x2, 0x6, 0xa01, 0xa32, 0xb01, 0xb02, 0xb12, 0xc30, 0xc34, 0x1404, 0x1405, 0x140c, 0x140f, 0x1412, 0x1413, 0x1418]

theorem State.pdCtrl_touch {W0 : List Nat} {s0 s : State} (h0 : Touch W0 s0 s) (hW : Sub State.pdCtrl_cells W0) (req : Requester) (v : Word) :
    Touch W0 s0 (State.pdCtrl s req v) := by
  have c_State_pdOwner : Sub State.pdOwner_cells W0 := Sub.trans (Sub.of rfl) hW
  have c_State_pdAsk : Sub State.pdAsk_cells W0 := Sub.trans (Sub.of rfl) hW
  have c_State_svcModeEnd : Sub State.svcModeEnd_cells W0 := Sub.trans (Sub.of rfl) hW
  have wb12 : Writes W0 R.PD_CTRL := Or.inl (hW.mem rfl)
  have w1412 : 0x1412 ∈ W0 := hW.mem rfl
  unfold State.pdCtrl
  repeat' first
    | with_reducible assumption
    | (extract_lets +onlyGivenNames xx; guard_hyp xx : State := _; refine Touch.cut (x := xx) ?_ ?_; (on_goal 2 => (intro hh; (try clear_value xx); revert xx; intro _ _)); any_goals (revert xx; intro _))
    | (extract_lets +onlyGivenNames xx; (try clear_value xx); revert xx; intro _)
    | with_reducible refine State.pdOwner_touch ?_ c_State_pdOwner _ _
    | with_reducible refine State.pdAsk_touch ?_ c_State_pdAsk _
    | with_reducible refine State.svcModeEnd_touch ?_ c_State_svcModeEnd _
    | with_reducible refine State.setFlag_touch ?_ _ _ ?_
    | with_reducible refine Touch.ite ?_ ?_
    | with_reducible refine Touch.update ?_

def State.chgCtrl_cells : List Nat :=
  [0x2, 0x6, 0x100, 0x200, 0x300, 0x301, 0x31f, 0x400, 0x401, 0x405, 0x40e, 0x40f, 0x900, 0x901, 0xa01, 0xa32, 0x1408,
   0x1409, 0x140c, 0x140f]

theorem State.chgCtrl_touch {W0 : List Nat} {s0 s : State} (h0 : Touch W0 s0 s) (hW : Sub State.chgCtrl_cells W0) (v : Word) :
    Touch W0 s0 (State.chgCtrl s v) := by
  have c_State_chgClear : Sub State.chgClear_cells W0 := Sub.trans (Sub.of rfl) hW
  have c_State_chgFullRequest : Sub State.chgFullRequest_cells W0 := Sub.trans (Sub.of rfl) hW
  unfold State.chgCtrl
  repeat' first
    | with_reducible assumption
    | (extract_lets +onlyGivenNames xx; guard_hyp xx : State := _; refine Touch.cut (x := xx) ?_ ?_; (on_goal 2 => (intro hh; (try clear_value xx); revert xx; intro _ _)); any_goals (revert xx; intro _))
    | with_reducible refine State.chgClear_touch ?_ c_State_chgClear
    | with_reducible refine State.chgFullRequest_touch ?_ c_State_chgFullRequest
    | with_reducible refine Touch.ite ?_ ?_

def State.readdress_cells : List Nat :=
  [0x500, 0x504, 0x140a, 0x140f, 0x1417]

theorem State.readdress_touch {W0 : List Nat} {s0 s : State} (h0 : Touch W0 s0 s) (hW : Sub State.readdress_cells W0) :
    Touch W0 s0 (State.readdress s) := by
  have c_State_storeTetAddr : Sub State.storeTetAddr_cells W0 := Sub.trans (Sub.of rfl) hW
  have c_State_setHeld : Sub State.setHeld_cells W0 := Sub.trans (Sub.of rfl) hW
  have c_State_startListening : Sub State.startListening_cells W0 := Sub.trans (Sub.of rfl) hW
  have c_State_retarget : Sub State.retarget_cells W0 := Sub.trans (Sub.of rfl) hW
  have w140a : 0x140a ∈ W0 := hW.mem rfl
  unfold State.readdress
  repeat' first
    | with_reducible assumption
    | (extract_lets +onlyGivenNames xx; guard_hyp xx : State := _; refine Touch.cut (x := xx) ?_ ?_; (on_goal 2 => (intro hh; (try clear_value xx); revert xx; intro _ _)); any_goals (revert xx; intro _))
    | (extract_lets +onlyGivenNames xx; (try clear_value xx); revert xx; intro _)
    | with_reducible refine State.storeTetAddr_touch ?_ c_State_storeTetAddr _
    | with_reducible refine State.setHeld_touch ?_ c_State_setHeld _
    | with_reducible refine State.startListening_touch ?_ c_State_startListening
    | with_reducible refine State.retarget_touch ?_ c_State_retarget
    | with_reducible refine Touch.ite ?_ ?_
    | with_reducible refine Touch.update ?_

def State.linkTest_cells : List Nat :=
  [0x501, 0x140a]

theorem State.linkTest_touch {W0 : List Nat} {s0 s : State} (h0 : Touch W0 s0 s) (hW : Sub State.linkTest_cells W0) :
    Touch W0 s0 (State.linkTest s) := by
  have c_State_postTx : Sub State.postTx_cells W0 := Sub.trans (Sub.of rfl) hW
  unfold State.linkTest
  repeat' first
    | with_reducible assumption
    | with_reducible refine State.postTx_touch ?_ c_State_postTx _ _ _

def State.tetCtrl_cells : List Nat :=
  [0x500, 0x501, 0x504, 0x140a, 0x140f, 0x1417]

theorem State.tetCtrl_touch {W0 : List Nat} {s0 s : State} (h0 : Touch W0 s0 s) (hW : Sub State.tetCtrl_cells W0) (v : Word) :
    Touch W0 s0 (State.tetCtrl s v) := by
  have c_State_postCensus : Sub State.postCensus_cells W0 := Sub.trans (Sub.of rfl) hW
  have c_State_linkTest : Sub State.linkTest_cells W0 := Sub.trans (Sub.of rfl) hW
  have c_State_readdress : Sub State.readdress_cells W0 := Sub.trans (Sub.of rfl) hW
  unfold State.tetCtrl
  repeat' first
    | with_reducible assumption
    | (extract_lets +onlyGivenNames xx; guard_hyp xx : State := _; refine Touch.cut (x := xx) ?_ ?_; (on_goal 2 => (intro hh; (try clear_value xx); revert xx; intro _ _)); any_goals (revert xx; intro _))
    | with_reducible refine State.postCensus_touch ?_ c_State_postCensus
    | with_reducible refine State.linkTest_touch ?_ c_State_linkTest
    | with_reducible refine State.readdress_touch ?_ c_State_readdress
    | with_reducible refine Touch.ite ?_ ?_

def State.clearCounts_cells : List Nat :=
  [0xa01, 0xa32, 0x140b, 0x140f, 0x1417]

theorem State.clearCounts_touch {W0 : List Nat} {s0 s : State} (h0 : Touch W0 s0 s) (hW : Sub State.clearCounts_cells W0) :
    Touch W0 s0 (State.clearCounts s) := by
  have c_State_stallBytes : Sub State.stallBytes_cells W0 := Sub.trans (Sub.of rfl) hW
  unfold State.clearCounts
  repeat' first
    | with_reducible assumption
    | with_reducible refine State.stallBytes_touch ?_ c_State_stallBytes _ _ _

def State.proofRequest_cells : List Nat :=
  [0x140c]

theorem State.proofRequest_touch {W0 : List Nat} {s0 s : State} (h0 : Touch W0 s0 s) (hW : Sub State.proofRequest_cells W0) :
    Touch W0 s0 (State.proofRequest s) := by
  have w140c : 0x140c ∈ W0 := hW.mem rfl
  unfold State.proofRequest
  repeat' first
    | with_reducible assumption
    | (extract_lets +onlyGivenNames xx; (try clear_value xx); revert xx; intro _)
    | with_reducible refine Touch.update ?_

def State.ledgerFlush_cells : List Nat :=
  [0xa00, 0xa01, 0xa31, 0x140f]

theorem State.ledgerFlush_touch {W0 : List Nat} {s0 s : State} (h0 : Touch W0 s0 s) (hW : Sub State.ledgerFlush_cells W0) :
    Touch W0 s0 (State.ledgerFlush s) := by
  have c_State_flushAccs : Sub State.flushAccs_cells W0 := Sub.trans (Sub.of rfl) hW
  have c_State_refreshBack : Sub State.refreshBack_cells W0 := Sub.trans (Sub.of rfl) hW
  unfold State.ledgerFlush
  repeat' first
    | with_reducible assumption
    | with_reducible refine State.flushAccs_touch ?_ c_State_flushAccs
    | with_reducible refine State.refreshBack_touch ?_ c_State_refreshBack

end Sys2Proof.Machine
end

