-- ==== Sys2Proof/Laws/TouchRegWrite.lean ====
section
/-!
SUPPORT. What each operation of Machine/RegWrite.lean can do: the registers and parts of the state it may write, and nothing
else; the unit, its queue and the form of its stores are kept.
-/

-- proofs are elaborated one after another: many at once ask for more threads than a memory limit allows
set_option Elab.async false

set_option linter.unusedTactic false
set_option linter.unusedVariables false
set_option linter.unusedSimpArgs false
set_option linter.unreachableTactic false
set_option linter.tactic.unusedName false

namespace Sys2Proof.Machine

def State.aonApply_cells : List Nat :=
  [0x2, 0x6, 0x100, 0x101, 0x114, 0x200, 0x300, 0x301, 0x31f, 0x400, 0x401, 0x405, 0x40e, 0x40f, 0x500, 0x623, 0x640,
   0x641, 0x642, 0x643, 0x644, 0x645, 0x646, 0x647, 0x648, 0x649, 0x64a, 0x64b, 0x64c, 0x64d, 0x64e, 0x64f, 0x650,
   0x651, 0x652, 0x653, 0x654, 0x655, 0x656, 0x657, 0x658, 0x659, 0x65a, 0x65b, 0x65c, 0x65d, 0x65e, 0x65f, 0x700,
   0x811, 0xa00, 0xa01, 0xa31, 0xa32, 0xb00, 0xb01, 0xb02, 0xb18, 0xc00, 0xc06, 0xc20, 0xc21, 0xc25, 0xc30, 0xc34,
   0xe00, 0xe01, 0x1403, 0x1404, 0x1405, 0x1406, 0x1407, 0x1408, 0x1409, 0x140b, 0x140c, 0x140d, 0x140f, 0x1410,
   0x1411, 0x1412, 0x1413, 0x1414, 0x1415, 0x1416, 0x1417, 0x1418]

theorem State.aonApply_touch {W0 : List Nat} {s0 s : State} (h0 : Touch W0 s0 s) (hW : Sub State.aonApply_cells W0) :
    Touch W0 s0 (State.aonApply s) := by
  have c_State_hook : Sub State.hook_cells W0 := Sub.trans (Sub.of rfl) hW
  have w1403 : 0x1403 ∈ W0 := hW.mem rfl
  unfold State.aonApply
  repeat' first
    | with_reducible assumption
    | (extract_lets +onlyGivenNames xx; (try clear_value xx); revert xx; intro _)
    | with_reducible refine State.hook_touch ?_ c_State_hook _ _
    | split
    | with_reducible refine Touch.update ?_

def State.putReg_cells : List Nat :=
  [0x2, 0x6, 0x100, 0x101, 0x114, 0x200, 0x300, 0x301, 0x31f, 0x400, 0x401, 0x405, 0x40e, 0x40f, 0x500, 0x623, 0x640,
   0x641, 0x642, 0x643, 0x644, 0x645, 0x646, 0x647, 0x648, 0x649, 0x64a, 0x64b, 0x64c, 0x64d, 0x64e, 0x64f, 0x650,
   0x651, 0x652, 0x653, 0x654, 0x655, 0x656, 0x657, 0x658, 0x659, 0x65a, 0x65b, 0x65c, 0x65d, 0x65e, 0x65f, 0x700,
   0x811, 0xa00, 0xa01, 0xa31, 0xa32, 0xb00, 0xb01, 0xb02, 0xb18, 0xc00, 0xc06, 0xc20, 0xc21, 0xc25, 0xc30, 0xc34,
   0xe00, 0xe01, 0x1403, 0x1404, 0x1405, 0x1406, 0x1407, 0x1408, 0x1409, 0x140b, 0x140c, 0x140d, 0x140f, 0x1410,
   0x1411, 0x1412, 0x1413, 0x1414, 0x1415, 0x1416, 0x1417, 0x1418, 0x1430]

theorem State.putReg_touch {W0 : List Nat} {s0 s : State} (h0 : Touch W0 s0 s) (hW : Sub State.putReg_cells W0) (r : RegInfo) (v : Word) (shadow : Bool) :
    Touch W0 s0 (State.putReg s r v shadow) := by
  have c_State_aonApply : Sub State.aonApply_cells W0 := Sub.trans (Sub.of rfl) hW
  have c_State_hook : Sub State.hook_cells W0 := Sub.trans (Sub.of rfl) hW
  have w1403 : 0x1403 ∈ W0 := hW.mem rfl
  have w1430 : 0x1430 ∈ W0 := hW.mem rfl
  unfold State.putReg
  repeat' first
    | with_reducible assumption
    | (extract_lets +onlyGivenNames xx; guard_hyp xx : State := _; refine Touch.cut (x := xx) ?_ ?_; (on_goal 2 => (intro hh; (try clear_value xx); revert xx; intro _ _)); any_goals (revert xx; intro _))
    | (extract_lets +onlyGivenNames xx; (try clear_value xx); revert xx; intro _)
    | with_reducible refine State.aonApply_touch ?_ c_State_aonApply
    | with_reducible refine State.hook_touch ?_ c_State_hook _ _
    | with_reducible refine State.setReg_touch ?_ _ _ ?_
    | with_reducible refine Touch.ite ?_ ?_
    | exact Or.inr (by with_reducible assumption)
    | with_reducible refine Touch.update ?_

def State.stageBytes_cells : List Nat :=
  [0xc30, 0x1405, 0x1418]

theorem stageWf_fold (i : Nat) (l : List (Byte × Nat)) (m : List Host.Cell) (h : stageWf m = true) :
    stageWf (l.foldl (fun (m : List Host.Cell) (p : Byte × Nat) => stagePut m (i + p.2) p.1) m) = true := by
  induction l generalizing m with
  | nil => exact h
  | cons p l ih => exact ih _ (stageWf_stagePut m _ _ h)

theorem State.stageBytes_touch {W0 : List Nat} {s0 s : State} (h0 : Touch W0 s0 s) (hW : Sub State.stageBytes_cells W0)
    (i : Nat) (l : List Byte) : Touch W0 s0 (s.stageBytes i l) := by
  refine State.setFlag_touch ?_ _ _ (Or.inl (hW.mem rfl))
  exact h0.staged (hW.mem rfl) (hW.mem rfl) (stageWf_fold i _ _)

def State.stageStep_cells : List Nat :=
  [0x1010]

theorem State.stageStep_touch {W0 : List Nat} {s0 s : State} (h0 : Touch W0 s0 s) (hW : Sub State.stageStep_cells W0) :
    Touch W0 s0 (State.stageStep s) := by
  have w1010 : Writes W0 R.CFG_STGADDR := Or.inl (hW.mem rfl)
  unfold State.stageStep
  repeat' first
    | with_reducible assumption
    | with_reducible refine State.setReg_touch ?_ _ _ ?_

def State.stageWrite_cells : List Nat :=
  [0x6, 0xc30, 0x1010, 0x1405, 0x1418]

theorem State.stageWrite_touch {W0 : List Nat} {s0 s : State} (h0 : Touch W0 s0 s) (hW : Sub State.stageWrite_cells W0) (req : Requester) (v : Word) :
    Touch W0 s0 (State.stageWrite s req v) := by
  have c_State_stageBytes : Sub State.stageBytes_cells W0 := Sub.trans (Sub.of rfl) hW
  have c_State_stageStep : Sub State.stageStep_cells W0 := Sub.trans (Sub.of rfl) hW
  have c_State_badWrite : Sub State.badWrite_cells W0 := Sub.trans (Sub.of rfl) hW
  unfold State.stageWrite
  repeat' first
    | with_reducible assumption
    | with_reducible refine State.stageBytes_touch ?_ c_State_stageBytes _ _
    | with_reducible refine State.stageStep_touch ?_ c_State_stageStep
    | with_reducible refine State.badWrite_touch ?_ c_State_badWrite
    | with_reducible refine Touch.ite ?_ ?_

def State.writeJudged_cells : List Nat :=
  [0x2, 0x6, 0x100, 0x101, 0x114, 0x200, 0x300, 0x301, 0x31f, 0x400, 0x401, 0x405, 0x40e, 0x40f, 0x500, 0x623, 0x640,
   0x641, 0x642, 0x643, 0x644, 0x645, 0x646, 0x647, 0x648, 0x649, 0x64a, 0x64b, 0x64c, 0x64d, 0x64e, 0x64f, 0x650,
   0x651, 0x652, 0x653, 0x654, 0x655, 0x656, 0x657, 0x658, 0x659, 0x65a, 0x65b, 0x65c, 0x65d, 0x65e, 0x65f, 0x700,
   0x811, 0xa00, 0xa01, 0xa31, 0xa32, 0xb00, 0xb01, 0xb02, 0xb18, 0xc00, 0xc06, 0xc20, 0xc21, 0xc25, 0xc30, 0xc34,
   0xe00, 0xe01, 0x1000, 0x1001, 0x1403, 0x1404, 0x1405, 0x1406, 0x1407, 0x1408, 0x1409, 0x140b, 0x140c, 0x140d,
   0x140f, 0x1410, 0x1411, 0x1412, 0x1413, 0x1414, 0x1415, 0x1416, 0x1417, 0x1418, 0x1430]

theorem State.writeJudged_touch {W0 : List Nat} {s0 s : State} (h0 : Touch W0 s0 s) (hW : Sub State.writeJudged_cells W0) (req : Requester) (r : RegInfo) (old : Word) (v : Word) (shadow : Bool) :
    Touch W0 s0 (State.writeJudged s req r old v shadow) := by
  have c_State_badWrite : Sub State.badWrite_cells W0 := Sub.trans (Sub.of rfl) hW
  have c_State_cfgDenied : Sub State.cfgDenied_cells W0 := Sub.trans (Sub.of rfl) hW
  have c_State_putReg : Sub State.putReg_cells W0 := Sub.trans (Sub.of rfl) hW
  have c_State_cfgWritten : Sub State.cfgWritten_cells W0 := Sub.trans (Sub.of rfl) hW
  have w1000 : Writes W0 R.CFG_STATUS := Or.inl (hW.mem rfl)
  unfold State.writeJudged
  repeat' first
    | with_reducible assumption
    | (extract_lets +onlyGivenNames xx; guard_hyp xx : State := _; refine Touch.cut (x := xx) ?_ ?_; (on_goal 2 => (intro hh; (try clear_value xx); revert xx; intro _ _)); any_goals (revert xx; intro _))
    | with_reducible refine State.badWrite_touch ?_ c_State_badWrite
    | with_reducible refine State.cfgDenied_touch ?_ c_State_cfgDenied
    | with_reducible refine State.putReg_touch ?_ c_State_putReg _ _ _
    | with_reducible refine State.cfgWritten_touch ?_ c_State_cfgWritten _
    | with_reducible refine State.setFlag_touch ?_ _ _ ?_
    | with_reducible refine Touch.ite ?_ ?_
    | split

def State.dropHold_cells : List Nat :=
  [0x1403]

theorem State.dropHold_touch {W0 : List Nat} {s0 s : State} (h0 : Touch W0 s0 s) (hW : Sub State.dropHold_cells W0) (first : Nat) :
    Touch W0 s0 (State.dropHold s first) := by
  have w1403 : 0x1403 ∈ W0 := hW.mem rfl
  unfold State.dropHold
  repeat' first
    | with_reducible assumption
    | (extract_lets +onlyGivenNames xx; (try clear_value xx); revert xx; intro _)
    | with_reducible refine Touch.update ?_

def State.holdPart_cells : List Nat :=
  [0x1403]

theorem State.holdPart_touch {W0 : List Nat} {s0 s : State} (h0 : Touch W0 s0 s) (hW : Sub State.holdPart_cells W0) (first : Nat) (a : Nat) (v : Word) :
    Touch W0 s0 (State.holdPart s first a v) := by
  have c_State_dropHold : Sub State.dropHold_cells W0 := Sub.trans (Sub.of rfl) hW
  have w1403 : 0x1403 ∈ W0 := hW.mem rfl
  unfold State.holdPart
  repeat' first
    | with_reducible assumption
    | (extract_lets +onlyGivenNames xx; guard_hyp xx : State := _; refine Touch.cut (x := xx) ?_ ?_; (on_goal 2 => (intro hh; (try clear_value xx); revert xx; intro _ _)); any_goals (revert xx; intro _))
    | (extract_lets +onlyGivenNames xx; (try clear_value xx); revert xx; intro _)
    | with_reducible refine State.dropHold_touch ?_ c_State_dropHold _
    | with_reducible refine Touch.update ?_

def State.putParts_cells : List Nat :=
  [0x2, 0x6, 0x100, 0x101, 0x114, 0x200, 0x300, 0x301, 0x31f, 0x400, 0x401, 0x405, 0x40e, 0x40f, 0x500, 0x623, 0x640,
   0x641, 0x642, 0x643, 0x644, 0x645, 0x646, 0x647, 0x648, 0x649, 0x64a, 0x64b, 0x64c, 0x64d, 0x64e, 0x64f, 0x650,
   0x651, 0x652, 0x653, 0x654, 0x655, 0x656, 0x657, 0x658, 0x659, 0x65a, 0x65b, 0x65c, 0x65d, 0x65e, 0x65f, 0x700,
   0x811, 0xa00, 0xa01, 0xa31, 0xa32, 0xb00, 0xb01, 0xb02, 0xb18, 0xc00, 0xc06, 0xc20, 0xc21, 0xc25, 0xc30, 0xc34,
   0xe00, 0xe01, 0x1403, 0x1404, 0x1405, 0x1406, 0x1407, 0x1408, 0x1409, 0x140b, 0x140c, 0x140d, 0x140f, 0x1410,
   0x1411, 0x1412, 0x1413, 0x1414, 0x1415, 0x1416, 0x1417, 0x1418, 0x1430]

theorem State.putParts_touch {W0 : List Nat} {s0 s : State} (h0 : Touch W0 s0 s) (hW : Sub State.putParts_cells W0) (shadow : Bool) (last : Nat) (parts : List (Nat × Word)) :
    Touch W0 s0 (State.putParts s shadow last parts) := by
  have c_State_putReg : Sub State.putReg_cells W0 := Sub.trans (Sub.of rfl) hW
  have w1430 : 0x1430 ∈ W0 := hW.mem rfl
  unfold State.putParts
  repeat' first
    | with_reducible assumption
    | with_reducible refine State.putReg_touch ?_ c_State_putReg _ _ _
    | with_reducible refine State.setReg_touch ?_ _ _ ?_
    | with_reducible refine Touch.foldl ?_ ?_
    | with_reducible refine Touch.ite ?_ ?_
    | with_reducible intro _ _
    | with_reducible intro _
    | split
    | exact Or.inr (by with_reducible assumption)

def State.writeGroup_cells : List Nat :=
  [0x2, 0x6, 0x100, 0x101, 0x114, 0x200, 0x300, 0x301, 0x31f, 0x400, 0x401, 0x405, 0x40e, 0x40f, 0x500, 0x623, 0x640,
   0x641, 0x642, 0x643, 0x644, 0x645, 0x646, 0x647, 0x648, 0x649, 0x64a, 0x64b, 0x64c, 0x64d, 0x64e, 0x64f, 0x650,
   0x651, 0x652, 0x653, 0x654, 0x655, 0x656, 0x657, 0x658, 0x659, 0x65a, 0x65b, 0x65c, 0x65d, 0x65e, 0x65f, 0x700,
   0x811, 0xa00, 0xa01, 0xa31, 0xa32, 0xb00, 0xb01, 0xb02, 0xb18, 0xc00, 0xc06, 0xc20, 0xc21, 0xc25, 0xc30, 0xc34,
   0xe00, 0xe01, 0x1000, 0x1001, 0x1403, 0x1404, 0x1405, 0x1406, 0x1407, 0x1408, 0x1409, 0x140b, 0x140c, 0x140d,
   0x140f, 0x1410, 0x1411, 0x1412, 0x1413, 0x1414, 0x1415, 0x1416, 0x1417, 0x1418, 0x1430]

theorem State.writeGroup_touch {W0 : List Nat} {s0 s : State} (h0 : Touch W0 s0 s) (hW : Sub State.writeGroup_cells W0) (req : Requester) (g : Nat × Nat) (v : Word) (shadow : Bool) :
    Touch W0 s0 (State.writeGroup s req g v shadow) := by
  have c_State_dropHold : Sub State.dropHold_cells W0 := Sub.trans (Sub.of rfl) hW
  have c_State_cfgDenied : Sub State.cfgDenied_cells W0 := Sub.trans (Sub.of rfl) hW
  have c_State_badWrite : Sub State.badWrite_cells W0 := Sub.trans (Sub.of rfl) hW
  have c_State_putParts : Sub State.putParts_cells W0 := Sub.trans (Sub.of rfl) hW
  have c_State_cfgWritten : Sub State.cfgWritten_cells W0 := Sub.trans (Sub.of rfl) hW
  unfold State.writeGroup
  repeat' first
    | with_reducible assumption
    | (extract_lets +onlyGivenNames xx; guard_hyp xx : State := _; refine Touch.cut (x := xx) ?_ ?_; (on_goal 2 => (intro hh; (try clear_value xx); revert xx; intro _ _)); any_goals (revert xx; intro _))
    | (extract_lets +onlyGivenNames xx; (try clear_value xx); revert xx; intro _)
    | with_reducible refine State.dropHold_touch ?_ c_State_dropHold _
    | with_reducible refine State.cfgDenied_touch ?_ c_State_cfgDenied
    | with_reducible refine State.badWrite_touch ?_ c_State_badWrite
    | with_reducible refine State.putParts_touch ?_ c_State_putParts _ _ _
    | with_reducible refine State.cfgWritten_touch ?_ c_State_cfgWritten _
    | with_reducible refine Touch.foldl ?_ ?_
    | with_reducible refine Touch.ite ?_ ?_
    | with_reducible intro _ _
    | with_reducible intro _
    | split

def State.actReg_cells : List Nat :=
  [0x2, 0x6, 0x100, 0x200, 0x300, 0x301, 0x31f, 0x400, 0x401, 0x405, 0x40e, 0x40f, 0x500, 0x501, 0x504, 0x700, 0x701,
   0x70c, 0x70d, 0x70e, 0x70f, 0x801, 0x806, 0x807, 0x900, 0x901, 0xa00, 0xa01, 0xa16, 0xa17, 0xa28, 0xa29, 0xa2a,
   0xa2b, 0xa31, 0xa32, 0xc30, 0xc34, 0xe00, 0x1402, 0x1403, 0x1405, 0x1406, 0x1408, 0x1409, 0x140a, 0x140b, 0x140c,
   0x140f, 0x1410, 0x1411, 0x1413, 0x1417, 0x1418, 0x1430]

theorem State.actReg_touch {W0 : List Nat} {s0 s : State} (h0 : Touch W0 s0 s) (hW : Sub State.actReg_cells W0) (req : Requester) (a : Nat) (v : Word) :
    Touch W0 s0 (State.actReg s req a v) := by
  have c_State_chgCtrl : Sub State.chgCtrl_cells W0 := Sub.trans (Sub.of rfl) hW
  have c_State_tetCtrl : Sub State.tetCtrl_cells W0 := Sub.trans (Sub.of rfl) hW
  have c_State_clearCounts : Sub State.clearCounts_cells W0 := Sub.trans (Sub.of rfl) hW
  have c_State_hushPress : Sub State.hushPress_cells W0 := Sub.trans (Sub.of rfl) hW
  have c_State_wbCommand : Sub State.wbCommand_cells W0 := Sub.trans (Sub.of rfl) hW
  have c_State_proofRequest : Sub State.proofRequest_cells W0 := Sub.trans (Sub.of rfl) hW
  have c_State_ledgerSetup : Sub State.ledgerSetup_cells W0 := Sub.trans (Sub.of rfl) hW
  have c_State_hostPost : Sub State.hostPost_cells W0 := Sub.trans (Sub.of rfl) hW
  have c_State_ledgerFlush : Sub State.ledgerFlush_cells W0 := Sub.trans (Sub.of rfl) hW
  have c_State_svcClose : Sub State.svcClose_cells W0 := Sub.trans (Sub.of rfl) hW
  have c_State_hwdKick : Sub State.hwdKick_cells W0 := Sub.trans (Sub.of rfl) hW
  have c_State_pwdKick : Sub State.pwdKick_cells W0 := Sub.trans (Sub.of rfl) hW
  have c_State_snapTake : Sub State.snapTake_cells W0 := Sub.trans (Sub.of rfl) hW
  unfold State.actReg
  repeat' first
    | with_reducible assumption
    | with_reducible refine State.chgCtrl_touch ?_ c_State_chgCtrl _
    | with_reducible refine State.tetCtrl_touch ?_ c_State_tetCtrl _
    | with_reducible refine State.clearCounts_touch ?_ c_State_clearCounts
    | with_reducible refine State.hushPress_touch ?_ c_State_hushPress
    | with_reducible refine State.wbCommand_touch ?_ c_State_wbCommand _ _
    | with_reducible refine State.proofRequest_touch ?_ c_State_proofRequest
    | with_reducible refine State.ledgerSetup_touch ?_ c_State_ledgerSetup _
    | with_reducible refine State.hostPost_touch ?_ c_State_hostPost _ _
    | with_reducible refine State.ledgerFlush_touch ?_ c_State_ledgerFlush
    | with_reducible refine State.svcClose_touch ?_ c_State_svcClose _
    | with_reducible refine State.hwdKick_touch ?_ c_State_hwdKick
    | with_reducible refine State.pwdKick_touch ?_ c_State_pwdKick _
    | with_reducible refine State.snapTake_touch ?_ c_State_snapTake _
    | with_reducible refine Touch.ite ?_ ?_

def State.polReg_cells : List Nat :=
  [0x2, 0x6, 0x100, 0x200, 0x300, 0x301, 0x318, 0x31a, 0x31f, 0x400, 0x401, 0x405, 0x40e, 0x40f, 0xa01, 0xa32, 0x1408,
   0x1409, 0x140f, 0x1430]

theorem State.polReg_touch {W0 : List Nat} {s0 s : State} (h0 : Touch W0 s0 s) (hW : Sub State.polReg_cells W0) (r : RegInfo) (v : Word) :
    Touch W0 s0 (State.polReg s r v) := by
  have c_State_badWrite : Sub State.badWrite_cells W0 := Sub.trans (Sub.of rfl) hW
  have c_State_setSoc : Sub State.setSoc_cells W0 := Sub.trans (Sub.of rfl) hW
  have c_State_setTarget : Sub State.setTarget_cells W0 := Sub.trans (Sub.of rfl) hW
  have c_State_tetMove : Sub State.tetMove_cells W0 := Sub.trans (Sub.of rfl) hW
  have c_State_refreshPartial : Sub State.refreshPartial_cells W0 := Sub.trans (Sub.of rfl) hW
  have w1430 : 0x1430 ∈ W0 := hW.mem rfl
  unfold State.polReg
  repeat' first
    | with_reducible assumption
    | (extract_lets +onlyGivenNames xx; guard_hyp xx : State := _; refine Touch.cut (x := xx) ?_ ?_; (on_goal 2 => (intro hh; (try clear_value xx); revert xx; intro _ _)); any_goals (revert xx; intro _))
    | with_reducible refine State.badWrite_touch ?_ c_State_badWrite
    | with_reducible refine State.setSoc_touch ?_ c_State_setSoc _
    | with_reducible refine State.setTarget_touch ?_ c_State_setTarget _ _
    | with_reducible refine State.tetMove_touch ?_ c_State_tetMove
    | with_reducible refine State.refreshPartial_touch ?_ c_State_refreshPartial
    | with_reducible refine State.setReg_touch ?_ _ _ ?_
    | with_reducible refine Touch.ite ?_ ?_
    | exact Or.inr (by with_reducible assumption)

def State.regWrite_cells : List Nat :=
  [0x2, 0x6, 0x100, 0x101, 0x114, 0x200, 0x300, 0x301, 0x318, 0x31a, 0x31f, 0x400, 0x401, 0x405, 0x40e, 0x40f, 0x500,
   0x501, 0x504, 0x623, 0x640, 0x641, 0x642, 0x643, 0x644, 0x645, 0x646, 0x647, 0x648, 0x649, 0x64a, 0x64b, 0x64c,
   0x64d, 0x64e, 0x64f, 0x650, 0x651, 0x652, 0x653, 0x654, 0x655, 0x656, 0x657, 0x658, 0x659, 0x65a, 0x65b, 0x65c,
   0x65d, 0x65e, 0x65f, 0x700, 0x701, 0x70c, 0x70d, 0x70e, 0x70f, 0x801, 0x806, 0x807, 0x811, 0x900, 0x901, 0xa00,
   0xa01, 0xa16, 0xa17, 0xa28, 0xa29, 0xa2a, 0xa2b, 0xa31, 0xa32, 0xb00, 0xb01, 0xb02, 0xb12, 0xb18, 0xc00, 0xc06,
   0xc20, 0xc21, 0xc25, 0xc30, 0xc34, 0xe00, 0xe01, 0x1000, 0x1001, 0x1010, 0x1402, 0x1403, 0x1404, 0x1405, 0x1406,
   0x1407, 0x1408, 0x1409, 0x140a, 0x140b, 0x140c, 0x140d, 0x140f, 0x1410, 0x1411, 0x1412, 0x1413, 0x1414, 0x1415,
   0x1416, 0x1417, 0x1418, 0x1430]

theorem State.regWrite_touch {W0 : List Nat} {s0 s : State} (h0 : Touch W0 s0 s) (hW : Sub State.regWrite_cells W0) (req : Requester) (form : Nat) (a : Nat) (v : Word) (shadow : Bool) :
    Touch W0 s0 (State.regWrite s req form a v shadow) := by
  have c_State_polReg : Sub State.polReg_cells W0 := Sub.trans (Sub.of rfl) hW
  have c_State_writeJudged : Sub State.writeJudged_cells W0 := Sub.trans (Sub.of rfl) hW
  have c_State_actReg : Sub State.actReg_cells W0 := Sub.trans (Sub.of rfl) hW
  have c_State_badWrite : Sub State.badWrite_cells W0 := Sub.trans (Sub.of rfl) hW
  have c_State_stageWrite : Sub State.stageWrite_cells W0 := Sub.trans (Sub.of rfl) hW
  have c_State_hostTag : Sub State.hostTag_cells W0 := Sub.trans (Sub.of rfl) hW
  have c_State_pdCtrl : Sub State.pdCtrl_cells W0 := Sub.trans (Sub.of rfl) hW
  have c_State_writeGroup : Sub State.writeGroup_cells W0 := Sub.trans (Sub.of rfl) hW
  have c_State_holdPart : Sub State.holdPart_cells W0 := Sub.trans (Sub.of rfl) hW
  have w1430 : 0x1430 ∈ W0 := hW.mem rfl
  unfold State.regWrite
  repeat' first
    | with_reducible assumption
    | (extract_lets +onlyGivenNames xx; (try clear_value xx); revert xx; intro _)
    | with_reducible refine State.polReg_touch ?_ c_State_polReg _ _
    | with_reducible refine State.writeJudged_touch ?_ c_State_writeJudged _ _ _ _ _
    | with_reducible refine State.actReg_touch ?_ c_State_actReg _ _ _
    | with_reducible refine State.badWrite_touch ?_ c_State_badWrite
    | with_reducible refine State.stageWrite_touch ?_ c_State_stageWrite _ _
    | with_reducible refine State.hostTag_touch ?_ c_State_hostTag _
    | with_reducible refine State.pdCtrl_touch ?_ c_State_pdCtrl _ _
    | with_reducible refine State.writeGroup_touch ?_ c_State_writeGroup _ _ _ _
    | with_reducible refine State.holdPart_touch ?_ c_State_holdPart _ _ _
    | with_reducible refine State.setReg_touch ?_ _ _ ?_
    | with_reducible refine Touch.ite ?_ ?_
    | split
    | exact Or.inr (by with_reducible assumption)

def State.cfgCommit_cells : List Nat :=
  [0x1000, 0x1001, 0x100c, 0x100d, 0x100e, 0x100f, 0x1403]

theorem State.cfgCommit_touch {W0 : List Nat} {s0 s : State} (h0 : Touch W0 s0 s) (hW : Sub State.cfgCommit_cells W0) :
    Touch W0 s0 (State.cfgCommit s) := by
  have c_State_setRef : Sub State.setRef_cells W0 := Sub.trans (Sub.of rfl) hW
  have w1001 : Writes W0 R.CFG_EVENT := Or.inl (hW.mem rfl)
  unfold State.cfgCommit
  repeat' first
    | with_reducible assumption
    | with_reducible refine State.setRef_touch ?_ c_State_setRef
    | with_reducible refine State.event_touch ?_ _ ?_
    | with_reducible refine Touch.ite ?_ ?_

def State.revertReg_cells : List Nat :=
  [0x2, 0x6, 0x100, 0x101, 0x114, 0x200, 0x300, 0x301, 0x31f, 0x400, 0x401, 0x405, 0x40e, 0x40f, 0x500, 0x623, 0x640,
   0x641, 0x642, 0x643, 0x644, 0x645, 0x646, 0x647, 0x648, 0x649, 0x64a, 0x64b, 0x64c, 0x64d, 0x64e, 0x64f, 0x650,
   0x651, 0x652, 0x653, 0x654, 0x655, 0x656, 0x657, 0x658, 0x659, 0x65a, 0x65b, 0x65c, 0x65d, 0x65e, 0x65f, 0x700,
   0x811, 0xa00, 0xa01, 0xa31, 0xa32, 0xb00, 0xb01, 0xb02, 0xb18, 0xc00, 0xc06, 0xc20, 0xc21, 0xc25, 0xc30, 0xc34,
   0xe00, 0xe01, 0x1404, 0x1405, 0x1406, 0x1407, 0x1408, 0x1409, 0x140b, 0x140c, 0x140d, 0x140f, 0x1410, 0x1411,
   0x1412, 0x1413, 0x1414, 0x1415, 0x1416, 0x1417, 0x1418, 0x1430]

theorem State.revertReg_touch {W0 : List Nat} {s0 s : State} (h0 : Touch W0 s0 s) (hW : Sub State.revertReg_cells W0) (r : RegInfo) :
    Touch W0 s0 (State.revertReg s r) := by
  have c_State_hook : Sub State.hook_cells W0 := Sub.trans (Sub.of rfl) hW
  have w1430 : 0x1430 ∈ W0 := hW.mem rfl
  unfold State.revertReg
  repeat' first
    | with_reducible assumption
    | (extract_lets +onlyGivenNames xx; (try clear_value xx); revert xx; intro _)
    | with_reducible refine State.hook_touch ?_ c_State_hook _ _
    | with_reducible refine State.setReg_touch ?_ _ _ ?_
    | with_reducible refine Touch.ite ?_ ?_
    | exact Or.inr (by with_reducible assumption)

def State.cfgRevert_cells : List Nat :=
  [0x2, 0x6, 0x100, 0x101, 0x114, 0x200, 0x300, 0x301, 0x31f, 0x400, 0x401, 0x405, 0x40e, 0x40f, 0x500, 0x623, 0x640,
   0x641, 0x642, 0x643, 0x644, 0x645, 0x646, 0x647, 0x648, 0x649, 0x64a, 0x64b, 0x64c, 0x64d, 0x64e, 0x64f, 0x650,
   0x651, 0x652, 0x653, 0x654, 0x655, 0x656, 0x657, 0x658, 0x659, 0x65a, 0x65b, 0x65c, 0x65d, 0x65e, 0x65f, 0x700,
   0x811, 0xa00, 0xa01, 0xa31, 0xa32, 0xb00, 0xb01, 0xb02, 0xb18, 0xc00, 0xc06, 0xc20, 0xc21, 0xc25, 0xc30, 0xc34,
   0xe00, 0xe01, 0x1000, 0x1001, 0x1403, 0x1404, 0x1405, 0x1406, 0x1407, 0x1408, 0x1409, 0x140b, 0x140c, 0x140d,
   0x140f, 0x1410, 0x1411, 0x1412, 0x1413, 0x1414, 0x1415, 0x1416, 0x1417, 0x1418, 0x1430]

theorem State.cfgRevert_touch {W0 : List Nat} {s0 s : State} (h0 : Touch W0 s0 s) (hW : Sub State.cfgRevert_cells W0) :
    Touch W0 s0 (State.cfgRevert s) := by
  have c_State_revertReg : Sub State.revertReg_cells W0 := Sub.trans (Sub.of rfl) hW
  have w1000 : Writes W0 R.CFG_STATUS := Or.inl (hW.mem rfl)
  have w1001 : Writes W0 R.CFG_EVENT := Or.inl (hW.mem rfl)
  have w1403 : 0x1403 ∈ W0 := hW.mem rfl
  unfold State.cfgRevert
  repeat' first
    | with_reducible assumption
    | (extract_lets +onlyGivenNames xx; guard_hyp xx : State := _; refine Touch.cut (x := xx) ?_ ?_; (on_goal 2 => (intro hh; (try clear_value xx); revert xx; intro _ _)); any_goals (revert xx; intro _))
    | (extract_lets +onlyGivenNames xx; (try clear_value xx); revert xx; intro _)
    | with_reducible refine State.revertReg_touch ?_ c_State_revertReg _
    | with_reducible refine State.event_touch ?_ _ ?_
    | with_reducible refine State.setFlag_touch ?_ _ _ ?_
    | with_reducible refine Touch.foldl ?_ ?_
    | with_reducible refine Touch.ite ?_ ?_
    | with_reducible intro _ _
    | with_reducible intro _
    | with_reducible refine Touch.update ?_

def State.cfgLock_cells : List Nat :=
  [0x6, 0x1000]

theorem State.cfgLock_touch {W0 : List Nat} {s0 s : State} (h0 : Touch W0 s0 s) (hW : Sub State.cfgLock_cells W0) :
    Touch W0 s0 (State.cfgLock s) := by
  have c_State_badWrite : Sub State.badWrite_cells W0 := Sub.trans (Sub.of rfl) hW
  have w1000 : Writes W0 R.CFG_STATUS := Or.inl (hW.mem rfl)
  unfold State.cfgLock
  repeat' first
    | with_reducible assumption
    | with_reducible refine State.badWrite_touch ?_ c_State_badWrite
    | with_reducible refine State.setFlag_touch ?_ _ _ ?_
    | with_reducible refine Touch.ite ?_ ?_

def State.resetRefused_cells : List Nat :=
  [0xa01, 0xa32, 0x140f]

theorem State.resetRefused_touch {W0 : List Nat} {s0 s : State} (h0 : Touch W0 s0 s) (hW : Sub State.resetRefused_cells W0) :
    Touch W0 s0 (State.resetRefused s) := by
  have c_State_tally : Sub State.tally_cells W0 := Sub.trans (Sub.of rfl) hW
  unfold State.resetRefused
  repeat' first
    | with_reducible assumption
    | with_reducible refine State.tally_touch ?_ c_State_tally _

def State.keyedAct_cells : List Nat :=
  [0x2, 0x3, 0x6, 0xa, 0x100, 0x101, 0x114, 0x200, 0x300, 0x301, 0x305, 0x30a, 0x318, 0x31f, 0x400, 0x401, 0x405,
   0x40b, 0x40e, 0x40f, 0x500, 0x623, 0x640, 0x641, 0x642, 0x643, 0x644, 0x645, 0x646, 0x647, 0x648, 0x649, 0x64a,
   0x64b, 0x64c, 0x64d, 0x64e, 0x64f, 0x650, 0x651, 0x652, 0x653, 0x654, 0x655, 0x656, 0x657, 0x658, 0x659, 0x65a,
   0x65b, 0x65c, 0x65d, 0x65e, 0x65f, 0x700, 0x801, 0x811, 0x901, 0x90b, 0xa00, 0xa01, 0xa31, 0xa32, 0xb00, 0xb01,
   0xb02, 0xb12, 0xb18, 0xc00, 0xc06, 0xc20, 0xc21, 0xc25, 0xc30, 0xc34, 0xd18, 0xe00, 0xe01, 0xe14, 0x1000, 0x1001,
   0x100c, 0x100d, 0x100e, 0x100f, 0x1400, 0x1402, 0x1403, 0x1404, 0x1405, 0x1406, 0x1407, 0x1408, 0x1409, 0x140a,
   0x140b, 0x140c, 0x140d, 0x140f, 0x1410, 0x1411, 0x1412, 0x1413, 0x1414, 0x1415, 0x1416, 0x1417, 0x1418, 0x1430]

theorem State.keyedAct_touch {W0 : List Nat} {s0 s : State} (h0 : Touch W0 s0 s) (hW : Sub State.keyedAct_cells W0) (a : Nat) (v : Word) :
    Touch W0 s0 (State.keyedAct s a v) := by
  have c_State_warmReset : Sub State.warmReset_cells W0 := Sub.trans (Sub.of rfl) hW
  have c_State_coreReset : Sub State.coreReset_cells W0 := Sub.trans (Sub.of rfl) hW
  have c_State_resetRefused : Sub State.resetRefused_cells W0 := Sub.trans (Sub.of rfl) hW
  have c_State_cfgCommit : Sub State.cfgCommit_cells W0 := Sub.trans (Sub.of rfl) hW
  have c_State_cfgRevert : Sub State.cfgRevert_cells W0 := Sub.trans (Sub.of rfl) hW
  have c_State_cfgLock : Sub State.cfgLock_cells W0 := Sub.trans (Sub.of rfl) hW
  unfold State.keyedAct
  repeat' first
    | with_reducible assumption
    | with_reducible refine State.warmReset_touch ?_ c_State_warmReset _
    | with_reducible refine State.coreReset_touch ?_ c_State_coreReset _
    | with_reducible refine State.resetRefused_touch ?_ c_State_resetRefused
    | with_reducible refine State.cfgCommit_touch ?_ c_State_cfgCommit
    | with_reducible refine State.cfgRevert_touch ?_ c_State_cfgRevert
    | with_reducible refine State.cfgLock_touch ?_ c_State_cfgLock
    | with_reducible refine Touch.ite ?_ ?_

def State.readEffect_cells : List Nat :=
  [0x901, 0xc20, 0x1010, 0x140c, 0x140f, 0x1411, 0x1415, 0x1430]

theorem State.readEffect_touch {W0 : List Nat} {s0 s : State} (h0 : Touch W0 s0 s) (hW : Sub State.readEffect_cells W0) (a : Nat) (w : Word) (late : Word) :
    Touch W0 s0 (State.readEffect s a w late) := by
  have c_State_noteRefill : Sub State.noteRefill_cells W0 := Sub.trans (Sub.of rfl) hW
  have c_State_stageStep : Sub State.stageStep_cells W0 := Sub.trans (Sub.of rfl) hW
  have wc20 : Writes W0 R.OPT_STATUS := Or.inl (hW.mem rfl)
  have w140c : 0x140c ∈ W0 := hW.mem rfl
  have w140f : 0x140f ∈ W0 := hW.mem rfl
  have w1411 : 0x1411 ∈ W0 := hW.mem rfl
  have w1415 : 0x1415 ∈ W0 := hW.mem rfl
  have w1430 : 0x1430 ∈ W0 := hW.mem rfl
  unfold State.readEffect
  repeat' first
    | with_reducible assumption
    | (extract_lets +onlyGivenNames xx; guard_hyp xx : State := _; refine Touch.cut (x := xx) ?_ ?_; (on_goal 2 => (intro hh; (try clear_value xx); revert xx; intro _ _)); any_goals (revert xx; intro _))
    | (extract_lets +onlyGivenNames xx; guard_hyp xx : (Ledger) := _; revert xx; intro _)
    | (extract_lets +onlyGivenNames xx; (try clear_value xx); revert xx; intro _)
    | with_reducible refine State.noteRefill_touch ?_ c_State_noteRefill
    | with_reducible refine State.stageStep_touch ?_ c_State_stageStep
    | with_reducible refine State.setFlag_touch ?_ _ _ ?_
    | with_reducible refine State.setReg_touch ?_ _ _ ?_
    | with_reducible refine Touch.ite ?_ ?_
    | split
    | exact Or.inr (by with_reducible assumption)
    | with_reducible refine Touch.update ?_

def State.readWord_cells : List Nat :=
  [0x901, 0xc20, 0x1010, 0x1403, 0x140c, 0x140f, 0x1411, 0x1415, 0x1430]

theorem State.readWord_touch {W0 : List Nat} {s0 s : State} (h0 : Touch W0 s0 s) (hW : Sub State.readWord_cells W0) (req : Requester) (viaH : Bool) (form : Nat) (a : Nat) (late : Word) :
    Touch W0 s0 (State.readWord s req viaH form a late).2 := by
  have c_State_groupRead : Sub State.groupRead_cells W0 := Sub.trans (Sub.of rfl) hW
  have c_State_readEffect : Sub State.readEffect_cells W0 := Sub.trans (Sub.of rfl) hW
  unfold State.readWord
  repeat' first
    | with_reducible assumption
    | (extract_lets +onlyGivenNames xx; guard_hyp xx : (Word × State) := _; revert xx; intro _)
    | with_reducible refine State.groupRead_touch ?_ c_State_groupRead _ _ _
    | with_reducible refine State.readEffect_touch ?_ c_State_readEffect _ _ _
    | split

theorem State.readWord_touch_eq {W0 : List Nat} {s0 s : State} {u0 : Word} {sOut : State} (h0 : Touch W0 s0 s) (hW : Sub State.readWord_cells W0) (req : Requester) (viaH : Bool) (form : Nat) (a : Nat) (late : Word)
    (e : (State.readWord s req viaH form a late) = (u0, sOut)) : Touch W0 s0 sOut := by
  have := State.readWord_touch h0 hW req viaH form a late
  rwa [e] at this

end Sys2Proof.Machine
end

