-- ==== Sys2Proof/Laws/TouchCmdRun.lean ====
section
/-!
SUPPORT. What each operation of Machine/CmdRun.lean can do: the registers and parts of the state it may write, and nothing
else; the unit, its queue and the form of its stores are kept.
-/

-- proofs are elaborated one after another: many at once ask for more threads than a memory limit allows
set_option Elab.async false

set_option linter.unusedTactic false
set_option linter.unusedVariables false
set_option linter.unusedSimpArgs false
set_option linter.unreachableTactic false
set_option linter.tactic.unusedName false

namespace Sys2Proof.Machine

def State.finish_cells : List Nat :=
  [0x2, 0x3, 0x6, 0xa, 0x100, 0x200, 0x300, 0x301, 0x305, 0x30a, 0x318, 0x31f, 0x400, 0x401, 0x405, 0x40b, 0x40e,
   0x40f, 0x500, 0x801, 0x901, 0x90b, 0xa00, 0xa01, 0xa32, 0xb00, 0xb01, 0xb02, 0xb12, 0xb18, 0xc00, 0xc06, 0xc20,
   0xc21, 0xc25, 0xc30, 0xc34, 0xd18, 0xe00, 0xe14, 0x1000, 0x1400, 0x1402, 0x1403, 0x1404, 0x1405, 0x1406, 0x1407,
   0x1408, 0x1409, 0x140a, 0x140b, 0x140c, 0x140d, 0x140f, 0x1410, 0x1411, 0x1412, 0x1413, 0x1414, 0x1415, 0x1416,
   0x1417, 0x1418, 0x1430]

theorem State.finish_touch {W0 : List Nat} {s0 s : State} (h0 : Touch W0 s0 s) (hW : Sub State.finish_cells W0) (f : Finish) :
    Touch W0 s0 (State.finish s f) := by
  have c_State_cmdAnswer : Sub State.cmdAnswer_cells W0 := Sub.trans (Sub.of rfl) hW
  have c_State_warmReset : Sub State.warmReset_cells W0 := Sub.trans (Sub.of rfl) hW
  have c_State_coreReset : Sub State.coreReset_cells W0 := Sub.trans (Sub.of rfl) hW
  unfold State.finish
  repeat' first
    | with_reducible assumption
    | (extract_lets +onlyGivenNames xx; guard_hyp xx : State := _; refine Touch.cut (x := xx) ?_ ?_; (on_goal 2 => (intro hh; (try clear_value xx); revert xx; intro _ _)); any_goals (revert xx; intro _))
    | with_reducible refine State.cmdAnswer_touch ?_ c_State_cmdAnswer _ _ _
    | with_reducible refine State.warmReset_touch ?_ c_State_warmReset _
    | with_reducible refine State.coreReset_touch ?_ c_State_coreReset _
    | split

def State.doneFirst_cells : List Nat :=
  [0x2, 0x3, 0x6, 0xa, 0x100, 0x200, 0x300, 0x301, 0x305, 0x30a, 0x318, 0x31f, 0x400, 0x401, 0x405, 0x40b, 0x40e,
   0x40f, 0x500, 0x801, 0x900, 0x901, 0x90b, 0x910, 0x911, 0xa00, 0xa01, 0xa05, 0xa28, 0xa29, 0xa2a, 0xa2b, 0xa31,
   0xa32, 0xa33, 0xa34, 0xb00, 0xb01, 0xb02, 0xb12, 0xb18, 0xc00, 0xc06, 0xc20, 0xc21, 0xc25, 0xc30, 0xc34, 0xd18,
   0xe00, 0xe14, 0x1000, 0x1400, 0x1402, 0x1403, 0x1404, 0x1405, 0x1406, 0x1407, 0x1408, 0x1409, 0x140a, 0x140b,
   0x140c, 0x140d, 0x140f, 0x1410, 0x1411, 0x1412, 0x1413, 0x1414, 0x1415, 0x1416, 0x1417, 0x1418, 0x1430]

theorem State.doneFirst_touch {W0 : List Nat} {s0 s : State} (h0 : Touch W0 s0 s) (hW : Sub State.doneFirst_cells W0) (r : Run) (status : Nat) (body : List Byte) (act : AfterDone) :
    Touch W0 s0 (State.doneFirst s r status body act) := by
  have c_State_postDone : Sub State.postDone_cells W0 := Sub.trans (Sub.of rfl) hW
  have c_State_intakeAll : Sub State.intakeAll_cells W0 := Sub.trans (Sub.of rfl) hW
  have c_State_finish : Sub State.finish_cells W0 := Sub.trans (Sub.of rfl) hW
  have w140d : 0x140d ∈ W0 := hW.mem rfl
  unfold State.doneFirst
  repeat' first
    | with_reducible assumption
    | (extract_lets +onlyGivenNames xx; guard_hyp xx : State := _; refine Touch.cut (x := xx) ?_ ?_; (on_goal 2 => (intro hh; (try clear_value xx); revert xx; intro _ _)); any_goals (revert xx; intro _))
    | (extract_lets +onlyGivenNames xx; (try clear_value xx); revert xx; intro _)
    | with_reducible refine State.postDone_touch ?_ c_State_postDone _ _ _ _
    | with_reducible refine State.intakeAll_touch ?_ c_State_intakeAll
    | with_reducible refine State.finish_touch ?_ c_State_finish _
    | with_reducible refine Touch.ite ?_ ?_
    | with_reducible refine Touch.update ?_

def State.finishOne_cells : List Nat :=
  [0x2, 0x3, 0x6, 0xa, 0x100, 0x200, 0x300, 0x301, 0x305, 0x30a, 0x318, 0x31f, 0x400, 0x401, 0x405, 0x40b, 0x40e,
   0x40f, 0x500, 0x801, 0x901, 0x90b, 0xa00, 0xa01, 0xa32, 0xb00, 0xb01, 0xb02, 0xb12, 0xb18, 0xc00, 0xc06, 0xc20,
   0xc21, 0xc25, 0xc30, 0xc34, 0xd18, 0xe00, 0xe14, 0x1000, 0x1400, 0x1402, 0x1403, 0x1404, 0x1405, 0x1406, 0x1407,
   0x1408, 0x1409, 0x140a, 0x140b, 0x140c, 0x140d, 0x140f, 0x1410, 0x1411, 0x1412, 0x1413, 0x1414, 0x1415, 0x1416,
   0x1417, 0x1418, 0x1430]

theorem State.finishOne_touch {W0 : List Nat} {s0 s : State} (h0 : Touch W0 s0 s) (hW : Sub State.finishOne_cells W0) (f : Finish) :
    Touch W0 s0 (State.finishOne s f) := by
  have c_State_finish : Sub State.finish_cells W0 := Sub.trans (Sub.of rfl) hW
  have w140d : 0x140d ∈ W0 := hW.mem rfl
  unfold State.finishOne
  repeat' first
    | with_reducible assumption
    | (extract_lets +onlyGivenNames xx; (try clear_value xx); revert xx; intro _)
    | with_reducible refine State.finish_touch ?_ c_State_finish _
    | with_reducible refine Touch.ite ?_ ?_
    | with_reducible refine Touch.update ?_

def State.finishDue_cells : List Nat :=
  [0x2, 0x3, 0x6, 0xa, 0x100, 0x200, 0x300, 0x301, 0x305, 0x30a, 0x318, 0x31f, 0x400, 0x401, 0x405, 0x40b, 0x40e,
   0x40f, 0x500, 0x801, 0x901, 0x90b, 0xa00, 0xa01, 0xa32, 0xb00, 0xb01, 0xb02, 0xb12, 0xb18, 0xc00, 0xc06, 0xc20,
   0xc21, 0xc25, 0xc30, 0xc34, 0xd18, 0xe00, 0xe14, 0x1000, 0x1400, 0x1402, 0x1403, 0x1404, 0x1405, 0x1406, 0x1407,
   0x1408, 0x1409, 0x140a, 0x140b, 0x140c, 0x140d, 0x140f, 0x1410, 0x1411, 0x1412, 0x1413, 0x1414, 0x1415, 0x1416,
   0x1417, 0x1418, 0x1430]

theorem State.finishDue_touch {W0 : List Nat} {s0 s : State} (h0 : Touch W0 s0 s) (hW : Sub State.finishDue_cells W0) :
    Touch W0 s0 (State.finishDue s) := by
  have c_State_finishOne : Sub State.finishOne_cells W0 := Sub.trans (Sub.of rfl) hW
  unfold State.finishDue
  repeat' first
    | with_reducible assumption
    | with_reducible refine State.finishOne_touch ?_ c_State_finishOne _
    | with_reducible refine Touch.foldl ?_ ?_
    | with_reducible intro _ _
    | with_reducible intro _

def State.imageBegin_cells : List Nat :=
  [0xd18, 0x1000, 0x1404, 0x1405]

theorem State.imageBegin_touch {W0 : List Nat} {s0 s : State} (h0 : Touch W0 s0 s) (hW : Sub State.imageBegin_cells W0) (req : Requester) (resetAfter : Bool) :
    Touch W0 s0 (State.imageBegin s req resetAfter) := by
  have c_State_setCopy : Sub State.setCopy_cells W0 := Sub.trans (Sub.of rfl) hW
  have wd18 : Writes W0 R.TWB_PORTC := Or.inl (hW.mem rfl)
  have w1000 : Writes W0 R.CFG_STATUS := Or.inl (hW.mem rfl)
  have w1404 : 0x1404 ∈ W0 := hW.mem rfl
  have w1405 : 0x1405 ∈ W0 := hW.mem rfl
  unfold State.imageBegin
  repeat' first
    | with_reducible assumption
    | (extract_lets +onlyGivenNames xx; guard_hyp xx : State := _; refine Touch.cut (x := xx) ?_ ?_; (on_goal 2 => (intro hh; (try clear_value xx); revert xx; intro _ _)); any_goals (revert xx; intro _))
    | (extract_lets +onlyGivenNames xx; guard_hyp xx : (Boot) := _; revert xx; intro _)
    | (extract_lets +onlyGivenNames xx; (try clear_value xx); revert xx; intro _)
    | with_reducible refine State.setCopy_touch ?_ c_State_setCopy _ _
    | with_reducible refine State.setFlag_touch ?_ _ _ ?_
    | with_reducible refine Touch.update ?_

def State.imageRefused_cells : List Nat :=
  [0xa01, 0xa32, 0x1000, 0x1001, 0x140f]

theorem State.imageRefused_touch {W0 : List Nat} {s0 s : State} (h0 : Touch W0 s0 s) (hW : Sub State.imageRefused_cells W0) (why : Nat) (req : Requester) :
    Touch W0 s0 (State.imageRefused s why req) := by
  have c_State_cfgBit : Sub State.cfgBit_cells W0 := fun _ h => nomatch h
  have c_State_post : Sub State.post_cells W0 := Sub.trans (Sub.of rfl) hW
  have w1000 : Writes W0 R.CFG_STATUS := Or.inl (hW.mem rfl)
  have w1001 : Writes W0 R.CFG_EVENT := Or.inl (hW.mem rfl)
  unfold State.imageRefused
  repeat' first
    | with_reducible assumption
    | with_reducible refine State.cfgBit_touch ?_ c_State_cfgBit _ _ _ ?_ ?_
    | with_reducible refine State.post_touch ?_ c_State_post _ _

def State.runImageWrite_cells : List Nat :=
  [0xa01, 0xa32, 0xc20, 0xc21, 0xc25, 0xd18, 0x1000, 0x1001, 0x1404, 0x1405, 0x140d, 0x140f, 0x1413, 0x1415]

theorem State.runImageWrite_touch {W0 : List Nat} {s0 s : State} (h0 : Touch W0 s0 s) (hW : Sub State.runImageWrite_cells W0) (r : Run) (req : Requester) (resetAfter : Bool) :
    Touch W0 s0 (State.runImageWrite s r req resetAfter) := by
  have c_State_cmdFinish : Sub State.cmdFinish_cells W0 := Sub.trans (Sub.of rfl) hW
  have c_State_imageBegin : Sub State.imageBegin_cells W0 := Sub.trans (Sub.of rfl) hW
  have c_State_imageRefused : Sub State.imageRefused_cells W0 := Sub.trans (Sub.of rfl) hW
  have w140d : 0x140d ∈ W0 := hW.mem rfl
  unfold State.runImageWrite
  repeat' first
    | with_reducible assumption
    | (extract_lets +onlyGivenNames xx; guard_hyp xx : State := _; refine Touch.cut (x := xx) ?_ ?_; (on_goal 2 => (intro hh; (try clear_value xx); revert xx; intro _ _)); any_goals (revert xx; intro _))
    | (extract_lets +onlyGivenNames xx; (try clear_value xx); revert xx; intro _)
    | with_reducible refine State.cmdFinish_touch ?_ c_State_cmdFinish _ _ _ _
    | with_reducible refine State.imageBegin_touch ?_ c_State_imageBegin _ _
    | with_reducible refine State.imageRefused_touch ?_ c_State_imageRefused _ _
    | with_reducible refine Touch.ite ?_ ?_
    | with_reducible refine Touch.update ?_

def State.imageDone_cells : List Nat :=
  [0x2, 0x3, 0x6, 0xa, 0x100, 0x200, 0x300, 0x301, 0x305, 0x30a, 0x318, 0x31f, 0x400, 0x401, 0x405, 0x40b, 0x40e,
   0x40f, 0x500, 0x801, 0x900, 0x901, 0x90b, 0x910, 0x911, 0xa00, 0xa01, 0xa05, 0xa28, 0xa29, 0xa2a, 0xa2b, 0xa31,
   0xa32, 0xa33, 0xa34, 0xb00, 0xb01, 0xb02, 0xb12, 0xb18, 0xc00, 0xc06, 0xc20, 0xc21, 0xc25, 0xc30, 0xc34, 0xd18,
   0xe00, 0xe14, 0x1000, 0x1001, 0x1400, 0x1402, 0x1403, 0x1404, 0x1405, 0x1406, 0x1407, 0x1408, 0x1409, 0x140a,
   0x140b, 0x140c, 0x140d, 0x140f, 0x1410, 0x1411, 0x1412, 0x1413, 0x1414, 0x1415, 0x1416, 0x1417, 0x1418, 0x1430]

theorem State.imageDone_touch {W0 : List Nat} {s0 s : State} (h0 : Touch W0 s0 s) (hW : Sub State.imageDone_cells W0) (w : ImageWrite) (result : Nat) :
    Touch W0 s0 (State.imageDone s w result) := by
  have c_State_imageEnd : Sub State.imageEnd_cells W0 := Sub.trans (Sub.of rfl) hW
  have c_State_doneFirst : Sub State.doneFirst_cells W0 := Sub.trans (Sub.of rfl) hW
  have c_State_warmReset : Sub State.warmReset_cells W0 := Sub.trans (Sub.of rfl) hW
  have c_State_cmdFinish : Sub State.cmdFinish_cells W0 := Sub.trans (Sub.of rfl) hW
  have w140d : 0x140d ∈ W0 := hW.mem rfl
  unfold State.imageDone
  repeat' first
    | with_reducible assumption
    | (extract_lets +onlyGivenNames xx; guard_hyp xx : State := _; refine Touch.cut (x := xx) ?_ ?_; (on_goal 2 => (intro hh; (try clear_value xx); revert xx; intro _ _)); any_goals (revert xx; intro _))
    | (extract_lets +onlyGivenNames xx; (try clear_value xx); revert xx; intro _)
    | with_reducible refine State.imageEnd_touch ?_ c_State_imageEnd _ _
    | with_reducible refine State.doneFirst_touch ?_ c_State_doneFirst _ _ _ _
    | with_reducible refine State.warmReset_touch ?_ c_State_warmReset _
    | with_reducible refine State.cmdFinish_touch ?_ c_State_cmdFinish _ _ _ _
    | with_reducible refine Touch.ite ?_ ?_
    | split
    | with_reducible refine Touch.update ?_

def State.setSlot_cells : List Nat :=
  [0x1405]

theorem State.setSlot_touch {W0 : List Nat} {s0 s : State} (h0 : Touch W0 s0 s) (hW : Sub State.setSlot_cells W0) (x : AB) (b : List Byte) :
    Touch W0 s0 (State.setSlot s x b) := by
  have w1405 : 0x1405 ∈ W0 := hW.mem rfl
  unfold State.setSlot
  repeat' first
    | with_reducible assumption
    | (extract_lets +onlyGivenNames xx; guard_hyp xx : (Boot) := _; revert xx; intro _)
    | split
    | with_reducible refine Touch.update ?_

def State.runFwWrite_cells : List Nat :=
  [0xa01, 0xa32, 0xc20, 0xc21, 0xc25, 0x1405, 0x140f, 0x1413, 0x1415]

theorem State.runFwWrite_touch {W0 : List Nat} {s0 s : State} (h0 : Touch W0 s0 s) (hW : Sub State.runFwWrite_cells W0) (r : Run) :
    Touch W0 s0 (State.runFwWrite s r) := by
  have c_State_cmdFinish : Sub State.cmdFinish_cells W0 := Sub.trans (Sub.of rfl) hW
  have c_State_setSlot : Sub State.setSlot_cells W0 := Sub.trans (Sub.of rfl) hW
  have c_State_post : Sub State.post_cells W0 := Sub.trans (Sub.of rfl) hW
  have w1413 : 0x1413 ∈ W0 := hW.mem rfl
  unfold State.runFwWrite
  repeat' first
    | with_reducible assumption
    | (extract_lets +onlyGivenNames xx; guard_hyp xx : State := _; refine Touch.cut (x := xx) ?_ ?_; (on_goal 2 => (intro hh; (try clear_value xx); revert xx; intro _ _)); any_goals (revert xx; intro _))
    | (extract_lets +onlyGivenNames xx; (try clear_value xx); revert xx; intro _)
    | with_reducible refine State.cmdFinish_touch ?_ c_State_cmdFinish _ _ _ _
    | with_reducible refine State.setSlot_touch ?_ c_State_setSlot _ _
    | with_reducible refine State.post_touch ?_ c_State_post _ _
    | with_reducible refine Touch.ite ?_ ?_
    | split
    | with_reducible refine Touch.update ?_

def State.activate_cells : List Nat :=
  [0x2, 0x3, 0x6, 0xa, 0x100, 0x200, 0x300, 0x301, 0x305, 0x30a, 0x318, 0x31f, 0x400, 0x401, 0x405, 0x40b, 0x40e,
   0x40f, 0x500, 0x801, 0x900, 0x901, 0x90b, 0x910, 0x911, 0xa00, 0xa01, 0xa05, 0xa28, 0xa29, 0xa2a, 0xa2b, 0xa31,
   0xa32, 0xa33, 0xa34, 0xb00, 0xb01, 0xb02, 0xb12, 0xb18, 0xc00, 0xc06, 0xc20, 0xc21, 0xc25, 0xc30, 0xc34, 0xd18,
   0xe00, 0xe14, 0x1000, 0x1400, 0x1402, 0x1403, 0x1404, 0x1405, 0x1406, 0x1407, 0x1408, 0x1409, 0x140a, 0x140b,
   0x140c, 0x140d, 0x140f, 0x1410, 0x1411, 0x1412, 0x1413, 0x1414, 0x1415, 0x1416, 0x1417, 0x1418, 0x1430]

theorem State.activate_touch {W0 : List Nat} {s0 s : State} (h0 : Touch W0 s0 s) (hW : Sub State.activate_cells W0) (r : Run) (x : AB) (raise_ : Bool) :
    Touch W0 s0 (State.activate s r x raise_) := by
  have c_State_storeBoot : Sub State.storeBoot_cells W0 := Sub.trans (Sub.of rfl) hW
  have c_State_post : Sub State.post_cells W0 := Sub.trans (Sub.of rfl) hW
  have c_State_doneFirst : Sub State.doneFirst_cells W0 := Sub.trans (Sub.of rfl) hW
  have w1413 : 0x1413 ∈ W0 := hW.mem rfl
  unfold State.activate
  repeat' first
    | with_reducible assumption
    | (extract_lets +onlyGivenNames xx; guard_hyp xx : State := _; refine Touch.cut (x := xx) ?_ ?_; (on_goal 2 => (intro hh; (try clear_value xx); revert xx; intro _ _)); any_goals (revert xx; intro _))
    | (extract_lets +onlyGivenNames xx; (try clear_value xx); revert xx; intro _)
    | with_reducible refine State.storeBoot_touch ?_ c_State_storeBoot _ _
    | with_reducible refine State.post_touch ?_ c_State_post _ _
    | with_reducible refine State.doneFirst_touch ?_ c_State_doneFirst _ _ _ _
    | with_reducible refine Touch.update ?_

def State.runActivate_cells : List Nat :=
  [0x2, 0x3, 0x6, 0xa, 0x100, 0x200, 0x300, 0x301, 0x305, 0x30a, 0x318, 0x31f, 0x400, 0x401, 0x405, 0x40b, 0x40e,
   0x40f, 0x500, 0x801, 0x900, 0x901, 0x90b, 0x910, 0x911, 0xa00, 0xa01, 0xa05, 0xa28, 0xa29, 0xa2a, 0xa2b, 0xa31,
   0xa32, 0xa33, 0xa34, 0xb00, 0xb01, 0xb02, 0xb12, 0xb18, 0xc00, 0xc06, 0xc20, 0xc21, 0xc25, 0xc30, 0xc34, 0xd18,
   0xe00, 0xe14, 0x1000, 0x1400, 0x1402, 0x1403, 0x1404, 0x1405, 0x1406, 0x1407, 0x1408, 0x1409, 0x140a, 0x140b,
   0x140c, 0x140d, 0x140f, 0x1410, 0x1411, 0x1412, 0x1413, 0x1414, 0x1415, 0x1416, 0x1417, 0x1418, 0x1430]

theorem State.runActivate_touch {W0 : List Nat} {s0 s : State} (h0 : Touch W0 s0 s) (hW : Sub State.runActivate_cells W0) (r : Run) (x : AB) (raise_ : Bool) :
    Touch W0 s0 (State.runActivate s r x raise_) := by
  have c_State_cmdFinish : Sub State.cmdFinish_cells W0 := Sub.trans (Sub.of rfl) hW
  have c_State_fresh : Sub State.fresh_cells W0 := Sub.trans (Sub.of rfl) hW
  have c_State_activate : Sub State.activate_cells W0 := Sub.trans (Sub.of rfl) hW
  have w1413 : 0x1413 ∈ W0 := hW.mem rfl
  unfold State.runActivate
  repeat' first
    | with_reducible assumption
    | (extract_lets +onlyGivenNames xx; guard_hyp xx : (BitVec 64 × State) := _; revert xx; intro _)
    | (extract_lets +onlyGivenNames xx; (try clear_value xx); revert xx; intro _)
    | with_reducible refine State.cmdFinish_touch ?_ c_State_cmdFinish _ _ _ _
    | with_reducible refine State.fresh_touch ?_ c_State_fresh
    | with_reducible refine State.activate_touch ?_ c_State_activate _ _ _
    | with_reducible refine Touch.ite ?_ ?_
    | split
    | with_reducible refine Touch.update ?_

def State.runShip_cells : List Nat :=
  [0x6, 0xa01, 0xa32, 0xc20, 0xc21, 0xc25, 0x1405, 0x140d, 0x140f, 0x1413, 0x1415]

theorem State.runShip_touch {W0 : List Nat} {s0 s : State} (h0 : Touch W0 s0 s) (hW : Sub State.runShip_cells W0) (r : Run) (req : Requester) :
    Touch W0 s0 (State.runShip s r req) := by
  have c_State_shipRequest : Sub State.shipRequest_cells W0 := Sub.trans (Sub.of rfl) hW
  have w140d : 0x140d ∈ W0 := hW.mem rfl
  unfold State.runShip
  repeat' first
    | with_reducible assumption
    | (extract_lets +onlyGivenNames xx; (try clear_value xx); revert xx; intro _)
    | with_reducible refine State.shipRequest_touch ?_ c_State_shipRequest _
    | with_reducible refine Touch.update ?_

def State.runShipArm_cells : List Nat :=
  [0x2, 0x3, 0x6, 0xa, 0x100, 0x200, 0x300, 0x301, 0x305, 0x30a, 0x318, 0x31f, 0x400, 0x401, 0x405, 0x40b, 0x40e,
   0x40f, 0x500, 0x801, 0x900, 0x901, 0x90b, 0x910, 0x911, 0xa00, 0xa01, 0xa05, 0xa28, 0xa29, 0xa2a, 0xa2b, 0xa31,
   0xa32, 0xa33, 0xa34, 0xb00, 0xb01, 0xb02, 0xb12, 0xb18, 0xc00, 0xc06, 0xc20, 0xc21, 0xc25, 0xc30, 0xc34, 0xd18,
   0xe00, 0xe14, 0x1000, 0x1400, 0x1402, 0x1403, 0x1404, 0x1405, 0x1406, 0x1407, 0x1408, 0x1409, 0x140a, 0x140b,
   0x140c, 0x140d, 0x140f, 0x1410, 0x1411, 0x1412, 0x1413, 0x1414, 0x1415, 0x1416, 0x1417, 0x1418, 0x1430]

theorem State.runShipArm_touch {W0 : List Nat} {s0 s : State} (h0 : Touch W0 s0 s) (hW : Sub State.runShipArm_cells W0) (r : Run) (req : Requester) :
    Touch W0 s0 (State.runShipArm s r req) := by
  have c_State_doneFirst : Sub State.doneFirst_cells W0 := Sub.trans (Sub.of rfl) hW
  have c_State_post : Sub State.post_cells W0 := Sub.trans (Sub.of rfl) hW
  have c_State_cmdFinish : Sub State.cmdFinish_cells W0 := Sub.trans (Sub.of rfl) hW
  have w6 : Writes W0 R.SYS_EVENT := Or.inl (hW.mem rfl)
  have w1405 : 0x1405 ∈ W0 := hW.mem rfl
  unfold State.runShipArm
  repeat' first
    | with_reducible assumption
    | (extract_lets +onlyGivenNames xx; guard_hyp xx : (Boot) := _; revert xx; intro _)
    | (extract_lets +onlyGivenNames xx; (try clear_value xx); revert xx; intro _)
    | with_reducible refine State.doneFirst_touch ?_ c_State_doneFirst _ _ _ _
    | with_reducible refine State.post_touch ?_ c_State_post _ _
    | with_reducible refine State.cmdFinish_touch ?_ c_State_cmdFinish _ _ _ _
    | with_reducible refine State.event_touch ?_ _ ?_
    | with_reducible refine Touch.ite ?_ ?_
    | with_reducible refine Touch.update ?_

def State.eraseBaseline_cells : List Nat :=
  [0x910, 0x140c]

theorem State.eraseBaseline_touch {W0 : List Nat} {s0 s : State} (h0 : Touch W0 s0 s) (hW : Sub State.eraseBaseline_cells W0) :
    Touch W0 s0 (State.eraseBaseline s) := by
  have w910 : Writes W0 R.VDT_ZBASE := Or.inl (hW.mem rfl)
  have w140c : 0x140c ∈ W0 := hW.mem rfl
  unfold State.eraseBaseline
  repeat' first
    | with_reducible assumption
    | (extract_lets +onlyGivenNames xx; (try clear_value xx); revert xx; intro _)
    | with_reducible refine State.setReg_touch ?_ _ _ ?_
    | with_reducible refine Touch.update ?_

def State.lifeOk_cells : List Nat :=
  [0x900, 0x901, 0xa01, 0xa32, 0x140f]

theorem State.lifeOk_touch {W0 : List Nat} {s0 s : State} (h0 : Touch W0 s0 s) (hW : Sub State.lifeOk_cells W0) :
    Touch W0 s0 (State.lifeOk s) := by
  have c_State_postVerdict : Sub State.postVerdict_cells W0 := Sub.trans (Sub.of rfl) hW
  have w900 : Writes W0 R.VDT_STATUS := Or.inl (hW.mem rfl)
  unfold State.lifeOk
  repeat' first
    | with_reducible assumption
    | with_reducible refine State.postVerdict_touch ?_ c_State_postVerdict _ _
    | with_reducible refine State.setField_touch ?_ _ _ ?_
    | with_reducible refine Touch.ite ?_ ?_

def State.newCell_cells : List Nat :=
  [0x2, 0x6, 0x200, 0x300, 0x301, 0x31f, 0x400, 0x401, 0x40f, 0x801, 0x900, 0x901, 0x90b, 0x910, 0xa01, 0xa32, 0x1402,
   0x1408, 0x1409, 0x140c, 0x140f, 0x1411]

theorem State.newCell_touch {W0 : List Nat} {s0 s : State} (h0 : Touch W0 s0 s) (hW : Sub State.newCell_cells W0) (seq : Nat) :
    Touch W0 s0 (State.newCell s seq) := by
  have c_State_proofAbandon : Sub State.proofAbandon_cells W0 := Sub.trans (Sub.of rfl) hW
  have c_State_post : Sub State.post_cells W0 := Sub.trans (Sub.of rfl) hW
  have c_State_eraseBaseline : Sub State.eraseBaseline_cells W0 := Sub.trans (Sub.of rfl) hW
  have c_State_lifeOk : Sub State.lifeOk_cells W0 := Sub.trans (Sub.of rfl) hW
  unfold State.newCell
  repeat' first
    | with_reducible assumption
    | with_reducible refine State.proofAbandon_touch ?_ c_State_proofAbandon _
    | with_reducible refine State.post_touch ?_ c_State_post _ _
    | with_reducible refine State.eraseBaseline_touch ?_ c_State_eraseBaseline
    | with_reducible refine State.lifeOk_touch ?_ c_State_lifeOk

def State.runCellNew_cells : List Nat :=
  [0x2, 0x6, 0x200, 0x300, 0x301, 0x31f, 0x400, 0x401, 0x40f, 0x801, 0x900, 0x901, 0x90b, 0x910, 0xa01, 0xa32, 0xc20,
   0xc21, 0xc25, 0x1402, 0x1408, 0x1409, 0x140c, 0x140f, 0x1411, 0x1413, 0x1415]

theorem State.runCellNew_touch {W0 : List Nat} {s0 s : State} (h0 : Touch W0 s0 s) (hW : Sub State.runCellNew_cells W0) (r : Run) :
    Touch W0 s0 (State.runCellNew s r) := by
  have c_State_newCell : Sub State.newCell_cells W0 := Sub.trans (Sub.of rfl) hW
  have c_State_cmdFinish : Sub State.cmdFinish_cells W0 := Sub.trans (Sub.of rfl) hW
  unfold State.runCellNew
  repeat' first
    | with_reducible assumption
    | with_reducible refine State.newCell_touch ?_ c_State_newCell _
    | with_reducible refine State.cmdFinish_touch ?_ c_State_cmdFinish _ _ _ _
    | with_reducible refine Touch.ite ?_ ?_

def State.runProof_cells : List Nat :=
  [0x140c, 0x140d]

theorem State.runProof_touch {W0 : List Nat} {s0 s : State} (h0 : Touch W0 s0 s) (hW : Sub State.runProof_cells W0) (r : Run) :
    Touch W0 s0 (State.runProof s r) := by
  have c_State_proofRequest : Sub State.proofRequest_cells W0 := Sub.trans (Sub.of rfl) hW
  have w140d : 0x140d ∈ W0 := hW.mem rfl
  unfold State.runProof
  repeat' first
    | with_reducible assumption
    | (extract_lets +onlyGivenNames xx; guard_hyp xx : State := _; refine Touch.cut (x := xx) ?_ ?_; (on_goal 2 => (intro hh; (try clear_value xx); revert xx; intro _ _)); any_goals (revert xx; intro _))
    | (extract_lets +onlyGivenNames xx; (try clear_value xx); revert xx; intro _)
    | with_reducible refine State.proofRequest_touch ?_ c_State_proofRequest
    | with_reducible refine Touch.update ?_

def State.runControl_cells : List Nat :=
  [0x2, 0x6, 0x100, 0x200, 0x300, 0x301, 0x31f, 0x400, 0x401, 0x405, 0x40e, 0x40f, 0x500, 0x501, 0x504, 0x700, 0x701,
   0x70c, 0x70d, 0x70e, 0x70f, 0x801, 0x806, 0x807, 0x900, 0x901, 0xa00, 0xa01, 0xa16, 0xa17, 0xa28, 0xa29, 0xa2a,
   0xa2b, 0xa31, 0xa32, 0xc20, 0xc21, 0xc25, 0xc30, 0xc34, 0xd18, 0xe00, 0x1000, 0x1001, 0x1402, 0x1403, 0x1404,
   0x1405, 0x1406, 0x1408, 0x1409, 0x140a, 0x140b, 0x140c, 0x140d, 0x140f, 0x1410, 0x1411, 0x1413, 0x1415, 0x1417,
   0x1418, 0x1430]

theorem State.runControl_touch {W0 : List Nat} {s0 s : State} (h0 : Touch W0 s0 s) (hW : Sub State.runControl_cells W0) (r : Run) (req : Requester) (a : Nat) (v : Word) :
    Touch W0 s0 (State.runControl s r req a v) := by
  have c_State_runShip : Sub State.runShip_cells W0 := Sub.trans (Sub.of rfl) hW
  have c_State_cmdFinish : Sub State.cmdFinish_cells W0 := Sub.trans (Sub.of rfl) hW
  have c_State_runImageWrite : Sub State.runImageWrite_cells W0 := Sub.trans (Sub.of rfl) hW
  have c_State_runProof : Sub State.runProof_cells W0 := Sub.trans (Sub.of rfl) hW
  have c_State_tetCtrl : Sub State.tetCtrl_cells W0 := Sub.trans (Sub.of rfl) hW
  have c_State_hostTag : Sub State.hostTag_cells W0 := Sub.trans (Sub.of rfl) hW
  have c_State_actReg : Sub State.actReg_cells W0 := Sub.trans (Sub.of rfl) hW
  unfold State.runControl
  repeat' first
    | with_reducible assumption
    | with_reducible refine State.runShip_touch ?_ c_State_runShip _ _
    | with_reducible refine State.cmdFinish_touch ?_ c_State_cmdFinish _ _ _ _
    | with_reducible refine State.runImageWrite_touch ?_ c_State_runImageWrite _ _ _
    | with_reducible refine State.runProof_touch ?_ c_State_runProof _
    | with_reducible refine State.tetCtrl_touch ?_ c_State_tetCtrl _
    | with_reducible refine State.hostTag_touch ?_ c_State_hostTag _
    | with_reducible refine State.actReg_touch ?_ c_State_actReg _ _ _
    | with_reducible refine Touch.ite ?_ ?_

def State.runKeyed_cells : List Nat :=
  [0x2, 0x3, 0x6, 0xa, 0x100, 0x101, 0x114, 0x200, 0x300, 0x301, 0x305, 0x30a, 0x318, 0x31a, 0x31f, 0x400, 0x401,
   0x405, 0x40b, 0x40e, 0x40f, 0x500, 0x501, 0x504, 0x623, 0x640, 0x641, 0x642, 0x643, 0x644, 0x645, 0x646, 0x647,
   0x648, 0x649, 0x64a, 0x64b, 0x64c, 0x64d, 0x64e, 0x64f, 0x650, 0x651, 0x652, 0x653, 0x654, 0x655, 0x656, 0x657,
   0x658, 0x659, 0x65a, 0x65b, 0x65c, 0x65d, 0x65e, 0x65f, 0x700, 0x701, 0x70c, 0x70d, 0x70e, 0x70f, 0x801, 0x806,
   0x807, 0x811, 0x900, 0x901, 0x90b, 0x910, 0x911, 0xa00, 0xa01, 0xa05, 0xa16, 0xa17, 0xa28, 0xa29, 0xa2a, 0xa2b,
   0xa31, 0xa32, 0xa33, 0xa34, 0xb00, 0xb01, 0xb02, 0xb12, 0xb18, 0xc00, 0xc06, 0xc20, 0xc21, 0xc25, 0xc30, 0xc34,
   0xd18, 0xe00, 0xe01, 0xe14, 0x1000, 0x1001, 0x100c, 0x100d, 0x100e, 0x100f, 0x1010, 0x1400, 0x1402, 0x1403, 0x1404,
   0x1405, 0x1406, 0x1407, 0x1408, 0x1409, 0x140a, 0x140b, 0x140c, 0x140d, 0x140f, 0x1410, 0x1411, 0x1412, 0x1413,
   0x1414, 0x1415, 0x1416, 0x1417, 0x1418, 0x1430]

theorem State.runKeyed_touch {W0 : List Nat} {s0 s : State} (h0 : Touch W0 s0 s) (hW : Sub State.runKeyed_cells W0) (r : Run) (req : Requester) (a : Nat) (v : Word) :
    Touch W0 s0 (State.runKeyed s r req a v) := by
  have c_State_runControl : Sub State.runControl_cells W0 := Sub.trans (Sub.of rfl) hW
  have c_State_doneFirst : Sub State.doneFirst_cells W0 := Sub.trans (Sub.of rfl) hW
  have c_State_keyedAct : Sub State.keyedAct_cells W0 := Sub.trans (Sub.of rfl) hW
  have c_State_cmdFinish : Sub State.cmdFinish_cells W0 := Sub.trans (Sub.of rfl) hW
  have c_State_regWrite : Sub State.regWrite_cells W0 := Sub.trans (Sub.of rfl) hW
  unfold State.runKeyed
  repeat' first
    | with_reducible assumption
    | with_reducible refine State.runControl_touch ?_ c_State_runControl _ _ _ _
    | with_reducible refine State.doneFirst_touch ?_ c_State_doneFirst _ _ _ _
    | with_reducible refine State.keyedAct_touch ?_ c_State_keyedAct _ _
    | with_reducible refine State.cmdFinish_touch ?_ c_State_cmdFinish _ _ _ _
    | with_reducible refine State.regWrite_touch ?_ c_State_regWrite _ _ _ _ _
    | with_reducible refine Touch.ite ?_ ?_

def State.keyHalf_cells : List Nat :=
  [0x6, 0xa, 0x1403]

theorem State.keyHalf_touch {W0 : List Nat} {s0 s : State} (h0 : Touch W0 s0 s) (hW : Sub State.keyHalf_cells W0) (req : Requester) (a : Nat) (v : Word) (together : Bool) :
    Touch W0 s0 (State.keyHalf s req a v together).1 := by
  have c_State_armKey : Sub State.armKey_cells W0 := Sub.trans (Sub.of rfl) hW
  have c_State_loseKey : Sub State.loseKey_cells W0 := Sub.trans (Sub.of rfl) hW
  have c_State_dropKey : Sub State.dropKey_cells W0 := Sub.trans (Sub.of rfl) hW
  unfold State.keyHalf
  repeat' first
    | with_reducible assumption
    | with_reducible refine State.armKey_touch ?_ c_State_armKey _ _ _
    | with_reducible refine State.loseKey_touch ?_ c_State_loseKey _
    | with_reducible refine State.dropKey_touch ?_ c_State_dropKey _
    | split

theorem State.keyHalf_touch_eq {W0 : List Nat} {s0 s : State} {sOut : State} {u1 : Option (Nat × Word)} {u2 : Bool} (h0 : Touch W0 s0 s) (hW : Sub State.keyHalf_cells W0) (req : Requester) (a : Nat) (v : Word) (together : Bool)
    (e : (State.keyHalf s req a v together) = (sOut, u1, u2)) : Touch W0 s0 sOut := by
  have := State.keyHalf_touch h0 hW req a v together
  rwa [e] at this

def State.runRegWrite_cells : List Nat :=
  [0x2, 0x3, 0x6, 0xa, 0x100, 0x101, 0x114, 0x200, 0x300, 0x301, 0x305, 0x30a, 0x318, 0x31a, 0x31f, 0x400, 0x401,
   0x405, 0x40b, 0x40e, 0x40f, 0x500, 0x501, 0x504, 0x623, 0x640, 0x641, 0x642, 0x643, 0x644, 0x645, 0x646, 0x647,
   0x648, 0x649, 0x64a, 0x64b, 0x64c, 0x64d, 0x64e, 0x64f, 0x650, 0x651, 0x652, 0x653, 0x654, 0x655, 0x656, 0x657,
   0x658, 0x659, 0x65a, 0x65b, 0x65c, 0x65d, 0x65e, 0x65f, 0x700, 0x701, 0x70c, 0x70d, 0x70e, 0x70f, 0x801, 0x806,
   0x807, 0x811, 0x900, 0x901, 0x90b, 0x910, 0x911, 0xa00, 0xa01, 0xa05, 0xa16, 0xa17, 0xa28, 0xa29, 0xa2a, 0xa2b,
   0xa31, 0xa32, 0xa33, 0xa34, 0xb00, 0xb01, 0xb02, 0xb12, 0xb18, 0xc00, 0xc06, 0xc20, 0xc21, 0xc25, 0xc30, 0xc34,
   0xd18, 0xe00, 0xe01, 0xe14, 0x1000, 0x1001, 0x100c, 0x100d, 0x100e, 0x100f, 0x1010, 0x1400, 0x1402, 0x1403, 0x1404,
   0x1405, 0x1406, 0x1407, 0x1408, 0x1409, 0x140a, 0x140b, 0x140c, 0x140d, 0x140f, 0x1410, 0x1411, 0x1412, 0x1413,
   0x1414, 0x1415, 0x1416, 0x1417, 0x1418, 0x1430]

theorem State.runRegWrite_touch {W0 : List Nat} {s0 s : State} (h0 : Touch W0 s0 s) (hW : Sub State.runRegWrite_cells W0) (r : Run) (req : Requester) (addr : Nat) (v : Word) (keyed : Bool) :
    Touch W0 s0 (State.runRegWrite s r req addr v keyed) := by
  have c_State_runKeyed : Sub State.runKeyed_cells W0 := Sub.trans (Sub.of rfl) hW
  have c_State_keyHalf : Sub State.keyHalf_cells W0 := Sub.trans (Sub.of rfl) hW
  have c_State_cmdFinish : Sub State.cmdFinish_cells W0 := Sub.trans (Sub.of rfl) hW
  have c_State_runControl : Sub State.runControl_cells W0 := Sub.trans (Sub.of rfl) hW
  have c_State_regWrite : Sub State.regWrite_cells W0 := Sub.trans (Sub.of rfl) hW
  unfold State.runRegWrite
  repeat' first
    | with_reducible assumption
    | (extract_lets +onlyGivenNames xx; guard_hyp xx : (State × Option (Nat × Word) × Bool) := _; revert xx; intro _)
    | (extract_lets +onlyGivenNames xx; (try clear_value xx); revert xx; intro _)
    | with_reducible refine State.runKeyed_touch ?_ c_State_runKeyed _ _ _ _
    | with_reducible refine State.keyHalf_touch ?_ c_State_keyHalf _ _ _ _
    | with_reducible refine State.cmdFinish_touch ?_ c_State_cmdFinish _ _ _ _
    | with_reducible refine State.runControl_touch ?_ c_State_runControl _ _ _ _
    | with_reducible refine State.regWrite_touch ?_ c_State_regWrite _ _ _ _ _
    | with_reducible refine Touch.ite ?_ ?_
    | split

def State.runCalibrate_cells : List Nat :=
  [0x200, 0x300, 0x301, 0x31f, 0x400, 0x401, 0x40f, 0x801, 0x804, 0x806, 0x807, 0xa01, 0xa32, 0xc20, 0xc21, 0xc25,
   0x1402, 0x1408, 0x1409, 0x140f, 0x1411, 0x1413, 0x1415]

theorem State.runCalibrate_touch {W0 : List Nat} {s0 s : State} (h0 : Touch W0 s0 s) (hW : Sub State.runCalibrate_cells W0) (r : Run) (ma : Nat) :
    Touch W0 s0 (State.runCalibrate s r ma) := by
  have c_State_mbCalibrate : Sub State.mbCalibrate_cells W0 := Sub.trans (Sub.of rfl) hW
  have c_State_cmdFinish : Sub State.cmdFinish_cells W0 := Sub.trans (Sub.of rfl) hW
  have w804 : Writes W0 R.WB_ARG0 := Or.inl (hW.mem rfl)
  unfold State.runCalibrate
  repeat' first
    | with_reducible assumption
    | (extract_lets +onlyGivenNames xx; guard_hyp xx : State := _; refine Touch.cut (x := xx) ?_ ?_; (on_goal 2 => (intro hh; (try clear_value xx); revert xx; intro _ _)); any_goals (revert xx; intro _))
    | with_reducible refine State.mbCalibrate_touch ?_ c_State_mbCalibrate _
    | with_reducible refine State.cmdFinish_touch ?_ c_State_cmdFinish _ _ _ _
    | with_reducible refine State.setReg_touch ?_ _ _ ?_

def State.runReset_cells : List Nat :=
  [0x2, 0x3, 0x6, 0xa, 0x100, 0x200, 0x300, 0x301, 0x305, 0x30a, 0x318, 0x31f, 0x400, 0x401, 0x405, 0x40b, 0x40e,
   0x40f, 0x500, 0x801, 0x804, 0x806, 0x900, 0x901, 0x90b, 0x910, 0x911, 0xa00, 0xa01, 0xa05, 0xa28, 0xa29, 0xa2a,
   0xa2b, 0xa31, 0xa32, 0xa33, 0xa34, 0xb00, 0xb01, 0xb02, 0xb12, 0xb18, 0xc00, 0xc06, 0xc20, 0xc21, 0xc25, 0xc30,
   0xc34, 0xd18, 0xe00, 0xe14, 0x1000, 0x1400, 0x1402, 0x1403, 0x1404, 0x1405, 0x1406, 0x1407, 0x1408, 0x1409, 0x140a,
   0x140b, 0x140c, 0x140d, 0x140f, 0x1410, 0x1411, 0x1412, 0x1413, 0x1414, 0x1415, 0x1416, 0x1417, 0x1418, 0x1430]

theorem State.runReset_touch {W0 : List Nat} {s0 s : State} (h0 : Touch W0 s0 s) (hW : Sub State.runReset_cells W0) (r : Run) (target : Nat) :
    Touch W0 s0 (State.runReset s r target) := by
  have c_State_doneFirst : Sub State.doneFirst_cells W0 := Sub.trans (Sub.of rfl) hW
  have c_State_mbWbMailboxReset : Sub State.mbWbMailboxReset_cells W0 := Sub.trans (Sub.of rfl) hW
  have c_State_cmdFinish : Sub State.cmdFinish_cells W0 := Sub.trans (Sub.of rfl) hW
  have w804 : Writes W0 R.WB_ARG0 := Or.inl (hW.mem rfl)
  unfold State.runReset
  repeat' first
    | with_reducible assumption
    | with_reducible refine State.doneFirst_touch ?_ c_State_doneFirst _ _ _ _
    | with_reducible refine State.mbWbMailboxReset_touch ?_ c_State_mbWbMailboxReset _
    | with_reducible refine State.cmdFinish_touch ?_ c_State_cmdFinish _ _ _ _
    | with_reducible refine State.setReg_touch ?_ _ _ ?_
    | with_reducible refine Touch.ite ?_ ?_

def State.runBunilia_cells : List Nat :=
  [0x2, 0x3, 0x6, 0xa, 0x100, 0x101, 0x114, 0x200, 0x300, 0x301, 0x305, 0x30a, 0x318, 0x31a, 0x31f, 0x400, 0x401,
   0x405, 0x40b, 0x40e, 0x40f, 0x500, 0x501, 0x504, 0x623, 0x640, 0x641, 0x642, 0x643, 0x644, 0x645, 0x646, 0x647,
   0x648, 0x649, 0x64a, 0x64b, 0x64c, 0x64d, 0x64e, 0x64f, 0x650, 0x651, 0x652, 0x653, 0x654, 0x655, 0x656, 0x657,
   0x658, 0x659, 0x65a, 0x65b, 0x65c, 0x65d, 0x65e, 0x65f, 0x700, 0x701, 0x70c, 0x70d, 0x70e, 0x70f, 0x801, 0x804,
   0x806, 0x807, 0x811, 0x900, 0x901, 0x90b, 0x910, 0x911, 0xa00, 0xa01, 0xa05, 0xa16, 0xa17, 0xa28, 0xa29, 0xa2a,
   0xa2b, 0xa31, 0xa32, 0xa33, 0xa34, 0xb00, 0xb01, 0xb02, 0xb12, 0xb18, 0xc00, 0xc06, 0xc20, 0xc21, 0xc25, 0xc30,
   0xc34, 0xd18, 0xe00, 0xe01, 0xe14, 0x1000, 0x1001, 0x100c, 0x100d, 0x100e, 0x100f, 0x1010, 0x1400, 0x1402, 0x1403,
   0x1404, 0x1405, 0x1406, 0x1407, 0x1408, 0x1409, 0x140a, 0x140b, 0x140c, 0x140d, 0x140f, 0x1410, 0x1411, 0x1412,
   0x1413, 0x1414, 0x1415, 0x1416, 0x1417, 0x1418, 0x1430]

theorem State.runBunilia_touch {W0 : List Nat} {s0 s : State} (h0 : Touch W0 s0 s) (hW : Sub State.runBunilia_cells W0) (r : Run) :
    Touch W0 s0 (State.runBunilia s r) := by
  have c_State_runRegWrite : Sub State.runRegWrite_cells W0 := Sub.trans (Sub.of rfl) hW
  have c_State_runCalibrate : Sub State.runCalibrate_cells W0 := Sub.trans (Sub.of rfl) hW
  have c_State_runImageWrite : Sub State.runImageWrite_cells W0 := Sub.trans (Sub.of rfl) hW
  have c_State_runFwWrite : Sub State.runFwWrite_cells W0 := Sub.trans (Sub.of rfl) hW
  have c_State_runActivate : Sub State.runActivate_cells W0 := Sub.trans (Sub.of rfl) hW
  have c_State_runReset : Sub State.runReset_cells W0 := Sub.trans (Sub.of rfl) hW
  have c_State_runShip : Sub State.runShip_cells W0 := Sub.trans (Sub.of rfl) hW
  have c_State_runShipArm : Sub State.runShipArm_cells W0 := Sub.trans (Sub.of rfl) hW
  have c_State_runCellNew : Sub State.runCellNew_cells W0 := Sub.trans (Sub.of rfl) hW
  have c_State_runProof : Sub State.runProof_cells W0 := Sub.trans (Sub.of rfl) hW
  unfold State.runBunilia
  repeat' first
    | with_reducible assumption
    | (extract_lets +onlyGivenNames xx; (try clear_value xx); revert xx; intro _)
    | with_reducible refine State.runRegWrite_touch ?_ c_State_runRegWrite _ _ _ _ _
    | with_reducible refine State.runCalibrate_touch ?_ c_State_runCalibrate _ _
    | with_reducible refine State.runImageWrite_touch ?_ c_State_runImageWrite _ _ _
    | with_reducible refine State.runFwWrite_touch ?_ c_State_runFwWrite _
    | with_reducible refine State.runActivate_touch ?_ c_State_runActivate _ _ _
    | with_reducible refine State.runReset_touch ?_ c_State_runReset _ _
    | with_reducible refine State.runShip_touch ?_ c_State_runShip _ _
    | with_reducible refine State.runShipArm_touch ?_ c_State_runShipArm _ _
    | with_reducible refine State.runCellNew_touch ?_ c_State_runCellNew _
    | with_reducible refine State.runProof_touch ?_ c_State_runProof _
    | with_reducible refine Touch.ite ?_ ?_
    | split

def State.runCmd_cells : List Nat :=
  [0x2, 0x3, 0x6, 0xa, 0x100, 0x101, 0x114, 0x200, 0x300, 0x301, 0x305, 0x30a, 0x318, 0x31a, 0x31f, 0x400, 0x401,
   0x405, 0x40b, 0x40e, 0x40f, 0x500, 0x501, 0x504, 0x623, 0x640, 0x641, 0x642, 0x643, 0x644, 0x645, 0x646, 0x647,
   0x648, 0x649, 0x64a, 0x64b, 0x64c, 0x64d, 0x64e, 0x64f, 0x650, 0x651, 0x652, 0x653, 0x654, 0x655, 0x656, 0x657,
   0x658, 0x659, 0x65a, 0x65b, 0x65c, 0x65d, 0x65e, 0x65f, 0x700, 0x701, 0x70c, 0x70d, 0x70e, 0x70f, 0x801, 0x804,
   0x806, 0x807, 0x811, 0x900, 0x901, 0x90b, 0x910, 0x911, 0xa00, 0xa01, 0xa05, 0xa16, 0xa17, 0xa28, 0xa29, 0xa2a,
   0xa2b, 0xa31, 0xa32, 0xa33, 0xa34, 0xb00, 0xb01, 0xb02, 0xb12, 0xb18, 0xc00, 0xc06, 0xc20, 0xc21, 0xc25, 0xc30,
   0xc34, 0xd18, 0xe00, 0xe01, 0xe14, 0x1000, 0x1001, 0x100c, 0x100d, 0x100e, 0x100f, 0x1010, 0x1400, 0x1402, 0x1403,
   0x1404, 0x1405, 0x1406, 0x1407, 0x1408, 0x1409, 0x140a, 0x140b, 0x140c, 0x140d, 0x140f, 0x1410, 0x1411, 0x1412,
   0x1413, 0x1414, 0x1415, 0x1416, 0x1417, 0x1418, 0x1430]

theorem State.runCmd_touch {W0 : List Nat} {s0 s : State} (h0 : Touch W0 s0 s) (hW : Sub State.runCmd_cells W0) (r : Run) :
    Touch W0 s0 (State.runCmd s r) := by
  have c_State_runControl : Sub State.runControl_cells W0 := Sub.trans (Sub.of rfl) hW
  have c_State_runBunilia : Sub State.runBunilia_cells W0 := Sub.trans (Sub.of rfl) hW
  unfold State.runCmd
  repeat' first
    | with_reducible assumption
    | with_reducible refine State.runControl_touch ?_ c_State_runControl _ _ _ _
    | with_reducible refine State.runBunilia_touch ?_ c_State_runBunilia _
    | with_reducible refine Touch.ite ?_ ?_

def State.acceptCmd_cells : List Nat :=
  [0x2, 0x3, 0x6, 0xa, 0x100, 0x101, 0x114, 0x200, 0x300, 0x301, 0x305, 0x30a, 0x318, 0x31a, 0x31f, 0x400, 0x401,
   0x405, 0x40b, 0x40e, 0x40f, 0x500, 0x501, 0x504, 0x623, 0x640, 0x641, 0x642, 0x643, 0x644, 0x645, 0x646, 0x647,
   0x648, 0x649, 0x64a, 0x64b, 0x64c, 0x64d, 0x64e, 0x64f, 0x650, 0x651, 0x652, 0x653, 0x654, 0x655, 0x656, 0x657,
   0x658, 0x659, 0x65a, 0x65b, 0x65c, 0x65d, 0x65e, 0x65f, 0x700, 0x701, 0x70c, 0x70d, 0x70e, 0x70f, 0x801, 0x804,
   0x806, 0x807, 0x811, 0x900, 0x901, 0x90b, 0x910, 0x911, 0xa00, 0xa01, 0xa05, 0xa16, 0xa17, 0xa28, 0xa29, 0xa2a,
   0xa2b, 0xa31, 0xa32, 0xa33, 0xa34, 0xb00, 0xb01, 0xb02, 0xb12, 0xb18, 0xc00, 0xc06, 0xc20, 0xc21, 0xc25, 0xc30,
   0xc34, 0xd18, 0xe00, 0xe01, 0xe14, 0x1000, 0x1001, 0x100c, 0x100d, 0x100e, 0x100f, 0x1010, 0x1400, 0x1402, 0x1403,
   0x1404, 0x1405, 0x1406, 0x1407, 0x1408, 0x1409, 0x140a, 0x140b, 0x140c, 0x140d, 0x140f, 0x1410, 0x1411, 0x1412,
   0x1413, 0x1414, 0x1415, 0x1416, 0x1417, 0x1418, 0x1430]

theorem State.acceptCmd_touch {W0 : List Nat} {s0 s : State} (h0 : Touch W0 s0 s) (hW : Sub State.acceptCmd_cells W0) (c : QueuedCmd) (v : Verify) :
    Touch W0 s0 (State.acceptCmd s c v) := by
  have c_State_runCmd : Sub State.runCmd_cells W0 := Sub.trans (Sub.of rfl) hW
  have c_State_acceptRec : Sub State.acceptRec_cells W0 := Sub.trans (Sub.of rfl) hW
  have c_State_refreshBack : Sub State.refreshBack_cells W0 := Sub.trans (Sub.of rfl) hW
  unfold State.acceptCmd
  repeat' first
    | with_reducible assumption
    | (extract_lets +onlyGivenNames xx; guard_hyp xx : State := _; refine Touch.cut (x := xx) ?_ ?_; (on_goal 2 => (intro hh; (try clear_value xx); revert xx; intro _ _)); any_goals (revert xx; intro _))
    | (extract_lets +onlyGivenNames xx; (try clear_value xx); revert xx; intro _)
    | with_reducible refine State.runCmd_touch ?_ c_State_runCmd _
    | with_reducible refine State.acceptRec_touch ?_ c_State_acceptRec _ _
    | with_reducible refine State.refreshBack_touch ?_ c_State_refreshBack
    | with_reducible refine Touch.ite ?_ ?_

def State.cmdBusy_cells : List Nat :=
  [0xa01, 0xa32, 0x140f]

theorem State.cmdBusy_touch {W0 : List Nat} {s0 s : State} (h0 : Touch W0 s0 s) (hW : Sub State.cmdBusy_cells W0) :
    Touch W0 s0 (State.cmdBusy s) := by
  have c_State_tally : Sub State.tally_cells W0 := Sub.trans (Sub.of rfl) hW
  unfold State.cmdBusy
  repeat' first
    | with_reducible assumption
    | with_reducible refine State.tally_touch ?_ c_State_tally _

def State.command_cells : List Nat :=
  [0x2, 0x3, 0x6, 0xa, 0x100, 0x101, 0x114, 0x200, 0x300, 0x301, 0x305, 0x30a, 0x318, 0x31a, 0x31f, 0x400, 0x401,
   0x405, 0x40b, 0x40e, 0x40f, 0x500, 0x501, 0x504, 0x623, 0x640, 0x641, 0x642, 0x643, 0x644, 0x645, 0x646, 0x647,
   0x648, 0x649, 0x64a, 0x64b, 0x64c, 0x64d, 0x64e, 0x64f, 0x650, 0x651, 0x652, 0x653, 0x654, 0x655, 0x656, 0x657,
   0x658, 0x659, 0x65a, 0x65b, 0x65c, 0x65d, 0x65e, 0x65f, 0x700, 0x701, 0x70c, 0x70d, 0x70e, 0x70f, 0x801, 0x804,
   0x806, 0x807, 0x811, 0x900, 0x901, 0x90b, 0x910, 0x911, 0xa00, 0xa01, 0xa05, 0xa16, 0xa17, 0xa28, 0xa29, 0xa2a,
   0xa2b, 0xa31, 0xa32, 0xa33, 0xa34, 0xb00, 0xb01, 0xb02, 0xb12, 0xb18, 0xc00, 0xc06, 0xc20, 0xc21, 0xc25, 0xc30,
   0xc34, 0xd18, 0xe00, 0xe01, 0xe14, 0x1000, 0x1001, 0x100c, 0x100d, 0x100e, 0x100f, 0x1010, 0x1400, 0x1402, 0x1403,
   0x1404, 0x1405, 0x1406, 0x1407, 0x1408, 0x1409, 0x140a, 0x140b, 0x140c, 0x140d, 0x140f, 0x1410, 0x1411, 0x1412,
   0x1413, 0x1414, 0x1415, 0x1416, 0x1417, 0x1418, 0x1430]

theorem State.command_touch {W0 : List Nat} {s0 s : State} (h0 : Touch W0 s0 s) (hW : Sub State.command_cells W0) (c : QueuedCmd) :
    Touch W0 s0 (State.command s c).1 := by
  have c_State_answer : Sub State.answer_cells W0 := Sub.trans (Sub.of rfl) hW
  have c_State_acceptCmd : Sub State.acceptCmd_cells W0 := Sub.trans (Sub.of rfl) hW
  have c_State_cmdBusy : Sub State.cmdBusy_cells W0 := Sub.trans (Sub.of rfl) hW
  have w140d : 0x140d ∈ W0 := hW.mem rfl
  unfold State.command
  repeat' first
    | with_reducible assumption
    | (extract_lets +onlyGivenNames xx; (try clear_value xx); revert xx; intro _)
    | with_reducible refine State.answer_touch ?_ c_State_answer _ _
    | with_reducible refine State.acceptCmd_touch ?_ c_State_acceptCmd _ _
    | with_reducible refine State.cmdBusy_touch ?_ c_State_cmdBusy
    | split
    | dsimp only
    | with_reducible refine Touch.update ?_

theorem State.command_touch_eq {W0 : List Nat} {s0 s : State} {sOut : State} {u1 : Bool} (h0 : Touch W0 s0 s) (hW : Sub State.command_cells W0) (c : QueuedCmd)
    (e : (State.command s c) = (sOut, u1)) : Touch W0 s0 sOut := by
  have := State.command_touch h0 hW c
  rwa [e] at this

def State.acceptNext_cells : List Nat :=
  [0x2, 0x3, 0x6, 0xa, 0x100, 0x101, 0x114, 0x200, 0x300, 0x301, 0x305, 0x30a, 0x318, 0x31a, 0x31f, 0x400, 0x401,
   0x405, 0x40b, 0x40e, 0x40f, 0x500, 0x501, 0x504, 0x623, 0x640, 0x641, 0x642, 0x643, 0x644, 0x645, 0x646, 0x647,
   0x648, 0x649, 0x64a, 0x64b, 0x64c, 0x64d, 0x64e, 0x64f, 0x650, 0x651, 0x652, 0x653, 0x654, 0x655, 0x656, 0x657,
   0x658, 0x659, 0x65a, 0x65b, 0x65c, 0x65d, 0x65e, 0x65f, 0x700, 0x701, 0x70c, 0x70d, 0x70e, 0x70f, 0x801, 0x804,
   0x806, 0x807, 0x811, 0x900, 0x901, 0x90b, 0x910, 0x911, 0xa00, 0xa01, 0xa05, 0xa16, 0xa17, 0xa28, 0xa29, 0xa2a,
   0xa2b, 0xa31, 0xa32, 0xa33, 0xa34, 0xb00, 0xb01, 0xb02, 0xb12, 0xb18, 0xc00, 0xc06, 0xc20, 0xc21, 0xc25, 0xc30,
   0xc34, 0xd18, 0xe00, 0xe01, 0xe14, 0x1000, 0x1001, 0x100c, 0x100d, 0x100e, 0x100f, 0x1010, 0x1400, 0x1402, 0x1403,
   0x1404, 0x1405, 0x1406, 0x1407, 0x1408, 0x1409, 0x140a, 0x140b, 0x140c, 0x140d, 0x140f, 0x1410, 0x1411, 0x1412,
   0x1413, 0x1414, 0x1415, 0x1416, 0x1417, 0x1418, 0x1430]

theorem State.acceptNext_touch {W0 : List Nat} {s0 s : State} (h0 : Touch W0 s0 s) (hW : Sub State.acceptNext_cells W0) (v : Verify) :
    Touch W0 s0 (State.acceptNext s v) := by
  have c_State_acceptCmd : Sub State.acceptCmd_cells W0 := Sub.trans (Sub.of rfl) hW
  have w140d : 0x140d ∈ W0 := hW.mem rfl
  unfold State.acceptNext
  repeat' first
    | with_reducible assumption
    | (extract_lets +onlyGivenNames xx; (try clear_value xx); revert xx; intro _)
    | with_reducible refine State.acceptCmd_touch ?_ c_State_acceptCmd _ _
    | with_reducible refine Touch.ite ?_ ?_
    | split
    | with_reducible refine Touch.update ?_

def State.replayCmds_cells : List Nat :=
  [0x2, 0x3, 0x6, 0xa, 0x100, 0x101, 0x114, 0x200, 0x300, 0x301, 0x305, 0x30a, 0x318, 0x31a, 0x31f, 0x400, 0x401,
   0x405, 0x40b, 0x40e, 0x40f, 0x500, 0x501, 0x504, 0x623, 0x640, 0x641, 0x642, 0x643, 0x644, 0x645, 0x646, 0x647,
   0x648, 0x649, 0x64a, 0x64b, 0x64c, 0x64d, 0x64e, 0x64f, 0x650, 0x651, 0x652, 0x653, 0x654, 0x655, 0x656, 0x657,
   0x658, 0x659, 0x65a, 0x65b, 0x65c, 0x65d, 0x65e, 0x65f, 0x700, 0x701, 0x70c, 0x70d, 0x70e, 0x70f, 0x801, 0x804,
   0x806, 0x807, 0x811, 0x900, 0x901, 0x90b, 0x910, 0x911, 0xa00, 0xa01, 0xa05, 0xa16, 0xa17, 0xa28, 0xa29, 0xa2a,
   0xa2b, 0xa31, 0xa32, 0xa33, 0xa34, 0xb00, 0xb01, 0xb02, 0xb12, 0xb18, 0xc00, 0xc06, 0xc20, 0xc21, 0xc25, 0xc30,
   0xc34, 0xd18, 0xe00, 0xe01, 0xe14, 0x1000, 0x1001, 0x100c, 0x100d, 0x100e, 0x100f, 0x1010, 0x1400, 0x1402, 0x1403,
   0x1404, 0x1405, 0x1406, 0x1407, 0x1408, 0x1409, 0x140a, 0x140b, 0x140c, 0x140d, 0x140f, 0x1410, 0x1411, 0x1412,
   0x1413, 0x1414, 0x1415, 0x1416, 0x1417, 0x1418, 0x1430]

theorem State.replayCmds_touch {W0 : List Nat} {s0 s : State} (h0 : Touch W0 s0 s) (hW : Sub State.replayCmds_cells W0) :
    Touch W0 s0 (State.replayCmds s) := by
  have c_State_runCmd : Sub State.runCmd_cells W0 := Sub.trans (Sub.of rfl) hW
  have w140d : 0x140d ∈ W0 := hW.mem rfl
  unfold State.replayCmds
  repeat' first
    | with_reducible assumption
    | (extract_lets +onlyGivenNames xx; guard_hyp xx : State := _; refine Touch.cut (x := xx) ?_ ?_; (on_goal 2 => (intro hh; (try clear_value xx); revert xx; intro _ _)); any_goals (revert xx; intro _))
    | (extract_lets +onlyGivenNames xx; (try clear_value xx); revert xx; intro _)
    | with_reducible refine State.runCmd_touch ?_ c_State_runCmd _
    | with_reducible refine Touch.foldl ?_ ?_
    | with_reducible refine Touch.ite ?_ ?_
    | with_reducible intro _ _
    | with_reducible intro _
    | with_reducible refine Touch.update ?_

end Sys2Proof.Machine
end

