-- ==== Sys2Proof/Laws/TouchHostPort.lean ====
section
/-!
SUPPORT. What each operation of Machine/HostPort.lean can do: the registers and parts of the state it may write, and nothing
else; the unit, its queue and the form of its stores are kept.
-/

-- proofs are elaborated one after another: many at once ask for more threads than a memory limit allows
set_option Elab.async false

set_option linter.unusedTactic false
set_option linter.unusedVariables false
set_option linter.unusedSimpArgs false
set_option linter.unreachableTactic false
set_option linter.tactic.unusedName false

namespace Sys2Proof.Machine

def State.storePtr_cells : List Nat :=
  [0x1416]

theorem State.storePtr_touch {W0 : List Nat} {s0 s : State} (h0 : Touch W0 s0 s) (hW : Sub State.storePtr_cells W0) (compact : Bool) (ptr : Nat) :
    Touch W0 s0 (State.storePtr s compact ptr) := by
  have w1416 : 0x1416 ∈ W0 := hW.mem rfl
  unfold State.storePtr
  repeat' first
    | with_reducible assumption
    | (extract_lets +onlyGivenNames xx; (try clear_value xx); revert xx; intro _)
    | with_reducible refine Touch.ite ?_ ?_
    | with_reducible refine Touch.update ?_

def State.holdWrite_cells : List Nat :=
  [0x1416]

theorem State.holdWrite_touch {W0 : List Nat} {s0 s : State} (h0 : Touch W0 s0 s) (hW : Sub State.holdWrite_cells W0) (a : Nat) (v : Word) :
    Touch W0 s0 (State.holdWrite s a v) := by
  have w1416 : 0x1416 ∈ W0 := hW.mem rfl
  unfold State.holdWrite
  repeat' first
    | with_reducible assumption
    | (extract_lets +onlyGivenNames xx; (try clear_value xx); revert xx; intro _)
    | with_reducible refine Touch.update ?_

def State.hostCommand_cells : List Nat :=
  [0x2, 0x3, 0x6, 0xa, 0x100, 0x101, 0x114, 0x200, 0x300, 0x301, 0x305, 0x30a, 0x318, 0x31a, 0x31f, 0x400, 0x401,
   0x405, 0x40b, 0x40e, 0x40f, 0x500, 0x501, 0x504, 0x623, 0x640, 0x641, 0x642, 0x643, 0x644, 0x645, 0x646, 0x647,
   0x648, 0x649, 0x64a, 0x64b, 0x64c, 0x64d, 0x64e, 0x64f, 0x650, 0x651, 0x652, 0x653, 0x654, 0x655, 0x656, 0x657,
   0x658, 0x659, 0x65a, 0x65b, 0x65c, 0x65d, 0x65e, 0x65f, 0x700, 0x701, 0x70c, 0x70d, 0x70e, 0x70f, 0x801, 0x804,
   0x806, 0x807, 0x811, 0x900, 0x901, 0x90b, 0x910, 0x911, 0xa00, 0xa01, 0xa05, 0xa16, 0xa17, 0xa28, 0xa29, 0xa2a,
   0xa2b, 0xa31, 0xa32, 0xa33, 0xa34, 0xb00, 0xb01, 0xb02, 0xb12, 0xb18, 0xc00, 0xc06, 0xc20, 0xc21, 0xc25, 0xc30,
   0xc34, 0xd01, 0xd12, 0xd18, 0xe00, 0xe01, 0xe14, 0x1000, 0x1001, 0x100c, 0x100d, 0x100e, 0x100f, 0x1010, 0x1400,
   0x1402, 0x1403, 0x1404, 0x1405, 0x1406, 0x1407, 0x1408, 0x1409, 0x140a, 0x140b, 0x140c, 0x140d, 0x140f, 0x1410,
   0x1411, 0x1412, 0x1413, 0x1414, 0x1415, 0x1416, 0x1417, 0x1418, 0x1430]

theorem State.hostCommand_touch {W0 : List Nat} {s0 s : State} (h0 : Touch W0 s0 s) (hW : Sub State.hostCommand_cells W0) (a : Nat) (v : Word) :
    Touch W0 s0 (State.hostCommand s a v).1 := by
  have c_State_command : Sub State.command_cells W0 := Sub.trans (Sub.of rfl) hW
  have c_State_holdWrite : Sub State.holdWrite_cells W0 := Sub.trans (Sub.of rfl) hW
  have c_State_busRefuse : Sub State.busRefuse_cells W0 := Sub.trans (Sub.of rfl) hW
  have wd01 : Writes W0 R.TWB_EVENT := Or.inl (hW.mem rfl)
  unfold State.hostCommand
  repeat' first
    | with_reducible assumption
    | (extract_lets +onlyGivenNames xx; guard_hyp xx : (State × Bool) := _; revert xx; intro _)
    | with_reducible refine State.command_touch ?_ c_State_command _
    | with_reducible refine State.holdWrite_touch ?_ c_State_holdWrite _ _
    | with_reducible refine State.busRefuse_touch ?_ c_State_busRefuse _ ?_
    | split

theorem State.hostCommand_touch_eq {W0 : List Nat} {s0 s : State} {sOut : State} {u1 : Bool} (h0 : Touch W0 s0 s) (hW : Sub State.hostCommand_cells W0) (a : Nat) (v : Word)
    (e : (State.hostCommand s a v) = (sOut, u1)) : Touch W0 s0 sOut := by
  have := State.hostCommand_touch h0 hW a v
  rwa [e] at this

def State.hostKey_cells : List Nat :=
  [0x2, 0x3, 0x6, 0xa, 0x100, 0x101, 0x114, 0x200, 0x300, 0x301, 0x305, 0x30a, 0x318, 0x31a, 0x31f, 0x400, 0x401,
   0x405, 0x40b, 0x40e, 0x40f, 0x500, 0x501, 0x504, 0x623, 0x640, 0x641, 0x642, 0x643, 0x644, 0x645, 0x646, 0x647,
   0x648, 0x649, 0x64a, 0x64b, 0x64c, 0x64d, 0x64e, 0x64f, 0x650, 0x651, 0x652, 0x653, 0x654, 0x655, 0x656, 0x657,
   0x658, 0x659, 0x65a, 0x65b, 0x65c, 0x65d, 0x65e, 0x65f, 0x700, 0x701, 0x70c, 0x70d, 0x70e, 0x70f, 0x801, 0x804,
   0x806, 0x807, 0x811, 0x900, 0x901, 0x90b, 0x910, 0x911, 0xa00, 0xa01, 0xa05, 0xa16, 0xa17, 0xa28, 0xa29, 0xa2a,
   0xa2b, 0xa31, 0xa32, 0xa33, 0xa34, 0xb00, 0xb01, 0xb02, 0xb12, 0xb18, 0xc00, 0xc06, 0xc20, 0xc21, 0xc25, 0xc30,
   0xc34, 0xd01, 0xd12, 0xd18, 0xe00, 0xe01, 0xe14, 0x1000, 0x1001, 0x100c, 0x100d, 0x100e, 0x100f, 0x1010, 0x1400,
   0x1402, 0x1403, 0x1404, 0x1405, 0x1406, 0x1407, 0x1408, 0x1409, 0x140a, 0x140b, 0x140c, 0x140d, 0x140f, 0x1410,
   0x1411, 0x1412, 0x1413, 0x1414, 0x1415, 0x1416, 0x1417, 0x1418, 0x1430]

theorem State.hostKey_touch {W0 : List Nat} {s0 s : State} (h0 : Touch W0 s0 s) (hW : Sub State.hostKey_cells W0) (a : Nat) (v : Word) (together : Bool) :
    Touch W0 s0 (State.hostKey s a v together).1 := by
  have c_State_keyHalf : Sub State.keyHalf_cells W0 := Sub.trans (Sub.of rfl) hW
  have c_State_hostCommand : Sub State.hostCommand_cells W0 := Sub.trans (Sub.of rfl) hW
  have c_State_keyedAct : Sub State.keyedAct_cells W0 := Sub.trans (Sub.of rfl) hW
  unfold State.hostKey
  repeat' first
    | with_reducible assumption
    | (extract_lets +onlyGivenNames xx; guard_hyp xx : (State × Option (Nat × Word) × Bool) := _; revert xx; intro _)
    | with_reducible refine State.keyHalf_touch ?_ c_State_keyHalf _ _ _ _
    | with_reducible refine State.hostCommand_touch ?_ c_State_hostCommand _ _
    | with_reducible refine State.keyedAct_touch ?_ c_State_keyedAct _ _
    | split

theorem State.hostKey_touch_eq {W0 : List Nat} {s0 s : State} {sOut : State} {u1 : Bool} (h0 : Touch W0 s0 s) (hW : Sub State.hostKey_cells W0) (a : Nat) (v : Word) (together : Bool)
    (e : (State.hostKey s a v together) = (sOut, u1)) : Touch W0 s0 sOut := by
  have := State.hostKey_touch h0 hW a v together
  rwa [e] at this

def State.hostControl_cells : List Nat :=
  [0x2, 0x3, 0x6, 0xa, 0x100, 0x101, 0x114, 0x200, 0x300, 0x301, 0x305, 0x30a, 0x318, 0x31a, 0x31f, 0x400, 0x401,
   0x405, 0x40b, 0x40e, 0x40f, 0x500, 0x501, 0x504, 0x623, 0x640, 0x641, 0x642, 0x643, 0x644, 0x645, 0x646, 0x647,
   0x648, 0x649, 0x64a, 0x64b, 0x64c, 0x64d, 0x64e, 0x64f, 0x650, 0x651, 0x652, 0x653, 0x654, 0x655, 0x656, 0x657,
   0x658, 0x659, 0x65a, 0x65b, 0x65c, 0x65d, 0x65e, 0x65f, 0x700, 0x701, 0x70c, 0x70d, 0x70e, 0x70f, 0x801, 0x804,
   0x806, 0x807, 0x811, 0x900, 0x901, 0x90b, 0x910, 0x911, 0xa00, 0xa01, 0xa05, 0xa16, 0xa17, 0xa28, 0xa29, 0xa2a,
   0xa2b, 0xa31, 0xa32, 0xa33, 0xa34, 0xb00, 0xb01, 0xb02, 0xb12, 0xb18, 0xc00, 0xc06, 0xc20, 0xc21, 0xc25, 0xc30,
   0xc34, 0xd01, 0xd12, 0xd18, 0xe00, 0xe01, 0xe14, 0x1000, 0x1001, 0x100c, 0x100d, 0x100e, 0x100f, 0x1010, 0x1400,
   0x1402, 0x1403, 0x1404, 0x1405, 0x1406, 0x1407, 0x1408, 0x1409, 0x140a, 0x140b, 0x140c, 0x140d, 0x140f, 0x1410,
   0x1411, 0x1412, 0x1413, 0x1414, 0x1415, 0x1416, 0x1417, 0x1418, 0x1430]

theorem State.hostControl_touch {W0 : List Nat} {s0 s : State} (h0 : Touch W0 s0 s) (hW : Sub State.hostControl_cells W0) (form : Nat) (a : Nat) (v : Word) :
    Touch W0 s0 (State.hostControl s form a v).1 := by
  have c_State_hostCommand : Sub State.hostCommand_cells W0 := Sub.trans (Sub.of rfl) hW
  have c_State_badWrite : Sub State.badWrite_cells W0 := Sub.trans (Sub.of rfl) hW
  unfold State.hostControl
  repeat' first
    | with_reducible assumption
    | (extract_lets +onlyGivenNames xx; (try clear_value xx); revert xx; intro _)
    | with_reducible refine State.hostCommand_touch ?_ c_State_hostCommand _ _
    | with_reducible refine State.badWrite_touch ?_ c_State_badWrite
    | split

theorem State.hostControl_touch_eq {W0 : List Nat} {s0 s : State} {sOut : State} {u1 : Bool} (h0 : Touch W0 s0 s) (hW : Sub State.hostControl_cells W0) (form : Nat) (a : Nat) (v : Word)
    (e : (State.hostControl s form a v) = (sOut, u1)) : Touch W0 s0 sOut := by
  have := State.hostControl_touch h0 hW form a v
  rwa [e] at this

def State.hostWord_cells : List Nat :=
  [0x2, 0x3, 0x6, 0xa, 0x100, 0x101, 0x114, 0x200, 0x300, 0x301, 0x305, 0x30a, 0x318, 0x31a, 0x31f, 0x400, 0x401,
   0x405, 0x40b, 0x40e, 0x40f, 0x500, 0x501, 0x504, 0x623, 0x640, 0x641, 0x642, 0x643, 0x644, 0x645, 0x646, 0x647,
   0x648, 0x649, 0x64a, 0x64b, 0x64c, 0x64d, 0x64e, 0x64f, 0x650, 0x651, 0x652, 0x653, 0x654, 0x655, 0x656, 0x657,
   0x658, 0x659, 0x65a, 0x65b, 0x65c, 0x65d, 0x65e, 0x65f, 0x700, 0x701, 0x70c, 0x70d, 0x70e, 0x70f, 0x801, 0x804,
   0x806, 0x807, 0x811, 0x900, 0x901, 0x90b, 0x910, 0x911, 0xa00, 0xa01, 0xa05, 0xa16, 0xa17, 0xa28, 0xa29, 0xa2a,
   0xa2b, 0xa31, 0xa32, 0xa33, 0xa34, 0xb00, 0xb01, 0xb02, 0xb12, 0xb18, 0xc00, 0xc06, 0xc20, 0xc21, 0xc25, 0xc30,
   0xc34, 0xd01, 0xd12, 0xd18, 0xe00, 0xe01, 0xe14, 0x1000, 0x1001, 0x100c, 0x100d, 0x100e, 0x100f, 0x1010, 0x1400,
   0x1402, 0x1403, 0x1404, 0x1405, 0x1406, 0x1407, 0x1408, 0x1409, 0x140a, 0x140b, 0x140c, 0x140d, 0x140f, 0x1410,
   0x1411, 0x1412, 0x1413, 0x1414, 0x1415, 0x1416, 0x1417, 0x1418, 0x1430]

theorem State.hostWord_touch {W0 : List Nat} {s0 s : State} (h0 : Touch W0 s0 s) (hW : Sub State.hostWord_cells W0) (form : Nat) (a : Nat) (v : Word) (together : Bool) :
    Touch W0 s0 (State.hostWord s form a v together).1 := by
  have c_State_busRefuse : Sub State.busRefuse_cells W0 := Sub.trans (Sub.of rfl) hW
  have c_State_hostKey : Sub State.hostKey_cells W0 := Sub.trans (Sub.of rfl) hW
  have c_State_hostControl : Sub State.hostControl_cells W0 := Sub.trans (Sub.of rfl) hW
  have c_State_regWrite : Sub State.regWrite_cells W0 := Sub.trans (Sub.of rfl) hW
  have wd01 : Writes W0 R.TWB_EVENT := Or.inl (hW.mem rfl)
  unfold State.hostWord
  repeat' first
    | with_reducible assumption
    | with_reducible refine State.busRefuse_touch ?_ c_State_busRefuse _ ?_
    | with_reducible refine State.hostKey_touch ?_ c_State_hostKey _ _ _
    | with_reducible refine State.hostControl_touch ?_ c_State_hostControl _ _ _
    | with_reducible refine State.regWrite_touch ?_ c_State_regWrite _ _ _ _ _
    | split

theorem State.hostWord_touch_eq {W0 : List Nat} {s0 s : State} {sOut : State} {u1 : Bool} (h0 : Touch W0 s0 s) (hW : Sub State.hostWord_cells W0) (form : Nat) (a : Nat) (v : Word) (together : Bool)
    (e : (State.hostWord s form a v together) = (sOut, u1)) : Touch W0 s0 sOut := by
  have := State.hostWord_touch h0 hW form a v together
  rwa [e] at this

def State.keyPassed_cells : List Nat :=
  [0x6, 0xa, 0x1403]

theorem State.keyPassed_touch {W0 : List Nat} {s0 s : State} (h0 : Touch W0 s0 s) (hW : Sub State.keyPassed_cells W0) (req : Requester) (target : Option Nat) :
    Touch W0 s0 (State.keyPassed s req target) := by
  have c_State_loseKey : Sub State.loseKey_cells W0 := Sub.trans (Sub.of rfl) hW
  unfold State.keyPassed
  repeat' first
    | with_reducible assumption
    | with_reducible refine State.loseKey_touch ?_ c_State_loseKey _
    | with_reducible refine Touch.ite ?_ ?_
    | split

def State.heldRest_cells : List Nat :=
  [0x1416]

theorem State.heldRest_touch {W0 : List Nat} {s0 s : State} (h0 : Touch W0 s0 s) (hW : Sub State.heldRest_cells W0) (compact : Bool) (ptr : Nat) (rest : List Word) :
    Touch W0 s0 (State.heldRest s compact ptr rest) := by
  have w1416 : 0x1416 ∈ W0 := hW.mem rfl
  unfold State.heldRest
  repeat' first
    | with_reducible assumption
    | (extract_lets +onlyGivenNames xx; (try clear_value xx); revert xx; intro _)
    | with_reducible refine Touch.update ?_

def State.hostBurst_cells : List Nat :=
  [0x2, 0x3, 0x6, 0xa, 0x100, 0x101, 0x114, 0x200, 0x300, 0x301, 0x305, 0x30a, 0x318, 0x31a, 0x31f, 0x400, 0x401,
   0x405, 0x40b, 0x40e, 0x40f, 0x500, 0x501, 0x504, 0x623, 0x640, 0x641, 0x642, 0x643, 0x644, 0x645, 0x646, 0x647,
   0x648, 0x649, 0x64a, 0x64b, 0x64c, 0x64d, 0x64e, 0x64f, 0x650, 0x651, 0x652, 0x653, 0x654, 0x655, 0x656, 0x657,
   0x658, 0x659, 0x65a, 0x65b, 0x65c, 0x65d, 0x65e, 0x65f, 0x700, 0x701, 0x70c, 0x70d, 0x70e, 0x70f, 0x801, 0x804,
   0x806, 0x807, 0x811, 0x900, 0x901, 0x90b, 0x910, 0x911, 0xa00, 0xa01, 0xa05, 0xa16, 0xa17, 0xa28, 0xa29, 0xa2a,
   0xa2b, 0xa31, 0xa32, 0xa33, 0xa34, 0xb00, 0xb01, 0xb02, 0xb12, 0xb18, 0xc00, 0xc06, 0xc20, 0xc21, 0xc25, 0xc30,
   0xc34, 0xd01, 0xd12, 0xd18, 0xe00, 0xe01, 0xe14, 0x1000, 0x1001, 0x100c, 0x100d, 0x100e, 0x100f, 0x1010, 0x1400,
   0x1402, 0x1403, 0x1404, 0x1405, 0x1406, 0x1407, 0x1408, 0x1409, 0x140a, 0x140b, 0x140c, 0x140d, 0x140f, 0x1410,
   0x1411, 0x1412, 0x1413, 0x1414, 0x1415, 0x1416, 0x1417, 0x1418, 0x1430]

theorem State.hostBurst_touch {W0 : List Nat} {s0 s : State} (h0 : Touch W0 s0 s) (hW : Sub State.hostBurst_cells W0)
    (compact : Bool) (l : List Word) (ptr : Nat) (together : Bool) :
    Touch W0 s0 (State.hostBurst compact l s ptr together).1 := by
  induction l generalizing s ptr together with
  | nil => exact h0
  | cons v l ih =>
    have h1 := State.hostWord_touch h0 (Sub.trans (Sub.of rfl) hW)
    unfold State.hostBurst
    extract_lets
    split
    · exact h1 _ _ _ _
    split
    · exact State.heldRest_touch (h1 _ _ _ _) (Sub.trans (Sub.of rfl) hW) _ _ _
    · exact ih (h1 _ _ _ _) _ _

theorem State.hostBurst_touch_eq {W0 : List Nat} {s0 s t : State} {b : Nat} {c : Bool} (h0 : Touch W0 s0 s)
    (hW : Sub State.hostBurst_cells W0) (compact : Bool) (l : List Word) (ptr : Nat) (together : Bool)
    (e : State.hostBurst compact l s ptr together = (t, b, c)) : Touch W0 s0 t := by
  have := State.hostBurst_touch h0 hW compact l ptr together
  rwa [e] at this

def State.hostEnd_cells : List Nat :=
  [0x1403, 0x1416, 0x1430]

theorem State.hostEnd_touch {W0 : List Nat} {s0 s : State} (h0 : Touch W0 s0 s) (hW : Sub State.hostEnd_cells W0) (before : Bool) (compact : Bool) (ptr : Option Nat) (data : List Word) (nack : Bool) :
    Touch W0 s0 (State.hostEnd s before compact ptr data nack) := by
  have c_State_busAnswer : Sub State.busAnswer_cells W0 := Sub.trans (Sub.of rfl) hW
  have c_State_storePtr : Sub State.storePtr_cells W0 := Sub.trans (Sub.of rfl) hW
  have c_State_busStop : Sub State.busStop_cells W0 := Sub.trans (Sub.of rfl) hW
  have c_State_sumFall : Sub State.sumFall_cells W0 := Sub.trans (Sub.of rfl) hW
  unfold State.hostEnd
  repeat' first
    | with_reducible assumption
    | (extract_lets +onlyGivenNames xx; guard_hyp xx : State := _; refine Touch.cut (x := xx) ?_ ?_; (on_goal 2 => (intro hh; (try clear_value xx); revert xx; intro _ _)); any_goals (revert xx; intro _))
    | with_reducible refine State.busAnswer_touch ?_ c_State_busAnswer _ _
    | with_reducible refine State.storePtr_touch ?_ c_State_storePtr _ _
    | with_reducible refine State.busStop_touch ?_ c_State_busStop
    | with_reducible refine State.sumFall_touch ?_ c_State_sumFall
    | with_reducible refine Touch.ite ?_ ?_
    | split
    | with_reducible refine Touch.update ?_

def State.writeEnd_cells : List Nat :=
  [0xd01, 0x1403, 0x1416, 0x1430]

theorem State.writeEnd_touch {W0 : List Nat} {s0 s : State} (h0 : Touch W0 s0 s) (hW : Sub State.writeEnd_cells W0) (before : Bool) (compact : Bool) (ptr : Nat) (nack : Bool) (half : Bool) (excess : Bool) (keepPtr : Bool) :
    Touch W0 s0 (State.writeEnd s before compact ptr nack half excess keepPtr) := by
  have c_State_hostEnd : Sub State.hostEnd_cells W0 := Sub.trans (Sub.of rfl) hW
  have wd01 : Writes W0 R.TWB_EVENT := Or.inl (hW.mem rfl)
  have w1416 : 0x1416 ∈ W0 := hW.mem rfl
  unfold State.writeEnd
  repeat' first
    | with_reducible assumption
    | (extract_lets +onlyGivenNames xx; guard_hyp xx : State := _; refine Touch.cut (x := xx) ?_ ?_; (on_goal 2 => (intro hh; (try clear_value xx); revert xx; intro _ _)); any_goals (revert xx; intro _))
    | (extract_lets +onlyGivenNames xx; (try clear_value xx); revert xx; intro _)
    | with_reducible refine State.hostEnd_touch ?_ c_State_hostEnd _ _ _ _ _
    | with_reducible refine State.event_touch ?_ _ ?_
    | with_reducible refine Touch.ite ?_ ?_
    | with_reducible refine Touch.update ?_

def State.heldResume_cells : List Nat :=
  [0x2, 0x3, 0x6, 0xa, 0x100, 0x101, 0x114, 0x200, 0x300, 0x301, 0x305, 0x30a, 0x318, 0x31a, 0x31f, 0x400, 0x401,
   0x405, 0x40b, 0x40e, 0x40f, 0x500, 0x501, 0x504, 0x623, 0x640, 0x641, 0x642, 0x643, 0x644, 0x645, 0x646, 0x647,
   0x648, 0x649, 0x64a, 0x64b, 0x64c, 0x64d, 0x64e, 0x64f, 0x650, 0x651, 0x652, 0x653, 0x654, 0x655, 0x656, 0x657,
   0x658, 0x659, 0x65a, 0x65b, 0x65c, 0x65d, 0x65e, 0x65f, 0x700, 0x701, 0x70c, 0x70d, 0x70e, 0x70f, 0x801, 0x804,
   0x806, 0x807, 0x811, 0x900, 0x901, 0x90b, 0x910, 0x911, 0xa00, 0xa01, 0xa05, 0xa16, 0xa17, 0xa28, 0xa29, 0xa2a,
   0xa2b, 0xa31, 0xa32, 0xa33, 0xa34, 0xb00, 0xb01, 0xb02, 0xb12, 0xb18, 0xc00, 0xc06, 0xc20, 0xc21, 0xc25, 0xc30,
   0xc34, 0xd01, 0xd12, 0xd18, 0xe00, 0xe01, 0xe14, 0x1000, 0x1001, 0x100c, 0x100d, 0x100e, 0x100f, 0x1010, 0x1400,
   0x1402, 0x1403, 0x1404, 0x1405, 0x1406, 0x1407, 0x1408, 0x1409, 0x140a, 0x140b, 0x140c, 0x140d, 0x140f, 0x1410,
   0x1411, 0x1412, 0x1413, 0x1414, 0x1415, 0x1416, 0x1417, 0x1418, 0x1430]

theorem State.heldResume_touch {W0 : List Nat} {s0 s : State} (h0 : Touch W0 s0 s) (hW : Sub State.heldResume_cells W0) (h : HeldWrite) :
    Touch W0 s0 (State.heldResume s h) := by
  have c_State_hostCommand : Sub State.hostCommand_cells W0 := Sub.trans (Sub.of rfl) hW
  have c_State_writeEnd : Sub State.writeEnd_cells W0 := Sub.trans (Sub.of rfl) hW
  have c_State_hostBurst : Sub State.hostBurst_cells W0 := Sub.trans (Sub.of rfl) hW
  have w1416 : 0x1416 ∈ W0 := hW.mem rfl
  unfold State.heldResume
  repeat' first
    | with_reducible assumption
    | (extract_lets +onlyGivenNames xx; guard_hyp xx : (State × Bool) := _; revert xx; intro _)
    | (extract_lets +onlyGivenNames xx; guard_hyp xx : (State × Nat × Bool) := _; revert xx; intro _)
    | (extract_lets +onlyGivenNames xx; (try clear_value xx); revert xx; intro _)
    | with_reducible refine State.hostCommand_touch ?_ c_State_hostCommand _ _
    | with_reducible refine State.writeEnd_touch ?_ c_State_writeEnd _ _ _ _ _ _ _
    | with_reducible refine State.hostBurst_touch ?_ c_State_hostBurst _ _ _ _
    | with_reducible refine Touch.ite ?_ ?_
    | with_reducible refine Touch.update ?_

def State.heldRefuse_cells : List Nat :=
  [0xa01, 0xa32, 0xd01, 0xd12, 0x1403, 0x140f, 0x1416, 0x1430]

theorem State.heldRefuse_touch {W0 : List Nat} {s0 s : State} (h0 : Touch W0 s0 s) (hW : Sub State.heldRefuse_cells W0) (h : HeldWrite) :
    Touch W0 s0 (State.heldRefuse s h) := by
  have c_State_cmdBusy : Sub State.cmdBusy_cells W0 := Sub.trans (Sub.of rfl) hW
  have c_State_busRefuse : Sub State.busRefuse_cells W0 := Sub.trans (Sub.of rfl) hW
  have c_State_writeEnd : Sub State.writeEnd_cells W0 := Sub.trans (Sub.of rfl) hW
  have wd01 : Writes W0 R.TWB_EVENT := Or.inl (hW.mem rfl)
  have w1416 : 0x1416 ∈ W0 := hW.mem rfl
  unfold State.heldRefuse
  repeat' first
    | with_reducible assumption
    | (extract_lets +onlyGivenNames xx; (try clear_value xx); revert xx; intro _)
    | with_reducible refine State.cmdBusy_touch ?_ c_State_cmdBusy
    | with_reducible refine State.busRefuse_touch ?_ c_State_busRefuse _ ?_
    | with_reducible refine State.writeEnd_touch ?_ c_State_writeEnd _ _ _ _ _ _ _
    | with_reducible refine Touch.update ?_

def State.heldStep_cells : List Nat :=
  [0x2, 0x3, 0x6, 0xa, 0x100, 0x101, 0x114, 0x200, 0x300, 0x301, 0x305, 0x30a, 0x318, 0x31a, 0x31f, 0x400, 0x401,
   0x405, 0x40b, 0x40e, 0x40f, 0x500, 0x501, 0x504, 0x623, 0x640, 0x641, 0x642, 0x643, 0x644, 0x645, 0x646, 0x647,
   0x648, 0x649, 0x64a, 0x64b, 0x64c, 0x64d, 0x64e, 0x64f, 0x650, 0x651, 0x652, 0x653, 0x654, 0x655, 0x656, 0x657,
   0x658, 0x659, 0x65a, 0x65b, 0x65c, 0x65d, 0x65e, 0x65f, 0x700, 0x701, 0x70c, 0x70d, 0x70e, 0x70f, 0x801, 0x804,
   0x806, 0x807, 0x811, 0x900, 0x901, 0x90b, 0x910, 0x911, 0xa00, 0xa01, 0xa05, 0xa16, 0xa17, 0xa28, 0xa29, 0xa2a,
   0xa2b, 0xa31, 0xa32, 0xa33, 0xa34, 0xb00, 0xb01, 0xb02, 0xb12, 0xb18, 0xc00, 0xc06, 0xc20, 0xc21, 0xc25, 0xc30,
   0xc34, 0xd01, 0xd12, 0xd18, 0xe00, 0xe01, 0xe14, 0x1000, 0x1001, 0x100c, 0x100d, 0x100e, 0x100f, 0x1010, 0x1400,
   0x1402, 0x1403, 0x1404, 0x1405, 0x1406, 0x1407, 0x1408, 0x1409, 0x140a, 0x140b, 0x140c, 0x140d, 0x140f, 0x1410,
   0x1411, 0x1412, 0x1413, 0x1414, 0x1415, 0x1416, 0x1417, 0x1418, 0x1430]

theorem State.heldStep_touch {W0 : List Nat} {s0 s : State} (h0 : Touch W0 s0 s) (hW : Sub State.heldStep_cells W0) :
    Touch W0 s0 (State.heldStep s) := by
  have c_State_heldResume : Sub State.heldResume_cells W0 := Sub.trans (Sub.of rfl) hW
  have c_State_heldRefuse : Sub State.heldRefuse_cells W0 := Sub.trans (Sub.of rfl) hW
  have w1416 : 0x1416 ∈ W0 := hW.mem rfl
  unfold State.heldStep
  repeat' first
    | with_reducible assumption
    | (extract_lets +onlyGivenNames xx; (try clear_value xx); revert xx; intro _)
    | with_reducible refine State.heldResume_touch ?_ c_State_heldResume _
    | with_reducible refine State.heldRefuse_touch ?_ c_State_heldRefuse _
    | with_reducible refine Touch.ite ?_ ?_
    | split
    | with_reducible refine Touch.update ?_

def State.hostPlain_cells : List Nat :=
  [0x2, 0x3, 0x6, 0xa, 0x100, 0x101, 0x114, 0x200, 0x300, 0x301, 0x305, 0x30a, 0x318, 0x31a, 0x31f, 0x400, 0x401,
   0x405, 0x40b, 0x40e, 0x40f, 0x500, 0x501, 0x504, 0x623, 0x640, 0x641, 0x642, 0x643, 0x644, 0x645, 0x646, 0x647,
   0x648, 0x649, 0x64a, 0x64b, 0x64c, 0x64d, 0x64e, 0x64f, 0x650, 0x651, 0x652, 0x653, 0x654, 0x655, 0x656, 0x657,
   0x658, 0x659, 0x65a, 0x65b, 0x65c, 0x65d, 0x65e, 0x65f, 0x700, 0x701, 0x70c, 0x70d, 0x70e, 0x70f, 0x801, 0x804,
   0x806, 0x807, 0x811, 0x900, 0x901, 0x90b, 0x910, 0x911, 0xa00, 0xa01, 0xa05, 0xa16, 0xa17, 0xa28, 0xa29, 0xa2a,
   0xa2b, 0xa31, 0xa32, 0xa33, 0xa34, 0xb00, 0xb01, 0xb02, 0xb12, 0xb18, 0xc00, 0xc06, 0xc20, 0xc21, 0xc25, 0xc30,
   0xc34, 0xd01, 0xd12, 0xd18, 0xe00, 0xe01, 0xe14, 0x1000, 0x1001, 0x100c, 0x100d, 0x100e, 0x100f, 0x1010, 0x1400,
   0x1402, 0x1403, 0x1404, 0x1405, 0x1406, 0x1407, 0x1408, 0x1409, 0x140a, 0x140b, 0x140c, 0x140d, 0x140f, 0x1410,
   0x1411, 0x1412, 0x1413, 0x1414, 0x1415, 0x1416, 0x1417, 0x1418, 0x1430]

theorem State.hostPlain_touch {W0 : List Nat} {s0 s : State} (h0 : Touch W0 s0 s) (hW : Sub State.hostPlain_cells W0) (compact : Bool) (ptr : Nat) (bytes : List Byte) :
    Touch W0 s0 (State.hostPlain s compact ptr bytes) := by
  have c_State_hostBurst : Sub State.hostBurst_cells W0 := Sub.trans (Sub.of rfl) hW
  have c_State_writeEnd : Sub State.writeEnd_cells W0 := Sub.trans (Sub.of rfl) hW
  unfold State.hostPlain
  repeat' first
    | with_reducible assumption
    | (extract_lets +onlyGivenNames xx; guard_hyp xx : (State × Nat × Bool) := _; revert xx; intro _)
    | (extract_lets +onlyGivenNames xx; (try clear_value xx); revert xx; intro _)
    | with_reducible refine State.hostBurst_touch ?_ c_State_hostBurst _ _ _ _
    | with_reducible refine State.writeEnd_touch ?_ c_State_writeEnd _ _ _ _ _ _ _

def State.hostPec_cells : List Nat :=
  [0x2, 0x3, 0x6, 0xa, 0x100, 0x101, 0x114, 0x200, 0x300, 0x301, 0x305, 0x30a, 0x318, 0x31a, 0x31f, 0x400, 0x401,
   0x405, 0x40b, 0x40e, 0x40f, 0x500, 0x501, 0x504, 0x623, 0x640, 0x641, 0x642, 0x643, 0x644, 0x645, 0x646, 0x647,
   0x648, 0x649, 0x64a, 0x64b, 0x64c, 0x64d, 0x64e, 0x64f, 0x650, 0x651, 0x652, 0x653, 0x654, 0x655, 0x656, 0x657,
   0x658, 0x659, 0x65a, 0x65b, 0x65c, 0x65d, 0x65e, 0x65f, 0x700, 0x701, 0x70c, 0x70d, 0x70e, 0x70f, 0x801, 0x804,
   0x806, 0x807, 0x811, 0x900, 0x901, 0x90b, 0x910, 0x911, 0xa00, 0xa01, 0xa05, 0xa16, 0xa17, 0xa28, 0xa29, 0xa2a,
   0xa2b, 0xa31, 0xa32, 0xa33, 0xa34, 0xb00, 0xb01, 0xb02, 0xb12, 0xb18, 0xc00, 0xc06, 0xc20, 0xc21, 0xc25, 0xc30,
   0xc34, 0xd01, 0xd11, 0xd12, 0xd18, 0xe00, 0xe01, 0xe14, 0x1000, 0x1001, 0x100c, 0x100d, 0x100e, 0x100f, 0x1010,
   0x1400, 0x1402, 0x1403, 0x1404, 0x1405, 0x1406, 0x1407, 0x1408, 0x1409, 0x140a, 0x140b, 0x140c, 0x140d, 0x140f,
   0x1410, 0x1411, 0x1412, 0x1413, 0x1414, 0x1415, 0x1416, 0x1417, 0x1418, 0x1430]

theorem State.hostPec_touch {W0 : List Nat} {s0 s : State} (h0 : Touch W0 s0 s) (hW : Sub State.hostPec_cells W0) (addr : Nat) (compact : Bool) (ptr : Nat) (bytes : List Byte) :
    Touch W0 s0 (State.hostPec s addr compact ptr bytes) := by
  have c_State_hostEnd : Sub State.hostEnd_cells W0 := Sub.trans (Sub.of rfl) hW
  have c_State_hostBurst : Sub State.hostBurst_cells W0 := Sub.trans (Sub.of rfl) hW
  have c_State_writeEnd : Sub State.writeEnd_cells W0 := Sub.trans (Sub.of rfl) hW
  have wd01 : Writes W0 R.TWB_EVENT := Or.inl (hW.mem rfl)
  have wd11 : Writes W0 R.TWB_PECCNT := Or.inl (hW.mem rfl)
  unfold State.hostPec
  repeat' first
    | with_reducible assumption
    | (extract_lets +onlyGivenNames xx; guard_hyp xx : (State × Nat × Bool) := _; revert xx; intro _)
    | (extract_lets +onlyGivenNames xx; (try clear_value xx); revert xx; intro _)
    | with_reducible refine State.hostEnd_touch ?_ c_State_hostEnd _ _ _ _ _
    | with_reducible refine State.hostBurst_touch ?_ c_State_hostBurst _ _ _ _
    | with_reducible refine State.writeEnd_touch ?_ c_State_writeEnd _ _ _ _ _ _ _
    | with_reducible refine State.bump_touch ?_ _ _ ?_
    | with_reducible refine State.event_touch ?_ _ ?_
    | with_reducible refine Touch.ite ?_ ?_
    | split

def State.hostWrite_cells : List Nat :=
  [0x2, 0x3, 0x6, 0xa, 0x100, 0x101, 0x114, 0x200, 0x300, 0x301, 0x305, 0x30a, 0x318, 0x31a, 0x31f, 0x400, 0x401,
   0x405, 0x40b, 0x40e, 0x40f, 0x500, 0x501, 0x504, 0x623, 0x640, 0x641, 0x642, 0x643, 0x644, 0x645, 0x646, 0x647,
   0x648, 0x649, 0x64a, 0x64b, 0x64c, 0x64d, 0x64e, 0x64f, 0x650, 0x651, 0x652, 0x653, 0x654, 0x655, 0x656, 0x657,
   0x658, 0x659, 0x65a, 0x65b, 0x65c, 0x65d, 0x65e, 0x65f, 0x700, 0x701, 0x70c, 0x70d, 0x70e, 0x70f, 0x801, 0x804,
   0x806, 0x807, 0x811, 0x900, 0x901, 0x90b, 0x910, 0x911, 0xa00, 0xa01, 0xa05, 0xa16, 0xa17, 0xa28, 0xa29, 0xa2a,
   0xa2b, 0xa31, 0xa32, 0xa33, 0xa34, 0xb00, 0xb01, 0xb02, 0xb12, 0xb18, 0xc00, 0xc06, 0xc20, 0xc21, 0xc25, 0xc30,
   0xc34, 0xd00, 0xd01, 0xd11, 0xd12, 0xd18, 0xe00, 0xe01, 0xe14, 0x1000, 0x1001, 0x100c, 0x100d, 0x100e, 0x100f,
   0x1010, 0x1400, 0x1402, 0x1403, 0x1404, 0x1405, 0x1406, 0x1407, 0x1408, 0x1409, 0x140a, 0x140b, 0x140c, 0x140d,
   0x140f, 0x1410, 0x1411, 0x1412, 0x1413, 0x1414, 0x1415, 0x1416, 0x1417, 0x1418, 0x1430]

theorem State.hostWrite_touch {W0 : List Nat} {s0 s : State} (h0 : Touch W0 s0 s) (hW : Sub State.hostWrite_cells W0) (addr : Nat) (ptr : Nat) (bytes : List Byte) :
    Touch W0 s0 (State.hostWrite s addr ptr bytes) := by
  have c_State_busStart : Sub State.busStart_cells W0 := Sub.trans (Sub.of rfl) hW
  have c_State_keyPassed : Sub State.keyPassed_cells W0 := Sub.trans (Sub.of rfl) hW
  have c_State_hostPec : Sub State.hostPec_cells W0 := Sub.trans (Sub.of rfl) hW
  have c_State_hostPlain : Sub State.hostPlain_cells W0 := Sub.trans (Sub.of rfl) hW
  unfold State.hostWrite
  repeat' first
    | with_reducible assumption
    | (extract_lets +onlyGivenNames xx; guard_hyp xx : State := _; refine Touch.cut (x := xx) ?_ ?_; (on_goal 2 => (intro hh; (try clear_value xx); revert xx; intro _ _)); any_goals (revert xx; intro _))
    | (extract_lets +onlyGivenNames xx; (try clear_value xx); revert xx; intro _)
    | with_reducible refine State.keyPassed_touch ?_ c_State_keyPassed _ _
    | with_reducible refine State.hostPec_touch ?_ c_State_hostPec _ _ _ _
    | with_reducible refine State.hostPlain_touch ?_ c_State_hostPlain _ _ _
    | with_reducible refine Touch.ite ?_ ?_
    | split
    | refine State.busStart_touch_eq ?_ c_State_busStart _ (by assumption)

def State.readBurst_cells : List Nat :=
  [0x901, 0xc20, 0x1010, 0x1403, 0x140c, 0x140f, 0x1411, 0x1415, 0x1430]

theorem State.readBurst_touch {W0 : List Nat} {s0 s : State} (h0 : Touch W0 s0 s) (hW : Sub State.readBurst_cells W0)
    (compact : Bool) (late : Word) (n ptr : Nat) : Touch W0 s0 (State.readBurst compact late n s ptr).2.1 := by
  induction n generalizing s ptr with
  | zero => exact h0
  | succ n ih => exact ih (State.readWord_touch h0 (Sub.trans (Sub.of rfl) hW) _ _ _ _ _) _

theorem State.readBurst_touch_eq {W0 : List Nat} {s0 s t : State} {a : List Word} {c : Nat} (h0 : Touch W0 s0 s)
    (hW : Sub State.readBurst_cells W0) (compact : Bool) (late : Word) (n ptr : Nat)
    (e : State.readBurst compact late n s ptr = (a, t, c)) : Touch W0 s0 t := by
  have := State.readBurst_touch h0 hW compact late n ptr
  rwa [e] at this

def State.hostRead_cells : List Nat :=
  [0x6, 0xa, 0x901, 0xc20, 0xd00, 0xd01, 0xd12, 0x1010, 0x1403, 0x140c, 0x140f, 0x1411, 0x1415, 0x1416, 0x1430]

theorem State.hostRead_touch {W0 : List Nat} {s0 s : State} (h0 : Touch W0 s0 s) (hW : Sub State.hostRead_cells W0) (addr : Nat) (ptr : Option Nat) (n : Nat) (late : Word) :
    Touch W0 s0 (State.hostRead s addr ptr n late) := by
  have c_State_busStart : Sub State.busStart_cells W0 := Sub.trans (Sub.of rfl) hW
  have c_State_keyPassed : Sub State.keyPassed_cells W0 := Sub.trans (Sub.of rfl) hW
  have c_State_busRefuse : Sub State.busRefuse_cells W0 := Sub.trans (Sub.of rfl) hW
  have c_State_hostEnd : Sub State.hostEnd_cells W0 := Sub.trans (Sub.of rfl) hW
  have c_State_readBurst : Sub State.readBurst_cells W0 := Sub.trans (Sub.of rfl) hW
  have wd01 : Writes W0 R.TWB_EVENT := Or.inl (hW.mem rfl)
  unfold State.hostRead
  repeat' first
    | with_reducible assumption
    | (extract_lets +onlyGivenNames xx; guard_hyp xx : State := _; refine Touch.cut (x := xx) ?_ ?_; (on_goal 2 => (intro hh; (try clear_value xx); revert xx; intro _ _)); any_goals (revert xx; intro _))
    | (extract_lets +onlyGivenNames xx; guard_hyp xx : (List Word × State × Nat) := _; revert xx; intro _)
    | (extract_lets +onlyGivenNames xx; (try clear_value xx); revert xx; intro _)
    | with_reducible refine State.keyPassed_touch ?_ c_State_keyPassed _ _
    | with_reducible refine State.busRefuse_touch ?_ c_State_busRefuse _ ?_
    | with_reducible refine State.hostEnd_touch ?_ c_State_hostEnd _ _ _ _ _
    | with_reducible refine State.readBurst_touch ?_ c_State_readBurst _ _ _ _
    | with_reducible refine Touch.ite ?_ ?_
    | split
    | refine State.busStart_touch_eq ?_ c_State_busStart _ (by assumption)

def State.firmwareWrite_cells : List Nat :=
  [0x2, 0x3, 0x6, 0xa, 0x100, 0x101, 0x114, 0x200, 0x300, 0x301, 0x305, 0x30a, 0x318, 0x31a, 0x31f, 0x400, 0x401,
   0x405, 0x40b, 0x40e, 0x40f, 0x500, 0x501, 0x504, 0x623, 0x640, 0x641, 0x642, 0x643, 0x644, 0x645, 0x646, 0x647,
   0x648, 0x649, 0x64a, 0x64b, 0x64c, 0x64d, 0x64e, 0x64f, 0x650, 0x651, 0x652, 0x653, 0x654, 0x655, 0x656, 0x657,
   0x658, 0x659, 0x65a, 0x65b, 0x65c, 0x65d, 0x65e, 0x65f, 0x700, 0x701, 0x70c, 0x70d, 0x70e, 0x70f, 0x801, 0x806,
   0x807, 0x811, 0x900, 0x901, 0x90b, 0xa00, 0xa01, 0xa16, 0xa17, 0xa28, 0xa29, 0xa2a, 0xa2b, 0xa31, 0xa32, 0xb00,
   0xb01, 0xb02, 0xb12, 0xb18, 0xc00, 0xc06, 0xc20, 0xc21, 0xc25, 0xc30, 0xc34, 0xd18, 0xe00, 0xe01, 0xe14, 0x1000,
   0x1001, 0x100c, 0x100d, 0x100e, 0x100f, 0x1010, 0x1400, 0x1402, 0x1403, 0x1404, 0x1405, 0x1406, 0x1407, 0x1408,
   0x1409, 0x140a, 0x140b, 0x140c, 0x140d, 0x140f, 0x1410, 0x1411, 0x1412, 0x1413, 0x1414, 0x1415, 0x1416, 0x1417,
   0x1418, 0x1430]

theorem State.firmwareWrite_touch {W0 : List Nat} {s0 s : State} (h0 : Touch W0 s0 s) (hW : Sub State.firmwareWrite_cells W0) (form : Nat) (a : Nat) (v : Word) :
    Touch W0 s0 (State.firmwareWrite s form a v) := by
  have c_State_keyPassed : Sub State.keyPassed_cells W0 := Sub.trans (Sub.of rfl) hW
  have c_State_keyHalf : Sub State.keyHalf_cells W0 := Sub.trans (Sub.of rfl) hW
  have c_State_shipRequest : Sub State.shipRequest_cells W0 := Sub.trans (Sub.of rfl) hW
  have c_State_imageBegin : Sub State.imageBegin_cells W0 := Sub.trans (Sub.of rfl) hW
  have c_State_imageRefused : Sub State.imageRefused_cells W0 := Sub.trans (Sub.of rfl) hW
  have c_State_keyedAct : Sub State.keyedAct_cells W0 := Sub.trans (Sub.of rfl) hW
  have c_State_regWrite : Sub State.regWrite_cells W0 := Sub.trans (Sub.of rfl) hW
  have c_State_sumFall : Sub State.sumFall_cells W0 := Sub.trans (Sub.of rfl) hW
  unfold State.firmwareWrite
  repeat' first
    | with_reducible assumption
    | (extract_lets +onlyGivenNames xx; guard_hyp xx : State := _; refine Touch.cut (x := xx) ?_ ?_; (on_goal 2 => (intro hh; (try clear_value xx); revert xx; intro _ _)); any_goals (revert xx; intro _))
    | (extract_lets +onlyGivenNames xx; guard_hyp xx : (State × Option (Nat × Word) × Bool) := _; revert xx; intro _)
    | with_reducible refine State.keyPassed_touch ?_ c_State_keyPassed _ _
    | with_reducible refine State.keyHalf_touch ?_ c_State_keyHalf _ _ _ _
    | with_reducible refine State.shipRequest_touch ?_ c_State_shipRequest _
    | with_reducible refine State.imageBegin_touch ?_ c_State_imageBegin _ _
    | with_reducible refine State.imageRefused_touch ?_ c_State_imageRefused _ _
    | with_reducible refine State.keyedAct_touch ?_ c_State_keyedAct _ _
    | with_reducible refine State.regWrite_touch ?_ c_State_regWrite _ _ _ _ _
    | with_reducible refine State.sumFall_touch ?_ c_State_sumFall
    | with_reducible refine Touch.ite ?_ ?_
    | split

def State.oneWrite_cells : List Nat :=
  [0x2, 0x3, 0x6, 0xa, 0x100, 0x101, 0x114, 0x200, 0x300, 0x301, 0x305, 0x30a, 0x318, 0x31a, 0x31f, 0x400, 0x401,
   0x405, 0x40b, 0x40e, 0x40f, 0x500, 0x501, 0x504, 0x623, 0x640, 0x641, 0x642, 0x643, 0x644, 0x645, 0x646, 0x647,
   0x648, 0x649, 0x64a, 0x64b, 0x64c, 0x64d, 0x64e, 0x64f, 0x650, 0x651, 0x652, 0x653, 0x654, 0x655, 0x656, 0x657,
   0x658, 0x659, 0x65a, 0x65b, 0x65c, 0x65d, 0x65e, 0x65f, 0x700, 0x701, 0x70c, 0x70d, 0x70e, 0x70f, 0x801, 0x804,
   0x806, 0x807, 0x811, 0x900, 0x901, 0x90b, 0x910, 0x911, 0xa00, 0xa01, 0xa05, 0xa16, 0xa17, 0xa28, 0xa29, 0xa2a,
   0xa2b, 0xa31, 0xa32, 0xa33, 0xa34, 0xb00, 0xb01, 0xb02, 0xb12, 0xb18, 0xc00, 0xc06, 0xc20, 0xc21, 0xc25, 0xc30,
   0xc34, 0xd00, 0xd01, 0xd11, 0xd12, 0xd18, 0xe00, 0xe01, 0xe14, 0x1000, 0x1001, 0x100c, 0x100d, 0x100e, 0x100f,
   0x1010, 0x1400, 0x1402, 0x1403, 0x1404, 0x1405, 0x1406, 0x1407, 0x1408, 0x1409, 0x140a, 0x140b, 0x140c, 0x140d,
   0x140f, 0x1410, 0x1411, 0x1412, 0x1413, 0x1414, 0x1415, 0x1416, 0x1417, 0x1418, 0x1430]

theorem State.oneWrite_touch {W0 : List Nat} {s0 s : State} (h0 : Touch W0 s0 s) (hW : Sub State.oneWrite_cells W0) (via : Via) (form : Nat) (a : Nat) (v : Word) :
    Touch W0 s0 (State.oneWrite s via form a v) := by
  have c_State_firmwareWrite : Sub State.firmwareWrite_cells W0 := Sub.trans (Sub.of rfl) hW
  have c_State_hostWrite : Sub State.hostWrite_cells W0 := Sub.trans (Sub.of rfl) hW
  unfold State.oneWrite
  repeat' first
    | with_reducible assumption
    | with_reducible refine State.firmwareWrite_touch ?_ c_State_firmwareWrite _ _ _
    | with_reducible refine State.hostWrite_touch ?_ c_State_hostWrite _ _ _
    | split

def State.oneRead_cells : List Nat :=
  [0x6, 0xa, 0x901, 0xc20, 0xd00, 0xd01, 0xd12, 0x1010, 0x1403, 0x140c, 0x140f, 0x1411, 0x1415, 0x1416, 0x1430]

theorem State.oneRead_touch {W0 : List Nat} {s0 s : State} (h0 : Touch W0 s0 s) (hW : Sub State.oneRead_cells W0) (via : Via) (form : Nat) (a : Nat) (n : Nat) (late : Word) :
    Touch W0 s0 (State.oneRead s via form a n late) := by
  have c_State_keyPassed : Sub State.keyPassed_cells W0 := Sub.trans (Sub.of rfl) hW
  have c_State_readWord : Sub State.readWord_cells W0 := Sub.trans (Sub.of rfl) hW
  have c_State_sumFall : Sub State.sumFall_cells W0 := Sub.trans (Sub.of rfl) hW
  have c_State_hostRead : Sub State.hostRead_cells W0 := Sub.trans (Sub.of rfl) hW
  have w1403 : 0x1403 ∈ W0 := hW.mem rfl
  unfold State.oneRead
  repeat' first
    | with_reducible assumption
    | (extract_lets +onlyGivenNames xx; guard_hyp xx : State := _; refine Touch.cut (x := xx) ?_ ?_; (on_goal 2 => (intro hh; (try clear_value xx); revert xx; intro _ _)); any_goals (revert xx; intro _))
    | (extract_lets +onlyGivenNames xx; guard_hyp xx : (Word × State) := _; revert xx; intro _)
    | (extract_lets +onlyGivenNames xx; (try clear_value xx); revert xx; intro _)
    | with_reducible refine State.keyPassed_touch ?_ c_State_keyPassed _ _
    | with_reducible refine State.readWord_touch ?_ c_State_readWord _ _ _ _ _
    | with_reducible refine State.sumFall_touch ?_ c_State_sumFall
    | with_reducible refine State.hostRead_touch ?_ c_State_hostRead _ _ _ _
    | with_reducible refine Touch.ite ?_ ?_
    | split
    | with_reducible refine Touch.update ?_

end Sys2Proof.Machine
end

