-- ==== Sys2Proof/Laws/TouchSvcOps.lean ====
section
/-!
SUPPORT. What each operation of Machine/SvcOps.lean can do: the registers and parts of the state it may write, and nothing
else; the unit, its queue and the form of its stores are kept.
-/

-- proofs are elaborated one after another: many at once ask for more threads than a memory limit allows
set_option Elab.async false

set_option linter.unusedTactic false
set_option linter.unusedVariables false
set_option linter.unusedSimpArgs false
set_option linter.unreachableTactic false
set_option linter.tactic.unusedName false

namespace Sys2Proof.Machine

def State.frameTaken_cells : List Nat :=
  [0xb00, 0xb18, 0xc00, 0xc01, 0x1414, 0x1415]

theorem State.frameTaken_touch {W0 : List Nat} {s0 s : State} (h0 : Touch W0 s0 s) (hW : Sub State.frameTaken_cells W0) (t : Transport) :
    Touch W0 s0 (State.frameTaken s t) := by
  have c_State_usbActive : Sub State.usbActive_cells W0 := Sub.trans (Sub.of rfl) hW
  have w1415 : 0x1415 ∈ W0 := hW.mem rfl
  unfold State.frameTaken
  repeat' first
    | with_reducible assumption
    | (extract_lets +onlyGivenNames xx; (try clear_value xx); revert xx; intro _)
    | with_reducible refine State.usbActive_touch ?_ c_State_usbActive
    | split
    | with_reducible refine Touch.update ?_

def State.bunAnswer_cells : List Nat :=
  [0xc20, 0xc21, 0xc25, 0x1413, 0x1415]

theorem State.bunAnswer_touch {W0 : List Nat} {s0 s : State} (h0 : Touch W0 s0 s) (hW : Sub State.bunAnswer_cells W0) (c : QueuedCmd) (status : Nat) (body : List Byte) :
    Touch W0 s0 (State.bunAnswer s c status body) := by
  have c_State_answer : Sub State.answer_cells W0 := Sub.trans (Sub.of rfl) hW
  unfold State.bunAnswer
  repeat' first
    | with_reducible assumption
    | with_reducible refine State.answer_touch ?_ c_State_answer _ _

def State.sessionSeen_cells : List Nat :=
  [0x1413]

theorem State.sessionSeen_touch {W0 : List Nat} {s0 s : State} (h0 : Touch W0 s0 s) (hW : Sub State.sessionSeen_cells W0) (t : Transport) :
    Touch W0 s0 (State.sessionSeen s t) := by
  have w1413 : 0x1413 ∈ W0 := hW.mem rfl
  unfold State.sessionSeen
  repeat' first
    | with_reducible assumption
    | (extract_lets +onlyGivenNames xx; (try clear_value xx); revert xx; intro _)
    | with_reducible refine Touch.ite ?_ ?_
    | split
    | with_reducible refine Touch.update ?_

def State.sessionOpen_cells : List Nat :=
  [0x2, 0x6, 0xa01, 0xa32, 0xc30, 0x140c, 0x140f, 0x1413]

theorem State.sessionOpen_touch {W0 : List Nat} {s0 s : State} (h0 : Touch W0 s0 s) (hW : Sub State.sessionOpen_cells W0) (t : Transport) (gen2 : Bool) :
    Touch W0 s0 (State.sessionOpen s t gen2) := by
  have c_State_setOverlay : Sub State.setOverlay_cells W0 := Sub.trans (Sub.of rfl) hW
  have c_State_post : Sub State.post_cells W0 := Sub.trans (Sub.of rfl) hW
  have w2 : Writes W0 R.SYS_STATE := Or.inl (hW.mem rfl)
  have wc30 : Writes W0 R.SVC_STATUS := Or.inl (hW.mem rfl)
  have w1413 : 0x1413 ∈ W0 := hW.mem rfl
  unfold State.sessionOpen
  repeat' first
    | with_reducible assumption
    | (extract_lets +onlyGivenNames xx; guard_hyp xx : State := _; refine Touch.cut (x := xx) ?_ ?_; (on_goal 2 => (intro hh; (try clear_value xx); revert xx; intro _ _)); any_goals (revert xx; intro _))
    | (extract_lets +onlyGivenNames xx; (try clear_value xx); revert xx; intro _)
    | with_reducible refine State.setOverlay_touch ?_ c_State_setOverlay _ _ ?_
    | with_reducible refine State.post_touch ?_ c_State_post _ _
    | with_reducible refine State.setField_touch ?_ _ _ ?_
    | with_reducible refine State.setFlag_touch ?_ _ _ ?_
    | with_reducible refine Touch.update ?_

def State.wrongCode_cells : List Nat :=
  [0xa01, 0xa32, 0xc30, 0x140f, 0x1413]

theorem State.wrongCode_touch {W0 : List Nat} {s0 s : State} (h0 : Touch W0 s0 s) (hW : Sub State.wrongCode_cells W0) (t : Transport) :
    Touch W0 s0 (State.wrongCode s t) := by
  have c_State_post : Sub State.post_cells W0 := Sub.trans (Sub.of rfl) hW
  have wc30 : Writes W0 R.SVC_STATUS := Or.inl (hW.mem rfl)
  have w1413 : 0x1413 ∈ W0 := hW.mem rfl
  unfold State.wrongCode
  repeat' first
    | with_reducible assumption
    | (extract_lets +onlyGivenNames xx; guard_hyp xx : State := _; refine Touch.cut (x := xx) ?_ ?_; (on_goal 2 => (intro hh; (try clear_value xx); revert xx; intro _ _)); any_goals (revert xx; intro _))
    | (extract_lets +onlyGivenNames xx; (try clear_value xx); revert xx; intro _)
    | with_reducible refine State.post_touch ?_ c_State_post _ _
    | with_reducible refine State.setFlag_touch ?_ _ _ ?_
    | with_reducible refine Touch.ite ?_ ?_
    | with_reducible refine Touch.update ?_

def State.serveOpen_cells : List Nat :=
  [0x2, 0x6, 0xa01, 0xa32, 0xc20, 0xc21, 0xc25, 0xc30, 0x140c, 0x140f, 0x1413, 0x1415]

theorem State.serveOpen_touch {W0 : List Nat} {s0 s : State} (h0 : Touch W0 s0 s) (hW : Sub State.serveOpen_cells W0) (c : QueuedCmd) :
    Touch W0 s0 (State.serveOpen s c) := by
  have c_State_bunAnswer : Sub State.bunAnswer_cells W0 := Sub.trans (Sub.of rfl) hW
  have c_State_sessionOpen : Sub State.sessionOpen_cells W0 := Sub.trans (Sub.of rfl) hW
  have c_State_wrongCode : Sub State.wrongCode_cells W0 := Sub.trans (Sub.of rfl) hW
  unfold State.serveOpen
  repeat' first
    | with_reducible assumption
    | (extract_lets +onlyGivenNames xx; guard_hyp xx : State := _; refine Touch.cut (x := xx) ?_ ?_; (on_goal 2 => (intro hh; (try clear_value xx); revert xx; intro _ _)); any_goals (revert xx; intro _))
    | with_reducible refine State.bunAnswer_touch ?_ c_State_bunAnswer _ _ _
    | with_reducible refine State.sessionOpen_touch ?_ c_State_sessionOpen _ _
    | with_reducible refine State.wrongCode_touch ?_ c_State_wrongCode _
    | with_reducible refine Touch.ite ?_ ?_

def State.regRead_cells : List Nat :=
  [0x901, 0xc20, 0x1010, 0x1403, 0x140c, 0x140f, 0x1411, 0x1415, 0x1430]

theorem State.regRead_touch {W0 : List Nat} {s0 s : State} (h0 : Touch W0 s0 s) (hW : Sub State.regRead_cells W0)
    (req : Requester) (n ptr : Nat) : Touch W0 s0 (s.regRead req n ptr).2 := by
  induction n generalizing s ptr with
  | zero => exact h0
  | succ n ih => exact ih (State.readWord_touch h0 (Sub.trans (Sub.of rfl) hW) _ _ _ _ _) _

theorem State.regRead_touch_eq {W0 : List Nat} {s0 s t : State} {a : List Word} (h0 : Touch W0 s0 s)
    (hW : Sub State.regRead_cells W0) (req : Requester) (n ptr : Nat)
    (e : s.regRead req n ptr = (a, t)) : Touch W0 s0 t := by
  have := State.regRead_touch h0 hW req n ptr
  rwa [e] at this

def State.serveRegRead_cells : List Nat :=
  [0x901, 0xc20, 0xc21, 0xc25, 0x1010, 0x1403, 0x140c, 0x140f, 0x1411, 0x1413, 0x1415, 0x1430]

theorem State.serveRegRead_touch {W0 : List Nat} {s0 s : State} (h0 : Touch W0 s0 s) (hW : Sub State.serveRegRead_cells W0) (c : QueuedCmd) :
    Touch W0 s0 (State.serveRegRead s c) := by
  have c_State_bunAnswer : Sub State.bunAnswer_cells W0 := Sub.trans (Sub.of rfl) hW
  have c_State_regRead : Sub State.regRead_cells W0 := Sub.trans (Sub.of rfl) hW
  unfold State.serveRegRead
  repeat' first
    | with_reducible assumption
    | (extract_lets +onlyGivenNames xx; guard_hyp xx : (List Word × State) := _; revert xx; intro _)
    | (extract_lets +onlyGivenNames xx; (try clear_value xx); revert xx; intro _)
    | with_reducible refine State.bunAnswer_touch ?_ c_State_bunAnswer _ _ _
    | with_reducible refine State.regRead_touch ?_ c_State_regRead _ _ _
    | with_reducible refine Touch.ite ?_ ?_

def State.serveLgrRead_cells : List Nat :=
  [0xc20, 0xc21, 0xc25, 0x1413, 0x1415]

theorem State.serveLgrRead_touch {W0 : List Nat} {s0 s : State} (h0 : Touch W0 s0 s) (hW : Sub State.serveLgrRead_cells W0) (c : QueuedCmd) :
    Touch W0 s0 (State.serveLgrRead s c) := by
  have c_State_bunAnswer : Sub State.bunAnswer_cells W0 := Sub.trans (Sub.of rfl) hW
  unfold State.serveLgrRead
  repeat' first
    | with_reducible assumption
    | (extract_lets +onlyGivenNames xx; (try clear_value xx); revert xx; intro _)
    | with_reducible refine State.bunAnswer_touch ?_ c_State_bunAnswer _ _ _
    | with_reducible refine Touch.ite ?_ ?_

def State.serveStallRead_cells : List Nat :=
  [0xa01, 0xa32, 0xc20, 0xc21, 0xc25, 0x140b, 0x140f, 0x1413, 0x1415, 0x1417]

theorem State.serveStallRead_touch {W0 : List Nat} {s0 s : State} (h0 : Touch W0 s0 s) (hW : Sub State.serveStallRead_cells W0) (c : QueuedCmd) :
    Touch W0 s0 (State.serveStallRead s c) := by
  have c_State_bunAnswer : Sub State.bunAnswer_cells W0 := Sub.trans (Sub.of rfl) hW
  have c_State_stallLoad : Sub State.stallLoad_cells W0 := Sub.trans (Sub.of rfl) hW
  unfold State.serveStallRead
  repeat' first
    | with_reducible assumption
    | (extract_lets +onlyGivenNames xx; (try clear_value xx); revert xx; intro _)
    | with_reducible refine State.bunAnswer_touch ?_ c_State_bunAnswer _ _ _
    | with_reducible refine State.stallLoad_touch ?_ c_State_stallLoad _
    | with_reducible refine Touch.ite ?_ ?_

def State.serveWbRead_cells : List Nat :=
  [0xc20, 0xc21, 0xc25, 0x1413, 0x1415]

theorem State.serveWbRead_touch {W0 : List Nat} {s0 s : State} (h0 : Touch W0 s0 s) (hW : Sub State.serveWbRead_cells W0) (c : QueuedCmd) :
    Touch W0 s0 (State.serveWbRead s c) := by
  have c_State_bunAnswer : Sub State.bunAnswer_cells W0 := Sub.trans (Sub.of rfl) hW
  unfold State.serveWbRead
  repeat' first
    | with_reducible assumption
    | (extract_lets +onlyGivenNames xx; (try clear_value xx); revert xx; intro _)
    | with_reducible refine State.bunAnswer_touch ?_ c_State_bunAnswer _ _ _

def State.serveWbSnapshot_cells : List Nat :=
  [0x200, 0x300, 0x301, 0x31f, 0x400, 0x401, 0x40f, 0x801, 0x806, 0x807, 0xa01, 0xa32, 0xc20, 0xc21, 0xc25, 0x1402,
   0x1408, 0x1409, 0x140f, 0x1411, 0x1413, 0x1415]

theorem State.serveWbSnapshot_touch {W0 : List Nat} {s0 s : State} (h0 : Touch W0 s0 s) (hW : Sub State.serveWbSnapshot_cells W0) (c : QueuedCmd) :
    Touch W0 s0 (State.serveWbSnapshot s c) := by
  have c_State_mailWrite : Sub State.mailWrite_cells W0 := Sub.trans (Sub.of rfl) hW
  have c_State_mbSnapshot : Sub State.mbSnapshot_cells W0 := Sub.trans (Sub.of rfl) hW
  have c_State_bunAnswer : Sub State.bunAnswer_cells W0 := Sub.trans (Sub.of rfl) hW
  unfold State.serveWbSnapshot
  repeat' first
    | with_reducible assumption
    | (extract_lets +onlyGivenNames xx; guard_hyp xx : State := _; refine Touch.cut (x := xx) ?_ ?_; (on_goal 2 => (intro hh; (try clear_value xx); revert xx; intro _ _)); any_goals (revert xx; intro _))
    | with_reducible refine State.mailWrite_touch ?_ c_State_mailWrite _ ?_
    | with_reducible refine State.mbSnapshot_touch ?_ c_State_mbSnapshot _
    | with_reducible refine State.bunAnswer_touch ?_ c_State_bunAnswer _ _ _
    | with_reducible intro _ _

def State.serveImgStage_cells : List Nat :=
  [0xc20, 0xc21, 0xc25, 0xc30, 0x1405, 0x1413, 0x1415, 0x1418]

theorem State.serveImgStage_touch {W0 : List Nat} {s0 s : State} (h0 : Touch W0 s0 s) (hW : Sub State.serveImgStage_cells W0) (c : QueuedCmd) :
    Touch W0 s0 (State.serveImgStage s c) := by
  have c_State_bunAnswer : Sub State.bunAnswer_cells W0 := Sub.trans (Sub.of rfl) hW
  have c_State_stageBytes : Sub State.stageBytes_cells W0 := Sub.trans (Sub.of rfl) hW
  unfold State.serveImgStage
  repeat' first
    | with_reducible assumption
    | (extract_lets +onlyGivenNames xx; (try clear_value xx); revert xx; intro _)
    | with_reducible refine State.bunAnswer_touch ?_ c_State_bunAnswer _ _ _
    | with_reducible refine State.stageBytes_touch ?_ c_State_stageBytes _ _
    | with_reducible refine Touch.ite ?_ ?_

def State.serveFwBegin_cells : List Nat :=
  [0xc20, 0xc21, 0xc25, 0x1413, 0x1415]

theorem State.serveFwBegin_touch {W0 : List Nat} {s0 s : State} (h0 : Touch W0 s0 s) (hW : Sub State.serveFwBegin_cells W0) (c : QueuedCmd) :
    Touch W0 s0 (State.serveFwBegin s c) := by
  have c_State_bunAnswer : Sub State.bunAnswer_cells W0 := Sub.trans (Sub.of rfl) hW
  have w1413 : 0x1413 ∈ W0 := hW.mem rfl
  unfold State.serveFwBegin
  repeat' first
    | with_reducible assumption
    | (extract_lets +onlyGivenNames xx; (try clear_value xx); revert xx; intro _)
    | with_reducible refine State.bunAnswer_touch ?_ c_State_bunAnswer _ _ _
    | with_reducible refine Touch.ite ?_ ?_
    | with_reducible refine Touch.update ?_

def State.serveFwChunk_cells : List Nat :=
  [0xc20, 0xc21, 0xc25, 0x1402, 0x1413, 0x1415]

theorem State.serveFwChunk_touch {W0 : List Nat} {s0 s : State} (h0 : Touch W0 s0 s) (hW : Sub State.serveFwChunk_cells W0) (c : QueuedCmd) :
    Touch W0 s0 (State.serveFwChunk s c) := by
  have c_State_fresh : Sub State.fresh_cells W0 := Sub.trans (Sub.of rfl) hW
  have c_State_bunAnswer : Sub State.bunAnswer_cells W0 := Sub.trans (Sub.of rfl) hW
  have w1413 : 0x1413 ∈ W0 := hW.mem rfl
  unfold State.serveFwChunk
  repeat' first
    | with_reducible assumption
    | (extract_lets +onlyGivenNames xx; guard_hyp xx : (BitVec 64 × State) := _; revert xx; intro _)
    | (extract_lets +onlyGivenNames xx; (try clear_value xx); revert xx; intro _)
    | with_reducible refine State.fresh_touch ?_ c_State_fresh
    | with_reducible refine State.bunAnswer_touch ?_ c_State_bunAnswer _ _ _
    | with_reducible refine Touch.ite ?_ ?_
    | split
    | with_reducible refine Touch.update ?_

def State.serveVolatile_cells : List Nat :=
  [0x2, 0x6, 0x200, 0x300, 0x301, 0x31f, 0x400, 0x401, 0x40f, 0x801, 0x806, 0x807, 0x901, 0xa01, 0xa32, 0xc20, 0xc21,
   0xc25, 0xc30, 0xc34, 0x1010, 0x1402, 0x1403, 0x1405, 0x1408, 0x1409, 0x140b, 0x140c, 0x140f, 0x1411, 0x1413,
   0x1415, 0x1417, 0x1418, 0x1430]

theorem State.serveVolatile_touch {W0 : List Nat} {s0 s : State} (h0 : Touch W0 s0 s) (hW : Sub State.serveVolatile_cells W0) (c : QueuedCmd) :
    Touch W0 s0 (State.serveVolatile s c) := by
  have c_State_serveOpen : Sub State.serveOpen_cells W0 := Sub.trans (Sub.of rfl) hW
  have c_State_svcClose : Sub State.svcClose_cells W0 := Sub.trans (Sub.of rfl) hW
  have c_State_bunAnswer : Sub State.bunAnswer_cells W0 := Sub.trans (Sub.of rfl) hW
  have c_State_serveRegRead : Sub State.serveRegRead_cells W0 := Sub.trans (Sub.of rfl) hW
  have c_State_serveLgrRead : Sub State.serveLgrRead_cells W0 := Sub.trans (Sub.of rfl) hW
  have c_State_serveStallRead : Sub State.serveStallRead_cells W0 := Sub.trans (Sub.of rfl) hW
  have c_State_serveWbRead : Sub State.serveWbRead_cells W0 := Sub.trans (Sub.of rfl) hW
  have c_State_serveWbSnapshot : Sub State.serveWbSnapshot_cells W0 := Sub.trans (Sub.of rfl) hW
  have c_State_serveImgStage : Sub State.serveImgStage_cells W0 := Sub.trans (Sub.of rfl) hW
  have c_State_serveFwBegin : Sub State.serveFwBegin_cells W0 := Sub.trans (Sub.of rfl) hW
  have c_State_serveFwChunk : Sub State.serveFwChunk_cells W0 := Sub.trans (Sub.of rfl) hW
  unfold State.serveVolatile
  repeat' first
    | with_reducible assumption
    | with_reducible refine State.serveOpen_touch ?_ c_State_serveOpen _
    | with_reducible refine State.svcClose_touch ?_ c_State_svcClose _
    | with_reducible refine State.bunAnswer_touch ?_ c_State_bunAnswer _ _ _
    | with_reducible refine State.serveRegRead_touch ?_ c_State_serveRegRead _
    | with_reducible refine State.serveLgrRead_touch ?_ c_State_serveLgrRead _
    | with_reducible refine State.serveStallRead_touch ?_ c_State_serveStallRead _
    | with_reducible refine State.serveWbRead_touch ?_ c_State_serveWbRead _
    | with_reducible refine State.serveWbSnapshot_touch ?_ c_State_serveWbSnapshot _
    | with_reducible refine State.serveImgStage_touch ?_ c_State_serveImgStage _
    | with_reducible refine State.serveFwBegin_touch ?_ c_State_serveFwBegin _
    | with_reducible refine State.serveFwChunk_touch ?_ c_State_serveFwChunk _
    | split

def State.bunKey_cells : List Nat :=
  [0x6, 0xa, 0x1403]

theorem State.bunKey_touch {W0 : List Nat} {s0 s : State} (h0 : Touch W0 s0 s) (hW : Sub State.bunKey_cells W0) (c : QueuedCmd) :
    Touch W0 s0 (State.bunKey s c) := by
  have c_State_keyPassed : Sub State.keyPassed_cells W0 := Sub.trans (Sub.of rfl) hW
  unfold State.bunKey
  repeat' first
    | with_reducible assumption
    | with_reducible refine State.keyPassed_touch ?_ c_State_keyPassed _ _

def State.serve_cells : List Nat :=
  [0x2, 0x3, 0x6, 0xa, 0x100, 0x101, 0x114, 0x200, 0x300, 0x301, 0x305, 0x30a, 0x318, 0x31a, 0x31f, 0x400, 0x401,
   0x405, 0x40b, 0x40e, 0x40f, 0x500, 0x501, 0x504, 0x623, 0x640, 0x641, 0x642, 0x643, 0x644, 0x645, 0x646, 0x647,
   0x648, 0x649, 0x64a, 0x64b, 0x64c, 0x64d, 0x64e, 0x64f, 0x650, 0x651, 0x652, 0x653, 0x654, 0x655, 0x656, 0x657,
   0x658, 0x659, 0x65a, 0x65b, 0x65c, 0x65d, 0x65e, 0x65f, 0x700, 0x701, 0x70c, 0x70d, 0x70e, 0x70f, 0x801, 0x804,
   0x806, 0x807, 0x811, 0x900, 0x901, 0x90b, 0x910, 0x911, 0xa00, 0xa01, 0xa05, 0xa16, 0xa17, 0xa28, 0xa29, 0xa2a,
   0xa2b, 0xa31, 0xa32, 0xa33, 0xa34, 0xb00, 0xb01, 0xb02, 0xb12, 0xb18, 0xc00, 0xc06, 0xc20, 0xc21, 0xc25, 0xc30,
   0xc34, 0xd18, 0xe00, 0xe01, 0xe14, 0x1000, 0x1001, 0x100c, 0x100d, 0x100e, 0x100f, 0x1010, 0x1400, 0x1402, 0x1403,
   0x1404, 0x1405, 0x1406, 0x1407, 0x1408, 0x1409, 0x140a, 0x140b, 0x140c, 0x140d, 0x140f, 0x1410, 0x1411, 0x1412,
   0x1413, 0x1414, 0x1415, 0x1416, 0x1417, 0x1418, 0x1430]

theorem State.serve_touch {W0 : List Nat} {s0 s : State} (h0 : Touch W0 s0 s) (hW : Sub State.serve_cells W0) (c : QueuedCmd) :
    Touch W0 s0 (State.serve s c) := by
  have c_State_bunAnswer : Sub State.bunAnswer_cells W0 := Sub.trans (Sub.of rfl) hW
  have c_State_bunKey : Sub State.bunKey_cells W0 := Sub.trans (Sub.of rfl) hW
  have c_State_command : Sub State.command_cells W0 := Sub.trans (Sub.of rfl) hW
  have c_State_serveVolatile : Sub State.serveVolatile_cells W0 := Sub.trans (Sub.of rfl) hW
  unfold State.serve
  repeat' first
    | with_reducible assumption
    | (extract_lets +onlyGivenNames xx; guard_hyp xx : State := _; refine Touch.cut (x := xx) ?_ ?_; (on_goal 2 => (intro hh; (try clear_value xx); revert xx; intro _ _)); any_goals (revert xx; intro _))
    | (extract_lets +onlyGivenNames xx; guard_hyp xx : (State × Bool) := _; revert xx; intro _)
    | with_reducible refine State.bunAnswer_touch ?_ c_State_bunAnswer _ _ _
    | with_reducible refine State.bunKey_touch ?_ c_State_bunKey _
    | with_reducible refine State.command_touch ?_ c_State_command _
    | with_reducible refine State.serveVolatile_touch ?_ c_State_serveVolatile _
    | with_reducible refine Touch.ite ?_ ?_

def State.bunWait_cells : List Nat :=
  [0xa01, 0xa32, 0xc20, 0xc21, 0xc25, 0x140d, 0x140f, 0x1413, 0x1415]

theorem State.bunWait_touch {W0 : List Nat} {s0 s : State} (h0 : Touch W0 s0 s) (hW : Sub State.bunWait_cells W0) (c : QueuedCmd) :
    Touch W0 s0 (State.bunWait s c) := by
  have c_State_cmdBusy : Sub State.cmdBusy_cells W0 := Sub.trans (Sub.of rfl) hW
  have c_State_bunAnswer : Sub State.bunAnswer_cells W0 := Sub.trans (Sub.of rfl) hW
  have w140d : 0x140d ∈ W0 := hW.mem rfl
  unfold State.bunWait
  repeat' first
    | with_reducible assumption
    | (extract_lets +onlyGivenNames xx; (try clear_value xx); revert xx; intro _)
    | with_reducible refine State.cmdBusy_touch ?_ c_State_cmdBusy
    | with_reducible refine State.bunAnswer_touch ?_ c_State_bunAnswer _ _ _
    | with_reducible refine Touch.ite ?_ ?_
    | with_reducible refine Touch.update ?_

def State.bunilia_cells : List Nat :=
  [0x2, 0x3, 0x6, 0xa, 0x100, 0x101, 0x114, 0x200, 0x300, 0x301, 0x305, 0x30a, 0x318, 0x31a, 0x31f, 0x400, 0x401,
   0x405, 0x40b, 0x40e, 0x40f, 0x500, 0x501, 0x504, 0x623, 0x640, 0x641, 0x642, 0x643, 0x644, 0x645, 0x646, 0x647,
   0x648, 0x649, 0x64a, 0x64b, 0x64c, 0x64d, 0x64e, 0x64f, 0x650, 0x651, 0x652, 0x653, 0x654, 0x655, 0x656, 0x657,
   0x658, 0x659, 0x65a, 0x65b, 0x65c, 0x65d, 0x65e, 0x65f, 0x700, 0x701, 0x70c, 0x70d, 0x70e, 0x70f, 0x801, 0x804,
   0x806, 0x807, 0x811, 0x900, 0x901, 0x90b, 0x910, 0x911, 0xa00, 0xa01, 0xa05, 0xa16, 0xa17, 0xa28, 0xa29, 0xa2a,
   0xa2b, 0xa31, 0xa32, 0xa33, 0xa34, 0xb00, 0xb01, 0xb02, 0xb12, 0xb18, 0xc00, 0xc01, 0xc06, 0xc20, 0xc21, 0xc25,
   0xc30, 0xc34, 0xd18, 0xe00, 0xe01, 0xe14, 0x1000, 0x1001, 0x100c, 0x100d, 0x100e, 0x100f, 0x1010, 0x1400, 0x1402,
   0x1403, 0x1404, 0x1405, 0x1406, 0x1407, 0x1408, 0x1409, 0x140a, 0x140b, 0x140c, 0x140d, 0x140f, 0x1410, 0x1411,
   0x1412, 0x1413, 0x1414, 0x1415, 0x1416, 0x1417, 0x1418, 0x1430]

theorem State.bunilia_touch {W0 : List Nat} {s0 s : State} (h0 : Touch W0 s0 s) (hW : Sub State.bunilia_cells W0) (b : Bun) (code : Nat) (args : List Byte) :
    Touch W0 s0 (State.bunilia s b code args) := by
  have c_State_frameTaken : Sub State.frameTaken_cells W0 := Sub.trans (Sub.of rfl) hW
  have c_State_sessionSeen : Sub State.sessionSeen_cells W0 := Sub.trans (Sub.of rfl) hW
  have c_State_serve : Sub State.serve_cells W0 := Sub.trans (Sub.of rfl) hW
  have c_State_bunWait : Sub State.bunWait_cells W0 := Sub.trans (Sub.of rfl) hW
  have c_State_sumFall : Sub State.sumFall_cells W0 := Sub.trans (Sub.of rfl) hW
  unfold State.bunilia
  repeat' first
    | with_reducible assumption
    | (extract_lets +onlyGivenNames xx; guard_hyp xx : State := _; refine Touch.cut (x := xx) ?_ ?_; (on_goal 2 => (intro hh; (try clear_value xx); revert xx; intro _ _)); any_goals (revert xx; intro _))
    | (extract_lets +onlyGivenNames xx; (try clear_value xx); revert xx; intro _)
    | with_reducible refine State.frameTaken_touch ?_ c_State_frameTaken _
    | with_reducible refine State.sessionSeen_touch ?_ c_State_sessionSeen _
    | with_reducible refine State.serve_touch ?_ c_State_serve _
    | with_reducible refine State.bunWait_touch ?_ c_State_bunWait _
    | with_reducible refine State.sumFall_touch ?_ c_State_sumFall
    | with_reducible refine Touch.ite ?_ ?_

def State.queueNext_cells : List Nat :=
  [0x2, 0x3, 0x6, 0xa, 0x100, 0x101, 0x114, 0x200, 0x300, 0x301, 0x305, 0x30a, 0x318, 0x31a, 0x31f, 0x400, 0x401,
   0x405, 0x40b, 0x40e, 0x40f, 0x500, 0x501, 0x504, 0x623, 0x640, 0x641, 0x642, 0x643, 0x644, 0x645, 0x646, 0x647,
   0x648, 0x649, 0x64a, 0x64b, 0x64c, 0x64d, 0x64e, 0x64f, 0x650, 0x651, 0x652, 0x653, 0x654, 0x655, 0x656, 0x657,
   0x658, 0x659, 0x65a, 0x65b, 0x65c, 0x65d, 0x65e, 0x65f, 0x700, 0x701, 0x70c, 0x70d, 0x70e, 0x70f, 0x801, 0x804,
   0x806, 0x807, 0x811, 0x900, 0x901, 0x90b, 0x910, 0x911, 0xa00, 0xa01, 0xa05, 0xa16, 0xa17, 0xa28, 0xa29, 0xa2a,
   0xa2b, 0xa31, 0xa32, 0xa33, 0xa34, 0xb00, 0xb01, 0xb02, 0xb12, 0xb18, 0xc00, 0xc06, 0xc20, 0xc21, 0xc25, 0xc30,
   0xc34, 0xd18, 0xe00, 0xe01, 0xe14, 0x1000, 0x1001, 0x100c, 0x100d, 0x100e, 0x100f, 0x1010, 0x1400, 0x1402, 0x1403,
   0x1404, 0x1405, 0x1406, 0x1407, 0x1408, 0x1409, 0x140a, 0x140b, 0x140c, 0x140d, 0x140f, 0x1410, 0x1411, 0x1412,
   0x1413, 0x1414, 0x1415, 0x1416, 0x1417, 0x1418, 0x1430]

theorem State.queueNext_touch {W0 : List Nat} {s0 s : State} (h0 : Touch W0 s0 s) (hW : Sub State.queueNext_cells W0) (v : Verify) :
    Touch W0 s0 (State.queueNext s v) := by
  have c_State_serve : Sub State.serve_cells W0 := Sub.trans (Sub.of rfl) hW
  have c_State_acceptNext : Sub State.acceptNext_cells W0 := Sub.trans (Sub.of rfl) hW
  have w140d : 0x140d ∈ W0 := hW.mem rfl
  unfold State.queueNext
  repeat' first
    | with_reducible assumption
    | (extract_lets +onlyGivenNames xx; (try clear_value xx); revert xx; intro _)
    | with_reducible refine State.serve_touch ?_ c_State_serve _
    | with_reducible refine State.acceptNext_touch ?_ c_State_acceptNext _
    | with_reducible refine Touch.ite ?_ ?_
    | split
    | with_reducible refine Touch.update ?_

end Sys2Proof.Machine
end

