-- ==== Sys2Proof/Laws/TouchCommands.lean ====
section
/-!
SUPPORT. What each operation of Machine/Commands.lean can do: the registers and parts of the state it may write, and nothing
else; the unit, its queue and the form of its stores are kept.
-/

-- proofs are elaborated one after another: many at once ask for more threads than a memory limit allows
set_option Elab.async false

set_option linter.unusedTactic false
set_option linter.unusedVariables false
set_option linter.unusedSimpArgs false
set_option linter.unreachableTactic false
set_option linter.tactic.unusedName false

namespace Sys2Proof.Machine

def execCmdAccept_cells : List Nat :=
  [0x2, 0x3, 0x6, 0xa, 0x100, 0x101, 0x114, 0x200, 0x300, 0x301, 0x305, 0x30a, 0x318, 0x31a, 0x31f, 0x400, 0x401,
   0x405, 0x40b, 0x40e, 0x40f, 0x500, 0x501, 0x504, 0x623, 0x640, 0x641, 0x642, 0x643, 0x644, 0x645, 0x646, 0x647,
   0x648, 0x649, 0x64a, 0x64b, 0x64c, 0x64d, 0x64e, 0x64f, 0x650, 0x651, 0x652, 0x653, 0x654, 0x655, 0x656, 0x657,
   0x658, 0x659, 0x65a, 0x65b, 0x65c, 0x65d, 0x65e, 0x65f, 0x700, 0x701, 0x70c, 0x70d, 0x70e, 0x70f, 0x801, 0x804,
   0x806, 0x807, 0x811, 0x900, 0x901, 0x90b, 0x910, 0x911, 0xa00, 0xa01, 0xa05, 0xa16, 0xa17, 0xa28, 0xa29, 0xa2a,
   0xa2b, 0xa31, 0xa32, 0xa33, 0xa34, 0xb00, 0xb01, 0xb02, 0xb12, 0xb18, 0xc00, 0xc06, 0xc20, 0xc21, 0xc25, 0xc30,
   0xc34, 0xd01, 0xd12, 0xd18, 0xe00, 0xe01, 0xe14, 0x1000, 0x1001, 0x100c, 0x100d, 0x100e, 0x100f, 0x1010, 0x1400,
   0x1402, 0x1403, 0x1404, 0x1405, 0x1406, 0x1407, 0x1408, 0x1409, 0x140a, 0x140b, 0x140c, 0x140d, 0x140f, 0x1410,
   0x1411, 0x1412, 0x1413, 0x1414, 0x1415, 0x1416, 0x1417, 0x1418, 0x1430]

theorem execCmdAccept_touch {W0 : List Nat} {s0 s : State} (h0 : Touch W0 s0 s) (hW : Sub execCmdAccept_cells W0) (v : Verify) :
    TouchOut W0 s0 (execCmdAccept v s) := by
  have c_State_queueNext : Sub State.queueNext_cells W0 := Sub.trans (Sub.of rfl) hW
  have c_State_heldStep : Sub State.heldStep_cells W0 := Sub.trans (Sub.of rfl) hW
  unfold execCmdAccept
  repeat' first
    | with_reducible assumption
    | with_reducible refine TouchOut.next ?_
    | with_reducible refine State.queueNext_touch ?_ c_State_queueNext _
    | with_reducible refine State.heldStep_touch ?_ c_State_heldStep

def execCmdReplay_cells : List Nat :=
  [0x2, 0x3, 0x6, 0xa, 0x100, 0x101, 0x114, 0x200, 0x300, 0x301, 0x305, 0x30a, 0x318, 0x31a, 0x31f, 0x400, 0x401,
   0x405, 0x40b, 0x40e, 0x40f, 0x500, 0x501, 0x504, 0x623, 0x640, 0x641, 0x642, 0x643, 0x644, 0x645, 0x646, 0x647,
   0x648, 0x649, 0x64a, 0x64b, 0x64c, 0x64d, 0x64e, 0x64f, 0x650, 0x651, 0x652, 0x653, 0x654, 0x655, 0x656, 0x657,
   0x658, 0x659, 0x65a, 0x65b, 0x65c, 0x65d, 0x65e, 0x65f, 0x700, 0x701, 0x70c, 0x70d, 0x70e, 0x70f, 0x801, 0x804,
   0x806, 0x807, 0x811, 0x900, 0x901, 0x90b, 0x910, 0x911, 0xa00, 0xa01, 0xa05, 0xa16, 0xa17, 0xa28, 0xa29, 0xa2a,
   0xa2b, 0xa31, 0xa32, 0xa33, 0xa34, 0xb00, 0xb01, 0xb02, 0xb12, 0xb18, 0xc00, 0xc06, 0xc20, 0xc21, 0xc25, 0xc30,
   0xc34, 0xd18, 0xe00, 0xe01, 0xe14, 0x1000, 0x1001, 0x100c, 0x100d, 0x100e, 0x100f, 0x1010, 0x1400, 0x1402, 0x1403,
   0x1404, 0x1405, 0x1406, 0x1407, 0x1408, 0x1409, 0x140a, 0x140b, 0x140c, 0x140d, 0x140f, 0x1410, 0x1411, 0x1412,
   0x1413, 0x1414, 0x1415, 0x1416, 0x1417, 0x1418, 0x1430]

theorem execCmdReplay_touch {W0 : List Nat} {s0 s : State} (h0 : Touch W0 s0 s) (hW : Sub execCmdReplay_cells W0) :
    TouchOut W0 s0 (execCmdReplay s) := by
  have c_State_replayCmds : Sub State.replayCmds_cells W0 := Sub.trans (Sub.of rfl) hW
  unfold execCmdReplay
  repeat' first
    | with_reducible assumption
    | with_reducible refine TouchOut.next ?_
    | with_reducible refine State.replayCmds_touch ?_ c_State_replayCmds
    | with_reducible refine State.when_touch ?_ _ _ ?_
    | with_reducible intro _ _

def execCmdBusy_cells : List Nat :=
  [0x2, 0x3, 0x6, 0xa, 0x100, 0x101, 0x114, 0x200, 0x300, 0x301, 0x305, 0x30a, 0x318, 0x31a, 0x31f, 0x400, 0x401,
   0x405, 0x40b, 0x40e, 0x40f, 0x500, 0x501, 0x504, 0x623, 0x640, 0x641, 0x642, 0x643, 0x644, 0x645, 0x646, 0x647,
   0x648, 0x649, 0x64a, 0x64b, 0x64c, 0x64d, 0x64e, 0x64f, 0x650, 0x651, 0x652, 0x653, 0x654, 0x655, 0x656, 0x657,
   0x658, 0x659, 0x65a, 0x65b, 0x65c, 0x65d, 0x65e, 0x65f, 0x700, 0x701, 0x70c, 0x70d, 0x70e, 0x70f, 0x801, 0x804,
   0x806, 0x807, 0x811, 0x900, 0x901, 0x90b, 0x910, 0x911, 0xa00, 0xa01, 0xa05, 0xa16, 0xa17, 0xa28, 0xa29, 0xa2a,
   0xa2b, 0xa31, 0xa32, 0xa33, 0xa34, 0xb00, 0xb01, 0xb02, 0xb12, 0xb18, 0xc00, 0xc06, 0xc20, 0xc21, 0xc25, 0xc30,
   0xc34, 0xd01, 0xd12, 0xd18, 0xe00, 0xe01, 0xe14, 0x1000, 0x1001, 0x100c, 0x100d, 0x100e, 0x100f, 0x1010, 0x1400,
   0x1402, 0x1403, 0x1404, 0x1405, 0x1406, 0x1407, 0x1408, 0x1409, 0x140a, 0x140b, 0x140c, 0x140d, 0x140f, 0x1410,
   0x1411, 0x1412, 0x1413, 0x1414, 0x1415, 0x1416, 0x1417, 0x1418, 0x1430]

theorem execCmdBusy_touch {W0 : List Nat} {s0 s : State} (h0 : Touch W0 s0 s) (hW : Sub execCmdBusy_cells W0) (b : Option Bun) (code : Nat) :
    TouchOut W0 s0 (execCmdBusy b code s) := by
  have c_State_heldStep : Sub State.heldStep_cells W0 := Sub.trans (Sub.of rfl) hW
  have c_State_cmdBusy : Sub State.cmdBusy_cells W0 := Sub.trans (Sub.of rfl) hW
  have c_State_busRefuse : Sub State.busRefuse_cells W0 := Sub.trans (Sub.of rfl) hW
  have c_State_busAnswer : Sub State.busAnswer_cells W0 := Sub.trans (Sub.of rfl) hW
  have c_State_bunAnswer : Sub State.bunAnswer_cells W0 := Sub.trans (Sub.of rfl) hW
  have wd01 : Writes W0 R.TWB_EVENT := Or.inl (hW.mem rfl)
  unfold execCmdBusy
  repeat' first
    | with_reducible assumption
    | with_reducible refine TouchOut.next ?_
    | with_reducible refine State.heldStep_touch ?_ c_State_heldStep
    | with_reducible refine State.cmdBusy_touch ?_ c_State_cmdBusy
    | with_reducible refine State.busRefuse_touch ?_ c_State_busRefuse _ ?_
    | with_reducible refine State.busAnswer_touch ?_ c_State_busAnswer _ _
    | with_reducible refine State.bunAnswer_touch ?_ c_State_bunAnswer _ _ _
    | with_reducible refine State.when_touch ?_ _ _ ?_
    | with_reducible refine Touch.ite ?_ ?_
    | with_reducible intro _ _
    | split

def execOpenSession_cells : List Nat :=
  [0x2, 0x3, 0x6, 0xa, 0x100, 0x101, 0x114, 0x200, 0x300, 0x301, 0x305, 0x30a, 0x318, 0x31a, 0x31f, 0x400, 0x401,
   0x405, 0x40b, 0x40e, 0x40f, 0x500, 0x501, 0x504, 0x623, 0x640, 0x641, 0x642, 0x643, 0x644, 0x645, 0x646, 0x647,
   0x648, 0x649, 0x64a, 0x64b, 0x64c, 0x64d, 0x64e, 0x64f, 0x650, 0x651, 0x652, 0x653, 0x654, 0x655, 0x656, 0x657,
   0x658, 0x659, 0x65a, 0x65b, 0x65c, 0x65d, 0x65e, 0x65f, 0x700, 0x701, 0x70c, 0x70d, 0x70e, 0x70f, 0x801, 0x804,
   0x806, 0x807, 0x811, 0x900, 0x901, 0x90b, 0x910, 0x911, 0xa00, 0xa01, 0xa05, 0xa16, 0xa17, 0xa28, 0xa29, 0xa2a,
   0xa2b, 0xa31, 0xa32, 0xa33, 0xa34, 0xb00, 0xb01, 0xb02, 0xb12, 0xb18, 0xc00, 0xc01, 0xc06, 0xc20, 0xc21, 0xc25,
   0xc30, 0xc34, 0xd18, 0xe00, 0xe01, 0xe14, 0x1000, 0x1001, 0x100c, 0x100d, 0x100e, 0x100f, 0x1010, 0x1400, 0x1402,
   0x1403, 0x1404, 0x1405, 0x1406, 0x1407, 0x1408, 0x1409, 0x140a, 0x140b, 0x140c, 0x140d, 0x140f, 0x1410, 0x1411,
   0x1412, 0x1413, 0x1414, 0x1415, 0x1416, 0x1417, 0x1418, 0x1430]

theorem execOpenSession_touch {W0 : List Nat} {s0 s : State} (h0 : Touch W0 s0 s) (hW : Sub execOpenSession_cells W0) (b : Bun) (code : Nat) :
    TouchOut W0 s0 (execOpenSession b code s) := by
  have c_State_bunilia : Sub State.bunilia_cells W0 := Sub.trans (Sub.of rfl) hW
  unfold execOpenSession
  repeat' first
    | with_reducible assumption
    | with_reducible refine TouchOut.next ?_
    | with_reducible refine State.bunilia_touch ?_ c_State_bunilia _ _ _

def execCloseSession_cells : List Nat :=
  [0x2, 0x3, 0x6, 0xa, 0x100, 0x101, 0x114, 0x200, 0x300, 0x301, 0x305, 0x30a, 0x318, 0x31a, 0x31f, 0x400, 0x401,
   0x405, 0x40b, 0x40e, 0x40f, 0x500, 0x501, 0x504, 0x623, 0x640, 0x641, 0x642, 0x643, 0x644, 0x645, 0x646, 0x647,
   0x648, 0x649, 0x64a, 0x64b, 0x64c, 0x64d, 0x64e, 0x64f, 0x650, 0x651, 0x652, 0x653, 0x654, 0x655, 0x656, 0x657,
   0x658, 0x659, 0x65a, 0x65b, 0x65c, 0x65d, 0x65e, 0x65f, 0x700, 0x701, 0x70c, 0x70d, 0x70e, 0x70f, 0x801, 0x804,
   0x806, 0x807, 0x811, 0x900, 0x901, 0x90b, 0x910, 0x911, 0xa00, 0xa01, 0xa05, 0xa16, 0xa17, 0xa28, 0xa29, 0xa2a,
   0xa2b, 0xa31, 0xa32, 0xa33, 0xa34, 0xb00, 0xb01, 0xb02, 0xb12, 0xb18, 0xc00, 0xc01, 0xc06, 0xc20, 0xc21, 0xc25,
   0xc30, 0xc34, 0xd18, 0xe00, 0xe01, 0xe14, 0x1000, 0x1001, 0x100c, 0x100d, 0x100e, 0x100f, 0x1010, 0x1400, 0x1402,
   0x1403, 0x1404, 0x1405, 0x1406, 0x1407, 0x1408, 0x1409, 0x140a, 0x140b, 0x140c, 0x140d, 0x140f, 0x1410, 0x1411,
   0x1412, 0x1413, 0x1414, 0x1415, 0x1416, 0x1417, 0x1418, 0x1430]

theorem execCloseSession_touch {W0 : List Nat} {s0 s : State} (h0 : Touch W0 s0 s) (hW : Sub execCloseSession_cells W0) (b : Bun) :
    TouchOut W0 s0 (execCloseSession b s) := by
  have c_State_bunilia : Sub State.bunilia_cells W0 := Sub.trans (Sub.of rfl) hW
  unfold execCloseSession
  repeat' first
    | with_reducible assumption
    | with_reducible refine TouchOut.next ?_
    | with_reducible refine State.bunilia_touch ?_ c_State_bunilia _ _ _

def execBuniliaIdent_cells : List Nat :=
  [0x2, 0x3, 0x6, 0xa, 0x100, 0x101, 0x114, 0x200, 0x300, 0x301, 0x305, 0x30a, 0x318, 0x31a, 0x31f, 0x400, 0x401,
   0x405, 0x40b, 0x40e, 0x40f, 0x500, 0x501, 0x504, 0x623, 0x640, 0x641, 0x642, 0x643, 0x644, 0x645, 0x646, 0x647,
   0x648, 0x649, 0x64a, 0x64b, 0x64c, 0x64d, 0x64e, 0x64f, 0x650, 0x651, 0x652, 0x653, 0x654, 0x655, 0x656, 0x657,
   0x658, 0x659, 0x65a, 0x65b, 0x65c, 0x65d, 0x65e, 0x65f, 0x700, 0x701, 0x70c, 0x70d, 0x70e, 0x70f, 0x801, 0x804,
   0x806, 0x807, 0x811, 0x900, 0x901, 0x90b, 0x910, 0x911, 0xa00, 0xa01, 0xa05, 0xa16, 0xa17, 0xa28, 0xa29, 0xa2a,
   0xa2b, 0xa31, 0xa32, 0xa33, 0xa34, 0xb00, 0xb01, 0xb02, 0xb12, 0xb18, 0xc00, 0xc01, 0xc06, 0xc20, 0xc21, 0xc25,
   0xc30, 0xc34, 0xd18, 0xe00, 0xe01, 0xe14, 0x1000, 0x1001, 0x100c, 0x100d, 0x100e, 0x100f, 0x1010, 0x1400, 0x1402,
   0x1403, 0x1404, 0x1405, 0x1406, 0x1407, 0x1408, 0x1409, 0x140a, 0x140b, 0x140c, 0x140d, 0x140f, 0x1410, 0x1411,
   0x1412, 0x1413, 0x1414, 0x1415, 0x1416, 0x1417, 0x1418, 0x1430]

theorem execBuniliaIdent_touch {W0 : List Nat} {s0 s : State} (h0 : Touch W0 s0 s) (hW : Sub execBuniliaIdent_cells W0) (b : Bun) :
    TouchOut W0 s0 (execBuniliaIdent b s) := by
  have c_State_bunilia : Sub State.bunilia_cells W0 := Sub.trans (Sub.of rfl) hW
  unfold execBuniliaIdent
  repeat' first
    | with_reducible assumption
    | with_reducible refine TouchOut.next ?_
    | with_reducible refine State.bunilia_touch ?_ c_State_bunilia _ _ _

def execRegRead_cells : List Nat :=
  [0x2, 0x3, 0x6, 0xa, 0x100, 0x101, 0x114, 0x200, 0x300, 0x301, 0x305, 0x30a, 0x318, 0x31a, 0x31f, 0x400, 0x401,
   0x405, 0x40b, 0x40e, 0x40f, 0x500, 0x501, 0x504, 0x623, 0x640, 0x641, 0x642, 0x643, 0x644, 0x645, 0x646, 0x647,
   0x648, 0x649, 0x64a, 0x64b, 0x64c, 0x64d, 0x64e, 0x64f, 0x650, 0x651, 0x652, 0x653, 0x654, 0x655, 0x656, 0x657,
   0x658, 0x659, 0x65a, 0x65b, 0x65c, 0x65d, 0x65e, 0x65f, 0x700, 0x701, 0x70c, 0x70d, 0x70e, 0x70f, 0x801, 0x804,
   0x806, 0x807, 0x811, 0x900, 0x901, 0x90b, 0x910, 0x911, 0xa00, 0xa01, 0xa05, 0xa16, 0xa17, 0xa28, 0xa29, 0xa2a,
   0xa2b, 0xa31, 0xa32, 0xa33, 0xa34, 0xb00, 0xb01, 0xb02, 0xb12, 0xb18, 0xc00, 0xc01, 0xc06, 0xc20, 0xc21, 0xc25,
   0xc30, 0xc34, 0xd18, 0xe00, 0xe01, 0xe14, 0x1000, 0x1001, 0x100c, 0x100d, 0x100e, 0x100f, 0x1010, 0x1400, 0x1402,
   0x1403, 0x1404, 0x1405, 0x1406, 0x1407, 0x1408, 0x1409, 0x140a, 0x140b, 0x140c, 0x140d, 0x140f, 0x1410, 0x1411,
   0x1412, 0x1413, 0x1414, 0x1415, 0x1416, 0x1417, 0x1418, 0x1430]

theorem execRegRead_touch {W0 : List Nat} {s0 s : State} (h0 : Touch W0 s0 s) (hW : Sub execRegRead_cells W0) (b : Bun) (addr : Nat) (n : Nat) :
    TouchOut W0 s0 (execRegRead b addr n s) := by
  have c_State_bunilia : Sub State.bunilia_cells W0 := Sub.trans (Sub.of rfl) hW
  unfold execRegRead
  repeat' first
    | with_reducible assumption
    | with_reducible refine TouchOut.next ?_
    | with_reducible refine State.bunilia_touch ?_ c_State_bunilia _ _ _

def execLgrRead_cells : List Nat :=
  [0x2, 0x3, 0x6, 0xa, 0x100, 0x101, 0x114, 0x200, 0x300, 0x301, 0x305, 0x30a, 0x318, 0x31a, 0x31f, 0x400, 0x401,
   0x405, 0x40b, 0x40e, 0x40f, 0x500, 0x501, 0x504, 0x623, 0x640, 0x641, 0x642, 0x643, 0x644, 0x645, 0x646, 0x647,
   0x648, 0x649, 0x64a, 0x64b, 0x64c, 0x64d, 0x64e, 0x64f, 0x650, 0x651, 0x652, 0x653, 0x654, 0x655, 0x656, 0x657,
   0x658, 0x659, 0x65a, 0x65b, 0x65c, 0x65d, 0x65e, 0x65f, 0x700, 0x701, 0x70c, 0x70d, 0x70e, 0x70f, 0x801, 0x804,
   0x806, 0x807, 0x811, 0x900, 0x901, 0x90b, 0x910, 0x911, 0xa00, 0xa01, 0xa05, 0xa16, 0xa17, 0xa28, 0xa29, 0xa2a,
   0xa2b, 0xa31, 0xa32, 0xa33, 0xa34, 0xb00, 0xb01, 0xb02, 0xb12, 0xb18, 0xc00, 0xc01, 0xc06, 0xc20, 0xc21, 0xc25,
   0xc30, 0xc34, 0xd18, 0xe00, 0xe01, 0xe14, 0x1000, 0x1001, 0x100c, 0x100d, 0x100e, 0x100f, 0x1010, 0x1400, 0x1402,
   0x1403, 0x1404, 0x1405, 0x1406, 0x1407, 0x1408, 0x1409, 0x140a, 0x140b, 0x140c, 0x140d, 0x140f, 0x1410, 0x1411,
   0x1412, 0x1413, 0x1414, 0x1415, 0x1416, 0x1417, 0x1418, 0x1430]

theorem execLgrRead_touch {W0 : List Nat} {s0 s : State} (h0 : Touch W0 s0 s) (hW : Sub execLgrRead_cells W0) (b : Bun) (seq : Nat) (mode : Nat) (n : Nat) :
    TouchOut W0 s0 (execLgrRead b seq mode n s) := by
  have c_State_bunilia : Sub State.bunilia_cells W0 := Sub.trans (Sub.of rfl) hW
  unfold execLgrRead
  repeat' first
    | with_reducible assumption
    | with_reducible refine TouchOut.next ?_
    | with_reducible refine State.bunilia_touch ?_ c_State_bunilia _ _ _

def execStallRead_cells : List Nat :=
  [0x2, 0x3, 0x6, 0xa, 0x100, 0x101, 0x114, 0x200, 0x300, 0x301, 0x305, 0x30a, 0x318, 0x31a, 0x31f, 0x400, 0x401,
   0x405, 0x40b, 0x40e, 0x40f, 0x500, 0x501, 0x504, 0x623, 0x640, 0x641, 0x642, 0x643, 0x644, 0x645, 0x646, 0x647,
   0x648, 0x649, 0x64a, 0x64b, 0x64c, 0x64d, 0x64e, 0x64f, 0x650, 0x651, 0x652, 0x653, 0x654, 0x655, 0x656, 0x657,
   0x658, 0x659, 0x65a, 0x65b, 0x65c, 0x65d, 0x65e, 0x65f, 0x700, 0x701, 0x70c, 0x70d, 0x70e, 0x70f, 0x801, 0x804,
   0x806, 0x807, 0x811, 0x900, 0x901, 0x90b, 0x910, 0x911, 0xa00, 0xa01, 0xa05, 0xa16, 0xa17, 0xa28, 0xa29, 0xa2a,
   0xa2b, 0xa31, 0xa32, 0xa33, 0xa34, 0xb00, 0xb01, 0xb02, 0xb12, 0xb18, 0xc00, 0xc01, 0xc06, 0xc20, 0xc21, 0xc25,
   0xc30, 0xc34, 0xd18, 0xe00, 0xe01, 0xe14, 0x1000, 0x1001, 0x100c, 0x100d, 0x100e, 0x100f, 0x1010, 0x1400, 0x1402,
   0x1403, 0x1404, 0x1405, 0x1406, 0x1407, 0x1408, 0x1409, 0x140a, 0x140b, 0x140c, 0x140d, 0x140f, 0x1410, 0x1411,
   0x1412, 0x1413, 0x1414, 0x1415, 0x1416, 0x1417, 0x1418, 0x1430]

theorem execStallRead_touch {W0 : List Nat} {s0 s : State} (h0 : Touch W0 s0 s) (hW : Sub execStallRead_cells W0) (b : Bun) (addr : Nat) :
    TouchOut W0 s0 (execStallRead b addr s) := by
  have c_State_bunilia : Sub State.bunilia_cells W0 := Sub.trans (Sub.of rfl) hW
  unfold execStallRead
  repeat' first
    | with_reducible assumption
    | with_reducible refine TouchOut.next ?_
    | with_reducible refine State.bunilia_touch ?_ c_State_bunilia _ _ _

def execWbRead_cells : List Nat :=
  [0x2, 0x3, 0x6, 0xa, 0x100, 0x101, 0x114, 0x200, 0x300, 0x301, 0x305, 0x30a, 0x318, 0x31a, 0x31f, 0x400, 0x401,
   0x405, 0x40b, 0x40e, 0x40f, 0x500, 0x501, 0x504, 0x623, 0x640, 0x641, 0x642, 0x643, 0x644, 0x645, 0x646, 0x647,
   0x648, 0x649, 0x64a, 0x64b, 0x64c, 0x64d, 0x64e, 0x64f, 0x650, 0x651, 0x652, 0x653, 0x654, 0x655, 0x656, 0x657,
   0x658, 0x659, 0x65a, 0x65b, 0x65c, 0x65d, 0x65e, 0x65f, 0x700, 0x701, 0x70c, 0x70d, 0x70e, 0x70f, 0x801, 0x804,
   0x806, 0x807, 0x811, 0x900, 0x901, 0x90b, 0x910, 0x911, 0xa00, 0xa01, 0xa05, 0xa16, 0xa17, 0xa28, 0xa29, 0xa2a,
   0xa2b, 0xa31, 0xa32, 0xa33, 0xa34, 0xb00, 0xb01, 0xb02, 0xb12, 0xb18, 0xc00, 0xc01, 0xc06, 0xc20, 0xc21, 0xc25,
   0xc30, 0xc34, 0xd18, 0xe00, 0xe01, 0xe14, 0x1000, 0x1001, 0x100c, 0x100d, 0x100e, 0x100f, 0x1010, 0x1400, 0x1402,
   0x1403, 0x1404, 0x1405, 0x1406, 0x1407, 0x1408, 0x1409, 0x140a, 0x140b, 0x140c, 0x140d, 0x140f, 0x1410, 0x1411,
   0x1412, 0x1413, 0x1414, 0x1415, 0x1416, 0x1417, 0x1418, 0x1430]

theorem execWbRead_touch {W0 : List Nat} {s0 s : State} (h0 : Touch W0 s0 s) (hW : Sub execWbRead_cells W0) (b : Bun) (typ : Nat) :
    TouchOut W0 s0 (execWbRead b typ s) := by
  have c_State_bunilia : Sub State.bunilia_cells W0 := Sub.trans (Sub.of rfl) hW
  unfold execWbRead
  repeat' first
    | with_reducible assumption
    | with_reducible refine TouchOut.next ?_
    | with_reducible refine State.bunilia_touch ?_ c_State_bunilia _ _ _

def execWbSnapshot_cells : List Nat :=
  [0x2, 0x3, 0x6, 0xa, 0x100, 0x101, 0x114, 0x200, 0x300, 0x301, 0x305, 0x30a, 0x318, 0x31a, 0x31f, 0x400, 0x401,
   0x405, 0x40b, 0x40e, 0x40f, 0x500, 0x501, 0x504, 0x623, 0x640, 0x641, 0x642, 0x643, 0x644, 0x645, 0x646, 0x647,
   0x648, 0x649, 0x64a, 0x64b, 0x64c, 0x64d, 0x64e, 0x64f, 0x650, 0x651, 0x652, 0x653, 0x654, 0x655, 0x656, 0x657,
   0x658, 0x659, 0x65a, 0x65b, 0x65c, 0x65d, 0x65e, 0x65f, 0x700, 0x701, 0x70c, 0x70d, 0x70e, 0x70f, 0x801, 0x804,
   0x806, 0x807, 0x811, 0x900, 0x901, 0x90b, 0x910, 0x911, 0xa00, 0xa01, 0xa05, 0xa16, 0xa17, 0xa28, 0xa29, 0xa2a,
   0xa2b, 0xa31, 0xa32, 0xa33, 0xa34, 0xb00, 0xb01, 0xb02, 0xb12, 0xb18, 0xc00, 0xc01, 0xc06, 0xc20, 0xc21, 0xc25,
   0xc30, 0xc34, 0xd18, 0xe00, 0xe01, 0xe14, 0x1000, 0x1001, 0x100c, 0x100d, 0x100e, 0x100f, 0x1010, 0x1400, 0x1402,
   0x1403, 0x1404, 0x1405, 0x1406, 0x1407, 0x1408, 0x1409, 0x140a, 0x140b, 0x140c, 0x140d, 0x140f, 0x1410, 0x1411,
   0x1412, 0x1413, 0x1414, 0x1415, 0x1416, 0x1417, 0x1418, 0x1430]

theorem execWbSnapshot_touch {W0 : List Nat} {s0 s : State} (h0 : Touch W0 s0 s) (hW : Sub execWbSnapshot_cells W0) (b : Bun) :
    TouchOut W0 s0 (execWbSnapshot b s) := by
  have c_State_bunilia : Sub State.bunilia_cells W0 := Sub.trans (Sub.of rfl) hW
  unfold execWbSnapshot
  repeat' first
    | with_reducible assumption
    | with_reducible refine TouchOut.next ?_
    | with_reducible refine State.bunilia_touch ?_ c_State_bunilia _ _ _

def execImgStage_cells : List Nat :=
  [0x2, 0x3, 0x6, 0xa, 0x100, 0x101, 0x114, 0x200, 0x300, 0x301, 0x305, 0x30a, 0x318, 0x31a, 0x31f, 0x400, 0x401,
   0x405, 0x40b, 0x40e, 0x40f, 0x500, 0x501, 0x504, 0x623, 0x640, 0x641, 0x642, 0x643, 0x644, 0x645, 0x646, 0x647,
   0x648, 0x649, 0x64a, 0x64b, 0x64c, 0x64d, 0x64e, 0x64f, 0x650, 0x651, 0x652, 0x653, 0x654, 0x655, 0x656, 0x657,
   0x658, 0x659, 0x65a, 0x65b, 0x65c, 0x65d, 0x65e, 0x65f, 0x700, 0x701, 0x70c, 0x70d, 0x70e, 0x70f, 0x801, 0x804,
   0x806, 0x807, 0x811, 0x900, 0x901, 0x90b, 0x910, 0x911, 0xa00, 0xa01, 0xa05, 0xa16, 0xa17, 0xa28, 0xa29, 0xa2a,
   0xa2b, 0xa31, 0xa32, 0xa33, 0xa34, 0xb00, 0xb01, 0xb02, 0xb12, 0xb18, 0xc00, 0xc01, 0xc06, 0xc20, 0xc21, 0xc25,
   0xc30, 0xc34, 0xd18, 0xe00, 0xe01, 0xe14, 0x1000, 0x1001, 0x100c, 0x100d, 0x100e, 0x100f, 0x1010, 0x1400, 0x1402,
   0x1403, 0x1404, 0x1405, 0x1406, 0x1407, 0x1408, 0x1409, 0x140a, 0x140b, 0x140c, 0x140d, 0x140f, 0x1410, 0x1411,
   0x1412, 0x1413, 0x1414, 0x1415, 0x1416, 0x1417, 0x1418, 0x1430]

theorem execImgStage_touch {W0 : List Nat} {s0 s : State} (h0 : Touch W0 s0 s) (hW : Sub execImgStage_cells W0) (b : Bun) (offset : Nat) (data : List Byte) :
    TouchOut W0 s0 (execImgStage b offset data s) := by
  have c_State_bunilia : Sub State.bunilia_cells W0 := Sub.trans (Sub.of rfl) hW
  unfold execImgStage
  repeat' first
    | with_reducible assumption
    | with_reducible refine TouchOut.next ?_
    | with_reducible refine State.bunilia_touch ?_ c_State_bunilia _ _ _

def execFwBegin_cells : List Nat :=
  [0x2, 0x3, 0x6, 0xa, 0x100, 0x101, 0x114, 0x200, 0x300, 0x301, 0x305, 0x30a, 0x318, 0x31a, 0x31f, 0x400, 0x401,
   0x405, 0x40b, 0x40e, 0x40f, 0x500, 0x501, 0x504, 0x623, 0x640, 0x641, 0x642, 0x643, 0x644, 0x645, 0x646, 0x647,
   0x648, 0x649, 0x64a, 0x64b, 0x64c, 0x64d, 0x64e, 0x64f, 0x650, 0x651, 0x652, 0x653, 0x654, 0x655, 0x656, 0x657,
   0x658, 0x659, 0x65a, 0x65b, 0x65c, 0x65d, 0x65e, 0x65f, 0x700, 0x701, 0x70c, 0x70d, 0x70e, 0x70f, 0x801, 0x804,
   0x806, 0x807, 0x811, 0x900, 0x901, 0x90b, 0x910, 0x911, 0xa00, 0xa01, 0xa05, 0xa16, 0xa17, 0xa28, 0xa29, 0xa2a,
   0xa2b, 0xa31, 0xa32, 0xa33, 0xa34, 0xb00, 0xb01, 0xb02, 0xb12, 0xb18, 0xc00, 0xc01, 0xc06, 0xc20, 0xc21, 0xc25,
   0xc30, 0xc34, 0xd18, 0xe00, 0xe01, 0xe14, 0x1000, 0x1001, 0x100c, 0x100d, 0x100e, 0x100f, 0x1010, 0x1400, 0x1402,
   0x1403, 0x1404, 0x1405, 0x1406, 0x1407, 0x1408, 0x1409, 0x140a, 0x140b, 0x140c, 0x140d, 0x140f, 0x1410, 0x1411,
   0x1412, 0x1413, 0x1414, 0x1415, 0x1416, 0x1417, 0x1418, 0x1430]

theorem execFwBegin_touch {W0 : List Nat} {s0 s : State} (h0 : Touch W0 s0 s) (hW : Sub execFwBegin_cells W0) (b : Bun) (total : Nat) :
    TouchOut W0 s0 (execFwBegin b total s) := by
  have c_State_bunilia : Sub State.bunilia_cells W0 := Sub.trans (Sub.of rfl) hW
  unfold execFwBegin
  repeat' first
    | with_reducible assumption
    | with_reducible refine TouchOut.next ?_
    | with_reducible refine State.bunilia_touch ?_ c_State_bunilia _ _ _

def execFwChunk_cells : List Nat :=
  [0x2, 0x3, 0x6, 0xa, 0x100, 0x101, 0x114, 0x200, 0x300, 0x301, 0x305, 0x30a, 0x318, 0x31a, 0x31f, 0x400, 0x401,
   0x405, 0x40b, 0x40e, 0x40f, 0x500, 0x501, 0x504, 0x623, 0x640, 0x641, 0x642, 0x643, 0x644, 0x645, 0x646, 0x647,
   0x648, 0x649, 0x64a, 0x64b, 0x64c, 0x64d, 0x64e, 0x64f, 0x650, 0x651, 0x652, 0x653, 0x654, 0x655, 0x656, 0x657,
   0x658, 0x659, 0x65a, 0x65b, 0x65c, 0x65d, 0x65e, 0x65f, 0x700, 0x701, 0x70c, 0x70d, 0x70e, 0x70f, 0x801, 0x804,
   0x806, 0x807, 0x811, 0x900, 0x901, 0x90b, 0x910, 0x911, 0xa00, 0xa01, 0xa05, 0xa16, 0xa17, 0xa28, 0xa29, 0xa2a,
   0xa2b, 0xa31, 0xa32, 0xa33, 0xa34, 0xb00, 0xb01, 0xb02, 0xb12, 0xb18, 0xc00, 0xc01, 0xc06, 0xc20, 0xc21, 0xc25,
   0xc30, 0xc34, 0xd18, 0xe00, 0xe01, 0xe14, 0x1000, 0x1001, 0x100c, 0x100d, 0x100e, 0x100f, 0x1010, 0x1400, 0x1402,
   0x1403, 0x1404, 0x1405, 0x1406, 0x1407, 0x1408, 0x1409, 0x140a, 0x140b, 0x140c, 0x140d, 0x140f, 0x1410, 0x1411,
   0x1412, 0x1413, 0x1414, 0x1415, 0x1416, 0x1417, 0x1418, 0x1430]

theorem execFwChunk_touch {W0 : List Nat} {s0 s : State} (h0 : Touch W0 s0 s) (hW : Sub execFwChunk_cells W0) (b : Bun) (offset : Nat) (data : List Byte) :
    TouchOut W0 s0 (execFwChunk b offset data s) := by
  have c_State_bunilia : Sub State.bunilia_cells W0 := Sub.trans (Sub.of rfl) hW
  unfold execFwChunk
  repeat' first
    | with_reducible assumption
    | with_reducible refine TouchOut.next ?_
    | with_reducible refine State.bunilia_touch ?_ c_State_bunilia _ _ _

def execRegWrite_cells : List Nat :=
  [0x2, 0x3, 0x6, 0xa, 0x100, 0x101, 0x114, 0x200, 0x300, 0x301, 0x305, 0x30a, 0x318, 0x31a, 0x31f, 0x400, 0x401,
   0x405, 0x40b, 0x40e, 0x40f, 0x500, 0x501, 0x504, 0x623, 0x640, 0x641, 0x642, 0x643, 0x644, 0x645, 0x646, 0x647,
   0x648, 0x649, 0x64a, 0x64b, 0x64c, 0x64d, 0x64e, 0x64f, 0x650, 0x651, 0x652, 0x653, 0x654, 0x655, 0x656, 0x657,
   0x658, 0x659, 0x65a, 0x65b, 0x65c, 0x65d, 0x65e, 0x65f, 0x700, 0x701, 0x70c, 0x70d, 0x70e, 0x70f, 0x801, 0x804,
   0x806, 0x807, 0x811, 0x900, 0x901, 0x90b, 0x910, 0x911, 0xa00, 0xa01, 0xa05, 0xa16, 0xa17, 0xa28, 0xa29, 0xa2a,
   0xa2b, 0xa31, 0xa32, 0xa33, 0xa34, 0xb00, 0xb01, 0xb02, 0xb12, 0xb18, 0xc00, 0xc01, 0xc06, 0xc20, 0xc21, 0xc25,
   0xc30, 0xc34, 0xd18, 0xe00, 0xe01, 0xe14, 0x1000, 0x1001, 0x100c, 0x100d, 0x100e, 0x100f, 0x1010, 0x1400, 0x1402,
   0x1403, 0x1404, 0x1405, 0x1406, 0x1407, 0x1408, 0x1409, 0x140a, 0x140b, 0x140c, 0x140d, 0x140f, 0x1410, 0x1411,
   0x1412, 0x1413, 0x1414, 0x1415, 0x1416, 0x1417, 0x1418, 0x1430]

theorem execRegWrite_touch {W0 : List Nat} {s0 s : State} (h0 : Touch W0 s0 s) (hW : Sub execRegWrite_cells W0) (b : Bun) (addr : Nat) (v : Word) (keyed : Bool) :
    TouchOut W0 s0 (execRegWrite b addr v keyed s) := by
  have c_State_bunilia : Sub State.bunilia_cells W0 := Sub.trans (Sub.of rfl) hW
  unfold execRegWrite
  repeat' first
    | with_reducible assumption
    | with_reducible refine TouchOut.next ?_
    | with_reducible refine State.bunilia_touch ?_ c_State_bunilia _ _ _

def execWbCalibrate_cells : List Nat :=
  [0x2, 0x3, 0x6, 0xa, 0x100, 0x101, 0x114, 0x200, 0x300, 0x301, 0x305, 0x30a, 0x318, 0x31a, 0x31f, 0x400, 0x401,
   0x405, 0x40b, 0x40e, 0x40f, 0x500, 0x501, 0x504, 0x623, 0x640, 0x641, 0x642, 0x643, 0x644, 0x645, 0x646, 0x647,
   0x648, 0x649, 0x64a, 0x64b, 0x64c, 0x64d, 0x64e, 0x64f, 0x650, 0x651, 0x652, 0x653, 0x654, 0x655, 0x656, 0x657,
   0x658, 0x659, 0x65a, 0x65b, 0x65c, 0x65d, 0x65e, 0x65f, 0x700, 0x701, 0x70c, 0x70d, 0x70e, 0x70f, 0x801, 0x804,
   0x806, 0x807, 0x811, 0x900, 0x901, 0x90b, 0x910, 0x911, 0xa00, 0xa01, 0xa05, 0xa16, 0xa17, 0xa28, 0xa29, 0xa2a,
   0xa2b, 0xa31, 0xa32, 0xa33, 0xa34, 0xb00, 0xb01, 0xb02, 0xb12, 0xb18, 0xc00, 0xc01, 0xc06, 0xc20, 0xc21, 0xc25,
   0xc30, 0xc34, 0xd18, 0xe00, 0xe01, 0xe14, 0x1000, 0x1001, 0x100c, 0x100d, 0x100e, 0x100f, 0x1010, 0x1400, 0x1402,
   0x1403, 0x1404, 0x1405, 0x1406, 0x1407, 0x1408, 0x1409, 0x140a, 0x140b, 0x140c, 0x140d, 0x140f, 0x1410, 0x1411,
   0x1412, 0x1413, 0x1414, 0x1415, 0x1416, 0x1417, 0x1418, 0x1430]

theorem execWbCalibrate_touch {W0 : List Nat} {s0 s : State} (h0 : Touch W0 s0 s) (hW : Sub execWbCalibrate_cells W0) (b : Bun) (ma : Nat) :
    TouchOut W0 s0 (execWbCalibrate b ma s) := by
  have c_State_bunilia : Sub State.bunilia_cells W0 := Sub.trans (Sub.of rfl) hW
  unfold execWbCalibrate
  repeat' first
    | with_reducible assumption
    | with_reducible refine TouchOut.next ?_
    | with_reducible refine State.bunilia_touch ?_ c_State_bunilia _ _ _

def execImgWrite_cells : List Nat :=
  [0x2, 0x3, 0x6, 0xa, 0x100, 0x101, 0x114, 0x200, 0x300, 0x301, 0x305, 0x30a, 0x318, 0x31a, 0x31f, 0x400, 0x401,
   0x405, 0x40b, 0x40e, 0x40f, 0x500, 0x501, 0x504, 0x623, 0x640, 0x641, 0x642, 0x643, 0x644, 0x645, 0x646, 0x647,
   0x648, 0x649, 0x64a, 0x64b, 0x64c, 0x64d, 0x64e, 0x64f, 0x650, 0x651, 0x652, 0x653, 0x654, 0x655, 0x656, 0x657,
   0x658, 0x659, 0x65a, 0x65b, 0x65c, 0x65d, 0x65e, 0x65f, 0x700, 0x701, 0x70c, 0x70d, 0x70e, 0x70f, 0x801, 0x804,
   0x806, 0x807, 0x811, 0x900, 0x901, 0x90b, 0x910, 0x911, 0xa00, 0xa01, 0xa05, 0xa16, 0xa17, 0xa28, 0xa29, 0xa2a,
   0xa2b, 0xa31, 0xa32, 0xa33, 0xa34, 0xb00, 0xb01, 0xb02, 0xb12, 0xb18, 0xc00, 0xc01, 0xc06, 0xc20, 0xc21, 0xc25,
   0xc30, 0xc34, 0xd18, 0xe00, 0xe01, 0xe14, 0x1000, 0x1001, 0x100c, 0x100d, 0x100e, 0x100f, 0x1010, 0x1400, 0x1402,
   0x1403, 0x1404, 0x1405, 0x1406, 0x1407, 0x1408, 0x1409, 0x140a, 0x140b, 0x140c, 0x140d, 0x140f, 0x1410, 0x1411,
   0x1412, 0x1413, 0x1414, 0x1415, 0x1416, 0x1417, 0x1418, 0x1430]

theorem execImgWrite_touch {W0 : List Nat} {s0 s : State} (h0 : Touch W0 s0 s) (hW : Sub execImgWrite_cells W0) (b : Bun) (resetAfter : Bool) :
    TouchOut W0 s0 (execImgWrite b resetAfter s) := by
  have c_State_bunilia : Sub State.bunilia_cells W0 := Sub.trans (Sub.of rfl) hW
  unfold execImgWrite
  repeat' first
    | with_reducible assumption
    | with_reducible refine TouchOut.next ?_
    | with_reducible refine State.bunilia_touch ?_ c_State_bunilia _ _ _

def execFwWrite_cells : List Nat :=
  [0x2, 0x3, 0x6, 0xa, 0x100, 0x101, 0x114, 0x200, 0x300, 0x301, 0x305, 0x30a, 0x318, 0x31a, 0x31f, 0x400, 0x401,
   0x405, 0x40b, 0x40e, 0x40f, 0x500, 0x501, 0x504, 0x623, 0x640, 0x641, 0x642, 0x643, 0x644, 0x645, 0x646, 0x647,
   0x648, 0x649, 0x64a, 0x64b, 0x64c, 0x64d, 0x64e, 0x64f, 0x650, 0x651, 0x652, 0x653, 0x654, 0x655, 0x656, 0x657,
   0x658, 0x659, 0x65a, 0x65b, 0x65c, 0x65d, 0x65e, 0x65f, 0x700, 0x701, 0x70c, 0x70d, 0x70e, 0x70f, 0x801, 0x804,
   0x806, 0x807, 0x811, 0x900, 0x901, 0x90b, 0x910, 0x911, 0xa00, 0xa01, 0xa05, 0xa16, 0xa17, 0xa28, 0xa29, 0xa2a,
   0xa2b, 0xa31, 0xa32, 0xa33, 0xa34, 0xb00, 0xb01, 0xb02, 0xb12, 0xb18, 0xc00, 0xc01, 0xc06, 0xc20, 0xc21, 0xc25,
   0xc30, 0xc34, 0xd18, 0xe00, 0xe01, 0xe14, 0x1000, 0x1001, 0x100c, 0x100d, 0x100e, 0x100f, 0x1010, 0x1400, 0x1402,
   0x1403, 0x1404, 0x1405, 0x1406, 0x1407, 0x1408, 0x1409, 0x140a, 0x140b, 0x140c, 0x140d, 0x140f, 0x1410, 0x1411,
   0x1412, 0x1413, 0x1414, 0x1415, 0x1416, 0x1417, 0x1418, 0x1430]

theorem execFwWrite_touch {W0 : List Nat} {s0 s : State} (h0 : Touch W0 s0 s) (hW : Sub execFwWrite_cells W0) (b : Bun) :
    TouchOut W0 s0 (execFwWrite b s) := by
  have c_State_bunilia : Sub State.bunilia_cells W0 := Sub.trans (Sub.of rfl) hW
  unfold execFwWrite
  repeat' first
    | with_reducible assumption
    | with_reducible refine TouchOut.next ?_
    | with_reducible refine State.bunilia_touch ?_ c_State_bunilia _ _ _

def execFwActivate_cells : List Nat :=
  [0x2, 0x3, 0x6, 0xa, 0x100, 0x101, 0x114, 0x200, 0x300, 0x301, 0x305, 0x30a, 0x318, 0x31a, 0x31f, 0x400, 0x401,
   0x405, 0x40b, 0x40e, 0x40f, 0x500, 0x501, 0x504, 0x623, 0x640, 0x641, 0x642, 0x643, 0x644, 0x645, 0x646, 0x647,
   0x648, 0x649, 0x64a, 0x64b, 0x64c, 0x64d, 0x64e, 0x64f, 0x650, 0x651, 0x652, 0x653, 0x654, 0x655, 0x656, 0x657,
   0x658, 0x659, 0x65a, 0x65b, 0x65c, 0x65d, 0x65e, 0x65f, 0x700, 0x701, 0x70c, 0x70d, 0x70e, 0x70f, 0x801, 0x804,
   0x806, 0x807, 0x811, 0x900, 0x901, 0x90b, 0x910, 0x911, 0xa00, 0xa01, 0xa05, 0xa16, 0xa17, 0xa28, 0xa29, 0xa2a,
   0xa2b, 0xa31, 0xa32, 0xa33, 0xa34, 0xb00, 0xb01, 0xb02, 0xb12, 0xb18, 0xc00, 0xc01, 0xc06, 0xc20, 0xc21, 0xc25,
   0xc30, 0xc34, 0xd18, 0xe00, 0xe01, 0xe14, 0x1000, 0x1001, 0x100c, 0x100d, 0x100e, 0x100f, 0x1010, 0x1400, 0x1402,
   0x1403, 0x1404, 0x1405, 0x1406, 0x1407, 0x1408, 0x1409, 0x140a, 0x140b, 0x140c, 0x140d, 0x140f, 0x1410, 0x1411,
   0x1412, 0x1413, 0x1414, 0x1415, 0x1416, 0x1417, 0x1418, 0x1430]

theorem execFwActivate_touch {W0 : List Nat} {s0 s : State} (h0 : Touch W0 s0 s) (hW : Sub execFwActivate_cells W0) (b : Bun) (slot : Nat) (raiseFloor : Bool) :
    TouchOut W0 s0 (execFwActivate b slot raiseFloor s) := by
  have c_State_bunilia : Sub State.bunilia_cells W0 := Sub.trans (Sub.of rfl) hW
  unfold execFwActivate
  repeat' first
    | with_reducible assumption
    | with_reducible refine TouchOut.next ?_
    | with_reducible refine State.bunilia_touch ?_ c_State_bunilia _ _ _

def execFwActivateResume_cells : List Nat :=
  [0x2, 0x3, 0x6, 0xa, 0x100, 0x200, 0x300, 0x301, 0x305, 0x30a, 0x318, 0x31f, 0x400, 0x401, 0x405, 0x40b, 0x40e,
   0x40f, 0x500, 0x801, 0x900, 0x901, 0x90b, 0x910, 0x911, 0xa00, 0xa01, 0xa05, 0xa28, 0xa29, 0xa2a, 0xa2b, 0xa31,
   0xa32, 0xa33, 0xa34, 0xb00, 0xb01, 0xb02, 0xb12, 0xb18, 0xc00, 0xc06, 0xc20, 0xc21, 0xc25, 0xc30, 0xc34, 0xd18,
   0xe00, 0xe14, 0x1000, 0x1400, 0x1402, 0x1403, 0x1404, 0x1405, 0x1406, 0x1407, 0x1408, 0x1409, 0x140a, 0x140b,
   0x140c, 0x140d, 0x140f, 0x1410, 0x1411, 0x1412, 0x1413, 0x1414, 0x1415, 0x1416, 0x1417, 0x1418, 0x1430]

theorem execFwActivateResume_touch {W0 : List Nat} {s0 s : State} (h0 : Touch W0 s0 s) (hW : Sub execFwActivateResume_cells W0) :
    TouchOut W0 s0 (execFwActivateResume s) := by
  have c_State_activate : Sub State.activate_cells W0 := Sub.trans (Sub.of rfl) hW
  unfold execFwActivateResume
  repeat' first
    | with_reducible assumption
    | with_reducible refine TouchOut.next ?_
    | with_reducible refine State.activate_touch ?_ c_State_activate _ _ _
    | with_reducible refine State.when_touch ?_ _ _ ?_
    | with_reducible intro _ _
    | split

def execBuniliaReset_cells : List Nat :=
  [0x2, 0x3, 0x6, 0xa, 0x100, 0x101, 0x114, 0x200, 0x300, 0x301, 0x305, 0x30a, 0x318, 0x31a, 0x31f, 0x400, 0x401,
   0x405, 0x40b, 0x40e, 0x40f, 0x500, 0x501, 0x504, 0x623, 0x640, 0x641, 0x642, 0x643, 0x644, 0x645, 0x646, 0x647,
   0x648, 0x649, 0x64a, 0x64b, 0x64c, 0x64d, 0x64e, 0x64f, 0x650, 0x651, 0x652, 0x653, 0x654, 0x655, 0x656, 0x657,
   0x658, 0x659, 0x65a, 0x65b, 0x65c, 0x65d, 0x65e, 0x65f, 0x700, 0x701, 0x70c, 0x70d, 0x70e, 0x70f, 0x801, 0x804,
   0x806, 0x807, 0x811, 0x900, 0x901, 0x90b, 0x910, 0x911, 0xa00, 0xa01, 0xa05, 0xa16, 0xa17, 0xa28, 0xa29, 0xa2a,
   0xa2b, 0xa31, 0xa32, 0xa33, 0xa34, 0xb00, 0xb01, 0xb02, 0xb12, 0xb18, 0xc00, 0xc01, 0xc06, 0xc20, 0xc21, 0xc25,
   0xc30, 0xc34, 0xd18, 0xe00, 0xe01, 0xe14, 0x1000, 0x1001, 0x100c, 0x100d, 0x100e, 0x100f, 0x1010, 0x1400, 0x1402,
   0x1403, 0x1404, 0x1405, 0x1406, 0x1407, 0x1408, 0x1409, 0x140a, 0x140b, 0x140c, 0x140d, 0x140f, 0x1410, 0x1411,
   0x1412, 0x1413, 0x1414, 0x1415, 0x1416, 0x1417, 0x1418, 0x1430]

theorem execBuniliaReset_touch {W0 : List Nat} {s0 s : State} (h0 : Touch W0 s0 s) (hW : Sub execBuniliaReset_cells W0) (b : Bun) (target : Nat) :
    TouchOut W0 s0 (execBuniliaReset b target s) := by
  have c_State_bunilia : Sub State.bunilia_cells W0 := Sub.trans (Sub.of rfl) hW
  unfold execBuniliaReset
  repeat' first
    | with_reducible assumption
    | with_reducible refine TouchOut.next ?_
    | with_reducible refine State.bunilia_touch ?_ c_State_bunilia _ _ _

def execBuniliaShip_cells : List Nat :=
  [0x2, 0x3, 0x6, 0xa, 0x100, 0x101, 0x114, 0x200, 0x300, 0x301, 0x305, 0x30a, 0x318, 0x31a, 0x31f, 0x400, 0x401,
   0x405, 0x40b, 0x40e, 0x40f, 0x500, 0x501, 0x504, 0x623, 0x640, 0x641, 0x642, 0x643, 0x644, 0x645, 0x646, 0x647,
   0x648, 0x649, 0x64a, 0x64b, 0x64c, 0x64d, 0x64e, 0x64f, 0x650, 0x651, 0x652, 0x653, 0x654, 0x655, 0x656, 0x657,
   0x658, 0x659, 0x65a, 0x65b, 0x65c, 0x65d, 0x65e, 0x65f, 0x700, 0x701, 0x70c, 0x70d, 0x70e, 0x70f, 0x801, 0x804,
   0x806, 0x807, 0x811, 0x900, 0x901, 0x90b, 0x910, 0x911, 0xa00, 0xa01, 0xa05, 0xa16, 0xa17, 0xa28, 0xa29, 0xa2a,
   0xa2b, 0xa31, 0xa32, 0xa33, 0xa34, 0xb00, 0xb01, 0xb02, 0xb12, 0xb18, 0xc00, 0xc01, 0xc06, 0xc20, 0xc21, 0xc25,
   0xc30, 0xc34, 0xd18, 0xe00, 0xe01, 0xe14, 0x1000, 0x1001, 0x100c, 0x100d, 0x100e, 0x100f, 0x1010, 0x1400, 0x1402,
   0x1403, 0x1404, 0x1405, 0x1406, 0x1407, 0x1408, 0x1409, 0x140a, 0x140b, 0x140c, 0x140d, 0x140f, 0x1410, 0x1411,
   0x1412, 0x1413, 0x1414, 0x1415, 0x1416, 0x1417, 0x1418, 0x1430]

theorem execBuniliaShip_touch {W0 : List Nat} {s0 s : State} (h0 : Touch W0 s0 s) (hW : Sub execBuniliaShip_cells W0) (b : Bun) :
    TouchOut W0 s0 (execBuniliaShip b s) := by
  have c_State_bunilia : Sub State.bunilia_cells W0 := Sub.trans (Sub.of rfl) hW
  unfold execBuniliaShip
  repeat' first
    | with_reducible assumption
    | with_reducible refine TouchOut.next ?_
    | with_reducible refine State.bunilia_touch ?_ c_State_bunilia _ _ _

def execCellNew_cells : List Nat :=
  [0x2, 0x3, 0x6, 0xa, 0x100, 0x101, 0x114, 0x200, 0x300, 0x301, 0x305, 0x30a, 0x318, 0x31a, 0x31f, 0x400, 0x401,
   0x405, 0x40b, 0x40e, 0x40f, 0x500, 0x501, 0x504, 0x623, 0x640, 0x641, 0x642, 0x643, 0x644, 0x645, 0x646, 0x647,
   0x648, 0x649, 0x64a, 0x64b, 0x64c, 0x64d, 0x64e, 0x64f, 0x650, 0x651, 0x652, 0x653, 0x654, 0x655, 0x656, 0x657,
   0x658, 0x659, 0x65a, 0x65b, 0x65c, 0x65d, 0x65e, 0x65f, 0x700, 0x701, 0x70c, 0x70d, 0x70e, 0x70f, 0x801, 0x804,
   0x806, 0x807, 0x811, 0x900, 0x901, 0x90b, 0x910, 0x911, 0xa00, 0xa01, 0xa05, 0xa16, 0xa17, 0xa28, 0xa29, 0xa2a,
   0xa2b, 0xa31, 0xa32, 0xa33, 0xa34, 0xb00, 0xb01, 0xb02, 0xb12, 0xb18, 0xc00, 0xc01, 0xc06, 0xc20, 0xc21, 0xc25,
   0xc30, 0xc34, 0xd18, 0xe00, 0xe01, 0xe14, 0x1000, 0x1001, 0x100c, 0x100d, 0x100e, 0x100f, 0x1010, 0x1400, 0x1402,
   0x1403, 0x1404, 0x1405, 0x1406, 0x1407, 0x1408, 0x1409, 0x140a, 0x140b, 0x140c, 0x140d, 0x140f, 0x1410, 0x1411,
   0x1412, 0x1413, 0x1414, 0x1415, 0x1416, 0x1417, 0x1418, 0x1430]

theorem execCellNew_touch {W0 : List Nat} {s0 s : State} (h0 : Touch W0 s0 s) (hW : Sub execCellNew_cells W0) (b : Bun) :
    TouchOut W0 s0 (execCellNew b s) := by
  have c_State_bunilia : Sub State.bunilia_cells W0 := Sub.trans (Sub.of rfl) hW
  unfold execCellNew
  repeat' first
    | with_reducible assumption
    | with_reducible refine TouchOut.next ?_
    | with_reducible refine State.bunilia_touch ?_ c_State_bunilia _ _ _

def execProofReq_cells : List Nat :=
  [0x2, 0x3, 0x6, 0xa, 0x100, 0x101, 0x114, 0x200, 0x300, 0x301, 0x305, 0x30a, 0x318, 0x31a, 0x31f, 0x400, 0x401,
   0x405, 0x40b, 0x40e, 0x40f, 0x500, 0x501, 0x504, 0x623, 0x640, 0x641, 0x642, 0x643, 0x644, 0x645, 0x646, 0x647,
   0x648, 0x649, 0x64a, 0x64b, 0x64c, 0x64d, 0x64e, 0x64f, 0x650, 0x651, 0x652, 0x653, 0x654, 0x655, 0x656, 0x657,
   0x658, 0x659, 0x65a, 0x65b, 0x65c, 0x65d, 0x65e, 0x65f, 0x700, 0x701, 0x70c, 0x70d, 0x70e, 0x70f, 0x801, 0x804,
   0x806, 0x807, 0x811, 0x900, 0x901, 0x90b, 0x910, 0x911, 0xa00, 0xa01, 0xa05, 0xa16, 0xa17, 0xa28, 0xa29, 0xa2a,
   0xa2b, 0xa31, 0xa32, 0xa33, 0xa34, 0xb00, 0xb01, 0xb02, 0xb12, 0xb18, 0xc00, 0xc01, 0xc06, 0xc20, 0xc21, 0xc25,
   0xc30, 0xc34, 0xd18, 0xe00, 0xe01, 0xe14, 0x1000, 0x1001, 0x100c, 0x100d, 0x100e, 0x100f, 0x1010, 0x1400, 0x1402,
   0x1403, 0x1404, 0x1405, 0x1406, 0x1407, 0x1408, 0x1409, 0x140a, 0x140b, 0x140c, 0x140d, 0x140f, 0x1410, 0x1411,
   0x1412, 0x1413, 0x1414, 0x1415, 0x1416, 0x1417, 0x1418, 0x1430]

theorem execProofReq_touch {W0 : List Nat} {s0 s : State} (h0 : Touch W0 s0 s) (hW : Sub execProofReq_cells W0) (b : Bun) :
    TouchOut W0 s0 (execProofReq b s) := by
  have c_State_bunilia : Sub State.bunilia_cells W0 := Sub.trans (Sub.of rfl) hW
  unfold execProofReq
  repeat' first
    | with_reducible assumption
    | with_reducible refine TouchOut.next ?_
    | with_reducible refine State.bunilia_touch ?_ c_State_bunilia _ _ _

def execBuniliaUnknown_cells : List Nat :=
  [0x2, 0x3, 0x6, 0xa, 0x100, 0x101, 0x114, 0x200, 0x300, 0x301, 0x305, 0x30a, 0x318, 0x31a, 0x31f, 0x400, 0x401,
   0x405, 0x40b, 0x40e, 0x40f, 0x500, 0x501, 0x504, 0x623, 0x640, 0x641, 0x642, 0x643, 0x644, 0x645, 0x646, 0x647,
   0x648, 0x649, 0x64a, 0x64b, 0x64c, 0x64d, 0x64e, 0x64f, 0x650, 0x651, 0x652, 0x653, 0x654, 0x655, 0x656, 0x657,
   0x658, 0x659, 0x65a, 0x65b, 0x65c, 0x65d, 0x65e, 0x65f, 0x700, 0x701, 0x70c, 0x70d, 0x70e, 0x70f, 0x801, 0x804,
   0x806, 0x807, 0x811, 0x900, 0x901, 0x90b, 0x910, 0x911, 0xa00, 0xa01, 0xa05, 0xa16, 0xa17, 0xa28, 0xa29, 0xa2a,
   0xa2b, 0xa31, 0xa32, 0xa33, 0xa34, 0xb00, 0xb01, 0xb02, 0xb12, 0xb18, 0xc00, 0xc01, 0xc06, 0xc20, 0xc21, 0xc25,
   0xc30, 0xc34, 0xd18, 0xe00, 0xe01, 0xe14, 0x1000, 0x1001, 0x100c, 0x100d, 0x100e, 0x100f, 0x1010, 0x1400, 0x1402,
   0x1403, 0x1404, 0x1405, 0x1406, 0x1407, 0x1408, 0x1409, 0x140a, 0x140b, 0x140c, 0x140d, 0x140f, 0x1410, 0x1411,
   0x1412, 0x1413, 0x1414, 0x1415, 0x1416, 0x1417, 0x1418, 0x1430]

theorem execBuniliaUnknown_touch {W0 : List Nat} {s0 s : State} (h0 : Touch W0 s0 s) (hW : Sub execBuniliaUnknown_cells W0) (b : Bun) (code : Nat) :
    TouchOut W0 s0 (execBuniliaUnknown b code s) := by
  have c_State_bunilia : Sub State.bunilia_cells W0 := Sub.trans (Sub.of rfl) hW
  unfold execBuniliaUnknown
  repeat' first
    | with_reducible assumption
    | with_reducible refine TouchOut.next ?_
    | with_reducible refine State.bunilia_touch ?_ c_State_bunilia _ _ _
    | with_reducible refine State.when_touch ?_ _ _ ?_
    | with_reducible intro _ _

def State.badEcho_cells : List Nat :=
  [0x1402]

theorem State.badEcho_touch {W0 : List Nat} {s0 s : State} (h0 : Touch W0 s0 s) (hW : Sub State.badEcho_cells W0) (t : Transport) (l : List Byte) :
    Touch W0 s0 (State.badEcho s t l).2 := by
  have c_State_fresh : Sub State.fresh_cells W0 := Sub.trans (Sub.of rfl) hW
  unfold State.badEcho
  repeat' first
    | with_reducible assumption
    | (extract_lets +onlyGivenNames xx; (try clear_value xx); revert xx; intro _)
    | with_reducible refine State.fresh_touch ?_ c_State_fresh

theorem State.badEcho_touch_eq {W0 : List Nat} {s0 s : State} {u0 : QueuedCmd} {sOut : State} (h0 : Touch W0 s0 s) (hW : Sub State.badEcho_cells W0) (t : Transport) (l : List Byte)
    (e : (State.badEcho s t l) = (u0, sOut)) : Touch W0 s0 sOut := by
  have := State.badEcho_touch h0 hW t l
  rwa [e] at this

def execBuniliaBadframe_cells : List Nat :=
  [0xb00, 0xb18, 0xc00, 0xc01, 0xc20, 0xc21, 0xc25, 0x1402, 0x1413, 0x1414, 0x1415]

theorem execBuniliaBadframe_touch {W0 : List Nat} {s0 s : State} (h0 : Touch W0 s0 s) (hW : Sub execBuniliaBadframe_cells W0) (t : Transport) (l : List Byte) :
    TouchOut W0 s0 (execBuniliaBadframe t l s) := by
  have c_State_frameTaken : Sub State.frameTaken_cells W0 := Sub.trans (Sub.of rfl) hW
  have c_State_badEcho : Sub State.badEcho_cells W0 := Sub.trans (Sub.of rfl) hW
  have c_State_bunAnswer : Sub State.bunAnswer_cells W0 := Sub.trans (Sub.of rfl) hW
  unfold execBuniliaBadframe
  repeat' first
    | with_reducible assumption
    | with_reducible refine TouchOut.next ?_
    | (extract_lets +onlyGivenNames xx; guard_hyp xx : State := _; refine Touch.cut (x := xx) ?_ ?_; (on_goal 2 => (intro hh; (try clear_value xx); revert xx; intro _ _)); any_goals (revert xx; intro _))
    | with_reducible refine State.frameTaken_touch ?_ c_State_frameTaken _
    | with_reducible refine State.badEcho_touch ?_ c_State_badEcho _ _
    | with_reducible refine State.bunAnswer_touch ?_ c_State_bunAnswer _ _ _
    | with_reducible refine State.when_touch ?_ _ _ ?_
    | with_reducible refine Touch.ite ?_ ?_
    | with_reducible intro _ _

def execSessionTimeout_cells : List Nat :=
  [0x2, 0x6, 0xa01, 0xa32, 0xc30, 0xc34, 0x1405, 0x140c, 0x140f, 0x1413, 0x1418]

theorem execSessionTimeout_touch {W0 : List Nat} {s0 s : State} (h0 : Touch W0 s0 s) (hW : Sub execSessionTimeout_cells W0) :
    TouchOut W0 s0 (execSessionTimeout s) := by
  have c_State_svcClose : Sub State.svcClose_cells W0 := Sub.trans (Sub.of rfl) hW
  unfold execSessionTimeout
  repeat' first
    | with_reducible assumption
    | with_reducible refine TouchOut.next ?_
    | with_reducible refine State.svcClose_touch ?_ c_State_svcClose _
    | with_reducible refine State.when_touch ?_ _ _ ?_
    | with_reducible intro _ _

def State.floorRaise_cells : List Nat :=
  [0xa00, 0xa01, 0xa32, 0xa33, 0xa34, 0x140f, 0x1413, 0x1417]

theorem State.floorRaise_touch {W0 : List Nat} {s0 s : State} (h0 : Touch W0 s0 s) (hW : Sub State.floorRaise_cells W0) (x : AB) (v : Verify) :
    Touch W0 s0 (State.floorRaise s x v) := by
  have c_State_storeBoot : Sub State.storeBoot_cells W0 := Sub.trans (Sub.of rfl) hW
  have c_State_verified : Sub State.verified_cells W0 := Sub.trans (Sub.of rfl) hW
  have c_State_post : Sub State.post_cells W0 := Sub.trans (Sub.of rfl) hW
  have w1413 : 0x1413 ∈ W0 := hW.mem rfl
  unfold State.floorRaise
  repeat' first
    | with_reducible assumption
    | (extract_lets +onlyGivenNames xx; guard_hyp xx : State := _; refine Touch.cut (x := xx) ?_ ?_; (on_goal 2 => (intro hh; (try clear_value xx); revert xx; intro _ _)); any_goals (revert xx; intro _))
    | (extract_lets +onlyGivenNames xx; (try clear_value xx); revert xx; intro _)
    | with_reducible refine State.storeBoot_touch ?_ c_State_storeBoot _ _
    | with_reducible refine State.verified_touch ?_ c_State_verified _ _ _
    | with_reducible refine State.post_touch ?_ c_State_post _ _
    | with_reducible refine Touch.update ?_

def execFloorRaise_cells : List Nat :=
  [0xa00, 0xa01, 0xa32, 0xa33, 0xa34, 0x140f, 0x1413, 0x1417]

theorem execFloorRaise_touch {W0 : List Nat} {s0 s : State} (h0 : Touch W0 s0 s) (hW : Sub execFloorRaise_cells W0) (v : Verify) :
    TouchOut W0 s0 (execFloorRaise v s) := by
  have c_State_floorRaise : Sub State.floorRaise_cells W0 := Sub.trans (Sub.of rfl) hW
  unfold execFloorRaise
  repeat' first
    | with_reducible assumption
    | with_reducible refine TouchOut.next ?_
    | with_reducible refine State.floorRaise_touch ?_ c_State_floorRaise _ _
    | with_reducible refine State.whenLive_touch ?_ _ ?_
    | with_reducible refine Touch.ite ?_ ?_
    | with_reducible intro _ _
    | split

end Sys2Proof.Machine
end

