-- ==== Sys2Proof/Laws/TouchConv.lean ====
section
/-!
SUPPORT. What each operation of Machine/Conv.lean can do: the registers and parts of the state it may write, and nothing
else; the unit, its queue and the form of its stores are kept.
-/

-- proofs are elaborated one after another: many at once ask for more threads than a memory limit allows
set_option Elab.async false

set_option linter.unusedTactic false
set_option linter.unusedVariables false
set_option linter.unusedSimpArgs false
set_option linter.unreachableTactic false
set_option linter.tactic.unusedName false

namespace Sys2Proof.Machine

def execVauxUndervoltage_cells : List Nat :=
  [0x400, 0x401, 0x700, 0x1404, 0x1406, 0x1408]

theorem execVauxUndervoltage_touch {W0 : List Nat} {s0 s : State} (h0 : Touch W0 s0 s) (hW : Sub execVauxUndervoltage_cells W0) (vaux : Nat) :
    TouchOut W0 s0 (execVauxUndervoltage vaux s) := by
  have c_State_vauxLow : Sub State.vauxLow_cells W0 := Sub.trans (Sub.of rfl) hW
  unfold execVauxUndervoltage
  repeat' first
    | with_reducible assumption
    | with_reducible refine TouchOut.next ?_
    | with_reducible refine State.vauxLow_touch ?_ c_State_vauxLow
    | with_reducible refine State.when_touch ?_ _ _ ?_
    | with_reducible intro _ _

def execNrstoRelease_cells : List Nat :=
  [0x400, 0x700, 0x1404, 0x1406, 0x1408, 0x1410]

theorem execNrstoRelease_touch {W0 : List Nat} {s0 s : State} (h0 : Touch W0 s0 s) (hW : Sub execNrstoRelease_cells W0) (vaux : Nat) :
    TouchOut W0 s0 (execNrstoRelease vaux s) := by
  have c_State_nrstRelease : Sub State.nrstRelease_cells W0 := Sub.trans (Sub.of rfl) hW
  unfold execNrstoRelease
  repeat' first
    | with_reducible assumption
    | with_reducible refine TouchOut.next ?_
    | with_reducible refine State.nrstRelease_touch ?_ c_State_nrstRelease
    | with_reducible refine State.when_touch ?_ _ _ ?_
    | with_reducible intro _ _

def execMainRegionChange_cells : List Nat :=
  [0x211, 0x400]

theorem execMainRegionChange_touch {W0 : List Nat} {s0 s : State} (h0 : Touch W0 s0 s) (hW : Sub execMainRegionChange_cells W0) (vmux : Nat) :
    TouchOut W0 s0 (execMainRegionChange vmux s) := by
  have c_State_setVmux : Sub State.setVmux_cells W0 := Sub.trans (Sub.of rfl) hW
  have w400 : Writes W0 R.CONV_STATUS := Or.inl (hW.mem rfl)
  unfold execMainRegionChange
  repeat' first
    | with_reducible assumption
    | with_reducible refine TouchOut.next ?_
    | with_reducible refine State.setVmux_touch ?_ c_State_setVmux _
    | with_reducible refine State.setField_touch ?_ _ _ ?_
    | with_reducible refine State.when_touch ?_ _ _ ?_
    | with_reducible intro _ _

def execTetModeChange_cells : List Nat :=
  [0x2, 0x6, 0x100, 0x200, 0x300, 0x301, 0x31f, 0x400, 0x401, 0x40e, 0x40f, 0xa01, 0xa32, 0x1408, 0x1409, 0x140f]

theorem execTetModeChange_touch {W0 : List Nat} {s0 s : State} (h0 : Touch W0 s0 s) (hW : Sub execTetModeChange_cells W0) :
    TouchOut W0 s0 (execTetModeChange s) := by
  have c_State_tetMove : Sub State.tetMove_cells W0 := Sub.trans (Sub.of rfl) hW
  unfold execTetModeChange
  repeat' first
    | with_reducible assumption
    | with_reducible refine TouchOut.next ?_
    | with_reducible refine State.tetMove_touch ?_ c_State_tetMove
    | with_reducible refine State.whenLive_touch ?_ _ ?_
    | with_reducible intro _ _

def execTetSourceFoldback_cells : List Nat :=
  [0x110, 0x111, 0x112, 0x113, 0x400, 0x401, 0x40e, 0x1408]

theorem execTetSourceFoldback_touch {W0 : List Nat} {s0 s : State} (h0 : Touch W0 s0 s) (hW : Sub execTetSourceFoldback_cells W0) (vtet : Nat) :
    TouchOut W0 s0 (execTetSourceFoldback vtet s) := by
  have c_State_setVolt : Sub State.setVolt_cells W0 := Sub.trans (Sub.of rfl) hW
  have c_State_tetHold : Sub State.tetHold_cells W0 := Sub.trans (Sub.of rfl) hW
  have w401 : Writes W0 R.CONV_EVENT := Or.inl (hW.mem rfl)
  have w1408 : 0x1408 ∈ W0 := hW.mem rfl
  unfold execTetSourceFoldback
  repeat' first
    | with_reducible assumption
    | with_reducible refine TouchOut.next ?_
    | (extract_lets +onlyGivenNames xx; guard_hyp xx : State := _; refine Touch.cut (x := xx) ?_ ?_; (on_goal 2 => (intro hh; (try clear_value xx); revert xx; intro _ _)); any_goals (revert xx; intro _))
    | (extract_lets +onlyGivenNames xx; (try clear_value xx); revert xx; intro _)
    | with_reducible refine State.setVolt_touch ?_ c_State_setVolt _ _
    | with_reducible refine State.tetHold_touch ?_ c_State_tetHold
    | with_reducible refine State.event_touch ?_ _ ?_
    | with_reducible refine State.when_touch ?_ _ _ ?_
    | with_reducible intro _ _
    | with_reducible refine Touch.update ?_

def execTetShort_cells : List Nat :=
  [0x2, 0x6, 0x100, 0x110, 0x111, 0x112, 0x113, 0x200, 0x300, 0x301, 0x31f, 0x400, 0x401, 0x40e, 0x40f, 0xa01, 0xa32,
   0x1408, 0x1409, 0x140f]

theorem execTetShort_touch {W0 : List Nat} {s0 s : State} (h0 : Touch W0 s0 s) (hW : Sub execTetShort_cells W0) (vtet : Nat) (ma : Nat) :
    TouchOut W0 s0 (execTetShort vtet ma s) := by
  have c_State_setVolt : Sub State.setVolt_cells W0 := Sub.trans (Sub.of rfl) hW
  have c_State_coalesce : Sub State.coalesce_cells W0 := Sub.trans (Sub.of rfl) hW
  have c_State_post : Sub State.post_cells W0 := Sub.trans (Sub.of rfl) hW
  have c_State_tetMove : Sub State.tetMove_cells W0 := Sub.trans (Sub.of rfl) hW
  have w401 : Writes W0 R.CONV_EVENT := Or.inl (hW.mem rfl)
  have w1408 : 0x1408 ∈ W0 := hW.mem rfl
  unfold execTetShort
  repeat' first
    | with_reducible assumption
    | with_reducible refine TouchOut.next ?_
    | (extract_lets +onlyGivenNames xx; guard_hyp xx : State := _; refine Touch.cut (x := xx) ?_ ?_; (on_goal 2 => (intro hh; (try clear_value xx); revert xx; intro _ _)); any_goals (revert xx; intro _))
    | (extract_lets +onlyGivenNames xx; (try clear_value xx); revert xx; intro _)
    | with_reducible refine State.setVolt_touch ?_ c_State_setVolt _ _
    | with_reducible refine State.coalesce_touch ?_ c_State_coalesce _
    | with_reducible refine State.post_touch ?_ c_State_post _ _
    | with_reducible refine State.tetMove_touch ?_ c_State_tetMove
    | with_reducible refine State.event_touch ?_ _ ?_
    | with_reducible refine State.when_touch ?_ _ _ ?_
    | with_reducible refine Touch.ite ?_ ?_
    | with_reducible intro _ _
    | with_reducible refine Touch.update ?_

def execTetSourceRetry_cells : List Nat :=
  [0x2, 0x6, 0x100, 0x200, 0x300, 0x301, 0x31f, 0x400, 0x401, 0x40e, 0x40f, 0xa01, 0xa32, 0x1408, 0x1409, 0x140f]

theorem execTetSourceRetry_touch {W0 : List Nat} {s0 s : State} (h0 : Touch W0 s0 s) (hW : Sub execTetSourceRetry_cells W0) :
    TouchOut W0 s0 (execTetSourceRetry s) := by
  have c_State_tetMove : Sub State.tetMove_cells W0 := Sub.trans (Sub.of rfl) hW
  have w1408 : 0x1408 ∈ W0 := hW.mem rfl
  unfold execTetSourceRetry
  repeat' first
    | with_reducible assumption
    | with_reducible refine TouchOut.next ?_
    | (extract_lets +onlyGivenNames xx; (try clear_value xx); revert xx; intro _)
    | with_reducible refine State.tetMove_touch ?_ c_State_tetMove
    | with_reducible refine State.when_touch ?_ _ _ ?_
    | with_reducible intro _ _
    | with_reducible refine Touch.update ?_

def execHswOcp_cells : List Nat :=
  [0x401, 0x700, 0xa01, 0xa32, 0x1406, 0x1408, 0x140f]

theorem execHswOcp_touch {W0 : List Nat} {s0 s : State} (h0 : Touch W0 s0 s) (hW : Sub execHswOcp_cells W0) (vhorn : Nat) (ma : Nat) :
    TouchOut W0 s0 (execHswOcp vhorn ma s) := by
  have c_State_coalesce : Sub State.coalesce_cells W0 := Sub.trans (Sub.of rfl) hW
  have c_State_post : Sub State.post_cells W0 := Sub.trans (Sub.of rfl) hW
  have c_State_refreshHsw : Sub State.refreshHsw_cells W0 := Sub.trans (Sub.of rfl) hW
  have w401 : Writes W0 R.CONV_EVENT := Or.inl (hW.mem rfl)
  have w1406 : 0x1406 ∈ W0 := hW.mem rfl
  have w1408 : 0x1408 ∈ W0 := hW.mem rfl
  unfold execHswOcp
  repeat' first
    | with_reducible assumption
    | with_reducible refine TouchOut.next ?_
    | (extract_lets +onlyGivenNames xx; guard_hyp xx : State := _; refine Touch.cut (x := xx) ?_ ?_; (on_goal 2 => (intro hh; (try clear_value xx); revert xx; intro _ _)); any_goals (revert xx; intro _))
    | (extract_lets +onlyGivenNames xx; (try clear_value xx); revert xx; intro _)
    | with_reducible refine State.coalesce_touch ?_ c_State_coalesce _
    | with_reducible refine State.post_touch ?_ c_State_post _ _
    | with_reducible refine State.refreshHsw_touch ?_ c_State_refreshHsw
    | with_reducible refine State.event_touch ?_ _ ?_
    | with_reducible refine State.when_touch ?_ _ _ ?_
    | with_reducible refine Touch.ite ?_ ?_
    | with_reducible intro _ _
    | with_reducible refine Touch.update ?_

def execHswReclose_cells : List Nat :=
  [0x700, 0x1406]

theorem execHswReclose_touch {W0 : List Nat} {s0 s : State} (h0 : Touch W0 s0 s) (hW : Sub execHswReclose_cells W0) :
    TouchOut W0 s0 (execHswReclose s) := by
  have c_State_refreshHsw : Sub State.refreshHsw_cells W0 := Sub.trans (Sub.of rfl) hW
  have w1406 : 0x1406 ∈ W0 := hW.mem rfl
  unfold execHswReclose
  repeat' first
    | with_reducible assumption
    | with_reducible refine TouchOut.next ?_
    | (extract_lets +onlyGivenNames xx; (try clear_value xx); revert xx; intro _)
    | with_reducible refine State.refreshHsw_touch ?_ c_State_refreshHsw
    | with_reducible refine State.when_touch ?_ _ _ ?_
    | with_reducible intro _ _
    | with_reducible refine Touch.update ?_

def execAuxShort_cells : List Nat :=
  [0x400, 0x401, 0x700, 0xa01, 0xa32, 0x1404, 0x1406, 0x1408, 0x140f]

theorem execAuxShort_touch {W0 : List Nat} {s0 s : State} (h0 : Touch W0 s0 s) (hW : Sub execAuxShort_cells W0) (vaux : Nat) :
    TouchOut W0 s0 (execAuxShort vaux s) := by
  have c_State_vauxLow : Sub State.vauxLow_cells W0 := Sub.trans (Sub.of rfl) hW
  have c_State_coalesce : Sub State.coalesce_cells W0 := Sub.trans (Sub.of rfl) hW
  have c_State_post : Sub State.post_cells W0 := Sub.trans (Sub.of rfl) hW
  have w401 : Writes W0 R.CONV_EVENT := Or.inl (hW.mem rfl)
  have w1408 : 0x1408 ∈ W0 := hW.mem rfl
  unfold execAuxShort
  repeat' first
    | with_reducible assumption
    | with_reducible refine TouchOut.next ?_
    | (extract_lets +onlyGivenNames xx; guard_hyp xx : State := _; refine Touch.cut (x := xx) ?_ ?_; (on_goal 2 => (intro hh; (try clear_value xx); revert xx; intro _ _)); any_goals (revert xx; intro _))
    | (extract_lets +onlyGivenNames xx; (try clear_value xx); revert xx; intro _)
    | with_reducible refine State.vauxLow_touch ?_ c_State_vauxLow
    | with_reducible refine State.coalesce_touch ?_ c_State_coalesce _
    | with_reducible refine State.post_touch ?_ c_State_post _ _
    | with_reducible refine State.event_touch ?_ _ ?_
    | with_reducible refine State.when_touch ?_ _ _ ?_
    | with_reducible refine Touch.ite ?_ ?_
    | with_reducible intro _ _
    | with_reducible refine Touch.update ?_

def execAuxRestart_cells : List Nat :=
  [0x1408]

theorem execAuxRestart_touch {W0 : List Nat} {s0 s : State} (h0 : Touch W0 s0 s) (hW : Sub execAuxRestart_cells W0) :
    TouchOut W0 s0 (execAuxRestart s) := by
  have w1408 : 0x1408 ∈ W0 := hW.mem rfl
  unfold execAuxRestart
  repeat' first
    | with_reducible assumption
    | with_reducible refine TouchOut.next ?_
    | (extract_lets +onlyGivenNames xx; (try clear_value xx); revert xx; intro _)
    | with_reducible refine State.when_touch ?_ _ _ ?_
    | with_reducible intro _ _
    | with_reducible refine Touch.update ?_

def execVauxOff_cells : List Nat :=
  [0x210, 0x400, 0x401, 0x700, 0x1404, 0x1406, 0x1408]

theorem execVauxOff_touch {W0 : List Nat} {s0 s : State} (h0 : Touch W0 s0 s) (hW : Sub execVauxOff_cells W0) (vsys : Nat) :
    TouchOut W0 s0 (execVauxOff vsys s) := by
  have c_State_vauxLow : Sub State.vauxLow_cells W0 := Sub.trans (Sub.of rfl) hW
  have w210 : Writes W0 R.PATH_VSYS := Or.inl (hW.mem rfl)
  have w1408 : 0x1408 ∈ W0 := hW.mem rfl
  unfold execVauxOff
  repeat' first
    | with_reducible assumption
    | with_reducible refine TouchOut.next ?_
    | (extract_lets +onlyGivenNames xx; guard_hyp xx : State := _; refine Touch.cut (x := xx) ?_ ?_; (on_goal 2 => (intro hh; (try clear_value xx); revert xx; intro _ _)); any_goals (revert xx; intro _))
    | (extract_lets +onlyGivenNames xx; (try clear_value xx); revert xx; intro _)
    | with_reducible refine State.vauxLow_touch ?_ c_State_vauxLow
    | with_reducible refine State.setReg_touch ?_ _ _ ?_
    | with_reducible refine State.whenLive_touch ?_ _ ?_
    | with_reducible refine Touch.ite ?_ ?_
    | with_reducible intro _ _
    | with_reducible refine Touch.update ?_

def execKeepLatchClear_cells : List Nat :=
  [0x200, 0x401, 0x40c, 0x1408, 0x1409]

theorem execKeepLatchClear_touch {W0 : List Nat} {s0 s : State} (h0 : Touch W0 s0 s) (hW : Sub execKeepLatchClear_cells W0) (bat : Nat) :
    TouchOut W0 s0 (execKeepLatchClear bat s) := by
  have c_State_refreshBatfet : Sub State.refreshBatfet_cells W0 := Sub.trans (Sub.of rfl) hW
  have w401 : Writes W0 R.CONV_EVENT := Or.inl (hW.mem rfl)
  have w40c : Writes W0 R.CONV_KEEP := Or.inl (hW.mem rfl)
  have w1408 : 0x1408 ∈ W0 := hW.mem rfl
  have w1409 : 0x1409 ∈ W0 := hW.mem rfl
  unfold execKeepLatchClear
  repeat' first
    | with_reducible assumption
    | with_reducible refine TouchOut.next ?_
    | (extract_lets +onlyGivenNames xx; guard_hyp xx : State := _; refine Touch.cut (x := xx) ?_ ?_; (on_goal 2 => (intro hh; (try clear_value xx); revert xx; intro _ _)); any_goals (revert xx; intro _))
    | (extract_lets +onlyGivenNames xx; (try clear_value xx); revert xx; intro _)
    | with_reducible refine State.refreshBatfet_touch ?_ c_State_refreshBatfet
    | with_reducible refine State.event_touch ?_ _ ?_
    | with_reducible refine State.setReg_touch ?_ _ _ ?_
    | with_reducible refine State.when_touch ?_ _ _ ?_
    | with_reducible refine Touch.ite ?_ ?_
    | with_reducible intro _ _
    | with_reducible refine Touch.update ?_

def execVsysLadder_cells : List Nat :=
  [0x2, 0x6, 0x100, 0x200, 0x210, 0x300, 0x301, 0x31f, 0x400, 0x401, 0x40e, 0x40f, 0xa01, 0xa32, 0x1408, 0x1409,
   0x140f]

theorem execVsysLadder_touch {W0 : List Nat} {s0 s : State} (h0 : Touch W0 s0 s) (hW : Sub execVsysLadder_cells W0) (vsys : Nat) :
    TouchOut W0 s0 (execVsysLadder vsys s) := by
  have c_State_ladder : Sub State.ladder_cells W0 := Sub.trans (Sub.of rfl) hW
  have w210 : Writes W0 R.PATH_VSYS := Or.inl (hW.mem rfl)
  unfold execVsysLadder
  repeat' first
    | with_reducible assumption
    | with_reducible refine TouchOut.next ?_
    | with_reducible refine State.ladder_touch ?_ c_State_ladder _
    | with_reducible refine State.setReg_touch ?_ _ _ ?_
    | with_reducible refine State.whenLive_touch ?_ _ ?_
    | with_reducible intro _ _

end Sys2Proof.Machine
end

