-- ==== Sys2Proof/Laws/TouchHeat.lean ====
section
/-!
SUPPORT. What each operation of Machine/Heat.lean can do: the registers and parts of the state it may write, and nothing
else; the unit, its queue and the form of its stores are kept.
-/

-- proofs are elaborated one after another: many at once ask for more threads than a memory limit allows
set_option Elab.async false

set_option linter.unusedTactic false
set_option linter.unusedVariables false
set_option linter.unusedSimpArgs false
set_option linter.unreachableTactic false
set_option linter.tactic.unusedName false

namespace Sys2Proof.Machine

def State.takeCounts_cells : List Nat :=
  [0xf10, 0xf11, 0xf12, 0xf13, 0xf14, 0xf15, 0xf16, 0x140e]

theorem State.takeCounts_touch {W0 : List Nat} {s0 s : State} (h0 : Touch W0 s0 s) (hW : Sub State.takeCounts_cells W0) (l : List (Option Int)) :
    Touch W0 s0 (State.takeCounts s l) := by
  have wf10 : Writes W0 R.THM_DS0 := Or.inl (hW.mem rfl)
  have wf11 : Writes W0 R.THM_DS1 := Or.inl (hW.mem rfl)
  have wf12 : Writes W0 R.THM_DS2 := Or.inl (hW.mem rfl)
  have wf13 : Writes W0 R.THM_DS3 := Or.inl (hW.mem rfl)
  have wf14 : Writes W0 R.THM_DS4 := Or.inl (hW.mem rfl)
  have wf15 : Writes W0 R.THM_DS5 := Or.inl (hW.mem rfl)
  have wf16 : Writes W0 R.THM_DS6 := Or.inl (hW.mem rfl)
  have w140e : 0x140e ∈ W0 := hW.mem rfl
  unfold State.takeCounts
  repeat' first
    | with_reducible assumption
    | (extract_lets +onlyGivenNames xx; guard_hyp xx : State := _; refine Touch.cut (x := xx) ?_ ?_; (on_goal 2 => (intro hh; (try clear_value xx); revert xx; intro _ _)); any_goals (revert xx; intro _))
    | (extract_lets +onlyGivenNames xx; (try clear_value xx); revert xx; intro _)
    | (with_reducible intro k hk; (try simp only [List.length_cons, List.length_nil, List.length_map, List.length_range, List.length_replicate] at hk); interval_cases k)
    | with_reducible refine State.setRegs_touch _ _ _ ?_ ?_
    | with_reducible refine Touch.update ?_

def State.markOdd_cells : List Nat :=
  [0x140e]

theorem State.markOdd_touch {W0 : List Nat} {s0 s : State} (h0 : Touch W0 s0 s) (hW : Sub State.markOdd_cells W0) (quiet : Bool) :
    Touch W0 s0 (State.markOdd s quiet) := by
  have w140e : 0x140e ∈ W0 := hW.mem rfl
  unfold State.markOdd
  repeat' first
    | with_reducible assumption
    | (extract_lets +onlyGivenNames xx; (try clear_value xx); revert xx; intro _)
    | with_reducible refine Touch.update ?_

def State.dsBreak_cells : List Nat :=
  [0xa01, 0xa32, 0xf00, 0xf01, 0x140f]

theorem State.dsBreak_touch {W0 : List Nat} {s0 s : State} (h0 : Touch W0 s0 s) (hW : Sub State.dsBreak_cells W0) (i : Nat) :
    Touch W0 s0 (State.dsBreak s i) := by
  have c_State_post : Sub State.post_cells W0 := Sub.trans (Sub.of rfl) hW
  have wf00 : Writes W0 R.THM_STATUS := Or.inl (hW.mem rfl)
  have wf01 : Writes W0 R.THM_EVENT := Or.inl (hW.mem rfl)
  unfold State.dsBreak
  repeat' first
    | with_reducible assumption
    | (extract_lets +onlyGivenNames xx; guard_hyp xx : State := _; refine Touch.cut (x := xx) ?_ ?_; (on_goal 2 => (intro hh; (try clear_value xx); revert xx; intro _ _)); any_goals (revert xx; intro _))
    | (extract_lets +onlyGivenNames xx; (try clear_value xx); revert xx; intro _)
    | with_reducible refine State.post_touch ?_ c_State_post _ _
    | with_reducible refine State.event_touch ?_ _ ?_
    | with_reducible refine State.setFlag_touch ?_ _ _ ?_
    | with_reducible refine Touch.ite ?_ ?_

def State.setBand_cells : List Nat :=
  [0xa01, 0xa32, 0xf00, 0xf01, 0xf1b, 0x140f]

theorem State.setBand_touch {W0 : List Nat} {s0 s : State} (h0 : Touch W0 s0 s) (hW : Sub State.setBand_cells W0) (b : Nat) :
    Touch W0 s0 (State.setBand s b) := by
  have c_State_tally : Sub State.tally_cells W0 := Sub.trans (Sub.of rfl) hW
  have wf00 : Writes W0 R.THM_STATUS := Or.inl (hW.mem rfl)
  have wf01 : Writes W0 R.THM_EVENT := Or.inl (hW.mem rfl)
  have wf1b : Writes W0 R.THM_THRCNT := Or.inl (hW.mem rfl)
  unfold State.setBand
  repeat' first
    | with_reducible assumption
    | (extract_lets +onlyGivenNames xx; guard_hyp xx : State := _; refine Touch.cut (x := xx) ?_ ?_; (on_goal 2 => (intro hh; (try clear_value xx); revert xx; intro _ _)); any_goals (revert xx; intro _))
    | (extract_lets +onlyGivenNames xx; (try clear_value xx); revert xx; intro _)
    | with_reducible refine State.tally_touch ?_ c_State_tally _
    | with_reducible refine State.bump_touch ?_ _ _ ?_
    | with_reducible refine State.event_touch ?_ _ ?_
    | with_reducible refine State.setField_touch ?_ _ _ ?_
    | with_reducible refine Touch.ite ?_ ?_
    | split

def State.setFactor_cells : List Nat :=
  [0x200, 0x300, 0x31f, 0x400, 0x401, 0x40e, 0x40f, 0xa01, 0xa32, 0xf00, 0xf01, 0xf17, 0xf1b, 0x1408, 0x1409, 0x140f]

theorem State.setFactor_touch {W0 : List Nat} {s0 s : State} (h0 : Touch W0 s0 s) (hW : Sub State.setFactor_cells W0) (f : Nat) :
    Touch W0 s0 (State.setFactor s f) := by
  have c_State_setBand : Sub State.setBand_cells W0 := Sub.trans (Sub.of rfl) hW
  have c_State_refreshReduced : Sub State.refreshReduced_cells W0 := Sub.trans (Sub.of rfl) hW
  have c_State_refreshIbat : Sub State.refreshIbat_cells W0 := Sub.trans (Sub.of rfl) hW
  have c_State_refreshBatfet : Sub State.refreshBatfet_cells W0 := Sub.trans (Sub.of rfl) hW
  have c_State_tetHold : Sub State.tetHold_cells W0 := Sub.trans (Sub.of rfl) hW
  have c_State_refreshShed : Sub State.refreshShed_cells W0 := Sub.trans (Sub.of rfl) hW
  have wf17 : Writes W0 R.THM_FACTOR := Or.inl (hW.mem rfl)
  unfold State.setFactor
  repeat' first
    | with_reducible assumption
    | (extract_lets +onlyGivenNames xx; guard_hyp xx : State := _; refine Touch.cut (x := xx) ?_ ?_; (on_goal 2 => (intro hh; (try clear_value xx); revert xx; intro _ _)); any_goals (revert xx; intro _))
    | with_reducible refine State.setBand_touch ?_ c_State_setBand _
    | with_reducible refine State.refreshReduced_touch ?_ c_State_refreshReduced
    | with_reducible refine State.refreshIbat_touch ?_ c_State_refreshIbat
    | with_reducible refine State.refreshBatfet_touch ?_ c_State_refreshBatfet
    | with_reducible refine State.tetHold_touch ?_ c_State_tetHold
    | with_reducible refine State.refreshShed_touch ?_ c_State_refreshShed
    | with_reducible refine State.setField_touch ?_ _ _ ?_
    | with_reducible refine Touch.ite ?_ ?_

def State.showTm_cells : List Nat :=
  [0xf17, 0xf18, 0xf19, 0x140e]

theorem State.showTm_touch {W0 : List Nat} {s0 s : State} (h0 : Touch W0 s0 s) (hW : Sub State.showTm_cells W0) (first : Bool) :
    Touch W0 s0 (State.showTm s first) := by
  have wf17 : Writes W0 R.THM_FACTOR := Or.inl (hW.mem rfl)
  have wf18 : Writes W0 R.THM_TM := Or.inl (hW.mem rfl)
  have wf19 : Writes W0 R.THM_PEAK := Or.inl (hW.mem rfl)
  have w140e : 0x140e ∈ W0 := hW.mem rfl
  unfold State.showTm
  repeat' first
    | with_reducible assumption
    | (extract_lets +onlyGivenNames xx; guard_hyp xx : State := _; refine Touch.cut (x := xx) ?_ ?_; (on_goal 2 => (intro hh; (try clear_value xx); revert xx; intro _ _)); any_goals (revert xx; intro _))
    | (extract_lets +onlyGivenNames xx; (try clear_value xx); revert xx; intro _)
    | with_reducible refine State.setField_touch ?_ _ _ ?_
    | with_reducible refine State.setReg_touch ?_ _ _ ?_
    | with_reducible refine Touch.ite ?_ ?_
    | split
    | with_reducible refine Touch.update ?_

def State.railsFollow_cells : List Nat :=
  [0x400, 0x401, 0x40d, 0x40f, 0x700, 0xa01, 0xa32, 0x1404, 0x1406, 0x1408, 0x140e, 0x140f]

theorem State.railsFollow_touch {W0 : List Nat} {s0 s : State} (h0 : Touch W0 s0 s) (hW : Sub State.railsFollow_cells W0) :
    Touch W0 s0 (State.railsFollow s) := by
  have c_State_hornOff : Sub State.hornOff_cells W0 := Sub.trans (Sub.of rfl) hW
  have c_State_vauxLow : Sub State.vauxLow_cells W0 := Sub.trans (Sub.of rfl) hW
  have c_State_hornStart : Sub State.hornStart_cells W0 := Sub.trans (Sub.of rfl) hW
  have w140e : 0x140e ∈ W0 := hW.mem rfl
  unfold State.railsFollow
  repeat' first
    | with_reducible assumption
    | (extract_lets +onlyGivenNames xx; guard_hyp xx : State := _; refine Touch.cut (x := xx) ?_ ?_; (on_goal 2 => (intro hh; (try clear_value xx); revert xx; intro _ _)); any_goals (revert xx; intro _))
    | (extract_lets +onlyGivenNames xx; (try clear_value xx); revert xx; intro _)
    | with_reducible refine State.hornOff_touch ?_ c_State_hornOff
    | with_reducible refine State.vauxLow_touch ?_ c_State_vauxLow
    | with_reducible refine State.hornStart_touch ?_ c_State_hornStart
    | with_reducible refine Touch.ite ?_ ?_
    | split
    | with_reducible refine Touch.update ?_

def State.coolFollow_cells : List Nat :=
  [0x140e]

theorem State.coolFollow_touch {W0 : List Nat} {s0 s : State} (h0 : Touch W0 s0 s) (hW : Sub State.coolFollow_cells W0) :
    Touch W0 s0 (State.coolFollow s) := by
  have w140e : 0x140e ∈ W0 := hW.mem rfl
  unfold State.coolFollow
  repeat' first
    | with_reducible assumption
    | (extract_lets +onlyGivenNames xx; (try clear_value xx); revert xx; intro _)
    | split
    | with_reducible refine Touch.update ?_

def execThmReading_cells : List Nat :=
  [0x200, 0x300, 0x31f, 0x400, 0x401, 0x40d, 0x40e, 0x40f, 0x700, 0xa01, 0xa32, 0xf00, 0xf01, 0xf10, 0xf11, 0xf12,
   0xf13, 0xf14, 0xf15, 0xf16, 0xf17, 0xf18, 0xf19, 0xf1b, 0x1404, 0x1406, 0x1408, 0x1409, 0x140e, 0x140f]

theorem execThmReading_touch {W0 : List Nat} {s0 s : State} (h0 : Touch W0 s0 s) (hW : Sub execThmReading_cells W0) (l : List (Option Int)) :
    TouchOut W0 s0 (execThmReading l s) := by
  have c_State_takeCounts : Sub State.takeCounts_cells W0 := Sub.trans (Sub.of rfl) hW
  have c_State_markOdd : Sub State.markOdd_cells W0 := Sub.trans (Sub.of rfl) hW
  have c_State_dsBreak : Sub State.dsBreak_cells W0 := Sub.trans (Sub.of rfl) hW
  have c_State_showTm : Sub State.showTm_cells W0 := Sub.trans (Sub.of rfl) hW
  have c_State_setFactor : Sub State.setFactor_cells W0 := Sub.trans (Sub.of rfl) hW
  have c_State_railsFollow : Sub State.railsFollow_cells W0 := Sub.trans (Sub.of rfl) hW
  have c_State_coolFollow : Sub State.coolFollow_cells W0 := Sub.trans (Sub.of rfl) hW
  have w140e : 0x140e ∈ W0 := hW.mem rfl
  unfold execThmReading
  repeat' first
    | with_reducible assumption
    | with_reducible refine TouchOut.next ?_
    | (extract_lets +onlyGivenNames xx; guard_hyp xx : State := _; refine Touch.cut (x := xx) ?_ ?_; (on_goal 2 => (intro hh; (try clear_value xx); revert xx; intro _ _)); any_goals (revert xx; intro _))
    | (extract_lets +onlyGivenNames xx; (try clear_value xx); revert xx; intro _)
    | with_reducible refine State.takeCounts_touch ?_ c_State_takeCounts _
    | with_reducible refine State.markOdd_touch ?_ c_State_markOdd _
    | with_reducible refine State.dsBreak_touch ?_ c_State_dsBreak _
    | with_reducible refine State.showTm_touch ?_ c_State_showTm _
    | with_reducible refine State.setFactor_touch ?_ c_State_setFactor _
    | with_reducible refine State.railsFollow_touch ?_ c_State_railsFollow
    | with_reducible refine State.coolFollow_touch ?_ c_State_coolFollow
    | with_reducible refine State.whenLive_touch ?_ _ ?_
    | with_reducible refine Touch.foldl ?_ ?_
    | with_reducible refine Touch.ite ?_ ?_
    | with_reducible intro _ _
    | with_reducible intro _
    | with_reducible refine Touch.update ?_

def execThmFactorRise_cells : List Nat :=
  [0x200, 0x300, 0x31f, 0x400, 0x401, 0x40e, 0x40f, 0xa01, 0xa32, 0xf00, 0xf01, 0xf17, 0xf1b, 0x1408, 0x1409, 0x140e,
   0x140f]

theorem execThmFactorRise_touch {W0 : List Nat} {s0 s : State} (h0 : Touch W0 s0 s) (hW : Sub execThmFactorRise_cells W0) :
    TouchOut W0 s0 (execThmFactorRise s) := by
  have c_State_setFactor : Sub State.setFactor_cells W0 := Sub.trans (Sub.of rfl) hW
  have w140e : 0x140e ∈ W0 := hW.mem rfl
  unfold execThmFactorRise
  repeat' first
    | with_reducible assumption
    | with_reducible refine TouchOut.next ?_
    | (extract_lets +onlyGivenNames xx; guard_hyp xx : State := _; refine Touch.cut (x := xx) ?_ ?_; (on_goal 2 => (intro hh; (try clear_value xx); revert xx; intro _ _)); any_goals (revert xx; intro _))
    | (extract_lets +onlyGivenNames xx; (try clear_value xx); revert xx; intro _)
    | with_reducible refine State.setFactor_touch ?_ c_State_setFactor _
    | with_reducible refine State.when_touch ?_ _ _ ?_
    | with_reducible intro _ _
    | with_reducible refine Touch.update ?_

def State.heatStop_cells : List Nat :=
  [0x2, 0x6, 0x100, 0x114, 0x200, 0x300, 0x301, 0x318, 0x31f, 0x400, 0x401, 0x405, 0x40e, 0x40f, 0x801, 0x901, 0x90b,
   0xa01, 0xa32, 0xb01, 0xb02, 0xb12, 0xc20, 0xc21, 0xc25, 0xc30, 0xc34, 0xd18, 0xf00, 0xf01, 0xf1b, 0x1000, 0x1402,
   0x1403, 0x1404, 0x1405, 0x1407, 0x1408, 0x1409, 0x140b, 0x140c, 0x140d, 0x140f, 0x1410, 0x1411, 0x1412, 0x1413,
   0x1415, 0x1418, 0x1430]

theorem State.heatStop_touch {W0 : List Nat} {s0 s : State} (h0 : Touch W0 s0 s) (hW : Sub State.heatStop_cells W0) :
    Touch W0 s0 (State.heatStop s) := by
  have c_State_setBand : Sub State.setBand_cells W0 := Sub.trans (Sub.of rfl) hW
  have c_State_openSwitch : Sub State.openSwitch_cells W0 := Sub.trans (Sub.of rfl) hW
  have c_State_noTarget : Sub State.noTarget_cells W0 := Sub.trans (Sub.of rfl) hW
  have c_State_refreshPending : Sub State.refreshPending_cells W0 := Sub.trans (Sub.of rfl) hW
  have c_State_setTetMode : Sub State.setTetMode_cells W0 := Sub.trans (Sub.of rfl) hW
  have c_State_powerChanged : Sub State.powerChanged_cells W0 := Sub.trans (Sub.of rfl) hW
  have c_State_coreStop : Sub State.coreStop_cells W0 := Sub.trans (Sub.of rfl) hW
  have wf00 : Writes W0 R.THM_STATUS := Or.inl (hW.mem rfl)
  unfold State.heatStop
  repeat' first
    | with_reducible assumption
    | (extract_lets +onlyGivenNames xx; guard_hyp xx : State := _; refine Touch.cut (x := xx) ?_ ?_; (on_goal 2 => (intro hh; (try clear_value xx); revert xx; intro _ _)); any_goals (revert xx; intro _))
    | with_reducible refine State.setBand_touch ?_ c_State_setBand _
    | with_reducible refine State.openSwitch_touch ?_ c_State_openSwitch
    | with_reducible refine State.noTarget_touch ?_ c_State_noTarget
    | with_reducible refine State.refreshPending_touch ?_ c_State_refreshPending
    | with_reducible refine State.setTetMode_touch ?_ c_State_setTetMode _
    | with_reducible refine State.powerChanged_touch ?_ c_State_powerChanged
    | with_reducible refine State.coreStop_touch ?_ c_State_coreStop
    | with_reducible refine State.setFlag_touch ?_ _ _ ?_

def execThmShutdown_cells : List Nat :=
  [0x2, 0x6, 0x100, 0x114, 0x200, 0x300, 0x301, 0x318, 0x31f, 0x400, 0x401, 0x405, 0x40d, 0x40e, 0x40f, 0x700, 0x801,
   0x901, 0x90b, 0xa01, 0xa32, 0xb01, 0xb02, 0xb12, 0xc20, 0xc21, 0xc25, 0xc30, 0xc34, 0xd18, 0xf00, 0xf01, 0xf17,
   0xf18, 0xf19, 0xf1a, 0xf1b, 0x1000, 0x1402, 0x1403, 0x1404, 0x1405, 0x1406, 0x1407, 0x1408, 0x1409, 0x140b, 0x140c,
   0x140d, 0x140e, 0x140f, 0x1410, 0x1411, 0x1412, 0x1413, 0x1415, 0x1418, 0x1430]

theorem execThmShutdown_touch {W0 : List Nat} {s0 s : State} (h0 : Touch W0 s0 s) (hW : Sub execThmShutdown_cells W0) (i : Nat) (own : Int) :
    TouchOut W0 s0 (execThmShutdown i own s) := by
  have c_State_post : Sub State.post_cells W0 := Sub.trans (Sub.of rfl) hW
  have c_State_showTm : Sub State.showTm_cells W0 := Sub.trans (Sub.of rfl) hW
  have c_State_heatStop : Sub State.heatStop_cells W0 := Sub.trans (Sub.of rfl) hW
  have c_State_railsFollow : Sub State.railsFollow_cells W0 := Sub.trans (Sub.of rfl) hW
  have wf00 : Writes W0 R.THM_STATUS := Or.inl (hW.mem rfl)
  have wf01 : Writes W0 R.THM_EVENT := Or.inl (hW.mem rfl)
  have wf1a : Writes W0 R.THM_SDCNT := Or.inl (hW.mem rfl)
  have w140e : 0x140e ∈ W0 := hW.mem rfl
  unfold execThmShutdown
  repeat' first
    | with_reducible assumption
    | with_reducible refine TouchOut.next ?_
    | (extract_lets +onlyGivenNames xx; guard_hyp xx : State := _; refine Touch.cut (x := xx) ?_ ?_; (on_goal 2 => (intro hh; (try clear_value xx); revert xx; intro _ _)); any_goals (revert xx; intro _))
    | (extract_lets +onlyGivenNames xx; (try clear_value xx); revert xx; intro _)
    | with_reducible refine State.post_touch ?_ c_State_post _ _
    | with_reducible refine State.showTm_touch ?_ c_State_showTm _
    | with_reducible refine State.heatStop_touch ?_ c_State_heatStop
    | with_reducible refine State.railsFollow_touch ?_ c_State_railsFollow
    | with_reducible refine State.bump_touch ?_ _ _ ?_
    | with_reducible refine State.event_touch ?_ _ ?_
    | with_reducible refine State.setFlag_touch ?_ _ _ ?_
    | with_reducible refine State.when_touch ?_ _ _ ?_
    | with_reducible intro _ _
    | with_reducible refine Touch.update ?_

def execThmRestart_cells : List Nat :=
  [0x2, 0x3, 0x6, 0xa, 0x100, 0x200, 0x300, 0x301, 0x305, 0x30a, 0x318, 0x31f, 0x400, 0x401, 0x405, 0x40b, 0x40e,
   0x40f, 0x500, 0x801, 0x901, 0x90b, 0xa00, 0xa01, 0xa32, 0xb00, 0xb01, 0xb02, 0xb12, 0xb18, 0xc00, 0xc06, 0xc20,
   0xc21, 0xc25, 0xc30, 0xc34, 0xd18, 0xe00, 0xe14, 0xf00, 0xf01, 0xf1b, 0x1000, 0x1400, 0x1402, 0x1403, 0x1404,
   0x1405, 0x1406, 0x1407, 0x1408, 0x1409, 0x140a, 0x140b, 0x140c, 0x140d, 0x140e, 0x140f, 0x1410, 0x1411, 0x1412,
   0x1413, 0x1414, 0x1415, 0x1416, 0x1417, 0x1418, 0x1430]

theorem execThmRestart_touch {W0 : List Nat} {s0 s : State} (h0 : Touch W0 s0 s) (hW : Sub execThmRestart_cells W0) :
    TouchOut W0 s0 (execThmRestart s) := by
  have c_State_post : Sub State.post_cells W0 := Sub.trans (Sub.of rfl) hW
  have c_State_setBand : Sub State.setBand_cells W0 := Sub.trans (Sub.of rfl) hW
  have c_State_reselect : Sub State.reselect_cells W0 := Sub.trans (Sub.of rfl) hW
  have c_State_powerChanged : Sub State.powerChanged_cells W0 := Sub.trans (Sub.of rfl) hW
  have c_State_warmReset : Sub State.warmReset_cells W0 := Sub.trans (Sub.of rfl) hW
  have wf00 : Writes W0 R.THM_STATUS := Or.inl (hW.mem rfl)
  have wf01 : Writes W0 R.THM_EVENT := Or.inl (hW.mem rfl)
  have w140e : 0x140e ∈ W0 := hW.mem rfl
  unfold execThmRestart
  repeat' first
    | with_reducible assumption
    | with_reducible refine TouchOut.next ?_
    | (extract_lets +onlyGivenNames xx; guard_hyp xx : State := _; refine Touch.cut (x := xx) ?_ ?_; (on_goal 2 => (intro hh; (try clear_value xx); revert xx; intro _ _)); any_goals (revert xx; intro _))
    | (extract_lets +onlyGivenNames xx; (try clear_value xx); revert xx; intro _)
    | with_reducible refine State.post_touch ?_ c_State_post _ _
    | with_reducible refine State.setBand_touch ?_ c_State_setBand _
    | with_reducible refine State.reselect_touch ?_ c_State_reselect
    | with_reducible refine State.powerChanged_touch ?_ c_State_powerChanged
    | with_reducible refine State.warmReset_touch ?_ c_State_warmReset _
    | with_reducible refine State.event_touch ?_ _ ?_
    | with_reducible refine State.setFlag_touch ?_ _ _ ?_
    | with_reducible refine State.when_touch ?_ _ _ ?_
    | with_reducible intro _ _
    | split
    | with_reducible refine Touch.update ?_

end Sys2Proof.Machine
end

