-- ==== Sys2Proof/Laws/TouchHostRows.lean ====
section
/-!
SUPPORT. What each operation of Machine/HostRows.lean can do: the registers and parts of the state it may write, and nothing
else; the unit, its queue and the form of its stores are kept.
-/

-- proofs are elaborated one after another: many at once ask for more threads than a memory limit allows
set_option Elab.async false

set_option linter.unusedTactic false
set_option linter.unusedVariables false
set_option linter.unusedSimpArgs false
set_option linter.unreachableTactic false
set_option linter.tactic.unusedName false

namespace Sys2Proof.Machine

def State.rowWrite_cells : List Nat :=
  [0x2, 0x3, 0x6, 0xa, 0x100, 0x101, 0x114, 0x200, 0x300, 0x301, 0x305, 0x30a, 0x318, 0x31a, 0x31f, 0x400, 0x401,
   0x405, 0x40b, 0x40e, 0x40f, 0x500, 0x501, 0x504, 0x623, 0x640, 0x641, 0x642, 0x643, 0x644, 0x645, 0x646, 0x647,
   0x648, 0x649, 0x64a, 0x64b, 0x64c, 0x64d, 0x64e, 0x64f, 0x650, 0x651, 0x652, 0x653, 0x654, 0x655, 0x656, 0x657,
   0x658, 0x659, 0x65a, 0x65b, 0x65c, 0x65d, 0x65e, 0x65f, 0x700, 0x701, 0x70c, 0x70d, 0x70e, 0x70f, 0x801, 0x804,
   0x806, 0x807, 0x811, 0x900, 0x901, 0x90b, 0x910, 0x911, 0xa00, 0xa01, 0xa05, 0xa16, 0xa17, 0xa28, 0xa29, 0xa2a,
   0xa2b, 0xa31, 0xa32, 0xa33, 0xa34, 0xb00, 0xb01, 0xb02, 0xb12, 0xb18, 0xc00, 0xc06, 0xc20, 0xc21, 0xc25, 0xc30,
   0xc34, 0xd00, 0xd01, 0xd11, 0xd12, 0xd18, 0xe00, 0xe01, 0xe14, 0x1000, 0x1001, 0x100c, 0x100d, 0x100e, 0x100f,
   0x1010, 0x1400, 0x1402, 0x1403, 0x1404, 0x1405, 0x1406, 0x1407, 0x1408, 0x1409, 0x140a, 0x140b, 0x140c, 0x140d,
   0x140f, 0x1410, 0x1411, 0x1412, 0x1413, 0x1414, 0x1415, 0x1416, 0x1417, 0x1418, 0x1430]

theorem State.rowWrite_touch {W0 : List Nat} {s0 s : State} (h0 : Touch W0 s0 s) (hW : Sub State.rowWrite_cells W0) (via : Via) (form : Nat) (a : Nat) (v : Word) :
    Touch W0 s0 (State.rowWrite s via form a v) := by
  have c_State_oneWrite : Sub State.oneWrite_cells W0 := Sub.trans (Sub.of rfl) hW
  unfold State.rowWrite
  repeat' first
    | with_reducible assumption
    | with_reducible refine State.oneWrite_touch ?_ c_State_oneWrite _ _ _ _
    | with_reducible refine State.whenLive_touch ?_ _ ?_
    | with_reducible intro _ _

def State.rowRead_cells : List Nat :=
  [0x6, 0xa, 0x901, 0xc20, 0xd00, 0xd01, 0xd12, 0x1010, 0x1403, 0x140c, 0x140f, 0x1411, 0x1415, 0x1416, 0x1430]

theorem State.rowRead_touch {W0 : List Nat} {s0 s : State} (h0 : Touch W0 s0 s) (hW : Sub State.rowRead_cells W0) (via : Via) (a : Nat) (n : Nat) (late : Word) :
    Touch W0 s0 (State.rowRead s via a n late) := by
  have c_State_oneRead : Sub State.oneRead_cells W0 := Sub.trans (Sub.of rfl) hW
  unfold State.rowRead
  repeat' first
    | with_reducible assumption
    | with_reducible refine State.oneRead_touch ?_ c_State_oneRead _ _ _ _ _
    | with_reducible refine State.whenLive_touch ?_ _ ?_
    | with_reducible intro _ _

def State.wordsWrite_cells : List Nat :=
  [0x2, 0x3, 0x6, 0xa, 0x100, 0x101, 0x114, 0x200, 0x300, 0x301, 0x305, 0x30a, 0x318, 0x31a, 0x31f, 0x400, 0x401,
   0x405, 0x40b, 0x40e, 0x40f, 0x500, 0x501, 0x504, 0x623, 0x640, 0x641, 0x642, 0x643, 0x644, 0x645, 0x646, 0x647,
   0x648, 0x649, 0x64a, 0x64b, 0x64c, 0x64d, 0x64e, 0x64f, 0x650, 0x651, 0x652, 0x653, 0x654, 0x655, 0x656, 0x657,
   0x658, 0x659, 0x65a, 0x65b, 0x65c, 0x65d, 0x65e, 0x65f, 0x700, 0x701, 0x70c, 0x70d, 0x70e, 0x70f, 0x801, 0x804,
   0x806, 0x807, 0x811, 0x900, 0x901, 0x90b, 0x910, 0x911, 0xa00, 0xa01, 0xa05, 0xa16, 0xa17, 0xa28, 0xa29, 0xa2a,
   0xa2b, 0xa31, 0xa32, 0xa33, 0xa34, 0xb00, 0xb01, 0xb02, 0xb12, 0xb18, 0xc00, 0xc06, 0xc20, 0xc21, 0xc25, 0xc30,
   0xc34, 0xd00, 0xd01, 0xd11, 0xd12, 0xd18, 0xe00, 0xe01, 0xe14, 0x1000, 0x1001, 0x100c, 0x100d, 0x100e, 0x100f,
   0x1010, 0x1400, 0x1402, 0x1403, 0x1404, 0x1405, 0x1406, 0x1407, 0x1408, 0x1409, 0x140a, 0x140b, 0x140c, 0x140d,
   0x140f, 0x1410, 0x1411, 0x1412, 0x1413, 0x1414, 0x1415, 0x1416, 0x1417, 0x1418, 0x1430]

theorem State.wordsWrite_touch {W0 : List Nat} {s0 s : State} (h0 : Touch W0 s0 s) (hW : Sub State.wordsWrite_cells W0) (via : Via) (ptr : Nat) (data : List Word) (half : Option Byte) :
    Touch W0 s0 (State.wordsWrite s via ptr data half) := by
  have c_State_hostWrite : Sub State.hostWrite_cells W0 := Sub.trans (Sub.of rfl) hW
  have c_State_firmwareWrite : Sub State.firmwareWrite_cells W0 := Sub.trans (Sub.of rfl) hW
  unfold State.wordsWrite
  repeat' first
    | with_reducible assumption
    | with_reducible refine State.hostWrite_touch ?_ c_State_hostWrite _ _ _
    | with_reducible refine State.firmwareWrite_touch ?_ c_State_firmwareWrite _ _ _
    | with_reducible refine Touch.foldl ?_ ?_
    | with_reducible intro _ _
    | with_reducible intro _
    | split

def execRegisterWrite_cells : List Nat :=
  [0x2, 0x3, 0x6, 0xa, 0x100, 0x101, 0x114, 0x200, 0x300, 0x301, 0x305, 0x30a, 0x318, 0x31a, 0x31f, 0x400, 0x401,
   0x405, 0x40b, 0x40e, 0x40f, 0x500, 0x501, 0x504, 0x623, 0x640, 0x641, 0x642, 0x643, 0x644, 0x645, 0x646, 0x647,
   0x648, 0x649, 0x64a, 0x64b, 0x64c, 0x64d, 0x64e, 0x64f, 0x650, 0x651, 0x652, 0x653, 0x654, 0x655, 0x656, 0x657,
   0x658, 0x659, 0x65a, 0x65b, 0x65c, 0x65d, 0x65e, 0x65f, 0x700, 0x701, 0x70c, 0x70d, 0x70e, 0x70f, 0x801, 0x804,
   0x806, 0x807, 0x811, 0x900, 0x901, 0x90b, 0x910, 0x911, 0xa00, 0xa01, 0xa05, 0xa16, 0xa17, 0xa28, 0xa29, 0xa2a,
   0xa2b, 0xa31, 0xa32, 0xa33, 0xa34, 0xb00, 0xb01, 0xb02, 0xb12, 0xb18, 0xc00, 0xc06, 0xc20, 0xc21, 0xc25, 0xc30,
   0xc34, 0xd00, 0xd01, 0xd11, 0xd12, 0xd18, 0xe00, 0xe01, 0xe14, 0x1000, 0x1001, 0x100c, 0x100d, 0x100e, 0x100f,
   0x1010, 0x1400, 0x1402, 0x1403, 0x1404, 0x1405, 0x1406, 0x1407, 0x1408, 0x1409, 0x140a, 0x140b, 0x140c, 0x140d,
   0x140f, 0x1410, 0x1411, 0x1412, 0x1413, 0x1414, 0x1415, 0x1416, 0x1417, 0x1418, 0x1430]

theorem execRegisterWrite_touch {W0 : List Nat} {s0 s : State} (h0 : Touch W0 s0 s) (hW : Sub execRegisterWrite_cells W0) (via : Via) (ptr : Nat) (data : List Word) (half : Option Byte) :
    TouchOut W0 s0 (execRegisterWrite via ptr data half s) := by
  have c_State_wordsWrite : Sub State.wordsWrite_cells W0 := Sub.trans (Sub.of rfl) hW
  unfold execRegisterWrite
  repeat' first
    | with_reducible assumption
    | with_reducible refine TouchOut.next ?_
    | with_reducible refine State.wordsWrite_touch ?_ c_State_wordsWrite _ _ _ _
    | with_reducible refine State.whenLive_touch ?_ _ ?_
    | with_reducible intro _ _

def execSetAliasWrite_cells : List Nat :=
  [0x2, 0x3, 0x6, 0xa, 0x100, 0x101, 0x114, 0x200, 0x300, 0x301, 0x305, 0x30a, 0x318, 0x31a, 0x31f, 0x400, 0x401,
   0x405, 0x40b, 0x40e, 0x40f, 0x500, 0x501, 0x504, 0x623, 0x640, 0x641, 0x642, 0x643, 0x644, 0x645, 0x646, 0x647,
   0x648, 0x649, 0x64a, 0x64b, 0x64c, 0x64d, 0x64e, 0x64f, 0x650, 0x651, 0x652, 0x653, 0x654, 0x655, 0x656, 0x657,
   0x658, 0x659, 0x65a, 0x65b, 0x65c, 0x65d, 0x65e, 0x65f, 0x700, 0x701, 0x70c, 0x70d, 0x70e, 0x70f, 0x801, 0x804,
   0x806, 0x807, 0x811, 0x900, 0x901, 0x90b, 0x910, 0x911, 0xa00, 0xa01, 0xa05, 0xa16, 0xa17, 0xa28, 0xa29, 0xa2a,
   0xa2b, 0xa31, 0xa32, 0xa33, 0xa34, 0xb00, 0xb01, 0xb02, 0xb12, 0xb18, 0xc00, 0xc06, 0xc20, 0xc21, 0xc25, 0xc30,
   0xc34, 0xd00, 0xd01, 0xd11, 0xd12, 0xd18, 0xe00, 0xe01, 0xe14, 0x1000, 0x1001, 0x100c, 0x100d, 0x100e, 0x100f,
   0x1010, 0x1400, 0x1402, 0x1403, 0x1404, 0x1405, 0x1406, 0x1407, 0x1408, 0x1409, 0x140a, 0x140b, 0x140c, 0x140d,
   0x140f, 0x1410, 0x1411, 0x1412, 0x1413, 0x1414, 0x1415, 0x1416, 0x1417, 0x1418, 0x1430]

theorem execSetAliasWrite_touch {W0 : List Nat} {s0 s : State} (h0 : Touch W0 s0 s) (hW : Sub execSetAliasWrite_cells W0) (via : Via) (a : Nat) (v : Word) :
    TouchOut W0 s0 (execSetAliasWrite via a v s) := by
  have c_State_rowWrite : Sub State.rowWrite_cells W0 := Sub.trans (Sub.of rfl) hW
  unfold execSetAliasWrite
  repeat' first
    | with_reducible assumption
    | with_reducible refine TouchOut.next ?_
    | with_reducible refine State.rowWrite_touch ?_ c_State_rowWrite _ _ _ _

def execClearAliasWrite_cells : List Nat :=
  [0x2, 0x3, 0x6, 0xa, 0x100, 0x101, 0x114, 0x200, 0x300, 0x301, 0x305, 0x30a, 0x318, 0x31a, 0x31f, 0x400, 0x401,
   0x405, 0x40b, 0x40e, 0x40f, 0x500, 0x501, 0x504, 0x623, 0x640, 0x641, 0x642, 0x643, 0x644, 0x645, 0x646, 0x647,
   0x648, 0x649, 0x64a, 0x64b, 0x64c, 0x64d, 0x64e, 0x64f, 0x650, 0x651, 0x652, 0x653, 0x654, 0x655, 0x656, 0x657,
   0x658, 0x659, 0x65a, 0x65b, 0x65c, 0x65d, 0x65e, 0x65f, 0x700, 0x701, 0x70c, 0x70d, 0x70e, 0x70f, 0x801, 0x804,
   0x806, 0x807, 0x811, 0x900, 0x901, 0x90b, 0x910, 0x911, 0xa00, 0xa01, 0xa05, 0xa16, 0xa17, 0xa28, 0xa29, 0xa2a,
   0xa2b, 0xa31, 0xa32, 0xa33, 0xa34, 0xb00, 0xb01, 0xb02, 0xb12, 0xb18, 0xc00, 0xc06, 0xc20, 0xc21, 0xc25, 0xc30,
   0xc34, 0xd00, 0xd01, 0xd11, 0xd12, 0xd18, 0xe00, 0xe01, 0xe14, 0x1000, 0x1001, 0x100c, 0x100d, 0x100e, 0x100f,
   0x1010, 0x1400, 0x1402, 0x1403, 0x1404, 0x1405, 0x1406, 0x1407, 0x1408, 0x1409, 0x140a, 0x140b, 0x140c, 0x140d,
   0x140f, 0x1410, 0x1411, 0x1412, 0x1413, 0x1414, 0x1415, 0x1416, 0x1417, 0x1418, 0x1430]

theorem execClearAliasWrite_touch {W0 : List Nat} {s0 s : State} (h0 : Touch W0 s0 s) (hW : Sub execClearAliasWrite_cells W0) (via : Via) (a : Nat) (v : Word) :
    TouchOut W0 s0 (execClearAliasWrite via a v s) := by
  have c_State_rowWrite : Sub State.rowWrite_cells W0 := Sub.trans (Sub.of rfl) hW
  unfold execClearAliasWrite
  repeat' first
    | with_reducible assumption
    | with_reducible refine TouchOut.next ?_
    | with_reducible refine State.rowWrite_touch ?_ c_State_rowWrite _ _ _ _

def execToggleAliasWrite_cells : List Nat :=
  [0x2, 0x3, 0x6, 0xa, 0x100, 0x101, 0x114, 0x200, 0x300, 0x301, 0x305, 0x30a, 0x318, 0x31a, 0x31f, 0x400, 0x401,
   0x405, 0x40b, 0x40e, 0x40f, 0x500, 0x501, 0x504, 0x623, 0x640, 0x641, 0x642, 0x643, 0x644, 0x645, 0x646, 0x647,
   0x648, 0x649, 0x64a, 0x64b, 0x64c, 0x64d, 0x64e, 0x64f, 0x650, 0x651, 0x652, 0x653, 0x654, 0x655, 0x656, 0x657,
   0x658, 0x659, 0x65a, 0x65b, 0x65c, 0x65d, 0x65e, 0x65f, 0x700, 0x701, 0x70c, 0x70d, 0x70e, 0x70f, 0x801, 0x804,
   0x806, 0x807, 0x811, 0x900, 0x901, 0x90b, 0x910, 0x911, 0xa00, 0xa01, 0xa05, 0xa16, 0xa17, 0xa28, 0xa29, 0xa2a,
   0xa2b, 0xa31, 0xa32, 0xa33, 0xa34, 0xb00, 0xb01, 0xb02, 0xb12, 0xb18, 0xc00, 0xc06, 0xc20, 0xc21, 0xc25, 0xc30,
   0xc34, 0xd00, 0xd01, 0xd11, 0xd12, 0xd18, 0xe00, 0xe01, 0xe14, 0x1000, 0x1001, 0x100c, 0x100d, 0x100e, 0x100f,
   0x1010, 0x1400, 0x1402, 0x1403, 0x1404, 0x1405, 0x1406, 0x1407, 0x1408, 0x1409, 0x140a, 0x140b, 0x140c, 0x140d,
   0x140f, 0x1410, 0x1411, 0x1412, 0x1413, 0x1414, 0x1415, 0x1416, 0x1417, 0x1418, 0x1430]

theorem execToggleAliasWrite_touch {W0 : List Nat} {s0 s : State} (h0 : Touch W0 s0 s) (hW : Sub execToggleAliasWrite_cells W0) (via : Via) (a : Nat) (v : Word) :
    TouchOut W0 s0 (execToggleAliasWrite via a v s) := by
  have c_State_rowWrite : Sub State.rowWrite_cells W0 := Sub.trans (Sub.of rfl) hW
  unfold execToggleAliasWrite
  repeat' first
    | with_reducible assumption
    | with_reducible refine TouchOut.next ?_
    | with_reducible refine State.rowWrite_touch ?_ c_State_rowWrite _ _ _ _

def execRcRegisterRead_cells : List Nat :=
  [0x6, 0xa, 0x901, 0xc20, 0xd00, 0xd01, 0xd12, 0x1010, 0x1403, 0x140c, 0x140f, 0x1411, 0x1415, 0x1416, 0x1430]

theorem execRcRegisterRead_touch {W0 : List Nat} {s0 s : State} (h0 : Touch W0 s0 s) (hW : Sub execRcRegisterRead_cells W0) (via : Via) (ptr : Option Nat) (n : Nat) (late : Word) :
    TouchOut W0 s0 (execRcRegisterRead via ptr n late s) := by
  have c_State_hostRead : Sub State.hostRead_cells W0 := Sub.trans (Sub.of rfl) hW
  have c_State_oneRead : Sub State.oneRead_cells W0 := Sub.trans (Sub.of rfl) hW
  unfold execRcRegisterRead
  repeat' first
    | with_reducible assumption
    | with_reducible refine TouchOut.next ?_
    | with_reducible refine State.hostRead_touch ?_ c_State_hostRead _ _ _ _
    | with_reducible refine State.oneRead_touch ?_ c_State_oneRead _ _ _ _ _
    | with_reducible refine State.whenLive_touch ?_ _ ?_
    | with_reducible intro _ _
    | split

def execTwbPecWrite_cells : List Nat :=
  [0x2, 0x3, 0x6, 0xa, 0x100, 0x101, 0x114, 0x200, 0x300, 0x301, 0x305, 0x30a, 0x318, 0x31a, 0x31f, 0x400, 0x401,
   0x405, 0x40b, 0x40e, 0x40f, 0x500, 0x501, 0x504, 0x623, 0x640, 0x641, 0x642, 0x643, 0x644, 0x645, 0x646, 0x647,
   0x648, 0x649, 0x64a, 0x64b, 0x64c, 0x64d, 0x64e, 0x64f, 0x650, 0x651, 0x652, 0x653, 0x654, 0x655, 0x656, 0x657,
   0x658, 0x659, 0x65a, 0x65b, 0x65c, 0x65d, 0x65e, 0x65f, 0x700, 0x701, 0x70c, 0x70d, 0x70e, 0x70f, 0x801, 0x804,
   0x806, 0x807, 0x811, 0x900, 0x901, 0x90b, 0x910, 0x911, 0xa00, 0xa01, 0xa05, 0xa16, 0xa17, 0xa28, 0xa29, 0xa2a,
   0xa2b, 0xa31, 0xa32, 0xa33, 0xa34, 0xb00, 0xb01, 0xb02, 0xb12, 0xb18, 0xc00, 0xc06, 0xc20, 0xc21, 0xc25, 0xc30,
   0xc34, 0xd00, 0xd01, 0xd11, 0xd12, 0xd18, 0xe00, 0xe01, 0xe14, 0x1000, 0x1001, 0x100c, 0x100d, 0x100e, 0x100f,
   0x1010, 0x1400, 0x1402, 0x1403, 0x1404, 0x1405, 0x1406, 0x1407, 0x1408, 0x1409, 0x140a, 0x140b, 0x140c, 0x140d,
   0x140f, 0x1410, 0x1411, 0x1412, 0x1413, 0x1414, 0x1415, 0x1416, 0x1417, 0x1418, 0x1430]

theorem execTwbPecWrite_touch {W0 : List Nat} {s0 s : State} (h0 : Touch W0 s0 s) (hW : Sub execTwbPecWrite_cells W0) (addr : Nat) (ptr : Nat) (data : List Word) (pec : Byte) :
    TouchOut W0 s0 (execTwbPecWrite addr ptr data pec s) := by
  have c_State_hostWrite : Sub State.hostWrite_cells W0 := Sub.trans (Sub.of rfl) hW
  unfold execTwbPecWrite
  repeat' first
    | with_reducible assumption
    | with_reducible refine TouchOut.next ?_
    | with_reducible refine State.hostWrite_touch ?_ c_State_hostWrite _ _ _
    | with_reducible refine State.whenLive_touch ?_ _ ?_
    | with_reducible intro _ _

def execGroupWriteHoldTimeout_cells : List Nat :=
  [0x1403]

theorem execGroupWriteHoldTimeout_touch {W0 : List Nat} {s0 s : State} (h0 : Touch W0 s0 s) (hW : Sub execGroupWriteHoldTimeout_cells W0) :
    TouchOut W0 s0 (execGroupWriteHoldTimeout s) := by
  have w1403 : 0x1403 ∈ W0 := hW.mem rfl
  unfold execGroupWriteHoldTimeout
  repeat' first
    | with_reducible assumption
    | with_reducible refine TouchOut.next ?_
    | (extract_lets +onlyGivenNames xx; (try clear_value xx); revert xx; intro _)
    | with_reducible refine State.whenLive_touch ?_ _ ?_
    | with_reducible intro _ _
    | with_reducible refine Touch.update ?_

def execAonWriteApply_cells : List Nat :=
  [0x2, 0x6, 0x100, 0x101, 0x114, 0x200, 0x300, 0x301, 0x31f, 0x400, 0x401, 0x405, 0x40e, 0x40f, 0x500, 0x623, 0x640,
   0x641, 0x642, 0x643, 0x644, 0x645, 0x646, 0x647, 0x648, 0x649, 0x64a, 0x64b, 0x64c, 0x64d, 0x64e, 0x64f, 0x650,
   0x651, 0x652, 0x653, 0x654, 0x655, 0x656, 0x657, 0x658, 0x659, 0x65a, 0x65b, 0x65c, 0x65d, 0x65e, 0x65f, 0x700,
   0x811, 0xa00, 0xa01, 0xa31, 0xa32, 0xb00, 0xb01, 0xb02, 0xb18, 0xc00, 0xc06, 0xc20, 0xc21, 0xc25, 0xc30, 0xc34,
   0xe00, 0xe01, 0x1403, 0x1404, 0x1405, 0x1406, 0x1407, 0x1408, 0x1409, 0x140b, 0x140c, 0x140d, 0x140f, 0x1410,
   0x1411, 0x1412, 0x1413, 0x1414, 0x1415, 0x1416, 0x1417, 0x1418]

theorem execAonWriteApply_touch {W0 : List Nat} {s0 s : State} (h0 : Touch W0 s0 s) (hW : Sub execAonWriteApply_cells W0) :
    TouchOut W0 s0 (execAonWriteApply s) := by
  have c_State_aonApply : Sub State.aonApply_cells W0 := Sub.trans (Sub.of rfl) hW
  unfold execAonWriteApply
  repeat' first
    | with_reducible assumption
    | with_reducible refine TouchOut.next ?_
    | with_reducible refine State.aonApply_touch ?_ c_State_aonApply
    | with_reducible refine State.when_touch ?_ _ _ ?_
    | with_reducible intro _ _

def execPageselWrite_cells : List Nat :=
  [0x2, 0x3, 0x6, 0xa, 0x100, 0x101, 0x114, 0x200, 0x300, 0x301, 0x305, 0x30a, 0x318, 0x31a, 0x31f, 0x400, 0x401,
   0x405, 0x40b, 0x40e, 0x40f, 0x500, 0x501, 0x504, 0x623, 0x640, 0x641, 0x642, 0x643, 0x644, 0x645, 0x646, 0x647,
   0x648, 0x649, 0x64a, 0x64b, 0x64c, 0x64d, 0x64e, 0x64f, 0x650, 0x651, 0x652, 0x653, 0x654, 0x655, 0x656, 0x657,
   0x658, 0x659, 0x65a, 0x65b, 0x65c, 0x65d, 0x65e, 0x65f, 0x700, 0x701, 0x70c, 0x70d, 0x70e, 0x70f, 0x801, 0x804,
   0x806, 0x807, 0x811, 0x900, 0x901, 0x90b, 0x910, 0x911, 0xa00, 0xa01, 0xa05, 0xa16, 0xa17, 0xa28, 0xa29, 0xa2a,
   0xa2b, 0xa31, 0xa32, 0xa33, 0xa34, 0xb00, 0xb01, 0xb02, 0xb12, 0xb18, 0xc00, 0xc06, 0xc20, 0xc21, 0xc25, 0xc30,
   0xc34, 0xd00, 0xd01, 0xd11, 0xd12, 0xd18, 0xe00, 0xe01, 0xe14, 0x1000, 0x1001, 0x100c, 0x100d, 0x100e, 0x100f,
   0x1010, 0x1400, 0x1402, 0x1403, 0x1404, 0x1405, 0x1406, 0x1407, 0x1408, 0x1409, 0x140a, 0x140b, 0x140c, 0x140d,
   0x140f, 0x1410, 0x1411, 0x1412, 0x1413, 0x1414, 0x1415, 0x1416, 0x1417, 0x1418, 0x1430]

theorem execPageselWrite_touch {W0 : List Nat} {s0 s : State} (h0 : Touch W0 s0 s) (hW : Sub execPageselWrite_cells W0) (via : Via) (v : Word) :
    TouchOut W0 s0 (execPageselWrite via v s) := by
  have c_State_rowWrite : Sub State.rowWrite_cells W0 := Sub.trans (Sub.of rfl) hW
  unfold execPageselWrite
  repeat' first
    | with_reducible assumption
    | with_reducible refine TouchOut.next ?_
    | with_reducible refine State.rowWrite_touch ?_ c_State_rowWrite _ _ _ _

def execAlmCtrlHush_cells : List Nat :=
  [0x2, 0x3, 0x6, 0xa, 0x100, 0x101, 0x114, 0x200, 0x300, 0x301, 0x305, 0x30a, 0x318, 0x31a, 0x31f, 0x400, 0x401,
   0x405, 0x40b, 0x40e, 0x40f, 0x500, 0x501, 0x504, 0x623, 0x640, 0x641, 0x642, 0x643, 0x644, 0x645, 0x646, 0x647,
   0x648, 0x649, 0x64a, 0x64b, 0x64c, 0x64d, 0x64e, 0x64f, 0x650, 0x651, 0x652, 0x653, 0x654, 0x655, 0x656, 0x657,
   0x658, 0x659, 0x65a, 0x65b, 0x65c, 0x65d, 0x65e, 0x65f, 0x700, 0x701, 0x70c, 0x70d, 0x70e, 0x70f, 0x801, 0x804,
   0x806, 0x807, 0x811, 0x900, 0x901, 0x90b, 0x910, 0x911, 0xa00, 0xa01, 0xa05, 0xa16, 0xa17, 0xa28, 0xa29, 0xa2a,
   0xa2b, 0xa31, 0xa32, 0xa33, 0xa34, 0xb00, 0xb01, 0xb02, 0xb12, 0xb18, 0xc00, 0xc06, 0xc20, 0xc21, 0xc25, 0xc30,
   0xc34, 0xd00, 0xd01, 0xd11, 0xd12, 0xd18, 0xe00, 0xe01, 0xe14, 0x1000, 0x1001, 0x100c, 0x100d, 0x100e, 0x100f,
   0x1010, 0x1400, 0x1402, 0x1403, 0x1404, 0x1405, 0x1406, 0x1407, 0x1408, 0x1409, 0x140a, 0x140b, 0x140c, 0x140d,
   0x140f, 0x1410, 0x1411, 0x1412, 0x1413, 0x1414, 0x1415, 0x1416, 0x1417, 0x1418, 0x1430]

theorem execAlmCtrlHush_touch {W0 : List Nat} {s0 s : State} (h0 : Touch W0 s0 s) (hW : Sub execAlmCtrlHush_cells W0) (via : Via) :
    TouchOut W0 s0 (execAlmCtrlHush via s) := by
  have c_State_rowWrite : Sub State.rowWrite_cells W0 := Sub.trans (Sub.of rfl) hW
  unfold execAlmCtrlHush
  repeat' first
    | with_reducible assumption
    | with_reducible refine TouchOut.next ?_
    | with_reducible refine State.rowWrite_touch ?_ c_State_rowWrite _ _ _ _

def execSrcEnWrite_cells : List Nat :=
  [0x2, 0x3, 0x6, 0xa, 0x100, 0x101, 0x114, 0x200, 0x300, 0x301, 0x305, 0x30a, 0x318, 0x31a, 0x31f, 0x400, 0x401,
   0x405, 0x40b, 0x40e, 0x40f, 0x500, 0x501, 0x504, 0x623, 0x640, 0x641, 0x642, 0x643, 0x644, 0x645, 0x646, 0x647,
   0x648, 0x649, 0x64a, 0x64b, 0x64c, 0x64d, 0x64e, 0x64f, 0x650, 0x651, 0x652, 0x653, 0x654, 0x655, 0x656, 0x657,
   0x658, 0x659, 0x65a, 0x65b, 0x65c, 0x65d, 0x65e, 0x65f, 0x700, 0x701, 0x70c, 0x70d, 0x70e, 0x70f, 0x801, 0x804,
   0x806, 0x807, 0x811, 0x900, 0x901, 0x90b, 0x910, 0x911, 0xa00, 0xa01, 0xa05, 0xa16, 0xa17, 0xa28, 0xa29, 0xa2a,
   0xa2b, 0xa31, 0xa32, 0xa33, 0xa34, 0xb00, 0xb01, 0xb02, 0xb12, 0xb18, 0xc00, 0xc06, 0xc20, 0xc21, 0xc25, 0xc30,
   0xc34, 0xd00, 0xd01, 0xd11, 0xd12, 0xd18, 0xe00, 0xe01, 0xe14, 0x1000, 0x1001, 0x100c, 0x100d, 0x100e, 0x100f,
   0x1010, 0x1400, 0x1402, 0x1403, 0x1404, 0x1405, 0x1406, 0x1407, 0x1408, 0x1409, 0x140a, 0x140b, 0x140c, 0x140d,
   0x140f, 0x1410, 0x1411, 0x1412, 0x1413, 0x1414, 0x1415, 0x1416, 0x1417, 0x1418, 0x1430]

theorem execSrcEnWrite_touch {W0 : List Nat} {s0 s : State} (h0 : Touch W0 s0 s) (hW : Sub execSrcEnWrite_cells W0) (via : Via) (v : Word) :
    TouchOut W0 s0 (execSrcEnWrite via v s) := by
  have c_State_rowWrite : Sub State.rowWrite_cells W0 := Sub.trans (Sub.of rfl) hW
  unfold execSrcEnWrite
  repeat' first
    | with_reducible assumption
    | with_reducible refine TouchOut.next ?_
    | with_reducible refine State.rowWrite_touch ?_ c_State_rowWrite _ _ _ _

def execSrcRankWrite_cells : List Nat :=
  [0x2, 0x3, 0x6, 0xa, 0x100, 0x101, 0x114, 0x200, 0x300, 0x301, 0x305, 0x30a, 0x318, 0x31a, 0x31f, 0x400, 0x401,
   0x405, 0x40b, 0x40e, 0x40f, 0x500, 0x501, 0x504, 0x623, 0x640, 0x641, 0x642, 0x643, 0x644, 0x645, 0x646, 0x647,
   0x648, 0x649, 0x64a, 0x64b, 0x64c, 0x64d, 0x64e, 0x64f, 0x650, 0x651, 0x652, 0x653, 0x654, 0x655, 0x656, 0x657,
   0x658, 0x659, 0x65a, 0x65b, 0x65c, 0x65d, 0x65e, 0x65f, 0x700, 0x701, 0x70c, 0x70d, 0x70e, 0x70f, 0x801, 0x804,
   0x806, 0x807, 0x811, 0x900, 0x901, 0x90b, 0x910, 0x911, 0xa00, 0xa01, 0xa05, 0xa16, 0xa17, 0xa28, 0xa29, 0xa2a,
   0xa2b, 0xa31, 0xa32, 0xa33, 0xa34, 0xb00, 0xb01, 0xb02, 0xb12, 0xb18, 0xc00, 0xc06, 0xc20, 0xc21, 0xc25, 0xc30,
   0xc34, 0xd00, 0xd01, 0xd11, 0xd12, 0xd18, 0xe00, 0xe01, 0xe14, 0x1000, 0x1001, 0x100c, 0x100d, 0x100e, 0x100f,
   0x1010, 0x1400, 0x1402, 0x1403, 0x1404, 0x1405, 0x1406, 0x1407, 0x1408, 0x1409, 0x140a, 0x140b, 0x140c, 0x140d,
   0x140f, 0x1410, 0x1411, 0x1412, 0x1413, 0x1414, 0x1415, 0x1416, 0x1417, 0x1418, 0x1430]

theorem execSrcRankWrite_touch {W0 : List Nat} {s0 s : State} (h0 : Touch W0 s0 s) (hW : Sub execSrcRankWrite_cells W0) (via : Via) (v : Word) :
    TouchOut W0 s0 (execSrcRankWrite via v s) := by
  have c_State_rowWrite : Sub State.rowWrite_cells W0 := Sub.trans (Sub.of rfl) hW
  unfold execSrcRankWrite
  repeat' first
    | with_reducible assumption
    | with_reducible refine TouchOut.next ?_
    | with_reducible refine State.rowWrite_touch ?_ c_State_rowWrite _ _ _ _

def execConvAuxWrite_cells : List Nat :=
  [0x2, 0x3, 0x6, 0xa, 0x100, 0x101, 0x114, 0x200, 0x300, 0x301, 0x305, 0x30a, 0x318, 0x31a, 0x31f, 0x400, 0x401,
   0x405, 0x40b, 0x40e, 0x40f, 0x500, 0x501, 0x504, 0x623, 0x640, 0x641, 0x642, 0x643, 0x644, 0x645, 0x646, 0x647,
   0x648, 0x649, 0x64a, 0x64b, 0x64c, 0x64d, 0x64e, 0x64f, 0x650, 0x651, 0x652, 0x653, 0x654, 0x655, 0x656, 0x657,
   0x658, 0x659, 0x65a, 0x65b, 0x65c, 0x65d, 0x65e, 0x65f, 0x700, 0x701, 0x70c, 0x70d, 0x70e, 0x70f, 0x801, 0x804,
   0x806, 0x807, 0x811, 0x900, 0x901, 0x90b, 0x910, 0x911, 0xa00, 0xa01, 0xa05, 0xa16, 0xa17, 0xa28, 0xa29, 0xa2a,
   0xa2b, 0xa31, 0xa32, 0xa33, 0xa34, 0xb00, 0xb01, 0xb02, 0xb12, 0xb18, 0xc00, 0xc06, 0xc20, 0xc21, 0xc25, 0xc30,
   0xc34, 0xd00, 0xd01, 0xd11, 0xd12, 0xd18, 0xe00, 0xe01, 0xe14, 0x1000, 0x1001, 0x100c, 0x100d, 0x100e, 0x100f,
   0x1010, 0x1400, 0x1402, 0x1403, 0x1404, 0x1405, 0x1406, 0x1407, 0x1408, 0x1409, 0x140a, 0x140b, 0x140c, 0x140d,
   0x140f, 0x1410, 0x1411, 0x1412, 0x1413, 0x1414, 0x1415, 0x1416, 0x1417, 0x1418, 0x1430]

theorem execConvAuxWrite_touch {W0 : List Nat} {s0 s : State} (h0 : Touch W0 s0 s) (hW : Sub execConvAuxWrite_cells W0) (via : Via) (v : Word) :
    TouchOut W0 s0 (execConvAuxWrite via v s) := by
  have c_State_rowWrite : Sub State.rowWrite_cells W0 := Sub.trans (Sub.of rfl) hW
  unfold execConvAuxWrite
  repeat' first
    | with_reducible assumption
    | with_reducible refine TouchOut.next ?_
    | with_reducible refine State.rowWrite_touch ?_ c_State_rowWrite _ _ _ _

def execChgClrfault_cells : List Nat :=
  [0x2, 0x3, 0x6, 0xa, 0x100, 0x101, 0x114, 0x200, 0x300, 0x301, 0x305, 0x30a, 0x318, 0x31a, 0x31f, 0x400, 0x401,
   0x405, 0x40b, 0x40e, 0x40f, 0x500, 0x501, 0x504, 0x623, 0x640, 0x641, 0x642, 0x643, 0x644, 0x645, 0x646, 0x647,
   0x648, 0x649, 0x64a, 0x64b, 0x64c, 0x64d, 0x64e, 0x64f, 0x650, 0x651, 0x652, 0x653, 0x654, 0x655, 0x656, 0x657,
   0x658, 0x659, 0x65a, 0x65b, 0x65c, 0x65d, 0x65e, 0x65f, 0x700, 0x701, 0x70c, 0x70d, 0x70e, 0x70f, 0x801, 0x804,
   0x806, 0x807, 0x811, 0x900, 0x901, 0x90b, 0x910, 0x911, 0xa00, 0xa01, 0xa05, 0xa16, 0xa17, 0xa28, 0xa29, 0xa2a,
   0xa2b, 0xa31, 0xa32, 0xa33, 0xa34, 0xb00, 0xb01, 0xb02, 0xb12, 0xb18, 0xc00, 0xc06, 0xc20, 0xc21, 0xc25, 0xc30,
   0xc34, 0xd00, 0xd01, 0xd11, 0xd12, 0xd18, 0xe00, 0xe01, 0xe14, 0x1000, 0x1001, 0x100c, 0x100d, 0x100e, 0x100f,
   0x1010, 0x1400, 0x1402, 0x1403, 0x1404, 0x1405, 0x1406, 0x1407, 0x1408, 0x1409, 0x140a, 0x140b, 0x140c, 0x140d,
   0x140f, 0x1410, 0x1411, 0x1412, 0x1413, 0x1414, 0x1415, 0x1416, 0x1417, 0x1418, 0x1430]

theorem execChgClrfault_touch {W0 : List Nat} {s0 s : State} (h0 : Touch W0 s0 s) (hW : Sub execChgClrfault_cells W0) (via : Via) :
    TouchOut W0 s0 (execChgClrfault via s) := by
  have c_State_rowWrite : Sub State.rowWrite_cells W0 := Sub.trans (Sub.of rfl) hW
  unfold execChgClrfault
  repeat' first
    | with_reducible assumption
    | with_reducible refine TouchOut.next ?_
    | with_reducible refine State.rowWrite_touch ?_ c_State_rowWrite _ _ _ _

def execChgFullRequest_cells : List Nat :=
  [0x2, 0x3, 0x6, 0xa, 0x100, 0x101, 0x114, 0x200, 0x300, 0x301, 0x305, 0x30a, 0x318, 0x31a, 0x31f, 0x400, 0x401,
   0x405, 0x40b, 0x40e, 0x40f, 0x500, 0x501, 0x504, 0x623, 0x640, 0x641, 0x642, 0x643, 0x644, 0x645, 0x646, 0x647,
   0x648, 0x649, 0x64a, 0x64b, 0x64c, 0x64d, 0x64e, 0x64f, 0x650, 0x651, 0x652, 0x653, 0x654, 0x655, 0x656, 0x657,
   0x658, 0x659, 0x65a, 0x65b, 0x65c, 0x65d, 0x65e, 0x65f, 0x700, 0x701, 0x70c, 0x70d, 0x70e, 0x70f, 0x801, 0x804,
   0x806, 0x807, 0x811, 0x900, 0x901, 0x90b, 0x910, 0x911, 0xa00, 0xa01, 0xa05, 0xa16, 0xa17, 0xa28, 0xa29, 0xa2a,
   0xa2b, 0xa31, 0xa32, 0xa33, 0xa34, 0xb00, 0xb01, 0xb02, 0xb12, 0xb18, 0xc00, 0xc06, 0xc20, 0xc21, 0xc25, 0xc30,
   0xc34, 0xd00, 0xd01, 0xd11, 0xd12, 0xd18, 0xe00, 0xe01, 0xe14, 0x1000, 0x1001, 0x100c, 0x100d, 0x100e, 0x100f,
   0x1010, 0x1400, 0x1402, 0x1403, 0x1404, 0x1405, 0x1406, 0x1407, 0x1408, 0x1409, 0x140a, 0x140b, 0x140c, 0x140d,
   0x140f, 0x1410, 0x1411, 0x1412, 0x1413, 0x1414, 0x1415, 0x1416, 0x1417, 0x1418, 0x1430]

theorem execChgFullRequest_touch {W0 : List Nat} {s0 s : State} (h0 : Touch W0 s0 s) (hW : Sub execChgFullRequest_cells W0) (via : Via) :
    TouchOut W0 s0 (execChgFullRequest via s) := by
  have c_State_rowWrite : Sub State.rowWrite_cells W0 := Sub.trans (Sub.of rfl) hW
  unfold execChgFullRequest
  repeat' first
    | with_reducible assumption
    | with_reducible refine TouchOut.next ?_
    | with_reducible refine State.rowWrite_touch ?_ c_State_rowWrite _ _ _ _

def execWbRdselWrite_cells : List Nat :=
  [0x2, 0x3, 0x6, 0xa, 0x100, 0x101, 0x114, 0x200, 0x300, 0x301, 0x305, 0x30a, 0x318, 0x31a, 0x31f, 0x400, 0x401,
   0x405, 0x40b, 0x40e, 0x40f, 0x500, 0x501, 0x504, 0x623, 0x640, 0x641, 0x642, 0x643, 0x644, 0x645, 0x646, 0x647,
   0x648, 0x649, 0x64a, 0x64b, 0x64c, 0x64d, 0x64e, 0x64f, 0x650, 0x651, 0x652, 0x653, 0x654, 0x655, 0x656, 0x657,
   0x658, 0x659, 0x65a, 0x65b, 0x65c, 0x65d, 0x65e, 0x65f, 0x700, 0x701, 0x70c, 0x70d, 0x70e, 0x70f, 0x801, 0x804,
   0x806, 0x807, 0x811, 0x900, 0x901, 0x90b, 0x910, 0x911, 0xa00, 0xa01, 0xa05, 0xa16, 0xa17, 0xa28, 0xa29, 0xa2a,
   0xa2b, 0xa31, 0xa32, 0xa33, 0xa34, 0xb00, 0xb01, 0xb02, 0xb12, 0xb18, 0xc00, 0xc06, 0xc20, 0xc21, 0xc25, 0xc30,
   0xc34, 0xd00, 0xd01, 0xd11, 0xd12, 0xd18, 0xe00, 0xe01, 0xe14, 0x1000, 0x1001, 0x100c, 0x100d, 0x100e, 0x100f,
   0x1010, 0x1400, 0x1402, 0x1403, 0x1404, 0x1405, 0x1406, 0x1407, 0x1408, 0x1409, 0x140a, 0x140b, 0x140c, 0x140d,
   0x140f, 0x1410, 0x1411, 0x1412, 0x1413, 0x1414, 0x1415, 0x1416, 0x1417, 0x1418, 0x1430]

theorem execWbRdselWrite_touch {W0 : List Nat} {s0 s : State} (h0 : Touch W0 s0 s) (hW : Sub execWbRdselWrite_cells W0) (via : Via) (v : Word) :
    TouchOut W0 s0 (execWbRdselWrite via v s) := by
  have c_State_rowWrite : Sub State.rowWrite_cells W0 := Sub.trans (Sub.of rfl) hW
  unfold execWbRdselWrite
  repeat' first
    | with_reducible assumption
    | with_reducible refine TouchOut.next ?_
    | with_reducible refine State.rowWrite_touch ?_ c_State_rowWrite _ _ _ _

def execWbRddataRead_cells : List Nat :=
  [0x6, 0xa, 0x901, 0xc20, 0xd00, 0xd01, 0xd12, 0x1010, 0x1403, 0x140c, 0x140f, 0x1411, 0x1415, 0x1416, 0x1430]

theorem execWbRddataRead_touch {W0 : List Nat} {s0 s : State} (h0 : Touch W0 s0 s) (hW : Sub execWbRddataRead_cells W0) (via : Via) (n : Nat) :
    TouchOut W0 s0 (execWbRddataRead via n s) := by
  have c_State_rowRead : Sub State.rowRead_cells W0 := Sub.trans (Sub.of rfl) hW
  unfold execWbRddataRead
  repeat' first
    | with_reducible assumption
    | with_reducible refine TouchOut.next ?_
    | with_reducible refine State.rowRead_touch ?_ c_State_rowRead _ _ _ _

def execVdtNoteRead_cells : List Nat :=
  [0x6, 0xa, 0x901, 0xc20, 0xd00, 0xd01, 0xd12, 0x1010, 0x1403, 0x140c, 0x140f, 0x1411, 0x1415, 0x1416, 0x1430]

theorem execVdtNoteRead_touch {W0 : List Nat} {s0 s : State} (h0 : Touch W0 s0 s) (hW : Sub execVdtNoteRead_cells W0) (via : Via) (n : Nat) :
    TouchOut W0 s0 (execVdtNoteRead via n s) := by
  have c_State_rowRead : Sub State.rowRead_cells W0 := Sub.trans (Sub.of rfl) hW
  unfold execVdtNoteRead
  repeat' first
    | with_reducible assumption
    | with_reducible refine TouchOut.next ?_
    | with_reducible refine State.rowRead_touch ?_ c_State_rowRead _ _ _ _

def execProofreq_cells : List Nat :=
  [0x2, 0x3, 0x6, 0xa, 0x100, 0x101, 0x114, 0x200, 0x300, 0x301, 0x305, 0x30a, 0x318, 0x31a, 0x31f, 0x400, 0x401,
   0x405, 0x40b, 0x40e, 0x40f, 0x500, 0x501, 0x504, 0x623, 0x640, 0x641, 0x642, 0x643, 0x644, 0x645, 0x646, 0x647,
   0x648, 0x649, 0x64a, 0x64b, 0x64c, 0x64d, 0x64e, 0x64f, 0x650, 0x651, 0x652, 0x653, 0x654, 0x655, 0x656, 0x657,
   0x658, 0x659, 0x65a, 0x65b, 0x65c, 0x65d, 0x65e, 0x65f, 0x700, 0x701, 0x70c, 0x70d, 0x70e, 0x70f, 0x801, 0x804,
   0x806, 0x807, 0x811, 0x900, 0x901, 0x90b, 0x910, 0x911, 0xa00, 0xa01, 0xa05, 0xa16, 0xa17, 0xa28, 0xa29, 0xa2a,
   0xa2b, 0xa31, 0xa32, 0xa33, 0xa34, 0xb00, 0xb01, 0xb02, 0xb12, 0xb18, 0xc00, 0xc06, 0xc20, 0xc21, 0xc25, 0xc30,
   0xc34, 0xd00, 0xd01, 0xd11, 0xd12, 0xd18, 0xe00, 0xe01, 0xe14, 0x1000, 0x1001, 0x100c, 0x100d, 0x100e, 0x100f,
   0x1010, 0x1400, 0x1402, 0x1403, 0x1404, 0x1405, 0x1406, 0x1407, 0x1408, 0x1409, 0x140a, 0x140b, 0x140c, 0x140d,
   0x140f, 0x1410, 0x1411, 0x1412, 0x1413, 0x1414, 0x1415, 0x1416, 0x1417, 0x1418, 0x1430]

theorem execProofreq_touch {W0 : List Nat} {s0 s : State} (h0 : Touch W0 s0 s) (hW : Sub execProofreq_cells W0) (via : Via) :
    TouchOut W0 s0 (execProofreq via s) := by
  have c_State_rowWrite : Sub State.rowWrite_cells W0 := Sub.trans (Sub.of rfl) hW
  unfold execProofreq
  repeat' first
    | with_reducible assumption
    | with_reducible refine TouchOut.next ?_
    | with_reducible refine State.rowWrite_touch ?_ c_State_rowWrite _ _ _ _

def execCensus_cells : List Nat :=
  [0x2, 0x3, 0x6, 0xa, 0x100, 0x101, 0x114, 0x200, 0x300, 0x301, 0x305, 0x30a, 0x318, 0x31a, 0x31f, 0x400, 0x401,
   0x405, 0x40b, 0x40e, 0x40f, 0x500, 0x501, 0x504, 0x623, 0x640, 0x641, 0x642, 0x643, 0x644, 0x645, 0x646, 0x647,
   0x648, 0x649, 0x64a, 0x64b, 0x64c, 0x64d, 0x64e, 0x64f, 0x650, 0x651, 0x652, 0x653, 0x654, 0x655, 0x656, 0x657,
   0x658, 0x659, 0x65a, 0x65b, 0x65c, 0x65d, 0x65e, 0x65f, 0x700, 0x701, 0x70c, 0x70d, 0x70e, 0x70f, 0x801, 0x804,
   0x806, 0x807, 0x811, 0x900, 0x901, 0x90b, 0x910, 0x911, 0xa00, 0xa01, 0xa05, 0xa16, 0xa17, 0xa28, 0xa29, 0xa2a,
   0xa2b, 0xa31, 0xa32, 0xa33, 0xa34, 0xb00, 0xb01, 0xb02, 0xb12, 0xb18, 0xc00, 0xc06, 0xc20, 0xc21, 0xc25, 0xc30,
   0xc34, 0xd00, 0xd01, 0xd11, 0xd12, 0xd18, 0xe00, 0xe01, 0xe14, 0x1000, 0x1001, 0x100c, 0x100d, 0x100e, 0x100f,
   0x1010, 0x1400, 0x1402, 0x1403, 0x1404, 0x1405, 0x1406, 0x1407, 0x1408, 0x1409, 0x140a, 0x140b, 0x140c, 0x140d,
   0x140f, 0x1410, 0x1411, 0x1412, 0x1413, 0x1414, 0x1415, 0x1416, 0x1417, 0x1418, 0x1430]

theorem execCensus_touch {W0 : List Nat} {s0 s : State} (h0 : Touch W0 s0 s) (hW : Sub execCensus_cells W0) (via : Via) :
    TouchOut W0 s0 (execCensus via s) := by
  have c_State_rowWrite : Sub State.rowWrite_cells W0 := Sub.trans (Sub.of rfl) hW
  unfold execCensus
  repeat' first
    | with_reducible assumption
    | with_reducible refine TouchOut.next ?_
    | with_reducible refine State.rowWrite_touch ?_ c_State_rowWrite _ _ _ _

def execLinktest_cells : List Nat :=
  [0x2, 0x3, 0x6, 0xa, 0x100, 0x101, 0x114, 0x200, 0x300, 0x301, 0x305, 0x30a, 0x318, 0x31a, 0x31f, 0x400, 0x401,
   0x405, 0x40b, 0x40e, 0x40f, 0x500, 0x501, 0x504, 0x623, 0x640, 0x641, 0x642, 0x643, 0x644, 0x645, 0x646, 0x647,
   0x648, 0x649, 0x64a, 0x64b, 0x64c, 0x64d, 0x64e, 0x64f, 0x650, 0x651, 0x652, 0x653, 0x654, 0x655, 0x656, 0x657,
   0x658, 0x659, 0x65a, 0x65b, 0x65c, 0x65d, 0x65e, 0x65f, 0x700, 0x701, 0x70c, 0x70d, 0x70e, 0x70f, 0x801, 0x804,
   0x806, 0x807, 0x811, 0x900, 0x901, 0x90b, 0x910, 0x911, 0xa00, 0xa01, 0xa05, 0xa16, 0xa17, 0xa28, 0xa29, 0xa2a,
   0xa2b, 0xa31, 0xa32, 0xa33, 0xa34, 0xb00, 0xb01, 0xb02, 0xb12, 0xb18, 0xc00, 0xc06, 0xc20, 0xc21, 0xc25, 0xc30,
   0xc34, 0xd00, 0xd01, 0xd11, 0xd12, 0xd18, 0xe00, 0xe01, 0xe14, 0x1000, 0x1001, 0x100c, 0x100d, 0x100e, 0x100f,
   0x1010, 0x1400, 0x1402, 0x1403, 0x1404, 0x1405, 0x1406, 0x1407, 0x1408, 0x1409, 0x140a, 0x140b, 0x140c, 0x140d,
   0x140f, 0x1410, 0x1411, 0x1412, 0x1413, 0x1414, 0x1415, 0x1416, 0x1417, 0x1418, 0x1430]

theorem execLinktest_touch {W0 : List Nat} {s0 s : State} (h0 : Touch W0 s0 s) (hW : Sub execLinktest_cells W0) (via : Via) :
    TouchOut W0 s0 (execLinktest via s) := by
  have c_State_rowWrite : Sub State.rowWrite_cells W0 := Sub.trans (Sub.of rfl) hW
  unfold execLinktest
  repeat' first
    | with_reducible assumption
    | with_reducible refine TouchOut.next ?_
    | with_reducible refine State.rowWrite_touch ?_ c_State_rowWrite _ _ _ _

def execReaddr_cells : List Nat :=
  [0x2, 0x3, 0x6, 0xa, 0x100, 0x101, 0x114, 0x200, 0x300, 0x301, 0x305, 0x30a, 0x318, 0x31a, 0x31f, 0x400, 0x401,
   0x405, 0x40b, 0x40e, 0x40f, 0x500, 0x501, 0x504, 0x623, 0x640, 0x641, 0x642, 0x643, 0x644, 0x645, 0x646, 0x647,
   0x648, 0x649, 0x64a, 0x64b, 0x64c, 0x64d, 0x64e, 0x64f, 0x650, 0x651, 0x652, 0x653, 0x654, 0x655, 0x656, 0x657,
   0x658, 0x659, 0x65a, 0x65b, 0x65c, 0x65d, 0x65e, 0x65f, 0x700, 0x701, 0x70c, 0x70d, 0x70e, 0x70f, 0x801, 0x804,
   0x806, 0x807, 0x811, 0x900, 0x901, 0x90b, 0x910, 0x911, 0xa00, 0xa01, 0xa05, 0xa16, 0xa17, 0xa28, 0xa29, 0xa2a,
   0xa2b, 0xa31, 0xa32, 0xa33, 0xa34, 0xb00, 0xb01, 0xb02, 0xb12, 0xb18, 0xc00, 0xc06, 0xc20, 0xc21, 0xc25, 0xc30,
   0xc34, 0xd00, 0xd01, 0xd11, 0xd12, 0xd18, 0xe00, 0xe01, 0xe14, 0x1000, 0x1001, 0x100c, 0x100d, 0x100e, 0x100f,
   0x1010, 0x1400, 0x1402, 0x1403, 0x1404, 0x1405, 0x1406, 0x1407, 0x1408, 0x1409, 0x140a, 0x140b, 0x140c, 0x140d,
   0x140f, 0x1410, 0x1411, 0x1412, 0x1413, 0x1414, 0x1415, 0x1416, 0x1417, 0x1418, 0x1430]

theorem execReaddr_touch {W0 : List Nat} {s0 s : State} (h0 : Touch W0 s0 s) (hW : Sub execReaddr_cells W0) (via : Via) :
    TouchOut W0 s0 (execReaddr via s) := by
  have c_State_rowWrite : Sub State.rowWrite_cells W0 := Sub.trans (Sub.of rfl) hW
  unfold execReaddr
  repeat' first
    | with_reducible assumption
    | with_reducible refine TouchOut.next ?_
    | with_reducible refine State.rowWrite_touch ?_ c_State_rowWrite _ _ _ _

def execMktCfgWrite_cells : List Nat :=
  [0x2, 0x3, 0x6, 0xa, 0x100, 0x101, 0x114, 0x200, 0x300, 0x301, 0x305, 0x30a, 0x318, 0x31a, 0x31f, 0x400, 0x401,
   0x405, 0x40b, 0x40e, 0x40f, 0x500, 0x501, 0x504, 0x623, 0x640, 0x641, 0x642, 0x643, 0x644, 0x645, 0x646, 0x647,
   0x648, 0x649, 0x64a, 0x64b, 0x64c, 0x64d, 0x64e, 0x64f, 0x650, 0x651, 0x652, 0x653, 0x654, 0x655, 0x656, 0x657,
   0x658, 0x659, 0x65a, 0x65b, 0x65c, 0x65d, 0x65e, 0x65f, 0x700, 0x701, 0x70c, 0x70d, 0x70e, 0x70f, 0x801, 0x804,
   0x806, 0x807, 0x811, 0x900, 0x901, 0x90b, 0x910, 0x911, 0xa00, 0xa01, 0xa05, 0xa16, 0xa17, 0xa28, 0xa29, 0xa2a,
   0xa2b, 0xa31, 0xa32, 0xa33, 0xa34, 0xb00, 0xb01, 0xb02, 0xb12, 0xb18, 0xc00, 0xc06, 0xc20, 0xc21, 0xc25, 0xc30,
   0xc34, 0xd00, 0xd01, 0xd11, 0xd12, 0xd18, 0xe00, 0xe01, 0xe14, 0x1000, 0x1001, 0x100c, 0x100d, 0x100e, 0x100f,
   0x1010, 0x1400, 0x1402, 0x1403, 0x1404, 0x1405, 0x1406, 0x1407, 0x1408, 0x1409, 0x140a, 0x140b, 0x140c, 0x140d,
   0x140f, 0x1410, 0x1411, 0x1412, 0x1413, 0x1414, 0x1415, 0x1416, 0x1417, 0x1418, 0x1430]

theorem execMktCfgWrite_touch {W0 : List Nat} {s0 s : State} (h0 : Touch W0 s0 s) (hW : Sub execMktCfgWrite_cells W0) (via : Via) (v : Word) :
    TouchOut W0 s0 (execMktCfgWrite via v s) := by
  have c_State_rowWrite : Sub State.rowWrite_cells W0 := Sub.trans (Sub.of rfl) hW
  unfold execMktCfgWrite
  repeat' first
    | with_reducible assumption
    | with_reducible refine TouchOut.next ?_
    | with_reducible refine State.rowWrite_touch ?_ c_State_rowWrite _ _ _ _

def execMktStallselWrite_cells : List Nat :=
  [0x2, 0x3, 0x6, 0xa, 0x100, 0x101, 0x114, 0x200, 0x300, 0x301, 0x305, 0x30a, 0x318, 0x31a, 0x31f, 0x400, 0x401,
   0x405, 0x40b, 0x40e, 0x40f, 0x500, 0x501, 0x504, 0x623, 0x640, 0x641, 0x642, 0x643, 0x644, 0x645, 0x646, 0x647,
   0x648, 0x649, 0x64a, 0x64b, 0x64c, 0x64d, 0x64e, 0x64f, 0x650, 0x651, 0x652, 0x653, 0x654, 0x655, 0x656, 0x657,
   0x658, 0x659, 0x65a, 0x65b, 0x65c, 0x65d, 0x65e, 0x65f, 0x700, 0x701, 0x70c, 0x70d, 0x70e, 0x70f, 0x801, 0x804,
   0x806, 0x807, 0x811, 0x900, 0x901, 0x90b, 0x910, 0x911, 0xa00, 0xa01, 0xa05, 0xa16, 0xa17, 0xa28, 0xa29, 0xa2a,
   0xa2b, 0xa31, 0xa32, 0xa33, 0xa34, 0xb00, 0xb01, 0xb02, 0xb12, 0xb18, 0xc00, 0xc06, 0xc20, 0xc21, 0xc25, 0xc30,
   0xc34, 0xd00, 0xd01, 0xd11, 0xd12, 0xd18, 0xe00, 0xe01, 0xe14, 0x1000, 0x1001, 0x100c, 0x100d, 0x100e, 0x100f,
   0x1010, 0x1400, 0x1402, 0x1403, 0x1404, 0x1405, 0x1406, 0x1407, 0x1408, 0x1409, 0x140a, 0x140b, 0x140c, 0x140d,
   0x140f, 0x1410, 0x1411, 0x1412, 0x1413, 0x1414, 0x1415, 0x1416, 0x1417, 0x1418, 0x1430]

theorem execMktStallselWrite_touch {W0 : List Nat} {s0 s : State} (h0 : Touch W0 s0 s) (hW : Sub execMktStallselWrite_cells W0) (via : Via) (v : Word) :
    TouchOut W0 s0 (execMktStallselWrite via v s) := by
  have c_State_rowWrite : Sub State.rowWrite_cells W0 := Sub.trans (Sub.of rfl) hW
  unfold execMktStallselWrite
  repeat' first
    | with_reducible assumption
    | with_reducible refine TouchOut.next ?_
    | with_reducible refine State.rowWrite_touch ?_ c_State_rowWrite _ _ _ _

def execMktStalltagWrite_cells : List Nat :=
  [0x2, 0x3, 0x6, 0xa, 0x100, 0x101, 0x114, 0x200, 0x300, 0x301, 0x305, 0x30a, 0x318, 0x31a, 0x31f, 0x400, 0x401,
   0x405, 0x40b, 0x40e, 0x40f, 0x500, 0x501, 0x504, 0x623, 0x640, 0x641, 0x642, 0x643, 0x644, 0x645, 0x646, 0x647,
   0x648, 0x649, 0x64a, 0x64b, 0x64c, 0x64d, 0x64e, 0x64f, 0x650, 0x651, 0x652, 0x653, 0x654, 0x655, 0x656, 0x657,
   0x658, 0x659, 0x65a, 0x65b, 0x65c, 0x65d, 0x65e, 0x65f, 0x700, 0x701, 0x70c, 0x70d, 0x70e, 0x70f, 0x801, 0x804,
   0x806, 0x807, 0x811, 0x900, 0x901, 0x90b, 0x910, 0x911, 0xa00, 0xa01, 0xa05, 0xa16, 0xa17, 0xa28, 0xa29, 0xa2a,
   0xa2b, 0xa31, 0xa32, 0xa33, 0xa34, 0xb00, 0xb01, 0xb02, 0xb12, 0xb18, 0xc00, 0xc06, 0xc20, 0xc21, 0xc25, 0xc30,
   0xc34, 0xd00, 0xd01, 0xd11, 0xd12, 0xd18, 0xe00, 0xe01, 0xe14, 0x1000, 0x1001, 0x100c, 0x100d, 0x100e, 0x100f,
   0x1010, 0x1400, 0x1402, 0x1403, 0x1404, 0x1405, 0x1406, 0x1407, 0x1408, 0x1409, 0x140a, 0x140b, 0x140c, 0x140d,
   0x140f, 0x1410, 0x1411, 0x1412, 0x1413, 0x1414, 0x1415, 0x1416, 0x1417, 0x1418, 0x1430]

theorem execMktStalltagWrite_touch {W0 : List Nat} {s0 s : State} (h0 : Touch W0 s0 s) (hW : Sub execMktStalltagWrite_cells W0) (via : Via) (v : Word) :
    TouchOut W0 s0 (execMktStalltagWrite via v s) := by
  have c_State_rowWrite : Sub State.rowWrite_cells W0 := Sub.trans (Sub.of rfl) hW
  unfold execMktStalltagWrite
  repeat' first
    | with_reducible assumption
    | with_reducible refine TouchOut.next ?_
    | with_reducible refine State.rowWrite_touch ?_ c_State_rowWrite _ _ _ _

def execClrcnt_cells : List Nat :=
  [0x2, 0x3, 0x6, 0xa, 0x100, 0x101, 0x114, 0x200, 0x300, 0x301, 0x305, 0x30a, 0x318, 0x31a, 0x31f, 0x400, 0x401,
   0x405, 0x40b, 0x40e, 0x40f, 0x500, 0x501, 0x504, 0x623, 0x640, 0x641, 0x642, 0x643, 0x644, 0x645, 0x646, 0x647,
   0x648, 0x649, 0x64a, 0x64b, 0x64c, 0x64d, 0x64e, 0x64f, 0x650, 0x651, 0x652, 0x653, 0x654, 0x655, 0x656, 0x657,
   0x658, 0x659, 0x65a, 0x65b, 0x65c, 0x65d, 0x65e, 0x65f, 0x700, 0x701, 0x70c, 0x70d, 0x70e, 0x70f, 0x801, 0x804,
   0x806, 0x807, 0x811, 0x900, 0x901, 0x90b, 0x910, 0x911, 0xa00, 0xa01, 0xa05, 0xa16, 0xa17, 0xa28, 0xa29, 0xa2a,
   0xa2b, 0xa31, 0xa32, 0xa33, 0xa34, 0xb00, 0xb01, 0xb02, 0xb12, 0xb18, 0xc00, 0xc06, 0xc20, 0xc21, 0xc25, 0xc30,
   0xc34, 0xd00, 0xd01, 0xd11, 0xd12, 0xd18, 0xe00, 0xe01, 0xe14, 0x1000, 0x1001, 0x100c, 0x100d, 0x100e, 0x100f,
   0x1010, 0x1400, 0x1402, 0x1403, 0x1404, 0x1405, 0x1406, 0x1407, 0x1408, 0x1409, 0x140a, 0x140b, 0x140c, 0x140d,
   0x140f, 0x1410, 0x1411, 0x1412, 0x1413, 0x1414, 0x1415, 0x1416, 0x1417, 0x1418, 0x1430]

theorem execClrcnt_touch {W0 : List Nat} {s0 s : State} (h0 : Touch W0 s0 s) (hW : Sub execClrcnt_cells W0) (via : Via) :
    TouchOut W0 s0 (execClrcnt via s) := by
  have c_State_rowWrite : Sub State.rowWrite_cells W0 := Sub.trans (Sub.of rfl) hW
  unfold execClrcnt
  repeat' first
    | with_reducible assumption
    | with_reducible refine TouchOut.next ?_
    | with_reducible refine State.rowWrite_touch ?_ c_State_rowWrite _ _ _ _

def execFlush_cells : List Nat :=
  [0x2, 0x3, 0x6, 0xa, 0x100, 0x101, 0x114, 0x200, 0x300, 0x301, 0x305, 0x30a, 0x318, 0x31a, 0x31f, 0x400, 0x401,
   0x405, 0x40b, 0x40e, 0x40f, 0x500, 0x501, 0x504, 0x623, 0x640, 0x641, 0x642, 0x643, 0x644, 0x645, 0x646, 0x647,
   0x648, 0x649, 0x64a, 0x64b, 0x64c, 0x64d, 0x64e, 0x64f, 0x650, 0x651, 0x652, 0x653, 0x654, 0x655, 0x656, 0x657,
   0x658, 0x659, 0x65a, 0x65b, 0x65c, 0x65d, 0x65e, 0x65f, 0x700, 0x701, 0x70c, 0x70d, 0x70e, 0x70f, 0x801, 0x804,
   0x806, 0x807, 0x811, 0x900, 0x901, 0x90b, 0x910, 0x911, 0xa00, 0xa01, 0xa05, 0xa16, 0xa17, 0xa28, 0xa29, 0xa2a,
   0xa2b, 0xa31, 0xa32, 0xa33, 0xa34, 0xb00, 0xb01, 0xb02, 0xb12, 0xb18, 0xc00, 0xc06, 0xc20, 0xc21, 0xc25, 0xc30,
   0xc34, 0xd00, 0xd01, 0xd11, 0xd12, 0xd18, 0xe00, 0xe01, 0xe14, 0x1000, 0x1001, 0x100c, 0x100d, 0x100e, 0x100f,
   0x1010, 0x1400, 0x1402, 0x1403, 0x1404, 0x1405, 0x1406, 0x1407, 0x1408, 0x1409, 0x140a, 0x140b, 0x140c, 0x140d,
   0x140f, 0x1410, 0x1411, 0x1412, 0x1413, 0x1414, 0x1415, 0x1416, 0x1417, 0x1418, 0x1430]

theorem execFlush_touch {W0 : List Nat} {s0 s : State} (h0 : Touch W0 s0 s) (hW : Sub execFlush_cells W0) (via : Via) :
    TouchOut W0 s0 (execFlush via s) := by
  have c_State_rowWrite : Sub State.rowWrite_cells W0 := Sub.trans (Sub.of rfl) hW
  unfold execFlush
  repeat' first
    | with_reducible assumption
    | with_reducible refine TouchOut.next ?_
    | with_reducible refine State.rowWrite_touch ?_ c_State_rowWrite _ _ _ _

def execLgrReadExact_cells : List Nat :=
  [0x2, 0x3, 0x6, 0xa, 0x100, 0x101, 0x114, 0x200, 0x300, 0x301, 0x305, 0x30a, 0x318, 0x31a, 0x31f, 0x400, 0x401,
   0x405, 0x40b, 0x40e, 0x40f, 0x500, 0x501, 0x504, 0x623, 0x640, 0x641, 0x642, 0x643, 0x644, 0x645, 0x646, 0x647,
   0x648, 0x649, 0x64a, 0x64b, 0x64c, 0x64d, 0x64e, 0x64f, 0x650, 0x651, 0x652, 0x653, 0x654, 0x655, 0x656, 0x657,
   0x658, 0x659, 0x65a, 0x65b, 0x65c, 0x65d, 0x65e, 0x65f, 0x700, 0x701, 0x70c, 0x70d, 0x70e, 0x70f, 0x801, 0x804,
   0x806, 0x807, 0x811, 0x900, 0x901, 0x90b, 0x910, 0x911, 0xa00, 0xa01, 0xa05, 0xa16, 0xa17, 0xa28, 0xa29, 0xa2a,
   0xa2b, 0xa31, 0xa32, 0xa33, 0xa34, 0xb00, 0xb01, 0xb02, 0xb12, 0xb18, 0xc00, 0xc06, 0xc20, 0xc21, 0xc25, 0xc30,
   0xc34, 0xd00, 0xd01, 0xd11, 0xd12, 0xd18, 0xe00, 0xe01, 0xe14, 0x1000, 0x1001, 0x100c, 0x100d, 0x100e, 0x100f,
   0x1010, 0x1400, 0x1402, 0x1403, 0x1404, 0x1405, 0x1406, 0x1407, 0x1408, 0x1409, 0x140a, 0x140b, 0x140c, 0x140d,
   0x140f, 0x1410, 0x1411, 0x1412, 0x1413, 0x1414, 0x1415, 0x1416, 0x1417, 0x1418, 0x1430]

theorem execLgrReadExact_touch {W0 : List Nat} {s0 s : State} (h0 : Touch W0 s0 s) (hW : Sub execLgrReadExact_cells W0) (via : Via) :
    TouchOut W0 s0 (execLgrReadExact via s) := by
  have c_State_rowWrite : Sub State.rowWrite_cells W0 := Sub.trans (Sub.of rfl) hW
  unfold execLgrReadExact
  repeat' first
    | with_reducible assumption
    | with_reducible refine TouchOut.next ?_
    | with_reducible refine State.rowWrite_touch ?_ c_State_rowWrite _ _ _ _

def execLgrReadNext_cells : List Nat :=
  [0x2, 0x3, 0x6, 0xa, 0x100, 0x101, 0x114, 0x200, 0x300, 0x301, 0x305, 0x30a, 0x318, 0x31a, 0x31f, 0x400, 0x401,
   0x405, 0x40b, 0x40e, 0x40f, 0x500, 0x501, 0x504, 0x623, 0x640, 0x641, 0x642, 0x643, 0x644, 0x645, 0x646, 0x647,
   0x648, 0x649, 0x64a, 0x64b, 0x64c, 0x64d, 0x64e, 0x64f, 0x650, 0x651, 0x652, 0x653, 0x654, 0x655, 0x656, 0x657,
   0x658, 0x659, 0x65a, 0x65b, 0x65c, 0x65d, 0x65e, 0x65f, 0x700, 0x701, 0x70c, 0x70d, 0x70e, 0x70f, 0x801, 0x804,
   0x806, 0x807, 0x811, 0x900, 0x901, 0x90b, 0x910, 0x911, 0xa00, 0xa01, 0xa05, 0xa16, 0xa17, 0xa28, 0xa29, 0xa2a,
   0xa2b, 0xa31, 0xa32, 0xa33, 0xa34, 0xb00, 0xb01, 0xb02, 0xb12, 0xb18, 0xc00, 0xc06, 0xc20, 0xc21, 0xc25, 0xc30,
   0xc34, 0xd00, 0xd01, 0xd11, 0xd12, 0xd18, 0xe00, 0xe01, 0xe14, 0x1000, 0x1001, 0x100c, 0x100d, 0x100e, 0x100f,
   0x1010, 0x1400, 0x1402, 0x1403, 0x1404, 0x1405, 0x1406, 0x1407, 0x1408, 0x1409, 0x140a, 0x140b, 0x140c, 0x140d,
   0x140f, 0x1410, 0x1411, 0x1412, 0x1413, 0x1414, 0x1415, 0x1416, 0x1417, 0x1418, 0x1430]

theorem execLgrReadNext_touch {W0 : List Nat} {s0 s : State} (h0 : Touch W0 s0 s) (hW : Sub execLgrReadNext_cells W0) (via : Via) :
    TouchOut W0 s0 (execLgrReadNext via s) := by
  have c_State_rowWrite : Sub State.rowWrite_cells W0 := Sub.trans (Sub.of rfl) hW
  unfold execLgrReadNext
  repeat' first
    | with_reducible assumption
    | with_reducible refine TouchOut.next ?_
    | with_reducible refine State.rowWrite_touch ?_ c_State_rowWrite _ _ _ _

def execLgrReadNextpin_cells : List Nat :=
  [0x2, 0x3, 0x6, 0xa, 0x100, 0x101, 0x114, 0x200, 0x300, 0x301, 0x305, 0x30a, 0x318, 0x31a, 0x31f, 0x400, 0x401,
   0x405, 0x40b, 0x40e, 0x40f, 0x500, 0x501, 0x504, 0x623, 0x640, 0x641, 0x642, 0x643, 0x644, 0x645, 0x646, 0x647,
   0x648, 0x649, 0x64a, 0x64b, 0x64c, 0x64d, 0x64e, 0x64f, 0x650, 0x651, 0x652, 0x653, 0x654, 0x655, 0x656, 0x657,
   0x658, 0x659, 0x65a, 0x65b, 0x65c, 0x65d, 0x65e, 0x65f, 0x700, 0x701, 0x70c, 0x70d, 0x70e, 0x70f, 0x801, 0x804,
   0x806, 0x807, 0x811, 0x900, 0x901, 0x90b, 0x910, 0x911, 0xa00, 0xa01, 0xa05, 0xa16, 0xa17, 0xa28, 0xa29, 0xa2a,
   0xa2b, 0xa31, 0xa32, 0xa33, 0xa34, 0xb00, 0xb01, 0xb02, 0xb12, 0xb18, 0xc00, 0xc06, 0xc20, 0xc21, 0xc25, 0xc30,
   0xc34, 0xd00, 0xd01, 0xd11, 0xd12, 0xd18, 0xe00, 0xe01, 0xe14, 0x1000, 0x1001, 0x100c, 0x100d, 0x100e, 0x100f,
   0x1010, 0x1400, 0x1402, 0x1403, 0x1404, 0x1405, 0x1406, 0x1407, 0x1408, 0x1409, 0x140a, 0x140b, 0x140c, 0x140d,
   0x140f, 0x1410, 0x1411, 0x1412, 0x1413, 0x1414, 0x1415, 0x1416, 0x1417, 0x1418, 0x1430]

theorem execLgrReadNextpin_touch {W0 : List Nat} {s0 s : State} (h0 : Touch W0 s0 s) (hW : Sub execLgrReadNextpin_cells W0) (via : Via) :
    TouchOut W0 s0 (execLgrReadNextpin via s) := by
  have c_State_rowWrite : Sub State.rowWrite_cells W0 := Sub.trans (Sub.of rfl) hW
  unfold execLgrReadNextpin
  repeat' first
    | with_reducible assumption
    | with_reducible refine TouchOut.next ?_
    | with_reducible refine State.rowWrite_touch ?_ c_State_rowWrite _ _ _ _

def execLgrRddataRead_cells : List Nat :=
  [0x6, 0xa, 0x901, 0xc20, 0xd00, 0xd01, 0xd12, 0x1010, 0x1403, 0x140c, 0x140f, 0x1411, 0x1415, 0x1416, 0x1430]

theorem execLgrRddataRead_touch {W0 : List Nat} {s0 s : State} (h0 : Touch W0 s0 s) (hW : Sub execLgrRddataRead_cells W0) (via : Via) (n : Nat) :
    TouchOut W0 s0 (execLgrRddataRead via n s) := by
  have c_State_rowRead : Sub State.rowRead_cells W0 := Sub.trans (Sub.of rfl) hW
  unfold execLgrRddataRead
  repeat' first
    | with_reducible assumption
    | with_reducible refine TouchOut.next ?_
    | with_reducible refine State.rowRead_touch ?_ c_State_rowRead _ _ _ _

def execLgrHostPost_cells : List Nat :=
  [0x2, 0x3, 0x6, 0xa, 0x100, 0x101, 0x114, 0x200, 0x300, 0x301, 0x305, 0x30a, 0x318, 0x31a, 0x31f, 0x400, 0x401,
   0x405, 0x40b, 0x40e, 0x40f, 0x500, 0x501, 0x504, 0x623, 0x640, 0x641, 0x642, 0x643, 0x644, 0x645, 0x646, 0x647,
   0x648, 0x649, 0x64a, 0x64b, 0x64c, 0x64d, 0x64e, 0x64f, 0x650, 0x651, 0x652, 0x653, 0x654, 0x655, 0x656, 0x657,
   0x658, 0x659, 0x65a, 0x65b, 0x65c, 0x65d, 0x65e, 0x65f, 0x700, 0x701, 0x70c, 0x70d, 0x70e, 0x70f, 0x801, 0x804,
   0x806, 0x807, 0x811, 0x900, 0x901, 0x90b, 0x910, 0x911, 0xa00, 0xa01, 0xa05, 0xa16, 0xa17, 0xa28, 0xa29, 0xa2a,
   0xa2b, 0xa31, 0xa32, 0xa33, 0xa34, 0xb00, 0xb01, 0xb02, 0xb12, 0xb18, 0xc00, 0xc06, 0xc20, 0xc21, 0xc25, 0xc30,
   0xc34, 0xd00, 0xd01, 0xd11, 0xd12, 0xd18, 0xe00, 0xe01, 0xe14, 0x1000, 0x1001, 0x100c, 0x100d, 0x100e, 0x100f,
   0x1010, 0x1400, 0x1402, 0x1403, 0x1404, 0x1405, 0x1406, 0x1407, 0x1408, 0x1409, 0x140a, 0x140b, 0x140c, 0x140d,
   0x140f, 0x1410, 0x1411, 0x1412, 0x1413, 0x1414, 0x1415, 0x1416, 0x1417, 0x1418, 0x1430]

theorem execLgrHostPost_touch {W0 : List Nat} {s0 s : State} (h0 : Touch W0 s0 s) (hW : Sub execLgrHostPost_cells W0) (via : Via) (v : Word) :
    TouchOut W0 s0 (execLgrHostPost via v s) := by
  have c_State_rowWrite : Sub State.rowWrite_cells W0 := Sub.trans (Sub.of rfl) hW
  unfold execLgrHostPost
  repeat' first
    | with_reducible assumption
    | with_reducible refine TouchOut.next ?_
    | with_reducible refine State.rowWrite_touch ?_ c_State_rowWrite _ _ _ _

def execTake_cells : List Nat :=
  [0x2, 0x3, 0x6, 0xa, 0x100, 0x101, 0x114, 0x200, 0x300, 0x301, 0x305, 0x30a, 0x318, 0x31a, 0x31f, 0x400, 0x401,
   0x405, 0x40b, 0x40e, 0x40f, 0x500, 0x501, 0x504, 0x623, 0x640, 0x641, 0x642, 0x643, 0x644, 0x645, 0x646, 0x647,
   0x648, 0x649, 0x64a, 0x64b, 0x64c, 0x64d, 0x64e, 0x64f, 0x650, 0x651, 0x652, 0x653, 0x654, 0x655, 0x656, 0x657,
   0x658, 0x659, 0x65a, 0x65b, 0x65c, 0x65d, 0x65e, 0x65f, 0x700, 0x701, 0x70c, 0x70d, 0x70e, 0x70f, 0x801, 0x804,
   0x806, 0x807, 0x811, 0x900, 0x901, 0x90b, 0x910, 0x911, 0xa00, 0xa01, 0xa05, 0xa16, 0xa17, 0xa28, 0xa29, 0xa2a,
   0xa2b, 0xa31, 0xa32, 0xa33, 0xa34, 0xb00, 0xb01, 0xb02, 0xb12, 0xb18, 0xc00, 0xc06, 0xc20, 0xc21, 0xc25, 0xc30,
   0xc34, 0xd00, 0xd01, 0xd11, 0xd12, 0xd18, 0xe00, 0xe01, 0xe14, 0x1000, 0x1001, 0x100c, 0x100d, 0x100e, 0x100f,
   0x1010, 0x1400, 0x1402, 0x1403, 0x1404, 0x1405, 0x1406, 0x1407, 0x1408, 0x1409, 0x140a, 0x140b, 0x140c, 0x140d,
   0x140f, 0x1410, 0x1411, 0x1412, 0x1413, 0x1414, 0x1415, 0x1416, 0x1417, 0x1418, 0x1430]

theorem execTake_touch {W0 : List Nat} {s0 s : State} (h0 : Touch W0 s0 s) (hW : Sub execTake_cells W0) (on : Bool) :
    TouchOut W0 s0 (execTake on s) := by
  have c_State_rowWrite : Sub State.rowWrite_cells W0 := Sub.trans (Sub.of rfl) hW
  unfold execTake
  repeat' first
    | with_reducible assumption
    | with_reducible refine TouchOut.next ?_
    | with_reducible refine State.rowWrite_touch ?_ c_State_rowWrite _ _ _ _

def State.portAct_cells : List Nat :=
  [0x2, 0x3, 0x6, 0xa, 0x100, 0x101, 0x114, 0x200, 0x300, 0x301, 0x305, 0x30a, 0x318, 0x31a, 0x31f, 0x400, 0x401,
   0x405, 0x40b, 0x40e, 0x40f, 0x500, 0x501, 0x504, 0x623, 0x640, 0x641, 0x642, 0x643, 0x644, 0x645, 0x646, 0x647,
   0x648, 0x649, 0x64a, 0x64b, 0x64c, 0x64d, 0x64e, 0x64f, 0x650, 0x651, 0x652, 0x653, 0x654, 0x655, 0x656, 0x657,
   0x658, 0x659, 0x65a, 0x65b, 0x65c, 0x65d, 0x65e, 0x65f, 0x700, 0x701, 0x70c, 0x70d, 0x70e, 0x70f, 0x801, 0x804,
   0x806, 0x807, 0x811, 0x900, 0x901, 0x90b, 0x910, 0x911, 0xa00, 0xa01, 0xa05, 0xa16, 0xa17, 0xa28, 0xa29, 0xa2a,
   0xa2b, 0xa31, 0xa32, 0xa33, 0xa34, 0xb00, 0xb01, 0xb02, 0xb12, 0xb18, 0xc00, 0xc06, 0xc20, 0xc21, 0xc25, 0xc30,
   0xc34, 0xd00, 0xd01, 0xd11, 0xd12, 0xd18, 0xe00, 0xe01, 0xe14, 0x1000, 0x1001, 0x100c, 0x100d, 0x100e, 0x100f,
   0x1010, 0x1400, 0x1402, 0x1403, 0x1404, 0x1405, 0x1406, 0x1407, 0x1408, 0x1409, 0x140a, 0x140b, 0x140c, 0x140d,
   0x140f, 0x1410, 0x1411, 0x1412, 0x1413, 0x1414, 0x1415, 0x1416, 0x1417, 0x1418, 0x1430]

theorem State.portAct_touch {W0 : List Nat} {s0 s : State} (h0 : Touch W0 s0 s) (hW : Sub State.portAct_cells W0) (via : Via) (bit : Word) :
    Touch W0 s0 (State.portAct s via bit) := by
  have c_State_rowWrite : Sub State.rowWrite_cells W0 := Sub.trans (Sub.of rfl) hW
  unfold State.portAct
  repeat' first
    | with_reducible assumption
    | with_reducible refine State.rowWrite_touch ?_ c_State_rowWrite _ _ _ _

def execReneg_cells : List Nat :=
  [0x2, 0x3, 0x6, 0xa, 0x100, 0x101, 0x114, 0x200, 0x300, 0x301, 0x305, 0x30a, 0x318, 0x31a, 0x31f, 0x400, 0x401,
   0x405, 0x40b, 0x40e, 0x40f, 0x500, 0x501, 0x504, 0x623, 0x640, 0x641, 0x642, 0x643, 0x644, 0x645, 0x646, 0x647,
   0x648, 0x649, 0x64a, 0x64b, 0x64c, 0x64d, 0x64e, 0x64f, 0x650, 0x651, 0x652, 0x653, 0x654, 0x655, 0x656, 0x657,
   0x658, 0x659, 0x65a, 0x65b, 0x65c, 0x65d, 0x65e, 0x65f, 0x700, 0x701, 0x70c, 0x70d, 0x70e, 0x70f, 0x801, 0x804,
   0x806, 0x807, 0x811, 0x900, 0x901, 0x90b, 0x910, 0x911, 0xa00, 0xa01, 0xa05, 0xa16, 0xa17, 0xa28, 0xa29, 0xa2a,
   0xa2b, 0xa31, 0xa32, 0xa33, 0xa34, 0xb00, 0xb01, 0xb02, 0xb12, 0xb18, 0xc00, 0xc06, 0xc20, 0xc21, 0xc25, 0xc30,
   0xc34, 0xd00, 0xd01, 0xd11, 0xd12, 0xd18, 0xe00, 0xe01, 0xe14, 0x1000, 0x1001, 0x100c, 0x100d, 0x100e, 0x100f,
   0x1010, 0x1400, 0x1402, 0x1403, 0x1404, 0x1405, 0x1406, 0x1407, 0x1408, 0x1409, 0x140a, 0x140b, 0x140c, 0x140d,
   0x140f, 0x1410, 0x1411, 0x1412, 0x1413, 0x1414, 0x1415, 0x1416, 0x1417, 0x1418, 0x1430]

theorem execReneg_touch {W0 : List Nat} {s0 s : State} (h0 : Touch W0 s0 s) (hW : Sub execReneg_cells W0) (via : Via) :
    TouchOut W0 s0 (execReneg via s) := by
  have c_State_portAct : Sub State.portAct_cells W0 := Sub.trans (Sub.of rfl) hW
  unfold execReneg
  repeat' first
    | with_reducible assumption
    | with_reducible refine TouchOut.next ?_
    | with_reducible refine State.portAct_touch ?_ c_State_portAct _ _

def execGetcaps_cells : List Nat :=
  [0x2, 0x3, 0x6, 0xa, 0x100, 0x101, 0x114, 0x200, 0x300, 0x301, 0x305, 0x30a, 0x318, 0x31a, 0x31f, 0x400, 0x401,
   0x405, 0x40b, 0x40e, 0x40f, 0x500, 0x501, 0x504, 0x623, 0x640, 0x641, 0x642, 0x643, 0x644, 0x645, 0x646, 0x647,
   0x648, 0x649, 0x64a, 0x64b, 0x64c, 0x64d, 0x64e, 0x64f, 0x650, 0x651, 0x652, 0x653, 0x654, 0x655, 0x656, 0x657,
   0x658, 0x659, 0x65a, 0x65b, 0x65c, 0x65d, 0x65e, 0x65f, 0x700, 0x701, 0x70c, 0x70d, 0x70e, 0x70f, 0x801, 0x804,
   0x806, 0x807, 0x811, 0x900, 0x901, 0x90b, 0x910, 0x911, 0xa00, 0xa01, 0xa05, 0xa16, 0xa17, 0xa28, 0xa29, 0xa2a,
   0xa2b, 0xa31, 0xa32, 0xa33, 0xa34, 0xb00, 0xb01, 0xb02, 0xb12, 0xb18, 0xc00, 0xc06, 0xc20, 0xc21, 0xc25, 0xc30,
   0xc34, 0xd00, 0xd01, 0xd11, 0xd12, 0xd18, 0xe00, 0xe01, 0xe14, 0x1000, 0x1001, 0x100c, 0x100d, 0x100e, 0x100f,
   0x1010, 0x1400, 0x1402, 0x1403, 0x1404, 0x1405, 0x1406, 0x1407, 0x1408, 0x1409, 0x140a, 0x140b, 0x140c, 0x140d,
   0x140f, 0x1410, 0x1411, 0x1412, 0x1413, 0x1414, 0x1415, 0x1416, 0x1417, 0x1418, 0x1430]

theorem execGetcaps_touch {W0 : List Nat} {s0 s : State} (h0 : Touch W0 s0 s) (hW : Sub execGetcaps_cells W0) (via : Via) :
    TouchOut W0 s0 (execGetcaps via s) := by
  have c_State_portAct : Sub State.portAct_cells W0 := Sub.trans (Sub.of rfl) hW
  unfold execGetcaps
  repeat' first
    | with_reducible assumption
    | with_reducible refine TouchOut.next ?_
    | with_reducible refine State.portAct_touch ?_ c_State_portAct _ _

def execExitsvc_cells : List Nat :=
  [0x2, 0x3, 0x6, 0xa, 0x100, 0x101, 0x114, 0x200, 0x300, 0x301, 0x305, 0x30a, 0x318, 0x31a, 0x31f, 0x400, 0x401,
   0x405, 0x40b, 0x40e, 0x40f, 0x500, 0x501, 0x504, 0x623, 0x640, 0x641, 0x642, 0x643, 0x644, 0x645, 0x646, 0x647,
   0x648, 0x649, 0x64a, 0x64b, 0x64c, 0x64d, 0x64e, 0x64f, 0x650, 0x651, 0x652, 0x653, 0x654, 0x655, 0x656, 0x657,
   0x658, 0x659, 0x65a, 0x65b, 0x65c, 0x65d, 0x65e, 0x65f, 0x700, 0x701, 0x70c, 0x70d, 0x70e, 0x70f, 0x801, 0x804,
   0x806, 0x807, 0x811, 0x900, 0x901, 0x90b, 0x910, 0x911, 0xa00, 0xa01, 0xa05, 0xa16, 0xa17, 0xa28, 0xa29, 0xa2a,
   0xa2b, 0xa31, 0xa32, 0xa33, 0xa34, 0xb00, 0xb01, 0xb02, 0xb12, 0xb18, 0xc00, 0xc06, 0xc20, 0xc21, 0xc25, 0xc30,
   0xc34, 0xd00, 0xd01, 0xd11, 0xd12, 0xd18, 0xe00, 0xe01, 0xe14, 0x1000, 0x1001, 0x100c, 0x100d, 0x100e, 0x100f,
   0x1010, 0x1400, 0x1402, 0x1403, 0x1404, 0x1405, 0x1406, 0x1407, 0x1408, 0x1409, 0x140a, 0x140b, 0x140c, 0x140d,
   0x140f, 0x1410, 0x1411, 0x1412, 0x1413, 0x1414, 0x1415, 0x1416, 0x1417, 0x1418, 0x1430]

theorem execExitsvc_touch {W0 : List Nat} {s0 s : State} (h0 : Touch W0 s0 s) (hW : Sub execExitsvc_cells W0) (via : Via) :
    TouchOut W0 s0 (execExitsvc via s) := by
  have c_State_portAct : Sub State.portAct_cells W0 := Sub.trans (Sub.of rfl) hW
  unfold execExitsvc
  repeat' first
    | with_reducible assumption
    | with_reducible refine TouchOut.next ?_
    | with_reducible refine State.portAct_touch ?_ c_State_portAct _ _

def execSvcCtrlClose_cells : List Nat :=
  [0x2, 0x3, 0x6, 0xa, 0x100, 0x101, 0x114, 0x200, 0x300, 0x301, 0x305, 0x30a, 0x318, 0x31a, 0x31f, 0x400, 0x401,
   0x405, 0x40b, 0x40e, 0x40f, 0x500, 0x501, 0x504, 0x623, 0x640, 0x641, 0x642, 0x643, 0x644, 0x645, 0x646, 0x647,
   0x648, 0x649, 0x64a, 0x64b, 0x64c, 0x64d, 0x64e, 0x64f, 0x650, 0x651, 0x652, 0x653, 0x654, 0x655, 0x656, 0x657,
   0x658, 0x659, 0x65a, 0x65b, 0x65c, 0x65d, 0x65e, 0x65f, 0x700, 0x701, 0x70c, 0x70d, 0x70e, 0x70f, 0x801, 0x804,
   0x806, 0x807, 0x811, 0x900, 0x901, 0x90b, 0x910, 0x911, 0xa00, 0xa01, 0xa05, 0xa16, 0xa17, 0xa28, 0xa29, 0xa2a,
   0xa2b, 0xa31, 0xa32, 0xa33, 0xa34, 0xb00, 0xb01, 0xb02, 0xb12, 0xb18, 0xc00, 0xc06, 0xc20, 0xc21, 0xc25, 0xc30,
   0xc34, 0xd00, 0xd01, 0xd11, 0xd12, 0xd18, 0xe00, 0xe01, 0xe14, 0x1000, 0x1001, 0x100c, 0x100d, 0x100e, 0x100f,
   0x1010, 0x1400, 0x1402, 0x1403, 0x1404, 0x1405, 0x1406, 0x1407, 0x1408, 0x1409, 0x140a, 0x140b, 0x140c, 0x140d,
   0x140f, 0x1410, 0x1411, 0x1412, 0x1413, 0x1414, 0x1415, 0x1416, 0x1417, 0x1418, 0x1430]

theorem execSvcCtrlClose_touch {W0 : List Nat} {s0 s : State} (h0 : Touch W0 s0 s) (hW : Sub execSvcCtrlClose_cells W0) (via : Via) :
    TouchOut W0 s0 (execSvcCtrlClose via s) := by
  have c_State_rowWrite : Sub State.rowWrite_cells W0 := Sub.trans (Sub.of rfl) hW
  unfold execSvcCtrlClose
  repeat' first
    | with_reducible assumption
    | with_reducible refine TouchOut.next ?_
    | with_reducible refine State.rowWrite_touch ?_ c_State_rowWrite _ _ _ _

def execOptAnsdataRead_cells : List Nat :=
  [0x6, 0xa, 0x901, 0xc20, 0xd00, 0xd01, 0xd12, 0x1010, 0x1403, 0x140c, 0x140f, 0x1411, 0x1415, 0x1416, 0x1430]

theorem execOptAnsdataRead_touch {W0 : List Nat} {s0 s : State} (h0 : Touch W0 s0 s) (hW : Sub execOptAnsdataRead_cells W0) (via : Via) (n : Nat) :
    TouchOut W0 s0 (execOptAnsdataRead via n s) := by
  have c_State_rowRead : Sub State.rowRead_cells W0 := Sub.trans (Sub.of rfl) hW
  unfold execOptAnsdataRead
  repeat' first
    | with_reducible assumption
    | with_reducible refine TouchOut.next ?_
    | with_reducible refine State.rowRead_touch ?_ c_State_rowRead _ _ _ _

def execCfgStgaddrWrite_cells : List Nat :=
  [0x2, 0x3, 0x6, 0xa, 0x100, 0x101, 0x114, 0x200, 0x300, 0x301, 0x305, 0x30a, 0x318, 0x31a, 0x31f, 0x400, 0x401,
   0x405, 0x40b, 0x40e, 0x40f, 0x500, 0x501, 0x504, 0x623, 0x640, 0x641, 0x642, 0x643, 0x644, 0x645, 0x646, 0x647,
   0x648, 0x649, 0x64a, 0x64b, 0x64c, 0x64d, 0x64e, 0x64f, 0x650, 0x651, 0x652, 0x653, 0x654, 0x655, 0x656, 0x657,
   0x658, 0x659, 0x65a, 0x65b, 0x65c, 0x65d, 0x65e, 0x65f, 0x700, 0x701, 0x70c, 0x70d, 0x70e, 0x70f, 0x801, 0x804,
   0x806, 0x807, 0x811, 0x900, 0x901, 0x90b, 0x910, 0x911, 0xa00, 0xa01, 0xa05, 0xa16, 0xa17, 0xa28, 0xa29, 0xa2a,
   0xa2b, 0xa31, 0xa32, 0xa33, 0xa34, 0xb00, 0xb01, 0xb02, 0xb12, 0xb18, 0xc00, 0xc06, 0xc20, 0xc21, 0xc25, 0xc30,
   0xc34, 0xd00, 0xd01, 0xd11, 0xd12, 0xd18, 0xe00, 0xe01, 0xe14, 0x1000, 0x1001, 0x100c, 0x100d, 0x100e, 0x100f,
   0x1010, 0x1400, 0x1402, 0x1403, 0x1404, 0x1405, 0x1406, 0x1407, 0x1408, 0x1409, 0x140a, 0x140b, 0x140c, 0x140d,
   0x140f, 0x1410, 0x1411, 0x1412, 0x1413, 0x1414, 0x1415, 0x1416, 0x1417, 0x1418, 0x1430]

theorem execCfgStgaddrWrite_touch {W0 : List Nat} {s0 s : State} (h0 : Touch W0 s0 s) (hW : Sub execCfgStgaddrWrite_cells W0) (via : Via) (v : Word) :
    TouchOut W0 s0 (execCfgStgaddrWrite via v s) := by
  have c_State_rowWrite : Sub State.rowWrite_cells W0 := Sub.trans (Sub.of rfl) hW
  unfold execCfgStgaddrWrite
  repeat' first
    | with_reducible assumption
    | with_reducible refine TouchOut.next ?_
    | with_reducible refine State.rowWrite_touch ?_ c_State_rowWrite _ _ _ _

def execCfgStgdataAccess_cells : List Nat :=
  [0x2, 0x3, 0x6, 0xa, 0x100, 0x101, 0x114, 0x200, 0x300, 0x301, 0x305, 0x30a, 0x318, 0x31a, 0x31f, 0x400, 0x401,
   0x405, 0x40b, 0x40e, 0x40f, 0x500, 0x501, 0x504, 0x623, 0x640, 0x641, 0x642, 0x643, 0x644, 0x645, 0x646, 0x647,
   0x648, 0x649, 0x64a, 0x64b, 0x64c, 0x64d, 0x64e, 0x64f, 0x650, 0x651, 0x652, 0x653, 0x654, 0x655, 0x656, 0x657,
   0x658, 0x659, 0x65a, 0x65b, 0x65c, 0x65d, 0x65e, 0x65f, 0x700, 0x701, 0x70c, 0x70d, 0x70e, 0x70f, 0x801, 0x804,
   0x806, 0x807, 0x811, 0x900, 0x901, 0x90b, 0x910, 0x911, 0xa00, 0xa01, 0xa05, 0xa16, 0xa17, 0xa28, 0xa29, 0xa2a,
   0xa2b, 0xa31, 0xa32, 0xa33, 0xa34, 0xb00, 0xb01, 0xb02, 0xb12, 0xb18, 0xc00, 0xc06, 0xc20, 0xc21, 0xc25, 0xc30,
   0xc34, 0xd00, 0xd01, 0xd11, 0xd12, 0xd18, 0xe00, 0xe01, 0xe14, 0x1000, 0x1001, 0x100c, 0x100d, 0x100e, 0x100f,
   0x1010, 0x1400, 0x1402, 0x1403, 0x1404, 0x1405, 0x1406, 0x1407, 0x1408, 0x1409, 0x140a, 0x140b, 0x140c, 0x140d,
   0x140f, 0x1410, 0x1411, 0x1412, 0x1413, 0x1414, 0x1415, 0x1416, 0x1417, 0x1418, 0x1430]

theorem execCfgStgdataAccess_touch {W0 : List Nat} {s0 s : State} (h0 : Touch W0 s0 s) (hW : Sub execCfgStgdataAccess_cells W0) (via : Via) (v : Option Word) (n : Nat) :
    TouchOut W0 s0 (execCfgStgdataAccess via v n s) := by
  have c_State_rowWrite : Sub State.rowWrite_cells W0 := Sub.trans (Sub.of rfl) hW
  have c_State_rowRead : Sub State.rowRead_cells W0 := Sub.trans (Sub.of rfl) hW
  unfold execCfgStgdataAccess
  repeat' first
    | with_reducible assumption
    | with_reducible refine TouchOut.next ?_
    | with_reducible refine State.rowWrite_touch ?_ c_State_rowWrite _ _ _ _
    | with_reducible refine State.rowRead_touch ?_ c_State_rowRead _ _ _ _
    | split

def execSnapTake_cells : List Nat :=
  [0x2, 0x3, 0x6, 0xa, 0x100, 0x101, 0x114, 0x200, 0x300, 0x301, 0x305, 0x30a, 0x318, 0x31a, 0x31f, 0x400, 0x401,
   0x405, 0x40b, 0x40e, 0x40f, 0x500, 0x501, 0x504, 0x623, 0x640, 0x641, 0x642, 0x643, 0x644, 0x645, 0x646, 0x647,
   0x648, 0x649, 0x64a, 0x64b, 0x64c, 0x64d, 0x64e, 0x64f, 0x650, 0x651, 0x652, 0x653, 0x654, 0x655, 0x656, 0x657,
   0x658, 0x659, 0x65a, 0x65b, 0x65c, 0x65d, 0x65e, 0x65f, 0x700, 0x701, 0x70c, 0x70d, 0x70e, 0x70f, 0x801, 0x804,
   0x806, 0x807, 0x811, 0x900, 0x901, 0x90b, 0x910, 0x911, 0xa00, 0xa01, 0xa05, 0xa16, 0xa17, 0xa28, 0xa29, 0xa2a,
   0xa2b, 0xa31, 0xa32, 0xa33, 0xa34, 0xb00, 0xb01, 0xb02, 0xb12, 0xb18, 0xc00, 0xc06, 0xc20, 0xc21, 0xc25, 0xc30,
   0xc34, 0xd00, 0xd01, 0xd11, 0xd12, 0xd18, 0xe00, 0xe01, 0xe14, 0x1000, 0x1001, 0x100c, 0x100d, 0x100e, 0x100f,
   0x1010, 0x1400, 0x1402, 0x1403, 0x1404, 0x1405, 0x1406, 0x1407, 0x1408, 0x1409, 0x140a, 0x140b, 0x140c, 0x140d,
   0x140f, 0x1410, 0x1411, 0x1412, 0x1413, 0x1414, 0x1415, 0x1416, 0x1417, 0x1418, 0x1430]

theorem execSnapTake_touch {W0 : List Nat} {s0 s : State} (h0 : Touch W0 s0 s) (hW : Sub execSnapTake_cells W0) (via : Via) (reading : Bool) :
    TouchOut W0 s0 (execSnapTake via reading s) := by
  have c_State_loseKey : Sub State.loseKey_cells W0 := Sub.trans (Sub.of rfl) hW
  have c_State_snapTake : Sub State.snapTake_cells W0 := Sub.trans (Sub.of rfl) hW
  have c_State_oneWrite : Sub State.oneWrite_cells W0 := Sub.trans (Sub.of rfl) hW
  unfold execSnapTake
  repeat' first
    | with_reducible assumption
    | with_reducible refine TouchOut.next ?_
    | with_reducible refine State.loseKey_touch ?_ c_State_loseKey _
    | with_reducible refine State.snapTake_touch ?_ c_State_snapTake _
    | with_reducible refine State.oneWrite_touch ?_ c_State_oneWrite _ _ _ _
    | with_reducible refine State.whenLive_touch ?_ _ ?_
    | with_reducible refine Touch.ite ?_ ?_
    | with_reducible intro _ _

def execSnapUpdateAtStop_cells : List Nat :=
  [0x1403, 0x1430]

theorem execSnapUpdateAtStop_touch {W0 : List Nat} {s0 s : State} (h0 : Touch W0 s0 s) (hW : Sub execSnapUpdateAtStop_cells W0) :
    TouchOut W0 s0 (execSnapUpdateAtStop s) := by
  have c_State_snapShow : Sub State.snapShow_cells W0 := Sub.trans (Sub.of rfl) hW
  unfold execSnapUpdateAtStop
  repeat' first
    | with_reducible assumption
    | with_reducible refine TouchOut.next ?_
    | with_reducible refine State.snapShow_touch ?_ c_State_snapShow
    | with_reducible refine State.whenLive_touch ?_ _ ?_
    | with_reducible intro _ _

def execClkTimesetWrite_cells : List Nat :=
  [0x2, 0x3, 0x6, 0xa, 0x100, 0x101, 0x114, 0x200, 0x300, 0x301, 0x305, 0x30a, 0x318, 0x31a, 0x31f, 0x400, 0x401,
   0x405, 0x40b, 0x40e, 0x40f, 0x500, 0x501, 0x504, 0x623, 0x640, 0x641, 0x642, 0x643, 0x644, 0x645, 0x646, 0x647,
   0x648, 0x649, 0x64a, 0x64b, 0x64c, 0x64d, 0x64e, 0x64f, 0x650, 0x651, 0x652, 0x653, 0x654, 0x655, 0x656, 0x657,
   0x658, 0x659, 0x65a, 0x65b, 0x65c, 0x65d, 0x65e, 0x65f, 0x700, 0x701, 0x70c, 0x70d, 0x70e, 0x70f, 0x801, 0x804,
   0x806, 0x807, 0x811, 0x900, 0x901, 0x90b, 0x910, 0x911, 0xa00, 0xa01, 0xa05, 0xa16, 0xa17, 0xa28, 0xa29, 0xa2a,
   0xa2b, 0xa31, 0xa32, 0xa33, 0xa34, 0xb00, 0xb01, 0xb02, 0xb12, 0xb18, 0xc00, 0xc06, 0xc20, 0xc21, 0xc25, 0xc30,
   0xc34, 0xd00, 0xd01, 0xd11, 0xd12, 0xd18, 0xe00, 0xe01, 0xe14, 0x1000, 0x1001, 0x100c, 0x100d, 0x100e, 0x100f,
   0x1010, 0x1400, 0x1402, 0x1403, 0x1404, 0x1405, 0x1406, 0x1407, 0x1408, 0x1409, 0x140a, 0x140b, 0x140c, 0x140d,
   0x140f, 0x1410, 0x1411, 0x1412, 0x1413, 0x1414, 0x1415, 0x1416, 0x1417, 0x1418, 0x1430]

theorem execClkTimesetWrite_touch {W0 : List Nat} {s0 s : State} (h0 : Touch W0 s0 s) (hW : Sub execClkTimesetWrite_cells W0) (via : Via) (hi : Word) (mid : Word) (lo : Word) :
    TouchOut W0 s0 (execClkTimesetWrite via hi mid lo s) := by
  have c_State_wordsWrite : Sub State.wordsWrite_cells W0 := Sub.trans (Sub.of rfl) hW
  unfold execClkTimesetWrite
  repeat' first
    | with_reducible assumption
    | with_reducible refine TouchOut.next ?_
    | with_reducible refine State.wordsWrite_touch ?_ c_State_wordsWrite _ _ _ _
    | with_reducible refine State.whenLive_touch ?_ _ ?_
    | with_reducible intro _ _
    | split

def execHwdKick_cells : List Nat :=
  [0x2, 0x3, 0x6, 0xa, 0x100, 0x101, 0x114, 0x200, 0x300, 0x301, 0x305, 0x30a, 0x318, 0x31a, 0x31f, 0x400, 0x401,
   0x405, 0x40b, 0x40e, 0x40f, 0x500, 0x501, 0x504, 0x623, 0x640, 0x641, 0x642, 0x643, 0x644, 0x645, 0x646, 0x647,
   0x648, 0x649, 0x64a, 0x64b, 0x64c, 0x64d, 0x64e, 0x64f, 0x650, 0x651, 0x652, 0x653, 0x654, 0x655, 0x656, 0x657,
   0x658, 0x659, 0x65a, 0x65b, 0x65c, 0x65d, 0x65e, 0x65f, 0x700, 0x701, 0x70c, 0x70d, 0x70e, 0x70f, 0x801, 0x804,
   0x806, 0x807, 0x811, 0x900, 0x901, 0x90b, 0x910, 0x911, 0xa00, 0xa01, 0xa05, 0xa16, 0xa17, 0xa28, 0xa29, 0xa2a,
   0xa2b, 0xa31, 0xa32, 0xa33, 0xa34, 0xb00, 0xb01, 0xb02, 0xb12, 0xb18, 0xc00, 0xc06, 0xc20, 0xc21, 0xc25, 0xc30,
   0xc34, 0xd00, 0xd01, 0xd11, 0xd12, 0xd18, 0xe00, 0xe01, 0xe14, 0x1000, 0x1001, 0x100c, 0x100d, 0x100e, 0x100f,
   0x1010, 0x1400, 0x1402, 0x1403, 0x1404, 0x1405, 0x1406, 0x1407, 0x1408, 0x1409, 0x140a, 0x140b, 0x140c, 0x140d,
   0x140f, 0x1410, 0x1411, 0x1412, 0x1413, 0x1414, 0x1415, 0x1416, 0x1417, 0x1418, 0x1430]

theorem execHwdKick_touch {W0 : List Nat} {s0 s : State} (h0 : Touch W0 s0 s) (hW : Sub execHwdKick_cells W0) (via : Via) (v : Word) :
    TouchOut W0 s0 (execHwdKick via v s) := by
  have c_State_rowWrite : Sub State.rowWrite_cells W0 := Sub.trans (Sub.of rfl) hW
  unfold execHwdKick
  repeat' first
    | with_reducible assumption
    | with_reducible refine TouchOut.next ?_
    | with_reducible refine State.rowWrite_touch ?_ c_State_rowWrite _ _ _ _

def execHwdConfigWrite_cells : List Nat :=
  [0x2, 0x3, 0x6, 0xa, 0x100, 0x101, 0x114, 0x200, 0x300, 0x301, 0x305, 0x30a, 0x318, 0x31a, 0x31f, 0x400, 0x401,
   0x405, 0x40b, 0x40e, 0x40f, 0x500, 0x501, 0x504, 0x623, 0x640, 0x641, 0x642, 0x643, 0x644, 0x645, 0x646, 0x647,
   0x648, 0x649, 0x64a, 0x64b, 0x64c, 0x64d, 0x64e, 0x64f, 0x650, 0x651, 0x652, 0x653, 0x654, 0x655, 0x656, 0x657,
   0x658, 0x659, 0x65a, 0x65b, 0x65c, 0x65d, 0x65e, 0x65f, 0x700, 0x701, 0x70c, 0x70d, 0x70e, 0x70f, 0x801, 0x804,
   0x806, 0x807, 0x811, 0x900, 0x901, 0x90b, 0x910, 0x911, 0xa00, 0xa01, 0xa05, 0xa16, 0xa17, 0xa28, 0xa29, 0xa2a,
   0xa2b, 0xa31, 0xa32, 0xa33, 0xa34, 0xb00, 0xb01, 0xb02, 0xb12, 0xb18, 0xc00, 0xc06, 0xc20, 0xc21, 0xc25, 0xc30,
   0xc34, 0xd00, 0xd01, 0xd11, 0xd12, 0xd18, 0xe00, 0xe01, 0xe14, 0x1000, 0x1001, 0x100c, 0x100d, 0x100e, 0x100f,
   0x1010, 0x1400, 0x1402, 0x1403, 0x1404, 0x1405, 0x1406, 0x1407, 0x1408, 0x1409, 0x140a, 0x140b, 0x140c, 0x140d,
   0x140f, 0x1410, 0x1411, 0x1412, 0x1413, 0x1414, 0x1415, 0x1416, 0x1417, 0x1418, 0x1430]

theorem execHwdConfigWrite_touch {W0 : List Nat} {s0 s : State} (h0 : Touch W0 s0 s) (hW : Sub execHwdConfigWrite_cells W0) (via : Via) (v : Word) :
    TouchOut W0 s0 (execHwdConfigWrite via v s) := by
  have c_State_rowWrite : Sub State.rowWrite_cells W0 := Sub.trans (Sub.of rfl) hW
  unfold execHwdConfigWrite
  repeat' first
    | with_reducible assumption
    | with_reducible refine TouchOut.next ?_
    | with_reducible refine State.rowWrite_touch ?_ c_State_rowWrite _ _ _ _

def execPwdKick_cells : List Nat :=
  [0x2, 0x3, 0x6, 0xa, 0x100, 0x101, 0x114, 0x200, 0x300, 0x301, 0x305, 0x30a, 0x318, 0x31a, 0x31f, 0x400, 0x401,
   0x405, 0x40b, 0x40e, 0x40f, 0x500, 0x501, 0x504, 0x623, 0x640, 0x641, 0x642, 0x643, 0x644, 0x645, 0x646, 0x647,
   0x648, 0x649, 0x64a, 0x64b, 0x64c, 0x64d, 0x64e, 0x64f, 0x650, 0x651, 0x652, 0x653, 0x654, 0x655, 0x656, 0x657,
   0x658, 0x659, 0x65a, 0x65b, 0x65c, 0x65d, 0x65e, 0x65f, 0x700, 0x701, 0x70c, 0x70d, 0x70e, 0x70f, 0x801, 0x804,
   0x806, 0x807, 0x811, 0x900, 0x901, 0x90b, 0x910, 0x911, 0xa00, 0xa01, 0xa05, 0xa16, 0xa17, 0xa28, 0xa29, 0xa2a,
   0xa2b, 0xa31, 0xa32, 0xa33, 0xa34, 0xb00, 0xb01, 0xb02, 0xb12, 0xb18, 0xc00, 0xc06, 0xc20, 0xc21, 0xc25, 0xc30,
   0xc34, 0xd00, 0xd01, 0xd11, 0xd12, 0xd18, 0xe00, 0xe01, 0xe14, 0x1000, 0x1001, 0x100c, 0x100d, 0x100e, 0x100f,
   0x1010, 0x1400, 0x1402, 0x1403, 0x1404, 0x1405, 0x1406, 0x1407, 0x1408, 0x1409, 0x140a, 0x140b, 0x140c, 0x140d,
   0x140f, 0x1410, 0x1411, 0x1412, 0x1413, 0x1414, 0x1415, 0x1416, 0x1417, 0x1418, 0x1430]

theorem execPwdKick_touch {W0 : List Nat} {s0 s : State} (h0 : Touch W0 s0 s) (hW : Sub execPwdKick_cells W0) (v : Word) :
    TouchOut W0 s0 (execPwdKick v s) := by
  have c_State_rowWrite : Sub State.rowWrite_cells W0 := Sub.trans (Sub.of rfl) hW
  unfold execPwdKick
  repeat' first
    | with_reducible assumption
    | with_reducible refine TouchOut.next ?_
    | with_reducible refine State.rowWrite_touch ?_ c_State_rowWrite _ _ _ _

end Sys2Proof.Machine
end

