-- ==== Sys2Proof/Laws/TouchLedgerRows.lean ====
section
/-!
SUPPORT. What each operation of Machine/LedgerRows.lean can do: the registers and parts of the state it may write, and nothing
else; the unit, its queue and the form of its stores are kept.
-/

-- proofs are elaborated one after another: many at once ask for more threads than a memory limit allows
set_option Elab.async false

set_option linter.unusedTactic false
set_option linter.unusedVariables false
set_option linter.unusedSimpArgs false
set_option linter.unreachableTactic false
set_option linter.tactic.unusedName false

namespace Sys2Proof.Machine

def execLedgerReplayComplete_cells : List Nat :=
  [0xa00, 0xa01, 0xa05, 0xa28, 0xa29, 0xa2a, 0xa2b, 0xa32, 0xa33, 0xa34, 0x140f, 0x1417]

theorem execLedgerReplayComplete_touch {W0 : List Nat} {s0 s : State} (h0 : Touch W0 s0 s) (hW : Sub execLedgerReplayComplete_cells W0) :
    TouchOut W0 s0 (execLedgerReplayComplete s) := by
  have c_State_replayDone : Sub State.replayDone_cells W0 := Sub.trans (Sub.of rfl) hW
  unfold execLedgerReplayComplete
  repeat' first
    | with_reducible assumption
    | with_reducible refine TouchOut.next ?_
    | with_reducible refine State.replayDone_touch ?_ c_State_replayDone
    | with_reducible refine State.whenLive_touch ?_ _ ?_
    | with_reducible intro _ _

def execLedgerRecordAccept_cells : List Nat :=
  [0x2, 0x3, 0x6, 0xa, 0x100, 0x200, 0x300, 0x301, 0x305, 0x30a, 0x318, 0x31f, 0x400, 0x401, 0x405, 0x40b, 0x40e,
   0x40f, 0x500, 0x801, 0x900, 0x901, 0x90b, 0x910, 0x911, 0xa00, 0xa01, 0xa05, 0xa28, 0xa29, 0xa2a, 0xa2b, 0xa31,
   0xa32, 0xa33, 0xa34, 0xb00, 0xb01, 0xb02, 0xb12, 0xb18, 0xc00, 0xc06, 0xc20, 0xc21, 0xc25, 0xc30, 0xc34, 0xd18,
   0xe00, 0xe14, 0x1000, 0x1400, 0x1402, 0x1403, 0x1404, 0x1405, 0x1406, 0x1407, 0x1408, 0x1409, 0x140a, 0x140b,
   0x140c, 0x140d, 0x140f, 0x1410, 0x1411, 0x1412, 0x1413, 0x1414, 0x1415, 0x1416, 0x1417, 0x1418, 0x1430]

theorem execLedgerRecordAccept_touch {W0 : List Nat} {s0 s : State} (h0 : Touch W0 s0 s) (hW : Sub execLedgerRecordAccept_cells W0) (v : Verify) :
    TouchOut W0 s0 (execLedgerRecordAccept v s) := by
  have c_State_intakeTurn : Sub State.intakeTurn_cells W0 := Sub.trans (Sub.of rfl) hW
  have c_State_finishDue : Sub State.finishDue_cells W0 := Sub.trans (Sub.of rfl) hW
  unfold execLedgerRecordAccept
  repeat' first
    | with_reducible assumption
    | with_reducible refine TouchOut.next ?_
    | with_reducible refine State.intakeTurn_touch ?_ c_State_intakeTurn _
    | with_reducible refine State.finishDue_touch ?_ c_State_finishDue
    | with_reducible refine State.whenLive_touch ?_ _ ?_
    | with_reducible intro _ _

def execWbRecordAccepted_cells : List Nat :=
  [0x2, 0x3, 0x6, 0xa, 0x100, 0x200, 0x300, 0x301, 0x305, 0x30a, 0x318, 0x31f, 0x400, 0x401, 0x405, 0x40b, 0x40e,
   0x40f, 0x500, 0x801, 0x900, 0x901, 0x90b, 0x910, 0x911, 0xa00, 0xa01, 0xa05, 0xa28, 0xa29, 0xa2a, 0xa2b, 0xa31,
   0xa32, 0xa33, 0xa34, 0xb00, 0xb01, 0xb02, 0xb12, 0xb18, 0xc00, 0xc06, 0xc20, 0xc21, 0xc25, 0xc30, 0xc34, 0xd18,
   0xe00, 0xe14, 0x1000, 0x1400, 0x1402, 0x1403, 0x1404, 0x1405, 0x1406, 0x1407, 0x1408, 0x1409, 0x140a, 0x140b,
   0x140c, 0x140d, 0x140f, 0x1410, 0x1411, 0x1412, 0x1413, 0x1414, 0x1415, 0x1416, 0x1417, 0x1418, 0x1430]

theorem execWbRecordAccepted_touch {W0 : List Nat} {s0 s : State} (h0 : Touch W0 s0 s) (hW : Sub execWbRecordAccepted_cells W0) (v : Verify) :
    TouchOut W0 s0 (execWbRecordAccepted v s) := by
  have c_State_intakeTurn : Sub State.intakeTurn_cells W0 := Sub.trans (Sub.of rfl) hW
  have c_State_finishDue : Sub State.finishDue_cells W0 := Sub.trans (Sub.of rfl) hW
  unfold execWbRecordAccepted
  repeat' first
    | with_reducible assumption
    | with_reducible refine TouchOut.next ?_
    | with_reducible refine State.intakeTurn_touch ?_ c_State_intakeTurn _
    | with_reducible refine State.finishDue_touch ?_ c_State_finishDue
    | with_reducible refine State.whenLive_touch ?_ _ ?_
    | with_reducible refine Touch.ite ?_ ?_
    | with_reducible intro _ _
    | split

def execLedgerCommit_cells : List Nat :=
  [0x2, 0x3, 0x6, 0xa, 0x100, 0x200, 0x300, 0x301, 0x305, 0x30a, 0x318, 0x31f, 0x400, 0x401, 0x405, 0x40b, 0x40e,
   0x40f, 0x500, 0x801, 0x901, 0x90b, 0xa00, 0xa01, 0xa31, 0xa32, 0xa33, 0xa34, 0xb00, 0xb01, 0xb02, 0xb12, 0xb18,
   0xc00, 0xc06, 0xc20, 0xc21, 0xc25, 0xc30, 0xc34, 0xd18, 0xe00, 0xe14, 0x1000, 0x1400, 0x1402, 0x1403, 0x1404,
   0x1405, 0x1406, 0x1407, 0x1408, 0x1409, 0x140a, 0x140b, 0x140c, 0x140d, 0x140f, 0x1410, 0x1411, 0x1412, 0x1413,
   0x1414, 0x1415, 0x1416, 0x1417, 0x1418, 0x1430]

theorem execLedgerCommit_touch {W0 : List Nat} {s0 s : State} (h0 : Touch W0 s0 s) (hW : Sub execLedgerCommit_cells W0) (v : Verify) :
    TouchOut W0 s0 (execLedgerCommit v s) := by
  have c_State_commitNext : Sub State.commitNext_cells W0 := Sub.trans (Sub.of rfl) hW
  have c_State_finishDue : Sub State.finishDue_cells W0 := Sub.trans (Sub.of rfl) hW
  unfold execLedgerCommit
  repeat' first
    | with_reducible assumption
    | with_reducible refine TouchOut.next ?_
    | with_reducible refine State.commitNext_touch ?_ c_State_commitNext _
    | with_reducible refine State.finishDue_touch ?_ c_State_finishDue
    | with_reducible refine State.whenLive_touch ?_ _ ?_
    | with_reducible intro _ _

def execTallyWindowExpiry_cells : List Nat :=
  [0xa00, 0xa01, 0xa31, 0x140f]

theorem execTallyWindowExpiry_touch {W0 : List Nat} {s0 s : State} (h0 : Touch W0 s0 s) (hW : Sub execTallyWindowExpiry_cells W0) :
    TouchOut W0 s0 (execTallyWindowExpiry s) := by
  have c_State_tryClose : Sub State.tryClose_cells W0 := Sub.trans (Sub.of rfl) hW
  have c_State_refreshBack : Sub State.refreshBack_cells W0 := Sub.trans (Sub.of rfl) hW
  unfold execTallyWindowExpiry
  repeat' first
    | with_reducible assumption
    | with_reducible refine TouchOut.next ?_
    | with_reducible refine State.tryClose_touch ?_ c_State_tryClose _
    | with_reducible refine State.refreshBack_touch ?_ c_State_refreshBack
    | with_reducible refine State.whenLive_touch ?_ _ ?_
    | with_reducible refine Touch.foldl ?_ ?_
    | with_reducible intro _ _
    | with_reducible intro _

def execLgrReadDone_cells : List Nat :=
  [0xa00, 0xa01, 0xa16, 0xa17, 0x140f]

theorem execLgrReadDone_touch {W0 : List Nat} {s0 s : State} (h0 : Touch W0 s0 s) (hW : Sub execLgrReadDone_cells W0) :
    TouchOut W0 s0 (execLgrReadDone s) := by
  have wa00 : Writes W0 R.LGR_STATUS := Or.inl (hW.mem rfl)
  have wa01 : Writes W0 R.LGR_EVENT := Or.inl (hW.mem rfl)
  have wa16 : Writes W0 R.LGR_RDSTAT := Or.inl (hW.mem rfl)
  have wa17 : Writes W0 R.LGR_RDLEN := Or.inl (hW.mem rfl)
  have w140f : 0x140f ∈ W0 := hW.mem rfl
  unfold execLgrReadDone
  repeat' first
    | with_reducible assumption
    | with_reducible refine TouchOut.next ?_
    | (extract_lets +onlyGivenNames xx; guard_hyp xx : (Ledger) := _; revert xx; intro _)
    | with_reducible refine State.event_touch ?_ _ ?_
    | with_reducible refine State.setFlag_touch ?_ _ _ ?_
    | with_reducible refine State.setReg_touch ?_ _ _ ?_
    | with_reducible refine State.when_touch ?_ _ _ ?_
    | with_reducible intro _ _
    | split
    | with_reducible refine Touch.update ?_

def execSupplyEarlyWarning_cells : List Nat :=
  [0x140f, 0x1417]

theorem execSupplyEarlyWarning_touch {W0 : List Nat} {s0 s : State} (h0 : Touch W0 s0 s) (hW : Sub execSupplyEarlyWarning_cells W0) (n : Nat) (m : Nat) :
    TouchOut W0 s0 (execSupplyEarlyWarning n m s) := by
  have c_State_tornCommit : Sub State.tornCommit_cells W0 := Sub.trans (Sub.of rfl) hW
  have c_State_tornAccept : Sub State.tornAccept_cells W0 := Sub.trans (Sub.of rfl) hW
  have w140f : 0x140f ∈ W0 := hW.mem rfl
  unfold execSupplyEarlyWarning
  repeat' first
    | with_reducible assumption
    | with_reducible refine TouchOut.next ?_
    | (extract_lets +onlyGivenNames xx; guard_hyp xx : State := _; refine Touch.cut (x := xx) ?_ ?_; (on_goal 2 => (intro hh; (try clear_value xx); revert xx; intro _ _)); any_goals (revert xx; intro _))
    | (extract_lets +onlyGivenNames xx; guard_hyp xx : (Ledger) := _; revert xx; intro _)
    | with_reducible refine State.tornCommit_touch ?_ c_State_tornCommit _
    | with_reducible refine State.tornAccept_touch ?_ c_State_tornAccept _
    | with_reducible refine State.whenLive_touch ?_ _ ?_
    | with_reducible refine Touch.ite ?_ ?_
    | with_reducible intro _ _
    | with_reducible refine Touch.update ?_

end Sys2Proof.Machine
end

