-- ==== Sys2Proof/Laws/TouchLink.lean ====
section
/-!
SUPPORT. What each operation of Machine/Link.lean can do: the registers and parts of the state it may write, and nothing
else; the unit, its queue and the form of its stores are kept.
-/

-- proofs are elaborated one after another: many at once ask for more threads than a memory limit allows
set_option Elab.async false

set_option linter.unusedTactic false
set_option linter.unusedVariables false
set_option linter.unusedSimpArgs false
set_option linter.unreachableTactic false
set_option linter.tactic.unusedName false

namespace Sys2Proof.Machine

def execTetFrameSent_cells : List Nat :=
  [0x500, 0x501, 0x508, 0x517, 0x601, 0x610, 0x611, 0x612, 0x613, 0x614, 0x615, 0x616, 0x617, 0x700, 0x70c, 0x70d,
   0x70e, 0x70f, 0xa01, 0xa32, 0x1406, 0x140a, 0x140b, 0x140f, 0x1417]

theorem execTetFrameSent_touch {W0 : List Nat} {s0 s : State} (h0 : Touch W0 s0 s) (hW : Sub execTetFrameSent_cells W0) (f : Frame) :
    TouchOut W0 s0 (execTetFrameSent f s) := by
  have c_State_frameSent : Sub State.frameSent_cells W0 := Sub.trans (Sub.of rfl) hW
  unfold execTetFrameSent
  repeat' first
    | with_reducible assumption
    | with_reducible refine TouchOut.next ?_
    | with_reducible refine State.frameSent_touch ?_ c_State_frameSent _
    | split

def execTetFrameRefused_cells : List Nat :=
  [0x500, 0x501, 0x508, 0x513, 0x514, 0xa01, 0xa32, 0x140a, 0x140f]

theorem execTetFrameRefused_touch {W0 : List Nat} {s0 s : State} (h0 : Touch W0 s0 s) (hW : Sub execTetFrameRefused_cells W0) (f : Frame) (x : TxFail) :
    TouchOut W0 s0 (execTetFrameRefused f x s) := by
  have c_State_frameFailed : Sub State.frameFailed_cells W0 := Sub.trans (Sub.of rfl) hW
  unfold execTetFrameRefused
  repeat' first
    | with_reducible assumption
    | with_reducible refine TouchOut.next ?_
    | with_reducible refine State.frameFailed_touch ?_ c_State_frameFailed _ _
    | split

def execTetArbLost_cells : List Nat :=
  [0x140a]

theorem execTetArbLost_touch {W0 : List Nat} {s0 s : State} (h0 : Touch W0 s0 s) (hW : Sub execTetArbLost_cells W0) (f : Frame) :
    TouchOut W0 s0 (execTetArbLost f s) := by
  have c_State_countStart : Sub State.countStart_cells W0 := Sub.trans (Sub.of rfl) hW
  unfold execTetArbLost
  repeat' first
    | with_reducible assumption
    | with_reducible refine TouchOut.next ?_
    | with_reducible refine State.countStart_touch ?_ c_State_countStart _
    | split

def execTetRxError_cells : List Nat :=
  [0x500, 0x501, 0x509, 0x510, 0x511, 0x512, 0xa01, 0xa32, 0x140b, 0x140f, 0x1417]

theorem execTetRxError_touch {W0 : List Nat} {s0 s : State} (h0 : Touch W0 s0 s) (hW : Sub execTetRxError_cells W0) (bits : List Bool) (carrier : Bool) :
    TouchOut W0 s0 (execTetRxError bits carrier s) := by
  have c_State_linkError : Sub State.linkError_cells W0 := Sub.trans (Sub.of rfl) hW
  have c_State_setRec : Sub State.setRec_cells W0 := Sub.trans (Sub.of rfl) hW
  have c_State_stallCount : Sub State.stallCount_cells W0 := Sub.trans (Sub.of rfl) hW
  have w510 : Writes W0 R.TET_ERRCNT0 := Or.inl (hW.mem rfl)
  have w511 : Writes W0 R.TET_ERRCNT1 := Or.inl (hW.mem rfl)
  have w512 : Writes W0 R.TET_ERRCNT2 := Or.inl (hW.mem rfl)
  unfold execTetRxError
  repeat' first
    | with_reducible assumption
    | with_reducible refine TouchOut.next ?_
    | (extract_lets +onlyGivenNames xx; guard_hyp xx : State := _; refine Touch.cut (x := xx) ?_ ?_; (on_goal 2 => (intro hh; (try clear_value xx); revert xx; intro _ _)); any_goals (revert xx; intro _))
    | (extract_lets +onlyGivenNames xx; (try clear_value xx); revert xx; intro _)
    | with_reducible refine State.linkError_touch ?_ c_State_linkError _ ?_
    | with_reducible refine State.setRec_touch ?_ c_State_setRec _
    | with_reducible refine State.stallCount_touch ?_ c_State_stallCount _ _ _
    | with_reducible refine State.when_touch ?_ _ _ ?_
    | with_reducible refine Touch.ite ?_ ?_
    | with_reducible intro _ _
    | split
    | (unfold rxErrReg; split <;> with_reducible assumption)

def execLinkConditionChange_cells : List Nat :=
  [0x2, 0x6, 0x100, 0x110, 0x111, 0x112, 0x113, 0x200, 0x300, 0x301, 0x31f, 0x400, 0x401, 0x40e, 0x40f, 0x500, 0x501,
   0x505, 0xa01, 0xa32, 0xc20, 0xc21, 0xc25, 0x1405, 0x1408, 0x1409, 0x140a, 0x140d, 0x140f, 0x1413, 0x1415]

theorem execLinkConditionChange_touch {W0 : List Nat} {s0 s : State} (h0 : Touch W0 s0 s) (hW : Sub execLinkConditionChange_cells W0) (vtet : Nat) :
    TouchOut W0 s0 (execLinkConditionChange vtet s) := by
  have c_State_linkChanged : Sub State.linkChanged_cells W0 := Sub.trans (Sub.of rfl) hW
  unfold execLinkConditionChange
  repeat' first
    | with_reducible assumption
    | with_reducible refine TouchOut.next ?_
    | with_reducible refine State.linkChanged_touch ?_ c_State_linkChanged _
    | with_reducible refine State.when_touch ?_ _ _ ?_
    | with_reducible intro _ _

def execTetThresholdReset_cells : List Nat :=
  [0x505, 0x140a]

theorem execTetThresholdReset_touch {W0 : List Nat} {s0 s : State} (h0 : Touch W0 s0 s) (hW : Sub execTetThresholdReset_cells W0) :
    TouchOut W0 s0 (execTetThresholdReset s) := by
  have c_State_resetThreshold : Sub State.resetThreshold_cells W0 := Sub.trans (Sub.of rfl) hW
  unfold execTetThresholdReset
  repeat' first
    | with_reducible assumption
    | with_reducible refine TouchOut.next ?_
    | with_reducible refine State.resetThreshold_touch ?_ c_State_resetThreshold
    | with_reducible refine State.when_touch ?_ _ _ ?_
    | with_reducible intro _ _

def execGuardTrip_cells : List Nat :=
  [0x500, 0x501, 0x516, 0xa01, 0xa32, 0x140a, 0x140f]

theorem execGuardTrip_touch {W0 : List Nat} {s0 s : State} (h0 : Touch W0 s0 s) (hW : Sub execGuardTrip_cells W0) (cause : Nat) :
    TouchOut W0 s0 (execGuardTrip cause s) := by
  have c_State_post : Sub State.post_cells W0 := Sub.trans (Sub.of rfl) hW
  have w500 : Writes W0 R.TET_STATUS := Or.inl (hW.mem rfl)
  have w501 : Writes W0 R.TET_EVENT := Or.inl (hW.mem rfl)
  have w516 : Writes W0 R.TET_GUARDCNT := Or.inl (hW.mem rfl)
  have w140a : 0x140a ∈ W0 := hW.mem rfl
  unfold execGuardTrip
  repeat' first
    | with_reducible assumption
    | with_reducible refine TouchOut.next ?_
    | (extract_lets +onlyGivenNames xx; guard_hyp xx : State := _; refine Touch.cut (x := xx) ?_ ?_; (on_goal 2 => (intro hh; (try clear_value xx); revert xx; intro _ _)); any_goals (revert xx; intro _))
    | (extract_lets +onlyGivenNames xx; (try clear_value xx); revert xx; intro _)
    | with_reducible refine State.post_touch ?_ c_State_post _ _
    | with_reducible refine State.bump_touch ?_ _ _ ?_
    | with_reducible refine State.event_touch ?_ _ ?_
    | with_reducible refine State.setFlag_touch ?_ _ _ ?_
    | with_reducible refine State.when_touch ?_ _ _ ?_
    | with_reducible intro _ _
    | with_reducible refine Touch.update ?_

def execGuardSilenceEnd_cells : List Nat :=
  [0x500, 0x140a]

theorem execGuardSilenceEnd_touch {W0 : List Nat} {s0 s : State} (h0 : Touch W0 s0 s) (hW : Sub execGuardSilenceEnd_cells W0) :
    TouchOut W0 s0 (execGuardSilenceEnd s) := by
  have c_State_silenceOver : Sub State.silenceOver_cells W0 := Sub.trans (Sub.of rfl) hW
  unfold execGuardSilenceEnd
  repeat' first
    | with_reducible assumption
    | with_reducible refine TouchOut.next ?_
    | with_reducible refine State.silenceOver_touch ?_ c_State_silenceOver
    | with_reducible refine State.when_touch ?_ _ _ ?_
    | with_reducible intro _ _

def execHeartbeatDue_cells : List Nat :=
  [0x140a]

theorem execHeartbeatDue_touch {W0 : List Nat} {s0 s : State} (h0 : Touch W0 s0 s) (hW : Sub execHeartbeatDue_cells W0) :
    TouchOut W0 s0 (execHeartbeatDue s) := by
  have c_State_hbMark : Sub State.hbMark_cells W0 := Sub.trans (Sub.of rfl) hW
  have c_State_postHeartbeat : Sub State.postHeartbeat_cells W0 := Sub.trans (Sub.of rfl) hW
  unfold execHeartbeatDue
  repeat' first
    | with_reducible assumption
    | with_reducible refine TouchOut.next ?_
    | with_reducible refine State.hbMark_touch ?_ c_State_hbMark
    | with_reducible refine State.postHeartbeat_touch ?_ c_State_postHeartbeat
    | with_reducible refine State.when_touch ?_ _ _ ?_
    | with_reducible intro _ _

def execHeartbeatRx_cells : List Nat :=
  [0x407, 0x500, 0x501, 0x504, 0x505, 0x506, 0x507, 0x509, 0x512, 0x515, 0x518, 0x520, 0x521, 0x522, 0x523, 0x601,
   0x607, 0x608, 0x610, 0x611, 0x612, 0x613, 0x614, 0x615, 0x616, 0x617, 0x625, 0x900, 0x901, 0xa01, 0xa32, 0x140a,
   0x140b, 0x140c, 0x140f, 0x1417]

theorem execHeartbeatRx_touch {W0 : List Nat} {s0 s : State} (h0 : Touch W0 s0 s) (hW : Sub execHeartbeatRx_cells W0) (addr : Nat) (data : List Byte) (c : Carrier) :
    TouchOut W0 s0 (execHeartbeatRx addr data c s) := by
  have c_State_receive : Sub State.receive_cells W0 := Sub.trans (Sub.of rfl) hW
  have c_State_heartbeat : Sub State.heartbeat_cells W0 := Sub.trans (Sub.of rfl) hW
  have c_State_rxEnter : Sub State.rxEnter_cells W0 := Sub.trans (Sub.of rfl) hW
  unfold execHeartbeatRx
  repeat' first
    | with_reducible assumption
    | with_reducible refine TouchOut.next ?_
    | (extract_lets +onlyGivenNames xx; (try clear_value xx); revert xx; intro _)
    | with_reducible refine State.receive_touch ?_ c_State_receive _ _ _ ?_
    | with_reducible refine State.heartbeat_touch ?_ c_State_heartbeat _
    | with_reducible refine State.rxEnter_touch ?_ c_State_rxEnter _
    | with_reducible refine Touch.ite ?_ ?_
    | with_reducible intro _ _

def execPeerMissing_cells : List Nat :=
  [0x501, 0x520, 0x521, 0x522, 0x523, 0x601, 0x607, 0x608, 0x610, 0x611, 0x612, 0x613, 0x614, 0x615, 0x616, 0x617,
   0x900, 0x901, 0xa01, 0xa32, 0x140a, 0x140b, 0x140c, 0x140f, 0x1417]

theorem execPeerMissing_touch {W0 : List Nat} {s0 s : State} (h0 : Touch W0 s0 s) (hW : Sub execPeerMissing_cells W0) (addr : Nat) :
    TouchOut W0 s0 (execPeerMissing addr s) := by
  have c_State_peerMissing : Sub State.peerMissing_cells W0 := Sub.trans (Sub.of rfl) hW
  unfold execPeerMissing
  repeat' first
    | with_reducible assumption
    | with_reducible refine TouchOut.next ?_
    | with_reducible refine State.peerMissing_touch ?_ c_State_peerMissing _
    | with_reducible refine State.whenLive_touch ?_ _ ?_
    | with_reducible refine Touch.ite ?_ ?_
    | with_reducible intro _ _
    | split

def execCensusRequestRx_cells : List Nat :=
  [0x407, 0x500, 0x501, 0x504, 0x505, 0x506, 0x507, 0x509, 0x512, 0x515, 0x518, 0x601, 0x607, 0x608, 0x610, 0x611,
   0x612, 0x613, 0x614, 0x615, 0x616, 0x617, 0x625, 0xa01, 0xa32, 0x140a, 0x140b, 0x140f, 0x1417]

theorem execCensusRequestRx_touch {W0 : List Nat} {s0 s : State} (h0 : Touch W0 s0 s) (hW : Sub execCensusRequestRx_cells W0) (addr : Nat) (c : Carrier) :
    TouchOut W0 s0 (execCensusRequestRx addr c s) := by
  have c_State_receive : Sub State.receive_cells W0 := Sub.trans (Sub.of rfl) hW
  have c_State_rxEnter : Sub State.rxEnter_cells W0 := Sub.trans (Sub.of rfl) hW
  have w140a : 0x140a ∈ W0 := hW.mem rfl
  unfold execCensusRequestRx
  repeat' first
    | with_reducible assumption
    | with_reducible refine TouchOut.next ?_
    | (extract_lets +onlyGivenNames xx; guard_hyp xx : State := _; refine Touch.cut (x := xx) ?_ ?_; (on_goal 2 => (intro hh; (try clear_value xx); revert xx; intro _ _)); any_goals (revert xx; intro _))
    | (extract_lets +onlyGivenNames xx; (try clear_value xx); revert xx; intro _)
    | with_reducible refine State.receive_touch ?_ c_State_receive _ _ _ ?_
    | with_reducible refine State.rxEnter_touch ?_ c_State_rxEnter _
    | with_reducible refine Touch.ite ?_ ?_
    | with_reducible intro _ _
    | split
    | with_reducible refine Touch.update ?_

def execCensusAnswerDue_cells : List Nat :=
  [0x140a]

theorem execCensusAnswerDue_touch {W0 : List Nat} {s0 s : State} (h0 : Touch W0 s0 s) (hW : Sub execCensusAnswerDue_cells W0) :
    TouchOut W0 s0 (execCensusAnswerDue s) := by
  have c_State_postHeartbeat : Sub State.postHeartbeat_cells W0 := Sub.trans (Sub.of rfl) hW
  have w140a : 0x140a ∈ W0 := hW.mem rfl
  unfold execCensusAnswerDue
  repeat' first
    | with_reducible assumption
    | with_reducible refine TouchOut.next ?_
    | (extract_lets +onlyGivenNames xx; (try clear_value xx); revert xx; intro _)
    | with_reducible refine State.postHeartbeat_touch ?_ c_State_postHeartbeat
    | with_reducible refine State.when_touch ?_ _ _ ?_
    | with_reducible intro _ _
    | with_reducible refine Touch.update ?_

def execClaimRx_cells : List Nat :=
  [0x407, 0x500, 0x501, 0x504, 0x505, 0x506, 0x507, 0x509, 0x515, 0x518, 0x601, 0x607, 0x608, 0x610, 0x611, 0x612,
   0x613, 0x614, 0x615, 0x616, 0x617, 0x625, 0xa01, 0xa32, 0x140a, 0x140b, 0x140f, 0x1417]

theorem execClaimRx_touch {W0 : List Nat} {s0 s : State} (h0 : Touch W0 s0 s) (hW : Sub execClaimRx_cells W0) (addr : Nat) (uid : BitVec 64) (c : Carrier) :
    TouchOut W0 s0 (execClaimRx addr uid c s) := by
  have c_State_acceptFrame : Sub State.acceptFrame_cells W0 := Sub.trans (Sub.of rfl) hW
  have c_State_claimHeard : Sub State.claimHeard_cells W0 := Sub.trans (Sub.of rfl) hW
  have c_State_rxEnter : Sub State.rxEnter_cells W0 := Sub.trans (Sub.of rfl) hW
  unfold execClaimRx
  repeat' first
    | with_reducible assumption
    | with_reducible refine TouchOut.next ?_
    | (extract_lets +onlyGivenNames xx; (try clear_value xx); revert xx; intro _)
    | with_reducible refine State.acceptFrame_touch ?_ c_State_acceptFrame _ _
    | with_reducible refine State.claimHeard_touch ?_ c_State_claimHeard _ _
    | with_reducible refine State.rxEnter_touch ?_ c_State_rxEnter _
    | with_reducible refine State.when_touch ?_ _ _ ?_
    | with_reducible intro _ _

def execFaultFrameRx_cells : List Nat :=
  [0x407, 0x500, 0x501, 0x504, 0x505, 0x506, 0x507, 0x509, 0x512, 0x515, 0x518, 0x601, 0x607, 0x608, 0x610, 0x611,
   0x612, 0x613, 0x614, 0x615, 0x616, 0x617, 0x625, 0xa01, 0xa32, 0x140a, 0x140b, 0x140f, 0x1417]

theorem execFaultFrameRx_touch {W0 : List Nat} {s0 s : State} (h0 : Touch W0 s0 s) (hW : Sub execFaultFrameRx_cells W0) (addr : Nat) (data : List Byte) (c : Carrier) :
    TouchOut W0 s0 (execFaultFrameRx addr data c s) := by
  have c_State_receive : Sub State.receive_cells W0 := Sub.trans (Sub.of rfl) hW
  have c_State_rxEnter : Sub State.rxEnter_cells W0 := Sub.trans (Sub.of rfl) hW
  unfold execFaultFrameRx
  repeat' first
    | with_reducible assumption
    | with_reducible refine TouchOut.next ?_
    | with_reducible refine State.receive_touch ?_ c_State_receive _ _ _ ?_
    | with_reducible refine State.rxEnter_touch ?_ c_State_rxEnter _
    | with_reducible intro _ _

def execAddrListenEnd_cells : List Nat :=
  [0x500, 0x504, 0xa01, 0xa32, 0x140a, 0x140f]

theorem execAddrListenEnd_touch {W0 : List Nat} {s0 s : State} (h0 : Touch W0 s0 s) (hW : Sub execAddrListenEnd_cells W0) :
    TouchOut W0 s0 (execAddrListenEnd s) := by
  have c_State_chooseCand : Sub State.chooseCand_cells W0 := Sub.trans (Sub.of rfl) hW
  have w500 : Writes W0 R.TET_STATUS := Or.inl (hW.mem rfl)
  have w140a : 0x140a ∈ W0 := hW.mem rfl
  unfold execAddrListenEnd
  repeat' first
    | with_reducible assumption
    | with_reducible refine TouchOut.next ?_
    | (extract_lets +onlyGivenNames xx; (try clear_value xx); revert xx; intro _)
    | with_reducible refine State.chooseCand_touch ?_ c_State_chooseCand _
    | with_reducible refine State.setFlag_touch ?_ _ _ ?_
    | with_reducible refine State.when_touch ?_ _ _ ?_
    | with_reducible intro _ _
    | with_reducible refine Touch.update ?_

def execAddrHold_cells : List Nat :=
  [0x407, 0x500, 0x501, 0x504, 0x601, 0x607, 0x608, 0xa00, 0xa01, 0xa32, 0xa33, 0xa34, 0x140a, 0x140b, 0x140f, 0x1417]

theorem execAddrHold_touch {W0 : List Nat} {s0 s : State} (h0 : Touch W0 s0 s) (hW : Sub execAddrHold_cells W0) (v : Verify) :
    TouchOut W0 s0 (execAddrHold v s) := by
  have c_State_candHeld : Sub State.candHeld_cells W0 := Sub.trans (Sub.of rfl) hW
  unfold execAddrHold
  repeat' first
    | with_reducible assumption
    | with_reducible refine TouchOut.next ?_
    | with_reducible refine State.candHeld_touch ?_ c_State_candHeld _ _
    | with_reducible refine State.when_touch ?_ _ _ ?_
    | with_reducible intro _ _
    | split

def execAddrRelisten_cells : List Nat :=
  [0x500, 0x140a]

theorem execAddrRelisten_touch {W0 : List Nat} {s0 s : State} (h0 : Touch W0 s0 s) (hW : Sub execAddrRelisten_cells W0) :
    TouchOut W0 s0 (execAddrRelisten s) := by
  have c_State_startListening : Sub State.startListening_cells W0 := Sub.trans (Sub.of rfl) hW
  unfold execAddrRelisten
  repeat' first
    | with_reducible assumption
    | with_reducible refine TouchOut.next ?_
    | with_reducible refine State.startListening_touch ?_ c_State_startListening
    | with_reducible refine State.when_touch ?_ _ _ ?_
    | with_reducible intro _ _

def execLinkTestRx_cells : List Nat :=
  [0x407, 0x500, 0x501, 0x504, 0x505, 0x506, 0x507, 0x509, 0x512, 0x515, 0x518, 0x601, 0x607, 0x608, 0x610, 0x611,
   0x612, 0x613, 0x614, 0x615, 0x616, 0x617, 0x625, 0xa01, 0xa32, 0x140a, 0x140b, 0x140f, 0x1417]

theorem execLinkTestRx_touch {W0 : List Nat} {s0 s : State} (h0 : Touch W0 s0 s) (hW : Sub execLinkTestRx_cells W0) (addr : Nat) (data : List Byte) (c : Carrier) :
    TouchOut W0 s0 (execLinkTestRx addr data c s) := by
  have c_State_receive : Sub State.receive_cells W0 := Sub.trans (Sub.of rfl) hW
  have c_State_rxEnter : Sub State.rxEnter_cells W0 := Sub.trans (Sub.of rfl) hW
  unfold execLinkTestRx
  repeat' first
    | with_reducible assumption
    | with_reducible refine TouchOut.next ?_
    | with_reducible refine State.receive_touch ?_ c_State_receive _ _ _ ?_
    | with_reducible refine State.rxEnter_touch ?_ c_State_rxEnter _
    | with_reducible intro _ _

def execLinkEchoRx_cells : List Nat :=
  [0x407, 0x500, 0x501, 0x504, 0x505, 0x506, 0x507, 0x509, 0x512, 0x515, 0x518, 0x601, 0x607, 0x608, 0x610, 0x611,
   0x612, 0x613, 0x614, 0x615, 0x616, 0x617, 0x625, 0xa01, 0xa32, 0x140a, 0x140b, 0x140f, 0x1417]

theorem execLinkEchoRx_touch {W0 : List Nat} {s0 s : State} (h0 : Touch W0 s0 s) (hW : Sub execLinkEchoRx_cells W0) (addr : Nat) (data : List Byte) (c : Carrier) :
    TouchOut W0 s0 (execLinkEchoRx addr data c s) := by
  have c_State_receive : Sub State.receive_cells W0 := Sub.trans (Sub.of rfl) hW
  have c_State_rxEnter : Sub State.rxEnter_cells W0 := Sub.trans (Sub.of rfl) hW
  unfold execLinkEchoRx
  repeat' first
    | with_reducible assumption
    | with_reducible refine TouchOut.next ?_
    | with_reducible refine State.receive_touch ?_ c_State_receive _ _ _ ?_
    | with_reducible refine State.rxEnter_touch ?_ c_State_rxEnter _
    | with_reducible intro _ _

def execLevelAlarmStart_cells : List Nat :=
  [0x2, 0x6, 0x200, 0x300, 0x301, 0x31f, 0x400, 0x401, 0x40f, 0x500, 0x700, 0x701, 0x710, 0x801, 0x901, 0x90b, 0xa01,
   0xa32, 0xc20, 0xc21, 0xc25, 0x1402, 0x1405, 0x1406, 0x1408, 0x1409, 0x140c, 0x140d, 0x140f, 0x1411, 0x1413, 0x1415]

theorem execLevelAlarmStart_touch {W0 : List Nat} {s0 s : State} (h0 : Touch W0 s0 s) (hW : Sub execLevelAlarmStart_cells W0) :
    TouchOut W0 s0 (execLevelAlarmStart s) := by
  have c_State_levelStart : Sub State.levelStart_cells W0 := Sub.trans (Sub.of rfl) hW
  unfold execLevelAlarmStart
  repeat' first
    | with_reducible assumption
    | with_reducible refine TouchOut.next ?_
    | with_reducible refine State.levelStart_touch ?_ c_State_levelStart
    | with_reducible refine State.when_touch ?_ _ _ ?_
    | with_reducible intro _ _

def execLevelAlarmEnd_cells : List Nat :=
  [0x2, 0x6, 0x100, 0x101, 0x110, 0x111, 0x112, 0x113, 0x114, 0x116, 0x200, 0x300, 0x301, 0x31f, 0x400, 0x401, 0x40e,
   0x40f, 0x500, 0x600, 0x601, 0x624, 0x700, 0x701, 0x70c, 0x70d, 0x70e, 0x70f, 0x900, 0x901, 0xa01, 0xa32, 0xb00,
   0xb01, 0xb18, 0xc00, 0xc06, 0xc20, 0xc21, 0xc25, 0xc30, 0xc34, 0xe00, 0x1405, 0x1406, 0x1407, 0x1408, 0x1409,
   0x140b, 0x140c, 0x140d, 0x140f, 0x1412, 0x1413, 0x1414, 0x1415, 0x1418]

theorem execLevelAlarmEnd_touch {W0 : List Nat} {s0 s : State} (h0 : Touch W0 s0 s) (hW : Sub execLevelAlarmEnd_cells W0) :
    TouchOut W0 s0 (execLevelAlarmEnd s) := by
  have c_State_levelEnd : Sub State.levelEnd_cells W0 := Sub.trans (Sub.of rfl) hW
  have c_State_cutoffAgain : Sub State.cutoffAgain_cells W0 := Sub.trans (Sub.of rfl) hW
  unfold execLevelAlarmEnd
  repeat' first
    | with_reducible assumption
    | with_reducible refine TouchOut.next ?_
    | with_reducible refine State.levelEnd_touch ?_ c_State_levelEnd _
    | with_reducible refine State.cutoffAgain_touch ?_ c_State_cutoffAgain
    | with_reducible refine State.whenLive_touch ?_ _ ?_
    | with_reducible intro _ _
    | split

end Sys2Proof.Machine
end

