-- ==== Sys2Proof/Laws/TouchMarket.lean ====
section
/-!
SUPPORT. What each operation of Machine/Market.lean can do: the registers and parts of the state it may write, and nothing
else; the unit, its queue and the form of its stores are kept.
-/

-- proofs are elaborated one after another: many at once ask for more threads than a memory limit allows
set_option Elab.async false

set_option linter.unusedTactic false
set_option linter.unusedVariables false
set_option linter.unusedSimpArgs false
set_option linter.unreachableTactic false
set_option linter.tactic.unusedName false

namespace Sys2Proof.Machine

def execMarketFrameRx_cells : List Nat :=
  [0x407, 0x500, 0x501, 0x504, 0x505, 0x506, 0x507, 0x509, 0x512, 0x515, 0x518, 0x601, 0x607, 0x608, 0x610, 0x611,
   0x612, 0x613, 0x614, 0x615, 0x616, 0x617, 0x625, 0xa01, 0xa32, 0x140a, 0x140b, 0x140f, 0x1417]

theorem execMarketFrameRx_touch {W0 : List Nat} {s0 s : State} (h0 : Touch W0 s0 s) (hW : Sub execMarketFrameRx_cells W0) (f : Frame) (c : Carrier) :
    TouchOut W0 s0 (execMarketFrameRx f c s) := by
  have c_State_receive : Sub State.receive_cells W0 := Sub.trans (Sub.of rfl) hW
  have c_State_rxEnter : Sub State.rxEnter_cells W0 := Sub.trans (Sub.of rfl) hW
  unfold execMarketFrameRx
  repeat' first
    | with_reducible assumption
    | with_reducible refine TouchOut.next ?_
    | with_reducible refine State.receive_touch ?_ c_State_receive _ _ _ ?_
    | with_reducible refine State.rxEnter_touch ?_ c_State_rxEnter _
    | with_reducible refine State.when_touch ?_ _ _ ?_
    | with_reducible intro _ _

def State.withTx_cells : List Nat :=
  [0x501]

theorem State.withTx_touch {W0 : List Nat} {s0 s : State} (h0 : Touch W0 s0 s) (hW : Sub State.withTx_cells W0) (n : Nat) (f : State → State) (hf : ∀ t, Touch W0 s0 t → Touch W0 s0 (f t)) :
    Touch W0 s0 (State.withTx s n f) := by
  have w501 : Writes W0 R.TET_EVENT := Or.inl (hW.mem rfl)
  unfold State.withTx
  repeat' first
    | with_reducible assumption
    | with_reducible refine State.event_touch ?_ _ ?_
    | with_reducible refine Touch.ite ?_ ?_
    | refine hf _ ?_

def State.offerAdvance_cells : List Nat :=
  [0x607, 0x608, 0xa01, 0xa32, 0x140b, 0x140f, 0x1417]

theorem State.offerAdvance_touch {W0 : List Nat} {s0 s : State} (h0 : Touch W0 s0 s) (hW : Sub State.offerAdvance_cells W0) :
    Touch W0 s0 (State.offerAdvance s) := by
  have c_State_dropInbid : Sub State.dropInbid_cells W0 := Sub.trans (Sub.of rfl) hW
  have c_State_stallBytes : Sub State.stallBytes_cells W0 := Sub.trans (Sub.of rfl) hW
  unfold State.offerAdvance
  repeat' first
    | with_reducible assumption
    | (extract_lets +onlyGivenNames xx; guard_hyp xx : State := _; refine Touch.cut (x := xx) ?_ ?_; (on_goal 2 => (intro hh; (try clear_value xx); revert xx; intro _ _)); any_goals (revert xx; intro _))
    | with_reducible refine State.dropInbid_touch ?_ c_State_dropInbid _ _
    | with_reducible refine State.stallBytes_touch ?_ c_State_stallBytes _ _ _
    | with_reducible refine Touch.foldl ?_ ?_
    | with_reducible intro _ _
    | with_reducible intro _

def State.offerPost_cells : List Nat :=
  [0x501, 0x601, 0x607, 0x608, 0x610, 0x611, 0x612, 0x613, 0x614, 0x615, 0x616, 0x617, 0xa01, 0xa32, 0x140a, 0x140b,
   0x140f, 0x1417]

theorem State.offerPost_touch {W0 : List Nat} {s0 s : State} (h0 : Touch W0 s0 s) (hW : Sub State.offerPost_cells W0) (tent : Bool) (pOff : Nat) (cell : Bool) :
    Touch W0 s0 (State.offerPost s tent pOff cell) := by
  have c_State_withdrawBids : Sub State.withdrawBids_cells W0 := Sub.trans (Sub.of rfl) hW
  have c_State_offerAdvance : Sub State.offerAdvance_cells W0 := Sub.trans (Sub.of rfl) hW
  have c_State_stallBytes : Sub State.stallBytes_cells W0 := Sub.trans (Sub.of rfl) hW
  have c_State_setOffer : Sub State.setOffer_cells W0 := Sub.trans (Sub.of rfl) hW
  have c_State_postMktOffer : Sub State.postMktOffer_cells W0 := Sub.trans (Sub.of rfl) hW
  have c_State_sendOffer : Sub State.sendOffer_cells W0 := Sub.trans (Sub.of rfl) hW
  have w601 : Writes W0 R.MKT_EVENT := Or.inl (hW.mem rfl)
  have w140b : 0x140b ∈ W0 := hW.mem rfl
  unfold State.offerPost
  repeat' first
    | with_reducible assumption
    | (extract_lets +onlyGivenNames xx; guard_hyp xx : State := _; refine Touch.cut (x := xx) ?_ ?_; (on_goal 2 => (intro hh; (try clear_value xx); revert xx; intro _ _)); any_goals (revert xx; intro _))
    | (extract_lets +onlyGivenNames xx; (try clear_value xx); revert xx; intro _)
    | with_reducible refine State.withdrawBids_touch ?_ c_State_withdrawBids _
    | with_reducible refine State.offerAdvance_touch ?_ c_State_offerAdvance
    | with_reducible refine State.stallBytes_touch ?_ c_State_stallBytes _ _ _
    | with_reducible refine State.setOffer_touch ?_ c_State_setOffer _ _
    | with_reducible refine State.postMktOffer_touch ?_ c_State_postMktOffer _ _ _ _ _
    | with_reducible refine State.sendOffer_touch ?_ c_State_sendOffer
    | with_reducible refine State.event_touch ?_ _ ?_
    | with_reducible refine Touch.ite ?_ ?_
    | with_reducible refine Touch.update ?_

def execOfferPost_cells : List Nat :=
  [0x501, 0x601, 0x607, 0x608, 0x610, 0x611, 0x612, 0x613, 0x614, 0x615, 0x616, 0x617, 0xa01, 0xa32, 0x140a, 0x140b,
   0x140f, 0x1417]

theorem execOfferPost_touch {W0 : List Nat} {s0 s : State} (h0 : Touch W0 s0 s) (hW : Sub execOfferPost_cells W0) (tent : Bool) (pOff : Nat) (left : Nat) :
    TouchOut W0 s0 (execOfferPost tent pOff left s) := by
  have c_State_withTx : Sub State.withTx_cells W0 := Sub.trans (Sub.of rfl) hW
  have c_State_offerPost : Sub State.offerPost_cells W0 := Sub.trans (Sub.of rfl) hW
  unfold execOfferPost
  repeat' first
    | with_reducible assumption
    | with_reducible refine TouchOut.next ?_
    | with_reducible refine State.withTx_touch ?_ c_State_withTx _ _ ?_
    | with_reducible refine State.offerPost_touch ?_ c_State_offerPost _ _ _
    | with_reducible refine State.when_touch ?_ _ _ ?_
    | with_reducible intro _ _

def State.bidPost_cells : List Nat :=
  [0x501, 0x607, 0x608, 0xa01, 0xa32, 0x140a, 0x140b, 0x140f, 0x1417]

theorem State.bidPost_touch {W0 : List Nat} {s0 s : State} (h0 : Touch W0 s0 s) (hW : Sub State.bidPost_cells W0) (a : Nat) (req : Nat) :
    Touch W0 s0 (State.bidPost s a req) := by
  have c_State_withdrawOffer : Sub State.withdrawOffer_cells W0 := Sub.trans (Sub.of rfl) hW
  have c_State_stallBytes : Sub State.stallBytes_cells W0 := Sub.trans (Sub.of rfl) hW
  have c_State_postMktOffer : Sub State.postMktOffer_cells W0 := Sub.trans (Sub.of rfl) hW
  have c_State_sendBid : Sub State.sendBid_cells W0 := Sub.trans (Sub.of rfl) hW
  unfold State.bidPost
  repeat' first
    | with_reducible assumption
    | (extract_lets +onlyGivenNames xx; guard_hyp xx : State := _; refine Touch.cut (x := xx) ?_ ?_; (on_goal 2 => (intro hh; (try clear_value xx); revert xx; intro _ _)); any_goals (revert xx; intro _))
    | (extract_lets +onlyGivenNames xx; (try clear_value xx); revert xx; intro _)
    | with_reducible refine State.withdrawOffer_touch ?_ c_State_withdrawOffer _
    | with_reducible refine State.stallBytes_touch ?_ c_State_stallBytes _ _ _
    | with_reducible refine State.postMktOffer_touch ?_ c_State_postMktOffer _ _ _ _ _
    | with_reducible refine State.sendBid_touch ?_ c_State_sendBid _
    | with_reducible refine Touch.ite ?_ ?_
    | split

def execBidPost_cells : List Nat :=
  [0x501, 0x607, 0x608, 0xa01, 0xa32, 0x140a, 0x140b, 0x140f, 0x1417]

theorem execBidPost_touch {W0 : List Nat} {s0 s : State} (h0 : Touch W0 s0 s) (hW : Sub execBidPost_cells W0) (addr : Nat) (req : Nat) :
    TouchOut W0 s0 (execBidPost addr req s) := by
  have c_State_withTx : Sub State.withTx_cells W0 := Sub.trans (Sub.of rfl) hW
  have c_State_bidPost : Sub State.bidPost_cells W0 := Sub.trans (Sub.of rfl) hW
  unfold execBidPost
  repeat' first
    | with_reducible assumption
    | with_reducible refine TouchOut.next ?_
    | with_reducible refine State.withTx_touch ?_ c_State_withTx _ _ ?_
    | with_reducible refine State.bidPost_touch ?_ c_State_bidPost _ _
    | with_reducible refine State.when_touch ?_ _ _ ?_
    | with_reducible intro _ _

def State.firm_cells : List Nat :=
  [0x407, 0x501, 0x601, 0x607, 0x608, 0xa01, 0xa32, 0x140a, 0x140b, 0x140f, 0x1417]

theorem State.firm_touch {W0 : List Nat} {s0 s : State} (h0 : Touch W0 s0 s) (hW : Sub State.firm_cells W0) (a : Nat) (grant : Nat) :
    Touch W0 s0 (State.firm s a grant) := by
  have c_State_sendFirm : Sub State.sendFirm_cells W0 := Sub.trans (Sub.of rfl) hW
  have c_State_displace : Sub State.displace_cells W0 := Sub.trans (Sub.of rfl) hW
  have c_State_stallBytes : Sub State.stallBytes_cells W0 := Sub.trans (Sub.of rfl) hW
  have c_State_postMktOffer : Sub State.postMktOffer_cells W0 := Sub.trans (Sub.of rfl) hW
  have c_State_sendOffer : Sub State.sendOffer_cells W0 := Sub.trans (Sub.of rfl) hW
  have w140b : 0x140b ∈ W0 := hW.mem rfl
  unfold State.firm
  repeat' first
    | with_reducible assumption
    | (extract_lets +onlyGivenNames xx; guard_hyp xx : State := _; refine Touch.cut (x := xx) ?_ ?_; (on_goal 2 => (intro hh; (try clear_value xx); revert xx; intro _ _)); any_goals (revert xx; intro _))
    | (extract_lets +onlyGivenNames xx; (try clear_value xx); revert xx; intro _)
    | with_reducible refine State.sendFirm_touch ?_ c_State_sendFirm _ _
    | with_reducible refine State.displace_touch ?_ c_State_displace _ _
    | with_reducible refine State.stallBytes_touch ?_ c_State_stallBytes _ _ _
    | with_reducible refine State.postMktOffer_touch ?_ c_State_postMktOffer _ _ _ _ _
    | with_reducible refine State.sendOffer_touch ?_ c_State_sendOffer
    | with_reducible refine Touch.ite ?_ ?_
    | with_reducible refine Touch.update ?_

def execFirmSend_cells : List Nat :=
  [0x407, 0x501, 0x601, 0x607, 0x608, 0xa01, 0xa32, 0x140a, 0x140b, 0x140f, 0x1417]

theorem execFirmSend_touch {W0 : List Nat} {s0 s : State} (h0 : Touch W0 s0 s) (hW : Sub execFirmSend_cells W0) (grant : Nat) (left : Nat) :
    TouchOut W0 s0 (execFirmSend grant left s) := by
  have c_State_withTx : Sub State.withTx_cells W0 := Sub.trans (Sub.of rfl) hW
  have c_State_firm : Sub State.firm_cells W0 := Sub.trans (Sub.of rfl) hW
  have c_State_sendFirm : Sub State.sendFirm_cells W0 := Sub.trans (Sub.of rfl) hW
  unfold execFirmSend
  repeat' first
    | with_reducible assumption
    | with_reducible refine TouchOut.next ?_
    | with_reducible refine State.withTx_touch ?_ c_State_withTx _ _ ?_
    | with_reducible refine State.firm_touch ?_ c_State_firm _ _
    | with_reducible refine State.sendFirm_touch ?_ c_State_sendFirm _ _
    | with_reducible refine State.when_touch ?_ _ _ ?_
    | with_reducible refine Touch.ite ?_ ?_
    | with_reducible intro _ _
    | split

def execWithdrawSend_cells : List Nat :=
  [0x501, 0x601, 0x607, 0x608, 0x610, 0x611, 0x612, 0x613, 0x614, 0x615, 0x616, 0x617, 0xa01, 0xa32, 0x140a, 0x140b,
   0x140f, 0x1417]

theorem execWithdrawSend_touch {W0 : List Nat} {s0 s : State} (h0 : Touch W0 s0 s) (hW : Sub execWithdrawSend_cells W0) (kind : Nat) (addr : Nat) :
    TouchOut W0 s0 (execWithdrawSend kind addr s) := by
  have c_State_withTx : Sub State.withTx_cells W0 := Sub.trans (Sub.of rfl) hW
  have c_State_withdrawOffer : Sub State.withdrawOffer_cells W0 := Sub.trans (Sub.of rfl) hW
  have c_State_withdrawBid : Sub State.withdrawBid_cells W0 := Sub.trans (Sub.of rfl) hW
  have c_State_withdrawGrant : Sub State.withdrawGrant_cells W0 := Sub.trans (Sub.of rfl) hW
  unfold execWithdrawSend
  repeat' first
    | with_reducible assumption
    | with_reducible refine TouchOut.next ?_
    | with_reducible refine State.withTx_touch ?_ c_State_withTx _ _ ?_
    | with_reducible refine State.withdrawOffer_touch ?_ c_State_withdrawOffer _
    | with_reducible refine State.withdrawBid_touch ?_ c_State_withdrawBid _ _
    | with_reducible refine State.withdrawGrant_touch ?_ c_State_withdrawGrant _
    | with_reducible refine State.when_touch ?_ _ _ ?_
    | with_reducible intro _ _
    | split

def execMktRefreshDue_cells : List Nat :=
  [0x501, 0x601, 0x607, 0x608, 0xa01, 0xa32, 0x140a, 0x140b, 0x140f, 0x1417]

theorem execMktRefreshDue_touch {W0 : List Nat} {s0 s : State} (h0 : Touch W0 s0 s) (hW : Sub execMktRefreshDue_cells W0) :
    TouchOut W0 s0 (execMktRefreshDue s) := by
  have c_State_withTx : Sub State.withTx_cells W0 := Sub.trans (Sub.of rfl) hW
  have c_State_sendOffer : Sub State.sendOffer_cells W0 := Sub.trans (Sub.of rfl) hW
  have c_State_stallBytes : Sub State.stallBytes_cells W0 := Sub.trans (Sub.of rfl) hW
  have c_State_sendBid : Sub State.sendBid_cells W0 := Sub.trans (Sub.of rfl) hW
  unfold execMktRefreshDue
  repeat' first
    | with_reducible assumption
    | with_reducible refine TouchOut.next ?_
    | (extract_lets +onlyGivenNames xx; guard_hyp xx : State := _; refine Touch.cut (x := xx) ?_ ?_; (on_goal 2 => (intro hh; (try clear_value xx); revert xx; intro _ _)); any_goals (revert xx; intro _))
    | with_reducible refine State.withTx_touch ?_ c_State_withTx _ _ ?_
    | with_reducible refine State.sendOffer_touch ?_ c_State_sendOffer
    | with_reducible refine State.stallBytes_touch ?_ c_State_stallBytes _ _ _
    | with_reducible refine State.sendBid_touch ?_ c_State_sendBid _
    | with_reducible refine State.when_touch ?_ _ _ ?_
    | with_reducible refine Touch.foldl ?_ ?_
    | with_reducible refine Touch.ite ?_ ?_
    | with_reducible intro _ _
    | with_reducible intro _
    | split
    | with_reducible refine Touch.update ?_

def execMktLapse_cells : List Nat :=
  [0x601, 0x607, 0x608, 0x610, 0x611, 0x612, 0x613, 0x614, 0x615, 0x616, 0x617, 0x626, 0xa01, 0xa32, 0x140b, 0x140f,
   0x1417]

theorem execMktLapse_touch {W0 : List Nat} {s0 s : State} (h0 : Touch W0 s0 s) (hW : Sub execMktLapse_cells W0) (addr : Nat) (isBid : Bool) :
    TouchOut W0 s0 (execMktLapse addr isBid s) := by
  have c_State_peerBidEnd : Sub State.peerBidEnd_cells W0 := Sub.trans (Sub.of rfl) hW
  have c_State_peerOfferEnd : Sub State.peerOfferEnd_cells W0 := Sub.trans (Sub.of rfl) hW
  have c_State_post : Sub State.post_cells W0 := Sub.trans (Sub.of rfl) hW
  have w601 : Writes W0 R.MKT_EVENT := Or.inl (hW.mem rfl)
  have w626 : Writes W0 R.MKT_LAPSECNT := Or.inl (hW.mem rfl)
  unfold execMktLapse
  repeat' first
    | with_reducible assumption
    | with_reducible refine TouchOut.next ?_
    | (extract_lets +onlyGivenNames xx; guard_hyp xx : State := _; refine Touch.cut (x := xx) ?_ ?_; (on_goal 2 => (intro hh; (try clear_value xx); revert xx; intro _ _)); any_goals (revert xx; intro _))
    | (extract_lets +onlyGivenNames xx; (try clear_value xx); revert xx; intro _)
    | with_reducible refine State.peerBidEnd_touch ?_ c_State_peerBidEnd _ _
    | with_reducible refine State.peerOfferEnd_touch ?_ c_State_peerOfferEnd _ _
    | with_reducible refine State.post_touch ?_ c_State_post _ _
    | with_reducible refine State.bump_touch ?_ _ _ ?_
    | with_reducible refine State.event_touch ?_ _ ?_
    | with_reducible refine State.when_touch ?_ _ _ ?_
    | with_reducible refine Touch.ite ?_ ?_
    | with_reducible intro _ _

def State.bidRetry_cells : List Nat :=
  [0x501, 0x601, 0x610, 0x611, 0x612, 0x613, 0x614, 0x615, 0x616, 0x617, 0xa01, 0xa32, 0x140a, 0x140b, 0x140f, 0x1417]

theorem State.bidRetry_touch {W0 : List Nat} {s0 s : State} (h0 : Touch W0 s0 s) (hW : Sub State.bidRetry_cells W0) (x : OwnBid) :
    Touch W0 s0 (State.bidRetry s x) := by
  have c_State_withTx : Sub State.withTx_cells W0 := Sub.trans (Sub.of rfl) hW
  have c_State_sendBid : Sub State.sendBid_cells W0 := Sub.trans (Sub.of rfl) hW
  have c_State_dropBid : Sub State.dropBid_cells W0 := Sub.trans (Sub.of rfl) hW
  have c_State_clearDraws : Sub State.clearDraws_cells W0 := Sub.trans (Sub.of rfl) hW
  unfold State.bidRetry
  repeat' first
    | with_reducible assumption
    | with_reducible refine State.withTx_touch ?_ c_State_withTx _ _ ?_
    | with_reducible refine State.sendBid_touch ?_ c_State_sendBid _
    | with_reducible refine State.dropBid_touch ?_ c_State_dropBid _ _
    | with_reducible refine State.clearDraws_touch ?_ c_State_clearDraws _
    | with_reducible refine Touch.ite ?_ ?_
    | with_reducible intro _ _

def execBidRetry_cells : List Nat :=
  [0x501, 0x601, 0x610, 0x611, 0x612, 0x613, 0x614, 0x615, 0x616, 0x617, 0xa01, 0xa32, 0x140a, 0x140b, 0x140f, 0x1417]

theorem execBidRetry_touch {W0 : List Nat} {s0 s : State} (h0 : Touch W0 s0 s) (hW : Sub execBidRetry_cells W0) :
    TouchOut W0 s0 (execBidRetry s) := by
  have c_State_bidRetry : Sub State.bidRetry_cells W0 := Sub.trans (Sub.of rfl) hW
  unfold execBidRetry
  repeat' first
    | with_reducible assumption
    | with_reducible refine TouchOut.next ?_
    | with_reducible refine State.bidRetry_touch ?_ c_State_bidRetry _
    | with_reducible refine State.when_touch ?_ _ _ ?_
    | with_reducible refine Touch.foldl ?_ ?_
    | with_reducible intro _ _
    | with_reducible intro _

def execTentmaxExpiry_cells : List Nat :=
  [0x501, 0x607, 0x608, 0xa01, 0xa32, 0x140a, 0x140b, 0x140f, 0x1417]

theorem execTentmaxExpiry_touch {W0 : List Nat} {s0 s : State} (h0 : Touch W0 s0 s) (hW : Sub execTentmaxExpiry_cells W0) :
    TouchOut W0 s0 (execTentmaxExpiry s) := by
  have c_State_withTx : Sub State.withTx_cells W0 := Sub.trans (Sub.of rfl) hW
  have c_State_withdrawOffer : Sub State.withdrawOffer_cells W0 := Sub.trans (Sub.of rfl) hW
  unfold execTentmaxExpiry
  repeat' first
    | with_reducible assumption
    | with_reducible refine TouchOut.next ?_
    | with_reducible refine State.withTx_touch ?_ c_State_withTx _ _ ?_
    | with_reducible refine State.withdrawOffer_touch ?_ c_State_withdrawOffer _
    | with_reducible refine State.when_touch ?_ _ _ ?_
    | with_reducible intro _ _

def execIsrcHoldEnd_cells : List Nat :=
  [0x407, 0x140b]

theorem execIsrcHoldEnd_touch {W0 : List Nat} {s0 s : State} (h0 : Touch W0 s0 s) (hW : Sub execIsrcHoldEnd_cells W0) :
    TouchOut W0 s0 (execIsrcHoldEnd s) := by
  have w407 : Writes W0 R.CONV_TET_ISRC := Or.inl (hW.mem rfl)
  have w140b : 0x140b ∈ W0 := hW.mem rfl
  unfold execIsrcHoldEnd
  repeat' first
    | with_reducible assumption
    | with_reducible refine TouchOut.next ?_
    | (extract_lets +onlyGivenNames xx; (try clear_value xx); revert xx; intro _)
    | with_reducible refine State.setReg_touch ?_ _ _ ?_
    | with_reducible refine State.when_touch ?_ _ _ ?_
    | with_reducible intro _ _
    | with_reducible refine Touch.update ?_

def execTetSinkCutoff_cells : List Nat :=
  [0x2, 0x6, 0x100, 0x101, 0x110, 0x111, 0x112, 0x113, 0x114, 0x116, 0x200, 0x300, 0x301, 0x31f, 0x400, 0x401, 0x40e,
   0x40f, 0x600, 0x601, 0x624, 0x900, 0x901, 0xa01, 0xa32, 0xb00, 0xb01, 0xb18, 0xc00, 0xc06, 0xc20, 0xc21, 0xc25,
   0xc30, 0xc34, 0xe00, 0x1405, 0x1407, 0x1408, 0x1409, 0x140b, 0x140c, 0x140d, 0x140f, 0x1412, 0x1413, 0x1414,
   0x1415, 0x1418]

theorem execTetSinkCutoff_touch {W0 : List Nat} {s0 s : State} (h0 : Touch W0 s0 s) (hW : Sub execTetSinkCutoff_cells W0) (vtet : Nat) :
    TouchOut W0 s0 (execTetSinkCutoff vtet s) := by
  have c_State_sinkCutoff : Sub State.sinkCutoff_cells W0 := Sub.trans (Sub.of rfl) hW
  unfold execTetSinkCutoff
  repeat' first
    | with_reducible assumption
    | with_reducible refine TouchOut.next ?_
    | with_reducible refine State.sinkCutoff_touch ?_ c_State_sinkCutoff _
    | with_reducible refine State.whenLive_touch ?_ _ ?_
    | with_reducible intro _ _

def execCutoffReturn_cells : List Nat :=
  [0x600, 0x140b]

theorem execCutoffReturn_touch {W0 : List Nat} {s0 s : State} (h0 : Touch W0 s0 s) (hW : Sub execCutoffReturn_cells W0) :
    TouchOut W0 s0 (execCutoffReturn s) := by
  have w600 : Writes W0 R.MKT_STATUS := Or.inl (hW.mem rfl)
  have w140b : 0x140b ∈ W0 := hW.mem rfl
  unfold execCutoffReturn
  repeat' first
    | with_reducible assumption
    | with_reducible refine TouchOut.next ?_
    | (extract_lets +onlyGivenNames xx; guard_hyp xx : State := _; refine Touch.cut (x := xx) ?_ ?_; (on_goal 2 => (intro hh; (try clear_value xx); revert xx; intro _ _)); any_goals (revert xx; intro _))
    | (extract_lets +onlyGivenNames xx; (try clear_value xx); revert xx; intro _)
    | with_reducible refine State.setFlag_touch ?_ _ _ ?_
    | with_reducible refine State.when_touch ?_ _ _ ?_
    | with_reducible intro _ _
    | with_reducible refine Touch.update ?_

def execStallWriteback_cells : List Nat :=
  [0xa00, 0xa01, 0xa32, 0xa33, 0xa34, 0x140b, 0x140f, 0x1417]

theorem execStallWriteback_touch {W0 : List Nat} {s0 s : State} (h0 : Touch W0 s0 s) (hW : Sub execStallWriteback_cells W0) (v : Verify) :
    TouchOut W0 s0 (execStallWriteback v s) := by
  have c_State_writeBackTimed : Sub State.writeBackTimed_cells W0 := Sub.trans (Sub.of rfl) hW
  have w140b : 0x140b ∈ W0 := hW.mem rfl
  unfold execStallWriteback
  repeat' first
    | with_reducible assumption
    | with_reducible refine TouchOut.next ?_
    | (extract_lets +onlyGivenNames xx; (try clear_value xx); revert xx; intro _)
    | with_reducible refine State.writeBackTimed_touch ?_ c_State_writeBackTimed _
    | with_reducible refine State.when_touch ?_ _ _ ?_
    | with_reducible intro _ _
    | with_reducible refine Touch.update ?_

end Sys2Proof.Machine
end

