-- ==== Sys2Proof/Laws/TouchMeasure.lean ====
section
/-!
SUPPORT. What each operation of Machine/Measure.lean can do: the registers and parts of the state it may write, and nothing
else; the unit, its queue and the form of its stores are kept.
-/

-- proofs are elaborated one after another: many at once ask for more threads than a memory limit allows
set_option Elab.async false

set_option linter.unusedTactic false
set_option linter.unusedVariables false
set_option linter.unusedSimpArgs false
set_option linter.unreachableTactic false
set_option linter.tactic.unusedName false

namespace Sys2Proof.Machine

def State.measureVolts_cells : List Nat :=
  [0x110, 0x111, 0x112, 0x113, 0x210, 0x211, 0x40d, 0xb00, 0x1408, 0x1409]

theorem State.measureVolts_touch {W0 : List Nat} {s0 s : State} (h0 : Touch W0 s0 s) (hW : Sub State.measureVolts_cells W0) :
    Touch W0 s0 (State.measureVolts s) := by
  have w110 : Writes W0 R.SRC_VIN_V := Or.inl (hW.mem rfl)
  have w111 : Writes W0 R.SRC_VBUS_V := Or.inl (hW.mem rfl)
  have w112 : Writes W0 R.SRC_VPV_V := Or.inl (hW.mem rfl)
  have w113 : Writes W0 R.SRC_VTET_V := Or.inl (hW.mem rfl)
  have w210 : Writes W0 R.PATH_VSYS := Or.inl (hW.mem rfl)
  have w211 : Writes W0 R.PATH_VMUX := Or.inl (hW.mem rfl)
  have w40d : Writes W0 R.CONV_HORN_MEAS := Or.inl (hW.mem rfl)
  have wb00 : Writes W0 R.TC_STATUS := Or.inl (hW.mem rfl)
  have w1408 : 0x1408 ∈ W0 := hW.mem rfl
  have w1409 : 0x1409 ∈ W0 := hW.mem rfl
  unfold State.measureVolts
  repeat' first
    | with_reducible assumption
    | (extract_lets +onlyGivenNames xx; guard_hyp xx : State := _; refine Touch.cut (x := xx) ?_ ?_; (on_goal 2 => (intro hh; (try clear_value xx); revert xx; intro _ _)); any_goals (revert xx; intro _))
    | (extract_lets +onlyGivenNames xx; (try clear_value xx); revert xx; intro _)
    | with_reducible refine State.setFlag_touch ?_ _ _ ?_
    | with_reducible refine State.setReg_touch ?_ _ _ ?_
    | with_reducible refine Touch.foldl ?_ ?_
    | with_reducible refine Touch.ite ?_ ?_
    | with_reducible intro _ _
    | with_reducible intro _
    | split
    | (unfold voltReg; split <;> with_reducible assumption)
    | with_reducible refine Touch.update ?_

def State.measureConv_cells : List Nat :=
  [0x100, 0x114, 0x400, 0x401, 0x40e]

theorem State.measureConv_touch {W0 : List Nat} {s0 s : State} (h0 : Touch W0 s0 s) (hW : Sub State.measureConv_cells W0) :
    Touch W0 s0 (State.measureConv s) := by
  have c_State_holdInput : Sub State.holdInput_cells W0 := Sub.trans (Sub.of rfl) hW
  have c_State_tetHold : Sub State.tetHold_cells W0 := Sub.trans (Sub.of rfl) hW
  have w114 : Writes W0 R.SRC_IIN := Or.inl (hW.mem rfl)
  have w400 : Writes W0 R.CONV_STATUS := Or.inl (hW.mem rfl)
  have w401 : Writes W0 R.CONV_EVENT := Or.inl (hW.mem rfl)
  have w40e : Writes W0 R.CONV_TET_I := Or.inl (hW.mem rfl)
  unfold State.measureConv
  repeat' first
    | with_reducible assumption
    | (extract_lets +onlyGivenNames xx; guard_hyp xx : State := _; refine Touch.cut (x := xx) ?_ ?_; (on_goal 2 => (intro hh; (try clear_value xx); revert xx; intro _ _)); any_goals (revert xx; intro _))
    | (extract_lets +onlyGivenNames xx; (try clear_value xx); revert xx; intro _)
    | with_reducible refine State.holdInput_touch ?_ c_State_holdInput
    | with_reducible refine State.tetHold_touch ?_ c_State_tetHold
    | with_reducible refine State.event_touch ?_ _ ?_
    | with_reducible refine State.setFlag_touch ?_ _ _ ?_
    | with_reducible refine State.setReg_touch ?_ _ _ ?_
    | with_reducible refine Touch.ite ?_ ?_

def State.measureDie_cells : List Nat :=
  [0x140e]

theorem State.measureDie_touch {W0 : List Nat} {s0 s : State} (h0 : Touch W0 s0 s) (hW : Sub State.measureDie_cells W0) :
    Touch W0 s0 (State.measureDie s) := by
  have w140e : 0x140e ∈ W0 := hW.mem rfl
  unfold State.measureDie
  repeat' first
    | with_reducible assumption
    | (extract_lets +onlyGivenNames xx; (try clear_value xx); revert xx; intro _)
    | with_reducible refine Touch.ite ?_ ?_
    | with_reducible refine Touch.update ?_

def State.measureShed_cells : List Nat :=
  [0x401, 0x40f, 0xa01, 0xa32, 0x1408, 0x1409, 0x140f]

theorem State.measureShed_touch {W0 : List Nat} {s0 s : State} (h0 : Touch W0 s0 s) (hW : Sub State.measureShed_cells W0) :
    Touch W0 s0 (State.measureShed s) := by
  have c_State_excClip : Sub State.excClip_cells W0 := Sub.trans (Sub.of rfl) hW
  have c_State_refreshShed : Sub State.refreshShed_cells W0 := Sub.trans (Sub.of rfl) hW
  have w1408 : 0x1408 ∈ W0 := hW.mem rfl
  have w1409 : 0x1409 ∈ W0 := hW.mem rfl
  unfold State.measureShed
  repeat' first
    | with_reducible assumption
    | (extract_lets +onlyGivenNames xx; guard_hyp xx : State := _; refine Touch.cut (x := xx) ?_ ?_; (on_goal 2 => (intro hh; (try clear_value xx); revert xx; intro _ _)); any_goals (revert xx; intro _))
    | (extract_lets +onlyGivenNames xx; (try clear_value xx); revert xx; intro _)
    | with_reducible refine State.excClip_touch ?_ c_State_excClip
    | with_reducible refine State.refreshShed_touch ?_ c_State_refreshShed
    | with_reducible refine Touch.ite ?_ ?_
    | with_reducible refine Touch.update ?_

def State.measureCell_cells : List Nat :=
  [0x31f, 0x1407, 0x1411]

theorem State.measureCell_touch {W0 : List Nat} {s0 s : State} (h0 : Touch W0 s0 s) (hW : Sub State.measureCell_cells W0) :
    Touch W0 s0 (State.measureCell s) := by
  have c_State_capTrack : Sub State.capTrack_cells W0 := Sub.trans (Sub.of rfl) hW
  have w31f : Writes W0 R.CHG_IBAT := Or.inl (hW.mem rfl)
  have w1407 : 0x1407 ∈ W0 := hW.mem rfl
  unfold State.measureCell
  repeat' first
    | with_reducible assumption
    | (extract_lets +onlyGivenNames xx; guard_hyp xx : State := _; refine Touch.cut (x := xx) ?_ ?_; (on_goal 2 => (intro hh; (try clear_value xx); revert xx; intro _ _)); any_goals (revert xx; intro _))
    | (extract_lets +onlyGivenNames xx; (try clear_value xx); revert xx; intro _)
    | with_reducible refine State.capTrack_touch ?_ c_State_capTrack _ _
    | with_reducible refine State.setReg_touch ?_ _ _ ?_
    | with_reducible refine Touch.update ?_

def State.sampleChannels_cells : List Nat :=
  [0x700]

theorem State.sampleChannels_touch {W0 : List Nat} {s0 s : State} (h0 : Touch W0 s0 s) (hW : Sub State.sampleChannels_cells W0) :
    Touch W0 s0 (State.sampleChannels s) := by
  have c_State_setChannels : Sub State.setChannels_cells W0 := Sub.trans (Sub.of rfl) hW
  unfold State.sampleChannels
  repeat' first
    | with_reducible assumption
    | (extract_lets +onlyGivenNames xx; (try clear_value xx); revert xx; intro _)
    | with_reducible refine State.setChannels_touch ?_ c_State_setChannels _ _
    | with_reducible refine Touch.ite ?_ ?_

def State.measure_cells : List Nat :=
  [0x100, 0x110, 0x111, 0x112, 0x113, 0x114, 0x200, 0x210, 0x211, 0x300, 0x31f, 0x400, 0x401, 0x40d, 0x40e, 0x40f,
   0x900, 0x901, 0xa01, 0xa32, 0xb00, 0x1407, 0x1408, 0x1409, 0x140c, 0x140e, 0x140f, 0x1411]

theorem State.measure_touch {W0 : List Nat} {s0 s : State} (h0 : Touch W0 s0 s) (hW : Sub State.measure_cells W0) :
    Touch W0 s0 (State.measure s) := by
  have c_State_measureVolts : Sub State.measureVolts_cells W0 := Sub.trans (Sub.of rfl) hW
  have c_State_measureConv : Sub State.measureConv_cells W0 := Sub.trans (Sub.of rfl) hW
  have c_State_measureDie : Sub State.measureDie_cells W0 := Sub.trans (Sub.of rfl) hW
  have c_State_measureShed : Sub State.measureShed_cells W0 := Sub.trans (Sub.of rfl) hW
  have c_State_measureCell : Sub State.measureCell_cells W0 := Sub.trans (Sub.of rfl) hW
  have c_State_refreshReduced : Sub State.refreshReduced_cells W0 := Sub.trans (Sub.of rfl) hW
  have c_State_refreshBatfet : Sub State.refreshBatfet_cells W0 := Sub.trans (Sub.of rfl) hW
  have c_State_chgVerdict : Sub State.chgVerdict_cells W0 := Sub.trans (Sub.of rfl) hW
  unfold State.measure
  repeat' first
    | with_reducible assumption
    | (extract_lets +onlyGivenNames xx; guard_hyp xx : State := _; refine Touch.cut (x := xx) ?_ ?_; (on_goal 2 => (intro hh; (try clear_value xx); revert xx; intro _ _)); any_goals (revert xx; intro _))
    | with_reducible refine State.measureVolts_touch ?_ c_State_measureVolts
    | with_reducible refine State.measureConv_touch ?_ c_State_measureConv
    | with_reducible refine State.measureDie_touch ?_ c_State_measureDie
    | with_reducible refine State.measureShed_touch ?_ c_State_measureShed
    | with_reducible refine State.measureCell_touch ?_ c_State_measureCell
    | with_reducible refine State.refreshReduced_touch ?_ c_State_refreshReduced
    | with_reducible refine State.refreshBatfet_touch ?_ c_State_refreshBatfet
    | with_reducible refine State.chgVerdict_touch ?_ c_State_chgVerdict

def State.measureDue_cells : List Nat :=
  [0x100, 0x110, 0x111, 0x112, 0x113, 0x114, 0x200, 0x210, 0x211, 0x300, 0x31f, 0x400, 0x401, 0x40d, 0x40e, 0x40f,
   0x900, 0x901, 0xa01, 0xa32, 0xb00, 0x1407, 0x1408, 0x1409, 0x140c, 0x140e, 0x140f, 0x1411]

theorem State.measureDue_touch {W0 : List Nat} {s0 s : State} (h0 : Touch W0 s0 s) (hW : Sub State.measureDue_cells W0) :
    Touch W0 s0 (State.measureDue s) := by
  have c_State_measure : Sub State.measure_cells W0 := Sub.trans (Sub.of rfl) hW
  unfold State.measureDue
  repeat' first
    | with_reducible assumption
    | with_reducible refine State.measure_touch ?_ c_State_measure
    | with_reducible refine Touch.ite ?_ ?_

end Sys2Proof.Machine
end

