-- ==== Sys2Proof/Laws/TouchPd.lean ====
section
/-!
SUPPORT. What each operation of Machine/Pd.lean can do: the registers and parts of the state it may write, and nothing
else; the unit, its queue and the form of its stores are kept.
-/

-- proofs are elaborated one after another: many at once ask for more threads than a memory limit allows
set_option Elab.async false

set_option linter.unusedTactic false
set_option linter.unusedVariables false
set_option linter.unusedSimpArgs false
set_option linter.unreachableTactic false
set_option linter.tactic.unusedName false

namespace Sys2Proof.Machine

def State.atPort_cells : List Nat :=
  []

theorem State.atPort_touch {W0 : List Nat} {s0 s : State} (h0 : Touch W0 s0 s) (hW : Sub State.atPort_cells W0) (states : List Nat) (f : State → State) (hf : ∀ t, Touch W0 s0 t → Touch W0 s0 (f t)) :
    Touch W0 s0 (State.atPort s states f) := by
  unfold State.atPort
  repeat' first
    | with_reducible assumption
    | with_reducible refine State.when_touch ?_ _ _ ?_

def execCcRpDetect_cells : List Nat :=
  [0xb00]

theorem execCcRpDetect_touch {W0 : List Nat} {s0 s : State} (h0 : Touch W0 s0 s) (hW : Sub execCcRpDetect_cells W0) :
    TouchOut W0 s0 (execCcRpDetect s) := by
  have c_State_atPort : Sub State.atPort_cells W0 := fun _ h => nomatch h
  have wb00 : Writes W0 R.TC_STATUS := Or.inl (hW.mem rfl)
  unfold execCcRpDetect
  repeat' first
    | with_reducible assumption
    | with_reducible refine TouchOut.next ?_
    | with_reducible refine State.atPort_touch ?_ c_State_atPort _ _ ?_
    | with_reducible refine State.setField_touch ?_ _ _ ?_
    | with_reducible intro _ _

def State.setAdv_cells : List Nat :=
  [0xb00, 0xb01, 0x1412]

theorem State.setAdv_touch {W0 : List Nat} {s0 s : State} (h0 : Touch W0 s0 s) (hW : Sub State.setAdv_cells W0) (adv : Nat) :
    Touch W0 s0 (State.setAdv s adv) := by
  have wb00 : Writes W0 R.TC_STATUS := Or.inl (hW.mem rfl)
  have wb01 : Writes W0 R.PD_STATUS := Or.inl (hW.mem rfl)
  have w1412 : 0x1412 ∈ W0 := hW.mem rfl
  unfold State.setAdv
  repeat' first
    | with_reducible assumption
    | (extract_lets +onlyGivenNames xx; guard_hyp xx : State := _; refine Touch.cut (x := xx) ?_ ?_; (on_goal 2 => (intro hh; (try clear_value xx); revert xx; intro _ _)); any_goals (revert xx; intro _))
    | (extract_lets +onlyGivenNames xx; (try clear_value xx); revert xx; intro _)
    | with_reducible refine State.setField_touch ?_ _ _ ?_
    | with_reducible refine State.setFlag_touch ?_ _ _ ?_
    | split
    | with_reducible refine Touch.update ?_

def State.attached_cells : List Nat :=
  [0xa01, 0xa32, 0xb00, 0xb01, 0xb02, 0xb18, 0xb33, 0x1404, 0x140f, 0x1412]

theorem State.attached_touch {W0 : List Nat} {s0 s : State} (h0 : Touch W0 s0 s) (hW : Sub State.attached_cells W0) (state : Nat) (orient : Nat) (adv : Nat) :
    Touch W0 s0 (State.attached s state orient adv) := by
  have c_State_refreshCc : Sub State.refreshCc_cells W0 := Sub.trans (Sub.of rfl) hW
  have c_State_setAdv : Sub State.setAdv_cells W0 := Sub.trans (Sub.of rfl) hW
  have c_State_post : Sub State.post_cells W0 := Sub.trans (Sub.of rfl) hW
  have c_State_refreshLimit : Sub State.refreshLimit_cells W0 := Sub.trans (Sub.of rfl) hW
  have wb00 : Writes W0 R.TC_STATUS := Or.inl (hW.mem rfl)
  have wb01 : Writes W0 R.PD_STATUS := Or.inl (hW.mem rfl)
  have wb02 : Writes W0 R.PD_EVENT := Or.inl (hW.mem rfl)
  have wb33 : Writes W0 R.PD_ATTCNT := Or.inl (hW.mem rfl)
  have w1412 : 0x1412 ∈ W0 := hW.mem rfl
  unfold State.attached
  repeat' first
    | with_reducible assumption
    | (extract_lets +onlyGivenNames xx; guard_hyp xx : State := _; refine Touch.cut (x := xx) ?_ ?_; (on_goal 2 => (intro hh; (try clear_value xx); revert xx; intro _ _)); any_goals (revert xx; intro _))
    | (extract_lets +onlyGivenNames xx; (try clear_value xx); revert xx; intro _)
    | with_reducible refine State.refreshCc_touch ?_ c_State_refreshCc
    | with_reducible refine State.setAdv_touch ?_ c_State_setAdv _
    | with_reducible refine State.post_touch ?_ c_State_post _ _
    | with_reducible refine State.refreshLimit_touch ?_ c_State_refreshLimit
    | with_reducible refine State.bump_touch ?_ _ _ ?_
    | with_reducible refine State.event_touch ?_ _ ?_
    | with_reducible refine State.setField_touch ?_ _ _ ?_
    | with_reducible refine State.setFlag_touch ?_ _ _ ?_
    | with_reducible refine Touch.update ?_

def State.vbusFresh_cells : List Nat :=
  [0xb00, 0x1407, 0x1412]

theorem State.vbusFresh_touch {W0 : List Nat} {s0 s : State} (h0 : Touch W0 s0 s) (hW : Sub State.vbusFresh_cells W0) :
    Touch W0 s0 (State.vbusFresh s) := by
  have wb00 : Writes W0 R.TC_STATUS := Or.inl (hW.mem rfl)
  have w1407 : 0x1407 ∈ W0 := hW.mem rfl
  have w1412 : 0x1412 ∈ W0 := hW.mem rfl
  unfold State.vbusFresh
  repeat' first
    | with_reducible assumption
    | (extract_lets +onlyGivenNames xx; guard_hyp xx : State := _; refine Touch.cut (x := xx) ?_ ?_; (on_goal 2 => (intro hh; (try clear_value xx); revert xx; intro _ _)); any_goals (revert xx; intro _))
    | (extract_lets +onlyGivenNames xx; (try clear_value xx); revert xx; intro _)
    | with_reducible refine State.setFlag_touch ?_ _ _ ?_
    | with_reducible refine Touch.ite ?_ ?_
    | with_reducible refine Touch.update ?_

def execTcAttach_cells : List Nat :=
  [0x110, 0x111, 0x112, 0x113, 0xa01, 0xa32, 0xb00, 0xb01, 0xb02, 0xb18, 0xb33, 0x1404, 0x1407, 0x140f, 0x1412]

theorem execTcAttach_touch {W0 : List Nat} {s0 s : State} (h0 : Touch W0 s0 s) (hW : Sub execTcAttach_cells W0) (pin : Nat) (adv : Nat) (vbus : Nat) (low : Bool) (ticks : Nat) :
    TouchOut W0 s0 (execTcAttach pin adv vbus low ticks s) := by
  have c_State_atPort : Sub State.atPort_cells W0 := fun _ h => nomatch h
  have c_State_setVolt : Sub State.setVolt_cells W0 := Sub.trans (Sub.of rfl) hW
  have c_State_attached : Sub State.attached_cells W0 := Sub.trans (Sub.of rfl) hW
  have c_State_vbusFresh : Sub State.vbusFresh_cells W0 := Sub.trans (Sub.of rfl) hW
  unfold execTcAttach
  repeat' first
    | with_reducible assumption
    | with_reducible refine TouchOut.next ?_
    | (extract_lets +onlyGivenNames xx; guard_hyp xx : State := _; refine Touch.cut (x := xx) ?_ ?_; (on_goal 2 => (intro hh; (try clear_value xx); revert xx; intro _ _)); any_goals (revert xx; intro _))
    | with_reducible refine State.atPort_touch ?_ c_State_atPort _ _ ?_
    | with_reducible refine State.setVolt_touch ?_ c_State_setVolt _ _
    | with_reducible refine State.attached_touch ?_ c_State_attached _ _ _
    | with_reducible refine State.vbusFresh_touch ?_ c_State_vbusFresh
    | with_reducible refine State.when_touch ?_ _ _ ?_
    | with_reducible refine Touch.ite ?_ ?_
    | with_reducible intro _ _

def execDebugAccessoryAttach_cells : List Nat :=
  [0x110, 0x111, 0x112, 0x113, 0xa01, 0xa32, 0xb00, 0xb01, 0xb02, 0xb18, 0xb33, 0x1404, 0x1407, 0x140f, 0x1412]

theorem execDebugAccessoryAttach_touch {W0 : List Nat} {s0 s : State} (h0 : Touch W0 s0 s) (hW : Sub execDebugAccessoryAttach_cells W0) (vbus : Nat) (low : Bool) (ticks : Nat) :
    TouchOut W0 s0 (execDebugAccessoryAttach vbus low ticks s) := by
  have c_State_atPort : Sub State.atPort_cells W0 := fun _ h => nomatch h
  have c_State_setVolt : Sub State.setVolt_cells W0 := Sub.trans (Sub.of rfl) hW
  have c_State_attached : Sub State.attached_cells W0 := Sub.trans (Sub.of rfl) hW
  have c_State_vbusFresh : Sub State.vbusFresh_cells W0 := Sub.trans (Sub.of rfl) hW
  unfold execDebugAccessoryAttach
  repeat' first
    | with_reducible assumption
    | with_reducible refine TouchOut.next ?_
    | (extract_lets +onlyGivenNames xx; guard_hyp xx : State := _; refine Touch.cut (x := xx) ?_ ?_; (on_goal 2 => (intro hh; (try clear_value xx); revert xx; intro _ _)); any_goals (revert xx; intro _))
    | with_reducible refine State.atPort_touch ?_ c_State_atPort _ _ ?_
    | with_reducible refine State.setVolt_touch ?_ c_State_setVolt _ _
    | with_reducible refine State.attached_touch ?_ c_State_attached _ _ _
    | with_reducible refine State.vbusFresh_touch ?_ c_State_vbusFresh
    | with_reducible refine State.when_touch ?_ _ _ ?_
    | with_reducible refine Touch.ite ?_ ?_
    | with_reducible intro _ _

def State.detached_cells : List Nat :=
  [0x2, 0x6, 0xa01, 0xa32, 0xb00, 0xb01, 0xb02, 0xb14, 0xb15, 0xb16, 0xb17, 0xb18, 0xb20, 0xb21, 0xb22, 0xb23, 0xb24,
   0xb25, 0xb26, 0xb27, 0xb28, 0xb29, 0xb2a, 0xb2b, 0xb2c, 0xb2d, 0xb2e, 0xc00, 0xc06, 0xc30, 0xc34, 0xe00, 0x1404,
   0x1405, 0x1407, 0x140c, 0x140f, 0x1412, 0x1413, 0x1414, 0x1418]

theorem State.detached_touch {W0 : List Nat} {s0 s : State} (h0 : Touch W0 s0 s) (hW : Sub State.detached_cells W0) :
    Touch W0 s0 (State.detached s) := by
  have c_State_post : Sub State.post_cells W0 := Sub.trans (Sub.of rfl) hW
  have c_State_svcModeEnd : Sub State.svcModeEnd_cells W0 := Sub.trans (Sub.of rfl) hW
  have c_State_setAdv : Sub State.setAdv_cells W0 := Sub.trans (Sub.of rfl) hW
  have c_State_contractClear : Sub State.contractClear_cells W0 := Sub.trans (Sub.of rfl) hW
  have c_State_refreshCc : Sub State.refreshCc_cells W0 := Sub.trans (Sub.of rfl) hW
  have c_State_svcCloseOn : Sub State.svcCloseOn_cells W0 := Sub.trans (Sub.of rfl) hW
  have c_State_usbOff : Sub State.usbOff_cells W0 := Sub.trans (Sub.of rfl) hW
  have c_State_refreshLimit : Sub State.refreshLimit_cells W0 := Sub.trans (Sub.of rfl) hW
  have wb00 : Writes W0 R.TC_STATUS := Or.inl (hW.mem rfl)
  have wb01 : Writes W0 R.PD_STATUS := Or.inl (hW.mem rfl)
  have wb02 : Writes W0 R.PD_EVENT := Or.inl (hW.mem rfl)
  have wb20 : Writes W0 R.PD_SRCPDO0 := Or.inl (hW.mem rfl)
  have wb21 : Writes W0 R.PD_SRCPDO1 := Or.inl (hW.mem rfl)
  have wb22 : Writes W0 R.PD_SRCPDO2 := Or.inl (hW.mem rfl)
  have wb23 : Writes W0 R.PD_SRCPDO3 := Or.inl (hW.mem rfl)
  have wb24 : Writes W0 R.PD_SRCPDO4 := Or.inl (hW.mem rfl)
  have wb25 : Writes W0 R.PD_SRCPDO5 := Or.inl (hW.mem rfl)
  have wb26 : Writes W0 R.PD_SRCPDO6 := Or.inl (hW.mem rfl)
  have wb27 : Writes W0 R.PD_SRCPDO7 := Or.inl (hW.mem rfl)
  have wb28 : Writes W0 R.PD_SRCPDO8 := Or.inl (hW.mem rfl)
  have wb29 : Writes W0 R.PD_SRCPDO9 := Or.inl (hW.mem rfl)
  have wb2a : Writes W0 R.PD_SRCPDO10 := Or.inl (hW.mem rfl)
  have wb2b : Writes W0 R.PD_SRCPDO11 := Or.inl (hW.mem rfl)
  have wb2c : Writes W0 R.PD_SRCPDO12 := Or.inl (hW.mem rfl)
  have wb2d : Writes W0 R.PD_SRCPDO13 := Or.inl (hW.mem rfl)
  have wb2e : Writes W0 R.PD_SRCPDOCNT := Or.inl (hW.mem rfl)
  have wc00 : Writes W0 R.USB_STATUS := Or.inl (hW.mem rfl)
  have w1412 : 0x1412 ∈ W0 := hW.mem rfl
  unfold State.detached
  repeat' first
    | with_reducible assumption
    | (extract_lets +onlyGivenNames xx; guard_hyp xx : State := _; refine Touch.cut (x := xx) ?_ ?_; (on_goal 2 => (intro hh; (try clear_value xx); revert xx; intro _ _)); any_goals (revert xx; intro _))
    | (extract_lets +onlyGivenNames xx; (try clear_value xx); revert xx; intro _)
    | with_reducible refine State.post_touch ?_ c_State_post _ _
    | with_reducible refine State.svcModeEnd_touch ?_ c_State_svcModeEnd _
    | with_reducible refine State.setAdv_touch ?_ c_State_setAdv _
    | with_reducible refine State.contractClear_touch ?_ c_State_contractClear
    | with_reducible refine State.refreshCc_touch ?_ c_State_refreshCc
    | with_reducible refine State.svcCloseOn_touch ?_ c_State_svcCloseOn _ _
    | with_reducible refine State.usbOff_touch ?_ c_State_usbOff
    | with_reducible refine State.refreshLimit_touch ?_ c_State_refreshLimit
    | with_reducible refine State.event_touch ?_ _ ?_
    | with_reducible refine State.setField_touch ?_ _ _ ?_
    | with_reducible refine State.setFlag_touch ?_ _ _ ?_
    | with_reducible refine State.setReg_touch ?_ _ _ ?_
    | (with_reducible intro k hk; (try simp only [List.length_cons, List.length_nil, List.length_map, List.length_range, List.length_replicate] at hk); interval_cases k)
    | with_reducible refine State.setRegs_touch _ _ _ ?_ ?_
    | with_reducible refine Touch.update ?_

def State.shipOnDetach_cells : List Nat :=
  [0x6, 0xa01, 0xa32, 0xc20, 0xc21, 0xc25, 0x1405, 0x140d, 0x140f, 0x1413, 0x1415]

theorem State.shipOnDetach_touch {W0 : List Nat} {s0 s : State} (h0 : Touch W0 s0 s) (hW : Sub State.shipOnDetach_cells W0) :
    Touch W0 s0 (State.shipOnDetach s) := by
  have c_State_shipRequest : Sub State.shipRequest_cells W0 := Sub.trans (Sub.of rfl) hW
  have w1405 : 0x1405 ∈ W0 := hW.mem rfl
  unfold State.shipOnDetach
  repeat' first
    | with_reducible assumption
    | (extract_lets +onlyGivenNames xx; guard_hyp xx : (Boot) := _; revert xx; intro _)
    | with_reducible refine State.shipRequest_touch ?_ c_State_shipRequest _
    | split
    | with_reducible refine Touch.update ?_

def execTcDetach_cells : List Nat :=
  [0x2, 0x6, 0x100, 0x101, 0x110, 0x111, 0x112, 0x113, 0x114, 0x200, 0x300, 0x301, 0x31f, 0x400, 0x401, 0x40e, 0x40f,
   0x900, 0x901, 0xa01, 0xa32, 0xb00, 0xb01, 0xb02, 0xb14, 0xb15, 0xb16, 0xb17, 0xb18, 0xb20, 0xb21, 0xb22, 0xb23,
   0xb24, 0xb25, 0xb26, 0xb27, 0xb28, 0xb29, 0xb2a, 0xb2b, 0xb2c, 0xb2d, 0xb2e, 0xc00, 0xc06, 0xc20, 0xc21, 0xc25,
   0xc30, 0xc34, 0xe00, 0x1404, 0x1405, 0x1407, 0x1408, 0x1409, 0x140c, 0x140d, 0x140f, 0x1412, 0x1413, 0x1414,
   0x1415, 0x1418]

theorem execTcDetach_touch {W0 : List Nat} {s0 s : State} (h0 : Touch W0 s0 s) (hW : Sub execTcDetach_cells W0) (vbus : Nat) (ticks : Nat) :
    TouchOut W0 s0 (execTcDetach vbus ticks s) := by
  have c_State_atPort : Sub State.atPort_cells W0 := fun _ h => nomatch h
  have c_State_detached : Sub State.detached_cells W0 := Sub.trans (Sub.of rfl) hW
  have c_State_lose : Sub State.lose_cells W0 := Sub.trans (Sub.of rfl) hW
  have c_State_shipOnDetach : Sub State.shipOnDetach_cells W0 := Sub.trans (Sub.of rfl) hW
  have w1412 : 0x1412 ∈ W0 := hW.mem rfl
  unfold execTcDetach
  repeat' first
    | with_reducible assumption
    | with_reducible refine TouchOut.next ?_
    | (extract_lets +onlyGivenNames xx; guard_hyp xx : State := _; refine Touch.cut (x := xx) ?_ ?_; (on_goal 2 => (intro hh; (try clear_value xx); revert xx; intro _ _)); any_goals (revert xx; intro _))
    | (extract_lets +onlyGivenNames xx; (try clear_value xx); revert xx; intro _)
    | with_reducible refine State.atPort_touch ?_ c_State_atPort _ _ ?_
    | with_reducible refine State.detached_touch ?_ c_State_detached
    | with_reducible refine State.lose_touch ?_ c_State_lose _ _ _
    | with_reducible refine State.shipOnDetach_touch ?_ c_State_shipOnDetach
    | with_reducible refine State.when_touch ?_ _ _ ?_
    | with_reducible intro _ _
    | with_reducible refine Touch.update ?_

def execAttachwaitAbandon_cells : List Nat :=
  [0xb00]

theorem execAttachwaitAbandon_touch {W0 : List Nat} {s0 s : State} (h0 : Touch W0 s0 s) (hW : Sub execAttachwaitAbandon_cells W0) (ticks : Nat) :
    TouchOut W0 s0 (execAttachwaitAbandon ticks s) := by
  have c_State_atPort : Sub State.atPort_cells W0 := fun _ h => nomatch h
  have wb00 : Writes W0 R.TC_STATUS := Or.inl (hW.mem rfl)
  unfold execAttachwaitAbandon
  repeat' first
    | with_reducible assumption
    | with_reducible refine TouchOut.next ?_
    | with_reducible refine State.atPort_touch ?_ c_State_atPort _ _ ?_
    | with_reducible refine State.setField_touch ?_ _ _ ?_
    | with_reducible refine State.when_touch ?_ _ _ ?_
    | with_reducible intro _ _

def execAdvertisementChange_cells : List Nat :=
  [0xb00, 0xb01, 0xb02, 0xb18, 0x1412]

theorem execAdvertisementChange_touch {W0 : List Nat} {s0 s : State} (h0 : Touch W0 s0 s) (hW : Sub execAdvertisementChange_cells W0) (adv : Nat) (ticks : Nat) :
    TouchOut W0 s0 (execAdvertisementChange adv ticks s) := by
  have c_State_atPort : Sub State.atPort_cells W0 := fun _ h => nomatch h
  have c_State_setAdv : Sub State.setAdv_cells W0 := Sub.trans (Sub.of rfl) hW
  have c_State_refreshLimit : Sub State.refreshLimit_cells W0 := Sub.trans (Sub.of rfl) hW
  have wb02 : Writes W0 R.PD_EVENT := Or.inl (hW.mem rfl)
  unfold execAdvertisementChange
  repeat' first
    | with_reducible assumption
    | with_reducible refine TouchOut.next ?_
    | with_reducible refine State.atPort_touch ?_ c_State_atPort _ _ ?_
    | with_reducible refine State.setAdv_touch ?_ c_State_setAdv _
    | with_reducible refine State.refreshLimit_touch ?_ c_State_refreshLimit
    | with_reducible refine State.event_touch ?_ _ ?_
    | with_reducible refine State.when_touch ?_ _ _ ?_
    | with_reducible intro _ _

def execFreshAttachDebounce_cells : List Nat :=
  [0xb00, 0x1407, 0x1412]

theorem execFreshAttachDebounce_touch {W0 : List Nat} {s0 s : State} (h0 : Touch W0 s0 s) (hW : Sub execFreshAttachDebounce_cells W0) (ticks : Nat) :
    TouchOut W0 s0 (execFreshAttachDebounce ticks s) := by
  have c_State_atPort : Sub State.atPort_cells W0 := fun _ h => nomatch h
  have c_State_vbusFresh : Sub State.vbusFresh_cells W0 := Sub.trans (Sub.of rfl) hW
  unfold execFreshAttachDebounce
  repeat' first
    | with_reducible assumption
    | with_reducible refine TouchOut.next ?_
    | with_reducible refine State.atPort_touch ?_ c_State_atPort _ _ ?_
    | with_reducible refine State.vbusFresh_touch ?_ c_State_vbusFresh
    | with_reducible refine State.when_touch ?_ _ _ ?_
    | with_reducible intro _ _

def execBc12Start_cells : List Nat :=
  [0xb00, 0xb18, 0xc00, 0xc06, 0xe00, 0x1412, 0x1413, 0x1414]

theorem execBc12Start_touch {W0 : List Nat} {s0 s : State} (h0 : Touch W0 s0 s) (hW : Sub execBc12Start_cells W0) :
    TouchOut W0 s0 (execBc12Start s) := by
  have c_State_atPort : Sub State.atPort_cells W0 := fun _ h => nomatch h
  have c_State_usbOff : Sub State.usbOff_cells W0 := Sub.trans (Sub.of rfl) hW
  have wb00 : Writes W0 R.TC_STATUS := Or.inl (hW.mem rfl)
  have w1412 : 0x1412 ∈ W0 := hW.mem rfl
  unfold execBc12Start
  repeat' first
    | with_reducible assumption
    | with_reducible refine TouchOut.next ?_
    | (extract_lets +onlyGivenNames xx; (try clear_value xx); revert xx; intro _)
    | with_reducible refine State.atPort_touch ?_ c_State_atPort _ _ ?_
    | with_reducible refine State.usbOff_touch ?_ c_State_usbOff
    | with_reducible refine State.setFlag_touch ?_ _ _ ?_
    | with_reducible refine State.when_touch ?_ _ _ ?_
    | with_reducible intro _ _
    | with_reducible refine Touch.update ?_

def execBc12Done_cells : List Nat :=
  [0xb00, 0xb02, 0xb18, 0xc00, 0xc06, 0xe00, 0x1413, 0x1414]

theorem execBc12Done_touch {W0 : List Nat} {s0 s : State} (h0 : Touch W0 s0 s) (hW : Sub execBc12Done_cells W0) (result : Nat) :
    TouchOut W0 s0 (execBc12Done result s) := by
  have c_State_atPort : Sub State.atPort_cells W0 := fun _ h => nomatch h
  have c_State_usbRefresh : Sub State.usbRefresh_cells W0 := Sub.trans (Sub.of rfl) hW
  have c_State_refreshLimit : Sub State.refreshLimit_cells W0 := Sub.trans (Sub.of rfl) hW
  have wb00 : Writes W0 R.TC_STATUS := Or.inl (hW.mem rfl)
  have wb02 : Writes W0 R.PD_EVENT := Or.inl (hW.mem rfl)
  unfold execBc12Done
  repeat' first
    | with_reducible assumption
    | with_reducible refine TouchOut.next ?_
    | (extract_lets +onlyGivenNames xx; guard_hyp xx : State := _; refine Touch.cut (x := xx) ?_ ?_; (on_goal 2 => (intro hh; (try clear_value xx); revert xx; intro _ _)); any_goals (revert xx; intro _))
    | with_reducible refine State.atPort_touch ?_ c_State_atPort _ _ ?_
    | with_reducible refine State.usbRefresh_touch ?_ c_State_usbRefresh
    | with_reducible refine State.refreshLimit_touch ?_ c_State_refreshLimit
    | with_reducible refine State.event_touch ?_ _ ?_
    | with_reducible refine State.setField_touch ?_ _ _ ?_
    | with_reducible refine State.setFlag_touch ?_ _ _ ?_
    | with_reducible refine State.when_touch ?_ _ _ ?_
    | with_reducible intro _ _

def State.setSrcPdos_cells : List Nat :=
  [0xb20, 0xb21, 0xb22, 0xb23, 0xb24, 0xb25, 0xb26, 0xb27, 0xb28, 0xb29, 0xb2a, 0xb2b, 0xb2c, 0xb2d, 0xb2e]

theorem State.setSrcPdos_touch {W0 : List Nat} {s0 s : State} (h0 : Touch W0 s0 s) (hW : Sub State.setSrcPdos_cells W0) (l : List Nat) :
    Touch W0 s0 (State.setSrcPdos s l) := by
  have wb20 : Writes W0 R.PD_SRCPDO0 := Or.inl (hW.mem rfl)
  have wb21 : Writes W0 R.PD_SRCPDO1 := Or.inl (hW.mem rfl)
  have wb22 : Writes W0 R.PD_SRCPDO2 := Or.inl (hW.mem rfl)
  have wb23 : Writes W0 R.PD_SRCPDO3 := Or.inl (hW.mem rfl)
  have wb24 : Writes W0 R.PD_SRCPDO4 := Or.inl (hW.mem rfl)
  have wb25 : Writes W0 R.PD_SRCPDO5 := Or.inl (hW.mem rfl)
  have wb26 : Writes W0 R.PD_SRCPDO6 := Or.inl (hW.mem rfl)
  have wb27 : Writes W0 R.PD_SRCPDO7 := Or.inl (hW.mem rfl)
  have wb28 : Writes W0 R.PD_SRCPDO8 := Or.inl (hW.mem rfl)
  have wb29 : Writes W0 R.PD_SRCPDO9 := Or.inl (hW.mem rfl)
  have wb2a : Writes W0 R.PD_SRCPDO10 := Or.inl (hW.mem rfl)
  have wb2b : Writes W0 R.PD_SRCPDO11 := Or.inl (hW.mem rfl)
  have wb2c : Writes W0 R.PD_SRCPDO12 := Or.inl (hW.mem rfl)
  have wb2d : Writes W0 R.PD_SRCPDO13 := Or.inl (hW.mem rfl)
  have wb2e : Writes W0 R.PD_SRCPDOCNT := Or.inl (hW.mem rfl)
  unfold State.setSrcPdos
  have hlen : ((l.take 7).flatMap fun p => [BitVec.ofNat 16 (p / 65536), BitVec.ofNat 16 p]).length ≤ 14 := by
    simp only [List.length_flatMap, List.length_cons, List.length_nil, List.map_const', List.sum_replicate]
    have := List.length_take_le 7 l
    simp only [smul_eq_mul]
    omega
  extract_lets l1 s1
  have h1 : Touch W0 s0 s1 := by
    refine State.setReg_touch ?_ _ _ wb2e
    refine State.setRegs_touch _ _ _ h0 fun k hk => ?_
    simp only [List.length_replicate] at hk
    interval_cases k <;> assumption
  clear_value s1
  refine State.setRegs_touch _ _ _ h1 fun k hk => ?_
  have hk14 : k < 14 := Nat.lt_of_lt_of_le hk hlen
  clear hk hlen
  interval_cases k <;> assumption

def State.capsArrive_cells : List Nat :=
  [0xb00, 0xb01, 0xb02, 0xb20, 0xb21, 0xb22, 0xb23, 0xb24, 0xb25, 0xb26, 0xb27, 0xb28, 0xb29, 0xb2a, 0xb2b, 0xb2c,
   0xb2d, 0xb2e, 0x1412]

theorem State.capsArrive_touch {W0 : List Nat} {s0 s : State} (h0 : Touch W0 s0 s) (hW : Sub State.capsArrive_cells W0) (rev : Nat) (l : List Nat) (posted : Bool) :
    Touch W0 s0 (State.capsArrive s rev l posted) := by
  have c_State_setSrcPdos : Sub State.setSrcPdos_cells W0 := Sub.trans (Sub.of rfl) hW
  have c_State_pdAnswerCaps : Sub State.pdAnswerCaps_cells W0 := Sub.trans (Sub.of rfl) hW
  have wb00 : Writes W0 R.TC_STATUS := Or.inl (hW.mem rfl)
  have wb01 : Writes W0 R.PD_STATUS := Or.inl (hW.mem rfl)
  have wb02 : Writes W0 R.PD_EVENT := Or.inl (hW.mem rfl)
  have w1412 : 0x1412 ∈ W0 := hW.mem rfl
  unfold State.capsArrive
  repeat' first
    | with_reducible assumption
    | (extract_lets +onlyGivenNames xx; guard_hyp xx : State := _; refine Touch.cut (x := xx) ?_ ?_; (on_goal 2 => (intro hh; (try clear_value xx); revert xx; intro _ _)); any_goals (revert xx; intro _))
    | (extract_lets +onlyGivenNames xx; (try clear_value xx); revert xx; intro _)
    | with_reducible refine State.setSrcPdos_touch ?_ c_State_setSrcPdos _
    | with_reducible refine State.pdAnswerCaps_touch ?_ c_State_pdAnswerCaps _
    | with_reducible refine State.event_touch ?_ _ ?_
    | with_reducible refine State.setField_touch ?_ _ _ ?_
    | with_reducible refine State.setFlag_touch ?_ _ _ ?_
    | with_reducible refine Touch.ite ?_ ?_
    | with_reducible refine Touch.update ?_

def execSourceCapabilitiesRx_cells : List Nat :=
  [0x2, 0x6, 0xa01, 0xa32, 0xb00, 0xb01, 0xb02, 0xb14, 0xb15, 0xb16, 0xb17, 0xb18, 0xb20, 0xb21, 0xb22, 0xb23, 0xb24,
   0xb25, 0xb26, 0xb27, 0xb28, 0xb29, 0xb2a, 0xb2b, 0xb2c, 0xb2d, 0xb2e, 0xb30, 0xc30, 0xc34, 0x1404, 0x1405, 0x1407,
   0x140c, 0x140f, 0x1412, 0x1413, 0x1418]

theorem execSourceCapabilitiesRx_touch {W0 : List Nat} {s0 s : State} (h0 : Touch W0 s0 s) (hW : Sub execSourceCapabilitiesRx_cells W0) (h : PdHeader) (objs : List Nat) (posted : Bool) :
    TouchOut W0 s0 (execSourceCapabilitiesRx h objs posted s) := by
  have c_State_pdReceive : Sub State.pdReceive_cells W0 := Sub.trans (Sub.of rfl) hW
  have c_State_capsArrive : Sub State.capsArrive_cells W0 := Sub.trans (Sub.of rfl) hW
  have c_State_pdSendHardReset : Sub State.pdSendHardReset_cells W0 := Sub.trans (Sub.of rfl) hW
  unfold execSourceCapabilitiesRx
  repeat' first
    | with_reducible assumption
    | with_reducible refine TouchOut.next ?_
    | with_reducible refine State.pdReceive_touch ?_ c_State_pdReceive _ _ ?_
    | with_reducible refine State.capsArrive_touch ?_ c_State_capsArrive _ _ _
    | with_reducible refine State.pdSendHardReset_touch ?_ c_State_pdSendHardReset _
    | with_reducible refine Touch.ite ?_ ?_
    | with_reducible intro _ _

def execAcceptRx_cells : List Nat :=
  [0xa01, 0xa32, 0xb01, 0xb02, 0xb18, 0x1407, 0x140f, 0x1412]

theorem execAcceptRx_touch {W0 : List Nat} {s0 s : State} (h0 : Touch W0 s0 s) (hW : Sub execAcceptRx_cells W0) (h : PdHeader) :
    TouchOut W0 s0 (execAcceptRx h s) := by
  have c_State_pdReceive : Sub State.pdReceive_cells W0 := Sub.trans (Sub.of rfl) hW
  have c_State_pdAccepted : Sub State.pdAccepted_cells W0 := Sub.trans (Sub.of rfl) hW
  have w1412 : 0x1412 ∈ W0 := hW.mem rfl
  unfold execAcceptRx
  repeat' first
    | with_reducible assumption
    | with_reducible refine TouchOut.next ?_
    | (extract_lets +onlyGivenNames xx; (try clear_value xx); revert xx; intro _)
    | with_reducible refine State.pdReceive_touch ?_ c_State_pdReceive _ _ ?_
    | with_reducible refine State.pdAccepted_touch ?_ c_State_pdAccepted _
    | with_reducible refine Touch.ite ?_ ?_
    | with_reducible intro _ _
    | split
    | with_reducible refine Touch.update ?_

def execPsRdyRx_cells : List Nat :=
  [0xa01, 0xa32, 0xb00, 0xb01, 0xb02, 0xb14, 0xb15, 0xb16, 0xb17, 0xb18, 0x1407, 0x140f, 0x1412]

theorem execPsRdyRx_touch {W0 : List Nat} {s0 s : State} (h0 : Touch W0 s0 s) (hW : Sub execPsRdyRx_cells W0) (h : PdHeader) :
    TouchOut W0 s0 (execPsRdyRx h s) := by
  have c_State_pdReceive : Sub State.pdReceive_cells W0 := Sub.trans (Sub.of rfl) hW
  have c_State_pdContract : Sub State.pdContract_cells W0 := Sub.trans (Sub.of rfl) hW
  unfold execPsRdyRx
  repeat' first
    | with_reducible assumption
    | with_reducible refine TouchOut.next ?_
    | with_reducible refine State.pdReceive_touch ?_ c_State_pdReceive _ _ ?_
    | with_reducible refine State.pdContract_touch ?_ c_State_pdContract _
    | with_reducible refine Touch.ite ?_ ?_
    | with_reducible intro _ _
    | split

def execWaitRejectRx_cells : List Nat :=
  [0xa01, 0xa32, 0xb01, 0xb02, 0xb32, 0x140f, 0x1412]

theorem execWaitRejectRx_touch {W0 : List Nat} {s0 s : State} (h0 : Touch W0 s0 s) (hW : Sub execWaitRejectRx_cells W0) (h : PdHeader) :
    TouchOut W0 s0 (execWaitRejectRx h s) := by
  have c_State_pdReceive : Sub State.pdReceive_cells W0 := Sub.trans (Sub.of rfl) hW
  have c_State_pdRefusal : Sub State.pdRefusal_cells W0 := Sub.trans (Sub.of rfl) hW
  unfold execWaitRejectRx
  repeat' first
    | with_reducible assumption
    | with_reducible refine TouchOut.next ?_
    | with_reducible refine State.pdReceive_touch ?_ c_State_pdReceive _ _ ?_
    | with_reducible refine State.pdRefusal_touch ?_ c_State_pdRefusal _
    | with_reducible refine Touch.ite ?_ ?_
    | with_reducible intro _ _
    | split

def execPdRequestRetry_cells : List Nat :=
  [0x1412]

theorem execPdRequestRetry_touch {W0 : List Nat} {s0 s : State} (h0 : Touch W0 s0 s) (hW : Sub execPdRequestRetry_cells W0) :
    TouchOut W0 s0 (execPdRequestRetry s) := by
  have c_State_pdRequest : Sub State.pdRequest_cells W0 := Sub.trans (Sub.of rfl) hW
  unfold execPdRequestRetry
  repeat' first
    | with_reducible assumption
    | with_reducible refine TouchOut.next ?_
    | with_reducible refine State.pdRequest_touch ?_ c_State_pdRequest _
    | with_reducible refine State.when_touch ?_ _ _ ?_
    | with_reducible refine Touch.ite ?_ ?_
    | with_reducible intro _ _
    | split

def execPdRefusalExpiry_cells : List Nat :=
  [0x1412]

theorem execPdRefusalExpiry_touch {W0 : List Nat} {s0 s : State} (h0 : Touch W0 s0 s) (hW : Sub execPdRefusalExpiry_cells W0) :
    TouchOut W0 s0 (execPdRefusalExpiry s) := by
  have w1412 : 0x1412 ∈ W0 := hW.mem rfl
  unfold execPdRefusalExpiry
  repeat' first
    | with_reducible assumption
    | with_reducible refine TouchOut.next ?_
    | (extract_lets +onlyGivenNames xx; (try clear_value xx); revert xx; intro _)
    | with_reducible refine State.whenLive_touch ?_ _ ?_
    | with_reducible intro _ _
    | with_reducible refine Touch.update ?_

def execPpsKeepalive_cells : List Nat :=
  [0x1412]

theorem execPpsKeepalive_touch {W0 : List Nat} {s0 s : State} (h0 : Touch W0 s0 s) (hW : Sub execPpsKeepalive_cells W0) :
    TouchOut W0 s0 (execPpsKeepalive s) := by
  have c_State_pdRequest : Sub State.pdRequest_cells W0 := Sub.trans (Sub.of rfl) hW
  have w1412 : 0x1412 ∈ W0 := hW.mem rfl
  unfold execPpsKeepalive
  repeat' first
    | with_reducible assumption
    | with_reducible refine TouchOut.next ?_
    | (extract_lets +onlyGivenNames xx; (try clear_value xx); revert xx; intro _)
    | with_reducible refine State.pdRequest_touch ?_ c_State_pdRequest _
    | with_reducible refine State.when_touch ?_ _ _ ?_
    | with_reducible intro _ _
    | split
    | with_reducible refine Touch.update ?_

def execFallbackRequest_cells : List Nat :=
  [0x1412]

theorem execFallbackRequest_touch {W0 : List Nat} {s0 s : State} (h0 : Touch W0 s0 s) (hW : Sub execFallbackRequest_cells W0) :
    TouchOut W0 s0 (execFallbackRequest s) := by
  have c_State_pdAnswerCaps : Sub State.pdAnswerCaps_cells W0 := Sub.trans (Sub.of rfl) hW
  unfold execFallbackRequest
  repeat' first
    | with_reducible assumption
    | with_reducible refine TouchOut.next ?_
    | with_reducible refine State.pdAnswerCaps_touch ?_ c_State_pdAnswerCaps _
    | with_reducible refine State.when_touch ?_ _ _ ?_
    | with_reducible intro _ _

def execGetSinkCapRx_cells : List Nat :=
  [0x2, 0x6, 0xa01, 0xa32, 0xb00, 0xb01, 0xb02, 0xb14, 0xb15, 0xb16, 0xb17, 0xb18, 0xb30, 0xc30, 0xc34, 0x1404,
   0x1405, 0x1407, 0x140c, 0x140f, 0x1412, 0x1413, 0x1418]

theorem execGetSinkCapRx_touch {W0 : List Nat} {s0 s : State} (h0 : Touch W0 s0 s) (hW : Sub execGetSinkCapRx_cells W0) (h : PdHeader) :
    TouchOut W0 s0 (execGetSinkCapRx h s) := by
  have c_State_pdIncoming : Sub State.pdIncoming_cells W0 := Sub.trans (Sub.of rfl) hW
  have c_State_pdSend : Sub State.pdSend_cells W0 := Sub.trans (Sub.of rfl) hW
  unfold execGetSinkCapRx
  repeat' first
    | with_reducible assumption
    | with_reducible refine TouchOut.next ?_
    | with_reducible refine State.pdIncoming_touch ?_ c_State_pdIncoming _ _ ?_
    | with_reducible refine State.pdSend_touch ?_ c_State_pdSend _
    | with_reducible intro _ _

def execSoftResetRx_cells : List Nat :=
  [0xa01, 0xa32, 0xb01, 0xb02, 0x140f, 0x1412]

theorem execSoftResetRx_touch {W0 : List Nat} {s0 s : State} (h0 : Touch W0 s0 s) (hW : Sub execSoftResetRx_cells W0) (h : PdHeader) :
    TouchOut W0 s0 (execSoftResetRx h s) := by
  have c_State_pdNonPd : Sub State.pdNonPd_cells W0 := Sub.trans (Sub.of rfl) hW
  have c_State_pdSend : Sub State.pdSend_cells W0 := Sub.trans (Sub.of rfl) hW
  have wb01 : Writes W0 R.PD_STATUS := Or.inl (hW.mem rfl)
  have wb02 : Writes W0 R.PD_EVENT := Or.inl (hW.mem rfl)
  have w1412 : 0x1412 ∈ W0 := hW.mem rfl
  unfold execSoftResetRx
  repeat' first
    | with_reducible assumption
    | with_reducible refine TouchOut.next ?_
    | (extract_lets +onlyGivenNames xx; guard_hyp xx : State := _; refine Touch.cut (x := xx) ?_ ?_; (on_goal 2 => (intro hh; (try clear_value xx); revert xx; intro _ _)); any_goals (revert xx; intro _))
    | (extract_lets +onlyGivenNames xx; (try clear_value xx); revert xx; intro _)
    | with_reducible refine State.pdNonPd_touch ?_ c_State_pdNonPd
    | with_reducible refine State.pdSend_touch ?_ c_State_pdSend _
    | with_reducible refine State.event_touch ?_ _ ?_
    | with_reducible refine State.setFlag_touch ?_ _ _ ?_
    | with_reducible refine State.when_touch ?_ _ _ ?_
    | with_reducible refine Touch.ite ?_ ?_
    | with_reducible intro _ _
    | with_reducible refine Touch.update ?_

def execGetRevisionRx_cells : List Nat :=
  [0x2, 0x6, 0xa01, 0xa32, 0xb00, 0xb01, 0xb02, 0xb14, 0xb15, 0xb16, 0xb17, 0xb18, 0xb30, 0xc30, 0xc34, 0x1404,
   0x1405, 0x1407, 0x140c, 0x140f, 0x1412, 0x1413, 0x1418]

theorem execGetRevisionRx_touch {W0 : List Nat} {s0 s : State} (h0 : Touch W0 s0 s) (hW : Sub execGetRevisionRx_cells W0) (h : PdHeader) :
    TouchOut W0 s0 (execGetRevisionRx h s) := by
  have c_State_pdIncoming : Sub State.pdIncoming_cells W0 := Sub.trans (Sub.of rfl) hW
  have c_State_pdSend : Sub State.pdSend_cells W0 := Sub.trans (Sub.of rfl) hW
  unfold execGetRevisionRx
  repeat' first
    | with_reducible assumption
    | with_reducible refine TouchOut.next ?_
    | with_reducible refine State.pdIncoming_touch ?_ c_State_pdIncoming _ _ ?_
    | with_reducible refine State.pdSend_touch ?_ c_State_pdSend _
    | with_reducible refine Touch.ite ?_ ?_
    | with_reducible intro _ _

def State.pdUnless_cells : List Nat :=
  [0x2, 0x6, 0xa01, 0xa32, 0xb00, 0xb01, 0xb02, 0xb14, 0xb15, 0xb16, 0xb17, 0xb18, 0xb30, 0xc30, 0xc34, 0x1404,
   0x1405, 0x1407, 0x140c, 0x140f, 0x1412, 0x1413, 0x1418]

theorem State.pdUnless_touch {W0 : List Nat} {s0 s : State} (h0 : Touch W0 s0 s) (hW : Sub State.pdUnless_cells W0) (h : PdHeader) (ignored : State → Bool) (f : State → State) (hf : ∀ t, Touch W0 s0 t → Touch W0 s0 (f t)) :
    Touch W0 s0 (State.pdUnless s h ignored f) := by
  have c_State_pdReceive : Sub State.pdReceive_cells W0 := Sub.trans (Sub.of rfl) hW
  have c_State_pdIncoming : Sub State.pdIncoming_cells W0 := Sub.trans (Sub.of rfl) hW
  unfold State.pdUnless
  repeat' first
    | with_reducible assumption
    | with_reducible refine State.pdReceive_touch ?_ c_State_pdReceive _ _ ?_
    | with_reducible refine State.pdIncoming_touch ?_ c_State_pdIncoming _ _ ?_
    | with_reducible refine Touch.ite ?_ ?_
    | with_reducible intro _ _

def execAlertRx_cells : List Nat :=
  [0x2, 0x6, 0xa01, 0xa32, 0xb00, 0xb01, 0xb02, 0xb14, 0xb15, 0xb16, 0xb17, 0xb18, 0xb30, 0xc30, 0xc34, 0x1404,
   0x1405, 0x1407, 0x140c, 0x140f, 0x1412, 0x1413, 0x1418]

theorem execAlertRx_touch {W0 : List Nat} {s0 s : State} (h0 : Touch W0 s0 s) (hW : Sub execAlertRx_cells W0) (h : PdHeader) :
    TouchOut W0 s0 (execAlertRx h s) := by
  have c_State_pdUnless : Sub State.pdUnless_cells W0 := Sub.trans (Sub.of rfl) hW
  have c_State_pdAsk : Sub State.pdAsk_cells W0 := Sub.trans (Sub.of rfl) hW
  have wb02 : Writes W0 R.PD_EVENT := Or.inl (hW.mem rfl)
  unfold execAlertRx
  repeat' first
    | with_reducible assumption
    | with_reducible refine TouchOut.next ?_
    | with_reducible refine State.pdUnless_touch ?_ c_State_pdUnless _ _ _ ?_
    | with_reducible refine State.pdAsk_touch ?_ c_State_pdAsk _
    | with_reducible refine State.event_touch ?_ _ ?_
    | with_reducible intro _ _

def execStatusMessageRx_cells : List Nat :=
  [0x2, 0x6, 0xa01, 0xa32, 0xb00, 0xb01, 0xb02, 0xb14, 0xb15, 0xb16, 0xb17, 0xb18, 0xb30, 0xc30, 0xc34, 0x1404,
   0x1405, 0x1407, 0x140c, 0x140f, 0x1412, 0x1413, 0x1418]

theorem execStatusMessageRx_touch {W0 : List Nat} {s0 s : State} (h0 : Touch W0 s0 s) (hW : Sub execStatusMessageRx_cells W0) (h : PdHeader) (data : List Byte) :
    TouchOut W0 s0 (execStatusMessageRx h data s) := by
  have c_State_pdReceive : Sub State.pdReceive_cells W0 := Sub.trans (Sub.of rfl) hW
  have c_State_pdSendHardReset : Sub State.pdSendHardReset_cells W0 := Sub.trans (Sub.of rfl) hW
  have w1412 : 0x1412 ∈ W0 := hW.mem rfl
  unfold execStatusMessageRx
  repeat' first
    | with_reducible assumption
    | with_reducible refine TouchOut.next ?_
    | (extract_lets +onlyGivenNames xx; (try clear_value xx); revert xx; intro _)
    | with_reducible refine State.pdReceive_touch ?_ c_State_pdReceive _ _ ?_
    | with_reducible refine State.pdSendHardReset_touch ?_ c_State_pdSendHardReset _
    | with_reducible refine Touch.ite ?_ ?_
    | with_reducible intro _ _
    | split
    | with_reducible refine Touch.update ?_

def execBistRx_cells : List Nat :=
  [0x2, 0x6, 0xa01, 0xa32, 0xb00, 0xb01, 0xb02, 0xb14, 0xb15, 0xb16, 0xb17, 0xb18, 0xb30, 0xc30, 0xc34, 0x1404,
   0x1405, 0x1407, 0x140c, 0x140f, 0x1412, 0x1413, 0x1418]

theorem execBistRx_touch {W0 : List Nat} {s0 s : State} (h0 : Touch W0 s0 s) (hW : Sub execBistRx_cells W0) (h : PdHeader) (mode : Nat) :
    TouchOut W0 s0 (execBistRx h mode s) := by
  have c_State_pdUnless : Sub State.pdUnless_cells W0 := Sub.trans (Sub.of rfl) hW
  have c_State_refreshCc : Sub State.refreshCc_cells W0 := Sub.trans (Sub.of rfl) hW
  have w1412 : 0x1412 ∈ W0 := hW.mem rfl
  unfold execBistRx
  repeat' first
    | with_reducible assumption
    | with_reducible refine TouchOut.next ?_
    | (extract_lets +onlyGivenNames xx; (try clear_value xx); revert xx; intro _)
    | with_reducible refine State.pdUnless_touch ?_ c_State_pdUnless _ _ _ ?_
    | with_reducible refine State.refreshCc_touch ?_ c_State_refreshCc
    | with_reducible intro _ _
    | split
    | with_reducible refine Touch.update ?_

def execBistCarrierEnd_cells : List Nat :=
  [0x1404, 0x1412]

theorem execBistCarrierEnd_touch {W0 : List Nat} {s0 s : State} (h0 : Touch W0 s0 s) (hW : Sub execBistCarrierEnd_cells W0) :
    TouchOut W0 s0 (execBistCarrierEnd s) := by
  have c_State_refreshCc : Sub State.refreshCc_cells W0 := Sub.trans (Sub.of rfl) hW
  have w1412 : 0x1412 ∈ W0 := hW.mem rfl
  unfold execBistCarrierEnd
  repeat' first
    | with_reducible assumption
    | with_reducible refine TouchOut.next ?_
    | (extract_lets +onlyGivenNames xx; (try clear_value xx); revert xx; intro _)
    | with_reducible refine State.refreshCc_touch ?_ c_State_refreshCc
    | with_reducible refine State.when_touch ?_ _ _ ?_
    | with_reducible intro _ _
    | with_reducible refine Touch.update ?_

def execSwapRequestRx_cells : List Nat :=
  [0x2, 0x6, 0xa01, 0xa32, 0xb00, 0xb01, 0xb02, 0xb14, 0xb15, 0xb16, 0xb17, 0xb18, 0xb30, 0xc30, 0xc34, 0x1404,
   0x1405, 0x1407, 0x140c, 0x140f, 0x1412, 0x1413, 0x1418]

theorem execSwapRequestRx_touch {W0 : List Nat} {s0 s : State} (h0 : Touch W0 s0 s) (hW : Sub execSwapRequestRx_cells W0) (h : PdHeader) :
    TouchOut W0 s0 (execSwapRequestRx h s) := by
  have c_State_pdIncoming : Sub State.pdIncoming_cells W0 := Sub.trans (Sub.of rfl) hW
  have c_State_pdSend : Sub State.pdSend_cells W0 := Sub.trans (Sub.of rfl) hW
  unfold execSwapRequestRx
  repeat' first
    | with_reducible assumption
    | with_reducible refine TouchOut.next ?_
    | with_reducible refine State.pdIncoming_touch ?_ c_State_pdIncoming _ _ ?_
    | with_reducible refine State.pdSend_touch ?_ c_State_pdSend _
    | with_reducible intro _ _

def execUnsupportedMessageRx_cells : List Nat :=
  [0x2, 0x6, 0xa01, 0xa32, 0xb00, 0xb01, 0xb02, 0xb14, 0xb15, 0xb16, 0xb17, 0xb18, 0xb30, 0xc30, 0xc34, 0x1404,
   0x1405, 0x1407, 0x140c, 0x140f, 0x1412, 0x1413, 0x1418]

theorem execUnsupportedMessageRx_touch {W0 : List Nat} {s0 s : State} (h0 : Touch W0 s0 s) (hW : Sub execUnsupportedMessageRx_cells W0) (h : PdHeader) (kind : Nat) (svid : Nat) (pos : Nat) (cmd : Nat) :
    TouchOut W0 s0 (execUnsupportedMessageRx h kind svid pos cmd s) := by
  have c_State_pdUnless : Sub State.pdUnless_cells W0 := Sub.trans (Sub.of rfl) hW
  have c_State_pdSend : Sub State.pdSend_cells W0 := Sub.trans (Sub.of rfl) hW
  have c_State_vdmAnswer : Sub State.vdmAnswer_cells W0 := Sub.trans (Sub.of rfl) hW
  have w1412 : 0x1412 ∈ W0 := hW.mem rfl
  unfold execUnsupportedMessageRx
  repeat' first
    | with_reducible assumption
    | with_reducible refine TouchOut.next ?_
    | (extract_lets +onlyGivenNames xx; (try clear_value xx); revert xx; intro _)
    | with_reducible refine State.pdUnless_touch ?_ c_State_pdUnless _ _ _ ?_
    | with_reducible refine State.pdSend_touch ?_ c_State_pdSend _
    | with_reducible refine State.vdmAnswer_touch ?_ c_State_vdmAnswer _ _ _ _ _
    | with_reducible refine Touch.ite ?_ ?_
    | with_reducible intro _ _
    | split
    | with_reducible refine Touch.update ?_

def execChunkingNotSupportedExpiry_cells : List Nat :=
  [0x1412]

theorem execChunkingNotSupportedExpiry_touch {W0 : List Nat} {s0 s : State} (h0 : Touch W0 s0 s) (hW : Sub execChunkingNotSupportedExpiry_cells W0) :
    TouchOut W0 s0 (execChunkingNotSupportedExpiry s) := by
  have c_State_pdSend : Sub State.pdSend_cells W0 := Sub.trans (Sub.of rfl) hW
  have w1412 : 0x1412 ∈ W0 := hW.mem rfl
  unfold execChunkingNotSupportedExpiry
  repeat' first
    | with_reducible assumption
    | with_reducible refine TouchOut.next ?_
    | (extract_lets +onlyGivenNames xx; (try clear_value xx); revert xx; intro _)
    | with_reducible refine State.pdSend_touch ?_ c_State_pdSend _
    | with_reducible refine State.when_touch ?_ _ _ ?_
    | with_reducible intro _ _
    | with_reducible refine Touch.update ?_

def execTsinktxExpiry_cells : List Nat :=
  [0x1412]

theorem execTsinktxExpiry_touch {W0 : List Nat} {s0 s : State} (h0 : Touch W0 s0 s) (hW : Sub execTsinktxExpiry_cells W0) :
    TouchOut W0 s0 (execTsinktxExpiry s) := by
  have c_State_pdAsk : Sub State.pdAsk_cells W0 := Sub.trans (Sub.of rfl) hW
  have w1412 : 0x1412 ∈ W0 := hW.mem rfl
  unfold execTsinktxExpiry
  repeat' first
    | with_reducible assumption
    | with_reducible refine TouchOut.next ?_
    | (extract_lets +onlyGivenNames xx; (try clear_value xx); revert xx; intro _)
    | with_reducible refine State.pdAsk_touch ?_ c_State_pdAsk _
    | with_reducible refine State.when_touch ?_ _ _ ?_
    | with_reducible intro _ _
    | split
    | with_reducible refine Touch.update ?_

def execDiscoverIdentity_cells : List Nat :=
  [0x2, 0x6, 0xa01, 0xa32, 0xb00, 0xb01, 0xb02, 0xb14, 0xb15, 0xb16, 0xb17, 0xb18, 0xb30, 0xc30, 0xc34, 0x1404,
   0x1405, 0x1407, 0x140c, 0x140f, 0x1412, 0x1413, 0x1418]

theorem execDiscoverIdentity_touch {W0 : List Nat} {s0 s : State} (h0 : Touch W0 s0 s) (hW : Sub execDiscoverIdentity_cells W0) (h : PdHeader) :
    TouchOut W0 s0 (execDiscoverIdentity h s) := by
  have c_State_pdIncoming : Sub State.pdIncoming_cells W0 := Sub.trans (Sub.of rfl) hW
  have c_State_vdmAnswer : Sub State.vdmAnswer_cells W0 := Sub.trans (Sub.of rfl) hW
  unfold execDiscoverIdentity
  repeat' first
    | with_reducible assumption
    | with_reducible refine TouchOut.next ?_
    | (extract_lets +onlyGivenNames xx; (try clear_value xx); revert xx; intro _)
    | with_reducible refine State.pdIncoming_touch ?_ c_State_pdIncoming _ _ ?_
    | with_reducible refine State.vdmAnswer_touch ?_ c_State_vdmAnswer _ _ _ _ _
    | with_reducible intro _ _

def execDiscoverSvids_cells : List Nat :=
  [0x2, 0x6, 0xa01, 0xa32, 0xb00, 0xb01, 0xb02, 0xb14, 0xb15, 0xb16, 0xb17, 0xb18, 0xb30, 0xc30, 0xc34, 0x1404,
   0x1405, 0x1407, 0x140c, 0x140f, 0x1412, 0x1413, 0x1418]

theorem execDiscoverSvids_touch {W0 : List Nat} {s0 s : State} (h0 : Touch W0 s0 s) (hW : Sub execDiscoverSvids_cells W0) (h : PdHeader) :
    TouchOut W0 s0 (execDiscoverSvids h s) := by
  have c_State_pdIncoming : Sub State.pdIncoming_cells W0 := Sub.trans (Sub.of rfl) hW
  have c_State_vdmAnswer : Sub State.vdmAnswer_cells W0 := Sub.trans (Sub.of rfl) hW
  unfold execDiscoverSvids
  repeat' first
    | with_reducible assumption
    | with_reducible refine TouchOut.next ?_
    | (extract_lets +onlyGivenNames xx; (try clear_value xx); revert xx; intro _)
    | with_reducible refine State.pdIncoming_touch ?_ c_State_pdIncoming _ _ ?_
    | with_reducible refine State.vdmAnswer_touch ?_ c_State_vdmAnswer _ _ _ _ _
    | with_reducible intro _ _

def execDiscoverModes_cells : List Nat :=
  [0x2, 0x6, 0xa01, 0xa32, 0xb00, 0xb01, 0xb02, 0xb14, 0xb15, 0xb16, 0xb17, 0xb18, 0xb30, 0xc30, 0xc34, 0x1404,
   0x1405, 0x1407, 0x140c, 0x140f, 0x1412, 0x1413, 0x1418]

theorem execDiscoverModes_touch {W0 : List Nat} {s0 s : State} (h0 : Touch W0 s0 s) (hW : Sub execDiscoverModes_cells W0) (h : PdHeader) (svid : Nat) :
    TouchOut W0 s0 (execDiscoverModes h svid s) := by
  have c_State_pdIncoming : Sub State.pdIncoming_cells W0 := Sub.trans (Sub.of rfl) hW
  have c_State_vdmAnswer : Sub State.vdmAnswer_cells W0 := Sub.trans (Sub.of rfl) hW
  unfold execDiscoverModes
  repeat' first
    | with_reducible assumption
    | with_reducible refine TouchOut.next ?_
    | (extract_lets +onlyGivenNames xx; (try clear_value xx); revert xx; intro _)
    | with_reducible refine State.pdIncoming_touch ?_ c_State_pdIncoming _ _ ?_
    | with_reducible refine State.vdmAnswer_touch ?_ c_State_vdmAnswer _ _ _ _ _
    | with_reducible intro _ _

def execEnterMode_cells : List Nat :=
  [0x2, 0x6, 0xa01, 0xa32, 0xb00, 0xb01, 0xb02, 0xb14, 0xb15, 0xb16, 0xb17, 0xb18, 0xb30, 0xc30, 0xc34, 0x1404,
   0x1405, 0x1407, 0x140c, 0x140f, 0x1412, 0x1413, 0x1418]

theorem execEnterMode_touch {W0 : List Nat} {s0 s : State} (h0 : Touch W0 s0 s) (hW : Sub execEnterMode_cells W0) (h : PdHeader) (svid : Nat) (pos : Nat) :
    TouchOut W0 s0 (execEnterMode h svid pos s) := by
  have c_State_pdIncoming : Sub State.pdIncoming_cells W0 := Sub.trans (Sub.of rfl) hW
  have c_State_vdmAnswer : Sub State.vdmAnswer_cells W0 := Sub.trans (Sub.of rfl) hW
  have c_State_svcModeStart : Sub State.svcModeStart_cells W0 := Sub.trans (Sub.of rfl) hW
  unfold execEnterMode
  repeat' first
    | with_reducible assumption
    | with_reducible refine TouchOut.next ?_
    | (extract_lets +onlyGivenNames xx; guard_hyp xx : State := _; refine Touch.cut (x := xx) ?_ ?_; (on_goal 2 => (intro hh; (try clear_value xx); revert xx; intro _ _)); any_goals (revert xx; intro _))
    | (extract_lets +onlyGivenNames xx; (try clear_value xx); revert xx; intro _)
    | with_reducible refine State.pdIncoming_touch ?_ c_State_pdIncoming _ _ ?_
    | with_reducible refine State.vdmAnswer_touch ?_ c_State_vdmAnswer _ _ _ _ _
    | with_reducible refine State.svcModeStart_touch ?_ c_State_svcModeStart
    | with_reducible refine Touch.ite ?_ ?_
    | with_reducible intro _ _

def execExitMode_cells : List Nat :=
  [0x2, 0x6, 0xa01, 0xa32, 0xb00, 0xb01, 0xb02, 0xb14, 0xb15, 0xb16, 0xb17, 0xb18, 0xb30, 0xc30, 0xc34, 0x1404,
   0x1405, 0x1407, 0x140c, 0x140f, 0x1412, 0x1413, 0x1418]

theorem execExitMode_touch {W0 : List Nat} {s0 s : State} (h0 : Touch W0 s0 s) (hW : Sub execExitMode_cells W0) (h : PdHeader) (svid : Nat) (pos : Nat) :
    TouchOut W0 s0 (execExitMode h svid pos s) := by
  have c_State_pdIncoming : Sub State.pdIncoming_cells W0 := Sub.trans (Sub.of rfl) hW
  have c_State_vdmAnswer : Sub State.vdmAnswer_cells W0 := Sub.trans (Sub.of rfl) hW
  have c_State_svcModeEnd : Sub State.svcModeEnd_cells W0 := Sub.trans (Sub.of rfl) hW
  unfold execExitMode
  repeat' first
    | with_reducible assumption
    | with_reducible refine TouchOut.next ?_
    | (extract_lets +onlyGivenNames xx; guard_hyp xx : State := _; refine Touch.cut (x := xx) ?_ ?_; (on_goal 2 => (intro hh; (try clear_value xx); revert xx; intro _ _)); any_goals (revert xx; intro _))
    | (extract_lets +onlyGivenNames xx; (try clear_value xx); revert xx; intro _)
    | with_reducible refine State.pdIncoming_touch ?_ c_State_pdIncoming _ _ ?_
    | with_reducible refine State.vdmAnswer_touch ?_ c_State_vdmAnswer _ _ _ _ _
    | with_reducible refine State.svcModeEnd_touch ?_ c_State_svcModeEnd _
    | with_reducible refine Touch.ite ?_ ?_
    | with_reducible intro _ _

def execHardResetRx_cells : List Nat :=
  [0x2, 0x6, 0xa01, 0xa32, 0xb00, 0xb01, 0xb02, 0xb14, 0xb15, 0xb16, 0xb17, 0xb18, 0xb30, 0xc30, 0xc34, 0x1402,
   0x1404, 0x1405, 0x1407, 0x140c, 0x140f, 0x1412, 0x1413, 0x1418]

theorem execHardResetRx_touch {W0 : List Nat} {s0 s : State} (h0 : Touch W0 s0 s) (hW : Sub execHardResetRx_cells W0) :
    TouchOut W0 s0 (execHardResetRx s) := by
  have c_State_fresh : Sub State.fresh_cells W0 := Sub.trans (Sub.of rfl) hW
  have c_State_pdHardReset : Sub State.pdHardReset_cells W0 := Sub.trans (Sub.of rfl) hW
  unfold execHardResetRx
  repeat' first
    | with_reducible assumption
    | with_reducible refine TouchOut.next ?_
    | with_reducible refine State.fresh_touch ?_ c_State_fresh
    | with_reducible refine State.pdHardReset_touch ?_ c_State_pdHardReset _ _
    | with_reducible refine State.when_touch ?_ _ _ ?_
    | with_reducible intro _ _

def execPdSenderResponseTimeout_cells : List Nat :=
  [0x2, 0x6, 0xa01, 0xa32, 0xb00, 0xb01, 0xb02, 0xb14, 0xb15, 0xb16, 0xb17, 0xb18, 0xb30, 0xc30, 0xc34, 0x1404,
   0x1405, 0x1407, 0x140c, 0x140f, 0x1412, 0x1413, 0x1418]

theorem execPdSenderResponseTimeout_touch {W0 : List Nat} {s0 s : State} (h0 : Touch W0 s0 s) (hW : Sub execPdSenderResponseTimeout_cells W0) :
    TouchOut W0 s0 (execPdSenderResponseTimeout s) := by
  have c_State_pdSendHardReset : Sub State.pdSendHardReset_cells W0 := Sub.trans (Sub.of rfl) hW
  have w1412 : 0x1412 ∈ W0 := hW.mem rfl
  unfold execPdSenderResponseTimeout
  repeat' first
    | with_reducible assumption
    | with_reducible refine TouchOut.next ?_
    | (extract_lets +onlyGivenNames xx; (try clear_value xx); revert xx; intro _)
    | with_reducible refine State.pdSendHardReset_touch ?_ c_State_pdSendHardReset _
    | with_reducible refine State.when_touch ?_ _ _ ?_
    | with_reducible refine Touch.ite ?_ ?_
    | with_reducible intro _ _
    | split
    | with_reducible refine Touch.update ?_

def execPdSinkWaitCapTimeout_cells : List Nat :=
  [0x2, 0x6, 0xa01, 0xa32, 0xb00, 0xb01, 0xb02, 0xb14, 0xb15, 0xb16, 0xb17, 0xb18, 0xb30, 0xc30, 0xc34, 0x1404,
   0x1405, 0x1407, 0x140c, 0x140f, 0x1412, 0x1413, 0x1418]

theorem execPdSinkWaitCapTimeout_touch {W0 : List Nat} {s0 s : State} (h0 : Touch W0 s0 s) (hW : Sub execPdSinkWaitCapTimeout_cells W0) :
    TouchOut W0 s0 (execPdSinkWaitCapTimeout s) := by
  have c_State_pdSendHardReset : Sub State.pdSendHardReset_cells W0 := Sub.trans (Sub.of rfl) hW
  unfold execPdSinkWaitCapTimeout
  repeat' first
    | with_reducible assumption
    | with_reducible refine TouchOut.next ?_
    | with_reducible refine State.pdSendHardReset_touch ?_ c_State_pdSendHardReset _
    | with_reducible refine State.when_touch ?_ _ _ ?_
    | with_reducible intro _ _

def execPdPsTransitionTimeout_cells : List Nat :=
  [0x2, 0x6, 0xa01, 0xa32, 0xb00, 0xb01, 0xb02, 0xb14, 0xb15, 0xb16, 0xb17, 0xb18, 0xb30, 0xc30, 0xc34, 0x1404,
   0x1405, 0x1407, 0x140c, 0x140f, 0x1412, 0x1413, 0x1418]

theorem execPdPsTransitionTimeout_touch {W0 : List Nat} {s0 s : State} (h0 : Touch W0 s0 s) (hW : Sub execPdPsTransitionTimeout_cells W0) :
    TouchOut W0 s0 (execPdPsTransitionTimeout s) := by
  have c_State_pdSendHardReset : Sub State.pdSendHardReset_cells W0 := Sub.trans (Sub.of rfl) hW
  unfold execPdPsTransitionTimeout
  repeat' first
    | with_reducible assumption
    | with_reducible refine TouchOut.next ?_
    | with_reducible refine State.pdSendHardReset_touch ?_ c_State_pdSendHardReset _
    | with_reducible refine State.when_touch ?_ _ _ ?_
    | with_reducible intro _ _

def State.pdUnanswered_cells : List Nat :=
  [0x2, 0x6, 0xa01, 0xa32, 0xb00, 0xb01, 0xb02, 0xb14, 0xb15, 0xb16, 0xb17, 0xb18, 0xb30, 0xb31, 0xc30, 0xc34, 0x1404,
   0x1405, 0x1407, 0x140c, 0x140f, 0x1412, 0x1413, 0x1418]

theorem State.pdUnanswered_touch {W0 : List Nat} {s0 s : State} (h0 : Touch W0 s0 s) (hW : Sub State.pdUnanswered_cells W0) (m : PdMsg) :
    Touch W0 s0 (State.pdUnanswered s m) := by
  have c_State_pdSendHardReset : Sub State.pdSendHardReset_cells W0 := Sub.trans (Sub.of rfl) hW
  have c_State_pdSoftReset : Sub State.pdSoftReset_cells W0 := Sub.trans (Sub.of rfl) hW
  have wb31 : Writes W0 R.PD_RETRYFAIL := Or.inl (hW.mem rfl)
  have w1412 : 0x1412 ∈ W0 := hW.mem rfl
  unfold State.pdUnanswered
  repeat' first
    | with_reducible assumption
    | (extract_lets +onlyGivenNames xx; guard_hyp xx : State := _; refine Touch.cut (x := xx) ?_ ?_; (on_goal 2 => (intro hh; (try clear_value xx); revert xx; intro _ _)); any_goals (revert xx; intro _))
    | (extract_lets +onlyGivenNames xx; (try clear_value xx); revert xx; intro _)
    | with_reducible refine State.pdSendHardReset_touch ?_ c_State_pdSendHardReset _
    | with_reducible refine State.pdSoftReset_touch ?_ c_State_pdSoftReset
    | with_reducible refine State.bump_touch ?_ _ _ ?_
    | with_reducible refine Touch.ite ?_ ?_
    | with_reducible refine Touch.update ?_

def execPdReceiveTimeout_cells : List Nat :=
  [0x2, 0x6, 0xa01, 0xa32, 0xb00, 0xb01, 0xb02, 0xb14, 0xb15, 0xb16, 0xb17, 0xb18, 0xb30, 0xb31, 0xc30, 0xc34, 0x1404,
   0x1405, 0x1407, 0x140c, 0x140f, 0x1412, 0x1413, 0x1418]

theorem execPdReceiveTimeout_touch {W0 : List Nat} {s0 s : State} (h0 : Touch W0 s0 s) (hW : Sub execPdReceiveTimeout_cells W0) :
    TouchOut W0 s0 (execPdReceiveTimeout s) := by
  have c_State_pdUnanswered : Sub State.pdUnanswered_cells W0 := Sub.trans (Sub.of rfl) hW
  unfold execPdReceiveTimeout
  repeat' first
    | with_reducible assumption
    | with_reducible refine TouchOut.next ?_
    | with_reducible refine State.pdUnanswered_touch ?_ c_State_pdUnanswered _
    | with_reducible refine State.when_touch ?_ _ _ ?_
    | with_reducible refine Touch.ite ?_ ?_
    | with_reducible intro _ _
    | split

def execPdNoResponse_cells : List Nat :=
  [0xa01, 0xa32, 0xb01, 0xb02, 0x140f, 0x1412]

theorem execPdNoResponse_touch {W0 : List Nat} {s0 s : State} (h0 : Touch W0 s0 s) (hW : Sub execPdNoResponse_cells W0) :
    TouchOut W0 s0 (execPdNoResponse s) := by
  have c_State_pdNonPd : Sub State.pdNonPd_cells W0 := Sub.trans (Sub.of rfl) hW
  unfold execPdNoResponse
  repeat' first
    | with_reducible assumption
    | with_reducible refine TouchOut.next ?_
    | with_reducible refine State.pdNonPd_touch ?_ c_State_pdNonPd
    | with_reducible refine State.when_touch ?_ _ _ ?_
    | with_reducible intro _ _

def execPdHardResetVbusTimeout_cells : List Nat :=
  [0xb00, 0xb18, 0x1412]

theorem execPdHardResetVbusTimeout_touch {W0 : List Nat} {s0 s : State} (h0 : Touch W0 s0 s) (hW : Sub execPdHardResetVbusTimeout_cells W0) :
    TouchOut W0 s0 (execPdHardResetVbusTimeout s) := by
  have c_State_refreshLimit : Sub State.refreshLimit_cells W0 := Sub.trans (Sub.of rfl) hW
  have w1412 : 0x1412 ∈ W0 := hW.mem rfl
  unfold execPdHardResetVbusTimeout
  repeat' first
    | with_reducible assumption
    | with_reducible refine TouchOut.next ?_
    | (extract_lets +onlyGivenNames xx; (try clear_value xx); revert xx; intro _)
    | with_reducible refine State.refreshLimit_touch ?_ c_State_refreshLimit
    | with_reducible refine State.when_touch ?_ _ _ ?_
    | with_reducible intro _ _
    | with_reducible refine Touch.update ?_

def execCollapseDetachTimeout_cells : List Nat :=
  [0x2, 0x6, 0xa01, 0xa32, 0xb00, 0xb01, 0xb02, 0xb14, 0xb15, 0xb16, 0xb17, 0xb18, 0xc30, 0xc34, 0x1404, 0x1405,
   0x1407, 0x140c, 0x140f, 0x1412, 0x1413, 0x1418]

theorem execCollapseDetachTimeout_touch {W0 : List Nat} {s0 s : State} (h0 : Touch W0 s0 s) (hW : Sub execCollapseDetachTimeout_cells W0) :
    TouchOut W0 s0 (execCollapseDetachTimeout s) := by
  have c_State_pdProtocolReset : Sub State.pdProtocolReset_cells W0 := Sub.trans (Sub.of rfl) hW
  have w1412 : 0x1412 ∈ W0 := hW.mem rfl
  unfold execCollapseDetachTimeout
  repeat' first
    | with_reducible assumption
    | with_reducible refine TouchOut.next ?_
    | (extract_lets +onlyGivenNames xx; (try clear_value xx); revert xx; intro _)
    | with_reducible refine State.pdProtocolReset_touch ?_ c_State_pdProtocolReset
    | with_reducible refine State.when_touch ?_ _ _ ?_
    | with_reducible intro _ _
    | with_reducible refine Touch.update ?_

end Sys2Proof.Machine
end

