-- ==== Sys2Proof/Laws/TouchTick.lean ====
section
/-!
SUPPORT. What each operation of Machine/Tick.lean can do: the registers and parts of the state it may write, and nothing
else; the unit, its queue and the form of its stores are kept.
-/

-- proofs are elaborated one after another: many at once ask for more threads than a memory limit allows
set_option Elab.async false

set_option linter.unusedTactic false
set_option linter.unusedVariables false
set_option linter.unusedSimpArgs false
set_option linter.unreachableTactic false
set_option linter.tactic.unusedName false

namespace Sys2Proof.Machine

def State.drawRamp_cells : List Nat :=
  [0x600, 0x140b]

theorem State.drawRamp_touch {W0 : List Nat} {s0 s : State} (h0 : Touch W0 s0 s) (hW : Sub State.drawRamp_cells W0) :
    Touch W0 s0 (State.drawRamp s) := by
  have w600 : Writes W0 R.MKT_STATUS := Or.inl (hW.mem rfl)
  have w140b : 0x140b ∈ W0 := hW.mem rfl
  unfold State.drawRamp
  repeat' first
    | with_reducible assumption
    | (extract_lets +onlyGivenNames xx; guard_hyp xx : State := _; refine Touch.cut (x := xx) ?_ ?_; (on_goal 2 => (intro hh; (try clear_value xx); revert xx; intro _ _)); any_goals (revert xx; intro _))
    | (extract_lets +onlyGivenNames xx; (try clear_value xx); revert xx; intro _)
    | with_reducible refine State.setFlag_touch ?_ _ _ ?_
    | with_reducible refine Touch.ite ?_ ?_
    | split
    | with_reducible refine Touch.update ?_

def State.idle_cells : List Nat :=
  [0x2, 0x3, 0x6, 0xa, 0x100, 0x101, 0x110, 0x111, 0x112, 0x113, 0x114, 0x200, 0x210, 0x211, 0x300, 0x301, 0x305,
   0x30a, 0x318, 0x31a, 0x31f, 0x400, 0x401, 0x405, 0x407, 0x40b, 0x40d, 0x40e, 0x40f, 0x500, 0x501, 0x504, 0x600,
   0x601, 0x607, 0x608, 0x610, 0x611, 0x612, 0x613, 0x614, 0x615, 0x616, 0x617, 0x623, 0x640, 0x641, 0x642, 0x643,
   0x644, 0x645, 0x646, 0x647, 0x648, 0x649, 0x64a, 0x64b, 0x64c, 0x64d, 0x64e, 0x64f, 0x650, 0x651, 0x652, 0x653,
   0x654, 0x655, 0x656, 0x657, 0x658, 0x659, 0x65a, 0x65b, 0x65c, 0x65d, 0x65e, 0x65f, 0x700, 0x701, 0x70c, 0x70d,
   0x70e, 0x70f, 0x801, 0x804, 0x806, 0x807, 0x811, 0x900, 0x901, 0x90b, 0x910, 0x911, 0xa00, 0xa01, 0xa05, 0xa16,
   0xa17, 0xa28, 0xa29, 0xa2a, 0xa2b, 0xa31, 0xa32, 0xa33, 0xa34, 0xb00, 0xb01, 0xb02, 0xb12, 0xb18, 0xc00, 0xc06,
   0xc20, 0xc21, 0xc25, 0xc30, 0xc34, 0xd01, 0xd0d, 0xd12, 0xd18, 0xe00, 0xe01, 0xe14, 0x1000, 0x1001, 0x100c, 0x100d,
   0x100e, 0x100f, 0x1010, 0x1400, 0x1401, 0x1402, 0x1403, 0x1404, 0x1405, 0x1406, 0x1407, 0x1408, 0x1409, 0x140a,
   0x140b, 0x140c, 0x140d, 0x140e, 0x140f, 0x1410, 0x1411, 0x1412, 0x1413, 0x1414, 0x1415, 0x1416, 0x1417, 0x1418,
   0x1430]

theorem State.idle_touch {W0 : List Nat} {s0 s : State} (h0 : Touch W0 s0 s) (hW : Sub State.idle_cells W0) :
    Touch W0 s0 (State.idle s) := by
  have c_State_shipTick : Sub State.shipTick_cells W0 := Sub.trans (Sub.of rfl) hW
  have c_State_tick : Sub State.tick_cells W0 := Sub.trans (Sub.of rfl) hW
  have c_State_rampTick : Sub State.rampTick_cells W0 := Sub.trans (Sub.of rfl) hW
  have c_State_drawRamp : Sub State.drawRamp_cells W0 := Sub.trans (Sub.of rfl) hW
  have c_State_sampleChannels : Sub State.sampleChannels_cells W0 := Sub.trans (Sub.of rfl) hW
  have c_State_measureDue : Sub State.measureDue_cells W0 := Sub.trans (Sub.of rfl) hW
  have c_State_marketTurn : Sub State.marketTurn_cells W0 := Sub.trans (Sub.of rfl) hW
  have c_State_heldStep : Sub State.heldStep_cells W0 := Sub.trans (Sub.of rfl) hW
  have c_State_usbUnlock : Sub State.usbUnlock_cells W0 := Sub.trans (Sub.of rfl) hW
  have c_State_pushRise : Sub State.pushRise_cells W0 := Sub.trans (Sub.of rfl) hW
  have c_State_sumFall : Sub State.sumFall_cells W0 := Sub.trans (Sub.of rfl) hW
  unfold State.idle
  repeat' first
    | with_reducible assumption
    | with_reducible refine State.shipTick_touch ?_ c_State_shipTick
    | with_reducible refine State.tick_touch ?_ c_State_tick
    | with_reducible refine State.rampTick_touch ?_ c_State_rampTick
    | with_reducible refine State.drawRamp_touch ?_ c_State_drawRamp
    | with_reducible refine State.sampleChannels_touch ?_ c_State_sampleChannels
    | with_reducible refine State.measureDue_touch ?_ c_State_measureDue
    | with_reducible refine State.marketTurn_touch ?_ c_State_marketTurn
    | with_reducible refine State.heldStep_touch ?_ c_State_heldStep
    | with_reducible refine State.usbUnlock_touch ?_ c_State_usbUnlock
    | with_reducible refine State.pushRise_touch ?_ c_State_pushRise
    | with_reducible refine State.sumFall_touch ?_ c_State_sumFall
    | with_reducible refine State.whenLive_touch ?_ _ ?_
    | with_reducible refine Touch.ite ?_ ?_
    | with_reducible intro _ _

end Sys2Proof.Machine
end

