-- ==== Sys2Proof/Laws/TouchTwb.lean ====
section
/-!
SUPPORT. What each operation of Machine/Twb.lean can do: the registers and parts of the state it may write, and nothing
else; the unit, its queue and the form of its stores are kept.
-/

-- proofs are elaborated one after another: many at once ask for more threads than a memory limit allows
set_option Elab.async false

set_option linter.unusedTactic false
set_option linter.unusedVariables false
set_option linter.unusedSimpArgs false
set_option linter.unreachableTactic false
set_option linter.tactic.unusedName false

namespace Sys2Proof.Machine

def execTwbAddressWake_cells : List Nat :=
  [0x6, 0xa, 0xd00, 0xd01, 0xd12, 0x1403, 0x1416, 0x1430]

theorem execTwbAddressWake_touch {W0 : List Nat} {s0 s : State} (h0 : Touch W0 s0 s) (hW : Sub execTwbAddressWake_cells W0) (addr : Nat) :
    TouchOut W0 s0 (execTwbAddressWake addr s) := by
  have c_State_busStart : Sub State.busStart_cells W0 := Sub.trans (Sub.of rfl) hW
  have c_State_loseKey : Sub State.loseKey_cells W0 := Sub.trans (Sub.of rfl) hW
  have c_State_busStop : Sub State.busStop_cells W0 := Sub.trans (Sub.of rfl) hW
  have c_State_busAnswer : Sub State.busAnswer_cells W0 := Sub.trans (Sub.of rfl) hW
  unfold execTwbAddressWake
  repeat' first
    | with_reducible assumption
    | with_reducible refine TouchOut.next ?_
    | with_reducible refine State.loseKey_touch ?_ c_State_loseKey _
    | with_reducible refine State.busStop_touch ?_ c_State_busStop
    | with_reducible refine State.busAnswer_touch ?_ c_State_busAnswer _ _
    | with_reducible refine State.when_touch ?_ _ _ ?_
    | with_reducible intro _ _
    | split
    | refine State.busStart_touch_eq ?_ c_State_busStart _ (by assumption)

def execTwbAwakeExpiry_cells : List Nat :=
  [0xd00, 0x1416]

theorem execTwbAwakeExpiry_touch {W0 : List Nat} {s0 s : State} (h0 : Touch W0 s0 s) (hW : Sub execTwbAwakeExpiry_cells W0) :
    TouchOut W0 s0 (execTwbAwakeExpiry s) := by
  have wd00 : Writes W0 R.TWB_STATUS := Or.inl (hW.mem rfl)
  have w1416 : 0x1416 ∈ W0 := hW.mem rfl
  unfold execTwbAwakeExpiry
  repeat' first
    | with_reducible assumption
    | with_reducible refine TouchOut.next ?_
    | (extract_lets +onlyGivenNames xx; guard_hyp xx : State := _; refine Touch.cut (x := xx) ?_ ?_; (on_goal 2 => (intro hh; (try clear_value xx); revert xx; intro _ _)); any_goals (revert xx; intro _))
    | (extract_lets +onlyGivenNames xx; (try clear_value xx); revert xx; intro _)
    | with_reducible refine State.setFlag_touch ?_ _ _ ?_
    | with_reducible refine State.when_touch ?_ _ _ ?_
    | with_reducible intro _ _
    | with_reducible refine Touch.update ?_

def execTwbClockLowTimeout_cells : List Nat :=
  [0xd01, 0xd0d, 0xd10, 0xd14, 0x1416]

theorem execTwbClockLowTimeout_touch {W0 : List Nat} {s0 s : State} (h0 : Touch W0 s0 s) (hW : Sub execTwbClockLowTimeout_cells W0) (ticks : Nat) :
    TouchOut W0 s0 (execTwbClockLowTimeout ticks s) := by
  have c_State_pushFailed : Sub State.pushFailed_cells W0 := Sub.trans (Sub.of rfl) hW
  have wd01 : Writes W0 R.TWB_EVENT := Or.inl (hW.mem rfl)
  have wd10 : Writes W0 R.TWB_TOCNT := Or.inl (hW.mem rfl)
  unfold execTwbClockLowTimeout
  repeat' first
    | with_reducible assumption
    | with_reducible refine TouchOut.next ?_
    | (extract_lets +onlyGivenNames xx; guard_hyp xx : State := _; refine Touch.cut (x := xx) ?_ ?_; (on_goal 2 => (intro hh; (try clear_value xx); revert xx; intro _ _)); any_goals (revert xx; intro _))
    | with_reducible refine State.pushFailed_touch ?_ c_State_pushFailed
    | with_reducible refine State.bump_touch ?_ _ _ ?_
    | with_reducible refine State.event_touch ?_ _ ?_
    | with_reducible refine State.when_touch ?_ _ _ ?_
    | with_reducible refine Touch.ite ?_ ?_
    | with_reducible intro _ _

def execTwbSdaRelease_cells : List Nat :=
  [0xd01, 0xd10]

theorem execTwbSdaRelease_touch {W0 : List Nat} {s0 s : State} (h0 : Touch W0 s0 s) (hW : Sub execTwbSdaRelease_cells W0) (ticks : Nat) :
    TouchOut W0 s0 (execTwbSdaRelease ticks s) := by
  have wd01 : Writes W0 R.TWB_EVENT := Or.inl (hW.mem rfl)
  have wd10 : Writes W0 R.TWB_TOCNT := Or.inl (hW.mem rfl)
  unfold execTwbSdaRelease
  repeat' first
    | with_reducible assumption
    | with_reducible refine TouchOut.next ?_
    | with_reducible refine State.bump_touch ?_ _ _ ?_
    | with_reducible refine State.event_touch ?_ _ ?_
    | with_reducible refine State.when_touch ?_ _ _ ?_
    | with_reducible intro _ _

def execTwbPushDue_cells : List Nat :=
  [0xd0d, 0x1416]

theorem execTwbPushDue_touch {W0 : List Nat} {s0 s : State} (h0 : Touch W0 s0 s) (hW : Sub execTwbPushDue_cells W0) :
    TouchOut W0 s0 (execTwbPushDue s) := by
  have c_State_pushRise : Sub State.pushRise_cells W0 := Sub.trans (Sub.of rfl) hW
  unfold execTwbPushDue
  repeat' first
    | with_reducible assumption
    | with_reducible refine TouchOut.next ?_
    | with_reducible refine State.pushRise_touch ?_ c_State_pushRise
    | with_reducible refine State.whenLive_touch ?_ _ ?_
    | with_reducible intro _ _

def execTwbPushStart_cells : List Nat :=
  [0xd00, 0xd01, 0xd0d, 0xd14, 0xd15, 0x1416]

theorem execTwbPushStart_touch {W0 : List Nat} {s0 s : State} (h0 : Touch W0 s0 s) (hW : Sub execTwbPushStart_cells W0) (freed : Option Bool) :
    TouchOut W0 s0 (execTwbPushStart freed s) := by
  have c_State_pushDrop : Sub State.pushDrop_cells W0 := Sub.trans (Sub.of rfl) hW
  have c_State_pushAwake : Sub State.pushAwake_cells W0 := Sub.trans (Sub.of rfl) hW
  have c_State_pushFailed : Sub State.pushFailed_cells W0 := Sub.trans (Sub.of rfl) hW
  have c_State_pushBuild : Sub State.pushBuild_cells W0 := Sub.trans (Sub.of rfl) hW
  have wd00 : Writes W0 R.TWB_STATUS := Or.inl (hW.mem rfl)
  have wd01 : Writes W0 R.TWB_EVENT := Or.inl (hW.mem rfl)
  have wd15 : Writes W0 R.TWB_RECCNT := Or.inl (hW.mem rfl)
  unfold execTwbPushStart
  repeat' first
    | with_reducible assumption
    | with_reducible refine TouchOut.next ?_
    | (extract_lets +onlyGivenNames xx; guard_hyp xx : State := _; refine Touch.cut (x := xx) ?_ ?_; (on_goal 2 => (intro hh; (try clear_value xx); revert xx; intro _ _)); any_goals (revert xx; intro _))
    | with_reducible refine State.pushDrop_touch ?_ c_State_pushDrop
    | with_reducible refine State.pushAwake_touch ?_ c_State_pushAwake
    | with_reducible refine State.pushFailed_touch ?_ c_State_pushFailed
    | with_reducible refine State.pushBuild_touch ?_ c_State_pushBuild
    | with_reducible refine State.bump_touch ?_ _ _ ?_
    | with_reducible refine State.event_touch ?_ _ ?_
    | with_reducible refine State.setFlag_touch ?_ _ _ ?_
    | with_reducible refine State.when_touch ?_ _ _ ?_
    | with_reducible refine Touch.ite ?_ ?_
    | with_reducible intro _ _
    | split

def execTwbPushDone_cells : List Nat :=
  [0xd01, 0x1416]

theorem execTwbPushDone_touch {W0 : List Nat} {s0 s : State} (h0 : Touch W0 s0 s) (hW : Sub execTwbPushDone_cells W0) :
    TouchOut W0 s0 (execTwbPushDone s) := by
  have c_State_pushEnd : Sub State.pushEnd_cells W0 := Sub.trans (Sub.of rfl) hW
  have c_State_pushDrop : Sub State.pushDrop_cells W0 := Sub.trans (Sub.of rfl) hW
  have wd01 : Writes W0 R.TWB_EVENT := Or.inl (hW.mem rfl)
  unfold execTwbPushDone
  repeat' first
    | with_reducible assumption
    | with_reducible refine TouchOut.next ?_
    | with_reducible refine State.pushEnd_touch ?_ c_State_pushEnd
    | with_reducible refine State.pushDrop_touch ?_ c_State_pushDrop
    | with_reducible refine State.event_touch ?_ _ ?_
    | with_reducible refine State.when_touch ?_ _ _ ?_
    | with_reducible intro _ _

def execTwbPushFail_cells : List Nat :=
  [0xd01, 0xd0d, 0xd14, 0x1416]

theorem execTwbPushFail_touch {W0 : List Nat} {s0 s : State} (h0 : Touch W0 s0 s) (hW : Sub execTwbPushFail_cells W0) :
    TouchOut W0 s0 (execTwbPushFail s) := by
  have c_State_pushFailed : Sub State.pushFailed_cells W0 := Sub.trans (Sub.of rfl) hW
  unfold execTwbPushFail
  repeat' first
    | with_reducible assumption
    | with_reducible refine TouchOut.next ?_
    | with_reducible refine State.pushFailed_touch ?_ c_State_pushFailed
    | with_reducible refine State.when_touch ?_ _ _ ?_
    | with_reducible intro _ _

def execTwbArbLost_cells : List Nat :=
  [0xd01, 0xd13, 0x1416]

theorem execTwbArbLost_touch {W0 : List Nat} {s0 s : State} (h0 : Touch W0 s0 s) (hW : Sub execTwbArbLost_cells W0) :
    TouchOut W0 s0 (execTwbArbLost s) := by
  have c_State_pushEnd : Sub State.pushEnd_cells W0 := Sub.trans (Sub.of rfl) hW
  have wd01 : Writes W0 R.TWB_EVENT := Or.inl (hW.mem rfl)
  have wd13 : Writes W0 R.TWB_ARBCNT := Or.inl (hW.mem rfl)
  have w1416 : 0x1416 ∈ W0 := hW.mem rfl
  unfold execTwbArbLost
  repeat' first
    | with_reducible assumption
    | with_reducible refine TouchOut.next ?_
    | (extract_lets +onlyGivenNames xx; guard_hyp xx : State := _; refine Touch.cut (x := xx) ?_ ?_; (on_goal 2 => (intro hh; (try clear_value xx); revert xx; intro _ _)); any_goals (revert xx; intro _))
    | (extract_lets +onlyGivenNames xx; (try clear_value xx); revert xx; intro _)
    | with_reducible refine State.pushEnd_touch ?_ c_State_pushEnd
    | with_reducible refine State.bump_touch ?_ _ _ ?_
    | with_reducible refine State.event_touch ?_ _ ?_
    | with_reducible refine State.when_touch ?_ _ _ ?_
    | with_reducible intro _ _
    | with_reducible refine Touch.update ?_

end Sys2Proof.Machine
end

