-- ==== Sys2Proof/Laws/TouchUsb.lean ====
section
/-!
SUPPORT. What each operation of Machine/Usb.lean can do: the registers and parts of the state it may write, and nothing
else; the unit, its queue and the form of its stores are kept.
-/

-- proofs are elaborated one after another: many at once ask for more threads than a memory limit allows
set_option Elab.async false

set_option linter.unusedTactic false
set_option linter.unusedVariables false
set_option linter.unusedSimpArgs false
set_option linter.unreachableTactic false
set_option linter.tactic.unusedName false

namespace Sys2Proof.Machine

def State.onUsb_cells : List Nat :=
  []

theorem State.onUsb_touch {W0 : List Nat} {s0 s : State} (h0 : Touch W0 s0 s) (hW : Sub State.onUsb_cells W0) (f : State → State) (hf : ∀ t, Touch W0 s0 t → Touch W0 s0 (f t)) :
    Touch W0 s0 (State.onUsb s f) := by
  unfold State.onUsb
  repeat' first
    | with_reducible assumption
    | with_reducible refine State.when_touch ?_ _ _ ?_

def execUsbConnect_cells : List Nat :=
  [0xb00, 0xb18, 0xc00, 0xc06, 0xe00, 0x1413, 0x1414]

theorem execUsbConnect_touch {W0 : List Nat} {s0 s : State} (h0 : Touch W0 s0 s) (hW : Sub execUsbConnect_cells W0) :
    TouchOut W0 s0 (execUsbConnect s) := by
  have c_State_usbRefresh : Sub State.usbRefresh_cells W0 := Sub.trans (Sub.of rfl) hW
  have wc00 : Writes W0 R.USB_STATUS := Or.inl (hW.mem rfl)
  have w1414 : 0x1414 ∈ W0 := hW.mem rfl
  unfold execUsbConnect
  repeat' first
    | with_reducible assumption
    | with_reducible refine TouchOut.next ?_
    | (extract_lets +onlyGivenNames xx; guard_hyp xx : State := _; refine Touch.cut (x := xx) ?_ ?_; (on_goal 2 => (intro hh; (try clear_value xx); revert xx; intro _ _)); any_goals (revert xx; intro _))
    | (extract_lets +onlyGivenNames xx; (try clear_value xx); revert xx; intro _)
    | with_reducible refine State.usbRefresh_touch ?_ c_State_usbRefresh
    | with_reducible refine State.setFlag_touch ?_ _ _ ?_
    | with_reducible refine State.when_touch ?_ _ _ ?_
    | with_reducible refine Touch.ite ?_ ?_
    | with_reducible intro _ _
    | with_reducible refine Touch.update ?_

def execUsbNohost_cells : List Nat :=
  [0xb00, 0xb18, 0xc00, 0xc06, 0xe00, 0x1413, 0x1414]

theorem execUsbNohost_touch {W0 : List Nat} {s0 s : State} (h0 : Touch W0 s0 s) (hW : Sub execUsbNohost_cells W0) :
    TouchOut W0 s0 (execUsbNohost s) := by
  have c_State_onUsb : Sub State.onUsb_cells W0 := fun _ h => nomatch h
  have c_State_usbOff : Sub State.usbOff_cells W0 := Sub.trans (Sub.of rfl) hW
  have wc00 : Writes W0 R.USB_STATUS := Or.inl (hW.mem rfl)
  unfold execUsbNohost
  repeat' first
    | with_reducible assumption
    | with_reducible refine TouchOut.next ?_
    | with_reducible refine State.onUsb_touch ?_ c_State_onUsb _ ?_
    | with_reducible refine State.usbOff_touch ?_ c_State_usbOff
    | with_reducible refine State.setFlag_touch ?_ _ _ ?_
    | with_reducible refine State.when_touch ?_ _ _ ?_
    | with_reducible intro _ _

def execUsbBusReset_cells : List Nat :=
  [0xa01, 0xa32, 0xb00, 0xb18, 0xc00, 0xc01, 0xc06, 0xc08, 0x140f, 0x1413, 0x1414]

theorem execUsbBusReset_touch {W0 : List Nat} {s0 s : State} (h0 : Touch W0 s0 s) (hW : Sub execUsbBusReset_cells W0) (setup : Bool) (chunk : Bool) :
    TouchOut W0 s0 (execUsbBusReset setup chunk s) := by
  have c_State_onUsb : Sub State.onUsb_cells W0 := fun _ h => nomatch h
  have c_State_usbActive : Sub State.usbActive_cells W0 := Sub.trans (Sub.of rfl) hW
  have c_State_usbDefault : Sub State.usbDefault_cells W0 := Sub.trans (Sub.of rfl) hW
  have c_State_tally : Sub State.tally_cells W0 := Sub.trans (Sub.of rfl) hW
  have wc01 : Writes W0 R.USB_EVENT := Or.inl (hW.mem rfl)
  have wc08 : Writes W0 R.USB_RSTCNT := Or.inl (hW.mem rfl)
  unfold execUsbBusReset
  repeat' first
    | with_reducible assumption
    | with_reducible refine TouchOut.next ?_
    | (extract_lets +onlyGivenNames xx; guard_hyp xx : State := _; refine Touch.cut (x := xx) ?_ ?_; (on_goal 2 => (intro hh; (try clear_value xx); revert xx; intro _ _)); any_goals (revert xx; intro _))
    | with_reducible refine State.onUsb_touch ?_ c_State_onUsb _ ?_
    | with_reducible refine State.usbActive_touch ?_ c_State_usbActive
    | with_reducible refine State.usbDefault_touch ?_ c_State_usbDefault
    | with_reducible refine State.tally_touch ?_ c_State_tally _
    | with_reducible refine State.bump_touch ?_ _ _ ?_
    | with_reducible refine State.event_touch ?_ _ ?_
    | with_reducible refine Touch.ite ?_ ?_
    | with_reducible intro _ _

def execUsbSuspend_cells : List Nat :=
  [0xb00, 0xb18, 0xc00, 0xc01, 0xe00]

theorem execUsbSuspend_touch {W0 : List Nat} {s0 s : State} (h0 : Touch W0 s0 s) (hW : Sub execUsbSuspend_cells W0) :
    TouchOut W0 s0 (execUsbSuspend s) := by
  have c_State_onUsb : Sub State.onUsb_cells W0 := fun _ h => nomatch h
  have c_State_usbLock : Sub State.usbLock_cells W0 := Sub.trans (Sub.of rfl) hW
  have c_State_refreshLimit : Sub State.refreshLimit_cells W0 := Sub.trans (Sub.of rfl) hW
  have wc00 : Writes W0 R.USB_STATUS := Or.inl (hW.mem rfl)
  have wc01 : Writes W0 R.USB_EVENT := Or.inl (hW.mem rfl)
  unfold execUsbSuspend
  repeat' first
    | with_reducible assumption
    | with_reducible refine TouchOut.next ?_
    | with_reducible refine State.onUsb_touch ?_ c_State_onUsb _ ?_
    | with_reducible refine State.usbLock_touch ?_ c_State_usbLock _
    | with_reducible refine State.refreshLimit_touch ?_ c_State_refreshLimit
    | with_reducible refine State.event_touch ?_ _ ?_
    | with_reducible refine State.setFlag_touch ?_ _ _ ?_
    | with_reducible refine State.when_touch ?_ _ _ ?_
    | with_reducible intro _ _

def execUsbResume_cells : List Nat :=
  [0xb00, 0xb18, 0xc00, 0xc01, 0xc07, 0xe00, 0x1414]

theorem execUsbResume_touch {W0 : List Nat} {s0 s : State} (h0 : Touch W0 s0 s) (hW : Sub execUsbResume_cells W0) (sof : Option Nat) :
    TouchOut W0 s0 (execUsbResume sof s) := by
  have c_State_onUsb : Sub State.onUsb_cells W0 := fun _ h => nomatch h
  have c_State_usbActive : Sub State.usbActive_cells W0 := Sub.trans (Sub.of rfl) hW
  have c_State_usbLock : Sub State.usbLock_cells W0 := Sub.trans (Sub.of rfl) hW
  have wc07 : Writes W0 R.USB_FRAME := Or.inl (hW.mem rfl)
  have w1414 : 0x1414 ∈ W0 := hW.mem rfl
  unfold execUsbResume
  repeat' first
    | with_reducible assumption
    | with_reducible refine TouchOut.next ?_
    | (extract_lets +onlyGivenNames xx; guard_hyp xx : State := _; refine Touch.cut (x := xx) ?_ ?_; (on_goal 2 => (intro hh; (try clear_value xx); revert xx; intro _ _)); any_goals (revert xx; intro _))
    | (extract_lets +onlyGivenNames xx; (try clear_value xx); revert xx; intro _)
    | with_reducible refine State.onUsb_touch ?_ c_State_onUsb _ ?_
    | with_reducible refine State.usbActive_touch ?_ c_State_usbActive
    | with_reducible refine State.usbLock_touch ?_ c_State_usbLock _
    | with_reducible refine State.setReg_touch ?_ _ _ ?_
    | with_reducible intro _ _
    | split
    | with_reducible refine Touch.update ?_

def State.usbReply_cells : List Nat :=
  [0x1414]

theorem State.usbReply_touch {W0 : List Nat} {s0 s : State} (h0 : Touch W0 s0 s) (hW : Sub State.usbReply_cells W0) (r : Option (List Byte)) :
    Touch W0 s0 (State.usbReply s r) := by
  have w1414 : 0x1414 ∈ W0 := hW.mem rfl
  unfold State.usbReply
  repeat' first
    | with_reducible assumption
    | (extract_lets +onlyGivenNames xx; (try clear_value xx); revert xx; intro _)
    | with_reducible refine Touch.update ?_

def execGetStatus_cells : List Nat :=
  [0xb00, 0xb18, 0xc00, 0xc01, 0x1414]

theorem execGetStatus_touch {W0 : List Nat} {s0 s : State} (h0 : Touch W0 s0 s) (hW : Sub execGetStatus_cells W0) (recip : Nat) (ep : Nat) :
    TouchOut W0 s0 (execGetStatus recip ep s) := by
  have c_State_onUsb : Sub State.onUsb_cells W0 := fun _ h => nomatch h
  have c_State_usbActive : Sub State.usbActive_cells W0 := Sub.trans (Sub.of rfl) hW
  have c_State_usbReply : Sub State.usbReply_cells W0 := Sub.trans (Sub.of rfl) hW
  unfold execGetStatus
  repeat' first
    | with_reducible assumption
    | with_reducible refine TouchOut.next ?_
    | with_reducible refine State.onUsb_touch ?_ c_State_onUsb _ ?_
    | with_reducible refine State.usbActive_touch ?_ c_State_usbActive
    | with_reducible refine State.usbReply_touch ?_ c_State_usbReply _
    | with_reducible intro _ _

def execGetDescriptor_cells : List Nat :=
  [0xb00, 0xb18, 0xc00, 0xc01, 0x1414]

theorem execGetDescriptor_touch {W0 : List Nat} {s0 s : State} (h0 : Touch W0 s0 s) (hW : Sub execGetDescriptor_cells W0) (typ : Nat) (idx : Nat) (lang : Nat) (len : Nat) :
    TouchOut W0 s0 (execGetDescriptor typ idx lang len s) := by
  have c_State_onUsb : Sub State.onUsb_cells W0 := fun _ h => nomatch h
  have c_State_usbActive : Sub State.usbActive_cells W0 := Sub.trans (Sub.of rfl) hW
  have c_State_usbReply : Sub State.usbReply_cells W0 := Sub.trans (Sub.of rfl) hW
  unfold execGetDescriptor
  repeat' first
    | with_reducible assumption
    | with_reducible refine TouchOut.next ?_
    | with_reducible refine State.onUsb_touch ?_ c_State_onUsb _ ?_
    | with_reducible refine State.usbActive_touch ?_ c_State_usbActive
    | with_reducible refine State.usbReply_touch ?_ c_State_usbReply _
    | with_reducible intro _ _

def execSetAddress_cells : List Nat :=
  [0xb00, 0xb18, 0xc00, 0xc01, 0xc06, 0x1414]

theorem execSetAddress_touch {W0 : List Nat} {s0 s : State} (h0 : Touch W0 s0 s) (hW : Sub execSetAddress_cells W0) (a : Nat) :
    TouchOut W0 s0 (execSetAddress a s) := by
  have c_State_onUsb : Sub State.onUsb_cells W0 := fun _ h => nomatch h
  have c_State_usbActive : Sub State.usbActive_cells W0 := Sub.trans (Sub.of rfl) hW
  have c_State_usbReply : Sub State.usbReply_cells W0 := Sub.trans (Sub.of rfl) hW
  have wc00 : Writes W0 R.USB_STATUS := Or.inl (hW.mem rfl)
  have wc06 : Writes W0 R.USB_ADDR := Or.inl (hW.mem rfl)
  unfold execSetAddress
  repeat' first
    | with_reducible assumption
    | with_reducible refine TouchOut.next ?_
    | (extract_lets +onlyGivenNames xx; guard_hyp xx : State := _; refine Touch.cut (x := xx) ?_ ?_; (on_goal 2 => (intro hh; (try clear_value xx); revert xx; intro _ _)); any_goals (revert xx; intro _))
    | with_reducible refine State.onUsb_touch ?_ c_State_onUsb _ ?_
    | with_reducible refine State.usbActive_touch ?_ c_State_usbActive
    | with_reducible refine State.usbReply_touch ?_ c_State_usbReply _
    | with_reducible refine State.setField_touch ?_ _ _ ?_
    | with_reducible refine State.setReg_touch ?_ _ _ ?_
    | with_reducible refine Touch.ite ?_ ?_
    | with_reducible intro _ _

def State.usbUnhalt_cells : List Nat :=
  [0x1414]

theorem State.usbUnhalt_touch {W0 : List Nat} {s0 s : State} (h0 : Touch W0 s0 s) (hW : Sub State.usbUnhalt_cells W0) :
    Touch W0 s0 (State.usbUnhalt s) := by
  have w1414 : 0x1414 ∈ W0 := hW.mem rfl
  unfold State.usbUnhalt
  repeat' first
    | with_reducible assumption
    | (extract_lets +onlyGivenNames xx; (try clear_value xx); revert xx; intro _)
    | with_reducible refine Touch.update ?_

def State.usbConfigured_cells : List Nat :=
  [0xa01, 0xa32, 0x140f, 0x1414]

theorem State.usbConfigured_touch {W0 : List Nat} {s0 s : State} (h0 : Touch W0 s0 s) (hW : Sub State.usbConfigured_cells W0) (n : Nat) :
    Touch W0 s0 (State.usbConfigured s n) := by
  have c_State_usbUnhalt : Sub State.usbUnhalt_cells W0 := Sub.trans (Sub.of rfl) hW
  have c_State_usbReply : Sub State.usbReply_cells W0 := Sub.trans (Sub.of rfl) hW
  have c_State_post : Sub State.post_cells W0 := Sub.trans (Sub.of rfl) hW
  unfold State.usbConfigured
  repeat' first
    | with_reducible assumption
    | with_reducible refine State.usbUnhalt_touch ?_ c_State_usbUnhalt
    | with_reducible refine State.usbReply_touch ?_ c_State_usbReply _
    | with_reducible refine State.post_touch ?_ c_State_post _ _

def execSetConfiguration_cells : List Nat :=
  [0xa01, 0xa32, 0xb00, 0xb18, 0xc00, 0xc01, 0x140f, 0x1414]

theorem execSetConfiguration_touch {W0 : List Nat} {s0 s : State} (h0 : Touch W0 s0 s) (hW : Sub execSetConfiguration_cells W0) (n : Nat) :
    TouchOut W0 s0 (execSetConfiguration n s) := by
  have c_State_onUsb : Sub State.onUsb_cells W0 := fun _ h => nomatch h
  have c_State_usbActive : Sub State.usbActive_cells W0 := Sub.trans (Sub.of rfl) hW
  have c_State_usbConfigured : Sub State.usbConfigured_cells W0 := Sub.trans (Sub.of rfl) hW
  have c_State_usbReply : Sub State.usbReply_cells W0 := Sub.trans (Sub.of rfl) hW
  have wc00 : Writes W0 R.USB_STATUS := Or.inl (hW.mem rfl)
  have wc01 : Writes W0 R.USB_EVENT := Or.inl (hW.mem rfl)
  unfold execSetConfiguration
  repeat' first
    | with_reducible assumption
    | with_reducible refine TouchOut.next ?_
    | (extract_lets +onlyGivenNames xx; guard_hyp xx : State := _; refine Touch.cut (x := xx) ?_ ?_; (on_goal 2 => (intro hh; (try clear_value xx); revert xx; intro _ _)); any_goals (revert xx; intro _))
    | with_reducible refine State.onUsb_touch ?_ c_State_onUsb _ ?_
    | with_reducible refine State.usbActive_touch ?_ c_State_usbActive
    | with_reducible refine State.usbConfigured_touch ?_ c_State_usbConfigured _
    | with_reducible refine State.usbReply_touch ?_ c_State_usbReply _
    | with_reducible refine State.event_touch ?_ _ ?_
    | with_reducible refine State.setField_touch ?_ _ _ ?_
    | with_reducible intro _ _
    | split

def execGetConfiguration_cells : List Nat :=
  [0xb00, 0xb18, 0xc00, 0xc01, 0x1414]

theorem execGetConfiguration_touch {W0 : List Nat} {s0 s : State} (h0 : Touch W0 s0 s) (hW : Sub execGetConfiguration_cells W0) :
    TouchOut W0 s0 (execGetConfiguration s) := by
  have c_State_onUsb : Sub State.onUsb_cells W0 := fun _ h => nomatch h
  have c_State_usbActive : Sub State.usbActive_cells W0 := Sub.trans (Sub.of rfl) hW
  have c_State_usbReply : Sub State.usbReply_cells W0 := Sub.trans (Sub.of rfl) hW
  unfold execGetConfiguration
  repeat' first
    | with_reducible assumption
    | with_reducible refine TouchOut.next ?_
    | with_reducible refine State.onUsb_touch ?_ c_State_onUsb _ ?_
    | with_reducible refine State.usbActive_touch ?_ c_State_usbActive
    | with_reducible refine State.usbReply_touch ?_ c_State_usbReply _
    | with_reducible intro _ _

def execGetInterface_cells : List Nat :=
  [0xb00, 0xb18, 0xc00, 0xc01, 0x1414]

theorem execGetInterface_touch {W0 : List Nat} {s0 s : State} (h0 : Touch W0 s0 s) (hW : Sub execGetInterface_cells W0) :
    TouchOut W0 s0 (execGetInterface s) := by
  have c_State_onUsb : Sub State.onUsb_cells W0 := fun _ h => nomatch h
  have c_State_usbActive : Sub State.usbActive_cells W0 := Sub.trans (Sub.of rfl) hW
  have c_State_usbReply : Sub State.usbReply_cells W0 := Sub.trans (Sub.of rfl) hW
  unfold execGetInterface
  repeat' first
    | with_reducible assumption
    | with_reducible refine TouchOut.next ?_
    | with_reducible refine State.onUsb_touch ?_ c_State_onUsb _ ?_
    | with_reducible refine State.usbActive_touch ?_ c_State_usbActive
    | with_reducible refine State.usbReply_touch ?_ c_State_usbReply _
    | with_reducible intro _ _

def execSetInterface_cells : List Nat :=
  [0xb00, 0xb18, 0xc00, 0xc01, 0x1414]

theorem execSetInterface_touch {W0 : List Nat} {s0 s : State} (h0 : Touch W0 s0 s) (hW : Sub execSetInterface_cells W0) :
    TouchOut W0 s0 (execSetInterface s) := by
  have c_State_onUsb : Sub State.onUsb_cells W0 := fun _ h => nomatch h
  have c_State_usbActive : Sub State.usbActive_cells W0 := Sub.trans (Sub.of rfl) hW
  have c_State_usbUnhalt : Sub State.usbUnhalt_cells W0 := Sub.trans (Sub.of rfl) hW
  have c_State_usbReply : Sub State.usbReply_cells W0 := Sub.trans (Sub.of rfl) hW
  unfold execSetInterface
  repeat' first
    | with_reducible assumption
    | with_reducible refine TouchOut.next ?_
    | with_reducible refine State.onUsb_touch ?_ c_State_onUsb _ ?_
    | with_reducible refine State.usbActive_touch ?_ c_State_usbActive
    | with_reducible refine State.usbUnhalt_touch ?_ c_State_usbUnhalt
    | with_reducible refine State.usbReply_touch ?_ c_State_usbReply _
    | with_reducible intro _ _

def State.usbHalt_cells : List Nat :=
  [0xb00, 0xb18, 0xc00, 0xc01, 0x1414]

theorem State.usbHalt_touch {W0 : List Nat} {s0 s : State} (h0 : Touch W0 s0 s) (hW : Sub State.usbHalt_cells W0) (inEp : Bool) (x : Bool) :
    Touch W0 s0 (State.usbHalt s inEp x) := by
  have c_State_usbActive : Sub State.usbActive_cells W0 := Sub.trans (Sub.of rfl) hW
  have c_State_usbReply : Sub State.usbReply_cells W0 := Sub.trans (Sub.of rfl) hW
  have w1414 : 0x1414 ∈ W0 := hW.mem rfl
  unfold State.usbHalt
  repeat' first
    | with_reducible assumption
    | (extract_lets +onlyGivenNames xx; guard_hyp xx : State := _; refine Touch.cut (x := xx) ?_ ?_; (on_goal 2 => (intro hh; (try clear_value xx); revert xx; intro _ _)); any_goals (revert xx; intro _))
    | (extract_lets +onlyGivenNames xx; (try clear_value xx); revert xx; intro _)
    | with_reducible refine State.usbActive_touch ?_ c_State_usbActive
    | with_reducible refine State.usbReply_touch ?_ c_State_usbReply _
    | with_reducible refine Touch.ite ?_ ?_
    | with_reducible refine Touch.update ?_

def execClearFeature_cells : List Nat :=
  [0xb00, 0xb18, 0xc00, 0xc01, 0x1414]

theorem execClearFeature_touch {W0 : List Nat} {s0 s : State} (h0 : Touch W0 s0 s) (hW : Sub execClearFeature_cells W0) (inEp : Bool) :
    TouchOut W0 s0 (execClearFeature inEp s) := by
  have c_State_onUsb : Sub State.onUsb_cells W0 := fun _ h => nomatch h
  have c_State_usbHalt : Sub State.usbHalt_cells W0 := Sub.trans (Sub.of rfl) hW
  unfold execClearFeature
  repeat' first
    | with_reducible assumption
    | with_reducible refine TouchOut.next ?_
    | with_reducible refine State.onUsb_touch ?_ c_State_onUsb _ ?_
    | with_reducible refine State.usbHalt_touch ?_ c_State_usbHalt _ _
    | with_reducible intro _ _

def execSetFeature_cells : List Nat :=
  [0xb00, 0xb18, 0xc00, 0xc01, 0x1414]

theorem execSetFeature_touch {W0 : List Nat} {s0 s : State} (h0 : Touch W0 s0 s) (hW : Sub execSetFeature_cells W0) (inEp : Bool) :
    TouchOut W0 s0 (execSetFeature inEp s) := by
  have c_State_onUsb : Sub State.onUsb_cells W0 := fun _ h => nomatch h
  have c_State_usbHalt : Sub State.usbHalt_cells W0 := Sub.trans (Sub.of rfl) hW
  unfold execSetFeature
  repeat' first
    | with_reducible assumption
    | with_reducible refine TouchOut.next ?_
    | with_reducible refine State.onUsb_touch ?_ c_State_onUsb _ ?_
    | with_reducible refine State.usbHalt_touch ?_ c_State_usbHalt _ _
    | with_reducible intro _ _

def execUsbStalledRequest_cells : List Nat :=
  [0xb00, 0xb18, 0xc00, 0xc01, 0x1414]

theorem execUsbStalledRequest_touch {W0 : List Nat} {s0 s : State} (h0 : Touch W0 s0 s) (hW : Sub execUsbStalledRequest_cells W0) :
    TouchOut W0 s0 (execUsbStalledRequest s) := by
  have c_State_onUsb : Sub State.onUsb_cells W0 := fun _ h => nomatch h
  have c_State_usbActive : Sub State.usbActive_cells W0 := Sub.trans (Sub.of rfl) hW
  have c_State_usbReply : Sub State.usbReply_cells W0 := Sub.trans (Sub.of rfl) hW
  unfold execUsbStalledRequest
  repeat' first
    | with_reducible assumption
    | with_reducible refine TouchOut.next ?_
    | with_reducible refine State.onUsb_touch ?_ c_State_onUsb _ ?_
    | with_reducible refine State.usbActive_touch ?_ c_State_usbActive
    | with_reducible refine State.usbReply_touch ?_ c_State_usbReply _
    | with_reducible intro _ _

def execGetInfo_cells : List Nat :=
  [0xb00, 0xb18, 0xc00, 0xc01, 0x1414]

theorem execGetInfo_touch {W0 : List Nat} {s0 s : State} (h0 : Touch W0 s0 s) (hW : Sub execGetInfo_cells W0) :
    TouchOut W0 s0 (execGetInfo s) := by
  have c_State_onUsb : Sub State.onUsb_cells W0 := fun _ h => nomatch h
  have c_State_usbActive : Sub State.usbActive_cells W0 := Sub.trans (Sub.of rfl) hW
  have c_State_usbReply : Sub State.usbReply_cells W0 := Sub.trans (Sub.of rfl) hW
  unfold execGetInfo
  repeat' first
    | with_reducible assumption
    | with_reducible refine TouchOut.next ?_
    | with_reducible refine State.onUsb_touch ?_ c_State_onUsb _ ?_
    | with_reducible refine State.usbActive_touch ?_ c_State_usbActive
    | with_reducible refine State.usbReply_touch ?_ c_State_usbReply _
    | with_reducible intro _ _

def execAbort_cells : List Nat :=
  [0xb00, 0xb18, 0xc00, 0xc01, 0x1413, 0x1414]

theorem execAbort_touch {W0 : List Nat} {s0 s : State} (h0 : Touch W0 s0 s) (hW : Sub execAbort_cells W0) :
    TouchOut W0 s0 (execAbort s) := by
  have c_State_onUsb : Sub State.onUsb_cells W0 := fun _ h => nomatch h
  have c_State_usbActive : Sub State.usbActive_cells W0 := Sub.trans (Sub.of rfl) hW
  have c_State_usbReply : Sub State.usbReply_cells W0 := Sub.trans (Sub.of rfl) hW
  have w1413 : 0x1413 ∈ W0 := hW.mem rfl
  unfold execAbort
  repeat' first
    | with_reducible assumption
    | with_reducible refine TouchOut.next ?_
    | (extract_lets +onlyGivenNames xx; guard_hyp xx : State := _; refine Touch.cut (x := xx) ?_ ?_; (on_goal 2 => (intro hh; (try clear_value xx); revert xx; intro _ _)); any_goals (revert xx; intro _))
    | (extract_lets +onlyGivenNames xx; (try clear_value xx); revert xx; intro _)
    | with_reducible refine State.onUsb_touch ?_ c_State_onUsb _ ?_
    | with_reducible refine State.usbActive_touch ?_ c_State_usbActive
    | with_reducible refine State.usbReply_touch ?_ c_State_usbReply _
    | with_reducible intro _ _
    | with_reducible refine Touch.update ?_

def execUartFrameGap_cells : List Nat :=
  []

theorem execUartFrameGap_touch {W0 : List Nat} {s0 s : State} (h0 : Touch W0 s0 s) (hW : Sub execUartFrameGap_cells W0) :
    TouchOut W0 s0 (execUartFrameGap s) := by
  unfold execUartFrameGap
  repeat' first
    | with_reducible assumption
    | with_reducible refine TouchOut.next ?_

end Sys2Proof.Machine
end

