-- ==== Sys2Proof/Laws/TouchVerdict.lean ====
section
/-!
SUPPORT. What each operation of Machine/Verdict.lean can do: the registers and parts of the state it may write, and nothing
else; the unit, its queue and the form of its stores are kept.
-/

-- proofs are elaborated one after another: many at once ask for more threads than a memory limit allows
set_option Elab.async false

set_option linter.unusedTactic false
set_option linter.unusedVariables false
set_option linter.unusedSimpArgs false
set_option linter.unreachableTactic false
set_option linter.tactic.unusedName false

namespace Sys2Proof.Machine

def execReserveForm_cells : List Nat :=
  [0x900, 0x901, 0x90d, 0x90e, 0x90f, 0xa01, 0xa32, 0x140c, 0x140f]

theorem execReserveForm_touch {W0 : List Nat} {s0 s : State} (h0 : Touch W0 s0 s) (hW : Sub execReserveForm_cells W0) :
    TouchOut W0 s0 (execReserveForm s) := by
  have c_State_formReserve : Sub State.formReserve_cells W0 := Sub.trans (Sub.of rfl) hW
  unfold execReserveForm
  repeat' first
    | with_reducible assumption
    | with_reducible refine TouchOut.next ?_
    | with_reducible refine State.formReserve_touch ?_ c_State_formReserve
    | with_reducible refine State.when_touch ?_ _ _ ?_
    | with_reducible intro _ _

def execCurfewEnd_cells : List Nat :=
  [0x900, 0x901, 0x140c]

theorem execCurfewEnd_touch {W0 : List Nat} {s0 s : State} (h0 : Touch W0 s0 s) (hW : Sub execCurfewEnd_cells W0) :
    TouchOut W0 s0 (execCurfewEnd s) := by
  have c_State_releaseHeld : Sub State.releaseHeld_cells W0 := Sub.trans (Sub.of rfl) hW
  unfold execCurfewEnd
  repeat' first
    | with_reducible assumption
    | with_reducible refine TouchOut.next ?_
    | with_reducible refine State.releaseHeld_touch ?_ c_State_releaseHeld
    | with_reducible refine State.when_touch ?_ _ _ ?_
    | with_reducible intro _ _

def execProofLift_cells : List Nat :=
  [0x200, 0x300, 0x301, 0x318, 0x31f, 0x405, 0xa01, 0xa32, 0x1409, 0x140c, 0x140f]

theorem execProofLift_touch {W0 : List Nat} {s0 s : State} (h0 : Touch W0 s0 s) (hW : Sub execProofLift_cells W0) :
    TouchOut W0 s0 (execProofLift s) := by
  have c_State_setTarget : Sub State.setTarget_cells W0 := Sub.trans (Sub.of rfl) hW
  have w140c : 0x140c ∈ W0 := hW.mem rfl
  unfold execProofLift
  repeat' first
    | with_reducible assumption
    | with_reducible refine TouchOut.next ?_
    | (extract_lets +onlyGivenNames xx; (try clear_value xx); revert xx; intro _)
    | with_reducible refine State.setTarget_touch ?_ c_State_setTarget _ _
    | with_reducible refine State.when_touch ?_ _ _ ?_
    | with_reducible intro _ _
    | with_reducible refine Touch.update ?_

def execProofChecks_cells : List Nat :=
  [0x2, 0x6, 0x100, 0x200, 0x300, 0x301, 0x31f, 0x400, 0x401, 0x405, 0x40e, 0x40f, 0x801, 0x804, 0x806, 0x807, 0x900,
   0x901, 0x90b, 0x90d, 0x90e, 0x90f, 0x914, 0xa01, 0xa32, 0xc20, 0xc21, 0xc25, 0x1402, 0x1405, 0x1408, 0x1409,
   0x140c, 0x140d, 0x140f, 0x1411, 0x1413, 0x1415]

theorem execProofChecks_touch {W0 : List Nat} {s0 s : State} (h0 : Touch W0 s0 s) (hW : Sub execProofChecks_cells W0) :
    TouchOut W0 s0 (execProofChecks s) := by
  have c_State_proofChecks : Sub State.proofChecks_cells W0 := Sub.trans (Sub.of rfl) hW
  have w140c : 0x140c ∈ W0 := hW.mem rfl
  unfold execProofChecks
  repeat' first
    | with_reducible assumption
    | with_reducible refine TouchOut.next ?_
    | (extract_lets +onlyGivenNames xx; (try clear_value xx); revert xx; intro _)
    | with_reducible refine State.proofChecks_touch ?_ c_State_proofChecks _
    | with_reducible refine State.when_touch ?_ _ _ ?_
    | with_reducible refine Touch.ite ?_ ?_
    | with_reducible intro _ _
    | with_reducible refine Touch.update ?_

def execProofDeferExpiry_cells : List Nat :=
  [0x2, 0x6, 0x100, 0x200, 0x300, 0x301, 0x31f, 0x400, 0x401, 0x405, 0x40e, 0x40f, 0x801, 0x804, 0x806, 0x807, 0x900,
   0x901, 0x90b, 0x90d, 0x90e, 0x90f, 0x914, 0xa01, 0xa32, 0xc20, 0xc21, 0xc25, 0x1402, 0x1405, 0x1408, 0x1409,
   0x140c, 0x140d, 0x140f, 0x1411, 0x1413, 0x1415]

theorem execProofDeferExpiry_touch {W0 : List Nat} {s0 s : State} (h0 : Touch W0 s0 s) (hW : Sub execProofDeferExpiry_cells W0) :
    TouchOut W0 s0 (execProofDeferExpiry s) := by
  have c_State_proofChecks : Sub State.proofChecks_cells W0 := Sub.trans (Sub.of rfl) hW
  unfold execProofDeferExpiry
  repeat' first
    | with_reducible assumption
    | with_reducible refine TouchOut.next ?_
    | with_reducible refine State.proofChecks_touch ?_ c_State_proofChecks _
    | with_reducible refine State.when_touch ?_ _ _ ?_
    | with_reducible intro _ _
    | split

def execProofCapacityBegin_cells : List Nat :=
  [0x200, 0x300, 0x301, 0x31f, 0x400, 0x401, 0x40f, 0x801, 0x806, 0x807, 0xa01, 0xa32, 0x1402, 0x1408, 0x1409, 0x140c,
   0x140f, 0x1411]

theorem execProofCapacityBegin_touch {W0 : List Nat} {s0 s : State} (h0 : Touch W0 s0 s) (hW : Sub execProofCapacityBegin_cells W0) :
    TouchOut W0 s0 (execProofCapacityBegin s) := by
  have c_State_mbCapBegin : Sub State.mbCapBegin_cells W0 := Sub.trans (Sub.of rfl) hW
  have w140c : 0x140c ∈ W0 := hW.mem rfl
  unfold execProofCapacityBegin
  repeat' first
    | with_reducible assumption
    | with_reducible refine TouchOut.next ?_
    | (extract_lets +onlyGivenNames xx; guard_hyp xx : State := _; refine Touch.cut (x := xx) ?_ ?_; (on_goal 2 => (intro hh; (try clear_value xx); revert xx; intro _ _)); any_goals (revert xx; intro _))
    | (extract_lets +onlyGivenNames xx; (try clear_value xx); revert xx; intro _)
    | with_reducible refine State.mbCapBegin_touch ?_ c_State_mbCapBegin _
    | with_reducible refine State.when_touch ?_ _ _ ?_
    | with_reducible refine Touch.ite ?_ ?_
    | with_reducible intro _ _
    | split
    | with_reducible refine Touch.update ?_

def execProofDischargeStart_cells : List Nat :=
  [0x100, 0x114, 0x200, 0x400, 0x40e, 0x140c]

theorem execProofDischargeStart_touch {W0 : List Nat} {s0 s : State} (h0 : Touch W0 s0 s) (hW : Sub execProofDischargeStart_cells W0) :
    TouchOut W0 s0 (execProofDischargeStart s) := by
  have c_State_batfetIdeal : Sub State.batfetIdeal_cells W0 := Sub.trans (Sub.of rfl) hW
  have c_State_holdInput : Sub State.holdInput_cells W0 := Sub.trans (Sub.of rfl) hW
  have c_State_tetHold : Sub State.tetHold_cells W0 := Sub.trans (Sub.of rfl) hW
  have w140c : 0x140c ∈ W0 := hW.mem rfl
  unfold execProofDischargeStart
  repeat' first
    | with_reducible assumption
    | with_reducible refine TouchOut.next ?_
    | (extract_lets +onlyGivenNames xx; (try clear_value xx); revert xx; intro _)
    | with_reducible refine State.batfetIdeal_touch ?_ c_State_batfetIdeal
    | with_reducible refine State.holdInput_touch ?_ c_State_holdInput
    | with_reducible refine State.tetHold_touch ?_ c_State_tetHold
    | with_reducible refine State.when_touch ?_ _ _ ?_
    | with_reducible refine Touch.ite ?_ ?_
    | with_reducible intro _ _
    | split
    | with_reducible refine Touch.update ?_

def execProofDischargeEnd_cells : List Nat :=
  [0x200, 0x801, 0x806, 0x900, 0x901, 0xa01, 0xa32, 0x1409, 0x140c, 0x140f, 0x1411]

theorem execProofDischargeEnd_touch {W0 : List Nat} {s0 s : State} (h0 : Touch W0 s0 s) (hW : Sub execProofDischargeEnd_cells W0) (bat : Nat) :
    TouchOut W0 s0 (execProofDischargeEnd bat s) := by
  have c_State_setBat : Sub State.setBat_cells W0 := Sub.trans (Sub.of rfl) hW
  have c_State_mbCapEnd : Sub State.mbCapEnd_cells W0 := Sub.trans (Sub.of rfl) hW
  have w140c : 0x140c ∈ W0 := hW.mem rfl
  unfold execProofDischargeEnd
  repeat' first
    | with_reducible assumption
    | with_reducible refine TouchOut.next ?_
    | (extract_lets +onlyGivenNames xx; guard_hyp xx : State := _; refine Touch.cut (x := xx) ?_ ?_; (on_goal 2 => (intro hh; (try clear_value xx); revert xx; intro _ _)); any_goals (revert xx; intro _))
    | (extract_lets +onlyGivenNames xx; (try clear_value xx); revert xx; intro _)
    | with_reducible refine State.setBat_touch ?_ c_State_setBat _
    | with_reducible refine State.mbCapEnd_touch ?_ c_State_mbCapEnd _
    | with_reducible refine State.when_touch ?_ _ _ ?_
    | with_reducible refine Touch.ite ?_ ?_
    | with_reducible intro _ _
    | split
    | with_reducible refine Touch.update ?_

def execProofEnd_cells : List Nat :=
  [0x2, 0x6, 0x200, 0x300, 0x301, 0x31f, 0x400, 0x401, 0x40f, 0x801, 0x900, 0x901, 0x90b, 0x90d, 0x90e, 0x90f, 0x910,
   0x911, 0x912, 0xa01, 0xa32, 0x1402, 0x1408, 0x1409, 0x140c, 0x140f, 0x1411]

theorem execProofEnd_touch {W0 : List Nat} {s0 s : State} (h0 : Touch W0 s0 s) (hW : Sub execProofEnd_cells W0) :
    TouchOut W0 s0 (execProofEnd s) := by
  have c_State_proofEnd : Sub State.proofEnd_cells W0 := Sub.trans (Sub.of rfl) hW
  unfold execProofEnd
  repeat' first
    | with_reducible assumption
    | with_reducible refine TouchOut.next ?_
    | with_reducible refine State.proofEnd_touch ?_ c_State_proofEnd _ _
    | with_reducible refine State.when_touch ?_ _ _ ?_
    | with_reducible refine Touch.ite ?_ ?_
    | with_reducible intro _ _
    | split

end Sys2Proof.Machine
end

