-- ==== Sys2Proof/Machine/PinView.lean ====
section
/-!
DEFINITION. What each pin does in the present state (R498, R499, R505, R507), read from the fields that decide it; pins that only
supply, ground or decouple have no state of their own.
-/

namespace Sys2Proof.Machine

/-- The pins of R498 whose state R499 gives, joined and paired ones once. -/
inductive Pin where
  | vin | vbus | vpv | vmux | swMain | vsys | bat | weighbridge | swTether | txc | rxc | vhorn | hsw | vaux | keep | supplies
  | chem | addr | sclh | sdah | sclc | sdac | cfgwp | nint | nrsto | wake | alma | almb | hush | cc1 | cc2 | dp | dm | sbu1 | sbu2
  | opt | xtal
  deriving DecidableEq, Repr

/-- What a pin does: high impedance, a switch open or closed, a rail off or on, a node discharged, a stage that switches, an input
that is watched, an open-drain output released, an output low or high, a clamp, a pull-down, a transmitter or a receiver. -/
inductive PinUse where
  | highZ | open_ | closed | off | on | discharged | switching | watched | released | low | high | clamp | rd | transmit | receive
  | carrier | pullUp
  deriving DecidableEq, Repr

/-- What a CC pin presents. -/
def ccUse : CcEnd → PinUse
  | .clamp => .clamp
  | .rd => .rd
  | .carrier => .carrier
  | .absent => .highZ

/-- What an SBU pin is. -/
def sbuUse : SbuEnd → PinUse
  | .highZ => .highZ
  | .transmit => .transmit
  | .receive => .receive

/-- The switch of an input. -/
def State.switchUse (s : State) (x : Source) : PinUse := if s.path.closed = some x then .closed else .open_

/-- A pin that VAUX supplies, high impedance without it. -/
def State.ifVaux (s : State) (u : PinUse) : PinUse := if s.portHPins then u else .highZ

/-- What a pin does now (R499). -/
def State.pinUse (s : State) : Pin → PinUse
  | .vin => s.switchUse .vin
  | .vbus => s.switchUse .vbus
  | .vpv => s.switchUse .vpv
  | .vmux => if s.flag F.SRC_STATUS_DISCH then .discharged else if s.path.closed.isSome then .on else .off
  | .swMain => if s.live && s.flag F.CONV_STATUS_MAIN_ON then .switching else .highZ
  | .vsys => if s.live then .on else .off
  | .bat => if s.live && !s.flag F.PATH_STATUS_BATOPEN then .closed else .open_
  | .weighbridge => if s.phase != .ship && s.wb.run then .on else .highZ
  | .swTether => if s.live && decide (2 ≤ s.field F.CONV_STATUS_TET_MODE) then .switching else .off
  | .txc => if s.live && s.framesMode && s.link.alarmOn && s.flag F.TET_STATUS_UP && !s.flag F.TET_STATUS_SILENCED then .transmit
    else .highZ
  | .rxc => if s.live && s.framesMode && s.flag F.TET_STATUS_UP then .receive else .highZ
  | .vhorn => if s.flag F.CONV_STATUS_HORN_ON then .on else .off
  | .hsw => if s.flag F.ALM_STATUS_HSW then .closed else .open_
  | .vaux => if s.portHPins then .on else .off
  | .keep => if s.keepOn then .on else .off
  | .supplies => if s.live then .on else .off
  | .chem => .highZ
  | .addr => .highZ
  | .sclh => s.ifVaux (if s.twb.held.isSome then .low else .watched)
  | .sdah => s.ifVaux .watched
  | .sclc => s.ifVaux (if s.phase == .startup || s.boot.write.isSome then .transmit else .released)
  | .sdac => s.ifVaux (if s.phase == .startup || s.boot.write.isSome then .transmit else .released)
  | .cfgwp => s.ifVaux (if s.pins.cfgwp then .released else .low)
  | .nint => s.ifVaux (if s.nint then .low else .released)
  | .nrsto => if s.pins.nrsto then .high else .low
  | .wake => .watched
  | .alma => if s.live then .watched else .highZ
  | .almb => if s.live then .watched else .highZ
  | .hush => s.ifVaux .watched
  | .cc1 => ccUse s.pins.cc1
  | .cc2 => ccUse s.pins.cc2
  | .dp => if s.flag F.USB_STATUS_PULLUP then .pullUp else .highZ
  | .dm => .highZ
  | .sbu1 => sbuUse s.pins.sbu1
  | .sbu2 => sbuUse s.pins.sbu2
  | .opt => if s.live && s.flag F.OPT_CFG_EN then .watched else .off
  | .xtal => if s.live && s.flag F.CLK_CFG_XTAL then .on else .off

end Sys2Proof.Machine
end

