-- ==== Sys2Proof/WellFormed.lean ====
section
/-!
DEFINITION. Which commands can come at all: the operands that a frame, a transaction or a measurement is able to carry.
-/

namespace Sys2Proof

/-- A seven-bit two-wire address (R394). -/
def busOk (a : Nat) : Bool := decide (a < 128)

/-- A path by which a register access can come (R394, R415). -/
def viaOk : Via → Bool
  | .portH a => busOk a
  | .firmware => true

/-- A pointer of 16 bits (R396, R416). -/
def ptrOk (p : Nat) : Bool := decide (p < 65536)

/-- A register address, without an alias (R416). -/
def regOk (a : Nat) : Bool := decide (a < 16384)

/-- A Tether address (R227). -/
def peerOk (a : Nat) : Bool := decide (a < 64)

/-- The data of a Tether frame (R227). -/
def dataOk (l : List Byte) : Bool := decide (l.length ≤ 8)

/-- A Tether frame (R227): class of three bits, address of six, subtype of two. -/
def frameOk (f : Frame) : Bool := decide (f.cls < 8 ∧ f.addr < 64 ∧ f.sub < 4) && dataOk f.data

/-- Numbers of four, eight, sixteen and thirty-two bits, and a record sequence of five bytes. -/
def nibbleOk (x : Nat) : Bool := decide (x < 16)

def byteOk (x : Nat) : Bool := decide (x < 256)

def wordOk (x : Nat) : Bool := decide (x < 65536)

def longOk (x : Nat) : Bool := decide (x < 4294967296)

def seqOk (x : Nat) : Bool := decide (x < 1099511627776)

/-- A time in 1/65,536 s: seconds of 32 bits and a fraction of 16 (R294). -/
def timeOk (x : Nat) : Bool := decide (x < 281474976710656)

/-- A code from `lo` to `hi`. -/
def oneOf (lo hi x : Nat) : Bool := decide (lo ≤ x ∧ x ≤ hi)

/-- A Bunilia frame's tag has 16 bits (R373). -/
def bunOk (b : Bun) : Bool := wordOk b.tag

/-- The data of a staging command (R377). -/
def chunkOk (l : List Byte) : Bool := decide (l.length ≤ 512)

/-- A PD header as R350 and R351 read it. -/
def headerOk (h : PdHeader) : Bool := decide (h.rev ≤ 2 ∧ h.id < 8)

/-- One to seven power data objects of 32 bits (R342). -/
def objsOk (l : List Nat) : Bool := decide (1 ≤ l.length ∧ l.length ≤ 7) && l.all longOk

/-- The seven energies of a Weighbridge reading (R177). -/
def meterOk (m : WbMeter) : Bool := decide (m.de.length = 7)

/-- A command whose operands can come. -/
def Instr.wellFormed (i : Instr) : Bool :=
  match i with
  | .powerOnResetRelease chemR addrR _ _ => wordOk chemR && wordOk addrR
  | .imageHeadersRead _ _ _ => true
  | .imageBodyReadDone _ => true
  | .portcAttemptFail dev _ => oneOf 0 1 dev
  | .backgroundCopyCheckDone _ => true
  | .warmReset cause => oneOf 3 6 cause
  | .coreReset cause => oneOf 7 9 cause
  | .sysResetWarm via => viaOk via
  | .sysResetCore via => viaOk via
  | .resetRefused via _ => viaOk via
  | .sysShip via => viaOk via
  | .shipExitWake _ _ _ _ => true
  | .shipExitSource _ _ _ _ _ => true
  | .hornReady _ => true
  | .hornFail _ _ => true
  | .discGlitch _ => true
  | .discFault _ _ => true
  | .alarmFrameRx addr _ data _ => peerOk addr && dataOk data
  | .clearFrameRx addr data _ => peerOk addr && dataOk data
  | .remoteTimeout addr => peerOk addr
  | .almCtrlHush via => viaOk via
  | .hushFrameRx addr data _ => peerOk addr && dataOk data
  | .vauxUndervoltage _ => true
  | .nrstoRelease _ => true
  | .sourceQualify _ _ _ => true
  | .inputCollapseTrip _ _ => true
  | .reverseTrip _ _ _ => true
  | .inputOvTrip _ _ => true
  | .vsysOvTrip _ => true
  | .tetSinkCutoff _ => true
  | .vpvLowPowerLoss _ _ _ => true
  | .vmuxSafe _ _ => true
  | .safelowTimeout _ => true
  | .changeoverComplete _ _ => true
  | .idealDiodeConduct _ _ _ => true
  | .batfetTrip _ _ => true
  | .linearEnd _ => true
  | .vpvPoStep _ => true
  | .vpvOcCheckEnd _ => true
  | .srcEnWrite via _ => viaOk via
  | .srcRankWrite via _ => viaOk via
  | .mainRegionChange _ => true
  | .tetSourceFoldback _ => true
  | .tetShort _ _ => true
  | .hswOcp _ _ => true
  | .auxShort _ => true
  | .vauxOff _ => true
  | .convAuxWrite via _ => viaOk via
  | .keepLatchClear _ => true
  | .vsysLadder _ => true
  | .chgDetectDone _ _ => true
  | .chgPreconditionDone _ => true
  | .chgCvEntry _ => true
  | .chgTermCurrent _ => true
  | .chgTopupStart _ => true
  | .chgSuspend _ => true
  | .chgResume _ => true
  | .chgBatOv _ => true
  | .chgFaultAutoclear _ => true
  | .chgClrfault via => viaOk via
  | .chgFullRequest via => viaOk via
  | .ntcReading _ _ => true
  | .chgSocWrite _ _ => true
  | .ballastRecompute => true
  | .wbStart _ _ _ => true
  | .vwbBrownout _ => true
  | .vwbEarlyWarning m => meterOk m
  | .wbCheckpoint m => meterOk m
  | .wbPeriodicDue m _ _ _ => meterOk m
  | .wbWboCheck _ => true
  | .wbReferenceCheck _ => true
  | .wbRecordAccepted _ => true
  | .snapshot _ => true
  | .sweep _ => true
  | .capBegin _ => true
  | .capEnd _ => true
  | .setPeriod _ => true
  | .setCell _ => true
  | .wbMailboxIdent _ => true
  | .calibrate _ => true
  | .wbMailboxReset _ => true
  | .wbCmdUnknown code => byteOk code
  | .snapDone m _ => meterOk m
  | .sweepDone _ _ _ _ => true
  | .capRelaxDone _ => true
  | .calDone _ => true
  | .wbRdselWrite via _ => viaOk via
  | .wbRddataRead via _ => viaOk via
  | .vdtNoteRead via _ => viaOk via
  | .proofDischargeEnd _ => true
  | .proofreq via => viaOk via
  | .tetFrameSent f => frameOk f
  | .tetFrameRefused f _ => frameOk f
  | .tetArbLost f => frameOk f
  | .tetRxError _ _ => true
  | .linkConditionChange _ => true
  | .guardTrip cause => oneOf 1 2 cause
  | .heartbeatRx addr data _ => peerOk addr && dataOk data
  | .peerMissing addr => peerOk addr
  | .census via => viaOk via
  | .censusRequestRx addr _ => peerOk addr
  | .claimRx addr _ _ => peerOk addr
  | .faultFrameRx addr data _ => peerOk addr && dataOk data
  | .readdr via => viaOk via
  | .linktest via => viaOk via
  | .linkTestRx addr data _ => peerOk addr && dataOk data
  | .linkEchoRx addr data _ => peerOk addr && dataOk data
  | .marketFrameRx f _ => frameOk f
  | .offerPost _ _ _ => true
  | .bidPost addr _ => peerOk addr
  | .firmSend _ _ => true
  | .withdrawSend kind addr => peerOk addr && oneOf 0 2 kind
  | .mktLapse addr _ => peerOk addr
  | .mktCfgWrite via _ => viaOk via
  | .mktStallselWrite via _ => viaOk via
  | .mktStalltagWrite via _ => viaOk via
  | .clrcnt via => viaOk via
  | .ledgerRecordAccept _ => true
  | .ledgerCommit _ => true
  | .flush via => viaOk via
  | .lgrReadExact via => viaOk via
  | .lgrReadNext via => viaOk via
  | .lgrReadNextpin via => viaOk via
  | .lgrRddataRead via _ => viaOk via
  | .lgrHostPost via _ => viaOk via
  | .cmdAccept _ => true
  | .cmdBusy b code => b.all bunOk && wordOk code
  | .mainConverterFault _ _ => true
  | .tcAttach pin adv _ _ _ => oneOf 0 1 pin && oneOf 1 3 adv
  | .debugAccessoryAttach _ _ _ => true
  | .tcDetach _ _ => true
  | .advertisementChange adv _ => oneOf 0 3 adv
  | .bc12Done _ => true
  | .sourceCapabilitiesRx h objs _ => headerOk h && objsOk objs
  | .acceptRx h => headerOk h
  | .psRdyRx h => headerOk h
  | .waitRejectRx h => headerOk h
  | .getSinkCapRx h => headerOk h
  | .softResetRx h => headerOk h
  | .getRevisionRx h => headerOk h
  | .alertRx h => headerOk h
  | .bistRx h mode => headerOk h && nibbleOk mode
  | .swapRequestRx h => headerOk h
  | .unsupportedMessageRx h _ svid pos _ => headerOk h && wordOk svid && oneOf 0 7 pos
  | .discoverIdentity h => headerOk h
  | .discoverSvids h => headerOk h
  | .discoverModes h svid => headerOk h && wordOk svid
  | .enterMode h svid pos => headerOk h && wordOk svid && oneOf 0 7 pos
  | .exitMode h svid pos => headerOk h && wordOk svid && oneOf 0 7 pos
  | .take _ => true
  | .reneg via => viaOk via
  | .getcaps via => viaOk via
  | .exitsvc via => viaOk via
  | .usbBusReset _ _ => true
  | .usbResume _ => true
  | .getStatus recip ep => oneOf 0 2 recip && byteOk ep
  | .getDescriptor typ idx lang len => byteOk typ && byteOk idx && wordOk lang && wordOk len
  | .setAddress a => busOk a
  | .setConfiguration n => byteOk n
  | .clearFeature _ => true
  | .setFeature _ => true
  | .openSession b code => bunOk b && longOk code
  | .closeSession b => bunOk b
  | .buniliaIdent b => bunOk b
  | .regRead b addr n => bunOk b && ptrOk addr && byteOk n
  | .regWrite b addr _ _ => bunOk b && ptrOk addr
  | .lgrRead b seq mode n => bunOk b && seqOk seq && byteOk mode && byteOk n
  | .stallRead b addr => bunOk b && byteOk addr
  | .wbRead b typ => bunOk b && byteOk typ
  | .wbSnapshot b => bunOk b
  | .wbCalibrate b ma => bunOk b && wordOk ma
  | .imgStage b offset data => bunOk b && wordOk offset && chunkOk data
  | .imgWrite b _ => bunOk b
  | .fwBegin b total => bunOk b && longOk total
  | .fwChunk b offset data => bunOk b && longOk offset && chunkOk data
  | .fwWrite b => bunOk b
  | .fwActivate b slot _ => bunOk b && byteOk slot
  | .buniliaReset b target => bunOk b && byteOk target
  | .buniliaShip b => bunOk b
  | .cellNew b => bunOk b
  | .proofReq b => bunOk b
  | .buniliaUnknown b code => bunOk b && byteOk code
  | .svcCtrlClose via => viaOk via
  | .optPreambleDetect _ => true
  | .optFlood _ => true
  | .optSettleEnd _ => true
  | .optAnsdataRead via _ => viaOk via
  | .twbAddressWake addr => busOk addr
  | .twbClockLowTimeout _ => true
  | .twbSdaRelease _ => true
  | .twbPecWrite addr ptr _ _ => busOk addr && ptrOk ptr
  | .twbPushStart _ => true
  | .cfgWriteStart via => viaOk via
  | .cfgWriteReset via => viaOk via
  | .imageWriteDone _ => true
  | .cfgStgaddrWrite via _ => viaOk via
  | .cfgStgdataAccess via _ _ => viaOk via
  | .registerWrite via ptr _ _ => viaOk via && ptrOk ptr
  | .setAliasWrite via a _ => viaOk via && regOk a
  | .clearAliasWrite via a _ => viaOk via && regOk a
  | .toggleAliasWrite via a _ => viaOk via && regOk a
  | .rcRegisterRead via ptr _ _ => viaOk via && ptr.all ptrOk
  | .keyArm via a _ => viaOk via && regOk a
  | .cfgCommit via => viaOk via
  | .cfgDiscard via => viaOk via
  | .cfgLock via => viaOk via
  | .cfgCheckPass upsets => upsets.all fun p => regOk p.1
  | .pageselWrite via _ => viaOk via
  | .snapTake via _ => viaOk via
  | .xtalStartTimeout cause _ => oneOf 1 2 cause
  | .oscFault osc cause _ => oneOf 0 3 osc && oneOf 1 2 cause
  | .oscRetry osc _ => oneOf 0 3 osc
  | .oscCrossCheck _ _ _ _ => true
  | .clkTimesetWrite via _ _ _ => viaOk via
  | .syncRx addr time _ _ => peerOk addr && timeOk time
  | .hwdKick via _ => viaOk via
  | .hwdConfigWrite via _ => viaOk via
  | .pwdKick _ => true
  | .pwdWaitEnd _ => true
  | .thmReading l => decide (l.length = 7)
  | .thmShutdown i _ => oneOf 0 6 i
  | .powerLoss _ _ => true
  | .wakePinChange _ => true
  | .buniliaBadframe _ l => decide (l.length ≤ 529)
  | .statusMessageRx h _ => headerOk h
  | .ledgerReplayComplete => true
  | .portcRetry => true
  | .secureStart => true
  | .shipDelayExpiry => true
  | .shipArmExpiry => true
  | .alarmPinEdge => true
  | .sysClockRequestWithdraw => true
  | .localAlarmStart => true
  | .alarmCopyDue => true
  | .discBroadcast => true
  | .discClear => true
  | .localAlarmEnd => true
  | .hornRelease => true
  | .hushPress => true
  | .hushTimerExpiry => true
  | .vauxHoldExpiry => true
  | .vsysOvRestart => true
  | .plannedChangeoverBegin => true
  | .safelowRetry => true
  | .supplementStart => true
  | .supplementEnd => true
  | .batfetRetry => true
  | .vpvOcCheck => true
  | .tetModeChange => true
  | .tetSourceRetry => true
  | .hswReclose => true
  | .auxRestart => true
  | .chgDetect => true
  | .chgAbsentRetry => true
  | .chgTargetReached => true
  | .chgTimeoutFault => true
  | .ntcDisagree => true
  | .chgSocStale => true
  | .chgResumeTimeout => true
  | .wbWatchdogExpiry => true
  | .wbCurrentOverrange => true
  | .wbRecordRelease => true
  | .sweepHoldoffExpiry => true
  | .capDischargeTimeout => true
  | .reserveForm => true
  | .curfewEnd => true
  | .proofLift => true
  | .proofChecks => true
  | .proofDeferExpiry => true
  | .proofCapacityBegin => true
  | .proofDischargeStart => true
  | .proofEnd => true
  | .tetThresholdReset => true
  | .guardSilenceEnd => true
  | .heartbeatDue => true
  | .censusAnswerDue => true
  | .addrListenEnd => true
  | .addrHold _ => true
  | .addrRelisten => true
  | .levelAlarmStart => true
  | .levelAlarmEnd => true
  | .mktRefreshDue => true
  | .bidRetry => true
  | .tentmaxExpiry => true
  | .isrcHoldEnd => true
  | .cutoffReturn => true
  | .stallWriteback _ => true
  | .tallyWindowExpiry => true
  | .lgrReadDone => true
  | .supplyEarlyWarning _ _ => true
  | .cmdReplay => true
  | .ccRpDetect => true
  | .attachwaitAbandon _ => true
  | .bc12Start => true
  | .pdRequestRetry => true
  | .pdRefusalExpiry => true
  | .bistCarrierEnd => true
  | .hardResetRx => true
  | .pdSenderResponseTimeout => true
  | .pdSinkWaitCapTimeout => true
  | .pdPsTransitionTimeout => true
  | .pdReceiveTimeout => true
  | .pdNoResponse => true
  | .pdHardResetVbusTimeout => true
  | .ppsKeepalive => true
  | .fallbackRequest => true
  | .usbConnect => true
  | .usbNohost => true
  | .usbSuspend => true
  | .getConfiguration => true
  | .getInterface => true
  | .setInterface => true
  | .usbStalledRequest => true
  | .getInfo => true
  | .abort => true
  | .uartFrameGap => true
  | .fwActivateResume => true
  | .sessionTimeout => true
  | .svcLockoutExpiry => true
  | .floorRaise _ => true
  | .optListenTimeout => true
  | .optFrameRx l => decide (l.length ≤ 1072)
  | .optFrameError l => decide (l.length ≤ 1072)
  | .twbAwakeExpiry => true
  | .twbPushDue => true
  | .twbPushDone => true
  | .twbPushFail => true
  | .twbArbLost => true
  | .eepromPageAck => true
  | .eepromPageTimeout => true
  | .groupWriteHoldTimeout => true
  | .keyTimeout => true
  | .cfgHoldExpiry => true
  | .aonWriteApply => true
  | .snapUpdateAtStop => true
  | .xtalSwitch => true
  | .syncTxDue => true
  | .hwdWarn => true
  | .hwdExpire => true
  | .pwdWarn => true
  | .pwdExpire => true
  | .pwdSlotStable => true
  | .thmFactorRise => true
  | .thmRestart => true
  | .hushClearRepeat => true
  | .tsinktxExpiry => true
  | .chunkingNotSupportedExpiry => true
  | .collapseDetachTimeout => true
  | .freshAttachDebounce _ => true

end Sys2Proof
end

