-- ==== Sys2Proof/Tests/Slice0.lean ====
section
/-!
SUPPORT. Tests: operands that WellFormed refuses, the spec's worked examples, one step each, and for every obligation with
hypotheses a state and operands that meet them.
-/

set_option Elab.async false
set_option linter.unusedVariables false

namespace Sys2Proof.Tests

open Sys2Proof.Machine

/-! ## WellFormed: for each check a command it refuses, beside one it admits -/

theorem wf_bus : (Instr.twbPecWrite 128 0 [] 0).wellFormed = false ∧ (Instr.twbPecWrite 0x58 0 [] 0).wellFormed = true := by
  decide

theorem wf_via :
    (Instr.sysResetWarm (.portH 128)).wellFormed = false ∧ (Instr.sysResetWarm (.portH 0x5B)).wellFormed = true := by decide

theorem wf_ptr : (Instr.regRead ⟨.usb, true, 0⟩ 65536 1).wellFormed = false ∧
    (Instr.regRead ⟨.usb, true, 0⟩ 0xC000 1).wellFormed = true := by decide

theorem wf_reg : (Instr.setAliasWrite .firmware 16384 0).wellFormed = false ∧
    (Instr.setAliasWrite .firmware 0x0702 0).wellFormed = true := by decide

theorem wf_peer : (Instr.alarmFrameRx 64 0 [] ⟨300, 20⟩).wellFormed = false ∧
    (Instr.alarmFrameRx 63 0 [] ⟨300, 20⟩).wellFormed = true := by decide

theorem wf_data : (Instr.alarmFrameRx 3 0 (List.replicate 9 0) ⟨300, 20⟩).wellFormed = false ∧
    (Instr.alarmFrameRx 3 0 (List.replicate 8 0) ⟨300, 20⟩).wellFormed = true := by decide

theorem wf_frame : (Instr.tetFrameSent ⟨8, 0, 0, []⟩).wellFormed = false ∧
    (Instr.tetFrameSent ⟨7, 63, 3, []⟩).wellFormed = true := by decide

theorem wf_nibble :
    (Instr.bistRx ⟨2, 0⟩ 16).wellFormed = false ∧ (Instr.bistRx ⟨2, 0⟩ 8).wellFormed = true := by decide

theorem wf_byte :
    (Instr.wbCmdUnknown 256).wellFormed = false ∧ (Instr.wbCmdUnknown 255).wellFormed = true := by decide

theorem wf_word : (Instr.powerOnResetRelease 65536 0 0 false).wellFormed = false ∧
    (Instr.powerOnResetRelease 65535 0 0 false).wellFormed = true := by decide

theorem wf_long : (Instr.openSession ⟨.usb, true, 0⟩ 4294967296).wellFormed = false ∧
    (Instr.openSession ⟨.usb, true, 0⟩ 4294967295).wellFormed = true := by decide

theorem wf_seq : (Instr.lgrRead ⟨.usb, true, 0⟩ 1099511627776 0 1).wellFormed = false ∧
    (Instr.lgrRead ⟨.usb, true, 0⟩ 1099511627775 0 1).wellFormed = true := by decide

theorem wf_time : (Instr.syncRx 0 281474976710656 0 ⟨300, 20⟩).wellFormed = false ∧
    (Instr.syncRx 0 281474976710655 0 ⟨300, 20⟩).wellFormed = true := by decide

theorem wf_code : (Instr.warmReset 7).wellFormed = false ∧ (Instr.warmReset 6).wellFormed = true := by decide

theorem wf_bun :
    (Instr.closeSession ⟨.usb, true, 65536⟩).wellFormed = false ∧ (Instr.closeSession ⟨.usb, true, 65535⟩).wellFormed = true := by
  decide

theorem wf_chunk : (Instr.imgStage ⟨.usb, true, 0⟩ 0 (List.replicate 513 0)).wellFormed = false ∧
    (Instr.imgStage ⟨.usb, true, 0⟩ 0 (List.replicate 512 0)).wellFormed = true := by decide +kernel

theorem wf_header : (Instr.acceptRx ⟨3, 0⟩).wellFormed = false ∧ (Instr.acceptRx ⟨2, 7⟩).wellFormed = true := by decide

theorem wf_objects : (Instr.sourceCapabilitiesRx ⟨2, 0⟩ [] false).wellFormed = false ∧
    (Instr.sourceCapabilitiesRx ⟨2, 0⟩ [0x0001912C] false).wellFormed = true := by decide

theorem wf_meter : (Instr.vwbEarlyWarning ⟨0, []⟩).wellFormed = false ∧
    (Instr.vwbEarlyWarning ⟨0, List.replicate 7 0⟩).wellFormed = true := by decide

/-! ## States to start from -/

/-- A running unit with nothing attached: image applied, policy core running. -/
def live : State :=
  { State.reset with phase := .run, boot := { Boot.reset with applied := true, core := true } }

/-- A Stall entry of zeros but for the bytes named. -/
def stallEntry (a : Nat) (l : List (Nat × Nat)) : StallCell :=
  ⟨a, (List.range 64).map fun i => byte (((l.find? fun p => p.1 == i).map (·.2)).getD 0), false⟩

/-- A running unit at address 5 that takes part in the market: peer 9 offers 24 W under generation 7. -/
def trader : State :=
  { ((((((live.setField F.TET_ADDR_ADDR 5).setFlag F.TET_ADDR_HELD true).setFlag F.TET_STATUS_UP true).setFlag
      F.MKT_CFG_EN true).setFlag F.MKT_CFG_OFFER_EN true).setFlag F.MKT_CFG_BID_EN true) with
    link := { Link.reset with txOn := true },
    mkt := { Mkt.reset with cache := [stallEntry 5 [(0, 4)], stallEntry 9 [(13, 7), (14, 2), (16, 9), (17, 0x60), (18, 9), (19, 0x60)]] } }

/-- A running unit with a session open on USB and the Ledger ready. -/
def serving : State :=
  { (live.setField F.USB_STATUS_STATE 3).setFlag F.LGR_STATUS_READY true with
    svc := { Svc.reset with session := some ⟨.usb, true, 1000000000⟩ } }

/-- A running QTL6410 attached as a sink to a 3.0 A source of Revision 3.x, with VBUS qualified. -/
def attached : State :=
  { (((live.setField F.TC_STATUS_TCSTATE 2).setField F.TC_STATUS_ADV 3).setField F.PD_STATUS_REV 2).setFlag F.SRC_STATUS_VBUS_Q true with
    now := 100000, path := { live.path with qualAt := [(.vbus, 0)] }, pd := { Pd.reset with sinkTxAt := some 0, seen := true } }

/-- A Request for the 9 V object of a source, 2.0 A. -/
def request9V : PdReq := ⟨2, 0x2D0C8, 0x230320C8, 9000, 200, 0, true⟩

/-- A running QTL6410 whose USB device function is connected and configured. -/
def connected : State :=
  ((attached.setFlag F.USB_CFG_EN true).setFlag F.USB_STATUS_PULLUP true).setField F.USB_STATUS_STATE 3

/-- A running unit whose SYS clock the host keeps awake. -/
def hosted : State := live.setFlag F.TWB_STATUS_AWAKE true

/-- A running unit with a key armed by the firmware. -/
def keyed (a : Nat) (v : Word) : State := { live with ra := { live.ra with keys := [⟨.firmware, a, v, 0⟩] } }

/-- A configuration image of generation 2, counter 2, for a 4-cell lithium part: header and body. -/
def goodImage : List Byte :=
  [0x51, 0x54, 0x4C, 0x43, 2, 4, 5, 0, 0, 0, 0, 11, 0, 0, 0, 2, 0, 0, 0, 0, 0, 0, 0, 0, 0, 0, 0, 0, 63, 11, 244, 83,
   1, 4, 1, 2, 88, 20, 2, 3, 3, 5, 0]

/-- A unit with that image staged. -/
def staged : State :=
  { live with boot := { live.boot with stage := (goodImage.zipIdx.filter fun p => p.1 ≠ 0).map fun p => (p.2, p.1) } }

/-- A unit in its image step, with nothing read yet. -/
def starting : State := { State.reset with phase := .startup }

/-- A running unit whose SYS clock the host keeps awake, and whose Ledger takes a command at once. -/
def accepting : State := hosted.setFlag F.LGR_STATUS_READY true

/-- The state a command leads to. -/
def after (c : Instr) (s : State) : State :=
  match exec c s with
  | .next t => t
  | _ => s

/-! ## Worked examples of the spec -/

/-- The check value of R15: the bytes 0x31 to 0x39 give 0x29B1. -/
theorem crc16_check : crc16 [0x31, 0x32, 0x33, 0x34, 0x35, 0x36, 0x37, 0x38, 0x39] = 0x29B1 := by decide +kernel

/-- R37 at the default t_DISC of 50 ms: N is 1,639 samples. -/
theorem disc_samples : msTicks 50 = 1639 := by decide

/-- One sample short of N a disagreement is counted and ignored, with N it is a fault (R37, R38, R40). -/
theorem disc_boundary :
    (after (.discGlitch 1638) live).reg R.ALM_GLITCHCNT = 1 ∧ (after (.discGlitch 1639) live) = live ∧
      (after (.discFault .alma 1639) live).flag F.ALM_STATUS_DISCF = true := by decide +kernel

/-- A WB_PERIODIC record of 84 bytes takes 4 slots under class/type 0x8501 (R290, R291). -/
theorem periodic_slots : slotsFor 84 = 4 ∧ classType 2 5 1 = 0x8501 := by decide

/-- The two-cell LiFePO4 unit of R160's example. -/
def ballasted : State :=
  { ((((live.setReg R.CHG_BAL_PSTBY 120).setReg R.CHG_BAL_TSTBY 72).setReg R.CHG_BAL_PALM 5000).setReg R.CHG_BAL_TALM 10) with
    boot := { live.boot with chem := 1, image := some ⟨1, 600, 20, 3, 5, false, false, 0⟩ },
    vdt := { live.vdt with cNow := some 3648000 } }

/-- At −10 °C: CHG_BALLAST reads 1,150 mWh, CHG_BALSOC 32.2 %, CHG_TGT 37.0 % (R160). -/
theorem ballast_example :
    ceilDiv ballasted.ballastNum (ballasted.ballastDen (-10)) = 1150 ∧ ballasted.ballastSoc (-10) 0 = some 322 ∧
      ballasted.ballastSoc (-10) (ballasted.regN R.CHG_BAL_MARGIN) = some 370 := by decide +kernel

/-- A 6.04 kΩ strap, and both ends of its readings, give code 6 (R501). -/
theorem strap_example : chemCode 604 = some 6 ∧ chemCode 577 = some 6 ∧ chemCode 632 = some 6 := by decide

/-- The objects of R342's example, as a source sends them. -/
def offered : State :=
  (((((attached.setRegs R.PD_SRCPDO0 [0x0001, 0x912C, 0x0002, 0xD12C, 0x0004, 0xB12C, 0x0006, 0x40E1, 0xC0DC, 0x213C]).setReg
    R.PD_SRCPDOCNT 5).setReg R.PD_PMAX 300).setReg R.PD_IMAX 200).setReg R.PD_FB_VMAX 90).setFlag F.PD_CFG_PPS_EN true

/-- The firmware asks for object 3 at 2.00 A, the fallback engine under 9.0 V for object 2 (R341, R342). -/
theorem object_example :
    (offered.fwChoice.map fun r => (r.pos, r.ma)) = some (3, 200) ∧
      ((offered.fbChoice 9000).map fun r => (r.pos, r.ma)) = some (2, 200) := by decide +kernel

/-- A bit that arrives during a clearing read stays (R421, R422, R425). -/
theorem clearing_read :
    let t := after (.rcRegisterRead (.portH 0x58) (some R.ALM_EVENT) 1 0x0004) (hosted.setReg R.ALM_EVENT 0x0040)
    t.ra.readData = [0x0040] ∧ t.reg R.ALM_EVENT = 0x0004 := by decide +kernel

/-- A compact burst across a page change (R419, R420): PAGESEL first, then ALM_STATUS, which ignores it. -/
theorem compact_burst :
    let s := { (hosted.setReg R.TWB_ADDR1 0x01D9).setReg R.PAGESEL 5 with twb := { hosted.twb with addr1 := 0x01D9 } }
    let t := after (.registerWrite (.portH 0x59) 0x7F [0x0007, 0x000E] none) s
    t.reg R.PAGESEL = 7 ∧ t.reg R.ALM_STATUS = s.reg R.ALM_STATUS := by decide +kernel

/-- Raising the VIN limit from the host: 0x0064 is clamped to the window's 0x0050, and PEND is set (R89, R433). -/
theorem clamped_limit :
    let s := { hosted with ra := { hosted.ra with hostLims := [⟨R.SRC_VIN_ILIM, 0x01FF, 0x0032, 0x0050⟩], refSet := true } }
    let t := after (.registerWrite (.portH 0x58) R.SRC_VIN_ILIM [0x0064] none) s
    t.reg R.SRC_VIN_ILIM = 0x0050 ∧ t.flag F.CFG_STATUS_PEND = true ∧ t.flag F.CFG_STATUS_DENIED = false := by
  decide +kernel

/-- A die whose sensors read this, in 0.25 °C. -/
def heated (x : Int) : State := after (.thmReading (List.replicate 7 (some x))) (live.setField F.THM_FACTOR_F 100)

/-- A hot converter at the defaults: F is 0.64 at 119.5 °C, 0.36 at 123.0 °C and 0 at 127.5 °C (R461). -/
theorem heat_factors :
    (heated 478).field F.THM_FACTOR_F = 64 ∧ (heated 492).field F.THM_FACTOR_F = 36 ∧ (heated 510).field F.THM_FACTOR_F = 0 := by
  decide +kernel

/-- A frame with k data bytes: the identifier as R227 packs it. -/
theorem identifier_packing : frameIdent ⟨7, 63, 3, []⟩ = 0x7FF ∧ frameIdent ⟨1, 5, 2, []⟩ = 0x116 := by decide

/-- Without a key the complement of SYS_RESET is refused; with it the warm reset follows (R428). -/
theorem keyed_reset :
    (after (.keyArm (.portH 0x58) R.SYS_RESET 1) hosted).ra.keys.map (fun k => (k.addr, k.value)) = [(R.SYS_RESET, 1)] ∧
      (after (.sysResetWarm (.portH 0x58)) hosted).reg R.SYS_RSTCAUSE = hosted.reg R.SYS_RSTCAUSE := by decide +kernel

/-- On the QTL6412 an empty page 0x0B reads 0x0000, and PAGESEL stands there as on every page (R3, R419). -/
theorem empty_page :
    (after (.rcRegisterRead .firmware (some R.PD_VMAX) 1 0) { live with part := .qtl6412 }).ra.readData = [0] ∧
      (after (.pageselWrite .firmware 3) { live with part := .qtl6412 }).reg R.PAGESEL = 3 := by decide +kernel

/-- The front command is carried out, and then the queue is empty. -/
theorem front_command :
    (match step { live with pending := [.pageselWrite .firmware 4] } with
      | .next t => (t.reg R.PAGESEL == 4) && t.pending.isEmpty
      | _ => false) = true := by decide +kernel

/-! ## What meets the hypotheses of the obligations -/

theorem met_by_steps : State.reset.canonical = true ∧ State.reset.pending = [] ∧
    live.canonical = true := by decide +kernel

theorem met_by_frames : ∃ (c : Instr) (s t : State) (f : Facet) (l : List Nat),
    exec c s = .next t ∧ f ∉ c.facets ∧ c.registers = some l :=
  ⟨.idealDiodeConduct 3300 3600 500, live, after (.idealDiodeConduct 3300 3600 500) live, .wb, _, rfl, by decide, rfl⟩

/-- FIFOs that have no room: class A of producer 1, class B of producer 6, which the firmware hands over. -/
def crowded : State :=
  { live with lgr := { live.lgr with waiting := List.replicate 16 ⟨1, 1, 1, []⟩ ++ List.replicate 16 ⟨2, 6, 0, []⟩ } }

theorem met_by_posting : live.roomFor K.ALARM_START ∧
    (∃ k : Kind, crowded.ledgerDead = false ∧ crowded.lgr.hasRoom k.cls k.prod = false ∧ firmwareProducer k.prod = true ∧
      k.cls = 2) ∧
    ∃ k : Kind, crowded.ledgerDead = false ∧ crowded.lgr.hasRoom k.cls k.prod = false ∧
      (firmwareProducer k.prod && k.cls == 2) = false ∧ (∀ a ∈ crowded.lgr.accs, a.ct ≠ classType k.cls k.prod k.typ) ∧
      crowded.lgr.accs.length < 24 :=
  ⟨by decide +kernel, ⟨⟨2, 6, 0⟩, by decide +kernel⟩, ⟨⟨1, 1, 1⟩, by decide +kernel⟩⟩

theorem met_by_address_strap :
    ∃ (s : State) (chemR addrR bat : Nat) (source : Bool), s.phase = .off ∧ (source ∨ 2800 ≤ bat) :=
  ⟨State.reset, 137, 2000, 3000, false, by decide +kernel, by decide +kernel⟩

theorem met_by_page_select :
    (∃ (s : State) (cause : Nat), s.live) ∧
    (∃ (s : State) (chemR addrR bat : Nat) (source : Bool), s.phase = .off ∧ (source ∨ 2800 ≤ bat)) :=
  ⟨⟨live.setReg R.PAGESEL 5, 3, by decide +kernel⟩,
  ⟨State.reset.setReg R.PAGESEL 5, 137, 2000, 3000, false, by decide +kernel, by decide +kernel⟩⟩

theorem met_by_alias_reads :
    (∃ (s : State) (via : Via) (ptr : Option Nat) (n : Nat) (late : Word) (form a : Nat), s.live ∧ 1 ≤ form ∧ form ≤ 3 ∧
      a < 16384 ∧ ptr = some (form * 16384 + a) ∧ s.reaches via form a ∧ n = 1 ∧ s.ra.snapWait = none) ∧
    (∃ (s : State) (via : Via) (ptr : Option Nat) (n : Nat) (late : Word) (form a : Nat), s.live ∧ form ≤ 3 ∧ a < 16384
      ∧ ptr = some (form * 16384 + a) ∧ s.reaches via form a ∧ n = 1 ∧ (∃ r ∈ s.info a, r.access = .wo) ∧ (∀ x ∈
      s.ra.latched, x.2.1 = a → x.2.2 = 0)) :=
  ⟨⟨hosted.setReg R.TET_EVENT 0x104, .firmware, some (2 * 16384 + R.TET_EVENT), 1, 4, 2, R.TET_EVENT, by decide +kernel,
    by decide +kernel, by decide +kernel, by decide +kernel, by decide +kernel, by decide +kernel, by decide +kernel, by
    decide +kernel⟩,
  ⟨hosted, .firmware, some R.CHG_CTRL, 1, 4, 0, R.CHG_CTRL, by decide +kernel, by decide +kernel, by decide +kernel, by
    decide +kernel, by decide +kernel, by decide +kernel, by decide +kernel, by decide +kernel⟩⟩

theorem met_by_ineffective_writes :
    ∃ (s : State) (via : Via) (ptr : Nat) (data : List Word) (half : Option Byte), s.live ∧ ptr < 16384 ∧ s.reaches via
      0 ptr ∧ data.length = 1 ∧ half = none ∧ s.ra.snapWait = none ∧ ((s.info ptr = none ∧ ptr ∉ keyedRegs ∧ ptr - 1 ∉
      keyedRegs) ∨ (∃ r ∈ s.info ptr, r.access = .ro ∧ r.pol = false) ∨ (∃ r ∈ s.info ptr, r.pol ∧ via.req ≠ .firmware))
      :=
  ⟨hosted, .firmware, R.TET_STATUS, [0xFFFF], none, by decide +kernel, by decide +kernel, by decide +kernel, by
    decide +kernel, by decide +kernel, by decide +kernel, by decide +kernel⟩

theorem met_by_alarm_channels :
    (∃ (s : State), s.live) ∧
    (∃ (s : State), s.live ∧ s.elapsed s.alm.sysReq ∧ s.flag F.ALM_STATUS_LOCAL = false ∧ s.flag F.ALM_STATUS_DISCF =
      false) ∧
    (∃ (s : State) (samples : Nat), s.live ∧ s.flag F.ALM_STATUS_VAUXHOLD = false ∧ 1 ≤ samples ∧ samples <
      s.discThreshold samples) ∧
    (∃ (s : State) (ch : Channel) (samples : Nat), s.live ∧ s.flag F.ALM_STATUS_VAUXHOLD = false ∧ s.discThreshold
      samples ≤ samples ∧ s.alm.disc = none) ∧
    (∃ (s : State) (ch : Channel) (samples : Nat) (d : Disc), s.live ∧ s.flag F.ALM_STATUS_VAUXHOLD = false ∧
      s.discThreshold samples ≤ samples ∧ s.alm.disc = some d) ∧
    (∃ (s : State), s.live ∧ s.bcastDue) ∧
    (∃ (s : State) (d : Disc), s.live ∧ s.flag F.ALM_STATUS_DISCF ∧ (s.flag F.ALM_STATUS_VAUXHOLD = false ∨
      s.alm.vauxLost) ∧ s.alm.disc = some d ∧ d.last + 32768 ≤ s.now) :=
  ⟨⟨live, by decide +kernel⟩,
  ⟨{ live with alm := { live.alm with sysReq := some 0 } }, by decide +kernel, by decide +kernel, by decide +kernel, by
    decide +kernel⟩,
  ⟨live, 1, by decide +kernel, by decide +kernel, by decide +kernel, by decide +kernel⟩,
  ⟨live, .alma, 40000, by decide +kernel, by decide +kernel, by decide +kernel, by decide +kernel⟩,
  ⟨{ live with alm := { live.alm with disc := some ⟨0, 5, some 0, 0⟩ } }, .alma, 40000,
    ({ live with alm := { live.alm with disc := some ⟨0, 5, some 0, 0⟩ } }).alm.disc.getD ⟨0, 0, none, 0⟩, by
    decide +kernel, by decide +kernel, by decide +kernel, by decide +kernel⟩,
  ⟨{ live.setFlag F.ALM_STATUS_ALMA true with alm := { live.alm with disc := some ⟨0, 0, some 0, 0⟩ } }.setFlag
    F.ALM_STATUS_ALMB true, by decide +kernel, by decide +kernel⟩,
  ⟨{ live.setFlag F.ALM_STATUS_DISCF true with now := 40000, alm := { live.alm with disc := some ⟨0, 5, none, 0⟩ } },
    ({ live.setFlag F.ALM_STATUS_DISCF true with now := 40000, alm := { live.alm with disc := some ⟨0, 5, none, 0⟩ } }).alm.disc.getD
    ⟨0, 0, none, 0⟩, by decide +kernel, by decide +kernel, by decide +kernel, by decide +kernel, by decide +kernel⟩⟩

theorem met_by_local_alarm :
    (∃ (s : State), s.live ∧ s.flag F.ALM_STATUS_LOCAL = false ∧ s.flag F.ALM_STATUS_VAUXHOLD = false) ∧
    (∃ (s : State) (vhorn : Nat), s.live ∧ s.flag F.CONV_STATUS_HORN_ON ∧ 90 * s.power.regN R.CONV_HORN_V ≤ vhorn) ∧
    (∃ (s : State) (vhorn vsys : Nat) (from_ : Nat), s.live ∧ s.flag F.CONV_STATUS_HORN_ON ∧ s.flag F.ALM_STATUS_HORN_OK
      = false ∧ s.alm.hornFrom = some from_ ∧ from_ + msTicks 3 ≤ s.now) ∧
    (∃ (s : State) (start : Nat), s.live ∧ s.elapsed s.alm.copyDue ∧ s.alm.start = some start) ∧
    (∃ (s : State) (start : Nat), s.live ∧ s.flag F.ALM_STATUS_LOCAL ∧ s.flag F.ALM_STATUS_VAUXHOLD = false ∧
      s.alm.start = some start) ∧
    (∃ (s : State), s.live ∧ s.elapsed s.alm.hornHold) ∧
    (∃ (s : State) (from_ : Nat), s.live ∧ s.flag F.ALM_STATUS_VAUXHOLD ∧ s.alm.vauxLost = false ∧ s.alm.vauxHold = some
      from_ ∧ from_ + secTicks 60 ≤ s.now) :=
  ⟨⟨live, by decide +kernel, by decide +kernel, by decide +kernel⟩,
  ⟨live.setFlag F.CONV_STATUS_HORN_ON true, 30000, by decide +kernel, by decide +kernel, by decide +kernel⟩,
  ⟨{ live.setFlag F.CONV_STATUS_HORN_ON true with now := 200, alm := { live.alm with hornFrom := some 0 } }, 7000, 4000,
    ({ live.setFlag F.CONV_STATUS_HORN_ON true with now := 200, alm := { live.alm with hornFrom := some 0 } }).alm.hornFrom.getD
    0, by decide +kernel, by decide +kernel, by decide +kernel, by decide +kernel, by decide +kernel⟩,
  ⟨{ live with now := 2000, alm := { live.alm with start := some 0, copies := 1, copyDue := some 656 } },
    ({ live with now := 2000, alm := { live.alm with start := some 0, copies := 1, copyDue := some 656 } }).alm.start.getD
    0, by decide +kernel, by decide +kernel, by decide +kernel⟩,
  ⟨{ (live.setFlag F.ALM_STATUS_LOCAL true).setFlag F.SYS_STATE_ALARM true with now := 99999, alm := { live.alm with start := some 0, copies := 3, sent := 3 } },
    ({ (live.setFlag F.ALM_STATUS_LOCAL true).setFlag F.SYS_STATE_ALARM true with now := 99999, alm := { live.alm with start := some 0, copies := 3, sent := 3 } }).alm.start.getD
    0, by decide +kernel, by decide +kernel, by decide +kernel, by decide +kernel⟩,
  ⟨{ live.setFlag F.CONV_STATUS_HORN_ON true with alm := { live.alm with hornHold := some 0 } }, by decide +kernel, by
    decide +kernel⟩,
  ⟨{ live.setFlag F.ALM_STATUS_VAUXHOLD true with now := secTicks 61, alm := { live.alm with vauxHold := some 0 } },
    ({ live.setFlag F.ALM_STATUS_VAUXHOLD true with now := secTicks 61, alm := { live.alm with vauxHold := some 0 } }).alm.vauxHold.getD
    0, by decide +kernel, by decide +kernel, by decide +kernel, by decide +kernel, by decide +kernel⟩⟩

theorem met_by_remote_alarm :
    (∃ (s : State) (addr kind : Nat) (data : List Byte) (c : Carrier), s.receives ∧ addr < 64 ∧ data.length = 1 ∧ kind <
      3 ∧ s.ownAddr ≠ some addr ∧ s.link.cand ≠ some addr) ∧
    (∃ (s : State) (addr : Nat) (data : List Byte) (c : Carrier), s.receives ∧ addr < 64 ∧ data.length = 0) ∧
    (∃ (s : State) (addr : Nat) (r : Remote), s.live ∧ (s.alm.remotes.find? (fun r : Remote => r.addr == addr) = some r)
      ∧ r.last + secTicks 5 ≤ s.now ∧ addr < 64) ∧
    (∃ (s : State), s.live) ∧
    (∃ (s : State) (addr : Nat) (data : List Byte) (c : Carrier), s.receives ∧ addr < 64 ∧ data.length = 0) ∧
    (∃ (s : State), s.live ∧ s.elapsed s.alm.hushDue) ∧
    (∃ (s : State) (sub due : Nat), s.live ∧ (s.alm.repeats.find? (fun r : Nat × Nat => decide (r.2 ≤ s.now)) = some
      (sub, due))) :=
  ⟨⟨live.setFlag F.TET_STATUS_UP true, 7, 1, [0x80], ⟨400, 10⟩, by decide +kernel, by decide +kernel, by decide +kernel,
    by decide +kernel, by decide +kernel, by decide +kernel⟩,
  ⟨({ live with alm := { live.alm with remotes := [⟨7, 0, 0⟩] } }.setFlag F.TET_STATUS_UP true).setMapBit R.ALM_ORIGIN0
    7 true, 7, [], ⟨400, 10⟩, by decide +kernel, by decide +kernel, by decide +kernel⟩,
  ⟨{ live with now := secTicks 7, alm := { live.alm with remotes := [⟨7, 0, 0⟩] } }, 7,
    (({ live with now := secTicks 7, alm := { live.alm with remotes := [⟨7, 0, 0⟩] } }).alm.remotes.find? (fun r :
    Remote => r.addr == 7)).getD ⟨0, 0, 0⟩, by decide +kernel, by decide +kernel, by decide +kernel, by decide +kernel⟩,
  ⟨live.setFlag F.SYS_STATE_ALARM true, by decide +kernel⟩,
  ⟨live.setFlag F.TET_STATUS_UP true, 7, [], ⟨400, 10⟩, by decide +kernel, by decide +kernel, by decide +kernel⟩,
  ⟨{ live with alm := { live.alm with hushDue := some 0 } }, by decide +kernel, by decide +kernel⟩,
  ⟨{ live with alm := { live.alm with repeats := [(0, 0)] } },
    (({ live with alm := { live.alm with repeats := [(0, 0)] } }).alm.repeats.headD (0, 0)).1,
    (({ live with alm := { live.alm with repeats := [(0, 0)] } }).alm.repeats.headD (0, 0)).2, by decide +kernel, by
    decide +kernel⟩⟩

theorem met_by_converter_tether :
    (∃ (s : State) (vmux : Nat), s.live ∧ s.flag F.CONV_STATUS_MAIN_ON) ∧
    (∃ (s : State), s.live) ∧
    (∃ (s : State) (vtet : Nat), s.live ∧ s.field F.CONV_STATUS_TET_MODE = 3 ∧ vtet < 18000) ∧
    (∃ (s : State) (vtet ma : Nat), s.live ∧ s.field F.CONV_STATUS_TET_MODE = 3 ∧ vtet < 12000) ∧
    (∃ (s : State), s.live ∧ s.elapsed s.conv.shortRetry) ∧
    (∃ (s : State) (vhorn ma : Nat), s.live ∧ s.flag F.ALM_STATUS_HSW) ∧
    (∃ (s : State), s.live ∧ s.elapsed s.alm.hswOpenDue) ∧
    (∃ (s : State) (vsys : Nat), s.live) ∧
    (∃ (s : State) (vaux : Nat), s.live ∧ 10 * vaux < 9 * s.vauxSet) ∧
    (∃ (s : State) (vaux : Nat), s.live ∧ s.pins.nrsto = false ∧ s.nrstFree ∧ 9 * s.vauxSet ≤ 10 * vaux) ∧
    (∃ (s : State) (vaux : Nat), s.live ∧ s.conv.auxRetry = none ∧ s.conv.auxOff = false ∧ 2 * vaux < s.vauxSet) ∧
    (∃ (s : State), s.live ∧ s.elapsed s.conv.auxRetry) ∧
    (∃ (s : State) (vsys : Nat), s.live) ∧
    (∃ (s : State) (bat : Nat), bat < 1800) :=
  ⟨⟨live.setFlag F.CONV_STATUS_MAIN_ON true, 12000, by decide +kernel, by decide +kernel⟩,
  ⟨(live.setFlag F.TET_STATUS_UP true).setFlag F.SRC_STATUS_TET_Q true, by decide +kernel⟩,
  ⟨live.setField F.CONV_STATUS_TET_MODE 3, 17000, by decide +kernel, by decide +kernel, by decide +kernel⟩,
  ⟨live.setField F.CONV_STATUS_TET_MODE 3, 9000, 400, by decide +kernel, by decide +kernel, by decide +kernel⟩,
  ⟨{ live with conv := { live.conv with shortRetry := some 0 } }, by decide +kernel, by decide +kernel⟩,
  ⟨live.setFlag F.ALM_STATUS_HSW true, 20000, 900, by decide +kernel, by decide +kernel⟩,
  ⟨{ live with alm := { live.alm with hswOpenDue := some 0 } }, by decide +kernel, by decide +kernel⟩,
  ⟨live, 2900, by decide +kernel⟩,
  ⟨live, 1000, by decide +kernel, by decide +kernel⟩,
  ⟨live, 3300, by decide +kernel, by decide +kernel, by decide +kernel, by decide +kernel⟩,
  ⟨live, 500, by decide +kernel, by decide +kernel, by decide +kernel, by decide +kernel⟩,
  ⟨{ live with conv := { live.conv with auxRetry := some 0 } }, by decide +kernel, by decide +kernel⟩,
  ⟨live, 2500, by decide +kernel⟩,
  ⟨live.setFlag F.CONV_KEEP_EN true, 1700, by decide +kernel⟩⟩

theorem met_by_source_qualifies :
    ∃ (s : State) (x : Source) (mv ticks : Nat), s.live ∧ s.qualified x = false ∧ s.rested x ∧ s.inWindow x mv ∧
      s.holdTicks x ≤ ticks :=
  ⟨live, .vin, 12000, 40000, by decide +kernel, by decide +kernel, by decide +kernel, by decide +kernel, by
    decide +kernel⟩

theorem met_by_source_lost :
    (∃ (s : State) (x : Source) (mv : Nat), s.live ∧ x ≠ .tether ∧ s.qualified x ∧ mv < s.collapseAt x) ∧
    (∃ (s : State) (x : Source) (mv vmux : Nat), s.live ∧ x ≠ .tether ∧ s.qualified x ∧ mv + 30 < vmux ∧ (s.path.closed
      = some x ∨ s.path.target = some x)) ∧
    (∃ (s : State) (x : Source) (mv : Nat), s.live ∧ x ≠ .tether ∧ s.qualified x ∧ overAt x < mv) ∧
    (∃ (s : State) (mv uw ticks : Nat), s.live ∧ uw < 5000 ∧ secTicks 60 ≤ ticks ∧ s.path.closed = some .vpv ∧
      s.qualified .vpv) ∧
    (∃ (s : State) (vsys mv : Nat) (x : Source), s.live ∧ s.flag F.CONV_STATUS_MAIN_ON ∧ vsys + 300 < s.power.regN
      R.PATH_VSYSMIN * 100 ∧ s.path.closed = some x ∧ s.qualified x) :=
  ⟨⟨live.setFlag F.SRC_STATUS_VIN_Q true, .vin, 3900, by decide +kernel, by decide +kernel, by decide +kernel, by
    decide +kernel⟩,
  ⟨{ live.setFlag F.SRC_STATUS_VIN_Q true with path := { live.path with closed := some .vin } }, .vin, 12000, 12031, by
    decide +kernel, by decide +kernel, by decide +kernel, by decide +kernel, by decide +kernel⟩,
  ⟨live.setFlag F.SRC_STATUS_VPV_Q true, .vpv, 19020, by decide +kernel, by decide +kernel, by decide +kernel, by
    decide +kernel⟩,
  ⟨{ live.setFlag F.SRC_STATUS_VPV_Q true with path := { live.path with closed := some .vpv } }, 9000, 4999, secTicks
    60, by decide +kernel, by decide +kernel, by decide +kernel, by decide +kernel, by decide +kernel⟩,
  ⟨{ (live.setFlag F.SRC_STATUS_VIN_Q true).setFlag F.CONV_STATUS_MAIN_ON true with path := { live.path with closed := some .vin } },
    2000, 12000,
    ({ (live.setFlag F.SRC_STATUS_VIN_Q true).setFlag F.CONV_STATUS_MAIN_ON true with path := { live.path with closed := some .vin } }).path.closed.getD
    .vin, by decide +kernel, by decide +kernel, by decide +kernel, by decide +kernel, by decide +kernel⟩⟩

theorem met_by_changeover :
    (∃ (s : State) (y : Source × Source), s.live ∧ s.planTarget = some y) ∧
    (∃ (s : State) (vmux src : Nat) (x : Source), s.live ∧ s.path.target = some x ∧ s.path.closing = false ∧
      s.path.rampDue = none ∧ s.path.retryDue = none ∧ safeLow vmux src) ∧
    (∃ (s : State) (vmux src : Nat) (x : Source), s.live ∧ s.path.target = some x ∧ s.path.closing = false ∧
      s.path.rampDue = none ∧ s.path.retryDue = none ∧ safeLow vmux src = false) ∧
    (∃ (s : State) (vmux src : Nat), (s.path.target = none ∨ s.path.closing ∨ s.path.rampDue ≠ none ∨ s.path.retryDue ≠
      none)) ∧
    (∃ (s : State) (vmux : Nat) (x : Source), s.live ∧ s.elapsed s.path.dischDue ∧ s.path.closing = false ∧
      s.path.target = some x ∧ safeLow vmux (s.shownMv (voltReg x)) = false) ∧
    (∃ (s : State) (x : Source), s.live ∧ s.elapsed s.path.retryDue ∧ s.path.target = some x) ∧
    (∃ (s : State) (vmux us : Nat) (x : Source), s.live ∧ s.path.target = some x ∧ s.path.closing ∧ 9 * (s.regN (voltReg
      x) * 20) ≤ 10 * vmux ∧ s.flag F.PATH_STATUS_SYS_OVP = false) :=
  ⟨⟨{ ((live.setFlag F.SRC_STATUS_VIN_Q true).setFlag F.SRC_STATUS_VPV_Q true).setField F.SRC_STATUS_ACTIVE 3 with path := { live.path with closed := some .vpv } },
    ({ ((live.setFlag F.SRC_STATUS_VIN_Q true).setFlag F.SRC_STATUS_VPV_Q true).setField F.SRC_STATUS_ACTIVE 3 with path := { live.path with closed := some .vpv } }).planTarget.getD
    (.vin, .vin), by decide +kernel, by decide +kernel⟩,
  ⟨{ live with path := { live.path with target := some .vpv } }, 800, 900, .vpv, by decide +kernel, by decide +kernel,
    by decide +kernel, by decide +kernel, by decide +kernel, by decide +kernel⟩,
  ⟨{ live with path := { live.path with target := some .vpv } }, 12000, 900, .vpv, by decide +kernel, by decide +kernel,
    by decide +kernel, by decide +kernel, by decide +kernel, by decide +kernel⟩,
  ⟨live, 12000, 900, by decide +kernel⟩,
  ⟨{ live with path := { live.path with target := some .vpv, dischDue := some 0 } }, 12000, .vpv, by decide +kernel, by
    decide +kernel, by decide +kernel, by decide +kernel, by decide +kernel⟩,
  ⟨{ live.setReg R.PATH_VMUX 100 with path := { live.path with target := some .vpv, retryDue := some 0 } }, .vpv, by
    decide +kernel, by decide +kernel, by decide +kernel⟩,
  ⟨{ live with path := { live.path with target := some .vin, closing := true } }, 12000, 40, .vin, by decide +kernel, by
    decide +kernel, by decide +kernel, by decide +kernel, by decide +kernel⟩⟩

theorem met_by_battery_path :
    (∃ (s : State) (vsys bat ma : Nat), s.live ∧ s.flag F.PATH_STATUS_BATOPEN = false ∧ vsys + 100 ≤ bat) ∧
    (∃ (s : State), s.live ∧ s.flag F.SYS_STATE_FEED ∧ s.flag F.PATH_STATUS_SUPPLEMENT = false) ∧
    (∃ (s : State), s.live ∧ s.flag F.PATH_STATUS_SUPPLEMENT) ∧
    (∃ (s : State) (ma vsys : Nat), s.live ∧ s.flag F.PATH_STATUS_BATOPEN = false ∧ (s.power.regN R.PATH_BATOCP * 500 <
      ma ∨ vsys < 2000)) ∧
    (∃ (s : State), s.live ∧ s.elapsed s.path.batRetry) ∧
    (∃ (s : State) (vsys : Nat), s.live ∧ 18500 < vsys) ∧
    (∃ (s : State), s.live ∧ s.elapsed s.path.ovDue) ∧
    (∃ (s : State) (bat : Nat), s.live ∧ s.flag F.PATH_STATUS_LINEAR ∧ s.phaseN ≠ phAbsent ∧ s.power.regN R.PATH_VSYSMIN
      * 100 ≤ bat + 200) ∧
    (∃ (s : State) (up : Bool), s.live ∧ s.flag F.SRC_STATUS_TRACK ∧ s.vpvMode = 0) ∧
    (∃ (s : State), s.live ∧ s.path.closed = some .vpv ∧ s.elapsed s.path.ocNext ∧ s.plannedWaits = false) ∧
    (∃ (s : State) (mv : Nat), s.live ∧ s.elapsed s.path.ocDue ∧ s.path.closed = some .vpv) :=
  ⟨⟨live, 7500, 7600, 20, by decide +kernel, by decide +kernel, by decide +kernel⟩,
  ⟨live.setFlag F.SYS_STATE_FEED true, by decide +kernel, by decide +kernel, by decide +kernel⟩,
  ⟨live.setFlag F.PATH_STATUS_SUPPLEMENT true, by decide +kernel, by decide +kernel⟩,
  ⟨live, 60000, 7000, by decide +kernel, by decide +kernel, by decide +kernel⟩,
  ⟨{ live.setFlag F.PATH_STATUS_BATOPEN true with path := { live.path with batRetry := some 0 } }, by decide +kernel, by
    decide +kernel⟩,
  ⟨live, 18600, by decide +kernel, by decide +kernel⟩,
  ⟨{ live with path := { live.path with ovDue := some 0 } }, by decide +kernel, by decide +kernel⟩,
  ⟨(live.setFlag F.PATH_STATUS_LINEAR true).setField F.CHG_STATUS_PHASE 4, 7000, by decide +kernel, by decide +kernel,
    by decide +kernel, by decide +kernel⟩,
  ⟨{ (live.setField F.SRC_VPV_CFG_MODE 0).setFlag F.SRC_STATUS_TRACK true with path := { live.path with vpvTarget := 7600, voc := 10000 } },
    true, by decide +kernel, by decide +kernel, by decide +kernel⟩,
  ⟨{ live.setFlag F.SRC_STATUS_TRACK true with path := { live.path with closed := some .vpv, ocNext := some 0 } }, by
    decide +kernel, by decide +kernel, by decide +kernel, by decide +kernel⟩,
  ⟨{ live with path := { live.path with closed := some .vpv, ocDue := some 0 } }, 10000, by decide +kernel, by
    decide +kernel, by decide +kernel⟩⟩

theorem met_by_charger_detection :
    (∃ (s : State), s.live ∧ s.chgAllowed ∧ (s.phaseN = phOff ∨ (s.phaseN = phFault ∧ s.chg.fault = 0) ∨ (s.phaseN =
      phAbsent ∧ s.elapsed s.chg.absentDue))) ∧
    (∃ (s : State) (bat peak : Nat), s.live ∧ s.phaseN = phDetect ∧ (bat < s.series * 500 ∨ s.series * (s.regN
      R.CHG_VREG * 10 + 200) < peak)) ∧
    (∃ (s : State) (bat peak : Nat), s.live ∧ s.phaseN = phDetect ∧ s.series * 500 ≤ bat ∧ peak ≤ s.series * (s.regN
      R.CHG_VREG * 10 + 200)) ∧
    (∃ (s : State), s.live ∧ s.chgAllowed ∧ s.phaseN = phAbsent ∧ s.elapsed s.chg.absentDue) :=
  ⟨⟨live.setFlag F.CHG_CFG_EN true, by decide +kernel, by decide +kernel, by decide +kernel⟩,
  ⟨{ live.setField F.CHG_STATUS_PHASE 1 with chg := { live.chg with cellSeen := true, prior := 3 } }, 400, 0, by
    decide +kernel, by decide +kernel, by decide +kernel⟩,
  ⟨live.setField F.CHG_STATUS_PHASE 1, 3000, 0, by decide +kernel, by decide +kernel, by decide +kernel, by
    decide +kernel⟩,
  ⟨{ (live.setFlag F.CHG_CFG_EN true).setField F.CHG_STATUS_PHASE 10 with chg := { live.chg with absentDue := some 0 } },
    by decide +kernel, by decide +kernel, by decide +kernel, by decide +kernel⟩⟩

theorem met_by_charger_phases :
    (∃ (s : State) (bat : Nat), s.live ∧ s.phaseN = phPre ∧ s.series * (chemVpre s.chem + 100) ≤ bat) ∧
    (∃ (s : State) (bat : Nat), s.live ∧ s.series * s.vreg ≤ bat) ∧
    (∃ (s : State) (bat : Nat), s.live ∧ (s.phaseN = phCV ∨ (s.phaseN = phTopup ∧ s.flag F.CHG_STATUS_CVSUB))) ∧
    (∃ (s : State), s.live ∧ s.charging ∧ s.targetReached) ∧
    (∃ (s : State) (bat : Nat), s.live ∧ s.phaseN = phRest) ∧
    (∃ (s : State) (soc : Nat) (valid : Bool), s.live ∧ s.boot.core) ∧
    (∃ (s : State) (d : Nat), s.live ∧ s.chg.socAt = some d ∧ d + secTicks 10 ≤ s.now) ∧
    (∃ (s : State), s.live ∧ s.boot.core) ∧
    (∃ (s : State), s.live ∧ s.elapsed s.chg.recalcDue) :=
  ⟨⟨live.setField F.CHG_STATUS_PHASE 2, 3000, by decide +kernel, by decide +kernel, by decide +kernel⟩,
  ⟨live.setField F.CHG_STATUS_PHASE 3, 4200, by decide +kernel, by decide +kernel⟩,
  ⟨live.setField F.CHG_STATUS_PHASE 4, 4200, by decide +kernel, by decide +kernel⟩,
  ⟨((live.setField F.CHG_STATUS_PHASE 3).setReg R.CHG_TGT 500).setReg R.CHG_SOC 0x8258, by decide +kernel, by
    decide +kernel, by decide +kernel⟩,
  ⟨live.setField F.CHG_STATUS_PHASE 6, 3000, by decide +kernel, by decide +kernel⟩,
  ⟨live, 512, true, by decide +kernel, by decide +kernel⟩,
  ⟨{ live with chg := { live.chg with socAt := some 0 }, now := 400000 },
    ({ live with chg := { live.chg with socAt := some 0 }, now := 400000 }).chg.socAt.getD 0, by decide +kernel, by
    decide +kernel, by decide +kernel⟩,
  ⟨{ live with vdt := { live.vdt with cNow := some 100 } }, by decide +kernel, by decide +kernel⟩,
  ⟨{ live.setField F.CHG_STATUS_PHASE 8 with chg := { live.chg with recalcDue := some 0, prior := 3 } }, by
    decide +kernel, by decide +kernel⟩⟩

theorem met_by_charger_faults :
    (∃ (s : State) (x : SuspCause), s.live ∧ s.suspHolds x ∧ x ≠ .alarm) ∧
    (∃ (s : State) (x : SuspCause), s.live ∧ s.suspHolds x ∧ x = .alarm) ∧
    (∃ (s : State) (bat : Nat), s.live ∧ s.phaseN = phSusp ∧ s.chgHeld = false ∧ (s.chg.recalcDue = none ∨ s.elapsed
      s.chg.recalcDue)) ∧
    (∃ (s : State), s.live ∧ s.timerExpired) ∧
    (∃ (s : State) (bat : Nat), s.live ∧ s.series * (s.regN R.CHG_VREG * 10 + 100) < bat ∧ s.phaseN ≠ phOff ∧ s.phaseN ≠
      phDetect ∧ s.phaseN ≠ phAbsent ∧ s.phaseN ≠ phFault) ∧
    (∃ (s : State) (d : Nat), s.live ∧ s.flag F.CHG_CFG_NTCB_EN ∧ s.chg.ntcDiffFrom = some d ∧ d + secTicks 60 ≤ s.now)
      ∧
    (∃ (s : State) (bat d : Nat), s.live ∧ s.chg.faultAt = some d ∧ d + secTicks 86400 ≤ s.now ∧ (s.chg.fault = 1 ∨
      s.chg.fault = 2 ∨ s.chg.fault = 3 ∨ (s.chg.fault = 4 ∧ bat < s.series * (s.regN R.CHG_VREG * 10)))) ∧
    (∃ (s : State) (a nb : Option Int), s.phase = .run ∧ s.flag F.CHG_CFG_NTCB_EN = false) ∧
    (∃ (s : State) (a nb : Option Int), s.phase = .run ∧ s.flag F.CHG_CFG_NTCB_EN) :=
  ⟨⟨(live.setFlag F.SYS_STATE_PROOF true).setField F.CHG_STATUS_PHASE 3, .proof, by decide +kernel, by decide +kernel,
    by decide +kernel⟩,
  ⟨(live.setFlag F.SYS_STATE_ALARM true).setField F.CHG_STATUS_PHASE 3, .alarm, by decide +kernel, by decide +kernel, by
    decide +kernel⟩,
  ⟨{ live.setField F.CHG_STATUS_PHASE 8 with chg := { live.chg with prior := 3 } }, 3000, by decide +kernel, by
    decide +kernel, by decide +kernel, by decide +kernel⟩,
  ⟨{ live.setField F.CHG_STATUS_PHASE 3 with chg := { live.chg with timed := 3, limit := 5 }, now := 400000 }, by
    decide +kernel, by decide +kernel⟩,
  ⟨live.setField F.CHG_STATUS_PHASE 3, 5000, by decide +kernel, by decide +kernel, by decide +kernel, by decide +kernel,
    by decide +kernel, by decide +kernel⟩,
  ⟨{ (live.setFlag F.CHG_CFG_NTCB_EN true).setField F.CHG_STATUS_PHASE 3 with chg := { live.chg with ntcDiffFrom := some 0 }, now := 4000000 },
    ({ (live.setFlag F.CHG_CFG_NTCB_EN true).setField F.CHG_STATUS_PHASE 3 with chg := { live.chg with ntcDiffFrom := some 0 }, now := 4000000 }).chg.ntcDiffFrom.getD
    0, by decide +kernel, by decide +kernel, by decide +kernel, by decide +kernel⟩,
  ⟨{ (live.setField F.CHG_STATUS_PHASE 9).setFlag F.CHG_CFG_EN true with chg := { live.chg with fault := 4, faultAt := some 0 }, now := 86400 * 32768 },
    3000,
    ({ (live.setField F.CHG_STATUS_PHASE 9).setFlag F.CHG_CFG_EN true with chg := { live.chg with fault := 4, faultAt := some 0 }, now := 86400 * 32768 }).chg.faultAt.getD
    0, by decide +kernel, by decide +kernel, by decide +kernel, by decide +kernel⟩,
  ⟨live.setFlag F.CHG_CFG_NTCB_EN false, some 460, none, by decide +kernel, by decide +kernel⟩,
  ⟨live.setFlag F.CHG_CFG_NTCB_EN true, some 460, some 230, by decide +kernel, by decide +kernel⟩⟩

theorem met_by_weighbridge_life :
    (∃ (s : State) (romOk calOk refOk : Bool), s.live ∧ s.wb.run = false) ∧
    (∃ (s : State), s.live ∧ s.wb.run) ∧
    (∃ (s : State) (mid : Bool), s.live ∧ s.wb.run) ∧
    (∃ (s : State) (m : WbMeter), s.live ∧ s.wb.run) ∧
    (∃ (s : State) (m : WbMeter), s.live ∧ s.wb.run) ∧
    (∃ (s : State) (bad : Bool), s.live ∧ s.wb.run) ∧
    (∃ (s : State) (bad : Bool), s.live ∧ s.wb.run ∧ bad = true) ∧
    (∃ (s : State), s.live ∧ s.wb.run) :=
  ⟨⟨live, true, true, true, by decide +kernel, by decide +kernel⟩,
  ⟨{ live with wb := { live.wb with run := true } }, by decide +kernel, by decide +kernel⟩,
  ⟨{ live with wb := { live.wb with run := true } }, true, by decide +kernel, by decide +kernel⟩,
  ⟨{ live with wb := { live.wb with run := true } }, ⟨5, [1, 2, 3, 4, 5, 6, 7]⟩, by decide +kernel, by decide +kernel⟩,
  ⟨{ live with wb := { live.wb with run := true } }, ⟨-5, [1, 2, 3, 4, 5, 6, 7]⟩, by decide +kernel, by decide +kernel⟩,
  ⟨{ live with wb := { live.wb with run := true, wboFails := 9 } }, true, by decide +kernel, by decide +kernel⟩,
  ⟨{ live with wb := { live.wb with run := true } }, true, by decide +kernel, by decide +kernel, by decide +kernel⟩,
  ⟨{ live with wb := { live.wb with run := true } }, by decide +kernel, by decide +kernel⟩⟩

theorem met_by_weighbridge_records :
    (∃ (s : State) (m : WbMeter) (bat : Nat) (v : Int) (x : WbTemps), s.live ∧ s.wbFree ∧ s.elapsed s.wb.periodDue) ∧
    (∃ (s : State) (m : WbMeter) (bat : Nat) (v : Int) (x : WbTemps), s.live ∧ s.wb.run ∧ s.elapsed s.wb.periodDue ∧ (16
      ≤ s.wb.outq.length ∨ s.wb.held ≠ [])) ∧
    (∃ (s : State) (m : WbMeter) (bat : Nat) (v : Int) (x : WbTemps), s.live ∧ s.wb.run ∧ s.elapsed s.wb.periodDue ∧
      s.wb.outq.length < 16 ∧ s.wb.held = [] ∧ (s.wb.ended ∨ s.wb.seqNum = 0xFFFFFFFF)) ∧
    (∃ (s : State) (r : WbHeld) (l : List WbHeld), s.live ∧ s.wb.run ∧ s.wbRoom ∧ s.wb.ended = false ∧ s.wb.seqNum ≠
      0xFFFFFFFF ∧ s.wb.held = r :: l ∧ s.wb.pend = none) ∧
    (∃ (s : State) (l : List Byte), s.live ∧ s.wbFree ∧ s.wb.deferred = some l) ∧
    (∃ (s : State) (v : Verify) (r : Rec), s.live ∧ s.nextRec = some r ∧ r.prod = 0x05 ∧ s.mayAccept r ∧
      s.lgr.waiting.contains r = false ∧ v = .ok ∧ s.cmd.finishing = []) ∧
    (∃ (s : State) (v : Verify) (r : Rec), s.live ∧ s.nextRec = some r ∧ r.prod ≠ 0x05) :=
  ⟨⟨{ live with wb := { live.wb with run := true, periodDue := some 0 } }, ⟨5, [1, 2, 3, 4, 5, 6, 7]⟩, 38000, -500,
    ⟨some 2500, none, -100⟩, by decide +kernel, by decide +kernel, by decide +kernel⟩,
  ⟨{ live with wb := { live.wb with run := true, periodDue := some 0, outq := List.replicate 16 ⟨2, 5, 2, []⟩ } }, ⟨5,
    [1, 2, 3, 4, 5, 6, 7]⟩, 38000, -500, ⟨some 2500, none, -100⟩, by decide +kernel, by decide +kernel, by
    decide +kernel, by decide +kernel⟩,
  ⟨{ live with wb := { live.wb with run := true, periodDue := some 0, seqNum := 0xFFFFFFFF } }, ⟨5, [1, 2, 3, 4, 5, 6,
    7]⟩, 38000, -500, ⟨some 2500, none, -100⟩, by decide +kernel, by decide +kernel, by decide +kernel, by
    decide +kernel, by decide +kernel, by decide +kernel⟩,
  ⟨{ live with wb := { live.wb with run := true, held := [⟨2, 0, [1, 2]⟩] } },
    ({ live with wb := { live.wb with run := true, held := [⟨2, 0, [1, 2]⟩] } }).wb.held.headD ⟨0, 0, []⟩,
    ({ live with wb := { live.wb with run := true, held := [⟨2, 0, [1, 2]⟩] } }).wb.held.drop 1, by decide +kernel, by
    decide +kernel, by decide +kernel, by decide +kernel, by decide +kernel, by decide +kernel, by decide +kernel⟩,
  ⟨{ live with wb := { live.wb with run := true, deferred := some [1, 2] } },
    ({ live with wb := { live.wb with run := true, deferred := some [1, 2] } }).wb.deferred.getD [], by decide +kernel,
    by decide +kernel, by decide +kernel⟩,
  ⟨{ (live.setFlag F.LGR_STATUS_READY true) with wb := { live.wb with outq := [⟨2, 5, 2, [1, 2]⟩] }, boot := { live.boot with core := false } },
    .ok, ⟨2, 5, 2, [1, 2]⟩, by decide +kernel, by decide +kernel, by decide +kernel, by decide +kernel, by
    decide +kernel, by decide +kernel, by decide +kernel⟩,
  ⟨{ live with lgr := { live.lgr with waiting := [⟨2, 2, 2, [1]⟩] } }, .ok, ⟨2, 2, 2, [1]⟩, by decide +kernel, by
    decide +kernel, by decide +kernel⟩⟩

theorem met_by_weighbridge_triggers :
    (∃ (s : State) (req : Requester), s.live ∧ s.wb.run ∧ s.mailBusy = false ∧ openRequester req ∧ s.wbBusy = false) ∧
    (∃ (s : State) (req : Requester), s.live ∧ s.wb.run ∧ s.mailBusy = false ∧ req = .firmware ∧ s.romBad = false ∧
      s.wbBusy = false ∧ s.suspLine = false ∧ s.flag F.SYS_STATE_FEED ∧ s.wb.cell ≠ none) ∧
    (∃ (s : State) (req : Requester), s.live ∧ s.wb.run ∧ s.mailBusy = false ∧ req = .firmware ∧ s.romBad = false ∧
      s.wbBusy = false ∧ s.flag F.SYS_STATE_PROOF) ∧
    (∃ (s : State) (req : Requester), s.live ∧ s.wb.run ∧ s.mailBusy = false ∧ req = .firmware ∧ 500 ≤ s.regN R.WB_ARG0
      ∧ s.regN R.WB_ARG0 ≤ 2000 ∧ s.romBad = false ∧ s.calibrated = false ∧ s.wbBusy = false ∧ s.flag
      F.SYS_STATE_SERVICE) ∧
    (∃ (s : State) (c : Instr) (req : Requester) (kind code arg : Nat), s.live ∧ s.wb.run ∧ s.mailBusy = false ∧ ((c =
      .snapshot req ∧ openRequester req ∧ kind = 1 ∧ code = 1 ∧ arg = 0) ∨ (c = .sweep .firmware ∧ s.romBad = false ∧
      kind = 2 ∧ code = 2 ∧ arg = 0) ∨ (c = .capBegin .firmware ∧ s.romBad = false ∧ kind = 3 ∧ code = 3 ∧ arg = 0) ∨ (c
      = .calibrate .firmware ∧ 500 ≤ s.regN R.WB_ARG0 ∧ s.regN R.WB_ARG0 ≤ 2000 ∧ s.romBad = false ∧ s.calibrated =
      false ∧ kind = 4 ∧ code = 8 ∧ arg = s.regN R.WB_ARG0)) ∧ s.wbBusy) ∧
    (∃ (s : State) (c : Instr) (reason code : Nat), s.live ∧ s.wbFree ∧ s.mailBusy = false ∧ s.wb.seq = none ∧ s.romBad
      = false ∧ ((c = .sweep .firmware ∧ s.suspLine = false ∧ s.flag F.SYS_STATE_FEED = false ∧ reason = 1 ∧ code = 2) ∨
      (c = .sweep .firmware ∧ s.suspLine = false ∧ s.flag F.SYS_STATE_FEED ∧ s.wb.cell = none ∧ reason = 2 ∧ code = 2) ∨
      (c = .capBegin .firmware ∧ s.flag F.SYS_STATE_PROOF = false ∧ reason = 3 ∧ code = 3) ∨ (c = .calibrate .firmware ∧
      500 ≤ s.regN R.WB_ARG0 ∧ s.regN R.WB_ARG0 ≤ 2000 ∧ s.calibrated = false ∧ s.flag F.SYS_STATE_SERVICE = false ∧
      reason = 4 ∧ code = 8))) ∧
    (∃ (s : State) (req : Requester), s.live ∧ s.wb.run ∧ s.mailBusy = false ∧ req = .firmware ∧ s.romBad = false ∧
      s.wbBusy = false ∧ s.suspLine) ∧
    (∃ (s : State) (c : Instr) (req : Requester) (code result : Nat), s.live ∧ s.wb.run ∧ s.mailBusy = false ∧ (((c =
      .snapshot req ∧ code = 1 ∨ c = .wbMailboxIdent req ∧ code = 7) ∧ openRequester req = false ∧ result = 4) ∨ ((c =
      .sweep req ∧ code = 2 ∨ c = .capBegin req ∧ code = 3 ∨ c = .capEnd req ∧ code = 4 ∨ c = .setPeriod req ∧ code = 5
      ∨ c = .setCell req ∧ code = 6 ∨ c = .calibrate req ∧ code = 8 ∨ c = .wbMailboxReset req ∧ code = 9) ∧ req ≠
      .firmware ∧ result = 4) ∨ (req = .firmware ∧ ((c = .setPeriod req ∧ code = 5 ∧ (s.regN R.WB_ARG0 = 0 ∨ 60 < s.regN
      R.WB_ARG0) ∨ c = .setCell req ∧ code = 6 ∧ (s.regN R.WB_ARG0 < 10 ∨ s.wb.cell ≠ none) ∨ c = .calibrate req ∧ code
      = 8 ∧ (s.regN R.WB_ARG0 < 500 ∨ 2000 < s.regN R.WB_ARG0) ∨ c = .wbMailboxReset req ∧ code = 9 ∧ s.regN R.WB_ARG0 ≠
      0x5742) ∧ result = 3 ∨ (c = .sweep req ∧ code = 2 ∧ s.romBad ∨ c = .capBegin req ∧ code = 3 ∧ s.romBad ∨ c =
      .calibrate req ∧ code = 8 ∧ 500 ≤ s.regN R.WB_ARG0 ∧ s.regN R.WB_ARG0 ≤ 2000 ∧ (s.romBad ∨ s.calibrated) ∨ c =
      .capEnd req ∧ code = 4 ∧ s.wb.seq.all (fun q : WbSeq => q.kind != seqCap || q.relaxFrom.isSome)) ∧ result = 7)) ∨
      ((code = 0 ∨ 10 ≤ code) ∧ code < 256 ∧ c = .wbCmdUnknown code ∧ result = 5))) ∧
    (∃ (s : State) (code : Nat), s.live ∧ s.wb.run ∧ s.mailBusy = false ∧ (code = 0 ∨ 10 ≤ code)) ∧
    (∃ (s : State) (c : Instr) (req : Requester) (code : Nat), s.live ∧ s.wb.run ∧ s.mailBusy ∧ c ∈ [Instr.snapshot req,
      .sweep req, .capBegin req, .capEnd req, .setPeriod req, .setCell req, .wbMailboxIdent req, .calibrate req,
      .wbMailboxReset req, .wbCmdUnknown code]) ∧
    (∃ (s : State) (req : Requester) (q : WbSeq), s.live ∧ s.wb.run ∧ s.mailBusy = false ∧ req = .firmware ∧ s.wb.seq =
      some q ∧ q.kind = seqCap ∧ q.relaxFrom = none) ∧
    (∃ (s : State) (req : Requester), s.live ∧ s.wb.run ∧ s.mailBusy = false ∧ req = .firmware ∧ 1 ≤ s.regN R.WB_ARG0 ∧
      s.regN R.WB_ARG0 ≤ 60) ∧
    (∃ (s : State) (req : Requester), s.live ∧ s.wb.run ∧ s.mailBusy = false ∧ req = .firmware ∧ 10 ≤ s.regN R.WB_ARG0 ∧
      s.wb.cell = none) ∧
    (∃ (s : State) (req : Requester), s.live ∧ s.wb.run ∧ s.mailBusy = false ∧ openRequester req) ∧
    (∃ (s : State) (req : Requester), s.live ∧ s.wb.run ∧ s.mailBusy = false ∧ req = .firmware ∧ s.regN R.WB_ARG0 =
      0x5742) :=
  ⟨⟨{ live with wb := { live.wb with run := true } }, .usb, by decide +kernel, by decide +kernel, by decide +kernel, by
    decide +kernel, by decide +kernel⟩,
  ⟨{ live.setFlag F.SYS_STATE_FEED true with wb := { live.wb with run := true, cell := some 6000 } }, .firmware, by
    decide +kernel, by decide +kernel, by decide +kernel, by decide +kernel, by decide +kernel, by decide +kernel, by
    decide +kernel, by decide +kernel, by decide +kernel⟩,
  ⟨{ live.setFlag F.SYS_STATE_PROOF true with wb := { live.wb with run := true } }, .firmware, by decide +kernel, by
    decide +kernel, by decide +kernel, by decide +kernel, by decide +kernel, by decide +kernel, by decide +kernel⟩,
  ⟨{ (live.setFlag F.SYS_STATE_SERVICE true).setReg R.WB_ARG0 1000 with wb := { live.wb with run := true } }, .firmware,
    by decide +kernel, by decide +kernel, by decide +kernel, by decide +kernel, by decide +kernel, by decide +kernel, by
    decide +kernel, by decide +kernel, by decide +kernel, by decide +kernel⟩,
  ⟨{ live.setReg R.WB_ARG0 1000 with wb := { live.wb with run := true, seq := some ⟨3, 0, 0, false, none, 0, 0, 0, 0, none, none, none⟩ } },
    .snapshot .portH, .portH, 1, 1, 0, by decide +kernel, by decide +kernel, by decide +kernel, by decide +kernel, by
    decide +kernel⟩,
  ⟨{ live.setReg R.WB_ARG0 1000 with wb := { live.wb with run := true } }, .sweep .firmware, 1, 2, by decide +kernel, by
    decide +kernel, by decide +kernel, by decide +kernel, by decide +kernel, by decide +kernel⟩,
  ⟨{ live.setFlag F.CHG_STATUS_SUSP_ALM true with wb := { live.wb with run := true } }, .firmware, by decide +kernel, by
    decide +kernel, by decide +kernel, by decide +kernel, by decide +kernel, by decide +kernel, by decide +kernel⟩,
  ⟨{ live with wb := { live.wb with run := true, faults := [1] } }, .snapshot .optical, .optical, 1, 4, by
    decide +kernel, by decide +kernel, by decide +kernel, by decide +kernel⟩,
  ⟨{ live with wb := { live.wb with run := true } }, 0x55, by decide +kernel, by decide +kernel, by decide +kernel, by
    decide +kernel⟩,
  ⟨{ live with wb := { live.wb with run := true, cmdDue := some 3 } }, .sweep .firmware, .firmware, 0, by
    decide +kernel, by decide +kernel, by decide +kernel, by decide +kernel⟩,
  ⟨{ live with wb := { live.wb with run := true, seq := some ⟨3, 0, 0, false, none, 0, 0, 0, 0, none, none, none⟩ } },
    .firmware,
    ({ live with wb := { live.wb with run := true, seq := some ⟨3, 0, 0, false, none, 0, 0, 0, 0, none, none, none⟩ } }).wb.seq.getD
    ⟨3, 0, 0, false, none, 0, 0, 0, 0, none, none, none⟩, by decide +kernel, by decide +kernel, by decide +kernel, by
    decide +kernel, by decide +kernel, by decide +kernel, by decide +kernel⟩,
  ⟨{ live.setReg R.WB_ARG0 60 with wb := { live.wb with run := true } }, .firmware, by decide +kernel, by
    decide +kernel, by decide +kernel, by decide +kernel, by decide +kernel, by decide +kernel⟩,
  ⟨{ live.setReg R.WB_ARG0 10 with wb := { live.wb with run := true } }, .firmware, by decide +kernel, by
    decide +kernel, by decide +kernel, by decide +kernel, by decide +kernel, by decide +kernel⟩,
  ⟨{ live with wb := { live.wb with run := true } }, .portH, by decide +kernel, by decide +kernel, by decide +kernel, by
    decide +kernel⟩,
  ⟨{ live.setReg R.WB_ARG0 0x5742 with wb := { live.wb with run := true } }, .firmware, by decide +kernel, by
    decide +kernel, by decide +kernel, by decide +kernel, by decide +kernel⟩⟩

theorem met_by_weighbridge_sequences :
    (∃ (s : State) (m : WbMeter) (x : SnapMeasure) (q : WbSeq), s.live ∧ s.wb.run ∧ s.wb.seq = some q ∧ q.kind = seqSnap
      ∧ q.start + msTicks 250 ≤ s.now) ∧
    (∃ (s : State) (points : List SweepPoint) (peak : Nat) (ntca ntcb : Option Int) (q : WbSeq), s.live ∧ s.wb.run ∧
      s.wb.seq = some q ∧ q.kind = seqSweep ∧ q.start + msTicks 61100 ≤ s.now ∧ points.length = 8) ∧
    (∃ (s : State), s.live ∧ s.wb.run ∧ s.elapsed s.wb.holdDue ∧ s.wbBusy) ∧
    (∃ (s : State), s.live ∧ s.wb.run ∧ s.elapsed s.wb.holdDue ∧ s.wbBusy = false ∧ s.suspLine = false ∧ s.flag
      F.SYS_STATE_FEED ∧ s.wb.cell ≠ none) ∧
    (∃ (s : State) (q : WbSeq), s.live ∧ s.wb.run ∧ s.wb.seq = some q ∧ q.kind = seqCap ∧ q.start + secTicks 14400 ≤
      s.now ∧ q.relaxFrom = none) ∧
    (∃ (s : State) (m : CapMeasure) (q : WbSeq) (d : Nat), s.live ∧ s.wb.run ∧ s.wb.seq = some q ∧ q.kind = seqCap ∧
      q.relaxFrom = some d ∧ q.start ≤ s.now ∧ d + secTicks 600 ≤ s.now) ∧
    (∃ (s : State) (v : Nat) (q : WbSeq), s.live ∧ s.wb.run ∧ s.wb.seq = some q ∧ q.kind = seqCal ∧ q.start + secTicks
      10 ≤ s.now) :=
  ⟨⟨{ live with wb := { live.wb with run := true, seq := some ⟨1, 0, 0, true, none, 0, 0, 0, 0, none, none, none⟩ }, now := 40000 },
    ⟨7, [1, 2, 3, 4, 5, 6, 7]⟩, ⟨38000, 37000, 39000, 10, -5, 20, ⟨some 2500, none, -100⟩⟩,
    ({ live with wb := { live.wb with run := true, seq := some ⟨1, 0, 0, true, none, 0, 0, 0, 0, none, none, none⟩ }, now := 40000 }).wb.seq.getD
    ⟨1, 0, 0, true, none, 0, 0, 0, 0, none, none, none⟩, by decide +kernel, by decide +kernel, by decide +kernel, by
    decide +kernel, by decide +kernel⟩,
  ⟨{ live.setFlag F.CONV_STATUS_EXC true with wb := { live.wb with run := true, cell := some 6000, seq := some ⟨2, 0, 0, false, none, 0, 0, 0, 0, none, none, none⟩ }, now := 3000000 },
    List.replicate 8 ⟨100, -5, false⟩, 3000, some 2300, none,
    ({ live.setFlag F.CONV_STATUS_EXC true with wb := { live.wb with run := true, cell := some 6000, seq := some ⟨2, 0, 0, false, none, 0, 0, 0, 0, none, none, none⟩ }, now := 3000000 }).wb.seq.getD
    ⟨1, 0, 0, true, none, 0, 0, 0, 0, none, none, none⟩, by decide +kernel, by decide +kernel, by decide +kernel, by
    decide +kernel, by decide +kernel, by decide +kernel⟩,
  ⟨{ live with wb := { live.wb with run := true, holdDue := some 0, seq := some ⟨3, 0, 0, false, none, 0, 0, 0, 0, none, none, none⟩ } },
    by decide +kernel, by decide +kernel, by decide +kernel, by decide +kernel⟩,
  ⟨{ live.setFlag F.SYS_STATE_FEED true with wb := { live.wb with run := true, cell := some 6000, holdDue := some 0 } },
    by decide +kernel, by decide +kernel, by decide +kernel, by decide +kernel, by decide +kernel, by decide +kernel, by
    decide +kernel⟩,
  ⟨{ live with wb := { live.wb with run := true, seq := some ⟨3, 0, 0, false, none, 0, 0, 0, 0, none, none, none⟩ }, now := 14400 * 32768 },
    ({ live with wb := { live.wb with run := true, seq := some ⟨3, 0, 0, false, none, 0, 0, 0, 0, none, none, none⟩ }, now := 14400 * 32768 }).wb.seq.getD
    ⟨1, 0, 0, true, none, 0, 0, 0, 0, none, none, none⟩, by decide +kernel, by decide +kernel, by decide +kernel, by
    decide +kernel, by decide +kernel, by decide +kernel⟩,
  ⟨{ live with wb := { live.wb with run := true, seq := some ⟨3, 0, 0, false, some 0, 0, 0, 0, 0, none, none, none⟩ }, now := 700 * 32768 },
    ⟨42000, 38000, 5, 6, 37000, 10, 0, [(some 2300, some 2500)]⟩,
    ({ live with wb := { live.wb with run := true, seq := some ⟨3, 0, 0, false, some 0, 0, 0, 0, 0, none, none, none⟩ }, now := 700 * 32768 }).wb.seq.getD
    ⟨1, 0, 0, true, none, 0, 0, 0, 0, none, none, none⟩, 0, by decide +kernel, by decide +kernel, by decide +kernel, by
    decide +kernel, by decide +kernel, by decide +kernel, by decide +kernel⟩,
  ⟨{ live with wb := { live.wb with run := true, seq := some ⟨4, 0, 1000, false, none, 0, 0, 0, 0, none, none, none⟩ }, now := 11 * 32768 },
    4500000,
    ({ live with wb := { live.wb with run := true, seq := some ⟨4, 0, 1000, false, none, 0, 0, 0, 0, none, none, none⟩ }, now := 11 * 32768 }).wb.seq.getD
    ⟨1, 0, 0, true, none, 0, 0, 0, 0, none, none, none⟩, by decide +kernel, by decide +kernel, by decide +kernel, by
    decide +kernel, by decide +kernel⟩⟩

theorem met_by_reserve_and_notes :
    (∃ (s : State), s.live ∧ s.boot.core) ∧
    (∃ (s : State), s.live ∧ s.boot.core ∧ s.timeValid ∧ s.inCurfew = false ∧ s.vdt.held ≠ []) :=
  ⟨⟨live.setField F.CHG_STATUS_PHASE 10, by decide +kernel, by decide +kernel⟩,
  ⟨{ live.setFlag F.CLK_STATUS_TIMEVALID true with vdt := { live.vdt with curfew := 0, held := [⟨1, false, false, 3, false⟩] } },
    by decide +kernel, by decide +kernel, by decide +kernel, by decide +kernel, by decide +kernel⟩⟩

theorem met_by_proof_test :
    (∃ (s : State), s.live ∧ s.boot.core ∧ s.liftDue) ∧
    (∃ (s : State), s.live ∧ s.boot.core ∧ s.vdt.proof = none ∧ s.ranToday = false ∧ (s.vdt.requested ∨ s.planDue) ∧
      (s.vdt.deferred.all (fun x : Bool × Nat => decide (s.now ≤ x.2 + secTicks 86400))) ∧ s.flag F.SYS_STATE_ALARM =
      false ∧ s.inSafe = false ∧ s.phaseN ≠ phAbsent ∧ s.regN R.CHG_BALSOC + 10 * s.regN R.VDT_DOSE ≤ s.field
      F.CHG_SOC_SOC) ∧
    (∃ (s : State), s.live ∧ s.boot.core ∧ s.vdt.proof = none ∧ s.ranToday = false ∧ (s.vdt.requested ∨ s.planDue) ∧
      (s.vdt.deferred.all (fun x : Bool × Nat => decide (s.now ≤ x.2 + secTicks 86400))) ∧ s.flag F.SYS_STATE_ALARM) ∧
    (∃ (s : State), s.live ∧ s.boot.core ∧ s.vdt.proof = none ∧ s.ranToday = false ∧ (s.vdt.requested ∨ s.planDue) ∧
      (s.vdt.deferred.any (fun x : Bool × Nat => decide (x.2 + secTicks 86400 < s.now)) ∨ (s.flag F.SYS_STATE_ALARM =
      false ∧ (s.inSafe ∨ s.phaseN = phAbsent ∨ s.field F.CHG_SOC_SOC < s.regN R.CHG_BALSOC + 10 * s.regN R.VDT_DOSE))))
      ∧
    (∃ (s : State) (req : Bool) (d : Nat), s.live ∧ s.boot.core ∧ s.vdt.proof = none ∧ s.ranToday = false ∧ s.elapsed
      s.vdt.deferDue ∧ s.vdt.deferred = some (req, d)) ∧
    (∃ (s : State) (q : Proof), s.live ∧ s.boot.core ∧ s.vdt.proof = some q ∧ q.step < 4 ∧ q.t0 + secTicks 900 ≤ s.now)
      ∧
    (∃ (s : State) (q : Proof) (d : Nat), s.live ∧ s.boot.core ∧ s.vdt.proof = some q ∧ q.step = 4 ∧ q.capAt = some d ∧
      d + msTicks 1100 ≤ s.now) ∧
    (∃ (s : State) (bat : Nat) (q : Proof), s.live ∧ s.boot.core ∧ s.vdt.proof = some q ∧ q.load ∧ (s.doseDrawn q ∨
      q.capAt.any (fun d : Nat => decide (d + msTicks 1100 + secTicks 12600 ≤ s.now)) ∨ bat < s.series * chemVpre s.chem
      ∨ s.estEc ≤ s.eB * 1000)) ∧
    (∃ (s : State) (q : Proof) (r : List Byte), s.live ∧ s.boot.core ∧ s.vdt.proof = some q ∧ 4 ≤ q.step ∧ s.testRecord
      q 5 = some r) :=
  ⟨⟨{ (((live.setFlag F.VDT_PROOFCFG_EN true).setReg R.CHG_TGT 500).setReg R.CHG_BALSOC 600) with vdt := { live.vdt with lastStart := some 0 }, now := 600000 * 32768 },
    by decide +kernel, by decide +kernel, by decide +kernel⟩,
  ⟨{ (live.setReg R.CHG_SOC 0x8384) with vdt := { live.vdt with requested := true } }, by decide +kernel, by
    decide +kernel, by decide +kernel, by decide +kernel, by decide +kernel, by decide +kernel, by decide +kernel, by
    decide +kernel, by decide +kernel, by decide +kernel⟩,
  ⟨{ live.setFlag F.SYS_STATE_ALARM true with vdt := { live.vdt with requested := true } }, by decide +kernel, by
    decide +kernel, by decide +kernel, by decide +kernel, by decide +kernel, by decide +kernel, by decide +kernel⟩,
  ⟨{ (live.setReg R.CHG_SOC 0x8001) with vdt := { live.vdt with requested := true } }, by decide +kernel, by
    decide +kernel, by decide +kernel, by decide +kernel, by decide +kernel, by decide +kernel⟩,
  ⟨{ (live.setReg R.CHG_SOC 0x8384) with vdt := { live.vdt with deferred := some (false, 0), deferDue := some 0 } },
    false,
    (({ (live.setReg R.CHG_SOC 0x8384) with vdt := { live.vdt with deferred := some (false, 0), deferDue := some 0 } }).vdt.deferred.getD
    (true, 0)).2, by decide +kernel, by decide +kernel, by decide +kernel, by decide +kernel, by decide +kernel, by
    decide +kernel⟩,
  ⟨{ live with vdt := { live.vdt with proof := some ⟨3, 0, true, 5, 200, 80, 0x1E0F, false, 0, none, none, false, false⟩ }, now := 1000 * 32768 },
    ({ live with vdt := { live.vdt with proof := some ⟨3, 0, true, 5, 200, 80, 0x1E0F, false, 0, none, none, false, false⟩ }, now := 1000 * 32768 }).vdt.proof.getD
    ⟨0, 0, true, 5, 200, 80, 0x1E0F, false, 0, none, none, false, false⟩, by decide +kernel, by decide +kernel, by
    decide +kernel, by decide +kernel, by decide +kernel⟩,
  ⟨{ live with vdt := { live.vdt with proof := some ⟨4, 0, true, 5, 200, 80, 0x1E0F, false, 0, none, some 0, false, false⟩ }, now := 1000 * 32768 },
    ({ live with vdt := { live.vdt with proof := some ⟨4, 0, true, 5, 200, 80, 0x1E0F, false, 0, none, some 0, false, false⟩ }, now := 1000 * 32768 }).vdt.proof.getD
    ⟨0, 0, true, 5, 200, 80, 0x1E0F, false, 0, none, none, false, false⟩, 0, by decide +kernel, by decide +kernel, by
    decide +kernel, by decide +kernel, by decide +kernel, by decide +kernel⟩,
  ⟨{ live with vdt := { live.vdt with proof := some ⟨5, 0, true, 5, 200, 80, 0x1E0F, false, 0, none, some 0, true, false⟩ }, now := 1000 * 32768 },
    2000,
    ({ live with vdt := { live.vdt with proof := some ⟨5, 0, true, 5, 200, 80, 0x1E0F, false, 0, none, some 0, true, false⟩ }, now := 1000 * 32768 }).vdt.proof.getD
    ⟨0, 0, true, 5, 200, 80, 0x1E0F, false, 0, none, none, false, false⟩, by decide +kernel, by decide +kernel, by
    decide +kernel, by decide +kernel, by decide +kernel⟩,
  ⟨{ (live.setFlag F.SYS_STATE_PROOF true) with wb := { live.wb with accepted := [(5, List.replicate 72 0)] }, vdt := { live.vdt with proof := some ⟨8, 0, true, 5, 200, 80, 0x1E0F, false, 0, none, some 0, false, true⟩ }, now := 1000 * 32768 },
    ({ (live.setFlag F.SYS_STATE_PROOF true) with wb := { live.wb with accepted := [(5, List.replicate 72 0)] }, vdt := { live.vdt with proof := some ⟨8, 0, true, 5, 200, 80, 0x1E0F, false, 0, none, some 0, false, true⟩ }, now := 1000 * 32768 }).vdt.proof.getD
    ⟨0, 0, true, 5, 200, 80, 0x1E0F, false, 0, none, none, false, false⟩, List.replicate 72 0, by decide +kernel, by
    decide +kernel, by decide +kernel, by decide +kernel, by decide +kernel⟩⟩

theorem met_by_frames_sent :
    (∃ (s : State) (f p : Frame), s.sending f = some p) ∧
    (∃ (s : State) (f p : Frame) (x : TxFail), s.sending f = some p) ∧
    (∃ (s : State) (f p : Frame), s.sending f = some p) :=
  ⟨⟨{ live.setFlag F.TET_STATUS_UP true with link := { live.link with txOn := true, txq := [⟨⟨7, 5, 0, []⟩, 3, 0⟩] } }.setHeld
    true |>.setField F.TET_ADDR_ADDR 5, ⟨7, 5, 0, []⟩, ⟨7, 5, 0, []⟩, by decide +kernel⟩,
  ⟨{ live.setFlag F.TET_STATUS_UP true with link := { live.link with txOn := true, txq := [⟨⟨7, 5, 0, []⟩, 3, 0⟩] } }.setHeld
    true |>.setField F.TET_ADDR_ADDR 5, ⟨7, 5, 0, []⟩, ⟨7, 5, 0, []⟩, .refused, by decide +kernel⟩,
  ⟨{ live.setFlag F.TET_STATUS_UP true with link := { live.link with txOn := true, txq := [⟨⟨7, 5, 0, []⟩, 3, 0⟩] } }.setHeld
    true |>.setField F.TET_ADDR_ADDR 5, ⟨7, 5, 0, []⟩, ⟨7, 5, 0, []⟩, by decide +kernel⟩⟩

theorem met_by_link_health :
    (∃ (s : State) (bits : List Bool) (carrier : Bool) (x : RxError), s.receives ∧ rxError bits carrier = some x) ∧
    (∃ (s : State) (bits : List Bool) (carrier : Bool), s.receives ∧ rxError bits carrier = none) ∧
    (∃ (s : State) (vtet : Nat), s.live ∧ linkCond vtet ≠ s.linkCondNow) ∧
    (∃ (s : State), s.live ∧ s.link.acceptAt + secTicks 60 ≤ s.now) ∧
    (∃ (s : State) (cause : Nat), s.live ∧ s.framesMode) ∧
    (∃ (s : State), s.live ∧ s.elapsed s.link.silenceDue) :=
  ⟨⟨live.setFlag F.TET_STATUS_UP true, [true, true, true, true, true, true, true], false, .stuff, by decide +kernel, by
    decide +kernel⟩,
  ⟨live.setFlag F.TET_STATUS_UP true, stuff (frameBits ⟨7, 9, 1, []⟩), false, by decide +kernel, by decide +kernel⟩,
  ⟨live, 24000, by decide +kernel, by decide +kernel⟩,
  ⟨{ live with now := 4000000 }, by decide +kernel, by decide +kernel⟩,
  ⟨live, 1, by decide +kernel, by decide +kernel⟩,
  ⟨{ (live.setFlag F.TET_ADDR_HELD true).setFlag F.TET_STATUS_SILENCED true with link := { live.link with txOn := true, silenceDue := some 0, trips := [0] } },
    by decide +kernel, by decide +kernel⟩⟩

theorem met_by_heartbeats_and_peers :
    (∃ (s : State) (c : Instr) (f : Frame) (x : Carrier) (uid : BitVec 64), s.receives ∧ f.addr < 64 ∧ ((c =
      .heartbeatRx f.addr f.data x ∧ f = ⟨6, f.addr, 1, f.data⟩) ∨ (c = .censusRequestRx f.addr x ∧ f = ⟨6, f.addr, 2,
      []⟩) ∨ (c = .claimRx f.addr uid x ∧ f = ⟨6, f.addr, 2, beBytes 8 uid.toNat⟩) ∨ (c = .faultFrameRx f.addr f.data x
      ∧ f = ⟨6, f.addr, 3, f.data⟩) ∨ (c = .linkTestRx f.addr f.data x ∧ f = ⟨7, f.addr, 0, f.data⟩) ∨ (c = .linkEchoRx
      f.addr f.data x ∧ f = ⟨7, f.addr, 1, f.data⟩) ∨ (c = .marketFrameRx f x ∧ 2 ≤ f.cls ∧ f.cls ≤ 5))) ∧
    (∃ (s : State) (a : Nat), s.live ∧ s.hbDue ∧ s.ownAddr = some a) ∧
    (∃ (s : State) (addr : Nat) (data : List Byte) (x : Carrier), s.receives ∧ addr < 64 ∧ data.length = 4) ∧
    (∃ (s : State) (addr : Nat) (p : PeerTrack), s.live ∧ s.peerTrack addr = some p ∧ p.missing = none ∧ p.last +
      secTicks 95 ≤ s.now) ∧
    (∃ (s : State) (addr : Nat) (x : Carrier), s.receives ∧ addr < 64) ∧
    (∃ (s : State), s.live ∧ s.elapsed s.link.censusDue) ∧
    (∃ (s : State) (addr : Nat) (data : List Byte) (x : Carrier), s.receives ∧ addr < 64 ∧ data.length = 2 ∧ natAt data
      0 1 = 0x30) ∧
    (∃ (s : State) (addr : Nat) (data : List Byte) (x : Carrier) (a : Nat), s.receives ∧ addr < 64 ∧ data.length ≤ 8 ∧
      s.ownAddr = some a ∧ ((addr ≠ a ∧ s.link.cand ≠ some addr) ∨ s.autoAddr = false) ∧ s.link.rxq.length < 32 ∧
      s.reads ∧ s.link.txOn) ∧
    (∃ (s : State) (addr : Nat) (data : List Byte) (x : Carrier), s.receives ∧ addr < 64 ∧ data.length ≤ 8 ∧ s.link.rxq
      = [] ∧ s.ownAddr ≠ some addr ∧ s.link.cand ≠ some addr) :=
  ⟨⟨live.setFlag F.TET_STATUS_UP true, .heartbeatRx 9 [0x18, 0, 0, 0] ⟨400, 20⟩, ⟨6, 9, 1, [0x18, 0, 0, 0]⟩, ⟨400, 20⟩,
    0, by decide +kernel, by decide +kernel, by decide +kernel⟩,
  ⟨{ live.setFlag F.TET_ADDR_HELD true with link := { live.link with txOn := true } },
    ({ live.setFlag F.TET_ADDR_HELD true with link := { live.link with txOn := true } }).selfAddr, by decide +kernel, by
    decide +kernel, by decide +kernel⟩,
  ⟨live.setFlag F.TET_STATUS_UP true, 9, [0x18, 0, 0, 0], ⟨400, 20⟩, by decide +kernel, by decide +kernel, by
    decide +kernel⟩,
  ⟨{ live with link := { live.link with peers := [⟨9, 0, 0x80000000, none⟩] }, now := 4000000 }, 9,
    (({ live with link := { live.link with peers := [⟨9, 0, 0x80000000, none⟩] }, now := 4000000 }).peerTrack 9).getD
    ⟨9, 0, 0, some 0⟩, by decide +kernel, by decide +kernel, by decide +kernel, by decide +kernel⟩,
  ⟨(live.setFlag F.TET_ADDR_HELD true).setFlag F.TET_STATUS_UP true, 9, ⟨400, 20⟩, by decide +kernel, by
    decide +kernel⟩,
  ⟨{ live.setFlag F.TET_ADDR_HELD true with link := { live.link with txOn := true, censusDue := some 0 } }, by
    decide +kernel, by decide +kernel⟩,
  ⟨live.setFlag F.TET_STATUS_UP true, 9, [0x30, 0], ⟨400, 20⟩, by decide +kernel, by decide +kernel, by decide +kernel,
    by decide +kernel⟩,
  ⟨{ (live.setFlag F.TET_ADDR_HELD true).setFlag F.TET_STATUS_UP true with link := { live.link with txOn := true } }, 9,
    [1, 2, 3], ⟨400, 20⟩,
    ({ (live.setFlag F.TET_ADDR_HELD true).setFlag F.TET_STATUS_UP true with link := { live.link with txOn := true } }).selfAddr,
    by decide +kernel, by decide +kernel, by decide +kernel, by decide +kernel, by decide +kernel, by decide +kernel, by
    decide +kernel, by decide +kernel⟩,
  ⟨live.setFlag F.TET_STATUS_UP true, 9, [1, 2, 3], ⟨400, 20⟩, by decide +kernel, by decide +kernel, by decide +kernel,
    by decide +kernel, by decide +kernel, by decide +kernel⟩⟩

theorem met_by_address_assignment :
    (∃ (s : State), s.live ∧ s.elapsed s.link.listenDue) ∧
    (∃ (s : State) (v : Verify) (a d : Nat), s.live ∧ s.link.claimAt = some d ∧ d + secTicks 2 ≤ s.now ∧ s.link.cand =
      some a ∧ a < 64) ∧
    (∃ (s : State) (addr : Nat) (uid : BitVec 64) (x : Carrier), s.receives ∧ addr < 64) ∧
    (∃ (s : State), s.live ∧ s.elapsed s.link.relistenDue) :=
  ⟨⟨{ live with link := { live.link with txOn := true, listenDue := some 0, heard := List.range 64 } }, by
    decide +kernel, by decide +kernel⟩,
  ⟨{ live with link := { live.link with cand := some 9, claimAt := some 0 }, now := 100000 }, .ok, 9,
    ({ live with link := { live.link with cand := some 9, claimAt := some 0 }, now := 100000 }).link.claimAt.getD 0, by
    decide +kernel, by decide +kernel, by decide +kernel, by decide +kernel, by decide +kernel⟩,
  ⟨{ (live.setFlag F.TET_ADDR_AUTO true).setFlag F.TET_STATUS_UP true with link := { live.link with cand := some 9 } },
    9, 0, ⟨400, 20⟩, by decide +kernel, by decide +kernel⟩,
  ⟨{ live with link := { live.link with relistenDue := some 0 } }, by decide +kernel, by decide +kernel⟩⟩

theorem met_by_level_alarms :
    (∃ (s : State), s.live ∧ s.flag F.TET_STATUS_LEVEL ∧ s.flag F.TET_STATUS_LVL_OUT = false ∧ s.alm.level = none) ∧
    (∃ (s : State) (d : Nat), s.live ∧ s.alm.level = some d) :=
  ⟨⟨live.setFlag F.TET_STATUS_LEVEL true, by decide +kernel, by decide +kernel, by decide +kernel, by decide +kernel⟩,
  ⟨{ live.setFlag F.TET_STATUS_LEVEL true with alm := { live.alm with level := some 0 }, now := 100000 },
    ({ live.setFlag F.TET_STATUS_LEVEL true with alm := { live.alm with level := some 0 }, now := 100000 }).alm.level.getD
    0, by decide +kernel, by decide +kernel⟩⟩

theorem met_by_market_frames :
    (∃ (s : State) (f : Frame) (x : Carrier), s.receives ∧ 2 ≤ f.cls ∧ f.cls ≤ 5 ∧ f.addr < 64) ∧
    (∃ (s : State) (f : Frame) (x : Carrier), s.receives ∧ s.reads ∧ s.link.rxq = [] ∧ s.ownAddr ≠ some f.addr ∧
      s.link.cand ≠ some f.addr ∧ f.addr < 64 ∧ f.cls = 5 ∧ frameFits f ∧ (s.stall f.addr).length = 64) ∧
    (∃ (s : State) (f : Frame) (x : Carrier), s.receives ∧ s.reads ∧ s.link.rxq = [] ∧ s.ownAddr ≠ some f.addr ∧
      s.link.cand ≠ some f.addr ∧ f.addr < 64 ∧ f.cls = 4 ∧ frameFits f ∧ (s.stall f.addr).length = 64) ∧
    (∃ (s : State) (f : Frame) (x : Carrier) (b : OwnBid), s.receives ∧ s.reads ∧ s.link.rxq = [] ∧ s.ownAddr ≠ some
      f.addr ∧ s.link.cand ≠ some f.addr ∧ f.addr < 64 ∧ f.cls = 3 ∧ frameFits f ∧ (s.stall f.addr).length = 64 ∧ some
      (natAt f.data 0 1) = s.ownAddr ∧ s.bidOn f.addr = some b ∧ s.offerStands f.addr ∧ natAt f.data 1 1 = s.stallN
      f.addr 13 1 ∧ natAt f.data 2 1 = s.stallN f.addr 35 1) ∧
    (∃ (s : State) (f : Frame) (x : Carrier), s.receives ∧ s.reads ∧ s.link.rxq = [] ∧ s.ownAddr ≠ some f.addr ∧
      s.link.cand ≠ some f.addr ∧ f.addr < 64 ∧ f.cls = 2 ∧ frameFits f ∧ (s.stall f.addr).length = 64) ∧
    (∃ (s : State) (addr : Nat) (isBid : Bool) (d : Nat), s.live ∧ s.boot.core ∧ ((if isBid then (s.peerMarket
      addr).bidAt else (s.peerMarket addr).offerAt) = some d) ∧ d + secTicks 75 ≤ s.now) ∧
    (∃ (s : State) (vtet : Nat), s.live ∧ vtet < s.cutoffAt ∧ s.qualified .tether) ∧
    (∃ (s : State), s.live ∧ s.elapsed s.mkt.cutDue) ∧
    (∃ (s : State), s.live ∧ s.boot.core ∧ s.elapsed s.mkt.isrcDue) ∧
    (∃ (s : State) (v : Verify), s.live ∧ s.mkt.backAt + secTicks 10 ≤ s.now) :=
  ⟨⟨trader, ⟨5, 9, 0, [8, 0, 100, 0, 100, 0]⟩, ⟨400, 20⟩, by decide +kernel, by decide +kernel, by decide +kernel, by
    decide +kernel⟩,
  ⟨trader, ⟨5, 9, 0, [8, 0, 100, 0, 100, 0]⟩, ⟨400, 20⟩, by decide +kernel, by decide +kernel, by decide +kernel, by
    decide +kernel, by decide +kernel, by decide +kernel, by decide +kernel, by decide +kernel, by decide +kernel⟩,
  ⟨{ trader with mkt := { trader.mkt with cache := [stallEntry 5 [(0, 4), (13, 3), (14, 2), (16, 9), (17, 0x60), (18, 9), (19, 0x60)]] } },
    ⟨4, 9, 0, [5, 3, 1, 0, 96, 0]⟩, ⟨400, 20⟩, by decide +kernel, by decide +kernel, by decide +kernel, by
    decide +kernel, by decide +kernel, by decide +kernel, by decide +kernel, by decide +kernel, by decide +kernel⟩,
  ⟨{ trader with mkt := { trader.mkt with bids := [⟨9, 7, 1, 240, 0, 0, some 0, 0⟩], cache := [stallEntry 9 [(13, 7), (14, 2), (16, 9), (17, 0x60), (18, 9), (19, 0x60), (35, 1), (36, 1), (38, 240)]] } },
    ⟨3, 9, 0, [5, 7, 1, 0, 240]⟩, ⟨400, 20⟩,
    ({ trader with mkt := { trader.mkt with bids := [⟨9, 7, 1, 240, 0, 0, some 0, 0⟩], cache := [stallEntry 9 [(13, 7), (14, 2), (16, 9), (17, 0x60), (18, 9), (19, 0x60), (35, 1), (36, 1), (38, 240)]] } }).mkt.bids.headD
    ⟨9, 7, 1, 240, 0, 0, none, 0⟩, by decide +kernel, by decide +kernel, by decide +kernel, by decide +kernel, by
    decide +kernel, by decide +kernel, by decide +kernel, by decide +kernel, by decide +kernel, by decide +kernel, by
    decide +kernel, by decide +kernel, by decide +kernel, by decide +kernel⟩,
  ⟨{ trader with mkt := { trader.mkt with bids := [⟨9, 7, 1, 240, 0, 0, some 0, 0⟩], cache := [stallEntry 9 [(13, 7), (14, 2), (16, 9), (17, 0x60), (18, 9), (19, 0x60), (35, 1), (36, 1), (38, 240)]] } },
    ⟨2, 9, 0, [7]⟩, ⟨400, 20⟩, by decide +kernel, by decide +kernel, by decide +kernel, by decide +kernel, by
    decide +kernel, by decide +kernel, by decide +kernel, by decide +kernel, by decide +kernel⟩,
  ⟨{ trader with mkt := { trader.mkt with peers := [⟨9, some 0, some 0⟩] }, now := 4000000 }, 9, false, 0, by
    decide +kernel, by decide +kernel, by decide +kernel, by decide +kernel⟩,
  ⟨(trader.setFlag F.SRC_STATUS_TET_Q true).setField F.CONV_STATUS_TET_MODE 2, 17980, by decide +kernel, by
    decide +kernel, by decide +kernel⟩,
  ⟨{ trader.setFlag F.MKT_STATUS_CUTOFF true with mkt := { trader.mkt with cutDue := some 0 } }, by decide +kernel, by
    decide +kernel⟩,
  ⟨{ trader with mkt := { trader.mkt with isrcDue := some 0 } }, by decide +kernel, by decide +kernel, by
    decide +kernel⟩,
  ⟨{ trader with mkt := { trader.mkt with cache := [{ stallEntry 9 [] with dirty := true }] }, now := 400000 }, .ok, by
    decide +kernel, by decide +kernel⟩⟩

theorem met_by_offers_and_grants :
    (∃ (s : State) (tent : Bool) (pOff left : Nat) (e : StallCell), s.live ∧ s.marketActive ∧ s.flag F.MKT_CFG_OFFER_EN
      ∧ s.field F.CONV_STATUS_TET_MODE = 3 ∧ pOff ≤ min (s.pSrc left + s.pCell) 4800 ∧ s.tetOnly = false ∧ s.txFits
      (s.mkt.bids.length + 1) ∧ s.link.txOn ∧ s.stallCached s.selfAddr = some e ∧ e.bytes.length = 64) ∧
    (∃ (s : State) (tent : Bool) (pOff left : Nat), s.live ∧ s.marketActive ∧ s.flag F.MKT_CFG_OFFER_EN ∧ s.tetOnly ∧
      s.txFits (s.mkt.bids.length + 1)) ∧
    (∃ (s : State) (tent : Bool) (pOff left : Nat), s.live ∧ s.marketActive ∧ s.flag F.MKT_CFG_OFFER_EN ∧ (s.tetOnly ∨
      (s.field F.CONV_STATUS_TET_MODE = 3 ∧ pOff ≤ min (s.pSrc left + s.pCell) 4800)) ∧ s.txFits (s.mkt.bids.length + 1)
      = false) ∧
    (∃ (s : State) (grant left : Nat) (a : Nat), s.live ∧ s.marketActive ∧ s.offering ∧ s.offerKept ∧ s.nextBid = some a
      ∧ s.stallN a 25 1 = bidOpen ∧ s.txFits (s.mkt.granted.length + 2) ∧ s.link.txOn ∧ (s.offState s.selfAddr = stOpen
      ∨ grant = 0 ∨ s.grantedSum + grant ≤ s.pSrc left + s.pCell)) ∧
    (∃ (s : State) (grant left : Nat) (a : Nat), s.live ∧ s.marketActive ∧ s.offering ∧ s.offerKept ∧ s.nextBid = some a
      ∧ s.stallN a 25 1 ≠ bidOpen ∧ s.txFits (s.mkt.granted.length + 2) ∧ s.link.txOn) ∧
    (∃ (s : State) (grant left : Nat) (a : Nat), s.live ∧ s.marketActive ∧ s.offering ∧ s.offerKept ∧ s.nextBid = some a
      ∧ s.stallN a 25 1 = bidOpen ∧ s.offState s.selfAddr = stTent ∧ 0 < grant ∧ s.pSrc left + s.pCell < s.grantedSum +
      grant) ∧
    (∃ (s : State) (grant left : Nat) (a : Nat), s.live ∧ s.marketActive ∧ s.offering ∧ s.offerKept ∧ s.nextBid = none ∧
      s.mkt.granted.getLast? = some a ∧ grant < s.stallN a 29 2 ∧ s.txFits 1 ∧ s.link.txOn) ∧
    (∃ (s : State) (kind addr : Nat), s.mayWithdraw ∧ s.txFits 1 ∧ s.link.txOn) ∧
    (∃ (s : State) (kind addr : Nat), s.mayWithdraw ∧ s.txFits 1 = false) ∧
    (∃ (s : State), s.mayWithdraw ∧ s.elapsed s.mkt.tentDue ∧ s.offering ∧ s.txFits 1) :=
  ⟨⟨{ ((trader.setField F.CONV_STATUS_TET_MODE 3).setReg R.SRC_VIN_V 1200).setReg R.SRC_VIN_ILIM 500 with path := { trader.path with closed := some .vin } },
    true, 2400, 3000,
    (({ ((trader.setField F.CONV_STATUS_TET_MODE 3).setReg R.SRC_VIN_V 1200).setReg R.SRC_VIN_ILIM 500 with path := { trader.path with closed := some .vin } }).stallCached
    ({ ((trader.setField F.CONV_STATUS_TET_MODE 3).setReg R.SRC_VIN_V 1200).setReg R.SRC_VIN_ILIM 500 with path := { trader.path with closed := some .vin } }).selfAddr).getD
    ⟨0, [], false⟩, by decide +kernel, by decide +kernel, by decide +kernel, by decide +kernel, by decide +kernel, by
    decide +kernel, by decide +kernel, by decide +kernel, by decide +kernel, by decide +kernel⟩,
  ⟨trader.setReg R.SRC_EN 8, true, 2400, 3000, by decide +kernel, by decide +kernel, by decide +kernel, by
    decide +kernel, by decide +kernel⟩,
  ⟨{ trader.setField F.CONV_STATUS_TET_MODE 3 with link := { trader.link with txq := List.replicate 16 ⟨⟨7, 5, 0, []⟩, 0, 0⟩ } },
    true, 0, 3000, by decide +kernel, by decide +kernel, by decide +kernel, by decide +kernel, by decide +kernel⟩,
  ⟨{ (trader.setField F.CONV_STATUS_TET_MODE 3).setReg R.MKT_OFFER_FREE 2400 with mkt := { trader.mkt with waiting := [9], cache := [stallEntry 5 [(0, 4), (13, 3), (14, 2), (16, 9), (17, 0x60), (18, 9), (19, 0x60)], stallEntry 9 [(24, 6), (25, 1), (26, 4), (27, 4), (28, 0xB0)]] } },
    1000, 9000, 9, by decide +kernel, by decide +kernel, by decide +kernel, by decide +kernel, by decide +kernel, by
    decide +kernel, by decide +kernel, by decide +kernel, by decide +kernel⟩,
  ⟨{ (trader.setField F.CONV_STATUS_TET_MODE 3).setReg R.MKT_OFFER_FREE 2400 with mkt := { trader.mkt with waiting := [9], granted := [9], cache := [stallEntry 5 [(0, 4), (13, 3), (14, 2), (16, 9), (17, 0x60), (18, 9), (19, 0x60)], stallEntry 9 [(24, 6), (25, 2), (26, 4), (27, 4), (28, 0xB0), (29, 1)]] } },
    1000, 9000, 9, by decide +kernel, by decide +kernel, by decide +kernel, by decide +kernel, by decide +kernel, by
    decide +kernel, by decide +kernel, by decide +kernel⟩,
  ⟨{ (trader.setField F.CONV_STATUS_TET_MODE 3).setReg R.MKT_OFFER_FREE 2400 with mkt := { trader.mkt with waiting := [9], cache := [stallEntry 5 [(0, 4), (13, 3), (14, 1), (16, 9), (17, 0x60), (18, 9), (19, 0x60)], stallEntry 9 [(24, 6), (25, 1), (26, 4), (27, 4), (28, 0xB0)]] } },
    1000, 900, 9, by decide +kernel, by decide +kernel, by decide +kernel, by decide +kernel, by decide +kernel, by
    decide +kernel, by decide +kernel, by decide +kernel, by decide +kernel⟩,
  ⟨{ (trader.setField F.CONV_STATUS_TET_MODE 3).setReg R.MKT_OFFER_FREE 2400 with mkt := { trader.mkt with granted := [9], cache := [stallEntry 5 [(0, 4), (13, 3), (14, 2), (16, 9), (17, 0x60), (18, 9), (19, 0x60)], stallEntry 9 [(24, 6), (25, 2), (26, 4), (27, 4), (28, 0xB0), (29, 4), (30, 0xB0)]] } },
    600, 900, 9, by decide +kernel, by decide +kernel, by decide +kernel, by decide +kernel, by decide +kernel, by
    decide +kernel, by decide +kernel, by decide +kernel, by decide +kernel⟩,
  ⟨{ trader with mkt := { trader.mkt with granted := [9], bids := [⟨9, 7, 1, 240, 0, 0, some 0, 0⟩], cache := [stallEntry 5 [(0, 4), (13, 3), (14, 2), (16, 9), (17, 0x60)], stallEntry 9 [(24, 6), (25, 2), (26, 4), (27, 4), (28, 0xB0), (29, 4), (30, 0xB0)]] } },
    0, 0, by decide +kernel, by decide +kernel, by decide +kernel⟩,
  ⟨{ trader with link := { trader.link with txq := List.replicate 16 ⟨⟨7, 5, 0, []⟩, 0, 0⟩ } }, 0, 0, by decide +kernel,
    by decide +kernel⟩,
  ⟨{ trader with mkt := { trader.mkt with tentDue := some 0, cache := [stallEntry 5 [(0, 4), (13, 3), (14, 1), (16, 9), (17, 0x60)]] } },
    by decide +kernel, by decide +kernel, by decide +kernel, by decide +kernel⟩⟩

theorem met_by_bids_and_refresh :
    (∃ (s : State) (addr req : Nat) (e : StallCell), s.live ∧ s.marketActive ∧ s.flag F.MKT_CFG_BID_EN ∧ s.ownAddr ≠
      some addr ∧ s.offerStands addr ∧ s.otherBids addr + req ≤ s.regN R.SRC_TET_ILIM * 24 ∧ ((s.bidOn addr).isSome ∨
      s.mkt.bids.length < 4) ∧ (s.txFits (if s.offering then 2 else 1)) ∧ s.link.txOn ∧ s.stallCached s.selfAddr = some
      e ∧ e.bytes.length = 64) ∧
    (∃ (s : State) (addr req : Nat), s.live ∧ s.marketActive ∧ s.flag F.MKT_CFG_BID_EN ∧ s.ownAddr ≠ some addr ∧
      s.offerStands addr ∧ s.otherBids addr + req ≤ s.regN R.SRC_TET_ILIM * 24 ∧ ((s.bidOn addr).isSome ∨
      s.mkt.bids.length < 4) ∧ (s.txFits (if s.offering then 2 else 1) = false)) ∧
    (∃ (s : State), s.live ∧ s.marketActive ∧ s.txFits (s.mkt.bids.length + 1) ∧ s.link.txOn) ∧
    (∃ (s : State), s.live ∧ s.marketActive ∧ s.mkt.bids = [] ∧ s.offering ∧ s.offerKept ∧ (∀ d ∈ s.mkt.offerAt, d +
      secTicks 60 ≤ s.now) ∧ s.mkt.offerAt ≠ none ∧ s.txFits 1 = false) ∧
    (∃ (s : State), s.live ∧ s.marketActive ∧ s.bidsKept ∧ s.txFits s.mkt.bids.length ∧ s.link.txOn) :=
  ⟨⟨trader, 9, 96, ((trader).stallCached (trader).selfAddr).getD ⟨0, [], false⟩, by decide +kernel, by decide +kernel,
    by decide +kernel, by decide +kernel, by decide +kernel, by decide +kernel, by decide +kernel, by decide +kernel, by
    decide +kernel, by decide +kernel, by decide +kernel⟩,
  ⟨{ trader with link := { trader.link with txq := List.replicate 16 ⟨⟨7, 5, 0, []⟩, 0, 0⟩ } }, 9, 96, by
    decide +kernel, by decide +kernel, by decide +kernel, by decide +kernel, by decide +kernel, by decide +kernel, by
    decide +kernel, by decide +kernel⟩,
  ⟨{ trader with mkt := { trader.mkt with bids := [⟨9, 7, 1, 240, 0, 0, none, 0⟩] }, now := 3000000 }, by
    decide +kernel, by decide +kernel, by decide +kernel, by decide +kernel⟩,
  ⟨{ trader.setField F.CONV_STATUS_TET_MODE 3 with now := 3000000, link := { trader.link with txq := List.replicate 16 ⟨⟨7, 5, 0, []⟩, 0, 0⟩ }, mkt := { trader.mkt with offerAt := some 0, cache := [stallEntry 5 [(0, 4), (13, 3), (14, 2), (16, 9), (17, 0x60)]] } },
    by decide +kernel, by decide +kernel, by decide +kernel, by decide +kernel, by decide +kernel, by decide +kernel, by
    decide +kernel, by decide +kernel⟩,
  ⟨{ trader with mkt := { trader.mkt with bids := [⟨9, 7, 1, 240, 0, 0, some 0, 0⟩, ⟨10, 7, 1, 240, 0, 0, some 0, 3⟩] }, now := 3000000 },
    by decide +kernel, by decide +kernel, by decide +kernel, by decide +kernel, by decide +kernel⟩⟩

theorem met_by_ledger_intake :
    (∃ (s : State) (v : Verify) (r : Rec) (k : Bank) (j : Nat), s.live ∧ s.nextRec = some r ∧ s.mayAccept r ∧
      s.cmd.finishing = [] ∧ (v = .ok ∨ v = .retried k j ∨ (v = .failed k j ∧ s.bankBad k))) ∧
    (∃ (s : State) (v : Verify) (r : Rec) (k : Bank) (j : Nat), s.live ∧ s.nextRec = some r ∧ s.mayAccept r ∧
      s.cmd.finishing = [] ∧ v = .failed k j ∧ s.bankBad k = false) ∧
    (∃ (s : State) (v : Verify), s.live ∧ s.cmd.finishing = [] ∧ (∀ r ∈ s.nextRec, s.mayAccept r = false)) ∧
    (∃ (s : State) (r : Replay), s.live ∧ s.lgr.replay = some r) ∧
    (∃ (s : State) (n m : Nat), s.live) :=
  ⟨⟨{ live.setFlag F.LGR_STATUS_READY true with lgr := { live.lgr with waiting := [⟨2, 9, 3, [1, 2, 3]⟩] } }, .ok, ⟨2,
    9, 3, [1, 2, 3]⟩, .a, 0, by decide +kernel, by decide +kernel, by decide +kernel, by decide +kernel, by
    decide +kernel⟩,
  ⟨{ live.setFlag F.LGR_STATUS_READY true with lgr := { live.lgr with waiting := [⟨2, 2, 2, [1, 2, 3]⟩] } }, .failed .b
    0, ⟨2, 2, 2, [1, 2, 3]⟩, .b, 0, by decide +kernel, by decide +kernel, by decide +kernel, by decide +kernel, by
    decide +kernel, by decide +kernel⟩,
  ⟨{ live with lgr := { live.lgr with waiting := [⟨2, 2, 2, [1, 2, 3]⟩] } }, .ok, by decide +kernel, by decide +kernel,
    by decide +kernel⟩,
  ⟨{ live with lgr := { live.lgr with replay := some ⟨0, 0, 0, false, false, 0⟩ } }, ⟨0, 0, 0, false, false, 0⟩, by
    decide +kernel, by decide +kernel⟩,
  ⟨{ live.setFlag F.LGR_STATUS_READY true with lgr := { live.lgr with waiting := [⟨2, 9, 3, [1, 2, 3]⟩] } }, 1, 0, by
    decide +kernel⟩⟩

theorem met_by_ledger_commit_and_read :
    (∃ (s : State) (v : Verify) (e : SpoolEntry) (l : List SpoolEntry), s.live ∧ s.lgr.warned = false ∧ s.ledgerDead =
      false ∧ s.lgr.spool = e :: l ∧ s.cmd.finishing = []) ∧
    (∃ (s : State), s.live) ∧
    (∃ (s : State) (x : Nat × Nat × Bool), s.live ∧ s.flag F.LGR_STATUS_READY ∧ s.lgr.rdSetup = some x) :=
  ⟨⟨{ live with lgr := { live.lgr with spool := [⟨5, 416, 1⟩] } }, .ok,
    ({ live with lgr := { live.lgr with spool := [⟨5, 416, 1⟩] } }).lgr.spool.headD ⟨0, 0, 0⟩,
    ({ live with lgr := { live.lgr with spool := [⟨5, 416, 1⟩] } }).lgr.spool.drop 1, by decide +kernel, by
    decide +kernel, by decide +kernel, by decide +kernel, by decide +kernel⟩,
  ⟨{ live with lgr := { live.lgr with accs := [⟨0xC202, 3, 1, 2, 0⟩] } }, by decide +kernel⟩,
  ⟨{ live.setFlag F.LGR_STATUS_READY true with lgr := { live.lgr with rdSetup := some (0, 900, false) } },
    ({ live.setFlag F.LGR_STATUS_READY true with lgr := { live.lgr with rdSetup := some (0, 900, false) } }).lgr.rdSetup.getD
    (0, 0, false), by decide +kernel, by decide +kernel, by decide +kernel⟩⟩

theorem met_by_ledger_windows :
    (∃ (s : State) (via : Via), s.live ∧ s.reaches via 0 R.LGR_CTRL ∧ s.actsNow via R.LGR_CTRL 1) ∧
    (∃ (s : State) (via : Via), s.live ∧ s.reaches via 0 R.LGR_RDCTRL) ∧
    (∃ (s : State) (via : Via), s.live ∧ s.reaches via 0 R.LGR_RDCTRL) ∧
    (∃ (s : State) (via : Via), s.live ∧ s.reaches via 0 R.LGR_RDCTRL) ∧
    (∃ (s : State) (via : Via) (n : Nat), s.live ∧ s.reaches via 0 R.LGR_RDDATA) ∧
    (∃ (s : State) (via : Via) (v : Word), s.live ∧ s.reaches via 0 R.LGR_HPOST ∧ fieldOf v 8 8 = 0 ∧ s.flag
      F.LGR_STATUS_HPEND = false ∧ 1 ≤ fieldOf v 0 4 ∧ fieldOf v 4 4 ≤ 12) ∧
    (∃ (s : State) (via : Via) (v : Word), s.live ∧ s.reaches via 0 R.LGR_HPOST ∧ fieldOf v 8 8 = 0 ∧ (s.flag
      F.LGR_STATUS_HPEND ∨ fieldOf v 0 4 = 0 ∨ 12 < fieldOf v 4 4)) :=
  ⟨⟨{ hosted.setFlag F.LGR_STATUS_READY true with lgr := { live.lgr with accs := [⟨0xC202, 3, 1, 2, 900000⟩] } },
    .firmware, by decide +kernel, by decide +kernel, by decide +kernel⟩,
  ⟨hosted, .firmware, by decide +kernel, by decide +kernel⟩,
  ⟨hosted, .firmware, by decide +kernel, by decide +kernel⟩,
  ⟨hosted, .firmware, by decide +kernel, by decide +kernel⟩,
  ⟨{ hosted with lgr := { live.lgr with rdBuf := [1, 2, 3] } }, .firmware, 1, by decide +kernel, by decide +kernel⟩,
  ⟨hosted, .firmware, 0x3C, by decide +kernel, by decide +kernel, by decide +kernel, by decide +kernel, by
    decide +kernel, by decide +kernel⟩,
  ⟨live.setFlag F.LGR_STATUS_HPEND true, .firmware, 0x3C, by decide +kernel, by decide +kernel, by decide +kernel, by
    decide +kernel⟩⟩

theorem met_by_command_queue :
    (∃ (s : State) (v : Verify) (x : QueuedCmd) (l : List QueuedCmd), s.live ∧ s.cmd.queue = x :: l ∧ x.src = srcPortH ∧
      x.code = R.VDT_CTRL ∧ natAt x.args 0 2 = 1 ∧ s.cmdReady ∧ (s.ledgerDead ∨ s.mayAccept (s.acceptOf x))) ∧
    (∃ (s : State) (v : Verify) (x : QueuedCmd) (l : List QueuedCmd), s.cmd.queue = x :: l ∧ (lastingCodes.contains
      x.code ∨ x.src = srcPortH) ∧ s.cmdReady ∧ (s.ledgerDead ∨ s.mayAccept (s.acceptOf x)) ∧ s.twb.held = none) ∧
    (∃ (s : State) (v : Verify) (x : QueuedCmd) (l : List QueuedCmd), s.cmd.queue = x :: l ∧ s.cmdReady = false ∧
      s.twb.held = none) ∧
    (∃ (s : State), s.phase = .run ∧ s.served ∧ s.cmd.replayDue ∧ (s.ledgerDead ∨ s.flag F.LGR_STATUS_READY) ∧
      s.boot.secureDue = false ∧ s.actPending = false) ∧
    (∃ (s : State) (x : Nat × List Byte), s.phase = .run ∧ s.served ∧ s.cmd.replayDue ∧ (s.ledgerDead ∨ s.flag
      F.LGR_STATUS_READY) ∧ s.boot.secureDue = false ∧ s.actPending = false ∧ s.toReplay = [x] ∧ (acceptCommand x.2).src
      = srcPortH ∧ (acceptCommand x.2).code = R.VDT_CTRL ∧ natAt (acceptCommand x.2).args 0 2 = 1) ∧
    (∃ (s : State) (f : Option Bun) (code : Nat), s.phase = .run ∧ 8 ≤ s.cmd.queue.length) :=
  ⟨⟨{ serving with cmd := { serving.cmd with queue := [⟨0, 0x0913, 0, [0, 1], true⟩] } }, .ok,
    ({ serving with cmd := { serving.cmd with queue := [⟨0, 0x0913, 0, [0, 1], true⟩] } }).cmd.queue.headD ⟨0, 0, 0, [],
    true⟩, ({ serving with cmd := { serving.cmd with queue := [⟨0, 0x0913, 0, [0, 1], true⟩] } }).cmd.queue.drop 1, by
    decide +kernel, by decide +kernel, by decide +kernel, by decide +kernel, by decide +kernel, by decide +kernel, by
    decide +kernel⟩,
  ⟨{ serving with cmd := { serving.cmd with queue := [⟨1, 0x11, 0, [0, 0, 0, 1, 0], true⟩] } }, .ok,
    ({ serving with cmd := { serving.cmd with queue := [⟨1, 0x11, 0, [0, 0, 0, 1, 0], true⟩] } }).cmd.queue.headD ⟨0, 0,
    0, [], true⟩,
    ({ serving with cmd := { serving.cmd with queue := [⟨1, 0x11, 0, [0, 0, 0, 1, 0], true⟩] } }).cmd.queue.drop 1, by
    decide +kernel, by decide +kernel, by decide +kernel, by decide +kernel, by decide +kernel⟩,
  ⟨{ serving with cmd := { serving.cmd with replayDue := true, queue := [⟨0, 0x0913, 0, [0, 1], true⟩] } }, .ok,
    ({ serving with cmd := { serving.cmd with replayDue := true, queue := [⟨0, 0x0913, 0, [0, 1], true⟩] } }).cmd.queue.headD
    ⟨0, 0, 0, [], true⟩,
    ({ serving with cmd := { serving.cmd with replayDue := true, queue := [⟨0, 0x0913, 0, [0, 1], true⟩] } }).cmd.queue.drop
    1, by decide +kernel, by decide +kernel, by decide +kernel⟩,
  ⟨{ serving with cmd := { serving.cmd with replayDue := true } }, by decide +kernel, by decide +kernel, by
    decide +kernel, by decide +kernel, by decide +kernel, by decide +kernel⟩,
  ⟨{ ({ serving with lgr := { serving.lgr with nextSeq := 1 } }.acceptRec ⟨2, 9, 0x10, [0, 9, 0x13, 0, 0, 0, 0, 0, 0, 1, 0, 1, 0, 0, 0, 0, 0, 0, 0, 0]⟩ .ok) with cmd := { serving.cmd with replayDue := true } },
    ({ ({ serving with lgr := { serving.lgr with nextSeq := 1 } }.acceptRec ⟨2, 9, 0x10, [0, 9, 0x13, 0, 0, 0, 0, 0, 0, 1, 0, 1, 0, 0, 0, 0, 0, 0, 0, 0]⟩ .ok) with cmd := { serving.cmd with replayDue := true } }).toReplay.headD
    (0, []), by decide +kernel, by decide +kernel, by decide +kernel, by decide +kernel, by decide +kernel, by
    decide +kernel, by decide +kernel, by decide +kernel, by decide +kernel, by decide +kernel⟩,
  ⟨{ serving with cmd := { serving.cmd with queue := List.replicate 8 ⟨0, 0x0913, 0, [0, 1], true⟩ } }, none, 0, by
    decide +kernel, by decide +kernel⟩⟩

theorem met_by_sessions :
    (∃ (s : State) (b : Bun) (code : Nat), s.listens b 0x01 (beBytes 4 code) ∧ s.svc.session = none ∧ s.svc.lockDue =
      none ∧ s.codeRight (code % 4294967296)) ∧
    (∃ (s : State) (b : Bun) (code : Nat) (x : Session), s.listens b 0x01 (beBytes 4 code) ∧ s.svc.session = some x ∧
      s.svc.lockDue = none ∧ s.codeRight (code % 4294967296)) ∧
    (∃ (s : State) (b : Bun) (code : Nat), s.listens b 0x01 (beBytes 4 code) ∧ s.svc.session = none) ∧
    (∃ (s : State) (b : Bun), s.serves b 0x02 []) ∧
    (∃ (s : State) (x : Session), s.live ∧ s.svc.session = some x ∧ x.due ≤ s.now) ∧
    (∃ (s : State) (via : Via), s.live ∧ s.reaches via 0 R.SVC_CTRL) ∧
    (∃ (s : State), s.live ∧ s.elapsed s.svc.lockDue) ∧
    (∃ (s : State) (b : Bun) (code : Nat), s.listens b code [] ∧ code ∉ lastingCodes ++ volatileCodes) ∧
    (∃ (s : State) (tr : Transport) (l : List Byte), s.carries tr l ∧ s.served ∧ (s.bootRom → tr ≠ .optical ∧ s.part =
      .qtl6410) ∧ bunBegun l ∧ bunRight l = false) ∧
    (∃ (s : State) (c : Instr) (b : Bun) (code : Nat) (args : List Byte) (x y : Nat) (f : Bool) (v : Word), ((c =
      .closeSession b ∧ code = 0x02 ∧ args = []) ∨ (c = .regRead b x y ∧ code = 0x10 ∧ args = beBytes 2 x ++ [byte y]) ∨
      (c = .lgrRead b x y 1 ∧ code = 0x20 ∧ args = beBytes 5 x ++ [byte y, 1]) ∨ (c = .stallRead b x ∧ code = 0x21 ∧
      args = [byte x]) ∨ (c = .wbRead b x ∧ code = 0x22 ∧ args = [byte x]) ∨ (c = .wbSnapshot b ∧ code = 0x23 ∧ args =
      []) ∨ (c = .fwBegin b x ∧ code = 0x40 ∧ args = beBytes 4 x) ∨ (c = .regWrite b x v f ∧ code = 0x11 ∧ args =
      beBytes 2 x ++ beBytes 2 v.toNat ++ [boolByte f]) ∨ (c = .wbCalibrate b x ∧ code = 0x24 ∧ args = beBytes 2 x) ∨ (c
      = .imgWrite b f ∧ code = 0x31 ∧ args = [boolByte f]) ∨ (c = .fwWrite b ∧ code = 0x42 ∧ args = []) ∨ (c =
      .fwActivate b x f ∧ code = 0x43 ∧ args = [byte x, boolByte f]) ∨ (c = .buniliaReset b x ∧ code = 0x50 ∧ args =
      [byte x]) ∨ (c = .buniliaShip b ∧ code = 0x51 ∧ args = []) ∨ (c = .cellNew b ∧ code = 0x52 ∧ args = []) ∨ (c =
      .proofReq b ∧ code = 0x53 ∧ args = [])) ∧ s.listens b code args ∧ s.codeUnknown (bunCmd b code []) = false ∧
      s.svc.session.map Session.transport ≠ some b.transport) :=
  ⟨⟨{ serving with svc := Svc.reset }, ⟨.usb, true, 7⟩, 5, by decide +kernel, by decide +kernel, by decide +kernel, by
    decide +kernel⟩,
  ⟨serving, ⟨.usb, true, 7⟩, 5, (serving).svc.session.getD ⟨.usb, true, 0⟩, by decide +kernel, by decide +kernel, by
    decide +kernel, by decide +kernel⟩,
  ⟨{ serving.setGroup R.SVC_CODE_H 2 9 with svc := { Svc.reset with wrong := [0, 0, 0, 0] } }, ⟨.usb, true, 7⟩, 5, by
    decide +kernel, by decide +kernel⟩,
  ⟨serving, ⟨.usb, true, 7⟩, by decide +kernel⟩,
  ⟨{ serving with now := 1000000000 }, ({ serving with now := 1000000000 }).svc.session.getD ⟨.usb, true, 0⟩, by
    decide +kernel, by decide +kernel, by decide +kernel⟩,
  ⟨serving, .firmware, by decide +kernel, by decide +kernel⟩,
  ⟨{ serving with svc := { serving.svc with lockDue := some 0 } }, by decide +kernel, by decide +kernel⟩,
  ⟨serving, ⟨.usb, true, 7⟩, 0x77, by decide +kernel, by decide +kernel⟩,
  ⟨serving, .usb, [0xB5, 2, 0, 0, 0x77, 0, 9, 1, 1], by decide +kernel, by decide +kernel, by decide +kernel, by
    decide +kernel, by decide +kernel⟩,
  ⟨{ serving with svc := Svc.reset }, .regRead ⟨.usb, true, 7⟩ 0x0A00 3, ⟨.usb, true, 7⟩, 0x10, beBytes 2 0x0A00 ++ [3],
    0x0A00, 3, true, 1, by decide +kernel, by decide +kernel, by decide +kernel, by decide +kernel⟩⟩

theorem met_by_volatile_commands :
    (∃ (s : State) (b : Bun), s.serves b 0x03 []) ∧
    (∃ (s : State) (b : Bun) (addr n : Nat), s.serves b 0x10 (beBytes 2 addr ++ [byte n]) ∧ n < 256) ∧
    (∃ (s : State) (b : Bun) (seq mode n : Nat), s.serves b 0x20 (beBytes 5 seq ++ [byte mode, byte n]) ∧ mode < 256 ∧ n
      < 256) ∧
    (∃ (s : State) (b : Bun) (addr : Nat), s.serves b 0x21 [byte addr] ∧ addr < 256) ∧
    (∃ (s : State) (b : Bun) (typ : Nat), s.serves b 0x22 [byte typ] ∧ typ < 256) ∧
    (∃ (s : State) (b : Bun), s.serves b 0x23 []) ∧
    (∃ (s : State) (b : Bun) (offset : Nat) (data : List Byte), s.serves b 0x30 (beBytes 2 offset ++ data) ∧ offset <
      65536) ∧
    (∃ (s : State) (b : Bun) (total : Nat), s.serves b 0x40 (beBytes 4 total) ∧ total < 4294967296) ∧
    (∃ (s : State) (b : Bun) (offset : Nat) (data : List Byte), s.serves b 0x41 (beBytes 4 offset ++ data) ∧ offset <
      4294967296) :=
  ⟨⟨serving, ⟨.usb, false, 7⟩, by decide +kernel⟩,
  ⟨serving, ⟨.usb, true, 7⟩, 0x0A00, 3, by decide +kernel, by decide +kernel⟩,
  ⟨serving, ⟨.usb, true, 7⟩, 7, 1, 4, by decide +kernel, by decide +kernel, by decide +kernel⟩,
  ⟨serving, ⟨.usb, true, 7⟩, 63, by decide +kernel, by decide +kernel⟩,
  ⟨{ serving with wb := { serving.wb with accepted := [(5, List.replicate 72 3)] } }, ⟨.usb, true, 7⟩, 5, by
    decide +kernel, by decide +kernel⟩,
  ⟨{ serving with wb := { serving.wb with run := true } }, ⟨.usb, true, 7⟩, by decide +kernel⟩,
  ⟨serving, ⟨.usb, true, 7⟩, 65530, [1, 2, 3, 4, 5, 6], by decide +kernel, by decide +kernel⟩,
  ⟨serving, ⟨.usb, true, 7⟩, 524288, by decide +kernel, by decide +kernel⟩,
  ⟨{ serving with svc := { serving.svc with fwTotal := some 516 } }, ⟨.usb, true, 7⟩, 512, [1, 2, 3, 4], by
    decide +kernel, by decide +kernel⟩⟩

theorem met_by_lasting_commands :
    (∃ (s : State) (c : Instr) (b : Bun) (code : Nat) (args : List Byte) (x : Nat) (f : Bool) (v : Word), ((c =
      .regWrite b x v f ∧ code = 0x11 ∧ args = beBytes 2 x ++ beBytes 2 v.toNat ++ [boolByte f]) ∨ (c = .wbCalibrate b x
      ∧ code = 0x24 ∧ args = beBytes 2 x) ∨ (c = .imgWrite b f ∧ code = 0x31 ∧ args = [boolByte f]) ∨ (c = .fwWrite b ∧
      code = 0x42 ∧ args = []) ∨ (c = .fwActivate b x f ∧ code = 0x43 ∧ x ≤ 1 ∧ args = [byte x, boolByte f]) ∨ (c =
      .buniliaReset b x ∧ code = 0x50 ∧ (x = 1 ∨ x = 2) ∧ args = [byte x]) ∨ (c = .buniliaShip b ∧ code = 0x51 ∧ args =
      []) ∨ (c = .cellNew b ∧ code = 0x52 ∧ args = []) ∨ (c = .proofReq b ∧ code = 0x53 ∧ args = [])) ∧ s.serves b code
      args ∧ s.waits (bunCmd b code args)) ∧
    (∃ (s : State) (b : Bun) (addr : Nat) (v : Word) (keyed : Bool), s.serves b 0x11 (beBytes 2 addr ++ beBytes 2
      v.toNat ++ [boolByte keyed]) ∧ s.takes (bunCmd b 0x11 (beBytes 2 addr ++ beBytes 2 v.toNat ++ [boolByte keyed])) ∧
      keyed = false ∧ addr ∈ R.SYS_INTMASK :: irqEnables) ∧
    (∃ (s : State) (b : Bun) (addr : Nat) (v : Word) (keyed : Bool), s.serves b 0x11 (beBytes 2 addr ++ beBytes 2
      v.toNat ++ [boolByte keyed]) ∧ s.takes (bunCmd b 0x11 (beBytes 2 addr ++ beBytes 2 v.toNat ++ [boolByte keyed])) ∧
      keyed) ∧
    (∃ (s : State) (b : Bun) (ma : Nat), s.serves b 0x24 (beBytes 2 ma) ∧ s.takes (bunCmd b 0x24 (beBytes 2 ma)) ∧ ma <
      65536) ∧
    (∃ (s : State) (b : Bun) (resetAfter : Bool), s.serves b 0x31 [boolByte resetAfter] ∧ s.takes (bunCmd b 0x31
      [boolByte resetAfter])) ∧
    (∃ (s : State) (b : Bun) (win : List Nat), s.serves b 0x42 [] ∧ s.takes (bunCmd b 0x42 []) ∧ win =
      (s.svc.fwTotal.map s.fwWindow).getD []) ∧
    (∃ (s : State) (b : Bun) (slot : Nat) (raiseFloor : Bool) (x : AB), s.serves b 0x43 [byte slot, boolByte raiseFloor]
      ∧ s.takes (bunCmd b 0x43 [byte slot, boolByte raiseFloor]) ∧ slot ≤ 1 ∧ (x = (if slot = 1 then .b else .a)) ∧
      (s.ledgerDead = false → (s.acceptRec (s.acceptOf (bunCmd b 0x43 [byte slot, boolByte raiseFloor]))
      .ok).storedActive = s.storedActive)) ∧
    (∃ (s : State) (b : Bun) (target : Nat), s.serves b 0x50 [byte target] ∧ s.takes (bunCmd b 0x50 [byte target]) ∧
      target < 256) ∧
    (∃ (s : State) (b : Bun), s.serves b 0x51 [] ∧ s.takes (bunCmd b 0x51 [])) ∧
    (∃ (s : State) (b : Bun), s.serves b 0x52 [] ∧ s.takes (bunCmd b 0x52 [])) ∧
    (∃ (s : State) (b : Bun), s.serves b 0x53 [] ∧ s.takes (bunCmd b 0x53 [])) :=
  ⟨⟨{ serving with cmd := { serving.cmd with replayDue := true } }, .proofReq ⟨.usb, true, 7⟩, ⟨.usb, true, 7⟩, 0x53,
    [], 0, true, 0, by decide +kernel, by decide +kernel, by decide +kernel⟩,
  ⟨serving, ⟨.usb, true, 0⟩, R.SYS_INTMASK, 0x5A5A, false, by decide +kernel, by decide +kernel, by decide +kernel, by
    decide +kernel⟩,
  ⟨serving, ⟨.usb, true, 0⟩, R.CFG_LOCK, 1, true, by decide +kernel, by decide +kernel, by decide +kernel⟩,
  ⟨{ serving.setFlag F.SYS_STATE_SERVICE true with wb := { serving.wb with run := true } }, ⟨.usb, true, 0⟩, 2000, by
    decide +kernel, by decide +kernel, by decide +kernel⟩,
  ⟨serving, ⟨.usb, true, 0⟩, true, by decide +kernel, by decide +kernel⟩,
  ⟨{ serving with svc := { serving.svc with fwTotal := some 512, chunks := [(0, List.replicate 512 7)] } }, ⟨.usb, true,
    0⟩, [0], by decide +kernel, by decide +kernel, by decide +kernel⟩,
  ⟨serving, ⟨.usb, true, 0⟩, 0, true, .a, by decide +kernel, by decide +kernel, by decide +kernel, by decide +kernel, by
    decide +kernel⟩,
  ⟨{ serving with wb := { serving.wb with run := true } }, ⟨.usb, true, 0⟩, 2, by decide +kernel, by decide +kernel, by
    decide +kernel⟩,
  ⟨serving, ⟨.usb, true, 0⟩, by decide +kernel, by decide +kernel⟩,
  ⟨serving, ⟨.usb, true, 0⟩, by decide +kernel, by decide +kernel⟩,
  ⟨serving, ⟨.usb, true, 0⟩, by decide +kernel, by decide +kernel⟩⟩

theorem met_by_slots_and_floor :
    (∃ (s : State) (a : Activation), s.phase = .run ∧ s.served ∧ s.flag F.SYS_STATE_PROOF = false ∧ s.flag
      F.SYS_STATE_ALARM = false ∧ s.svc.activation = some a) ∧
    (∃ (s : State) (v : Verify) (x : AB) (d : Nat), s.live ∧ s.boot.core ∧ s.boot.running = some x ∧ s.svc.floorFrom =
      some (x, d) ∧ d + secTicks 3600 ≤ s.now) :=
  ⟨⟨{ serving with svc := { serving.svc with activation := some ⟨.b, true, 3, .usb, 0, true, false⟩ } },
    ({ serving with svc := { serving.svc with activation := some ⟨.b, true, 3, .usb, 0, true, false⟩ } }).svc.activation.getD
    ⟨.b, true, 3, .usb, 0, true, false⟩, by decide +kernel, by decide +kernel, by decide +kernel, by decide +kernel, by
    decide +kernel⟩,
  ⟨{ serving with boot := { serving.boot with running := some .a, slotA := List.replicate 16 1 }, svc := { serving.svc with floorFrom := some (.a, 0) }, now := 3600 * 32768 },
    .ok, .a, 0, by decide +kernel, by decide +kernel, by decide +kernel, by decide +kernel, by decide +kernel⟩⟩

theorem met_by_type_c_port :
    (∃ (s : State), s.live ∧ s.part = .qtl6410 ∧ s.tcState = 0) ∧
    (∃ (s : State) (pin adv vbus : Nat) (low : Bool) (ticks : Nat), s.live ∧ s.part = .qtl6410 ∧ s.tcState = 1 ∧ pin ≤ 1
      ∧ adv ≤ 3 ∧ 4000 ≤ vbus ∧ msTicks 150 ≤ ticks) ∧
    (∃ (s : State) (vbus : Nat) (low : Bool) (ticks : Nat), s.live ∧ s.part = .qtl6410 ∧ s.tcState = 1 ∧ 4000 ≤ vbus ∧
      msTicks 150 ≤ ticks) ∧
    (∃ (s : State) (vbus ticks : Nat), s.live ∧ s.part = .qtl6410 ∧ (s.tcState = 2 ∨ s.tcState = 3) ∧ msTicks 15 ≤
      ticks) ∧
    (∃ (s : State) (ticks : Nat), msTicks 15 ≤ ticks ∧ s.live ∧ s.part = .qtl6410 ∧ s.tcState = 1) ∧
    (∃ (s : State) (adv ticks : Nat), msTicks 15 ≤ ticks ∧ s.live ∧ s.part = .qtl6410 ∧ s.tcState = 2 ∧ adv ≤ 3 ∧ adv ≠
      s.field F.TC_STATUS_ADV) ∧
    (∃ (s : State) (ticks : Nat), msTicks 150 ≤ ticks ∧ s.live ∧ s.part = .qtl6410 ∧ (s.tcState = 2 ∨ s.tcState = 3)) ∧
    (∃ (s : State), s.live ∧ s.part = .qtl6410 ∧ s.tcState = 2 ∧ bitOf s.pd.cfg 3 ∧ s.field F.TC_STATUS_ADV = 1 ∧
      s.pd.seen = false ∧ s.pd.bcRan = false ∧ s.qualified .vbus ∧ s.qualAt .vbus + msTicks 10 ≤ s.now) ∧
    (∃ (s : State) (result : Nat), s.live ∧ s.part = .qtl6410 ∧ s.tcState = 2 ∧ s.flag F.TC_STATUS_BC12_BUSY ∧ result ≤
      3) :=
  ⟨⟨live, by decide +kernel, by decide +kernel, by decide +kernel⟩,
  ⟨live.setField F.TC_STATUS_TCSTATE 1, 1, 3, 5000, true, 4916, by decide +kernel, by decide +kernel, by decide +kernel,
    by decide +kernel, by decide +kernel, by decide +kernel, by decide +kernel⟩,
  ⟨live.setField F.TC_STATUS_TCSTATE 1, 5000, false, 5000, by decide +kernel, by decide +kernel, by decide +kernel, by
    decide +kernel, by decide +kernel⟩,
  ⟨attached, 300, 500, by decide +kernel, by decide +kernel, by decide +kernel, by decide +kernel⟩,
  ⟨live.setField F.TC_STATUS_TCSTATE 1, 492, by decide +kernel, by decide +kernel, by decide +kernel, by
    decide +kernel⟩,
  ⟨attached, 2, 492, by decide +kernel, by decide +kernel, by decide +kernel, by decide +kernel, by decide +kernel, by
    decide +kernel⟩,
  ⟨{ attached with path := { attached.path with vbusBlocked := true } }, 4916, by decide +kernel, by decide +kernel, by
    decide +kernel, by decide +kernel⟩,
  ⟨{ attached.setField F.TC_STATUS_ADV 1 with pd := Pd.reset }, by decide +kernel, by decide +kernel, by decide +kernel,
    by decide +kernel, by decide +kernel, by decide +kernel, by decide +kernel, by decide +kernel, by decide +kernel⟩,
  ⟨{ (attached.setField F.TC_STATUS_ADV 1).setFlag F.TC_STATUS_BC12_BUSY true with boot := { live.boot with loaded := some .a } },
    3, by decide +kernel, by decide +kernel, by decide +kernel, by decide +kernel, by decide +kernel⟩⟩

theorem met_by_power_contract :
    (∃ (s : State) (h : PdHeader) (objs : List Nat) (posted : Bool), s.pdHears h ∧ s.awaitsCaps ∧ objs.length ≤ 7) ∧
    (∃ (s : State) (h : PdHeader) (objs : List Nat) (posted : Bool), s.pdHears h ∧ s.awaitsCaps = false) ∧
    (∃ (s : State) (h : PdHeader), s.pdHears h ∧ (s.pd.req = none ∨ s.pd.acceptAt ≠ none)) ∧
    (∃ (s : State) (h : PdHeader) (r : PdReq), s.pdHears h ∧ s.pd.req = some r ∧ s.pd.acceptAt = none) ∧
    (∃ (s : State) (h : PdHeader) (r : PdReq), s.pdHears h ∧ s.pd.req = some r ∧ s.pd.acceptAt ≠ none ∧ r.mv ≤ 48000 ∧
      r.ma ≤ 500 ∧ r.typ ≤ 2) ∧
    (∃ (s : State) (c : Instr) (h : PdHeader), c ∈ [.psRdyRx h, .waitRejectRx h] ∧ s.pdHears h ∧ (s.pd.req = none ∨ (c =
      .psRdyRx h ∧ s.pd.acceptAt = none) ∨ (c = .waitRejectRx h ∧ s.pd.acceptAt ≠ none))) ∧
    (∃ (s : State) (h : PdHeader) (r : PdReq), s.pdHears h ∧ s.pd.req = some r ∧ s.pd.acceptAt = none) ∧
    (∃ (s : State) (r : PdReq) (due : Nat), s.pdOn ∧ s.pdMayBegin ∧ s.pd.retry = some (r, due) ∧ due ≤ s.now ∧
      (s.pdHoldsVolt = false ∨ r.mv = s.pdVolt)) ∧
    (∃ (s : State), s.live) ∧
    (∃ (s : State) (r : PdReq), s.pdOn ∧ s.elapsed s.pd.keepDue ∧ s.pdMayBegin ∧ s.pd.contract = some r) ∧
    (∃ (s : State) (n : Nat) (r : PdReq), s.pdOn ∧ s.pd.capsAt = some n ∧ n + msTicks 12 ≤ s.now ∧ s.pdChoice true =
      some r) ∧
    (∃ (s : State) (n : Nat), s.pdOn ∧ s.pd.capsAt = some n ∧ n + msTicks 12 ≤ s.now ∧ s.pdChoice true = none) ∧
    (∃ (s : State) (on : Bool), s.live ∧ s.boot.core ∧ s.part = .qtl6410 ∧ s.flag F.PD_CTRL_TAKE ≠ on) ∧
    (∃ (s : State) (via : Via), s.live ∧ s.part = .qtl6410 ∧ s.reaches via 0 R.PD_CTRL) ∧
    (∃ (s : State) (via : Via), s.live ∧ s.part = .qtl6410 ∧ s.reaches via 0 R.PD_CTRL) :=
  ⟨⟨attached, ⟨2, 3⟩, [0x1912C, 0x2D0C8], true, by decide +kernel, by decide +kernel, by decide +kernel⟩,
  ⟨{ attached with pd := { attached.pd with req := some request9V } }, ⟨2, 3⟩, [], true, by decide +kernel, by
    decide +kernel⟩,
  ⟨{ attached with pd := { attached.pd with ask := some (.softReset, 5) } }, ⟨2, 3⟩, by decide +kernel, by
    decide +kernel⟩,
  ⟨{ attached with pd := { attached.pd with req := some request9V } }, ⟨2, 3⟩, request9V, by decide +kernel, by
    decide +kernel, by decide +kernel⟩,
  ⟨{ attached with pd := { attached.pd with req := some request9V, acceptAt := some 5 } }, ⟨2, 3⟩, request9V, by
    decide +kernel, by decide +kernel, by decide +kernel, by decide +kernel, by decide +kernel, by decide +kernel⟩,
  ⟨attached, .psRdyRx ⟨2, 3⟩, ⟨2, 3⟩, by decide +kernel, by decide +kernel, by decide +kernel⟩,
  ⟨{ attached with pd := { attached.pd with req := some request9V } }, ⟨2, 3⟩, request9V, by decide +kernel, by
    decide +kernel, by decide +kernel⟩,
  ⟨{ attached with pd := { attached.pd with retry := some (request9V, 5) } }, request9V, 5, by decide +kernel, by
    decide +kernel, by decide +kernel, by decide +kernel, by decide +kernel⟩,
  ⟨{ attached with pd := { attached.pd with refusals := [⟨2, 3, some 7⟩, ⟨3, 1, none⟩] } }, by decide +kernel⟩,
  ⟨{ attached with pd := { attached.pd with contract := some { request9V with typ := 1 }, keepDue := some 9 } },
    { request9V with typ := 1 }, by decide +kernel, by decide +kernel, by decide +kernel, by decide +kernel⟩,
  ⟨{ (attached.setReg R.PD_SRCPDOCNT 1).setGroup R.PD_SRCPDO0 2 0x1912C with pd := { attached.pd with capsAt := some 9 } },
    9,
    (({ (attached.setReg R.PD_SRCPDOCNT 1).setGroup R.PD_SRCPDO0 2 0x1912C with pd := { attached.pd with capsAt := some 9 } }).pdChoice
    true).getD request9V, by decide +kernel, by decide +kernel, by decide +kernel, by decide +kernel⟩,
  ⟨{ attached with pd := { attached.pd with capsAt := some 9 } }, 9, by decide +kernel, by decide +kernel, by
    decide +kernel, by decide +kernel⟩,
  ⟨attached, true, by decide +kernel, by decide +kernel, by decide +kernel, by decide +kernel⟩,
  ⟨{ attached.setFlag F.TWB_STATUS_AWAKE true with pd := { attached.pd with refusals := [⟨2, 3, some 7⟩] } }, .firmware,
    by decide +kernel, by decide +kernel, by decide +kernel⟩,
  ⟨{ attached.setFlag F.TWB_STATUS_AWAKE true with pd := { attached.pd with refusals := [⟨2, 3, some 7⟩] } }, .firmware,
    by decide +kernel, by decide +kernel, by decide +kernel⟩⟩

theorem met_by_power_messages :
    (∃ (s : State) (h : PdHeader), s.pdHears h ∧ s.pdBusy = false) ∧
    (∃ (s : State) (h : PdHeader), s.pdOn ∧ s.pd.bist ≠ 2) ∧
    (∃ (s : State) (h : PdHeader), s.pdHears h ∧ s.pdBusy = false) ∧
    (∃ (s : State) (h : PdHeader), s.pdHears h) ∧
    (∃ (s : State) (h : PdHeader) (data : List Byte) (n : Nat), s.pdHears h ∧ s.pd.ask = some (.getStatus, n)) ∧
    (∃ (s : State) (h : PdHeader) (data : List Byte), s.pdHears h ∧ s.pdBusy = false) ∧
    (∃ (s : State) (h : PdHeader) (mode : Nat), s.pdHears h ∧ (s.pdBusy = false ∨ s.at5V = false ∨ 2 ≤ mode)) ∧
    (∃ (s : State) (h : PdHeader), s.pdHears h ∧ s.pdBusy = false) ∧
    (∃ (s : State) (h : PdHeader) (kind svid pos cmd : Nat), s.pdHears h) ∧
    (∃ (s : State) (h : PdHeader), s.pdHears h ∧ s.pdBusy = false) ∧
    (∃ (s : State) (h : PdHeader), s.pdHears h ∧ s.pdBusy = false) ∧
    (∃ (s : State) (h : PdHeader) (svid : Nat), s.pdHears h ∧ s.pdBusy = false) ∧
    (∃ (s : State) (h : PdHeader) (svid pos : Nat), s.pdHears h ∧ s.pdBusy = false) ∧
    (∃ (s : State) (h : PdHeader) (svid pos : Nat), s.pdHears h ∧ s.pdBusy = false) ∧
    (∃ (s : State) (c : Instr) (h : PdHeader) (n : Nat) (l : List Byte), (c ∈ [.getSinkCapRx h, .getRevisionRx h,
      .swapRequestRx h, .unsupportedMessageRx h 0 n n n, .discoverIdentity h, .discoverSvids h, .discoverModes h n,
      .enterMode h n n, .exitMode h n n] ∨ (s.pdRev = 2 ∧ (c = .unsupportedMessageRx h 1 n n n ∨ (c = .alertRx h ∧
      s.fwOwns))) ∨ (c = .bistRx h (n % 2) ∧ s.at5V) ∨ (c = .statusMessageRx h l ∧ s.pd.ask.all fun x => x.1 !=
      .getStatus)) ∧ s.pdHears h ∧ s.pdBusy) ∧
    (∃ (s : State) (c : Instr) (h : PdHeader) (n : Nat) (b : Bool) (l : List Nat) (d : List Byte), c ∈
      [.sourceCapabilitiesRx h l b, .acceptRx h, .psRdyRx h, .waitRejectRx h, .getSinkCapRx h, .getRevisionRx h,
      .alertRx h, .statusMessageRx h d, .bistRx h n, .swapRequestRx h, .unsupportedMessageRx h n n n n,
      .discoverIdentity h, .discoverSvids h, .discoverModes h n, .enterMode h n n, .exitMode h n n] ∧ (¬s.pdHears h)) ∧
    (∃ (s : State) (via : Via), s.live ∧ s.part = .qtl6410 ∧ s.reaches via 0 R.PD_CTRL) :=
  ⟨⟨attached, ⟨2, 3⟩, by decide +kernel, by decide +kernel⟩,
  ⟨{ attached with pd := { attached.pd with req := some request9V } }, ⟨2, 3⟩, by decide +kernel, by decide +kernel⟩,
  ⟨attached, ⟨2, 3⟩, by decide +kernel, by decide +kernel⟩,
  ⟨attached.setFlag F.PD_STATUS_OWNER true, ⟨2, 3⟩, by decide +kernel⟩,
  ⟨{ attached with pd := { attached.pd with ask := some (.getStatus, 9) } }, ⟨2, 3⟩, [1, 2], 9, by decide +kernel, by
    decide +kernel⟩,
  ⟨attached, ⟨2, 3⟩, [1, 2], by decide +kernel, by decide +kernel⟩,
  ⟨{ attached with pd := { attached.pd with contract := some { request9V with mv := 5000 } } }, ⟨2, 3⟩, 0, by
    decide +kernel, by decide +kernel⟩,
  ⟨attached, ⟨2, 3⟩, by decide +kernel, by decide +kernel⟩,
  ⟨attached, ⟨2, 3⟩, 2, 0xFF00, 0, 6, by decide +kernel⟩,
  ⟨attached.setReg R.PD_VID 0x1234, ⟨2, 3⟩, by decide +kernel, by decide +kernel⟩,
  ⟨(attached.setReg R.PD_SVID 0x1234).setFlag F.PD_CFG_SVC_EN true, ⟨2, 3⟩, by decide +kernel, by decide +kernel⟩,
  ⟨(attached.setReg R.PD_SVID 0x1234).setFlag F.PD_CFG_SVC_EN true, ⟨2, 3⟩, 0x1234, by decide +kernel, by
    decide +kernel⟩,
  ⟨(attached.setReg R.PD_SVID 0x1234).setFlag F.PD_CFG_SVC_EN true, ⟨2, 3⟩, 0x1234, 1, by decide +kernel, by
    decide +kernel⟩,
  ⟨((attached.setReg R.PD_SVID 0x1234).setFlag F.PD_CFG_SVC_EN true).setFlag F.PD_STATUS_SVCMODE true, ⟨2, 3⟩, 0x1234,
    1, by decide +kernel, by decide +kernel⟩,
  ⟨{ attached with pd := { attached.pd with req := some request9V } }, .getSinkCapRx ⟨2, 3⟩, ⟨2, 3⟩, 0, [], by
    decide +kernel, by decide +kernel, by decide +kernel⟩,
  ⟨{ attached with pd := { attached.pd with rxId := some 3 } }, .getSinkCapRx ⟨2, 3⟩, ⟨2, 3⟩, 0, true, [], [], by
    decide +kernel, by decide +kernel⟩,
  ⟨(attached.setFlag F.TWB_STATUS_AWAKE true).setFlag F.PD_STATUS_SVCMODE true, .firmware, by decide +kernel, by
    decide +kernel, by decide +kernel⟩⟩

theorem met_by_power_timers :
    (∃ (s : State), s.pdOn) ∧
    (∃ (s : State) (r : PdReq), s.pdOn ∧ s.pd.req = some r ∧ s.pd.acceptAt = none ∧ s.pd.reqAt + msTicks 30 ≤ s.now) ∧
    (∃ (s : State) (m : PdMsg) (n : Nat), s.pdOn ∧ s.pd.req = none ∧ s.pd.ask = some (m, n) ∧ n + msTicks 30 ≤ s.now) ∧
    (∃ (s : State), s.pdOn ∧ s.qualified .vbus ∧ s.pd.capsSeen = false ∧ s.flag F.PD_STATUS_NONPD = false ∧ s.capsFrom +
      msTicks 465 ≤ s.now) ∧
    (∃ (s : State) (n : Nat), s.pdOn ∧ s.pd.req ≠ none ∧ s.pd.acceptAt = some n ∧ n + msTicks 500 ≤ s.now) ∧
    (∃ (s : State) (m : PdMsg), s.pdOn ∧ s.pd.sentAt + msTicks 1 ≤ s.now ∧ s.pd.sent = some m ∧ m ≠ .hardReset) ∧
    (∃ (s : State), s.pdOn ∧ s.pd.sentAt + msTicks 1 ≤ s.now ∧ s.pd.sent = some .accept ∧ 3 ≤ s.pd.tries) ∧
    (∃ (s : State), s.pdOn ∧ s.elapsed s.pd.noRespDue ∧ s.flag F.PD_STATUS_NONPD = false) ∧
    (∃ (s : State), s.pdOn ∧ s.elapsed s.pd.hrDue ∧ s.qualified .vbus) ∧
    (∃ (s : State), s.live ∧ s.elapsed s.pd.collapseDue) ∧
    (∃ (s : State), s.live ∧ s.elapsed s.pd.bistDue) ∧
    (∃ (s : State), s.pdOn ∧ s.elapsed s.pd.chunkDue) ∧
    (∃ (s : State) (m : PdMsg) (l : List PdMsg), s.pdOn ∧ s.pdMayBegin ∧ s.pd.held = m :: l) :=
  ⟨⟨{ attached with pd := { attached.pd with contract := some request9V } }, by decide +kernel⟩,
  ⟨{ attached with pd := { attached.pd with req := some request9V } }, request9V, by decide +kernel, by decide +kernel,
    by decide +kernel, by decide +kernel⟩,
  ⟨{ attached with pd := { attached.pd with ask := some (.getStatus, 5) } }, .getStatus, 5, by decide +kernel, by
    decide +kernel, by decide +kernel, by decide +kernel⟩,
  ⟨attached, by decide +kernel, by decide +kernel, by decide +kernel, by decide +kernel, by decide +kernel⟩,
  ⟨{ attached with pd := { attached.pd with req := some request9V, acceptAt := some 3 } }, 3, by decide +kernel, by
    decide +kernel, by decide +kernel, by decide +kernel⟩,
  ⟨{ attached with pd := { attached.pd with sent := some .accept } }, .accept, by decide +kernel, by decide +kernel, by
    decide +kernel, by decide +kernel⟩,
  ⟨{ attached with pd := { attached.pd with sent := some .accept, tries := 3 } }, by decide +kernel, by decide +kernel,
    by decide +kernel, by decide +kernel⟩,
  ⟨{ attached with pd := { attached.pd with noRespDue := some 5 } }, by decide +kernel, by decide +kernel, by
    decide +kernel⟩,
  ⟨{ attached with pd := { attached.pd with hrDue := some 5 } }, by decide +kernel, by decide +kernel, by
    decide +kernel⟩,
  ⟨{ attached with pd := { attached.pd with collapseDue := some 5 } }, by decide +kernel, by decide +kernel⟩,
  ⟨{ attached with pd := { attached.pd with bist := 1, bistDue := some 5 } }, by decide +kernel, by decide +kernel⟩,
  ⟨{ attached with pd := { attached.pd with chunkDue := some 5 } }, by decide +kernel, by decide +kernel⟩,
  ⟨{ attached with pd := { attached.pd with held := [.getSourceCap] } }, .getSourceCap, [], by decide +kernel, by
    decide +kernel, by decide +kernel⟩⟩

theorem met_by_usb_device :
    (∃ (s : State), s.live ∧ s.flag F.USB_STATUS_PULLUP = false ∧ s.flag F.USB_STATUS_NOHOST = false ∧ s.usbMay) ∧
    (∃ (s : State), s.flag F.USB_STATUS_PULLUP = false ∧ (s.live = false ∨ s.flag F.USB_STATUS_NOHOST ∨ s.usbMay =
      false)) ∧
    (∃ (s : State) (c : Instr) (n : Nat) (b : Bool) (o : Option Nat), c ∈ [.usbNohost, .usbBusReset b b, .usbSuspend,
      .usbResume o, .getStatus n n, .getDescriptor n n n n, .setAddress n, .setConfiguration n, .getConfiguration,
      .getInterface, .setInterface, .clearFeature b, .setFeature b, .usbStalledRequest, .getInfo, .abort] ∧ (s.live =
      false ∨ s.flag F.USB_STATUS_PULLUP = false)) ∧
    (∃ (s : State), s.live ∧ s.flag F.USB_STATUS_PULLUP) ∧
    (∃ (s : State) (n : Nat), s.live ∧ s.flag F.USB_STATUS_PULLUP ∧ s.usb.pullAt = some n ∧ n + secTicks 1 ≤ s.now) ∧
    (∃ (s : State) (setup chunk : Bool), s.live ∧ s.flag F.USB_STATUS_PULLUP) ∧
    (∃ (s : State), s.live ∧ s.flag F.USB_STATUS_PULLUP ∧ s.flag F.USB_STATUS_SUSPENDED = false ∧ s.usb.activeAt +
      msTicks 3 ≤ s.now) ∧
    (∃ (s : State) (sof : Option Nat), s.live ∧ s.flag F.USB_STATUS_PULLUP) ∧
    (∃ (s : State) (recip ep : Nat), s.live ∧ s.flag F.USB_STATUS_PULLUP) ∧
    (∃ (s : State) (typ idx lang len : Nat), s.live ∧ s.flag F.USB_STATUS_PULLUP) ∧
    (∃ (s : State) (a : Nat), s.live ∧ s.flag F.USB_STATUS_PULLUP ∧ a < 128) ∧
    (∃ (s : State) (n : Nat), s.live ∧ s.flag F.USB_STATUS_PULLUP) ∧
    (∃ (s : State), s.live ∧ s.flag F.USB_STATUS_PULLUP) ∧
    (∃ (s : State), s.live ∧ s.flag F.USB_STATUS_PULLUP) ∧
    (∃ (s : State), s.live ∧ s.flag F.USB_STATUS_PULLUP) ∧
    (∃ (s : State) (inEp : Bool), s.live ∧ s.flag F.USB_STATUS_PULLUP) ∧
    (∃ (s : State) (inEp : Bool), s.live ∧ s.flag F.USB_STATUS_PULLUP) ∧
    (∃ (s : State), s.live ∧ s.flag F.USB_STATUS_PULLUP) ∧
    (∃ (s : State), s.live ∧ s.flag F.USB_STATUS_PULLUP) ∧
    (∃ (s : State), s.live ∧ s.flag F.USB_STATUS_PULLUP) ∧
    (∃ (s : State), s.live) :=
  ⟨⟨(attached.setFlag F.USB_CFG_EN true).setReg R.USB_VID 0x1234, by decide +kernel, by decide +kernel, by
    decide +kernel, by decide +kernel⟩,
  ⟨live, by decide +kernel, by decide +kernel⟩,
  ⟨live, .usbSuspend, 1, true, none, by decide +kernel, by decide +kernel⟩,
  ⟨connected, by decide +kernel, by decide +kernel⟩,
  ⟨{ connected with usb := { connected.usb with pullAt := some 5 } }, 5, by decide +kernel, by decide +kernel, by
    decide +kernel, by decide +kernel⟩,
  ⟨connected, true, false, by decide +kernel, by decide +kernel⟩,
  ⟨connected.setField F.TC_STATUS_ADV 1, by decide +kernel, by decide +kernel, by decide +kernel, by decide +kernel⟩,
  ⟨(connected.setField F.TC_STATUS_ADV 1).setFlag F.USB_STATUS_SUSPENDED true, some 3000, by decide +kernel, by
    decide +kernel⟩,
  ⟨connected, 0, 0, by decide +kernel, by decide +kernel⟩,
  ⟨connected, 1, 0, 0, 18, by decide +kernel, by decide +kernel⟩,
  ⟨connected.setField F.USB_STATUS_STATE 1, 5, by decide +kernel, by decide +kernel, by decide +kernel⟩,
  ⟨connected, 1, by decide +kernel, by decide +kernel⟩,
  ⟨connected, by decide +kernel, by decide +kernel⟩,
  ⟨connected, by decide +kernel, by decide +kernel⟩,
  ⟨connected, by decide +kernel, by decide +kernel⟩,
  ⟨{ connected with usb := { connected.usb with haltIn := true, haltOut := true } }, true, by decide +kernel, by
    decide +kernel⟩,
  ⟨connected, true, by decide +kernel, by decide +kernel⟩,
  ⟨connected, by decide +kernel, by decide +kernel⟩,
  ⟨connected, by decide +kernel, by decide +kernel⟩,
  ⟨connected, by decide +kernel, by decide +kernel⟩,
  ⟨live, by decide +kernel⟩⟩

theorem met_by_optical_receiver :
    (∃ (s : State) (amb : Nat), s.live ∧ s.flag F.OPT_CFG_EN ∧ s.flag F.OPT_STATUS_SETTLING = false) ∧
    (∃ (s : State), s.live ∧ s.elapsed s.opt.listenDue ∧ s.optSession = false) ∧
    (∃ (s : State) (half : List Bool) (p : List Byte), s.live ∧ s.flag F.OPT_CFG_EN ∧ s.optCont ∧ s.flag
      F.OPT_STATUS_SETTLING = false ∧ optPayload half = some p) ∧
    (∃ (s : State) (half : List Bool), optPayload half = none ∧ s.live ∧ s.optCont ∧ s.flag F.OPT_STATUS_SETTLING =
      false) ∧
    (∃ (s : State) (c : Instr) (half : List Bool) (n : Nat), c ∈ [.optPreambleDetect n, .optFrameRx half, .optFrameError
      half, .optFlood n, .optSettleEnd n] ∧ (s.flag F.OPT_CFG_EN = false ∨ s.live = false ∨ (s.optCont = false ∧ c ∈
      [.optFrameRx half, .optFrameError half]) ∨ (s.flag F.OPT_STATUS_SETTLING ∧ c ∈ [.optPreambleDetect n, .optFrameRx
      half, .optFrameError half]) ∨ (c = .optFrameRx half ∧ optPayload half = none) ∨ (c = .optFrameError half ∧
      optPayload half ≠ none))) ∧
    (∃ (s : State) (amb : Nat), s.live ∧ s.flag F.OPT_CFG_EN) ∧
    (∃ (s : State) (amb n : Nat), s.live ∧ s.flag F.OPT_CFG_EN ∧ s.opt.floodAt = some n ∧ n + msTicks 50 ≤ s.now) ∧
    (∃ (s : State) (via : Via) (n : Nat), s.live ∧ s.reaches via 0 R.OPT_ANSDATA) :=
  ⟨⟨live.setFlag F.OPT_CFG_EN true, 7, by decide +kernel, by decide +kernel, by decide +kernel⟩,
  ⟨{ live with opt := { Opt.reset with listenDue := some 0 } }, by decide +kernel, by decide +kernel, by
    decide +kernel⟩,
  ⟨{ live.setFlag F.OPT_CFG_EN true with opt := { live.opt with listenDue := some 9 } }, optHalves [7], [7], by
    decide +kernel, by decide +kernel, by decide +kernel, by decide +kernel, by decide +kernel⟩,
  ⟨{ live.setFlag F.OPT_CFG_EN true with opt := { live.opt with listenDue := some 9 } }, [true, true], by
    decide +kernel, by decide +kernel, by decide +kernel, by decide +kernel⟩,
  ⟨live.setFlag F.OPT_CFG_EN false, .optFlood 3, [], 3, by decide +kernel, by decide +kernel⟩,
  ⟨live.setFlag F.OPT_CFG_EN true, 70000, by decide +kernel, by decide +kernel⟩,
  ⟨{ live.setFlag F.OPT_CFG_EN true with now := 5000, opt := { Opt.reset with floodAt := some 0 } }, 7, 0, by
    decide +kernel, by decide +kernel, by decide +kernel, by decide +kernel⟩,
  ⟨{ hosted with opt := { Opt.reset with buf := [1, 2, 3] } }, .firmware, 1, by decide +kernel, by decide +kernel⟩⟩

theorem met_by_port_h :
    (∃ (s : State) (addr : Nat), s.portHOn ∧ s.pointerKind addr ≠ none ∧ s.sysRuns = false) ∧
    (∃ (s : State), s.live ∧ s.elapsed s.twb.awakeDue) ∧
    (∃ (s : State) (ticks : Nat), s.portHOn ∧ 983 ≤ ticks ∧ (bitOf s.twb.cfg 1 ∨ bitOf s.twb.cfg 6)) ∧
    (∃ (s : State) (ticks : Nat), s.portHOn ∧ 1147 ≤ ticks) ∧
    (∃ (s : State) (addr ptr : Nat) (data : List Word) (pec : Byte), s.portHOn ∧ s.sysRuns ∧ s.pointerKind addr = some
      false ∧ s.pecOn ∧ s.pecWords = 1 ∧ ptr ∈ irqEnables ∧ data.length = 1 ∧ s.key .portH = none ∧ s.permits (.portH
      addr) ptr (data.headD 0)) ∧
    (∃ (s : State), s.live) ∧
    (∃ (s : State) (freed : Option Bool), s.portHOn ∧ s.boot.applied ∧ s.twb.pushDue ≠ none ∧ s.twb.sending = none ∧
      s.gapPassed ∧ s.twb.retryAt ≤ s.now ∧ s.intsum ≠ 0 ∧ freed ≠ some false) ∧
    (∃ (s : State) (freed : Option Bool), s.portHOn ∧ s.boot.applied ∧ s.twb.pushDue ≠ none ∧ s.twb.sending = none ∧
      s.gapPassed ∧ s.twb.retryAt ≤ s.now ∧ s.intsum ≠ 0 ∧ freed = some false) ∧
    (∃ (s : State) (freed : Option Bool), s.portHOn ∧ s.boot.applied ∧ s.twb.pushDue ≠ none ∧ s.twb.sending = none ∧
      s.gapPassed ∧ s.twb.retryAt ≤ s.now ∧ s.intsum = 0) ∧
    (∃ (s : State), s.twb.sending ≠ none) ∧
    (∃ (s : State), (s.twb.sending ≠ none ∨ s.elapsed (s.twb.pushDue.map fun d => d + secTicks 1)) ∧ s.field
      F.TWB_PUSH_RETRIES < 3) ∧
    (∃ (s : State), (s.twb.sending ≠ none ∨ s.elapsed (s.twb.pushDue.map fun d => d + secTicks 1)) ∧ s.field
      F.TWB_PUSH_RETRIES = 3) ∧
    (∃ (s : State), s.twb.sending ≠ none) :=
  ⟨⟨live.setField F.SYS_STATE_PSTATE 1, 0x58, by decide +kernel, by decide +kernel, by decide +kernel⟩,
  ⟨{ hosted with twb := { Twb.reset with awakeDue := some 0 } }, by decide +kernel, by decide +kernel⟩,
  ⟨{ hosted with twb := { Twb.reset with cfg := 2 } }, 983, by decide +kernel, by decide +kernel, by decide +kernel⟩,
  ⟨hosted, 1147, by decide +kernel, by decide +kernel⟩,
  ⟨{ (hosted.setReg R.TWB_CFG 0x0106) with twb := { Twb.reset with cfg := 0x0106 } }, 0x58, R.TET_IRQEN, [3], byte (crc8
    [0xB0, 0x05, byte R.TET_IRQEN, 0, 3]), by decide +kernel, by decide +kernel, by decide +kernel, by decide +kernel,
    by decide +kernel, by decide +kernel, by decide +kernel, by decide +kernel, by decide +kernel⟩,
  ⟨((hosted.setFlag F.TWB_CTL_CFG_EN true).setReg R.SYS_EVENT 1).setReg R.SYS_IRQEN 1, by decide +kernel⟩,
  ⟨{ ((hosted.setFlag F.TWB_CTL_CFG_EN true).setReg R.SYS_EVENT 1).setReg R.SYS_IRQEN 1 with twb := { Twb.reset with pushDue := some 0 } },
    none, by decide +kernel, by decide +kernel, by decide +kernel, by decide +kernel, by decide +kernel, by
    decide +kernel, by decide +kernel, by decide +kernel⟩,
  ⟨{ ((hosted.setFlag F.TWB_CTL_CFG_EN true).setReg R.SYS_EVENT 1).setReg R.SYS_IRQEN 1 with twb := { Twb.reset with pushDue := some 0 } },
    some false, by decide +kernel, by decide +kernel, by decide +kernel, by decide +kernel, by decide +kernel, by
    decide +kernel, by decide +kernel, by decide +kernel⟩,
  ⟨{ hosted with twb := { Twb.reset with pushDue := some 0 } }, none, by decide +kernel, by decide +kernel, by
    decide +kernel, by decide +kernel, by decide +kernel, by decide +kernel, by decide +kernel⟩,
  ⟨{ hosted with twb := { Twb.reset with pushDue := some 0, sending := some [1] } }, by decide +kernel⟩,
  ⟨{ hosted with twb := { Twb.reset with pushDue := some 0, sending := some [1] } }, by decide +kernel, by
    decide +kernel⟩,
  ⟨{ hosted.setField F.TWB_PUSH_RETRIES 3 with twb := { Twb.reset with pushDue := some 0, sending := some [1] } }, by
    decide +kernel, by decide +kernel⟩,
  ⟨{ hosted with twb := { Twb.reset with pushDue := some 0, sending := some [1] } }, by decide +kernel⟩⟩

theorem met_by_register_access :
    (∃ (s : State) (via : Via) (ptr : Nat) (data : List Word) (half : Option Byte), s.live ∧ ptr < 16384 ∧ s.reaches via
      0 ptr ∧ s.plain via ptr ∧ data.length = 1 ∧ s.permits via ptr (data.headD 0)) ∧
    (∃ (s : State) (via : Via) (ptr : Nat) (data : List Word) (half : Option Byte), s.live ∧ s.reaches via 0 ptr ∧ ptr =
      R.LGR_HBUF0 ∧ data.length ≤ 6) ∧
    (∃ (s : State) (via : Via) (ptr : Nat) (data : List Word) (half : Option Byte), s.live ∧ ptr < 16384 ∧ s.reaches via
      0 ptr ∧ s.plain via ptr ∧ data.length = 1 ∧ (∃ r ∈ s.info ptr, r.cfg = false ∧ s.legal r (s.kept ptr (data.headD
      0)) = false)) ∧
    (∃ (s : State) (via : Via) (a : Nat) (v : Word), s.live ∧ a < 16384 ∧ s.reaches via 1 a ∧ s.plain via a ∧ (s.permits
      via a (s.shown false a ||| v)) ∧ a ≠ R.SRC_EN) ∧
    (∃ (s : State) (via : Via) (a : Nat) (v : Word), s.live ∧ a < 16384 ∧ s.reaches via 2 a ∧ s.plain via a ∧ (s.permits
      via a (s.shown false a &&& ~~~v)) ∧ a ≠ R.SRC_EN) ∧
    (∃ (s : State) (via : Via) (a : Nat) (v : Word), s.live ∧ a < 16384 ∧ s.reaches via 3 a ∧ s.plain via a ∧ s.permits
      via a (s.shown false a ^^^ v) ∧ a ≠ R.SRC_EN) ∧
    (∃ (s : State) (via : Via) (ptr : Option Nat) (n : Nat) (late : Word) (a : Nat), s.live ∧ ptr = some a ∧ (a ∈
      (List.range 16).flatMap fun k => (irqPairs k).map (·.1)) ∧ s.reaches via 0 a ∧ s.info a ≠ none ∧ n = 1) ∧
    (∃ (s : State) (via : Via) (ptr : Nat) (data : List Word) (half : Option Byte), s.live ∧ ptr < 16384 ∧ s.reaches via
      0 ptr ∧ data.length = 1 ∧ (∃ r ∈ s.info ptr, r.access = .rw ∧ r.cfg ∧ ((s.shown false ptr ^^^ data.headD 0) &&&
      ~~~(freeBits ptr) &&& ~~~(BitVec.ofNat 16 r.reserved)) ≠ 0) ∧ (s.locked ∨ (via.req ≠ .firmware ∧ s.ra.hostLims =
      [] ∧ freeBits ptr = 0))) ∧
    (∃ (s : State) (via : Via) (ptr : Nat) (data : List Word) (half : Option Byte) (least most : Nat), s.live ∧ ptr ∈
      [R.SRC_RANK, R.SRC_VIN_ILIM, R.PATH_VSYSMIN, R.CHG_BAL_TSTBY, R.CONV_MAIN_IPK, R.MKT_TENTMAX, R.ALM_TDISC,
      R.ALM_TDISC2, R.VDT_DOSE] ∧ s.reaches via 0 ptr ∧ data.length = 1 ∧ s.locked = false ∧ via.req = .portH ∧
      s.ra.hostLims = [⟨ptr, 0xFFFF, BitVec.ofNat 16 least, BitVec.ofNat 16 most⟩] ∧ least ≤ most ∧ most < 65536 ∧ (∃ r
      ∈ s.info ptr, s.legal r (data.headD 0) ∧ s.legal r (BitVec.ofNat 16 least) ∧ s.legal r (BitVec.ofNat 16 most))) ∧
    (∃ (s : State) (via : Via) (ptr : Option Nat) (n : Nat) (late : Word) (a : Nat), s.live ∧ ptr = some a ∧ a < 16384 ∧
      s.reaches via 0 a ∧ groupOf a = none ∧ a ∉ windowRegs ∧ (∃ r ∈ s.info a, r.access = .ro ∨ r.access = .rw) ∧ n = 1)
      ∧
    (∃ (s : State) (via : Via) (v : Word), s.live ∧ s.reaches via 0 R.PAGESEL ∧ v.toNat ≤ 0x11) ∧
    (∃ (s : State) (via : Via) (a : Nat) (v : Word), s.live ∧ a ∈ keyedRegs ∧ s.reaches via 0 a) ∧
    (∃ (s : State), s.live ∧ (s.ra.keys.map ArmedKey.req).Nodup) ∧
    (∃ (s : State), s.live) ∧
    (∃ (s : State) (w : AonShadow), s.live ∧ s.ra.aonWrite = some w ∧ w.due ≤ s.now) :=
  ⟨⟨hosted, .firmware, R.TET_IRQEN, [3], none, by decide +kernel, by decide +kernel, by decide +kernel, by
    decide +kernel, by decide +kernel, by decide +kernel⟩,
  ⟨hosted, .firmware, R.LGR_HBUF0, [3, 4, 5], none, by decide +kernel, by decide +kernel, by decide +kernel, by
    decide +kernel⟩,
  ⟨hosted, .firmware, R.TET_IRQEN, [0x2003], none, by decide +kernel, by decide +kernel, by decide +kernel, by
    decide +kernel, by decide +kernel, by decide +kernel⟩,
  ⟨hosted, .firmware, R.TET_IRQEN, 0x104, by decide +kernel, by decide +kernel, by decide +kernel, by decide +kernel, by
    decide +kernel, by decide +kernel⟩,
  ⟨hosted, .firmware, R.TET_IRQEN, 0x104, by decide +kernel, by decide +kernel, by decide +kernel, by decide +kernel, by
    decide +kernel, by decide +kernel⟩,
  ⟨hosted, .firmware, R.TET_IRQEN, 0x104, by decide +kernel, by decide +kernel, by decide +kernel, by decide +kernel, by
    decide +kernel, by decide +kernel⟩,
  ⟨hosted.setReg R.TET_EVENT 0x104, .firmware, some R.TET_EVENT, 1, 4, R.TET_EVENT, by decide +kernel, by
    decide +kernel, by decide +kernel, by decide +kernel, by decide +kernel, by decide +kernel⟩,
  ⟨hosted.setFlag F.CFG_STATUS_LOCKED true, .firmware, R.SRC_EN, [7], none, by decide +kernel, by decide +kernel, by
    decide +kernel, by decide +kernel, by decide +kernel, by decide +kernel⟩,
  ⟨{ hosted with ra := { hosted.ra with hostLims := [⟨R.ALM_TDISC2, 0xFFFF, 5, 20⟩] } }, .portH 0x58, R.ALM_TDISC2,
    [30], none, 5, 20, by decide +kernel, by decide +kernel, by decide +kernel, by decide +kernel, by decide +kernel, by
    decide +kernel, by decide +kernel, by decide +kernel, by decide +kernel, by decide +kernel⟩,
  ⟨hosted, .firmware, some R.ALM_TDISC, 1, 0, R.ALM_TDISC, by decide +kernel, by decide +kernel, by decide +kernel, by
    decide +kernel, by decide +kernel, by decide +kernel, by decide +kernel, by decide +kernel⟩,
  ⟨hosted, .firmware, 0x11, by decide +kernel, by decide +kernel, by decide +kernel⟩,
  ⟨hosted, .firmware, R.SYS_SHIP, 1, by decide +kernel, by decide +kernel, by decide +kernel⟩,
  ⟨{ keyed R.SYS_SHIP 1 with now := 33 }, by decide +kernel, by decide +kernel⟩,
  ⟨{ live with now := 50, ra := { live.ra with holds := [⟨0xE20, [], 16⟩, ⟨0xE21, [], 17⟩] } }, by decide +kernel⟩,
  ⟨{ live.setFlag F.CLK_HWDCFG_EN true with now := 50, ra := { live.ra with aonWrite := some ⟨R.CLK_HWDCFG, 10, 11, 9, true⟩ } },
    ⟨R.CLK_HWDCFG, 10, 11, 9, true⟩, by decide +kernel, by decide +kernel, by decide +kernel⟩⟩

theorem met_by_power_registers :
    (∃ (s : State) (via : Via), s.live ∧ s.reaches via 0 R.ALM_CTRL) ∧
    (∃ (s : State) (via : Via) (v : Word), s.live ∧ s.reaches via 0 R.SRC_EN ∧ s.permits via R.SRC_EN v) ∧
    (∃ (s : State) (via : Via) (v : Word), s.live ∧ s.reaches via 0 R.SRC_RANK ∧ s.permits via R.SRC_RANK v) ∧
    (∃ (s : State) (via : Via) (v : Word), s.live ∧ s.reaches via 0 R.CONV_AUX ∧ s.permits via R.CONV_AUX v) ∧
    (∃ (s : State) (via : Via), s.live ∧ s.reaches via 0 R.CHG_CTRL ∧ s.actsNow via R.CHG_CTRL 1) ∧
    (∃ (s : State) (via : Via), s.live ∧ s.reaches via 0 R.CHG_CTRL ∧ s.actsNow via R.CHG_CTRL 2) ∧
    (∃ (s : State) (via : Via) (v : Word), s.live ∧ s.reaches via 0 R.WB_RDSEL ∧ s.permits via R.WB_RDSEL v) ∧
    (∃ (s : State) (via : Via) (n : Nat), s.live ∧ s.reaches via 0 R.WB_RDDATA) ∧
    (∃ (s : State) (via : Via) (n : Nat), s.live ∧ s.reaches via 0 R.VDT_NOTE) ∧
    (∃ (s : State) (via : Via), s.live ∧ s.reaches via 0 R.VDT_CTRL ∧ s.actsNow via R.VDT_CTRL 1) ∧
    (∃ (s : State) (via : Via), s.live ∧ s.reaches via 0 R.TET_CTRL ∧ s.actsNow via R.TET_CTRL 1) ∧
    (∃ (s : State) (via : Via), s.live ∧ s.reaches via 0 R.TET_CTRL ∧ s.actsNow via R.TET_CTRL 2) ∧
    (∃ (s : State) (via : Via), s.live ∧ s.reaches via 0 R.TET_CTRL ∧ s.actsNow via R.TET_CTRL 4) ∧
    (∃ (s : State) (via : Via) (v : Word), s.live ∧ s.reaches via 0 R.MKT_CFG ∧ s.permits via R.MKT_CFG v) ∧
    (∃ (s : State) (via : Via) (v : Word), s.live ∧ s.reaches via 0 R.MKT_STALLSEL ∧ v.toNat < 64 ∧ (s.stall
      v.toNat).length = 64) ∧
    (∃ (s : State) (via : Via) (v : Word), s.live ∧ s.reaches via 0 R.MKT_STALLTAG ∧ s.actsNow via R.MKT_STALLTAG v ∧
      (s.stall (s.regN R.MKT_STALLSEL)).length = 64) ∧
    (∃ (s : State) (via : Via), s.live ∧ s.reaches via 0 R.MKT_CTRL ∧ s.actsNow via R.MKT_CTRL 1 ∧ (s.stall (s.regN
      R.MKT_STALLSEL)).length = 64) :=
  ⟨⟨hosted, .firmware, by decide +kernel, by decide +kernel⟩,
  ⟨{ hosted with path := { hosted.path with closed := some .vin } }, .firmware, 0x000C, by decide +kernel, by
    decide +kernel, by decide +kernel⟩,
  ⟨hosted, .firmware, 0x001B, by decide +kernel, by decide +kernel, by decide +kernel⟩,
  ⟨hosted, .firmware, 2, by decide +kernel, by decide +kernel, by decide +kernel⟩,
  ⟨{ accepting.setField F.CHG_STATUS_PHASE 8 with chg := { accepting.chg with fault := 1 } }, .firmware, by
    decide +kernel, by decide +kernel, by decide +kernel⟩,
  ⟨accepting, .firmware, by decide +kernel, by decide +kernel, by decide +kernel⟩,
  ⟨{ hosted with wb := { hosted.wb with accepted := [(5, List.replicate 72 3)] } }, .firmware, 5, by decide +kernel, by
    decide +kernel, by decide +kernel⟩,
  ⟨{ hosted with wb := { hosted.wb with rdBuf := [1, 2, 3, 4] } }, .firmware, 1, by decide +kernel, by decide +kernel⟩,
  ⟨{ hosted with vdt := { hosted.vdt with fifo := [⟨3, false, false, 0, false⟩] } }, .firmware, 1, by decide +kernel, by
    decide +kernel⟩,
  ⟨accepting, .firmware, by decide +kernel, by decide +kernel, by decide +kernel⟩,
  ⟨(trader.setFlag F.LGR_STATUS_READY true).setFlag F.TWB_STATUS_AWAKE true, .firmware, by decide +kernel, by
    decide +kernel, by decide +kernel⟩,
  ⟨(trader.setFlag F.LGR_STATUS_READY true).setFlag F.TWB_STATUS_AWAKE true, .firmware, by decide +kernel, by
    decide +kernel, by decide +kernel⟩,
  ⟨((trader.setFlag F.LGR_STATUS_READY true).setFlag F.TWB_STATUS_AWAKE true).setFlag F.TET_ADDR_AUTO true, .firmware,
    by decide +kernel, by decide +kernel, by decide +kernel⟩,
  ⟨hosted, .firmware, 0x000D, by decide +kernel, by decide +kernel, by decide +kernel⟩,
  ⟨{ hosted with mkt := { hosted.mkt with cache := [stallEntry 9 [(0, 4), (63, 5)]] } }, .firmware, 9, by
    decide +kernel, by decide +kernel, by decide +kernel, by decide +kernel⟩,
  ⟨{ accepting with mkt := { accepting.mkt with cache := [stallEntry 0 [(0, 4), (63, 5)]] } }, .firmware, 0x1234, by
    decide +kernel, by decide +kernel, by decide +kernel, by decide +kernel⟩,
  ⟨{ accepting with mkt := { accepting.mkt with cache := [stallEntry 0 [(42, 4), (51, 5)]] } }, .firmware, by
    decide +kernel, by decide +kernel, by decide +kernel, by decide +kernel⟩⟩

theorem met_by_host_commands :
    (∃ (s : State) (c : Instr) (addr a : Nat) (v : Word), (c, a, v) ∈ [(Instr.chgClrfault (.portH addr), R.CHG_CTRL, (1
      : Word)), (Instr.chgFullRequest (.portH addr), R.CHG_CTRL, 2), (Instr.proofreq (.portH addr), R.VDT_CTRL, 1),
      (Instr.census (.portH addr), R.TET_CTRL, 1), (Instr.linktest (.portH addr), R.TET_CTRL, 2), (Instr.readdr (.portH
      addr), R.TET_CTRL, 4), (Instr.clrcnt (.portH addr), R.MKT_CTRL, 1), (Instr.flush (.portH addr), R.LGR_CTRL, 1),
      (Instr.mktStalltagWrite (.portH addr) v, R.MKT_STALLTAG, v)] ∧ s.live ∧ s.reaches (.portH addr) 0 a ∧ s.waits
      ⟨srcPortH, a, 0, beBytes 2 v.toNat, true⟩) ∧
    (∃ (s : State) (c : Instr) (addr a : Nat) (v : Word), (c, a, v) ∈ [(Instr.chgClrfault (.portH addr), R.CHG_CTRL, (1
      : Word)), (Instr.chgFullRequest (.portH addr), R.CHG_CTRL, 2), (Instr.proofreq (.portH addr), R.VDT_CTRL, 1),
      (Instr.census (.portH addr), R.TET_CTRL, 1), (Instr.linktest (.portH addr), R.TET_CTRL, 2), (Instr.readdr (.portH
      addr), R.TET_CTRL, 4), (Instr.clrcnt (.portH addr), R.MKT_CTRL, 1), (Instr.flush (.portH addr), R.LGR_CTRL, 1),
      (Instr.mktStalltagWrite (.portH addr) v, R.MKT_STALLTAG, v)] ∧ s.live ∧ s.reaches (.portH addr) 0 a ∧ s.takes
      ⟨srcPortH, a, 0, beBytes 2 v.toNat, true⟩) :=
  ⟨⟨{ hosted with cmd := { hosted.cmd with replayDue := true } }, .proofreq (.portH 0x58), 0x58, R.VDT_CTRL, 1, by
    decide +kernel, by decide +kernel, by decide +kernel, by decide +kernel⟩,
  ⟨accepting, .proofreq (.portH 0x58), 0x58, R.VDT_CTRL, 1, by decide +kernel, by decide +kernel, by decide +kernel, by
    decide +kernel⟩⟩

theorem met_by_keyed_registers :
    (∃ (s : State) (via : Via), s.live ∧ s.armed via R.SYS_RESET 1) ∧
    (∃ (s : State) (via : Via), s.live ∧ s.armed via R.SYS_RESET 2) ∧
    (∃ (s : State) (via : Via) (v : Word), s.live ∧ s.armed via R.SYS_RESET v ∧ v ≠ 1 ∧ v ≠ 2) ∧
    (∃ (s : State) (via : Via), s.live ∧ s.armed via R.SYS_SHIP 1 ∧ s.actsNow via R.SYS_SHIP 1) ∧
    (∃ (s : State) (via : Via), s.live ∧ s.armed via R.SYS_SHIP 1 ∧ via ≠ .firmware ∧ s.takes ⟨srcPortH, R.SYS_SHIP, 0,
      [0, 1], true⟩) ∧
    (∃ (s : State) (c : Instr) (addr a : Nat) (v : Word), (c, a, v) ∈ [(Instr.sysShip (.portH addr), R.SYS_SHIP, (1 :
      Word)), (Instr.cfgWriteStart (.portH addr), R.CFG_WRITE, 1), (Instr.cfgWriteReset (.portH addr), R.CFG_WRITE, 3)]
      ∧ s.live ∧ s.armed (.portH addr) a v ∧ s.waits ⟨srcPortH, a, 0, beBytes 2 v.toNat, true⟩) ∧
    (∃ (s : State) (via : Via), s.live ∧ s.armed via R.CFG_COMMIT 1) ∧
    (∃ (s : State) (via : Via), s.live ∧ s.armed via R.CFG_COMMIT 2) ∧
    (∃ (s : State) (via : Via), s.live ∧ s.armed via R.CFG_LOCK 1) ∧
    (∃ (s : State) (via : Via), s.live ∧ s.armed via R.CFG_WRITE 1 ∧ s.actsNow via R.CFG_WRITE 1 ∧ s.boot.write = none)
      ∧
    (∃ (s : State) (via : Via), s.live ∧ s.armed via R.CFG_WRITE 3 ∧ s.actsNow via R.CFG_WRITE 3 ∧ s.boot.write = none)
      ∧
    (∃ (s : State) (c : Instr) (via : Via) (x : Bool), (c, x) ∈ [(Instr.cfgWriteStart via, false), (Instr.cfgWriteReset
      via, true)] ∧ s.live ∧ (s.armed via R.CFG_WRITE (if x then 3 else 1)) ∧ (s.actsNow via R.CFG_WRITE (if x then 3
      else 1)) ∧ s.boot.write ≠ none) ∧
    (∃ (s : State) (w : ImageWrite), s.live ∧ s.boot.write = some w ∧ w.pages ≠ []) ∧
    (∃ (s : State) (w : ImageWrite), s.live ∧ s.boot.write = some w ∧ w.pages ≠ [] ∧ w.sentAt + msTicks 10 ≤ s.now) ∧
    (∃ (s : State) (back : List Byte) (w : ImageWrite), s.live ∧ s.boot.write = some w ∧ w.pages = []) :=
  ⟨⟨keyed R.SYS_RESET 1, .firmware, by decide +kernel, by decide +kernel⟩,
  ⟨keyed R.SYS_RESET 2, .firmware, by decide +kernel, by decide +kernel⟩,
  ⟨keyed R.SYS_RESET 3, .firmware, 3, by decide +kernel, by decide +kernel, by decide +kernel, by decide +kernel⟩,
  ⟨{ accepting with ra := (keyed R.SYS_SHIP 1).ra }, .firmware, by decide +kernel, by decide +kernel, by
    decide +kernel⟩,
  ⟨{ accepting with ra := { accepting.ra with keys := [⟨.portH, R.SYS_SHIP, 1, 0⟩] } }, .portH 0x58, by decide +kernel,
    by decide +kernel, by decide +kernel, by decide +kernel⟩,
  ⟨{ hosted with ra := { hosted.ra with keys := [⟨.portH, R.SYS_SHIP, 1, 0⟩] } }, .sysShip (.portH 0x58), 0x58,
    R.SYS_SHIP, 1, by decide +kernel, by decide +kernel, by decide +kernel, by decide +kernel⟩,
  ⟨(keyed R.CFG_COMMIT 1).setFlag F.CFG_STATUS_PEND true, .firmware, by decide +kernel, by decide +kernel⟩,
  ⟨((keyed R.CFG_COMMIT 2).setFlag F.CFG_STATUS_PEND true).setReg R.ALM_TDISC 70, .firmware, by decide +kernel, by
    decide +kernel⟩,
  ⟨keyed R.CFG_LOCK 1, .firmware, by decide +kernel, by decide +kernel⟩,
  ⟨{ accepting with boot := staged.boot, ra := (keyed R.CFG_WRITE 1).ra }, .firmware, by decide +kernel, by
    decide +kernel, by decide +kernel, by decide +kernel⟩,
  ⟨{ accepting with boot := staged.boot, ra := { accepting.ra with keys := [⟨.portH, R.CFG_WRITE, 3, 0⟩] } }, .portH
    0x58, by decide +kernel, by decide +kernel, by decide +kernel, by decide +kernel⟩,
  ⟨{ staged with ra := (keyed R.CFG_WRITE 1).ra, boot := { staged.boot with write := some ⟨.b, [], false, .firmware, 0, 2, 11⟩ } },
    .cfgWriteStart .firmware, .firmware, false, by decide +kernel, by decide +kernel, by decide +kernel, by
    decide +kernel, by decide +kernel⟩,
  ⟨{ live with boot := { live.boot with write := some ⟨.b, [(0, [1]), (4, [2])], false, .firmware, 0, 2, 11⟩ } }, ⟨.b,
    [(0, [1]), (4, [2])], false, .firmware, 0, 2, 11⟩, by decide +kernel, by decide +kernel, by decide +kernel⟩,
  ⟨{ live with now := 1000, boot := { live.boot with write := some ⟨.b, [(0, [1]), (4, [2])], false, .firmware, 0, 2, 11⟩ } },
    ⟨.b, [(0, [1]), (4, [2])], false, .firmware, 0, 2, 11⟩, by decide +kernel, by decide +kernel, by decide +kernel, by
    decide +kernel⟩,
  ⟨{ live with boot := { live.boot with write := some ⟨.b, [], false, .firmware, 0, 2, 11⟩ } }, goodImage, ⟨.b, [],
    false, .firmware, 0, 2, 11⟩, by decide +kernel, by decide +kernel, by decide +kernel⟩⟩

theorem met_by_config_and_snapshots :
    (∃ (s : State) (upsets : List (Nat × Word)), s.live ∧ s.ra.refSet ∧ s.flag F.CFG_STATUS_PEND = false) ∧
    (∃ (s : State) (upsets : List (Nat × Word)), s.live ∧ s.ra.refSet = false) ∧
    (∃ (s : State), s.live ∧ s.elapsed s.ra.holdDue ∧ s.flag F.CFG_STATUS_PEND) ∧
    (∃ (s : State) (via : Via) (v : Word), s.live ∧ s.reaches via 0 R.CFG_STGADDR ∧ v.toNat % 2 = 0) ∧
    (∃ (s : State) (via : Via) (v : Option Word) (n : Nat) (w : Word), s.live ∧ s.reaches via 0 R.CFG_STGDATA ∧ v = some
      w ∧ (via = .firmware ∨ s.flag F.CFG_STATUS_HOSTIMG)) ∧
    (∃ (s : State) (via : Via) (v : Option Word) (n : Nat), s.live ∧ s.reaches via 0 R.CFG_STGDATA ∧ v = none ∧ n = 1) ∧
    (∃ (s : State) (via : Via) (reading : Bool), s.live ∧ s.reaches via 0 R.SNAP_CTRL ∧ (via = .firmware → reading =
      false)) ∧
    (∃ (s : State) (via : Via) (reading : Bool), s.live ∧ s.reaches via 0 R.SNAP_CTRL ∧ via = .firmware ∧ reading) ∧
    (∃ (s : State) (l : List (Nat × Word)), s.live ∧ s.ra.snapWait = some l ∧ (l.map (·.1)).Nodup) ∧
    (∃ (s : State) (via : Via) (hi mid lo : Word), s.live ∧ s.reaches via 0 R.CLK_TIMESET2 ∧ (via = .firmware ∨
      s.stretches ∧ s.pathPtr via R.CLK_TIMESET2 = some R.CLK_TIMESET2) ∧ hi.toNat < 0x8000 ∧ s.timeValid = false ∧
      (s.ra.aonWrite.all fun w => w.addr != R.CLK_TIMESET0)) ∧
    (∃ (s : State) (via : Via) (hi mid lo : Word), s.live ∧ s.reaches via 0 R.CLK_TIMESET2 ∧ 0x8000 ≤ hi.toNat ∧ (via =
      .firmware ∨ s.pathPtr via R.CLK_TIMESET2 = some R.CLK_TIMESET2)) ∧
    (∃ (s : State) (via : Via) (v : Word), s.live ∧ s.reaches via 0 R.CLK_HWDKICK ∧ v = 0xA55A) ∧
    (∃ (s : State) (via : Via) (v : Word), s.live ∧ s.reaches via 0 R.CLK_HWDKICK ∧ v ≠ 0xA55A) ∧
    (∃ (s : State) (via : Via) (v : Word), s.live ∧ s.reaches via 0 R.CLK_HWDCFG ∧ s.permits via R.CLK_HWDCFG v) ∧
    (∃ (s : State) (v : Word), s.live ∧ s.boot.core ∧ s.key .firmware = none) :=
  ⟨⟨live.setRef, [], by decide +kernel, by decide +kernel, by decide +kernel⟩,
  ⟨live, [], by decide +kernel, by decide +kernel⟩,
  ⟨{ live.setFlag F.CFG_STATUS_PEND true with ra := { live.ra with holdDue := some 0 } }, by decide +kernel, by
    decide +kernel, by decide +kernel⟩,
  ⟨hosted, .firmware, 0xFFFE, by decide +kernel, by decide +kernel, by decide +kernel⟩,
  ⟨hosted.setFlag F.CFG_STATUS_HOSTIMG true, .firmware, some 0x1234, 0, 0x1234, by decide +kernel, by decide +kernel, by
    decide +kernel, by decide +kernel⟩,
  ⟨hosted, .firmware, none, 1, by decide +kernel, by decide +kernel, by decide +kernel, by decide +kernel⟩,
  ⟨hosted.setReg R.TET_RXCNT 7, .firmware, false, by decide +kernel, by decide +kernel, by decide +kernel⟩,
  ⟨hosted.setReg R.TET_RXCNT 7, .firmware, true, by decide +kernel, by decide +kernel, by decide +kernel, by
    decide +kernel⟩,
  ⟨{ live with ra := { live.ra with snapWait := some [(R.SNAP_STATUS, 9)] } }, [(R.SNAP_STATUS, 9)], by decide +kernel,
    by decide +kernel, by decide +kernel⟩,
  ⟨hosted, .firmware, 0x3000, 5, 6, by decide +kernel, by decide +kernel, by decide +kernel, by decide +kernel, by
    decide +kernel, by decide +kernel⟩,
  ⟨hosted, .firmware, 0x8000, 5, 6, by decide +kernel, by decide +kernel, by decide +kernel, by decide +kernel⟩,
  ⟨{ hosted.setFlag F.CLK_HWDCFG_EN true with now := 77 }, .firmware, 0xA55A, by decide +kernel, by decide +kernel, by
    decide +kernel⟩,
  ⟨{ hosted.setFlag F.CLK_HWDCFG_EN true with now := 77 }, .firmware, 0xA55B, by decide +kernel, by decide +kernel, by
    decide +kernel⟩,
  ⟨{ hosted with now := 77 }, .firmware, 0x0B, by decide +kernel, by decide +kernel, by decide +kernel⟩,
  ⟨{ hosted with now := 77 }, 0x5AA5, by decide +kernel, by decide +kernel, by decide +kernel⟩⟩

theorem met_by_clocks_and_time :
    (∃ (s : State), s.live ∧ s.flag F.CLK_CFG_XTAL ∧ s.flag F.CLK_STATUS_XTAL_RUN = false ∧ s.oscFaulty 0 = false ∧
      s.oscFaulty 1 = false ∧ s.clk.xtalFrom + secTicks 1 ≤ s.now) ∧
    (∃ (s : State) (cause : Nat) (ppm : Int), s.live ∧ s.flag F.CLK_CFG_XTAL ∧ s.flag F.CLK_STATUS_XTAL_RUN = false ∧
      s.oscFaulty 0 = false ∧ ((if s.clk.xtalFrom < secTicks 2 then 0 else s.clk.xtalFrom) + secTicks 2 ≤ s.now)) ∧
    (∃ (s : State) (osc cause : Nat) (ppm : Int), s.live ∧ osc ≤ 3 ∧ s.oscUsed osc ∧ (cause = 1 ∨ oscLimit osc < |ppm|)
      ∧ s.oscFaulty osc = false) ∧
    (∃ (s : State) (osc : Nat) (good : Bool) (f : OscFault), s.live ∧ (s.clk.faults.find? (fun x : OscFault => x.osc ==
      osc) = some f) ∧ (osc ≠ 0 ∨ s.flag F.CLK_CFG_XTAL) ∧ (f.next + (if good then oscHold osc else 0) ≤ s.now)) ∧
    (∃ (s : State) (xtal lfo hfo wdo : Int), s.live) ∧
    (∃ (s : State) (addr time ago : Nat) (x : Carrier), s.receives ∧ s.ownAddr ≠ some addr ∧ s.link.cand ≠ some addr ∧
      s.syncFrom addr ∧ addr < 64 ∧ time + 1 + 2 * ago < 0x80000000 * 65536) ∧
    (∃ (s : State) (addr time ago : Nat) (x : Carrier), s.receives ∧ s.syncFrom addr = false) ∧
    (∃ (s : State) (a : Nat), s.live ∧ s.boot.core ∧ s.inSafe = false ∧ s.tsrc = 1 ∧ s.flag F.CLK_CFG_SYNC_TX ∧
      s.framesMode ∧ s.link.txOn ∧ s.txRoom ∧ s.ownAddr = some a ∧ s.clk.time / 65536 % 600 = 4 * a ∧ s.clk.syncSec ≠
      some (s.clk.time / 65536) ∧ s.clk.lowerSync ≠ some (s.clk.time / 65536 / 600)) ∧
    (∃ (s : State) (a d : Nat), s.live ∧ s.boot.core ∧ s.inSafe = false ∧ s.tsrc = 1 ∧ s.flag F.CLK_CFG_SYNC_TX ∧
      s.framesMode ∧ s.link.txOn ∧ s.txRoom ∧ s.ownAddr = some a ∧ s.clk.time / 65536 % 600 ≠ 4 * a ∧ s.clk.hostSet =
      some d ∧ s.now ≤ d + secTicks 10 ∧ (∀ e ∈ s.clk.hostSync, e + secTicks 60 ≤ s.now)) ∧
    (∃ (s : State), (s.boot.core = false ∨ s.inSafe ∨ s.tsrc ≠ 1 ∨ s.flag F.CLK_CFG_SYNC_TX = false ∨ s.ownAddr = none))
      :=
  ⟨⟨{ live.setFlag F.CLK_CFG_XTAL true with now := 40000 }, by decide +kernel, by decide +kernel, by decide +kernel, by
    decide +kernel, by decide +kernel, by decide +kernel⟩,
  ⟨{ live.setFlag F.CLK_CFG_XTAL true with now := 80000 }, 1, 0, by decide +kernel, by decide +kernel, by
    decide +kernel, by decide +kernel, by decide +kernel⟩,
  ⟨live, 1, 2, -40000, by decide +kernel, by decide +kernel, by decide +kernel, by decide +kernel, by decide +kernel⟩,
  ⟨{ live with now := 100000000, clk := { live.clk with faults := [⟨2, 0, 5⟩] } }, 2, true, ⟨2, 0, 5⟩, by
    decide +kernel, by decide +kernel, by decide +kernel, by decide +kernel⟩,
  ⟨live, 0, 0, 40000, 0, by decide +kernel⟩,
  ⟨trader.setFlag F.CLK_CFG_SYNC_RX true, 9, 0x300000000000, 7, ⟨400, 20⟩, by decide +kernel, by decide +kernel, by
    decide +kernel, by decide +kernel, by decide +kernel, by decide +kernel⟩,
  ⟨trader.setFlag F.CLK_CFG_SYNC_RX false, 9, 0x300000000000, 7, ⟨400, 20⟩, by decide +kernel, by decide +kernel⟩,
  ⟨{ (trader.setFlag F.CLK_CFG_SYNC_TX true).setField F.CLK_STATUS_TSRC 1 with clk := { trader.clk with time := 620 * 65536 } },
    5, by decide +kernel, by decide +kernel, by decide +kernel, by decide +kernel, by decide +kernel, by decide +kernel,
    by decide +kernel, by decide +kernel, by decide +kernel, by decide +kernel, by decide +kernel, by decide +kernel⟩,
  ⟨{ (trader.setFlag F.CLK_CFG_SYNC_TX true).setField F.CLK_STATUS_TSRC 1 with now := 50, clk := { trader.clk with time := 621 * 65536, hostSet := some 20 } },
    5, 20, by decide +kernel, by decide +kernel, by decide +kernel, by decide +kernel, by decide +kernel, by
    decide +kernel, by decide +kernel, by decide +kernel, by decide +kernel, by decide +kernel, by decide +kernel, by
    decide +kernel, by decide +kernel⟩,
  ⟨live, by decide +kernel⟩⟩

theorem met_by_watchdogs :
    (∃ (s : State), s.live ∧ s.hwdOver ∧ s.flag F.CLK_STATUS_HWD_SECOND = false) ∧
    (∃ (s : State), s.live ∧ s.hwdOver ∧ s.flag F.CLK_STATUS_HWD_SECOND ∧ bitOf (s.aonReg R.CLK_HWDCFG) 5 = false) ∧
    (∃ (s : State), s.live ∧ s.hwdOver ∧ s.flag F.CLK_STATUS_HWD_SECOND ∧ bitOf (s.aonReg R.CLK_HWDCFG) 5) ∧
    (∃ (s : State), s.pwdCounted 1 ∧ s.clk.pwdWarned = false) ∧
    (∃ (s : State), s.pwdCounted 2 ∧ s.clk.pwdWarned) ∧
    (∃ (s : State), s.pwdCounted 2 ∧ s.clk.pwdWarned ∧ s.now < s.boot.startedAt + secTicks 60 ∧ s.field F.CLK_PWD_RESETS
      = 2 ∧ s.flag F.CLK_PWD_OTHERFIRST = false) ∧
    (∃ (s : State) (ticks : Nat), s.live ∧ s.boot.core) ∧
    (∃ (s : State), s.live ∧ s.boot.core ∧ s.boot.startedAt + secTicks 60 ≤ s.now) :=
  ⟨⟨{ live.setFlag F.CLK_HWDCFG_EN true with now := 100000000 }, by decide +kernel, by decide +kernel, by
    decide +kernel⟩,
  ⟨{ (live.setFlag F.CLK_HWDCFG_EN true).setFlag F.CLK_STATUS_HWD_SECOND true with now := 100000000 }, by
    decide +kernel, by decide +kernel, by decide +kernel, by decide +kernel⟩,
  ⟨{ ((live.setFlag F.CLK_HWDCFG_EN true).setFlag F.CLK_STATUS_HWD_SECOND true).setReg R.CLK_HWDCFG 0x2B with now := 100000000 },
    by decide +kernel, by decide +kernel, by decide +kernel, by decide +kernel⟩,
  ⟨{ attached.setFlag F.PD_STATUS_OWNER true with now := 100000 }, by decide +kernel, by decide +kernel⟩,
  ⟨{ live with now := 100000, clk := { live.clk with pwdWarned := true } }, by decide +kernel, by decide +kernel⟩,
  ⟨{ live.setField F.CLK_PWD_RESETS 2 with now := 100000, clk := { live.clk with pwdWarned := true } }, by
    decide +kernel, by decide +kernel, by decide +kernel, by decide +kernel, by decide +kernel⟩,
  ⟨{ live with now := 1000 }, 77, by decide +kernel, by decide +kernel⟩,
  ⟨{ live.setField F.CLK_PWD_RESETS 2 with now := 100000000 }, by decide +kernel, by decide +kernel, by decide +kernel⟩⟩

theorem met_by_die_heat :
    (∃ (s : State) (l : List (Option Int)), s.live ∧ l.length = 7 ∧ (∀ i ∈ List.range 7, (s.sensor i).oddFrom = none) ∧
      (∀ x ∈ l, ∃ y ∈ x, -400 ≤ y ∧ y ≤ 700) ∧ (∀ i ∈ List.range 7, s.dsBroken i = false)) ∧
    (∃ (s : State) (l : List (Option Int)) (i : Nat), s.live ∧ i < 7 ∧ l.getD i none = none ∧ 1 ≤ (s.sensor i).badCount)
      ∧
    (∃ (s : State), s.live ∧ s.field F.THM_FACTOR_F < s.factorTarget ∧ s.thm.roseAt + msTicks 100 ≤ s.now) ∧
    (∃ (s : State) (i : Nat) (reading : Int), s.live ∧ s.thm.shutFrom = none ∧ (600 ≤ (if s.dsBroken i then (s.dsEff
      i).getD reading else reading))) ∧
    (∃ (s : State) (n m : Nat), s.live ∧ s.thm.shutFrom = some n ∧ s.thm.coolFrom = some m ∧ m + secTicks 1 ≤ s.now) :=
  ⟨⟨live.setField F.THM_FACTOR_F 100, [some 100, some 101, some 99, some 460, some 98, some 97, some 96], by
    decide +kernel, by decide +kernel, by decide +kernel, by decide +kernel, by decide +kernel⟩,
  ⟨{ live with thm := { Thm.reset with sensors := List.replicate 7 ⟨some 100, 1, none⟩ } }, [some 100, none, some 99,
    some 98, some 98, some 97, some 96], 1, by decide +kernel, by decide +kernel, by decide +kernel, by decide +kernel⟩,
  ⟨{ live.setField F.THM_FACTOR_F 40 with now := 10000, thm := { Thm.reset with sensors := List.replicate 7 ⟨some 100, 0, none⟩ } },
    by decide +kernel, by decide +kernel, by decide +kernel⟩,
  ⟨{ live with now := 10000, path := { live.path with closed := some .vin } }, 3, 601, by decide +kernel, by
    decide +kernel, by decide +kernel⟩,
  ⟨{ live.setFlag F.THM_STATUS_COOLING true with now := 100000, thm := { Thm.reset with shutFrom := some 0, coolFrom := some 9 } },
    0, 9, by decide +kernel, by decide +kernel, by decide +kernel, by decide +kernel⟩⟩

theorem met_by_start_and_image :
    (∃ (s : State) (chemR addrR bat : Nat) (source : Bool), s.phase = .off ∧ (source ∨ 2800 ≤ bat)) ∧
    (∃ (s : State) (a : Option (List Byte)) (oneByte : Bool) (probes : List (Option (List Byte))), s.phase = .startup ∧
      s.boot.reading = none ∧ s.boot.fails0 < 3 ∧ a.map hdrOk = some true ∧ probes = []) ∧
    (∃ (s : State) (a : Option (List Byte)) (oneByte : Bool) (probes : List (Option (List Byte))) (x y : List Byte),
      s.phase = .startup ∧ s.boot.reading = none ∧ s.boot.fails0 < 3 ∧ a = some x ∧ probes = [some y] ∧ hdrOk x ∧ hdrOk
      y ∧ hdrTwo x = false ∧ hdrTwo y = false ∧ hdrSize y = hdrSize x) ∧
    (∃ (s : State) (a : Option (List Byte)) (oneByte : Bool) (probes : List (Option (List Byte))), s.phase = .startup ∧
      s.boot.reading = none ∧ a = none ∧ (∀ x ∈ probes, x = none)) ∧
    (∃ (s : State) (body : List Byte) (x : AB), s.phase = .startup ∧ s.boot.reading = some x ∧ s.copyFault ((s.copy
      x).header.getD []) body = none) ∧
    (∃ (s : State) (body : List Byte) (x : AB), s.phase = .startup ∧ s.boot.reading = some x ∧ s.copyFault ((s.copy
      x).header.getD []) body ≠ none ∧ s.boot.fails0 = 0 ∧ s.boot.fails1 = 0) ∧
    (∃ (s : State) (dev : Nat) (freed : Option Bool), s.portcReads dev ∧ dev ≤ 1 ∧ s.portcFails dev < 2) ∧
    (∃ (s : State) (dev : Nat) (freed : Option Bool), s.portcReads dev ∧ s.portcFails dev = 2 ∧ dev ≤ 1) ∧
    (∃ (s : State) (dev : Nat) (freed : Option Bool), s.portcReads dev ∧ s.portcFails dev = 2 ∧ dev = 0 ∧ s.phase = .run
      ∧ s.boot.reading = none) ∧
    (∃ (s : State), s.live ∧ s.elapsed s.boot.retryDue) ∧
    (∃ (s : State) (body : Option (List Byte)) (x : AB), s.phase = .run ∧ s.boot.checking = some x) ∧
    (∃ (s : State), s.phase = .run ∧ s.boot.secureDue) :=
  ⟨⟨State.reset, 137, 0, 3000, false, by decide +kernel, by decide +kernel⟩,
  ⟨starting, some (goodImage.take 32), false, [], by decide +kernel, by decide +kernel, by decide +kernel, by
    decide +kernel, by decide +kernel⟩,
  ⟨starting, some (goodImage.take 32), false, [some (goodImage.take 32)], goodImage.take 32, goodImage.take 32, by
    decide +kernel, by decide +kernel, by decide +kernel, by decide +kernel, by decide +kernel, by decide +kernel, by
    decide +kernel, by decide +kernel, by decide +kernel, by decide +kernel⟩,
  ⟨starting, none, false, [none], by decide +kernel, by decide +kernel, by decide +kernel, by decide +kernel⟩,
  ⟨{ starting with boot := { starting.boot with reading := some .a, copyA := ⟨some (goodImage.take 32), none⟩ } },
    goodImage.drop 32, .a, by decide +kernel, by decide +kernel, by decide +kernel⟩,
  ⟨{ starting with boot := { starting.boot with reading := some .a, copyA := ⟨some (goodImage.take 32), none⟩ } }, [],
    .a, by decide +kernel, by decide +kernel, by decide +kernel, by decide +kernel, by decide +kernel⟩,
  ⟨starting, 0, none, by decide +kernel, by decide +kernel, by decide +kernel⟩,
  ⟨{ starting with boot := { starting.boot with fails0 := 2 } }, 0, none, by decide +kernel, by decide +kernel, by
    decide +kernel⟩,
  ⟨{ live with boot := { live.boot with fails0 := 2, checking := some .a } }, 0, none, by decide +kernel, by
    decide +kernel, by decide +kernel, by decide +kernel, by decide +kernel⟩,
  ⟨{ starting with boot := { starting.boot with retryDue := some 0 } }, by decide +kernel, by decide +kernel⟩,
  ⟨{ live with boot := { live.boot with checking := some .b, copyB := ⟨some (goodImage.take 32), none⟩ } }, some
    (goodImage.drop 32), .b, by decide +kernel, by decide +kernel⟩,
  ⟨{ live with boot := { live.boot with core := false, secureDue := true } }, by decide +kernel, by decide +kernel⟩⟩

theorem met_by_resets_and_ship :
    (∃ (s : State) (cause : Nat), s.live ∧ cause < 16) ∧
    (∃ (s : State) (cause : Nat), s.phase = .run ∧ cause < 16) ∧
    (∃ (s : State) (intake commit : Nat), s.phase ≠ .off) ∧
    (∃ (s : State) (n : Nat) (req : Requester) (u : State), s.phase = .run ∧ s.boot.shipDue = some (n, req) ∧ n ≤ s.now
      ∧ s.shipBlock = 0 ∧ s.shipAccept req = some u) ∧
    (∃ (s : State) (n : Nat) (req : Requester), s.phase = .run ∧ s.boot.shipArmed = some (n, req) ∧ n ≤ s.now ∧
      s.cmd.shipping = []) ∧
    (∃ (s : State) (ms : Nat) (source : Bool) (bat : Nat) (ends : Bool), s.phase = .ship) ∧
    (∃ (s : State) (x : Source) (mv ms : Nat) (attached : Bool) (bat : Nat), s.phase = .ship ∧ s.latchedOn x ∧
      shipWindow x mv ∧ 20 ≤ ms ∧ (x = .vbus → attached)) ∧
    (∃ (s : State) (x : Source) (mv ms : Nat) (attached : Bool) (bat : Nat), s.phase = .ship ∧ (s.latchedOn x = false ∨
      shipWindow x mv = false ∨ ms < 20 ∨ (x = .vbus ∧ attached = false))) :=
  ⟨⟨serving.setReg R.SYS_KEYERRCNT 5, 3, by decide +kernel, by decide +kernel⟩,
  ⟨serving, 7, by decide +kernel, by decide +kernel⟩,
  ⟨serving, 0, 0, by decide +kernel⟩,
  ⟨{ (live.setField F.SYS_STATE_PSTATE 1).setFlag F.LGR_STATUS_READY true with boot := { live.boot with shipDue := some (0, .portH) } },
    0, .portH,
    (({ (live.setField F.SYS_STATE_PSTATE 1).setFlag F.LGR_STATUS_READY true with boot := { live.boot with shipDue := some (0, .portH) } }).shipAccept
    .portH).getD live, by decide +kernel, by decide +kernel, by decide +kernel, by decide +kernel, by decide +kernel⟩,
  ⟨{ live with boot := { live.boot with shipArmed := some (0, .usb) } }, 0, .usb, by decide +kernel, by decide +kernel,
    by decide +kernel, by decide +kernel⟩,
  ⟨{ State.reset with phase := .ship }, 600, false, 3000, false, by decide +kernel⟩,
  ⟨{ State.reset with phase := .ship, path := { Path.reset with latchedEn := 1 } }, .vin, 12000, 20, false, 0, by
    decide +kernel, by decide +kernel, by decide +kernel, by decide +kernel, by decide +kernel⟩,
  ⟨{ State.reset with phase := .ship, path := { Path.reset with latchedEn := 1 } }, .vin, 12000, 19, false, 0, by
    decide +kernel, by decide +kernel⟩⟩

end Sys2Proof.Tests
end

section
/-!
SUPPORT. One command, whichever it is: the registers and parts of the state it may write, gathered from the files Touch* by the
arms of the dispatch; that it answers a next state; and what follows for the unit and its queue.
-/

namespace Sys2Proof.Machine

/-- What a command may write: the list of its meaning. -/
def exec_cells : Instr → List Nat
  | .powerOnResetRelease .. => execPowerOnResetRelease_cells
  | .imageHeadersRead .. => execImageHeadersRead_cells
  | .imageBodyReadDone .. => execImageBodyReadDone_cells
  | .portcAttemptFail .. => execPortcAttemptFail_cells
  | .backgroundCopyCheckDone .. => execBackgroundCopyCheckDone_cells
  | .warmReset .. => execWarmReset_cells
  | .coreReset .. => execCoreReset_cells
  | .sysResetWarm .. => execSysResetWarm_cells
  | .sysResetCore .. => execSysResetCore_cells
  | .resetRefused .. => execResetRefused_cells
  | .sysShip .. => execSysShip_cells
  | .shipExitWake .. => execShipExitWake_cells
  | .shipExitSource .. => execShipExitSource_cells
  | .hornReady .. => execHornReady_cells
  | .hornFail .. => execHornFail_cells
  | .discGlitch .. => execDiscGlitch_cells
  | .discFault .. => execDiscFault_cells
  | .alarmFrameRx .. => execAlarmFrameRx_cells
  | .clearFrameRx .. => execClearFrameRx_cells
  | .remoteTimeout .. => execRemoteTimeout_cells
  | .almCtrlHush .. => execAlmCtrlHush_cells
  | .hushFrameRx .. => execHushFrameRx_cells
  | .vauxUndervoltage .. => execVauxUndervoltage_cells
  | .nrstoRelease .. => execNrstoRelease_cells
  | .sourceQualify .. => execSourceQualify_cells
  | .inputCollapseTrip .. => execInputCollapseTrip_cells
  | .reverseTrip .. => execReverseTrip_cells
  | .inputOvTrip .. => execInputOvTrip_cells
  | .vsysOvTrip .. => execVsysOvTrip_cells
  | .tetSinkCutoff .. => execTetSinkCutoff_cells
  | .vpvLowPowerLoss .. => execVpvLowPowerLoss_cells
  | .vmuxSafe .. => execVmuxSafe_cells
  | .safelowTimeout .. => execSafelowTimeout_cells
  | .changeoverComplete .. => execChangeoverComplete_cells
  | .idealDiodeConduct .. => execIdealDiodeConduct_cells
  | .batfetTrip .. => execBatfetTrip_cells
  | .linearEnd .. => execLinearEnd_cells
  | .vpvPoStep .. => execVpvPoStep_cells
  | .vpvOcCheckEnd .. => execVpvOcCheckEnd_cells
  | .srcEnWrite .. => execSrcEnWrite_cells
  | .srcRankWrite .. => execSrcRankWrite_cells
  | .mainRegionChange .. => execMainRegionChange_cells
  | .tetSourceFoldback .. => execTetSourceFoldback_cells
  | .tetShort .. => execTetShort_cells
  | .hswOcp .. => execHswOcp_cells
  | .auxShort .. => execAuxShort_cells
  | .vauxOff .. => execVauxOff_cells
  | .convAuxWrite .. => execConvAuxWrite_cells
  | .keepLatchClear .. => execKeepLatchClear_cells
  | .vsysLadder .. => execVsysLadder_cells
  | .chgDetectDone .. => execChgDetectDone_cells
  | .chgPreconditionDone .. => execChgPreconditionDone_cells
  | .chgCvEntry .. => execChgCvEntry_cells
  | .chgTermCurrent .. => execChgTermCurrent_cells
  | .chgTopupStart .. => execChgTopupStart_cells
  | .chgSuspend .. => execChgSuspend_cells
  | .chgResume .. => execChgResume_cells
  | .chgBatOv .. => execChgBatOv_cells
  | .chgFaultAutoclear .. => execChgFaultAutoclear_cells
  | .chgClrfault .. => execChgClrfault_cells
  | .chgFullRequest .. => execChgFullRequest_cells
  | .ntcReading .. => execNtcReading_cells
  | .chgSocWrite .. => execChgSocWrite_cells
  | .ballastRecompute => execBallastRecompute_cells
  | .wbStart .. => execWbStart_cells
  | .vwbBrownout .. => execVwbBrownout_cells
  | .vwbEarlyWarning .. => execVwbEarlyWarning_cells
  | .wbCheckpoint .. => execWbCheckpoint_cells
  | .wbPeriodicDue .. => execWbPeriodicDue_cells
  | .wbWboCheck .. => execWbWboCheck_cells
  | .wbReferenceCheck .. => execWbReferenceCheck_cells
  | .wbRecordAccepted .. => execWbRecordAccepted_cells
  | .snapshot .. => execSnapshot_cells
  | .sweep .. => execSweep_cells
  | .capBegin .. => execCapBegin_cells
  | .capEnd .. => execCapEnd_cells
  | .setPeriod .. => execSetPeriod_cells
  | .setCell .. => execSetCell_cells
  | .wbMailboxIdent .. => execWbMailboxIdent_cells
  | .calibrate .. => execCalibrate_cells
  | .wbMailboxReset .. => execWbMailboxReset_cells
  | .wbCmdUnknown .. => execWbCmdUnknown_cells
  | .snapDone .. => execSnapDone_cells
  | .sweepDone .. => execSweepDone_cells
  | .capRelaxDone .. => execCapRelaxDone_cells
  | .calDone .. => execCalDone_cells
  | .wbRdselWrite .. => execWbRdselWrite_cells
  | .wbRddataRead .. => execWbRddataRead_cells
  | .vdtNoteRead .. => execVdtNoteRead_cells
  | .proofDischargeEnd .. => execProofDischargeEnd_cells
  | .proofreq .. => execProofreq_cells
  | .tetFrameSent .. => execTetFrameSent_cells
  | .tetFrameRefused .. => execTetFrameRefused_cells
  | .tetArbLost .. => execTetArbLost_cells
  | .tetRxError .. => execTetRxError_cells
  | .linkConditionChange .. => execLinkConditionChange_cells
  | .guardTrip .. => execGuardTrip_cells
  | .heartbeatRx .. => execHeartbeatRx_cells
  | .peerMissing .. => execPeerMissing_cells
  | .census .. => execCensus_cells
  | .censusRequestRx .. => execCensusRequestRx_cells
  | .claimRx .. => execClaimRx_cells
  | .faultFrameRx .. => execFaultFrameRx_cells
  | .readdr .. => execReaddr_cells
  | .linktest .. => execLinktest_cells
  | .linkTestRx .. => execLinkTestRx_cells
  | .linkEchoRx .. => execLinkEchoRx_cells
  | .marketFrameRx .. => execMarketFrameRx_cells
  | .offerPost .. => execOfferPost_cells
  | .bidPost .. => execBidPost_cells
  | .firmSend .. => execFirmSend_cells
  | .withdrawSend .. => execWithdrawSend_cells
  | .mktLapse .. => execMktLapse_cells
  | .mktCfgWrite .. => execMktCfgWrite_cells
  | .mktStallselWrite .. => execMktStallselWrite_cells
  | .mktStalltagWrite .. => execMktStalltagWrite_cells
  | .clrcnt .. => execClrcnt_cells
  | .ledgerRecordAccept .. => execLedgerRecordAccept_cells
  | .ledgerCommit .. => execLedgerCommit_cells
  | .flush .. => execFlush_cells
  | .lgrReadExact .. => execLgrReadExact_cells
  | .lgrReadNext .. => execLgrReadNext_cells
  | .lgrReadNextpin .. => execLgrReadNextpin_cells
  | .lgrRddataRead .. => execLgrRddataRead_cells
  | .lgrHostPost .. => execLgrHostPost_cells
  | .cmdAccept .. => execCmdAccept_cells
  | .cmdBusy .. => execCmdBusy_cells
  | .mainConverterFault .. => execMainConverterFault_cells
  | .tcAttach .. => execTcAttach_cells
  | .debugAccessoryAttach .. => execDebugAccessoryAttach_cells
  | .tcDetach .. => execTcDetach_cells
  | .advertisementChange .. => execAdvertisementChange_cells
  | .bc12Done .. => execBc12Done_cells
  | .sourceCapabilitiesRx .. => execSourceCapabilitiesRx_cells
  | .acceptRx .. => execAcceptRx_cells
  | .psRdyRx .. => execPsRdyRx_cells
  | .waitRejectRx .. => execWaitRejectRx_cells
  | .getSinkCapRx .. => execGetSinkCapRx_cells
  | .softResetRx .. => execSoftResetRx_cells
  | .getRevisionRx .. => execGetRevisionRx_cells
  | .alertRx .. => execAlertRx_cells
  | .bistRx .. => execBistRx_cells
  | .swapRequestRx .. => execSwapRequestRx_cells
  | .unsupportedMessageRx .. => execUnsupportedMessageRx_cells
  | .discoverIdentity .. => execDiscoverIdentity_cells
  | .discoverSvids .. => execDiscoverSvids_cells
  | .discoverModes .. => execDiscoverModes_cells
  | .enterMode .. => execEnterMode_cells
  | .exitMode .. => execExitMode_cells
  | .take .. => execTake_cells
  | .reneg .. => execReneg_cells
  | .getcaps .. => execGetcaps_cells
  | .exitsvc .. => execExitsvc_cells
  | .usbBusReset .. => execUsbBusReset_cells
  | .usbResume .. => execUsbResume_cells
  | .getStatus .. => execGetStatus_cells
  | .getDescriptor .. => execGetDescriptor_cells
  | .setAddress .. => execSetAddress_cells
  | .setConfiguration .. => execSetConfiguration_cells
  | .clearFeature .. => execClearFeature_cells
  | .setFeature .. => execSetFeature_cells
  | .openSession .. => execOpenSession_cells
  | .closeSession .. => execCloseSession_cells
  | .buniliaIdent .. => execBuniliaIdent_cells
  | .regRead .. => execRegRead_cells
  | .regWrite .. => execRegWrite_cells
  | .lgrRead .. => execLgrRead_cells
  | .stallRead .. => execStallRead_cells
  | .wbRead .. => execWbRead_cells
  | .wbSnapshot .. => execWbSnapshot_cells
  | .wbCalibrate .. => execWbCalibrate_cells
  | .imgStage .. => execImgStage_cells
  | .imgWrite .. => execImgWrite_cells
  | .fwBegin .. => execFwBegin_cells
  | .fwChunk .. => execFwChunk_cells
  | .fwWrite .. => execFwWrite_cells
  | .fwActivate .. => execFwActivate_cells
  | .buniliaReset .. => execBuniliaReset_cells
  | .buniliaShip .. => execBuniliaShip_cells
  | .cellNew .. => execCellNew_cells
  | .proofReq .. => execProofReq_cells
  | .buniliaUnknown .. => execBuniliaUnknown_cells
  | .svcCtrlClose .. => execSvcCtrlClose_cells
  | .optPreambleDetect .. => execOptPreambleDetect_cells
  | .optFlood .. => execOptFlood_cells
  | .optSettleEnd .. => execOptSettleEnd_cells
  | .optAnsdataRead .. => execOptAnsdataRead_cells
  | .twbAddressWake .. => execTwbAddressWake_cells
  | .twbClockLowTimeout .. => execTwbClockLowTimeout_cells
  | .twbSdaRelease .. => execTwbSdaRelease_cells
  | .twbPecWrite .. => execTwbPecWrite_cells
  | .twbPushStart .. => execTwbPushStart_cells
  | .cfgWriteStart .. => execCfgWriteStart_cells
  | .cfgWriteReset .. => execCfgWriteReset_cells
  | .imageWriteDone .. => execImageWriteDone_cells
  | .cfgStgaddrWrite .. => execCfgStgaddrWrite_cells
  | .cfgStgdataAccess .. => execCfgStgdataAccess_cells
  | .registerWrite .. => execRegisterWrite_cells
  | .setAliasWrite .. => execSetAliasWrite_cells
  | .clearAliasWrite .. => execClearAliasWrite_cells
  | .toggleAliasWrite .. => execToggleAliasWrite_cells
  | .rcRegisterRead .. => execRcRegisterRead_cells
  | .keyArm .. => execKeyArm_cells
  | .cfgCommit .. => execCfgCommit_cells
  | .cfgDiscard .. => execCfgDiscard_cells
  | .cfgLock .. => execCfgLock_cells
  | .cfgCheckPass .. => execCfgCheckPass_cells
  | .pageselWrite .. => execPageselWrite_cells
  | .snapTake .. => execSnapTake_cells
  | .xtalStartTimeout .. => execXtalStartTimeout_cells
  | .oscFault .. => execOscFault_cells
  | .oscRetry .. => execOscRetry_cells
  | .oscCrossCheck .. => execOscCrossCheck_cells
  | .clkTimesetWrite .. => execClkTimesetWrite_cells
  | .syncRx .. => execSyncRx_cells
  | .hwdKick .. => execHwdKick_cells
  | .hwdConfigWrite .. => execHwdConfigWrite_cells
  | .pwdKick .. => execPwdKick_cells
  | .pwdWaitEnd .. => execPwdWaitEnd_cells
  | .thmReading .. => execThmReading_cells
  | .thmShutdown .. => execThmShutdown_cells
  | .powerLoss .. => execPowerLoss_cells
  | .wakePinChange .. => execWakePinChange_cells
  | .buniliaBadframe .. => execBuniliaBadframe_cells
  | .statusMessageRx .. => execStatusMessageRx_cells
  | .ledgerReplayComplete => execLedgerReplayComplete_cells
  | .portcRetry => execPortcRetry_cells
  | .secureStart => execSecureStart_cells
  | .shipDelayExpiry => execShipDelayExpiry_cells
  | .shipArmExpiry => execShipArmExpiry_cells
  | .alarmPinEdge => execAlarmPinEdge_cells
  | .sysClockRequestWithdraw => execSysClockRequestWithdraw_cells
  | .localAlarmStart => execLocalAlarmStart_cells
  | .alarmCopyDue => execAlarmCopyDue_cells
  | .discBroadcast => execDiscBroadcast_cells
  | .discClear => execDiscClear_cells
  | .localAlarmEnd => execLocalAlarmEnd_cells
  | .hornRelease => execHornRelease_cells
  | .hushPress => execHushPress_cells
  | .hushTimerExpiry => execHushTimerExpiry_cells
  | .vauxHoldExpiry => execVauxHoldExpiry_cells
  | .vsysOvRestart => execVsysOvRestart_cells
  | .plannedChangeoverBegin => execPlannedChangeoverBegin_cells
  | .safelowRetry => execSafelowRetry_cells
  | .supplementStart => execSupplementStart_cells
  | .supplementEnd => execSupplementEnd_cells
  | .batfetRetry => execBatfetRetry_cells
  | .vpvOcCheck => execVpvOcCheck_cells
  | .tetModeChange => execTetModeChange_cells
  | .tetSourceRetry => execTetSourceRetry_cells
  | .hswReclose => execHswReclose_cells
  | .auxRestart => execAuxRestart_cells
  | .chgDetect => execChgDetect_cells
  | .chgAbsentRetry => execChgAbsentRetry_cells
  | .chgTargetReached => execChgTargetReached_cells
  | .chgTimeoutFault => execChgTimeoutFault_cells
  | .ntcDisagree => execNtcDisagree_cells
  | .chgSocStale => execChgSocStale_cells
  | .chgResumeTimeout => execChgResumeTimeout_cells
  | .wbWatchdogExpiry => execWbWatchdogExpiry_cells
  | .wbCurrentOverrange => execWbCurrentOverrange_cells
  | .wbRecordRelease => execWbRecordRelease_cells
  | .sweepHoldoffExpiry => execSweepHoldoffExpiry_cells
  | .capDischargeTimeout => execCapDischargeTimeout_cells
  | .reserveForm => execReserveForm_cells
  | .curfewEnd => execCurfewEnd_cells
  | .proofLift => execProofLift_cells
  | .proofChecks => execProofChecks_cells
  | .proofDeferExpiry => execProofDeferExpiry_cells
  | .proofCapacityBegin => execProofCapacityBegin_cells
  | .proofDischargeStart => execProofDischargeStart_cells
  | .proofEnd => execProofEnd_cells
  | .tetThresholdReset => execTetThresholdReset_cells
  | .guardSilenceEnd => execGuardSilenceEnd_cells
  | .heartbeatDue => execHeartbeatDue_cells
  | .censusAnswerDue => execCensusAnswerDue_cells
  | .addrListenEnd => execAddrListenEnd_cells
  | .addrHold .. => execAddrHold_cells
  | .addrRelisten => execAddrRelisten_cells
  | .levelAlarmStart => execLevelAlarmStart_cells
  | .levelAlarmEnd => execLevelAlarmEnd_cells
  | .mktRefreshDue => execMktRefreshDue_cells
  | .bidRetry => execBidRetry_cells
  | .tentmaxExpiry => execTentmaxExpiry_cells
  | .isrcHoldEnd => execIsrcHoldEnd_cells
  | .cutoffReturn => execCutoffReturn_cells
  | .stallWriteback .. => execStallWriteback_cells
  | .tallyWindowExpiry => execTallyWindowExpiry_cells
  | .lgrReadDone => execLgrReadDone_cells
  | .supplyEarlyWarning .. => execSupplyEarlyWarning_cells
  | .cmdReplay => execCmdReplay_cells
  | .ccRpDetect => execCcRpDetect_cells
  | .attachwaitAbandon .. => execAttachwaitAbandon_cells
  | .bc12Start => execBc12Start_cells
  | .pdRequestRetry => execPdRequestRetry_cells
  | .pdRefusalExpiry => execPdRefusalExpiry_cells
  | .bistCarrierEnd => execBistCarrierEnd_cells
  | .hardResetRx => execHardResetRx_cells
  | .pdSenderResponseTimeout => execPdSenderResponseTimeout_cells
  | .pdSinkWaitCapTimeout => execPdSinkWaitCapTimeout_cells
  | .pdPsTransitionTimeout => execPdPsTransitionTimeout_cells
  | .pdReceiveTimeout => execPdReceiveTimeout_cells
  | .pdNoResponse => execPdNoResponse_cells
  | .pdHardResetVbusTimeout => execPdHardResetVbusTimeout_cells
  | .ppsKeepalive => execPpsKeepalive_cells
  | .fallbackRequest => execFallbackRequest_cells
  | .usbConnect => execUsbConnect_cells
  | .usbNohost => execUsbNohost_cells
  | .usbSuspend => execUsbSuspend_cells
  | .getConfiguration => execGetConfiguration_cells
  | .getInterface => execGetInterface_cells
  | .setInterface => execSetInterface_cells
  | .usbStalledRequest => execUsbStalledRequest_cells
  | .getInfo => execGetInfo_cells
  | .abort => execAbort_cells
  | .uartFrameGap => execUartFrameGap_cells
  | .fwActivateResume => execFwActivateResume_cells
  | .sessionTimeout => execSessionTimeout_cells
  | .svcLockoutExpiry => execSvcLockoutExpiry_cells
  | .floorRaise .. => execFloorRaise_cells
  | .optListenTimeout => execOptListenTimeout_cells
  | .optFrameRx .. => execOptFrameRx_cells
  | .optFrameError .. => execOptFrameError_cells
  | .twbAwakeExpiry => execTwbAwakeExpiry_cells
  | .twbPushDue => execTwbPushDue_cells
  | .twbPushDone => execTwbPushDone_cells
  | .twbPushFail => execTwbPushFail_cells
  | .twbArbLost => execTwbArbLost_cells
  | .eepromPageAck => execEepromPageAck_cells
  | .eepromPageTimeout => execEepromPageTimeout_cells
  | .groupWriteHoldTimeout => execGroupWriteHoldTimeout_cells
  | .keyTimeout => execKeyTimeout_cells
  | .cfgHoldExpiry => execCfgHoldExpiry_cells
  | .aonWriteApply => execAonWriteApply_cells
  | .snapUpdateAtStop => execSnapUpdateAtStop_cells
  | .xtalSwitch => execXtalSwitch_cells
  | .syncTxDue => execSyncTxDue_cells
  | .hwdWarn => execHwdWarn_cells
  | .hwdExpire => execHwdExpire_cells
  | .pwdWarn => execPwdWarn_cells
  | .pwdExpire => execPwdExpire_cells
  | .pwdSlotStable => execPwdSlotStable_cells
  | .thmFactorRise => execThmFactorRise_cells
  | .thmRestart => execThmRestart_cells
  | .hushClearRepeat => execHushClearRepeat_cells
  | .tsinktxExpiry => execTsinktxExpiry_cells
  | .chunkingNotSupportedExpiry => execChunkingNotSupportedExpiry_cells
  | .collapseDetachTimeout => execCollapseDetachTimeout_cells
  | .freshAttachDebounce .. => execFreshAttachDebounce_cells

/-- One line per arm of the dispatch: each cites the lemma of its meaning. -/
theorem exec_touch {W : List Nat} {s0 s : State} (h : Touch W s0 s) :
    ∀ c : Instr, Sub (exec_cells c) W → TouchOut W s0 (exec c s)
  | .powerOnResetRelease .., hW => execPowerOnResetRelease_touch h hW _ _ _ _
  | .imageHeadersRead .., hW => execImageHeadersRead_touch h hW _ _ _
  | .imageBodyReadDone .., hW => execImageBodyReadDone_touch h hW _
  | .portcAttemptFail .., hW => execPortcAttemptFail_touch h hW _ _
  | .backgroundCopyCheckDone .., hW => execBackgroundCopyCheckDone_touch h hW _
  | .warmReset .., hW => execWarmReset_touch h hW _
  | .coreReset .., hW => execCoreReset_touch h hW _
  | .sysResetWarm .., hW => execSysResetWarm_touch h hW _
  | .sysResetCore .., hW => execSysResetCore_touch h hW _
  | .resetRefused .., hW => execResetRefused_touch h hW _ _
  | .sysShip .., hW => execSysShip_touch h hW _
  | .shipExitWake .., hW => execShipExitWake_touch h hW _ _ _ _
  | .shipExitSource .., hW => execShipExitSource_touch h hW _ _ _ _ _
  | .hornReady .., hW => execHornReady_touch h hW _
  | .hornFail .., hW => execHornFail_touch h hW _ _
  | .discGlitch .., hW => execDiscGlitch_touch h hW _
  | .discFault .., hW => execDiscFault_touch h hW _ _
  | .alarmFrameRx .., hW => execAlarmFrameRx_touch h hW _ _ _ _
  | .clearFrameRx .., hW => execClearFrameRx_touch h hW _ _ _
  | .remoteTimeout .., hW => execRemoteTimeout_touch h hW _
  | .almCtrlHush .., hW => execAlmCtrlHush_touch h hW _
  | .hushFrameRx .., hW => execHushFrameRx_touch h hW _ _ _
  | .vauxUndervoltage .., hW => execVauxUndervoltage_touch h hW _
  | .nrstoRelease .., hW => execNrstoRelease_touch h hW _
  | .sourceQualify .., hW => execSourceQualify_touch h hW _ _ _
  | .inputCollapseTrip .., hW => execInputCollapseTrip_touch h hW _ _
  | .reverseTrip .., hW => execReverseTrip_touch h hW _ _ _
  | .inputOvTrip .., hW => execInputOvTrip_touch h hW _ _
  | .vsysOvTrip .., hW => execVsysOvTrip_touch h hW _
  | .tetSinkCutoff .., hW => execTetSinkCutoff_touch h hW _
  | .vpvLowPowerLoss .., hW => execVpvLowPowerLoss_touch h hW _ _ _
  | .vmuxSafe .., hW => execVmuxSafe_touch h hW _ _
  | .safelowTimeout .., hW => execSafelowTimeout_touch h hW _
  | .changeoverComplete .., hW => execChangeoverComplete_touch h hW _ _
  | .idealDiodeConduct .., hW => execIdealDiodeConduct_touch h hW _ _ _
  | .batfetTrip .., hW => execBatfetTrip_touch h hW _ _
  | .linearEnd .., hW => execLinearEnd_touch h hW _
  | .vpvPoStep .., hW => execVpvPoStep_touch h hW _
  | .vpvOcCheckEnd .., hW => execVpvOcCheckEnd_touch h hW _
  | .srcEnWrite .., hW => execSrcEnWrite_touch h hW _ _
  | .srcRankWrite .., hW => execSrcRankWrite_touch h hW _ _
  | .mainRegionChange .., hW => execMainRegionChange_touch h hW _
  | .tetSourceFoldback .., hW => execTetSourceFoldback_touch h hW _
  | .tetShort .., hW => execTetShort_touch h hW _ _
  | .hswOcp .., hW => execHswOcp_touch h hW _ _
  | .auxShort .., hW => execAuxShort_touch h hW _
  | .vauxOff .., hW => execVauxOff_touch h hW _
  | .convAuxWrite .., hW => execConvAuxWrite_touch h hW _ _
  | .keepLatchClear .., hW => execKeepLatchClear_touch h hW _
  | .vsysLadder .., hW => execVsysLadder_touch h hW _
  | .chgDetectDone .., hW => execChgDetectDone_touch h hW _ _
  | .chgPreconditionDone .., hW => execChgPreconditionDone_touch h hW _
  | .chgCvEntry .., hW => execChgCvEntry_touch h hW _
  | .chgTermCurrent .., hW => execChgTermCurrent_touch h hW _
  | .chgTopupStart .., hW => execChgTopupStart_touch h hW _
  | .chgSuspend .., hW => execChgSuspend_touch h hW _
  | .chgResume .., hW => execChgResume_touch h hW _
  | .chgBatOv .., hW => execChgBatOv_touch h hW _
  | .chgFaultAutoclear .., hW => execChgFaultAutoclear_touch h hW _
  | .chgClrfault .., hW => execChgClrfault_touch h hW _
  | .chgFullRequest .., hW => execChgFullRequest_touch h hW _
  | .ntcReading .., hW => execNtcReading_touch h hW _ _
  | .chgSocWrite .., hW => execChgSocWrite_touch h hW _ _
  | .ballastRecompute, hW => execBallastRecompute_touch h hW
  | .wbStart .., hW => execWbStart_touch h hW _ _ _
  | .vwbBrownout .., hW => execVwbBrownout_touch h hW _
  | .vwbEarlyWarning .., hW => execVwbEarlyWarning_touch h hW _
  | .wbCheckpoint .., hW => execWbCheckpoint_touch h hW _
  | .wbPeriodicDue .., hW => execWbPeriodicDue_touch h hW _ _ _ _
  | .wbWboCheck .., hW => execWbWboCheck_touch h hW _
  | .wbReferenceCheck .., hW => execWbReferenceCheck_touch h hW _
  | .wbRecordAccepted .., hW => execWbRecordAccepted_touch h hW _
  | .snapshot .., hW => execSnapshot_touch h hW _
  | .sweep .., hW => execSweep_touch h hW _
  | .capBegin .., hW => execCapBegin_touch h hW _
  | .capEnd .., hW => execCapEnd_touch h hW _
  | .setPeriod .., hW => execSetPeriod_touch h hW _
  | .setCell .., hW => execSetCell_touch h hW _
  | .wbMailboxIdent .., hW => execWbMailboxIdent_touch h hW _
  | .calibrate .., hW => execCalibrate_touch h hW _
  | .wbMailboxReset .., hW => execWbMailboxReset_touch h hW _
  | .wbCmdUnknown .., hW => execWbCmdUnknown_touch h hW _
  | .snapDone .., hW => execSnapDone_touch h hW _ _
  | .sweepDone .., hW => execSweepDone_touch h hW _ _ _ _
  | .capRelaxDone .., hW => execCapRelaxDone_touch h hW _
  | .calDone .., hW => execCalDone_touch h hW _
  | .wbRdselWrite .., hW => execWbRdselWrite_touch h hW _ _
  | .wbRddataRead .., hW => execWbRddataRead_touch h hW _ _
  | .vdtNoteRead .., hW => execVdtNoteRead_touch h hW _ _
  | .proofDischargeEnd .., hW => execProofDischargeEnd_touch h hW _
  | .proofreq .., hW => execProofreq_touch h hW _
  | .tetFrameSent .., hW => execTetFrameSent_touch h hW _
  | .tetFrameRefused .., hW => execTetFrameRefused_touch h hW _ _
  | .tetArbLost .., hW => execTetArbLost_touch h hW _
  | .tetRxError .., hW => execTetRxError_touch h hW _ _
  | .linkConditionChange .., hW => execLinkConditionChange_touch h hW _
  | .guardTrip .., hW => execGuardTrip_touch h hW _
  | .heartbeatRx .., hW => execHeartbeatRx_touch h hW _ _ _
  | .peerMissing .., hW => execPeerMissing_touch h hW _
  | .census .., hW => execCensus_touch h hW _
  | .censusRequestRx .., hW => execCensusRequestRx_touch h hW _ _
  | .claimRx .., hW => execClaimRx_touch h hW _ _ _
  | .faultFrameRx .., hW => execFaultFrameRx_touch h hW _ _ _
  | .readdr .., hW => execReaddr_touch h hW _
  | .linktest .., hW => execLinktest_touch h hW _
  | .linkTestRx .., hW => execLinkTestRx_touch h hW _ _ _
  | .linkEchoRx .., hW => execLinkEchoRx_touch h hW _ _ _
  | .marketFrameRx .., hW => execMarketFrameRx_touch h hW _ _
  | .offerPost .., hW => execOfferPost_touch h hW _ _ _
  | .bidPost .., hW => execBidPost_touch h hW _ _
  | .firmSend .., hW => execFirmSend_touch h hW _ _
  | .withdrawSend .., hW => execWithdrawSend_touch h hW _ _
  | .mktLapse .., hW => execMktLapse_touch h hW _ _
  | .mktCfgWrite .., hW => execMktCfgWrite_touch h hW _ _
  | .mktStallselWrite .., hW => execMktStallselWrite_touch h hW _ _
  | .mktStalltagWrite .., hW => execMktStalltagWrite_touch h hW _ _
  | .clrcnt .., hW => execClrcnt_touch h hW _
  | .ledgerRecordAccept .., hW => execLedgerRecordAccept_touch h hW _
  | .ledgerCommit .., hW => execLedgerCommit_touch h hW _
  | .flush .., hW => execFlush_touch h hW _
  | .lgrReadExact .., hW => execLgrReadExact_touch h hW _
  | .lgrReadNext .., hW => execLgrReadNext_touch h hW _
  | .lgrReadNextpin .., hW => execLgrReadNextpin_touch h hW _
  | .lgrRddataRead .., hW => execLgrRddataRead_touch h hW _ _
  | .lgrHostPost .., hW => execLgrHostPost_touch h hW _ _
  | .cmdAccept .., hW => execCmdAccept_touch h hW _
  | .cmdBusy .., hW => execCmdBusy_touch h hW _ _
  | .mainConverterFault .., hW => execMainConverterFault_touch h hW _ _
  | .tcAttach .., hW => execTcAttach_touch h hW _ _ _ _ _
  | .debugAccessoryAttach .., hW => execDebugAccessoryAttach_touch h hW _ _ _
  | .tcDetach .., hW => execTcDetach_touch h hW _ _
  | .advertisementChange .., hW => execAdvertisementChange_touch h hW _ _
  | .bc12Done .., hW => execBc12Done_touch h hW _
  | .sourceCapabilitiesRx .., hW => execSourceCapabilitiesRx_touch h hW _ _ _
  | .acceptRx .., hW => execAcceptRx_touch h hW _
  | .psRdyRx .., hW => execPsRdyRx_touch h hW _
  | .waitRejectRx .., hW => execWaitRejectRx_touch h hW _
  | .getSinkCapRx .., hW => execGetSinkCapRx_touch h hW _
  | .softResetRx .., hW => execSoftResetRx_touch h hW _
  | .getRevisionRx .., hW => execGetRevisionRx_touch h hW _
  | .alertRx .., hW => execAlertRx_touch h hW _
  | .bistRx .., hW => execBistRx_touch h hW _ _
  | .swapRequestRx .., hW => execSwapRequestRx_touch h hW _
  | .unsupportedMessageRx .., hW => execUnsupportedMessageRx_touch h hW _ _ _ _ _
  | .discoverIdentity .., hW => execDiscoverIdentity_touch h hW _
  | .discoverSvids .., hW => execDiscoverSvids_touch h hW _
  | .discoverModes .., hW => execDiscoverModes_touch h hW _ _
  | .enterMode .., hW => execEnterMode_touch h hW _ _ _
  | .exitMode .., hW => execExitMode_touch h hW _ _ _
  | .take .., hW => execTake_touch h hW _
  | .reneg .., hW => execReneg_touch h hW _
  | .getcaps .., hW => execGetcaps_touch h hW _
  | .exitsvc .., hW => execExitsvc_touch h hW _
  | .usbBusReset .., hW => execUsbBusReset_touch h hW _ _
  | .usbResume .., hW => execUsbResume_touch h hW _
  | .getStatus .., hW => execGetStatus_touch h hW _ _
  | .getDescriptor .., hW => execGetDescriptor_touch h hW _ _ _ _
  | .setAddress .., hW => execSetAddress_touch h hW _
  | .setConfiguration .., hW => execSetConfiguration_touch h hW _
  | .clearFeature .., hW => execClearFeature_touch h hW _
  | .setFeature .., hW => execSetFeature_touch h hW _
  | .openSession .., hW => execOpenSession_touch h hW _ _
  | .closeSession .., hW => execCloseSession_touch h hW _
  | .buniliaIdent .., hW => execBuniliaIdent_touch h hW _
  | .regRead .., hW => execRegRead_touch h hW _ _ _
  | .regWrite .., hW => execRegWrite_touch h hW _ _ _ _
  | .lgrRead .., hW => execLgrRead_touch h hW _ _ _ _
  | .stallRead .., hW => execStallRead_touch h hW _ _
  | .wbRead .., hW => execWbRead_touch h hW _ _
  | .wbSnapshot .., hW => execWbSnapshot_touch h hW _
  | .wbCalibrate .., hW => execWbCalibrate_touch h hW _ _
  | .imgStage .., hW => execImgStage_touch h hW _ _ _
  | .imgWrite .., hW => execImgWrite_touch h hW _ _
  | .fwBegin .., hW => execFwBegin_touch h hW _ _
  | .fwChunk .., hW => execFwChunk_touch h hW _ _ _
  | .fwWrite .., hW => execFwWrite_touch h hW _
  | .fwActivate .., hW => execFwActivate_touch h hW _ _ _
  | .buniliaReset .., hW => execBuniliaReset_touch h hW _ _
  | .buniliaShip .., hW => execBuniliaShip_touch h hW _
  | .cellNew .., hW => execCellNew_touch h hW _
  | .proofReq .., hW => execProofReq_touch h hW _
  | .buniliaUnknown .., hW => execBuniliaUnknown_touch h hW _ _
  | .svcCtrlClose .., hW => execSvcCtrlClose_touch h hW _
  | .optPreambleDetect .., hW => execOptPreambleDetect_touch h hW _
  | .optFlood .., hW => execOptFlood_touch h hW _
  | .optSettleEnd .., hW => execOptSettleEnd_touch h hW _
  | .optAnsdataRead .., hW => execOptAnsdataRead_touch h hW _ _
  | .twbAddressWake .., hW => execTwbAddressWake_touch h hW _
  | .twbClockLowTimeout .., hW => execTwbClockLowTimeout_touch h hW _
  | .twbSdaRelease .., hW => execTwbSdaRelease_touch h hW _
  | .twbPecWrite .., hW => execTwbPecWrite_touch h hW _ _ _ _
  | .twbPushStart .., hW => execTwbPushStart_touch h hW _
  | .cfgWriteStart .., hW => execCfgWriteStart_touch h hW _
  | .cfgWriteReset .., hW => execCfgWriteReset_touch h hW _
  | .imageWriteDone .., hW => execImageWriteDone_touch h hW _
  | .cfgStgaddrWrite .., hW => execCfgStgaddrWrite_touch h hW _ _
  | .cfgStgdataAccess .., hW => execCfgStgdataAccess_touch h hW _ _ _
  | .registerWrite .., hW => execRegisterWrite_touch h hW _ _ _ _
  | .setAliasWrite .., hW => execSetAliasWrite_touch h hW _ _ _
  | .clearAliasWrite .., hW => execClearAliasWrite_touch h hW _ _ _
  | .toggleAliasWrite .., hW => execToggleAliasWrite_touch h hW _ _ _
  | .rcRegisterRead .., hW => execRcRegisterRead_touch h hW _ _ _ _
  | .keyArm .., hW => execKeyArm_touch h hW _ _ _
  | .cfgCommit .., hW => execCfgCommit_touch h hW _
  | .cfgDiscard .., hW => execCfgDiscard_touch h hW _
  | .cfgLock .., hW => execCfgLock_touch h hW _
  | .cfgCheckPass .., hW => execCfgCheckPass_touch h hW _
  | .pageselWrite .., hW => execPageselWrite_touch h hW _ _
  | .snapTake .., hW => execSnapTake_touch h hW _ _
  | .xtalStartTimeout .., hW => execXtalStartTimeout_touch h hW _ _
  | .oscFault .., hW => execOscFault_touch h hW _ _ _
  | .oscRetry .., hW => execOscRetry_touch h hW _ _
  | .oscCrossCheck .., hW => execOscCrossCheck_touch h hW _ _ _ _
  | .clkTimesetWrite .., hW => execClkTimesetWrite_touch h hW _ _ _ _
  | .syncRx .., hW => execSyncRx_touch h hW _ _ _ _
  | .hwdKick .., hW => execHwdKick_touch h hW _ _
  | .hwdConfigWrite .., hW => execHwdConfigWrite_touch h hW _ _
  | .pwdKick .., hW => execPwdKick_touch h hW _
  | .pwdWaitEnd .., hW => execPwdWaitEnd_touch h hW _
  | .thmReading .., hW => execThmReading_touch h hW _
  | .thmShutdown .., hW => execThmShutdown_touch h hW _ _
  | .powerLoss .., hW => execPowerLoss_touch h hW _ _
  | .wakePinChange .., hW => execWakePinChange_touch h hW _
  | .buniliaBadframe .., hW => execBuniliaBadframe_touch h hW _ _
  | .statusMessageRx .., hW => execStatusMessageRx_touch h hW _ _
  | .ledgerReplayComplete, hW => execLedgerReplayComplete_touch h hW
  | .portcRetry, hW => execPortcRetry_touch h hW
  | .secureStart, hW => execSecureStart_touch h hW
  | .shipDelayExpiry, hW => execShipDelayExpiry_touch h hW
  | .shipArmExpiry, hW => execShipArmExpiry_touch h hW
  | .alarmPinEdge, hW => execAlarmPinEdge_touch h hW
  | .sysClockRequestWithdraw, hW => execSysClockRequestWithdraw_touch h hW
  | .localAlarmStart, hW => execLocalAlarmStart_touch h hW
  | .alarmCopyDue, hW => execAlarmCopyDue_touch h hW
  | .discBroadcast, hW => execDiscBroadcast_touch h hW
  | .discClear, hW => execDiscClear_touch h hW
  | .localAlarmEnd, hW => execLocalAlarmEnd_touch h hW
  | .hornRelease, hW => execHornRelease_touch h hW
  | .hushPress, hW => execHushPress_touch h hW
  | .hushTimerExpiry, hW => execHushTimerExpiry_touch h hW
  | .vauxHoldExpiry, hW => execVauxHoldExpiry_touch h hW
  | .vsysOvRestart, hW => execVsysOvRestart_touch h hW
  | .plannedChangeoverBegin, hW => execPlannedChangeoverBegin_touch h hW
  | .safelowRetry, hW => execSafelowRetry_touch h hW
  | .supplementStart, hW => execSupplementStart_touch h hW
  | .supplementEnd, hW => execSupplementEnd_touch h hW
  | .batfetRetry, hW => execBatfetRetry_touch h hW
  | .vpvOcCheck, hW => execVpvOcCheck_touch h hW
  | .tetModeChange, hW => execTetModeChange_touch h hW
  | .tetSourceRetry, hW => execTetSourceRetry_touch h hW
  | .hswReclose, hW => execHswReclose_touch h hW
  | .auxRestart, hW => execAuxRestart_touch h hW
  | .chgDetect, hW => execChgDetect_touch h hW
  | .chgAbsentRetry, hW => execChgAbsentRetry_touch h hW
  | .chgTargetReached, hW => execChgTargetReached_touch h hW
  | .chgTimeoutFault, hW => execChgTimeoutFault_touch h hW
  | .ntcDisagree, hW => execNtcDisagree_touch h hW
  | .chgSocStale, hW => execChgSocStale_touch h hW
  | .chgResumeTimeout, hW => execChgResumeTimeout_touch h hW
  | .wbWatchdogExpiry, hW => execWbWatchdogExpiry_touch h hW
  | .wbCurrentOverrange, hW => execWbCurrentOverrange_touch h hW
  | .wbRecordRelease, hW => execWbRecordRelease_touch h hW
  | .sweepHoldoffExpiry, hW => execSweepHoldoffExpiry_touch h hW
  | .capDischargeTimeout, hW => execCapDischargeTimeout_touch h hW
  | .reserveForm, hW => execReserveForm_touch h hW
  | .curfewEnd, hW => execCurfewEnd_touch h hW
  | .proofLift, hW => execProofLift_touch h hW
  | .proofChecks, hW => execProofChecks_touch h hW
  | .proofDeferExpiry, hW => execProofDeferExpiry_touch h hW
  | .proofCapacityBegin, hW => execProofCapacityBegin_touch h hW
  | .proofDischargeStart, hW => execProofDischargeStart_touch h hW
  | .proofEnd, hW => execProofEnd_touch h hW
  | .tetThresholdReset, hW => execTetThresholdReset_touch h hW
  | .guardSilenceEnd, hW => execGuardSilenceEnd_touch h hW
  | .heartbeatDue, hW => execHeartbeatDue_touch h hW
  | .censusAnswerDue, hW => execCensusAnswerDue_touch h hW
  | .addrListenEnd, hW => execAddrListenEnd_touch h hW
  | .addrHold .., hW => execAddrHold_touch h hW _
  | .addrRelisten, hW => execAddrRelisten_touch h hW
  | .levelAlarmStart, hW => execLevelAlarmStart_touch h hW
  | .levelAlarmEnd, hW => execLevelAlarmEnd_touch h hW
  | .mktRefreshDue, hW => execMktRefreshDue_touch h hW
  | .bidRetry, hW => execBidRetry_touch h hW
  | .tentmaxExpiry, hW => execTentmaxExpiry_touch h hW
  | .isrcHoldEnd, hW => execIsrcHoldEnd_touch h hW
  | .cutoffReturn, hW => execCutoffReturn_touch h hW
  | .stallWriteback .., hW => execStallWriteback_touch h hW _
  | .tallyWindowExpiry, hW => execTallyWindowExpiry_touch h hW
  | .lgrReadDone, hW => execLgrReadDone_touch h hW
  | .supplyEarlyWarning .., hW => execSupplyEarlyWarning_touch h hW _ _
  | .cmdReplay, hW => execCmdReplay_touch h hW
  | .ccRpDetect, hW => execCcRpDetect_touch h hW
  | .attachwaitAbandon .., hW => execAttachwaitAbandon_touch h hW _
  | .bc12Start, hW => execBc12Start_touch h hW
  | .pdRequestRetry, hW => execPdRequestRetry_touch h hW
  | .pdRefusalExpiry, hW => execPdRefusalExpiry_touch h hW
  | .bistCarrierEnd, hW => execBistCarrierEnd_touch h hW
  | .hardResetRx, hW => execHardResetRx_touch h hW
  | .pdSenderResponseTimeout, hW => execPdSenderResponseTimeout_touch h hW
  | .pdSinkWaitCapTimeout, hW => execPdSinkWaitCapTimeout_touch h hW
  | .pdPsTransitionTimeout, hW => execPdPsTransitionTimeout_touch h hW
  | .pdReceiveTimeout, hW => execPdReceiveTimeout_touch h hW
  | .pdNoResponse, hW => execPdNoResponse_touch h hW
  | .pdHardResetVbusTimeout, hW => execPdHardResetVbusTimeout_touch h hW
  | .ppsKeepalive, hW => execPpsKeepalive_touch h hW
  | .fallbackRequest, hW => execFallbackRequest_touch h hW
  | .usbConnect, hW => execUsbConnect_touch h hW
  | .usbNohost, hW => execUsbNohost_touch h hW
  | .usbSuspend, hW => execUsbSuspend_touch h hW
  | .getConfiguration, hW => execGetConfiguration_touch h hW
  | .getInterface, hW => execGetInterface_touch h hW
  | .setInterface, hW => execSetInterface_touch h hW
  | .usbStalledRequest, hW => execUsbStalledRequest_touch h hW
  | .getInfo, hW => execGetInfo_touch h hW
  | .abort, hW => execAbort_touch h hW
  | .uartFrameGap, hW => execUartFrameGap_touch h hW
  | .fwActivateResume, hW => execFwActivateResume_touch h hW
  | .sessionTimeout, hW => execSessionTimeout_touch h hW
  | .svcLockoutExpiry, hW => execSvcLockoutExpiry_touch h hW
  | .floorRaise .., hW => execFloorRaise_touch h hW _
  | .optListenTimeout, hW => execOptListenTimeout_touch h hW
  | .optFrameRx .., hW => execOptFrameRx_touch h hW _
  | .optFrameError .., hW => execOptFrameError_touch h hW _
  | .twbAwakeExpiry, hW => execTwbAwakeExpiry_touch h hW
  | .twbPushDue, hW => execTwbPushDue_touch h hW
  | .twbPushDone, hW => execTwbPushDone_touch h hW
  | .twbPushFail, hW => execTwbPushFail_touch h hW
  | .twbArbLost, hW => execTwbArbLost_touch h hW
  | .eepromPageAck, hW => execEepromPageAck_touch h hW
  | .eepromPageTimeout, hW => execEepromPageTimeout_touch h hW
  | .groupWriteHoldTimeout, hW => execGroupWriteHoldTimeout_touch h hW
  | .keyTimeout, hW => execKeyTimeout_touch h hW
  | .cfgHoldExpiry, hW => execCfgHoldExpiry_touch h hW
  | .aonWriteApply, hW => execAonWriteApply_touch h hW
  | .snapUpdateAtStop, hW => execSnapUpdateAtStop_touch h hW
  | .xtalSwitch, hW => execXtalSwitch_touch h hW
  | .syncTxDue, hW => execSyncTxDue_touch h hW
  | .hwdWarn, hW => execHwdWarn_touch h hW
  | .hwdExpire, hW => execHwdExpire_touch h hW
  | .pwdWarn, hW => execPwdWarn_touch h hW
  | .pwdExpire, hW => execPwdExpire_touch h hW
  | .pwdSlotStable, hW => execPwdSlotStable_touch h hW
  | .thmFactorRise, hW => execThmFactorRise_touch h hW
  | .thmRestart, hW => execThmRestart_touch h hW
  | .hushClearRepeat, hW => execHushClearRepeat_touch h hW
  | .tsinktxExpiry, hW => execTsinktxExpiry_touch h hW
  | .chunkingNotSupportedExpiry, hW => execChunkingNotSupportedExpiry_touch h hW
  | .collapseDetachTimeout, hW => execCollapseDetachTimeout_touch h hW
  | .freshAttachDebounce .., hW => execFreshAttachDebounce_touch h hW _

/-- Every meaning is written as a next state, on all its paths: none ends in a fault or a refusal. -/
theorem exec_answers (c : Instr) (s : State) : ∃ t, exec c s = .next t := by
  cases c <;> exact ⟨_, rfl⟩

theorem Touch.sameUnit {W : List Nat} {s t : State} (h : Touch W s t) : s.sameUnit t :=
  ⟨h.part, h.pending⟩

theorem exec_sameUnit (c : Instr) (s : State) : ∃ t, exec c s = .next t ∧ s.sameUnit t := by
  obtain ⟨t, ht⟩ := exec_answers c s
  have hTouch : Touch (exec_cells c) s t := exec_touch (Touch.refl _ s) c (Sub.refl _) t ht
  exact ⟨t, ht, hTouch.sameUnit⟩

theorem State.idle_sameUnit (s : State) : s.sameUnit s.idle :=
  (State.idle_touch (Touch.refl _ s) (Sub.refl _)).sameUnit

/-- Settles O4: a step is a tick, or the front command's meaning on the rest of the queue, and either answers a next state of the
same unit. -/
theorem unitKept : Obligations.UnitKept := by
  intro s
  cases hq : s.pending with
  | nil =>
    obtain ⟨hpart, hpending⟩ := s.idle_sameUnit
    exact ⟨s.idle, by simp only [step, hq], hpart, hpending.trans hq⟩
  | cons c l =>
    obtain ⟨t, ht, hpart, hpending⟩ := exec_sameUnit c { s with pending := l }
    exact ⟨t, by simp only [step, hq, ht], hpart, hpending⟩

end Sys2Proof.Machine
end

section
/-!
SUPPORT. The unit without supply; and two states that the statements about keyed registers and about resets do not leave out: one
whose waiting snapshot lists a register that the command writes, and one that lists two keys of one path.
-/

namespace Sys2Proof.Machine

/-! ## The unit without supply -/

/-- The register file of the unit without supply is empty, so every register reads its reset value (R10). -/
theorem State.reset_reg (a : Nat) : State.reset.reg a = resetVal a := rfl

/-- Settles O2: the stores are empty, and every register reads the reset value of its row in chapter 18. -/
theorem resetState : Obligations.ResetState := by
  unfold Obligations.ResetState
  refine ⟨⟨rfl, rfl, rfl, rfl, rfl, rfl⟩, ?_⟩
  simp only [State.reset_reg]
  decide

/-! ## A key's loss counts once for its path -/

theorem exec_warmReset {s : State} (h : s.live = true) (cause : Nat) :
    exec (.warmReset cause) s = .next (s.warmReset cause) := by
  simp only [exec, execWarmReset, State.whenLive, h, if_true]

/-- A running unit that lists two keys of the policy firmware. No run leads here, for arming a key loses the path's former one
(R428), but O60 asks its clause of every live state. -/
def twoKeysOfOnePath : State :=
  { State.reset with
    phase := .run,
    ra := { RegLogic.reset with keys := [⟨.firmware, R.CFG_LOCK, 1, 0⟩, ⟨.firmware, R.CFG_COMMIT, 1, 0⟩] } }

/-- The loss of the first key forgets the second with it, so that a warm reset counts one key error and not two. -/
theorem warmReset_counts_path_once : (twoKeysOfOnePath.warmReset 0).regN R.SYS_KEYERRCNT = 1 := by decide +kernel

/-- Refutes O60: its warm-reset clause adds to SYS_KEYERRCNT the number of keys listed, but the count goes up once for each path
that loses its key; two keys listed for one path give 1, where the clause says 2. -/
theorem not_resetsAndShip : ¬ Obligations.ResetsAndShip := by
  unfold Obligations.ResetsAndShip
  rintro ⟨hWarm, -⟩
  obtain ⟨t, ht, -, -, -, -, -, -, -, hCount⟩ := hWarm twoKeysOfOnePath 0 (by decide) (by decide)
  rw [exec_warmReset (by decide)] at ht
  obtain rfl := Host.Outcome.next.inj ht
  rw [warmReset_counts_path_once] at hCount
  exact absurd hCount (by decide)

/-! ## What a STOP shows over a keyed write -/

/-- A running unit with CFG_LOCK's key armed on Port H, and a snapshot that waits for a STOP and lists CFG_STATUS. No run leads
here, for a snapshot lists registers of page 0x11 only (R438), but O54 asks its clauses of every state with the key armed. -/
def lockBeforeSnapshot : State :=
  { State.reset with
    phase := .run, pins := { Pins.reset with wake := true }, boot := { Boot.reset with applied := true },
    ra := { RegLogic.reset with keys := [⟨.portH, R.CFG_LOCK, 1, 0⟩], snapWait := some [(R.CFG_STATUS, 0)] } }

/-- CFG_LOCK sets LOCKED, and the STOP of the same transaction then puts the snapshot's value into CFG_STATUS. -/
theorem snapshot_clears_lock :
    (lockBeforeSnapshot.keySecond (.portH 0x58) R.CFG_LOCK 1).flag F.CFG_STATUS_LOCKED = false := by decide

/-- Refutes O54: its clause for CFG_LOCK has LOCKED set after the command, also where a snapshot waits for the end of that Port H
transaction; one that lists CFG_STATUS, in lockBeforeSnapshot, clears LOCKED at the STOP. -/
theorem not_keyedRegisters : ¬ Obligations.KeyedRegisters := by
  unfold Obligations.KeyedRegisters
  rintro ⟨-, -, -, -, -, -, -, -, hLock, -⟩
  obtain ⟨t, ht, hLocked, -⟩ := hLock lockBeforeSnapshot (.portH 0x58) (by decide) (by decide)
  obtain rfl : _ = t := Host.Outcome.next.inj ht
  exact absurd (hLocked (by decide)) (by rw [snapshot_clears_lock]; decide)

end Sys2Proof.Machine
end

section
/-!
SUPPORT. What a STOP shows over a plain write of Port H: a state whose waiting snapshot lists the register that is written.
-/

namespace Sys2Proof.Machine

/-- A running unit with a snapshot that waits for a STOP and lists SRC_RANK. No run leads here, for a snapshot lists registers of
page 0x11 only (R438), but O52 asks its clauses of every state that Port H reaches. -/
def rankBeforeSnapshot : State :=
  { State.reset with
    phase := .run, pins := { Pins.reset with wake := true }, boot := { Boot.reset with applied := true },
    ra := { RegLogic.reset with snapWait := some [(R.SRC_RANK, 0)] } }

/-- SRC_RANK takes the value written, and the STOP of the same transaction then puts the snapshot's value into it. -/
theorem snapshot_overwrites_rank :
    (rankBeforeSnapshot.rowWrite (.portH 0x58) 0 R.SRC_RANK 0x0039).reg R.SRC_RANK = 0 := by decide

/-- Refutes O52: its clause for SRC_RANK has the register read the value written, also where a snapshot waits for the end of that
Port H transaction; one that lists SRC_RANK, in rankBeforeSnapshot, is shown over it at the STOP. -/
theorem not_powerRegisters : ¬ Obligations.PowerRegisters := by
  unfold Obligations.PowerRegisters
  rintro ⟨-, -, hRank, -⟩
  obtain ⟨t, ht, hWritten, -⟩ := hRank rankBeforeSnapshot (.portH 0x58) 0x0039 (by decide) (by decide) (by decide)
  obtain rfl : _ = t := Host.Outcome.next.inj ht
  rw [snapshot_overwrites_rank] at hWritten
  exact absurd hWritten (by decide)

end Sys2Proof.Machine
end

section
/-!
SUPPORT. Reading a state after it has been written, for the proofs about whole commands: bits and fields of one register beside
each other, what Touch says of a flag or a field, which record a command hands over, and that records in the FIFOs stay there.
-/

namespace Sys2Proof.Machine

/-! ## A command whose condition holds -/

theorem State.when_true (s : State) {c : Bool} (h : c = true) (f : State → State) : s.when c f = f s := by
  simp [State.when, h]

theorem State.whenLive_true (s : State) (h : s.live = true) (f : State → State) : s.whenLive f = f s := by
  simp [State.whenLive, h]

/-- A command with a condition, which holds, gives what its effect gives. -/
theorem Gives.of_when {c : Instr} {s : State} {P : State → Prop} {b : Bool} {f : State → State}
    (he : exec c s = .next (s.when b f)) (hb : b = true) (hP : P (f s)) : Gives c s P :=
  ⟨f s, by rw [he, s.when_true hb], hP⟩

/-- A command of a running unit gives what its effect gives. -/
theorem Gives.of_whenLive {c : Instr} {s : State} {P : State → Prop} {f : State → State}
    (he : exec c s = .next (s.whenLive f)) (hs : s.live = true) (hP : P (f s)) : Gives c s P :=
  ⟨f s, by rw [he, s.whenLive_true hs], hP⟩

/-! ## The register file of a state whose other parts have been written -/

/-- A register reads from the register file alone. -/
@[simp] theorem State.reg_mk (part phase now free regs ra pins boot alm path conv chg link mkt vdt cmd thm lgr clk wb pd svc usb opt
    twb pending) (a : Nat) :
    State.reg ⟨part, phase, now, free, regs, ra, pins, boot, alm, path, conv, chg, link, mkt, vdt, cmd, thm, lgr, clk, wb, pd, svc,
      usb, opt, twb, pending⟩ a = regGet regs a := rfl

@[simp] theorem regGet_regs (s : State) (a : Nat) : regGet s.regs a = s.reg a := rfl

/-! ## Bits and fields of one register beside each other -/

/-- A bit outside a field that is written stays. -/
theorem bitOf_putFieldOf (v : Word) (lo width x b : Nat) (h : b < lo ∨ lo + width ≤ b) :
    bitOf (putFieldOf v lo width x) b = bitOf v b := by
  unfold bitOf putFieldOf
  by_cases hb : b < 16
  · have hmask : (BitVec.ofNat 16 (2 ^ width - 1) <<< lo).getLsbD b = false := by
      rcases h with h | h
      · simp [h]
      · simp [BitVec.getLsbD_ofNat, Nat.testBit_two_pow_sub_one, show ¬ b - lo < width by omega]
    have hval : (BitVec.ofNat 16 (x % 2 ^ width) <<< lo).getLsbD b = false := by
      rcases h with h | h
      · simp [h]
      · simp [BitVec.getLsbD_ofNat, Nat.testBit_mod_two_pow, show ¬ b - lo < width by omega]
    simp only [BitVec.getLsbD_or, BitVec.getLsbD_and, BitVec.getLsbD_not, hmask, hval, hb, decide_true, Bool.not_false,
      Bool.and_true,
      Bool.or_false]
  · simp [BitVec.getLsbD_of_ge _ b (Nat.le_of_not_lt hb)]

/-- A field beside a bit that is written stays. -/
theorem fieldOf_setBitOf (v : Word) (lo width b : Nat) (x : Bool) (hb : b < 16) (h : b < lo ∨ lo + width ≤ b) :
    fieldOf (setBitOf v b x) lo width = fieldOf v lo width := by
  unfold fieldOf
  apply Nat.eq_of_testBit_eq
  intro i
  simp only [Nat.testBit_mod_two_pow, Nat.testBit_div_two_pow, BitVec.testBit_toNat]
  by_cases hi : i < width
  · have hne : i + lo ≠ b := by omega
    have hbit := bitOf_setBitOf v b x (i + lo) hb
    rw [if_neg hne] at hbit
    exact congrArg _ hbit
  · simp [hi]

section
variable (s : State)

/-- A flag after a field beside it has been written. -/
theorem State.flag_setField_ne (f : Field) (x : Nat) (g : Flag) (h : g.reg ≠ f.reg ∨ g.bit < f.lo ∨ f.lo + f.width ≤ g.bit) :
    (s.setField f x).flag g = s.flag g := by
  unfold State.flag
  rw [State.reg_setField]
  by_cases hr : g.reg = f.reg
  · rw [if_pos hr, bitOf_putFieldOf _ _ _ _ _ (h.resolve_left (not_not_intro hr)), hr]
  · rw [if_neg hr]

/-- A field after a flag beside it has been written. -/
theorem State.field_setFlag_ne (f : Flag) (x : Bool) (g : Field) (hf : f.bit < 16)
    (h : g.reg ≠ f.reg ∨ f.bit < g.lo ∨ g.lo + g.width ≤ f.bit) : (s.setFlag f x).field g = s.field g := by
  unfold State.field
  rw [State.reg_setFlag]
  by_cases hr : g.reg = f.reg
  · rw [if_pos hr, fieldOf_setBitOf _ _ _ _ _ hf (h.resolve_left (not_not_intro hr)), hr]
  · rw [if_neg hr]

/-- A counter after it has gone up. -/
theorem State.regN_bump (a n : Nat) : (s.bump a n).regN a = min (s.regN a + n) 0xFFFF := by
  simp only [State.regN, State.reg_bump, if_true, sat16, BitVec.toNat_ofNat]
  omega

end

/-! ## What Touch says of a flag, a field, and of what is read off several registers -/

section
variable {W : List Nat} {s t : State} (h : Touch W s t)
include h

theorem Touch.flag (f : Flag) (hf : f.reg ∉ W ∧ 0x1430 ∉ W) : t.flag f = s.flag f := by
  unfold State.flag
  rw [h.reg f.reg hf.1 hf.2]

theorem Touch.field (f : Field) (hf : f.reg ∉ W ∧ 0x1430 ∉ W) : t.field f = s.field f := by
  unfold State.field
  rw [h.reg f.reg hf.1 hf.2]

theorem Touch.regN (a : Nat) (ha : a ∉ W ∧ 0x1430 ∉ W) : t.regN a = s.regN a := by
  unfold State.regN
  rw [h.reg a ha.1 ha.2]

theorem Touch.mapBit (a addr : Nat) (ha : (∀ k < 4, a + k ∉ W) ∧ 0x1430 ∉ W) : t.mapBit a addr = s.mapBit a addr := by
  unfold State.mapBit
  rw [h.reg _ (ha.1 _ (by omega)) ha.2]

end

/-! ## Records handed over -/

/-- A tally writes two registers of the Ledger. -/
theorem State.tallyCt_reg (s : State) (ct a : Nat) (ha : a ≠ R.LGR_EVENT ∧ a ≠ R.LGR_COALCNT) :
    (s.tallyCt ct).reg a = s.reg a := by
  unfold State.tallyCt
  dsimp only
  split_ifs <;> simp [State.reg_bump, State.reg_event, ha.1, ha.2]

/-- A record handed over writes at most the same two registers. -/
theorem State.post_reg (s : State) (k : Kind) (p : List Byte) (a : Nat) (ha : a ≠ R.LGR_EVENT ∧ a ≠ R.LGR_COALCNT) :
    (s.post k p).reg a = s.reg a := by
  unfold State.post
  dsimp only
  split_ifs
  · rfl
  · rfl
  · rfl
  · exact s.tallyCt_reg _ a ha

/-- The states agree in all that handing over a record looks at: the Ledger with its bank bits, and the time stamp. -/
structure SameIntake (s t : State) : Prop where
  lgr : t.lgr = s.lgr
  now : t.now = s.now
  clk : t.clk = s.clk
  status : t.reg R.LGR_STATUS = s.reg R.LGR_STATUS
  cfg : t.reg R.LGR_CFG = s.reg R.LGR_CFG
  valid : t.reg R.CLK_STATUS = s.reg R.CLK_STATUS

theorem Touch.sameIntake {W : List Nat} {s t : State} (h : Touch W s t)
    (hW : ∀ a ∈ [0x140f, 0x1401, 0x1410, 0x1430, R.LGR_STATUS, R.LGR_CFG, R.CLK_STATUS], a ∉ W) : SameIntake s t where
  lgr := h.lgr (hW _ (by simp))
  now := h.now (hW _ (by simp))
  clk := h.clk (hW _ (by simp))
  status := h.reg _ (hW _ (by simp)) (hW _ (by simp))
  cfg := h.reg _ (hW _ (by simp)) (hW _ (by simp))
  valid := h.reg _ (hW _ (by simp)) (hW _ (by simp))

/-- A ledger that counts an event of one class and type at a second, an accumulator opened now being due at `due` (R299). -/
def Ledger.tallied (l : Ledger) (ct sec due : Nat) : Ledger :=
  if l.accs.any (fun a => a.ct == ct) then { l with accs := l.accs.map fun a => if a.ct == ct then a.count1 sec else a }
  else if l.accs.length < 24 then { l with accs := l.accs ++ [⟨ct, 1, sec, sec, due⟩] }
  else { l with other := some (match l.other with | some a => a.count1 sec | none => ⟨0xFFFF, 1, sec, sec, due⟩) }

theorem State.tallyCt_lgr (s : State) (ct : Nat) :
    (s.tallyCt ct).lgr = s.lgr.tallied ct s.stampSec (s.now + s.twin) := by
  by_cases hOpen : s.lgr.accs.any (fun a => a.ct == ct) = true
  · simp only [State.tallyCt, Ledger.tallied, State.bump_lgr, hOpen, if_true]
  · by_cases hRoom : s.lgr.accs.length < 24
    · simp only [State.tallyCt, Ledger.tallied, State.bump_lgr, hOpen, hRoom, if_true, Bool.false_eq_true, if_false]
    · cases hOther : s.lgr.other <;>
        simp only [State.tallyCt, Ledger.tallied, State.bump_lgr, State.event_lgr, hOpen, hRoom, hOther, Bool.false_eq_true,
          if_false]

theorem SameIntake.tallyCt_lgr {s t : State} (h : SameIntake s t) (ct : Nat) : (t.tallyCt ct).lgr = (s.tallyCt ct).lgr := by
  have hSec : t.stampSec = s.stampSec := by
    simp only [State.stampSec, State.stamp, State.flag, h.valid, h.clk, h.now]
    rfl
  have hTwin : t.twin = s.twin := by simp only [State.twin, State.field, h.cfg]
  rw [State.tallyCt_lgr, State.tallyCt_lgr, h.lgr, h.now, hSec, hTwin]

/-- Equal intakes take a record equally. -/
theorem SameIntake.post_lgr {s t : State} (h : SameIntake s t) (k : Kind) (p : List Byte) :
    (t.post k p).lgr = (s.post k p).lgr := by
  have hDead : t.ledgerDead = s.ledgerDead := by simp only [State.ledgerDead, State.flag, h.status]
  unfold State.post
  simp only [hDead, h.lgr]
  split_ifs
  · exact h.lgr
  · rfl
  · rfl
  · exact h.tallyCt_lgr _

end Sys2Proof.Machine
end

section
/-!
SUPPORT. The alarm charge suspension and the ALARM overlay (R42, R47, R52, R167, R188): that what an alarm brings about beside them
leaves them as they are.
-/

namespace Sys2Proof.Machine

variable (s : State)

/-! ## The horn's switches (R43, R254) -/

/-- HSW aside, its following leaves every flag. -/
theorem State.refreshHsw_flag (g : Flag) (hg : g ≠ F.ALM_STATUS_HSW) : s.refreshHsw.flag g = s.flag g := by
  unfold State.refreshHsw
  rw [State.flag_setFlag _ _ _ _ (by decide), if_neg hg]

/-- The horn's switches aside, their following leaves every flag. -/
theorem State.refreshHorn_flag (g : Flag) (hg : g ≠ F.ALM_STATUS_HSW ∧ g ≠ F.TET_STATUS_LVL_OUT) :
    s.refreshHorn.flag g = s.flag g := by
  unfold State.refreshHorn
  rw [State.flag_setFlag _ _ _ _ (by decide), if_neg hg.2, s.refreshHsw_flag g hg.1]

/-! ## The charge suspension line -/

theorem State.setFlag_suspLine (f : Flag) (x : Bool) (hf : f.bit < 16 ∧ F.CHG_STATUS_SUSP_ALM ≠ f) :
    (s.setFlag f x).suspLine = s.suspLine := by
  unfold State.suspLine
  rw [State.flag_setFlag _ _ _ _ hf.1, if_neg hf.2]

theorem Touch.suspLine {W : List Nat} {s t : State} (h : Touch W s t) (hW : R.CHG_STATUS ∉ W ∧ 0x1430 ∉ W) :
    t.suspLine = s.suspLine := h.flag F.CHG_STATUS_SUSP_ALM hW

theorem State.refreshBatfet_suspLine : s.refreshBatfet.suspLine = s.suspLine :=
  (State.refreshBatfet_touch (Touch.refl _ s) (Sub.refl _)).suspLine (by decide)

theorem State.enterPhase_suspLine (p : Nat) : (s.enterPhase p).suspLine = s.suspLine := by
  have hIbat (u : State) : u.refreshIbat.suspLine = u.suspLine :=
    (State.refreshIbat_touch (Touch.refl _ u) (Sub.refl _)).suspLine (by decide)
  have hReduced (u : State) : u.refreshReduced.suspLine = u.suspLine := u.chgSettle.setFlag_suspLine _ _ (by decide)
  have hPhase : (if s.chgSettle.phaseN = p then s.chgSettle
      else (s.chgSettle.setField F.CHG_STATUS_PHASE p).event F.CHG_EVENT_PHASE_CHG).suspLine = s.suspLine := by
    split
    · rfl
    · rw [State.event, State.setFlag_suspLine _ _ _ (by decide)]
      exact s.chgSettle.flag_setField_ne _ _ _ (by decide)
  unfold State.enterPhase
  dsimp only
  rw [State.refreshBatfet_suspLine, hIbat, hReduced, State.setFlag_suspLine _ _ _ (by decide)]
  generalize (if s.chgSettle.phaseN = p then _ else _) = u at hPhase ⊢
  split_ifs <;> exact hPhase

/-- Of what a suspension brings about, its own bit alone can move the alarm's. -/
theorem State.chgSuspend_suspLine_of_clear (f : Flag) (hf : s.flag f = false) :
    (s.chgSuspend f).suspLine = (s.setFlag f true).suspLine := by
  have hTallied : (if f = F.CHG_STATUS_SUSP_ALM ∨ f = F.CHG_STATUS_SUSP_TEMP then (s.setFlag f true).tally K.CHG_SUSPEND
      else s.setFlag f true).suspLine = (s.setFlag f true).suspLine := by
    split
    · exact (State.tally_touch (Touch.refl _ _) (Sub.refl _) _).suspLine (by decide)
    · rfl
  unfold State.chgSuspend
  simp only [hf, Bool.false_eq_true, if_false, Bool.or_eq_true, decide_eq_true_eq]
  generalize (if f = _ ∨ f = _ then _ else _) = u at hTallied ⊢
  split
  · exact hTallied
  · exact (State.setFlag_suspLine _ _ _ (by decide)).trans ((State.enterPhase_suspLine _ _).trans hTallied)

/-- A suspension for another cause leaves the alarm's as it is. -/
theorem State.chgSuspend_suspLine (f : Flag) (hf : f.bit < 16 ∧ F.CHG_STATUS_SUSP_ALM ≠ f) :
    (s.chgSuspend f).suspLine = s.suspLine := by
  by_cases hSet : s.flag f = true
  · rw [State.chgSuspend, if_pos hSet]
  · rw [s.chgSuspend_suspLine_of_clear f (Bool.eq_false_iff.2 hSet), s.setFlag_suspLine f true hf]

/-! ## The Weighbridge's sequences (R182 to R190) -/

theorem State.sweepOn_suspLine : s.sweepOn.suspLine = s.suspLine := by
  have hExc : ((s.setFlag F.CONV_STATUS_EXC true).chgSuspend F.CHG_STATUS_SUSP_SWEEP).suspLine = s.suspLine :=
    (State.chgSuspend_suspLine _ _ (by decide)).trans (s.setFlag_suspLine _ _ (by decide))
  unfold State.sweepOn
  dsimp only
  split
  · exact hExc
  · exact ((State.excClip_touch (Touch.refl _ _) (Sub.refl _)).suspLine (by decide)).trans hExc

theorem State.sweepOff_suspLine : s.sweepOff.suspLine = s.suspLine :=
  (State.setFlag_suspLine _ F.CHG_STATUS_SUSP_SWEEP false (by decide)).trans
    ((State.excEnd_touch (Touch.refl _ s) (Sub.refl _)).suspLine (by decide))

theorem State.seqBegin_suspLine (kind arg : Nat) : (s.seqBegin kind arg).suspLine = s.suspLine := by
  unfold State.seqBegin
  dsimp only
  split
  · exact State.sweepOn_suspLine _
  · rfl

theorem State.seqStart_suspLine (kind arg : Nat) : (s.seqStart kind arg).suspLine = s.suspLine := by
  have hNotice (reason code : Nat) : (s.wbNotice reason code).suspLine = s.suspLine :=
    (State.wbNotice_touch (Touch.refl _ s) (Sub.refl _) _ _).suspLine (by decide)
  unfold State.seqStart
  have hHold : s.holdArm.suspLine = s.suspLine := rfl
  split_ifs <;> simp only [hNotice, hHold, State.seqBegin_suspLine]

theorem State.startPending_suspLine : s.startPending.suspLine = s.suspLine := by
  unfold State.startPending
  split
  · rfl
  · split
    · rfl
    · exact State.seqStart_suspLine _ _ _

theorem State.seqEnd_suspLine (typ extra : Nat) (body : List Byte) : (s.seqEnd typ extra body).suspLine = s.suspLine := by
  unfold State.seqEnd
  dsimp only
  rw [State.startPending_suspLine, State.event, State.setFlag_suspLine _ _ _ (by decide)]
  exact (State.wbRelease_touch (Touch.refl _ _) (Sub.refl _) _ _ _).suspLine (by decide)

theorem State.sweepAbort_suspLine : s.sweepAbort.suspLine = s.suspLine := by
  have hRelease (u : State) (typ extra : Nat) (body : List Byte) : (u.wbRelease typ extra body).suspLine = u.suspLine :=
    (State.wbRelease_touch (Touch.refl _ u) (Sub.refl _) _ _ _).suspLine (by decide)
  unfold State.sweepAbort
  split
  · split
    · rw [State.startPending_suspLine]
      refine (State.setFlag_suspLine _ F.WB_EVENT_SWEEP_ABORT true (by decide)).trans ?_
      rw [hRelease, State.sweepOff_suspLine]
      exact s.sweepOff_suspLine
    · rfl
  · rfl

theorem State.wbSuspended_suspLine : s.wbSuspended.suspLine = s.suspLine := by
  unfold State.wbSuspended
  split
  · rfl
  · dsimp only
    rw [State.sweepAbort_suspLine]
    split <;> rfl

/-- An alarm raises the charge suspension (R42, R47). -/
theorem State.alarmSuspend_suspLine : s.alarmSuspend.suspLine = true := by
  unfold State.alarmSuspend
  split
  · assumption
  · rename_i hLow
    rw [State.wbSuspended_suspLine, s.chgSuspend_suspLine_of_clear _ (Bool.eq_false_iff.2 hLow), State.suspLine,
      State.flag_setFlag _ _ _ _ (by decide), if_pos rfl]

theorem State.capAbandon_suspLine : s.capAbandon.suspLine = s.suspLine := by
  unfold State.capAbandon
  split
  · split
    · exact (State.seqEnd_suspLine _ _ _ _).trans ((State.abandonBody_touch (Touch.refl _ s) (Sub.refl _) _).suspLine (by decide))
    · rfl
  · rfl

theorem State.proofClear_suspLine : s.proofClear.suspLine = s.suspLine := by
  unfold State.proofClear
  dsimp only
  rw [State.refreshBatfet_suspLine]
  refine (State.setFlag_suspLine _ F.CHG_STATUS_SUSP_PROOF false (by decide)).trans ?_
  rw [State.capAbandon_suspLine]
  exact (State.setOverlay_touch (Touch.refl (R.SYS_STATE :: State.setOverlay_cells) _)
    (Sub.of rfl) _ _ (.inl (by decide))).suspLine (by decide)

theorem State.proofAbandon_suspLine (cause : Nat) : (s.proofAbandon cause).suspLine = s.suspLine := by
  unfold State.proofAbandon
  split
  · rfl
  · dsimp only
    refine ((State.post_touch (Touch.refl _ _) (Sub.refl _) _ _).suspLine (by decide)).trans ?_
    refine (State.setFlag_suspLine _ F.VDT_EVENT_PROOF_END true (by decide)).trans ?_
    refine ((State.showOutcome_touch (Touch.refl _ _) (Sub.refl _) _ _).suspLine (by decide)).trans ?_
    exact s.proofClear_suspLine

/-! ## The ALARM overlay -/

/-- Another overlay leaves ALARM as it is. -/
theorem State.setOverlay_alarm (f : Flag) (x : Bool) (hf : f.bit < 16 ∧ F.SYS_STATE_ALARM ≠ f) :
    (s.setOverlay f x).flag F.SYS_STATE_ALARM = s.flag F.SYS_STATE_ALARM := by
  unfold State.setOverlay
  split
  · rfl
  · rw [(State.deferTimer_touch (Touch.refl State.deferTimer_cells _) (Sub.refl _) f x).flag _ (by decide),
      State.flag_event _ _ _ (by decide), if_neg (by decide), State.flag_setFlag _ _ _ _ hf.1, if_neg hf.2]

/-- An overlay that is set or cleared shows it. -/
theorem State.setOverlay_flag (x : Bool) : (s.setOverlay F.SYS_STATE_ALARM x).flag F.SYS_STATE_ALARM = x := by
  unfold State.setOverlay
  split
  · assumption
  · rw [(State.deferTimer_touch (Touch.refl State.deferTimer_cells _) (Sub.refl _) _ x).flag _ (by decide),
      State.flag_event _ _ _ (by decide), if_neg (by decide), State.flag_setFlag _ _ _ _ (by decide), if_pos rfl]

theorem State.proofAbandon_alarm (cause : Nat) :
    (s.proofAbandon cause).flag F.SYS_STATE_ALARM = s.flag F.SYS_STATE_ALARM := by
  unfold State.proofAbandon
  split
  · rfl
  · dsimp only
    rw [(State.post_touch (Touch.refl State.post_cells _) (Sub.refl _) _ _).flag _ (by decide),
      State.flag_event _ _ _ (by decide), if_neg (by decide),
      (State.showOutcome_touch (Touch.refl State.showOutcome_cells _) (Sub.refl _) _ _).flag _ (by decide), State.proofClear]
    dsimp only
    rw [(State.refreshBatfet_touch (Touch.refl State.refreshBatfet_cells _) (Sub.refl _)).flag _ (by decide), State.chgRelease,
      State.flag_setFlag _ _ _ _ (by decide), if_neg (by decide),
      (State.capAbandon_touch (Touch.refl State.capAbandon_cells _) (Sub.refl _)).flag _ (by decide),
      State.setOverlay_alarm _ _ _ (by decide)]
    rfl

/-! ## What every alarm start does (R42, R47) -/

/-- A start of the horn boost writes two times of the alarm sequencer. -/
theorem State.hornStart_alm : ∃ d, s.hornStart.alm = { s.alm with hornHold := none, hornFrom := d } := by
  unfold State.hornStart
  dsimp only
  split
  · exact ⟨s.alm.hornFrom, rfl⟩
  · exact ⟨some s.now, (State.refreshFold_touch (Touch.refl State.refreshFold_cells _) (Sub.refl _)).alm (by decide)⟩

/-- The fold-back of the horn writes one flag outside the events and the count of shedding (R148, R150). -/
theorem State.refreshFold_flag (g : Flag) (hg : g ≠ F.CONV_STATUS_HORN_FOLD)
    (hr : g.reg ∉ State.refreshShed_cells ∧ 0x1430 ∉ State.refreshShed_cells) : s.refreshFold.flag g = s.flag g := by
  have hEvent : g ≠ F.CONV_EVENT_HORN_ILIM := fun e => hr.1 (by rw [e]; decide)
  unfold State.refreshFold
  dsimp only
  rw [(State.refreshShed_touch (Touch.refl State.refreshShed_cells _) (Sub.refl _)).flag g hr,
    State.flag_setFlag _ _ _ _ (by decide), if_neg hg]
  split
  · rw [State.flag_event _ _ _ (by decide), if_neg hEvent]
  · rfl

/-- The horn boost runs after its start, unless the rails are off (R42, R462). -/
theorem State.hornStart_hornOn (h : s.thm.railsOff = false) : s.hornStart.flag F.CONV_STATUS_HORN_ON = true := by
  unfold State.hornStart
  simp only [Bool.or_eq_true]
  split
  · rename_i hOn
    exact hOn.resolve_right (by simp [h])
  · rw [State.refreshFold_flag _ _ (by decide) (by decide)]
    exact (State.flag_setFlag _ F.CONV_STATUS_HORN_ON true _ (by decide)).trans (if_pos rfl)

/-- What an alarm start may write before the horn's switches follow. -/
def alarmOnCells : List Nat := State.alarmOn_cells.filter fun a => a ≠ R.ALM_STATUS ∧ a ≠ R.TET_STATUS

/-- An alarm start up to its last step, the horn's switches. -/
theorem State.alarmOn_before_horn : ∃ u, s.alarmOn = u.refreshHorn ∧ Touch alarmOnCells s u ∧
    u.flag F.SYS_STATE_ALARM = true ∧ u.suspLine = true ∧ ∃ d, u.alm = { s.alm with hornHold := none, hornFrom := d } := by
  let v := if s.flag F.SYS_STATE_ALARM then s else { s with conv := { s.conv with hswOcp := false } }
  let w := v.alarmSuspend.hornStart
  have hv : Touch alarmOnCells s v := Touch.ite (Touch.refl _ s) (Touch.update (Touch.refl _ s) (h_conv := .inr (by decide)))
  have hw : Touch alarmOnCells s w := State.hornStart_touch (State.alarmSuspend_touch hv (Sub.of rfl)) (Sub.of rfl)
  have hOverlay : Touch alarmOnCells s (w.setOverlay F.SYS_STATE_ALARM true) :=
    State.setOverlay_touch hw (Sub.of rfl) _ _ (.inl (by decide))
  refine ⟨((w.setOverlay F.SYS_STATE_ALARM true).proofAbandon 1).shipCheck, rfl,
    State.shipCheck_touch (State.proofAbandon_touch hOverlay (Sub.of rfl) 1) (Sub.of rfl), ?_, ?_, ?_⟩
  · rw [(State.shipCheck_touch (Touch.refl State.shipCheck_cells _) (Sub.refl _)).flag _ (by decide), State.proofAbandon_alarm,
      State.setOverlay_flag]
  · rw [(State.shipCheck_touch (Touch.refl State.shipCheck_cells _) (Sub.refl _)).suspLine (by decide),
      State.proofAbandon_suspLine,
      (State.setOverlay_touch (Touch.refl (R.SYS_STATE :: State.setOverlay_cells) w) (Sub.of rfl) _ _ (.inl (by decide))).suspLine
        (by decide),
      (State.hornStart_touch (Touch.refl State.hornStart_cells _) (Sub.refl _)).suspLine (by decide), State.alarmSuspend_suspLine]
  · obtain ⟨d, hd⟩ := v.alarmSuspend.hornStart_alm
    refine ⟨d, ?_⟩
    rw [(State.shipCheck_touch (Touch.refl State.shipCheck_cells _) (Sub.refl _)).alm (by decide),
      (State.proofAbandon_touch (Touch.refl State.proofAbandon_cells _) (Sub.refl _) 1).alm (by decide),
      (State.setOverlay_touch (Touch.refl (R.SYS_STATE :: State.setOverlay_cells) w) (Sub.of rfl) _ _ (.inl (by decide))).alm
        (by decide), hd, (State.alarmSuspend_touch (Touch.refl State.alarmSuspend_cells _) (Sub.refl _)).alm (by decide)]
    rw [show v.alm = s.alm by simp only [v]; split <;> rfl]

theorem State.alarmOn_alarm : s.alarmOn.flag F.SYS_STATE_ALARM = true := by
  obtain ⟨u, hu, -, hAlarm, -⟩ := s.alarmOn_before_horn
  rw [hu, u.refreshHorn_flag _ (by decide), hAlarm]

theorem State.alarmOn_suspLine : s.alarmOn.suspLine = true := by
  obtain ⟨u, hu, -, -, hSusp, -⟩ := s.alarmOn_before_horn
  rw [hu, State.suspLine, u.refreshHorn_flag _ (by decide), ← State.suspLine, hSusp]

/-- The flags of ALM_STATUS and TET_STATUS but the horn's switches, and those of the registers it does not write, outlast an
alarm start. -/
theorem State.alarmOn_flag (g : Flag) (hg : g ≠ F.ALM_STATUS_HSW ∧ g ≠ F.TET_STATUS_LVL_OUT)
    (hr : g.reg ∉ alarmOnCells ∧ 0x1430 ∉ alarmOnCells) : s.alarmOn.flag g = s.flag g := by
  obtain ⟨u, hu, hTouch, -⟩ := s.alarmOn_before_horn
  rw [hu, u.refreshHorn_flag g hg, hTouch.flag g hr]

theorem State.alarmOn_alm : ∃ d, s.alarmOn.alm = { s.alm with hornHold := none, hornFrom := d } := by
  obtain ⟨u, hu, -, -, -, d, hd⟩ := s.alarmOn_before_horn
  exact ⟨d, by rw [hu, (State.refreshHorn_touch (Touch.refl State.refreshHorn_cells u) (Sub.refl _)).alm (by decide), hd]⟩

end Sys2Proof.Machine
end

section
/-!
SUPPORT. The alarm channels (R36 to R40): what a disagreement, its fault and the fault's end leave in the state, and O11.
-/

namespace Sys2Proof.Machine

section
variable (s : State)

/-- The filtered channels read as sampled, ALMB inverted; every other flag stays (R58). -/
theorem State.setChannels_flag (a b : Bool) (g : Flag) :
    (s.setChannels a b).flag g =
      if g = F.ALM_STATUS_ALMB then !b else if g = F.ALM_STATUS_ALMA then a else s.flag g := by
  unfold State.setChannels
  rw [State.flag_setFlag _ _ _ _ (by decide), State.flag_setFlag _ _ _ _ (by decide)]

theorem State.setChannels_reg (a b : Bool) (r : Nat) (hr : r ≠ R.ALM_STATUS) : (s.setChannels a b).reg r = s.reg r := by
  simp only [State.setChannels, State.reg_setFlag, if_neg hr]

/-! ## A disagreement -/

/-- A glitch is counted, and the channels agree again (R37). -/
theorem State.glitch_counted (x : Bool) :
    (((s.setChannels x x).discAgreed.bump R.ALM_GLITCHCNT 1).tally K.GLITCH).regN R.ALM_GLITCHCNT =
      min (s.regN R.ALM_GLITCHCNT + 1) 0xFFFF := by
  rw [(State.tally_touch (Touch.refl State.tally_cells _) (Sub.refl _) _).regN _ (by decide), State.regN_bump]
  exact congrArg (fun w : Word => min (w.toNat + 1) 0xFFFF) (s.setChannels_reg x x _ (by decide))

theorem State.glitch_channels (x : Bool) (g : Flag) (hg : g.reg = R.ALM_STATUS) :
    (((s.setChannels x x).discAgreed.bump R.ALM_GLITCHCNT 1).tally K.GLITCH).flag g = (s.setChannels x x).flag g := by
  rw [(State.tally_touch (Touch.refl State.tally_cells _) (Sub.refl _) _).flag _ (by rw [hg]; decide), State.bump,
    State.flag_setReg_ne _ _ _ _ (by rw [hg]; decide)]
  rfl

/-! ## The discrepancy fault -/

/-- The state in which the fault is entered, its timing begun, before anything follows from it (R38). -/
def State.discMarked (s : State) (c : Channel) : State :=
  let s := ((s.setChannels (c == .alma) (c == .almb)).setFlag F.ALM_STATUS_DISCF true).setFlag F.ALM_STATUS_READY true
  { s with alm := { s.alm with disc := some ⟨s.now, secTicks (s.regN R.ALM_TDISC2), some s.now, s.now⟩ } }

/-- What follows from the entry may write, before the horn's switches follow. -/
def discFaultCells : List Nat := execDiscFault_cells.filter fun a => a ≠ R.ALM_STATUS ∧ a ≠ R.TET_STATUS

/-- The entry of the fault up to its last step, the horn's switches (R38, R41). -/
theorem State.discFault_before_horn (c : Channel) (tdisc : Nat) (h : s.alm.disc = none) :
    ∃ u, s.discFault c tdisc = u.refreshHorn ∧ Touch discFaultCells (s.discMarked c) u ∧ u.suspLine = true ∧
      u.flag F.ALM_EVENT_DISC_FAULT = true ∧ (s.thm.railsOff = false → u.flag F.CONV_STATUS_HORN_ON = true) ∧
      u.alm.disc = (s.discMarked c).alm.disc := by
  let v := (s.discMarked c).alarmSuspend
  let w := (v.hornStart.event F.ALM_EVENT_DISC_FAULT).post K.DISC_FAULT
    ([byte (match c with | .alma => 0 | .almb => 1)] ++ beBytes 2 tdisc)
  have hv : Touch discFaultCells (s.discMarked c) v := State.alarmSuspend_touch (Touch.refl _ _) (Sub.of rfl)
  have hw : Touch discFaultCells (s.discMarked c) w :=
    State.post_touch (State.event_touch (State.hornStart_touch hv (Sub.of rfl)) _ (.inl (by decide))) (Sub.of rfl) _ _
  have hShip : Touch State.shipCheck_cells w w.shipCheck := State.shipCheck_touch (Touch.refl _ w) (Sub.refl _)
  have hPost : Touch State.post_cells (v.hornStart.event F.ALM_EVENT_DISC_FAULT) w :=
    State.post_touch (Touch.refl _ _) (Sub.refl _) _ _
  have hHorn : Touch State.hornStart_cells v v.hornStart := State.hornStart_touch (Touch.refl _ v) (Sub.refl _)
  refine ⟨w.shipCheck, ?_, State.shipCheck_touch hw (Sub.of rfl), ?_, ?_, fun hRails => ?_, ?_⟩
  · unfold State.discFault
    dsimp only
    rw [show (s.setChannels (c == .alma) (c == .almb)).alm.disc = none from h]
    rfl
  · rw [hShip.suspLine (by decide), hPost.suspLine (by decide), State.event, State.setFlag_suspLine _ _ _ (by decide),
      hHorn.suspLine (by decide), State.alarmSuspend_suspLine]
  · rw [hShip.flag _ (by decide), hPost.flag _ (by decide), State.flag_event _ _ _ (by decide), if_pos rfl]
  · have hOff : v.thm.railsOff = false := by
      rw [hv.thm (by decide)]
      exact hRails
    rw [hShip.flag _ (by decide), hPost.flag _ (by decide), State.flag_event _ _ _ (by decide), if_neg (by decide),
      v.hornStart_hornOn hOff]
  · obtain ⟨d, hd⟩ := v.hornStart_alm
    rw [hShip.alm (by decide), hPost.alm (by decide), State.event_alm, hd,
      (State.alarmSuspend_touch (Touch.refl State.alarmSuspend_cells _) (Sub.refl _)).alm (by decide)]

/-- While the fault stands, the disagreement is timed anew and nothing else is recorded (R39). -/
theorem State.discFault_again (c : Channel) (tdisc : Nat) (d : Disc) (h : s.alm.disc = some d) :
    s.discFault c tdisc = { s.setChannels (c == .alma) (c == .almb) with
      alm := { s.alm with disc := some { d with since := some s.now, last := s.now } } } := by
  unfold State.discFault
  dsimp only
  rw [show (s.setChannels (c == .alma) (c == .almb)).alm.disc = some d from h]
  rfl

/-! ## The broadcast and the end of the fault -/

theorem State.postFault_regs (code detail : Nat) : (s.postFault code detail).regs = s.regs := by
  unfold State.postFault State.postStatus
  split
  · split <;> rfl
  · rfl

theorem State.hornHoldStart_regs : s.hornHoldStart.regs = s.regs := by
  unfold State.hornHoldStart
  split <;> rfl

/-- The state in which the fault has ended, before its record (R40). -/
def State.discUnmarked (s : State) : State :=
  let x := s.flag F.ALM_STATUS_LOCAL
  let s :=
    (((s.setChannels x x).setFlag F.ALM_STATUS_DISCF false).setFlag F.ALM_STATUS_READY false).setFlag F.ALM_STATUS_DISCB false
  { s with alm := { s.alm with disc := none } }

theorem State.discUnmarked_reg (a : Nat) (ha : a ≠ R.ALM_STATUS) : s.discUnmarked.reg a = s.reg a := by
  simp [State.discUnmarked, State.reg_setFlag, ha, s.setChannels_reg]

theorem State.discUnmarked_flag (g : Flag) : s.discUnmarked.flag g = if g = F.ALM_STATUS_DISCB then false
    else if g = F.ALM_STATUS_READY then false else if g = F.ALM_STATUS_DISCF then false
    else (s.setChannels (s.flag F.ALM_STATUS_LOCAL) (s.flag F.ALM_STATUS_LOCAL)).flag g := by
  rw [← State.flag_setFlag _ F.ALM_STATUS_DISCF false g (by decide), ← State.flag_setFlag _ F.ALM_STATUS_READY false g (by decide),
    ← State.flag_setFlag _ F.ALM_STATUS_DISCB false g (by decide)]
  rfl

theorem State.discUnmarked_sameIntake : SameIntake s s.discUnmarked where
  lgr := by simp only [State.discUnmarked, State.setChannels, State.setFlag_lgr]
  now := by simp only [State.discUnmarked, State.setChannels, State.setFlag_now]
  clk := by simp only [State.discUnmarked, State.setChannels, State.setFlag_clk]
  status := s.discUnmarked_reg _ (by decide)
  cfg := s.discUnmarked_reg _ (by decide)
  valid := s.discUnmarked_reg _ (by decide)

/-- The payload of DISC_CLEAR (R40, R292). -/
def State.discClearBytes (s : State) (d : Disc) : List Byte :=
  beBytes 4 ((s.now - d.entry) / 32768) ++ [boolByte (s.flag F.ALM_STATUS_DISCB)]

/-- The end of the fault: its flags, its record, and the hold of VHORN before its release (R40). -/
theorem State.discEnd_eq (d : Disc) (h : s.alm.disc = some d) :
    (s.setChannels (s.flag F.ALM_STATUS_LOCAL) (s.flag F.ALM_STATUS_LOCAL)).discEnd =
      (s.discUnmarked.post K.DISC_CLEAR (s.discClearBytes d)).hornHoldStart := by
  unfold State.discEnd
  rw [show (s.setChannels (s.flag F.ALM_STATUS_LOCAL) (s.flag F.ALM_STATUS_LOCAL)).alm.disc = some d from h]
  dsimp only
  rw [s.setChannels_flag, if_neg (by decide), if_neg (by decide)]
  rfl

theorem State.hornHoldStart_alm_disc : s.hornHoldStart.alm.disc = s.alm.disc := by
  unfold State.hornHoldStart
  split <;> rfl

end

/-- Settles O11: an edge and its withdrawal are their one write; a glitch counts; the entry of the fault is its marks and what
an alarm suspension and the horn add to them; while the fault stands only its timing changes; the end takes the marks back and
records. -/
theorem alarmChannels : Obligations.AlarmChannels := by
  unfold Obligations.AlarmChannels
  refine ⟨?_, ?_, ?_, ?_, ?_, ?_, ?_⟩
  · intro s hs
    exact Gives.of_whenLive rfl hs rfl
  · intro s hs hDue hLocal hDisc
    exact Gives.of_when rfl (by simp [hs, hDue, hLocal, hDisc]) rfl
  · intro s samples hs hHold hOne hBelow
    refine Gives.of_when rfl (by simp [hs, hHold, hOne, hBelow]) ⟨s.glitch_counted _, ?_, ?_⟩
    · rw [s.glitch_channels _ _ rfl, s.setChannels_flag, if_neg (by decide), if_pos rfl]
    · rw [s.glitch_channels _ _ rfl, s.setChannels_flag, if_pos rfl]
  · intro s c samples hs hHold hReached hNone
    obtain ⟨u, hu, hTouch, hSusp, hEvent, hHorn, hDisc⟩ := s.discFault_before_horn c (s.tdiscAt (s.now + 1 - samples)) hNone
    have hMarked (g : Flag) (hg : g ≠ F.ALM_STATUS_HSW ∧ g.reg = R.ALM_STATUS) :
        (s.discFault c (s.tdiscAt (s.now + 1 - samples))).flag g = (s.discMarked c).flag g := by
      rw [hu, u.refreshHorn_flag g ⟨hg.1, by rintro rfl; exact absurd hg.2 (by decide)⟩, hTouch.flag g (by rw [hg.2]; decide)]
    have hMarks (g : Flag) : (s.discMarked c).flag g = if g = F.ALM_STATUS_READY then true else if g = F.ALM_STATUS_DISCF then true
        else (s.setChannels (c == .alma) (c == .almb)).flag g := by
      rw [← State.flag_setFlag _ F.ALM_STATUS_DISCF true g (by decide),
        ← State.flag_setFlag _ F.ALM_STATUS_READY true g (by decide)]
      rfl
    refine Gives.of_when rfl (by simp [hs, hHold, hReached]) ⟨?_, ?_, ?_, ?_, ?_, ?_, ?_, fun hRails => ?_⟩
    · rw [hMarked _ (by decide), hMarks, if_neg (by decide), if_pos rfl]
    · rw [hMarked _ (by decide), hMarks, if_pos rfl]
    · rw [hMarked _ (by decide), hMarks, if_neg (by decide), if_neg (by decide), s.setChannels_flag, if_neg (by decide), if_pos rfl]
    · rw [hMarked _ (by decide), hMarks, if_neg (by decide), if_neg (by decide), s.setChannels_flag, if_pos rfl]
    · rw [hu, u.refreshHorn_flag _ (by decide)]
      exact hSusp
    · rw [hu, u.refreshHorn_flag _ (by decide), hEvent]
    · rw [hu, (State.refreshHorn_touch (Touch.refl State.refreshHorn_cells u) (Sub.refl _)).alm (by decide), hDisc]
      simp [State.discMarked, State.regN, State.reg_setFlag, State.setChannels]
    · rw [hu, u.refreshHorn_flag _ (by decide), hHorn hRails]
  · intro s c samples d hs hHold hReached hSome
    refine Gives.of_when rfl (by simp [hs, hHold, hReached]) ?_
    rw [s.discFault_again c _ d hSome]
    refine ⟨rfl, rfl, fun a ha => ?_⟩
    exact s.setChannels_reg _ _ a (by simpa using ha)
  · intro s hs hDue
    refine Gives.of_when rfl (by simp [hs, hDue]) ⟨?_, ?_, ?_, fun a ha => ?_⟩
    · rw [State.flag, State.reg, State.postFault_regs, ← State.reg, ← State.flag, State.flag_event _ _ _ (by decide),
        if_neg (by decide), State.flag_setFlag _ _ _ _ (by decide), if_pos rfl]
    · rw [State.flag, State.reg, State.postFault_regs, ← State.reg, ← State.flag, State.flag_event _ _ _ (by decide), if_pos rfl]
    · exact (State.postFault_touch (Touch.refl State.postFault_cells _) (Sub.refl _) _ _).lgr (by decide)
    · simp only [List.mem_cons, List.not_mem_nil, or_false, not_or] at ha
      rw [State.reg, State.postFault_regs, ← State.reg, State.reg_event, if_neg ha.2, State.reg_setFlag, if_neg ha.1,
        s.setChannels_reg _ _ _ ha.1]
  · intro s d hs hFault hHold hSome hAgreed
    refine Gives.of_when rfl (by simpa [hs, hFault, State.discOver, hSome, hAgreed] using hHold) ?_
    rw [s.discEnd_eq d hSome]
    have hFlag (g : Flag) (hg : g.reg = R.ALM_STATUS) :
        ((s.discUnmarked.post K.DISC_CLEAR (s.discClearBytes d)).hornHoldStart).flag g = s.discUnmarked.flag g := by
      rw [State.flag, State.reg, State.hornHoldStart_regs, ← State.reg, State.post_reg _ _ _ _ (by rw [hg]; decide), ← State.flag]
    refine ⟨?_, ?_, ?_, ?_, ?_, fun a ha => ?_⟩
    · rw [hFlag _ rfl, s.discUnmarked_flag, if_neg (by decide), if_neg (by decide), if_pos rfl]
    · rw [hFlag _ rfl, s.discUnmarked_flag, if_neg (by decide), if_pos rfl]
    · rw [hFlag _ rfl, s.discUnmarked_flag, if_pos rfl]
    · rw [State.hornHoldStart_alm_disc, (State.post_touch (Touch.refl State.post_cells _) (Sub.refl _) _ _).alm (by decide)]
      rfl
    · rw [State.hands, (State.hornHoldStart_touch (Touch.refl State.hornHoldStart_cells _) (Sub.refl _)).lgr (by decide)]
      exact s.discUnmarked_sameIntake.post_lgr _ _
    · simp only [List.mem_cons, List.not_mem_nil, or_false, not_or] at ha
      rw [State.reg, State.hornHoldStart_regs, ← State.reg, State.post_reg _ _ _ _ ⟨ha.2.2, ha.2.1⟩, s.discUnmarked_reg _ ha.1]

end Sys2Proof.Machine
end

section
/-!
SUPPORT. Remote alarms and the hush (R47 to R51): the bitmaps of origins, an accepted frame, the start and the end of a remote
alarm, the hush applied and ended, and O13.
-/

namespace Sys2Proof.Machine

section
variable (s : State)

/-! ## The bitmaps (R58) -/

theorem State.mapBit_setMapBit_same (a addr : Nat) (x : Bool) : (s.setMapBit a addr x).mapBit a addr = x := by
  unfold State.mapBit State.setMapBit
  rw [State.reg_setReg_same, bitOf_setBitOf _ _ _ _ (by omega), if_pos rfl]

/-- A bitmap after a bit of another one has been written. -/
theorem State.mapBit_setMapBit_ne (a addr : Nat) (x : Bool) (b addr' : Nat) (h : a + 3 < b ∨ b + 3 < a) :
    (s.setMapBit a addr x).mapBit b addr' = s.mapBit b addr' := by
  unfold State.mapBit State.setMapBit
  rw [State.reg_setReg_ne _ _ _ (by omega)]

/-- A register outside a bitmap that is written. -/
theorem State.reg_setMapBit_ne (a addr : Nat) (x : Bool) (b : Nat)
    (h : b < a ∨ a + 3 < b) : (s.setMapBit a addr x).reg b = s.reg b := by
  unfold State.setMapBit
  rw [State.reg_setReg_ne _ _ _ (by omega)]

/-! ## An accepted frame (R235, R237) -/

/-- A frame that is received and fits gives what its effect gives on the accepting state. -/
theorem Gives.of_receive {c : Instr} {s : State} {P : State → Prop} {f : Frame} {x : Carrier} {effect : State → State}
    (he : exec c s = .next (s.receive f x effect)) (hr : s.receives = true) (hf : frameFits f = true)
    (hP : P (effect ((s.acceptFrame f x).addrConflict f))) : Gives c s P :=
  ⟨effect ((s.acceptFrame f x).addrConflict f), by rw [he]; simp only [State.receive, hr, hf, if_true], hP⟩

/-- What acceptance may write. -/
def acceptedCells : List Nat := State.acceptFrame_cells ++ State.addrConflict_cells

theorem State.accepted_touch (f : Frame) (x : Carrier) : Touch acceptedCells s ((s.acceptFrame f x).addrConflict f) :=
  State.addrConflict_touch (State.acceptFrame_touch (Touch.refl _ s) (Sub.of rfl) f x) (Sub.of rfl) f

/-- What acceptance may write beside its count. -/
def uncountedCells : List Nat := State.acceptFrame_cells.filter fun a => a ≠ R.TET_RXCNT

/-- An accepted frame is counted once (R239). -/
theorem State.acceptFrame_rxcnt (f : Frame) (x : Carrier) :
    (s.acceptFrame f x).regN R.TET_RXCNT = min (s.regN R.TET_RXCNT + 1) 0xFFFF := by
  have hRec : Touch uncountedCells (s.bump R.TET_RXCNT 1) ((s.bump R.TET_RXCNT 1).setRec (s.regN R.TET_REC - 1)) :=
    State.setRec_touch (Touch.refl uncountedCells _) (Sub.of rfl) _
  have hTally := State.stallCount_touch (State.acceptCarrier_touch hRec (Sub.of rfl) x) (Sub.of rfl) f.addr 42 4
  have hHeard := State.noteHeard_touch (State.setStallFlag_touch hTally (Sub.of rfl) f.addr 0 true) (Sub.of rfl) f
  rw [State.acceptFrame, (State.event_touch hHeard F.TET_EVENT_RX (.inl (by decide))).regN R.TET_RXCNT (by decide),
    State.regN_bump]

/-- Acceptance leaves the address a claim is up for as it is. -/
theorem State.acceptFrame_cand (f : Frame) (x : Carrier) : (s.acceptFrame f x).link.cand = s.link.cand := by
  have hHeard (u : State) : (u.noteHeard f).link.cand = u.link.cand := by
    unfold State.noteHeard
    split <;> rfl
  have hCarrier (u : State) : (u.acceptCarrier x).link.cand = u.link.cand := rfl
  unfold State.acceptFrame
  dsimp only
  rw [State.event_link, hHeard, (State.setStallFlag_touch (Touch.refl State.setStallFlag_cells _)
    (Sub.refl _) _ _ _).link (by decide),
    (State.stallCount_touch (Touch.refl State.stallCount_cells _) (Sub.refl _) _ _ _).link (by decide), hCarrier,
    (State.setRec_touch (Touch.refl State.setRec_cells _) (Sub.refl _) _).link (by decide), State.bump_link]

/-- A frame from another address than the unit's own and its candidate is no conflict (R251). -/
theorem State.addrConflict_other (f : Frame) (hOwn : s.ownAddr ≠ some f.addr) (hCand : s.link.cand ≠ some f.addr) :
    s.addrConflict f = s := by
  unfold State.addrConflict State.fixedConflict
  simp [hOwn, hCand]

/-! ## A remote alarm starts (R47) -/

/-- The alarm stands and suspends charging. -/
def State.alarmStands (t : State) : Prop := t.flag F.SYS_STATE_ALARM = true ∧ t.flag F.CHG_STATUS_SUSP_ALM = true

/-- A unit that has entered an origin in its bitmaps and list, and shows it as the last start. -/
def State.originAdded (addr kind : Nat) (data : Byte) : State :=
  let s := (s.setMapBit R.ALM_ORIGIN0 addr true).setMapBit R.ALM_HUSHSET0 addr false
  let s := ({ s with alm := { s.alm with remotes := s.alm.remotes ++ [Remote.mk addr s.now s.now] } }).refreshRemote
  s.setReg R.ALM_LASTORG (BitVec.ofNat 16 (addr + 64 * kind + (if 128 ≤ data.toNat then 256 else 0)))

theorem State.originAdded_maps (addr kind : Nat) (data : Byte) :
    (s.originAdded addr kind data).mapBit R.ALM_ORIGIN0 addr = true ∧
    (s.originAdded addr kind data).mapBit R.ALM_HUSHSET0 addr = false := by
  have hTouch : Touch [R.ALM_STATUS, R.ALM_LASTORG, 0x1406]
      ((s.setMapBit R.ALM_ORIGIN0 addr true).setMapBit R.ALM_HUSHSET0 addr false)
      (s.originAdded addr kind data) :=
    State.setReg_touch (State.refreshRemote_touch (Touch.update (Touch.refl _ _) (h_alm := .inr (by decide))) (Sub.of rfl)) _ _
      (.inl (by decide))
  rw [hTouch.mapBit R.ALM_ORIGIN0 addr (by decide), hTouch.mapBit R.ALM_HUSHSET0 addr (by decide)]
  exact ⟨(State.mapBit_setMapBit_ne _ _ _ _ _ _ (by decide)).trans (s.mapBit_setMapBit_same _ _ _),
    State.mapBit_setMapBit_same _ _ _ _⟩

theorem State.remoteAlarm_new (addr kind : Nat) (data : Byte) (h : s.mapBit R.ALM_ORIGIN0 addr = false) :
    s.remoteAlarm addr kind data = ((s.originAdded addr kind data).alarmOn.event F.ALM_EVENT_REMOTE_START).post
      K.ALARM_REMOTE [byte addr, byte kind, boolByte (128 ≤ data.toNat), data] := by
  rw [State.remoteAlarm, if_neg (by simp [h])]
  rfl

/-- Beside the alarm start, a new origin's event and record are all that is written. -/
theorem State.remoteAlarm_new_touch (addr kind : Nat) (data : Byte) (h : s.mapBit R.ALM_ORIGIN0 addr = false) :
    Touch (R.ALM_EVENT :: State.post_cells) (s.originAdded addr kind data).alarmOn (s.remoteAlarm addr kind data) := by
  rw [s.remoteAlarm_new addr kind data h]
  exact State.post_touch (State.event_touch (Touch.refl _ _) F.ALM_EVENT_REMOTE_START (.inl (by decide))) (Sub.of rfl) _ _

/-- A remote start leaves the count of accepted frames as it is. -/
theorem State.remoteAlarm_rxcnt (addr kind : Nat) (data : Byte) :
    (s.remoteAlarm addr kind data).regN R.TET_RXCNT = s.regN R.TET_RXCNT :=
  (State.remoteAlarm_touch (Touch.refl State.remoteAlarm_cells s) (Sub.refl _) addr kind data).regN _ (by decide)

/-- Whether the origin is new or not, it stands in the bitmap afterwards, and the overlay and the suspension stand. -/
theorem State.remoteAlarm_stands (addr kind : Nat) (data : Byte) :
    (s.remoteAlarm addr kind data).alarmStands ∧ (s.remoteAlarm addr kind data).mapBit R.ALM_ORIGIN0 addr = true := by
  have hOn (u : State) : u.alarmOn.alarmStands ∧ u.alarmOn.mapBit R.ALM_ORIGIN0 addr = u.mapBit R.ALM_ORIGIN0 addr :=
    ⟨⟨u.alarmOn_alarm, u.alarmOn_suspLine⟩,
      (State.alarmOn_touch (Touch.refl State.alarmOn_cells u) (Sub.refl _)).mapBit _ _ (by decide)⟩
  by_cases hSet : s.mapBit R.ALM_ORIGIN0 addr = true
  · obtain ⟨hStands, hBit⟩ := hOn { s with alm := { s.alm with remotes := s.alm.remotes.map fun r : Remote =>
      if r.addr = addr then { r with last := s.now } else r } }
    rw [State.remoteAlarm, if_pos hSet]
    exact ⟨hStands, hBit.trans hSet⟩
  · obtain ⟨⟨hAlarm, hSusp⟩, hBit⟩ := hOn (s.originAdded addr kind data)
    have hPost := s.remoteAlarm_new_touch addr kind data (Bool.eq_false_iff.2 hSet)
    refine ⟨⟨(hPost.flag _ (by decide)).trans hAlarm, (hPost.flag _ (by decide)).trans hSusp⟩, ?_⟩
    rw [hPost.mapBit R.ALM_ORIGIN0 addr (by decide), hBit, (s.originAdded_maps addr kind data).1]

/-- What a new origin shows (R47, R58). -/
theorem State.remoteAlarm_shows (addr kind : Nat) (data : Byte) (hNew : s.mapBit R.ALM_ORIGIN0 addr = false) :
    (s.remoteAlarm addr kind data).flag F.ALM_EVENT_REMOTE_START = true ∧
    (s.remoteAlarm addr kind data).flag F.ALM_STATUS_REMOTE = true ∧
    (s.remoteAlarm addr kind data).mapBit R.ALM_HUSHSET0 addr = false ∧
    (s.remoteAlarm addr kind data).reg R.ALM_LASTORG =
      BitVec.ofNat 16 (addr + 64 * kind + (if 128 ≤ data.toNat then 256 else 0)) := by
  have hOn := State.alarmOn_touch (Touch.refl State.alarmOn_cells (s.originAdded addr kind data)) (Sub.refl _)
  have hPost := s.remoteAlarm_new_touch addr kind data hNew
  refine ⟨?_, ?_, ?_, ?_⟩
  · rw [s.remoteAlarm_new addr kind data hNew,
      (State.post_touch (Touch.refl State.post_cells _) (Sub.refl _) _ _).flag F.ALM_EVENT_REMOTE_START (by decide),
      State.flag_event _ _ _ (by decide), if_pos rfl]
  · rw [hPost.flag _ (by decide), State.alarmOn_flag _ _ (by decide) (by decide), State.originAdded]
    simp [State.flag_setReg_ne, State.refreshRemote, State.flag_setFlag]
  · rw [hPost.mapBit R.ALM_HUSHSET0 addr (by decide), hOn.mapBit R.ALM_HUSHSET0 addr (by decide),
      (s.originAdded_maps addr kind data).2]
  · rw [hPost.reg _ (by decide) (by decide), hOn.reg _ (by decide) (by decide), State.originAdded, State.reg_setReg_same]

/-! ## A remote alarm ends (R48) -/

/-- Neither the local alarm's start nor the remote alarms nor the level alarm differ. -/
def State.sameAlarms (s t : State) : Prop :=
  t.alm.start = s.alm.start ∧ t.alm.remotes = s.alm.remotes ∧ t.alm.level = s.alm.level

/-- The check whether an alarm is left changes none. -/
theorem State.alarmCheck_sameAlarms : s.sameAlarms s.alarmCheck := by
  have hHorn (u : State) : u.refreshHorn.alm = u.alm :=
    (State.refreshHorn_touch (Touch.refl State.refreshHorn_cells u) (Sub.refl _)).alm (by decide)
  have hHush (u : State) : u.sameAlarms u.hushEnd := by
    rw [State.sameAlarms, State.hushEnd, hHorn]
    exact ⟨rfl, rfl, rfl⟩
  have hHold (u : State) : u.sameAlarms u.hornHoldStart := by
    unfold State.hornHoldStart
    split <;> exact ⟨rfl, rfl, rfl⟩
  unfold State.alarmCheck
  split
  · rw [State.sameAlarms, hHorn]
    exact ⟨rfl, rfl, rfl⟩
  · have hOverlay : (s.setOverlay F.SYS_STATE_ALARM false).alm = s.alm :=
      (State.setOverlay_touch (Touch.refl (R.SYS_STATE :: State.setOverlay_cells) s) (Sub.of rfl) _ _ (.inl (by decide))).alm
        (by decide)
    obtain ⟨hStart, hRemotes, hLevel⟩ := hHush (s.setOverlay F.SYS_STATE_ALARM false)
    obtain ⟨hStart', hRemotes', hLevel'⟩ := hHold (s.setOverlay F.SYS_STATE_ALARM false).hushEnd
    exact ⟨hStart'.trans (hStart.trans (by rw [hOverlay])), hRemotes'.trans (hRemotes.trans (by rw [hOverlay])),
      hLevel'.trans (hLevel.trans (by rw [hOverlay]))⟩

/-- A unit that has taken an origin away. -/
def State.originDropped (addr : Nat) : State :=
  ({ s.setMapBit R.ALM_ORIGIN0 addr false with
     alm := { s.alm with remotes := s.alm.remotes.filter (fun x => x.addr != addr) } }).refreshRemote.event F.ALM_EVENT_REMOTE_END

theorem State.remoteEnd_of_none {addr : Nat} (cause : Nat) (h : s.alm.remotes.find? (fun r => r.addr == addr) = none) :
    s.remoteEnd addr cause = s := by
  rw [State.remoteEnd, h]

theorem State.remoteEnd_of_some {addr : Nat} {r : Remote} (cause : Nat)
    (h : s.alm.remotes.find? (fun r => r.addr == addr) = some r) :
    s.remoteEnd addr cause = ((s.originDropped addr).post K.REMOTE_END
      ([byte addr, byte cause] ++ beBytes 2 ((s.now - r.since) / 32768))).alarmCheck := by
  rw [State.remoteEnd, h]
  rfl

/-- What taking an origin away may write. -/
def originCells : List Nat := [0x708, 0x709, 0x70a, 0x70b, R.ALM_STATUS, R.ALM_EVENT, 0x1406]

theorem State.originDropped_touch (addr : Nat) : Touch originCells s (s.originDropped addr) :=
  State.event_touch (State.refreshRemote_touch (Touch.update (State.setMapBit_touch (Touch.refl originCells s) _ _ _
    (.inl (by decide)) (.inl (by decide)) (.inl (by decide)) (.inl (by decide))) (h_alm := .inr (by decide))) (Sub.of rfl)) _
    (.inl (by decide))

/-- The record of an end stands apart from what the check of the alarms writes. -/
theorem State.remoteEnd_touch_of_some {addr : Nat} {r : Remote} (cause : Nat)
    (h : s.alm.remotes.find? (fun r => r.addr == addr) = some r) :
    Touch (State.post_cells ++ State.alarmCheck_cells) (s.originDropped addr) (s.remoteEnd addr cause) := by
  rw [s.remoteEnd_of_some cause h]
  exact State.alarmCheck_touch (State.post_touch (Touch.refl _ _) (Sub.of rfl) _ _) (Sub.of rfl)

/-- What the end of a remote alarm brings about (R48). -/
theorem State.remoteEnd_shows {addr : Nat} {r : Remote} (cause : Nat)
    (h : s.alm.remotes.find? (fun r => r.addr == addr) = some r) :
    (s.remoteEnd addr cause).flag F.ALM_EVENT_REMOTE_END = true ∧
    (s.remoteEnd addr cause).mapBit R.ALM_ORIGIN0 addr = false ∧
    (s.remoteEnd addr cause).alm.remotes = s.alm.remotes.filter (fun x => x.addr != addr) := by
  have hTouch := s.remoteEnd_touch_of_some cause h
  refine ⟨?_, ?_, ?_⟩
  · rw [hTouch.flag _ (by decide), State.originDropped, State.flag_event _ _ _ (by decide), if_pos rfl]
  · rw [hTouch.mapBit R.ALM_ORIGIN0 addr (by decide), State.originDropped]
    exact (State.event_touch (State.setFlag_touch (Touch.refl [R.ALM_EVENT, R.ALM_STATUS] _)
      F.ALM_STATUS_REMOTE _ (.inl (by decide)))
      F.ALM_EVENT_REMOTE_END (.inl (by decide))).mapBit _ _ (by decide) |>.trans (s.mapBit_setMapBit_same _ _ _)
  · rw [s.remoteEnd_of_some cause h]
    obtain ⟨-, hRemotes, -⟩ := State.alarmCheck_sameAlarms ((s.originDropped addr).post K.REMOTE_END
      ([byte addr, byte cause] ++ beBytes 2 ((s.now - r.since) / 32768)))
    rw [hRemotes, (State.post_touch (Touch.refl State.post_cells _) (Sub.refl _) _ _).alm (by decide)]
    rfl

/-- The end of a remote alarm leaves the other events of the sequencer. -/
theorem State.remoteEnd_clearRx (addr cause : Nat) (h : s.flag F.ALM_EVENT_CLEAR_RX = true) :
    (s.remoteEnd addr cause).flag F.ALM_EVENT_CLEAR_RX = true := by
  cases hFind : s.alm.remotes.find? (fun r => r.addr == addr) with
  | none => rwa [s.remoteEnd_of_none cause hFind]
  | some r =>
    rw [(s.remoteEnd_touch_of_some cause hFind).flag _ (by decide), State.originDropped, State.flag_event _ _ _ (by decide),
      if_neg (by decide)]
    refine (State.flag_setFlag _ F.ALM_STATUS_REMOTE _ _ (by decide)).trans ((if_neg (by decide)).trans ?_)
    exact (congrArg (bitOf · _) (s.reg_setMapBit_ne R.ALM_ORIGIN0 addr false R.ALM_EVENT (by decide))).trans h

/-- No alarm of the origin is left. -/
theorem State.remoteEnd_gone (addr cause : Nat) :
    (s.remoteEnd addr cause).alm.remotes.any (fun r : Remote => r.addr == addr) = false := by
  cases hFind : s.alm.remotes.find? (fun r => r.addr == addr) with
  | none =>
    rw [s.remoteEnd_of_none cause hFind, List.any_eq_false]
    exact List.find?_eq_none.1 hFind
  | some r =>
    obtain ⟨-, -, hRemotes⟩ := s.remoteEnd_shows cause hFind
    rw [hRemotes]
    simp

/-- The end of a remote alarm hands over its record (R48, R292). -/
theorem State.remoteEnd_lgr {addr : Nat} {r : Remote} (cause : Nat)
    (h : s.alm.remotes.find? (fun r => r.addr == addr) = some r) :
    (s.remoteEnd addr cause).lgr =
      (s.post K.REMOTE_END ([byte addr, byte cause] ++ beBytes 2 ((s.now - r.since) / 32768))).lgr := by
  have hDropped : SameIntake s (s.originDropped addr) := (s.originDropped_touch addr).sameIntake (by decide)
  rw [s.remoteEnd_of_some cause h, (State.alarmCheck_touch (Touch.refl State.alarmCheck_cells _) (Sub.refl _)).lgr (by decide),
    hDropped.post_lgr]

/-- With VTET at or above the cut-off, or no Tether supply, the end of the overlay cuts nothing off (R275). -/
theorem State.cutoffAgain_eq_self (h : 19500 ≤ s.shownMv R.SRC_VTET_V ∨ s.qualified .tether = false) : s.cutoffAgain = s := by
  have hAt : s.cutoffAt ≤ 19500 := by
    unfold State.cutoffAt
    split <;> omega
  refine if_pos ?_
  rcases h with h | h
  · simp only [decide_eq_true (hAt.trans h), Bool.true_or]
  · simp only [h, Bool.not_false, Bool.or_true]

/-! ## The hush (R49, R50) -/

/-- The four words of a bitmap after they have been written. -/
theorem State.reg_setRegs_four (a : Nat) (v0 v1 v2 v3 : Word) :
    (s.setRegs a [v0, v1, v2, v3]).reg a = v0 ∧ (s.setRegs a [v0, v1, v2, v3]).reg (a + 1) = v1 ∧
    (s.setRegs a [v0, v1, v2, v3]).reg (a + 2) = v2 ∧ (s.setRegs a [v0, v1, v2, v3]).reg (a + 3) = v3 := by
  simp [State.setRegs, State.reg_setReg, Nat.add_assoc]

/-- A register outside the four words written. -/
theorem State.reg_setRegs_four_ne (a : Nat) (v0 v1 v2 v3 : Word) (b : Nat) (h : b < a ∨ a + 3 < b) :
    (s.setRegs a [v0, v1, v2, v3]).reg b = s.reg b := by
  simp only [State.setRegs]
  rw [State.reg_setReg_ne _ _ _ (by omega), State.reg_setReg_ne _ _ _ (by omega), State.reg_setReg_ne _ _ _ (by omega),
    State.reg_setReg_ne _ _ _ (by omega)]

/-- The hush set and the hush bit are out of the horn's reach. -/
theorem State.refreshHorn_touch_refl : Touch State.refreshHorn_cells s s.refreshHorn :=
  State.refreshHorn_touch (Touch.refl _ s) (Sub.refl _)

/-- A HUSH or CLEAR frame posted goes to its slot, in frames mode, and nowhere else (R49, R51). -/
theorem State.postHush_shows (sub : Nat) :
    (s.postHush sub).regs = s.regs ∧ (s.postHush sub).lgr = s.lgr ∧ (s.postHush sub).alm = s.alm ∧ (s.postHush sub).now = s.now ∧
    (s.framesMode = true → (s.postHush sub).link.hushSlot = pushLast 2 s.link.hushSlot ⟨⟨1, s.alarmAddr, sub, []⟩, 0, s.now⟩) := by
  unfold State.postHush
  by_cases hFrames : s.framesMode = true
  · rw [if_pos hFrames]
    exact ⟨rfl, rfl, rfl, rfl, fun _ => rfl⟩
  · rw [if_neg hFrames]
    exact ⟨rfl, rfl, rfl, rfl, fun h => absurd h hFrames⟩

/-- What a hush applied shows. -/
theorem State.applyHush_shows :
    s.applyHush.flag F.ALM_STATUS_HUSHED = true ∧ s.applyHush.alm.hushDue = some (s.now + secTicks (60 * s.regN R.ALM_THUSH)) ∧
    s.applyHush.reg R.ALM_HUSHSET0 = s.reg R.ALM_ORIGIN0 ∧ s.applyHush.reg R.ALM_HUSHSET1 = s.reg R.ALM_ORIGIN1 ∧
    s.applyHush.reg R.ALM_HUSHSET2 = s.reg R.ALM_ORIGIN2 ∧ s.applyHush.reg R.ALM_HUSHSET3 = s.reg R.ALM_ORIGIN3 := by
  let u := s.setRegs R.ALM_HUSHSET0 [s.reg R.ALM_ORIGIN0, s.reg R.ALM_ORIGIN1, s.reg R.ALM_ORIGIN2, s.reg R.ALM_ORIGIN3]
  obtain ⟨h0, h1, h2, h3⟩ := s.reg_setRegs_four R.ALM_HUSHSET0 (s.reg R.ALM_ORIGIN0) (s.reg R.ALM_ORIGIN1) (s.reg R.ALM_ORIGIN2)
    (s.reg R.ALM_ORIGIN3)
  have hReg (a : Nat) (ha : a ∉ State.refreshHorn_cells) : s.applyHush.reg a = u.reg a :=
    ((State.refreshHorn_touch_refl _).reg a ha (by decide)).trans
      ((State.setFlag_touch (Touch.refl State.refreshHorn_cells _) F.ALM_STATUS_HUSHED true (.inl (by decide))).reg a ha
        (by decide))
  refine ⟨?_, ?_, (hReg _ (by decide)).trans h0, (hReg _ (by decide)).trans h1, (hReg _ (by decide)).trans h2,
    (hReg _ (by decide)).trans h3⟩
  · rw [State.applyHush, State.refreshHorn_flag _ _ (by decide), State.flag_setFlag _ _ _ _ (by decide), if_pos rfl]
  · have hHush : u.regN R.ALM_THUSH = s.regN R.ALM_THUSH :=
      congrArg BitVec.toNat (s.reg_setRegs_four_ne R.ALM_HUSHSET0 _ _ _ _ R.ALM_THUSH (by decide))
    rw [State.applyHush, (State.refreshHorn_touch_refl _).alm (by decide), ← hHush]
    rfl

/-- A hush applied posts no second copy. -/
theorem State.applyHush_repeats : s.applyHush.alm.repeats = s.alm.repeats := by
  rw [State.applyHush, (State.refreshHorn_touch_refl _).alm (by decide)]
  rfl

/-- What the end of the hush shows (R50). -/
theorem State.hushEnd_shows :
    s.hushEnd.mapEmpty R.ALM_HUSHSET0 = true ∧ s.hushEnd.flag F.ALM_STATUS_HUSHED = false ∧ s.hushEnd.alm.hushDue = none := by
  obtain ⟨h0, h1, h2, h3⟩ := s.reg_setRegs_four R.ALM_HUSHSET0 0 0 0 0
  have hReg (a : Nat) (ha : a ∉ State.refreshHorn_cells) : s.hushEnd.reg a = (s.setRegs R.ALM_HUSHSET0 [0, 0, 0, 0]).reg a :=
    ((State.refreshHorn_touch_refl _).reg a ha (by decide)).trans
      ((State.setFlag_touch (Touch.refl State.refreshHorn_cells _) F.ALM_STATUS_HUSHED false (.inl (by decide))).reg a ha
        (by decide))
  refine ⟨?_, ?_, ?_⟩
  · simp only [State.mapEmpty, hReg R.ALM_HUSHSET0 (by decide), hReg (R.ALM_HUSHSET0 + 1) (by decide),
      hReg (R.ALM_HUSHSET0 + 2) (by decide), hReg (R.ALM_HUSHSET0 + 3) (by decide), h0, h1, h2, h3]
    rfl
  · rw [State.hushEnd, State.refreshHorn_flag _ _ (by decide), State.flag_setFlag _ _ _ _ (by decide), if_pos rfl]
  · rw [State.hushEnd, (State.refreshHorn_touch_refl _).alm (by decide)]
    rfl

/-- The registers the end of the hush may write. -/
theorem State.hushEnd_regsKept :
    s.regsKept s.hushEnd [R.ALM_HUSHSET0, R.ALM_HUSHSET1, R.ALM_HUSHSET2, R.ALM_HUSHSET3, R.ALM_STATUS, R.TET_STATUS] := by
  intro a ha
  simp only [List.mem_cons, List.not_mem_nil, or_false, not_or] at ha
  simp [State.hushEnd, State.refreshHorn, State.refreshHsw, State.clearMap, State.setRegs, State.reg_setFlag, State.reg_setReg, ha]

end

/-! ## O13 -/

/-- An ALARM frame of a peer (R47). -/
theorem alarmFrameRx_gives (s : State) (addr kind : Nat) (data : List Byte) (c : Carrier) (hr : s.receives = true)
    (hLen : data.length = 1) (hOwn : s.ownAddr ≠ some addr) (hCand : s.link.cand ≠ some addr) :
    Gives (.alarmFrameRx addr kind data c) s fun t =>
      t.flag F.SYS_STATE_ALARM ∧ t.flag F.CHG_STATUS_SUSP_ALM ∧ t.mapBit R.ALM_ORIGIN0 addr ∧
      t.regN R.TET_RXCNT = min (s.regN R.TET_RXCNT + 1) 0xFFFF ∧
      (s.mapBit R.ALM_ORIGIN0 addr = false → t.flag F.ALM_EVENT_REMOTE_START ∧ t.flag F.ALM_STATUS_REMOTE ∧ t.mapBit
        R.ALM_HUSHSET0 addr = false ∧ t.reg R.ALM_LASTORG = BitVec.ofNat 16 (addr + 64 * kind + (if 128 ≤ (byteAt data
        0).toNat then 256 else 0))) := by
  let f : Frame := ⟨0, addr, kind, data⟩
  refine Gives.of_receive (f := f) rfl hr (by simp [f, frameFits, hLen]) ?_
  have hTouch := State.acceptFrame_touch (Touch.refl State.acceptFrame_cells s) (Sub.refl _) f c
  have hAddr : (s.acceptFrame f c).ownAddr = s.ownAddr := by
    simp only [State.ownAddr, hTouch.flag F.TET_ADDR_HELD (by decide), hTouch.field F.TET_ADDR_ADDR (by decide)]
  rw [State.addrConflict_other _ f (by rwa [hAddr]) (by rwa [s.acceptFrame_cand f c]), if_neg (by rwa [hAddr])]
  obtain ⟨⟨hAlarm, hSusp⟩, hBit⟩ := (s.acceptFrame f c).remoteAlarm_stands addr kind (byteAt data 0)
  refine ⟨hAlarm, hSusp, hBit, ?_, fun hNew => (s.acceptFrame f c).remoteAlarm_shows addr kind (byteAt data 0) ?_⟩
  · rw [State.remoteAlarm_rxcnt, State.acceptFrame_rxcnt]
  · rw [hTouch.mapBit R.ALM_ORIGIN0 addr (by decide), hNew]

/-- A CLEAR frame of a peer (R48). -/
theorem clearFrameRx_gives (s : State) (addr : Nat) (data : List Byte) (c : Carrier) (hr : s.receives = true)
    (hLen : data.length = 0) : Gives (.clearFrameRx addr data c) s fun t =>
      t.flag F.ALM_EVENT_CLEAR_RX ∧ (t.alm.remotes.any (fun r : Remote => r.addr == addr) = false) ∧
      (s.alm.remotes.any (fun r : Remote => r.addr == addr) → t.flag F.ALM_EVENT_REMOTE_END ∧ t.mapBit R.ALM_ORIGIN0
        addr = false) := by
  let f : Frame := ⟨1, addr, 1, data⟩
  refine Gives.of_receive (f := f) rfl hr (by simp [f, frameFits, hLen]) ?_
  let u := ((s.acceptFrame f c).addrConflict f).event F.ALM_EVENT_CLEAR_RX
  have hCut := State.cutoffAgain_touch (Touch.refl State.cutoffAgain_cells (u.remoteEnd addr 0)) (Sub.refl _)
  have hAlm : u.alm = s.alm := (s.accepted_touch f c).alm (by decide)
  change (u.remoteEnd addr 0).cutoffAgain.flag _ = true ∧ (u.remoteEnd addr 0).cutoffAgain.alm.remotes.any _ = false ∧
    (_ → (u.remoteEnd addr 0).cutoffAgain.flag _ = true ∧ (u.remoteEnd addr 0).cutoffAgain.mapBit _ _ = false)
  rw [hCut.flag F.ALM_EVENT_CLEAR_RX (by decide), hCut.alm (by decide), hCut.flag F.ALM_EVENT_REMOTE_END (by decide),
    hCut.mapBit R.ALM_ORIGIN0 addr (by decide)]
  refine ⟨u.remoteEnd_clearRx addr 0 (by rw [State.flag_event _ _ _ (by decide), if_pos rfl]), u.remoteEnd_gone addr 0,
    fun hAny => ?_⟩
  obtain ⟨r, hFind⟩ := Option.isSome_iff_exists.1 (List.find?_isSome.2 (List.any_eq_true.1 hAny))
  obtain ⟨hEnd, hBit, -⟩ := u.remoteEnd_shows (r := r) 0 (by rw [hAlm, hFind])
  exact ⟨hEnd, hBit⟩

/-- An origin that sends no ALARM for 5.000 s (R48). -/
theorem remoteTimeout_gives (s : State) (addr : Nat) (r : Remote) (hs : s.live = true)
    (hFind : s.alm.remotes.find? (fun r : Remote => r.addr == addr) = some r) (hDue : r.last + secTicks 5 ≤ s.now) :
    Gives (.remoteTimeout addr) s fun t =>
      t.flag F.ALM_EVENT_REMOTE_END ∧ t.mapBit R.ALM_ORIGIN0 addr = false ∧
      (t.alm.remotes = s.alm.remotes.filter (fun x => x.addr != addr)) ∧
      ((19500 ≤ s.shownMv R.SRC_VTET_V ∨ s.qualified .tether = false) → s.hands t K.REMOTE_END ([byte addr, 1] ++
        beBytes 2 ((s.now - r.since) / 32768))) := by
  have hCond : (s.live && s.alm.remotes.any fun r : Remote => r.addr == addr && decide (r.last + secTicks 5 ≤ s.now)) = true := by
    rw [hs, Bool.true_and, List.any_eq_true]
    have hAddr := List.find?_some hFind
    exact ⟨r, List.mem_of_find?_eq_some hFind, by rw [hAddr, decide_eq_true hDue]; rfl⟩
  refine Gives.of_when rfl hCond ?_
  have hCut := State.cutoffAgain_touch (Touch.refl State.cutoffAgain_cells (s.remoteEnd addr 1)) (Sub.refl _)
  obtain ⟨hEnd, hBit, hRemotes⟩ := s.remoteEnd_shows 1 hFind
  refine ⟨(hCut.flag _ (by decide)).trans hEnd, (hCut.mapBit R.ALM_ORIGIN0 addr (by decide)).trans hBit,
    (congrArg Alarm.remotes (hCut.alm (by decide))).trans hRemotes, fun hTet => ?_⟩
  have hTouch := State.remoteEnd_touch (Touch.refl State.remoteEnd_cells s) (Sub.refl _) addr 1
  have hTet' : 19500 ≤ (s.remoteEnd addr 1).shownMv R.SRC_VTET_V ∨ (s.remoteEnd addr 1).qualified .tether = false := by
    rwa [State.shownMv, hTouch.regN _ (by decide), State.qualified, hTouch.flag _ (by decide)]
  rw [State.hands, State.cutoffAgain_eq_self _ hTet']
  exact s.remoteEnd_lgr 1 hFind

/-- A press of hush (R49). -/
theorem hushPress_gives (s : State) (hs : s.live = true) : Gives .hushPress s fun t =>
      t.flag F.ALM_EVENT_HUSH_IN ∧
      (s.flag F.SYS_STATE_ALARM → t.flag F.ALM_STATUS_HUSHED ∧ t.alm.hushDue = some (s.now + secTicks (60 * s.regN
        R.ALM_THUSH)) ∧ t.reg R.ALM_HUSHSET0 = s.reg R.ALM_ORIGIN0 ∧ t.reg R.ALM_HUSHSET1 = s.reg R.ALM_ORIGIN1 ∧ t.reg
        R.ALM_HUSHSET2 = s.reg R.ALM_ORIGIN2 ∧ t.reg R.ALM_HUSHSET3 = s.reg R.ALM_ORIGIN3) ∧
      (s.flag F.SYS_STATE_ALARM → s.framesMode → t.link.hushSlot = pushLast 2 s.link.hushSlot ⟨⟨1, s.alarmAddr, 0, []⟩,
        0, s.now⟩ ∧ t.alm.repeats = s.alm.repeats ++ [(0, s.now + msTicks 20)]) ∧
      (s.flag F.SYS_STATE_ALARM = false → s.regsKept t [R.ALM_EVENT]) := by
  refine Gives.of_whenLive rfl hs ?_
  let u := s.event F.ALM_EVENT_HUSH_IN
  have hIn : u.flag F.ALM_EVENT_HUSH_IN = true := by rw [State.flag_event _ _ _ (by decide), if_pos rfl]
  have hU : Touch [R.ALM_EVENT] s u := State.event_touch (Touch.refl _ s) _ (.inl (by decide))
  have hAlarm : u.flag F.SYS_STATE_ALARM = s.flag F.SYS_STATE_ALARM := hU.flag _ (by decide)
  have hMode : u.framesMode = s.framesMode := congrArg (! ·) (hU.flag F.TET_STATUS_LEVEL (by decide))
  rw [State.hushPress]
  by_cases hSet : s.flag F.SYS_STATE_ALARM = true
  · rw [if_pos (hAlarm.trans hSet)]
    let v : State := { u.postHush 0 with alm := { u.alm with
      repeats := if u.framesMode then u.alm.repeats ++ [(0, u.now + msTicks 20)] else u.alm.repeats } }
    obtain ⟨hRegs, -, -, hNow, hSlot⟩ := u.postHush_shows 0
    obtain ⟨hHushed, hDue, h0, h1, h2, h3⟩ := v.applyHush_shows
    have hApply := State.applyHush_touch (Touch.refl State.applyHush_cells v) (Sub.refl _)
    have hV (a : Nat) : v.reg a = u.reg a := congrArg (regGet · a) hRegs
    have hSame (a : Nat) (ha : a ∉ [R.ALM_EVENT]) : v.reg a = s.reg a := (hV a).trans (hU.reg a ha (by decide))
    refine ⟨?_, fun _ => ⟨hHushed, ?_, h0.trans (hSame _ (by decide)), h1.trans (hSame _ (by decide)),
      h2.trans (hSame _ (by decide)),
      h3.trans (hSame _ (by decide))⟩, fun _ hFrames => ⟨?_, ?_⟩, fun h => absurd hSet (by simp [h])⟩
    · exact (hApply.flag _ (by decide)).trans ((congrArg (bitOf · _) (hV _)).trans hIn)
    · have hThush : v.regN R.ALM_THUSH = s.regN R.ALM_THUSH := congrArg BitVec.toNat (hSame _ (by decide))
      rw [hDue, hThush]
      exact congrArg (fun n => some (n + _)) hNow
    · have hAddr : u.alarmAddr = s.alarmAddr := by
        simp only [State.alarmAddr, State.ownAddr, hU.flag F.TET_ADDR_HELD (by decide), hU.field F.TET_ADDR_ADDR (by decide),
          hU.link (by decide)]
      rw [hApply.link (by decide), ← hAddr]
      exact hSlot (hMode.trans hFrames)
    · rw [v.applyHush_repeats]
      exact if_pos (hMode.trans hFrames)
  · rw [if_neg (by rwa [hAlarm])]
    refine ⟨hIn, fun h => absurd h hSet, fun h => absurd h hSet, fun _ a ha => ?_⟩
    rw [State.reg_event, if_neg (by simpa using ha)]

/-- A HUSH frame of a peer (R50). -/
theorem hushFrameRx_gives (s : State) (addr : Nat) (data : List Byte) (c : Carrier) (hr : s.receives = true)
    (hLen : data.length = 0) : Gives (.hushFrameRx addr data c) s fun t =>
      t.flag F.ALM_EVENT_HUSH_RX ∧ t.flag F.ALM_STATUS_HUSHED ∧ t.reg R.ALM_HUSHSET0 = s.reg R.ALM_ORIGIN0 ∧
      t.reg R.ALM_HUSHSET1 = s.reg R.ALM_ORIGIN1 ∧ t.reg R.ALM_HUSHSET2 = s.reg R.ALM_ORIGIN2 ∧
      t.reg R.ALM_HUSHSET3 = s.reg R.ALM_ORIGIN3 ∧ t.alm.hushDue = some (s.now + secTicks (60 * s.regN R.ALM_THUSH)) := by
  let f : Frame := ⟨1, addr, 0, data⟩
  refine Gives.of_receive (f := f) rfl hr (by simp [f, frameFits, hLen]) ?_
  let u := ((s.acceptFrame f c).addrConflict f).event F.ALM_EVENT_HUSH_RX
  have hU : Touch (R.ALM_EVENT :: acceptedCells) s u :=
    State.event_touch ((s.accepted_touch f c).mono (Sub.of rfl)) F.ALM_EVENT_HUSH_RX (.inl (by decide))
  have hPost := State.postHushRecord_touch (Touch.refl State.postHushRecord_cells u.applyHush) (Sub.refl _) 1 addr
  have hApply := State.applyHush_touch (Touch.refl State.applyHush_cells u) (Sub.refl _)
  obtain ⟨hHushed, hDue, h0, h1, h2, h3⟩ := u.applyHush_shows
  have hRx : u.flag F.ALM_EVENT_HUSH_RX = true := by rw [State.flag_event _ _ _ (by decide), if_pos rfl]
  have hHushSet (a b : Nat) (ha : a ∉ State.postHushRecord_cells) (hb : b ∉ R.ALM_EVENT :: acceptedCells)
      (h : u.applyHush.reg a = u.reg b) : (u.applyHush.postHushRecord 1 addr).reg a = s.reg b :=
    (hPost.reg a ha (by decide)).trans (h.trans (hU.reg b hb (by decide)))
  refine ⟨(hPost.flag _ (by decide)).trans ((hApply.flag _ (by decide)).trans hRx), (hPost.flag _ (by decide)).trans hHushed,
    hHushSet _ _ (by decide) (by decide) h0, hHushSet _ _ (by decide) (by decide) h1, hHushSet _ _ (by decide) (by decide) h2,
    hHushSet _ _ (by decide) (by decide) h3, ?_⟩
  rw [← hU.now (by decide), ← hU.regN R.ALM_THUSH (by decide), ← hDue]
  exact congrArg Alarm.hushDue (hPost.alm (by decide))

/-- The second copy of a HUSH or CLEAR frame (R49, R51). -/
theorem hushClearRepeat_gives (s : State) (sub due : Nat) (hs : s.live = true)
    (hFind : s.alm.repeats.find? (fun r : Nat × Nat => decide (r.2 ≤ s.now)) = some (sub, due)) :
    Gives .hushClearRepeat s fun t =>
      t.alm.repeats = s.alm.repeats.erase (sub, due) ∧
      (s.framesMode → t.link.hushSlot = pushLast 2 s.link.hushSlot ⟨⟨1, s.alarmAddr, sub, []⟩, 0, s.now⟩) ∧
      t.regs = s.regs ∧ t.lgr = s.lgr := by
  refine Gives.of_whenLive rfl hs ?_
  simp only [hFind]
  obtain ⟨hRegs, hLgr, hAlm, -, hSlot⟩ :=
    State.postHush_shows { s with alm := { s.alm with repeats := s.alm.repeats.erase (sub, due) } } sub
  exact ⟨congrArg Alarm.repeats hAlm, hSlot, hRegs, hLgr⟩

/-- Settles O13: a clause for each command of the remote alarms and the hush, in the statement's order. -/
theorem remoteAlarm : Obligations.RemoteAlarm := by
  unfold Obligations.RemoteAlarm
  refine ⟨fun s addr kind data c hr _ hLen _ hOwn hCand => alarmFrameRx_gives s addr kind data c hr hLen hOwn hCand,
    fun s addr data c hr _ hLen => clearFrameRx_gives s addr data c hr hLen,
    fun s addr r hs hFind hDue _ => remoteTimeout_gives s addr r hs hFind hDue, hushPress_gives,
    fun s addr data c hr _ hLen => hushFrameRx_gives s addr data c hr hLen, fun s hs hDue => ?_, hushClearRepeat_gives⟩
  obtain ⟨hEmpty, hHushed, hTimer⟩ := s.hushEnd_shows
  exact Gives.of_when rfl (by simp only [hs, hDue, Bool.and_self]) ⟨hEmpty, hHushed, hTimer,
    (State.hushEnd_touch (Touch.refl State.hushEnd_cells s) (Sub.refl _)).lgr (by decide), s.hushEnd_regsKept⟩

end Sys2Proof.Machine
end

section
/-!
SUPPORT. A record that waits in its producer's FIFO stays there (R298, R315) through whatever follows its hand-over within one
command: the charger's suspensions, FEED and the power state, the Tether converter, a ship request and the loss of the Tether.
-/

namespace Sys2Proof.Machine

/-- Every record that waits in `s` waits in `t`. -/
def RecordsStay (s t : State) : Prop := ∀ r ∈ s.lgr.waiting, r ∈ t.lgr.waiting

theorem RecordsStay.refl (s : State) : RecordsStay s s := fun _ hr => hr

theorem RecordsStay.trans {s t u : State} (h : RecordsStay s t) (h' : RecordsStay t u) : RecordsStay s u :=
  fun r hr => h' r (h r hr)

theorem RecordsStay.ite {s a b : State} {c : Prop} [Decidable c] (ha : RecordsStay s a) (hb : RecordsStay s b) :
    RecordsStay s (if c then a else b) := by
  split
  · exact ha
  · exact hb

theorem RecordsStay.of_lgr {s t : State} (h : t.lgr = s.lgr) : RecordsStay s t := fun r hr => by rwa [h]

theorem Touch.recordsStay {W : List Nat} {s t : State} (h : Touch W s t) (hW : 0x140f ∉ W) : RecordsStay s t := .of_lgr (h.lgr hW)

/-- What held once still holds. -/
theorem RecordsStay.holds {s t : State} (h : RecordsStay s t) {k : Kind} {p : List Byte} (hs : s.holds k p) : t.holds k p := h _ hs

/-- A record that finds room waits. -/
theorem State.post_holds (s : State) (k : Kind) (p : List Byte) (h : s.roomFor k) : (s.post k p).holds k p := by
  unfold State.post
  simp [h.1, h.2, State.holds]

/-- Equal intakes have equal room. -/
theorem SameIntake.roomFor {s t : State} (h : SameIntake s t) {k : Kind} (hs : s.roomFor k) : t.roomFor k := by
  simpa only [State.roomFor, State.ledgerDead, State.flag, h.status, h.lgr] using hs

section
variable (s : State)

/-! ## The Ledger's intake -/

theorem State.tallyCt_stay (ct : Nat) : RecordsStay s (s.tallyCt ct) := by
  have hTallied : (s.lgr.tallied ct s.stampSec (s.now + s.twin)).waiting = s.lgr.waiting := by
    unfold Ledger.tallied
    split_ifs <;> rfl
  intro r hr
  rwa [s.tallyCt_lgr ct, hTallied]

theorem State.post_stay (k : Kind) (p : List Byte) : RecordsStay s (s.post k p) := by
  unfold State.post
  dsimp only
  exact .ite (.refl s) (.ite (fun _ hr => List.mem_append_left _ hr) (.ite (.refl s) (s.tallyCt_stay _)))

/-- A tally leaves the FIFOs alone. -/
@[simp] theorem State.tally_waiting (k : Kind) : (s.tally k).lgr.waiting = s.lgr.waiting := by
  rw [State.tally, s.tallyCt_lgr, Ledger.tallied]
  split_ifs <;> rfl

/-! ## The Tether converter and FEED (R137, R141, R148) -/

theorem State.refreshShed_waiting : s.refreshShed.lgr.waiting = s.lgr.waiting := by
  unfold State.refreshShed
  dsimp only
  split_ifs <;> simp

theorem State.setTetMode_waiting (m : Nat) : (s.setTetMode m).lgr.waiting = s.lgr.waiting := by
  unfold State.setTetMode
  dsimp only
  rw [State.refreshShed_waiting]
  split_ifs <;> simp

theorem State.excClip_waiting : s.excClip.lgr.waiting = s.lgr.waiting := by
  unfold State.excClip
  split
  · rw [State.refreshShed_waiting, State.event_lgr]
  · rfl

theorem State.chgSuspend_waiting (f : Flag) : (s.chgSuspend f).lgr.waiting = s.lgr.waiting := by
  have hPhase (u : State) (p : Nat) : (u.enterPhase p).lgr = u.lgr :=
    (State.enterPhase_touch (Touch.refl State.enterPhase_cells u) (Sub.refl _) p).lgr (by decide)
  unfold State.chgSuspend
  dsimp only
  split_ifs <;> simp [hPhase]

theorem State.setPstate_stay (p : Nat) : RecordsStay s (s.setPstate p) := by
  unfold State.setPstate
  dsimp only
  split
  · exact .refl s
  · exact RecordsStay.trans (.of_lgr (by rfl)) (State.post_stay _ _ _)

theorem State.refreshFeed_stay : RecordsStay s s.refreshFeed := by
  have hFeed : RecordsStay s (if s.flag F.SYS_STATE_FEED = s.fedNow then s else s.setFlag F.SYS_STATE_FEED s.fedNow) :=
    .ite (.refl s) (.of_lgr rfl)
  have hState (u : State) (p : Nat) : RecordsStay u (if u.inSafe then u else u.setPstate p) := .ite (.refl u) (u.setPstate_stay p)
  have hSrc (u : State) : RecordsStay u u.refreshSusSrc.refreshBatfet := by
    have hBatfet := (State.refreshBatfet_touch (Touch.refl State.refreshBatfet_cells u.refreshSusSrc)
      (Sub.refl _)).recordsStay (by decide)
    refine RecordsStay.trans ?_ hBatfet
    unfold State.refreshSusSrc
    refine .ite (.of_lgr rfl) ?_
    intro r hr
    rwa [u.chgSuspend_waiting]
  have hClip (u : State) (c : Prop) [Decidable c] : RecordsStay u (if c then u else u.excClip) := by
    refine .ite (.refl u) ?_
    intro r hr
    rwa [u.excClip_waiting]
  exact ((hFeed.trans (hState _ _)).trans (hSrc _)).trans (hClip _ _)

theorem State.tetMove_stay : RecordsStay s s.tetMove := by
  refine .ite (.refl s) (.trans ?_ (State.refreshFeed_stay _))
  intro r hr
  rwa [s.setTetMode_waiting]

/-! ## A ship request cancelled (R27, R321) -/

theorem State.postDone_stay (seq result : Nat) (replayed : Bool) (code : Nat) :
    RecordsStay s (s.postDone seq result replayed code) :=
  .ite (.refl s) (fun _ hr => List.mem_append_left _ hr)

theorem State.cmdFinish_stay (r : Run) (result status : Nat)
    (body : List Byte) : RecordsStay s (s.cmdFinish r result status body) :=
  (s.postDone_stay _ _ _ _).trans
    ((State.cmdAnswer_touch (Touch.refl State.cmdAnswer_cells _) (Sub.refl _) r status body).recordsStay (by decide))

theorem State.shipRequestsDone_stay (result status : Nat)
    (body : List Byte) : RecordsStay s (s.shipRequestsDone result status body) := by
  have hRuns (l : List Run) (u : State) :
      RecordsStay u (l.foldl (fun (t : State) (a : Run) => t.cmdFinish a result status body) u) := by
    induction l generalizing u with
    | nil => exact .refl u
    | cons a l ih => exact (u.cmdFinish_stay a result status body).trans (ih _)
  exact hRuns s.cmd.shipping s

theorem State.shipCheck_stay : RecordsStay s s.shipCheck := by
  have hRefuse (u : State) (cause : Nat) (req : Requester) : RecordsStay u (u.shipRefuse cause req) :=
    RecordsStay.trans (.of_lgr (by rfl))
      ((State.post_stay (u.event F.SYS_EVENT_SHIP_REFUSED) _ _).trans (State.shipRequestsDone_stay _ _ _ _))
  unfold State.shipCheck
  split
  · exact .refl s
  · exact .ite (.refl s) (.trans (.of_lgr (by rfl)) (hRefuse _ _ _))

theorem State.powerChanged_stay : RecordsStay s s.powerChanged :=
  (s.refreshFeed_stay.trans (State.tetMove_stay _)).trans (State.shipCheck_stay _)

/-! ## The verdicts that follow at once (R204, R207, R210, R213) -/

theorem State.note_waiting (code : Nat) (critical audible : Bool) (subject : Nat) :
    (s.note code critical audible subject).lgr.waiting = s.lgr.waiting := by
  have hPush (u : State) (n : Note) : (u.notePush n).lgr = u.lgr :=
    (State.notePush_touch (Touch.refl State.notePush_cells u) (Sub.refl _) n).lgr (by decide)
  have hCritical (n : Note) : (s.noteCritical n).lgr.waiting = s.lgr.waiting := by
    unfold State.noteCritical
    dsimp only
    split_ifs <;> simp [hPush]
  have hHold (n : Note) : (s.noteHold n).lgr = s.lgr :=
    (State.noteHold_touch (Touch.refl State.noteHold_cells s) (Sub.refl _) n).lgr (by decide)
  have hEnter (n : Note) : (s.noteEnter n).lgr = s.lgr :=
    (State.noteEnter_touch (Touch.refl State.noteEnter_cells s) (Sub.refl _) n).lgr (by decide)
  unfold State.note
  dsimp only
  split_ifs <;> simp [hCritical, hHold, hEnter]

theorem State.postVerdict_stay (critical : Bool) (cause : Nat) : RecordsStay s (s.postVerdict critical cause) :=
  s.post_stay _ _

/-- A note is no record. -/
theorem RecordsStay.note {s t : State} (h : RecordsStay s t) (code : Nat) (critical audible : Bool) (subject : Nat) :
    RecordsStay s (t.note code critical audible subject) := fun r hr => by rw [State.note_waiting]; exact h r hr

theorem State.setReserve_stay (v cause : Nat) : RecordsStay s (s.setReserve v cause) := by
  have hVerdict (c : Bool) : RecordsStay s ((s.setField F.VDT_STATUS_RESERVE v).postVerdict c cause) :=
    RecordsStay.trans (.of_lgr (by rfl)) (State.postVerdict_stay _ _ _)
  unfold State.setReserve
  dsimp only
  refine .ite (.refl s) ?_
  split
  · exact (hVerdict _).note _ _ _ _
  · exact (hVerdict _).note _ _ _ _
  · exact .ite (((hVerdict _).note _ _ _ _).note _ _ _ _) ((hVerdict _).note _ _ _ _)

theorem State.refreshCell_stay (cause : Nat) : RecordsStay s (s.refreshCell cause) := by
  have hVerdict (x : Bool) : RecordsStay s ((s.setFlag F.VDT_STATUS_CELL x).postVerdict false cause) :=
    RecordsStay.trans (.of_lgr (by rfl)) (State.postVerdict_stay _ _ _)
  exact .ite (.refl s) (.ite ((hVerdict _).note _ _ _ _) (hVerdict _))

theorem State.chgVerdict_stay : RecordsStay s s.chgVerdict := by
  have hReserve (u : State) (c : Prop) [Decidable c] : RecordsStay u (if c then u.setReserve 2 1 else u) :=
    .ite (u.setReserve_stay 2 1) (.refl u)
  exact (s.refreshCell_stay 3).trans (hReserve _ _)

/-! ## The loss of the Tether (R123, R274, R275) -/

theorem State.cutOff_stay (vtet : Nat) : RecordsStay s (s.cutOff vtet) := by
  have hPost (u : State) (cap : Nat) : RecordsStay u (u.postCutoff vtet cap) :=
    .ite (u.tallyCt_stay _) (u.post_stay _ _)
  exact RecordsStay.trans (.of_lgr (by rfl)) (hPost _ _)

theorem State.loseTether_stay (cause mv : Nat) : RecordsStay s (s.lose .tether cause mv) := by
  have hLoss : RecordsStay s ((s.setVolt .tether mv).postLoss .tether cause mv) :=
    RecordsStay.trans ((State.setVolt_touch (Touch.refl State.setVolt_cells s) (Sub.refl _) .tether mv).recordsStay (by decide))
      (RecordsStay.trans (.of_lgr (by rfl)) (State.post_stay _ _ _))
  have hNext (u : State) : RecordsStay u (((u.dropSwitch .tether).refreshPending).powerChanged).chgVerdict :=
    RecordsStay.trans ((State.refreshPending_touch (State.dropSwitch_touch (Touch.refl
      (State.dropSwitch_cells ++ State.refreshPending_cells) u) (Sub.of rfl) .tether) (Sub.of rfl)).recordsStay (by decide))
      ((State.powerChanged_stay _).trans (State.chgVerdict_stay _))
  unfold State.lose
  dsimp only
  refine .ite (.refl s) ?_
  rw [if_neg (by decide), if_neg (by decide)]
  exact hLoss.trans (.trans (.of_lgr (by rfl)) (hNext _))

theorem State.cutoffAgain_stay : RecordsStay s s.cutoffAgain := by
  have hCut : RecordsStay s (if s.field F.CONV_STATUS_TET_MODE = 2 then s.cutOff (s.shownMv R.SRC_VTET_V) else s) :=
    .ite (s.cutOff_stay _) (.refl s)
  exact .ite (.refl s) (hCut.trans (.trans (.of_lgr (by rfl)) (State.loseTether_stay _ _ _)))

end
end Sys2Proof.Machine
end

section
/-!
SUPPORT. Level alarms (R254, R255): a raised level, its end, and O32.
-/

namespace Sys2Proof.Machine

section
variable (s : State)

/-- A unit that shows a raised level, before its alarm starts. -/
def State.levelRaised : State :=
  (({ s.fresh.2 with alm := { s.alm with level := some s.now } }.setFlag F.TET_STATUS_LVL_IN true).refreshRemote).setReg
    R.ALM_LASTORG (BitVec.ofNat 16 (s.fresh.1.toNat % 512))

/-- Beside the alarm start, the event and the record are all that is written. -/
theorem State.levelStart_touch_alarmOn :
    Touch State.post_cells (s.levelRaised.alarmOn.event F.ALM_EVENT_REMOTE_START) s.levelStart :=
  State.post_touch (Touch.refl _ _) (Sub.refl _) _ _

theorem State.levelRaised_shows : s.levelRaised.alm.level = some s.now ∧ s.levelRaised.flag F.TET_STATUS_LVL_IN = true := by
  refine ⟨rfl, ?_⟩
  rw [State.levelRaised, State.flag_setReg_ne _ _ _ _ (by decide), State.refreshRemote, State.flag_setFlag _ _ _ _ (by decide),
    if_neg (by decide), State.flag_setFlag _ _ _ _ (by decide), if_pos rfl]

/-- The check whether an alarm is left shows no level. -/
theorem State.alarmCheck_levelIn : s.alarmCheck.flag F.TET_STATUS_LVL_IN = s.flag F.TET_STATUS_LVL_IN := by
  have hHush (u : State) : u.hushEnd.flag F.TET_STATUS_LVL_IN = u.flag F.TET_STATUS_LVL_IN := by
    rw [State.hushEnd, State.refreshHorn_flag _ _ (by decide), State.flag_setFlag _ _ _ _ (by decide), if_neg (by decide)]
    exact congrArg (bitOf · _) (u.reg_setRegs_four_ne R.ALM_HUSHSET0 0 0 0 0 R.TET_STATUS (by decide))
  have hHold (u : State) : u.hornHoldStart.flag F.TET_STATUS_LVL_IN = u.flag F.TET_STATUS_LVL_IN := by
    unfold State.hornHoldStart
    split <;> rfl
  unfold State.alarmCheck
  split
  · exact s.refreshHorn_flag _ (by decide)
  · rw [hHold, hHush]
    exact (State.setOverlay_touch (Touch.refl (R.SYS_STATE :: State.setOverlay_cells) s) (Sub.of rfl) _ _ (.inl (by decide))).flag _
      (by decide)

/-- A unit whose level has been taken back, before the record of it. -/
def State.levelDropped : State :=
  (({ s with alm := { s.alm with level := none } }.setFlag F.TET_STATUS_LVL_IN false).refreshRemote).event F.ALM_EVENT_REMOTE_END

theorem State.levelDropped_levelIn : s.levelDropped.flag F.TET_STATUS_LVL_IN = false := by
  rw [State.levelDropped, State.flag_event _ _ _ (by decide), if_neg (by decide), State.refreshRemote,
    State.flag_setFlag _ _ _ _ (by decide), if_neg (by decide), State.flag_setFlag _ _ _ _ (by decide), if_pos rfl]

theorem State.levelDropped_roomFor (k : Kind) (h : s.roomFor k) : s.levelDropped.roomFor k := by
  have hTouch : Touch [R.TET_STATUS, R.ALM_STATUS, R.ALM_EVENT, 0x1406] s s.levelDropped :=
    State.event_touch (State.refreshRemote_touch (State.setFlag_touch (Touch.update (Touch.refl _ s) (h_alm := .inr (by decide)))
      _ _
      (.inl (by decide))) (Sub.of rfl)) _ (.inl (by decide))
  exact (hTouch.sameIntake (by decide)).roomFor h

/-- What the end of a level alarm brings about (R254, R255). -/
theorem State.levelEnd_shows (d : Nat) :
    (s.levelEnd d).alm.level = none ∧ (s.levelEnd d).flag F.TET_STATUS_LVL_IN = false ∧
    (s.levelEnd d).flag F.ALM_EVENT_REMOTE_END = true ∧
    (s.roomFor K.REMOTE_END → (s.levelEnd d).holds K.REMOTE_END ([0xFF, 2] ++ beBytes 2 ((s.now - d) / 32768))) := by
  let u := s.levelDropped.post K.REMOTE_END ([0xFF, 2] ++ beBytes 2 ((s.now - d) / 32768))
  have hPost : Touch State.post_cells s.levelDropped u := State.post_touch (Touch.refl _ _) (Sub.refl _) _ _
  have hCheck := State.alarmCheck_touch (Touch.refl State.alarmCheck_cells u) (Sub.refl _)
  obtain ⟨-, -, hLevel⟩ := u.alarmCheck_sameAlarms
  change u.alarmCheck.alm.level = none ∧ u.alarmCheck.flag _ = false ∧ u.alarmCheck.flag _ = true ∧ (_ → u.alarmCheck.holds _ _)
  refine ⟨hLevel.trans (congrArg Alarm.level (hPost.alm (by decide))), ?_, ?_, fun hRoom => ?_⟩
  · rw [u.alarmCheck_levelIn, hPost.flag _ (by decide), s.levelDropped_levelIn]
  · rw [hCheck.flag _ (by decide), hPost.flag _ (by decide), State.levelDropped, State.flag_event _ _ _ (by decide), if_pos rfl]
  · exact (hCheck.recordsStay (by decide)).holds (s.levelDropped.post_holds _ _ (s.levelDropped_roomFor _ hRoom))

end

/-! ## O32 -/

/-- A raised level (R254). -/
theorem levelAlarmStart_gives (s : State) (hs : s.live = true) (hMode : s.flag F.TET_STATUS_LEVEL = true)
    (hOut : s.flag F.TET_STATUS_LVL_OUT = false) (hNone : s.alm.level = none) : Gives .levelAlarmStart s fun t =>
      t.alm.level = some s.now ∧ t.flag F.TET_STATUS_LVL_IN ∧ t.flag F.ALM_EVENT_REMOTE_START ∧ t.flag F.SYS_STATE_ALARM := by
  refine Gives.of_when rfl (by simp [hs, hMode, hOut, hNone]) ?_
  have hPost := s.levelStart_touch_alarmOn
  have hEvent := State.event_touch (Touch.refl [R.ALM_EVENT] s.levelRaised.alarmOn) F.ALM_EVENT_REMOTE_START (.inl (by decide))
  obtain ⟨hLevel, hIn⟩ := s.levelRaised_shows
  obtain ⟨d, hAlm⟩ := s.levelRaised.alarmOn_alm
  refine ⟨?_, ?_, ?_, ?_⟩
  · rw [hPost.alm (by decide), State.event_alm, hAlm, ← hLevel]
  · rw [hPost.flag _ (by decide), hEvent.flag _ (by decide), State.alarmOn_flag _ _ (by decide) (by decide), hIn]
  · rw [hPost.flag _ (by decide), State.flag_event _ _ _ (by decide), if_pos rfl]
  · rw [hPost.flag _ (by decide), hEvent.flag _ (by decide), State.alarmOn_alarm]

/-- The end of a raised level (R254, R255). -/
theorem levelAlarmEnd_gives (s : State) (d : Nat) (hs : s.live = true) (hLevel : s.alm.level = some d) :
    Gives .levelAlarmEnd s fun t =>
      t.alm.level = none ∧ t.flag F.TET_STATUS_LVL_IN = false ∧ t.flag F.ALM_EVENT_REMOTE_END ∧
      (s.roomFor K.REMOTE_END → t.holds K.REMOTE_END ([0xFF, 2] ++ beBytes 2 ((s.now - d) / 32768))) := by
  refine Gives.of_whenLive rfl hs ?_
  simp only [hLevel]
  have hCut := State.cutoffAgain_touch (Touch.refl State.cutoffAgain_cells (s.levelEnd d)) (Sub.refl _)
  obtain ⟨hNone, hIn, hEnd, hHolds⟩ := s.levelEnd_shows d
  exact ⟨(congrArg Alarm.level (hCut.alm (by decide))).trans hNone, (hCut.flag _ (by decide)).trans hIn,
    (hCut.flag _ (by decide)).trans hEnd, fun hRoom => (s.levelEnd d).cutoffAgain_stay.holds (hHolds hRoom)⟩

/-- Settles O32: the start's alarm shows the level, and the end's record stays in its FIFO whatever the cut-off then does. -/
theorem levelAlarms : Obligations.LevelAlarms := by
  unfold Obligations.LevelAlarms
  exact ⟨levelAlarmStart_gives, levelAlarmEnd_gives⟩

end Sys2Proof.Machine
end

section
/-!
SUPPORT. The Tether converter's moves (R137 to R141, R148, R150): what they leave of the events and of the stops, and the mode they
end in.
-/

namespace Sys2Proof.Machine

/-- What stops sourcing apart from the guards: the wait after a short, the attempt that followed it, and a low VSYS (R140, R150). -/
def Conv.stops (c : Conv) : Option Nat × Option Nat × Bool := (c.shortRetry, c.shortTry, c.vsysLow)

section
variable (s : State)

/-! ## The episodes of shedding (R148) -/

theorem State.tally_conv (k : Kind) : (s.tally k).conv = s.conv :=
  (State.tally_touch (Touch.refl State.tally_cells s) (Sub.refl _) k).conv (by decide)

theorem State.refreshShed_stops : s.refreshShed.conv.stops = s.conv.stops := by
  unfold State.refreshShed
  dsimp only
  split_ifs <;> simp [Conv.stops, State.tally_conv]

theorem State.refreshShed_vsysLow : s.refreshShed.conv.vsysLow = s.conv.vsysLow := congrArg (·.2.2) s.refreshShed_stops

/-- The events other than SHED stay. -/
theorem State.refreshShed_event (g : Flag) (hg : g.reg = R.CONV_EVENT ∧
    g ≠ F.CONV_EVENT_SHED) : s.refreshShed.flag g = s.flag g := by
  obtain ⟨hr, hne⟩ := hg
  have hShed : (if s.sourceCut && !s.conv.cut then s.event F.CONV_EVENT_SHED else s).flag g = s.flag g := by
    split
    · rw [State.flag_event _ _ _ (by decide), if_neg hne]
    · rfl
  have hTally (u : State) (c : Prop) [Decidable c] :
      (if c then (u.bump R.CONV_SHEDCNT 1).tally K.SHED else u).flag g = u.flag g := by
    split
    · refine (State.tally_touch (State.bump_touch (Touch.refl (R.CONV_SHEDCNT :: State.tally_cells) u) _ _ (.inl (by decide)))
        (Sub.of rfl) K.SHED).flag g ?_
      rw [hr]
      decide
    · rfl
  exact (hTally _ _).trans hShed

/-! ## One move of the Tether converter (R141) -/

/-- The bits of CONV_STATUS other than the Tether converter's mode. -/
abbrev besideTetMode (g : Flag) : Prop := g.reg = R.CONV_STATUS ∧ (g.bit < 4 ∨ 6 ≤ g.bit)

/-- A mode that is set, before the episodes of shedding follow. -/
theorem State.setTetMode_before_shed (m : Nat) (hm : m < 4) : ∃ u, s.setTetMode m = u.refreshShed ∧
    Touch [R.SRC_STATUS, R.CONV_STATUS, R.CONV_TET_I, 0x1408] s u ∧ u.field F.CONV_STATUS_TET_MODE = m ∧
    u.conv.stops = s.conv.stops ∧ ∀ g, besideTetMode g → u.flag g = s.flag g := by
  let v := (s.setField F.CONV_STATUS_TET_MODE m).setFlag F.SRC_STATUS_TET_SINK (m == 2)
  let w := if m = s.field F.CONV_STATUS_TET_MODE then v else v.setReg R.CONV_TET_I 0
  have hv : Touch [R.SRC_STATUS, R.CONV_STATUS, R.CONV_TET_I, 0x1408] s v :=
    State.setFlag_touch (State.setField_touch (Touch.refl _ s) _ _ (.inl (by decide))) _ _ (.inl (by decide))
  have hwv : Touch [R.CONV_TET_I] v w :=
    Touch.ite (Touch.refl _ v) (State.setReg_touch (Touch.refl _ v) _ _ (.inl (by decide)))
  refine ⟨_, rfl, Touch.update (Touch.ite hv (State.setReg_touch hv _ _ (.inl (by decide)))) (h_conv := .inr (by decide)),
    ?_, ?_, ?_⟩
  · change w.field F.CONV_STATUS_TET_MODE = m
    rw [hwv.field _ (by decide), State.field_setFlag_ne _ _ _ _ (by decide) (.inl (by decide)), State.field,
      State.reg_setField, if_pos rfl, fieldOf_putFieldOf _ _ _ _ (by decide)]
    exact Nat.mod_eq_of_lt hm
  · change w.conv.stops = s.conv.stops
    rw [hwv.conv (by decide)]
    rfl
  · intro g hg
    obtain ⟨hr, hb⟩ := hg
    change w.flag g = s.flag g
    rw [hwv.flag g (by rw [hr]; decide), State.flag_setFlag _ _ _ _ (by decide),
      if_neg (fun e => absurd (congrArg Flag.reg e) (by rw [hr]; decide)), State.flag_setField_ne _ _ _ _ (.inr hb)]

theorem State.setTetMode_mode (m : Nat) (hm : m < 4) : (s.setTetMode m).field F.CONV_STATUS_TET_MODE = m := by
  obtain ⟨u, hu, -, hMode, -⟩ := s.setTetMode_before_shed m hm
  rw [hu, (State.refreshShed_touch (Touch.refl State.refreshShed_cells u) (Sub.refl _)).field _ (by decide), hMode]

theorem State.setTetMode_stops (m : Nat) (hm : m < 4) : (s.setTetMode m).conv.stops = s.conv.stops := by
  obtain ⟨u, hu, -, -, hStops, -⟩ := s.setTetMode_before_shed m hm
  rw [hu, u.refreshShed_stops, hStops]

theorem State.setTetMode_beside (m : Nat) (hm : m < 4) (g : Flag) (hg : besideTetMode g) : (s.setTetMode m).flag g = s.flag g := by
  obtain ⟨u, hu, -, -, -, hBeside⟩ := s.setTetMode_before_shed m hm
  rw [hu, (State.refreshShed_touch (Touch.refl State.refreshShed_cells u) (Sub.refl _)).flag g (by rw [hg.1]; decide), hBeside g hg]

theorem State.setTetMode_event (m : Nat) (hm : m < 4) (g : Flag) (hg : g.reg = R.CONV_EVENT ∧ g ≠ F.CONV_EVENT_SHED) :
    (s.setTetMode m).flag g = s.flag g := by
  obtain ⟨u, hu, hTouch, -⟩ := s.setTetMode_before_shed m hm
  rw [hu, u.refreshShed_event g hg, hTouch.flag g (by rw [hg.1]; decide)]

/-! ## FEED after a move (R22, R151) -/

theorem State.excClip_stops : s.excClip.conv.stops = s.conv.stops := by
  unfold State.excClip
  split
  · rw [State.refreshShed_stops]
    rfl
  · rfl

theorem State.excClip_event (g : Flag) (hg : g.reg = R.CONV_EVENT ∧ g ≠ F.CONV_EVENT_SHED ∧ g ≠ F.CONV_EVENT_EXC_CLIP) :
    s.excClip.flag g = s.flag g := by
  obtain ⟨hr, hShed, hClip⟩ := hg
  unfold State.excClip
  split
  · rw [State.refreshShed_event _ g ⟨hr, hShed⟩, State.flag_event _ _ _ (by decide), if_neg hClip]
    rfl
  · rfl

/-- What FEED and the power state may write without the clipping of a sweep. -/
def feedCells : List Nat := R.SYS_STATE :: (State.setPstate_cells ++ State.refreshSusSrc_cells ++ State.refreshBatfet_cells)

/-- FEED and the power state follow, before the excitation of a sweep is clipped. -/
theorem State.refreshFeed_before_clip : ∃ u, (s.refreshFeed = u ∨ s.refreshFeed = u.excClip) ∧
    Touch feedCells s u := by
  let fed : State := if s.flag F.SYS_STATE_FEED = s.fedNow then s else s.setFlag F.SYS_STATE_FEED s.fedNow
  let w : State := if fed.inSafe then fed else fed.setPstate (if s.fedNow then 2 else 1)
  have hFed : Touch feedCells s fed := Touch.ite (Touch.refl _ s) (State.setFlag_touch (Touch.refl _ s) _ _ (.inl (by decide)))
  have hW : Touch feedCells s w := Touch.ite hFed (State.setPstate_touch hFed (Sub.of rfl) _)
  refine ⟨w.refreshSusSrc.refreshBatfet, ?_, State.refreshBatfet_touch (State.refreshSusSrc_touch hW (Sub.of rfl)) (Sub.of rfl)⟩
  by_cases h : s.fedNow = true
  · exact .inl (if_pos h)
  · exact .inr (if_neg h)

theorem State.refreshFeed_stops : s.refreshFeed.conv.stops = s.conv.stops := by
  obtain ⟨u, hu, hTouch⟩ := s.refreshFeed_before_clip
  rw [← hTouch.conv (by decide)]
  rcases hu with hu | hu
  · rw [hu]
  · rw [hu, u.excClip_stops]

/-- The events of sourcing, of the horn and of VAUX, as against those of shedding. -/
abbrev besideShed (g : Flag) : Prop := g.reg = R.CONV_EVENT ∧ g ≠ F.CONV_EVENT_SHED ∧ g ≠ F.CONV_EVENT_EXC_CLIP

theorem State.refreshFeed_event (g : Flag) (hg : besideShed g) : s.refreshFeed.flag g = s.flag g := by
  obtain ⟨u, hu, hTouch⟩ := s.refreshFeed_before_clip
  rw [← hTouch.flag g (by rw [hg.1]; decide)]
  rcases hu with hu | hu
  · rw [hu]
  · rw [hu, u.excClip_event g hg]

/-! ## The mode that a move ends in (R137, R141) -/

theorem State.tetWanted_lt : s.tetWanted < 4 := by
  unfold State.tetWanted
  dsimp only
  split_ifs <;> omega

/-- The next mode is the present one, LISTEN, or the one selected. -/
theorem State.tetNext_cases : s.tetNext = 1 ∨ s.tetNext = s.tetWanted := by
  unfold State.tetNext
  dsimp only
  split_ifs <;> simp_all

theorem State.tetNext_lt : s.tetNext < 4 := by
  have hWanted := s.tetWanted_lt
  rcases s.tetNext_cases with h | h <;> omega

/-- Between SINK and SOURCE there is a stay in LISTEN. -/
theorem State.tetNext_through_listen :
    (s.field F.CONV_STATUS_TET_MODE = 2 → s.tetNext ≠ 3) ∧ (s.field F.CONV_STATUS_TET_MODE = 3 → s.tetNext ≠ 2) := by
  unfold State.tetNext
  dsimp only
  simp only [Bool.and_eq_true, Bool.or_eq_true, decide_eq_true_eq]
  generalize s.field F.CONV_STATUS_TET_MODE = m
  generalize s.tetWanted = w
  refine ⟨fun h => ?_, fun h => ?_⟩
  · split_ifs <;> omega
  · split_ifs <;> omega

/-- A unit that waits after a short, or whose VSYS is low, does not go to SOURCE. -/
theorem State.tetNext_ne_source (h : s.conv.shortRetry.isSome = true ∨ s.conv.vsysLow = true) : s.tetNext ≠ 3 := by
  have hWanted : s.tetWanted ≠ 3 := by
    unfold State.tetWanted State.sourceGuards
    dsimp only
    rcases h with h | h
    · simp only [Option.isNone_eq_false_iff.2 h, Bool.and_false, Bool.false_eq_true, if_false]
      split_ifs <;> omega
    · simp only [h, Bool.not_true, Bool.and_false, Bool.false_and, Bool.false_eq_true, if_false]
      split_ifs <;> omega
  rcases s.tetNext_cases with hNext | hNext <;> omega

theorem State.tetMove_mode : s.tetMove.field F.CONV_STATUS_TET_MODE = s.tetNext := by
  unfold State.tetMove
  split
  case isTrue h => exact h.symm
  case isFalse h =>
    rw [(State.refreshFeed_touch (Touch.refl State.refreshFeed_cells _) (Sub.refl _)).field _ (by decide),
      s.setTetMode_mode _ s.tetNext_lt]

theorem State.tetMove_stops : s.tetMove.conv.stops = s.conv.stops := by
  unfold State.tetMove
  split
  · rfl
  · rw [State.refreshFeed_stops, s.setTetMode_stops _ s.tetNext_lt]

theorem State.tetMove_vsysLow : s.tetMove.conv.vsysLow = s.conv.vsysLow := congrArg (·.2.2) s.tetMove_stops

theorem State.tetMove_event (g : Flag) (hg : besideShed g) : s.tetMove.flag g = s.flag g := by
  unfold State.tetMove
  split
  · rfl
  · rw [State.refreshFeed_event _ g hg, s.setTetMode_event _ s.tetNext_lt g ⟨hg.1, hg.2.1⟩]

theorem State.tetMove_beside (g : Flag) (hg : besideTetMode g) : s.tetMove.flag g = s.flag g := by
  unfold State.tetMove
  split
  · rfl
  · rw [(State.refreshFeed_touch (Touch.refl State.refreshFeed_cells _) (Sub.refl _)).flag g (by rw [hg.1]; decide),
      s.setTetMode_beside _ s.tetNext_lt g hg]

end
end Sys2Proof.Machine
end

section
/-!
SUPPORT. The converters' commands (R132 to R150): a clause for each command, and O14.
-/

namespace Sys2Proof.Machine

/-! ## The main converter and the Tether converter (R132, R137 to R141) -/

theorem mainRegion_lt (old vmux vsys : Nat) : mainRegion old vmux vsys < 4 := by
  unfold mainRegion
  split_ifs <;> omega

/-- The region follows VMUX and VSYS (R132). -/
theorem mainRegionChange_gives (s : State) (vmux : Nat) (hs : s.live = true) (hOn : s.flag F.CONV_STATUS_MAIN_ON = true) :
    Gives (.mainRegionChange vmux) s fun t =>
      t.field F.CONV_STATUS_MAIN_REGION = mainRegion (s.field F.CONV_STATUS_MAIN_REGION) vmux s.vsysTarget ∧
      t.lgr = s.lgr ∧ s.regsKept t [R.PATH_VMUX, R.PATH_STATUS, R.CONV_STATUS] := by
  refine Gives.of_when rfl (by rw [hs, hOn]; rfl) ⟨?_, rfl, fun a ha => ?_⟩
  · rw [State.field, State.reg_setField, if_pos rfl, fieldOf_putFieldOf _ _ _ _ (by decide)]
    exact Nat.mod_eq_of_lt (mainRegion_lt _ _ _)
  · simp only [List.mem_cons, List.not_mem_nil, or_false, not_or] at ha
    simp [State.reg_setField, State.setVmux, State.reg_setReg, ha]

/-- One move of the Tether converter (R137, R141). -/
theorem tetModeChange_gives (s : State) (hs : s.live = true) : Gives (.tetModeChange) s fun t =>
      t.field F.CONV_STATUS_TET_MODE = s.tetNext ∧
      (s.field F.CONV_STATUS_TET_MODE = 2 → t.field F.CONV_STATUS_TET_MODE ≠ 3) ∧
      (s.field F.CONV_STATUS_TET_MODE = 3 → t.field F.CONV_STATUS_TET_MODE ≠ 2) ∧
      (s.tetNext = s.field F.CONV_STATUS_TET_MODE → t = s) := by
  refine Gives.of_whenLive rfl hs ?_
  obtain ⟨hSink, hSource⟩ := s.tetNext_through_listen
  rw [s.tetMove_mode]
  exact ⟨rfl, hSink, hSource, fun h => if_pos h⟩

/-- A signed number of 16 bits reads as it was written. -/
theorem toSigned16_ofSigned16 (x : Int) (h : -32768 ≤ x ∧ x < 32768) : toSigned16 (ofSigned16 x) = x := by
  rw [toSigned16, ofSigned16, BitVec.toInt_ofInt]
  exact Int.bmod_eq_of_le (by omega) (by omega)

/-- Folded back, a sourcing converter is held at 0.2 A (R140). -/
theorem State.tetHold_folded (s : State) (hMode : s.field F.CONV_STATUS_TET_MODE = 3) (hFold : s.conv.folded = true) :
    toSigned16 (s.tetHold.reg R.CONV_TET_I) ≤ 20 := by
  have hMost : (s.sourceMost : Int) ≤ 20 := by
    have : s.sourceMost ≤ 20 := by
      rw [State.sourceMost]
      exact (if_pos hFold).trans_le (Nat.min_le_left _ _)
    omega
  have hLow : -32768 ≤ toSigned16 (s.reg R.CONV_TET_I) := BitVec.le_toInt _
  have hHigh : toSigned16 (s.reg R.CONV_TET_I) < 32768 := BitVec.toInt_lt
  rw [State.tetHold, State.reg_setFlag, if_neg (by decide), State.reg_setReg_same, hMode, if_neg (by decide), if_pos rfl,
    toSigned16_ofSigned16 _ (by omega)]
  omega

/-- VTET below 18 V (R140). -/
theorem tetSourceFoldback_gives (s : State) (vtet : Nat) (hs : s.live = true) (hMode : s.field F.CONV_STATUS_TET_MODE = 3)
    (hLow : vtet < 18000) : Gives (.tetSourceFoldback vtet) s fun t =>
      t.flag F.CONV_EVENT_TET_FOLD ∧ t.conv.folded ∧ t.reg R.SRC_VTET_V = word16 (vtet / 20) ∧
      toSigned16 (t.reg R.CONV_TET_I) ≤ 20 ∧ t.lgr = s.lgr ∧
      s.regsKept t [R.SRC_VTET_V, R.CONV_EVENT, R.CONV_TET_I, R.CONV_STATUS] := by
  refine Gives.of_when rfl (by simp [hs, State.sourcing, hMode, hLow]) ?_
  let u : State := (s.setVolt .tether vtet).event F.CONV_EVENT_TET_FOLD
  let v : State := { u with conv := { u.conv with folded := true } }
  have hU : Touch [R.SRC_VTET_V, R.CONV_EVENT] s u :=
    State.event_touch (State.setReg_touch (Touch.refl _ s) R.SRC_VTET_V _ (.inl (by decide))) _ (.inl (by decide))
  have hHold := State.tetHold_touch (Touch.refl State.tetHold_cells v) (Sub.refl _)
  have hFold : u.flag F.CONV_EVENT_TET_FOLD = true := by rw [State.flag_event _ _ _ (by decide), if_pos rfl]
  refine ⟨(hHold.flag _ (by decide)).trans hFold, congrArg Conv.folded (hHold.conv (by decide)),
    (hHold.reg _ (by decide) (by decide)).trans ?_, v.tetHold_folded ((hU.field _ (by decide)).trans hMode) rfl,
    (hHold.lgr (by decide)).trans (hU.lgr (by decide)), fun a ha => ?_⟩
  · exact (State.reg_event _ _ _).trans ((if_neg (by decide)).trans (s.reg_setReg_same _ _))
  · simp only [List.mem_cons, List.not_mem_nil, or_false, not_or] at ha
    simp [State.tetHold, State.setVolt, voltReg, State.reg_setFlag, State.reg_setReg, State.reg_event, ha]

/-- VTET below 12 V (R140). -/
theorem tetShort_gives (s : State) (vtet ma : Nat) (hs : s.live = true) (hMode : s.field F.CONV_STATUS_TET_MODE = 3)
    (hLow : vtet < 12000) : Gives (.tetShort vtet ma) s fun t =>
      t.flag F.CONV_EVENT_TET_SHORT ∧ t.conv.shortRetry = some (s.now + secTicks 1) ∧
      t.field F.CONV_STATUS_TET_MODE ≠ 3 ∧ t.reg R.SRC_VTET_V = word16 (vtet / 20) ∧
      (s.conv.shortTry = none → s.roomFor K.TET_SHORT → t.holds K.TET_SHORT (beBytes 2 (volt20 vtet) ++ beSigned 2 (ma /
        10 : Nat))) := by
  refine Gives.of_when rfl (by simp [hs, State.sourcing, hMode, hLow]) ?_
  let payload := beBytes 2 (volt20 vtet) ++ beSigned 2 (ma / 10 : Nat)
  let p : State := (s.setVolt .tether vtet).event F.CONV_EVENT_TET_SHORT
  let q : State := if s.sameFault s.conv.shortTry 10 then p.coalesce K.TET_SHORT else p.post K.TET_SHORT payload
  let u : State := { q with conv := { q.conv with shortRetry := q.timer (secTicks 1) } }
  have hP : Touch [R.SRC_VTET_V, R.CONV_EVENT] s p :=
    State.event_touch (State.setReg_touch (Touch.refl _ s) R.SRC_VTET_V _ (.inl (by decide))) _ (.inl (by decide))
  have hQ : Touch State.post_cells p q :=
    Touch.ite (State.coalesce_touch (Touch.refl _ p) (Sub.of rfl) _) (State.post_touch (Touch.refl _ p) (Sub.refl _) _ _)
  have hMove := State.tetMove_touch (Touch.refl State.tetMove_cells u) (Sub.refl _)
  have hShort : p.flag F.CONV_EVENT_TET_SHORT = true := by rw [State.flag_event _ _ _ (by decide), if_pos rfl]
  have hVtet : p.reg R.SRC_VTET_V = word16 (vtet / 20) :=
    (State.reg_event _ _ _).trans ((if_neg (by decide)).trans (s.reg_setReg_same _ _))
  have hRetry : u.conv.shortRetry = some (s.now + secTicks 1) :=
    congrArg (fun n => some (n + secTicks 1)) ((hQ.now (by decide)).trans (hP.now (by decide)))
  change u.tetMove.flag _ = true ∧ u.tetMove.conv.shortRetry = _ ∧ u.tetMove.field _ ≠ 3 ∧ u.tetMove.reg _ = _ ∧
    (_ → _ → u.tetMove.holds _ _)
  refine ⟨?_, (congrArg Prod.fst u.tetMove_stops).trans hRetry, ?_, ?_, fun hTry hRoom => ?_⟩
  · rw [u.tetMove_event _ (by decide)]
    exact (hQ.flag _ (by decide)).trans hShort
  · rw [u.tetMove_mode]
    exact u.tetNext_ne_source (.inl (by rw [hRetry]; rfl))
  · rw [hMove.reg _ (by decide) (by decide)]
    exact (hQ.reg _ (by decide) (by decide)).trans hVtet
  · refine u.tetMove_stay.holds (s := u) ?_
    have hPosted : q = p.post K.TET_SHORT payload := if_neg (by rw [hTry]; exact Bool.false_ne_true)
    change q.holds _ _
    rw [hPosted]
    exact p.post_holds _ _ ((hP.sameIntake (by decide)).roomFor hRoom)

/-- The second after a short has passed (R140). -/
theorem tetSourceRetry_gives (s : State) (hs : s.live = true) (hDue : s.elapsed s.conv.shortRetry = true) :
    Gives (.tetSourceRetry) s fun t => t.conv.shortRetry = none ∧ t.conv.shortTry = some s.now ∧ t.now = s.now := by
  refine Gives.of_when rfl (by rw [hs, hDue]; rfl) ?_
  let u : State := { s with conv := { s.conv with shortRetry := none, shortTry := some s.now } }
  have hStops := u.tetMove_stops
  exact ⟨congrArg Prod.fst hStops, congrArg (·.2.1) hStops,
    (State.tetMove_touch (Touch.refl State.tetMove_cells u) (Sub.refl _)).now (by decide)⟩

/-! ## The horn switch and VSYS (R144, R150) -/

/-- The limit of HSW (R144). -/
theorem hswOcp_gives (s : State) (vhorn ma : Nat) (hs : s.live = true) (hHsw : s.flag F.ALM_STATUS_HSW = true) :
    Gives (.hswOcp vhorn ma) s fun t =>
      t.flag F.ALM_STATUS_HSW = false ∧ t.alm.hswOpenDue = some (s.now + msTicks 100) ∧
      (s.conv.hswOcp = false → t.flag F.CONV_EVENT_HSW_OCP ∧ t.conv.hswOcp) ∧
      (s.conv.hswOcp = false → s.hands t K.HSW_OCP (beBytes 2 (volt20 vhorn) ++ beSigned 2 (ma / 10 : Nat))) := by
  refine Gives.of_when rfl (by rw [hs, hHsw]; rfl) ?_
  let payload := beBytes 2 (volt20 vhorn) ++ beSigned 2 (ma / 10 : Nat)
  let p : State := { s with conv := { s.conv with hswOcp := true } }.event F.CONV_EVENT_HSW_OCP
  let q : State := if s.conv.hswOcp then s.coalesce K.HSW_OCP else p.post K.HSW_OCP payload
  let u : State := { q with alm := { q.alm with hswOpenDue := q.timer (msTicks 100) } }
  have hP : Touch [R.CONV_EVENT, 0x1408] s p :=
    State.event_touch (Touch.update (Touch.refl _ s) (h_conv := .inr (by decide))) _ (.inl (by decide))
  have hPost := State.post_touch (Touch.refl State.post_cells p) (Sub.refl _) K.HSW_OCP payload
  have hQ : Touch (State.post_cells ++ [R.CONV_EVENT, 0x1408]) s q :=
    Touch.ite (State.coalesce_touch (Touch.refl _ s) (Sub.of rfl) _) (State.post_touch (hP.mono (Sub.of rfl)) (Sub.of rfl) _ _)
  have hHsw' : (q.timer (msTicks 100)).isNone = false := rfl
  change u.refreshHsw.flag _ = false ∧ u.alm.hswOpenDue = _ ∧ (_ → u.refreshHsw.flag _ = true ∧ q.conv.hswOcp = true) ∧
    (_ → q.lgr = _)
  refine ⟨?_, congrArg (fun n => some (n + msTicks 100)) (hQ.now (by decide)), fun hFirst => ?_, fun hFirst => ?_⟩
  · rw [State.refreshHsw, State.flag_setFlag _ _ _ _ (by decide), if_pos rfl, hHsw', Bool.and_false]
  · rw [u.refreshHsw_flag _ (by decide)]
    change q.flag _ = true ∧ _
    rw [show q = p.post K.HSW_OCP payload from if_neg (by rw [hFirst]; exact Bool.false_ne_true), hPost.flag _ (by decide),
      hPost.conv (by decide), State.flag_event _ _ _ (by decide), if_pos rfl]
    exact ⟨rfl, rfl⟩
  · rw [show q = p.post K.HSW_OCP payload from if_neg (by rw [hFirst]; exact Bool.false_ne_true)]
    exact (hP.sameIntake (by decide)).post_lgr _ _

/-- The 100 ms of the limit have passed (R144). -/
theorem hswReclose_gives (s : State) (hs : s.live = true)
    (hDue : s.elapsed s.alm.hswOpenDue = true) : Gives (.hswReclose) s fun t =>
      t.alm.hswOpenDue = none ∧ (t.flag F.ALM_STATUS_HSW = (s.flag F.ALM_STATUS_HORN_OK && s.hswWanted)) ∧
      t.lgr = s.lgr ∧ s.regsKept t [R.ALM_STATUS] := by
  refine Gives.of_when rfl (by rw [hs, hDue]; rfl) ⟨rfl, ?_, rfl, fun a ha => ?_⟩
  · rw [State.refreshHsw, State.flag_setFlag _ _ _ _ (by decide), if_pos rfl]
    exact Bool.and_true _
  · rw [State.refreshHsw, State.reg_setFlag, if_neg (by simpa using ha)]
    rfl

/-! ### The ladder of VSYS -/

/-- The fold-back of the horn up to the episodes of shedding (R150). -/
theorem State.refreshFold_before_shed (s : State) : ∃ u : State, s.refreshFold = u.refreshShed ∧ u.conv = s.conv ∧
    u.flag F.CONV_STATUS_HORN_FOLD = (s.conv.vsysLow && s.flag F.CONV_STATUS_HORN_ON) ∧
    (s.conv.vsysLow = true → s.flag F.CONV_STATUS_HORN_ON = true → s.flag F.CONV_STATUS_HORN_FOLD = false →
      u.flag F.CONV_EVENT_HORN_ILIM = true) := by
  let fold := s.conv.vsysLow && s.flag F.CONV_STATUS_HORN_ON
  let w : State := if fold && !s.flag F.CONV_STATUS_HORN_FOLD then s.event F.CONV_EVENT_HORN_ILIM else s
  refine ⟨w.setFlag F.CONV_STATUS_HORN_FOLD fold, rfl, ?_, ?_, fun hLow hOn hFold => ?_⟩
  · rw [State.setFlag_conv]
    exact apply_ite State.conv _ _ _ |>.trans (ite_self _)
  · rw [State.flag_setFlag _ _ _ _ (by decide), if_pos rfl]
  · have hw : w = s.event F.CONV_EVENT_HORN_ILIM := if_pos (by simp only [fold, hLow, hOn, hFold, Bool.and_self, Bool.not_false])
    rw [State.flag_setFlag _ _ _ _ (by decide), if_neg (by decide), hw, State.flag_event _ _ _ (by decide), if_pos rfl]

/-- VSYS below 3.0 V or no longer (R150). -/
theorem vsysLadder_gives (s : State) (vsys : Nat) (hs : s.live = true) : Gives (.vsysLadder vsys) s fun t =>
      t.reg R.PATH_VSYS = word16 (vsys / 20) ∧ t.conv.vsysLow = decide (vsys < 3000) ∧
      (t.flag F.CONV_STATUS_HORN_FOLD = (decide (vsys < 3000) && s.flag F.CONV_STATUS_HORN_ON)) ∧
      (vsys < 3000 → t.field F.CONV_STATUS_TET_MODE ≠ 3) ∧
      (vsys < 3000 → s.flag F.CONV_STATUS_HORN_ON → s.flag F.CONV_STATUS_HORN_FOLD = false → t.flag
        F.CONV_EVENT_HORN_ILIM) := by
  refine Gives.of_whenLive rfl hs ?_
  let p : State := s.setReg R.PATH_VSYS (word16 (vsys / 20))
  let q : State := { p with conv := { p.conv with vsysLow := decide (vsys < 3000) } }
  have hQ : Touch [R.PATH_VSYS, 0x1408] s q :=
    Touch.update (State.setReg_touch (Touch.refl _ s) _ _ (.inl (by decide))) (h_conv := .inr (by decide))
  obtain ⟨u, hu, hConv, hFold, hIlim⟩ := q.refreshFold_before_shed
  have hShed := State.refreshShed_touch (Touch.refl State.refreshShed_cells u) (Sub.refl _)
  have hFoldTouch := State.refreshFold_touch (Touch.refl State.refreshFold_cells q) (Sub.refl _)
  have hMove := State.tetMove_touch (Touch.refl State.tetMove_cells q.refreshFold) (Sub.refl _)
  have hLow : q.refreshFold.conv.vsysLow = decide (vsys < 3000) := by
    rw [hu, u.refreshShed_vsysLow, hConv]
  change q.refreshFold.tetMove.reg _ = _ ∧ q.refreshFold.tetMove.conv.vsysLow = _ ∧ q.refreshFold.tetMove.flag _ = _ ∧
    (_ → q.refreshFold.tetMove.field _ ≠ 3) ∧ (_ → _ → _ → q.refreshFold.tetMove.flag _ = true)
  refine ⟨?_, (State.tetMove_vsysLow _).trans hLow, ?_, fun h => ?_, fun h hOn hWas => ?_⟩
  · rw [hMove.reg _ (by decide) (by decide), hFoldTouch.reg _ (by decide) (by decide)]
    exact s.reg_setReg_same _ _
  · rw [State.tetMove_beside _ _ (by decide), hu, hShed.flag _ (by decide), hFold, hQ.flag _ (by decide)]
  · rw [State.tetMove_mode]
    exact State.tetNext_ne_source _ (.inr (by rw [hLow, decide_eq_true h]))
  · rw [State.tetMove_event _ _ (by decide), hu, u.refreshShed_event _ (by decide)]
    exact hIlim (decide_eq_true h) ((hQ.flag _ (by decide)).trans hOn) ((hQ.flag _ (by decide)).trans hWas)

/-! ## VAUX, nRSTO and the KEEP latch (R34, R145, R147) -/

/-- VAUX out of regulation (R34, R145). -/
theorem State.vauxLow_shows (s : State) :
    s.vauxLow.flag F.CONV_STATUS_AUX_OK = false ∧ s.vauxLow.flag F.CONV_EVENT_AUX_UV = true ∧ s.vauxLow.pins.nrsto = false ∧
    s.vauxLow.flag F.ALM_STATUS_VAUXHOLD = true ∧
    (s.flag F.ALM_STATUS_VAUXHOLD = false → s.vauxLow.alm.vauxHold = some s.now ∧ s.vauxLow.alm.vauxLost = false) := by
  let u : State := { (s.setFlag F.CONV_STATUS_AUX_OK false).event F.CONV_EVENT_AUX_UV with
             pins := { s.pins with nrsto := false }, conv := { s.conv with nrstDue := none } }
  have hOk : u.flag F.CONV_STATUS_AUX_OK = false :=
    (State.flag_event _ F.CONV_EVENT_AUX_UV _ (by decide)).trans
      ((if_neg (by decide)).trans ((s.flag_setFlag _ false _ (by decide)).trans (if_pos rfl)))
  have hUv : u.flag F.CONV_EVENT_AUX_UV = true := (State.flag_event _ F.CONV_EVENT_AUX_UV _ (by decide)).trans (if_pos rfl)
  have hHold : u.flag F.ALM_STATUS_VAUXHOLD = s.flag F.ALM_STATUS_VAUXHOLD :=
    (State.flag_event _ F.CONV_EVENT_AUX_UV _ (by decide)).trans
      ((if_neg (by decide)).trans ((s.flag_setFlag _ false _ (by decide)).trans (if_neg (by decide))))
  rw [State.vauxLow]
  by_cases hWas : s.flag F.ALM_STATUS_VAUXHOLD = true
  · rw [if_pos (hHold.trans hWas)]
    exact ⟨hOk, hUv, rfl, hHold.trans hWas, fun h => absurd hWas (by simp [h])⟩
  · rw [if_neg (by rwa [hHold])]
    have hSet (g : Flag) : (u.setFlag F.ALM_STATUS_VAUXHOLD true).flag g = if g = F.ALM_STATUS_VAUXHOLD then true else u.flag g :=
      u.flag_setFlag _ _ _ (by decide)
    exact ⟨(hSet _).trans hOk, (hSet _).trans hUv, rfl, hSet _, fun _ => ⟨rfl, rfl⟩⟩

theorem State.vauxLow_regsKept (s : State) : s.regsKept s.vauxLow [R.CONV_STATUS, R.CONV_EVENT, R.ALM_STATUS] := by
  intro a ha
  simp only [List.mem_cons, List.not_mem_nil, or_false, not_or] at ha
  unfold State.vauxLow
  dsimp only
  split <;> simp [State.reg_setFlag, State.reg_event, ha]

/-- VAUX below 90 % of its setting (R34, R145). -/
theorem vauxUndervoltage_gives (s : State) (vaux : Nat) (hs : s.live = true) (hLow : 10 * vaux < 9 * s.vauxSet) :
    Gives (.vauxUndervoltage vaux) s fun t =>
      t.flag F.CONV_STATUS_AUX_OK = false ∧ t.flag F.CONV_EVENT_AUX_UV ∧ t.pins.nrsto = false ∧
      t.flag F.ALM_STATUS_VAUXHOLD ∧
      (s.flag F.ALM_STATUS_VAUXHOLD = false → t.alm.vauxHold = some s.now ∧ t.alm.vauxLost = false) ∧ t.lgr = s.lgr ∧
      s.regsKept t [R.CONV_STATUS, R.CONV_EVENT, R.ALM_STATUS] := by
  obtain ⟨hOk, hUv, hNrsto, hHold, hNew⟩ := s.vauxLow_shows
  refine Gives.of_when rfl (by rw [hs, decide_eq_true hLow]; rfl) ⟨hOk, hUv, hNrsto, hHold, hNew,
    (State.vauxLow_touch (Touch.refl State.vauxLow_cells s) (Sub.refl _)).lgr (by decide), s.vauxLow_regsKept⟩

/-- VAUX back within its setting for 10 ms (R34, R145). -/
theorem nrstoRelease_gives (s : State) (vaux : Nat) (hs : s.live = true) (hLow : s.pins.nrsto = false) (hFree : s.nrstFree = true)
    (hBack : 9 * s.vauxSet ≤ 10 * vaux) : Gives (.nrstoRelease vaux) s fun t =>
      t.pins.nrsto ∧ t.flag F.CONV_STATUS_AUX_OK ∧ t.flag F.ALM_STATUS_VAUXHOLD = false ∧ t.alm.vauxHold = none ∧
      t.lgr = s.lgr ∧ s.regsKept t [R.CONV_STATUS, R.ALM_STATUS] := by
  refine Gives.of_when rfl (by rw [hs, hLow, hFree, decide_eq_true hBack]; rfl) ⟨rfl, ?_, ?_, rfl, rfl, fun a ha => ?_⟩
  · exact (State.flag_setFlag _ F.ALM_STATUS_VAUXHOLD false _ (by decide)).trans ((if_neg (by decide)).trans
      ((s.flag_setFlag _ true _ (by decide)).trans (if_pos rfl)))
  · exact (State.flag_setFlag _ F.ALM_STATUS_VAUXHOLD false _ (by decide)).trans (if_pos rfl)
  · simp only [List.mem_cons, List.not_mem_nil, or_false, not_or] at ha
    simp [State.nrstRelease, State.reg_setFlag, ha]

/-- VAUX below 50 % of its setting (R145). -/
theorem auxShort_gives (s : State) (vaux : Nat) (hs : s.live = true) (hRetry : s.conv.auxRetry = none) (hOn : s.conv.auxOff = false)
    (hShort : 2 * vaux < s.vauxSet) : Gives (.auxShort vaux) s fun t =>
      t.flag F.CONV_EVENT_AUX_SHORT ∧ t.conv.auxRetry = some (s.now + msTicks 100) ∧ t.pins.nrsto = false ∧
      (s.conv.auxTry = none → s.hands t K.AUX_FAULT (beBytes 2 (volt20 vaux) ++ [byte (s.field F.CONV_AUX_VSEL)])) := by
  refine Gives.of_when rfl (by simp [hs, hRetry, hOn, hShort]) ?_
  let p : State := s.vauxLow.event F.CONV_EVENT_AUX_SHORT
  let payload (u : State) := beBytes 2 (volt20 vaux) ++ [byte (u.field F.CONV_AUX_VSEL)]
  let q : State := if s.sameFault s.conv.auxTry 1 then p.coalesce K.AUX_FAULT else p.post K.AUX_FAULT (payload p)
  have hP : Touch (R.CONV_EVENT :: State.vauxLow_cells) s p :=
    State.event_touch (State.vauxLow_touch (Touch.refl _ s) (Sub.of rfl)) _ (.inl (by decide))
  have hQ : Touch State.post_cells p q :=
    Touch.ite (State.coalesce_touch (Touch.refl _ p) (Sub.of rfl) _) (State.post_touch (Touch.refl _ p) (Sub.refl _) _ _)
  obtain ⟨-, -, hNrsto, -⟩ := s.vauxLow_shows
  change q.flag _ = true ∧ some (q.now + msTicks 100) = _ ∧ q.pins.nrsto = false ∧ (_ → q.lgr = _)
  refine ⟨?_, ?_, ?_, fun hTry => ?_⟩
  · rw [hQ.flag _ (by decide), State.flag_event _ _ _ (by decide), if_pos rfl]
  · rw [hQ.now (by decide), hP.now (by decide)]
  · rw [hQ.pins (by decide)]
    exact hNrsto
  · have hPayload : payload p = payload s := by simp only [payload, hP.field F.CONV_AUX_VSEL (by decide)]
    rw [show q = p.post K.AUX_FAULT (payload p) from if_neg (by rw [hTry]; exact Bool.false_ne_true), hPayload]
    exact (hP.sameIntake (by decide)).post_lgr _ _

/-- VSYS where VAUX goes off or comes back (R145). -/
theorem vauxOff_gives (s : State) (vsys : Nat) (hs : s.live = true) : Gives (.vauxOff vsys) s fun t =>
      (vsys < 2600 → t.conv.auxOff ∧ t.pins.nrsto = false ∧ t.flag F.ALM_STATUS_VAUXHOLD ∧ t.reg R.PATH_VSYS = word16
        (vsys / 20)) ∧
      (2800 ≤ vsys → t.conv.auxOff = false ∧ s.regsKept t [R.PATH_VSYS] ∧ t.reg R.PATH_VSYS = word16 (vsys / 20)) ∧
      (2600 ≤ vsys → vsys < 2800 → t = s) ∧ t.lgr = s.lgr := by
  refine Gives.of_whenLive rfl hs ?_
  obtain ⟨-, -, hNrsto, hHold, -⟩ := s.vauxLow_shows
  by_cases hOff : vsys < 2600
  · rw [if_pos hOff]
    refine ⟨fun _ => ⟨rfl, hNrsto, ?_, State.reg_setReg_same _ _ _⟩, fun h => absurd h (by omega), fun h => absurd h (by omega),
      (State.vauxLow_touch (Touch.refl State.vauxLow_cells s) (Sub.refl _)).lgr (by decide)⟩
    exact (State.flag_setReg_ne _ R.PATH_VSYS _ _ (by decide)).trans hHold
  · by_cases hOn : 2800 ≤ vsys
    · rw [if_neg hOff, if_pos hOn]
      refine ⟨fun h => absurd h hOff, fun _ => ⟨rfl, fun a ha => ?_, State.reg_setReg_same _ _ _⟩,
        fun _ h => absurd h (by omega), rfl⟩
      exact s.reg_setReg_ne _ _ (by simpa using ha)
    · rw [if_neg hOff, if_neg hOn]
      exact ⟨fun h => absurd h hOff, fun h => absurd h hOn, fun _ _ => rfl, rfl⟩

/-- KEEP_OK reads 0 while the KEEP latch is clear (R147). -/
theorem State.convStatus_keepOk_of_keepOff (s : State) (h : s.conv.keepOff = true) :
    bitOf s.convStatus F.CONV_STATUS_KEEP_OK.bit = false := by
  have hOk : s.keepOk = false := by simp [State.keepOk, State.keepOn, h]
  rw [State.convStatus]
  exact (bitOf_setBitOf _ 11 _ 11 (by decide)).trans ((if_pos rfl).trans hOk)

/-- BAT below 1.8 V (R147). -/
theorem keepLatchClear_gives (s : State) (bat : Nat) (hLow : bat < 1800) : Gives (.keepLatchClear bat) s fun t =>
      t.reg R.CONV_KEEP = 0 ∧ t.chg.bat = bat ∧ t.conv.keepOff ∧ bitOf t.convStatus F.CONV_STATUS_KEEP_OK.bit = false ∧
      (s.live → s.flag F.CONV_KEEP_EN → t.flag F.CONV_EVENT_KEEP_UV) ∧ t.lgr = s.lgr := by
  refine Gives.of_when rfl (decide_eq_true hLow) ?_
  let p : State := { s with chg := { s.chg with bat := bat }, conv := { s.conv with keepOff := true, keepMv := 0 } }.setReg
    R.CONV_KEEP 0
  let q : State := if s.flag F.CONV_KEEP_EN then p.event F.CONV_EVENT_KEEP_UV else p
  have hQ : Touch [R.CONV_EVENT] p q := Touch.ite (State.event_touch (Touch.refl _ p) _ (.inl (by decide))) (Touch.refl _ p)
  have hKeep : p.reg R.CONV_KEEP = 0 := State.reg_setReg_same _ _ _
  let t : State := if p.live then q.refreshBatfet else p
  change t.reg _ = 0 ∧ t.chg.bat = bat ∧ t.conv.keepOff = true ∧ bitOf t.convStatus F.CONV_STATUS_KEEP_OK.bit = false ∧
    (s.live = true → s.flag F.CONV_KEEP_EN = true → t.flag F.CONV_EVENT_KEEP_UV = true) ∧ t.lgr = s.lgr
  by_cases hLive : p.live = true
  · have hBatfet : Touch (R.CONV_EVENT :: State.refreshBatfet_cells) p q.refreshBatfet :=
      State.refreshBatfet_touch (hQ.mono (Sub.of rfl)) (Sub.of rfl)
    have hOff : q.refreshBatfet.conv.keepOff = true := congrArg Conv.keepOff (hBatfet.conv (by decide))
    rw [show t = q.refreshBatfet from if_pos hLive]
    refine ⟨(hBatfet.reg _ (by decide) (by decide)).trans hKeep, congrArg Chg.bat (hBatfet.chg (by decide)), hOff,
      State.convStatus_keepOk_of_keepOff _ hOff, fun _ hEn => ?_, hBatfet.lgr (by decide)⟩
    rw [(State.refreshBatfet_touch (Touch.refl State.refreshBatfet_cells q) (Sub.refl _)).flag _ (by decide),
      show q = p.event F.CONV_EVENT_KEEP_UV from if_pos hEn, State.flag_event _ _ _ (by decide), if_pos rfl]
  · rw [show t = p from if_neg hLive]
    exact ⟨hKeep, rfl, rfl, State.convStatus_keepOk_of_keepOff _ rfl, fun h => absurd h hLive, rfl⟩

/-! ## O14 -/

/-- Settles O14: a clause for each command of the converters, in the statement's order. -/
theorem converterTether : Obligations.ConverterTether := by
  unfold Obligations.ConverterTether
  refine ⟨mainRegionChange_gives, tetModeChange_gives, tetSourceFoldback_gives, tetShort_gives, tetSourceRetry_gives, hswOcp_gives,
    hswReclose_gives, vsysLadder_gives, vauxUndervoltage_gives, nrstoRelease_gives, auxShort_gives, fun s hs hDue => ?_,
    vauxOff_gives, keepLatchClear_gives⟩
  exact Gives.of_when rfl (by rw [hs, hDue]; rfl) rfl

end Sys2Proof.Machine
end

section
/-!
SUPPORT. The stores stay in their canonical form: each meaning keeps it, and so does a tick.
-/

namespace Sys2Proof.Machine

theorem exec_canonical {c : Instr} {s t : State} (h : exec c s = .next t) (hs : s.canonical = true) : t.canonical = true :=
  (exec_touch (Touch.refl (exec_cells c) s) c (Sub.refl _) t h).canon hs

theorem State.idle_canonical {s : State} (hs : s.canonical = true) : s.idle.canonical = true :=
  (State.idle_touch (Touch.refl _ s) (Sub.refl _)).canon hs

/-- Settles O3: a step is a tick, or the front command's meaning on the rest of the queue, and the queue is no store. -/
theorem canonicalKept : Obligations.CanonicalKept := by
  unfold Obligations.CanonicalKept
  intro s t hs ht
  cases hq : s.pending with
  | nil =>
    obtain rfl : s.idle = t := by simpa only [step, hq, Host.Outcome.next.injEq] using ht
    exact State.idle_canonical hs
  | cons c l =>
    have hExec : exec c { s with pending := l } = .next t := by simpa only [step, hq] using ht
    exact exec_canonical hExec hs

end Sys2Proof.Machine
end

section
/-!
SUPPORT. Two states that the statements about register accesses and about the image do not leave out: a running core that writes
PAGESEL by the name it has on page 0x01, and a third Port C failure in a check of a copy that a record has called invalid already.
-/

namespace Sys2Proof.Machine

/-! ## PAGESEL has eighteen addresses and one value -/

/-- A running unit whose policy core runs. -/
def coreRuns : State := { State.reset with phase := .run, boot := { Boot.reset with core := true } }

/-- A write to 0x017F goes to PAGESEL (R419), whose value is kept under 0x007F; under 0x017F nothing is kept. -/
theorem pagesel_write_by_page1 :
    (coreRuns.wordsWrite .firmware 0x017F [0x0005] none).reg R.PAGESEL = 0x0005 ∧
    (coreRuns.wordsWrite .firmware 0x017F [0x0005] none).reg 0x017F = 0 := by decide

/-- Refutes O51: its first clause has the register file hold the value under the address written, but PAGESEL, written in coreRuns
by its name 0x017F of page 0x01, holds it under 0x007F alone. -/
theorem not_registerAccess : ¬ Obligations.RegisterAccess := by
  unfold Obligations.RegisterAccess
  rintro ⟨hWrite, -⟩
  obtain ⟨t, ht, hWritten, -⟩ := hWrite coreRuns .firmware 0x017F [0x0005] none (by decide) (by decide) (by decide) (by decide)
    (by decide) (by decide)
  obtain rfl : _ = t := Host.Outcome.next.inj ht
  obtain ⟨-, hKept⟩ := pagesel_write_by_page1
  exact absurd (hKept.symm.trans hWritten) (by decide)

/-! ## A copy that is checked although it is known to be invalid -/

/-- A running unit that checks copy A for the third time on a device that failed twice, both copies having been found invalid and
COPY_DEGRADED clear. No run leads here, for a copy known to be invalid is not checked (R84), but O59 asks its clause of every state. -/
def checksInvalidCopy : State :=
  { State.reset with
    phase := .run,
    boot := { Boot.reset with copyA := ⟨none, some false⟩, copyB := ⟨none, some false⟩, fails0 := 2, checking := some .a } }

/-- Neither copy is recorded as invalid a second time, so nothing sets DEGRADED. -/
theorem third_failure_leaves_degraded_clear {t : State} (h : exec (.portcAttemptFail 0 none) checksInvalidCopy = .next t) :
    t.flag F.CFG_STATUS_DEGRADED = false := by
  obtain rfl : _ = t := Host.Outcome.next.inj h
  decide

/-- Refutes O59: its clause for the third failure of a device in the background check has DEGRADED set for the copy checked, but in
checksInvalidCopy the copy has been called invalid before, and the failure sets nothing. -/
theorem not_startAndImage : ¬ Obligations.StartAndImage := by
  unfold Obligations.StartAndImage
  rintro ⟨-, -, -, -, -, -, -, hThird, -⟩
  obtain ⟨t, ht, -, -, -, -, -, hChecked, -⟩ := hThird checksInvalidCopy 0 none (by decide) (by decide) (by decide)
  obtain ⟨-, hDegraded⟩ := hChecked (by decide) (by decide) .a (by decide)
  exact absurd hDegraded (by rw [third_failure_leaves_degraded_clear ht]; decide)

end Sys2Proof.Machine
end

section
/-!
SUPPORT. The Weighbridge's starts, stops and faults (R177 to R181, R193): what a release leaves as it is, what a stop leaves behind,
and O22.
-/

namespace Sys2Proof.Machine

/-! ## Registers that are kept -/

section
variable {s t u : State} {l : List Nat}

theorem State.regsKept.refl (s : State) (l : List Nat) : s.regsKept s l := fun _ _ => rfl

theorem State.regsKept.trans (h : s.regsKept t l) (h' : t.regsKept u l) : s.regsKept u l := fun a ha => (h' a ha).trans (h a ha)

theorem State.regsKept.mono {m : List Nat} (h : s.regsKept t l) (hlm : l ⊆ m) : s.regsKept t m := fun a ha => h a fun hl => ha (hlm hl)

theorem State.regsKept.setReg (h : s.regsKept t l) {b : Nat} (hb : b ∈ l) (v : Word) : s.regsKept (t.setReg b v) l := by
  intro a ha
  rw [t.reg_setReg_ne b v (by rintro rfl; exact ha hb), h a ha]

end

/-! ## What a release leaves as it is (R177, R193) -/

/-- What holds from before to after a release, whether the record goes out, is held or is dropped: the Weighbridge runs on, its
counters and its failed checks stay, no fault and no event is forgotten, and WB_EVENT is the only register written. -/
structure WbReleasing (s t : State) : Prop where
  run : t.wb.run = s.wb.run
  counters : t.wb.counters = s.wb.counters
  timeBase : t.wb.timeBase = s.wb.timeBase
  starts : t.wb.starts = s.wb.starts
  period : t.wb.period = s.wb.period
  wboFails : t.wb.wboFails = s.wb.wboFails
  resumed : s.wb.resumed = false → t.wb.resumed = false
  faults : ∀ c, c ≠ 6 → (c ∈ t.wb.faults ↔ c ∈ s.wb.faults)
  events : ∀ g, s.flag g = true → t.flag g = true
  regs : s.regsKept t [R.WB_EVENT]
  lgr : t.lgr = s.lgr

theorem WbReleasing.refl (s : State) : WbReleasing s s :=
  ⟨rfl, rfl, rfl, rfl, rfl, rfl, id, fun _ _ => Iff.rfl, fun _ => id, .refl s _, rfl⟩

theorem WbReleasing.trans {s t u : State} (h : WbReleasing s t) (h' : WbReleasing t u) : WbReleasing s u where
  run := h'.run.trans h.run
  counters := h'.counters.trans h.counters
  timeBase := h'.timeBase.trans h.timeBase
  starts := h'.starts.trans h.starts
  period := h'.period.trans h.period
  wboFails := h'.wboFails.trans h.wboFails
  resumed hs := h'.resumed (h.resumed hs)
  faults c hc := (h'.faults c hc).trans (h.faults c hc)
  events g hg := h'.events g (h.events g hg)
  regs := h.regs.trans h'.regs
  lgr := h'.lgr.trans h.lgr

section
variable (s : State)

/-- An event sets its flag and clears none. -/
theorem State.event_flag_of_flag (f : Flag) (hf : f.bit < 16) (g : Flag) (hg : s.flag g = true) : (s.event f).flag g = true := by
  rw [s.flag_event f g hf, hg, ite_self]

theorem State.event_releasing (f : Flag) (hf : f.bit < 16) (hReg : f.reg = R.WB_EVENT) : WbReleasing s (s.event f) :=
  ⟨rfl, rfl, rfl, rfl, rfl, rfl, id, fun _ _ => Iff.rfl, s.event_flag_of_flag f hf,
    (State.regsKept.refl s _).setReg (by simp [hReg]) _, rfl⟩

/-- A free value taken. -/
theorem State.fresh_releasing : WbReleasing s s.fresh.2 :=
  ⟨rfl, rfl, rfl, rfl, rfl, rfl, id, fun _ _ => Iff.rfl, fun _ => id, .refl s _, rfl⟩

theorem State.wbEmit_releasing (typ extra : Nat) (body : List Byte) : WbReleasing s (s.wbEmit typ extra body) :=
  ⟨rfl, rfl, rfl, rfl, rfl, rfl, fun _ => rfl, fun _ _ => Iff.rfl, State.event_flag_of_flag _ F.WB_EVENT_RECORD (by decide),
    (State.event_releasing _ F.WB_EVENT_RECORD (by decide) rfl).regs, rfl⟩

theorem State.wbLast_releasing : WbReleasing s s.wbLast := by
  let u : State := { s.fresh.2 with wb := { s.wb with faults := s.wb.faults ++ [6], ended := true } }
  have hMarked : WbReleasing s u :=
    ⟨rfl, rfl, rfl, rfl, rfl, rfl, id, fun c hc => by simp [u, hc], fun _ => id, .refl s _, rfl⟩
  exact hMarked.trans ((u.wbEmit_releasing _ _ _).trans (State.event_releasing _ F.WB_EVENT_FAULT (by decide) rfl))

theorem State.wbRelease_releasing (typ extra : Nat) (body : List Byte) : WbReleasing s (s.wbRelease typ extra body) := by
  unfold State.wbRelease
  split_ifs
  · exact .refl s
  · exact s.wbLast_releasing
  · exact s.wbEmit_releasing _ _ _
  · exact ⟨rfl, rfl, rfl, rfl, rfl, rfl, id, fun _ _ => Iff.rfl, fun _ => id, .refl s _, rfl⟩

/-- A record that finds its place is no longer the first since a start (R195). -/
theorem State.wbRelease_resumed (typ extra : Nat) (body : List Byte) (hEnded : s.wb.ended = false) (hRoom : s.wb.outq.length < 16)
    (hHeld : s.wb.held = []) : (s.wbRelease typ extra body).wb.resumed = false := by
  have hPlace : (s.wbRoom && s.wb.held.isEmpty) = true := by simp [State.wbRoom, hRoom, hHeld]
  rw [State.wbRelease, if_neg (by simp [hEnded]), if_pos hPlace]
  split_ifs <;> rfl

/-! ## Faults (R181) -/

/-- The fault is listed, its record still to come. -/
def State.wbFaulted (code : Nat) : State := { s with wb := { s.wb with faults := s.wb.faults ++ [code] } }

theorem State.wbFault_of_mem {code : Nat} (h : code ∈ s.wb.faults) : s.wbFault code = s := by
  rw [State.wbFault, if_pos (List.contains_iff_mem.2 h)]

/-- A new fault is listed, shown as an event, and released. -/
theorem State.wbFault_of_notMem {code : Nat} (h : code ∉ s.wb.faults) :
    WbReleasing (s.wbFaulted code) (s.wbFault code) ∧ (s.wbFault code).flag F.WB_EVENT_FAULT = true := by
  rw [State.wbFault, if_neg (by rwa [List.contains_iff_mem])]
  refine ⟨(s.wbFaulted code).fresh_releasing.trans
    ((State.wbRelease_releasing _ _ _ _).trans (State.event_releasing _ F.WB_EVENT_FAULT (by decide) rfl)), ?_⟩
  rw [State.flag_event _ _ _ (by decide), if_pos rfl]

/-- A failed check is one fault until the next start. -/
theorem State.wbFault_shows {code : Nat} (hCode : code ≠ 6) :
    code ∈ (s.wbFault code).wb.faults ∧ (code ∉ s.wb.faults → (s.wbFault code).flag F.WB_EVENT_FAULT = true) ∧
    (code ∈ s.wb.faults → s.wbFault code = s) ∧ (s.wbFault code).lgr = s.lgr ∧ s.regsKept (s.wbFault code) [R.WB_EVENT] := by
  by_cases h : code ∈ s.wb.faults
  · have hSame := s.wbFault_of_mem h
    exact ⟨hSame.symm ▸ h, fun hNot => absurd h hNot, fun _ => hSame, by rw [hSame], hSame.symm ▸ .refl s _⟩
  · obtain ⟨hRest, hFlag⟩ := s.wbFault_of_notMem h
    exact ⟨(hRest.faults code hCode).2 (by simp [State.wbFaulted]), fun _ => hFlag, fun hIn => absurd hIn h, hRest.lgr, hRest.regs⟩

theorem State.wbFault_wboFails (code : Nat) : (s.wbFault code).wb.wboFails = s.wb.wboFails := by
  by_cases h : code ∈ s.wb.faults
  · rw [s.wbFault_of_mem h]
  · exact (s.wbFault_of_notMem h).1.wboFails

/-! ## A start (R180) -/

theorem State.wbMark_eq (bad : Bool) (code : Nat) : s.wbMark bad code =
    { s with wb := { s.wb with faults := s.wb.faults ++ if bad then [code] else [] } } := by
  cases bad
  · simp [State.wbMark]
  · rfl

theorem State.wbMarkRecord_releasing (bad : Bool) (code : Nat) : WbReleasing s (s.wbMarkRecord bad code) := by
  cases bad
  · exact .refl s
  · exact s.fresh_releasing.trans
      ((State.wbRelease_releasing _ _ _ _).trans (State.event_releasing _ F.WB_EVENT_FAULT (by decide) rfl))

/-- The Weighbridge as it has loaded its checkpoint and marked the checks that failed, with no record released yet. -/
def State.wbLoaded (romOk calOk refOk : Bool) : State := (((s.wbLoad).wbMark (!romOk) 1).wbMark (!calOk) 2).wbMark (!refOk) 4

/-- The faults with which a start begins: that of the last number, and those of the checks that failed (R177, R181). -/
def startFaults (ended romOk calOk refOk : Bool) : List Nat :=
  (if ended then [6] else []) ++ (if romOk then [] else [1]) ++ (if calOk then [] else [2]) ++ (if refOk then [] else [4])

theorem mem_startFaults : ∀ ended romOk calOk refOk : Bool, (1 ∈ startFaults ended romOk calOk refOk ↔ romOk = false) ∧
    (2 ∈ startFaults ended romOk calOk refOk ↔ calOk = false) ∧ (4 ∈ startFaults ended romOk calOk refOk ↔ refOk = false) := by
  decide

theorem State.wbLoaded_eq (romOk calOk refOk : Bool) : s.wbLoaded romOk calOk refOk =
    { s.wbLoad with wb := { s.wbLoad.wb with faults := startFaults s.wb.ended romOk calOk refOk } } := by
  simp only [State.wbLoaded, State.wbMark_eq, startFaults, Bool.not_eq_true', ite_not, ← Bool.not_eq_true]
  rfl

/-- WB_START of R180. -/
theorem wbStart_gives (romOk calOk refOk : Bool) (hs : s.live = true) (hStopped : s.wb.run = false) :
    Gives (.wbStart romOk calOk refOk) s fun t =>
      t.wb.run ∧ t.wb.counters = s.wb.ckCounters ∧ t.wb.timeBase = s.wb.ckTime ∧ t.wb.starts = s.wb.starts + 1 ∧
      t.wb.period = 15 ∧ t.flag F.WB_EVENT_RESUMED ∧ (1 ∈ t.wb.faults ↔ romOk = false) ∧
      (2 ∈ t.wb.faults ↔ calOk = false) ∧ (4 ∈ t.wb.faults ↔ refOk = false) ∧
      (s.wb.ended = false → s.wb.outq.length < 16 → s.wb.held = [] → t.wb.resumed = false) := by
  refine Gives.of_when rfl (by rw [hs, hStopped]; rfl) ?_
  let body : List Byte := { s with wb := { s.wb with starts := s.wb.starts + 1 } }.wbResetBody
  let u : State := (s.wbLoaded romOk calOk refOk).wbRelease 8 0 body
  let v : State := u.event F.WB_EVENT_RESUMED
  let t : State := ((v.wbMarkRecord (!romOk) 1).wbMarkRecord (!calOk) 2).wbMarkRecord (!refOk) 4
  have hReset : WbReleasing (s.wbLoaded romOk calOk refOk) u := State.wbRelease_releasing _ _ _ _
  have hRecords : WbReleasing v t :=
    (v.wbMarkRecord_releasing _ _).trans ((State.wbMarkRecord_releasing _ _ _).trans (State.wbMarkRecord_releasing _ _ _))
  have hAll : WbReleasing (s.wbLoaded romOk calOk refOk) t :=
    hReset.trans ((u.event_releasing F.WB_EVENT_RESUMED (by decide) rfl).trans hRecords)
  have hLoaded := s.wbLoaded_eq romOk calOk refOk
  obtain ⟨hRom, hCal, hRef⟩ := mem_startFaults s.wb.ended romOk calOk refOk
  refine ⟨hAll.run.trans (by rw [hLoaded]; rfl), hAll.counters.trans (by rw [hLoaded]; rfl), hAll.timeBase.trans (by rw [hLoaded]; rfl),
    hAll.starts.trans (by rw [hLoaded]; rfl), hAll.period.trans (by rw [hLoaded]; rfl),
    hRecords.events _ ((u.flag_event _ _ (by decide)).trans (if_pos rfl)), (hAll.faults 1 (by decide)).trans (hLoaded ▸ hRom),
    (hAll.faults 2 (by decide)).trans (hLoaded ▸ hCal), (hAll.faults 4 (by decide)).trans (hLoaded ▸ hRef),
    fun hEnded hRoom hHeld => ?_⟩
  · refine hRecords.resumed (State.wbRelease_resumed _ _ _ _ ?_ ?_ ?_) <;> rw [hLoaded] <;> assumption

/-! ## A stop (R178, R180) -/

/-- What a stop leaves of the Weighbridge: the checkpoint store and the outbound queue, and the counters' time. -/
theorem State.wbStop_wb (cause : Nat) : (s.wbStop cause).wb =
    { s.wb with run := false, cause := cause, timeBase := s.wbTime, timeFrom := s.now, resumed := false, wboFails := 0, cell := none,
                seq := none, pend := none, held := [], deferred := none, holdArmed := false, holdDue := none, period := 15,
                periodDue := none, suspSeen := false, cmdDue := none } := by
  unfold State.wbStop
  extract_lets +onlyGivenNames exc u v
  have hTouch : Touch State.sweepOff_cells s u := Touch.ite (State.sweepOff_touch (Touch.refl _ s) (Sub.refl _)) (Touch.refl _ s)
  have hWb : v.wb = s.wb := hTouch.wb (by decide)
  have hNow : v.now = s.now := hTouch.now (by decide)
  simp only [State.wbTime, hWb, hNow]

theorem State.wbMeter_wbTime (m : WbMeter) : (s.wbMeter m).wbTime = s.wbTime := rfl

/-! ## Each command -/

/-- WB_WATCHDOG_EXPIRY of R180. -/
theorem wbWatchdogExpiry_gives (hs : s.live = true) (hRun : s.wb.run = true) : Gives .wbWatchdogExpiry s fun t =>
      t.wb.run = false ∧ t.wb.cause = 3 ∧ t.wb.seq = none ∧ t.wb.held = [] ∧ t.wb.ckCounters = s.wb.ckCounters ∧
      t.wb.ckSeq = s.wb.ckSeq ∧ t.wb.outq = s.wb.outq := by
  refine Gives.of_when rfl (by rw [hs, hRun]; rfl) ?_
  simp only [State.wbStop_wb, and_self]

/-- VWB_BROWNOUT (R61, R178): the checkpoint of a release that it cuts short stands, and its number is skipped. -/
theorem vwbBrownout_gives (mid : Bool) (hs : s.live = true) (hRun : s.wb.run = true) : Gives (.vwbBrownout mid) s fun t =>
      t.wb.run = false ∧ t.wb.cause = 2 ∧ t.wb.seq = none ∧
      (mid = false → t.wb.ckSeq = s.wb.ckSeq ∧ t.wb.ckCounters = s.wb.ckCounters) ∧
      (mid → t.wb.ckSeq = s.wb.seqNum + 1 ∧ t.wb.ckKind = 2) ∧ t.wb.outq = s.wb.outq := by
  refine Gives.of_when rfl (by rw [hs, hRun]; rfl) ?_
  cases mid <;> simp [State.wbStop_wb, State.wbCheckpoint]

/-- WB_WBO_CHECK (R181): the tenth failed check in a row is the fault. -/
theorem wbWboCheck_gives (bad : Bool) (hs : s.live = true) (hRun : s.wb.run = true) : Gives (.wbWboCheck bad) s fun t =>
      (t.wb.wboFails = (if bad then s.wb.wboFails + 1 else 0)) ∧ (9 ≤ s.wb.wboFails → bad → 3 ∈ t.wb.faults) ∧
      (s.wb.wboFails < 9 → t.wb.faults = s.wb.faults) ∧ t.lgr = s.lgr ∧ s.regsKept t [R.WB_EVENT] := by
  refine Gives.of_when rfl (by rw [hs, hRun]; rfl) ?_
  let n : Nat := if bad then s.wb.wboFails + 1 else 0
  let u : State := { s with wb := { s.wb with wboFails := n } }
  have hn : n ≤ s.wb.wboFails + 1 := by simp only [n]; split <;> omega
  have hBad (h : bad = true) : n = s.wb.wboFails + 1 := if_pos h
  let t : State := if 10 ≤ n then u.wbFault 3 else u
  change t.wb.wboFails = n ∧ (_ → _ → 3 ∈ t.wb.faults) ∧ (_ → t.wb.faults = s.wb.faults) ∧ t.lgr = s.lgr ∧ s.regsKept t [R.WB_EVENT]
  by_cases hTen : 10 ≤ n
  · rw [show t = u.wbFault 3 from if_pos hTen]
    obtain ⟨hIn, -, -, hLgr, hRegs⟩ := u.wbFault_shows (code := 3) (by decide)
    exact ⟨u.wbFault_wboFails 3, fun _ _ => hIn, fun h => absurd hTen (by omega), hLgr, hRegs⟩
  · rw [show t = u from if_neg hTen]
    exact ⟨rfl, fun hNine h => absurd (hBad h) (by omega), fun _ => rfl, rfl, .refl s _⟩

end

/-! ## O22 -/

/-- Settles O22: a clause for each command of the Weighbridge's life, in the statement's order. -/
theorem weighbridgeLife : Obligations.WeighbridgeLife := by
  unfold Obligations.WeighbridgeLife
  refine ⟨wbStart_gives, wbWatchdogExpiry_gives, vwbBrownout_gives, fun s m hs hRun => ?_, fun s m hs hRun => ?_, wbWboCheck_gives,
    fun s bad hs hRun hBad => ?_, fun s hs hRun => ?_⟩
  · exact Gives.of_when rfl (by rw [hs, hRun]; rfl) ⟨rfl, rfl, rfl⟩
  · exact Gives.of_when rfl (by rw [hs, hRun]; rfl) ⟨rfl, rfl, s.wbMeter_wbTime m⟩
  · exact Gives.of_when rfl (by rw [hs, hRun, hBad]; rfl) (s.wbFault_shows (by decide))
  · exact Gives.of_when rfl (by rw [hs, hRun]; rfl) (s.wbFault_shows (by decide))

end Sys2Proof.Machine
end

section
/-!
SUPPORT. The Weighbridge's mailbox (R183, R184, R190 to R192): how a write to WB_CMD reaches its command, what the answer in
WB_CMDRES shows, how a trigger starts, waits or is dropped, and O24.
-/

namespace Sys2Proof.Machine

section
variable (s : State)

/-! ## The charger suspended for a sweep (R167, R185) -/

/-- A bit of CHG_STATUS that no change of phase writes. -/
abbrev BesidePhase (g : Flag) : Prop := g.reg = R.CHG_STATUS ∧ 4 ≤ g.bit ∧ g ≠ F.CHG_STATUS_CVSUB ∧ g ≠ F.CHG_STATUS_REDUCED

theorem State.enterPhase_flag (p : Nat) (g : Flag) (hg : BesidePhase g) : (s.enterPhase p).flag g = s.flag g := by
  obtain ⟨hReg, hBit, hCvsub, hReduced⟩ := hg
  have hPhase : (if s.chgSettle.phaseN = p then s.chgSettle
      else (s.chgSettle.setField F.CHG_STATUS_PHASE p).event F.CHG_EVENT_PHASE_CHG).flag g = s.flag g := by
    split
    · rfl
    · rw [State.flag_event _ _ _ (by decide), if_neg (by rintro rfl; exact absurd hReg (by decide))]
      exact s.chgSettle.flag_setField_ne _ _ _ (.inr (.inr hBit))
  unfold State.enterPhase
  dsimp only
  rw [(State.refreshBatfet_touch (Touch.refl State.refreshBatfet_cells _) (Sub.refl _)).flag g (by rw [hReg]; decide),
    (State.refreshIbat_touch (Touch.refl State.refreshIbat_cells _) (Sub.refl _)).flag g (by rw [hReg]; decide),
    State.refreshReduced, State.flag_setFlag _ _ _ _ (by decide), if_neg hReduced]
  refine (State.flag_setFlag _ F.CHG_STATUS_CVSUB false g (by decide)).trans ((if_neg hCvsub).trans ?_)
  generalize (if s.chgSettle.phaseN = p then _ else _) = u at hPhase ⊢
  split_ifs <;> exact hPhase

/-- A cause of suspension shows its bit. -/
theorem State.chgSuspend_flag (g : Flag) (hg : BesidePhase g) (hBit : g.bit < 16) : (s.chgSuspend g).flag g = true := by
  by_cases hSet : s.flag g = true
  · rw [State.chgSuspend, if_pos hSet, hSet]
  · have hTallied : (if g = F.CHG_STATUS_SUSP_ALM ∨ g = F.CHG_STATUS_SUSP_TEMP then (s.setFlag g true).tally K.CHG_SUSPEND
        else s.setFlag g true).flag g = true := by
      have hOwn : (s.setFlag g true).flag g = true := by rw [State.flag_setFlag _ _ _ _ hBit, if_pos rfl]
      split
      · rw [(State.tally_touch (Touch.refl State.tally_cells _) (Sub.refl _) _).flag g (by rw [hg.1]; decide), hOwn]
      · exact hOwn
    unfold State.chgSuspend
    simp only [hSet, Bool.false_eq_true, if_false, Bool.or_eq_true, decide_eq_true_eq]
    generalize (if g = _ ∨ g = _ then _ else _) = u at hTallied ⊢
    split
    · exact hTallied
    · refine State.event_flag_of_flag _ F.CHG_EVENT_SUSPEND (by decide) g ?_
      rw [State.enterPhase_flag _ _ g hg]
      exact hTallied

/-- The excitation begins (R185): its bit and its cause of suspension show, and the Weighbridge is as it was. -/
theorem State.sweepOn_shows : s.sweepOn.flag F.CONV_STATUS_EXC = true ∧ s.sweepOn.flag F.CHG_STATUS_SUSP_SWEEP = true ∧
    s.sweepOn.wb = s.wb := by
  let u : State := s.setFlag F.CONV_STATUS_EXC true
  let v : State := u.chgSuspend F.CHG_STATUS_SUSP_SWEEP
  have hV : Touch (R.CHG_STATUS :: State.chgSuspend_cells) u v :=
    State.chgSuspend_touch (Touch.refl _ u) (Sub.of rfl) _ (.inl (by decide))
  have hClip : Touch State.excClip_cells v s.sweepOn :=
    Touch.ite (Touch.refl _ v) (State.excClip_touch (Touch.refl _ v) (Sub.refl _))
  refine ⟨?_, ?_, (hClip.wb (by decide)).trans (hV.wb (by decide))⟩
  · rw [hClip.flag _ (by decide), hV.flag _ (by decide), State.flag_setFlag _ _ _ _ (by decide), if_pos rfl]
  · rw [hClip.flag _ (by decide), u.chgSuspend_flag _ (by decide) (by decide)]

/-! ## The answer in WB_CMDRES (R192) -/

@[simp] theorem State.cmdResult_wb (code result : Nat) : (s.cmdResult code result).wb = s.wb := by
  unfold State.cmdResult
  dsimp only
  split <;> rfl

@[simp] theorem State.cmdResult_lgr (code result : Nat) : (s.cmdResult code result).lgr = s.lgr := by
  unfold State.cmdResult
  dsimp only
  split <;> rfl

theorem State.cmdResult_eq (code result : Nat) :
    s.cmdResult code result = { s with regs := (s.cmdResult code result).regs } := by
  unfold State.cmdResult
  dsimp only
  split <;> rfl

/-- A field after another field of its register has been written. -/
theorem fieldOf_putFieldOf_above (v : Word) (lo width lo' width' x : Nat) (h : lo + width ≤ lo') :
    fieldOf (putFieldOf v lo' width' x) lo width = fieldOf v lo width := by
  unfold fieldOf
  apply Nat.eq_of_testBit_eq
  intro i
  simp only [Nat.testBit_mod_two_pow, Nat.testBit_div_two_pow, BitVec.testBit_toNat]
  by_cases hi : i < width
  · exact congrArg _ (bitOf_putFieldOf v lo' width' x (i + lo) (.inl (by omega)))
  · simp [hi]

/-- Before the event of a refusal, code and result stand in their fields. -/
theorem State.cmdResult_fields (code result : Nat) (hResult : result < 8) :
    (s.cmdResult code result).field F.WB_CMDRES_CODE = code % 256 ∧ (s.cmdResult code result).field F.WB_CMDRES_RESULT = result := by
  let u : State := (s.setField F.WB_CMDRES_CODE code).setField F.WB_CMDRES_RESULT result
  have hU (f : Field) (hf : f.reg = R.WB_CMDRES) : (s.cmdResult code result).field f = u.field f := by
    rw [State.cmdResult]
    split
    · exact u.field_setFlag_ne F.WB_EVENT_CMD_REJECT true f (by decide) (.inl (by rw [hf]; decide))
    · rfl
  refine ⟨(hU _ rfl).trans ?_, (hU _ rfl).trans ?_⟩
  · rw [State.field, State.reg_setField, if_pos rfl, fieldOf_putFieldOf_above _ _ _ _ _ _ (by decide)]
    exact s.field_setField F.WB_CMDRES_CODE code (by decide)
  · rw [State.field_setField _ _ _ (by decide)]
    exact Nat.mod_eq_of_lt hResult

/-- An accepted command's answer. -/
theorem State.cmdResult_accepts {code result : Nat} (hCode : code < 256) (hResult : result < 3) :
    (s.cmdResult code result).field F.WB_CMDRES_CODE = code ∧ (s.cmdResult code result).field F.WB_CMDRES_RESULT = result ∧
    s.regsKept (s.cmdResult code result) [R.WB_CMDRES] := by
  obtain ⟨hCodeField, hResultField⟩ := s.cmdResult_fields code result (by omega)
  refine ⟨hCodeField.trans (Nat.mod_eq_of_lt hCode), hResultField, ?_⟩
  rw [State.cmdResult, if_neg (by omega)]
  exact ((State.regsKept.refl s _).setReg (by decide) _).setReg (by decide) _

/-- A refused command's answer. -/
theorem State.cmdResult_rejects (code : Nat) {result : Nat} (hResult : 3 ≤ result ∧ result < 8) :
    (s.cmdResult code result).field F.WB_CMDRES_CODE = code % 256 ∧ (s.cmdResult code result).field F.WB_CMDRES_RESULT = result ∧
    (s.cmdResult code result).flag F.WB_EVENT_CMD_REJECT = true ∧
    s.regsKept (s.cmdResult code result) [R.WB_CMDRES, R.WB_EVENT] := by
  obtain ⟨hCodeField, hResultField⟩ := s.cmdResult_fields code result hResult.2
  refine ⟨hCodeField, hResultField, ?_, ?_⟩
  · rw [State.cmdResult, if_pos hResult.1, State.flag_event _ _ _ (by decide), if_pos rfl]
  · rw [State.cmdResult, if_pos hResult.1]
    exact (((State.regsKept.refl s _).setReg (by decide) _).setReg (by decide) _).setReg (by decide) _

/-! ## The end of the discharge of CAPACITY (R189) -/

theorem State.capEnd_none (h : s.wb.seq.all (fun q : WbSeq => q.kind != seqCap || q.relaxFrom.isSome) = true) :
    s.capEnd = (s, false) := by
  unfold State.capEnd
  split
  · rename_i q hq
    rw [hq, Option.all_some, Bool.or_eq_true, bne_iff_ne] at h
    refine if_neg fun ⟨hKind, hRelax⟩ => h.elim (fun hNot => hNot hKind) fun hSome => ?_
    rw [hRelax] at hSome
    exact Bool.false_ne_true hSome
  · rfl

theorem State.capEnd_running {q : WbSeq} (hq : s.wb.seq = some q) (hKind : q.kind = seqCap) (hRelax : q.relaxFrom = none) :
    s.capEnd = ({ s with wb := { s.wb with
      seq := some { q with relaxFrom := some s.now, out := some (s.capOut q) } } }, true) := by
  unfold State.capEnd
  rw [hq]
  exact if_pos ⟨hKind, hRelax⟩

/-! ## A trigger meets the Weighbridge (R183, R184) -/

theorem State.cmdTrigger_start (hBusy : s.wbBusy = false) (code kind arg : Nat) :
    s.cmdTrigger code kind arg = (s.seqStart kind arg).cmdResult code 0 := by
  rw [State.cmdTrigger, State.wbTrigger, hBusy]
  rfl

theorem State.cmdTrigger_latched (hBusy : s.wbBusy = true) (hPend : s.wb.pend = none) (code kind arg : Nat) :
    s.cmdTrigger code kind arg = { s with wb := { s.wb with pend := some (kind, arg) } }.cmdResult code 1 := by
  rw [State.cmdTrigger, State.wbTrigger, hBusy, hPend]
  rfl

theorem State.cmdTrigger_overrun (hBusy : s.wbBusy = true) (hPend : s.wb.pend ≠ none) (code kind arg : Nat) :
    s.cmdTrigger code kind arg = (s.bump R.WB_OVRCNT 1).cmdResult code 2 := by
  rw [State.cmdTrigger, State.wbTrigger, hBusy, Option.isNone_eq_false_iff.2 (Option.isSome_iff_ne_none.2 hPend)]
  rfl

/-- A sequence as it begins (R182). -/
def State.seqNew (kind arg : Nat) : WbSeq :=
  ⟨kind, s.now, arg, s.suspLine, none, s.wb.counters.q, s.wb.counters.e.getD 6 0, 0, 0, none, none, none⟩

/-- Every sequence but SWEEP begins without an effect on the rest of the unit. -/
theorem State.seqBegin_plain {kind : Nat} (hKind : kind ≠ seqSweep) (arg : Nat) :
    s.seqBegin kind arg = { s with wb := { s.wb with seq := some (s.seqNew kind arg) } } := if_neg hKind

theorem State.seqBegin_sweep (arg : Nat) : s.seqBegin seqSweep arg =
    { s with wb := { s.wb with seq := some (s.seqNew seqSweep arg), holdArmed := false, holdDue := none } }.sweepOn := rfl

/-! ## A trigger at its start time (R184, R185, R188, R190) -/

/-- A trigger that meets its conditions begins its sequence. -/
theorem State.seqStart_begins {kind : Nat} (h : kind = seqSnap ∨
    kind = seqSweep ∧ s.suspLine = false ∧ s.flag F.SYS_STATE_FEED = true ∧ s.wb.cell ≠ none ∨
    kind = seqCap ∧ s.flag F.SYS_STATE_PROOF = true ∨
    kind = seqCal ∧ s.flag F.SYS_STATE_SERVICE = true ∧ s.calibrated = false) (arg : Nat) :
    s.seqStart kind arg = s.seqBegin kind arg := by
  rcases h with rfl | ⟨rfl, hSusp, hFeed, hCell⟩ | ⟨rfl, hProof⟩ | ⟨rfl, hService, hCal⟩
  · simp [State.seqStart]
  · simp [State.seqStart, hSusp, hFeed, hCell]
  · simp [State.seqStart, hProof]
  · simp [State.seqStart, hService, hCal]

/-- A trigger whose condition fails is dropped with a notice of the reason. -/
theorem State.seqStart_dropped {kind reason code : Nat} (h :
    kind = seqSweep ∧ s.suspLine = false ∧ s.flag F.SYS_STATE_FEED = false ∧ reason = 1 ∧ code = 2 ∨
    kind = seqSweep ∧ s.suspLine = false ∧ s.flag F.SYS_STATE_FEED = true ∧ s.wb.cell = none ∧ reason = 2 ∧ code = 2 ∨
    kind = seqCap ∧ s.flag F.SYS_STATE_PROOF = false ∧ reason = 3 ∧ code = 3 ∨
    kind = seqCal ∧ s.flag F.SYS_STATE_SERVICE = false ∧ reason = 4 ∧ code = 8) (arg : Nat) :
    s.seqStart kind arg = s.wbNotice reason code := by
  rcases h with ⟨rfl, hSusp, hFeed, rfl, rfl⟩ | ⟨rfl, hSusp, hFeed, hCell, rfl, rfl⟩ | ⟨rfl, hProof, rfl, rfl⟩ |
    ⟨rfl, hService, rfl, rfl⟩
  · simp [State.seqStart, hSusp, hFeed]
  · simp [State.seqStart, hSusp, hFeed, hCell]
  · simp [State.seqStart, hProof]
  · simp [State.seqStart, hService]

/-- A sweep under the suspension becomes the holdoff. -/
theorem State.seqStart_suspended (hSusp : s.suspLine = true) (arg : Nat) : s.seqStart seqSweep arg = s.holdArm := by
  simp [State.seqStart, hSusp]

/-! ## A record finds its place at once, or is held (R193) -/

theorem State.wbRelease_free (h : s.wbFree) (typ extra : Nat) (body : List Byte) :
    s.wbRelease typ extra body = s.wbEmit typ extra body := by
  obtain ⟨-, hEnded, hHeld, hRoom, hLast⟩ := h
  have hPlace : (s.wbRoom && s.wb.held.isEmpty) = true := by simp [State.wbRoom, hRoom, hHeld]
  rw [State.wbRelease, if_neg (by simp [hEnded]), if_pos hPlace, if_neg hLast]

theorem State.wbNotice_releasing (reason code : Nat) : WbReleasing s (s.wbNotice reason code) :=
  (s.wbRelease_releasing _ _ _).trans (State.event_releasing _ F.WB_EVENT_NOTICE (by decide) rfl)

/-- A notice that finds its place goes out at once and is an event (R184, R196). -/
theorem State.wbNotice_free (h : s.wbFree) (reason code : Nat) : s.wbNotice reason code =
    (s.wbEmit 0x0A 0 ([byte reason, byte code] ++ beBytes 3 (s.wbTime % 2 ^ 24))).event F.WB_EVENT_NOTICE := by
  rw [State.wbNotice, s.wbRelease_free h]

theorem State.wbRelease_held (hEnded : s.wb.ended = false) (hFull : 16 ≤ s.wb.outq.length ∨ s.wb.held ≠ []) (typ extra : Nat)
    (body : List Byte) :
    s.wbRelease typ extra body = { s with wb := { s.wb with held := s.wb.held ++ [⟨typ, extra, body⟩] } } := by
  have hPlace : ¬(s.wbRoom && s.wb.held.isEmpty) = true := by
    simp only [State.wbRoom, Bool.and_eq_true, decide_eq_true_eq, List.isEmpty_iff, not_and]
    exact fun hRoom => hFull.resolve_left (by omega)
  rw [State.wbRelease, if_neg (by simp [hEnded]), if_neg hPlace]

end

section
variable {s t : State} {l : List Nat}

theorem State.regsKept.flag (h : s.regsKept t l) (f : Flag) (hf : f.reg ∉ l) : t.flag f = s.flag f := by
  rw [State.flag, h f.reg hf]
  rfl

theorem State.regsKept.regN (h : s.regsKept t l) {a : Nat} (ha : a ∉ l) : t.regN a = s.regN a := by
  rw [State.regN, h a ha]
  rfl

end

section
variable (s : State)

/-! ## A write to WB_CMD (R192) -/

/-- The mailbox busy until then. -/
def State.mailDue (d : Option Nat) : State := { s with wb := { s.wb with cmdDue := d } }

/-- The command, written to a mailbox that is not busy, leads to `v`, but for how long the mailbox is then busy. -/
def Mails (c : Instr) (s v : State) : Prop := ∃ f, exec c s = .next (s.mailWrite f) ∧ f s.fresh.2 = v

end

theorem Gives.of_mails {c : Instr} {s v : State} {P : State → Prop} (h : Mails c s v) (hs : s.live = true) (hRun : s.wb.run = true)
    (hIdle : s.mailBusy = false) (hP : ∀ d, P (v.mailDue d)) : Gives c s P := by
  obtain ⟨f, hExec, rfl⟩ := h
  have hTaken : s.mailWrite f = (f s.fresh.2).mailDue (s.mailWrite f).wb.cmdDue := by
    simp only [State.mailWrite, State.mailbox, hs, hRun, hIdle, Bool.and_self, if_true, Bool.false_eq_true, if_false]
    split <;> rfl
  exact ⟨s.mailWrite f, hExec, hTaken ▸ hP _⟩

section
variable {s : State} {req : Requester}

/-- The mailbox commands are writes to WB_CMD. -/
theorem exec_mailWrite {c : Instr} {code : Nat}
    (hc : c ∈ [Instr.snapshot req, .sweep req, .capBegin req, .capEnd req, .setPeriod req, .setCell req, .wbMailboxIdent req,
      .calibrate req, .wbMailboxReset req, .wbCmdUnknown code]) : ∃ f, exec c s = .next (s.mailWrite f) := by
  simp only [List.mem_cons, List.not_mem_nil, or_false] at hc
  rcases hc with rfl | rfl | rfl | rfl | rfl | rfl | rfl | rfl | rfl | rfl <;> exact ⟨_, rfl⟩

theorem State.mailbox_running (hs : s.live = true) (hRun : s.wb.run = true) (f : State → State) : s.mailbox f = f s := by
  rw [State.mailbox, hs, hRun]
  rfl

/-! ## What the policy core alone may ask for (R191) -/

section
variable (hs : s.live = true) (hRun : s.wb.run = true)
include hs hRun

theorem State.coreCommand_denied (hReq : req ≠ .firmware) (code : Nat) (inRange : Bool) (act : State → State) :
    s.coreCommand req code inRange act = s.cmdResult code 4 := by
  rw [State.coreCommand, State.mailbox_running hs hRun]
  exact if_pos (bne_iff_ne.2 hReq)

theorem State.coreCommand_outOfRange {inRange : Bool} (hRange : inRange = false) (code : Nat) (act : State → State) :
    s.coreCommand .firmware code inRange act = s.cmdResult code 3 := by
  rw [State.coreCommand, State.mailbox_running hs hRun, hRange]
  rfl

theorem State.coreCommand_taken {inRange : Bool} (hRange : inRange = true) (code : Nat) (act : State → State) :
    s.coreCommand .firmware code inRange act = act s := by
  rw [State.coreCommand, State.mailbox_running hs hRun, hRange]
  rfl

/-! ## The triggers (R183, R191) -/

theorem snapshot_mails (hOpen : openRequester req = true) : Mails (.snapshot req) s (s.fresh.2.cmdTrigger 1 seqSnap 0) :=
  ⟨_, rfl, (State.mailbox_running (s := s.fresh.2) hs hRun _).trans (if_pos hOpen)⟩

theorem sweep_mails (hRom : s.romBad = false) : Mails (.sweep .firmware) s (s.fresh.2.cmdTrigger 2 seqSweep 0) :=
  ⟨_, rfl, (State.coreCommand_taken (s := s.fresh.2) hs hRun rfl _ _).trans (if_neg (Bool.eq_false_iff.1 hRom))⟩

theorem capBegin_mails (hRom : s.romBad = false) : Mails (.capBegin .firmware) s (s.fresh.2.cmdTrigger 3 seqCap 0) :=
  ⟨_, rfl, (State.coreCommand_taken (s := s.fresh.2) hs hRun rfl _ _).trans (if_neg (Bool.eq_false_iff.1 hRom))⟩

theorem calibrate_mails (hLeast : 500 ≤ s.regN R.WB_ARG0) (hMost : s.regN R.WB_ARG0 ≤ 2000) (hRom : s.romBad = false)
    (hCal : s.calibrated = false) :
    Mails (.calibrate .firmware) s (s.fresh.2.cmdTrigger 8 seqCal (s.regN R.WB_ARG0)) := by
  refine ⟨_, rfl, (State.coreCommand_taken (s := s.fresh.2) hs hRun (decide_eq_true ⟨hLeast, hMost⟩) _ _).trans (if_neg ?_)⟩
  change ¬(s.romBad || s.calibrated) = true
  rw [hRom, hCal]
  exact Bool.false_ne_true

/-! ## The refusals (R191, R192) -/

theorem notOpen_mails {c : Instr} {code : Nat} (hc : c = .snapshot req ∧ code = 1 ∨ c = .wbMailboxIdent req ∧ code = 7)
    (hOpen : openRequester req = false) : Mails c s (s.fresh.2.cmdResult code 4) := by
  rcases hc with ⟨rfl, rfl⟩ | ⟨rfl, rfl⟩ <;>
    exact ⟨_, rfl, (State.mailbox_running (s := s.fresh.2) hs hRun _).trans (if_neg (Bool.eq_false_iff.1 hOpen))⟩

theorem notCore_mails {c : Instr} {code : Nat} (hc : c = .sweep req ∧ code = 2 ∨ c = .capBegin req ∧ code = 3 ∨
    c = .capEnd req ∧ code = 4 ∨ c = .setPeriod req ∧ code = 5 ∨ c = .setCell req ∧ code = 6 ∨ c = .calibrate req ∧ code = 8 ∨
    c = .wbMailboxReset req ∧ code = 9) (hReq : req ≠ .firmware) : Mails c s (s.fresh.2.cmdResult code 4) := by
  rcases hc with ⟨rfl, rfl⟩ | ⟨rfl, rfl⟩ | ⟨rfl, rfl⟩ | ⟨rfl, rfl⟩ | ⟨rfl, rfl⟩ | ⟨rfl, rfl⟩ | ⟨rfl, rfl⟩ <;>
    exact ⟨_, rfl, State.coreCommand_denied (s := s.fresh.2) hs hRun hReq _ _ _⟩

theorem outOfRange_mails {c : Instr} {code : Nat} (hc : c = .setPeriod .firmware ∧ code = 5 ∧ (s.regN R.WB_ARG0 = 0 ∨
    60 < s.regN R.WB_ARG0) ∨ c = .setCell .firmware ∧ code = 6 ∧ (s.regN R.WB_ARG0 < 10 ∨ s.wb.cell ≠ none) ∨
    c = .calibrate .firmware ∧ code = 8 ∧ (s.regN R.WB_ARG0 < 500 ∨ 2000 < s.regN R.WB_ARG0) ∨
    c = .wbMailboxReset .firmware ∧ code = 9 ∧ s.regN R.WB_ARG0 ≠ 0x5742) : Mails c s (s.fresh.2.cmdResult code 3) := by
  rcases hc with ⟨rfl, rfl, hArg⟩ | ⟨rfl, rfl, hArg⟩ | ⟨rfl, rfl, hArg⟩ | ⟨rfl, rfl, hArg⟩ <;>
    refine ⟨_, rfl, State.coreCommand_outOfRange (s := s.fresh.2) hs hRun ?_ _ _⟩
  · exact decide_eq_false (by change ¬(1 ≤ s.regN R.WB_ARG0 ∧ s.regN R.WB_ARG0 ≤ 60); omega)
  · change (decide (10 ≤ s.regN R.WB_ARG0) && s.wb.cell.isNone) = false
    rcases hArg with hLow | hCell
    · rw [decide_eq_false (by omega), Bool.false_and]
    · rw [Option.isNone_eq_false_iff.2 (Option.isSome_iff_ne_none.2 hCell), Bool.and_false]
  · exact decide_eq_false (by change ¬(500 ≤ s.regN R.WB_ARG0 ∧ s.regN R.WB_ARG0 ≤ 2000); omega)
  · exact beq_eq_false_iff_ne.2 hArg

theorem notPossible_mails {c : Instr} {code : Nat} (hc : c = .sweep .firmware ∧ code = 2 ∧ s.romBad = true ∨
    c = .capBegin .firmware ∧ code = 3 ∧ s.romBad = true ∨ c = .calibrate .firmware ∧ code = 8 ∧ 500 ≤ s.regN R.WB_ARG0 ∧
    s.regN R.WB_ARG0 ≤ 2000 ∧ (s.romBad = true ∨ s.calibrated = true) ∨ c = .capEnd .firmware ∧ code = 4 ∧
    s.wb.seq.all (fun q : WbSeq => q.kind != seqCap || q.relaxFrom.isSome) = true) : Mails c s (s.fresh.2.cmdResult code 7) := by
  rcases hc with ⟨rfl, rfl, hRom⟩ | ⟨rfl, rfl, hRom⟩ | ⟨rfl, rfl, hLeast, hMost, hBad⟩ | ⟨rfl, rfl, hNone⟩
  · exact ⟨_, rfl, (State.coreCommand_taken (s := s.fresh.2) hs hRun rfl _ _).trans (if_pos hRom)⟩
  · exact ⟨_, rfl, (State.coreCommand_taken (s := s.fresh.2) hs hRun rfl _ _).trans (if_pos hRom)⟩
  · refine ⟨_, rfl, (State.coreCommand_taken (s := s.fresh.2) hs hRun (decide_eq_true ⟨hLeast, hMost⟩) _ _).trans (if_pos ?_)⟩
    exact Bool.or_eq_true_iff.2 hBad
  · refine ⟨_, rfl, (State.coreCommand_taken (s := s.fresh.2) hs hRun rfl _ _).trans ?_⟩
    rw [s.fresh.2.capEnd_none hNone]
    rfl

theorem unknown_mails {code : Nat} (hCode : code = 0 ∨ 10 ≤ code) :
    Mails (.wbCmdUnknown code) s (s.fresh.2.cmdResult (code % 256) 5) :=
  ⟨_, rfl, (State.mailbox_running (s := s.fresh.2) hs hRun _).trans (if_neg (by omega))⟩

end
end

section
variable {s w : State} {c : Instr} {code kind arg result : Nat} {P : State → Prop}

/-! ## What a taken command gives -/

section
variable (hs : s.live = true) (hRun : s.wb.run = true) (hIdle : s.mailBusy = false)
include hs hRun hIdle

/-- An accepted command gives what holds wherever its answer shows and the mailbox is busy again. -/
theorem Gives.of_accepted (h : Mails c s (w.cmdResult code result)) (hCode : code < 256) (hResult : result < 3)
    (hP : ∀ t d, t.wb = { w.wb with cmdDue := d } → t.field F.WB_CMDRES_CODE = code → t.field F.WB_CMDRES_RESULT = result →
      t.lgr = w.lgr → w.regsKept t [R.WB_CMDRES] → P t) : Gives c s P := by
  refine Gives.of_mails h hs hRun hIdle fun d => ?_
  obtain ⟨hCodeField, hResultField, hRegs⟩ := w.cmdResult_accepts hCode hResult
  refine hP _ d ?_ hCodeField hResultField (w.cmdResult_lgr code result) hRegs
  rw [State.mailDue, w.cmdResult_wb]

/-- A refused command gives its answer and its event, and nothing else changes. -/
theorem refused_gives (h : Mails c s (s.fresh.2.cmdResult code result)) (hResult : 3 ≤ result ∧ result < 8) :
    Gives c s fun t => t.field F.WB_CMDRES_CODE = code % 256 ∧ t.field F.WB_CMDRES_RESULT = result ∧
      t.flag F.WB_EVENT_CMD_REJECT = true ∧ t = { s with regs := t.regs, free := t.free, wb := { s.wb with cmdDue := t.wb.cmdDue } } ∧
      s.regsKept t [R.WB_CMDRES, R.WB_EVENT] := by
  refine Gives.of_mails h hs hRun hIdle fun d => ?_
  obtain ⟨hCodeField, hResultField, hFlag, hRegs⟩ := s.fresh.2.cmdResult_rejects code hResult
  refine ⟨hCodeField, hResultField, hFlag, ?_, hRegs⟩
  rw [State.cmdResult_eq]
  rfl

/-- A trigger of a sequence other than SWEEP starts it. -/
theorem begins_gives (h : Mails c s (s.fresh.2.cmdTrigger code kind arg)) (hBusy : s.wbBusy = false)
    (hStart : s.fresh.2.seqStart kind arg = s.fresh.2.seqBegin kind arg) (hKind : kind ≠ seqSweep) (hCode : code < 256) :
    Gives c s fun t => t.wb.seq = some (s.seqNew kind arg) ∧ t.field F.WB_CMDRES_CODE = code ∧ t.field F.WB_CMDRES_RESULT = 0 ∧
      t.lgr = s.lgr ∧ s.regsKept t [R.WB_CMDRES] := by
  rw [s.fresh.2.cmdTrigger_start hBusy, hStart, s.fresh.2.seqBegin_plain hKind] at h
  exact Gives.of_accepted hs hRun hIdle h hCode (by decide) fun t d hWb hCodeField hResultField hLgr hRegs =>
    ⟨(congrArg Wb.seq hWb :), hCodeField, hResultField, hLgr, hRegs⟩

/-- While a sequence runs or its result waits, the first trigger is latched and a further one counted. -/
theorem busyTrigger_gives (h : Mails c s (s.fresh.2.cmdTrigger code kind arg)) (hBusy : s.wbBusy = true) (hCode : code < 256) :
    Gives c s fun t => t.wb.seq = s.wb.seq ∧ t.wb.outq = s.wb.outq ∧ t.field F.WB_CMDRES_CODE = code ∧
      (s.wb.pend = none → t.wb.pend = some (kind, arg) ∧ t.field F.WB_CMDRES_RESULT = 1 ∧ t.reg R.WB_OVRCNT = s.reg R.WB_OVRCNT) ∧
      (s.wb.pend ≠ none → t.wb.pend = s.wb.pend ∧ t.regN R.WB_OVRCNT = min (s.regN R.WB_OVRCNT + 1) 0xFFFF ∧
        t.field F.WB_CMDRES_RESULT = 2) ∧ t.lgr = s.lgr ∧ s.regsKept t [R.WB_CMDRES, R.WB_OVRCNT] := by
  by_cases hPend : s.wb.pend = none
  · rw [s.fresh.2.cmdTrigger_latched hBusy hPend] at h
    refine Gives.of_accepted hs hRun hIdle h hCode (by decide) fun t d hWb hCodeField hResultField hLgr hRegs => ?_
    exact ⟨(congrArg Wb.seq hWb :), (congrArg Wb.outq hWb :), hCodeField,
      fun _ => ⟨(congrArg Wb.pend hWb :), hResultField, hRegs _ (by decide)⟩, fun hNot => absurd hPend hNot, hLgr,
      State.regsKept.mono hRegs (by simp)⟩
  · rw [s.fresh.2.cmdTrigger_overrun hBusy hPend] at h
    refine Gives.of_accepted hs hRun hIdle h hCode (by decide) fun t d hWb hCodeField hResultField hLgr hRegs => ?_
    refine ⟨(congrArg Wb.seq hWb :), (congrArg Wb.outq hWb :), hCodeField, fun hNone => absurd hNone hPend,
      fun _ => ⟨(congrArg Wb.pend hWb :), (hRegs.regN (by decide)).trans (State.regN_bump _ _ _), hResultField⟩, hLgr, ?_⟩
    exact ((State.regsKept.refl s _).setReg (by decide) _).trans (State.regsKept.mono hRegs (by simp))

/-- A trigger whose condition fails is dropped with its WB_NOTICE. -/
theorem dropped_gives {reason : Nat} (h : Mails c s (s.fresh.2.cmdTrigger code kind arg)) (hFree : s.wbFree)
    (hSeq : s.wb.seq = none) (hStart : s.fresh.2.seqStart kind arg = s.fresh.2.wbNotice reason code) (hCode : code < 256) :
    Gives c s fun t => t.wb.seq = none ∧
      s.releases t 0x0A 0 ([byte reason, byte code] ++ beBytes 3 (s.wbTime % 2 ^ 24)) ∧
      t.flag F.WB_EVENT_NOTICE = true ∧ t.field F.WB_CMDRES_CODE = code ∧ t.field F.WB_CMDRES_RESULT = 0 ∧ t.lgr = s.lgr ∧
      s.regsKept t [R.WB_CMDRES, R.WB_EVENT] := by
  have hBusy : s.wbBusy = false := by simp [State.wbBusy, hSeq, hFree.2.2.1]
  have hNotice := s.fresh.2.wbNotice_free hFree reason code
  have hKept := (s.fresh.2.wbNotice_releasing reason code).regs
  rw [hNotice] at hKept
  rw [s.fresh.2.cmdTrigger_start hBusy, hStart, hNotice] at h
  refine Gives.of_accepted hs hRun hIdle h hCode (by decide) fun t d hWb hCodeField hResultField hLgr hRegs => ?_
  refine ⟨?_, ⟨?_, ?_⟩, ?_, hCodeField, hResultField, hLgr, ?_⟩
  · rw [hWb]
    exact hSeq
  · rw [hWb]
    rfl
  · rw [hWb]
    rfl
  · rw [hRegs.flag _ (by decide), State.flag_event _ _ _ (by decide), if_pos rfl]
  · exact (State.regsKept.mono hKept (by simp)).trans (State.regsKept.mono hRegs (by simp))

/-- A sweep that may start begins its excitation. -/
theorem sweepBegins_gives (hRom : s.romBad = false) (hBusy : s.wbBusy = false) (hSusp : s.suspLine = false)
    (hFeed : s.flag F.SYS_STATE_FEED = true) (hCell : s.wb.cell ≠ none) : Gives (.sweep .firmware) s fun t =>
      t.wb.seq = some (s.seqNew seqSweep 0) ∧ t.flag F.CONV_STATUS_EXC = true ∧ t.flag F.CHG_STATUS_SUSP_SWEEP = true ∧
      t.field F.WB_CMDRES_CODE = 2 ∧ t.field F.WB_CMDRES_RESULT = 0 := by
  have h := sweep_mails hs hRun hRom
  rw [s.fresh.2.cmdTrigger_start hBusy, s.fresh.2.seqStart_begins (.inr (.inl ⟨rfl, hSusp, hFeed, hCell⟩)),
    s.fresh.2.seqBegin_sweep] at h
  refine Gives.of_accepted hs hRun hIdle h (by decide) (by decide) fun t d hWb hCodeField hResultField _ hRegs => ?_
  obtain ⟨hExc, hSuspended, hKept⟩ := State.sweepOn_shows { s.fresh.2 with
    wb := { s.wb with seq := some (s.seqNew seqSweep 0), holdArmed := false, holdDue := none } }
  exact ⟨(congrArg Wb.seq hWb :).trans (congrArg Wb.seq hKept), (hRegs.flag _ (by decide)).trans hExc,
    (hRegs.flag _ (by decide)).trans hSuspended, hCodeField, hResultField⟩

/-- A sweep under the suspension arms the holdoff. -/
theorem holdoff_gives (hRom : s.romBad = false) (hBusy : s.wbBusy = false) (hSusp : s.suspLine = true) :
    Gives (.sweep .firmware) s fun t =>
      t.wb.holdArmed = true ∧ t.wb.holdDue = none ∧ t.wb.seq = s.wb.seq ∧ t.wb.outq = s.wb.outq ∧
      t.field F.WB_CMDRES_CODE = 2 ∧ t.field F.WB_CMDRES_RESULT = 0 ∧ t.lgr = s.lgr ∧ s.regsKept t [R.WB_CMDRES] := by
  have h := sweep_mails hs hRun hRom
  rw [s.fresh.2.cmdTrigger_start hBusy, s.fresh.2.seqStart_suspended hSusp] at h
  exact Gives.of_accepted hs hRun hIdle h (by decide) (by decide) fun t d hWb hCodeField hResultField hLgr hRegs =>
    ⟨(congrArg Wb.holdArmed hWb :), (congrArg Wb.holdDue hWb :), (congrArg Wb.seq hWb :), (congrArg Wb.outq hWb :), hCodeField,
      hResultField, hLgr, hRegs⟩

/-- CAP_END starts the relaxation of a CAPACITY that discharges. -/
theorem capEnd_gives {q : WbSeq} (hSeq : s.wb.seq = some q) (hKind : q.kind = seqCap) (hRelax : q.relaxFrom = none) :
    Gives (.capEnd .firmware) s fun t =>
      t.wb.seq = some { q with relaxFrom := some s.now, out := some (s.capOut q) } ∧ t.field F.WB_CMDRES_CODE = 4 ∧
      t.field F.WB_CMDRES_RESULT = 0 ∧ t.lgr = s.lgr ∧ s.regsKept t [R.WB_CMDRES] := by
  have h : Mails (.capEnd .firmware) s (s.fresh.2.capEnd.1.cmdResult 4 (if s.fresh.2.capEnd.2 then 0 else 7)) :=
    ⟨_, rfl, State.coreCommand_taken (s := s.fresh.2) hs hRun rfl _ _⟩
  rw [s.fresh.2.capEnd_running hSeq hKind hRelax] at h
  exact Gives.of_accepted (result := 0) hs hRun hIdle h (by decide) (by decide) fun t d hWb hCodeField hResultField hLgr hRegs =>
    ⟨(congrArg Wb.seq hWb :), hCodeField, hResultField, hLgr, hRegs⟩

theorem setPeriod_gives (hLeast : 1 ≤ s.regN R.WB_ARG0) (hMost : s.regN R.WB_ARG0 ≤ 60) : Gives (.setPeriod .firmware) s fun t =>
    t.wb = { s.wb with period := s.regN R.WB_ARG0, cmdDue := t.wb.cmdDue } ∧ t.field F.WB_CMDRES_CODE = 5 ∧
    t.field F.WB_CMDRES_RESULT = 0 ∧ t.lgr = s.lgr ∧ s.regsKept t [R.WB_CMDRES] := by
  have h : Mails (.setPeriod .firmware) s
      ({ s.fresh.2 with wb := { s.wb with period := s.regN R.WB_ARG0 } }.cmdResult 5 0) :=
    ⟨_, rfl, State.coreCommand_taken (s := s.fresh.2) hs hRun (decide_eq_true ⟨hLeast, hMost⟩) _ _⟩
  exact Gives.of_accepted hs hRun hIdle h (by decide) (by decide) fun t d hWb hCodeField hResultField hLgr hRegs =>
    ⟨by rw [hWb], hCodeField, hResultField, hLgr, hRegs⟩

theorem setCell_gives (hLeast : 10 ≤ s.regN R.WB_ARG0) (hCell : s.wb.cell = none) : Gives (.setCell .firmware) s fun t =>
    t.wb = { s.wb with cell := some (s.regN R.WB_ARG0), cmdDue := t.wb.cmdDue } ∧ t.field F.WB_CMDRES_CODE = 6 ∧
    t.field F.WB_CMDRES_RESULT = 0 ∧ t.lgr = s.lgr ∧ s.regsKept t [R.WB_CMDRES] := by
  have hRange : (decide (10 ≤ s.regN R.WB_ARG0) && s.wb.cell.isNone) = true := by
    rw [decide_eq_true hLeast, hCell]
    rfl
  have h : Mails (.setCell .firmware) s
      ({ s.fresh.2 with wb := { s.wb with cell := some (s.regN R.WB_ARG0) } }.cmdResult 6 0) :=
    ⟨_, rfl, State.coreCommand_taken (s := s.fresh.2) hs hRun hRange _ _⟩
  exact Gives.of_accepted hs hRun hIdle h (by decide) (by decide) fun t d hWb hCodeField hResultField hLgr hRegs =>
    ⟨by rw [hWb], hCodeField, hResultField, hLgr, hRegs⟩

/-- IDENT releases WB_IDENT, or holds it while the queue is full. -/
theorem ident_gives {req : Requester} (hOpen : openRequester req = true) : Gives (.wbMailboxIdent req) s fun t =>
    (s.wbFree → s.releases t 7 0 s.identBody) ∧
    ((s.wb.ended = false ∧ (16 ≤ s.wb.outq.length ∨ s.wb.held ≠ [])) →
      t.wb.outq = s.wb.outq ∧ t.wb.held = s.wb.held ++ [⟨7, 0, s.identBody⟩]) ∧
    t.field F.WB_CMDRES_CODE = 7 ∧ t.field F.WB_CMDRES_RESULT = 0 ∧ t.lgr = s.lgr ∧
    s.regsKept t [R.WB_CMDRES, R.WB_EVENT] := by
  have h : Mails (.wbMailboxIdent req) s ((s.fresh.2.wbRelease 7 0 s.identBody).cmdResult 7 0) :=
    ⟨_, rfl, (State.mailbox_running (s := s.fresh.2) hs hRun _).trans (if_pos hOpen)⟩
  refine Gives.of_accepted hs hRun hIdle h (by decide) (by decide) fun t d hWb hCodeField hResultField hLgr hRegs => ?_
  have hReleasing := s.fresh.2.wbRelease_releasing 7 0 s.identBody
  refine ⟨fun hFree => ?_, fun ⟨hEnded, hFull⟩ => ?_, hCodeField, hResultField, hLgr.trans hReleasing.lgr, ?_⟩
  · rw [s.fresh.2.wbRelease_free hFree] at hWb
    exact ⟨(congrArg Wb.seqNum hWb :), (congrArg Wb.outq hWb :)⟩
  · rw [s.fresh.2.wbRelease_held hEnded hFull] at hWb
    exact ⟨(congrArg Wb.outq hWb :), (congrArg Wb.held hWb :)⟩
  · exact (State.regsKept.mono hReleasing.regs (by simp)).trans (State.regsKept.mono hRegs (by simp))

/-- RESET stops the Weighbridge with cause 4; its checkpoint and its queue stay. -/
theorem reset_gives (hArg : s.regN R.WB_ARG0 = 0x5742) : Gives (.wbMailboxReset .firmware) s fun t =>
    t.wb.run = false ∧ t.wb.cause = 4 ∧ t.wb.seq = none ∧ t.wb.ckSeq = s.wb.ckSeq ∧ t.wb.ckCounters = s.wb.ckCounters ∧
    t.wb.outq = s.wb.outq := by
  have h : Mails (.wbMailboxReset .firmware) s (s.fresh.2.wbStop 4) :=
    ⟨_, rfl, State.coreCommand_taken (s := s.fresh.2) hs hRun (beq_iff_eq.2 hArg) _ _⟩
  refine Gives.of_mails h hs hRun hIdle fun d => ?_
  rw [State.mailDue, s.fresh.2.wbStop_wb]
  exact ⟨rfl, rfl, rfl, rfl, rfl, rfl⟩

end

/-- A command written while the mailbox is busy is not taken. -/
theorem notTaken_gives {req : Requester} (hs : s.live = true) (hRun : s.wb.run = true) (hBusy : s.mailBusy = true)
    (hc : c ∈ [Instr.snapshot req, .sweep req, .capBegin req, .capEnd req, .setPeriod req, .setCell req, .wbMailboxIdent req,
      .calibrate req, .wbMailboxReset req, .wbCmdUnknown code]) : Gives c s fun t =>
    t.field F.WB_CMDRES_RESULT = 6 ∧ t.flag F.WB_EVENT_CMD_REJECT = true ∧ t = { s with regs := t.regs } ∧
    s.regsKept t [R.WB_CMDRES, R.WB_EVENT] := by
  obtain ⟨f, hExec⟩ := exec_mailWrite (s := s) hc
  have hRefused : s.mailWrite f = (s.setField F.WB_CMDRES_RESULT 6).event F.WB_EVENT_CMD_REJECT :=
    (State.mailbox_running hs hRun _).trans (if_pos hBusy)
  refine ⟨_, hExec, ?_⟩
  rw [hRefused]
  refine ⟨?_, ?_, rfl, ?_⟩
  · exact (State.field_setFlag_ne _ F.WB_EVENT_CMD_REJECT true F.WB_CMDRES_RESULT (by decide) (.inl (by decide))).trans
      (s.field_setField F.WB_CMDRES_RESULT 6 (by decide))
  · rw [State.flag_event _ _ _ (by decide), if_pos rfl]
  · exact ((State.regsKept.refl s _).setReg (by decide) _).setReg (by decide) _

end

/-- Settles O24, clause by clause from what each command gives: a command reaches the mailbox (Mails), and its answer is added to what
it did (Gives.of_accepted, refused_gives). -/
theorem weighbridgeTriggers : Obligations.WeighbridgeTriggers := by
  unfold Obligations.WeighbridgeTriggers
  refine ⟨?_, ?_, ?_, ?_, ?_, ?_, ?_, ?_, ?_, ?_, ?_, ?_, ?_, ?_, ?_⟩
  · intro s req hs hRun hIdle hOpen hBusy
    exact begins_gives hs hRun hIdle (snapshot_mails hs hRun hOpen) hBusy (s.fresh.2.seqStart_begins (.inl rfl) _) (by decide)
      (by decide)
  · rintro s req hs hRun hIdle rfl hRom hBusy hSusp hFeed hCell
    have hNew : s.seqNew seqSweep 0 = ⟨seqSweep, s.now, 0, false, none, s.wb.counters.q, s.wb.counters.e.getD 6 0, 0, 0, none,
        none, none⟩ := by
      rw [State.seqNew, hSusp]
    exact hNew ▸ sweepBegins_gives hs hRun hIdle hRom hBusy hSusp hFeed hCell
  · rintro s req hs hRun hIdle rfl hRom hBusy hProof
    exact begins_gives hs hRun hIdle (capBegin_mails hs hRun hRom) hBusy
      (s.fresh.2.seqStart_begins (.inr (.inr (.inl ⟨rfl, hProof⟩))) _) (by decide) (by decide)
  · rintro s req hs hRun hIdle rfl hLeast hMost hRom hCal hBusy hService
    exact begins_gives hs hRun hIdle (calibrate_mails hs hRun hLeast hMost hRom hCal) hBusy
      (s.fresh.2.seqStart_begins (.inr (.inr (.inr ⟨rfl, hService, hCal⟩))) _) (by decide) (by decide)
  · rintro s c req kind code arg hs hRun hIdle (⟨rfl, hOpen, rfl, rfl, rfl⟩ | ⟨rfl, hRom, rfl, rfl, rfl⟩ |
      ⟨rfl, hRom, rfl, rfl, rfl⟩ | ⟨rfl, hLeast, hMost, hRom, hCal, rfl, rfl, rfl⟩) hBusy
    · exact busyTrigger_gives hs hRun hIdle (snapshot_mails hs hRun hOpen) hBusy (by decide)
    · exact busyTrigger_gives hs hRun hIdle (sweep_mails hs hRun hRom) hBusy (by decide)
    · exact busyTrigger_gives hs hRun hIdle (capBegin_mails hs hRun hRom) hBusy (by decide)
    · exact busyTrigger_gives hs hRun hIdle (calibrate_mails hs hRun hLeast hMost hRom hCal) hBusy (by decide)
  · rintro s c reason code hs hFree hIdle hSeq hRom (⟨rfl, hSusp, hFeed, rfl, rfl⟩ | ⟨rfl, hSusp, hFeed, hCell, rfl, rfl⟩ |
      ⟨rfl, hProof, rfl, rfl⟩ | ⟨rfl, hLeast, hMost, hCal, hService, rfl, rfl⟩)
    · exact dropped_gives hs hFree.1 hIdle (sweep_mails hs hFree.1 hRom) hFree hSeq
        (s.fresh.2.seqStart_dropped (.inl ⟨rfl, hSusp, hFeed, rfl, rfl⟩) _) (by decide)
    · exact dropped_gives hs hFree.1 hIdle (sweep_mails hs hFree.1 hRom) hFree hSeq
        (s.fresh.2.seqStart_dropped (.inr (.inl ⟨rfl, hSusp, hFeed, hCell, rfl, rfl⟩)) _) (by decide)
    · exact dropped_gives hs hFree.1 hIdle (capBegin_mails hs hFree.1 hRom) hFree hSeq
        (s.fresh.2.seqStart_dropped (.inr (.inr (.inl ⟨rfl, hProof, rfl, rfl⟩))) _) (by decide)
    · exact dropped_gives hs hFree.1 hIdle (calibrate_mails hs hFree.1 hLeast hMost hRom hCal) hFree hSeq
        (s.fresh.2.seqStart_dropped (.inr (.inr (.inr ⟨rfl, hService, rfl, rfl⟩))) _) (by decide)
  · rintro s req hs hRun hIdle rfl hRom hBusy hSusp
    exact holdoff_gives hs hRun hIdle hRom hBusy hSusp
  · intro s c req code result hs hRun hIdle hRefused
    have hMails : Mails c s (s.fresh.2.cmdResult code result) ∧ code < 256 ∧ 3 ≤ result ∧ result < 8 := by
      rcases hRefused with ⟨hc, hOpen, rfl⟩ | ⟨hc, hReq, rfl⟩ | ⟨rfl, ⟨hc, rfl⟩ | ⟨hc, rfl⟩⟩ | ⟨hCode, hByte, rfl, rfl⟩
      · exact ⟨notOpen_mails hs hRun hc hOpen, by omega, by decide⟩
      · exact ⟨notCore_mails hs hRun hc hReq, by omega, by decide⟩
      · exact ⟨outOfRange_mails hs hRun hc, by omega, by decide⟩
      · exact ⟨notPossible_mails hs hRun hc, by omega, by decide⟩
      · have hUnknown := unknown_mails hs hRun hCode
        rw [Nat.mod_eq_of_lt hByte] at hUnknown
        exact ⟨hUnknown, hByte, by decide⟩
    obtain ⟨hMails, hByte, hResult⟩ := hMails
    have hGives := refused_gives hs hRun hIdle hMails hResult
    rwa [Nat.mod_eq_of_lt hByte] at hGives
  · intro s code hs hRun hIdle hCode
    obtain ⟨t, ht, hCodeField, hResultField, hReject, hSame, hRegs⟩ :=
      refused_gives hs hRun hIdle (unknown_mails hs hRun hCode) (by decide)
    exact ⟨t, ht, hCodeField.trans (Nat.mod_mod _ _), hResultField, hReject, hRegs, (congrArg State.lgr hSame :)⟩
  · intro s c req code hs hRun hBusy hc
    exact notTaken_gives hs hRun hBusy hc
  · rintro s req q hs hRun hIdle rfl hSeq hKind hRelax
    exact capEnd_gives hs hRun hIdle hSeq hKind hRelax
  · rintro s req hs hRun hIdle rfl hLeast hMost
    exact setPeriod_gives hs hRun hIdle hLeast hMost
  · rintro s req hs hRun hIdle rfl hLeast hCell
    exact setCell_gives hs hRun hIdle hLeast hCell
  · intro s req hs hRun hIdle hOpen
    exact ident_gives hs hRun hIdle hOpen
  · rintro s req hs hRun hIdle rfl hArg
    exact reset_gives hs hRun hIdle hArg

end Sys2Proof.Machine
end

section
/-!
SUPPORT. The power path (R99 to R130): the qualified bits and the records of a source through a selection, a dropped switch and the
move of the Tether converter, and what the best source rests on.
-/

namespace Sys2Proof.Machine

/-- What neither the choice of a target nor an opened switch writes of the path: losses, arrivals, the main converter's trips, and
the settings the power stage holds. -/
def Path.history (p : Path) : List (Source × Nat) × List (Source × Nat) × List Nat × Bool × List (Nat × Word) :=
  (p.lostAt, p.qualAt, p.mainTrips, p.mainOff, p.held)

section
variable (s : State)

/-! ## One flag after another is written -/

theorem State.flag_setFlag_same (f : Flag) (x : Bool) (hf : f.bit < 16) : (s.setFlag f x).flag f = x :=
  (s.flag_setFlag f x f hf).trans (if_pos rfl)

theorem State.flag_setFlag_ne (f : Flag) (x : Bool) (g : Flag) (h : f.bit < 16 ∧ g ≠ f) : (s.setFlag f x).flag g = s.flag g :=
  (s.flag_setFlag f x g h.1).trans (if_neg h.2)

/-! ## The qualified bits (R100) -/

theorem qFlag_bit_lt (y : Source) : (qFlag y).bit < 4 := by
  cases y <;> decide

theorem qFlag_reg (y : Source) : (qFlag y).reg = R.SRC_STATUS := by
  cases y <;> rfl

theorem State.setFlag_qualified (f : Flag) (x : Bool) (y : Source) (hf : f.bit < 16 ∧ (f.reg = R.SRC_STATUS → 4 ≤ f.bit)) :
    (s.setFlag f x).qualified y = s.qualified y := by
  have hNe : qFlag y ≠ f := fun e => by
    have hLow := hf.2 (e ▸ qFlag_reg y)
    have hBit := qFlag_bit_lt y
    rw [e] at hBit
    omega
  exact s.flag_setFlag_ne f x _ ⟨hf.1, hNe⟩

theorem State.setField_qualified (f : Field) (x : Nat) (y : Source) (hf : 4 ≤ f.lo) :
    (s.setField f x).qualified y = s.qualified y :=
  s.flag_setField_ne f x _ (.inr (.inl (Nat.lt_of_lt_of_le (qFlag_bit_lt y) hf)))

theorem Touch.qualified {W : List Nat} {s t : State} (h : Touch W s t) (hW : R.SRC_STATUS ∉ W ∧ 0x1430 ∉ W) (y : Source) :
    t.qualified y = s.qualified y := h.flag (qFlag y) (by rwa [qFlag_reg])

/-! ## The move of the Tether converter (R141) -/

theorem State.setTetMode_qualified (m : Nat) (y : Source) : (s.setTetMode m).qualified y = s.qualified y := by
  let v := (s.setField F.CONV_STATUS_TET_MODE m).setFlag F.SRC_STATUS_TET_SINK (m == 2)
  let w := if m = s.field F.CONV_STATUS_TET_MODE then v else v.setReg R.CONV_TET_I 0
  have hw : Touch [R.CONV_TET_I] v w := Touch.ite (.refl _ v) (State.setReg_touch (.refl _ v) _ _ (.inl (by decide)))
  have hShed (u : State) := State.refreshShed_touch (Touch.refl State.refreshShed_cells u) (Sub.refl _)
  calc (s.setTetMode m).qualified y = w.qualified y := (hShed _).qualified (by decide) y
    _ = v.qualified y := hw.qualified (by decide) y
    _ = s.qualified y := (State.setFlag_qualified _ _ _ y (by decide)).trans (s.setField_qualified _ m y (by decide))

theorem State.tetMove_qualified (y : Source) : s.tetMove.qualified y = s.qualified y := by
  unfold State.tetMove
  split
  · rfl
  · rw [(State.refreshFeed_touch (Touch.refl State.refreshFeed_cells _) (Sub.refl _)).qualified (by decide),
      State.setTetMode_qualified]

theorem State.powerChanged_qualified (y : Source) : s.powerChanged.qualified y = s.qualified y := by
  unfold State.powerChanged
  rw [(State.shipCheck_touch (Touch.refl State.shipCheck_cells _) (Sub.refl _)).qualified (by decide), State.tetMove_qualified,
    (State.refreshFeed_touch (Touch.refl State.refreshFeed_cells _) (Sub.refl _)).qualified (by decide)]

/-! ## The target (R105, R113, R116) -/

theorem State.dischStart_path : ∃ d, s.dischStart.path = { s.path with dischDue := d } := by
  unfold State.dischStart
  split
  · exact ⟨_, rfl⟩
  · split
    · exact ⟨_, rfl⟩
    · exact ⟨_, rfl⟩

theorem State.dischStart_qualified (y : Source) : s.dischStart.qualified y = s.qualified y := by
  unfold State.dischStart
  split
  · rfl
  · split
    · rfl
    · exact s.setFlag_qualified F.SRC_STATUS_DISCH true y (by decide)

theorem State.noTarget_qualified (y : Source) : s.noTarget.qualified y = s.qualified y :=
  s.setFlag_qualified F.SRC_STATUS_DISCH false y (by decide)

/-- The choice makes the best source the target, and neither a switch nor what has happened is touched. -/
theorem State.choose_path (old : Option Source) (planned : Bool) : (s.choose old planned).path.target = s.bestSource ∧
    (s.choose old planned).path.closed = s.path.closed ∧ (s.choose old planned).path.history = s.path.history := by
  unfold State.choose
  cases s.bestSource with
  | none => exact ⟨rfl, rfl, rfl⟩
  | some x =>
    let u : State := { s.noTarget with path := { s.noTarget.path with target := some x, old := old, planned := planned } }
    obtain ⟨d, hPath⟩ := u.dischStart_path
    change u.dischStart.path.target = _ ∧ u.dischStart.path.closed = _ ∧ u.dischStart.path.history = _
    rw [hPath]
    exact ⟨rfl, rfl, rfl⟩

theorem State.choose_qualified (old : Option Source) (planned : Bool) (y : Source) :
    (s.choose old planned).qualified y = s.qualified y := by
  unfold State.choose
  split
  · exact (State.dischStart_qualified _ y).trans (s.noTarget_qualified y)
  · exact s.noTarget_qualified y

theorem State.retargetPlanned_path :
    s.retargetPlanned.path.closed = s.path.closed ∧ s.retargetPlanned.path.history = s.path.history := by
  unfold State.retargetPlanned
  split
  · split
    · exact ⟨rfl, rfl⟩
    · exact ⟨rfl, rfl⟩
  · exact ⟨rfl, rfl⟩

theorem State.retargetPlanned_qualified (y : Source) : s.retargetPlanned.qualified y = s.qualified y := by
  unfold State.retargetPlanned
  split
  · split
    · exact s.noTarget_qualified y
    · rfl
  · exact s.noTarget_qualified y

theorem State.refreshPending_qualified (y : Source) : s.refreshPending.qualified y = s.qualified y :=
  s.setFlag_qualified F.SRC_STATUS_PENDING _ y (by decide)

theorem State.reselect_history : s.reselect.path.history = s.path.history := by
  unfold State.reselect
  dsimp only
  change (if s.path.closing = true then s else _).path.history = _
  split
  · rfl
  · split
    · split
      · rfl
      · exact (s.choose_path none false).2.2
    · split
      · rfl
      · split
        · exact s.retargetPlanned_path.2
        · exact (s.choose_path _ _).2.2

theorem State.reselect_qualified (y : Source) : s.reselect.qualified y = s.qualified y := by
  unfold State.reselect
  dsimp only
  rw [State.refreshPending_qualified]
  split
  · rfl
  · split
    · split
      · rfl
      · exact s.choose_qualified _ _ y
    · split
      · rfl
      · split
        · exact s.retargetPlanned_qualified y
        · exact s.choose_qualified _ _ y

/-- With no switch closed or prepared the best source is the target. -/
theorem State.reselect_target (hClosed : s.path.closed = none) (hTarget : s.path.target = none)
    (hClosing : s.path.closing = false) : s.reselect.path.target = s.bestSource := by
  have hChosen : s.reselect = (s.choose none false).refreshPending := by simp [State.reselect, hClosed, hTarget, hClosing]
  rw [hChosen]
  exact (s.choose_path none false).1

/-! ## What the best source rests on (R64, R105) -/

/-- Where the power stage holds the same settings, a register that is kept counts for it as before. -/
theorem State.power_reg_congr {s t : State} (hHeld : t.path.held = s.path.held) {a : Nat} (hReg : t.reg a = s.reg a) :
    t.power.reg a = s.power.reg a := by
  have hFold (held l l' : List (Nat × Word)) (h : regGet l' a = regGet l a) :
      regGet (held.foldl (fun l p => regPut l p.1 p.2) l') a = regGet (held.foldl (fun l p => regPut l p.1 p.2) l) a := by
    induction held generalizing l l' with
    | nil => exact h
    | cons p held ih => exact ih _ _ (by rw [regGet_regPut, regGet_regPut, h])
  change regGet (t.path.held.foldl _ t.regs) a = regGet (s.path.held.foldl _ s.regs) a
  rw [hHeld]
  exact hFold _ _ _ hReg

theorem Touch.bestSource {W : List Nat} {s t : State} (h : Touch W s t)
    (hW : ∀ a ∈ [R.SRC_EN, R.SRC_RANK, R.THM_STATUS, 0x1430], a ∉ W) (hHistory : t.path.history = s.path.history)
    (hQualified : ∀ y, t.qualified y = s.qualified y) : t.bestSource = s.bestSource := by
  have hAny : 0x1430 ∉ W := hW _ (by simp)
  have hOff : t.path.mainOff = s.path.mainOff := congrArg (·.2.2.2.1) hHistory
  have hHeld : t.path.held = s.path.held := congrArg (·.2.2.2.2) hHistory
  have hPower (a : Nat) (ha : a ∉ W) : t.power.reg a = s.power.reg a := State.power_reg_congr hHeld (h.reg a ha hAny)
  have hRank : t.rank = s.rank := by
    simp only [State.rank, State.field, hPower R.SRC_RANK (hW _ (by simp))]
  have hEnabled (y : Source) : t.enabled y = s.enabled y := by
    have hPart : t.power.part = s.power.part := h.part
    simp only [State.enabled, State.srcEn, hPart, hPower R.SRC_EN (hW _ (by simp))]
  simp only [State.bestSource, hOff, h.flag F.THM_STATUS_COOLING ⟨hW _ (by simp), hAny⟩, hRank, hEnabled, hQualified]

end
end Sys2Proof.Machine
end

section
/-!
SUPPORT. A source that qualifies (R101 to R105): what it shows before the selection follows, and O15.
-/

namespace Sys2Proof.Machine

section
variable (s : State) (x : Source) (mv : Nat)

/-- A source shown as qualified, its SRC_ARRIVE handed over, before the selection follows. -/
def State.arrived : State :=
  let u := (((s.setVolt x mv).setFlag (qFlag x) true).event (arrFlag x)).post K.SRC_ARRIVE ([byte x.code] ++ beBytes 2 (volt20 mv))
  { u with path := { u.path with qualAt := (u.path.qualAt.filter fun p : Source × Nat => p.1 != x) ++ [(x, u.now)] } }

theorem State.qualify_eq : s.qualify x mv = (s.arrived x mv).reselect.powerChanged := rfl

/-- The registers that the arrival of a source writes before its record is handed over. -/
def arrivalRegs : List Nat := [R.SRC_STATUS, R.SRC_EVENT, R.SRC_VIN_V, R.SRC_VBUS_V, R.SRC_VPV_V, R.SRC_VTET_V]

/-- What the selection and the power state that follow an arrival may write. -/
def selectionCells : List Nat := State.reselect_cells ++ State.powerChanged_cells

theorem State.selection_touch : Touch selectionCells s s.reselect.powerChanged :=
  State.powerChanged_touch (State.reselect_touch (.refl _ s) (Sub.of rfl)) (Sub.of rfl)

theorem State.selection_qualified (y : Source) : s.reselect.powerChanged.qualified y = s.qualified y :=
  (State.powerChanged_qualified _ y).trans (s.reselect_qualified y)

theorem State.powerChanged_path : s.powerChanged.path = s.path :=
  (State.powerChanged_touch (Touch.refl State.powerChanged_cells s) (Sub.refl _)).path (by decide)

theorem State.selection_history : s.reselect.powerChanged.path.history = s.path.history := by
  rw [State.powerChanged_path, s.reselect_history]

theorem State.selection_stay : RecordsStay s s.reselect.powerChanged :=
  ((State.reselect_touch (Touch.refl State.reselect_cells s) (Sub.refl _)).recordsStay (by decide)).trans
    (State.powerChanged_stay _)

/-- With no switch closed or prepared, the selection prepares the best source of the state that follows. -/
theorem State.selection_target (hClosed : s.path.closed = none) (hTarget : s.path.target = none)
    (hClosing : s.path.closing = false) : s.reselect.powerChanged.path.target = s.reselect.powerChanged.bestSource := by
  rw [s.selection_touch.bestSource (by decide) s.selection_history s.selection_qualified, State.powerChanged_path,
    s.reselect_target hClosed hTarget hClosing]

/-! ## The arrival (R101, R104) -/

/-- What an arrival shows, by field. -/
structure Arrives (s t : State) (x : Source) (mv : Nat) : Prop where
  qualified : t.qualified x = true
  shown : t.reg (voltReg x) = word16 (volt20 mv)
  event : t.flag (arrFlag x) = true
  noted : (x, s.now) ∈ t.path.qualAt
  closed : t.path.closed = s.path.closed
  target : t.path.target = s.path.target
  closing : t.path.closing = s.path.closing
  recorded : s.roomFor K.SRC_ARRIVE → t.holds K.SRC_ARRIVE ([byte x.code] ++ beBytes 2 (volt20 mv))

theorem voltReg_ne_status (x : Source) : voltReg x ≠ R.SRC_STATUS ∧ voltReg x ≠ R.SRC_EVENT := by
  cases x <;> decide

theorem State.arrived_arrives : Arrives s (s.arrived x mv) x mv := by
  let p := s.setVolt x mv
  let q := p.setFlag (qFlag x) true
  let u := q.event (arrFlag x)
  let v := u.post K.SRC_ARRIVE ([byte x.code] ++ beBytes 2 (volt20 mv))
  have hv : Touch State.post_cells u v := State.post_touch (.refl _ u) (Sub.refl _) _ _
  have hu : Touch arrivalRegs s u := by
    refine State.event_touch (State.setFlag_touch (State.setVolt_touch (.refl _ s) (Sub.of rfl) x mv) _ _ (.inl ?_)) _ (.inl ?_)
    · rw [qFlag_reg]; decide
    · cases x <;> decide
  have hBit : (qFlag x).bit < 16 ∧ (arrFlag x).bit < 16 ∧ qFlag x ≠ arrFlag x := by cases x <;> decide
  obtain ⟨hqBit, haBit, hne⟩ := hBit
  have hPath : v.path.closed = s.path.closed ∧ v.path.target = s.path.target ∧ v.path.closing = s.path.closing := by
    rw [hv.path (by decide), hu.path (by decide)]
    exact ⟨rfl, rfl, rfl⟩
  obtain ⟨hClosed, hTarget, hClosing⟩ := hPath
  have hNow : v.now = s.now := (hv.now (by decide)).trans (hu.now (by decide))
  refine ⟨?_, ?_, ?_, ?_, hClosed, hTarget, hClosing, fun hRoom => ?_⟩
  · change v.qualified x = true
    rw [hv.qualified (by decide)]
    exact (q.flag_event _ _ haBit).trans ((if_neg hne).trans ((p.flag_setFlag _ true _ hqBit).trans (if_pos rfl)))
  · obtain ⟨hStatus, hEvent⟩ := voltReg_ne_status x
    change v.reg (voltReg x) = _
    have hOut : voltReg x ∉ State.post_cells := by cases x <;> decide
    rw [hv.reg _ hOut (by decide)]
    have hArr : (arrFlag x).reg = R.SRC_EVENT := by cases x <;> rfl
    exact (q.reg_event _ _).trans ((if_neg (by rwa [hArr])).trans ((p.reg_setFlag _ true _).trans
      ((if_neg (by rwa [qFlag_reg])).trans (s.reg_setReg_same _ _))))
  · change v.flag (arrFlag x) = true
    rw [hv.flag _ (by cases x <;> decide)]
    exact (q.flag_event _ _ haBit).trans (if_pos rfl)
  · change (x, s.now) ∈ _ ++ [(x, v.now)]
    simp [hNow]
  · exact u.post_holds _ _ ((hu.sameIntake (by decide)).roomFor hRoom)

end

/-! ## O15 -/

/-- What the selection leaves of an arrival. -/
theorem State.qualify_shows (s : State) (x : Source) (mv : Nat) :
    (s.qualify x mv).qualified x ∧ (s.qualify x mv).reg (voltReg x) = word16 (volt20 mv) ∧ (s.qualify x mv).flag (arrFlag x) ∧
      (x, s.now) ∈ (s.qualify x mv).path.qualAt ∧
      (s.roomFor K.SRC_ARRIVE → (s.qualify x mv).holds K.SRC_ARRIVE ([byte x.code] ++ beBytes 2 (volt20 mv))) ∧
      (s.path.closed = none → s.path.target = none → s.path.closing = false →
        (s.qualify x mv).path.target = (s.qualify x mv).bestSource) := by
  rw [s.qualify_eq]
  have hArrives := s.arrived_arrives x mv
  generalize s.arrived x mv = u at hArrives ⊢
  have hTouch := u.selection_touch
  have hQualAt : u.reselect.powerChanged.path.qualAt = u.path.qualAt := congrArg (·.2.1) u.selection_history
  refine ⟨(u.selection_qualified x).trans hArrives.qualified, ?_, ?_, ?_, fun hRoom => ?_, fun hClosed hTarget hClosing => ?_⟩
  · rw [hTouch.reg _ (by cases x <;> decide) (by decide), hArrives.shown]
  · rw [hTouch.flag _ (by cases x <;> decide), hArrives.event]
  · rw [hQualAt]
    exact hArrives.noted
  · exact u.selection_stay.holds (hArrives.recorded hRoom)
  · exact u.selection_target (hArrives.closed.trans hClosed) (hArrives.target.trans hTarget) (hArrives.closing.trans hClosing)

/-- The Tether's wait after a cut-off is the market's alone. -/
theorem State.cutoffWait_eq (s : State) (x : Source) : ∃ m, s.cutoffWait x = { s with mkt := m } := by
  unfold State.cutoffWait
  split
  · exact ⟨_, rfl⟩
  · exact ⟨s.mkt, rfl⟩

/-- Settles O15: what an arrival shows stays through the selection and the change of power, and the source prepared is the best one
of the state that both lead to. -/
theorem sourceQualifies : Obligations.SourceQualifies := by
  unfold Obligations.SourceQualifies
  intro s x mv ticks hs hNot hRested hWindow hHold
  refine Gives.of_when rfl (by simp [hs, hNot, hRested, hWindow, hHold]) ?_
  obtain ⟨m, hm⟩ := s.cutoffWait_eq x
  rw [hm]
  exact State.qualify_shows { s with mkt := m } x mv

end Sys2Proof.Machine
end

section
/-!
SUPPORT. A source that is lost (R101, R102, R104, R123, R328): what its loss notes, what the ports, the switches and the power state
that follow leave of it, what a comparator's trip adds, and O16.
-/

namespace Sys2Proof.Machine

section
variable (s : State) (x : Source)

/-! ## The ports at a loss of VBUS (R103, R376) -/

theorem State.svcCloseOn_stay (on : Transport → Bool) (cause : Nat) : RecordsStay s (s.svcCloseOn on cause) := by
  have hOverlay (u : State) : (u.setOverlay F.SYS_STATE_SERVICE false).lgr = u.lgr :=
    (State.setOverlay_touch (Touch.refl (R.SYS_STATE :: State.setOverlay_cells) u) (Sub.of rfl) _ _ (.inl (by decide))).lgr
      (by decide)
  have hClose : RecordsStay s (s.svcClose cause) := by
    unfold State.svcClose
    split
    · exact .refl s
    · refine RecordsStay.trans (.of_lgr ?_) (State.post_stay _ _ _)
      exact hOverlay _
  unfold State.svcCloseOn
  split
  · exact .ite hClose (.refl s)
  · exact .refl s

/-- The ports give up VBUS before the session that it carried closes. -/
theorem State.vbusGone_before_close : ∃ u : State,
    s.vbusGone = (u.svcCloseOn (fun t : Transport => t != .optical) closeDetach).usbRefresh ∧ u.lgr = s.lgr ∧
      u.path = { s.path with vbusBlocked := true } :=
  ⟨_, rfl, rfl, rfl⟩

theorem State.vbusGone_stay : RecordsStay s s.vbusGone := by
  obtain ⟨u, hu, hLgr, -⟩ := s.vbusGone_before_close
  rw [hu]
  exact (RecordsStay.of_lgr hLgr).trans ((u.svcCloseOn_stay _ _).trans
    ((State.usbRefresh_touch (Touch.refl State.usbRefresh_cells _) (Sub.refl _)).recordsStay (by decide)))

theorem State.vbusGone_path : s.vbusGone.path = { s.path with vbusBlocked := true } := by
  obtain ⟨u, hu, -, hPath⟩ := s.vbusGone_before_close
  rw [hu, (State.usbRefresh_touch (Touch.refl State.usbRefresh_cells _) (Sub.refl _)).path (by decide),
    (State.svcCloseOn_touch (Touch.refl State.svcCloseOn_cells u) (Sub.refl _) _ _).path (by decide), hPath]

theorem State.shipRefuse_stay (cause : Nat) (req : Requester) : RecordsStay s (s.shipRefuse cause req) :=
  RecordsStay.trans (.of_lgr (by rfl))
    ((State.post_stay (s.event F.SYS_EVENT_SHIP_REFUSED) _ _).trans (State.shipRequestsDone_stay _ _ _ _))

theorem State.shipArmCheck_stay : RecordsStay s s.shipArmCheck := by
  have hDrop : RecordsStay s s.shipDrop := by
    unfold State.shipDrop
    split
    · exact .refl s
    · exact .trans (.of_lgr (by rfl)) (State.shipRefuse_stay _ _ _)
  exact .ite hDrop (.refl s)

/-! ## The switch that opens (R115, R116) -/

theorem State.openSwitch_path : s.openSwitch.path = { s.path with closed := none, ocDue := none, ocNext := none } := rfl

theorem State.mainStop_qualified (y : Source) : s.mainStop.qualified y = s.qualified y := by
  unfold State.mainStop
  dsimp only
  rw [(State.setReg_touch (Touch.refl [R.SRC_IIN] _) _ _ (.inl (by decide))).qualified (by decide)]
  iterate 5 rw [State.setFlag_qualified _ _ _ y (by decide)]

theorem State.openSwitch_qualified (y : Source) : s.openSwitch.qualified y = s.qualified y := by
  let u : State := s.mainStop.setField F.SRC_STATUS_ACTIVE 0
  have hPath : Touch [0x1407] u s.openSwitch := Touch.update (.refl _ u) (h_path := .inr (by decide))
  rw [hPath.qualified (by decide), State.setField_qualified _ _ _ y (by decide), State.mainStop_qualified]

theorem State.dropSwitch_qualified (y : Source) : (s.dropSwitch x).qualified y = s.qualified y := by
  unfold State.dropSwitch
  split
  · rw [State.choose_qualified, State.openSwitch_qualified]
  · split
    · split
      · exact s.retargetPlanned_qualified y
      · exact s.choose_qualified _ _ y
    · rfl

/-- The switch of the source is not closed afterwards, and what has happened stays noted. -/
theorem State.dropSwitch_path : (s.dropSwitch x).path.closed ≠ some x ∧ (s.dropSwitch x).path.history = s.path.history := by
  unfold State.dropSwitch
  split
  case isTrue hClosed =>
    obtain ⟨-, hOpen, hHistory⟩ := s.openSwitch.choose_path (some x) false
    rw [hOpen, hHistory, s.openSwitch_path]
    exact ⟨nofun, rfl⟩
  case isFalse hClosed =>
    split
    · split
      · obtain ⟨hSame, hHistory⟩ := s.retargetPlanned_path
        exact ⟨by rwa [hSame], hHistory⟩
      · obtain ⟨-, hSame, hHistory⟩ := s.choose_path s.path.old s.path.planned
        exact ⟨by rwa [hSame], hHistory⟩
    · exact ⟨hClosed, rfl⟩

/-! ## What follows a loss -/

/-- What follows once a loss is noted: the ports at a loss of VBUS, the switch, the power state and the charger's verdicts. -/
def State.afterLoss : State :=
  let u := if x = .vbus then s.vbusGone else s
  let v := (((u.dropSwitch x).refreshPending).powerChanged).chgVerdict
  if x = .vbus then v.shipArmCheck else v

def State.afterLoss_cells : List Nat :=
  State.vbusGone_cells ++ State.dropSwitch_cells ++ State.powerChanged_cells ++ State.chgVerdict_cells ++ State.shipArmCheck_cells

theorem State.afterLoss_touch : Touch State.afterLoss_cells s (s.afterLoss x) := by
  have hPorts : Touch State.afterLoss_cells s (if x = .vbus then s.vbusGone else s) :=
    Touch.ite (State.vbusGone_touch (.refl _ s) (Sub.of rfl)) (.refl _ s)
  have hVerdict := State.chgVerdict_touch (State.powerChanged_touch (State.refreshPending_touch
    (State.dropSwitch_touch hPorts (Sub.of rfl) x) (Sub.of rfl)) (Sub.of rfl)) (Sub.of rfl)
  exact Touch.ite (State.shipArmCheck_touch hVerdict (Sub.of rfl)) hVerdict

/-- What a state keeps of the sources while a loss is followed up: which are qualified, what has happened, and the records; the
switch of the lost one is open. -/
structure FollowsLoss (s t : State) (x : Source) : Prop where
  qualified : ∀ y, t.qualified y = s.qualified y
  opened : t.path.closed ≠ some x
  history : t.path.history = s.path.history
  records : RecordsStay s t

theorem State.afterLoss_followsLoss : FollowsLoss s (s.afterLoss x) x := by
  let u := if x = .vbus then s.vbusGone else s
  let v := (u.dropSwitch x).refreshPending
  let w := v.powerChanged.chgVerdict
  have hu : (∀ y, u.qualified y = s.qualified y) ∧ u.path.history = s.path.history ∧ RecordsStay s u := by
    by_cases hx : x = .vbus
    · rw [show u = s.vbusGone from if_pos hx]
      exact ⟨(State.vbusGone_touch (Touch.refl State.vbusGone_cells s) (Sub.refl _)).qualified (by decide),
        by rw [s.vbusGone_path]; rfl, s.vbusGone_stay⟩
    · rw [show u = s from if_neg hx]
      exact ⟨fun _ => rfl, rfl, .refl s⟩
  obtain ⟨huQualified, huHistory, huRecords⟩ := hu
  obtain ⟨hOpened, hHistory⟩ := u.dropSwitch_path x
  have hv : Touch (State.dropSwitch_cells ++ State.refreshPending_cells) u v :=
    State.refreshPending_touch (State.dropSwitch_touch (.refl _ u) (Sub.of rfl) x) (Sub.of rfl)
  have hVerdict := State.chgVerdict_touch (Touch.refl State.chgVerdict_cells v.powerChanged) (Sub.refl _)
  have hArm := State.shipArmCheck_touch (Touch.refl State.shipArmCheck_cells w) (Sub.refl _)
  have hwPath : w.path = (u.dropSwitch x).path := (hVerdict.path (by decide)).trans v.powerChanged_path
  have hw : FollowsLoss s w x :=
    { qualified := fun y => by
        rw [hVerdict.qualified (by decide), State.powerChanged_qualified, State.refreshPending_qualified,
          State.dropSwitch_qualified, huQualified]
      opened := by rwa [hwPath]
      history := by rw [hwPath, hHistory, huHistory]
      records := huRecords.trans ((hv.recordsStay (by decide)).trans (v.powerChanged_stay.trans (State.chgVerdict_stay _))) }
  by_cases hx : x = .vbus
  · rw [show s.afterLoss x = w.shipArmCheck from if_pos hx]
    exact ⟨fun y => (hArm.qualified (by decide) y).trans (hw.qualified y), by rw [hArm.path (by decide)]; exact hw.opened,
      by rw [hArm.path (by decide), hw.history], hw.records.trans w.shipArmCheck_stay⟩
  · rw [show s.afterLoss x = w from if_neg hx]
    exact hw

/-! ## The loss (R101, R102, R104) -/

/-- A source shown as lost, its SRC_LOSS handed over and the 100 ms begun, before anything follows. -/
def State.lossNoted (cause mv : Nat) : State :=
  let u := ((s.setVolt x mv).postLoss x cause mv).setFlag (qFlag x) false
  { u with path := { u.path with lostAt := (u.path.lostAt.filter fun p : Source × Nat => p.1 != x) ++ [(x, u.now)] } }

theorem State.lose_eq (cause mv : Nat) (h : s.qualified x = true) : s.lose x cause mv = (s.lossNoted x cause mv).afterLoss x := by
  unfold State.lose
  rw [if_neg (by simp [h])]
  rfl

/-- What the loss of a source shows, by field. -/
structure Loses (s t : State) (x : Source) (mv : Nat) : Prop where
  unqualified : t.qualified x = false
  noted : (x, s.now) ∈ t.path.lostAt
  opened : t.path.closed ≠ some x
  shown : t.reg (voltReg x) = word16 (volt20 mv)
  event : t.flag (lossFlag x) = true
  events : ∀ g, g.reg = R.SRC_EVENT → s.flag g = true → t.flag g = true
  mainTrips : t.path.mainTrips = s.path.mainTrips
  mainOff : t.path.mainOff = s.path.mainOff
  records : RecordsStay s t

/-- The loss before anything follows. -/
theorem State.lossNoted_shows (cause mv : Nat) :
    (s.lossNoted x cause mv).qualified x = false ∧ (s.lossNoted x cause mv).reg (voltReg x) = word16 (volt20 mv) ∧
      (s.lossNoted x cause mv).flag (lossFlag x) = true ∧
      (∀ g, g.reg = R.SRC_EVENT → s.flag g = true → (s.lossNoted x cause mv).flag g = true) ∧
      (∃ l, (s.lossNoted x cause mv).path = { s.path with lostAt := l } ∧ (x, s.now) ∈ l) ∧
      RecordsStay s (s.lossNoted x cause mv) := by
  let p := (s.setVolt x mv).event (lossFlag x)
  let q := (s.setVolt x mv).postLoss x cause mv
  have hVolt := State.setVolt_touch (Touch.refl State.setVolt_cells s) (Sub.refl _) x mv
  have hPost : Touch State.post_cells p q := State.post_touch (.refl _ p) (Sub.refl _) _ _
  have hLossReg : (lossFlag x).reg = R.SRC_EVENT := by cases x <;> rfl
  have hLossBit : (lossFlag x).bit < 16 := by cases x <;> decide
  have hqBit : (qFlag x).bit < 16 := Nat.lt_trans (qFlag_bit_lt x) (by decide)
  have hPath : q.path = s.path := hPost.path (by decide)
  have hNow : q.now = s.now := hPost.now (by decide)
  have hEvent (g : Flag) (hg : g.reg = R.SRC_EVENT) : (s.lossNoted x cause mv).flag g = p.flag g := by
    refine (q.flag_setFlag _ false g hqBit).trans ((if_neg fun e => ?_).trans (hPost.flag g (by rw [hg]; decide)))
    rw [e, qFlag_reg] at hg
    exact absurd hg (by decide)
  refine ⟨(q.flag_setFlag _ false _ hqBit).trans (if_pos rfl), ?_, ?_, fun g hg hSet => ?_,
    ⟨(s.path.lostAt.filter fun p : Source × Nat => p.1 != x) ++ [(x, q.now)], ?_, ?_⟩, ?_⟩
  · obtain ⟨hStatus, hNe⟩ := voltReg_ne_status x
    have hShown : p.reg (voltReg x) = word16 (volt20 mv) :=
      ((s.setVolt x mv).reg_event _ _).trans ((if_neg (by rwa [hLossReg])).trans (s.reg_setReg_same _ _))
    exact (q.reg_setFlag _ false _).trans ((if_neg (by rwa [qFlag_reg])).trans
      ((hPost.reg _ (by cases x <;> decide) (by decide)).trans hShown))
  · rw [hEvent _ hLossReg, State.flag_event _ _ _ hLossBit, if_pos rfl]
  · rw [hEvent g hg]
    exact State.event_flag_of_flag _ _ hLossBit g ((hVolt.flag g (by rw [hg]; decide)).trans hSet)
  · exact congrArg (fun p : Path => { p with lostAt := (p.lostAt.filter fun q : Source × Nat => q.1 != x) ++ [(x, q.now)] }) hPath
  · simp [hNow]
  · exact RecordsStay.trans (.of_lgr (by rfl)) (RecordsStay.trans (p.post_stay _ _) (.of_lgr (by rfl)))

theorem State.lose_loses (cause mv : Nat) (h : s.qualified x = true) : Loses s (s.lose x cause mv) x mv := by
  obtain ⟨hUnqualified, hShown, hEvent, hEvents, ⟨l, hPath, hNoted⟩, hRecords⟩ := s.lossNoted_shows x cause mv
  rw [s.lose_eq x cause mv h]
  generalize s.lossNoted x cause mv = u at *
  have hTouch := u.afterLoss_touch x
  have hFollows := u.afterLoss_followsLoss x
  have hHistory : (u.afterLoss x).path.history = { s.path with lostAt := l : Path }.history := by rw [hFollows.history, hPath]
  exact {
    unqualified := (hFollows.qualified x).trans hUnqualified
    noted := by
      rw [show (u.afterLoss x).path.lostAt = l from congrArg Prod.fst hHistory]
      exact hNoted
    opened := hFollows.opened
    shown := (hTouch.reg _ (by cases x <;> decide) (by decide)).trans hShown
    event := (hTouch.flag _ (by cases x <;> decide)).trans hEvent
    events := fun g hg hSet => (hTouch.flag g (by rw [hg]; decide)).trans (hEvents g hg hSet)
    mainTrips := congrArg (·.2.2.1) hHistory
    mainOff := congrArg (·.2.2.2.1) hHistory
    records := hRecords.trans hFollows.records }

/-! ## A trip (R104, R123) -/

/-- A trip counted and shown, before its record is handed over. -/
def State.tripCounted (cmp : Nat) : State :=
  let u := (s.event F.SRC_EVENT_TRIP).bump R.SRC_TRIPCNT 1
  if cmp = 1 || cmp = 2 then u.bump R.SRC_COLLCNT 1 else u

theorem State.tripCounted_touch (cmp : Nat) : Touch [R.SRC_EVENT, R.SRC_TRIPCNT, R.SRC_COLLCNT] s (s.tripCounted cmp) := by
  have hTrip : Touch [R.SRC_EVENT, R.SRC_TRIPCNT, R.SRC_COLLCNT] s ((s.event F.SRC_EVENT_TRIP).bump R.SRC_TRIPCNT 1) :=
    State.bump_touch (State.event_touch (.refl _ s) _ (.inl (by decide))) _ _ (.inl (by decide))
  exact Touch.ite (State.bump_touch hTrip _ _ (.inl (by decide))) hTrip

/-- Beside its counters a trip writes the trip event alone. -/
theorem State.tripCounted_flag (cmp : Nat) (g : Flag) (hg : g.reg = R.SRC_EVENT) :
    (s.tripCounted cmp).flag g = (s.event F.SRC_EVENT_TRIP).flag g := by
  have hBump (u : State) (a : Nat) (ha : R.SRC_EVENT ≠ a) : (u.bump a 1).flag g = u.flag g := u.flag_setReg_ne _ _ g (by rwa [hg])
  unfold State.tripCounted
  dsimp only
  split
  · rw [hBump _ _ (by decide), hBump _ _ (by decide)]
  · rw [hBump _ _ (by decide)]

/-- A comparator's trip: the loss, the trip event, and the record with the comparator's code. -/
structure Trips (s t : State) (x : Source) (cmp mv : Nat) : Prop extends Loses s t x mv where
  trip : t.flag F.SRC_EVENT_TRIP = true
  recorded : s.roomFor K.INPUT_TRIP → t.holds K.INPUT_TRIP ([byte x.code, byte cmp] ++ beBytes 2 (volt20 mv))

theorem State.trip_trips (cmp cause mv : Nat) (h : s.qualified x = true) : Trips s (s.trip x cmp cause mv) x cmp mv := by
  let p := s.tripCounted cmp
  let q := p.post K.INPUT_TRIP ([byte x.code, byte cmp] ++ beBytes 2 (volt20 mv))
  have hp : Touch [R.SRC_EVENT, R.SRC_TRIPCNT, R.SRC_COLLCNT] s p := s.tripCounted_touch cmp
  have hq : Touch State.post_cells p q := State.post_touch (.refl _ p) (Sub.refl _) _ _
  have hLoses := q.lose_loses x cause mv ((hq.qualified (by decide) x).trans ((hp.qualified (by decide) x).trans h))
  have hEvent (g : Flag) (hg : g.reg = R.SRC_EVENT) : q.flag g = (s.event F.SRC_EVENT_TRIP).flag g :=
    (hq.flag g (by rw [hg]; decide)).trans (s.tripCounted_flag cmp g hg)
  have hNow : q.now = s.now := (hq.now (by decide)).trans (hp.now (by decide))
  have hPath : q.path = s.path := (hq.path (by decide)).trans (hp.path (by decide))
  rw [show s.trip x cmp cause mv = q.lose x cause mv from if_neg (by simp [h])]
  exact {
    unqualified := hLoses.unqualified
    noted := hNow ▸ hLoses.noted
    opened := hLoses.opened
    shown := hLoses.shown
    event := hLoses.event
    events := fun g hg hSet => hLoses.events g hg ((hEvent g hg).trans (s.event_flag_of_flag _ (by decide) g hSet))
    mainTrips := hLoses.mainTrips.trans (by rw [hPath])
    mainOff := hLoses.mainOff.trans (by rw [hPath])
    records := (hp.recordsStay (by decide)).trans ((p.post_stay _ _).trans hLoses.records)
    trip := hLoses.events _ rfl ((hEvent _ rfl).trans ((s.flag_event _ _ (by decide)).trans (if_pos rfl)))
    recorded := fun hRoom => hLoses.records.holds (p.post_holds _ _ ((hp.sameIntake (by decide)).roomFor hRoom)) }

end

/-! ## O16 -/

/-- VMUX above its source (R123). -/
theorem reverseTrip_gives (s : State) (x : Source) (mv vmux : Nat) (hs : s.live = true) (hx : x ≠ .tether)
    (hQualified : s.qualified x = true) (hOver : mv + 30 < vmux) (hSwitch : s.path.closed = some x ∨ s.path.target = some x) :
    Gives (.reverseTrip x mv vmux) s fun t =>
      t.qualified x = false ∧ (x, s.now) ∈ t.path.lostAt ∧ t.path.closed ≠ some x ∧ t.flag F.SRC_EVENT_TRIP ∧
      t.reg R.PATH_VMUX = word16 (volt20 vmux) ∧
      (s.roomFor K.INPUT_TRIP → t.holds K.INPUT_TRIP ([byte x.code, 2] ++ beBytes 2 (volt20 mv))) := by
  refine Gives.of_when rfl (by simp [hs, hx, hOver, hSwitch]) ?_
  let p := s.setVmux vmux
  have hp : Touch [R.PATH_VMUX] s p := State.setReg_touch (.refl _ s) _ _ (.inl (by decide))
  have hTrips := p.trip_trips x 2 3 mv ((hp.qualified (by decide) x).trans hQualified)
  have hTouch := State.trip_touch (Touch.refl State.trip_cells p) (Sub.refl _) x 2 3 mv
  exact ⟨hTrips.unqualified, hTrips.noted, hTrips.opened, hTrips.trip,
    (hTouch.reg _ (by decide) (by decide)).trans (s.reg_setReg_same _ _),
    fun hRoom => hTrips.recorded ((hp.sameIntake (by decide)).roomFor hRoom)⟩

/-- VPV below 5 mW for 60 s (R101). -/
theorem vpvLowPowerLoss_gives (s : State) (mv uw ticks : Nat) (hs : s.live = true) (hPower : uw < 5000)
    (hTime : secTicks 60 ≤ ticks) (hClosed : s.path.closed = some .vpv) (hQualified : s.qualified .vpv = true) :
    Gives (.vpvLowPowerLoss mv uw ticks) s fun t =>
      t.qualified .vpv = false ∧ t.path.closed ≠ some .vpv ∧ (Source.vpv, s.now) ∈ t.path.lostAt ∧
      t.flag F.SRC_EVENT_VPV_LOSS ∧ t.reg R.SRC_TRIPCNT = s.reg R.SRC_TRIPCNT := by
  refine Gives.of_when rfl (by simp [hs, hPower, hTime, hClosed]) ?_
  have hLoses := s.lose_loses .vpv 5 mv hQualified
  exact ⟨hLoses.unqualified, hLoses.opened, hLoses.noted, hLoses.event,
    (State.lose_touch (Touch.refl State.lose_cells s) (Sub.refl _) .vpv 5 mv).reg _ (by decide) (by decide)⟩

/-- VSYS low with the main converter switching (R328). -/
theorem mainConverterFault_gives (s : State) (vsys mv : Nat) (x : Source) (hs : s.live = true)
    (hOn : s.flag F.CONV_STATUS_MAIN_ON = true) (hLow : vsys + 300 < s.power.regN R.PATH_VSYSMIN * 100)
    (hClosed : s.path.closed = some x) (hQualified : s.qualified x = true) :
    Gives (.mainConverterFault vsys mv) s fun t =>
      t.qualified x = false ∧ t.path.closed ≠ some x ∧
      (t.path.mainTrips = (s.path.mainTrips.filter fun d => decide (s.now < d + secTicks 60)) ++ [s.now]) ∧
      t.path.mainOff = decide (3 ≤ t.path.mainTrips.length) ∧
      (s.roomFor K.INPUT_TRIP → t.holds K.INPUT_TRIP ([byte x.code, 4] ++ beBytes 2 (volt20 mv))) := by
  refine Gives.of_when rfl (by simp [hs, hOn, hLow]) ?_
  let l := (s.path.mainTrips.filter fun d => decide (s.now < d + secTicks 60)) ++ [s.now]
  let p : State := { s.setVsys vsys with path := { s.path with mainTrips := l, mainOff := decide (3 ≤ l.length) } }
  have hp : Touch [R.PATH_VSYS, 0x1407] s p :=
    Touch.update (State.setReg_touch (.refl _ s) R.PATH_VSYS _ (.inl (by decide))) (h_path := .inr (by decide))
  have hTrips := p.trip_trips x 4 8 mv ((hp.qualified (by decide) x).trans hQualified)
  split
  case h_1 hNone => exact absurd (hClosed.symm.trans hNone) nofun
  case h_2 y hSome =>
  obtain rfl : x = y := Option.some.inj (hClosed.symm.trans hSome)
  refine ⟨hTrips.unqualified, hTrips.opened, hTrips.mainTrips, ?_, fun hRoom =>
    hTrips.recorded ((hp.sameIntake (by decide)).roomFor hRoom)⟩
  rw [hTrips.mainOff, hTrips.mainTrips]

/-- Settles O16: a trip counts, records and loses its source, and what follows the loss takes nothing of it back. -/
theorem sourceLost : Obligations.SourceLost := by
  unfold Obligations.SourceLost
  refine ⟨fun s x mv hs hx hQualified hLow => ?_, reverseTrip_gives, fun s x mv hs hx hQualified hOver => ?_, vpvLowPowerLoss_gives,
    mainConverterFault_gives⟩
  · refine Gives.of_when rfl (by simp [hs, hx, hLow]) ?_
    have hTrips := s.trip_trips x 1 1 mv hQualified
    exact ⟨hTrips.unqualified, hTrips.noted, hTrips.shown, hTrips.trip, hTrips.event, hTrips.recorded⟩
  · refine Gives.of_when rfl (by simp [hs, hx, hOver]) ?_
    have hTrips := s.trip_trips x 3 2 mv hQualified
    exact ⟨hTrips.unqualified, hTrips.noted, hTrips.trip, hTrips.recorded⟩

end Sys2Proof.Machine
end

section
/-!
SUPPORT. The changeover that O17 does not leave out: one whose new source is the Tether, whose code SRC_STATUS.ACTIVE cannot show.
-/

namespace Sys2Proof.Machine

/-- A field shows no more than its bits hold. -/
theorem State.field_lt (s : State) (f : Field) : s.field f < 2 ^ f.width := Nat.mod_lt _ (Nat.two_pow_pos _)

/-- A running unit whose changeover to the Tether is at its end. No run leads here, for SRC_RANK names no Tether (R105) and the
Tether has no input switch (R99), but O17 asks its clause of every source. -/
def tetherCloses : State :=
  { State.reset with phase := .run, path := { Path.reset with target := some .tether, closing := true } }

/-- Refutes O17: its clause for the end of a changeover has the two bits of SRC_STATUS.ACTIVE show the code of the new source,
whatever source it is; in tetherCloses that is the Tether, whose code 4 takes three bits (R128, R292). -/
theorem not_changeover : ¬ Obligations.Changeover := by
  unfold Obligations.Changeover
  rintro ⟨-, -, -, -, -, -, hComplete⟩
  obtain ⟨t, -, -, -, -, hActive, -⟩ :=
    hComplete tetherCloses 0 0 .tether (by decide) (by decide) (by decide) (by decide) (by decide)
  have hTwoBits : t.field F.SRC_STATUS_ACTIVE < 4 := t.field_lt _
  rw [hActive] at hTwoBits
  exact absurd hTwoBits (by decide)

end Sys2Proof.Machine
end

section
/-!
SUPPORT. BATFET's mode (R118, R119): the bits of PATH_STATUS that it follows and leaves alone, through the charger, FEED and the
move of the Tether converter.
-/

namespace Sys2Proof.Machine

theorem Touch.regsKept {W : List Nat} {s t : State} (h : Touch W s t) (hW : 0x1430 ∉ W) : s.regsKept t W :=
  fun a ha => h.reg a ha hW

/-- The bits of PATH_STATUS that show BATFET's mode. -/
def batfetBits : List Flag :=
  [F.PATH_STATUS_LINEAR, F.PATH_STATUS_BATON, F.PATH_STATUS_HOLD, F.PATH_STATUS_IDEAL, F.PATH_STATUS_BAT_LOW]

/-- The bits of PATH_STATUS beside BATFET's mode. -/
abbrev BesideBatfet (g : Flag) : Prop := g.reg = R.PATH_STATUS ∧ g ∉ batfetBits

section
variable (s : State) (g : Flag)

theorem State.setFlag_besideBatfet (f : Flag) (x : Bool) (hf : f ∈ batfetBits) (hg : BesideBatfet g) :
    (s.setFlag f x).flag g = s.flag g := by
  have hBits : ∀ f ∈ batfetBits, f.bit < 16 := by decide
  exact s.flag_setFlag_ne f x g ⟨hBits f hf, fun e => hg.2 (e ▸ hf)⟩

theorem Touch.besideBatfet {W : List Nat} {s t : State} (h : Touch W s t) (hW : R.PATH_STATUS ∉ W ∧ 0x1430 ∉ W) {g : Flag}
    (hg : BesideBatfet g) : t.flag g = s.flag g := h.flag g (by rwa [hg.1])

/-! ## BATFET itself -/

theorem State.refreshBatfet_beside (hg : BesideBatfet g) : s.refreshBatfet.flag g = s.flag g := by
  unfold State.refreshBatfet
  dsimp only
  iterate 5 rw [State.setFlag_besideBatfet _ g _ _ (by decide) hg]

/-- An ideal diode shows as one, unless BATFET is open. -/
theorem State.refreshBatfet_ideal (hOpen : s.flag F.PATH_STATUS_BATOPEN = false) (hDiode : s.batfetDiode = true) :
    s.refreshBatfet.flag F.PATH_STATUS_IDEAL = true := by
  unfold State.refreshBatfet
  dsimp only
  rw [State.flag_setFlag_ne _ _ _ _ (by decide), State.flag_setFlag_same _ _ _ (by decide), hOpen, hDiode]
  rfl

theorem State.batfetIdeal_beside (hg : BesideBatfet g) : s.batfetIdeal.flag g = s.flag g := by
  unfold State.batfetIdeal
  iterate 4 rw [State.setFlag_besideBatfet _ g _ _ (by decide) hg]

theorem State.batfetIdeal_shows : s.batfetIdeal.flag F.PATH_STATUS_IDEAL = true ∧ s.batfetIdeal.flag F.PATH_STATUS_HOLD = false ∧
    s.batfetIdeal.flag F.PATH_STATUS_LINEAR = false := by
  unfold State.batfetIdeal
  refine ⟨?_, ?_, ?_⟩
  · iterate 3 rw [State.flag_setFlag_ne _ _ _ _ (by decide)]
    exact State.flag_setFlag_same _ _ _ (by decide)
  · rw [State.flag_setFlag_ne _ _ _ _ (by decide), State.flag_setFlag_same _ _ _ (by decide)]
  · exact State.flag_setFlag_same _ _ _ (by decide)

/-! ## The charger (R156, R167) -/

theorem State.enterPhase_besideBatfet (p : Nat) (hg : BesideBatfet g) : (s.enterPhase p).flag g = s.flag g := by
  have hPhase : (if s.chgSettle.phaseN = p then s.chgSettle
      else (s.chgSettle.setField F.CHG_STATUS_PHASE p).event F.CHG_EVENT_PHASE_CHG).flag g = s.flag g := by
    split
    · rfl
    · exact (State.event_touch (State.setField_touch (Touch.refl [R.CHG_STATUS, R.CHG_EVENT] s.chgSettle) _ _ (.inl (by decide))) _
        (.inl (by decide))).besideBatfet (by decide) hg
  unfold State.enterPhase
  dsimp only
  rw [State.refreshBatfet_beside _ g hg,
    (State.refreshIbat_touch (Touch.refl State.refreshIbat_cells _) (Sub.refl _)).besideBatfet (by decide) hg,
    (State.refreshReduced_touch (Touch.refl State.refreshReduced_cells _) (Sub.refl _)).besideBatfet (by decide) hg,
    (State.setFlag_touch (Touch.refl [R.CHG_STATUS] _) _ _ (.inl (by decide))).besideBatfet (by decide) hg]
  generalize (if s.chgSettle.phaseN = p then _ else _) = u at hPhase ⊢
  split_ifs <;> exact hPhase

theorem State.chgSuspend_besideBatfet (f : Flag) (hf : f.reg = R.CHG_STATUS) (hg : BesideBatfet g) :
    (s.chgSuspend f).flag g = s.flag g := by
  have hBit : (s.setFlag f true).flag g = s.flag g :=
    (State.setFlag_touch (Touch.refl [R.CHG_STATUS] s) _ _ (.inl (by rw [hf]; decide))).besideBatfet (by decide) hg
  have hTallied : (if f = F.CHG_STATUS_SUSP_ALM ∨ f = F.CHG_STATUS_SUSP_TEMP then (s.setFlag f true).tally K.CHG_SUSPEND
      else s.setFlag f true).flag g = s.flag g := by
    split
    · rw [(State.tally_touch (Touch.refl State.tally_cells _) (Sub.refl _) _).besideBatfet (by decide) hg, hBit]
    · exact hBit
  unfold State.chgSuspend
  split
  · rfl
  · simp only [Bool.or_eq_true, decide_eq_true_eq]
    generalize (if f = _ ∨ f = _ then _ else _) = u at hTallied ⊢
    split
    · exact hTallied
    · rw [(State.event_touch (Touch.refl [R.CHG_EVENT] _) _ (.inl (by decide))).besideBatfet (by decide) hg,
        State.enterPhase_besideBatfet _ g _ hg]
      exact hTallied

theorem State.refreshSusSrc_besideBatfet (hg : BesideBatfet g) : s.refreshSusSrc.flag g = s.flag g := by
  unfold State.refreshSusSrc
  split
  · exact (State.setFlag_touch (Touch.refl [R.CHG_STATUS] s) _ _ (.inl (by decide))).besideBatfet (by decide) hg
  · exact s.chgSuspend_besideBatfet g _ rfl hg

/-! ## FEED and the move of the Tether converter (R22, R141) -/

/-- PATH_STATUS after FEED is that of a state in which BATFET has just followed. -/
theorem State.refreshFeed_batfet : ∃ u : State, (∀ g, BesideBatfet g → u.flag g = s.flag g) ∧
    s.refreshFeed.reg R.PATH_STATUS = u.refreshBatfet.reg R.PATH_STATUS := by
  let fed : State := if s.flag F.SYS_STATE_FEED = s.fedNow then s else s.setFlag F.SYS_STATE_FEED s.fedNow
  let w : State := if fed.inSafe then fed else fed.setPstate (if s.fedNow then 2 else 1)
  have hW : Touch (R.SYS_STATE :: State.setPstate_cells) s w := by
    have hFed : Touch (R.SYS_STATE :: State.setPstate_cells) s fed :=
      Touch.ite (.refl _ s) (State.setFlag_touch (.refl _ s) _ _ (.inl (by decide)))
    exact Touch.ite hFed (State.setPstate_touch hFed (Sub.of rfl) _)
  refine ⟨w.refreshSusSrc, fun g hg => ?_, ?_⟩
  · rw [State.refreshSusSrc_besideBatfet _ g hg, hW.besideBatfet (by decide) hg]
  · change (if s.fedNow then w.refreshSusSrc.refreshBatfet else w.refreshSusSrc.refreshBatfet.excClip).reg _ = _
    split
    · rfl
    · exact (State.excClip_touch (Touch.refl State.excClip_cells _) (Sub.refl _)).reg _ (by decide) (by decide)

theorem State.refreshFeed_besideBatfet (hg : BesideBatfet g) : s.refreshFeed.flag g = s.flag g := by
  obtain ⟨u, hKept, hReg⟩ := s.refreshFeed_batfet
  rw [← hKept g hg, ← u.refreshBatfet_beside g hg]
  simp only [State.flag, hg.1, hReg]

theorem State.refreshFeed_ideal (hOpen : s.flag F.PATH_STATUS_BATOPEN = false) (hSupp : s.flag F.PATH_STATUS_SUPPLEMENT = true) :
    s.refreshFeed.flag F.PATH_STATUS_IDEAL = true := by
  obtain ⟨u, hKept, hReg⟩ := s.refreshFeed_batfet
  have hDiode : u.batfetDiode = true := by simp [State.batfetDiode, hKept F.PATH_STATUS_SUPPLEMENT (by decide), hSupp]
  have hIdeal := u.refreshBatfet_ideal ((hKept _ (by decide)).trans hOpen) hDiode
  simpa only [State.flag, hReg] using hIdeal

theorem State.tetMove_besideBatfet (hg : BesideBatfet g) : s.tetMove.flag g = s.flag g := by
  unfold State.tetMove
  split
  · rfl
  · rw [State.refreshFeed_besideBatfet _ g hg,
      (State.setTetMode_touch (Touch.refl State.setTetMode_cells s) (Sub.refl _) _).besideBatfet (by decide) hg]

/-- While the cell supplements, a move of the Tether converter leaves BATFET an ideal diode. -/
theorem State.tetMove_ideal (hOpen : s.flag F.PATH_STATUS_BATOPEN = false) (hSupp : s.flag F.PATH_STATUS_SUPPLEMENT = true)
    (hIdeal : s.flag F.PATH_STATUS_IDEAL = true) : s.tetMove.flag F.PATH_STATUS_IDEAL = true := by
  have hMode := State.setTetMode_touch (Touch.refl State.setTetMode_cells s) (Sub.refl _) s.tetNext
  unfold State.tetMove
  split
  · exact hIdeal
  · exact State.refreshFeed_ideal _ ((hMode.flag _ (by decide)).trans hOpen) ((hMode.flag _ (by decide)).trans hSupp)

/-- A move that ends in the mode it began in is none. -/
theorem State.tetMove_of_same_mode (h : s.tetMove.field F.CONV_STATUS_TET_MODE = s.field F.CONV_STATUS_TET_MODE) : s.tetMove = s :=
  if_pos (s.tetMove_mode.symm.trans h)

/-- A unit whose cell supplements does not source (R140). -/
theorem State.tetNext_ne_source_of_supplement (h : s.flag F.PATH_STATUS_SUPPLEMENT = true) : s.tetNext ≠ 3 := by
  have hGuards : s.sourceGuards = false := by simp [State.sourceGuards, h]
  have hWanted : s.tetWanted ≠ 3 := by
    unfold State.tetWanted
    simp only [hGuards, Bool.and_false, Bool.false_and, Bool.false_eq_true, if_false]
    split_ifs <;> omega
  rcases s.tetNext_cases with hNext | hNext <;> omega

end
end Sys2Proof.Machine
end

section
/-!
SUPPORT. BATFET and the VSYS comparators (R118 to R124), perturb and observe on VPV (R110): a clause for each command, and O18.
-/

namespace Sys2Proof.Machine

/-! ## The ideal diode and supplement (R119, R120) -/

/-- VSYS 100 mV below BAT (R119). -/
theorem idealDiodeConduct_gives (s : State) (vsys bat ma : Nat) (hs : s.live = true) (hOpen : s.flag F.PATH_STATUS_BATOPEN = false)
    (hBelow : vsys + 100 ≤ bat) : Gives (.idealDiodeConduct vsys bat ma) s fun t =>
      t.flag F.PATH_STATUS_IDEAL ∧ t.flag F.PATH_STATUS_BATON = decide (1700 < ma) ∧ t.chg.bat = bat ∧
      t.flag F.PATH_STATUS_HOLD = false ∧ t.flag F.PATH_STATUS_LINEAR = false ∧
      t.reg R.PATH_VSYS = word16 (volt20 vsys) ∧ t.lgr = s.lgr ∧ s.regsKept t [R.PATH_VSYS, R.PATH_STATUS] := by
  refine Gives.of_when rfl (by simp [hs, hOpen, hBelow]) ?_
  let p : State := (s.setVsys vsys).batfetIdeal
  let q : State := p.setFlag F.PATH_STATUS_BATON (decide (1700 < ma))
  let u : State := { q with chg := { p.chg with bat := bat }, path := { p.path with outMa := ma } }
  have hVsys : Touch [R.PATH_VSYS, R.PATH_STATUS] s (s.setVsys vsys) := State.setVsys_touch (.refl _ s) (Sub.of rfl) vsys
  have hP : Touch State.batfetIdeal_cells (s.setVsys vsys) p := State.batfetIdeal_touch (.refl _ _) (Sub.refl _)
  have hQ : Touch [R.PATH_VSYS, R.PATH_STATUS] s q :=
    State.setFlag_touch (State.batfetIdeal_touch hVsys (Sub.of rfl)) _ _ (.inl (by decide))
  have hU : Touch [0x1407, 0x1409] q u := Touch.update (.refl _ q) (h_path := .inr (by decide)) (h_chg := .inr (by decide))
  have hReg (a : Nat) : u.reg a = q.reg a := State.reg_mk ..
  have hFlag (g : Flag) : u.flag g = q.flag g := congrArg (bitOf · g.bit) (hReg g.reg)
  have hBeside (g : Flag) (hg : g ≠ F.PATH_STATUS_BATON) : u.flag g = p.flag g :=
    (hFlag g).trans (p.flag_setFlag_ne _ _ g ⟨by decide, hg⟩)
  obtain ⟨hIdeal, hHold, hLinear⟩ := (s.setVsys vsys).batfetIdeal_shows
  change u.flag _ = true ∧ u.flag _ = _ ∧ u.chg.bat = bat ∧ u.flag _ = false ∧ u.flag _ = false ∧ u.reg _ = _ ∧ u.lgr = _ ∧
    s.regsKept u _
  refine ⟨(hBeside _ (by decide)).trans hIdeal, (hFlag _).trans (p.flag_setFlag_same _ _ (by decide)), rfl,
    (hBeside _ (by decide)).trans hHold, (hBeside _ (by decide)).trans hLinear, ?_,
    (hU.lgr (by decide)).trans (hQ.lgr (by decide)), fun a ha => (hReg a).trans (hQ.reg a ha (by decide))⟩
  exact (hReg _).trans ((p.reg_setFlag _ _ _).trans ((if_neg (by decide)).trans ((hP.reg _ (by decide) (by decide)).trans
    (s.reg_setReg_same _ _))))

/-- The registers that the beginning of a supplement writes where the Tether converter stays in its mode. -/
def supplementRegs : List Nat := [R.PATH_STATUS, R.PATH_EVENT, R.CHG_STATUS, R.CHG_IBAT]

theorem State.chgSettle_reg (s : State) (a : Nat) : s.chgSettle.reg a = s.reg a := rfl

/-- The cell begins to help the source (R109, R120, R140). -/
theorem supplementStart_gives (s : State) (hs : s.live = true) (hFeed : s.flag F.SYS_STATE_FEED = true)
    (hNot : s.flag F.PATH_STATUS_SUPPLEMENT = false) : Gives (.supplementStart) s fun t =>
      t.flag F.PATH_STATUS_SUPPLEMENT ∧ (s.flag F.PATH_STATUS_BATOPEN = false → t.flag F.PATH_STATUS_IDEAL) ∧
      t.flag F.PATH_EVENT_SUPP_START ∧ (s.field F.CONV_STATUS_TET_MODE = 3 → t.field F.CONV_STATUS_TET_MODE ≠ 3) ∧
      (t.field F.CONV_STATUS_TET_MODE = s.field F.CONV_STATUS_TET_MODE → t.lgr = s.lgr ∧ s.regsKept t [R.PATH_STATUS,
        R.PATH_EVENT, R.CHG_STATUS, R.CHG_IBAT]) := by
  refine Gives.of_when rfl (by simp [hs, hFeed, hNot]) ?_
  let o : State := { s with chg := { s.chg with left := some 0 } }
  let p : State := (o.setFlag F.PATH_STATUS_SUPPLEMENT true).event F.PATH_EVENT_SUPP_START
  let q : State := p.batfetIdeal
  let u : State := q.refreshReduced.refreshIbat
  have hU : Touch [R.CHG_STATUS, R.CHG_IBAT, 0x1409] q u :=
    State.refreshIbat_touch (State.refreshReduced_touch (.refl _ q) (Sub.of rfl)) (Sub.of rfl)
  have hQ : Touch State.batfetIdeal_cells p q := State.batfetIdeal_touch (.refl _ p) (Sub.refl _)
  have hMove := State.tetMove_touch (Touch.refl State.tetMove_cells u) (Sub.refl _)
  have hMode : u.field F.CONV_STATUS_TET_MODE = s.field F.CONV_STATUS_TET_MODE :=
    (hU.field _ (by decide)).trans ((hQ.field _ (by decide)).trans ((State.field_setReg_ne _ _ _ _ (by decide)).trans
      (o.field_setReg_ne _ _ _ (by decide))))
  have hSupp : u.flag F.PATH_STATUS_SUPPLEMENT = true :=
    (hU.flag _ (by decide)).trans ((p.batfetIdeal_beside _ (by decide)).trans
      ((State.flag_setFlag_ne _ _ _ _ (by decide)).trans (o.flag_setFlag_same _ _ (by decide))))
  obtain ⟨hIdeal, -, -⟩ := p.batfetIdeal_shows
  change u.tetMove.flag _ = true ∧ (_ → u.tetMove.flag _ = true) ∧ u.tetMove.flag _ = true ∧ (_ → u.tetMove.field _ ≠ 3) ∧
    (u.tetMove.field _ = _ → u.tetMove.lgr = _ ∧ s.regsKept u.tetMove supplementRegs)
  refine ⟨?_, fun hOpen => ?_, ?_, fun _ => ?_, fun hSame => ?_⟩
  · rw [u.tetMove_besideBatfet _ (by decide), hSupp]
  · refine u.tetMove_ideal ?_ hSupp ((hU.flag _ (by decide)).trans hIdeal)
    exact (hU.flag _ (by decide)).trans ((p.batfetIdeal_beside _ (by decide)).trans
      ((State.flag_setFlag_ne _ _ _ _ (by decide)).trans ((o.flag_setFlag_ne _ _ _ (by decide)).trans hOpen)))
  · rw [hMove.flag _ (by decide), hU.flag _ (by decide), hQ.flag _ (by decide)]
    exact State.flag_setFlag_same _ _ _ (by decide)
  · rw [u.tetMove_mode]
    exact u.tetNext_ne_source_of_supplement hSupp
  · rw [u.tetMove_of_same_mode (hSame.trans hMode.symm)]
    have hIbat : Touch supplementRegs q.refreshReduced u := State.refreshIbat_touch (.refl _ _) (Sub.of rfl)
    have hOP : Touch supplementRegs o p :=
      State.event_touch (State.setFlag_touch (.refl _ o) _ _ (.inl (by decide))) _ (.inl (by decide))
    have hOQ : Touch supplementRegs o q := State.batfetIdeal_touch hOP (Sub.of rfl)
    have hReduced : s.regsKept q.refreshReduced supplementRegs :=
      State.regsKept.setReg (fun a ha => (q.chgSettle_reg a).trans (hOQ.reg a ha (by decide))) (by decide) _
    exact ⟨(hU.lgr (by decide)).trans (hOQ.lgr (by decide)), hReduced.trans (hIbat.regsKept (by decide))⟩

/-- The cell helps no longer (R120). -/
theorem supplementEnd_gives (s : State) (hs : s.live = true) (hSupp : s.flag F.PATH_STATUS_SUPPLEMENT = true) :
    Gives (.supplementEnd) s fun t =>
      t.flag F.PATH_STATUS_SUPPLEMENT = false ∧ t.flag F.PATH_EVENT_SUPP_END ∧
      (t.field F.CONV_STATUS_TET_MODE = s.field F.CONV_STATUS_TET_MODE → t.lgr = s.lgr ∧ s.regsKept t [R.PATH_STATUS,
        R.PATH_EVENT]) := by
  refine Gives.of_when rfl (by simp [hs, hSupp]) ?_
  let p : State := (s.setFlag F.PATH_STATUS_SUPPLEMENT false).event F.PATH_EVENT_SUPP_END
  let u : State := p.refreshBatfet
  have hU : Touch [R.PATH_STATUS, R.PATH_EVENT] s u :=
    State.refreshBatfet_touch (State.event_touch (State.setFlag_touch (.refl _ s) _ _ (.inl (by decide))) _ (.inl (by decide)))
      (Sub.of rfl)
  have hBatfet : Touch State.refreshBatfet_cells p u := State.refreshBatfet_touch (.refl _ p) (Sub.refl _)
  change u.tetMove.flag _ = false ∧ u.tetMove.flag _ = true ∧ (u.tetMove.field _ = _ → u.tetMove.lgr = _ ∧ s.regsKept u.tetMove _)
  refine ⟨?_, ?_, fun hSame => ?_⟩
  · rw [u.tetMove_besideBatfet _ (by decide), p.refreshBatfet_beside _ (by decide)]
    exact (State.flag_setFlag_ne _ _ _ _ (by decide)).trans (s.flag_setFlag_same _ _ (by decide))
  · rw [(State.tetMove_touch (Touch.refl State.tetMove_cells u) (Sub.refl _)).flag _ (by decide), hBatfet.flag _ (by decide)]
    exact State.flag_setFlag_same _ _ _ (by decide)
  · rw [u.tetMove_of_same_mode (hSame.trans (hU.field _ (by decide)).symm)]
    exact ⟨hU.lgr (by decide), hU.regsKept (by decide)⟩

/-! ## The trips of BATFET (R121) -/

/-- Which of R121's two cases a trip is. -/
theorem State.batTripCause_of_trip (s : State) (ma vsys : Nat) (h : s.power.regN R.PATH_BATOCP * 500 < ma ∨ vsys < 2000) :
    s.batTripCause ma vsys = if s.power.regN R.PATH_BATOCP * 500 < ma then 1 else 2 := by
  unfold State.batTripCause
  split
  · rfl
  case isFalse hCurrent => exact if_pos (h.resolve_left hCurrent)

/-- A discharge over-current, or VSYS below 2.0 V (R121). -/
theorem batfetTrip_gives (s : State) (ma vsys : Nat) (hs : s.live = true) (hOpen : s.flag F.PATH_STATUS_BATOPEN = false)
    (hCase : s.power.regN R.PATH_BATOCP * 500 < ma ∨ vsys < 2000) : Gives (.batfetTrip ma vsys) s fun t =>
      t.flag F.PATH_STATUS_BATOPEN ∧ t.path.batRetry = some (s.now + secTicks 1) ∧
      t.reg R.PATH_VSYS = word16 (volt20 vsys) ∧ (s.power.regN R.PATH_BATOCP * 500 < ma → t.flag F.PATH_EVENT_BATOCP) ∧
      (ma ≤ s.power.regN R.PATH_BATOCP * 500 → t.flag F.PATH_EVENT_SYS_SHORT) ∧
      (s.path.batTry = none → s.hands t K.SYS_SHORT ([byte (s.batTripCause ma vsys)] ++ beSigned 2 (-((ma / 10 : Nat) :
        Int)) ++ beBytes 2 (volt20 vsys))) := by
  have hCause := s.batTripCause_of_trip ma vsys hCase
  refine Gives.of_when rfl ?_ ?_
  · rw [hs, hOpen, hCause]
    split <;> rfl
  let f : Flag := if s.batTripCause ma vsys = 1 then F.PATH_EVENT_BATOCP else F.PATH_EVENT_SYS_SHORT
  let payload := [byte (s.batTripCause ma vsys)] ++ beSigned 2 (-((ma / 10 : Nat) : Int)) ++ beBytes 2 (volt20 vsys)
  let o : State := (s.setVsys vsys).setFlag F.PATH_STATUS_BATOPEN true
  let p : State := o.event f
  let q : State := if s.sameFault s.path.batTry 1 then p.coalesce K.SYS_SHORT else p.post K.SYS_SHORT payload
  let u : State := { q with path := { q.path with batRetry := q.timer (secTicks 1) } }
  have hf : f.reg = R.PATH_EVENT ∧ f.bit < 16 ∧ F.PATH_STATUS_BATOPEN ≠ f := by
    simp only [f]
    split <;> decide
  obtain ⟨hReg, hBit, hNe⟩ := hf
  have hP : Touch [R.PATH_VSYS, R.PATH_STATUS, R.PATH_EVENT] s p :=
    State.event_touch (State.setFlag_touch (State.setVsys_touch (.refl _ s) (Sub.of rfl) vsys) _ _ (.inl (by decide))) _
      (.inl (by rw [hReg]; decide))
  have hQ : Touch State.post_cells p q :=
    Touch.ite (State.coalesce_touch (.refl _ p) (Sub.of rfl) _) (State.post_touch (.refl _ p) (Sub.refl _) _ _)
  have hBatfet := State.refreshBatfet_touch (Touch.refl State.refreshBatfet_cells u) (Sub.refl _)
  have hEvent : u.refreshBatfet.flag f = true :=
    (hBatfet.flag f (by rw [hReg]; decide)).trans ((hQ.flag f (by rw [hReg]; decide)).trans (o.flag_setFlag_same f true hBit))
  change u.refreshBatfet.flag _ = true ∧ u.refreshBatfet.path.batRetry = _ ∧ u.refreshBatfet.reg _ = _ ∧
    (_ → u.refreshBatfet.flag _ = true) ∧ (_ → u.refreshBatfet.flag _ = true) ∧ (_ → u.refreshBatfet.lgr = _)
  refine ⟨?_, ?_, ?_, fun hOver => ?_, fun hUnder => ?_, fun hTry => ?_⟩
  · rw [u.refreshBatfet_beside _ (by decide)]
    exact (hQ.flag _ (by decide)).trans ((o.flag_setFlag_ne f true _ ⟨hBit, hNe⟩).trans (State.flag_setFlag_same _ _ _ (by decide)))
  · rw [hBatfet.path (by decide)]
    exact congrArg (fun n => some (n + secTicks 1)) ((hQ.now (by decide)).trans (hP.now (by decide)))
  · refine (hBatfet.reg _ (by decide) (by decide)).trans ((hQ.reg _ (by decide) (by decide)).trans ?_)
    exact (o.reg_event f _).trans ((if_neg (by rw [hReg]; decide)).trans ((State.reg_setFlag _ _ _ _).trans
      ((if_neg (by decide)).trans (s.reg_setReg_same _ _))))
  · have hCurrent : f = F.PATH_EVENT_BATOCP := if_pos (hCause.trans (if_pos hOver))
    rw [← hCurrent, hEvent]
  · have hShort : f = F.PATH_EVENT_SYS_SHORT := if_neg (by rw [hCause, if_neg (by omega)]; decide)
    rw [← hShort, hEvent]
  · rw [hBatfet.lgr (by decide)]
    change q.lgr = _
    rw [show q = p.post K.SYS_SHORT payload from if_neg (by rw [hTry]; exact Bool.false_ne_true)]
    exact (hP.sameIntake (by decide)).post_lgr _ _

/-- The second after a trip has passed (R121). -/
theorem batfetRetry_gives (s : State) (hs : s.live = true) (hDue : s.elapsed s.path.batRetry = true) :
    Gives (.batfetRetry) s fun t =>
      t.flag F.PATH_STATUS_BATOPEN = false ∧ t.path.batRetry = none ∧ t.path.batTry = some s.now ∧ t.lgr = s.lgr ∧
      s.regsKept t [R.PATH_STATUS] := by
  refine Gives.of_when rfl (by rw [hs, hDue]; rfl) ?_
  let p : State := s.setFlag F.PATH_STATUS_BATOPEN false
  let u : State := { p with path := { s.path with batRetry := none, batTry := some s.now } }
  have hBatfet : Touch [R.PATH_STATUS] u u.refreshBatfet := State.refreshBatfet_touch (.refl _ u) (Sub.of rfl)
  have hP : Touch [R.PATH_STATUS] s p := State.setFlag_touch (.refl _ s) _ _ (.inl (by decide))
  have hU : s.regsKept u [R.PATH_STATUS] := hP.regsKept (by decide)
  change u.refreshBatfet.flag _ = false ∧ u.refreshBatfet.path.batRetry = _ ∧ u.refreshBatfet.path.batTry = _ ∧
    u.refreshBatfet.lgr = _ ∧ s.regsKept u.refreshBatfet _
  rw [hBatfet.path (by decide), hBatfet.lgr (by decide), u.refreshBatfet_beside _ (by decide)]
  exact ⟨s.flag_setFlag_same _ _ (by decide), rfl, rfl, rfl, hU.trans (hBatfet.regsKept (by decide))⟩

/-! ## VSYS over-voltage (R123) -/

/-- The main converter is off, and the Tether converter in the mode it was in. -/
theorem State.mainStop_shows (s : State) : s.mainStop.flag F.CONV_STATUS_MAIN_ON = false ∧
    s.mainStop.field F.CONV_STATUS_TET_MODE = s.field F.CONV_STATUS_TET_MODE := by
  unfold State.mainStop
  dsimp only
  constructor
  · rw [State.flag_setReg_ne _ _ _ _ (by decide)]
    iterate 4 rw [State.flag_setFlag_ne _ _ _ _ (by decide)]
    exact s.flag_setFlag_same _ _ (by decide)
  · rw [State.field_setReg_ne _ _ _ _ (by decide)]
    iterate 5 rw [State.field_setFlag_ne _ _ _ _ (by decide) (by decide)]

/-- A VSYS over-voltage shown and counted, the main converter stopped, before the record is handed over. -/
def State.vsysTripped (s : State) (vsys : Nat) : State :=
  let u := (((s.setVsys vsys).event F.PATH_EVENT_SYS_OVP).setFlag F.PATH_STATUS_SYS_OVP true).event F.SRC_EVENT_TRIP
  (u.bump R.SRC_TRIPCNT 1).mainStop

def State.vsysTripped_cells : List Nat :=
  [R.PATH_VSYS, R.PATH_EVENT, R.PATH_STATUS, R.SRC_EVENT, R.SRC_TRIPCNT] ++ State.mainStop_cells

theorem State.vsysTripped_touch (s : State) (vsys : Nat) : Touch State.vsysTripped_cells s (s.vsysTripped vsys) := by
  have hVsys : Touch State.vsysTripped_cells s (s.setVsys vsys) := State.setVsys_touch (.refl _ s) (Sub.of rfl) vsys
  have hShown := State.setFlag_touch (State.event_touch hVsys F.PATH_EVENT_SYS_OVP (.inl (by decide))) F.PATH_STATUS_SYS_OVP true
    (.inl (by decide))
  exact State.mainStop_touch (State.bump_touch (State.event_touch hShown _ (.inl (by decide))) _ _ (.inl (by decide))) (Sub.of rfl)

theorem State.vsysTripped_shows (s : State) (vsys : Nat) : (s.vsysTripped vsys).flag F.PATH_STATUS_SYS_OVP = true ∧
    (s.vsysTripped vsys).flag F.PATH_EVENT_SYS_OVP = true ∧ (s.vsysTripped vsys).flag F.CONV_STATUS_MAIN_ON = false ∧
    (s.vsysTripped vsys).field F.CONV_STATUS_TET_MODE = s.field F.CONV_STATUS_TET_MODE := by
  let e : State := (s.setVsys vsys).event F.PATH_EVENT_SYS_OVP
  let m : State := e.setFlag F.PATH_STATUS_SYS_OVP true
  let n : State := (m.event F.SRC_EVENT_TRIP).bump R.SRC_TRIPCNT 1
  have hN : Touch [R.SRC_EVENT, R.SRC_TRIPCNT] m n :=
    State.bump_touch (State.event_touch (.refl _ m) _ (.inl (by decide))) _ _ (.inl (by decide))
  have hM : Touch [R.PATH_VSYS, R.PATH_EVENT, R.PATH_STATUS] s m :=
    State.setFlag_touch (State.event_touch (State.setVsys_touch (.refl _ s) (Sub.of rfl) vsys) _ (.inl (by decide))) _ _
      (.inl (by decide))
  have hStop : Touch State.mainStop_cells n n.mainStop := State.mainStop_touch (.refl _ n) (Sub.refl _)
  obtain ⟨hOff, hMode⟩ := n.mainStop_shows
  refine ⟨?_, ?_, hOff, hMode.trans ((hN.field _ (by decide)).trans (hM.field _ (by decide)))⟩
  · exact (hStop.flag _ (by decide)).trans ((hN.flag _ (by decide)).trans (e.flag_setFlag_same _ _ (by decide)))
  · exact (hStop.flag _ (by decide)).trans ((hN.flag _ (by decide)).trans ((e.flag_setFlag_ne _ _ _ (by decide)).trans
      (State.flag_setFlag_same _ _ _ (by decide))))

/-- VSYS above 18.5 V (R123). -/
theorem vsysOvTrip_gives (s : State) (vsys : Nat) (hs : s.live = true) (hOver : 18500 < vsys) : Gives (.vsysOvTrip vsys) s fun t =>
      t.flag F.PATH_STATUS_SYS_OVP ∧ t.flag F.PATH_EVENT_SYS_OVP ∧ t.flag F.CONV_STATUS_MAIN_ON = false ∧
      t.flag F.PATH_STATUS_IDEAL ∧ t.path.ovDue = some (s.now + msTicks 10) ∧
      (s.roomFor K.SYS_OVP → t.holds K.SYS_OVP (beBytes 2 (volt20 vsys) ++ [byte s.carrier])) ∧
      (t.field F.CONV_STATUS_TET_MODE = s.field F.CONV_STATUS_TET_MODE → s.hands t K.SYS_OVP (beBytes 2 (volt20 vsys) ++
        [byte s.carrier])) := by
  refine Gives.of_when rfl (by simp [hs, hOver]) ?_
  let p : State := s.vsysTripped vsys
  let q : State := p.post K.SYS_OVP (beBytes 2 (volt20 vsys) ++ [byte s.carrier])
  let u : State := { q with path := { q.path with ovDue := q.timer (msTicks 10) } }
  have hP : Touch State.vsysTripped_cells s p := s.vsysTripped_touch vsys
  have hQ : Touch State.post_cells p q := State.post_touch (.refl _ p) (Sub.refl _) _ _
  have hMove := State.tetMove_touch (Touch.refl State.tetMove_cells u) (Sub.refl _)
  have hIdeal := State.batfetIdeal_touch (Touch.refl State.batfetIdeal_cells u.tetMove) (Sub.refl _)
  obtain ⟨hOvp, hEvent, hOff, hMode⟩ := s.vsysTripped_shows vsys
  obtain ⟨hDiode, -, -⟩ := u.tetMove.batfetIdeal_shows
  change u.tetMove.batfetIdeal.flag _ = true ∧ u.tetMove.batfetIdeal.flag _ = true ∧ u.tetMove.batfetIdeal.flag _ = false ∧
    u.tetMove.batfetIdeal.flag _ = true ∧ u.tetMove.batfetIdeal.path.ovDue = _ ∧ (_ → u.tetMove.batfetIdeal.holds _ _) ∧
    (u.tetMove.batfetIdeal.field _ = _ → u.tetMove.batfetIdeal.lgr = _)
  refine ⟨?_, ?_, ?_, hDiode, ?_, fun hRoom => ?_, fun hSame => ?_⟩
  · rw [u.tetMove.batfetIdeal_beside _ (by decide), u.tetMove_besideBatfet _ (by decide)]
    exact (hQ.flag _ (by decide)).trans hOvp
  · rw [hIdeal.flag _ (by decide), hMove.flag _ (by decide)]
    exact (hQ.flag _ (by decide)).trans hEvent
  · rw [hIdeal.flag _ (by decide), u.tetMove_beside _ (by decide)]
    exact (hQ.flag _ (by decide)).trans hOff
  · rw [hIdeal.path (by decide), hMove.path (by decide)]
    exact congrArg (fun n => some (n + msTicks 10)) ((hQ.now (by decide)).trans (hP.now (by decide)))
  · refine (u.tetMove_stay.trans (hIdeal.recordsStay (by decide))).holds (s := u) ?_
    exact p.post_holds _ _ ((hP.sameIntake (by decide)).roomFor hRoom)
  · have hStay : u.tetMove.field F.CONV_STATUS_TET_MODE = u.field F.CONV_STATUS_TET_MODE :=
      (hIdeal.field _ (by decide)).symm.trans (hSame.trans (hMode.symm.trans (hQ.field _ (by decide)).symm))
    rw [hIdeal.lgr (by decide), u.tetMove_of_same_mode hStay]
    exact (hP.sameIntake (by decide)).post_lgr _ _

/-- Tracking that starts writes SRC_STATUS and the path, and TRACK alone of the flags. -/
theorem State.trackStart_flag (s : State) (g : Flag) (hg : g ≠ F.SRC_STATUS_TRACK) : s.trackStart.flag g = s.flag g := by
  unfold State.trackStart
  split
  · exact s.flag_setFlag_ne _ _ g ⟨by decide, hg⟩
  · rfl

/-- The 10 ms after the trip have passed (R123). -/
theorem vsysOvRestart_gives (s : State) (hs : s.live = true) (hDue : s.elapsed s.path.ovDue = true) :
    Gives (.vsysOvRestart) s fun t =>
      t.flag F.PATH_STATUS_SYS_OVP = false ∧ t.path.ovDue = none ∧ t.flag F.CONV_STATUS_MAIN_ON = s.path.closed.isSome ∧
      s.banksKept t := by
  refine Gives.of_when rfl (by rw [hs, hDue]; rfl) ?_
  let o : State := s.setFlag F.PATH_STATUS_SYS_OVP false
  let p : State := { o with path := { s.path with ovDue := none } }
  let q : State := p.setFlag F.CONV_STATUS_MAIN_ON s.path.closed.isSome
  let u : State := q.trackStart.refreshBatfet
  have hBatfet := State.refreshBatfet_touch (Touch.refl State.refreshBatfet_cells q.trackStart) (Sub.refl _)
  have hMove := State.tetMove_touch (Touch.refl State.tetMove_cells u) (Sub.refl _)
  have hTrack := State.trackStart_touch (Touch.refl State.trackStart_cells q) (Sub.refl _)
  have hDone : q.trackStart.path.ovDue = none := by
    unfold State.trackStart
    split <;> rfl
  change u.tetMove.flag _ = false ∧ u.tetMove.path.ovDue = none ∧ u.tetMove.flag _ = s.path.closed.isSome ∧
    u.tetMove.lgr.bankA = s.lgr.bankA ∧ u.tetMove.lgr.bankB = s.lgr.bankB
  refine ⟨?_, ?_, ?_, ?_⟩
  · rw [u.tetMove_besideBatfet _ (by decide), State.refreshBatfet_beside _ _ (by decide), State.trackStart_flag _ _ (by decide)]
    exact (p.flag_setFlag_ne _ _ _ (by decide)).trans (s.flag_setFlag_same _ _ (by decide))
  · rw [hMove.path (by decide), hBatfet.path (by decide), hDone]
  · rw [u.tetMove_beside _ (by decide), hBatfet.flag _ (by decide), State.trackStart_flag _ _ (by decide),
      p.flag_setFlag_same _ _ (by decide)]
  · obtain ⟨hA, hB⟩ := hMove.banks (by decide)
    have hLgr : u.lgr = s.lgr := (hBatfet.lgr (by decide)).trans (hTrack.lgr (by decide))
    rw [hA, hB, hLgr]
    exact ⟨rfl, rfl⟩

/-! ## Linear mode (R124) -/

/-- BAT at PATH_VSYSMIN − 0.2 V (R124). -/
theorem linearEnd_gives (s : State) (bat : Nat) (hs : s.live = true) (hLinear : s.flag F.PATH_STATUS_LINEAR = true)
    (hPhase : s.phaseN ≠ phAbsent) (hReached : s.power.regN R.PATH_VSYSMIN * 100 ≤ bat + 200) :
    Gives (.linearEnd bat) s fun t =>
      t.flag F.PATH_EVENT_LINEAR_END ∧ t.chg.bat = bat ∧ t.lgr = s.lgr ∧ s.regsKept t [R.PATH_STATUS, R.PATH_EVENT] := by
  refine Gives.of_when rfl (by simp [hs, hLinear, hPhase, hReached]) ?_
  let p : State := { s with chg := { s.chg with bat := bat } }
  let u : State := p.event F.PATH_EVENT_LINEAR_END
  have hBatfet := State.refreshBatfet_touch (Touch.refl State.refreshBatfet_cells u) (Sub.refl _)
  have hKept : Touch [R.PATH_STATUS, R.PATH_EVENT] p u.refreshBatfet :=
    State.refreshBatfet_touch (State.event_touch (.refl _ p) _ (.inl (by decide))) (Sub.of rfl)
  refine ⟨?_, congrArg Chg.bat (hKept.chg (by decide)), hKept.lgr (by decide), hKept.regsKept (by decide)⟩
  exact (hBatfet.flag _ (by decide)).trans (p.flag_setFlag_same _ _ (by decide))

/-! ## Tracking (R110) -/

/-- A step of perturb and observe stays between the bounds it is given. -/
theorem clampNat_bounds (lo hi x : Nat) : clampNat lo hi x ≤ max lo hi ∧ lo ≤ clampNat lo hi x ∧
    (x ≤ hi → lo ≤ x → clampNat lo hi x = x) := by
  unfold clampNat
  omega

/-- One step of perturb and observe (R110). -/
theorem vpvPoStep_gives (s : State) (up : Bool) (hs : s.live = true) (hTrack : s.flag F.SRC_STATUS_TRACK = true)
    (hMode : s.vpvMode = 0) : Gives (.vpvPoStep up) s fun t =>
      t = { s with path := { s.path with vpvTarget := t.path.vpvTarget } } ∧
      t.path.vpvTarget ≤ max (s.fracVoc * 90 / 100) (s.fracVoc * 110 / 100) ∧ s.fracVoc * 90 / 100 ≤ t.path.vpvTarget ∧
      (up → s.path.vpvTarget + s.path.voc / 100 ≤ s.fracVoc * 110 / 100 → s.fracVoc * 90 / 100 ≤ s.path.vpvTarget →
        t.path.vpvTarget = s.path.vpvTarget + s.path.voc / 100) := by
  refine Gives.of_when rfl (by simp [hs, hTrack, hMode]) ⟨rfl, ?_⟩
  let step := if up then s.path.vpvTarget + s.path.voc / 100 else s.path.vpvTarget - s.path.voc / 100
  obtain ⟨hHigh, hLow, hFree⟩ := clampNat_bounds (s.fracVoc * 90 / 100) (s.fracVoc * 110 / 100) step
  refine ⟨hHigh, hLow, fun hUp hFits hAbove => ?_⟩
  have hStep : step = s.path.vpvTarget + s.path.voc / 100 := if_pos hUp
  exact (hFree (by rwa [hStep]) (by omega)).trans hStep

/-- The open-circuit check begins (R110). -/
theorem vpvOcCheck_gives (s : State) (hs : s.live = true) (hClosed : s.path.closed = some .vpv)
    (hDue : s.elapsed s.path.ocNext = true) (hWaits : s.plannedWaits = false) : Gives (.vpvOcCheck) s fun t =>
      t.flag F.SRC_STATUS_TRACK = false ∧ t.path.ocNext = none ∧ t.path.ocDue = some (s.now + msTicks 20) ∧
      t.lgr = s.lgr ∧ s.regsKept t [R.SRC_STATUS] := by
  refine Gives.of_when rfl (by simp [hs, hClosed, hDue, hWaits]) ⟨s.flag_setFlag_same _ _ (by decide), rfl, rfl, rfl, ?_⟩
  exact (State.setFlag_touch (Touch.refl [R.SRC_STATUS] s) _ _ (.inl (by decide))).regsKept (by decide)

/-- The open-circuit check ends with what it measured (R110). -/
theorem vpvOcCheckEnd_gives (s : State) (mv : Nat) (hs : s.live = true) (hDue : s.elapsed s.path.ocDue = true)
    (hClosed : s.path.closed = some .vpv) : Gives (.vpvOcCheckEnd mv) s fun t =>
      t.reg R.SRC_VPV_VOC = word16 (volt20 mv) ∧ t.flag F.SRC_STATUS_TRACK = s.flag F.CONV_STATUS_MAIN_ON ∧
      t.path.voc = mv ∧ t.path.ocDue = none ∧ (s.vpvMode ≠ 2 → t.path.ocNext = some (s.now + secTicks 600)) ∧
      (s.vpvMode ≠ 2 → t.path.vpvTarget = mv * s.power.field F.SRC_VPV_CFG_FRAC / 100) ∧ t.lgr = s.lgr := by
  refine Gives.of_when rfl (by simp [hs, hDue]) ?_
  let p : State := s.setVoc mv
  have hP : Touch State.setVoc_cells s p := State.setVoc_touch (.refl _ s) (Sub.refl _) mv
  have hCfg : p.power.reg R.SRC_VPV_CFG = s.power.reg R.SRC_VPV_CFG :=
    State.power_reg_congr (by rfl) (hP.reg _ (by decide) (by decide))
  have hMode : p.vpvMode = s.vpvMode := by simp only [State.vpvMode, State.field, hCfg]
  have hFrac : p.fracVoc = mv * s.power.field F.SRC_VPV_CFG_FRAC / 100 := by
    simp only [State.fracVoc, State.field, hCfg]
    rfl
  have hStart : p.trackStart = { p.setFlag F.SRC_STATUS_TRACK (p.flag F.CONV_STATUS_MAIN_ON) with
      path := { p.path with vpvTarget := p.vpvStart, ocDue := none,
                            ocNext := if p.vpvMode = 2 then none else p.timer (secTicks 600) } } := if_pos hClosed
  change p.trackStart.reg _ = _ ∧ p.trackStart.flag _ = _ ∧ p.trackStart.path.voc = _ ∧ p.trackStart.path.ocDue = _ ∧
    (_ → p.trackStart.path.ocNext = _) ∧ (_ → p.trackStart.path.vpvTarget = _) ∧ p.trackStart.lgr = _
  rw [hStart]
  refine ⟨?_, ?_, rfl, rfl, fun hNot => ?_, fun hNot => ?_, rfl⟩
  · exact (p.reg_setFlag _ _ _).trans ((if_neg (by decide)).trans (s.reg_setReg_same _ _))
  · exact (p.flag_setFlag_same _ _ (by decide)).trans (hP.flag _ (by decide))
  · exact if_neg (by rwa [hMode])
  · exact (if_neg (by rwa [hMode])).trans hFrac

/-! ## O18 -/

/-- Settles O18: a clause for each command of BATFET, VSYS and the tracking of VPV, in the statement's order. -/
theorem batteryPath : Obligations.BatteryPath := by
  unfold Obligations.BatteryPath
  exact ⟨idealDiodeConduct_gives, supplementStart_gives, supplementEnd_gives, batfetTrip_gives, batfetRetry_gives, vsysOvTrip_gives,
    vsysOvRestart_gives, linearEnd_gives, vpvPoStep_gives, vpvOcCheck_gives, vpvOcCheckEnd_gives⟩

end Sys2Proof.Machine
end

section
/-!
SUPPORT. The proof test that O27 does not leave out: one whose request came as a command of the journal, so that what ends the
request writes a second record.
-/

namespace Sys2Proof.Machine

/-- PROOFREQ of a host on Port H, as the command journal holds it under sequence 1 (R319, R321). -/
def proofRequestRun : Run := (1, ⟨srcPortH, R.VDT_CTRL, 0, [0x00, 0x01], true⟩, false)

/-- A running unit, its verdict CRITICAL already, of which a host has requested a proof test through the journal; its state of
charge is below the dose. -/
def requestBelowDose : State :=
  State.runProof (State.setField { State.reset with phase := .run, boot := { Boot.reset with core := true } } F.VDT_STATUS_RESERVE 2)
    proofRequestRun

/-- The checks of that unit skip the test for its state of charge (R217). -/
def requestSkipped : State := requestBelowDose.proofChecks true

theorem exec_proofChecks_requestBelowDose : exec .proofChecks requestBelowDose = .next requestSkipped := by
  have hDue : (requestBelowDose.live && requestBelowDose.boot.core && requestBelowDose.vdt.proof.isNone &&
      !requestBelowDose.ranToday) = true := by decide +kernel
  exact congrArg Host.Outcome.next (requestBelowDose.when_true hDue _)

/-- The skip hands over PROOF_SKIP, and the CMD_DONE of the request with it (R324). -/
theorem requestSkipped_records : requestSkipped.lgr.waiting.length = 2 := by decide +kernel

/-- One record handed over is one that waits. -/
theorem requestBelowDose_post : (requestBelowDose.post K.PROOF_SKIP [4]).lgr.waiting.length = 1 := by decide +kernel

/-- Refutes O27: its clause for a test that is skipped has the Ledger take PROOF_SKIP alone while the verdict stands, also for a
test that a host has requested through the journal; in requestBelowDose the CMD_DONE of that request follows it (R324). -/
theorem not_proofTest : ¬ Obligations.ProofTest := by
  unfold Obligations.ProofTest
  rintro ⟨-, -, -, hSkip, -⟩
  obtain ⟨t, ht, -, -, -, -, -, -, -, hHands⟩ := hSkip requestBelowDose (by decide +kernel) (by decide +kernel) (by decide +kernel)
    (by decide +kernel) (.inl (by decide +kernel)) (.inr (by decide +kernel))
  obtain rfl := Host.Outcome.next.inj (exec_proofChecks_requestBelowDose.symm.trans ht)
  have hOne := congrArg (fun l : Ledger => l.waiting.length) (hHands (by decide +kernel))
  exact absurd (requestSkipped_records.symm.trans (hOne.trans requestBelowDose_post)) (by decide)

end Sys2Proof.Machine
end

section
/-!
SUPPORT. The charger's phases (R154 to R170): what a change of phase shows and what it leaves of the charger's data, and what the
suspensions, the current and FEED leave of both.
-/

namespace Sys2Proof.Machine

/-! ## What a change of phase writes -/

/-- What a change of phase leaves of the charger's data: all but the timers, the tick CC began at and the mark of a raised target. -/
def Chg.beside (c : Chg) : Chg := { c with acc := 0, mark := 0, limit := 0, timed := 0, ccFrom := 0, tgtRaised := false }

/-- The same without what a suspension or a detection writes: the phase before, and the retry of ABSENT. -/
def Chg.cell (c : Chg) : Chg := { c.beside with prior := 0, absentDue := none }

theorem Chg.cell_eq_of_beside {c d : Chg} (h : c.beside = d.beside) : c.cell = d.cell :=
  congrArg (fun b : Chg => { b with prior := 0, absentDue := none }) h

/-- The bits of CHG_STATUS that follow the phase, the figures and FEED. -/
def followingBits : List Flag :=
  [F.CHG_STATUS_CVSUB, F.CHG_STATUS_REDUCED, F.CHG_STATUS_SUSP_SRC, F.CHG_STATUS_PARTIAL, F.CHG_STATUS_BELOW_BALLAST]

theorem followingBits_place : ∀ f ∈ followingBits, f.reg = R.CHG_STATUS ∧ 4 ≤ f.bit ∧ f.bit < 16 := by decide

/-- What the charger's regulation leaves: its data but the timers and the phase before, its events once set, and the bits of
CHG_STATUS beside the phase that do not follow. -/
structure KeepsCharger (s t : State) : Prop where
  cell : t.chg.cell = s.chg.cell
  events : ∀ g, g.reg = R.CHG_EVENT → s.flag g = true → t.flag g = true
  status : ∀ g, g.reg = R.CHG_STATUS → 4 ≤ g.bit → g ∉ followingBits → t.flag g = s.flag g

theorem KeepsCharger.refl (s : State) : KeepsCharger s s := ⟨rfl, fun _ _ => id, fun _ _ _ _ => rfl⟩

theorem KeepsCharger.trans {s t u : State} (h : KeepsCharger s t) (h' : KeepsCharger t u) : KeepsCharger s u where
  cell := h'.cell.trans h.cell
  events g hg hs := h'.events g hg (h.events g hg hs)
  status g hg hb hn := (h'.status g hg hb hn).trans (h.status g hg hb hn)

theorem KeepsCharger.ite {s a b : State} {c : Prop} [Decidable c] (ha : KeepsCharger s a) (hb : KeepsCharger s b) :
    KeepsCharger s (if c then a else b) := by
  split
  · exact ha
  · exact hb

theorem Touch.keepsCharger {W : List Nat} {s t : State} (h : Touch W s t)
    (hW : ∀ a ∈ [0x1409, R.CHG_EVENT, R.CHG_STATUS, 0x1430], a ∉ W) : KeepsCharger s t where
  cell := congrArg Chg.cell (h.chg (hW _ (by simp)))
  events g hg hs := by
    rw [h.flag g ⟨by rw [hg]; exact hW _ (by simp), hW _ (by simp)⟩, hs]
  status g hg _ _ := h.flag g ⟨by rw [hg]; exact hW _ (by simp), hW _ (by simp)⟩

section
variable (s : State)

/-- The charger's data written beside its cell. -/
theorem State.keepsCharger_of_cell {c : Chg} (h : c.cell = s.chg.cell) : KeepsCharger s { s with chg := c } :=
  ⟨h, fun _ _ => id, fun _ _ _ _ => rfl⟩

theorem State.setFlag_keepsCharger (f : Flag) (x : Bool) (hf : f ∈ followingBits) : KeepsCharger s (s.setFlag f x) := by
  obtain ⟨hReg, -, hBit⟩ := followingBits_place f hf
  refine ⟨rfl, fun g hg hs => ?_, fun g _ _ hNot => s.flag_setFlag_ne f x g ⟨hBit, fun e => hNot (e ▸ hf)⟩⟩
  rw [s.flag_setFlag_ne f x g ⟨hBit, fun e => absurd (hg.symm.trans (e ▸ hReg)) (by decide)⟩, hs]

theorem State.event_keepsCharger (f : Flag) (hf : f.reg = R.CHG_EVENT ∧ f.bit < 16) : KeepsCharger s (s.event f) where
  cell := rfl
  events g _ hs := s.event_flag_of_flag f hf.2 g hs
  status g hg _ _ := by
    rw [s.flag_event f g hf.2, if_neg fun e => absurd (hg.symm.trans (e ▸ hf.1)) (by decide)]

/-! ## The parts of a change of phase (R156, R158, R166, R172) -/

/-- The phase shown, with its event. -/
def State.phaseShown (p : Nat) : State :=
  if s.phaseN = p then s else (s.setField F.CHG_STATUS_PHASE p).event F.CHG_EVENT_PHASE_CHG

/-- The timers as a phase finds them. -/
def State.phaseTimed (p : Nat) : State :=
  let s := if p = phSusp then s
    else if timerOf p != 0 && timerOf p = s.chg.timed then { s with chg := { s.chg with limit := s.timerLimit (timerOf p) } }
    else { s with chg := { s.chg with timed := timerOf p, acc := 0, limit := s.timerLimit (timerOf p),
                                      ccFrom := if p = phCC || p = phTopup then s.now else s.chg.ccFrom } }
  if p = phRest then { s with chg := { s.chg with tgtRaised := false } } else s

/-- What follows the phase: the voltage part, REDUCED, the current, BATFET. -/
def State.phaseFollowed : State := (((s.setFlag F.CHG_STATUS_CVSUB false).refreshReduced).refreshIbat).refreshBatfet

theorem State.enterPhase_eq (p : Nat) : s.enterPhase p = ((s.chgSettle.phaseShown p).phaseTimed p).phaseFollowed := rfl

theorem State.phaseShown_phaseN (p : Nat) (hp : p < 16) : (s.phaseShown p).phaseN = p := by
  unfold State.phaseShown
  split
  · assumption
  · refine (State.field_setFlag_ne _ F.CHG_EVENT_PHASE_CHG true _ (by decide) (by decide)).trans ?_
    exact (s.field_setField _ p (by decide)).trans (Nat.mod_eq_of_lt hp)

theorem State.phaseShown_keepsCharger (p : Nat) : KeepsCharger s (s.phaseShown p) := by
  have hField : KeepsCharger s (s.setField F.CHG_STATUS_PHASE p) :=
    ⟨rfl, fun g hg hs => (s.flag_setField_ne _ p g (.inl (by rw [hg]; decide))).trans hs,
      fun g _ hb _ => s.flag_setField_ne _ p g (.inr (.inr hb))⟩
  exact .ite (.refl s) (hField.trans (State.event_keepsCharger _ _ (by decide)))

theorem State.phaseTimed_chg (p : Nat) : ∃ c : Chg, s.phaseTimed p = { s with chg := c } ∧ c.beside = s.chg.beside := by
  unfold State.phaseTimed
  dsimp only
  split_ifs <;> exact ⟨_, rfl, rfl⟩

theorem State.phaseFollowed_touch : Touch [0x200, R.CHG_STATUS, R.CHG_IBAT, 0x1409] s s.phaseFollowed :=
  State.refreshBatfet_touch (State.refreshIbat_touch (State.refreshReduced_touch (State.setFlag_touch (.refl _ s) _ _
    (.inl (by decide))) (Sub.of rfl)) (Sub.of rfl)) (Sub.of rfl)

/-- Beside BATFET and the current, the count of the timers alone is brought up to date. -/
theorem State.phaseFollowed_chg : ∃ n, s.phaseFollowed.chg = { s.chg with acc := n, mark := s.now } := by
  unfold State.phaseFollowed
  rw [(State.refreshBatfet_touch (.refl State.refreshBatfet_cells _) (Sub.refl _)).chg (by decide),
    (State.refreshIbat_touch (.refl State.refreshIbat_cells _) (Sub.refl _)).chg (by decide)]
  exact ⟨_, rfl⟩

theorem State.chgSettle_keepsCharger : KeepsCharger s s.chgSettle := s.keepsCharger_of_cell (c := s.chgSettle.chg) rfl

theorem State.refreshReduced_keepsCharger : KeepsCharger s s.refreshReduced :=
  s.chgSettle_keepsCharger.trans (s.chgSettle.setFlag_keepsCharger F.CHG_STATUS_REDUCED _ (by decide))

theorem State.refreshIbat_keepsCharger : KeepsCharger s s.refreshIbat :=
  (State.refreshIbat_touch (.refl State.refreshIbat_cells s) (Sub.refl _)).keepsCharger (by decide)

theorem State.refreshBatfet_keepsCharger : KeepsCharger s s.refreshBatfet :=
  (State.refreshBatfet_touch (.refl State.refreshBatfet_cells s) (Sub.refl _)).keepsCharger (by decide)

theorem State.phaseFollowed_keepsCharger : KeepsCharger s s.phaseFollowed :=
  (s.setFlag_keepsCharger F.CHG_STATUS_CVSUB false (by decide)).trans
    ((State.refreshReduced_keepsCharger _).trans ((State.refreshIbat_keepsCharger _).trans (State.refreshBatfet_keepsCharger _)))

theorem State.phaseFollowed_phaseN : s.phaseFollowed.phaseN = s.phaseN := by
  let u : State := s.setFlag F.CHG_STATUS_CVSUB false
  have hRest : Touch [0x200, R.CHG_IBAT] u.refreshReduced s.phaseFollowed :=
    State.refreshBatfet_touch (State.refreshIbat_touch (.refl _ _) (Sub.of rfl)) (Sub.of rfl)
  exact (hRest.field _ (by decide)).trans ((u.chgSettle.field_setFlag_ne _ _ _ (by decide) (by decide)).trans
    (s.field_setFlag_ne _ _ _ (by decide) (by decide)))

/-! ## A phase entered -/

theorem State.enterPhase_self_touch (p : Nat) : Touch State.enterPhase_cells s (s.enterPhase p) :=
  State.enterPhase_touch (.refl _ s) (Sub.refl _) p

theorem State.enterPhase_phaseN (p : Nat) (hp : p < 16) : (s.enterPhase p).phaseN = p := by
  obtain ⟨c, hTimed, -⟩ := (s.chgSettle.phaseShown p).phaseTimed_chg p
  rw [s.enterPhase_eq, State.phaseFollowed_phaseN, hTimed]
  exact s.chgSettle.phaseShown_phaseN p hp

theorem State.enterPhase_beside (p : Nat) : (s.enterPhase p).chg.beside = s.chg.beside := by
  obtain ⟨c, hTimed, hBeside⟩ := (s.chgSettle.phaseShown p).phaseTimed_chg p
  obtain ⟨n, hFollowed⟩ := ((s.chgSettle.phaseShown p).phaseTimed p).phaseFollowed_chg
  have hShown : (s.chgSettle.phaseShown p).chg = s.chgSettle.chg := by
    unfold State.phaseShown
    split <;> rfl
  rw [s.enterPhase_eq, hFollowed, hTimed]
  exact hBeside.trans ((congrArg Chg.beside hShown).trans (rfl : s.chgSettle.chg.beside = s.chg.beside))

/-- A change of phase is an event. -/
theorem State.enterPhase_phaseChg (p : Nat) (h : s.phaseN ≠ p) : (s.enterPhase p).flag F.CHG_EVENT_PHASE_CHG = true := by
  obtain ⟨c, hTimed, -⟩ := (s.chgSettle.phaseShown p).phaseTimed_chg p
  rw [s.enterPhase_eq, (State.phaseFollowed_touch _).flag _ (by decide), hTimed]
  change (s.chgSettle.phaseShown p).flag _ = true
  rw [State.phaseShown, if_neg (by exact h)]
  exact State.flag_setFlag_same _ _ _ (by decide)

theorem State.enterPhase_keepsCharger (p : Nat) : KeepsCharger s (s.enterPhase p) := by
  obtain ⟨c, hTimed, hBeside⟩ := (s.chgSettle.phaseShown p).phaseTimed_chg p
  rw [s.enterPhase_eq]
  refine (s.chgSettle_keepsCharger.trans (s.chgSettle.phaseShown_keepsCharger p)).trans
    (.trans ?_ (State.phaseFollowed_keepsCharger _))
  rw [hTimed]
  exact State.keepsCharger_of_cell _ (Chg.cell_eq_of_beside hBeside)

/-- CC begins or goes on with TSAFE as it stands (R156, R172). -/
theorem State.enterPhase_cc_timer : (s.enterPhase phCC).chg.timed = 3 ∧
    (s.enterPhase phCC).chg.limit = secTicks (3600 * s.field F.CHG_TIMERS_TSAFE) := by
  let u : State := s.chgSettle.phaseShown phCC
  have hLimit : u.timerLimit 3 = secTicks (3600 * s.field F.CHG_TIMERS_TSAFE) := by
    have hShown : Touch [R.CHG_STATUS, R.CHG_EVENT] s.chgSettle u := Touch.ite (.refl _ _)
      (State.event_touch (State.setField_touch (.refl _ _) _ _ (.inl (by decide))) _ (.inl (by decide)))
    exact congrArg (fun n => secTicks (3600 * n)) (hShown.field F.CHG_TIMERS_TSAFE (by decide))
  obtain ⟨n, hFollowed⟩ := (u.phaseTimed phCC).phaseFollowed_chg
  rw [s.enterPhase_eq, hFollowed, ← hLimit]
  change (u.phaseTimed phCC).chg.timed = 3 ∧ (u.phaseTimed phCC).chg.limit = u.timerLimit 3
  by_cases hGoesOn : 3 = u.chg.timed
  · have hTimed : u.phaseTimed phCC = { u with chg := { u.chg with limit := u.timerLimit 3 } } :=
      if_pos (by simpa [timerOf] using hGoesOn)
    rw [hTimed]
    exact ⟨hGoesOn.symm, rfl⟩
  · have hTimed : u.phaseTimed phCC =
        { u with chg := { u.chg with timed := 3, acc := 0, limit := u.timerLimit 3, ccFrom := u.now } } :=
      if_neg (by simpa [timerOf] using hGoesOn)
    rw [hTimed]
    exact ⟨rfl, rfl⟩

/-! ## Suspension (R167) -/

/-- The phases that a suspension leaves. -/
abbrev PhaseIdle (p : Nat) : Prop := p = phOff ∨ p = phSusp ∨ p = phFault ∨ p = phAbsent

/-- A new cause of suspension: its bit, perhaps a tally, and where the charger is not idle the suspension. -/
theorem State.chgSuspend_cases (f : Flag) (hClear : s.flag f = false) : ∃ u, Touch State.tally_cells (s.setFlag f true) u ∧
    ((PhaseIdle u.phaseN ∧ s.chgSuspend f = u) ∨ (¬PhaseIdle u.phaseN ∧
      s.chgSuspend f = ({ u with chg := { u.chg with prior := u.phaseN } }.enterPhase phSusp).event F.CHG_EVENT_SUSPEND)) := by
  let u : State := if f = F.CHG_STATUS_SUSP_ALM || f = F.CHG_STATUS_SUSP_TEMP then (s.setFlag f true).tally K.CHG_SUSPEND
    else s.setFlag f true
  refine ⟨u, Touch.ite (State.tally_touch (.refl _ _) (Sub.refl _) _) (.refl _ _), ?_⟩
  have hIdle : (decide (u.phaseN = phOff) || decide (u.phaseN = phSusp) || decide (u.phaseN = phFault) ||
      decide (u.phaseN = phAbsent)) = true ↔ PhaseIdle u.phaseN := by
    simp only [Bool.or_eq_true, decide_eq_true_eq, or_assoc]
  unfold State.chgSuspend
  rw [if_neg (by rw [hClear]; decide)]
  by_cases h : PhaseIdle u.phaseN
  · exact .inl ⟨h, if_pos (hIdle.2 h)⟩
  · exact .inr ⟨h, if_neg (mt hIdle.1 h)⟩

/-- A bit of CHG_STATUS beside the phase is set as the phase stays. -/
theorem State.setFlag_phaseN (f : Flag) (x : Bool) (hf : 4 ≤ f.bit ∧ f.bit < 16) : (s.setFlag f x).phaseN = s.phaseN :=
  s.field_setFlag_ne f x _ hf.2 (.inr (.inr hf.1))

theorem State.chgSuspend_phaseN_of_idle (f : Flag) (hf : 4 ≤ f.bit ∧ f.bit < 16) (h : PhaseIdle s.phaseN) :
    (s.chgSuspend f).phaseN = s.phaseN := by
  by_cases hSet : s.flag f = true
  · rw [State.chgSuspend, if_pos hSet]
  · obtain ⟨u, hTouch, hCase⟩ := s.chgSuspend_cases f (Bool.eq_false_iff.2 hSet)
    have hPhase : u.phaseN = s.phaseN := (hTouch.field F.CHG_STATUS_PHASE (by decide)).trans (s.setFlag_phaseN f true hf)
    rcases hCase with ⟨-, hEq⟩ | ⟨hNot, -⟩
    · rw [hEq, hPhase]
    · exact absurd (hPhase.symm ▸ h) hNot

/-- A charger that is not idle is suspended by a new cause. -/
theorem State.chgSuspend_suspends (f : Flag) (hf : 4 ≤ f.bit ∧ f.bit < 16) (hClear : s.flag f = false) (h : ¬PhaseIdle s.phaseN) :
    (s.chgSuspend f).phaseN = phSusp ∧ (s.chgSuspend f).chg.prior = s.phaseN ∧
      (s.chgSuspend f).flag F.CHG_EVENT_SUSPEND = true := by
  obtain ⟨u, hTouch, hCase⟩ := s.chgSuspend_cases f hClear
  have hPhase : u.phaseN = s.phaseN := (hTouch.field F.CHG_STATUS_PHASE (by decide)).trans (s.setFlag_phaseN f true hf)
  rcases hCase with ⟨hIdle, -⟩ | ⟨-, hEq⟩
  · exact absurd (hPhase ▸ hIdle) h
  · let v : State := { u with chg := { u.chg with prior := u.phaseN } }
    rw [hEq]
    refine ⟨(State.field_setFlag_ne _ F.CHG_EVENT_SUSPEND true _ (by decide) (by decide)).trans (v.enterPhase_phaseN _ (by decide)),
      (congrArg Chg.prior (v.enterPhase_beside phSusp)).trans hPhase, State.flag_setFlag_same _ _ _ (by decide)⟩

/-- Its own bit aside, a suspension leaves what the regulation leaves. -/
theorem State.chgSuspend_keepsCharger (f : Flag) (hClear : s.flag f = false) :
    KeepsCharger (s.setFlag f true) (s.chgSuspend f) := by
  obtain ⟨u, hTouch, hCase⟩ := s.chgSuspend_cases f hClear
  have hKeeps : KeepsCharger (s.setFlag f true) u := hTouch.keepsCharger (by decide)
  rcases hCase with ⟨-, hEq⟩ | ⟨-, hEq⟩
  · exact hEq.symm ▸ hKeeps
  · let v : State := { u with chg := { u.chg with prior := u.phaseN } }
    have hPrior : KeepsCharger u v := u.keepsCharger_of_cell rfl
    rw [hEq]
    exact hKeeps.trans (hPrior.trans ((v.enterPhase_keepsCharger phSusp).trans (State.event_keepsCharger _ _ (by decide))))

/-! ## FEED and the Tether converter (R22, R141, R167) -/

theorem State.refreshSusSrc_keepsCharger : KeepsCharger s s.refreshSusSrc := by
  unfold State.refreshSusSrc
  refine .ite (s.setFlag_keepsCharger _ _ (by decide)) ?_
  by_cases hSet : s.flag F.CHG_STATUS_SUSP_SRC = true
  · rw [State.chgSuspend, if_pos hSet]
    exact .refl s
  · exact (s.setFlag_keepsCharger _ true (by decide)).trans (s.chgSuspend_keepsCharger _ (Bool.eq_false_iff.2 hSet))

theorem State.refreshSusSrc_phaseN_of_idle (h : PhaseIdle s.phaseN) : s.refreshSusSrc.phaseN = s.phaseN := by
  unfold State.refreshSusSrc
  split
  · exact s.setFlag_phaseN _ _ (by decide)
  · exact s.chgSuspend_phaseN_of_idle _ (by decide) h

/-- FEED and the power state move the charger by SUSP_SRC alone. -/
theorem State.refreshFeed_charger : ∃ u v : State, Touch (R.SYS_STATE :: State.setPstate_cells) s u ∧
    Touch (State.refreshBatfet_cells ++ State.excClip_cells) u.refreshSusSrc v ∧ s.refreshFeed = v := by
  let fed : State := if s.flag F.SYS_STATE_FEED = s.fedNow then s else s.setFlag F.SYS_STATE_FEED s.fedNow
  let u : State := if fed.inSafe then fed else fed.setPstate (if s.fedNow then 2 else 1)
  have hFed : Touch (R.SYS_STATE :: State.setPstate_cells) s fed :=
    Touch.ite (.refl _ s) (State.setFlag_touch (.refl _ s) _ _ (.inl (by decide)))
  have hBatfet : Touch (State.refreshBatfet_cells ++ State.excClip_cells) u.refreshSusSrc u.refreshSusSrc.refreshBatfet :=
    State.refreshBatfet_touch (.refl _ _) (Sub.of rfl)
  exact ⟨u, _, Touch.ite hFed (State.setPstate_touch hFed (Sub.of rfl) _),
    Touch.ite hBatfet (State.excClip_touch hBatfet (Sub.of rfl)), rfl⟩

theorem State.refreshFeed_keepsCharger : KeepsCharger s s.refreshFeed := by
  obtain ⟨u, v, hBefore, hAfter, hEq⟩ := s.refreshFeed_charger
  rw [hEq]
  exact ((hBefore.keepsCharger (by decide)).trans u.refreshSusSrc_keepsCharger).trans (hAfter.keepsCharger (by decide))

theorem State.refreshFeed_phaseN_of_idle (h : PhaseIdle s.phaseN) : s.refreshFeed.phaseN = s.phaseN := by
  obtain ⟨u, v, hBefore, hAfter, hEq⟩ := s.refreshFeed_charger
  have hPhase : u.phaseN = s.phaseN := hBefore.field F.CHG_STATUS_PHASE (by decide)
  rw [hEq]
  exact (hAfter.field F.CHG_STATUS_PHASE (by decide)).trans ((u.refreshSusSrc_phaseN_of_idle (hPhase.symm ▸ h)).trans hPhase)

theorem State.setTetMode_self_touch (m : Nat) : Touch State.setTetMode_cells s (s.setTetMode m) :=
  State.setTetMode_touch (.refl _ s) (Sub.refl _) m

theorem State.tetMove_keepsCharger : KeepsCharger s s.tetMove :=
  .ite (.refl s) (((s.setTetMode_self_touch _).keepsCharger (by decide)).trans (State.refreshFeed_keepsCharger _))

theorem State.tetMove_phaseN_of_idle (h : PhaseIdle s.phaseN) : s.tetMove.phaseN = s.phaseN := by
  have hPhase : (s.setTetMode s.tetNext).phaseN = s.phaseN :=
    (s.setTetMode_self_touch _).field F.CHG_STATUS_PHASE (by decide)
  unfold State.tetMove
  split
  · rfl
  · rw [State.refreshFeed_phaseN_of_idle _ (hPhase.symm ▸ h), hPhase]

/-! ## Figures and targets (R156, R162, R163, R165, R172) -/

theorem State.chgTerminate_keepsCharger : KeepsCharger s s.chgTerminate :=
  (s.enterPhase_keepsCharger phTerm).trans (State.enterPhase_keepsCharger _ phRest)

theorem State.chgTerminate_phaseN : s.chgTerminate.phaseN = phRest := State.enterPhase_phaseN _ phRest (by decide)

theorem State.chgFigures_keepsCharger : KeepsCharger s s.chgFigures :=
  .trans (.trans s.refreshReduced_keepsCharger (.trans (State.refreshIbat_keepsCharger _) (State.refreshBatfet_keepsCharger _)))
    (.ite (State.chgTerminate_keepsCharger _) (.refl _))

theorem State.holdCellok_touch_own : Touch [R.CONV_TET_CTRL] s s.holdCellok :=
  Touch.ite (State.setFlag_touch (.refl _ s) _ _ (.inl (by decide))) (.refl _ s)

theorem State.refreshPartial_keepsCharger : KeepsCharger s s.refreshPartial :=
  .trans (.trans (s.setFlag_keepsCharger _ _ (by decide)) (State.setFlag_keepsCharger _ _ _ (by decide)))
    ((State.holdCellok_touch_own _).keepsCharger (by decide))

theorem State.chgRechoose_keepsCharger : KeepsCharger s s.chgRechoose := by
  let v : State := { s with chg := { s.chg with prior := s.phaseN } }
  have hPrior : KeepsCharger s v := s.keepsCharger_of_cell rfl
  exact .ite (hPrior.trans (.ite (.refl v) (v.enterPhase_keepsCharger _))) (.refl s)

theorem State.postTarget_keepsCharger (cause old new : Nat) : KeepsCharger s (s.postTarget cause old new) :=
  (State.post_touch (.refl State.post_cells s) (Sub.refl _) _ _).keepsCharger (by decide)

theorem State.targetEnd_keepsCharger : KeepsCharger s s.targetEnd :=
  .trans (s.event_keepsCharger _ (by decide)) (.trans (State.postTarget_keepsCharger _ _ _ _) (State.chgTerminate_keepsCharger _))

theorem State.targetLowered_keepsCharger : KeepsCharger s s.targetLowered := .ite s.targetEnd_keepsCharger (.refl s)

/-- A target as it is shown, with its event and the mark of a raise, before its record. -/
def State.targetShown (new : Nat) (raised : Bool) : State :=
  let u := (s.setReg R.CHG_TGT (BitVec.ofNat 16 new)).event F.CHG_EVENT_TGT_CHG
  { u with chg := { s.chg with tgtRaised := raised } }

theorem State.setTarget_of_ne {new : Nat} (cause : Nat) (h : new ≠ s.regN R.CHG_TGT) : ∃ raised, s.setTarget new cause =
    (((s.targetShown new raised).postTarget cause (s.regN R.CHG_TGT) new).refreshPartial).targetLowered := ⟨_, if_neg h⟩

theorem State.targetShown_keepsCharger (new : Nat) (raised : Bool) : KeepsCharger s (s.targetShown new raised) := by
  have hSet : KeepsCharger s (s.setReg R.CHG_TGT (BitVec.ofNat 16 new)) :=
    (State.setReg_touch (.refl [R.CHG_TGT] s) _ _ (.inl (by decide))).keepsCharger (by decide)
  exact (hSet.trans (State.event_keepsCharger _ F.CHG_EVENT_TGT_CHG (by decide))).trans (State.keepsCharger_of_cell _ rfl)

/-- What follows a target that is shown: its record, PARTIAL, and the end of a charge beyond it (R162, R163). -/
theorem State.setTarget_rest_keepsCharger (cause old new : Nat) :
    KeepsCharger s (((s.postTarget cause old new).refreshPartial).targetLowered) :=
  (s.postTarget_keepsCharger cause old new).trans
    ((State.refreshPartial_keepsCharger _).trans (State.targetLowered_keepsCharger _))

/-- CHG_TGT aside, a new target leaves what the regulation leaves. -/
theorem State.setTarget_keepsCharger (new cause : Nat) : KeepsCharger s (s.setTarget new cause) := by
  by_cases h : new = s.regN R.CHG_TGT
  · rw [State.setTarget, if_pos h]
    exact .refl s
  · obtain ⟨raised, hEq⟩ := s.setTarget_of_ne cause h
    rw [hEq]
    exact (s.targetShown_keepsCharger new raised).trans (State.setTarget_rest_keepsCharger _ _ _ _)

end
end Sys2Proof.Machine
end

section
/-!
SUPPORT. BAT measured (R204, R207, R210): the verdicts that follow at once show in VDT_STATUS, or nothing has followed; and the
charger's queue at the Ledger is left alone by them.
-/

namespace Sys2Proof.Machine

section
variable (s : State)

/-! ## What a verdict shows -/

/-- A note writes no bit of VDT_STATUS but HELD (R215). -/
theorem State.note_status (code : Nat) (critical audible : Bool) (subject : Nat) :
    (s.note code critical audible subject).reg R.VDT_STATUS = s.reg R.VDT_STATUS ∨
      (s.note code critical audible subject).reg R.VDT_STATUS = (s.setFlag F.VDT_STATUS_HELD true).reg R.VDT_STATUS := by
  unfold State.note
  dsimp only
  split_ifs
  · exact .inl rfl
  · exact .inl ((State.noteCritical_touch (.refl State.noteCritical_cells s) (Sub.refl _) _).reg _ (by decide) (by decide))
  · exact .inr rfl
  · exact .inl ((State.noteEnter_touch (.refl State.noteEnter_cells s) (Sub.refl _) _).reg _ (by decide) (by decide))

theorem State.note_cell (code : Nat) (critical audible : Bool) (subject : Nat) :
    (s.note code critical audible subject).flag F.VDT_STATUS_CELL = s.flag F.VDT_STATUS_CELL := by
  have hHeld := s.flag_setFlag_ne F.VDT_STATUS_HELD true F.VDT_STATUS_CELL (by decide)
  rcases s.note_status code critical audible subject with h | h
  · exact congrArg (bitOf · 4) h
  · exact (congrArg (bitOf · 4) h).trans hHeld

theorem State.note_reserve (code : Nat) (critical audible : Bool) (subject : Nat) :
    (s.note code critical audible subject).field F.VDT_STATUS_RESERVE = s.field F.VDT_STATUS_RESERVE := by
  have hHeld := s.field_setFlag_ne F.VDT_STATUS_HELD true F.VDT_STATUS_RESERVE (by decide) (by decide)
  rcases s.note_status code critical audible subject with h | h
  · exact congrArg (fieldOf · 0 2) h
  · exact (congrArg (fieldOf · 0 2) h).trans hHeld

theorem State.postVerdict_self_touch (critical : Bool) (cause : Nat) :
    Touch State.postVerdict_cells s (s.postVerdict critical cause) := State.postVerdict_touch (.refl _ s) (Sub.refl _) critical cause

/-- What the record of CELL's verdict shows and a note keeps, a change of CELL shows (R204, R210). -/
theorem State.refreshCell_induction {P : State → Prop} (cause : Nat) (hSame : s.refreshCell cause = s → P s)
    (hVerdict : s.flag F.VDT_STATUS_CELL ≠ s.cellFaulty → P ((s.setFlag F.VDT_STATUS_CELL s.cellFaulty).postVerdict false cause))
    (hNote : ∀ t code critical audible subject, P t → P (State.note t code critical audible subject)) :
    P (s.refreshCell cause) := by
  by_cases h : (!s.boot.core || decide (s.flag F.VDT_STATUS_CELL = s.cellFaulty)) = true
  · have hEq : s.refreshCell cause = s := if_pos h
    rw [hEq]
    exact hSame hEq
  · have hShown := hVerdict fun e => h (by simp [e])
    rw [State.refreshCell, if_neg h]
    dsimp only
    split
    · exact hNote _ _ _ _ _ hShown
    · exact hShown

/-- What the record of RESERVE's verdict shows and a note keeps, a change of RESERVE shows (R204, R207). -/
theorem State.setReserve_induction {P : State → Prop} {v : Nat} (cause : Nat) (hNe : s.field F.VDT_STATUS_RESERVE ≠ v)
    (hVerdict : P ((s.setField F.VDT_STATUS_RESERVE v).postVerdict (v == 2) cause))
    (hNote : ∀ t code critical audible subject, P t → P (State.note t code critical audible subject)) :
    P (s.setReserve v cause) := by
  rw [State.setReserve, if_neg hNe]
  dsimp only
  split
  · exact hNote _ _ _ _ _ hVerdict
  · exact hNote _ _ _ _ _ hVerdict
  · split
    · exact hNote _ _ _ _ _ (hNote _ _ _ _ _ hVerdict)
    · exact hNote _ _ _ _ _ hVerdict

/-- CELL turns, or nothing has followed (R204, R210). -/
theorem State.refreshCell_cases (cause : Nat) :
    s.refreshCell cause = s ∨ (s.refreshCell cause).flag F.VDT_STATUS_CELL = !s.flag F.VDT_STATUS_CELL := by
  by_cases hEq : s.refreshCell cause = s
  · exact .inl hEq
  · refine .inr (s.refreshCell_induction (P := fun t => t.flag F.VDT_STATUS_CELL = !s.flag F.VDT_STATUS_CELL) cause
      (fun h => absurd h hEq) (fun hTurns => ?_) (fun t _ _ _ _ ht => (t.note_cell _ _ _ _).trans ht))
    exact ((State.postVerdict_self_touch _ _ _).flag _ (by decide)).trans
      ((s.flag_setFlag_same _ _ (by decide)).trans (Bool.eq_not_of_ne hTurns.symm))

/-- RESERVE takes its value, or had it and nothing has followed (R204, R207). -/
theorem State.setReserve_cases (v cause : Nat) (hv : v < 4) :
    s.setReserve v cause = s ∨ ((s.setReserve v cause).field F.VDT_STATUS_RESERVE = v ∧ s.field F.VDT_STATUS_RESERVE ≠ v) := by
  by_cases h : s.field F.VDT_STATUS_RESERVE = v
  · exact .inl (if_pos h)
  · refine .inr ⟨s.setReserve_induction (P := fun t => t.field F.VDT_STATUS_RESERVE = v) cause h ?_
      (fun t _ _ _ _ ht => (t.note_reserve _ _ _ _).trans ht), h⟩
    exact ((State.postVerdict_self_touch _ _ _).field _ (by decide)).trans
      ((s.field_setField _ v (by decide)).trans (Nat.mod_eq_of_lt hv))

theorem State.setReserve_cell (v cause : Nat) : (s.setReserve v cause).flag F.VDT_STATUS_CELL = s.flag F.VDT_STATUS_CELL := by
  by_cases h : s.field F.VDT_STATUS_RESERVE = v
  · rw [State.setReserve, if_pos h]
  · refine s.setReserve_induction (P := fun t => t.flag F.VDT_STATUS_CELL = s.flag F.VDT_STATUS_CELL) cause h ?_
      (fun t _ _ _ _ ht => (t.note_cell _ _ _ _).trans ht)
    exact ((State.postVerdict_self_touch _ _ _).flag _ (by decide)).trans (s.flag_setField_ne _ _ _ (by decide))

/-- With VDT_STATUS as it was, no verdict has followed. -/
theorem State.chgVerdict_of_status (h : s.chgVerdict.reg R.VDT_STATUS = s.reg R.VDT_STATUS) : s.chgVerdict = s := by
  let u : State := s.refreshCell 3
  have hCell : s.chgVerdict.flag F.VDT_STATUS_CELL = s.flag F.VDT_STATUS_CELL := congrArg (bitOf · 4) h
  have hReserve : s.chgVerdict.field F.VDT_STATUS_RESERVE = s.field F.VDT_STATUS_RESERVE := congrArg (fieldOf · 0 2) h
  have hVerdict : s.chgVerdict = u ∨ s.chgVerdict = u.setReserve 2 1 := by
    by_cases hCrit : (u.boot.core && u.criticalNow) = true
    · exact .inr (if_pos hCrit)
    · exact .inl (if_neg hCrit)
  have hU : u = s := by
    have hSame : u.flag F.VDT_STATUS_CELL = s.flag F.VDT_STATUS_CELL := by
      rcases hVerdict with e | e
      · rw [← e, hCell]
      · rw [← u.setReserve_cell 2 1, ← e, hCell]
    refine (s.refreshCell_cases 3).resolve_right fun hTurned => ?_
    exact absurd (hSame.symm.trans hTurned) (by cases s.flag F.VDT_STATUS_CELL <;> decide)
  rw [hU] at hVerdict
  rcases hVerdict with e | e
  · exact e
  · rw [e]
    refine (s.setReserve_cases 2 1 (by decide)).resolve_right fun ⟨hTwo, hNot⟩ => hNot ?_
    rw [← hReserve, e, hTwo]

/-! ## BAT measured -/

theorem State.chgVerdict_self_touch : Touch State.chgVerdict_cells s s.chgVerdict := State.chgVerdict_touch (.refl _ s) (Sub.refl _)

theorem State.setBat_self_touch (bat : Nat) : Touch State.setBat_cells s (s.setBat bat) :=
  State.setBat_touch (.refl _ s) (Sub.refl _) bat

theorem State.setBat_chg (bat : Nat) : (s.setBat bat).chg = { s.chg with bat := bat } := by
  unfold State.setBat
  rw [(State.chgVerdict_self_touch _).chg (by decide),
    (State.refreshBatfet_touch (.refl State.refreshBatfet_cells _) (Sub.refl _)).chg (by decide)]

theorem State.setBat_phaseN (bat : Nat) : (s.setBat bat).phaseN = s.phaseN := (s.setBat_self_touch bat).field _ (by decide)

theorem State.setBat_chgHeld (bat : Nat) : (s.setBat bat).chgHeld = s.chgHeld := by
  have hReg := (s.setBat_self_touch bat).reg R.CHG_STATUS (by decide) (by decide)
  simp only [State.chgHeld, State.flag, hReg]

theorem State.setBat_series (bat : Nat) : (s.setBat bat).series = s.series := by
  unfold State.series State.chem
  rw [(s.setBat_self_touch bat).boot (by decide)]

/-- With VDT_STATUS as it was, the Ledger takes a record as it took it before BAT was measured. -/
theorem State.setBat_sameIntake (bat : Nat) (h : (s.setBat bat).reg R.VDT_STATUS = s.reg R.VDT_STATUS) :
    SameIntake s (s.setBat bat) := by
  let u : State := State.refreshBatfet { s with chg := { s.chg with bat := bat } }
  have hU : Touch [0x200, 0x1409] s u := State.refreshBatfet_touch (Touch.update (.refl _ s) (h_chg := .inr (by decide))) (Sub.of rfl)
  have hVerdict : s.setBat bat = u := u.chgVerdict_of_status (h.trans (hU.reg _ (by decide) (by decide)).symm)
  rw [hVerdict]
  exact hU.sameIntake (by decide)

/-! ## The charger's queue at the Ledger (R315) -/

/-- The charger's records that wait. -/
def State.chargerQueue : List Rec := s.lgr.waiting.filter fun r => r.prod == 0x04

theorem State.hasRoom_of_chargerQueue {s t : State} (h : t.chargerQueue = s.chargerQueue) (cls : Nat) :
    t.lgr.hasRoom cls 0x04 = s.lgr.hasRoom cls 0x04 := by
  have hClass (u : State) : u.lgr.waiting.filter (fun r => r.cls == cls && r.prod == 0x04) =
      u.chargerQueue.filter fun r => r.cls == cls := (List.filter_filter ..).symm
  simp only [Ledger.hasRoom, hClass, h]

/-- A queue of the charger that is left alone has the room it had. -/
theorem State.roomFor_of_chargerQueue {s t : State} {k : Kind} (hQueue : t.chargerQueue = s.chargerQueue)
    (hStatus : t.reg R.LGR_STATUS = s.reg R.LGR_STATUS) (hk : k.prod = 0x04) (h : s.roomFor k) : t.roomFor k := by
  obtain ⟨hDead, hRoom⟩ := h
  refine ⟨by simpa only [State.ledgerDead, State.flag, hStatus] using hDead, ?_⟩
  rw [hk] at hRoom ⊢
  rw [State.hasRoom_of_chargerQueue hQueue, hRoom]

theorem State.chargerQueue_of_waiting {s t : State} (h : t.lgr.waiting = s.lgr.waiting) : t.chargerQueue = s.chargerQueue := by
  unfold State.chargerQueue
  rw [h]

theorem State.post_chargerQueue (k : Kind) (p : List Byte) (hk : k.prod ≠ 0x04) : (s.post k p).chargerQueue = s.chargerQueue := by
  have hOther : (k.prod == 0x04) = false := by simpa using hk
  unfold State.post
  dsimp only
  split_ifs
  · rfl
  · simp [State.chargerQueue, hOther]
  · rfl
  · exact State.chargerQueue_of_waiting (s.tally_waiting k)

theorem State.postVerdict_chargerQueue (critical : Bool) (cause : Nat) :
    (s.postVerdict critical cause).chargerQueue = s.chargerQueue :=
  s.post_chargerQueue _ _ (by cases critical <;> decide)

theorem State.note_chargerQueue (code : Nat) (critical audible : Bool) (subject : Nat) :
    (s.note code critical audible subject).chargerQueue = s.chargerQueue :=
  State.chargerQueue_of_waiting (s.note_waiting code critical audible subject)

theorem State.refreshCell_chargerQueue (cause : Nat) : (s.refreshCell cause).chargerQueue = s.chargerQueue :=
  s.refreshCell_induction (P := fun t => t.chargerQueue = s.chargerQueue) cause (fun _ => rfl)
    (fun _ => State.postVerdict_chargerQueue _ _ _)
    (fun t _ _ _ _ ht => (t.note_chargerQueue _ _ _ _).trans ht)

theorem State.setReserve_chargerQueue (v cause : Nat) : (s.setReserve v cause).chargerQueue = s.chargerQueue := by
  by_cases h : s.field F.VDT_STATUS_RESERVE = v
  · rw [State.setReserve, if_pos h]
  · exact s.setReserve_induction (P := fun t => t.chargerQueue = s.chargerQueue) cause h (State.postVerdict_chargerQueue _ _ _)
      (fun t _ _ _ _ ht => (t.note_chargerQueue _ _ _ _).trans ht)

theorem State.chgVerdict_chargerQueue : s.chgVerdict.chargerQueue = s.chargerQueue := by
  unfold State.chgVerdict
  dsimp only
  split
  · rw [State.setReserve_chargerQueue, State.refreshCell_chargerQueue]
  · exact s.refreshCell_chargerQueue 3

/-- A measurement of BAT leaves room for the charger's records. -/
theorem State.setBat_roomFor (bat : Nat) {k : Kind} (hk : k.prod = 0x04) (h : s.roomFor k) : (s.setBat bat).roomFor k := by
  let u : State := State.refreshBatfet { s with chg := { s.chg with bat := bat } }
  have hU : u.lgr = s.lgr := (State.refreshBatfet_touch (.refl State.refreshBatfet_cells _) (Sub.refl _)).lgr (by decide)
  exact State.roomFor_of_chargerQueue (u.chgVerdict_chargerQueue.trans (State.chargerQueue_of_waiting (by rw [hU])))
    ((s.setBat_self_touch bat).reg _ (by decide) (by decide)) hk h

end
end Sys2Proof.Machine
end

section
/-!
SUPPORT. Detection of the cell (R154 to R156, R158): DETECT begun, its two ends, and O19.
-/

namespace Sys2Proof.Machine

section
variable (s : State)

/-- The phase in which a detection begins, or waits (R155, R167). -/
theorem State.chgDetect_shows (hAllowed : s.chgAllowed = true) :
    s.chgDetect.phaseN = (if s.chgHeld then phSusp else phDetect) ∧ s.chgDetect.chg.absentDue = none ∧ s.chgDetect.lgr = s.lgr ∧
      (s.phaseN ≠ phSusp → s.phaseN ≠ phDetect → s.chgDetect.flag F.CHG_EVENT_PHASE_CHG = true) := by
  have hEnter (u : State) (p : Nat) (hp : p < 16) (hDue : u.chg.absentDue = none) (hLgr : u.lgr = s.lgr)
      (hPhase : u.phaseN = s.phaseN) : (u.enterPhase p).phaseN = p ∧ (u.enterPhase p).chg.absentDue = none ∧
      (u.enterPhase p).lgr = s.lgr ∧ (s.phaseN ≠ p → (u.enterPhase p).flag F.CHG_EVENT_PHASE_CHG = true) :=
    ⟨u.enterPhase_phaseN p hp, (congrArg Chg.absentDue (u.enterPhase_beside p)).trans hDue,
      ((u.enterPhase_self_touch p).lgr (by decide)).trans hLgr, fun h => u.enterPhase_phaseChg p (hPhase.symm ▸ h)⟩
  let v : State := { s with chg := { s.chg with absentDue := none } }
  by_cases hHeld : s.chgHeld = true
  · have hEq : s.chgDetect = { v with chg := { v.chg with prior := phDetect } }.enterPhase phSusp :=
      (if_neg (by simp [hAllowed])).trans (if_pos hHeld)
    obtain ⟨hPhase, hDue, hLgr, hEvent⟩ := hEnter { v with chg := { v.chg with prior := phDetect } } phSusp (by decide) rfl rfl rfl
    rw [hEq, if_pos hHeld]
    exact ⟨hPhase, hDue, hLgr, fun h _ => hEvent h⟩
  · have hEq : s.chgDetect = { v with chg := { v.chg with prior := v.phaseN } }.enterPhase phDetect :=
      (if_neg (by simp [hAllowed])).trans (if_neg hHeld)
    obtain ⟨hPhase, hDue, hLgr, hEvent⟩ := hEnter { v with chg := { v.chg with prior := v.phaseN } } phDetect (by decide) rfl rfl rfl
    rw [hEq, if_neg hHeld]
    exact ⟨hPhase, hDue, hLgr, fun _ h => hEvent h⟩

/-- Detection is begun in OFF, after a cleared fault, or in ABSENT once its time is over (R155). -/
abbrev State.DetectionDue : Prop :=
  s.phaseN = phOff ∨ (s.phaseN = phFault ∧ s.chg.fault = 0) ∨ (s.phaseN = phAbsent ∧ s.elapsed s.chg.absentDue = true)

/-- CHG_DETECT (R155). -/
theorem chgDetect_gives (hs : s.live = true) (hAllowed : s.chgAllowed = true) (hDue : s.DetectionDue) :
    Gives (.chgDetect) s fun t =>
      (t.phaseN = (if s.chgHeld then phSusp else phDetect)) ∧ t.flag F.CHG_EVENT_PHASE_CHG ∧ t.chg.absentDue = none ∧
      t.lgr = s.lgr := by
  obtain ⟨hPhase, hAbsent, hLgr, hEvent⟩ := s.chgDetect_shows hAllowed
  refine Gives.of_when rfl (by simpa [hs, hAllowed, or_assoc] using hDue) ⟨hPhase, ?_, hAbsent, hLgr⟩
  rcases hDue with h | ⟨h, -⟩ | ⟨h, -⟩ <;> exact hEvent (by rw [h]; decide) (by rw [h]; decide)

/-- CHG_ABSENT_RETRY (R155). -/
theorem chgAbsentRetry_gives (hs : s.live = true) (hAllowed : s.chgAllowed = true) (hAbsent : s.phaseN = phAbsent)
    (hDue : s.elapsed s.chg.absentDue = true) : Gives (.chgAbsentRetry) s fun t =>
      (t.phaseN = (if s.chgHeld then phSusp else phDetect)) ∧ t.chg.absentDue = none ∧ t.lgr = s.lgr := by
  obtain ⟨hPhase, hNone, hLgr, -⟩ := s.chgDetect_shows hAllowed
  exact Gives.of_when rfl (by simp [hs, hAbsent, hDue]) ⟨hPhase, hNone, hLgr⟩

/-- The cell is absent (R155): the first absence after a present cell is recorded with BAT and the phase before. -/
theorem State.cellAbsent_shows : s.cellAbsent.phaseN = phAbsent ∧ s.cellAbsent.flag F.CHG_EVENT_ABSENT = true ∧
    s.cellAbsent.chg.bat = s.chg.bat ∧ s.cellAbsent.chg.cellSeen = false ∧
    s.cellAbsent.chg.absentDue = some (s.now + secTicks 60) ∧ (s.chg.cellSeen = true → s.roomFor K.CELL_ABSENT →
      s.cellAbsent.holds K.CELL_ABSENT (beBytes 2 (volt20 s.chg.bat) ++ [byte s.chg.prior])) := by
  let e : State := s.enterPhase phAbsent
  let v : State := e.event F.CHG_EVENT_ABSENT
  let w : State := if v.chg.cellSeen then v.post K.CELL_ABSENT (beBytes 2 (volt20 v.chg.bat) ++ [byte s.chg.prior]) else v
  let x : State := { w with chg := { w.chg with cellSeen := false, absentDue := w.timer (secTicks 60) } }
  have hV : Touch State.enterPhase_cells s v := State.event_touch (s.enterPhase_self_touch _) _ (.inl (by decide))
  have hW : Touch State.post_cells v w := Touch.ite (State.post_touch (.refl _ v) (Sub.refl _) _ _) (.refl _ v)
  have hX : Touch (0x1409 :: State.post_cells) v x := Touch.update (hW.mono (Sub.of rfl)) (h_chg := .inr (by decide))
  have hVerdict : Touch State.chgVerdict_cells x x.chgVerdict := x.chgVerdict_self_touch
  have hBeside : v.chg.beside = s.chg.beside := s.enterPhase_beside phAbsent
  have hBat : v.chg.bat = s.chg.bat := (congrArg Chg.bat hBeside :)
  change x.chgVerdict.phaseN = _ ∧ x.chgVerdict.flag _ = true ∧ x.chgVerdict.chg.bat = _ ∧ x.chgVerdict.chg.cellSeen = false ∧
    x.chgVerdict.chg.absentDue = _ ∧ (_ → _ → x.chgVerdict.holds _ _)
  rw [hVerdict.chg (by decide), hVerdict.flag _ (by decide), hX.flag _ (by decide)]
  refine ⟨?_, e.flag_setFlag_same _ _ (by decide), ?_, rfl, ?_, fun hSeen hRoom => ?_⟩
  · calc x.chgVerdict.phaseN = x.phaseN := hVerdict.field _ (by decide)
      _ = v.phaseN := hX.field _ (by decide)
      _ = e.phaseN := e.field_setFlag_ne _ _ _ (by decide) (by decide)
      _ = phAbsent := s.enterPhase_phaseN _ (by decide)
  · exact (congrArg Chg.bat (hW.chg (by decide))).trans hBat
  · exact congrArg (fun n => some (n + secTicks 60)) ((hW.now (by decide)).trans (hV.now (by decide)))
  · refine RecordsStay.holds (s := w) x.chgVerdict_stay ?_
    have hSeenV : v.chg.cellSeen = true := (congrArg Chg.cellSeen hBeside :).trans hSeen
    rw [show w = v.post K.CELL_ABSENT (beBytes 2 (volt20 v.chg.bat) ++ [byte s.chg.prior]) from if_pos hSeenV, hBat]
    exact v.post_holds _ _ ((hV.sameIntake (by decide)).roomFor hRoom)

/-- What the test of DETECT takes for a missing cell (R155). -/
abbrev State.NoCell (bat peak : Nat) : Prop := bat < s.series * 500 ∨ s.series * (s.regN R.CHG_VREG * 10 + 200) < peak

theorem State.setBat_noCell (bat peak : Nat) : (s.setBat bat).NoCell bat peak ↔ s.NoCell bat peak := by
  rw [State.NoCell, s.setBat_series, (s.setBat_self_touch bat).regN R.CHG_VREG (by decide)]

/-- CHG_DETECT_DONE without a cell (R155). -/
theorem chgDetectDone_absent_gives (bat peak : Nat) (hs : s.live = true) (hPhase : s.phaseN = phDetect) (hNone : s.NoCell bat peak) :
    Gives (.chgDetectDone bat peak) s fun t =>
      t.phaseN = phAbsent ∧ t.flag F.CHG_EVENT_ABSENT ∧ t.chg.bat = bat ∧ t.chg.cellSeen = false ∧
      t.chg.absentDue = some (s.now + secTicks 60) ∧
      (s.chg.cellSeen → s.roomFor K.CELL_ABSENT → t.holds K.CELL_ABSENT (beBytes 2 (volt20 bat) ++ [byte s.chg.prior])) := by
  refine Gives.of_when rfl (by simp [hs, hPhase]) ?_
  have hTest := (s.setBat_noCell bat peak).2 hNone
  dsimp only
  rw [if_pos (by simpa using hTest)]
  have hShows := (s.setBat bat).cellAbsent_shows
  rw [s.setBat_chg, (s.setBat_self_touch bat).now (by decide)] at hShows
  obtain ⟨hAbsent, hEvent, hBat, hSeen, hDue, hRecord⟩ := hShows
  exact ⟨hAbsent, hEvent, hBat, hSeen, hDue, fun hBefore hRoom => hRecord hBefore (s.setBat_roomFor bat rfl hRoom)⟩

/-- R158 names a phase below 8. -/
theorem State.nextPhase_lt : s.nextPhase < 8 := by
  unfold State.nextPhase
  split_ifs <;> decide

/-- The phase that R158 names is not DETECT. -/
theorem State.nextPhase_ne_detect : s.nextPhase ≠ phDetect := by
  unfold State.nextPhase
  split_ifs <;> decide

/-- R158 as it reads with BAT measured. -/
theorem State.setBat_nextPhase (bat : Nat) : (s.setBat bat).nextPhase =
    if bat < s.series * chemVpre s.chem then phPre else if (s.setBat bat).topupHolds then
      (if s.chg.prior = phRest ∨ s.chg.prior = phTopup then phTopup else phCC) else phRest := by
  have hChem : (s.setBat bat).chem = s.chem := by
    unfold State.chem
    rw [(s.setBat_self_touch bat).boot (by decide)]
  unfold State.nextPhase
  rw [s.setBat_series, hChem, s.setBat_chg]
  simp only [Bool.not_eq_true', Bool.or_eq_true, decide_eq_true_eq, ← Bool.not_eq_true, ite_not]

/-- CHG_DETECT_DONE with a cell (R155, R158). -/
theorem chgDetectDone_present_gives (bat peak : Nat) (hs : s.live = true) (hPhase : s.phaseN = phDetect)
    (hLow : s.series * 500 ≤ bat) (hHigh : peak ≤ s.series * (s.regN R.CHG_VREG * 10 + 200)) :
    Gives (.chgDetectDone bat peak) s fun t =>
      (t.phaseN = (if bat < s.series * chemVpre s.chem then phPre else if (s.setBat bat).topupHolds then (if s.chg.prior
        = phRest ∨ s.chg.prior = phTopup then phTopup else phCC) else phRest)) ∧
      t.chg.cellSeen ∧ t.chg.bat = bat ∧ t.flag F.CHG_EVENT_PHASE_CHG := by
  refine Gives.of_when rfl (by simp [hs, hPhase]) ?_
  have hTest : ¬(s.setBat bat).NoCell bat peak := by
    rw [s.setBat_noCell]
    rintro (h | h) <;> omega
  dsimp only
  rw [if_neg (by simpa using hTest), ← s.setBat_nextPhase]
  let u : State := s.setBat bat
  let v : State := { u with chg := { u.chg with cellSeen := true } }
  have hCell := State.refreshCell_touch (.refl State.refreshCell_cells (v.enterPhase u.nextPhase)) (Sub.refl _) 3
  have hBeside := v.enterPhase_beside u.nextPhase
  have hMoves : v.phaseN ≠ u.nextPhase := fun e => u.nextPhase_ne_detect (e.symm.trans ((s.setBat_phaseN bat).trans hPhase))
  change ((v.enterPhase u.nextPhase).refreshCell 3).phaseN = _ ∧ ((v.enterPhase u.nextPhase).refreshCell 3).chg.cellSeen = true ∧
    ((v.enterPhase u.nextPhase).refreshCell 3).chg.bat = _ ∧ ((v.enterPhase u.nextPhase).refreshCell 3).flag _ = true
  rw [hCell.chg (by decide), hCell.flag _ (by decide)]
  refine ⟨(hCell.field _ (by decide)).trans (v.enterPhase_phaseN _ (by have := u.nextPhase_lt; omega)),
    congrArg Chg.cellSeen hBeside, (congrArg Chg.bat hBeside).trans (congrArg Chg.bat (s.setBat_chg bat)),
    v.enterPhase_phaseChg _ hMoves⟩

end

/-- Settles O19: a clause for each command of the detection, in the statement's order. -/
theorem chargerDetection : Obligations.ChargerDetection := by
  unfold Obligations.ChargerDetection
  exact ⟨chgDetect_gives, chgDetectDone_absent_gives, chgDetectDone_present_gives, chgAbsentRetry_gives⟩

end Sys2Proof.Machine
end

section
/-!
SUPPORT. The charger's phases in CHARGE, REST and TOP-UP (R156, R162 to R164), LIMITED operation (R159), the Ballast (R160, R161), and
O20.
-/

namespace Sys2Proof.Machine

theorem Touch.group {W : List Nat} {s t : State} (h : Touch W s t) (a n : Nat) (ha : (∀ k < n, a + k ∉ W) ∧ 0x1430 ∉ W) :
    t.group a n = s.group a n := by
  unfold State.group
  refine List.foldl_ext _ _ _ fun x k hk => ?_
  rw [h.regN (a + k) ⟨ha.1 k (List.mem_range.1 hk), ha.2⟩]

/-- What follows a measurement of BAT without a verdict and without a record leaves the Ledger alone. -/
theorem Touch.setBat_lgr {W : List Nat} {s t : State} {bat : Nat} (h : Touch W (s.setBat bat) t)
    (hW : R.VDT_STATUS ∉ W ∧ 0x140f ∉ W ∧ 0x1430 ∉ W) (hStatus : t.reg R.VDT_STATUS = s.reg R.VDT_STATUS) : t.lgr = s.lgr :=
  (h.lgr hW.2.1).trans (s.setBat_sameIntake bat ((h.reg _ hW.1 hW.2.2).symm.trans hStatus)).lgr

section
variable (s : State)

/-! ## CC, CV and REST (R156, R162 to R164) -/

/-- CHG_PRECONDITION_DONE (R156). -/
theorem chgPreconditionDone_gives (bat : Nat) (hs : s.live = true) (hPhase : s.phaseN = phPre)
    (hReached : s.series * (chemVpre s.chem + 100) ≤ bat) : Gives (.chgPreconditionDone bat) s fun t =>
      t.phaseN = phCC ∧ t.chg.bat = bat ∧ t.chg.timed = 3 ∧ t.chg.limit = secTicks (3600 * s.field F.CHG_TIMERS_TSAFE) ∧
      t.flag F.CHG_EVENT_PHASE_CHG ∧ (t.reg R.VDT_STATUS = s.reg R.VDT_STATUS → t.lgr = s.lgr) := by
  refine Gives.of_when rfl (by simp [hs, hPhase, hReached]) ?_
  let u : State := s.setBat bat
  obtain ⟨hTimed, hLimit⟩ := u.enterPhase_cc_timer
  rw [(s.setBat_self_touch bat).field _ (by decide)] at hLimit
  have hMoves : u.phaseN ≠ phCC := fun e => absurd (hPhase.symm.trans ((s.setBat_phaseN bat).symm.trans e)) (by decide)
  exact ⟨u.enterPhase_phaseN _ (by decide),
    (congrArg Chg.bat (u.enterPhase_beside phCC) :).trans (congrArg Chg.bat (s.setBat_chg bat)), hTimed, hLimit,
    u.enterPhase_phaseChg _ hMoves, (u.enterPhase_self_touch phCC).setBat_lgr (by decide)⟩

/-- CHG_CV_ENTRY (R156). -/
theorem chgCvEntry_gives (bat : Nat) (hs : s.live = true) (hReached : s.series * s.vreg ≤ bat) :
    Gives (.chgCvEntry bat) s fun t =>
      (s.phaseN = phCC → t.phaseN = phCV) ∧ (s.phaseN = phTopup → t.phaseN = phTopup ∧ t.flag F.CHG_STATUS_CVSUB) ∧
      (s.phaseN ≠ phCC → s.phaseN ≠ phTopup → t = s) ∧ (t.reg R.VDT_STATUS = s.reg R.VDT_STATUS → t.lgr = s.lgr) := by
  refine Gives.of_when rfl (by simp [hs, hReached]) ?_
  let u : State := s.setBat bat
  by_cases hCC : s.phaseN = phCC
  · rw [if_pos hCC]
    exact ⟨fun _ => u.enterPhase_phaseN _ (by decide), fun h => absurd (hCC.symm.trans h) (by decide),
      fun h => absurd hCC h, (u.enterPhase_self_touch phCV).setBat_lgr (by decide)⟩
  · rw [if_neg hCC]
    by_cases hTopup : s.phaseN = phTopup
    · rw [if_pos hTopup]
      have hCvsub : Touch [R.CHG_STATUS] u (u.setFlag F.CHG_STATUS_CVSUB true) :=
        State.setFlag_touch (.refl _ u) _ _ (.inl (by decide))
      exact ⟨fun h => absurd h hCC, fun _ => ⟨(u.setFlag_phaseN _ _ (by decide)).trans ((s.setBat_phaseN bat).trans hTopup),
        u.flag_setFlag_same _ _ (by decide)⟩, fun _ h => absurd hTopup h, hCvsub.setBat_lgr (by decide)⟩
    · rw [if_neg hTopup]
      exact ⟨fun h => absurd h hCC, fun h => absurd h hTopup, fun _ _ => rfl, fun _ => rfl⟩

theorem State.refreshPartial_phaseN : s.refreshPartial.phaseN = s.phaseN := by
  let u : State := s.setFlag F.CHG_STATUS_PARTIAL s.partialMode
  exact ((State.holdCellok_touch_own _).field F.CHG_STATUS_PHASE (by decide)).trans
    ((u.setFlag_phaseN _ _ (by decide)).trans (s.setFlag_phaseN _ _ (by decide)))

theorem State.chgTerminate_self_touch : Touch State.chgTerminate_cells s s.chgTerminate :=
  State.chgTerminate_touch (.refl _ s) (Sub.refl _)

theorem State.refreshPartial_self_touch : Touch State.refreshPartial_cells s s.refreshPartial :=
  State.refreshPartial_touch (.refl _ s) (Sub.refl _)

/-- CHG_TERM_CURRENT (R156, R164). -/
theorem chgTermCurrent_gives (bat : Nat) (hs : s.live = true)
    (hPhase : s.phaseN = phCV ∨ (s.phaseN = phTopup ∧ s.flag F.CHG_STATUS_CVSUB = true)) : Gives (.chgTermCurrent bat) s fun t =>
      t.phaseN = phRest ∧ t.flag F.CHG_EVENT_FULL ∧ t.flag F.CHG_STATUS_FULLREQ = false ∧ t.chg.bat = bat ∧
      (t.reg R.VDT_STATUS = s.reg R.VDT_STATUS → s.hands t K.CHG_FULL (beBytes 2 (volt20 bat) ++ beBytes 2 (s.regN
        R.CHG_SOC) ++ beBytes 2 ((s.now - s.chg.ccFrom) / secTicks 60) ++ [boolByte (s.flag F.CHG_STATUS_FULLREQ)])) := by
  refine Gives.of_when rfl (by simpa [hs] using hPhase) ?_
  let b : State := s.setBat bat
  let u : State := b.event F.CHG_EVENT_FULL
  let w : State := u.post K.CHG_FULL (beBytes 2 (volt20 bat) ++ beBytes 2 (u.regN R.CHG_SOC) ++
    beBytes 2 ((u.now - u.chg.ccFrom) / secTicks 60) ++ [boolByte (u.flag F.CHG_STATUS_FULLREQ)])
  let x : State := w.setFlag F.CHG_STATUS_FULLREQ false
  let t : State := x.chgTerminate.refreshPartial
  have hU : Touch [R.CHG_EVENT] b u := State.event_touch (.refl _ b) _ (.inl (by decide))
  have hW : Touch State.post_cells u w := State.post_touch (.refl _ u) (Sub.refl _) _ _
  have hX : Touch [R.CHG_STATUS] w x := State.setFlag_touch (.refl _ w) _ _ (.inl (by decide))
  have hT : Touch (State.chgTerminate_cells ++ State.refreshPartial_cells) x t :=
    State.refreshPartial_touch (State.chgTerminate_touch (.refl _ x) (Sub.of rfl)) (Sub.of rfl)
  have hKeeps : KeepsCharger x t := x.chgTerminate_keepsCharger.trans (State.refreshPartial_keepsCharger _)
  change t.phaseN = _ ∧ t.flag _ = true ∧ t.flag _ = false ∧ t.chg.bat = _ ∧ (t.reg _ = _ → t.lgr = _)
  refine ⟨?_, ?_, ?_, ?_, fun hStatus => ?_⟩
  · exact (State.refreshPartial_phaseN _).trans x.chgTerminate_phaseN
  · refine hKeeps.events _ rfl ?_
    rw [hX.flag _ (by decide), hW.flag _ (by decide)]
    exact b.flag_setFlag_same _ _ (by decide)
  · rw [hKeeps.status _ rfl (by decide) (by decide)]
    exact w.flag_setFlag_same _ _ (by decide)
  · calc t.chg.bat = x.chg.bat := (congrArg Chg.bat hKeeps.cell :)
      _ = u.chg.bat := congrArg Chg.bat (hW.chg (by decide))
      _ = bat := congrArg Chg.bat (s.setBat_chg bat)
  · have hB : SameIntake s b := s.setBat_sameIntake bat <| by
      rw [← hU.reg _ (by decide) (by decide), ← hW.reg _ (by decide) (by decide), ← hX.reg _ (by decide) (by decide),
        ← hT.reg _ (by decide) (by decide), hStatus]
    have hSoc : u.regN R.CHG_SOC = s.regN R.CHG_SOC :=
      (hU.regN _ (by decide)).trans ((s.setBat_self_touch bat).regN _ (by decide))
    have hFullreq : u.flag F.CHG_STATUS_FULLREQ = s.flag F.CHG_STATUS_FULLREQ :=
      (hU.flag _ (by decide)).trans ((s.setBat_self_touch bat).flag _ (by decide))
    have hCcFrom : u.chg.ccFrom = s.chg.ccFrom := (congrArg Chg.ccFrom (s.setBat_chg bat) :)
    have hNow : u.now = s.now := (s.setBat_self_touch bat).now (by decide)
    rw [← hSoc, ← hFullreq, ← hCcFrom, ← hNow, hT.lgr (by decide)]
    have hSame := (hU.sameIntake (by decide)).post_lgr K.CHG_FULL
    exact (hSame _).trans (hB.post_lgr _ _)

/-- What a CHG_TARGET record shows beside cause and targets (R292), where no register of the Ballast is written. -/
theorem Touch.postTarget_lgr {W : List Nat} {s u : State} (h : Touch W s u) (cause old new : Nat)
    (hW : ∀ a ∈ [0x140f, 0x1401, 0x1405, 0x1410, 0x1430, R.LGR_STATUS, R.LGR_CFG, R.CLK_STATUS, R.CHG_BALLAST_H, R.CHG_BALLAST_H + 1,
      R.CHG_BALSOC, R.CHG_TWORST], a ∉ W) : (u.postTarget cause old new).lgr = (s.postTarget cause old new).lgr := by
  have hAny : 0x1430 ∉ W := hW _ (by simp)
  have hB : u.eB = s.eB := h.group _ _ ⟨fun k hk => by
    match k, hk with
    | 0, _ => exact hW _ (by simp)
    | 1, _ => exact hW _ (by simp), hAny⟩
  have hSoc : u.regN R.CHG_BALSOC = s.regN R.CHG_BALSOC := h.regN _ ⟨hW _ (by simp), hAny⟩
  have hWorst : u.tworst = s.tworst := by
    unfold State.tworst
    rw [h.regN _ ⟨hW _ (by simp), hAny⟩]
  have hChem : u.chem = s.chem := by
    unfold State.chem
    rw [h.boot (hW _ (by simp))]
  unfold State.postTarget
  rw [hB, hSoc, hWorst, hChem]
  exact (h.sameIntake fun a ha => hW a (by revert a; decide)).post_lgr _ _

/-- CHG_TARGET_REACHED (R156, R162). -/
theorem chgTargetReached_gives (hs : s.live = true) (hCharging : s.charging = true) (hReached : s.targetReached = true) :
    Gives (.chgTargetReached) s fun t =>
      t.phaseN = phRest ∧ t.flag F.CHG_EVENT_TGT_REACHED ∧
      s.hands t K.CHG_TARGET ([2] ++ beBytes 2 (s.regN R.CHG_TGT) ++ beBytes 2 (s.regN R.CHG_TGT) ++ beBytes 3 s.eB ++
        beBytes 2 (s.regN R.CHG_BALSOC) ++ [byte (kT s.chem s.tworst)] ++ beSigned 1 s.tworst) := by
  refine Gives.of_when rfl (by simp [hs, hCharging, hReached]) ?_
  let u : State := s.event F.CHG_EVENT_TGT_REACHED
  let p : State := u.postTarget 2 (s.regN R.CHG_TGT) (s.regN R.CHG_TGT)
  have hU : Touch [R.CHG_EVENT] s u := State.event_touch (.refl _ s) _ (.inl (by decide))
  have hKeeps : KeepsCharger u p.chgTerminate := (u.postTarget_keepsCharger _ _ _).trans p.chgTerminate_keepsCharger
  refine ⟨p.chgTerminate_phaseN, hKeeps.events _ rfl (s.flag_setFlag_same _ _ (by decide)), ?_⟩
  change p.chgTerminate.lgr = _
  rw [p.chgTerminate_self_touch.lgr (by decide), hU.postTarget_lgr _ _ _ (by decide)]
  rfl

/-- CHG_TOPUP_START (R163). -/
theorem chgTopupStart_gives (bat : Nat) (hs : s.live = true) (hPhase : s.phaseN = phRest) : Gives (.chgTopupStart bat) s fun t =>
      (t.phaseN = (if (s.setBat bat).topupHolds then phTopup else phRest)) ∧
      ((s.setBat bat).topupHolds → t.flag F.CHG_EVENT_TOPUP) ∧ t.chg.bat = bat ∧
      (t.reg R.VDT_STATUS = s.reg R.VDT_STATUS → t.lgr = s.lgr) := by
  refine Gives.of_when rfl (by simp [hs, hPhase]) ?_
  let b : State := s.setBat bat
  have hBat : b.chg.bat = bat := congrArg Chg.bat (s.setBat_chg bat)
  dsimp only
  by_cases hTopup : (s.setBat bat).topupHolds = true
  · rw [if_pos hTopup, if_pos hTopup]
    let u : State := b.event F.CHG_EVENT_TOPUP
    have hT : Touch State.enterPhase_cells b (u.enterPhase phTopup) :=
      State.enterPhase_touch (State.event_touch (.refl _ b) _ (.inl (by decide))) (Sub.refl _) _
    exact ⟨u.enterPhase_phaseN _ (by decide), fun _ => (u.enterPhase_keepsCharger _).events _ rfl (b.flag_setFlag_same _ _ (by decide)),
      (congrArg Chg.bat (u.enterPhase_beside phTopup) :).trans hBat, hT.setBat_lgr (by decide)⟩
  · rw [if_neg hTopup, if_neg hTopup]
    exact ⟨(s.setBat_phaseN bat).trans hPhase, fun h => absurd h hTopup, hBat, (Touch.refl [] b).setBat_lgr (by decide)⟩

end
end Sys2Proof.Machine
end

section
/-!
SUPPORT. LIMITED operation (R159), the recomputation of the Ballast (R160 to R162, R168), and O20.
-/

namespace Sys2Proof.Machine

section
variable (s : State)

/-! ## LIMITED operation (R159) -/

/-- Without a cause LIMITED operation ends, or did not stand. -/
theorem State.refreshLimited_of_none (h : s.limitedCause = 0) : s.refreshLimited.flag F.CHG_STATUS_LIMITED = false ∧
    s.refreshLimited.chg.cell = s.chg.cell := by
  by_cases hOn : s.flag F.CHG_STATUS_LIMITED = true
  · let u : State := s.setFlag F.CHG_STATUS_LIMITED false
    have hKeeps : KeepsCharger u ((u.refreshPartial).refreshIbat).chgRechoose :=
      u.refreshPartial_keepsCharger.trans ((State.refreshIbat_keepsCharger _).trans (State.chgRechoose_keepsCharger _))
    have hEq : s.refreshLimited = ((u.refreshPartial).refreshIbat).chgRechoose := (if_pos h).trans (if_pos hOn)
    rw [hEq]
    exact ⟨(hKeeps.status _ rfl (by decide) (by decide)).trans (s.flag_setFlag_same _ _ (by decide)), hKeeps.cell⟩
  · have hEq : s.refreshLimited = s.refreshPartial := (if_pos h).trans (if_neg hOn)
    rw [hEq]
    exact ⟨(s.refreshPartial_keepsCharger.status _ rfl (by decide) (by decide)).trans (Bool.eq_false_iff.2 hOn),
      s.refreshPartial_keepsCharger.cell⟩

/-- With a cause LIMITED operation stands; its entry is an event. -/
theorem State.refreshLimited_of_cause (h : s.limitedCause ≠ 0) : s.refreshLimited.flag F.CHG_STATUS_LIMITED = true ∧
    (s.flag F.CHG_STATUS_LIMITED = false → s.refreshLimited.flag F.CHG_EVENT_LIMITED = true) ∧
    s.refreshLimited.chg.cell = s.chg.cell := by
  by_cases hOn : s.flag F.CHG_STATUS_LIMITED = true
  · have hEq : s.refreshLimited = s.refreshPartial := (if_neg h).trans (if_pos hOn)
    rw [hEq]
    exact ⟨(s.refreshPartial_keepsCharger.status _ rfl (by decide) (by decide)).trans hOn,
      fun hOff => absurd hOn (by rw [hOff]; decide), s.refreshPartial_keepsCharger.cell⟩
  · let u : State := s.setFlag F.CHG_STATUS_LIMITED true
    let v : State := u.event F.CHG_EVENT_LIMITED
    let w : State := v.post K.CHG_LIMITED [byte s.limitedCause]
    have hV : KeepsCharger u v := u.event_keepsCharger _ (by decide)
    have hRest : KeepsCharger v (w.refreshPartial).refreshIbat :=
      ((State.post_touch (.refl State.post_cells v) (Sub.refl _) _ _).keepsCharger (by decide)).trans
        (w.refreshPartial_keepsCharger.trans (State.refreshIbat_keepsCharger _))
    have hEq : s.refreshLimited = (w.refreshPartial).refreshIbat := (if_neg h).trans (if_neg hOn)
    rw [hEq]
    exact ⟨((hV.trans hRest).status _ rfl (by decide) (by decide)).trans (s.flag_setFlag_same _ _ (by decide)),
      fun _ => hRest.events _ rfl (u.flag_setFlag_same _ _ (by decide)), (hV.trans hRest).cell⟩

theorem State.refreshLimited_cell : s.refreshLimited.chg.cell = s.chg.cell := by
  by_cases h : s.limitedCause = 0
  · exact (s.refreshLimited_of_none h).2
  · exact (s.refreshLimited_of_cause h).2.2

/-- What follows LIMITED operation: the figures and the Tether converter. -/
theorem State.limited_rest_keepsCharger : KeepsCharger s (s.chgFigures).tetMove :=
  s.chgFigures_keepsCharger.trans (State.tetMove_keepsCharger _)

/-- CHG_SOC not written for 10 s is a cause (R159). -/
theorem State.limitedCause_of_stale {d : Nat} (hAt : s.chg.socAt = some d) (hStale : d + secTicks 10 ≤ s.now) :
    s.limitedCause ≠ 0 := by
  have hElapsed : s.elapsed (s.chg.socAt.map (· + secTicks 10)) = true := by simp [hAt, State.elapsed, hStale]
  unfold State.limitedCause
  rw [if_pos hElapsed]
  split_ifs <;> decide

/-- CHG_SOC_STALE (R159). -/
theorem chgSocStale_gives (d : Nat) (hs : s.live = true) (hAt : s.chg.socAt = some d) (hStale : d + secTicks 10 ≤ s.now) :
    Gives (.chgSocStale) s fun t =>
      t.flag F.CHG_STATUS_LIMITED ∧ (s.flag F.CHG_STATUS_LIMITED = false → t.flag F.CHG_EVENT_LIMITED) := by
  obtain ⟨hLimited, hEvent, -⟩ := s.refreshLimited_of_cause (s.limitedCause_of_stale hAt hStale)
  have hRest := s.refreshLimited.limited_rest_keepsCharger
  refine Gives.of_when rfl (by simp [hs, hAt, State.elapsed, hStale]) ⟨?_, fun hOff => ?_⟩
  · exact (hRest.status _ rfl (by decide) (by decide)).trans hLimited
  · exact hRest.events _ rfl (hEvent hOff)

/-- CHG_SOC as the policy firmware writes it, in 0.1 % with VALID (R171). -/
abbrev socWord (soc : Nat) (valid : Bool) : Word := BitVec.ofNat 16 (soc % 1024 + (if valid then 0x8000 else 0))

theorem bitOf_socWord (soc : Nat) (valid : Bool) : bitOf (socWord soc valid) 15 = valid := by
  have hSoc : soc % 1024 < 2 ^ 15 := by omega
  have hLow : (soc % 1024).testBit 15 = false := Nat.testBit_eq_false_of_lt hSoc
  unfold bitOf socWord
  rw [BitVec.getLsbD_ofNat]
  cases valid
  · simpa using hLow
  · have hBit : (2 ^ 15 + soc % 1024).testBit 15 = true := by rw [Nat.testBit_two_pow_add_eq, hLow]; rfl
    simpa [Nat.add_comm] using hBit

/-- CHG_SOC written, before LIMITED operation follows (R159). -/
def State.socWritten (v : Word) : State := { s.setReg R.CHG_SOC v with chg := { s.chg with socAt := some s.now } }

/-- With CHG_SOC just written and the core running, the fallback policy or a clear VALID are the causes left. -/
theorem State.socWritten_limitedCause (soc : Nat) (valid : Bool) (hCore : s.boot.core = true) :
    (s.socWritten (socWord soc valid)).limitedCause =
      if s.flag F.SYS_BOOT_FALLBACK then 2 else if valid then 0 else 3 := by
  let u : State := s.socWritten (socWord soc valid)
  have hFallback : u.flag F.SYS_BOOT_FALLBACK = s.flag F.SYS_BOOT_FALLBACK :=
    (s.flag_setReg_ne R.CHG_SOC (socWord soc valid) F.SYS_BOOT_FALLBACK (by decide) :)
  have hValid : u.flag F.CHG_SOC_VALID = valid :=
    (congrArg (bitOf · 15) (s.reg_setReg_same R.CHG_SOC (socWord soc valid)) :).trans (bitOf_socWord soc valid)
  have hFresh : u.elapsed (u.chg.socAt.map (· + secTicks 10)) = false := by
    have hPositive : 0 < secTicks 10 := by decide
    exact decide_eq_false (by change ¬ s.now + secTicks 10 ≤ s.now; omega)
  change u.limitedCause = _
  unfold State.limitedCause
  rw [hFallback, hValid, hFresh, show u.boot.core = true from hCore]
  cases valid <;> simp

/-- CHG_SOC_WRITE (R159, R163). -/
theorem chgSocWrite_gives (soc : Nat) (valid : Bool) (hs : s.live = true) (hCore : s.boot.core = true) :
    Gives (.chgSocWrite soc valid) s fun t =>
      (t.reg R.CHG_SOC = BitVec.ofNat 16 (soc % 1024 + (if valid then 0x8000 else 0))) ∧ t.chg.socAt = some s.now ∧
      (valid → s.flag F.SYS_BOOT_FALLBACK = false → t.flag F.CHG_STATUS_LIMITED = false) ∧
      (valid = false → t.flag F.CHG_STATUS_LIMITED) := by
  let u : State := s.socWritten (socWord soc valid)
  have hCause := s.socWritten_limitedCause soc valid hCore
  have hRest := u.refreshLimited.limited_rest_keepsCharger
  have hLimited : (u.refreshLimited.chgFigures).tetMove.flag F.CHG_STATUS_LIMITED = u.refreshLimited.flag F.CHG_STATUS_LIMITED :=
    hRest.status _ rfl (by decide) (by decide)
  have hTouch : Touch (State.refreshLimited_cells ++ State.chgFigures_cells ++ State.tetMove_cells) u
      (u.refreshLimited.chgFigures).tetMove :=
    State.tetMove_touch (State.chgFigures_touch (State.refreshLimited_touch (.refl _ u) (Sub.of rfl)) (Sub.of rfl)) (Sub.of rfl)
  refine Gives.of_when rfl (by simp [hs, hCore]) ⟨?_, ?_, fun hValid hPolicy => ?_, fun hClear => ?_⟩
  · exact (hTouch.reg R.CHG_SOC (by decide) (by decide)).trans (s.reg_setReg_same _ _)
  · exact (congrArg Chg.socAt (hRest.cell.trans u.refreshLimited_cell) :)
  · exact hLimited.trans (u.refreshLimited_of_none (by rw [hCause, hPolicy, hValid]; rfl)).1
  · refine hLimited.trans (u.refreshLimited_of_cause ?_).1
    rw [hCause, hClear, if_neg Bool.false_ne_true]
    split <;> decide

/-! ## The next phase (R158, R167, R168) -/

/-- The last cause of suspension has ended. -/
theorem State.chgResume_shows (hPhase : s.phaseN = phSusp) (hHeld : s.chgHeld = false) : s.chgResume.phaseN = s.nextPhase ∧
    s.chgResume.flag F.CHG_EVENT_RESUME = true ∧ s.chgResume.chg.beside = s.chg.beside := by
  let u : State := s.event F.CHG_EVENT_RESUME
  have hEq : s.chgResume = u.enterPhase s.nextPhase := if_neg (by simp [hPhase, hHeld])
  rw [hEq]
  exact ⟨u.enterPhase_phaseN _ (by have := s.nextPhase_lt; omega),
    (u.enterPhase_keepsCharger _).events _ rfl (s.flag_setFlag_same _ _ (by decide)), u.enterPhase_beside _⟩

theorem State.chgResume_keepsCharger : KeepsCharger s s.chgResume :=
  .ite (.refl s) ((s.event_keepsCharger _ (by decide)).trans (State.enterPhase_keepsCharger _ _))

theorem State.chgResume_self_touch : Touch State.chgResume_cells s s.chgResume := State.chgResume_touch (.refl _ s) (Sub.refl _)

/-- CHG_RESUME_TIMEOUT (R168). -/
theorem chgResumeTimeout_gives (hs : s.live = true) (hDue : s.elapsed s.chg.recalcDue = true) :
    Gives (.chgResumeTimeout) s fun t =>
      t.chg.recalcDue = none ∧ t.lgr = s.lgr ∧ (s.phaseN = phSusp → s.chgHeld = false → t.flag F.CHG_EVENT_RESUME) ∧
      (s.phaseN = phSusp → s.chgHeld = false → t.phaseN = s.nextPhase) := by
  let u : State := { s with chg := { s.chg with recalcDue := none } }
  refine Gives.of_when rfl (by simp [hs, hDue]) ⟨(congrArg Chg.recalcDue u.chgResume_keepsCharger.cell :),
    u.chgResume_self_touch.lgr (by decide), fun hPhase hHeld => ?_, fun hPhase hHeld => ?_⟩
  · exact (u.chgResume_shows hPhase hHeld).2.1
  · exact (u.chgResume_shows hPhase hHeld).1

/-! ## The Ballast (R160 to R162) -/

/-- CHG_TGT takes the target it is given. -/
theorem State.setTarget_tgt (new cause : Nat) (h : new < 65536) : (s.setTarget new cause).regN R.CHG_TGT = new := by
  by_cases hSame : new = s.regN R.CHG_TGT
  · rw [State.setTarget, if_pos hSame, ← hSame]
  · obtain ⟨raised, hEq⟩ := s.setTarget_of_ne cause hSame
    let u : State := s.targetShown new raised
    have hRest : Touch (State.postTarget_cells ++ State.refreshPartial_cells ++ State.targetLowered_cells) u
        (((u.postTarget cause (s.regN R.CHG_TGT) new).refreshPartial).targetLowered) :=
      State.targetLowered_touch (State.refreshPartial_touch (State.postTarget_touch (.refl _ u) (Sub.of rfl) _ _ _) (Sub.of rfl))
        (Sub.of rfl)
    have hShown : u.reg R.CHG_TGT = BitVec.ofNat 16 new := by
      change ((s.setReg R.CHG_TGT (BitVec.ofNat 16 new)).event F.CHG_EVENT_TGT_CHG).reg R.CHG_TGT = _
      rw [State.reg_event, if_neg (by decide), State.reg_setReg_same]
    rw [hEq, hRest.regN R.CHG_TGT (by decide), State.regN, hShown, BitVec.toNat_ofNat, Nat.mod_eq_of_lt h]

/-- A number written into two registers, high word first, is read back from them as far as it fits. -/
theorem State.group_setGroup_two (a x : Nat) : (s.setGroup a 2 x).group a 2 = x % 65536 ^ 2 := by
  have hHigh : (s.setGroup a 2 x).regN a = x / 65536 % 65536 := by
    simp [State.setGroup, State.regN, State.reg_setReg]
  have hLow : (s.setGroup a 2 x).regN (a + 1) = x % 65536 := by
    simp [State.setGroup, State.regN]
  simp only [State.group, List.range_succ, List.range_zero, List.nil_append, List.foldl_append, List.foldl_cons, List.foldl_nil,
    Nat.add_zero, hHigh, hLow]
  omega

/-- The worst recent temperature takes at most a free value. -/
theorem State.worstTemp_state : s.worstTemp.2 = s ∨ s.worstTemp.2 = s.fresh.2 := by
  unfold State.worstTemp
  split
  · exact .inl rfl
  · exact .inr rfl

theorem State.worstTemp_reg (a : Nat) : s.worstTemp.2.reg a = s.reg a := by
  rcases s.worstTemp_state with h | h <;> rw [h]
  rfl

theorem State.worstTemp_ballastSoc (worst : Int) (m : Nat) : s.worstTemp.2.ballastSoc worst m = s.ballastSoc worst m := by
  rcases s.worstTemp_state with h | h <;> rw [h]
  rfl

/-- The worst recent temperature shown (R161). -/
def State.worstShown : State := s.worstTemp.2.setReg R.CHG_TWORST (BitVec.ofNat 16 (s.worstTemp.1 % 256).toNat)

/-- Then E_B (R160). -/
def State.ballastShown : State :=
  s.worstShown.setGroup R.CHG_BALLAST_H 2 (ceilDiv s.worstShown.ballastNum (s.worstShown.ballastDen s.worstTemp.1))

/-- Then S_B (R160). -/
def State.balsocShown : State :=
  let r := s.ballastShown.shownSoc (s.ballastShown.ballastSoc s.worstTemp.1 0)
  r.2.setReg R.CHG_BALSOC (BitVec.ofNat 16 r.1)

/-- The target in 0.1 % that the Ballast asks for, none without capacity (R160, R162). -/
def State.ballastTarget : Option Nat := s.worstTemp.2.ballastSoc s.worstTemp.1 (s.worstTemp.2.regN R.CHG_BAL_MARGIN)

/-- Then the shortage, where there is one. -/
def State.shortageShown : State :=
  if 1000 < s.ballastTarget.getD 1001 then s.balsocShown.event F.CHG_EVENT_BALLAST_SHORT else s.balsocShown

/-- Then the target and what follows it. -/
def State.ballastFollowed : State :=
  ((s.shortageShown.setTarget (max (s.worstTemp.2.regN R.CHG_TGTMIN) (min 1000 (s.ballastTarget.getD 1000))) 0).refreshPartial).tetMove

theorem State.recompute_eq : s.recompute =
    { s.ballastFollowed with chg := { s.ballastFollowed.chg with recalcDue := none } } := rfl

theorem State.recompute_touch_followed : Touch [0x1409] s.ballastFollowed s.recompute := by
  rw [s.recompute_eq]
  exact Touch.update (.refl _ _) (h_chg := .inr (by decide))

theorem State.recompute_recalcDue : s.recompute.chg.recalcDue = none := by rw [s.recompute_eq]

theorem State.ballastTarget_eq : s.ballastTarget = s.ballastSoc s.worstTemp.1 (s.regN R.CHG_BAL_MARGIN) := by
  unfold State.ballastTarget
  rw [State.worstTemp_ballastSoc, State.regN, State.worstTemp_reg]
  rfl

/-- E_B's terms are those of before (R160). -/
theorem State.worstShown_ballast (worst : Int) : s.worstShown.ballastNum = s.ballastNum ∧
    s.worstShown.ballastDen worst = s.ballastDen worst := by
  have hReg (a : Nat) (ha : a ≠ R.CHG_TWORST) : s.worstShown.regN a = s.regN a := by
    unfold State.worstShown State.regN
    rw [State.reg_setReg_ne _ _ _ ha, State.worstTemp_reg]
  have hBoot : s.worstShown.boot = s.boot := by
    unfold State.worstShown
    rcases s.worstTemp_state with h | h <;> rw [h] <;> rfl
  constructor
  · unfold State.ballastNum
    iterate 4 rw [hReg _ (by decide)]
  · unfold State.ballastDen State.chem
    rw [hBoot]

theorem State.shownSoc_touch_own (x : Option Nat) : Touch State.shownSoc_cells s (s.shownSoc x).2 :=
  State.shownSoc_touch (.refl _ s) (Sub.refl _) x

theorem State.balsocShown_touch : Touch (R.CHG_BALSOC :: State.shownSoc_cells) s.ballastShown s.balsocShown :=
  State.setReg_touch ((s.ballastShown.shownSoc_touch_own _).mono (Sub.of rfl)) _ _ (.inl (by decide))

theorem State.shortageShown_touch : Touch [R.CHG_EVENT] s.balsocShown s.shortageShown :=
  Touch.ite (State.event_touch (.refl _ _) _ (.inl (by decide))) (.refl _ _)

/-- What follows the figures of the Ballast may write. -/
def ballastFollowingCells : List Nat := State.setTarget_cells ++ State.refreshPartial_cells ++ State.tetMove_cells

theorem State.ballastFollowed_touch : Touch ballastFollowingCells s.shortageShown s.ballastFollowed :=
  State.tetMove_touch (State.refreshPartial_touch (State.setTarget_touch (.refl _ _) (Sub.of rfl) _ _) (Sub.of rfl)) (Sub.of rfl)

theorem State.ballastFollowed_keepsCharger : KeepsCharger s.shortageShown s.ballastFollowed :=
  (State.setTarget_keepsCharger _ _ _).trans ((State.refreshPartial_keepsCharger _).trans (State.tetMove_keepsCharger _))

/-- The figures of a recomputation, as they stand when the target has followed (R160 to R162). -/
theorem State.ballastFollowed_shows :
    s.ballastFollowed.reg R.CHG_TWORST = BitVec.ofNat 16 (s.worstTemp.1 % 256).toNat ∧
    s.ballastFollowed.group R.CHG_BALLAST_H 2 = ceilDiv s.ballastNum (s.ballastDen s.worstTemp.1) % 65536 ^ 2 ∧
    s.ballastFollowed.regN R.CHG_TGT = max (s.regN R.CHG_TGTMIN) (min 1000 ((s.ballastSoc s.worstTemp.1 (s.regN
      R.CHG_BAL_MARGIN)).getD 1000)) ∧
    (1000 < (s.ballastSoc s.worstTemp.1 (s.regN R.CHG_BAL_MARGIN)).getD 1001 →
      s.ballastFollowed.flag F.CHG_EVENT_BALLAST_SHORT = true) := by
  have hWorst : Touch [R.CHG_BALLAST_H, R.CHG_BALLAST_H + 1] s.worstShown s.ballastShown :=
    State.setGroup_touch _ _ _ _ (.refl _ _) fun k hk => by
      match k, hk with
      | 0, _ => exact .inl (by decide)
      | 1, _ => exact .inl (by decide)
  obtain ⟨hNum, hDen⟩ := s.worstShown_ballast s.worstTemp.1
  refine ⟨?_, ?_, ?_, fun hShort => ?_⟩
  · rw [s.ballastFollowed_touch.reg _ (by decide) (by decide), s.shortageShown_touch.reg _ (by decide) (by decide),
      s.balsocShown_touch.reg _ (by decide) (by decide), hWorst.reg _ (by decide) (by decide)]
    exact State.reg_setReg_same _ _ _
  · rw [s.ballastFollowed_touch.group _ _ (by decide), s.shortageShown_touch.group _ _ (by decide),
      s.balsocShown_touch.group _ _ (by decide), ← hNum, ← hDen]
    exact s.worstShown.group_setGroup_two _ _
  · let new : Nat := max (s.worstTemp.2.regN R.CHG_TGTMIN) (min 1000 (s.ballastTarget.getD 1000))
    have hFits : new < 65536 := by
      have hMin : s.worstTemp.2.regN R.CHG_TGTMIN < 65536 := BitVec.isLt _
      omega
    have hNew : new = max (s.regN R.CHG_TGTMIN) (min 1000 ((s.ballastSoc s.worstTemp.1 (s.regN R.CHG_BAL_MARGIN)).getD 1000)) := by
      simp only [new, s.ballastTarget_eq, State.regN, s.worstTemp_reg]
    have hFollows : Touch (State.refreshPartial_cells ++ State.tetMove_cells) (s.shortageShown.setTarget new 0) s.ballastFollowed :=
      State.tetMove_touch (State.refreshPartial_touch (.refl _ _) (Sub.of rfl)) (Sub.of rfl)
    rw [hFollows.regN _ (by decide), State.setTarget_tgt _ _ _ hFits, hNew]
  · refine s.ballastFollowed_keepsCharger.events _ rfl ?_
    rw [State.shortageShown, if_pos (by rwa [s.ballastTarget_eq])]
    exact s.balsocShown.flag_setFlag_same _ _ (by decide)

/-- BALLAST_RECOMPUTE (R160, R162, R168). -/
theorem ballastRecompute_gives (hs : s.live = true) (hCore : s.boot.core = true) : Gives (.ballastRecompute) s fun t =>
      t.reg R.CHG_TWORST = BitVec.ofNat 16 (s.worstTemp.1 % 256).toNat ∧
      t.group R.CHG_BALLAST_H 2 = ceilDiv s.ballastNum (s.ballastDen s.worstTemp.1) % 65536 ^ 2 ∧
      t.regN R.CHG_TGT = max (s.regN R.CHG_TGTMIN) (min 1000 ((s.ballastSoc s.worstTemp.1 (s.regN
        R.CHG_BAL_MARGIN)).getD 1000)) ∧
      t.chg.recalcDue = none ∧
      (1000 < (s.ballastSoc s.worstTemp.1 (s.regN R.CHG_BAL_MARGIN)).getD 1001 → t.flag F.CHG_EVENT_BALLAST_SHORT) := by
  refine Gives.of_when rfl (by simp [hs, hCore]) ?_
  let r : State := s.recompute
  let t : State := if s.chg.recalcDue.isSome then r.chgResume else r
  change t.reg _ = _ ∧ t.group _ _ = _ ∧ t.regN _ = _ ∧ t.chg.recalcDue = none ∧ (_ → t.flag _ = true)
  obtain ⟨hWorst, hBallast, hTgt, hShort⟩ := s.ballastFollowed_shows
  have hR : Touch State.chgResume_cells s.ballastFollowed r := s.recompute_touch_followed.mono (Sub.of rfl)
  have hT : Touch State.chgResume_cells s.ballastFollowed t := Touch.ite (State.chgResume_touch hR (Sub.refl _)) hR
  have hKeeps : KeepsCharger r t := .ite r.chgResume_keepsCharger (.refl r)
  refine ⟨?_, ?_, ?_, (congrArg Chg.recalcDue hKeeps.cell :).trans s.recompute_recalcDue, fun h => hKeeps.events _ rfl ?_⟩
  · exact (hT.reg R.CHG_TWORST (by decide) (by decide)).trans hWorst
  · exact (hT.group R.CHG_BALLAST_H 2 (by decide)).trans hBallast
  · exact (hT.regN R.CHG_TGT (by decide)).trans hTgt
  · exact (s.recompute_touch_followed.flag _ (by decide)).trans (hShort h)

end

/-- Settles O20: a clause for each command of the charger's phases, in the statement's order. -/
theorem chargerPhases : Obligations.ChargerPhases := by
  unfold Obligations.ChargerPhases
  exact ⟨chgPreconditionDone_gives, chgCvEntry_gives, chgTermCurrent_gives, chgTargetReached_gives, chgTopupStart_gives,
    chgSocWrite_gives, chgSocStale_gives, ballastRecompute_gives, chgResumeTimeout_gives⟩

end Sys2Proof.Machine
end

section
/-!
SUPPORT. Suspension and the charger's faults (R167, R169): what an alarm's suspension leaves of a suspended charger, how a fault is
entered and cleared, and the clauses of O21 for both.
-/

namespace Sys2Proof.Machine

/-! ## An idle charger stays as it is -/

/-- A charger that is idle keeps its phase, and its events stay once set. -/
structure KeepsIdle (s t : State) : Prop where
  phase : PhaseIdle s.phaseN → t.phaseN = s.phaseN
  events : ∀ g, g.reg = R.CHG_EVENT → s.flag g = true → t.flag g = true

theorem KeepsIdle.refl (s : State) : KeepsIdle s s := ⟨fun _ => rfl, fun _ _ => id⟩

theorem KeepsIdle.trans {s t u : State} (h : KeepsIdle s t) (h' : KeepsIdle t u) : KeepsIdle s u where
  phase hs := (h'.phase ((h.phase hs).symm ▸ hs)).trans (h.phase hs)
  events g hg hs := h'.events g hg (h.events g hg hs)

theorem KeepsIdle.ite {s a b : State} {c : Prop} [Decidable c] (ha : KeepsIdle s a) (hb : KeepsIdle s b) :
    KeepsIdle s (if c then a else b) := by
  split
  · exact ha
  · exact hb

theorem Touch.keepsIdle {W : List Nat} {s t : State} (h : Touch W s t) (hW : ∀ a ∈ [R.CHG_EVENT, R.CHG_STATUS, 0x1430], a ∉ W) :
    KeepsIdle s t where
  phase _ := h.field F.CHG_STATUS_PHASE ⟨hW _ (by simp), hW _ (by simp)⟩
  events g hg hs := by rw [h.flag g ⟨by rw [hg]; exact hW _ (by simp), hW _ (by simp)⟩, hs]

section
variable (s : State)

theorem State.setFlag_keepsIdle (f : Flag) (x : Bool) (hf : f.reg = R.CHG_STATUS ∧ 4 ≤ f.bit ∧ f.bit < 16) :
    KeepsIdle s (s.setFlag f x) where
  phase _ := s.setFlag_phaseN f x hf.2
  events g hg hs := by
    rw [s.flag_setFlag_ne f x g ⟨hf.2.2, fun e => absurd (hg.symm.trans (e ▸ hf.1)) (by decide)⟩, hs]

theorem State.chgSuspend_keepsIdle (f : Flag) (hf : f.reg = R.CHG_STATUS ∧ 4 ≤ f.bit ∧ f.bit < 16) : KeepsIdle s (s.chgSuspend f) where
  phase := s.chgSuspend_phaseN_of_idle f hf.2
  events g hg hs := by
    by_cases hSet : s.flag f = true
    · rwa [State.chgSuspend, if_pos hSet]
    · exact (s.chgSuspend_keepsCharger f (Bool.eq_false_iff.2 hSet)).events g hg ((s.setFlag_keepsIdle f true hf).events g hg hs)

/-! ## The Weighbridge under an alarm (R185, R188) -/

theorem State.sweepOn_keepsIdle : KeepsIdle s s.sweepOn := by
  let u : State := s.setFlag F.CONV_STATUS_EXC true
  have hExc : KeepsIdle s u := (State.setFlag_touch (.refl [R.CONV_STATUS] s) _ _ (.inl (by decide))).keepsIdle (by decide)
  have hClip (v : State) : KeepsIdle v v.excClip :=
    (State.excClip_touch (.refl State.excClip_cells v) (Sub.refl _)).keepsIdle (by decide)
  exact (hExc.trans (u.chgSuspend_keepsIdle F.CHG_STATUS_SUSP_SWEEP (by decide))).trans (.ite (.refl _) (hClip _))

theorem State.sweepOff_keepsIdle : KeepsIdle s s.sweepOff :=
  ((State.excEnd_touch (.refl State.excEnd_cells s) (Sub.refl _)).keepsIdle (by decide)).trans
    (State.setFlag_keepsIdle _ F.CHG_STATUS_SUSP_SWEEP false (by decide))

/-- The Weighbridge's own data and registers are no part of the charger. -/
theorem State.wb_keepsIdle (w : Wb) : KeepsIdle s { s with wb := w } := ⟨fun _ => rfl, fun _ _ => id⟩

theorem State.wbRelease_keepsIdle (typ extra : Nat) (body : List Byte) : KeepsIdle s (s.wbRelease typ extra body) :=
  (State.wbRelease_touch (.refl State.wbRelease_cells s) (Sub.refl _) _ _ _).keepsIdle (by decide)

theorem State.seqStart_keepsIdle (kind arg : Nat) : KeepsIdle s (s.seqStart kind arg) := by
  have hNotice (reason code : Nat) : KeepsIdle s (s.wbNotice reason code) :=
    (State.wbNotice_touch (.refl State.wbNotice_cells s) (Sub.refl _) _ _).keepsIdle (by decide)
  have hBegin : KeepsIdle s (s.seqBegin kind arg) :=
    (s.wb_keepsIdle _).trans (.ite ((State.wb_keepsIdle _ _).trans (State.sweepOn_keepsIdle _)) (.refl _))
  unfold State.seqStart
  exact .ite (.ite (s.wb_keepsIdle _) (.ite (hNotice _ _) (.ite (hNotice _ _) hBegin)))
    (.ite (hNotice _ _) (.ite (hNotice _ _) (.ite (.refl s) hBegin)))

theorem State.startPending_keepsIdle : KeepsIdle s s.startPending := by
  unfold State.startPending
  split
  · exact .refl s
  · exact .ite (.refl s) ((s.wb_keepsIdle _).trans (State.seqStart_keepsIdle _ _ _))

theorem State.sweepAbort_keepsIdle : KeepsIdle s s.sweepAbort := by
  unfold State.sweepAbort
  split
  case h_2 => exact .refl s
  case h_1 q _ =>
    split
    case isFalse => exact s.wb_keepsIdle _
    case isTrue =>
      let u : State := { s.sweepOff with wb := { s.wb with seq := none } }
      let v : State := u.sweepOff.wbRelease 4 (32 + 64) ([byte (pointsDone (s.now - q.start)), 1] ++
        beBytes 3 ((s.now - q.start) / 32 % 2 ^ 24))
      let w : State := v.event F.WB_EVENT_SWEEP_ABORT
      have hU : KeepsIdle s u := s.sweepOff_keepsIdle.trans (State.wb_keepsIdle _ _)
      have hV : KeepsIdle u v := u.sweepOff_keepsIdle.trans (State.wbRelease_keepsIdle _ _ _ _)
      have hW : KeepsIdle v w := (State.event_touch (.refl [R.WB_EVENT] v) _ (.inl (by decide))).keepsIdle (by decide)
      have hHold : KeepsIdle w w.holdArm := w.wb_keepsIdle _
      exact ((hU.trans hV).trans (hW.trans hHold)).trans w.holdArm.startPending_keepsIdle

theorem State.wbSuspended_keepsIdle : KeepsIdle s s.wbSuspended := by
  let u : State := { s with wb := { s.wb with suspSeen := true } }
  have hU : KeepsIdle s u := s.wb_keepsIdle _
  have hHold : KeepsIdle u (if u.wb.holdDue.isSome then u.holdArm else u) := .ite (u.wb_keepsIdle _) (.refl u)
  exact .ite (.refl s) ((hU.trans hHold).trans (State.sweepAbort_keepsIdle _))

/-! ## Suspension and its end (R167) -/

theorem suspFlag_place (x : SuspCause) : BesidePhase (suspFlag x) ∧ 4 ≤ (suspFlag x).bit ∧ (suspFlag x).bit < 16 := by
  cases x <;> decide

theorem State.not_idle_of_charging (h : s.charging = true) : ¬PhaseIdle s.phaseN := by
  simp only [State.charging, Bool.or_eq_true, beq_iff_eq] at h
  rcases h with (h | h) | h <;> rw [h] <;> decide

/-- CHG_SUSPEND for a cause other than the alarm (R167). -/
theorem chgSuspend_gives (x : SuspCause) (hs : s.live = true) (hHolds : s.suspHolds x = true) (hx : x ≠ .alarm) :
    Gives (.chgSuspend x) s fun t =>
      t.flag (suspFlag x) ∧
      (s.flag (suspFlag x) = false → s.charging → t.phaseN = phSusp ∧ t.chg.prior = s.phaseN ∧ t.flag
        F.CHG_EVENT_SUSPEND) ∧
      (s.flag (suspFlag x) → t = s) := by
  obtain ⟨hBeside, hBit⟩ := suspFlag_place x
  refine Gives.of_when rfl (by rw [hs, hHolds]; rfl) ?_
  rw [if_neg hx]
  exact ⟨s.chgSuspend_flag _ hBeside hBit.2,
    fun hClear hCharging => s.chgSuspend_suspends _ hBit hClear (s.not_idle_of_charging hCharging),
    fun hSet => by rw [State.chgSuspend, if_pos hSet]⟩

/-- CHG_SUSPEND for the alarm (R42, R167). -/
theorem chgSuspend_alarm_gives (x : SuspCause) (hs : s.live = true) (hHolds : s.suspHolds x = true) (hx : x = .alarm) :
    Gives (.chgSuspend x) s fun t =>
      t.flag F.CHG_STATUS_SUSP_ALM ∧
      (s.flag F.CHG_STATUS_SUSP_ALM = false → s.charging → t.phaseN = phSusp ∧ t.flag F.CHG_EVENT_SUSPEND) := by
  refine Gives.of_when rfl (by rw [hs, hHolds]; rfl) ?_
  rw [if_pos hx]
  refine ⟨s.alarmSuspend_suspLine, fun hClear hCharging => ?_⟩
  obtain ⟨hPhase, -, hEvent⟩ := s.chgSuspend_suspends _ (by decide) hClear (s.not_idle_of_charging hCharging)
  have hKeeps := (s.chgSuspend F.CHG_STATUS_SUSP_ALM).wbSuspended_keepsIdle
  have hEq : s.alarmSuspend = (s.chgSuspend F.CHG_STATUS_SUSP_ALM).wbSuspended :=
    if_neg (by rw [State.suspLine, hClear]; decide)
  rw [hEq]
  exact ⟨(hKeeps.phase (.inr (.inl hPhase))).trans hPhase, hKeeps.events _ rfl hEvent⟩

/-- CHG_RESUME (R158, R167, R168). -/
theorem chgResume_gives (bat : Nat) (hs : s.live = true) (hPhase : s.phaseN = phSusp) (hHeld : s.chgHeld = false)
    (hWaits : s.chg.recalcDue = none ∨ s.elapsed s.chg.recalcDue = true) : Gives (.chgResume bat) s fun t =>
      t.flag F.CHG_EVENT_RESUME ∧ t.chg.bat = bat ∧ t.phaseN = (s.setBat bat).nextPhase ∧
      (t.reg R.VDT_STATUS = s.reg R.VDT_STATUS → t.lgr = s.lgr) := by
  let u : State := s.setBat bat
  obtain ⟨hNext, hEvent, hBeside⟩ :=
    u.chgResume_shows ((s.setBat_phaseN bat).trans hPhase) ((s.setBat_chgHeld bat).trans hHeld)
  refine Gives.of_when rfl (by simpa [hs, hPhase, hHeld] using hWaits) ⟨hEvent, ?_, hNext, u.chgResume_self_touch.setBat_lgr (by decide)⟩
  exact (congrArg Chg.bat hBeside :).trans (congrArg Chg.bat (s.setBat_chg bat))

/-! ## A fault entered (R169) -/

/-- FAULT as it is entered and counted, before its record. -/
def State.faultCounted (cause : Nat) : State :=
  let v := (s.enterPhase phFault).event F.CHG_EVENT_FAULT
  State.bump { v with chg := { v.chg with faultAt := some s.now, fault := cause } } R.CHG_FAULTCNT 1

/-- The record of a fault in `before` (R292). -/
def State.faultBytes (cause before : Nat) : List Byte :=
  [byte cause, byte before] ++ beBytes 2 (volt20 s.chg.bat) ++ beBytes 2 (s.regN R.CHG_FAULTCNT)

theorem State.chgFault_eq (cause : Nat) : s.chgFault cause =
    (((s.faultCounted cause).post K.CHG_FAULT ((s.faultCounted cause).faultBytes cause s.phaseN)).tetMove).chgVerdict := by
  have hNow : (s.enterPhase phFault).now = s.now := (s.enterPhase_self_touch phFault).now (by decide)
  unfold State.faultCounted
  rw [← hNow]
  rfl

theorem State.faultCounted_touch (cause : Nat) : Touch (R.CHG_FAULTCNT :: State.enterPhase_cells) s (s.faultCounted cause) :=
  State.bump_touch (Touch.update (State.event_touch (State.enterPhase_touch (.refl _ s) (Sub.of rfl) phFault) _ (.inl (by decide)))
    (h_chg := .inr (by decide))) _ _ (.inl (by decide))

theorem State.faultCounted_shows (cause : Nat) : (s.faultCounted cause).phaseN = phFault ∧
    (s.faultCounted cause).flag F.CHG_EVENT_FAULT = true ∧
    (s.faultCounted cause).regN R.CHG_FAULTCNT = min (s.regN R.CHG_FAULTCNT + 1) 0xFFFF ∧
    (s.faultCounted cause).chg.beside = { s.chg with faultAt := some s.now, fault := cause }.beside := by
  let e : State := s.enterPhase phFault
  let v : State := e.event F.CHG_EVENT_FAULT
  let w : State := { v with chg := { v.chg with faultAt := some s.now, fault := cause } }
  have hCount : Touch [R.CHG_FAULTCNT] w (s.faultCounted cause) := State.bump_touch (.refl _ w) _ _ (.inl (by decide))
  have hW : Touch State.enterPhase_cells s w := Touch.update (State.event_touch (State.enterPhase_touch (.refl _ s) (Sub.of rfl) phFault) _
    (.inl (by decide))) (h_chg := .inr (by decide))
  refine ⟨?_, ?_, ?_, ?_⟩
  · exact (hCount.field F.CHG_STATUS_PHASE (by decide)).trans ((e.field_setFlag_ne F.CHG_EVENT_FAULT true _ (by decide) (by decide)).trans
      (s.enterPhase_phaseN _ (by decide)))
  · exact (hCount.flag F.CHG_EVENT_FAULT (by decide)).trans (e.flag_setFlag_same F.CHG_EVENT_FAULT true (by decide))
  · exact (w.regN_bump R.CHG_FAULTCNT 1).trans (by rw [hW.regN R.CHG_FAULTCNT (by decide)])
  · exact congrArg (fun c : Chg => { c with faultAt := some s.now, fault := cause }) (s.enterPhase_beside phFault)

/-- What follows a fault's record leaves of it: the phase, the charger's data, its events, its count. -/
theorem State.fault_rest (p : State) (h : p.phaseN = phFault) : (p.tetMove).chgVerdict.phaseN = phFault ∧
    KeepsCharger p (p.tetMove).chgVerdict ∧ (p.tetMove).chgVerdict.regN R.CHG_FAULTCNT = p.regN R.CHG_FAULTCNT := by
  have hVerdict := p.tetMove.chgVerdict_self_touch
  have hMove : Touch State.tetMove_cells p p.tetMove := State.tetMove_touch (.refl _ p) (Sub.refl _)
  refine ⟨?_, p.tetMove_keepsCharger.trans (hVerdict.keepsCharger (by decide)),
    (hVerdict.regN _ (by decide)).trans (hMove.regN _ (by decide))⟩
  exact (hVerdict.field F.CHG_STATUS_PHASE (by decide)).trans ((p.tetMove_phaseN_of_idle (by rw [h]; decide)).trans h)

/-- FAULT entered (R169). -/
theorem State.chgFault_shows (cause : Nat) : (s.chgFault cause).phaseN = phFault ∧
    (s.chgFault cause).chg.cell = { s.chg with faultAt := some s.now, fault := cause }.cell ∧
    (s.chgFault cause).regN R.CHG_FAULTCNT = min (s.regN R.CHG_FAULTCNT + 1) 0xFFFF ∧
    (s.chgFault cause).flag F.CHG_EVENT_FAULT = true ∧
    (s.roomFor K.CHG_FAULT → (s.chgFault cause).holds K.CHG_FAULT ([byte cause, byte s.phaseN] ++ beBytes 2 (volt20 s.chg.bat) ++
      beBytes 2 (min (s.regN R.CHG_FAULTCNT + 1) 0xFFFF))) := by
  let u : State := s.faultCounted cause
  let p : State := u.post K.CHG_FAULT (u.faultBytes cause s.phaseN)
  obtain ⟨hPhase, hEvent, hCount, hBeside⟩ := s.faultCounted_shows cause
  have hP : Touch State.post_cells u p := State.post_touch (.refl _ u) (Sub.refl _) _ _
  obtain ⟨hFault, hKeeps, hSame⟩ := State.fault_rest p ((hP.field F.CHG_STATUS_PHASE (by decide)).trans hPhase)
  have hAll : KeepsCharger u (p.tetMove).chgVerdict := (hP.keepsCharger (by decide)).trans hKeeps
  rw [s.chgFault_eq]
  refine ⟨hFault, hAll.cell.trans (Chg.cell_eq_of_beside hBeside), ?_, hAll.events _ rfl hEvent, fun hRoom => ?_⟩
  · exact hSame.trans ((hP.regN _ (by decide)).trans hCount)
  · have hBytes : u.faultBytes cause s.phaseN = [byte cause, byte s.phaseN] ++ beBytes 2 (volt20 s.chg.bat) ++
        beBytes 2 (min (s.regN R.CHG_FAULTCNT + 1) 0xFFFF) := by
      have hBat : u.chg.bat = s.chg.bat := (congrArg Chg.bat hBeside :)
      rw [State.faultBytes, hBat, hCount]
    rw [← hBytes]
    exact (p.tetMove_stay.trans p.tetMove.chgVerdict_stay).holds
      (u.post_holds _ _ (((s.faultCounted_touch cause).sameIntake (by decide)).roomFor hRoom))

/-- A fault leaves the records that wait. -/
theorem State.chgFault_stay (cause : Nat) : RecordsStay s (s.chgFault cause) := by
  have hCounted : RecordsStay s (s.faultCounted cause) := (s.faultCounted_touch cause).recordsStay (by decide)
  rw [s.chgFault_eq]
  exact ((hCounted.trans (State.post_stay _ _ _)).trans (State.tetMove_stay _)).trans (State.chgVerdict_stay _)

/-- CHG_TIMEOUT_FAULT (R169). -/
theorem chgTimeoutFault_gives (hs : s.live = true) (hExpired : s.timerExpired = true) : Gives (.chgTimeoutFault) s fun t =>
      t.phaseN = phFault ∧ (t.chg.fault = (match timerOf s.phaseN with | 2 => 1 | 3 => 2 | _ => 3)) ∧
      t.chg.faultAt = some s.now ∧ t.regN R.CHG_FAULTCNT = min (s.regN R.CHG_FAULTCNT + 1) 0xFFFF ∧
      t.flag F.CHG_EVENT_FAULT ∧
      (s.roomFor K.CHG_FAULT → t.holds K.CHG_FAULT ([byte t.chg.fault, byte s.phaseN] ++ beBytes 2 (volt20 s.chg.bat) ++
        beBytes 2 (min (s.regN R.CHG_FAULTCNT + 1) 0xFFFF))) := by
  let cause : Nat := match timerOf s.phaseN with | 2 => 1 | 3 => 2 | _ => 3
  obtain ⟨hPhase, hCell, hCount, hEvent, hRecord⟩ := s.chgFault_shows cause
  have hCause : (s.chgFault cause).chg.fault = cause := (congrArg Chg.fault hCell :)
  refine Gives.of_when rfl (by rw [hs, hExpired]; rfl) ?_
  exact ⟨hPhase, hCause, (congrArg Chg.faultAt hCell :), hCount, hEvent, fun hRoom => hCause.symm ▸ hRecord hRoom⟩

/-- CHG_BAT_OV (R169). -/
theorem chgBatOv_gives (bat : Nat) (hs : s.live = true) (hOver : s.series * (s.regN R.CHG_VREG * 10 + 100) < bat)
    (hOff : s.phaseN ≠ phOff) (hDetect : s.phaseN ≠ phDetect) (hAbsent : s.phaseN ≠ phAbsent) (hFault : s.phaseN ≠ phFault) :
    Gives (.chgBatOv bat) s fun t =>
      t.phaseN = phFault ∧ t.chg.fault = 4 ∧ t.chg.bat = bat ∧ t.flag F.CHG_EVENT_FAULT ∧
      t.regN R.CHG_FAULTCNT = min (s.regN R.CHG_FAULTCNT + 1) 0xFFFF := by
  let u : State := s.setBat bat
  obtain ⟨hPhase, hCell, hCount, hEvent, -⟩ := u.chgFault_shows 4
  refine Gives.of_when rfl (by simp [hs, hOver, hOff, hDetect, hAbsent, hFault]) ⟨hPhase, (congrArg Chg.fault hCell :), ?_, hEvent, ?_⟩
  · exact (congrArg Chg.bat hCell :).trans (congrArg Chg.bat (s.setBat_chg bat))
  · rw [hCount, (s.setBat_self_touch bat).regN _ (by decide)]

/-! ## A fault cleared (R169) -/

theorem State.chgDetect_keepsCharger : KeepsCharger s s.chgDetect := by
  have hOff : KeepsCharger s s.chgOff :=
    .ite (.refl s) ((s.enterPhase_keepsCharger phOff).trans (State.keepsCharger_of_cell _ rfl))
  let u : State := { s with chg := { s.chg with absentDue := none } }
  let v : State := { u with chg := { u.chg with prior := phDetect } }
  let w : State := { u with chg := { u.chg with prior := u.phaseN } }
  have hV : KeepsCharger s v := s.keepsCharger_of_cell rfl
  have hW : KeepsCharger s w := s.keepsCharger_of_cell rfl
  exact .ite hOff (.ite (hV.trans (v.enterPhase_keepsCharger phSusp)) (hW.trans (w.enterPhase_keepsCharger phDetect)))

/-- A fault forgotten, with the detection that follows it. -/
def State.faultCleared : State :=
  let u : State := { s with chg := { s.chg with faultAt := none, fault := 0 } }
  if u.phaseN = phFault then u.chgDetect else u

theorem State.chgUnfault_eq : s.chgUnfault = (s.faultCleared.tetMove).refreshCell 3 := rfl

theorem State.chgUnfault_keepsCharger : KeepsCharger { s with chg := { s.chg with faultAt := none, fault := 0 } } s.chgUnfault := by
  let u : State := { s with chg := { s.chg with faultAt := none, fault := 0 } }
  have hCell := State.refreshCell_touch (.refl State.refreshCell_cells s.faultCleared.tetMove) (Sub.refl _) 3
  have hCleared : KeepsCharger u s.faultCleared := .ite u.chgDetect_keepsCharger (.refl u)
  exact (hCleared.trans (State.tetMove_keepsCharger _)).trans (hCell.keepsCharger (by decide))

/-- The phase after FAULT, where the Tether converter stays in its mode (R155, R169). -/
theorem State.chgUnfault_phaseN (hPhase : s.phaseN = phFault) (hAllowed : s.chgAllowed = true)
    (hMode : s.chgUnfault.field F.CONV_STATUS_TET_MODE = s.field F.CONV_STATUS_TET_MODE) :
    s.chgUnfault.phaseN = if s.chgHeld then phSusp else phDetect := by
  let u : State := { s with chg := { s.chg with faultAt := none, fault := 0 } }
  have hCleared : s.faultCleared = u.chgDetect := if_pos hPhase
  have hCell := State.refreshCell_touch (.refl State.refreshCell_cells s.faultCleared.tetMove) (Sub.refl _) 3
  have hDetect : Touch State.chgDetect_cells u u.chgDetect := State.chgDetect_touch (.refl _ u) (Sub.refl _)
  have hStays : s.faultCleared.tetMove = s.faultCleared := by
    refine State.tetMove_of_same_mode _ ?_
    rw [← hCell.field F.CONV_STATUS_TET_MODE (by decide), ← s.chgUnfault_eq, hMode, hCleared]
    exact (hDetect.field F.CONV_STATUS_TET_MODE (by decide)).symm
  calc s.chgUnfault.phaseN = s.faultCleared.tetMove.phaseN := hCell.field F.CHG_STATUS_PHASE (by decide)
    _ = u.chgDetect.phaseN := by rw [hStays, hCleared]
    _ = if s.chgHeld then phSusp else phDetect := (u.chgDetect_shows hAllowed).1

theorem State.setBat_chgAllowed (bat : Nat) : (s.setBat bat).chgAllowed = s.chgAllowed := by
  have hBat := s.setBat_self_touch bat
  unfold State.chgAllowed
  rw [hBat.boot (by decide), hBat.flag F.CHG_CFG_EN (by decide), hBat.flag F.SYS_SAFECAUSE_NOIMAGE (by decide),
    hBat.flag F.SYS_SAFECAUSE_CHEM (by decide), hBat.flag F.SYS_SAFECAUSE_CFGCRC (by decide)]

/-- CHG_FAULT_AUTOCLEAR (R169). -/
theorem chgFaultAutoclear_gives (bat d : Nat) (hs : s.live = true) (hAt : s.chg.faultAt = some d)
    (hDay : d + secTicks 86400 ≤ s.now)
    (hCause : s.chg.fault = 1 ∨ s.chg.fault = 2 ∨ s.chg.fault = 3 ∨ (s.chg.fault = 4 ∧ bat < s.series * (s.regN R.CHG_VREG * 10))) :
    Gives (.chgFaultAutoclear bat) s fun t =>
      t.chg.fault = 0 ∧ t.chg.faultAt = none ∧
      (s.phaseN = phFault → s.chgAllowed → t.field F.CONV_STATUS_TET_MODE = s.field F.CONV_STATUS_TET_MODE → t.phaseN =
        (if s.chgHeld then phSusp else phDetect)) := by
  let u : State := s.setBat bat
  have hBat := s.setBat_self_touch bat
  have hEq : u.chgClear = u.chgUnfault := by
    refine if_pos ?_
    have hChg : u.chg = { s.chg with bat := bat } := s.setBat_chg bat
    have hSeries : u.series = s.series := s.setBat_series bat
    have hVreg : u.regN R.CHG_VREG = s.regN R.CHG_VREG := hBat.regN _ (by decide)
    rw [hChg, hSeries, hVreg]
    simpa [or_assoc] using hCause
  refine Gives.of_when rfl (by simp [hs, hAt, State.elapsed, hDay]) ?_
  rw [show (s.setBat bat).chgClear = u.chgUnfault from hEq]
  have hCell := u.chgUnfault_keepsCharger.cell
  refine ⟨(congrArg Chg.fault hCell :), (congrArg Chg.faultAt hCell :), fun hPhase hAllowed hMode => ?_⟩
  rw [← s.setBat_chgHeld bat]
  exact u.chgUnfault_phaseN ((s.setBat_phaseN bat).trans hPhase) ((s.setBat_chgAllowed bat).trans hAllowed)
    (hMode.trans (hBat.field _ (by decide)).symm)

end
end Sys2Proof.Machine
end

section
/-!
SUPPORT. The thermistors (R165, R169): their zones, the faults they raise, the suspension for temperature, and O21.
-/

namespace Sys2Proof.Machine

/-! ## Fields beside each other -/

/-- A field beside one that is written stays. -/
theorem fieldOf_putFieldOf_ne (v : Word) (lo width x lo' width' : Nat) (h : lo' + width' ≤ lo ∨ lo + width ≤ lo') :
    fieldOf (putFieldOf v lo width x) lo' width' = fieldOf v lo' width' := by
  unfold fieldOf
  apply Nat.eq_of_testBit_eq
  intro i
  simp only [Nat.testBit_mod_two_pow, Nat.testBit_div_two_pow, BitVec.testBit_toNat]
  by_cases hi : i < width'
  · exact congrArg _ (bitOf_putFieldOf v lo width x (i + lo') (by omega))
  · simp [hi]

theorem State.field_setField_ne (s : State) (f : Field) (x : Nat) (g : Field)
    (h : g.lo + g.width ≤ f.lo ∨ f.lo + f.width ≤ g.lo) : (s.setField f x).field g = s.field g := by
  unfold State.field
  rw [State.reg_setField]
  by_cases hr : g.reg = f.reg
  · rw [if_pos hr, fieldOf_putFieldOf_ne _ _ _ _ _ _ h, hr]
  · rw [if_neg hr]

/-! ## Zones are codes of three bits (R165, R171) -/

theorem zoneIn_lt (chem : Nat) (k t : Int) : zoneIn chem k t < 8 := by
  unfold zoneIn
  dsimp only
  split_ifs <;> decide

theorem worseZone_lt {a b : Nat} (ha : a < 8) (hb : b < 8) : worseZone a b < 8 := by
  unfold worseZone
  split <;> assumption

theorem zoneOf_lt (chem : Nat) (old : Option Nat) (t : Option Int) : zoneOf chem old t < 8 := by
  have hRaw (x : Int) : rawZone chem x < 8 := zoneIn_lt chem 1 x
  unfold zoneOf
  split
  · decide
  · exact hRaw _
  · dsimp only
    split_ifs
    · exact worseZone_lt (hRaw _) (hRaw _)
    · exact worseZone_lt (hRaw _) (hRaw _)
    · exact worseZone_lt (hRaw _) (hRaw _)
    · exact hRaw _

/-- An open or shorted thermistor is in SENSOR. -/
theorem zoneOf_none (chem : Nat) (old : Option Nat) : zoneOf chem old none = 5 := by
  cases old <;> rfl

theorem zoneUsed_lt {two : Bool} {a b : Option Int} {za zb : Nat} (ha : za < 8) (hb : zb < 8) : zoneUsed two a b za zb < 8 := by
  unfold zoneUsed
  split
  · exact ha
  · split
    · split_ifs <;> assumption
    · decide

section
variable (s : State)

/-! ## The causes of NTC_FAULT (R165, R169) -/

/-- A cause listed, where it is new. -/
theorem State.ntcFaultOn_chg (cause : Nat) : ∃ l, (s.ntcFaultOn cause).chg = { s.chg with ntcFault := l } ∧ cause ∈ l ∧
    ∀ c ∈ s.chg.ntcFault, c ∈ l := by
  by_cases h : s.chg.ntcFault.contains cause = true
  · rw [State.ntcFaultOn, if_pos h]
    exact ⟨s.chg.ntcFault, rfl, List.contains_iff_mem.1 h, fun _ hc => hc⟩
  · rw [State.ntcFaultOn, if_neg h]
    refine ⟨s.chg.ntcFault ++ [cause], ?_, by simp, fun _ hc => List.mem_append_left _ hc⟩
    rw [(State.chgVerdict_self_touch _).chg (by decide), (State.post_touch (.refl State.post_cells _) (Sub.refl _) _ _).chg (by decide)]

/-- A cause taken off the list. -/
theorem State.ntcFaultOff_chg (cause : Nat) : ∃ l, (s.ntcFaultOff cause).chg = { s.chg with ntcFault := l } ∧
    ∀ c ∈ s.chg.ntcFault, c ≠ cause → c ∈ l := by
  by_cases h : s.chg.ntcFault.contains cause = true
  · rw [State.ntcFaultOff, if_pos h]
    refine ⟨s.chg.ntcFault.filter (· != cause), ?_, fun c hc hne => List.mem_filter.2 ⟨hc, by simpa using hne⟩⟩
    exact (State.refreshCell_touch (.refl State.refreshCell_cells _) (Sub.refl _) 3).chg (by decide)
  · rw [State.ntcFaultOff, if_neg h]
    exact ⟨s.chg.ntcFault, rfl, fun _ hc _ => hc⟩

/-- A new cause is recorded with both readings (R169). -/
theorem State.ntcFaultOn_holds (cause : Nat) (hNew : cause ∉ s.chg.ntcFault) (hRoom : s.roomFor K.NTC_FAULT) :
    (s.ntcFaultOn cause).holds K.NTC_FAULT ([byte cause] ++ tempBytes s.chg.ntca ++ tempBytes s.chg.ntcb) := by
  rw [State.ntcFaultOn, if_neg (by rwa [List.contains_iff_mem])]
  refine (State.chgVerdict_stay _).holds (State.post_holds _ _ _ ?_)
  exact hRoom

theorem State.ntcFaultOn_self_touch (cause : Nat) : Touch State.ntcFaultOn_cells s (s.ntcFaultOn cause) :=
  State.ntcFaultOn_touch (.refl _ s) (Sub.refl _) cause

theorem State.ntcFaultOff_self_touch (cause : Nat) : Touch State.ntcFaultOff_cells s (s.ntcFaultOff cause) :=
  State.ntcFaultOff_touch (.refl _ s) (Sub.refl _) cause

/-- NTC_DISAGREE (R165, R169). -/
theorem ntcDisagree_gives (d : Nat) (hs : s.live = true) (hTwo : s.flag F.CHG_CFG_NTCB_EN = true)
    (hFrom : s.chg.ntcDiffFrom = some d) (hMinute : d + secTicks 60 ≤ s.now) : Gives (.ntcDisagree) s fun t =>
      3 ∈ t.chg.ntcFault ∧ (s.phaseN ≠ phOff → s.phaseN ≠ phFault → t.phaseN = phFault ∧ t.chg.fault = 5) ∧
      (3 ∉ s.chg.ntcFault → s.roomFor K.NTC_FAULT → t.holds K.NTC_FAULT ([3] ++ tempBytes s.chg.ntca ++ tempBytes
        s.chg.ntcb)) := by
  let u : State := s.ntcFaultOn 3
  let t : State := if u.phaseN = phOff || u.phaseN = phFault then u else u.chgFault 5
  obtain ⟨l, hChg, hThree, -⟩ := s.ntcFaultOn_chg 3
  have hPhase : u.phaseN = s.phaseN := (s.ntcFaultOn_self_touch 3).field F.CHG_STATUS_PHASE (by decide)
  obtain ⟨hFault, hCell, -⟩ := u.chgFault_shows 5
  have hListed : t.chg.ntcFault = u.chg.ntcFault := by
    by_cases h : (decide (u.phaseN = phOff) || decide (u.phaseN = phFault)) = true
    · rw [show t = u from if_pos h]
    · rw [show t = u.chgFault 5 from if_neg h]
      exact (congrArg Chg.ntcFault hCell :)
  have hStay : RecordsStay u t := .ite (.refl u) (u.chgFault_stay 5)
  refine Gives.of_when rfl (by simp [hs, hTwo, hFrom, State.elapsed, hMinute]) ?_
  change 3 ∈ t.chg.ntcFault ∧ (_ → _ → t.phaseN = _ ∧ t.chg.fault = 5) ∧ (_ → _ → t.holds _ _)
  refine ⟨by rw [hListed, hChg]; exact hThree, fun hOff hNot => ?_, fun hNew hRoom => hStay.holds (s.ntcFaultOn_holds 3 hNew hRoom)⟩
  rw [show t = u.chgFault 5 from if_neg (by simp [hPhase, hOff, hNot])]
  exact ⟨hFault, (congrArg Chg.fault hCell :)⟩

/-! ## The zone used (R165, R167) -/

/-- What follows a zone beside the figures: its event, and the suspension for temperature. -/
def State.zoneShown (z : Nat) : State := if s.zone = z then s else (s.setField F.CHG_ZONE_USED z).event F.CHG_EVENT_ZONE_CHG

theorem State.zoneShown_zone (z : Nat) (hz : z < 8) : (s.zoneShown z).zone = z := by
  unfold State.zoneShown
  split
  · assumption
  · exact (State.field_setFlag_ne _ F.CHG_EVENT_ZONE_CHG true _ (by decide) (by decide)).trans
      ((s.field_setField _ z (by decide)).trans (Nat.mod_eq_of_lt hz))

/-- The zones of the two readings stay as the zone used changes. -/
theorem State.zoneShown_field (z : Nat) (g : Field) (hg : g.reg = R.CHG_ZONE ∧ g.lo + g.width ≤ 6) :
    (s.zoneShown z).field g = s.field g := by
  unfold State.zoneShown
  split
  · rfl
  · exact (State.field_setFlag_ne _ F.CHG_EVENT_ZONE_CHG true g (by decide) (.inl (by rw [hg.1]; decide))).trans
      (s.field_setField_ne _ z g (.inl hg.2))

theorem State.zoneShown_chg (z : Nat) : (s.zoneShown z).chg = s.chg := by
  unfold State.zoneShown
  split <;> rfl

/-- The suspension for temperature follows the zone. -/
def State.zoneSuspended (z : Nat) : State :=
  if z = 0 || z = 4 || z = 5 then s.chgSuspend F.CHG_STATUS_SUSP_TEMP else s.chgRelease F.CHG_STATUS_SUSP_TEMP

theorem State.setZone_eq (z : Nat) : s.setZone z = ((s.zoneShown z).zoneSuspended z).chgFigures := rfl

theorem State.zoneSuspended_touch (z : Nat) : Touch (R.CHG_STATUS :: State.chgSuspend_cells) s (s.zoneSuspended z) :=
  Touch.ite (State.chgSuspend_touch (.refl _ s) (Sub.of rfl) _ (.inl (by decide)))
    (State.setFlag_touch (.refl _ s) _ _ (.inl (by decide)))

theorem State.zoneSuspended_shows (z : Nat) : (s.zoneSuspended z).chg.cell = s.chg.cell ∧
    (z = 4 → (s.zoneSuspended z).flag F.CHG_STATUS_SUSP_TEMP = true) ∧
    (z = 2 → (s.zoneSuspended z).flag F.CHG_STATUS_SUSP_TEMP = false) := by
  by_cases h : (decide (z = 0) || decide (z = 4) || decide (z = 5)) = true
  · have hSuspend : (s.chgSuspend F.CHG_STATUS_SUSP_TEMP).chg.cell = s.chg.cell := by
      by_cases hSet : s.flag F.CHG_STATUS_SUSP_TEMP = true
      · rw [State.chgSuspend, if_pos hSet]
      · exact (s.chgSuspend_keepsCharger _ (Bool.eq_false_iff.2 hSet)).cell
    rw [State.zoneSuspended, if_pos h]
    exact ⟨hSuspend, fun _ => s.chgSuspend_flag _ (by decide) (by decide), fun e => absurd h (by rw [e]; decide)⟩
  · rw [State.zoneSuspended, if_neg h]
    exact ⟨rfl, fun e => absurd (by rw [e]; rfl) h, fun _ => s.flag_setFlag_same _ _ (by decide)⟩

/-- A zone as it is used (R165). -/
theorem State.setZone_shows (z : Nat) (hz : z < 8) : (s.setZone z).zone = z ∧ (s.setZone z).field F.CHG_ZONE_A = s.field F.CHG_ZONE_A ∧
    (s.setZone z).field F.CHG_ZONE_B = s.field F.CHG_ZONE_B ∧ (s.setZone z).chg.cell = s.chg.cell ∧
    (z = 4 → (s.setZone z).flag F.CHG_STATUS_SUSP_TEMP = true) ∧ (z = 2 → (s.setZone z).flag F.CHG_STATUS_SUSP_TEMP = false) := by
  let v : State := (s.zoneShown z).zoneSuspended z
  have hZone : Touch (R.CHG_STATUS :: (State.chgSuspend_cells ++ State.chgFigures_cells)) (s.zoneShown z) v.chgFigures :=
    State.chgFigures_touch ((State.zoneSuspended_touch _ z).mono (Sub.of rfl)) (Sub.of rfl)
  obtain ⟨hCell, hOver, hIn⟩ := (s.zoneShown z).zoneSuspended_shows z
  have hKeeps := v.chgFigures_keepsCharger
  have hTemp : v.chgFigures.flag F.CHG_STATUS_SUSP_TEMP = v.flag F.CHG_STATUS_SUSP_TEMP := hKeeps.status _ rfl (by decide) (by decide)
  rw [s.setZone_eq]
  refine ⟨(hZone.field F.CHG_ZONE_USED (by decide)).trans (s.zoneShown_zone z hz),
    (hZone.field _ (by decide)).trans (s.zoneShown_field z _ (by decide)),
    (hZone.field _ (by decide)).trans (s.zoneShown_field z _ (by decide)), ?_, fun h => hTemp.trans (hOver h),
    fun h => hTemp.trans (hIn h)⟩
  exact hKeeps.cell.trans (hCell.trans (congrArg Chg.cell (s.zoneShown_chg z)))

/-! ## A reading (R165) -/

/-- Sensors' faults as their zones have them: the readings stay, and no cause is lost that its zone holds. -/
theorem State.ntcSensors_chg (two : Bool) (za zb : Nat) : ∃ l, (s.ntcSensors two za zb).chg = { s.chg with ntcFault := l } ∧
    (za = 5 → 1 ∈ l) ∧ (two = true → zb = 5 → 2 ∈ l) := by
  have hFirst : ∃ l, (if za = 5 then s.ntcFaultOn 1 else s.ntcFaultOff 1).chg = { s.chg with ntcFault := l } ∧ (za = 5 → 1 ∈ l) := by
    by_cases h : za = 5
    · obtain ⟨l, hChg, hOne, -⟩ := s.ntcFaultOn_chg 1
      rw [if_pos h]
      exact ⟨l, hChg, fun _ => hOne⟩
    · obtain ⟨l, hChg, -⟩ := s.ntcFaultOff_chg 1
      rw [if_neg h]
      exact ⟨l, hChg, fun e => absurd e h⟩
  obtain ⟨l, hChg, hOne⟩ := hFirst
  unfold State.ntcSensors
  dsimp only
  generalize (if za = 5 then s.ntcFaultOn 1 else s.ntcFaultOff 1) = u at hChg ⊢
  by_cases h : (two && decide (zb = 5)) = true
  · obtain ⟨m, hChg', hTwo, hKept⟩ := u.ntcFaultOn_chg 2
    rw [if_pos h]
    exact ⟨m, by rw [hChg', hChg], fun e => hKept 1 (by rw [hChg]; exact hOne e), fun _ _ => hTwo⟩
  · obtain ⟨m, hChg', hKept⟩ := u.ntcFaultOff_chg 2
    rw [if_neg h]
    exact ⟨m, by rw [hChg', hChg], fun e => hKept 1 (by rw [hChg]; exact hOne e) (by decide),
      fun hTwo e => absurd (by simp [hTwo, e]) h⟩

/-- The end of a disagreement leaves the readings, the bit of the suspension for temperature, and the causes but its own (R169). -/
theorem State.ntcAgree_shows : s.ntcAgree.chg.ntca = s.chg.ntca ∧ s.ntcAgree.chg.ntcb = s.chg.ntcb ∧
    (∀ c ∈ s.chg.ntcFault, c ≠ 3 → c ∈ s.ntcAgree.chg.ntcFault) ∧
    s.ntcAgree.flag F.CHG_STATUS_SUSP_TEMP = s.flag F.CHG_STATUS_SUSP_TEMP := by
  by_cases h : (s.chg.ntcFault.contains 3 && s.elapsed (s.chg.ntcAgreeFrom.map (· + secTicks 60))) = true
  · obtain ⟨l, hChg, hKept⟩ := s.ntcFaultOff_chg 3
    let u : State := s.ntcFaultOff 3
    let v : State := { u with chg := { u.chg with faultAt := none, fault := 0 } }
    have hTemp : u.flag F.CHG_STATUS_SUSP_TEMP = s.flag F.CHG_STATUS_SUSP_TEMP := (s.ntcFaultOff_self_touch 3).flag _ (by decide)
    have hEq : s.ntcAgree = if u.chg.fault = 5 then u.chgUnfault else u := if_pos h
    have hA : u.chg.ntca = s.chg.ntca := by rw [show u.chg = _ from hChg]
    have hB : u.chg.ntcb = s.chg.ntcb := by rw [show u.chg = _ from hChg]
    have hList : u.chg.ntcFault = l := by rw [show u.chg = _ from hChg]
    rw [hEq]
    split
    · have hKeeps : KeepsCharger v u.chgUnfault := u.chgUnfault_keepsCharger
      refine ⟨(congrArg Chg.ntca hKeeps.cell :).trans hA, (congrArg Chg.ntcb hKeeps.cell :).trans hB, fun c hc hne => ?_, ?_⟩
      · rw [show u.chgUnfault.chg.ntcFault = u.chg.ntcFault from (congrArg Chg.ntcFault hKeeps.cell :), hList]
        exact hKept c hc hne
      · exact (hKeeps.status F.CHG_STATUS_SUSP_TEMP rfl (by decide) (by decide)).trans hTemp
    · exact ⟨hA, hB, fun c hc hne => by rw [hList]; exact hKept c hc hne, hTemp⟩
  · rw [show s.ntcAgree = s from if_neg h]
    exact ⟨rfl, rfl, fun _ hc _ => hc, rfl⟩

/-- The zone of a reading of NTCA (R165). -/
abbrev State.zoneA (a : Option Int) : Nat := zoneOf s.chem (oldZone s.chg.ntca (s.field F.CHG_ZONE_A)) a

/-- The zone of a reading of NTCB, shown while NTCB is enabled (R165). -/
def State.zoneB (b : Option Int) : Nat :=
  if s.flag F.CHG_CFG_NTCB_EN then zoneOf s.chem (oldZone s.chg.ntcb (s.field F.CHG_ZONE_B)) b else s.field F.CHG_ZONE_B

theorem State.zoneB_lt (b : Option Int) : s.zoneB b < 8 := by
  unfold State.zoneB
  split
  · exact zoneOf_lt _ _ _
  · exact s.field_lt F.CHG_ZONE_B

/-- Both readings kept and their zones shown. -/
def State.readingShown (a b : Option Int) : State :=
  let u : State := { s with chg := { s.chg with ntca := a, ntcb := if s.flag F.CHG_CFG_NTCB_EN then b else s.chg.ntcb } }
  (u.setField F.CHG_ZONE_A (s.zoneA a)).setField F.CHG_ZONE_B (s.zoneB b)

/-- Then the sensors' faults and the times of agreement. -/
def State.readingJudged (a b : Option Int) : State :=
  let two := s.flag F.CHG_CFG_NTCB_EN
  ((s.readingShown a b).ntcSensors two (s.zoneA a) (s.zoneB b)).ntcTimes (two && ntcDiffer a b)

theorem State.ntcRead_eq (a b : Option Int) : s.ntcRead a b =
    ((s.readingJudged a b).setZone (zoneUsed (s.flag F.CHG_CFG_NTCB_EN) a b (s.zoneA a) (s.zoneB b))).ntcAgree := rfl

theorem State.readingShown_fields (a b : Option Int) : (s.readingShown a b).field F.CHG_ZONE_A = s.zoneA a ∧
    (s.readingShown a b).field F.CHG_ZONE_B = s.zoneB b := by
  let u : State := { s with chg := { s.chg with ntca := a, ntcb := if s.flag F.CHG_CFG_NTCB_EN then b else s.chg.ntcb } }
  let v : State := u.setField F.CHG_ZONE_A (s.zoneA a)
  have hA : v.field F.CHG_ZONE_A = s.zoneA a :=
    (u.field_setField _ _ (by decide)).trans (Nat.mod_eq_of_lt (zoneOf_lt _ _ _))
  exact ⟨(v.field_setField_ne F.CHG_ZONE_B _ _ (by decide)).trans hA,
    (v.field_setField _ _ (by decide)).trans (Nat.mod_eq_of_lt (s.zoneB_lt b))⟩

/-- What the readings show before the zone used follows. -/
theorem State.readingJudged_shows (a b : Option Int) : (s.readingJudged a b).field F.CHG_ZONE_A = s.zoneA a ∧
    (s.readingJudged a b).field F.CHG_ZONE_B = s.zoneB b ∧ (s.readingJudged a b).chg.ntca = a ∧
    (s.readingJudged a b).chg.ntcb = (if s.flag F.CHG_CFG_NTCB_EN then b else s.chg.ntcb) ∧
    (s.zoneA a = 5 → 1 ∈ (s.readingJudged a b).chg.ntcFault) ∧
    (s.flag F.CHG_CFG_NTCB_EN = true → s.zoneB b = 5 → 2 ∈ (s.readingJudged a b).chg.ntcFault) := by
  let u : State := s.readingShown a b
  let v : State := u.ntcSensors (s.flag F.CHG_CFG_NTCB_EN) (s.zoneA a) (s.zoneB b)
  have hV : Touch State.ntcSensors_cells u v := State.ntcSensors_touch (.refl _ u) (Sub.refl _) _ _ _
  obtain ⟨hA, hB⟩ := s.readingShown_fields a b
  obtain ⟨l, hChg, hOne, hTwo⟩ := u.ntcSensors_chg (s.flag F.CHG_CFG_NTCB_EN) (s.zoneA a) (s.zoneB b)
  have hList : v.chg.ntcFault = l := congrArg Chg.ntcFault hChg
  exact ⟨(hV.field F.CHG_ZONE_A (by decide)).trans hA, (hV.field F.CHG_ZONE_B (by decide)).trans hB, (congrArg Chg.ntca hChg :),
    (congrArg Chg.ntcb hChg :), fun h => hList.symm ▸ hOne h, fun h h' => hList.symm ▸ hTwo h h'⟩

/-- Both thermistors read (R165). -/
theorem State.ntcRead_shows (a b : Option Int) : (s.ntcRead a b).chg.ntca = a ∧
    (s.ntcRead a b).chg.ntcb = (if s.flag F.CHG_CFG_NTCB_EN then b else s.chg.ntcb) ∧
    (s.ntcRead a b).field F.CHG_ZONE_A = s.zoneA a ∧ (s.ntcRead a b).field F.CHG_ZONE_B = s.zoneB b ∧
    (s.ntcRead a b).zone = zoneUsed (s.flag F.CHG_CFG_NTCB_EN) a b (s.zoneA a) (s.zoneB b) ∧
    (a = none → 1 ∈ (s.ntcRead a b).chg.ntcFault) ∧
    (s.flag F.CHG_CFG_NTCB_EN = true → b = none → 2 ∈ (s.ntcRead a b).chg.ntcFault) ∧
    ((s.ntcRead a b).zone = 4 → (s.ntcRead a b).flag F.CHG_STATUS_SUSP_TEMP = true) ∧
    ((s.ntcRead a b).zone = 2 → (s.ntcRead a b).flag F.CHG_STATUS_SUSP_TEMP = false) := by
  let z : Nat := zoneUsed (s.flag F.CHG_CFG_NTCB_EN) a b (s.zoneA a) (s.zoneB b)
  let u : State := s.readingJudged a b
  let v : State := u.setZone z
  have hAgree : Touch State.ntcAgree_cells v v.ntcAgree := State.ntcAgree_touch (.refl _ v) (Sub.refl _)
  obtain ⟨hA, hB, hNtca, hNtcb, hOne, hTwo⟩ := s.readingJudged_shows a b
  obtain ⟨hUsed, hZoneA, hZoneB, hCell, hOver, hIn⟩ := u.setZone_shows z (zoneUsed_lt (zoneOf_lt _ _ _) (s.zoneB_lt b))
  obtain ⟨hKeepA, hKeepB, hFaults, hTemp⟩ := v.ntcAgree_shows
  have hZone : v.ntcAgree.zone = z := (hAgree.field F.CHG_ZONE_USED (by decide)).trans hUsed
  have hListed : v.chg.ntcFault = u.chg.ntcFault := (congrArg Chg.ntcFault hCell :)
  rw [s.ntcRead_eq]
  refine ⟨hKeepA.trans ((congrArg Chg.ntca hCell :).trans hNtca), hKeepB.trans ((congrArg Chg.ntcb hCell :).trans hNtcb),
    (hAgree.field _ (by decide)).trans (hZoneA.trans hA), (hAgree.field _ (by decide)).trans (hZoneB.trans hB), hZone,
    fun hNone => ?_, fun hEnabled hNone => ?_, fun h => hTemp.trans (hOver (hZone.symm.trans h)),
    fun h => hTemp.trans (hIn (hZone.symm.trans h))⟩
  · refine hFaults 1 (hListed.symm ▸ hOne ?_) (by decide)
    rw [hNone]
    exact zoneOf_none _ _
  · refine hFaults 2 (hListed.symm ▸ hTwo hEnabled ?_) (by decide)
    rw [State.zoneB, if_pos hEnabled, hNone]
    exact zoneOf_none _ _

theorem State.whenRun_of_run (h : s.phase = .run) (f : State → State) : s.whenRun f = f s := by
  simp [State.whenRun, h]

/-- NTC_READING with NTCA alone (R165). -/
theorem ntcReading_one_gives (a nb : Option Int) (hRun : s.phase = .run) (hOne : s.flag F.CHG_CFG_NTCB_EN = false) :
    Gives (.ntcReading a nb) s fun t =>
      t.chg.ntca = a ∧ t.field F.CHG_ZONE_A = zoneOf s.chem (oldZone s.chg.ntca (s.field F.CHG_ZONE_A)) a ∧
      t.zone = t.field F.CHG_ZONE_A ∧ (a = none → 1 ∈ t.chg.ntcFault) ∧ (t.zone = 4 → t.flag F.CHG_STATUS_SUSP_TEMP) ∧
      (t.zone = 2 → t.flag F.CHG_STATUS_SUSP_TEMP = false) := by
  obtain ⟨hNtca, -, hA, -, hUsed, hFault, -, hOver, hIn⟩ := s.ntcRead_shows a nb
  rw [hOne] at hUsed
  exact ⟨s.ntcRead a nb, congrArg Host.Outcome.next (s.whenRun_of_run hRun _), hNtca, hA, hUsed.trans hA.symm, hFault, hOver, hIn⟩

/-- NTC_READING with both (R165). -/
theorem ntcReading_two_gives (a nb : Option Int) (hRun : s.phase = .run) (hTwo : s.flag F.CHG_CFG_NTCB_EN = true) :
    Gives (.ntcReading a nb) s fun t =>
      t.chg.ntca = a ∧ t.chg.ntcb = nb ∧
      t.field F.CHG_ZONE_A = zoneOf s.chem (oldZone s.chg.ntca (s.field F.CHG_ZONE_A)) a ∧
      t.field F.CHG_ZONE_B = zoneOf s.chem (oldZone s.chg.ntcb (s.field F.CHG_ZONE_B)) nb ∧
      t.zone = zoneUsed true a nb (t.field F.CHG_ZONE_A) (t.field F.CHG_ZONE_B) ∧ (a = none → 1 ∈ t.chg.ntcFault) ∧
      (nb = none → 2 ∈ t.chg.ntcFault) ∧ (t.zone = 4 → t.flag F.CHG_STATUS_SUSP_TEMP) ∧
      (t.zone = 2 → t.flag F.CHG_STATUS_SUSP_TEMP = false) := by
  obtain ⟨hNtca, hNtcb, hA, hB, hUsed, hFaultA, hFaultB, hOver, hIn⟩ := s.ntcRead_shows a nb
  have hZoneB : s.zoneB nb = zoneOf s.chem (oldZone s.chg.ntcb (s.field F.CHG_ZONE_B)) nb := if_pos hTwo
  rw [hTwo, ← hA, ← hB] at hUsed
  exact ⟨s.ntcRead a nb, congrArg Host.Outcome.next (s.whenRun_of_run hRun _), hNtca, hNtcb.trans (if_pos hTwo), hA,
    hB.trans hZoneB, hUsed, hFaultA, hFaultB hTwo, hOver, hIn⟩

end

/-- Settles O21: a clause for each command of the charger's suspensions and faults, in the statement's order. -/
theorem chargerFaults : Obligations.ChargerFaults := by
  unfold Obligations.ChargerFaults
  exact ⟨chgSuspend_gives, chgSuspend_alarm_gives, chgResume_gives, chgTimeoutFault_gives, chgBatOv_gives, ntcDisagree_gives,
    chgFaultAutoclear_gives, ntcReading_one_gives, ntcReading_two_gives⟩

end Sys2Proof.Machine
end

section
/-!
SUPPORT. The Weighbridge's records (R177, R178, R193, R195 to R197): what a trigger at its start time leads to, what follows the
acceptance of a record leaves alone, and O23.
-/

namespace Sys2Proof.Machine

section
variable (s : State)

/-! ## The last number (R177) -/

/-- With the last number due, a release gives it to the WB_FAULT of code 6, and the Weighbridge has ended. -/
theorem State.wbRelease_last (hEnded : s.wb.ended = false) (hRoom : s.wb.outq.length < 16) (hHeld : s.wb.held = [])
    (hLast : s.wb.seqNum = 0xFFFFFFFF) (typ extra : Nat) (body : List Byte) : s.wbRelease typ extra body = s.wbLast := by
  have hPlace : (s.wbRoom && s.wb.held.isEmpty) = true := by simp [State.wbRoom, hRoom, hHeld]
  rw [State.wbRelease, if_neg (by simp [hEnded]), if_pos hPlace, if_pos hLast]

theorem State.wbRelease_ended (hEnded : s.wb.ended = true) (typ extra : Nat) (body : List Byte) : s.wbRelease typ extra body = s :=
  if_pos hEnded

theorem State.wbLast_shows : s.wbLast.wb.ended = true ∧ 6 ∈ s.wbLast.wb.faults ∧ s.wbLast.wb.seqNum = s.wb.seqNum + 1 ∧
    s.wbLast.wb.outq.map Rec.typ = s.wb.outq.map Rec.typ ++ [9] ∧ s.wbLast.wb.periodDue = s.wb.periodDue := by
  refine ⟨rfl, List.mem_append_right _ (List.mem_singleton_self _), rfl, ?_, rfl⟩
  exact List.map_append

/-! ## A trigger at its start time (R184) -/

/-- A trigger is dropped in silence, arms the holdoff, is dropped with a notice, or begins its sequence. -/
theorem State.seqStart_cases (kind arg : Nat) : s.seqStart kind arg = s ∨ s.seqStart kind arg = s.holdArm ∨
    (∃ reason code, s.seqStart kind arg = s.wbNotice reason code) ∨ s.seqStart kind arg = s.seqBegin kind arg := by
  unfold State.seqStart
  split_ifs
  · exact .inr (.inl rfl)
  · exact .inr (.inr (.inl ⟨_, _, rfl⟩))
  · exact .inr (.inr (.inl ⟨_, _, rfl⟩))
  · exact .inr (.inr (.inr rfl))
  · exact .inr (.inr (.inl ⟨_, _, rfl⟩))
  · exact .inr (.inr (.inl ⟨_, _, rfl⟩))
  · exact .inl rfl
  · exact .inr (.inr (.inr rfl))

/-! ## The pending trigger (R183) -/

theorem State.startPending_none (h : s.wb.pend = none) : s.startPending = s := by
  rw [State.startPending, h]

theorem State.startPending_busy (h : s.wbBusy = true) : s.startPending = s := by
  unfold State.startPending
  split
  · rfl
  · exact if_pos h

theorem State.startPending_idle {p : Nat × Nat} (hPend : s.wb.pend = some p) (hIdle : s.wbBusy = false) :
    s.startPending = { s with wb := { s.wb with pend := none } }.seqStart p.1 p.2 := by
  rw [State.startPending, hPend]
  exact if_neg (Bool.eq_false_iff.1 hIdle)

end

/-! ## What is accepted stays (R193, R295) -/

/-- What holds from before to after whatever follows the acceptance of a record: the records accepted and those in the spool stay,
no further one is accepted, and the Weighbridge's queue grows at its end alone. -/
structure AcceptedStays (s t : State) : Prop where
  queued : s.wb.outq <+: t.wb.outq
  accepted : t.wb.accepted = s.wb.accepted
  nextSeq : t.lgr.nextSeq = s.lgr.nextSeq
  spool : t.lgr.spool = s.lgr.spool

/-- What AcceptedStays speaks of is the same in both states. -/
abbrev SameAccepted (s t : State) : Prop := t.wb.outq = s.wb.outq ∧ t.wb.accepted = s.wb.accepted ∧
  t.lgr.nextSeq = s.lgr.nextSeq ∧ t.lgr.spool = s.lgr.spool

theorem AcceptedStays.same {s t : State} (h : SameAccepted s t := by exact ⟨rfl, rfl, rfl, rfl⟩) : AcceptedStays s t := by
  obtain ⟨hQueue, hAccepted, hSeq, hSpool⟩ := h
  exact ⟨hQueue ▸ List.prefix_rfl, hAccepted, hSeq, hSpool⟩

theorem AcceptedStays.refl (s : State) : AcceptedStays s s := .same

theorem AcceptedStays.trans {s t u : State} (h : AcceptedStays s t) (h' : AcceptedStays t u) : AcceptedStays s u where
  queued := h.queued.trans h'.queued
  accepted := h'.accepted.trans h.accepted
  nextSeq := h'.nextSeq.trans h.nextSeq
  spool := h'.spool.trans h.spool

/-- A step after a change that it does not speak of. -/
theorem AcceptedStays.after {s t u : State} (h' : AcceptedStays t u) (h : SameAccepted s t := by exact ⟨rfl, rfl, rfl, rfl⟩) :
    AcceptedStays s u := (AcceptedStays.same h).trans h'

theorem AcceptedStays.ite {s a b : State} {c : Prop} [Decidable c] (ha : AcceptedStays s a) (hb : AcceptedStays s b) :
    AcceptedStays s (if c then a else b) := by
  split
  · exact ha
  · exact hb

theorem Touch.acceptedStays {W : List Nat} {s t : State} (h : Touch W s t) (hW : 0x140f ∉ W ∧ 0x1411 ∉ W) :
    AcceptedStays s t := by
  have hWb := h.wb hW.2
  have hLgr := h.lgr hW.1
  exact .same ⟨by rw [hWb], by rw [hWb], by rw [hLgr], by rw [hLgr]⟩

section
variable (s : State)

/-! ### The Ledger's intake -/

theorem State.tallyCt_acceptedStays (ct : Nat) : AcceptedStays s (s.tallyCt ct) := by
  have hTouch : Touch State.tallyCt_cells s (s.tallyCt ct) := State.tallyCt_touch (.refl _ s) (Sub.refl _) ct
  have hWb := hTouch.wb (by decide)
  have hLgr (l : Ledger) (sec due : Nat) : (l.tallied ct sec due).nextSeq = l.nextSeq ∧ (l.tallied ct sec due).spool = l.spool := by
    unfold Ledger.tallied
    split_ifs <;> exact ⟨rfl, rfl⟩
  exact .same ⟨by rw [hWb], by rw [hWb], by rw [s.tallyCt_lgr, (hLgr _ _ _).1], by rw [s.tallyCt_lgr, (hLgr _ _ _).2]⟩

theorem State.post_acceptedStays (k : Kind) (p : List Byte) : AcceptedStays s (s.post k p) :=
  .ite (.refl s) (.ite .same (.ite .same (s.tallyCt_acceptedStays _)))

/-! ### The Weighbridge's own records (R177, R193) -/

theorem State.wbEmit_acceptedStays (typ extra : Nat) (body : List Byte) : AcceptedStays s (s.wbEmit typ extra body) :=
  ⟨List.prefix_append _ _, rfl, rfl, rfl⟩

theorem State.wbLast_acceptedStays : AcceptedStays s s.wbLast := ⟨List.prefix_append _ _, rfl, rfl, rfl⟩

theorem State.wbNotice_acceptedStays (reason code : Nat) : AcceptedStays s (s.wbNotice reason code) := by
  have hRelease (typ extra : Nat) (body : List Byte) : AcceptedStays s (s.wbRelease typ extra body) :=
    .ite (.refl s) (.ite (.ite s.wbLast_acceptedStays (s.wbEmit_acceptedStays _ _ _)) .same)
  exact (hRelease _ _ _).trans .same

/-! ### The excitation of a pending sweep (R151, R185) -/

theorem State.refreshShed_acceptedStays : AcceptedStays s s.refreshShed := by
  have hTally (u : State) (c : Prop) [Decidable c] :
      AcceptedStays u (if c then (u.bump R.CONV_SHEDCNT 1).tally K.SHED else u) :=
    .ite (.after (State.tallyCt_acceptedStays _ _)) (.refl u)
  have hEvent : AcceptedStays s (if s.sourceCut && !s.conv.cut then s.event F.CONV_EVENT_SHED else s) :=
    .ite .same (.refl s)
  unfold State.refreshShed
  extract_lets +onlyGivenNames u _conv v
  have hCut : AcceptedStays u v := .same
  exact (hEvent.trans (hCut.trans (hTally v _))).trans .same

theorem State.excClip_acceptedStays : AcceptedStays s s.excClip :=
  .ite (.after (State.refreshShed_acceptedStays _)) (.refl s)

theorem State.chgSuspend_acceptedStays (f : Flag) : AcceptedStays s (s.chgSuspend f) := by
  have hPhase (u : State) : AcceptedStays u (({ u with chg := { u.chg with prior := u.phaseN } }.enterPhase phSusp).event
      F.CHG_EVENT_SUSPEND) := by
    have hEnter (v : State) : AcceptedStays v (v.enterPhase phSusp) :=
      (State.enterPhase_touch (.refl State.enterPhase_cells v) (Sub.refl _) phSusp).acceptedStays (by decide)
    have hPrior : AcceptedStays u { u with chg := { u.chg with prior := u.phaseN } } := .same
    exact (hPrior.trans (hEnter _)).trans .same
  have hTally (c : Prop) [Decidable c] :
      AcceptedStays s (if c then (s.setFlag f true).tally K.CHG_SUSPEND else s.setFlag f true) :=
    .ite (.after (State.tallyCt_acceptedStays _ _)) .same
  exact .ite (.refl s) ((hTally _).trans (.ite (.refl _) (hPhase _)))

theorem State.sweepOn_acceptedStays : AcceptedStays s s.sweepOn :=
  .trans (.after (State.chgSuspend_acceptedStays _ _))
    (.ite (.refl _) (State.excClip_acceptedStays _))

/-! ### Triggers (R183, R184) -/

theorem State.seqStart_acceptedStays (kind arg : Nat) : AcceptedStays s (s.seqStart kind arg) := by
  rcases s.seqStart_cases kind arg with h | h | ⟨reason, code, h⟩ | h <;> rw [h]
  · exact .refl s
  · exact .same
  · exact s.wbNotice_acceptedStays reason code
  · exact .ite (.after (State.sweepOn_acceptedStays _)) .same

theorem State.startPending_acceptedStays : AcceptedStays s s.startPending := by
  unfold State.startPending
  split
  · exact .refl s
  · exact .ite (.refl s) (.after (State.seqStart_acceptedStays _ _ _))

/-! ### What follows the acceptance of a Weighbridge record (R193, R206, R209, R210) -/

theorem State.wbUnhold_acceptedStays : AcceptedStays s s.wbUnhold := by
  have hOut (u : State) (typ extra : Nat) (body : List Byte) (c : Prop) [Decidable c] :
      AcceptedStays u (if c then u.wbLast else u.wbEmit typ extra body) :=
    .ite u.wbLast_acceptedStays (u.wbEmit_acceptedStays _ _ _)
  unfold State.wbUnhold
  split
  · exact .refl s
  · split
    · exact .after ((hOut _ _ _ _ _).trans (State.startPending_acceptedStays _))
    · split
      · exact .after (hOut _ _ _ _ _)
      · exact .refl s

theorem State.note_acceptedStays (code : Nat) (critical audible : Bool) (subject : Nat) :
    AcceptedStays s (s.note code critical audible subject) := by
  have hPush (u : State) (n : Note) : AcceptedStays u (u.notePush n) :=
    (State.notePush_touch (.refl State.notePush_cells u) (Sub.refl _) n).acceptedStays (by decide)
  have hCritical (n : Note) : AcceptedStays s (s.noteCritical n) :=
    .ite .same (.ite (hPush s n) (.trans (.after (State.tallyCt_acceptedStays _ _)) (hPush _ n)))
  have hHold (n : Note) : AcceptedStays s (s.noteHold n) :=
    (State.noteHold_touch (.refl State.noteHold_cells s) (Sub.refl _) n).acceptedStays (by decide)
  have hEnter (n : Note) : AcceptedStays s (s.noteEnter n) :=
    (State.noteEnter_touch (.refl State.noteEnter_cells s) (Sub.refl _) n).acceptedStays (by decide)
  exact .ite (.refl s) (.ite (hCritical _) (.ite (hHold _) (hEnter _)))

theorem State.refreshCell_acceptedStays (cause : Nat) : AcceptedStays s (s.refreshCell cause) := by
  have hVerdict (x : Bool) : AcceptedStays s ((s.setFlag F.VDT_STATUS_CELL x).postVerdict false cause) :=
    .after (.trans (State.post_acceptedStays _ _ _) .same)
  exact .ite (.refl s) (.ite ((hVerdict _).trans (State.note_acceptedStays _ _ _ _ _)) (hVerdict _))

theorem State.noteSweep_acceptedStays (r : List Byte) : AcceptedStays s (s.noteSweep r) := by
  have hShown : AcceptedStays s ((s.showZ r).keepZ01 r) :=
    ((State.showZ_touch (.refl State.showZ_cells s) (Sub.refl _) r).acceptedStays (by decide)).trans
      ((State.keepZ01_touch (.refl State.keepZ01_cells _) (Sub.refl _) r).acceptedStays (by decide))
  unfold State.noteSweep
  extract_lets u
  refine .ite hShown ?_
  split
  · exact hShown
  · exact hShown.trans (.ite .same (.after (State.post_acceptedStays _ _ _)))

theorem State.wbAccepted_acceptedStays (r : Rec) : AcceptedStays s (s.wbAccepted r) :=
  s.wbUnhold_acceptedStays.trans (.ite (.ite (State.noteSweep_acceptedStays _ _)
    (.ite (State.refreshCell_acceptedStays _ _) (.refl _))) (.refl _))

/-! ## The acceptance itself (R293, R295) -/

/-- A slot write changes nothing of the Ledger but its banks. -/
theorem State.writeSlots_spool (l : List SlotWrite) : (s.writeSlots l).lgr.spool = s.lgr.spool := by
  have hOne (u : State) (w : SlotWrite) : (u.writeSlot w).lgr.spool = u.lgr.spool := by
    unfold State.writeSlot
    split
    · rfl
    · split <;> rfl
  induction l generalizing s with
  | nil => rfl
  | cons w l ih => exact (ih _).trans (hOne s w)

/-- Whose writes all verify, a record of a producer other than the host stands last in the spool under the next sequence. -/
theorem State.acceptRec_spool {r : Rec} (hDead : s.ledgerDead = false) (hProd : r.prod ≠ 0x09) :
    (s.acceptRec r .ok).lgr.nextSeq = s.lgr.nextSeq + 1 ∧ (s.acceptRec r .ok).lgr.spool = s.lgr.spool ++
      [⟨s.lgr.nextSeq, s.lgr.place (slotsFor r.payload.length), slotsFor r.payload.length⟩] := by
  have hWritten : Touch State.writeSlots_cells s (s.writeSlots (s.acceptWrites r)) :=
    State.writeSlots_touch (.refl _ s) (Sub.refl _) _
  have hAlive : (s.writeSlots (s.acceptWrites r)).ledgerDead = false := by
    rwa [State.ledgerDead, hWritten.flag F.LGR_STATUS_BANKA_BAD (by decide), hWritten.flag F.LGR_STATUS_BANKB_BAD (by decide)]
  have hUse (u : State) (before : Nat) : (u.refreshUse before).lgr = u.lgr :=
    (State.refreshUse_touch (.refl State.refreshUse_cells u) (Sub.refl _) before).lgr (by decide)
  have hDrain (u : State) : u.drainStart.lgr.nextSeq = u.lgr.nextSeq ∧ u.drainStart.lgr.spool = u.lgr.spool := by
    unfold State.drainStart
    split <;> exact ⟨rfl, rfl⟩
  have hHost (u : State) (seq : Nat) : u.hostAccepted r seq = u := if_neg (by simp [hProd])
  have hExhausted (u : State) (c : Prop) [Decidable c] :
      (if c then (u.setFlag F.LGR_STATUS_EXHAUSTED true).event F.LGR_EVENT_EXHAUSTED else u).lgr = u.lgr := by
    split <;> rfl
  simp only [State.acceptRec, State.verified, hAlive, Bool.false_eq_true, if_false, hDrain, hUse, hExhausted, hHost,
    State.writeSlots_spool, and_self]

/-- The intake's turn to a Weighbridge record that it may accept: the record leaves the queue, is kept as the latest of its type,
and stands in the spool. -/
theorem State.intake_wb {r : Rec} (hNext : s.nextRec = some r) (hProd : r.prod = 0x05) (hMay : s.mayAccept r = true)
    (hWaiting : s.lgr.waiting.contains r = false) :
    (s.intake .ok).wb.outq = s.wb.outq.drop 1 ∧ (r.typ, r.payload) ∈ (s.intake .ok).wb.accepted ∧
      (s.intake .ok).lgr.nextSeq = s.lgr.nextSeq + 1 ∧ (s.intake .ok).lgr.spool = s.lgr.spool ++
        [⟨s.lgr.nextSeq, s.lgr.place (slotsFor r.payload.length), slotsFor r.payload.length⟩] := by
  have hDead : s.ledgerDead = false := by
    simp only [State.mayAccept, State.intakeOpen, Bool.and_eq_true, Bool.not_eq_true'] at hMay
    obtain ⟨⟨⟨⟨-, hDead⟩, -⟩, -⟩, -⟩ := hMay
    exact hDead
  let u : State := { s with wb := { s.wb with
    outq := s.wb.outq.drop 1, accepted := s.wb.accepted.filter (fun x => x.1 != r.typ) ++ [(r.typ, r.payload)] } }
  have hTaken : s.takeRec r = u := if_neg (Bool.eq_false_iff.1 hWaiting)
  have hIntake : s.intake .ok = ((u.acceptRec r .ok).refillFirmware).refreshBack := by
    rw [State.intake, hNext, ← hTaken]
    exact if_pos hMay
  obtain ⟨hSeq, hSpool⟩ := u.acceptRec_spool (r := r) hDead (by omega)
  have hAccept : Touch State.acceptRec_cells u (u.acceptRec r .ok) := State.acceptRec_touch (.refl _ u) (Sub.refl _) r .ok
  have hRefill (v : State) : v.refillFirmware.lgr.nextSeq = v.lgr.nextSeq ∧ v.refillFirmware.lgr.spool = v.lgr.spool ∧
      v.refillFirmware.wb = v.wb := by
    unfold State.refillFirmware
    split
    · exact ⟨rfl, rfl, rfl⟩
    · split <;> exact ⟨rfl, rfl, rfl⟩
  have hBack (v : State) : Touch State.refreshBack_cells v v.refreshBack := State.refreshBack_touch (.refl _ v) (Sub.refl _)
  rw [hIntake]
  refine ⟨?_, ?_, ?_, ?_⟩
  · rw [(hBack _).wb (by decide), (hRefill _).2.2, hAccept.wb (by decide)]
  · rw [(hBack _).wb (by decide), (hRefill _).2.2, hAccept.wb (by decide)]
    exact List.mem_append_right _ (List.mem_singleton_self _)
  · rw [(hBack _).lgr (by decide), (hRefill _).1, hSeq]
  · rw [(hBack _).lgr (by decide), (hRefill _).2.1, hSpool]

end

/-! ## The periodic record (R193, R196) -/

/-- Its body: the counters, and then what was measured over the period. -/
def periodBody (c : WbCounters) (tail : List Byte) : List Byte := beSigned 6 c.q ++ c.e.flatMap (beBytes 6) ++ tail

section
variable (s : State)

/-- What was measured over the period, as the record carries it. -/
def State.periodTail (bat : Nat) (v : Int) (x : WbTemps) : List Byte := beBytes 3 bat ++ beSigned 3 (s.amps v) ++ tempsBytes x

/-- The counters with what the meter has integrated since its last reading (R175, R177). -/
def State.metered (m : WbMeter) : WbCounters := s.wb.counters.add ((s.wb.rest + m.dv * 10) / (s.shunt : Int)) s.shunt m

/-- A period has ended: the meter is read, the temperature noted in the running sequence `q` and the next period begun; `susp` and
`deferred` are what is then remembered of the suspension and of a record that has to wait. -/
def State.periodEnded (m : WbMeter) (q : Option WbSeq) (susp : Bool) (deferred : Option (List Byte)) : State :=
  { s with wb := { s.wb with
    counters := s.metered m, rest := (s.wb.rest + m.dv * 10) % (s.shunt : Int), seq := q, suspSeen := susp, deferred := deferred,
    periodDue := some (s.now + secTicks (60 * s.wb.period)) } }

/-- CAPACITY notes a temperature in its own sequence and changes nothing else. -/
theorem State.capTemp_seq (x : Option Int) : ∃ q, s.capTemp x = { s with wb := { s.wb with seq := q } } := by
  unfold State.capTemp
  split
  · split
    · exact ⟨_, rfl⟩
    · exact ⟨s.wb.seq, rfl⟩
  · exact ⟨s.wb.seq, rfl⟩

section
variable (m : WbMeter) (bat : Nat) (v : Int) (x : WbTemps)
variable (hs : s.live = true) (hRun : s.wb.run = true) (hDue : s.elapsed s.wb.periodDue = true)
include hs hRun hDue

/-- WB_PERIODIC_DUE: the record is released, or put off where no place is free for it. -/
theorem exec_wbPeriodicDue : ∃ q, exec (.wbPeriodicDue m bat v x) s = .next (if (s.wbRoom && s.wb.held.isEmpty) = true
    then (s.periodEnded m q s.suspLine s.wb.deferred).wbRelease 1 (if s.wb.suspSeen then 64 else 0)
      (periodBody (s.metered m) (s.periodTail bat v x))
    else s.periodEnded m q s.wb.suspSeen (some (s.periodTail bat v x))) := by
  obtain ⟨q, hq⟩ := (s.wbMeter m).capTemp_seq (cellTemp x.ntca x.ntcb)
  refine ⟨q, congrArg Host.Outcome.next ((s.when_true (by rw [hs, hRun, hDue]; rfl) _).trans ?_)⟩
  simp only [hq]
  rfl

theorem wbPeriodicDue_free_gives (hFree : s.wbFree) : Gives (.wbPeriodicDue m bat v x) s fun t =>
    s.releases t 1 (if s.wb.suspSeen then 64 else 0) (periodBody (s.metered m) (s.periodTail bat v x)) ∧
    t.wb.counters = s.metered m ∧ t.wb.ckCounters = t.wb.counters ∧ t.wb.ckSeq = t.wb.seqNum ∧
    t.wb.periodDue = some (s.now + secTicks (60 * s.wb.period)) ∧ t.flag F.WB_EVENT_RECORD = true ∧ t.lgr = s.lgr := by
  obtain ⟨q, hExec⟩ := exec_wbPeriodicDue s m bat v x hs hRun hDue
  have hPlace : (s.wbRoom && s.wb.held.isEmpty) = true := by simp [State.wbRoom, hFree.2.2.1, hFree.2.2.2.1]
  rw [if_pos hPlace, (s.periodEnded m q s.suspLine s.wb.deferred).wbRelease_free hFree] at hExec
  exact ⟨_, hExec, ⟨rfl, rfl⟩, rfl, rfl, rfl, rfl, (State.flag_event _ _ _ (by decide)).trans (if_pos rfl), rfl⟩

theorem wbPeriodicDue_full_gives (hFull : 16 ≤ s.wb.outq.length ∨ s.wb.held ≠ []) : Gives (.wbPeriodicDue m bat v x) s fun t =>
    t.wb.deferred = some (s.periodTail bat v x) ∧ t.wb.outq = s.wb.outq ∧ t.wb.seqNum = s.wb.seqNum ∧
    t.wb.counters = s.metered m := by
  obtain ⟨q, hExec⟩ := exec_wbPeriodicDue s m bat v x hs hRun hDue
  have hPlace : ¬(s.wbRoom && s.wb.held.isEmpty) = true := by
    simp only [State.wbRoom, Bool.and_eq_true, decide_eq_true_eq, List.isEmpty_iff, not_and]
    exact fun hRoom => hFull.resolve_left (by omega)
  rw [if_neg hPlace] at hExec
  exact ⟨_, hExec, rfl, rfl, rfl, rfl⟩

theorem wbPeriodicDue_last_gives (hRoom : s.wb.outq.length < 16) (hHeld : s.wb.held = [])
    (hLast : s.wb.ended = true ∨ s.wb.seqNum = 0xFFFFFFFF) : Gives (.wbPeriodicDue m bat v x) s fun t =>
    (s.wb.ended = true → t.wb.outq = s.wb.outq ∧ t.wb.seqNum = s.wb.seqNum) ∧
    (s.wb.ended = false → t.wb.ended = true ∧ 6 ∈ t.wb.faults ∧ t.wb.seqNum = 0x100000000 ∧
      t.wb.outq.map Rec.typ = s.wb.outq.map Rec.typ ++ [9]) ∧
    t.wb.periodDue = some (s.now + secTicks (60 * s.wb.period)) := by
  obtain ⟨q, hExec⟩ := exec_wbPeriodicDue s m bat v x hs hRun hDue
  have hPlace : (s.wbRoom && s.wb.held.isEmpty) = true := by simp [State.wbRoom, hRoom, hHeld]
  rw [if_pos hPlace] at hExec
  by_cases hEnded : s.wb.ended = true
  · rw [(s.periodEnded m q s.suspLine s.wb.deferred).wbRelease_ended hEnded] at hExec
    exact ⟨_, hExec, fun _ => ⟨rfl, rfl⟩, fun hNot => absurd hEnded (Bool.eq_false_iff.1 hNot), rfl⟩
  · have hNum := hLast.resolve_left hEnded
    rw [(s.periodEnded m q s.suspLine s.wb.deferred).wbRelease_last (Bool.eq_false_iff.2 hEnded) hRoom hHeld hNum] at hExec
    obtain ⟨hEnds, hFault, hSeq, hQueue, hPeriod⟩ := (s.periodEnded m q s.suspLine s.wb.deferred).wbLast_shows
    exact ⟨_, hExec, fun hYes => absurd hYes hEnded, fun _ => ⟨hEnds, hFault, hSeq.trans (congrArg (· + 1) hNum), hQueue⟩, hPeriod⟩

end

/-! ## A place frees (R183, R193) -/

theorem State.wbUnhold_held {r : WbHeld} {l : List WbHeld} (hRun : s.wb.run = true) (hRoom : s.wbRoom = true)
    (hEnded : s.wb.ended = false) (hLast : s.wb.seqNum ≠ 0xFFFFFFFF) (hHeld : s.wb.held = r :: l) (hPend : s.wb.pend = none) :
    s.wbUnhold = { s with wb := { s.wb with held := l } }.wbEmit r.typ r.flags r.body := by
  rw [State.wbUnhold, if_neg (by simp [hRun, hRoom, hEnded]), hHeld]
  dsimp only
  rw [if_neg hLast]
  exact State.startPending_none _ hPend

theorem State.wbUnhold_deferred {l : List Byte} (hFree : s.wbFree) (hDeferred : s.wb.deferred = some l) :
    s.wbUnhold = { s with wb := { s.wb with deferred := none, suspSeen := s.suspLine } }.wbEmit 1
      (2 + if s.wb.suspSeen then 64 else 0) (periodBody s.wb.counters l) := by
  obtain ⟨hRun, hEnded, hHeld, hRoom, hLast⟩ := hFree
  rw [State.wbUnhold, if_neg (by simp [hRun, State.wbRoom, hRoom, hEnded]), hHeld, hDeferred]
  exact if_neg hLast

theorem wbRecordRelease_held_gives (r : WbHeld) (l : List WbHeld) (hs : s.live = true) (hRun : s.wb.run = true)
    (hRoom : s.wbRoom = true) (hEnded : s.wb.ended = false) (hLast : s.wb.seqNum ≠ 0xFFFFFFFF) (hHeld : s.wb.held = r :: l)
    (hPend : s.wb.pend = none) : Gives .wbRecordRelease s fun t =>
      t.wb.held = l ∧ s.releases t r.typ r.flags r.body ∧ t.lgr = s.lgr ∧ s.regsKept t [R.WB_EVENT] := by
  refine Gives.of_whenLive rfl hs ?_
  rw [s.wbUnhold_held hRun hRoom hEnded hLast hHeld hPend]
  exact ⟨rfl, ⟨rfl, rfl⟩, rfl, (State.wbEmit_releasing _ _ _ _).regs⟩

theorem wbRecordRelease_deferred_gives (l : List Byte) (hs : s.live = true) (hFree : s.wbFree)
    (hDeferred : s.wb.deferred = some l) : Gives .wbRecordRelease s fun t =>
      t.wb.deferred = none ∧ s.releases t 1 (2 + if s.wb.suspSeen then 64 else 0) (periodBody s.wb.counters l) ∧
      t.lgr = s.lgr ∧ s.regsKept t [R.WB_EVENT] := by
  refine Gives.of_whenLive rfl hs ?_
  rw [s.wbUnhold_deferred hFree hDeferred]
  exact ⟨rfl, ⟨rfl, rfl⟩, rfl, (State.wbEmit_releasing _ _ _ _).regs⟩

/-! ## The Ledger's intake takes a record (R193, R295) -/

theorem wbRecordAccepted_gives (v : Verify) (r : Rec) (hs : s.live = true) (hNext : s.nextRec = some r) (hProd : r.prod = 0x05)
    (hMay : s.mayAccept r = true) (hWaiting : s.lgr.waiting.contains r = false) (hVerified : v = .ok)
    (hIdle : s.cmd.finishing = []) : Gives (.wbRecordAccepted v) s fun t =>
      t.wb.outq.take (s.wb.outq.length - 1) = s.wb.outq.drop 1 ∧ (r.typ, r.payload) ∈ t.wb.accepted ∧
      t.lgr.nextSeq = s.lgr.nextSeq + 1 ∧ t.lgr.spool = s.lgr.spool ++
        [⟨s.lgr.nextSeq, s.lgr.place (slotsFor r.payload.length), slotsFor r.payload.length⟩] := by
  subst hVerified
  have hTurn : s.intakeTurn .ok = (s.intake .ok).wbAccepted r := by
    rw [State.intakeTurn, hNext]
    exact if_pos (by rw [hMay, hProd]; rfl)
  have hCmd : (s.intakeTurn .ok).cmd = s.cmd :=
    (State.intakeTurn_touch (.refl State.intakeTurn_cells s) (Sub.refl _) .ok).cmd (by decide)
  have hDone : (s.intakeTurn .ok).finishDue = s.intakeTurn .ok := by rw [State.finishDue, hCmd, hIdle, List.foldl_nil]
  obtain ⟨hQueue, hAccepted, hSeq, hSpool⟩ := s.intake_wb hNext hProd hMay hWaiting
  obtain ⟨hQueued, hKept, hSeqKept, hSpoolKept⟩ := (s.intake .ok).wbAccepted_acceptedStays r
  refine ⟨s.intakeTurn .ok, congrArg Host.Outcome.next ((s.whenLive_true hs _).trans ?_), ?_, ?_, ?_, ?_⟩
  · rw [hNext]
    exact (if_pos hProd).trans hDone
  · rw [hTurn, ← hQueue, ← List.length_drop, ← hQueue]
    exact (List.prefix_iff_eq_take.1 hQueued).symm
  · rw [hTurn, hKept]
    exact hAccepted
  · rw [hTurn, hSeqKept, hSeq]
  · rw [hTurn, hSpoolKept, hSpool]

theorem wbRecordAccepted_other_gives (v : Verify) (r : Rec) (hs : s.live = true) (hNext : s.nextRec = some r)
    (hProd : r.prod ≠ 0x05) : Gives (.wbRecordAccepted v) s fun t => t = s := by
  refine ⟨s, congrArg Host.Outcome.next ((s.whenLive_true hs _).trans ?_), rfl⟩
  rw [hNext]
  exact if_neg hProd

end

/-- Settles O23: a clause for each command that releases or accepts records, in the statement's order. -/
theorem weighbridgeRecords : Obligations.WeighbridgeRecords := by
  unfold Obligations.WeighbridgeRecords
  exact ⟨fun s m bat v x hs hFree hDue => wbPeriodicDue_free_gives s m bat v x hs hFree.1 hDue hFree,
    fun s m bat v x hs hRun hDue => wbPeriodicDue_full_gives s m bat v x hs hRun hDue,
    fun s m bat v x hs hRun hDue => wbPeriodicDue_last_gives s m bat v x hs hRun hDue,
    wbRecordRelease_held_gives, wbRecordRelease_deferred_gives, wbRecordAccepted_gives, wbRecordAccepted_other_gives⟩

end Sys2Proof.Machine
end

section
/-!
SUPPORT. The ends of the Weighbridge's sequences (R182 to R190): what the end of any sequence leads to, with and without a place for
its record and with a trigger pending, and O25.
-/

namespace Sys2Proof.Machine

section
variable (s : State)

/-! ## A trigger at its start time, beside the sequences (R184, R185) -/

/-- What a trigger that meets its start time leaves as it is: the shunt, the events of the Weighbridge, and, unless a sweep runs
then, the signs of a sweep. -/
structure TriggerMet (s t : State) : Prop where
  calib : t.wb.calib = s.wb.calib
  events : ∀ g : Flag, g.reg = R.WB_EVENT → s.flag g = true → t.flag g = true
  exc : t.wb.seq.all (fun x : WbSeq => x.kind != seqSweep) = true → t.flag F.CONV_STATUS_EXC = s.flag F.CONV_STATUS_EXC
  susp : t.wb.seq.all (fun x : WbSeq => x.kind != seqSweep) = true →
    t.flag F.CHG_STATUS_SUSP_SWEEP = s.flag F.CHG_STATUS_SUSP_SWEEP

theorem State.wb_triggerMet {w : Wb} (h : w.calib = s.wb.calib) : TriggerMet s { s with wb := w } :=
  ⟨h, fun _ _ => id, fun _ => rfl, fun _ => rfl⟩

theorem State.wbRelease_calib (typ extra : Nat) (body : List Byte) : (s.wbRelease typ extra body).wb.calib = s.wb.calib := by
  unfold State.wbRelease
  split_ifs <;> rfl

theorem State.wbNotice_triggerMet (reason code : Nat) : TriggerMet s (s.wbNotice reason code) := by
  have hReleasing := s.wbNotice_releasing reason code
  exact ⟨s.wbRelease_calib _ _ _, fun g _ => hReleasing.events g, fun _ => hReleasing.regs.flag _ (by decide),
    fun _ => hReleasing.regs.flag _ (by decide)⟩

theorem State.sweepOn_self_touch : Touch State.sweepOn_cells s s.sweepOn := State.sweepOn_touch (.refl _ s) (Sub.refl _)

theorem State.seqBegin_triggerMet (kind arg : Nat) : TriggerMet s (s.seqBegin kind arg) := by
  by_cases hKind : kind = seqSweep
  · subst hKind
    rw [s.seqBegin_sweep]
    generalize hu : ({ s with wb := _ } : State) = u
    have hWb : u.sweepOn.wb = u.wb := u.sweepOn_shows.2.2
    have hRuns : ¬u.sweepOn.wb.seq.all (fun x : WbSeq => x.kind != seqSweep) = true := by
      rw [hWb, ← hu]
      simp [State.seqNew]
    refine ⟨by rw [hWb, ← hu], fun g hg hSet => ?_, fun h => absurd h hRuns, fun h => absurd h hRuns⟩
    rw [u.sweepOn_self_touch.flag g (by rw [hg]; decide), ← hu]
    exact hSet
  · rw [s.seqBegin_plain hKind]
    exact s.wb_triggerMet rfl

theorem State.seqStart_triggerMet (kind arg : Nat) : TriggerMet s (s.seqStart kind arg) := by
  rcases s.seqStart_cases kind arg with h | h | ⟨reason, code, h⟩ | h <;> rw [h]
  · exact s.wb_triggerMet rfl
  · exact s.wb_triggerMet rfl
  · exact s.wbNotice_triggerMet reason code
  · exact s.seqBegin_triggerMet kind arg

theorem State.startPending_triggerMet : TriggerMet s s.startPending := by
  by_cases hBusy : s.wbBusy = true
  · rw [s.startPending_busy hBusy]
    exact s.wb_triggerMet rfl
  · cases hPend : s.wb.pend with
    | none =>
      rw [s.startPending_none hPend]
      exact s.wb_triggerMet rfl
    | some p =>
      rw [s.startPending_idle hPend (Bool.eq_false_iff.2 hBusy)]
      obtain ⟨hCalib, hEvents, hExc, hSusp⟩ :=
        State.seqStart_triggerMet { s with wb := { s.wb with pend := none } } p.1 p.2
      exact ⟨hCalib, hEvents, hExc, hSusp⟩

/-! ## The end of a sequence (R182, R183, R193) -/

/-- The sequence is over and its result released, with the pending trigger still to come. -/
def State.seqReleased (typ extra : Nat) (body : List Byte) : State :=
  ({ s with wb := { s.wb with seq := none } }.wbRelease typ extra body).event F.WB_EVENT_SEQ_DONE

theorem State.seqEnd_eq (typ extra : Nat) (body : List Byte) :
    s.seqEnd typ extra body = (s.seqReleased typ extra body).startPending := rfl

theorem State.seqReleased_done (typ extra : Nat) (body : List Byte) :
    (s.seqReleased typ extra body).flag F.WB_EVENT_SEQ_DONE = true :=
  (State.flag_event _ _ _ (by decide)).trans (if_pos rfl)

theorem State.seqReleased_pend (typ extra : Nat) (body : List Byte) : (s.seqReleased typ extra body).wb.pend = s.wb.pend := by
  change (State.wbRelease _ typ extra body).wb.pend = _
  unfold State.wbRelease
  split_ifs <;> rfl

theorem State.seqEnd_done (typ extra : Nat) (body : List Byte) : (s.seqEnd typ extra body).flag F.WB_EVENT_SEQ_DONE = true :=
  (State.startPending_triggerMet _).events _ rfl (s.seqReleased_done typ extra body)

theorem State.seqEnd_calib (typ extra : Nat) (body : List Byte) : (s.seqEnd typ extra body).wb.calib = s.wb.calib :=
  (State.startPending_triggerMet _).calib.trans (State.wbRelease_calib _ typ extra body)

/-- Where no sweep follows, the signs of a sweep stay as they were. -/
theorem State.seqEnd_unswept (typ extra : Nat) (body : List Byte)
    (h : (s.seqEnd typ extra body).wb.seq.all (fun x : WbSeq => x.kind != seqSweep) = true) :
    (s.seqEnd typ extra body).flag F.CONV_STATUS_EXC = s.flag F.CONV_STATUS_EXC ∧
    (s.seqEnd typ extra body).flag F.CHG_STATUS_SUSP_SWEEP = s.flag F.CHG_STATUS_SUSP_SWEEP := by
  have hMet := (s.seqReleased typ extra body).startPending_triggerMet
  have hReleasing : WbReleasing { s with wb := { s.wb with seq := none } } (s.seqReleased typ extra body) :=
    (State.wbRelease_releasing _ typ extra body).trans (State.event_releasing _ F.WB_EVENT_SEQ_DONE (by decide) rfl)
  exact ⟨(hMet.exc h).trans (hReleasing.regs.flag _ (by decide)), (hMet.susp h).trans (hReleasing.regs.flag _ (by decide))⟩

section
variable {typ extra : Nat} {body : List Byte}

/-- A result that finds its place goes out at once. -/
theorem State.seqReleased_free (hFree : s.wbFree) : s.seqReleased typ extra body =
    ({ s with wb := { s.wb with seq := none } }.wbEmit typ extra body).event F.WB_EVENT_SEQ_DONE :=
  congrArg (fun u : State => u.event F.WB_EVENT_SEQ_DONE)
    (State.wbRelease_free { s with wb := { s.wb with seq := none } } hFree typ extra body)

/-- With no trigger pending the Weighbridge is at rest, its result released. -/
theorem State.seqEnd_alone (hFree : s.wbFree) (hPend : s.wb.pend = none) :
    (s.seqEnd typ extra body).wb.seq = none ∧ s.releases (s.seqEnd typ extra body) typ extra body := by
  rw [s.seqEnd_eq, State.startPending_none _ ((s.seqReleased_pend _ _ _).trans hPend), s.seqReleased_free hFree]
  exact ⟨rfl, rfl, rfl⟩

/-- A pending SNAP begins as the result finds its place. -/
theorem State.seqEnd_snap (hFree : s.wbFree) (hPend : s.wb.pend = some (seqSnap, 0)) :
    (s.seqEnd typ extra body).wb.seq.map (fun x => (x.kind, x.start)) = some (seqSnap, s.now) ∧
    (s.seqEnd typ extra body).wb.pend = none := by
  have hIdle : (s.seqReleased typ extra body).wbBusy = false := by
    rw [s.seqReleased_free hFree]
    change ((none : Option WbSeq).isSome || s.wb.held.any fun h => isResult h.typ) = false
    rw [hFree.2.2.1]
    rfl
  rw [s.seqEnd_eq, State.startPending_idle _ ((s.seqReleased_pend _ _ _).trans hPend) hIdle, State.seqStart_begins _ (.inl rfl),
    State.seqBegin_plain _ (by decide), s.seqReleased_free hFree]
  exact ⟨rfl, rfl⟩

/-- While the queue is full or records are held, the result is held too, and a pending trigger waits for it. -/
theorem State.seqEnd_held (hResult : isResult typ = true) (hEnded : s.wb.ended = false)
    (hFull : 16 ≤ s.wb.outq.length ∨ s.wb.held ≠ []) :
    (s.seqEnd typ extra body).wb.held = s.wb.held ++ [⟨typ, extra, body⟩] ∧ (s.seqEnd typ extra body).wb.outq = s.wb.outq ∧
    (s.seqEnd typ extra body).wb.seq = none ∧ (s.seqEnd typ extra body).wb.pend = s.wb.pend := by
  have hHeld : (s.seqReleased typ extra body).wb = { s.wb with seq := none, held := s.wb.held ++ [⟨typ, extra, body⟩] } := by
    rw [State.seqReleased, State.wbRelease_held { s with wb := { s.wb with seq := none } } hEnded hFull]
    rfl
  have hBusy : (s.seqReleased typ extra body).wbBusy = true := by
    rw [State.wbBusy, hHeld, List.any_append, List.any_cons, hResult]
    simp
  rw [s.seqEnd_eq, State.startPending_busy _ hBusy, hHeld]
  exact ⟨rfl, rfl, rfl, rfl⟩

/-- The same, said of the types of the records held. -/
theorem State.seqEnd_held_typ (hResult : isResult typ = true) (hEnded : s.wb.ended = false)
    (hFull : 16 ≤ s.wb.outq.length ∨ s.wb.held ≠ []) :
    (s.seqEnd typ extra body).wb.held.map WbHeld.typ = s.wb.held.map WbHeld.typ ++ [typ] ∧
    (s.seqEnd typ extra body).wb.outq = s.wb.outq ∧ (s.seqEnd typ extra body).wb.seq = none ∧
    (s.seqEnd typ extra body).wb.pend = s.wb.pend := by
  obtain ⟨hHeld, hRest⟩ := s.seqEnd_held (extra := extra) (body := body) hResult hEnded hFull
  exact ⟨by rw [hHeld, List.map_append, List.map_singleton], hRest⟩

/-- With no trigger pending the Ledger is left alone. -/
theorem State.seqEnd_lgr (hPend : s.wb.pend = none) : (s.seqEnd typ extra body).lgr = s.lgr := by
  rw [s.seqEnd_eq, State.startPending_none _ ((s.seqReleased_pend _ _ _).trans hPend)]
  exact (State.wbRelease_releasing _ typ extra body).lgr

end

/-! ## The result in a record (R195, R196) -/

/-- The result of a sequence is the first byte of its body, byte 16 of its record. -/
theorem natAt_wbRecord_result (n typ extra result : Nat) (rest tag : List Byte) :
    natAt (s.wbRecord n typ extra (byte result :: rest) ++ tag) 16 1 = result % 256 := by
  have hByte : natAt (s.wbRecord n typ extra (byte result :: rest) ++ tag) 16 1 = 0 * 256 + (byte result).toNat := rfl
  rw [hByte, Nat.zero_mul, Nat.zero_add, byte, BitVec.toNat_ofNat]

theorem State.seqEnd_result {typ extra result : Nat} {rest : List Byte} (hFree : s.wbFree) (hPend : s.wb.pend = none)
    (hResult : result < 256) :
    (s.seqEnd typ extra (byte result :: rest)).wb.seq = none ∧
    (s.seqEnd typ extra (byte result :: rest)).wb.seqNum = s.wb.seqNum + 1 ∧
    (s.seqEnd typ extra (byte result :: rest)).wb.outq.map (fun r => natAt r.payload 16 1) =
      s.wb.outq.map (fun r => natAt r.payload 16 1) ++ [result] := by
  obtain ⟨hSeq, hNum, hQueue⟩ := s.seqEnd_alone (typ := typ) (extra := extra) (body := byte result :: rest) hFree hPend
  refine ⟨hSeq, hNum, ?_⟩
  rw [hQueue, List.map_append, List.map_singleton, natAt_wbRecord_result, Nat.mod_eq_of_lt hResult]

/-! ## A sequence comes to its end -/

theorem State.seqAt_running {q : WbSeq} {kind ticks : Nat} (hs : s.live = true) (hRun : s.wb.run = true) (hSeq : s.wb.seq = some q)
    (hKind : q.kind = kind) (hDue : q.start + ticks ≤ s.now) : s.seqAt kind ticks = some q := by
  rw [State.seqAt, hSeq]
  exact if_pos (by simp [hs, hRun, hKind, hDue])

/-! ## SNAP (R182, R196) -/

/-- The body of WB_SNAPSHOT. -/
def State.snapBody (m : WbMeter) (x : SnapMeasure) : List Byte :=
  beBytes 3 x.bat ++ beSigned 3 (s.amps x.v) ++ beBytes 3 x.batMin ++ beBytes 3 x.batMax ++ beSigned 3 (s.amps x.vMin) ++
    beSigned 3 (s.amps x.vMax) ++ tempsBytes x.temps ++ beSigned 6 (s.metered m).q

theorem snapDone_gives (m : WbMeter) (x : SnapMeasure) (q : WbSeq) (hs : s.live = true) (hRun : s.wb.run = true)
    (hSeq : s.wb.seq = some q) (hKind : q.kind = seqSnap) (hDue : q.start + msTicks 250 ≤ s.now) : Gives (.snapDone m x) s fun t =>
      (s.wbFree → s.wb.pend = none → t.wb.seq = none ∧ s.releases t 2 (seqAlarm q) (s.snapBody m x)) ∧
      (s.wb.ended = false → 16 ≤ s.wb.outq.length ∨ s.wb.held ≠ [] →
        t.wb.held = s.wb.held ++ [⟨2, seqAlarm q, s.snapBody m x⟩] ∧ t.wb.outq = s.wb.outq ∧ t.wb.seq = none ∧
        t.wb.pend = s.wb.pend) ∧
      (s.wbFree → s.wb.pend = some (seqSnap, 0) →
        t.wb.seq.map (fun x => (x.kind, x.start)) = some (seqSnap, s.now) ∧ t.wb.pend = none) ∧
      t.flag F.WB_EVENT_SEQ_DONE = true ∧ (s.wb.pend = none → t.lgr = s.lgr) := by
  have hExec : exec (.snapDone m x) s = .next ((s.wbMeter m).seqEnd 2 (seqAlarm q) (s.snapBody m x)) := by
    change execSnapDone m x s = _
    rw [execSnapDone, s.seqAt_running hs hRun hSeq hKind hDue]
    rfl
  exact ⟨_, hExec, (s.wbMeter m).seqEnd_alone, (s.wbMeter m).seqEnd_held (by decide), (s.wbMeter m).seqEnd_snap,
    State.seqEnd_done _ _ _ _, (s.wbMeter m).seqEnd_lgr⟩

/-! ## SWEEP (R186 to R188) -/

/-- The excitation removed (R186): its bit and its cause of suspension are clear. -/
theorem State.sweepOff_shows : s.sweepOff.flag F.CONV_STATUS_EXC = false ∧ s.sweepOff.flag F.CHG_STATUS_SUSP_SWEEP = false := by
  have hShed (u : State) : Touch State.refreshShed_cells u u.refreshShed := State.refreshShed_touch (.refl _ u) (Sub.refl _)
  refine ⟨?_, (State.flag_setFlag _ _ _ _ (by decide)).trans (if_pos rfl)⟩
  rw [State.sweepOff, State.chgRelease, State.flag_setFlag _ _ _ _ (by decide), if_neg (by decide), State.excEnd,
    (hShed _).flag _ (by decide)]
  exact (State.flag_setFlag _ _ _ _ (by decide)).trans (if_pos rfl)

/-- A sweep over, so many of its points clipped, before its record. -/
def State.sweepClosed (clipped : Nat) : State := ((if clipped = 0 then s else s.excClip).sweepOff).proofRest

theorem State.sweepClosed_shows (clipped : Nat) : (s.sweepClosed clipped).wb = s.wb ∧ (s.sweepClosed clipped).now = s.now ∧
    (s.sweepClosed clipped).flag F.CONV_STATUS_EXC = false ∧ (s.sweepClosed clipped).flag F.CHG_STATUS_SUSP_SWEEP = false := by
  let u : State := if clipped = 0 then s else s.excClip
  have hClip : Touch State.excClip_cells s u := .ite (.refl _ s) (State.excClip_touch (.refl _ s) (Sub.refl _))
  have hOff : Touch State.sweepOff_cells u u.sweepOff := State.sweepOff_touch (.refl _ u) (Sub.refl _)
  have hRest : Touch State.proofRest_cells u.sweepOff (s.sweepClosed clipped) := State.proofRest_touch (.refl _ _) (Sub.refl _)
  obtain ⟨hExc, hSusp⟩ := u.sweepOff_shows
  exact ⟨((hRest.wb (by decide)).trans (hOff.wb (by decide))).trans (hClip.wb (by decide)),
    ((hRest.now (by decide)).trans (hOff.now (by decide))).trans (hClip.now (by decide)),
    (hRest.flag _ (by decide)).trans hExc, (hRest.flag _ (by decide)).trans hSusp⟩

/-- Eight points are the points of a sweep as they are. -/
theorem sweepPoints_eq {points : List SweepPoint} (h : points.length = 8) :
    ((List.range 8).map fun i => (points[i]?).getD ⟨0, 0, true⟩) = points := by
  refine List.ext_getElem (by simp [h]) fun i hi hi' => ?_
  simp [List.getElem?_eq_getElem hi']

theorem sweepResult_lt (clipped : Nat) : sweepResult clipped < 256 := by
  unfold sweepResult
  split_ifs <;> decide

theorem exec_sweepDone (points : List SweepPoint) (peak : Nat) (ntca ntcb : Option Int) {q : WbSeq} (hs : s.live = true)
    (hRun : s.wb.run = true) (hSeq : s.wb.seq = some q) (hKind : q.kind = seqSweep) (hDue : q.start + msTicks 61100 ≤ s.now)
    (hPoints : points.length = 8) : ∃ extra rest, exec (.sweepDone points peak ntca ntcb) s =
      .next ((s.sweepClosed (points.filter SweepPoint.clipped).length).seqEnd 3 extra
        (byte (sweepResult (points.filter SweepPoint.clipped).length) :: rest)) := by
  have hStep : exec (.sweepDone points peak ntca ntcb) s = execSweepDone points peak ntca ntcb s := rfl
  rw [hStep, execSweepDone, s.seqAt_running hs hRun hSeq hKind hDue]
  simp only [sweepPoints_eq hPoints]
  exact ⟨_, _, rfl⟩

theorem sweepDone_gives (points : List SweepPoint) (peak : Nat) (ntca ntcb : Option Int) (q : WbSeq) (hs : s.live = true)
    (hRun : s.wb.run = true) (hSeq : s.wb.seq = some q) (hKind : q.kind = seqSweep) (hDue : q.start + msTicks 61100 ≤ s.now)
    (hPoints : points.length = 8) : Gives (.sweepDone points peak ntca ntcb) s fun t =>
      (t.wb.seq.all (fun x : WbSeq => x.kind != seqSweep) = true →
        t.flag F.CONV_STATUS_EXC = false ∧ t.flag F.CHG_STATUS_SUSP_SWEEP = false) ∧
      t.flag F.WB_EVENT_SEQ_DONE = true ∧
      (s.wb.ended = false → 16 ≤ s.wb.outq.length ∨ s.wb.held ≠ [] → t.wb.held.map WbHeld.typ = s.wb.held.map WbHeld.typ ++ [3] ∧
        t.wb.outq = s.wb.outq ∧ t.wb.seq = none ∧ t.wb.pend = s.wb.pend) ∧
      (s.wbFree → s.wb.pend = some (seqSnap, 0) →
        t.wb.seq.map (fun x => (x.kind, x.start)) = some (seqSnap, s.now) ∧ t.wb.pend = none) ∧
      (s.wbFree → s.wb.pend = none → t.wb.seq = none ∧ t.wb.seqNum = s.wb.seqNum + 1 ∧
        t.wb.outq.map (fun r => natAt r.payload 16 1) = s.wb.outq.map (fun r => natAt r.payload 16 1) ++
          [sweepResult (points.filter SweepPoint.clipped).length]) := by
  obtain ⟨extra, rest, hExec⟩ := exec_sweepDone s points peak ntca ntcb hs hRun hSeq hKind hDue hPoints
  generalize (points.filter SweepPoint.clipped).length = clipped at hExec ⊢
  obtain ⟨hWb, hNow, hExc, hSusp⟩ := s.sweepClosed_shows clipped
  unfold State.wbFree
  rw [← hWb, ← hNow]
  generalize s.sweepClosed clipped = u at hExec hExc hSusp ⊢
  refine ⟨_, hExec, fun hOther => ?_, u.seqEnd_done _ _ _, u.seqEnd_held_typ (by decide), u.seqEnd_snap,
    fun hFree hPend => u.seqEnd_result hFree hPend (sweepResult_lt clipped)⟩
  obtain ⟨hExcKept, hSuspKept⟩ := u.seqEnd_unswept _ _ _ hOther
  exact ⟨hExcKept.trans hExc, hSuspKept.trans hSusp⟩

/-! ## A trigger and a sequence that runs (R183) -/

theorem State.wbTrigger_start (hIdle : s.wbBusy = false) (kind arg : Nat) : s.wbTrigger kind arg = (s.seqStart kind arg, 0) := by
  rw [State.wbTrigger, hIdle]
  rfl

theorem State.wbTrigger_latched (hBusy : s.wbBusy = true) (hPend : s.wb.pend = none) (kind arg : Nat) :
    s.wbTrigger kind arg = ({ s with wb := { s.wb with pend := some (kind, arg) } }, 1) := by
  rw [State.wbTrigger, hBusy, hPend]
  rfl

theorem State.wbTrigger_overrun (hBusy : s.wbBusy = true) (hPend : s.wb.pend ≠ none) (kind arg : Nat) :
    s.wbTrigger kind arg = (s.bump R.WB_OVRCNT 1, 2) := by
  rw [State.wbTrigger, hBusy, Option.isNone_eq_false_iff.2 (Option.isSome_iff_ne_none.2 hPend)]
  rfl

/-! ## The holdoff (R188) -/

theorem sweepHoldoffExpiry_busy_gives (hs : s.live = true) (hRun : s.wb.run = true) (hDue : s.elapsed s.wb.holdDue = true)
    (hBusy : s.wbBusy = true) : Gives .sweepHoldoffExpiry s fun t =>
      t.wb.holdDue = none ∧ t.wb.seq = s.wb.seq ∧ (s.wb.pend = none → t.wb.pend = some (seqSweep, 0)) ∧
      (s.wb.pend ≠ none → t.wb.pend = s.wb.pend ∧ t.regN R.WB_OVRCNT = min (s.regN R.WB_OVRCNT + 1) 0xFFFF) := by
  refine Gives.of_when rfl (by rw [hs, hRun, hDue]; rfl) ?_
  let u : State := { s with wb := { s.wb with holdDue := none } }
  change (u.wbTrigger seqSweep 0).1.wb.holdDue = none ∧ (u.wbTrigger seqSweep 0).1.wb.seq = s.wb.seq ∧
    (_ → (u.wbTrigger seqSweep 0).1.wb.pend = _) ∧
    (_ → (u.wbTrigger seqSweep 0).1.wb.pend = _ ∧ (u.wbTrigger seqSweep 0).1.regN R.WB_OVRCNT = _)
  by_cases hPend : s.wb.pend = none
  · rw [u.wbTrigger_latched hBusy hPend]
    exact ⟨rfl, rfl, fun _ => rfl, fun hNot => absurd hPend hNot⟩
  · rw [u.wbTrigger_overrun hBusy hPend]
    exact ⟨rfl, rfl, fun hNone => absurd hNone hPend, fun _ => ⟨rfl, u.regN_bump _ _⟩⟩

theorem sweepHoldoffExpiry_idle_gives (hs : s.live = true) (hRun : s.wb.run = true) (hDue : s.elapsed s.wb.holdDue = true)
    (hIdle : s.wbBusy = false) (hSusp : s.suspLine = false) (hFeed : s.flag F.SYS_STATE_FEED = true) (hCell : s.wb.cell ≠ none) :
    Gives .sweepHoldoffExpiry s fun t => t.wb.holdDue = none ∧ t.wb.seq = some (s.seqNew seqSweep 0) ∧
      t.flag F.CONV_STATUS_EXC = true ∧ t.flag F.CHG_STATUS_SUSP_SWEEP = true := by
  refine Gives.of_when rfl (by rw [hs, hRun, hDue]; rfl) ?_
  let u : State := { s with wb := { s.wb with holdDue := none } }
  have hBegins : (u.wbTrigger seqSweep 0).1 =
      { u with wb := { u.wb with seq := some (s.seqNew seqSweep 0), holdArmed := false, holdDue := none } }.sweepOn := by
    rw [u.wbTrigger_start hIdle, u.seqStart_begins (.inr (.inl ⟨rfl, hSusp, hFeed, hCell⟩)), u.seqBegin_sweep]
    rfl
  obtain ⟨hExc, hSuspended, hWb⟩ := State.sweepOn_shows
    { u with wb := { u.wb with seq := some (s.seqNew seqSweep 0), holdArmed := false, holdDue := none } }
  rw [hBegins, hWb]
  exact ⟨rfl, rfl, hExc, hSuspended⟩

/-! ## CAPACITY (R189) -/

theorem capDischargeTimeout_gives (q : WbSeq) (hs : s.live = true) (hRun : s.wb.run = true) (hSeq : s.wb.seq = some q)
    (hKind : q.kind = seqCap) (hDue : q.start + secTicks 14400 ≤ s.now) (hRelax : q.relaxFrom = none) :
    Gives .capDischargeTimeout s fun t =>
      t = { s with wb := { s.wb with seq := some { q with relaxFrom := some s.now, out := some (s.capOut q) } } } := by
  have hExec : exec .capDischargeTimeout s = .next s.capEnd.1 := by
    change execCapDischargeTimeout s = _
    rw [execCapDischargeTimeout, s.seqAt_running hs hRun hSeq hKind hDue]
  rw [s.capEnd_running hSeq hKind hRelax] at hExec
  exact ⟨_, hExec, rfl⟩

theorem State.capResult_lt (m : CapMeasure) : s.capResult m < 256 := by
  unfold State.capResult
  dsimp only
  split_ifs
  · decide
  · decide
  · split
    · decide
    · split_ifs <;> decide

/-- The result stands first in the body of WB_CAPACITY. -/
theorem State.capBody_result (q : WbSeq) (m : CapMeasure) (result : Nat) :
    ∃ rest, s.capBody q m result = (byte result :: rest, s.fresh.2) := ⟨_, rfl⟩

theorem capRelaxDone_gives (m : CapMeasure) (q : WbSeq) (d : Nat) (hs : s.live = true) (hRun : s.wb.run = true)
    (hSeq : s.wb.seq = some q) (hKind : q.kind = seqCap) (hRelax : q.relaxFrom = some d) (hStart : q.start ≤ s.now)
    (hDue : d + secTicks 600 ≤ s.now) : Gives (.capRelaxDone m) s fun t =>
      (s.wb.ended = false → 16 ≤ s.wb.outq.length ∨ s.wb.held ≠ [] → t.wb.held.map WbHeld.typ = s.wb.held.map WbHeld.typ ++ [5] ∧
        t.wb.outq = s.wb.outq ∧ t.wb.seq = none ∧ t.wb.pend = s.wb.pend) ∧
      (s.wbFree → s.wb.pend = some (seqSnap, 0) →
        t.wb.seq.map (fun x => (x.kind, x.start)) = some (seqSnap, s.now) ∧ t.wb.pend = none) ∧
      (s.wbFree → s.wb.pend = none → t.wb.seq = none ∧ t.wb.seqNum = s.wb.seqNum + 1 ∧
        t.wb.outq.map (fun r => natAt r.payload 16 1) = s.wb.outq.map (fun r => natAt r.payload 16 1) ++ [s.capResult m]) ∧
      t.flag F.WB_EVENT_SEQ_DONE = true ∧ (s.wb.pend = none → t.lgr = s.lgr) := by
  obtain ⟨rest, hBody⟩ := s.capBody_result q m (s.capResult m)
  have hElapsed : s.elapsed (q.relaxFrom.map (· + secTicks 600)) = true := by
    rw [hRelax]
    exact decide_eq_true hDue
  have hExec : exec (.capRelaxDone m) s = .next (s.fresh.2.seqEnd 5 (seqAlarm q) (byte (s.capResult m) :: rest)) := by
    change execCapRelaxDone m s = _
    rw [execCapRelaxDone, s.seqAt_running hs hRun hSeq hKind (ticks := 0) hStart]
    dsimp only
    rw [s.when_true hElapsed, hBody]
  exact ⟨_, hExec, s.fresh.2.seqEnd_held_typ (by decide), s.fresh.2.seqEnd_snap,
    fun hFree hPend => s.fresh.2.seqEnd_result hFree hPend (s.capResult_lt m), State.seqEnd_done _ _ _ _, s.fresh.2.seqEnd_lgr⟩

/-! ## CAL (R190) -/

/-- The result of a calibration: aborted under the suspension, in band, or out of it. -/
def calResult (q : WbSeq) (v : Nat) : Nat := if q.susp then 2 else if 4500 * q.arg ≤ v ∧ v ≤ 22000 * q.arg then 0 else 1

theorem calResult_lt (q : WbSeq) (v : Nat) : calResult q v < 256 := by
  unfold calResult
  split_ifs <;> decide

/-- The calibration memory as CAL leaves it: written where the result is 0. -/
def State.calStored (q : WbSeq) (v : Nat) : Option (Nat × Nat × Nat) :=
  if calResult q v = 0 then some (v * 10 / q.arg, q.arg, s.clk.time / 65536) else s.wb.calib

theorem exec_calDone (v : Nat) {q : WbSeq} (hs : s.live = true) (hRun : s.wb.run = true) (hSeq : s.wb.seq = some q)
    (hKind : q.kind = seqCal) (hDue : q.start + secTicks 10 ≤ s.now) : ∃ rest, exec (.calDone v) s =
      .next ({ s with wb := { s.wb with calib := s.calStored q v } }.seqEnd 6 (seqAlarm q) (byte (calResult q v) :: rest)) := by
  have hStep : exec (.calDone v) s = execCalDone v s := rfl
  have hStored : (if calResult q v = 0
      then { s with wb := { s.wb with calib := some (v * 10 / q.arg, q.arg, s.clk.time / 65536) } } else s) =
      { s with wb := { s.wb with calib := s.calStored q v } } := by
    unfold State.calStored
    split_ifs <;> rfl
  rw [hStep, execCalDone, s.seqAt_running hs hRun hSeq hKind hDue]
  refine ⟨_, congrArg (fun u : State => Host.Outcome.next (u.seqEnd 6 (seqAlarm q) ([byte (calResult q v)] ++ beBytes 2 q.arg ++
    beBytes 3 (v * 10 / q.arg) ++ beBytes 4 (Config.calId u.wb.calib).toNat))) hStored⟩

theorem calDone_gives (v : Nat) (q : WbSeq) (hs : s.live = true) (hRun : s.wb.run = true) (hSeq : s.wb.seq = some q)
    (hKind : q.kind = seqCal) (hDue : q.start + secTicks 10 ≤ s.now) : Gives (.calDone v) s fun t =>
      (q.susp = false → 4500 * q.arg ≤ v → v ≤ 22000 * q.arg →
        t.wb.calib = some (v * 10 / q.arg, q.arg, s.clk.time / 65536)) ∧
      (q.susp = true ∨ v < 4500 * q.arg ∨ 22000 * q.arg < v → t.wb.calib = s.wb.calib) ∧
      (s.wbFree → s.wb.pend = none → t.wb.seq = none ∧ t.wb.seqNum = s.wb.seqNum + 1 ∧
        t.wb.outq.map (fun r => natAt r.payload 16 1) = s.wb.outq.map (fun r => natAt r.payload 16 1) ++ [calResult q v]) ∧
      (s.wb.ended = false → 16 ≤ s.wb.outq.length ∨ s.wb.held ≠ [] → t.wb.held.map WbHeld.typ = s.wb.held.map WbHeld.typ ++ [6] ∧
        t.wb.outq = s.wb.outq ∧ t.wb.seq = none ∧ t.wb.pend = s.wb.pend) ∧
      (s.wbFree → s.wb.pend = some (seqSnap, 0) →
        t.wb.seq.map (fun x => (x.kind, x.start)) = some (seqSnap, s.now) ∧ t.wb.pend = none) ∧
      t.flag F.WB_EVENT_SEQ_DONE = true ∧ (s.wb.pend = none → t.lgr = s.lgr) := by
  obtain ⟨rest, hExec⟩ := exec_calDone s v hs hRun hSeq hKind hDue
  let u : State := { s with wb := { s.wb with calib := s.calStored q v } }
  refine ⟨_, hExec, fun hSusp hLeast hMost => ?_, fun hOut => ?_,
    fun hFree hPend => u.seqEnd_result hFree hPend (calResult_lt q v), u.seqEnd_held_typ (by decide), u.seqEnd_snap,
    State.seqEnd_done _ _ _ _, u.seqEnd_lgr⟩
  · have hInBand : calResult q v = 0 := by simp [calResult, hSusp, hLeast, hMost]
    exact (State.seqEnd_calib _ _ _ _).trans (if_pos hInBand)
  · have hNot : calResult q v ≠ 0 := by
      unfold calResult
      split_ifs with hSusp hBand
      · decide
      · exact absurd hBand (by have := hOut.resolve_left hSusp; omega)
      · decide
    exact (State.seqEnd_calib _ _ _ _).trans (if_neg hNot)

end

/-- Settles O25: a clause for each end of a sequence, in the statement's order. -/
theorem weighbridgeSequences : Obligations.WeighbridgeSequences := by
  unfold Obligations.WeighbridgeSequences
  refine ⟨snapDone_gives, sweepDone_gives, sweepHoldoffExpiry_busy_gives, ?_, capDischargeTimeout_gives, capRelaxDone_gives,
    calDone_gives⟩
  intro s hs hRun hDue hIdle hSusp hFeed hCell
  have hNew : s.seqNew seqSweep 0 = ⟨seqSweep, s.now, 0, false, none, s.wb.counters.q, s.wb.counters.e.getD 6 0, 0, 0, none,
      none, none⟩ := by
    rw [State.seqNew, hSusp]
  exact hNew ▸ sweepHoldoffExpiry_idle_gives s hs hRun hDue hIdle hSusp hFeed hCell

end Sys2Proof.Machine
end

section
/-!
SUPPORT. A key on a Bunilia path and the next command on that path (R428): a state in which IDENT over USB comes between the two
writes of a keyed pair, which refutes O41.
-/

namespace Sys2Proof.Machine

/-- A running unit with a session open on USB, where the first half of a keyed write to CFG_LOCK has just been made. -/
def keyBeforeIdent : State :=
  { (({ State.reset with phase := .run, boot := { Boot.reset with applied := true, core := true } } : State).setField
      F.USB_STATUS_STATE 3) with
    ra := { RegLogic.reset with keys := [⟨.usb, R.CFG_LOCK, 1, 0⟩] },
    svc := { Svc.reset with session := some ⟨.usb, true, secTicks 600⟩ } }

/-- IDENT comes between the two writes of the pair: the key is lost, and the loss is counted (R428). -/
theorem ident_counts_lost_key : (keyBeforeIdent.bunilia ⟨.usb, true, 7⟩ 0x03 []).regN R.SYS_KEYERRCNT = 1 := by decide +kernel

/-- Refutes O41: its clause for IDENT allows changes to the registers of the transports alone, but a command between the two writes
of a keyed pair on its path loses the key, and SYS_KEYERRCNT counts it (R428); in keyBeforeIdent it goes from 0 to 1. -/
theorem not_volatileCommands : ¬ Obligations.VolatileCommands := by
  unfold Obligations.VolatileCommands
  rintro ⟨hIdent, -⟩
  obtain ⟨t, ht, -, -, hOnly⟩ := hIdent keyBeforeIdent ⟨.usb, true, 7⟩ (by decide +kernel)
  obtain rfl : _ = t := Host.Outcome.next.inj ht
  have hKept : (keyBeforeIdent.bunilia ⟨.usb, true, 7⟩ 0x03 []).regN R.SYS_KEYERRCNT = keyBeforeIdent.regN R.SYS_KEYERRCNT :=
    congrArg BitVec.toNat (hOnly (by decide) R.SYS_KEYERRCNT (by decide))
  rw [ident_counts_lost_key] at hKept
  exact absurd hKept (by decide)

end Sys2Proof.Machine
end

section
/-!
SUPPORT. RESERVE formed from the estimates and the times they have stood (R204, R205, R207), the notes that the end of the curfew
releases (R213, R215), and O26.
-/

namespace Sys2Proof.Machine

/-! ## What a note leaves alone (R213, R215) -/

/-- What a note leaves of the verdict engine's data: all but the FIFO, the held notes and those that wait. -/
def Vdt.beside (v : Vdt) : Vdt := { v with fifo := [], held := [], waiting := [] }

/-- What a verdict leaves: the engine's data beside its notes, and its events once set. -/
structure KeepsVerdict (s t : State) : Prop where
  beside : t.vdt.beside = s.vdt.beside
  events : ∀ g, g.reg = R.VDT_EVENT → s.flag g = true → t.flag g = true

theorem KeepsVerdict.refl (s : State) : KeepsVerdict s s := ⟨rfl, fun _ _ => id⟩

theorem KeepsVerdict.trans {s t u : State} (h : KeepsVerdict s t) (h' : KeepsVerdict t u) : KeepsVerdict s u :=
  ⟨h'.beside.trans h.beside, fun g hg hs => h'.events g hg (h.events g hg hs)⟩

theorem KeepsVerdict.ite {s a b : State} {c : Prop} [Decidable c] (ha : KeepsVerdict s a) (hb : KeepsVerdict s b) :
    KeepsVerdict s (if c then a else b) := by
  split
  · exact ha
  · exact hb

theorem Touch.keepsVerdict {W : List Nat} {s t : State} (h : Touch W s t) (hW : R.VDT_EVENT ∉ W ∧ 0x140c ∉ W ∧ 0x1430 ∉ W) :
    KeepsVerdict s t where
  beside := congrArg Vdt.beside (h.vdt hW.2.1)
  events g hg hs := (h.flag g ⟨by rw [hg]; exact hW.1, hW.2.2⟩).trans hs

section
variable (s : State)

theorem State.event_keepsVerdict (f : Flag) (hf : f.bit < 16) : KeepsVerdict s (s.event f) :=
  ⟨rfl, fun g _ => s.event_flag_of_flag f hf g⟩

theorem State.notePush_keepsVerdict (n : Note) : KeepsVerdict s (s.notePush n) := by
  have hEvent : KeepsVerdict s (if s.vdt.fifo.isEmpty then s.event F.VDT_EVENT_NOTE else s) :=
    .ite (s.event_keepsVerdict _ (by decide)) (.refl s)
  exact ⟨hEvent.beside, hEvent.events⟩

theorem State.note_keepsVerdict (code : Nat) (critical audible : Bool) (subject : Nat) :
    KeepsVerdict s (s.note code critical audible subject) := by
  let d : State := { s with vdt := { s.vdt with fifo := dropOldest s.vdt.fifo } }
  have hDrop : KeepsVerdict s (d.tally K.NOTE_DROP) := .trans (t := d) ⟨rfl, fun _ _ => id⟩
    ((State.tally_touch (.refl State.tally_cells d) (Sub.refl _) _).keepsVerdict (by decide))
  have hCritical (n : Note) : KeepsVerdict s (s.noteCritical n) :=
    .ite ⟨rfl, fun _ _ => id⟩ (.ite (s.notePush_keepsVerdict n) (hDrop.trans (State.notePush_keepsVerdict _ n)))
  have hHold (n : Note) : KeepsVerdict s (s.noteHold n) :=
    ⟨rfl, fun g hg hs => (s.flag_setFlag_ne F.VDT_STATUS_HELD true g ⟨by decide, fun e => absurd (e ▸ hg) (by decide)⟩).trans hs⟩
  have hEnter (n : Note) : KeepsVerdict s (s.noteEnter n) := .ite (s.notePush_keepsVerdict n) ⟨rfl, fun _ _ => id⟩
  exact .ite (.refl s) (.ite (hCritical _) (.ite (hHold _) (hEnter _)))

/-- A verdict's record is an event, and all that it leaves of the state is left (R204). -/
theorem State.postVerdict_keepsVerdict (critical : Bool) (cause : Nat) : KeepsVerdict s (s.postVerdict critical cause) :=
  .trans ((State.post_touch (.refl State.post_cells s) (Sub.refl _) _ _).keepsVerdict (by decide))
    (State.event_keepsVerdict _ _ (by decide))

theorem State.setReserve_keepsVerdict (v cause : Nat) : KeepsVerdict s (s.setReserve v cause) := by
  by_cases h : s.field F.VDT_STATUS_RESERVE = v
  · rw [State.setReserve, if_pos h]
    exact .refl s
  · refine s.setReserve_induction cause h (.trans ?_ (State.postVerdict_keepsVerdict _ _ _))
      (fun t _ _ _ _ ht => ht.trans (t.note_keepsVerdict _ _ _ _))
    exact ⟨rfl, fun g hg => (s.flag_setReg_ne R.VDT_STATUS _ g (by rw [hg]; decide)).trans⟩

/-! ## RESERVE takes a value (R204) -/

theorem State.setReserve_self_touch (v cause : Nat) : Touch State.setReserve_cells s (s.setReserve v cause) :=
  State.setReserve_touch (.refl _ s) (Sub.refl _) v cause

theorem State.setReserve_reserve (v cause : Nat) (hv : v < 4) : (s.setReserve v cause).field F.VDT_STATUS_RESERVE = v := by
  by_cases h : s.field F.VDT_STATUS_RESERVE = v
  · rw [State.setReserve, if_pos h, h]
  · refine s.setReserve_induction (P := fun t => t.field F.VDT_STATUS_RESERVE = v) cause h ?_
      (fun t _ _ _ _ ht => (t.note_reserve _ _ _ _).trans ht)
    exact ((State.postVerdict_self_touch _ _ _).field _ (by decide)).trans
      ((s.field_setField _ v (by decide)).trans (Nat.mod_eq_of_lt hv))

/-- RESERVE's change is an event (R204). -/
theorem State.setReserve_changed (v cause : Nat) (h : s.field F.VDT_STATUS_RESERVE ≠ v) :
    (s.setReserve v cause).flag F.VDT_EVENT_VERDICT_CHG = true :=
  s.setReserve_induction (P := fun t => t.flag F.VDT_EVENT_VERDICT_CHG = true) cause h
    (State.flag_setFlag_same _ _ _ (by decide)) (fun t _ _ _ _ ht => (t.note_keepsVerdict _ _ _ _).events _ rfl ht)

/-! ## RESERVE as R207 forms it -/

theorem State.reserveNext_lt : s.reserveNext < 4 := by
  unfold State.reserveNext
  dsimp only
  split_ifs <;> decide

theorem State.reserveNext_of_criticalNow (h : s.criticalNow = true) : s.reserveNext = 2 := if_pos (by simp [h])

/-- RESERVE becomes CRITICAL at once, or after the estimates' minute below E_A, alone (R207). -/
theorem State.reserveNext_ne_critical (hNow : s.criticalNow = false) (hStood : s.lasted s.vdt.critFrom 60 = false)
    (hOld : s.field F.VDT_STATUS_RESERVE ≠ 2) : s.reserveNext ≠ 2 := by
  unfold State.reserveNext
  dsimp only
  rw [hNow, hStood, if_neg (by decide), if_neg hOld]
  split_ifs <;> decide

/-- A condition that has begun now, or does not hold, has not lasted. -/
theorem State.not_lasted_sinceWhen_none (c : Bool) (sec : Nat) (hSec : 0 < sec) : s.lasted (s.sinceWhen c none) sec = false := by
  cases c
  · rfl
  · have : 0 < secTicks sec := by unfold secTicks; omega
    simp [State.sinceWhen, State.lasted, this.ne']

theorem State.sinceWhen_of_true {c : Bool} (h : c = true) (t : Option Nat) : s.sinceWhen c t = some (t.getD s.now) := by
  cases t <;> simp [State.sinceWhen, h]

theorem State.sinceWhen_ne_none (c : Bool) (t : Option Nat) : s.sinceWhen c t ≠ none ↔ c = true := by
  cases c <;> cases t <;> simp [State.sinceWhen]

end

section
variable {W : List Nat} {s t : State} (h : Touch W s t)
include h

theorem Touch.eA (hW : ∀ a ∈ [R.CHG_BAL_PALM, R.CHG_BAL_TALM, R.CHG_TWORST, 0x1405, 0x1430], a ∉ W) : t.eA = s.eA := by
  have hAny := hW 0x1430 (by decide)
  unfold State.eA State.tworst State.chem
  rw [h.regN R.CHG_BAL_PALM ⟨hW _ (by decide), hAny⟩, h.regN R.CHG_BAL_TALM ⟨hW _ (by decide), hAny⟩,
    h.regN R.CHG_TWORST ⟨hW _ (by decide), hAny⟩, h.boot (hW _ (by decide))]

theorem Touch.eB (hW : ∀ a ∈ [R.CHG_BALLAST_H, R.CHG_BALLAST_H + 1, 0x1430], a ∉ W) : t.eB = s.eB := by
  refine h.group _ 2 ⟨fun k hk => ?_, hW _ (by decide)⟩
  obtain rfl | rfl : k = 0 ∨ k = 1 := by omega
  · exact hW _ (by decide)
  · exact hW _ (by decide)

/-- Whether RESERVE is CRITICAL at once rests on the charger's phase, BAT, the latched chemistry and FEED (R207). -/
theorem Touch.criticalNow (hW : ∀ a ∈ [R.CHG_STATUS, R.SYS_STATE, 0x1405, 0x1409, 0x1430], a ∉ W) :
    t.criticalNow = s.criticalNow := by
  have hAny := hW 0x1430 (by decide)
  unfold State.criticalNow State.phaseN State.series State.chem
  rw [h.field F.CHG_STATUS_PHASE ⟨hW _ (by decide), hAny⟩, h.flag F.SYS_STATE_FEED ⟨hW _ (by decide), hAny⟩,
    h.boot (hW _ (by decide)), h.chg (hW _ (by decide))]

/-- R207 asks nothing of the notes. -/
theorem Touch.reserveNext (hW : ∀ a ∈ [R.VDT_STATUS, R.CHG_STATUS, R.SYS_STATE, R.CHG_BALLAST_H, R.CHG_BALLAST_H + 1, 0x1401,
    0x1405, 0x1409, 0x1430], a ∉ W) (hVdt : t.vdt.beside = s.vdt.beside) : t.reserveNext = s.reserveNext := by
  have hEc : t.vdt.ec = s.vdt.ec := (congrArg Vdt.ec hVdt :)
  have hEv : t.vdt.ev = s.vdt.ev := (congrArg Vdt.ev hVdt :)
  have hCrit : t.vdt.critFrom = s.vdt.critFrom := (congrArg Vdt.critFrom hVdt :)
  have hLow : t.vdt.lowFrom = s.vdt.lowFrom := (congrArg Vdt.lowFrom hVdt :)
  have hClear : t.vdt.clearFrom = s.vdt.clearFrom := (congrArg Vdt.clearFrom hVdt :)
  have hLasted (x : Option Nat) (sec : Nat) : t.lasted x sec = s.lasted x sec := by
    unfold State.lasted
    rw [h.now (hW _ (by decide))]
  have hNow : t.criticalNow = s.criticalNow := h.criticalNow fun a ha => hW a (by revert a; decide)
  have hBallast : t.eB = s.eB := h.eB fun a ha => hW a (by revert a; decide)
  unfold State.reserveNext
  dsimp only
  rw [hEc, hEv, hCrit, hLow, hClear, hNow, hBallast, h.field F.VDT_STATUS_RESERVE ⟨hW _ (by decide), hW _ (by decide)⟩]
  simp only [hLasted]

end

section
variable (s : State)

/-! ## The estimates formed and timed (R205, R207) -/

theorem State.formEstimates_self_touch : Touch State.formEstimates_cells s s.formEstimates :=
  State.formEstimates_touch (.refl _ s) (Sub.refl _)

/-- The estimates shown, with the times they have stood: what RESERVE is then chosen by. -/
def State.estimatesTimed : State :=
  let u := s.formEstimates
  { u with vdt := { u.vdt with
    critFrom := u.sinceWhen (decide (max u.vdt.ec u.vdt.ev < u.eA)) u.vdt.critFrom,
    lowFrom := u.sinceWhen (decide (max u.vdt.ec u.vdt.ev < u.eB * 1000)) u.vdt.lowFrom,
    clearFrom := u.sinceWhen (decide (u.eA * 110 ≤ min u.vdt.ec u.vdt.ev * 100)) u.vdt.clearFrom } }

theorem State.formReserve_eq : s.formReserve = s.estimatesTimed.setReserve s.estimatesTimed.reserveNext 1 := rfl

theorem State.estimatesTimed_touch : Touch State.formEstimates_cells s s.estimatesTimed :=
  Touch.update s.formEstimates_self_touch (h_vdt := .inr (by decide))

theorem State.estimatesTimed_critFrom : s.estimatesTimed.vdt.critFrom =
    s.sinceWhen (decide (max s.estEc s.estEv < s.eA)) s.vdt.critFrom := by
  rw [← s.formEstimates_self_touch.eA (by decide)]
  rfl

theorem State.estimatesTimed_lowFrom : s.estimatesTimed.vdt.lowFrom =
    s.sinceWhen (decide (max s.estEc s.estEv < s.eB * 1000)) s.vdt.lowFrom := by
  rw [← s.formEstimates_self_touch.eB (by decide)]
  rfl

/-- Both estimates and E_A are shown in 10 mWh (R205, R220). -/
theorem State.estimatesTimed_shown : s.estimatesTimed.reg R.VDT_EC = word16 (s.estEc / 10000) ∧
    s.estimatesTimed.reg R.VDT_EV = word16 (s.estEv / 10000) ∧ s.estimatesTimed.reg R.VDT_EA = word16 (s.eA / 10000) := by
  have hEa (v : Vdt) : State.eA { s with vdt := v } = s.eA := rfl
  simp [State.estimatesTimed, State.formEstimates, State.reg_setReg, hEa]

/-- RESERVE_FORM (R204, R205, R207). -/
theorem reserveForm_gives (hs : s.live = true) (hCore : s.boot.core = true) : Gives (.reserveForm) s fun t =>
      t.vdt.ec = s.estEc ∧ t.vdt.ev = s.estEv ∧ t.reg R.VDT_EC = word16 (t.vdt.ec / 10000) ∧
      t.reg R.VDT_EV = word16 (t.vdt.ev / 10000) ∧ t.reg R.VDT_EA = word16 (s.eA / 10000) ∧
      t.field F.VDT_STATUS_RESERVE = { s with vdt := t.vdt }.reserveNext ∧
      (s.criticalNow → t.field F.VDT_STATUS_RESERVE = 2) ∧
      (s.criticalNow → s.field F.VDT_STATUS_RESERVE ≠ 2 → t.flag F.VDT_EVENT_VERDICT_CHG) ∧
      (s.criticalNow = false → s.vdt.critFrom = none → s.field F.VDT_STATUS_RESERVE ≠ 2 → t.field F.VDT_STATUS_RESERVE ≠
        2) ∧
      (max t.vdt.ec t.vdt.ev < s.eB * 1000 → t.vdt.lowFrom = some (s.vdt.lowFrom.getD s.now)) ∧
      (t.vdt.critFrom ≠ none ↔ max t.vdt.ec t.vdt.ev < s.eA) := by
  refine Gives.of_when rfl (by rw [hs, hCore]; rfl) ?_
  let u : State := s.estimatesTimed
  have hU : Touch State.formEstimates_cells s u := s.estimatesTimed_touch
  have hT : Touch State.setReserve_cells u s.formReserve := s.formReserve_eq ▸ u.setReserve_self_touch _ _
  have hBeside : s.formReserve.vdt.beside = u.vdt.beside :=
    s.formReserve_eq ▸ (u.setReserve_keepsVerdict _ _).beside
  have hReserve : s.formReserve.field F.VDT_STATUS_RESERVE = u.reserveNext :=
    s.formReserve_eq ▸ u.setReserve_reserve _ _ u.reserveNext_lt
  have hEc : s.formReserve.vdt.ec = s.estEc := (congrArg Vdt.ec hBeside :)
  have hEv : s.formReserve.vdt.ev = s.estEv := (congrArg Vdt.ev hBeside :)
  have hLow : s.formReserve.vdt.lowFrom = _ := (congrArg Vdt.lowFrom hBeside :).trans s.estimatesTimed_lowFrom
  have hCrit : s.formReserve.vdt.critFrom = _ := (congrArg Vdt.critFrom hBeside :).trans s.estimatesTimed_critFrom
  have hOld : u.field F.VDT_STATUS_RESERVE = s.field F.VDT_STATUS_RESERVE := hU.field _ (by decide)
  have hNow : u.criticalNow = s.criticalNow := hU.criticalNow (by decide)
  let x : State := { s with vdt := s.formReserve.vdt }
  have hAsShown : x.reserveNext = u.reserveNext :=
    have hS : Touch State.formEstimates_cells x s := .update (.refl _ x) (h_vdt := .inr (by decide))
    ((hS.trans hU).reserveNext (by decide) hBeside.symm).symm
  have hTwo (hNext : s.criticalNow = true) : u.reserveNext = 2 := u.reserveNext_of_criticalNow (hNow.trans hNext)
  obtain ⟨hShownEc, hShownEv, hShownEa⟩ := s.estimatesTimed_shown
  rw [hReserve, show State.reserveNext { s with vdt := s.formReserve.vdt } = _ from hAsShown, hEc, hEv, hLow, hCrit]
  refine ⟨rfl, rfl, (hT.reg _ (by decide) (by decide)).trans hShownEc, (hT.reg _ (by decide) (by decide)).trans hShownEv,
    (hT.reg _ (by decide) (by decide)).trans hShownEa, rfl, hTwo,
    fun hNext hNot => ?_, fun hNone hStood hNot => ?_, fun hBelow => s.sinceWhen_of_true (decide_eq_true hBelow) _,
    (s.sinceWhen_ne_none _ _).trans decide_eq_true_iff⟩
  · exact u.setReserve_changed u.reserveNext 1 (by rwa [hTwo hNext, hOld])
  · refine u.reserveNext_ne_critical (hNow.trans hNone) ?_ (by rwa [hOld])
    rw [s.estimatesTimed_critFrom, hStood]
    exact u.not_lasted_sinceWhen_none _ 60 (by decide)

/-! ## The end of the curfew (R213, R215) -/

/-- The notes on their way to the reader: those in the FIFO, then those that wait for a place. -/
def State.noteQueue : List Note := s.vdt.fifo ++ s.vdt.waiting

theorem State.notePush_vdt (n : Note) : (s.notePush n).vdt = { s.vdt with fifo := s.vdt.fifo ++ [n] } := by
  unfold State.notePush
  dsimp only
  split <;> rfl

/-- A note that enters is the last in the queue: in the FIFO when no other waits, else behind the others (R215). -/
theorem State.noteEnter_noteQueue (n : Note) : (s.noteEnter n).noteQueue = s.noteQueue ++ [n] := by
  unfold State.noteEnter
  split
  next hFree =>
    have hNone : s.vdt.waiting = [] := by simpa using (Bool.and_eq_true_iff.1 hFree).2
    simp [State.noteQueue, s.notePush_vdt, hNone]
  next => simp [State.noteQueue]

theorem State.noteEnter_regsKept (n : Note) : s.regsKept (s.noteEnter n) [R.VDT_EVENT] := by
  intro a ha
  have hNe : a ≠ R.VDT_EVENT := fun e => ha (by simp [e])
  unfold State.noteEnter State.notePush
  dsimp only
  split_ifs <;> simp [State.reg_event, hNe]

theorem State.noteEnter_held (n : Note) : (s.noteEnter n).vdt.held = s.vdt.held := by
  unfold State.noteEnter
  split
  · rw [s.notePush_vdt]
  · rfl

theorem foldl_noteEnter_noteQueue (l : List Note) : (l.foldl State.noteEnter s).noteQueue = s.noteQueue ++ l := by
  induction l generalizing s with
  | nil => simp
  | cons n l ih => simp [ih, s.noteEnter_noteQueue]

theorem foldl_noteEnter_held (l : List Note) : (l.foldl State.noteEnter s).vdt.held = s.vdt.held := by
  induction l generalizing s with
  | nil => rfl
  | cons n l ih => exact (ih _).trans (s.noteEnter_held n)

theorem foldl_noteEnter_regsKept (l : List Note) : s.regsKept (l.foldl State.noteEnter s) [R.VDT_EVENT] := by
  induction l generalizing s with
  | nil => exact .refl s _
  | cons n l ih => exact .trans (s.noteEnter_regsKept n) (ih _)

/-- No note is held. -/
def State.heldEmptied : State := State.setFlag { s with vdt := { s.vdt with held := [] } } F.VDT_STATUS_HELD false

/-- The held notes are gone, HELD is clear, and each enters with its HELD bit, in the order raised (R215). -/
theorem State.releaseHeld_eq : s.releaseHeld =
    ((s.vdt.held.map fun n => { n with held := true }).foldl State.noteEnter s.heldEmptied).event F.VDT_EVENT_RELEASE := by
  rw [List.foldl_map]
  rfl

theorem State.releaseHeld_regsKept : s.regsKept s.releaseHeld [R.VDT_STATUS, R.VDT_EVENT] := by
  have hEmptied : s.regsKept s.heldEmptied [R.VDT_STATUS, R.VDT_EVENT] := .setReg (.refl s _) (by decide) _
  rw [s.releaseHeld_eq]
  exact .setReg (.trans hEmptied (.mono (foldl_noteEnter_regsKept _ _) (by simp))) (by decide) _

theorem State.releaseHeld_flagClear : s.releaseHeld.flag F.VDT_STATUS_HELD = false := by
  rw [s.releaseHeld_eq, State.event, State.flag_setFlag_ne _ _ _ _ (by decide),
    (foldl_noteEnter_regsKept s.heldEmptied _).flag _ (by decide)]
  exact State.flag_setFlag_same _ _ _ (by decide)

theorem State.releaseHeld_noteQueue :
    s.releaseHeld.noteQueue = s.noteQueue ++ s.vdt.held.map fun n => { n with held := true } := by
  rw [s.releaseHeld_eq]
  exact foldl_noteEnter_noteQueue _ _

theorem State.releaseHeld_held : s.releaseHeld.vdt.held = [] := by
  rw [s.releaseHeld_eq]
  exact foldl_noteEnter_held _ _

/-- CURFEW_END (R213, R215). -/
theorem curfewEnd_gives (hs : s.live = true) (hCore : s.boot.core = true) (hValid : s.timeValid = true)
    (hOver : s.inCurfew = false) (hHeld : s.vdt.held ≠ []) : Gives (.curfewEnd) s fun t =>
      t.vdt.held = [] ∧ t.flag F.VDT_STATUS_HELD = false ∧ t.flag F.VDT_EVENT_RELEASE ∧
      (t.vdt.fifo ++ t.vdt.waiting = s.vdt.fifo ++ s.vdt.waiting ++ s.vdt.held.map fun n => { n with held := true }) ∧
      t.lgr = s.lgr ∧ s.regsKept t [R.VDT_STATUS, R.VDT_EVENT] :=
  Gives.of_when rfl (by simp [hs, hCore, hValid, hOver, hHeld]) ⟨s.releaseHeld_held, s.releaseHeld_flagClear,
    State.flag_setFlag_same _ _ _ (by decide), s.releaseHeld_noteQueue,
    (State.releaseHeld_touch (.refl State.releaseHeld_cells s) (Sub.refl _)).lgr (by decide), s.releaseHeld_regsKept⟩

end

/-- Settles O26: a clause for each of the two commands, in the statement's order. -/
theorem reserveAndNotes : Obligations.ReserveAndNotes := by
  unfold Obligations.ReserveAndNotes
  exact ⟨reserveForm_gives, curfewEnd_gives⟩

end Sys2Proof.Machine
end

section
/-!
SUPPORT. Two states of the market that O33 and O34 leave out: a frame whose own filter fills the firmware's record FIFO, so that the
frame is not read (R271, R298, R315), and a grant displaced from a bidder whose bid waits again (R266).
-/

namespace Sys2Proof.Machine

/-- A Stall entry with these bytes from place `i` on, all others 0 (R280). -/
def entryWith (i : Nat) (x : List Byte) : List Byte := setBytes emptyStall i x

/-! ## An OFFER that is not read (R262, R271, R298) -/

/-- A running unit that draws on offer 1 of address 5, while sixteen records of its market firmware fill their FIFO (R315). -/
def drawsWithFullFifo : State :=
  ((({ State.reset with
    phase := .run, boot := { Boot.reset with core := true },
    lgr := { Ledger.reset with waiting := List.replicate 16 ⟨2, 0x08, 0x05, []⟩ },
    mkt := { Mkt.reset with cache := [⟨5, entryWith 13 [1, byte stOpen], false⟩] } } : State).setFlag F.TET_STATUS_UP true).setReg
      (drawReg 0) 0x0185).setReg (drawGReg 0) 0x0101

/-- The OFFER of generation 2 of that address. -/
def newerOffer : Frame := ⟨5, 5, 0, [2, 0, 100, 0, 100, 0]⟩

theorem drawsWithFullFifo_hears : drawsWithFullFifo.receives = true ∧ drawsWithFullFifo.reads = true ∧
    drawsWithFullFifo.link.rxq = [] ∧ drawsWithFullFifo.ownAddr ≠ some newerOffer.addr ∧
    drawsWithFullFifo.link.cand ≠ some newerOffer.addr ∧ (drawsWithFullFifo.stall newerOffer.addr).length = 64 ∧
    drawsWithFullFifo.offerStale newerOffer.addr (natAt newerOffer.data 0 1) = false := by decide +kernel

theorem exec_newerOffer : exec (.marketFrameRx newerOffer ⟨0, 0⟩) drawsWithFullFifo =
    .next (drawsWithFullFifo.receive newerOffer ⟨0, 0⟩ fun s => s.rxEnter newerOffer) :=
  congrArg Host.Outcome.next (drawsWithFullFifo.when_true (by decide) _)

/-- The filter clears the draw, its MKT_GRANT_END finds no room, and the firmware that waits for it reads no frame. -/
theorem newerOffer_unread : (drawsWithFullFifo.receive newerOffer ⟨0, 0⟩ fun s => s.rxEnter newerOffer).flag
    F.MKT_EVENT_OFFER_RX = false := by decide +kernel

/-- Refutes O33: its clause for an OFFER has the frame read wherever the firmware reads before it comes, but the market filter runs
first (R271), and the MKT_GRANT_END of a draw it clears can leave the firmware waiting for room in its FIFO (R298); in
drawsWithFullFifo the OFFER stays in the RX queue and OFFER_RX clear. -/
theorem not_marketFrames : ¬ Obligations.MarketFrames := by
  unfold Obligations.MarketFrames
  rintro ⟨-, hOffer, -⟩
  obtain ⟨hReceives, hReads, hQueue, hOwn, hCand, hLength, hStale⟩ := drawsWithFullFifo_hears
  obtain ⟨t, ht, hTaken, -⟩ := hOffer drawsWithFullFifo newerOffer ⟨0, 0⟩ hReceives hReads hQueue hOwn hCand (by decide) rfl
    (by decide) hLength
  obtain rfl := Host.Outcome.next.inj (exec_newerOffer.symm.trans ht)
  obtain ⟨hRx, -⟩ := hTaken hStale
  exact absurd (hRx.symm.trans newerOffer_unread) (by decide)

/-! ## A grant displaced from a bidder that waits (R266) -/

/-- A unit in SOURCE, at address 3, whose open offer is granted to address 5 in full. Address 5 has repeated its BID and waits for its
FIRM again; an alarm bid of address 7 waits too. -/
def grantWaitsAgain : State :=
  ((((({ State.reset with
    phase := .run, boot := { Boot.reset with core := true }, link := { Link.reset with txOn := true },
    mkt := { Mkt.reset with
      waiting := [5, 7], granted := [5],
      cache := [⟨3, entryWith 13 [1, byte stOpen, 0, 0, 50, 0, 0], false⟩, ⟨5, entryWith 24 [1, byte bidGranted, 0, 0, 50, 0, 50], false⟩,
        ⟨7, entryWith 24 [1, byte bidOpen, 1, 0, 100], false⟩] } } : State).setFlag F.MKT_CFG_EN true).setFlag
      F.MKT_CFG_OFFER_EN true).setField F.CONV_STATUS_TET_MODE 3).setField F.TET_ADDR_ADDR 3).setFlag F.TET_ADDR_HELD true

theorem grantWaitsAgain_offers : grantWaitsAgain.live = true ∧ grantWaitsAgain.marketActive = true ∧
    grantWaitsAgain.offering = true ∧ grantWaitsAgain.offerKept = true ∧ grantWaitsAgain.nextBid = some 7 ∧
    grantWaitsAgain.stallN 7 25 1 = bidOpen ∧ grantWaitsAgain.txFits (grantWaitsAgain.mkt.granted.length + 2) = true ∧
    grantWaitsAgain.link.txOn = true ∧ grantWaitsAgain.offState grantWaitsAgain.selfAddr = stOpen := by decide +kernel

theorem exec_firmSend_grantWaitsAgain : exec (.firmSend 100 0) grantWaitsAgain = .next (grantWaitsAgain.firm 7 100) := by
  obtain ⟨hLive, hActive, hOffering, hKept, hNext, -, hFits, -, hOpen⟩ := grantWaitsAgain_offers
  refine (congrArg Host.Outcome.next (grantWaitsAgain.when_true (by simp [hLive, hActive, hOffering, hKept]) _)).trans ?_
  simp [hNext, hOpen, State.withTx, hFits]

/-- The FIRM that takes the power from address 5 for the alarm bid answers the bid of address 5 with it. -/
theorem displacing_answers_waiting : (grantWaitsAgain.firm 7 100).mkt.waiting = [] := by decide +kernel

/-- Refutes O34: its clause for the bid next in turn has that bidder alone leave the queue of those that wait, but a grant that it
displaces is lowered by a FIRM too (R266), and that bidder, waiting again after a repeated BID, is answered by it; in grantWaitsAgain
nobody waits afterwards, where the clause says that address 5 does. -/
theorem not_offersAndGrants : ¬ Obligations.OffersAndGrants := by
  unfold Obligations.OffersAndGrants
  rintro ⟨-, -, -, hFirm, -⟩
  obtain ⟨hLive, hActive, hOffering, hKept, hNext, hBid, hFits, hOn, hOpen⟩ := grantWaitsAgain_offers
  obtain ⟨t, ht, hWaiting, -⟩ := hFirm grantWaitsAgain 100 0 7 hLive hActive hOffering hKept hNext hBid hFits hOn (.inl hOpen)
  obtain rfl := Host.Outcome.next.inj (exec_firmSend_grantWaitsAgain.symm.trans ht)
  exact absurd (displacing_answers_waiting.symm.trans hWaiting) (by decide)

end Sys2Proof.Machine
end

section
/-!
SUPPORT. Own frames on the Tether: stuff bits put in and taken out (R228), which pending frame goes next (R232), and what the places
of pending frames hold after one of them has left or has failed (R232, R236).
-/

namespace Sys2Proof.Machine

/-! ## Bit stuffing (R228) -/

/-- Within a run of at most five bits, taking the stuff bits out gives back what they were put into. -/
theorem unstuffFrom_stuffFrom (l : List Bool) : ∀ (last : Bool) (run : Nat), run ≤ 5 →
    unstuffFrom last run (stuffFrom last run l) = (l, true) := by
  induction l with
  | nil =>
    intro last run hRun
    by_cases hFull : run = 5
    · simp [stuffFrom, unstuffFrom, hFull]
    · simp [stuffFrom, unstuffFrom, hFull]
  | cons b l ih =>
    intro last run hRun
    by_cases hFull : run = 5
    · have hNext : (if b = !last then 2 else 1) ≤ 5 := by split <;> decide
      simp [stuffFrom, unstuffFrom, hFull, ih b _ hNext]
    · have hNext : (if b = last then run + 1 else 1) ≤ 5 := by split <;> omega
      simp [stuffFrom, unstuffFrom, hFull, ih b _ hNext]

theorem unstuff_stuff (l : List Bool) : unstuff (stuff l) = (l, true) := unstuffFrom_stuffFrom l true 0 (by decide)

/-! ## Which frame goes next (R232) -/

/-- A frame goes no later than another: the lower identifier, then the earlier posting. -/
def TxFrame.precedes (x y : TxFrame) : Prop :=
  frameIdent x.frame < frameIdent y.frame ∨ (frameIdent x.frame = frameIdent y.frame ∧ x.posted ≤ y.posted)

theorem TxFrame.precedes_refl (x : TxFrame) : x.precedes x := .inr ⟨rfl, Nat.le_refl _⟩

theorem TxFrame.precedes_trans {x y z : TxFrame} (h : x.precedes y) (h' : y.precedes z) : x.precedes z := by
  unfold TxFrame.precedes at *
  omega

/-- Of two frames the first is one of them, and goes no later than either. -/
theorem firstFrame_first (x y : TxFrame) :
    (firstFrame x y = x ∨ firstFrame x y = y) ∧ (firstFrame x y).precedes x ∧ (firstFrame x y).precedes y := by
  unfold firstFrame TxFrame.precedes
  split <;> rename_i h <;> simp only [Bool.or_eq_true, decide_eq_true_eq, Bool.and_eq_true, beq_iff_eq] at h
  · exact ⟨.inr rfl, by omega, by omega⟩
  · exact ⟨.inl rfl, by omega, by omega⟩

/-- The first of several frames is one of them, and goes no later than any. -/
theorem foldl_firstFrame_first (l : List TxFrame) : ∀ x : TxFrame,
    l.foldl firstFrame x ∈ x :: l ∧ ∀ y ∈ x :: l, (l.foldl firstFrame x).precedes y := by
  induction l with
  | nil => exact fun x => ⟨by simp, by simpa using x.precedes_refl⟩
  | cons z l ih =>
    intro x
    obtain ⟨hEither, hLeft, hRight⟩ := firstFrame_first x z
    obtain ⟨hMem, hFirst⟩ := ih (firstFrame x z)
    have hHead := hFirst _ List.mem_cons_self
    refine ⟨?_, fun y hy => ?_⟩
    · rw [List.foldl_cons]
      rcases List.mem_cons.1 hMem with hEq | hTail
      · rw [hEq]
        rcases hEither with h | h <;> rw [h] <;> simp
      · exact List.mem_cons_of_mem _ (List.mem_cons_of_mem _ hTail)
    · rcases List.mem_cons.1 hy with rfl | hy
      · exact TxFrame.precedes_trans hHead hLeft
      · rcases List.mem_cons.1 hy with rfl | hy
        · exact TxFrame.precedes_trans hHead hRight
        · exact hFirst y (List.mem_cons_of_mem _ hy)

section
variable (s : State) (f : Frame)

/-- The frame that is sent next is a pending one that may start, and goes no later than any other of them. -/
theorem State.nextFrame_first {p : Frame} (h : s.nextFrame = some p) : ∃ y ∈ s.pendingFrames, y.frame = p ∧ s.mayStart p = true ∧
    ∀ x ∈ s.pendingFrames, s.mayStart x.frame = true → y.precedes x := by
  unfold State.nextFrame at h
  split at h
  · cases h
  · rename_i x l hFilter
    obtain ⟨hMem, hFirst⟩ := foldl_firstFrame_first l x
    rw [← hFilter] at hMem hFirst
    obtain ⟨hPending, hMay⟩ := List.mem_filter.1 hMem
    obtain rfl := Option.some.inj h
    exact ⟨_, hPending, rfl, hMay, fun z hz hz' => hFirst z (List.mem_filter.2 ⟨hz, hz'⟩)⟩

theorem State.nextFrame_of_sending {p : Frame} (h : s.sending f = some p) : s.nextFrame = some p :=
  (Option.filter_eq_some_iff.1 h).1

/-- A frame is pending. -/
def State.pends : Prop := ∃ y ∈ s.pendingFrames, y.frame = f

theorem State.find?_of_pends {f : Frame} (h : s.pends f) : ∃ y, s.pendingFrames.find? (fun x => x.frame == f) = some y := by
  obtain ⟨x, hx, hFrame⟩ := h
  exact Option.isSome_iff_exists.1 (List.find?_isSome.2 ⟨x, hx, by simpa using hFrame⟩)

theorem State.pends_of_sending {p : Frame} (h : s.sending f = some p) : s.pends p := by
  obtain ⟨y, hy, hFrame, -⟩ := s.nextFrame_first (s.nextFrame_of_sending f h)
  exact ⟨y, hy, hFrame⟩

/-! ## The places (R232) -/

/-- The link apart from the places of pending frames. -/
def Link.unplaced (l : Link) : Link := { l with alarmSlot := none, hushSlot := [], statusSlot := [], txq := [] }

theorem Link.starts_of_unplaced {l m : Link} (h : l.unplaced = m.unplaced) : l.starts = m.starts := by
  have hStarts := congrArg Link.starts h
  exact hStarts

theorem Link.cand_of_unplaced {l m : Link} (h : l.unplaced = m.unplaced) : l.cand = m.cand := by
  have hCand := congrArg Link.cand h
  exact hCand

/-- A frame stands in one of the places. -/
theorem State.pends_iff : s.pends f ↔ s.link.alarmSlot.map TxFrame.frame = some f ∨
    s.link.hushSlot.any (fun x => x.frame == f) = true ∨ s.link.statusSlot.any (fun x => x.frame == f) = true ∨
    s.link.txq.any (fun x => x.frame == f) = true := by
  simp [State.pends, State.pendingFrames, or_and_right, exists_or]

theorem dropFrame_length (l : List TxFrame) (h : l.any (fun x => x.frame == f) = true) :
    (dropFrame f l).length + 1 = l.length := by
  induction l with
  | nil => simp at h
  | cons x l ih =>
    by_cases hx : x.frame = f
    · simp [dropFrame, hx]
    · have hTail : l.any (fun x => x.frame == f) = true := by simpa [hx] using h
      simp [dropFrame, hx, ih hTail]

theorem retry_length (l : List TxFrame) : (retry f l).length = l.length := by
  induction l with
  | nil => rfl
  | cons x l ih => by_cases hx : x.frame = f <;> simp [retry, hx, ih]

/-- One attempt more. -/
def TxFrame.retried (x : TxFrame) : TxFrame := { x with tries := x.tries + 1 }

theorem find?_retry (l : List TxFrame) :
    (retry f l).find? (fun x => x.frame == f) = (l.find? (fun x => x.frame == f)).map TxFrame.retried := by
  induction l with
  | nil => rfl
  | cons x l ih =>
    by_cases hx : x.frame = f
    · simp [retry, hx, TxFrame.retried]
    · have hx' : (x.frame == f) = false := by simpa using hx
      simp [retry, hx, hx', ih]

/-- A frame that leaves its place leaves the rest of the link alone. -/
theorem State.unpend_unplaced : (s.unpend f).link.unplaced = s.link.unplaced := by
  unfold State.unpend
  dsimp only
  split_ifs <;> rfl

/-- A pending frame that leaves its place is one less that waits. -/
theorem State.unpend_pendingFrames (h : s.pends f) : (s.unpend f).pendingFrames.length + 1 = s.pendingFrames.length := by
  have hPlace := (s.pends_iff f).1 h
  unfold State.unpend State.pendingFrames
  dsimp only
  split_ifs with hAlarm hHush hStatus
  · obtain ⟨y, hy, -⟩ := Option.map_eq_some_iff.1 hAlarm
    simp [hy]
  · have := dropFrame_length f _ hHush
    simp only [List.length_append]
    omega
  · have := dropFrame_length f _ hStatus
    simp only [List.length_append]
    omega
  · have := dropFrame_length f s.link.txq (by simpa [hAlarm, hHush, hStatus] using hPlace)
    simp only [List.length_append]
    omega

/-- A failed attempt leaves the rest of the link alone. -/
theorem State.retryFrame_unplaced : (s.retryFrame f).link.unplaced = s.link.unplaced := by
  unfold State.retryFrame
  dsimp only
  split_ifs <;> rfl

/-- A failed attempt leaves as many frames pending. -/
theorem State.retryFrame_pendingFrames : (s.retryFrame f).pendingFrames.length = s.pendingFrames.length := by
  unfold State.retryFrame State.pendingFrames
  dsimp only
  split_ifs
  · cases s.link.alarmSlot <;> simp
  · simp [retry_length]
  · simp [retry_length]
  · simp [retry_length]

theorem find?_eq_none_of_any {l : List TxFrame} (h : ¬l.any (fun x => x.frame == f) = true) :
    l.find? (fun x => x.frame == f) = none := by
  rw [List.find?_eq_none]
  intro x hx hx'
  exact h (List.any_eq_true.2 ⟨x, hx, hx'⟩)

/-- The first pending frame equal to one whose attempt has failed is the same with an attempt more. -/
theorem State.retryFrame_find? : (s.retryFrame f).pendingFrames.find? (fun x => x.frame == f) =
    (s.pendingFrames.find? fun x => x.frame == f).map TxFrame.retried := by
  have hSlot (h : ¬s.link.alarmSlot.map TxFrame.frame = some f) : s.link.alarmSlot.toList.find? (fun x => x.frame == f) = none := by
    cases hy : s.link.alarmSlot with
    | none => rfl
    | some y => simpa [hy] using h
  unfold State.retryFrame State.pendingFrames
  dsimp only
  split_ifs with hAlarm hHush hStatus
  · obtain ⟨y, hy, hFrame⟩ := Option.map_eq_some_iff.1 hAlarm
    simp [hy, hFrame, TxFrame.retried]
  · obtain ⟨y, hy⟩ := Option.isSome_iff_exists.1 (List.find?_isSome.2 (List.any_eq_true.1 hHush))
    simp only [List.find?_append, hSlot hAlarm, find?_retry, hy, Option.none_or, Option.map_some, Option.some_or]
  · obtain ⟨y, hy⟩ := Option.isSome_iff_exists.1 (List.find?_isSome.2 (List.any_eq_true.1 hStatus))
    simp only [List.find?_append, hSlot hAlarm, find?_eq_none_of_any f hHush, find?_retry, hy, Option.none_or, Option.map_some,
      Option.some_or]
  · simp only [List.find?_append, hSlot hAlarm, find?_eq_none_of_any f hHush, find?_eq_none_of_any f hStatus, find?_retry,
      Option.none_or]

/-- A failed attempt of a pending frame counts. -/
theorem State.retryFrame_triesOf (h : s.pends f) : (s.retryFrame f).triesOf f = s.triesOf f + 1 := by
  obtain ⟨y, hy⟩ := s.find?_of_pends h
  simp [State.triesOf, s.retryFrame_find? f, hy, TxFrame.retried]

/-- A frame pends after a failed attempt as before it. -/
theorem State.retryFrame_pends (h : s.pends f) : (s.retryFrame f).pends f := by
  obtain ⟨y, hy⟩ := s.find?_of_pends h
  have hFound := s.retryFrame_find? f
  rw [hy] at hFound
  exact ⟨_, List.mem_of_find?_eq_some hFound, by simpa using List.find?_some hFound⟩

end

end Sys2Proof.Machine
end

section
/-!
SUPPORT. The link's counters and events (R237 to R239, R256): what TET_TEC and TET_REC bring about as they take a value, an error
counted, and that a set bit of TET_EVENT stays set.
-/

namespace Sys2Proof.Machine

/-- Every set bit of TET_EVENT stays set. -/
def LinkEventsStay (s t : State) : Prop := ∀ g : Flag, g.reg = R.TET_EVENT → s.flag g = true → t.flag g = true

theorem LinkEventsStay.refl (s : State) : LinkEventsStay s s := fun _ _ => id

theorem LinkEventsStay.trans {s t u : State} (h : LinkEventsStay s t) (h' : LinkEventsStay t u) : LinkEventsStay s u :=
  fun g hg hs => h' g hg (h g hg hs)

theorem LinkEventsStay.ite {s a b : State} {c : Prop} [Decidable c] (ha : LinkEventsStay s a) (hb : LinkEventsStay s b) :
    LinkEventsStay s (if c then a else b) := by
  split
  · exact ha
  · exact hb

theorem Touch.linkEventsStay {W : List Nat} {s t : State} (h : Touch W s t) (hW : R.TET_EVENT ∉ W ∧ 0x1430 ∉ W) :
    LinkEventsStay s t := fun g hg hs => by rwa [h.flag g (by rwa [hg])]

section
variable (s : State)

theorem State.event_linkEventsStay (f : Flag) (hf : f.bit < 16) : LinkEventsStay s (s.event f) :=
  fun g _ hg => s.event_flag_of_flag f hf g hg

theorem State.event_flag (f : Flag) (hf : f.bit < 16) : (s.event f).flag f = true := by
  rw [State.flag_event _ _ _ hf, if_pos rfl]

theorem State.regN_setReg (a : Nat) (x : Nat) (hx : x < 65536) : (s.setReg a (BitVec.ofNat 16 x)).regN a = x := by
  rw [State.regN, State.reg_setReg_same, BitVec.toNat_ofNat, Nat.mod_eq_of_lt hx]

/-! ## The error counters (R237, R238) -/

theorem State.setTec_self_touch (x : Nat) : Touch State.setTec_cells s (s.setTec x) :=
  State.setTec_touch (.refl _ s) (Sub.refl _) x

/-- What TET_TEC brings about beside itself. -/
def restrainCells : List Nat := State.setTec_cells.filter fun a => a ≠ R.TET_TEC

/-- TET_TEC is shown up to 255. -/
theorem State.setTec_tec (x : Nat) : (s.setTec x).regN R.TET_TEC = min x 255 := by
  have hTec := s.regN_setReg R.TET_TEC (min x 255) (by omega)
  have hRest : Touch restrainCells (s.setReg R.TET_TEC (BitVec.ofNat 16 (min x 255))) (s.setTec x) := by
    have h0 := Touch.refl restrainCells (s.setReg R.TET_TEC (BitVec.ofNat 16 (min x 255)))
    exact .ite (.ite h0 (State.post_touch (State.event_touch (State.setFlag_touch h0 _ _ (.inl (by decide))) _ (.inl (by decide)))
      (Sub.of rfl) _ _)) (.ite (State.setFlag_touch h0 _ _ (.inl (by decide))) h0)
  rw [hRest.regN R.TET_TEC (by decide), hTec]

/-- Restrained from 128 on; below 128 no unit becomes it (R238). -/
theorem State.setTec_restrained (x : Nat) : (128 ≤ x → (s.setTec x).flag F.TET_STATUS_RESTRAINED = true) ∧
    (x < 128 → s.flag F.TET_STATUS_RESTRAINED = false → (s.setTec x).flag F.TET_STATUS_RESTRAINED = false) := by
  let u := s.setReg R.TET_TEC (BitVec.ofNat 16 (min x 255))
  have hFlag : u.flag F.TET_STATUS_RESTRAINED = s.flag F.TET_STATUS_RESTRAINED := State.flag_setReg_ne _ _ _ _ (by decide)
  have hPost (v : State) (k : Kind) (p : List Byte) : (v.post k p).flag F.TET_STATUS_RESTRAINED = v.flag F.TET_STATUS_RESTRAINED :=
    (State.post_touch (.refl State.post_cells v) (Sub.refl _) k p).flag _ (by decide)
  refine ⟨fun hx => ?_, fun hx hClear => ?_⟩
  · simp only [State.setTec, hx, if_true]
    split
    · assumption
    · rw [hPost, State.flag_event _ _ _ (by decide), if_neg (by decide), State.flag_setFlag_same _ _ _ (by decide)]
  · simp only [State.setTec, show ¬128 ≤ x by omega, if_false]
    split
    · rw [State.flag_setFlag_same _ _ _ (by decide)]
    · rw [hFlag, hClear]

theorem State.setTec_linkEventsStay (x : Nat) : LinkEventsStay s (s.setTec x) := by
  have hReg : LinkEventsStay s (s.setReg R.TET_TEC (BitVec.ofNat 16 (min x 255))) :=
    fun g hg hs => by rwa [State.flag_setReg_ne _ _ _ _ (by rw [hg]; decide)]
  have hFlag (u : State) (b : Bool) : LinkEventsStay u (u.setFlag F.TET_STATUS_RESTRAINED b) :=
    (State.setFlag_touch (.refl [R.TET_STATUS] u) F.TET_STATUS_RESTRAINED b (.inl (by decide))).linkEventsStay (by decide)
  have hPost (u : State) (k : Kind) (p : List Byte) : LinkEventsStay u (u.post k p) :=
    (State.post_touch (.refl State.post_cells u) (Sub.refl _) k p).linkEventsStay (by decide)
  exact hReg.trans (.ite (.ite (.refl _) (((hFlag _ _).trans (State.event_linkEventsStay _ _ (by decide))).trans (hPost _ _ _)))
    (.ite (hFlag _ _) (.refl _)))

/-- TET_REC is shown up to 255, receive-passive from 96 on; below 96 no unit becomes it (R238). -/
theorem State.setRec_shows (x : Nat) : (s.setRec x).regN R.TET_REC = min x 255 ∧
    (96 ≤ x → (s.setRec x).flag F.TET_STATUS_RXPASSIVE = true) ∧
    (x < 96 → s.flag F.TET_STATUS_RXPASSIVE = false → (s.setRec x).flag F.TET_STATUS_RXPASSIVE = false) := by
  let u := s.setReg R.TET_REC (BitVec.ofNat 16 (min x 255))
  have hRec : u.regN R.TET_REC = min x 255 := s.regN_setReg R.TET_REC _ (by omega)
  have hFlag : u.flag F.TET_STATUS_RXPASSIVE = s.flag F.TET_STATUS_RXPASSIVE := State.flag_setReg_ne _ _ _ _ (by decide)
  have hKeep (b : Bool) : (u.setFlag F.TET_STATUS_RXPASSIVE b).regN R.TET_REC = min x 255 := by
    rw [State.regN, State.reg_setFlag, if_neg (by decide)]
    exact hRec
  have hSet (b : Bool) : (u.setFlag F.TET_STATUS_RXPASSIVE b).flag F.TET_STATUS_RXPASSIVE = b :=
    State.flag_setFlag_same _ _ _ (by decide)
  by_cases hHigh : 96 ≤ x
  · simp only [State.setRec, hHigh, if_true]
    exact ⟨hKeep _, fun _ => hSet _, fun h => absurd hHigh (by omega)⟩
  · simp only [State.setRec, hHigh, if_false]
    split
    · exact ⟨hKeep _, nofun, fun _ _ => hSet _⟩
    · exact ⟨hRec, nofun, fun _ hClear => hFlag.trans hClear⟩

/-! ## An error counted (R239) -/

/-- An error is counted under its counter and shown as an event. -/
theorem State.linkError_shows (cnt : Nat) (hCnt : cnt ∉ State.linkError_cells) :
    (s.linkError cnt).regN cnt = min (s.regN cnt + 1) 0xFFFF ∧ (s.linkError cnt).flag F.TET_EVENT_ERR = true ∧
    LinkEventsStay s (s.linkError cnt) ∧ (s.linkError cnt).link = s.link := by
  simp only [State.linkError_cells, List.mem_cons, List.not_mem_nil, or_false, not_or] at hCnt
  have hTally := State.tally_touch (.refl State.tally_cells ((s.bump cnt 1).event F.TET_EVENT_ERR)) (Sub.refl _) K.TET_ERR
  have hEvents := hTally.linkEventsStay (by decide)
  refine ⟨?_, hEvents _ (by decide) (State.event_flag _ _ (by decide)), ?_, hTally.link (by decide)⟩
  · have hBump := s.regN_bump cnt 1
    rw [State.linkError, hTally.regN cnt (by simp [State.tally_cells, hCnt]), ← hBump, State.regN, State.reg_event,
      if_neg (by exact hCnt.1)]
    rfl
  · have hBump : LinkEventsStay s (s.bump cnt 1) :=
      fun g hg hs => (s.flag_setReg_ne _ _ _ (by rw [hg]; exact fun e => hCnt.1 e.symm)).trans hs
    exact (hBump.trans (State.event_linkEventsStay _ _ (by decide))).trans hEvents

theorem State.linkError_self_touch (cnt : Nat) : Touch (cnt :: State.linkError_cells) s (s.linkError cnt) :=
  State.linkError_touch (.refl _ s) (fun _ h => List.mem_cons_of_mem _ h) cnt (.inl (by simp))

end

end Sys2Proof.Machine
end

section
/-!
SUPPORT. An own frame sent, refused, spoilt or beaten (R231, R235 to R237, R251), and O28.
-/

namespace Sys2Proof.Machine

section
variable (s : State) (p : Frame)

/-! ## A frame sent (R235 to R237, R240) -/

theorem State.unpend_self_touch : Touch State.unpend_cells s (s.unpend p) := State.unpend_touch (.refl _ s) (Sub.refl _) p

theorem State.countStart_self_touch : Touch State.countStart_cells s (s.countStart p) :=
  State.countStart_touch (.refl _ s) (Sub.refl _) p

theorem State.setTec_link (x : Nat) : (s.setTec x).link = s.link := (s.setTec_self_touch x).link (by decide)

/-- The start of a frame of classes 2 to 7 is noted, and no other. -/
theorem State.countStart_link : (s.countStart p).link =
    { s.link with starts := if 2 ≤ p.cls then s.recentStarts ++ [s.now] else s.link.starts } := by
  unfold State.countStart
  split <;> rfl

/-- What follows from a sent frame changes of the link at most the times of its claims. -/
theorem State.sentEffect_link : ∃ c d, (s.sentEffect p).link = { s.link with claimSent := c, claimAt := d } := by
  have hSame {t : State} (h : t.link = s.link) : ∃ c d, t.link = { s.link with claimSent := c, claimAt := d } := ⟨_, _, h⟩
  unfold State.sentEffect
  split
  case h_1 => exact hSame rfl
  case h_2 =>
    exact hSame (((State.postHushRecord_touch (.refl State.postHushRecord_cells _) (Sub.refl _) 0 p.addr).link (by decide)).trans
      ((State.applyHush_touch (.refl State.applyHush_cells s) (Sub.refl _)).link (by decide)))
  case h_3 | h_4 => exact hSame rfl
  case h_5 => split <;> exact hSame rfl
  case h_6 =>
    split
    · split
      · exact hSame ((State.bidTentDraw_touch (State.bidClock_touch (.refl State.bidTentDraw_cells s) (Sub.of rfl) _)
          (Sub.of rfl) _).link (by decide))
      · exact hSame rfl
    · exact hSame rfl
  case h_7 => split <;> exact ⟨_, _, rfl⟩
  case h_8 => exact hSame rfl

theorem isClaim_cls_sub {p : Frame} (h : isClaim p = true) : p.cls = 6 ∧ p.sub = 2 := by
  simp only [isClaim, Bool.and_eq_true, beq_iff_eq] at h
  exact h.1

theorem State.sentEffect_claimSent {p : Frame} (h : isClaim p = true) : (s.sentEffect p).link.claimSent = some s.now := by
  obtain ⟨hCls, hSub⟩ := isClaim_cls_sub h
  simp [State.sentEffect, hCls, hSub, h]

theorem State.sentEffect_alarm {p : Frame} (h : p.cls = 0) : (s.sentEffect p).alm.sent = s.alm.sent + 1 := by
  simp [State.sentEffect, h]

/-- A sent frame out of its place and counted, before what follows from its content. -/
def State.sentCounted : State :=
  let u := (s.unpend p).countStart p
  ((u.setTec (u.regN R.TET_TEC - 1)).bump R.TET_TXCNT 1).event F.TET_EVENT_TX_DONE

theorem State.frameSent_eq : s.frameSent p = (s.sentCounted p).sentEffect p := rfl

def sentCountedCells : List Nat := [R.TET_TXCNT, 0x140a] ++ State.setTec_cells

theorem State.sentCounted_touch : Touch sentCountedCells s (s.sentCounted p) :=
  State.event_touch (State.bump_touch (State.setTec_touch (State.countStart_touch (State.unpend_touch (.refl _ s) (Sub.of rfl) p)
    (Sub.of rfl) p) (Sub.of rfl) _) _ _ (.inl (by decide))) _ (.inl (by decide))

/-- The count, TET_TEC and the event of a sent frame (R235, R237, R256). -/
theorem State.sentCounted_shows : (s.sentCounted p).regN R.TET_TXCNT = min (s.regN R.TET_TXCNT + 1) 0xFFFF ∧
    (s.sentCounted p).regN R.TET_TEC = min (s.regN R.TET_TEC - 1) 255 ∧ (s.sentCounted p).flag F.TET_EVENT_TX_DONE = true := by
  let u := (s.unpend p).countStart p
  have hU : Touch [0x140a] s u := State.countStart_touch (State.unpend_touch (.refl _ s) (Sub.refl _) p) (Sub.refl _) p
  have hTec := u.setTec_self_touch (u.regN R.TET_TEC - 1)
  refine ⟨?_, ?_, State.event_flag _ _ (by decide)⟩
  · have hBump := (u.setTec (u.regN R.TET_TEC - 1)).regN_bump R.TET_TXCNT 1
    rw [hTec.regN _ (by decide), hU.regN R.TET_TXCNT (by decide)] at hBump
    exact ((State.event_touch (.refl [R.TET_EVENT] _) F.TET_EVENT_TX_DONE (.inl (by decide))).regN _ (by decide)).trans hBump
  · have hLast : Touch [R.TET_EVENT, R.TET_TXCNT] (u.setTec (u.regN R.TET_TEC - 1)) (s.sentCounted p) :=
      State.event_touch (State.bump_touch (.refl _ _) _ _ (.inl (by decide))) _ (.inl (by decide))
    rw [hLast.regN R.TET_TEC (by decide), State.setTec_tec, hU.regN R.TET_TEC (by decide)]

/-- Of the link a sent frame changes its place and the starts. -/
theorem State.sentCounted_link : (s.sentCounted p).link =
    { (s.unpend p).link with starts := if 2 ≤ p.cls then s.recentStarts ++ [s.now] else s.link.starts } := by
  have hStarts : (s.unpend p).link.starts = s.link.starts := Link.starts_of_unplaced (s.unpend_unplaced p)
  have hRecent : (s.unpend p).recentStarts = s.recentStarts := by
    simp only [State.recentStarts, hStarts, (s.unpend_self_touch p).now (by decide)]
  unfold State.sentCounted
  rw [State.event_link, State.bump_link, State.setTec_link, State.countStart_link, hRecent, hStarts,
    (s.unpend_self_touch p).now (by decide)]

/-- The pending frames after a sent one. -/
theorem State.frameSent_pendingFrames : (s.frameSent p).pendingFrames = (s.unpend p).pendingFrames := by
  obtain ⟨c, d, hLink⟩ := (s.sentCounted p).sentEffect_link p
  simp only [State.pendingFrames, State.frameSent_eq, hLink, State.sentCounted_link]

theorem State.frameSent_starts : (s.frameSent p).link.starts =
    if 2 ≤ p.cls then s.recentStarts ++ [s.now] else s.link.starts := by
  obtain ⟨c, d, hLink⟩ := (s.sentCounted p).sentEffect_link p
  rw [State.frameSent_eq, hLink, State.sentCounted_link]

theorem tetFrameSent_gives (f : Frame) (hSend : s.sending f = some p) : Gives (.tetFrameSent f) s fun t =>
    t.regN R.TET_TXCNT = min (s.regN R.TET_TXCNT + 1) 0xFFFF ∧ t.regN R.TET_TEC = min (s.regN R.TET_TEC - 1) 255 ∧
    t.flag F.TET_EVENT_TX_DONE ∧ t.pendingFrames.length + 1 = s.pendingFrames.length ∧
    (p.cls = 0 → t.alm.sent = s.alm.sent + 1 ∧ t.link.starts = s.link.starts) ∧
    (2 ≤ p.cls → t.link.starts = s.recentStarts ++ [s.now]) ∧ (isClaim p → t.link.claimSent = some s.now) := by
  refine ⟨s.frameSent p, ?_, ?_⟩
  · show Host.Outcome.next _ = _
    rw [hSend]
  have hCounted := s.sentCounted_touch p
  have hEffect := State.sentEffect_touch (.refl State.sentEffect_cells (s.sentCounted p)) (Sub.refl _) p
  obtain ⟨hCount, hTec, hDone⟩ := s.sentCounted_shows p
  have hStarts := s.frameSent_starts p
  refine ⟨(hEffect.regN _ (by decide)).trans hCount, (hEffect.regN _ (by decide)).trans hTec,
    (hEffect.flag _ (by decide)).trans hDone, ?_, fun hCls => ⟨?_, ?_⟩, fun hCls => ?_, fun hClaim => ?_⟩
  · rw [s.frameSent_pendingFrames]
    exact s.unpend_pendingFrames p (s.pends_of_sending f hSend)
  · rw [s.frameSent_eq, State.sentEffect_alarm _ hCls, hCounted.alm (by decide)]
  · rw [hStarts, if_neg (by omega)]
  · rw [hStarts, if_pos hCls]
  · rw [s.frameSent_eq, State.sentEffect_claimSent _ hClaim, hCounted.now (by decide)]

/-! ## A frame refused, spoilt or beaten (R234, R236 to R238, R251) -/

/-- The counter of a failed attempt (R256). -/
def failCounter (x : TxFail) : Nat := match x with | .refused => R.TET_ERRCNT4 | _ => R.TET_ERRCNT3

theorem failCounter_eq (x : TxFail) : failCounter x = if x = .refused then R.TET_ERRCNT4 else R.TET_ERRCNT3 := by
  cases x <;> rfl

/-- A failed attempt counted, and the frame with one attempt more. -/
def State.failCounted (x : TxFail) : State :=
  let u := (s.countStart p).linkError (failCounter x)
  (u.setTec (u.regN R.TET_TEC + 8)).retryFrame p

theorem State.frameFailed_eq (x : TxFail) : s.frameFailed p x = if x = .beaten then ((s.failCounted p x).dropTried p).fixedConflict p
    else (s.failCounted p x).dropTried p := by
  cases x <;> rfl

def failCountedCells (x : TxFail) : List Nat := failCounter x :: 0x140a :: State.setTec_cells

theorem State.failCounted_touch (x : TxFail) : Touch (failCountedCells x) s (s.failCounted p x) := by
  have hSub : ∀ x : TxFail, Sub State.linkError_cells (failCountedCells x) ∧ Sub State.setTec_cells (failCountedCells x) ∧
      Sub [0x140a] (failCountedCells x) := fun x => by cases x <;> exact ⟨Sub.of rfl, Sub.of rfl, Sub.of rfl⟩
  obtain ⟨hError, hTec, hLink⟩ := hSub x
  exact State.retryFrame_touch (State.setTec_touch (State.linkError_touch (State.countStart_touch (.refl _ s) hLink p) hError _
    (.inl List.mem_cons_self)) hTec _) hLink p

/-- What a failed attempt shows (R237 to R239). -/
theorem State.failCounted_shows (x : TxFail) : (s.failCounted p x).regN R.TET_TEC = min (s.regN R.TET_TEC + 8) 255 ∧
    (s.failCounted p x).regN (failCounter x) = min (s.regN (failCounter x) + 1) 0xFFFF ∧
    (s.failCounted p x).flag F.TET_EVENT_ERR = true ∧
    (120 ≤ s.regN R.TET_TEC → (s.failCounted p x).flag F.TET_STATUS_RESTRAINED = true) ∧
    (s.regN R.TET_TEC < 120 → s.flag F.TET_STATUS_RESTRAINED = false →
      (s.failCounted p x).flag F.TET_STATUS_RESTRAINED = false) := by
  let u := (s.countStart p).linkError (failCounter x)
  have hCounter : ∀ x : TxFail, failCounter x ∉ State.linkError_cells ∧ failCounter x ∉ State.setTec_cells ∧
      R.TET_TEC ∉ failCounter x :: State.linkError_cells ∧ R.TET_STATUS ∉ failCounter x :: State.linkError_cells ∧
      0x1430 ∉ failCounter x :: State.linkError_cells := fun x => by cases x <;> decide
  obtain ⟨hNew, hOther, hTecNe, hStatusNe, hAllNe⟩ := hCounter x
  obtain ⟨hCount, hErr, -, -⟩ := (s.countStart p).linkError_shows _ hNew
  have hStart := s.countStart_self_touch p
  have hError := (s.countStart p).linkError_self_touch (failCounter x)
  have hRetry := State.retryFrame_touch (.refl [0x140a] (u.setTec (u.regN R.TET_TEC + 8))) (Sub.refl _) p
  have hTec : u.regN R.TET_TEC = s.regN R.TET_TEC :=
    (hError.regN _ ⟨hTecNe, hAllNe⟩).trans (hStart.regN _ (by decide))
  have hRestrained : u.flag F.TET_STATUS_RESTRAINED = s.flag F.TET_STATUS_RESTRAINED :=
    (hError.flag _ ⟨hStatusNe, hAllNe⟩).trans (hStart.flag _ (by decide))
  obtain ⟨hBecomes, hStays⟩ := u.setTec_restrained (u.regN R.TET_TEC + 8)
  have hRetryFlag (g : Flag) (hg : g.reg ∉ [0x140a] ∧ 0x1430 ∉ [0x140a]) := hRetry.flag g hg
  refine ⟨?_, ?_, (hRetryFlag _ (by decide)).trans (u.setTec_linkEventsStay _ _ rfl hErr),
    fun hHigh => (hRetryFlag _ (by decide)).trans (hBecomes (by omega)),
    fun hLow hClear => (hRetryFlag _ (by decide)).trans (hStays (by omega) (hRestrained.trans hClear))⟩
  · rw [← hTec, ← u.setTec_tec]
    exact hRetry.regN _ (by decide)
  · have hRetryCount : failCounter x ∉ [0x140a] := by cases x <;> decide
    have hStartCount : failCounter x ∉ State.countStart_cells := by cases x <;> decide
    rw [← hStart.regN _ ⟨hStartCount, by decide⟩, ← hCount]
    exact (hRetry.regN _ ⟨hRetryCount, by decide⟩).trans ((u.setTec_self_touch _).regN _ ⟨hOther, by decide⟩)

/-- The link that the failed attempt finds: only the start may have been noted. -/
theorem State.failCounted_eq (x : TxFail) : ∃ v : State, s.failCounted p x = v.retryFrame p ∧
    v.link = { s.link with starts := if 2 ≤ p.cls then s.recentStarts ++ [s.now] else s.link.starts } := by
  refine ⟨_, rfl, ?_⟩
  rw [State.setTec_link, ((s.countStart p).linkError_self_touch _).link (by cases x <;> decide), State.countStart_link]

/-- The frame is still pending, with one attempt more. -/
theorem State.failCounted_pends (x : TxFail) (h : s.pends p) : (s.failCounted p x).pends p ∧
    (s.failCounted p x).triesOf p = s.triesOf p + 1 ∧ (s.failCounted p x).pendingFrames.length = s.pendingFrames.length := by
  obtain ⟨v, hEq, hLink⟩ := s.failCounted_eq p x
  have hPending : v.pendingFrames = s.pendingFrames := by simp only [State.pendingFrames, hLink]
  have hPends : v.pends p := by rwa [State.pends, hPending]
  have hTries : v.triesOf p = s.triesOf p := by simp only [State.triesOf, hPending]
  rw [hEq]
  exact ⟨v.retryFrame_pends p hPends, by rw [v.retryFrame_triesOf p hPends, hTries],
    by rw [v.retryFrame_pendingFrames p, hPending]⟩

theorem State.failCounted_cand (x : TxFail) : (s.failCounted p x).link.cand = s.link.cand := by
  obtain ⟨v, hEq, hLink⟩ := s.failCounted_eq p x
  rw [hEq, Link.cand_of_unplaced (v.retryFrame_unplaced p), hLink]

/-- An ALARM, or a frame tried fewer than 16 times, stays. -/
theorem State.dropTried_of_stays (h : p.cls = 0 ∨ s.triesOf p < 16) : s.dropTried p = s := by
  unfold State.dropTried
  rw [if_pos (by simpa using h)]

/-- A frame dropped after 16 attempts, before a candidate's CLAIM is posted anew. -/
def State.droppedFrame : State := ((s.unpend p).event F.TET_EVENT_TX_DROP).tally K.TX_DROP

theorem State.dropTried_of_drops (hCls : p.cls ≠ 0) (hTries : 16 ≤ s.triesOf p) : s.dropTried p =
    if isClaim p && (s.droppedFrame p).link.cand == some p.addr then (s.droppedFrame p).postStatus p else s.droppedFrame p := by
  unfold State.dropTried
  rw [if_neg (by simp [hCls]; omega)]
  rfl

theorem State.droppedFrame_txDrop : (s.droppedFrame p).flag F.TET_EVENT_TX_DROP = true :=
  ((State.tally_touch (.refl State.tally_cells _) (Sub.refl _) K.TX_DROP).flag _ (by decide)).trans (State.event_flag _ _ (by decide))

theorem State.droppedFrame_link : (s.droppedFrame p).link = (s.unpend p).link := by
  rw [State.droppedFrame, (State.tally_touch (.refl State.tally_cells _) (Sub.refl _) K.TX_DROP).link (by decide), State.event_link]

theorem State.postStatus_regs : (s.postStatus p).regs = s.regs := by
  unfold State.postStatus
  split <;> rfl

theorem State.postStatus_cand : (s.postStatus p).link.cand = s.link.cand := by
  unfold State.postStatus
  split <;> rfl

theorem State.dropTried_txDrop (hCls : p.cls ≠ 0) (hTries : 16 ≤ s.triesOf p) : (s.dropTried p).flag F.TET_EVENT_TX_DROP = true := by
  rw [s.dropTried_of_drops p hCls hTries]
  split
  · rw [State.flag, State.reg, State.postStatus_regs]
    exact s.droppedFrame_txDrop p
  · exact s.droppedFrame_txDrop p

theorem State.dropTried_cand : (s.dropTried p).link.cand = s.link.cand := by
  have hUnpend : (s.unpend p).link.cand = s.link.cand := Link.cand_of_unplaced (s.unpend_unplaced p)
  by_cases h : p.cls = 0 ∨ s.triesOf p < 16
  · rw [s.dropTried_of_stays p h]
  · rw [s.dropTried_of_drops p (by tauto) (by omega)]
    split
    · rw [State.postStatus_cand, State.droppedFrame_link, hUnpend]
    · rw [State.droppedFrame_link, hUnpend]

/-- A dropped frame leaves its place, unless it is a CLAIM. -/
theorem State.dropTried_pendingFrames (hPends : s.pends p) (hCls : p.cls ≠ 0) (hTries : 16 ≤ s.triesOf p)
    (hClaim : isClaim p = false) : (s.dropTried p).pendingFrames.length + 1 = s.pendingFrames.length := by
  rw [s.dropTried_of_drops p hCls hTries, hClaim, Bool.false_and, if_neg (by decide), ← s.unpend_pendingFrames p hPends]
  simp only [State.pendingFrames, State.droppedFrame_link]

theorem State.dropTried_linkEventsStay : LinkEventsStay s (s.dropTried p) := by
  by_cases h : p.cls = 0 ∨ s.triesOf p < 16
  · rw [s.dropTried_of_stays p h]
    exact .refl s
  · have hDropped : LinkEventsStay s (s.droppedFrame p) :=
      (((s.unpend_self_touch p).linkEventsStay (by decide)).trans (State.event_linkEventsStay _ _ (by decide))).trans
        ((State.tally_touch (.refl State.tally_cells _) (Sub.refl _) K.TX_DROP).linkEventsStay (by decide))
    rw [s.dropTried_of_drops p (by tauto) (by omega)]
    exact .ite (hDropped.trans ((State.postStatus_touch (.refl State.postStatus_cells _) (Sub.refl _) p).linkEventsStay (by decide)))
      hDropped

/-- A conflict of the own address shows CONFLICT, however it was (R251). -/
theorem State.fixedConflict_conflict (hAuto : s.autoAddr = false) (hOwn : s.ownAddr = some p.addr) :
    (s.fixedConflict p).flag F.TET_STATUS_CONFLICT = true := by
  unfold State.fixedConflict
  split
  · rename_i h
    simpa [hAuto, hOwn] using h
  · rw [State.flag, State.reg, State.postFault_regs]
    exact ((State.post_touch (.refl State.post_cells _) (Sub.refl _) _ _).flag _ (by decide)).trans
      (by rw [State.flag_event _ _ _ (by decide), if_neg (by decide), State.flag_setFlag_same _ _ _ (by decide)])

/-- Beside CONFLICT and its event no flag of the link changes with a conflict. -/
theorem State.fixedConflict_flag (g : Flag) (hReg : g.reg = R.TET_STATUS ∨ g.reg = R.TET_EVENT)
    (hNe : g ≠ F.TET_STATUS_CONFLICT ∧ g ≠ F.TET_EVENT_CONFLICT) : (s.fixedConflict p).flag g = s.flag g := by
  have hPlace : g.reg ∉ State.post_cells := by rcases hReg with h | h <;> rw [h] <;> decide
  unfold State.fixedConflict
  split
  · rfl
  · rw [State.flag, State.reg, State.postFault_regs]
    exact ((State.post_touch (.refl State.post_cells _) (Sub.refl _) _ _).flag g ⟨hPlace, by decide⟩).trans
      (by rw [State.flag_event _ _ _ (by decide), if_neg hNe.2, State.flag_setFlag_ne _ _ _ _ ⟨by decide, hNe.1⟩])

theorem State.fixedConflict_of_auto (hAuto : s.autoAddr = true) : s.fixedConflict p = s := by
  unfold State.fixedConflict
  rw [if_pos (by simp [hAuto])]

theorem State.dropTried_self_touch : Touch State.dropTried_cells s (s.dropTried p) := State.dropTried_touch (.refl _ s) (Sub.refl _) p

theorem State.fixedConflict_self_touch : Touch State.fixedConflict_cells s (s.fixedConflict p) :=
  State.fixedConflict_touch (.refl _ s) (Sub.refl _) p

/-- The own address is read off TET_ADDR. -/
theorem Touch.ownAddr {W : List Nat} {s t : State} (h : Touch W s t) (hW : R.TET_ADDR ∉ W ∧ 0x1430 ∉ W) : t.ownAddr = s.ownAddr := by
  simp only [State.ownAddr, h.flag F.TET_ADDR_HELD hW, h.field F.TET_ADDR_ADDR hW]

theorem Touch.autoAddr {W : List Nat} {s t : State} (h : Touch W s t) (hW : R.TET_ADDR ∉ W ∧ 0x1430 ∉ W) : t.autoAddr = s.autoAddr :=
  h.flag F.TET_ADDR_AUTO hW

/-- The frame that was dropped or stays, with what the failed attempt showed. -/
theorem State.frameFailed_shows (x : TxFail) : (s.frameFailed p x).regN R.TET_TEC = (s.failCounted p x).regN R.TET_TEC ∧
    (s.frameFailed p x).regN (failCounter x) = (s.failCounted p x).regN (failCounter x) ∧
    (s.frameFailed p x).flag F.TET_STATUS_RESTRAINED = (s.failCounted p x).flag F.TET_STATUS_RESTRAINED ∧
    (∀ g : Flag, g.reg = R.TET_EVENT → g ≠ F.TET_EVENT_CONFLICT → ((s.failCounted p x).dropTried p).flag g = true →
      (s.frameFailed p x).flag g = true) := by
  have hDrop := (s.failCounted p x).dropTried_self_touch p
  have hConflict := ((s.failCounted p x).dropTried p).fixedConflict_self_touch p
  have hCounter : ∀ x : TxFail, failCounter x ∉ State.dropTried_cells ∧ failCounter x ∉ State.fixedConflict_cells :=
    fun x => by cases x <;> decide
  obtain ⟨hCountDrop, hCountConflict⟩ := hCounter x
  rw [s.frameFailed_eq p x]
  split
  · exact ⟨(hConflict.regN _ (by decide)).trans (hDrop.regN _ (by decide)),
      (hConflict.regN _ ⟨hCountConflict, by decide⟩).trans (hDrop.regN _ ⟨hCountDrop, by decide⟩),
      (State.fixedConflict_flag _ p _ (.inl rfl) (by decide)).trans (hDrop.flag _ (by decide)),
      fun g hg hNe h => (State.fixedConflict_flag _ p g (.inr hg) ⟨fun e => absurd (e ▸ hg) (by decide), hNe⟩).trans h⟩
  · exact ⟨hDrop.regN _ (by decide), hDrop.regN _ ⟨hCountDrop, by decide⟩, hDrop.flag _ (by decide), fun _ _ _ h => h⟩

theorem tetFrameRefused_gives (f : Frame) (x : TxFail) (hSend : s.sending f = some p) : Gives (.tetFrameRefused f x) s fun t =>
    t.regN R.TET_TEC = min (s.regN R.TET_TEC + 8) 255 ∧
    (t.regN (if x = .refused then R.TET_ERRCNT4 else R.TET_ERRCNT3) = min (s.regN (if x = .refused then R.TET_ERRCNT4
      else R.TET_ERRCNT3) + 1) 0xFFFF) ∧
    t.flag F.TET_EVENT_ERR ∧
    (s.regN R.TET_TEC < 120 → s.flag F.TET_STATUS_RESTRAINED = false → t.flag F.TET_STATUS_RESTRAINED = false) ∧
    (120 ≤ s.regN R.TET_TEC → t.flag F.TET_STATUS_RESTRAINED) ∧
    (p.cls ≠ 0 → 15 ≤ s.triesOf p → t.flag F.TET_EVENT_TX_DROP) ∧
    (x ≠ .beaten → p.cls = 0 ∨ s.triesOf p < 15 → t.pendingFrames.length = s.pendingFrames.length ∧ t.triesOf p =
      s.triesOf p + 1) ∧
    (x ≠ .beaten → p.cls ≠ 0 → isClaim p = false → 15 ≤ s.triesOf p → t.pendingFrames.length + 1 =
      s.pendingFrames.length) ∧
    (x = .beaten → s.autoAddr = false → s.ownAddr = some p.addr → t.flag F.TET_STATUS_CONFLICT) ∧
    (x = .beaten → s.autoAddr → t.ownAddr = s.ownAddr ∧ t.link.cand = s.link.cand) := by
  refine ⟨s.frameFailed p x, ?_, ?_⟩
  · show Host.Outcome.next _ = _
    rw [hSend]
  obtain ⟨hTec, hCount, hErr, hHigh, hLow⟩ := s.failCounted_shows p x
  obtain ⟨hTec', hCount', hRestrained, hEvent⟩ := s.frameFailed_shows p x
  obtain ⟨hPends, hTries, hLength⟩ := s.failCounted_pends p x (s.pends_of_sending f hSend)
  have hAddrCells : ∀ x : TxFail, R.TET_ADDR ∉ failCountedCells x ∧ 0x1430 ∉ failCountedCells x := fun x => by cases x <;> decide
  have hOwn : ((s.failCounted p x).dropTried p).ownAddr = s.ownAddr :=
    (((s.failCounted p x).dropTried_self_touch p).ownAddr (by decide)).trans ((s.failCounted_touch p x).ownAddr (hAddrCells x))
  have hAuto : ((s.failCounted p x).dropTried p).autoAddr = s.autoAddr :=
    (((s.failCounted p x).dropTried_self_touch p).autoAddr (by decide)).trans ((s.failCounted_touch p x).autoAddr (hAddrCells x))
  refine ⟨hTec'.trans hTec, by rw [← failCounter_eq, hCount', hCount],
    hEvent _ rfl (by decide) ((s.failCounted p x).dropTried_linkEventsStay p _ rfl hErr), fun h h' => hRestrained.trans (hLow h h'),
    fun h => hRestrained.trans (hHigh h), fun hCls h => ?_, fun hx h => ?_, fun hx hCls hClaim h => ?_, fun hx h h' => ?_,
    fun hx h => ?_⟩
  · exact hEvent _ rfl (by decide) ((s.failCounted p x).dropTried_txDrop p hCls (by omega))
  · rw [s.frameFailed_eq p x, if_neg hx, State.dropTried_of_stays _ p (h.imp_right (by omega))]
    exact ⟨hLength, hTries⟩
  · rw [s.frameFailed_eq p x, if_neg hx, State.dropTried_pendingFrames _ p hPends hCls (by omega) hClaim, hLength]
  · rw [s.frameFailed_eq p x, if_pos hx]
    exact State.fixedConflict_conflict _ p (hAuto.trans h) (hOwn.trans h')
  · rw [s.frameFailed_eq p x, if_pos hx, State.fixedConflict_of_auto _ p (hAuto.trans h)]
    exact ⟨hOwn, ((s.failCounted p x).dropTried_cand p).trans (s.failCounted_cand p x)⟩

theorem tetArbLost_gives (f : Frame) (hSend : s.sending f = some p) : Gives (.tetArbLost f) s fun t =>
    (t = (if 2 ≤ p.cls then { s with link := { s.link with starts := s.recentStarts ++ [s.now] } } else s)) := by
  refine ⟨s.countStart p, ?_, rfl⟩
  show Host.Outcome.next _ = _
  rw [hSend]

end

/-! ## O28 -/

/-- Settles O28: the first of the pending frames goes, and its success, its failure and its loss of arbitration each do what they
are said to do. -/
theorem framesSent : Obligations.FramesSent := by
  unfold Obligations.FramesSent
  refine ⟨fun s f p h => ?_, unstuff_stuff, fun s f p h => tetFrameSent_gives s p f h,
    fun s f p x h => tetFrameRefused_gives s p f x h, fun s f p h => tetArbLost_gives s p f h⟩
  obtain ⟨y, hy, hFrame, hMay, hFirst⟩ := s.nextFrame_first (s.nextFrame_of_sending f h)
  exact ⟨y, hy, hFrame, hMay, fun x hx hx' => hFrame ▸ hFirst x hx hx'⟩

end Sys2Proof.Machine
end

section
/-!
SUPPORT. Errors in received bits, the link's condition, the threshold and the guardian (R224, R225, R234, R237 to R241, R244), and
O29.
-/

namespace Sys2Proof.Machine

section
variable (s : State)

/-! ## An error in received bits (R234, R237 to R239) -/

/-- An error counted, and TET_REC raised by it. -/
def State.rxErrorCounted (x : RxError) : State := (s.linkError (rxErrReg x)).setRec (s.regN R.TET_REC + 1)

theorem State.rxErrorCounted_shows (x : RxError) :
    (s.rxErrorCounted x).regN (rxErrReg x) = min (s.regN (rxErrReg x) + 1) 0xFFFF ∧
    (s.rxErrorCounted x).regN R.TET_REC = min (s.regN R.TET_REC + 1) 255 ∧
    (s.rxErrorCounted x).flag F.TET_EVENT_ERR = true ∧
    (95 ≤ s.regN R.TET_REC → (s.rxErrorCounted x).flag F.TET_STATUS_RXPASSIVE = true) ∧
    (s.regN R.TET_REC < 95 → s.flag F.TET_STATUS_RXPASSIVE = false →
      (s.rxErrorCounted x).flag F.TET_STATUS_RXPASSIVE = false) := by
  have hPlace : ∀ x : RxError, rxErrReg x ∉ State.linkError_cells ∧ rxErrReg x ∉ State.setRec_cells ∧
      R.TET_STATUS ∉ rxErrReg x :: State.linkError_cells ∧ 0x1430 ∉ rxErrReg x :: State.linkError_cells :=
    fun x => by cases x <;> decide
  obtain ⟨hNew, hOther, hStatus, hAll⟩ := hPlace x
  obtain ⟨hCount, hErr, -, -⟩ := s.linkError_shows _ hNew
  obtain ⟨hRec, hPassive, hActive⟩ := (s.linkError (rxErrReg x)).setRec_shows (s.regN R.TET_REC + 1)
  have hSetRec : Touch State.setRec_cells (s.linkError (rxErrReg x)) (s.rxErrorCounted x) :=
    State.setRec_touch (.refl _ _) (Sub.refl _) _
  have hBefore := (s.linkError_self_touch (rxErrReg x)).flag F.TET_STATUS_RXPASSIVE ⟨hStatus, hAll⟩
  exact ⟨(hSetRec.regN _ ⟨hOther, by decide⟩).trans hCount, hRec, (hSetRec.flag _ (by decide)).trans hErr,
    fun h => hPassive (by omega), fun h hClear => hActive (by omega) (hBefore.trans hClear)⟩

theorem tetRxError_gives (bits : List Bool) (carrier : Bool) (x : RxError) (hr : s.receives = true)
    (hError : rxError bits carrier = some x) : Gives (.tetRxError bits carrier) s fun t =>
      t.regN (rxErrReg x) = min (s.regN (rxErrReg x) + 1) 0xFFFF ∧ t.regN R.TET_REC = min (s.regN R.TET_REC + 1) 255 ∧
      t.flag F.TET_EVENT_ERR ∧ (95 ≤ s.regN R.TET_REC → t.flag F.TET_STATUS_RXPASSIVE) ∧
      (s.regN R.TET_REC < 95 → s.flag F.TET_STATUS_RXPASSIVE = false → t.flag F.TET_STATUS_RXPASSIVE = false) := by
  refine Gives.of_when rfl hr ?_
  simp only [hError]
  have hTally : Touch State.stallCount_cells (s.rxErrorCounted x) (if (x != .form && rxLengthOk bits &&
      !s.flag F.TET_STATUS_RXPASSIVE) = true then (s.rxErrorCounted x).stallCount (rxField bits 4 6) 46 2 else s.rxErrorCounted x) :=
    .ite (State.stallCount_touch (.refl _ _) (Sub.refl _) _ _ _) (.refl _ _)
  have hPlace : rxErrReg x ∉ State.stallCount_cells := by cases x <;> decide
  obtain ⟨hCount, hRec, hErr, hPassive, hActive⟩ := s.rxErrorCounted_shows x
  exact ⟨(hTally.regN _ ⟨hPlace, by decide⟩).trans hCount, (hTally.regN _ (by decide)).trans hRec,
    (hTally.flag _ (by decide)).trans hErr, fun h => (hTally.flag _ (by decide)).trans (hPassive h),
    fun h hClear => (hTally.flag _ (by decide)).trans (hActive h hClear)⟩

theorem tetRxError_none_gives (bits : List Bool) (carrier : Bool) (hr : s.receives = true)
    (hError : rxError bits carrier = none) : Gives (.tetRxError bits carrier) s fun t => t = s := by
  refine Gives.of_when rfl hr ?_
  simp only [hError]

/-! ## The link's condition (R224, R225) -/

/-- A new condition shown with VTET, and its event. -/
def State.conditionShown (vtet : Nat) : State :=
  (((s.setVolt .tether vtet).setFlag F.TET_STATUS_UP (decide (1 ≤ linkCond vtet))).setFlag F.TET_STATUS_INRANGE
    (decide (linkCond vtet = 2))).event F.TET_EVENT_LINK_CHG

theorem State.conditionShown_touch (vtet : Nat) :
    Touch [R.SRC_VTET_V, R.TET_STATUS, R.TET_EVENT] s (s.conditionShown vtet) :=
  State.event_touch (State.setFlag_touch (State.setFlag_touch (State.setReg_touch (.refl _ s) _ _ (.inl (by decide))) _ _
    (.inl (by decide))) _ _ (.inl (by decide))) _ (.inl (by decide))

theorem linkCond_cases (vtet : Nat) : linkCond vtet = 0 ∨ linkCond vtet = 1 ∨ linkCond vtet = 2 := by
  unfold linkCond
  split_ifs <;> simp

theorem State.conditionShown_shows (vtet : Nat) : (s.conditionShown vtet).flag F.TET_STATUS_UP = decide (1 ≤ linkCond vtet) ∧
    (s.conditionShown vtet).flag F.TET_STATUS_INRANGE = decide (linkCond vtet = 2) ∧
    (s.conditionShown vtet).reg R.SRC_VTET_V = word16 (volt20 vtet) ∧
    (s.conditionShown vtet).flag F.TET_EVENT_LINK_CHG = true := by
  refine ⟨?_, ?_, ?_, State.event_flag _ _ (by decide)⟩
  · rw [State.conditionShown, State.flag_event _ _ _ (by decide), if_neg (by decide), State.flag_setFlag_ne _ _ _ _ (by decide),
      State.flag_setFlag_same _ _ _ (by decide)]
  · rw [State.conditionShown, State.flag_event _ _ _ (by decide), if_neg (by decide), State.flag_setFlag_same _ _ _ (by decide)]
  · rw [State.conditionShown, State.reg_event, if_neg (by decide), State.reg_setFlag, if_neg (by decide), State.reg_setFlag,
      if_neg (by decide)]
    exact State.reg_setReg_same _ _ _

/-- The condition read off a state that shows it by its two bits. -/
theorem State.linkCondNow_eq {vtet : Nat} (hUp : s.flag F.TET_STATUS_UP = decide (1 ≤ linkCond vtet))
    (hRange : s.flag F.TET_STATUS_INRANGE = decide (linkCond vtet = 2)) : s.linkCondNow = linkCond vtet := by
  rcases linkCond_cases vtet with h | h | h <;> simp [State.linkCondNow, hUp, hRange, h]

/-- Its record, outside the 10 s of the last one (R224). -/
theorem State.postLinkChg_holds (old new vtet : Nat) (hLast : ∀ d ∈ s.link.chgRecAt, d + secTicks 10 ≤ s.now)
    (hRoom : s.roomFor K.LINK_CHG) : (s.postLinkChg old new vtet).holds K.LINK_CHG
      ([byte old, byte new] ++ beBytes 2 (volt20 vtet)) := by
  have hOld : (match s.link.chgRecAt with | some t => decide (s.now < t + secTicks 10) | none => false) = false := by
    cases hAt : s.link.chgRecAt with
    | none => rfl
    | some d => simpa using hLast d hAt
  unfold State.postLinkChg
  dsimp only
  rw [if_neg]
  · exact s.post_holds _ _ hRoom
  · rw [Bool.not_eq_true]
    exact hOld

/-- The threshold and the foldback, before source power follows. -/
def State.thresholdFollowed (old new : Nat) : State :=
  let s := if old = 0 then s.resetThreshold else s
  if new = 2 then { s with conv := { s.conv with folded := false } } else s

theorem State.thresholdFollowed_touch (old new : Nat) : Touch [R.TET_RXTHR, 0x140a, 0x1408] s (s.thresholdFollowed old new) := by
  have hReset : Touch [R.TET_RXTHR, 0x140a, 0x1408] s (if old = 0 then s.resetThreshold else s) :=
    .ite (State.resetThreshold_touch (.refl _ s) (Sub.of rfl)) (.refl _ s)
  exact .ite (.update hReset (h_conv := .inr (by decide))) hReset

theorem State.thresholdFollowed_down {old : Nat} (h : old = 0) (new : Nat) : (s.thresholdFollowed old new).reg R.TET_RXTHR = 120 := by
  have hReset : s.resetThreshold.reg R.TET_RXTHR = 120 := State.reg_setReg_same _ _ _
  simp only [State.thresholdFollowed, h, if_true]
  split <;> exact hReset

theorem linkConditionChange_gives (vtet : Nat) (hs : s.live = true) (hNew : linkCond vtet ≠ s.linkCondNow) :
    Gives (.linkConditionChange vtet) s fun t =>
      t.linkCondNow = linkCond vtet ∧ t.reg R.SRC_VTET_V = word16 (volt20 vtet) ∧ t.flag F.TET_EVENT_LINK_CHG ∧
      (s.linkCondNow = 0 → t.reg R.TET_RXTHR = 120) ∧
      ((∀ d ∈ s.link.chgRecAt, d + secTicks 10 ≤ s.now) → s.roomFor K.LINK_CHG → t.holds K.LINK_CHG ([byte
        s.linkCondNow, byte (linkCond vtet)] ++ beBytes 2 (volt20 vtet))) := by
  refine Gives.of_when rfl (by simp [hs, hNew]) ?_
  let u := s.conditionShown vtet
  let v := u.postLinkChg s.linkCondNow (linkCond vtet) vtet
  let w := v.thresholdFollowed s.linkCondNow (linkCond vtet)
  change w.powerChanged.linkCondNow = _ ∧ w.powerChanged.reg _ = _ ∧ w.powerChanged.flag _ = true ∧ (_ → w.powerChanged.reg _ = _) ∧
    (_ → _ → w.powerChanged.holds _ _)
  have hShown := s.conditionShown_touch vtet
  have hRecord : Touch State.postLinkChg_cells u v := State.postLinkChg_touch (.refl _ u) (Sub.refl _) _ _ _
  have hThreshold := v.thresholdFollowed_touch s.linkCondNow (linkCond vtet)
  have hPower := State.powerChanged_touch (.refl State.powerChanged_cells w) (Sub.refl _)
  have hStatus (g : Flag) (hg : g.reg = R.TET_STATUS ∨ g.reg = R.TET_EVENT) : w.powerChanged.flag g = u.flag g := by
    rw [hPower.flag g (by rcases hg with h | h <;> rw [h] <;> decide), hThreshold.flag g (by rcases hg with h | h <;> rw [h] <;> decide),
      hRecord.flag g (by rcases hg with h | h <;> rw [h] <;> decide)]
  obtain ⟨hUp, hRange, hVtet, hEvent⟩ := s.conditionShown_shows vtet
  refine ⟨State.linkCondNow_eq _ ((hStatus _ (.inl rfl)).trans hUp) ((hStatus _ (.inl rfl)).trans hRange), ?_,
    (hStatus _ (.inr rfl)).trans hEvent, fun hDown => ?_, fun hLast hRoom => ?_⟩
  · rw [hPower.reg _ (by decide) (by decide), hThreshold.reg _ (by decide) (by decide), hRecord.reg _ (by decide) (by decide), hVtet]
  · rw [hPower.reg _ (by decide) (by decide)]
    exact v.thresholdFollowed_down hDown _
  · have hHolds : v.holds K.LINK_CHG ([byte s.linkCondNow, byte (linkCond vtet)] ++ beBytes 2 (volt20 vtet)) :=
      u.postLinkChg_holds _ _ _ (by rwa [hShown.link (by decide), hShown.now (by decide)])
        ((hShown.sameIntake (by decide)).roomFor hRoom)
    exact ((hThreshold.recordsStay (by decide)).trans w.powerChanged_stay).holds hHolds

/-- The threshold is back at 120 mV 60 s after the last accepted frame (R225). -/
theorem tetThresholdReset_gives (hs : s.live = true) (hLast : s.link.acceptAt + secTicks 60 ≤ s.now) :
    Gives .tetThresholdReset s fun t =>
      t.reg R.TET_RXTHR = 120 ∧ t.link = { s.link with acceptAt := s.now } ∧ t.lgr = s.lgr ∧
      s.regsKept t [R.TET_RXTHR] :=
  Gives.of_when rfl (by simp [hs, hLast]) ⟨State.reg_setReg_same _ _ _, rfl, rfl,
    State.regsKept.setReg (t := { s with link := { s.link with acceptAt := s.now } }) (fun _ _ => rfl) (by simp) 120⟩

/-! ## The guardian (R240, R241, R244) -/

/-- A trip entered into the guardian's list. -/
def State.tripNoted : State :=
  { s with link := { s.link with trips := (s.link.trips.filter fun d => decide (s.now < d + secTicks 3600)) ++ [s.now] } }

/-- Every trip of the list after one has been entered lies within the hour. -/
theorem State.tripNoted_tripsInHour : s.tripNoted.tripsInHour = s.tripNoted.link.trips.length := by
  have hAll : ∀ d ∈ s.tripNoted.link.trips, decide (s.now < d + secTicks 3600) = true := by
    intro d hd
    rcases List.mem_append.1 hd with h | h
    · exact (List.mem_filter.1 h).2
    · rw [List.mem_singleton.1 h]
      exact decide_eq_true (Nat.lt_add_of_pos_right (by decide))
  exact congrArg List.length (List.filter_eq_self.2 hAll)

/-- The silence that follows a trip (R241). -/
def State.silenced (near held : Bool) : State :=
  let s := (s.setFlag F.TET_STATUS_SILENCED true).setFlag F.TET_STATUS_GUARDHOLD held
  { s with link := { s.link with silenceDue := if held then none else s.timer (secTicks (if near then 60 else 1)) } }

theorem State.silenced_shows (near held : Bool) : (s.silenced near held).flag F.TET_STATUS_SILENCED = true ∧
    (s.silenced near held).flag F.TET_STATUS_GUARDHOLD = held ∧ Touch [R.TET_STATUS, 0x140a] s (s.silenced near held) := by
  refine ⟨?_, State.flag_setFlag_same _ _ _ (by decide),
    .update (State.setFlag_touch (State.setFlag_touch (.refl _ s) _ _ (.inl (by decide))) _ _ (.inl (by decide)))
      (h_link := .inr (by decide))⟩
  exact (State.flag_setFlag_ne (s.setFlag F.TET_STATUS_SILENCED true) _ held _ (by decide)).trans
    (State.flag_setFlag_same _ _ _ (by decide))

/-- A trip: noted, silencing, counted and recorded. -/
def State.guardTripped (cause : Nat) : State :=
  let near := s.link.trips.any fun d => decide (s.now < d + secTicks 60)
  let held := s.flag F.TET_STATUS_GUARDHOLD || decide (3 ≤ s.tripNoted.tripsInHour)
  let u := s.tripNoted.silenced near held
  ((u.event F.TET_EVENT_GUARD).bump R.TET_GUARDCNT 1).post K.TET_GUARD
    [byte cause, byte (if held then 3 else if near then 2 else 1), byte u.tripsInHour]

/-- A trip silences, is counted and shown; of the silence it says no more than its own words do. -/
theorem State.guardTripped_eq (cause : Nat) : ∃ near held : Bool, (near = true ↔ ∃ d ∈ s.link.trips, s.now < d + secTicks 60) ∧
    held = (s.flag F.TET_STATUS_GUARDHOLD || decide (3 ≤ s.tripNoted.link.trips.length)) ∧
    (s.guardTripped cause).link = (s.tripNoted.silenced near held).link ∧
    (∀ g : Flag, g.reg = R.TET_STATUS → (s.guardTripped cause).flag g = (s.tripNoted.silenced near held).flag g) ∧
    (s.guardTripped cause).regN R.TET_GUARDCNT = min (s.regN R.TET_GUARDCNT + 1) 0xFFFF ∧
    (s.guardTripped cause).flag F.TET_EVENT_GUARD = true := by
  let near := s.link.trips.any fun d => decide (s.now < d + secTicks 60)
  let held := s.flag F.TET_STATUS_GUARDHOLD || decide (3 ≤ s.tripNoted.tripsInHour)
  let u := s.tripNoted.silenced near held
  let v := (u.event F.TET_EVENT_GUARD).bump R.TET_GUARDCNT 1
  have hPost : Touch State.post_cells v (s.guardTripped cause) := State.post_touch (.refl _ v) (Sub.refl _) _ _
  have hSilenced : Touch [R.TET_STATUS, 0x140a] s u :=
    (Touch.update (.refl _ s) (h_link := .inr (by decide)) : Touch _ s s.tripNoted).trans (s.tripNoted.silenced_shows near held).2.2
  have hCounted : Touch [R.TET_EVENT, R.TET_GUARDCNT] u v :=
    State.bump_touch (State.event_touch (.refl _ u) _ (.inl (by decide))) _ 1 (.inl (by decide))
  refine ⟨near, held, by simp [near], by rw [← s.tripNoted_tripsInHour], hPost.link (by decide), fun g hg => ?_, ?_, ?_⟩
  · rw [hPost.flag g (by rw [hg]; decide), hCounted.flag g (by rw [hg]; decide)]
  · have hEvent : Touch [R.TET_EVENT] u (u.event F.TET_EVENT_GUARD) := State.event_touch (.refl _ u) _ (.inl (by decide))
    rw [hPost.regN _ (by decide), ← hSilenced.regN R.TET_GUARDCNT (by decide), ← hEvent.regN R.TET_GUARDCNT (by decide)]
    exact State.regN_bump _ _ _
  · have hBump : Touch [R.TET_GUARDCNT] (u.event F.TET_EVENT_GUARD) v := State.bump_touch (.refl _ _) _ 1 (.inl (by decide))
    rw [hPost.flag _ (by decide), hBump.flag _ (by decide), State.event_flag _ _ (by decide)]

theorem guardTrip_gives (cause : Nat) (hs : s.live = true) (hMode : s.framesMode = true) : Gives (.guardTrip cause) s fun t =>
      t.flag F.TET_STATUS_SILENCED ∧
      (t.link.trips = (s.link.trips.filter fun d => decide (s.now < d + secTicks 3600)) ++ [s.now]) ∧
      (t.flag F.TET_STATUS_GUARDHOLD = (s.flag F.TET_STATUS_GUARDHOLD || decide (3 ≤ t.link.trips.length))) ∧
      (t.link.silenceDue = (if t.flag F.TET_STATUS_GUARDHOLD then none else some (s.now + secTicks (if ∃ d ∈
        s.link.trips, s.now < d + secTicks 60 then 60 else 1)))) ∧
      t.regN R.TET_GUARDCNT = min (s.regN R.TET_GUARDCNT + 1) 0xFFFF ∧ t.flag F.TET_EVENT_GUARD := by
  refine Gives.of_when (f := fun s => s.guardTripped cause) rfl (by simp [hs, hMode]) ?_
  obtain ⟨near, held, hNear, hHeld, hLink, hStatus, hCount, hEvent⟩ := s.guardTripped_eq cause
  obtain ⟨hSilenced, hHold, -⟩ := s.tripNoted.silenced_shows near held
  refine ⟨(hStatus _ rfl).trans hSilenced, by rw [hLink]; rfl, ?_, ?_, hCount, hEvent⟩
  · rw [hStatus _ rfl, hHold, hLink]
    exact hHeld
  · rw [hStatus _ rfl, hHold, hLink, ← if_congr hNear rfl rfl]
    rfl

theorem mem_pushLast (n : Nat) (l : List TxFrame) (x : TxFrame) (hn : 0 < n) : x ∈ pushLast n l x := by
  unfold pushLast
  dsimp only
  rw [List.drop_append_of_le_length (by rw [List.length_append, List.length_singleton]; omega)]
  exact List.mem_append_right _ List.mem_cons_self

/-- A frame the link built waits in the status slot (R232). -/
theorem State.postStatus_mem (f : Frame) (hMode : s.framesMode = true) : (⟨f, 0, s.now⟩ : TxFrame) ∈ (s.postStatus f).link.statusSlot := by
  unfold State.postStatus
  rw [if_pos hMode]
  exact mem_pushLast 2 _ _ (by decide)

theorem guardSilenceEnd_gives (hs : s.live = true) (hDue : s.elapsed s.link.silenceDue = true) : Gives .guardSilenceEnd s fun t =>
      t.flag F.TET_STATUS_SILENCED = false ∧ t.link.silenceDue = none ∧
      (s.framesMode → ∀ a ∈ s.ownAddr, (⟨⟨6, a, 3, [0x21, byte s.tripsInHour]⟩, 0, s.now⟩ : TxFrame) ∈
        t.link.statusSlot) ∧
      t.lgr = s.lgr ∧ s.regsKept t [R.TET_STATUS] := by
  refine Gives.of_when rfl (by simp [hs, hDue]) ?_
  let u := ({ s with link := { s.link with silenceDue := none } } : State).setFlag F.TET_STATUS_SILENCED false
  have hU : Touch [R.TET_STATUS, 0x140a] s u :=
    State.setFlag_touch (.update (.refl _ s) (h_link := .inr (by decide))) _ _ (.inl (by decide))
  have hFault := State.postFault_touch (.refl State.postFault_cells u) (Sub.refl _) 0x21 u.tripsInHour
  change (u.postFault _ _).flag _ = _ ∧ (u.postFault 0x21 u.tripsInHour).link.silenceDue = _ ∧
    (_ → ∀ a ∈ _, _ ∈ (u.postFault 0x21 u.tripsInHour).link.statusSlot) ∧ (u.postFault _ _).lgr = _ ∧ s.regsKept (u.postFault _ _) _
  refine ⟨(hFault.flag _ (by decide)).trans (State.flag_setFlag_same _ _ _ (by decide)), ?_, fun hMode a ha => ?_,
    (hFault.lgr (by decide)).trans (hU.lgr (by decide)), ?_⟩
  · unfold State.postFault State.postStatus
    split
    · split <;> rfl
    · rfl
  · have hOwn : u.ownAddr = some a := (hU.ownAddr (by decide)).trans ha
    have hMode' : u.framesMode = true := by
      rw [← hMode]
      exact congrArg (! ·) (State.flag_setFlag_ne _ _ _ _ (by decide))
    simp only [State.postFault, hOwn]
    exact u.postStatus_mem _ hMode'
  · intro a ha
    rw [State.reg, State.postFault_regs]
    exact (State.reg_setFlag _ _ _ _).trans (if_neg (by simpa using ha))

end

/-! ## O29 -/

/-- Settles O29: errors, the condition, the threshold and the guardian, a lemma for each command. -/
theorem linkHealth : Obligations.LinkHealth := by
  unfold Obligations.LinkHealth
  exact ⟨tetRxError_gives, tetRxError_none_gives, linkConditionChange_gives, tetThresholdReset_gives, guardTrip_gives,
    guardSilenceEnd_gives⟩

end Sys2Proof.Machine
end

section
/-!
SUPPORT. What the market does to the link (R232, R262, R274): it posts frames and reports a full queue, and nothing else.
-/

namespace Sys2Proof.Machine

/-- Of the link only the TX queue differs, and it only grew; link events that stood still stand. -/
structure LinkSends (s t : State) : Prop where
  events : LinkEventsStay s t
  link : ∃ l, t.link = { s.link with txq := s.link.txq ++ l }

theorem LinkSends.of_same {s t : State} (hEvents : LinkEventsStay s t) (hLink : t.link = s.link) : LinkSends s t :=
  ⟨hEvents, [], by simp [hLink]⟩

theorem LinkSends.refl (s : State) : LinkSends s s := .of_same (.refl s) rfl

/-- The later step first, which tells the state between. -/
theorem LinkSends.after {s t u : State} (h' : LinkSends t u) (h : LinkSends s t) : LinkSends s u := by
  obtain ⟨l, hl⟩ := h.link
  obtain ⟨l', hl'⟩ := h'.link
  exact ⟨h.events.trans h'.events, l ++ l', by rw [hl', hl]; simp⟩

theorem LinkSends.ite {s a b : State} {c : Prop} [Decidable c] (ha : LinkSends s a) (hb : LinkSends s b) :
    LinkSends s (if c then a else b) := by
  split
  · exact ha
  · exact hb

theorem LinkSends.foldl {α : Type} {f : State → α → State} (hf : ∀ s x, LinkSends s (f s x)) (l : List α) :
    ∀ s : State, LinkSends s (l.foldl f s) := by
  induction l with
  | nil => exact .refl
  | cons x l ih => exact fun s => (ih (f s x)).after (hf s x)

theorem Touch.linkSends {W : List Nat} {s t : State} (h : Touch W s t) (hW : R.TET_EVENT ∉ W ∧ 0x140a ∉ W ∧ 0x1430 ∉ W) :
    LinkSends s t := .of_same (h.linkEventsStay ⟨hW.1, hW.2.2⟩) (h.link hW.2.1)

section
variable (s : State)

theorem State.postTx_linkSends (cls sub : Nat) (data : List Byte) : LinkSends s (s.postTx cls sub data) := by
  have hFull : LinkSends s (s.event F.TET_EVENT_TX_FULL) := .of_same (s.event_linkEventsStay _ (by decide)) rfl
  unfold State.postTx
  split
  · exact .refl s
  · exact .ite (.refl s) (.ite ⟨fun _ _ h => h, _, rfl⟩ hFull)

theorem State.withMkt_linkSends (m : Mkt) : LinkSends s { s with mkt := m } := .of_same (fun _ _ h => h) rfl

theorem State.dropInbid_linkSends (a st : Nat) : LinkSends s (s.dropInbid a st) :=
  (State.dropInbid_touch (.refl State.dropInbid_cells s) (Sub.refl _) a st).linkSends (by decide)

theorem State.postMktWithdraw_linkSends (kind a : Nat) : LinkSends s (s.postMktWithdraw kind a) :=
  (State.postMktWithdraw_touch (.refl State.postMktWithdraw_cells s) (Sub.refl _) kind a).linkSends (by decide)

theorem State.stallBytes_linkSends (a i : Nat) (x : List Byte) : LinkSends s (s.stallBytes a i x) :=
  (State.stallBytes_touch (.refl State.stallBytes_cells s) (Sub.refl _) a i x).linkSends (by decide)

theorem State.setOffer_linkSends (pOff pFree : Nat) : LinkSends s (s.setOffer pOff pFree) :=
  (State.setOffer_touch (.refl State.setOffer_cells s) (Sub.refl _) pOff pFree).linkSends (by decide)

theorem State.setReg_linkSends (a : Nat) (v : Word) (ha : a ≠ R.TET_EVENT) : LinkSends s (s.setReg a v) :=
  .of_same (fun g hg h => by rw [State.flag, State.reg_setReg_ne _ _ _ (by rw [hg]; exact ha.symm)]; exact h) rfl

theorem State.sendBid_linkSends (x : OwnBid) : LinkSends s (s.sendBid x) :=
  (State.withMkt_linkSends _ _).after (s.postTx_linkSends _ _ _)

theorem State.sendOffer_linkSends : LinkSends s s.sendOffer := by
  have hRefused : Touch [R.MKT_EVENT] s (s.event F.MKT_EVENT_REFUSED) := State.event_touch (.refl _ s) _ (.inl (by decide))
  exact .ite (hRefused.linkSends (by decide))
    ((State.withMkt_linkSends _ _).after ((State.postTx_linkSends _ _ _ _).after (s.setOffer_linkSends _ _)))

theorem State.withdrawOffer_linkSends (kind : Nat) : LinkSends s (s.withdrawOffer kind) :=
  .ite (.refl s) <| (State.setReg_linkSends _ _ _ (by decide)).after <| (State.setReg_linkSends _ _ _ (by decide)).after <|
    (State.stallBytes_linkSends _ _ _ _).after <| (State.stallBytes_linkSends _ _ _ _).after <|
    (State.withMkt_linkSends _ _).after <| (LinkSends.foldl (fun s b => s.dropInbid_linkSends b _) _ _).after <|
    (State.postMktWithdraw_linkSends _ _ _).after (s.postTx_linkSends _ _ _)

theorem State.oldBidWithdraw_linkSends (a : Nat) : LinkSends s (s.oldBidWithdraw a) :=
  .ite ((State.stallBytes_linkSends _ _ _ _).after <| (State.postMktWithdraw_linkSends _ _ _).after (s.postTx_linkSends _ _ _))
    (.refl s)

theorem State.coldWithdraw_linkSends : LinkSends s s.coldWithdraw := by
  have hBids (t : State) : LinkSends t ((List.range 64).foldl State.oldBidWithdraw t) :=
    .foldl (fun t a => t.oldBidWithdraw_linkSends a) _ t
  have hOffer : LinkSends s (if s.offering && s.txFits 1 then
      (List.range 64).foldl (fun (t : State) (a : Nat) => t.dropInbid a stWithdrawn) (s.withdrawOffer 3) else s) :=
    .ite ((LinkSends.foldl (fun t a => t.dropInbid_linkSends a _) _ _).after (s.withdrawOffer_linkSends 3)) (.refl s)
  have hAll := (hBids _).after hOffer
  exact .ite hAll ((State.withMkt_linkSends _ _).after hAll)

theorem State.offerAgain_linkSends : LinkSends s s.offerAgain := by
  have hRaise (t : State) : LinkSends t t.raiseIsrc :=
    (State.raiseIsrc_touch (.refl State.raiseIsrc_cells t) (Sub.refl _)).linkSends (by decide)
  exact .ite (.ite ((hRaise _).after <| (State.sendOffer_linkSends _).after (s.withMkt_linkSends _)) (.refl s))
    (.ite (.refl s) (s.withMkt_linkSends _))

theorem State.marketRestart_linkSends : LinkSends s s.marketRestart := by
  have hBids (t : State) (c : Prop) [Decidable c] (l : List OwnBid) : LinkSends t (if c then l.foldl State.sendBid t else t) :=
    .ite (.foldl (fun t x => t.sendBid_linkSends x) l t) (.refl t)
  exact .ite (.refl s) (.ite s.coldWithdraw_linkSends (.ite (.ite
    ((State.offerAgain_linkSends _).after <| (hBids _ _ _).after (s.withMkt_linkSends _)) (.refl s)) s.offerAgain_linkSends))

/-! ## The firmware reads received frames (R233) -/

theorem State.firmwareFrame_linkSends (f : Frame) : LinkSends s (s.firmwareFrame f) := by
  have hMarket : LinkSends s (s.marketFrame f) :=
    (State.marketFrame_touch (.refl State.marketFrame_cells s) (Sub.refl _) f).linkSends (by decide)
  have hSafe : LinkSends s (s.peerSafe f.addr) :=
    (State.peerSafe_touch (.refl State.peerSafe_cells s) (Sub.refl _) f.addr).linkSends (by decide)
  have hOffer : LinkSends s (s.peerOfferEnd f.addr stWithdrawn) :=
    (State.peerOfferEnd_touch (.refl State.peerOfferEnd_cells s) (Sub.refl _) f.addr _).linkSends (by decide)
  unfold State.firmwareFrame
  dsimp only
  split
  · exact .ite hSafe (.ite hOffer (.refl s))
  · exact .ite hSafe (.refl s)
  · exact s.postTx_linkSends _ _ _
  · exact .ite hMarket (.refl s)

end

/-- The link without the frames that wait in its TX and RX queues. -/
def Link.unqueued (l : Link) : Link := { l with txq := [], rxq := [] }

/-- Of the link only its queues differ, and the TX queue only grew; link events that stood still stand. -/
structure LinkQueues (s t : State) : Prop where
  events : LinkEventsStay s t
  rest : t.link.unqueued = s.link.unqueued
  sends : s.link.txq <+: t.link.txq

theorem LinkSends.queues {s t : State} (h : LinkSends s t) : LinkQueues s t := by
  obtain ⟨l, hl⟩ := h.link
  exact ⟨h.events, by rw [hl]; rfl, by rw [hl]; exact List.prefix_append _ _⟩

theorem LinkQueues.refl (s : State) : LinkQueues s s := (LinkSends.refl s).queues

theorem LinkQueues.after {s t u : State} (h' : LinkQueues t u) (h : LinkQueues s t) : LinkQueues s u :=
  ⟨h.events.trans h'.events, h'.rest.trans h.rest, h.sends.trans h'.sends⟩

theorem LinkQueues.ite {s a b : State} {c : Prop} [Decidable c] (ha : LinkQueues s a) (hb : LinkQueues s b) :
    LinkQueues s (if c then a else b) := by
  split
  · exact ha
  · exact hb

theorem State.withRxq_linkQueues (s : State) (l : List Frame) : LinkQueues s { s with link := { s.link with rxq := l } } :=
  ⟨fun _ _ h => h, rfl, List.prefix_rfl⟩

/-- One waiting frame read, if the firmware reads. -/
def State.drainStep (s : State) (f : Frame) : State :=
  if s.reads then { s with link := { s.link with rxq := s.link.rxq.drop 1 } }.firmwareFrame f else s

theorem State.drainRx_eq (s : State) : s.drainRx = s.link.rxq.foldl State.drainStep s := rfl

theorem foldl_drainStep_linkQueues (l : List Frame) : ∀ s : State, LinkQueues s (l.foldl State.drainStep s) := by
  induction l with
  | nil => exact .refl
  | cons f l ih =>
    intro s
    exact (ih _).after (.ite ((State.firmwareFrame_linkSends _ f).queues.after (s.withRxq_linkQueues _)) (.refl s))

theorem State.marketFilter_linkSends (s : State) (f : Frame) : LinkSends s (s.marketFilter f) :=
  (State.marketFilter_touch (.refl State.marketFilter_cells s) (Sub.refl _) f).linkSends (by decide)

theorem State.rxEnter_linkQueues (s : State) (f : Frame) : LinkQueues s (s.rxEnter f) := by
  have hFull (t : State) : LinkSends t (((t.bump R.TET_ERRCNT5 1).event F.TET_EVENT_RXOVF).tally K.RXOVF) := by
    have hBump : Touch [R.TET_ERRCNT5] t (t.bump R.TET_ERRCNT5 1) := State.bump_touch (.refl _ t) _ _ (.inl (by decide))
    have hTally (u : State) : LinkSends u (u.tally K.RXOVF) :=
      (State.tally_touch (.refl State.tally_cells u) (Sub.refl _) _).linkSends (by decide)
    exact (hTally _).after (.after (.of_same (State.event_linkEventsStay _ _ (by decide)) rfl) (hBump.linkSends (by decide)))
  have hFilter := (s.marketFilter_linkSends f).queues
  exact .ite ((hFull _).queues.after hFilter) ((foldl_drainStep_linkQueues _ _).after ((State.withRxq_linkQueues _ _).after hFilter))

end Sys2Proof.Machine
end

section
/-!
SUPPORT. What accepting a frame does (R225, R235, R237, R248), and what of the link it leaves.
-/

namespace Sys2Proof.Machine

section
variable (s : State) (f : Frame) (x : Carrier)

/-- An accepted frame counted and its carrier noted, before its address is noted. -/
def State.frameCounted : State :=
  ((((s.bump R.TET_RXCNT 1).setRec (s.regN R.TET_REC - 1)).acceptCarrier x).stallCount f.addr 42 4).setStallFlag f.addr 0 true

theorem State.acceptFrame_eq : s.acceptFrame f x = ((s.frameCounted f x).noteHeard f).event F.TET_EVENT_RX := rfl

/-- What follows TET_REC in counting an accepted frame. -/
def carrierCells : List Nat := State.acceptCarrier_cells ++ State.stallCount_cells

theorem State.frameCounted_touch : Touch carrierCells ((s.bump R.TET_RXCNT 1).setRec (s.regN R.TET_REC - 1)) (s.frameCounted f x) :=
  State.setStallFlag_touch (State.stallCount_touch (State.acceptCarrier_touch (.refl _ _) (Sub.of rfl) x) (Sub.of rfl) _ _ _)
    (Sub.of rfl) _ _ _

theorem State.acceptFrame_tail_touch : Touch [R.TET_EVENT, 0x140a] (s.frameCounted f x) (s.acceptFrame f x) :=
  State.event_touch (State.noteHeard_touch (.refl _ _) (Sub.of rfl) f) _ (.inl (by decide))

/-- Below receive-passive no bit of TET_STATUS is another. -/
theorem State.setRec_flag (n : Nat) (g : Flag) (hReg : g.reg = R.TET_STATUS) (hOther : g ≠ F.TET_STATUS_RXPASSIVE) :
    (s.setRec n).flag g = s.flag g := by
  have hRec : (s.setReg R.TET_REC (BitVec.ofNat 16 (min n 255))).flag g = s.flag g :=
    State.flag_setReg_ne _ _ _ _ (by rw [hReg]; decide)
  have hSet (b : Bool) : ((s.setReg R.TET_REC (BitVec.ofNat 16 (min n 255))).setFlag F.TET_STATUS_RXPASSIVE b).flag g = s.flag g :=
    (State.flag_setFlag_ne _ _ _ _ ⟨by decide, hOther⟩).trans hRec
  unfold State.setRec
  dsimp only
  split
  · exact hSet _
  · split
    · exact hSet _
    · exact hRec

theorem State.frameCounted_flag (g : Flag) (hReg : g.reg = R.TET_STATUS) (hOther : g ≠ F.TET_STATUS_RXPASSIVE) :
    (s.frameCounted f x).flag g = s.flag g := by
  have hBump : (s.bump R.TET_RXCNT 1).flag g = s.flag g := State.flag_setReg_ne _ _ _ _ (by rw [hReg]; decide)
  rw [(s.frameCounted_touch f x).flag g (by rw [hReg]; decide), State.setRec_flag _ _ _ hReg hOther, hBump]

theorem State.acceptFrame_flag (g : Flag) (hReg : g.reg = R.TET_STATUS) (hOther : g ≠ F.TET_STATUS_RXPASSIVE) :
    (s.acceptFrame f x).flag g = s.flag g :=
  ((s.acceptFrame_tail_touch f x).flag g (by rw [hReg]; decide)).trans (s.frameCounted_flag f x g hReg hOther)

theorem State.frameCounted_link : (s.frameCounted f x).link =
    { s.link with carriers := (x :: s.link.carriers).take 16, acceptAt := s.now } := by
  have hRec : ((s.bump R.TET_RXCNT 1).setRec (s.regN R.TET_REC - 1)).link = s.link :=
    (State.setRec_touch (.refl State.setRec_cells _) (Sub.refl _) _).link (by decide)
  have hNow : ((s.bump R.TET_RXCNT 1).setRec (s.regN R.TET_REC - 1)).now = s.now :=
    (State.setRec_touch (.refl State.setRec_cells _) (Sub.refl _) _).now (by decide)
  have hCarrier (u : State) : (u.acceptCarrier x).link = { u.link with carriers := (x :: u.link.carriers).take 16, acceptAt := u.now } := rfl
  rw [State.frameCounted, (State.setStallFlag_touch (.refl State.setStallFlag_cells _) (Sub.refl _) _ _ _).link (by decide),
    (State.stallCount_touch (.refl State.stallCount_cells _) (Sub.refl _) _ _ _).link (by decide), hCarrier, hRec, hNow]

/-- The addresses heard in the listening window, after a frame (R248). -/
def State.heardNow : List Nat :=
  if s.flag F.TET_STATUS_LISTENWIN && !s.link.heard.contains f.addr then f.addr :: s.link.heard else s.link.heard

theorem State.mem_heardNow (h : s.flag F.TET_STATUS_LISTENWIN = true) : f.addr ∈ s.heardNow f := by
  unfold State.heardNow
  split
  · exact List.mem_cons_self
  · simp_all

theorem State.acceptFrame_link : (s.acceptFrame f x).link =
    { s.link with carriers := (x :: s.link.carriers).take 16, acceptAt := s.now, heard := s.heardNow f } := by
  have hWindow := s.frameCounted_flag f x F.TET_STATUS_LISTENWIN rfl (by decide)
  rw [State.acceptFrame_eq, State.event_link, State.noteHeard, State.heardNow, hWindow, s.frameCounted_link f x]
  split
  · rfl
  · exact s.frameCounted_link f x

theorem State.acceptFrame_rec : (s.acceptFrame f x).regN R.TET_REC = min (s.regN R.TET_REC - 1) 255 := by
  rw [(s.acceptFrame_tail_touch f x).regN _ (by decide), (s.frameCounted_touch f x).regN _ (by decide)]
  exact (State.setRec_shows _ _).1

theorem State.acceptFrame_rx : (s.acceptFrame f x).flag F.TET_EVENT_RX = true := State.event_flag _ _ (by decide)

theorem State.acceptFrame_self_touch : Touch State.acceptFrame_cells s (s.acceptFrame f x) :=
  State.acceptFrame_touch (.refl _ s) (Sub.refl _) f x

theorem State.framesMode_of_receives (h : s.receives = true) : s.framesMode = true := by
  simp only [State.receives, Bool.and_eq_true] at h
  obtain ⟨⟨-, hMode⟩, -⟩ := h
  exact hMode

theorem State.acceptFrame_framesMode : (s.acceptFrame f x).framesMode = s.framesMode :=
  congrArg (! ·) (s.acceptFrame_flag f x F.TET_STATUS_LEVEL rfl (by decide))

/-- The own status, as a HEARTBEAT tells it (R243), is none of what a frame changes. -/
theorem State.acceptFrame_heartbeatData : (s.acceptFrame f x).heartbeatData = s.heartbeatData := by
  have hTouch := s.acceptFrame_self_touch f x
  have hStatus := s.acceptFrame_flag f x
  have hTrips : (s.acceptFrame f x).tripsInHour = s.tripsInHour := by
    rw [State.tripsInHour, State.tripsInHour, s.acceptFrame_link f x, hTouch.now (by decide)]
  have hSafe : (s.acceptFrame f x).inSafe = s.inSafe := by
    rw [State.inSafe, State.inSafe, hTouch.field _ (by decide)]
  have hFault : (s.acceptFrame f x).faultCode = s.faultCode := by
    rw [State.faultCode, State.faultCode, hTouch.flag F.ALM_STATUS_DISCB (by decide), hTouch.conv (by decide),
      hStatus F.TET_STATUS_CONFLICT rfl (by decide), hTrips, s.acceptFrame_link f x, hSafe]
  rw [State.heartbeatData, State.heartbeatData, hTouch.flag F.SYS_STATE_ALARM (by decide), hTouch.flag F.SYS_STATE_PROOF (by decide), hSafe,
    hTouch.flag F.SYS_STATE_FEED (by decide), hTouch.field F.CONV_STATUS_TET_MODE (by decide),
    hStatus F.TET_STATUS_RESTRAINED rfl (by decide), hTouch.autoAddr (by decide), hFault,
    hTouch.field F.VDT_STATUS_RESERVE (by decide), hTouch.field F.VDT_STATUS_LIFE (by decide), hTouch.flag F.VDT_STATUS_CELL (by decide),
    hTouch.boot (by decide), hTouch.part]

end

end Sys2Proof.Machine
end

section
/-!
SUPPORT. Choosing, claiming, holding and yielding an address (R248 to R252), and O31.
-/

namespace Sys2Proof.Machine

section
variable (s : State)

/-! ## A candidate (R248, R249) -/

theorem State.freeAddr_unheard {a : Nat} (h : s.freeAddr = some a) : a < 64 ∧ a ∉ s.link.heard := by
  obtain ⟨k, -, rfl⟩ := List.mem_map.mp (List.mem_of_find?_eq_some h)
  have hFree := List.find?_some h
  exact ⟨Nat.mod_lt _ (by decide), by simpa using hFree⟩

/-- What a choice leaves of the link. -/
theorem State.chooseCand_link (how : Nat) : (s.chooseCand how).link.cand = s.freeAddr ∧ (s.chooseCand how).link.heard = s.link.heard ∧
    (s.chooseCand how).link.listenDue = s.link.listenDue := by
  have hRetarget (u : State) : u.retarget.link.cand = u.link.cand ∧ u.retarget.link.heard = u.link.heard ∧
      u.retarget.link.listenDue = u.link.listenDue := by
    unfold State.retarget
    dsimp only
    split <;> exact ⟨rfl, rfl, rfl⟩
  have hClaim (u : State) (a : Nat) : (u.postClaim a).link.cand = u.link.cand ∧ (u.postClaim a).link.heard = u.link.heard ∧
      (u.postClaim a).link.listenDue = u.link.listenDue := by
    unfold State.postClaim State.postStatus
    dsimp only
    split <;> exact ⟨rfl, rfl, rfl⟩
  unfold State.chooseCand
  split
  next a hFree =>
    obtain ⟨hCand, hHeard, hListen⟩ := hClaim _ a
    obtain ⟨hCand', hHeard', hListen'⟩ := hRetarget
      (({ s with link := { s.link with cand := some a, how := how } }).setField F.TET_ADDR_ADDR a)
    exact ⟨hCand.trans (hCand'.trans hFree.symm), hHeard.trans hHeard', hListen.trans hListen'⟩
  next hFree =>
    obtain ⟨hCand, hHeard, hListen⟩ := hRetarget
      { s with link := { s.link with cand := none, relistenDue := s.timer (secTicks 600) } }
    rw [(State.post_touch (.refl State.post_cells _) (Sub.refl _) _ _).link (by decide)]
    exact ⟨hCand.trans hFree.symm, hHeard, hListen⟩

theorem State.chooseCand_claims (how : Nat) {a : Nat} (hFree : s.freeAddr = some a) (hMode : s.framesMode = true) :
    (⟨⟨6, a, 2, beBytes 8 Config.wbUid.toNat⟩, 0, s.now⟩ : TxFrame) ∈ (s.chooseCand how).link.statusSlot := by
  have hChosen : s.chooseCand how = (({ s with link := { s.link with cand := some a, how := how } }).setField
      F.TET_ADDR_ADDR a).retarget.postClaim a := by
    unfold State.chooseCand
    rw [hFree]
  have hTouch : Touch [R.TET_ADDR, 0x140a] s (({ s with link := { s.link with cand := some a, how := how } }).setField
      F.TET_ADDR_ADDR a).retarget :=
    State.retarget_touch (State.setField_touch (Touch.update (.refl _ s) (h_link := .inr (by decide))) _ _ (.inl (by decide)))
      (Sub.of rfl)
  have hUnclaimed (u : State) : Touch [R.TET_ADDR, 0x140a] u { u with link := { u.link with claimAt := none } } :=
    Touch.update (.refl _ u) (h_link := .inr (by decide))
  have hAll := hTouch.trans (hUnclaimed _)
  have hPosted := State.postStatus_mem _ ⟨6, a, 2, beBytes 8 Config.wbUid.toNat⟩
    ((congrArg (! ·) (hAll.flag F.TET_STATUS_LEVEL (by decide))).trans hMode)
  rw [hAll.now (by decide)] at hPosted
  rw [hChosen]
  exact hPosted

theorem State.chooseCand_waits (how : Nat) (hNone : s.freeAddr = none) :
    (s.chooseCand how).link.relistenDue = some (s.now + secTicks 600) ∧
    (s.roomFor K.ADDR_FULL → (s.chooseCand how).holds K.ADDR_FULL []) := by
  have hChosen : s.chooseCand how = ({ s with link := { s.link with cand := none, relistenDue := s.timer (secTicks 600) } }).retarget.post
      K.ADDR_FULL [] := by
    unfold State.chooseCand
    rw [hNone]
  have hDue (u : State) : u.retarget.link.relistenDue = u.link.relistenDue := by
    unfold State.retarget
    dsimp only
    split <;> rfl
  have hTouch : Touch [0x140a] s ({ s with link := { s.link with cand := none, relistenDue := s.timer (secTicks 600) } }).retarget :=
    State.retarget_touch (Touch.update (.refl _ s) (h_link := .inr (by decide))) (Sub.of rfl)
  rw [hChosen]
  constructor
  · rw [(State.post_touch (.refl State.post_cells _) (Sub.refl _) _ _).link (by decide)]
    exact hDue _
  · exact fun hRoom => State.post_holds _ _ _ ((hTouch.sameIntake (by decide)).roomFor hRoom)

/-- An address that was heard is not the own one after a choice, if it was not before. -/
theorem State.chooseCand_ownAddr (how : Nat) {a : Nat} (hOwn : s.ownAddr ≠ some a) (hHeard : a ∈ s.link.heard) :
    (s.chooseCand how).ownAddr ≠ some a := by
  unfold State.chooseCand
  split
  next b hFree =>
    obtain ⟨hSmall, hUnheard⟩ := s.freeAddr_unheard hFree
    have hClaimed (u : State) : Touch [0x140a] u (u.retarget.postClaim b) :=
      State.postClaim_touch (State.retarget_touch (.refl _ u) (Sub.of rfl)) (Sub.of rfl) b
    rw [(hClaimed _).ownAddr (by decide), State.ownAddr, State.field_setField _ _ _ (by decide)]
    split
    · have hMod : b % 2 ^ F.TET_ADDR_ADDR.width = b := Nat.mod_eq_of_lt hSmall
      rw [hMod]
      rintro ⟨⟩
      exact hUnheard hHeard
    · simp
  next =>
    have hFull (u : State) : (u.retarget.post K.ADDR_FULL []).ownAddr = u.ownAddr :=
      (State.post_touch (State.retarget_touch (.refl (0x140a :: State.post_cells) u) (Sub.of rfl)) (Sub.of rfl) _ _).ownAddr (by decide)
    rw [hFull]
    exact hOwn

theorem addrListenEnd_gives (hs : s.live = true) (hDue : s.elapsed s.link.listenDue = true) : Gives .addrListenEnd s fun t =>
      t.flag F.TET_STATUS_LISTENWIN = false ∧ t.link.listenDue = none ∧ t.link.cand = s.freeAddr ∧
      (s.freeAddr = none → t.link.relistenDue = some (s.now + secTicks 600) ∧ (s.roomFor K.ADDR_FULL → t.holds
        K.ADDR_FULL [])) ∧
      (s.framesMode → ∀ a ∈ s.freeAddr, (⟨⟨6, a, 2, beBytes 8 Config.wbUid.toNat⟩, 0, s.now⟩ : TxFrame) ∈
        t.link.statusSlot) := by
  refine Gives.of_when (f := fun s => ({ s with link := { s.link with listenDue := none } }.setFlag F.TET_STATUS_LISTENWIN
    false).chooseCand 1) rfl (by simp [hs, hDue]) ?_
  generalize hU : { s with link := { s.link with listenDue := none } }.setFlag F.TET_STATUS_LISTENWIN false = u
  have hTouch : Touch [R.TET_STATUS, 0x140a] s u := hU ▸
    State.setFlag_touch (Touch.update (.refl _ s) (h_link := .inr (by decide))) _ _ (.inl (by decide))
  have hFree : u.freeAddr = s.freeAddr := by
    subst hU
    rfl
  have hListen : u.link.listenDue = none := by
    subst hU
    rfl
  have hClosed : u.flag F.TET_STATUS_LISTENWIN = false := by
    subst hU
    exact State.flag_setFlag_same _ _ _ (by decide)
  have hMode : u.framesMode = s.framesMode := by
    subst hU
    exact congrArg (! ·) (State.flag_setFlag_ne _ _ _ _ (by decide))
  have hNow : u.now = s.now := hTouch.now (by decide)
  obtain ⟨hCand, -, hDue'⟩ := u.chooseCand_link 1
  have hChoose : Touch State.chooseCand_cells u (u.chooseCand 1) := State.chooseCand_touch (.refl _ u) (Sub.refl _) 1
  refine ⟨(hChoose.flag _ (by decide)).trans hClosed, hDue'.trans hListen, hCand.trans hFree, fun hNone => ?_,
    fun hFrames a ha => ?_⟩
  · obtain ⟨hRelisten, hHolds⟩ := u.chooseCand_waits 1 (hFree.trans hNone)
    rw [hNow] at hRelisten
    exact ⟨hRelisten, fun hRoom => hHolds ((hTouch.sameIntake (by decide)).roomFor hRoom)⟩
  · have hClaim := u.chooseCand_claims 1 (hFree.trans ha) (hMode.trans hFrames)
    rwa [hNow] at hClaim

/-! ## Held (R250) -/

/-- The address shown and held. -/
def State.addrShown (a : Nat) : State := (s.setField F.TET_ADDR_ADDR a).setHeld true

theorem State.addrShown_ownAddr {a : Nat} (hSmall : a < 64) : (s.addrShown a).ownAddr = some a := by
  have hAddr : a % 2 ^ F.TET_ADDR_ADDR.width = a := Nat.mod_eq_of_lt hSmall
  rw [State.ownAddr, State.addrShown, State.setHeld, State.flag_setFlag_ne _ _ _ _ (by decide),
    State.flag_setFlag_same _ _ _ (by decide), State.field_setFlag_ne _ _ _ _ (by decide) (by decide),
    State.field_setFlag_ne _ _ _ _ (by decide) (by decide), State.field_setField _ _ _ (by decide), hAddr, if_pos rfl]

/-- No claim left, and the address remembered. -/
def State.claimDone (a : Nat) : State :=
  { s with link := { s.link with prevAddr := some a, cand := none, claimAt := none } }

/-- Between the two, the Stall table follows the own address (R250, R280). -/
theorem State.holdAddr_eq (a : Nat) : ∃ x : State, Touch State.stallBytes_cells (s.addrShown a) x ∧
    s.holdAddr a = (x.claimDone a).retarget := by
  unfold State.holdAddr
  extract_lets u gens v w x
  have hUnmarked : Touch State.stallBytes_cells u v := by
    unfold v
    split
    · exact .ite (.refl _ u) (State.setStallFlag_touch (.refl _ u) (Sub.of rfl) _ _ _)
    · exact .refl _ u
  have hTaken : Touch State.stallBytes_cells u w := by
    unfold w
    cases gens with
    | some g => exact State.stallBytes_touch (State.stallBytes_touch hUnmarked (Sub.refl _) _ _ _) (Sub.refl _) _ _ _
    | none => exact hUnmarked
  exact ⟨x, State.setStallFlag_touch (State.setStallFlag_touch hTaken (Sub.of rfl) _ _ _) (Sub.of rfl) _ _ _, rfl⟩

/-- What holding an address shows, and what it leaves of the claim. -/
theorem State.holdAddr_shows {a : Nat} (hSmall : a < 64) : (s.holdAddr a).ownAddr = some a ∧
    (s.holdAddr a).flag F.TET_STATUS_HELD = true ∧ (s.holdAddr a).link.cand = none ∧ (s.holdAddr a).link.claimAt = none ∧
    (s.holdAddr a).link.prevAddr = some a := by
  have hRetarget (u : State) : u.retarget.link.cand = u.link.cand ∧ u.retarget.link.claimAt = u.link.claimAt ∧
      u.retarget.link.prevAddr = u.link.prevAddr := by
    unfold State.retarget
    dsimp only
    split <;> exact ⟨rfl, rfl, rfl⟩
  obtain ⟨x, hMoved, hEq⟩ := s.holdAddr_eq a
  have hAll : Touch (0x140a :: State.stallBytes_cells) (s.addrShown a) (x.claimDone a).retarget :=
    State.retarget_touch (Touch.update (hMoved.mono (Sub.of rfl)) (h_link := .inr (by decide))) (Sub.of rfl)
  rw [hEq]
  exact ⟨(hAll.ownAddr (by decide)).trans (s.addrShown_ownAddr hSmall),
    (hAll.flag _ (by decide)).trans (State.flag_setFlag_same _ _ _ (by decide)), hRetarget _⟩

/-- The rest of the link that a claim lives in. -/
def Link.claim (l : Link) : Option Nat × Option Nat × Option Nat := (l.cand, l.claimAt, l.prevAddr)

theorem LinkSends.claim {s t : State} (h : LinkSends s t) : t.link.claim = s.link.claim := by
  obtain ⟨l, hl⟩ := h.link
  rw [hl]
  rfl

theorem State.hbMark_claim : s.hbMark.link.claim = s.link.claim := by
  unfold State.hbMark
  split
  · split <;> rfl
  · rfl

theorem State.postCensus_claim : LinkEventsStay s s.postCensus ∧ s.postCensus.link.claim = s.link.claim := by
  have hPost := s.postTx_linkSends 6 2 []
  have hMark (t : State) : LinkEventsStay t { t with link := { t.link with censusAt := some s.now } } := fun _ _ h => h
  unfold State.postCensus
  extract_lets recent t
  split
  · exact ⟨.refl s, rfl⟩
  · split
    · exact ⟨hPost.events, hPost.claim⟩
    · exact ⟨hPost.events.trans (hMark _), hPost.claim⟩

theorem State.censusStart_claim : LinkEventsStay s s.censusStart ∧ s.censusStart.link.claim = s.link.claim := by
  have hWanted : LinkEventsStay s { s with link := { s.link with censusWanted := false } } := fun _ _ h => h
  unfold State.censusStart
  split
  · dsimp only
    split
    · obtain ⟨hEvents, hClaim⟩ := State.postCensus_claim { s with link := { s.link with censusWanted := false } }
      exact ⟨hWanted.trans hEvents, hClaim⟩
    · exact ⟨hWanted, rfl⟩
  · exact ⟨.refl s, rfl⟩

/-- The held address stored, and the change told of (R250). -/
def State.heldTold (a : Nat) (v : Verify) (old how : Nat) : State :=
  (((s.storeTetAddr (some a)).verified v 2 fun _ => 69).event F.TET_EVENT_ADDR_CHG).post K.ADDR_CHG [byte old, byte a, byte how]

theorem State.candHeld_eq (a : Nat) (v : Verify) : s.candHeld a v =
    ((((s.holdAddr a).heldTold a v (s.link.prevAddr.getD 0xFF) s.link.how).hbMark).censusStart).marketRestart := rfl

theorem State.heldTold_touch (a : Nat) (v : Verify) (old how : Nat) :
    Touch (R.TET_EVENT :: State.verified_cells) s (s.heldTold a v old how) :=
  State.post_touch (State.event_touch (State.verified_touch (State.storeTetAddr_touch (.refl _ s) (Sub.of rfl) _) (Sub.of rfl) _ _ _)
    _ (.inl (by decide))) (Sub.of rfl) _ _

theorem State.heldTold_addrChg (a : Nat) (v : Verify) (old how : Nat) :
    (s.heldTold a v old how).flag F.TET_EVENT_ADDR_CHG = true :=
  ((State.post_touch (.refl State.post_cells _) (Sub.refl _) _ _).flag _ (by decide)).trans (State.event_flag _ _ (by decide))

def candRestCells : List Nat := State.hbMark_cells ++ State.censusStart_cells ++ State.marketRestart_cells

theorem addrHold_gives (v : Verify) (a d : Nat) (hs : s.live = true) (hAt : s.link.claimAt = some d) (hDue : d + secTicks 2 ≤ s.now)
    (hCand : s.link.cand = some a) (hSmall : a < 64) : Gives (.addrHold v) s fun t =>
      t.ownAddr = some a ∧ t.link.cand = none ∧ t.link.claimAt = none ∧ t.link.prevAddr = some a ∧
      t.flag F.TET_EVENT_ADDR_CHG ∧ t.flag F.TET_STATUS_HELD := by
  refine Gives.of_when rfl (by simp [hs, hAt, hDue, State.elapsed]) ?_
  simp only [hCand, State.candHeld_eq]
  generalize hU : (s.holdAddr a).heldTold a v (s.link.prevAddr.getD 0xFF) s.link.how = u
  have hTold : Touch (R.TET_EVENT :: State.verified_cells) (s.holdAddr a) u := hU ▸ State.heldTold_touch _ _ _ _ _
  have hRest : Touch candRestCells u u.hbMark.censusStart.marketRestart :=
    State.marketRestart_touch (State.censusStart_touch (State.hbMark_touch (.refl _ u) (Sub.of rfl)) (Sub.of rfl)) (Sub.of rfl)
  obtain ⟨hOwn, hHeld, hShown⟩ := s.holdAddr_shows hSmall
  obtain ⟨hEvents, hClaim⟩ := u.hbMark.censusStart_claim
  have hRestart := u.hbMark.censusStart.marketRestart_linkSends
  have hMark : LinkEventsStay u u.hbMark := (State.hbMark_touch (.refl State.hbMark_cells u) (Sub.refl _)).linkEventsStay (by decide)
  have hAllClaim : u.hbMark.censusStart.marketRestart.link.claim = (none, none, some a) := by
    rw [hRestart.claim, hClaim, State.hbMark_claim, hTold.link (by decide)]
    obtain ⟨hCand', hClaimAt, hPrev⟩ := hShown
    rw [Link.claim, hCand', hClaimAt, hPrev]
  simp only [Link.claim, Prod.mk.injEq] at hAllClaim
  obtain ⟨hCand', hClaimAt, hPrev⟩ := hAllClaim
  refine ⟨(hRest.ownAddr (by decide)).trans ((hTold.ownAddr (by decide)).trans hOwn), hCand', hClaimAt, hPrev, ?_,
    (hRest.flag _ (by decide)).trans ((hTold.flag _ (by decide)).trans hHeld)⟩
  have hChanged : u.flag F.TET_EVENT_ADDR_CHG = true := hU ▸ State.heldTold_addrChg _ _ _ _ _
  exact ((hMark.trans hEvents).trans hRestart.events) _ rfl hChanged

/-! ## Another unit claims an address (R251) -/

/-- A yielded address is marked as taken, and is neither the own one nor the candidate. -/
theorem State.yieldAddr_leaves (a : Nat) : a ∈ (s.yieldAddr a).link.heard ∧ (s.yieldAddr a).ownAddr ≠ some a ∧
    (s.yieldAddr a).link.cand ≠ some a := by
  unfold State.yieldAddr
  dsimp only
  generalize hU : (if s.ownAddr = some a then { s with link := { s.link with prevAddr := some a } }.setHeld false else s) = u
  have hOwn : u.ownAddr ≠ some a := by
    subst hU
    split
    · have hReleased (v : State) : (v.setHeld false).flag F.TET_ADDR_HELD = false := by
        rw [State.setHeld, State.flag_setFlag_ne _ _ _ _ (by decide), State.flag_setFlag_same _ _ _ (by decide)]
      simp [State.ownAddr, hReleased]
    · assumption
  generalize hV : { u with link := { u.link with heard := a :: u.link.heard, cand := none, claimAt := none, statusSlot := [] } } = v
  have hTaken : a ∈ v.link.heard := by
    subst hV
    exact List.mem_cons_self
  have hOwn' : v.ownAddr ≠ some a := by
    subst hV
    exact hOwn
  obtain ⟨hCand, hHeard, -⟩ := v.chooseCand_link 2
  refine ⟨hHeard ▸ hTaken, v.chooseCand_ownAddr 2 hOwn' hTaken, fun h => ?_⟩
  exact (v.freeAddr_unheard (hCand.symm.trans h)).2 hTaken

/-- The link keeps all but the frames to send about itself. -/
theorem State.postStatus_keeps (f : Frame) : (s.postStatus f).ownAddr = s.ownAddr ∧ (s.postStatus f).link.cand = s.link.cand ∧
    (s.postStatus f).link.heard = s.link.heard := by
  refine ⟨by rw [State.ownAddr, State.flag, State.field, State.reg, s.postStatus_regs f]; rfl, s.postStatus_cand f, ?_⟩
  unfold State.postStatus
  split <;> rfl

theorem State.postHeartbeat_keeps : s.postHeartbeat.ownAddr = s.ownAddr ∧ s.postHeartbeat.link.cand = s.link.cand ∧
    s.postHeartbeat.link.heard = s.link.heard := by
  unfold State.postHeartbeat
  split
  · exact s.postStatus_keeps _
  · exact ⟨rfl, rfl, rfl⟩

variable (addr : Nat) (uid : Nat)

theorem State.claimHeard_yields (hAuto : s.autoAddr = true) (hMine : s.ownAddr = some addr ∨ s.link.cand = some addr)
    (hSmaller : uid < Config.wbUid.toNat) : s.claimHeard addr uid = s.yieldAddr addr := by
  simp only [State.claimHeard, hAuto, hMine, hSmaller, if_true, Bool.or_eq_true, decide_eq_true_eq]

/-- Whether the own CLAIM was sent within the last second. -/
def State.claimRecent : Bool :=
  match s.link.claimSent with
  | some t => decide (s.now < t + secTicks 1)
  | none => false

theorem State.claimHeard_answers (hAuto : s.autoAddr = true) (hMine : s.ownAddr = some addr ∨ s.link.cand = some addr)
    (hNotSmaller : Config.wbUid.toNat ≤ uid) : s.claimHeard addr uid =
      if Config.wbUid.toNat < uid && !s.claimRecent then s.postStatus ⟨6, addr, 2, beBytes 8 Config.wbUid.toNat⟩ else s := by
  simp only [State.claimHeard, hAuto, hMine, Nat.not_lt.mpr hNotSmaller, if_true, if_false, Bool.or_eq_true, decide_eq_true_eq]
  rfl

theorem State.claimHeard_others (hAuto : s.autoAddr = true) (hMine : ¬(s.ownAddr = some addr ∨ s.link.cand = some addr)) :
    s.claimHeard addr uid = s := by
  simp only [State.claimHeard, hAuto, hMine, if_true, if_false, Bool.or_eq_true, decide_eq_true_eq]

theorem State.claimHeard_fixed (hAuto : s.autoAddr = false) :
    s.claimHeard addr uid = if s.ownAddr = some addr then s.postHeartbeat else s := by
  simp only [State.claimHeard, hAuto, if_false, Bool.false_eq_true]

theorem State.claimHeard_keeps (h : s.autoAddr = false ∨ (s.ownAddr ≠ some addr ∧ s.link.cand ≠ some addr) ∨ Config.wbUid.toNat ≤ uid) :
    (s.claimHeard addr uid).ownAddr = s.ownAddr ∧ (s.claimHeard addr uid).link.cand = s.link.cand ∧
      (s.claimHeard addr uid).link.heard = s.link.heard := by
  cases hAuto : s.autoAddr with
  | false =>
    rw [s.claimHeard_fixed addr uid hAuto]
    split
    · exact s.postHeartbeat_keeps
    · exact ⟨rfl, rfl, rfl⟩
  | true =>
    by_cases hMine : s.ownAddr = some addr ∨ s.link.cand = some addr
    · have hNotSmaller : Config.wbUid.toNat ≤ uid := by
        rcases h with h | ⟨hOwn, hCand⟩ | h
        · exact absurd (hAuto.symm.trans h) (by decide)
        · exact absurd hMine (by simp [hOwn, hCand])
        · exact h
      rw [s.claimHeard_answers addr uid hAuto hMine hNotSmaller]
      split
      · exact s.postStatus_keeps _
      · exact ⟨rfl, rfl, rfl⟩
    · rw [s.claimHeard_others addr uid hAuto hMine]
      exact ⟨rfl, rfl, rfl⟩

theorem State.claimRecent_iff : s.claimRecent = true ↔ ∃ d ∈ s.link.claimSent, s.now < d + secTicks 1 := by
  unfold State.claimRecent
  cases s.link.claimSent <;> simp

/-- A claim answered at an address of one's own stands to be sent. -/
theorem State.postHeartbeat_mem {a : Nat} (hOwn : s.ownAddr = some a) (hMode : s.framesMode = true) :
    (⟨⟨6, a, 1, s.heartbeatData⟩, 0, s.now⟩ : TxFrame) ∈ s.postHeartbeat.link.statusSlot := by
  unfold State.postHeartbeat
  rw [hOwn]
  exact s.postStatus_mem _ hMode

end

/-- What the queues do not hold of a link. -/
theorem LinkQueues.keeps {s t : State} (h : LinkQueues s t) : t.link.cand = s.link.cand ∧ t.link.heard = s.link.heard ∧
    t.link.statusSlot = s.link.statusSlot :=
  ⟨(congrArg Link.cand h.rest :), (congrArg Link.heard h.rest :), (congrArg Link.statusSlot h.rest :)⟩

section
variable (s : State) (addr : Nat) (uid : BitVec 64) (x : Carrier)

/-- A received CLAIM, counted. -/
def State.claimAccepted : State := s.acceptFrame ⟨6, addr, 2, beBytes 8 uid.toNat⟩ x

/-- Nothing of what a claim is judged by changes when it is counted. -/
theorem State.claimAccepted_same : (s.claimAccepted addr uid x).ownAddr = s.ownAddr ∧ (s.claimAccepted addr uid x).autoAddr = s.autoAddr ∧
    (s.claimAccepted addr uid x).link.cand = s.link.cand ∧ (s.claimAccepted addr uid x).link.statusSlot = s.link.statusSlot ∧
    (s.claimAccepted addr uid x).now = s.now ∧ (s.claimAccepted addr uid x).claimRecent = s.claimRecent := by
  have hTouch := s.acceptFrame_self_touch ⟨6, addr, 2, beBytes 8 uid.toNat⟩ x
  have hLink := s.acceptFrame_link ⟨6, addr, 2, beBytes 8 uid.toNat⟩ x
  have hNow := hTouch.now (by decide)
  refine ⟨hTouch.ownAddr (by decide), hTouch.autoAddr (by decide), by rw [State.claimAccepted, hLink], by rw [State.claimAccepted, hLink],
    hNow, ?_⟩
  rw [State.claimAccepted, State.claimRecent, State.claimRecent, hLink, hNow]

theorem claimRx_gives (hr : s.receives = true) : Gives (.claimRx addr uid x) s fun t =>
      (s.autoAddr → s.ownAddr = some addr ∨ s.link.cand = some addr → uid.toNat < Config.wbUid.toNat → addr ∈
        t.link.heard ∧ t.ownAddr ≠ some addr ∧ t.link.cand ≠ some addr) ∧
      (s.autoAddr = false ∨ (s.ownAddr ≠ some addr ∧ s.link.cand ≠ some addr) ∨ Config.wbUid.toNat ≤ uid.toNat →
        t.ownAddr = s.ownAddr ∧ t.link.cand = s.link.cand) ∧
      (s.autoAddr → s.ownAddr = some addr ∨ s.link.cand = some addr → Config.wbUid.toNat < uid.toNat → (∀ d ∈
        s.link.claimSent, d + secTicks 1 ≤ s.now) → (⟨⟨6, addr, 2, beBytes 8 Config.wbUid.toNat⟩, 0, s.now⟩ : TxFrame) ∈
        t.link.statusSlot) ∧
      (s.autoAddr → Config.wbUid.toNat < uid.toNat → (∃ d ∈ s.link.claimSent, s.now < d + secTicks 1) →
        t.link.statusSlot = s.link.statusSlot) ∧
      (s.autoAddr = false → s.ownAddr = some addr → (⟨⟨6, addr, 1, s.heartbeatData⟩, 0, s.now⟩ : TxFrame) ∈
        t.link.statusSlot) ∧
      (s.ownAddr ≠ some addr → s.link.cand ≠ some addr → s.flag F.TET_STATUS_LISTENWIN → addr ∈ t.link.heard) := by
  refine Gives.of_when (f := fun s => ((s.claimAccepted addr uid x).claimHeard addr uid.toNat).rxEnter
    ⟨6, addr, 2, beBytes 8 uid.toNat⟩) rfl hr ?_
  have hMode : (s.claimAccepted addr uid x).framesMode = true := (s.acceptFrame_framesMode _ x).trans (s.framesMode_of_receives hr)
  have hBeat : (s.claimAccepted addr uid x).heartbeatData = s.heartbeatData := s.acceptFrame_heartbeatData _ x
  have hHeardNow : (s.claimAccepted addr uid x).link.heard = s.heardNow ⟨6, addr, 2, beBytes 8 uid.toNat⟩ := by
    rw [State.claimAccepted, s.acceptFrame_link]
  obtain ⟨hOwn, hAuto, hCand, hSlot, hNow, hRecent⟩ := s.claimAccepted_same addr uid x
  generalize s.claimAccepted addr uid x = u at *
  obtain ⟨hCand', hHeard', hSlot'⟩ := (State.rxEnter_linkQueues (u.claimHeard addr uid.toNat) ⟨6, addr, 2, beBytes 8 uid.toNat⟩).keeps
  have hOwn' : ((u.claimHeard addr uid.toNat).rxEnter ⟨6, addr, 2, beBytes 8 uid.toNat⟩).ownAddr = (u.claimHeard addr uid.toNat).ownAddr :=
    (State.rxEnter_touch (.refl State.rxEnter_cells _) (Sub.refl _) _).ownAddr (by decide)
  rw [hOwn', hCand', hHeard', hSlot', ← hOwn, ← hAuto, ← hCand, ← hSlot, ← hBeat]
  refine ⟨fun hA hMine hSmaller => ?_, fun hKeep => ?_, fun hA hMine hLarger hLast => ?_, fun hA hLarger hLast => ?_,
    fun hA hMine => ?_, fun hNotOwn hNotCand hWindow => ?_⟩
  · rw [u.claimHeard_yields addr _ hA hMine hSmaller]
    exact u.yieldAddr_leaves addr
  · obtain ⟨hOwnKept, hCandKept, -⟩ := u.claimHeard_keeps addr _ hKeep
    exact ⟨hOwnKept, hCandKept⟩
  · have hNotRecent : u.claimRecent = false := by
      rw [hRecent, Bool.eq_false_iff, ne_eq, s.claimRecent_iff]
      rintro ⟨d, hd, hSince⟩
      exact absurd (hLast d hd) (Nat.not_le.mpr hSince)
    rw [u.claimHeard_answers addr _ hA hMine hLarger.le, if_pos (by simp [hLarger, hNotRecent]), ← hNow]
    exact u.postStatus_mem _ hMode
  · have hIsRecent : u.claimRecent = true := hRecent.trans (s.claimRecent_iff.mpr hLast)
    by_cases hMine : u.ownAddr = some addr ∨ u.link.cand = some addr
    · rw [u.claimHeard_answers addr _ hA hMine hLarger.le, if_neg (by simp [hIsRecent])]
    · rw [u.claimHeard_others addr _ hA hMine]
  · rw [u.claimHeard_fixed addr _ hA, if_pos hMine, ← hNow]
    exact u.postHeartbeat_mem hMine hMode
  · obtain ⟨-, -, hHeardKept⟩ := u.claimHeard_keeps addr uid.toNat (.inr (.inl ⟨hNotOwn, hNotCand⟩))
    rw [hHeardKept, hHeardNow]
    exact s.mem_heardNow ⟨6, addr, 2, beBytes 8 uid.toNat⟩ hWindow

end

theorem addrRelisten_gives (s : State) (hs : s.live = true) (hDue : s.elapsed s.link.relistenDue = true) : Gives .addrRelisten s fun t =>
      t.flag F.TET_STATUS_LISTENWIN ∧ t.link.relistenDue = none ∧ t.link.heard = [] ∧
      t.link.listenDue = some (s.now + secTicks 35) ∧ t.lgr = s.lgr ∧ s.regsKept t [R.TET_STATUS] := by
  refine Gives.of_when (f := State.startListening) rfl (by simp [hs, hDue]) ?_
  refine ⟨State.flag_setFlag_same _ _ _ (by decide), rfl, rfl, rfl, rfl, fun a ha => ?_⟩
  rw [State.startListening, State.reg_setFlag, if_neg (by simpa using ha)]
  rfl

/-- Settles O31. A choice takes an unheard address (`State.freeAddr_unheard`), so an address marked as taken is never chosen; what the
firmware then reads out of the RX queue leaves the claim alone (`LinkQueues.keeps`). -/
theorem addressAssignment : Obligations.AddressAssignment := by
  unfold Obligations.AddressAssignment
  exact ⟨fun s hs hDue => addrListenEnd_gives s hs hDue,
    fun s v a d hs hAt hDue hCand hSmall => addrHold_gives s v a d hs hAt hDue hCand hSmall,
    fun s addr uid x hr _ => claimRx_gives s addr uid x hr, fun s hs hDue => addrRelisten_gives s hs hDue⟩

end Sys2Proof.Machine
end

section
/-!
SUPPORT. The records that wait, in their FIFOs and with the firmware (R298, R315), through what the link and the market do: the
Stall table's entries and a note keep them, and the market's own records only join them.
-/

namespace Sys2Proof.Machine

/-- The records in the FIFOs stay there, and the firmware keeps back what it kept back. -/
structure QueuesStay (s t : State) : Prop where
  waiting : RecordsStay s t
  kept : t.lgr.fwWait = s.lgr.fwWait

theorem QueuesStay.refl (s : State) : QueuesStay s s := ⟨.refl s, rfl⟩

/-- The later step first, which tells the state between. -/
theorem QueuesStay.after {s t u : State} (h' : QueuesStay t u) (h : QueuesStay s t) : QueuesStay s u :=
  ⟨h.waiting.trans h'.waiting, h'.kept.trans h.kept⟩

theorem QueuesStay.ite {s a b : State} {c : Prop} [Decidable c] (ha : QueuesStay s a) (hb : QueuesStay s b) :
    QueuesStay s (if c then a else b) := by
  split
  · exact ha
  · exact hb

theorem QueuesStay.of_lgr {s t : State} (h : t.lgr = s.lgr) : QueuesStay s t := ⟨.of_lgr h, congrArg Ledger.fwWait h⟩

theorem Touch.queuesStay {W : List Nat} {s t : State} (h : Touch W s t) (hW : 0x140f ∉ W) : QueuesStay s t := .of_lgr (h.lgr hW)

/-- The records in the FIFOs stay there, and so do those that the firmware keeps back. -/
structure QueuesGrow (s t : State) : Prop where
  waiting : RecordsStay s t
  kept : s.lgr.fwWait <+: t.lgr.fwWait

theorem QueuesStay.grow {s t : State} (h : QueuesStay s t) : QueuesGrow s t := ⟨h.waiting, h.kept ▸ List.prefix_rfl⟩

theorem QueuesGrow.refl (s : State) : QueuesGrow s s := (QueuesStay.refl s).grow

theorem QueuesGrow.after {s t u : State} (h' : QueuesGrow t u) (h : QueuesGrow s t) : QueuesGrow s u :=
  ⟨h.waiting.trans h'.waiting, h.kept.trans h'.kept⟩

theorem QueuesGrow.ite {s a b : State} {c : Prop} [Decidable c] (ha : QueuesGrow s a) (hb : QueuesGrow s b) :
    QueuesGrow s (if c then a else b) := by
  split
  · exact ha
  · exact hb

theorem Touch.queuesGrow {W : List Nat} {s t : State} (h : Touch W s t) (hW : 0x140f ∉ W) : QueuesGrow s t := (h.queuesStay hW).grow

theorem QueuesGrow.foldl {α : Type} {f : State → α → State} (hf : ∀ s x, QueuesGrow s (f s x)) (l : List α) :
    ∀ s : State, QueuesGrow s (l.foldl f s) := by
  induction l with
  | nil => exact .refl
  | cons x l ih => exact fun s => (ih (f s x)).after (hf s x)

section
variable (s : State)

/-! ## Records and tallies -/

theorem State.tallyCt_queuesStay (ct : Nat) : QueuesStay s (s.tallyCt ct) := by
  have hKept : (s.lgr.tallied ct s.stampSec (s.now + s.twin)).fwWait = s.lgr.fwWait := by
    unfold Ledger.tallied
    split_ifs <;> rfl
  exact ⟨s.tallyCt_stay ct, by rw [s.tallyCt_lgr, hKept]⟩

theorem State.tally_queuesStay (k : Kind) : QueuesStay s (s.tally k) := s.tallyCt_queuesStay _

/-- A record that the firmware would not keep back. -/
theorem State.post_queuesStay (k : Kind) (p : List Byte) (hk : (firmwareProducer k.prod && k.cls == 2) = false) :
    QueuesStay s (s.post k p) := by
  refine ⟨s.post_stay k p, ?_⟩
  unfold State.post
  dsimp only
  split_ifs with hDead hRoom hKeep
  · rfl
  · rfl
  · exact absurd hKeep (by simp [hk])
  · exact (s.tallyCt_queuesStay _).kept

theorem State.post_queuesGrow (k : Kind) (p : List Byte) : QueuesGrow s (s.post k p) := by
  refine ⟨s.post_stay k p, ?_⟩
  unfold State.post
  dsimp only
  split_ifs
  · exact List.prefix_rfl
  · exact List.prefix_rfl
  · exact List.prefix_append _ _
  · exact (s.tallyCt_queuesStay _).grow.kept

/-! ## Steps beside the Ledger -/

theorem State.event_queuesStay (g : Flag) : QueuesStay s (s.event g) := .of_lgr rfl

theorem State.setFlag_queuesStay (g : Flag) (b : Bool) : QueuesStay s (s.setFlag g b) := .of_lgr rfl

theorem State.setReg_queuesStay (a : Nat) (v : Word) : QueuesStay s (s.setReg a v) := .of_lgr rfl

theorem State.bump_queuesStay (a n : Nat) : QueuesStay s (s.bump a n) := .of_lgr rfl

theorem State.setMapBit_queuesStay (a addr : Nat) (b : Bool) : QueuesStay s (s.setMapBit a addr b) := .of_lgr rfl

theorem State.withMkt_queuesStay (m : Mkt) : QueuesStay s { s with mkt := m } := .of_lgr rfl

theorem State.withLink_queuesStay (l : Link) : QueuesStay s { s with link := l } := .of_lgr rfl

theorem State.withVdt_queuesStay (v : Vdt) : QueuesStay s { s with vdt := v } := .of_lgr rfl

theorem State.setPeerMarket_queuesStay (p : PeerMarket) : QueuesStay s (s.setPeerMarket p) := .of_lgr rfl

theorem State.setBid_queuesStay (x : OwnBid) : QueuesStay s (s.setBid x) := .of_lgr rfl

/-! ## The Stall table (R280 to R283) -/

theorem State.writeSlots_queuesStay (l : List SlotWrite) : ∀ s : State, QueuesStay s (s.writeSlots l) := by
  have hWrite (s : State) (w : SlotWrite) : QueuesStay s (s.writeSlot w) := by
    unfold State.writeSlot
    split
    · exact .refl s
    · split <;> exact ⟨fun _ h => h, rfl⟩
  induction l with
  | nil => exact .refl
  | cons w l ih => exact fun s => (ih _).after (hWrite s w)

theorem State.stallStore_queuesStay (a : Nat) (b : List Byte) : QueuesStay s (s.stallStore a b) := State.writeSlots_queuesStay _ s

theorem State.stallRepair_queuesStay (a : Nat) : QueuesStay s (s.stallRepair a) := by
  unfold State.stallRepair
  split
  · exact .refl s
  · exact .ite (.refl s) (.after (State.post_queuesStay _ _ _ rfl) (s.stallStore_queuesStay _ _))

theorem State.stallRoom_queuesStay : QueuesStay s s.stallRoom := by
  unfold State.stallRoom
  split
  · exact .refl s
  · split
    · exact .refl s
    · exact .after (State.withMkt_queuesStay _ _) (.ite (s.stallStore_queuesStay _ _) (.refl s))

theorem State.stallLoad_queuesStay (a : Nat) : QueuesStay s (s.stallLoad a) := by
  unfold State.stallLoad
  split
  · exact s.withMkt_queuesStay _
  · exact .after (State.withMkt_queuesStay _ _) (.after (State.stallRepair_queuesStay _ a) s.stallRoom_queuesStay)

theorem State.stallSet_queuesStay (a : Nat) (b : List Byte) : QueuesStay s (s.stallSet a b) := by
  have hLoad := s.stallLoad_queuesStay a
  have hPut (u : State) (c : List Byte) (d : Bool) : QueuesStay u (u.stallPut a c d) := .of_lgr rfl
  exact .ite hLoad (.ite (.after (hPut _ _ _) hLoad) (.after (hPut _ _ _) (.after (State.stallStore_queuesStay _ _ _) hLoad)))

theorem State.stallBytes_queuesStay (a i : Nat) (x : List Byte) : QueuesStay s (s.stallBytes a i x) :=
  .after (State.stallSet_queuesStay _ _ _) (s.stallLoad_queuesStay a)

theorem State.stallCount_queuesStay (a i n : Nat) : QueuesStay s (s.stallCount a i n) := s.stallBytes_queuesStay _ _ _

theorem State.setStallFlag_queuesStay (a bit : Nat) (x : Bool) : QueuesStay s (s.setStallFlag a bit x) :=
  s.stallBytes_queuesStay _ _ _

/-! ## A note (R213, R215) -/

theorem State.note_queuesStay (code : Nat) (critical audible : Bool) (subject : Nat) :
    QueuesStay s (s.note code critical audible subject) := by
  have hPush (u : State) (n : Note) : QueuesStay u (u.notePush n) :=
    (State.notePush_touch (.refl State.notePush_cells u) (Sub.refl _) n).queuesStay (by decide)
  have hCritical (n : Note) : QueuesStay s (s.noteCritical n) :=
    .ite (s.withVdt_queuesStay _) (.ite (hPush s n) (.after (hPush _ n) (.after (State.tally_queuesStay _ _) (s.withVdt_queuesStay _))))
  have hHold (n : Note) : QueuesStay s (s.noteHold n) :=
    (State.noteHold_touch (.refl State.noteHold_cells s) (Sub.refl _) n).queuesStay (by decide)
  have hEnter (n : Note) : QueuesStay s (s.noteEnter n) :=
    (State.noteEnter_touch (.refl State.noteEnter_cells s) (Sub.refl _) n).queuesStay (by decide)
  exact .ite (.refl s) (.ite (hCritical _) (.ite (hHold _) (hEnter _)))

/-! ## Draw entries (R268, R271) -/

theorem State.noteDraw_queuesStay (a i : Nat) (tent valid : Bool) : QueuesStay s (s.noteDraw a i tent valid) :=
  s.stallBytes_queuesStay _ _ _

theorem State.clearDraw_queuesGrow (i : Nat) : QueuesGrow s (s.clearDraw i) :=
  .ite (.refl s) (.after (State.post_queuesGrow _ _ _) (QueuesStay.grow (.after (State.event_queuesStay _ _) (.after (State.noteDraw_queuesStay _ _ _ _ _)
    (.after (State.withMkt_queuesStay _ _) (.after (State.setReg_queuesStay _ _ _) (s.setReg_queuesStay _ _)))))))

theorem State.clearDraws_queuesGrow (a : Nat) : QueuesGrow s (s.clearDraws a) :=
  QueuesGrow.foldl (fun s i => s.clearDraw_queuesGrow i) _ s

theorem State.setDraw_queuesStay (i a : Nat) (tent : Bool) (power offG bidG : Nat) : QueuesStay s (s.setDraw i a tent power offG bidG) :=
  .after (State.event_queuesStay _ _) (.after (State.noteDraw_queuesStay _ _ _ _ _)
    (.after (State.withMkt_queuesStay _ _) (.after (State.setReg_queuesStay _ _ _) (s.setReg_queuesStay _ _))))

theorem State.marketFilter_queuesGrow (f : Frame) : QueuesGrow s (s.marketFilter f) := by
  have hLower (u : State) : QueuesGrow u (u.filterLower f) :=
    (State.filterLower_touch (.refl State.filterLower_cells u) (Sub.refl _) f).queuesGrow (by decide)
  have hHit (u : State) (i : Nat) : QueuesGrow u ((u.clearDraw i).event F.MKT_EVENT_WD_RX) :=
    .after (State.event_queuesStay _ _).grow (u.clearDraw_queuesGrow i)
  exact .after (hLower _) (.foldl hHit _ s)

/-! ## Offers, bids and grants (R264, R266, R277) -/

theorem State.dropBid_queuesStay (a st : Nat) : QueuesStay s (s.dropBid a st) := by
  unfold State.dropBid
  split
  · exact .refl s
  · exact .after (State.stallBytes_queuesStay _ _ _ _) (.after (State.stallBytes_queuesStay _ _ _ _) (s.withMkt_queuesStay _))

theorem State.setOffer_queuesStay (pOff pFree : Nat) : QueuesStay s (s.setOffer pOff pFree) :=
  .after (State.stallBytes_queuesStay _ _ _ _) (.after (State.setReg_queuesStay _ _ _) (s.setReg_queuesStay _ _))

theorem State.refreshFree_queuesStay : QueuesStay s s.refreshFree := .ite (s.setOffer_queuesStay _ _) (.refl s)

theorem State.dropInbid_queuesStay (a st : Nat) : QueuesStay s (s.dropInbid a st) :=
  .ite (.after (State.refreshFree_queuesStay _) (.after (State.stallBytes_queuesStay _ _ _ _)
    (.after (State.stallBytes_queuesStay _ _ _ _) (s.withMkt_queuesStay _)))) (.refl s)

theorem State.raiseIsrc_queuesStay : QueuesStay s s.raiseIsrc := .ite (s.setReg_queuesStay _ _) (.refl s)

theorem State.peerOfferEnd_queuesGrow (a st : Nat) : QueuesGrow s (s.peerOfferEnd a st) :=
  .after (State.clearDraws_queuesGrow _ a) (QueuesStay.grow (.after (State.dropBid_queuesStay _ a st) (.after (State.setPeerMarket_queuesStay _ _)
    (.ite (.after (State.stallBytes_queuesStay _ _ _ _) (s.stallBytes_queuesStay _ _ _)) (.refl s)))))

theorem State.peerBidEnd_queuesStay (a st : Nat) : QueuesStay s (s.peerBidEnd a st) :=
  .after (State.setPeerMarket_queuesStay _ _) (s.dropInbid_queuesStay a st)

theorem State.peerSafe_queuesGrow (a : Nat) : QueuesGrow s (s.peerSafe a) :=
  .after (State.peerBidEnd_queuesStay _ a _).grow (s.peerOfferEnd_queuesGrow a _)

/-! ## Market frames (R262) -/

theorem State.staleFrame_queuesStay (a : Nat) : QueuesStay s (s.staleFrame a) :=
  .after (State.tally_queuesStay _ _) (.after (State.event_queuesStay _ _) (.after (State.bump_queuesStay _ _ _)
    (s.stallCount_queuesStay _ _ _)))

theorem State.bidClock_queuesStay (a : Nat) : QueuesStay s (s.bidClock a) :=
  (State.bidClock_touch (.refl State.bidClock_cells s) (Sub.refl _) a).queuesStay (by decide)

theorem State.takeOffer_queuesGrow (f : Frame) : QueuesGrow s (s.takeOffer f) :=
  .after (State.event_queuesStay _ _).grow (.after (State.setPeerMarket_queuesStay _ _).grow
    (.after (.ite (State.bidClock_queuesStay _ _).grow (.refl _)) (.after (State.stallBytes_queuesStay _ _ _ _).grow
      (.ite (s.peerOfferEnd_queuesGrow _ _) (.refl s)))))

theorem State.takeBid_queuesStay (f : Frame) : QueuesStay s (s.takeBid f) :=
  .after (State.event_queuesStay _ _) (.after (State.raiseIsrc_queuesStay _) (.after (State.setPeerMarket_queuesStay _ _)
    (.after (.ite (.refl _) (State.withMkt_queuesStay _ _)) (.after (State.stallBytes_queuesStay _ _ _ _)
      (.ite (s.stallBytes_queuesStay _ _ _) (.after (State.stallBytes_queuesStay _ _ _ _) (s.dropInbid_queuesStay _ _)))))))

theorem State.takeFirm_queuesGrow (f : Frame) : QueuesGrow s (s.takeFirm f) := by
  have hEvent : QueuesGrow s (s.event F.MKT_EVENT_FIRM_RX) := (s.event_queuesStay _).grow
  unfold State.takeFirm
  dsimp only
  split
  · exact hEvent
  · refine .after (.ite ?_ (.ite (State.setBid_queuesStay _ _).grow ?_)) hEvent
    · exact .after (State.clearDraws_queuesGrow _ _) (State.dropBid_queuesStay _ _ _).grow
    · split
      · exact QueuesStay.grow (.after (State.setDraw_queuesStay _ _ _ _ _ _ _) (.after (State.stallBytes_queuesStay _ _ _ _)
          (.after (State.stallBytes_queuesStay _ _ _ _) (State.setBid_queuesStay _ _))))
      · exact QueuesStay.grow (.after (State.stallBytes_queuesStay _ _ _ _) (.after (State.stallBytes_queuesStay _ _ _ _)
          (State.setBid_queuesStay _ _)))

theorem State.takeWithdraw_queuesGrow (f : Frame) : QueuesGrow s (s.takeWithdraw f) := by
  have hCount : QueuesGrow s (s.stallCount f.addr 50 2) := (s.stallCount_queuesStay _ _ _).grow
  unfold State.takeWithdraw
  dsimp only
  generalize s.stallCount f.addr 50 2 = u at *
  have hStale := (u.staleFrame_queuesStay f.addr).grow
  refine .after ?_ hCount
  split
  · exact .ite hStale (.after (State.stallBytes_queuesStay _ _ _ _).grow (u.peerOfferEnd_queuesGrow _ _))
  · exact .ite (.refl u) (.ite hStale (QueuesStay.grow (.after (State.stallBytes_queuesStay _ _ _ _) (u.peerBidEnd_queuesStay _ _))))
  · exact .ite hStale (.ite (.refl u) (.after (State.clearDraws_queuesGrow _ _) (u.dropBid_queuesStay _ _).grow))

theorem State.marketFrame_queuesGrow (f : Frame) : QueuesGrow s (s.marketFrame f) := by
  have hStale := (s.staleFrame_queuesStay f.addr).grow
  unfold State.marketFrame
  dsimp only
  split
  · exact .ite hStale (s.takeOffer_queuesGrow f)
  · exact .ite (.refl s) (.ite hStale (s.takeBid_queuesStay f).grow)
  · exact .ite hStale (.ite (s.takeFirm_queuesGrow f) (.refl s))
  · exact s.takeWithdraw_queuesGrow f
  · exact .refl s

theorem State.firmwareFrame_queuesGrow (f : Frame) : QueuesGrow s (s.firmwareFrame f) := by
  have hTx : QueuesGrow s (s.postTx 7 1 f.data) :=
    (State.postTx_touch (.refl State.postTx_cells s) (Sub.refl _) _ _ _).queuesGrow (by decide)
  unfold State.firmwareFrame
  dsimp only
  split
  · exact .ite (s.peerSafe_queuesGrow _) (.ite (s.peerOfferEnd_queuesGrow _ _) (.refl s))
  · exact .ite (s.peerSafe_queuesGrow _) (.refl s)
  · exact hTx
  · exact .ite (s.marketFrame_queuesGrow f) (.refl s)

/-! ## Acceptance (R225, R235, R249 to R251) -/

theorem State.acceptFrame_queuesStay (f : Frame) (x : Carrier) : QueuesStay s (s.acceptFrame f x) := by
  have hHeard (u : State) : QueuesStay u ((u.noteHeard f).event F.TET_EVENT_RX) :=
    (State.event_touch (State.noteHeard_touch (.refl [R.TET_EVENT, 0x140a] u) (Sub.of rfl) f) _ (.inl (by decide))).queuesStay (by decide)
  have hRec (u : State) (n : Nat) : QueuesStay u ((u.setRec n).acceptCarrier x) :=
    (State.acceptCarrier_touch (State.setRec_touch (.refl (State.setRec_cells ++ State.acceptCarrier_cells) u) (Sub.of rfl) n)
      (Sub.of rfl) x).queuesStay (by decide)
  exact .after (hHeard _) (.after (State.setStallFlag_queuesStay _ _ _ _) (.after (State.stallCount_queuesStay _ _ _ _)
    (.after (hRec _ _) (s.bump_queuesStay _ _))))

theorem State.chooseCand_queuesStay (how : Nat) : QueuesStay s (s.chooseCand how) := by
  have hRetarget (u : State) : QueuesStay u u.retarget :=
    (State.retarget_touch (.refl State.retarget_cells u) (Sub.refl _)).queuesStay (by decide)
  have hClaim (u : State) (a : Nat) : QueuesStay u (u.postClaim a) :=
    (State.postClaim_touch (.refl State.postClaim_cells u) (Sub.refl _) a).queuesStay (by decide)
  have hField (u : State) (a : Nat) : QueuesStay u (u.setField F.TET_ADDR_ADDR a) := .of_lgr rfl
  unfold State.chooseCand
  split
  · exact .after (hClaim _ _) (.after (hRetarget _) (.after (hField _ _) (s.withLink_queuesStay _)))
  · exact .after (State.post_queuesStay _ _ _ rfl) (.after (hRetarget _) (s.withLink_queuesStay _))

theorem State.yieldAddr_queuesStay (a : Nat) : QueuesStay s (s.yieldAddr a) := by
  have hHeld (u : State) : QueuesStay u (u.setHeld false) := .of_lgr rfl
  exact .after (State.chooseCand_queuesStay _ _) (.after (State.withLink_queuesStay _ _)
    (.ite (.after (hHeld _) (s.withLink_queuesStay _)) (.refl s)))

theorem State.fixedConflict_queuesStay (f : Frame) : QueuesStay s (s.fixedConflict f) := by
  have hFault (u : State) (code detail : Nat) : QueuesStay u (u.postFault code detail) :=
    (State.postFault_touch (.refl State.postFault_cells u) (Sub.refl _) code detail).queuesStay (by decide)
  exact .ite (.refl s) (.after (hFault _ _ _) (.after (State.post_queuesStay _ _ _ rfl) (.after (State.event_queuesStay _ _)
    (s.setFlag_queuesStay _ _))))

theorem State.addrConflict_queuesStay (f : Frame) : QueuesStay s (s.addrConflict f) :=
  .ite (.ite (s.yieldAddr_queuesStay _) (.refl s)) (s.fixedConflict_queuesStay f)

theorem State.heartbeat_queuesStay (f : Frame) : QueuesStay s (s.heartbeat f) := by
  have hTrack (p : PeerTrack) : QueuesStay s (s.setPeerTrack p) := .of_lgr rfl
  unfold State.heartbeat
  extract_lets a missing u v w
  have hEntry : QueuesStay s v := .after (State.setStallFlag_queuesStay _ _ _ _) (.after (State.stallBytes_queuesStay _ _ _ _)
    (.after (State.setMapBit_queuesStay _ _ _ _) (hTrack _)))
  have hBack : QueuesStay s w :=
    .after (.ite (.after (State.stallBytes_queuesStay _ _ _ _) (v.setStallFlag_queuesStay _ _ _)) (.refl v)) hEntry
  cases missing with
  | some d =>
    exact .after (State.note_queuesStay _ _ _ _ _) (.after (State.post_queuesStay _ _ _ rfl) (.after (State.event_queuesStay _ _) hBack))
  | none => exact hBack

theorem State.claimHeard_queuesStay (addr uid : Nat) : QueuesStay s (s.claimHeard addr uid) := by
  have hStatus (f : Frame) : QueuesStay s (s.postStatus f) :=
    (State.postStatus_touch (.refl State.postStatus_cells s) (Sub.refl _) f).queuesStay (by decide)
  have hBeat : QueuesStay s s.postHeartbeat :=
    (State.postHeartbeat_touch (.refl State.postHeartbeat_cells s) (Sub.refl _)).queuesStay (by decide)
  exact .ite (.ite (.ite (s.yieldAddr_queuesStay _) (.ite (hStatus _) (.refl s))) (.refl s)) (.ite hBeat (.refl s))

end

end Sys2Proof.Machine
end

section
/-!
SUPPORT. A received frame from its acceptance to the RX queue (R225, R233, R235, R237, R251): what its address and its effect leave
alone, and what entering the queue does.
-/

namespace Sys2Proof.Machine

section
variable (s : State)

/-! ## The address of a received frame (R251) -/

/-- The link without the own address's claim and without the frames to send. -/
def Link.unclaimed (l : Link) : Link :=
  { l with alarmSlot := none, hushSlot := [], statusSlot := [], txq := [], cand := none, how := 0, claimAt := none, prevAddr := none,
           heard := [], relistenDue := none }

theorem State.retarget_unclaimed : s.retarget.link.unclaimed = s.link.unclaimed := by
  unfold State.retarget
  dsimp only
  split <;> rfl

theorem State.postStatus_unclaimed (f : Frame) : (s.postStatus f).link.unclaimed = s.link.unclaimed := by
  unfold State.postStatus
  split <;> rfl

theorem State.postHeartbeat_unclaimed : s.postHeartbeat.link.unclaimed = s.link.unclaimed := by
  unfold State.postHeartbeat
  split
  · exact s.postStatus_unclaimed _
  · rfl

theorem State.postFault_unclaimed (code detail : Nat) : (s.postFault code detail).link.unclaimed = s.link.unclaimed := by
  unfold State.postFault
  split
  · exact s.postStatus_unclaimed _
  · rfl

theorem State.post_link (k : Kind) (p : List Byte) : (s.post k p).link = s.link :=
  (State.post_touch (.refl State.post_cells s) (Sub.refl _) k p).link (by decide)

theorem State.chooseCand_unclaimed (how : Nat) : (s.chooseCand how).link.unclaimed = s.link.unclaimed := by
  have hClaim (u : State) (a : Nat) : (u.postClaim a).link.unclaimed = u.link.unclaimed := State.postStatus_unclaimed _ _
  unfold State.chooseCand
  split
  · rw [hClaim, State.retarget_unclaimed]
    rfl
  · rw [State.post_link, State.retarget_unclaimed]
    rfl

theorem State.yieldAddr_unclaimed (a : Nat) : (s.yieldAddr a).link.unclaimed = s.link.unclaimed := by
  unfold State.yieldAddr
  dsimp only
  rw [State.chooseCand_unclaimed]
  split <;> rfl

theorem State.fixedConflict_unclaimed (f : Frame) : (s.fixedConflict f).link.unclaimed = s.link.unclaimed := by
  unfold State.fixedConflict
  split
  · rfl
  · rw [State.postFault_unclaimed, State.post_link]
    rfl

theorem State.addrConflict_unclaimed (f : Frame) : (s.addrConflict f).link.unclaimed = s.link.unclaimed := by
  unfold State.addrConflict
  split
  · split
    · exact s.yieldAddr_unclaimed _
    · rfl
  · exact s.fixedConflict_unclaimed f

theorem State.yieldAddr_linkEventsStay (a : Nat) : LinkEventsStay s (s.yieldAddr a) :=
  (State.yieldAddr_touch (.refl State.yieldAddr_cells s) (Sub.refl _) a).linkEventsStay (by decide)

theorem State.fixedConflict_linkEventsStay (f : Frame) : LinkEventsStay s (s.fixedConflict f) := by
  have hFault (u : State) (code detail : Nat) : LinkEventsStay u (u.postFault code detail) :=
    (State.postFault_touch (.refl State.postFault_cells u) (Sub.refl _) code detail).linkEventsStay (by decide)
  have hPost (u : State) (k : Kind) (p : List Byte) : LinkEventsStay u (u.post k p) :=
    (State.post_touch (.refl State.post_cells u) (Sub.refl _) k p).linkEventsStay (by decide)
  have hFlag : Touch [R.TET_STATUS] s (s.setFlag F.TET_STATUS_CONFLICT true) := State.setFlag_touch (.refl _ s) _ _ (.inl (by decide))
  exact .ite (.refl s) ((((hFlag.linkEventsStay (by decide)).trans (State.event_linkEventsStay _ _ (by decide))).trans
    (hPost _ _ _)).trans (hFault _ _ _))

theorem State.addrConflict_linkEventsStay (f : Frame) : LinkEventsStay s (s.addrConflict f) :=
  .ite (.ite (s.yieldAddr_linkEventsStay _) (.refl s)) (s.fixedConflict_linkEventsStay f)

/-! ## From acceptance to the RX queue -/

/-- What stands between counting a frame and queueing it writes nothing but these. -/
def effectCells : List Nat := State.addrConflict_cells ++ State.heartbeat_cells ++ State.claimHeard_cells

/-- Of the link: when the last frame came, how it looked, and the frames that wait. -/
def Link.received (l : Link) : Nat × List Carrier × List Frame := (l.acceptAt, l.carriers, l.rxq)

/-- What stands between counting a frame and queueing it leaves alone. -/
structure KeepsReception (s t : State) : Prop where
  touch : Touch effectCells s t
  events : LinkEventsStay s t
  queues : QueuesStay s t
  link : t.link.received = s.link.received

theorem KeepsReception.after {s t u : State} (h' : KeepsReception t u) (h : KeepsReception s t) : KeepsReception s u :=
  ⟨h.touch.trans h'.touch, h.events.trans h'.events, h'.queues.after h.queues, h'.link.trans h.link⟩

theorem KeepsReception.refl (s : State) : KeepsReception s s := ⟨.refl _ s, .refl s, .refl s, rfl⟩

theorem KeepsReception.ite {s a b : State} {c : Prop} [Decidable c] (ha : KeepsReception s a) (hb : KeepsReception s b) :
    KeepsReception s (if c then a else b) := by
  split
  · exact ha
  · exact hb

theorem Link.received_of_unclaimed {l m : Link} (h : l.unclaimed = m.unclaimed) : l.received = m.received :=
  (congrArg Link.received h :)

theorem State.addrConflict_keepsReception (f : Frame) : KeepsReception s (s.addrConflict f) where
  touch := State.addrConflict_touch (.refl _ s) (Sub.of rfl) f
  events := s.addrConflict_linkEventsStay f
  queues := s.addrConflict_queuesStay f
  link := Link.received_of_unclaimed (s.addrConflict_unclaimed f)

theorem State.claimHeard_keepsReception (addr uid : Nat) : KeepsReception s (s.claimHeard addr uid) where
  touch := State.claimHeard_touch (.refl _ s) (Sub.of rfl) addr uid
  events := (State.claimHeard_touch (.refl State.claimHeard_cells s) (Sub.refl _) addr uid).linkEventsStay (by decide)
  queues := s.claimHeard_queuesStay addr uid
  link := by
    apply Link.received_of_unclaimed
    cases hAuto : s.autoAddr with
    | false =>
      rw [s.claimHeard_fixed addr uid hAuto]
      split
      · exact s.postHeartbeat_unclaimed
      · rfl
    | true =>
      by_cases hMine : s.ownAddr = some addr ∨ s.link.cand = some addr
      · by_cases hSmaller : uid < Config.wbUid.toNat
        · rw [s.claimHeard_yields addr uid hAuto hMine hSmaller]
          exact s.yieldAddr_unclaimed _
        · rw [s.claimHeard_answers addr uid hAuto hMine (Nat.le_of_not_lt hSmaller)]
          split
          · exact s.postStatus_unclaimed _
          · rfl
      · rw [s.claimHeard_others addr uid hAuto hMine]

/-! ## A peer's heartbeat (R246) -/

/-- A heartbeat's track, before its entry in the Stall table. -/
def State.peerSeen (a : Nat) : State := (s.setPeerTrack ⟨a, s.now, s.stampSec, none⟩).setMapBit R.TET_PEERS0 a true

/-- After the track, the entry; and of a peer that was missing the event, the record and the note. -/
theorem State.heartbeat_eq (f : Frame) : ∃ w : State, Touch State.stallBytes_cells (s.peerSeen f.addr) w ∧
    (((s.peerTrack f.addr).bind PeerTrack.missing = none ∧ s.heartbeat f = w) ∨
      ∃ p : List Byte, s.heartbeat f = ((w.event F.TET_EVENT_PEER_BACK).post K.PEER_BACK p).note 0x09 false false f.addr) := by
  unfold State.heartbeat
  extract_lets a missing u v w
  have hEntry : Touch State.stallBytes_cells u v :=
    State.setStallFlag_touch (State.stallBytes_touch (.refl _ u) (Sub.refl _) _ _ _) (Sub.of rfl) _ _ _
  have hBack : Touch State.stallBytes_cells u w :=
    .ite (State.stallBytes_touch (State.setStallFlag_touch hEntry (Sub.of rfl) _ _ _) (Sub.refl _) _ _ _) hEntry
  refine ⟨w, hBack, ?_⟩
  cases hMissing : missing with
  | none => exact .inl ⟨hMissing, rfl⟩
  | some d => exact .inr ⟨_, rfl⟩

/-- What the telling of a peer that is back writes. -/
def backCells : List Nat := R.TET_EVENT :: State.post_cells ++ State.note_cells

theorem State.peerBack_touch (p : List Byte) (a : Nat) :
    Touch backCells s (((s.event F.TET_EVENT_PEER_BACK).post K.PEER_BACK p).note 0x09 false false a) :=
  State.note_touch (State.post_touch (State.event_touch (.refl _ s) _ (.inl (by decide))) (Sub.of rfl) _ _) (Sub.of rfl) _ _ _ _

theorem State.peerBack_shows (p : List Byte) (a : Nat) :
    LinkEventsStay s (((s.event F.TET_EVENT_PEER_BACK).post K.PEER_BACK p).note 0x09 false false a) ∧
    (((s.event F.TET_EVENT_PEER_BACK).post K.PEER_BACK p).note 0x09 false false a).flag F.TET_EVENT_PEER_BACK = true := by
  have hTold : Touch (State.post_cells ++ State.note_cells) (s.event F.TET_EVENT_PEER_BACK)
      (((s.event F.TET_EVENT_PEER_BACK).post K.PEER_BACK p).note 0x09 false false a) :=
    State.note_touch (State.post_touch (.refl _ _) (Sub.of rfl) _ _) (Sub.of rfl) _ _ _ _
  exact ⟨(s.event_linkEventsStay _ (by decide)).trans (hTold.linkEventsStay (by decide)),
    (hTold.flag _ (by decide)).trans (State.event_flag _ _ (by decide))⟩

/-- What a heartbeat shows of its sender. -/
theorem State.heartbeat_shows (f : Frame) : (s.heartbeat f).link = (s.peerSeen f.addr).link ∧
    (s.heartbeat f).mapBit R.TET_PEERS0 f.addr = true ∧ LinkEventsStay s (s.heartbeat f) ∧
    ((s.peerTrack f.addr).bind PeerTrack.missing ≠ none → (s.heartbeat f).flag F.TET_EVENT_PEER_BACK = true) := by
  have hSeen : (s.peerSeen f.addr).mapBit R.TET_PEERS0 f.addr = true := State.mapBit_setMapBit_same _ _ _ _
  have hSeenEvents : LinkEventsStay s (s.peerSeen f.addr) := by
    intro g hg h
    rw [State.peerSeen, State.flag, State.reg_setMapBit_ne _ _ _ _ _ (by rw [hg]; decide)]
    exact h
  obtain ⟨w, hEntry, ⟨hPresent, hEq⟩ | ⟨p, hEq⟩⟩ := s.heartbeat_eq f
  · rw [hEq]
    exact ⟨hEntry.link (by decide), (hEntry.mapBit _ _ (by decide)).trans hSeen, hSeenEvents.trans (hEntry.linkEventsStay (by decide)),
      fun h => absurd hPresent h⟩
  · obtain ⟨hEvents, hBack⟩ := w.peerBack_shows p f.addr
    have hTold := w.peerBack_touch p f.addr
    rw [hEq]
    exact ⟨(hTold.link (by decide)).trans (hEntry.link (by decide)),
      (hTold.mapBit _ _ (by decide)).trans ((hEntry.mapBit _ _ (by decide)).trans hSeen),
      (hSeenEvents.trans (hEntry.linkEventsStay (by decide))).trans hEvents, fun _ => hBack⟩

theorem State.heartbeat_keepsReception (f : Frame) : KeepsReception s (s.heartbeat f) := by
  obtain ⟨hLink, -, hEvents, -⟩ := s.heartbeat_shows f
  exact ⟨State.heartbeat_touch (.refl _ s) (Sub.of rfl) f, hEvents, s.heartbeat_queuesStay f, by rw [hLink]; rfl⟩

end

end Sys2Proof.Machine
end

section
/-!
SUPPORT. A frame enters the RX queue (R233): the firmware reads the waiting frames in turn as long as it reads at all, so when it
still reads at the end the frame was read last of all.
-/

namespace Sys2Proof.Machine

/-- A run of steps of the market filter, the RX queue and the firmware. -/
structure ReadsOn (s t : State) : Prop where
  touch : Touch State.rxEnter_cells s t
  link : LinkQueues s t
  queues : QueuesGrow s t

theorem ReadsOn.refl (s : State) : ReadsOn s s := ⟨.refl _ s, .refl s, .refl s⟩

theorem ReadsOn.after {s t u : State} (h' : ReadsOn t u) (h : ReadsOn s t) : ReadsOn s u :=
  ⟨h.touch.trans h'.touch, h'.link.after h.link, h'.queues.after h.queues⟩

/-- The firmware that reads in the end read from the start. -/
theorem ReadsOn.reads {s t : State} (h : ReadsOn s t) (ht : t.reads = true) : s.reads = true := by
  simp only [State.reads, Bool.and_eq_true, List.isEmpty_iff, h.touch.boot (by decide)] at ht ⊢
  obtain ⟨hCore, hKept⟩ := ht
  exact ⟨hCore, List.prefix_nil.mp (hKept ▸ h.queues.kept)⟩

section
variable (s : State) (f : Frame)

theorem State.withRxq_readsOn (l : List Frame) : ReadsOn s { s with link := { s.link with rxq := l } } :=
  ⟨Touch.update (.refl _ s) (h_link := .inr (by decide)), s.withRxq_linkQueues l, (s.withLink_queuesStay _).grow⟩

theorem State.firmwareFrame_readsOn : ReadsOn s (s.firmwareFrame f) :=
  ⟨State.firmwareFrame_touch (.refl _ s) (Sub.of rfl) f, (s.firmwareFrame_linkSends f).queues, s.firmwareFrame_queuesGrow f⟩

theorem State.marketFilter_readsOn : ReadsOn s (s.marketFilter f) :=
  ⟨State.marketFilter_touch (.refl _ s) (Sub.of rfl) f, (s.marketFilter_linkSends f).queues, s.marketFilter_queuesGrow f⟩

theorem LinkSends.rxq {s t : State} (h : LinkSends s t) : t.link.rxq = s.link.rxq := by
  obtain ⟨l, hl⟩ := h.link
  rw [hl]

theorem State.drainStep_readsOn : ReadsOn s (s.drainStep f) := by
  unfold State.drainStep
  split
  · exact .after (State.firmwareFrame_readsOn _ f) (s.withRxq_readsOn _)
  · exact .refl s

theorem State.drainStep_rxq (hReads : s.reads = true) : (s.drainStep f).link.rxq = s.link.rxq.drop 1 := by
  unfold State.drainStep
  rw [if_pos hReads, (State.firmwareFrame_linkSends _ f).rxq]

theorem foldl_drainStep_readsOn (l : List Frame) : ∀ s : State, ReadsOn s (l.foldl State.drainStep s) := by
  induction l with
  | nil => exact .refl
  | cons f l ih => exact fun s => (ih _).after (s.drainStep_readsOn f)

/-- The firmware that still reads after the first frames of the queue has taken them out. -/
theorem foldl_drainStep_rxq (l r : List Frame) : ∀ s : State, s.link.rxq = l ++ r → (l.foldl State.drainStep s).reads = true →
    (l.foldl State.drainStep s).link.rxq = r := by
  induction l with
  | nil => exact fun s h _ => h
  | cons f l ih =>
    intro s h hReads
    have hFirst : s.reads = true := (s.drainStep_readsOn f).reads ((foldl_drainStep_readsOn l _).reads hReads)
    refine ih (s.drainStep f) ?_ hReads
    rw [s.drainStep_rxq f hFirst, h]
    rfl

/-- The frame queued behind those that wait. -/
def State.rxQueued : State :=
  { s.marketFilter f with link := { (s.marketFilter f).link with rxq := (s.marketFilter f).link.rxq ++ [f] } }

theorem State.marketFilter_rxq : (s.marketFilter f).link.rxq = s.link.rxq := (s.marketFilter_linkSends f).rxq

theorem State.rxQueued_readsOn : ReadsOn s (s.rxQueued f) := .after (State.withRxq_readsOn _ _) (s.marketFilter_readsOn f)

theorem State.rxEnter_queued (hRoom : s.link.rxq.length < 32) : s.rxEnter f = (s.rxQueued f).drainRx := by
  have hFilter : ¬32 ≤ (s.marketFilter f).link.rxq.length := by
    rw [s.marketFilter_rxq f]
    omega
  unfold State.rxEnter
  dsimp only
  rw [if_neg hFilter]
  rfl

/-- The queued frame is the last one to be read. -/
theorem State.rxEnter_last (hRoom : s.link.rxq.length < 32) : ∃ w : State, ReadsOn s w ∧ (w.reads = true → w.link.rxq = [f]) ∧
    s.rxEnter f = w.drainStep f := by
  have hQueued : (s.rxQueued f).link.rxq = s.link.rxq ++ [f] := by
    rw [← s.marketFilter_rxq f]
    rfl
  refine ⟨s.link.rxq.foldl State.drainStep (s.rxQueued f), (foldl_drainStep_readsOn _ _).after (s.rxQueued_readsOn f),
    foldl_drainStep_rxq _ _ _ hQueued, ?_⟩
  rw [s.rxEnter_queued f hRoom, State.drainRx_eq, hQueued, List.foldl_append]
  rfl

/-- The firmware that still reads in the end has read the frame last, with nothing waiting behind it. -/
theorem State.rxEnter_read (hRoom : s.link.rxq.length < 32) (hReads : (s.rxEnter f).reads = true) :
    ∃ w : State, ReadsOn s w ∧ w.link.rxq = [] ∧ s.rxEnter f = w.firmwareFrame f := by
  obtain ⟨w, hBefore, hLast, hEq⟩ := s.rxEnter_last f hRoom
  rw [hEq] at hReads
  have hRead : w.reads = true := (w.drainStep_readsOn f).reads hReads
  refine ⟨{ w with link := { w.link with rxq := w.link.rxq.drop 1 } }, (w.withRxq_readsOn _).after hBefore, ?_, ?_⟩
  · rw [hLast hRead]
    rfl
  · rw [hEq, State.drainStep, if_pos hRead]

/-- The firmware that does not read leaves the frame waiting. -/
theorem State.rxEnter_unread (hRoom : s.link.rxq.length < 32) (hReads : s.reads = false) : s.rxEnter f = s.rxQueued f := by
  have hNever (t : State) (h : ReadsOn s t) : t.reads = false := by
    rw [Bool.eq_false_iff]
    exact fun ht => Bool.eq_false_iff.mp hReads (h.reads ht)
  have hStay : ∀ l : List Frame, l.foldl State.drainStep (s.rxQueued f) = s.rxQueued f := by
    intro l
    induction l with
    | nil => rfl
    | cons g l ih => rw [List.foldl_cons, State.drainStep, hNever _ (s.rxQueued_readsOn f), if_neg (by decide), ih]
  rw [s.rxEnter_queued f hRoom, State.drainRx_eq, hStay]

/-- Into a full queue the frame does not come. -/
def State.rxOverflown : State := (((s.marketFilter f).bump R.TET_ERRCNT5 1).event F.TET_EVENT_RXOVF).tally K.RXOVF

theorem State.rxEnter_full (hFull : 32 ≤ s.link.rxq.length) : s.rxEnter f = s.rxOverflown f := by
  rw [← s.marketFilter_rxq f] at hFull
  unfold State.rxEnter
  dsimp only
  rw [if_pos hFull]
  rfl

theorem State.rxOverflown_shows : (s.rxOverflown f).link.rxq = s.link.rxq ∧
    (s.rxOverflown f).regN R.TET_ERRCNT5 = min (s.regN R.TET_ERRCNT5 + 1) 0xFFFF ∧ (s.rxOverflown f).flag F.TET_EVENT_RXOVF = true := by
  have hTally : Touch State.tally_cells (((s.marketFilter f).bump R.TET_ERRCNT5 1).event F.TET_EVENT_RXOVF) (s.rxOverflown f) :=
    State.tally_touch (.refl _ _) (Sub.refl _) _
  have hEvent : Touch [R.TET_EVENT] ((s.marketFilter f).bump R.TET_ERRCNT5 1)
      (((s.marketFilter f).bump R.TET_ERRCNT5 1).event F.TET_EVENT_RXOVF) := State.event_touch (.refl _ _) _ (.inl (by decide))
  have hFilter := State.marketFilter_touch (.refl State.marketFilter_cells s) (Sub.refl _) f
  refine ⟨?_, ?_, (hTally.flag _ (by decide)).trans (State.event_flag _ _ (by decide))⟩
  · rw [hTally.link (by decide), State.event_link, State.bump_link, s.marketFilter_rxq]
  · rw [hTally.regN _ (by decide), hEvent.regN _ (by decide), State.regN_bump, hFilter.regN _ (by decide)]

/-! ## The seven commands that receive a frame of another unit -/

/-- A frame enters the queue, unless its length does not fit its identifier (R235). -/
def State.entered : State := if frameFits f then s.rxEnter f else if frameKnown f then s.discardFrame else s

/-- The command accepts the frame, does what leaves the reception alone, and lets the frame enter. -/
def Receives (c : Instr) (x : Carrier) : Prop := ∃ w : State, KeepsReception (s.acceptFrame f x) w ∧ exec c s = .next (w.entered f)

variable (c : Instr) (x : Carrier)

theorem Receives.of_receive {s : State} {f : Frame} {c : Instr} {x : Carrier} {effect : State → State}
    (hExec : exec c s = .next (s.receive f x fun u => (effect u).rxEnter f)) (hr : s.receives = true)
    (hEffect : ∀ u : State, KeepsReception u (effect u)) : Receives s f c x := by
  have hAddr := (s.acceptFrame f x).addrConflict_keepsReception f
  cases hFits : frameFits f with
  | true => exact ⟨effect ((s.acceptFrame f x).addrConflict f), (hEffect _).after hAddr, by simp [hExec, State.receive, hr, hFits, State.entered]⟩
  | false => exact ⟨(s.acceptFrame f x).addrConflict f, hAddr, by simp [hExec, State.receive, hr, hFits, State.entered]⟩

/-- A census request noted, outside the 10 s of the last answer (R247). -/
def State.censusNoted : State :=
  match s.ownAddr with
  | some a =>
    if (match s.link.censusAnsAt with
      | some t => decide (s.now < t + secTicks 10)
      | none => false) then s
    else { s with link := { s.link with censusAnsAt := some s.now, censusDue := s.timer (msTicks (20 * a)) } }
  | none => s

theorem exec_censusRequestRx (addr : Nat) : exec (.censusRequestRx addr x) s =
    .next (s.receive ⟨6, addr, 2, []⟩ x fun u => (u.censusNoted).rxEnter ⟨6, addr, 2, []⟩) := rfl

theorem State.censusNoted_keepsReception : KeepsReception s s.censusNoted := by
  unfold State.censusNoted
  split
  · exact .ite (.refl s) ⟨Touch.update (.refl _ s) (h_link := .inr (by decide)), fun _ _ h => h, s.withLink_queuesStay _, rfl⟩
  · exact .refl s

/-- The heartbeat of a peer, not one under the own address (R251). -/
def State.beatHeard (addr : Nat) (data : List Byte) : State := if s.ownAddr = some addr then s else s.heartbeat ⟨6, addr, 1, data⟩

theorem exec_heartbeatRx (addr : Nat) (data : List Byte) : exec (.heartbeatRx addr data x) s =
    .next (s.receive ⟨6, addr, 1, data⟩ x fun u => (u.beatHeard addr data).rxEnter ⟨6, addr, 1, data⟩) := rfl

theorem State.beatHeard_keepsReception (addr : Nat) (data : List Byte) : KeepsReception s (s.beatHeard addr data) :=
  .ite (.refl s) (s.heartbeat_keepsReception _)

theorem receives_claimRx (addr : Nat) (uid : BitVec 64) (hr : s.receives = true) :
    Receives s ⟨6, addr, 2, beBytes 8 uid.toNat⟩ (.claimRx addr uid x) x := by
  have hExec : exec (.claimRx addr uid x) s = .next (s.when s.receives fun s =>
      ((s.acceptFrame ⟨6, addr, 2, beBytes 8 uid.toNat⟩ x).claimHeard addr uid.toNat).rxEnter ⟨6, addr, 2, beBytes 8 uid.toNat⟩) := rfl
  have hFits : frameFits ⟨6, addr, 2, beBytes 8 uid.toNat⟩ = true := rfl
  refine ⟨_, State.claimHeard_keepsReception _ addr uid.toNat, ?_⟩
  rw [hExec, State.entered, if_pos hFits, State.when, if_pos hr]

end

end Sys2Proof.Machine
end

section
/-!
SUPPORT. What every accepted frame shows (R225, R233, R235, R237), the unit's own heartbeats and census answers (R242 to R247), peers
and their loss (R246, R277), and O30.
-/

namespace Sys2Proof.Machine

section
variable (s : State) (f : Frame)

/-! ## Every accepted frame -/

def enteredCells : List Nat := R.TET_ERRCNT2 :: State.rxEnter_cells

theorem State.entered_touch : Touch enteredCells s (s.entered f) :=
  .ite (State.rxEnter_touch (.refl _ s) (Sub.of rfl) f) (.ite (State.discardFrame_touch (.refl _ s) (Sub.of rfl)) (.refl _ s))

theorem State.entered_linkQueues : LinkQueues s (s.entered f) :=
  .ite (s.rxEnter_linkQueues f) (.ite ((State.discardFrame_touch (.refl State.discardFrame_cells s) (Sub.refl _)).linkSends (by decide)).queues (.refl s))

theorem KeepsReception.reads {s t : State} (h : KeepsReception s t) : t.reads = s.reads := by
  rw [State.reads, State.reads, h.touch.boot (by decide), h.queues.kept]

theorem KeepsReception.rxq {s t : State} (h : KeepsReception s t) : t.link.rxq = s.link.rxq := congrArg (·.2.2) h.link

theorem State.acceptFrame_reads (x : Carrier) : (s.acceptFrame f x).reads = s.reads := by
  rw [State.reads, State.reads, (s.acceptFrame_self_touch f x).boot (by decide), (s.acceptFrame_queuesStay f x).kept]

/-- What a fitting or unfitting frame does at the queue. -/
theorem State.entered_shows :
    (frameFits f = true → s.link.rxq.length < 32 → s.reads = false → (s.entered f).link.rxq = s.link.rxq ++ [f]) ∧
    (frameFits f = true → s.link.rxq.length < 32 → (s.entered f).reads = true → (s.entered f).link.rxq = []) ∧
    (frameFits f = true → 32 ≤ s.link.rxq.length → (s.entered f).link.rxq = s.link.rxq ∧
      (s.entered f).regN R.TET_ERRCNT5 = min (s.regN R.TET_ERRCNT5 + 1) 0xFFFF ∧ (s.entered f).flag F.TET_EVENT_RXOVF = true) ∧
    (frameFits f = false → (s.entered f).link.rxq = s.link.rxq ∧
      (frameKnown f = true → (s.entered f).regN R.TET_ERRCNT2 = min (s.regN R.TET_ERRCNT2 + 1) 0xFFFF)) := by
  cases hFits : frameFits f with
  | true =>
    have hEnters : s.entered f = s.rxEnter f := if_pos hFits
    rw [hEnters]
    refine ⟨fun _ hRoom hUnread => ?_, fun _ hRoom hReads => ?_, fun _ hFull => ?_, nofun⟩
    · rw [s.rxEnter_unread f hRoom hUnread, ← s.marketFilter_rxq f]
      rfl
    · obtain ⟨w, -, hEmpty, hEq⟩ := s.rxEnter_read f hRoom hReads
      rw [hEq, (w.firmwareFrame_linkSends f).rxq, hEmpty]
    · rw [s.rxEnter_full f hFull]
      exact s.rxOverflown_shows f
  | false =>
    have hDiscards : s.entered f = if frameKnown f then s.discardFrame else s := if_neg (by simp [hFits])
    rw [hDiscards]
    refine ⟨nofun, nofun, nofun, fun _ => ?_⟩
    split
    · exact ⟨rfl, fun _ => s.regN_bump _ _⟩
    · next hKnown => exact ⟨rfl, fun h => absurd h hKnown⟩

theorem Receives.gives {s : State} {f : Frame} {c : Instr} {x : Carrier} (h : Receives s f c x) : Gives c s fun t =>
      t.regN R.TET_RXCNT = min (s.regN R.TET_RXCNT + 1) 0xFFFF ∧ t.regN R.TET_REC = min (s.regN R.TET_REC - 1) 255 ∧
      t.flag F.TET_EVENT_RX ∧ t.link.acceptAt = s.now ∧ t.link.carriers = (x :: s.link.carriers).take 16 ∧
      (frameFits f → s.link.rxq.length < 32 → s.reads = false → t.link.rxq = s.link.rxq ++ [f]) ∧
      (frameFits f → s.link.rxq.length < 32 → s.reads → t.reads → t.link.rxq = []) ∧
      (frameFits f → 32 ≤ s.link.rxq.length → t.link.rxq = s.link.rxq ∧ t.regN R.TET_ERRCNT5 = min (s.regN R.TET_ERRCNT5
        + 1) 0xFFFF ∧ t.flag F.TET_EVENT_RXOVF) ∧
      (frameFits f = false → t.link.rxq = s.link.rxq ∧ (frameKnown f → t.regN R.TET_ERRCNT2 = min (s.regN R.TET_ERRCNT2
        + 1) 0xFFFF)) := by
  obtain ⟨w, hKeeps, hExec⟩ := h
  have hEnter := w.entered_touch f
  have hRest := (w.entered_linkQueues f).rest
  have hAccept := s.acceptFrame_self_touch f x
  have hCount (a : Nat) (ha : a ∉ effectCells ∧ a ∉ enteredCells) : (w.entered f).regN a = (s.acceptFrame f x).regN a := by
    rw [hEnter.regN a ⟨ha.2, by decide⟩, hKeeps.touch.regN a ⟨ha.1, by decide⟩]
  have hReceived : w.link.received = ((s.now, (x :: s.link.carriers).take 16, s.link.rxq) : Nat × List Carrier × List Frame) := by
    rw [hKeeps.link, s.acceptFrame_link f x]
    rfl
  have hRxq : w.link.rxq = s.link.rxq := congrArg (·.2.2) hReceived
  have hReads : w.reads = s.reads := hKeeps.reads.trans (s.acceptFrame_reads f x)
  have hErr (a : Nat) (ha : a ∉ effectCells ∧ a ∉ State.acceptFrame_cells) : w.regN a = s.regN a := by
    rw [hKeeps.touch.regN a ⟨ha.1, by decide⟩, hAccept.regN a ⟨ha.2, by decide⟩]
  obtain ⟨hWaits, hRead, hFull, hUnfit⟩ := w.entered_shows f
  rw [hRxq] at hWaits hRead hFull hUnfit
  rw [hErr _ (by decide)] at hFull hUnfit
  rw [hReads] at hWaits
  exact ⟨w.entered f, hExec, (hCount _ (by decide)).trans (s.acceptFrame_rxcnt f x), (hCount _ (by decide)).trans (s.acceptFrame_rec f x),
    (w.entered_linkQueues f).events _ rfl (hKeeps.events _ rfl (s.acceptFrame_rx f x)),
    (congrArg Link.acceptAt hRest :).trans (congrArg (·.1) hReceived), (congrArg Link.carriers hRest :).trans (congrArg (·.2.1) hReceived),
    hWaits, fun hFits hRoom _ => hRead hFits hRoom, hFull, hUnfit⟩

/-! ## The unit's own heartbeats (R242 to R244, R247) -/

/-- The period of the heartbeat noted (R242). -/
def State.periodNoted (a : Nat) : State := { s with link := { s.link with hbPeriod := some (s.hbNow a).1 } }

theorem State.postHeartbeat_regs_lgr : s.postHeartbeat.regs = s.regs ∧ s.postHeartbeat.lgr = s.lgr ∧
    s.postHeartbeat.link.hbPeriod = s.link.hbPeriod ∧ s.postHeartbeat.link.censusDue = s.link.censusDue := by
  unfold State.postHeartbeat State.postStatus
  split
  · split <;> exact ⟨rfl, rfl, rfl, rfl⟩
  · exact ⟨rfl, rfl, rfl, rfl⟩

/-- Whether a heartbeat is due is told by the link without its frames, and by the clock. -/
theorem State.postHeartbeat_hbDue : s.postHeartbeat.hbDue = s.hbDue := by
  unfold State.postHeartbeat State.postStatus
  split
  · split <;> rfl
  · rfl

theorem heartbeatDue_gives (a : Nat) (hs : s.live = true) (hDue : s.hbDue = true) (hOwn : s.ownAddr = some a) :
    Gives .heartbeatDue s fun t =>
      (s.framesMode → (⟨⟨6, a, 1, s.heartbeatData⟩, 0, s.now⟩ : TxFrame) ∈ t.link.statusSlot) ∧
      t.link.hbPeriod = some (s.hbNow a).1 ∧ t.hbDue = false ∧ t.lgr = s.lgr ∧ t.regs = s.regs := by
  have hPassed : (s.hbNow a).2 = true := by
    simp only [State.hbDue, hOwn, Bool.and_eq_true] at hDue
    exact hDue.1.2
  have hMark : s.hbMark = s.periodNoted a := by
    rw [State.hbMark, hOwn]
    exact if_pos hPassed
  refine Gives.of_when (f := fun s => s.hbMark.postHeartbeat) rfl (by simp [hs, hDue]) ?_
  have hDone : (s.periodNoted a).hbDue = false := by
    have hUnfold : (s.periodNoted a).hbDue = (match s.ownAddr with
      | some b => s.link.txOn && (s.hbNow b).2 && some (s.hbNow a).1 != some (s.hbNow b).1
      | none => false) := rfl
    rw [hUnfold, hOwn]
    simp
  obtain ⟨hRegs, hLgr, hPeriod, -⟩ := (s.periodNoted a).postHeartbeat_regs_lgr
  rw [hMark]
  exact ⟨fun hMode => (s.periodNoted a).postHeartbeat_mem hOwn hMode, hPeriod, (State.postHeartbeat_hbDue _).trans hDone, hLgr, hRegs⟩

theorem censusAnswerDue_gives (hs : s.live = true) (hDue : s.elapsed s.link.censusDue = true) : Gives .censusAnswerDue s fun t =>
      t.link.censusDue = none ∧
      (s.framesMode → ∀ a ∈ s.ownAddr, (⟨⟨6, a, 1, s.heartbeatData⟩, 0, s.now⟩ : TxFrame) ∈ t.link.statusSlot) ∧
      t.lgr = s.lgr ∧ t.regs = s.regs := by
  refine Gives.of_when (f := fun s => { s with link := { s.link with censusDue := none } }.postHeartbeat) rfl (by simp [hs, hDue]) ?_
  obtain ⟨hRegs, hLgr, -, hNone⟩ := State.postHeartbeat_regs_lgr { s with link := { s.link with censusDue := none } }
  exact ⟨hNone, fun hMode a hOwn => State.postHeartbeat_mem { s with link := { s.link with censusDue := none } } hOwn hMode, hLgr, hRegs⟩

/-! ## Another unit's frame under its address (R251) -/

/-- A frame counted and its address judged. -/
def State.judged (x : Carrier) : State := (s.acceptFrame f x).addrConflict f

theorem Gives.of_judged {c : Instr} {s : State} {P : State → Prop} {f : Frame} {x : Carrier} {effect : State → State}
    (he : exec c s = .next (s.receive f x effect)) (hr : s.receives = true) (hf : frameFits f = true)
    (hP : P (effect (s.judged f x))) : Gives c s P := .of_receive he hr hf hP

theorem State.judged_touch (x : Carrier) : Touch acceptedCells s (s.judged f x) := s.accepted_touch f x

theorem State.judged_unclaimed (x : Carrier) : (s.judged f x).link.unclaimed =
    { s.link.unclaimed with carriers := (x :: s.link.carriers).take 16, acceptAt := s.now } := by
  rw [State.judged, State.addrConflict_unclaimed, s.acceptFrame_link f x]
  rfl

theorem State.judged_reads (x : Carrier) : (s.judged f x).reads = s.reads :=
  ((s.acceptFrame f x).addrConflict_keepsReception f).reads.trans (s.acceptFrame_reads f x)

theorem State.judged_rxq (x : Carrier) : (s.judged f x).link.rxq = s.link.rxq := (congrArg Link.rxq (s.judged_unclaimed f x) :)

/-- A fixed unit, or one whose address and candidate are others, keeps its address. -/
theorem State.judged_ownAddr (x : Carrier) (h : (s.ownAddr ≠ some f.addr ∧ s.link.cand ≠ some f.addr) ∨ s.autoAddr = false) :
    (s.judged f x).ownAddr = s.ownAddr := by
  have hTouch := s.acceptFrame_self_touch f x
  have hSame : (s.acceptFrame f x).ownAddr = s.ownAddr := hTouch.ownAddr (by decide)
  rcases h with ⟨hOwn, hCand⟩ | hFixed
  · rw [State.judged, State.addrConflict_other _ f (hSame ▸ hOwn) ((s.acceptFrame_cand f x) ▸ hCand), hSame]
  · have hFixed' : (s.acceptFrame f x).autoAddr = false := (hTouch.autoAddr (by decide)).trans hFixed
    rw [State.judged, State.addrConflict, if_neg (by simp [hFixed']), ((s.acceptFrame f x).fixedConflict_self_touch f).ownAddr (by decide), hSame]

/-- No unit but a fixed one keeps an address that another unit uses. -/
theorem State.judged_free (x : Carrier) (h : s.ownAddr ≠ some f.addr ∨ s.autoAddr = true) : (s.judged f x).ownAddr ≠ some f.addr := by
  have hTouch := s.acceptFrame_self_touch f x
  have hSame : (s.acceptFrame f x).ownAddr = s.ownAddr := hTouch.ownAddr (by decide)
  have hAuto : (s.acceptFrame f x).autoAddr = s.autoAddr := hTouch.autoAddr (by decide)
  cases hA : s.autoAddr with
  | false =>
    rw [s.judged_ownAddr f x (.inr hA)]
    exact h.resolve_right (by simp [hA])
  | true =>
    rw [State.judged, State.addrConflict, if_pos (hAuto.trans hA)]
    split
    · obtain ⟨-, hLeft, -⟩ := (s.acceptFrame f x).yieldAddr_leaves f.addr
      exact hLeft
    · next hMine =>
      intro hOwn
      simp [hOwn] at hMine

/-- A fixed unit shows the conflict (R251). -/
theorem State.judged_conflict (x : Carrier) (hOwn : s.ownAddr = some f.addr) (hFixed : s.autoAddr = false) :
    (s.judged f x).flag F.TET_STATUS_CONFLICT = true := by
  have hTouch := s.acceptFrame_self_touch f x
  have hFixed' : (s.acceptFrame f x).autoAddr = false := (hTouch.autoAddr (by decide)).trans hFixed
  rw [State.judged, State.addrConflict, if_neg (by simp [hFixed'])]
  exact State.fixedConflict_conflict _ f hFixed' ((hTouch.ownAddr (by decide)).trans hOwn)

/-! ## A peer's heartbeat (R246) -/

theorem Touch.stampSec {W : List Nat} {s t : State} (h : Touch W s t) (hW : ∀ a ∈ [R.CLK_STATUS, 0x1401, 0x1410, 0x1430], a ∉ W) :
    t.stampSec = s.stampSec := by
  rw [State.stampSec, State.stampSec, State.stamp, State.stamp, h.flag F.CLK_STATUS_TIMEVALID ⟨hW _ (by decide), hW _ (by decide)⟩,
    h.clk (hW _ (by decide)), h.now (hW _ (by decide))]

theorem State.setPeerTrack_peerTrack (p : PeerTrack) : (s.setPeerTrack p).peerTrack p.addr = some p := by
  have hOthers : (s.link.peers.filter fun x => x.addr != p.addr).find? (fun x => x.addr == p.addr) = none := by
    simp [List.find?_eq_none]
  simp only [State.peerTrack, State.setPeerTrack, List.find?_append, hOthers]
  simp

theorem State.peerSeen_peerTrack (a : Nat) : (s.peerSeen a).peerTrack a = some ⟨a, s.now, s.stampSec, none⟩ :=
  s.setPeerTrack_peerTrack ⟨a, s.now, s.stampSec, none⟩

theorem State.peerTrack_of_link {s t : State} (h : t.link.peers = s.link.peers) (a : Nat) : t.peerTrack a = s.peerTrack a := by
  rw [State.peerTrack, State.peerTrack, h]

theorem heartbeatRx_gives (addr : Nat) (data : List Byte) (x : Carrier) (hr : s.receives = true) (hLength : data.length = 4) :
    Gives (.heartbeatRx addr data x) s fun t =>
      (s.ownAddr ≠ some addr ∨ s.autoAddr → t.mapBit R.TET_PEERS0 addr ∧ t.peerTrack addr = some ⟨addr, s.now,
        s.stampSec, none⟩ ∧ ((s.peerTrack addr).bind PeerTrack.missing ≠ none → t.flag F.TET_EVENT_PEER_BACK)) ∧
      (s.ownAddr = some addr → s.autoAddr = false → t.link.peers = s.link.peers ∧ t.flag F.TET_STATUS_CONFLICT) := by
  have hFits : frameFits ⟨6, addr, 1, data⟩ = true := by simp [frameFits, hLength]
  refine Gives.of_judged (exec_heartbeatRx s x addr data) hr hFits ?_
  have hTouch := s.judged_touch ⟨6, addr, 1, data⟩ x
  have hPeers : (s.judged ⟨6, addr, 1, data⟩ x).link.peers = s.link.peers := (congrArg Link.peers (s.judged_unclaimed _ x) :)
  have hFree := s.judged_free ⟨6, addr, 1, data⟩ x
  have hShown := s.judged_conflict ⟨6, addr, 1, data⟩ x
  have hKept := s.judged_ownAddr ⟨6, addr, 1, data⟩ x
  generalize s.judged ⟨6, addr, 1, data⟩ x = u at *
  have hEnter (v : State) : Touch State.rxEnter_cells v (v.rxEnter ⟨6, addr, 1, data⟩) := State.rxEnter_touch (.refl _ v) (Sub.refl _) _
  have hQueue (v : State) := v.rxEnter_linkQueues ⟨6, addr, 1, data⟩
  have hPeersKept (v : State) : (v.rxEnter ⟨6, addr, 1, data⟩).link.peers = v.link.peers := (congrArg Link.peers (hQueue v).rest :)
  refine ⟨fun hOther => ?_, fun hOwn hFixed => ?_⟩
  · have hHeard : u.beatHeard addr data = u.heartbeat ⟨6, addr, 1, data⟩ := if_neg (hFree hOther)
    obtain ⟨hLink, hBit, -, hBack⟩ := u.heartbeat_shows ⟨6, addr, 1, data⟩
    rw [hHeard]
    refine ⟨((hEnter _).mapBit _ _ (by decide)).trans hBit, ?_, fun hMissing => ?_⟩
    · rw [State.peerTrack_of_link ((hPeersKept _).trans (congrArg Link.peers hLink)), u.peerSeen_peerTrack addr, hTouch.now (by decide),
        hTouch.stampSec (by decide)]
    · rw [← State.peerTrack_of_link hPeers] at hMissing
      exact (hQueue _).events _ rfl (hBack hMissing)
  · have hOwn' : u.ownAddr = some addr := (hKept (.inr hFixed)).trans hOwn
    have hSame : u.beatHeard addr data = u := if_pos hOwn'
    rw [hSame]
    exact ⟨(hPeersKept u).trans hPeers, ((hEnter u).flag _ (by decide)).trans (hShown hOwn hFixed)⟩

end

end Sys2Proof.Machine
end

section
/-!
SUPPORT. A unit's part in the market ends (R271, R277): its offer, its bid, the own bid on it and the draws on it.
-/

namespace Sys2Proof.Machine

section
variable (s : State)

/-! ## What the Stall table's cache leaves of the market -/

/-- The market without its cache of the Stall table. -/
def Mkt.uncached (m : Mkt) : Mkt := { m with cache := [] }

theorem State.stallLoad_uncached (a : Nat) : (s.stallLoad a).mkt.uncached = s.mkt.uncached := by
  have hStore (u : State) (b : Nat) (x : List Byte) : (u.stallStore b x).mkt = u.mkt :=
    (State.stallStore_touch (.refl State.stallStore_cells u) (Sub.refl _) b x).mkt (by decide)
  have hRepair (u : State) : (u.stallRepair a).mkt = u.mkt :=
    (State.stallRepair_touch (.refl State.stallRepair_cells u) (Sub.refl _) a).mkt (by decide)
  have hRoom : s.stallRoom.mkt.uncached = s.mkt.uncached := by
    unfold State.stallRoom
    split
    · rfl
    · split
      · rfl
      · next c _ =>
        have hBack : (if c.dirty then s.writeBack c else s).mkt = s.mkt := by
          split
          · exact hStore _ _ _
          · rfl
        exact (congrArg Mkt.uncached hBack :)
  unfold State.stallLoad
  split
  · rfl
  · exact (congrArg Mkt.uncached (hRepair s.stallRoom)).trans hRoom

theorem State.stallBytes_uncached (a i : Nat) (x : List Byte) : (s.stallBytes a i x).mkt.uncached = s.mkt.uncached := by
  have hStore (u : State) (b : Nat) (x : List Byte) : (u.stallStore b x).mkt = u.mkt :=
    (State.stallStore_touch (.refl State.stallStore_cells u) (Sub.refl _) b x).mkt (by decide)
  have hSet (u : State) (b : List Byte) : (u.stallSet a b).mkt.uncached = u.mkt.uncached := by
    have hLoad := u.stallLoad_uncached a
    unfold State.stallSet
    dsimp only
    split
    · exact hLoad
    · split
      · exact hLoad
      · exact (congrArg Mkt.uncached (hStore (u.stallLoad a) a _)).trans hLoad
  exact (hSet _ _).trans (s.stallLoad_uncached a)

/-- What was offered and bid: the peers' part of it, and the own bids. -/
def Mkt.dealt (m : Mkt) : List PeerMarket × List OwnBid := (m.peers, m.bids)

theorem Mkt.peers_of_dealt {m n : Mkt} (h : m.dealt = n.dealt) : m.peers = n.peers := congrArg Prod.fst h

theorem Mkt.bids_of_dealt {m n : Mkt} (h : m.dealt = n.dealt) : m.bids = n.bids := congrArg Prod.snd h

theorem State.stallBytes_dealt (a i : Nat) (x : List Byte) : (s.stallBytes a i x).mkt.dealt = s.mkt.dealt :=
  (congrArg Mkt.dealt (s.stallBytes_uncached a i x) :)

/-! ## Draw entries cleared (R271) -/

theorem State.clearDraw_dealt (i : Nat) : (s.clearDraw i).mkt.dealt = s.mkt.dealt := by
  have hPost (u : State) (k : Kind) (p : List Byte) : (u.post k p).mkt = u.mkt :=
    (State.post_touch (.refl State.post_cells u) (Sub.refl _) k p).mkt (by decide)
  have hNoted (u : State) (a : Nat) : (u.noteDraw a i false false).mkt.dealt = u.mkt.dealt := u.stallBytes_dealt _ _ _
  unfold State.clearDraw
  dsimp only
  split
  · rfl
  · rw [hPost, State.event_mkt, hNoted]
    rfl

theorem State.clearDraws_dealt (a : Nat) : (s.clearDraws a).mkt.dealt = s.mkt.dealt := by
  have hAll (l : List Nat) : ∀ u : State, (l.foldl State.clearDraw u).mkt.dealt = u.mkt.dealt := by
    induction l with
    | nil => exact fun _ => rfl
    | cons i l ih => exact fun u => (ih _).trans (u.clearDraw_dealt i)
  exact hAll _ s

/-- What follows the two words of a cleared draw. -/
def clearedCells : List Nat := [R.MKT_EVENT, 0x140b] ++ State.stallBytes_cells

theorem drawReg_facts : ∀ i < 4, drawReg i ∉ clearedCells ∧ ∀ j < 4, drawReg j ≠ drawGReg i ∧ (drawReg j = drawReg i → j = i) := by
  decide

theorem State.clearDraw_touch_rest (i : Nat) (hValid : drawValid (s.draw i) = true) :
    Touch clearedCells ((s.setReg (drawReg i) 0).setReg (drawGReg i) 0) (s.clearDraw i) := by
  unfold State.clearDraw
  dsimp only
  rw [if_neg (by simp [hValid])]
  exact State.post_touch (State.event_touch (State.noteDraw_touch (Touch.update (.refl _ _) (h_mkt := .inr (by decide))) (Sub.of rfl) _ _ _ _)
    _ (.inl (by decide))) (Sub.of rfl) _ _

/-- A draw that is valid after one was cleared is another one, as it was. -/
theorem State.clearDraw_draw (i j : Nat) (hi : i < 4) (hj : j < 4) (h : drawValid ((s.clearDraw i).draw j) = true) :
    j ≠ i ∧ (s.clearDraw i).draw j = s.draw j := by
  by_cases hValid : drawValid (s.draw i) = true
  · obtain ⟨hOther, hSame⟩ := (drawReg_facts i hi).2 j hj
    have hRest : (s.clearDraw i).draw j = (s.setReg (drawReg i) 0).reg (drawReg j) := by
      rw [State.draw, (s.clearDraw_touch_rest i hValid).reg _ (drawReg_facts j hj).1 (by decide), State.reg_setReg_ne _ _ _ hOther]
    rw [hRest] at h ⊢
    by_cases hij : j = i
    · rw [hij, State.reg_setReg_same] at h
      exact absurd h (by decide)
    · exact ⟨hij, State.reg_setReg_ne _ _ _ fun hReg => hij (hSame hReg)⟩
  · have hSame : s.clearDraw i = s := if_pos (by simpa using hValid)
    rw [hSame] at h ⊢
    exact ⟨fun hij => hValid (hij ▸ h), rfl⟩

/-- A step that clears one draw: what stands valid after it is another draw, as it was. -/
def ClearsDraw (g : State → Nat → State) : Prop :=
  ∀ (s : State) (i j : Nat), i < 4 → j < 4 → drawValid ((g s i).draw j) = true → j ≠ i ∧ (g s i).draw j = s.draw j

theorem ClearsDraw.foldl_draw {g : State → Nat → State} (hg : ClearsDraw g) (l : List Nat) (j : Nat) (hj : j < 4) :
    ∀ s : State, (∀ i ∈ l, i < 4) → drawValid ((l.foldl g s).draw j) = true → j ∉ l ∧ (l.foldl g s).draw j = s.draw j := by
  induction l with
  | nil => exact fun s _ _ => ⟨List.not_mem_nil, rfl⟩
  | cons i l ih =>
    intro s hl h
    obtain ⟨hRest, hSame⟩ := ih (g s i) (fun k hk => hl k (List.mem_cons_of_mem _ hk)) h
    rw [List.foldl_cons, hSame] at h
    obtain ⟨hFirst, hSame'⟩ := hg s i j (hl i List.mem_cons_self) hj h
    exact ⟨fun hMem => (List.mem_cons.mp hMem).elim hFirst hRest, hSame.trans hSame'⟩

theorem State.mem_drawsOn (a j : Nat) : j ∈ s.drawsOn a ↔ j < 4 ∧ drawValid (s.draw j) = true ∧ drawAddr (s.draw j) = a := by
  simp [State.drawsOn]

/-- With all draws on a unit cleared none is left on it. -/
theorem ClearsDraw.foldl_drawsOn {g : State → Nat → State} (hg : ClearsDraw g) (a : Nat) : ((s.drawsOn a).foldl g s).drawsOn a = [] := by
  refine List.eq_nil_iff_forall_not_mem.mpr fun j hj => ?_
  obtain ⟨hSmall, hValid, hAddr⟩ := (State.mem_drawsOn _ a j).mp hj
  obtain ⟨hNot, hSame⟩ := hg.foldl_draw _ j hSmall s (fun i hi => ((s.mem_drawsOn a i).mp hi).1) hValid
  rw [hSame] at hValid hAddr
  exact hNot ((s.mem_drawsOn a j).mpr ⟨hSmall, hValid, hAddr⟩)

theorem State.clearDraws_drawsOn (a : Nat) : (s.clearDraws a).drawsOn a = [] :=
  ClearsDraw.foldl_drawsOn s State.clearDraw_draw a

/-- Draws are told by their words alone. -/
theorem Touch.drawsOn {W : List Nat} {s t : State} (h : Touch W s t) (hW : (∀ j < 4, drawReg j ∉ W) ∧ 0x1430 ∉ W) (a : Nat) :
    t.drawsOn a = s.drawsOn a := by
  refine List.filter_congr fun j hj => ?_
  rw [State.draw, h.reg _ (hW.1 j (List.mem_range.mp hj)) hW.2]
  rfl

/-! ## Offers and bids (R264, R277) -/

theorem State.dropInbid_dealt (a st : Nat) : (s.dropInbid a st).mkt.dealt = s.mkt.dealt := by
  have hFree (u : State) : u.refreshFree.mkt.dealt = u.mkt.dealt := by
    have hOffer (p q : Nat) : (u.setOffer p q).mkt.dealt = u.mkt.dealt := State.stallBytes_dealt _ _ _ _
    unfold State.refreshFree
    split
    · exact hOffer _ _
    · rfl
  unfold State.dropInbid
  split
  · dsimp only
    rw [hFree, State.stallBytes_dealt, State.stallBytes_dealt]
    rfl
  · rfl

theorem State.dropBid_shows (a st : Nat) : (s.dropBid a st).bidOn a = none ∧ (s.dropBid a st).mkt.peers = s.mkt.peers := by
  unfold State.dropBid
  split
  next hNone => exact ⟨hNone, rfl⟩
  next =>
    generalize hU : ({ s with mkt := { s.mkt with bids := s.mkt.bids.filter fun y => y.addr != a } } : State) = u
    have hDealt : ((u.stallBytes a 36 [byte st]).stallBytes a 39 [0, 0]).mkt.dealt = u.mkt.dealt :=
      (State.stallBytes_dealt _ _ _ _).trans (State.stallBytes_dealt _ _ _ _)
    rw [State.bidOn, Mkt.bids_of_dealt hDealt, Mkt.peers_of_dealt hDealt, ← hU]
    exact ⟨by simp [List.find?_eq_none], rfl⟩

theorem State.peerMarket_addr (a : Nat) : (s.peerMarket a).addr = a := by
  unfold State.peerMarket
  cases h : s.mkt.peers.find? fun p => p.addr == a with
  | none => rfl
  | some p => simpa using List.find?_some h

theorem State.peerMarket_setPeerMarket (p : PeerMarket) : (s.setPeerMarket p).peerMarket p.addr = p := by
  have hOthers : (s.mkt.peers.filter fun x => x.addr != p.addr).find? (fun x => x.addr == p.addr) = none := by
    simp [List.find?_eq_none]
  simp only [State.peerMarket, State.setPeerMarket, List.find?_append, hOthers]
  simp

theorem State.peerMarket_of_peers {s t : State} (h : t.mkt.peers = s.mkt.peers) (a : Nat) : t.peerMarket a = s.peerMarket a := by
  rw [State.peerMarket, State.peerMarket, h]

theorem State.bidOn_of_bids {s t : State} (h : t.mkt.bids = s.mkt.bids) (a : Nat) : t.bidOn a = s.bidOn a := by
  rw [State.bidOn, State.bidOn, h]

/-- A unit without an offer and a bid, without the own bid on it, and without draws on it. -/
structure State.NoPartOf (s : State) (a : Nat) : Prop where
  offer : (s.peerMarket a).offerAt = none
  bid : (s.peerMarket a).bidAt = none
  ownBid : s.bidOn a = none
  draws : s.drawsOn a = []

theorem State.peerOfferEnd_ends (a st : Nat) : ((s.peerOfferEnd a st).peerMarket a).offerAt = none ∧
    (s.peerOfferEnd a st).bidOn a = none ∧ (s.peerOfferEnd a st).drawsOn a = [] := by
  unfold State.peerOfferEnd
  dsimp only
  generalize (if s.offerStands a then (s.stallBytes a 14 [byte st]).stallBytes a 18 [0, 0] else s) = u
  generalize hV : u.setPeerMarket { u.peerMarket a with offerAt := none } = v
  have hOffer : (v.peerMarket a).offerAt = none := by
    have hSet := u.peerMarket_setPeerMarket { u.peerMarket a with offerAt := none }
    rw [← hV]
    rw [u.peerMarket_addr a] at hSet
    rw [hSet]
  obtain ⟨hBid, hPeers⟩ := v.dropBid_shows a st
  have hDealt := (v.dropBid a st).clearDraws_dealt a
  exact ⟨by rw [State.peerMarket_of_peers ((Mkt.peers_of_dealt hDealt).trans hPeers), hOffer],
    (State.bidOn_of_bids (Mkt.bids_of_dealt hDealt) a).trans hBid, State.clearDraws_drawsOn _ a⟩

theorem State.partEnds (a st : Nat) : ((s.peerOfferEnd a st).peerBidEnd a st).NoPartOf a := by
  obtain ⟨hOffer, hBid, hDraws⟩ := s.peerOfferEnd_ends a st
  generalize s.peerOfferEnd a st = u at *
  have hDealt := u.dropInbid_dealt a st
  have hEnd : (u.peerBidEnd a st).peerMarket a = { u.peerMarket a with bidAt := none } := by
    have hSet := (u.dropInbid a st).peerMarket_setPeerMarket { u.peerMarket a with bidAt := none }
    rw [u.peerMarket_addr a] at hSet
    exact hSet
  refine ⟨by rw [hEnd]; exact hOffer, by rw [hEnd], (State.bidOn_of_bids (Mkt.bids_of_dealt hDealt) a).trans hBid, ?_⟩
  rw [(State.peerBidEnd_touch (.refl State.peerBidEnd_cells u) (Sub.refl _) a st).drawsOn (by decide), hDraws]

theorem State.peerSafe_ends (a : Nat) : (s.peerSafe a).NoPartOf a := s.partEnds a stWithdrawn

/-- What is neither the market's nor a draw's word keeps it so. -/
theorem State.NoPartOf.of_touch {W : List Nat} {s t : State} {a : Nat} (hs : s.NoPartOf a) (h : Touch W s t)
    (hW : (∀ j < 4, drawReg j ∉ W) ∧ 0x140b ∉ W ∧ 0x1430 ∉ W) : t.NoPartOf a := by
  have hMkt := h.mkt hW.2.1
  refine ⟨?_, ?_, ?_, (h.drawsOn ⟨hW.1, hW.2.2⟩ a).trans hs.draws⟩
  · rw [State.peerMarket_of_peers (congrArg Mkt.peers hMkt), hs.offer]
  · rw [State.peerMarket_of_peers (congrArg Mkt.peers hMkt), hs.bid]
  · rw [State.bidOn_of_bids (congrArg Mkt.bids hMkt), hs.ownBid]

end

end Sys2Proof.Machine
end

section
/-!
SUPPORT. The loss of a peer (R246, R277), and what the frames of other units ask for (R235, R244, R245, R247); O30.
-/

namespace Sys2Proof.Machine

section
variable (s : State)

/-! ## The loss of a peer -/

/-- A missing peer shown, before its record. -/
def State.missShown (p : PeerTrack) : State :=
  ((s.setPeerTrack { p with missing := some s.now }).setMapBit R.TET_PEERS0 p.addr false).event F.TET_EVENT_PEER_MISS

/-- Its record, and its entry in the Stall table. -/
def State.missRecorded (p : PeerTrack) : State :=
  let s := (s.missShown p).post K.PEER_LOSS ([byte p.addr] ++ beBytes 4 p.lastSec)
  (s.setStallFlag p.addr 1 true).stallBytes p.addr 9 s.stallTime

def missEndCells : List Nat := State.peerOfferEnd_cells ++ State.peerBidEnd_cells ++ State.note_cells

theorem State.missShown_touch (p : PeerTrack) : Touch [R.TET_EVENT, 0x520, 0x521, 0x522, 0x523, 0x140a] s (s.missShown p) :=
  State.event_touch (State.setMapBit_touch (Touch.update (.refl _ s) (h_link := .inr (by decide))) _ _ _ (.inl (by decide))
    (.inl (by decide)) (.inl (by decide)) (.inl (by decide))) _ (.inl (by decide))

theorem State.missRecorded_touch (p : PeerTrack) : Touch State.stallBytes_cells (s.missShown p) (s.missRecorded p) :=
  State.stallBytes_touch (State.setStallFlag_touch (State.post_touch (.refl _ _) (Sub.of rfl) _ _) (Sub.of rfl) _ _ _) (Sub.refl _) _ _ _

theorem State.missEnd_touch (a st : Nat) : Touch missEndCells s (((s.peerOfferEnd a st).peerBidEnd a st).note 0x08 false false a) :=
  State.note_touch (State.peerBidEnd_touch (State.peerOfferEnd_touch (.refl _ s) (Sub.of rfl) a st) (Sub.of rfl) a st) (Sub.of rfl) _ _ _ _

theorem State.missShown_shows (p : PeerTrack) : (s.missShown p).mapBit R.TET_PEERS0 p.addr = false ∧
    (s.missShown p).flag F.TET_EVENT_PEER_MISS = true ∧ (s.missShown p).peerTrack p.addr = some { p with missing := some s.now } := by
  have hEvent (u : State) : Touch [R.TET_EVENT] u (u.event F.TET_EVENT_PEER_MISS) := State.event_touch (.refl _ u) _ (.inl (by decide))
  exact ⟨((hEvent _).mapBit _ _ (by decide)).trans (State.mapBit_setMapBit_same _ _ _ _), State.event_flag _ _ (by decide),
    s.setPeerTrack_peerTrack { p with missing := some s.now }⟩

/-- Its record stays through the rest. -/
theorem State.peerMissing_holds (p : PeerTrack) (hRoom : s.roomFor K.PEER_LOSS) :
    (s.peerMissing p).holds K.PEER_LOSS ([byte p.addr] ++ beBytes 4 p.lastSec) := by
  have hRoom' : (s.missShown p).roomFor K.PEER_LOSS := ((s.missShown_touch p).sameIntake (by decide)).roomFor hRoom
  have hPosted := State.post_holds _ K.PEER_LOSS ([byte p.addr] ++ beBytes 4 p.lastSec) hRoom'
  have hRecorded : QueuesStay ((s.missShown p).post K.PEER_LOSS ([byte p.addr] ++ beBytes 4 p.lastSec)) (s.missRecorded p) :=
    .after (State.stallBytes_queuesStay _ _ _ _) (State.setStallFlag_queuesStay _ _ _ _)
  have hEnd : QueuesGrow (s.missRecorded p) (s.peerMissing p) :=
    .after (State.note_queuesStay _ _ _ _ _).grow (.after (State.peerBidEnd_queuesStay _ _ _).grow (State.peerOfferEnd_queuesGrow _ _ _))
  exact hEnd.waiting.holds (hRecorded.waiting.holds hPosted)

theorem peerMissing_gives (addr : Nat) (p : PeerTrack) (hs : s.live = true) (hTrack : s.peerTrack addr = some p)
    (hMissing : p.missing = none) (hLast : p.last + secTicks 95 ≤ s.now) : Gives (.peerMissing addr) s fun t =>
      t.mapBit R.TET_PEERS0 p.addr = false ∧ t.flag F.TET_EVENT_PEER_MISS ∧
      t.peerTrack p.addr = some { p with missing := some s.now } ∧ (t.peerMarket p.addr).offerAt = none ∧
      (t.peerMarket p.addr).bidAt = none ∧ t.bidOn p.addr = none ∧ t.drawsOn p.addr = [] ∧
      (s.roomFor K.PEER_LOSS → t.holds K.PEER_LOSS ([byte p.addr] ++ beBytes 4 p.lastSec)) := by
  have hExec : exec (.peerMissing addr) s = .next (s.peerMissing p) := by
    have hUnfold : exec (.peerMissing addr) s = .next (s.whenLive fun s =>
      match s.peerTrack addr with
      | some p => if p.missing.isNone && decide (p.last + secTicks 95 ≤ s.now) then s.peerMissing p else s
      | none => s) := rfl
    rw [hUnfold, State.whenLive, if_pos hs]
    simp only [hTrack, hMissing, hLast, Option.isNone_none, decide_true, Bool.and_self, if_true]
  obtain ⟨hBit, hEvent, hShown⟩ := s.missShown_shows p
  have hAfter : Touch missEndCells (s.missShown p) (s.peerMissing p) :=
    ((s.missRecorded_touch p).mono (Sub.of rfl)).trans ((s.missRecorded p).missEnd_touch _ _)
  have hEnded := (s.missRecorded p).partEnds p.addr stLapsed
  have hNote (u : State) : Touch State.note_cells u (u.note 0x08 false false p.addr) := State.note_touch (.refl _ u) (Sub.refl _) _ _ _ _
  obtain ⟨hOffer, hBid, hOwnBid, hDraws⟩ := hEnded.of_touch (hNote _) (by decide)
  exact ⟨s.peerMissing p, hExec, (hAfter.mapBit _ _ (by decide)).trans hBit, (hAfter.flag _ (by decide)).trans hEvent,
    (State.peerTrack_of_link (congrArg Link.peers (hAfter.link (by decide))) p.addr).trans hShown, hOffer, hBid, hOwnBid, hDraws,
    s.peerMissing_holds p⟩

/-! ## A census request (R247) -/

theorem State.ownAddr_eq_none : s.ownAddr = none ↔ s.flag F.TET_ADDR_HELD = false := by
  unfold State.ownAddr
  cases s.flag F.TET_ADDR_HELD <;> simp

/-- A unit without an address gets none by choosing a candidate. -/
theorem State.chooseCand_none (how : Nat) (h : s.ownAddr = none) : (s.chooseCand how).ownAddr = none := by
  have hClaimed (u : State) (b : Nat) : Touch [0x140a] u (u.retarget.postClaim b) :=
    State.postClaim_touch (State.retarget_touch (.refl _ u) (Sub.of rfl)) (Sub.of rfl) b
  have hFull (u : State) : Touch (0x140a :: State.post_cells) u (u.retarget.post K.ADDR_FULL []) :=
    State.post_touch (State.retarget_touch (.refl _ u) (Sub.of rfl)) (Sub.of rfl) _ _
  rw [State.ownAddr_eq_none] at h ⊢
  unfold State.chooseCand
  split
  · rw [(hClaimed _ _).flag _ (by decide), State.flag_setField_ne _ _ _ _ (by decide)]
    exact h
  · rw [(hFull _).flag _ (by decide)]
    exact h

theorem State.judged_none (f : Frame) (x : Carrier) (h : s.ownAddr = none) : (s.judged f x).ownAddr = none := by
  have hSame : (s.acceptFrame f x).ownAddr = none := ((s.acceptFrame_self_touch f x).ownAddr (by decide)).trans h
  have hYield : ((s.acceptFrame f x).yieldAddr f.addr).ownAddr = none := by
    unfold State.yieldAddr
    dsimp only
    rw [if_neg (by simp [hSame])]
    exact State.chooseCand_none _ 2 hSame
  rw [State.judged, State.addrConflict]
  split
  · split
    · exact hYield
    · exact hSame
  · rw [((s.acceptFrame f x).fixedConflict_self_touch f).ownAddr (by decide), hSame]

/-- Whether a census was answered within the last 10 s. -/
def State.censusRecent : Bool :=
  match s.link.censusAnsAt with
  | some t => decide (s.now < t + secTicks 10)
  | none => false

theorem State.censusRecent_iff : s.censusRecent = true ↔ ∃ d ∈ s.link.censusAnsAt, s.now < d + secTicks 10 := by
  unfold State.censusRecent
  cases s.link.censusAnsAt <;> simp

theorem State.censusNoted_eq : s.censusNoted = match s.ownAddr with
    | some a => if s.censusRecent then s
      else { s with link := { s.link with censusAnsAt := some s.now, censusDue := s.timer (msTicks (20 * a)) } }
    | none => s := rfl

theorem censusRequestRx_gives (addr : Nat) (x : Carrier) (hr : s.receives = true) : Gives (.censusRequestRx addr x) s fun t =>
      ((∀ d ∈ s.link.censusAnsAt, d + secTicks 10 ≤ s.now) → ∀ a ∈ s.ownAddr, (addr ≠ a ∧ s.link.cand ≠ some addr) ∨
        s.autoAddr = false → t.link.censusAnsAt = some s.now ∧ t.link.censusDue = some (s.now + msTicks (20 * a))) ∧
      (s.ownAddr = none ∨ (∃ d ∈ s.link.censusAnsAt, s.now < d + secTicks 10) → t.link.censusAnsAt = s.link.censusAnsAt
        ∧ t.link.censusDue = s.link.censusDue) := by
  refine Gives.of_judged (exec_censusRequestRx s x addr) hr rfl ?_
  have hUnclaimed := s.judged_unclaimed ⟨6, addr, 2, []⟩ x
  have hNow : (s.judged ⟨6, addr, 2, []⟩ x).now = s.now := (s.judged_touch ⟨6, addr, 2, []⟩ x).now (by decide)
  have hOwn := s.judged_ownAddr ⟨6, addr, 2, []⟩ x
  have hNone := s.judged_none ⟨6, addr, 2, []⟩ x
  generalize s.judged ⟨6, addr, 2, []⟩ x = u at *
  have hAns : u.link.censusAnsAt = s.link.censusAnsAt := (congrArg Link.censusAnsAt hUnclaimed :)
  have hDue : u.link.censusDue = s.link.censusDue := (congrArg Link.censusDue hUnclaimed :)
  have hRecent : u.censusRecent = s.censusRecent := by rw [State.censusRecent, State.censusRecent, hAns, hNow]
  have hRest := (u.censusNoted.rxEnter_linkQueues ⟨6, addr, 2, []⟩).rest
  have hAns' : (u.censusNoted.rxEnter ⟨6, addr, 2, []⟩).link.censusAnsAt = u.censusNoted.link.censusAnsAt :=
    (congrArg Link.censusAnsAt hRest :)
  have hDue' : (u.censusNoted.rxEnter ⟨6, addr, 2, []⟩).link.censusDue = u.censusNoted.link.censusDue := (congrArg Link.censusDue hRest :)
  rw [hAns', hDue']
  refine ⟨fun hLast a ha hKeeps => ?_, fun hQuiet => ?_⟩
  · have hNotRecent : u.censusRecent = false := by
      rw [hRecent, Bool.eq_false_iff, ne_eq, s.censusRecent_iff]
      rintro ⟨d, hd, hSince⟩
      exact absurd (hLast d hd) (Nat.not_le.mpr hSince)
    have hOwn' : u.ownAddr = some a := by
      rw [hOwn (hKeeps.imp_left fun ⟨hAddr, hCand⟩ => ⟨by rw [ha]; simpa using hAddr.symm, hCand⟩)]
      exact ha
    rw [State.censusNoted_eq, hOwn', hNotRecent, ← hNow]
    exact ⟨rfl, rfl⟩
  · have hSame : u.censusNoted = u := by
      rw [State.censusNoted_eq]
      split
      · next a hAddr =>
        refine if_pos (hRecent.trans (s.censusRecent_iff.mpr (hQuiet.resolve_left fun h => ?_)))
        rw [hNone h] at hAddr
        cases hAddr
      · rfl
    rw [hSame]
    exact ⟨hAns, hDue⟩

/-! ## A FAULT frame of a unit in SAFE (R244, R271, R277) -/

/-- A FAULT frame with the code of SAFE. -/
def tellsSafe (f : Frame) : Prop := f.cls = 6 ∧ f.sub = 3 ∧ natAt f.data 0 1 = 0x30

variable (f : Frame)

theorem hitCleared_clearsDraw : ClearsDraw fun s i => (s.clearDraw i).event F.MKT_EVENT_WD_RX := by
  intro s i j hi hj h
  have hEvent : Touch [R.MKT_EVENT] (s.clearDraw i) ((s.clearDraw i).event F.MKT_EVENT_WD_RX) := State.event_touch (.refl _ _) _ (.inl (by decide))
  have hSame : ((s.clearDraw i).event F.MKT_EVENT_WD_RX).draw j = (s.clearDraw i).draw j :=
    hEvent.reg _ ((by decide : ∀ j < 4, drawReg j ∉ [R.MKT_EVENT]) j hj) (by decide)
  dsimp only at h ⊢
  rw [hSame] at h ⊢
  exact s.clearDraw_draw i j hi hj h

/-- The market filter leaves no draw on a unit in SAFE. -/
theorem State.marketFilter_safe (hSafe : tellsSafe f) : (s.marketFilter f).drawsOn f.addr = [] := by
  obtain ⟨hCls, hSub, hCode⟩ := hSafe
  have hHits : s.filterHits f = s.drawsOn f.addr := by
    unfold State.filterHits
    simp [hCls, hSub, hCode]
  have hLower (u : State) : u.filterLower f = u := if_neg (by simp [hCls])
  rw [State.marketFilter, hHits, hLower]
  exact ClearsDraw.foldl_drawsOn s hitCleared_clearsDraw f.addr

theorem State.firmwareFrame_safe (hSafe : tellsSafe f) : s.firmwareFrame f = s.peerSafe f.addr := by
  obtain ⟨hCls, hSub, hCode⟩ := hSafe
  unfold State.firmwareFrame
  simp only [hCls, hSub, hCode, if_true]

/-- Once the firmware has read it the unit has no part in the market. -/
theorem State.rxEnter_safe (hSafe : tellsSafe f) (hRoom : s.link.rxq.length < 32) (hReads : (s.rxEnter f).reads = true) :
    (s.rxEnter f).NoPartOf f.addr := by
  obtain ⟨w, -, -, hEq⟩ := s.rxEnter_read f hRoom hReads
  rw [hEq, w.firmwareFrame_safe f hSafe]
  exact w.peerSafe_ends f.addr

theorem State.rxEnter_safe_drawsOn (hSafe : tellsSafe f) (h : s.reads = false ∨ (s.rxEnter f).reads = true) :
    (s.rxEnter f).drawsOn f.addr = [] := by
  have hFilter := s.marketFilter_safe f hSafe
  by_cases hRoom : s.link.rxq.length < 32
  · rcases h with hUnread | hReads
    · have hQueued : Touch [0x140a] (s.marketFilter f) (s.rxQueued f) := Touch.update (.refl _ _) (h_link := .inr (by decide))
      rw [s.rxEnter_unread f hRoom hUnread, hQueued.drawsOn (by decide), hFilter]
    · exact (s.rxEnter_safe f hSafe hRoom hReads).draws
  · have hOverflown : Touch ([R.TET_ERRCNT5, R.TET_EVENT] ++ State.tally_cells) (s.marketFilter f) (s.rxOverflown f) :=
      State.tally_touch (State.event_touch (State.bump_touch (.refl _ _) _ _ (.inl (by decide))) _ (.inl (by decide))) (Sub.of rfl) _
    rw [s.rxEnter_full f (Nat.le_of_not_lt hRoom), hOverflown.drawsOn (by decide), hFilter]

theorem faultFrameRx_gives (addr : Nat) (data : List Byte) (x : Carrier) (hr : s.receives = true) (hLength : data.length = 2)
    (hCode : natAt data 0 1 = 0x30) : Gives (.faultFrameRx addr data x) s fun t =>
      (s.reads = false ∨ t.reads → t.drawsOn addr = []) ∧
      (s.link.rxq.length < 32 → s.reads → t.reads → (t.peerMarket addr).offerAt = none ∧ (t.peerMarket addr).bidAt =
        none ∧ t.bidOn addr = none) := by
  have hFits : frameFits ⟨6, addr, 3, data⟩ = true := by simp [frameFits, hLength]
  have hSafe : tellsSafe ⟨6, addr, 3, data⟩ := ⟨rfl, rfl, hCode⟩
  refine Gives.of_judged (effect := fun u => u.rxEnter ⟨6, addr, 3, data⟩) rfl hr hFits ?_
  have hReads := s.judged_reads ⟨6, addr, 3, data⟩ x
  have hRxq := s.judged_rxq ⟨6, addr, 3, data⟩ x
  generalize s.judged ⟨6, addr, 3, data⟩ x = u at *
  rw [← hReads, ← hRxq]
  refine ⟨u.rxEnter_safe_drawsOn ⟨6, addr, 3, data⟩ hSafe, fun hRoom _ hRead => ?_⟩
  obtain ⟨hOffer, hBid, hOwnBid, -⟩ := u.rxEnter_safe ⟨6, addr, 3, data⟩ hSafe hRoom hRead
  exact ⟨hOffer, hBid, hOwnBid⟩

/-! ## A LINK_TEST and its echo (R235, R245) -/

/-- A unit on the link that may send. -/
structure State.Sends (s : State) (a : Nat) : Prop where
  own : s.ownAddr = some a
  mode : s.framesMode = true
  on : s.link.txOn = true

theorem State.Sends.postTx_room {s : State} {a : Nat} (h : s.Sends a) (cls sub : Nat) (data : List Byte) (hRoom : s.txRoom = true) :
    (s.postTx cls sub data).link.txq = s.link.txq ++ [⟨⟨cls, a, sub, data⟩, 0, s.now⟩] := by
  simp only [State.postTx, h.own, h.mode, h.on, hRoom, Bool.not_true, Bool.or_self, Bool.false_eq_true, if_true, if_false]

theorem State.Sends.postTx_full {s : State} {a : Nat} (h : s.Sends a) (cls sub : Nat) (data : List Byte) (hFull : s.txRoom = false) :
    s.postTx cls sub data = s.event F.TET_EVENT_TX_FULL := by
  simp only [State.postTx, h.own, h.mode, h.on, hFull, Bool.not_true, Bool.or_self, Bool.false_eq_true, if_false]

theorem State.Sends.of_readsOn {s t : State} {a : Nat} (h : s.Sends a) (ht : ReadsOn s t) : t.Sends a :=
  ⟨(ht.touch.ownAddr (by decide)).trans h.own, (congrArg (! ·) (ht.touch.flag F.TET_STATUS_LEVEL (by decide))).trans h.mode,
    (congrArg Link.txOn ht.link.rest :).trans h.on⟩

/-- A frame that leaves the own address alone, or meets a fixed one, leaves the unit sending and its queue. -/
theorem State.Sends.judged {s : State} {a : Nat} (h : s.Sends a) (f : Frame) (x : Carrier)
    (hKeeps : (s.ownAddr ≠ some f.addr ∧ s.link.cand ≠ some f.addr) ∨ s.autoAddr = false) :
    (s.judged f x).Sends a ∧ (s.judged f x).link.txq = s.link.txq := by
  have hTouch := s.acceptFrame_self_touch f x
  have hMode := s.acceptFrame_framesMode f x
  have hOn : (s.judged f x).link.txOn = true := (congrArg Link.txOn (s.judged_unclaimed f x) :).trans h.on
  have hTxq : (s.acceptFrame f x).link.txq = s.link.txq := by rw [s.acceptFrame_link f x]
  have hStatus (u : State) (g : Frame) : (u.postStatus g).link.txq = u.link.txq := by
    unfold State.postStatus
    split <;> rfl
  have hFault (u : State) (code detail : Nat) : (u.postFault code detail).link.txq = u.link.txq := by
    unfold State.postFault
    split
    · exact hStatus _ _
    · rfl
  have hConflict (u : State) : (u.fixedConflict f).framesMode = u.framesMode ∧ (u.fixedConflict f).link.txq = u.link.txq := by
    refine ⟨congrArg (! ·) (u.fixedConflict_flag f F.TET_STATUS_LEVEL (.inl rfl) (by decide)), ?_⟩
    unfold State.fixedConflict
    split
    · rfl
    · rw [hFault, State.post_link]
      rfl
  have hRest : (s.judged f x).framesMode = s.framesMode ∧ (s.judged f x).link.txq = s.link.txq := by
    rcases hKeeps with ⟨hOwn, hCand⟩ | hFixed
    · have hSame : (s.acceptFrame f x).ownAddr = s.ownAddr := hTouch.ownAddr (by decide)
      rw [State.judged, State.addrConflict_other _ f (hSame ▸ hOwn) ((s.acceptFrame_cand f x) ▸ hCand)]
      exact ⟨hMode, hTxq⟩
    · have hFixed' : (s.acceptFrame f x).autoAddr = false := (hTouch.autoAddr (by decide)).trans hFixed
      obtain ⟨hModeKept, hTxqKept⟩ := hConflict (s.acceptFrame f x)
      rw [State.judged, State.addrConflict, if_neg (by simp [hFixed'])]
      exact ⟨hModeKept.trans hMode, hTxqKept.trans hTxq⟩
  exact ⟨⟨(s.judged_ownAddr f x hKeeps).trans h.own, hRest.1.trans h.mode, hOn⟩, hRest.2⟩

/-- Frames of class 7 are none of the market's. -/
theorem State.marketFilter_test (hCls : f.cls = 7) : s.marketFilter f = s := by
  have hHits : s.filterHits f = [] := by
    unfold State.filterHits
    simp [hCls]
  have hLower (u : State) : u.filterLower f = u := if_neg (by simp [hCls])
  rw [State.marketFilter, hHits, hLower]
  rfl

/-- A test frame that finds nothing waiting is the first to be read. -/
theorem State.rxEnter_first (hCls : f.cls = 7) (hEmpty : s.link.rxq = []) :
    s.rxEnter f = ({ s with link := { s.link with rxq := [f] } } : State).drainStep f := by
  have hQueued : s.rxQueued f = { s with link := { s.link with rxq := [f] } } := by
    rw [State.rxQueued, s.marketFilter_test f hCls, hEmpty]
    rfl
  rw [s.rxEnter_queued f (by simp [hEmpty]), hQueued, State.drainRx_eq]
  rfl

/-- The test frame read with nothing else waiting. -/
theorem State.rxEnter_first_read (hCls : f.cls = 7) (hEmpty : s.link.rxq = []) (hReads : s.reads = true) :
    s.rxEnter f = ({ s with link := { s.link with rxq := [] } } : State).firmwareFrame f := by
  have hReads' : ({ s with link := { s.link with rxq := [f] } } : State).reads = true := hReads
  rw [s.rxEnter_first f hCls hEmpty, State.drainStep, if_pos hReads']
  rfl

theorem linkTestRx_gives (addr : Nat) (data : List Byte) (x : Carrier) (a : Nat) (hr : s.receives = true) (hLength : data.length ≤ 8)
    (hOwn : s.ownAddr = some a) (hAddr : (addr ≠ a ∧ s.link.cand ≠ some addr) ∨ s.autoAddr = false)
    (hRoom : s.link.rxq.length < 32) (hReads : s.reads = true) (hOn : s.link.txOn = true) :
    Gives (.linkTestRx addr data x) s fun t =>
      (t.reads → t.txRoom → (⟨⟨7, a, 1, data⟩, 0, s.now⟩ : TxFrame) ∈ t.link.txq) ∧
      (t.reads → 16 ≤ s.link.txq.length → t.flag F.TET_EVENT_TX_FULL) ∧
      (s.link.rxq = [] → s.txRoom → t.link.txq = s.link.txq ++ [⟨⟨7, a, 1, data⟩, 0, s.now⟩]) := by
  have hFits : frameFits ⟨7, addr, 0, data⟩ = true := by simp [frameFits, hLength]
  have hSends : s.Sends a := ⟨hOwn, s.framesMode_of_receives hr, hOn⟩
  refine Gives.of_judged (effect := fun u => u.rxEnter ⟨7, addr, 0, data⟩) rfl hr hFits ?_
  obtain ⟨hSends', hTxq⟩ := hSends.judged ⟨7, addr, 0, data⟩ x
    (hAddr.imp_left fun ⟨hNe, hCand⟩ => ⟨by rw [hOwn]; simpa using hNe.symm, hCand⟩)
  have hRxq := s.judged_rxq ⟨7, addr, 0, data⟩ x
  have hReads' := (s.judged_reads ⟨7, addr, 0, data⟩ x).trans hReads
  have hNow : (s.judged ⟨7, addr, 0, data⟩ x).now = s.now := (s.judged_touch ⟨7, addr, 0, data⟩ x).now (by decide)
  generalize s.judged ⟨7, addr, 0, data⟩ x = u at *
  rw [← hRxq] at hRoom ⊢
  have hAnswer (w : State) : w.firmwareFrame ⟨7, addr, 0, data⟩ = w.postTx 7 1 data := rfl
  refine ⟨fun hRead hTxRoom => ?_, fun hRead hFull => ?_, fun hEmpty hTxRoom => ?_⟩
  · obtain ⟨w, hBefore, -, hEq⟩ := u.rxEnter_read _ hRoom hRead
    have hNow' : w.now = s.now := (hBefore.touch.now (by decide)).trans hNow
    rw [hEq, hAnswer] at hTxRoom ⊢
    cases hW : w.txRoom with
    | true =>
      rw [(hSends'.of_readsOn hBefore).postTx_room 7 1 data hW, hNow']
      simp
    | false =>
      rw [(hSends'.of_readsOn hBefore).postTx_full 7 1 data hW] at hTxRoom
      exact absurd (hW.symm.trans hTxRoom) (by decide)
  · obtain ⟨w, hBefore, -, hEq⟩ := u.rxEnter_read _ hRoom hRead
    have hW : w.txRoom = false := by
      have hLonger := hBefore.link.sends.length_le
      rw [hTxq] at hLonger
      simp only [State.txRoom, decide_eq_false_iff_not]
      omega
    rw [hEq, hAnswer, (hSends'.of_readsOn hBefore).postTx_full 7 1 data hW]
    exact State.event_flag _ _ (by decide)
  · have hEmptied := (hSends'.of_readsOn (u.withRxq_readsOn [])).postTx_room 7 1 data
      (by rw [← hTxRoom, State.txRoom, State.txRoom, ← hTxq])
    rw [u.rxEnter_first_read ⟨7, addr, 0, data⟩ rfl hEmpty hReads', hAnswer, hEmptied, ← hTxq, ← hNow]

theorem State.acceptFrame_bids (x : Carrier) : (s.acceptFrame f x).mkt.bids = s.mkt.bids := by
  have hTail := (s.acceptFrame_tail_touch f x).mkt (by decide)
  have hRec : Touch (R.TET_RXCNT :: State.setRec_cells ++ State.acceptCarrier_cells) s
      (((s.bump R.TET_RXCNT 1).setRec (s.regN R.TET_REC - 1)).acceptCarrier x) :=
    State.acceptCarrier_touch (State.setRec_touch (State.bump_touch (.refl _ s) _ _ (.inl (by decide))) (Sub.of rfl) _) (Sub.of rfl) x
  have hCounted : (s.frameCounted f x).mkt.dealt = s.mkt.dealt := by
    have hFlag (u : State) : (u.setStallFlag f.addr 0 true).mkt.dealt = u.mkt.dealt := u.stallBytes_dealt _ _ _
    have hCount (u : State) : (u.stallCount f.addr 42 4).mkt.dealt = u.mkt.dealt := u.stallBytes_dealt _ _ _
    rw [State.frameCounted, hFlag, hCount, hRec.mkt (by decide)]
  rw [hTail]
  exact Mkt.bids_of_dealt hCounted

theorem linkEchoRx_gives (addr : Nat) (data : List Byte) (x : Carrier) (hr : s.receives = true) (hLength : data.length ≤ 8)
    (hEmpty : s.link.rxq = []) (hOwn : s.ownAddr ≠ some addr) (hCand : s.link.cand ≠ some addr) :
    Gives (.linkEchoRx addr data x) s fun t => t.link.txq = s.link.txq ∧ t.mkt.bids = s.mkt.bids := by
  have hFits : frameFits ⟨7, addr, 1, data⟩ = true := by simp [frameFits, hLength]
  have hTouch := s.acceptFrame_self_touch ⟨7, addr, 1, data⟩ x
  have hJudged : s.judged ⟨7, addr, 1, data⟩ x = s.acceptFrame ⟨7, addr, 1, data⟩ x :=
    State.addrConflict_other _ _ (by rw [hTouch.ownAddr (by decide)]; exact hOwn) (by rw [s.acceptFrame_cand]; exact hCand)
  refine Gives.of_judged (effect := fun u => u.rxEnter ⟨7, addr, 1, data⟩) rfl hr hFits ?_
  have hRxq := (s.judged_rxq ⟨7, addr, 1, data⟩ x).trans hEmpty
  have hTxq : (s.judged ⟨7, addr, 1, data⟩ x).link.txq = s.link.txq := by rw [hJudged, s.acceptFrame_link]
  have hBids : (s.judged ⟨7, addr, 1, data⟩ x).mkt.bids = s.mkt.bids := by rw [hJudged, s.acceptFrame_bids]
  generalize s.judged ⟨7, addr, 1, data⟩ x = u at *
  have hIgnored (w : State) : w.firmwareFrame ⟨7, addr, 1, data⟩ = w := rfl
  rw [u.rxEnter_first ⟨7, addr, 1, data⟩ rfl hRxq, State.drainStep, hIgnored, ← hTxq, ← hBids]
  split <;> exact ⟨rfl, rfl⟩

/-! ## The commands that receive a frame -/

theorem receives_of_command (c : Instr) (x : Carrier) (uid : BitVec 64) (hr : s.receives = true)
    (hc : (c = .heartbeatRx f.addr f.data x ∧ f = ⟨6, f.addr, 1, f.data⟩) ∨ (c = .censusRequestRx f.addr x ∧ f = ⟨6, f.addr, 2,
      []⟩) ∨ (c = .claimRx f.addr uid x ∧ f = ⟨6, f.addr, 2, beBytes 8 uid.toNat⟩) ∨ (c = .faultFrameRx f.addr f.data x ∧
      f = ⟨6, f.addr, 3, f.data⟩) ∨ (c = .linkTestRx f.addr f.data x ∧ f = ⟨7, f.addr, 0, f.data⟩) ∨ (c = .linkEchoRx
      f.addr f.data x ∧ f = ⟨7, f.addr, 1, f.data⟩) ∨ (c = .marketFrameRx f x ∧ 2 ≤ f.cls ∧ f.cls ≤ 5)) : Receives s f c x := by
  rcases hc with ⟨rfl, hf⟩ | ⟨rfl, hf⟩ | ⟨rfl, hf⟩ | ⟨rfl, hf⟩ | ⟨rfl, hf⟩ | ⟨rfl, hf⟩ | ⟨rfl, hCls⟩
  · generalize f.addr = a, f.data = d at *
    subst hf
    exact .of_receive (exec_heartbeatRx s x a d) hr fun u => u.beatHeard_keepsReception a d
  · generalize f.addr = a at *
    subst hf
    exact .of_receive (exec_censusRequestRx s x a) hr State.censusNoted_keepsReception
  · generalize f.addr = a at *
    subst hf
    exact receives_claimRx s x a uid hr
  · generalize f.addr = a, f.data = d at *
    subst hf
    exact .of_receive (effect := id) rfl hr .refl
  · generalize f.addr = a, f.data = d at *
    subst hf
    exact .of_receive (effect := id) rfl hr .refl
  · generalize f.addr = a, f.data = d at *
    subst hf
    exact .of_receive (effect := id) rfl hr .refl
  · have hExec : exec (.marketFrameRx f x) s = .next (s.when (decide (2 ≤ f.cls ∧ f.cls ≤ 5)) fun s => s.receive f x fun s => s.rxEnter f) := rfl
    refine .of_receive (effect := id) ?_ hr .refl
    rw [hExec, State.when, if_pos (by simpa using hCls)]
    rfl

end

/-- Settles O30. Whatever stands between counting a frame and queueing it leaves the reception alone (`KeepsReception`), and a firmware
that still reads in the end has read the frame last of all (`State.rxEnter_read`). -/
theorem heartbeatsAndPeers : Obligations.HeartbeatsAndPeers := by
  unfold Obligations.HeartbeatsAndPeers
  exact ⟨fun s c f x uid hr _ hc => (receives_of_command s f c x uid hr hc).gives,
    fun s a hs hDue hOwn => heartbeatDue_gives s a hs hDue hOwn,
    fun s addr data x hr _ hLength => heartbeatRx_gives s addr data x hr hLength,
    fun s addr p hs hTrack hMissing hLast => peerMissing_gives s addr p hs hTrack hMissing hLast,
    fun s addr x hr _ => censusRequestRx_gives s addr x hr,
    fun s hs hDue => censusAnswerDue_gives s hs hDue,
    fun s addr data x hr _ hLength hCode => faultFrameRx_gives s addr data x hr hLength hCode,
    fun s addr data x a hr _ hLength hOwn hAddr hRoom hReads hOn => linkTestRx_gives s addr data x a hr hLength hOwn hAddr hRoom hReads hOn,
    fun s addr data x hr _ hLength hEmpty hOwn hCand => linkEchoRx_gives s addr data x hr hLength hEmpty hOwn hCand⟩

end Sys2Proof.Machine
end
